-- ==== Sys2Proof/Word.lean ====
section
/-! DEFINITION. The word types of the device: a register word, a byte, a beat of 256 bits, an operation word. -/

namespace Sys2Proof

/-- One 32-bit register word (R593), a binary32 lane, a parser instruction (R56). -/
abbrev Word := BitVec 32

/-- One byte; multi-byte fields stand least significant byte first (R12). -/
abbrev Byte := BitVec 8

/-- The 256 data bits of a beat (R105). -/
abbrev Beat := BitVec 256

/-- One tile operation word (R176). -/
abbrev OpWord := BitVec 64

end Sys2Proof
end

