-- ==== Sys2Proof/Image.lean ====
section
/-! DEFINITION. The contents of a Rosum image (R276 to R289, R304, R337, R338, R384 to R386, R393) and of a
Sheepdog pattern pack (R523, R524) as structured data. What the spec lays out in bytes is read from them
(Machine/Layout.lean); of what it gives by its fields alone (CONFIG, PARSER, STEER, REFLEX, LARDER, where the items of TEMPLATE and the
stages of CERT begin) the fields arrive by name, as ImageParts. -/

namespace Sys2Proof

/-- The one source an input queue of a context is bound to (R108). A bus binding names the writing tile's
logical column (row bus) or row (column bus). -/
inductive QSrc where
  | none | north | east | south | west
  | rowBus (writer : Nat) | colBus (writer : Nat)
  | loop (oq : Nat) (ctx : Nat)
  | entry
deriving DecidableEq, Repr

/-- One destination of an output queue of a context (R109). -/
inductive QDst where
  | north | east | south | west | rowBus | colBus
  | loop (iq : Nat) (ctx : Nat)
  | exit
deriving DecidableEq, Repr

/-- What the configuration memory holds for one fold context (R102, R108, R109, R113, R193). -/
structure CtxCfg where
  ops : List OpWord := []
  inBind : List QSrc := []
  outBind : List (List QDst) := []
  /-- first tile-store beats of the table-register sources TR0 and TR1 (R193) -/
  trSrc : List Nat := []
deriving DecidableEq, Repr

/-- What the configuration memory of one tile holds (R102, R118, R326): contexts, loop-gate limits, the three
lists of the update lane and the delivery map of its update buffers (R320). -/
structure TileCfg where
  ctxs : List CtxCfg := []
  gates : List Nat := []
  pairList : List OpWord := []
  flushList : List OpWord := []
  optList : List OpWord := []
  /-- per delivered beat: (capture beat index, 16 for the label beat; buffer; beat of the buffer) (R320) -/
  delivery : List (Nat × Nat × Nat) := []
  bytes : Nat := 0
deriving DecidableEq, Repr

/-- One region of the REGION list (R282, R283): kind 0 WEIGHT, 1 PARAM, 2 WINDOW, 3 SCRATCH. -/
structure Region where
  engine : Nat
  tile : Nat
  kind : Nat
  ctxMask : Nat
  first : Nat
  beats : Nat
deriving DecidableEq, Repr

/-- One tile of an engine in the image: its logical address (R139), configuration and the beats the TILESTORE
section gives it. -/
structure TileImg where
  addr : Nat
  cfg : TileCfg
  store : List (Nat × Beat) := []
deriving DecidableEq, Repr

/-- One express bus calendar (R111): positions naming the writing tile's column or row, 31 for none. -/
structure Calendar where
  engine : Nat
  isRow : Bool
  index : Nat
  positions : List Nat
deriving DecidableEq, Repr

/-- The ENGINE[e] entry of the manifest (R281) and the tiles of its CONFIG and TILESTORE sections. -/
structure EngineImg where
  engine : Nat
  quarters : Nat
  fold : Nat
  ii : Nat
  stages : Nat
  slots : Nat
  tiles : List TileImg := []
  configSize : Nat := 0
  storeSize : Nat := 0
deriving DecidableEq, Repr

/-- One parser program (R56): instructions and 16 compare constants (value, mask). -/
structure Program where
  port : Nat
  number : Nat
  instrs : List Word
  consts : List (BitVec 64 × BitVec 64) := []
deriving DecidableEq, Repr

/-- One steering entry (R53). `source` is the source code of R67; none is a wildcard; VLAN some 0x1000 is untagged. -/
structure Steer where
  index : Nat
  source : Nat
  vlan : Option Nat := none
  ip : Option Nat := none
  udp : Option Nat := none
  channel : Nat := 0
  program : Nat
  tb : Nat := 0
  /-- the FCS policy: true = WAIT, false = SPECULATE (R64, R65) -/
  wait : Bool := false
deriving DecidableEq, Repr

/-- One FEED record of the manifest (R282). -/
structure Feed where
  steer : Nat
  program : Nat
  table : Nat
  g : Nat
  lastRead : List Nat
deriving DecidableEq, Repr

/-- One patch of a reflex LAUNCH (R72): record offset, length and template offset. -/
structure ReflexPatch where
  off : Nat
  len : Nat
  toff : Nat
deriving DecidableEq, Repr

/-- One reflex rule (R72). -/
structure Reflex where
  sel : Nat
  width : Nat
  signed : Bool
  op : Nat
  value : BitVec 64
  mask : BitVec 64
  chain : Bool
  action : Nat
  pin : Nat := 0
  pulse : Nat := 0
  template : Nat := 0
  patches : List ReflexPatch := []
  stop : Bool := false
deriving DecidableEq, Repr

/-- One TABLE record (R282) with its default row (R278), the row as little-endian bytes. -/
structure TableImg where
  table : Nat
  cls : Nat
  wback : Nat
  rowUnits : Nat
  maxKeys : Nat
  churn : Nat
  default : List Byte := []
deriving DecidableEq, Repr

/-- A STATE table (R282). -/
def TableImg.state (t : TableImg) : Bool := t.cls == 1

/-- A table that writes back (R282). -/
def TableImg.writeback (t : TableImg) : Bool := t.wback == 1

/-- One frame template (R384): `zero` gathers the bits the head holds as zero. -/
structure Template where
  number : Nat
  kind : Nat
  port : Nat
  alt : Nat := 255
  ipcs : Bool := false
  udpz : Bool := false
  tstamp : Bool := false
  ipoff : Nat := 0
  desc : Nat := 0
  zero : Nat := 0
  bytes : List Byte
deriving DecidableEq, Repr

/-- One patch list (R385): descriptor, the head's zero bytes and patch words. -/
structure PatchList where
  number : Nat
  desc : Nat
  zero : Nat := 0
  patches : List Word
deriving DecidableEq, Repr

/-- One launch descriptor (R386); `zero` gathers TB[7], bytes 9 to 11 and bytes 20 to 23. -/
structure LaunchDesc where
  number : Nat
  mode : Nat
  base : Nat
  tb : Nat
  queue : Nat
  poff : Nat := 0
  time : Nat := 0
  offset : Int := 0
  win : Nat := 0
  zero : Nat := 0
deriving DecidableEq, Repr

/-- One LOOP record (R282). -/
structure LoopRec where
  engine : Nat
  counter : Nat
  gateTile : Nat
  gateOp : Nat
  exitTile : Nat
  exitOp : Nat
  k : Nat
  b : Nat
deriving DecidableEq, Repr

/-- One PAIR record (R282). -/
structure PairRec where
  engine : Nat
  forkTile : Nat
  forkOp : Nat
  joinTile : Nat
  joinOp : Nat
  la : Nat
  lb : Nat
  ba : Nat
deriving DecidableEq, Repr

/-- One TENSOR record (R282, R261): its observed lanes by group as the manifest maps them (R251), and where its
scale block and RQ parameter beats stand. -/
structure Tensor where
  id : Nat
  format : Nat
  zp : Int
  mode : Nat
  h : Nat
  cb : Nat
  calibratable : Nat
  groups : Nat
  engine : Nat := 0
  /-- static exponents e(k) of the image (R249) -/
  exps : List Int := []
  /-- RQ parameter lanes: (tile, beat QADDR, lane, group) -/
  lanes : List (Nat × Nat × Nat × Nat) := []
  /-- scale blocks whose activation banks hold this tensor: (tile, SADDR) -/
  blocks : List (Nat × Nat) := []
deriving DecidableEq, Repr

/-- A tensor in RUNNING mode (R282). -/
def Tensor.running (t : Tensor) : Bool := t.mode == 1

/-- A calibratable tensor (R282). -/
def Tensor.calib (t : Tensor) : Bool := t.calibratable == 1

/-- One banked ACCF bias of a zero-pointed tensor (R246, R257): tile, BADDR, lane, tensor, unbanked bias, and
per group the row sum with its weight scale (RS, M, XW + D). -/
structure BiasRec where
  engine : Nat
  tile : Nat
  baddr : Nat
  lane : Nat
  tensor : Nat
  bias : Word
  sums : List (Int × Nat × Int)
deriving DecidableEq, Repr

/-- One UPDATE record (R338), its tiles in ascending order with the outputs and inputs each holds, and the
layer's bank offset (R309). -/
structure UpdRec where
  layer : Nat
  opt : Nat
  tensor : Nat
  wfmt : Nat
  afmt : Nat
  ql : Int
  j : Nat
  k : Nat
  g : Nat
  dotIdx : Nat
  zero : Nat := 0
  nlr : Word
  b1 : Word
  c1 : Word
  b2 : Word
  c2 : Word
  eps : Word
  /-- (tile, context of the layer's DOT, first WEIGHT beat, WEIGHT beats, first output j, first input i) -/
  tiles : List (Nat × Nat × Nat × Nat × Nat × Nat) := []
  boff : Nat := 0
  masters : List (BitVec 16) := []
  moments : List (Byte × Byte) := []
  momentBase : Int × Int := (0, 0)
deriving DecidableEq, Repr

/-- The header of the UPDATE section (R337) and its capture points (tile, context, op, beats). -/
structure UpdHdr where
  engine : Nat
  fbyte : Nat
  fmask : Nat
  lbyte : Nat
  lmask : Nat
  loff : Nat
  toff : Nat
  lag : Nat
  delay : Nat
  w : Nat
  flockByte : Nat
  points : List (Nat × Nat × Nat × Nat)
  maxb : Nat
  wu : Nat
  seed : BitVec 64
  ws : Nat
  /-- bytes 32 to 63 of the header and the zero bytes of its capture points -/
  zero : Nat := 0
deriving DecidableEq, Repr

/-- FLOCK (R337). -/
def UpdHdr.flock (u : UpdHdr) : Bool := u.flockByte == 1

/-- One SLOTRES record (R393). -/
structure SlotRes where
  kind : Nat
  port : Nat
  period : Nat
  phase : Nat
  len : Nat
  /-- bytes 2 and 3 -/
  zero : Nat := 0
deriving DecidableEq, Repr

/-- One stage of a certified path (R304): island, kind, lane rate code and count. -/
structure CertStage where
  island : Nat
  kind : Nat
  rate : Nat
  count : Nat
  /-- byte 3 -/
  zero : Nat := 0
deriving DecidableEq, Repr

/-- One path of the CERT section (R304), with the lane or port of its source and its stated total in ns (R305).
`wheels` says which of its stages are wheel stages: kind 0 the Larder feed's, 1 an engine entry's, with the engine and the place in `stages`. -/
structure CertPath where
  source : Nat
  program : Nat
  record : Nat
  egressKind : Nat
  egress : Nat
  stages : List CertStage
  total : Nat
  wheels : List (Nat × Nat × Nat) := []
deriving DecidableEq, Repr

/-- One byte of an entry packet (R133): a record byte, a Larder row byte, or zero. -/
inductive PSel where
  | zero | ofRecord (i : Nat) | ofRow (i : Nat)
deriving DecidableEq, Repr

/-- One entry packet beat (R133): the column-0 tile, context and input queue it enters, and its 32 byte sources. -/
structure PacketBeat where
  tile : Nat
  ctx : Nat
  iq : Nat
  sel : List PSel
deriving DecidableEq, Repr

/-- A section table entry (R277). -/
structure Section where
  type : Nat
  flags : Nat
  engine : Nat
  offset : Nat
  size : Nat
  zero : Nat := 0
deriving DecidableEq, Repr

/-- OPTIONAL of a section's flags (R277). -/
def Section.optional (s : Section) : Bool := s.flags % 2 == 1

/-- The head of a manifest list (R282). -/
structure ListHead where
  type : Nat
  count : Nat
  size : Nat
  zero : Nat := 0
deriving DecidableEq, Repr

/-- A Rosum image as the device reads it (R276 to R304). `digest` is the SHA-384 of the signed message (R279, R280). -/
structure Image where
  magic : Nat := 0x4D534F52
  format : Nat := 1
  imageId : Nat
  length : Nat
  keySlot : Nat
  hdrZero : Nat := 0
  sections : List Section := []
  digest : Nat := 0
  sigR : Nat := 0
  sigS : Nat := 0
  sigZero : Nat := 0
  manImageId : Nat
  grades : Nat
  mode : Nat
  fMHz : Nat
  engineMask : Nat
  shape : Nat
  sheep : Nat
  auditByte : Nat
  entryWait : Nat
  certNs : Nat
  stepBase : BitVec 64
  manZero : Nat := 0
  /-- LISTS of the fixed part, the heads of the lists, and whether they end within the manifest (R281, R282) -/
  listCount : Nat := 0
  lists : List ListHead := []
  listsFit : Bool := true
  engines : List EngineImg := []
  regions : List Region := []
  calendars : List Calendar := []
  programs : List Program := []
  steers : List Steer := []
  feeds : List Feed := []
  reflex : List Reflex := []
  tables : List TableImg := []
  templates : List Template := []
  patchLists : List PatchList := []
  descs : List LaunchDesc := []
  loops : List LoopRec := []
  pairs : List PairRec := []
  tensors : List Tensor := []
  biases : List BiasRec := []
  /-- (engine, tile, ACCF operation) of the BANKED list (R282) -/
  banked : List (Nat × Nat × Nat) := []
  ringPos : List (Nat × Nat) := []
  slotRes : List SlotRes := []
  upd : Option UpdHdr := none
  updRecs : List UpdRec := []
  cert : List CertPath := []
  packet : List PacketBeat := []
  /-- (tile, first beat) of the ACT tables that the manifest marks scale-free (R262) -/
  scaleFree : List (Nat × Nat) := []
deriving DecidableEq, Repr

/-- A Locked image (R281). -/
def Image.locked (x : Image) : Bool := x.mode == 1

/-- An AUDITED image (R281). -/
def Image.audited (x : Image) : Bool := x.auditByte == 1

/-- A record of the image that names engine r stands for engine e: its own engine, and in a balance group, whose one copy every member
loads (R286), each member's. -/
def Image.hits (x : Image) (r e : Nat) : Bool := r == e || (x.shape == 1 && x.engineMask / 2 ^ r % 2 == 1)

/-- What the manifest's mapping adds to a TENSOR record (R251, R261). -/
structure TensorPart where
  id : Nat
  engine : Nat
  exps : List Int := []
  lanes : List (Nat × Nat × Nat × Nat) := []
  blocks : List (Nat × Nat) := []
deriving DecidableEq, Repr

/-- What an UPDATE record's layer holds beside its 40 bytes (R309, R337): its tiles, bank offset and initial values. -/
structure UpdPart where
  layer : Nat
  tiles : List (Nat × Nat × Nat × Nat × Nat × Nat) := []
  boff : Nat := 0
  masters : List (BitVec 16) := []
  moments : List (Byte × Byte) := []
  momentBase : Int × Int := (0, 0)
deriving DecidableEq, Repr

/-- One record of the CERT section (R304) whose `count` stages begin at byte `first` of the section. -/
structure CertPart where
  source : Nat
  program : Nat
  record : Nat
  egressKind : Nat
  egress : Nat
  count : Nat
  first : Nat
  total : Nat
  wheels : List (Nat × Nat × Nat) := []
deriving DecidableEq, Repr

/-- The parts of an image whose fields the spec gives without a byte layout (R278). `templateAt`, `patchAt` and `descAt` are the first
bytes, in the TEMPLATE section, of its templates, patch lists and launch descriptors. -/
structure ImageParts where
  configs : List (Nat × List (Nat × TileCfg)) := []
  calendars : List Calendar := []
  packet : List PacketBeat := []
  programs : List Program := []
  steers : List Steer := []
  reflex : List Reflex := []
  defaults : List (Nat × List Byte) := []
  templateAt : List Nat := []
  patchAt : List Nat := []
  descAt : List Nat := []
  tensors : List TensorPart := []
  biases : List BiasRec := []
  upds : List UpdPart := []
  cert : List CertPart := []
  scaleFree : List (Nat × Nat) := []
deriving DecidableEq, Repr

/-- One pattern record of a Sheepdog pack (R524). -/
structure Pattern where
  id : Nat
  musterOnly : Bool
  reps : Nat
  words : List OpWord
  expected : BitVec 64
  operands : List Beat
  zero : Nat := 0
deriving DecidableEq, Repr

/-- A Sheepdog pattern pack (R523), its digest and signature as in an image. -/
structure Pack where
  magic : Nat := 0x4B504453
  format : Nat := 1
  keySlot : Nat
  packId : Word
  version : Word
  coverage : Nat := 0
  length : Nat
  zero : Nat := 0
  patterns : List Pattern
  digest : Nat := 0
  sigR : Nat := 0
  sigS : Nat := 0
deriving DecidableEq, Repr

end Sys2Proof
end

