-- ==== Sys2Proof/Syntax.lean ====
section
/-! DEFINITION. The commands of the device: one constructor per row of spec/opcode_table.json, with the operands the
command arrives with. A register write carries its source and its word; an event from a pin, a line, a clock or host
memory carries what the outside world presents. -/

namespace Sys2Proof

/-- Who makes a register access: master M0 (PCIe PF), M1 (BMC), M2 (flock parent), M3 (JTAG) (R478), or the VF that
serves pasture p (R488). -/
inductive Source where
  | m0 | m1 | m2 | m3 | vf (p : Nat)
deriving DecidableEq, Repr

/-- A raw pin capture (R374) before its path delay: the FC in units of 2^-4 ns and TB0's ns count in units of 2^-16 ns. -/
structure Capture where
  fc16 : Nat
  tb0 : Nat
deriving DecidableEq, Repr

/-- What an Ethernet frame shows of R416: an error block, codewords not correctable, codewords corrected. -/
structure RxFaults where
  errBlock : Bool := false
  uncorr : Nat := 0
  corr : Nat := 0
deriving DecidableEq, Repr

/-- Words that reach a framed lane, in the symbol alignment its receiver holds (R420, R423): 40 bits each, the bit received first highest, and
the running disparity before them, true if positive. -/
structure LineWords where
  rd : Bool := false
  words : List (BitVec 40)
deriving DecidableEq, Repr

/-- A frame on an Ouvust lane (R424): its words from /S/ on, up to the word that ends it or before the one that breaks it off, and its
start-of-frame capture. -/
structure LinkFrame where
  line : LineWords
  cap : Capture := ⟨0, 0⟩
deriving DecidableEq, Repr

/-- A failed block tag check (R520): what the destination received, what the re-read of the source finds, what the
re-fetch and the echo bring, and where the block was bound. `kind` and `loc` name the source's memory
and word, `dstKind` and `dstLocs` the words of the destination, `load` the engine of a load (R142), `tile` a tile destination. -/
structure TagCheck where
  data1 : List Byte
  tag1 : Word
  eccOk : Bool
  tagSrc : Word
  data2 : List Byte
  echoEcc : Bool
  echo : List Byte
  kind : Nat
  loc : Nat
  dstKind : Nat
  dstLocs : List Nat
  load : Option Nat
  tile : Option Nat
deriving DecidableEq, Repr

/-- The activity counts of one engine in a window (R573). -/
structure Activity where
  passes : Nat
  lines : Nat
  beats : Nat
deriving DecidableEq, Repr

/-- What the device finds where it reads an image (R280, R295): the parts of it that the spec does not lay out in bytes, or a failed read
(0x0103). -/
inductive ImageRead where
  | failed
  | image (x : ImageParts)
deriving DecidableEq, Repr

/-- What a muster finds (R533): the first failing tile, the place of the pattern in the pack that fails there (none: the march or the
links), and the digest observed. -/
structure MusterFail where
  tile : Nat
  pattern : Option Nat
  observed : BitVec 64
deriving DecidableEq, Repr

/-- What a shepherd knows of a replica set and no message carries (R467 to R469): chunks of its sums, DELAY of its UPDATE header, and
members whose sums have come. -/
structure SetInfo where
  chunks : Nat
  delay : Nat
  members : Nat
deriving DecidableEq, Repr

/-- What a calibration run measures (R402): for each of its PPS_IN edges the difference at the point in units of 2^-16 ns, none where no edge
came there. -/
structure CalRun where
  diffs : List (Option Int)
deriving DecidableEq, Repr

/-- A record whose assembly ends (R62): its parser, and how many of its crossings into the Commons took 3 cycles (R29). -/
structure RecordEnd where
  port : Nat
  stile3 : Nat := 0
deriving DecidableEq, Repr

/-- An operation that a tile cannot run (R203): its place in the context's list, and whether the reload of its quarter ends under R146. -/
structure BadOp where
  op : Nat
  lost : Bool := false
deriving DecidableEq, Repr

/-- A quarter that stalls (R122), and whether its reload ends under R146. -/
structure StallAt where
  quarter : Nat
  lost : Bool := false
deriving DecidableEq, Repr

/-- The capture of an edge or a first bit (R404), and how many of a launch's crossings to its port took 3 cycles (R29). -/
structure FirstBit where
  cap : Capture
  stile3 : Nat := 0
deriving DecidableEq, Repr

/-- A TS2 on the line (R432) and this device's capture of it (R433). -/
structure Ts2Line where
  line : LineWords
  rx : BitVec 64
deriving DecidableEq, Repr

/-- How a muster ends (R533): the failure it found, and the quarters, one bit each, whose reload ends under R146. -/
structure MusterEnd where
  fail : Option MusterFail
  lost : Nat := 0
deriving DecidableEq, Repr

/-- A TRIG_IN input that has been active too long (R634), and the capture of its pulse's rising edge. -/
structure StuckInput where
  input : Nat
  cap : Capture
deriving DecidableEq, Repr

/-- A word on a lane. -/
structure LaneWord where
  lane : Nat
  line : LineWords
deriving DecidableEq, Repr

/-- An Ethernet port and which of its locks change (R417): block lock, codeword lock. -/
structure PortLock where
  port : Nat
  block : Bool
  codeword : Bool
deriving DecidableEq, Repr

/-- The commands of the device, in the order of the table. -/
inductive Instr where
  /-- TALLY_READ (R19): A read of a tally's lower word captures the whole count and saturation bit into the reader's capture and returns the lower word. -/
  | tallyRead (src : Source) (addr : Nat)
  /-- TALLY_CLEAR (R543): The owner writes a tally's upper word with bit 31 set, which clears the count and the saturation bit at one instant. -/
  | tallyClear (src : Source) (addr : Nat) (w : Word)
  /-- PAIR_READ (R597): A read of the lower word of a device-changed register pair captures both words for that reader. -/
  | pairRead (src : Source) (addr : Nat)
  /-- REGISTER_WRITE (R596): A write to a register that has no row of its own sets its RW, RWL and W1C fields, subject to the lock, expert, reserved-value and ownership rules. -/
  | registerWrite (src : Source) (addr : Nat) (w : Word)
  /-- PARTIAL_WRITE (R593): A PCIe write word whose byte enables do not cover all four bytes is not performed and is counted in PCI_PARTIAL. -/
  | partialWrite (src : Source) (addr : Nat) (be : Nat) (w : Word)
  /-- TIMING_APPLY (R31): A write of DEV_TIMING.APPLY requests a mode or clock-point change, which is refused with a REFUSE code or started. -/
  | timingApply (src : Source) (w : Word)
  /-- TIMING_CHANGE_DONE (R33): An applied mode or clock-point change completes within 200 µs and BUSY clears. -/
  | timingChangeDone
  /-- REF250_LOST (R35): REF250 is lost while the master PLL is locked to it, so the PLL enters holdover and REF_LOST and HOLDOVER are set. -/
  | ref250Lost
  /-- REF250_WAIT_END (R577): The start-up wait of up to 100 ms for REF250 ends without it, and the PLL runs from its internal oscillator in Free mode. -/
  | ref250WaitEnd
  /-- REF250_RETURN (R577): REF250 returns after a start-up without it or after a loss, and the PLL begins to pull in without a phase step. -/
  | ref250Return
  /-- PLL_PULL_IN_DONE (R577): The master PLL completes its pull-in to the returned reference and HOLDOVER clears. -/
  | pllPullInDone
  /-- ETH_FRAME_RX (R50): A frame arrives on an Ethernet port and passes the address filter, PTP extraction, header stage and steering, or is dropped and counted. -/
  | ethFrameRx (t : Nat) (bytes : List Byte) (faults : RxFaults) (cap : Capture)
  /-- FCS_RESULT (R64): The FCS check result of a frame reaches the parser island, which drops later records on failure and counts early ones in FCS_LATE. -/
  | fcsResult (t : Nat) (ok : Bool)
  /-- S_FRAME (R427): A checked S-class frame is received on an Ouvust lane, its sequence is checked and it is delivered to the Gate parser by channel. -/
  | sFrame (l : Nat) (f : LinkFrame)
  /-- RAW_FRAME (R446): A raw-mode lane in LOCKED delivers a whole raw frame to the Gate parser or discards a frame whose pattern does not match. -/
  | rawFrame (l : Nat) (bytes : List Byte) (cap : Capture)
  /-- RAW_PERIOD (R444): At the end of a frame period in SEARCH the lane counts candidate offsets and locks, stays or counts RAW_AMBIG. -/
  | rawPeriod (l : Nat) (bits : Nat)
  /-- INJECT_ENTRY (R612): The host parser takes one entry from a pasture's injection ring in rotation, or halts the ring on a malformed entry. -/
  | injectEntry
  /-- PARSER_WORD_ARRIVAL (R62): A lane word reaches the parser island and every parser instruction whose last source byte it holds executes. -/
  | parserWordArrival (g : Nat) (n : Nat) (stile3 : Nat)
  /-- PARSER_NOP (R57): Parser opcode 0 does nothing. -/
  | pNop (g : Nat)
  /-- EXT (R57): The parser copies source bytes into the record under construction. -/
  | pExt (g : Nat)
  /-- KEYC (R57): The parser sets the key to the source bytes zero-extended to 32 bits. -/
  | pKeyc (g : Nat)
  /-- KEYH (R57): The parser sets the key to the crc32c of the source bytes. -/
  | pKeyh (g : Nat)
  /-- EVID (R57): The parser sets the event ID to the source bytes zero-extended to 48 bits. -/
  | pEvid (g : Nat)
  /-- MATCH (R57): The parser sets C by comparing the masked source with a compare constant. -/
  | pMatch (g : Nat)
  /-- BRC (R57): The parser skips the next ARG instructions if C is 1. -/
  | pBrc (g : Nat)
  /-- BRN (R57): The parser skips the next ARG instructions if C is 0. -/
  | pBrn (g : Nat)
  /-- CUR (R57): The parser advances the cursor by a source value plus ARG. -/
  | pCur (g : Nat)
  /-- CURI (R57): The parser advances the cursor by OFF plus ARG. -/
  | pCuri (g : Nat)
  /-- TBSEL (R57): The parser selects the record's time base. -/
  | pTbsel (g : Nat)
  /-- EMITR (R57): The parser emits the record, clears the key, event ID and fields, sets the message start and continues. -/
  | pEmitr (g : Nat)
  /-- ACCEPT (R57): The parser emits the record and ends the program. -/
  | pAccept (g : Nat)
  /-- DROP (R59): The parser discards the record under construction and ends the program, counting PROG_DROP. -/
  | pDrop (g : Nat)
  /-- RECORD_ASSEMBLED (R62): An event record completes assembly in the parser, takes its event ID and timestamp, and enters its feed queue or is dropped at a full queue. -/
  | recordAssembled (x : RecordEnd)
  /-- LARDER_LOOKUP (R86): A record's lookup begins its key-hash stage at its wheel position, sets any WRITEBACK marker and reads the live bank. -/
  | larderLookup (g : Nat) (p : Nat)
  /-- FEATURE_ASSEMBLY (R133): The Commons builds the event's entry packet from the record and the returned Larder row, or sheds it or diverts a label. -/
  | featureAssembly (p : Nat) (waits : List Nat)
  /-- ENTRY_ADMIT (R124): The engine entry admits an event at the pasture's wheel position into its next slot, writing PAR, WB and FLAG bits and the entry digest. -/
  | entryAdmit (e : Nat) (p : Nat) (waited : Bool) (stile3 : Nat)
  /-- ENTRY_WAIT_LIMIT (R38): An event's wait at the entry reaches the entry wait limit, so it is dropped and counted in ENTRY_DROP. -/
  | entryWaitLimit (e : Nat) (p : Nat)
  /-- OQ_BEAT_SEND (R109): A beat leaves an output queue in the first ec in which every bound destination holds a credit. -/
  | oqBeatSend (tile : Nat) (ctx : Nat) (oq : Nat)
  /-- NOP (R230): A tile NOP holds the control unit for CNT + 1 turns. -/
  | tNop (tile : Nat) (ctx : Nat) (op : Nat)
  /-- DOT (R186): A tile DOT computes group-sum records of its outputs from weight slices and an expansion buffer. -/
  | tDot (tile : Nat) (ctx : Nat) (op : Nat)
  /-- DOTA (R188): A tile DOTA computes group sums with activations read from a history window. -/
  | tDota (tile : Nat) (ctx : Nat) (op : Nat)
  /-- DWC (R189): A tile DWC computes one 32-term group per channel over window taps. -/
  | tDwc (tile : Nat) (ctx : Nat) (op : Nat)
  /-- EXPAND (R184): A tile EXPAND expands activation beats into the expansion buffer named by the write pointer. -/
  | tExpand (tile : Nat) (ctx : Nat) (op : Nat)
  /-- SCALEG (R190): A tile SCALEG turns group-sum records into binary32 group values with their combined scales. -/
  | tScaleg (tile : Nat) (ctx : Nat) (op : Nat)
  /-- ACCF (R191): A tile ACCF adds group values in ascending group order into binary32 accumulators starting at the bias. -/
  | tAccf (tile : Nat) (ctx : Nat) (op : Nat)
  /-- RQ (R192): A tile RQ requantises 8 binary32 lanes to codes and sends observations for observed lanes. -/
  | tRq (tile : Nat) (ctx : Nat) (op : Nat)
  /-- ACT (R194): A tile ACT maps codes through a table register. -/
  | tAct (tile : Nat) (ctx : Nat) (op : Nat)
  /-- RELU (R196): A tile RELU computes a rectifier or leaky rectifier per lane. -/
  | tRelu (tile : Nat) (ctx : Nat) (op : Nat)
  /-- CLAMP (R196): A tile CLAMP clamps each lane between lower and upper bounds. -/
  | tClamp (tile : Nat) (ctx : Nat) (op : Nat)
  /-- ADDV (R196): A tile ADDV adds two operands per lane. -/
  | tAddv (tile : Nat) (ctx : Nat) (op : Nat)
  /-- MULV (R196): A tile MULV multiplies two operands per lane. -/
  | tMulv (tile : Nat) (ctx : Nat) (op : Nat)
  /-- MAXV (R196): A tile MAXV takes the larger operand per lane. -/
  | tMaxv (tile : Nat) (ctx : Nat) (op : Nat)
  /-- MINV (R196): A tile MINV takes the smaller operand per lane. -/
  | tMinv (tile : Nat) (ctx : Nat) (op : Nat)
  /-- CMPV (R196): A tile CMPV writes 1.0 or 0 per lane by the relation its SUB selects. -/
  | tCmpv (tile : Nat) (ctx : Nat) (op : Nat)
  /-- SELV (R196): A tile SELV selects the true or false value per lane by a condition. -/
  | tSelv (tile : Nat) (ctx : Nat) (op : Nat)
  /-- NORM_AFFINE (R197): A tile NORM in AFFINE mode computes (v − c0) × c1 per lane with one rounding. -/
  | tNormAffine (tile : Nat) (ctx : Nat) (op : Nat)
  /-- NORM_LAYER (R197): A tile NORM in LAYER mode normalises its lanes to zero mean and unit variance. -/
  | tNormLayer (tile : Nat) (ctx : Nat) (op : Nat)
  /-- ARGMAX (R198): A tile ARGMAX finds the lane of largest value and its index. -/
  | tArgmax (tile : Nat) (ctx : Nat) (op : Nat)
  /-- TREE (R199): A tile TREE walks each tree to a leaf index. -/
  | tTree (tile : Nat) (ctx : Nat) (op : Nat)
  /-- LEAF (R200): A tile LEAF sums leaf values of the trees into scores in tree order. -/
  | tLeaf (tile : Nat) (ctx : Nat) (op : Nat)
  /-- MOVQ (R208): A tile MOVQ moves beats between a queue and the tile store. -/
  | tMovq (tile : Nat) (ctx : Nat) (op : Nat)
  /-- BCAST (R209): A tile BCAST copies beats into every queue of its mask. -/
  | tBcast (tile : Nat) (ctx : Nat) (op : Nat)
  /-- GATHER (R210): A tile GATHER builds output beats from input elements through a map. -/
  | tGather (tile : Nat) (ctx : Nat) (op : Nat)
  /-- SCATTER (R211): A tile SCATTER writes input elements into tile-store beats through a map. -/
  | tScatter (tile : Nat) (ctx : Nat) (op : Nat)
  /-- SHIFTW (R215): A tile SHIFTW advances a history window, writes the tap and sends marker beats. -/
  | tShiftw (tile : Nat) (ctx : Nat) (op : Nat)
  /-- PACK (R212): A tile PACK joins beats by bitwise OR into one beat. -/
  | tPack (tile : Nat) (ctx : Nat) (op : Nat)
  /-- UNPACK (R213): A tile UNPACK turns codes into exact binary32 lanes. -/
  | tUnpack (tile : Nat) (ctx : Nat) (op : Nat)
  /-- RING (R219): A tile RING reads a Larder row through the foreground port and writes it RT ec later. -/
  | tRing (tile : Nat) (ctx : Nat) (op : Nat)
  /-- RING_LATE (R221): In Free mode a RING row returns after RT and is written on arrival, counted in RING_LATE and TIMING_CHOICE. -/
  | tRingLate (tile : Nat) (ctx : Nat) (op : Nat)
  /-- STOREK (R223): A tile STOREK writes a STATE row at the key and pointer its event read, or drops it and clears the WRITEBACK marker. -/
  | tStorek (tile : Nat) (ctx : Nat) (op : Nat)
  /-- FOLD (R225): A tile FOLD moves beats into a local queue partition of another context. -/
  | tFold (tile : Nat) (ctx : Nat) (op : Nat)
  /-- BARRIER_JOIN (R226): A BARRIER in JOIN mode passes beats and consumes the other branch's token. -/
  | tBarrierJoin (tile : Nat) (ctx : Nat) (op : Nat)
  /-- BARRIER_ENTER (R226): A BARRIER in ENTER mode acts as a loop gate and raises its counter. -/
  | tBarrierEnter (tile : Nat) (ctx : Nat) (op : Nat)
  /-- BARRIER_LEAVE (R226): A BARRIER in LEAVE mode acts as a loop exit whose counter falls 2 ec later. -/
  | tBarrierLeave (tile : Nat) (ctx : Nat) (op : Nat)
  /-- DIGEST (R227): A tile DIGEST folds beats into a digest register and reports it every 2^E firings. -/
  | tDigest (tile : Nat) (ctx : Nat) (op : Nat)
  /-- STEP (R229): A tile STEP counts firings and at every N-th closes a step, sending a step digest packet and the step boundary. -/
  | tStep (tile : Nat) (ctx : Nat) (op : Nat)
  /-- HALT (R231): A tile HALT with a true clean condition quiesces the pasture's quarters and records the halt. -/
  | tHalt (tile : Nat) (ctx : Nat) (op : Nat)
  /-- EMIT (R232): A tile EMIT writes a decision beat to the engine exit when its condition holds or its beat is poisoned. -/
  | tEmit (tile : Nat) (ctx : Nat) (op : Nat)
  /-- BAD_OPCODE (R203): A tile meets an unassigned opcode or refused fields at run time, counts BAD_OPCODE, drops and reloads the quarter and puts the engine under observation. -/
  | badOpcode (tile : Nat) (ctx : Nat) (x : BadOp)
  /-- GRAD_DIFF (R330): The update lane computes output deltas from captured outputs and the label beat and narrows them. -/
  | uGradDiff (tile : Nat) (op : Nat)
  /-- GRAD_BACK (R330): The update lane back-propagates deltas through the weights and narrows them. -/
  | uGradBack (tile : Nat) (op : Nat)
  /-- LACC_ACCUM (R331): The update lane adds delta-times-input terms into its accumulator file. -/
  | uLaccAccum (tile : Nat) (op : Nat)
  /-- LACC_FLUSH (R331): The update lane sends accumulators to the update store and clears them. -/
  | uLaccFlush (tile : Nat) (op : Nat)
  /-- OPTM (R333): The update lane advances masters and moments of a block of weights. -/
  | uOptm (tile : Nat) (op : Nat)
  /-- SRQ (R335): The update lane rounds new masters to weight codes by stochastic rounding. -/
  | uSrq (tile : Nat) (op : Nat)
  /-- SWAP (R335): The update lane writes complete beats of new codes into the inactive weight bank. -/
  | uSwap (tile : Nat) (op : Nat)
  /-- STALL (R122): A quarter with an event in flight sees no firing for 65,536 ec, so its events are dropped, it is reloaded and entry resumes. -/
  | stall (e : Nat) (x : StallAt)
  /-- DECISION_EXIT (R234): A decision passes the exit into the Commons and its TRIG, LAUNCH and HOST actions pass the hurdle and kill gate. -/
  | decisionExit (e : Nat) (stile3 : Nat)
  /-- TRIG_PULSE_END (R234): A TRIG_OUT pulse reaches the end of its width and the pin returns low. -/
  | trigPulseEnd (pin : Nat)
  /-- MSIX_DEC_FIRE (R611): Armed vector 0 fires once the decision ring is non-empty and the holdoff has passed, then disarms. -/
  | msixDecFire (p : Nat)
  /-- MSG_TAIL_WRITE (R611): A write of PAS_MSG_TAIL updates the consumer count and arms vector 0. -/
  | msgTailWrite (src : Source) (p : Nat) (w : Word)
  /-- FRAME_START (R394): At a word boundary at which a port is free it starts the frame of the first ready entry by slot, rank and queue. -/
  | frameStart (kind : Nat) (port : Nat) (boundary : Nat)
  /-- LAUNCH_COMMIT (R391): The scheduler commits a frame Dtx before its start, discarding it on KILL or lateness under the queue policy. -/
  | launchCommit (kind : Nat) (port : Nat)
  /-- LAUNCH_FIRST_BIT (R404): A launch's first bit or a TRIG edge leaves the pin, is captured and, for an audited pasture, enters a LAUNCH record. -/
  | launchFirstBit (kind : Nat) (port : Nat) (x : FirstBit)
  /-- PORT_DOWN (R396): A launch entry at the head of its queue whose port and ALT are not ACTIVE is discarded and its audit reservation released. -/
  | portDown (p : Nat) (q : Nat)
  /-- ENG_QUIESCE (R144): A write of QUIESCE closes the entries of every quarter of each pasture selected. -/
  | engQuiesce (src : Source) (e : Nat) (w : Word)
  /-- QUIESCE_DONE (R143): Every slot of a closed quarter has retired and the quarter becomes quiesced. -/
  | quiesceDone (e : Nat) (q : Nat)
  /-- ENG_LOAD (R142): A write of LOAD loads the selected scope from the Attic into quiesced quarters, or is refused. -/
  | engLoad (src : Source) (e : Nat) (w : Word)
  /-- LOAD_DONE (R146): A load completes or ends under R146, resetting windows, digests, banks and update state. -/
  | loadDone (e : Nat)
  /-- ENG_RESUME (R152): A write of RESUME opens the entries of selected quarters holding an admitted image and applies pending static scales. -/
  | engResume (src : Source) (e : Nat) (w : Word)
  /-- RETIRE_STAGE (R139): A write of ENG_RETIRE.STAGE stages a field retirement of a logical tile or is refused. -/
  | retireStage (src : Source) (e : Nat) (w : Word)
  /-- POLICY_WRITE (R151): A write of FAB_BALANCE.POLICY sets the balance policy from the next record or is refused with POLICY_REFUSED. -/
  | policyWrite (src : Source) (p : Nat) (w : Word)
  /-- TAG_CHECK_FAIL (R520): A block fails its tag check and is resolved by re-fetch, source re-read and checker echo into a PATH, SOURCE or CHECKER verdict. -/
  | tagCheckFail (x : TagCheck)
  /-- REBUILD_START (R94): A write of LRD_REBUILD.START begins a CLONE or EMPTY rebuild of the shadow bank or is refused. -/
  | rebuildStart (src : Source) (p : Nat) (w : Word)
  /-- REBUILD_ABORT (R98): A write of LRD_REBUILD.ABORT discards the shadow bank and cancels a pending swap. -/
  | rebuildAbort (src : Source) (p : Nat) (w : Word)
  /-- PUT (R92): A rebuild PUT record writes a new row into free words and points the shadow entry at it, or is refused. -/
  | rbPut (p : Nat)
  /-- DELETE (R92): A rebuild DELETE record clears the shadow entry. -/
  | rbDelete (p : Nat)
  /-- DEFAULT (R92): A rebuild DEFAULT record writes a new default row for a table. -/
  | rbDefault (p : Nat)
  /-- END (R94): A rebuild END record makes the shadow bank ready and stops ring reading. -/
  | rbEnd (p : Nat)
  /-- RB_HALT (R90): A rebuild record longer than the ring stops ring reading and sets RB_HALTED. -/
  | rbHalt (p : Nat)
  /-- LRD_SWAP_GO (R96): A write of LRD_SWAP.GO requests a bank swap at the next cc, or is refused. -/
  | lrdSwapGo (src : Source) (p : Nat) (w : Word)
  /-- LRD_SWAP_AT (R98): A write of LRD_SWAP.AT latches the FC of a pending swap, or takes effect at once if that FC is reached. -/
  | lrdSwapAt (src : Source) (p : Nat) (w : Word)
  /-- SWAP_AT_FC (R95): A pending AT swap reaches its FC and exchanges the live and shadow banks of every table, sending a SWAP trace packet. -/
  | swapAtFc (p : Nat)
  /-- ROW_FREE (R99): 16 cc after a swap the words of rows the new live bank no longer references are freed. -/
  | rowFree (p : Nat)
  /-- STEP_COMMIT (R248): The commit point of a step computes and writes its scales and banked biases and holds the entry until step s − 2 retires. -/
  | stepCommit (e : Nat) (p : Nat)
  /-- CAL_START (R268): A write of FAB_CAL.START begins a calibration's observe phase. -/
  | calStart (src : Source) (p : Nat) (w : Word)
  /-- CAL_ABORT (R270): A write of FAB_CAL.ABORT ends a calibration with RESULT 7. -/
  | calAbort (src : Source) (p : Nat) (w : Word)
  /-- CAL_OBSERVE_END (R268): The observe phase reaches 2^LOG2EV events and proposes exponents for the verify phase. -/
  | calObserveEnd (p : Nat)
  /-- CAL_VERIFY_END (R269): The verify phase reaches 2^LOG2EV events and the calibration is committed or refused. -/
  | calVerifyEnd (p : Nat)
  /-- SCALE_APPLY (R272): A write of FAB_SCALE_VAL.APPLY sets a tensor's exponent and zero point or is refused. -/
  | scaleApply (src : Source) (p : Nat) (w : Word)
  /-- ADMIT (R295): A write of PAS_ADMIT.ADMIT starts reading and checking an image for the pasture. -/
  | admitImage (src : Source) (p : Nat) (w : Word)
  /-- ADMISSION_CHECKS_DONE (R297): The image has been read and checked, and it is refused with a code or its resources are allocated and loading begins. -/
  | admissionChecksDone (p : Nat) (read : ImageRead)
  /-- ADMISSION_LOAD_DONE (R298): The admission load completes, the entries open and the image is admitted. -/
  | admissionLoadDone (p : Nat)
  /-- WITHDRAW (R301): A write of PAS_ADMIT.WITHDRAW removes steering entries, closes entries and drops queued records. -/
  | withdraw (src : Source) (p : Nat) (w : Word)
  /-- WITHDRAW_SLOTS_RETIRED (R301): The last slot of a withdrawing pasture retires and its AT and WINDOW launch entries are discarded. -/
  | withdrawSlotsRetired (p : Nat)
  /-- WITHDRAW_QUEUES_EMPTY (R301): Every launch queue of the withdrawing pasture is empty and its quarters, rules, programs, templates and extents are released. -/
  | withdrawQueuesEmpty (p : Nat)
  /-- LABEL_MATCH (R317): The update unit matches a label record with a capture record and joins the pair to a batch or drops the label. -/
  | labelMatch (e : Nat)
  /-- CAP_EXPIRE (R318): An unmatched capture record passes its label window and is freed. -/
  | capExpire (e : Nat)
  /-- BATCH_CLOSE (R319): The batch of step s closes at the boundary of step s + 1 + LAG. -/
  | batchClose (e : Nat)
  /-- UPDATE_BEGIN (R320): An update begins its pair and flush phases once its batch has closed and the previous swap phase is complete. -/
  | updateBegin (e : Nat)
  /-- REDUCE_DONE (R320): The reduce phase ends with the flock totals, or immediately for a local update, and the optimise phase runs. -/
  | reduceDone (e : Nat)
  /-- SWAP_PHASE_BEGIN (R320): The swap phase begins once the previous update has flipped and events on the inactive bank have retired. -/
  | swapPhaseBegin (e : Nat)
  /-- UPDATE_FLIP (R311): At the boundary of the flip step the live-bank bit flips, WD updates and an UPDATE packet is sent. -/
  | updateFlip (e : Nat)
  /-- UPD_EXPORT (R339): A write of UPD_CONTROL.EXPORT copies every master to host memory or is refused. -/
  | updExport (src : Source) (e : Nat) (w : Word)
  /-- EXPORT_DONE (R339): An export completes or its host write fails and EXPORT_RESULT is set. -/
  | exportDone (e : Nat) (ok : Bool)
  /-- SHED_EVALUATE (R350): Every 1 µs the power estimate is formed and the shed level is raised, lowered or kept. -/
  | shedEvaluate (a : List Activity)
  /-- PEAK_CLEAR (R352): A write of DEV_SHED_STATUS.PEAK_CLEAR sets PEAK to LEVEL. -/
  | peakClear (src : Source) (w : Word)
  /-- REPLAY_ENABLE (R357): A write of FAB_REPLAY.ENABLE makes the pasture a replay pasture or is refused while an image is admitted. -/
  | replayEnable (src : Source) (p : Nat) (w : Word)
  /-- REPLAY_CLOSE (R362): A write of FAB_REPLAY.CLOSE closes the open batch of the lowest step. -/
  | replayClose (src : Source) (p : Nat) (w : Word)
  /-- REPLAY_LIMIT (R359): A write of FAB_REPLAY_LIMIT sets the record limit and releases a host parser held at the old limit. -/
  | replayLimit (src : Source) (p : Nat) (upper : Bool) (w : Word)
  /-- TB_ADJ_WRITE (R371): A write of TB_ADJ sets a time base's rate word, clamped to the slew bound. -/
  | tbAdjWrite (src : Source) (n : Nat) (w : Word)
  /-- TB_SLEW_WRITE (R371): A write of TB_CONTROL.SLEW that lowers the bound below ADJ clamps ADJ. -/
  | tbSlewWrite (src : Source) (n : Nat) (w : Word)
  /-- TB_STEP (R372): A write of TB_STEP's upper word requests a step of a time base, which is applied, scheduled or refused. -/
  | tbStep (src : Source) (n : Nat) (w : Word)
  /-- TB_STEP_APPLY (R372): A step accepted for the next FC tick is applied at that tick. -/
  | tbStepApply (n : Nat)
  /-- TB_NOW_READ (R407): A read of TB_NOW0 captures all four words of a time base's value at one instant. -/
  | tbNowRead (src : Source) (n : Nat)
  /-- CELLAR_SYNC_PAIR (R376): Every 1 µs the Cellar sends the Commons a pair of FC and the TB0 count. -/
  | cellarSyncPair
  /-- PPS_EDGE (R377): A rising edge of PPS_IN yields a TB0 offset that the Cellar applies under the discipline rule. -/
  | ppsEdge (cap : Capture) (ref : Int)
  /-- PPS_ABSENT (R377): 1.5 s pass without a PPS_IN edge and PPS_IN is absent. -/
  | ppsAbsent
  /-- TB0_HOLDOVER (R379): No offset has been accepted for 4 s, so the Cellar enters holdover and writes a SOURCE record. -/
  | tb0Holdover
  /-- SOURCE_SELECT (R377): A write of CEL_DISC.SOURCE selects a discipline source or is refused with DISC_REFUSED. -/
  | sourceSelect (src : Source) (w : Word)
  /-- PTP_SUBMIT (R382): A write of CEL_PTP_SUBMIT7 submits a PTP record from which the Cellar forms and applies an offset. -/
  | ptpSubmit (src : Source) (w : Word)
  /-- CEL_STEP (R380): A write of CEL_STEP's upper word steps TB0 or is refused. -/
  | celStep (src : Source) (w : Word)
  /-- SEAL_GO (R400): A write of CEL_CONTROL.SEAL_GO verifies a SEAL or BREAK message and seals or unseals the Cellar. -/
  | sealGo (src : Source) (w : Word)
  /-- CKPT (R406): A write of CEL_CONTROL.CKPT schedules a checkpoint after the last hashed record. -/
  | ckpt (src : Source) (w : Word)
  /-- CELLAR_CAL_START (R402): A write of CAL_START begins calibrating a capture point against PPS_IN. -/
  | cellarCalStart (src : Source) (w : Word)
  /-- CAL_DONE (R402): After 16 PPS_IN edges the calibration writes the delay or is refused with CAL_RESULT. -/
  | calDone (x : CalRun)
  /-- CELLAR_POWER_UP (R403): The Cellar powers up on VCEL, sets H0 and writes the START record. -/
  | cellarPowerUp
  /-- AUDIT_HASH (R406): Every 144 tc the Cellar hashes the oldest queued record into the chain and writes it and any checkpoint to the ring. -/
  | auditHash
  /-- PPS_OUT_RISE (R630): TB0 reaches a second boundary by advancing and PPS_OUT rises. -/
  | ppsOutRise
  /-- PPS_OUT_FALL (R630): PPS_OUT falls 100,000,000 tc after its latest rise. -/
  | ppsOutFall
  /-- PTP_RX (R381): A PTP frame received on an Ethernet port is passed with its timestamp to the owner's PTP receive ring or dropped. -/
  | ptpRx (t : Nat) (bytes : List Byte) (cap : Capture)
  /-- PTP_TX (R615): The port takes a slot from the PTP transmit ring and sends it, or skips a malformed slot. -/
  | ptpTx (t : Nat) (cap : Capture)
  /-- TXTS_READ (R383): A read of ETH_TXTS0 removes the oldest TX timestamp entry and captures it. -/
  | txtsRead (src : Source) (t : Nat)
  /-- RECEIVER_DETECT (R429): Every 1 ms a lane in DETECT performs receiver detection and enters TRAIN1 on success. -/
  | receiverDetect (l : Nat)
  /-- TS1 (R429): A lane receives a TS1, advancing its TRAIN1 lock state or entering TRAIN1 from ACTIVE or TRAIN2. -/
  | ts1 (l : Nat) (x : LineWords)
  /-- TS2 (R433): A lane receives a TS2, agrees classes, forms a delay sample and may enter ACTIVE. -/
  | ts2 (l : Nat) (x : Ts2Line)
  /-- TRAIN1_TIMEOUT (R430): TRAIN1 lasts 2 ms, so the attempt fails and the lane returns to DETECT or falls in rate. -/
  | train1Timeout (l : Nat)
  /-- TRAIN2_TIMEOUT (R430): TRAIN2 lasts 1 ms, so the attempt fails and the lane returns to DETECT. -/
  | train2Timeout (l : Nat)
  /-- LINK_ABSENT_TIMEOUT (R429): A lane in LINK_ABSENT waits 100 ms and returns to DETECT with the attempt count at 0. -/
  | linkAbsentTimeout (l : Nat)
  /-- ALIGN_LOSS (R423): A lane loses symbol alignment, counts ALIGN_LOSS and raises a retrain trigger. -/
  | alignLoss (l : Nat)
  /-- LOS (R442): A receiver sees no transition for 32 wc, counts LOS and goes to DETECT. -/
  | los (l : Nat)
  /-- ERROR_WINDOW (R439): A window of 65,536 wc ends and the lane's error count restarts. -/
  | errorWindow (l : Nat)
  /-- RETRAIN (R439): A retrain trigger arises from errors, alignment, replay limit or a RETRAIN write and the lane retrains or defers. -/
  | retrain (l : Nat) (cause : Nat)
  /-- RETRAIN_DEFER_TIMEOUT (R440): 4 µs pass since a deferred trigger and the retrain begins. -/
  | retrainDeferTimeout (l : Nat)
  /-- RELIABLE_FRAME_RX (R436): A checked R or B frame is delivered, discarded as duplicate, or discarded with a NAK. -/
  | reliableFrameRx (l : Nat) (f : LinkFrame)
  /-- ACK (R437): A received ACK frees outstanding frames of its class and may end a deferred retrain. -/
  | ack (l : Nat) (f : LinkFrame)
  /-- NAK (R437): A received NAK makes the sender resend its class from the named frame. -/
  | nak (l : Nat) (f : LinkFrame)
  /-- REPLAY_TIMER (R437): The oldest outstanding frame of a class goes unacknowledged for T_rp and the class is resent. -/
  | replayTimer (l : Nat) (cls : Nat)
  /-- ETH_ACTIVE (R417): An Ethernet port holds lock without faults for 1 ms and becomes ACTIVE. -/
  | ethActive (t : Nat)
  /-- LINK_DOWN (R417): An Ethernet port loses lock or receives a fault and leaves ACTIVE. -/
  | linkDown (t : Nat) (cause : Nat)
  /-- ETH_CONTROL (R450): A write of ETH_CONTROL sets speed, FEC and media or is refused with CFG_REFUSED. -/
  | ethControl (src : Source) (t : Nat) (w : Word)
  /-- LNK_CONTROL (R449): A write of LNK_CONTROL sets lane enable, mode, rates and classes or is refused under R419. -/
  | lnkControl (src : Source) (l : Nat) (w : Word)
  /-- JOIN (R459): A parent receives a JOIN and answers with a WELCOME carrying the JOIN_RESULT. -/
  | join (l : Nat)
  /-- JOIN_RETRY (R459): A refused device sends JOIN again after 100 ms. -/
  | joinRetry
  /-- WELCOME (R459): A device receives WELCOME, takes the parent's epoch and begins following its SYNC. -/
  | welcome (l : Nat)
  /-- SYNC_SEND (R457): At each FC multiple of 65,536 a flock device sends a SYNC frame on each flock link. -/
  | syncSend (caps : List (Nat × Capture))
  /-- SYNC (R460): A SYNC from the parent yields an offset sample that steps, absorbs, refuses or phase-steps FC. -/
  | sync (l : Nat) (f : LinkFrame)
  /-- PHASE_STEP (R460): Each µs of a phase correction moves the master PLL phase by one 15.625 ps step. -/
  | phaseStep
  /-- SYNC_MISS (R461): A SYNC period passes with no kept sample, and after four a SYNCED device enters HOLDOVER. -/
  | syncMiss
  /-- STANDBY_TAKEOVER (R474): After 16 SYNC periods of HOLDOVER on most links the standby raises EPOCH, sends TAKEOVER and enters SOURCE. -/
  | standbyTakeover
  /-- TAKEOVER (R474): A head receives TAKEOVER, makes OV01 its parent link, forwards it and abandons reductions. -/
  | takeover (l : Nat)
  /-- LAUNCH_AT (R464): A worker receives LAUNCH_AT and queues an agreed AT launch, and a shepherd forwards it. -/
  | launchAt (l : Nat)
  /-- REDUCE (R467): A shepherd receives a REDUCE chunk, adds it and sends the sum up when every child has delivered it. -/
  | reduce (l : Nat) (x : SetInfo)
  /-- REDUCE_WAIT (R468): REDUCE_WAIT passes since the first REDUCE of a step and the top shepherd closes the reduction. -/
  | reduceWait (x : SetInfo)
  /-- TOTAL (R468): A member receives a TOTAL chunk and uses it as its reduced sum. -/
  | total (l : Nat)
  /-- COMMIT (R468): A member receives COMMIT naming the flip step or an abandon. -/
  | commit (l : Nat)
  /-- FLOCK_DIGEST (R469): A shepherd receives a DIGEST message and merges it into its counts. -/
  | flockDigest (l : Nat)
  /-- DIGEST_WAIT (R469): DIGEST_WAIT passes and non-reporting members are counted and the merged digest sent up or the verdict found. -/
  | digestWait (image : Nat) (silent : Nat)
  /-- VERDICT (R471): A member receives VERDICT and expels itself, rejoins or halts its set. -/
  | verdict (l : Nat)
  /-- KILL (R466): A flock KILL message blocks every TRIG and launch in the subtree until RELEASE. -/
  | kill (l : Nat)
  /-- FLOCK_HALT (R466): A flock HALT message blocks actions of pastures holding a flock image until RELEASE. -/
  | flockHalt (l : Nat)
  /-- CANCEL_ALL (R466): A flock CANCEL_ALL message discards every queued agreed launch. -/
  | cancelAll (l : Nat)
  /-- RELEASE (R466): A flock RELEASE message ends KILL, HALT and split halts. -/
  | release (l : Nat)
  /-- MREQ (R482): A device executes an M2 register read or write from its parent link and answers with MRSP. -/
  | mreq (l : Nat)
  /-- MRSP (R482): A shepherd receives the MRSP answering a management request. -/
  | mrsp (l : Nat)
  /-- FLOCK_MSG_SEND (R616): The top shepherd takes a slot from the flock message ring and sends LAUNCH_AT down, or skips it. -/
  | flockMsgSend
  /-- FLK_ROLE (R476): A write of FLK_ROLE sets the flock role or is refused with ROLE_REFUSED. -/
  | flkRole (src : Source) (w : Word)
  /-- FORM (R463): A write of FORM on the top shepherd steps FC forward to TB0 and enters SOURCE. -/
  | form (src : Source) (w : Word)
  /-- FLK_CONTROL_KILL (R466): A write of FLK_CONTROL.KILL on a shepherd issues KILL. -/
  | flkControlKill (src : Source) (w : Word)
  /-- FLK_CONTROL_HALT (R466): A write of FLK_CONTROL.HALT on a shepherd issues HALT. -/
  | flkControlHalt (src : Source) (w : Word)
  /-- FLK_CONTROL_CANCEL_ALL (R466): A write of FLK_CONTROL.CANCEL_ALL on a shepherd issues CANCEL_ALL. -/
  | flkControlCancelAll (src : Source) (w : Word)
  /-- FLK_CONTROL_RELEASE (R466): A write of FLK_CONTROL.RELEASE on a shepherd issues RELEASE. -/
  | flkControlRelease (src : Source) (w : Word)
  /-- CLAIM (R484): A master writes CLAIM during an election, or takes the crook at once after the window. -/
  | claim (src : Source) (w : Word)
  /-- ELECTION_CLOSE (R484): The 100 ms election window closes and the crook goes to the first claimant in the election order. -/
  | electionClose
  /-- OWN_HEARTBEAT (R485): The owner writes OWN_HEARTBEAT and the heartbeat timer restarts. -/
  | ownHeartbeat (src : Source) (w : Word)
  /-- HEARTBEAT_LOSS (R485): The heartbeat timer reaches 50,000 µs boundaries, so the crook is released and an election opens. -/
  | heartbeatLoss
  /-- HANDOVER_REQUEST (R486): The owner writes OWN_HANDOVER.REQUEST to make, replace or cancel a handover request. -/
  | handoverRequest (src : Source) (w : Word)
  /-- HANDOVER_ACCEPT (R486): The target writes ACCEPT in time and the crook passes to it. -/
  | handoverAccept (src : Source) (w : Word)
  /-- HANDOVER_EXPIRED (R487): A handover request lapses at its 10,000th µs boundary. -/
  | handoverExpired
  /-- SMB_ADDRESS (R481): An SMBus ADDRESS command sets the access pointer. -/
  | smbAddress (bytes : List Byte) (pecOk : Bool)
  /-- SMB_WRITE (R481): An SMBus WRITE command writes words at the pointer as M1. -/
  | smbWrite (bytes : List Byte) (pecOk : Bool)
  /-- SMB_READ (R481): An SMBus READ command returns the word at the pointer and advances it. -/
  | smbRead (bytes : List Byte) (pecOk : Bool)
  /-- REGACC (R483): A JTAG REGACC Update-DR starts an M3 register read or write. -/
  | regacc (dr : BitVec 58)
  /-- LIFECYCLE_GO (R496): A write of OWN_LIFECYCLE.GO moves the lifecycle state forward or is refused with LC_RESULT. -/
  | lifecycleGo (src : Source) (w : Word) (hostFail : Bool)
  /-- KEY_PROGRAM (R498): A write of OWN_KEY_CTL.PROGRAM reads a key from host memory into an empty slot or is refused. -/
  | keyProgram (src : Source) (w : Word) (hostFail : Bool)
  /-- KEY_REVOKE (R498): A write of OWN_KEY_CTL.REVOKE revokes a key slot or is refused. -/
  | keyRevoke (src : Source) (w : Word)
  /-- DEBUG_REQUEST (R503): A write of OWN_DEBUG.REQUEST sets the requested debug level and recomputes the effective level. -/
  | debugRequest (src : Source) (w : Word)
  /-- GRANT_LOAD (R506): A write of OWN_GRANT_SEL.LOAD copies a pasture's grant into OWN_GRANT_DATA. -/
  | grantLoad (src : Source) (w : Word)
  /-- GRANT_COMMIT (R491): A write of OWN_GRANT_SEL.COMMIT checks and commits a staged grant, clearing a changed Larder region. -/
  | grantCommit (src : Source) (w : Word)
  /-- SCRUB_READ (R512): The patrol scrubber reads a word in a free port cycle and corrects, poisons or escalates an error. `err` is what the
  read finds, 0 nothing, 1 a correctable and 2 an uncorrectable error; `last` ends a pass over every memory. -/
  | scrubRead (kind : Nat) (loc : Nat) (err : Nat) (last : Bool)
  /-- RESTORE_DONE (R517): The fault-reset restore of every image completes and its quarters are loaded. -/
  | restoreDone
  /-- QUARANTINE_RELEASE (R514): A write of PAS_QUARANTINE.RELEASE ends quarantine unless PERSISTENT is 1. -/
  | quarantineRelease (src : Source) (p : Nat) (w : Word)
  /-- SHD_PATTERN (R526): The Sheepdog sequencer runs a pattern on a tile in its issue slots and compares the digest, rerunning on mismatch. -/
  | shdPattern (tile : Nat) (err1 : BitVec 64) (err2 : BitVec 64)
  /-- PACK_LOAD (R525): A write of SHD_PACK.LOAD loads a pattern pack from host memory or the staging window, or refuses it. -/
  | packLoad (src : Source) (e : Nat) (w : Word) (hostFail : Bool)
  /-- STAGE_RESET (R540): A write of SHD_PACK.STAGE_RESET empties the staging window. -/
  | stageReset (src : Source) (e : Nat) (w : Word)
  /-- PACK_WIN_WRITE (R540): A write of SHD_PACK_WIN appends one word to the staging window. -/
  | packWinWrite (src : Source) (e : Nat) (w : Word)
  /-- OBSERVE (R530): A write of SHD_CONTROL.OBSERVE puts the engine under observation. -/
  | observe (src : Source) (e : Nat) (w : Word)
  /-- OBSERVE_END (R531): A write of SHD_CONTROL.OBSERVE_END ends observation and sends a record of kind 13. -/
  | observeEnd (src : Source) (e : Nat) (w : Word)
  /-- MUSTER (R532): A write of SHD_CONTROL.MUSTER starts a full test of the engine or is refused. -/
  | muster (src : Source) (e : Nat) (w : Word)
  /-- MUSTER_DONE (R533): A muster completes its march, links, patterns and reload, resumes quarters and reports pass or failure. -/
  | musterDone (e : Nat) (x : MusterEnd)
  /-- CAPTURE_FREEZE (R560): POST × 16 KiB have entered the first-failure region after the incident and the capture freezes. -/
  | captureFreeze
  /-- ARM (R561): A write of LFT_FF.ARM empties the region and arms the first-failure capture. -/
  | arm (src : Source) (w : Word)
  /-- DUMP (R562): A write of LFT_FF.DUMP starts copying the first-failure region to host memory. -/
  | dump (src : Source) (w : Word)
  /-- DUMP_DONE (R562): The dump copy completes and DUMP_BUSY clears. -/
  | dumpDone
  /-- TRIGGER (R559): A write of LFT_FF.TRIGGER begins an incident of cause 12. -/
  | trigger (src : Source) (w : Word)
  /-- DISARM (R567): A write of LFT_FF.DISARM stops an armed or filling capture. -/
  | disarm (src : Source) (w : Word)
  /-- LFT_CONTROL (R556): A write of LFT_CONTROL selects Loft outputs or is refused with LANES_REFUSED. -/
  | lftControl (src : Source) (w : Word)
  /-- PROFILE_APPLY (R572): A write of PWR_PROFILE.APPLY requests a power profile, which is refused or started. -/
  | profileApply (src : Source) (w : Word)
  /-- PROFILE_DONE (R572): An accepted profile change takes effect within 100 µs and BUSY clears. -/
  | profileDone
  /-- STATE_GO (R579): A write of PWR_STATE.GO requests a power state, which is refused or started. -/
  | stateGo (src : Source) (w : Word)
  /-- NAP_ENTRY (R580): Once every slot has retired and no update phase runs, queued launches are discarded and clocks stop for Nap. -/
  | napEntry
  /-- STANDBY_ENTRY (R581): After the Loft drain the device withdraws images, idles lanes and stops the PLL for Standby. -/
  | standbyEntry
  /-- STATE_REACHED (R579): A power-state transition completes, STATE_RESULT reads 1 and a POWER exit or entry packet is sent. -/
  | stateReached
  /-- THERM_HOT (R574): The junction reaches 100 °C and THERM_HOT is set. -/
  | thermHot
  /-- THERM_TRIP (R574): The junction reaches 110 °C, pin actions are blocked and the device enters Standby. -/
  | thermTrip
  /-- DEVICE_RESET (R582): A write of PWR_RESET.DEVICE with CONFIRM 0xA5A5 starts a device reset. -/
  | deviceReset (src : Source) (w : Word)
  /-- SYS_RESET (R584): SYS_RESET_N held low for at least 1 µs starts a device reset and the start-up sequence. -/
  | sysReset
  /-- COLD_RESET (R584): The compute-die supplies are first applied and the start-up sequence runs with tallies zeroed. -/
  | coldReset
  /-- STARTUP_DONE (R584): Start-up step 6 is reached: masters reach registers, ALIVE toggles and an election opens. -/
  | startupDone
  /-- RAIL_FAULT (R627): A compute-die rail leaves its tolerance and the device stops. -/
  | railFault
  /-- VCEL_LOSS (R627): VCEL is lost while the compute die runs, causing a fault reset that waits for VCEL. -/
  | vcelLoss
  /-- HOST_LINK_RESET (R583): PERST_N, a PCIe hot reset or a PF function level reset resets the host island and retrains the link. -/
  | hostLinkReset
  /-- VF_FLR (R583): A function level reset of a VF withdraws its pasture's image and clears its ring enables and bases. -/
  | vfFlr (p : Nat)
  /-- OTP_LOAD (R591): A write of OTP_CONTROL.LOAD copies the record in force into OTP_STAGE. -/
  | otpLoad (src : Source) (w : Word)
  /-- OTP_PROGRAM (R588): A write of OTP_CONTROL.PROGRAM with CONFIRM programs the staged settings record into the next slot or is refused. -/
  | otpProgram (src : Source) (w : Word)
  /-- OTP_PROGRAM_DONE (R588): An OTP program completes and verifies or fails its verify. -/
  | otpProgramDone (ok : Bool)
  /-- UNLOCK (R602): A write of PAGE_EXPERT.UNLOCK with the page number unlocks the page's expert area. -/
  | unlock (src : Source) (addr : Nat) (w : Word)
  /-- RELOCK (R602): A write of PAGE_EXPERT.RELOCK locks the expert area. -/
  | relock (src : Source) (addr : Nat) (w : Word)
  /-- RING_ENABLE (R608): A ring's ENABLE changes from 0 to 1, setting both counts to 0 and ending any halt. -/
  | ringEnable (src : Source) (addr : Nat) (w : Word)
  /-- WINDOW_READ (R622): A read of the first data word of an expert window captures the selected item at effective D3. -/
  | windowRead (src : Source) (addr : Nat)
  /-- ENG_CLKSTOP (R623): A write of ENG_CLKSTOP at effective D3 stops or restarts the clock of empty or quiesced quarters. -/
  | engClkstop (src : Source) (e : Nat) (w : Word)
  /-- KILL_TICK (R637): At each kill tick both KILL channels are sampled and the kill state machine advances, blocking the gate. -/
  | killTick (a : Bool) (b : Bool)
  /-- KILL_CLEAR (R638): A write of PWR_KILL.CLEAR ends a latched fault after a quiet period or sets CLEAR_REFUSED. -/
  | killClear (src : Source) (w : Word)
  /-- KILL_T_WRITE (R644): A write of PWR_KILL.T sets a pending discrepancy time that takes effect at an idle tick. -/
  | killTWrite (src : Source) (w : Word)
  /-- TRIGIN_PULSE (R633): A TRIG_IN pulse is ignored, rejected as a glitch, dropped by the dead time, or accepted with its capture queued. -/
  | triginPulse (i : Nat) (first : Nat) (width : Nat) (cap : Capture)
  /-- TRIGIN_STUCK (R634): An input active for STUCK × 2,000 samples is masked and counted once. -/
  | triginStuck (x : StuckInput)
  /-- TRIGIN_CONFIG_WRITE (R633): A write of PWR_TRIGINi changes the input's polarity or enable, ending pulses or emptying its queue. -/
  | triginConfigWrite (src : Source) (i : Nat) (w : Word)
  /-- UNMASK (R634): A write of PWR_TRIGINi.UNMASK clears MASKED while the input is inactive or is refused; `raw`: the
  input is active at the write. -/
  | unmask (src : Source) (i : Nat) (w : Word) (raw : Bool)
  /-- TRIGIN_CAP_READ (R635): A read of word 0 of CHK_TRIGIN_CAPi removes and captures the oldest capture entry. -/
  | triginCapRead (src : Source) (i : Nat)
  /-- ALIVE_TOGGLE (R641): ALIVE changes level at each FC multiple of 1,000. -/
  | aliveToggle
  /-- RAW_TRANSITIONS (R445): A raw-mode lane in DETECT sees transitions on its receiver and enters SEARCH. -/
  | rawTransitions (l : Nat)
  /-- IDLE_WORD (R429): A lane in TRAIN2 receives an idle word after a TS2 with DONE = 1 and enters ACTIVE. -/
  | idleWord (x : LaneWord)
  /-- TRAINING_SET_SENT (R429): A lane finishes sending a TS1 or TS2 and the sent count completes its exit condition, taking it to TRAIN2 or ACTIVE. -/
  | trainingSetSent (l : Nat) (cap : Capture)
  /-- BLOCK_LOCK_GAINED (R417): An enabled Ethernet port gains block lock, and codeword lock under RS-FEC, and begins receiving frames and timing its 1 ms hold toward ACTIVE. -/
  | blockLockGained (x : PortLock)
  /-- BLOCK_LOCK_LOST (R417): An Ethernet port that is not ACTIVE loses block or codeword lock, stops receiving frames and restarts its hold. -/
  | blockLockLost (x : PortLock)
  /-- AUTONEG_DONE (R414): Clause 73 auto-negotiation on a MEDIA 1 port completes and sets AN_DONE, or finds no common ability and restarts with the port down. -/
  | autonegDone (t : Nat) (ok : Bool)
  /-- REF10M_PRESENCE (R377): REF10M_IN enters or leaves ±50 ppm of 10 MHz, changing REF10M_PRESENT and the frequency term used under PPS_REF10M. -/
  | ref10mPresence (present : Bool)
  /-- PCIE_LINK_DOWN (R487): The PCIe link goes down, counting PCIE_DOWN and making M0 ineligible so that a crook it holds is released and an election opens. -/
  | pcieLinkDown
  /-- PCIE_LINK_UP (R478): PCIe link training completes and the link comes up, making M0 eligible to claim the crook again. -/
  | pcieLinkUp (speed : Nat) (width : Nat) (numvfs : Nat)
  /-- REBUILD_RECORD_SKIP (R90): A rebuild record with an unknown OP, an undeclared TABLE or a non-zero LENGTH for DELETE or END is skipped by its whole length and counted in RB_BAD. -/
  | rebuildRecordSkip (p : Nat)
  /-- SMB_UNKNOWN_COMMAND (R481): An SMBus transaction with an unknown command is discarded, executes nothing and counts in SMB_ERR. -/
  | smbUnknownCommand (cmd : Nat)
deriving DecidableEq, Repr

end Sys2Proof
end

