-- ==== Sys2Proof/Decode.lean ====
section
/-! DEFINITION. The commands that a bare word spells. No row of the opcode table gives its command any bits, so no word spells one. -/

namespace Sys2Proof

/-- The command spelt by an nbits-wide word: none, for every word, since no row of the table assigns bits to a command. -/
def decodeTableWord (_nbits _w : Nat) : Option Instr := none

end Sys2Proof
end

