-- ==== Sys2Proof/Machine/Bits.lean ====
section
/-! DEFINITION. Bit fields, signed readings, and byte order of plain numbers (R11, R12, R13). -/

namespace Sys2Proof.Machine

/-- Bits [lo+w-1:lo] of n. -/
def bits (n lo w : Nat) : Nat := n / 2 ^ lo % 2 ^ w

/-- One bit of n. -/
def bit (n i : Nat) : Bool := n / 2 ^ i % 2 == 1

/-- n with its bit i set or cleared. -/
def setBit (n i : Nat) (b : Bool) : Nat := n - n / 2 ^ i % 2 * 2 ^ i + (if b then 2 ^ i else 0)

/-- n with its bits [lo+w-1:lo] replaced by v. -/
def setBits (n lo w v : Nat) : Nat := n - bits n lo w * 2 ^ lo + v % 2 ^ w * 2 ^ lo

/-- The two's complement reading of the low w bits of n. -/
def sext (n w : Nat) : Int := if n % 2 ^ w < 2 ^ (w - 1) then (n % 2 ^ w : Nat) else (n % 2 ^ w : Nat) - (2 : Int) ^ w

/-- The low w bits of an integer. -/
def low (v : Int) (w : Nat) : Nat := (v % (2 : Int) ^ w).toNat

/-- A Bool as a bit. -/
def b2n (b : Bool) : Nat := if b then 1 else 0

/-- The number that bytes spell least significant first (R12). -/
def leNat : List Byte → Nat
  | [] => 0
  | b :: bs => b.toNat + 256 * leNat bs

/-- The number that bytes spell most significant first (R13). -/
def beNat (bs : List Byte) : Nat := bs.foldl (fun a b => a * 256 + b.toNat) 0

/-- n bytes of v, least significant first. -/
def leBytes : Nat → Nat → List Byte
  | 0, _ => []
  | n + 1, v => BitVec.ofNat 8 v :: leBytes n (v / 256)

/-- n bytes of v, most significant first. -/
def beBytes (n v : Nat) : List Byte := (leBytes n v).reverse

/-- Byte i of a list, 0 beyond its end. -/
def byteAt (bs : List Byte) (i : Nat) : Byte := bs.getD i 0

/-- n bytes from offset i. -/
def slice (bs : List Byte) (i n : Nat) : List Byte := (bs.drop i).take n

/-- The list with the element at i replaced. -/
def replaceAt {α : Type} (l : List α) (i : Nat) (v : α) : List α := l.set i v

/-- Bytes overlaid on a list from offset i. -/
def overlay (bs : List Byte) (i : Nat) (vs : List Byte) : List Byte :=
  bs.take i ++ vs ++ bs.drop (i + vs.length)

/-- A list padded with zero bytes to n. -/
def padTo (n : Nat) (bs : List Byte) : List Byte := bs ++ List.replicate (n - bs.length) 0

/-- Numbers from a up to b - 1. -/
def span (a b : Nat) : List Nat := (List.range (b - a)).map (· + a)

/-- A list with positions. -/
def indexed {α : Type} (l : List α) : List (Nat × α) := (List.range l.length).zip l

/-- Ceiling of a / b. -/
def cdiv (a b : Nat) : Nat := (a + b - 1) / b

/-- The positions of set bits of w among the first n. -/
def bitsOf (w n : Nat) : List Nat := (List.range n).filter (bit w)

/-- Number of set bits of w among the first n. -/
def popcount (w n : Nat) : Nat := (bitsOf w n).length

/-- A 48-bit, 64-bit sum that wraps. -/
def add64 (a b : Nat) : Nat := (a + b) % 2 ^ 64

/-- The smallest element of a list by a measure; the first on a tie. -/
def minBy {α : Type} (f : α → Nat) : List α → Option α
  | [] => none
  | x :: xs => match minBy f xs with
    | none => some x
    | some y => if f x ≤ f y then some x else some y

/-- x put into a list before the first element it may precede. -/
def insertBy {α : Type} (le : α → α → Bool) (x : α) : List α → List α
  | [] => [x]
  | y :: ys => if le x y then x :: y :: ys else y :: insertBy le x ys

/-- A list in the order `le`; elements that may stand either way keep their places. -/
def sortBy {α : Type} (le : α → α → Bool) (l : List α) : List α := l.foldr (insertBy le) []

end Sys2Proof.Machine
end

