-- ==== Sys2Proof/Machine/Crypto.lean ====
section
/-! DEFINITION. The checks and digests the spec names by their standards: crc32c (R57), SHA-256 and SHA-384 (FIPS 180-4), and
ECDSA on P-384 (R279, R399, R497). -/

namespace Sys2Proof.Machine

/-- One byte of CRC-32C, reflected polynomial 0x82F63B78. -/
def crcByte (c : Nat) (b : Byte) : Nat :=
  (List.range 8).foldl (fun c _ => if c % 2 = 1 then Nat.xor (c / 2) 0x82F63B78 else c / 2) (Nat.xor c b.toNat)

/-- CRC-32C with initial value and final exclusive-or 0xFFFF_FFFF, over the bytes in order (R57). -/
def crc32c (bs : List Byte) : Nat := Nat.xor (bs.foldl crcByte 0xFFFFFFFF) 0xFFFFFFFF

/-- Round constants of SHA-256. -/
def sha256K : List (BitVec 32) :=
  [0x428A2F98, 0x71374491, 0xB5C0FBCF, 0xE9B5DBA5, 0x3956C25B, 0x59F111F1, 0x923F82A4, 0xAB1C5ED5, 0xD807AA98, 0x12835B01, 0x243185BE, 0x550C7DC3, 0x72BE5D74, 0x80DEB1FE, 0x9BDC06A7, 0xC19BF174]
  ++ [0xE49B69C1, 0xEFBE4786, 0x0FC19DC6, 0x240CA1CC, 0x2DE92C6F, 0x4A7484AA, 0x5CB0A9DC, 0x76F988DA, 0x983E5152, 0xA831C66D, 0xB00327C8, 0xBF597FC7, 0xC6E00BF3, 0xD5A79147, 0x06CA6351, 0x14292967]
  ++ [0x27B70A85, 0x2E1B2138, 0x4D2C6DFC, 0x53380D13, 0x650A7354, 0x766A0ABB, 0x81C2C92E, 0x92722C85, 0xA2BFE8A1, 0xA81A664B, 0xC24B8B70, 0xC76C51A3, 0xD192E819, 0xD6990624, 0xF40E3585, 0x106AA070]
  ++ [0x19A4C116, 0x1E376C08, 0x2748774C, 0x34B0BCB5, 0x391C0CB3, 0x4ED8AA4A, 0x5B9CCA4F, 0x682E6FF3, 0x748F82EE, 0x78A5636F, 0x84C87814, 0x8CC70208, 0x90BEFFFA, 0xA4506CEB, 0xBEF9A3F7, 0xC67178F2]

/-- Initial value of SHA-256. -/
def sha256H : List (BitVec 32) := [0x6A09E667, 0xBB67AE85, 0x3C6EF372, 0xA54FF53A, 0x510E527F, 0x9B05688C, 0x1F83D9AB, 0x5BE0CD19]

/-- Round constants of SHA-512, which SHA-384 uses. -/
def sha512K : List (BitVec 64) :=
  [0x428A2F98D728AE22, 0x7137449123EF65CD, 0xB5C0FBCFEC4D3B2F, 0xE9B5DBA58189DBBC, 0x3956C25BF348B538, 0x59F111F1B605D019, 0x923F82A4AF194F9B, 0xAB1C5ED5DA6D8118, 0xD807AA98A3030242, 0x12835B0145706FBE, 0x243185BE4EE4B28C, 0x550C7DC3D5FFB4E2, 0x72BE5D74F27B896F, 0x80DEB1FE3B1696B1, 0x9BDC06A725C71235, 0xC19BF174CF692694]
  ++ [0xE49B69C19EF14AD2, 0xEFBE4786384F25E3, 0x0FC19DC68B8CD5B5, 0x240CA1CC77AC9C65, 0x2DE92C6F592B0275, 0x4A7484AA6EA6E483, 0x5CB0A9DCBD41FBD4, 0x76F988DA831153B5, 0x983E5152EE66DFAB, 0xA831C66D2DB43210, 0xB00327C898FB213F, 0xBF597FC7BEEF0EE4, 0xC6E00BF33DA88FC2, 0xD5A79147930AA725, 0x06CA6351E003826F, 0x142929670A0E6E70]
  ++ [0x27B70A8546D22FFC, 0x2E1B21385C26C926, 0x4D2C6DFC5AC42AED, 0x53380D139D95B3DF, 0x650A73548BAF63DE, 0x766A0ABB3C77B2A8, 0x81C2C92E47EDAEE6, 0x92722C851482353B, 0xA2BFE8A14CF10364, 0xA81A664BBC423001, 0xC24B8B70D0F89791, 0xC76C51A30654BE30, 0xD192E819D6EF5218, 0xD69906245565A910, 0xF40E35855771202A, 0x106AA07032BBD1B8]
  ++ [0x19A4C116B8D2D0C8, 0x1E376C085141AB53, 0x2748774CDF8EEB99, 0x34B0BCB5E19B48A8, 0x391C0CB3C5C95A63, 0x4ED8AA4AE3418ACB, 0x5B9CCA4F7763E373, 0x682E6FF3D6B2B8A3, 0x748F82EE5DEFB2FC, 0x78A5636F43172F60, 0x84C87814A1F0AB72, 0x8CC702081A6439EC, 0x90BEFFFA23631E28, 0xA4506CEBDE82BDE9, 0xBEF9A3F7B2C67915, 0xC67178F2E372532B]
  ++ [0xCA273ECEEA26619C, 0xD186B8C721C0C207, 0xEADA7DD6CDE0EB1E, 0xF57D4F7FEE6ED178, 0x06F067AA72176FBA, 0x0A637DC5A2C898A6, 0x113F9804BEF90DAE, 0x1B710B35131C471B, 0x28DB77F523047D84, 0x32CAAB7B40C72493, 0x3C9EBE0A15C9BEBC, 0x431D67C49C100D4C, 0x4CC5D4BECB3E42B6, 0x597F299CFC657E2A, 0x5FCB6FAB3AD6FAEC, 0x6C44198C4A475817]

/-- Initial value of SHA-384. -/
def sha384H : List (BitVec 64) := [0xCBBB9D5DC1059ED8, 0x629A292A367CD507, 0x9159015A3070DD17, 0x152FECD8F70E5939, 0x67332667FFC00B31, 0x8EB44A8768581511, 0xDB0C2E0D64F98FA7, 0x47B5481DBEFA4FA4]

/-- The rotations of the two SHA-2 families: Σ0, Σ1, σ0, σ1 (the last entry of σ is a shift). -/
structure ShaPar where
  w : Nat
  s0 : Nat × Nat × Nat
  s1 : Nat × Nat × Nat
  g0 : Nat × Nat × Nat
  g1 : Nat × Nat × Nat
  rounds : Nat

/-- SHA-256's. -/
def par256 : ShaPar := ⟨32, (2, 13, 22), (6, 11, 25), (7, 18, 3), (17, 19, 10), 64⟩

/-- SHA-384's. -/
def par384 : ShaPar := ⟨64, (28, 34, 39), (14, 18, 41), (1, 8, 7), (19, 61, 6), 80⟩

/-- Three rotations exclusive-ored. -/
def rot3 {w : Nat} (r : Nat × Nat × Nat) (x : BitVec w) : BitVec w :=
  x.rotateRight r.1 ^^^ x.rotateRight r.2.1 ^^^ x.rotateRight r.2.2

/-- Two rotations and a shift exclusive-ored. -/
def rotS {w : Nat} (r : Nat × Nat × Nat) (x : BitVec w) : BitVec w :=
  x.rotateRight r.1 ^^^ x.rotateRight r.2.1 ^^^ (x >>> r.2.2)

/-- The message schedule, newest word first. -/
def shaExtend {w : Nat} (p : ShaPar) : Nat → List (BitVec w) → List (BitVec w)
  | 0, l => l
  | n + 1, l => shaExtend p n ((rotS p.g1 (l.getD 1 0) + l.getD 6 0 + rotS p.g0 (l.getD 14 0) + l.getD 15 0) :: l)

/-- One round over the eight working variables a to h. -/
def shaRound {w : Nat} (p : ShaPar) (v : List (BitVec w)) (kw : BitVec w) : List (BitVec w) :=
  let a := v.getD 0 0
  let b := v.getD 1 0
  let c := v.getD 2 0
  let e := v.getD 4 0
  let f := v.getD 5 0
  let g := v.getD 6 0
  let t1 := v.getD 7 0 + rot3 p.s1 e + ((e &&& f) ^^^ (~~~e &&& g)) + kw
  let t2 := rot3 p.s0 a + ((a &&& b) ^^^ (a &&& c) ^^^ (b &&& c))
  [t1 + t2, a, b, c, v.getD 3 0 + t1, e, f, g]

/-- One block. -/
def shaBlock {w : Nat} (p : ShaPar) (k : List (BitVec w)) (h : List (BitVec w)) (blk : List (BitVec w)) : List (BitVec w) :=
  let sched := (shaExtend p (p.rounds - 16) blk.reverse).reverse
  let v := (k.zipWith (· + ·) sched).foldl (shaRound p) h
  h.zipWith (· + ·) v

/-- A list cut into n pieces of m. -/
def chunk {α : Type} (m : Nat) : Nat → List α → List (List α)
  | 0, _ => []
  | n + 1, l => l.take m :: chunk m n (l.drop m)

/-- SHA-2 of a byte string, as the concatenated final words. -/
def sha2 {w : Nat} (p : ShaPar) (k h0 : List (BitVec w)) (msg : List Byte) : List (BitVec w) :=
  let bs := p.w / 8
  let blk := 16 * bs
  let len := msg.length
  let z := (blk - (len + 1 + 2 * bs) % blk) % blk
  let m := msg ++ [0x80] ++ List.replicate z 0 ++ beBytes (2 * bs) (8 * len)
  let words := (chunk bs (m.length / bs) m).map (fun c => BitVec.ofNat w (beNat c))
  (chunk 16 (words.length / 16) words).foldl (shaBlock p k) h0

/-- SHA-256, 32 bytes. -/
def sha256 (msg : List Byte) : List Byte := (sha2 par256 sha256K sha256H msg).flatMap (fun x => beBytes 4 x.toNat)

/-- SHA-384 as a number, most significant byte first. -/
def sha384 (msg : List Byte) : Nat := beNat (((sha2 par384 sha512K sha384H msg).take 6).flatMap (fun x => beBytes 8 x.toNat))

/-- The prime of P-384. -/
def p384 : Nat := 2 ^ 384 - 2 ^ 128 - 2 ^ 96 + 2 ^ 32 - 1
/-- The order of P-384's base point. -/
def n384 : Nat := 0xFFFFFFFFFFFFFFFFFFFFFFFFFFFFFFFFFFFFFFFFFFFFFFFFC7634D81F4372DDF581A0DB248B0A77AECEC196ACCC52973
/-- The coefficient b of P-384. -/
def b384 : Nat := 0xB3312FA7E23EE7E4988E056BE3F82D19181D9C6EFE8141120314088F5013875AC656398D8A2ED19D2A85C8EDD3EC2AEF
/-- The base point of P-384. -/
def g384 : Nat × Nat := (0xAA87CA22BE8B05378EB1C71EF320AD746E1D3B628BA79B9859F741E082542A385502F25DBF55296C3A545E3872760AB7, 0x3617DE4A96262C6F5D9E98BF9292DC29F8F41DBD289A147CE9DA3113B5F0B8C00A60B1CE1D7E819D7A431D7C90EA0E5F)

/-- x ^ e mod m by its bits, most significant first. -/
def powMod (m x e : Nat) : Nat :=
  (List.range 384).foldr (fun i acc => let a := acc * acc % m; if bit e i then a * x % m else a) 1

/-- The point is on P-384. -/
def onCurve (x y : Nat) : Bool :=
  decide (x < p384) && decide (y < p384) && (y * y % p384 == (x * x * x + (p384 - 3) * x + b384) % p384)

/-- Sum of two points in affine form; none is the point at infinity. -/
def ptAdd (a b : Option (Nat × Nat)) : Option (Nat × Nat) :=
  match a, b with
  | none, q => q
  | q, none => q
  | some (x1, y1), some (x2, y2) =>
    if x1 = x2 ∧ (y1 + y2) % p384 = 0 then none
    else
      let l := if x1 = x2 then
          (3 * x1 * x1 + p384 - 3) % p384 * powMod p384 (2 * y1 % p384) (p384 - 2) % p384
        else (y2 + p384 - y1) % p384 * powMod p384 ((x2 + p384 - x1) % p384) (p384 - 2) % p384
      let x3 := (l * l + 2 * p384 - x1 - x2) % p384
      some (x3, (l * ((x1 + p384 - x3) % p384) + p384 - y1) % p384)

/-- k times a point. -/
def ptMul (k : Nat) (q : Option (Nat × Nat)) : Option (Nat × Nat) :=
  (List.range 384).foldr (fun i acc => let a := ptAdd acc acc; if bit k i then ptAdd a q else a) none

/-- ECDSA verification of (r, s) over the digest z under a public key. -/
def ecdsaOk (key : Nat × Nat) (z r s : Nat) : Bool :=
  if r = 0 ∨ s = 0 ∨ n384 ≤ r ∨ n384 ≤ s ∨ onCurve key.1 key.2 = false then false
  else
    let w := powMod n384 s (n384 - 2)
    match ptAdd (ptMul (z % n384 * w % n384) (some g384)) (ptMul (r * w % n384) (some key)) with
    | none => false
    | some (x, _) => x % n384 == r

/-- A signed message of 64 bytes with its 96-byte signature, r then s, each big-endian (R399, R497). -/
def signedOk (key : Nat × Nat) (msg : List Byte) : Bool :=
  ecdsaOk key (sha384 (msg.take 64)) (beNat (slice msg 64 48)) (beNat (slice msg 112 48))

end Sys2Proof.Machine
end

