-- ==== Sys2Proof/Machine/Coding.lean ====
section
/-! DEFINITION. What the serial lines carry beside data: the 8b/10b code groups of IEEE 802.3 clause 36, which framed Ouvust lanes use (R420 to
R422), and the preamble, SFD and FCS of an Ethernet frame (R414). PRESUMED (log 142): the spec names the two standards and prints neither the
tables nor the polynomial. -/

namespace Sys2Proof.Machine

/-- A symbol of a lane (R420): a data byte, or a K character named by its byte. -/
structure Sym where
  k : Bool := false
  b : Byte
deriving DecidableEq, Repr

/-- The three K characters that the device sends and takes (R421): the comma K28.5, /S/ K27.7 and /T/ K29.7. -/
def comma : Sym := ⟨true, 0xBC⟩
/-- /S/. -/
def symS : Sym := ⟨true, 0xFB⟩
/-- /T/. -/
def symT : Sym := ⟨true, 0xFD⟩

/-- A data symbol. -/
def Sym.data (b : Byte) : Sym := ⟨false, b⟩

/-- An idle word (R422): K28.5 and three D10.2. -/
def idleWord : List Sym := [comma, .data 0x4A, .data 0x4A, .data 0x4A]

/-- Bits abcdei of D.x, x from 0 to 31, at negative running disparity, a highest. -/
def sixes : List Nat :=
  [0b100111, 0b011101, 0b101101, 0b110001, 0b110101, 0b101001, 0b011001, 0b111000, 0b111001, 0b100101, 0b010101, 0b110100, 0b001101, 0b101100, 0b011100, 0b010111]
  ++ [0b011011, 0b100011, 0b010011, 0b110010, 0b001011, 0b101010, 0b011010, 0b111010, 0b110011, 0b100110, 0b010110, 0b110110, 0b001110, 0b101110, 0b011110, 0b101011]

/-- Bits fghj of D.y, y from 0 to 7, at negative running disparity, f highest. -/
def fours : List Nat := [0b1011, 0b1001, 0b0101, 0b1100, 0b1101, 0b1010, 0b0110, 0b1110]

/-- Running disparity after a sub-block of n bits; true is positive. -/
def rdAfter (n : Nat) (rd : Bool) (v : Nat) : Bool :=
  if n < 2 * popcount v n then true
  else if 2 * popcount v n < n then false
  else if v = 2 ^ (n / 2) - 1 then true
  else if v = 2 ^ n - 2 ^ (n / 2) then false
  else rd

/-- Six bits of D.x. -/
def six (rd : Bool) (x : Nat) : Nat :=
  let v := sixes.getD x 0
  if rd && (popcount v 6 != 3 || x == 7) then 63 - v else v

/-- Four bits of D.x.y after the six bits of x: D.x.A7 takes the place of D.x.7 where the line would hold five equal bits. -/
def four (rd : Bool) (x y : Nat) : Nat :=
  if y = 7 ∧ ((if rd then [11, 13, 14] else [17, 18, 20]).contains x) then (if rd then 0b1000 else 0b0111)
  else
    let v := fours.getD y 0
    if rd && (popcount v 4 != 2 || y == 3) then 15 - v else v

/-- The code group of a symbol at a running disparity: bits abcdei fghj, a highest (R420). -/
def codeGroup (rd : Bool) (s : Sym) : Nat :=
  let x := s.b.toNat % 32
  if s.k then
    if s = comma then (if rd then 0b1100000101 else 0b0011111010)
    else
      let v := six rd x
      v * 16 + (if rdAfter 6 rd v then 0b1000 else 0b0111)
  else
    let v := six rd x
    v * 16 + four (rdAfter 6 rd v) x (s.b.toNat / 32)

/-- Running disparity after a code group. -/
def rdCode (rd : Bool) (c : Nat) : Bool := rdAfter 4 (rdAfter 6 rd (c / 16)) (c % 16)

/-- The symbol of a code group at a running disparity, if it is one that the device takes (R421): none is a code error, be it an invalid code
group, a disparity error or another K character. -/
def symOf (rd : Bool) (c : Nat) : Option Sym :=
  let v := c / 16
  let rd1 := rdAfter 6 rd v
  match (List.range 32).find? (fun x => six rd x == v) with
  | some x => match (List.range 8).find? (fun y => four rd1 x y == c % 16) with
    | some y => some (.data (BitVec.ofNat 8 (y * 32 + x)))
    | none => [symS, symT].find? (fun s => codeGroup rd s == c)
  | none => if codeGroup rd comma = c then some comma else none

/-- Code groups of symbols in order, and the running disparity after them. -/
def encodeSyms (rd : Bool) : List Sym → List Nat × Bool
  | [] => ([], rd)
  | s :: rest =>
    let c := codeGroup rd s
    let r := encodeSyms (rdCode rd c) rest
    (c :: r.1, r.2)

/-- Symbols of code groups in order; none for a code error (R421). -/
def decodeSyms (rd : Bool) : List Nat → List (Option Sym)
  | [] => []
  | c :: rest => symOf rd c :: decodeSyms (rdCode rd c) rest

/-- Four code groups in a word of the line (R420): symbol 0 goes first, bit a of each first; the bit sent first stands highest. -/
def packWords : List Nat → List (BitVec 40)
  | a :: b :: c :: d :: rest => BitVec.ofNat 40 (((a * 1024 + b) * 1024 + c) * 1024 + d) :: packWords rest
  | _ => []

/-- The code groups of a word, symbol 0 first. -/
def wordCodes (w : BitVec 40) : List Nat := [w.toNat / 2 ^ 30 % 1024, w.toNat / 2 ^ 20 % 1024, w.toNat / 2 ^ 10 % 1024, w.toNat % 1024]

/-- The words of a frame (R424): header, payload padded to whole words, and trailer. -/
def frameSyms (h1 h2 : Byte) (payload : List Byte) : List Sym :=
  let n := cdiv payload.length 4
  let pay := padTo (4 * n) payload
  let h3 := BitVec.ofNat 8 n
  [symS, .data h1, .data h2, .data h3] ++ pay.map Sym.data ++ (leBytes 3 (crc32c ([h1, h2, h3] ++ pay))).map Sym.data ++ [symT]

/-- An S frame (R424). -/
def sSyms (chan seq : Nat) (payload : List Byte) : List Sym := frameSyms (BitVec.ofNat 8 (chan % 64)) (BitVec.ofNat 8 seq) payload

/-- An R or B frame (R424): class 1 or 2. -/
def relSyms (cls seq : Nat) (payload : List Byte) : List Sym :=
  frameSyms (BitVec.ofNat 8 (64 * cls + seq / 256 % 16)) (BitVec.ofNat 8 seq) payload

/-- A control frame (R424). -/
def controlSyms (nak : Bool) (cls seq : Nat) : List Sym :=
  frameSyms (BitVec.ofNat 8 (192 + (if cls = 2 then 32 else 0) + (if nak then 16 else 0) + seq / 256 % 16)) (BitVec.ofNat 8 seq) []

/-- A training set (R431, R432): a comma, the bytes after it, and their CRC. -/
def trainingSyms (body : List Byte) : List Sym := comma :: (body ++ leBytes 3 (crc32c body)).map Sym.data

/-- One byte of CRC-32 of IEEE 802.3, reflected polynomial 0xEDB88320. -/
def fcsByte (c : Nat) (b : Byte) : Nat :=
  (List.range 8).foldl (fun c _ => if c % 2 = 1 then Nat.xor (c / 2) 0xEDB88320 else c / 2) (Nat.xor c b.toNat)

/-- The FCS of a frame. -/
def fcs (bs : List Byte) : Nat := Nat.xor (bs.foldl fcsByte 0xFFFFFFFF) 0xFFFFFFFF

/-- A frame as the port sends it (R384, R414): seven bytes of preamble, SFD, the frame and its FCS. -/
def ethLine (bs : List Byte) : List Byte := List.replicate 7 0x55 ++ [0xD5] ++ bs ++ leBytes 4 (fcs bs)

end Sys2Proof.Machine
end

