-- ==== Sys2Proof/Config.lean ====
section
/-! DEFINITION. The fixed figures of the device (R7) and the free values: the values the spec leaves open, as constants without a body. -/

namespace Sys2Proof.Config

/-- A value the spec leaves open, drawn afresh at each number of State.free: OWN_NONCE (R497), an unstated
placement. Nothing can evaluate it. -/
opaque freeValue : Nat → BitVec 64

/-- A byte past the 32 of a beat, by the beat and the byte's number: what a LEAF reads whose IBASE + NT goes beyond its beat (R200). -/
opaque pastBeat : BitVec 256 → Nat → BitVec 8

/-- Masters that can hold the crook (R478). -/
def nMasters : Nat := 4
/-- Pastures P00 to P63 (R7). -/
def nPastures : Nat := 64
/-- Engines E0 to E7 (R7). -/
def nEngines : Nat := 8
/-- Ethernet ports ET00 to ET15 (R7). -/
def nPorts : Nat := 16
/-- Ouvust lanes OV00 to OV63 (R7). -/
def nLanes : Nat := 64
/-- Row words of the Larder (R77). -/
def rowWords : Nat := 3145728
/-- Buckets of one directory bank (R77). -/
def buckets : Nat := 524288
/-- Attic extents of 64 KiB (R286). -/
def atticExtents : Nat := 1024
/-- Template units of 64 bytes (R490). -/
def templateUnits : Nat := 32768
/-- Slots of one quarter (R123). -/
def slotsPerQuarter : Nat := 256
/-- Bytes of a capture ring (R307). -/
def captureRing : Nat := 4194304
/-- Largest certified latency in ns (R3). -/
def maxLatency : Nat := 1950

end Sys2Proof.Config
end

