-- ==== Sys2Proof/Machine/Map.lean ====
section
/-! DEFINITION. Sparse data by number: an association list in one canonical form, keys strictly rising and no entry
equal to what an absent key reads as. Every memory and every bank of like registers of the state is one. -/

namespace Sys2Proof.Machine

/-- An association list from numbers. -/
abbrev KMap (α : Type) := List (Nat × α)

/-- What key k holds; `d` where it is absent. -/
def KMap.get {α : Type} (d : α) : KMap α → Nat → α
  | [], _ => d
  | (j, v) :: m, k => if j = k then v else KMap.get d m k

/-- Put v at key k, keeping keys in rising order. -/
def KMap.insert {α : Type} : KMap α → Nat → α → KMap α
  | [], k, v => [(k, v)]
  | (j, u) :: m, k, v =>
    if k < j then (k, v) :: (j, u) :: m
    else if k = j then (k, v) :: m
    else (j, u) :: KMap.insert m k v

/-- Forget key k. -/
def KMap.erase {α : Type} (m : KMap α) (k : Nat) : KMap α := m.filter (fun x => x.1 != k)

/-- Key k now holds v; writing the default removes the entry. -/
def KMap.set {α : Type} [DecidableEq α] (d : α) (m : KMap α) (k : Nat) (v : α) : KMap α :=
  if v = d then KMap.erase m k else KMap.insert m k v

/-- Change what key k holds. -/
def KMap.upd {α : Type} [DecidableEq α] (d : α) (m : KMap α) (k : Nat) (f : α → α) : KMap α :=
  KMap.set d m k (f (KMap.get d m k))

/-- Keep only the keys that satisfy p. -/
def KMap.keep {α : Type} (m : KMap α) (p : Nat → Bool) : KMap α := m.filter (fun x => p x.1)

/-- Write consecutive keys from k. -/
def KMap.setRange {α : Type} [DecidableEq α] (d : α) : KMap α → Nat → List α → KMap α
  | m, _, [] => m
  | m, k, v :: vs => KMap.setRange d (KMap.set d m k v) (k + 1) vs

/-- Read n consecutive keys from k. -/
def KMap.getRange {α : Type} (d : α) (m : KMap α) (k n : Nat) : List α :=
  (List.range n).map (fun i => KMap.get d m (k + i))

/-- Keys strictly rising. -/
def KMap.rising {α : Type} : KMap α → Bool
  | [] => true
  | [_] => true
  | (j, _) :: (k, v) :: m => decide (j < k) && KMap.rising ((k, v) :: m)

/-- The canonical form: keys strictly rising, no entry equal to the default. -/
def KMap.wf {α : Type} [DecidableEq α] (d : α) (m : KMap α) : Bool :=
  KMap.rising m && m.all (fun x => decide (x.2 ≠ d))

end Sys2Proof.Machine
end

