-- ==== Sys2Proof/Machine/Numeric.lean ====
section
/-! DEFINITION. The number formats and the arithmetic of the datapath (R154 to R173, R195 to R198, R227, R252, R253, R263, R329,
R333, R335): values as exact integers, narrowed once at each rounding point. -/

namespace Sys2Proof.Machine

/-- What a computation has counted: codes and operands replaced (R159), saturations and flushes of round32, operand faults,
flat normalisations, clipped lanes and non-zero lanes whose code stands for zero. -/
structure Tl where
  special : Nat := 0
  sat : Nat := 0
  flush : Nat := 0
  operandBad : Nat := 0
  flat : Nat := 0
  clip : Nat := 0
  under : Nat := 0
deriving DecidableEq, Repr

/-- A computation that counts. -/
abbrev Num (α : Type) := Tl → α × Tl

/-- A computation that counts nothing. -/
def Num.ret {α : Type} (x : α) : Num α := fun t => (x, t)

/-- One computation after another. -/
def Num.seq {α β : Type} (f : Num α) (g : α → Num β) : Num β := fun t => g (f t).1 (f t).2

/-- The same computation on each element, in order. -/
def Num.all {α β : Type} (f : α → Num β) : List α → Num (List β)
  | [] => Num.ret []
  | x :: xs => Num.seq (f x) (fun y => Num.seq (Num.all f xs) (fun ys => Num.ret (y :: ys)))

/-- A running computation over a list. -/
def Num.fold {α β : Type} (f : β → α → Num β) : β → List α → Num β
  | b, [] => Num.ret b
  | b, x :: xs => Num.seq (f b x) (fun b' => Num.fold f b' xs)

/-- Bits needed for n. -/
def bitLen (n : Nat) : Nat := if n = 0 then 0 else Nat.log2 n + 1

/-- (−1)^s × n. -/
def signed (s : Bool) (n : Nat) : Int := if s then -(n : Int) else n

/-- 2^e for a signed shift of an integer count upward. -/
def shl (n : Nat) (e : Int) : Nat := n * 2 ^ e.toNat

/-- An expanded operand (−1)^s × m × 2^x (R158). -/
structure Xop where
  s : Bool := false
  m : Nat := 0
  x : Int := 0
deriving DecidableEq, Repr

/-- Width of a format (R154). -/
def fmtWidth (f : Nat) : Nat :=
  match f with
  | 0 => 1
  | 1 | 2 | 3 => 2
  | 4 | 5 | 6 => 4
  | 7 | 8 | 9 => 8
  | 10 => 16
  | _ => 32

/-- Elements of a format in a beat. -/
def epb (f : Nat) : Nat := 256 / fmtWidth f

/-- Element i of width w of a beat (R156). -/
def elem (v w i : Nat) : Nat := bits v (w * i) w

/-- Expansion of a code (R158) with the replacements of R159; `cb` is the codebook beat. -/
def expand (f c cb : Nat) : Num Xop := fun t =>
  let sp (x : Xop) : Xop × Tl := (x, { t with special := t.special + 1 })
  let v := sext c (fmtWidth f)
  match f with
  | 0 => (⟨c % 2 == 0, 1, 0⟩, t)
  | 2 => if c = 2 then sp {} else (⟨c == 3, b2n (c != 0), 0⟩, t)
  | 1 | 4 | 7 => (⟨decide (v < 0), v.natAbs, 0⟩, t)
  | 3 | 6 => let e := bits cb (16 * c) 16; (⟨bit e 15, bits e 0 8, sext (bits e 8 6) 6⟩, t)
  | 5 => let e := bits c 1 2; (if e = 0 then ⟨bit c 3, bits c 0 1, -1⟩ else ⟨bit c 3, 2 + bits c 0 1, (e : Int) - 2⟩, t)
  | 8 =>
    let e := bits c 3 4
    if e = 15 ∧ bits c 0 3 = 7 then sp ⟨bit c 7, 14, 5⟩
    else (if e = 0 then ⟨bit c 7, bits c 0 3, -9⟩ else ⟨bit c 7, 8 + bits c 0 3, (e : Int) - 10⟩, t)
  | 9 =>
    let e := bits c 2 5
    if e = 31 then sp ⟨bit c 7, 7, 13⟩
    else (if e = 0 then ⟨bit c 7, bits c 0 2, -16⟩ else ⟨bit c 7, 4 + bits c 0 2, (e : Int) - 17⟩, t)
  | _ =>
    let e := bits c 7 8
    if e = 255 then sp ⟨bit c 15, 255, 120⟩
    else (if e = 0 then ⟨bit c 15, bits c 0 7, -133⟩ else ⟨bit c 15, 128 + bits c 0 7, (e : Int) - 134⟩, t)

/-- The group sum S and its exponent X (R164): terms aligned to the largest product exponent, 24 bits below it, the rest discarded
toward zero. -/
def groupSum (ps : List (Xop × Xop)) : Int × Int :=
  let live := ps.filter (fun p => p.1.m != 0 && p.2.m != 0)
  match live with
  | [] => (0, 0)
  | p :: rest =>
    let X := rest.foldl (fun X q => max X (q.1.x + q.2.x)) (p.1.x + p.2.x)
    (live.foldl (fun S q =>
      let d := (X - (q.1.x + q.2.x)).toNat
      let t := if d ≤ 40 then q.1.m * q.2.m * 2 ^ 24 / 2 ^ d else 0
      S + signed (q.1.s != q.2.s) t) 0, X)

/-- Rounding of an integer n and an exponent e to 24 significant bits, ties to even: (q, exponent of its leading bit). -/
def round24 (n : Nat) (e : Int) : Nat × Int :=
  let L := bitLen n
  let E := e + L - 1
  if L ≤ 24 then (n * 2 ^ (24 - L), E)
  else
    let q := n / 2 ^ (L - 24)
    let r := n % 2 ^ (L - 24)
    let h := 2 ^ (L - 25)
    let q := if h < r ∨ (r = h ∧ q % 2 = 1) then q + 1 else q
    if q = 2 ^ 24 then (2 ^ 23, E + 1) else (q, E)

/-- round32 (R168). -/
def round32 (s : Bool) (n : Nat) (e : Int) : Num Nat := fun t =>
  if n = 0 then (0, t)
  else
    let r := round24 n e
    let sg := b2n s * 2 ^ 31
    if 127 < r.2 then (sg + 0x7F7FFFFF, { t with sat := t.sat + 1 })
    else if r.2 < -126 then (0, { t with flush := t.flush + 1 })
    else (sg + (r.2 + 127).toNat * 2 ^ 23 + r.1 % 2 ^ 23, t)

/-- round32 of a signed exact value. -/
def roundInt (v : Int) (e : Int) : Num Nat := round32 (decide (v < 0)) v.natAbs e

/-- decode32 (R169): sign, significand, exponent. -/
def decode32 (v : Nat) : Num Xop := fun t =>
  let be := bits v 23 8
  if be = 0 then ({}, t)
  else if be = 255 then (⟨bit v 31, 2 ^ 24 - 1, 104⟩, { t with special := t.special + 1 })
  else (⟨bit v 31, 2 ^ 23 + bits v 0 23, (be : Int) - 150⟩, t)

/-- norm32 (R195): infinities and NaNs replaced and counted, subnormals and −0 read as +0. -/
def norm32 (v : Nat) : Num Nat := fun t =>
  if bits v 23 8 = 255 then (b2n (bit v 31) * 2 ^ 31 + 0x7F7FFFFF, { t with special := t.special + 1 })
  else (if bits v 23 8 = 0 then 0 else v, t)

/-- norm32 and decode32 of an operand. -/
def read32 (v : Nat) : Num Xop := Num.seq (norm32 v) decode32

/-- An operand as an integer count of 2^e. -/
def Xop.int (a : Xop) (e : Int) : Int := signed a.s (shl a.m (a.x - e))

/-- add32 (R169). -/
def add32 (p q : Nat) : Num Nat :=
  Num.seq (decode32 p) (fun a => Num.seq (decode32 q) (fun b =>
    let e := min a.x b.x
    roundInt (a.int e + b.int e) e))

/-- accumulate (R169). -/
def accumulate (bias : Nat) (g : List Nat) : Num Nat := Num.fold add32 bias g

/-- mul32 (R195). -/
def mul32 (p q : Nat) : Num Nat :=
  Num.seq (read32 p) (fun a => Num.seq (read32 q) (fun b =>
    if a.m = 0 ∨ b.m = 0 then Num.ret 0 else round32 (a.s != b.s) (a.m * b.m) (a.x + b.x)))

/-- The exact difference p − q and its exponent. -/
def diff32 (p q : Nat) : Num (Int × Int) :=
  Num.seq (read32 p) (fun a => Num.seq (read32 q) (fun b =>
    let e := min a.x b.x
    Num.ret (a.int e - b.int e, e)))

/-- cmp32 (R195): 1, 0 or −1. -/
def cmp32 (p q : Nat) : Num Int := Num.seq (diff32 p q) (fun d => Num.ret (d.1.sign))

/-- affine32 (R197). -/
def affine32 (v c0 c1 : Nat) : Num Nat :=
  Num.seq (diff32 v c0) (fun d => Num.seq (read32 c1) (fun c =>
    if d.1 = 0 ∨ c.m = 0 then Num.ret 0 else round32 (decide (d.1 < 0) != c.s) (d.1.natAbs * c.m) (d.2 + c.x)))

/-- The integer square root, by its bits from the highest of `k`. -/
def isqrt (n : Nat) : Nat → Nat → Nat
  | 0, r => r
  | k + 1, r => isqrt n k (if (r + 2 ^ k) * (r + 2 ^ k) ≤ n then r + 2 ^ k else r)

/-- rsqrt32 (R197): the binary32 value nearest to a^(−1/2). -/
def rsqrt32 (a : Nat) : Num Nat :=
  Num.seq (decode32 a) (fun o =>
    let odd := o.x % 2 ≠ 0
    let n := if odd then 2 * o.m else o.m
    let x := if odd then o.x - 1 else o.x
    if n = 0 then Num.ret 0
    else
      let f := isqrt (2 ^ 128 / n) 64 0
      let sticky := b2n (f * f * n != 2 ^ 128)
      round32 false (2 * f + sticky) (-65 - x / 2))

/-- layer32 (R197). -/
def layer32 (v : List Nat) (eps : Nat) : Num (List Nat) :=
  let n := v.length
  let b : Int := (Nat.log2 n : Nat)
  Num.seq (Num.all read32 v) (fun os =>
    let e := os.foldl (fun e o => min e o.x) ((os.head?.map Xop.x).getD 0)
    let xs := os.map (fun o => o.int e)
    let T := xs.foldl (· + ·) 0
    Num.seq (if T = 0 then Num.ret 0 else roundInt T (e - b)) (fun mu =>
    Num.seq (decode32 mu) (fun m =>
      let f := min e m.x
      let ds := xs.map (fun x => x * (2 : Int) ^ (e - f).toNat - m.int f)
      let Q := (ds.map (fun d => d.natAbs * d.natAbs)).sum
      Num.seq (if Q = 0 then Num.ret 0 else round32 false Q (2 * f - b)) (fun var =>
      Num.seq (fun t => ((), if var = 0 then { t with flat := t.flat + 1 } else t)) (fun _ =>
      Num.seq (norm32 eps) (fun ep =>
      Num.seq (add32 var ep) (fun den =>
        if den = 0 then Num.ret (v.map (fun _ => 0))
        else Num.seq (rsqrt32 den) (fun r => Num.seq (decode32 r) (fun rr =>
          Num.all (fun d => if d = 0 then Num.ret 0 else round32 (decide (d < 0)) (d.natAbs * rr.m) (f + rr.x)) ds)))))))))

/-- rint (R252). -/
def rint (s : Bool) (n : Nat) (e : Int) : Int :=
  let mag :=
    if 0 ≤ e then (if 6 < e then 2 ^ 30 else min (n * 2 ^ e.toNat) (2 ^ 30))
    else if e ≤ -25 then 0
    else
      let h := (-e).toNat
      let m := n / 2 ^ h
      let r := n % 2 ^ h
      if 2 ^ (h - 1) < r ∨ (r = 2 ^ (h - 1) ∧ m % 2 = 1) then m + 1 else m
  signed s mag

/-- Limits of the integer formats (R252). -/
def intLimits (f : Nat) : Option (Int × Int) :=
  match f with
  | 1 => some (-2, 1)
  | 2 => some (-1, 1)
  | 4 => some (-8, 7)
  | 7 => some (-128, 127)
  | _ => none

/-- mb, bias, MM, MQ and MAXCODE of the float formats (R253). -/
def floatPar (f : Nat) : Nat × Int × Int × Int × Nat :=
  match f with
  | 5 => (1, 1, 3, 1, 7)
  | 8 => (3, 7, 14, 5, 0x7E)
  | _ => (2, 15, 7, 13, 0x7B)

/-- The code of (−1)^s × m × 2^q in a float format, m at most 2^(mb+1), and whether it saturated (R253). -/
def floatCode (f : Nat) (s : Bool) (m : Nat) (q : Int) : Nat × Bool :=
  let (mb, bias, MM, MQ, maxc) := floatPar f
  let sg := b2n s * 2 ^ (fmtWidth f - 1)
  let (m, q) := if m = 2 ^ (mb + 1) then (2 ^ mb, q + 1) else (m, q)
  if m = 0 then (0, false)
  else if MQ < q ∨ (q = MQ ∧ MM < m) then (sg + maxc, true)
  else if m < 2 ^ mb then (sg + m, false)
  else (sg + (q + mb + bias).toNat * 2 ^ mb + (m - 2 ^ mb), false)

/-- qfloat (R253): the code, and whether the lane was clipped. -/
def qfloat (f : Nat) (s : Bool) (n : Nat) (e : Int) : Num (Nat × Bool) := fun t =>
  if n = 0 then ((0, false), t)
  else
    let (mb, bias, _) := floatPar f
    let q := max (e + bitLen n - 1) (1 - bias) - mb
    let m := (rint false n (e - q)).toNat
    if m = 0 then ((0, false), { t with under := t.under + 1 })
    else
      let c := floatCode f s m q
      (c, if c.2 then { t with clip := t.clip + 1 } else t)

/-- The code of a decoded lane under shift sh and zero point z (R252), and whether it was clipped. -/
def requantLane (f : Nat) (o : Xop) (sh z : Int) : Num (Nat × Bool) := fun t =>
  if f = 0 then ((1 - b2n o.s, false), t)
  else match intLimits f with
    | some (lo, hi) =>
      let r := rint o.s o.m (o.x - sh)
      let t := if o.m ≠ 0 ∧ r = 0 then { t with under := t.under + 1 } else t
      let q := r + z
      let c := max lo (min hi q)
      ((low c (fmtWidth f), c != q), if c != q then { t with clip := t.clip + 1 } else t)
    | none => qfloat f o.s o.m (o.x - sh) t

/-- Whether A ≤ C × 2^d for integers A and C. -/
def fitsPow (a c : Nat) (d : Int) : Bool := decide (shl a (-d) ≤ shl c d)

/-- need_exp of a decoded value against a capacity C (R263). -/
def needExp (o : Xop) (c : Nat) : Int :=
  let d : Int := (bitLen o.m : Int) - bitLen c
  o.x + (if fitsPow o.m c d then d else d + 1)

/-- mix64 (R227). -/
def mix64 (d w : Nat) : Nat :=
  let z := Nat.xor (d % 2 ^ 64) (w % 2 ^ 64)
  let z := Nat.xor z (z / 2 ^ 30) * 0xBF58476D1CE4E5B9 % 2 ^ 64
  let z := Nat.xor z (z / 2 ^ 27) * 0x94D049BB133111EB % 2 ^ 64
  Nat.xor z (z / 2 ^ 31)

/-- mix64 over the four words of a beat. -/
def mixBeat (d : Nat) (v : Nat) : Nat := (List.range 4).foldl (fun d q => mix64 d (bits v (64 * q) 64)) d

/-- round16 (R333): BF16 of a binary32 value, and whether it saturated. -/
def round16 (v : Nat) : Nat × Bool :=
  let lo := v % 2 ^ 16
  let h := v / 2 ^ 16 % 2 ^ 15
  let h := if 2 ^ 15 < lo ∨ (lo = 2 ^ 15 ∧ h % 2 = 1) then h + 1 else h
  if 0x7F7F < h then (b2n (bit v 31) * 2 ^ 15 + 0x7F7F, true)
  else (b2n (bit v 31) * 2 ^ 15 + h, false)

/-- sr_bits (R335). -/
def srBits (seed : BitVec 64) (step tensor index : Nat) : Nat :=
  let a0 : BitVec 32 := seed.truncate 32
  let b0 : BitVec 32 := (seed >>> 32).truncate 32
  let c0 : BitVec 32 := BitVec.ofNat 32 step ^^^ BitVec.ofNat 32 (tensor * 2 ^ 16)
  let d0 : BitVec 32 := BitVec.ofNat 32 index ^^^ BitVec.ofNat 32 (step / 2 ^ 32)
  let r := (List.range 4).foldl (fun (x : BitVec 32 × BitVec 32 × BitVec 32 × BitVec 32) _ =>
    let (a, b, c, d) := x
    let a := a + b
    let d := (d ^^^ a).rotateLeft 16
    let c := c + d
    let b := (b ^^^ c).rotateLeft 12
    let a := a + b
    let d := (d ^^^ a).rotateLeft 8
    let c := c + d
    let b := (b ^^^ c).rotateLeft 7
    (a ^^^ 0x9E3779B9, b, c, d)) (a0, b0, c0, d0)
  (r.1 ^^^ r.2.1 ^^^ r.2.2.1 ^^^ r.2.2.2).toNat / 2 ^ 16

/-- The largest e with M × 2^e ≤ mw × 2^f (R335). -/
def largestExp (M mw : Nat) (f : Int) : Int :=
  let d : Int := f + (bitLen mw : Int) - bitLen M
  if decide (shl M (d - f) ≤ shl mw (f - d)) then d else d - 1

/-- srq (R335): the code of a BF16 master under scale M × 2^XS, and whether it was clipped. -/
def srq (wbf M : Nat) (XS : Int) (f r : Nat) : Nat × Bool :=
  let o := (expand 10 wbf 0 {}).1
  if o.m = 0 ∨ M = 0 then (0, false)
  else
    let (mb, bias, _) := floatPar f
    let isInt := (intLimits f).isSome
    let q : Int := if isInt then 0 else max (largestExp M o.m (o.x - XS)) (1 - bias) - mb
    let g := o.x - XS + 16 - q
    let u := min (shl o.m g / shl M (-g)) (2 ^ 40)
    let mag := (u + r) / 2 ^ 16
    match intLimits f with
    | some (lo, hi) =>
      let cap := if o.s then (-lo).toNat else hi.toNat
      (low (signed o.s (min mag cap)) (fmtWidth f), decide (cap < mag))
    | none => floatCode f o.s mag q

/-- Lane l of a beat. -/
def lane (v l : Nat) : Nat := bits v (32 * l) 32

/-- The lanes of beats in order. -/
def lanesOf (bs : List Nat) : List Nat := bs.flatMap (fun v => (List.range 8).map (lane v))

/-- A beat of eight lanes, the rest zero. -/
def beatOf (ls : List Nat) : Nat := (ls.take 8).foldr (fun v a => v % 2 ^ 32 + a * 2 ^ 32) 0

/-- Lanes as beats, eight each. -/
def beatsOf : Nat → List Nat → List Nat
  | 0, _ => []
  | n + 1, ls => beatOf ls :: beatsOf n (ls.drop 8)

/-- Records of 64 bits, four per beat, positions past the last zero (R186). -/
def recordBeats : Nat → List Nat → List Nat
  | 0, _ => []
  | n + 1, rs => (rs.take 4).foldr (fun v a => v % 2 ^ 64 + a * 2 ^ 64) 0 :: recordBeats n (rs.drop 4)

end Sys2Proof.Machine
end

