-- ==== Sys2Proof/Machine/RegMap.lean ====
section
/-! DEFINITION. The register map of BAR0 (R605, R609, R617 to R622 and the register tables of each chapter): every
field by name with its place, access type (R15) and reset, every tally by name (R18), and each page's list. -/

namespace Sys2Proof.Machine

/-- Access types (R15). -/
inductive Acc where
  | rw | ro | w1c | w1s | wo | rwl
deriving DecidableEq, Repr

/-- A field of a register: its block's first page, page offset, lowest bit, width, access type and reset value. -/
structure Fld where
  base : Nat
  off : Nat
  lo : Nat
  width : Nat
  acc : Acc
  reset : Nat
deriving DecidableEq, Repr

/-- A tally: its block's first page and the page offset of its lower word (R18). -/
structure Tal where
  base : Nat
  off : Nat
deriving DecidableEq, Repr

/-- A field as a write sees it: `ok` says which values are not reserved (R17). -/
structure WField where
  fld : Fld
  ok : Nat → Bool

/-- The block a page belongs to (R600). -/
inductive Block where
  | DEV | OWN | CEL | TB | FLK | CHK | LFT | PWR | OTP | PCI | ETH | LNK | ENG | UPD | SHD | ING | PAS | LRD | FAB | EGR | TIL
deriving DecidableEq, Repr

/-- No value is reserved. -/
def any : Nat → Bool := fun _ => true

namespace R

def DEV_TIMING_MODE : Fld := ⟨0x0, 0x10, 0, 2, .rw, 1⟩
def DEV_TIMING_POINT : Fld := ⟨0x0, 0x10, 4, 2, .rw, 1⟩
def DEV_TIMING_APPLY : Fld := ⟨0x0, 0x10, 31, 1, .wo, 0⟩
def DEV_TIMING_STATUS_MODE : Fld := ⟨0x0, 0x800, 0, 2, .ro, 0⟩
def DEV_TIMING_STATUS_POINT : Fld := ⟨0x0, 0x800, 4, 2, .ro, 0⟩
def DEV_TIMING_STATUS_REFUSE : Fld := ⟨0x0, 0x800, 8, 4, .ro, 0⟩
def DEV_TIMING_STATUS_PLL_LOCK : Fld := ⟨0x0, 0x800, 16, 1, .ro, 0⟩
def DEV_TIMING_STATUS_REF_LOST : Fld := ⟨0x0, 0x800, 17, 1, .w1c, 0⟩
def DEV_TIMING_STATUS_HOLDOVER : Fld := ⟨0x0, 0x800, 18, 1, .ro, 0⟩
def DEV_TIMING_STATUS_BUSY : Fld := ⟨0x0, 0x800, 19, 1, .ro, 0⟩
def LRD_REBUILD_MODE : Fld := ⟨0x340000, 0x10, 0, 2, .rw, 0⟩
def LRD_REBUILD_START : Fld := ⟨0x340000, 0x10, 2, 1, .wo, 0⟩
def LRD_REBUILD_ABORT : Fld := ⟨0x340000, 0x10, 3, 1, .wo, 0⟩
def LRD_REBUILD_SEED : Fld := ⟨0x340000, 0x10, 16, 16, .rw, 0⟩
def LRD_SWAP_GO : Fld := ⟨0x340000, 0x14, 0, 1, .wo, 0⟩
def LRD_SWAP_AT : Fld := ⟨0x340000, 0x14, 1, 1, .wo, 0⟩
def LRD_SWAP_FORCE : Fld := ⟨0x340000, 0x14, 2, 1, .rw, 0⟩
def LRD_SWAP_FC_LO : Fld := ⟨0x340000, 0x18, 0, 32, .rw, 0⟩
def LRD_SWAP_FC_HI : Fld := ⟨0x340000, 0x1C, 0, 32, .rw, 0⟩
def LRD_STATUS_STATE : Fld := ⟨0x340000, 0x800, 0, 2, .ro, 0⟩
def LRD_STATUS_LIVE : Fld := ⟨0x340000, 0x800, 2, 1, .ro, 0⟩
def LRD_STATUS_REFUSED : Fld := ⟨0x340000, 0x800, 3, 1, .ro, 0⟩
def LRD_STATUS_RB_HALTED : Fld := ⟨0x340000, 0x800, 4, 1, .ro, 0⟩
def LRD_STATUS_LIVE_SEED : Fld := ⟨0x340000, 0x800, 16, 16, .ro, 0⟩
def LRD_STATUS_KEY_KEY : Fld := ⟨0x340000, 0x804, 0, 32, .ro, 0⟩
def LRD_STATUS_TABLE_TABLE : Fld := ⟨0x340000, 0x808, 0, 3, .ro, 0⟩
def ENG_CONTROL_QUARTERS : Fld := ⟨0x100000, 0x10, 0, 4, .rw, 0⟩
def ENG_CONTROL_SCOPE : Fld := ⟨0x100000, 0x10, 4, 2, .rw, 0⟩
def ENG_CONTROL_QUIESCE : Fld := ⟨0x100000, 0x10, 8, 1, .wo, 0⟩
def ENG_CONTROL_LOAD : Fld := ⟨0x100000, 0x10, 9, 1, .wo, 0⟩
def ENG_CONTROL_RESUME : Fld := ⟨0x100000, 0x10, 10, 1, .wo, 0⟩
def ENG_RETIRE_COLUMN : Fld := ⟨0x100000, 0x14, 0, 5, .rw, 0⟩
def ENG_RETIRE_ROW : Fld := ⟨0x100000, 0x14, 8, 4, .rw, 0⟩
def ENG_RETIRE_STAGE : Fld := ⟨0x100000, 0x14, 31, 1, .wo, 0⟩
def ENG_STATUS_QSTATE : Fld := ⟨0x100000, 0x800, 0, 8, .ro, 0⟩
def ENG_STATUS_LOAD_RESULT : Fld := ⟨0x100000, 0x800, 8, 4, .ro, 0⟩
def ENG_STATUS_BUSY : Fld := ⟨0x100000, 0x800, 12, 1, .ro, 0⟩
def ENG_STATUS_RETIRE_RESULT : Fld := ⟨0x100000, 0x800, 16, 2, .ro, 3⟩
def ENG_STATUS_SPARES_USED : Fld := ⟨0x100000, 0x800, 24, 5, .ro, 0⟩
def ENG_SPARE_LEFT_OUT0 (k : Nat) : Fld := ⟨0x100000, 0x810 + 4 * k, 0, 5, .ro, 0⟩
def ENG_SPARE_LEFT_OUT1 (k : Nat) : Fld := ⟨0x100000, 0x810 + 4 * k, 8, 5, .ro, 0⟩
def ENG_SPARE_LEFT_OUT2 (k : Nat) : Fld := ⟨0x100000, 0x810 + 4 * k, 16, 5, .ro, 0⟩
def ENG_SPARE_LEFT_OUT3 (k : Nat) : Fld := ⟨0x100000, 0x810 + 4 * k, 24, 5, .ro, 0⟩
def ENG_SPARE_FIELD0 (k : Nat) : Fld := ⟨0x100000, 0x810 + 4 * k, 7, 1, .ro, 0⟩
def ENG_SPARE_FIELD1 (k : Nat) : Fld := ⟨0x100000, 0x810 + 4 * k, 15, 1, .ro, 0⟩
def ENG_SPARE_FIELD2 (k : Nat) : Fld := ⟨0x100000, 0x810 + 4 * k, 23, 1, .ro, 0⟩
def ENG_SPARE_FIELD3 (k : Nat) : Fld := ⟨0x100000, 0x810 + 4 * k, 31, 1, .ro, 0⟩
def FAB_BALANCE_POLICY : Fld := ⟨0x380000, 0x10, 0, 2, .rwl, 0⟩
def FAB_STATUS_MEMBERS : Fld := ⟨0x380000, 0x800, 0, 8, .ro, 0⟩
def FAB_STATUS_FOLD : Fld := ⟨0x380000, 0x800, 8, 2, .ro, 0⟩
def FAB_STATUS_POLICY_REFUSED : Fld := ⟨0x380000, 0x800, 10, 1, .w1c, 0⟩
def FAB_STATUS_IN_FLIGHT : Fld := ⟨0x380000, 0x800, 16, 14, .ro, 0⟩
def FAB_HALT_SLOT : Fld := ⟨0x380000, 0x804, 0, 10, .ro, 0⟩
def FAB_HALT_VALID : Fld := ⟨0x380000, 0x804, 15, 1, .w1c, 0⟩
def FAB_HALT_TILE : Fld := ⟨0x380000, 0x804, 16, 16, .ro, 0⟩
def FAB_HALT_EVID_LO : Fld := ⟨0x380000, 0x808, 0, 32, .ro, 0⟩
def FAB_HALT_EVID_HI : Fld := ⟨0x380000, 0x80C, 0, 16, .ro, 0⟩
def FAB_CAL_TENSOR : Fld := ⟨0x380000, 0x20, 0, 16, .rw, 65535⟩
def FAB_CAL_LOG2EV : Fld := ⟨0x380000, 0x20, 16, 5, .rw, 16⟩
def FAB_CAL_START : Fld := ⟨0x380000, 0x20, 24, 1, .wo, 0⟩
def FAB_CAL_ABORT : Fld := ⟨0x380000, 0x20, 25, 1, .wo, 0⟩
def FAB_CAL_LIMITS_NMIN : Fld := ⟨0x380000, 0x24, 0, 16, .rw, 1024⟩
def FAB_CAL_CLIP_CLIP_LO : Fld := ⟨0x380000, 0x28, 0, 16, .rw, 0⟩
def FAB_CAL_CLIP_CLIP_HI : Fld := ⟨0x380000, 0x28, 16, 16, .rw, 655⟩
def FAB_SCALE_SEL_TENSOR : Fld := ⟨0x380000, 0x400, 0, 16, .rw, 0⟩
def FAB_SCALE_SEL_GROUP : Fld := ⟨0x380000, 0x400, 16, 8, .rw, 0⟩
def FAB_SCALE_SEL_WHOLE : Fld := ⟨0x380000, 0x400, 24, 1, .rw, 0⟩
def FAB_SCALE_VAL_EXP : Fld := ⟨0x380000, 0x404, 0, 16, .rw, 0⟩
def FAB_SCALE_VAL_ZP : Fld := ⟨0x380000, 0x404, 16, 8, .rw, 0⟩
def FAB_SCALE_VAL_APPLY : Fld := ⟨0x380000, 0x404, 31, 1, .wo, 0⟩
def FAB_CAL_STATUS_PHASE : Fld := ⟨0x380000, 0x810, 0, 2, .ro, 0⟩
def FAB_CAL_STATUS_RESULT : Fld := ⟨0x380000, 0x810, 4, 4, .ro, 0⟩
def FAB_CAL_STATUS_TENSOR : Fld := ⟨0x380000, 0x810, 16, 16, .ro, 0⟩
def FAB_CAL_STEP_LO : Fld := ⟨0x380000, 0x814, 0, 32, .ro, 0⟩
def FAB_CAL_STEP_HI : Fld := ⟨0x380000, 0x818, 0, 32, .ro, 0⟩
def FAB_CAL_SHARE_SHARE : Fld := ⟨0x380000, 0x81C, 0, 16, .ro, 0⟩
def FAB_SAT_TENSOR : Fld := ⟨0x380000, 0x820, 0, 16, .ro, 0⟩
def FAB_SAT_SAT_EVENT : Fld := ⟨0x380000, 0x820, 16, 1, .w1c, 0⟩
def FAB_SCALE_NOW_EXP : Fld := ⟨0x380000, 0x824, 0, 16, .ro, 0⟩
def FAB_SCALE_NOW_ZP : Fld := ⟨0x380000, 0x824, 16, 8, .ro, 0⟩
def FAB_SCALE_NOW_RUNNING : Fld := ⟨0x380000, 0x824, 24, 1, .ro, 0⟩
def FAB_SCALE_NOW_APPLY_RESULT : Fld := ⟨0x380000, 0x824, 25, 3, .ro, 0⟩
def PAS_IMAGE_ADDR_LO_ADDR : Fld := ⟨0x300000, 0x10, 6, 26, .rw, 0⟩
def PAS_IMAGE_ADDR_HI_ADDR : Fld := ⟨0x300000, 0x14, 0, 32, .rw, 0⟩
def PAS_IMAGE_LEN_LENGTH : Fld := ⟨0x300000, 0x18, 0, 28, .rw, 0⟩
def PAS_ADMIT_ADMIT : Fld := ⟨0x300000, 0x1C, 0, 1, .wo, 0⟩
def PAS_ADMIT_WITHDRAW : Fld := ⟨0x300000, 0x1C, 1, 1, .wo, 0⟩
def PAS_ADMIT_REPLACE : Fld := ⟨0x300000, 0x1C, 2, 1, .rw, 0⟩
def PAS_ADMIT_STATUS_STATE : Fld := ⟨0x300000, 0x800, 0, 3, .ro, 0⟩
def PAS_ADMIT_STATUS_BUSY : Fld := ⟨0x300000, 0x800, 3, 1, .ro, 0⟩
def PAS_ADMIT_STATUS_CODE : Fld := ⟨0x300000, 0x800, 16, 16, .ro, 0⟩
def PAS_ADMIT_WHERE_TILE : Fld := ⟨0x300000, 0x804, 0, 16, .ro, 0⟩
def PAS_ADMIT_WHERE_OP : Fld := ⟨0x300000, 0x804, 16, 5, .ro, 0⟩
def PAS_ADMIT_WHERE_CTX : Fld := ⟨0x300000, 0x804, 21, 3, .ro, 0⟩
def PAS_ADMIT_WHERE_ITEM : Fld := ⟨0x300000, 0x804, 24, 8, .ro, 0⟩
def PAS_IMAGE_ID_IMAGE_ID : Fld := ⟨0x300000, 0x808, 0, 32, .ro, 0⟩
def PAS_CERT_CERT_NS : Fld := ⟨0x300000, 0x80C, 0, 11, .ro, 0⟩
def PAS_CERT_ENTRY_WAIT : Fld := ⟨0x300000, 0x80C, 16, 16, .ro, 0⟩
def UPD_CONTROL_PAUSE : Fld := ⟨0x140000, 0x10, 0, 1, .rw, 0⟩
def UPD_CONTROL_EXPORT : Fld := ⟨0x140000, 0x10, 1, 1, .wo, 0⟩
def UPD_EXPORT_LO : Fld := ⟨0x140000, 0x14, 0, 32, .rw, 0⟩
def UPD_EXPORT_HI : Fld := ⟨0x140000, 0x18, 0, 32, .rw, 0⟩
def UPD_STATUS_STATE : Fld := ⟨0x140000, 0x800, 0, 3, .ro, 0⟩
def UPD_STATUS_PHASE : Fld := ⟨0x140000, 0x800, 3, 3, .ro, 0⟩
def UPD_STATUS_BANK : Fld := ⟨0x140000, 0x800, 6, 1, .ro, 0⟩
def UPD_STATUS_EXPORT_BUSY : Fld := ⟨0x140000, 0x800, 7, 1, .ro, 0⟩
def UPD_STATUS_EXPORT_RESULT : Fld := ⟨0x140000, 0x800, 8, 2, .ro, 0⟩
def UPD_FLIP_STEP_LO : Fld := ⟨0x140000, 0x804, 0, 32, .ro, 0⟩
def UPD_FLIP_STEP_HI : Fld := ⟨0x140000, 0x808, 0, 32, .ro, 0⟩
def UPD_BATCH_PAIRS : Fld := ⟨0x140000, 0x80C, 0, 17, .ro, 0⟩
def DEV_SHED_STATUS_LEVEL : Fld := ⟨0x0, 0x804, 0, 7, .ro, 0⟩
def DEV_SHED_STATUS_PEAK : Fld := ⟨0x0, 0x804, 8, 7, .ro, 0⟩
def DEV_SHED_STATUS_PEAK_CLEAR : Fld := ⟨0x0, 0x804, 31, 1, .wo, 0⟩
def FAB_REPLAY_ENABLE : Fld := ⟨0x380000, 0x30, 0, 1, .rw, 0⟩
def FAB_REPLAY_CLOSE : Fld := ⟨0x380000, 0x30, 1, 1, .wo, 0⟩
def FAB_REPLAY_LIMIT_LO : Fld := ⟨0x380000, 0x34, 0, 32, .rw, 0⟩
def FAB_REPLAY_LIMIT_HI : Fld := ⟨0x380000, 0x38, 0, 16, .rw, 0⟩
def FAB_REPLAY_START_LO : Fld := ⟨0x380000, 0x3C, 0, 32, .rw, 0⟩
def FAB_REPLAY_START_HI : Fld := ⟨0x380000, 0x40, 0, 32, .rw, 0⟩
def FAB_REPLAY_STATUS_ACTIVE : Fld := ⟨0x380000, 0x828, 0, 1, .ro, 0⟩
def FAB_REPLAY_STATUS_HELD : Fld := ⟨0x380000, 0x828, 1, 1, .ro, 0⟩
def FAB_REPLAY_STATUS_DRAINED : Fld := ⟨0x380000, 0x828, 2, 1, .ro, 0⟩
def FAB_REPLAY_STATUS_REFUSED : Fld := ⟨0x380000, 0x828, 3, 1, .w1c, 0⟩
def FAB_REPLAY_EMITTED_LO : Fld := ⟨0x380000, 0x82C, 0, 32, .ro, 0⟩
def FAB_REPLAY_EMITTED_HI : Fld := ⟨0x380000, 0x830, 0, 16, .ro, 0⟩
def UPD_WDIGEST_LO : Fld := ⟨0x140000, 0x810, 0, 32, .ro, 0⟩
def UPD_WDIGEST_HI : Fld := ⟨0x140000, 0x814, 0, 32, .ro, 0⟩
def TB_CONTROL_ENABLE : Fld := ⟨0x10000, 0x10, 0, 1, .rw, 0⟩
def TB_CONTROL_AUTH : Fld := ⟨0x10000, 0x10, 1, 1, .w1s, 0⟩
def TB_CONTROL_SLEW : Fld := ⟨0x10000, 0x10, 4, 9, .rw, 100⟩
def TB_CONTROL_JUMP : Fld := ⟨0x10000, 0x10, 16, 16, .rw, 10⟩
def TB_ADJ_ADJ : Fld := ⟨0x10000, 0x14, 0, 32, .rw, 0⟩
def TB_STEP_LO : Fld := ⟨0x10000, 0x18, 0, 32, .wo, 0⟩
def TB_STEP_HI : Fld := ⟨0x10000, 0x1C, 0, 32, .wo, 0⟩
def TB_STATUS_RUNNING : Fld := ⟨0x10000, 0x800, 0, 1, .ro, 0⟩
def TB_STATUS_JUMP_REFUSED : Fld := ⟨0x10000, 0x800, 1, 1, .w1c, 0⟩
def TB_STATUS_SLEW_CLAMPED : Fld := ⟨0x10000, 0x800, 2, 1, .w1c, 0⟩
def TB_NOW (k : Nat) : Fld := ⟨0x10000, 0x810 + 4 * k, 0, 32, .ro, 0⟩
def CEL_STEP_LO : Fld := ⟨0x10000, 0x18, 0, 32, .wo, 0⟩
def CEL_STEP_HI : Fld := ⟨0x10000, 0x1C, 0, 32, .wo, 0⟩
def CEL_DISC_SOURCE : Fld := ⟨0x10000, 0x10, 0, 3, .rw, 0⟩
def CEL_DISC_PORT : Fld := ⟨0x10000, 0x10, 4, 4, .rw, 0⟩
def CEL_DISC_MASK : Fld := ⟨0x10000, 0x10, 8, 5, .rw, 31⟩
def CEL_LIMITS_SLEW0 : Fld := ⟨0x10000, 0x14, 0, 9, .rw, 100⟩
def CEL_LIMITS_JUMP0 : Fld := ⟨0x10000, 0x14, 16, 16, .rw, 10⟩
def CEL_CONTROL_AUTH0 : Fld := ⟨0x10000, 0x20, 0, 1, .w1s, 0⟩
def CEL_CONTROL_SEAL_GO : Fld := ⟨0x10000, 0x20, 1, 1, .wo, 0⟩
def CEL_CONTROL_CKPT : Fld := ⟨0x10000, 0x20, 2, 1, .wo, 0⟩
def CEL_CONTROL_CAL_START : Fld := ⟨0x10000, 0x20, 3, 1, .wo, 0⟩
def CEL_CONTROL_CAL_POINT : Fld := ⟨0x10000, 0x20, 4, 8, .rw, 0⟩
def CEL_AUDIT_CTL_LOG2SIZE : Fld := ⟨0x10000, 0x38, 0, 5, .rw, 10⟩
def CEL_AUDIT_CTL_LOG2CKPT : Fld := ⟨0x10000, 0x38, 8, 5, .rw, 16⟩
def CEL_STATUS_SEALED : Fld := ⟨0x10000, 0x800, 0, 1, .ro, 0⟩
def CEL_STATUS_BREAKS : Fld := ⟨0x10000, 0x800, 1, 5, .ro, 0⟩
def CEL_STATUS_SOURCE : Fld := ⟨0x10000, 0x800, 6, 3, .ro, 0⟩
def CEL_STATUS_HOLDOVER : Fld := ⟨0x10000, 0x800, 9, 1, .ro, 1⟩
def CEL_STATUS_PPS_PRESENT : Fld := ⟨0x10000, 0x800, 10, 1, .ro, 0⟩
def CEL_STATUS_REF10M_PRESENT : Fld := ⟨0x10000, 0x800, 11, 1, .ro, 0⟩
def CEL_STATUS_JUMP_REFUSED : Fld := ⟨0x10000, 0x800, 12, 1, .w1c, 0⟩
def CEL_STATUS_DISC_REFUSED : Fld := ⟨0x10000, 0x800, 13, 1, .w1c, 0⟩
def CEL_STATUS_SEAL_RESULT : Fld := ⟨0x10000, 0x800, 16, 4, .ro, 0⟩
def CEL_STATUS_CAL_RESULT : Fld := ⟨0x10000, 0x800, 20, 4, .ro, 0⟩
def CEL_STATUS_CAL_BUSY : Fld := ⟨0x10000, 0x800, 24, 1, .ro, 0⟩
def EGR_QUEUE_LATE_SEND : Fld := ⟨0x3C0000, 0x10, 0, 8, .rw, 0⟩
def ETH_TSCFG_TB : Fld := ⟨0x40000, 0x30, 0, 3, .rw, 0⟩
def ETH_TXTS (k : Nat) : Fld := ⟨0x40000, 0x820 + 4 * k, 0, 32, .ro, 0⟩
def ETH_TXTS_LOST_ID : Fld := ⟨0x40000, 0x830, 0, 16, .ro, 0⟩
def ETH_TXTS_LOST_VALID : Fld := ⟨0x40000, 0x830, 31, 1, .w1c, 0⟩
def LNK_CONTROL_ENABLE : Fld := ⟨0x80000, 0x10, 0, 1, .rw, 0⟩
def LNK_CONTROL_MODE : Fld := ⟨0x80000, 0x10, 1, 1, .rw, 0⟩
def LNK_CONTROL_MAXRATE : Fld := ⟨0x80000, 0x10, 4, 3, .rw, 1⟩
def LNK_CONTROL_MINRATE : Fld := ⟨0x80000, 0x10, 8, 3, .rw, 6⟩
def LNK_CONTROL_CLASSES : Fld := ⟨0x80000, 0x10, 12, 3, .rw, 7⟩
def LNK_CONTROL_RETRAIN : Fld := ⟨0x80000, 0x10, 16, 1, .wo, 0⟩
def LNK_RAW_CFG_RLEN : Fld := ⟨0x80000, 0x20, 0, 8, .rw, 2⟩
def LNK_RAW_CFG_PBITS : Fld := ⟨0x80000, 0x20, 8, 7, .rw, 8⟩
def LNK_EQ_PRESET : Fld := ⟨0x80000, 0x400, 0, 3, .rw, 4⟩
def LNK_EQ_TAPS : Fld := ⟨0x80000, 0x400, 3, 1, .rw, 0⟩
def LNK_EQ_PRE : Fld := ⟨0x80000, 0x400, 4, 4, .rw, 0⟩
def LNK_EQ_POST : Fld := ⟨0x80000, 0x400, 8, 5, .rw, 0⟩
def LNK_EQ_MAIN : Fld := ⟨0x80000, 0x400, 13, 6, .rw, 63⟩
def LNK_STATUS_STATE : Fld := ⟨0x80000, 0x800, 0, 3, .ro, 0⟩
def LNK_STATUS_RATE : Fld := ⟨0x80000, 0x800, 4, 3, .ro, 0⟩
def LNK_STATUS_FLOOR : Fld := ⟨0x80000, 0x800, 8, 3, .ro, 0⟩
def LNK_STATUS_CLASSES : Fld := ⟨0x80000, 0x800, 12, 3, .ro, 0⟩
def LNK_STATUS_DEFER : Fld := ⟨0x80000, 0x800, 15, 1, .ro, 0⟩
def LNK_STATUS_PARTNER_LANE : Fld := ⟨0x80000, 0x800, 16, 6, .ro, 0⟩
def LNK_STATUS_PARTNER_ROLE : Fld := ⟨0x80000, 0x800, 22, 2, .ro, 0⟩
def LNK_STATUS_RESUMED : Fld := ⟨0x80000, 0x800, 24, 1, .ro, 0⟩
def LNK_STATUS_CFG_REFUSED : Fld := ⟨0x80000, 0x800, 25, 1, .w1c, 0⟩
def ETH_CONTROL_ENABLE : Fld := ⟨0x40000, 0x10, 0, 1, .rw, 0⟩
def ETH_CONTROL_SPEED : Fld := ⟨0x40000, 0x10, 1, 1, .rw, 1⟩
def ETH_CONTROL_FEC : Fld := ⟨0x40000, 0x10, 2, 1, .rw, 0⟩
def ETH_CONTROL_MEDIA : Fld := ⟨0x40000, 0x10, 3, 1, .rw, 0⟩
def ETH_STATUS_ACTIVE : Fld := ⟨0x40000, 0x800, 0, 1, .ro, 0⟩
def ETH_STATUS_BLOCK_LOCK : Fld := ⟨0x40000, 0x800, 1, 1, .ro, 0⟩
def ETH_STATUS_FEC_LOCK : Fld := ⟨0x40000, 0x800, 2, 1, .ro, 0⟩
def ETH_STATUS_LOCAL_FAULT : Fld := ⟨0x40000, 0x800, 3, 1, .ro, 0⟩
def ETH_STATUS_REMOTE_FAULT : Fld := ⟨0x40000, 0x800, 4, 1, .ro, 0⟩
def ETH_STATUS_AN_DONE : Fld := ⟨0x40000, 0x800, 5, 1, .ro, 0⟩
def ETH_STATUS_CFG_REFUSED : Fld := ⟨0x40000, 0x800, 6, 1, .w1c, 0⟩
def FLK_ROLE_ROLE : Fld := ⟨0x20000, 0x10, 0, 2, .rw, 0⟩
def FLK_ROLE_LEVEL : Fld := ⟨0x20000, 0x10, 2, 2, .rw, 0⟩
def FLK_ROLE_HALF : Fld := ⟨0x20000, 0x10, 4, 1, .rw, 0⟩
def FLK_ADDR_ADDR : Fld := ⟨0x20000, 0x14, 0, 18, .rw, 0⟩
def FLK_CONTROL_FORM : Fld := ⟨0x20000, 0x18, 0, 1, .wo, 0⟩
def FLK_CONTROL_KILL : Fld := ⟨0x20000, 0x18, 1, 1, .wo, 0⟩
def FLK_CONTROL_HALT : Fld := ⟨0x20000, 0x18, 2, 1, .wo, 0⟩
def FLK_CONTROL_CANCEL_ALL : Fld := ⟨0x20000, 0x18, 3, 1, .wo, 0⟩
def FLK_CONTROL_RELEASE : Fld := ⟨0x20000, 0x18, 4, 1, .wo, 0⟩
def FLK_WAIT_REDUCE_WAIT : Fld := ⟨0x20000, 0x1C, 0, 16, .rw, 2000⟩
def FLK_WAIT_DIGEST_WAIT : Fld := ⟨0x20000, 0x1C, 16, 16, .rw, 1000⟩
def FLK_RELAY_LO : Fld := ⟨0x20000, 0x20, 0, 32, .rw, 0⟩
def FLK_RELAY_HI : Fld := ⟨0x20000, 0x24, 0, 32, .rw, 0⟩
def FLK_STATUS_STATE : Fld := ⟨0x20000, 0x800, 0, 3, .ro, 0⟩
def FLK_STATUS_ROLE_REFUSED : Fld := ⟨0x20000, 0x800, 3, 1, .w1c, 0⟩
def FLK_STATUS_DEMOTED : Fld := ⟨0x20000, 0x800, 4, 1, .w1c, 0⟩
def FLK_STATUS_SPLIT : Fld := ⟨0x20000, 0x800, 5, 1, .w1c, 0⟩
def FLK_STATUS_KILLED : Fld := ⟨0x20000, 0x800, 6, 1, .ro, 0⟩
def FLK_STATUS_HALTED : Fld := ⟨0x20000, 0x800, 7, 1, .ro, 0⟩
def FLK_STATUS_JOIN_RESULT : Fld := ⟨0x20000, 0x800, 8, 4, .ro, 0⟩
def FLK_STATUS_EPOCH : Fld := ⟨0x20000, 0x800, 16, 16, .ro, 0⟩
def FLK_HOLD_AGE : Fld := ⟨0x20000, 0x804, 0, 32, .ro, 0⟩
def FLK_OFFSET_O : Fld := ⟨0x20000, 0x808, 0, 32, .ro, 0⟩
def FLK_EXPELLED_LO : Fld := ⟨0x20000, 0x810, 0, 32, .ro, 0⟩
def FLK_EXPELLED_HI : Fld := ⟨0x20000, 0x814, 0, 32, .ro, 0⟩
def FLK_SET_HALT_LO : Fld := ⟨0x20000, 0x818, 0, 32, .ro, 0⟩
def FLK_SET_HALT_HI : Fld := ⟨0x20000, 0x81C, 0, 32, .ro, 0⟩
def OWN_CLAIM_CLAIM : Fld := ⟨0x1000, 0x10, 0, 1, .wo, 0⟩
def OWN_CLAIM_ACCEPT : Fld := ⟨0x1000, 0x10, 1, 1, .wo, 0⟩
def OWN_HEARTBEAT_BEAT : Fld := ⟨0x1000, 0x14, 0, 32, .wo, 0⟩
def OWN_HANDOVER_TARGET : Fld := ⟨0x1000, 0x18, 0, 2, .rw, 0⟩
def OWN_HANDOVER_REQUEST : Fld := ⟨0x1000, 0x18, 4, 1, .wo, 0⟩
def OWN_DEBUG_REQUEST : Fld := ⟨0x1000, 0x1C, 0, 2, .rw, 0⟩
def OWN_LIFECYCLE_TARGET : Fld := ⟨0x1000, 0x20, 0, 3, .rw, 0⟩
def OWN_LIFECYCLE_GO : Fld := ⟨0x1000, 0x20, 3, 1, .wo, 0⟩
def OWN_LIFECYCLE_CONFIRM : Fld := ⟨0x1000, 0x20, 16, 16, .rw, 0⟩
def OWN_HOST_ADDR_LO : Fld := ⟨0x1000, 0x24, 0, 32, .rw, 0⟩
def OWN_HOST_ADDR_HI : Fld := ⟨0x1000, 0x28, 0, 32, .rw, 0⟩
def OWN_KEY_CTL_SLOT : Fld := ⟨0x1000, 0x2C, 0, 3, .rw, 0⟩
def OWN_KEY_CTL_USE_IMAGE : Fld := ⟨0x1000, 0x2C, 4, 1, .rw, 0⟩
def OWN_KEY_CTL_USE_PACK : Fld := ⟨0x1000, 0x2C, 5, 1, .rw, 0⟩
def OWN_KEY_CTL_PROGRAM : Fld := ⟨0x1000, 0x2C, 8, 1, .wo, 0⟩
def OWN_KEY_CTL_REVOKE : Fld := ⟨0x1000, 0x2C, 9, 1, .wo, 0⟩
def OWN_GRANT_SEL_PASTURE : Fld := ⟨0x1000, 0x30, 0, 6, .rw, 0⟩
def OWN_GRANT_SEL_LOAD : Fld := ⟨0x1000, 0x30, 8, 1, .wo, 0⟩
def OWN_GRANT_SEL_COMMIT : Fld := ⟨0x1000, 0x30, 9, 1, .wo, 0⟩
def OWN_GRANT_DATA (k : Nat) : Fld := ⟨0x1000, 0x40 + 4 * k, 0, 32, .rw, 0⟩
def OWN_STATUS_HOLDER : Fld := ⟨0x1000, 0x800, 0, 2, .ro, 0⟩
def OWN_STATUS_HELD : Fld := ⟨0x1000, 0x800, 2, 1, .ro, 0⟩
def OWN_STATUS_ELECTION : Fld := ⟨0x1000, 0x800, 3, 1, .ro, 0⟩
def OWN_STATUS_TARGET : Fld := ⟨0x1000, 0x800, 4, 2, .ro, 0⟩
def OWN_STATUS_PENDING : Fld := ⟨0x1000, 0x800, 6, 1, .ro, 0⟩
def OWN_STATUS_SELF : Fld := ⟨0x1000, 0x800, 8, 2, .ro, 0⟩
def OWN_STATUS_LIFECYCLE : Fld := ⟨0x1000, 0x800, 12, 3, .ro, 0⟩
def OWN_STATUS_D3_BLOCKED : Fld := ⟨0x1000, 0x800, 15, 1, .ro, 0⟩
def OWN_STATUS_DEBUG : Fld := ⟨0x1000, 0x800, 16, 2, .ro, 0⟩
def OWN_STATUS_LC_RESULT : Fld := ⟨0x1000, 0x800, 20, 4, .ro, 0⟩
def OWN_STATUS_KEY_RESULT : Fld := ⟨0x1000, 0x800, 24, 4, .ro, 0⟩
def OWN_STATUS_GRANT_RESULT : Fld := ⟨0x1000, 0x800, 28, 4, .ro, 0⟩
def OWN_KEY_STATUS_SLOT0 : Fld := ⟨0x1000, 0x804, 0, 4, .ro, 0⟩
def OWN_KEY_STATUS_SLOT1 : Fld := ⟨0x1000, 0x804, 4, 4, .ro, 0⟩
def OWN_KEY_STATUS_SLOT2 : Fld := ⟨0x1000, 0x804, 8, 4, .ro, 0⟩
def OWN_KEY_STATUS_SLOT3 : Fld := ⟨0x1000, 0x804, 12, 4, .ro, 0⟩
def OWN_KEY_STATUS_SLOT4 : Fld := ⟨0x1000, 0x804, 16, 4, .ro, 0⟩
def OWN_KEY_STATUS_SLOT5 : Fld := ⟨0x1000, 0x804, 20, 4, .ro, 0⟩
def OWN_KEY_STATUS_SLOT6 : Fld := ⟨0x1000, 0x804, 24, 4, .ro, 0⟩
def OWN_KEY_STATUS_SLOT7 : Fld := ⟨0x1000, 0x804, 28, 4, .ro, 0⟩
def OWN_KEY_INUSE_INUSE : Fld := ⟨0x1000, 0x808, 0, 8, .ro, 0⟩
def OWN_NONCE_LO : Fld := ⟨0x1000, 0x80C, 0, 32, .ro, 0⟩
def OWN_NONCE_HI : Fld := ⟨0x1000, 0x810, 0, 32, .ro, 0⟩
def PAS_GRANT (k : Nat) : Fld := ⟨0x300000, 0x840 + 4 * k, 0, 32, .ro, 0⟩
def CHK_FAULT_CTL_LOG2SIZE : Fld := ⟨0x30000, 0x18, 0, 5, .rw, 10⟩
def CHK_FAULT_CTL_ENABLE : Fld := ⟨0x30000, 0x18, 8, 1, .rw, 0⟩
def CHK_STORE_SEL_INDEX : Fld := ⟨0x30000, 0x20, 0, 4, .rw, 0⟩
def CHK_LOST_LO : Fld := ⟨0x30000, 0x804, 0, 32, .w1c, 0⟩
def CHK_LOST_HI : Fld := ⟨0x30000, 0x808, 0, 32, .w1c, 0⟩
def CHK_STORE (k : Nat) : Fld := ⟨0x30000, 0x900 + 4 * k, 0, 32, .ro, 0⟩
def PAS_QUARANTINE_POLICY : Fld := ⟨0x300000, 0x20, 0, 1, .rwl, 1⟩
def PAS_QUARANTINE_RELEASE : Fld := ⟨0x300000, 0x20, 1, 1, .wo, 0⟩
def PAS_QUARANTINE_STATUS_QUARANTINED : Fld := ⟨0x300000, 0x810, 0, 1, .ro, 0⟩
def PAS_QUARANTINE_STATUS_PERSISTENT : Fld := ⟨0x300000, 0x810, 1, 1, .ro, 0⟩
def PAS_QUARANTINE_STATUS_TILE : Fld := ⟨0x300000, 0x810, 16, 16, .ro, 0⟩
def SHD_CONTROL_OBSERVE : Fld := ⟨0x180000, 0x10, 0, 1, .w1s, 0⟩
def SHD_CONTROL_OBSERVE_END : Fld := ⟨0x180000, 0x10, 1, 1, .wo, 0⟩
def SHD_CONTROL_MUSTER : Fld := ⟨0x180000, 0x10, 2, 1, .wo, 0⟩
def SHD_CONTROL_ACTION : Fld := ⟨0x180000, 0x10, 3, 1, .rw, 1⟩
def SHD_PACK_LOAD : Fld := ⟨0x180000, 0x20, 0, 1, .wo, 0⟩
def SHD_PACK_ALL : Fld := ⟨0x180000, 0x20, 1, 1, .rw, 0⟩
def SHD_PACK_STAGED : Fld := ⟨0x180000, 0x20, 2, 1, .rw, 0⟩
def SHD_PACK_STAGE_RESET : Fld := ⟨0x180000, 0x20, 3, 1, .wo, 0⟩
def SHD_STATUS_OBSERVED : Fld := ⟨0x180000, 0x800, 0, 1, .ro, 0⟩
def SHD_STATUS_MUSTER : Fld := ⟨0x180000, 0x800, 1, 3, .ro, 0⟩
def SHD_STATUS_PACK_RESULT : Fld := ⟨0x180000, 0x800, 4, 4, .ro, 0⟩
def SHD_STATUS_FAILED : Fld := ⟨0x180000, 0x800, 8, 1, .w1c, 0⟩
def SHD_STATUS_FAIL_TILE : Fld := ⟨0x180000, 0x800, 16, 16, .ro, 0⟩
def DEV_ALARM_UE : Fld := ⟨0x0, 0x810, 0, 1, .w1c, 0⟩
def DEV_ALARM_CE : Fld := ⟨0x0, 0x810, 1, 1, .w1c, 0⟩
def DEV_ALARM_TAG : Fld := ⟨0x0, 0x810, 2, 1, .w1c, 0⟩
def DEV_ALARM_POISON : Fld := ⟨0x0, 0x810, 3, 1, .w1c, 0⟩
def DEV_ALARM_STALL : Fld := ⟨0x0, 0x810, 4, 1, .w1c, 0⟩
def DEV_ALARM_SHEEPDOG : Fld := ⟨0x0, 0x810, 5, 1, .w1c, 0⟩
def DEV_ALARM_SATURATION : Fld := ⟨0x0, 0x810, 6, 1, .w1c, 0⟩
def DEV_ALARM_VIOLATION : Fld := ⟨0x0, 0x810, 7, 1, .w1c, 0⟩
def DEV_ALARM_LINK : Fld := ⟨0x0, 0x810, 8, 1, .w1c, 0⟩
def DEV_ALARM_TIME : Fld := ⟨0x0, 0x810, 9, 1, .w1c, 0⟩
def DEV_ALARM_FLOCK : Fld := ⟨0x0, 0x810, 10, 1, .w1c, 0⟩
def DEV_ALARM_KILL : Fld := ⟨0x0, 0x810, 11, 1, .w1c, 0⟩
def DEV_ALARM_AUDIT : Fld := ⟨0x0, 0x810, 12, 1, .w1c, 0⟩
def DEV_ALARM_LOSS : Fld := ⟨0x0, 0x810, 13, 1, .w1c, 0⟩
def DEV_ALARM_TRACE : Fld := ⟨0x0, 0x810, 14, 1, .w1c, 0⟩
def DEV_ALARM_TALLY_SAT : Fld := ⟨0x0, 0x810, 15, 1, .w1c, 0⟩
def DEV_ALARM_INCIDENT : Fld := ⟨0x0, 0x810, 16, 1, .w1c, 0⟩
def LFT_CONTROL_PCIE : Fld := ⟨0x31000, 0x10, 0, 1, .rw, 0⟩
def LFT_CONTROL_LANES : Fld := ⟨0x31000, 0x10, 1, 1, .rw, 0⟩
def LFT_CONTROL_TWO : Fld := ⟨0x31000, 0x10, 2, 1, .rw, 0⟩
def LFT_CONTROL_LANE_A : Fld := ⟨0x31000, 0x10, 8, 6, .rw, 0⟩
def LFT_CONTROL_LANE_B : Fld := ⟨0x31000, 0x10, 16, 6, .rw, 0⟩
def LFT_FF_ARM : Fld := ⟨0x31000, 0x14, 0, 1, .wo, 0⟩
def LFT_FF_DUMP : Fld := ⟨0x31000, 0x14, 1, 1, .wo, 0⟩
def LFT_FF_TRIGGER : Fld := ⟨0x31000, 0x14, 2, 1, .wo, 0⟩
def LFT_FF_DISARM : Fld := ⟨0x31000, 0x14, 3, 1, .wo, 0⟩
def LFT_FF_POST : Fld := ⟨0x31000, 0x14, 4, 5, .rw, 8⟩
def LFT_STATUS_FF_STATE : Fld := ⟨0x31000, 0x800, 0, 2, .ro, 1⟩
def LFT_STATUS_LANES_REFUSED : Fld := ⟨0x31000, 0x800, 2, 1, .w1c, 0⟩
def LFT_STATUS_DUMP_BUSY : Fld := ⟨0x31000, 0x800, 3, 1, .ro, 0⟩
def LFT_STATUS_CAUSE : Fld := ⟨0x31000, 0x800, 8, 8, .ro, 0⟩
def PWR_PROFILE_PROFILE : Fld := ⟨0x32000, 0x10, 0, 2, .rw, 0⟩
def PWR_PROFILE_APPLY : Fld := ⟨0x32000, 0x10, 31, 1, .wo, 0⟩
def PWR_CAP_WATTS : Fld := ⟨0x32000, 0x14, 0, 10, .rw, 0⟩
def PWR_STATE_REQUEST : Fld := ⟨0x32000, 0x18, 0, 2, .rw, 0⟩
def PWR_STATE_GO : Fld := ⟨0x32000, 0x18, 31, 1, .wo, 0⟩
def PWR_RESET_DEVICE : Fld := ⟨0x32000, 0x1C, 0, 1, .wo, 0⟩
def PWR_RESET_CONFIRM : Fld := ⟨0x32000, 0x1C, 16, 16, .wo, 0⟩
def PWR_STATUS_STATE : Fld := ⟨0x32000, 0x800, 0, 2, .ro, 0⟩
def PWR_STATUS_PROFILE : Fld := ⟨0x32000, 0x800, 2, 2, .ro, 0⟩
def PWR_STATUS_PROFILE_RESULT : Fld := ⟨0x32000, 0x800, 4, 4, .ro, 0⟩
def PWR_STATUS_STATE_RESULT : Fld := ⟨0x32000, 0x800, 8, 4, .ro, 0⟩
def PWR_STATUS_BUSY : Fld := ⟨0x32000, 0x800, 12, 1, .ro, 0⟩
def PWR_STATUS_THERM_HOT : Fld := ⟨0x32000, 0x800, 13, 1, .w1c, 0⟩
def PWR_STATUS_LAST_RESET : Fld := ⟨0x32000, 0x800, 16, 3, .ro, 0⟩
def PWR_ESTIMATE_ESTIMATE : Fld := ⟨0x32000, 0x804, 0, 10, .ro, 0⟩
def PWR_ESTIMATE_CAP : Fld := ⟨0x32000, 0x804, 16, 10, .ro, 0⟩
def PWR_TEMP_TEMP : Fld := ⟨0x32000, 0x808, 0, 8, .ro, 0⟩
def OTP_CONTROL_LOAD : Fld := ⟨0x33000, 0x10, 0, 1, .wo, 0⟩
def OTP_CONTROL_PROGRAM : Fld := ⟨0x33000, 0x10, 1, 1, .wo, 0⟩
def OTP_CONTROL_CONFIRM : Fld := ⟨0x33000, 0x10, 16, 16, .wo, 0⟩
def OTP_STATUS_GEN : Fld := ⟨0x33000, 0x800, 0, 3, .ro, 0⟩
def OTP_STATUS_USED : Fld := ⟨0x33000, 0x800, 3, 3, .ro, 0⟩
def OTP_STATUS_FROZEN : Fld := ⟨0x33000, 0x800, 6, 1, .ro, 0⟩
def OTP_STATUS_BUSY : Fld := ⟨0x33000, 0x800, 7, 1, .ro, 0⟩
def OTP_STATUS_OTP_RESULT : Fld := ⟨0x33000, 0x800, 8, 4, .ro, 0⟩
def PAS_MSIX_DEC_EN : Fld := ⟨0x300000, 0x60, 0, 1, .rw, 0⟩
def PAS_MSIX_UPD_EN : Fld := ⟨0x300000, 0x60, 1, 1, .rw, 0⟩
def PAS_MSIX_HOLDOFF : Fld := ⟨0x300000, 0x60, 8, 8, .rw, 0⟩
def PAS_RING_STATUS_INJ_HALTED : Fld := ⟨0x300000, 0x820, 0, 1, .ro, 0⟩
def PAS_RING_STATUS_DEC_ARMED : Fld := ⟨0x300000, 0x820, 1, 1, .ro, 0⟩
def DEV_SCRATCH_VALUE : Fld := ⟨0x0, 0x14, 0, 32, .rw, 0⟩
def DEV_PLL_BW_BW : Fld := ⟨0x0, 0x400, 0, 2, .rw, 0⟩
def DEV_DEVICE_ID_LO : Fld := ⟨0x0, 0x818, 0, 32, .ro, 0⟩
def DEV_DEVICE_ID_HI : Fld := ⟨0x0, 0x81C, 0, 32, .ro, 0⟩
def DEV_FC_LO : Fld := ⟨0x0, 0x820, 0, 32, .ro, 0⟩
def DEV_FC_HI : Fld := ⟨0x0, 0x824, 0, 32, .ro, 0⟩
def PCI_STATUS_SPEED : Fld := ⟨0x34000, 0x800, 0, 4, .ro, 0⟩
def PCI_STATUS_WIDTH : Fld := ⟨0x34000, 0x800, 4, 5, .ro, 0⟩
def PCI_STATUS_LINK_UP : Fld := ⟨0x34000, 0x800, 9, 1, .ro, 0⟩
def PCI_STATUS_NUMVFS : Fld := ⟨0x34000, 0x800, 10, 7, .ro, 0⟩
def ING_STATUS_STEER_USED : Fld := ⟨0x200000, 0x800, 0, 7, .ro, 0⟩
def ING_STATUS_PROGRAMS_USED : Fld := ⟨0x200000, 0x800, 8, 5, .ro, 0⟩
def TIL_STATUS_PHYS_COL : Fld := ⟨0x1000000, 0x800, 0, 5, .ro, 0⟩
def TIL_STATUS_EMPTY : Fld := ⟨0x1000000, 0x800, 8, 1, .ro, 1⟩
def PWR_KILL_T : Fld := ⟨0x32000, 0x20, 0, 22, .rwl, 25000⟩
def PWR_KILL_CLEAR : Fld := ⟨0x32000, 0x20, 31, 1, .wo, 0⟩
def PWR_TRIGIN_MINW (k : Nat) : Fld := ⟨0x32000, 0x40 + 4 * k, 0, 8, .rwl, 4⟩
def PWR_TRIGIN_DEAD (k : Nat) : Fld := ⟨0x32000, 0x40 + 4 * k, 8, 8, .rwl, 0⟩
def PWR_TRIGIN_STUCK (k : Nat) : Fld := ⟨0x32000, 0x40 + 4 * k, 16, 8, .rwl, 100⟩
def PWR_TRIGIN_ENABLE (k : Nat) : Fld := ⟨0x32000, 0x40 + 4 * k, 24, 1, .rwl, 0⟩
def PWR_TRIGIN_POL (k : Nat) : Fld := ⟨0x32000, 0x40 + 4 * k, 25, 1, .rwl, 0⟩
def PWR_TRIGIN_UNMASK (k : Nat) : Fld := ⟨0x32000, 0x40 + 4 * k, 31, 1, .wo, 0⟩
def CHK_KILL_STATUS_A : Fld := ⟨0x30000, 0x80C, 0, 1, .ro, 0⟩
def CHK_KILL_STATUS_B : Fld := ⟨0x30000, 0x80C, 1, 1, .ro, 0⟩
def CHK_KILL_STATUS_BLOCKED : Fld := ⟨0x30000, 0x80C, 2, 1, .ro, 1⟩
def CHK_KILL_STATUS_FAULT : Fld := ⟨0x30000, 0x80C, 3, 1, .ro, 0⟩
def CHK_KILL_STATUS_CLEAR_REFUSED : Fld := ⟨0x30000, 0x80C, 4, 1, .w1c, 0⟩
def CHK_KILL_STATUS_FIRST : Fld := ⟨0x30000, 0x80C, 5, 1, .ro, 0⟩
def CHK_KILL_STATUS_T_PENDING : Fld := ⟨0x30000, 0x80C, 6, 1, .ro, 0⟩
def CHK_KILL_STATUS_T_NOW : Fld := ⟨0x30000, 0x80C, 8, 22, .ro, 25000⟩
def CHK_TRIGIN_STATUS_MASKED : Fld := ⟨0x30000, 0x810, 0, 8, .ro, 0⟩
def CHK_TRIGIN_STATUS_LEVEL : Fld := ⟨0x30000, 0x810, 8, 8, .ro, 0⟩
def CHK_TRIGIN_STATUS_NONEMPTY : Fld := ⟨0x30000, 0x810, 16, 8, .ro, 0⟩
def CHK_TRIGIN_STATUS_UNMASK_REFUSED : Fld := ⟨0x30000, 0x810, 24, 1, .w1c, 0⟩
def CHK_TRIGIN_CAP (k : Nat) : Fld := ⟨0x30000, 0x820 + 4 * k, 0, 32, .ro, 0⟩
def CEL_SEAL_ADDR_LO : Fld := ⟨0x10000, 0x28, 6, 26, .rw, 0⟩
def CEL_SEAL_ADDR_HI : Fld := ⟨0x10000, 0x2C, 0, 32, .rw, 0⟩
def CEL_AUDIT_BASE_LO : Fld := ⟨0x10000, 0x30, 6, 26, .rw, 0⟩
def CEL_AUDIT_BASE_HI : Fld := ⟨0x10000, 0x34, 0, 32, .rw, 0⟩
def CEL_AUDIT_TAIL_VALUE : Fld := ⟨0x10000, 0x3C, 0, 32, .rw, 0⟩
def CEL_AUDIT_HEAD_VALUE : Fld := ⟨0x10000, 0x820, 0, 32, .ro, 0⟩
def CEL_DIE_ID_LO : Fld := ⟨0x10000, 0x808, 0, 32, .ro, 0⟩
def CEL_DIE_ID_HI : Fld := ⟨0x10000, 0x80C, 0, 32, .ro, 0⟩
def CAL_FIXTURE_VALUE : Fld := ⟨0x10000, 0x24, 0, 32, .rw, 0⟩
def CEL_PTP_SUBMIT (k : Nat) : Fld := ⟨0x10000, 0x40 + 4 * k, 0, 32, .wo, 0⟩
def CEL_TB_NOW (k : Nat) : Fld := ⟨0x10000, 0x810 + 4 * k, 0, 32, .ro, 0⟩
def LNK_RAW_PATTERN_LO : Fld := ⟨0x80000, 0x24, 0, 32, .rw, 0⟩
def LNK_RAW_PATTERN_HI : Fld := ⟨0x80000, 0x28, 0, 32, .rw, 0⟩
def LNK_RAW_MASK_LO : Fld := ⟨0x80000, 0x2C, 0, 32, .rw, 0⟩
def LNK_RAW_MASK_HI : Fld := ⟨0x80000, 0x30, 0, 32, .rw, 0⟩
def LNK_PARTNER_ID_LO : Fld := ⟨0x80000, 0x804, 0, 32, .ro, 0⟩
def LNK_PARTNER_ID_HI : Fld := ⟨0x80000, 0x808, 0, 32, .ro, 0⟩
def LNK_DELAY_VALUE : Fld := ⟨0x80000, 0x80C, 0, 32, .ro, 0⟩
def LNK_RAW_OFFSET_VALUE : Fld := ⟨0x80000, 0x810, 0, 13, .ro, 0⟩
def ETH_MAC_LO_VALUE : Fld := ⟨0x40000, 0x14, 0, 32, .rw, 0⟩
def ETH_MAC_HI_VALUE : Fld := ⟨0x40000, 0x18, 0, 16, .rw, 0⟩
def CHK_FAULT_BASE_LO : Fld := ⟨0x30000, 0x10, 6, 26, .rw, 0⟩
def CHK_FAULT_BASE_HI : Fld := ⟨0x30000, 0x14, 0, 32, .rw, 0⟩
def CHK_FAULT_TAIL_VALUE : Fld := ⟨0x30000, 0x1C, 0, 32, .rw, 0⟩
def CHK_FAULT_HEAD_VALUE : Fld := ⟨0x30000, 0x800, 0, 32, .ro, 0⟩
def SHD_PACK_ADDR_LO : Fld := ⟨0x180000, 0x14, 6, 26, .rw, 0⟩
def SHD_PACK_ADDR_HI : Fld := ⟨0x180000, 0x18, 0, 32, .rw, 0⟩
def SHD_PACK_LEN_VALUE : Fld := ⟨0x180000, 0x1C, 0, 17, .rw, 0⟩
def SHD_PACK_WIN_VALUE : Fld := ⟨0x180000, 0x24, 0, 32, .wo, 0⟩
def SHD_PACK_ID_VALUE : Fld := ⟨0x180000, 0x804, 0, 32, .ro, 0⟩
def SHD_PACK_VERSION_VALUE : Fld := ⟨0x180000, 0x808, 0, 32, .ro, 0⟩
def SHD_PASS_SLOTS_VALUE : Fld := ⟨0x180000, 0x80C, 0, 24, .ro, 0⟩
def LFT_RING_BASE_LO : Fld := ⟨0x31000, 0x20, 6, 26, .rw, 0⟩
def LFT_RING_BASE_HI : Fld := ⟨0x31000, 0x24, 0, 32, .rw, 0⟩
def LFT_A_BASE_LO : Fld := ⟨0x31000, 0x30, 6, 26, .rw, 0⟩
def LFT_A_BASE_HI : Fld := ⟨0x31000, 0x34, 0, 32, .rw, 0⟩
def LFT_RING_CTL_LOG2SIZE : Fld := ⟨0x31000, 0x28, 0, 5, .rw, 20⟩
def LFT_A_CTL_LOG2SIZE : Fld := ⟨0x31000, 0x38, 0, 5, .rw, 20⟩
def LFT_RING_TAIL_VALUE : Fld := ⟨0x31000, 0x2C, 0, 32, .rw, 0⟩
def LFT_A_TAIL_VALUE : Fld := ⟨0x31000, 0x3C, 0, 32, .rw, 0⟩
def LFT_RING_HEAD_VALUE : Fld := ⟨0x31000, 0x810, 0, 32, .ro, 0⟩
def LFT_A_HEAD_VALUE : Fld := ⟨0x31000, 0x814, 0, 32, .ro, 0⟩
def LFT_DUMP_ADDR_LO : Fld := ⟨0x31000, 0x40, 6, 26, .rw, 0⟩
def LFT_DUMP_ADDR_HI : Fld := ⟨0x31000, 0x44, 0, 32, .rw, 0⟩
def LFT_FF_FC_LO : Fld := ⟨0x31000, 0x808, 0, 32, .ro, 0⟩
def LFT_FF_FC_HI : Fld := ⟨0x31000, 0x80C, 0, 32, .ro, 0⟩
def LFT_INC_MASK_MASK : Fld := ⟨0x31000, 0x18, 1, 12, .rw, 4095⟩
def PAS_TRACE_ADDR_LO : Fld := ⟨0x300000, 0x24, 6, 26, .rw, 0⟩
def PAS_TRACE_ADDR_HI : Fld := ⟨0x300000, 0x28, 0, 32, .rw, 0⟩
def PAS_TRACE_CTL_ENABLE : Fld := ⟨0x300000, 0x2C, 0, 1, .rw, 0⟩
def PAS_TRACE_CTL_LOG2SIZE : Fld := ⟨0x300000, 0x2C, 4, 5, .rw, 16⟩
def PAS_TRACE_TAIL_VALUE : Fld := ⟨0x300000, 0x30, 0, 32, .rw, 0⟩
def PAS_TRACE_HEAD_VALUE : Fld := ⟨0x300000, 0x814, 0, 32, .ro, 0⟩
def PAS_MSG_BASE_LO : Fld := ⟨0x300000, 0x40, 6, 26, .rw, 0⟩
def PAS_MSG_BASE_HI : Fld := ⟨0x300000, 0x44, 0, 32, .rw, 0⟩
def PAS_MSG_CTL_ENABLE : Fld := ⟨0x300000, 0x48, 0, 1, .rw, 0⟩
def PAS_MSG_CTL_LOG2SIZE : Fld := ⟨0x300000, 0x48, 4, 5, .rw, 10⟩
def PAS_MSG_TAIL_VALUE : Fld := ⟨0x300000, 0x4C, 0, 32, .rw, 0⟩
def PAS_MSG_HEAD_VALUE : Fld := ⟨0x300000, 0x818, 0, 32, .ro, 0⟩
def PAS_INJ_BASE_LO : Fld := ⟨0x300000, 0x50, 6, 26, .rw, 0⟩
def PAS_INJ_BASE_HI : Fld := ⟨0x300000, 0x54, 0, 32, .rw, 0⟩
def PAS_INJ_CTL_ENABLE : Fld := ⟨0x300000, 0x58, 0, 1, .rw, 0⟩
def PAS_INJ_CTL_LOG2SIZE : Fld := ⟨0x300000, 0x58, 4, 5, .rw, 12⟩
def PAS_INJ_HEAD_VALUE : Fld := ⟨0x300000, 0x5C, 0, 32, .rw, 0⟩
def PAS_INJ_TAIL_VALUE : Fld := ⟨0x300000, 0x81C, 0, 32, .ro, 0⟩
def LRD_RING_BASE_LO : Fld := ⟨0x340000, 0x20, 6, 26, .rw, 0⟩
def LRD_RING_BASE_HI : Fld := ⟨0x340000, 0x24, 0, 32, .rw, 0⟩
def LRD_RING_CTL_ENABLE : Fld := ⟨0x340000, 0x28, 0, 1, .rw, 0⟩
def LRD_RING_CTL_LOG2SIZE : Fld := ⟨0x340000, 0x28, 4, 5, .rw, 16⟩
def LRD_RING_HEAD_VALUE : Fld := ⟨0x340000, 0x2C, 0, 32, .rw, 0⟩
def LRD_RING_TAIL_VALUE : Fld := ⟨0x340000, 0x810, 0, 32, .ro, 0⟩
def ETH_PTPRX_BASE_LO : Fld := ⟨0x40000, 0x40, 6, 26, .rw, 0⟩
def ETH_PTPRX_BASE_HI : Fld := ⟨0x40000, 0x44, 0, 32, .rw, 0⟩
def ETH_PTPRX_CTL_ENABLE : Fld := ⟨0x40000, 0x48, 0, 1, .rw, 0⟩
def ETH_PTPRX_CTL_LOG2SIZE : Fld := ⟨0x40000, 0x48, 4, 5, .rw, 6⟩
def ETH_PTPRX_TAIL_VALUE : Fld := ⟨0x40000, 0x4C, 0, 32, .rw, 0⟩
def ETH_PTPRX_HEAD_VALUE : Fld := ⟨0x40000, 0x834, 0, 32, .ro, 0⟩
def ETH_PTPTX_BASE_LO : Fld := ⟨0x40000, 0x50, 6, 26, .rw, 0⟩
def ETH_PTPTX_BASE_HI : Fld := ⟨0x40000, 0x54, 0, 32, .rw, 0⟩
def ETH_PTPTX_CTL_ENABLE : Fld := ⟨0x40000, 0x58, 0, 1, .rw, 0⟩
def ETH_PTPTX_CTL_LOG2SIZE : Fld := ⟨0x40000, 0x58, 4, 5, .rw, 6⟩
def ETH_PTPTX_HEAD_VALUE : Fld := ⟨0x40000, 0x5C, 0, 32, .rw, 0⟩
def ETH_PTPTX_TAIL_VALUE : Fld := ⟨0x40000, 0x838, 0, 32, .ro, 0⟩
def FLK_MSG_BASE_LO : Fld := ⟨0x20000, 0x30, 6, 26, .rw, 0⟩
def FLK_MSG_BASE_HI : Fld := ⟨0x20000, 0x34, 0, 32, .rw, 0⟩
def FLK_MSG_CTL_ENABLE : Fld := ⟨0x20000, 0x38, 0, 1, .rw, 0⟩
def FLK_MSG_CTL_LOG2SIZE : Fld := ⟨0x20000, 0x38, 4, 5, .rw, 8⟩
def FLK_MSG_HEAD_VALUE : Fld := ⟨0x20000, 0x3C, 0, 32, .rw, 0⟩
def FLK_MSG_TAIL_VALUE : Fld := ⟨0x20000, 0x820, 0, 32, .ro, 0⟩
def TIL_DIGEST (k : Nat) : Fld := ⟨0x1000000, 0x810 + 4 * k, 0, 32, .ro, 0⟩
def ENG_WIN_SEL_TILE : Fld := ⟨0x100000, 0x400, 0, 9, .rw, 0⟩
def ENG_WIN_SEL_BEAT : Fld := ⟨0x100000, 0x400, 10, 10, .rw, 0⟩
def ENG_ATTIC_SEL_SEL : Fld := ⟨0x100000, 0x404, 0, 20, .rw, 0⟩
def LRD_WIN_SEL_SEL : Fld := ⟨0x340000, 0x400, 0, 22, .rw, 0⟩
def UPD_WIN_SEL_SEL : Fld := ⟨0x140000, 0x400, 0, 19, .rw, 0⟩
def ENG_CLKSTOP_QUARTERS : Fld := ⟨0x100000, 0x408, 0, 4, .rw, 0⟩
def ENG_WIN_DATA (k : Nat) : Fld := ⟨0x100000, 0x410 + 4 * k, 0, 32, .ro, 0⟩
def ENG_ATTIC_DATA (k : Nat) : Fld := ⟨0x100000, 0x440 + 4 * k, 0, 32, .ro, 0⟩
def LRD_WIN_DATA (k : Nat) : Fld := ⟨0x340000, 0x410 + 4 * k, 0, 32, .ro, 0⟩
def UPD_WIN_DATA (k : Nat) : Fld := ⟨0x140000, 0x410 + 4 * k, 0, 32, .ro, 0⟩
def OTP_STAGE (k : Nat) : Fld := ⟨0x33000, 0x100 + 4 * k, 0, 32, .rw, 0⟩

end R

namespace T

def LRD_MISS (k : Nat) : Tal := ⟨0x340000, 0xC00 + 8 * k⟩
def LRD_LRD_POISON : Tal := ⟨0x340000, 0xC40⟩
def LRD_INSERT_REFUSE : Tal := ⟨0x340000, 0xC48⟩
def LRD_RB_BAD : Tal := ⟨0x340000, 0xC50⟩
def LRD_SWAP_REFUSE : Tal := ⟨0x340000, 0xC58⟩
def LRD_STALE_WRITE : Tal := ⟨0x340000, 0xC60⟩
def LRD_WRITEBACK_WAIT : Tal := ⟨0x340000, 0xC68⟩
def LRD_STOREK_MISS : Tal := ⟨0x340000, 0xC70⟩
def LRD_STOREK_POISON : Tal := ⟨0x340000, 0xC78⟩
def ENG_SLOT_MISMATCH : Tal := ⟨0x100000, 0xC00⟩
def ENG_STALL : Tal := ⟨0x100000, 0xC08⟩
def ENG_STALL_DROP : Tal := ⟨0x100000, 0xC10⟩
def ENG_LOADS : Tal := ⟨0x100000, 0xC18⟩
def ENG_BAD_OPCODE : Tal := ⟨0x100000, 0xC20⟩
def FAB_ENTRY_WAIT : Tal := ⟨0x380000, 0xC00⟩
def FAB_ENTRY_DROP : Tal := ⟨0x380000, 0xC08⟩
def FAB_SLOT_WAIT : Tal := ⟨0x380000, 0xC10⟩
def FAB_BAL_DEVIATE : Tal := ⟨0x380000, 0xC18⟩
def FAB_LOOP_WAIT : Tal := ⟨0x380000, 0xC20⟩
def FAB_CODE_SPECIAL : Tal := ⟨0x380000, 0xC28⟩
def FAB_SCALE_SAT : Tal := ⟨0x380000, 0xC30⟩
def FAB_ACC_SAT : Tal := ⟨0x380000, 0xC38⟩
def FAB_FLUSH_ZERO : Tal := ⟨0x380000, 0xC40⟩
def FAB_OPERAND_BAD : Tal := ⟨0x380000, 0xC48⟩
def FAB_VEC_SAT : Tal := ⟨0x380000, 0xC50⟩
def FAB_VEC_FLUSH : Tal := ⟨0x380000, 0xC58⟩
def FAB_NORM_FLAT : Tal := ⟨0x380000, 0xC60⟩
def FAB_DECISIONS : Tal := ⟨0x380000, 0xC68⟩
def FAB_DECISION_POISON : Tal := ⟨0x380000, 0xC70⟩
def FAB_TRIG_MERGE : Tal := ⟨0x380000, 0xC78⟩
def FAB_RING_LATE : Tal := ⟨0x380000, 0xC80⟩
def FAB_HALTS : Tal := ⟨0x380000, 0xC88⟩
def FAB_WINDOW_POISON : Tal := ⟨0x380000, 0xC90⟩
def FAB_RQ_CLIP : Tal := ⟨0x380000, 0xC98⟩
def FAB_RQ_UNDER : Tal := ⟨0x380000, 0xCA0⟩
def FAB_SCALE_HOLD : Tal := ⟨0x380000, 0xCA8⟩
def FAB_SCALE_WAIT : Tal := ⟨0x380000, 0xCB0⟩
def FAB_SAT_EVENTS : Tal := ⟨0x380000, 0xCB8⟩
def FAB_CAL_REFUSE : Tal := ⟨0x380000, 0xCC0⟩
def FAB_TIMING_CHOICE : Tal := ⟨0x380000, 0xCC8⟩
def FAB_SHED : Tal := ⟨0x380000, 0xCD0⟩
def PAS_ADMITS : Tal := ⟨0x300000, 0xC00⟩
def PAS_REFUSALS : Tal := ⟨0x300000, 0xC08⟩
def PAS_POISONED : Tal := ⟨0x300000, 0xC10⟩
def PAS_QUARANTINES : Tal := ⟨0x300000, 0xC18⟩
def PAS_QUAR_DROP : Tal := ⟨0x300000, 0xC20⟩
def PAS_TRACE_DROP : Tal := ⟨0x300000, 0xC28⟩
def PAS_SHORT : Tal := ⟨0x300000, 0xC30⟩
def PAS_PARSE_BOUND : Tal := ⟨0x300000, 0xC38⟩
def PAS_PROG_DROP : Tal := ⟨0x300000, 0xC40⟩
def PAS_MSG_EXCESS : Tal := ⟨0x300000, 0xC48⟩
def PAS_FCS_BAD : Tal := ⟨0x300000, 0xC50⟩
def PAS_FCS_LATE : Tal := ⟨0x300000, 0xC58⟩
def PAS_QUEUE_DROP : Tal := ⟨0x300000, 0xC60⟩
def PAS_MSG_DROP : Tal := ⟨0x300000, 0xC68⟩
def PAS_INJ_BAD : Tal := ⟨0x300000, 0xC70⟩
def PAS_INJECTED : Tal := ⟨0x300000, 0xC78⟩
def UPD_CAPTURES : Tal := ⟨0x140000, 0xC00⟩
def UPD_CAP_DROP : Tal := ⟨0x140000, 0xC08⟩
def UPD_CAP_DUP : Tal := ⟨0x140000, 0xC10⟩
def UPD_CAP_EXPIRE : Tal := ⟨0x140000, 0xC18⟩
def UPD_LABEL_ORPHAN : Tal := ⟨0x140000, 0xC20⟩
def UPD_LABEL_LATE : Tal := ⟨0x140000, 0xC28⟩
def UPD_LABEL_DUP : Tal := ⟨0x140000, 0xC30⟩
def UPD_PAIR_POISON : Tal := ⟨0x140000, 0xC38⟩
def UPD_UPD_EXCESS : Tal := ⟨0x140000, 0xC40⟩
def UPD_GRAD_UNDER : Tal := ⟨0x140000, 0xC48⟩
def UPD_LACC_CLIP : Tal := ⟨0x140000, 0xC50⟩
def UPD_OPT_SAT : Tal := ⟨0x140000, 0xC58⟩
def UPD_SRQ_CLIP : Tal := ⟨0x140000, 0xC60⟩
def UPD_UPDATES : Tal := ⟨0x140000, 0xC68⟩
def UPD_UPD_WAIT : Tal := ⟨0x140000, 0xC70⟩
def UPD_UPD_SKIPPED : Tal := ⟨0x140000, 0xC78⟩
def UPD_UPD_ABANDON : Tal := ⟨0x140000, 0xC80⟩
def UPD_UPD_LATE_COMMIT : Tal := ⟨0x140000, 0xC88⟩
def UPD_UPD_RESET : Tal := ⟨0x140000, 0xC90⟩
def TB_JUMP_REFUSE : Tal := ⟨0x10000, 0xC00⟩
def TB_SLEW_CLAMP : Tal := ⟨0x10000, 0xC08⟩
def TB_STEPS : Tal := ⟨0x10000, 0xC10⟩
def CEL_JUMP_REFUSE : Tal := ⟨0x10000, 0xC00⟩
def CEL_CORRECTIONS : Tal := ⟨0x10000, 0xC08⟩
def CEL_PTP_STALE : Tal := ⟨0x10000, 0xC10⟩
def CEL_AUDIT_RECORDS : Tal := ⟨0x10000, 0xC18⟩
def EGR_LAUNCHES : Tal := ⟨0x3C0000, 0xC00⟩
def EGR_LATE_DROP : Tal := ⟨0x3C0000, 0xC08⟩
def EGR_LATE_SENT : Tal := ⟨0x3C0000, 0xC10⟩
def EGR_LQ_FULL : Tal := ⟨0x3C0000, 0xC18⟩
def EGR_KILL_DROP : Tal := ⟨0x3C0000, 0xC20⟩
def EGR_AUDIT_REFUSE : Tal := ⟨0x3C0000, 0xC28⟩
def EGR_SLOT_BREAK : Tal := ⟨0x3C0000, 0xC30⟩
def EGR_PORT_DOWN : Tal := ⟨0x3C0000, 0xC38⟩
def EGR_WITHDRAW_DROP : Tal := ⟨0x3C0000, 0xC40⟩
def LNK_NO_MATCH : Tal := ⟨0x80000, 0xC00⟩
def LNK_CODE_ERR : Tal := ⟨0x80000, 0xC08⟩
def LNK_CRC_ERR : Tal := ⟨0x80000, 0xC10⟩
def LNK_FRAME_ERR : Tal := ⟨0x80000, 0xC18⟩
def LNK_CLASS_OFF : Tal := ⟨0x80000, 0xC20⟩
def LNK_ALIGN_LOSS : Tal := ⟨0x80000, 0xC28⟩
def LNK_LOS : Tal := ⟨0x80000, 0xC30⟩
def LNK_ATTEMPT_FAIL : Tal := ⟨0x80000, 0xC38⟩
def LNK_RATE_DOWN : Tal := ⟨0x80000, 0xC40⟩
def LNK_RETRAINS : Tal := ⟨0x80000, 0xC48⟩
def LNK_DEFERRED : Tal := ⟨0x80000, 0xC50⟩
def LNK_S_LOST : Tal := ⟨0x80000, 0xC58⟩
def LNK_S_BACK : Tal := ⟨0x80000, 0xC60⟩
def LNK_DUP : Tal := ⟨0x80000, 0xC68⟩
def LNK_SEQ_GAP : Tal := ⟨0x80000, 0xC70⟩
def LNK_NAKS_SENT : Tal := ⟨0x80000, 0xC78⟩
def LNK_REPLAYS : Tal := ⟨0x80000, 0xC80⟩
def LNK_R_BUSY : Tal := ⟨0x80000, 0xC88⟩
def LNK_R_DISCARD : Tal := ⟨0x80000, 0xC90⟩
def LNK_B_DISCARD : Tal := ⟨0x80000, 0xC98⟩
def LNK_RAW_AMBIG : Tal := ⟨0x80000, 0xCA0⟩
def LNK_RAW_UNLOCK : Tal := ⟨0x80000, 0xCA8⟩
def ETH_NO_MATCH : Tal := ⟨0x40000, 0xC00⟩
def ETH_HDR_BAD : Tal := ⟨0x40000, 0xC08⟩
def ETH_FRAG : Tal := ⟨0x40000, 0xC10⟩
def ETH_RX_LONG : Tal := ⟨0x40000, 0xC18⟩
def ETH_RX_RUNT : Tal := ⟨0x40000, 0xC20⟩
def ETH_RX_ERR : Tal := ⟨0x40000, 0xC28⟩
def ETH_FEC_CORR : Tal := ⟨0x40000, 0xC30⟩
def ETH_FEC_UNCORR : Tal := ⟨0x40000, 0xC38⟩
def ETH_LINK_DOWN : Tal := ⟨0x40000, 0xC40⟩
def ETH_PTP_RX_DROP : Tal := ⟨0x40000, 0xC48⟩
def ETH_PTP_TX_BAD : Tal := ⟨0x40000, 0xC50⟩
def ETH_TXTS_OVF : Tal := ⟨0x40000, 0xC80⟩
def FLK_SYNC_MISS : Tal := ⟨0x20000, 0xC00⟩
def FLK_FC_STEP : Tal := ⟨0x20000, 0xC08⟩
def FLK_FC_ABSORB : Tal := ⟨0x20000, 0xC10⟩
def FLK_PHASE_STEP : Tal := ⟨0x20000, 0xC18⟩
def FLK_HOLDOVERS : Tal := ⟨0x20000, 0xC20⟩
def FLK_AGREE_REFUSE : Tal := ⟨0x20000, 0xC28⟩
def FLK_EXPELS : Tal := ⟨0x20000, 0xC30⟩
def FLK_SPLITS : Tal := ⟨0x20000, 0xC38⟩
def FLK_TAKEOVERS : Tal := ⟨0x20000, 0xC40⟩
def FLK_REDUCE_ABANDON : Tal := ⟨0x20000, 0xC48⟩
def FLK_RELAY_FRAMES : Tal := ⟨0x20000, 0xC50⟩
def FLK_EXPEL_DROP : Tal := ⟨0x20000, 0xC58⟩
def FLK_MSG_BAD : Tal := ⟨0x20000, 0xC60⟩
def SHD_PASSES : Tal := ⟨0x180000, 0xC00⟩
def SHD_SHD_FAIL : Tal := ⟨0x180000, 0xC08⟩
def SHD_SHD_TRANSIENT : Tal := ⟨0x180000, 0xC10⟩
def SHD_SHD_SKIP : Tal := ⟨0x180000, 0xC18⟩
def SHD_MUSTERS : Tal := ⟨0x180000, 0xC20⟩
def SHD_OBSERVATIONS : Tal := ⟨0x180000, 0xC28⟩
def LFT_PACKETS : Tal := ⟨0x31000, 0xC00⟩
def LFT_TRACE_DROP : Tal := ⟨0x31000, 0xC08⟩
def LFT_A_DROP : Tal := ⟨0x31000, 0xC10⟩
def LFT_GAPS : Tal := ⟨0x31000, 0xC18⟩
def LFT_INCIDENTS : Tal := ⟨0x31000, 0xC20⟩
def PWR_NAP_DROP : Tal := ⟨0x32000, 0xC00⟩
def PWR_NAP_DISCARD : Tal := ⟨0x32000, 0xC08⟩
def PWR_THERM_TRIP : Tal := ⟨0x32000, 0xC10⟩
def PWR_STATE_CHANGES : Tal := ⟨0x32000, 0xC18⟩
def PCI_PARTIAL : Tal := ⟨0x34000, 0xC00⟩
def PCI_PCIE_DOWN : Tal := ⟨0x34000, 0xC08⟩
def PCI_VF_FLR : Tal := ⟨0x34000, 0xC10⟩
def ING_FRAMES : Tal := ⟨0x200000, 0xC00⟩
def ING_RECORDS : Tal := ⟨0x200000, 0xC08⟩
def ING_NO_MATCH : Tal := ⟨0x200000, 0xC10⟩
def OWN_ELECTIONS : Tal := ⟨0x1000, 0xE20⟩
def OWN_HEARTBEAT_LOSS : Tal := ⟨0x1000, 0xE28⟩
def OWN_HANDOVER_EXPIRED : Tal := ⟨0x1000, 0xE30⟩
def OWN_SMB_ERR : Tal := ⟨0x1000, 0xE38⟩
def OWN_EXPERT_DENIED : Tal := ⟨0x1000, 0xE40⟩
def OWN_VIOLATION (k : Nat) : Tal := ⟨0x1000, 0xC00 + 8 * k⟩
def OWN_OWN_DENIED (k : Nat) : Tal := ⟨0x1000, 0xE00 + 8 * k⟩
def CHK_PATH : Tal := ⟨0x30000, 0xE00⟩
def CHK_SOURCE : Tal := ⟨0x30000, 0xE08⟩
def CHK_CHECKER : Tal := ⟨0x30000, 0xE10⟩
def CHK_TAG_POISON : Tal := ⟨0x30000, 0xE18⟩
def CHK_POISON_READ : Tal := ⟨0x30000, 0xE20⟩
def CHK_FAULT_DROP : Tal := ⟨0x30000, 0xE28⟩
def CHK_FAULT_RESETS : Tal := ⟨0x30000, 0xE30⟩
def CHK_SCRUB_PASSES : Tal := ⟨0x30000, 0xE38⟩
def CHK_TRIGIN_GLITCH : Tal := ⟨0x30000, 0xDC0⟩
def CHK_TRIGIN_CAP_OVF : Tal := ⟨0x30000, 0xDC8⟩
def CHK_KILLS : Tal := ⟨0x30000, 0xDD0⟩
def CHK_KILL_DISCREPANCY : Tal := ⟨0x30000, 0xDD8⟩
def CHK_TRIGIN_RATE_DROP (k : Nat) : Tal := ⟨0x30000, 0xD40 + 8 * k⟩
def CHK_TRIGIN_STUCK (k : Nat) : Tal := ⟨0x30000, 0xD80 + 8 * k⟩
def CHK_CE (k : Nat) : Tal := ⟨0x30000, 0xC00 + 16 * (k - 1)⟩
def CHK_UE (k : Nat) : Tal := ⟨0x30000, 0xC08 + 16 * (k - 1)⟩

end T

open R

/-- Registers of the DEV page: page offset and fields. -/
def regsDEV : List (Nat × List WField) := [
  (0x10, [⟨DEV_TIMING_MODE, (fun v => v ≤ 1)⟩, ⟨DEV_TIMING_POINT, (fun v => v ≤ 2)⟩, ⟨DEV_TIMING_APPLY, any⟩]),
  (0x14, [⟨DEV_SCRATCH_VALUE, any⟩]),
  (0x400, [⟨DEV_PLL_BW_BW, (fun v => v ≤ 2)⟩]),
  (0x800, [⟨DEV_TIMING_STATUS_MODE, any⟩, ⟨DEV_TIMING_STATUS_POINT, any⟩, ⟨DEV_TIMING_STATUS_REFUSE, any⟩, ⟨DEV_TIMING_STATUS_PLL_LOCK, any⟩, ⟨DEV_TIMING_STATUS_REF_LOST, any⟩, ⟨DEV_TIMING_STATUS_HOLDOVER, any⟩, ⟨DEV_TIMING_STATUS_BUSY, any⟩]),
  (0x804, [⟨DEV_SHED_STATUS_LEVEL, any⟩, ⟨DEV_SHED_STATUS_PEAK, any⟩, ⟨DEV_SHED_STATUS_PEAK_CLEAR, any⟩]),
  (0x810, [⟨DEV_ALARM_UE, any⟩, ⟨DEV_ALARM_CE, any⟩, ⟨DEV_ALARM_TAG, any⟩, ⟨DEV_ALARM_POISON, any⟩, ⟨DEV_ALARM_STALL, any⟩, ⟨DEV_ALARM_SHEEPDOG, any⟩, ⟨DEV_ALARM_SATURATION, any⟩, ⟨DEV_ALARM_VIOLATION, any⟩, ⟨DEV_ALARM_LINK, any⟩, ⟨DEV_ALARM_TIME, any⟩, ⟨DEV_ALARM_FLOCK, any⟩, ⟨DEV_ALARM_KILL, any⟩, ⟨DEV_ALARM_AUDIT, any⟩, ⟨DEV_ALARM_LOSS, any⟩, ⟨DEV_ALARM_TRACE, any⟩, ⟨DEV_ALARM_TALLY_SAT, any⟩, ⟨DEV_ALARM_INCIDENT, any⟩]),
  (0x818, [⟨DEV_DEVICE_ID_LO, any⟩]),
  (0x81C, [⟨DEV_DEVICE_ID_HI, any⟩]),
  (0x820, [⟨DEV_FC_LO, any⟩]),
  (0x824, [⟨DEV_FC_HI, any⟩])]

/-- Registers of the OWN page: page offset and fields. -/
def regsOWN : List (Nat × List WField) := [
  (0x10, [⟨OWN_CLAIM_CLAIM, any⟩, ⟨OWN_CLAIM_ACCEPT, any⟩]),
  (0x14, [⟨OWN_HEARTBEAT_BEAT, any⟩]),
  (0x18, [⟨OWN_HANDOVER_TARGET, any⟩, ⟨OWN_HANDOVER_REQUEST, any⟩]),
  (0x1C, [⟨OWN_DEBUG_REQUEST, any⟩]),
  (0x20, [⟨OWN_LIFECYCLE_TARGET, (fun v => 1 ≤ v && v ≤ 4)⟩, ⟨OWN_LIFECYCLE_GO, any⟩, ⟨OWN_LIFECYCLE_CONFIRM, any⟩]),
  (0x24, [⟨OWN_HOST_ADDR_LO, any⟩]),
  (0x28, [⟨OWN_HOST_ADDR_HI, any⟩]),
  (0x2C, [⟨OWN_KEY_CTL_SLOT, any⟩, ⟨OWN_KEY_CTL_USE_IMAGE, any⟩, ⟨OWN_KEY_CTL_USE_PACK, any⟩, ⟨OWN_KEY_CTL_PROGRAM, any⟩, ⟨OWN_KEY_CTL_REVOKE, any⟩]),
  (0x30, [⟨OWN_GRANT_SEL_PASTURE, any⟩, ⟨OWN_GRANT_SEL_LOAD, any⟩, ⟨OWN_GRANT_SEL_COMMIT, any⟩]),
  (0x800, [⟨OWN_STATUS_HOLDER, any⟩, ⟨OWN_STATUS_HELD, any⟩, ⟨OWN_STATUS_ELECTION, any⟩, ⟨OWN_STATUS_TARGET, any⟩, ⟨OWN_STATUS_PENDING, any⟩, ⟨OWN_STATUS_SELF, any⟩, ⟨OWN_STATUS_LIFECYCLE, any⟩, ⟨OWN_STATUS_D3_BLOCKED, any⟩, ⟨OWN_STATUS_DEBUG, any⟩, ⟨OWN_STATUS_LC_RESULT, any⟩, ⟨OWN_STATUS_KEY_RESULT, any⟩, ⟨OWN_STATUS_GRANT_RESULT, any⟩]),
  (0x804, [⟨OWN_KEY_STATUS_SLOT0, any⟩, ⟨OWN_KEY_STATUS_SLOT1, any⟩, ⟨OWN_KEY_STATUS_SLOT2, any⟩, ⟨OWN_KEY_STATUS_SLOT3, any⟩, ⟨OWN_KEY_STATUS_SLOT4, any⟩, ⟨OWN_KEY_STATUS_SLOT5, any⟩, ⟨OWN_KEY_STATUS_SLOT6, any⟩, ⟨OWN_KEY_STATUS_SLOT7, any⟩]),
  (0x808, [⟨OWN_KEY_INUSE_INUSE, any⟩]),
  (0x80C, [⟨OWN_NONCE_LO, any⟩]),
  (0x810, [⟨OWN_NONCE_HI, any⟩])]
  ++ (List.range 16).map (fun k => (0x40 + 4 * k, [⟨OWN_GRANT_DATA k, any⟩]))

/-- Registers of the CEL page: page offset and fields. -/
def regsCEL : List (Nat × List WField) := [
  (0x10, [⟨CEL_DISC_SOURCE, (fun v => v ≤ 4)⟩, ⟨CEL_DISC_PORT, any⟩, ⟨CEL_DISC_MASK, any⟩]),
  (0x14, [⟨CEL_LIMITS_SLEW0, (fun v => 1 ≤ v && v ≤ 500)⟩, ⟨CEL_LIMITS_JUMP0, (fun v => 1 ≤ v && v ≤ 65535)⟩]),
  (0x18, [⟨CEL_STEP_LO, any⟩]),
  (0x1C, [⟨CEL_STEP_HI, any⟩]),
  (0x20, [⟨CEL_CONTROL_AUTH0, any⟩, ⟨CEL_CONTROL_SEAL_GO, any⟩, ⟨CEL_CONTROL_CKPT, any⟩, ⟨CEL_CONTROL_CAL_START, any⟩, ⟨CEL_CONTROL_CAL_POINT, (fun v => v ≤ 185)⟩]),
  (0x24, [⟨CAL_FIXTURE_VALUE, any⟩]),
  (0x28, [⟨CEL_SEAL_ADDR_LO, any⟩]),
  (0x2C, [⟨CEL_SEAL_ADDR_HI, any⟩]),
  (0x30, [⟨CEL_AUDIT_BASE_LO, any⟩]),
  (0x34, [⟨CEL_AUDIT_BASE_HI, any⟩]),
  (0x38, [⟨CEL_AUDIT_CTL_LOG2SIZE, (fun v => 10 ≤ v && v ≤ 24)⟩, ⟨CEL_AUDIT_CTL_LOG2CKPT, (fun v => 8 ≤ v && v ≤ 24)⟩]),
  (0x3C, [⟨CEL_AUDIT_TAIL_VALUE, any⟩]),
  (0x800, [⟨CEL_STATUS_SEALED, any⟩, ⟨CEL_STATUS_BREAKS, any⟩, ⟨CEL_STATUS_SOURCE, any⟩, ⟨CEL_STATUS_HOLDOVER, any⟩, ⟨CEL_STATUS_PPS_PRESENT, any⟩, ⟨CEL_STATUS_REF10M_PRESENT, any⟩, ⟨CEL_STATUS_JUMP_REFUSED, any⟩, ⟨CEL_STATUS_DISC_REFUSED, any⟩, ⟨CEL_STATUS_SEAL_RESULT, any⟩, ⟨CEL_STATUS_CAL_RESULT, any⟩, ⟨CEL_STATUS_CAL_BUSY, any⟩]),
  (0x808, [⟨CEL_DIE_ID_LO, any⟩]),
  (0x80C, [⟨CEL_DIE_ID_HI, any⟩]),
  (0x820, [⟨CEL_AUDIT_HEAD_VALUE, any⟩])]
  ++ (List.range 8).map (fun k => (0x40 + 4 * k, [⟨CEL_PTP_SUBMIT k, any⟩]))
  ++ (List.range 4).map (fun k => (0x810 + 4 * k, [⟨CEL_TB_NOW k, any⟩]))

/-- Registers of the TB page: page offset and fields. -/
def regsTB : List (Nat × List WField) := [
  (0x10, [⟨TB_CONTROL_ENABLE, any⟩, ⟨TB_CONTROL_AUTH, any⟩, ⟨TB_CONTROL_SLEW, (fun v => 1 ≤ v && v ≤ 500)⟩, ⟨TB_CONTROL_JUMP, (fun v => 1 ≤ v && v ≤ 65535)⟩]),
  (0x14, [⟨TB_ADJ_ADJ, any⟩]),
  (0x18, [⟨TB_STEP_LO, any⟩]),
  (0x1C, [⟨TB_STEP_HI, any⟩]),
  (0x800, [⟨TB_STATUS_RUNNING, any⟩, ⟨TB_STATUS_JUMP_REFUSED, any⟩, ⟨TB_STATUS_SLEW_CLAMPED, any⟩])]
  ++ (List.range 4).map (fun k => (0x810 + 4 * k, [⟨TB_NOW k, any⟩]))

/-- Registers of the FLK page: page offset and fields. -/
def regsFLK : List (Nat × List WField) := [
  (0x10, [⟨FLK_ROLE_ROLE, any⟩, ⟨FLK_ROLE_LEVEL, any⟩, ⟨FLK_ROLE_HALF, any⟩]),
  (0x14, [⟨FLK_ADDR_ADDR, any⟩]),
  (0x18, [⟨FLK_CONTROL_FORM, any⟩, ⟨FLK_CONTROL_KILL, any⟩, ⟨FLK_CONTROL_HALT, any⟩, ⟨FLK_CONTROL_CANCEL_ALL, any⟩, ⟨FLK_CONTROL_RELEASE, any⟩]),
  (0x1C, [⟨FLK_WAIT_REDUCE_WAIT, (fun v => 1 ≤ v && v ≤ 65535)⟩, ⟨FLK_WAIT_DIGEST_WAIT, (fun v => 1 ≤ v && v ≤ 65535)⟩]),
  (0x20, [⟨FLK_RELAY_LO, any⟩]),
  (0x24, [⟨FLK_RELAY_HI, any⟩]),
  (0x30, [⟨FLK_MSG_BASE_LO, any⟩]),
  (0x34, [⟨FLK_MSG_BASE_HI, any⟩]),
  (0x38, [⟨FLK_MSG_CTL_ENABLE, any⟩, ⟨FLK_MSG_CTL_LOG2SIZE, (fun v => 4 ≤ v && v ≤ 12)⟩]),
  (0x3C, [⟨FLK_MSG_HEAD_VALUE, any⟩]),
  (0x800, [⟨FLK_STATUS_STATE, any⟩, ⟨FLK_STATUS_ROLE_REFUSED, any⟩, ⟨FLK_STATUS_DEMOTED, any⟩, ⟨FLK_STATUS_SPLIT, any⟩, ⟨FLK_STATUS_KILLED, any⟩, ⟨FLK_STATUS_HALTED, any⟩, ⟨FLK_STATUS_JOIN_RESULT, any⟩, ⟨FLK_STATUS_EPOCH, any⟩]),
  (0x804, [⟨FLK_HOLD_AGE, any⟩]),
  (0x808, [⟨FLK_OFFSET_O, any⟩]),
  (0x810, [⟨FLK_EXPELLED_LO, any⟩]),
  (0x814, [⟨FLK_EXPELLED_HI, any⟩]),
  (0x818, [⟨FLK_SET_HALT_LO, any⟩]),
  (0x81C, [⟨FLK_SET_HALT_HI, any⟩]),
  (0x820, [⟨FLK_MSG_TAIL_VALUE, any⟩])]

/-- Registers of the CHK page: page offset and fields. -/
def regsCHK : List (Nat × List WField) := [
  (0x10, [⟨CHK_FAULT_BASE_LO, any⟩]),
  (0x14, [⟨CHK_FAULT_BASE_HI, any⟩]),
  (0x18, [⟨CHK_FAULT_CTL_LOG2SIZE, (fun v => 8 ≤ v && v ≤ 20)⟩, ⟨CHK_FAULT_CTL_ENABLE, any⟩]),
  (0x1C, [⟨CHK_FAULT_TAIL_VALUE, any⟩]),
  (0x20, [⟨CHK_STORE_SEL_INDEX, any⟩]),
  (0x800, [⟨CHK_FAULT_HEAD_VALUE, any⟩]),
  (0x804, [⟨CHK_LOST_LO, any⟩]),
  (0x808, [⟨CHK_LOST_HI, any⟩]),
  (0x80C, [⟨CHK_KILL_STATUS_A, any⟩, ⟨CHK_KILL_STATUS_B, any⟩, ⟨CHK_KILL_STATUS_BLOCKED, any⟩, ⟨CHK_KILL_STATUS_FAULT, any⟩, ⟨CHK_KILL_STATUS_CLEAR_REFUSED, any⟩, ⟨CHK_KILL_STATUS_FIRST, any⟩, ⟨CHK_KILL_STATUS_T_PENDING, any⟩, ⟨CHK_KILL_STATUS_T_NOW, any⟩]),
  (0x810, [⟨CHK_TRIGIN_STATUS_MASKED, any⟩, ⟨CHK_TRIGIN_STATUS_LEVEL, any⟩, ⟨CHK_TRIGIN_STATUS_NONEMPTY, any⟩, ⟨CHK_TRIGIN_STATUS_UNMASK_REFUSED, any⟩])]
  ++ (List.range 32).map (fun k => (0x900 + 4 * k, [⟨CHK_STORE k, any⟩]))
  ++ (List.range 32).map (fun k => (0x820 + 4 * k, [⟨CHK_TRIGIN_CAP k, any⟩]))

/-- Registers of the LFT page: page offset and fields. -/
def regsLFT : List (Nat × List WField) := [
  (0x10, [⟨LFT_CONTROL_PCIE, any⟩, ⟨LFT_CONTROL_LANES, any⟩, ⟨LFT_CONTROL_TWO, any⟩, ⟨LFT_CONTROL_LANE_A, any⟩, ⟨LFT_CONTROL_LANE_B, any⟩]),
  (0x14, [⟨LFT_FF_ARM, any⟩, ⟨LFT_FF_DUMP, any⟩, ⟨LFT_FF_TRIGGER, any⟩, ⟨LFT_FF_DISARM, any⟩, ⟨LFT_FF_POST, (fun v => v ≤ 16)⟩]),
  (0x18, [⟨LFT_INC_MASK_MASK, any⟩]),
  (0x20, [⟨LFT_RING_BASE_LO, any⟩]),
  (0x24, [⟨LFT_RING_BASE_HI, any⟩]),
  (0x28, [⟨LFT_RING_CTL_LOG2SIZE, (fun v => 16 ≤ v && v ≤ 28)⟩]),
  (0x2C, [⟨LFT_RING_TAIL_VALUE, any⟩]),
  (0x30, [⟨LFT_A_BASE_LO, any⟩]),
  (0x34, [⟨LFT_A_BASE_HI, any⟩]),
  (0x38, [⟨LFT_A_CTL_LOG2SIZE, (fun v => 16 ≤ v && v ≤ 28)⟩]),
  (0x3C, [⟨LFT_A_TAIL_VALUE, any⟩]),
  (0x40, [⟨LFT_DUMP_ADDR_LO, any⟩]),
  (0x44, [⟨LFT_DUMP_ADDR_HI, any⟩]),
  (0x800, [⟨LFT_STATUS_FF_STATE, any⟩, ⟨LFT_STATUS_LANES_REFUSED, any⟩, ⟨LFT_STATUS_DUMP_BUSY, any⟩, ⟨LFT_STATUS_CAUSE, any⟩]),
  (0x808, [⟨LFT_FF_FC_LO, any⟩]),
  (0x80C, [⟨LFT_FF_FC_HI, any⟩]),
  (0x810, [⟨LFT_RING_HEAD_VALUE, any⟩]),
  (0x814, [⟨LFT_A_HEAD_VALUE, any⟩])]

/-- Registers of the PWR page: page offset and fields. -/
def regsPWR : List (Nat × List WField) := [
  (0x10, [⟨PWR_PROFILE_PROFILE, (fun v => v ≤ 2)⟩, ⟨PWR_PROFILE_APPLY, any⟩]),
  (0x14, [⟨PWR_CAP_WATTS, any⟩]),
  (0x18, [⟨PWR_STATE_REQUEST, any⟩, ⟨PWR_STATE_GO, any⟩]),
  (0x1C, [⟨PWR_RESET_DEVICE, any⟩, ⟨PWR_RESET_CONFIRM, any⟩]),
  (0x20, [⟨PWR_KILL_T, (fun v => 250 ≤ v && v ≤ 2500000)⟩, ⟨PWR_KILL_CLEAR, any⟩]),
  (0x800, [⟨PWR_STATUS_STATE, any⟩, ⟨PWR_STATUS_PROFILE, any⟩, ⟨PWR_STATUS_PROFILE_RESULT, any⟩, ⟨PWR_STATUS_STATE_RESULT, any⟩, ⟨PWR_STATUS_BUSY, any⟩, ⟨PWR_STATUS_THERM_HOT, any⟩, ⟨PWR_STATUS_LAST_RESET, any⟩]),
  (0x804, [⟨PWR_ESTIMATE_ESTIMATE, any⟩, ⟨PWR_ESTIMATE_CAP, any⟩]),
  (0x808, [⟨PWR_TEMP_TEMP, any⟩])]
  ++ (List.range 8).map (fun k => (0x40 + 4 * k, [⟨PWR_TRIGIN_MINW k, (fun v => 2 ≤ v && v ≤ 255)⟩, ⟨PWR_TRIGIN_DEAD k, any⟩, ⟨PWR_TRIGIN_STUCK k, (fun v => 1 ≤ v && v ≤ 255)⟩, ⟨PWR_TRIGIN_ENABLE k, any⟩, ⟨PWR_TRIGIN_POL k, any⟩, ⟨PWR_TRIGIN_UNMASK k, any⟩]))

/-- Registers of the OTP page: page offset and fields. -/
def regsOTP : List (Nat × List WField) := [
  (0x10, [⟨OTP_CONTROL_LOAD, any⟩, ⟨OTP_CONTROL_PROGRAM, any⟩, ⟨OTP_CONTROL_CONFIRM, any⟩]),
  (0x800, [⟨OTP_STATUS_GEN, any⟩, ⟨OTP_STATUS_USED, any⟩, ⟨OTP_STATUS_FROZEN, any⟩, ⟨OTP_STATUS_BUSY, any⟩, ⟨OTP_STATUS_OTP_RESULT, any⟩])]
  ++ (List.range 128).map (fun k => (0x100 + 4 * k, [⟨OTP_STAGE k, any⟩]))

/-- Registers of the PCI page: page offset and fields. -/
def regsPCI : List (Nat × List WField) := [
  (0x800, [⟨PCI_STATUS_SPEED, any⟩, ⟨PCI_STATUS_WIDTH, any⟩, ⟨PCI_STATUS_LINK_UP, any⟩, ⟨PCI_STATUS_NUMVFS, any⟩])]

/-- Registers of the ETH page: page offset and fields. -/
def regsETH : List (Nat × List WField) := [
  (0x10, [⟨ETH_CONTROL_ENABLE, any⟩, ⟨ETH_CONTROL_SPEED, any⟩, ⟨ETH_CONTROL_FEC, any⟩, ⟨ETH_CONTROL_MEDIA, any⟩]),
  (0x14, [⟨ETH_MAC_LO_VALUE, any⟩]),
  (0x18, [⟨ETH_MAC_HI_VALUE, any⟩]),
  (0x30, [⟨ETH_TSCFG_TB, any⟩]),
  (0x40, [⟨ETH_PTPRX_BASE_LO, any⟩]),
  (0x44, [⟨ETH_PTPRX_BASE_HI, any⟩]),
  (0x48, [⟨ETH_PTPRX_CTL_ENABLE, any⟩, ⟨ETH_PTPRX_CTL_LOG2SIZE, (fun v => 4 ≤ v && v ≤ 10)⟩]),
  (0x4C, [⟨ETH_PTPRX_TAIL_VALUE, any⟩]),
  (0x50, [⟨ETH_PTPTX_BASE_LO, any⟩]),
  (0x54, [⟨ETH_PTPTX_BASE_HI, any⟩]),
  (0x58, [⟨ETH_PTPTX_CTL_ENABLE, any⟩, ⟨ETH_PTPTX_CTL_LOG2SIZE, (fun v => 4 ≤ v && v ≤ 10)⟩]),
  (0x5C, [⟨ETH_PTPTX_HEAD_VALUE, any⟩]),
  (0x800, [⟨ETH_STATUS_ACTIVE, any⟩, ⟨ETH_STATUS_BLOCK_LOCK, any⟩, ⟨ETH_STATUS_FEC_LOCK, any⟩, ⟨ETH_STATUS_LOCAL_FAULT, any⟩, ⟨ETH_STATUS_REMOTE_FAULT, any⟩, ⟨ETH_STATUS_AN_DONE, any⟩, ⟨ETH_STATUS_CFG_REFUSED, any⟩]),
  (0x830, [⟨ETH_TXTS_LOST_ID, any⟩, ⟨ETH_TXTS_LOST_VALID, any⟩]),
  (0x834, [⟨ETH_PTPRX_HEAD_VALUE, any⟩]),
  (0x838, [⟨ETH_PTPTX_TAIL_VALUE, any⟩])]
  ++ (List.range 4).map (fun k => (0x820 + 4 * k, [⟨ETH_TXTS k, any⟩]))

/-- Registers of the LNK page: page offset and fields. -/
def regsLNK : List (Nat × List WField) := [
  (0x10, [⟨LNK_CONTROL_ENABLE, any⟩, ⟨LNK_CONTROL_MODE, any⟩, ⟨LNK_CONTROL_MAXRATE, (fun v => 1 ≤ v && v ≤ 6)⟩, ⟨LNK_CONTROL_MINRATE, (fun v => 1 ≤ v && v ≤ 6)⟩, ⟨LNK_CONTROL_CLASSES, any⟩, ⟨LNK_CONTROL_RETRAIN, any⟩]),
  (0x20, [⟨LNK_RAW_CFG_RLEN, (fun v => 2 ≤ v && v ≤ 128)⟩, ⟨LNK_RAW_CFG_PBITS, (fun v => 8 ≤ v && v ≤ 64)⟩]),
  (0x24, [⟨LNK_RAW_PATTERN_LO, any⟩]),
  (0x28, [⟨LNK_RAW_PATTERN_HI, any⟩]),
  (0x2C, [⟨LNK_RAW_MASK_LO, any⟩]),
  (0x30, [⟨LNK_RAW_MASK_HI, any⟩]),
  (0x400, [⟨LNK_EQ_PRESET, any⟩, ⟨LNK_EQ_TAPS, any⟩, ⟨LNK_EQ_PRE, any⟩, ⟨LNK_EQ_POST, any⟩, ⟨LNK_EQ_MAIN, any⟩]),
  (0x800, [⟨LNK_STATUS_STATE, any⟩, ⟨LNK_STATUS_RATE, any⟩, ⟨LNK_STATUS_FLOOR, any⟩, ⟨LNK_STATUS_CLASSES, any⟩, ⟨LNK_STATUS_DEFER, any⟩, ⟨LNK_STATUS_PARTNER_LANE, any⟩, ⟨LNK_STATUS_PARTNER_ROLE, any⟩, ⟨LNK_STATUS_RESUMED, any⟩, ⟨LNK_STATUS_CFG_REFUSED, any⟩]),
  (0x804, [⟨LNK_PARTNER_ID_LO, any⟩]),
  (0x808, [⟨LNK_PARTNER_ID_HI, any⟩]),
  (0x80C, [⟨LNK_DELAY_VALUE, any⟩]),
  (0x810, [⟨LNK_RAW_OFFSET_VALUE, any⟩])]

/-- Registers of the ENG page: page offset and fields. -/
def regsENG : List (Nat × List WField) := [
  (0x10, [⟨ENG_CONTROL_QUARTERS, any⟩, ⟨ENG_CONTROL_SCOPE, (fun v => v ≤ 2)⟩, ⟨ENG_CONTROL_QUIESCE, any⟩, ⟨ENG_CONTROL_LOAD, any⟩, ⟨ENG_CONTROL_RESUME, any⟩]),
  (0x14, [⟨ENG_RETIRE_COLUMN, any⟩, ⟨ENG_RETIRE_ROW, any⟩, ⟨ENG_RETIRE_STAGE, any⟩]),
  (0x400, [⟨ENG_WIN_SEL_TILE, any⟩, ⟨ENG_WIN_SEL_BEAT, any⟩]),
  (0x404, [⟨ENG_ATTIC_SEL_SEL, any⟩]),
  (0x408, [⟨ENG_CLKSTOP_QUARTERS, any⟩]),
  (0x800, [⟨ENG_STATUS_QSTATE, any⟩, ⟨ENG_STATUS_LOAD_RESULT, any⟩, ⟨ENG_STATUS_BUSY, any⟩, ⟨ENG_STATUS_RETIRE_RESULT, any⟩, ⟨ENG_STATUS_SPARES_USED, any⟩])]
  ++ (List.range 4).map (fun k => (0x810 + 4 * k, [⟨ENG_SPARE_LEFT_OUT0 k, any⟩, ⟨ENG_SPARE_LEFT_OUT1 k, any⟩, ⟨ENG_SPARE_LEFT_OUT2 k, any⟩, ⟨ENG_SPARE_LEFT_OUT3 k, any⟩, ⟨ENG_SPARE_FIELD0 k, any⟩, ⟨ENG_SPARE_FIELD1 k, any⟩, ⟨ENG_SPARE_FIELD2 k, any⟩, ⟨ENG_SPARE_FIELD3 k, any⟩]))
  ++ (List.range 8).map (fun k => (0x410 + 4 * k, [⟨ENG_WIN_DATA k, any⟩]))
  ++ (List.range 16).map (fun k => (0x440 + 4 * k, [⟨ENG_ATTIC_DATA k, any⟩]))

/-- Registers of the UPD page: page offset and fields. -/
def regsUPD : List (Nat × List WField) := [
  (0x10, [⟨UPD_CONTROL_PAUSE, any⟩, ⟨UPD_CONTROL_EXPORT, any⟩]),
  (0x14, [⟨UPD_EXPORT_LO, any⟩]),
  (0x18, [⟨UPD_EXPORT_HI, any⟩]),
  (0x400, [⟨UPD_WIN_SEL_SEL, any⟩]),
  (0x800, [⟨UPD_STATUS_STATE, any⟩, ⟨UPD_STATUS_PHASE, any⟩, ⟨UPD_STATUS_BANK, any⟩, ⟨UPD_STATUS_EXPORT_BUSY, any⟩, ⟨UPD_STATUS_EXPORT_RESULT, any⟩]),
  (0x804, [⟨UPD_FLIP_STEP_LO, any⟩]),
  (0x808, [⟨UPD_FLIP_STEP_HI, any⟩]),
  (0x80C, [⟨UPD_BATCH_PAIRS, any⟩]),
  (0x810, [⟨UPD_WDIGEST_LO, any⟩]),
  (0x814, [⟨UPD_WDIGEST_HI, any⟩])]
  ++ (List.range 8).map (fun k => (0x410 + 4 * k, [⟨UPD_WIN_DATA k, any⟩]))

/-- Registers of the SHD page: page offset and fields. -/
def regsSHD : List (Nat × List WField) := [
  (0x10, [⟨SHD_CONTROL_OBSERVE, any⟩, ⟨SHD_CONTROL_OBSERVE_END, any⟩, ⟨SHD_CONTROL_MUSTER, any⟩, ⟨SHD_CONTROL_ACTION, any⟩]),
  (0x14, [⟨SHD_PACK_ADDR_LO, any⟩]),
  (0x18, [⟨SHD_PACK_ADDR_HI, any⟩]),
  (0x1C, [⟨SHD_PACK_LEN_VALUE, any⟩]),
  (0x20, [⟨SHD_PACK_LOAD, any⟩, ⟨SHD_PACK_ALL, any⟩, ⟨SHD_PACK_STAGED, any⟩, ⟨SHD_PACK_STAGE_RESET, any⟩]),
  (0x24, [⟨SHD_PACK_WIN_VALUE, any⟩]),
  (0x800, [⟨SHD_STATUS_OBSERVED, any⟩, ⟨SHD_STATUS_MUSTER, any⟩, ⟨SHD_STATUS_PACK_RESULT, any⟩, ⟨SHD_STATUS_FAILED, any⟩, ⟨SHD_STATUS_FAIL_TILE, any⟩]),
  (0x804, [⟨SHD_PACK_ID_VALUE, any⟩]),
  (0x808, [⟨SHD_PACK_VERSION_VALUE, any⟩]),
  (0x80C, [⟨SHD_PASS_SLOTS_VALUE, any⟩])]

/-- Registers of the ING page: page offset and fields. -/
def regsING : List (Nat × List WField) := [
  (0x800, [⟨ING_STATUS_STEER_USED, any⟩, ⟨ING_STATUS_PROGRAMS_USED, any⟩])]

/-- Registers of the PAS page: page offset and fields. -/
def regsPAS : List (Nat × List WField) := [
  (0x10, [⟨PAS_IMAGE_ADDR_LO_ADDR, any⟩]),
  (0x14, [⟨PAS_IMAGE_ADDR_HI_ADDR, any⟩]),
  (0x18, [⟨PAS_IMAGE_LEN_LENGTH, any⟩]),
  (0x1C, [⟨PAS_ADMIT_ADMIT, any⟩, ⟨PAS_ADMIT_WITHDRAW, any⟩, ⟨PAS_ADMIT_REPLACE, any⟩]),
  (0x20, [⟨PAS_QUARANTINE_POLICY, any⟩, ⟨PAS_QUARANTINE_RELEASE, any⟩]),
  (0x24, [⟨PAS_TRACE_ADDR_LO, any⟩]),
  (0x28, [⟨PAS_TRACE_ADDR_HI, any⟩]),
  (0x2C, [⟨PAS_TRACE_CTL_ENABLE, any⟩, ⟨PAS_TRACE_CTL_LOG2SIZE, (fun v => 12 ≤ v && v ≤ 24)⟩]),
  (0x30, [⟨PAS_TRACE_TAIL_VALUE, any⟩]),
  (0x40, [⟨PAS_MSG_BASE_LO, any⟩]),
  (0x44, [⟨PAS_MSG_BASE_HI, any⟩]),
  (0x48, [⟨PAS_MSG_CTL_ENABLE, any⟩, ⟨PAS_MSG_CTL_LOG2SIZE, (fun v => 6 ≤ v && v ≤ 16)⟩]),
  (0x4C, [⟨PAS_MSG_TAIL_VALUE, any⟩]),
  (0x50, [⟨PAS_INJ_BASE_LO, any⟩]),
  (0x54, [⟨PAS_INJ_BASE_HI, any⟩]),
  (0x58, [⟨PAS_INJ_CTL_ENABLE, any⟩, ⟨PAS_INJ_CTL_LOG2SIZE, (fun v => 6 ≤ v && v ≤ 20)⟩]),
  (0x5C, [⟨PAS_INJ_HEAD_VALUE, any⟩]),
  (0x60, [⟨PAS_MSIX_DEC_EN, any⟩, ⟨PAS_MSIX_UPD_EN, any⟩, ⟨PAS_MSIX_HOLDOFF, any⟩]),
  (0x800, [⟨PAS_ADMIT_STATUS_STATE, any⟩, ⟨PAS_ADMIT_STATUS_BUSY, any⟩, ⟨PAS_ADMIT_STATUS_CODE, any⟩]),
  (0x804, [⟨PAS_ADMIT_WHERE_TILE, any⟩, ⟨PAS_ADMIT_WHERE_OP, any⟩, ⟨PAS_ADMIT_WHERE_CTX, any⟩, ⟨PAS_ADMIT_WHERE_ITEM, any⟩]),
  (0x808, [⟨PAS_IMAGE_ID_IMAGE_ID, any⟩]),
  (0x80C, [⟨PAS_CERT_CERT_NS, any⟩, ⟨PAS_CERT_ENTRY_WAIT, any⟩]),
  (0x810, [⟨PAS_QUARANTINE_STATUS_QUARANTINED, any⟩, ⟨PAS_QUARANTINE_STATUS_PERSISTENT, any⟩, ⟨PAS_QUARANTINE_STATUS_TILE, any⟩]),
  (0x814, [⟨PAS_TRACE_HEAD_VALUE, any⟩]),
  (0x818, [⟨PAS_MSG_HEAD_VALUE, any⟩]),
  (0x81C, [⟨PAS_INJ_TAIL_VALUE, any⟩]),
  (0x820, [⟨PAS_RING_STATUS_INJ_HALTED, any⟩, ⟨PAS_RING_STATUS_DEC_ARMED, any⟩])]
  ++ (List.range 16).map (fun k => (0x840 + 4 * k, [⟨PAS_GRANT k, any⟩]))

/-- Registers of the LRD page: page offset and fields. -/
def regsLRD : List (Nat × List WField) := [
  (0x10, [⟨LRD_REBUILD_MODE, (fun v => v ≤ 1)⟩, ⟨LRD_REBUILD_START, any⟩, ⟨LRD_REBUILD_ABORT, any⟩, ⟨LRD_REBUILD_SEED, any⟩]),
  (0x14, [⟨LRD_SWAP_GO, any⟩, ⟨LRD_SWAP_AT, any⟩, ⟨LRD_SWAP_FORCE, any⟩]),
  (0x18, [⟨LRD_SWAP_FC_LO, any⟩]),
  (0x1C, [⟨LRD_SWAP_FC_HI, any⟩]),
  (0x20, [⟨LRD_RING_BASE_LO, any⟩]),
  (0x24, [⟨LRD_RING_BASE_HI, any⟩]),
  (0x28, [⟨LRD_RING_CTL_ENABLE, any⟩, ⟨LRD_RING_CTL_LOG2SIZE, (fun v => 10 ≤ v && v ≤ 24)⟩]),
  (0x2C, [⟨LRD_RING_HEAD_VALUE, any⟩]),
  (0x400, [⟨LRD_WIN_SEL_SEL, (fun v => v ≤ 3145727)⟩]),
  (0x800, [⟨LRD_STATUS_STATE, any⟩, ⟨LRD_STATUS_LIVE, any⟩, ⟨LRD_STATUS_REFUSED, any⟩, ⟨LRD_STATUS_RB_HALTED, any⟩, ⟨LRD_STATUS_LIVE_SEED, any⟩]),
  (0x804, [⟨LRD_STATUS_KEY_KEY, any⟩]),
  (0x808, [⟨LRD_STATUS_TABLE_TABLE, any⟩]),
  (0x810, [⟨LRD_RING_TAIL_VALUE, any⟩])]
  ++ (List.range 2).map (fun k => (0x410 + 4 * k, [⟨LRD_WIN_DATA k, any⟩]))

/-- Registers of the FAB page: page offset and fields. -/
def regsFAB : List (Nat × List WField) := [
  (0x10, [⟨FAB_BALANCE_POLICY, (fun v => v ≤ 2)⟩]),
  (0x20, [⟨FAB_CAL_TENSOR, any⟩, ⟨FAB_CAL_LOG2EV, (fun v => 8 ≤ v && v ≤ 24)⟩, ⟨FAB_CAL_START, any⟩, ⟨FAB_CAL_ABORT, any⟩]),
  (0x24, [⟨FAB_CAL_LIMITS_NMIN, any⟩]),
  (0x28, [⟨FAB_CAL_CLIP_CLIP_LO, any⟩, ⟨FAB_CAL_CLIP_CLIP_HI, any⟩]),
  (0x30, [⟨FAB_REPLAY_ENABLE, any⟩, ⟨FAB_REPLAY_CLOSE, any⟩]),
  (0x34, [⟨FAB_REPLAY_LIMIT_LO, any⟩]),
  (0x38, [⟨FAB_REPLAY_LIMIT_HI, any⟩]),
  (0x3C, [⟨FAB_REPLAY_START_LO, any⟩]),
  (0x40, [⟨FAB_REPLAY_START_HI, any⟩]),
  (0x400, [⟨FAB_SCALE_SEL_TENSOR, any⟩, ⟨FAB_SCALE_SEL_GROUP, any⟩, ⟨FAB_SCALE_SEL_WHOLE, any⟩]),
  (0x404, [⟨FAB_SCALE_VAL_EXP, any⟩, ⟨FAB_SCALE_VAL_ZP, any⟩, ⟨FAB_SCALE_VAL_APPLY, any⟩]),
  (0x800, [⟨FAB_STATUS_MEMBERS, any⟩, ⟨FAB_STATUS_FOLD, any⟩, ⟨FAB_STATUS_POLICY_REFUSED, any⟩, ⟨FAB_STATUS_IN_FLIGHT, any⟩]),
  (0x804, [⟨FAB_HALT_SLOT, any⟩, ⟨FAB_HALT_VALID, any⟩, ⟨FAB_HALT_TILE, any⟩]),
  (0x808, [⟨FAB_HALT_EVID_LO, any⟩]),
  (0x80C, [⟨FAB_HALT_EVID_HI, any⟩]),
  (0x810, [⟨FAB_CAL_STATUS_PHASE, any⟩, ⟨FAB_CAL_STATUS_RESULT, any⟩, ⟨FAB_CAL_STATUS_TENSOR, any⟩]),
  (0x814, [⟨FAB_CAL_STEP_LO, any⟩]),
  (0x818, [⟨FAB_CAL_STEP_HI, any⟩]),
  (0x81C, [⟨FAB_CAL_SHARE_SHARE, any⟩]),
  (0x820, [⟨FAB_SAT_TENSOR, any⟩, ⟨FAB_SAT_SAT_EVENT, any⟩]),
  (0x824, [⟨FAB_SCALE_NOW_EXP, any⟩, ⟨FAB_SCALE_NOW_ZP, any⟩, ⟨FAB_SCALE_NOW_RUNNING, any⟩, ⟨FAB_SCALE_NOW_APPLY_RESULT, any⟩]),
  (0x828, [⟨FAB_REPLAY_STATUS_ACTIVE, any⟩, ⟨FAB_REPLAY_STATUS_HELD, any⟩, ⟨FAB_REPLAY_STATUS_DRAINED, any⟩, ⟨FAB_REPLAY_STATUS_REFUSED, any⟩]),
  (0x82C, [⟨FAB_REPLAY_EMITTED_LO, any⟩]),
  (0x830, [⟨FAB_REPLAY_EMITTED_HI, any⟩])]

/-- Registers of the EGR page: page offset and fields. -/
def regsEGR : List (Nat × List WField) := [
  (0x10, [⟨EGR_QUEUE_LATE_SEND, any⟩])]

/-- Registers of the TIL page: page offset and fields. -/
def regsTIL : List (Nat × List WField) := [
  (0x800, [⟨TIL_STATUS_PHYS_COL, any⟩, ⟨TIL_STATUS_EMPTY, any⟩])]
  ++ (List.range 8).map (fun k => (0x810 + 4 * k, [⟨TIL_DIGEST k, any⟩]))

/-- The register list of a block's page. -/
def Block.regs : Block → List (Nat × List WField)
  | .DEV => regsDEV
  | .OWN => regsOWN
  | .CEL => regsCEL
  | .TB => regsTB
  | .FLK => regsFLK
  | .CHK => regsCHK
  | .LFT => regsLFT
  | .PWR => regsPWR
  | .OTP => regsOTP
  | .PCI => regsPCI
  | .ETH => regsETH
  | .LNK => regsLNK
  | .ENG => regsENG
  | .UPD => regsUPD
  | .SHD => regsSHD
  | .ING => regsING
  | .PAS => regsPAS
  | .LRD => regsLRD
  | .FAB => regsFAB
  | .EGR => regsEGR
  | .TIL => regsTIL

/-- Block codes (R600). -/
def Block.code : Block → Nat
  | .DEV => 1
  | .OWN => 2
  | .CEL => 3
  | .TB => 4
  | .FLK => 19
  | .CHK => 21
  | .LFT => 16
  | .PWR => 17
  | .OTP => 18
  | .PCI => 13
  | .ETH => 12
  | .LNK => 11
  | .ENG => 5
  | .UPD => 20
  | .SHD => 15
  | .ING => 8
  | .PAS => 14
  | .LRD => 9
  | .FAB => 7
  | .EGR => 10
  | .TIL => 6

/-- Tally runs of a block's page: (offset of the first lower word, how many follow in steps of 8). -/
def Block.tallyRuns : Block → List (Nat × Nat)
  | .DEV => []
  | .OWN => [(0xC00, 73)]
  | .CEL => [(0xC00, 4)]
  | .TB => [(0xC00, 3)]
  | .FLK => [(0xC00, 13)]
  | .CHK => [(0xC00, 60), (0xE00, 8)]
  | .LFT => [(0xC00, 5)]
  | .PWR => [(0xC00, 4)]
  | .OTP => []
  | .PCI => [(0xC00, 3)]
  | .ETH => [(0xC00, 11), (0xC80, 1)]
  | .LNK => [(0xC00, 22)]
  | .ENG => [(0xC00, 5)]
  | .UPD => [(0xC00, 19)]
  | .SHD => [(0xC00, 6)]
  | .ING => [(0xC00, 3)]
  | .PAS => [(0xC00, 16)]
  | .LRD => [(0xC00, 16)]
  | .FAB => [(0xC00, 27)]
  | .EGR => [(0xC00, 9)]
  | .TIL => []

/-- The page directory (R605): first page address, first and last instance of each block. -/
def directory : List (Block × Nat × Nat × Nat) := [
  (.DEV, 0x0, 0, 0),
  (.OWN, 0x1000, 0, 0),
  (.CEL, 0x10000, 0, 0),
  (.TB, 0x10000, 1, 7),
  (.FLK, 0x20000, 0, 0),
  (.CHK, 0x30000, 0, 0),
  (.LFT, 0x31000, 0, 0),
  (.PWR, 0x32000, 0, 0),
  (.OTP, 0x33000, 0, 0),
  (.PCI, 0x34000, 0, 0),
  (.ETH, 0x40000, 0, 15),
  (.LNK, 0x80000, 0, 63),
  (.ENG, 0x100000, 0, 7),
  (.UPD, 0x140000, 0, 7),
  (.SHD, 0x180000, 0, 7),
  (.ING, 0x200000, 0, 80),
  (.PAS, 0x300000, 0, 63),
  (.LRD, 0x340000, 0, 63),
  (.FAB, 0x380000, 0, 63),
  (.EGR, 0x3C0000, 0, 63),
  (.TIL, 0x1000000, 0, 4087)]

end Sys2Proof.Machine
end

