-- ==== Sys2Proof/Machine/State.lean ====
section
/-! DEFINITION. The state of the device as plain data: the compute die, the Cellar, the kill state machine, the fuses
fixed at manufacture, and the queue of waiting commands; the two ways a step can stop; and the state after reset. -/

namespace Sys2Proof.Machine

/-- Why a step stops with a fault. -/
inductive Fault where
  /-- Raised by a meaning whose operand names a unit the device does not have (a lane above 63, a port above 15,
  an engine above 7, a pasture above 63, a pin, a tile without a page). Safe: the machine stops where no such
  command can reach the device. -/
  | noSuchUnit
deriving DecidableEq, Repr

/-- Why a step is refused. -/
inductive Refusal where
  /-- Raised by an arm of the dispatch whose command has no meaning yet. Safe. -/
  | notModelled (mnemonic : String)
deriving DecidableEq, Repr

/-- A timestamp of a time base: seconds, nanoseconds, 2^-16 ns (R66). -/
structure Stamp where
  sec : Nat := 0
  ns : Nat := 0
  frac : Nat := 0
deriving DecidableEq, Repr

/-- An event record (R66). -/
structure EvRec where
  evid : Nat := 0
  key : Nat := 0
  pasture : Nat := 0
  source : Nat := 0
  tb : Nat := 0
  ts : Stamp := {}
  fields : List Byte := []
  /-- 1 = carried poisoned (R509, kind 12) -/
  poison : Bool := false
  /-- the FC of the record's ingress capture in 2^-4 ns, for LAT of R404 -/
  inFc16 : Nat := 0
  /-- the Larder table of its feed (R282), and whether it has waited under R89 -/
  table : Option Nat := none
  waited : Bool := false
deriving DecidableEq, Repr

/-- A closed record that waits for its assembly (R62). -/
structure ClosedRec where
  evid : Option Nat
  key : Nat
  tb : Nat
  fields : List Byte
deriving DecidableEq, Repr

/-- An earlier frame of a Gate parser whose program has ended: its closed records that await their assembly, those held under WAIT, how many have left,
and its FCS result still to come (R62 to R65). -/
structure FrameTail where
  pasture : Nat := 0
  table : Option Nat := none
  srcCode : Nat := 0
  stamps : List Stamp := []
  inFc16 : Nat := 0
  wait : Bool := false
  closing : List ClosedRec := []
  left : Nat := 0
  held : List EvRec := []
  fcsDue : Bool := false
  fault : Bool := false
deriving DecidableEq, Repr

/-- A Gate parser (R49 to R65): the frame in hand, the program's working values and the records awaiting assembly. -/
structure Parser where
  busy : Bool := false
  frame : List Byte := []
  base : Nat := 0
  arrived : Nat := 0
  pasture : Nat := 0
  instrs : List Word := []
  consts : List (BitVec 64 × BitVec 64) := []
  bounds : List Nat := []
  table : Option Nat := none
  srcCode : Nat := 0
  tb0 : Nat := 0
  wait : Bool := false
  stamps : List Stamp := []
  inFc16 : Nat := 0
  pc : Nat := 0
  running : Bool := false
  cursor : Nat := 0
  c : Bool := false
  key : Nat := 0
  evid : Option Nat := none
  tb : Nat := 0
  fields : List Byte := []
  /-- the record under construction has been dropped and counted under R61 -/
  dropped : Bool := false
  /-- an EXT, KEYC, KEYH, EVID or TBSEL has executed since the program began or its last EMITR -/
  touched : Bool := false
  /-- an EMITR has executed -/
  emitted : Bool := false
  /-- EMITRs and ACCEPTs executed -/
  closed : Nat := 0
  msgStart : Nat := 0
  /-- records closed and not yet assembled -/
  closing : List ClosedRec := []
  /-- records assembled and held under WAIT, or assembled and gone: how many left before the FCS result -/
  left : Nat := 0
  held : List EvRec := []
  /-- the FCS result of the frame is still to come -/
  fcsDue : Bool := false
  /-- a receive fault of R416 makes the frame fail its FCS -/
  fault : Bool := false
  /-- the event ID of a replay prefix (R358) -/
  replayEvid : Option Nat := none
  /-- frames before the one in hand that are not settled, oldest first -/
  tails : List FrameTail := []
deriving DecidableEq, Repr

/-- A steering entry in a port's table (R53) with the pasture it belongs to. -/
structure SteerEnt where
  pasture : Nat
  entry : Steer
deriving DecidableEq, Repr

/-- A directory entry (R78). -/
structure DirEnt where
  key : Nat
  table : Nat
  ptr : Nat
deriving DecidableEq, Repr

/-- What the Larder holds for one pasture (R77, R88, R91, R95, R99). -/
structure LarPas where
  live : Nat := 0
  liveSeed : Nat := 0
  shadowSeed : Nat := 0
  /-- default-row pointers of the tables 0 to 7 in the live view and in the shadow view -/
  defLive : KMap Nat := []
  defShadow : KMap Nat := []
  /-- rows in use: the first word of a row to the words it takes, in order (R92) -/
  alloc : KMap (List Nat) := []
  /-- rows to free 16 cc after a swap (R99) -/
  freeing : List Nat := []
  swapAt : Nat := 0
  /-- set WRITEBACK markers: table, key, ticket of the event that set it (R88) -/
  markers : List (Nat × Nat × Nat) := []
  /-- 1 = the next record looked up is the first to use the new bank (R550, SWAP body) -/
  swapNew : Bool := false
  swapFc : Nat := 0
  /-- the tables the region holds: number, STATE class, row units (R300, R301) -/
  tables : List (Nat × Bool × Nat) := []
deriving DecidableEq, Repr

/-- An event on its way from the Larder to an engine entry. -/
structure Ev where
  er : EvRec := {}
  table : Option Nat := none
  row : List Byte := []
  rowPtr : Nat := 0
  miss : Bool := false
  poison : Bool := false
  ticket : Nat := 0
  marker : Bool := false
  packet : List (PacketBeat × Beat × Bool) := []
deriving DecidableEq, Repr

/-- A beat in a queue with its sideband (R105). -/
structure QBeat where
  data : Beat := 0
  slot : Nat := 0
  poison : Bool := false
  last : Bool := false
deriving DecidableEq, Repr

/-- An expansion buffer entry (R184). -/
structure AxEnt where
  ops : List Xop := []
  fmt : Nat := 0
  slot : Nat := 0
  poison : Bool := false
deriving DecidableEq, Repr

/-- An expansion buffer (R184, R185): entries AX0 to AX3 and the DOT firings it still awaits. -/
structure ExpBuf where
  ents : KMap AxEnt := []
  left : Nat := 0
deriving DecidableEq, Repr

/-- A table register (R193). -/
structure TabReg where
  bytes : List Byte := []
  poison : Bool := false
deriving DecidableEq, Repr

/-- A fold context of a tile (R113, R129, R184, R193, R214): its queue partitions, the firings of each operation, expansion
buffers, table registers and window heads. -/
structure CtxSt where
  queues : KMap (List QBeat) := []
  fires : KMap Nat := []
  wptr : Nat := 0
  rptr : Nat := 0
  bufs : KMap ExpBuf := []
  tr : KMap TabReg := []
  heads : KMap Nat := []
deriving DecidableEq, Repr

/-- A digest register (R227, R228). -/
structure DigReg where
  d : Nat := 0
  seen : Bool := false
deriving DecidableEq, Repr

/-- A beat of an update buffer with its scale tags (R326). -/
structure UbBeat where
  data : Beat := 0
  t0 : Int := 0
  t1 : Int := 0
deriving DecidableEq, Repr

/-- A tile (R102, R118, R227, R326): contexts, tile store, loop-gate counters, digest registers, update buffers (buffer × 8 + beat),
accumulator file, codes assembled by SRQ with their layers, and where the update lane stands: in its list, in its blocks, in its SWAPs by layer. -/
structure TileSt where
  ctxs : KMap CtxSt := []
  store : KMap Beat := []
  gates : KMap Nat := []
  digests : KMap DigReg := []
  ubs : KMap UbBeat := []
  acc : KMap Int := []
  codes : List (Nat × Nat) := []
  lanePos : Nat := 0
  block : Nat := 0
  swapped : KMap Nat := []
deriving DecidableEq, Repr

/-- An event slot in flight (R123, R245, R310, R312): the event, its step, PAR, WB and FLAG bits, and the beats captured for it:
(capture point, its beats with tags and poison). -/
structure SlotSt where
  ev : Ev := {}
  step : Nat := 0
  par : Nat := 0
  wb : Nat := 0
  flagged : Bool := false
  /-- the calibration phase this event is one of: 1 observe, 2 verify, 0 neither (R268) -/
  cal : Nat := 0
  caps : List (Nat × List (Beat × Int × Bool)) := []
deriving DecidableEq, Repr

/-- A decision at the engine exit (R233, R234): its beat, event and quarter. -/
structure Decision where
  beat : Beat
  poison : Bool
  slot : Nat
  ev : Ev
deriving DecidableEq, Repr

/-- An observation record (R260); `bad`: an uncorrectable error has struck it (R265). -/
structure ObsRec where
  p : Nat := 0
  nn : Nat := 0
  samples : Nat := 0
  nonzero : Nat := 0
  clipped : Nat := 0
  first : Nat := 0
  diff : Bool := false
  bad : Bool := false
deriving DecidableEq, Repr

/-- One reliable class of a lane (R435 to R437): next sequence number, outstanding frames with their numbers, frames that wait,
the expected number, whether a NAK has gone out for it, messages delivered and not yet taken, expiries in a row. -/
structure Rel where
  next : Nat := 0
  out : List (Nat × List Byte) := []
  waits : List (List Byte) := []
  /-- frames to be sent again, in order (R437) -/
  resend : List (Nat × List Byte) := []
  exp : Nat := 0
  naked : Bool := false
  buf : List (List Byte) := []
  expiries : Nat := 0
  /-- control frames due (R436): an ACK for a new frame or for a duplicate, a NAK of a number; the start of the last ACK in units of 1/21 ps -/
  ackDue : Bool := false
  reack : Bool := false
  nakDue : Option Nat := none
  ackAt : Option Nat := none
deriving DecidableEq, Repr

/-- A partner TS2 received with a good CRC and its receive capture (R433). -/
structure Ts2Rec where
  seq : Nat
  echoValid : Bool
  echoSeq : Nat
  echoRx : Nat
  rx : Nat
deriving DecidableEq, Repr

/-- An Ouvust lane (R427 to R446). -/
structure Lane where
  attempts : Nat := 0
  ts1Run : Nat := 0
  ts1Locked : Nat := 0
  ts1Sent : Nat := 0
  locked : Bool := false
  sawTs2 : Bool := false
  ts2Seq : Nat := 0
  ts2Tx : KMap Nat := []
  ts2Last : Option Ts2Rec := none
  samples : List Int := []
  done : Bool := false
  doneSent : Nat := 0
  doneRun : Nat := 0
  gotDone : Bool := false
  /-- RESUME of this side and of the partner's last TS2; the partner before the retrain -/
  resume : Bool := false
  resumeRx : Bool := false
  oldId : Nat := 0
  oldLane : Nat := 0
  /-- errors of the present window (R439) -/
  errors : Nat := 0
  /-- B frames outstanding or queued at a deferred trigger, and whether that trigger's cause (R440) -/
  deferFor : List Nat := []
  deferCause : Nat := 0
  sExp : KMap (Option Nat) := []
  sNext : KMap Nat := []
  /-- S frames of the flock that wait: channel and payload (R457, R458) -/
  sWaits : List (Nat × List Byte) := []
  /-- the transmitter (R420, R422): its running disparity, true if positive, and the instant, in units of 1/21 ps, at which its last frame or
  training ended -/
  rdTx : Bool := false
  lineEnd : Nat := 0
  /-- the preset that TS1 names, taken at the entry to TRAIN1 (R431, R449) -/
  preset : Nat := 0
  r : Rel := {}
  b : Rel := {}
  /-- runs by bit offset in SEARCH, mismatching frames in a row in LOCKED (R444, R445) -/
  runs : KMap Nat := []
  misses : Nat := 0
deriving DecidableEq, Repr

/-- A child of a shepherd: lane, joined or not, its member image sets with their member counts (R459, R467). -/
structure Child where
  joined : Bool := false
  role : Nat := 0
  images : List Nat := []
  /-- EPOCH and STATE of its last SYNC -/
  epoch : Nat := 0
  state : Nat := 0
deriving DecidableEq, Repr

/-- A reduction in a shepherd (R467, R468): image, step, and by chunk the lanes that delivered it; sums by weight; chunks sent up. -/
structure Reduction where
  image : Nat := 0
  step : Nat := 0
  lanes : KMap (List Nat) := []
  sums : KMap Int := []
  sent : List Nat := []
deriving DecidableEq, Repr

/-- Digests merged in a shepherd for one set and flip step (R469): lanes heard, digests with counts, OTHER, not reporting. -/
structure DigestSet where
  image : Nat := 0
  step : Nat := 0
  lanes : List Nat := []
  found : List (Nat × Nat) := []
  other : Nat := 0
  silent : Nat := 0
deriving DecidableEq, Repr

/-- The flock logic (R452 to R475). -/
structure Flock where
  /-- the lane that is the parent link where a head has two (R454, R474) -/
  parent : Nat := 0
  refused : Bool := false
  /-- last SYNC of the parent: number and receive capture; channel 63 -/
  lastSync : Option (Nat × Nat) := none
  /-- transmit capture of the last SYNC sent, by lane -/
  syncTx : KMap Nat := []
  good : Nat := 0
  bad : Nat := 0
  miss : Nat := 0
  absorb : Nat := 0
  /-- no sample has been kept since HOLDOVER began -/
  hold : Bool := false
  phase : Int := 0
  holdFrom : Nat := 0
  parentHold : Nat := 0
  kids : KMap Child := []
  /-- the reduction in progress; by image, one more than the step of the last that closed -/
  reduction : Option Reduction := none
  reduced : KMap Nat := []
  digests : List DigestSet := []
deriving DecidableEq, Repr

/-- What an engine holds for one pasture (R124, R229, R245, R248, R345): slot rotation, slots in flight, admission index, step counter,
entry digest, decisions at the exit, and the scale controller. -/
structure EngPas where
  next : Nat := 0
  slots : KMap SlotSt := []
  /-- events admitted and not retired, slot numbers oldest first -/
  flight : List Nat := []
  index : Nat := 0
  step : Nat := 0
  stepFires : Nat := 0
  ed : Nat := 0
  /-- the entry digest of each step not yet closed (R345) -/
  eds : KMap Nat := []
  exits : List Decision := []
  /-- static exponents and zero point in force by tensor, where they differ from the image's (R249) -/
  statics : KMap (Option (List Int × Int)) := []
  /-- tensors an expert APPLY has made STATIC (R272) -/
  forced : List Nat := []
  /-- exponents and zero point by tensor × 2 + bank (R244, R246) -/
  banks : KMap (Option (List Int × Int)) := []
  /-- observation records: (step × 65,536 + tensor) × 4,096 + group (R260) -/
  obs : KMap ObsRec := []
  /-- the next step whose commit point is due (R248) -/
  commit : Nat := 0
  /-- of a balance group's engine: a RESUME has opened the pasture's quarters since static values last changed (R250) -/
  resumed : Bool := false
  /-- an event has been counted as waiting: for its slot, for its scales, for an update -/
  waitSlot : Bool := false
  waitScale : Bool := false
  waitUpd : Bool := false
  /-- an event waits at the entry past the wheel stage -/
  waiting : Bool := false
deriving DecidableEq, Repr

/-- A capture record (R314) and the label matched with it. -/
structure CapRec where
  evid : Nat
  beats : List Beat
  tags : List Int
  poison : Bool
  wb : Nat
  step : Nat
  fc : Nat
  label : Option (List Nat) := none
deriving DecidableEq, Repr

/-- A label at the update unit (R316). -/
structure LabelMsg where
  evid : Nat
  lanes : List Nat
  fc : Nat
deriving DecidableEq, Repr

/-- An update (R320): its step, pairs of its batch and the batch digest, pairs still to run, the pair delivered, flip step and whether it
is known, chunks of TOTAL received, whether its swap phase runs, and the weight digest of the new bank. -/
structure UpdRun where
  step : Nat := 0
  pairs : Nat := 0
  digest : Nat := 0
  todo : List CapRec := []
  cur : Option CapRec := none
  flip : Nat := 0
  committed : Bool := false
  chunks : List Nat := []
  swapping : Bool := false
  wd : Nat := 0
deriving DecidableEq, Repr

/-- The update unit of an engine (R307 to R325, R353). -/
structure UpdSt where
  ring : List CapRec := []
  labels : List LabelMsg := []
  /-- the lowest step whose batch is open, and closed batches awaiting their update: step and event IDs -/
  openFrom : Nat := 0
  queue : List (Nat × List Nat) := []
  run : Option UpdRun := none
  /-- an update whose swap phase is complete and that has not flipped -/
  pend : Option UpdRun := none
  /-- by layer × 2^20 + index: masters, moment codes, gradient sums; moment block exponents by (layer × 512 + tile) × 2^20 + block, and
  the tensor bases of the last update by layer -/
  masters : KMap Nat := []
  moments : KMap (Nat × Nat) := []
  sums : KMap Int := []
  exps : KMap (Int × Int) := []
  bases : KMap (Int × Int) := []
  bank : Nat := 0
  wd : Nat := 0
  /-- WD at the flip steps whose DIGEST is sent and not judged (R469, R471) -/
  sentWd : KMap (Option Nat) := []
  /-- the function whose address space an export writes (R339) -/
  exportFn : Nat := 0
deriving DecidableEq, Repr

/-- A calibration of one pasture (R268 to R270). -/
structure CalSt where
  tensors : List Nat := []
  /-- TENSOR as START found it (R268, R273) -/
  target : Nat := 0
  log2ev : Nat := 0
  events : Nat := 0
  obs : KMap ObsRec := []
  ver : KMap ObsRec := []
  proposal : KMap (Option (List Int)) := []
deriving DecidableEq, Repr

/-- What the device gives to the outside, in order. -/
inductive Emit where
  /-- TRIG_OUT edge: pin and level (R234) -/
  | trig (pin : Nat) (level : Bool)
  /-- a frame leaves on an Ethernet port, from its preamble to its FCS (R384, R414) -/
  | frame (port : Nat) (bytes : List Byte)
  /-- an Ethernet port begins or ends to send remote fault (R417) -/
  | fault (port : Nat) (level : Bool)
  /-- the Cellar drives a capture point in a calibration (R402) -/
  | drive (point : Nat)
  /-- MSI-X vector of a VF (R611) -/
  | msix (p : Nat) (vector : Nat)
  /-- words that an Ouvust lane sends after a number of idle words (R420, R422): 40 bits each, the bit sent first highest -/
  | line (lane : Nat) (idles : Nat) (words : List (BitVec 40))
  /-- SMBus answer -/
  | smbus (bytes : List Byte)
  /-- level of ALIVE (R641) -/
  | alive (level : Bool)
  /-- level of PPS_OUT (R630) -/
  | pps (level : Bool)
deriving DecidableEq, Repr

/-- An entry of a launch queue (R386 to R392). -/
structure LaunchEnt where
  pasture : Nat := 0
  queue : Nat := 0
  kind : Nat := 1
  port : Nat := 0
  alt : Nat := 255
  template : Nat := 0
  mode : Nat := 0
  target : Nat := 0
  win : Nat := 0
  bytes : List Byte := []
  tstamp : Bool := false
  tb : Nat := 0
  evid : Nat := 0
  inFc16 : Nat := 0
  image : Nat := 0
  /-- an entry of the Cellar's launch queue is reserved for it (R392) -/
  audited : Bool := false
  late : Bool := false
  poison : Bool := false
  /-- an agreed launch of the flock (R464) -/
  agreed : Bool := false
deriving DecidableEq, Repr

/-- A committed frame on its way to a port's pin (R391): the entry and its start, in units of 1/21 ps of FC (R22). -/
structure TxFrame where
  ent : LaunchEnt
  start : Nat
deriving DecidableEq, Repr

/-- A transmit port: the frame chosen for a start (R394) and that start, the committed frames whose first bit is still to leave, oldest first
(R391), and the end of the last frame with what must follow it. A frame that is chosen or committed is still at the head of its queue (R388). -/
structure PortSt where
  sched : Option LaunchEnt := none
  start : Nat := 0
  line : List TxFrame := []
  busyTo : Nat := 0
deriving DecidableEq, Repr

/-- A TRIG or launch whose edge waits for its capture: what its audit record will hold (R404). -/
structure AuditPend where
  pasture : Nat := 0
  late : Bool := false
  evid : Nat := 0
  image : Nat := 0
  inFc16 : Nat := 0
  audited : Bool := false
deriving DecidableEq, Repr

/-- A TRIG_OUT pin (R234, R631): level, the cc at which the running pulse ends, edges awaiting capture. -/
structure TrigPin where
  high : Bool := false
  endCc : Nat := 0
  pasture : Nat := 0
  edges : List AuditPend := []
deriving DecidableEq, Repr

/-- A TRIG_IN input (R633 to R635): the cc of the first active sample of the last accepted pulse, the pulse in progress,
and the capture queue in FC units of 2^-4 ns. -/
structure TrigIn where
  lastAcc : Option Nat := none
  active : Option Nat := none
  queue : List Nat := []
deriving DecidableEq, Repr

/-- A stretch of a time base over which its rate does not change (R370, R373): the FC it begins at, the ns count there in
2^-40 ns, the rate word, and whether the base advances. -/
structure TbSeg where
  fc : Nat
  value : Nat
  adj : Int
  on : Bool
deriving DecidableEq, Repr

/-- A time base TB1 to TB7 (R369): its stretches, newest first; the steps awaiting the next tick, in order (R372); the first word of TB_STEP. -/
structure TimeBase where
  segs : List TbSeg := []
  steps : List Int := []
  stepLo : Nat := 0
deriving DecidableEq, Repr

/-- A key slot (R498). -/
structure KeySlot where
  x : Nat := 0
  y : Nat := 0
  programmed : Bool := false
  revoked : Bool := false
  image : Bool := false
  pack : Bool := false
deriving DecidableEq, Repr

/-- One settings record slot of the OTP (R586): its 512 bytes. -/
structure OtpSlot where
  bytes : List Byte := []
deriving DecidableEq, Repr

/-- What the fuses and the OTP of the compute die hold and a command can still change (R496, R498, R586). -/
structure Otp where
  lifecycle : Nat := 0
  keys : KMap KeySlot := []
  slots : List OtpSlot := []
  /-- the record a program in progress writes -/
  programming : Option (List Byte) := none
  /-- the generation in force (R587); 7 = none -/
  gen : Nat := 7
deriving DecidableEq, Repr

/-- The Sheepdog of one engine (R522 to R533). -/
structure Shd where
  pack : Option Pack := none
  stage : List Word := []
  /-- next pattern on the tile under test, that tile, and the tiles that the pass has done (R526) -/
  pos : Nat := 0
  tile : Nat := 0
  tested : List Nat := []
  transients : List Nat := []
  ues : List Nat := []
  muster : Bool := false
  /-- quarters running when the muster began -/
  wasRunning : Nat := 0
deriving DecidableEq, Repr

/-- The first-failure capture and the sequence numbers of the Loft (R549, R554, R558, R560). -/
structure Loft where
  seqs : KMap Nat := []
  ff : List (List Byte) := []
  ffAfter : Nat := 0
  /-- packets dropped since the last accepted one: key output × 65,536 + source × 256 + instance -/
  gaps : KMap (Nat × Nat) := []
  /-- with two lanes, which one sends next; packets that wait for their frame on a lane (R555) -/
  second : Bool := false
  laneQ : List (Nat × List Byte) := []
deriving DecidableEq, Repr

/-- A record of the audit chain before its chain position is known: 32 bytes (R404, R405), and the tc of its occurrence. -/
structure AuditRec where
  bytes : List Byte
  order : Nat
deriving DecidableEq, Repr

/-- A slot on its way to the audit ring: its bytes and the queue entry it frees: 0 none, 1 launch queue, 2 Cellar queue. -/
structure AuditSlot where
  bytes : List Byte
  frees : Nat
deriving DecidableEq, Repr

/-- The sealed settings (R397): limits, source mask, path delays in 2^-16 ns by capture point. -/
structure Settings where
  slew0 : Nat := 100
  jump0 : Nat := 10
  mask : Nat := 0x1F
  delays : KMap Int := []
deriving DecidableEq, Repr

/-- The Cellar (R374 to R380, R397 to R408). -/
structure Cellar where
  /-- the fields of its page that are not settings -/
  regs : KMap Nat := []
  settings : Settings := {}
  sealed : Bool := false
  breaks : Nat := 0
  powerUps : Nat := 0
  /-- the settings image of the OTP seal record -/
  sealRecord : List Byte := []
  /-- 1 = VCEL is present and the chain has started -/
  up : Bool := false
  /-- TB0's ns count in 2^-40 ns -/
  tb0 : Nat := 0
  adj0 : Int := 0
  freq : Int := 0
  oPrev : Option Int := none
  /-- FC of the last accepted offset; the count of tc; the raw FC in 2^-4 ns of the last PPS_IN edge; the level of PPS_OUT -/
  offFc : Nat := 0
  tc : Nat := 0
  ppsFc16 : Option Nat := none
  ppsOut : Bool := false
  /-- entries to holdover (none) and exits from it (with the ADJ0 they bring) deferred under R406, in order -/
  deferHold : List (Option Int) := []
  /-- owner steps accepted for the next tc, in order (R380) -/
  steps : List Int := []
  /-- of a calibration that runs (R402): its PPS_IN edges so far, and whether an interval has been wrong -/
  calEdges : Nat := 0
  calBad : Bool := false
  /-- TB0 captures of PTP frames on the disciplining port: tag, 1 = sent, TB0 in 2^-16 ns -/
  ptpCaps : List (Nat × Bool × Nat) := []
  submit : KMap Nat := []
  stepLo : Nat := 0
  /-- audit chain: reservations, the two queues, hashed slots awaiting the ring, Hn, n -/
  reserved : Nat := 0
  launchQ : List AuditRec := []
  celQ : List AuditRec := []
  slots : List AuditSlot := []
  hash : BitVec 256 := 0
  chain : Nat := 0
deriving DecidableEq, Repr

/-- States of the kill state machine (R637). -/
inductive KillState where
  | idle | wait | normal | fault
deriving DecidableEq, Repr

/-- The kill state machine (R637, R638). -/
structure Kill where
  st : KillState := .idle
  tick : Nat := 0
  n0 : Nat := 0
  nt : Nat := 25000
  ntNew : Nat := 25000
  pending : Bool := false
  first : Bool := false
  quiet : Nat := 0
  clearReq : Bool := false
  clearRefused : Bool := false
  a : Bool := false
  b : Bool := false
  blocked : Bool := true
  /-- start-up step 6 has ended; until then the gate blocks (R637) -/
  running : Bool := false
deriving DecidableEq, Repr

/-- What is fixed at manufacture and no command changes. -/
structure Fused where
  /-- 0 EH820-8A, 1 EH820-8B, 2 EH820-6B (R4) -/
  grade : Nat := 0
  deviceId : Nat := 1
  dieId : Nat := 1
  /-- the vendor RMA key (R497) and the seal-authority key (R399) -/
  rmaKey : Nat × Nat := (0, 0)
  sealKey : Nat × Nat := (0, 0)
  /-- factory spare map: column left out of row 16 e + r, 24 where the spare is unused (R136) -/
  spares : KMap Nat := []
deriving DecidableEq, Repr

/-- A pasture's Larder put aside (R297): its part, the directory entries and row words of its region, the error states of those words, and
LRD_STATUS with its two companions, word by word. -/
structure LarderCopy where
  part : LarPas := {}
  dir : KMap (Option DirEnt) := []
  rows : KMap (BitVec 64) := []
  ecc : KMap Nat := []
  poison : KMap Bool := []
  status : List Nat := []
deriving DecidableEq, Repr

/-- An image in a pasture (R297 to R301): the image in force, which is loading or serves, and the steps of its admission or
withdrawal. -/
structure PasSt where
  image : Option Image := none
  /-- the image serves: its admission is complete -/
  adm : Bool := false
  /-- the new image of a REPLACE whose checks have passed: it takes force when its load completes (R299) -/
  loading : Option Image := none
  /-- quarters are being loaded for an admission, or with the old image again (R298, R299) -/
  going : Bool := false
  /-- an ADMIT is reading and checking -/
  reading : Bool := false
  replace : Bool := false
  /-- of an ADMIT that is reading: the instant, in nanoseconds, at which the image's last byte has come (R296) -/
  readNs : Nat := 0
  /-- withdrawal: 0 none, 1 slots retiring, 2 queues emptying -/
  leaving : Nat := 0
  evCounter : Nat := 0
  /-- matching groups beyond the fourth of an event (R73): the spec gives REFLEX_EXCESS no offset; it saturates as R20 says of every tally -/
  reflexExcess : Nat := 0
  /-- positions of the foreground wheel (R81) held for the image in force and for the one a REPLACE loads: one list for each feed with a table, then
  for each engine that reads rows -/
  wheel : List (List Nat) := []
  wheelNew : List (List Nat) := []
  /-- engine-entry waits for its turn in ROTATE (R149) -/
  rotate : Nat := 0
  msixLast : Nat := 0
  replayEmitted : Nat := 0
  /-- lookups begun, which tell the WRITEBACK markers' events apart -/
  ticket : Nat := 0
  /-- calibration in progress -/
  cal : CalSt := {}
  /-- tensors whose static values have changed and wait for a commit point or a RESUME (R248, R250) -/
  changed : List Nat := []
  /-- extents of the Attic its image holds (R286) -/
  extents : Nat := 0
  /-- the numbers of the free values that say in which banks of the Attic the extents of the image in force lie, and those of the one that
  loads (R286) -/
  attic : Nat := 0
  atticNew : Nat := 0
  /-- while a first admission loads: the pasture's Larder as it was before (R297) -/
  before : Option LarderCopy := none
deriving DecidableEq, Repr

/-- A load that has been requested of the Attic (R142): its key, an engine for a LOAD and 8 + p for the admission of pasture p, and what it
reads: the free value that places an image's extents, and the engine whose sections they are. -/
structure LoadReq where
  key : Nat
  banks : List (Nat × Nat)
deriving DecidableEq, Repr

/-- The compute die. -/
structure Die where
  /-- register fields away from their reset value, by Fld.key (R15, R593) -/
  regs : KMap Nat := []
  /-- tallies by address of the lower word: count, and the saturation bit at 2^48 (R18) -/
  tallies : KMap Nat := []
  /-- captures of R19 and R597: reader × 2^32 + address of the lower word -/
  caps : KMap Nat := []
  /-- the word the last read returned -/
  readData : Word := 0
  /-- what the device has given to the outside, in order -/
  emits : List Emit := []
  /-- host memory as the device finds and leaves it: function × 2^64 + address; function 0 is the PF, k the VF k (R489) -/
  host : KMap Byte := []
  /-- free values drawn so far: the model's own field, no state of the device -/
  free : Nat := 0
  /-- OWN_NONCE (R497) -/
  nonce : BitVec 64 := 0
  /-- the flock count (R367) and nanoseconds since the model began, which order instants that FC cannot -/
  fc : Nat := 0
  ns : Nat := 0
  /-- masters reach the registers (R584, step 6) -/
  up : Bool := false
  aliveOn : Bool := false
  alive : Bool := false
  /-- master PLL: whether REF250 is present, pulling in, and whether start-up is waiting for it (R577) -/
  refWait : Bool := true
  pullIn : Bool := false
  fcRun : Bool := false
  timingPending : Option (Nat × Nat) := none
  profilePending : Option Nat := none
  /-- power-state request in progress: its target (R579); a thermal trip whose Standby has not been left (R574); the supplies are
  out of tolerance (R627) -/
  statePending : Option Nat := none
  tripped : Bool := false
  off : Bool := false
  napOpen : List Nat := []
  /-- a fault reset's restore is in progress (R585) -/
  restoring : Bool := false
  /-- parsers by source code (R49) -/
  parsers : KMap Parser := []
  /-- steering tables: source × 64 + entry (R53) -/
  steer : KMap (Option SteerEnt) := []
  /-- feed queues: source × 64 + pasture (R70) -/
  feeds : KMap (List EvRec) := []
  pas : KMap PasSt := []
  /-- the Larder: row words, directory entries (bank × 2^21 + bucket × 4 + way), and each pasture's part (R77) -/
  rows : KMap (BitVec 64) := []
  dir : KMap (Option DirEnt) := []
  lar : KMap LarPas := []
  /-- words read poisoned: memory kind × 2^40 + location (R511) -/
  poison : KMap Bool := []
  /-- errors present and not yet found: memory kind × 2^40 + location, 1 correctable, 2 not (R510) -/
  ecc : KMap Nat := []
  /-- events returned by the Larder and not yet assembled, by pasture -/
  looked : KMap (List Ev) := []
  /-- events at the engine entries: engine × 64 + pasture (R38) -/
  entries : KMap (List Ev) := []
  /-- launch queues: pasture × 8 + queue (R388), ports (kind × 64 + port), trigger pins -/
  launch : KMap (List LaunchEnt) := []
  ports : KMap PortSt := []
  pins : KMap TrigPin := []
  trigIn : KMap TrigIn := []
  /-- time bases TB1 to TB7 and the latest pair (FC, N of TB0) from the Cellar (R376) -/
  tbs : KMap TimeBase := []
  pair : Nat × Nat := (0, 0)
  /-- TX timestamp queues by port, entries of 16 bytes (R383) -/
  txts : KMap (List (List Byte)) := []
  ptpTag : KMap Nat := []
  /-- grant records by pasture, 64 bytes (R490); absent: all zero -/
  grants : KMap (List Byte) := []
  otp : Otp := {}
  /-- masters that have claimed in the open election, its time in ns, heartbeat and handover µs boundaries (R484 to R486) -/
  claims : List Nat := []
  electionNs : Nat := 0
  heartbeat : Nat := 0
  handover : Nat := 0
  smbPtr : Nat := 0
  jtagLast : Word := 0
  /-- spare maps in force: column left out of row 16 e + r, and 1 where a field retirement set it; staged retirements (R135 to
  R139) -/
  spares : KMap Nat := []
  spareField : KMap Bool := []
  staged : List (Nat × Nat × Nat) := []
  /-- retained fault store, newest first (R537); time of the last record of kind 1 by memory kind × 16 + engine -/
  store : List (List Byte) := []
  ceLast : KMap Nat := []
  shd : KMap Shd := []
  loft : Loft := {}
  /-- Ouvust lanes and the flock -/
  lanes : KMap Lane := []
  flk : Flock := {}
  /-- tiles by logical address; engine × 64 + pasture; update units by engine; loads in progress by engine × 4 +
  quarter: 1, scope, and why: 0 LOAD, 1 admission, 2 reload of the old image, 4 a LOAD of which another quarter has been left empty (R142, R146,
  R298, R299) -/
  tiles : KMap TileSt := []
  eng : KMap EngPas := []
  upd : KMap UpdSt := []
  loads : KMap (Nat × Nat × Nat) := []
  /-- the loads requested of the Attic, in order of request (R142) -/
  loadOrder : List LoadReq := []
  /-- quarters whose entry is closed: engine × 4 + quarter (R144) -/
  closed : KMap Bool := []
  /-- quarters whose clock is stopped: engine × 4 + quarter (R623) -/
  stopped : KMap Bool := []
  /-- shed evaluations below 95 % of the cap in a row (R350) -/
  shedLow : Nat := 0
  /-- inject rotation: pasture served last (R612) -/
  injLast : Nat := 63
deriving DecidableEq, Repr

/-- The whole machine. -/
structure State where
  fused : Fused := {}
  die : Die := {}
  cel : Cellar := {}
  kill : Kill := {}
  /-- commands that wait, first in, first out: the model's queue -/
  pending : List Instr := []
deriving DecidableEq, Repr

/-- The machine right after the compute-die supplies are first applied: every memory empty, every register at its
reset value, start-up not yet complete (R582, R584), and no command waiting. The one register field listed is OWN_DEBUG.REQUEST, 3
in BLANK (R503). -/
def State.reset : State := { die := { regs := [(0x101C * 32, 3)] } }

end Sys2Proof.Machine
end

