-- ==== Sys2Proof/Machine/Ops.lean ====
section
/-! DEFINITION. The named operations over the register fields, host memory, outputs and free values of the state. -/

namespace Sys2Proof.Machine

/-- Where field f of instance i stands: BAR0 address of its word, times 32, plus its lowest bit. -/
def Fld.key (f : Fld) (i : Nat) : Nat := (f.base + i * 0x1000 + f.off) * 32 + f.lo

/-- The value of a field; its reset value while nothing has changed it. -/
def Die.get (d : Die) (f : Fld) (i : Nat := 0) : Nat := KMap.get f.reset d.regs (f.key i)

/-- Set a field to v, cut to its width. -/
def Die.put (f : Fld) (i v : Nat) (d : Die) : Die :=
  { d with regs := KMap.set f.reset d.regs (f.key i) (v % 2 ^ f.width) }

/-- A one-bit field as a Bool. -/
def Die.on (d : Die) (f : Fld) (i : Nat := 0) : Bool := d.get f i == 1

/-- Set a one-bit field. -/
def Die.flag (f : Fld) (i : Nat) (b : Bool) (d : Die) : Die := d.put f i (b2n b)

/-- A 64-bit pair of two words. -/
def Die.pair64 (d : Die) (lo hi : Fld) (i : Nat := 0) : Nat := d.get lo i + d.get hi i * 2 ^ 32

/-- Set a pair of two words. -/
def Die.putPair (lo hi : Fld) (i v : Nat) (d : Die) : Die :=
  (d.put lo i v).put hi i (v / 2 ^ 32)

/-- An address pair whose bits [5:0] are ignored (R608): its low field holds bits [31:6]. -/
def Die.addr64 (d : Die) (lo hi : Fld) (i : Nat := 0) : Nat := d.get lo i * 64 + d.get hi i * 2 ^ 32

/-- A field of the Cellar's page. -/
def Cellar.get (c : Cellar) (f : Fld) : Nat := KMap.get f.reset c.regs (f.key 0)

/-- Set a field of the Cellar's page. -/
def Cellar.put (f : Fld) (v : Nat) (c : Cellar) : Cellar :=
  { c with regs := KMap.set f.reset c.regs (f.key 0) (v % 2 ^ f.width) }

/-- The page number of the function a master or VF reads and writes host memory through (R489): 0 the PF, p + 1 the
VF of pasture p. -/
def vfFn (p : Nat) : Nat := p + 1

/-- Write bytes to host memory in the space of function fn. -/
def Die.hostWrite (fn addr : Nat) (bs : List Byte) (d : Die) : Die :=
  { d with host := KMap.setRange 0 d.host (fn * 2 ^ 64 + addr % 2 ^ 64) bs }

/-- Read n bytes of host memory. -/
def Die.hostRead (d : Die) (fn addr n : Nat) : List Byte := KMap.getRange 0 d.host (fn * 2 ^ 64 + addr % 2 ^ 64) n

/-- Give something to the outside. -/
def Die.emit (e : Emit) (d : Die) : Die := { d with emits := d.emits ++ [e] }

/-- Draw a free value. -/
def Die.draw (d : Die) : BitVec 64 × Die := (Config.freeValue d.free, { d with free := d.free + 1 })

/-- The state of pasture p's image. -/
def Die.pasture (d : Die) (p : Nat) : PasSt := KMap.get {} d.pas p

/-- Change the state of pasture p's image. -/
def Die.onPas (p : Nat) (f : PasSt → PasSt) (d : Die) : Die := { d with pas := KMap.upd {} d.pas p f }

/-- The admitted image of pasture p. -/
def Die.image (d : Die) (p : Nat) : Option Image := (d.pasture p).image

/-- The pastures in number order. -/
def pastures : List Nat := List.range 64

/-- The grant record of pasture p (R490), 64 bytes. -/
def Die.grant (d : Die) (p : Nat) : List Byte := KMap.get (List.replicate 64 0) d.grants p

/-- A field of a grant record: n bytes from offset i. -/
def grantField (g : List Byte) (i n : Nat) : Nat := leNat (slice g i n)

/-- RANK of pasture p. -/
def Die.rank (d : Die) (p : Nat) : Nat := grantField (d.grant p) 5 1

/-- Whether quarter q of engine e is granted to pasture p. -/
def Die.ownsQuarter (d : Die) (p e q : Nat) : Bool := bit (grantField (d.grant p) 0 4) (4 * e + q)

/-- The pasture whose grant names the update unit of engine e (R490). -/
def Die.updOwner (d : Die) (e : Nat) : Option Nat := pastures.find? (fun p => bit (grantField (d.grant p) 4 1) e)

/-- The pasture whose grant holds quarter q of engine e. -/
def Die.quarterOwner (d : Die) (e q : Nat) : Option Nat := pastures.find? (fun p => d.ownsQuarter p e q)

/-- Engines the grade enables (R4). -/
def Fused.engines (f : Fused) : Nat := if f.grade = 2 then 6 else 8

/-- An AUDITED image is admitted (R504). -/
def Die.auditedIn (d : Die) : Bool := pastures.any (fun p => (d.pasture p).adm && (match d.image p with | some x => x.audited | none => false))

/-- The lifecycle cap of R496: D3 in BLANK, PROVISIONED and RMA, D2 in FIELD, D0 in DEFUNCT. -/
def lifecycleCap (l : Nat) : Nat := if l = 2 then 2 else if l = 4 then 0 else 3

/-- The power cap of R503. -/
def powerCap (s : Nat) : Nat := if s = 2 then 2 else if s = 3 then 0 else 3

/-- The effective debug level before R504. -/
def Die.debugRaw (d : Die) : Nat :=
  min (d.get R.OWN_DEBUG_REQUEST) (min (lifecycleCap d.otp.lifecycle) (powerCap (d.get R.PWR_STATUS_STATE)))

/-- The effective debug level (R503, R504). -/
def Die.debug (d : Die) : Nat := if d.auditedIn then min d.debugRaw 2 else d.debugRaw

/-- Free mode is in force (R29). -/
def Die.freeMode (d : Die) : Bool := d.get R.DEV_TIMING_STATUS_MODE == 0

/-- Whether a unit number is one the device has. -/
def guardU (ok : Bool) (s : State) : Host.Outcome State Fault Refusal := if ok then .next s else .fault .noSuchUnit

/-- A command that works on the compute die alone. -/
def onDie (f : Die → Die) (s : State) : State := { s with die := f s.die }

/-- A command of a unit that exists or not, working on the compute die alone. -/
def dieCmd (ok : Bool) (f : State → Die) (s : State) : Host.Outcome State Fault Refusal :=
  if ok then .next { s with die := f s } else .fault .noSuchUnit

end Sys2Proof.Machine
end

