-- ==== Sys2Proof/Machine/Flags.lean ====
section
/-! DEFINITION. What the device reports: tallies (R18, R20, R545), the alarm summary (R546, R547), trace packets through
the Loft (R548 to R560), incidents (R559), and fault signature records (R534 to R537). -/

namespace Sys2Proof.Machine

/-- Address of a tally's lower word. -/
def Tal.key (t : Tal) (i : Nat) : Nat := t.base + i * 0x1000 + t.off

/-- Count and saturation bit of a tally. -/
def Die.tally (d : Die) (t : Tal) (i : Nat := 0) : Nat := KMap.get 0 d.tallies (t.key i)

/-- A tally after n more occurrences (R20, R545): it stays at its largest count, with the saturation bit set. -/
def tallyAdd (v n : Nat) : Nat :=
  if v % 2 ^ 48 + n < 2 ^ 48 - 1 then v + n else 2 ^ 49 - 1

/-- A bit of DEV_ALARM. -/
def alarmFld (b : Nat) : Fld := ⟨0, 0x810, b, 1, .w1c, 0⟩

/-- Count n occurrences; the one that saturates the tally sets DEV_ALARM.TALLY_SAT (R545). -/
def Die.countRaw (t : Tal) (i n : Nat) (d : Die) : Die :=
  let u := d.tally t i
  let v := tallyAdd u n
  let d := { d with tallies := KMap.set 0 d.tallies (t.key i) v }
  if bit v 48 && !(bit u 48) then d.put (alarmFld 15) 0 1 else d

/-- The DEV_ALARM bit a tally's increment sets (R547's table). -/
def Tal.alarm (t : Tal) : Option Nat :=
  if t.base = 0x30000 then
    if t.off < 0xD40 then (if t.off % 16 = 8 then some 0 else some 1)
    else if t = T.CHK_PATH ∨ t = T.CHK_SOURCE ∨ t = T.CHK_CHECKER then some 2
    else if t = T.CHK_KILLS ∨ t = T.CHK_KILL_DISCREPANCY then some 11
    else if t = T.CHK_FAULT_DROP then some 14 else none
  else if t = T.PAS_POISONED then some 3
  else if t = T.ENG_STALL ∨ t = T.ENG_BAD_OPCODE then some 4
  else if t = T.SHD_SHD_FAIL ∨ t = T.SHD_SHD_TRANSIENT then some 5
  else if t = T.FAB_SAT_EVENTS then some 6
  else if t.base = 0x1000 ∧ 0xC00 ≤ t.off ∧ t.off < 0xE00 then some 7
  else if t = T.LNK_RETRAINS ∨ t = T.LNK_LOS ∨ t = T.ETH_LINK_DOWN then some 8
  else if t = T.TB_JUMP_REFUSE then some 9
  else if t = T.FLK_EXPELS ∨ t = T.FLK_SPLITS ∨ t = T.FLK_TAKEOVERS ∨ t = T.FLK_AGREE_REFUSE ∨ t = T.FLK_HOLDOVERS then some 10
  else if t = T.EGR_AUDIT_REFUSE then some 12
  else if t = T.FAB_ENTRY_DROP ∨ t = T.PAS_QUEUE_DROP ∨ t = T.FAB_SHED ∨ t = T.ENG_STALL_DROP ∨ t = T.EGR_LQ_FULL
    ∨ t = T.EGR_LATE_DROP ∨ t = T.EGR_PORT_DOWN then some 13
  else if t = T.LFT_TRACE_DROP ∨ t = T.PAS_TRACE_DROP then some 14
  else none

/-- A trace packet before its header is made (R548, R550). -/
structure Pkt where
  type : Nat
  classA : Bool
  src : Nat
  inst : Nat
  pas : Option Nat
  body : List Byte

/-- The bytes of a packet with sequence number and FC (R548). -/
def Pkt.bytes (k : Pkt) (seq fc : Nat) : List Byte :=
  let units := 1 + cdiv k.body.length 16
  leBytes 1 k.type ++ leBytes 1 units ++ leBytes 1 k.src ++ leBytes 1 k.inst
    ++ leBytes 1 ((match k.pas with | some p => p % 64 + 64 | none => 0) + (if k.classA then 128 else 0))
    ++ [0] ++ leBytes 2 seq ++ leBytes 8 fc ++ padTo (16 * (units - 1)) k.body

/-- Where n bytes fit in a byte ring of 2^lg bytes without crossing its end (R557): zero bytes before them; none if the ring
would overfill. -/
def ringRoom (lg head tail n : Nat) : Option Nat :=
  let size := 2 ^ lg
  let pos := head % size
  let pad := if pos + n > size then size - pos else 0
  if (head + 2 ^ 32 - tail) % 2 ^ 32 + pad + n ≤ size then some pad else none

/-- A ring in host memory that takes packets: its function, base, size and counts. -/
structure PktRing where
  fn : Nat
  base : Nat
  lg : Nat
  enabled : Bool
  head : Fld
  tail : Fld
  inst : Nat

/-- Put bytes into a packet ring after `pad` zero bytes. -/
def PktRing.write (r : PktRing) (pad : Nat) (bs : List Byte) (d : Die) : Die :=
  let h := d.get r.head r.inst
  let d := d.hostWrite r.fn (r.base + h % 2 ^ r.lg) (List.replicate pad 0)
  let d := d.hostWrite r.fn (r.base + (h + pad) % 2 ^ r.lg) bs
  d.put r.head r.inst (h + pad + bs.length)

/-- The owner's class A ring (R567). -/
def Die.ringA (d : Die) : PktRing :=
  ⟨0, d.addr64 R.LFT_A_BASE_LO R.LFT_A_BASE_HI, d.get R.LFT_A_CTL_LOG2SIZE, true, R.LFT_A_HEAD_VALUE, R.LFT_A_TAIL_VALUE, 0⟩

/-- The owner's general ring (R567). -/
def Die.ringG (d : Die) : PktRing :=
  ⟨0, d.addr64 R.LFT_RING_BASE_LO R.LFT_RING_BASE_HI, d.get R.LFT_RING_CTL_LOG2SIZE, true, R.LFT_RING_HEAD_VALUE,
    R.LFT_RING_TAIL_VALUE, 0⟩

/-- The trace ring of pasture p (R568). -/
def Die.ringP (d : Die) (p : Nat) : PktRing :=
  ⟨vfFn p, d.addr64 R.PAS_TRACE_ADDR_LO R.PAS_TRACE_ADDR_HI p, d.get R.PAS_TRACE_CTL_LOG2SIZE p,
    d.on R.PAS_TRACE_CTL_ENABLE p, R.PAS_TRACE_HEAD_VALUE, R.PAS_TRACE_TAIL_VALUE, p⟩

/-- The next sequence number of a source (R549). -/
def Die.nextSeq (src inst : Nat) (d : Die) : Nat × Die :=
  let k := src * 256 + inst
  let n := KMap.get 0 d.loft.seqs k
  (n, { d with loft := { d.loft with seqs := KMap.set 0 d.loft.seqs k ((n + 1) % 2 ^ 16) } })

/-- The first-failure region takes packets (R560). -/
def Die.ffOpen (d : Die) : Bool :=
  let st := d.get R.LFT_STATUS_FF_STATE
  st == 1 || (st == 2 && decide (d.loft.ffAfter < d.get R.LFT_FF_POST * 16384))

/-- Copy a packet into the first-failure region while it is ARMED or FILLING (R560): 256 KiB, oldest overwritten, and at most
POST × 16 KiB after the incident. -/
def Die.ffPut (bs : List Byte) (d : Die) : Die :=
  let st := d.get R.LFT_STATUS_FF_STATE
  if d.ffOpen then
    let all := d.loft.ff ++ [bs]
    let excess := (all.map List.length).sum - 262144
    let trim := all.foldl (fun (a : Nat × List (List Byte)) x => if a.1 > 0 then (a.1 - x.length, a.2) else (a.1, a.2 ++ [x])) (excess, [])
    { d with loft := { d.loft with ff := trim.2, ffAfter := if st = 2 then d.loft.ffAfter + bs.length else 0 } }
  else d

/-- The GAP packet for g dropped packets of k's source (R550, R558). -/
def Die.gapBytes (k : Pkt) (g : Nat × Nat) (d : Die) : List Byte × Die :=
  let sq := d.nextSeq 9 0
  let gap : Pkt := ⟨1, k.classA, 9, 0, k.pas,
    leBytes 1 k.src ++ leBytes 1 k.inst ++ [0, 0] ++ leBytes 4 (min g.1 (2 ^ 32 - 1)) ++ leBytes 8 g.2⟩
  (gap.bytes sq.1 d.fc, sq.2.countRaw T.LFT_GAPS 0 1)

/-- One packet into one ring, with the GAP packet that dropped ones before it call for, or a drop (R557, R558). `out`
numbers the output. -/
def Die.ringPut (r : PktRing) (out : Nat) (k : Pkt) (bs : List Byte) (drop : Die → Die) (d : Die) : Die :=
  let key := out * 65536 + k.src * 256 + k.inst
  let g := KMap.get (0, 0) d.loft.gaps key
  let dropIt (d : Die) : Die :=
    let d := drop d
    { d with loft := { d.loft with gaps := KMap.set (0, 0) d.loft.gaps key (g.1 + 1, if g.1 = 0 then d.fc else g.2) } }
  let need := if g.1 = 0 then bs.length else bs.length + 32
  if r.enabled = false then dropIt d
  else match ringRoom r.lg (d.get r.head r.inst) (d.get r.tail r.inst) need with
    | none => dropIt d
    | some pad =>
      if g.1 = 0 then r.write pad bs d
      else
        let y := d.gapBytes k g
        r.write pad (y.1 ++ bs) { y.2 with loft := { y.2.loft with gaps := KMap.set (0, 0) y.2.loft.gaps key (0, 0) } }

/-- ROLE, LEVEL and HALF of the device (R476). -/
def Die.role (d : Die) : Nat := d.get R.FLK_ROLE_ROLE
/-- LEVEL. -/
def Die.level (d : Die) : Nat := d.get R.FLK_ROLE_LEVEL
/-- HALF: the device is a tail. -/
def Die.isTail (d : Die) : Bool := d.on R.FLK_ROLE_HALF
/-- The device is the top shepherd or the standby (R452). -/
def Die.isTop (d : Die) : Bool := (d.role == 2 && d.level == 1) || d.role == 3

/-- Lanes to parents (R454). -/
def Die.parentLanes (d : Die) : List Nat :=
  if d.role = 1 then [0]
  else if d.role = 2 ∧ 2 ≤ d.level then (if d.isTail then [2] else if d.level = 2 then [0, 1] else [0])
  else []

/-- Lanes to children, a head's tail among them (R453, R454). -/
def Die.childLanes (d : Die) : List Nat :=
  if d.isTop then List.range 64
  else if d.role = 2 ∧ 2 ≤ d.level then (if d.isTail then span 3 35 else 2 :: span 3 35)
  else []

/-- A flock link of the device (R457). -/
def Die.flockLane (d : Die) (l : Nat) : Bool := d.parentLanes.contains l || d.childLanes.contains l

/-- A lane may serve as a Loft output (R556): ACTIVE in framed mode with class S agreed, in no grant, no flock lane. -/
def Die.loftLane (d : Die) (l : Nat) : Bool :=
  d.get R.LNK_STATUS_STATE l == 4 && d.get R.LNK_CONTROL_MODE l == 0 && bit (d.get R.LNK_STATUS_CLASSES l) 0 && !(d.flockLane l)
    && pastures.all (fun p => !(bit (grantField (d.grant p) 40 8) l) && !(bit (grantField (d.grant p) 48 8) l))

/-- The lanes that LFT_CONTROL names and that serve (R555, R556). -/
def Die.loftLanes (d : Die) : List Nat :=
  if d.on R.LFT_CONTROL_LANES then
    (d.get R.LFT_CONTROL_LANE_A :: (if d.on R.LFT_CONTROL_TWO then [d.get R.LFT_CONTROL_LANE_B] else [])).filter d.loftLane
  else []

/-- A dropped packet of the Loft counts in TRACE_DROP, class A ones also in A_DROP (R558). -/
def dropLoft (a : Bool) (d : Die) : Die :=
  let d := (d.countRaw T.LFT_TRACE_DROP 0 1).put (alarmFld 14) 0 1
  if a then d.countRaw T.LFT_A_DROP 0 1 else d

/-- Bytes of the general region (R554). -/
def generalBytes : Nat := 7077888

/-- One packet for a frame on a Loft lane, alternating when there are two (R555). -/
def Die.lanePut (bs : List Byte) (d : Die) : Die :=
  match d.loftLanes with
  | [] => d
  | [l] => { d with loft := { d.loft with laneQ := d.loft.laneQ ++ [(l, bs)] } }
  | l :: m :: _ =>
    { d with loft := { d.loft with laneQ := d.loft.laneQ ++ [(if d.loft.second then m else l, bs)], second := !d.loft.second } }

/-- A packet for the lanes waits in the general region, with the GAP packet that dropped ones before it call for; a full region drops it (R554,
R555, R558). -/
def Die.laneDrain (k : Pkt) (bs : List Byte) (d : Die) : Die :=
  if d.loftLanes.isEmpty then d
  else
    let key := 2 * 65536 + k.src * 256 + k.inst
    let g := KMap.get (0, 0) d.loft.gaps key
    let need := if g.1 = 0 then bs.length else bs.length + 32
    if generalBytes < (d.loft.laneQ.map (fun y => y.2.length)).sum + need then
      let d := dropLoft k.classA d
      { d with loft := { d.loft with gaps := KMap.set (0, 0) d.loft.gaps key (g.1 + 1, if g.1 = 0 then d.fc else g.2) } }
    else if g.1 = 0 then d.lanePut bs
    else
      let y := d.gapBytes k g
      (Die.lanePut y.1 { y.2 with loft := { y.2.loft with gaps := KMap.set (0, 0) y.2.loft.gaps key (0, 0) } }).lanePut bs

/-- A packet dropped at a pasture's trace ring (R569). -/
def dropPas (p : Nat) (d : Die) : Die := (d.countRaw T.PAS_TRACE_DROP p 1).put (alarmFld 14) 0 1

/-- Where class and level send a packet (R553): class A ring, pasture ring, general stream, whatever the state of the outputs (R560). -/
def Die.routes (d : Die) (k : Pkt) : Bool × Bool × Bool :=
  let lv := d.debug
  let gen := decide (2 ≤ lv)
  if k.classA then (true, k.pas.isSome, gen)
  else match k.pas with
    | some p => (false, decide (1 ≤ lv) && bit (grantField (d.grant p) 7 1) 1, gen)
    | none => (false, false, gen)

/-- Produce one packet (R548 to R560), without the ALARM packets its drops may call for. A packet that no output takes at the level in
force is not produced; with no output enabled none enters the general region; PACKETS counts one that enters a region of the Loft. -/
def Die.deliver (k : Pkt) (d : Die) : Die :=
  match d.routes k with
  | (a, p, g) =>
    if a || p || g then
      let sq := d.nextSeq k.src k.inst
      let bs := k.bytes sq.1 d.fc
      let d := if a || sq.2.ffOpen || (g && (d.on R.LFT_CONTROL_PCIE || !d.loftLanes.isEmpty)) then sq.2.countRaw T.LFT_PACKETS 0 1 else sq.2
      let d := d.ffPut bs
      let d := if a then d.ringPut d.ringA 1 k bs (dropLoft true) else d
      let d := match k.pas with
        | some q => if p then d.ringPut (d.ringP q) (3 + q) k bs (dropPas q) else d
        | none => d
      let d := if g && d.on R.LFT_CONTROL_PCIE then d.ringPut d.ringG 0 k bs (dropLoft k.classA) else d
      if g then d.laneDrain k bs else d
    else d

/-- The ALARM packet of a bit (R547). -/
def alarmPkt (b : Nat) : Pkt := ⟨12, false, 1, 0, none, leBytes 1 b⟩

/-- ALARM packets for the bits of `bs` that were 0 in d0 and are 1 now; a packet's own drop may raise TRACE or TALLY_SAT once
more. -/
def Die.alarmsSince (d0 : Die) : List Nat → List Nat → Die → Die
  | [], _, d => d
  | b :: bs, sent, d =>
    if d.on (alarmFld b) && !(d0.on (alarmFld b)) && !(sent.contains b) then
      Die.alarmsSince d0 bs (b :: sent) (d.deliver (alarmPkt b))
    else Die.alarmsSince d0 bs sent d

/-- Set a bit of DEV_ALARM; its rise sends one ALARM packet (R546, R547). -/
def Die.alarm (b : Nat) (d : Die) : Die :=
  let d1 := d.put (alarmFld b) 0 1
  Die.alarmsSince d [b, 14, 15, 14] [] d1

/-- Produce one trace packet, and the ALARM packets its drop calls for. -/
def Die.trace (k : Pkt) (d : Die) : Die := Die.alarmsSince d [14, 15, 14] [] (d.deliver k)

/-- Count n occurrences of a tally, with the alarm bit it sets. -/
def Die.countBy (t : Tal) (i n : Nat) (d : Die) : Die :=
  let d1 := d.countRaw t i n
  let d2 := match t.alarm with | some b => d1.put (alarmFld b) 0 1 | none => d1
  Die.alarmsSince d ((match t.alarm with | some b => [b] | none => []) ++ [14, 15, 14]) [] d2

/-- Count one occurrence. -/
def Die.count (t : Tal) (i : Nat) (d : Die) : Die := d.countBy t i 1

/-- Each stile crossing of 3 cycles on an event path in Free mode counts as a timing-dependent choice (R29, R348): `three` of the `n` crossings
of a command took 3 cycles. -/
def Die.stile (p three n : Nat) (d : Die) : Die := 
  if d.freeMode && decide (0 < min three n) then d.countBy T.FAB_TIMING_CHOICE p (min three n) else d

/-- A stage packet (R550, TYPE 10). -/
def Die.stage (src inst p evid slot st : Nat) (d : Die) : Die :=
  d.trace ⟨10, false, src, inst, some p, leBytes 6 evid ++ leBytes 2 slot ++ leBytes 1 st⟩

/-- An incident of cause c (R559 to R561), with the number its packet names. -/
def Die.incident (c src inst name : Nat) (d : Die) : Die :=
  if bit (d.get R.LFT_INC_MASK_MASK) (c - 1) && decide (1 ≤ c) then
    let d := d.count T.LFT_INCIDENTS 0
    let d := d.alarm 16
    let first := d.get R.LFT_STATUS_FF_STATE == 1
    let d := d.trace ⟨9, false, src, inst, none, leBytes 1 c ++ leBytes 1 (b2n first) ++ leBytes 2 name⟩
    if first then
      let d := ((d.put R.LFT_STATUS_FF_STATE 0 2).put R.LFT_STATUS_CAUSE 0 c).putPair R.LFT_FF_FC_LO R.LFT_FF_FC_HI 0 d.fc
      { d with loft := { d.loft with ffAfter := 0 } }
    else d
  else d

/-- CBOR head of major type m (R534: shortest forms). -/
def cborHead (m n : Nat) : List Byte :=
  if n < 24 then leBytes 1 (m * 32 + n)
  else if n < 256 then leBytes 1 (m * 32 + 24) ++ beBytes 1 n
  else if n < 65536 then leBytes 1 (m * 32 + 25) ++ beBytes 2 n
  else if n < 2 ^ 32 then leBytes 1 (m * 32 + 26) ++ beBytes 4 n
  else leBytes 1 (m * 32 + 27) ++ beBytes 8 n

/-- A value of a fault signature record (R534). -/
inductive Cbor where
  | uint (n : Nat)
  | arr (l : List Nat)
  | strs (l : List Nat)

/-- Its CBOR encoding. -/
def Cbor.bytes : Cbor → List Byte
  | .uint n => cborHead 0 n
  | .arr l => cborHead 4 l.length ++ l.flatMap (cborHead 0)
  | .strs l => cborHead 4 l.length ++ l.flatMap (fun n => cborHead 2 8 ++ beBytes 8 n)

/-- The map of a record, keys in ascending order. -/
def cborMap (l : List (Nat × Cbor)) : List Byte :=
  cborHead 5 l.length ++ l.flatMap (fun x => cborHead 0 x.1 ++ x.2.bytes)

/-- DEV_IDENT (R6's table). -/
def Fused.ident (f : Fused) : Nat := 0x0820A100 + f.grade * 16 + f.engines

/-- Write a record of one kind into the retained store and the fault ring (R535 to R537), and send its FAULT packet. `keys`
are the record's keys from 4 on, ascending, without 15. -/
def Die.faultRecord (fu : Fused) (kind : Nat) (keys : List (Nat × Cbor)) (d : Die) : Die :=
  let rec_ := cborMap ([(0, .uint 1), (1, .uint fu.deviceId), (2, .uint d.fc), (3, .uint kind)] ++ keys ++ [(15, .uint fu.ident)])
  let slot := padTo 128 (leBytes 2 rec_.length ++ rec_)
  let d := if kind = 1 then d else { d with store := (slot :: d.store).take 16 }
  let h := d.get R.CHK_FAULT_HEAD_VALUE
  let lg := d.get R.CHK_FAULT_CTL_LOG2SIZE
  let d := if d.on R.CHK_FAULT_CTL_ENABLE && decide ((h + 2 ^ 32 - d.get R.CHK_FAULT_TAIL_VALUE) % 2 ^ 32 < 2 ^ lg) then
      (d.hostWrite 0 (d.addr64 R.CHK_FAULT_BASE_LO R.CHK_FAULT_BASE_HI + h % 2 ^ lg * 128) slot).put R.CHK_FAULT_HEAD_VALUE 0 (h + 1)
    else d.count T.CHK_FAULT_DROP 0
  let num (k : Nat) : Nat := match keys.find? (fun x => x.1 == k) with | some (_, .uint n) => n | _ => 0
  d.trace ⟨13, false, 1, 0, none, leBytes 1 kind ++ leBytes 1 (num 4) ++ [0, 0] ++ leBytes 4 (num 5)⟩

/-- The engine of an image's part that holds a STEP, opcode 34 (R229). -/
def stepEngine (im : Image) : Option Nat :=
  (im.engines.find? (fun ei => ei.tiles.any (fun t => t.cfg.ctxs.any (fun c => c.ops.any (fun o => bits o.toNat 58 6 == 34))))).map
    (fun ei => ei.engine)

/-- Keys 8, 12 and 13 of a record that concerns pasture p (R534): the pasture, its image, and the step counter where the image has STEP. -/
def Die.pasKeys (d : Die) (p : Nat) : List (Nat × Cbor) :=
  [(8, .uint p)] ++ (match d.image p with
    | some im => [(12, .uint im.imageId)] ++ (match stepEngine im with
        | some e => [(13, .uint (KMap.get {} d.eng (e * 64 + p)).step)]
        | none => [])
    | none => [])

end Sys2Proof.Machine
end

