-- ==== Sys2Proof/Machine/Access.lean ====
section
/-! DEFINITION. How a register write reaches the device: the page directory (R605, R606), who reaches what (R478, R488, R496,
R505), who may write (R479, R493, R601), the page locks (R602 to R604), and what a write does to fields (R15 to R17, R596). -/

namespace Sys2Proof.Machine

/-- The engine a page belongs to, for the pages of R606. -/
def pageEngine : Block → Nat → Option Nat
  | .ENG, i => some i
  | .UPD, i => some i
  | .SHD, i => some i
  | .TIL, i => some (i / 512)
  | _, _ => none

/-- Block, instance and page offset of a BAR0 offset; none for a page that does not exist (R605, R606). -/
def pageOf (f : Fused) (addr : Nat) : Option (Block × Nat × Nat) :=
  let page := addr / 0x1000
  let hit := directory.find? (fun x =>
    let first := x.2.1 / 0x1000
    decide (first + x.2.2.1 ≤ page) && decide (page ≤ first + x.2.2.2) )
  match hit with
  | none => none
  | some (b, base, _, _) =>
    let i := page - base / 0x1000
    let mapped := match pageEngine b i with | some e => decide (e < f.engines) | none => true
    let colOk := if b = .TIL then decide (i % 32 < 24) else true
    if mapped && colOk then some (b, i, addr % 0x1000) else none

/-- The BAR0 offset of a block's register. -/
def blockAddr (b : Block) (i off : Nat) : Nat :=
  match directory.find? (fun x => x.1 == b) with
  | some x => x.2.1 + i * 0x1000 + off
  | none => off

/-- PAGE_CTL.LOCK of the page at a base address (R601). -/
def pageLock (base : Nat) : Fld := ⟨base, 0xF00, 0, 1, .rw, 0⟩

/-- PAGE_CTL.EXPERT of a page (R601). -/
def pageExpert (base : Nat) : Fld := ⟨base, 0xF00, 1, 1, .ro, 0⟩

/-- The number of a reader or writer: masters 0 to 3, the VF of pasture p 4 + p. -/
def srcNum : Source → Nat
  | .m0 => 0
  | .m1 => 1
  | .m2 => 2
  | .m3 => 3
  | .vf p => 4 + p

/-- Whether a source's path to the registers is there (R478, R483, R505, R607): the PCIe link for M0 and the VFs, the flock for
M2, effective D3 for M3; nobody before start-up step 6 (R584). -/
def Die.pathUp (d : Die) (src : Source) : Bool :=
  d.up && match src with
    | .m0 => d.on R.PCI_STATUS_LINK_UP
    | .m1 => true
    | .m2 => d.get R.FLK_STATUS_JOIN_RESULT == 1
    | .m3 => d.debug == 3
    | .vf p => d.on R.PCI_STATUS_LINK_UP && decide (p < d.get R.PCI_STATUS_NUMVFS)

/-- Whether a page answers: in DEFUNCT only the DEV and OWN pages (R496), and not to M2 (R505); in Standby only the power page, and to
M1 alone (R581). -/
def Die.answers (d : Die) (src : Source) (b : Block) : Bool :=
  if d.otp.lifecycle = 4 then (b == .DEV || b == .OWN) && src != .m2
  else if d.get R.PWR_STATUS_STATE = 3 then b == .PWR && src == .m1
  else true

/-- Whether a master is eligible to hold the crook (R478). -/
def Die.eligible (d : Die) (m : Nat) : Bool :=
  match m with
  | 0 => d.on R.PCI_STATUS_LINK_UP
  | 1 => true
  | 2 => d.get R.FLK_STATUS_JOIN_RESULT == 1
  | 3 => d.debug == 3
  | _ => false

/-- Whether master m holds the crook. -/
def Die.holds (d : Die) (m : Nat) : Bool := d.on R.OWN_STATUS_HELD && d.get R.OWN_STATUS_HOLDER == m

/-- What a VF's access to a page meets (R488, R493): 0 the page is its own, 1 ignored in silence, 2 refused and counted. -/
def Die.vfPage (d : Die) (p : Nat) (b : Block) (i : Nat) : Nat :=
  match b with
  | .PAS => if i = p then 0 else 2
  | .LRD => if i = p then 0 else 2
  | .FAB => if i = p then 0 else 2
  | .EGR => if i = p then 0 else 2
  | .UPD => if d.updOwner i = some p then 0 else 1
  | _ => 2

/-- Pages with an expert area (R622). -/
def Block.expert : Block → Bool
  | .DEV => true
  | .LNK => true
  | .FAB => true
  | .ENG => true
  | .LRD => true
  | .UPD => true
  | _ => false

/-- Whether a write is performed, and the die after the tally of one that is not. -/
def Die.admitWrite (f : Fused) (src : Source) (addr : Nat) (d : Die) : Bool × Die :=
  match pageOf f addr with
  | none =>
    if d.pathUp src then
      match src with
      | .vf p => (false, d.count (T.OWN_VIOLATION p) 0)
      | m => if d.holds (srcNum m) then (false, d) else (false, d.count (T.OWN_OWN_DENIED (srcNum m)) 0)
    else (false, d)
  | some (b, i, off) =>
    if d.pathUp src && d.answers src b then
      let wake := d.get R.PWR_STATUS_STATE == 3 && src == .m1 && b == .PWR && off == 0x018
      let perm : Nat := match src with
        | .vf p => if 0xF00 ≤ off then 2 else d.vfPage p b i
        | m => if d.holds (srcNum m) || wake then 0 else 3
      if perm = 0 then
        if 0x400 ≤ off ∧ off < 0x800 ∧ b.expert ∧ d.on (pageExpert (blockAddr b i 0)) = false then
          (false, d.count T.OWN_EXPERT_DENIED 0)
        else (true, d)
      else if perm = 1 then (false, d)
      else match src with
        | .vf p => (false, d.count (T.OWN_VIOLATION p) 0)
        | m => (false, d.count (T.OWN_OWN_DENIED (srcNum m)) 0)
    else (false, d)

/-- A field after a write of v by its access type (R15, R17); `lk`: the page is locked. -/
def WField.write (x : WField) (i : Nat) (lk : Bool) (w : Nat) (d : Die) : Die :=
  let v := bits w x.fld.lo x.fld.width
  match x.fld.acc with
  | .rw => if x.ok v then d.put x.fld i v else d
  | .rwl => if lk || !x.ok v then d else d.put x.fld i v
  | .w1c => d.put x.fld i (Nat.land (d.get x.fld i) (2 ^ x.fld.width - 1 - v))
  | .w1s => d.put x.fld i (Nat.lor (d.get x.fld i) v)
  | .ro => d
  | .wo => d

/-- The fields of a register. -/
def fieldsAt (b : Block) (off : Nat) : List WField :=
  match b.regs.find? (fun x => x.1 == off) with
  | some x => x.2
  | none => []

/-- A write sets every RW, RWL, W1C and W1S field it carries (R596). -/
def Die.setFields (b : Block) (i off : Nat) (w : Nat) (d : Die) : Die :=
  (fieldsAt b off).foldl (fun d x => x.write i (d.on (pageLock (blockAddr b i 0))) w d) d

/-- The lowest-numbered WO action bit a write carries, among the bits `acts` of the register (R596). -/
def lowestWo (w : Nat) (acts : List Nat) : Option Nat := acts.find? (bit w)

/-- A register write by a source: performed by `act` on the state if it is admitted, else only its tally. -/
def writeAt (src : Source) (addr : Nat) (act : State → State) (s : State) : State :=
  match s.die.admitWrite s.fused src addr with
  | (ok, d) => if ok then act { s with die := d } else { s with die := d }

/-- The same for a register whose action stays on the compute die. -/
def writeDie (src : Source) (addr : Nat) (act : Die → Die) (s : State) : Die :=
  match s.die.admitWrite s.fused src addr with
  | (ok, d) => if ok then act d else d

end Sys2Proof.Machine
end

