-- ==== Sys2Proof/Machine/Time.lean ====
section
/-! DEFINITION. Times: FC and its comparisons (R367, R368), time-base values (R369, R370, R373), captures (R374, R375), and the
tick of one nanosecond. -/

namespace Sys2Proof.Machine

/-- sdiff of two w-bit counts (R368, R435). -/
def sdiff (w a b : Nat) : Int := sext (a + (2 ^ w - b % 2 ^ w)) w

/-- The modulus of a time base's ns count (R369): 2^48 × 10^9. -/
def tbMod : Nat := 2 ^ 48 * 10 ^ 9

/-- A time-base value in 2^-40 ns, wrapped (R369). -/
def tbWrap (v : Int) : Nat := (v % ((tbMod * 2 ^ 40 : Nat) : Int)).toNat

/-- The value a stretch gives at FC f: 1 ns + ADJ × 2^-40 ns per tick while it advances (R370). -/
def TbSeg.at (g : TbSeg) (f : Nat) : Nat :=
  if g.on then tbWrap (g.value + ((f : Int) - g.fc) * (2 ^ 40 + g.adj)) else g.value

/-- The value of a time base at FC tick f, in 2^-40 ns (R373). -/
def TimeBase.at (t : TimeBase) (f : Nat) : Nat :=
  match t.segs.find? (fun g => decide (g.fc ≤ f)) with
  | some g => g.at f
  | none => match t.segs.getLast? with | some g => g.value | none => 0

/-- Whether the base advances at FC tick f. -/
def TimeBase.runs (t : TimeBase) (f : Nat) : Bool :=
  match t.segs.find? (fun g => decide (g.fc ≤ f)) with | some g => g.on | none => false

/-- Time base n from 1 to 7. -/
def Die.tb (d : Die) (n : Nat) : TimeBase := KMap.get {} d.tbs n

/-- Begin a new stretch of time base n at the present FC. -/
def Die.tbBreak (n : Nat) (value : Nat) (adj : Int) (on : Bool) (d : Die) : Die :=
  { d with tbs := KMap.upd {} d.tbs n (fun t => { t with segs := ⟨d.fc, value, adj, on⟩ :: t.segs }) }

/-- The rate word in force (R370). -/
def Die.adj (d : Die) (n : Nat) : Int := sext (d.get R.TB_ADJ_ADJ n) 32

/-- A value in 2^-40 ns as seconds, nanoseconds and 2^-16 ns (R369). -/
def stampOf (v : Nat) : Stamp :=
  let n := v / 2 ^ 40
  { sec := n / 10 ^ 9 % 2 ^ 48, ns := n % 10 ^ 9, frac := v / 2 ^ 24 % 2 ^ 16 }

/-- SEC, NS, FRAC as 12 bytes (R66). -/
def Stamp.bytes (t : Stamp) : List Byte := leBytes 6 t.sec ++ leBytes 4 t.ns ++ leBytes 2 t.frac

/-- The path delay of a capture point, 2^-16 ns (R397). -/
def Cellar.delay (c : Cellar) (p : Nat) : Int := KMap.get 0 c.settings.delays p

/-- The FC of a capture in 2^-4 ns (R374): the raw instant corrected by the path delay, truncated to 62.5 ps. `out`: the point
is an output. -/
def Cellar.capFc (c : Cellar) (p : Nat) (out : Bool) (x : Capture) : Nat :=
  (((x.fc16 : Int) * 4096 + (if out then c.delay p else - c.delay p)) / 4096).toNat

/-- TB0 at a capture in 2^-16 ns (R374), FRAC a multiple of 4,096. -/
def Cellar.capTb0 (c : Cellar) (p : Nat) (out : Bool) (x : Capture) : Nat :=
  ((((x.tb0 : Int) + (if out then c.delay p else - c.delay p)) / 4096 * 4096) % ((tbMod * 2 ^ 16 : Nat) : Int)).toNat

/-- TB0's time of a capture. -/
def stamp16 (v : Nat) : Stamp := stampOf (v * 2 ^ 24)

/-- The value of TBn at an FC with 4 fraction bits (R373). -/
def Die.stampAt (d : Die) (n fc16 : Nat) : Stamp :=
  let t := d.tb n
  let f := fc16 / 16
  stampOf (if t.runs f then tbWrap (t.at f + (fc16 % 16 * 2 ^ 36 : Nat)) else t.at f)

/-- The timestamps of a capture in the eight time bases (R375). -/
def stampsOf (d : Die) (fc16 tb0 : Nat) : List Stamp :=
  stamp16 tb0 :: (List.range 7).map (fun i => d.stampAt (i + 1) fc16)

/-- N of a time base at the present FC: TB0 extrapolated from the latest pair at 1 ns per tick (R376), TB1 to TB7 by their own
count. -/
def Die.nOf (d : Die) (n : Nat) : Nat :=
  if n = 0 then (d.pair.2 + (d.fc - d.pair.1)) % tbMod else (d.tb n).at d.fc / 2 ^ 40

/-- FC, its ns and cc at present. -/
def Die.cc (d : Die) : Nat := 2 * d.fc

/-- FC crosses a µs boundary at this value (R485). -/
def microBoundary (fc : Nat) : Bool := fc % 1000 == 0

end Sys2Proof.Machine
end

