-- ==== Sys2Proof/Machine/Egress.lean ====
section
/-! DEFINITION. From a decision to a pin, a launch queue or the host (R76, R234 to R236, R363, R384 to R392, R465, R466, R471,
R493, R513, R514, R611): the operations that reflex actions, engine decisions and agreed launches share. -/

namespace Sys2Proof.Machine

/-- The rate code in force on a port (R412, R448): kind 1 Ethernet, 2 Ouvust. -/
def Die.rateOf (d : Die) (kind n : Nat) : Nat :=
  if kind = 1 then (if d.on R.ETH_CONTROL_SPEED n then (if d.on R.ETH_CONTROL_FEC n then 18 else 17) else 16)
  else
    let st := d.get R.LNK_STATUS_STATE n
    if st = 4 ∨ st = 7 then d.get R.LNK_STATUS_RATE n else d.get R.LNK_CONTROL_MAXRATE n

/-- The present FC in units of 1/21 ps (R22). -/
def Die.now21 (d : Die) : Nat := d.fc * 21000

/-- One wc of a port at its rate, in units of 1/21 ps (R412). -/
def Die.wordUnits (d : Die) (kind n : Nat) : Nat :=
  let r := d.rateOf kind n
  if r = 1 then 26250 else if r = 2 then 33600 else if r = 3 then 42000 else if r = 4 then 52500 else if r = 5 then 67200
  else if r = 6 then 84000 else if r = 16 then 134400 else 53760

/-- Dtx of a port (R447). -/
def Die.dtx (d : Die) (kind n : Nat) : Nat := (if d.rateOf kind n = 18 then 14 else 8) * d.wordUnits kind n

/-- Words of a frame on the line, and with what must follow it (R414, R422, R424). -/
def frameWords (kind len : Nat) : Nat × Nat :=
  if kind = 1 then (cdiv (len + 12) 8, cdiv (len + 24) 8) else ((len - 1) / 4 + 2, (len - 1) / 4 + 3)

/-- The first word boundary of a port at or after an instant (R389, R412). In Free mode boundaries stand at no fixed FC: they are counted from
`from_`. -/
def Die.boundary (d : Die) (kind n from_ t : Nat) : Nat :=
  let wc := d.wordUnits kind n
  if d.freeMode then from_ + cdiv (t - from_) wc * wc else cdiv t wc * wc

/-- The frames chosen and committed on a port are sent no more: each is still in its queue (R388, R417). -/
def Die.unchoose (kind n : Nat) (d : Die) : Die :=
  { d with ports := KMap.upd {} d.ports (kind * 64 + n) (fun x => { x with sched := none, start := 0, line := [] }) }

/-- The key of an entry's launch queue. -/
def LaunchEnt.key (e : LaunchEnt) : Nat := e.pasture * 8 + e.queue

/-- The head of a launch queue is committed on a port. -/
def Die.onLine (d : Die) (k : Nat) : Bool := d.ports.any (fun y => y.2.line.any (fun f => f.ent.key == k))

/-- The head of a launch queue is chosen or committed on a port. -/
def Die.chosen (d : Die) (k : Nat) : Bool :=
  d.onLine k || d.ports.any (fun y => match y.2.sched with | some e => e.key == k | none => false)

/-- The image takes part in flock updates (R466). -/
def isFlock (x : Image) : Bool := match x.upd with | some u => u.flock | none => false

/-- The kill gate blocks every pin action: the KILL channels (R637), flock KILL (R466), a thermal trip (R574), a restart after a
fault reset (R516). -/
def State.gateBlocks (s : State) : Bool :=
  s.kill.blocked || s.die.on R.FLK_STATUS_KILLED || s.die.restoring
    || s.die.tripped

/-- Flock HALT blocks a pasture that holds a flock image (R466). -/
def Die.haltBlocks (d : Die) (p : Nat) : Bool :=
  d.on R.FLK_STATUS_HALTED && (match d.image p with | some x => isFlock x | none => false)

/-- The pasture's action is suppressed by expulsion or a set halt (R471, R472). -/
def Die.expelled (d : Die) (p : Nat) : Bool :=
  bit (d.pair64 R.FLK_EXPELLED_LO R.FLK_EXPELLED_HI) p || bit (d.pair64 R.FLK_SET_HALT_LO R.FLK_SET_HALT_HI) p

/-- Entries of the Cellar's launch queue that are taken or reserved (R392, R406). -/
def Cellar.launchUsed (c : Cellar) : Nat :=
  c.reserved + c.launchQ.length + (c.slots.filter (fun x => x.frees == 1)).length

/-- The image of pasture p is audited. -/
def Die.audited (d : Die) (p : Nat) : Bool := match d.image p with | some x => x.audited | none => false

/-- What the gate says of an action of pasture p after the hurdle: 0 passes, 1 blocked in silence, 2 expelled, 3 quarantined,
4 no audit entry. -/
def State.gate (s : State) (p : Nat) : Nat :=
  if s.gateBlocks || s.die.haltBlocks p then 1
  else if s.die.expelled p then 2
  else if s.die.on R.PAS_QUARANTINE_STATUS_QUARANTINED p then 3
  else if s.die.audited p && decide (1024 ≤ s.cel.launchUsed) then 4
  else 0

/-- The tally of a refused action. -/
def Die.gateCount (code p : Nat) (d : Die) : Die :=
  if code = 2 then d.count T.FLK_EXPEL_DROP 0
  else if code = 3 then d.count T.PAS_QUAR_DROP p
  else if code = 4 then d.count T.EGR_AUDIT_REFUSE p
  else d

/-- Reserve an entry of the launch queue for an audited pasture (R392). -/
def State.reserve (p : Nat) (s : State) : State :=
  if s.die.audited p then { s with cel := { s.cel with reserved := s.cel.reserved + 1 } } else s

/-- Release a reservation without a record (R392, R396). -/
def Cellar.release (n : Nat) (c : Cellar) : Cellar := { c with reserved := c.reserved - n }

/-- The identifiers an action carries: its event, times, image (R234). -/
structure ActCtx where
  pasture : Nat
  evid : Nat
  tb : Nat
  ts : Stamp
  inFc16 : Nat
  exitFc : Nat
  image : Nat
  slot : Nat
  engine : Nat

/-- The context of a record. -/
def ctxOf (d : Die) (r : EvRec) (engine slot : Nat) : ActCtx :=
  ⟨r.pasture, r.evid, r.tb, r.ts, r.inFc16, d.fc, (match d.image r.pasture with | some x => x.imageId | none => 0), slot, engine⟩

/-- Start or extend a pulse of `width` cc on a pin in the present cc (R234, R631). -/
def Die.pulse (c : ActCtx) (pin width : Nat) (audited : Bool) (d : Die) : Die :=
  let x := KMap.get {} d.pins pin
  let now := d.cc
  let pend : AuditPend := ⟨c.pasture, false, c.evid, c.image, c.inFc16, audited⟩
  if x.high && decide (now ≤ x.endCc) then
    let d := { d with pins := KMap.set {} d.pins pin { x with endCc := max x.endCc (now + width), edges := x.edges ++ [pend] } }
    d.count T.FAB_TRIG_MERGE c.pasture
  else
    let d := { d with pins := KMap.set {} d.pins pin ⟨true, now + width, c.pasture, x.edges ++ [pend]⟩ }
    d.emit (.trig pin true)

/-- A TRIG action: hurdle, kill gate, pulse (R76, R234, R493). -/
def State.actTrig (c : ActCtx) (pin width : Nat) (s : State) : State :=
  let p := c.pasture
  if !(bit (grantField (s.die.grant p) 28 2) pin) then { s with die := s.die.count (T.OWN_VIOLATION p) 0 }
  else
    let g := s.gate p
    if g = 0 then
      let a := s.die.audited p
      let s := s.reserve p
      { s with die := (s.die.stage 1 0 p c.evid c.slot 5).pulse c pin width a }
    else { s with die := s.die.gateCount g p }

/-- The one's complement sum of a header's 16-bit words. -/
def ipSum (h : List Byte) : Nat :=
  let t := ((List.range (h.length / 2)).map (fun i => beNat (slice h (2 * i) 2))).sum
  let t := t % 65536 + t / 65536
  t % 65536 + t / 65536

/-- The frame after its patches: the IPv4 header checksum recomputed, the UDP checksum zeroed (R384). -/
def fixFrame (t : Template) (bs : List Byte) : List Byte :=
  let ihl := 4 * ((byteAt bs t.ipoff).toNat % 16)
  let bs := if t.udpz then overlay bs (t.ipoff + ihl + 6) [0, 0] else bs
  if t.ipcs then
    let z := overlay bs (t.ipoff + 10) [0, 0]
    overlay z (t.ipoff + 10) (beBytes 2 (65535 - ipSum (slice z t.ipoff ihl)))
  else bs

/-- The target of a descriptor in FC (R387). `payload` is the decision payload. -/
def Die.target (d : Die) (x : LaunchDesc) (c : ActCtx) (payload : List Byte) : Nat :=
  let f := d.fc
  let off : Int := x.offset
  let wrap (v : Int) : Nat := low v 64
  if x.base = 1 then wrap ((cdiv c.inFc16 16 : Nat) + off)
  else if x.base = 2 then wrap (c.exitFc + off)
  else
    let t := if x.base = 0 then x.time else leNat (slice payload x.poff 5)
    if 8 ≤ x.tb then wrap (f + sdiff 40 t f + off)
    else wrap (f + sdiff 40 t (d.nOf x.tb) + off)

/-- The effective holdover age in µs (R461). -/
def Die.holdAge (d : Die) : Nat :=
  min (max (if d.get R.FLK_STATUS_STATE = 4 then (d.ns - d.flk.holdFrom) / 1000 else 0) d.flk.parentHold) 0xFFFFFFFF

/-- The flock allows an agreed launch (R465). -/
def Die.agrees (d : Die) : Bool :=
  let st := d.get R.FLK_STATUS_STATE
  st == 3 || st == 5 || (st == 4 && decide (d.holdAge ≤ 10000))

/-- Whether a pasture's grant lets it launch on a port: kind 1 Ethernet, 2 Ouvust (R492). -/
def Die.mayLaunch (d : Die) (p kind port : Nat) : Bool :=
  if kind = 1 then bit (grantField (d.grant p) 32 2) port else bit (grantField (d.grant p) 48 8) port

/-- Enter a launch queue of 32 entries or count LQ_FULL (R388); a reservation of a dropped entry is released. -/
def State.enqueue (e : LaunchEnt) (s : State) : State :=
  let k := e.key
  let q := KMap.get [] s.die.launch k
  if q.length < 32 then { s with die := { s.die with launch := KMap.set [] s.die.launch k (q ++ [e]) } }
  else { s with die := s.die.count T.EGR_LQ_FULL e.pasture, cel := if e.audited then s.cel.release 1 else s.cel }

/-- A LAUNCH action through a template, a descriptor and patches already cut from their sources: (template offset, bytes)
(R76, R234, R384 to R388, R465). `at`: a target given by LAUNCH_AT. -/
def State.actLaunch (c : ActCtx) (t : Template) (x : LaunchDesc) (patches : List (Nat × List Byte)) (payload : List Byte)
    (at_ : Option Nat) (s : State) : State :=
  let p := c.pasture
  if !(s.die.mayLaunch p t.kind t.port) then { s with die := s.die.count (T.OWN_VIOLATION p) 0 }
  else
    let g := s.gate p
    if g = 0 then
      let agreed := x.tb = 9 ∨ at_.isSome
      if agreed ∧ s.die.agrees = false then { s with die := s.die.count T.FLK_AGREE_REFUSE 0 }
      else
        let a := s.die.audited p
        let s := s.reserve p
        let d := s.die.stage 1 0 p c.evid c.slot 5
        let bs := fixFrame t (patches.foldl (fun b q => overlay b q.1 q.2) t.bytes)
        let e : LaunchEnt :=
          { pasture := p, queue := x.queue, kind := t.kind, port := t.port, alt := t.alt, template := t.number
            mode := if at_.isSome then 1 else x.mode
            target := match at_ with | some f => f | none => d.target x c payload
            win := x.win, bytes := bs, tstamp := t.tstamp, tb := c.tb, evid := c.evid, inFc16 := c.inFc16
            image := c.image, audited := a, agreed := decide agreed }
        State.enqueue e { s with die := d }
    else { s with die := s.die.gateCount g p }

/-- The host decision message of R236. -/
def hostMsg (c : ActCtx) (poison : Bool) (payload : List Byte) (action : Nat) : List Byte :=
  leBytes 6 c.evid ++ leBytes 2 (c.pasture + c.engine * 64 + (if poison then 512 else 0) + c.tb * 1024)
    ++ c.ts.bytes ++ leBytes 4 c.image ++ padTo 24 payload ++ leBytes 8 action ++ leBytes 8 c.exitFc

/-- Write a host decision message to the pasture's decision ring, or count MSG_DROP (R608, R611). -/
def Die.postMsg (p : Nat) (msg : List Byte) (d : Die) : Die :=
  let h := d.get R.PAS_MSG_HEAD_VALUE p
  let size := 2 ^ d.get R.PAS_MSG_CTL_LOG2SIZE p
  if d.on R.PAS_MSG_CTL_ENABLE p && decide ((h + 2 ^ 32 - d.get R.PAS_MSG_TAIL_VALUE p) % 2 ^ 32 < size) then
    (d.hostWrite (vfFn p) (d.addr64 R.PAS_MSG_BASE_LO R.PAS_MSG_BASE_HI p + h % size * 64) msg).put R.PAS_MSG_HEAD_VALUE p (h + 1)
  else d.count T.PAS_MSG_DROP p

/-- The source bytes of a patch word (R385). -/
def patchBytes (c : ActCtx) (payload : List Byte) (w : Word) : Nat × List Byte :=
  let n := w.toNat
  let src := match bits n 0 3 with
    | 0 => payload
    | 1 => leBytes 6 c.evid
    | 2 => c.ts.bytes
    | _ => leBytes 8 c.exitFc
  let bs := slice src (bits n 3 5) (bits n 8 4 + 1)
  (bits n 13 11, if bit n 12 then bs.reverse else bs)

/-- A pasture's event consumes poison (R513, R514): POISONED, and quarantine under HOLD. -/
def Die.consumePoison (p : Nat) (d : Die) : Die :=
  let d := d.count T.PAS_POISONED p
  if d.on R.PAS_QUARANTINE_POLICY p && !(d.on R.PAS_QUARANTINE_STATUS_QUARANTINED p) then
    let d := (d.flag R.PAS_QUARANTINE_STATUS_QUARANTINED p true).count T.PAS_QUARANTINES p
    d.incident 5 1 0 p
  else d

end Sys2Proof.Machine
end

