-- ==== Sys2Proof/Machine/Ingress.lean ====
section
/-! DEFINITION. The Gate parsers: the header stage and steering (R50 to R55), parser programs (R56 to R65), the event record
(R66 to R70), the reflex rules (R72 to R76), and the commands ETH_FRAME_RX, FCS_RESULT, S-frame delivery, INJECT_ENTRY,
PARSER_WORD_ARRIVAL, the fourteen parser opcodes and RECORD_ASSEMBLED. -/

namespace Sys2Proof.Machine

/-- Parser g, by source code of R67 (0 to 80). -/
def Die.parser (d : Die) (g : Nat) : Parser := KMap.get {} d.parsers g

/-- Replace parser g. -/
def Die.putParser (g : Nat) (x : Parser) (d : Die) : Die := { d with parsers := KMap.set {} d.parsers g x }

/-- A parser has a frame in hand until its program has ended, its records are assembled and its FCS result is in. -/
def Parser.settle (x : Parser) : Parser :=
  if x.running || !x.closing.isEmpty || x.fcsDue || !x.held.isEmpty then x else { tails := x.tails }

/-- What remains of a frame whose program has ended (R62 to R65). -/
def Parser.tail (x : Parser) : FrameTail :=
  { pasture := x.pasture, table := x.table, srcCode := x.srcCode, stamps := x.stamps, inFc16 := x.inFc16, wait := x.wait, closing := x.closing
    left := x.left, held := x.held, fcsDue := x.fcsDue, fault := x.fault }

/-- Put what remains of the frame in hand back. -/
def Parser.withTail (x : Parser) (y : FrameTail) : Parser :=
  { x with closing := y.closing, left := y.left, held := y.held, fcsDue := y.fcsDue }

/-- A frame of which nothing remains to do. -/
def FrameTail.over (y : FrameTail) : Bool := y.closing.isEmpty && !y.fcsDue && y.held.isEmpty

/-- The tails with the first that `sel` takes replaced; one that is over goes. -/
def putTail (sel : FrameTail → Bool) (y : FrameTail) : List FrameTail → List FrameTail
  | [] => []
  | z :: zs => if sel z then (if y.over then zs else y :: zs) else z :: putTail sel y zs

/-- What a steering key selects (R53): Ethernet header fields, a channel, a whole raw lane, or a pasture on the host parser. -/
inductive SteerKey where
  | eth (vlan : Option Nat) (ip udp : Nat)
  | chan (c : Nat)
  | raw
  | host (p : Nat)

/-- Whether an entry matches (R53). -/
def SteerKey.hits (k : SteerKey) (x : SteerEnt) : Bool :=
  match k with
  | .eth v ip udp =>
    (match x.entry.vlan with
      | none => true
      | some 0x1000 => v.isNone
      | some w => v == some w)
    && (match x.entry.ip with | none => true | some w => w == ip)
    && (match x.entry.udp with | none => true | some w => w == udp)
  | .chan c => x.entry.channel == c
  | .raw => true
  | .host p => x.pasture == p

/-- The lowest-numbered matching entry of port g (R54). -/
def Die.steerFor (d : Die) (g : Nat) (k : SteerKey) : Option SteerEnt :=
  (List.range 64).findSome? (fun i =>
    match KMap.get none d.steer (g * 64 + i) with
    | some x => if k.hits x then some x else none
    | none => none)

/-- The program of an image on port g. -/
def programOf (x : Image) (g n : Nat) : Option Program := x.programs.find? (fun q => q.port == g && q.number == n)

/-- The declared last bytes of R61 for a steering entry. -/
def boundsOf (x : Image) (e : Steer) : List Nat :=
  match x.feeds.find? (fun f => f.steer == e.index) with | some f => f.lastRead | none => []

/-- The Larder table of a feed; 0xFF is none (R282). -/
def tableOf (x : Image) (sel : Feed → Bool) : Option Nat :=
  match x.feeds.find? sel with | some f => if f.table < 8 then some f.table else none | none => none

/-- The device is in Nap: a frame that reaches a parser is dropped (R580). -/
def Die.inNap (d : Die) : Bool := d.get R.PWR_STATUS_STATE == 2

/-- Begin a frame in parser g under a steering entry (R53, R55), behind what remains of the frames before it (R49): `base` is the payload base, `arrived` the bytes the header stage
has seen, `due` an FCS result to come. -/
def Die.startFrame (g : Nat) (e : SteerEnt) (frame : List Byte) (base arrived srcCode : Nat) (stamps : List Stamp)
    (inFc16 : Nat) (due fault : Bool) (d : Die) : Die :=
  match d.image e.pasture with
  | none => d
  | some x =>
    match programOf x g e.entry.program with
    | none => d
    | some q =>
      let d := d.count T.ING_FRAMES g
      let y := d.parser g
      d.putParser g { tails := if y.busy then y.tails ++ [y.tail] else y.tails
                      busy := true, frame := frame, base := base, arrived := arrived, pasture := e.pasture, instrs := q.instrs
                      consts := q.consts, bounds := boundsOf x e.entry, table := tableOf x (fun f => f.steer == e.entry.index)
                      srcCode := srcCode, wait := e.entry.wait
                      stamps := stamps, inFc16 := inFc16, running := true, tb := e.entry.tb
                      fields := List.replicate 40 0, fcsDue := due, fault := fault }

/-- The size LEN names (R56). -/
def lenOf (l : Nat) : Nat := [1, 2, 3, 4, 6, 8, 12, 16].getD l 1

/-- An instruction word's fields (R56). -/
structure PInstr where
  op : Nat
  rel : Bool
  off : Nat
  n : Nat
  be : Bool
  dst : Nat
  arg : Nat

/-- Take an instruction word apart (R56). -/
def pInstr (w : Word) : PInstr :=
  let v := w.toNat
  ⟨bits v 27 5, bit v 26, bits v 16 10, lenOf (bits v 13 3), bit v 12, bits v 6 6, bits v 0 6⟩

/-- The opcodes that read a source (R57). -/
def PInstr.reads (i : PInstr) : Bool := [1, 2, 3, 4, 5, 8].contains i.op

/-- The source's first byte, counted from the payload base. -/
def PInstr.start (i : PInstr) (x : Parser) : Nat := (if i.rel then x.cursor else 0) + i.off

/-- The record under construction is dropped and counted once (R61). -/
def Die.dropRec (g : Nat) (t : Tal) (d : Die) : Die :=
  let x := d.parser g
  if x.dropped then d else (d.putParser g { x with dropped := true }).count t x.pasture

/-- DROP and running off the end (R59). -/
def Die.progDrop (g : Nat) (d : Die) : Die :=
  let x := d.parser g
  let d := d.putParser g { x with running := false }
  if x.dropped || (x.emitted && !x.touched) then d else d.count T.PAS_PROG_DROP x.pasture

/-- EMITR and ACCEPT (R57, R60, R61): close a record; the ninth is not executed. `fin`: ACCEPT. -/
def Die.closeRec (g : Nat) (fin : Bool) (d : Die) : Die :=
  let x := d.parser g
  if 8 ≤ x.closed then
    (d.putParser g { x with running := false }).count T.PAS_MSG_EXCESS x.pasture
  else
    let r : ClosedRec := ⟨(match x.evid with | some v => some v | none => x.replayEvid), x.key, x.tb, x.fields⟩
    let d := d.putParser g { x with closed := x.closed + 1, closing := if x.dropped then x.closing else x.closing ++ [r]
                                    key := 0, evid := none, fields := List.replicate 40 0, dropped := false, touched := false
                                    emitted := true, msgStart := x.cursor, pc := x.pc + 1, running := !fin }
    if x.dropped then d
    else
      let d := d.count T.ING_RECORDS g
      if d.on R.FAB_REPLAY_ENABLE x.pasture then
        d.onPas x.pasture (fun q => { q with replayEmitted := (q.replayEmitted + 1) % 2 ^ 48 })
      else d

/-- The host parser of a replay pasture holds at its record limit (R359). -/
def Die.replayHeld (d : Die) (p : Nat) : Bool :=
  d.on R.FAB_REPLAY_ENABLE p
    && decide (d.get R.FAB_REPLAY_LIMIT_LO p + d.get R.FAB_REPLAY_LIMIT_HI p * 2 ^ 32 ≤ (d.pasture p).replayEmitted)

/-- The instruction parser g stands at, where it can execute now: its bytes have arrived, or the frame has ended (R62); an
EMITR or ACCEPT of a replay pasture waits at the record limit (R359). -/
def Die.ready (d : Die) (g : Nat) : Option PInstr :=
  let x := d.parser g
  if !x.running then none
  else match x.instrs[x.pc]? with
    | none => none
    | some w =>
      let i := pInstr w
      if i.reads && !(decide (x.base + i.start x + i.n ≤ x.arrived) || decide (x.frame.length ≤ x.arrived)) then none
      else if (i.op = 11 ∨ i.op = 12) ∧ x.closed < 8 ∧ x.dropped = false ∧ d.replayHeld x.pasture then none
      else some i

/-- The source bytes of an instruction, or the tally that drops the record (R61); no last byte is declared past the eighth record. -/
def Parser.source (x : Parser) (i : PInstr) : Except Tal (List Byte) :=
  let a := i.start x
  let past : Bool := match x.bounds[x.closed]? with | some b => decide (b < a + i.n - 1) | none => false
  if a < x.msgStart ∨ past then .error T.PAS_PARSE_BOUND
  else if x.frame.length < x.base + a + i.n then .error T.PAS_SHORT
  else .ok (slice x.frame (x.base + a) i.n)

/-- Advance to the next instruction. -/
def Die.next (g k : Nat) (d : Die) : Die :=
  let x := d.parser g
  d.putParser g { x with pc := x.pc + k }

/-- The value of a source under BE (R56). -/
def PInstr.value (i : PInstr) (bs : List Byte) : Nat := if i.be then beNat bs else leNat bs

/-- NOP (R57). -/
def pNopOp (g : Nat) (_ : PInstr) (d : Die) : Die := d.next g 1

/-- The bytes an instruction of a record already dropped reads: those of its source that the frame has, whatever bound it breaks (R61). -/
def Parser.inFrame (x : Parser) (i : PInstr) : Option (List Byte) :=
  if x.base + i.start x + i.n ≤ x.frame.length then some (slice x.frame (x.base + i.start x) i.n) else none

/-- An instruction with a source: `f` on its bytes, or the drop of R61. For a record already dropped it executes wherever its source lies in the frame.
DESIGN CHOICE (log entry 21): the instruction that drops a record, and one whose source the frame does not hold, do nothing else. -/
def withSource (g : Nat) (i : PInstr) (f : Parser → List Byte → Parser) (d : Die) : Die :=
  let x := d.parser g
  match x.source i with
  | .error t =>
    (match x.dropped, x.inFrame i with
      | true, some bs => d.putParser g (f x bs)
      | _, _ => d.dropRec g t).next g 1
  | .ok bs => (d.putParser g (f x bs)).next g 1

/-- A working value is written only while the record has not been dropped (R61). -/
def Parser.work (x : Parser) (y : Parser) : Parser := if x.dropped then x else { y with touched := true }

/-- EXT (R57). -/
def pExtOp (g : Nat) (i : PInstr) (d : Die) : Die :=
  withSource g i (fun x bs => x.work { x with fields := (overlay x.fields (i.dst - 24) (if i.be then bs.reverse else bs)).take 40 }) d

/-- KEYC (R57). -/
def pKeycOp (g : Nat) (i : PInstr) (d : Die) : Die :=
  withSource g i (fun x bs => x.work { x with key := i.value bs % 2 ^ 32 }) d

/-- KEYH (R57): crc32c over the source in frame order. -/
def pKeyhOp (g : Nat) (i : PInstr) (d : Die) : Die :=
  withSource g i (fun x bs => x.work { x with key := crc32c bs }) d

/-- EVID (R57). -/
def pEvidOp (g : Nat) (i : PInstr) (d : Die) : Die :=
  withSource g i (fun x bs => x.work { x with evid := some (i.value bs % 2 ^ 48) }) d

/-- MATCH (R57). -/
def pMatchOp (g : Nat) (i : PInstr) (d : Die) : Die :=
  withSource g i (fun x bs =>
    let k := x.consts.getD i.arg (0, 0)
    { x with c := (BitVec.ofNat 64 (i.value bs)) &&& k.2 == k.1 }) d

/-- BRC (R57). -/
def pBrcOp (g : Nat) (i : PInstr) (d : Die) : Die := d.next g (if (d.parser g).c then 1 + i.arg else 1)

/-- BRN (R57). -/
def pBrnOp (g : Nat) (i : PInstr) (d : Die) : Die := d.next g (if (d.parser g).c then 1 else 1 + i.arg)

/-- CUR (R57). -/
def pCurOp (g : Nat) (i : PInstr) (d : Die) : Die :=
  withSource g i (fun x bs => { x with cursor := x.cursor + i.value bs + i.arg }) d

/-- CURI (R57). -/
def pCuriOp (g : Nat) (i : PInstr) (d : Die) : Die :=
  let x := d.parser g
  (d.putParser g { x with cursor := x.cursor + i.off + i.arg }).next g 1

/-- TBSEL (R57). -/
def pTbselOp (g : Nat) (i : PInstr) (d : Die) : Die :=
  let x := d.parser g
  (d.putParser g { x with tb := i.arg % 8, touched := true }).next g 1

/-- One instruction by its opcode (R57). -/
def Die.pExec (g : Nat) (i : PInstr) (d : Die) : Die :=
  match i.op with
  | 0 => pNopOp g i d
  | 1 => pExtOp g i d
  | 2 => pKeycOp g i d
  | 3 => pKeyhOp g i d
  | 4 => pEvidOp g i d
  | 5 => pMatchOp g i d
  | 6 => pBrcOp g i d
  | 7 => pBrnOp g i d
  | 8 => pCurOp g i d
  | 9 => pCuriOp g i d
  | 10 => pTbselOp g i d
  | 11 => d.closeRec g false
  | 12 => d.closeRec g true
  | _ => d.progDrop g

/-- After an instruction: a program that has run past its last instruction acts as DROP (R59); a settled parser is free. -/
def Die.pEnd (g : Nat) (d : Die) : Die :=
  let x := d.parser g
  let d := if x.running && decide (x.instrs.length ≤ x.pc) then d.progDrop g else d
  d.putParser g (d.parser g).settle

/-- Execute every instruction whose bytes have arrived (R62); a program has at most 64 and skips forward only (R58). -/
def Die.pRun (g : Nat) : Nat → Die → Die
  | 0, d => d
  | n + 1, d => match d.ready g with
    | some i => Die.pRun g n ((d.pExec g i))
    | none => d

/-- The line brings the frames of a port one after another: when the next begins, every byte of the one in hand has arrived and its program runs to its
end (R49, R62). -/
def Die.lineEnds (g : Nat) (d : Die) : Die :=
  let x := d.parser g
  if x.busy then ((d.putParser g { x with arrived := x.frame.length }).pRun g 65).pEnd g else d

/-- A parser opcode as a command: parser g executes its next instruction if that has opcode op and can execute now. -/
def pCmd (op g : Nat) (f : PInstr → Die → Die) (s : State) : Host.Outcome State Fault Refusal :=
  dieCmd (decide (g < 81)) (fun s =>
    match s.die.ready g with
    | some i => if i.op = op then (f i s.die).pEnd g else s.die
    | none => s.die) s

/-- PARSER_NOP. -/
def execPNop (g : Nat) (s : State) : Host.Outcome State Fault Refusal := pCmd 0 g (pNopOp g) s
/-- EXT. -/
def execPExt (g : Nat) (s : State) : Host.Outcome State Fault Refusal := pCmd 1 g (pExtOp g) s
/-- KEYC. -/
def execPKeyc (g : Nat) (s : State) : Host.Outcome State Fault Refusal := pCmd 2 g (pKeycOp g) s
/-- KEYH. -/
def execPKeyh (g : Nat) (s : State) : Host.Outcome State Fault Refusal := pCmd 3 g (pKeyhOp g) s
/-- EVID. -/
def execPEvid (g : Nat) (s : State) : Host.Outcome State Fault Refusal := pCmd 4 g (pEvidOp g) s
/-- MATCH. -/
def execPMatch (g : Nat) (s : State) : Host.Outcome State Fault Refusal := pCmd 5 g (pMatchOp g) s
/-- BRC. -/
def execPBrc (g : Nat) (s : State) : Host.Outcome State Fault Refusal := pCmd 6 g (pBrcOp g) s
/-- BRN. -/
def execPBrn (g : Nat) (s : State) : Host.Outcome State Fault Refusal := pCmd 7 g (pBrnOp g) s
/-- CUR. -/
def execPCur (g : Nat) (s : State) : Host.Outcome State Fault Refusal := pCmd 8 g (pCurOp g) s
/-- CURI. -/
def execPCuri (g : Nat) (s : State) : Host.Outcome State Fault Refusal := pCmd 9 g (pCuriOp g) s
/-- TBSEL. -/
def execPTbsel (g : Nat) (s : State) : Host.Outcome State Fault Refusal := pCmd 10 g (pTbselOp g) s
/-- EMITR. -/
def execPEmitr (g : Nat) (s : State) : Host.Outcome State Fault Refusal := pCmd 11 g (fun _ => Die.closeRec g false) s
/-- ACCEPT. -/
def execPAccept (g : Nat) (s : State) : Host.Outcome State Fault Refusal := pCmd 12 g (fun _ => Die.closeRec g true) s
/-- DROP. -/
def execPDrop (g : Nat) (s : State) : Host.Outcome State Fault Refusal := pCmd 13 g (fun _ => Die.progDrop g) s

/-- PARSER_WORD_ARRIVAL (R62): n more bytes of the frame reach the parser, and every instruction they serve executes; a stile of
3 cycles in Free mode counts as a timing-dependent choice (R29, R348). -/
def execParserWordArrival (g n stile3 : Nat) (s : State) : Host.Outcome State Fault Refusal :=
  dieCmd (decide (g < 81)) (fun s =>
    let x := s.die.parser g
    if x.busy then
      let d := s.die.stile x.pasture stile3 n
      let d := d.putParser g { x with arrived := min x.frame.length (x.arrived + n) }
      (d.pRun g 65).pEnd g
    else s.die) s

/-- Fields of a record by byte (R66). -/
def EvRec.bytes (r : EvRec) : List Byte :=
  leBytes 6 r.evid ++ leBytes 4 r.key ++ leBytes 2 (r.pasture % 64 + r.source % 128 * 64 + r.tb % 8 * 8192) ++ r.ts.bytes
    ++ padTo 40 r.fields

/-- A reflex rule compared with a record (R72). -/
def reflexHits (x : Reflex) (rb : List Byte) : Bool :=
  let u := leNat (slice rb x.sel x.width)
  let v : Int := if x.signed then sext u (8 * x.width) else u
  let cv : Int := if x.signed then x.value.toInt else x.value.toNat
  let cm : Int := if x.signed then x.mask.toInt else x.mask.toNat
  match x.op with
  | 0 => v == cv
  | 1 => v != cv
  | 2 => decide (v < cv)
  | 3 => decide (v ≤ cv)
  | 4 => decide (cv < v)
  | 5 => decide (cv ≤ v)
  | 6 => (BitVec.ofInt 64 v &&& x.mask) == x.value
  | _ => decide (cv ≤ v) && decide (v ≤ cm)

/-- The matching groups of a rule set in order: the index and rule that ends each (R72, CHAIN). -/
def reflexGroups (rb : List Byte) : Nat → Bool → List Reflex → List (Nat × Reflex)
  | _, _, [] => []
  | i, acc, x :: xs =>
    let m := acc && reflexHits x rb
    if x.chain then reflexGroups rb (i + 1) m xs
    else (if m then [(i, x)] else []) ++ reflexGroups rb (i + 1) true xs

/-- The actions to fire: at most 4; TRIGs on one pin give one pulse of the larger width (R73, R74). In a replay pasture each action becomes a message
of its own (R363). -/
def reflexFire (replay : Bool) (l : List (Nat × Reflex)) : List (Nat × Reflex) :=
  let four := l.take 4
  if replay then four else four.foldl (fun (acc : List (Nat × Reflex)) x =>
    if x.2.action = 1 ∧ acc.any (fun y => y.2.action == 1 && y.2.pin == x.2.pin) then
      acc.map (fun y => if y.2.action = 1 ∧ y.2.pin = x.2.pin then (y.1, { y.2 with pulse := max y.2.pulse x.2.pulse }) else y)
    else acc ++ [x]) []

/-- One reflex action (R76), or its host message in a replay pasture (R363). -/
def State.reflexAct (c : ActCtx) (rb : List Byte) (i : Nat) (x : Reflex) (s : State) : State :=
  if x.action = 0 then s
  else if s.die.on R.FAB_REPLAY_ENABLE c.pasture then
    let act := x.action + (if x.action = 1 then x.pin * 8 + x.pulse * 128 else x.template * 2 ^ 15) + i * 2 ^ 29 + 2 ^ 63
    { s with die := s.die.postMsg c.pasture (hostMsg c false [] act) }
  else
    let s := { s with die := s.die.stage 2 80 c.pasture c.evid 0 8 }
    if x.action = 1 then s.actTrig c x.pin x.pulse
    else match s.die.image c.pasture with
      | none => s
      | some im =>
        match im.templates.find? (fun t => t.number == x.template) with
        | none => { s with die := s.die.count (T.OWN_VIOLATION c.pasture) 0 }
        | some t =>
          match im.descs.find? (fun q => q.number == t.desc) with
          | none => s
          | some q => s.actLaunch c t q (x.patches.map (fun pt => (pt.toff, slice rb pt.off pt.len))) [] none

/-- The reflex stage of a record (R73 to R76, R513, R545): its actions, then the feed queue unless STOP or no engine image (R75, R70). From a WITHDRAW on no
record of the pasture enters a feed queue (R301). DEDUCED (log entry 128): it counts in QUEUE_DROP as those in the queue did. -/
def State.reflexStage (g : Nat) (r : EvRec) (s : State) : State :=
  let p := r.pasture
  match s.die.image p with
  | none => { s with die := s.die.count T.PAS_QUEUE_DROP p }
  | some im =>
    let rb := r.bytes
    let groups := if r.poison then [] else reflexGroups rb 0 true im.reflex
    let s := if r.poison then { s with die := s.die.consumePoison p } else s
    let s := (reflexFire (s.die.on R.FAB_REPLAY_ENABLE p) groups).foldl (fun s x => s.reflexAct (ctxOf s.die r 0 0) rb x.1 x.2) s
    let u := (s.die.pasture p).reflexExcess
    let v := tallyAdd u (groups.length - 4)
    let s := { s with die := s.die.onPas p (fun q => { q with reflexExcess := v }) }
    let s := if bit v 48 && !(bit u 48) then { s with die := s.die.alarm 15 } else s
    if groups.any (fun x => x.2.stop) || im.engines.isEmpty then s
    else if (s.die.pasture p).leaving ≠ 0 then { s with die := s.die.count T.PAS_QUEUE_DROP p }
    else
      let k := g * 64 + p
      let q := KMap.get [] s.die.feeds k
      if q.length < 16 then { s with die := { s.die with feeds := KMap.set [] s.die.feeds k (q ++ [r]) } }
      else { s with die := s.die.count T.PAS_QUEUE_DROP p }

/-- The event ID of a record (R69). -/
def Die.takeEvid (p : Nat) (e : Option Nat) (d : Die) : Nat × Die :=
  match e with
  | some v => (v, d)
  | none =>
    let n := (d.pasture p).evCounter
    (n, d.onPas p (fun q => { q with evCounter := (n + 1) % 2 ^ 48 }))

/-- RECORD_ASSEMBLED (R62, R66 to R70): the parser's oldest closed record is assembled; under WAIT it is held for the FCS (R65),
else it leaves for the reflex stage (R64). A latent error of a feed-queue entry (R509, kind 12) poisons it. `stile3`: its crossing into the Commons
takes 3 cycles (R29, R348). -/
def State.assemble (g : Nat) (stile3 : Nat) (s : State) : State :=
  let y := s.die.parser g
  let tail := y.tails.find? (fun z => !z.closing.isEmpty)
  let x := tail.getD y.tail
  let put (z : FrameTail) : Parser := match tail with
    | some _ => Parser.settle { y with tails := putTail (fun z => !z.closing.isEmpty) z y.tails }
    | none => Parser.settle (y.withTail z)
  match x.closing with
  | [] => s
  | c :: rest =>
    let p := x.pasture
    if s.die.on R.FAB_REPLAY_ENABLE p ∧ 16 ≤ (KMap.get [] s.die.feeds (g * 64 + p)).length then s
    else
      let ev := s.die.takeEvid p c.evid
      let ek := 12 * 2 ^ 40 + g * 64 + p
      let bad := KMap.get 0 ev.2.ecc ek == 2
      let d := if bad then { ev.2.countBy (T.CHK_UE 12) 0 1 with ecc := KMap.set 0 ev.2.ecc ek 0 } else ev.2
      let r : EvRec := { evid := ev.1, key := c.key, pasture := p, source := x.srcCode, tb := c.tb, ts := x.stamps.getD c.tb {}
                         fields := c.fields, poison := bad, inFc16 := x.inFc16, table := x.table }
      let d := (d.stage 2 g p r.evid 0 1).stile p stile3 1
      if x.wait && x.fcsDue then
        { s with die := d.putParser g (put { x with closing := rest, held := x.held ++ [r] }) }
      else
        let d := d.putParser g (put { x with closing := rest, left := x.left + 1 })
        State.reflexStage g r { s with die := d }

/-- RECORD_ASSEMBLED. -/
def execRecordAssembled (x : RecordEnd) (s : State) : Host.Outcome State Fault Refusal := guardU (decide (x.port < 81)) (s.assemble x.port x.stile3)

/-- Records leave one by one. -/
def State.releaseHeld (g : Nat) : List EvRec → State → State
  | [], s => s
  | r :: rs, s => State.releaseHeld g rs (s.reflexStage g r)

/-- FCS_RESULT (R64, R65), of the oldest frame of the port that awaits one: on failure records not yet gone are dropped in FCS_BAD and those gone counted in FCS_LATE; under WAIT a
pass releases the held ones. -/
def State.fcsResult (g : Nat) (ok : Bool) (s : State) : State :=
  let old := (s.die.parser g).tails.find? (fun z => z.fcsDue)
  let d := match old with | some _ => s.die | none => s.die.lineEnds g
  let y := d.parser g
  let x := old.getD y.tail
  let put (z : FrameTail) : Parser := match old with
    | some _ => Parser.settle { y with tails := putTail (fun z => z.fcsDue) z y.tails }
    | none => Parser.settle (y.withTail z)
  if !x.fcsDue then s
  else if ok && !x.fault then
    State.releaseHeld g x.held { s with die := d.putParser g (put { x with fcsDue := false, held := [], left := x.left + x.held.length }) }
  else
    let d := d.countBy T.PAS_FCS_BAD x.pasture (x.held.length + x.closing.length)
    let d := if x.wait then d else d.countBy T.PAS_FCS_LATE x.pasture x.left
    { s with die := d.putParser g (put { x with fcsDue := false, held := [], closing := [] }) }

/-- FCS_RESULT. -/
def execFcsResult (t : Nat) (ok : Bool) (s : State) : Host.Outcome State Fault Refusal := guardU (decide (t < 16)) (s.fcsResult (64 + t) ok)

/-- What the Ethernet header stage finds (R50, R51): the tally that drops the frame, or its steering key and payload base. -/
def headerStage (bs : List Byte) : Except Tal (SteerKey × Nat) :=
  let ty := beNat (slice bs 12 2)
  let tagged := ty = 0x8100
  let l2 := if tagged then 18 else 14
  let et := if tagged then beNat (slice bs 16 2) else ty
  let vlan := if tagged then some (beNat (slice bs 14 2) % 4096) else none
  if et ≠ 0x0800 then .error T.ETH_NO_MATCH
  else
    let vi := (byteAt bs l2).toNat
    let ihl := 4 * (vi % 16)
    if vi / 16 ≠ 4 ∨ ihl < 20 then .error T.ETH_NO_MATCH
    else
      let total := beNat (slice bs (l2 + 2) 2)
      if bs.length < l2 + ihl ∨ ipSum (slice bs l2 ihl) ≠ 65535 ∨ bs.length - l2 < total ∨ total < ihl then .error T.ETH_HDR_BAD
      else
        let fr := beNat (slice bs (l2 + 6) 2)
        if bit fr 13 ∨ fr % 8192 ≠ 0 then .error T.ETH_FRAG
        else if (byteAt bs (l2 + 9)).toNat ≠ 17 then .error T.ETH_NO_MATCH
        else
          let ul := beNat (slice bs (l2 + ihl + 4) 2)
          if total < ihl + 8 ∨ ul < 8 ∨ total - ihl < ul then .error T.ETH_NO_MATCH
          else .ok (.eth vlan (beNat (slice bs (l2 + 16) 4)) (beNat (slice bs (l2 + ihl + 2) 2)), l2 + ihl + 8)

/-- A frame is PTP (R381). -/
def isPtp (bs : List Byte) : Bool :=
  let ty := beNat (slice bs 12 2)
  let l2 := if ty = 0x8100 then 18 else 14
  let et := if ty = 0x8100 then beNat (slice bs 16 2) else ty
  let ihl := 4 * ((byteAt bs l2).toNat % 16)
  let dp := beNat (slice bs (l2 + ihl + 2) 2)
  et == 0x88F7 || (et == 0x0800 && (byteAt bs l2).toNat / 16 == 4 && byteAt bs (l2 + 9) == 17 && (dp == 319 || dp == 320))

/-- The destination address passes the port's filter (R415). -/
def Die.macOk (d : Die) (t : Nat) (bs : List Byte) : Bool :=
  let mac := leBytes 4 (d.get R.ETH_MAC_LO_VALUE t) ++ leBytes 2 (d.get R.ETH_MAC_HI_VALUE t)
  slice bs 0 6 == mac || (byteAt bs 0).toNat % 2 == 1

/-- A port receives frames (R417): ENABLE and block lock, and codeword lock under RS-FEC. -/
def Die.ethReceives (d : Die) (t : Nat) : Bool :=
  d.on R.ETH_CONTROL_ENABLE t && d.on R.ETH_STATUS_BLOCK_LOCK t
    && (!(d.on R.ETH_CONTROL_FEC t) || d.on R.ETH_STATUS_FEC_LOCK t)

/-- Under PTP_PORT the Cellar keeps the captures of the last 256 PTP frames on the disciplining port (R382). -/
def Cellar.keepPtp (t tag : Nat) (sent : Bool) (tb0 : Nat) (c : Cellar) : Cellar :=
  if c.get R.CEL_STATUS_SOURCE = 3 ∧ c.get R.CEL_DISC_PORT = t then { c with ptpCaps := ((tag, sent, tb0) :: c.ptpCaps).take 256 } else c

/-- A PTP frame goes to the owner's receive ring with its timestamp, or is dropped (R381, R615). -/
def State.ptpReceive (t : Nat) (bs : List Byte) (cap : Capture) (s : State) : State :=
  let d := s.die
  let h := d.get R.ETH_PTPRX_HEAD_VALUE t
  let size := 2 ^ d.get R.ETH_PTPRX_CTL_LOG2SIZE t
  let tag := KMap.get 0 d.ptpTag t
  let fc := s.cel.capFc (26 + t) false cap
  let t0 := s.cel.capTb0 (26 + t) false cap
  let d := { d with ptpTag := KMap.set 0 d.ptpTag t ((tag + 1) % 2 ^ 16) }
  let cel := s.cel.keepPtp t tag false t0
  if d.on R.ETH_PTPRX_CTL_ENABLE t && decide ((h + 2 ^ 32 - d.get R.ETH_PTPRX_TAIL_VALUE t) % 2 ^ 32 < size) then
    let tb := d.get R.ETH_TSCFG_TB t
    let slot := padTo 2048 (leBytes 2 bs.length ++ leBytes 2 tag ++ leBytes 1 tb ++ [0, 0, 0]
      ++ ((stampsOf d fc t0).getD tb {}).bytes ++ List.replicate 12 0 ++ bs)
    let d := d.hostWrite 0 (d.addr64 R.ETH_PTPRX_BASE_LO R.ETH_PTPRX_BASE_HI t + h % size * 2048) slot
    { s with die := d.put R.ETH_PTPRX_HEAD_VALUE t (h + 1), cel := cel }
  else { s with die := d.count T.ETH_PTP_RX_DROP t, cel := cel }

/-- PTP_RX (R381). -/
def execPtpRx (t : Nat) (bytes : List Byte) (cap : Capture) (s : State) : Host.Outcome State Fault Refusal :=
  guardU (decide (t < 16))
    (if s.die.ethReceives t && s.die.macOk t bytes && isPtp bytes then s.ptpReceive t bytes cap else s)

/-- The receive faults of a frame (R416): its tallies, and whether it fails its FCS. -/
def Die.rxFaults (t n : Nat) (f : RxFaults) (d : Die) : Bool × Die :=
  let err := f.errBlock || decide (0 < f.uncorr)
  let d := if err then d.count T.ETH_RX_ERR t else d
  let d := if 1522 < n then d.count T.ETH_RX_LONG t else d
  let d := if n < 64 then d.count T.ETH_RX_RUNT t else d
  let d := d.countBy T.ETH_FEC_UNCORR t f.uncorr
  let d := d.countBy T.ETH_FEC_CORR t f.corr
  (err || decide (1522 < n) || decide (n < 64), d)

/-- ETH_FRAME_RX (R50 to R54, R415, R416): `bytes` from the destination address, without the FCS. -/
def State.ethFrame (t : Nat) (bytes : List Byte) (faults : RxFaults) (cap : Capture) (s : State) : State :=
  if !(s.die.ethReceives t) then s
  else if s.die.inNap then { s with die := s.die.count T.PWR_NAP_DROP 0 }
  else
    let fx := s.die.rxFaults t (bytes.length + 4) faults
    let d := fx.2
    let bs := bytes.take 1522
    if !(d.macOk t bs) then { s with die := d.count T.ETH_NO_MATCH t }
    else if isPtp bs then { s with die := d }.ptpReceive t bs cap
    else match headerStage bs with
      | .error tal => { s with die := d.count tal t }
      | .ok (k, base) =>
        match d.steerFor (64 + t) k with
        | none => { s with die := d.count T.ETH_NO_MATCH t }
        | some e =>
          let fc := s.cel.capFc (26 + t) false cap
          let d := (d.lineEnds (64 + t)).startFrame (64 + t) e bs base base (64 + t) (stampsOf d fc (s.cel.capTb0 (26 + t) false cap)) fc true fx.1
          { s with die := d }

/-- ETH_FRAME_RX. -/
def execEthFrameRx (t : Nat) (bytes : List Byte) (faults : RxFaults) (cap : Capture) (s : State) :
    Host.Outcome State Fault Refusal := guardU (decide (t < 16)) (s.ethFrame t bytes faults cap)

/-- A whole frame reaches the parser of lane l (R53, R62): an S frame by channel, or a raw frame. `src` is its source code,
81 for a frame the shepherd relays (R67). -/
def State.laneFrame (l : Nat) (k : SteerKey) (bytes : List Byte) (src : Nat) (cap : Capture) (s : State) : State :=
  if s.die.inNap then { s with die := s.die.count T.PWR_NAP_DROP 0 }
  else match s.die.steerFor l k with
    | none => { s with die := s.die.count T.LNK_NO_MATCH l }
    | some e =>
      let fc := s.cel.capFc (58 + l) false cap
      let d := (s.die.lineEnds l).startFrame l e bytes 0 bytes.length src (stampsOf s.die fc (s.cel.capTb0 (58 + l) false cap)) fc false false
      { s with die := d }

/-- The number of ring units an injection entry takes (R612). -/
def injUnits (len : Nat) : Nat := cdiv (8 + len) 64

/-- Bytes of a ring in host memory from a count on, continuing at the ring's start after its last unit (R608). -/
def Die.ringBytes (d : Die) (fn base size unit count n : Nat) : List Byte :=
  (List.range n).map (fun i => KMap.get 0 d.host (fn * 2 ^ 64 + (base + (count % size * unit + i) % (size * unit)) % 2 ^ 64))

/-- The pasture is in the shed set at the present level (R349 to R351), among those with an admitted engine image: its place from the lowest rank, lowest pasture number
last. -/
def Die.shedSet (d : Die) (p : Nat) : Bool :=
  let lv := d.get R.DEV_SHED_STATUS_LEVEL
  match d.image p with
  | none => false
  | some im =>
    (d.pasture p).adm && !im.engines.isEmpty && decide (((pastures.filter (fun q => (d.pasture q).adm
      && (match d.image q with | some x => !x.engines.isEmpty | none => false)
        && (decide (d.rank q < d.rank p) || (d.rank q == d.rank p && decide (p < q))))).length) < lv)

/-- The next entry of pasture p's injection ring that the host parser can take now (R359, R612): its first 8 bytes. -/
def Die.injHead (d : Die) (p : Nat) : Option (List Byte) :=
  let tail := d.get R.PAS_INJ_TAIL_VALUE p
  let fill := (d.get R.PAS_INJ_HEAD_VALUE p + 2 ^ 32 - tail) % 2 ^ 32
  let size := 2 ^ d.get R.PAS_INJ_CTL_LOG2SIZE p
  let replayWait := d.on R.FAB_REPLAY_ENABLE p
    && (decide (16 ≤ (KMap.get [] d.feeds (80 * 64 + p)).length) || d.shedSet p)
  if !(d.on R.PAS_INJ_CTL_ENABLE p) || d.on R.PAS_RING_STATUS_INJ_HALTED p || fill == 0 || replayWait then none
  else
    let h := d.ringBytes (vfFn p) (d.addr64 R.PAS_INJ_BASE_LO R.PAS_INJ_BASE_HI p) size 64 tail 8
    let len := leNat (slice h 0 2)
    if 1 ≤ len ∧ len ≤ 4088 ∧ leNat (slice h 2 6) = 0 ∧ fill < injUnits len then none else some h

/-- Injected frames: a normal one by the pasture's steering entry, one of a replay pasture by its prefix (R53, R358). -/
def Die.injectFrame (p : Nat) (frame : List Byte) (d : Die) : Die :=
  let fc16 := d.fc * 16
  if d.on R.FAB_REPLAY_ENABLE p then
    match d.image p with
    | none => d.count T.ING_NO_MATCH 80
    | some im =>
      let src := (byteAt frame 6).toNat
      let tb := (byteAt frame 7).toNat % 8
      let prog := (byteAt frame 20).toNat
      match im.programs.find? (fun q => q.number == prog) with
      | none => d.count T.PAS_PROG_DROP p
      | some q =>
        if 81 < src then d.count T.PAS_PROG_DROP p
        else
          let ts : Stamp := ⟨leNat (slice frame 8 6), leNat (slice frame 14 4), leNat (slice frame 18 2)⟩
          let bounds := match im.feeds.find? (fun f => f.program == prog) with | some f => f.lastRead | none => []
          let d := d.count T.ING_FRAMES 80
          d.putParser 80 { busy := true, frame := frame, base := 24, arrived := frame.length, pasture := p, instrs := q.instrs
                           consts := q.consts, bounds := bounds, table := tableOf im (fun f => f.program == prog)
                           srcCode := src, stamps := List.replicate 8 ts, inFc16 := fc16
                           running := true, tb := tb, fields := List.replicate 40 0, replayEvid := some (leNat (slice frame 0 6)) }
  else
    match d.steerFor 80 (.host p) with
    | none => d.count T.ING_NO_MATCH 80
    | some e => d.startFrame 80 e frame 0 frame.length 80 (stampsOf d fc16 (d.nOf 0 * 2 ^ 16)) fc16 false false

/-- INJECT_ENTRY (R612): in rotation above the pasture served last. -/
def Die.inject (d : Die) : Die :=
  if (d.parser 80).busy then d
  else
    let order := (List.range 64).map (fun i => (d.injLast + 1 + i) % 64)
    match order.find? (fun p => (d.injHead p).isSome) with
    | none => d
    | some p =>
      let h := (d.injHead p).getD []
      let len := leNat (slice h 0 2)
      let d := { d with injLast := p }
      if 1 ≤ len ∧ len ≤ 4088 ∧ leNat (slice h 2 6) = 0 then
        let tail := d.get R.PAS_INJ_TAIL_VALUE p
        let size := 2 ^ d.get R.PAS_INJ_CTL_LOG2SIZE p
        let all := d.ringBytes (vfFn p) (d.addr64 R.PAS_INJ_BASE_LO R.PAS_INJ_BASE_HI p) size 64 tail (8 + len)
        let d := (d.put R.PAS_INJ_TAIL_VALUE p (tail + injUnits len)).count T.PAS_INJECTED p
        if d.inNap then d.count T.PWR_NAP_DROP 0 else d.injectFrame p (all.drop 8)
      else (d.flag R.PAS_RING_STATUS_INJ_HALTED p true).count T.PAS_INJ_BAD p

/-- INJECT_ENTRY. -/
def execInjectEntry (s : State) : Host.Outcome State Fault Refusal := .next (onDie Die.inject s)

end Sys2Proof.Machine
end

