-- ==== Sys2Proof/Machine/Rel.lean ====
section
/-! DEFINITION. Errors of stored words and what they cause (R509 to R516), observation (R530) and persistent poison (R515): the
operations that reads, scrubs and loads share. -/

namespace Sys2Proof.Machine

/-- Where the state of a stored word stands: kind of R509 and its place. -/
def eccKey (kind loc : Nat) : Nat := kind * 2 ^ 40 + loc

/-- The physical column of a logical tile (R135). -/
def Die.physCol (d : Die) (tile : Nat) : Nat :=
  let s := KMap.get 24 d.spares (tile / 512 * 16 + tile / 32 % 16)
  let c := tile % 32
  if c < s then c else c + 1

/-- An engine enters observation (R530): a record of kind 12, unless it is under observation already. -/
def Die.observe (fu : Fused) (e : Nat) (d : Die) : Die :=
  if d.on R.SHD_STATUS_OBSERVED e then d
  else
    let d := ((d.flag R.SHD_STATUS_OBSERVED e true).flag R.SHD_CONTROL_OBSERVE e true).count T.SHD_OBSERVATIONS e
    d.faultRecord fu 12 []

/-- The Sheepdog of engine e. -/
def Die.sheep (d : Die) (e : Nat) : Shd := KMap.get {} d.shd e

/-- Change the Sheepdog of engine e. -/
def Die.onShd (e : Nat) (f : Shd → Shd) (d : Die) : Die := { d with shd := KMap.upd {} d.shd e f }

/-- Two uncorrectable errors of kind 1 or 2 on an engine within 1 s put it under observation (R530). -/
def Die.noteUe (fu : Fused) (e : Nat) (d : Die) : Die :=
  let recent := (d.sheep e).ues.filter (fun t => decide (d.ns - t ≤ 10 ^ 9))
  let d := d.onShd e (fun x => { x with ues := d.ns :: recent })
  if recent.isEmpty then d else d.observe fu e

/-- A correctable error: CE, and a record of kind 1 at most once per 1 ms, kind and engine (R510, R536). -/
def Die.foundCe (fu : Fused) (kind loc : Nat) (tile : Option Nat) (d : Die) : Die :=
  let d := { d.count (T.CHK_CE kind) 0 with ecc := KMap.set 0 d.ecc (eccKey kind loc) 0 }
  let k := kind * 16 + (match tile with | some t => t / 512 | none => 8)
  let last := KMap.get 0 d.ceLast k
  if last ≠ 0 ∧ d.ns < last - 1 + 10 ^ 6 then d
  else
    let d := { d with ceLast := KMap.set 0 d.ceLast k (d.ns + 1) }
    let sy := d.draw
    sy.2.faultRecord fu 1 ([(4, .uint kind)]
      ++ (match tile with | some t => [(5, .uint t), (6, .uint (sy.2.physCol t))] | none => [(5, .uint loc)])
      ++ [(7, .uint (sy.1.toNat % 256))])

/-- An uncorrectable error in a stored data-class word: UE once, the poison pattern, a record of kind 2 or, from the scrubber, 4,
and an incident of cause 4 (R511, R512, R559). -/
def Die.foundUe (fu : Fused) (kind loc rk : Nat) (tile pas : Option Nat) (d : Die) : Die :=
  let k := eccKey kind loc
  let d := d.count (T.CHK_UE kind) 0
  let d := { d with ecc := KMap.set 0 d.ecc k 0, poison := KMap.set false d.poison k true }
  let sy := d.draw
  let d := sy.2.faultRecord fu rk ([(4, .uint kind)]
      ++ (match tile with | some t => [(5, .uint t), (6, .uint (sy.2.physCol t))] | none => [(5, .uint loc)])
      ++ [(7, .uint (sy.1.toNat % 256))] ++ (match pas with | some p => sy.2.pasKeys p | none => []))
  let d := d.incident 4 1 0 (match tile with | some t => t | none => loc % 65536)
  match tile with
  | some t => if kind = 1 ∨ kind = 2 then d.noteUe fu (t / 512) else d
  | none => d

/-- Read a stored data-class word: whether it reads poisoned (R510, R511). -/
def Die.eccRead (fu : Fused) (kind loc : Nat) (tile pas : Option Nat) (d : Die) : Bool × Die :=
  let k := eccKey kind loc
  if KMap.get false d.poison k then (true, d.count T.CHK_POISON_READ 0)
  else match KMap.get 0 d.ecc k with
    | 0 => (false, d)
    | 1 => (false, d.foundCe fu kind loc tile)
    | _ => (true, d.foundUe fu kind loc 2 tile pas)

/-- Read several words; poisoned if any is. -/
def Die.eccReadAll (fu : Fused) (kind : Nat) (tile pas : Option Nat) : List Nat → Die → Bool × Die
  | [], d => (false, d)
  | l :: ls, d =>
    let a := d.eccRead fu kind l tile pas
    let b := Die.eccReadAll fu kind tile pas ls a.2
    (a.1 || b.1, b.2)

/-- Every word with an error key from a up to b is written anew: none has an error (R511). -/
def Die.eccClean (a b : Nat) (d : Die) : Die :=
  let other (k : Nat) : Bool := !(decide (a ≤ k) && decide (k < b))
  { d with ecc := KMap.keep d.ecc other, poison := KMap.keep d.poison other }

/-- A write of a word clears its error and its poison. -/
def Die.eccClear (kind loc : Nat) (d : Die) : Die :=
  { d with ecc := KMap.set 0 d.ecc (eccKey kind loc) 0, poison := KMap.set false d.poison (eccKey kind loc) false }

/-- A poisoned WEIGHT or PARAM beat of a pasture's image makes its poison persistent (R515). -/
def Die.persist (p tile : Nat) (d : Die) : Die :=
  if d.on R.PAS_QUARANTINE_STATUS_PERSISTENT p then d
  else (d.flag R.PAS_QUARANTINE_STATUS_PERSISTENT p true).put R.PAS_QUARANTINE_STATUS_TILE p tile

end Sys2Proof.Machine
end

