-- ==== Sys2Proof/Machine/Larder.lean ====
section
/-! DEFINITION. The Larder (R77 to R101, R288, R222 to R224): lookups, WRITEBACK markers, rebuild, swap, and their commands. -/

namespace Sys2Proof.Machine

/-- The Larder's part of pasture p. -/
def Die.larder (d : Die) (p : Nat) : LarPas := KMap.get {} d.lar p

/-- Change the Larder's part of pasture p. -/
def Die.onLar (p : Nat) (f : LarPas → LarPas) (d : Die) : Die := { d with lar := KMap.upd {} d.lar p f }

/-- The table record of an image. -/
def tableRec (x : Image) (t : Nat) : Option TableImg := x.tables.find? (fun y => y.table == t)

/-- K of a grant (R490); 0 = no Larder. -/
def Die.grantK (d : Die) (p : Nat) : Nat := grantField (d.grant p) 20 1

/-- The two candidate buckets of a key (R79). -/
def bucketPair (key table pasture seed k base : Nat) : Nat × Nat :=
  let h := crc32c (leBytes 4 key ++ leBytes 1 table ++ leBytes 1 pasture ++ leBytes 2 seed)
  let a := h % 2 ^ k
  let b := h / 2 ^ (32 - k)
  (base + a, base + (if b = a then Nat.xor b 1 else b))

/-- Where a way of a bucket of a bank stands. -/
def dirKey (bank bucket way : Nat) : Nat := bank * 2 ^ 21 + bucket * 4 + way

/-- The eight places a key can stand in a bank (R79). -/
def Die.places (d : Die) (p table key bank seed : Nat) : List Nat :=
  let g := d.grant p
  let b := bucketPair key table p seed (d.grantK p) (grantField g 16 4)
  (List.range 4).map (dirKey bank b.1) ++ (List.range 4).map (dirKey bank b.2)

/-- The place that holds a key's valid entry. -/
def Die.dirFind (d : Die) (places : List Nat) (table key : Nat) : Option (Nat × DirEnt) :=
  places.findSome? (fun k => match KMap.get none d.dir k with
    | some e => if e.key = key ∧ e.table = table then some (k, e) else none
    | none => none)

/-- A directory word is written: what it held before, an error or the poison pattern, is gone (R511). -/
def Die.putDir (k : Nat) (v : Option DirEnt) (d : Die) : Die := { d.eccClear 6 k with dir := KMap.set none d.dir k v }

/-- The words of the row of pasture p that a pointer names, in order (R78): those it was given, else the words from the pointer on. -/
def Die.rowAt (d : Die) (p ptr words : Nat) : List Nat :=
  match KMap.get [] (d.larder p).alloc ptr with
  | [] => span ptr (ptr + words)
  | ws => ws.take words

/-- Row words as bytes (R12). -/
def Die.rowBytes (d : Die) (p ptr words : Nat) : List Byte :=
  (d.rowAt p ptr words).flatMap (fun a => leBytes 8 (KMap.get 0 d.rows a).toNat)

/-- Write a row, its last word padded with zeros; a write leaves the words clean. -/
def Die.putRow (p ptr words : Nat) (bs : List Byte) (d : Die) : Die :=
  let ws := (chunk 8 words (padTo (8 * words) bs)).map (fun c => BitVec.ofNat 64 (leNat c))
  ((d.rowAt p ptr words).zip ws).foldl (fun d y => { d.eccClear 5 y.1 with rows := KMap.set 0 d.rows y.1 y.2 }) d

/-- The row words of a pasture's region that rows in use take, in rising order. -/
def Die.usedWords (d : Die) (p : Nat) : List Nat := sortBy (fun a b => decide (a ≤ b)) ((d.larder p).alloc.flatMap (fun x => x.2))

/-- The first words at which n adjacent free row words of a pasture's region begin, after its start or a used word (R92). -/
def Die.freeRuns (d : Die) (p n : Nat) : List Nat :=
  let g := d.grant p
  let lo := grantField g 8 4
  let hi := lo + grantField g 12 4
  let used := d.usedWords p
  let starts := lo :: used.map (· + 1)
  starts.filter (fun a => decide (lo ≤ a) && decide (a + n ≤ hi) && used.all (fun x => decide (x < a) || decide (a + n ≤ x)))

/-- The lowest n numbers, or as many as there are, from lo up to hi - 1 that a rising list does not hold. -/
def freeWords (lo hi : Nat) : List Nat → Nat → List Nat
  | [], n => span lo (min hi (lo + n))
  | u :: us, n =>
    let here := span lo (min (min u hi) (lo + n))
    here ++ freeWords (max lo (u + 1)) hi us (n - here.length)

/-- Take n free row words of pasture p; none where the region has fewer (R93). DESIGN CHOICE (log entries 14 and 35): adjacent words where there are any, which
of them a free value; else the lowest free words. -/
def Die.allocRow (p n : Nat) (d : Die) : Option (Nat × Die) :=
  let fs := d.freeRuns p n
  let v := d.draw
  match fs[v.1.toNat % fs.length]? with
  | some a => some (a, v.2.onLar p (fun x => { x with alloc := KMap.set [] x.alloc a (span a (a + n)) }))
  | none =>
    let g := d.grant p
    let lo := grantField g 8 4
    match freeWords lo (lo + grantField g 12 4) (d.usedWords p) n with
    | a :: ws => if ws.length + 1 = n then some (a, d.onLar p (fun x => { x with alloc := KMap.set [] x.alloc a (a :: ws) })) else none
    | [] => none

/-- The row pointers a bank of pasture p references, default rows of that view included. -/
def Die.refs (d : Die) (p bank : Nat) (defs : KMap Nat) : List Nat :=
  let g := d.grant p
  let base := grantField g 16 4
  let inBank := d.dir.filter (fun x => decide (dirKey bank base 0 ≤ x.1) && decide (x.1 < dirKey bank (base + 2 ^ d.grantK p) 0))
  inBank.filterMap (fun x => x.2.map (fun e => e.ptr)) ++ defs.map (fun x => x.2)

/-- The rows in use that neither bank references. -/
def Die.unreferenced (d : Die) (p : Nat) : List Nat :=
  let x := d.larder p
  let used := d.refs p 0 x.defLive ++ d.refs p 1 x.defShadow
  (x.alloc.map (fun r => r.1)).filter (fun a => !(used.contains a))

/-- The outcome of a lookup. -/
structure Looked where
  row : List Byte
  ptr : Nat
  miss : Bool
  poison : Bool

/-- Read a row with its error check and the hurdle (R85, R492, R509 kind 5). -/
def Die.readRow (fu : Fused) (p ptr words : Nat) (d : Die) : List Byte × Bool × Die :=
  let g := d.grant p
  let lo := grantField g 8 4
  if (d.rowAt p ptr words).any (fun a => decide (a < lo) || decide (lo + grantField g 12 4 ≤ a)) then
    (List.replicate (8 * words) 0, false, d.count (T.OWN_VIOLATION p) 0)
  else
    let r := d.eccReadAll fu 5 none (some p) (d.rowAt p ptr words)
    (d.rowBytes p ptr words, r.1, if r.1 then r.2.count T.LRD_LRD_POISON p else r.2)

/-- A lookup of a key in a table of the live bank (R79, R84, R85; R509 kinds 5 to 7). -/
def Die.lookup (fu : Fused) (p table key : Nat) (d : Die) : Looked × Die :=
  let x := d.larder p
  let words := match d.image p with
    | some im => (match tableRec im table with | some t => t.rowUnits | none => 0)
    | none => 0
  let dflt := KMap.get 0 x.defLive table
  let ds := d.eccRead fu 7 (p * 8 + table) none (some p)
  let d := ds.2
  if ds.1 then
    (⟨d.rowBytes p dflt words, dflt, true, true⟩, d.count T.LRD_LRD_POISON p)
  else
    let pl := d.places p table key x.live x.liveSeed
    let ek := d.eccReadAll fu 6 none (some p) pl
    if ek.1 then
      let r := ek.2.readRow fu p dflt words
      (⟨r.1, dflt, true, true⟩, if r.2.1 then r.2.2 else r.2.2.count T.LRD_LRD_POISON p)
    else match ek.2.dirFind pl table key with
      | some (_, e) =>
        let r := ek.2.readRow fu p e.ptr words
        (⟨r.1, e.ptr, false, r.2.1⟩, r.2.2)
      | none =>
        let r := ek.2.readRow fu p dflt words
        (⟨r.1, dflt, true, r.2.1⟩, r.2.2.count (T.LRD_MISS table) p)

/-- The first record looked up in a bank just swapped in: the SWAP packet (R550, TYPE 5; R95). -/
def Die.swapPacket (p evid : Nat) (d : Die) : Die :=
  let x := d.larder p
  if x.swapNew then
    let d := d.onLar p (fun y => { y with swapNew := false })
    let now := d.fc
    let d := { d with fc := x.swapFc }.trace ⟨5, true, 1, 0, some p, leBytes 6 evid ++ leBytes 2 x.live ++ leBytes 2 x.liveSeed⟩
    { d with fc := now }
  else d

/-- LARDER_LOOKUP (R86, R88, R89): the oldest record of a feed begins its key-hash stage, unless a marker holds it. DESIGN CHOICE (log entry 129): a record
that waits for a marker stays at the head of its feed, so later records of that feed, of whatever key, wait behind it. -/
def Die.larderLookup (fu : Fused) (g p : Nat) (d : Die) : Die :=
  let k := g * 64 + p
  match KMap.get [] d.feeds k with
  | [] => d
  | r :: rest =>
    let pop (d : Die) : Die := { d with feeds := KMap.set [] d.feeds k rest }
    let push (e : Ev) (d : Die) : Die := { d with looked := KMap.upd [] d.looked p (· ++ [e]) }
    match r.table with
    | none =>
      let rd := d.eccRead fu 12 (4096 + k) none (some p)
      push { er := r, poison := r.poison || rd.1 } (pop rd.2)
    | some t =>
      let wb := match d.image p with
        | some im => (match tableRec im t with | some y => y.writeback && y.state | none => false)
        | none => false
      if wb && (d.larder p).markers.any (fun m => m.1 == t && m.2.1 == r.key) then
        if r.waited then d
        else ({ d with feeds := KMap.set [] d.feeds k ({ r with waited := true } :: rest) }).count T.LRD_WRITEBACK_WAIT p
      else
        let rd := d.eccRead fu 12 (4096 + k) none (some p)
        let tk := (rd.2.pasture p).ticket + 1
        let d := (pop rd.2).onPas p (fun q => { q with ticket := tk })
        let d := if wb then d.onLar p (fun y => { y with markers := (t, r.key, tk) :: y.markers }) else d
        let d := d.swapPacket p r.evid
        let l := d.lookup fu p t r.key
        let d := l.2.stage 1 0 p r.evid 0 2
        push { er := r, table := some t, row := l.1.row, rowPtr := l.1.ptr, miss := l.1.miss, poison := r.poison || rd.1 || l.1.poison
               ticket := tk, marker := wb } d

/-- LARDER_LOOKUP. -/
def execLarderLookup (g p : Nat) (s : State) : Host.Outcome State Fault Refusal :=
  dieCmd (decide (g < 81) && decide (p < 64)) (fun s => s.die.larderLookup s.fused g p) s

/-- A WRITEBACK marker clears (R88). Beside R88's three points it clears wherever its event ends otherwise. DESIGN CHOICE (log entry 127): at ENTRY_DROP, at the
drops of a WITHDRAW, a stall or a fault reset, and where the record is taken as a label. -/
def Die.clearMarker (p ticket : Nat) (d : Die) : Die :=
  d.onLar p (fun y => { y with markers := y.markers.filter (fun m => m.2.2 != ticket) })

/-- A STOREK write (R86, R99, R222 to R224): row of table t at the pointer the event's lookup read. `bs` is the row, `bad` a
poisoned beat among it. -/
def Die.storek (e : Ev) (p t : Nat) (bs : List Byte) (bad : Bool) (d : Die) : Die :=
  let words := match d.image p with
    | some im => (match tableRec im t with | some y => y.rowUnits | none => 0)
    | none => 0
  let x := d.larder p
  let d1 := if e.marker ∧ e.table = some t then d.clearMarker p e.ticket else d
  if e.table ≠ some t ∨ e.miss then d1.count T.LRD_STOREK_MISS p
  else
    let cur := d.dirFind (d.places p t e.er.key x.live x.liveSeed) t e.er.key
    if cur.map (fun y => y.2.ptr) ≠ some e.rowPtr then d1.count T.LRD_STALE_WRITE p
    else
      let g := d.grant p
      let lo := grantField g 8 4
      let ws := d.rowAt p e.rowPtr words
      if ws.any (fun a => decide (a < lo) || decide (lo + grantField g 12 4 ≤ a)) then d1.count (T.OWN_VIOLATION p) 0
      else if bad then
        let d2 := d1.putRow p e.rowPtr words []
        let d2 := ws.foldl (fun d a => { d with poison := KMap.set false d.poison (eccKey 5 a) true }) d2
        (d2.count T.LRD_STOREK_POISON p).consumePoison p
      else if ws.any (fun a => KMap.get false d.poison (eccKey 5 a)) then
        d1.count T.LRD_STOREK_POISON p
      else d1.putRow p e.rowPtr words (bs.take (8 * words))

/-- STATE of LRD_STATUS (R100). -/
def Die.lrdState (d : Die) (p : Nat) : Nat := d.get R.LRD_STATUS_STATE p

/-- Discard the shadow bank of pasture p: its rows that the live bank does not share are free again. -/
def Die.discardShadow (p : Nat) (d : Die) : Die :=
  let x := d.larder p
  let g := d.grant p
  let base := grantField g 16 4
  let sh := 1 - x.live
  let d := { d with dir := KMap.keep d.dir (fun k =>
    !(decide (dirKey sh base 0 ≤ k) && decide (k < dirKey sh (base + 2 ^ d.grantK p) 0))) }
  let used := d.refs p x.live x.defLive
  d.onLar p (fun y => { y with defShadow := y.defLive, alloc := KMap.keep y.alloc (fun a => used.contains a || y.freeing.contains a) })

/-- The words of a bank in the region of pasture p, by their place in it. -/
def Die.bankWord (d : Die) (p bank k : Nat) : Bool :=
  let base := grantField (d.grant p) 16 4
  decide (dirKey bank base 0 ≤ k) && decide (k < dirKey bank (base + 2 ^ d.grantK p) 0)

/-- Every directory word of a bank is written as empty: errors and poison patterns there are gone (R91, R511). -/
def Die.cleanBank (p bank : Nat) (d : Die) : Die :=
  let mine (k : Nat) : Bool := k / 2 ^ 40 == 6 && d.bankWord p bank (k % 2 ^ 40)
  { d with dir := KMap.keep d.dir (fun k => !(d.bankWord p bank k)), ecc := KMap.keep d.ecc (fun k => !mine k), poison := KMap.keep d.poison (fun k => !mine k) }

/-- CLONE (R91): the live bank's words are read and written into the shadow bank; a word that reads poisoned is copied as the poison pattern (R511). -/
def Die.cloneBank (fu : Fused) (p : Nat) (d : Die) : Die :=
  let x := d.larder p
  let there (k : Nat) : Nat := k % 2 ^ 21 + (1 - x.live) * 2 ^ 21
  let bad : List Nat := (d.ecc.map (fun (y : Nat × Nat) => y.1) ++ d.poison.map (fun (y : Nat × Bool) => y.1)).filter (fun k => k / 2 ^ 40 == 6 && d.bankWord p x.live (k % 2 ^ 40))
  let keys : List Nat := ((d.dir.map (fun (y : Nat × Option DirEnt) => y.1)).filter (d.bankWord p x.live) ++ bad.map (· % 2 ^ 40)).eraseDups
  keys.foldl (fun d k =>
    let r := d.eccRead fu 6 k none (some p)
    let d := r.2.putDir (there k) (KMap.get none r.2.dir k)
    if r.1 then { d with poison := KMap.set false d.poison (eccKey 6 (there k)) true } else d) d

/-- The admitted image of pasture p; none while a first admission still loads (R31, R90, R94). -/
def Die.admittedImage (d : Die) (p : Nat) : Option Image := if (d.pasture p).adm then d.image p else none

/-- REBUILD_START (R91, R94). DESIGN CHOICE (log entry 133): a START refused for want of an image, table or region sets STATE to 0 also where a rebuild
kept over a WITHDRAW stood at 1 or 2, and leaves that shadow bank where it is. -/
def Die.rebuildStart (fu : Fused) (p : Nat) (d : Die) : Die :=
  let st := d.lrdState p
  if st = 3 then d.count T.LRD_RB_BAD p
  else
    let ok := match d.admittedImage p with | some im => !im.tables.isEmpty | none => false
    if !ok || d.grantK p == 0 then (d.put R.LRD_STATUS_STATE p 0).count T.LRD_RB_BAD p
    else
      let d := (d.discardShadow p).cleanBank p (1 - (d.larder p).live)
      let d := if d.get R.LRD_REBUILD_MODE p = 0 then (d.cloneBank fu p).onLar p (fun y => { y with shadowSeed := y.liveSeed })
        else d.onLar p (fun y => { y with shadowSeed := d.get R.LRD_REBUILD_SEED p })
      ((((d.put R.LRD_STATUS_STATE p 1).put R.LRD_STATUS_REFUSED p 0).put R.LRD_STATUS_KEY_KEY p 0)).put R.LRD_STATUS_TABLE_TABLE p 0

/-- REBUILD_ABORT (R98): discard the shadow bank, cancel a pending swap. -/
def Die.rebuildAbort (p : Nat) (d : Die) : Die := (d.discardShadow p).put R.LRD_STATUS_STATE p 0

/-- A write of LRD_REBUILD (R100): fields, then START or ABORT. -/
def lrdRebuildW (fu : Fused) (p w : Nat) (d : Die) : Die :=
  let d := d.setFields .LRD p 0x010 w
  match lowestWo w [2, 3] with
  | some 2 => d.rebuildStart fu p
  | some _ => d.rebuildAbort p
  | none => d

/-- REBUILD_START. -/
def execRebuildStart (src : Source) (p : Nat) (w : Word) (s : State) : Host.Outcome State Fault Refusal :=
  dieCmd (decide (p < 64)) (fun s => writeDie src (blockAddr .LRD p 0x010) (lrdRebuildW s.fused p w.toNat) s) s

/-- REBUILD_ABORT. -/
def execRebuildAbort (src : Source) (p : Nat) (w : Word) (s : State) : Host.Outcome State Fault Refusal :=
  dieCmd (decide (p < 64)) (fun s => writeDie src (blockAddr .LRD p 0x010) (lrdRebuildW s.fused p w.toNat) s) s

/-- A rebuild record at the ring's tail (R90). -/
structure RbRec where
  op : Nat
  table : Nat
  len : Nat
  key : Nat
  data : List Byte
  units : Nat
  fits : Bool

/-- The record at the tail, once its head is in the ring; none while nothing can be read (R614). -/
def Die.rbHead (d : Die) (p : Nat) : Option RbRec :=
  let tail := d.get R.LRD_RING_TAIL_VALUE p
  let fill := (d.get R.LRD_RING_HEAD_VALUE p + 2 ^ 32 - tail) % 2 ^ 32
  let size := 2 ^ d.get R.LRD_RING_CTL_LOG2SIZE p
  if d.lrdState p ≠ 1 ∨ !(d.on R.LRD_RING_CTL_ENABLE p) ∨ d.on R.LRD_STATUS_RB_HALTED p ∨ fill < 1 then none
  else
    let base := d.addr64 R.LRD_RING_BASE_LO R.LRD_RING_BASE_HI p
    let h := d.ringBytes (vfFn p) base size 8 tail 16
    let len := leNat (slice h 2 2)
    let units := 2 + cdiv len 8
    if units ≤ size ∧ fill < units then none
    else
      some { op := (byteAt h 0).toNat, table := (byteAt h 1).toNat, len := len, key := leNat (slice h 4 4)
             data := (d.ringBytes (vfFn p) base size 8 tail (16 + len)).drop 16, units := units, fits := decide (units ≤ size) }

/-- The record's units are consumed. -/
def Die.rbPop (p units : Nat) (d : Die) : Die := d.put R.LRD_RING_TAIL_VALUE p (d.get R.LRD_RING_TAIL_VALUE p + units)

/-- The declared table of a record. -/
def Die.rbTable (d : Die) (p : Nat) (r : RbRec) : Option TableImg :=
  match d.admittedImage p with | some im => tableRec im r.table | none => none

/-- A record is one the device skips (R90). -/
def Die.rbSkips (d : Die) (p : Nat) (r : RbRec) : Bool :=
  match r.op with
  | 1 | 3 => (match d.rbTable p r with | none => true | some t => r.len != 8 * t.rowUnits)
  | 2 => (d.rbTable p r).isNone || r.len != 0
  | 4 => r.len != 0
  | _ => true

/-- A PUT refused (R93): the first of a rebuild is recorded. -/
def Die.insertRefuse (p : Nat) (r : RbRec) (d : Die) : Die :=
  let d := d.count T.LRD_INSERT_REFUSE p
  if d.on R.LRD_STATUS_REFUSED p then d
  else ((d.flag R.LRD_STATUS_REFUSED p true).put R.LRD_STATUS_KEY_KEY p r.key).put R.LRD_STATUS_TABLE_TABLE p r.table

/-- PUT (R92, R93). DESIGN CHOICE: the entry takes the first empty place of the first candidate bucket, then of the second (log entry 130); the words of
a shadow row that it supersedes stay in use until the swap's ROW_FREE or a discard (log entry 132). -/
def Die.rbPut (p : Nat) (r : RbRec) (d : Die) : Die :=
  match d.rbTable p r with
  | none => d
  | some t =>
    let x := d.larder p
    let pl := d.places p r.table r.key (1 - x.live) x.shadowSeed
    let spot := match d.dirFind pl r.table r.key with
      | some (k, _) => some k
      | none => pl.find? (fun k => (KMap.get none d.dir k).isNone)
    match spot, d.allocRow p t.rowUnits with
    | some k, some (a, d1) =>
      (d1.putRow p a t.rowUnits r.data).putDir k (some ⟨r.key, r.table, a⟩)
    | _, _ => d.insertRefuse p r

/-- DELETE (R92). -/
def Die.rbDelete (p : Nat) (r : RbRec) (d : Die) : Die :=
  let x := d.larder p
  match d.dirFind (d.places p r.table r.key (1 - x.live) x.shadowSeed) r.table r.key with
  | some (k, _) => d.putDir k none
  | none => d

/-- DEFAULT (R91, R92): the new default row serves from the swap on. DESIGN CHOICE (log entry 131): one that finds too few free row words does nothing and
counts nothing. -/
def Die.rbDefault (p : Nat) (r : RbRec) (d : Die) : Die :=
  match d.rbTable p r with
  | none => d
  | some t =>
    match d.allocRow p t.rowUnits with
    | none => d
    | some (a, d1) => (d1.putRow p a t.rowUnits r.data).onLar p (fun y => { y with defShadow := KMap.set 0 y.defShadow r.table a })

/-- A rebuild command: the record at the ring's tail is one that `sel` takes, and `f` acts on it; its units are consumed. -/
def rbCmd (p : Nat) (sel : Die → RbRec → Bool) (f : RbRec → Die → Die) (s : State) : Host.Outcome State Fault Refusal :=
  dieCmd (decide (p < 64)) (fun s =>
    match s.die.rbHead p with
    | some r => if sel s.die r then f r s.die else s.die
    | none => s.die) s

/-- PUT. -/
def execRbPut (p : Nat) (s : State) : Host.Outcome State Fault Refusal :=
  rbCmd p (fun d r => r.fits && r.op == 1 && !(d.rbSkips p r)) (fun r d => (d.rbPut p r).rbPop p r.units) s

/-- DELETE. -/
def execRbDelete (p : Nat) (s : State) : Host.Outcome State Fault Refusal :=
  rbCmd p (fun d r => r.fits && r.op == 2 && !(d.rbSkips p r)) (fun r d => (d.rbDelete p r).rbPop p r.units) s

/-- DEFAULT. -/
def execRbDefault (p : Nat) (s : State) : Host.Outcome State Fault Refusal :=
  rbCmd p (fun d r => r.fits && r.op == 3 && !(d.rbSkips p r)) (fun r d => (d.rbDefault p r).rbPop p r.units) s

/-- END (R94, R614): the shadow bank is ready. -/
def execRbEnd (p : Nat) (s : State) : Host.Outcome State Fault Refusal :=
  rbCmd p (fun d r => r.fits && r.op == 4 && !(d.rbSkips p r)) (fun r d => (d.rbPop p r.units).put R.LRD_STATUS_STATE p 2) s

/-- RB_HALT (R90): a record longer than the ring. -/
def execRbHalt (p : Nat) (s : State) : Host.Outcome State Fault Refusal :=
  rbCmd p (fun _ r => !r.fits) (fun _ d => (d.flag R.LRD_STATUS_RB_HALTED p true).count T.LRD_RB_BAD p) s

/-- REBUILD_RECORD_SKIP (R90). -/
def execRebuildRecordSkip (p : Nat) (s : State) : Host.Outcome State Fault Refusal :=
  rbCmd p (fun d r => r.fits && d.rbSkips p r) (fun r d => (d.rbPop p r.units).count T.LRD_RB_BAD p) s

/-- Exchange the banks (R95): the shadow bank of every table is live; the words the new live bank does not reference await ROW_FREE (R99). DESIGN CHOICE (log
entry 134): REFUSED, LRD_STATUS_KEY and LRD_STATUS_TABLE keep what the rebuild left, here and at an ABORT, until the next START. -/
def Die.swapBanks (p : Nat) (d : Die) : Die :=
  let x := d.larder p
  let nl := 1 - x.live
  let used := d.refs p nl x.defShadow
  let gone := (x.alloc.map (fun r => r.1)).filter (fun a => !(used.contains a))
  let d := d.onLar p (fun y => { y with live := nl, liveSeed := x.shadowSeed, shadowSeed := x.liveSeed, defLive := x.defShadow
                                        defShadow := x.defShadow, freeing := gone, swapNew := true, swapFc := d.fc })
  let d := (List.range 8).foldl (fun d t => d.eccClear 7 (p * 8 + t)) d
  ((d.put R.LRD_STATUS_STATE p 0).put R.LRD_STATUS_LIVE p nl).put R.LRD_STATUS_LIVE_SEED p x.shadowSeed

/-- The checks of R97 at a swap request. -/
def Die.swapOk (d : Die) (p : Nat) : Bool :=
  let st := d.lrdState p
  (st == 2 || st == 3) && (!(d.on R.LRD_STATUS_REFUSED p) || d.on R.LRD_SWAP_FORCE p)

/-- GO (R96 to R98): the swap takes effect at the next cc, here at once. -/
def Die.swapGo (p : Nat) (d : Die) : Die :=
  if d.swapOk p then d.swapBanks p else d.count T.LRD_SWAP_REFUSE p

/-- AT (R96 to R98): pending at the FC latched now, or at once if that is reached; refused, its FC is cleared. -/
def Die.swapAt (p : Nat) (d : Die) : Die :=
  if d.swapOk p then
    let at_ := d.pair64 R.LRD_SWAP_FC_LO R.LRD_SWAP_FC_HI p
    if 0 ≤ sdiff 64 d.fc at_ then d.swapBanks p
    else (d.onLar p (fun y => { y with swapAt := at_ })).put R.LRD_STATUS_STATE p 3
  else (d.putPair R.LRD_SWAP_FC_LO R.LRD_SWAP_FC_HI p 0).count T.LRD_SWAP_REFUSE p

/-- A write of LRD_SWAP (R100): FORCE, then GO or AT. -/
def lrdSwapW (p w : Nat) (d : Die) : Die :=
  let d := d.setFields .LRD p 0x014 w
  match lowestWo w [0, 1] with
  | some 0 => d.swapGo p
  | some _ => d.swapAt p
  | none => d

/-- LRD_SWAP_GO. -/
def execLrdSwapGo (src : Source) (p : Nat) (w : Word) (s : State) : Host.Outcome State Fault Refusal :=
  dieCmd (decide (p < 64)) (writeDie src (blockAddr .LRD p 0x014) (lrdSwapW p w.toNat)) s

/-- LRD_SWAP_AT. -/
def execLrdSwapAt (src : Source) (p : Nat) (w : Word) (s : State) : Host.Outcome State Fault Refusal :=
  dieCmd (decide (p < 64)) (writeDie src (blockAddr .LRD p 0x014) (lrdSwapW p w.toNat)) s

/-- SWAP_AT_FC (R95, R96): a pending swap whose FC is reached. -/
def execSwapAtFc (p : Nat) (s : State) : Host.Outcome State Fault Refusal :=
  dieCmd (decide (p < 64)) (fun s =>
    if s.die.lrdState p = 3 ∧ 0 ≤ sdiff 64 s.die.fc (s.die.larder p).swapAt then s.die.swapBanks p else s.die) s

/-- ROW_FREE (R99): the words of rows the live bank no longer references are free, and the old bank's entries are gone. -/
def Die.rowFree (p : Nat) (d : Die) : Die :=
  let x := d.larder p
  if x.freeing.isEmpty then d
  else
    let keepRefs := d.refs p x.live x.defLive
    let d := d.onLar p (fun y => { y with alloc := KMap.keep y.alloc (fun a => !(x.freeing.contains a) || keepRefs.contains a), freeing := [] })
    let base := grantField (d.grant p) 16 4
    let sh := 1 - x.live
    if d.lrdState p = 0 then
      { d with dir := KMap.keep d.dir (fun k => !(decide (dirKey sh base 0 ≤ k) && decide (k < dirKey sh (base + 2 ^ d.grantK p) 0))) }
    else d

/-- ROW_FREE. -/
def execRowFree (p : Nat) (s : State) : Host.Outcome State Fault Refusal := dieCmd (decide (p < 64)) (fun s => s.die.rowFree p) s

/-- Clear a pasture's Larder (R491): every table, row, default row and directory entry, a rebuild and a pending swap. -/
def Die.clearLarder (p : Nat) (d : Die) : Die :=
  let g := d.grant p
  let lo := grantField g 8 4
  let hi := lo + grantField g 12 4
  let base := grantField g 16 4
  let k := d.grantK p
  let inDir (x : Nat) : Bool := k != 0 && (decide (base * 4 ≤ x % 2 ^ 21) && decide (x % 2 ^ 21 < (base + 2 ^ k) * 4))
  let inRow (x : Nat) : Bool := decide (lo ≤ x) && decide (x < hi)
  let d := { d with rows := KMap.keep d.rows (fun x => !inRow x), dir := KMap.keep d.dir (fun x => !inDir x)
                    poison := KMap.keep d.poison (fun x => !((x / 2 ^ 40 == 5 && inRow (x % 2 ^ 40)) || (x / 2 ^ 40 == 6 && inDir (x % 2 ^ 40))))
                    ecc := KMap.keep d.ecc (fun x => !((x / 2 ^ 40 == 5 && inRow (x % 2 ^ 40)) || (x / 2 ^ 40 == 6 && inDir (x % 2 ^ 40))))
                    lar := KMap.set {} d.lar p {} }
  ((((d.put R.LRD_STATUS_STATE p 0).put R.LRD_STATUS_LIVE p 0).put R.LRD_STATUS_REFUSED p 0).put R.LRD_STATUS_LIVE_SEED p 0)

end Sys2Proof.Machine
end

