-- ==== Sys2Proof/Machine/Operands.lean ====
section
/-! DEFINITION. The operand forms of a tile operation word (R176 to R179, R202): its fields, the queues it consumes and fills
(R181, R204), and the refusals of a word that depend on the word alone (R177, R187 to R200, R207 to R232, R290). -/

namespace Sys2Proof.Machine

/-- Opcode (R176). -/
def opc (w : Nat) : Nat := bits w 58 6
/-- Fold context. -/
def opCtx (w : Nat) : Nat := bits w 55 3
/-- RETIRE mark. -/
def opRet (w : Nat) : Bool := bit w 54
/-- First source queue. -/
def opQa (w : Nat) : Nat := bits w 50 4
/-- Second source queue. -/
def opQb (w : Nat) : Nat := bits w 46 4
/-- Destination queue. -/
def opQd (w : Nat) : Nat := bits w 42 4
/-- Field [hi:lo] of the operation. -/
def fld (w hi lo : Nat) : Nat := bits w lo (hi + 1 - lo)

/-- Unit of an opcode (R102, R202): 0 expansion, 1 MAC, 2 scale, 3 vector, 4 move, 5 control. -/
def opUnit (c : Nat) : Nat :=
  if c = 4 then 0
  else if c = 1 ∨ c = 2 ∨ c = 3 then 1
  else if c = 5 ∨ c = 6 then 2
  else if 7 ≤ c ∧ c ≤ 20 then 3
  else if (21 ≤ c ∧ c ≤ 29) ∨ c = 32 then 4
  else 5

/-- Class width of a pair of formats (R161). -/
def pairWidth (fw fa : Nat) : Nat := max (fmtWidth fw) (fmtWidth fa)

/-- Inputs per output per pass, outputs per pass and MACs per ec of a class (R161). -/
def classN (cw : Nat) : Nat := if cw = 1 then 256 else if cw = 2 then 128 else if cw = 4 then 64 else 32
/-- Outputs per pass. -/
def classO (cw : Nat) : Nat := if cw = 1 then 16 else if cw = 2 then 8 else if cw = 4 then 4 else 2
/-- MACs per ec. -/
def classM (cw : Nat) : Nat := classN cw * classO cw

/-- Beats of a weight slice (R186). -/
def sliceBeats (fw fa : Nat) : Nat :=
  let cw := pairWidth fw fa
  max 1 (classO cw * classN cw * fmtWidth fw / 256)

/-- G of a GSEL field. -/
def gOf (w : Nat) : Nat := 32 * 2 ^ fld w 26 25

/-- Records of a DOT or DOTA. -/
def dotRecords (w : Nat) : Nat :=
  (fld w 33 30 + 1) * classN (pairWidth (fld w 41 38) (fld w 37 34)) / gOf w * (fld w 14 10 + 1)

/-- Element width of a GATHER or SCATTER. -/
def ewOf (w : Nat) : Nat := 2 ^ fld w 41 39

/-- What an operation consumes and produces: queues read with the beats of each, and (context, queue, beats) written (R181,
R204). -/
structure Shape where
  ins : List (Nat × Nat) := []
  outs : List (Nat × Nat × Nat) := []

/-- Local queues a mask names. -/
def lqs (m : Nat) : List Nat := (bitsOf m 4).map (· + 4)

/-- Queues the mask of a BCAST names (R209). -/
def bcastQs (m : Nat) : List Nat := lqs m ++ (if bit m 4 then [8] else []) ++ (if bit m 5 then [9] else [])

/-- The shape of an operation word. -/
def shapeOf (w : Nat) : Shape :=
  let c := opCtx w
  let a := opQa w
  let b := opQb w
  let o (n : Nat) : List (Nat × Nat × Nat) := [(c, opQd w, n)]
  let nb := fld w 41 39 + 1
  match opc w with
  | 1 => ⟨[], o (cdiv (dotRecords w) 4)⟩
  | 2 => ⟨[(a, 1)], o (cdiv (dotRecords w) 4)⟩
  | 3 => ⟨[(a, 1)], o (cdiv (fld w 15 11 + 1) 4)⟩
  | 4 => ⟨[(a, fld w 37 36 + 1)], []⟩
  | 5 => let n := cdiv (fld w 41 37 + 1) 4; ⟨[(a, n)], o n⟩
  | 6 => ⟨[(a, fld w 24 21), (b, fld w 20 17)], o 1⟩
  | 7 | 8 => ⟨[(a, 1)], o 1⟩
  | 9 | 10 => ⟨[(a, nb)], o nb⟩
  | 11 | 12 | 13 | 14 | 15 => ⟨[(a, nb)] ++ (if fld w 38 37 = 0 then [(b, nb)] else []), o nb⟩
  | 16 => ⟨[(a, nb), (b, nb)], o nb⟩
  | 17 => ⟨[(a, nb)], o nb⟩
  | 18 | 19 => ⟨[(a, nb)], o 1⟩
  | 20 => ⟨[(a, 1)] ++ (if bit w 26 then [(b, 1)] else []), o 1⟩
  | 21 => if fld w 38 37 = 2 then ⟨[(a, 1)], o nb⟩ else if fld w 38 37 = 1 then ⟨[(a, nb)], []⟩ else ⟨[(a, nb)], o nb⟩
  | 22 => ⟨[(a, nb)], (bcastQs (fld w 38 33)).map (fun q => (c, q, nb))⟩
  | 23 => ⟨[(a, fld w 38 36 + 1), (b, fld w 35 32)], o (fld w 31 29 + 1)⟩
  | 24 => ⟨[(a, fld w 38 36 + 1)], []⟩
  | 25 => ⟨[(a, 1)], (lqs (fld w 22 19)).map (fun q => (c, q, 1))⟩
  | 26 => ⟨[(a, nb)], o 1⟩
  | 27 => ⟨[(a, fld w 37 35 + 1)], o (cdiv (fld w 34 29 + 1) 8)⟩
  | 28 => ⟨[(a, 1)], o (fld w 34 32 + 1)⟩
  | 29 => ⟨[(a, fld w 38 36 + 1)], []⟩
  | 30 => let n := fld w 38 36 + 1; ⟨[(a, n)], [(nb - 1, opQd w, n)]⟩
  | 31 => let n := fld w 38 36 + 1; ⟨[(a, n)] ++ (if fld w 41 40 = 0 then [(b, 1)] else []), o n⟩
  | 32 => ⟨[(a, 1)], o 1⟩
  | 33 => let n := fld w 39 37 + 1; ⟨[(a, n)], if bit w 36 then o n else []⟩
  | 34 => ⟨[(a, 1)], if bit w 25 then o 1 else []⟩
  | 35 => ⟨[(a, 1)], []⟩
  | _ => {}

/-- Whether an operation uses QA, QB and QD (R177). -/
def usesA (w : Nat) : Bool := opc w != 0 && opc w != 1 && decide (opc w ≤ 35)
/-- QB used. -/
def usesB (w : Nat) : Bool :=
  match opc w with
  | 6 => fld w 20 17 != 0
  | 16 => true
  | 23 => fld w 35 32 != 0
  | 11 | 12 | 13 | 14 | 15 => fld w 38 37 == 0
  | 20 => bit w 26
  | 31 => fld w 41 40 == 0
  | _ => false
/-- QD used. -/
def usesD (w : Nat) : Bool :=
  match opc w with
  | 0 | 4 | 22 | 24 | 25 | 29 | 35 => false
  | 21 => fld w 38 37 != 1
  | 33 => bit w 36
  | 34 => bit w 25
  | c => decide (c ≤ 35)

/-- The pairings of R161. -/
def pairOk (fw fa : Nat) : Bool :=
  if fw = 0 ∨ fa = 0 then fw == 0 && fa == 0
  else decide (fw ≤ 9) && decide (fa ≤ 9) && fa != 3 && fa != 6

/-- Formats whose expanded exponents are all 0, codebooks apart (R165). -/
def fmtInt (f : Nat) : Bool := f == 0 || f == 1 || f == 2 || f == 4 || f == 7

/-- Output formats of RQ and input formats of UNPACK (R192, R213). -/
def rqFmt (f : Nat) : Bool := decide (f ≤ 9) && f != 3 && f != 6

/-- Bits of the operation fields that its layout marks zero (R177). -/
def zeroMask (w : Nat) : Nat :=
  match opc w with
  | 0 => 2 ^ 34 - 1
  | 1 => 2 ^ 10 - 1
  | 2 => 2 ^ 5 - 1
  | 3 => 7
  | 4 => 2 ^ 32 - 1
  | 5 => 2 ^ 6 - 1
  | 6 => 2 ^ 6 - 1 + (if bit w 6 then 2 ^ 17 - 2 ^ 7 else 0)
  | 7 => 2 ^ 20 - 1
  | 8 => 2 ^ 12 - 1
  | 9 => 2 ^ 34 - 2 ^ 32 + (2 ^ 39 - 2 ^ 37) + (2 ^ 37 - 2 ^ 34)
  | 10 | 11 | 12 | 13 | 14 | 16 => 2 ^ 34 - 2 ^ 32 + (2 ^ 37 - 2 ^ 34) + (if fld w 38 37 = 1 then 2 ^ 32 - 2 ^ 10 else if fld w 38 37 = 2 then 0 else 2 ^ 32 - 1)
  | 15 | 17 => 2 ^ 34 - 2 ^ 32 + (if fld w 38 37 = 1 then 2 ^ 32 - 2 ^ 10 else if fld w 38 37 = 2 then 0 else 2 ^ 32 - 1)
  | 18 => 2 ^ 39 - 1
  | 19 => 2 ^ 17 - 1
  | 20 => 2 ^ 5 - 1 + (if bit w 26 then 2 ^ 16 - 2 ^ 5 else 0)
  | 21 => 2 ^ 27 - 1 + (if fld w 38 37 = 0 then 2 ^ 37 - 2 ^ 27 else 0)
  | 22 => 2 ^ 33 - 1
  | 23 => 2 ^ 19 - 1
  | 24 => 2 ^ 11 - 1
  | 25 => 2 ^ 19 - 1
  | 26 => 2 ^ 39 - 1
  | 27 => 2 ^ 10 - 1
  | 28 => 2 ^ 27 - 1 + (if bit w 38 then 0 else 2 ^ 38 - 2 ^ 35)
  | 29 | 30 => 2 ^ 36 - 1
  | 31 => 2 ^ 36 - 1 + (if fld w 41 40 = 0 then 2 ^ 39 else 0)
  | 32 => 2 ^ 9 - 1 + (if bit w 35 then 0 else 2 ^ 35 - 2 ^ 23) + (if bit w 36 then 0 else 2 ^ 23 - 2 ^ 9)
  | 33 => 2 ^ 32 - 1
  | 34 => 2 ^ 25 - 1
  | 35 => 2 ^ 39 - 1
  | _ => 0

/-- A field value that the definition of the operation refuses (R187 to R232), as far as the word alone shows it. -/
def fieldRefused (F w : Nat) : Bool :=
  let nb := fld w 41 39 + 1
  let bs := fld w 38 37
  match opc w with
  | 1 | 2 =>
    let fw := fld w 41 38
    let fa := fld w 37 34
    let K := (fld w 33 30 + 1) * classN (pairWidth fw fa)
    if !(pairOk fw fa) then fld w 26 25 == 3 || (opc w == 1 && decide (3 < fld w 29 27)) || (fld w 24 15 == 0 && (fw == 3 || fw == 6))
    else fld w 26 25 == 3 || K % gOf w != 0 || decide (classO (pairWidth fw fa) < fld w 14 10 + 1)
      || (opc w == 1 && decide (4 < fld w 29 27 + cdiv K (epb fa))) || (opc w == 1 && decide (3 < fld w 29 27))
      || fld w 24 15 % sliceBeats fw fa != 0 || (fld w 24 15 == 0 && (fw == 3 || fw == 6))
      || decide (4 * (8 / F) < dotRecords w)
  | 3 =>
    (decide (fld w 37 34 ≤ 11) && decide (epb (fld w 37 34) < fld w 10 3 + (fld w 15 11 + 1))) || (fld w 25 16 == 0 && (fld w 41 38 == 3 || fld w 41 38 == 6))
  | 4 =>
    let f := fld w 41 38
    f == 3 || f == 6 || f == 10 || f == 11 || decide (4 < fld w 35 34 + (fld w 37 36 + 1))
  | 5 => (fld w 41 37 + 1) % (fld w 36 32 + 1) != 0
  | 6 =>
    let n := fld w 41 36 + 1
    let t := 4 * (fld w 24 21 + fld w 20 17)
    n % (fld w 35 33 + 1) != 0 || decide (t < n) || decide (n + 3 < t) || fld w 24 21 == 0 || decide (8 < fld w 24 21)
      || decide (8 < fld w 20 17)
  | 7 => !(rqFmt (fld w 41 38)) || decide (epb (fld w 41 38) < fld w 37 30 + 8)
  | 8 =>
    let fi := fld w 41 38
    let fo := fld w 37 34
    let n := fld w 32 28 + 1
    let bad (f : Nat) : Bool := decide (f ≤ 11) && !(rqFmt f)
    bad fi || bad fo || (decide (fi ≤ 11) && decide (epb fi < fld w 27 20 + n)) || (decide (fo ≤ 11) && decide (epb fo < fld w 19 12 + n))
  | 10 => bs == 0 || bs == 3
  | 11 | 12 | 13 | 14 => bs == 3
  | 15 => bs == 3 || decide (6 ≤ fld w 36 34)
  | 16 => bs == 0 || bs == 3
  | 17 =>
    match fld w 36 34 with
    | 0 => bs != 1
    | 1 => bs != 2 || bit w 31 || !([1, 2, 4, 8].contains nb)
    | _ => true
  | 19 => decide (32 < fld w 21 17 + (fld w 38 35 + 1))
  | 20 => decide (8 < fld w 34 32 + 1)
  | 21 => bs == 3
  | 22 => fld w 38 33 == 0
  | 23 => decide (5 < fld w 41 39) || decide (8 < fld w 35 32) || decide (16 < fld w 38 36 + 1 + fld w 35 32)
  | 24 => decide (5 < fld w 41 39)
  | 25 => fld w 22 19 == 0
  | 26 => fld w 41 39 == 0
  | 27 => !(rqFmt (fld w 41 38)) || decide ((fld w 37 35 + 1) * epb (fld w 41 38) < fld w 28 18 + (fld w 34 29 + 1))
  | 30 => F == 1 || nb - 1 == opCtx w || decide (F ≤ nb - 1) || decide (7 < opQd w)
  | 31 => fld w 41 40 == 3
  | 32 => fld w 37 35 == 0 || (bit w 35 && fld w 30 23 == 0)
  | _ => false

/-- A format code or pairing that load refuses (R154, R155, R161). -/
def formatRefused (w : Nat) : Bool :=
  match opc w with
  | 1 | 2 | 3 => !(pairOk (fld w 41 38) (fld w 37 34))
  | 4 | 7 | 27 => decide (10 ≤ fld w 41 38)
  | 8 => decide (10 ≤ fld w 41 38) || decide (10 ≤ fld w 37 34)
  | _ => false

/-- The group rule of R165 for a layer without codebook. -/
def groupRefused (w : Nat) : Bool :=
  match opc w with
  | 1 | 2 =>
    let fw := fld w 41 38
    let fa := fld w 37 34
    !(fw == 3 || fw == 6) && !(fmtInt fw && fmtInt fa) && decide (classN (pairWidth fw fa) < gOf w)
  | _ => false

/-- The refusal code of an operation word in an operation list, by the word alone; 0 = none (R303). -/
def wordCode (F w : Nat) : Nat :=
  let c := opc w
  let sh := shapeOf w
  if 41 ≤ c then 0x0501
  else if 36 ≤ c then 0x0502
  else if (usesA w && decide (7 < opQa w)) || (usesB w && decide (7 < opQb w)) || (usesD w && (decide (opQd w < 4) || decide (9 < opQd w)))
      || decide (F ≤ opCtx w) || Nat.land (bits w 0 42) (zeroMask w) != 0 then 0x0502
  else if fieldRefused F w then 0x0503
  else if formatRefused w then 0x0505
  else if groupRefused w then 0x0506
  else if sh.outs.any (fun x => decide (8 / F < x.2.2)) || sh.ins.any (fun x => decide (8 / F < x.2)) then 0x0709
  else 0

end Sys2Proof.Machine
end

