-- ==== Sys2Proof/Machine/Fabric.lean ====
section
/-! DEFINITION. The firing of a tile operation (R102 to R129, R182, R206): where it stands, when it fires, what it consumes and
fills, poison, slots, capture and retirement. The meaning of each operation is a step between the two. -/

namespace Sys2Proof.Machine

/-- The part of engine e that serves pasture p. -/
def Die.engPas (d : Die) (e p : Nat) : EngPas := KMap.get {} d.eng (e * 64 + p)

/-- Change the part of engine e that serves pasture p. -/
def Die.onEng (e p : Nat) (f : EngPas → EngPas) (d : Die) : Die := { d with eng := KMap.upd {} d.eng (e * 64 + p) f }

/-- A tile. -/
def Die.tile (d : Die) (t : Nat) : TileSt := KMap.get {} d.tiles t

/-- Change a tile. -/
def Die.onTile (t : Nat) (f : TileSt → TileSt) (d : Die) : Die := { d with tiles := KMap.upd {} d.tiles t f }

/-- A context of a tile. -/
def Die.ctx (d : Die) (t c : Nat) : CtxSt := KMap.get {} (d.tile t).ctxs c

/-- Change a context of a tile. -/
def Die.onCtx (t c : Nat) (f : CtxSt → CtxSt) (d : Die) : Die :=
  d.onTile t (fun x => { x with ctxs := KMap.upd {} x.ctxs c f })

/-- A queue partition. -/
def Die.queue (d : Die) (t c q : Nat) : List QBeat := KMap.get [] (d.ctx t c).queues q

/-- Replace a queue partition. -/
def Die.setQueue (t c q : Nat) (l : List QBeat) (d : Die) : Die :=
  d.onCtx t c (fun x => { x with queues := KMap.set [] x.queues q l })

/-- State of quarter q of engine e (R152): 0 empty, 1 loading, 2 running, 3 quiesced. -/
def Die.qstate (d : Die) (e q : Nat) : Nat := bits (d.get R.ENG_STATUS_QSTATE e) (2 * q) 2

/-- Set the state of a quarter. -/
def Die.setQ (e q v : Nat) (d : Die) : Die := d.put R.ENG_STATUS_QSTATE e (setBits (d.get R.ENG_STATUS_QSTATE e) (2 * q) 2 v)

/-- Engine, row and quarter of a logical tile address (R139, R140). -/
def tileEng (t : Nat) : Nat := t / 512
/-- Quarter. -/
def tileQ (t : Nat) : Nat := t / 128 % 4
/-- Column. -/
def tileCol (t : Nat) : Nat := t % 32
/-- Row. -/
def tileRow (t : Nat) : Nat := t / 32 % 16

/-- The engine record of an image for engine e; every member of a balance group loads the one copy (R281, R286). -/
def engOf (x : Image) (e : Nat) : Option EngineImg :=
  match x.engines.find? (fun y => y.engine == e) with
  | some y => some y
  | none => if x.shape = 1 ∧ bit x.engineMask e then x.engines.head? else none

/-- A tile's part of an engine record. -/
def tileImg (y : EngineImg) (t : Nat) : Option TileImg := y.tiles.find? (fun z => z.addr % 512 == t % 512)

/-- Engines an image occupies. -/
def enginesOf (x : Image) : List Nat := (List.range 8).filter (fun e => (engOf x e).isSome)

/-- An image's EMIT stands on engine e. -/
def hasEmit (ei : EngineImg) : Bool := ei.tiles.any (fun t => t.cfg.ctxs.any (fun c => c.ops.any (fun o => opc o.toNat == 32)))

/-- The first engine of a span (R291): the one without EMIT. -/
def spanFirst (im : Image) : Nat :=
  ((enginesOf im).find? (fun e => match engOf im e with | some ei => !(hasEmit ei) | none => false)).getD 0

/-- A firing: the place of the operation, its word, the pasture, image and fold factor it runs under. -/
structure Fire where
  tile : Nat
  ctx : Nat
  op : Nat
  w : Nat
  p : Nat
  im : Image
  ei : EngineImg
  cc : CtxCfg
  F : Nat

/-- Engine of a firing. -/
def Fire.e (x : Fire) : Nat := tileEng x.tile

/-- The operation at a place, if its quarter holds a loaded image whose clock runs. -/
def Die.fireOf (d : Die) (tile ctx op : Nat) : Option Fire :=
  let e := tileEng tile
  let q := tileQ tile
  if d.qstate e q < 2 ∨ KMap.get false d.stopped (e * 4 + q) = true then none
  else match d.quarterOwner e q with
    | none => none
    | some p =>
      match d.image p with
      | none => none
      | some im =>
        match engOf im e with
        | none => none
        | some ei =>
          match tileImg ei tile with
          | none => none
          | some t =>
            match t.cfg.ctxs[ctx]? with
            | none => none
            | some cc =>
              match cc.ops[op]? with
              | none => none
              | some w => some ⟨tile, ctx, op, w.toNat, p, im, ei, cc, 2 ^ ei.fold⟩

/-- Firings of operation j of a context. -/
def Die.fires (d : Die) (t c j : Nat) : Nat := KMap.get 0 (d.ctx t c).fires j

/-- The operation of index j of a context's list. -/
def opAt (cc : CtxCfg) (j : Nat) : Nat := match cc.ops[j]? with | some w => w.toNat | none => 0

/-- Earlier operations of the list on the same unit. -/
def before (cc : CtxCfg) (i : Nat) : List Nat :=
  (List.range i).filter (fun j => opUnit (opc (opAt cc j)) == opUnit (opc (opAt cc i)))

/-- R115 and R205: every earlier operation of the unit has fired for the event. A NOP with none before it follows the events that
other operations have begun. -/
def Die.inOrder (d : Die) (t c : Nat) (cc : CtxCfg) (i : Nat) : Bool :=
  let n := d.fires t c i
  (before cc i).all (fun j => decide (n < d.fires t c j))
    && (opc (opAt cc i) != 0 || !(before cc i).isEmpty || (List.range cc.ops.length).any (fun j => decide (n < d.fires t c j)))

/-- R113, conditions 2 and 3, and the buffer conditions of R185: data and room. -/
def Die.hasData (d : Die) (t c F w : Nat) : Bool :=
  let sh := shapeOf w
  let need (q : Nat) : Nat := ((sh.ins.filter (fun x => x.1 == q)).map (fun x => x.2)).sum
  sh.ins.all (fun x => decide (need x.1 ≤ (d.queue t c x.1).length))
    && sh.outs.all (fun x => decide ((d.queue t x.1 x.2.1).length + x.2.2 ≤ 8 / F))
    && (opc w != 4 || (KMap.get {} (d.ctx t c).bufs (d.ctx t c).wptr).left == 0)
    && (opc w != 1 || (KMap.get {} (d.ctx t c).bufs (d.ctx t c).rptr).left != 0)

/-- A LOOP record names an operation of a firing's tile, context and index on its engine (R118, R282). -/
def Fire.named (x : Fire) (engine tile op : Nat) : Bool :=
  x.im.hits engine x.e && tile % 512 == x.tile % 512 && op == x.ctx * 32 + x.op

/-- The LOOP records whose gate a firing is. -/
def Fire.gated (x : Fire) : List LoopRec := x.im.loops.filter (fun l => x.named l.engine l.gateTile l.gateOp)

/-- The loop-gate limits in the configuration of a firing's tile (R102). -/
def Fire.limits (x : Fire) : List Nat := match tileImg x.ei x.tile with | some t => t.cfg.gates | none => []

/-- The counters of its tile that a firing is the gate of, with their limits (R118): those its LOOP records name; for a BARRIER in ENTER the
counter LG (R226), with the limit of the configuration where no record names it (R102). -/
def Fire.gates (x : Fire) : List (Nat × Nat) :=
  let enter := opc x.w == 31 && fld x.w 41 40 == 1
  if enter && x.gated.isEmpty then [(fld x.w 39 39, x.limits.getD (fld x.w 39 39) 0)]
  else x.gated.map (fun l => (if enter then fld x.w 39 39 else l.counter, l.k))

/-- A firing is the gate of a loop whose counter stands at its limit (R118); a limit of 0 is none. -/
def Die.gateShut (d : Die) (x : Fire) : Bool :=
  x.gates.any (fun g => g.2 != 0 && decide (g.2 ≤ KMap.get 0 (d.tile x.tile).gates g.1))

/-- Another operation of the firing's context. -/
def Fire.other (x : Fire) (j : Nat) : Fire := { x with op := j, w := opAt x.cc j }

/-- An operation is ready but for its loop gate (R113 to R115), and no earlier one of its unit is ready to fire. -/
def Die.ready1 (d : Die) (x : Fire) : Bool :=
  d.inOrder x.tile x.ctx x.cc x.op && d.hasData x.tile x.ctx x.F x.w
    && !((before x.cc x.op).any (fun j => d.inOrder x.tile x.ctx x.cc j && d.hasData x.tile x.ctx x.F (opAt x.cc j) && !(d.gateShut (x.other j))))

/-- Take n beats from a queue; an uncorrectable error in the queue poisons the first (R509, kind 3). -/
def Die.pop (fu : Fused) (t c q n : Nat) (d : Die) : List QBeat × Die :=
  let l := d.queue t c q
  let loc := (t * 8 + c) * 16 + q
  let r := if n = 0 then (false, d) else d.eccRead fu 3 loc (some t) none
  let d := if r.1 then r.2.eccClear 3 loc else r.2
  let taken := l.take n
  let taken := if r.1 then (match taken with | b :: bs => { b with poison := true } :: bs | [] => []) else taken
  (taken, d.setQueue t c q (l.drop n))

/-- What an operation finds when it fires (R116, R182): its beats, their slot, and whether poison or a SLOT mismatch struck. -/
structure Taken where
  a : List QBeat
  b : List QBeat
  slot : Nat
  bad : Bool

/-- Beats that a firing consumes from its first and from its second queue (R181, R204). -/
def Fire.need (x : Fire) (i : Nat) : Nat := match (shapeOf x.w).ins[i]? with | some y => y.2 | none => 0

/-- The slot of the oldest of some beats (R116). -/
def slotOf (l : List QBeat) : Nat := match l with | q :: _ => q.slot | [] => 0

/-- Consume an operation's beats (R116). -/
def Die.take (fu : Fused) (x : Fire) (d : Die) : Taken × Die :=
  let ra := d.pop fu x.tile x.ctx (opQa x.w) (x.need 0)
  let rb := if x.need 1 = 0 then ([], ra.2) else ra.2.pop fu x.tile x.ctx (opQb x.w) (x.need 1)
  let all := ra.1 ++ rb.1
  let slot := slotOf all
  let mis := !rb.1.isEmpty && all.any (fun q => q.slot != slot)
  let d := if mis then rb.2.count T.ENG_SLOT_MISMATCH x.e else rb.2
  (⟨ra.1, rb.1, slot, mis || all.any (fun q => q.poison)⟩, d)

/-- The kind of the region a tile-store beat lies in (R283). -/
def regionKind (im : Image) (tile beat : Nat) : Option Nat :=
  (im.regions.find? (fun r => im.hits r.engine (tileEng tile) && (r.tile == 0xFFFF || r.tile % 512 == tile % 512)
    && decide (r.first ≤ beat) && decide (beat < r.first + r.beats))).map (fun r => r.kind)

/-- A lane that the manifest maps to a tensor stands on a tile: on the tensor's engine, or in a balance group on every member (R251, R286). -/
def laneOn (im : Image) (t : Tensor) (tile : Nat) (l : Nat × Nat × Nat × Nat) : Bool :=
  im.hits t.engine (tileEng tile) && l.1 % 512 == tile % 512

/-- A beat of the tile store (R103). -/
def Die.beat (d : Die) (t b : Nat) : Nat := (KMap.get 0 (d.tile t).store b).toNat

/-- Where the error state of a tile-store beat stands. -/
def tsLoc (t b : Nat) : Nat := t * 1024 + b

/-- Write a tile-store beat, clean or in the poison pattern (R206). -/
def Die.putBeat (t b v : Nat) (bad : Bool) (d : Die) : Die :=
  let d := d.onTile t (fun x => { x with store := KMap.set 0 x.store b (BitVec.ofNat 256 v) })
  let d := d.eccClear 1 (tsLoc t b)
  if bad then { d with poison := KMap.set false d.poison (eccKey 1 (tsLoc t b)) true } else d

/-- Check tile-store beats of a pasture's image that an operation reads (R182, R510, R511, R515): whether any is poisoned. -/
def Die.readStore (fu : Fused) (im : Image) (p tile : Nat) : List Nat → Die → Bool × Die
  | [], d => (false, d)
  | b :: bs, d =>
    let r := d.eccRead fu 1 (tsLoc tile b) (some tile) (some p)
    let d := if r.1 && (match regionKind im tile b with | some k => decide (k ≤ 1) | none => false) then r.2.persist p tile
      else r.2
    let y := Die.readStore fu im p tile bs d
    (r.1 || y.1, y.2)

/-- Check the tile-store beats that a firing reads. -/
def Die.readBeats (fu : Fused) (x : Fire) (l : List Nat) (d : Die) : Bool × Die := d.readStore fu x.im x.p x.tile l

/-- The slot of a firing's event. -/
def Die.slotSt (d : Die) (x : Fire) (slot : Nat) : SlotSt := KMap.get {} (d.engPas x.e x.p).slots slot

/-- Push beats into a queue partition. -/
def Die.push (t c q : Nat) (l : List QBeat) (d : Die) : Die := d.setQueue t c q (d.queue t c q ++ l)

/-- Data beats of one firing for a queue: the last carries LAST; a bad firing writes zeros, poisoned (R182). -/
def outBeats (slot : Nat) (bad : Bool) : List Nat → List QBeat
  | [] => []
  | [v] => [⟨if bad then 0 else BitVec.ofNat 256 v, slot, bad, true⟩]
  | v :: vs => ⟨if bad then 0 else BitVec.ofNat 256 v, slot, bad, false⟩ :: outBeats slot bad vs

/-- The scale tag of a capture (R312): SH of lane 0 for an RQ, else 0. -/
def Die.capTag (d : Die) (x : Fire) (slot : Nat) : Int :=
  if opc x.w = 7 then sext (bits (d.beat x.tile (fld x.w 29 20 + (d.slotSt x slot).par)) 0 16) 16 else 0

/-- The beats a capture point writes for a flagged event, into queues and into the tile store, go to the capture path (R312). -/
def Die.capture (x : Fire) (slot : Nat) (bs : List QBeat) (d : Die) : Die :=
  match x.im.upd with
  | none => d
  | some u =>
    if u.engine ≠ x.e ∨ !(d.slotSt x slot).flagged then d
    else
      let i := u.points.findIdx (fun y => y.1 % 512 == x.tile % 512 && y.2.1 == x.ctx && y.2.2.1 == x.op)
      if i < u.points.length then
        let tag := d.capTag x slot
        d.onEng x.e x.p (fun y => { y with slots := KMap.upd {} y.slots slot (fun s =>
          { s with caps := s.caps ++ [(i, bs.map (fun b => (b.data, tag, b.poison)))] }) })
      else d

/-- The update unit of an engine. -/
def Die.updSt (d : Die) (e : Nat) : UpdSt := KMap.get {} d.upd e

/-- Change the update unit of an engine. -/
def Die.onUpd (e : Nat) (f : UpdSt → UpdSt) (d : Die) : Die := { d with upd := KMap.upd {} d.upd e f }

/-- Bytes a capture record takes (R314). -/
def capBytes (r : CapRec) : Nat := 64 + 32 * r.beats.length

/-- Where the error state of a capture record stands (R509, kind 8). -/
def capLoc (e evid : Nat) : Nat := e * 2 ^ 36 + evid % 2 ^ 36

/-- Write the capture record of an event whose last beat has been captured (R314, R315). -/
def Die.writeCapture (e : Nat) (r : CapRec) (d : Die) : Die :=
  let ring := (d.updSt e).ring
  let dup := ring.any (fun y => y.evid == r.evid && y.label.isNone)
  let rest := if dup then ring.filter (fun y => !(y.evid == r.evid && y.label.isNone)) else ring
  if Config.captureRing < (rest.map capBytes).sum + capBytes r then d.count T.UPD_CAP_DROP e
  else
    let d := ((d.onUpd e (fun y => { y with ring := rest ++ [r] })).eccClear 8 (capLoc e r.evid)).count T.UPD_CAPTURES e
    if dup then d.count T.UPD_CAP_DUP e else d

/-- Captured beats of an event complete: one record in capture-point order (R314). -/
def Die.finishCapture (x : Fire) (slot : Nat) (d : Die) : Die :=
  match x.im.upd with
  | none => d
  | some u =>
    let s := d.slotSt x slot
    if u.engine = x.e ∧ s.flagged ∧ s.caps.length = u.points.length then
      let bs := (List.range u.points.length).flatMap (fun i => (s.caps.filter (fun y => y.1 == i)).flatMap (fun y => y.2))
      let d := d.onEng x.e x.p (fun y => { y with slots := KMap.upd {} y.slots slot (fun s => { s with flagged := false, caps := [] }) })
      d.writeCapture x.e { evid := s.ev.er.evid, beats := bs.map (fun y => y.1), tags := bs.map (fun y => y.2.1)
                           poison := bs.any (fun y => y.2.2), wb := s.wb, step := s.step, fc := d.fc }
    else d

/-- Slots of a pasture not yet retired, over all engines (R153). -/
def Die.inFlight (d : Die) (p : Nat) : Nat :=
  ((List.range 8).map (fun e => (d.engPas e p).flight.length)).sum

/-- The event's slot retires (R125). On the first engine of a span its marker goes on with the event to the second (R88, R291). -/
def Die.retire (x : Fire) (slot : Nat) (d : Die) : Die :=
  let d := if x.im.shape = 2 ∧ spanFirst x.im = x.e then d else d.clearMarker x.p (d.slotSt x slot).ev.ticket
  let d := d.onEng x.e x.p (fun y => { y with flight := y.flight.filter (· != slot) })
  d.put R.FAB_STATUS_IN_FLIGHT x.p (d.inFlight x.p)

/-- Change a loop-gate counter of a tile. -/
def Die.onGate (t c : Nat) (f : Nat → Nat) (d : Die) : Die := d.onTile t (fun y => { y with gates := KMap.upd 0 y.gates c f })

/-- The loop-gate counters whose loop a firing leaves (R118): tile and counter. -/
def Fire.leaves (x : Fire) : List (Nat × Nat) :=
  (x.im.loops.filter (fun l => x.named l.engine l.exitTile l.exitOp)).map (fun l => (x.e * 512 + l.gateTile % 512, l.counter))

/-- Loop counters after a firing (R118): up at the gate, down when the exit operation has fired for the LAST beat. -/
def Die.loopCount (x : Fire) (last : Bool) (d : Die) : Die :=
  let d := x.gates.foldl (fun d g => d.onGate x.tile g.1 (· + 1)) d
  if last then x.leaves.foldl (fun d g => d.onGate g.1 g.2 (· - 1)) d else d

/-- What a firing leaves: beats to be written by context and queue, the slot it acted for, and the beats it has written into the tile store. -/
structure Out where
  outs : List (Nat × Nat × List QBeat) := []
  slot : Nat := 0
  last : Bool := true
  stored : List QBeat := []

/-- The end of a firing: beats pushed, capture, count of firings, loop counters, retirement. -/
def Die.finish (x : Fire) (o : Out) (d : Die) : Die :=
  let d := o.outs.foldl (fun d y => d.push x.tile y.1 y.2.1 y.2.2) d
  let d := d.onCtx x.tile x.ctx (fun c => { c with fires := KMap.upd 0 c.fires x.op (· + 1) })
  let d := d.loopCount x o.last
  let d := (d.capture x o.slot (o.stored ++ o.outs.flatMap (fun y => y.2.2))).finishCapture x o.slot
  if opRet x.w then d.retire x o.slot else d

/-- A tile operation's command: the word at the place is one that `sel` takes, and it fires if it is ready; a shut loop gate counts
LOOP_WAIT (R118). -/
def tileCmd (sel : Nat → Bool) (f : Fused → Fire → Die → Out × Die) (tile ctx op : Nat) (s : State) :
    Host.Outcome State Fault Refusal :=
  dieCmd (decide (tile < 4096) && decide (tile % 32 < 24)) (fun s =>
    match s.die.fireOf tile ctx op with
    | none => s.die
    | some x =>
      if sel x.w && wordCode x.F x.w == 0 && s.die.ready1 x then
        if s.die.gateShut x then s.die.count T.FAB_LOOP_WAIT x.p
        else
          let r := f s.fused x s.die
          r.2.finish x r.1
      else s.die) s

/-- A firing that takes beats and writes QD (R182): `reads` are the tile-store beats it needs, `work` the output from QA beats, QB
beats and the tile store. `sat` and `fl` are the tallies of round32 (R168, R183). -/
def arith (sat fl : Tal) (reads : (Nat → Nat) → Fire → Nat → List Nat → List Nat)
    (work : (Nat → Nat) → Fire → Nat → List Nat → List Nat → Num (List Nat)) (fu : Fused) (x : Fire) (d : Die) : Out × Die :=
  let n := match (shapeOf x.w).outs with | y :: _ => y.2.2 | [] => 0
  let k := d.take fu x
  let par := (k.2.slotSt x k.1.slot).par
  let raw := k.2.beat x.tile
  let as := k.1.a.map (fun b => b.data.toNat)
  let bs := k.1.b.map (fun b => b.data.toNat)
  let r := k.2.readBeats fu x (reads raw x par as).eraseDups
  let v := work raw x par as bs {}
  let fault := decide (0 < v.2.operandBad)
  let bad := k.1.bad || r.1 || fault
  let d := if fault then r.2.count T.FAB_OPERAND_BAD x.p else r.2
  let d := if bad then d
    else ((((((d.countBy T.FAB_CODE_SPECIAL x.p v.2.special).countBy sat x.p v.2.sat).countBy fl x.p v.2.flush).countBy
      T.FAB_NORM_FLAT x.p v.2.flat).countBy T.FAB_RQ_CLIP x.p v.2.clip).countBy T.FAB_RQ_UNDER x.p v.2.under)
  (⟨[(opCtx x.w, opQd x.w, outBeats k.1.slot bad (v.1 ++ List.replicate (n - v.1.length) 0))], k.1.slot, true, []⟩, d)

/-- No tile-store read. -/
def noReads : (Nat → Nat) → Fire → Nat → List Nat → List Nat := fun _ _ _ _ => []

end Sys2Proof.Machine
end

