-- ==== Sys2Proof/Machine/Graph.lean ====
section
/-! DEFINITION. The queue graph of an image on an engine (R108, R109, R121, R125, R129, R184, R256): operations and queues as nodes,
what joins them, and who reads a tensor. -/

namespace Sys2Proof.Machine

/-- An operation where it stands in an image. -/
structure OpAt where
  tile : Nat
  ctx : Nat
  op : Nat
  w : Nat
  cc : CtxCfg
  ti : TileImg

/-- Every operation of an engine's part of an image, on engine e. -/
def opsOf (e : Nat) (ei : EngineImg) : List OpAt :=
  ei.tiles.flatMap (fun t => (indexed t.cfg.ctxs).flatMap (fun c => (indexed c.2.ops).map (fun o =>
    ⟨e * 512 + t.addr % 512, c.1, o.1, o.2.toNat, c.2, t⟩)))

/-- Node of an operation. -/
def opNode (t c i : Nat) : Nat := (t * 8 + c) * 64 + i % 32
/-- Node of a queue. -/
def qNode (t c q : Nat) : Nat := (t * 8 + c) * 64 + 32 + q % 32
/-- A node is a queue. -/
def isQueue (n : Nat) : Bool := decide (32 ≤ n % 64)
/-- The node of an operation. -/
def OpAt.node (x : OpAt) : Nat := opNode x.tile x.ctx x.op

/-- The source an input queue of a context is bound to (R108). -/
def bindingOf (ei : EngineImg) (t ctx iq : Nat) : QSrc :=
  match (tileImg ei t).bind (fun y => y.cfg.ctxs[ctx]?) with
  | some cc => cc.inBind.getD iq .none
  | none => .none

/-- The input queues an output destination reaches (R109, R110, R129): tile, context, queue; each is bound to it (R108). The row above is north; `joined` says
whether a column bus joins two rows (R141). -/
def dstQueues (ei : EngineImg) (joined : Nat → Nat → Bool) (t ctx oq : Nat) (dst : QDst) : List (Nat × Nat × Nat) :=
  let r := tileRow t
  let c := tileCol t
  let at_ (row col : Nat) (src : QSrc) : List (Nat × Nat × Nat) :=
    let u := tileEng t * 512 + row * 32 + col
    match (tileImg ei u).bind (fun y => y.cfg.ctxs[ctx]?) with
    | some cc => ((List.range cc.inBind.length).filter (fun i => cc.inBind.getD i .none == src)).map (fun i => (u, ctx, i))
    | none => []
  match dst with
  | .north => if r = 0 then [] else at_ (r - 1) c .south
  | .south => if r = 15 then [] else at_ (r + 1) c .north
  | .east => if c = 23 then [] else at_ r (c + 1) .west
  | .west => if c = 0 then [] else at_ r (c - 1) .east
  | .rowBus => (List.range 24).flatMap (fun k => at_ r k (.rowBus c))
  | .colBus => ((List.range 16).filter (joined r)).flatMap (fun k => at_ k c (.colBus r))
  | .loop iq k => if bindingOf ei t k iq = .loop oq ctx then [(t, k, iq)] else []
  | .exit => []

/-- Column buses join rows whose quarters, and all between, satisfy `held` (R141). -/
def joinedBy (held : Nat → Bool) (a b : Nat) : Bool := (span (min a b / 4) (max a b / 4 + 1)).all held

/-- The EXPAND that each of a context's DOT firings reads, over as many events as bring the pairing back to its start (R184, R185):
(index of EXPAND, index of DOT). -/
def expandPairs (cc : CtxCfg) : List (Nat × Nat) :=
  let ops := indexed (cc.ops.map (fun w => w.toNat))
  let exps := (ops.filter (fun o => opc o.2 == 4)).flatMap (fun o => List.replicate (fld o.2 33 32 + 1) o.1)
  let dots := (ops.filter (fun o => opc o.2 == 1)).map (fun o => o.1)
  if exps.isEmpty || dots.isEmpty then []
  else (List.range (exps.length * dots.length)).map (fun k => (exps.getD (k % exps.length) 0, dots.getD (k % dots.length) 0))

/-- Scratch and window beats an operation writes (R207): first and number. -/
def storeWrites (w : Nat) : Option (Nat × Nat) :=
  match opc w with
  | 21 => if fld w 38 37 = 1 then some (fld w 36 27, fld w 41 39 + 1) else none
  | 24 => some (fld w 30 21, fld w 35 31 + 1)
  | 25 => some (fld w 38 29, fld w 28 23 + 1)
  | _ => none

/-- Two stretches of beats meet. -/
def meets (a b : Nat × Nat) : Bool := decide (a.1 < b.1 + b.2) && decide (b.1 < a.1 + a.2)

/-- Edges of the queue graph: queue to reader, operation to written queue, EXPAND to DOT, output queue to destination, and a MOVQ or
SCATTER to the MOVQ of its context that reads the same scratch. -/
def edgesOf (e : Nat) (ei : EngineImg) (joined : Nat → Nat → Bool) : List (Nat × Nat) :=
  (opsOf e ei).flatMap (fun x =>
      let sh := shapeOf x.w
      sh.ins.map (fun q => (qNode x.tile x.ctx q.1, x.node)) ++ sh.outs.map (fun o => (x.node, qNode x.tile o.1 o.2.1))
        ++ (match storeWrites x.w with
          | some r => if opc x.w = 25 then [] else
              ((indexed x.cc.ops).filter (fun o => opc o.2.toNat == 21 && fld o.2.toNat 38 37 == 2
                && meets r (fld o.2.toNat 36 27, fld o.2.toNat 41 39 + 1))).map (fun o => (x.node, opNode x.tile x.ctx o.1))
          | none => []))
  ++ ei.tiles.flatMap (fun t => (indexed t.cfg.ctxs).flatMap (fun c =>
      let u := e * 512 + t.addr % 512
      (expandPairs c.2).eraseDups.map (fun p => (opNode u c.1 p.1, opNode u c.1 p.2))
        ++ (indexed c.2.outBind).flatMap (fun o => o.2.flatMap (fun d =>
          (dstQueues ei joined u c.1 o.1 d).map (fun q => (qNode u c.1 (8 + o.1), qNode q.1 q.2.1 q.2.2))))))

/-- Nodes reached from a frontier, `fuel` rounds at most; `go` says whether a node passes the search on. -/
def spread (edges : List (Nat × Nat)) (go : Nat → Bool) : Nat → List Nat → List Nat → List Nat
  | 0, _, seen => seen
  | fuel + 1, front, seen =>
    let from_ := front.filter go
    let next := ((edges.filter (fun e => from_.contains e.1 && !(seen.contains e.2))).map (fun e => e.2)).eraseDups
    if next.isEmpty then seen else spread edges go fuel next (seen ++ next)

/-- Nodes that a path of one edge or more leads to from n. -/
def after (edges : List (Nat × Nat)) (n : Nat) : List Nat := spread edges (fun _ => true) (edges.length + 1) [n] []

/-- The same graph backwards. -/
def flip (edges : List (Nat × Nat)) : List (Nat × Nat) := edges.map (fun e => (e.2, e.1))

/-- The word of an operation node. -/
def wordAt (ops : List OpAt) (n : Nat) : Nat := match ops.find? (fun x => x.node == n) with | some x => x.w | none => 0

/-- Movement operations that do not interpret codes (R256, R262). -/
def moves (w : Nat) : Bool := [21, 22, 23, 24, 25, 26, 30, 31].contains (opc w)

/-- The operations that first read what the nodes `from_` write, past queues and past operations whose words satisfy `pass`. -/
def readers (ops : List OpAt) (edges : List (Nat × Nat)) (pass : Nat → Bool) (from_ : List Nat) : List Nat :=
  let go (n : Nat) : Bool := isQueue n || from_.contains n || pass (wordAt ops n)
  (spread edges go (edges.length + 1) from_ []).filter (fun n => !(isQueue n) && !(pass (wordAt ops n)))

/-- Every operation of an image. -/
def imageOps (im : Image) : List OpAt := im.engines.flatMap (fun ei => opsOf ei.engine ei)

/-- The queue graph of an engine's part; column buses join the quarters the part names (R141). -/
def graphOf (ei : EngineImg) : List (Nat × Nat) := edgesOf ei.engine ei (joinedBy (bit ei.quarters))

/-- The output queues that an engine's part binds to the exit (R109). -/
def exitNodes (ei : EngineImg) : List Nat :=
  ei.tiles.flatMap (fun t => (indexed t.cfg.ctxs).flatMap (fun c => ((indexed c.2.outBind).filter (fun o => o.2.contains .exit)).map (fun o =>
    qNode (ei.engine * 512 + t.addr % 512) c.1 (8 + o.1))))

/-- The queue graph of an image: that of each engine, and in a span what the exits of A carry to the entry queues of B (R291). -/
def imageGraph (im : Image) : List (Nat × Nat) :=
  im.engines.flatMap graphOf ++ (if im.shape = 2 then
    (im.engines.filter (fun ei => ei.engine == spanFirst im)).flatMap (fun ei => (exitNodes ei).flatMap (fun x =>
      (im.packet.filter (fun b => tileEng b.tile != ei.engine)).map (fun b => (x, qNode b.tile b.ctx b.iq))))
  else [])

/-- The RQ operations that write a tensor: those whose parameter beat is one of its lanes'. -/
def tensorWriters (im : Image) (ops : List OpAt) (t : Tensor) : List Nat :=
  (ops.filter (fun x => opc x.w == 7 && t.lanes.any (fun l => laneOn im t x.tile l && l.2.1 == fld x.w 29 20))).map OpAt.node

/-- The first readers of a tensor past movement, on either engine of a span; with `thru`, past EXPAND too. -/
def tensorReaders (im : Image) (t : Tensor) (thru : Bool) : List Nat :=
  readers (imageOps im) (imageGraph im) (fun w => moves w || (thru && opc w == 4)) (tensorWriters im (imageOps im) t)

/-- All paths from the last node of a trail to a goal that visit no node twice, each in order from the trail's first node. -/
def paths (g : List (Nat × Nat)) (goal : Nat) : Nat → List Nat → List (List Nat)
  | 0, _ => []
  | fuel + 1, trail =>
    match trail with
    | [] => []
    | x :: _ => (g.filter (fun e => e.1 == x)).flatMap (fun e =>
        if e.2 = goal then [(goal :: trail).reverse]
        else if trail.contains e.2 then [] else paths g goal fuel (e.2 :: trail))

/-- The paths of a graph from one node to another; from a node to itself, its directed loops. -/
def pathsTo (g : List (Nat × Nat)) (a b : Nat) : List (List Nat) := paths g.eraseDups b (g.length + 1) [a]

/-- A graph without some nodes. -/
def without (g : List (Nat × Nat)) (ns : List Nat) : List (Nat × Nat) := g.filter (fun e => !(ns.contains e.1) && !(ns.contains e.2))

/-- A beat of a tile image's store. -/
def tiBeat (t : TileImg) (b : Nat) : Nat := match t.store.find? (fun s => s.1 == b) with | some s => s.2.toNat | none => 0

/-- Entries of a codebook beat: the 4 or 16 fields of R160. -/
def bookEntries (f v : Nat) : List Nat := (List.range (if f = 3 then 4 else 16)).map (fun i => bits v (16 * i) 16)

/-- Every expanded weight exponent of a DOT, DOTA or DWC is 0 (R165). -/
def weightsFlat (x : OpAt) : Bool :=
  let f := fld x.w 41 38
  let wa := if opc x.w = 3 then fld x.w 25 16 else fld x.w 24 15
  if f = 3 ∨ f = 6 then (bookEntries f (tiBeat x.ti (wa - 1))).all (fun c => bits c 8 6 == 0) else fmtInt f

/-- R256: a tensor may carry a non-zero zero point. -/
def zpAllowed (im : Image) (t : Tensor) : Bool :=
  let ops := imageOps im
  let edges := imageGraph im
  [1, 4, 7].contains t.format && (tensorReaders im t true).all (fun n =>
    match ops.find? (fun x => x.node == n) with
    | none => false
    | some x =>
      let upd := im.updRecs.any (fun r => r.tiles.any (fun y => y.1 == x.tile && y.2.1 == x.ctx) && r.dotIdx == x.op)
      let accs := readers ops edges (fun w => opc w != 6) [n]
      [1, 2, 3].contains (opc x.w) && weightsFlat x && !upd && !accs.isEmpty
        && accs.all (fun a => match ops.find? (fun y => y.node == a) with
          | some y => im.banked.any (fun b => im.hits b.1 (tileEng y.tile) && b.2.1 % 512 == y.tile % 512 && b.2.2 == y.ctx * 32 + y.op)
          | none => false))

end Sys2Proof.Machine
end

