-- ==== Sys2Proof/Machine/TileArith.lean ====
section
/-! DEFINITION. The operations of the expansion, MAC, scale and vector units (R184 to R200, R242 to R255): what each computes from
its beats and the tile store, and its command. -/

namespace Sys2Proof.Machine

/-- A byte of the tile store. -/
def tsByte (raw : Nat → Nat) (i : Nat) : Nat := bits (raw (i / 32)) (8 * (i % 32)) 8

/-- A 16-bit word of the tile store at a byte. -/
def tsHalf (raw : Nat → Nat) (i : Nat) : Nat := tsByte raw i + 256 * tsByte raw (i + 1)

/-- A 32-bit word of the tile store at a byte. -/
def tsWord (raw : Nat → Nat) (i : Nat) : Nat := tsHalf raw i + 65536 * tsHalf raw (i + 2)

/-- Code i of width w from a beat on. -/
def tsCode (raw : Nat → Nat) (beat w i : Nat) : Nat := bits (raw (beat + w * i / 256)) (w * i % 256) w

/-- The bank offset of an updatable layer at a weight address of this context (R309, R310). -/
def bankOff (x : Fire) (waddr : Nat) : Nat :=
  match x.im.upd with
  | none => 0
  | some u =>
    if u.engine ≠ x.e then 0
    else match x.im.updRecs.find? (fun r => r.tiles.any (fun t =>
        t.1 == x.tile && t.2.1 == x.ctx && decide (t.2.2.1 ≤ waddr) && decide (waddr < t.2.2.1 + t.2.2.2.1))) with
      | some r => r.boff
      | none => 0

/-- Where the error state of an expansion buffer stands (R509, kind 3). -/
def bufLoc (x : Fire) (k : Nat) : Nat := (x.tile * 8 + x.ctx) * 16 + 10 + k

/-- EXPAND (R184): QA beats expanded into the buffer of the write pointer. -/
def expandOp (fu : Fused) (x : Fire) (d : Die) : Out × Die :=
  let f := fld x.w 41 38
  let k := d.take fu x
  let es := Num.all (fun (b : QBeat) => Num.seq (Num.all (fun i => expand f (elem b.data.toNat (fmtWidth f) i) 0) (List.range (epb f)))
    (fun ops => Num.ret (⟨ops, f, b.slot, b.poison⟩ : AxEnt))) k.1.a {}
  let d := if k.1.bad then k.2 else k.2.countBy T.FAB_CODE_SPECIAL x.p es.2.special
  let d := d.eccClear 3 (bufLoc x (d.ctx x.tile x.ctx).wptr)
  let d := d.onCtx x.tile x.ctx (fun c => { c with
    bufs := KMap.upd {} c.bufs c.wptr (fun y => ⟨KMap.setRange {} y.ents (fld x.w 35 34) es.1, fld x.w 33 32 + 1⟩), wptr := 1 - c.wptr })
  (⟨[], k.1.slot, true, []⟩, d)

/-- Group-sum record of S and X (R186). -/
def gsRecord (r : Int × Int) : Nat := low r.1 48 + low r.2 16 * 2 ^ 48

/-- Records of K reduction indices and nout outputs, groups of g (R186): weight operands by output, activation operands. -/
def dotRecs (K g : Nat) (ws : List (List Xop)) (as : List Xop) : List Nat :=
  (List.range (K / g)).flatMap (fun k => ws.map (fun wj =>
    gsRecord (groupSum (((wj.drop (k * g)).take g).zip ((as.drop (k * g)).take g)))))

/-- The weight operand of output j and input i of a DOT or DOTA (R186). -/
def dotWeight (raw : Nat → Nat) (w boff j i : Nat) : Num Xop :=
  let fw := fld w 41 38
  let N := classN (pairWidth fw (fld w 37 34))
  let a := fld w 24 15
  expand fw (tsCode raw (a + boff + i / N * sliceBeats fw (fld w 37 34)) (fmtWidth fw) (j * N + i % N)) (raw (a - 1 + boff))

/-- The weight operands of a DOT or DOTA by output (R186). -/
def dotWeights (raw : Nat → Nat) (w boff : Nat) : Num (List (List Xop)) :=
  Num.all (fun j => Num.all (dotWeight raw w boff j) (List.range ((fld w 33 30 + 1) * classN (pairWidth (fld w 41 38) (fld w 37 34)))))
    (List.range (fld w 14 10 + 1))

/-- The tile-store beats those weights stand in. -/
def dotReads (w boff : Nat) : List Nat :=
  let fw := fld w 41 38
  let a := fld w 24 15
  (if fw = 3 ∨ fw = 6 then [a - 1 + boff] else [])
    ++ span (a + boff) (a + boff + (fld w 33 30 + 1) * sliceBeats fw (fld w 37 34))

/-- DOT (R186): activations from the buffer of the read pointer; SLOT compared across entries (R187). -/
def dotOp (fu : Fused) (x : Fire) (d : Die) : Out × Die :=
  let w := x.w
  let fa := fld w 37 34
  let K := (fld w 33 30 + 1) * classN (pairWidth (fld w 41 38) fa)
  let c := d.ctx x.tile x.ctx
  let buf := KMap.get {} c.bufs c.rptr
  let ents := (List.range (cdiv K (epb fa))).map (fun i => KMap.get {} buf.ents (fld w 29 27 + i))
  let slot := match ents with | y :: _ => y.slot | [] => 0
  let mis := ents.any (fun y => y.slot != slot)
  let d := if mis then d.count T.ENG_SLOT_MISMATCH x.e else d
  let eb := d.eccRead fu 3 (bufLoc x c.rptr) (some x.tile) (some x.p)
  let d := eb.2.onCtx x.tile x.ctx (fun c =>
    let b := KMap.get {} c.bufs c.rptr
    { c with bufs := KMap.set {} c.bufs c.rptr { b with left := b.left - 1 }, rptr := if b.left ≤ 1 then 1 - c.rptr else c.rptr })
  let boff := (d.slotSt x slot).wb * bankOff x (fld w 24 15)
  let raw := d.beat x.tile
  let r := d.readBeats fu x (dotReads w boff)
  let ws := dotWeights raw w boff {}
  let bad := mis || eb.1 || r.1 || ents.any (fun y => y.poison)
  let recs := dotRecs K (gOf w) ws.1 (ents.flatMap (fun y => y.ops))
  let d := if bad then r.2 else r.2.countBy T.FAB_CODE_SPECIAL x.p ws.2.special
  (⟨[(opCtx w, opQd w, outBeats slot bad (recordBeats (cdiv (dotRecords w) 4) recs))], slot, true, []⟩, d)

/-- The window a reader of WIN reads, as its SHIFTW lays it out: WBASE and LEN (R214, R216). -/
def winOf (x : Fire) (win : Nat) : Nat × Nat :=
  match x.cc.ops.find? (fun o => opc o.toNat == 25 && fld o.toNat 41 39 == win) with
  | some o => (fld o.toNat 38 29, fld o.toNat 28 23 + 1)
  | none => (0, 1)

/-- win_beat (R216): h from the marker beat. -/
def winBeat (x : Fire) (win : Nat) (marker : List Nat) (t : Nat) : Nat :=
  let h := match marker with | m :: _ => bits m 0 6 | [] => 0
  let y := winOf x win
  y.1 + (h + y.2 * (t / y.2 + 1) - t) % y.2

/-- Window taps a DOTA reads. -/
def dotaTaps (x : Fire) (m : List Nat) : List Nat :=
  let K := (fld x.w 33 30 + 1) * classN (pairWidth (fld x.w 41 38) (fld x.w 37 34))
  (List.range (cdiv K (epb (fld x.w 37 34)))).map (fun t => winBeat x (fld x.w 29 27) m (fld x.w 9 5 + t))

/-- The first K codes of beats, expanded in order (R188). -/
def expandTaps (f K : Nat) (vs : List Nat) : Num (List Xop) :=
  Num.all (fun i => expand f (elem (vs.getD (i / epb f) 0) (fmtWidth f) (i % epb f)) 0) (List.range K)

/-- The bank offset a firing reads its layer with: that of its slot's weight bank. -/
def fireBank (d : Die) (x : Fire) (slot waddr : Nat) : Nat := (d.slotSt x slot).wb * bankOff x waddr

/-- The slot of the oldest beat of QA. -/
def slotA (d : Die) (x : Fire) : Nat := match d.queue x.tile x.ctx (opQa x.w) with | b :: _ => b.slot | [] => 0

/-- DOTA (R188, R216). -/
def dotaOp (fu : Fused) (x : Fire) (d : Die) : Out × Die :=
  let w := x.w
  let boff := fireBank d x (slotA d x) (fld w 24 15)
  arith T.FAB_SCALE_SAT T.FAB_FLUSH_ZERO (fun _ x _ m => dotReads w boff ++ dotaTaps x m)
    (fun raw x _ m _ => Num.seq (dotWeights raw w boff) (fun ws =>
      let fa := fld w 37 34
      let K := (fld w 33 30 + 1) * classN (pairWidth (fld w 41 38) fa)
      Num.seq (expandTaps fa K ((dotaTaps x m).map raw)) (fun as =>
        Num.ret (recordBeats (cdiv (dotRecords w) 4) (dotRecs K (gOf w) ws as))))) fu x d

/-- DWC (R189, R216): one 32-term group per channel over T taps. -/
def dwcOp (fu : Fused) (x : Fire) (d : Die) : Out × Die :=
  let w := x.w
  let fw := fld w 41 38
  let fa := fld w 37 34
  let T' := fld w 33 29 + 1
  let a := fld w 25 16
  let n := fld w 15 11 + 1
  let boff := fireBank d x (slotA d x) a
  let taps (x : Fire) (m : List Nat) : List Nat := (List.range T').map (winBeat x (fld w 28 26) m)
  arith T.FAB_SCALE_SAT T.FAB_FLUSH_ZERO
    (fun _ x _ m => (if fw = 3 ∨ fw = 6 then [a - 1 + boff] else []) ++ span (a + boff) (a + boff + cdiv (n * T' * fmtWidth fw) 256) ++ taps x m)
    (fun raw x _ m _ => Num.seq (Num.all (fun j => Num.all (fun t =>
        Num.seq (expand fw (tsCode raw (a + boff) (fmtWidth fw) (j * T' + t)) (raw (a - 1 + boff))) (fun ww =>
          Num.seq (expand fa (elem (raw (winBeat x (fld w 28 26) m t)) (fmtWidth fa) (fld w 10 3 + j)) 0) (fun aa => Num.ret (ww, aa))))
        (List.range T')) (List.range n)) (fun ps =>
      Num.ret (recordBeats (cdiv n 4) (ps.map (fun p => gsRecord (groupSum p)))))) fu x d

/-- Where a scale block's values stand (R242): LA, the beat of XA, the weight entry's byte, and da's bit. -/
structure ScaleAt where
  xa : Nat
  da : Nat
  entry : Nat

/-- The places of the scale of output j and group k in bank p (R243). -/
def scaleAt (raw : Nat → Nat) (saddr par j k : Nat) : ScaleAt :=
  let b := raw saddr
  let kt := bits b 16 8
  let j0 := bits b 24 8
  let jt := bits b 32 8
  let la := cdiv (kt + 8) 64
  ⟨saddr + 1 + par * la, 32 + 4 * k, 32 * (saddr + 1 + 2 * la) + 2 * (k * jt + j - j0)⟩

/-- combined_scale (R243). -/
def combinedScale (raw : Nat → Nat) (saddr par j k : Nat) : Nat × Int :=
  let s := scaleAt raw saddr par j k
  let e := tsHalf raw s.entry
  (bits e 0 8, sext (bits (raw saddr) 0 16) 16 + (bits e 8 4 : Nat) + sext (bits (raw s.xa) 0 16) 16
    + (bits (raw (s.xa + s.da / 256)) (s.da % 256) 4 : Nat))

/-- Records of consumed beats. -/
def recordsOf (bs : List Nat) : List Nat := bs.flatMap (fun v => (List.range 4).map (fun i => bits v (64 * i) 64))

/-- Output and group of record r of a SCALEG. -/
def scalegJK (w r : Nat) : Nat × Nat :=
  let n := fld w 36 32 + 1
  (fld w 23 16 + r % n, fld w 31 24 + r / n)

/-- SCALEG (R190, R167). -/
def scalegOp (fu : Fused) (x : Fire) (d : Die) : Out × Die :=
  let w := x.w
  let n := fld w 41 37 + 1
  let sa := fld w 15 6
  arith T.FAB_SCALE_SAT T.FAB_FLUSH_ZERO
    (fun raw _ par _ => sa :: (List.range n).flatMap (fun r =>
      let jk := scalegJK w r
      let s := scaleAt raw sa par jk.1 jk.2
      [s.xa, s.xa + s.da / 256, s.entry / 32]))
    (fun raw _ par as _ => Num.seq (Num.all (fun (y : Nat × Nat) =>
        let jk := scalegJK w y.1
        let sc := combinedScale raw sa par jk.1 jk.2
        let S := sext (bits y.2 0 48) 48
        let X := sext (bits y.2 48 16) 16
        Num.seq (if S = 0 ∨ sc.1 = 0 then Num.ret 0 else round32 (decide (S < 0)) (S.natAbs * sc.1) (X - 24 + sc.2)) (fun g =>
          Num.ret (g + jk.2 % 2 ^ 16 * 2 ^ 32 + jk.1 % 2 ^ 8 * 2 ^ 48)))
        ((List.range n).zip (recordsOf as))) (fun rs => Num.ret (recordBeats (cdiv n 4) rs))) fu x d

/-- Count an operand fault (R182). -/
def operandFault (bad : Bool) : Num Unit := fun t => ((), if bad then { t with operandBad := t.operandBad + 1 } else t)

/-- The beat of an ACCF's biases: banked where the manifest says so (R246). -/
def biasBeat (x : Fire) (par : Nat) : Nat :=
  fld x.w 16 7 + (if x.im.banked.any (fun b => b.1 == x.e && b.2.1 == x.tile && b.2.2 == x.ctx * 32 + x.op) then par else 0)

/-- ACCF (R191, R169): group values in ascending group order onto the bias. -/
def accfOp (fu : Fused) (x : Fire) (d : Die) : Out × Die :=
  let w := x.w
  let nrec := fld w 41 36 + 1
  let nout := fld w 35 33 + 1
  let ng := nrec / nout
  let jb := fld w 32 25
  arith T.FAB_ACC_SAT T.FAB_FLUSH_ZERO (fun _ x par _ => if bit w 6 then [] else [biasBeat x par])
    (fun raw x par as bs =>
      let recs := ((recordsOf (as ++ bs)).take nrec).map (fun v => (bits v 48 8, bits v 32 16, bits v 0 32))
      let keys := recs.map (fun r => r.1 * 65536 + r.2.1)
      let bad := recs.any (fun r => decide (r.1 < jb) || decide (jb + nout ≤ r.1) || decide (ng ≤ r.2.1)) || keys.eraseDups.length != keys.length
      Num.seq (operandFault bad) (fun _ =>
        Num.seq (Num.all (fun o =>
          let gs := (List.range ng).map (fun k => match recs.find? (fun r => r.1 == jb + o && r.2.1 == k) with | some r => r.2.2 | none => 0)
          Num.seq (if bit w 6 then Num.ret 0 else norm32 (lane (raw (biasBeat x par)) o)) (fun b => accumulate b gs)) (List.range nout))
          (fun ls => Num.ret [beatOf ls]))) fu x d

/-- The observation of one lane of a tensor and group (R260). -/
def ObsRec.add (r : ObsRec) (v : Nat) (clipped : Bool) : ObsRec :=
  let sat (n : Nat) : Nat := min (n + 1) 0xFFFFFFFF
  let mag := v % 2 ^ 31
  { r with
    p := if v ≠ 0 ∧ bit v 31 = false then max r.p mag else r.p
    nn := if bit v 31 then max r.nn mag else r.nn
    samples := sat r.samples
    nonzero := if v ≠ 0 then sat r.nonzero else r.nonzero
    clipped := if clipped then sat r.clipped else r.clipped
    first := if r.nonzero = 0 ∧ v ≠ 0 then v else r.first
    diff := r.diff || (decide (0 < r.nonzero) && v != 0 && v != r.first) }

/-- Key of an observation record (R260). -/
def obsKey (step tensor group : Nat) : Nat := (step * 65536 + tensor) * 4096 + group

/-- Where the error state of an observation record stands (R509, kind 11): the controller keeps the records of 32 steps. -/
def obsLoc (e p step tensor group : Nat) : Nat := ((e * 64 + p) * 32 + step % 32) * 2 ^ 24 + tensor * 256 + group % 256

/-- The tensor and group the manifest maps an observed lane to (R251). -/
def obsMap (x : Fire) (qaddr l : Nat) : Option (Tensor × Nat) :=
  x.im.tensors.findSome? (fun t => (t.lanes.find? (fun y => laneOn x.im t x.tile y && y.2.1 == qaddr && y.2.2.1 == l)).map (fun y => (t, y.2.2.2)))

/-- One RQ lane's observation: to the step's record, and to a calibration's if its event is one of the running phase's (R260, R268). -/
def Die.observeLane (x : Fire) (slot l v sh : Nat) (f : Nat) (z : Int) (clipped : Bool) (d : Die) : Die :=
  match obsMap x (fld x.w 29 20) l with
  | none => d
  | some (t, g) =>
    let s := d.slotSt x slot
    let fresh := KMap.get {} (d.engPas x.e x.p).obs (obsKey s.step t.id g) == {}
    let d := if fresh then d.eccClear 11 (obsLoc x.e x.p s.step t.id g) else d
    let d := d.onEng x.e x.p (fun y => { y with obs := KMap.upd {} y.obs (obsKey s.step t.id g) (fun r => r.add v clipped) })
    let ph := d.get R.FAB_CAL_STATUS_PHASE x.p
    let c := (d.pasture x.p).cal
    if c.tensors.contains t.id ∧ ph = 1 ∧ s.cal = 1 then
      d.onPas x.p (fun q => { q with cal := { q.cal with obs := KMap.upd {} q.cal.obs (obsKey 0 t.id g) (fun r => r.add v clipped) } })
    else if c.tensors.contains t.id ∧ ph = 2 ∧ s.cal = 2 then
      let e := match KMap.get none c.proposal t.id with | some es => es.getD g (sext sh 16) | none => sext sh 16
      let clip := ((requantLane f (decode32 v {}).1 e z) {}).1.2
      d.onPas x.p (fun q => { q with cal := { q.cal with ver := KMap.upd {} q.cal.ver (obsKey 0 t.id g) (fun r => r.add v clip) } })
    else d

/-- Observed lanes of an RQ in order. -/
def Die.observeAll (x : Fire) (slot f : Nat) : List (Nat × Nat × Nat × Bool) → Die → Die
  | [], d => d
  | (l, v, pw, c) :: ys, d =>
    let d := if bit pw 24 then d.observeLane x slot l v (bits pw 0 16) f (sext (bits pw 16 8) 8) c else d
    Die.observeAll x slot f ys d

/-- RQ (R192, R252): its lanes' codes; observations follow a clean firing (R255, R260). -/
def rqOp (fu : Fused) (x : Fire) (d : Die) : Out × Die :=
  let w := x.w
  let f := fld w 41 38
  let qa := fld w 29 20
  let one (raw : Nat → Nat) (par : Nat) (l y : Nat) : Num (Nat × Nat × Nat × Nat × Bool) :=
    let pw := lane (raw (qa + par)) l
    Num.seq (norm32 y) (fun v => Num.seq (decode32 v) (fun o =>
      Num.seq (requantLane f o (sext (bits pw 0 16) 16) (sext (bits pw 16 8) 8)) (fun c => Num.ret (c.1, l, v, pw, c.2))))
  let all (raw : Nat → Nat) (par : Nat) (as : List Nat) := Num.all (fun (y : Nat × Nat) => one raw par y.1 y.2) ((List.range 8).zip (lanesOf as))
  let slot := slotA d x
  let r := arith T.FAB_VEC_SAT T.FAB_VEC_FLUSH (fun _ _ par _ => [qa + par])
    (fun raw _ par as _ => Num.seq (all raw par as) (fun cs =>
      Num.ret [(cs.map (fun c => c.1 * 2 ^ (fmtWidth f * (fld w 37 30 + c.2.1)))).sum])) fu x d
  let poisoned := r.1.outs.any (fun y => y.2.2.any (fun b => b.poison))
  if poisoned then r
  else
    let par := (d.slotSt x slot).par
    let as := ((d.queue x.tile x.ctx (opQa w)).take 1).map (fun b => b.data.toNat)
    (r.1, r.2.observeAll x slot f (((all (d.beat x.tile) par as) {}).1.map (fun c => c.2)))

/-- Where the error state of a table register stands (R509, kind 4). -/
def trLoc (tile c i : Nat) : Nat := (tile * 8 + c) * 2 + i

/-- ACT (R194): codes mapped through a table register. -/
def actOp (fu : Fused) (x : Fire) (d : Die) : Out × Die :=
  let w := x.w
  let fi := fld w 41 38
  let fo := fld w 37 34
  let tr := KMap.get {} (d.ctx x.tile x.ctx).tr (fld w 33 33)
  let te := d.eccRead fu 4 (trLoc x.tile x.ctx (fld w 33 33)) (some x.tile) (some x.p)
  let r := arith T.FAB_VEC_SAT T.FAB_VEC_FLUSH noReads
    (fun _ _ _ as _ => Num.ret [((List.range (fld w 32 28 + 1)).map (fun l =>
      let c := elem (as.headD 0) (fmtWidth fi) (fld w 27 20 + l)
      (byteAt tr.bytes c).toNat % 2 ^ fmtWidth fo * 2 ^ (fmtWidth fo * (fld w 19 12 + l)))).sum]) fu x te.2
  if tr.poison || te.1 then
    ({ r.1 with outs := r.1.outs.map (fun y => (y.1, y.2.1, y.2.2.map (fun b => { b with data := 0, poison := true }))) }, r.2)
  else r

/-- Beats of a vector operation's second operand in the tile store (R195). -/
def vecReads (w : Nat) : List Nat :=
  if fld w 38 37 = 1 then span (fld w 9 0) (fld w 9 0 + fld w 41 39 + 1) else []

/-- The lanes of the second operand (R195). -/
def vecB (raw : Nat → Nat) (w : Nat) (bs : List Nat) : List Nat :=
  let nb := fld w 41 39 + 1
  match fld w 38 37 with
  | 0 => lanesOf bs
  | 1 => lanesOf ((vecReads w).map raw)
  | _ => List.replicate (8 * nb) (fld w 31 0)

/-- A lane-wise operation with a second operand (R196). -/
def vecOp (f : Nat → Nat → Nat → Num Nat) (fu : Fused) (x : Fire) (d : Die) : Out × Die :=
  let w := x.w
  arith T.FAB_VEC_SAT T.FAB_VEC_FLUSH (fun _ _ _ _ => vecReads w)
    (fun raw _ _ as bs => Num.seq (Num.all (fun (p : Nat × Nat) =>
        Num.seq (norm32 p.1) (fun v => Num.seq (norm32 p.2) (fun u => f w v u))) ((lanesOf as).zip (vecB raw w bs)))
      (fun ls => Num.ret (beatsOf (fld w 41 39 + 1) ls))) fu x d

/-- RELU (R196). -/
def reluOp (fu : Fused) (x : Fire) (d : Die) : Out × Die :=
  let w := x.w
  let imm := fld w 31 0
  arith T.FAB_VEC_SAT T.FAB_VEC_FLUSH noReads
    (fun _ _ _ as _ => Num.seq (Num.all (fun y => Num.seq (norm32 y) (fun v =>
        if bit v 31 = false then Num.ret v else if imm = 0 then Num.ret 0 else mul32 v imm)) (lanesOf as))
      (fun ls => Num.ret (beatsOf (fld w 41 39 + 1) ls))) fu x d

/-- CLAMP (R196): min(max(v, lo), hi) by cmp32. -/
def clampLane (v lo hi : Nat) : Num Nat :=
  Num.seq (cmp32 v lo) (fun c => let m := if 0 ≤ c then v else lo
    Num.seq (cmp32 m hi) (fun c => Num.ret (if c ≤ 0 then m else hi)))

/-- CLAMP. -/
def clampOp (fu : Fused) (x : Fire) (d : Die) : Out × Die :=
  let w := x.w
  let nb := fld w 41 39 + 1
  let ba := fld w 9 0
  arith T.FAB_VEC_SAT T.FAB_VEC_FLUSH (fun _ _ _ _ => if fld w 38 37 = 1 then span ba (ba + 2 * nb) else [])
    (fun raw _ _ as _ =>
      let los := lanesOf ((span ba (ba + nb)).map raw)
      let his := lanesOf ((span (ba + nb) (ba + 2 * nb)).map raw)
      Num.seq (Num.all (fun (p : Nat × Nat × Nat) => Num.seq (norm32 p.1) (fun v =>
          if fld w 38 37 = 1 then
            Num.seq (norm32 p.2.1) (fun lo => Num.seq (norm32 p.2.2) (fun hi => clampLane v lo hi))
          else
            Num.seq (norm32 (fld w 31 0)) (fun h =>
              let hi := h % 2 ^ 31
              clampLane v (if hi = 0 then 0 else hi + 2 ^ 31) hi)))
        ((lanesOf as).zip (los.zip his ++ List.replicate (8 * nb) (0, 0))))
        (fun ls => Num.ret (beatsOf nb ls))) fu x d

/-- The relation of CMPV (R196). -/
def relHolds (sub : Nat) (c : Int) : Bool :=
  match sub with
  | 0 => c == 0
  | 1 => c != 0
  | 2 => decide (c < 0)
  | 3 => decide (c ≤ 0)
  | 4 => decide (0 < c)
  | _ => decide (0 ≤ c)

/-- SELV (R196): the true value from QB, the false one from BADDR or IMM. -/
def selvOp (fu : Fused) (x : Fire) (d : Die) : Out × Die :=
  let w := x.w
  arith T.FAB_VEC_SAT T.FAB_VEC_FLUSH (fun _ _ _ _ => vecReads w)
    (fun raw _ _ as bs => Num.seq (Num.all (fun (p : Nat × Nat × Nat) =>
        Num.seq (norm32 p.1) (fun c => Num.seq (norm32 p.2.1) (fun t => Num.seq (norm32 p.2.2) (fun u =>
          Num.ret (if c ≠ 0 then t else u))))) ((lanesOf as).zip ((lanesOf bs).zip (vecB raw w []))))
      (fun ls => Num.ret (beatsOf (fld w 41 39 + 1) ls))) fu x d

/-- NORM, AFFINE (R197). -/
def normAffineOp (fu : Fused) (x : Fire) (d : Die) : Out × Die :=
  let w := x.w
  let nb := fld w 41 39 + 1
  let ba := fld w 9 0
  arith T.FAB_VEC_SAT T.FAB_VEC_FLUSH (fun _ _ _ _ => span ba (ba + 2 * nb))
    (fun raw _ _ as _ => Num.seq (Num.all (fun (p : Nat × Nat × Nat) => affine32 p.1 p.2.1 p.2.2)
        ((lanesOf as).zip ((lanesOf ((span ba (ba + nb)).map raw)).zip (lanesOf ((span (ba + nb) (ba + 2 * nb)).map raw)))))
      (fun ls => Num.ret (beatsOf nb ls))) fu x d

/-- NORM, LAYER (R197). -/
def normLayerOp (fu : Fused) (x : Fire) (d : Die) : Out × Die :=
  let w := x.w
  arith T.FAB_VEC_SAT T.FAB_VEC_FLUSH noReads
    (fun _ _ _ as _ => Num.seq (layer32 (lanesOf as) (fld w 31 0)) (fun ls => Num.ret (beatsOf (fld w 41 39 + 1) ls))) fu x d

/-- ARGMAX (R198): the lowest index among equal largest values. -/
def argmaxOp (fu : Fused) (x : Fire) (d : Die) : Out × Die :=
  arith T.FAB_VEC_SAT T.FAB_VEC_FLUSH noReads
    (fun _ _ _ as _ => Num.seq (Num.all norm32 (lanesOf as)) (fun vs =>
      Num.seq (Num.fold (fun (best : Nat) i => Num.seq (cmp32 (vs.getD i 0) (vs.getD best 0)) (fun c =>
          Num.ret (if 0 < c then i else best))) 0 (span 1 vs.length))
        (fun best => Num.ret [beatOf [vs.getD best 0, best]]))) fu x d

/-- The walk of one tree (R199): the nodes visited, the last first. -/
def treeWalk (raw : Nat → Nat) (bins : Nat → Nat) (base : Nat) : Nat → List Nat → List Nat
  | 0, ns => ns
  | k + 1, ns =>
    let n := ns.headD 0
    let nd := tsWord raw (base + 4 * n)
    treeWalk raw bins base k ((if bins (bits nd 0 8) ≤ bits nd 8 8 then 2 * n + 1 else 2 * n + 2) :: ns)

/-- Walks of all trees of a TREE. -/
def treeWalks (raw : Nat → Nat) (w : Nat) (as : List Nat) : List (List Nat) :=
  let dep := fld w 34 32 + 1
  (List.range (fld w 38 35 + 1)).map (fun t =>
    treeWalk raw (fun f => bits (as.getD (f / 32) 0) (8 * (f % 32)) 8) (32 * fld w 31 22 + 4 * (t * 2 ^ dep)) dep [0])

/-- TREE (R199). -/
def treeOp (fu : Fused) (x : Fire) (d : Die) : Out × Die :=
  let w := x.w
  let dep := fld w 34 32 + 1
  arith T.FAB_VEC_SAT T.FAB_VEC_FLUSH
    (fun raw _ _ as => ((List.range (fld w 38 35 + 1)).zip (treeWalks raw w as)).flatMap (fun y =>
      (y.2.drop 1).map (fun n => (32 * fld w 31 22 + 4 * (y.1 * 2 ^ dep + n)) / 32)))
    (fun raw _ _ as _ => Num.ret [(((List.range (fld w 38 35 + 1)).zip (treeWalks raw w as)).map (fun y =>
      (y.2.headD 0 - (2 ^ dep - 1)) % 256 * 2 ^ (8 * (fld w 21 17 + y.1)))).sum % 2 ^ 256]) fu x d

/-- The byte of a leaf value (R200). -/
def leafByte (w t x o : Nat) : Nat := 32 * fld w 25 16 + 4 * ((t * 2 ^ (fld w 37 35 + 1) + x) * (fld w 34 32 + 1) + o)

/-- The leaf index of tree t (R200): byte IBASE + t of the QA beat; a byte past the beat's 32 is a free value. -/
def leafIdx (w v t : Nat) : Nat :=
  let i := fld w 31 27 + t
  if i < 32 then bits v (8 * i) 8 else (Config.pastBeat (BitVec.ofNat 256 v) i).toNat

/-- LEAF (R200): leaf values added in ascending tree order. -/
def leafOp (fu : Fused) (x : Fire) (d : Die) : Out × Die :=
  let w := x.w
  let nt := fld w 41 38 + 1
  let no := fld w 34 32 + 1
  let idx (as : List Nat) (t : Nat) : Nat := leafIdx w (as.headD 0) t
  let lim := 2 ^ (fld w 37 35 + 1)
  arith T.FAB_VEC_SAT T.FAB_VEC_FLUSH
    (fun _ _ _ as => (if bit w 26 = false ∧ bit w 5 = false then [fld w 15 6] else [])
      ++ (List.range nt).flatMap (fun t => if idx as t < lim then (List.range no).map (fun o => leafByte w t (idx as t) o / 32) else []))
    (fun raw _ _ as bs =>
      Num.seq (operandFault ((List.range nt).any (fun t => decide (lim ≤ idx as t)))) (fun _ =>
        Num.seq (Num.all (fun o =>
          Num.seq (if bit w 26 then norm32 (lane (bs.headD 0) o) else if bit w 5 = false then norm32 (lane (raw (fld w 15 6)) o) else Num.ret 0)
            (fun a => accumulate a ((List.range nt).map (fun t => if idx as t < lim then tsWord raw (leafByte w t (idx as t) o) else 0))))
          (List.range no)) (fun ls => Num.ret [beatOf ls]))) fu x d

/-- A lane of MAXV (R196). -/
def maxLane (_ : Nat) (v u : Nat) : Num Nat := Num.seq (cmp32 v u) (fun c => Num.ret (if 0 ≤ c then v else u))
/-- A lane of MINV (R196). -/
def minLane (_ : Nat) (v u : Nat) : Num Nat := Num.seq (cmp32 v u) (fun c => Num.ret (if c ≤ 0 then v else u))
/-- A lane of CMPV (R196). -/
def cmpLane (w : Nat) (v u : Nat) : Num Nat := Num.seq (cmp32 v u) (fun c => Num.ret (if relHolds (fld w 36 34) c then 0x3F800000 else 0))

/-- DOT. -/
def execTDot (tile ctx op : Nat) (s : State) : Host.Outcome State Fault Refusal := tileCmd (fun w => opc w == 1) dotOp tile ctx op s
/-- DOTA. -/
def execTDota (tile ctx op : Nat) (s : State) : Host.Outcome State Fault Refusal := tileCmd (fun w => opc w == 2) dotaOp tile ctx op s
/-- DWC. -/
def execTDwc (tile ctx op : Nat) (s : State) : Host.Outcome State Fault Refusal := tileCmd (fun w => opc w == 3) dwcOp tile ctx op s
/-- EXPAND. -/
def execTExpand (tile ctx op : Nat) (s : State) : Host.Outcome State Fault Refusal := tileCmd (fun w => opc w == 4) expandOp tile ctx op s
/-- SCALEG. -/
def execTScaleg (tile ctx op : Nat) (s : State) : Host.Outcome State Fault Refusal := tileCmd (fun w => opc w == 5) scalegOp tile ctx op s
/-- ACCF. -/
def execTAccf (tile ctx op : Nat) (s : State) : Host.Outcome State Fault Refusal := tileCmd (fun w => opc w == 6) accfOp tile ctx op s
/-- RQ. -/
def execTRq (tile ctx op : Nat) (s : State) : Host.Outcome State Fault Refusal := tileCmd (fun w => opc w == 7) rqOp tile ctx op s
/-- ACT. -/
def execTAct (tile ctx op : Nat) (s : State) : Host.Outcome State Fault Refusal := tileCmd (fun w => opc w == 8) actOp tile ctx op s
/-- RELU. -/
def execTRelu (tile ctx op : Nat) (s : State) : Host.Outcome State Fault Refusal := tileCmd (fun w => opc w == 9) reluOp tile ctx op s
/-- CLAMP. -/
def execTClamp (tile ctx op : Nat) (s : State) : Host.Outcome State Fault Refusal := tileCmd (fun w => opc w == 10) clampOp tile ctx op s
/-- ADDV (R196). -/
def execTAddv (tile ctx op : Nat) (s : State) : Host.Outcome State Fault Refusal :=
  tileCmd (fun w => opc w == 11) (vecOp (fun _ => add32)) tile ctx op s
/-- MULV (R196). -/
def execTMulv (tile ctx op : Nat) (s : State) : Host.Outcome State Fault Refusal :=
  tileCmd (fun w => opc w == 12) (vecOp (fun _ => mul32)) tile ctx op s
/-- MAXV (R196). -/
def execTMaxv (tile ctx op : Nat) (s : State) : Host.Outcome State Fault Refusal :=
  tileCmd (fun w => opc w == 13) (vecOp maxLane) tile ctx op s
/-- MINV (R196). -/
def execTMinv (tile ctx op : Nat) (s : State) : Host.Outcome State Fault Refusal :=
  tileCmd (fun w => opc w == 14) (vecOp minLane) tile ctx op s
/-- CMPV (R196). -/
def execTCmpv (tile ctx op : Nat) (s : State) : Host.Outcome State Fault Refusal :=
  tileCmd (fun w => opc w == 15) (vecOp cmpLane) tile ctx op s
/-- SELV. -/
def execTSelv (tile ctx op : Nat) (s : State) : Host.Outcome State Fault Refusal := tileCmd (fun w => opc w == 16) selvOp tile ctx op s
/-- NORM, AFFINE. -/
def execTNormAffine (tile ctx op : Nat) (s : State) : Host.Outcome State Fault Refusal :=
  tileCmd (fun w => opc w == 17 && fld w 36 34 == 0) normAffineOp tile ctx op s
/-- NORM, LAYER. -/
def execTNormLayer (tile ctx op : Nat) (s : State) : Host.Outcome State Fault Refusal :=
  tileCmd (fun w => opc w == 17 && fld w 36 34 == 1) normLayerOp tile ctx op s
/-- ARGMAX. -/
def execTArgmax (tile ctx op : Nat) (s : State) : Host.Outcome State Fault Refusal := tileCmd (fun w => opc w == 18) argmaxOp tile ctx op s
/-- TREE. -/
def execTTree (tile ctx op : Nat) (s : State) : Host.Outcome State Fault Refusal := tileCmd (fun w => opc w == 19) treeOp tile ctx op s
/-- LEAF. -/
def execTLeaf (tile ctx op : Nat) (s : State) : Host.Outcome State Fault Refusal := tileCmd (fun w => opc w == 20) leafOp tile ctx op s

end Sys2Proof.Machine
end

