-- ==== Sys2Proof/Machine/TileMove.lean ====
section
/-! DEFINITION. The operations of the move and control units (R205 to R235): movement, windows, keyed state, folding, barriers,
digests, steps, halts and decisions, and their commands. -/

namespace Sys2Proof.Machine

/-- Beats that move with their sideband; a poisoned firing moves zeros, poisoned (R182). -/
def moved (bad : Bool) (bs : List QBeat) : List QBeat := if bad then bs.map (fun b => { b with data := 0, poison := true }) else bs

/-- Whether any beat carries LAST. -/
def anyLast (bs : List QBeat) : Bool := bs.any (fun b => b.last)

/-- MOVQ (R208, R206): queue to queue, queue to tile store, or tile store to queue. -/
def movqOp (fu : Fused) (x : Fire) (d : Die) : Out × Die :=
  let w := x.w
  let nb := fld w 41 39 + 1
  let ba := fld w 36 27
  let k := d.take fu x
  match fld w 38 37 with
  | 0 => (⟨[(opCtx w, opQd w, moved k.1.bad k.1.a)], k.1.slot, anyLast k.1.a, []⟩, k.2)
  | 1 =>
    let d := (((List.range nb).zip k.1.a).foldl (fun d y => d.putBeat x.tile (ba + y.1) (if k.1.bad then 0 else y.2.data.toNat) k.1.bad) k.2)
    (⟨[], k.1.slot, anyLast k.1.a, moved k.1.bad k.1.a⟩, d)
  | _ =>
    let r := k.2.readBeats fu x (span ba (ba + nb))
    (⟨[(opCtx w, opQd w, outBeats k.1.slot (k.1.bad || r.1) ((span ba (ba + nb)).map (k.2.beat x.tile)))], k.1.slot, true, []⟩, r.2)

/-- BCAST (R209). -/
def bcastOp (fu : Fused) (x : Fire) (d : Die) : Out × Die :=
  let k := d.take fu x
  (⟨(bcastQs (fld x.w 38 33)).map (fun q => (opCtx x.w, q, moved k.1.bad k.1.a)), k.1.slot, anyLast k.1.a, []⟩, k.2)

/-- Beats joined, beat 0 lowest. -/
def joinBeats (vs : List Nat) : Nat := vs.foldr (fun v a => v + a * 2 ^ 256) 0

/-- GATHER (R210). -/
def gatherOp (fu : Fused) (x : Fire) (d : Die) : Out × Die :=
  let w := x.w
  let ew := ewOf w
  let no := fld w 31 29 + 1
  let n := no * (256 / ew)
  let ma := fld w 28 19
  arith T.FAB_VEC_SAT T.FAB_VEC_FLUSH (fun _ _ _ _ => span ma (ma + cdiv (2 * n) 32))
    (fun raw _ _ as bs =>
      let inp := joinBeats (as ++ bs)
      let out := ((List.range n).map (fun e =>
        let m := tsHalf raw (32 * ma + 2 * e)
        if bit m 15 then 0 else bits inp (ew * bits m 0 12) ew * 2 ^ (ew * e))).sum
      Num.ret ((List.range no).map (fun i => bits out (256 * i) 256))) fu x d

/-- SCATTER (R211): elements merged into tile-store beats through the map. -/
def scatterOp (fu : Fused) (x : Fire) (d : Die) : Out × Die :=
  let w := x.w
  let ew := ewOf w
  let ndb := fld w 35 31 + 1
  let ba := fld w 30 21
  let ma := fld w 20 11
  let k := d.take fu x
  let n := k.1.a.length * (256 / ew)
  let r := k.2.readBeats fu x (span ma (ma + cdiv (2 * n) 32) ++ span ba (ba + ndb))
  let bad := k.1.bad || r.1
  let raw := k.2.beat x.tile
  let inp := joinBeats (k.1.a.map (fun b => b.data.toNat))
  let old := joinBeats ((span ba (ba + ndb)).map raw)
  let new := (List.range n).foldl (fun a i =>
    let m := tsHalf raw (32 * ma + 2 * i)
    if bit m 15 then a else setBits a (ew * bits m 0 13) ew (bits inp (ew * i) ew)) old
  (⟨[], k.1.slot, anyLast k.1.a, outBeats k.1.slot bad ((List.range ndb).map (fun i => bits new (256 * i) 256))⟩,
    (List.range ndb).foldl (fun d i => d.putBeat x.tile (ba + i) (if bad then 0 else bits new (256 * i) 256) bad) r.2)

/-- SHIFTW (R215, R218): the window advances; markers go out clean even where the tap is poisoned. -/
def shiftwOp (fu : Fused) (x : Fire) (d : Die) : Out × Die :=
  let w := x.w
  let win := fld w 41 39
  let len := fld w 28 23 + 1
  let k := d.take fu x
  let h := (KMap.get 0 (k.2.ctx x.tile x.ctx).heads win + 1) % len
  let d := k.2.onCtx x.tile x.ctx (fun c => { c with heads := KMap.set 0 c.heads win h })
  let v := match k.1.a with | b :: _ => b.data.toNat | [] => 0
  let d := d.putBeat x.tile (fld w 38 29 + h) (if k.1.bad then 0 else v) k.1.bad
  let d := if k.1.bad then d.count T.FAB_WINDOW_POISON x.p else d
  let mk : QBeat := ⟨BitVec.ofNat 256 (h + win * 256), k.1.slot, false, true⟩
  (⟨(lqs (fld w 22 19)).map (fun q => (opCtx w, q, [mk])), k.1.slot, anyLast k.1.a, outBeats k.1.slot k.1.bad [v]⟩, d)

/-- PACK (R212): bitwise OR; a bit set twice is an operand fault. -/
def packOp (fu : Fused) (x : Fire) (d : Die) : Out × Die :=
  arith T.FAB_VEC_SAT T.FAB_VEC_FLUSH noReads
    (fun _ _ _ as _ =>
      let r := as.foldl (fun (a : Nat × Bool) v => (Nat.lor a.1 v, a.2 || Nat.land a.1 v != 0)) (0, false)
      Num.seq (operandFault r.2) (fun _ => Num.ret [r.1])) fu x d

/-- UNPACK (R213). -/
def unpackOp (fu : Fused) (x : Fire) (d : Die) : Out × Die :=
  let w := x.w
  let f := fld w 41 38
  let n := fld w 34 29 + 1
  arith T.FAB_VEC_SAT T.FAB_VEC_FLUSH noReads
    (fun _ _ _ as _ =>
      let inp := joinBeats as
      Num.seq (Num.all (fun k => Num.seq (expand f (elem inp (fmtWidth f) (fld w 28 18 + k)) 0) (fun o =>
          round32 o.s o.m (o.x + sext (fld w 17 10) 8))) (List.range n))
        (fun ls => Num.ret (beatsOf (cdiv n 8) ls))) fu x d

/-- RING (R219, R220): a row of a table for the event. -/
def ringOp (fu : Fused) (x : Fire) (d : Die) : Out × Die :=
  let w := x.w
  let nb := fld w 34 32 + 1
  let k := d.take fu x
  let v := match k.1.a with | b :: _ => b.data.toNat | [] => 0
  let key := if bit w 38 then lane v (fld w 37 35) else (k.2.slotSt x k.1.slot).ev.er.key
  let l := if k.1.bad then ((⟨[], 0, false, true⟩ : Looked), k.2) else k.2.lookup fu x.p (fld w 41 39) key
  let off := fld w 31 27
  let bs := (List.range nb).map (fun i => leNat (slice l.1.row (32 * (off + i)) 32))
  (⟨[(opCtx w, opQd w, outBeats k.1.slot (k.1.bad || l.1.poison) bs)], k.1.slot, anyLast k.1.a, []⟩, l.2)

/-- RING whose row returns after RT (R221): counted, and written on arrival. -/
def ringLateOp (fu : Fused) (x : Fire) (d : Die) : Out × Die :=
  let r := ringOp fu x d
  (r.1, (r.2.count T.FAB_RING_LATE x.p).count T.FAB_TIMING_CHOICE x.p)

/-- STOREK (R222 to R224). -/
def storekOp (fu : Fused) (x : Fire) (d : Die) : Out × Die :=
  let k := d.take fu x
  let bs := (joinBeats (k.1.a.map (fun b => b.data.toNat)))
  (⟨[], k.1.slot, anyLast k.1.a, []⟩,
    k.2.storek (k.2.slotSt x k.1.slot).ev x.p (fld x.w 41 39) (leBytes (32 * k.1.a.length) bs) k.1.bad)

/-- FOLD (R225): into a local queue partition of another context. -/
def foldOp (fu : Fused) (x : Fire) (d : Die) : Out × Die :=
  let k := d.take fu x
  (⟨[(fld x.w 41 39, opQd x.w, moved k.1.bad k.1.a)], k.1.slot, anyLast k.1.a, []⟩, k.2)

/-- BARRIER in its three modes (R226): beats pass from QA to QD; JOIN also consumes the token of QB. -/
def barrierOp (fu : Fused) (x : Fire) (d : Die) : Out × Die :=
  let k := d.take fu x
  (⟨[(opCtx x.w, opQd x.w, moved k.1.bad k.1.a)], k.1.slot, anyLast k.1.a, []⟩, k.2)

/-- The source, instance and pasture of an engine's trace packets (R549). -/
def Die.engTrace (type e p : Nat) (a : Bool) (body : List Byte) (d : Die) : Die := d.trace ⟨type, a, 0, e, some p, body⟩

/-- The initial value of a digest register (R227). -/
def digestInit (dr tile imageId : Nat) : Nat := dr * 2 ^ 56 + tile * 2 ^ 32 + imageId

/-- DIGEST (R227, R228): folds beats, passes them as they arrived, and reports every 2^E firings. -/
def digestOp (fu : Fused) (x : Fire) (d : Die) : Out × Die :=
  let w := x.w
  let dr := fld w 41 40
  let k := d.take fu x
  let g0 := KMap.get {} (k.2.tile x.tile).digests dr
  let g := k.1.a.foldl (fun (g : DigReg) b =>
    if b.poison then { g with d := mix64 g.d (2 ^ 64 - 1), seen := true } else { g with d := mixBeat g.d b.data.toNat }) g0
  let n := k.2.fires x.tile x.ctx x.op + 1
  let d := k.2.onTile x.tile (fun t => { t with digests := KMap.set {} t.digests dr g })
  let d := if n % 2 ^ fld w 35 32 = 0 then
      d.engTrace 2 x.e x.p true (leBytes 8 g.d ++ leBytes 4 n ++ leBytes 1 (b2n g.seen) ++ leBytes 1 dr ++ leBytes 2 x.tile
        ++ leBytes 8 (d.engPas x.e x.p).step ++ leBytes 4 x.im.imageId)
    else d
  (⟨if bit w 36 then [(opCtx w, opQd w, k.1.a)] else [], k.1.slot, anyLast k.1.a, []⟩, d)

/-- The digest registers an image's DIGEST operations name on an engine, in ascending tile and register (R551). -/
def namedRegs (ei : EngineImg) (e : Nat) : List (Nat × Nat) :=
  ((List.range 512).flatMap (fun t => match tileImg ei t with
    | none => []
    | some y =>
      let drs := y.cfg.ctxs.flatMap (fun c => (c.ops.filter (fun o => opc o.toNat == 33)).map (fun o => fld o.toNat 41 40))
      ((List.range 4).filter drs.contains).map (fun r => (e * 512 + t, r))))

/-- The step digest packet (R229, R550 type 3, R551). -/
def Die.stepPacket (e p : Nat) (im : Image) (ei : EngineImg) (step : Nat) (nostep : Bool) (d : Die) : Die :=
  let rs := (namedRegs ei e).map (fun r => KMap.get {} (d.tile r.1).digests r.2)
  let g := d.engPas e p
  let ld := rs.foldl (fun a r => mix64 a r.d) step
  d.engTrace 3 e p true (leBytes 8 step ++ leBytes 8 (if nostep then g.ed else KMap.get 0 g.eds step) ++ leBytes 8 ld ++ leBytes 4 im.imageId
    ++ leBytes 2 rs.length ++ leBytes 1 (b2n (rs.any (fun r => r.seen)) + 2 * b2n nostep))

/-- N of the image's STEP on an engine (R229); none without STEP. -/
def stepN (ei : EngineImg) : Option Nat :=
  ei.tiles.findSome? (fun t => t.cfg.ctxs.findSome? (fun c =>
    (c.ops.find? (fun o => opc o.toNat == 34)).map (fun o => fld o.toNat 41 26 + 1)))

/-- STEP (R229): every N-th firing closes a step. -/
def stepOp (fu : Fused) (x : Fire) (d : Die) : Out × Die :=
  let w := x.w
  let n := fld w 41 26 + 1
  let k := d.take fu x
  let d := k.2.onEng x.e x.p (fun y => { y with stepFires := y.stepFires + 1 })
  let g := d.engPas x.e x.p
  let d := if g.stepFires % n = 0 then
      (d.stepPacket x.e x.p x.im x.ei g.step false).onEng x.e x.p (fun y =>
        { y with step := (y.step + 1) % 2 ^ 64, eds := KMap.set 0 y.eds g.step 0 })
    else d
  (⟨if bit w 25 then [(opCtx w, opQd w, moved k.1.bad k.1.a)] else [], k.1.slot, anyLast k.1.a, []⟩, d)

/-- NOP (R230): nothing. -/
def nopOp (_ : Fused) (x : Fire) (d : Die) : Out × Die :=
  (⟨[], (match (d.engPas x.e x.p).flight with | n :: _ => n | [] => 0), true, []⟩, d)

/-- Quarters of engine e that pasture p holds. -/
def Die.quartersOf (d : Die) (e p : Nat) : List Nat := (List.range 4).filter (fun q => d.ownsQuarter p e q)

/-- Close the entries of every quarter pasture p holds on engine e (R144). -/
def Die.closeEntry (e p : Nat) (d : Die) : Die :=
  let d := { d with closed := (d.quartersOf e p).foldl (fun m q => KMap.set false m (e * 4 + q) true) d.closed }
  d.flag R.ENG_STATUS_BUSY e true

/-- HALT (R231). -/
def haltOp (fu : Fused) (x : Fire) (d : Die) : Out × Die :=
  let k := d.take fu x
  let v := match k.1.a with | b :: _ => b.data.toNat | [] => 0
  let o : Out := ⟨[], k.1.slot, anyLast k.1.a, []⟩
  if k.1.bad then (o, k.2.consumePoison x.p)
  else if lane v (fld x.w 41 39) = 0 then (o, k.2)
  else
    let d := (k.2.closeEntry x.e x.p).count T.FAB_HALTS x.p
    if d.on R.FAB_HALT_VALID x.p then (o, d)
    else
      (o, (((d.flag R.FAB_HALT_VALID x.p true).put R.FAB_HALT_SLOT x.p k.1.slot).put R.FAB_HALT_TILE x.p x.tile).putPair
        R.FAB_HALT_EVID_LO R.FAB_HALT_EVID_HI x.p (d.slotSt x k.1.slot).ev.er.evid)

/-- The action descriptor of an EMIT (R233). -/
def emitDesc (w : Nat) : Nat :=
  fld w 37 35 + fld w 34 31 * 2 ^ 3 + fld w 30 23 * 2 ^ 7 + fld w 22 13 * 2 ^ 15 + fld w 12 9 * 2 ^ 25

/-- EMIT (R232, R233, R235). -/
def emitOp (fu : Fused) (x : Fire) (d : Die) : Out × Die :=
  let w := x.w
  let k := d.take fu x
  let v := match k.1.a with | b :: _ => b.data.toNat | [] => 0
  let go := k.1.bad || !(bit w 41) || lane v (fld w 40 38) != 0
  let b : QBeat := ⟨BitVec.ofNat 256 ((if k.1.bad then 0 else v % 2 ^ 192) + emitDesc w * 2 ^ 192), k.1.slot, k.1.bad, true⟩
  if go then (⟨[(opCtx w, opQd w, [b])], k.1.slot, true, []⟩, k.2.count T.FAB_DECISIONS x.p)
  else (⟨[], k.1.slot, true, []⟩, k.2)

/-- NOP. -/
def execTNop (tile ctx op : Nat) (s : State) : Host.Outcome State Fault Refusal := tileCmd (fun w => opc w == 0) nopOp tile ctx op s
/-- MOVQ. -/
def execTMovq (tile ctx op : Nat) (s : State) : Host.Outcome State Fault Refusal := tileCmd (fun w => opc w == 21) movqOp tile ctx op s
/-- BCAST. -/
def execTBcast (tile ctx op : Nat) (s : State) : Host.Outcome State Fault Refusal := tileCmd (fun w => opc w == 22) bcastOp tile ctx op s
/-- GATHER. -/
def execTGather (tile ctx op : Nat) (s : State) : Host.Outcome State Fault Refusal := tileCmd (fun w => opc w == 23) gatherOp tile ctx op s
/-- SCATTER. -/
def execTScatter (tile ctx op : Nat) (s : State) : Host.Outcome State Fault Refusal := tileCmd (fun w => opc w == 24) scatterOp tile ctx op s
/-- SHIFTW. -/
def execTShiftw (tile ctx op : Nat) (s : State) : Host.Outcome State Fault Refusal := tileCmd (fun w => opc w == 25) shiftwOp tile ctx op s
/-- PACK. -/
def execTPack (tile ctx op : Nat) (s : State) : Host.Outcome State Fault Refusal := tileCmd (fun w => opc w == 26) packOp tile ctx op s
/-- UNPACK. -/
def execTUnpack (tile ctx op : Nat) (s : State) : Host.Outcome State Fault Refusal := tileCmd (fun w => opc w == 27) unpackOp tile ctx op s
/-- RING. -/
def execTRing (tile ctx op : Nat) (s : State) : Host.Outcome State Fault Refusal := tileCmd (fun w => opc w == 28) ringOp tile ctx op s
/-- RING_LATE: in Locked mode no row returns late (R220). -/
def execTRingLate (tile ctx op : Nat) (s : State) : Host.Outcome State Fault Refusal :=
  tileCmd (fun w => opc w == 28 && s.die.get R.DEV_TIMING_STATUS_MODE == 0) ringLateOp tile ctx op s
/-- STOREK. -/
def execTStorek (tile ctx op : Nat) (s : State) : Host.Outcome State Fault Refusal := tileCmd (fun w => opc w == 29) storekOp tile ctx op s
/-- FOLD. -/
def execTFold (tile ctx op : Nat) (s : State) : Host.Outcome State Fault Refusal := tileCmd (fun w => opc w == 30) foldOp tile ctx op s
/-- BARRIER, JOIN. -/
def execTBarrierJoin (tile ctx op : Nat) (s : State) : Host.Outcome State Fault Refusal :=
  tileCmd (fun w => opc w == 31 && fld w 41 40 == 0) barrierOp tile ctx op s
/-- BARRIER, ENTER. -/
def execTBarrierEnter (tile ctx op : Nat) (s : State) : Host.Outcome State Fault Refusal :=
  tileCmd (fun w => opc w == 31 && fld w 41 40 == 1) barrierOp tile ctx op s
/-- BARRIER, LEAVE. -/
def execTBarrierLeave (tile ctx op : Nat) (s : State) : Host.Outcome State Fault Refusal :=
  tileCmd (fun w => opc w == 31 && fld w 41 40 == 2) barrierOp tile ctx op s
/-- DIGEST. -/
def execTDigest (tile ctx op : Nat) (s : State) : Host.Outcome State Fault Refusal := tileCmd (fun w => opc w == 33) digestOp tile ctx op s
/-- STEP. -/
def execTStep (tile ctx op : Nat) (s : State) : Host.Outcome State Fault Refusal := tileCmd (fun w => opc w == 34) stepOp tile ctx op s
/-- HALT. -/
def execTHalt (tile ctx op : Nat) (s : State) : Host.Outcome State Fault Refusal := tileCmd (fun w => opc w == 35) haltOp tile ctx op s
/-- EMIT. -/
def execTEmit (tile ctx op : Nat) (s : State) : Host.Outcome State Fault Refusal := tileCmd (fun w => opc w == 32) emitOp tile ctx op s

end Sys2Proof.Machine
end

