-- ==== Sys2Proof/Machine/Scales.lean ====
section
/-! DEFINITION. Activation scales (R242 to R272): static values, banks, commit points, the running maximum, shares, calibration and
expert control, and their commands. -/

namespace Sys2Proof.Machine

/-- Tensors of an image on engine e. -/
def tensorsOn (im : Image) (e : Nat) : List Tensor := im.tensors.filter (fun t => t.engine == e || im.shape == 1)

/-- A tensor of an image. -/
def tensorOf (im : Image) (id : Nat) : Option Tensor := im.tensors.find? (fun t => t.id == id)

/-- The static exponents and zero point of a tensor (R249). -/
def EngPas.staticOf (g : EngPas) (t : Tensor) : List Int × Int := (KMap.get none g.statics t.id).getD (t.exps, t.zp)

/-- A tensor that runs under the running maximum: RUNNING and not made STATIC (R249, R272). -/
def EngPas.runs (g : EngPas) (t : Tensor) : Bool := t.running && !(g.forced.contains t.id)

/-- XA of group exponents (R244). -/
def xaOf (es : List Int) : Int := (es.foldl max (es.headD 0)) - 15

/-- The exponent a group is held at (R244): XA + da(k). -/
def heldExp (es : List Int) (k : Nat) : Int := max (es.getD k 0) (xaOf es)

/-- The exponents in force of groups that a bank holds as XA + da(k) (R244). -/
def heldExps (es : List Int) : List Int := (List.range es.length).map (heldExp es)

/-- Write a tensor's activation level into bank par of one scale block (R242, R244). -/
def Die.writeBlock (tile saddr par : Nat) (es : List Int) (d : Die) : Die :=
  let la := cdiv (bits (d.beat tile saddr) 16 8 + 8) 64
  let ab := saddr + 1 + par * la
  let das := (List.range es.length).foldl (fun a k => setBits a (4 * (8 + k)) 4 (heldExp es k - xaOf es).toNat) (low (xaOf es) 16)
  (List.range la).foldl (fun d i => d.putBeat tile (ab + i) (bits das (256 * i) 256) false) d

/-- Write a tensor's shift and zero point into bank par of one RQ parameter lane (R251). -/
def Die.writeLane (tile qaddr l par : Nat) (sh z : Int) (d : Die) : Die :=
  let b := d.beat tile (qaddr + par)
  d.putBeat tile (qaddr + par) (setBits (setBits b (32 * l) 16 (low sh 16)) (32 * l + 16) 8 (low z 8)) false

/-- The corrected bias of R258, rounded once. -/
def biasValue (b : BiasRec) (es : List Int) (z : Int) : Num Nat :=
  Num.seq (read32 b.bias.toNat) (fun o =>
    let terms := (List.range b.sums.length).map (fun k =>
      match b.sums.getD k (0, 0, 0) with | (rs, m, x) => (-(z * rs * (m : Int)), x + heldExp es k))
    let e := (terms.filter (fun t => t.1 != 0)).foldl (fun e t => min e t.2) (if o.m = 0 then 0 else o.x)
    let e := if o.m = 0 then (match (terms.filter (fun t => t.1 != 0)).map (fun t => t.2) with | [] => 0 | y :: ys => ys.foldl min y) else e
    let v := (terms.map (fun t => t.1 * (2 : Int) ^ (t.2 - e).toNat)).foldl (· + ·) (if o.m = 0 then 0 else o.int e)
    if v = 0 then Num.ret 0 else roundInt v e)

/-- Write the values of a tensor into bank par of engine e: blocks, RQ lanes and corrected biases (R246 to R248, R258). In a span a block or a
bias may stand on the other engine. -/
def Die.writeTensor (e p par : Nat) (im : Image) (t : Tensor) (es : List Int) (z : Int) (d : Die) : Die :=
  let at_ (tile : Nat) : Nat := (if im.shape = 2 then tileEng tile else e) * 512 + tile % 512
  let d := t.blocks.foldl (fun d b => d.writeBlock (at_ b.1) b.2 par es) d
  let d := t.lanes.foldl (fun d y => d.writeLane (e * 512 + y.1 % 512) y.2.1 y.2.2.1 par (heldExp es y.2.2.2) z) d
  let d := im.biases.foldl (fun d b =>
    if b.tensor = t.id then
      let v := biasValue b es z {}
      let d := ((d.countBy T.FAB_SCALE_SAT p v.2.sat).countBy T.FAB_FLUSH_ZERO p v.2.flush).countBy T.FAB_CODE_SPECIAL p v.2.special
      let tile := (if im.shape = 2 then b.engine else e) * 512 + b.tile % 512
      d.putBeat tile (b.baddr + par) (setBits (d.beat tile (b.baddr + par)) (32 * b.lane) 32 v.1) false
    else d) d
  d.onEng e p (fun g => { g with banks := KMap.set none g.banks (t.id * 2 + par) (some (es, z)) })

/-- Write the static values of every tensor into a bank (R247, R250). -/
def Die.writeStatics (e p par : Nat) (im : Image) (d : Die) : Die :=
  (tensorsOn im e).foldl (fun d t => let v := (d.engPas e p).staticOf t; d.writeTensor e p par im t v.1 v.2) d

/-- Capacities of the two sides of a format under a zero point (R263). -/
def capacity (f : Nat) (z : Int) : Nat × Nat :=
  match intLimits f with
  | some (lo, hi) => ((hi - z).toNat, (z - lo).toNat)
  | none => let p := floatPar f; let c := p.2.2.1.toNat * 2 ^ p.2.2.2.1.toNat; (c, c)

/-- group_exp (R263); none where the previous exponent stands. -/
def groupExp (p nn cp cn cb : Nat) : Option Int :=
  let a := if p ≠ 0 ∧ cp ≠ 0 then some (needExp (decode32 p {}).1 cp) else none
  let b := if nn ≠ 0 ∧ cn ≠ 0 then some (needExp (decode32 nn {}).1 cn) else none
  match a, b with
  | none, none => none
  | some x, none => some (x - cb)
  | none, some y => some (y - cb)
  | some x, some y => some (max x y - cb)

/-- Records combined: maxima by maximum, counts by sum (R263). -/
def ObsRec.join (a b : ObsRec) : ObsRec :=
  { p := max a.p b.p, nn := max a.nn b.nn, samples := min (a.samples + b.samples) 0xFFFFFFFF
    nonzero := min (a.nonzero + b.nonzero) 0xFFFFFFFF, clipped := min (a.clipped + b.clipped) 0xFFFFFFFF
    first := if a.first = 0 then b.first else a.first
    diff := a.diff || b.diff || (a.first != 0 && b.first != 0 && a.first != b.first)
    bad := a.bad || b.bad }

/-- The record of a tensor's group over steps. -/
def obsOver (m : KMap ObsRec) (steps : List Nat) (t g : Nat) : ObsRec :=
  steps.foldl (fun r s => r.join (KMap.get {} m (obsKey s t g))) {}

/-- The clipped share of records (R266). -/
def shareOf (rs : List ObsRec) : Nat :=
  let nz := (rs.map (fun r => r.nonzero)).sum
  if nz = 0 then 0 else min (65536 * (rs.map (fun r => r.clipped)).sum / nz) 0xFFFF

/-- A saturation event (R267). -/
def Die.satEvent (e p t step share : Nat) (d : Die) : Die :=
  let d := d.count T.FAB_SAT_EVENTS p
  let d := if d.on R.FAB_SAT_SAT_EVENT p then d else (d.flag R.FAB_SAT_SAT_EVENT p true).put R.FAB_SAT_TENSOR p t
  d.engTrace 7 e p true (leBytes 2 t ++ leBytes 2 share ++ [0, 0, 0, 0] ++ leBytes 8 step)

/-- The shares of step s of every observed tensor (R266, R267). -/
def Die.shares (e p s : Nat) (im : Image) (d : Die) : Die :=
  (tensorsOn im e).foldl (fun d t =>
    if t.groups = 0 then d
    else
      let sh := shareOf ((List.range t.groups).map (fun g => KMap.get {} (d.engPas e p).obs (obsKey s t.id g)))
      if d.get R.FAB_CAL_CLIP_CLIP_HI p < sh then d.satEvent e p t.id s sh else d) d

/-- SCALE packets of a tensor's new static values (R550 type 6, R552). -/
def Die.scalePackets (e p step : Nat) (t : Nat) (es : List Int) (z : Int) (d : Die) : Die :=
  (List.range (cdiv es.length 64)).foldl (fun d i =>
    let part := (es.drop (64 * i)).take 64
    let das := (List.range part.length).foldl (fun a k => setBits a (4 * k) 4 (heldExp es (64 * i + k) - xaOf es).toNat) 0
    d.engTrace 6 e p true (leBytes 2 t ++ leBytes 1 (64 * i) ++ leBytes 1 part.length ++ leBytes 2 (low (xaOf es) 16)
      ++ leBytes 1 (low z 8) ++ [0] ++ leBytes 8 step ++ leBytes 32 das)) d

/-- The exponents of a RUNNING tensor for step s (R263 to R265): the new values and the groups that kept theirs. -/
def EngPas.runningExps (g : EngPas) (im : Image) (nmin : Nat) (t : Tensor) (s : Nat) : List Int × Nat :=
  let prev := heldExps ((KMap.get none g.banks (t.id * 2 + (s + 1) % 2)).getD (t.exps, t.zp)).1
  let steps := span (max im.stepBase.toNat (s - 1 - t.h)) (s - 1)
  let recs := (List.range t.groups).map (fun k => obsOver g.obs steps t.id k)
  if (recs.map (fun r => r.nonzero)).sum < nmin then (prev, t.groups)
  else
    let c := capacity t.format t.zp
    let new := (List.range t.groups).map (fun k =>
      let r := recs.getD k {}
      let e := if r.bad then none else groupExp r.p r.nn c.1 c.2 t.cb
      (e.getD (prev.getD k 0), e.isNone))
    (new.map (fun y => y.1), (new.filter (fun y => y.2)).length)

/-- The records the commit point of step s combines are read: an uncorrectable error in one is counted and reported, and makes the group
keep its exponent (R263, R265). -/
def Die.readRecords (fu : Fused) (e p s : Nat) (im : Image) (t : Tensor) (d : Die) : Die :=
  (span (max im.stepBase.toNat (s - 1 - t.h)) (s - 1)).foldl (fun d k =>
    (List.range t.groups).foldl (fun d g =>
      let r := d.eccRead fu 11 (obsLoc e p k t.id g) none (some p)
      if r.1 then r.2.onEng e p (fun y => { y with obs := KMap.upd {} y.obs (obsKey k t.id g) (fun o => { o with bad := true }) }) else r.2) d) d

/-- New static values of the tensors that `here` selects take effect at step s; a committed calibration once those of all its tensors have
(R268). -/
def Die.calInForce (p s : Nat) (here : Nat → Bool) (d : Die) : Die :=
  let d := d.onPas p (fun q => { q with changed := q.changed.filter (fun t => !(here t)) })
  let q := d.pasture p
  if d.get R.FAB_CAL_STATUS_PHASE p = 3 ∧ q.cal.tensors.all (fun t => !(q.changed.contains t)) then
    ((d.put R.FAB_CAL_STATUS_PHASE p 0).put R.FAB_CAL_STATUS_RESULT p 1).putPair R.FAB_CAL_STEP_LO R.FAB_CAL_STEP_HI p s
  else d

/-- The values of step s of a STATIC tensor (R249): its static values; in a balance group, where new ones wait for a RESUME (R250), those in
force. -/
def EngPas.committed (g : EngPas) (im : Image) (t : Tensor) (s : Nat) : List Int × Int :=
  if im.shape = 1 then (KMap.get none g.banks (t.id * 2 + (s + 1) % 2)).getD (g.staticOf t) else g.staticOf t

/-- The commit point of step s on engine e (R248, R249, R258, R263, R266). -/
def Die.commitStep (fu : Fused) (e p s : Nat) (im : Image) (d : Die) : Die :=
  let nmin := d.get R.FAB_CAL_LIMITS_NMIN p
  let d := (tensorsOn im e).foldl (fun d t =>
    if (d.engPas e p).runs t then
      let d := d.readRecords fu e p s im t
      let v := (d.engPas e p).runningExps im nmin t s
      (d.countBy T.FAB_SCALE_HOLD p v.2).writeTensor e p (s % 2) im t v.1 t.zp
    else
      let v := (d.engPas e p).committed im t s
      let d := d.writeTensor e p (s % 2) im t v.1 v.2
      if (d.pasture p).changed.contains t.id && im.shape != 1 then d.scalePackets e p s t.id v.1 v.2 else d) d
  let d := d.shares e p (s - 2) im
  let d := d.onEng e p (fun g => { g with commit := s + 1 })
  if im.shape = 1 ∨ (d.pasture p).changed.isEmpty then d else d.calInForce p s (fun id => (tensorsOn im e).any (fun t => t.id == id))

/-- STEP_COMMIT (R248, R361): step s − 2 has been admitted whole and has retired; in a replay pasture the first event of step s is at the
entry. -/
def execStepCommit (e p : Nat) (s : State) : Host.Outcome State Fault Refusal :=
  dieCmd (decide (e < 8) && decide (p < 64)) (fun s =>
    let d := s.die
    match d.image p with
    | none => d
    | some im =>
      match engOf im e with
      | none => d
      | some ei =>
        match stepN ei with
        | none => d
        | some n =>
          let g := d.engPas e p
          let k := g.commit
          let base := im.stepBase.toNat
          let begun := decide ((k - 1 - base) * n ≤ g.index)
          let old := g.flight.all (fun sl => decide (k ≤ (KMap.get {} g.slots sl).step + 1))
          let held := !(d.on R.FAB_REPLAY_ENABLE p)
            || (decide ((k - base) * n ≤ g.index) && !(KMap.get [] d.entries (e * 64 + p)).isEmpty)
          if begun && old && held then d.commitStep s.fused e p k im else d) s

/-- Calibratable in this image now (R269, RESULT 6). -/
def Die.calibratable (d : Die) (p : Nat) (im : Image) (t : Tensor) : Bool :=
  t.calib && (enginesOf im).all (fun e => !((d.engPas e p).runs t))

/-- A calibration ends with RESULT 7 (R270). -/
def Die.calEnd (p : Nat) (d : Die) : Die :=
  if d.get R.FAB_CAL_STATUS_PHASE p = 0 then d
  else ((d.put R.FAB_CAL_STATUS_PHASE p 0).put R.FAB_CAL_STATUS_RESULT p 7).onPas p (fun q => { q with cal := {} })

/-- A calibration is refused (R269). -/
def Die.calRefuse (p code t : Nat) (d : Die) : Die :=
  ((((d.put R.FAB_CAL_STATUS_PHASE p 0).put R.FAB_CAL_STATUS_RESULT p code).put R.FAB_CAL_STATUS_TENSOR p t).count T.FAB_CAL_REFUSE p).onPas p
    (fun q => { q with cal := {} })

/-- A new calibration: no event in flight is one of its phases' (R268, R270). -/
def Die.calUntag (p : Nat) (d : Die) : Die :=
  (List.range 8).foldl (fun d e => (d.engPas e p).flight.foldl (fun d sl =>
    d.onEng e p (fun y => { y with slots := KMap.upd {} y.slots sl (fun z => { z with cal := 0 }) })) d) d

/-- START (R268 to R270). -/
def Die.calStart (p : Nat) (d : Die) : Die :=
  if d.get R.FAB_CAL_STATUS_PHASE p = 3 then d
  else
    let d := d.calEnd p
    let id := d.get R.FAB_CAL_TENSOR p
    match d.image p with
    | none => d.calRefuse p 6 id
    | some im =>
      let ts := if id = 0xFFFF then im.tensors.filter (fun t => t.calib) else (tensorOf im id).toList
      match minBy (fun t => t.id) (ts.filter (fun t => !(d.calibratable p im t))), ts with
      | some t, _ => d.calRefuse p 6 t.id
      | none, [] => d.calRefuse p 6 id
      | none, _ => ((d.calUntag p).put R.FAB_CAL_STATUS_PHASE p 1).onPas p (fun q =>
        { q with cal := { tensors := ts.map (fun t => t.id), target := id, log2ev := d.get R.FAB_CAL_LOG2EV p } })

/-- A write of FAB_CAL (R268, R273). -/
def fabCalW (p w : Nat) (d : Die) : Die :=
  let d := d.setFields .FAB p 0x020 w
  match lowestWo w [24, 25] with
  | some 24 => d.calStart p
  | some _ => d.calEnd p
  | none => d

/-- CAL_START. -/
def execCalStart (src : Source) (p : Nat) (w : Word) (s : State) : Host.Outcome State Fault Refusal :=
  dieCmd (decide (p < 64)) (writeDie src (blockAddr .FAB p 0x020) (fabCalW p w.toNat)) s

/-- CAL_ABORT. -/
def execCalAbort (src : Source) (p : Nat) (w : Word) (s : State) : Host.Outcome State Fault Refusal :=
  dieCmd (decide (p < 64)) (writeDie src (blockAddr .FAB p 0x020) (fabCalW p w.toNat)) s

/-- The exponents of a tensor in force on the pasture's first engine: the bank of the latest commit. -/
def Die.inForce (d : Die) (p : Nat) (im : Image) (t : Tensor) : List Int × Int :=
  let e := if im.shape = 1 then (enginesOf im).headD 0 else t.engine
  let g := d.engPas e p
  let par := match (engOf im e).bind stepN with | some _ => (g.commit + 1) % 2 | none => 0
  (KMap.get none g.banks (t.id * 2 + par)).getD (t.exps, t.zp)

/-- The zero point a committed calibration of a tensor keeps: that of its static values (R249, R268). -/
def Die.calZp (d : Die) (p : Nat) (im : Image) (t : Tensor) : Int :=
  ((d.engPas (if im.shape = 1 then (enginesOf im).headD 0 else t.engine) p).staticOf t).2

/-- Every event of the calibration's running phase has been admitted and has retired (R268). -/
def Die.calPhaseOver (d : Die) (p : Nat) : Bool :=
  let c := (d.pasture p).cal
  decide (2 ^ c.log2ev ≤ c.events) && (List.range 8).all (fun e =>
    let g := d.engPas e p
    g.flight.all (fun sl => (KMap.get {} g.slots sl).cal != d.get R.FAB_CAL_STATUS_PHASE p))

/-- CAL_OBSERVE_END (R268). -/
def execCalObserveEnd (p : Nat) (s : State) : Host.Outcome State Fault Refusal :=
  dieCmd (decide (p < 64)) (fun s =>
    let d := s.die
    let c := (d.pasture p).cal
    match d.image p with
    | none => d
    | some im =>
      if d.get R.FAB_CAL_STATUS_PHASE p = 1 ∧ d.calPhaseOver p = true then
        let prop := c.tensors.foldl (fun m id => match tensorOf im id with
          | none => m
          | some t =>
            let cp := capacity t.format (d.calZp p im t)
            let prev := heldExps (d.inForce p im t).1
            KMap.set none m id (some ((List.range t.groups).map (fun k =>
              let r := KMap.get {} c.obs (obsKey 0 id k)
              (groupExp r.p r.nn cp.1 cp.2 t.cb).getD (prev.getD k 0))))) []
        (d.put R.FAB_CAL_STATUS_PHASE p 2).onPas p (fun q => { q with cal := { c with events := 0, proposal := prop } })
      else d) s

/-- What R269 finds for one tensor at the end of the verify phase: a code and the verify share. -/
def Die.calCheck (d : Die) (p : Nat) (im : Image) (id : Nat) : Nat × Nat :=
  let c := (d.pasture p).cal
  match tensorOf im id with
  | none => (6, 0)
  | some t =>
    let obs := (List.range t.groups).map (fun k => KMap.get {} c.obs (obsKey 0 id k))
    let ver := (List.range t.groups).map (fun k => KMap.get {} c.ver (obsKey 0 id k))
    let nmin := d.get R.FAB_CAL_LIMITS_NMIN p
    let nz (l : List ObsRec) : Nat := (l.map (fun r => r.nonzero)).sum
    let diff := (obs.foldl ObsRec.join {}).diff
    let sh := shareOf ver
    (if !(d.calibratable p im t) then 6
     else if nz obs < nmin ∨ nz ver < nmin then 2
     else if !diff then 3
     else if d.get R.FAB_CAL_CLIP_CLIP_HI p < sh then 4
     else if sh < d.get R.FAB_CAL_CLIP_CLIP_LO p then 5
     else 0, sh)

/-- CAL_VERIFY_END (R268, R269): commit all or refuse all. -/
def execCalVerifyEnd (p : Nat) (s : State) : Host.Outcome State Fault Refusal :=
  dieCmd (decide (p < 64)) (fun s =>
    let d := s.die
    let c := (d.pasture p).cal
    match d.image p with
    | none => d
    | some im =>
      if d.get R.FAB_CAL_STATUS_PHASE p = 2 ∧ d.calPhaseOver p = true then
        let rs := c.tensors.map (fun id => (id, d.calCheck p im id))
        match minBy (fun r => r.1) (rs.filter (fun r => r.2.1 != 0)) with
        | some r => (d.put R.FAB_CAL_SHARE_SHARE p r.2.2).calRefuse p r.2.1 r.1
        | none =>
          let d := d.put R.FAB_CAL_SHARE_SHARE p ((rs.map (fun r => r.2.2)).foldl max 0)
          let d := (d.put R.FAB_CAL_STATUS_PHASE p 3).put R.FAB_CAL_STATUS_TENSOR p c.target
          let d := (enginesOf im).foldl (fun d e => d.onEng e p (fun g => { g with
            resumed := false
            statics := c.tensors.foldl (fun m id => match tensorOf im id, KMap.get none c.proposal id with
              | some t, some es => KMap.set none m id (some (es, (g.staticOf t).2))
              | _, _ => m) g.statics })) d
          d.onPas p (fun q => { q with changed := q.changed ++ c.tensors })
      else d) s

/-- APPLY of FAB_SCALE_VAL (R272). -/
def Die.scaleApply (p : Nat) (d : Die) : Die :=
  let id := d.get R.FAB_SCALE_SEL_TENSOR p
  let k := d.get R.FAB_SCALE_SEL_GROUP p
  let whole := d.on R.FAB_SCALE_SEL_WHOLE p
  let ex := sext (d.get R.FAB_SCALE_VAL_EXP p) 16
  let z := sext (d.get R.FAB_SCALE_VAL_ZP p) 8
  let res (v : Nat) (d : Die) : Die := d.put R.FAB_SCALE_NOW_APPLY_RESULT p v
  if d.get R.FAB_CAL_STATUS_PHASE p ≠ 0 ∧ (d.pasture p).cal.tensors.contains id then res 2 d
  else match (d.image p).bind (fun im => (tensorOf im id).map (fun t => (im, t))) with
    | none => res 3 d
    | some (im, t) =>
      let inRange := match intLimits t.format with
        | some (lo, hi) => t.format != 2 && decide (lo ≤ z) && decide (z ≤ hi)
        | none => false
      if !whole ∧ t.exps.length ≤ k then res 3 d
      else if z ≠ 0 ∧ !(zpAllowed im t && inRange) then res 4 d
      else
        let d := (enginesOf im).foldl (fun d e => d.onEng e p (fun g =>
          let es := (g.staticOf t).1
          let es := if whole then es.map (fun _ => ex) else replaceAt es k ex
          { g with resumed := false, statics := KMap.set none g.statics id (some (es, z)), forced := if t.running then id :: g.forced else g.forced })) d
        res 1 (d.onPas p (fun q => { q with changed := q.changed ++ [id] }))

/-- A write of FAB_SCALE_VAL (R272, R273). -/
def fabScaleValW (p w : Nat) (d : Die) : Die :=
  let d := d.setFields .FAB p 0x404 w
  if bit w 31 then d.scaleApply p else d

/-- SCALE_APPLY. -/
def execScaleApply (src : Source) (p : Nat) (w : Word) (s : State) : Host.Outcome State Fault Refusal :=
  dieCmd (decide (p < 64)) (writeDie src (blockAddr .FAB p 0x404) (fabScaleValW p w.toNat)) s

end Sys2Proof.Machine
end

