-- ==== Sys2Proof/Machine/Engine.lean ====
section
/-! DEFINITION. Around the tiles (R109 to R111, R122 to R152, R203, R231 to R236, R291, R345, R352): feature assembly, entry, links,
exit, loads, stalls, retirement of tiles and balance, and their commands. -/

namespace Sys2Proof.Machine

/-- The packet beats that enter engine e (R133, R291). -/
def packetOf (im : Image) (e : Nat) : List PacketBeat := im.packet.filter (fun b => im.shape == 1 || tileEng b.tile == e)

/-- One byte of an entry packet (R133). -/
def selByte (rb row : List Byte) : PSel → Byte
  | .zero => 0
  | .ofRecord i => byteAt rb i
  | .ofRow i => byteAt row i

/-- Whether a selection takes a byte of the row. -/
def selRow : PSel → Bool
  | .ofRow _ => true
  | _ => false

/-- The entry packet of an event for engine e (R133); a poisoned row poisons the beats that carry it. -/
def buildPacket (im : Image) (e : Nat) (v : Ev) : List (PacketBeat × Beat × Bool) :=
  (packetOf im e).map (fun b =>
    (b, BitVec.ofNat 256 (leNat (b.sel.map (selByte v.er.bytes v.row))), v.er.poison || (v.poison && b.sel.any selRow)))

/-- static_member (R148). -/
def staticMember (key n : Nat) : Nat := bits (crc32c (leBytes 4 key) % 2 ^ 16 * n) 16 8

/-- choose_member (R148): the engine, and whether a DYNAMIC choice differs from the static one; `waits` are the members' waits beyond the
wheel stage, not 0 where the next slot has not retired. -/
def chooseMember (policy key count : Nat) (members waits : List Nat) : Nat × Bool :=
  let n := members.length
  let s := staticMember key n
  let pick (i : Nat) : Nat := members.getD i 0
  if policy = 1 then (pick (count % n), false)
  else if policy = 2 then
    let i :=
      if waits.getD s 0 = 0 then s
      else match (List.range n).find? (fun i => waits.getD i 0 == 0) with
        | some i => i
        | none => (minBy (fun i => waits.getD i 0) (List.range n)).getD 0
    (pick i, i != s)
  else (pick s, false)

/-- A record is a label of an updatable image (R316). -/
def isLabel (u : UpdHdr) (rb : List Byte) : Bool := Nat.land (byteAt rb u.lbyte).toNat u.lmask != 0

/-- The waits of the members of a balance group (R148): what the wheel gives, and at least 1 where the member's next slot is in flight. -/
def Die.memberWaits (d : Die) (p : Nat) (es waits : List Nat) : List Nat :=
  (indexed es).map (fun y => let g := d.engPas y.2 p; if g.flight.contains g.next then max 1 (waits.getD y.1 0) else waits.getD y.1 0)

/-- An event leaves the engine path at feature assembly: as a label (R316), shed (R352), or routed to its engine (R148, R291). -/
def Die.assembleEvent (p : Nat) (im : Image) (v : Ev) (waits : List Nat) (d : Die) : Die :=
  let rb := v.er.bytes
  match im.upd.filter (fun u => isLabel u rb) with
  | some u =>
    let lanes := (List.range 4).map (fun i => leNat (slice rb (u.toff + 4 * i) 4))
    (d.clearMarker p v.ticket).onUpd u.engine (fun x => { x with labels := x.labels ++ [⟨leNat (slice rb u.loff 6), lanes, v.er.inFc16 / 16⟩] })
  | none =>
    if d.shedSet p && !(d.on R.FAB_REPLAY_ENABLE p) then
      ((d.clearMarker p v.ticket).count T.FAB_SHED p).count T.FAB_TIMING_CHOICE p
    else
      let es := enginesOf im
      let q := d.pasture p
      let ch := if im.shape = 1 then chooseMember (d.get R.FAB_BALANCE_POLICY p) v.er.key q.rotate es (d.memberWaits p es waits)
        else if im.shape = 2 then (spanFirst im, false) else (es.headD 0, false)
      let d := if im.shape = 1 ∧ d.get R.FAB_BALANCE_POLICY p = 1 then d.onPas p (fun y => { y with rotate := (y.rotate + 1) % 2 ^ 64 }) else d
      let d := if ch.2 then (d.count T.FAB_BAL_DEVIATE p).count T.FAB_TIMING_CHOICE p else d
      { d with entries := KMap.upd [] d.entries (ch.1 * 64 + p) (· ++ [{ v with packet := buildPacket im ch.1 v }]) }

/-- FEATURE_ASSEMBLY (R133, R148, R316, R352). -/
def execFeatureAssembly (p : Nat) (waits : List Nat) (s : State) : Host.Outcome State Fault Refusal :=
  dieCmd (decide (p < 64)) (fun s =>
    let d := s.die
    match KMap.get [] d.looked p, d.image p with
    | v :: rest, some im => { d with looked := KMap.set [] d.looked p rest }.assembleEvent p im v waits
    | _, _ => d) s

/-- Every quarter pasture p holds on engine e is running with its entry open (R143, R144). -/
def Die.entryOpen (d : Die) (e p : Nat) : Bool :=
  let qs := d.quartersOf e p
  !qs.isEmpty && qs.all (fun q => d.qstate e q == 2 && !(KMap.get false d.closed (e * 4 + q)))

/-- The update that holds step s at the entry (R321): one whose flip step has come and that has not flipped. -/
def Die.updHolds (d : Die) (e p s : Nat) : Bool :=
  match d.image p, (d.updSt e).run with
  | some im, some r => (match im.upd with
    | some u => u.engine == e && (!u.flock || r.committed) && decide (r.flip ≤ s)
    | none => false)
  | _, _ => false

/-- A flip at the boundary of step s is due and has not been made (R311). -/
def Die.flipDue (d : Die) (e p s : Nat) : Bool :=
  match d.image p, (d.updSt e).pend with
  | some im, some r => (match im.upd with | some u => u.engine == e && decide (r.flip ≤ s) | none => false)
  | _, _ => false

/-- A packet beat's queue: one that configuration binds to the entry, on a column-0 tile of a quarter the pasture holds (R108, R133). -/
def Die.entersAt (d : Die) (e p : Nat) (ei : EngineImg) (b : PacketBeat) : Bool :=
  tileCol b.tile == 0 && d.ownsQuarter p e (tileQ b.tile) && decide (b.iq < 4) && decide (bindingOf ei b.tile b.ctx b.iq = .entry)

/-- Beats of a packet enter the queues configuration binds to the entry (R133); the last of those for one queue carries LAST (R105). -/
def Die.putPacket (slot : Nat) (pk : List (PacketBeat × Beat × Bool)) (e : Nat) (d : Die) : Die :=
  (indexed pk).foldl (fun d x =>
    let b := x.2.1
    let more := (pk.drop (x.1 + 1)).any (fun z => z.1.tile == b.tile && z.1.ctx == b.ctx && z.1.iq == b.iq)
    d.push (e * 512 + b.tile % 512) b.ctx b.iq [⟨x.2.2.1, slot, x.2.2.2, !more⟩]) d

/-- Every queue a packet enters has room for it. -/
def Die.packetRoom (d : Die) (F : Nat) (pk : List (PacketBeat × Beat × Bool)) (e : Nat) : Bool :=
  pk.all (fun y =>
    let same := pk.filter (fun z => z.1.tile == y.1.tile && z.1.ctx == y.1.ctx && z.1.iq == y.1.iq)
    decide ((d.queue (e * 512 + y.1.tile % 512) y.1.ctx y.1.iq).length + same.length ≤ 8 / F))

/-- The beats of an event's packet that the entry bus writes (R133). -/
def Die.entering (d : Die) (e p : Nat) (ei : EngineImg) (v : Ev) : List (PacketBeat × Beat × Bool) :=
  v.packet.filter (fun y => d.entersAt e p ei y.1)

/-- The admission of an event (R124, R245, R310, R312, R345). -/
def Die.admitEvent (e p : Nat) (im : Image) (ei : EngineImg) (v : Ev) (d : Die) : Die :=
  let g := d.engPas e p
  let base := im.stepBase.toNat
  let n := stepN ei
  let step := match n with | some k => base + g.index / k | none => base
  let first := match n with | some k => g.index % k == 0 | none => g.index % 65536 == 0
  let seed := match n with | some _ => step | none => g.index / 65536
  let ed := mix64 (if first then seed else g.ed) (v.er.evid + v.er.source * 2 ^ 48)
  let rb := v.er.bytes
  let wb := match im.upd with | some u => if u.engine = e then (d.updSt e).bank else 0 | none => 0
  let fl := match im.upd with | some u => u.engine == e && Nat.land (byteAt rb u.fbyte).toNat u.fmask != 0 | none => false
  let slots := 256 * (d.quartersOf e p).length
  let par := match n with | some _ => step % 2 | none => 0
  let slot := g.next
  let ph := d.get R.FAB_CAL_STATUS_PHASE p
  let cal := if (ph = 1 ∨ ph = 2) ∧ (d.pasture p).cal.events < 2 ^ (d.pasture p).cal.log2ev then ph else 0
  let d := d.onEng e p (fun y => { y with
    next := (slot + 1) % slots, index := y.index + 1, ed := ed, eds := if n.isSome then KMap.set 0 y.eds step ed else y.eds, flight := y.flight ++ [slot]
    slots := KMap.set {} y.slots slot { ev := { v with packet := [] }, step := step, par := par, wb := wb, flagged := fl, cal := cal }
    waitSlot := false, waitScale := false, waitUpd := false, waiting := false })
  let d := (d.putPacket slot (d.entering e p ei v) e).put R.FAB_STATUS_IN_FLIGHT p (d.inFlight p)
  let d := d.stage 0 e p v.er.evid slot 3
  let d := if cal ≠ 0 then
      d.onPas p (fun q => { q with cal := { q.cal with events := q.cal.events + 1 } }) else d
  match n with
  | some _ => d
  | none =>
    if (g.index + 1) % 65536 = 0 then
      let d := (d.stepPacket e p im ei (g.index / 65536) true).shares e p base im
      d.onEng e p (fun y => { y with obs := [] })
    else d

/-- An event waits for a slot, its scales or an update; each counts once (R124, R248, R321). -/
def Die.noteWait (e p : Nat) (slot scale upd : Bool) (d : Die) : Die :=
  let g := d.engPas e p
  let d := if slot && !g.waitSlot then d.count T.FAB_SLOT_WAIT p else d
  let d := if scale && !g.waitScale then d.count T.FAB_SCALE_WAIT p else d
  let d := if upd && !g.waitUpd then d.count T.UPD_UPD_WAIT e else d
  d.onEng e p (fun y => { y with waitSlot := y.waitSlot || slot, waitScale := y.waitScale || scale, waitUpd := y.waitUpd || upd, waiting := true })

/-- ENTRY_ADMIT (R38, R124, R132, R133, R245, R248, R321). -/
def Die.entryAdmit (e p : Nat) (waited : Bool) (stile3 : Nat) (d : Die) : Die :=
  match KMap.get [] d.entries (e * 64 + p), d.image p with
  | v :: rest, some im =>
    match engOf im e with
    | none => d
    | some ei =>
      let g := d.engPas e p
      let step := match stepN ei with | some k => im.stepBase.toNat + g.index / k | none => im.stepBase.toNat
      let noSlot := g.flight.contains g.next
      let noScale := (stepN ei).isSome && decide (im.stepBase.toNat + 2 ≤ step) && decide (g.commit ≤ step)
      let noUpd := d.updHolds e p step
      if d.flipDue e p step then d
      else if !(d.entryOpen e p) then d.onEng e p (fun y => { y with waiting := true })
      else if noSlot || noScale || noUpd then d.noteWait e p noSlot noScale noUpd
      else if d.packetRoom (2 ^ ei.fold) (d.entering e p ei v) e then
        let d := if waited || g.waiting || v.er.waited then d.count T.FAB_ENTRY_WAIT p else d
        ({ d with entries := KMap.set [] d.entries (e * 64 + p) rest }.stile p stile3 v.packet.length).admitEvent e p im ei v
      else d.onEng e p (fun y => { y with waiting := true })
  | _, _ => d

/-- ENTRY_ADMIT. -/
def execEntryAdmit (e p : Nat) (waited : Bool) (stile3 : Nat) (s : State) : Host.Outcome State Fault Refusal :=
  dieCmd (decide (e < 8) && decide (p < 64)) (fun s => s.die.entryAdmit e p waited stile3) s

/-- Drop the oldest event at an entry (R38). -/
def Die.entryDrop (e p : Nat) (d : Die) : Die :=
  match KMap.get [] d.entries (e * 64 + p) with
  | [] => d
  | v :: rest =>
    let d := ({ d with entries := KMap.set [] d.entries (e * 64 + p) rest }.count T.FAB_ENTRY_WAIT p).count T.FAB_ENTRY_DROP p
    (d.clearMarker p v.ticket).onEng e p (fun y => { y with waitSlot := false, waitScale := false, waitUpd := false, waiting := false })

/-- ENTRY_WAIT_LIMIT (R38, R359). -/
def execEntryWaitLimit (e p : Nat) (s : State) : Host.Outcome State Fault Refusal :=
  dieCmd (decide (e < 8) && decide (p < 64)) (fun s => if s.die.on R.FAB_REPLAY_ENABLE p then s.die else s.die.entryDrop e p) s

/-- The tiles and queues an output destination reaches (R109, R110): (tile, context, input queue). -/
def Fire.reach (x : Fire) (d : Die) (oq : Nat) (dst : QDst) : List (Nat × Nat × Nat) :=
  dstQueues x.ei (joinedBy (fun q => d.ownsQuarter x.p x.e q)) x.tile x.ctx oq dst

/-- The calendars of the express buses that an output queue's destinations name (R111), each with the number that names this tile there: its
column on a row bus, its row on a column bus. -/
def Fire.calendars (x : Fire) (dsts : List QDst) : List (List Nat × Nat) :=
  let cal (isRow : Bool) (index : Nat) : List Nat :=
    match x.im.calendars.find? (fun c => x.im.hits c.engine x.e && c.isRow == isRow && c.index == index) with
    | some c => c.positions
    | none => []
  (if dsts.contains .rowBus then [(cal true (tileRow x.tile), tileCol x.tile)] else [])
    ++ (if dsts.contains .colBus then [(cal false (tileCol x.tile), tileRow x.tile)] else [])

/-- In some ec every express bus of the destinations names this tile as its writer (R111). -/
def Fire.mayWrite (x : Fire) (dsts : List QDst) : Bool :=
  let cs := x.calendars dsts
  (List.range (cs.foldl (fun n c => n * c.1.length) 1)).any (fun t => cs.all (fun c => c.1.getD (t % c.1.length) 31 == c.2))

/-- A destination stands where R109 gives it: the exit in logical column 23, any other at an input queue bound to it (R108). -/
def Fire.stands (x : Fire) (d : Die) (oq : Nat) (dst : QDst) : Bool :=
  if dst = .exit then tileCol x.tile == 23 else !(x.reach d oq dst).isEmpty

/-- OQ_BEAT_SEND (R109, R111, R134, R141): the oldest beat of an output queue goes to every bound destination at once. -/
def Die.sendBeat (x : Fire) (oq : Nat) (d : Die) : Die :=
  match d.queue x.tile x.ctx (8 + oq) with
  | [] => d
  | b :: rest =>
    let dsts := x.cc.outBind.getD oq []
    let goals := dsts.flatMap (fun y => x.reach d oq y)
    let mine := goals.filter (fun y => d.ownsQuarter x.p x.e (tileQ y.1))
    let exits := dsts.contains .exit
    let ready := !dsts.isEmpty && dsts.all (x.stands d oq) && x.mayWrite dsts
      && mine.all (fun y => decide ((d.queue y.1 y.2.1 y.2.2).length < 8 / x.F))
    if ready then
      let d := d.setQueue x.tile x.ctx (8 + oq) rest
      let d := mine.foldl (fun d y => d.push y.1 y.2.1 y.2.2 [b]) d
      let d := if mine.length < goals.length then d.count (T.OWN_VIOLATION x.p) 0 else d
      if exits then
        d.onEng x.e x.p (fun g => { g with exits := g.exits ++ [⟨b.data, b.poison, b.slot, (KMap.get {} g.slots b.slot).ev⟩] })
      else d
    else d

/-- OQ_BEAT_SEND. -/
def execOqBeatSend (tile ctx oq : Nat) (s : State) : Host.Outcome State Fault Refusal :=
  dieCmd (decide (tile < 4096) && decide (tile % 32 < 24) && decide (oq < 2)) (fun s =>
    match s.die.fireOf tile ctx 0 with
    | some x => s.die.sendBeat x oq
    | none => s.die) s

/-- One engine decision's actions (R234, R235, R363). -/
def State.decide_ (e : Nat) (v : Decision) (s : State) : State :=
  let p := v.ev.er.pasture
  let c : ActCtx := { ctxOf s.die v.ev.er e v.slot with slot := v.slot }
  let n := v.beat.toNat
  let desc := bits n 192 64
  let payload := leBytes 24 (n % 2 ^ 192)
  let s := { s with die := s.die.stage 1 0 p c.evid v.slot 4 }
  let acts := bits desc 0 3
  let host (s : State) : State := { s with die := s.die.postMsg p (hostMsg c v.poison payload desc) }
  if v.poison then
    let s := if bit acts 2 then host s else s
    { s with die := (s.die.count T.FAB_DECISION_POISON p).consumePoison p }
  else if s.die.on R.FAB_REPLAY_ENABLE p then
    (bitsOf acts 3).foldl (fun s _ => host s) s
  else
    let s := if bit acts 0 then s.actTrig c (bits desc 3 4) (bits desc 7 8) else s
    let s := if bit acts 1 then
        match s.die.image p with
        | none => s
        | some im =>
          match im.templates.find? (fun t => t.number == bits desc 15 10), im.patchLists.find? (fun l => l.number == bits desc 25 4) with
          | some t, some pl => (match im.descs.find? (fun y => y.number == pl.desc) with
            | some q => s.actLaunch c t q (pl.patches.map (patchBytes c payload)) payload none
            | none => s)
          | none, _ => { s with die := s.die.count (T.OWN_VIOLATION p) 0 }
          | _, none => s
      else s
    if bit acts 2 then host s else s

/-- Span beats of one slot pass from the first engine to the entry of the second (R291), and the event's marker with them (R88). -/
def Die.spanMove (e p : Nat) (im : Image) (d : Die) : Die :=
  let g := d.engPas e p
  match g.exits with
  | [] => d
  | v :: _ =>
    let b := ((enginesOf im).find? (· != e)).getD 0
    let pk := packetOf im b
    let mine := (g.exits.filter (fun y => y.slot == v.slot)).take pk.length
    if mine.length < pk.length then d
    else
      let d := d.onEng e p (fun y => { y with exits := y.exits.filter (fun z => z.slot != v.slot) })
      let ev := { v.ev with packet := (pk.zip mine).map (fun z => (z.1, z.2.beat, z.2.poison)) }
      { d with entries := KMap.upd [] d.entries (b * 64 + p) (· ++ [ev]) }

/-- DECISION_EXIT (R134, R234, R291): the first decision at the engine's exit. -/
def State.decisionExit (e : Nat) (stile3 : Nat) (s : State) : State :=
  match pastures.find? (fun p => !(s.die.engPas e p).exits.isEmpty) with
  | none => s
  | some p =>
    let span := match s.die.image p with | some im => im.shape == 2 && spanFirst im == e | none => false
    let n := (s.die.engPas e p).exits.length
    let s := if span then s else { s with die := s.die.stile p stile3 1 }
    match s.die.image p, (s.die.engPas e p).exits with
    | some im, v :: rest =>
      if span then
        let d := s.die.spanMove e p im
        { s with die := d.stile p stile3 (n - (d.engPas e p).exits.length) }
      else State.decide_ e v { s with die := s.die.onEng e p (fun y => { y with exits := rest }) }
    | none, _ :: rest => { s with die := s.die.onEng e p (fun y => { y with exits := rest }) }
    | _, [] => s

/-- DECISION_EXIT. -/
def execDecisionExit (e : Nat) (stile3 : Nat) (s : State) : Host.Outcome State Fault Refusal :=
  guardU (decide (e < 8)) (s.decisionExit e stile3)

/-- A context at its start after a load: empty queues, both pointers at buffer 0, table registers filled from the tile store (R184,
R193, R214). -/
def Die.startCtx (fu : Fused) (tile c : Nat) (cc : CtxCfg) (d : Die) : Die :=
  (List.range cc.trSrc.length).foldl (fun d i =>
    let first := cc.trSrc.getD i 0
    let r := d.eccReadAll fu 1 (some tile) none ((span first (first + 8)).map (tsLoc tile))
    let bs := (span first (first + 8)).flatMap (fun b => leBytes 32 (r.2.beat tile b))
    (r.2.eccClear 4 (trLoc tile c i)).onCtx tile c (fun x => { x with tr := KMap.set {} x.tr i ⟨bs, r.1⟩ })) (d.onCtx tile c (fun _ => {}))

/-- The tile store of a tile after a load of scope (R142, R214, R283, R285, R309): the WEIGHT and PARAM regions as the image has them, both
banks of an updatable layer, everything else zero; under a scope of configuration alone, weights and parameters stand. -/
def Die.loadStore (im : Image) (scope tile : Nat) (z : TileImg) (d : Die) : Die :=
  let keep (b : Nat) : Bool := scope == 1 && (match regionKind im tile b with | some k => decide (k ≤ 1) | none => false)
  let other (k : Nat) : Bool := !(decide (eccKey 1 (tile * 1024) ≤ k) && decide (k < eccKey 1 (tile * 1024 + 1024))) || keep (k % 1024)
  let d := { d with ecc := KMap.keep d.ecc other, poison := KMap.keep d.poison other }
  let d := d.onTile tile (fun t => { t with store := KMap.keep t.store keep })
  if scope = 1 then d
  else
    let offs := im.updRecs.flatMap (fun r => (r.tiles.filter (fun t => t.1 == tile)).map (fun t => (t.2.2.1, t.2.2.2.1, r.boff)))
    (z.store.filter (fun y => match regionKind im tile y.1 with | some k => decide (k ≤ 1) | none => false)).foldl (fun d y =>
      let d := d.onTile tile (fun t => { t with store := KMap.set 0 t.store y.1 y.2 })
      match offs.find? (fun o => decide (o.1 ≤ y.1) && decide (y.1 < o.1 + o.2.1)) with
      | some o => d.onTile tile (fun t => { t with store := KMap.set 0 t.store (y.1 + o.2.2) y.2 })
      | none => d) d

/-- weight_digest (R353) over one bank. -/
def Die.weightDigest (d : Die) (e : Nat) (im : Image) (start bank : Nat) : Nat :=
  im.updRecs.foldl (fun a r => r.tiles.foldl (fun a t =>
    (span t.2.2.1 (t.2.2.1 + t.2.2.2.1)).foldl (fun a b => mixBeat a (d.beat (e * 512 + t.1 % 512) (b + bank * r.boff))) a) a) start

/-- The initial masters, moments and bases of the UPDATE section (R325, R337). -/
def updInit (im : Image) : UpdSt :=
  let put {α : Type} [DecidableEq α] (dflt : α) (sel : UpdRec → List α) : KMap α :=
    im.updRecs.foldl (fun m r => KMap.setRange dflt m (r.layer * 2 ^ 20) (sel r)) []
  { openFrom := im.stepBase.toNat
    masters := put 0 (fun r => r.masters.map (fun m => m.toNat))
    moments := put (0, 0) (fun r => r.moments.map (fun m => (m.1.toNat, m.2.toNat)))
    bases := im.updRecs.foldl (fun m r => KMap.set (0, 0) m r.layer r.momentBase) [] }

/-- Where the error state of a weight's sum, and of its master and moments, stands (R509, kind 9). -/
def updLoc (e key : Nat) : Nat := (e * 2 ^ 24 + key) * 2

/-- Everything the update store of engine e holds is written anew (R325). -/
def Die.storeClean (e : Nat) (d : Die) : Die := d.eccClean (eccKey 9 (updLoc e 0)) (eccKey 9 (updLoc (e + 1) 0))

/-- A load resets the update unit, once for all the quarters it writes (R145, R325, R353). -/
def Die.updReset (e p : Nat) (im : Image) (adm : Bool) (d : Die) : Die :=
  match im.upd with
  | none => d
  | some u =>
    if u.engine ≠ e then d
    else
      let d := if adm then d else d.count T.UPD_UPD_RESET e
      let d := d.storeClean e
      let wd := d.weightDigest e im im.imageId 0
      let d := d.onUpd e (fun _ => { updInit im with wd := wd, openFrom := max im.stepBase.toNat (d.engPas e p).step })
      (((d.put R.UPD_STATUS_STATE e (if d.on R.UPD_CONTROL_PAUSE e then 2 else 1)).put R.UPD_STATUS_PHASE e 0).put R.UPD_STATUS_BANK e 0).putPair
        R.UPD_WDIGEST_LO R.UPD_WDIGEST_HI e wd

/-- Load one tile (R142, R214, R227). -/
def Die.loadTile (fu : Fused) (im : Image) (scope tile : Nat) (z : TileImg) (d : Die) : Die :=
  let d := d.loadStore im scope tile z
  let d := d.onTile tile (fun t => { t with
    ctxs := [], gates := [], ubs := [], acc := [], codes := [], lanePos := 0, block := 0, swapped := []
    digests := (List.range 4).foldl (fun m r => KMap.set {} m r { d := digestInit r tile im.imageId }) [] })
  (List.range z.cfg.ctxs.length).foldl (fun d c => d.startCtx fu tile c (z.cfg.ctxs.getD c {})) d

/-- The load of quarter q of engine e for pasture p (R142 to R144, R214, R247, R270, R283, R515). -/
def Die.loadQuarter (fu : Fused) (e q p scope : Nat) (im : Image) (ei : EngineImg) (d : Die) : Die :=
  let tiles := (span (q * 128) (q * 128 + 128)).filter (fun t => t % 32 < 24)
  let d := tiles.foldl (fun d t => match tileImg ei t with
    | some z => d.loadTile fu im scope (e * 512 + t) z
    | none => d.loadTile fu im scope (e * 512 + t) { addr := t, cfg := {} }) d
  let d := (d.onEng e p (fun g => { g with statics := [], forced := [] })).onPas p (fun q => { q with changed := [] })
  let d := (d.writeStatics e p 0 im).writeStatics e p 1 im
  if scope ≠ 1 ∧ d.on R.PAS_QUARANTINE_STATUS_PERSISTENT p ∧ d.get R.PAS_QUARANTINE_STATUS_TILE p / 128 = e * 4 + q then
    d.flag R.PAS_QUARANTINE_STATUS_PERSISTENT p false
  else d

/-- A load into quarter q of engine e ends without its block (R146): the quarter holds nothing, and LOAD_RESULT says so. -/
def Die.leaveEmpty (e q : Nat) (d : Die) : Die :=
  let d := Die.setQ e q 0 { d with
    loads := KMap.set (0, 0, 0) d.loads (e * 4 + q) (0, 0, 0), closed := KMap.set false d.closed (e * 4 + q) false
    tiles := KMap.keep d.tiles (fun t => !(t / 128 == e * 4 + q)) }
  d.put R.ENG_STATUS_LOAD_RESULT e 3

/-- Drop a pasture's events in flight on an engine; how many there were (R122). DESIGN CHOICE (log 136): every decision of the pasture that waits
at the exit goes with them, those of events already retired included. DESIGN CHOICE (log 127): the markers of the events dropped are cleared. -/
def Die.dropFlight (e p : Nat) (d : Die) : Nat × Die :=
  let g := d.engPas e p
  let d := g.flight.foldl (fun d sl => d.clearMarker p (KMap.get {} g.slots sl).ev.ticket) d
  let d := g.exits.foldl (fun d v => d.clearMarker p v.ev.ticket) d
  let d := d.onEng e p (fun y => { y with flight := [], exits := [] })
  (g.flight.length, d.put R.FAB_STATUS_IN_FLIGHT p (d.inFlight p))

/-- Steps 2 to 4 of R122 on quarter q of engine e; `lost`: the reload ends under R146. -/
def Die.recoverQuarter (fu : Fused) (e q : Nat) (lost : Bool) (d : Die) : Die :=
  match d.quarterOwner e q with
  | none => d
  | some p =>
    match d.image p with
    | none => d
    | some im =>
      match engOf im e with
      | none => d
      | some ei =>
        let r := d.dropFlight e p
        let d := r.2.countBy T.ENG_STALL_DROP e r.1
        let d := d.calEnd p
        if lost then d.leaveEmpty e q
        else ((d.loadQuarter fu e q p 0 im ei).updReset e p im false).count T.ENG_LOADS e

/-- STALL (R122, R146, R535, R559). -/
def execStall (e : Nat) (x : StallAt) (s : State) : Host.Outcome State Fault Refusal :=
  dieCmd (decide (e < 8) && decide (x.quarter < 4)) (fun s =>
    let d := s.die
    let q := x.quarter
    match d.quarterOwner e q with
    | none => d
    | some p =>
      if d.qstate e q = 2 ∧ !(d.engPas e p).flight.isEmpty then
        let d := (d.count T.ENG_STALL e).incident 1 0 e (e * 512 + q * 128)
        let d := d.faultRecord s.fused 10 (d.pasKeys p)
        (d.recoverQuarter s.fused e q x.lost).observe s.fused e
      else d) s

/-- BAD_OPCODE (R146, R203, R535, R559). -/
def execBadOpcode (tile ctx : Nat) (x : BadOp) (s : State) : Host.Outcome State Fault Refusal :=
  dieCmd (decide (tile < 4096) && decide (tile % 32 < 24) && decide (ctx < 8) && decide (x.op < 32)) (fun s =>
    let d := s.die
    let e := tileEng tile
    if 2 ≤ d.qstate e (tileQ tile) then
      let d := (d.count T.ENG_BAD_OPCODE e).incident 2 0 e tile
      let d := d.faultRecord s.fused 11 ([(5, .uint tile), (6, .uint (d.physCol tile))]
        ++ (match d.quarterOwner e (tileQ tile) with | some p => d.pasKeys p | none => []))
      (d.recoverQuarter s.fused e (tileQ tile) x.lost).observe s.fused e
    else d) s

/-- Any load or quiesce in progress on an engine. -/
def Die.engBusy (d : Die) (e : Nat) : Bool :=
  (List.range 4).any (fun q => KMap.get (0, 0, 0) d.loads (e * 4 + q) != (0, 0, 0)
    || (KMap.get false d.closed (e * 4 + q) && d.qstate e q == 2))

/-- Set BUSY of ENG_STATUS. -/
def Die.setBusy (e : Nat) (d : Die) : Die := d.flag R.ENG_STATUS_BUSY e (d.engBusy e)

/-- QUIESCE (R144): every quarter of each pasture selected. -/
def Die.quiesce (e : Nat) (d : Die) : Die :=
  let sel := bitsOf (d.get R.ENG_CONTROL_QUARTERS e) 4
  let ps := (sel.filterMap (d.quarterOwner e)).eraseDups
  (ps.foldl (fun d p => d.closeEntry e p) d).setBusy e

/-- The quarters LOAD and RESUME act on: those selected whose clock runs (R623). -/
def Die.selected (d : Die) (e : Nat) : List Nat :=
  (bitsOf (d.get R.ENG_CONTROL_QUARTERS e) 4).filter (fun q => !(KMap.get false d.stopped (e * 4 + q)))

/-- Two loads read a common bank of the Attic (R142). DESIGN CHOICE (log 141): which of the 8 banks hold an image's extents of one engine is a
free value; the same extents are in the same banks. -/
def banksMeet (a b : Nat × Nat) : Bool :=
  let mask (x : Nat × Nat) : Nat := bits (Config.freeValue x.1).toNat (8 * (x.2 % 8)) 8
  a == b || Nat.land (mask a) (mask b) != 0

/-- What a load of an image for engine e reads (R142, R286): a balance group's one copy is its lowest engine's. -/
def bankOf (im : Image) (draw e : Nat) : Nat × Nat := (draw, if im.shape = 1 then (enginesOf im).headD e else e)

/-- A requested load has not ended. -/
def Die.loadLive (d : Die) (r : LoadReq) : Bool :=
  if r.key < 8 then (List.range 4).any (fun q => let l := KMap.get (0, 0, 0) d.loads (r.key * 4 + q); l.1 == 1 && (l.2.2 == 0 || l.2.2 == 4))
  else (d.pasture (r.key - 8)).going

/-- A load is requested (R142). -/
def Die.askLoad (r : LoadReq) (d : Die) : Die := { d with loadOrder := d.loadOrder.filter d.loadLive ++ [r] }

/-- The load of a key has its turn (R142): no load requested before it reads a bank that it reads. -/
def Die.loadTurn (d : Die) (key : Nat) : Bool :=
  match d.loadOrder.find? (fun r => r.key == key && d.loadLive r) with
  | none => true
  | some r => ((d.loadOrder.takeWhile (fun y => y != r)).filter (fun y => d.loadLive y && y.key != key)).all (fun y =>
      y.banks.all (fun a => r.banks.all (fun b => !(banksMeet a b))))

/-- LOAD (R142, R143, R146, R152): a quarter that R146 left empty holds no admitted image. -/
def Die.startLoad (e : Nat) (d : Die) : Die :=
  let sel := d.selected e
  let scope := d.get R.ENG_CONTROL_SCOPE e
  let holds (q : Nat) : Bool := d.qstate e q != 0 && (match (d.quarterOwner e q).bind d.image with | some im => (engOf im e).isSome | none => false)
  if sel.any (fun q => d.qstate e q == 1 || d.qstate e q == 2) then d.put R.ENG_STATUS_LOAD_RESULT e 1
  else if sel.any (fun q => !(holds q)) then d.put R.ENG_STATUS_LOAD_RESULT e 2
  else
    let banks := ((sel.filterMap (d.quarterOwner e)).eraseDups).filterMap (fun p => (d.image p).map (fun im => bankOf im (d.pasture p).attic e))
    let d := sel.foldl (fun d q =>
      let d := match d.quarterOwner e q with | some p => d.calEnd p | none => d
      { d.setQ e q 1 with loads := KMap.set (0, 0, 0) d.loads (e * 4 + q) (1, scope, 0) }) d
    (d.askLoad ⟨e, banks⟩).setBusy e

/-- Open the entry of quarter q. -/
def Die.openEntry (e q : Nat) (d : Die) : Die :=
  { d.setQ e q 2 with closed := KMap.set false d.closed (e * 4 + q) false }

/-- Static values take effect on engine e, in both banks (R247, R250). -/
def Die.takeStatics (e p : Nat) (im : Image) (d : Die) : Die :=
  let d := (d.writeStatics e p 0 im).writeStatics e p 1 im
  let step := (d.engPas e p).step
  ((d.pasture p).changed.filterMap (fun id => (tensorsOn im e).find? (fun t => t.id == id))).foldl (fun d t =>
    let v := (d.engPas e p).staticOf t
    d.scalePackets e p step t.id v.1 v.2) d

/-- A RESUME that leaves every quarter of the pasture on engine e open (R250): without STEP the engine's tensors take their static values. In a
balance group, once a RESUME of every member has done so since the values changed, all members take them at once. -/
def Die.resumePas (e p : Nat) (im : Image) (d : Die) : Die :=
  let step := (d.engPas e p).step
  if im.shape = 1 then
    let d := d.onEng e p (fun g => { g with resumed := true })
    if (enginesOf im).all (fun k => (d.engPas k p).resumed) then
      ((enginesOf im).foldl (fun d k => (d.takeStatics k p im).onEng k p (fun g => { g with resumed := false })) d).calInForce p step (fun _ => true)
    else d
  else if ((engOf im e).bind stepN).isNone then
    (d.takeStatics e p im).calInForce p step (fun id => (tensorsOn im e).any (fun t => t.id == id))
  else d

/-- RESUME (R152, R250): entries open. -/
def Die.resume (e : Nat) (d : Die) : Die :=
  let sel := d.selected e
  let ok (q : Nat) : Bool := d.qstate e q == 3 || (d.qstate e q == 2 && KMap.get false d.closed (e * 4 + q))
  let open_ := sel.filter (fun q => ok q && (match (d.quarterOwner e q).bind d.image with | some im => (engOf im e).isSome | none => false))
  let d := open_.foldl (fun d q => d.openEntry e q) d
  let ps := (open_.filterMap (d.quarterOwner e)).eraseDups
  (ps.foldl (fun d p => match d.image p with
    | none => d
    | some im => if d.entryOpen e p then d.resumePas e p im else d) d).setBusy e

/-- A write of ENG_CONTROL (R152, R532, R596). -/
def engControlW (e w : Nat) (d : Die) : Die :=
  if (d.sheep e).muster then d
  else
  let d := d.setFields .ENG e 0x010 w
  match lowestWo w [8, 9, 10] with
  | some 8 => d.quiesce e
  | some 9 => d.startLoad e
  | some _ => d.resume e
  | none => d

/-- ENG_QUIESCE. -/
def execEngQuiesce (src : Source) (e : Nat) (w : Word) (s : State) : Host.Outcome State Fault Refusal :=
  dieCmd (decide (e < 8)) (writeDie src (blockAddr .ENG e 0x010) (engControlW e w.toNat)) s

/-- ENG_LOAD. -/
def execEngLoad (src : Source) (e : Nat) (w : Word) (s : State) : Host.Outcome State Fault Refusal :=
  dieCmd (decide (e < 8)) (writeDie src (blockAddr .ENG e 0x010) (engControlW e w.toNat)) s

/-- ENG_RESUME. -/
def execEngResume (src : Source) (e : Nat) (w : Word) (s : State) : Host.Outcome State Fault Refusal :=
  dieCmd (decide (e < 8)) (writeDie src (blockAddr .ENG e 0x010) (engControlW e w.toNat)) s

/-- The quarters of engine e that a LOAD is loading; 4 marks those of a LOAD that has left another quarter empty (R146). -/
def Die.loadingQuarters (d : Die) (e : Nat) : List Nat :=
  (List.range 4).filter (fun q => let l := KMap.get (0, 0, 0) d.loads (e * 4 + q); l.1 == 1 && (l.2.2 == 0 || l.2.2 == 4))

/-- The loads of a LOAD complete (R142, R145, R146, R152): LOAD_RESULT 3 of a quarter left empty stands. -/
def Die.loadDone (fu : Fused) (e : Nat) (d : Die) : Die :=
  let qs := d.loadingQuarters e
  if qs.isEmpty || !(d.loadTurn e) then d
  else
    let part := qs.any (fun q => (KMap.get (0, 0, 0) d.loads (e * 4 + q)).2.2 == 4)
    let of_ (q : Nat) : Option (Nat × Image × EngineImg) :=
      (d.quarterOwner e q).bind (fun p => (d.image p).bind (fun im => (engOf im e).map (fun ei => (p, im, ei))))
    let ps := ((qs.filterMap of_).map (fun y => (y.1, y.2.1))).eraseDups
    let d := qs.foldl (fun d q =>
      let scope := (KMap.get (0, 0, 0) d.loads (e * 4 + q)).2.1
      let d := { d with loads := KMap.set (0, 0, 0) d.loads (e * 4 + q) (0, 0, 0) }
      match of_ q with
      | none => d.setQ e q 0
      | some (p, im, ei) => (d.loadQuarter fu e q p scope im ei).setQ e q 3) d
    let d := ps.foldl (fun d y => d.updReset e y.1 y.2 false) d
    ((d.count T.ENG_LOADS e).put R.ENG_STATUS_LOAD_RESULT e (if part then 3 else 0)).setBusy e

/-- LOAD_DONE: the loads in progress on the engine that no admission and no muster began. -/
def execLoadDone (e : Nat) (s : State) : Host.Outcome State Fault Refusal :=
  dieCmd (decide (e < 8)) (fun s => s.die.loadDone s.fused e) s

/-- The column left out of a physical row (R135). -/
def Die.leftOut (d : Die) (fu : Fused) (e r : Nat) : Nat := KMap.get (KMap.get 24 fu.spares (16 * e + r)) d.spares (16 * e + r)

/-- A write of ENG_RETIRE (R139, R152). -/
def engRetireW (fu : Fused) (e w : Nat) (d : Die) : Die :=
  let d := d.setFields .ENG e 0x014 w
  if bit w 31 then
    let c := d.get R.ENG_RETIRE_COLUMN e
    let r := d.get R.ENG_RETIRE_ROW e
    if d.leftOut fu e r < 24 then d.put R.ENG_STATUS_RETIRE_RESULT e 1
    else if 23 < c then d.put R.ENG_STATUS_RETIRE_RESULT e 2
    else { d.put R.ENG_STATUS_RETIRE_RESULT e 0 with staged := d.staged.filter (fun x => !(x.1 == e && x.2.1 == r)) ++ [(e, r, c)] }
  else d

/-- RETIRE_STAGE. -/
def execRetireStage (src : Source) (e : Nat) (w : Word) (s : State) : Host.Outcome State Fault Refusal :=
  dieCmd (decide (e < 8)) (fun s => writeDie src (blockAddr .ENG e 0x014) (engRetireW s.fused e w.toNat) s) s

/-- A write of FAB_BALANCE (R148, R151, R153). -/
def fabBalanceW (p w : Nat) (d : Die) : Die :=
  if d.on (pageLock (blockAddr .FAB p 0)) then d
  else
    let v := w % 4
    let alone := match d.image p with | some im => im.shape != 1 | none => true
    let updates := match d.image p with | some im => im.upd.isSome | none => false
    if alone || (updates && (v == 1 || v == 2)) then (d.put R.FAB_BALANCE_POLICY p 0).flag R.FAB_STATUS_POLICY_REFUSED p true
    else if v = 3 then d
    else d.put R.FAB_BALANCE_POLICY p v

/-- POLICY_WRITE. -/
def execPolicyWrite (src : Source) (p : Nat) (w : Word) (s : State) : Host.Outcome State Fault Refusal :=
  dieCmd (decide (p < 64)) (writeDie src (blockAddr .FAB p 0x010) (fabBalanceW p w.toNat)) s

end Sys2Proof.Machine
end

