-- ==== Sys2Proof/Machine/Layout.lean ====
section
/-! DEFINITION. The bytes of a Rosum image (R12, R276 to R282, R285, R304, R337, R338, R384 to R386, R393): what its header, section
table, signature block, manifest and sections hold. -/

namespace Sys2Proof.Machine

/-- The number that n bytes from offset i spell (R12). -/
def uAt (bs : List Byte) (i n : Nat) : Nat := leNat (slice bs i n)

/-- The two's complement number that n bytes from offset i spell. -/
def sAt (bs : List Byte) (i n : Nat) : Int := sext (uAt bs i n) (8 * n)

/-- The section table (R277). -/
def readSections (bs : List Byte) : List Section :=
  (List.range (uAt bs 6 2)).map (fun k =>
    let e := slice bs (32 + 16 * k) 16
    { type := uAt e 0 2, flags := uAt e 2 1, engine := uAt e 3 1, offset := uAt e 4 4, size := uAt e 8 4, zero := uAt e 12 4 })

/-- The bytes of a section (R277). -/
def sectionOf (bs : List Byte) (ss : List Section) (type engine : Nat) : Option (List Byte) :=
  (ss.find? (fun s => s.type == type && s.engine == engine)).map (fun s => slice bs s.offset s.size)

/-- Record sizes of the manifest's lists (R282, R338, R393). -/
def listSize (t : Nat) : Nat := [0, 20, 12, 10, 12, 9, 10, 40, 16, 2, 4].getD t 0

/-- n lists from their bytes: their heads and records, and whether they end within the bytes (R282). -/
def readLists : Nat → List Byte → List (ListHead × List (List Byte)) × Bool
  | 0, _ => ([], true)
  | n + 1, bs =>
    let h : ListHead := ⟨uAt bs 0 2, uAt bs 2 2, uAt bs 4 2, uAt bs 6 2⟩
    let size := 8 + h.count * h.size
    let r := readLists n (bs.drop size)
    ((h, chunk h.size h.count (bs.drop 8)) :: r.1, decide (size ≤ bs.length) && r.2)

/-- The records of a list type (R282); a list of a wrong record size has none. -/
def listRecords (ls : List (ListHead × List (List Byte))) (t : Nat) : List (List Byte) :=
  (ls.filter (fun y => y.1.type == t && y.1.size == listSize t)).flatMap (fun y => y.2)

/-- A FEED record (R282). -/
def readFeed (r : List Byte) : Feed :=
  { steer := uAt r 0 1, program := uAt r 1 1, table := uAt r 2 1, g := uAt r 3 1, lastRead := (List.range 8).map (fun i => uAt r (4 + 2 * i) 2) }

/-- A TABLE record (R282) with its default row from the LARDER section. -/
def readTable (defaults : List (Nat × List Byte)) (r : List Byte) : TableImg :=
  { table := uAt r 0 1, cls := uAt r 1 1, wback := uAt r 2 1, rowUnits := uAt r 3 1, maxKeys := uAt r 4 4, churn := uAt r 8 4
    default := KMap.get [] defaults (uAt r 0 1) }

/-- A LOOP record (R282). -/
def readLoop (r : List Byte) : LoopRec :=
  { engine := uAt r 0 1, counter := uAt r 1 1, gateTile := uAt r 2 2, gateOp := uAt r 4 1, exitTile := uAt r 5 2, exitOp := uAt r 7 1
    k := uAt r 8 1, b := uAt r 9 1 }

/-- A PAIR record (R282). -/
def readPair (r : List Byte) : PairRec :=
  { engine := uAt r 0 1, forkTile := uAt r 1 2, forkOp := uAt r 3 1, joinTile := uAt r 4 2, joinOp := uAt r 6 1, la := uAt r 7 2
    lb := uAt r 9 2, ba := uAt r 11 1 }

/-- A REGION record (R282). -/
def readRegion (r : List Byte) : Region :=
  { engine := uAt r 0 1, tile := uAt r 1 2, kind := uAt r 3 1, ctxMask := uAt r 4 1, first := uAt r 5 2, beats := uAt r 7 2 }

/-- A TENSOR record (R282) with its mapping. -/
def readTensor (ps : List TensorPart) (r : List Byte) : Tensor :=
  let m : TensorPart := (ps.find? (fun y => y.id == uAt r 0 2)).getD ⟨0, 0, [], [], []⟩
  { id := uAt r 0 2, format := uAt r 2 1, zp := sAt r 3 1, mode := uAt r 4 1, h := uAt r 5 1, cb := uAt r 6 1, calibratable := uAt r 7 1
    groups := uAt r 8 2, engine := m.engine, exps := m.exps, lanes := m.lanes, blocks := m.blocks }

/-- An UPDATE record (R338) with what its layer holds. -/
def readUpdRec (ps : List UpdPart) (r : List Byte) : UpdRec :=
  let m : UpdPart := (ps.find? (fun y => y.layer == uAt r 0 1)).getD ⟨0, [], 0, [], [], (0, 0)⟩
  let f (i : Nat) : Word := BitVec.ofNat 32 (uAt r (16 + 4 * i) 4)
  { layer := uAt r 0 1, opt := uAt r 1 1, tensor := uAt r 2 2, wfmt := uAt r 4 1, afmt := uAt r 5 1, ql := sAt r 6 2, j := uAt r 8 2, k := uAt r 10 2
    g := uAt r 12 1, dotIdx := uAt r 13 1, zero := uAt r 14 2, nlr := f 0, b1 := f 1, c1 := f 2, b2 := f 3, c2 := f 4, eps := f 5
    tiles := m.tiles, boff := m.boff, masters := m.masters, moments := m.moments, momentBase := m.momentBase }

/-- A SLOTRES record (R393). -/
def readSlotRes (r : List Byte) : SlotRes :=
  { kind := uAt r 0 1, port := uAt r 1 1, zero := uAt r 2 2, period := uAt r 4 4, phase := uAt r 8 4, len := uAt r 12 4 }

/-- A RINGPOS record (R282). -/
def readRingPos (r : List Byte) : Nat × Nat := (uAt r 0 1, uAt r 1 1)

/-- A BANKED record (R282). -/
def readBanked (r : List Byte) : Nat × Nat × Nat := (uAt r 0 1, uAt r 1 2, uAt r 3 1)

/-- The header of the UPDATE section and its capture points (R337). -/
def readUpdHdr (engine : Nat) (bs : List Byte) : UpdHdr :=
  let pt (i : Nat) : List Byte := slice bs (64 + 8 * i) 8
  let n := List.range (uAt bs 11 1)
  { engine := engine, fbyte := uAt bs 0 1, fmask := uAt bs 1 1, lbyte := uAt bs 2 1, lmask := uAt bs 3 1, loff := uAt bs 4 1, toff := uAt bs 5 1
    lag := uAt bs 6 1, delay := uAt bs 7 1, w := uAt bs 8 2, flockByte := uAt bs 10 1
    points := n.map (fun i => (uAt (pt i) 0 2, uAt (pt i) 2 1, uAt (pt i) 3 1, uAt (pt i) 4 1))
    maxb := uAt bs 12 4, wu := uAt bs 16 4, seed := BitVec.ofNat 64 (uAt bs 20 8), ws := uAt bs 28 4
    zero := uAt bs 32 32 + (n.map (fun i => uAt (pt i) 5 3)).sum }

/-- The template that begins at a byte of the TEMPLATE section (R384); its frame bytes are none where they run past the section. -/
def readTemplate (bs : List Byte) (first : Nat) : Template :=
  let h := slice bs first 16
  let fl := uAt h 7 1
  let n := uAt h 2 2
  { number := uAt h 0 2, kind := uAt h 4 1, port := uAt h 5 1, alt := uAt h 6 1, ipcs := bit fl 0, udpz := bit fl 1, tstamp := bit fl 2
    ipoff := uAt h 8 2, desc := uAt h 10 1, zero := fl / 8 + uAt h 11 5
    bytes := if first + 16 + n ≤ bs.length then slice bs (first + 16) n else [] }

/-- The patch list of number i that begins at a byte of the TEMPLATE section (R385). -/
def readPatchList (bs : List Byte) (i first : Nat) : PatchList :=
  let h := slice bs first 4
  { number := i, desc := uAt h 1 1, zero := uAt h 2 2
    patches := (List.range (uAt h 0 1)).map (fun k => BitVec.ofNat 32 (uAt bs (first + 4 + 4 * k) 4)) }

/-- The launch descriptor of number i that begins at a byte of the TEMPLATE section (R386). -/
def readDesc (bs : List Byte) (i first : Nat) : LaunchDesc :=
  let h := slice bs first 24
  let tb := uAt h 2 1
  { number := i, mode := uAt h 0 1, base := uAt h 1 1, tb := tb % 16, queue := bits tb 4 3, poff := uAt h 3 1, time := uAt h 4 5
    offset := sAt h 12 4, win := uAt h 16 4, zero := tb / 128 + uAt h 9 3 + uAt h 20 4 }

/-- The stages of a certified path from their bytes (R304). -/
def readStages (bs : List Byte) (first count : Nat) : List CertStage :=
  (List.range count).map (fun i =>
    let e := slice bs (first + 8 * i) 8
    { island := uAt e 0 1, kind := uAt e 1 1, rate := uAt e 2 1, zero := uAt e 3 1, count := uAt e 4 4 })

/-- The logical tiles of an engine's quarters, ascending (R139). -/
def quarterTiles (e quarters : Nat) : List Nat :=
  (bitsOf quarters 4).flatMap (fun q => ((span (q * 128) (q * 128 + 128)).filter (fun t => t % 32 < 24)).map (e * 512 + ·))

/-- A region that TILESTORE does not hold: the twin of an updatable layer's (R309). -/
def isTwin (rs : List Region) (us : List UpdRec) (tile : Nat) (r : Region) : Bool :=
  us.any (fun u => u.boff != 0 && u.tiles.any (fun t => t.1 % 512 == tile % 512 && rs.any (fun a => a.kind == 0 && decide (a.first ≤ t.2.2.1)
    && decide (t.2.2.1 + t.2.2.2.1 ≤ a.first + a.beats) && r.first == a.first + u.boff && r.beats == a.beats)))

/-- The WEIGHT and PARAM regions of a tile that TILESTORE holds, in region-list order (R278, R285, R309). -/
def storedRegions (rs : List Region) (us : List UpdRec) (tile : Nat) : List Region :=
  let mine := rs.filter (fun r => r.tile == 0xFFFF || r.tile % 512 == tile % 512)
  mine.filter (fun r => decide (r.kind ≤ 1) && !(isTwin mine us tile r))

/-- The TILESTORE section cut into the beats of its tiles, ascending (R278). -/
def cutStore (rs : List Region) (us : List UpdRec) : List Nat → List Byte → List (Nat × List (Nat × Beat))
  | [], _ => []
  | t :: ts, bs =>
    let beats := (storedRegions rs us t).flatMap (fun r => span r.first (r.first + r.beats))
    (t, (beats.zip (chunk 32 beats.length bs)).map (fun y => (y.1, BitVec.ofNat 256 (leNat y.2))))
      :: cutStore rs us ts (bs.drop (32 * beats.length))

/-- The tiles of an engine from its CONFIG and TILESTORE sections (R278, R285): a tile beyond the end of CONFIG is not configured. -/
def readTiles (e quarters : Nat) (cfgs : List (Nat × TileCfg)) (rs : List Region) (us : List UpdRec) (config store : List Byte) : List TileImg :=
  (indexed (cutStore rs us (quarterTiles e quarters) store)).map (fun y =>
    { addr := y.2.1, store := y.2.2
      cfg := if 4096 * (y.1 + 1) ≤ config.length then ((cfgs.find? (fun c => c.1 % 512 == y.2.1 % 512)).map (fun c => c.2)).getD {} else {} })

/-- The engine whose CONFIG and TILESTORE sections engine e loads: in a balance group the one copy of its lowest engine (R286). -/
def copyOf (shape mask e : Nat) : Nat := if shape = 1 then (bitsOf mask 8).headD e else e

/-- An image from its bytes (R276 to R282) and the parts that have no byte layout, each of which counts only where its section stands. -/
def imageOf (bs : List Byte) (x : ImageParts) : Image :=
  let ss := readSections bs
  let sect (t : Nat) : Option (List Byte) := sectionOf bs ss t 0xFF
  let with_ {α : Type} (t : Nat) (l : List α) : List α := if (sect t).isSome then l else []
  let sig := bs.drop (bs.length - 128)
  let man := (sect 1).getD []
  let ls := readLists (uAt man 24 2) (man.drop 128)
  let recs := listRecords ls.1
  let mask := uAt man 8 1
  let shape := uAt man 9 1
  let regions := (recs 5).map readRegion
  let updRecs := (recs 7).map (readUpdRec (with_ 9 x.upds))
  let engines := (bitsOf mask 8).map (fun e =>
    let h := slice man (32 + 8 * e) 8
    let c := copyOf shape mask e
    let config := (sectionOf bs ss 2 c).getD []
    let store := (sectionOf bs ss 3 c).getD []
    let mine := regions.filter (fun r => r.engine == e || (shape == 1 && bit mask r.engine))
    ({ engine := e, quarters := uAt h 0 1, fold := uAt h 1 1, ii := uAt h 2 2, stages := uAt h 4 2, slots := uAt h 6 2
       tiles := readTiles e (uAt h 0 1) (KMap.get [] x.configs c) mine updRecs config store
       configSize := config.length, storeSize := store.length } : EngineImg))
  let tpl := (sect 8).getD []
  let cert := (sect 10).getD []
  { magic := uAt bs 0 4, format := uAt bs 4 2, imageId := uAt bs 8 4, length := uAt bs 12 4, keySlot := uAt bs 16 1, hdrZero := uAt bs 17 15
    sections := ss, digest := sha384 (bs.take (bs.length - 128)), sigR := beNat (slice sig 0 48), sigS := beNat (slice sig 48 48)
    sigZero := uAt sig 96 32
    manImageId := uAt man 0 4, grades := uAt man 4 1, mode := uAt man 5 1, fMHz := uAt man 6 2, engineMask := mask, shape := shape
    sheep := uAt man 10 1, auditByte := uAt man 11 1, entryWait := uAt man 12 2, certNs := uAt man 14 2
    stepBase := BitVec.ofNat 64 (uAt man 16 8), manZero := uAt man 26 6 + uAt man 96 32
    listCount := uAt man 24 2, lists := ls.1.map (fun y => y.1), listsFit := ls.2
    engines := engines, regions := regions
    calendars := x.calendars.filter (fun c => (sectionOf bs ss 2 (copyOf shape mask c.engine)).isSome)
    programs := with_ 4 x.programs, steers := with_ 5 x.steers, feeds := (recs 1).map readFeed, reflex := with_ 6 x.reflex
    tables := (recs 2).map (readTable (with_ 7 x.defaults))
    templates := with_ 8 (x.templateAt.map (readTemplate tpl))
    patchLists := with_ 8 ((indexed x.patchAt).map (fun y => readPatchList tpl y.1 y.2))
    descs := with_ 8 ((indexed x.descAt).map (fun y => readDesc tpl y.1 y.2))
    loops := (recs 3).map readLoop, pairs := (recs 4).map readPair, tensors := (recs 6).map (readTensor x.tensors), biases := x.biases
    banked := (recs 10).map readBanked, ringPos := (recs 9).map readRingPos, slotRes := (recs 8).map readSlotRes
    upd := (sect 9).map (readUpdHdr (((updRecs.flatMap (fun r => r.tiles.map (fun t => t.1 / 512))).head?).getD ((bitsOf mask 8).headD 0)))
    updRecs := updRecs
    cert := x.cert.map (fun p => { source := p.source, program := p.program, record := p.record, egressKind := p.egressKind, egress := p.egress
                                   stages := readStages cert p.first p.count, total := p.total, wheels := p.wheels })
    packet := if engines.any (fun e => e.configSize != 0) then x.packet else [], scaleFree := x.scaleFree }

end Sys2Proof.Machine
end

