-- ==== Sys2Proof/Machine/Manifest.lean ====
section
/-! DEFINITION. The admission checks of the classes 01 to 04 (R276 to R289, R303): the image's layout, manifest and sections, the
device and its settings, the pasture's grant and the other pastures, parser programs and reflex rules. -/

namespace Sys2Proof.Machine

/-- PAS_ADMIT_WHERE (R306). -/
structure Where where
  tile : Nat := 0xFFFF
  op : Nat := 0
  ctx : Nat := 0
  item : Nat := 0

/-- What an admission's checks look at: the device, the pasture, the image, and the admitted image that REPLACE would replace. -/
structure AdmCtx where
  fu : Fused
  d : Die
  p : Nat
  im : Image
  old : Option Image

/-- A check: where it fails, if it does. -/
abbrev Check := AdmCtx → Option Where

/-- The failing item of index i (R306). -/
def itemAt (i : Nat) : Where := { item := if 254 < i then 255 else i }

/-- Fails when b holds. -/
def failIf (b : Bool) : Option Where := if b then some {} else none

/-- Fails at the first element that is bad. -/
def failItem {α : Type} (l : List α) (bad : α → Bool) : Option Where := ((indexed l).find? (fun x => bad x.2)).map (fun x => itemAt x.1)

/-- The first of several checks that fails. -/
def firstFail (l : List (Option Where)) : Option Where := l.findSome? id

/-- No element twice. -/
def distinct (l : List Nat) : Bool := l.eraseDups.length == l.length

/-- A pasture's grant field of the pasture being admitted. -/
def AdmCtx.g (x : AdmCtx) (i n : Nat) : Nat := grantField (x.d.grant x.p) i n

/-- 0x0101 (R276). -/
def chkMagic (x : AdmCtx) : Option Where := failIf (x.im.magic != 0x4D534F52 || x.im.format != 1 || x.im.hdrZero != 0)

/-- 0x0102 (R276, R306). -/
def chkLength (x : AdmCtx) : Option Where :=
  failIf (x.im.length != x.d.get R.PAS_IMAGE_LEN_LENGTH x.p || decide (2 ^ 27 < x.im.length) || x.im.length % 64 != 0)

/-- A key slot verifies what its flag allows (R498, R500). -/
def Die.keyOk (d : Die) (slot : Nat) (use : KeySlot → Bool) (digest r s : Nat) : Bool :=
  let k := KMap.get {} d.otp.keys slot
  decide (slot < 8) && k.programmed && !k.revoked && use k && ecdsaOk (k.x, k.y) digest r s

/-- 0x0104 (R279, R496, R500). -/
def chkSign (x : AdmCtx) : Option Where :=
  failIf (x.d.otp.lifecycle == 0 || x.d.otp.lifecycle == 4 || x.im.sigZero != 0
    || !(x.d.keyOk x.im.keySlot (fun k => k.image) x.im.digest x.im.sigR x.im.sigS))

/-- Two sections overlap. -/
def sectMeets (a b : Section) : Bool := decide (a.offset < b.offset + b.size) && decide (b.offset < a.offset + a.size)

/-- 0x0105 (R277, R278). -/
def chkSections (x : AdmCtx) : Option Where :=
  let ss := x.im.sections
  let lo := 32 + 16 * ss.length
  let count (t : Nat) (e : Nat) : Nat := (ss.filter (fun s => s.type == t && s.engine == e)).length
  let used := x.im.engines.map (fun e => e.engine)
  let full := if x.im.shape = 1 then used.take 1 else used
  firstFail [
    failIf (ss.isEmpty || decide (64 < ss.length)),
    (indexed ss).findSome? (fun q =>
      let s := q.2
      let bad := s.offset % 64 != 0 || decide (s.offset < lo) || decide (x.im.length < s.offset + s.size + 128) || s.zero != 0 || decide (1 < s.flags)
        || s.type == 0 || (decide (12 ≤ s.type) && !s.optional)
        || (if s.type == 2 || s.type == 3 then !(used.contains s.engine) else decide (s.type < 12) && s.engine != 0xFF)
        || (ss.take q.1).any (sectMeets s)
      if bad then some (itemAt q.1) else none),
    failIf (count 1 0xFF != 1 || count 10 0xFF != 1 || [4, 5, 6, 7, 8, 9].any (fun t => decide (1 < count t 0xFF))
      || full.any (fun e => count 2 e != 1 || count 3 e != 1) || used.any (fun e => decide (1 < count 2 e) || decide (1 < count 3 e)))]

/-- The fixed part of the manifest and its lists' heads (R281, R282). -/
def chkManifest (x : AdmCtx) : Option Where :=
  let im := x.im
  let engs := (bitsOf im.engineMask 8)
  let mhz := if im.locked then [1500, 1750, 2000].contains im.fMHz
    else im.fMHz % 250 == 0 && decide (1000 ≤ im.fMHz) && decide (im.fMHz ≤ 2000)
  firstFail [
    failIf (im.manImageId != im.imageId || !mhz || decide (2 < im.shape) || decide (3 < im.sheep) || decide (1 < im.mode)
      || decide (1 < im.auditByte) || im.manZero != 0
      || decide (255 < im.engineMask) || (im.shape == 0 && decide (1 < engs.length))
      || !(engs.all (fun e => (engOf im e).isSome)) || !(im.engines.all (fun e => bit im.engineMask e.engine))
      || !(distinct (im.engines.map (fun e => e.engine)))
      || im.engines.any (fun e => decide (3 < e.fold) || e.quarters == 0 || decide (15 < e.quarters) || e.ii == 0
          || e.slots != cdiv e.stages e.ii || decide (2 ^ 16 ≤ e.ii) || decide (2 ^ 16 ≤ e.stages))),
    failItem im.lists (fun l => l.type == 0 || decide (10 < l.type) || l.size != listSize l.type || l.zero != 0),
    failIf (!(distinct (im.lists.map (fun l => l.type))) || !im.listsFit || im.listCount != im.lists.length)]

/-- A power of two from 2^10 to 2^30. -/
def pow1030 (n : Nat) : Bool := (span 10 31).any (fun k => n == 2 ^ k)

/-- A beat of the manifest's packet enters a queue that configuration binds to the entry, on a column-0 tile (R108, R133). -/
def packetStands (im : Image) (b : PacketBeat) : Bool :=
  tileCol b.tile == 0 && decide (b.iq < 4) && (match im.engines.find? (fun ei => im.shape == 1 || ei.engine == tileEng b.tile) with
    | some ei => decide (bindingOf ei b.tile b.ctx b.iq = .entry)
    | none => false)

/-- Limits of the list records (R72, R81, R82, R282, R283, R288, R338, R393). -/
def chkRecords (x : AdmCtx) : Option Where :=
  let im := x.im
  firstFail [
    failItem im.feeds (fun f => decide (f.g == 0) || decide (16 < f.g) || f.lastRead.length != 8
      || !(im.steers.any (fun s => s.index == f.steer && s.program == f.program)) || (f.table != 0xFF && (tableRec im f.table).isNone)),
    failIf (!(distinct (im.feeds.map (fun f => f.steer)))),
    failItem im.steers (fun s => decide (80 < s.source) || decide (63 < s.index) || decide (7 < s.tb) || decide (63 < s.channel)
      || (programOf im s.source s.program).isNone),
    failIf (!(distinct (im.steers.map (fun s => s.source * 64 + s.index)))),
    failItem im.tables (fun t => decide (7 < t.table) || t.rowUnits == 0 || decide (32 < t.rowUnits) || decide (t.maxKeys < t.churn)
      || decide (1 < t.cls) || decide (1 < t.wback) || (t.writeback && !t.state) || t.default.length != 8 * t.rowUnits),
    failIf (!(distinct (im.tables.map (fun t => t.table)))),
    failItem im.loops (fun l => decide (1 < l.counter)),
    failItem im.regions (fun r => decide (3 < r.kind) || decide (255 < r.ctxMask)),
    failItem im.tensors (fun t => t.h == 0 || decide (16 < t.h) || decide (3 < t.cb) || decide (t.zp < -128) || decide (127 < t.zp)
      || decide (1 < t.mode) || decide (1 < t.calibratable)),
    failItem im.updRecs (fun r => decide (7 < r.layer) || decide (1 < r.opt) || !([32, 64, 128].contains r.g) || r.zero != 0
      || (r.opt == 1 && (bit r.eps.toNat 31 || decide (r.eps.toNat < 0x00800000)))),
    failItem im.slotRes (fun r => !(r.kind == 1 || r.kind == 2) || decide ((if r.kind = 1 then 15 else 63) < r.port) || !(pow1030 r.period)
      || r.zero != 0 || decide (r.period ≤ r.phase) || r.len == 0 || decide (r.period < r.len)),
    failItem im.ringPos (fun r => r.2 == 0 || decide (16 < r.2) || decide (7 < r.1)),
    failItem im.packet (fun b => !(packetStands im b)),
    failIf ((enginesOf im).any (fun e => (packetOf im e).isEmpty || (decide (8 < (packetOf im e).length) && !(im.shape == 2 && e != spanFirst im))))]

/-- Source bytes of a patch's SRC (R385). -/
def patchSize (s : Nat) : Nat := [24, 6, 12, 8].getD s 0

/-- Limits of the TEMPLATE section (R384 to R386, R428, R464). -/
def chkTemplates (x : AdmCtx) : Option Where :=
  let im := x.im
  let port (k n : Nat) : Bool := decide (n < if k = 1 then 16 else 64)
  let lenOk (t : Template) : Bool :=
    let n := t.bytes.length
    if t.kind = 1 then decide (60 ≤ n) && decide (n ≤ 1514)
    else decide (5 ≤ n) && decide (n ≤ 257) && (n - 1) % 4 == 0 && decide ((byteAt t.bytes 0).toNat < 64)
  let ip (t : Template) : Bool :=
    !(t.ipcs || t.udpz) || decide (t.ipoff + 20 ≤ t.bytes.length)
  firstFail [
    failItem im.templates (fun t => decide (1023 < t.number) || !(t.kind == 1 || t.kind == 2) || !(port t.kind t.port)
      || !(t.alt == 255 || port t.kind t.alt) || decide (15 < t.desc) || t.zero != 0 || !(lenOk t) || !(ip t)),
    failIf (!(distinct (im.templates.map (fun t => t.number)))),
    failItem im.patchLists (fun l => decide (15 < l.number) || decide (15 < l.desc) || l.zero != 0 || l.patches.isEmpty || decide (8 < l.patches.length)
      || l.patches.any (fun w => let v := w.toNat
          decide (3 < bits v 0 3) || bits v 24 8 != 0 || decide (patchSize (bits v 0 3) < bits v 3 5 + (bits v 8 4 + 1)))),
    failIf (!(distinct (im.patchLists.map (fun l => l.number)))),
    failItem im.descs (fun q => decide (15 < q.number) || decide (2 < q.mode) || decide (3 < q.base) || decide (9 < q.tb) || decide (7 < q.queue)
      || (q.base == 3 && decide (19 < q.poff)) || decide (2 ^ 40 ≤ q.time) || decide (2 ^ 32 ≤ q.win) || q.zero != 0
      || (q.mode == 0 && (q.base != 0 || q.time != 0 || decide (q.offset ≠ 0)))),
    failIf (!(distinct (im.descs.map (fun q => q.number)))),
    failIf (im.engines.any (fun ei => (opsOf ei.engine ei).any (fun o => opc o.w == 32 && bit o.w 36
      && (match im.templates.find? (fun t => t.number == fld o.w 22 13), im.patchLists.find? (fun l => l.number == fld o.w 12 9) with
        | some t, some l => l.patches.any (fun w => decide (t.bytes.length < bits w.toNat 13 11 + (bits w.toNat 8 4 + 1)))
        | _, _ => false))))]

/-- Limits of the UPDATE header (R319, R321, R337). -/
def chkUpdHdr (x : AdmCtx) : Option Where :=
  match x.im.upd with
  | none => failIf (!x.im.updRecs.isEmpty)
  | some u => failIf (decide (63 < u.fbyte) || u.fmask == 0 || decide (255 < u.fmask) || decide (63 < u.lbyte) || u.lmask == 0
      || decide (255 < u.lmask) || decide (64 < u.loff + 6) || decide (64 < u.toff + 16) || decide (15 < u.lag) || decide (u.delay < u.lag + 2)
      || decide (255 < u.delay) || u.w == 0 || decide (64000 < u.w) || u.points.isEmpty || decide (16 < u.points.length) || decide (1 < u.flockByte) || u.zero != 0 || u.maxb == 0
      || decide (65536 < u.maxb))

/-- 0x0106. -/
def chkFields (x : AdmCtx) : Option Where := firstFail [chkManifest x, chkRecords x, chkTemplates x, chkUpdHdr x]

/-- 0x0201 (R6). -/
def chkGrade (x : AdmCtx) : Option Where :=
  failIf ((bitsOf x.im.engineMask 8).any (fun e => decide (x.fu.engines ≤ e)) || !(bit x.im.grades x.fu.grade))

/-- The grade's largest engine clock in MHz (R4). -/
def Fused.maxMHz (f : Fused) : Nat := if f.grade = 0 then 2000 else 1750

/-- 0x0202 (R6). -/
def chkClock (x : AdmCtx) : Option Where := failIf (decide (x.fu.maxMHz < x.im.fMHz))

/-- 0x0203 (R47). -/
def chkMode (x : AdmCtx) : Option Where := failIf (b2n x.im.locked != x.d.get R.DEV_TIMING_STATUS_MODE)

/-- The Locked clock point in MHz (R30). -/
def pointMHz (p : Nat) : Nat := 1500 + 250 * p

/-- 0x0204 (R47). -/
def chkPoint (x : AdmCtx) : Option Where := failIf (x.im.locked && x.im.fMHz != pointMHz (x.d.get R.DEV_TIMING_STATUS_POINT))

/-- The engine clock a profile allows (R570). -/
def Fused.profileMHz (f : Fused) (profile : Nat) : Nat := if profile = 0 then f.maxMHz else if profile = 1 then 1750 else 1250

/-- 0x0205 (R47). -/
def chkFloor (x : AdmCtx) : Option Where :=
  failIf (!x.im.locked && decide (x.fu.profileMHz (x.d.get R.PWR_STATUS_PROFILE) < x.im.fMHz))

/-- 0x0206 (R496, R504). -/
def chkAudited (x : AdmCtx) : Option Where := failIf (x.im.audited && (x.d.otp.lifecycle == 3 || x.d.debug == 3))

/-- 0x0301 (R294). -/
def chkQuarters (x : AdmCtx) : Option Where :=
  failIf ((enginesOf x.im).any (fun e => match engOf x.im e with
    | some ei => (bitsOf ei.quarters 4).any (fun q => !(x.d.ownsQuarter x.p e q))
    | none => false))

/-- Tables of the old image that the new one does not keep (R300). -/
def droppedTables (old new : Image) : List TableImg :=
  old.tables.filter (fun t => !(new.tables.any (fun u => u.table == t.table && u.state == t.state && u.rowUnits == t.rowUnits)))

/-- 0x0302 (R288, R299). -/
def chkLarder (x : AdmCtx) : Option Where :=
  let ts := x.im.tables ++ (match x.old with | some o => droppedTables o x.im | none => [])
  let words : Nat := (ts.map (fun t => (t.maxKeys + t.churn + 2) * t.rowUnits)).sum
  let keys : Nat := (ts.map (fun t => t.maxKeys)).sum
  let k := x.d.grantK x.p
  failIf (!ts.isEmpty && (k == 0 || decide (x.g 12 4 < words) || decide (4 * 2 ^ k < 2 * keys)))

/-- Attic extents of an image (R286): a balance group holds one copy. -/
def extentsOf (im : Image) : Nat :=
  ((if im.shape = 1 then im.engines.take 1 else im.engines).map (fun e => cdiv e.configSize 65536 + cdiv e.storeSize 65536)).sum

/-- 0x0303 (R286, R299). -/
def chkAttic (x : AdmCtx) : Option Where :=
  let need := extentsOf x.im
  let mine := match x.old with | some o => extentsOf o | none => 0
  let all := (pastures.map (fun p => (x.d.pasture p).extents)).sum
  failIf (decide (x.g 24 2 < need + mine) || decide (Config.atticExtents < need + all))

/-- Template units of an image (R289). -/
def unitsOf (im : Image) : Nat := (im.templates.map (fun t => cdiv (16 + t.bytes.length) 64)).sum

/-- Steering entries and programs other pastures hold on a port. -/
def Die.portOthers (d : Die) (p g : Nat) : List SteerEnt :=
  (List.range 64).filterMap (fun i => match KMap.get none d.steer (g * 64 + i) with
    | some e => if e.pasture = p then none else some e
    | none => none)

/-- 0x0304 (R289, R490): templates, programs and steering entries by port, reflex rules. -/
def chkStores (x : AdmCtx) : Option Where :=
  let im := x.im
  let units := unitsOf im + (match x.old with | some o => unitsOf o | none => 0)
  let ports := ((im.steers.map (fun s => s.source)) ++ im.programs.map (fun q => q.port)).eraseDups
  firstFail [
    failIf (decide (x.g 26 2 < units) || decide (16 < im.reflex.length)),
    failIf (ports.any (fun g =>
      let ss := (im.steers.filter (fun s => s.source == g)).length
      let ps := (im.programs.filter (fun q => q.port == g)).length
      let others := x.d.portOthers x.p g
      let full := decide (64 < ss + others.length) || decide (16 < ps + (others.map (fun e => (e.pasture, e.entry.program))).eraseDups.length)
      if g = 80 then full || decide (1 < ss)
      else
        let mine := if g < 64 then bit (x.g 40 8) g else bit (x.g 30 2) (g - 64)
        full || !mine || decide (x.g 22 1 < ss) || decide (x.g 21 1 < ps)))]

/-- 0x0305 (R126). -/
def chkSlots (x : AdmCtx) : Option Where :=
  failIf ((enginesOf x.im).any (fun e => match engOf x.im e with
    | some ei => decide (256 * (x.d.quartersOf e x.p).length < cdiv ei.stages ei.ii)
    | none => false))

/-- The feeds with a table, which hold foreground wheel positions (R81). -/
def wheelFeeds (im : Image) : List Feed := im.feeds.filter (fun f => f.table != 0xFF)

/-- The g that each holder of foreground wheel positions assumes (R81, R82, R282): the feeds with a table, then the engines that read rows. -/
def wheelAsks (im : Image) : List Nat := (wheelFeeds im).map (fun f => f.g) ++ im.ringPos.map (fun r => r.2)

/-- Every distance between consecutive positions, around the wheel of 16, is at most g (R82); `held` has the latest position first. -/
def wheelCloses (y : Nat × List Nat) : Bool :=
  match y.2.getLast?, y.2 with
  | some a, z :: _ => decide (a + 16 - z ≤ y.1)
  | _, _ => false

/-- A holder that has taken no position in the g before position i. -/
def wheelLate (i : Nat) (y : Nat × List Nat) : Bool :=
  match y.2 with
  | [] => decide (y.1 < i + 1)
  | z :: _ => decide (z + y.1 < i)

/-- A holder that position i is the last to serve. -/
def wheelDue (i : Nat) (y : Nat × List Nat) : Bool :=
  match y.2 with
  | [] => y.1 == i + 1
  | z :: _ => z + y.1 == i

/-- Positions for holders that each assume a g, over the last n of the 16 positions and within a number of positions (R81, R82): the first
way found that gives each its g, none if there is none. DESIGN CHOICE: which way is taken (log 52). -/
def placeWheel (free : Nat → Bool) : Nat → Nat → List (Nat × List Nat) → Option (List (List Nat))
  | 0, _, l => if l.all wheelCloses then some (l.map (fun y => y.2.reverse)) else none
  | n + 1, left, l =>
    let i := 15 - n
    if l.any (wheelLate i) then none
    else
      let due := (List.range l.length).filter (fun k => wheelDue i (l.getD k (0, [])))
      let rest := (List.range l.length).filter (fun k => !(wheelDue i (l.getD k (0, []))))
      let given := if free i && decide (0 < left) then
          (due ++ rest).findSome? (fun k => placeWheel free n (left - 1) (l.modify k (fun y => (y.1, i :: y.2))))
        else none
      match given with
      | some r => some r
      | none => placeWheel free n left l

/-- The positions that the other pastures hold (R81). -/
def Die.wheelTaken (d : Die) (p : Nat) : List Nat :=
  d.pas.flatMap (fun y => if y.1 = p then [] else (y.2.wheel ++ y.2.wheelNew).flatten)

/-- The positions an image is given (R81, R289), within its grant. -/
def Die.wheelPlace (d : Die) (p : Nat) (im : Image) : Option (List (List Nat)) :=
  let taken := d.wheelTaken p
  placeWheel (fun i => !(taken.contains i)) 16 (grantField (d.grant p) 6 1) ((wheelAsks im).map (fun g => (g, [])))

/-- The largest distance between consecutive positions of a holder (R82). -/
def wheelGap (held : List Nat) : Nat :=
  match held with
  | [] => 16
  | a :: l => ((l ++ [a + 16]).zip held).foldl (fun m y => max m (y.1 - y.2)) 0

/-- 0x0306 (R81, R82, R289). -/
def chkWheel (x : AdmCtx) : Option Where := failIf (x.d.wheelPlace x.p x.im).isNone

/-- Updatable weights of a layer that stand on a tile (R186, R308): the outputs and inputs of its DOT there, within the layer's. -/
def tileWeights (im : Image) (tile : Nat) (r : UpdRec) : Nat :=
  ((r.tiles.filter (fun t => t.1 == tile)).map (fun t =>
    let w := match ((engOf im (tileEng tile)).bind (fun ei => tileImg ei tile)).bind (fun ti => ti.cfg.ctxs[t.2.1]?) with
      | some c => opAt c r.dotIdx
      | none => 0
    let outs := fld w 14 10 + 1
    let ins := (fld w 33 30 + 1) * classN (pairWidth (fld w 41 38) (fld w 37 34))
    min outs (r.j - t.2.2.2.2.1) * min ins (r.k - t.2.2.2.2.2))).sum

/-- 0x0307 (R289, R307, R308). -/
def chkUpdStore (x : AdmCtx) : Option Where :=
  match x.im.upd with
  | none => none
  | some u =>
    let tiles := (x.im.updRecs.flatMap (fun r => r.tiles.map (fun t => t.1))).eraseDups
    failIf (x.d.updOwner u.engine != some x.p || decide (8 < x.im.updRecs.length)
      || tiles.any (fun t => decide (1024 < (x.im.updRecs.map (tileWeights x.im t)).sum)) || decide (1040384 < (x.im.updRecs.map (fun r => r.j * r.k)).sum))

/-- Two entries of one port match some common frame (R54). -/
def steerMeets (raw : Bool) (a b : Steer) : Bool :=
  let both {α : Type} [BEq α] (u v : Option α) : Bool := match u, v with | some s, some t => s == t | _, _ => true
  if a.source = 80 then false
  else if a.source < 64 then raw || a.channel == b.channel
  else both a.vlan b.vlan && both a.ip b.ip && both a.udp b.udp

/-- 0x0308 (R54). -/
def chkSteer (x : AdmCtx) : Option Where :=
  failItem x.im.steers (fun s =>
    let raw := decide (s.source < 64) && x.d.get R.LNK_CONTROL_MODE s.source == 1
    (x.d.portOthers x.p s.source).any (fun e => steerMeets raw s e.entry))

/-- Two slot reservations share an FC (R393): every period is a power of 2. -/
def slotMeets (a b : SlotRes) : Bool :=
  let s := if a.period ≤ b.period then a else b
  let t := if a.period ≤ b.period then b else a
  a.kind == b.kind && a.port == b.port
    && (decide ((s.phase + (s.period - t.phase % s.period)) % s.period < t.len) || decide ((t.phase + (s.period - s.phase % s.period)) % s.period < s.len))

/-- 0x0309 (R393). -/
def chkSlotRes (x : AdmCtx) : Option Where :=
  failItem x.im.slotRes (fun r => pastures.any (fun p => p != x.p && (match x.d.image p with
    | some y => y.slotRes.any (slotMeets r)
    | none => false)))

/-- 0x030A (R357, R490). -/
def chkAuditGrant (x : AdmCtx) : Option Where :=
  failIf (x.im.audited && (!(bit (x.g 7 1) 0) || x.d.on R.FAB_REPLAY_ENABLE x.p))

/-- 0x0401 (R56, R57). -/
def chkPrograms (x : AdmCtx) : Option Where :=
  failItem x.im.programs (fun q => q.instrs.any (fun w =>
    let i := pInstr w
    let l := bits w.toNat 13 3
    decide (14 ≤ i.op) || (i.op == 1 && (decide (i.dst < 24) || decide (64 < i.dst + i.n))) || (i.op == 2 && decide (3 < l))
      || (i.op == 4 && decide (4 < l)) || (i.op == 5 && (decide (5 < l) || decide (15 < i.arg)))) || decide (16 < q.consts.length))

/-- 0x0402 (R58). -/
def chkSkips (x : AdmCtx) : Option Where :=
  failItem x.im.programs (fun q => (indexed q.instrs).any (fun w =>
    let i := pInstr w.2
    (i.op == 6 || i.op == 7) && decide (q.instrs.length < w.1 + 1 + i.arg)))

/-- What may hold before an instruction: the cursor's least and greatest value, whether a CUR has moved it, and the records closed. -/
structure PAbs where
  lo : Nat := 0
  hi : Nat := 0
  wide : Bool := false
  recs : Nat := 0
deriving DecidableEq

/-- What may hold after an instruction that leads to the next one (R57, R60): a ninth EMITR ends the program. -/
def PAbs.pass (i : PInstr) (a : PAbs) : List PAbs :=
  match i.op with
  | 8 => [{ a with lo := a.lo + i.arg, hi := a.hi + i.arg + 2 ^ (8 * i.n) - 1, wide := true }]
  | 9 => [{ a with lo := a.lo + i.off + i.arg, hi := a.hi + i.off + i.arg }]
  | 11 => if 8 ≤ a.recs then [] else [{ a with recs := a.recs + 1 }]
  | 12 | 13 => []
  | _ => [a]

/-- Every instruction a program can reach with all that may hold before it (R57, R58); skips only lead forward. -/
def pScan : Nat → List Word → KMap (List PAbs) → List (PInstr × List PAbs)
  | _, [], _ => []
  | k, w :: ws, m =>
    match KMap.get [] m k with
    | [] => pScan (k + 1) ws m
    | a :: l =>
      let i := pInstr w
      let go (t : Nat) (m : KMap (List PAbs)) : KMap (List PAbs) := KMap.upd [] m t (fun b => (b ++ (a :: l).flatMap (PAbs.pass i)).eraseDups)
      let m := go (k + 1) (if i.op = 6 ∨ i.op = 7 then go (k + 1 + i.arg) m else m)
      (i, a :: l) :: pScan (k + 1) ws m

/-- The reachable instructions of a program. -/
def progScan (q : Program) : List (PInstr × List PAbs) := pScan 0 q.instrs [(0, [{}])]

/-- The most records a program closes (R60, R305). -/
def maxRecords (q : Program) : Nat :=
  (progScan q).foldl (fun m y => if y.1.op = 11 ∨ y.1.op = 12 then y.2.foldl (fun m a => max m (min 8 (a.recs + 1))) m else m) 0

/-- The payload bases of the frames that run a program, from the byte R63 counts from: with and without the tag, at every IHL. -/
def AdmCtx.bases (x : AdmCtx) (q : Program) : List Nat :=
  let ss := x.im.steers.filter (fun s => s.source == q.port && s.program == q.number)
  if q.port = 80 then [if x.d.on R.FAB_REPLAY_ENABLE x.p then 24 else 0]
  else if q.port < 64 then [0]
  else
    let heads := (if ss.any (fun s => s.vlan == none || s.vlan == some 0x1000) then [14] else []) ++ (if ss.any (fun s => s.vlan != some 0x1000) then [18] else [])
    heads.flatMap (fun h => (span 5 16).map (fun ihl => h + 4 * ihl + 8))

/-- The blocks an instruction is charged with (R63): those its source can lie in, over every payload base and cursor; after a CUR no
further than the last byte declared for its record, at the largest base. -/
def blocksOf (lastRead bases : List Nat) (y : PInstr × List PAbs) : List Nat :=
  let i := y.1
  let last (a : PAbs) : Nat := bases.foldl max 0 + lastRead.getD (min a.recs 7) 0
  (bases.flatMap (fun b => y.2.flatMap (fun a =>
    let lo := b + i.off + (if i.rel then a.lo else 0)
    let top := b + i.off + (if i.rel then a.hi else 0) + i.n - 1
    span (lo / 32) ((if i.rel && a.wide then max lo (min top (last a)) else top) / 32 + 1)))).eraseDups

/-- 0x0403 (R63). -/
def chkBlocks (x : AdmCtx) : Option Where :=
  failItem x.im.programs (fun q =>
    let ss := x.im.steers.filter (fun s => s.source == q.port && s.program == q.number)
    let lasts := ss.map (fun s => boundsOf x.im s)
    let lastRead := (List.range 8).map (fun i => (lasts.map (fun l => l.getD i 0)).foldl max 0)
    let ch := ((progScan q).filter (fun y => y.1.reads)).map (blocksOf lastRead (x.bases q))
    ch.flatten.eraseDups.any (fun c => decide (16 < (ch.filter (fun l => l.contains c)).length)))

/-- 0x0404 (R72). -/
def chkReflex (x : AdmCtx) : Option Where :=
  let n := x.im.reflex.length
  ((indexed x.im.reflex).find? (fun y =>
    let r := y.2
    !([1, 2, 4, 8].contains r.width) || decide (64 < r.sel + r.width) || decide (7 < r.op) || decide (2 < r.action)
      || (r.chain && y.1 + 1 == n)
      || (r.action == 1 && (decide (15 < r.pin) || r.pulse == 0 || decide (255 < r.pulse)))
      || (r.action == 2 && (decide (4 < r.patches.length)
        || r.patches.any (fun q => q.len == 0 || decide (16 < q.len) || decide (64 < q.off + q.len)))))).map (fun y => itemAt y.1)

end Sys2Proof.Machine
end

