-- ==== Sys2Proof/Machine/Contract.lean ====
section
/-! DEFINITION. The admission checks of the classes 05 to 08 (R45, R47, R119 to R121, R141, R170, R177, R207, R217, R242 to R262, R284,
R290 to R292, R303 to R305, R308, R313, R322, R343, R448): the operation words, the scale level, the queue graph, the tile store and
the certificate. -/

namespace Sys2Proof.Machine

/-- Every operation of an image with its engine's part. -/
def allOps (im : Image) : List (EngineImg × OpAt) := im.engines.flatMap (fun ei => (opsOf ei.engine ei).map (fun o => (ei, o)))

/-- A failing operation (R306). -/
def opWhere (x : OpAt) : Where := { tile := x.tile, op := x.op, ctx := x.ctx }

/-- A failing node. -/
def nodeWhere (n : Nat) : Where := { tile := n / 512, op := n % 32, ctx := n / 64 % 8 }

/-- Fails at the first operation that is bad. -/
def failOp (im : Image) (bad : EngineImg → OpAt → Bool) : Option Where :=
  ((allOps im).find? (fun y => bad y.1 y.2)).map (fun y => opWhere y.2)

/-- A word whose own code is k (R303). -/
def wordIs (k : Nat) (ei : EngineImg) (o : OpAt) : Bool := wordCode (2 ^ ei.fold) o.w == k

/-- Byte i of a tile image's store. -/
def tiByte (t : TileImg) (i : Nat) : Nat := bits (tiBeat t (i / 32)) (8 * (i % 32)) 8

/-- The u16 at byte i. -/
def tiU16 (t : TileImg) (i : Nat) : Nat := tiByte t i + 256 * tiByte t (i + 1)

/-- 0x0501 (R203). -/
def chk0501 (x : AdmCtx) : Option Where := failOp x.im (wordIs 0x0501)

/-- Fields of an update operation that hold 0 (R327, R328). -/
def updZero (w : Nat) : Bool :=
  let z (l : List (Nat × Nat)) : Bool := l.all (fun f => fld w f.1 f.2 == 0)
  let base := bits w 42 16 == 0 && fld w 6 0 == 0 && (fld w 7 7 == 0 || (opc w == 36 && fld w 41 40 == 1))
  base && match opc w, fld w 41 40 with
    | 36, 0 => z [(20, 11)]
    | 36, _ => true
    | 40, 0 => z [(35, 34)]
    | 40, _ => z [(39, 38), (37, 36), (35, 34)]
    | 37, _ => z [(37, 36), (20, 11)]
    | 38, _ => z [(37, 36)]
    | _, _ => z [(37, 36), (35, 34)]

/-- Field values that an update operation refuses (R327, R328). -/
def updRefused (w : Nat) : Bool :=
  let sub := fld w 41 40
  match opc w with
  | 36 => decide (1 < sub) || (sub == 0 && (decide (3 < fld w 33 29) || fld w 28 21 != 0))
  | 40 => decide (1 < sub)
  | 39 => sub != 0 || fld w 33 29 != 0 || decide (7 < fld w 28 21)
  | _ => sub != 0

/-- The update operations of an image: tile, index, word. -/
def updOps (im : Image) : List (Nat × Nat × Nat) :=
  im.engines.flatMap (fun ei => ei.tiles.flatMap (fun t =>
    (indexed (t.cfg.pairList ++ t.cfg.flushList ++ t.cfg.optList)).map (fun o => (ei.engine * 512 + t.addr % 512, o.1, o.2.toNat))))

/-- Fails at the first update operation that is bad. -/
def failUpd (im : Image) (bad : Nat → Bool) : Option Where :=
  ((updOps im).find? (fun y => bad y.2.2)).map (fun y => { tile := y.1, op := y.2.1 })

/-- 0x0502 (R106, R177, R327). -/
def chk0502 (x : AdmCtx) : Option Where :=
  firstFail [failOp x.im (fun ei o => wordIs 0x0502 ei o || opCtx o.w != o.ctx),
    failUpd x.im (fun w => decide (opc w < 36) || decide (40 < opc w) || !(updZero w))]

/-- The SHIFTW of a window in a context (R215). -/
def windowOps (cc : CtxCfg) (win : Nat) : List Nat :=
  (cc.ops.map (fun w => w.toNat)).filter (fun w => opc w == 25 && fld w 41 39 == win)

/-- LEN of a window; 0 without a SHIFTW. -/
def windowLen (cc : CtxCfg) (win : Nat) : Nat := match windowOps cc win with | w :: _ => fld w 28 23 + 1 | [] => 0

/-- The largest tap a DOTA or DWC uses (R188, R189). -/
def lastTap (w : Nat) : Nat :=
  if opc w = 2 then
    let K := (fld w 33 30 + 1) * classN (pairWidth (fld w 41 38) (fld w 37 34))
    fld w 9 5 + cdiv K (epb (fld w 37 34)) - 1
  else fld w 33 29

/-- Window of a DOTA or DWC. -/
def tapWin (w : Nat) : Nat := if opc w = 2 then fld w 29 27 else fld w 28 26

/-- Row beats of a Larder table (R219, R222). -/
def rowBeats (t : TableImg) : Nat := cdiv (8 * t.rowUnits) 32

/-- The contents that an operation refuses (R188, R194, R199, R210, R211, R215, R219, R222). -/
def contentRefused (im : Image) (o : OpAt) : Bool :=
  let w := o.w
  let t := o.ti
  match opc w with
  | 2 => decide (windowLen o.cc (tapWin w) ≤ lastTap w)
  | 8 =>
    let first := o.cc.trSrc.getD (fld w 33 33) 0
    fmtWidth (fld w 37 34) < 8 && (List.range 256).any (fun i => decide (2 ^ fmtWidth (fld w 37 34) ≤ tiByte t (32 * first + i)))
  | 19 =>
    let D := fld w 34 32
    (List.range (fld w 38 35 + 1)).any (fun k => (List.range (2 ^ (D + 1) - 1)).any (fun n =>
      let at_ := 32 * fld w 31 22 + 4 * (k * 2 ^ (D + 1) + n)
      decide (32 * (fld w 41 39 + 1) ≤ tiByte t at_) || tiU16 t (at_ + 2) != 0))
  | 23 =>
    let total := (fld w 38 36 + 1 + fld w 35 32) * 256 / ewOf w
    (List.range ((fld w 31 29 + 1) * 256 / ewOf w)).any (fun i =>
      let m := tiU16 t (32 * fld w 28 19 + 2 * i)
      bits m 12 3 != 0 || (!(bit m 15) && decide (total ≤ bits m 0 12)))
  | 24 =>
    let ms := (List.range ((fld w 38 36 + 1) * 256 / ewOf w)).map (fun i => tiU16 t (32 * fld w 20 11 + 2 * i))
    let live := (ms.filter (fun m => !(bit m 15))).map (fun m => bits m 0 13)
    ms.any (fun m => bits m 13 2 != 0) || live.any (fun m => decide ((fld w 35 31 + 1) * 256 / ewOf w ≤ m)) || !(distinct live)
  | 25 => (windowOps o.cc (fld w 41 39)).any (fun v => fld v 38 23 != fld w 38 23)
  | 28 =>
    (match tableRec im (fld w 41 39) with
      | none => true
      | some r => r.writeback || decide (rowBeats r < fld w 31 27 + (fld w 34 32 + 1)))
      || !((if im.shape = 1 then enginesOf im else [tileEng o.tile]).all (fun e => im.ringPos.any (fun r => r.1 == e)))
  | 29 => (match tableRec im (fld w 41 39) with | some r => fld w 38 36 + 1 != rowBeats r | none => false)
  | _ => false

/-- A DOT that would read a buffer written in a format other than its FA (R185). -/
def pairFormats (cc : CtxCfg) : Option Nat :=
  ((expandPairs cc).find? (fun p => fld (opAt cc p.1) 41 38 != fld (opAt cc p.2) 37 34)).map (fun p => p.2)

/-- Beats one firing of an operation writes, into queues and into the tile store (R181, R204, R312). -/
def writtenBy (w : Nat) : Nat :=
  ((shapeOf w).outs.map (fun z => z.2.2)).sum
    + (match opc w with | 21 => if fld w 38 37 = 1 then fld w 41 39 + 1 else 0 | 24 => fld w 35 31 + 1 | 25 => 1 | _ => 0)

/-- Capture points that load refuses (R313). -/
def chkPoints (im : Image) : Option Where :=
  match im.upd with
  | none => none
  | some u =>
    let ops := (allOps im).filter (fun y => y.1.engine == u.engine)
    let hit (y : Nat × Nat × Nat × Nat) : Option OpAt :=
      (ops.find? (fun o => o.2.tile % 512 == y.1 % 512 && o.2.ctx == y.2.1 && o.2.op == y.2.2.1)).map (fun o => o.2)
    failItem u.points (fun y => match hit y with
      | none => true
      | some o =>
        let sh (b l : Nat) : Nat := bits (tiBeat o.ti (fld o.w 29 20 + b)) (32 * l) 16
        decide (16 < (u.points.map (fun z => z.2.2.2)).sum) || decide (y.2.2.2 < writtenBy o.w)
          || (opc o.w == 7 && [0, 1].any (fun b => (List.range 8).any (fun l => sh b l != sh 0 0))))

/-- 0x0503. -/
def chk0503 (x : AdmCtx) : Option Where :=
  let im := x.im
  firstFail [
    failOp im (fun ei o => wordIs 0x0503 ei o || contentRefused im o),
    im.engines.findSome? (fun ei => ei.tiles.findSome? (fun t => (indexed t.cfg.ctxs).findSome? (fun c =>
      (pairFormats c.2).map (fun i => { tile := ei.engine * 512 + t.addr % 512, op := i, ctx := c.1 })))),
    chkPoints im,
    failUpd im updRefused]

/-- 0x0504 (R125, R178, R229, R308). DESIGN CHOICE (log 137): what R125 calls an ancestor. A NOP, which no queue joins to anything, is exempt,
and a MOVQ or SCATTER that writes scratch is upstream of the MOVQ that reads it. -/
def chk0504 (x : AdmCtx) : Option Where :=
  x.im.engines.findSome? (fun ei =>
    let ops := opsOf ei.engine ei
    match ops.filter (fun o => opRet o.w) with
    | [r] =>
      if decide (1 < (ops.filter (fun o => opc o.w == 34)).length) then some { tile := 0xFFFF }
      else if (stepN ei).isNone && (match x.im.upd with | some u => u.engine == ei.engine | none => false) then some { tile := 0xFFFF }
      else
        let up := r.node :: after (flip (graphOf ei)) r.node
        (ops.find? (fun o => opc o.w != 0 && !(up.contains o.node))).map opWhere
    | _ => some { tile := 0xFFFF })

/-- The ACCFs that take what a DOT of an updatable layer computes have a banked bias (R308). -/
def layerBanked (im : Image) (r : UpdRec) : Bool :=
  let ops := imageOps im
  let dots := ops.filter (fun o => o.op == r.dotIdx && r.tiles.any (fun t => t.1 == o.tile && t.2.1 == o.ctx))
  (readers ops (imageGraph im) (fun w => opc w != 6) (dots.map OpAt.node)).any (fun n =>
    match ops.find? (fun o => o.node == n) with
    | some o => im.banked.any (fun b => b.1 == tileEng o.tile && b.2.1 % 512 == o.tile % 512 && b.2.2 == o.ctx * 32 + o.op)
    | none => false)

/-- Formats of captured inputs, which the update lane pairs with E5M2 (R161): an RQ's but BIN, or BF16. -/
def capturable (f : Nat) : Bool := (rqFmt f && f != 0) || f == 10

/-- 0x0505 (R154, R155, R161, R308). -/
def chk0505 (x : AdmCtx) : Option Where :=
  firstFail [
    failOp x.im (wordIs 0x0505),
    failItem x.im.tensors (fun t => !(rqFmt t.format)),
    failItem x.im.updRecs (fun r => [0, 3, 6].contains r.wfmt || decide (9 < r.wfmt) || !(capturable r.afmt) || layerBanked x.im r)]

/-- Codebook of an operation's weights: format and beat (R160). -/
def bookOf (o : OpAt) : Option (Nat × Nat) :=
  let f := fld o.w 41 38
  if [1, 2, 3].contains (opc o.w) && (f == 3 || f == 6) then
    some (f, tiBeat o.ti ((if opc o.w = 3 then fld o.w 25 16 else fld o.w 24 15) - 1))
  else none

/-- 0x0506 (R160, R165). -/
def chk0506 (x : AdmCtx) : Option Where :=
  failOp x.im (fun ei o => wordIs 0x0506 ei o || match bookOf o with
    | none => false
    | some (f, v) =>
      let flat := (bookEntries f v).all (fun e => bits e 8 6 == 0)
      let fa := fld o.w 37 34
      (bookEntries f v).any (fun e => bit e 14) || (f == 3 && bits v 64 192 != 0)
        || ((opc o.w == 1 || opc o.w == 2) && !(flat && fmtInt fa) && decide (classN (pairWidth f fa) < gOf o.w)))

/-- The group values of a SCALEG in order: output and group (R190). -/
def groupValues (w : Nat) : List (Nat × Nat) :=
  let n := fld w 36 32 + 1
  (List.range (fld w 41 37 + 1)).map (fun r => ((fld w 23 16 + r % n) % 256, fld w 31 24 + r / n))

/-- The SCALEGs whose group values come into a queue, past movement. -/
def scalegsInto (ops : List OpAt) (g : List (Nat × Nat)) (q : Nat) : List OpAt :=
  let found := spread (flip g) (fun n => isQueue n || moves (wordAt ops n)) (g.length + 1) [q] []
  ops.filter (fun o => opc o.w == 5 && found.contains o.node)

/-- The group values that an ACCF takes, in order (R191): from QA, then from QB. Those of one context's SCALEGs come in the order of its list;
none where the graph leaves the order open. -/
def takenOrder (ops : List OpAt) (g : List (Nat × Nat)) (o : OpAt) : Option (List (Nat × Nat)) :=
  let of_ (q n : Nat) : Option (List (Nat × Nat)) :=
    if n = 0 then some []
    else match scalegsInto ops g (qNode o.tile o.ctx q) with
      | [] => none
      | a :: l => if l.all (fun b => b.tile == a.tile && b.ctx == a.ctx) then some ((a :: l).flatMap (fun b => groupValues b.w)) else none
  match of_ (opQa o.w) (fld o.w 24 21), of_ (opQb o.w) (fld o.w 20 17) with
  | some a, some b => some (a ++ b)
  | _, _ => none

/-- An output's group follows a later one of the same output. -/
def groupsFall : List (Nat × Nat) → Bool
  | [] => false
  | x :: l => l.any (fun y => y.1 == x.1 && decide (y.2 < x.2)) || groupsFall l

/-- Two ACCFs add the group values of one SCALEG into the same output. -/
def shareOutput (ops : List OpAt) (g : List (Nat × Nat)) (a b : OpAt) : Bool :=
  let ins (o : OpAt) : List OpAt := (if fld o.w 24 21 = 0 then [] else scalegsInto ops g (qNode o.tile o.ctx (opQa o.w)))
    ++ (if fld o.w 20 17 = 0 then [] else scalegsInto ops g (qNode o.tile o.ctx (opQb o.w)))
  let takes (o : OpAt) (j : Nat) : Bool := decide (fld o.w 32 25 ≤ j) && decide (j ≤ fld o.w 32 25 + fld o.w 35 33)
  (ins a).any (fun s => (ins b).any (fun t => t.node == s.node) && (groupValues s.w).any (fun v => takes a v.1 && takes b v.1))

/-- 0x0507 (R170). DEDUCED (log 138): two ACCFs add into one output where one SCALEG's group value of it comes to both; an ACCF takes groups out
of ascending order where the graph fixes the order it takes them in and that order falls for some output. -/
def chk0507 (x : AdmCtx) : Option Where :=
  let ops := imageOps x.im
  let g := imageGraph x.im
  let accs := ops.filter (fun o => opc o.w == 6)
  (accs.find? (fun o => (match takenOrder ops g o with | some l => groupsFall l | none => false)
    || accs.any (fun a => a.node != o.node && shareOutput ops g a o))).map opWhere

/-- 0x0508 (R78, R223). -/
def chk0508 (x : AdmCtx) : Option Where :=
  failOp x.im (fun _ o => opc o.w == 29 && ((match tableRec x.im (fld o.w 41 39) with | some r => !r.state | none => true)
    || decide (1 < ((allOps x.im).filter (fun y => opc y.2.w == 29 && fld y.2.w 41 39 == fld o.w 41 39)).length)))

/-- 0x0509 (R232, R291). -/
def chk0509 (x : AdmCtx) : Option Where :=
  firstFail [
    failOp x.im (fun _ o => opc o.w == 32
      && (tileCol o.tile != 23 || decide (opQd o.w < 8) || !((o.cc.outBind.getD (opQd o.w - 8) []).contains .exit))),
    failIf (x.im.shape == 2 && x.im.engines.all hasEmit)]

/-- A scale block that load refuses (R242). -/
def blockBad (t : TileImg) (sa : Nat) : Bool :=
  let h := tiBeat t sa
  let kt := bits h 16 8
  let jt := bits h 32 8
  let la := cdiv (kt + 8) 64
  let range (v : Int) : Bool := decide (-160 ≤ v) && decide (v ≤ 160)
  let bank (p : Nat) : Bool :=
    let b := tiBeat t (sa + 1 + p * la)
    !(range (sext (bits b 0 16) 16)) || bits b 16 16 != 0
  bits h 40 216 != 0 || kt == 0 || decide (248 < kt) || jt == 0 || decide (32 < jt) || !(range (sext (bits h 0 16) 16)) || bank 0 || bank 1
    || (List.range (kt * jt)).any (fun i => bits (tiU16 t (32 * (sa + 1 + 2 * la) + 2 * i)) 12 4 != 0)

/-- A SCALEG that load refuses (R242). -/
def scalegBad (o : OpAt) : Bool :=
  let w := o.w
  let sa := fld w 15 6
  let h := tiBeat o.ti sa
  let k := fld w 31 24 + fld w 41 37 / (fld w 36 32 + 1)
  let j := fld w 23 16
  blockBad o.ti sa || decide (bits h 16 8 ≤ k) || decide (j < bits h 24 8) || decide (bits h 24 8 + bits h 32 8 < j + fld w 36 32 + 1)

/-- Lane l of bank b of an RQ's parameters. -/
def rqLane (o : OpAt) (b l : Nat) : Nat := bits (tiBeat o.ti (fld o.w 29 20 + b)) (32 * l) 32

/-- An RQ that load refuses (R251, R254). -/
def rqBad (o : OpAt) : Bool :=
  let f := fld o.w 41 38
  [0, 1].any (fun b => (List.range 8).any (fun l =>
    let v := rqLane o b l
    let z := sext (bits v 16 8) 8
    bits v 25 7 != 0 || (([0, 2, 5, 8, 9].contains f) && decide (z ≠ 0))
      || (match intLimits f with | some (lo, hi) => decide (z < lo) || decide (hi < z) | none => false)))

/-- 0x0601. -/
def chk0601 (x : AdmCtx) : Option Where :=
  firstFail [
    failOp x.im (fun _ o => (opc o.w == 5 && scalegBad o) || (opc o.w == 7 && rqBad o)),
    failItem x.im.tensors (fun t => t.blocks.any (fun b =>
      match (engOf x.im (if x.im.shape = 2 then tileEng b.1 else t.engine)).bind (fun ei => tileImg ei b.1) with
      | some ti => blockBad ti b.2
      | none => true))]

/-- An RQ writes a zero point other than 0. -/
def rqZp (o : OpAt) : Bool := opc o.w == 7 && [0, 1].any (fun b => (List.range 8).any (fun l => bits (rqLane o b l) 16 8 != 0))

/-- 0x0602 (R256). -/
def chk0602 (x : AdmCtx) : Option Where :=
  let im := x.im
  let writes (t : Tensor) (o : OpAt) : Bool := t.lanes.any (fun l => laneOn im t o.tile l && l.2.1 == fld o.w 29 20)
  firstFail [
    failItem im.tensors (fun t => (decide (t.zp ≠ 0) || (allOps im).any (fun y => rqZp y.2 && writes t y.2)) && !(zpAllowed im t)),
    failOp im (fun _ o => rqZp o && !(im.tensors.any (fun t => writes t o)))]

/-- The value of a code as sign, odd significand and exponent; none for zero. -/
def codeValue (f c : Nat) : Option (Bool × Nat × Int) :=
  let v := (expand f c 0 {}).1
  if v.m = 0 then none
  else
    let k := ((List.range 9).filter (fun i => v.m % 2 ^ i == 0)).length - 1
    some (v.s, v.m / 2 ^ k, v.x + k)

/-- A table maps codes as a function f with f(2x) = 2^deg f(x) does, zero to zero. -/
def homogeneous (deg : Int) (fi fo : Nat) (tab : Nat → Nat) : Bool :=
  let cs := List.range (2 ^ fmtWidth fi)
  let out (c : Nat) : Option (Bool × Nat × Int) := codeValue fo (tab c % 2 ^ fmtWidth fo)
  cs.all (fun c => match codeValue fi c with
    | none => (out c).isNone
    | some (s, m, e) =>
      match cs.find? (fun d => match codeValue fi d with | some y => y.1 == s && y.2.1 == m | none => false) with
      | none => true
      | some d =>
        let e0 := match codeValue fi d with | some y => y.2.2 | none => e
        match out c, out d with
        | none, none => true
        | some a, some b => a.1 == b.1 && a.2.1 == b.2.1 && a.2.2 - b.2.2 == deg * (e - e0)
        | _, _ => false)

/-- A table that the manifest marks scale-free and that is so (R262): f(2x) = 2 f(x), as for a rectifier and the identity, or f(2x) = f(x), as for
the sign, which R262 also calls scale-free (log 140). -/
def scaleFree (im : Image) (o : OpAt) : Bool :=
  let first := o.cc.trSrc.getD (fld o.w 33 33) 0
  let tab (c : Nat) : Nat := tiByte o.ti (32 * first + c)
  im.scaleFree.contains (o.tile, first) && (homogeneous 1 (fld o.w 41 38) (fld o.w 37 34) tab || homogeneous 0 (fld o.w 41 38) (fld o.w 37 34) tab)

/-- 0x0603 (R261, R262). -/
def chk0603 (x : AdmCtx) : Option Where :=
  let im := x.im
  firstFail [
    failItem im.tensors (fun t => t.running && (t.format == 0 || im.shape == 1
      || (match engOf im t.engine with | some ei => (stepN ei).isNone | none => true))),
    failIf (im.engines.any (fun ei =>
      let ts := (tensorsOn im ei.engine).filter (fun t => t.groups != 0)
      decide (32 < ts.length) || decide (2048 < (ts.map (fun t => t.groups)).sum))),
    (im.tensors.filter (fun t => t.running || t.calib)).findSome? (fun t =>
      ((tensorReaders im t false).filterMap (fun n => (imageOps im).find? (fun o => o.node == n))).findSome? (fun o =>
        if opc o.w == 8 && !(scaleFree im o) then some (opWhere o) else none))]

/-- The bindings of an engine's part, without what passes through scratch (R108, R109, R121). -/
def bindings (ei : EngineImg) : List (Nat × Nat) :=
  let ops := opsOf ei.engine ei
  (graphOf ei).filter (fun e => isQueue e.1 || isQueue e.2 || opc (wordAt ops e.1) == 4)

/-- Most beats that one firing of the operations `ns` writes into one of the queues `qs`. -/
def widest (ops : List OpAt) (ns qs : List Nat) : Nat :=
  ((ops.filter (fun o => ns.contains o.node)).flatMap (fun o =>
    ((shapeOf o.w).outs.filter (fun q => qs.contains (qNode o.tile q.1 q.2.1))).map (fun q => q.2.2))).foldl max 0

/-- Node of an operation that a list record names by tile and ctx × 32 + index. -/
def recNode (e t op : Nat) : Nat := opNode (e * 512 + t % 512) (op / 32) (op % 32)

/-- The directed loops of an engine's bindings through a node (R118): each from the node back to it. -/
def loopsAt (ei : EngineImg) (n : Nat) : List (List Nat) := pathsTo (bindings ei) n n

/-- 0x0701 (R119, R121). Each directed loop λ that passes a record's gate and its exit meets the record's bound, with C and P of λ alone. -/
def chk0701 (x : AdmCtx) : Option Where :=
  failItem x.im.loops (fun l => match engOf x.im l.engine with
    | none => true
    | some ei =>
      let loops := (loopsAt ei (recNode ei.engine l.gateTile l.gateOp)).filter (fun r => r.contains (recNode ei.engine l.exitTile l.exitOp))
      loops.isEmpty || l.k == 0 || loops.any (fun r =>
        let qs := (r.drop 1).filter isQueue
        decide (qs.length * (8 / 2 ^ ei.fold) < l.k * l.b + widest (opsOf ei.engine ei) r qs)))

/-- RT (R220) with g = 1 where the image asks for no position of the engine. -/
def ringTurn (im : Image) (e : Nat) : Nat :=
  let g := match im.ringPos.find? (fun r => r.1 == e) with | some r => r.2 | none => 1
  cdiv ((18 + g) * im.fMHz) 2000 + 3

/-- Issue length n and tail t of an operation (R181, R204). -/
def opTiming (rt w : Nat) : Nat × Nat :=
  let nb := fld w 41 39 + 1
  match opc w with
  | 0 => (fld w 41 34 + 1, 0)
  | 1 => (fld w 33 30 + 1, 2)
  | 2 => (fld w 33 30 + 1, 3)
  | 3 => (cdiv (fld w 15 11 + 1) (max 1 (classM (pairWidth (fld w 41 38) (fld w 37 34)) / (fld w 33 29 + 1))), 3)
  | 4 => (cdiv (fld w 37 36 + 1) 2, 2)
  | 5 => (cdiv (fld w 41 37 + 1) 8, 2)
  | 6 => (1, (fld w 41 36 + 1) / (fld w 35 33 + 1) + 1)
  | 7 => (1, 4)
  | 8 => (1, 3)
  | 12 | 18 => (cdiv nb 4, 3)
  | 17 => if fld w 36 34 = 0 then (cdiv nb 4, 3) else (nb, 8)
  | 19 => (cdiv ((fld w 38 35 + 1) * (fld w 34 32 + 1)) 4, 3)
  | 20 => (1, fld w 41 38 + 2)
  | 21 | 22 | 26 => (nb, 1)
  | 23 => (max (fld w 38 36 + 1 + fld w 35 32) (fld w 31 29 + 1), 2)
  | 24 => (max (fld w 38 36 + 1) (fld w 35 31 + 1), 2)
  | 27 => (cdiv (fld w 34 29 + 1) 32, 2)
  | 28 => (1, rt)
  | 29 | 30 | 31 => (fld w 38 36 + 1, 1)
  | 32 => (1, 2)
  | 33 => (fld w 39 37 + 1, 1)
  | 9 | 10 | 11 | 13 | 14 | 15 | 16 => (cdiv nb 4, 2)
  | _ => (1, 1)

/-- ec along one edge of the queue graph (R110, R180): the latency of the operation that writes, or of the link that carries. -/
def edgeEc (im : Image) (ei : EngineImg) (ops : List OpAt) (a b : Nat) : Nat :=
  if isQueue a then
    if isQueue b then (match bindingOf ei (b / 512) (b / 64 % 8) (b % 32) with | .rowBus _ | .colBus _ => 2 | _ => 1) else 0
  else
    let y := opTiming (ringTurn im ei.engine) (wordAt ops a)
    2 ^ ei.fold * (y.1 - 1) + y.2

/-- ec along a path (R120). -/
def pathEc (im : Image) (ei : EngineImg) (ops : List OpAt) (path : List Nat) : Nat :=
  ((path.zip (path.drop 1)).map (fun e => edgeEc im ei ops e.1 e.2)).sum

/-- The input queues of an operation. -/
def inputsOf (g : List (Nat × Nat)) (n : Nat) : List Nat := ((g.filter (fun e => e.2 == n && isQueue e.1)).map (fun e => e.1)).eraseDups

/-- A fork reaches two input queues a and b of a join along two branches that share no operation between (R120): no one operation, nor either
queue alone, stands on every way from the fork to the two. -/
def branchPair (g : List (Nat × Nat)) (ops : List OpAt) (fork join a b : Nat) : Bool :=
  let reach (c : Nat) : Bool := (after (without g [join, c]) fork).any (fun n => n == a || n == b)
  fork != join && ([a, b] ++ (ops.map OpAt.node).filter (fun c => c != fork && c != join)).all reach

/-- Two different elements of a list, each pair once. -/
def twoOf : List Nat → List (Nat × Nat)
  | [] => []
  | a :: l => l.map (fun b => (a, b)) ++ twoOf l

/-- A branch of a reconvergent pair (R120): the capacity of its queues, and its unloaded latency, the longest way along it. -/
def branchOf (im : Image) (ei : EngineImg) (g : List (Nat × Nat)) (ops : List OpAt) (fork join q : Nat) : Nat × Nat :=
  let ways := pathsTo (without g [join]) fork q
  (((ways.flatten.filter isQueue).eraseDups.length) * (8 / 2 ^ ei.fold), (ways.map (pathEc im ei ops)).foldl max 0)

/-- The pairs of branches from a fork to a join, the one of smaller unloaded latency first (R120); of two as long, the one that holds less. -/
def branches (im : Image) (ei : EngineImg) (fork join : Nat) : List ((Nat × Nat) × (Nat × Nat)) :=
  let g := bindings ei
  let ops := opsOf ei.engine ei
  ((twoOf (inputsOf g join)).filter (fun y => branchPair g ops fork join y.1 y.2)).map (fun y =>
    let a := branchOf im ei g ops fork join y.1
    let b := branchOf im ei g ops fork join y.2
    if a.2 < b.2 ∨ (a.2 = b.2 ∧ a.1 ≤ b.1) then (a, b) else (b, a))

/-- 0x0702 (R120, R121). -/
def chk0702 (x : AdmCtx) : Option Where :=
  failItem x.im.pairs (fun r => match engOf x.im r.engine with
    | none => true
    | some ei =>
      let bs := branches x.im ei (recNode ei.engine r.forkTile r.forkOp) (recNode ei.engine r.joinTile r.joinOp)
      bs.isEmpty || bs.any (fun y => decide (y.1.1 < (cdiv (r.lb - r.la) ei.ii + 1) * r.ba)))

/-- A directed loop that no LOOP record declares (R121): none has both its gate and its exit on it. -/
def bareLoop (im : Image) (ei : EngineImg) : Option OpAt :=
  let recs := (im.loops.filter (fun l => im.hits l.engine ei.engine)).map (fun l =>
    (recNode ei.engine l.gateTile l.gateOp, recNode ei.engine l.exitTile l.exitOp))
  (opsOf ei.engine ei).find? (fun o => (loopsAt ei o.node).any (fun r => !(recs.any (fun y => r.contains y.1 && r.contains y.2))))

/-- The join of a reconvergent pair that no PAIR record declares (R121). -/
def barePair (im : Image) (ei : EngineImg) : Option OpAt :=
  let g := bindings ei
  let ops := opsOf ei.engine ei
  let recs := (im.pairs.filter (fun r => im.hits r.engine ei.engine)).map (fun r =>
    (recNode ei.engine r.forkTile r.forkOp, recNode ei.engine r.joinTile r.joinOp))
  ops.find? (fun j => (twoOf (inputsOf g j.node)).any (fun y =>
    ops.any (fun f => !(recs.contains (f.node, j.node)) && branchPair g ops f.node j.node y.1 y.2)))

/-- 0x0703 (R121): a loop or a pair that the bindings form and the manifest does not declare. -/
def chk0703 (x : AdmCtx) : Option Where :=
  x.im.engines.findSome? (fun ei => match bareLoop x.im ei with
    | some o => some (opWhere o)
    | none => (barePair x.im ei).map opWhere)

/-- 0x0704 (R111). -/
def chk0704 (x : AdmCtx) : Option Where :=
  failIf (x.im.calendars.any (fun c => c.positions.isEmpty || decide (64 < c.positions.length)
    || (match engOf x.im c.engine with | some ei => ei.ii % c.positions.length != 0 | none => true)))

/-- 0x0705 (R141). -/
def chk0705 (x : AdmCtx) : Option Where :=
  x.im.engines.findSome? (fun ei => ei.tiles.findSome? (fun t => (indexed t.cfg.ctxs).findSome? (fun c =>
    let u := ei.engine * 512 + t.addr % 512
    let r := tileRow u
    let held (row : Nat) : Bool := (enginesOf x.im).all (fun e => e != ei.engine && x.im.shape != 1 || x.d.ownsQuarter x.p e (row / 4))
    let outside := !(held r)
    let outs := c.2.outBind.flatten
    let cross := outside
      || ((outs.contains .north || c.2.inBind.contains .north) && decide (0 < r) && !(held (r - 1)))
      || ((outs.contains .south || c.2.inBind.contains .south) && decide (r < 15) && !(held (r + 1)))
      || c.2.inBind.any (fun s => match s with
          | .colBus w => !(joinedBy (fun q => held (4 * q)) r w)
          | _ => false)
    if cross then some { tile := u, ctx := c.1 } else none)))

/-- Tile-store beats an operation reads: first and number (R186 to R200, R208 to R211, R242, R246). -/
def storeReads (o : OpAt) (banked : Bool) : List (Nat × Nat) :=
  let w := o.w
  let book (f a : Nat) : List (Nat × Nat) := if f = 3 ∨ f = 6 then [(a - 1, 1)] else []
  let nb := fld w 41 39 + 1
  match opc w with
  | 1 | 2 =>
    let fw := fld w 41 38
    (fld w 24 15, (fld w 33 30 + 1) * sliceBeats fw (fld w 37 34)) :: book fw (fld w 24 15)
  | 3 =>
    let fw := fld w 41 38
    (fld w 25 16, cdiv ((fld w 15 11 + 1) * (fld w 33 29 + 1) * fmtWidth fw) 256) :: book fw (fld w 25 16)
  | 5 =>
    let h := tiBeat o.ti (fld w 15 6)
    [(fld w 15 6, 1 + 2 * cdiv (bits h 16 8 + 8) 64 + cdiv (bits h 16 8 * bits h 32 8) 16)]
  | 6 => if bit w 6 then [] else [(fld w 16 7, if banked then 2 else 1)]
  | 7 => [(fld w 29 20, 2)]
  | 8 => [(o.cc.trSrc.getD (fld w 33 33) 0, 8)]
  | 10 => if fld w 38 37 = 1 then [(fld w 9 0, 2 * nb)] else []
  | 17 => if fld w 36 34 = 0 then [(fld w 9 0, 2 * nb)] else []
  | 11 | 12 | 13 | 14 | 15 | 16 => if fld w 38 37 = 1 then [(fld w 9 0, nb)] else []
  | 19 => [(fld w 31 22, cdiv ((fld w 38 35 + 1) * 2 ^ (fld w 34 32 + 1)) 8)]
  | 20 =>
    (fld w 25 16, cdiv ((fld w 41 38 + 1) * 2 ^ (fld w 37 35 + 1) * (fld w 34 32 + 1)) 8)
      :: (if bit w 26 || bit w 5 then [] else [(fld w 15 6, 1)])
  | 21 => if fld w 38 37 = 2 then [(fld w 36 27, nb)] else []
  | 23 => [(fld w 28 19, cdiv ((fld w 31 29 + 1) * 256 / ewOf w) 16)]
  | 24 => [(fld w 20 11, cdiv ((fld w 38 36 + 1) * 256 / ewOf w) 16)]
  | _ => []

/-- The regions of a tile. -/
def regionsOf (im : Image) (ei : EngineImg) (t : Nat) : List Region :=
  im.regions.filter (fun r => (r.engine == ei.engine || im.shape == 1) && (r.tile == 0xFFFF || r.tile % 512 == t % 512))

/-- Every beat of a stretch lies in a region of the context that `ok` accepts. -/
def covered (rs : List Region) (ctx : Nat) (ok : Region → Bool) (s : Nat × Nat) : Bool :=
  (span s.1 (s.1 + s.2)).all (fun b => rs.any (fun r => ok r && bit r.ctxMask ctx && decide (r.first ≤ b) && decide (b < r.first + r.beats)))

/-- A codebook stands in the beat before its slices, in the same WEIGHT region (R285). -/
def bookStands (rs : List Region) (o : OpAt) : Bool :=
  (bookOf o).isNone || (match storeReads o false with
    | s :: _ => rs.any (fun r => r.kind == 0 && decide (r.first + 1 ≤ s.1) && decide (s.1 + s.2 ≤ r.first + r.beats))
    | [] => true)

/-- 0x0706 (R131, R207, R284, R285, R309). -/
def chk0706 (x : AdmCtx) : Option Where :=
  let im := x.im
  firstFail [
    failItem im.regions (fun r => r.beats == 0 || decide (1016 < r.first + r.beats)
      || (decide (2 ≤ r.kind) && popcount r.ctxMask 8 != 1)),
    im.engines.findSome? (fun ei => ei.tiles.findSome? (fun t =>
      let rs := regionsOf im ei t.addr
      let u := ei.engine * 512 + t.addr % 512
      let overlap := (indexed rs).any (fun a => (rs.take a.1).any (fun b => meets (a.2.first, a.2.beats) (b.first, b.beats)))
      let twins := im.updRecs.all (fun r => (r.tiles.filter (fun y => y.1 == u)).all (fun y =>
        rs.any (fun a => a.kind == 0 && decide (a.first ≤ y.2.2.1) && decide (y.2.2.1 + y.2.2.2.1 ≤ a.first + a.beats)
          && rs.any (fun b => b.kind == 0 && b.first == a.first + r.boff && b.beats == a.beats && b.ctxMask == a.ctxMask))))
      if overlap || !twins || decide (1024 < t.store.length) then some { tile := u } else none)),
    failOp im (fun ei o =>
      let rs := regionsOf im ei o.tile
      let banked := im.banked.any (fun b => im.hits b.1 (tileEng o.tile) && b.2.1 % 512 == o.tile % 512 && b.2.2 == o.ctx * 32 + o.op)
      !((storeReads o banked).all (covered rs o.ctx (fun _ => true))) || !(bookStands rs o)
        || !(match storeWrites o.w with
          | some s => covered rs o.ctx (fun r => decide (2 ≤ r.kind)) s
          | none => true))]

/-- 0x0707 (R104, R113, R326). -/
def chk0707 (x : AdmCtx) : Option Where :=
  x.im.engines.findSome? (fun ei => ei.tiles.findSome? (fun t =>
    if t.cfg.ctxs.any (fun c => decide (32 < c.ops.length)) || decide (4096 < t.cfg.bytes)
        || decide (8 < (t.cfg.pairList ++ t.cfg.flushList ++ t.cfg.optList).length)
      then some { tile := ei.engine * 512 + t.addr % 512 } else none))

/-- 0x0708 (R217). -/
def chk0708 (x : AdmCtx) : Option Where :=
  failOp x.im (fun ei o => (opc o.w == 2 || opc o.w == 3)
    && decide (windowLen o.cc (tapWin o.w) < lastTap o.w + 1 + 8 / 2 ^ ei.fold))

/-- 0x0709 (R290). -/
def chk0709 (x : AdmCtx) : Option Where := failOp x.im (wordIs 0x0709)

/-- Beats of the packet that a span carries from A to B (R291). -/
def spanBeats (im : Image) : Nat := (im.packet.filter (fun b => tileEng b.tile != spanFirst im)).length

/-- 0x070A (R151, R291, R292, R308, R343). -/
def chk070A (x : AdmCtx) : Option Where :=
  let im := x.im
  let history := (allOps im).any (fun y => opc y.2.w == 25) || im.regions.any (fun r => r.kind == 2)
  let spanBad :=
    match engOf im (spanFirst im) with
    | none => true
    | some a =>
      let held := (x.d.quartersOf (spanFirst im) x.p).length
      (bitsOf im.engineMask 8).length != 2 || decide (8 < spanBeats im) || decide (a.ii < cdiv (spanBeats im) (max held 1))
  failIf ((im.shape == 1 && (history || im.upd.isSome || decide ((enginesOf im).length < 2))) || (im.shape == 2 && spanBad)
    || (match im.upd with
      | some u => im.updRecs.any (fun r => r.tiles.any (fun t => tileEng t.1 != u.engine)) || (engOf im u.engine).isNone
      | none => false))

/-- 0x070B (R322). -/
def chk070B (x : AdmCtx) : Option Where :=
  match x.im.upd with
  | none => none
  | some u =>
    match (engOf x.im u.engine).bind (fun ei => (stepN ei).map (fun n => (ei, n))) with
    | none => none
    | some (ei, n) => failIf (decide (n * ei.ii * (u.delay - u.lag - 1) < u.wu) || decide (n * ei.ii < ei.stages + u.ws))

/-- The period of an island's clock in 1/21 ps (R8, R412); none where the stage cannot be priced. -/
def periodUnits (mhz : Nat) (s : CertStage) : Option Nat :=
  match s.island with
  | 0 => if mhz = 0 then none else some (21000000 / mhz)
  | 1 => some 10500
  | 2 => some 16800
  | 3 => some 21000
  | 4 | 5 => match s.rate with
    | 1 => some 26250
    | 2 => some 33600
    | 3 => some 42000
    | 4 => some 52500
    | 5 => some 67200
    | 6 => some 84000
    | 16 => some 134400
    | 17 | 18 => some 53760
    | _ => none
  | _ => none

/-- Units of one stage (R45). -/
def stageUnits (locked : Bool) (mhz : Nat) (s : CertStage) : Option Nat :=
  if s.island = 6 then some (s.count * 21)
  else if 2 < s.kind then none
  else
    let n := if s.kind = 1 then (if locked then 2 else 3) else if s.kind = 2 then 1 else s.count
    (periodUnits mhz s).map (n * ·)

/-- path_units (R45). -/
def pathUnits (locked : Bool) (mhz : Nat) (p : CertPath) : Option Nat :=
  (p.stages.foldl (fun a s => match a, stageUnits locked mhz s with
    | some u, some v => some (u + v)
    | _, _ => none) (some 0)).map (fun u => if locked then u else cdiv (u * 1001) 1000)

/-- certified_ns (R45). -/
def certifiedNs (im : Image) (p : CertPath) : Option Nat := (pathUnits im.locked im.fMHz p).map (fun u => cdiv u 21000)

/-- The image's certified latency (R46). -/
def imageNs (im : Image) : Nat := (im.cert.map (fun p => (certifiedNs im p).getD 0)).foldl max 0

/-- 0x0801 (R47). -/
def chk0801 (x : AdmCtx) : Option Where :=
  let ec := if x.im.fMHz = 0 then 0 else 21000000 / x.im.fMHz
  failIf (decide (Config.maxLatency * 21000 < imageNs x.im * 21000 + x.im.entryWait * ec))

/-- A lane stage names a rate that R448 allows. -/
def rateOk (d : Die) (p : CertPath) (s : CertStage) : Bool :=
  let ok (kind n : Nat) : Bool :=
    if kind = 1 then s.rate == d.rateOf 1 n else decide (s.rate ≤ 6) && decide (d.rateOf 2 n ≤ s.rate)
  if s.island = 4 then (if p.source < 64 then ok 2 p.source else if p.source < 80 then ok 1 (p.source - 64) else false)
  else if s.island = 5 then (if p.egressKind = 1 then ok 1 p.egress else if p.egressKind = 2 then ok 2 p.egress else false)
  else s.rate == 0

/-- 0x0802 (R45, R46, R305, R448). -/
def chk0802 (x : AdmCtx) : Option Where :=
  firstFail [
    failItem x.im.cert (fun p => certifiedNs x.im p != some p.total || p.stages.any (fun s => s.zero != 0 || !(rateOk x.d p s))),
    failIf (imageNs x.im != x.im.certNs)]

/-- g of the quarters a pasture holds on an engine (R132). -/
def entryG (qs : List Nat) : Nat :=
  match qs.length with
  | 0 => 8
  | 1 => 4
  | 2 => if (qs.getD 1 0 - qs.getD 0 0) = 2 then 2 else 3
  | 3 => 2
  | _ => 1

/-- The cycles a path assigns to its wheel stages of a kind that `sel` accepts (R304, R305). -/
def wheelStage (p : CertPath) (kind : Nat) (sel : Nat → Bool) : Nat :=
  ((p.wheels.filter (fun w => w.1 == kind && sel w.2.1)).map (fun w => match p.stages[w.2.2]? with | some s => s.count | none => 0)).foldl max 0

/-- The stages of one engine entry that a path must have (R132, R291): the two of a span, one of the group's or the one engine's. -/
def entriesOf (im : Image) : List (List Nat) :=
  if im.shape = 2 then (enginesOf im).map (fun e => [e]) else if (enginesOf im).isEmpty then [] else [enginesOf im]

/-- 0x0803 (R82, R132, R305): a wheel stage of a path is at least g - 1 for the g that the positions now given have; an engine path
without the stage has 0 cycles there. -/
def chk0803 (x : AdmCtx) : Option Where :=
  let held := (x.d.wheelPlace x.p x.im).getD []
  failItem x.im.cert (fun p => p.stages.any (fun s => s.island == 0) && (
    (entriesOf x.im).any (fun es => es.any (fun e => decide (wheelStage p 1 es.contains < entryG (x.d.quartersOf e x.p) - 1)))
      || (indexed (wheelFeeds x.im)).any (fun f => f.2.program == p.program
          && x.im.steers.any (fun s => s.index == f.2.steer && s.source == p.source && s.program == p.program)
          && decide (wheelStage p 0 (fun _ => true) < wheelGap (held.getD f.1 []) - 1))))

/-- The pins and ports an image's EMITs and launch descriptors can drive (R305): egress kind and number. -/
def drivenPins (im : Image) : List (Nat × Nat) :=
  let emits := ((allOps im).filter (fun y => opc y.2.w == 32)).map (fun y => y.2.w)
  let launch (n : Nat) : List (Nat × Nat) := match im.templates.find? (fun t => t.number == n) with
    | some t => (t.kind, t.port) :: (if t.alt = 255 then [] else [(t.kind, t.alt)])
    | none => []
  (emits.flatMap (fun w => (if bit w 35 then [(0, fld w 34 31)] else []) ++ (if bit w 36 then launch (fld w 22 13) else []))).eraseDups

/-- 0x0804 (R305). -/
def chk0804 (x : AdmCtx) : Option Where :=
  let im := x.im
  let srcs := (im.steers.filter (fun s => s.source != 80)).map (fun s => (s.source, s.program))
  failIf (srcs.any (fun s => match programOf im s.1 s.2 with
    | none => false
    | some q => (span 1 (maxRecords q + 1)).any (fun k => (drivenPins im).any (fun e =>
        !(im.cert.any (fun c => c.source == s.1 && c.program == s.2 && c.record == k && c.egressKind == e.1 && c.egress == e.2))))))

/-- 0x0902 (R299). -/
def chk0902 (x : AdmCtx) : Option Where :=
  failIf ((x.d.image x.p).isSome && !(x.d.pasture x.p).replace)

/-- The checks in the order of the refusal code table (R297, R303). -/
def checks : List (Nat × Check) :=
  [(0x0101, chkMagic), (0x0102, chkLength), (0x0104, chkSign), (0x0105, chkSections), (0x0106, chkFields), (0x0201, chkGrade),
    (0x0202, chkClock), (0x0203, chkMode), (0x0204, chkPoint), (0x0205, chkFloor), (0x0206, chkAudited), (0x0301, chkQuarters),
    (0x0302, chkLarder), (0x0303, chkAttic), (0x0304, chkStores), (0x0305, chkSlots), (0x0306, chkWheel), (0x0307, chkUpdStore),
    (0x0308, chkSteer), (0x0309, chkSlotRes), (0x030A, chkAuditGrant), (0x0401, chkPrograms), (0x0402, chkSkips), (0x0403, chkBlocks),
    (0x0404, chkReflex), (0x0501, chk0501), (0x0502, chk0502), (0x0503, chk0503), (0x0504, chk0504), (0x0505, chk0505), (0x0506, chk0506), (0x0507, chk0507),
    (0x0508, chk0508), (0x0509, chk0509), (0x0601, chk0601), (0x0602, chk0602), (0x0603, chk0603), (0x0701, chk0701), (0x0702, chk0702),
    (0x0703, chk0703), (0x0704, chk0704), (0x0705, chk0705), (0x0706, chk0706), (0x0707, chk0707), (0x0708, chk0708), (0x0709, chk0709),
    (0x070A, chk070A), (0x070B, chk070B), (0x0801, chk0801), (0x0802, chk0802), (0x0803, chk0803), (0x0804, chk0804), (0x0902, chk0902)]

/-- The first check that fails, with its code (R297). -/
def AdmCtx.verdict (x : AdmCtx) : Option (Nat × Where) := checks.findSome? (fun c => (c.2 x).map (fun w => (c.1, w)))

end Sys2Proof.Machine
end

