-- ==== Sys2Proof/Machine/Crook.lean ====
section
/-! DEFINITION. The masters and the crook (R478, R479, R484 to R487, R602): elections, heartbeats, handovers, the PCIe link as far as
it makes M0 eligible, and what follows when a master loses its right to hold the crook. -/

namespace Sys2Proof.Machine

/-- Lock every expert area (R602). -/
def Die.relockAll (d : Die) : Die :=
  { d with regs := KMap.keep d.regs (fun k => !(k / 32 % 0x1000 == 0xF00 && k % 32 == 1)) }

/-- Cancel a pending handover. -/
def Die.cancelHandover (d : Die) : Die :=
  { (d.flag R.OWN_STATUS_PENDING 0 false).put R.OWN_STATUS_TARGET 0 0 with handover := 0 }

/-- Open an election (R484). `electionNs` is one more than the time at which the 100 ms began; 0 once they have passed. -/
def Die.openElection (d : Die) : Die :=
  { (d.flag R.OWN_STATUS_ELECTION 0 true).count T.OWN_ELECTIONS 0 with claims := [], electionNs := d.ns + 1 }

/-- The crook is lost and an election opens (R485, R487); the expert areas lock (R602). -/
def Die.releaseCrook (d : Die) : Die :=
  (((d.flag R.OWN_STATUS_HELD 0 false).put R.OWN_STATUS_HOLDER 0 0).cancelHandover.relockAll).openElection

/-- Master m takes the crook (R484 to R486). -/
def Die.giveCrook (m : Nat) (d : Die) : Die :=
  let d := ((d.flag R.OWN_STATUS_HELD 0 true).put R.OWN_STATUS_HOLDER 0 m).flag R.OWN_STATUS_ELECTION 0 false
  { d.cancelHandover.relockAll with claims := [], electionNs := 0, heartbeat := 0 }

/-- What follows from a loss of eligibility or of D3 (R487, R623): an ineligible holder loses the crook, an ineligible target its
handover, and stopped quarter clocks restart below D3. -/
def Die.recheck (d : Die) : Die :=
  let d := if d.debug = 3 then d else { d with stopped := [] }
  let d := if d.on R.OWN_STATUS_PENDING && !(d.eligible (d.get R.OWN_STATUS_TARGET)) then d.cancelHandover else d
  if d.on R.OWN_STATUS_HELD && !(d.eligible (d.get R.OWN_STATUS_HOLDER)) then d.releaseCrook else d

/-- The settings record in force (R587): its bytes, none where no record verifies. -/
def Otp.record (o : Otp) : Option (List Byte) := (o.slots[o.gen]?).map (fun s => s.bytes)

/-- The election order (R484, R587). -/
def Otp.order (o : Otp) : List Nat :=
  match o.record with
  | some r =>
    if bit (byteAt r 8).toNat 0 then (List.range 4).map (fun i => bits (byteAt r 7).toNat (2 * i) 2) else [0, 1, 2, 3]
  | none => [0, 1, 2, 3]

/-- A refused write of OWN_CLAIM (R479, R487). -/
def Die.deny (m : Nat) (d : Die) : Die := d.count (T.OWN_OWN_DENIED m) 0

/-- CLAIM by master m (R479, R484). -/
def Die.claim (m : Nat) (d : Die) : Die :=
  if d.holds m then d
  else if d.on R.OWN_STATUS_ELECTION && d.eligible m then
    if d.electionNs = 0 then d.giveCrook m
    else { d with claims := if d.claims.contains m then d.claims else d.claims ++ [m] }
  else d.deny m

/-- ACCEPT by master m (R486, R487). -/
def Die.accept (m : Nat) (d : Die) : Die :=
  if d.on R.OWN_STATUS_PENDING && d.get R.OWN_STATUS_TARGET == m then d.giveCrook m else d.deny m

/-- A write of OWN_CLAIM, which every master may make (R479, R506). -/
def ownClaimW (src : Source) (w : Nat) (d : Die) : Die :=
  if d.pathUp src && d.answers src .OWN then
    match src with
    | .vf p => d.count (T.OWN_VIOLATION p) 0
    | m => match lowestWo w [0, 1] with
      | some 0 => d.claim (srcNum m)
      | some _ => d.accept (srcNum m)
      | none => if d.holds (srcNum m) then d else d.deny (srcNum m)
  else d

/-- CLAIM. -/
def execClaim (src : Source) (w : Word) (s : State) : Host.Outcome State Fault Refusal :=
  .next (onDie (ownClaimW src w.toNat) s)

/-- HANDOVER_ACCEPT. -/
def execHandoverAccept (src : Source) (w : Word) (s : State) : Host.Outcome State Fault Refusal :=
  .next (onDie (ownClaimW src w.toNat) s)

/-- The 100 ms of an election end (R484): the first eligible claimant of the order takes the crook; with none the election stays open. -/
def Die.electionClose (d : Die) : Die :=
  if d.on R.OWN_STATUS_ELECTION && decide (d.electionNs ≠ 0) then
    match d.otp.order.find? (fun m => d.claims.contains m && d.eligible m) with
    | some m => d.giveCrook m
    | none => { d with claims := [], electionNs := 0 }
  else d

/-- ELECTION_CLOSE. -/
def execElectionClose (s : State) : Host.Outcome State Fault Refusal := .next (onDie Die.electionClose s)

/-- A write of OWN_HEARTBEAT (R485). -/
def ownHeartbeatW (_ : Nat) (d : Die) : Die := { d with heartbeat := 0 }

/-- OWN_HEARTBEAT. -/
def execOwnHeartbeat (src : Source) (w : Word) (s : State) : Host.Outcome State Fault Refusal :=
  dieCmd true (writeDie src (blockAddr .OWN 0 0x014) (ownHeartbeatW w.toNat)) s

/-- The heartbeat timer expires (R485). -/
def Die.heartbeatLoss (d : Die) : Die :=
  if d.on R.OWN_STATUS_HELD then (d.count T.OWN_HEARTBEAT_LOSS 0).releaseCrook else d

/-- HEARTBEAT_LOSS. -/
def execHeartbeatLoss (s : State) : Host.Outcome State Fault Refusal := .next (onDie Die.heartbeatLoss s)

/-- A write of OWN_HANDOVER (R486, R487): a request for the owner cancels, one for an ineligible master is ignored, a new one
replaces the pending one. -/
def ownHandoverW (w : Nat) (d : Die) : Die :=
  let d := d.setFields .OWN 0 0x018 w
  if bit w 4 then
    let t := d.get R.OWN_HANDOVER_TARGET
    if d.holds t then d.cancelHandover
    else if d.eligible t then { (d.flag R.OWN_STATUS_PENDING 0 true).put R.OWN_STATUS_TARGET 0 t with handover := 0 }
    else d
  else d

/-- HANDOVER_REQUEST. -/
def execHandoverRequest (src : Source) (w : Word) (s : State) : Host.Outcome State Fault Refusal :=
  dieCmd true (writeDie src (blockAddr .OWN 0 0x018) (ownHandoverW w.toNat)) s

/-- A request lapses (R486, R487). -/
def Die.handoverExpired (d : Die) : Die :=
  if d.on R.OWN_STATUS_PENDING then (d.cancelHandover).count T.OWN_HANDOVER_EXPIRED 0 else d

/-- HANDOVER_EXPIRED. -/
def execHandoverExpired (s : State) : Host.Outcome State Fault Refusal := .next (onDie Die.handoverExpired s)

/-- The PCIe link goes down (R487, R583). -/
def Die.pcieDown (d : Die) : Die :=
  if d.on R.PCI_STATUS_LINK_UP then
    ((((d.flag R.PCI_STATUS_LINK_UP 0 false).put R.PCI_STATUS_SPEED 0 0).put R.PCI_STATUS_WIDTH 0 0).count T.PCI_PCIE_DOWN 0).recheck
  else d

/-- PCIE_LINK_DOWN. -/
def execPcieLinkDown (s : State) : Host.Outcome State Fault Refusal := .next (onDie Die.pcieDown s)

/-- The link comes up with its generation, width and number of VFs enabled (R478, R607, R621). -/
def Die.pcieUp (speed width vfs : Nat) (d : Die) : Die :=
  (((d.flag R.PCI_STATUS_LINK_UP 0 true).put R.PCI_STATUS_SPEED 0 speed).put R.PCI_STATUS_WIDTH 0 width).put R.PCI_STATUS_NUMVFS 0 (min vfs 64)

/-- PCIE_LINK_UP. -/
def execPcieLinkUp (speed width numvfs : Nat) (s : State) : Host.Outcome State Fault Refusal :=
  .next (onDie (Die.pcieUp speed width numvfs) s)

end Sys2Proof.Machine
end

