-- ==== Sys2Proof/Machine/Lanes.lean ====
section
/-! DEFINITION. Ouvust lanes (R412 to R446, R449, R455): the reliable classes, frame checks, retraining, and the flock messages every lane
may carry. -/

namespace Sys2Proof.Machine

/-- An Ouvust lane. -/
def Die.lane (d : Die) (l : Nat) : Lane := KMap.get {} d.lanes l

/-- Change a lane. -/
def Die.onLane (l : Nat) (f : Lane → Lane) (d : Die) : Die := { d with lanes := KMap.upd {} d.lanes l f }

/-- State of a lane (R429, R449): 0 DISABLED, 1 DETECT, 2 TRAIN1, 3 TRAIN2, 4 ACTIVE, 5 LINK_ABSENT, 6 SEARCH, 7 LOCKED. -/
def Die.laneState (d : Die) (l : Nat) : Nat := d.get R.LNK_STATUS_STATE l

/-- A class of a lane: 2 is B, every other number R. -/
def Lane.rel (x : Lane) (cls : Nat) : Rel := if cls = 2 then x.b else x.r

/-- Change a class of a lane. -/
def Lane.onRel (cls : Nat) (f : Rel → Rel) (x : Lane) : Lane := if cls = 2 then { x with b := f x.b } else { x with r := f x.r }

/-- Frames a sender may have outstanding, and a receiver may hold (R435, R436). -/
def relLimit (cls : Nat) : Nat := if cls = 2 then 8 else 64

/-- TRAIN2 agreed a class: 0 S, 1 R, 2 B (R432). -/
def Die.agreed (d : Die) (l cls : Nat) : Bool := bit (d.get R.LNK_STATUS_CLASSES l) cls

/-- The frame of a class that is first to go: a resend before a new frame, which the limit of outstanding frames may hold (R435, R438); and the
class once it has gone. -/
def Rel.next? (cls : Nat) (r : Rel) : Option (List Sym × Rel) :=
  match r.resend, r.waits with
  | f :: rest, _ => some (relSyms cls f.1 f.2, { r with resend := rest })
  | [], m :: rest =>
    if r.out.length < relLimit cls then
      some (relSyms cls r.next m, { r with next := (r.next + 1) % 4096, out := r.out ++ [(r.next, m)], waits := rest })
    else none
  | [], [] => none

/-- The control frame of a class that is due at instant s (R436): a NAK, else one ACK for all that calls for one, at most one in 16 words of `wc`. -/
def Rel.control? (cls s wc : Nat) (r : Rel) : Option (List Sym × Rel) :=
  match r.nakDue with
  | some n => some (controlSyms true cls n, { r with nakDue := none })
  | none =>
    if (r.ackDue || r.reack) && (match r.ackAt with | some t => decide (t + 16 * wc ≤ s) | none => true) then
      some (controlSyms false cls ((r.exp + 4095) % 4096), { r with ackDue := false, reack := false, ackAt := some s })
    else none

/-- An S frame with its channel's next number (R424, R428), and the lane once it has gone. -/
def Lane.sNow (x : Lane) (chan : Nat) (payload : List Byte) : List Sym × Lane :=
  let n := KMap.get 0 x.sNext chan
  (sSyms chan n payload, { x with sNext := KMap.set 0 x.sNext chan ((n + 1) % 256) })

/-- The S frame of the flock that waits longest (R457, R458). -/
def Lane.sFirst? (x : Lane) : Option (List Sym × Lane) :=
  match x.sWaits with
  | y :: rest => some (({ x with sWaits := rest } : Lane).sNow y.1 y.2)
  | [] => none

/-- The frame that lane l starts at a frame boundary at s, and the die once it has gone (R438): B frames, control frames, R frames, and a launch as
FRAME_START chooses it. DESIGN CHOICE (log 143): the list of R438 names no S frame but launches: a SYNC frame goes first of all, a relayed frame
and a frame of the Loft after the B frames. -/
def Die.nextItem (l s : Nat) (d : Die) : Option (List Sym × Die) :=
  let x := d.lane l
  let wc := d.wordUnits 2 l
  let lane (r : Option (List Sym × Lane)) : Option (List Sym × Die) := r.map (fun y => (y.1, d.onLane l (fun _ => y.2)))
  let rel (cls : Nat) (r : Option (List Sym × Rel)) : Option (List Sym × Die) := lane (r.map (fun y => (y.1, x.onRel cls (fun _ => y.2))))
  let sync := if x.sWaits.any (fun y => y.1 == 63) then lane x.sFirst? else none
  let loft := if d.loftLanes.contains l then
      (d.loft.laneQ.find? (fun y => y.1 == l)).map (fun y =>
        let r := x.sNow 61 y.2
        (r.1, { d.onLane l (fun _ => r.2) with loft := { d.loft with laneQ := d.loft.laneQ.erase y } }))
    else none
  [sync, if d.agreed l 2 then rel 2 (x.b.next? 2) else none, if d.agreed l 0 then lane x.sFirst? else none, loft,
    rel 2 (x.b.control? 2 s wc), rel 1 (x.r.control? 1 s wc), if d.agreed l 1 then rel 1 (x.r.next? 1) else none].findSome? id

/-- Put symbols on a lane's line from instant s on, after the idle words since its last frame (R420, R422): an idle word turns the running
disparity over, and at least one follows. -/
def Die.putLine (l s : Nat) (syms : List Sym) (d : Die) : Die :=
  let wc := d.wordUnits 2 l
  let x := d.lane l
  let idles := (s - x.lineEnd) / wc
  let c := encodeSyms (if idles % 2 = 1 then !x.rdTx else x.rdTx) syms
  let fin := s + cdiv syms.length 4 * wc
  let d := d.onLane l (fun y => { y with rdTx := c.2, lineEnd := fin })
  ({ d with ports := KMap.upd {} d.ports (128 + l) (fun p => { p with busyTo := fin + wc }) }).emit (.line l idles (packWords c.1))

/-- An S frame of a launch goes onto the line at its start (R428). -/
def Die.putS (l s chan : Nat) (payload : List Byte) (d : Die) : Die :=
  let r := (d.lane l).sNow chan payload
  (d.onLane l (fun _ => r.2)).putLine l s r.1

/-- A frame boundary of lane l that falls in the present nanosecond (R438): the first ready item starts, unless it would still be on the line at
the start of a launch that is chosen. -/
def Die.lineTurn (l : Nat) (d : Die) : Die :=
  let p := KMap.get {} d.ports (128 + l)
  let wc := d.wordUnits 2 l
  let s := d.boundary 2 l (d.lane l).lineEnd (max d.now21 p.busyTo)
  if d.laneState l = 4 ∧ s < d.now21 + 21000 then
    match d.nextItem l s with
    | none => d
    | some (syms, e) =>
      let fin := s + (cdiv syms.length 4 + 1) * wc
      if (p.sched.isNone || decide (fin ≤ p.start)) && p.line.all (fun f => decide (fin ≤ f.start)) then e.putLine l s syms else d
  else d

/-- The instant of a class's last ACK, as FC moves by u (R460). -/
def Rel.later (u : Nat) (r : Rel) : Rel := { r with ackAt := r.ackAt.map (· + u) }

/-- Queue a frame of a reliable class on a lane. -/
def Die.sendRel (l cls : Nat) (payload : List Byte) (d : Die) : Die :=
  (d.onLane l (Lane.onRel cls (fun r => { r with waits := r.waits ++ [payload] }))).lineTurn l

/-- Queue an S frame of the flock on a lane (R457, R458): SYNC frames before relayed ones. -/
def Die.sendS (l chan : Nat) (payload : List Byte) (d : Die) : Die :=
  (d.onLane l (fun x => { x with sWaits := if chan = 63 then (chan, payload) :: x.sWaits else x.sWaits ++ [(chan, payload)] })).lineTurn l

/-- Outstanding frames are to be sent again from the first that `sel` takes (R437, R440). -/
def Rel.again (sel : Nat → Bool) (r : Rel) : Rel := { r with resend := r.out.dropWhile (fun f => !(sel f.1)) }

/-- The child digit a lane of the device serves (R454). -/
def Die.digitOf (d : Die) (l : Nat) : Nat := if d.isTop then l else if d.isTail then l - 3 + 32 else l - 3

/-- The lane that is the parent link now (R454, R474): for the standby the lowest head that is neither in HOLDOVER nor aligning. -/
def Die.parentLane (d : Die) : Option Nat :=
  if d.role = 3 ∧ d.get R.FLK_STATUS_STATE = 6 then
    (List.range 64).find? (fun l => d.laneState l == 4 && (let k := KMap.get {} d.flk.kids l; k.state != 4 && k.state != 2 && k.state != 0))
  else match d.parentLanes with
    | [] => none
    | l :: rest => if rest.contains d.flk.parent then some d.flk.parent else some l

/-- Change the flock logic. -/
def Die.onFlk (f : Flock → Flock) (d : Die) : Die := { d with flk := f d.flk }

/-- A flock message: header and body (R456). -/
def flkMsg (type epoch image : Nat) (body : List Byte) : List Byte :=
  leBytes 1 type ++ [0] ++ leBytes 2 epoch ++ leBytes 4 image ++ body

/-- This device's epoch. -/
def Die.epoch (d : Die) : Nat := d.get R.FLK_STATUS_EPOCH

/-- Send a message up the parent link in class R. -/
def Die.sendUp (type image : Nat) (body : List Byte) (d : Die) : Die :=
  match d.parentLane with
  | some l => d.sendRel l 1 (flkMsg type d.epoch image body)
  | none => d

/-- Send bytes to every child whose link is ACTIVE (R456). -/
def Die.sendDown (cls : Nat) (msg : List Byte) (d : Die) : Die :=
  (d.childLanes.filter (fun l => d.laneState l == 4)).foldl (fun d l => d.sendRel l cls msg) d

/-- Images in the device's pastures that take part in flock updates (R459). -/
def Die.flockImages (d : Die) : List Nat :=
  (pastures.filterMap (fun p => match d.admittedImage p with | some x => if isFlock x then some x.imageId else none | none => none)).eraseDups

/-- Image IDs of the sets in this device's subtree (R459). -/
def Die.subtreeImages (d : Die) : List Nat :=
  (d.flockImages ++ d.flk.kids.flatMap (fun k => if k.2.joined then k.2.images else [])).eraseDups

/-- The body of JOIN (R456). -/
def Die.joinBody (fu : Fused) (d : Die) : List Byte :=
  leBytes 8 fu.deviceId ++ leBytes 1 d.role ++ leBytes 1 d.level ++ leBytes 1 (b2n d.isTail) ++ [0] ++ leBytes 4 (d.get R.FLK_ADDR_ADDR)
    ++ leBytes 8 d.fc ++ (List.range 8).flatMap (fun i => leBytes 4 (d.subtreeImages.getD i 0))

/-- Send JOIN on the parent link (R459). A device in HOLDOVER stays there (R461). -/
def Die.sendJoin (fu : Fused) (d : Die) : Die :=
  if d.flk.refused then d
  else
    let d := if d.get R.FLK_STATUS_STATE = 4 then d else d.put R.FLK_STATUS_STATE 0 1
    d.sendUp 1 0 (d.joinBody fu)

/-- The device enters HOLDOVER (R461). -/
def Die.enterHoldover (d : Die) : Die :=
  if d.get R.FLK_STATUS_STATE = 3 then
    ((d.put R.FLK_STATUS_STATE 0 4).count T.FLK_HOLDOVERS 0).onFlk (fun k => { k with holdFrom := d.ns, good := 0, hold := true })
  else d

/-- The master PLL follows the parent link's word clock (R455). -/
def Die.refParent (d : Die) : Bool := d.get R.FLK_STATUS_JOIN_RESULT == 1 && d.parentLane.isSome && !(d.role == 2 && d.level == 1)

/-- The reference the master PLL is locked to is lost (R30, R35). -/
def Die.refLoss (d : Die) : Die :=
  let d := { d with pullIn := false }
  if d.on R.DEV_TIMING_STATUS_PLL_LOCK then
    (((d.flag R.DEV_TIMING_STATUS_PLL_LOCK 0 false).flag R.DEV_TIMING_STATUS_REF_LOST 0 true).flag R.DEV_TIMING_STATUS_HOLDOVER 0 true).alarm 9
  else d

/-- The reference is back: the PLL begins to pull in (R577). -/
def Die.refBack (d : Die) : Die := if d.on R.DEV_TIMING_STATUS_PLL_LOCK then d else { d with pullIn := true }

/-- LINK packet of a lane (R550, TYPE 11). -/
def Die.linkPacket (l old new cause : Nat) (d : Die) : Die :=
  d.trace ⟨11, false, 4, l, none, leBytes 1 old ++ leBytes 1 new ++ leBytes 1 (d.get R.LNK_STATUS_RATE l) ++ leBytes 1 cause⟩

/-- A lane changes state; leaving ACTIVE on the parent link begins HOLDOVER (R461). -/
def Die.laneTo (l st cause : Nat) (d : Die) : Die :=
  let old := d.laneState l
  if old = st then d
  else
    let d := (d.put R.LNK_STATUS_STATE l st).linkPacket l old st cause
    let d := if old = 4 then d.unchoose 2 l else d
    let d := if old = 4 ∧ d.flockLane l then d.incident 10 4 l l else d
    if old = 4 ∧ d.parentLane = some l then (if d.refParent then d.refLoss else d).enterHoldover
    else if st = 4 ∧ d.parentLane = some l ∧ d.refParent = true then d.refBack else d

/-- The slowest rate a lane may train at (R430, R448): with a floor, the floor. A MINRATE faster than MAXRATE is MAXRATE (R449). -/
def Die.slowest (d : Die) (l : Nat) : Nat :=
  let f := d.get R.LNK_STATUS_FLOOR l
  if f = 0 then max (d.get R.LNK_CONTROL_MINRATE l) (d.get R.LNK_CONTROL_MAXRATE l) else f

/-- The rate of the present attempt (R430). -/
def Die.attemptRate (d : Die) (l : Nat) : Nat := d.get R.LNK_CONTROL_MAXRATE l + (d.lane l).attempts / 3

/-- What a lane holds of its training at the start of an attempt. -/
def Lane.fresh (x : Lane) : Lane :=
  { x with ts1Run := 0, ts1Locked := 0, ts1Sent := 0, locked := false, sawTs2 := false, ts2Tx := [], ts2Last := none, samples := []
           done := false, doneSent := 0, doneRun := 0, gotDone := false, errors := 0, deferFor := [], deferCause := 0 }

/-- Enter TRAIN1 at a rate; a change to a slower rate counts (R430). A transmitter that leaves electrical idle begins at negative running
disparity (R420), and the equaliser's settings take effect (R449). -/
def Die.toTrain1 (l rate cause : Nat) (d : Die) : Die :=
  let old := d.get R.LNK_STATUS_RATE l
  let d := if old ≠ 0 ∧ old < rate then d.count T.LNK_RATE_DOWN l else d
  let idle := [0, 1, 5].contains (d.laneState l)
  let preset := if d.on R.LNK_EQ_TAPS l then 0xFF else d.get R.LNK_EQ_PRESET l
  ((d.put R.LNK_STATUS_RATE l rate).onLane l (fun x => { x.fresh with rdTx := !idle && x.rdTx, preset := preset })).laneTo l 2 cause

/-- A failed attempt (R429, R430): back to DETECT, or LINK_ABSENT when every allowed rate has been tried. -/
def Die.failAttempt (l cause : Nat) (d : Die) : Die :=
  let d := (d.count T.LNK_ATTEMPT_FAIL l).onLane l (fun x => { x.fresh with attempts := x.attempts + 1, resume := false })
  if d.slowest l < d.attemptRate l then d.laneTo l 5 cause else d.laneTo l 1 cause

/-- A retrain begins (R430, R434, R439). -/
def Die.beginRetrain (l cause : Nat) (d : Die) : Die :=
  let rate := d.get R.LNK_STATUS_RATE l
  let mx := d.get R.LNK_CONTROL_MAXRATE l
  let d := (d.count T.LNK_RETRAINS l).flag R.LNK_STATUS_DEFER l false
  let d := d.onLane l (fun x => { x with attempts := 3 * (rate - mx), resume := true
                                         oldId := d.pair64 R.LNK_PARTNER_ID_LO R.LNK_PARTNER_ID_HI l, oldLane := d.get R.LNK_STATUS_PARTNER_LANE l })
  d.toTrain1 l rate cause

/-- A retrain trigger (R439, R440): at once, or deferred while a B frame is queued or outstanding. -/
def Die.retrainTrigger (l cause : Nat) (d : Die) : Die :=
  if d.laneState l ≠ 4 ∨ d.on R.LNK_STATUS_DEFER l then d
  else
    let b := (d.lane l).b
    if b.out.isEmpty && b.waits.isEmpty then d.beginRetrain l cause
    else
      let marks := b.out.map (fun f => f.1) ++ (List.range b.waits.length).map (fun i => (b.next + i) % 4096)
      ((d.flag R.LNK_STATUS_DEFER l true).count T.LNK_DEFERRED l).onLane l (fun x => { x with deferFor := marks, deferCause := cause })

/-- Errors of a lane in the present window; the sixteenth is a trigger (R439). -/
def Die.laneError (t : Tal) (l : Nat) (d : Die) : Die :=
  let d := (d.count t l).onLane l (fun x => { x with errors := x.errors + 1 })
  if (d.lane l).errors = 16 then d.retrainTrigger l 1 else d

/-- Symbols of words, none for a code error (R420, R421). -/
def lineSyms (w : LineWords) : List (Option Sym) := decodeSyms w.rd (w.words.flatMap wordCodes)

/-- Code errors in words (R421). -/
def lineErrs (w : LineWords) : Nat := ((lineSyms w).filter Option.isNone).length

/-- The byte of a symbol. -/
def symByte (s : Option Sym) : Byte := match s with | some y => y.b | none => 0

/-- A frame as its receiver reads it (R424, R425). -/
structure FrameView where
  /-- the words begin with /S/ -/
  start : Bool
  /-- the frame reaches the end of word LEN + 1 with no code error, comma or /S/ in it -/
  whole : Bool
  /-- /T/ stands at symbol 3 of word LEN + 1 -/
  ended : Bool
  h1 : Byte
  h2 : Byte
  h3 : Byte
  payload : List Byte
  crc : Nat
deriving DecidableEq, Repr

/-- Read a frame. -/
def frameView (f : LinkFrame) : FrameView :=
  let ss := lineSyms f.line
  let at_ (i : Nat) : Option Sym := ss.getD i none
  let n := (symByte (at_ 3)).toNat
  let body := ss.take (4 * n + 8)
  { start := at_ 0 == some symS
    whole := decide (body.length = 4 * n + 8) && (body.drop 1).all (fun s => s.isSome && s != some comma && s != some symS)
    ended := at_ (4 * n + 7) == some symT
    h1 := symByte (at_ 1), h2 := symByte (at_ 2), h3 := symByte (at_ 3)
    payload := ((ss.drop 4).take (4 * n)).map symByte
    crc := leNat (((ss.drop (4 * n + 4)).take 3).map symByte) }

/-- Header bytes and payload of a frame as the CRC covers them (R424). -/
def lfBody (f : LinkFrame) : List Byte := [(frameView f).h1, (frameView f).h2, (frameView f).h3] ++ (frameView f).payload

/-- CLS of a frame. -/
def lfCls (f : LinkFrame) : Nat := (frameView f).h1.toNat / 64

/-- 12-bit SEQ of an R, B or control frame. -/
def lfSeq (f : LinkFrame) : Nat := (frameView f).h1.toNat % 16 * 256 + (frameView f).h2.toNat

/-- The framed receiver of a lane runs: TRAIN1, TRAIN2 or ACTIVE. -/
def Die.receiving (d : Die) (l : Nat) : Bool := decide (2 ≤ d.laneState l) && decide (d.laneState l ≤ 4)

/-- Every code error that a running receiver meets counts, inside a frame and outside (R421, R439). -/
def Die.codeErrors (l : Nat) (w : LineWords) (d : Die) : Die :=
  if d.receiving l then (List.range (lineErrs w)).foldl (fun d _ => d.laneError T.LNK_CODE_ERR l) d else d

/-- The checks of R425 and R426: whether a frame passes, and the die after what is counted. -/
def Die.checkFrame (l : Nat) (f : LinkFrame) (d : Die) : Bool × Die :=
  let v := frameView f
  let d1 := d.codeErrors l f.line
  if d.laneState l ≠ 4 ∨ v.start = false then (false, d1)
  else
    let n := v.h3.toNat
    let lenOk := if (lfCls f) = 3 then n == 0 else decide (1 ≤ n) && decide (n ≤ 64)
    if !lenOk || !v.whole || !v.ended then (false, d1.laneError T.LNK_FRAME_ERR l)
    else if v.crc ≠ crc32c (lfBody f) % 2 ^ 24 then (false, d1.laneError T.LNK_CRC_ERR l)
    else if (lfCls f) ≠ 3 ∧ d.agreed l (lfCls f) = false then (false, d1.count T.LNK_CLASS_OFF l)
    else (true, d1)

/-- Words that are no training set break a run of them (R429, R441). -/
def Lane.noSet (x : Lane) : Lane := { x with ts1Run := 0, ts1Locked := 0, doneRun := 0 }

/-- A frame reaches a lane: its checks, and the end of a run of training sets. -/
def Die.frameIn (l : Nat) (f : LinkFrame) (d : Die) : Bool × Die :=
  let r := d.checkFrame l f
  (r.1, r.2.onLane l Lane.noSet)

/-- End of a deferral once every marked B frame is acknowledged (R440). -/
def Die.endDefer (l : Nat) (d : Die) : Die :=
  let x := d.lane l
  if d.on R.LNK_STATUS_DEFER l ∧ d.laneState l = 4 then
    let still := x.b.out.map (fun f => f.1) ++ (List.range x.b.waits.length).map (fun i => (x.b.next + i) % 4096)
    if x.deferFor.all (fun n => !(still.contains n)) then d.beginRetrain l x.deferCause else d
  else d

/-- The lane enters ACTIVE (R427, R429, R430, R434, R440, R459): its first frame, a resend before a new one, goes after 16 idle words. -/
def Die.toActive (fu : Fused) (l : Nat) (d : Die) : Die :=
  let x := d.lane l
  let same := x.resume && x.resumeRx && x.oldId == d.pair64 R.LNK_PARTNER_ID_LO R.LNK_PARTNER_ID_HI l
    && x.oldLane == d.get R.LNK_STATUS_PARTNER_LANE l
  let d := if same then d
    else (d.countBy T.LNK_R_DISCARD l x.r.out.length).countBy T.LNK_B_DISCARD l x.b.out.length
  let clear (r : Rel) : Rel := if same then ({ r with expiries := 0 } : Rel).again (fun _ => true) else { waits := r.waits, buf := r.buf }
  let d := d.onLane l (fun y => { y.fresh with attempts := 0, resume := false, resumeRx := false, sExp := []
                                               sNext := if same then y.sNext else [], r := clear y.r, b := clear y.b })
  let d := (d.flag R.LNK_STATUS_RESUMED l same).laneTo l 4 6
  let now := d.boundary 2 l d.now21 d.now21
  let d := d.onLane l (fun y => { y with lineEnd := now })
  let d := { d with ports := KMap.upd {} d.ports (128 + l) (fun p => { p with busyTo := now + 16 * d.wordUnits 2 l }) }
  if d.parentLane = some l then d.sendJoin fu else d

/-- Whether TRAIN1 is complete (R429). -/
def Die.train1Exit (l : Nat) (d : Die) : Die :=
  let x := d.lane l
  if d.laneState l = 2 ∧ (8 ≤ x.ts1Locked ∨ x.sawTs2) ∧ 16 ≤ x.ts1Sent then d.laneTo l 3 6 else d

/-- Whether TRAIN2 is complete (R429). -/
def Die.train2Exit (fu : Fused) (l : Nat) (d : Die) : Die :=
  let x := d.lane l
  if d.laneState l = 3 ∧ 4 ≤ x.doneSent ∧ 2 ≤ x.doneRun then d.toActive fu l else d

/-- RECEIVER_DETECT (R429, R430). -/
def execReceiverDetect (l : Nat) (s : State) : Host.Outcome State Fault Refusal :=
  dieCmd (decide (l < 64)) (fun s =>
    let d := s.die
    if d.laneState l = 1 ∧ d.on R.LNK_CONTROL_MODE l = false then
      if d.slowest l < d.attemptRate l then d.laneTo l 5 6 else d.toTrain1 l (d.attemptRate l) 6
    else d) s

/-- The bytes after the comma of a training set of n bytes whose ID is `id` (R431, R432); none where the words hold no such set. -/
def trainingSet (id n : Nat) (w : LineWords) : Option (List Byte) :=
  let ss := lineSyms w
  if ss.length = n ∧ ss.getD 0 none = some comma ∧ (ss.drop 1).all (fun s => match s with | some y => !y.k | none => false) = true
      ∧ (symByte (ss.getD 1 none)).toNat = id then some ((ss.drop 1).map symByte)
  else none

/-- Byte i of a training set, numbered as its tables number them. -/
def setByte (bs : List Byte) (i : Nat) : Nat := (byteAt bs (i - 1)).toNat

/-- A TS1 as its receiver reads it (R431). -/
structure Ts1 where
  rate : Nat
  locked : Bool
  crcOk : Bool
deriving DecidableEq, Repr

/-- Read a TS1. -/
def readTs1 (w : LineWords) : Option Ts1 := (trainingSet 0x31 16 w).map (fun bs =>
  ⟨setByte bs 2, bit (setByte bs 3) 0, leNat (bs.drop 12) == crc32c (bs.take 12) % 2 ^ 24⟩)

/-- A TS2 as its receiver reads it (R432), with its receive capture in units of 2^-4 ns. -/
structure Ts2 where
  rate : Nat
  done : Bool
  resume : Bool
  echoValid : Bool
  lane : Nat
  role : Nat
  classes : Nat
  deviceId : BitVec 64
  seq : Nat
  echoSeq : Nat
  prevTx : BitVec 64
  echoRx : BitVec 64
  crcOk : Bool
  rx : BitVec 64
deriving DecidableEq, Repr

/-- Read a TS2. -/
def readTs2 (w : LineWords) (rx : BitVec 64) : Option Ts2 := (trainingSet 0x32 48 w).map (fun bs =>
  let num (i n : Nat) : Nat := leNat (slice bs (i - 1) n)
  { rate := setByte bs 2, done := bit (setByte bs 3) 0, resume := bit (setByte bs 3) 1, echoValid := bit (setByte bs 3) 2
    lane := setByte bs 4, role := setByte bs 5, classes := setByte bs 6, deviceId := BitVec.ofNat 64 (num 8 8), seq := setByte bs 16
    echoSeq := setByte bs 17, prevTx := BitVec.ofNat 64 (num 20 8), echoRx := BitVec.ofNat 64 (num 28 8)
    crcOk := leNat (bs.drop 44) == crc32c (bs.take 44) % 2 ^ 24, rx := rx })

/-- The TS1 that the lane sends (R431). -/
def Die.ts1Out (d : Die) (l : Nat) : List Byte :=
  let x := d.lane l
  [0x31] ++ leBytes 1 (d.get R.LNK_STATUS_RATE l) ++ leBytes 1 (b2n x.locked) ++ leBytes 1 l ++ leBytes 1 x.preset ++ List.replicate 7 0

/-- The ROLE a lane's TS2 carries (R454, R455): 3 on the standby's flock lanes, 1 on a worker's parent link, 2 on the other flock lanes, 0
elsewhere. -/
def Die.ts2Role (d : Die) (l : Nat) : Nat := if !(d.flockLane l) then 0 else if d.role = 3 then 3 else if d.role = 1 then 1 else 2

/-- The TS2 that the lane sends (R432). -/
def Die.ts2Out (d : Die) (fu : Fused) (l : Nat) : List Byte :=
  let x := d.lane l
  let echo : Ts2Rec := x.ts2Last.getD ⟨0, false, 0, 0, 0⟩
  let prev := match x.ts2Tx.find? (fun y => y.1 == (x.ts2Seq + 255) % 256) with | some y => y.2 | none => 0
  [0x32] ++ leBytes 1 (d.get R.LNK_STATUS_RATE l) ++ leBytes 1 (b2n x.done + 2 * b2n x.resume + 4 * b2n x.ts2Last.isSome) ++ leBytes 1 l
    ++ leBytes 1 (d.ts2Role l) ++ leBytes 1 (d.get R.LNK_CONTROL_CLASSES l) ++ [0x3F] ++ leBytes 8 fu.deviceId ++ leBytes 1 x.ts2Seq ++ leBytes 1 echo.seq
    ++ [0, 0] ++ leBytes 8 prev ++ leBytes 8 echo.rx ++ List.replicate 9 0

/-- A training set goes onto the line (R420, R431, R432). -/
def Die.putSet (l : Nat) (body : List Byte) (d : Die) : Die :=
  let c := encodeSyms (d.lane l).rdTx (trainingSyms body)
  (d.onLane l (fun x => { x with rdTx := c.2 })).emit (.line l 0 (packWords c.1))

/-- TS1 (R421, R429, R431, R441). -/
def execTs1 (l : Nat) (w : LineWords) (s : State) : Host.Outcome State Fault Refusal :=
  dieCmd (decide (l < 64)) (fun s =>
    let d := s.die.codeErrors l w
    let st := d.laneState l
    if st = 2 ∨ st = 3 ∨ st = 4 then
      match readTs1 w with
      | none => d.onLane l Lane.noSet
      | some x =>
      if x.crcOk = false then (d.laneError T.LNK_CRC_ERR l).onLane l (fun y => { y with ts1Run := 0, ts1Locked := 0 })
      else if st = 2 then
        let ok := x.rate == d.get R.LNK_STATUS_RATE l
        let d := d.onLane l (fun y =>
          let run := if ok then y.ts1Run + 1 else 0
          { y with ts1Run := run, locked := y.locked || decide (8 ≤ run), ts1Locked := if x.locked then y.ts1Locked + 1 else 0 })
        d.train1Exit l
      else
        let d := d.onLane l (fun y => { y with ts1Run := y.ts1Run + 1 })
        if 4 ≤ (d.lane l).ts1Run then
          (if st = 4 then d.beginRetrain l 6 else d.toTrain1 l (d.get R.LNK_STATUS_RATE l) 6)
        else d
    else d) s

/-- A delay sample from a TS2 (R433). -/
def Lane.sample (x : Lane) (t : Ts2) : Lane :=
  let now : Ts2Rec := ⟨t.seq, t.echoValid, t.echoSeq, t.echoRx.toNat, t.rx.toNat⟩
  match x.ts2Last with
  | some p =>
    if (p.seq + 1) % 256 = t.seq % 256 ∧ p.echoValid then
      match x.ts2Tx.find? (fun y => y.1 == p.echoSeq) with
      | some y =>
        let rtt := sdiff 64 (low ((p.rx : Int) - y.2) 64) (low ((t.prevTx.toNat : Int) - p.echoRx) 64)
        let set := match x.samples with
          | f :: _ => if 32 < (rtt - f).natAbs then [] else x.samples
          | [] => []
        { x with ts2Last := some now, samples := set ++ [rtt] }
      | none => { x with ts2Last := some now }
    else { x with ts2Last := some now }
  | none => { x with ts2Last := some now }

/-- TS2 (R421, R429, R432 to R434, R455, R459). -/
def execTs2 (l : Nat) (z : Ts2Line) (s : State) : Host.Outcome State Fault Refusal :=
  dieCmd (decide (l < 64)) (fun s =>
    let d := s.die.codeErrors l z.line
    let st := d.laneState l
    if st = 2 ∨ st = 3 ∨ st = 4 then
      match readTs2 z.line z.rx with
      | none => d.onLane l Lane.noSet
      | some x =>
      if x.crcOk = false then (d.laneError T.LNK_CRC_ERR l).onLane l (fun y => { y with doneRun := 0, ts1Run := 0 })
      else if st = 2 then (d.onLane l (fun y => { y with sawTs2 := true })).train1Exit l
      else if st = 3 then
        let d := d.onLane l (fun y =>
          let y := if y.done then { y with ts2Last := some ⟨x.seq, x.echoValid, x.echoSeq, x.echoRx.toNat, x.rx.toNat⟩ } else y.sample x
          { y with doneRun := if x.done then y.doneRun + 1 else 0, gotDone := y.gotDone || x.done, resumeRx := x.resume, ts1Run := 0 })
        let y := d.lane l
        let d := if y.done = false ∧ 16 ≤ y.samples.length then
            (d.put R.LNK_DELAY_VALUE l (low ((y.samples.take 16).foldl (· + ·) 0 / 32) 32)).onLane l (fun z => { z with done := true })
          else d
        let d := ((d.put R.LNK_STATUS_CLASSES l (Nat.land x.classes (d.get R.LNK_CONTROL_CLASSES l))).put R.LNK_STATUS_PARTNER_LANE l x.lane).put
          R.LNK_STATUS_PARTNER_ROLE l x.role
        (d.putPair R.LNK_PARTNER_ID_LO R.LNK_PARTNER_ID_HI l x.deviceId.toNat).train2Exit s.fused l
      else d.onLane l (fun y => { y with ts1Run := 0 })
    else d) s

/-- TRAINING_SET_SENT (R429, R431 to R433): the set leaves as the lane stands, and the transmit capture of a TS2 is kept under its number. -/
def execTrainingSetSent (l : Nat) (cap : Capture) (s : State) : Host.Outcome State Fault Refusal :=
  dieCmd (decide (l < 64)) (fun s =>
    let d := s.die
    let st := d.laneState l
    if st = 2 then ((d.putSet l (d.ts1Out l)).onLane l (fun x => { x with ts1Sent := if x.locked then x.ts1Sent + 1 else x.ts1Sent })).train1Exit l
    else if st = 3 then
      let t := s.cel.capFc (122 + l) true cap
      ((d.putSet l (d.ts2Out s.fused l)).onLane l (fun x => { x with
        ts2Tx := x.ts2Tx.filter (fun y => y.1 != x.ts2Seq) ++ [(x.ts2Seq, t)], ts2Seq := (x.ts2Seq + 1) % 256
        doneSent := if x.done then x.doneSent + 1 else x.doneSent })).train2Exit s.fused l
    else d) s

/-- IDLE_WORD (R421, R422, R429): a word outside frames and training sets; its code errors count, and an idle word after a TS2 with DONE ends
TRAIN2. -/
def execIdleWord (z : LaneWord) (s : State) : Host.Outcome State Fault Refusal :=
  dieCmd (decide (z.lane < 64)) (fun s =>
    let l := z.lane
    let w := z.line
    let d := s.die.codeErrors l w
    if d.laneState l = 3 ∧ (d.lane l).gotDone ∧ lineSyms w = idleWord.map some then d.toActive s.fused l
    else d.onLane l (fun x => { x with ts1Run := 0 })) s

/-- TRAIN1_TIMEOUT (R429, R430). -/
def execTrain1Timeout (l : Nat) (s : State) : Host.Outcome State Fault Refusal :=
  dieCmd (decide (l < 64)) (fun s => if s.die.laneState l = 2 then s.die.failAttempt l 6 else s.die) s

/-- TRAIN2_TIMEOUT (R429, R430). -/
def execTrain2Timeout (l : Nat) (s : State) : Host.Outcome State Fault Refusal :=
  dieCmd (decide (l < 64)) (fun s => if s.die.laneState l = 3 then s.die.failAttempt l 6 else s.die) s

/-- LINK_ABSENT_TIMEOUT (R429). -/
def execLinkAbsentTimeout (l : Nat) (s : State) : Host.Outcome State Fault Refusal :=
  dieCmd (decide (l < 64)) (fun s =>
    if s.die.laneState l = 5 then (s.die.onLane l (fun x => { x with attempts := 0 })).laneTo l 1 6 else s.die) s

/-- ALIGN_LOSS (R423, R439). -/
def execAlignLoss (l : Nat) (s : State) : Host.Outcome State Fault Refusal :=
  dieCmd (decide (l < 64)) (fun s =>
    let d := s.die
    if d.laneState l = 2 ∨ d.laneState l = 3 ∨ d.laneState l = 4 then (d.count T.LNK_ALIGN_LOSS l).retrainTrigger l 2 else d) s

/-- Loss of signal (R429, R442, R445): from any state in which the receiver runs. -/
def Die.los (l : Nat) (d : Die) : Die :=
  let st := d.laneState l
  if st = 0 ∨ st = 1 ∨ st = 5 then d
  else
    let d := (d.count T.LNK_LOS l).flag R.LNK_STATUS_DEFER l false
    if st = 2 ∨ st = 3 then d.failAttempt l 5
    else (d.onLane l (fun x => { x.fresh with resume := false, runs := [], misses := 0 })).laneTo l 1 5

/-- LOS. -/
def execLos (l : Nat) (s : State) : Host.Outcome State Fault Refusal := dieCmd (decide (l < 64)) (fun s => s.die.los l) s

/-- ERROR_WINDOW (R439). -/
def execErrorWindow (l : Nat) (s : State) : Host.Outcome State Fault Refusal :=
  dieCmd (decide (l < 64)) (fun s => s.die.onLane l (fun x => { x with errors := 0 })) s

/-- RETRAIN (R439, R440): a trigger arises from cause 1 errors, 2 alignment, 3 replay limit, 4 a write. -/
def execRetrain (l cause : Nat) (s : State) : Host.Outcome State Fault Refusal :=
  dieCmd (decide (l < 64)) (fun s => s.die.retrainTrigger l cause) s

/-- RETRAIN_DEFER_TIMEOUT (R440). -/
def execRetrainDeferTimeout (l : Nat) (s : State) : Host.Outcome State Fault Refusal :=
  dieCmd (decide (l < 64)) (fun s =>
    if s.die.on R.LNK_STATUS_DEFER l ∧ s.die.laneState l = 4 then s.die.beginRetrain l (s.die.lane l).deferCause else s.die) s

/-- Message types of R456 and R482 and the class each travels in. -/
def msgListed (cls type : Nat) : Bool :=
  if cls = 2 then decide (9 ≤ type) && decide (type ≤ 13) else (decide (1 ≤ type) && decide (type ≤ 8)) || type == 14 || type == 15

/-- A delivered message: kept for the logic it is for, or discarded and counted in MSG_BAD (R456). -/
def Die.deliverMsg (l cls : Nat) (msg : List Byte) (d : Die) : Die :=
  if msgListed cls (byteAt msg 0).toNat && decide (d.epoch ≤ leNat (slice msg 2 2)) then
    d.onLane l (Lane.onRel cls (fun x => { x with buf := x.buf ++ [msg] }))
  else d.count T.FLK_MSG_BAD 0

/-- on_reliable (R436). -/
def Die.onReliable (l cls seq : Nat) (msg : List Byte) (d : Die) : Die :=
  let r := (d.lane l).rel cls
  let v := sdiff 12 seq r.exp
  if v = 0 then
    if relLimit cls ≤ r.buf.length then d.count T.LNK_R_BUSY l
    else
      (d.onLane l (Lane.onRel cls (fun x => { x with exp := (x.exp + 1) % 4096, naked := false, ackDue := true }))).deliverMsg l cls msg
  else if v < 0 then (d.count T.LNK_DUP l).onLane l (Lane.onRel cls (fun x => { x with reack := true }))
  else
    let d := d.count T.LNK_SEQ_GAP l
    if r.naked then d
    else (d.onLane l (Lane.onRel cls (fun x => { x with naked := true, nakDue := some r.exp }))).count T.LNK_NAKS_SENT l

/-- RELIABLE_FRAME_RX (R425, R426, R436): what it calls for goes out at the next frame boundary. -/
def execReliableFrameRx (l : Nat) (f : LinkFrame) (s : State) : Host.Outcome State Fault Refusal :=
  dieCmd (decide (l < 64)) (fun s =>
    let r := s.die.frameIn l f
    if r.1 && ((lfCls f) == 1 || (lfCls f) == 2) then (r.2.onReliable l (lfCls f) (lfSeq f) (frameView f).payload).lineTurn l else r.2) s

/-- The class a control frame speaks of: ACLS (R424). -/
def lfAcls (f : LinkFrame) : Nat := if bit (frameView f).h1.toNat 5 then 2 else 1

/-- A control frame's effect on its class (R437). -/
def Die.control (l : Nat) (f : LinkFrame) (d : Die) : Die :=
  let cls := lfAcls f
  let r := (d.lane l).rel cls
  if !(r.out.any (fun o => o.1 == (lfSeq f))) then d
  else if bit (frameView f).h1.toNat 4 then (d.onLane l (Lane.onRel cls (Rel.again (· == (lfSeq f))))).lineTurn l
  else
    let still (o : Nat × List Byte) : Bool := decide (sdiff 12 (lfSeq f) o.1 < 0)
    let d := d.onLane l (Lane.onRel cls (fun x => { x with out := x.out.filter still, resend := x.resend.filter still, expiries := 0 }))
    (d.lineTurn l).endDefer l

/-- ACK (R425, R437, R440). -/
def execAck (l : Nat) (f : LinkFrame) (s : State) : Host.Outcome State Fault Refusal :=
  dieCmd (decide (l < 64)) (fun s =>
    let r := s.die.frameIn l f
    if r.1 && (lfCls f) == 3 && !(bit (frameView f).h1.toNat 4) then r.2.control l f else r.2) s

/-- NAK (R425, R437). -/
def execNak (l : Nat) (f : LinkFrame) (s : State) : Host.Outcome State Fault Refusal :=
  dieCmd (decide (l < 64)) (fun s =>
    let r := s.die.frameIn l f
    if r.1 && (lfCls f) == 3 && bit (frameView f).h1.toNat 4 then r.2.control l f else r.2) s

/-- REPLAY_TIMER (R437). -/
def execReplayTimer (l cls : Nat) (s : State) : Host.Outcome State Fault Refusal :=
  dieCmd (decide (l < 64)) (fun s =>
    let d := s.die
    if d.laneState l = 4 ∧ ((d.lane l).rel cls).out ≠ [] then
      let d := (d.count T.LNK_REPLAYS l).onLane l (Lane.onRel cls (fun x => { x with expiries := x.expiries + 1 }))
      let d := (d.onLane l (Lane.onRel cls (Rel.again (fun _ => true)))).lineTurn l
      if ((d.lane l).rel cls).expiries = 4 then d.retrainTrigger l 3 else d
    else d) s

/-- RAW_TRANSITIONS (R445). -/
def execRawTransitions (l : Nat) (s : State) : Host.Outcome State Fault Refusal :=
  dieCmd (decide (l < 64)) (fun s =>
    let d := s.die
    if d.laneState l = 1 ∧ d.on R.LNK_CONTROL_MODE l then
      ((d.put R.LNK_STATUS_RATE l (d.get R.LNK_CONTROL_MAXRATE l)).onLane l (fun x => { x with runs := [], misses := 0 })).laneTo l 6 6
    else d) s

/-- Bits a raw frame's pattern compares (R443). -/
def Die.rawMatch (d : Die) (l v : Nat) : Bool :=
  let m := d.pair64 R.LNK_RAW_MASK_LO R.LNK_RAW_MASK_HI l % 2 ^ d.get R.LNK_RAW_CFG_PBITS l
  Nat.land v m == Nat.land (d.pair64 R.LNK_RAW_PATTERN_LO R.LNK_RAW_PATTERN_HI l) m

/-- RAW_PERIOD (R444): `v` holds the bits of the period and of the PBITS − 1 bits after it, the first received lowest. -/
def execRawPeriod (l v : Nat) (s : State) : Host.Outcome State Fault Refusal :=
  dieCmd (decide (l < 64)) (fun s =>
    let d := s.die
    if d.laneState l = 6 then
      let f := 40 * d.get R.LNK_RAW_CFG_RLEN l
      let runs := (List.range f).foldl (fun m o =>
        KMap.set 0 m o (if d.rawMatch l (bits v o (d.get R.LNK_RAW_CFG_PBITS l)) then KMap.get 0 (d.lane l).runs o + 1 else 0)) []
      let d := d.onLane l (fun x => { x with runs := runs })
      match runs.filter (fun y => decide (4 ≤ y.2)) with
      | [] => d
      | [y] => ((d.put R.LNK_RAW_OFFSET_VALUE l y.1).onLane l (fun x => { x with misses := 0 })).laneTo l 7 6
      | _ => d.count T.LNK_RAW_AMBIG l
    else d) s

/-- RAW_FRAME (R445, R446). -/
def State.rawFrame (l : Nat) (bytes : List Byte) (cap : Capture) (s : State) : State :=
  let d := s.die
  if d.laneState l ≠ 7 then s
  else if d.rawMatch l (leNat bytes) then
    State.laneFrame l .raw bytes l cap { s with die := d.onLane l (fun x => { x with misses := 0 }) }
  else
    let d := (d.count T.LNK_FRAME_ERR l).onLane l (fun x => { x with misses := x.misses + 1 })
    if 4 ≤ (d.lane l).misses then
      { s with die := ((d.count T.LNK_RAW_UNLOCK l).onLane l (fun x => { x with runs := [], misses := 0 })).laneTo l 6 6 }
    else { s with die := d }

/-- RAW_FRAME. -/
def execRawFrame (l : Nat) (bytes : List Byte) (cap : Capture) (s : State) : Host.Outcome State Fault Refusal :=
  guardU (decide (l < 64)) (s.rawFrame l bytes cap)

/-- A certified path of an admitted image runs through a lane or port: kind 1 Ethernet, 2 Ouvust (R419, R448). -/
def Die.certified (d : Die) (kind port : Nat) : Bool :=
  pastures.any (fun p => (d.pasture p).adm && match d.image p with
    | some x => x.cert.any (fun c => (c.egressKind == kind && c.egress == port) || c.source == (if kind = 1 then 64 + port else port))
    | none => false)

/-- P-150 is in force, or, DESIGN CHOICE (log 125), an accepted change is bringing it. -/
def Die.lowProfile (d : Die) : Bool := d.get R.PWR_STATUS_PROFILE == 2 || d.profilePending == some 2

/-- What a write carries to the control word of a lane or port: ENABLE = 0 where P-150 forbids it (R570). -/
def Die.enableCut (outside : Bool) (w : Nat) (d : Die) : Nat := if outside && d.lowProfile && bit w 0 then w - 1 else w

/-- A write of LNK_EQ (R449): taps above the full swing leave it as it is. -/
def lnkEqW (l w : Nat) (d : Die) : Die := if 63 < bits w 4 4 + bits w 8 5 + bits w 13 6 then d else d.setFields .LNK l 0x400 w

/-- A write of LNK_CONTROL (R419, R429, R439, R449, R570). -/
def lnkControlW (l w : Nat) (d : Die) : Die :=
  let w := d.enableCut (decide (32 ≤ l)) w
  let wasOn := d.on R.LNK_CONTROL_ENABLE l
  let mode := d.get R.LNK_CONTROL_MODE l
  let d1 := d.setFields .LNK l 0x010 w
  let d1 := if d1.get R.LNK_CONTROL_MODE l ≠ mode ∧ d.certified 2 l then
      (d1.put R.LNK_CONTROL_MODE l mode).flag R.LNK_STATUS_CFG_REFUSED l true
    else d1
  let on := d1.on R.LNK_CONTROL_ENABLE l
  let newMode := d1.get R.LNK_CONTROL_MODE l
  let reset (d : Die) : Die := ((d.flag R.LNK_STATUS_DEFER l false).put R.LNK_STATUS_RATE l 0).onLane l (fun x =>
    { x.fresh with attempts := 0, resume := false, runs := [], misses := 0 })
  let d2 := if wasOn && !on then (reset d1).laneTo l 0 6
    else if on && (!wasOn || newMode != mode) then (reset d1).laneTo l 1 6
    else d1
  if bit w 16 then d2.retrainTrigger l 4 else d2

/-- LNK_CONTROL. -/
def execLnkControl (src : Source) (l : Nat) (w : Word) (s : State) : Host.Outcome State Fault Refusal :=
  dieCmd (decide (l < 64)) (writeDie src (blockAddr .LNK l 0x010) (lnkControlW l w.toNat)) s

/-- LINK packet of an Ethernet port (R550, TYPE 11). -/
def Die.ethPacket (t old new cause : Nat) (d : Die) : Die :=
  let rate := if d.on R.ETH_CONTROL_SPEED t then (if d.on R.ETH_CONTROL_FEC t then 18 else 17) else 16
  d.trace ⟨11, false, 5, t, none, leBytes 1 old ++ leBytes 1 new ++ leBytes 1 rate ++ leBytes 1 cause⟩

/-- A port holds lock (R417): block lock, and codeword lock under RS-FEC. -/
def Die.ethLocked (d : Die) (t : Nat) : Bool :=
  d.on R.ETH_STATUS_BLOCK_LOCK t && (!(d.on R.ETH_CONTROL_FEC t) || d.on R.ETH_STATUS_FEC_LOCK t)

/-- A port's PHY is up: its auto-negotiation is done where it has one (R414). -/
def Die.ethPhy (d : Die) (t : Nat) : Bool :=
  d.on R.ETH_CONTROL_ENABLE t && (!(d.on R.ETH_CONTROL_MEDIA t) || d.on R.ETH_STATUS_AN_DONE t)

/-- ETH_ACTIVE (R417). -/
def execEthActive (t : Nat) (s : State) : Host.Outcome State Fault Refusal :=
  dieCmd (decide (t < 16)) (fun s =>
    let d := s.die
    if d.ethPhy t && d.ethLocked t && !(d.on R.ETH_STATUS_LOCAL_FAULT t) && !(d.on R.ETH_STATUS_REMOTE_FAULT t)
      && !(d.on R.ETH_STATUS_ACTIVE t) then (d.flag R.ETH_STATUS_ACTIVE t true).ethPacket t 0 1 6
    else d) s

/-- The port leaves ACTIVE. -/
def Die.ethDown (t cause : Nat) (d : Die) : Die :=
  if d.on R.ETH_STATUS_ACTIVE t then (((d.flag R.ETH_STATUS_ACTIVE t false).count T.ETH_LINK_DOWN t).unchoose 1 t).ethPacket t 1 0 cause else d

/-- A port's block lock, its codeword lock or both are gone. -/
def Die.ethUnlock (t : Nat) (block codeword : Bool) (d : Die) : Die :=
  let d := if block then d.flag R.ETH_STATUS_BLOCK_LOCK t false else d
  if codeword then d.flag R.ETH_STATUS_FEC_LOCK t false else d

/-- A local fault begins or ends: while it is detected the port sends remote fault (R417). -/
def Die.localFault (t : Nat) (b : Bool) (d : Die) : Die :=
  if d.on R.ETH_STATUS_LOCAL_FAULT t = b then d else (d.flag R.ETH_STATUS_LOCAL_FAULT t b).emit (.fault t b)

/-- LINK_DOWN (R417): cause 1 loss of block lock, 4 of codeword lock alone, 2 a local fault, 3 a remote fault, 0 the faults are over. -/
def execLinkDown (t cause : Nat) (s : State) : Host.Outcome State Fault Refusal :=
  dieCmd (decide (t < 16)) (fun s =>
    let d := s.die
    if cause = 0 then (d.localFault t false).flag R.ETH_STATUS_REMOTE_FAULT t false
    else
      let d := if cause = 1 then d.ethUnlock t true true else if cause = 4 then d.ethUnlock t false true
        else if cause = 2 then d.localFault t true
        else d.flag R.ETH_STATUS_REMOTE_FAULT t true
      if cause = 4 ∧ d.on R.ETH_CONTROL_FEC t = false then d else d.ethDown t (if cause = 1 ∨ cause = 4 then 5 else 6)) s

/-- BLOCK_LOCK_GAINED (R417): a port whose PHY is up gains block lock, codeword lock under RS-FEC, or both. -/
def execBlockLockGained (x : PortLock) (s : State) : Host.Outcome State Fault Refusal :=
  dieCmd (decide (x.port < 16)) (fun s =>
    let d := s.die
    let t := x.port
    if d.ethPhy t then
      let d := if x.block then d.flag R.ETH_STATUS_BLOCK_LOCK t true else d
      if x.codeword && d.on R.ETH_CONTROL_FEC t then d.flag R.ETH_STATUS_FEC_LOCK t true else d
    else d) s

/-- BLOCK_LOCK_LOST (R417). -/
def execBlockLockLost (x : PortLock) (s : State) : Host.Outcome State Fault Refusal :=
  dieCmd (decide (x.port < 16)) (fun s =>
    if s.die.on R.ETH_STATUS_ACTIVE x.port then s.die else s.die.ethUnlock x.port x.block x.codeword) s

/-- AUTONEG_DONE (R414). -/
def execAutonegDone (t : Nat) (ok : Bool) (s : State) : Host.Outcome State Fault Refusal :=
  dieCmd (decide (t < 16)) (fun s =>
    let d := s.die
    if d.on R.ETH_CONTROL_ENABLE t && d.on R.ETH_CONTROL_MEDIA t then
      (if ok then d.flag R.ETH_STATUS_AN_DONE t true else ((d.ethDown t 6).ethUnlock t true true).flag R.ETH_STATUS_AN_DONE t false)
    else d) s

/-- A write of ETH_CONTROL (R414, R419, R450). -/
def ethControlW (t w : Nat) (d : Die) : Die :=
  let w := d.enableCut (decide (8 ≤ t)) w
  let speed := bit w 1
  if speed = false ∧ (bit w 2 ∨ bit w 3) then d.flag R.ETH_STATUS_CFG_REFUSED t true
  else
    let old := [d.get R.ETH_CONTROL_SPEED t, d.get R.ETH_CONTROL_FEC t, d.get R.ETH_CONTROL_MEDIA t]
    let d1 := d.setFields .ETH t 0x010 w
    let new := [d1.get R.ETH_CONTROL_SPEED t, d1.get R.ETH_CONTROL_FEC t, d1.get R.ETH_CONTROL_MEDIA t]
    let d1 := if old ≠ new ∧ d.certified 1 t then
        (((d1.put R.ETH_CONTROL_SPEED t (old.getD 0 0)).put R.ETH_CONTROL_FEC t (old.getD 1 0)).put R.ETH_CONTROL_MEDIA t (old.getD 2 0)).flag
          R.ETH_STATUS_CFG_REFUSED t true
      else d1
    let now := [d1.get R.ETH_CONTROL_SPEED t, d1.get R.ETH_CONTROL_FEC t, d1.get R.ETH_CONTROL_MEDIA t]
    if d1.on R.ETH_CONTROL_ENABLE t = false ∨ old ≠ now then ((d1.ethDown t 6).ethUnlock t true true).flag R.ETH_STATUS_AN_DONE t false else d1

/-- ETH_CONTROL. -/
def execEthControl (src : Source) (t : Nat) (w : Word) (s : State) : Host.Outcome State Fault Refusal :=
  dieCmd (decide (t < 16)) (writeDie src (blockAddr .ETH t 0x010) (ethControlW t w.toNat)) s

end Sys2Proof.Machine
end

