-- ==== Sys2Proof/Machine/Update.lean ====
section
/-! DEFINITION. Online update (R307 to R340, R353, R467 to R469): matching labels, batches, the phases of an update, the update lane's
operations, the flip and the export, and their commands. -/

namespace Sys2Proof.Machine

/-- An updatable image on its engine: engine, pasture, image, engine record, UPDATE header. -/
structure UpdCtx where
  e : Nat
  p : Nat
  im : Image
  ei : EngineImg
  u : UpdHdr

/-- The updatable image on engine e. -/
def Die.updCtx (d : Die) (e : Nat) : Option UpdCtx :=
  match d.updOwner e with
  | none => none
  | some p =>
    match d.image p with
    | none => none
    | some im =>
      match engOf im e, im.upd with
      | some ei, some u => if u.engine = e then some ⟨e, p, im, ei, u⟩ else none
      | _, _ => none

/-- A command of the update unit of engine e. -/
def updCmd (e : Nat) (f : Fused → UpdCtx → Die → Die) (s : State) : Host.Outcome State Fault Refusal :=
  dieCmd (decide (e < 8)) (fun s => match s.die.updCtx e with | some x => f s.fused x s.die | none => s.die) s

/-- The tiles of the updatable layers. -/
def UpdCtx.tiles (x : UpdCtx) : List Nat := (x.im.updRecs.flatMap (fun r => r.tiles.map (fun t => x.e * 512 + t.1 % 512))).eraseDups

/-- Configuration of a tile. -/
def UpdCtx.cfg (x : UpdCtx) (tile : Nat) : TileCfg := match tileImg x.ei tile with | some t => t.cfg | none => {}

/-- Number of updatable weights, and their keys in UPDATE record order and index j × K + i. -/
def UpdCtx.keys (x : UpdCtx) : List Nat := x.im.updRecs.flatMap (fun r => (List.range (r.j * r.k)).map (fun i => r.layer * 2 ^ 20 + i))

/-- An update operation's LAYER, NJ + 1, NI + 1 and ADDR (R327). -/
def uLayer (w : Nat) : Nat := fld w 10 8
/-- Outputs. -/
def uNj (w : Nat) : Nat := fld w 33 29 + 1
/-- Inputs. -/
def uNi (w : Nat) : Nat := fld w 28 21 + 1
/-- ADDR. -/
def uAddr (w : Nat) : Nat := fld w 20 11

/-- The operations a phase runs on a tile with their numbers in the pair, flush and optimise lists in turn (R320, R326): in the optimise
phase those of the block's layer but SWAP, in the swap phase the SWAPs. -/
def laneOps (c : TileCfg) (phase layer : Nat) : List (Nat × Nat) :=
  let number (base : Nat) (l : List OpWord) : List (Nat × Nat) := (List.range l.length).map (fun i => (base + i, (l.getD i 0).toNat))
  let n1 := c.pairList.length
  let n2 := c.flushList.length
  match phase with
  | 1 => number 0 c.pairList
  | 2 => number n1 c.flushList
  | 4 => (number (n1 + n2) c.optList).filter (fun y => opc y.2 != 39 && uLayer y.2 == layer)
  | 5 => (number (n1 + n2) c.optList).filter (fun y => opc y.2 == 39)
  | _ => []

/-- A layer's part on one tile. -/
structure TileLayer where
  r : UpdRec
  first : Nat
  beats : Nat
  j0 : Nat
  i0 : Nat
  dot : Nat

/-- The updatable layers a tile holds, in record order. -/
def UpdCtx.layers (x : UpdCtx) (tile : Nat) : List TileLayer :=
  x.im.updRecs.flatMap (fun r => (r.tiles.filter (fun t => t.1 % 512 == tile % 512)).map (fun t =>
    ⟨r, t.2.2.1, t.2.2.2.1, t.2.2.2.2.1, t.2.2.2.2.2,
      match (x.cfg tile).ctxs[t.2.1]? with | some c => opAt c r.dotIdx | none => 0⟩))

/-- The part of the layer an operation names. -/
def UpdCtx.layerOf (x : UpdCtx) (tile layer : Nat) : Option TileLayer := (x.layers tile).find? (fun y => y.r.layer == layer)

/-- The weight index j × K + i, and j and i on the tile, of the code at position n of the WEIGHT region (R186, R335); none for padding. -/
def TileLayer.weight (y : TileLayer) (n : Nat) : Option (Nat × Nat × Nat) :=
  let fw := y.r.wfmt
  let fa := fld y.dot 37 34
  let N := classN (pairWidth fw fa)
  let per := sliceBeats fw fa * epb fw
  let e := n % per
  let j := e / N
  let i := n / per * N + e % N
  if j ≤ fld y.dot 14 10 ∧ y.j0 + j < y.r.j ∧ y.i0 + i < y.r.k ∧ N ≠ 0 then some ((y.j0 + j) * y.r.k + y.i0 + i, j, i) else none

/-- Blocks of 16 codes a tile works through in the optimise phase. -/
def UpdCtx.blocks (x : UpdCtx) (tile : Nat) : List (TileLayer × Nat) :=
  ((x.layers tile).filter (fun y => !(laneOps (x.cfg tile) 4 y.r.layer).isEmpty)).flatMap (fun y =>
    (List.range (cdiv (y.beats * epb y.r.wfmt) 16)).map (fun b => (y, b)))

/-- A beat of an update buffer. -/
def Die.ub (d : Die) (tile buf b : Nat) : UbBeat := KMap.get {} (d.tile tile).ubs (buf * 8 + b)

/-- Put beats into an update buffer from its first. -/
def Die.setUb (tile buf : Nat) (l : List UbBeat) (d : Die) : Die :=
  (List.range l.length).foldl (fun d i => d.onTile tile (fun t => { t with ubs := KMap.set {} t.ubs (buf * 8 + i) (l.getD i {}) })) d

/-- PHASE of the update unit. -/
def Die.setPhase (e v : Nat) (d : Die) : Die := d.put R.UPD_STATUS_PHASE e v

/-- Change the update in progress. -/
def Die.onRun (e : Nat) (f : UpdRun → UpdRun) (d : Die) : Die := d.onUpd e (fun y => { y with run := y.run.map f })

/-- The UPDATE packet of an outcome, and vector 1 of the pasture (R550 type 4, R611). -/
def Die.updPacket (x : UpdCtx) (r : UpdRun) (outcome : Nat) (d : Die) : Die :=
  let d := d.trace ⟨4, true, 7, x.e, some x.p, leBytes 8 r.step ++ leBytes 8 r.flip ++ leBytes 8 r.digest ++ leBytes 8 (d.updSt x.e).wd
    ++ leBytes 4 r.pairs ++ leBytes 1 outcome⟩
  if d.on R.PAS_MSIX_UPD_EN x.p then d.emit (.msix x.p 1) else d

/-- Send a DIGEST of the weight digest in force for a flip step (R469). -/
def Die.sendDigest (x : UpdCtx) (step : Nat) (d : Die) : Die :=
  if x.u.flock then
    (d.onUpd x.e (fun y => { y with sentWd := KMap.set none y.sentWd step (some y.wd) })).sendUp 7 x.im.imageId (leBytes 8 step ++ leBytes 4 0 ++ leBytes 8 (d.updSt x.e).wd ++ leBytes 4 1 ++ List.replicate 36 0 ++ leBytes 4 0)
  else d

/-- The update in progress stops without a flip (R324); `frozen`: an error in a master or a moment. -/
def Die.updStop (x : UpdCtx) (frozen : Bool) (outcome : Nat) (d : Die) : Die :=
  match (d.updSt x.e).run with
  | none => d
  | some r =>
    let d := d.onUpd x.e (fun y => { y with run := none })
    let d := d.setPhase x.e (if (d.updSt x.e).pend.isSome then 6 else 0)
    let d := d.count (if outcome = 4 then T.UPD_UPD_LATE_COMMIT else T.UPD_UPD_ABANDON) x.e
    let d := if frozen then d.put R.UPD_STATUS_STATE x.e 3 else d
    let d := d.updPacket x r outcome
    if r.committed || outcome = 4 then d.sendDigest x r.flip else d

/-- Matched records of a step. -/
def UpdSt.matched (u : UpdSt) (s : Nat) : List CapRec := u.ring.filter (fun r => r.label.isSome && r.step == s)

/-- LABEL_MATCH (R317, R362): the oldest label. -/
def Die.labelMatch (x : UpdCtx) (d : Die) : Die :=
  let u := d.updSt x.e
  match u.labels with
  | [] => d
  | l :: rest =>
    let d := d.onUpd x.e (fun y => { y with labels := rest })
    let mine := u.ring.filter (fun r => r.evid == l.evid)
    let hit := match mine.find? (fun r => r.label.isNone) with | some r => some r | none => mine.head?
    match hit with
    | none => d.count T.UPD_LABEL_ORPHAN x.e
    | some r =>
      let v := sdiff 64 l.fc r.fc
      if v < 0 then d.count T.UPD_LABEL_ORPHAN x.e
      else if r.label.isSome then d.count T.UPD_LABEL_DUP x.e
      else if (x.u.w * 1000 : Nat) < v ∧ d.on R.FAB_REPLAY_ENABLE x.p = false then d.count T.UPD_LABEL_LATE x.e
      else if r.step < u.openFrom then d.count T.UPD_LABEL_LATE x.e
      else if x.u.maxb ≤ (u.matched r.step).length then d.count T.UPD_UPD_EXCESS x.e
      else d.onUpd x.e (fun y => { y with ring := y.ring.map (fun c =>
        if c.evid == l.evid && c.label.isNone then { c with label := some l.lanes } else c) })

/-- LABEL_MATCH. -/
def execLabelMatch (e : Nat) (s : State) : Host.Outcome State Fault Refusal := updCmd e (fun _ x d => d.labelMatch x) s

/-- CAP_EXPIRE (R318): the oldest unmatched record whose window has passed. -/
def Die.capExpire (x : UpdCtx) (d : Die) : Die :=
  let late (r : CapRec) : Bool := r.label.isNone && decide (((x.u.w * 1000 : Nat) : Int) < sdiff 64 d.fc r.fc)
  match (d.updSt x.e).ring.find? late with
  | some r => (d.onUpd x.e (fun y => { y with ring := y.ring.erase r })).count T.UPD_CAP_EXPIRE x.e
  | none => d

/-- CAP_EXPIRE. -/
def execCapExpire (e : Nat) (s : State) : Host.Outcome State Fault Refusal := updCmd e (fun _ x d => d.capExpire x) s

/-- The batch digest (R319). -/
def batchDigest (s : Nat) (ids : List Nat) : Nat := ids.foldl mix64 s

/-- A batch is skipped under PAUSE (R324): its records are freed. -/
def Die.skipBatch (x : UpdCtx) (s : Nat) (ids : List Nat) (d : Die) : Die :=
  let d := (d.onUpd x.e (fun y => { y with ring := y.ring.filter (fun r => !(r.label.isSome && r.step == s)) })).count T.UPD_UPD_SKIPPED x.e
  d.updPacket x { step := s, pairs := ids.length, digest := batchDigest s ids, flip := s + x.u.delay } 3

/-- Close the open batch of the lowest step (R319, R324). -/
def Die.closeBatch (x : UpdCtx) (d : Die) : Die :=
  let u := d.updSt x.e
  let s := u.openFrom
  let ids := sortBy (fun a b => decide (a ≤ b)) ((u.matched s).map (fun r => r.evid))
  let d := d.onUpd x.e (fun y => { y with openFrom := s + 1 })
  if d.on R.UPD_CONTROL_PAUSE x.e then d.skipBatch x s ids
  else if d.get R.UPD_STATUS_STATE x.e = 3 then d.onUpd x.e (fun y => { y with ring := y.ring.filter (fun r => !(r.label.isSome && r.step == s)) })
  else d.onUpd x.e (fun y => { y with queue := y.queue ++ [(s, ids)] })

/-- BATCH_CLOSE (R319): the boundary of step s + 1 + LAG has come at the update unit (R229); in a replay pasture only CLOSE closes. -/
def execBatchClose (e : Nat) (s : State) : Host.Outcome State Fault Refusal :=
  updCmd e (fun _ x d =>
    if d.on R.FAB_REPLAY_ENABLE x.p = false ∧ (d.updSt x.e).openFrom + 1 + x.u.lag ≤ (d.engPas x.e x.p).step then d.closeBatch x else d) s

/-- The beats of a pair: captured beats with tags, and the label beat as number 16 (R316, R320). -/
def pairBeat (c : CapRec) (n : Nat) : UbBeat :=
  if n = 16 then ⟨BitVec.ofNat 256 (beatOf (c.label.getD [])), 0, 0⟩ else ⟨c.beats.getD n 0, c.tags.getD n 0, 0⟩

/-- Deliver a pair to every tile (R320). -/
def Die.deliverPair (x : UpdCtx) (c : CapRec) (d : Die) : Die :=
  x.tiles.foldl (fun d t =>
    (x.cfg t).delivery.foldl (fun d y => d.onTile t (fun z => { z with ubs := KMap.set {} z.ubs (y.2.1 * 8 + y.2.2) (pairBeat c y.1) }))
      (d.onTile t (fun z => { z with lanePos := 0 }))) d

/-- Chunks of 19 weights (R456, R467). -/
def UpdCtx.chunks (x : UpdCtx) : Nat := cdiv x.keys.length 19

/-- 12 bytes of an s96 sum. -/
def s96Bytes (v : Int) : List Byte := leBytes 12 (low v 96)

/-- The flush phase ends and the reduce phase begins: a flock member that is not expelled sends its sums (R320, R467, R471). -/
def Die.enterReduce (x : UpdCtx) (d : Die) : Die :=
  let d := d.setPhase x.e 3
  match (d.updSt x.e).run with
  | some r =>
    if x.u.flock && !(bit (d.pair64 R.FLK_EXPELLED_LO R.FLK_EXPELLED_HI) x.p) then
      (List.range x.chunks).foldl (fun d k =>
        d.sendUp 4 x.im.imageId (leBytes 8 r.step ++ leBytes 4 k
          ++ padTo 228 (((x.keys.drop (19 * k)).take 19).flatMap (fun w => s96Bytes (KMap.get 0 (d.updSt x.e).sums w))))) d
    else d
  | none => d

/-- The flush phase begins. -/
def Die.enterFlush (x : UpdCtx) (d : Die) : Die :=
  let d := x.tiles.foldl (fun d t => d.onTile t (fun z => { z with lanePos := 0 })) (d.setPhase x.e 2)
  if x.tiles.all (fun t => (laneOps (x.cfg t) 2 0).isEmpty) then d.enterReduce x else d

/-- The next pair of the pair phase, whose records are freed as they are read (R318, R320); an uncorrectable error in the ring marks the
record poisoned (R314, R509). -/
def Die.nextPair (fu : Fused) (x : UpdCtx) : List CapRec → Die → Die
  | [], d => (d.onRun x.e (fun r => { r with todo := [], cur := none })).enterFlush x
  | c :: rest, d =>
    let d := d.onUpd x.e (fun y => { y with ring := y.ring.erase c, run := y.run.map (fun r => { r with todo := rest, cur := some c }) })
    let rd := d.eccRead fu 8 (capLoc x.e c.evid) none (some x.p)
    let d := rd.2.eccClear 8 (capLoc x.e c.evid)
    if c.poison || rd.1 then Die.nextPair fu x rest (d.count T.UPD_PAIR_POISON x.e)
    else
      let d := d.deliverPair x c
      if x.tiles.all (fun t => (laneOps (x.cfg t) 1 0).isEmpty) then Die.nextPair fu x rest d else d

/-- UPDATE_BEGIN (R320, R324): the oldest closed batch, once no update is before its flip wait; its pairs in ascending event ID, each record once.
The accumulators and sums start anew. -/
def Die.updateBegin (fu : Fused) (x : UpdCtx) (d : Die) : Die :=
  let u := d.updSt x.e
  match u.queue, u.run with
  | (s, ids) :: rest, none =>
    if d.get R.UPD_STATUS_STATE x.e = 3 then d
    else
      let recs := sortBy (fun a b => decide (a.evid ≤ b.evid)) (u.matched s)
      let r : UpdRun := { step := s, pairs := ids.length, digest := batchDigest s ids, flip := s + x.u.delay, committed := !x.u.flock }
      let d := (d.onUpd x.e (fun y => { y with queue := rest, run := some r, sums := [] })).put R.UPD_BATCH_PAIRS x.e ids.length
      let d := x.tiles.foldl (fun d t =>
        (d.onTile t (fun z => { z with acc := [], codes := [], block := 0, swapped := [] })).eccClean (eccKey 10 (tsLoc t 0)) (eccKey 10 (tsLoc (t + 1) 0))) d
      let d := x.keys.foldl (fun d k => d.eccClear 9 (updLoc x.e k)) d
      (d.setPhase x.e 1).nextPair fu x recs
  | _, _ => d

/-- UPDATE_BEGIN. -/
def execUpdateBegin (e : Nat) (s : State) : Host.Outcome State Fault Refusal := updCmd e (fun fu x d => d.updateBegin fu x) s

/-- A state beat's half (R333). -/
def stateHalf (u : UpdSt) (key : Nat) : Nat :=
  let m := KMap.get (0, 0) u.moments key
  low (KMap.get 0 u.sums key) 96 + KMap.get 0 u.masters key * 2 ^ 96 + m.1 * 2 ^ 112 + m.2 * 2 ^ 120

/-- Key of a block's moment exponents. -/
def expKey (tile layer b : Nat) : Nat := (layer * 512 + tile % 512) * 2 ^ 20 + b

/-- Moment exponents of a block: those it was last written with, else the tensor bases. -/
def UpdSt.expOf (u : UpdSt) (tile layer b : Nat) : Int × Int :=
  match u.exps.find? (fun y => y.1 == expKey tile layer b) with | some y => y.2 | none => KMap.get (0, 0) u.bases layer

/-- The keys of a block's 16 weights. -/
def TileLayer.blockKeys (y : TileLayer) (b : Nat) : List (Option (Nat × Nat × Nat)) := (List.range 16).map (fun i => y.weight (16 * b + i))

/-- Write the state beats of a tile's present block into its buffers, or stop on an error in a master or moment (R320, R324, R333). -/
def Die.deliverBlock (fu : Fused) (x : UpdCtx) (tile : Nat) (d : Die) : Die :=
  match (x.blocks tile)[(d.tile tile).block]? with
  | none => d
  | some (y, b) =>
    let ks := y.blockKeys b
    let locs := ks.filterMap (fun k => k.map (fun v => updLoc x.e (y.r.layer * 2 ^ 20 + v.1) + 1))
    let r := d.eccReadAll fu 9 none (some x.p) locs
    if r.1 then r.2.updStop x true 2
    else
      let u := r.2.updSt x.e
      let t := u.expOf tile y.r.layer b
      let half (i : Nat) : Nat := match ks.getD i none with | some v => stateHalf u (y.r.layer * 2 ^ 20 + v.1) | none => 0
      let buf := match (laneOps (x.cfg tile) 4 y.r.layer) with | o :: _ => fld o.2 39 38 | [] => 0
      r.2.setUb tile buf ((List.range 8).map (fun i => ⟨BitVec.ofNat 256 (half (2 * i) + half (2 * i + 1) * 2 ^ 128), t.1, t.2⟩))

/-- The optimise phase has gone through every block: new tensor bases, and the swap phase waits (R320, R334). -/
def Die.optimiseEnd (x : UpdCtx) (d : Die) : Die :=
  let u := d.updSt x.e
  let bases := x.im.updRecs.foldl (fun m r =>
    match (u.exps.filter (fun y => decide (y.1 / 2 ^ 29 = r.layer))).map (fun y => y.2) with
    | [] => m
    | z :: zs => KMap.set (0, 0) m r.layer (zs.foldl (fun a q => max a q.1) z.1 - 15, zs.foldl (fun a q => max a q.2) z.2 - 15)) u.bases
  (d.onUpd x.e (fun y => { y with bases := bases })).setPhase x.e 5

/-- REDUCE_DONE (R320, R324, R468): at once for a local update, else with every TOTAL and the COMMIT. -/
def Die.reduceDone (fu : Fused) (x : UpdCtx) (d : Die) : Die :=
  match (d.updSt x.e).run with
  | some r =>
    if d.get R.UPD_STATUS_PHASE x.e = 3 ∧ r.committed ∧ (x.u.flock = false ∨ (List.range x.chunks).all r.chunks.contains) then
      let b := d.eccReadAll fu 9 none (some x.p) (x.keys.map (updLoc x.e))
      if b.1 then b.2.updStop x false 2
      else
        let d := x.tiles.foldl (fun d t => (d.onTile t (fun z => { z with lanePos := 0, block := 0 })).deliverBlock fu x t) (b.2.setPhase x.e 4)
        if x.tiles.all (fun t => (x.blocks t).isEmpty) then d.optimiseEnd x else d
    else d
  | none => d

/-- REDUCE_DONE. -/
def execReduceDone (e : Nat) (s : State) : Host.Outcome State Fault Refusal := updCmd e (fun fu x d => d.reduceDone fu x) s

/-- The swap phase is complete (R320, R353): the update waits for its flip. -/
def Die.swapEnd (x : UpdCtx) (d : Die) : Die :=
  match (d.updSt x.e).run with
  | some r =>
    let wd := d.weightDigest x.e x.im r.flip (1 - (d.updSt x.e).bank)
    (d.onUpd x.e (fun y => { y with run := none, pend := some { r with wd := wd } })).setPhase x.e 6
  | none => d

/-- SWAP runs an operation needs on a tile. -/
def UpdCtx.swapRuns (x : UpdCtx) (tile w : Nat) : Nat :=
  match x.layerOf tile (uLayer w) with | some y => cdiv y.beats (uNi w) | none => 0

/-- Every SWAP of a tile has run. -/
def Die.swapsDone (x : UpdCtx) (tile : Nat) (d : Die) : Bool :=
  (laneOps (x.cfg tile) 5 0).all (fun o => decide (x.swapRuns tile o.2 ≤ KMap.get 0 (d.tile tile).swapped (uLayer o.2)))

/-- SWAP_PHASE_BEGIN (R320): the previous update has flipped, and no event in flight reads the bank to be written. -/
def Die.swapBegin (x : UpdCtx) (d : Die) : Die :=
  let u := d.updSt x.e
  match u.run with
  | some r =>
    let g := d.engPas x.e x.p
    if d.get R.UPD_STATUS_PHASE x.e = 5 ∧ r.swapping = false ∧ u.pend.isNone ∧ g.flight.all (fun sl => (KMap.get {} g.slots sl).wb == u.bank) then
      let d := d.onRun x.e (fun y => { y with swapping := true })
      if x.tiles.all (fun t => d.swapsDone x t) then d.swapEnd x else d
    else d
  | none => d

/-- SWAP_PHASE_BEGIN. -/
def execSwapPhaseBegin (e : Nat) (s : State) : Host.Outcome State Fault Refusal := updCmd e (fun _ x d => d.swapBegin x) s

/-- UPDATE_FLIP (R311, R353, R469): the next event at the entry is of the flip step or later. -/
def Die.updateFlip (x : UpdCtx) (d : Die) : Die :=
  match (d.updSt x.e).pend, stepN x.ei with
  | some r, some n =>
    if r.flip ≤ x.im.stepBase.toNat + (d.engPas x.e x.p).index / n then
      let d := d.onUpd x.e (fun y => { y with pend := none, bank := 1 - y.bank, wd := r.wd })
      let d := (d.put R.UPD_STATUS_BANK x.e (d.updSt x.e).bank).putPair R.UPD_FLIP_STEP_LO R.UPD_FLIP_STEP_HI x.e r.flip
      let d := (d.putPair R.UPD_WDIGEST_LO R.UPD_WDIGEST_HI x.e r.wd).count T.UPD_UPDATES x.e
      let d := if (d.updSt x.e).run.isNone then d.setPhase x.e 0 else d
      (d.updPacket x r 1).sendDigest x r.flip
    else d
  | _, _ => d

/-- UPDATE_FLIP. -/
def execUpdateFlip (e : Nat) (s : State) : Host.Outcome State Fault Refusal := updCmd e (fun _ x d => d.updateFlip x) s

/-- neg32 (R330). -/
def neg32 (v : Nat) : Nat := if v = 0 then 0 else Nat.xor v (2 ^ 31)

/-- narrow (R329): code beats with T0, counting lanes narrowed to zero. -/
def narrow (vs : List Nat) : Num (List UbBeat) :=
  Num.seq (Num.all norm32 vs) (fun vs =>
    let blocks := (List.range (cdiv vs.length 32)).map (fun b => (vs.drop (32 * b)).take 32)
    let ebs := blocks.map (fun b =>
      let a := (b.map (fun v => v % 2 ^ 31)).foldl max 0
      if a = 0 then none else some (needExp (decode32 a {}).1 57344))
    let xg : Int := match ebs.filterMap (fun y => y) with | [] => 0 | z :: zs => zs.foldl max z - 15
    Num.all (fun (y : List Nat × Option Int) =>
      let t0 := xg + max 0 (y.2.getD (-32768) - xg)
      Num.seq (Num.all (fun v => Num.seq (decode32 v) (fun o => qfloat 9 o.s o.m (o.x - t0))) y.1) (fun cs =>
        Num.ret ⟨BitVec.ofNat 256 (cs.foldr (fun c a => c.1 + a * 256) 0), t0, 0⟩)) (blocks.zip ebs))

/-- A firing of the update lane: tile, word. -/
structure UFire where
  x : UpdCtx
  tile : Nat
  w : Nat
  y : TileLayer

/-- A raw beat of the tile store for an update operation. -/
def UFire.raw (f : UFire) (d : Die) : Nat → Nat := d.beat f.tile

/-- GRAD DIFF (R330). -/
def gradDiff (_ : Fused) (f : UFire) (d : Die) : Bool × Die :=
  let a := (d.ub f.tile (fld f.w 39 38) 0).data.toNat
  let b := (d.ub f.tile (fld f.w 37 36) 0).data.toNat
  let v := Num.seq (Num.all (fun j => Num.seq (norm32 (lane a j)) (fun p => Num.seq (norm32 (lane b j)) (fun q => add32 p (neg32 q))))
    (List.range (uNj f.w))) (fun ds t => (fun r => (r.1, { t with under := r.2.under })) (narrow ds {})) {}
  (false, ((d.setUb f.tile (fld f.w 35 34) v.1).countBy T.UPD_GRAD_UNDER f.x.e v.2.under).countBy T.FAB_CODE_SPECIAL f.x.p v.2.special)

/-- Element i of codes of a format laid over a buffer's beats, with the scale tag of its beat. -/
def Die.ubCode (d : Die) (tile buf fmt i : Nat) : Xop × Int :=
  let b := d.ub tile buf (i / epb fmt)
  ((expand fmt (elem b.data.toNat (fmtWidth fmt) (i % epb fmt)) 0 {}).1, b.t0)

/-- Replacements of R159 among the first n codes of a format laid over a buffer's beats. -/
def Die.ubSpecial (d : Die) (tile buf fmt n : Nat) : Nat :=
  (Num.all (fun i => expand fmt (elem (d.ub tile buf (i / epb fmt)).data.toNat (fmtWidth fmt) (i % epb fmt)) 0) (List.range n) {}).2.special

/-- The weight part of combined_scale for output j on the tile and group k (R243, R330). -/
def weightScale (raw : Nat → Nat) (saddr j k : Nat) : Nat × Int :=
  let e := tsHalf raw (scaleAt raw saddr 0 (bits (raw saddr) 24 8 + j) k).entry
  (bits e 0 8, sext (bits (raw saddr) 0 16) 16 + (bits e 8 4 : Nat))

/-- The beats of a scale block that the weight parts of some outputs and groups stand in (R242, R243). -/
def scaleReads (raw : Nat → Nat) (saddr : Nat) (js ks : List Nat) : List Nat :=
  saddr :: (js.flatMap (fun j => ks.map (fun k => (scaleAt raw saddr 0 (bits (raw saddr) 24 8 + j) k).entry / 32))).eraseDups

/-- An exact sum of signed products of powers of two, as an integer and its exponent. -/
def exactSum (ts : List (Int × Int)) : Int × Int :=
  match ts.filter (fun t => t.1 != 0) with
  | [] => (0, 0)
  | t :: rest =>
    let e := rest.foldl (fun a y => min a y.2) t.2
    ((t :: rest).foldl (fun a y => a + y.1 * (2 : Int) ^ (y.2 - e).toNat) 0, e)

/-- GRAD BACK (R330). -/
def gradBack (fu : Fused) (f : UFire) (d : Die) : Bool × Die :=
  let w := f.w
  let ua := fld w 39 38
  let wb := match (d.updSt f.x.e).run with | some r => (match r.cur with | some c => c.wb | none => 0) | none => 0
  let boff := wb * f.y.r.boff
  let g := max 1 f.y.r.g
  let rd := d.readStore fu f.x.im f.x.p f.tile (dotReads f.y.dot boff
    ++ scaleReads (f.raw d) (uAddr w) (List.range (uNj w)) (List.range (cdiv (uNi w) g)))
  let d := rd.2
  let raw := f.raw d
  let ws := (dotWeights raw f.y.dot boff {}).1
  let v := Num.seq (Num.all (fun i =>
    let gate := bit w 7 && (let c := (d.ubCode f.tile (fld w 37 36) f.y.r.afmt i).1; c.s || c.m == 0)
    let ts := (List.range (uNj w)).map (fun j =>
      let o := (ws.getD j []).getD i {}
      let sc := weightScale raw (uAddr w) j (i / g)
      let dl := d.ubCode f.tile ua 9 j
      (signed (o.s != dl.1.s) (o.m * sc.1 * dl.1.m), o.x + sc.2 + dl.1.x + dl.2))
    let s := exactSum ts
    if gate ∨ s.1 = 0 then Num.ret 0 else roundInt s.1 s.2) (List.range (uNi w)))
    (fun ys t => (fun r => (r.1, { t with under := r.2.under })) (narrow ys {})) {}
  let special := (Num.all (fun j => Num.all (dotWeight raw f.y.dot boff j) (List.range (uNi w))) (List.range (uNj w)) {}).2.special
    + d.ubSpecial f.tile ua 9 (uNj w) + (if bit w 7 then d.ubSpecial f.tile (fld w 37 36) f.y.r.afmt (uNi w) else 0) + v.2.special
  (rd.1, if rd.1 then d else ((d.setUb f.tile (fld w 35 34) v.1).countBy T.UPD_GRAD_UNDER f.x.e v.2.under).countBy T.FAB_CODE_SPECIAL f.x.p special)

/-- The term of LACC ACCUM for one δ and one activation, and whether it was clipped (R331). -/
def laccTerm (dl a : Xop × Int) (ql : Int) : Int × Bool :=
  let p := dl.1.m * a.1.m
  let e := dl.1.x + dl.2 + a.1.x + a.2 - ql
  if p = 0 then (0, false)
  else
    let t := if 0 ≤ e then p * 2 ^ (min e 64).toNat else (rint false p e).toNat
    (signed (dl.1.s != a.1.s) (min t (2 ^ 60 - 1)), decide (2 ^ 60 - 1 < t))

/-- LACC ACCUM (R331). -/
def laccAccum (fu : Fused) (f : UFire) (d : Die) : Bool × Die :=
  let w := f.w
  let ni := uNi w
  let n := uNj w * ni
  let rd := d.eccReadAll fu 10 (some f.tile) (some f.x.p) ((span (uAddr w) (uAddr w + n)).map (tsLoc f.tile))
  if rd.1 then rd
  else
    let special := d.ubSpecial f.tile (fld w 39 38) 9 (uNj w) + d.ubSpecial f.tile (fld w 37 36) f.y.r.afmt ni
    (false, (List.range n).foldl (fun d k =>
      let t := laccTerm (d.ubCode f.tile (fld w 39 38) 9 (k / ni)) (d.ubCode f.tile (fld w 37 36) f.y.r.afmt (k % ni)) f.y.r.ql
      let d := d.onTile f.tile (fun z => { z with acc := KMap.upd 0 z.acc (uAddr w + k) (· + t.1) })
      if t.2 then d.count T.UPD_LACC_CLIP f.x.e else d) (rd.2.countBy T.FAB_CODE_SPECIAL f.x.p special))

/-- LACC FLUSH (R331). -/
def laccFlush (fu : Fused) (f : UFire) (d : Die) : Bool × Die :=
  let w := f.w
  let ni := uNi w
  let n := uNj w * ni
  let rd := d.eccReadAll fu 10 (some f.tile) (some f.x.p) ((span (uAddr w) (uAddr w + n)).map (tsLoc f.tile))
  if rd.1 then rd
  else
    (false, (List.range n).foldl (fun d k =>
      let key := f.y.r.layer * 2 ^ 20 + (f.y.j0 + k / ni) * f.y.r.k + f.y.i0 + k % ni
      let v := KMap.get 0 (d.tile f.tile).acc (uAddr w + k)
      let d := (d.onTile f.tile (fun z => { z with acc := KMap.set 0 z.acc (uAddr w + k) 0 })).eccClear 10 (tsLoc f.tile (uAddr w + k))
      d.onUpd f.x.e (fun u => { u with sums := KMap.upd 0 u.sums key (· + v) })) rd.2)

/-- One weight's new master, moments and saturations under OPTM before the moments are narrowed (R333): master code, m, v. -/
def optmWeight (r : UpdRec) (half : Nat) (t0 t1 : Int) : Num ((Nat × Nat × Nat) × Nat) :=
  let A := sext (bits half 0 96) 96
  let g := if A = 0 then 0 else (roundInt A r.ql {}).1
  let w := bits half 96 16 * 2 ^ 16
  let mom (c : Nat) (t : Int) : Num Nat := Num.seq (expand 8 c 0) (fun o => round32 o.s o.m (o.x + t))
  let done (w m v : Nat) : Num ((Nat × Nat × Nat) × Nat) := let q := round16 w; Num.ret ((q.1, m, v), b2n q.2)
  Num.seq (mom (bits half 112 8) t0) (fun m => Num.seq (mom (bits half 120 8) t1) (fun v =>
    if r.opt = 0 then
      Num.seq (mul32 r.b1.toNat m) (fun a => Num.seq (add32 a g) (fun m =>
        Num.seq (mul32 r.nlr.toNat m) (fun b => Num.seq (add32 w b) (fun w => done w m v))))
    else
      Num.seq (mul32 r.b1.toNat m) (fun a => Num.seq (mul32 r.c1.toNat g) (fun b => Num.seq (add32 a b) (fun m =>
        Num.seq (mul32 r.b2.toNat v) (fun a => Num.seq (mul32 g g) (fun h => Num.seq (mul32 r.c2.toNat h) (fun b => Num.seq (add32 a b) (fun v =>
          Num.seq (add32 v r.eps.toNat) (fun a => Num.seq (rsqrt32 a) (fun b => Num.seq (mul32 m b) (fun b => Num.seq (mul32 r.nlr.toNat b) (fun b =>
            Num.seq (add32 w b) (fun w => done w m v))))))))))))))

/-- Narrow 16 moments to E4M3 against a tensor base (R334): codes, the block exponent, clips. -/
def narrowMoment (xm : Int) (vs : List Nat) : List Nat × Int × Nat :=
  let a := (vs.map (fun v => v % 2 ^ 31)).foldl max 0
  let t := if a = 0 then xm else max xm (min (xm + 15) (needExp (decode32 a {}).1 448))
  let r := Num.all (fun v => Num.seq (decode32 v) (fun o => qfloat 8 o.s o.m (o.x - t))) vs {}
  (r.1.map (fun c => c.1), t, r.2.clip)

/-- OPTM (R333, R334). -/
def optm (_ : Fused) (f : UFire) (d : Die) : Bool × Die :=
  let bs := (List.range 8).map (fun i => d.ub f.tile (fld f.w 39 38) i)
  let t0 := (bs.headD {}).t0
  let t1 := (bs.headD {}).t1
  let halves := bs.flatMap (fun b => [b.data.toNat % 2 ^ 128, b.data.toNat / 2 ^ 128])
  let all := Num.all (fun h => Num.seq (optmWeight f.y.r h t0 t1) (fun r => Num.ret (h, r))) halves {}
  let rs := all.1
  let base := KMap.get (0, 0) (d.updSt f.x.e).bases f.y.r.layer
  let ms := narrowMoment base.1 (rs.map (fun r => r.2.1.2.1))
  let vs := narrowMoment base.2 (rs.map (fun r => r.2.1.2.2))
  let half (i : Nat) : Nat :=
    match rs[i]? with
    | some r => r.1 % 2 ^ 96 + r.2.1.1 * 2 ^ 96 + ms.1.getD i 0 * 2 ^ 112 + vs.1.getD i 0 * 2 ^ 120
    | none => 0
  let d := d.setUb f.tile (fld f.w 35 34) ((List.range 8).map (fun i => ⟨BitVec.ofNat 256 (half (2 * i) + half (2 * i + 1) * 2 ^ 128), ms.2.1, vs.2.1⟩))
  (false, (d.countBy T.UPD_OPT_SAT f.x.e ((rs.map (fun r => r.2.2)).sum + ms.2.2 + vs.2.2)).countBy T.FAB_CODE_SPECIAL f.x.p all.2.special)

/-- SRQ (R335): codes appended to the assembly beats, state beats returned to the update store. -/
def srqOp (fu : Fused) (f : UFire) (d : Die) : Bool × Die :=
  let n := match (f.x.blocks f.tile)[(d.tile f.tile).block]? with | some y => y.2 | none => 0
  let ks := f.y.blockKeys n
  let rd := d.readStore fu f.x.im f.x.p f.tile ((ks.filterMap id).flatMap (fun k =>
    scaleReads (f.raw d) (uAddr f.w) [k.2.1] [k.2.2 / max 1 f.y.r.g])).eraseDups
  if rd.1 then rd
  else
    let d := rd.2
    let raw := f.raw d
    let step := match (d.updSt f.x.e).run with | some r => r.step | none => 0
    let t := d.ub f.tile (fld f.w 39 38) 0
    let d := d.onUpd f.x.e (fun u => { u with exps := KMap.insert u.exps (expKey f.tile f.y.r.layer n) (t.t0, t.t1) })
    (false, (List.range 16).foldl (fun d i =>
      let bt := (d.ub f.tile (fld f.w 39 38) (i / 2)).data.toNat
      let half := if i % 2 = 0 then bt % 2 ^ 128 else bt / 2 ^ 128
      match ks.getD i none with
      | none => d.onTile f.tile (fun z => { z with codes := z.codes ++ [(f.y.r.layer, 0)] })
      | some k =>
        let sc := weightScale raw (uAddr f.w) k.2.1 (k.2.2 / max 1 f.y.r.g)
        let c := srq (bits half 96 16) sc.1 sc.2 f.y.r.wfmt (srBits f.x.u.seed step f.y.r.tensor k.1)
        let key := f.y.r.layer * 2 ^ 20 + k.1
        let d := d.onTile f.tile (fun z => { z with codes := z.codes ++ [(f.y.r.layer, c.1)] })
        let d := d.onUpd f.x.e (fun u => { u with
          masters := KMap.set 0 u.masters key (bits half 96 16)
          moments := KMap.set (0, 0) u.moments key (bits half 112 8, bits half 120 8) })
        let d := (d.eccClear 9 (updLoc f.x.e key + 1)).countBy T.FAB_CODE_SPECIAL f.x.p (expand 10 (bits half 96 16) 0 {}).2.special
        if c.2 then d.count T.UPD_SRQ_CLIP f.x.e else d) d)

/-- SWAP (R335): the next complete beats of codes into the inactive bank. -/
def swapOp (_ : Fused) (f : UFire) (d : Die) : Bool × Die :=
  let layer := f.y.r.layer
  let k := KMap.get 0 (d.tile f.tile).swapped layer
  let per := epb f.y.r.wfmt
  let wd := fmtWidth f.y.r.wfmt
  let codes := ((d.tile f.tile).codes.filter (fun c => c.1 == layer)).map (fun c => c.2)
  let n := min (uNi f.w) (f.y.beats - k * uNi f.w)
  let first := uAddr f.w + k * uNi f.w + (1 - (d.updSt f.x.e).bank) * f.y.r.boff
  let d := (List.range n).foldl (fun d i =>
    let cs := (codes.drop ((k * uNi f.w + i) * per)).take per
    d.putBeat f.tile (first + i) (cs.foldr (fun c a => c + a * 2 ^ wd) 0) false) d
  (false, d.onTile f.tile (fun z => { z with swapped := KMap.upd 0 z.swapped layer (· + 1) }))

/-- What follows an operation of the update lane (R320): the tile's next operation, block or pair, or the next phase. -/
def Die.laneNext (fu : Fused) (x : UpdCtx) (tile phase : Nat) (d : Die) : Die :=
  let d := if phase = 5 then d else d.onTile tile (fun z => { z with lanePos := z.lanePos + 1 })
  let at_ (t : Nat) : Bool := decide ((laneOps (x.cfg t) phase 0).length ≤ (d.tile t).lanePos)
  match phase with
  | 1 => if x.tiles.all at_ then (match (d.updSt x.e).run with | some r => d.nextPair fu x r.todo | none => d) else d
  | 2 => if x.tiles.all at_ then d.enterReduce x else d
  | 4 =>
    match (x.blocks tile)[(d.tile tile).block]? with
    | none => d
    | some (y, _) =>
      if (laneOps (x.cfg tile) 4 y.r.layer).length ≤ (d.tile tile).lanePos then
        let d := (d.onTile tile (fun z => { z with lanePos := 0, block := z.block + 1 })).deliverBlock fu x tile
        if x.tiles.all (fun t => decide ((x.blocks t).length ≤ (d.tile t).block)) then d.optimiseEnd x else d
      else d
  | _ => if x.tiles.all (fun t => d.swapsDone x t) then d.swapEnd x else d

/-- The operation the update lane of a tile runs next: its number, word, layer, and the phase. -/
def Die.laneHead (x : UpdCtx) (tile : Nat) (d : Die) : Option (Nat × UFire × Nat) :=
  let phase := d.get R.UPD_STATUS_PHASE x.e
  let t := d.tile tile
  let layer := match (x.blocks tile)[t.block]? with | some y => y.1.r.layer | none => 8
  let o :=
    if phase = 5 then (laneOps (x.cfg tile) 5 0).find? (fun o => decide (KMap.get 0 t.swapped (uLayer o.2) < x.swapRuns tile o.2))
    else (laneOps (x.cfg tile) phase layer)[t.lanePos]?
  match o, (d.updSt x.e).run with
  | some o, some r => if phase = 5 ∧ r.swapping = false then none else (x.layerOf tile (uLayer o.2)).map (fun y => (o.1, ⟨x, tile, o.2, y⟩, phase))
  | _, _ => none

/-- A command of the update lane: operation `op` of the tile's lists, if it is the one the lane runs next and `sel` takes it. A fault of
its operands stops the update (R324, R336). -/
def laneCmd (sel : Nat → Bool) (g : Fused → UFire → Die → Bool × Die) (tile op : Nat) (s : State) : Host.Outcome State Fault Refusal :=
  dieCmd (decide (tile < 4096) && decide (tile % 32 < 24)) (fun s =>
    let d := s.die
    match d.updCtx (tileEng tile) with
    | none => d
    | some x =>
      match d.laneHead x tile with
      | none => d
      | some (i, f, phase) =>
        if i = op ∧ sel f.w = true ∧ x.tiles.contains tile then
          let r := g s.fused f d
          if r.1 then r.2.updStop x false 2 else r.2.laneNext s.fused x tile phase
        else d) s

/-- GRAD DIFF. -/
def execUGradDiff (tile op : Nat) (s : State) : Host.Outcome State Fault Refusal :=
  laneCmd (fun w => opc w == 36 && fld w 41 40 == 0) gradDiff tile op s
/-- GRAD BACK. -/
def execUGradBack (tile op : Nat) (s : State) : Host.Outcome State Fault Refusal :=
  laneCmd (fun w => opc w == 36 && fld w 41 40 == 1) gradBack tile op s
/-- LACC ACCUM. -/
def execULaccAccum (tile op : Nat) (s : State) : Host.Outcome State Fault Refusal :=
  laneCmd (fun w => opc w == 40 && fld w 41 40 == 0) laccAccum tile op s
/-- LACC FLUSH. -/
def execULaccFlush (tile op : Nat) (s : State) : Host.Outcome State Fault Refusal :=
  laneCmd (fun w => opc w == 40 && fld w 41 40 == 1) laccFlush tile op s
/-- OPTM. -/
def execUOptm (tile op : Nat) (s : State) : Host.Outcome State Fault Refusal := laneCmd (fun w => opc w == 37) optm tile op s
/-- SRQ. -/
def execUSrq (tile op : Nat) (s : State) : Host.Outcome State Fault Refusal := laneCmd (fun w => opc w == 38) srqOp tile op s
/-- SWAP. -/
def execUSwap (tile op : Nat) (s : State) : Host.Outcome State Fault Refusal := laneCmd (fun w => opc w == 39) swapOp tile op s

/-- A write of UPD_CONTROL (R324, R339): PAUSE skips the batches that wait, EXPORT begins a copy of the masters. -/
def updControlW (src : Source) (e w : Nat) (d : Die) : Die :=
  let was := d.on R.UPD_CONTROL_PAUSE e
  let d := d.setFields .UPD e 0x010 w
  let paused := d.on R.UPD_CONTROL_PAUSE e
  let st := d.get R.UPD_STATUS_STATE e
  let d := if st = 1 ∨ st = 2 then d.put R.UPD_STATUS_STATE e (if paused then 2 else 1) else d
  let d := match d.updCtx e with
    | some x =>
      if paused && !was then
        let q := (d.updSt e).queue
        q.foldl (fun d b => d.skipBatch x b.1 b.2) (d.onUpd e (fun y => { y with queue := [] }))
      else d
    | none => d
  if bit w 1 then
    match d.updCtx e with
    | none => d
    | some _ =>
      if d.on R.UPD_STATUS_EXPORT_BUSY e then d
      else if paused = false ∨ d.get R.UPD_STATUS_PHASE e ≠ 0 then d.put R.UPD_STATUS_EXPORT_RESULT e 2
      else (d.flag R.UPD_STATUS_EXPORT_BUSY e true).onUpd e (fun y => { y with exportFn := match src with | .vf p => vfFn p | _ => 0 })
  else d

/-- UPD_EXPORT. -/
def execUpdExport (src : Source) (e : Nat) (w : Word) (s : State) : Host.Outcome State Fault Refusal :=
  dieCmd (decide (e < 8)) (writeDie src (blockAddr .UPD e 0x010) (updControlW src e w.toNat)) s

/-- EXPORT_DONE (R339): the copy is in host memory, or its write failed. -/
def execExportDone (e : Nat) (ok : Bool) (s : State) : Host.Outcome State Fault Refusal :=
  updCmd e (fun _ x d =>
    if d.on R.UPD_STATUS_EXPORT_BUSY e then
      let d := d.flag R.UPD_STATUS_EXPORT_BUSY e false
      if ok then
        let u := d.updSt e
        let a := d.get R.UPD_EXPORT_LO e / 64 * 64 + d.get R.UPD_EXPORT_HI e * 2 ^ 32
        (d.hostWrite u.exportFn a (x.keys.flatMap (fun k => leBytes 2 (KMap.get 0 u.masters k)))).put R.UPD_STATUS_EXPORT_RESULT e 1
      else d.put R.UPD_STATUS_EXPORT_RESULT e 3
    else d) s

end Sys2Proof.Machine
end

