-- ==== Sys2Proof/Machine/Flock.lean ====
section
/-! DEFINITION. The flock (R427, R452 to R476, R616): S frames on lanes, joining, SYNC and the flock count, reductions, digests, verdicts,
flock-wide actions, takeover, and their commands. -/

namespace Sys2Proof.Machine

/-- The oldest message of a class on a lane, if it is of a type. -/
def Die.msgOf (d : Die) (l cls type : Nat) : Option (List Byte) :=
  match ((d.lane l).rel cls).buf with
  | m :: _ => if (byteAt m 0).toNat = type then some m else none
  | [] => none

/-- Take the oldest message of a class on a lane. -/
def Die.dropMsg (l cls : Nat) (d : Die) : Die := d.onLane l (Lane.onRel cls (fun x => { x with buf := x.buf.drop 1 }))

/-- Image ID and body of a message (R456). -/
def msgImage (m : List Byte) : Nat := leNat (slice m 4 4)
/-- Body. -/
def msgBody (m : List Byte) : List Byte := m.drop 8
/-- EPOCH. -/
def msgEpoch (m : List Byte) : Nat := leNat (slice m 2 2)

/-- A command that takes the oldest message of a class and type from a lane: from the parent link if `down`, else from a child's; one
from another link is discarded and counted (R456). -/
def msgCmd (down : Bool) (cls type l : Nat) (f : List Byte → State → State) (s : State) : Host.Outcome State Fault Refusal :=
  guardU (decide (l < 64)) (match s.die.msgOf l cls type with
    | none => s
    | some m =>
      let d := s.die.dropMsg l cls
      if (if down then d.parentLanes.contains l else d.childLanes.contains l) then f m { s with die := d }
      else { s with die := d.count T.FLK_MSG_BAD 0 })

/-- Forward a downward message to every child (R456). -/
def Die.forward (cls : Nat) (m : List Byte) (d : Die) : Die := if d.role = 2 ∨ d.role = 3 then d.sendDown cls m else d

/-- What a parent finds in a JOIN, in the order of R459. -/
def Die.joinResult (d : Die) (l : Nat) (b : List Byte) : Nat :=
  let role := (byteAt b 8).toNat
  let level := (byteAt b 9).toNat
  let half := (byteAt b 10).toNat
  let addr := leNat (slice b 12 4)
  let ids := ((List.range 8).map (fun i => leNat (slice b (24 + 4 * i) 4))).filter (· != 0)
  let pair := !d.isTop && l == 2
  let digit := if d.isTop then bits addr 12 6 else if d.level = 2 then bits addr 6 6 else bits addr 0 6
  let fits := if pair then role == 2 && level == d.level && half == 1
    else if d.isTop then role == 2 && level == 2 && half == 0
    else if d.level = 2 then role == 2 && level == 3 && half == 0
    else role == 1 && level == 0 && half == 0
  if !pair && digit != d.digitOf l then 2
  else if !fits || !(d.agreed l 1) || !(d.agreed l 2) then 3
  else if 8 < ((d.onFlk (fun k => { k with kids := KMap.set {} k.kids l {} })).subtreeImages ++ ids).eraseDups.length then 5
  else 1

/-- JOIN (R459). -/
def execJoin (l : Nat) (s : State) : Host.Outcome State Fault Refusal :=
  msgCmd false 1 1 l (fun m s =>
    let d := s.die
    let b := msgBody m
    let r := d.joinResult l b
    let ids := ((List.range 8).map (fun i => leNat (slice b (24 + 4 * i) 4))).filter (· != 0)
    let d := d.onFlk (fun k => { k with kids := KMap.upd {} k.kids l (fun c =>
      if r = 1 then { c with joined := true, role := (byteAt b 8).toNat, images := ids } else { c with joined := false }) })
    { s with die := d.sendRel l 1 (flkMsg 2 d.epoch 0 (leBytes 4 r)) }) s

/-- JOIN_RETRY (R459). -/
def execJoinRetry (s : State) : Host.Outcome State Fault Refusal :=
  .next (onDie (fun d =>
    if d.get R.FLK_STATUS_STATE = 1 ∧ [2, 3, 5].contains (d.get R.FLK_STATUS_JOIN_RESULT) then d.sendJoin s.fused else d) s)

/-- A device that adopts a new epoch abandons its updates in the reduce phase (R474). -/
def Die.adoptEpoch (ep : Nat) (d : Die) : Die :=
  if d.epoch < ep then
    let d := (d.put R.FLK_STATUS_EPOCH 0 ep).onFlk (fun k => { k with reduction := none, digests := [] })
    (List.range 8).foldl (fun d e =>
      match d.updCtx e with
      | some x => if x.u.flock && d.get R.UPD_STATUS_PHASE e == 3 then d.updStop x false 2 else d
      | none => d) d
  else d

/-- WELCOME (R459, R461). -/
def execWelcome (l : Nat) (s : State) : Host.Outcome State Fault Refusal :=
  msgCmd true 1 2 l (fun m s =>
    let d := s.die
    let r := bits (leNat (slice m 8 1)) 0 4
    if d.flk.refused ∨ d.parentLane ≠ some l then s
    else
      let d := (d.put R.FLK_STATUS_JOIN_RESULT 0 r).recheck
      let d := if r = 1 then (d.adoptEpoch (msgEpoch m)).refBack else d
      let d := if r = 1 then
          (if d.get R.FLK_STATUS_STATE = 1 then (d.put R.FLK_STATUS_STATE 0 2).onFlk (fun k => { k with good := 0, bad := 0, miss := 0, lastSync := none })
           else d)
        else d.put R.FLK_STATUS_STATE 0 1
      { s with die := d }) s

/-- SYNC_SEND (R457): the transmit captures of the frames, by lane. -/
def execSyncSend (caps : List (Nat × Capture)) (s : State) : Host.Outcome State Fault Refusal :=
  let lanes := (List.range 64).filter (fun l => s.die.flockLane l && s.die.laneState l == 4)
  .next (onDie (fun d =>
    if d.fc % 65536 = 0 then
      lanes.foldl (fun d l =>
        let tx := match caps.find? (fun c => c.1 == l) with | some c => s.cel.capFc (122 + l) true c.2 | none => 16 * d.fc
        let d := d.sendS l 63 (leBytes 8 (KMap.get 0 d.flk.syncTx l) ++ leBytes 2 d.epoch ++ leBytes 1 (d.get R.FLK_STATUS_STATE) ++ [0]
          ++ leBytes 4 d.holdAge)
        d.onFlk (fun k => { k with syncTx := KMap.set 0 k.syncTx l (tx % 2 ^ 64) })) d
    else d) s)

/-- The instants of a lane's line, as FC moves by u (R460). -/
def Lane.later (u : Nat) (x : Lane) : Lane := { x with lineEnd := x.lineEnd + u, r := x.r.later u, b := x.b.later u }

/-- The instants of a port. -/
def PortSt.later (u : Nat) (x : PortSt) : PortSt :=
  { x with start := if x.sched.isSome then x.start + u else 0, busyTo := x.busyTo + u, line := x.line.map (fun f => { f with start := f.start + u }) }

/-- A forward step of FC (R367, R460, R463): time bases keep the value they had; captures kept for pairing move with the count. -/
def Die.stepFc (n : Nat) (d : Die) : Die :=
  let tbs := (span 1 8).map (fun k => (k, (d.tb k).at d.fc, (d.tb k).runs d.fc, d.adj k))
  let d := { d with fc := d.fc + n }
  let d := tbs.foldl (fun d t => if (d.tb t.1).segs.isEmpty then d else d.tbBreak t.1 t.2.1 t.2.2.2 t.2.2.1) d
  let u := 21000 * n
  let d := { d with lanes := d.lanes.map (fun (y : Nat × Lane) => (y.1, y.2.later u)), ports := d.ports.map (fun (y : Nat × PortSt) => (y.1, y.2.later u)) }
  d.onFlk (fun k => { k with lastSync := k.lastSync.map (fun y => (y.1, y.2 + 16 * n)) })

/-- on_sample (R460) and the states it moves between (R461). -/
def Die.onSample (o : Int) (d : Die) : Die :=
  let first := d.flk.hold
  let d := d.onFlk (fun k => { k with miss := 0, hold := false })
  let d := d.put R.FLK_OFFSET_O 0 (low (max (-(2 ^ 31)) (min o (2 ^ 31 - 1))) 32)
  let st := d.get R.FLK_STATUS_STATE
  let d := if st = 3 then
      (let bad := if 4 ≤ o.natAbs then d.flk.bad + 1 else 0
       let d := d.onFlk (fun k => { k with bad := bad })
       if 4 ≤ bad then (d.put R.FLK_STATUS_STATE 0 2).onFlk (fun k => { k with bad := 0, good := 0 }) else d)
    else if st = 4 ∧ first ∧ 16 ≤ o.natAbs then d.put R.FLK_STATUS_STATE 0 2
    else d
  if o ≤ -16 then ((d.stepFc ((-o) / 16).toNat).count T.FLK_FC_STEP 0).onFlk (fun k => { k with good := 0 })
  else if 16000000 ≤ o then
    ((d.put R.FLK_STATUS_JOIN_RESULT 0 4).recheck.put R.FLK_STATUS_STATE 0 1).onFlk (fun k => { k with good := 0, refused := true })
  else if 16 ≤ o then d.onFlk (fun k => { k with absorb := (o / 16).toNat, good := 0 })
  else
    let good := if o.natAbs ≤ 2 then d.flk.good + 1 else 0
    let d := d.onFlk (fun k => { k with phase := -(4 * o), good := good })
    let st := d.get R.FLK_STATUS_STATE
    if 16 ≤ good ∧ (st = 2 ∨ st = 4) then d.put R.FLK_STATUS_STATE 0 3 else d

/-- A SYNC from the parent (R460): number, PREV_TX, HOLD_US, and this device's capture of it. -/
def Die.parentSync (l seq prevTx hold rx : Nat) (d : Die) : Die :=
  let d0 := d
  let d := d.onFlk (fun k => { k with parentHold := hold, lastSync := some (seq, rx) })
  match d0.flk.lastSync with
  | none => d
  | some (n, r) =>
    if (n + 1) % 256 ≠ seq ∨ d0.flk.absorb ≠ 0 then d
    else d.onSample (sdiff 64 (r % 2 ^ 64) (low ((prevTx : Int) + sext (d.get R.LNK_DELAY_VALUE l) 32) 64))

/-- A SYNC frame on a flock link (R457, R460, R461, R475). -/
def Die.syncFrame (l seq : Nat) (b : List Byte) (rx : Nat) (d : Die) : Die :=
  let ep := leNat (slice b 8 2)
  let st := (byteAt b 10).toNat
  let d := d.onFlk (fun k => { k with kids := KMap.upd {} k.kids l (fun c => { c with epoch := ep, state := st }) })
  if d.epoch < ep ∧ d.isTop ∧ (d.role = 2 ∨ d.get R.FLK_STATUS_STATE = 5) ∧ d.get R.FLK_STATUS_STATE ≠ 6 then
    ((d.put R.FLK_STATUS_STATE 0 6).flag R.FLK_STATUS_DEMOTED 0 true).incident 9 10 0 l
  else if d.role = 3 then
    if d.get R.FLK_STATUS_STATE = 6 ∧ d.parentLane = some l then
      d.parentSync l seq (leNat (slice b 0 8)) (leNat (slice b 12 4)) rx
    else d
  else if !(d.parentLanes.contains l) then d
  else
    let d := if d.epoch < ep then
        (d.adoptEpoch ep).onFlk (fun k => { k with parent := l, lastSync := if k.parent = l then k.lastSync else none })
      else d
    if d.parentLane = some l ∧ d.epoch ≤ ep ∧ d.get R.FLK_STATUS_JOIN_RESULT = 1 then
      d.parentSync l seq (leNat (slice b 0 8)) (leNat (slice b 12 4)) rx
    else d

/-- The S sequence of a channel (R427). -/
def Die.sSequence (l chan seq : Nat) (d : Die) : Die :=
  let d1 := match KMap.get none (d.lane l).sExp chan with
    | none => d
    | some e =>
      let v := sdiff 8 seq e
      if 0 < v then d.countBy T.LNK_S_LOST l v.toNat else if v < 0 then d.count T.LNK_S_BACK l else d
  d1.onLane l (fun x => { x with sExp := KMap.set none x.sExp chan (some ((seq + 1) % 256)) })

/-- A shepherd relays an S frame to every child on channel 62 (R458). -/
def Die.relay (payload : List Byte) (d : Die) : Die :=
  ((d.childLanes.filter (fun c => d.laneState c == 4)).foldl (fun d c => d.sendS c 62 payload) d).count T.FLK_RELAY_FRAMES 0

/-- A checked S frame (R426, R427, R457, R458). -/
def State.sFrame (l : Nat) (f : LinkFrame) (s : State) : State :=
  let chan := (frameView f).h1.toNat % 64
  let d := s.die.sSequence l chan (frameView f).h2.toNat
  let fl := d.flockLane l
  if fl ∧ chan = 63 then { s with die := d.syncFrame l (frameView f).h2.toNat (frameView f).payload (s.cel.capFc (58 + l) false f.cap) }
  else if fl ∧ chan = 62 then
    let d := if (d.role = 2 ∨ d.role = 3) ∧ d.parentLane = some l then d.relay (frameView f).payload else d
    if d.role = 1 then State.laneFrame l (.chan 62) (frameView f).payload 81 f.cap { s with die := d } else { s with die := d }
  else
    let d := if (d.role = 2 ∨ d.role = 3) ∧ bit (d.pair64 R.FLK_RELAY_LO R.FLK_RELAY_HI) l then d.relay (frameView f).payload else d
    State.laneFrame l (.chan chan) (frameView f).payload l f.cap { s with die := d }

/-- A frame that reaches a lane: an S frame that passes its checks goes on. -/
def State.sFrameRx (l : Nat) (f : LinkFrame) (s : State) : State :=
  let r := s.die.frameIn l f
  if r.1 && lfCls f == 0 then State.sFrame l f { s with die := r.2 } else { s with die := r.2 }

/-- S_FRAME. -/
def execSFrame (l : Nat) (f : LinkFrame) (s : State) : Host.Outcome State Fault Refusal := guardU (decide (l < 64)) (s.sFrameRx l f)

/-- SYNC (R457, R460): an S frame on channel 63 of a flock link. -/
def execSync (l : Nat) (f : LinkFrame) (s : State) : Host.Outcome State Fault Refusal :=
  guardU (decide (l < 64)) (if s.die.flockLane l ∧ (frameView f).h1.toNat = 63 then s.sFrameRx l f else s)

/-- PHASE_STEP (R460). -/
def execPhaseStep (s : State) : Host.Outcome State Fault Refusal :=
  .next (onDie (fun d =>
    if d.flk.phase = 0 then d
    else (d.count T.FLK_PHASE_STEP 0).onFlk (fun k => { k with phase := if k.phase < 0 then k.phase + 1 else k.phase - 1 })) s)

/-- SYNC_MISS (R461): a SYNC period passes with no kept sample. -/
def execSyncMiss (s : State) : Host.Outcome State Fault Refusal :=
  .next (onDie (fun d =>
    if d.get R.FLK_STATUS_JOIN_RESULT = 1 ∨ (d.role = 3 ∧ d.get R.FLK_STATUS_STATE = 6) then
      let d := (d.count T.FLK_SYNC_MISS 0).onFlk (fun k => { k with miss := k.miss + 1 })
      if 4 ≤ d.flk.miss then d.enterHoldover else d
    else d) s)

/-- STANDBY_TAKEOVER (R474): most ACTIVE links carry HOLDOVER and none a higher epoch. -/
def Die.standbyTakeover (d : Die) : Die :=
  let live := (List.range 64).filter (fun l => d.laneState l == 4)
  let kid (l : Nat) : Child := KMap.get {} d.flk.kids l
  if d.role = 3 ∧ d.get R.FLK_STATUS_STATE = 6 ∧ live.length < 2 * (live.filter (fun l => (kid l).state == 4)).length
      ∧ live.all (fun l => decide ((kid l).epoch ≤ d.epoch)) then
    let ep := (d.epoch + 1) % 65536
    let d := ((d.put R.FLK_STATUS_EPOCH 0 ep).put R.FLK_STATUS_STATE 0 5).count T.FLK_TAKEOVERS 0
    (d.sendDown 2 (flkMsg 13 ep 0 [])).incident 9 10 0 0
  else d

/-- STANDBY_TAKEOVER. -/
def execStandbyTakeover (s : State) : Host.Outcome State Fault Refusal := .next (onDie Die.standbyTakeover s)

/-- TAKEOVER (R474): the link it comes on is the parent link; the epoch is adopted and the message forwarded. -/
def execTakeover (l : Nat) (s : State) : Host.Outcome State Fault Refusal :=
  msgCmd true 2 13 l (fun m s =>
    let d := s.die
    if d.epoch ≤ msgEpoch m then
      let d := (d.adoptEpoch (msgEpoch m)).onFlk (fun k => { k with parent := l, lastSync := if k.parent = l then k.lastSync else none })
      { s with die := d.forward 2 m }
    else { s with die := d.count T.FLK_MSG_BAD 0 }) s

/-- The pasture whose admitted image has an ID. -/
def Die.pastureOf (d : Die) (image : Nat) : Option Nat :=
  pastures.find? (fun p => match d.admittedImage p with | some x => x.imageId == image | none => false)

/-- A worker queues an agreed launch (R464, R465); a replay pasture launches no frame (R363). -/
def State.agreedLaunch (m : List Byte) (s : State) : State :=
  let b := msgBody m
  match s.die.pastureOf (msgImage m) with
  | none => s
  | some p =>
    match s.die.image p with
    | none => s
    | some im =>
      let payload := slice b 20 24
      let c : ActCtx := ⟨p, leNat (slice b 8 6), 0, {}, 16 * s.die.fc, s.die.fc, im.imageId, 0, 0⟩
      match im.templates.find? (fun t => t.number == leNat (slice b 14 2)), im.patchLists.find? (fun l => l.number == (byteAt b 16).toNat) with
      | some t, some pl =>
        if s.die.on R.FAB_REPLAY_ENABLE p then s
        else s.actLaunch c t { number := pl.desc, mode := 1, base := 0, tb := 9, queue := (byteAt b 17).toNat % 8 } (pl.patches.map (patchBytes c payload))
          payload (some (leNat (slice b 0 8)))
      | _, _ => { s with die := s.die.count (T.OWN_VIOLATION p) 0 }

/-- LAUNCH_AT (R464). -/
def execLaunchAt (l : Nat) (s : State) : Host.Outcome State Fault Refusal :=
  msgCmd true 1 3 l (fun m s =>
    let s := { s with die := s.die.forward 1 m }
    if s.die.role = 1 then s.agreedLaunch m else s) s

/-- Children that hold a set. -/
def Die.holders (d : Die) (image : Nat) : List Nat :=
  (d.flk.kids.filter (fun k => k.2.joined && k.2.images.contains image && d.childLanes.contains k.1)).map (fun k => k.1)

/-- The 19 sums of a chunk. -/
def chunkSums (b : List Byte) : List Int := (List.range 19).map (fun i => sext (leNat (slice b (12 + 12 * i) 12)) 96)

/-- The body of a summed chunk. -/
def chunkBody (r : Reduction) (k : Nat) : List Byte :=
  leBytes 8 r.step ++ leBytes 4 k ++ (List.range 19).flatMap (fun i => s96Bytes (KMap.get 0 r.sums (19 * k + i)))

/-- The top shepherd closes a reduction (R468). -/
def Die.closeReduction (x : SetInfo) (r : Reduction) (d : Die) : Die :=
  let d := d.onFlk (fun k => { k with reduction := none, reduced := KMap.set 0 k.reduced r.image (r.step + 1) })
  let commit (v : Nat) (d : Die) : Die :=
    d.sendDown 1 (flkMsg 6 d.epoch r.image (leBytes 8 r.step ++ leBytes 8 (r.step + x.delay) ++ leBytes 4 x.members ++ leBytes 1 v ++ [0, 0, 0]))
  if r.lanes.isEmpty then (commit 2 d).count T.FLK_REDUCE_ABANDON 0
  else commit 1 ((List.range x.chunks).foldl (fun d k => d.sendDown 1 (flkMsg 5 d.epoch r.image (chunkBody r k))) d)

/-- A REDUCE chunk arrives (R467, R468); a chunk of another set, or of a set whose reduction is not begun while one is, stays. -/
def Die.reduceMsg (l : Nat) (x : SetInfo) (m : List Byte) (d : Die) : Die :=
  let b := msgBody m
  let image := msgImage m
  let step := leNat (slice b 0 8)
  let k := leNat (slice b 8 4)
  let r := d.flk.reduction.getD { image := image, step := step }
  if step + 1 ≤ KMap.get 0 d.flk.reduced image then d.dropMsg l 1
  else if r.image ≠ image ∨ r.step ≠ step then d
  else
    let d := d.dropMsg l 1
    let had := KMap.get [] r.lanes k
    if had.contains l then d
    else
      let r := { r with
        lanes := KMap.set [] r.lanes k (had ++ [l])
        sums := (List.range 19).foldl (fun s i => KMap.upd 0 s (19 * k + i) (· + (chunkSums b).getD i 0)) r.sums }
      let full := (d.holders image).all (fun c => (KMap.get [] r.lanes k).contains c)
      let r := if full then { r with sent := r.sent ++ [k] } else r
      let d := d.onFlk (fun y => { y with reduction := some r })
      let done := (List.range x.chunks).all r.sent.contains
      if d.isTop then (if done then d.closeReduction x r else d)
      else
        let d := if full then d.sendUp 4 image (chunkBody r k) else d
        if done then d.onFlk (fun y => { y with reduction := none, reduced := KMap.set 0 y.reduced image (step + 1) }) else d

/-- REDUCE. -/
def execReduce (l : Nat) (x : SetInfo) (s : State) : Host.Outcome State Fault Refusal :=
  dieCmd (decide (l < 64)) (fun s =>
    let d := s.die
    match d.msgOf l 1 4 with
    | none => d
    | some m =>
      if (d.role = 2 ∨ d.role = 3) ∧ d.childLanes.contains l then d.reduceMsg l x m else (d.dropMsg l 1).count T.FLK_MSG_BAD 0) s

/-- REDUCE_WAIT (R468). -/
def execReduceWait (x : SetInfo) (s : State) : Host.Outcome State Fault Refusal :=
  .next (onDie (fun d => match d.flk.reduction with | some r => if d.isTop then d.closeReduction x r else d | none => d) s)

/-- The member's update unit for an image. -/
def Die.member (d : Die) (image : Nat) : Option UpdCtx :=
  (List.range 8).findSome? (fun e => match d.updCtx e with | some x => if x.u.flock && x.im.imageId == image then some x else none | none => none)

/-- The member's update of a step, if it is in progress. -/
def Die.runOf (d : Die) (x : UpdCtx) (step : Nat) : Option UpdRun :=
  match (d.updSt x.e).run with | some r => if r.step = step then some r else none | none => none

/-- TOTAL (R468): a member's sums; a message for an update still before its reduce phase stays. -/
def execTotal (l : Nat) (s : State) : Host.Outcome State Fault Refusal :=
  dieCmd (decide (l < 64)) (fun s =>
    let d := s.die
    match d.msgOf l 1 5 with
    | none => d
    | some m =>
      if !(d.parentLanes.contains l) then (d.dropMsg l 1).count T.FLK_MSG_BAD 0
      else
        let b := msgBody m
        let step := leNat (slice b 0 8)
        let k := leNat (slice b 8 4)
        match d.member (msgImage m) with
        | none => (d.dropMsg l 1).forward 1 m
        | some x =>
          match d.runOf x step with
          | none => (d.dropMsg l 1).forward 1 m
          | some _ =>
            if d.get R.UPD_STATUS_PHASE x.e < 3 then d
            else
              let keys := (x.keys.drop (19 * k)).take 19
              let d := (d.dropMsg l 1).forward 1 m
              let d := (List.range keys.length).foldl (fun d i =>
                (d.onUpd x.e (fun u => { u with sums := KMap.set 0 u.sums (keys.getD i 0) ((chunkSums b).getD i 0) })).eccClear 9 (updLoc x.e (keys.getD i 0))) d
              d.onRun x.e (fun r => { r with chunks := if r.chunks.contains k then r.chunks else r.chunks ++ [k] })) s

/-- COMMIT at a member (R323, R324, R468, R469). -/
def Die.commitMsg (x : UpdCtx) (step flip verdict : Nat) (d : Die) : Die :=
  match d.runOf x step with
  | none => d.sendDigest x flip
  | some _ =>
    if verdict = 2 then d.updStop x false 2
    else
      let n := (stepN x.ei).getD 1
      let d := d.onRun x.e (fun r => { r with flip := flip })
      if (flip - x.im.stepBase.toNat) * n < (d.engPas x.e x.p).index then d.updStop x false 4
      else d.onRun x.e (fun r => { r with committed := true })

/-- A running reduction is over at a shepherd when a COMMIT of its step, or of a later one, passes (R468). DEDUCED (log 115). -/
def Die.passCommit (image step : Nat) (d : Die) : Die :=
  match d.flk.reduction with
  | some r =>
    if r.image = image ∧ r.step ≤ step then
      d.onFlk (fun y => { y with reduction := none, reduced := KMap.set 0 y.reduced image (step + 1) })
    else d
  | none => d

/-- COMMIT. -/
def execCommit (l : Nat) (s : State) : Host.Outcome State Fault Refusal :=
  msgCmd true 1 6 l (fun m s =>
    let b := msgBody m
    let d := (s.die.forward 1 m).passCommit (msgImage m) (leNat (slice b 0 8))
    { s with die := match d.member (msgImage m) with
      | some x => d.commitMsg x (leNat (slice b 0 8)) (leNat (slice b 8 8)) (byteAt b 20).toNat
      | none => d }) s

/-- Digests with counts joined (R469), the largest counts first. -/
def DigestSet.add (g : DigestSet) (es : List (Nat × Nat)) (other silent : Nat) : DigestSet :=
  let all := es.foldl (fun (a : List (Nat × Nat)) e =>
    if a.any (fun y => y.1 == e.1) then a.map (fun y => if y.1 == e.1 then (y.1, y.2 + e.2) else y) else a ++ [e]) g.found
  let sorted := sortBy (fun a b => decide (b.2 ≤ a.2)) all
  { g with found := sorted, other := g.other + other, silent := g.silent + silent }

/-- The body of DIGEST (R469): the four largest counts stay, the rest go to OTHER. -/
def digestBody (g : DigestSet) : List Byte :=
  leBytes 8 g.step ++ leBytes 4 g.silent ++ (List.range 4).flatMap (fun i => let y := g.found.getD i (0, 0); leBytes 8 y.1 ++ leBytes 4 y.2)
    ++ leBytes 4 (g.other + ((g.found.drop 4).map (fun y => y.2)).sum)

/-- A merged digest goes up, or the top shepherd finds the verdict (R469, R470). -/
def Die.finishDigest (g : DigestSet) (d : Die) : Die :=
  let d := d.onFlk (fun k => { k with digests := k.digests.filter (fun y => !(y.image == g.image && y.step == g.step)) })
  if d.isTop then
    let all := (g.found.map (fun y => y.2)).sum + g.other + g.silent
    let msg (wd r : Nat) : List Byte := flkMsg 8 d.epoch g.image (leBytes 8 g.step ++ leBytes 8 wd ++ leBytes 1 r ++ [0, 0, 0])
    match g.found.find? (fun y => decide (all < 2 * y.2)) with
    | some y => d.sendDown 1 (msg y.1 1)
    | none => ((d.flag R.FLK_STATUS_SPLIT 0 true).count T.FLK_SPLITS 0).sendDown 1 (msg 0 2)
  else d.sendUp 7 g.image (digestBody g)

/-- FLOCK_DIGEST (R469, R470). -/
def execFlockDigest (l : Nat) (s : State) : Host.Outcome State Fault Refusal :=
  msgCmd false 1 7 l (fun m s =>
    let d := s.die
    let b := msgBody m
    let image := msgImage m
    let step := leNat (slice b 0 8)
    let es := ((List.range 4).map (fun i => (leNat (slice b (12 + 12 * i) 8), leNat (slice b (20 + 12 * i) 4)))).filter (fun y => y.2 != 0)
    let g := ((d.flk.digests.find? (fun y => y.image == image && y.step == step)).getD { image := image, step := step })
    if g.lanes.contains l then s
    else
      let g := { (g.add es (leNat (slice b 60 4)) (leNat (slice b 8 4))) with lanes := g.lanes ++ [l] }
      let d := d.onFlk (fun k => { k with digests := k.digests.filter (fun y => !(y.image == image && y.step == step)) ++ [g] })
      { s with die := if (d.holders image).all g.lanes.contains then d.finishDigest g else d }) s

/-- DIGEST_WAIT (R469, R470): `silent` members of the set below the children that have not sent. -/
def execDigestWait (image silent : Nat) (s : State) : Host.Outcome State Fault Refusal :=
  .next (onDie (fun d =>
    match d.flk.digests.find? (fun y => y.image == image) with
    | some g => d.finishDigest (g.add [] 0 silent)
    | none => d) s)

/-- Set or clear a pasture's bit in a pair of words. -/
def Die.pasBit (lo hi : Fld) (p : Nat) (b : Bool) (d : Die) : Die := d.putPair lo hi 0 (setBit (d.pair64 lo hi) p b)

/-- VERDICT at a member (R471, R472). -/
def Die.verdictMsg (x : UpdCtx) (step wd result : Nat) (d : Die) : Die :=
  let out := bit (d.pair64 R.FLK_EXPELLED_LO R.FLK_EXPELLED_HI) x.p
  let own := (KMap.get none (d.updSt x.e).sentWd step).getD (d.updSt x.e).wd
  let d := d.onUpd x.e (fun y => { y with sentWd := KMap.set none y.sentWd step none })
  if result = 1 then
    if own = wd then d.pasBit R.FLK_EXPELLED_LO R.FLK_EXPELLED_HI x.p false
    else if out then d
    else ((d.pasBit R.FLK_EXPELLED_LO R.FLK_EXPELLED_HI x.p true).count T.FLK_EXPELS 0).incident 8 10 0 x.p
  else (d.pasBit R.FLK_SET_HALT_LO R.FLK_SET_HALT_HI x.p true).incident 8 10 0 x.p

/-- VERDICT. -/
def execVerdict (l : Nat) (s : State) : Host.Outcome State Fault Refusal :=
  msgCmd true 1 8 l (fun m s =>
    let b := msgBody m
    let d := s.die.forward 1 m
    { s with die := match d.member (msgImage m) with
      | some x => d.verdictMsg x (leNat (slice b 0 8)) (leNat (slice b 8 8)) (byteAt b 16).toNat
      | none => d }) s

/-- KILL on this device (R466). -/
def Die.flockKill (d : Die) : Die := d.flag R.FLK_STATUS_KILLED 0 true

/-- HALT on this device (R466). -/
def Die.flockHalt (d : Die) : Die := d.flag R.FLK_STATUS_HALTED 0 true

/-- RELEASE on this device (R466, R472). -/
def Die.flockRelease (d : Die) : Die :=
  ((d.flag R.FLK_STATUS_KILLED 0 false).flag R.FLK_STATUS_HALTED 0 false).putPair R.FLK_SET_HALT_LO R.FLK_SET_HALT_HI 0 0

/-- Discard the queued launches that `sel` takes, counting each by `t`, and release their reservations (R391, R392); a committed frame, which is
still at the head of its queue, goes on. -/
def State.discardLaunches (sel : LaunchEnt → Bool) (t : Tal) (s : State) (ix : LaunchEnt → Nat := fun e => e.pasture) : State :=
  let held (q : Nat × List LaunchEnt) : List LaunchEnt := if s.die.onLine q.1 then q.2.take 1 else []
  let free (q : Nat × List LaunchEnt) : List LaunchEnt := if s.die.onLine q.1 then q.2.drop 1 else q.2
  let gone := s.die.launch.flatMap (fun q => (free q).filter sel)
  let left := s.die.launch.map (fun (q : Nat × List LaunchEnt) => (q.1, held q ++ (free q).filter (fun e => !(sel e))))
  let d := { s.die with launch := left.filter (fun (q : Nat × List LaunchEnt) => !q.2.isEmpty) }
  let d := { d with ports := (d.ports.map (fun (q : Nat × PortSt) => match q.2.sched with
    | some e => if sel e then (q.1, ({ q.2 with sched := none, start := 0 } : PortSt)) else q
    | none => q)).filter (fun (q : Nat × PortSt) => q.2 != ({} : PortSt)) }
  let d := gone.foldl (fun d e => d.count t (ix e)) d
  { s with die := d, cel := s.cel.release (gone.filter (fun e => e.audited)).length }

/-- CANCEL_ALL on this device (R466). -/
def State.cancelAgreed (s : State) : State := s.discardLaunches (fun e => e.agreed) T.EGR_KILL_DROP

/-- KILL. -/
def execKill (l : Nat) (s : State) : Host.Outcome State Fault Refusal :=
  msgCmd true 2 9 l (fun m s => { s with die := (s.die.forward 2 m).flockKill }) s

/-- FLOCK_HALT. -/
def execFlockHalt (l : Nat) (s : State) : Host.Outcome State Fault Refusal :=
  msgCmd true 2 11 l (fun m s => { s with die := (s.die.forward 2 m).flockHalt }) s

/-- CANCEL_ALL. -/
def execCancelAll (l : Nat) (s : State) : Host.Outcome State Fault Refusal :=
  msgCmd true 2 12 l (fun m s => State.cancelAgreed { s with die := s.die.forward 2 m }) s

/-- RELEASE. -/
def execRelease (l : Nat) (s : State) : Host.Outcome State Fault Refusal :=
  msgCmd true 2 10 l (fun m s => { s with die := (s.die.forward 2 m).flockRelease }) s

/-- MRSP (R482): an answer from a child, taken from the link. -/
def execMrsp (l : Nat) (s : State) : Host.Outcome State Fault Refusal := msgCmd false 1 15 l (fun _ s => s) s

/-- FLOCK_MSG_SEND (R464, R608, R616). -/
def Die.flockMsgSend (d : Die) : Die :=
  let t := d.get R.FLK_MSG_TAIL_VALUE
  if d.on R.FLK_MSG_CTL_ENABLE ∧ d.get R.FLK_MSG_HEAD_VALUE ≠ t then
    let slot := d.hostRead 0 (d.addr64 R.FLK_MSG_BASE_LO R.FLK_MSG_BASE_HI + t % 2 ^ d.get R.FLK_MSG_CTL_LOG2SIZE * 64) 52
    let d := d.put R.FLK_MSG_TAIL_VALUE 0 (t + 1)
    if (byteAt slot 0).toNat = 3 ∧ d.isTop ∧ d.get R.FLK_STATUS_STATE = 5 then d.sendDown 1 (overlay slot 2 (leBytes 2 d.epoch))
    else d.count T.FLK_MSG_BAD 0
  else d

/-- FLOCK_MSG_SEND. -/
def execFlockMsgSend (s : State) : Host.Outcome State Fault Refusal := .next (onDie Die.flockMsgSend s)

/-- A combination of ROLE, LEVEL and HALF that R453 and R454 allow. -/
def roleOk (role level half : Nat) : Bool :=
  match role with
  | 0 => level == 0 && half == 0
  | 1 => level == 0 && half == 0
  | 2 => (level == 1 && half == 0) || level == 2 || level == 3
  | _ => level == 1 && half == 0

/-- A write of FLK_ROLE (R461, R476). -/
def flkRoleW (w : Nat) (d : Die) : Die :=
  let role := bits w 0 2
  let ok := roleOk role (bits w 2 2) (bits w 4 1) && pastures.all (fun p => !(d.pasture p).adm) && (role < 2 || (d.updOwner 0).isNone)
  if !ok then d.flag R.FLK_STATUS_ROLE_REFUSED 0 true
  else
    let d := d.setFields .FLK 0 0x010 w
    ((d.put R.FLK_STATUS_STATE 0 (if role = 3 then 6 else 0)).put R.FLK_STATUS_JOIN_RESULT 0 0).recheck.onFlk (fun k => { k with
      parent := 0, lastSync := none, good := 0, bad := 0, miss := 0, kids := [], reduction := none, digests := [] })

/-- FLK_ROLE. -/
def execFlkRole (src : Source) (w : Word) (s : State) : Host.Outcome State Fault Refusal :=
  dieCmd true (writeDie src (blockAddr .FLK 0 0x010) (flkRoleW w.toNat)) s

/-- FORM (R463); a demoted top shepherd does not reclaim SOURCE (R475). -/
def Die.form (d : Die) : Die :=
  if d.role = 2 ∧ d.level = 1 ∧ d.get R.FLK_STATUS_STATE ≠ 6 then (d.stepFc (d.nOf 0 - d.fc)).put R.FLK_STATUS_STATE 0 5 else d

/-- The device issues B messages: it is a shepherd (R466). -/
def Die.isShepherd (d : Die) : Bool := d.role == 2 || d.role == 3

/-- A write of FLK_CONTROL (R463, R466, R476, R596). -/
def flkControlW (w : Nat) (s : State) : State :=
  let d := s.die
  let issue (type : Nat) (d : Die) : Die := d.sendDown 2 (flkMsg type d.epoch 0 [])
  match lowestWo w [0, 1, 2, 3, 4] with
  | some 0 => { s with die := d.form }
  | some 1 => if d.isShepherd then { s with die := (issue 9 d).flockKill } else s
  | some 2 => if d.isShepherd then { s with die := (issue 11 d).flockHalt } else s
  | some 3 => if d.isShepherd then State.cancelAgreed { s with die := issue 12 d } else s
  | some _ => if d.isShepherd then { s with die := (issue 10 d).flockRelease } else s
  | none => s

/-- FORM. -/
def execForm (src : Source) (w : Word) (s : State) : Host.Outcome State Fault Refusal :=
  .next (writeAt src (blockAddr .FLK 0 0x018) (flkControlW w.toNat) s)
/-- FLK_CONTROL_KILL. -/
def execFlkControlKill (src : Source) (w : Word) (s : State) : Host.Outcome State Fault Refusal :=
  .next (writeAt src (blockAddr .FLK 0 0x018) (flkControlW w.toNat) s)
/-- FLK_CONTROL_HALT. -/
def execFlkControlHalt (src : Source) (w : Word) (s : State) : Host.Outcome State Fault Refusal :=
  .next (writeAt src (blockAddr .FLK 0 0x018) (flkControlW w.toNat) s)
/-- FLK_CONTROL_CANCEL_ALL. -/
def execFlkControlCancelAll (src : Source) (w : Word) (s : State) : Host.Outcome State Fault Refusal :=
  .next (writeAt src (blockAddr .FLK 0 0x018) (flkControlW w.toNat) s)
/-- FLK_CONTROL_RELEASE. -/
def execFlkControlRelease (src : Source) (w : Word) (s : State) : Host.Outcome State Fault Refusal :=
  .next (writeAt src (blockAddr .FLK 0 0x018) (flkControlW w.toNat) s)

end Sys2Proof.Machine
end

