-- ==== Sys2Proof/Machine/Admit.lean ====
section
/-! DEFINITION. Admission, replacement and withdrawal of images (R295 to R302, R306, R357, R360, R448) and their commands; the end of a
quiesce, which a replacement waits for. -/

namespace Sys2Proof.Machine

/-- An image is admitted in pasture p (R31, R299). -/
def Die.admitted (d : Die) (p : Nat) : Bool := (d.pasture p).adm

/-- Any image is admitted. -/
def Die.anyAdmitted (d : Die) : Bool := pastures.any d.admitted

/-- The fastest Ouvust rate code that admitted images certify on lane l (R448); 0 = none. -/
def Die.floorOf (d : Die) (l : Nat) : Nat :=
  let codes := pastures.flatMap (fun p => match d.image p with
    | some im => if d.admitted p then im.cert.flatMap (fun c => (c.stages.filter (fun s =>
        (s.island == 4 && c.source == l || s.island == 5 && c.egressKind == 2 && c.egress == l) && s.rate != 0 && decide (s.rate ≤ 6))).map
        (fun s => s.rate)) else []
    | none => [])
  codes.foldl (fun a c => if a = 0 then c else min a c) 0

/-- Recompute the training floors (R448). -/
def Die.setFloors (d : Die) : Die := (List.range 64).foldl (fun d l => d.put R.LNK_STATUS_FLOOR l (d.floorOf l)) d

/-- Remove a pasture's steering entries (R301). -/
def Die.unsteer (p : Nat) (d : Die) : Die :=
  { d with steer := d.steer.filter (fun y => match y.2 with | some e => e.pasture != p | none => false) }

/-- Write an image's steering entries into free entries of their ports, in order (R53, R298); a replay pasture's on the host parser alone
(R357). -/
def Die.steerIn (p : Nat) (im : Image) (d : Die) : Die :=
  let es := if d.on R.FAB_REPLAY_ENABLE p then im.steers.filter (fun s => s.source == 80) else im.steers
  es.foldl (fun d s =>
    match (List.range 64).find? (fun i => (KMap.get none d.steer (s.source * 64 + i)).isNone) with
    | some i => { d with steer := KMap.set none d.steer (s.source * 64 + i) (some ⟨p, s⟩) }
    | none => d) (d.unsteer p)

/-- What identifies a table that an image keeps (R300). -/
def TableImg.same (t : TableImg) : Nat × Bool × Nat := (t.table, t.state, t.rowUnits)

/-- A directory entry lies in the pasture's region. -/
def Die.dirMine (d : Die) (p k : Nat) : Bool :=
  let base := grantField (d.grant p) 16 4
  decide (base * 4 ≤ k % 2 ^ 21) && decide (k % 2 ^ 21 < (base + 2 ^ d.grantK p) * 4)

/-- The Larder of a pasture takes an image's tables: those with the number, class and row size of one it holds are kept, every other is
cleared and takes its default row (R300, R301). -/
def Die.larderIn (p : Nat) (im : Image) (d : Die) : Die :=
  let had := (d.larder p).tables
  let new := im.tables.map TableImg.same
  let kept := had.filter new.contains
  let d := if kept.length < had.length then
      (d.discardShadow p).put R.LRD_STATUS_STATE p 0 |>.onLar p (fun y => { y with swapAt := 0 })
    else d
  let keep (t : Nat) : Bool := kept.any (fun k => k.1 == t)
  let d := { d with dir := d.dir.filter (fun y => !(d.dirMine p y.1) || (match y.2 with | some e => keep e.table | none => false)) }
  let d := d.onLar p (fun y => { y with
    defLive := KMap.keep y.defLive keep, defShadow := KMap.keep y.defShadow keep
    markers := y.markers.filter (fun m => keep m.1), tables := new })
  let d := (List.range 8).foldl (fun d t => d.eccClear 7 (p * 8 + t)) d
  let free := d.unreferenced p
  let d := d.onLar p (fun y => { y with alloc := KMap.keep y.alloc (fun a => !(free.contains a) || y.freeing.contains a) })
  (im.tables.filter (fun t => !(keep t.table))).foldl (fun d t => match d.allocRow p t.rowUnits with
    | none => d
    | some (a, d) => (d.putRow p a t.rowUnits t.default).onLar p (fun y => { y with
        defLive := KMap.insert y.defLive t.table a, defShadow := KMap.insert y.defShadow t.table a })) d

/-- A row word of the pasture's Larder region (R77). -/
def Die.rowMine (d : Die) (p a : Nat) : Bool :=
  decide (grantField (d.grant p) 8 4 ≤ a) && decide (a < grantField (d.grant p) 8 4 + grantField (d.grant p) 12 4)

/-- An error key of a word of the pasture's Larder: a row word, a directory entry or a default row (R509). -/
def Die.larderErr (d : Die) (p k : Nat) : Bool :=
  let kind := k / 2 ^ 40
  let loc := k % 2 ^ 40
  (kind == 5 && d.rowMine p loc) || (kind == 6 && d.dirMine p loc) || (kind == 7 && loc / 8 == p)

/-- m with the entries that `mine` selects as they stand in c. -/
def KMap.swapIn {α : Type} (m : KMap α) (mine : Nat → Bool) (c : KMap α) : KMap α :=
  c.foldl (fun m y => KMap.insert m y.1 y.2) (KMap.keep m (fun k => !(mine k)))

/-- What LRD_STATUS and its companions read (R100). -/
def larderFields : List Fld := [R.LRD_STATUS_LIVE, R.LRD_STATUS_STATE, R.LRD_STATUS_REFUSED, R.LRD_STATUS_LIVE_SEED, R.LRD_STATUS_KEY_KEY, R.LRD_STATUS_TABLE_TABLE]

/-- The pasture's Larder is kept for the case that its first admission fails (R297). -/
def Die.larderSave (p : Nat) (d : Die) : Die :=
  d.onPas p (fun q => { q with before := some {
      part := d.larder p, dir := KMap.keep d.dir (d.dirMine p), rows := KMap.keep d.rows (d.rowMine p)
      ecc := KMap.keep d.ecc (d.larderErr p), poison := KMap.keep d.poison (d.larderErr p), status := larderFields.map (fun f => d.get f p) } })

/-- A failed first admission leaves no trace in the Larder (R297). Where the image kept every table, a rebuild's swap may have taken effect
meanwhile and stands: only the tables that were new go. -/
def Die.larderBack (p : Nat) (d : Die) : Die :=
  match (d.pasture p).before with
  | none => d
  | some b =>
    let d := d.onPas p (fun q => { q with before := none })
    let d := { d with rows := d.rows.swapIn (d.rowMine p) b.rows, ecc := d.ecc.swapIn (d.larderErr p) b.ecc
                      poison := d.poison.swapIn (d.larderErr p) b.poison }
    if b.part.tables.all (d.larder p).tables.contains then
      let old (t : Nat) : Bool := b.part.tables.any (fun k => k.1 == t)
      let gone := (KMap.keep (d.larder p).defLive (fun t => !(old t))).map (fun y => y.2)
      d.onLar p (fun y => { y with defLive := KMap.keep y.defLive old, defShadow := KMap.keep y.defShadow old
                                   alloc := KMap.keep y.alloc (fun a => !(gone.contains a)), tables := b.part.tables })
    else
      let d := { d with dir := d.dir.swapIn (d.dirMine p) b.dir }.onLar p (fun _ => b.part)
      (larderFields.zip b.status).foldl (fun d y => d.put y.1 p y.2) d

/-- The quarters of an image's engines that the pasture holds: (engine, quarter). -/
def Die.imageQuarters (d : Die) (p : Nat) (im : Image) : List (Nat × Nat) :=
  (enginesOf im).flatMap (fun e => (d.quartersOf e p).map (fun q => (e, q)))

/-- Loads begin into every quarter of an image (R298, R299). The extents of a new image, `why` 1, are placed by a free value (R286). -/
def Die.beginLoads (p : Nat) (im : Image) (why : Nat) (d : Die) : Die :=
  let v := d.draw
  let draw := if why = 1 then d.free else (d.pasture p).attic
  let d := if why = 1 then v.2 else d
  let d := ((d.calEnd p).onPas p (fun q => { q with going := true, atticNew := draw })).askLoad ⟨8 + p, (enginesOf im).map (bankOf im draw)⟩
  let d := (d.imageQuarters p im).foldl (fun d y =>
    { d.setQ y.1 y.2 1 with loads := KMap.set (0, 0, 0) d.loads (y.1 * 4 + y.2) (1, 0, why)
                            closed := KMap.set false d.closed (y.1 * 4 + y.2) true }) d
  ((enginesOf im).foldl (fun d e => d.setBusy e) d).put R.PAS_ADMIT_STATUS_STATE p 3

/-- The end of an admission that fails (R297, R303): its code and where it failed; the pasture is as before. -/
def Die.refuse (p code : Nat) (w : Where) (d : Die) : Die :=
  let d := (((d.put R.PAS_ADMIT_STATUS_CODE p code).put R.PAS_ADMIT_WHERE_TILE p w.tile).put R.PAS_ADMIT_WHERE_OP p w.op).put
    R.PAS_ADMIT_WHERE_CTX p w.ctx |>.put R.PAS_ADMIT_WHERE_ITEM p w.item
  let d := ((d.put R.PAS_ADMIT_STATUS_STATE p (if d.admitted p then 4 else 0)).flag R.PAS_ADMIT_STATUS_BUSY p false).count T.PAS_REFUSALS p
  d.onPas p (fun q => { q with reading := false, loading := none, going := false, wheelNew := [] })

/-- Every quarter of the old image is quiesced: the loads of the new one begin (R299). -/
def Die.replaceGo (p : Nat) (d : Die) : Die :=
  match (d.pasture p).loading, d.image p with
  | some im, some old =>
    if !(d.pasture p).going && (d.imageQuarters p old).all (fun y => d.qstate y.1 y.2 == 3 || d.qstate y.1 y.2 == 0) then
      let gone := (d.imageQuarters p old).filter (fun y => !((enginesOf im).contains y.1))
      (gone.foldl (fun d y => d.setQ y.1 y.2 0) d).beginLoads p im 1
    else d
  | _, _ => d

/-- The checks have passed (R298, R299): the image's wheel positions are its own. -/
def Die.accept_ (p : Nat) (im : Image) (d : Die) : Die :=
  let held := (d.wheelPlace p im).getD []
  match d.image p with
  | some old =>
    let d := (d.put R.PAS_ADMIT_STATUS_STATE p 3).onPas p (fun q =>
      { q with reading := false, loading := some im, wheelNew := held, extents := extentsOf old + extentsOf im })
    ((enginesOf old).foldl (fun d e => (d.closeEntry e p).setBusy e) d).replaceGo p
  | none =>
    let d := d.onPas p (fun q => { q with reading := false, image := some im, adm := false, wheel := held, extents := extentsOf im })
    (((d.larderSave p).steerIn p im).larderIn p im).beginLoads p im 1

/-- The image that an ADMIT reads: its bytes at PAS_IMAGE_ADDR in the space of the pasture's VF (R295, R489), and what of it has no byte
layout. -/
def Die.imageRead (d : Die) (p : Nat) (x : ImageParts) : Image :=
  imageOf (d.hostRead (vfFn p) (d.addr64 R.PAS_IMAGE_ADDR_LO_ADDR R.PAS_IMAGE_ADDR_HI_ADDR p) (d.get R.PAS_IMAGE_LEN_LENGTH p)) x

/-- A change of the timing or of the power profile is in progress. DESIGN CHOICE (log 125): the checks of an admission end after it, so that
an image is checked against the mode, the point and the profile it will run under (R31, R47, R48). -/
def Die.clocksChanging (d : Die) : Bool := d.timingPending.isSome || d.profilePending.isSome

/-- What the device finds where it reads an image decides the admission (R296 to R299, R303). -/
def Die.checksDone (fu : Fused) (p : Nat) (r : ImageRead) (d : Die) : Die :=
  if (d.pasture p).reading then
    match r with
    | .failed => d.refuse p (if 2 ^ 27 < d.get R.PAS_IMAGE_LEN_LENGTH p then 0x0102 else 0x0103) {}
    | .image x =>
      if d.clocksChanging then d.put R.PAS_ADMIT_STATUS_STATE p 2
      else
        let im := d.imageRead p x
        match (AdmCtx.verdict ⟨fu, d, p, im, if (d.pasture p).replace then d.image p else none⟩) with
        | some (code, w) => d.refuse p code w
        | none => d.accept_ p im
  else d

/-- ADMISSION_CHECKS_DONE. -/
def execAdmissionChecksDone (p : Nat) (read : ImageRead) (s : State) : Host.Outcome State Fault Refusal :=
  dieCmd (decide (p < 64)) (fun s => s.die.checksDone s.fused p read) s

/-- The counters of an engine at admission (R229, R247, R248, R360). -/
def startEng (im : Image) (ei : EngineImg) (start : Nat) : EngPas :=
  let base := im.stepBase.toNat
  match stepN ei with
  | some n => { index := start, step := base + start / n, stepFires := start % n, commit := base + start / n + 2 }
  | none => { index := start, step := base, commit := base + 2 }

/-- Load every quarter that an admission's load covers; entries open, and each engine counts a load (R152, R298). -/
def Die.loadAll (fu : Fused) (p : Nat) (im : Image) (d : Die) : Die :=
  let qs := d.imageQuarters p im
  let d := qs.foldl (fun d y => match engOf im y.1 with
    | none => d
    | some ei =>
      let d := { d with loads := KMap.set (0, 0, 0) d.loads (y.1 * 4 + y.2) (0, 0, 0) }
      ((d.loadQuarter fu y.1 y.2 p 0 im ei).openEntry y.1 y.2).setBusy y.1) d
  ((qs.map (fun y => y.1)).eraseDups).foldl (fun d e => (d.updReset e p im true).count T.ENG_LOADS e) d

/-- The update unit of engine e has no updatable image (R339). -/
def Die.updGone (e : Nat) (d : Die) : Die :=
  let d := { d with upd := KMap.set {} d.upd e {} }.storeClean e
  let d := ((d.put R.UPD_STATUS_STATE e 0).put R.UPD_STATUS_PHASE e 0).put R.UPD_STATUS_BANK e 0
  (d.put R.UPD_STATUS_EXPORT_RESULT e 0).flag R.UPD_STATUS_EXPORT_BUSY e false

/-- The image serves: its counters, status and floors (R69, R149, R153, R273, R298, R300, R306, R339, R448, R504). -/
def Die.serveCore (fu : Fused) (p : Nat) (im : Image) (d : Die) : Die :=
  let start := if d.on R.FAB_REPLAY_ENABLE p then d.pair64 R.FAB_REPLAY_START_LO R.FAB_REPLAY_START_HI p else 0
  let d := d.onPas p (fun q => { q with adm := true, image := some im, loading := none, going := false, evCounter := 0, rotate := 0
                                        extents := extentsOf im, changed := [], replayEmitted := 0, before := none
                                        wheel := if q.loading.isSome then q.wheelNew else q.wheel, wheelNew := [], attic := q.atticNew })
  let d := (enginesOf im).foldl (fun d e => match engOf im e with
    | some ei => d.onEng e p (fun _ => startEng im ei start)
    | none => d) d
  let d := d.loadAll fu p im
  let d := match im.upd with | some u => (d.put R.UPD_STATUS_EXPORT_RESULT u.engine 0).flag R.UPD_STATUS_EXPORT_BUSY u.engine false | none => d
  let d := (d.put R.FAB_CAL_STATUS_RESULT p 0).put R.FAB_SCALE_NOW_APPLY_RESULT p 0
  let fold := match im.engines with | ei :: _ => ei.fold | [] => 0
  let mask := ((enginesOf im).map (fun e => 2 ^ e)).sum
  let d := (((d.put R.FAB_STATUS_MEMBERS p mask).put R.FAB_STATUS_FOLD p fold).put R.FAB_STATUS_IN_FLIGHT p (d.inFlight p)).put
    R.PAS_IMAGE_ID_IMAGE_ID p im.imageId
  let d := ((d.put R.PAS_CERT_CERT_NS p im.certNs).put R.PAS_CERT_ENTRY_WAIT p im.entryWait).put R.PAS_ADMIT_STATUS_STATE p 4
  (d.flag R.PAS_ADMIT_STATUS_BUSY p false).setFloors.recheck

/-- The image is admitted (R298, R306). -/
def Die.serve (fu : Fused) (p : Nat) (im : Image) (d : Die) : Die :=
  ((d.serveCore fu p im).put R.PAS_ADMIT_STATUS_CODE p 0).count T.PAS_ADMITS p

/-- ADMISSION_LOAD_DONE (R298 to R300, R360, R532): the new image serves; or the old image of a REPLACE that failed serves again. -/
def Die.admissionLoadDone (fu : Fused) (p : Nat) (d : Die) : Die :=
  let q := d.pasture p
  let engines := match q.loading, q.image with
    | some im, _ => enginesOf im
    | none, some im => enginesOf im
    | none, none => []
  if !q.going || engines.any (fun e => (d.sheep e).muster) || !(d.loadTurn (8 + p)) then d
  else match q.loading, q.image with
    | some im, old =>
      let d := match old with
        | some o =>
          let d := (enginesOf o).foldl (fun (d : Die) e => if (enginesOf im).contains e then d else d.onEng e p (fun _ => {})) d
          match o.upd with
          | some u => if im.upd.any (fun (v : UpdHdr) => v.engine == u.engine) then d else d.updGone u.engine
          | none => d
        | none => d
      ((d.steerIn p im).larderIn p im).serve fu p im
    | none, some im =>
      if q.adm then
        let d := (d.loadAll fu p im).onPas p (fun q => { q with going := false })
        (d.put R.PAS_ADMIT_STATUS_STATE p 4).flag R.PAS_ADMIT_STATUS_BUSY p false
      else d.serve fu p im
    | none, none => d

/-- ADMISSION_LOAD_DONE. -/
def execAdmissionLoadDone (p : Nat) (s : State) : Host.Outcome State Fault Refusal :=
  dieCmd (decide (p < 64)) (fun s => s.die.admissionLoadDone s.fused p) s

/-- The quarters of a pasture hold nothing (R301). -/
def Die.emptyQuarters (p : Nat) (d : Die) : Die :=
  (List.range 8).foldl (fun d e =>
    let d := (d.quartersOf e p).foldl (fun d q =>
      { d.setQ e q 0 with loads := KMap.set (0, 0, 0) d.loads (e * 4 + q) (0, 0, 0)
                          closed := KMap.set false d.closed (e * 4 + q) false
                          tiles := KMap.keep d.tiles (fun t => !(t / 128 == e * 4 + q)) }) d
    (d.onEng e p (fun _ => {})).setBusy e) d

/-- The pasture has no image: what admission wrote is gone (R297, R301, R448); its Larder and its tallies stay. -/
def Die.dropImage (p : Nat) (d : Die) : Die :=
  let d := match (d.image p).bind (fun im => im.upd) with | some u => d.updGone u.engine | none => d
  let d := ((d.calEnd p).emptyQuarters p).unsteer p
  let d := { d with entries := KMap.keep d.entries (fun k => k % 64 != p), looked := KMap.set [] d.looked p [] }
  let d := d.onPas p (fun q => { q with image := none, adm := false, loading := none, going := false, leaving := 0, extents := 0, changed := []
                                        cal := {}, wheel := [], wheelNew := [] })
  let d := (((d.put R.FAB_STATUS_MEMBERS p 0).put R.FAB_STATUS_FOLD p 0).put R.FAB_STATUS_IN_FLIGHT p 0).put R.PAS_IMAGE_ID_IMAGE_ID p 0
  let d := ((d.put R.PAS_CERT_CERT_NS p 0).put R.PAS_CERT_ENTRY_WAIT p 0).put R.PAS_ADMIT_STATUS_STATE p 0
  (d.flag R.PAS_ADMIT_STATUS_BUSY p false).setFloors.recheck

/-- An admission in progress ends with a code (R146, R297, R299, R302): the old image is loaded again if its quarters were taken, else it
serves on; without one the pasture has no image. A reload of the old image goes on: its admission has ended, and the old image stays
admitted (R299, R302). -/
def Die.abortAdmission (p code : Nat) (d : Die) : Die :=
  let q := d.pasture p
  if q.reading then d.refuse p code {}
  else if q.going then
    match q.loading, q.image with
    | some im, some old =>
      let rid := (d.imageQuarters p im).filter (fun y => !((enginesOf old).contains y.1))
      let d := { d with loads := KMap.keep d.loads (fun k => !((d.imageQuarters p im).any (fun y => y.1 * 4 + y.2 == k))) }
      let d := rid.foldl (fun d y => d.setQ y.1 y.2 0) d
      let d := (d.onPas p (fun q => { q with loading := none, wheelNew := [], extents := extentsOf old })).beginLoads p old 2
      (d.put R.PAS_ADMIT_STATUS_CODE p code).count T.PAS_REFUSALS p
    | none, some _ =>
      if q.adm then d
      else
        let d := (d.dropImage p).larderBack p
        if code = 0 then d else (d.put R.PAS_ADMIT_STATUS_CODE p code).count T.PAS_REFUSALS p
    | _, none =>
      let d := (d.dropImage p).larderBack p
      if code = 0 then d else (d.put R.PAS_ADMIT_STATUS_CODE p code).count T.PAS_REFUSALS p
  else match q.loading, q.image with
    | some _, some old =>
      let d := (d.imageQuarters p old).foldl (fun d y => d.openEntry y.1 y.2) d
      (d.onPas p (fun q => { q with extents := extentsOf old })).refuse p code {}
    | _, _ => d

/-- A load of an admission ends without its block (R146, R299): the new image fails with 0x0901; a failed reload of the old one leaves no
image. -/
def Die.loadFailed (p : Nat) (d : Die) : Die :=
  if (d.pasture p).going && (d.pasture p).loading.isNone && (d.pasture p).adm then d.dropImage p else d.abortAdmission p 0x0901

/-- ADMIT (R295, R296, R299). DESIGN CHOICE (log 146): the last byte comes after a free number of nanoseconds, within the image's length at
8 GB/s (R296). -/
def Die.startAdmission (p : Nat) (d : Die) : Die :=
  if d.on R.PAS_ADMIT_STATUS_BUSY p then d
  else
    let v := d.draw
    ((v.2.put R.PAS_ADMIT_STATUS_STATE p 1).flag R.PAS_ADMIT_STATUS_BUSY p true).onPas p (fun q =>
      { q with reading := true, replace := d.on R.PAS_ADMIT_REPLACE p
               readNs := d.ns + v.1.toNat % (d.get R.PAS_IMAGE_LEN_LENGTH p / 8 + 1) })

/-- The image of pasture p is read and its checks run (R296, R306). -/
def Die.readTick (p : Nat) (d : Die) : Die :=
  let q := d.pasture p
  if q.reading && decide (q.readNs ≤ d.ns) && d.get R.PAS_ADMIT_STATUS_STATE p == 1 then d.put R.PAS_ADMIT_STATUS_STATE p 2 else d

/-- Drop what waits in a pasture's feed queues, at the Larder and at its entries (R301). -/
def Die.dropWaiting (p : Nat) (d : Die) : Die :=
  let fed := ((d.feeds.filter (fun y => y.1 % 64 == p)).map (fun y => y.2.length)).sum
  let d := { d with feeds := KMap.keep d.feeds (fun k => k % 64 != p) }.countBy T.PAS_QUEUE_DROP p fed
  let evs := KMap.get [] d.looked p ++ (d.entries.filter (fun y => y.1 % 64 == p)).flatMap (fun y => y.2)
  let d := { d with looked := KMap.set [] d.looked p [], entries := KMap.keep d.entries (fun k => k % 64 != p) }
  evs.foldl (fun d v => d.clearMarker p v.ticket) (d.countBy T.FAB_ENTRY_DROP p evs.length)

/-- WITHDRAW (R301). -/
def Die.withdraw (p : Nat) (d : Die) : Die :=
  if d.on R.PAS_ADMIT_STATUS_BUSY p then d
  else if !(d.admitted p) then d.put R.PAS_ADMIT_STATUS_CODE p 0
  else
    let d := ((d.put R.PAS_ADMIT_STATUS_STATE p 5).flag R.PAS_ADMIT_STATUS_BUSY p true).onPas p (fun q => { q with leaving := 1 })
    let es := match d.image p with | some im => enginesOf im | none => []
    (es.foldl (fun d e => (d.closeEntry e p).setBusy e) (d.unsteer p)).dropWaiting p

/-- A write of PAS_ADMIT (R306, R596). -/
def pasAdmitW (p w : Nat) (d : Die) : Die :=
  let d := d.setFields .PAS p 0x01C w
  match lowestWo w [0, 1] with
  | some 0 => d.startAdmission p
  | some _ => d.withdraw p
  | none => d

/-- ADMIT. -/
def execAdmitImage (src : Source) (p : Nat) (w : Word) (s : State) : Host.Outcome State Fault Refusal :=
  dieCmd (decide (p < 64)) (writeDie src (blockAddr .PAS p 0x01C) (pasAdmitW p w.toNat)) s

/-- WITHDRAW. -/
def execWithdraw (src : Source) (p : Nat) (w : Word) (s : State) : Host.Outcome State Fault Refusal :=
  dieCmd (decide (p < 64)) (writeDie src (blockAddr .PAS p 0x01C) (pasAdmitW p w.toNat)) s

/-- WITHDRAW_SLOTS_RETIRED (R301, step 4). -/
def State.slotsRetired (p : Nat) (s : State) : State :=
  if (s.die.pasture p).leaving = 1 ∧ s.die.inFlight p = 0 then
    let s := s.discardLaunches (fun e => e.pasture == p && e.mode != 0) T.EGR_WITHDRAW_DROP
    { s with die := s.die.onPas p (fun q => { q with leaving := 2 }) }
  else s

/-- WITHDRAW_SLOTS_RETIRED. -/
def execWithdrawSlotsRetired (p : Nat) (s : State) : Host.Outcome State Fault Refusal := guardU (decide (p < 64)) (s.slotsRetired p)

/-- Every launch queue of pasture p is empty: what is chosen or committed is still in its queue. -/
def Die.launchIdle (d : Die) (p : Nat) : Bool :=
  (List.range 8).all (fun q => (KMap.get [] d.launch (p * 8 + q)).isEmpty)

/-- WITHDRAW_QUEUES_EMPTY (R301, step 5). -/
def Die.queuesEmpty (p : Nat) (d : Die) : Die :=
  if (d.pasture p).leaving = 2 ∧ d.launchIdle p = true then (d.dropImage p).put R.PAS_ADMIT_STATUS_CODE p 0 else d

/-- WITHDRAW_QUEUES_EMPTY. -/
def execWithdrawQueuesEmpty (p : Nat) (s : State) : Host.Outcome State Fault Refusal :=
  dieCmd (decide (p < 64)) (fun s => s.die.queuesEmpty p) s

/-- QUIESCE_DONE (R143, R299): the entry is closed and no slot of the pasture is in flight there. -/
def execQuiesceDone (e q : Nat) (s : State) : Host.Outcome State Fault Refusal :=
  dieCmd (decide (e < 8) && decide (q < 4)) (fun s =>
    let d := s.die
    match d.quarterOwner e q with
    | none => d
    | some p =>
      if d.qstate e q = 2 ∧ KMap.get false d.closed (e * 4 + q) = true ∧ (d.engPas e p).flight.isEmpty then
        ((d.setQ e q 3).setBusy e).replaceGo p
      else d) s

end Sys2Proof.Machine
end

