-- ==== Sys2Proof/Machine/Clock.lean ====
section
/-! DEFINITION. Modes, clock points and the master PLL (R29 to R35, R302, R577), shedding under a power cap (R349 to R352, R571, R573)
and replay pastures (R357 to R362), and their commands. -/

namespace Sys2Proof.Machine

/-- A clock point is allowed under a profile for a grade (R32): 0, or the REFUSE code. DESIGN CHOICE (log 123): of a point that is both above
the grade's maximum and outside the profile's limits the code is 2. -/
def Fused.pointRefuse (f : Fused) (profile point : Nat) : Nat :=
  if f.maxMHz < pointMHz point then 2 else if point = 2 ∧ profile ≠ 0 then 3 else 0

/-- Locked mode at a point is allowed under a profile for a grade (R32): 0, or the REFUSE code. -/
def Fused.lockedRefuse (f : Fused) (profile point : Nat) : Nat :=
  if f.pointRefuse profile point ≠ 0 then f.pointRefuse profile point else if profile = 2 then 3 else 0

/-- A request for a mode and a point is allowed under a profile for a grade (R32): 0, or the REFUSE code. DEDUCED (log 145): a request for
Free mode is held to the limits of the point it names. -/
def Fused.timingRefuse (f : Fused) (profile mode point : Nat) : Nat :=
  if mode = 0 then f.pointRefuse profile point else f.lockedRefuse profile point

/-- End every admission in progress (R302). -/
def Die.abortAdmissions (code : Nat) (d : Die) : Die :=
  pastures.foldl (fun d p =>
    if d.on R.PAS_ADMIT_STATUS_BUSY p && (d.pasture p).leaving == 0 then d.abortAdmission p code else d) d

/-- APPLY of DEV_TIMING (R30 to R33, R302). DESIGN CHOICE (log 125): a request is held to the profile in force and to one that an accepted
change is bringing. -/
def Die.timingApply (fu : Fused) (d : Die) : Die :=
  if d.on R.DEV_TIMING_STATUS_BUSY then d
  else
    let mode := d.get R.DEV_TIMING_MODE
    let point := d.get R.DEV_TIMING_POINT
    let d := d.abortAdmissions 0x0903
    let now := fu.timingRefuse (d.get R.PWR_STATUS_PROFILE) mode point
    let soon := match d.profilePending with | some y => fu.timingRefuse y mode point | none => 0
    let code := if d.anyAdmitted then 1
      else if now ≠ 0 then now
      else if soon ≠ 0 then soon
      else if mode = 0 ∨ d.on R.DEV_TIMING_STATUS_PLL_LOCK = true then 0
      else 4
    let d := d.put R.DEV_TIMING_STATUS_REFUSE 0 code
    if code = 0 then { d.flag R.DEV_TIMING_STATUS_BUSY 0 true with timingPending := some (mode, point) } else d

/-- A write of DEV_TIMING (R30). -/
def devTimingW (fu : Fused) (w : Nat) (d : Die) : Die :=
  let d := d.setFields .DEV 0 0x010 w
  if bit w 31 then d.timingApply fu else d

/-- TIMING_APPLY. -/
def execTimingApply (src : Source) (w : Word) (s : State) : Host.Outcome State Fault Refusal :=
  dieCmd true (fun s => writeDie src (blockAddr .DEV 0 0x010) (devTimingW s.fused w.toNat) s) s

/-- The change is in force (R30, R33); in Free mode POINT keeps the point last in force in Locked mode. -/
def Die.timingDone (d : Die) : Die :=
  match d.timingPending with
  | none => d
  | some (m, pt) =>
    let d := { (d.put R.DEV_TIMING_STATUS_MODE 0 m).flag R.DEV_TIMING_STATUS_BUSY 0 false with timingPending := none }
    if m = 1 then d.put R.DEV_TIMING_STATUS_POINT 0 pt else d

/-- TIMING_CHANGE_DONE. -/
def execTimingChangeDone (s : State) : Host.Outcome State Fault Refusal := .next (onDie Die.timingDone s)

/-- REF250_LOST (R35): REF250 is lost while it is the reference in use. -/
def execRef250Lost (s : State) : Host.Outcome State Fault Refusal :=
  .next (onDie (fun d => if d.refParent then d else d.refLoss) s)

/-- The wait for REF250 at start-up ends without it (R367, R577). -/
def Die.refWaitEnd (d : Die) : Die :=
  if d.refWait then { d.flag R.DEV_TIMING_STATUS_HOLDOVER 0 true with refWait := false, fcRun := true } else d

/-- REF250_WAIT_END. -/
def execRef250WaitEnd (s : State) : Host.Outcome State Fault Refusal := .next (onDie Die.refWaitEnd s)

/-- REF250_RETURN (R577): the PLL begins to pull in. -/
def execRef250Return (s : State) : Host.Outcome State Fault Refusal :=
  .next (onDie (fun d => if d.refParent || !(d.on R.DEV_TIMING_STATUS_HOLDOVER) then d else d.refBack) s)

/-- The PLL is locked again (R30, R577). -/
def Die.pulledIn (d : Die) : Die :=
  if d.pullIn then
    { (d.flag R.DEV_TIMING_STATUS_HOLDOVER 0 false).flag R.DEV_TIMING_STATUS_PLL_LOCK 0 true with pullIn := false }
  else d

/-- PLL_PULL_IN_DONE. -/
def execPllPullInDone (s : State) : Host.Outcome State Fault Refusal := .next (onDie Die.pulledIn s)

/-- Package power of a profile in W (R570). -/
def profileWatts (p : Nat) : Nat := if p = 0 then 300 else if p = 1 then 220 else 150

/-- Pfix of a profile in mW (R570, R573). -/
def profileFixed (p : Nat) : Nat := if p = 0 then 67000 else if p = 1 then 52000 else 38000

/-- The cap in force in W (R571). -/
def Die.cap (d : Die) : Nat :=
  let w := profileWatts (d.get R.PWR_STATUS_PROFILE)
  let c := d.get R.PWR_CAP_WATTS
  if c = 0 ∨ w < c then w else c

/-- The highest floor of the admitted Free-mode images on engine e (R48). -/
def Die.floorMHz (d : Die) (e : Nat) : Nat :=
  (pastures.map (fun p => match d.image p with
    | some im => if d.admitted p && !im.locked && (engOf im e).isSome then im.fMHz else 0
    | none => 0)).foldl max 0

/-- The clock of engine e in MHz (R22, R30, R48, R572). -/
def Die.engineMHz (d : Die) (fu : Fused) (e : Nat) : Nat :=
  if d.freeMode then max (fu.profileMHz (d.get R.PWR_STATUS_PROFILE)) (d.floorMHz e) else pointMHz (d.get R.DEV_TIMING_STATUS_POINT)

/-- vf of an engine clock (R573). -/
def voltFactor (mhz : Nat) : Nat :=
  if mhz = 2000 then 1000 else if mhz = 1750 then 820 else if mhz = 1500 then 680 else if mhz = 1250 then 520 else 400

/-- Doze gates the island of engine e (R578): no image and no update grant names it. -/
def Die.gated (d : Die) (e : Nat) : Bool :=
  d.get R.PWR_STATUS_STATE == 1 && (d.updOwner e).isNone
    && pastures.all (fun p => match d.image p with | some im => (engOf im e).isNone | none => true)

/-- The island of engine e is powered (R4, R578). -/
def Die.powered (d : Die) (fu : Fused) (e : Nat) : Bool := decide (e < fu.engines) && !(d.gated e)

/-- Lanes and ports with ENABLE at 1. -/
def Die.lanesEnabled (d : Die) : Nat :=
  ((List.range 64).filter (fun l => d.on R.LNK_CONTROL_ENABLE l)).length + ((List.range 16).filter (fun t => d.on R.ETH_CONTROL_ENABLE t)).length

/-- estimate_mw (R573). -/
def Die.estimate (fu : Fused) (a : List Activity) (d : Die) : Nat :=
  let fj := ((indexed a).map (fun y =>
    if d.powered fu y.1 then (21200 * y.2.passes + 2600 * y.2.lines + 900 * y.2.beats) * voltFactor (d.engineMHz fu y.1) / 1000 else 0)).sum
  profileFixed (d.get R.PWR_STATUS_PROFILE) + 350 * d.lanesEnabled + fj / 1000000

/-- SHED_EVALUATE (R350, R352, R571, R573): one evaluation of the estimate. -/
def Die.shedEvaluate (fu : Fused) (a : List Activity) (d : Die) : Die :=
  let mw := d.estimate fu a
  let cap := d.cap
  let l := d.get R.DEV_SHED_STATUS_LEVEL
  let d := d.put R.PWR_ESTIMATE_ESTIMATE 0 (mw / 1000)
  let calm := decide (mw * 100 ≤ cap * 95000)
  let n := if calm then d.shedLow + 1 else 0
  if cap * 1000 < mw then
    let l := min 64 (l + 1)
    { (d.put R.DEV_SHED_STATUS_LEVEL 0 l).put R.DEV_SHED_STATUS_PEAK 0 (max l (d.get R.DEV_SHED_STATUS_PEAK)) with shedLow := 0 }
  else if 64 ≤ n then { d.put R.DEV_SHED_STATUS_LEVEL 0 (l - 1) with shedLow := 0 }
  else { d with shedLow := n }

/-- SHED_EVALUATE. -/
def execShedEvaluate (a : List Activity) (s : State) : Host.Outcome State Fault Refusal :=
  .next (onDie (Die.shedEvaluate s.fused a) s)

/-- A write of DEV_SHED_STATUS (R352). -/
def devShedW (w : Nat) (d : Die) : Die :=
  if bit w 31 then d.put R.DEV_SHED_STATUS_PEAK 0 (d.get R.DEV_SHED_STATUS_LEVEL) else d

/-- PEAK_CLEAR. -/
def execPeakClear (src : Source) (w : Word) (s : State) : Host.Outcome State Fault Refusal :=
  dieCmd true (writeDie src (blockAddr .DEV 0 0x804) (devShedW w.toNat)) s

/-- CLOSE in a replay pasture (R362). -/
def Die.replayClose (p : Nat) (d : Die) : Die :=
  if d.on R.FAB_REPLAY_ENABLE p then
    match ((d.image p).bind (fun im => im.upd)).bind (fun u => d.updCtx u.engine) with
    | some x => if x.p = p then d.closeBatch x else d
    | none => d
  else d

/-- A write of FAB_REPLAY (R357, R362, R364): ENABLE changes only without an admitted image. -/
def fabReplayW (p w : Nat) (d : Die) : Die :=
  let d := if bit w 0 = d.on R.FAB_REPLAY_ENABLE p then d
    else if d.admitted p then d.flag R.FAB_REPLAY_STATUS_REFUSED p true
    else d.setFields .FAB p 0x030 w
  if bit w 1 then d.replayClose p else d

/-- REPLAY_ENABLE. -/
def execReplayEnable (src : Source) (p : Nat) (w : Word) (s : State) : Host.Outcome State Fault Refusal :=
  dieCmd (decide (p < 64)) (writeDie src (blockAddr .FAB p 0x030) (fabReplayW p w.toNat)) s

/-- REPLAY_CLOSE. -/
def execReplayClose (src : Source) (p : Nat) (w : Word) (s : State) : Host.Outcome State Fault Refusal :=
  dieCmd (decide (p < 64)) (writeDie src (blockAddr .FAB p 0x030) (fabReplayW p w.toNat)) s

/-- REPLAY_LIMIT (R359, R364): a word of the limit; a parser held at the old limit goes on once its record count allows. -/
def execReplayLimit (src : Source) (p : Nat) (upper : Bool) (w : Word) (s : State) : Host.Outcome State Fault Refusal :=
  dieCmd (decide (p < 64)) (writeDie src (blockAddr .FAB p (if upper then 0x038 else 0x034))
    (Die.setFields .FAB p (if upper then 0x038 else 0x034) w.toNat)) s

end Sys2Proof.Machine
end

