-- ==== Sys2Proof/Machine/Launch.lean ====
section
/-! DEFINITION. The transmit scheduler and the first bit at a pin (R388 to R396, R404, R640), the TX timestamp queue (R383), the
owner's PTP frames (R381, R615), the end of a TRIG pulse (R234, R631), and the decision ring's MSI-X vector (R611), with their commands. -/

namespace Sys2Proof.Machine

/-- The port is ACTIVE (R417, R429). -/
def Die.portUp (d : Die) (kind n : Nat) : Bool :=
  if kind = 1 then decide (n < 16) && d.on R.ETH_STATUS_ACTIVE n else decide (n < 64) && d.laneState n == 4

/-- Where an entry goes: its port, else its ALT, else nowhere (R395, R396). -/
def Die.routeOf (d : Die) (e : LaunchEnt) : Option Nat :=
  if d.portUp e.kind e.port then some e.port else if e.alt ≠ 255 ∧ d.portUp e.kind e.alt then some e.alt else none

/-- The slots that hold on a port: a reservation of a port that is not ACTIVE holds on the ALT of the pasture's templates of that
port (R393, R395). -/
def Die.portSlots (d : Die) (kind n : Nat) : List (Nat × SlotRes) :=
  pastures.flatMap (fun p => match d.image p with
    | none => []
    | some im => ((if d.admitted p then im.slotRes else []).filter (fun r => r.kind == kind && (r.port == n
        || (!(d.portUp kind r.port) && im.templates.any (fun t => t.kind == kind && t.port == r.port && t.alt == n))))).map (fun r => (p, r)))

/-- A slot covers an instant (R393). -/
def slotCovers (r : SlotRes) (t21 : Nat) : Bool := decide ((t21 / 21000 + (r.period - r.phase % r.period)) % r.period < r.len)

/-- Pasture p comes before q by rank, then by lowest number (R394). -/
def Die.before (d : Die) (p q : Nat) : Bool := decide (d.rank q < d.rank p) || (d.rank p == d.rank q && decide (p < q))

/-- The pastures whose slots cover an instant on a port. -/
def Die.covering (d : Die) (kind n t21 : Nat) : List Nat :=
  pastures.filter (fun p => (d.portSlots kind n).any (fun x => x.1 == p && slotCovers x.2 t21))

/-- The pasture that keeps its slot at an instant: the highest in rank of those covered (R395). -/
def Die.slotOwner (d : Die) (kind n t21 : Nat) : Option Nat :=
  (d.covering kind n t21).find? (fun p => (d.covering kind n t21).all (fun q => q == p || d.before p q))

/-- The frame of pasture p would still be on the line when a slot of another pasture begins (R394); a slot that p's own, higher in
rank, covers does not count (R395). -/
def Die.crossesSlot (d : Die) (p kind n start len : Nat) : Bool :=
  let fin := start + (frameWords kind len).1 * d.wordUnits kind n
  (d.portSlots kind n).any (fun x =>
    let f0 := start / 21000 + 1
    let z := f0 + (x.2.phase % x.2.period + (x.2.period - f0 % x.2.period)) % x.2.period
    x.1 != p && decide (z * 21000 < fin)
      && !(d.before p x.1 && (d.portSlots kind n).any (fun y => y.1 == p && slotCovers y.2 (z * 21000))))

/-- The target of an entry relative to the present FC (R368). -/
def Die.toTarget (d : Die) (e : LaunchEnt) : Int := sdiff 64 e.target d.fc

/-- The target in units of 1/21 ps. -/
def Die.target21 (d : Die) (e : LaunchEnt) : Int := ((d.fc : Int) + d.toTarget e) * 21000

/-- An entry may start at s: its not-before has come (R389). -/
def Die.readyBy (d : Die) (e : LaunchEnt) (s : Nat) : Bool := e.mode == 0 || decide (d.target21 e ≤ (s : Int))

/-- An entry that starts at s is on time (R390). -/
def Die.onTime (d : Die) (e : LaunchEnt) (wc s : Nat) : Bool :=
  if e.mode = 0 then true
  else if e.mode = 1 then decide (d.target21 e ≤ (s : Int)) && decide ((s : Int) < d.target21 e + (wc : Int))
  else decide ((s : Int) ≤ d.target21 e + ((e.win * 21000 : Nat) : Int))

/-- The heads of the launch queues, with the queue's key, lowest pasture and queue first. -/
def Die.heads (d : Die) : List (Nat × LaunchEnt) :=
  (List.range 512).filterMap (fun k => match KMap.get [] d.launch k with | e :: _ => some (k, e) | [] => none)

/-- Take the head of a launch queue away. -/
def Die.popLaunch (k : Nat) (d : Die) : Die := { d with launch := KMap.upd [] d.launch k (fun q => q.drop 1) }

/-- A queue's head that reads poisoned as it is taken up is discarded (R509, R513). -/
def State.dropPoisoned (k : Nat) (s : State) : State :=
  match s.die.chosen k, KMap.get [] s.die.launch k with
  | true, _ => s
  | _, [] => s
  | false, e :: _ =>
    let rd := s.die.eccRead s.fused 12 k none (some e.pasture)
    if rd.1 || e.poison then
      { s with die := ((rd.2.eccClear 12 k).popLaunch k).consumePoison e.pasture, cel := if e.audited then s.cel.release 1 else s.cel }
    else { s with die := rd.2 }

/-- The end of the frames on a port's line and of those committed to it, with what must follow them. -/
def Die.lineFree (d : Die) (kind n : Nat) : Nat :=
  let x := KMap.get {} d.ports (kind * 64 + n)
  x.line.foldl (fun a f => max a (f.start + (frameWords kind f.ent.bytes.length).2 * d.wordUnits kind n)) x.busyTo

/-- The port is free for a start at s (R389, R391): nothing is chosen for it, the frames before have ended, and s is the first word
boundary that Dtx leaves. -/
def Die.portFree (d : Die) (kind n s : Nat) : Bool :=
  let x := KMap.get {} d.ports (kind * 64 + n)
  let wc := d.wordUnits kind n
  d.portUp kind n && x.sched.isNone && decide (d.lineFree kind n ≤ s) && decide (d.now21 + d.dtx kind n ≤ s)
    && decide (s < d.now21 + 21000 + d.dtx kind n + wc) && (d.freeMode || s % wc == 0)

/-- A lane has a frame that goes before launches (R438, R457): a SYNC frame or a ready B frame. -/
def Die.firstOnLane (d : Die) (l : Nat) : Bool :=
  (d.lane l).sWaits.any (fun x => x.1 == 63) || (d.agreed l 2 && ((d.lane l).b.next? 2).isSome)

/-- The ready entries for a start at s on a port. -/
def Die.readyFor (d : Die) (kind n s : Nat) : List (Nat × LaunchEnt) :=
  d.heads.filter (fun x => x.2.kind == kind && d.routeOf x.2 == some n && d.readyBy x.2 s && !(d.chosen x.1)
    && !(d.crossesSlot x.2.pasture kind n s x.2.bytes.length))

/-- The entry chosen among the ready ones: the slot owner's, else the highest rank's, then the lowest queue's (R394). -/
def Die.choose (d : Die) (kind n s : Nat) : Option (Nat × LaunchEnt) :=
  let l := d.readyFor kind n s
  let own := match d.slotOwner kind n s with
    | some p => l.find? (fun x => x.2.pasture == p)
    | none => none
  match own with
  | some x => some x
  | none => l.find? (fun x => l.all (fun y => y.2.pasture == x.2.pasture || d.before x.2.pasture y.2.pasture))

/-- A pasture whose slot yields at s while an entry of it is ready counts SLOT_BREAK (R395). -/
def Die.breakSlots (kind n s : Nat) (d : Die) : Die :=
  match d.slotOwner kind n s with
  | none => d
  | some p => (d.covering kind n s).foldl (fun d q =>
      if q ≠ p ∧ (d.readyFor kind n s).any (fun x => x.2.pasture == q) ∧ (d.readyFor kind n s).any (fun x => x.2.pasture == p)
      then d.count T.EGR_SLOT_BREAK q else d) d

/-- FRAME_START (R389, R394, R395, R438, R513): a free port chooses the first ready entry for its start at s; on a lane a B frame goes first. -/
def State.frameStart (kind n s21 : Nat) (s : State) : State :=
  if s.die.portFree kind n s21 && !(kind == 2 && s.die.firstOnLane n) then
    let s := (List.range 512).foldl (fun s k => s.dropPoisoned k) s
    match s.die.choose kind n s21 with
    | none => s
    | some (_, e) =>
      let d := s.die.breakSlots kind n s21
      { s with die := { d with ports := KMap.upd {} d.ports (kind * 64 + n) (fun x => { x with sched := some e, start := s21 }) } }
  else s

/-- FRAME_START. -/
def execFrameStart (kind port boundary : Nat) (s : State) : Host.Outcome State Fault Refusal :=
  guardU (decide ((kind = 1 ∧ port < 16) ∨ (kind = 2 ∧ port < 64))) (s.frameStart kind port boundary)

/-- The chosen entry of a port is discarded; its reservation is released (R392). -/
def State.dropSched (key : Nat) (e : LaunchEnt) (t : Tal) (i : Nat) (s : State) : State :=
  let d := (s.die.count t i).popLaunch e.key
  { s with die := { d with ports := KMap.upd {} d.ports key (fun x => { x with sched := none, start := 0 }) }
           cel := if e.audited then s.cel.release 1 else s.cel }

/-- Either KILL channel, or what blocks pin actions like it, at the commit (R391, R466, R574, R637). -/
def State.killAtCommit (p : Nat) (s : State) : Bool := s.gateBlocks || s.die.haltBlocks p

/-- LAUNCH_COMMIT (R390, R391, R465, R492): Dtx before its start the frame is committed, unless the hurdle, KILL, the flock or lateness
stops it; a port that is not ACTIVE any more leaves the frame in its queue (R417). -/
def State.launchCommit (kind n : Nat) (s : State) : State :=
  let key := kind * 64 + n
  let x := KMap.get {} s.die.ports key
  match x.sched with
  | none => s
  | some e =>
    let wc := s.die.wordUnits kind n
    if s.die.portUp kind n = false then { s with die := s.die.unchoose kind n }
    else if !(s.die.mayLaunch e.pasture kind n) then s.dropSched key e (T.OWN_VIOLATION e.pasture) 0
    else if s.killAtCommit e.pasture then s.dropSched key e T.EGR_KILL_DROP e.pasture
    else if e.agreed && !(s.die.agrees) then s.dropSched key e T.FLK_AGREE_REFUSE 0
    else
      let late := !(s.die.onTime e wc x.start)
      if late && !(bit (s.die.get R.EGR_QUEUE_LATE_SEND e.pasture) e.queue) then s.dropSched key e T.EGR_LATE_DROP e.pasture
      else
        let d := if late then s.die.count T.EGR_LATE_SENT e.pasture else s.die
        { s with die := { d with ports := KMap.set {} d.ports key { x with sched := none, start := 0, line := x.line ++ [⟨{ e with late := late }, x.start⟩] } } }

/-- LAUNCH_COMMIT. -/
def execLaunchCommit (kind port : Nat) (s : State) : Host.Outcome State Fault Refusal :=
  guardU (decide ((kind = 1 ∧ port < 16) ∨ (kind = 2 ∧ port < 64))) (s.launchCommit kind port)

/-- An entry of a port's TX timestamp queue (R383). -/
def Die.addTxts (t id tb pas : Nat) (st : Stamp) (d : Die) : Die :=
  let q := KMap.get [] d.txts t
  if q.length < 64 then
    { d with txts := KMap.set [] d.txts t (q ++ [leBytes 2 id ++ leBytes 1 (tb % 8) ++ leBytes 1 (pas % 64) ++ st.bytes]) }
  else
    let d := d.count T.ETH_TXTS_OVF t
    if d.on R.ETH_TXTS_LOST_VALID t then d else (d.put R.ETH_TXTS_LOST_ID t id).flag R.ETH_TXTS_LOST_VALID t true

/-- What a LAUNCH record says of an action beside its times (R404). -/
structure LaunchInfo where
  pasture : Nat
  late : Bool
  egress : Nat
  evid : Nat
  image : Nat
  tmpl : Nat
  inFc16 : Nat

/-- A LAUNCH record enters the launch queue in place of its reservation (R392, R404, R406); its chain position is known when it is
hashed. -/
def Cellar.launchRecord (x : LaunchInfo) (fc16 tb0 : Nat) (c : Cellar) : Cellar :=
  let flags := x.pasture % 64 + (if x.late then 64 else 0) + (if c.sealed then 0 else 128)
  let lat := min (fc16 - x.inFc16) 0xFFFFFFFF
  let bs := [1] ++ leBytes 1 flags ++ leBytes 1 x.egress ++ [0] ++ leBytes 6 x.evid ++ (stamp16 tb0).bytes ++ leBytes 4 x.image
    ++ leBytes 4 lat ++ leBytes 2 x.tmpl
  { c with reserved := c.reserved - 1, launchQ := c.launchQ ++ [⟨bs, c.tc⟩] }

/-- The first edge of a TRIG pulse or extension leaves its pin (R404). -/
def State.trigEdge (pin : Nat) (cap : Capture) (s : State) : State :=
  let x := KMap.get {} s.die.pins pin
  match x.edges with
  | [] => s
  | e :: rest =>
    let s := { s with die := { s.die with pins := KMap.set {} s.die.pins pin { x with edges := rest } } }
    let fc16 := s.cel.capFc (10 + pin) true cap
    let tb0 := s.cel.capTb0 (10 + pin) true cap
    let rec_ := s.cel.launchRecord ⟨e.pasture, e.late, pin, e.evid, e.image, 0xFFFF, e.inFc16⟩ fc16 tb0
    { s with cel := if e.audited then rec_ else s.cel }

/-- The first bit of the oldest committed frame leaves its port, and the entry its queue (R383, R388, R394, R404, R428); a port that is not
ACTIVE any more leaves the frame in its queue (R417). `stile3` of its words crossed from
the Commons to the port in 3 cycles (R29, R348). -/
def State.firstBit (kind n : Nat) (cap : Capture) (stile3 : Nat) (s : State) : State :=
  let key := kind * 64 + n
  let x := KMap.get {} s.die.ports key
  match x.line with
  | [] => s
  | f :: rest =>
    let e := f.ent
    if s.die.portUp kind n = false then { s with die := s.die.unchoose kind n }
    else
      let pt := (if kind = 1 then 42 else 122) + n
      let fc16 := s.cel.capFc pt true cap
      let tb0 := s.cel.capTb0 pt true cap
      let d := ((s.die.count T.EGR_LAUNCHES e.pasture).stile e.pasture stile3 (frameWords kind e.bytes.length).1).popLaunch e.key
      let busy := f.start + (frameWords kind e.bytes.length).2 * d.wordUnits kind n
      let d := { d with ports := KMap.set {} d.ports key { x with line := rest, busyTo := busy } }
      let d := if kind = 1 then d.emit (.frame n (ethLine e.bytes))
        else d.putS n f.start ((byteAt e.bytes 0).toNat % 64) (e.bytes.drop 1)
      let tb := d.get R.ETH_TSCFG_TB n
      let d := if kind = 1 && e.tstamp then
          d.addTxts n (e.evid % 65536) tb e.pasture ((stampsOf d fc16 tb0).getD tb {})
        else d
      let rec_ := s.cel.launchRecord ⟨e.pasture, e.late, kind * 64 + n, e.evid, e.image, e.template, e.inFc16⟩ fc16 tb0
      { s with die := d, cel := if e.audited then rec_ else s.cel }

/-- LAUNCH_FIRST_BIT: kind 0 is a TRIG_OUT pin. -/
def execLaunchFirstBit (kind port : Nat) (x : FirstBit) (s : State) : Host.Outcome State Fault Refusal :=
  guardU (decide ((kind = 0 ∧ port < 16) ∨ (kind = 1 ∧ port < 16) ∨ (kind = 2 ∧ port < 64)))
    (if kind = 0 then s.trigEdge port x.cap else s.firstBit kind port x.cap x.stile3)

/-- PORT_DOWN (R396): the head of a queue has nowhere to go. -/
def State.portDown (p q : Nat) (s : State) : State :=
  let k := p * 8 + q
  match KMap.get [] s.die.launch k with
  | [] => s
  | e :: _ =>
    if (s.die.routeOf e).isSome || s.die.chosen k then s
    else { s with die := (s.die.popLaunch k).count T.EGR_PORT_DOWN p, cel := if e.audited then s.cel.release 1 else s.cel }

/-- PORT_DOWN. -/
def execPortDown (p q : Nat) (s : State) : Host.Outcome State Fault Refusal :=
  guardU (decide (p < 64 ∧ q < 8)) (s.portDown p q)

/-- TRIG_PULSE_END (R234, R631): the pin returns low. -/
def Die.pulseEnd (pin : Nat) (d : Die) : Die :=
  let x := KMap.get {} d.pins pin
  if x.high then
    Die.emit (.trig pin false) { d with pins := KMap.set {} d.pins pin { x with high := false, endCc := 0 } }
  else d

/-- TRIG_PULSE_END. -/
def execTrigPulseEnd (pin : Nat) (s : State) : Host.Outcome State Fault Refusal :=
  dieCmd (decide (pin < 16)) (fun s => s.die.pulseEnd pin) s

/-- MSIX_DEC_FIRE (R611): an armed vector 0 fires once the decision ring holds a message and the holdoff has passed, and disarms. -/
def Die.msixFire (p : Nat) (d : Die) : Die :=
  let fill := (d.get R.PAS_MSG_HEAD_VALUE p + 2 ^ 32 - d.get R.PAS_MSG_TAIL_VALUE p) % 2 ^ 32
  let last := (d.pasture p).msixLast
  if d.on R.PAS_RING_STATUS_DEC_ARMED p && d.on R.PAS_MSIX_DEC_EN p && decide (0 < fill)
      && (last == 0 || decide (d.get R.PAS_MSIX_HOLDOFF p * 1000 ≤ d.ns + 1 - last)) then
    ((d.flag R.PAS_RING_STATUS_DEC_ARMED p false).onPas p (fun x => { x with msixLast := d.ns + 1 })).emit (.msix p 0)
  else d

/-- MSIX_DEC_FIRE. -/
def execMsixDecFire (p : Nat) (s : State) : Host.Outcome State Fault Refusal :=
  dieCmd (decide (p < 64)) (fun s => s.die.msixFire p) s

/-- A write of a count that software keeps: as consumer where the device produces, ignored if the fill would lie outside 0 to size
(R608). -/
def Die.softCount (prod cons : Fld) (lg i : Nat) (producer : Bool) (w : Nat) (d : Die) : Die :=
  let fill := if producer then (w + 2 ^ 32 - d.get cons i) % 2 ^ 32 else (d.get prod i + 2 ^ 32 - w) % 2 ^ 32
  if fill ≤ 2 ^ lg then d.put (if producer then prod else cons) i w else d

/-- A write of PAS_MSG_TAIL (R608, R611): the consumer count, and vector 0 is armed. -/
def msgTailW (p w : Nat) (d : Die) : Die :=
  (d.softCount R.PAS_MSG_HEAD_VALUE R.PAS_MSG_TAIL_VALUE (d.get R.PAS_MSG_CTL_LOG2SIZE p) p false w).flag R.PAS_RING_STATUS_DEC_ARMED p true

/-- MSG_TAIL_WRITE. -/
def execMsgTailWrite (src : Source) (p : Nat) (w : Word) (s : State) : Host.Outcome State Fault Refusal :=
  dieCmd (decide (p < 64)) (writeDie src (blockAddr .PAS p 0x04C) (msgTailW p w.toNat)) s

/-- PTP_TX (R381, R383, R394, R615): the port takes a slot of the PTP transmit ring and sends it, after every launch that is ready, or
skips a bad slot; a frame that would still be on the line when a pasture's slot begins waits. -/
def State.ptpSend (t : Nat) (cap : Capture) (s : State) : State :=
  let d := s.die
  let c := d.get R.ETH_PTPTX_TAIL_VALUE t
  let fill := (d.get R.ETH_PTPTX_HEAD_VALUE t + 2 ^ 32 - c) % 2 ^ 32
  if d.on R.ETH_PTPTX_CTL_ENABLE t && decide (0 < fill) && d.on R.ETH_STATUS_ACTIVE t
      && (KMap.get {} d.ports (64 + t)).sched.isNone && decide (d.lineFree 1 t ≤ d.now21 + d.dtx 1 t)
      && (d.readyFor 1 t (d.now21 + d.dtx 1 t)).isEmpty then
    let slot := d.hostRead 0 (d.addr64 R.ETH_PTPTX_BASE_LO R.ETH_PTPTX_BASE_HI t + c % 2 ^ d.get R.ETH_PTPTX_CTL_LOG2SIZE t * 2048) 2048
    let len := leNat (slot.take 2)
    let crosses := d.crossesSlot 64 1 t (d.boundary 1 t d.now21 (d.now21 + d.dtx 1 t)) len
    let d := d.put R.ETH_PTPTX_TAIL_VALUE t (c + 1)
    if len < 60 ∨ 1518 < len ∨ (slice slot 4 28).any (fun b => b != 0) then { s with die := d.count T.ETH_PTP_TX_BAD t }
    else if crosses then s
    else
      let tag := leNat (slice slot 2 2)
      let fc16 := s.cel.capFc (42 + t) true cap
      let tb0 := s.cel.capTb0 (42 + t) true cap
      let tb := d.get R.ETH_TSCFG_TB t
      let bs := slice slot 32 len
      let busy := cap.fc16 * 21000 / 16 + (frameWords 1 len).2 * d.wordUnits 1 t
      let d := { d with ports := KMap.upd {} d.ports (64 + t) (fun x => { x with busyTo := busy }) }
      let d := (d.emit (.frame t (ethLine bs))).addTxts t tag tb 63 ((stampsOf d fc16 tb0).getD tb {})
      { s with die := d, cel := s.cel.keepPtp t tag true tb0 }
  else s

/-- PTP_TX. -/
def execPtpTx (t : Nat) (cap : Capture) (s : State) : Host.Outcome State Fault Refusal :=
  guardU (decide (t < 16)) (s.ptpSend t cap)

end Sys2Proof.Machine
end

