-- ==== Sys2Proof/Machine/Cellar.lean ====
section
/-! DEFINITION. Time bases TB1 to TB7 (R370 to R372, R407), the discipline of TB0 (R377 to R380), the seal (R397 to R402), the audit chain
(R403 to R406) and PPS_OUT (R630), with their commands. -/

namespace Sys2Proof.Machine

/-- The bound of a rate word for a slew bound in ppm (R371, R378). -/
def slewLimit (ppm : Nat) : Int := (ppm * 2 ^ 40 / 10 ^ 6 : Nat)

/-- A value held within ± a bound. -/
def clampTo (lim v : Int) : Int := max (-lim) (min lim v)

/-- Put a rate word in force on TBn, clamped under its SLEW; a clamp shows and counts (R371). -/
def Die.setAdj (n : Nat) (v : Int) (d : Die) : Die :=
  let c := clampTo (slewLimit (d.get R.TB_CONTROL_SLEW n)) v
  let d := d.tbBreak n ((d.tb n).at d.fc) c (d.on R.TB_CONTROL_ENABLE n)
  let d := d.put R.TB_ADJ_ADJ n (low c 32)
  if c = v then d else (d.flag R.TB_STATUS_SLEW_CLAMPED n true).count T.TB_SLEW_CLAMP n

/-- A write of TB_ADJ. -/
def tbAdjW (n w : Nat) (d : Die) : Die := d.setAdj n (sext w 32)

/-- TB_ADJ_WRITE. -/
def execTbAdjWrite (src : Source) (n : Nat) (w : Word) (s : State) : Host.Outcome State Fault Refusal :=
  dieCmd (decide (1 ≤ n ∧ n ≤ 7)) (writeDie src (blockAddr .TB n 0x014) (tbAdjW n w.toNat)) s

/-- A write of TB_CONTROL (R370, R371, R372): enable, AUTH, jump threshold, and a slew bound that may clamp the rate in force. -/
def tbControlW (n w : Nat) (d : Die) : Die :=
  let d := d.setFields .TB n 0x010 w
  let on := d.on R.TB_CONTROL_ENABLE n
  let d := (d.tbBreak n ((d.tb n).at d.fc) (d.adj n) on).flag R.TB_STATUS_RUNNING n on
  let lim := slewLimit (d.get R.TB_CONTROL_SLEW n)
  if lim < d.adj n ∨ d.adj n < -lim then d.setAdj n (d.adj n) else d

/-- TB_SLEW_WRITE. -/
def execTbSlewWrite (src : Source) (n : Nat) (w : Word) (s : State) : Host.Outcome State Fault Refusal :=
  dieCmd (decide (1 ≤ n ∧ n ≤ 7)) (writeDie src (blockAddr .TB n 0x010) (tbControlW n w.toNat)) s

/-- Apply a step of v × 2^-16 ns to TBn (R372). -/
def Die.applyStep (n : Nat) (v : Int) (d : Die) : Die :=
  (d.tbBreak n (tbWrap ((d.tb n).at d.fc + v * 2 ^ 24)) (d.adj n) (d.on R.TB_CONTROL_ENABLE n)).count T.TB_STEPS n

/-- The steps accepted for the next FC tick are applied, in order (R372). -/
def Die.stepDue (n : Nat) (d : Die) : Die :=
  match (d.tb n).steps with
  | [] => d
  | vs => vs.foldl (fun d v => d.applyStep n v) { d with tbs := KMap.upd {} d.tbs n (fun t => { t with steps := [] }) }

/-- A step of TBn is requested (R372): each one accepted waits for the next tick. -/
def Die.requestStep (n : Nat) (v : Int) (d : Die) : Die :=
  if d.on R.TB_CONTROL_ENABLE n = false then d.applyStep n v
  else
    let big := decide (d.get R.TB_CONTROL_JUMP n * 100 * 65536 < v.natAbs)
    if big && !(d.on R.TB_CONTROL_AUTH n) then (d.flag R.TB_STATUS_JUMP_REFUSED n true).count T.TB_JUMP_REFUSE n
    else
      let d := if big then d.flag R.TB_CONTROL_AUTH n false else d
      { d with tbs := KMap.upd {} d.tbs n (fun t => { t with steps := t.steps ++ [v] }) }

/-- A write of TB_STEP's lower word. -/
def tbStepLoW (n w : Nat) (d : Die) : Die := { d with tbs := KMap.upd {} d.tbs n (fun t => { t with stepLo := w }) }

/-- A write of TB_STEP's upper word requests the step (R407). -/
def tbStepHiW (n w : Nat) (d : Die) : Die := d.requestStep n (sext ((d.tb n).stepLo + w * 2 ^ 32) 64)

/-- TB_STEP. -/
def execTbStep (src : Source) (n : Nat) (w : Word) (s : State) : Host.Outcome State Fault Refusal :=
  dieCmd (decide (1 ≤ n ∧ n ≤ 7)) (writeDie src (blockAddr .TB n 0x01C) (tbStepHiW n w.toNat)) s

/-- TB_STEP_APPLY. -/
def execTbStepApply (n : Nat) (s : State) : Host.Outcome State Fault Refusal :=
  dieCmd (decide (1 ≤ n ∧ n ≤ 7)) (fun s => s.die.stepDue n) s

/-- CELLAR_SYNC_PAIR (R376). -/
def State.syncPair (s : State) : State :=
  if s.cel.up then { s with die := { s.die with pair := (s.die.fc, s.cel.tb0 / 2 ^ 40) } } else s

/-- CELLAR_SYNC_PAIR. -/
def execCellarSyncPair (s : State) : Host.Outcome State Fault Refusal := .next s.syncPair

/-- TB0's present time. -/
def Cellar.now (c : Cellar) : Stamp := stampOf c.tb0

/-- Entries of the Cellar queue that are taken (R406); an owner step that waits for the next tc has its entry. -/
def Cellar.celUsed (c : Cellar) : Nat := c.celQ.length + (c.slots.filter (fun x => x.frees == 2)).length + c.steps.length

/-- All 32 entries of the Cellar queue are taken (R406). -/
def Cellar.full (c : Cellar) : Bool := decide (32 ≤ c.celUsed)

/-- A record of types 2 to 5 enters the Cellar queue (R405, R406): byte 1, bytes 4 to 9, bytes 22 to 31. -/
def Cellar.record (type b1 : Nat) (mid tail : List Byte) (c : Cellar) : Cellar :=
  let bs := leBytes 1 type ++ leBytes 1 b1 ++ [0, 0] ++ padTo 6 mid ++ c.now.bytes ++ padTo 10 tail
  { c with celQ := c.celQ ++ [⟨bs, c.tc⟩] }

/-- LIM0 (R378). -/
def Cellar.lim0 (c : Cellar) : Int := slewLimit c.settings.slew0

/-- The SOURCE record (R405). -/
def Cellar.sourceRecord (c : Cellar) : Cellar :=
  c.record 5 0 (leBytes 1 (c.get R.CEL_STATUS_SOURCE) ++ leBytes 1 (c.get R.CEL_STATUS_HOLDOVER)) []

/-- The Cellar enters holdover, or leaves it with an ADJ0, and writes the SOURCE record (R379). -/
def State.changeHold (x : Option Int) (s : State) : State :=
  let c := s.cel
  match x with
  | none => { s with cel := Cellar.sourceRecord { c.put R.CEL_STATUS_HOLDOVER 1 with adj0 := clampTo c.lim0 c.freq }, die := s.die.alarm 9 }
  | some a => { s with cel := Cellar.sourceRecord { c.put R.CEL_STATUS_HOLDOVER 0 with adj0 := a } }

/-- The holdover state once the deferred changes have taken place (R406). -/
def Cellar.holdNext (c : Cellar) : Bool :=
  match c.deferHold.getLast? with
  | some x => x.isNone
  | none => c.get R.CEL_STATUS_HOLDOVER == 1

/-- A change of holdover takes place, or is deferred behind the deferred ones while the Cellar queue is full (R406). -/
def State.orDefer (x : Option Int) (s : State) : State :=
  if s.cel.full || !s.cel.deferHold.isEmpty then { s with cel := { s.cel with deferHold := s.cel.deferHold ++ [x] } } else s.changeHold x

/-- The Cellar enters holdover (R379), or defers it (R406). -/
def State.enterHold (s : State) : State := if s.cel.holdNext then s else s.orDefer none

/-- An accepted offset puts its rate word in force (R378): the Cellar leaves holdover with it (R379); while a change is deferred (R406) ADJ0
stays, and the rate is that of the deferred exit. -/
def State.takeRate (a : Int) (s : State) : State :=
  if s.cel.holdNext then s.orDefer (some a)
  else if s.cel.deferHold.isEmpty then { s with cel := { s.cel with adj0 := a } }
  else { s with cel := { s.cel with deferHold := s.cel.deferHold.dropLast ++ [some a] } }

/-- Step TB0 by v × 2^-16 ns with its record (R380, R405), whose TIME is TB0 after the step: `owner` tells the cause. -/
def Cellar.step (v : Int) (owner : Bool) (c : Cellar) : Cellar :=
  let c := { c with tb0 := tbWrap (c.tb0 + v * 2 ^ 24) }
  c.record 2 (b2n owner) [] (leBytes 8 (low v 64))

/-- An offset or a step of TB0 is refused (R378, R380). -/
def State.jumpRefused (s : State) : State :=
  { s with die := (s.die.count T.CEL_JUMP_REFUSE 0).incident 11 6 0 0, cel := s.cel.put R.CEL_STATUS_JUMP_REFUSED 1 }

/-- num / den where it is whole; else one of its two neighbours, a free choice where `halves` is false or where the two are equally
near: the spec does not state how its round and its mean break ties. -/
def Die.roundTo (num : Int) (den : Nat) (halves : Bool) (d : Die) : Int × Die :=
  let q := num / (den : Int)
  let r := (num % (den : Int)).toNat
  if r = 0 then (q, d)
  else if halves ∧ 2 * r < den then (q, d)
  else if halves ∧ den < 2 * r then (q + 1, d)
  else (q + ((d.draw.1.toNat % 2 : Nat) : Int), d.draw.2)

/-- correct(o) (R378) at FC fc: `ref` is the rate word measured against REF10M_IN. -/
def State.correct (o : Int) (fc : Nat) (ref : Int) (s : State) : State :=
  let c := s.cel
  if c.settings.jump0 * 100 * 65536 < o.natAbs then
    if c.get R.CEL_CONTROL_AUTH0 = 1 ∧ c.full = false then { s with cel := (c.step (-o) false).put R.CEL_CONTROL_AUTH0 0 }
    else s.jumpRefused
  else
    let fd : Int × Die :=
      if c.get R.CEL_STATUS_SOURCE = 2 ∧ c.get R.CEL_STATUS_REF10M_PRESENT = 1 then (ref, s.die)
      else match c.oPrev with
        | none => (c.freq, s.die)
        | some p =>
          if fc ≤ c.offFc then (sext s.die.draw.1.toNat 64, s.die.draw.2)
          else
            let r := s.die.roundTo ((o - p) * 2 ^ 24) (4 * (fc - c.offFc)) true
            (c.freq - r.1, r.2)
    let r := fd.2.roundTo (-o * 2 ^ 24) (8 * 10 ^ 9) true
    let s1 : State := { s with die := r.2.count T.CEL_CORRECTIONS 0, cel := { c with freq := fd.1, oPrev := some o, offFc := fc } }
    s1.takeRate (clampTo c.lim0 (fd.1 + r.1))

/-- The offset of a PPS capture in 2^-16 ns (R377). -/
def ppsOffset (tb0 : Nat) : Int :=
  let v : Nat := tb0 % (10 ^ 9 * 65536)
  if v < 5 * 10 ^ 8 * 65536 then (v : Int) else (v : Int) - (10 ^ 9 * 65536 : Nat)

/-- A capture point is an output (R374). -/
def outputPoint (p : Nat) : Bool := p == 1 || (decide (10 ≤ p) && decide (p < 26)) || (decide (42 ≤ p) && decide (p < 58)) || decide (122 ≤ p)

/-- A PPS_IN edge of a calibration that runs (R402): it is one of the 16 consecutive ones, its interval is held to 1 s ± 1 µs, and the Cellar
drives an output point. -/
def State.calEdge (inTime : Bool) (s : State) : State :=
  let c := s.cel
  if c.get R.CEL_STATUS_CAL_BUSY = 1 ∧ c.calEdges < 16 then
    let p := c.get R.CEL_CONTROL_CAL_POINT
    { s with cel := { c with calEdges := c.calEdges + 1, calBad := c.calBad || !inTime }
             die := if outputPoint p then s.die.emit (.drive p) else s.die }
  else s

/-- PPS_EDGE (R377, R378, R402). -/
def State.ppsEdge (cap : Capture) (ref : Int) (s : State) : State :=
  if s.cel.up then
    let present := match s.cel.ppsFc16 with
      | some f => decide (f + 16 * (10 ^ 9 - 1000) ≤ cap.fc16) && decide (cap.fc16 ≤ f + 16 * (10 ^ 9 + 1000))
      | none => false
    let c : Cellar := { s.cel.put R.CEL_STATUS_PPS_PRESENT (b2n present) with ppsFc16 := some cap.fc16 }
    let s := State.calEdge present { s with cel := c }
    if c.get R.CEL_STATUS_SOURCE = 1 ∨ c.get R.CEL_STATUS_SOURCE = 2 then
      s.correct (ppsOffset (c.capTb0 0 false cap)) (c.capFc 0 false cap / 16) ref
    else s
  else s

/-- PPS_EDGE. -/
def execPpsEdge (cap : Capture) (ref : Int) (s : State) : Host.Outcome State Fault Refusal := .next (s.ppsEdge cap ref)

/-- PPS_ABSENT (R377). -/
def execPpsAbsent (s : State) : Host.Outcome State Fault Refusal :=
  .next { s with cel := { s.cel.put R.CEL_STATUS_PPS_PRESENT 0 with ppsFc16 := none } }

/-- TB0_HOLDOVER (R379). -/
def execTb0Holdover (s : State) : Host.Outcome State Fault Refusal := .next (if s.cel.up then s.enterHold else s)

/-- REF10M_PRESENCE (R377). -/
def execRef10mPresence (present : Bool) (s : State) : Host.Outcome State Fault Refusal :=
  .next { s with cel := s.cel.put R.CEL_STATUS_REF10M_PRESENT (b2n present) }

/-- A write of CEL_DISC (R377, R398, R406, R408). -/
def celDiscW (w : Nat) (s : State) : State :=
  let c0 := s.cel
  let c1 := if c0.sealed then c0 else { c0 with settings := { c0.settings with mask := bits w 8 5 } }
  let port := bits w 4 4
  let c2 := if c1.get R.CEL_DISC_PORT = port then c1 else { c1.put R.CEL_DISC_PORT port with ptpCaps := [] }
  let v := bits w 0 3
  if 4 < v then { s with cel := c2 }
  else if bit c2.settings.mask v = false ∨ (c2.full ∧ v ≠ c2.get R.CEL_DISC_SOURCE) then
    { s with cel := c2.put R.CEL_STATUS_DISC_REFUSED 1 }
  else if v = c2.get R.CEL_DISC_SOURCE then { s with cel := c2 }
  else
    let c := (c2.put R.CEL_DISC_SOURCE v).put R.CEL_STATUS_SOURCE v
    if v = 0 ∧ c.get R.CEL_STATUS_HOLDOVER = 0 then
      State.changeHold none { s with cel := c }
    else { s with cel := c.sourceRecord }

/-- SOURCE_SELECT. -/
def execSourceSelect (src : Source) (w : Word) (s : State) : Host.Outcome State Fault Refusal :=
  .next (writeAt src (blockAddr .CEL 0 0x010) (celDiscW w.toNat) s)

/-- A write of CEL_LIMITS (R398, R408): ignored while sealed; a reserved value leaves its field. -/
def celLimitsW (w : Nat) (s : State) : State :=
  if s.cel.sealed then s
  else
    let sl := bits w 0 9
    let ju := bits w 16 16
    let g := s.cel.settings
    { s with cel := { s.cel with settings := { g with
        slew0 := if 1 ≤ sl ∧ sl ≤ 500 then sl else g.slew0
        jump0 := if ju = 0 then g.jump0 else ju } } }

/-- A word of the PTP submission record. -/
def celSubmitW (k w : Nat) (s : State) : State := { s with cel := { s.cel with submit := KMap.set 0 s.cel.submit k w } }

/-- A master's time of 6 bytes of seconds and 4 of nanoseconds, in 2^-16 ns. -/
def ptpTime (bs : List Byte) (i : Nat) : Int := ((leNat (slice bs i 6) * 10 ^ 9 + leNat (slice bs (i + 6) 4)) * 65536 : Nat)

/-- A submission (R377, R382). -/
def State.submitPtp (s : State) : State :=
  let bs := (List.range 8).flatMap (fun k => leBytes 4 (KMap.get 0 s.cel.submit k))
  let so := s.cel.get R.CEL_STATUS_SOURCE
  if so = 3 then
    let find (sent : Bool) (tag : Nat) := s.cel.ptpCaps.find? (fun x => x.1 == tag && x.2.1 == sent)
    match find false (leNat (slice bs 20 2)), find true (leNat (slice bs 22 2)) with
    | some t2, some t3 =>
      let r := s.die.roundTo (((t2.2.2 : Int) - ptpTime bs 0) - (ptpTime bs 10 - (t3.2.2 : Int))) 2 true
      ({ s with die := r.2 }).correct r.1 s.die.fc 0
    | _, _ => { s with die := s.die.count T.CEL_PTP_STALE 0 }
  else if so = 4 then s.correct (sext (leNat (slice bs 24 8)) 64) s.die.fc 0
  else s

/-- PTP_SUBMIT (R382): the write of CEL_PTP_SUBMIT7. -/
def execPtpSubmit (src : Source) (w : Word) (s : State) : Host.Outcome State Fault Refusal :=
  .next (writeAt src (blockAddr .CEL 0 0x05C) (fun s => (celSubmitW 7 w.toNat s).submitPtp) s)

/-- A write of CEL_STEP's lower word. -/
def celStepLoW (w : Nat) (s : State) : State := { s with cel := { s.cel with stepLo := w } }

/-- An owner step needs AUTH0: its magnitude is above JUMP0 (R380). -/
def Cellar.bigStep (c : Cellar) (v : Int) : Bool := decide (c.settings.jump0 * 100 * 65536 < v.natAbs)

/-- A write of CEL_STEP's upper word requests the step (R380, R406): refused, or accepted for the next tc. -/
def celStepHiW (w : Nat) (s : State) : State :=
  let v := sext (s.cel.stepLo + w * 2 ^ 32) 64
  if s.cel.full || (s.cel.bigStep v && s.cel.get R.CEL_CONTROL_AUTH0 == 0) then s.jumpRefused
  else { s with cel := { s.cel with steps := s.cel.steps ++ [v] } }

/-- An accepted owner step at its tc (R380): one above JUMP0 applies while AUTH0 is set, and clears it. -/
def State.ownerStep (v : Int) (s : State) : State :=
  if s.cel.bigStep v then
    if s.cel.get R.CEL_CONTROL_AUTH0 = 1 then { s with cel := (s.cel.step v true).put R.CEL_CONTROL_AUTH0 0 } else s.jumpRefused
  else { s with cel := s.cel.step v true }

/-- The owner steps that wait apply at a tc, in order (R380). -/
def State.ownerSteps (s : State) : State := s.cel.steps.foldl (fun s v => s.ownerStep v) { s with cel := { s.cel with steps := [] } }

/-- CEL_STEP. -/
def execCelStep (src : Source) (w : Word) (s : State) : Host.Outcome State Fault Refusal :=
  .next (writeAt src (blockAddr .CEL 0 0x01C) (celStepHiW w.toNat) s)

/-- The settings image (R397): 752 bytes. -/
def Settings.image (g : Settings) : List Byte :=
  leBytes 2 g.slew0 ++ leBytes 4 (g.jump0 * 100) ++ leBytes 1 g.mask ++ [0]
    ++ (List.range 186).flatMap (fun p => leBytes 4 (low (KMap.get 0 g.delays p) 32))

/-- The result of a seal message of 160 bytes, in the order of R400; 0: a COMMAND that is neither, of which the spec gives no result. -/
def Cellar.sealCheck (fu : Fused) (c : Cellar) (m : List Byte) : Nat :=
  let cmd := leNat (m.take 1)
  if !(signedOk fu.sealKey m) then 2
  else if leNat (slice m 4 8) ≠ fu.dieId then 3
  else if leNat (slice m 2 2) ≠ c.breaks then 4
  else if (cmd = 1 ∧ c.sealed) ∨ (cmd = 2 ∧ c.sealed = false) then 5
  else if cmd = 1 ∧ slice m 12 32 ≠ sha256 c.settings.image then 6
  else if cmd = 2 ∧ c.breaks = 31 then 7
  else if c.full then 8
  else if cmd = 1 ∨ cmd = 2 then 1 else 0

/-- SEAL_GO (R399, R400). -/
def State.sealGo (s : State) : State :=
  let c := s.cel
  let m := s.die.hostRead 0 (c.get R.CEL_SEAL_ADDR_LO * 64 + c.get R.CEL_SEAL_ADDR_HI * 2 ^ 32) 160
  let r := c.sealCheck s.fused m
  if r = 1 then
    let isSeal := leNat (m.take 1) == 1
    let c := if isSeal then { c with sealed := true, sealRecord := c.settings.image } else { c with sealed := false, breaks := c.breaks + 1 }
    let c := c.put R.CEL_STATUS_SEAL_RESULT 1
    { s with cel := c.record 3 0 (leBytes 1 (if isSeal then 1 else 2) ++ leBytes 2 c.breaks) [] }
  else if r = 0 then { s with die := s.die.draw.2, cel := c.put R.CEL_STATUS_SEAL_RESULT (1 + s.die.draw.1.toNat % 8) }
  else { s with cel := c.put R.CEL_STATUS_SEAL_RESULT r }

/-- Write hashed slots to the audit ring while it has room (R406). -/
def State.flushAudit : Nat → State → State
  | 0, s => s
  | n + 1, s =>
    let c := s.cel
    let h := c.get R.CEL_AUDIT_HEAD_VALUE
    let size := 2 ^ c.get R.CEL_AUDIT_CTL_LOG2SIZE
    match c.slots with
    | [] => s
    | x :: rest =>
      if (h + 2 ^ 32 - c.get R.CEL_AUDIT_TAIL_VALUE) % 2 ^ 32 < size then
        let d := s.die.hostWrite 0 (c.get R.CEL_AUDIT_BASE_LO * 64 + c.get R.CEL_AUDIT_BASE_HI * 2 ^ 32 + h % size * 32) x.bytes
        State.flushAudit n { s with die := d, cel := { c.put R.CEL_AUDIT_HEAD_VALUE (h + 1) with slots := rest } }
      else s

/-- The deferred changes of holdover that the Cellar queue has entries for take place, in order (R406). -/
def State.takeDeferred : List (Option Int) → State → State
  | [], s => s
  | x :: rest, s => if s.cel.full then s else State.takeDeferred rest (State.changeHold x { s with cel := { s.cel with deferHold := rest } })

/-- Write what the ring takes; an entry of the Cellar queue that frees lets a deferred change of holdover through (R406). -/
def State.drainAudit (s : State) : State :=
  let s := s.flushAudit s.cel.slots.length
  State.takeDeferred s.cel.deferHold s

/-- The two slots of a checkpoint after the last record hashed (R406). -/
def Cellar.checkpoint (c : Cellar) : Cellar :=
  let bs := [6, 0, 0] ++ leBytes 1 (c.chain % 256) ++ List.replicate 6 0 ++ c.now.bytes ++ leBytes 8 c.chain ++ [0, 0]
  { c with slots := c.slots ++ [⟨bs, 0⟩, ⟨beBytes 32 c.hash.toNat, 0⟩] }

/-- The number that SHA-256 gives. -/
def hashOf (bs : List Byte) : BitVec 256 := BitVec.ofNat 256 (beNat (sha256 bs))

/-- Hash one record into the chain, with the checkpoint its position calls for (R403, R406). -/
def Cellar.hashRecord (r : AuditRec) (frees : Nat) (c : Cellar) : Cellar :=
  let n := c.chain + 1
  let bs := overlay r.bytes 3 (leBytes 1 (n % 256))
  let c := { c with chain := n, hash := hashOf (beBytes 32 c.hash.toNat ++ bs), slots := c.slots ++ [⟨bs, frees⟩] }
  if n % 2 ^ c.get R.CEL_AUDIT_CTL_LOG2CKPT = 0 then c.checkpoint else c

/-- AUDIT_HASH (R406): the oldest record, the Cellar's first where two fall in one tc. -/
def State.auditHash (s : State) : State :=
  if s.cel.up then
    let celFirst : Bool := match s.cel.celQ, s.cel.launchQ with
      | a :: _, b :: _ => decide (a.order ≤ b.order)
      | _, [] => true
      | [], _ => false
    let go (r : AuditRec) (frees : Nat) (c : Cellar) : State :=
      State.drainAudit { s with die := s.die.count T.CEL_AUDIT_RECORDS 0, cel := c.hashRecord r frees }
    match celFirst, s.cel.celQ, s.cel.launchQ with
    | true, a :: rest, _ => go a 2 { s.cel with celQ := rest }
    | false, _, b :: rest => go b 1 { s.cel with launchQ := rest }
    | _, _, _ => s
  else s

/-- AUDIT_HASH. -/
def execAuditHash (s : State) : Host.Outcome State Fault Refusal := .next s.auditHash

/-- CAL_START (R402): refused at once where the Cellar is sealed or PPS_IN absent. -/
def Cellar.calStart (c : Cellar) : Cellar :=
  if c.get R.CEL_STATUS_CAL_BUSY = 1 then c
  else if c.sealed then c.put R.CEL_STATUS_CAL_RESULT 5
  else if c.get R.CEL_STATUS_PPS_PRESENT = 0 then c.put R.CEL_STATUS_CAL_RESULT 2
  else { (c.put R.CEL_STATUS_CAL_BUSY 1).put R.CEL_STATUS_CAL_RESULT 0 with calEdges := 0, calBad := false }

/-- A write of CEL_CONTROL (R408, R596): AUTH0 and CAL_POINT, then the lowest action. -/
def celControlW (w : Nat) (s : State) : State :=
  let c := if bit w 0 then s.cel.put R.CEL_CONTROL_AUTH0 1 else s.cel
  let c := if bits w 4 8 ≤ 185 then c.put R.CEL_CONTROL_CAL_POINT (bits w 4 8) else c
  let s := { s with cel := c }
  match lowestWo w [1, 2, 3] with
  | some 1 => s.sealGo
  | some 2 => State.drainAudit { s with cel := s.cel.checkpoint }
  | some 3 => { s with cel := s.cel.calStart }
  | _ => s

/-- SEAL_GO. -/
def execSealGo (src : Source) (w : Word) (s : State) : Host.Outcome State Fault Refusal :=
  .next (writeAt src (blockAddr .CEL 0 0x020) (celControlW w.toNat) s)

/-- CKPT. -/
def execCkpt (src : Source) (w : Word) (s : State) : Host.Outcome State Fault Refusal :=
  .next (writeAt src (blockAddr .CEL 0 0x020) (celControlW w.toNat) s)

/-- CELLAR_CAL_START. -/
def execCellarCalStart (src : Source) (w : Word) (s : State) : Host.Outcome State Fault Refusal :=
  .next (writeAt src (blockAddr .CEL 0 0x020) (celControlW w.toNat) s)

/-- The delay that a calibration run measures (R402): the mean, less the fixture delay for an output point. -/
def State.calDelay (x : CalRun) (s : State) : Int × Die :=
  let m := s.die.roundTo (x.diffs.filterMap id).sum 16 false
  let fix := if outputPoint (s.cel.get R.CEL_CONTROL_CAL_POINT) then sext (s.cel.get R.CAL_FIXTURE_VALUE) 32 else 0
  (sext (low (m.1 - fix) 32) 32, m.2)

/-- The result of a calibration run (R402): the first refusal, or 1. -/
def Cellar.calResult (c : Cellar) (x : CalRun) : Nat :=
  let ds := x.diffs.filterMap id
  if c.sealed then 5
  else if c.calBad ∨ c.get R.CEL_STATUS_PPS_PRESENT = 0 then 2
  else if ds.length ≠ 16 ∨ x.diffs.length ≠ 16 then 3
  else if ds.any (fun a => ds.any (fun b => decide (32768 < a - b))) then 4
  else 1

/-- The run is over (R402): 16 edges of PPS_IN have come, or PPS_IN is absent, an interval was wrong, or the Cellar has been sealed. -/
def Cellar.calOver (c : Cellar) : Bool :=
  decide (16 ≤ c.calEdges) || c.calBad || c.get R.CEL_STATUS_PPS_PRESENT == 0 || c.sealed

/-- CAL_DONE (R402). -/
def State.calDone (x : CalRun) (s : State) : State :=
  if s.cel.get R.CEL_STATUS_CAL_BUSY = 1 ∧ s.cel.calOver then
    let r := s.cel.calResult x
    let c := (s.cel.put R.CEL_STATUS_CAL_BUSY 0).put R.CEL_STATUS_CAL_RESULT r
    if r = 1 then
      let v := s.calDelay x
      { s with die := v.2
               cel := { c with settings := { c.settings with delays := KMap.set 0 c.settings.delays (c.get R.CEL_CONTROL_CAL_POINT) v.1 } } }
    else { s with cel := c }
  else s

/-- CAL_DONE. -/
def execCalDone (x : CalRun) (s : State) : Host.Outcome State Fault Refusal := .next (s.calDone x)

/-- The Cellar as it powers up on VCEL (R380, R397, R403): the seal, its record, the seal-break count and the power-up count are in its
OTP; everything else starts anew, and the START record is written. -/
def Cellar.powerUp (fu : Fused) (c : Cellar) : Cellar :=
  let pu := c.powerUps + 1
  let c' : Cellar := { sealed := c.sealed, breaks := c.breaks, powerUps := pu, sealRecord := c.sealRecord, up := true, tc := c.tc
                       settings := if c.sealed then c.settings else {}
                       hash := hashOf (leBytes 8 fu.dieId ++ leBytes 2 c.breaks ++ leBytes 4 pu) }
  c'.record 4 0 (leBytes 4 pu) (leBytes 8 fu.dieId)

/-- CELLAR_POWER_UP. -/
def execCellarPowerUp (s : State) : Host.Outcome State Fault Refusal := .next { s with cel := s.cel.powerUp s.fused }

/-- PPS_OUT_RISE (R630). -/
def execPpsOutRise (s : State) : Host.Outcome State Fault Refusal :=
  .next (if s.cel.up then
      { s with cel := { s.cel with ppsOut := true }, die := if s.cel.ppsOut then s.die else s.die.emit (.pps true) }
    else s)

/-- PPS_OUT_FALL (R630). -/
def execPpsOutFall (s : State) : Host.Outcome State Fault Refusal :=
  .next (if s.cel.ppsOut then { s with cel := { s.cel with ppsOut := false }, die := s.die.emit (.pps false) } else s)

end Sys2Proof.Machine
end

