-- ==== Sys2Proof/Machine/Reset.lean ====
section
/-! DEFINITION. Power profiles and states, resets, start-up, the fault reset and the settings record (R34, R301, R516, R517, R564 to R566,
R570 to R574, R578 to R588, R590, R591, R627), and their commands. -/

namespace Sys2Proof.Machine

/-- The settings record of highest generation that verifies (R587); 7 = none. -/
def recordOk (bs : List Byte) : Bool := bs.length == 512 && slice bs 480 32 == sha256 (bs.take 480)

/-- The generation in force after a start. -/
def Otp.pick (o : Otp) : Nat :=
  match ((List.range 5).reverse).find? (fun g => match o.slots[g]? with | some s => recordOk s.bytes | none => false) with
  | some g => g
  | none => 7

/-- A programming that a reset interrupts leaves its slot used and unverifiable (R588). -/
def Otp.interrupt (o : Otp) : Otp :=
  match o.programming with
  | some _ => { o with slots := o.slots ++ [⟨[]⟩], programming := none }
  | none => o

/-- A byte of the record in force, and what stands for it where none verifies. -/
def Otp.byte (o : Otp) (i dflt : Nat) : Nat := match o.record with | some r => (byteAt r i).toNat | none => dflt

/-- Step 2 of start-up (R136, R139, R584, R587): the settings record, and the spare maps of fuses and record. -/
def Die.readSettings (fu : Fused) (d : Die) : Die :=
  let o := { d.otp with gen := d.otp.pick }
  let field := (List.range 128).filter (fun k => KMap.get 24 fu.spares k == 24 && decide (o.byte (16 + k) 255 < 24))
  { d with otp := o
           spares := field.foldl (fun m k => KMap.set 24 m k (o.byte (16 + k) 255)) fu.spares
           spareField := field.foldl (fun m k => KMap.set false m k true) [] }

/-- Step 3 (R34, R367, R577): the PLL has locked unless the wait for REF250 ended; FC starts with it, from 0 except after Standby. -/
def Die.pllStart (fromZero : Bool) (d : Die) : Die :=
  if d.refWait then
    { (d.flag R.DEV_TIMING_STATUS_PLL_LOCK 0 true).flag R.DEV_TIMING_STATUS_HOLDOVER 0 false with
      refWait := false, fcRun := true, fc := if fromZero then 0 else d.fc }
  else d

/-- Step 5 (R34): Locked mode at 1.75 GHz, or Free mode with the reason. DESIGN CHOICE (log 124): in Free mode POINT stays as it is, 0 where no
point has been in force since the supplies came up; R30 gives it the point last in force and says nothing of a start without one. -/
def Die.startMode (d : Die) : Die :=
  if d.get R.PWR_STATUS_PROFILE = 2 then (d.put R.DEV_TIMING_STATUS_MODE 0 0).put R.DEV_TIMING_STATUS_REFUSE 0 3
  else if d.on R.DEV_TIMING_STATUS_PLL_LOCK then
    ((d.put R.DEV_TIMING_STATUS_MODE 0 1).put R.DEV_TIMING_STATUS_POINT 0 1).put R.DEV_TIMING_STATUS_REFUSE 0 0
  else (d.put R.DEV_TIMING_STATUS_MODE 0 0).put R.DEV_TIMING_STATUS_REFUSE 0 4

/-- A new nonce (R497). -/
def Die.newNonce (d : Die) : Die := { d.draw.2 with nonce := d.draw.1 }

/-- OWN_DEBUG.REQUEST at a reset (R503). -/
def Die.debugReset (d : Die) : Die :=
  d.put R.OWN_DEBUG_REQUEST 0 (if d.otp.lifecycle = 0 ∨ d.otp.lifecycle = 3 then 3 else 0)

/-- ALIVE starts, driven low (R641). -/
def Die.aliveStart (d : Die) : Die :=
  if d.otp.lifecycle = 4 then d else { d with aliveOn := true, alive := false }.emit (.alive false)

/-- ALIVE stops (R641). -/
def Die.aliveStop (d : Die) : Die := { d with aliveOn := false, alive := false }

/-- The end of a start: masters reach the registers, ALIVE starts, and an election opens (R484, R584). -/
def Die.awake (d : Die) : Die :=
  let d := (d.newNonce.debugReset.flag R.OWN_STATUS_HELD 0 false).put R.OWN_STATUS_HOLDER 0 0
  { d.cancelHandover.aliveStart.openElection with up := true, caps := [], heartbeat := 0 }

/-- STARTUP_DONE (R34, R584): steps 2 to 6. -/
def Die.startup (fu : Fused) (d : Die) : Die :=
  if d.up || d.off || d.restoring then d
  else
    let d := (d.readSettings fu).pllStart true
    let pr := d.otp.byte 5 1
    let cap := d.otp.byte 144 0 + d.otp.byte 145 0 * 256
    let d := ((d.put R.PWR_STATUS_PROFILE 0 pr).put R.PWR_PROFILE_PROFILE 0 pr).put R.PWR_CAP_WATTS 0 cap
    d.startMode.awake

/-- STARTUP_DONE: the kill state machine runs from here on (R637). -/
def State.startup (s : State) : State :=
  { s with die := s.die.startup s.fused, kill := if s.die.up || s.die.off || s.die.restoring then s.kill else { s.kill with running := true } }

/-- STARTUP_DONE. -/
def execStartupDone (s : State) : Host.Outcome State Fault Refusal := .next s.startup

/-- Edges that have left their pins and await their capture; the pins stand low (R516, R643). -/
def Die.pinsLow (d : Die) : Die :=
  let high := d.pins.filter (fun x => x.2.high)
  let ps : KMap TrigPin := d.pins.map (fun x => (x.1, { edges := x.2.edges }))
  let d := { d with pins := ps.filter (fun x => !x.2.edges.isEmpty) }
  high.foldl (fun d x => d.emit (.trig x.1 false)) d

/-- Reservations of edges that await their capture; the rest are released without a record (R392, R516). -/
def State.keepReserved (s : State) : State :=
  { s with cel := { s.cel with reserved := (s.die.pins.map (fun x => (x.2.edges.filter (fun e => e.audited)).length)).sum } }

/-- The compute die as a cold or a device reset leaves it before start-up (R582): everything at its reset value but what fuses and OTP
hold, the outside world, and, at a device reset, tallies and the retained fault store. -/
def Die.fresh (keep : Bool) (cause : Nat) (d : Die) : Die :=
  let d1 := d.pinsLow
  let d0 : Die := { emits := d1.emits, host := d1.host, free := d1.free, ns := d1.ns, otp := d1.otp.interrupt, pins := d1.pins
                    tallies := if keep then d1.tallies else [], store := if keep then d1.store else [] }
  (d0.put R.PWR_STATUS_LAST_RESET 0 cause).debugReset

/-- A reset of the whole compute die. -/
def State.resetDie (keep : Bool) (cause : Nat) (s : State) : State :=
  State.keepReserved { s with die := s.die.fresh keep cause, kill := {} }

/-- COLD_RESET (R544, R582, R584). -/
def execColdReset (s : State) : Host.Outcome State Fault Refusal := .next (s.resetDie false 0)

/-- SYS_RESET (R582, R584). -/
def execSysReset (s : State) : Host.Outcome State Fault Refusal := .next (if s.die.off then s else s.resetDie true 1)

/-- A write of PWR_RESET (R582, R590). -/
def pwrResetW (w : Nat) (s : State) : State := if bit w 0 && bits w 16 16 == 0xA5A5 then s.resetDie true 2 else s

/-- DEVICE_RESET. -/
def execDeviceReset (src : Source) (w : Word) (s : State) : Host.Outcome State Fault Refusal :=
  .next (writeAt src (blockAddr .PWR 0 0x01C) (pwrResetW w.toNat) s)

/-- RAIL_FAULT (R627): the device stops until the next cold reset. -/
def State.railFault (s : State) : State :=
  let t := s.resetDie false 0
  { t with die := { t.die with off := true, refWait := false } }

/-- RAIL_FAULT. -/
def execRailFault (s : State) : Host.Outcome State Fault Refusal := .next s.railFault

/-- Every lane and port goes to electrical idle. -/
def Die.idleLinks (d : Die) : Die :=
  let d := (List.range 64).foldl (fun d l =>
    let d := (d.laneTo l 0 6).put R.LNK_STATUS_RATE l 0
    { d.flag R.LNK_STATUS_DEFER l false with lanes := KMap.set {} d.lanes l {} }) d
  (List.range 16).foldl (fun d t => ((d.ethDown t 6).ethUnlock t true true).flag R.ETH_STATUS_AN_DONE t false) d

/-- Enabled lanes begin their bring-up (R429). -/
def Die.raiseLinks (d : Die) : Die :=
  (List.range 64).foldl (fun d l => if d.on R.LNK_CONTROL_ENABLE l then d.laneTo l 1 6 else d) d

/-- The image of every pasture is withdrawn at once (R301, R496, R581): what waits is dropped, AT and WINDOW launches count in
WITHDRAW_DROP, the rest in PORT_DOWN, and events in flight end. -/
def State.withdrawAll (s : State) : State :=
  pastures.foldl (fun s p =>
    let d := if s.die.on R.PAS_ADMIT_STATUS_BUSY p && (s.die.pasture p).leaving == 0 then s.die.abortAdmission p 0 else s.die
    if (d.image p).isNone then { s with die := d }
    else
      let s := State.discardLaunches (s := { s with die := d.dropWaiting p }) (fun e => e.pasture == p && e.mode != 0) T.EGR_WITHDRAW_DROP
      let s := s.discardLaunches (fun e => e.pasture == p) T.EGR_PORT_DOWN
      { s with die := (s.die.dropImage p).put R.PAS_ADMIT_STATUS_CODE p 0 }) s

/-- The images' memories are zeroed (R496, R581): tile stores, Attic, Larder, capture rings, update stores, Loft, template store. -/
def Die.wipe (d : Die) : Die :=
  let d := pastures.foldl (fun d p => d.clearLarder p) d
  { d with tiles := [], rows := [], dir := [], lar := [], upd := [], eng := [], poison := [], ecc := [], loft := {}, loads := [], closed := [] }

/-- A POWER packet (R550, R564): source 8. -/
def Die.powerPacket (left entered : Nat) (exit lost : Bool) (d : Die) : Die :=
  d.trace ⟨8, true, 8, 0, none, leBytes 1 left ++ leBytes 1 entered ++ leBytes 1 (if exit then 2 else 1) ++ leBytes 1 (b2n lost)
    ++ [0, 0, 0, 0] ++ leBytes 8 (d.nOf 0)⟩

/-- The power state in force. -/
def Die.pstate (d : Die) : Nat := d.get R.PWR_STATUS_STATE

/-- A transition begins (R564, R579, R580): the entry packet; for Nap every open entry closes; out of Standby the PLL starts. -/
def Die.beginState (t : Nat) (d : Die) : Die :=
  let cur := d.pstate
  let d := { d.flag R.PWR_STATUS_BUSY 0 true with statePending := some t }
  let d := if t = 0 ∨ cur = 3 then d else d.powerPacket cur t false false
  if cur = 3 then { d with refWait := true }
  else if t = 2 then
    let open_ := (List.range 32).filter (fun k => d.qstate (k / 4) (k % 4) == 2 && !(KMap.get false d.closed k))
    { d with napOpen := open_, closed := open_.foldl (fun m k => KMap.set false m k true) d.closed }
  else d

/-- A muster runs, or an admission is in progress (R579). -/
def Die.workGoing (d : Die) : Bool :=
  (List.range 8).any (fun e => (d.sheep e).muster) || pastures.any (fun p => d.on R.PAS_ADMIT_STATUS_BUSY p && (d.pasture p).leaving == 0)

/-- The Cellar's audit queues are empty (R579). -/
def Cellar.auditEmpty (c : Cellar) : Bool := c.launchQ.isEmpty && c.celQ.isEmpty && c.slots.isEmpty

/-- GO of PWR_STATE (R579). -/
def Die.stateGo (c : Cellar) (d : Die) : Die :=
  let t := d.get R.PWR_STATE_REQUEST
  if 2 ≤ t ∧ 2 ≤ d.role then d.put R.PWR_STATUS_STATE_RESULT 0 2
  else if d.profilePending.isSome || d.statePending.isSome || d.workGoing then d.put R.PWR_STATUS_STATE_RESULT 0 3
  else if t = 3 ∧ d.auditedIn = true ∧ c.auditEmpty = false then d.put R.PWR_STATUS_STATE_RESULT 0 4
  else d.beginState t

/-- A write of PWR_STATE (R590). -/
def pwrStateW (c : Cellar) (w : Nat) (d : Die) : Die :=
  let d := d.setFields .PWR 0 0x018 w
  if bit w 31 then d.stateGo c else d

/-- STATE_GO. -/
def execStateGo (src : Source) (w : Word) (s : State) : Host.Outcome State Fault Refusal :=
  dieCmd true (fun s => writeDie src (blockAddr .PWR 0 0x018) (pwrStateW s.cel w.toNat) s) s

/-- NAP_ENTRY (R580): every slot has retired and no update phase runs (an update that only awaits its flip runs none); queued launches are discarded and the clocks stop. -/
def State.napEntry (s : State) : State :=
  if s.die.statePending = some 2 ∧ s.die.pstate ≠ 2 ∧ pastures.all (fun p => s.die.inFlight p == 0)
      ∧ (List.range 8).all (fun e => s.die.get R.UPD_STATUS_PHASE e == 0 || s.die.get R.UPD_STATUS_PHASE e == 6) then
    let s := s.discardLaunches (fun _ => true) T.PWR_NAP_DISCARD (fun _ => 0)
    { s with die := (s.die.put R.PWR_STATUS_STATE 0 2).recheck }
  else s

/-- NAP_ENTRY. -/
def execNapEntry (s : State) : Host.Outcome State Fault Refusal := .next s.napEntry

/-- What Standby takes from the compute die (R566, R578, R581, R582): images and their memories, the Loft, packs and observation, staged
retirements, the flock links; FC holds. -/
def Die.enterStandby (d : Die) : Die :=
  let d := { d.countBy T.LFT_TRACE_DROP 0 d.loft.laneQ.length with loft := { d.loft with laneQ := [] } }
  let d := d.idleLinks.pcieDown.aliveStop.pinsLow
  let d := { d.wipe with feeds := [], looked := [], entries := [], parsers := [], steer := [], launch := [], ports := [], trigIn := []
                         shd := [], staged := [], txts := [], stopped := [], napOpen := [], fcRun := false, pullIn := false, timingPending := none
                         flk := {} }
  let d := (List.range 8).foldl (fun d e => d.put R.ENG_STATUS_RETIRE_RESULT e 3) d
  let d := (List.range 8).foldl (fun d e => [R.SHD_STATUS_OBSERVED, R.SHD_CONTROL_OBSERVE, R.SHD_PACK_ID_VALUE, R.SHD_PACK_VERSION_VALUE,
    R.SHD_PASS_SLOTS_VALUE].foldl (fun d f => d.put f e 0) d) d
  let d := (d.flag R.DEV_TIMING_STATUS_PLL_LOCK 0 false).flag R.DEV_TIMING_STATUS_BUSY 0 false
  let d := (d.put R.FLK_STATUS_STATE 0 0).put R.FLK_STATUS_JOIN_RESULT 0 0
  let d := ((d.put R.LFT_STATUS_FF_STATE 0 1).put R.LFT_STATUS_CAUSE 0 0).flag R.LFT_STATUS_DUMP_BUSY 0 false
  (((d.put R.OWN_DEBUG_REQUEST 0 0).put R.PWR_STATUS_STATE 0 3).relockAll).recheck

/-- STANDBY_ENTRY (R581). -/
def State.standbyEntry (s : State) : State :=
  if s.die.statePending = some 3 ∧ s.die.pstate ≠ 3 then
    let s := s.withdrawAll
    State.keepReserved { s with die := s.die.enterStandby }
  else s

/-- STANDBY_ENTRY. -/
def execStandbyEntry (s : State) : Host.Outcome State Fault Refusal := .next s.standbyEntry

/-- Clear every page lock (R604). -/
def Die.unlockAll (d : Die) : Die :=
  { d with regs := KMap.keep d.regs (fun k => !(k / 32 % 0x1000 == 0xF00 && k % 32 == 0)) }

/-- The exit from Standby (R581, R582): start-up from step 3. -/
def Die.leaveStandby (d : Die) : Die :=
  let d := (d.put R.PWR_STATUS_STATE 0 0).put R.PWR_STATUS_LAST_RESET 0 (if d.tripped then 5 else 4)
  let d := ({ d.unlockAll with tripped := false }.pllStart false).startMode
  (d.awake.powerPacket 3 0 true true).raiseLinks

/-- The exit from Nap (R580): the entries that were open open again. -/
def Die.leaveNap (d : Die) : Die :=
  let d := { d.put R.PWR_STATUS_STATE 0 0 with closed := d.napOpen.foldl (fun m k => KMap.set false m k false) d.closed, napOpen := [] }
  d.powerPacket 2 0 true false

/-- The requested state has been reached (R579). -/
def Die.stateDone (d : Die) : Die :=
  { (d.put R.PWR_STATUS_STATE_RESULT 0 1).flag R.PWR_STATUS_BUSY 0 false with statePending := none }.count T.PWR_STATE_CHANGES 0

/-- STATE_REACHED (R564, R565, R579): a request that passes through Run goes on from there. -/
def Die.stateReached (d : Die) : Die :=
  match d.statePending with
  | none => d
  | some t =>
    let cur := d.pstate
    if t = cur then d.stateDone
    else if cur = 3 then
      let d := d.leaveStandby
      if t = 0 then d.stateDone else (d.count T.PWR_STATE_CHANGES 0).beginState t
    else if t = 3 then d
    else if cur = 2 then
      let d := d.leaveNap
      if t = 0 then d.stateDone else (d.count T.PWR_STATE_CHANGES 0).beginState t
    else if t = 2 then d
    else if t = 0 then ((d.put R.PWR_STATUS_STATE 0 0).powerPacket cur 0 true false).stateDone
    else (d.put R.PWR_STATUS_STATE 0 t).stateDone

/-- STATE_REACHED. -/
def execStateReached (s : State) : Host.Outcome State Fault Refusal := .next (onDie (fun d => d.stateReached.recheck) s)

/-- THERM_HOT (R574, R590). -/
def execThermHot (s : State) : Host.Outcome State Fault Refusal :=
  .next (onDie (fun d => (d.flag R.PWR_STATUS_THERM_HOT 0 true).put R.PWR_TEMP_TEMP 0 100) s)

/-- THERM_TRIP (R574): pin actions are blocked and Standby is on its way, without the checks of R579. -/
def Die.thermTrip (d : Die) : Die :=
  let d := (d.put R.PWR_TEMP_TEMP 0 110).count T.PWR_THERM_TRIP 0
  if d.pstate = 3 then d else { d with tripped := true, profilePending := none }.beginState 3

/-- THERM_TRIP. -/
def execThermTrip (s : State) : Host.Outcome State Fault Refusal := .next (onDie Die.thermTrip s)

/-- The Free-mode floors that a profile must allow: those of the images admitted and of those being admitted (R48). -/
def Die.freeFloors (d : Die) : List Nat :=
  (d.pas.flatMap (fun y => y.2.image.toList ++ y.2.loading.toList)).filterMap (fun im => if im.locked then none else some im.fMHz)

/-- APPLY of PWR_PROFILE (R48, R572). DESIGN CHOICE (log 125): a request is held to the mode and point in force and to those that an accepted
change is bringing. -/
def Die.profileApply (fu : Fused) (d : Die) : Die :=
  let p := d.get R.PWR_PROFILE_PROFILE
  let locked := d.get R.DEV_TIMING_STATUS_MODE == 1
  let code :=
    if (locked && fu.lockedRefuse p (d.get R.DEV_TIMING_STATUS_POINT) != 0)
        || (match d.timingPending with | some (m, pt) => fu.timingRefuse p m pt != 0 | none => false) then 2
    else if d.freeFloors.any (fun f => decide (fu.profileMHz p < f)) then 3
    else if p = 2 ∧ ((span 32 64).any (fun l => d.on R.LNK_CONTROL_ENABLE l) ∨ (span 8 16).any (fun t => d.on R.ETH_CONTROL_ENABLE t)) then 4
    else if d.profilePending.isSome ∨ d.statePending.isSome then 5
    else 1
  let d := d.put R.PWR_STATUS_PROFILE_RESULT 0 code
  if code = 1 then { d.flag R.PWR_STATUS_BUSY 0 true with profilePending := some p } else d

/-- A write of PWR_PROFILE (R590). -/
def pwrProfileW (fu : Fused) (w : Nat) (d : Die) : Die :=
  let d := d.setFields .PWR 0 0x010 w
  if bit w 31 then d.profileApply fu else d

/-- PROFILE_APPLY. -/
def execProfileApply (src : Source) (w : Word) (s : State) : Host.Outcome State Fault Refusal :=
  dieCmd true (writeDie src (blockAddr .PWR 0 0x010) (pwrProfileW s.fused w.toNat)) s

/-- PROFILE_DONE (R572). -/
def Die.profileDone (d : Die) : Die :=
  match d.profilePending with
  | none => d
  | some p => { (d.put R.PWR_STATUS_PROFILE 0 p).flag R.PWR_STATUS_BUSY 0 d.statePending.isSome with profilePending := none }

/-- PROFILE_DONE. -/
def execProfileDone (s : State) : Host.Outcome State Fault Refusal := .next (onDie Die.profileDone s)

/-- Slots in flight on the whole device. -/
def Die.allInFlight (d : Die) : Nat := (pastures.map d.inFlight).sum

/-- A pasture whose admission or withdrawal a fault reset ends (R517, R585): it keeps the image admitted before. -/
def Die.settle (p : Nat) (d : Die) : Die :=
  let q := d.pasture p
  let d := d.calEnd p
  if q.image.isSome ∧ (q.adm = false ∨ q.leaving ≠ 0) then d.dropImage p
  else
    let d := d.onPas p (fun q => { q with reading := false, loading := none, going := false, leaving := 0, changed := [], wheelNew := []
                                          extents := match q.image with | some im => extentsOf im | none => 0 })
    (d.flag R.PAS_ADMIT_STATUS_BUSY p false).put R.PAS_ADMIT_STATUS_STATE p (if (d.pasture p).adm then 4 else 0)

/-- The reset part of a fault reset (R516, R563, R582, R585): what the die loses. DESIGN CHOICE (log 127): the WRITEBACK markers of the events it
discards are cleared (R89). -/
def Die.faultLoss (d : Die) : Die :=
  let d := (d.idleLinks.pcieDown).aliveStop.pinsLow
  let d := pastures.foldl (fun d p => (d.settle p).onLar p (fun y => { y with markers := [] })) d
  let d := { d with parsers := [], feeds := [], looked := [], entries := [], launch := [], ports := [], trigIn := [], txts := [], eng := [], tiles := []
                    upd := [], loads := [], loadOrder := [], closed := [], stopped := [], staged := [], loft := {}, timingPending := none, profilePending := none
                    statePending := none, napOpen := [], lanes := [], up := false, restoring := true }
  let d := d.onFlk (fun k => { k with reduction := none, digests := [] })
  let d := (List.range 8).foldl (fun d e =>
    let d := ((d.put R.ENG_STATUS_QSTATE e 0).flag R.ENG_STATUS_BUSY e false).put R.ENG_STATUS_RETIRE_RESULT e 3
    let d := if (d.sheep e).muster then (d.put R.SHD_STATUS_MUSTER e 5).onShd e (fun x => { x with muster := false, wasRunning := 0 }) else d
    { d with loads := [] }) d
  let d := (d.flag R.DEV_TIMING_STATUS_BUSY 0 false).flag R.PWR_STATUS_BUSY 0 false
  let d := ((d.put R.LFT_STATUS_FF_STATE 0 1).put R.LFT_STATUS_CAUSE 0 0).flag R.LFT_STATUS_DUMP_BUSY 0 false
  let d := ((d.put R.PWR_STATUS_STATE 0 0).put R.PWR_STATUS_LAST_RESET 0 3).count T.CHK_FAULT_RESETS 0
  d.cancelHandover.relockAll

/-- A fault reset (R516): kind and place of the control-class word. Admitted images begin to load again. -/
def State.faultReset (kind loc : Nat) (s : State) : State :=
  let d := { s.die with restoring := true }
  let sy := d.draw
  let place : List (Nat × Cbor) := if kind = 2 then [(5, .uint (loc / 1024)), (6, .uint (d.physCol (loc / 1024)))] else [(5, .uint loc)]
  let d := sy.2.faultRecord s.fused 3 ([(4, .uint kind)] ++ place ++ [(7, .uint (sy.1.toNat % 256)), (14, .uint d.allInFlight)])
  let d := d.faultLoss
  let d := pastures.foldl (fun d p => match d.image p with | some im => d.beginLoads p im 2 | none => d) d
  State.keepReserved { s with die := d }

/-- The word of pasture p in the Attic, template, program, steering or reflex stores that has an uncorrectable error (R517). -/
def Die.lostAt (d : Die) (p : Nat) : Option Nat :=
  (d.ecc.find? (fun x => decide (2 ≤ x.2) && (let k := x.1 / 2 ^ 40; k == 15 || k == 17 || k == 18) && x.1 % 2 ^ 40 / 2 ^ 24 == p)).map (fun x => x.1)

/-- A pasture at the end of a restore (R517): lost, or its image in force again as a REPLACE by itself. -/
def Die.restorePas (fu : Fused) (p : Nat) (d : Die) : Die :=
  match d.image p with
  | none => d
  | some im =>
    match d.lostAt p with
    | some k =>
      let d := d.faultRecord fu 14 ([(4, .uint (k / 2 ^ 40)), (5, .uint (k % 2 ^ 40))] ++ d.pasKeys p)
      let d := d.dropImage p
      if p < 32 then d.put R.CHK_LOST_LO 0 (setBit (d.get R.CHK_LOST_LO) p true)
      else d.put R.CHK_LOST_HI 0 (setBit (d.get R.CHK_LOST_HI) (p - 32) true)
    | none => d.serveCore fu p im

/-- RESTORE_DONE (R517, R585): every image is loaded; control-class stores are good again; the restart waits for VCEL (R627). -/
def State.restoreDone (s : State) : State :=
  if s.die.restoring ∧ s.cel.up then
    let d := pastures.foldl (fun d p => d.restorePas s.fused p) s.die
    let ctl (k : Nat) : Bool := let c := k / 2 ^ 40; c == 2 || (decide (15 ≤ c) && decide (c ≤ 19))
    let d := { d with ecc := KMap.keep d.ecc (fun k => !(ctl k)), restoring := false }
    { s with die := d.awake.raiseLinks, kill := { s.kill with running := true } }
  else s

/-- RESTORE_DONE. -/
def execRestoreDone (s : State) : Host.Outcome State Fault Refusal := .next s.restoreDone

/-- VCEL_LOSS (R627): the Cellar stops, and a running compute die takes a fault reset for memory kind 19. -/
def State.vcelLoss (s : State) : State :=
  let s := { s with cel := { s.cel with up := false } }
  if s.die.up then s.faultReset 19 0 else s

/-- VCEL_LOSS. -/
def execVcelLoss (s : State) : Host.Outcome State Fault Refusal := .next s.vcelLoss

/-- HOST_LINK_RESET (R583). -/
def execHostLinkReset (s : State) : Host.Outcome State Fault Refusal := .next (onDie Die.pcieDown s)

/-- A function level reset of the VF of pasture p (R19, R583, R597, R621): withdrawal, ring enables and bases, and the VF's captures. -/
def Die.vfFlr (p : Nat) (d : Die) : Die :=
  let d := (d.withdraw p).count T.PCI_VF_FLR 0
  let d := [R.PAS_MSG_CTL_ENABLE, R.PAS_MSG_BASE_LO, R.PAS_MSG_BASE_HI, R.PAS_INJ_CTL_ENABLE, R.PAS_INJ_BASE_LO, R.PAS_INJ_BASE_HI,
      R.PAS_TRACE_CTL_ENABLE, R.PAS_TRACE_ADDR_LO, R.PAS_TRACE_ADDR_HI, R.LRD_RING_CTL_ENABLE, R.LRD_RING_BASE_LO, R.LRD_RING_BASE_HI].foldl
    (fun d f => d.put f p 0) d
  { d with caps := KMap.keep d.caps (fun k => k / 2 ^ 32 != 4 + p) }

/-- VF_FLR. -/
def execVfFlr (p : Nat) (s : State) : Host.Outcome State Fault Refusal := dieCmd (decide (p < 64)) (fun s => s.die.vfFlr p) s

/-- The staged settings record, 512 bytes. -/
def Die.stagedRecord (d : Die) : List Byte := (List.range 128).flatMap (fun k => leBytes 4 (d.get (R.OTP_STAGE k)))

/-- A staged record breaks R587 (R588, result 3). -/
def recordBad (r : List Byte) : Bool :=
  let b (i : Nat) : Nat := (byteAt r i).toNat
  let smb := b 6
  let order := (List.range 4).map (fun i => bits (b 7) (2 * i) 2)
  leNat (r.take 4) != 0x52544553 || decide (2 < b 5) || decide (1 ≤ smb ∧ smb ≤ 7) || decide (0x78 ≤ smb)
    || (bit (b 8) 0 && (List.range 4).any (fun m => !(order.contains m))) || decide (1 < b 8)
    || (slice r 9 7).any (fun x => x != 0) || (slice r 146 334).any (fun x => x != 0)

/-- The record that will be programmed (R588): its generation, the retirements in force and staged, and its digest. -/
def Die.finalRecord (d : Die) (r : List Byte) : List Byte :=
  let ret := (List.range 128).map (fun k =>
    match d.staged.find? (fun x => 16 * x.1 + x.2.1 == k) with
    | some x => BitVec.ofNat 8 x.2.2
    | none => if KMap.get false d.spareField k then BitVec.ofNat 8 (KMap.get 24 d.spares k) else 255)
  let r := overlay (overlay r 4 (leBytes 1 d.otp.slots.length)) 16 ret
  overlay r 480 (sha256 (r.take 480))

/-- PROGRAM of OTP_CONTROL (R588). -/
def Die.otpProgram (w : Nat) (d : Die) : Die :=
  let r := d.stagedRecord
  if d.otp.programming.isSome then d
  else if 5 ≤ d.otp.slots.length then d.put R.OTP_STATUS_OTP_RESULT 0 2
  else if recordBad r then d.put R.OTP_STATUS_OTP_RESULT 0 3
  else if bits w 16 16 ≠ 0xA5A5 then d.put R.OTP_STATUS_OTP_RESULT 0 4
  else { d with otp := { d.otp with programming := some (d.finalRecord r) } }

/-- LOAD of OTP_CONTROL (R591): the record in force, if there is one. -/
def Die.otpLoad (d : Die) : Die :=
  match d.otp.record with
  | none => d
  | some r => (List.range 128).foldl (fun d k => d.put (R.OTP_STAGE k) 0 (leNat (slice r (4 * k) 4))) d

/-- A write of OTP_CONTROL (R591, R596). -/
def otpControlW (w : Nat) (d : Die) : Die :=
  match lowestWo w [0, 1] with
  | some 0 => d.otpLoad
  | some _ => d.otpProgram w
  | none => d

/-- OTP_LOAD. -/
def execOtpLoad (src : Source) (w : Word) (s : State) : Host.Outcome State Fault Refusal :=
  dieCmd true (writeDie src (blockAddr .OTP 0 0x010) (otpControlW w.toNat)) s

/-- OTP_PROGRAM. -/
def execOtpProgram (src : Source) (w : Word) (s : State) : Host.Outcome State Fault Refusal :=
  dieCmd true (writeDie src (blockAddr .OTP 0 0x010) (otpControlW w.toNat)) s

/-- OTP_PROGRAM_DONE (R588): verified, or used and unverifiable. -/
def Die.otpDone (ok : Bool) (d : Die) : Die :=
  match d.otp.programming with
  | none => d
  | some r =>
    let slot : OtpSlot := { bytes := if ok then r else [] }
    Die.put R.OTP_STATUS_OTP_RESULT 0 (if ok then 1 else 5)
      { d with otp := { d.otp with slots := d.otp.slots ++ [slot], programming := none } }

/-- OTP_PROGRAM_DONE. -/
def execOtpProgramDone (ok : Bool) (s : State) : Host.Outcome State Fault Refusal := .next (onDie (Die.otpDone ok) s)

/-- ALIVE_TOGGLE (R641). -/
def Die.aliveToggle (d : Die) : Die := if d.aliveOn then { d with alive := !d.alive }.emit (.alive (!d.alive)) else d

/-- ALIVE_TOGGLE. -/
def execAliveToggle (s : State) : Host.Outcome State Fault Refusal := .next (onDie Die.aliveToggle s)

end Sys2Proof.Machine
end

