-- ==== Sys2Proof/Machine/Own.lean ====
section
/-! DEFINITION. Lifecycle states (R496, R497), key slots (R498 to R501), the requested debug level (R503) and grants (R490, R491), with
their commands. -/

namespace Sys2Proof.Machine

/-- A programmed, unrevoked slot that is usable for images (R496). -/
def KeySlot.signs (k : KeySlot) : Bool := k.programmed && !k.revoked && k.image

/-- Key slot i. -/
def Otp.slot (o : Otp) (i : Nat) : KeySlot := KMap.get {} o.keys i

/-- The states a transition to t may leave (R496). -/
def lifecycleFrom (t l : Nat) : Bool :=
  if t = 1 then l == 0 else if t = 2 then l == 1 else if t = 3 then l == 1 || l == 2 else t == 4 && l != 4

/-- OWN_HOST_ADDR (R506). -/
def Die.hostAddr (d : Die) : Nat := d.pair64 R.OWN_HOST_ADDR_LO R.OWN_HOST_ADDR_HI / 64 * 64

/-- LC_RESULT of a GO (R497): checked in the order 2, 3, 6, 4, 5. -/
def Die.lifecycleResult (fu : Fused) (hostFail : Bool) (d : Die) : Nat :=
  let t := d.get R.OWN_LIFECYCLE_TARGET
  let msg := d.hostRead 0 d.hostAddr 160
  if !(lifecycleFrom t d.otp.lifecycle) then 2
  else if (t == 1 || t == 2) && !((List.range 8).any (fun i => (d.otp.slot i).signs)) then 3
  else if t == 4 && d.get R.OWN_LIFECYCLE_CONFIRM != 0xDEF0 then 3
  else if t ≠ 3 then 1
  else if hostFail then 6
  else if !(signedOk fu.rmaKey msg) then 4
  else if leNat (slice msg 4 8) ≠ fu.deviceId ∨ leNat (slice msg 12 8) ≠ d.nonce.toNat then 5
  else 1

/-- What entering DEFUNCT takes from the compute die (R496, R602). -/
def Die.defunct (d : Die) : Die :=
  let d := (d.idleLinks.pinsLow).aliveStop
  let d := { d with otp := { d.otp with keys := (List.range 8).map (fun i => (i, { d.otp.slot i with revoked := true })) } }
  (d.put R.FLK_STATUS_JOIN_RESULT 0 0).relockAll

/-- What follows at the entry of lifecycle state t (R496). -/
def State.enterLifecycle (t : Nat) (s : State) : State :=
  let s := { s with die := { s.die with otp := { s.die.otp with lifecycle := t } } }
  if t = 3 then
    let s := s.withdrawAll
    { s with die := s.die.wipe.recheck }
  else if t = 4 then
    let s := s.withdrawAll
    { s with die := s.die.defunct.recheck }
  else { s with die := s.die.recheck }

/-- GO of OWN_LIFECYCLE (R496, R497). -/
def State.lifecycleGo (hostFail : Bool) (s : State) : State :=
  let t := s.die.get R.OWN_LIFECYCLE_TARGET
  let r := s.die.lifecycleResult s.fused hostFail
  let s := if r = 1 then s.enterLifecycle t else s
  let d := if t = 3 then s.die.newNonce else s.die
  { s with die := d.put R.OWN_STATUS_LC_RESULT 0 r }

/-- A write of OWN_LIFECYCLE (R506). -/
def ownLifecycleW (hostFail : Bool) (w : Nat) (s : State) : State :=
  let s := { s with die := s.die.setFields .OWN 0 0x020 w }
  if bit w 3 then s.lifecycleGo hostFail else s

/-- LIFECYCLE_GO. -/
def execLifecycleGo (src : Source) (w : Word) (hostFail : Bool) (s : State) : Host.Outcome State Fault Refusal :=
  .next (writeAt src (blockAddr .OWN 0 0x020) (ownLifecycleW hostFail w.toNat) s)

/-- PROGRAM of OWN_KEY_CTL (R498, R499). -/
def Die.keyProgram (hostFail : Bool) (d : Die) : Die :=
  let i := d.get R.OWN_KEY_CTL_SLOT
  let bs := d.hostRead 0 d.hostAddr 96
  let x := beNat (bs.take 48)
  let y := beNat (bs.drop 48)
  let im := d.on R.OWN_KEY_CTL_USE_IMAGE
  let pk := d.on R.OWN_KEY_CTL_USE_PACK
  let r := if 2 ≤ d.otp.lifecycle then 2
    else if (d.otp.slot i).programmed then 3
    else if hostFail then 6
    else if !(onCurve x y) || !(im || pk) then 4
    else 1
  let d := if r = 1 then
      { d with otp := { d.otp with keys := KMap.insert d.otp.keys i { x := x, y := y, programmed := true, image := im, pack := pk } } }
    else d
  d.put R.OWN_STATUS_KEY_RESULT 0 r

/-- REVOKE of OWN_KEY_CTL (R498, R499, R501). -/
def Die.keyRevoke (d : Die) : Die :=
  let i := d.get R.OWN_KEY_CTL_SLOT
  let k := d.otp.slot i
  let l := d.otp.lifecycle
  let r := if l = 4 then 2
    else if !k.programmed || k.revoked then 3
    else if (l == 1 || l == 2) && (List.range 8).all (fun j => j == i || !((d.otp.slot j).signs)) then 5
    else 1
  let d := if r = 1 then { d with otp := { d.otp with keys := KMap.insert d.otp.keys i { k with revoked := true } } } else d
  d.put R.OWN_STATUS_KEY_RESULT 0 r

/-- A write of OWN_KEY_CTL (R506, R596). -/
def ownKeyCtlW (hostFail : Bool) (w : Nat) (d : Die) : Die :=
  let d := d.setFields .OWN 0 0x02C w
  match lowestWo w [8, 9] with
  | some 8 => d.keyProgram hostFail
  | some _ => d.keyRevoke
  | none => d

/-- KEY_PROGRAM. -/
def execKeyProgram (src : Source) (w : Word) (hostFail : Bool) (s : State) : Host.Outcome State Fault Refusal :=
  dieCmd true (writeDie src (blockAddr .OWN 0 0x02C) (ownKeyCtlW hostFail w.toNat)) s

/-- KEY_REVOKE. -/
def execKeyRevoke (src : Source) (w : Word) (s : State) : Host.Outcome State Fault Refusal :=
  dieCmd true (writeDie src (blockAddr .OWN 0 0x02C) (ownKeyCtlW false w.toNat)) s

/-- A write of OWN_DEBUG (R503, R504). -/
def ownDebugW (w : Nat) (d : Die) : Die := (d.setFields .OWN 0 0x01C w).recheck

/-- DEBUG_REQUEST. -/
def execDebugRequest (src : Source) (w : Word) (s : State) : Host.Outcome State Fault Refusal :=
  dieCmd true (writeDie src (blockAddr .OWN 0 0x01C) (ownDebugW w.toNat)) s

/-- LOAD of OWN_GRANT_SEL (R506). -/
def Die.grantLoad (d : Die) : Die :=
  let g := d.grant (d.get R.OWN_GRANT_SEL_PASTURE)
  (List.range 16).foldl (fun d k => d.put (R.OWN_GRANT_DATA k) 0 (leNat (slice g (4 * k) 4))) d

/-- The staged grant record. -/
def Die.stagedGrant (d : Die) : List Byte := (List.range 16).flatMap (fun k => leBytes 4 (d.get (R.OWN_GRANT_DATA k)))

/-- GRANT_RESULT 2 (R490, R491). -/
def grantRange (g : List Byte) : Bool :=
  let f := grantField g
  let k := f 20 1
  decide (15 < f 5 1) || decide (16 < f 6 1) || decide (3 < f 7 1) || (k != 0 && (decide (k < 8) || decide (19 < k))) || decide (16 < f 21 1)
    || decide (64 < f 22 1) || f 23 1 != 0 || decide (Config.atticExtents < f 24 2) || decide (Config.templateUnits < f 26 2)
    || f 34 6 != 0 || f 56 8 != 0 || decide (Config.rowWords < f 8 4 + f 12 4)
    || (k != 0 && (f 16 4 % 2 ^ k != 0 || decide (Config.buckets < f 16 4 + 2 ^ k)))

/-- Two runs of n and m from a and b meet. -/
def runsMeet (a n b m : Nat) : Bool := decide (a < b + m) && decide (b < a + n)

/-- Two grants name one quarter, update unit, pin, row word or bucket (R491, result 3). -/
def grantsMeet (a b : List Byte) : Bool :=
  let f := grantField a
  let g := grantField b
  Nat.land (f 0 4) (g 0 4) != 0 || Nat.land (f 4 1) (g 4 1) != 0 || Nat.land (f 28 2) (g 28 2) != 0
    || (f 12 4 != 0 && g 12 4 != 0 && runsMeet (f 8 4) (f 12 4) (g 8 4) (g 12 4))
    || (f 20 1 != 0 && g 20 1 != 0 && runsMeet (f 16 4) (2 ^ f 20 1) (g 16 4) (2 ^ g 20 1))

/-- Sum of a field over grants. -/
def grantSum (gs : List (List Byte)) (i n : Nat) : Nat := (gs.map (fun g => grantField g i n)).sum

/-- GRANT_RESULT 4 (R491): `all` are the grants of all pastures, with the staged one. -/
def grantsOver (all : List (List Byte)) : Bool :=
  let port (i n b : Nat) : Bool :=
    let on := all.filter (fun g => bit (grantField g i n) b)
    decide (16 < grantSum on 21 1) || decide (64 < grantSum on 22 1)
  decide (16 < grantSum all 6 1) || decide (Config.atticExtents < grantSum all 24 2) || decide (Config.templateUnits < grantSum all 26 2)
    || (List.range 16).any (port 30 2) || (List.range 64).any (port 40 8)

/-- A grant moves or cuts the Larder region of another (R491). -/
def regionChanged (old new : List Byte) : Bool :=
  let f := grantField old
  let g := grantField new
  f 8 4 != g 8 4 || f 16 4 != g 16 4 || f 20 1 != g 20 1 || decide (g 12 4 < f 12 4)

/-- GRANT_RESULT 5 (R491): a grant leaves the admitted image of pasture p short of what it holds (R286 to R289, R294). -/
def Die.holdsMore (fu : Fused) (p : Nat) (g : List Byte) (d : Die) : Bool :=
  match d.image p with
  | none => false
  | some im =>
    if !(d.admitted p) then false
    else
      let x : AdmCtx := ⟨fu, { d with grants := KMap.insert d.grants p g }, p, im, none⟩
      regionChanged (d.grant p) g || decide (grantField g 24 2 < extentsOf im)
        || [chkQuarters, chkLarder, chkStores, chkSlots, chkWheel, chkUpdStore].any (fun c => (c x).isSome)

/-- GRANT_RESULT of a COMMIT of grant g for pasture p (R491). -/
def Die.grantResult (fu : Fused) (p : Nat) (g : List Byte) (d : Die) : Nat :=
  let others := (pastures.filter (fun q => q != p)).map d.grant
  if grantRange g then 2
  else if others.any (grantsMeet g) || (bit (grantField g 4 1) 0 && decide (2 ≤ d.role)) then 3
  else if grantsOver (g :: others) then 4
  else if d.holdsMore fu p g then 5
  else if (span fu.engines 8).any (fun e => bits (grantField g 0 4) (4 * e) 4 != 0 || bit (grantField g 4 1) e) then 6
  else 1

/-- COMMIT of OWN_GRANT_SEL (R302, R491). -/
def Die.grantCommit (fu : Fused) (d : Die) : Die :=
  let p := d.get R.OWN_GRANT_SEL_PASTURE
  let g := d.stagedGrant
  let r := d.grantResult fu p g
  if r = 1 then
    let d := d.abortAdmission p 0x0903
    let d := if regionChanged (d.grant p) g then d.clearLarder p else d
    Die.put R.OWN_STATUS_GRANT_RESULT 0 1 { d with grants := KMap.set (List.replicate 64 0) d.grants p g }
  else d.put R.OWN_STATUS_GRANT_RESULT 0 r

/-- A write of OWN_GRANT_SEL (R506, R596). -/
def ownGrantSelW (fu : Fused) (w : Nat) (d : Die) : Die :=
  let d := d.setFields .OWN 0 0x030 w
  match lowestWo w [8, 9] with
  | some 8 => d.grantLoad
  | some _ => d.grantCommit fu
  | none => d

/-- GRANT_LOAD. -/
def execGrantLoad (src : Source) (w : Word) (s : State) : Host.Outcome State Fault Refusal :=
  dieCmd true (writeDie src (blockAddr .OWN 0 0x030) (ownGrantSelW s.fused w.toNat)) s

/-- GRANT_COMMIT. -/
def execGrantCommit (src : Source) (w : Word) (s : State) : Host.Outcome State Fault Refusal :=
  dieCmd true (writeDie src (blockAddr .OWN 0 0x030) (ownGrantSelW s.fused w.toNat)) s

end Sys2Proof.Machine
end

