-- ==== Sys2Proof/Machine/Check.lean ====
section
/-! DEFINITION. Scrubbing (R509 to R512, R515), block tag verdicts (R520, R521), quarantine release (R514), the Sheepdog with its packs and
patterns (R522 to R529), observation (R530, R531) and musters (R532, R533), with their commands. -/

namespace Sys2Proof.Machine

/-- The tile of a word of memory kind 1 or 2: 1,024 words each. -/
def tileOfWord (kind loc : Nat) : Option Nat := if kind = 1 ∨ kind = 2 then some (loc / 1024) else none

/-- The pasture whose grant holds a row word or a directory entry, whose descriptor or whose store a word is, or whose quarter a tile is in. -/
def Die.pastureOfWord (d : Die) (kind loc : Nat) : Option Nat :=
  let at_ (i n lo sz : Nat) (x : Nat) (p : Nat) : Bool :=
    let b := grantField (d.grant p) i n
    decide (b * lo ≤ x) && decide (x < (b + sz) * lo)
  if kind = 1 then d.quarterOwner (loc / 1024 / 512) (loc / 1024 % 512 / 128)
  else if kind = 5 then pastures.find? (fun p => at_ 8 4 1 (grantField (d.grant p) 12 4) loc p)
  else if kind = 6 then pastures.find? (fun p => d.grantK p != 0 && at_ 16 4 4 (2 ^ d.grantK p) (loc % 2 ^ 21) p)
  else if kind = 7 then some (loc / 8)
  else none

/-- The other copy of a grant word (R510): words 0 to 1,023 of kind 16 are pasture × 16 + copy × 8 + word. -/
def twinWord (loc : Nat) : Nat := if loc / 8 % 2 = 0 then loc + 8 else loc - 8

/-- A scrub that finds a data-class word uncorrectable (R511, R512, R515). -/
def Die.scrubUe (fu : Fused) (kind loc : Nat) (d : Die) : Die :=
  let tile := tileOfWord kind loc
  let pas := d.pastureOfWord kind loc
  let d := d.foundUe fu kind loc 4 tile pas
  match tile, pas with
  | some t, some p =>
    match d.image p with
    | some im => if (match regionKind im t (loc % 1024) with | some k => decide (k ≤ 1) | none => false) then d.persist p t else d
    | none => d
  | _, _ => d

/-- A memory kind of the control class (R509). -/
def controlKind (kind : Nat) : Bool := kind == 2 || (decide (15 ≤ kind) && decide (kind ≤ 19))

/-- SCRUB_READ (R510, R512, R516): memories of kinds 1, 2, 5 to 7 and 15 to 18; a word in the poison pattern is left as it is. -/
def State.scrubRead (kind loc err : Nat) (last : Bool) (s : State) : State :=
  if !([1, 2, 5, 6, 7, 15, 16, 17, 18].contains kind) then s
  else
    let k := eccKey kind loc
    let s := if last then { s with die := s.die.count T.CHK_SCRUB_PASSES 0 } else s
    let e := max err (KMap.get 0 s.die.ecc k)
    let control := controlKind kind
    if KMap.get false s.die.poison k then { s with die := s.die.count T.CHK_POISON_READ 0 }
    else if e = 0 then s
    else if e = 1 then { s with die := s.die.foundCe s.fused kind loc (tileOfWord kind loc) }
    else if kind = 16 ∧ loc < 1024 ∧ KMap.get 0 s.die.ecc (eccKey 16 (twinWord loc)) < 2 then
      { s with die := s.die.foundCe s.fused kind loc none }
    else if control then
      { s with die := { s.die.count (T.CHK_UE kind) 0 with ecc := KMap.set 0 s.die.ecc k 2 } }.faultReset kind loc
    else { s with die := s.die.scrubUe s.fused kind loc }

/-- SCRUB_READ. -/
def execScrubRead (kind loc err : Nat) (last : Bool) (s : State) : Host.Outcome State Fault Refusal := .next (s.scrubRead kind loc err last)

/-- Verdict of a failed check (R520): 1 PATH, 2 SOURCE, 3 CHECKER, and whether a block is delivered. -/
def tagVerdict (x : TagCheck) : Nat × Bool :=
  let tag (bs : List Byte) : Nat := crc32c (padTo 256 bs)
  if !x.eccOk || x.tagSrc ≠ x.tag1 then (2, false)
  else if tag x.data2 = x.tag1.toNat then (1, true)
  else if x.data2 ≠ x.data1 then (1, false)
  else if x.echoEcc && tag x.echo == x.tag1.toNat then (3, true)
  else (3, false)

/-- Outcome code of R521. -/
def tagOutcome (x : TagCheck) : Nat :=
  if (tagVerdict x).2 then 1
  else if (tagVerdict x).1 = 2 ∧ controlKind x.kind = true ∧ x.eccOk = false then 4
  else if x.load.isSome then 3
  else 2

/-- A load in progress ends without its block (R146, R299): the quarter is empty; an admission fails with it; the other quarters of a LOAD go on,
and its result stands. -/
def Die.endLoad (e q : Nat) (d : Die) : Die :=
  let l := KMap.get (0, 0, 0) d.loads (e * 4 + q)
  if l = (0, 0, 0) then d
  else
    let d := d.leaveEmpty e q
    let d := if l.2.2 = 0 ∨ l.2.2 = 4 then
        (d.loadingQuarters e).foldl (fun d k => { d with loads := KMap.upd (0, 0, 0) d.loads (e * 4 + k) (fun y => (y.1, y.2.1, 4)) }) d
      else d
    let d := d.setBusy e
    if l.2.2 = 1 ∨ l.2.2 = 2 then (match d.quarterOwner e q with | some p => d.loadFailed p | none => d) else d

/-- The quarters of engine e that a load's failed block concerns: the one of the tile, else all that load. -/
def tagQuarters (x : TagCheck) (e : Nat) (d : Die) : List Nat :=
  match x.tile with
  | some t => [t % 512 / 128]
  | none => (List.range 4).filter (fun q => KMap.get (0, 0, 0) d.loads (e * 4 + q) != (0, 0, 0))

/-- The record of kind 5 (R520, R534). -/
def Die.tagRecord (fu : Fused) (x : TagCheck) (d : Die) : Die :=
  let pas := x.tile.bind (fun t => d.quarterOwner (t / 512) (t % 512 / 128))
  let pk := match pas with | some p => d.pasKeys p | none => []
  d.faultRecord fu 5 ([(4, .uint x.kind)]
    ++ (match x.tile with | some t => [(5, .uint t), (6, .uint (d.physCol t))] | none => [(5, .uint x.loc)])
    ++ pk.take 1 ++ [(9, .arr [(tagVerdict x).1, tagOutcome x])] ++ pk.drop 1)

/-- TAG_CHECK_FAIL (R146, R511, R516, R520, R521, R530): an uncorrectable error that the re-read finds in a data-class source counts and leaves
the poison pattern there. -/
def State.tagFail (x : TagCheck) (s : State) : State :=
  let d := s.die.count (if (tagVerdict x).1 = 1 then T.CHK_PATH else if (tagVerdict x).1 = 2 then T.CHK_SOURCE else T.CHK_CHECKER) 0
  let d := d.tagRecord s.fused x
  let o := tagOutcome x
  let d := if !x.eccOk && !(controlKind x.kind) then d.foundUe s.fused x.kind x.loc 2 (tileOfWord x.kind x.loc) (d.pastureOfWord x.kind x.loc) else d
  if o = 4 then
    { s with die := { d.count (T.CHK_UE x.kind) 0 with ecc := KMap.set 0 d.ecc (eccKey x.kind x.loc) 2 } }.faultReset x.kind x.loc
  else
    let d :=
      if o = 3 then (match x.load with | some e => (tagQuarters x e d).foldl (fun d q => d.endLoad e q) d | none => d)
      else if o = 2 then
        { d.count T.CHK_TAG_POISON 0 with poison := x.dstLocs.foldl (fun m l => KMap.set false m (eccKey x.dstKind l) true) d.poison }
      else d
    { s with die := match x.tile with
        | some t => if tagVerdict x = (3, true) then d.observe s.fused (t / 512) else d
        | none => d }

/-- Every unit a tag check names exists. -/
def tagKnown (x : TagCheck) : Bool :=
  decide (1 ≤ x.kind) && decide (x.kind ≤ 20) && (match x.load with | some e => decide (e < 8) | none => true)
    && (match x.tile with | some t => decide (t < 4096) && decide (t % 32 < 24) | none => true)

/-- TAG_CHECK_FAIL. -/
def execTagCheckFail (x : TagCheck) (s : State) : Host.Outcome State Fault Refusal := guardU (tagKnown x) (s.tagFail x)

/-- A write of PAS_QUARANTINE (R514, R539). -/
def pasQuarantineW (p w : Nat) (d : Die) : Die :=
  let d := d.setFields .PAS p 0x020 w
  if bit w 1 && !(d.on R.PAS_QUARANTINE_STATUS_PERSISTENT p) then d.flag R.PAS_QUARANTINE_STATUS_QUARANTINED p false else d

/-- QUARANTINE_RELEASE. -/
def execQuarantineRelease (src : Source) (p : Nat) (w : Word) (s : State) : Host.Outcome State Fault Refusal :=
  dieCmd (decide (p < 64)) (writeDie src (blockAddr .PAS p 0x020) (pasQuarantineW p w.toNat)) s

/-- The patterns that a pass outside a muster runs (R526). -/
def patrolOf (k : Pack) : List (Nat × Pattern) := (indexed k.patterns).filter (fun x => !x.2.musterOnly)

/-- PASS_SLOTS (R528). -/
def passSlots (k : Pack) : Nat := ((patrolOf k).map (fun x => x.2.words.length * x.2.reps)).sum

/-- The Sheepdog may use a tile (R529, R533, R578): no muster, power and a clock, and slots: those of the image's share, or of an empty quarter at shed
level 0. -/
def Die.sheepMay (d : Die) (tile : Nat) : Bool :=
  let e := tile / 512
  let q := tile % 512 / 128
  !(d.sheep e).muster && !(d.gated e) && !(KMap.get false d.stopped (e * 4 + q)) && d.get R.PWR_STATUS_STATE ≠ 2 && d.get R.PWR_STATUS_STATE ≠ 3
    && (if d.qstate e q = 0 then d.get R.DEV_SHED_STATUS_LEVEL == 0
        else match (d.quarterOwner e q).bind d.image with | some im => im.sheep != 0 | none => false)

/-- Keys 5, 6, 10 and 11 of a Sheepdog record (R534). -/
def Die.patternKeys (d : Die) (tile : Nat) (k : Pack) (x : Pattern) (seen : BitVec 64) : List (Nat × Cbor) :=
  [(5, .uint tile), (6, .uint (d.physCol tile)), (10, .arr [k.packId.toNat, k.version.toNat, x.id, x.reps - 1]),
    (11, .strs [x.expected.toNat, seen.toNat])]

/-- A failure is recorded (R527, R533). -/
def Die.noteFailure (tile : Nat) (d : Die) : Die :=
  let e := tile / 512
  let d := if d.on R.SHD_STATUS_FAILED e then d else d.put R.SHD_STATUS_FAIL_TILE e tile
  d.flag R.SHD_STATUS_FAILED e true

/-- A transient (R527, R530). -/
def Die.transient (fu : Fused) (tile : Nat) (k : Pack) (x : Pattern) (seen : BitVec 64) (d : Die) : Die :=
  let e := tile / 512
  let d := d.count T.SHD_SHD_TRANSIENT e
  let d := d.faultRecord fu 7 (d.patternKeys tile k x seen)
  let recent := (d.sheep e).transients.filter (fun t => decide (d.ns - t ≤ 10 ^ 9))
  let d := d.onShd e (fun y => { y with transients := d.ns :: recent })
  if recent.isEmpty then d else d.observe fu e

/-- A confirmed failure (R527, R530, R559). -/
def Die.confirmed (fu : Fused) (tile : Nat) (k : Pack) (x : Pattern) (seen : BitVec 64) (d : Die) : Die :=
  let e := tile / 512
  let q := tile % 512 / 128
  let d := (d.count T.SHD_SHD_FAIL e).noteFailure tile
  let d := d.faultRecord fu 6 (d.patternKeys tile k x seen)
  let d := (d.incident 3 1 0 tile).observe fu e
  if d.on R.SHD_CONTROL_ACTION e && d.qstate e q == 2 then
    match d.quarterOwner e q with
    | some p => (d.closeEntry e p).setBusy e
    | none => d
  else d

/-- The Sheepdog's one context (R522); its table register holds the operand beats. DESIGN CHOICE (log 90). -/
def patternCtx : CtxCfg := { trSrc := [1016, 1016] }

/-- What an allowed opcode of a pattern does (R524). -/
def patternOp (w : Nat) : Fused → Fire → Die → Out × Die :=
  match opc w with
  | 1 => dotOp
  | 2 => dotaOp
  | 3 => dwcOp
  | 4 => expandOp
  | 5 => scalegOp
  | 6 => accfOp
  | 7 => rqOp
  | 8 => actOp
  | 9 => reluOp
  | 10 => clampOp
  | 11 => vecOp (fun _ => add32)
  | 12 => vecOp (fun _ => mul32)
  | 13 => vecOp maxLane
  | 14 => vecOp minLane
  | 15 => vecOp cmpLane
  | 16 => selvOp
  | 17 => if fld w 36 34 = 0 then normAffineOp else normLayerOp
  | 18 => argmaxOp
  | 19 => treeOp
  | 20 => leafOp
  | 21 => movqOp
  | 22 => bcastOp
  | 23 => gatherOp
  | 24 => scatterOp
  | 26 => packOp
  | 27 => unpackOp
  | _ => nopOp

/-- An image that names nothing: a pattern runs under none. -/
def noImage : Image :=
  { imageId := 0, length := 0, keySlot := 0, manImageId := 0, grades := 0, mode := 0, fMHz := 0, engineMask := 0, shape := 0, sheep := 0,
    auditByte := 0, entryWait := 0, certNs := 0, stepBase := 0 }

/-- One operation of a pattern (R524): queue q names the beats from 1,016 + q on; its result beats, and the tile after it. -/
def patternFire (fu : Fused) (tile : Nat) (w : OpWord) (d : Die) : List Beat × Die :=
  let n := w.toNat
  let from_ (q m : Nat) : List QBeat := (List.range m).map (fun i => ⟨BitVec.ofNat 256 (d.beat tile (1016 + q + i)), 0, false, true⟩)
  let d1 := d.onCtx tile 0 (fun c => { c with queues := [] })
  let d1 := (shapeOf n).ins.foldl (fun d y => d.push tile 0 y.1 (from_ y.1 y.2)) d1
  let r := patternOp n fu ⟨tile, 0, 0, n, 0, noImage, ⟨tile / 512, 0, 0, 1, 1, 1, [], 0, 0⟩, patternCtx, 1⟩ d1
  (r.1.outs.flatMap (fun y => y.2.2.map (fun b => b.data)), r.2)

/-- A repetition of a pattern (R526): operand beats rotated left by r bits, then each operation, its result beats folded into the digest. -/
def patternRep (fu : Fused) (tile : Nat) (x : Pattern) (a : Nat × Die) (r : Nat) : Nat × Die :=
  let d := (indexed x.operands).foldl (fun d y => d.putBeat tile (1016 + y.1) (y.2.rotateLeft r).toNat false) a.2
  let tr : TabReg := { bytes := (List.range 8).flatMap (fun i => leBytes 32 (d.beat tile (1016 + i))) }
  let d := d.onCtx tile 0 (fun c => { c with tr := KMap.set {} (KMap.set {} c.tr 0 tr) 1 tr })
  x.words.foldl (fun a w => let y := patternFire fu tile w a.2; (y.1.foldl (fun g b => mixBeat g b.toNat) a.1, y.2)) (a.1, d)

/-- What a sound tile makes of a pattern (R526): its digest, and a tile whose beats 1,016 to 1,023 are those it leaves; `own` are the beats
before it. -/
def patternRun (fu : Fused) (tile : Nat) (x : Pattern) (own : Nat → Nat) : Nat × Die :=
  let d : Die := {}
  let d := (List.range 8).foldl (fun (d : Die) i => d.putBeat tile (1016 + i) (own (1016 + i)) false) d
  (List.range x.reps).foldl (patternRep fu tile x) (x.id, d)

/-- Beats of the tile's store that a pattern reads and has not written: poison in one skips the pattern (R526). -/
def patternReads (x : Pattern) : List Nat :=
  let ti : TileImg := ⟨0, {}, (indexed x.operands).map (fun y => (1016 + y.1, y.2))⟩
  let all := x.words.flatMap (fun w =>
    (shapeOf w.toNat).ins.flatMap (fun q => (List.range q.2).map (fun i => 1016 + q.1 + i))
      ++ (storeReads ⟨0, 0, 0, w.toNat, patternCtx, ti⟩ false).flatMap (fun a => (List.range a.2).map (fun i => a.1 + i)))
  (all.filter (fun b => decide (1016 + x.operands.length ≤ b) && decide (b < 1024))).eraseDups

/-- The tile after a pattern: the beats that it has written. -/
def Die.putPattern (tile : Nat) (x : Pattern) (after : Nat → Nat) (d : Die) : Die :=
  (List.range 8).foldl (fun d i =>
    if i < x.operands.length ∨ after (1016 + i) ≠ d.beat tile (1016 + i) then d.putBeat tile (1016 + i) (after (1016 + i)) false else d) d

/-- The tiles of an engine: 16 rows of 24 columns. -/
def engTiles : List Nat := (List.range 16).flatMap (fun r => (List.range 24).map (fun c => 32 * r + c))

/-- Whether the sequencer turns to a tile (R526): it finishes the tile under test while that one has slots, and takes each tile once in a pass.
DESIGN CHOICE (log 144): in which order it takes them is free. -/
def Die.sheepTurn (e tile : Nat) (d : Die) : Bool :=
  let y := d.sheep e
  !(y.tested.contains tile) && (y.pos == 0 || y.tile == tile || !(d.sheepMay (e * 512 + y.tile)))

/-- The pass ends once every tile of the engine that has slots is done (R526). -/
def Die.passEnds (e : Nat) (tested : List Nat) (d : Die) : Bool := engTiles.all (fun t => tested.contains t || !(d.sheepMay (e * 512 + t)))

/-- The sequencer's place after a pattern (R526): the next pattern of the tile, or the tile is done. -/
def Die.sheepNext (e : Nat) (k : Pack) (tile pos : Nat) (d : Die) : Die :=
  if pos + 1 < (patrolOf k).length then d.onShd e (fun y => { y with tile := tile, pos := pos + 1 })
  else
    let tested := (d.sheep e).tested ++ [tile]
    if d.passEnds e tested then (d.count T.SHD_PASSES e).onShd e (fun y => { y with tile := 0, pos := 0, tested := [] })
    else d.onShd e (fun y => { y with tile := tile, pos := 0, tested := tested })

/-- SHD_PATTERN (R526 to R530): the sequencer's next pattern on a tile; `err1` and `err2` are the bits in which a fault of the tile makes the
digests of its run and of its rerun differ from a sound tile's. -/
def Die.shdPattern (fu : Fused) (tile : Nat) (err1 err2 : BitVec 64) (d : Die) : Die :=
  let e := tile / 512
  match (d.sheep e).pack with
  | none => d
  | some k =>
    let pos := if (d.sheep e).tile = tile % 512 then (d.sheep e).pos else 0
    match (patrolOf k)[pos]? with
    | none => d
    | some (i, x) =>
      if !(d.sheepMay tile) || !(d.sheepTurn e (tile % 512)) then d
      else
        let rd := d.eccRead fu 14 (e * 4096 + i) none none
        let d := rd.2
        if rd.1 then (d.count T.SHD_SHD_SKIP e).sheepNext e k (tile % 512) pos
        else
          let own := d.eccReadAll fu 1 (some tile) (d.quarterOwner e (tile % 512 / 128)) ((patternReads x).map (tsLoc tile))
          let d := own.2
          if own.1 then (d.count T.SHD_SHD_SKIP e).sheepNext e k (tile % 512) pos
          else
          let run := patternRun fu tile x (d.beat tile)
          let obs1 := BitVec.ofNat 64 run.1 ^^^ err1
          let obs2 := BitVec.ofNat 64 run.1 ^^^ err2
          let d := d.putPattern tile x (run.2.beat tile)
          let d := if obs1 = x.expected then d
            else if obs2 = x.expected then d.transient fu tile k x obs1
            else d.confirmed fu tile k x obs2
          d.sheepNext e k (tile % 512) pos

/-- SHD_PATTERN. -/
def execShdPattern (tile : Nat) (err1 err2 : BitVec 64) (s : State) : Host.Outcome State Fault Refusal :=
  dieCmd (decide (tile < 4096) && decide (tile % 32 < 24)) (fun s => s.die.shdPattern s.fused tile err1 err2) s

/-- A pattern record read from its bytes (R524), and whether they keep R524. -/
def parsePattern (r : List Byte) : Pattern × Bool :=
  let b (i : Nat) : Nat := (byteAt r i).toNat
  let words := (List.range 4).map (fun i => BitVec.ofNat 64 (leNat (slice r (8 + 8 * i) 8)))
  let operands := (List.range (b 4)).map (fun i => BitVec.ofNat 256 (leNat (slice r (48 + 32 * i) 32)))
  let ti : TileImg := ⟨0, {}, (indexed operands).map (fun y => (1016 + y.1, y.2))⟩
  let inOwn (a : Nat × Nat) : Bool := decide (1016 ≤ a.1) && decide (a.1 + a.2 ≤ 1024)
  let wordOk (w : OpWord) : Bool :=
    let n := w.toNat
    let c := opc n
    (decide (c ≤ 24) || c == 26 || c == 27) && (shapeOf n).ins.all (fun q => decide (q.1 + max q.2 1 ≤ 8))
      && (storeReads ⟨0, 0, 0, n, patternCtx, ti⟩ false).all inOwn && (match storeWrites n with | some a => inOwn a | none => true)
  let ok := decide (b 2 ≤ 1) && decide (1 ≤ b 3) && decide (b 3 ≤ 4) && decide (1 ≤ b 4) && decide (b 4 ≤ 8) && b 5 == 0
    && leNat (slice r 6 2) != 0 && (words.take (b 3)).all wordOk && (words.drop (b 3)).all (fun w => w == 0)
  ({ id := leNat (slice r 0 2), musterOnly := bit (b 2) 0, reps := leNat (slice r 6 2), words := words.take (b 3)
     expected := BitVec.ofNat 64 (leNat (slice r 40 8)), operands := operands }, ok)

/-- n pattern records from their bytes: the records, the bytes left, and whether all keep R524. -/
def parsePatterns : Nat → List Byte → List Pattern × List Byte × Bool
  | 0, bs => ([], bs, true)
  | n + 1, bs =>
    let size := 48 + 32 * (byteAt bs 4).toNat
    let x := parsePattern (bs.take size)
    let y := parsePatterns n (bs.drop size)
    (x.1 :: y.1, y.2.1, x.2 && decide (size ≤ bs.length) && y.2.2)

/-- A pack read from its bytes (R523): the pack and whether its fields and records keep R523 and R524. Fewer than 32 zero bytes may fill up
the last 32. -/
def parsePack (bs : List Byte) : Pack × Bool :=
  let len := leNat (slice bs 20 4)
  let n := leNat (slice bs 16 2)
  let body := slice bs 32 (len - 160)
  let r := if n ≤ 4096 then parsePatterns n body else ([], [], false)
  let ok := leNat (bs.take 4) == 0x4B504453 && leNat (slice bs 4 2) == 1 && slice bs 7 1 == [0] && (slice bs 24 8).all (fun x => x == 0)
    && decide (1 ≤ n) && decide (160 ≤ len) && len % 32 == 0 && r.2.2 && decide (r.2.1.length < 32) && r.2.1.all (fun x => x == 0)
  ({ keySlot := leNat (slice bs 6 1), packId := BitVec.ofNat 32 (leNat (slice bs 8 4)), version := BitVec.ofNat 32 (leNat (slice bs 12 4))
     coverage := leNat (slice bs 18 2), length := len, patterns := r.1 }, ok)

/-- The signature of a pack verifies (R279, R500, R525). -/
def Die.packSigned (d : Die) (bs : List Byte) : Bool :=
  let len := leNat (slice bs 20 4)
  let sig := slice bs (len - 128) 128
  decide (160 ≤ len) && decide (len ≤ bs.length) && (slice sig 96 32).all (fun x => x == 0)
    && d.keyOk (leNat (slice bs 6 1)) (fun k => k.pack) (sha384 (bs.take (len - 128))) (beNat (sig.take 48)) (beNat (slice sig 48 48))

/-- PACK_RESULT of a pack for engine e (R525), `bs` none where the host read failed. -/
def Die.packResult (e : Nat) (bs : Option (List Byte)) (d : Die) (lenReg : Nat) : Nat :=
  match bs with
  | none => 5
  | some bs =>
    let k := parsePack bs
    let old := match (d.sheep e).pack with | some y => y.version.toNat | none => 0
    if !(d.packSigned bs) then 2
    else if !k.2 then 3
    else if k.1.version.toNat < old then 4
    else if 65536 < k.1.length ∨ k.1.length ≠ lenReg then 6
    else 1

/-- A pack takes force on engine e (R525, R540). -/
def Die.takePack (e : Nat) (k : Pack) (d : Die) : Die :=
  let d := d.onShd e (fun y => { y with pack := some k, pos := 0, tile := 0, tested := [] })
  ((d.put R.SHD_PACK_ID_VALUE e k.packId.toNat).put R.SHD_PACK_VERSION_VALUE e k.version.toNat).put R.SHD_PASS_SLOTS_VALUE e (passSlots k)

/-- LOAD of SHD_PACK (R525): the host's bytes in the PF's space, or the staging window's. -/
def Die.packLoad (fu : Fused) (e : Nat) (hostFail : Bool) (d : Die) : Die :=
  let len := d.get R.SHD_PACK_LEN_VALUE e
  let bs : Option (List Byte) :=
    if d.on R.SHD_PACK_STAGED e then some ((d.sheep e).stage.flatMap (fun w => leBytes 4 w.toNat))
    else if hostFail then none
    else some (d.hostRead 0 (d.addr64 R.SHD_PACK_ADDR_LO R.SHD_PACK_ADDR_HI e) len)
  let es := if d.on R.SHD_PACK_ALL e then List.range fu.engines else [e]
  es.foldl (fun d t =>
    let r := d.packResult t bs len
    let d := if r = 1 then (match bs with | some x => d.takePack t (parsePack x).1 | none => d) else d
    d.put R.SHD_STATUS_PACK_RESULT t r) d

/-- A write of SHD_PACK (R540, R596). -/
def shdPackW (fu : Fused) (e : Nat) (hostFail : Bool) (w : Nat) (d : Die) : Die :=
  let d := d.setFields .SHD e 0x020 w
  match lowestWo w [0, 3] with
  | some 0 => d.packLoad fu e hostFail
  | some _ => d.onShd e (fun y => { y with stage := [] })
  | none => d

/-- PACK_LOAD. -/
def execPackLoad (src : Source) (e : Nat) (w : Word) (hostFail : Bool) (s : State) : Host.Outcome State Fault Refusal :=
  dieCmd (decide (e < 8)) (fun s => writeDie src (blockAddr .SHD e 0x020) (shdPackW s.fused e hostFail w.toNat) s) s

/-- STAGE_RESET. -/
def execStageReset (src : Source) (e : Nat) (w : Word) (s : State) : Host.Outcome State Fault Refusal :=
  dieCmd (decide (e < 8)) (fun s => writeDie src (blockAddr .SHD e 0x020) (shdPackW s.fused e false w.toNat) s) s

/-- A write of SHD_PACK_WIN (R525, R540): one word more in the staging window. -/
def shdPackWinW (e w : Nat) (d : Die) : Die := d.onShd e (fun y => { y with stage := y.stage ++ [BitVec.ofNat 32 w] })

/-- PACK_WIN_WRITE. -/
def execPackWinWrite (src : Source) (e : Nat) (w : Word) (s : State) : Host.Outcome State Fault Refusal :=
  dieCmd (decide (e < 8)) (writeDie src (blockAddr .SHD e 0x024) (shdPackWinW e w.toNat)) s

/-- OBSERVE_END (R531). -/
def Die.observeEnd (fu : Fused) (e : Nat) (d : Die) : Die :=
  if d.on R.SHD_STATUS_OBSERVED e then
    ((d.flag R.SHD_STATUS_OBSERVED e false).flag R.SHD_CONTROL_OBSERVE e false).faultRecord fu 13 []
  else d

/-- The pastures that hold a quarter of engine e. -/
def Die.engPastures (d : Die) (e : Nat) : List Nat := ((List.range 4).filterMap (d.quarterOwner e)).eraseDups

/-- MUSTER (R532, R533): refused, or every quarter of the engine quiesces. -/
def Die.musterGo (e : Nat) (d : Die) : Die :=
  if d.engBusy e || (d.sheep e).muster then d.put R.SHD_STATUS_MUSTER e 4
  else
    let run := ((List.range 4).filter (fun q => d.qstate e q == 2)).map (fun q => 2 ^ q)
    let d := (d.put R.SHD_STATUS_MUSTER e 1).onShd e (fun y => { y with muster := true, wasRunning := run.sum })
    ((d.engPastures e).foldl (fun d p => d.closeEntry e p) d).setBusy e

/-- A write of SHD_CONTROL (R530 to R532, R540, R596). -/
def shdControlW (fu : Fused) (e w : Nat) (d : Die) : Die :=
  let d := d.setFields .SHD e 0x010 w
  let d := if bit w 0 then d.observe fu e else d
  match lowestWo w [1, 2] with
  | some 1 => d.observeEnd fu e
  | some _ => d.musterGo e
  | none => d

/-- OBSERVE. -/
def execObserve (src : Source) (e : Nat) (w : Word) (s : State) : Host.Outcome State Fault Refusal :=
  dieCmd (decide (e < 8)) (fun s => writeDie src (blockAddr .SHD e 0x010) (shdControlW s.fused e w.toNat) s) s

/-- OBSERVE_END. -/
def execObserveEnd (src : Source) (e : Nat) (w : Word) (s : State) : Host.Outcome State Fault Refusal :=
  dieCmd (decide (e < 8)) (fun s => writeDie src (blockAddr .SHD e 0x010) (shdControlW s.fused e w.toNat) s) s

/-- MUSTER. -/
def execMuster (src : Source) (e : Nat) (w : Word) (s : State) : Host.Outcome State Fault Refusal :=
  dieCmd (decide (e < 8)) (fun s => writeDie src (blockAddr .SHD e 0x010) (shdControlW s.fused e w.toNat) s) s

/-- The reload of a muster (R142, R146, R533): configuration and weights of every quarter that held an image and that no admission loads; those
that were running run again. A quarter of `lost` stays empty: its reload ends under R146. -/
def Die.musterReload (fu : Fused) (e lost : Nat) (d : Die) : Die :=
  let was := (d.sheep e).wasRunning
  let held (q : Nat) : Option (Nat × Image × EngineImg) :=
    if KMap.get (0, 0, 0) d.loads (e * 4 + q) != (0, 0, 0) || d.qstate e q == 0 then none
    else (d.quarterOwner e q).bind (fun p => (d.image p).bind (fun im => (engOf im e).map (fun ei => (p, im, ei))))
  let ps := (((List.range 4).filter (fun q => !(bit lost q))).filterMap held).map (fun y => (y.1, y.2.1))
  let d := (List.range 4).foldl (fun d q => match held q with
    | some (p, im, ei) =>
      let d := d.calEnd p
      if bit lost q then d.leaveEmpty e q
      else
        let d := (d.loadQuarter fu e q p 0 im ei).setQ e q 3
        if bit was q then d.openEntry e q else d
    | none => d) d
  let d := ps.eraseDups.foldl (fun d y => d.updReset e y.1 y.2 false) d
  if ps.isEmpty then d else d.count T.ENG_LOADS e

/-- MUSTER_DONE (R533, R547): once no slot of the engine is in flight. -/
def Die.musterDone (fu : Fused) (e : Nat) (fail : Option MusterFail) (lost : Nat) (d : Die) : Die :=
  if (d.sheep e).muster && (d.engPastures e).all (fun p => (d.engPas e p).flight.isEmpty) then
    let d := (d.musterReload fu e lost).onShd e (fun y => { y with muster := false, wasRunning := 0 })
    let d := (d.count T.SHD_MUSTERS e).setBusy e
    match fail with
    | none => (d.put R.SHD_STATUS_MUSTER e 2).faultRecord fu 9 []
    | some x =>
      let tile := e * 512 + x.tile % 512
      let keys := match (d.sheep e).pack.bind (fun k => x.pattern.bind (fun i => (k.patterns[i]?).map (fun y => (k, y)))) with
        | some (k, y) => d.patternKeys tile k y x.observed
        | none => [(5, .uint tile), (6, .uint (d.physCol tile))]
      ((((d.put R.SHD_STATUS_MUSTER e 3).noteFailure tile).alarm 5).faultRecord fu 8 keys).observe fu e
  else d

/-- MUSTER_DONE. -/
def execMusterDone (e : Nat) (x : MusterEnd) (s : State) : Host.Outcome State Fault Refusal :=
  dieCmd (decide (e < 8)) (fun s => s.die.musterDone s.fused e x.fail x.lost) s

end Sys2Proof.Machine
end

