-- ==== Sys2Proof/Machine/Loft.lean ====
section
/-! DEFINITION. The Loft's controls (R556, R560 to R562, R567) and their commands. -/

namespace Sys2Proof.Machine

/-- CAPTURE_FREEZE (R560): POST × 16 KiB have entered the region since the INCIDENT packet. -/
def Die.captureFreeze (d : Die) : Die :=
  if d.get R.LFT_STATUS_FF_STATE = 2 ∧ d.get R.LFT_FF_POST * 16384 ≤ d.loft.ffAfter then d.put R.LFT_STATUS_FF_STATE 0 3 else d

/-- CAPTURE_FREEZE. -/
def execCaptureFreeze (s : State) : Host.Outcome State Fault Refusal := .next (onDie Die.captureFreeze s)

/-- ARM (R561, R567): ignored while a dump is in progress. -/
def Die.ffArm (d : Die) : Die :=
  if d.on R.LFT_STATUS_DUMP_BUSY then d
  else Die.put R.LFT_STATUS_CAUSE 0 0 (Die.put R.LFT_STATUS_FF_STATE 0 1 { d with loft := { d.loft with ff := [], ffAfter := 0 } })

/-- Bytes of the first-failure region (R554). -/
def ffBytes : Nat := 262144

/-- DUMP (R562): the region as it stands, oldest packet first, then zero bytes. -/
def Die.ffDump (d : Die) : Die :=
  if d.on R.LFT_STATUS_DUMP_BUSY then d
  else (d.hostWrite 0 (d.addr64 R.LFT_DUMP_ADDR_LO R.LFT_DUMP_ADDR_HI) (padTo ffBytes d.loft.ff.flatten)).flag R.LFT_STATUS_DUMP_BUSY 0 true

/-- DISARM (R567). -/
def Die.ffDisarm (d : Die) : Die :=
  if d.get R.LFT_STATUS_FF_STATE = 1 ∨ d.get R.LFT_STATUS_FF_STATE = 2 then d.put R.LFT_STATUS_FF_STATE 0 0 else d

/-- A write of LFT_FF (R567, R596). -/
def lftFfW (w : Nat) (d : Die) : Die :=
  let d := d.setFields .LFT 0 0x014 w
  match lowestWo w [0, 1, 2, 3] with
  | some 0 => d.ffArm
  | some 1 => d.ffDump
  | some 2 => d.incident 12 9 0 0
  | some _ => d.ffDisarm
  | none => d

/-- ARM. -/
def execArm (src : Source) (w : Word) (s : State) : Host.Outcome State Fault Refusal :=
  dieCmd true (writeDie src (blockAddr .LFT 0 0x014) (lftFfW w.toNat)) s

/-- DUMP. -/
def execDump (src : Source) (w : Word) (s : State) : Host.Outcome State Fault Refusal :=
  dieCmd true (writeDie src (blockAddr .LFT 0 0x014) (lftFfW w.toNat)) s

/-- TRIGGER (R559). -/
def execTrigger (src : Source) (w : Word) (s : State) : Host.Outcome State Fault Refusal :=
  dieCmd true (writeDie src (blockAddr .LFT 0 0x014) (lftFfW w.toNat)) s

/-- DISARM. -/
def execDisarm (src : Source) (w : Word) (s : State) : Host.Outcome State Fault Refusal :=
  dieCmd true (writeDie src (blockAddr .LFT 0 0x014) (lftFfW w.toNat)) s

/-- DUMP_DONE (R562). -/
def execDumpDone (s : State) : Host.Outcome State Fault Refusal :=
  .next (onDie (Die.flag R.LFT_STATUS_DUMP_BUSY 0 false) s)

/-- A write of LFT_CONTROL (R556, R567): with LANES set it names LANE_A, and with TWO also LANE_B, which must differ. PCIE is the
ENABLE of the general ring: its change from 0 to 1 sets both counts to 0 (R608). -/
def lftControlW (w : Nat) (d : Die) : Die :=
  let named := if bit w 1 then bits w 8 6 :: (if bit w 2 then [bits w 16 6] else []) else []
  if named.all d.loftLane && decide (named.eraseDups.length = named.length) then
    let fresh := !(d.on R.LFT_CONTROL_PCIE) && bit w 0
    let d := d.setFields .LFT 0 0x010 w
    if fresh then (d.put R.LFT_RING_HEAD_VALUE 0 0).put R.LFT_RING_TAIL_VALUE 0 0 else d
  else d.flag R.LFT_STATUS_LANES_REFUSED 0 true

/-- LFT_CONTROL. -/
def execLftControl (src : Source) (w : Word) (s : State) : Host.Outcome State Fault Refusal :=
  dieCmd true (writeDie src (blockAddr .LFT 0 0x010) (lftControlW w.toNat)) s

end Sys2Proof.Machine
end

