-- ==== Sys2Proof/Machine/Pins.lean ====
section
/-! DEFINITION. The KILL inputs and their state machine (R637, R638, R644) and the TRIG_IN inputs (R633 to R635, R644), with their
commands. -/

namespace Sys2Proof.Machine

/-- What a tick does to a machine in IDLE (R637): a count of KILLS stands for the second component. -/
def Kill.idleTick (a b : Bool) (k : Kill) : Kill × Bool :=
  let k := if k.pending && !a && !b then { k with nt := k.ntNew, pending := false } else k
  if a || b then
    if a && b then ({ k with st := .normal }, true) else ({ k with st := .wait, n0 := k.tick, first := b }, true)
  else (k, false)

/-- In WAIT: the second component says that a discrepancy fault latches. -/
def Kill.waitTick (a b : Bool) (k : Kill) : Kill × Bool :=
  if k.nt < k.tick - k.n0 then ({ k with st := .fault, quiet := 0 }, true)
  else if (!k.first && b) || (k.first && a) then ({ k with st := .normal }, false)
  else (k, false)

/-- In NORMAL. -/
def Kill.normalTick (a b : Bool) (k : Kill) : Kill := if !a && !b then { k with st := .idle } else k

/-- In FAULT (R637, R638). -/
def Kill.faultTick (a b : Bool) (k : Kill) : Kill :=
  if a || b then { k with quiet := 0, clearRefused := k.clearRefused || k.clearReq, clearReq := false }
  else if k.clearReq then { k with st := .idle, clearReq := false }
  else { k with quiet := k.quiet + 1 }

/-- One kill tick (R637): the machine, whether KILLS counts, whether KILL_DISCREPANCY counts. -/
def Kill.step (a b : Bool) (k : Kill) : Kill × Bool × Bool :=
  let r : Kill × Bool × Bool := match k.st with
    | .idle => let x := k.idleTick a b; (x.1, x.2, false)
    | .wait => let x := k.waitTick a b; (x.1, false, x.2)
    | .normal => (k.normalTick a b, false, false)
    | .fault => (k.faultTick a b, false, false)
  ({ r.1 with a := a, b := b, tick := k.tick + 1, blocked := r.1.st != .idle }, r.2)

/-- KILL_TICK (R559, R637 to R639): a kill cuts every TRIG_OUT pulse. -/
def State.killTick (a b : Bool) (s : State) : State :=
  if s.kill.running then
    let r := s.kill.step a b
    let d := if r.2.1 then (s.die.count T.CHK_KILLS 0).incident 6 1 0 0 else s.die
    let d := if r.2.2 then (d.count T.CHK_KILL_DISCREPANCY 0).incident 7 1 0 0 else d
    { s with kill := r.1, die := if r.1.blocked then d.pinsLow else d }
  else s

/-- KILL_TICK. -/
def execKillTick (a b : Bool) (s : State) : Host.Outcome State Fault Refusal := .next (s.killTick a b)

/-- CLEAR (R638). -/
def Kill.clear (k : Kill) : Kill :=
  if k.st = .fault ∧ k.nt + 1 ≤ k.quiet then { k with clearReq := true } else { k with clearRefused := true }

/-- T as written to PWR_KILL (R637, R644): a value that takes waits for an idle tick. -/
def Kill.setT (locked : Bool) (w : Nat) (k : Kill) : Kill :=
  let t := bits w 0 22
  if locked || decide (t < 250) || decide (2500000 < t) then k else { k with ntNew := t, pending := true }

/-- A write of PWR_KILL (R596, R644). -/
def pwrKillW (w : Nat) (s : State) : State :=
  let k := s.kill.setT (s.die.on (pageLock (blockAddr .PWR 0 0))) w
  { s with die := s.die.setFields .PWR 0 0x020 w, kill := if bit w 31 then k.clear else k }

/-- KILL_CLEAR. -/
def execKillClear (src : Source) (w : Word) (s : State) : Host.Outcome State Fault Refusal :=
  .next (writeAt src (blockAddr .PWR 0 0x020) (pwrKillW w.toNat) s)

/-- KILL_T_WRITE. -/
def execKillTWrite (src : Source) (w : Word) (s : State) : Host.Outcome State Fault Refusal :=
  .next (writeAt src (blockAddr .PWR 0 0x020) (pwrKillW w.toNat) s)

/-- Input i. -/
def Die.trigin (d : Die) (i : Nat) : TrigIn := KMap.get {} d.trigIn i

/-- Change input i. -/
def Die.onTrigin (i : Nat) (f : TrigIn → TrigIn) (d : Die) : Die := { d with trigIn := KMap.upd {} d.trigIn i f }

/-- Input i is masked (R634). -/
def Die.trigMasked (d : Die) (i : Nat) : Bool := bit (d.get R.CHK_TRIGIN_STATUS_MASKED) i

/-- Set or clear MASKED of input i. -/
def Die.setMasked (i : Nat) (b : Bool) (d : Die) : Die :=
  d.put R.CHK_TRIGIN_STATUS_MASKED 0 (setBit (d.get R.CHK_TRIGIN_STATUS_MASKED) i b)

/-- The current cc, counted by FC (R22). -/
def Die.nowCc (d : Die) : Nat := 2 * d.fc

/-- A pulse is settled by the checks of R633: its first active sample, its width in samples, and the FC of its capture in 2^-4 ns (R635). -/
def Die.settlePulse (i first width fc16 : Nat) (d : Die) : Die :=
  if d.trigMasked i then d
  else if width < d.get (R.PWR_TRIGIN_MINW i) then d.count T.CHK_TRIGIN_GLITCH 0
  else
    let late := match (d.trigin i).lastAcc with
      | some a => decide (first < a + d.get (R.PWR_TRIGIN_DEAD i) * 16)
      | none => false
    if late then d.count (T.CHK_TRIGIN_RATE_DROP i) 0
    else
      let d := d.onTrigin i (fun x => { x with lastAcc := some first })
      if 16 ≤ (d.trigin i).queue.length then d.count T.CHK_TRIGIN_CAP_OVF 0
      else d.onTrigin i (fun x => { x with queue := x.queue ++ [fc16] })

/-- TRIGIN_PULSE (R374, R633, R635): a pulse that has ended. -/
def State.triginPulse (i first width : Nat) (cap : Capture) (s : State) : State :=
  if s.die.on (R.PWR_TRIGIN_ENABLE i) then
    { s with die := (s.die.settlePulse i first width (s.cel.capFc (2 + i) false cap)).onTrigin i (fun x => { x with active := none }) }
  else s

/-- TRIGIN_PULSE. -/
def execTriginPulse (i first width : Nat) (cap : Capture) (s : State) : Host.Outcome State Fault Refusal :=
  guardU (decide (i < 8)) (s.triginPulse i first width cap)

/-- TRIGIN_STUCK (R633, R634): the pulse that has lasted STUCK × 2,000 samples is settled as a long one, an accepted one keeping its capture, and
the input is masked. -/
def Die.triginStuck (i fc16 : Nat) (d : Die) : Die :=
  if d.on (R.PWR_TRIGIN_ENABLE i) && !(d.trigMasked i) then
    let n := d.get (R.PWR_TRIGIN_STUCK i) * 2000
    let first := match (d.trigin i).active with | some f => f | none => d.nowCc - n
    (((d.settlePulse i first n fc16).setMasked i true).count (T.CHK_TRIGIN_STUCK i) 0).onTrigin i (fun x => { x with active := some first })
  else d

/-- TRIGIN_STUCK. -/
def execTriginStuck (x : StuckInput) (s : State) : Host.Outcome State Fault Refusal :=
  dieCmd (decide (x.input < 8)) (fun s => s.die.triginStuck x.input (s.cel.capFc (2 + x.input) false x.cap)) s

/-- A change of POL is a change of the input's level (R633): a pulse in progress ends and is settled, or a new one begins. DESIGN CHOICE (log 101):
the capture of a pulse that the write ends is a free value, since the write brings none. -/
def Die.flipLevel (i : Nat) (d : Die) : Die :=
  match (d.trigin i).active with
  | some f =>
    let y := d.draw
    (y.2.settlePulse i f (d.nowCc - f) y.1.toNat).onTrigin i (fun x => { x with active := none })
  | none => d.onTrigin i (fun x => { x with active := some d.nowCc })

/-- UNMASK (R634): applied only while the input is inactive. -/
def Die.unmask (i : Nat) (d : Die) : Die :=
  if (d.trigin i).active.isSome then d.flag R.CHK_TRIGIN_STATUS_UNMASK_REFUSED 0 true else d.setMasked i false

/-- A write of PWR_TRIGINi (R596, R633 to R635, R644). -/
def triginW (i w : Nat) (d : Die) : Die :=
  let was := d.on (R.PWR_TRIGIN_ENABLE i)
  let pol := d.get (R.PWR_TRIGIN_POL i)
  let d := d.setFields .PWR 0 (0x040 + 4 * i) w
  let now := d.on (R.PWR_TRIGIN_ENABLE i)
  let d := if !now then d.onTrigin i (fun x => { x with queue := [], active := if was then none else x.active })
    else if was && d.get (R.PWR_TRIGIN_POL i) != pol then d.flipLevel i else d
  if bit w 31 then d.unmask i else d

/-- TRIGIN_CONFIG_WRITE. -/
def execTriginConfigWrite (src : Source) (i : Nat) (w : Word) (s : State) : Host.Outcome State Fault Refusal :=
  dieCmd (decide (i < 8)) (writeDie src (blockAddr .PWR 0 (0x040 + 4 * i)) (triginW i w.toNat)) s

/-- UNMASK: `raw` is the level of the input at the write. -/
def unmaskW (i : Nat) (raw : Bool) (w : Nat) (d : Die) : Die :=
  triginW i w (d.onTrigin i (fun x => { x with active := if raw then (match x.active with | some f => some f | none => some d.nowCc) else none }))

/-- UNMASK. -/
def execUnmask (src : Source) (i : Nat) (w : Word) (raw : Bool) (s : State) : Host.Outcome State Fault Refusal :=
  dieCmd (decide (i < 8)) (writeDie src (blockAddr .PWR 0 (0x040 + 4 * i)) (unmaskW i raw w.toNat)) s

end Sys2Proof.Machine
end

