-- ==== Sys2Proof/Machine/Read.lean ====
section
/-! DEFINITION. Reads of BAR0: what a register, tally, pair or window reads as (R15, R18, R19, R480, R493, R594, R597, R599, R601,
R603, R621, R622), with the read commands. -/

namespace Sys2Proof.Machine

/-- A field as a write sees it, read back: WO reads zero (R15). -/
def State.fieldNow (s : State) (b : Block) (i : Nat) (x : WField) : Nat :=
  match x.fld.acc with
  | .wo => 0
  | _ => if b = .CEL then s.cel.get x.fld else s.die.get x.fld i

/-- The fields of a register whose value the device computes: lowest bit, width, value. -/
abbrev Parts := List (Nat × Nat × Nat)

/-- Computed parts of a register of the OWN page (R498, R503, R504, R506). -/
def State.ownParts (s : State) (src : Source) (off : Nat) : Parts :=
  let d := s.die
  if off = 0x800 then
    [(8, 2, srcNum src), (12, 3, d.otp.lifecycle), (15, 1, b2n d.auditedIn), (16, 2, d.debug)]
  else if off = 0x804 then
    (List.range 8).map (fun k => let y := d.otp.slot k
      (4 * k, 4, b2n y.programmed + 2 * b2n y.revoked + 4 * b2n y.image + 8 * b2n y.pack))
  else if off = 0x808 then
    (List.range 8).map (fun k => (k, 1, b2n (pastures.any (fun p =>
      match d.image p with | some im => d.admitted p && im.keySlot == k | none => false))))
  else if off = 0x80C then [(0, 32, d.nonce.toNat)]
  else if off = 0x810 then [(0, 32, d.nonce.toNat / 2 ^ 32)]
  else []

/-- Computed parts of a register of the CEL page (R397, R408). -/
def State.celParts (s : State) (off : Nat) : Parts :=
  let c := s.cel
  if off = 0x010 then [(8, 5, c.settings.mask)]
  else if off = 0x014 then [(0, 9, c.settings.slew0), (16, 16, c.settings.jump0)]
  else if off = 0x800 then [(0, 1, b2n c.sealed), (1, 5, c.breaks)]
  else if off = 0x808 then [(0, 32, s.fused.dieId)]
  else if off = 0x80C then [(0, 32, s.fused.dieId / 2 ^ 32)]
  else []

/-- Computed parts of a register of the CHK page (R537, R645). -/
def State.chkParts (s : State) (off : Nat) : Parts :=
  let d := s.die
  let k := s.kill
  if off = 0x80C then
    [(0, 1, b2n k.a), (1, 1, b2n k.b), (2, 1, b2n k.blocked), (3, 1, b2n (k.st == .fault)), (4, 1, b2n k.clearRefused),
     (5, 1, b2n k.first), (6, 1, b2n k.pending), (8, 22, k.nt)]
  else if off = 0x810 then
    (List.range 8).flatMap (fun j => [(8 + j, 1, b2n (d.trigin j).active.isSome), (16 + j, 1, b2n (!(d.trigin j).queue.isEmpty))])
  else if 0x900 ≤ off ∧ off < 0x980 then
    [(0, 32, leNat (slice (d.store.getD (d.get R.CHK_STORE_SEL_INDEX) []) (off - 0x900) 4))]
  else []

/-- Computed parts of an ENG page register (R152, R135). -/
def State.engParts (s : State) (e off : Nat) : Parts :=
  let left (r : Nat) : Nat := s.die.leftOut s.fused e r
  if off = 0x800 then [(24, 5, ((List.range 16).filter (fun r => decide (left r < 24))).length)]
  else if 0x810 ≤ off ∧ off < 0x820 then
    (List.range 4).flatMap (fun j =>
      let r := off - 0x810 + j
      [(8 * j, 5, left r), (8 * j + 7, 1, b2n (KMap.get false s.die.spareField (16 * e + r)))])
  else if off = 0x408 then (List.range 4).map (fun q => (q, 1, b2n (KMap.get false s.die.stopped (e * 4 + q))))
  else []

/-- A replay pasture's status (R359, R364). -/
def Die.replayParts (d : Die) (p : Nat) : Parts :=
  let active := d.on R.FAB_REPLAY_ENABLE p && d.admitted p
  let held := active && d.replayHeld p
  let fed := d.feeds.any (fun y => y.1 % 64 == p && !y.2.isEmpty)
  let inFlight := d.eng.any (fun y => y.1 % 64 == p && !y.2.flight.isEmpty)
  let updating := (List.range 8).any (fun e => d.updOwner e == some p && (d.updSt e).run.isSome)
  [(0, 1, b2n active), (1, 1, b2n held), (2, 1, b2n (held && !fed && !inFlight && !updating))]

/-- The scale in force of the selected tensor and group (R246, R273): exponent, zero point, RUNNING; none where the image has no such tensor or
group. -/
def Die.scaleNow (d : Die) (p : Nat) (im : Image) : Option (Nat × Nat × Nat) :=
  match tensorOf im (d.get R.FAB_SCALE_SEL_TENSOR p) with
  | none => none
  | some t =>
    let e := if im.shape = 1 then (enginesOf im).headD 0 else t.engine
    let g := d.engPas e p
    let k := d.get R.FAB_SCALE_SEL_GROUP p
    let v := (KMap.get none g.banks (t.id * 2 + g.step % 2)).getD (g.staticOf t)
    if k < v.1.length then some (low (heldExp v.1 k) 16, low v.2 8, b2n (g.runs t)) else none

/-- Computed parts of a register of any page; DEV_ALARM.VIOLATION reads 0 to a master that does not hold the crook (R547). -/
def State.parts (s : State) (src : Source) (b : Block) (i off : Nat) : Parts :=
  let d := s.die
  match b with
  | .OWN => s.ownParts src off
  | .CEL => s.celParts off
  | .CHK => s.chkParts off
  | .ENG => s.engParts i off
  | .DEV => if off = 0x818 then [(0, 32, s.fused.deviceId)] else if off = 0x81C then [(0, 32, s.fused.deviceId / 2 ^ 32)]
    else if off = 0x810 then (if d.holds (srcNum src) then [] else [(7, 1, 0)]) else []
  | .FLK => if off = 0x804 then [(0, 32, d.holdAge)] else []
  | .PWR => if off = 0x804 then [(16, 10, d.cap)] else []
  | .OTP => if off = 0x800 then
      [(0, 3, d.otp.gen), (3, 3, d.otp.slots.length), (6, 1, b2n (decide (5 ≤ d.otp.slots.length))), (7, 1, b2n d.otp.programming.isSome)]
    else []
  | .ING => if off = 0x800 then
      let held := (List.range 64).filterMap (fun n => KMap.get none d.steer (i * 64 + n))
      let progs := (pastures.map (fun p => match d.image p with | some im => (im.programs.filter (fun q => q.port == i)).length | none => 0)).sum
      [(0, 7, held.length), (8, 5, progs)]
    else []
  | .PAS => if 0x840 ≤ off ∧ off < 0x880 then [(0, 32, leNat (slice (d.grant i) (off - 0x840) 4))] else []
  | .TIL => if off = 0x800 then [(0, 5, d.physCol i), (8, 1, b2n (d.qstate (tileEng i) (tileQ i) == 0))] else []
  | .FAB => if off = 0x828 then d.replayParts i else []
  | _ => []

/-- A register read plainly: its stored fields with the computed ones over them. -/
def State.plainWord (s : State) (src : Source) (b : Block) (i off : Nat) : Nat :=
  let stored := (fieldsAt b off).foldl (fun a x => a + s.fieldNow b i x * 2 ^ x.fld.lo) 0
  (s.parts src b i off).foldl (fun a y => setBits a y.1 y.2.1 y.2.2) stored

/-- What a read captures (R597): the offset of an item's first word and the number of its words. -/
def captureAt (b : Block) (off : Nat) : Option (Nat × Nat) :=
  let runs : List (Nat × Nat × Nat) := match b with
    | .DEV => [(0x820, 2, 1)]
    | .OWN => [(0x80C, 2, 1)]
    | .LFT => [(0x808, 2, 1)]
    | .LNK => [(0x804, 2, 1)]
    | .FAB => [(0x808, 2, 1), (0x814, 2, 1), (0x82C, 2, 1)]
    | .UPD => [(0x804, 2, 1), (0x810, 2, 1), (0x410, 8, 1)]
    | .TIL => [(0x810, 2, 4)]
    | .CEL => [(0x810, 4, 1)]
    | .TB => [(0x810, 4, 1)]
    | .ETH => [(0x820, 4, 1)]
    | .CHK => [(0x820, 4, 8)]
    | .ENG => [(0x410, 8, 1), (0x440, 16, 1)]
    | .LRD => [(0x410, 2, 1)]
    | _ => []
  (runs.flatMap (fun r => (List.range r.2.2).map (fun k => (r.1 + 4 * r.2.1 * k, r.2.1)))).find?
    (fun r => decide (r.1 ≤ off) && decide (off < r.1 + 4 * r.2))

/-- Whether an offset lies in a D3 window (R622). -/
def windowAt (b : Block) (off : Nat) : Bool := decide (0x410 ≤ off) && decide (off < 0x800) && (b == .ENG || b == .LRD || b == .UPD)

/-- The four words of a time base's value (R407). -/
def stampWords (t : Stamp) : Nat := t.ns + t.frac * 2 ^ 32 + t.sec * 2 ^ 64

/-- A stored data-class word through a window (R511): the poison pattern reads zero, and a word found with an uncorrectable error is a
free value. -/
def State.windowWord (s : State) (kind loc : Nat) (tile : Option Nat) (stored : Nat) : Nat × State :=
  let poisoned := KMap.get false s.die.poison (eccKey kind loc)
  let r := s.die.eccRead s.fused kind loc tile none
  if r.1 then
    if poisoned then (0, { s with die := r.2 })
    else
      let f := r.2.draw
      (f.1.toNat, { s with die := f.2 })
  else (stored, { s with die := r.2 })

/-- n free 64-bit values side by side. -/
def Die.drawN : Nat → Die → Nat × Die
  | 0, d => (0, d)
  | n + 1, d =>
    let a := d.draw
    let r := Die.drawN n a.2
    (a.1.toNat + r.1 * 2 ^ 64, r.2)

/-- The value of the item at an offset, and what its read does (R227, R383, R407, R597, R622, R635). -/
def State.itemRead (s : State) (src : Source) (b : Block) (i first n : Nat) : Nat × State :=
  let d := s.die
  match b with
  | .DEV => (d.fc % 2 ^ 64, s)
  | .CEL => (stampWords (stampOf s.cel.tb0), s)
  | .TB => (stampWords (stampOf ((d.tb i).at d.fc)), s)
  | .TIL => ((KMap.get {} (d.tile i).digests ((first - 0x810) / 8)).d, s)
  | .ETH => match KMap.get [] d.txts i with
    | [] => (0, s)
    | x :: xs => (leNat x, { s with die := { d with txts := KMap.set [] d.txts i xs } })
  | .CHK =>
    let k := (first - 0x820) / 16
    match (d.trigin k).queue with
    | [] => (0, s)
    | x :: xs => (x % 2 ^ 64 + xs.length * 2 ^ 64, { s with die := d.onTrigin k (fun y => { y with queue := xs }) })
  | .ENG =>
    if first = 0x410 then
      let t := i * 512 + d.get R.ENG_WIN_SEL_TILE i
      let a := d.get R.ENG_WIN_SEL_BEAT i
      s.windowWord 1 (tsLoc t a) (some t) (d.beat t a)
    else let r := d.drawN 8; (r.1, { s with die := r.2 })
  | .LRD =>
    let k := d.get R.LRD_WIN_SEL_SEL i
    s.windowWord 5 k none (KMap.get 0 d.rows k).toNat
  | .UPD =>
    if first = 0x410 then let r := d.drawN 4; (r.1, { s with die := r.2 })
    else (s.plainWord src b i first + s.plainWord src b i (first + 4) * 2 ^ 32, s)
  | .FAB =>
    if first = 0x82C then ((d.pasture i).replayEmitted, s)
    else (s.plainWord src b i first + s.plainWord src b i (first + 4) * 2 ^ 32, s)
  | _ => ((List.range n).foldl (fun a k => a + s.plainWord src b i (first + 4 * k) * 2 ^ (32 * k)) 0, s)

/-- Word k of an item: word 0 captures all of them for this reader, the others give the reader's capture (R19, R597). -/
def State.itemWord (s : State) (src : Source) (b : Block) (i first n off : Nat) : Nat × State :=
  let key := srcNum src * 2 ^ 32 + blockAddr b i first
  if off = first then
    let r := s.itemRead src b i first n
    (r.1 % 2 ^ 32, { r.2 with die := { r.2.die with caps := KMap.set 0 r.2.die.caps key r.1 } })
  else (bits (KMap.get 0 s.die.caps key) (8 * (off - first)) 32, s)

/-- The lower offset of the tally an offset belongs to (R18). -/
def tallyAt (b : Block) (off : Nat) : Option Nat :=
  if b.tallyRuns.any (fun r => decide (r.1 ≤ off) && decide (off < r.1 + 8 * r.2)) then some (off / 8 * 8) else none

/-- A tally word (R18, R19): the lower captures, the upper gives the capture, with the saturation bit in bit 31. -/
def State.tallyWord (s : State) (src : Source) (b : Block) (i lo off : Nat) : Nat × State :=
  let addr := blockAddr b i lo
  let key := srcNum src * 2 ^ 32 + addr
  if off = lo then
    let v := KMap.get 0 s.die.tallies addr
    (v % 2 ^ 32, { s with die := { s.die with caps := KMap.set 0 s.die.caps key v } })
  else
    let v := KMap.get 0 s.die.caps key
    (bits v 32 16 + v / 2 ^ 48 * 2 ^ 31, s)

/-- VIOLATION tallies read zero to a master that does not hold the crook (R479). -/
def hiddenTally (d : Die) (src : Source) (b : Block) (off : Nat) : Bool :=
  b == .OWN && decide (0xC00 ≤ off) && decide (off < 0xE00) && !(d.holds (srcNum src))

/-- PAGE_CAPS of a block (R599). -/
def Block.caps (b : Block) : Nat :=
  let n := (b.tallyRuns.map (fun r => r.2)).sum
  let vf := b == .PAS || b == .LRD || b == .FAB || b == .EGR || b == .UPD
  b2n b.expert + 2 * b2n vf + 4 * b2n (decide (0 < n)) + 8 * b2n (b == .ENG || b == .LRD || b == .UPD) + 256 * n

/-- PAGE_OWNER (R601). -/
def Die.pageOwner (d : Die) (b : Block) (i : Nat) : Nat :=
  let exists_ (p : Nat) : Nat := b2n (decide (p < d.get R.PCI_STATUS_NUMVFS))
  match b with
  | .PAS => i + 64 * exists_ i
  | .LRD => i + 64 * exists_ i
  | .FAB => i + 64 * exists_ i
  | .EGR => i + 64 * exists_ i
  | .UPD => match d.updOwner i with | some p => p + 64 * exists_ p | none => 0
  | _ => 0

/-- FAB_SCALE_NOW (R273): a free value where the admitted image has no such tensor or group. -/
def State.scaleWord (s : State) (p : Nat) : Nat × State :=
  let res := s.die.get R.FAB_SCALE_NOW_APPLY_RESULT p * 2 ^ 25
  match s.die.image p with
  | none => (res, s)
  | some im =>
    match s.die.scaleNow p im with
    | some v => (v.1 + v.2.1 * 2 ^ 16 + v.2.2 * 2 ^ 24 + res, s)
    | none => let f := s.die.draw; (f.1.toNat % 2 ^ 25 + res, { s with die := f.2 })

/-- A word of a mapped page. -/
def State.pageWord (s : State) (src : Source) (b : Block) (i off : Nat) : Nat × State :=
  if off = 0x000 then (s.fused.ident, s)
  else if off = 0x004 then (b.code + 2 ^ 8 + i * 2 ^ 16, s)
  else if off = 0x008 then (b.caps, s)
  else if off = 0xF00 then
    (s.die.get (pageLock (blockAddr b i 0)) + 2 * s.die.get (pageExpert (blockAddr b i 0)), s)
  else if off = 0xF08 then (s.die.pageOwner b i, s)
  else if windowAt b off && s.die.debug != 3 then (0, s)
  else match tallyAt b off with
    | some lo => if hiddenTally s.die src b off then (0, s) else s.tallyWord src b i lo off
    | none =>
      if b = .FAB ∧ off = 0x824 then s.scaleWord i
      else match captureAt b off with
        | some r => s.itemWord src b i r.1 r.2 off
        | none => (s.plainWord src b i off, s)

/-- The word a source reads at a BAR0 offset, and the machine after the read (R479, R488, R493, R496, R505, R581, R594). A source
without a path reads nothing. -/
def State.busRead (src : Source) (addr : Nat) (s : State) : Nat × State :=
  let a := addr / 4 * 4
  if s.die.pathUp src = false then (0, s)
  else match pageOf s.fused a, src with
    | none, .vf p => (0, onDie (Die.count (T.OWN_VIOLATION p) 0) s)
    | none, _ => (0, s)
    | some (b, i, off), src =>
      if s.die.answers src b = false then (0, s)
      else match src with
        | .vf p =>
          match s.die.vfPage p b i with
          | 0 => s.pageWord (.vf p) b i off
          | 1 => (0, s)
          | _ => (0, onDie (Die.count (T.OWN_VIOLATION p) 0) s)
        | m => s.pageWord m b i off

/-- A read command: the word read is given back. -/
def State.readAt (src : Source) (addr : Nat) (s : State) : State :=
  if s.die.pathUp src then
    let r := s.busRead src addr
    { r.2 with die := { r.2.die with readData := BitVec.ofNat 32 r.1 } }
  else s

/-- TALLY_READ. -/
def execTallyRead (src : Source) (addr : Nat) (s : State) : Host.Outcome State Fault Refusal := .next (s.readAt src addr)

/-- PAIR_READ. -/
def execPairRead (src : Source) (addr : Nat) (s : State) : Host.Outcome State Fault Refusal := .next (s.readAt src addr)

/-- WINDOW_READ. -/
def execWindowRead (src : Source) (addr : Nat) (s : State) : Host.Outcome State Fault Refusal := .next (s.readAt src addr)

/-- TB_NOW_READ: TB0 on the Cellar's page, TB1 to TB7 on their own (R373, R407, R408). -/
def execTbNowRead (src : Source) (n : Nat) (s : State) : Host.Outcome State Fault Refusal :=
  guardU (decide (n ≤ 7)) (s.readAt src (0x10810 + n * 0x1000))

/-- TXTS_READ (R383). -/
def execTxtsRead (src : Source) (t : Nat) (s : State) : Host.Outcome State Fault Refusal :=
  guardU (decide (t < 16)) (s.readAt src (blockAddr .ETH t 0x820))

/-- TRIGIN_CAP_READ (R635). -/
def execTriginCapRead (src : Source) (i : Nat) (s : State) : Host.Outcome State Fault Refusal :=
  guardU (decide (i < 8)) (s.readAt src (blockAddr .CHK 0 (0x820 + 16 * i)))

end Sys2Proof.Machine
end

