-- ==== Sys2Proof/Machine/Bus.lean ====
section
/-! DEFINITION. Writes of BAR0 as a whole: the rings (R608 to R616), page control (R601, R602), tally clears (R543), and what a write of each register
does (R596), with the commands that carry plain accesses: PCIe words (R593), SMBus (R481), management messages (R482) and JTAG (R483). -/

namespace Sys2Proof.Machine

/-- A ring's registers (R609): offsets of its base, control word and software count, its size field, its ENABLE where it has one, its two counts, and
whether software produces. -/
structure RingRegs where
  base : Nat
  ctl : Nat
  soft : Nat
  lg : Fld
  en : Option Fld
  prod : Fld
  cons : Fld
  producer : Bool

/-- The rings of a block's page (R609), the audit ring apart. -/
def ringsOf : Block → List RingRegs
  | .CHK => [⟨0x010, 0x018, 0x01C, R.CHK_FAULT_CTL_LOG2SIZE, some R.CHK_FAULT_CTL_ENABLE, R.CHK_FAULT_HEAD_VALUE, R.CHK_FAULT_TAIL_VALUE, false⟩]
  | .LFT => [⟨0x020, 0x028, 0x02C, R.LFT_RING_CTL_LOG2SIZE, some R.LFT_CONTROL_PCIE, R.LFT_RING_HEAD_VALUE, R.LFT_RING_TAIL_VALUE, false⟩,
      ⟨0x030, 0x038, 0x03C, R.LFT_A_CTL_LOG2SIZE, none, R.LFT_A_HEAD_VALUE, R.LFT_A_TAIL_VALUE, false⟩]
  | .PAS => [⟨0x024, 0x02C, 0x030, R.PAS_TRACE_CTL_LOG2SIZE, some R.PAS_TRACE_CTL_ENABLE, R.PAS_TRACE_HEAD_VALUE, R.PAS_TRACE_TAIL_VALUE, false⟩,
      ⟨0x040, 0x048, 0x04C, R.PAS_MSG_CTL_LOG2SIZE, some R.PAS_MSG_CTL_ENABLE, R.PAS_MSG_HEAD_VALUE, R.PAS_MSG_TAIL_VALUE, false⟩,
      ⟨0x050, 0x058, 0x05C, R.PAS_INJ_CTL_LOG2SIZE, some R.PAS_INJ_CTL_ENABLE, R.PAS_INJ_HEAD_VALUE, R.PAS_INJ_TAIL_VALUE, true⟩]
  | .LRD => [⟨0x020, 0x028, 0x02C, R.LRD_RING_CTL_LOG2SIZE, some R.LRD_RING_CTL_ENABLE, R.LRD_RING_HEAD_VALUE, R.LRD_RING_TAIL_VALUE, true⟩]
  | .ETH => [⟨0x040, 0x048, 0x04C, R.ETH_PTPRX_CTL_LOG2SIZE, some R.ETH_PTPRX_CTL_ENABLE, R.ETH_PTPRX_HEAD_VALUE, R.ETH_PTPRX_TAIL_VALUE, false⟩,
      ⟨0x050, 0x058, 0x05C, R.ETH_PTPTX_CTL_LOG2SIZE, some R.ETH_PTPTX_CTL_ENABLE, R.ETH_PTPTX_HEAD_VALUE, R.ETH_PTPTX_TAIL_VALUE, true⟩]
  | .FLK => [⟨0x030, 0x038, 0x03C, R.FLK_MSG_CTL_LOG2SIZE, some R.FLK_MSG_CTL_ENABLE, R.FLK_MSG_HEAD_VALUE, R.FLK_MSG_TAIL_VALUE, true⟩]
  | _ => []

/-- The ring a register belongs to. -/
def ringAt (b : Block) (off : Nat) : Option RingRegs :=
  (ringsOf b).find? (fun r => off == r.base || off == r.base + 4 || off == r.ctl || off == r.soft)

/-- A ring whose base and size a write leaves as they are (R608): one that is enabled, or, without ENABLE, one whose counts differ. -/
def RingRegs.busy (r : RingRegs) (i : Nat) (d : Die) : Bool :=
  match r.en with
  | some f => d.on f i
  | none => d.get r.prod i != d.get r.cons i

/-- What else a ring's ENABLE does as it rises (R611, R612, R614). -/
def ringRise (b : Block) (ctl i : Nat) (d : Die) : Die :=
  match b with
  | .PAS => if ctl = 0x048 then d.flag R.PAS_RING_STATUS_DEC_ARMED i true
    else if ctl = 0x058 then d.flag R.PAS_RING_STATUS_INJ_HALTED i false else d
  | .LRD => d.flag R.LRD_STATUS_RB_HALTED i false
  | _ => d

/-- A write of a ring's register (R608, R610). -/
def ringW (b : Block) (i off : Nat) (r : RingRegs) (w : Nat) (d : Die) : Die :=
  let busy := r.busy i d
  if off = r.soft then d.softCount r.prod r.cons (d.get r.lg i) i r.producer w
  else if off = r.ctl then
    let lk := d.on (pageLock (blockAddr b i 0))
    let d2 := (fieldsAt b off).foldl (fun d x => if busy && x.fld == r.lg then d else x.write i lk w d) d
    if !busy && r.busy i d2 then ringRise b r.ctl i ((d2.put r.prod i 0).put r.cons i 0) else d2
  else if busy then d
  else d.setFields b i off w

/-- A write of a ring's control word, base or count through its page. -/
def ringWrite (b : Block) (i off : Nat) (w : Nat) (d : Die) : Die :=
  match ringAt b off with
  | some r => if b = .PAS ∧ off = 0x04C then msgTailW i w d else ringW b i off r w d
  | none => d

/-- A field of the Cellar's page after a write. -/
def WField.writeCel (x : WField) (w : Nat) (c : Cellar) : Cellar :=
  let v := bits w x.fld.lo x.fld.width
  match x.fld.acc with
  | .rw => if x.ok v then c.put x.fld v else c
  | .w1c => c.put x.fld (Nat.land (c.get x.fld) (2 ^ x.fld.width - 1 - v))
  | _ => c

/-- A write of a register of the Cellar's page that only holds its value. -/
def Cellar.setFields (off w : Nat) (c : Cellar) : Cellar := (fieldsAt .CEL off).foldl (fun c x => x.writeCel w c) c

/-- A write of the audit ring's registers (R406, R408, R608): base and size only while its counts are equal; a tail that leaves the fill in range frees
slots. -/
def celAuditW (off w : Nat) (s : State) : State :=
  let c := s.cel
  let head := c.get R.CEL_AUDIT_HEAD_VALUE
  let busy := head != c.get R.CEL_AUDIT_TAIL_VALUE
  if off = 0x03C then
    if (head + 2 ^ 32 - w) % 2 ^ 32 ≤ 2 ^ c.get R.CEL_AUDIT_CTL_LOG2SIZE then
      State.drainAudit { s with cel := c.put R.CEL_AUDIT_TAIL_VALUE w }
    else s
  else if off = 0x038 then
    { s with cel := (fieldsAt .CEL off).foldl (fun c x => if busy && x.fld == R.CEL_AUDIT_CTL_LOG2SIZE then c else x.writeCel w c) c }
  else if busy then s
  else { s with cel := c.setFields off w }

/-- A write of the Cellar's page (R382, R408). -/
def celPageW (off w : Nat) (s : State) : State :=
  if off = 0x010 then celDiscW w s
  else if off = 0x014 then celLimitsW w s
  else if off = 0x018 then celStepLoW w s
  else if off = 0x01C then celStepHiW w s
  else if off = 0x020 then celControlW w s
  else if 0x030 ≤ off ∧ off < 0x040 then celAuditW off w s
  else if off = 0x05C then (celSubmitW 7 w s).submitPtp
  else if 0x040 ≤ off ∧ off < 0x05C then celSubmitW ((off - 0x040) / 4) w s
  else { s with cel := s.cel.setFields off w }

/-- A write of the PWR page (R590, R644). -/
def pwrPageW (off w : Nat) (s : State) : State :=
  if off = 0x010 then onDie (pwrProfileW s.fused w) s
  else if off = 0x018 then onDie (pwrStateW s.cel w) s
  else if off = 0x01C then pwrResetW w s
  else if off = 0x020 then pwrKillW w s
  else if 0x040 ≤ off ∧ off < 0x060 then onDie (triginW ((off - 0x040) / 4) w) s
  else onDie (Die.setFields .PWR 0 off w) s

/-- A write of the OWN page (R506); a key or message in host memory is read without failure. -/
def ownPageW (src : Source) (off w : Nat) (s : State) : State :=
  if off = 0x010 then onDie (ownClaimW src w) s
  else if off = 0x014 then onDie (ownHeartbeatW w) s
  else if off = 0x018 then onDie (ownHandoverW w) s
  else if off = 0x01C then onDie (ownDebugW w) s
  else if off = 0x020 then ownLifecycleW false w s
  else if off = 0x02C then onDie (ownKeyCtlW false w) s
  else if off = 0x030 then onDie (ownGrantSelW s.fused w) s
  else onDie (Die.setFields .OWN 0 off w) s

/-- A write of ENG_WIN_SEL (R622): a column of no tile leaves the register as it is. -/
def engWinSelW (e w : Nat) (d : Die) : Die := if 23 < bits w 0 5 then d else d.setFields .ENG e 0x400 w

/-- A write of ENG_CLKSTOP (R623): at effective D3 only; a bit is set only for a quarter that is empty or quiesced. -/
def engClkstopW (e w : Nat) (d : Die) : Die :=
  if d.debug = 3 then
    (List.range 4).foldl (fun d q =>
      let now := KMap.get false d.stopped (e * 4 + q)
      let idle := d.qstate e q == 0 || d.qstate e q == 3
      { d with stopped := KMap.set false d.stopped (e * 4 + q) (bit w q && (now || idle)) }) d
  else d

/-- A write of the ENG page (R152, R622, R623). -/
def engPageW (fu : Fused) (e off w : Nat) (d : Die) : Die :=
  if off = 0x010 then engControlW e w d
  else if off = 0x014 then engRetireW fu e w d
  else if off = 0x400 then engWinSelW e w d
  else if off = 0x408 then engClkstopW e w d
  else d.setFields .ENG e off w

/-- A write of the FAB page (R153, R273, R364). -/
def fabPageW (p off w : Nat) (d : Die) : Die :=
  if off = 0x010 then fabBalanceW p w d
  else if off = 0x020 then fabCalW p w d
  else if off = 0x030 then fabReplayW p w d
  else if off = 0x404 then fabScaleValW p w d
  else d.setFields .FAB p off w

/-- A write of the PAS page (R306, R539, R613). -/
def pasPageW (p off w : Nat) (d : Die) : Die :=
  if off = 0x01C then pasAdmitW p w d
  else if off = 0x020 then pasQuarantineW p w d
  else if (ringAt .PAS off).isSome then ringWrite .PAS p off w d
  else d.setFields .PAS p off w

/-- A write of the LRD page (R100, R614). -/
def lrdPageW (fu : Fused) (p off w : Nat) (d : Die) : Die :=
  if off = 0x010 then lrdRebuildW fu p w d
  else if off = 0x014 then lrdSwapW p w d
  else if (ringAt .LRD off).isSome then ringWrite .LRD p off w d
  else d.setFields .LRD p off w

/-- A write of the SHD page (R540); a pack in host memory is read without failure. -/
def shdPageW (fu : Fused) (e off w : Nat) (d : Die) : Die :=
  if off = 0x010 then shdControlW fu e w d
  else if off = 0x020 then shdPackW fu e false w d
  else if off = 0x024 then shdPackWinW e w d
  else d.setFields .SHD e off w

/-- A write of a TB page (R407). -/
def tbPageW (n off w : Nat) (d : Die) : Die :=
  if off = 0x010 then tbControlW n w d
  else if off = 0x014 then tbAdjW n w d
  else if off = 0x018 then tbStepLoW n w d
  else if off = 0x01C then tbStepHiW n w d
  else d.setFields .TB n off w

/-- A write of the LFT page (R567). -/
def lftPageW (off w : Nat) (d : Die) : Die :=
  if off = 0x010 then lftControlW w d
  else if off = 0x014 then lftFfW w d
  else if (ringAt .LFT off).isSome then ringWrite .LFT 0 off w d
  else d.setFields .LFT 0 off w

/-- A write of the CHK page (R538, R645). -/
def chkPageW (off w : Nat) (s : State) : State :=
  if off = 0x80C then (if bit w 4 then { s with kill := { s.kill with clearRefused := false } } else s)
  else if (ringAt .CHK off).isSome then onDie (ringWrite .CHK 0 off w) s
  else onDie (Die.setFields .CHK 0 off w) s

/-- A write of the FLK page (R476, R616). -/
def flkPageW (off w : Nat) (s : State) : State :=
  if off = 0x010 then onDie (flkRoleW w) s
  else if off = 0x018 then flkControlW w s
  else if (ringAt .FLK off).isSome then onDie (ringWrite .FLK 0 off w) s
  else onDie (Die.setFields .FLK 0 off w) s

/-- A write of the DEV page (R617). -/
def devPageW (fu : Fused) (off w : Nat) (d : Die) : Die :=
  if off = 0x010 then devTimingW fu w d
  else if off = 0x804 then devShedW w d
  else d.setFields .DEV 0 off w

/-- A write of an ETH page (R450, R615). -/
def ethPageW (t off w : Nat) (d : Die) : Die :=
  if off = 0x010 then ethControlW t w d
  else if (ringAt .ETH off).isSome then ringWrite .ETH t off w d
  else d.setFields .ETH t off w

/-- PAGE_EXPERT (R596, R602): UNLOCK needs the page's own number and an expert area. -/
def pageExpertW (b : Block) (i w : Nat) (d : Die) : Die :=
  let base := blockAddr b i 0
  match lowestWo w [0, 1] with
  | some 0 => if b.expert && bits w 16 16 == base / 0x1000 % 2 ^ 16 then d.put (pageExpert base) 0 1 else d
  | some _ => d.put (pageExpert base) 0 0
  | none => d

/-- A tally's clear (R543): the upper word with bit 31 set, by the owner. -/
def tallyW (src : Source) (b : Block) (i lo off w : Nat) (d : Die) : Die :=
  match src with
  | .vf _ => d
  | _ => if off = lo + 4 ∧ bit w 31 = true then { d with tallies := KMap.set 0 d.tallies (blockAddr b i lo) 0 } else d

/-- What an admitted write does at its register. -/
def pageW (src : Source) (b : Block) (i off w : Nat) (s : State) : State :=
  match tallyAt b off with
  | some lo => onDie (tallyW src b i lo off w) s
  | none =>
    if off = 0xF00 then onDie (Die.put (pageLock (blockAddr b i 0)) 0 (b2n (bit w 0))) s
    else if off = 0xF04 then onDie (pageExpertW b i w) s
    else match b with
      | .DEV => onDie (devPageW s.fused off w) s
      | .OWN => ownPageW src off w s
      | .CEL => celPageW off w s
      | .TB => onDie (tbPageW i off w) s
      | .FLK => flkPageW off w s
      | .CHK => chkPageW off w s
      | .LFT => onDie (lftPageW off w) s
      | .PWR => pwrPageW off w s
      | .OTP => if off = 0x010 then onDie (otpControlW w) s else onDie (Die.setFields .OTP 0 off w) s
      | .ETH => onDie (ethPageW i off w) s
      | .LNK => if off = 0x010 then onDie (lnkControlW i w) s else if off = 0x400 then onDie (lnkEqW i w) s else onDie (Die.setFields .LNK i off w) s
      | .ENG => onDie (engPageW s.fused i off w) s
      | .UPD => if off = 0x010 then onDie (updControlW src i w) s else onDie (Die.setFields .UPD i off w) s
      | .SHD => onDie (shdPageW s.fused i off w) s
      | .PAS => onDie (pasPageW i off w) s
      | .LRD => onDie (lrdPageW s.fused i off w) s
      | .FAB => onDie (fabPageW i off w) s
      | b => onDie (Die.setFields b i off w) s

/-- A whole-word write by a source at a BAR0 offset (R479, R593 to R596); OWN_CLAIM answers every master. -/
def State.busWrite (src : Source) (addr w : Nat) (s : State) : State :=
  let a := addr / 4 * 4
  if a = blockAddr .OWN 0 0x010 then onDie (ownClaimW src w) s
  else match pageOf s.fused a with
    | some (b, i, off) => writeAt src a (pageW src b i off w) s
    | none => writeAt src a (fun s => s) s

/-- REGISTER_WRITE. -/
def execRegisterWrite (src : Source) (addr : Nat) (w : Word) (s : State) : Host.Outcome State Fault Refusal :=
  .next (s.busWrite src addr w.toNat)

/-- TALLY_CLEAR. -/
def execTallyClear (src : Source) (addr : Nat) (w : Word) (s : State) : Host.Outcome State Fault Refusal :=
  .next (s.busWrite src addr w.toNat)

/-- UNLOCK. -/
def execUnlock (src : Source) (addr : Nat) (w : Word) (s : State) : Host.Outcome State Fault Refusal :=
  .next (s.busWrite src addr w.toNat)

/-- RELOCK. -/
def execRelock (src : Source) (addr : Nat) (w : Word) (s : State) : Host.Outcome State Fault Refusal :=
  .next (s.busWrite src addr w.toNat)

/-- RING_ENABLE. -/
def execRingEnable (src : Source) (addr : Nat) (w : Word) (s : State) : Host.Outcome State Fault Refusal :=
  .next (s.busWrite src addr w.toNat)

/-- ENG_CLKSTOP. -/
def execEngClkstop (src : Source) (e : Nat) (w : Word) (s : State) : Host.Outcome State Fault Refusal :=
  dieCmd (decide (e < 8)) (writeDie src (blockAddr .ENG e 0x408) (engClkstopW e w.toNat)) s

/-- A PCIe write word that lacks a byte enable (R593): only PCI_PARTIAL. -/
def State.partialWrite (src : Source) (addr be w : Nat) (s : State) : State :=
  let pcie : Bool := match src with
    | .m0 => true
    | .vf _ => true
    | _ => false
  if pcie && be % 16 != 15 then
    if s.die.pathUp src then onDie (Die.count T.PCI_PARTIAL 0) s else s
  else s.busWrite src addr w

/-- PARTIAL_WRITE. -/
def execPartialWrite (src : Source) (addr be : Nat) (w : Word) (s : State) : Host.Outcome State Fault Refusal :=
  .next (s.partialWrite src addr be w.toNat)

/-- Discard an SMBus transaction (R481). -/
def smbErr (s : State) : State := onDie (Die.count T.OWN_SMB_ERR 0) s

/-- ADDRESS (R481). -/
def State.smbAddress (bytes : List Byte) (pecOk : Bool) (s : State) : State :=
  if !s.die.up then s
  else if !pecOk || bytes.length != 4 || leNat bytes % 4 != 0 then smbErr s
  else onDie (fun d => { d with smbPtr := leNat bytes }) s

/-- SMB_ADDRESS. -/
def execSmbAddress (bytes : List Byte) (pecOk : Bool) (s : State) : Host.Outcome State Fault Refusal := .next (s.smbAddress bytes pecOk)

/-- Move the SMBus pointer on. -/
def Die.smbNext (d : Die) : Die := { d with smbPtr := (d.smbPtr + 4) % 2 ^ 32 }

/-- Write words at the pointer, advancing it (R481). -/
def State.smbWords : List Nat → State → State
  | [], s => s
  | w :: ws, s => State.smbWords ws (onDie Die.smbNext (s.busWrite .m1 s.die.smbPtr w))

/-- The words of a byte string. -/
def wordsOf (bs : List Byte) : List Nat := (List.range (bs.length / 4)).map (fun k => leNat (slice bs (4 * k) 4))

/-- WRITE (R481). -/
def State.smbWrite (bytes : List Byte) (pecOk : Bool) (s : State) : State :=
  let n := bytes.length
  if !s.die.up then s
  else if !pecOk || n < 4 || 32 < n || n % 4 != 0 then smbErr s
  else State.smbWords (wordsOf bytes) s

/-- SMB_WRITE. -/
def execSmbWrite (bytes : List Byte) (pecOk : Bool) (s : State) : Host.Outcome State Fault Refusal := .next (s.smbWrite bytes pecOk)

/-- READ (R480, R481). -/
def State.smbRead (bytes : List Byte) (pecOk : Bool) (s : State) : State :=
  if !s.die.up then s
  else if !pecOk || !bytes.isEmpty then smbErr s
  else
    let r := s.busRead .m1 s.die.smbPtr
    onDie (fun d => d.smbNext.emit (.smbus (leBytes 4 r.1))) r.2

/-- SMB_READ. -/
def execSmbRead (bytes : List Byte) (pecOk : Bool) (s : State) : Host.Outcome State Fault Refusal := .next (s.smbRead bytes pecOk)

/-- SMB_UNKNOWN_COMMAND (R481): a command code other than 0x10 to 0x12. -/
def execSmbUnknownCommand (cmd : Nat) (s : State) : Host.Outcome State Fault Refusal :=
  .next (if s.die.up && !(decide (0x10 ≤ cmd) && decide (cmd ≤ 0x12)) then smbErr s else s)

/-- REGACC (R483): bits [1:0] the operation, [25:2] the word offset, [57:26] the data; below D3 it is BYPASS. -/
def State.regacc (dr : Nat) (s : State) : State :=
  let addr := bits dr 2 24 * 4
  if s.die.pathUp .m3 then
    if bits dr 0 2 = 1 then
      let r := s.busRead .m3 addr
      onDie (fun d => { d with jtagLast := BitVec.ofNat 32 r.1 }) r.2
    else if bits dr 0 2 = 2 then s.busWrite .m3 addr (bits dr 26 32)
    else s
  else s

/-- REGACC. -/
def execRegacc (dr : BitVec 58) (s : State) : Host.Outcome State Fault Refusal := .next (s.regacc dr.toNat)

/-- Read n words from an offset, in order. -/
def State.readWords (addr : Nat) : Nat → State → List Byte × State
  | 0, s => ([], s)
  | n + 1, s =>
    let r := s.busRead .m2 addr
    let q := State.readWords (addr + 4) n r.2
    (leBytes 4 r.1 ++ q.1, q.2)

/-- Write words from an offset, in order. -/
def State.writeWords (addr : Nat) : List Nat → State → State
  | [], s => s
  | w :: ws, s => State.writeWords (addr + 4) ws (s.busWrite .m2 addr w)

/-- MREQ (R482): executed for M2 and answered with an MRSP; RESULT 1 for a denied access as well. -/
def State.mreq (m : List Byte) (s : State) : State :=
  let b := m.drop 8
  let op := (byteAt b 0).toNat
  let n := (byteAt b 1).toNat
  let off := leNat (slice b 4 4)
  let answer (res : Nat) (data : List Byte) (s : State) : State :=
    onDie (Die.sendUp 15 0 (leBytes 1 res ++ slice b 1 7 ++ data)) s
  if (op ≠ 1 ∧ op ≠ 2) ∨ n = 0 ∨ 16 < n ∨ off % 4 ≠ 0 ∨ b.length < 8 ∨ (op = 2 ∧ b.length < 8 + 4 * n) then answer 2 [] s
  else if op = 1 then
    let r := State.readWords off n s
    answer 1 r.1 r.2
  else answer 1 [] (State.writeWords off (wordsOf (slice b 8 (4 * n))) s)

/-- MREQ. -/
def execMreq (l : Nat) (s : State) : Host.Outcome State Fault Refusal := msgCmd true 1 14 l State.mreq s

end Sys2Proof.Machine
end

