-- ==== Sys2Proof/Machine/Dispatch.lean ====
section
/-! DEFINITION. The effect of each command: one arm per constructor of Instr. -/

namespace Sys2Proof.Machine

/-- The effect of a command on everything but the queue. -/
def exec (i : Instr) (s : State) : Host.Outcome State Fault Refusal :=
  match i with
  | .tallyRead src addr => Sys2Proof.Machine.execTallyRead src addr s
  | .tallyClear src addr w => Sys2Proof.Machine.execTallyClear src addr w s
  | .pairRead src addr => Sys2Proof.Machine.execPairRead src addr s
  | .registerWrite src addr w => Sys2Proof.Machine.execRegisterWrite src addr w s
  | .partialWrite src addr be w => Sys2Proof.Machine.execPartialWrite src addr be w s
  | .timingApply src w => Sys2Proof.Machine.execTimingApply src w s
  | .timingChangeDone => Sys2Proof.Machine.execTimingChangeDone s
  | .ref250Lost => Sys2Proof.Machine.execRef250Lost s
  | .ref250WaitEnd => Sys2Proof.Machine.execRef250WaitEnd s
  | .ref250Return => Sys2Proof.Machine.execRef250Return s
  | .pllPullInDone => Sys2Proof.Machine.execPllPullInDone s
  | .ethFrameRx t bytes faults cap => Sys2Proof.Machine.execEthFrameRx t bytes faults cap s
  | .fcsResult t ok => Sys2Proof.Machine.execFcsResult t ok s
  | .sFrame l f => Sys2Proof.Machine.execSFrame l f s
  | .rawFrame l bytes cap => Sys2Proof.Machine.execRawFrame l bytes cap s
  | .rawPeriod l bits => Sys2Proof.Machine.execRawPeriod l bits s
  | .injectEntry => Sys2Proof.Machine.execInjectEntry s
  | .parserWordArrival g n stile3 => Sys2Proof.Machine.execParserWordArrival g n stile3 s
  | .pNop g => Sys2Proof.Machine.execPNop g s
  | .pExt g => Sys2Proof.Machine.execPExt g s
  | .pKeyc g => Sys2Proof.Machine.execPKeyc g s
  | .pKeyh g => Sys2Proof.Machine.execPKeyh g s
  | .pEvid g => Sys2Proof.Machine.execPEvid g s
  | .pMatch g => Sys2Proof.Machine.execPMatch g s
  | .pBrc g => Sys2Proof.Machine.execPBrc g s
  | .pBrn g => Sys2Proof.Machine.execPBrn g s
  | .pCur g => Sys2Proof.Machine.execPCur g s
  | .pCuri g => Sys2Proof.Machine.execPCuri g s
  | .pTbsel g => Sys2Proof.Machine.execPTbsel g s
  | .pEmitr g => Sys2Proof.Machine.execPEmitr g s
  | .pAccept g => Sys2Proof.Machine.execPAccept g s
  | .pDrop g => Sys2Proof.Machine.execPDrop g s
  | .recordAssembled x => Sys2Proof.Machine.execRecordAssembled x s
  | .larderLookup g p => Sys2Proof.Machine.execLarderLookup g p s
  | .featureAssembly p waits => Sys2Proof.Machine.execFeatureAssembly p waits s
  | .entryAdmit e p waited stile3 => Sys2Proof.Machine.execEntryAdmit e p waited stile3 s
  | .entryWaitLimit e p => Sys2Proof.Machine.execEntryWaitLimit e p s
  | .oqBeatSend tile ctx oq => Sys2Proof.Machine.execOqBeatSend tile ctx oq s
  | .tNop tile ctx op => Sys2Proof.Machine.execTNop tile ctx op s
  | .tDot tile ctx op => Sys2Proof.Machine.execTDot tile ctx op s
  | .tDota tile ctx op => Sys2Proof.Machine.execTDota tile ctx op s
  | .tDwc tile ctx op => Sys2Proof.Machine.execTDwc tile ctx op s
  | .tExpand tile ctx op => Sys2Proof.Machine.execTExpand tile ctx op s
  | .tScaleg tile ctx op => Sys2Proof.Machine.execTScaleg tile ctx op s
  | .tAccf tile ctx op => Sys2Proof.Machine.execTAccf tile ctx op s
  | .tRq tile ctx op => Sys2Proof.Machine.execTRq tile ctx op s
  | .tAct tile ctx op => Sys2Proof.Machine.execTAct tile ctx op s
  | .tRelu tile ctx op => Sys2Proof.Machine.execTRelu tile ctx op s
  | .tClamp tile ctx op => Sys2Proof.Machine.execTClamp tile ctx op s
  | .tAddv tile ctx op => Sys2Proof.Machine.execTAddv tile ctx op s
  | .tMulv tile ctx op => Sys2Proof.Machine.execTMulv tile ctx op s
  | .tMaxv tile ctx op => Sys2Proof.Machine.execTMaxv tile ctx op s
  | .tMinv tile ctx op => Sys2Proof.Machine.execTMinv tile ctx op s
  | .tCmpv tile ctx op => Sys2Proof.Machine.execTCmpv tile ctx op s
  | .tSelv tile ctx op => Sys2Proof.Machine.execTSelv tile ctx op s
  | .tNormAffine tile ctx op => Sys2Proof.Machine.execTNormAffine tile ctx op s
  | .tNormLayer tile ctx op => Sys2Proof.Machine.execTNormLayer tile ctx op s
  | .tArgmax tile ctx op => Sys2Proof.Machine.execTArgmax tile ctx op s
  | .tTree tile ctx op => Sys2Proof.Machine.execTTree tile ctx op s
  | .tLeaf tile ctx op => Sys2Proof.Machine.execTLeaf tile ctx op s
  | .tMovq tile ctx op => Sys2Proof.Machine.execTMovq tile ctx op s
  | .tBcast tile ctx op => Sys2Proof.Machine.execTBcast tile ctx op s
  | .tGather tile ctx op => Sys2Proof.Machine.execTGather tile ctx op s
  | .tScatter tile ctx op => Sys2Proof.Machine.execTScatter tile ctx op s
  | .tShiftw tile ctx op => Sys2Proof.Machine.execTShiftw tile ctx op s
  | .tPack tile ctx op => Sys2Proof.Machine.execTPack tile ctx op s
  | .tUnpack tile ctx op => Sys2Proof.Machine.execTUnpack tile ctx op s
  | .tRing tile ctx op => Sys2Proof.Machine.execTRing tile ctx op s
  | .tRingLate tile ctx op => Sys2Proof.Machine.execTRingLate tile ctx op s
  | .tStorek tile ctx op => Sys2Proof.Machine.execTStorek tile ctx op s
  | .tFold tile ctx op => Sys2Proof.Machine.execTFold tile ctx op s
  | .tBarrierJoin tile ctx op => Sys2Proof.Machine.execTBarrierJoin tile ctx op s
  | .tBarrierEnter tile ctx op => Sys2Proof.Machine.execTBarrierEnter tile ctx op s
  | .tBarrierLeave tile ctx op => Sys2Proof.Machine.execTBarrierLeave tile ctx op s
  | .tDigest tile ctx op => Sys2Proof.Machine.execTDigest tile ctx op s
  | .tStep tile ctx op => Sys2Proof.Machine.execTStep tile ctx op s
  | .tHalt tile ctx op => Sys2Proof.Machine.execTHalt tile ctx op s
  | .tEmit tile ctx op => Sys2Proof.Machine.execTEmit tile ctx op s
  | .badOpcode tile ctx x => Sys2Proof.Machine.execBadOpcode tile ctx x s
  | .uGradDiff tile op => Sys2Proof.Machine.execUGradDiff tile op s
  | .uGradBack tile op => Sys2Proof.Machine.execUGradBack tile op s
  | .uLaccAccum tile op => Sys2Proof.Machine.execULaccAccum tile op s
  | .uLaccFlush tile op => Sys2Proof.Machine.execULaccFlush tile op s
  | .uOptm tile op => Sys2Proof.Machine.execUOptm tile op s
  | .uSrq tile op => Sys2Proof.Machine.execUSrq tile op s
  | .uSwap tile op => Sys2Proof.Machine.execUSwap tile op s
  | .stall e x => Sys2Proof.Machine.execStall e x s
  | .decisionExit e stile3 => Sys2Proof.Machine.execDecisionExit e stile3 s
  | .trigPulseEnd pin => Sys2Proof.Machine.execTrigPulseEnd pin s
  | .msixDecFire p => Sys2Proof.Machine.execMsixDecFire p s
  | .msgTailWrite src p w => Sys2Proof.Machine.execMsgTailWrite src p w s
  | .frameStart kind port boundary => Sys2Proof.Machine.execFrameStart kind port boundary s
  | .launchCommit kind port => Sys2Proof.Machine.execLaunchCommit kind port s
  | .launchFirstBit kind port x => Sys2Proof.Machine.execLaunchFirstBit kind port x s
  | .portDown p q => Sys2Proof.Machine.execPortDown p q s
  | .engQuiesce src e w => Sys2Proof.Machine.execEngQuiesce src e w s
  | .quiesceDone e q => Sys2Proof.Machine.execQuiesceDone e q s
  | .engLoad src e w => Sys2Proof.Machine.execEngLoad src e w s
  | .loadDone e => Sys2Proof.Machine.execLoadDone e s
  | .engResume src e w => Sys2Proof.Machine.execEngResume src e w s
  | .retireStage src e w => Sys2Proof.Machine.execRetireStage src e w s
  | .policyWrite src p w => Sys2Proof.Machine.execPolicyWrite src p w s
  | .tagCheckFail x => Sys2Proof.Machine.execTagCheckFail x s
  | .rebuildStart src p w => Sys2Proof.Machine.execRebuildStart src p w s
  | .rebuildAbort src p w => Sys2Proof.Machine.execRebuildAbort src p w s
  | .rbPut p => Sys2Proof.Machine.execRbPut p s
  | .rbDelete p => Sys2Proof.Machine.execRbDelete p s
  | .rbDefault p => Sys2Proof.Machine.execRbDefault p s
  | .rbEnd p => Sys2Proof.Machine.execRbEnd p s
  | .rbHalt p => Sys2Proof.Machine.execRbHalt p s
  | .lrdSwapGo src p w => Sys2Proof.Machine.execLrdSwapGo src p w s
  | .lrdSwapAt src p w => Sys2Proof.Machine.execLrdSwapAt src p w s
  | .swapAtFc p => Sys2Proof.Machine.execSwapAtFc p s
  | .rowFree p => Sys2Proof.Machine.execRowFree p s
  | .stepCommit e p => Sys2Proof.Machine.execStepCommit e p s
  | .calStart src p w => Sys2Proof.Machine.execCalStart src p w s
  | .calAbort src p w => Sys2Proof.Machine.execCalAbort src p w s
  | .calObserveEnd p => Sys2Proof.Machine.execCalObserveEnd p s
  | .calVerifyEnd p => Sys2Proof.Machine.execCalVerifyEnd p s
  | .scaleApply src p w => Sys2Proof.Machine.execScaleApply src p w s
  | .admitImage src p w => Sys2Proof.Machine.execAdmitImage src p w s
  | .admissionChecksDone p read => Sys2Proof.Machine.execAdmissionChecksDone p read s
  | .admissionLoadDone p => Sys2Proof.Machine.execAdmissionLoadDone p s
  | .withdraw src p w => Sys2Proof.Machine.execWithdraw src p w s
  | .withdrawSlotsRetired p => Sys2Proof.Machine.execWithdrawSlotsRetired p s
  | .withdrawQueuesEmpty p => Sys2Proof.Machine.execWithdrawQueuesEmpty p s
  | .labelMatch e => Sys2Proof.Machine.execLabelMatch e s
  | .capExpire e => Sys2Proof.Machine.execCapExpire e s
  | .batchClose e => Sys2Proof.Machine.execBatchClose e s
  | .updateBegin e => Sys2Proof.Machine.execUpdateBegin e s
  | .reduceDone e => Sys2Proof.Machine.execReduceDone e s
  | .swapPhaseBegin e => Sys2Proof.Machine.execSwapPhaseBegin e s
  | .updateFlip e => Sys2Proof.Machine.execUpdateFlip e s
  | .updExport src e w => Sys2Proof.Machine.execUpdExport src e w s
  | .exportDone e ok => Sys2Proof.Machine.execExportDone e ok s
  | .shedEvaluate a => Sys2Proof.Machine.execShedEvaluate a s
  | .peakClear src w => Sys2Proof.Machine.execPeakClear src w s
  | .replayEnable src p w => Sys2Proof.Machine.execReplayEnable src p w s
  | .replayClose src p w => Sys2Proof.Machine.execReplayClose src p w s
  | .replayLimit src p upper w => Sys2Proof.Machine.execReplayLimit src p upper w s
  | .tbAdjWrite src n w => Sys2Proof.Machine.execTbAdjWrite src n w s
  | .tbSlewWrite src n w => Sys2Proof.Machine.execTbSlewWrite src n w s
  | .tbStep src n w => Sys2Proof.Machine.execTbStep src n w s
  | .tbStepApply n => Sys2Proof.Machine.execTbStepApply n s
  | .tbNowRead src n => Sys2Proof.Machine.execTbNowRead src n s
  | .cellarSyncPair => Sys2Proof.Machine.execCellarSyncPair s
  | .ppsEdge cap ref => Sys2Proof.Machine.execPpsEdge cap ref s
  | .ppsAbsent => Sys2Proof.Machine.execPpsAbsent s
  | .tb0Holdover => Sys2Proof.Machine.execTb0Holdover s
  | .sourceSelect src w => Sys2Proof.Machine.execSourceSelect src w s
  | .ptpSubmit src w => Sys2Proof.Machine.execPtpSubmit src w s
  | .celStep src w => Sys2Proof.Machine.execCelStep src w s
  | .sealGo src w => Sys2Proof.Machine.execSealGo src w s
  | .ckpt src w => Sys2Proof.Machine.execCkpt src w s
  | .cellarCalStart src w => Sys2Proof.Machine.execCellarCalStart src w s
  | .calDone x => Sys2Proof.Machine.execCalDone x s
  | .cellarPowerUp => Sys2Proof.Machine.execCellarPowerUp s
  | .auditHash => Sys2Proof.Machine.execAuditHash s
  | .ppsOutRise => Sys2Proof.Machine.execPpsOutRise s
  | .ppsOutFall => Sys2Proof.Machine.execPpsOutFall s
  | .ptpRx t bytes cap => Sys2Proof.Machine.execPtpRx t bytes cap s
  | .ptpTx t cap => Sys2Proof.Machine.execPtpTx t cap s
  | .txtsRead src t => Sys2Proof.Machine.execTxtsRead src t s
  | .receiverDetect l => Sys2Proof.Machine.execReceiverDetect l s
  | .ts1 l x => Sys2Proof.Machine.execTs1 l x s
  | .ts2 l x => Sys2Proof.Machine.execTs2 l x s
  | .train1Timeout l => Sys2Proof.Machine.execTrain1Timeout l s
  | .train2Timeout l => Sys2Proof.Machine.execTrain2Timeout l s
  | .linkAbsentTimeout l => Sys2Proof.Machine.execLinkAbsentTimeout l s
  | .alignLoss l => Sys2Proof.Machine.execAlignLoss l s
  | .los l => Sys2Proof.Machine.execLos l s
  | .errorWindow l => Sys2Proof.Machine.execErrorWindow l s
  | .retrain l cause => Sys2Proof.Machine.execRetrain l cause s
  | .retrainDeferTimeout l => Sys2Proof.Machine.execRetrainDeferTimeout l s
  | .reliableFrameRx l f => Sys2Proof.Machine.execReliableFrameRx l f s
  | .ack l f => Sys2Proof.Machine.execAck l f s
  | .nak l f => Sys2Proof.Machine.execNak l f s
  | .replayTimer l cls => Sys2Proof.Machine.execReplayTimer l cls s
  | .ethActive t => Sys2Proof.Machine.execEthActive t s
  | .linkDown t cause => Sys2Proof.Machine.execLinkDown t cause s
  | .ethControl src t w => Sys2Proof.Machine.execEthControl src t w s
  | .lnkControl src l w => Sys2Proof.Machine.execLnkControl src l w s
  | .join l => Sys2Proof.Machine.execJoin l s
  | .joinRetry => Sys2Proof.Machine.execJoinRetry s
  | .welcome l => Sys2Proof.Machine.execWelcome l s
  | .syncSend caps => Sys2Proof.Machine.execSyncSend caps s
  | .sync l f => Sys2Proof.Machine.execSync l f s
  | .phaseStep => Sys2Proof.Machine.execPhaseStep s
  | .syncMiss => Sys2Proof.Machine.execSyncMiss s
  | .standbyTakeover => Sys2Proof.Machine.execStandbyTakeover s
  | .takeover l => Sys2Proof.Machine.execTakeover l s
  | .launchAt l => Sys2Proof.Machine.execLaunchAt l s
  | .reduce l x => Sys2Proof.Machine.execReduce l x s
  | .reduceWait x => Sys2Proof.Machine.execReduceWait x s
  | .total l => Sys2Proof.Machine.execTotal l s
  | .commit l => Sys2Proof.Machine.execCommit l s
  | .flockDigest l => Sys2Proof.Machine.execFlockDigest l s
  | .digestWait image silent => Sys2Proof.Machine.execDigestWait image silent s
  | .verdict l => Sys2Proof.Machine.execVerdict l s
  | .kill l => Sys2Proof.Machine.execKill l s
  | .flockHalt l => Sys2Proof.Machine.execFlockHalt l s
  | .cancelAll l => Sys2Proof.Machine.execCancelAll l s
  | .release l => Sys2Proof.Machine.execRelease l s
  | .mreq l => Sys2Proof.Machine.execMreq l s
  | .mrsp l => Sys2Proof.Machine.execMrsp l s
  | .flockMsgSend => Sys2Proof.Machine.execFlockMsgSend s
  | .flkRole src w => Sys2Proof.Machine.execFlkRole src w s
  | .form src w => Sys2Proof.Machine.execForm src w s
  | .flkControlKill src w => Sys2Proof.Machine.execFlkControlKill src w s
  | .flkControlHalt src w => Sys2Proof.Machine.execFlkControlHalt src w s
  | .flkControlCancelAll src w => Sys2Proof.Machine.execFlkControlCancelAll src w s
  | .flkControlRelease src w => Sys2Proof.Machine.execFlkControlRelease src w s
  | .claim src w => Sys2Proof.Machine.execClaim src w s
  | .electionClose => Sys2Proof.Machine.execElectionClose s
  | .ownHeartbeat src w => Sys2Proof.Machine.execOwnHeartbeat src w s
  | .heartbeatLoss => Sys2Proof.Machine.execHeartbeatLoss s
  | .handoverRequest src w => Sys2Proof.Machine.execHandoverRequest src w s
  | .handoverAccept src w => Sys2Proof.Machine.execHandoverAccept src w s
  | .handoverExpired => Sys2Proof.Machine.execHandoverExpired s
  | .smbAddress bytes pecOk => Sys2Proof.Machine.execSmbAddress bytes pecOk s
  | .smbWrite bytes pecOk => Sys2Proof.Machine.execSmbWrite bytes pecOk s
  | .smbRead bytes pecOk => Sys2Proof.Machine.execSmbRead bytes pecOk s
  | .regacc dr => Sys2Proof.Machine.execRegacc dr s
  | .lifecycleGo src w hostFail => Sys2Proof.Machine.execLifecycleGo src w hostFail s
  | .keyProgram src w hostFail => Sys2Proof.Machine.execKeyProgram src w hostFail s
  | .keyRevoke src w => Sys2Proof.Machine.execKeyRevoke src w s
  | .debugRequest src w => Sys2Proof.Machine.execDebugRequest src w s
  | .grantLoad src w => Sys2Proof.Machine.execGrantLoad src w s
  | .grantCommit src w => Sys2Proof.Machine.execGrantCommit src w s
  | .scrubRead kind loc err last => Sys2Proof.Machine.execScrubRead kind loc err last s
  | .restoreDone => Sys2Proof.Machine.execRestoreDone s
  | .quarantineRelease src p w => Sys2Proof.Machine.execQuarantineRelease src p w s
  | .shdPattern tile obs1 obs2 => Sys2Proof.Machine.execShdPattern tile obs1 obs2 s
  | .packLoad src e w hostFail => Sys2Proof.Machine.execPackLoad src e w hostFail s
  | .stageReset src e w => Sys2Proof.Machine.execStageReset src e w s
  | .packWinWrite src e w => Sys2Proof.Machine.execPackWinWrite src e w s
  | .observe src e w => Sys2Proof.Machine.execObserve src e w s
  | .observeEnd src e w => Sys2Proof.Machine.execObserveEnd src e w s
  | .muster src e w => Sys2Proof.Machine.execMuster src e w s
  | .musterDone e x => Sys2Proof.Machine.execMusterDone e x s
  | .captureFreeze => Sys2Proof.Machine.execCaptureFreeze s
  | .arm src w => Sys2Proof.Machine.execArm src w s
  | .dump src w => Sys2Proof.Machine.execDump src w s
  | .dumpDone => Sys2Proof.Machine.execDumpDone s
  | .trigger src w => Sys2Proof.Machine.execTrigger src w s
  | .disarm src w => Sys2Proof.Machine.execDisarm src w s
  | .lftControl src w => Sys2Proof.Machine.execLftControl src w s
  | .profileApply src w => Sys2Proof.Machine.execProfileApply src w s
  | .profileDone => Sys2Proof.Machine.execProfileDone s
  | .stateGo src w => Sys2Proof.Machine.execStateGo src w s
  | .napEntry => Sys2Proof.Machine.execNapEntry s
  | .standbyEntry => Sys2Proof.Machine.execStandbyEntry s
  | .stateReached => Sys2Proof.Machine.execStateReached s
  | .thermHot => Sys2Proof.Machine.execThermHot s
  | .thermTrip => Sys2Proof.Machine.execThermTrip s
  | .deviceReset src w => Sys2Proof.Machine.execDeviceReset src w s
  | .sysReset => Sys2Proof.Machine.execSysReset s
  | .coldReset => Sys2Proof.Machine.execColdReset s
  | .startupDone => Sys2Proof.Machine.execStartupDone s
  | .railFault => Sys2Proof.Machine.execRailFault s
  | .vcelLoss => Sys2Proof.Machine.execVcelLoss s
  | .hostLinkReset => Sys2Proof.Machine.execHostLinkReset s
  | .vfFlr p => Sys2Proof.Machine.execVfFlr p s
  | .otpLoad src w => Sys2Proof.Machine.execOtpLoad src w s
  | .otpProgram src w => Sys2Proof.Machine.execOtpProgram src w s
  | .otpProgramDone ok => Sys2Proof.Machine.execOtpProgramDone ok s
  | .unlock src addr w => Sys2Proof.Machine.execUnlock src addr w s
  | .relock src addr w => Sys2Proof.Machine.execRelock src addr w s
  | .ringEnable src addr w => Sys2Proof.Machine.execRingEnable src addr w s
  | .windowRead src addr => Sys2Proof.Machine.execWindowRead src addr s
  | .engClkstop src e w => Sys2Proof.Machine.execEngClkstop src e w s
  | .killTick a b => Sys2Proof.Machine.execKillTick a b s
  | .killClear src w => Sys2Proof.Machine.execKillClear src w s
  | .killTWrite src w => Sys2Proof.Machine.execKillTWrite src w s
  | .triginPulse k first width cap => Sys2Proof.Machine.execTriginPulse k first width cap s
  | .triginStuck x => Sys2Proof.Machine.execTriginStuck x s
  | .triginConfigWrite src k w => Sys2Proof.Machine.execTriginConfigWrite src k w s
  | .unmask src k w raw => Sys2Proof.Machine.execUnmask src k w raw s
  | .triginCapRead src k => Sys2Proof.Machine.execTriginCapRead src k s
  | .aliveToggle => Sys2Proof.Machine.execAliveToggle s
  | .rawTransitions l => Sys2Proof.Machine.execRawTransitions l s
  | .idleWord x => Sys2Proof.Machine.execIdleWord x s
  | .trainingSetSent l cap => Sys2Proof.Machine.execTrainingSetSent l cap s
  | .blockLockGained x => Sys2Proof.Machine.execBlockLockGained x s
  | .blockLockLost x => Sys2Proof.Machine.execBlockLockLost x s
  | .autonegDone t ok => Sys2Proof.Machine.execAutonegDone t ok s
  | .ref10mPresence present => Sys2Proof.Machine.execRef10mPresence present s
  | .pcieLinkDown => Sys2Proof.Machine.execPcieLinkDown s
  | .pcieLinkUp speed width numvfs => Sys2Proof.Machine.execPcieLinkUp speed width numvfs s
  | .rebuildRecordSkip p => Sys2Proof.Machine.execRebuildRecordSkip p s
  | .smbUnknownCommand cmd => Sys2Proof.Machine.execSmbUnknownCommand cmd s

end Sys2Proof.Machine
end

