-- ==== Sys2Proof/Machine/Tick.lean ====
section
/-! DEFINITION. One nanosecond in which no command arrives: what the clocks alone do (R367, R296, R370, R372, R376, R460, R484 to R486). -/

namespace Sys2Proof.Machine

/-- A µs boundary of FC: the heartbeat timer and a pending handover count it in Run and Doze (R485, R486), and a heartbeat's
expiry acts first (R487). -/
def Die.microTick (d : Die) : Die :=
  if d.up && decide (d.get R.PWR_STATUS_STATE < 2) then
    let d := if d.on R.OWN_STATUS_HELD then { d with heartbeat := d.heartbeat + 1 } else d
    let d := if d.on R.OWN_STATUS_PENDING then { d with handover := d.handover + 1 } else d
    let d := if 50000 ≤ d.heartbeat then d.heartbeatLoss else d
    if 10000 ≤ d.handover then d.handoverExpired else d
  else d

/-- One nanosecond of the flock count (R367): FC advances, and the time bases' accepted steps apply at its tick (R372). While the flock absorbs an
offset FC advances on every second nanosecond, and each tick withheld lowers `absorb` (R460). DESIGN CHOICE (log 27): the even ones are withheld. -/
def Die.fcTick (d : Die) : Die :=
  if d.fcRun then
    if d.flk.absorb = 0 ∨ d.ns % 2 = 1 then
      let d := (span 1 8).foldl (fun d n => d.stepDue n) { d with fc := d.fc + 1 }
      if microBoundary d.fc then d.microTick else d
    else (d.count T.FLK_FC_ABSORB 0).onFlk (fun k => { k with absorb := k.absorb - 1 })
  else d

/-- The 100 ms of an election pass (R484). -/
def Die.electionTick (d : Die) : Die :=
  if d.electionNs ≠ 0 ∧ d.electionNs - 1 + 10 ^ 8 ≤ d.ns then d.electionClose else d

/-- A nanosecond of the compute die; a lane whose frame boundary falls in it starts its next frame (R438). -/
def Die.nsTick (d : Die) : Die :=
  let d := Die.electionTick { d.fcTick with ns := d.ns + 1 }
  let d := d.pas.foldl (fun d y => d.readTick y.1) d
  d.lanes.foldl (fun d y => d.lineTurn y.1) d

/-- A nanosecond of the Cellar: tc, and TB0 at its rate (R373, R376, R378). -/
def Cellar.nsTick (c : Cellar) : Cellar :=
  if c.up then { c with tc := c.tc + 1, tb0 := tbWrap ((c.tb0 : Int) + 2 ^ 40 + c.adj0) } else c

/-- One nanosecond passes; owner steps of TB0 apply at its tc (R380). -/
def State.tick (s : State) : State :=
  let s := { s with die := s.die.nsTick, cel := s.cel.nsTick }
  if s.cel.up then s.ownerSteps else s

end Sys2Proof.Machine
end

