-- ==== Sys2Proof/Safety.lean ====
section
/-! DEFINITION. What the claims are stated in: a write that the device admits, what stands unchanged, and the invariants of the kill state machine and
of the Cellar. -/

namespace Sys2Proof.Machine

/-- Command c completes in state s: it answers a next state, and that state is as P says. -/
def State.completes (s : State) (c : Instr) (P : State → Prop) : Prop := ∃ t, exec c s = .next t ∧ P t

/-- The device performs a write of this source at this register (R479, R488, R493, R496, R505, R603). -/
def State.admits (s : State) (src : Source) (b : Block) (i off : Nat) : Prop :=
  (s.die.admitWrite s.fused src (blockAddr b i off)).1 = true

/-- The kill state machine is in order (R637, R638, R644): its times lie in range, from the end of start-up on the gate blocks exactly outside IDLE, and
a CLEAR is awaited only in FAULT. -/
def Kill.inOrder (k : Kill) : Prop :=
  250 ≤ k.nt ∧ k.nt ≤ 2500000 ∧ 250 ≤ k.ntNew ∧ k.ntNew ≤ 2500000 ∧ (k.clearReq = true → k.st = .fault)
    ∧ (k.blocked = false → k.st = .idle)

/-- The Cellar is in order (R380, R397, R400, R408): limits, mask and seal-break count lie in range, and while it is sealed the settings in force are
those of its seal record. -/
def Cellar.inOrder (c : Cellar) : Prop :=
  1 ≤ c.settings.slew0 ∧ c.settings.slew0 ≤ 500 ∧ 1 ≤ c.settings.jump0 ∧ c.settings.jump0 ≤ 65535 ∧ c.settings.mask < 32 ∧ c.breaks ≤ 31
    ∧ (c.sealed = true → c.sealRecord = c.settings.image)

/-- In t the Cellar has taken the offset o of TB0, at FC fc and with the rate word `ref` measured against REF10M_IN, as R378 says: within the jump
limit it counts a correction, measures the frequency and sets the rate word within the slew limit, leaving holdover (R379), or defers that while the
Cellar queue is full (R406); beyond it the offset is refused, or steps TB0 once under AUTH0. -/
def State.offsetTaken (s t : State) (o : Int) (fc : Nat) (ref : Int) : Prop :=
  let c := s.cel
  let far := c.settings.jump0 * 100 * 65536 < o.natAbs
  let waits := c.full = true ∨ c.deferHold ≠ []
  t.kill = s.kill
    ∧ (¬ far → t.cel.tb0 = c.tb0 ∧ t.cel.oPrev = some o ∧ t.cel.offFc = fc
        ∧ t.die.tally T.CEL_CORRECTIONS = tallyAdd (s.die.tally T.CEL_CORRECTIONS) 1
        ∧ (c.get R.CEL_STATUS_SOURCE = 2 → c.get R.CEL_STATUS_REF10M_PRESENT = 1 → t.cel.freq = ref)
        ∧ (¬ (c.get R.CEL_STATUS_SOURCE = 2 ∧ c.get R.CEL_STATUS_REF10M_PRESENT = 1) → (c.oPrev = none → t.cel.freq = c.freq)
            ∧ (∀ p, c.oPrev = some p → c.offFc < fc → ∃ r : Int, t.cel.freq = c.freq - r
                ∧ 2 * (r * (4 * (fc - c.offFc) : Nat) - (o - p) * 2 ^ 24).natAbs ≤ 4 * (fc - c.offFc)))
        ∧ ∃ r : Int, 2 * (r * (8 * 10 ^ 9) + o * 2 ^ 24).natAbs ≤ 8 * 10 ^ 9
            ∧ (c.holdNext = true → ¬ waits → t.cel.get R.CEL_STATUS_HOLDOVER = 0 ∧ t.cel.adj0 = clampTo c.lim0 (t.cel.freq + r)
                ∧ t.cel.celQ.length = c.celQ.length + 1)
            ∧ (c.holdNext = false → c.deferHold = [] → t.cel.get R.CEL_STATUS_HOLDOVER = c.get R.CEL_STATUS_HOLDOVER
                ∧ t.cel.adj0 = clampTo c.lim0 (t.cel.freq + r) ∧ t.cel.celQ = c.celQ)
            ∧ (c.holdNext = true → waits → t.cel.adj0 = c.adj0 ∧ t.cel.get R.CEL_STATUS_HOLDOVER = c.get R.CEL_STATUS_HOLDOVER
                ∧ t.cel.deferHold = c.deferHold ++ [some (clampTo c.lim0 (t.cel.freq + r))] ∧ t.cel.celQ = c.celQ)
            ∧ (c.holdNext = false → c.deferHold ≠ [] → t.cel.adj0 = c.adj0 ∧ t.cel.get R.CEL_STATUS_HOLDOVER = c.get R.CEL_STATUS_HOLDOVER
                ∧ t.cel.deferHold = c.deferHold.dropLast ++ [some (clampTo c.lim0 (t.cel.freq + r))] ∧ t.cel.celQ = c.celQ))
    ∧ (far → ¬ (c.get R.CEL_CONTROL_AUTH0 = 1 ∧ c.full = false) → t.cel.tb0 = c.tb0 ∧ t.cel.adj0 = c.adj0 ∧ t.cel.freq = c.freq
        ∧ t.cel.oPrev = c.oPrev ∧ t.cel.celQ = c.celQ ∧ t.cel.get R.CEL_STATUS_JUMP_REFUSED = 1
        ∧ t.die.tally T.CEL_JUMP_REFUSE = tallyAdd (s.die.tally T.CEL_JUMP_REFUSE) 1)
    ∧ (far → c.get R.CEL_CONTROL_AUTH0 = 1 → c.full = false → t.cel.tb0 = tbWrap (c.tb0 + -o * 2 ^ 24) ∧ t.cel.get R.CEL_CONTROL_AUTH0 = 0
        ∧ t.cel.adj0 = c.adj0 ∧ t.cel.celQ.length = c.celQ.length + 1 ∧ t.die.tallies = s.die.tallies)

/-- The words that reports change: DEV_ALARM (R546), the heads of the fault ring, of the owner's Loft rings and of the pastures' trace rings, and the
Loft's first-failure words (R538, R557, R561, R567, R568). -/
def reportWord (a : Nat) : Bool :=
  a == 0x810 || a == 0x30800 || a == 0x31800 || a == 0x31808 || a == 0x3180C || a == 0x31810 || a == 0x31814
    || (decide (0x300000 ≤ a) && decide (a < 0x340000) && a % 0x1000 == 0x814)

/-- `e` differs from `d` by reports alone: tallies, alarm bits, trace packets and the rings they go to, incidents and fault records. -/
def Die.report (d e : Die) : Prop :=
  e = { d with regs := e.regs, tallies := e.tallies, loft := e.loft, host := e.host, emits := e.emits, store := e.store }
    ∧ ∀ (f : Fld) (i : Nat), reportWord (f.key i / 32) = false → e.get f i = d.get f i

/-- The tallies that a trace packet counts: those of the Loft's page and TRACE_DROP of the pastures (R558, R569). -/
def loftTally (k : Nat) : Bool :=
  (decide (0x31000 ≤ k) && decide (k < 0x32000)) || (decide (0x300000 ≤ k) && decide (k < 0x340000) && k % 0x1000 == 0xC28)

/-- `e` differs from `d` by trace packets alone. -/
def Die.traced (d e : Die) : Prop :=
  d.report e ∧ ∀ k, loftTally k = false → KMap.get 0 e.tallies k = KMap.get 0 d.tallies k

/-- Command c leaves parser g as y says and changes nothing else in the machine. -/
def State.parserGoes (s : State) (c : Instr) (g : Nat) (y : Parser) : Prop :=
  s.completes c (fun t => t = { s with die := { s.die with parsers := t.die.parsers } } ∧ t.die.parser g = y
    ∧ ∀ h, h ≠ g → t.die.parser h = s.die.parser h)

/-- The machine differs from s by the parsers and by reports alone. -/
def State.parsersReport (s t : State) : Prop :=
  t = { s with die := t.die } ∧ ({ s.die with parsers := t.die.parsers } : Die).report t.die

/-- Operation x fires in s: it stands in a loaded image's list, its word is one load takes, it is ready and no loop gate holds it (R113 to R118). -/
def State.fires (s : State) (x : Fire) : Prop :=
  x.tile < 4096 ∧ x.tile % 32 < 24 ∧ s.die.fireOf x.tile x.ctx x.op = some x ∧ wordCode x.F x.w = 0 ∧ s.die.ready1 x = true
    ∧ s.die.gateShut x = false ∧ opCtx x.w = x.ctx

/-- The beats that x consumes from QA. -/
def Die.qa (d : Die) (x : Fire) : List QBeat :=
  (d.queue x.tile x.ctx (opQa x.w)).take (x.need 0)

/-- The beats that x consumes from QB. -/
def Die.qb (d : Die) (x : Fire) : List QBeat :=
  (d.queue x.tile x.ctx (opQb x.w)).take (x.need 1)

/-- The slot of the beats that x consumes. -/
def Die.slotIn (d : Die) (x : Fire) : Nat := slotOf (d.qa x ++ d.qb x)

/-- Nothing that x reads is in error: no stored word is, and its beats are clean, of one slot, from two queues where it reads two (R116, R182). -/
def State.sound (s : State) (x : Fire) : Prop :=
  s.die.ecc = [] ∧ s.die.poison = [] ∧ (∀ b ∈ s.die.qa x ++ s.die.qb x, b.poison = false ∧ b.slot = s.die.slotIn x)
    ∧ (x.need 1 ≠ 0 → opQb x.w ≠ opQa x.w)

/-- What x leaves in a queue of its context. -/
def Die.rest (d : Die) (x : Fire) (q : Nat) : List QBeat :=
  (d.queue x.tile x.ctx q).drop ((if q = opQa x.w then (d.qa x).length else 0) + (if q = opQb x.w then (d.qb x).length else 0))

/-- Command c fires x once: of its context's queues QD alone gains beats, those of `bs`, after x has taken what it consumes; the Cellar, the kill state
machine, the Larder and the tile store stand. -/
def State.yields (s : State) (c : Instr) (x : Fire) (bs : List QBeat) : Prop :=
  s.completes c (fun t => t.die.fires x.tile x.ctx x.op = s.die.fires x.tile x.ctx x.op + 1
    ∧ (∀ q, t.die.queue x.tile x.ctx q = s.die.rest x q ++ (if q = opQd x.w then bs else []))
    ∧ (t.die.tile x.tile).store = (s.die.tile x.tile).store ∧ t = { s with die := t.die } ∧ t.die.rows = s.die.rows ∧ t.die.dir = s.die.dir)

/-- What a computation answers, its counts apart. -/
def Num.val {α : Type} (f : Num α) : α := (f {}).1

/-- Command c acts on Ouvust lane l as P says; the flock logic and reports apart, the machine stands, and so do the other lanes and ports. -/
def State.laneGoes (s : State) (c : Instr) (l : Nat) (P : Die → Prop) : Prop :=
  s.completes c (fun t => t = { s with die := { s.die with regs := t.die.regs, tallies := t.die.tallies, loft := t.die.loft, host := t.die.host
                                                           emits := t.die.emits, store := t.die.store, lanes := t.die.lanes, flk := t.die.flk
                                                           pullIn := t.die.pullIn, ports := t.die.ports } }
    ∧ (∀ j, j ≠ 128 + l → KMap.get {} t.die.ports j = KMap.get {} s.die.ports j)
    ∧ (∀ m, m < 64 → m ≠ l → t.die.laneState m = s.die.laneState m ∧ t.die.lane m = s.die.lane m) ∧ P t.die)

/-- `e` is `d` after a retrain of lane l began (R430, R439). -/
def Die.retrains (d e : Die) (l : Nat) : Prop :=
  e.laneState l = 2 ∧ e.on R.LNK_STATUS_DEFER l = false ∧ e.get R.LNK_STATUS_RATE l = d.get R.LNK_STATUS_RATE l % 8
    ∧ e.tally T.LNK_RETRAINS l = tallyAdd (d.tally T.LNK_RETRAINS l) 1

/-- `e` is `d` after a retrain trigger on ACTIVE lane l (R439, R440): a retrain, or its deferral while a B frame waits or is outstanding. -/
def Die.triggered (d e : Die) (l : Nat) : Prop :=
  ((d.lane l).b.out = [] → (d.lane l).b.waits = [] → d.retrains e l)
    ∧ (((d.lane l).b.out ≠ [] ∨ (d.lane l).b.waits ≠ []) → e.laneState l = 4 ∧ e.on R.LNK_STATUS_DEFER l = true
        ∧ e.tally T.LNK_DEFERRED l = tallyAdd (d.tally T.LNK_DEFERRED l) 1 ∧ e.tally T.LNK_RETRAINS l = d.tally T.LNK_RETRAINS l
        ∧ (e.lane l).deferFor = (d.lane l).b.out.map (fun f => f.1)
            ++ (List.range (d.lane l).b.waits.length).map (fun i => ((d.lane l).b.next + i) % 4096))

/-- Message m waits or is outstanding in a class of lane l (R435, R456). -/
def Die.queued (d : Die) (l cls : Nat) (m : List Byte) : Prop :=
  m ∈ ((d.lane l).rel cls).waits ∨ ∃ n, (n, m) ∈ ((d.lane l).rel cls).out

/-- In `e` message m waits or is outstanding in a class of every child lane that is ACTIVE in `d` (R456). -/
def Die.spreads (d e : Die) (cls : Nat) (m : List Byte) : Prop :=
  ∀ c, c ∈ d.childLanes → d.laneState c = 4 → e.queued c cls m

/-- Message m stands first in a class of lane l, of a type. -/
def Die.brings (d : Die) (l cls type : Nat) (m : List Byte) : Prop := l < 64 ∧ d.msgOf l cls type = some m

/-- Command c takes the first message of a class of lane l and leaves the machine beyond the compute die as it is. -/
def State.takes (s : State) (c : Instr) (l cls : Nat) (P : Die → Prop) : Prop :=
  s.completes c (fun t => t = { s with die := t.die } ∧ ((t.die.lane l).rel cls).buf = ((s.die.lane l).rel cls).buf.drop 1
    ∧ t.die.tiles = s.die.tiles ∧ t.die.rows = s.die.rows ∧ t.die.dir = s.die.dir ∧ P t.die)

/-- A read by this source at this register meets the register (R479, R488, R493, R496, R505, R581, R594). -/
def State.reads (s : State) (src : Source) (b : Block) (i off : Nat) : Prop :=
  off % 4 = 0 ∧ s.die.pathUp src = true ∧ s.die.answers src b = true ∧ pageOf s.fused (blockAddr b i off) = some (b, i, off)
    ∧ ∀ p, src = .vf p → s.die.vfPage p b i = 0

/-- The source holds capture v of the item at this register (R19, R597). -/
def Die.captured (d : Die) (src : Source) (b : Block) (i off : Nat) : Nat :=
  KMap.get 0 d.caps (srcNum src * 2 ^ 32 + blockAddr b i off)

/-- Command c is a read that answers w, and but for the captures and what P says the machine stands. -/
def State.answers (s : State) (c : Instr) (w : Nat) (P : Die → Prop) : Prop :=
  s.completes c (fun t => t = { s with die := t.die } ∧ t.die.readData.toNat = w ∧ t.die.regs = s.die.regs ∧ t.die.tallies = s.die.tallies
    ∧ t.die.tiles = s.die.tiles ∧ P t.die)

end Sys2Proof.Machine
end

