-- ==== Sys2Proof/WellFormed.lean ====
section
/-! DEFINITION. Well-formed commands: every unit a command names exists (R7, R139, R593, R605), and an access is one aligned word. -/

namespace Sys2Proof

/-- The VF of a source is that of a pasture P00 to P63 (R478, R488). -/
def Source.known : Source → Bool
  | .m0 => true
  | .m1 => true
  | .m2 => true
  | .m3 => true
  | .vf p => decide (p < 64)

/-- A logical tile address: engine, row and a column below 24 (R139). -/
def onTile (t : Nat) : Bool := decide (t < 4096) && decide (t % 32 < 24)

/-- A BAR0 offset of a 4-byte-aligned word (R593, R607). -/
def onWord (addr : Nat) : Bool := decide (addr % 4 = 0) && decide (addr < 2 ^ 26)

/-- Every unit a tag check names exists (R509, R518). -/
def TagCheck.known (x : TagCheck) : Bool :=
  decide (1 ≤ x.kind) && decide (x.kind ≤ 20) && (match x.load with | some e => decide (e < 8) | none => true)
    && (match x.tile with | some t => onTile t | none => true)

/-- Every unit that a command names exists. -/
def Instr.wellFormed : Instr → Bool
  | .tallyRead src addr => src.known && onWord addr
  | .tallyClear src addr _ => src.known && onWord addr
  | .pairRead src addr => src.known && onWord addr
  | .registerWrite src addr _ => src.known && onWord addr
  | .partialWrite src addr be _ => src.known && onWord addr && decide (be < 16)
  | .timingApply src _ => src.known
  | .timingChangeDone => true
  | .ref250Lost => true
  | .ref250WaitEnd => true
  | .ref250Return => true
  | .pllPullInDone => true
  | .ethFrameRx t _ _ _ => decide (t < 16)
  | .fcsResult t _ => decide (t < 16)
  | .sFrame l _ => decide (l < 64)
  | .rawFrame l _ _ => decide (l < 64)
  | .rawPeriod l _ => decide (l < 64)
  | .injectEntry => true
  | .parserWordArrival g _ _ => decide (g < 81)
  | .pNop g => decide (g < 81)
  | .pExt g => decide (g < 81)
  | .pKeyc g => decide (g < 81)
  | .pKeyh g => decide (g < 81)
  | .pEvid g => decide (g < 81)
  | .pMatch g => decide (g < 81)
  | .pBrc g => decide (g < 81)
  | .pBrn g => decide (g < 81)
  | .pCur g => decide (g < 81)
  | .pCuri g => decide (g < 81)
  | .pTbsel g => decide (g < 81)
  | .pEmitr g => decide (g < 81)
  | .pAccept g => decide (g < 81)
  | .pDrop g => decide (g < 81)
  | .recordAssembled x => decide (x.port < 81)
  | .larderLookup g p => decide (g < 81) && decide (p < 64)
  | .featureAssembly p _ => decide (p < 64)
  | .entryAdmit e p _ _ => decide (e < 8) && decide (p < 64)
  | .entryWaitLimit e p => decide (e < 8) && decide (p < 64)
  | .oqBeatSend tile ctx oq => onTile tile && decide (ctx < 8) && decide (oq < 2)
  | .tNop tile ctx op => onTile tile && decide (ctx < 8) && decide (op < 32)
  | .tDot tile ctx op => onTile tile && decide (ctx < 8) && decide (op < 32)
  | .tDota tile ctx op => onTile tile && decide (ctx < 8) && decide (op < 32)
  | .tDwc tile ctx op => onTile tile && decide (ctx < 8) && decide (op < 32)
  | .tExpand tile ctx op => onTile tile && decide (ctx < 8) && decide (op < 32)
  | .tScaleg tile ctx op => onTile tile && decide (ctx < 8) && decide (op < 32)
  | .tAccf tile ctx op => onTile tile && decide (ctx < 8) && decide (op < 32)
  | .tRq tile ctx op => onTile tile && decide (ctx < 8) && decide (op < 32)
  | .tAct tile ctx op => onTile tile && decide (ctx < 8) && decide (op < 32)
  | .tRelu tile ctx op => onTile tile && decide (ctx < 8) && decide (op < 32)
  | .tClamp tile ctx op => onTile tile && decide (ctx < 8) && decide (op < 32)
  | .tAddv tile ctx op => onTile tile && decide (ctx < 8) && decide (op < 32)
  | .tMulv tile ctx op => onTile tile && decide (ctx < 8) && decide (op < 32)
  | .tMaxv tile ctx op => onTile tile && decide (ctx < 8) && decide (op < 32)
  | .tMinv tile ctx op => onTile tile && decide (ctx < 8) && decide (op < 32)
  | .tCmpv tile ctx op => onTile tile && decide (ctx < 8) && decide (op < 32)
  | .tSelv tile ctx op => onTile tile && decide (ctx < 8) && decide (op < 32)
  | .tNormAffine tile ctx op => onTile tile && decide (ctx < 8) && decide (op < 32)
  | .tNormLayer tile ctx op => onTile tile && decide (ctx < 8) && decide (op < 32)
  | .tArgmax tile ctx op => onTile tile && decide (ctx < 8) && decide (op < 32)
  | .tTree tile ctx op => onTile tile && decide (ctx < 8) && decide (op < 32)
  | .tLeaf tile ctx op => onTile tile && decide (ctx < 8) && decide (op < 32)
  | .tMovq tile ctx op => onTile tile && decide (ctx < 8) && decide (op < 32)
  | .tBcast tile ctx op => onTile tile && decide (ctx < 8) && decide (op < 32)
  | .tGather tile ctx op => onTile tile && decide (ctx < 8) && decide (op < 32)
  | .tScatter tile ctx op => onTile tile && decide (ctx < 8) && decide (op < 32)
  | .tShiftw tile ctx op => onTile tile && decide (ctx < 8) && decide (op < 32)
  | .tPack tile ctx op => onTile tile && decide (ctx < 8) && decide (op < 32)
  | .tUnpack tile ctx op => onTile tile && decide (ctx < 8) && decide (op < 32)
  | .tRing tile ctx op => onTile tile && decide (ctx < 8) && decide (op < 32)
  | .tRingLate tile ctx op => onTile tile && decide (ctx < 8) && decide (op < 32)
  | .tStorek tile ctx op => onTile tile && decide (ctx < 8) && decide (op < 32)
  | .tFold tile ctx op => onTile tile && decide (ctx < 8) && decide (op < 32)
  | .tBarrierJoin tile ctx op => onTile tile && decide (ctx < 8) && decide (op < 32)
  | .tBarrierEnter tile ctx op => onTile tile && decide (ctx < 8) && decide (op < 32)
  | .tBarrierLeave tile ctx op => onTile tile && decide (ctx < 8) && decide (op < 32)
  | .tDigest tile ctx op => onTile tile && decide (ctx < 8) && decide (op < 32)
  | .tStep tile ctx op => onTile tile && decide (ctx < 8) && decide (op < 32)
  | .tHalt tile ctx op => onTile tile && decide (ctx < 8) && decide (op < 32)
  | .tEmit tile ctx op => onTile tile && decide (ctx < 8) && decide (op < 32)
  | .badOpcode tile ctx x => onTile tile && decide (ctx < 8) && decide (x.op < 32)
  | .uGradDiff tile op => onTile tile && decide (op < 32)
  | .uGradBack tile op => onTile tile && decide (op < 32)
  | .uLaccAccum tile op => onTile tile && decide (op < 32)
  | .uLaccFlush tile op => onTile tile && decide (op < 32)
  | .uOptm tile op => onTile tile && decide (op < 32)
  | .uSrq tile op => onTile tile && decide (op < 32)
  | .uSwap tile op => onTile tile && decide (op < 32)
  | .stall e x => decide (e < 8) && decide (x.quarter < 4)
  | .decisionExit e _ => decide (e < 8)
  | .trigPulseEnd pin => decide (pin < 16)
  | .msixDecFire p => decide (p < 64)
  | .msgTailWrite src p _ => src.known && decide (p < 64)
  | .frameStart kind port _ => decide ((kind = 1 ∧ port < 16) ∨ (kind = 2 ∧ port < 64))
  | .launchCommit kind port => decide ((kind = 1 ∧ port < 16) ∨ (kind = 2 ∧ port < 64))
  | .launchFirstBit kind port _ => decide ((kind = 0 ∧ port < 16) ∨ (kind = 1 ∧ port < 16) ∨ (kind = 2 ∧ port < 64))
  | .portDown p q => decide (p < 64 ∧ q < 8)
  | .engQuiesce src e _ => src.known && decide (e < 8)
  | .quiesceDone e q => decide (e < 8) && decide (q < 4)
  | .engLoad src e _ => src.known && decide (e < 8)
  | .loadDone e => decide (e < 8)
  | .engResume src e _ => src.known && decide (e < 8)
  | .retireStage src e _ => src.known && decide (e < 8)
  | .policyWrite src p _ => src.known && decide (p < 64)
  | .tagCheckFail x => x.known
  | .rebuildStart src p _ => src.known && decide (p < 64)
  | .rebuildAbort src p _ => src.known && decide (p < 64)
  | .rbPut p => decide (p < 64)
  | .rbDelete p => decide (p < 64)
  | .rbDefault p => decide (p < 64)
  | .rbEnd p => decide (p < 64)
  | .rbHalt p => decide (p < 64)
  | .lrdSwapGo src p _ => src.known && decide (p < 64)
  | .lrdSwapAt src p _ => src.known && decide (p < 64)
  | .swapAtFc p => decide (p < 64)
  | .rowFree p => decide (p < 64)
  | .stepCommit e p => decide (e < 8) && decide (p < 64)
  | .calStart src p _ => src.known && decide (p < 64)
  | .calAbort src p _ => src.known && decide (p < 64)
  | .calObserveEnd p => decide (p < 64)
  | .calVerifyEnd p => decide (p < 64)
  | .scaleApply src p _ => src.known && decide (p < 64)
  | .admitImage src p _ => src.known && decide (p < 64)
  | .admissionChecksDone p _ => decide (p < 64)
  | .admissionLoadDone p => decide (p < 64)
  | .withdraw src p _ => src.known && decide (p < 64)
  | .withdrawSlotsRetired p => decide (p < 64)
  | .withdrawQueuesEmpty p => decide (p < 64)
  | .labelMatch e => decide (e < 8)
  | .capExpire e => decide (e < 8)
  | .batchClose e => decide (e < 8)
  | .updateBegin e => decide (e < 8)
  | .reduceDone e => decide (e < 8)
  | .swapPhaseBegin e => decide (e < 8)
  | .updateFlip e => decide (e < 8)
  | .updExport src e _ => src.known && decide (e < 8)
  | .exportDone e _ => decide (e < 8)
  | .shedEvaluate _ => true
  | .peakClear src _ => src.known
  | .replayEnable src p _ => src.known && decide (p < 64)
  | .replayClose src p _ => src.known && decide (p < 64)
  | .replayLimit src p _ _ => src.known && decide (p < 64)
  | .tbAdjWrite src n _ => src.known && decide (1 ≤ n ∧ n ≤ 7)
  | .tbSlewWrite src n _ => src.known && decide (1 ≤ n ∧ n ≤ 7)
  | .tbStep src n _ => src.known && decide (1 ≤ n ∧ n ≤ 7)
  | .tbStepApply n => decide (1 ≤ n ∧ n ≤ 7)
  | .tbNowRead src n => src.known && decide (n ≤ 7)
  | .cellarSyncPair => true
  | .ppsEdge _ _ => true
  | .ppsAbsent => true
  | .tb0Holdover => true
  | .sourceSelect src _ => src.known
  | .ptpSubmit src _ => src.known
  | .celStep src _ => src.known
  | .sealGo src _ => src.known
  | .ckpt src _ => src.known
  | .cellarCalStart src _ => src.known
  | .calDone _ => true
  | .cellarPowerUp => true
  | .auditHash => true
  | .ppsOutRise => true
  | .ppsOutFall => true
  | .ptpRx t _ _ => decide (t < 16)
  | .ptpTx t _ => decide (t < 16)
  | .txtsRead src t => src.known && decide (t < 16)
  | .receiverDetect l => decide (l < 64)
  | .ts1 l _ => decide (l < 64)
  | .ts2 l _ => decide (l < 64)
  | .train1Timeout l => decide (l < 64)
  | .train2Timeout l => decide (l < 64)
  | .linkAbsentTimeout l => decide (l < 64)
  | .alignLoss l => decide (l < 64)
  | .los l => decide (l < 64)
  | .errorWindow l => decide (l < 64)
  | .retrain l _ => decide (l < 64)
  | .retrainDeferTimeout l => decide (l < 64)
  | .reliableFrameRx l _ => decide (l < 64)
  | .ack l _ => decide (l < 64)
  | .nak l _ => decide (l < 64)
  | .replayTimer l _ => decide (l < 64)
  | .ethActive t => decide (t < 16)
  | .linkDown t _ => decide (t < 16)
  | .ethControl src t _ => src.known && decide (t < 16)
  | .lnkControl src l _ => src.known && decide (l < 64)
  | .join l => decide (l < 64)
  | .joinRetry => true
  | .welcome l => decide (l < 64)
  | .syncSend _ => true
  | .sync l _ => decide (l < 64)
  | .phaseStep => true
  | .syncMiss => true
  | .standbyTakeover => true
  | .takeover l => decide (l < 64)
  | .launchAt l => decide (l < 64)
  | .reduce l _ => decide (l < 64)
  | .reduceWait _ => true
  | .total l => decide (l < 64)
  | .commit l => decide (l < 64)
  | .flockDigest l => decide (l < 64)
  | .digestWait _ _ => true
  | .verdict l => decide (l < 64)
  | .kill l => decide (l < 64)
  | .flockHalt l => decide (l < 64)
  | .cancelAll l => decide (l < 64)
  | .release l => decide (l < 64)
  | .mreq l => decide (l < 64)
  | .mrsp l => decide (l < 64)
  | .flockMsgSend => true
  | .flkRole src _ => src.known
  | .form src _ => src.known
  | .flkControlKill src _ => src.known
  | .flkControlHalt src _ => src.known
  | .flkControlCancelAll src _ => src.known
  | .flkControlRelease src _ => src.known
  | .claim src _ => src.known
  | .electionClose => true
  | .ownHeartbeat src _ => src.known
  | .heartbeatLoss => true
  | .handoverRequest src _ => src.known
  | .handoverAccept src _ => src.known
  | .handoverExpired => true
  | .smbAddress _ _ => true
  | .smbWrite _ _ => true
  | .smbRead _ _ => true
  | .regacc _ => true
  | .lifecycleGo src _ _ => src.known
  | .keyProgram src _ _ => src.known
  | .keyRevoke src _ => src.known
  | .debugRequest src _ => src.known
  | .grantLoad src _ => src.known
  | .grantCommit src _ => src.known
  | .scrubRead _ _ _ _ => true
  | .restoreDone => true
  | .quarantineRelease src p _ => src.known && decide (p < 64)
  | .shdPattern tile _ _ => onTile tile
  | .packLoad src e _ _ => src.known && decide (e < 8)
  | .stageReset src e _ => src.known && decide (e < 8)
  | .packWinWrite src e _ => src.known && decide (e < 8)
  | .observe src e _ => src.known && decide (e < 8)
  | .observeEnd src e _ => src.known && decide (e < 8)
  | .muster src e _ => src.known && decide (e < 8)
  | .musterDone e _ => decide (e < 8)
  | .captureFreeze => true
  | .arm src _ => src.known
  | .dump src _ => src.known
  | .dumpDone => true
  | .trigger src _ => src.known
  | .disarm src _ => src.known
  | .lftControl src _ => src.known
  | .profileApply src _ => src.known
  | .profileDone => true
  | .stateGo src _ => src.known
  | .napEntry => true
  | .standbyEntry => true
  | .stateReached => true
  | .thermHot => true
  | .thermTrip => true
  | .deviceReset src _ => src.known
  | .sysReset => true
  | .coldReset => true
  | .startupDone => true
  | .railFault => true
  | .vcelLoss => true
  | .hostLinkReset => true
  | .vfFlr p => decide (p < 64)
  | .otpLoad src _ => src.known
  | .otpProgram src _ => src.known
  | .otpProgramDone _ => true
  | .unlock src addr _ => src.known && onWord addr
  | .relock src addr _ => src.known && onWord addr
  | .ringEnable src addr _ => src.known && onWord addr
  | .windowRead src addr => src.known && onWord addr
  | .engClkstop src e _ => src.known && decide (e < 8)
  | .killTick _ _ => true
  | .killClear src _ => src.known
  | .killTWrite src _ => src.known
  | .triginPulse i _ _ _ => decide (i < 8)
  | .triginStuck x => decide (x.input < 8)
  | .triginConfigWrite src i _ => src.known && decide (i < 8)
  | .unmask src i _ _ => src.known && decide (i < 8)
  | .triginCapRead src i => src.known && decide (i < 8)
  | .aliveToggle => true
  | .rawTransitions l => decide (l < 64)
  | .idleWord x => decide (x.lane < 64)
  | .trainingSetSent l _ => decide (l < 64)
  | .blockLockGained x => decide (x.port < 16)
  | .blockLockLost x => decide (x.port < 16)
  | .autonegDone t _ => decide (t < 16)
  | .ref10mPresence _ => true
  | .pcieLinkDown => true
  | .pcieLinkUp _ _ _ => true
  | .rebuildRecordSkip p => decide (p < 64)
  | .smbUnknownCommand _ => true

end Sys2Proof
end

