-- ==== Sys2Proof/Certificates/Slice0/Obligations.lean ====
section
/-! DEFINITION. The statements for the provers. -/

open Sys2Proof Sys2Proof.Machine

/-- The front command of the queue is executed on the state with the queue's rest.
What the spec leaves open here is the model's own: log entry 106. -/
def Obligations.StepRunsFront : Prop :=
  ∀ (c : Instr) (s : State), step { s with pending := c :: s.pending } = exec c s

/-- A parser instruction with a source that is in bounds and arrived, in a record not dropped and not last in its program: EXT, KEYC, KEYH and EVID write
the working value they name (R56, R57), mark the record touched, and the parser stands at the next instruction; nothing else changes.
A parser instruction that moves through the frame or the program (R57): MATCH and CUR read a source, NOP, BRC, BRN, CURI and TBSEL none; BRC skips ARG
instructions where C is 1 and BRN where it is 0; nothing else changes.
What the spec leaves open here is the model's own: log entry 21. -/
def Obligations.ParserStraight : Prop :=
  (∀ (s : State) (g : Nat) (i : PInstr) (bs : List Byte) (x : Parser), s.die.parser g = x → g < 81 → s.die.ready g = some i →
     x.source i = .ok bs → x.dropped = false → x.pc + 1 < x.instrs.length →
     (i.op = 1 → s.parserGoes (.pExt g) g
       { x with pc := x.pc + 1, touched := true, fields := (overlay x.fields (i.dst - 24) (if i.be then bs.reverse else bs)).take 40 })
     ∧ (i.op = 2 → s.parserGoes (.pKeyc g) g { x with pc := x.pc + 1, touched := true, key := i.value bs % 2 ^ 32 })
     ∧ (i.op = 3 → s.parserGoes (.pKeyh g) g { x with pc := x.pc + 1, touched := true, key := crc32c bs })
     ∧ (i.op = 4 → s.parserGoes (.pEvid g) g { x with pc := x.pc + 1, touched := true, evid := some (i.value bs % 2 ^ 48) }))
  ∧ (∀ (s : State) (g : Nat) (i : PInstr) (x : Parser), s.die.parser g = x → g < 81 → s.die.ready g = some i →
       x.pc + 1 + i.arg < x.instrs.length →
       (i.op = 0 → s.parserGoes (.pNop g) g { x with pc := x.pc + 1 })
       ∧ (i.op = 5 → ∀ bs, x.source i = .ok bs → s.parserGoes (.pMatch g) g
           { x with pc := x.pc + 1
                    c := (BitVec.ofNat 64 (i.value bs)) &&& (x.consts.getD i.arg (0, 0)).2 == (x.consts.getD i.arg (0, 0)).1 })
       ∧ (i.op = 6 → s.parserGoes (.pBrc g) g { x with pc := x.pc + (if x.c then 1 + i.arg else 1) })
       ∧ (i.op = 7 → s.parserGoes (.pBrn g) g { x with pc := x.pc + (if x.c then 1 else 1 + i.arg) })
       ∧ (i.op = 8 → ∀ bs, x.source i = .ok bs → s.parserGoes (.pCur g) g { x with pc := x.pc + 1, cursor := x.cursor + i.value bs + i.arg })
       ∧ (i.op = 9 → s.parserGoes (.pCuri g) g { x with pc := x.pc + 1, cursor := x.cursor + i.off + i.arg })
       ∧ (i.op = 10 → s.parserGoes (.pTbsel g) g { x with pc := x.pc + 1, tb := i.arg % 8, touched := true }))

/-- EMITR and ACCEPT close the record under construction as the next one awaiting assembly and begin a fresh one, ACCEPT ending the program (R57, R60), and
count RECORDS; DROP ends the program and counts PROG_DROP where no EMITR has executed (R59). Reports apart, nothing but the parser changes.
RECORD_ASSEMBLED makes the event record of the oldest closed record (R66 to R69): event ID from EVID or from the pasture's counter, which then advances by
one, and key, pasture, source, time base, timestamp and fields as captured. Under WAIT it is held for the FCS (R65); else, where no reflex rule stands
in its way, it joins the pasture's feed queue (R70). A record of a frame before the one in hand is assembled alike, and the frame in hand stands.
What the spec leaves open here is the model's own: log entries 8, 20. -/
def Obligations.RecordsForm : Prop :=
  (∀ (s : State) (g : Nat) (i : PInstr) (x : Parser), s.die.parser g = x → g < 81 → s.die.ready g = some i → x.dropped = false →
     let y : Parser := { x with closed := x.closed + 1
                                closing := x.closing ++ [⟨(match x.evid with | some v => some v | none => x.replayEvid), x.key, x.tb, x.fields⟩]
                                key := 0, evid := none, fields := List.replicate 40 0, touched := false, emitted := true
                                msgStart := x.cursor, pc := x.pc + 1 }
     (i.op = 11 → x.closed < 8 → s.die.on R.FAB_REPLAY_ENABLE x.pasture = false → x.pc + 1 < x.instrs.length →
       s.completes (.pEmitr g) (fun t => t.die.parser g = y
         ∧ t.die.tally T.ING_RECORDS g = tallyAdd (s.die.tally T.ING_RECORDS g) 1 ∧ s.parsersReport t))
     ∧ (i.op = 12 → x.closed < 8 → s.die.on R.FAB_REPLAY_ENABLE x.pasture = false →
       s.completes (.pAccept g) (fun t => t.die.parser g = { y with running := false }
         ∧ t.die.tally T.ING_RECORDS g = tallyAdd (s.die.tally T.ING_RECORDS g) 1 ∧ s.parsersReport t))
     ∧ (i.op = 13 → x.emitted = false →
       s.completes (.pDrop g) (fun t => t.die.parser g = Parser.settle { x with running := false }
         ∧ t.die.tally T.PAS_PROG_DROP x.pasture = tallyAdd (s.die.tally T.PAS_PROG_DROP x.pasture) 1 ∧ s.parsersReport t)))
  ∧ (∀ (s : State) (g n : Nat) (y : Parser) (x : FrameTail) (c : ClosedRec) (rest : List ClosedRec) (im : Image) (put : FrameTail → Parser),
       s.die.parser g = y → g < 81 → x.pasture < 64 →
       (((∀ z ∈ y.tails, z.closing = []) ∧ x = y.tail ∧ put = (fun z => Parser.settle { y with closing := z.closing, left := z.left, held := z.held }))
         ∨ ∃ before after, y.tails = before ++ x :: after ∧ (∀ z ∈ before, z.closing = [])
           ∧ put = (fun z => Parser.settle { y with tails := before ++ (if z.closing = [] ∧ z.fcsDue = false ∧ z.held = [] then after else z :: after) })) →
       x.closing = c :: rest → s.die.on R.FAB_REPLAY_ENABLE x.pasture = false → KMap.get 0 s.die.ecc (12 * 2 ^ 40 + g * 64 + x.pasture) ≠ 2 →
       s.die.image x.pasture = some im → im.reflex = [] → im.engines ≠ [] → (KMap.get [] s.die.feeds (g * 64 + x.pasture)).length < 16 →
       (s.die.pasture x.pasture).leaving = 0 →
       let r : EvRec := { evid := match c.evid with | some v => v | none => (s.die.pasture x.pasture).evCounter
                          key := c.key, pasture := x.pasture, source := x.srcCode, tb := c.tb, ts := x.stamps.getD c.tb {}, fields := c.fields
                          poison := false, inFc16 := x.inFc16, table := x.table }
       s.completes (.recordAssembled ⟨g, n⟩) (fun t =>
         (if x.wait = true ∧ x.fcsDue = true then
             t.die.parser g = put { x with closing := rest, held := x.held ++ [r] } ∧ t.die.feeds = s.die.feeds
           else t.die.parser g = put { x with closing := rest, left := x.left + 1 }
             ∧ KMap.get [] t.die.feeds (g * 64 + x.pasture) = KMap.get [] s.die.feeds (g * 64 + x.pasture) ++ [r])
         ∧ (t.die.pasture x.pasture).evCounter =
             (match c.evid with
               | some _ => (s.die.pasture x.pasture).evCounter
               | none => ((s.die.pasture x.pasture).evCounter + 1) % 2 ^ 48)
         ∧ t.cel = s.cel ∧ t.kill = s.kill
         ∧ ({ s.die with parsers := t.die.parsers, feeds := t.die.feeds, pas := t.die.pas } : Die).report t.die))

/-- PARSER_WORD_ARRIVAL gives the parser the bytes that have arrived, up to the frame's end (R62), where they bring no instruction to execution; each crossing
of 3 cycles among the n words in Free mode counts TIMING_CHOICE (R29, R348).
FCS_RESULT of the oldest frame of its port that awaits one, a frame whose program has ended (R64, R65): a pass frees what is held in an empty hand; a failure drops the records still in hand, counted in
FCS_BAD, and without WAIT counts those already gone in FCS_LATE.
What the spec leaves open here is the model's own: log entries 20, 126. -/
def Obligations.FrameBytesSettle : Prop :=
  (∀ (s : State) (g n : Nat) (x : Parser), s.die.parser g = x → g < 81 → x.busy = true → x.pc < x.instrs.length →
     (s.die.putParser g { x with arrived := min x.frame.length (x.arrived + n) }).ready g = none →
     s.parserGoes (.parserWordArrival g n 0) g (Parser.settle { x with arrived := min x.frame.length (x.arrived + n) })
     ∧ (∀ k, 0 < k → k ≤ n → s.die.get R.DEV_TIMING_STATUS_MODE = 0 →
         s.completes (.parserWordArrival g n k) (fun t =>
           t.die.parser g = Parser.settle { x with arrived := min x.frame.length (x.arrived + n) }
           ∧ t.die.tally T.FAB_TIMING_CHOICE x.pasture = tallyAdd (s.die.tally T.FAB_TIMING_CHOICE x.pasture) k ∧ s.parsersReport t)))
  ∧ (∀ (s : State) (t : Nat) (x : Parser), s.die.parser (64 + t) = x → t < 16 → x.busy = true → x.fcsDue = true → x.running = false →
       (∀ z ∈ x.tails, z.fcsDue = false) →
       (x.fault = false → x.held = [] →
         s.parserGoes (.fcsResult t true) (64 + t) (Parser.settle { x with arrived := x.frame.length, fcsDue := false, held := [] }))
       ∧ s.completes (.fcsResult t false) (fun u => u.die.parser (64 + t) = { tails := x.tails }
           ∧ u.die.tally T.PAS_FCS_BAD x.pasture = tallyAdd (s.die.tally T.PAS_FCS_BAD x.pasture) (x.held.length + x.closing.length)
           ∧ (x.wait = false → u.die.tally T.PAS_FCS_LATE x.pasture = tallyAdd (s.die.tally T.PAS_FCS_LATE x.pasture) x.left)
           ∧ s.parsersReport u))

/-- ETH_FRAME_RX of a sound frame that passes the address filter and the header stage (R50, R51, R415): the lowest matching steering entry hands it to the
pasture's program with its capture (R53 to R55), and FRAMES counts; what remains to do of the frame before it waits behind it; without a match NO_MATCH counts.
PTP_RX of a PTP frame that passes the filter (R381, R615): its tag advances the port's tag, and it takes the next slot of the owner's receive ring, or
PTP_RX_DROP counts where the ring is off.
INJECT_ENTRY with one pasture ready (R612): its tail advances past the entry's units and INJECTED counts; a malformed entry instead halts the ring and
counts INJ_BAD.
What the spec leaves open here is the model's own: log entries 11, 23, 107. -/
def Obligations.FramesEnter : Prop :=
  (∀ (s : State) (t base : Nat) (bytes : List Byte) (cap : Capture) (k : SteerKey), t < 16 → s.die.ethReceives t = true → s.die.inNap = false →
     ((s.die.parser (64 + t)).busy = false ∨ (s.die.parser (64 + t)).running = false) → 60 ≤ bytes.length → bytes.length ≤ 1518 → s.die.macOk t bytes = true → isPtp bytes = false →
     headerStage bytes = .ok (k, base) →
     (∀ e im q, s.die.steerFor (64 + t) k = some e → s.die.image e.pasture = some im → programOf im (64 + t) e.entry.program = some q →
       s.completes (.ethFrameRx t bytes {} cap) (fun u =>
         let x := u.die.parser (64 + t)
         x.busy = true ∧ x.frame = bytes ∧ x.base = base ∧ x.arrived = base ∧ x.pasture = e.pasture ∧ x.instrs = q.instrs ∧ x.running = true
         ∧ x.tails = (let y := Parser.settle (s.die.parser (64 + t)); if y.busy then y.tails ++ [y.tail] else y.tails)
         ∧ x.fcsDue = true ∧ x.fault = false ∧ x.tb = e.entry.tb ∧ x.srcCode = 64 + t ∧ x.wait = e.entry.wait
         ∧ x.stamps = stampsOf s.die (s.cel.capFc (26 + t) false cap) (s.cel.capTb0 (26 + t) false cap)
         ∧ u.die.tally T.ING_FRAMES (64 + t) = tallyAdd (s.die.tally T.ING_FRAMES (64 + t)) 1 ∧ s.parsersReport u))
     ∧ (s.die.steerFor (64 + t) k = none →
       s.completes (.ethFrameRx t bytes {} cap) (fun u =>
         u.die.tally T.ETH_NO_MATCH t = tallyAdd (s.die.tally T.ETH_NO_MATCH t) 1 ∧ u = { s with die := u.die } ∧ s.die.report u.die)))
  ∧ (∀ (s : State) (t : Nat) (bytes : List Byte) (cap : Capture), t < 16 → s.die.ethReceives t = true → s.die.macOk t bytes = true → isPtp bytes = true →
       (s.die.on R.ETH_PTPRX_CTL_ENABLE t = true →
         (s.die.get R.ETH_PTPRX_HEAD_VALUE t + 2 ^ 32 - s.die.get R.ETH_PTPRX_TAIL_VALUE t) % 2 ^ 32 < 2 ^ s.die.get R.ETH_PTPRX_CTL_LOG2SIZE t →
         s.completes (.ptpRx t bytes cap) (fun u =>
           u.die.get R.ETH_PTPRX_HEAD_VALUE t = (s.die.get R.ETH_PTPRX_HEAD_VALUE t + 1) % 2 ^ 32
           ∧ KMap.get 0 u.die.ptpTag t = (KMap.get 0 s.die.ptpTag t + 1) % 2 ^ 16))
       ∧ (s.die.on R.ETH_PTPRX_CTL_ENABLE t = false →
         s.completes (.ptpRx t bytes cap) (fun u =>
           u.die.tally T.ETH_PTP_RX_DROP t = tallyAdd (s.die.tally T.ETH_PTP_RX_DROP t) 1
           ∧ KMap.get 0 u.die.ptpTag t = (KMap.get 0 s.die.ptpTag t + 1) % 2 ^ 16)))
  ∧ (∀ (s : State) (p : Nat) (h : List Byte), p < 64 → (s.die.parser 80).busy = false → s.die.injHead p = some h →
       (∀ q, q < 64 → q ≠ p → s.die.injHead q = none) →
       let len := leNat (slice h 0 2)
       s.completes .injectEntry (fun t => t = { s with die := t.die } ∧ t.die.injLast = p
         ∧ (if 1 ≤ len ∧ len ≤ 4088 ∧ leNat (slice h 2 6) = 0 then
             t.die.get R.PAS_INJ_TAIL_VALUE p = (s.die.get R.PAS_INJ_TAIL_VALUE p + injUnits len) % 2 ^ 32
             ∧ t.die.tally T.PAS_INJECTED p = tallyAdd (s.die.tally T.PAS_INJECTED p) 1
           else t.die.on R.PAS_RING_STATUS_INJ_HALTED p = true ∧ t.die.parsers = s.die.parsers
             ∧ t.die.tally T.PAS_INJ_BAD p = tallyAdd (s.die.tally T.PAS_INJ_BAD p) 1)))

/-- LARDER_LOOKUP of a record with a table, no word in error and no WRITEBACK marker on its key (R79, R84 to R86): the record leaves the feed queue with the
row of the key's directory entry in the live bank, or with the table's default row where it has none, and then MISS counts; a WRITEBACK state table sets its
marker (R88).
What the spec leaves open here is the model's own: log entries 37, 129. -/
def Obligations.LarderLooksUp : Prop :=
  ∀ (s : State) (g p t : Nat) (r : EvRec) (rest : List EvRec) (im : Image) (y : TableImg), g < 81 → p < 64 →
    s.die.ecc = [] → s.die.poison = [] → KMap.get [] s.die.feeds (g * 64 + p) = r :: rest → r.table = some t → s.die.image p = some im →
    tableRec im t = some y →
    let wb := y.writeback && y.state
    let x := s.die.larder p
    (wb = true → ∀ m ∈ x.markers, ¬(m.1 = t ∧ m.2.1 = r.key)) →
    let hit := s.die.dirFind (s.die.places p t r.key x.live x.liveSeed) t r.key
    let ptr := match hit with | some (_, e) => e.ptr | none => KMap.get 0 x.defLive t
    (∀ a ∈ s.die.rowAt p ptr y.rowUnits, grantField (s.die.grant p) 8 4 ≤ a ∧ a < grantField (s.die.grant p) 8 4 + grantField (s.die.grant p) 12 4) →
    s.completes (.larderLookup g p) (fun u =>
      KMap.get [] u.die.feeds (g * 64 + p) = rest
      ∧ KMap.get [] u.die.looked p = KMap.get [] s.die.looked p
          ++ [{ er := r, table := some t, row := s.die.rowBytes p ptr y.rowUnits, rowPtr := ptr, miss := hit.isNone, poison := r.poison
                ticket := (s.die.pasture p).ticket + 1, marker := wb }]
      ∧ (u.die.larder p).markers = (if wb then [(t, r.key, (s.die.pasture p).ticket + 1)] else []) ++ x.markers
      ∧ (hit = none → u.die.tally (T.LRD_MISS t) p = tallyAdd (s.die.tally (T.LRD_MISS t) p) 1)
      ∧ u = { s with die := u.die } ∧ u.die.rows = s.die.rows ∧ u.die.dir = s.die.dir)

/-- A write of LRD_REBUILD that the device performs: START begins a rebuild in the pasture's shadow bank and clears REFUSED (R91); ABORT discards it and cancels
a pending swap (R98). The live bank stands.
The records of the rebuild ring (R90 to R94): PUT gives the key its entry in the shadow bank, or the first place of its buckets that has none, and its row
to a run of free row words (which one is a free choice), or to the lowest free words where no run is left, and is refused where place or words lack; DELETE
removes the key's entry, DEFAULT gives the table its next default row, END makes the shadow bank ready, each consuming its units; a record
the device skips counts RB_BAD, and one longer than the ring halts it.
What the spec leaves open here is the model's own: log entries 14, 35, 130, 131, 132, 134. -/
def Obligations.RebuildRuns : Prop :=
  (∀ (s : State) (src : Source) (p : Nat) (w : Word) (im : Image), p < 64 → s.admits src .LRD p 0x010 →
     (bit w.toNat 2 = true → s.die.lrdState p ≠ 3 → s.die.image p = some im → (s.die.pasture p).adm = true → im.tables ≠ [] → s.die.grantK p ≠ 0 →
       s.completes (.rebuildStart src p w) (fun t => t = { s with die := t.die } ∧ t.die.lrdState p = 1 ∧ t.die.on R.LRD_STATUS_REFUSED p = false
         ∧ (t.die.larder p).live = (s.die.larder p).live ∧ (t.die.larder p).defShadow = (t.die.larder p).defLive
         ∧ (t.die.larder p).defLive = (s.die.larder p).defLive ∧ t.die.rows = s.die.rows))
     ∧ (bit w.toNat 2 = false → bit w.toNat 3 = true →
       s.completes (.rebuildAbort src p w) (fun t => t = { s with die := t.die } ∧ t.die.lrdState p = 0
         ∧ (t.die.larder p).live = (s.die.larder p).live ∧ (t.die.larder p).defShadow = (t.die.larder p).defLive
         ∧ (t.die.larder p).defLive = (s.die.larder p).defLive ∧ t.die.rows = s.die.rows)))
  ∧ (∀ (s : State) (p : Nat) (r : RbRec), p < 64 → s.die.rbHead p = some r →
       let x := s.die.larder p
       let pl := s.die.places p r.table r.key (1 - x.live) x.shadowSeed
       let spot := match s.die.dirFind pl r.table r.key with
         | some (j, _) => some j
         | none => pl.find? (fun j => (KMap.get none s.die.dir j).isNone)
       let tail (t : State) : Prop :=
         t.die.get R.LRD_RING_TAIL_VALUE p = (s.die.get R.LRD_RING_TAIL_VALUE p + r.units) % 2 ^ 32 ∧ t = { s with die := t.die }
       let written (ws : List Nat) : KMap (BitVec 64) :=
         (ws.zip (chunk 8 ws.length (padTo (8 * ws.length) r.data))).foldl (fun m y => KMap.set 0 m y.1 (BitVec.ofNat 64 (leNat y.2))) s.die.rows
       let lo := grantField (s.die.grant p) 8 4
       let spread (n : Nat) : List Nat := freeWords lo (lo + grantField (s.die.grant p) 12 4) (s.die.usedWords p) n
       (r.fits = true → s.die.rbSkips p r = false →
         (∀ k tb, r.op = 1 → s.die.rbTable p r = some tb → spot = some k → s.die.freeRuns p tb.rowUnits ≠ [] →
           s.completes (.rbPut p) (fun t => tail t ∧ ∃ a ∈ s.die.freeRuns p tb.rowUnits,
             KMap.get none t.die.dir k = some ⟨r.key, r.table, a⟩ ∧ t.die.rows = written (span a (a + tb.rowUnits))
             ∧ ∀ j, j ≠ k → KMap.get none t.die.dir j = KMap.get none s.die.dir j))
         ∧ (∀ k tb, r.op = 1 → s.die.rbTable p r = some tb → spot = some k → s.die.freeRuns p tb.rowUnits = [] →
             (spread tb.rowUnits).length = tb.rowUnits → tb.rowUnits ≠ 0 →
           s.completes (.rbPut p) (fun t => tail t ∧ KMap.get none t.die.dir k = some ⟨r.key, r.table, (spread tb.rowUnits).headD 0⟩
             ∧ t.die.rows = written (spread tb.rowUnits) ∧ t.die.rowAt p ((spread tb.rowUnits).headD 0) tb.rowUnits = spread tb.rowUnits
             ∧ ∀ j, j ≠ k → KMap.get none t.die.dir j = KMap.get none s.die.dir j))
         ∧ (∀ tb, r.op = 1 → s.die.rbTable p r = some tb →
             (spot = none ∨ (s.die.freeRuns p tb.rowUnits = [] ∧ (spread tb.rowUnits).length < tb.rowUnits)) → s.die.on R.LRD_STATUS_REFUSED p = false →
           s.completes (.rbPut p) (fun t => tail t ∧ t.die.on R.LRD_STATUS_REFUSED p = true ∧ t.die.get R.LRD_STATUS_KEY_KEY p = r.key % 2 ^ 32
             ∧ t.die.tally T.LRD_INSERT_REFUSE p = tallyAdd (s.die.tally T.LRD_INSERT_REFUSE p) 1 ∧ t.die.rows = s.die.rows ∧ t.die.dir = s.die.dir))
         ∧ (∀ k e, r.op = 2 → s.die.dirFind pl r.table r.key = some (k, e) →
           s.completes (.rbDelete p) (fun t => tail t ∧ KMap.get none t.die.dir k = none ∧ t.die.rows = s.die.rows
             ∧ ∀ j, j ≠ k → KMap.get none t.die.dir j = KMap.get none s.die.dir j))
         ∧ (∀ tb, r.op = 3 → s.die.rbTable p r = some tb → s.die.freeRuns p tb.rowUnits ≠ [] →
           s.completes (.rbDefault p) (fun t => tail t ∧ ∃ a ∈ s.die.freeRuns p tb.rowUnits,
             KMap.get 0 (t.die.larder p).defShadow r.table = a ∧ t.die.rows = written (span a (a + tb.rowUnits)) ∧ t.die.dir = s.die.dir))
         ∧ (∀ tb, r.op = 3 → s.die.rbTable p r = some tb → s.die.freeRuns p tb.rowUnits = [] → (spread tb.rowUnits).length = tb.rowUnits →
             tb.rowUnits ≠ 0 →
           s.completes (.rbDefault p) (fun t => tail t ∧ KMap.get 0 (t.die.larder p).defShadow r.table = (spread tb.rowUnits).headD 0
             ∧ t.die.rows = written (spread tb.rowUnits) ∧ t.die.dir = s.die.dir))
         ∧ (r.op = 4 → s.completes (.rbEnd p) (fun t => tail t ∧ t.die.lrdState p = 2 ∧ t.die.rows = s.die.rows ∧ t.die.dir = s.die.dir)))
       ∧ (r.fits = true → s.die.rbSkips p r = true →
         s.completes (.rebuildRecordSkip p) (fun t => tail t ∧ t.die.tally T.LRD_RB_BAD p = tallyAdd (s.die.tally T.LRD_RB_BAD p) 1
           ∧ t.die.rows = s.die.rows ∧ t.die.dir = s.die.dir))
       ∧ (r.fits = false →
         s.completes (.rbHalt p) (fun t => t.die.on R.LRD_STATUS_RB_HALTED p = true ∧ t = { s with die := t.die }
           ∧ t.die.tally T.LRD_RB_BAD p = tallyAdd (s.die.tally T.LRD_RB_BAD p) 1 ∧ t.die.rows = s.die.rows ∧ t.die.dir = s.die.dir)))

/-- The exchange of the banks (R95 to R97): GO where the shadow bank is ready and nothing was refused, and AT's FC when it comes, make the shadow bank of
every table of the pasture live with its seed and default rows and end the rebuild; AT with its FC ahead leaves the swap pending; GO outside state READY or
PENDING is refused and counted. ROW_FREE (R99) frees what the live bank does not reference.
What the spec leaves open here is the model's own: log entry 36. -/
def Obligations.BanksExchange : Prop :=
  ∀ (s : State) (src : Source) (p : Nat) (w : Word), p < 64 →
    let x := s.die.larder p
    let swapped (t : State) : Prop := t = { s with die := t.die } ∧ (t.die.larder p).live = 1 - x.live ∧ (t.die.larder p).liveSeed = x.shadowSeed
      ∧ (t.die.larder p).defLive = x.defShadow ∧ t.die.lrdState p = 0 ∧ t.die.rows = s.die.rows ∧ t.die.dir = s.die.dir
    (s.admits src .LRD p 0x014 → bit w.toNat 0 = true → (s.die.lrdState p = 2 ∨ s.die.lrdState p = 3) → s.die.on R.LRD_STATUS_REFUSED p = false →
      s.completes (.lrdSwapGo src p w) swapped)
    ∧ (s.admits src .LRD p 0x014 → bit w.toNat 0 = true → s.die.lrdState p < 2 →
      s.completes (.lrdSwapGo src p w) (fun t => t.die.tally T.LRD_SWAP_REFUSE p = tallyAdd (s.die.tally T.LRD_SWAP_REFUSE p) 1 ∧ t.die.lar = s.die.lar
        ∧ t = { s with die := t.die }))
    ∧ (s.admits src .LRD p 0x014 → bit w.toNat 0 = false → bit w.toNat 1 = true → s.die.lrdState p = 2 → s.die.on R.LRD_STATUS_REFUSED p = false →
      sdiff 64 s.die.fc (s.die.pair64 R.LRD_SWAP_FC_LO R.LRD_SWAP_FC_HI p) < 0 →
      s.completes (.lrdSwapAt src p w) (fun t => t = { s with die := t.die } ∧ t.die.lrdState p = 3 ∧ (t.die.larder p).live = x.live
        ∧ (t.die.larder p).swapAt = s.die.pair64 R.LRD_SWAP_FC_LO R.LRD_SWAP_FC_HI p))
    ∧ (s.die.lrdState p = 3 → 0 ≤ sdiff 64 s.die.fc x.swapAt → s.completes (.swapAtFc p) swapped)
    ∧ (x.freeing ≠ [] → s.completes (.rowFree p) (fun t => t = { s with die := t.die } ∧ (t.die.larder p).freeing = []
        ∧ (∀ a ∈ x.freeing, a ∉ s.die.refs p x.live x.defLive → KMap.get [] (t.die.larder p).alloc a = [])
        ∧ (∀ a, a ∉ x.freeing → KMap.get [] (t.die.larder p).alloc a = KMap.get [] x.alloc a) ∧ t.die.rows = s.die.rows))

/-- The lane-wise operations of the vector unit (R195, R196) on clean beats: QD gains the beats of their lanes, each lane of QA and of the second operand read
as norm32 reads it. -/
def Obligations.VectorLanes : Prop :=
  ∀ (s : State) (x : Fire), s.fires x → s.sound x →
    let raw := s.die.beat x.tile
    let nb := fld x.w 41 39 + 1
    let ba := fld x.w 9 0
    let imm := fld x.w 31 0
    let norm (l : List Nat) : List Nat := l.map (fun v => (norm32 v).val)
    let as := norm (lanesOf ((s.die.qa x).map (fun b => b.data.toNat)))
    let qb := (s.die.qb x).map (fun b => b.data.toNat)
    let bs := norm (vecB raw x.w qb)
    let out (ls : List Nat) : List QBeat := outBeats (s.die.slotIn x) false (beatsOf nb ls)
    let clamp (v lo hi : Nat) : Nat :=
      let m := if 0 ≤ (cmp32 v lo).val then v else lo
      if (cmp32 m hi).val ≤ 0 then m else hi
    (opc x.w = 9 → s.yields (.tRelu x.tile x.ctx x.op) x
      (out (as.map (fun v => if bit v 31 = false then v else if imm = 0 then 0 else (mul32 v imm).val))))
    ∧ (opc x.w = 10 → fld x.w 38 37 = 1 → s.yields (.tClamp x.tile x.ctx x.op) x
      (out ((as.zip ((norm (lanesOf ((span ba (ba + nb)).map raw))).zip (norm (lanesOf ((span (ba + nb) (ba + 2 * nb)).map raw))))).map
        (fun p => clamp p.1 p.2.1 p.2.2))))
    ∧ (opc x.w = 10 → fld x.w 38 37 = 2 → s.yields (.tClamp x.tile x.ctx x.op) x
      (out (as.map (fun v =>
        let hi := (norm32 imm).val % 2 ^ 31
        clamp v (if hi = 0 then 0 else hi + 2 ^ 31) hi))))
    ∧ (opc x.w = 11 → s.yields (.tAddv x.tile x.ctx x.op) x (out ((as.zip bs).map (fun p => (add32 p.1 p.2).val))))
    ∧ (opc x.w = 12 → s.yields (.tMulv x.tile x.ctx x.op) x (out ((as.zip bs).map (fun p => (mul32 p.1 p.2).val))))
    ∧ (opc x.w = 13 → s.yields (.tMaxv x.tile x.ctx x.op) x (out ((as.zip bs).map (fun p => if 0 ≤ (cmp32 p.1 p.2).val then p.1 else p.2))))
    ∧ (opc x.w = 14 → s.yields (.tMinv x.tile x.ctx x.op) x (out ((as.zip bs).map (fun p => if (cmp32 p.1 p.2).val ≤ 0 then p.1 else p.2))))
    ∧ (opc x.w = 15 → s.yields (.tCmpv x.tile x.ctx x.op) x
      (out ((as.zip bs).map (fun p => if relHolds (fld x.w 36 34) (cmp32 p.1 p.2).val then 0x3F800000 else 0))))
    ∧ (opc x.w = 16 → s.yields (.tSelv x.tile x.ctx x.op) x
      (out ((as.zip ((norm (lanesOf qb)).zip (norm (vecB raw x.w [])))).map (fun p => if p.1 ≠ 0 then p.2.1 else p.2.2))))

/-- Normalisation, reduction and decision trees on clean beats (R194, R197 to R200): what QD gains. LEAF is stated for indices within its trees.
What the spec leaves open here is the model's own: log entry 108. -/
def Obligations.VectorReductions : Prop :=
  ∀ (s : State) (x : Fire), s.fires x → s.sound x →
    let w := x.w
    let raw := s.die.beat x.tile
    let nb := fld w 41 39 + 1
    let ba := fld w 9 0
    let qa := (s.die.qa x).map (fun b => b.data.toNat)
    let qb := (s.die.qb x).map (fun b => b.data.toNat)
    let out (vs : List Nat) : List QBeat := outBeats (s.die.slotIn x) false vs
    let tr := KMap.get {} (s.die.ctx x.tile x.ctx).tr (fld w 33 33)
    (opc w = 8 → tr.poison = false → s.yields (.tAct x.tile x.ctx x.op) x
      (out [((List.range (fld w 32 28 + 1)).map (fun l => (byteAt tr.bytes (elem (qa.headD 0) (fmtWidth (fld w 41 38)) (fld w 27 20 + l))).toNat
        % 2 ^ fmtWidth (fld w 37 34) * 2 ^ (fmtWidth (fld w 37 34) * (fld w 19 12 + l)))).sum]))
    ∧ (opc w = 17 → fld w 36 34 = 0 → s.yields (.tNormAffine x.tile x.ctx x.op) x
      (out (beatsOf nb (((lanesOf qa).zip ((lanesOf ((span ba (ba + nb)).map raw)).zip (lanesOf ((span (ba + nb) (ba + 2 * nb)).map raw)))).map
        (fun p => (affine32 p.1 p.2.1 p.2.2).val)))))
    ∧ (opc w = 17 → fld w 36 34 = 1 → s.yields (.tNormLayer x.tile x.ctx x.op) x (out (beatsOf nb (layer32 (lanesOf qa) (fld w 31 0)).val)))
    ∧ (opc w = 18 →
      let vs := (lanesOf qa).map (fun v => (norm32 v).val)
      let best := (span 1 vs.length).foldl (fun b i => if 0 < (cmp32 (vs.getD i 0) (vs.getD b 0)).val then i else b) 0
      s.yields (.tArgmax x.tile x.ctx x.op) x (out [beatOf [vs.getD best 0, best]]))
    ∧ (opc w = 19 → s.yields (.tTree x.tile x.ctx x.op) x
      (out [(((List.range (fld w 38 35 + 1)).zip (treeWalks raw w qa)).map (fun y =>
        (y.2.headD 0 - (2 ^ (fld w 34 32 + 1) - 1)) % 256 * 2 ^ (8 * (fld w 21 17 + y.1)))).sum % 2 ^ 256]))
    ∧ (opc w = 20 →
      let idx (t : Nat) : Nat := leafIdx w (qa.headD 0) t
      let nt := fld w 41 38 + 1
      (∀ t, t < nt → idx t < 2 ^ (fld w 37 35 + 1)) →
      s.yields (.tLeaf x.tile x.ctx x.op) x
        (out [beatOf ((List.range (fld w 34 32 + 1)).map (fun o =>
          let a := if bit w 26 then (norm32 (lane (qb.headD 0) o)).val
            else if bit w 5 = false then (norm32 (lane (raw (fld w 15 6)) o)).val else 0
          ((List.range nt).map (fun t => tsWord raw (leafByte w t (idx t) o))).foldl (fun p q => (add32 p q).val) a))]))

/-- The expansion and MAC units on clean operands (R184 to R189): EXPAND fills the buffer of the write pointer and moves the pointer to the other buffer; DOT
multiplies that of the read pointer by its weights, DOTA and DWC the window taps its marker beat names, and QD gains their group-sum records (R164, R186),
four to a beat.
What the spec leaves open here is the model's own: log entries 39, 40. -/
def Obligations.MultiplyUnits : Prop :=
  ∀ (s : State) (x : Fire), s.fires x → s.sound x →
    let w := x.w
    let raw := s.die.beat x.tile
    let qa := (s.die.qa x).map (fun b => b.data.toNat)
    let c := s.die.ctx x.tile x.ctx
    let fw := fld w 41 38
    let fa := fld w 37 34
    let K := (fld w 33 30 + 1) * classN (pairWidth fw fa)
    let recs (slot : Nat) (n : Nat) (rs : List Nat) : List QBeat := outBeats slot false (recordBeats n rs)
    (opc w = 4 →
      s.completes (.tExpand x.tile x.ctx x.op) (fun t =>
        let c' := t.die.ctx x.tile x.ctx
        c'.wptr = 1 - c.wptr ∧ (KMap.get {} c'.bufs c.wptr).left = fld w 33 32 + 1
        ∧ (KMap.get {} c'.bufs c.wptr).ents = KMap.setRange {} (KMap.get {} c.bufs c.wptr).ents (fld w 35 34)
            ((s.die.qa x).map (fun b => ⟨(List.range (epb fw)).map (fun i => (expand fw (elem b.data.toNat (fmtWidth fw) i) 0).val), fw, b.slot, false⟩))
        ∧ (∀ q, t.die.queue x.tile x.ctx q = s.die.rest x q) ∧ (t.die.tile x.tile).store = (s.die.tile x.tile).store
        ∧ t.die.fires x.tile x.ctx x.op = s.die.fires x.tile x.ctx x.op + 1 ∧ t = { s with die := t.die } ∧ t.die.rows = s.die.rows))
    ∧ (opc w = 1 →
      let ents := (List.range (cdiv K (epb fa))).map (fun i => KMap.get {} (KMap.get {} c.bufs c.rptr).ents (fld w 29 27 + i))
      let slot := match ents with | y :: _ => y.slot | [] => 0
      (∀ y ∈ ents, y.slot = slot ∧ y.poison = false) →
      s.yields (.tDot x.tile x.ctx x.op) x (recs slot (cdiv (dotRecords w) 4)
        (dotRecs K (gOf w) (dotWeights raw w ((s.die.slotSt x slot).wb * bankOff x (fld w 24 15))).val (ents.flatMap (fun y => y.ops)))))
    ∧ (opc w = 2 →
      s.yields (.tDota x.tile x.ctx x.op) x (recs (s.die.slotIn x) (cdiv (dotRecords w) 4)
        (dotRecs K (gOf w) (dotWeights raw w (fireBank s.die x (slotA s.die x) (fld w 24 15))).val
          (expandTaps fa K ((dotaTaps x qa).map raw)).val)))
    ∧ (opc w = 3 →
      let boff := fireBank s.die x (slotA s.die x) (fld w 25 16)
      let n := fld w 15 11 + 1
      let taps := fld w 33 29 + 1
      s.yields (.tDwc x.tile x.ctx x.op) x (recs (s.die.slotIn x) (cdiv n 4) ((List.range n).map (fun j =>
        gsRecord (groupSum ((List.range taps).map (fun t =>
          ((expand fw (tsCode raw (fld w 25 16 + boff) (fmtWidth fw) (j * taps + t)) (raw (fld w 25 16 - 1 + boff))).val,
            (expand fa (elem (raw (winBeat x (fld w 28 26) qa t)) (fmtWidth fa) (fld w 10 3 + j)) 0).val))))))))

/-- The scale unit and RQ on clean operands: SCALEG scales group sums with the bank of the event's PAR bit and rounds once (R167, R168, R190, R243); ACCF adds
group values in ascending group order onto the bias (R169, R191), where its records name each of its outputs and groups once; RQ's lanes become codes under
their shift and zero point (R192, R252).
What the spec leaves open here is the model's own: log entries 15, 39. -/
def Obligations.ScaleUnit : Prop :=
  ∀ (s : State) (x : Fire), s.fires x → s.sound x →
    let w := x.w
    let raw := s.die.beat x.tile
    let par := (s.die.slotSt x (s.die.slotIn x)).par
    let qa := (s.die.qa x).map (fun b => b.data.toNat)
    let qb := (s.die.qb x).map (fun b => b.data.toNat)
    let out (vs : List Nat) : List QBeat := outBeats (s.die.slotIn x) false vs
    (opc w = 5 →
      let n := fld w 41 37 + 1
      s.yields (.tScaleg x.tile x.ctx x.op) x (out (recordBeats (cdiv n 4) (((List.range n).zip (recordsOf qa)).map (fun y =>
        let j := fld w 23 16 + y.1 % (fld w 36 32 + 1)
        let k := fld w 31 24 + y.1 / (fld w 36 32 + 1)
        let sc := combinedScale raw (fld w 15 6) par j k
        let S := sext (bits y.2 0 48) 48
        let X := sext (bits y.2 48 16) 16
        (if S = 0 ∨ sc.1 = 0 then 0 else (round32 (decide (S < 0)) (S.natAbs * sc.1) (X - 24 + sc.2)).val) + k % 2 ^ 16 * 2 ^ 32 + j % 2 ^ 8 * 2 ^ 48)))))
    ∧ (opc w = 6 →
      let nrec := fld w 41 36 + 1
      let nout := fld w 35 33 + 1
      let jb := fld w 32 25
      let recs := ((recordsOf (qa ++ qb)).take nrec).map (fun v => (bits v 48 8, bits v 32 16, bits v 0 32))
      (∀ r ∈ recs, jb ≤ r.1 ∧ r.1 < jb + nout ∧ r.2.1 < nrec / nout) → ((recs.map (fun r => r.1 * 65536 + r.2.1)).Nodup) →
      s.yields (.tAccf x.tile x.ctx x.op) x (out [beatOf ((List.range nout).map (fun o =>
        ((List.range (nrec / nout)).map (fun k => match recs.find? (fun r => r.1 == jb + o && r.2.1 == k) with | some r => r.2.2 | none => 0)).foldl
          (fun p q => (add32 p q).val) (if bit w 6 then 0 else (norm32 (lane (raw (biasBeat x par)) o)).val)))]))
    ∧ (opc w = 7 → 1 ≤ qa.length →
      let f := fld w 41 38
      let pw (l : Nat) : Nat := lane (raw (fld w 29 20 + par)) l
      s.yields (.tRq x.tile x.ctx x.op) x (out [((List.range 8).map (fun l =>
        (requantLane f (decode32 (norm32 (lane (qa.headD 0) l)).val).val (sext (bits (pw l) 0 16) 16) (sext (bits (pw l) 16 8) 8)).val.1
          * 2 ^ (fmtWidth f * (fld w 37 30 + l)))).sum]))

/-- Movement on clean beats (R206, R208 to R213, R225, R226): MOVQ, FOLD and the three BARRIERs pass beats on with their sideband, BCAST to every queue its
mask names; GATHER, PACK and UNPACK compute the beats QD gains. PACK is stated for beats that set no bit twice.
What the spec leaves open here is the model's own: log entries 42, 43, 109. -/
def Obligations.BeatsMove : Prop :=
  ∀ (s : State) (x : Fire), s.fires x → s.sound x →
    let w := x.w
    let raw := s.die.beat x.tile
    let qa := (s.die.qa x).map (fun b => b.data.toNat)
    let qb := (s.die.qb x).map (fun b => b.data.toNat)
    let out (vs : List Nat) : List QBeat := outBeats (s.die.slotIn x) false vs
    (opc w = 21 → fld w 38 37 = 0 → s.yields (.tMovq x.tile x.ctx x.op) x (s.die.qa x))
    ∧ (opc w = 21 → fld w 38 37 = 2 →
      s.yields (.tMovq x.tile x.ctx x.op) x (out ((span (fld w 36 27) (fld w 36 27 + (fld w 41 39 + 1))).map raw)))
    ∧ (opc w = 22 → s.completes (.tBcast x.tile x.ctx x.op) (fun t =>
        (∀ q, t.die.queue x.tile x.ctx q = s.die.rest x q ++ (if q ∈ bcastQs (fld w 38 33) then s.die.qa x else []))
        ∧ t.die.fires x.tile x.ctx x.op = s.die.fires x.tile x.ctx x.op + 1 ∧ t = { s with die := t.die } ∧ t.die.rows = s.die.rows))
    ∧ (opc w = 23 →
      let ew := ewOf w
      let no := fld w 31 29 + 1
      let res := ((List.range (no * (256 / ew))).map (fun e =>
        let m := tsHalf raw (32 * fld w 28 19 + 2 * e)
        if bit m 15 then 0 else bits (joinBeats (qa ++ qb)) (ew * bits m 0 12) ew * 2 ^ (ew * e))).sum
      s.yields (.tGather x.tile x.ctx x.op) x (out ((List.range no).map (fun i => bits res (256 * i) 256))))
    ∧ (opc w = 26 → (∀ i j, i < j → j < qa.length → Nat.land (qa.getD i 0) (qa.getD j 0) = 0) →
      s.yields (.tPack x.tile x.ctx x.op) x (out [qa.foldl Nat.lor 0]))
    ∧ (opc w = 27 →
      let f := fld w 41 38
      let n := fld w 34 29 + 1
      s.yields (.tUnpack x.tile x.ctx x.op) x (out (beatsOf (cdiv n 8) ((List.range n).map (fun k =>
        let o := (expand f (elem (joinBeats qa) (fmtWidth f) (fld w 28 18 + k)) 0).val
        (round32 o.s o.m (o.x + sext (fld w 17 10) 8)).val)))))
    ∧ (opc w = 30 → s.completes (.tFold x.tile x.ctx x.op) (fun t =>
        t.die.queue x.tile (fld w 41 39) (opQd w) = s.die.queue x.tile (fld w 41 39) (opQd w) ++ s.die.qa x
        ∧ (∀ q, t.die.queue x.tile x.ctx q = s.die.rest x q)
        ∧ t.die.fires x.tile x.ctx x.op = s.die.fires x.tile x.ctx x.op + 1 ∧ t = { s with die := t.die } ∧ t.die.rows = s.die.rows))
    ∧ (opc w = 31 → fld w 41 40 = 0 → s.yields (.tBarrierJoin x.tile x.ctx x.op) x (s.die.qa x))
    ∧ (opc w = 31 → fld w 41 40 = 1 → s.yields (.tBarrierEnter x.tile x.ctx x.op) x (s.die.qa x))
    ∧ (opc w = 31 → fld w 41 40 = 2 → s.yields (.tBarrierLeave x.tile x.ctx x.op) x (s.die.qa x))

/-- What movement writes to the tile store and the Larder on clean beats: MOVQ's store form and SCATTER write exactly their beats (R206, R208, R211); SHIFTW
advances its window's head and writes the tap there (R215); RING brings a row of the event's key, or of a lane's, from its table (R219), RING_LATE the same
and counted in Free mode (R221); STOREK writes the row its event looked up (R222 to R224).
What the spec leaves open here is the model's own: log entries 41, 42, 58. -/
def Obligations.StoresWrite : Prop :=
  ∀ (s : State) (x : Fire), s.fires x → s.sound x →
    let w := x.w
    let raw := s.die.beat x.tile
    let qa := (s.die.qa x).map (fun b => b.data.toNat)
    let wrote (c : Instr) (first n : Nat) (v : Nat → Nat) : Prop :=
      s.completes c (fun t =>
        (∀ i, i < n → t.die.beat x.tile (first + i) = v i % 2 ^ 256) ∧ (∀ b, (b < first ∨ first + n ≤ b) → t.die.beat x.tile b = raw b)
        ∧ (∀ u, u ≠ x.tile → (t.die.tile u).store = (s.die.tile u).store)
        ∧ t.die.fires x.tile x.ctx x.op = s.die.fires x.tile x.ctx x.op + 1 ∧ t = { s with die := t.die } ∧ t.die.rows = s.die.rows)
    (opc w = 21 → fld w 38 37 = 1 → qa.length = fld w 41 39 + 1 →
      wrote (.tMovq x.tile x.ctx x.op) (fld w 36 27) (fld w 41 39 + 1) (fun i => qa.getD i 0))
    ∧ (opc w = 24 →
      let ew := ewOf w
      let ndb := fld w 35 31 + 1
      let ba := fld w 30 21
      let new := (List.range (qa.length * (256 / ew))).foldl (fun a i =>
        let m := tsHalf raw (32 * fld w 20 11 + 2 * i)
        if bit m 15 then a else setBits a (ew * bits m 0 13) ew (bits (joinBeats qa) (ew * i) ew)) (joinBeats ((span ba (ba + ndb)).map raw))
      wrote (.tScatter x.tile x.ctx x.op) ba ndb (fun i => bits new (256 * i) 256))
    ∧ (opc w = 25 →
      let win := fld w 41 39
      let h := (KMap.get 0 (s.die.ctx x.tile x.ctx).heads win + 1) % (fld w 28 23 + 1)
      wrote (.tShiftw x.tile x.ctx x.op) (fld w 38 29 + h) 1 (fun _ => qa.headD 0)
      ∧ s.completes (.tShiftw x.tile x.ctx x.op) (fun t => KMap.get 0 (t.die.ctx x.tile x.ctx).heads win = h
          ∧ ∀ q, t.die.queue x.tile x.ctx q = s.die.rest x q
              ++ (if q ∈ lqs (fld w 22 19) then [⟨BitVec.ofNat 256 (h + win * 256), s.die.slotIn x, false, true⟩] else [])))
    ∧ (opc w = 28 →
      let key := if bit w 38 then lane (qa.headD 0) (fld w 37 35) else (s.die.slotSt x (s.die.slotIn x)).ev.er.key
      let row := (s.die.lookup s.fused x.p (fld w 41 39) key).1.row
      let bs := outBeats (s.die.slotIn x) false ((List.range (fld w 34 32 + 1)).map (fun i => leNat (slice row (32 * (fld w 31 27 + i)) 32)))
      s.yields (.tRing x.tile x.ctx x.op) x bs
      ∧ (s.die.get R.DEV_TIMING_STATUS_MODE = 0 → s.yields (.tRingLate x.tile x.ctx x.op) x bs
        ∧ s.completes (.tRingLate x.tile x.ctx x.op) (fun t =>
            t.die.tally T.FAB_RING_LATE x.p = tallyAdd (s.die.tally T.FAB_RING_LATE x.p) 1)))
    ∧ (opc w = 29 →
      let e := (s.die.slotSt x (s.die.slotIn x)).ev
      let tb := fld w 41 39
      let L := s.die.larder x.p
      let words := match tableRec x.im tb with | some y => y.rowUnits | none => 0
      e.table = some tb → e.miss = false → s.die.image x.p = some x.im →
      (s.die.dirFind (s.die.places x.p tb e.er.key L.live L.liveSeed) tb e.er.key).map (fun y => y.2.ptr) = some e.rowPtr →
      (∀ a ∈ s.die.rowAt x.p e.rowPtr words, grantField (s.die.grant x.p) 8 4 ≤ a
        ∧ a < grantField (s.die.grant x.p) 8 4 + grantField (s.die.grant x.p) 12 4) →
      s.completes (.tStorek x.tile x.ctx x.op) (fun t =>
        t.die.rows = ((s.die.rowAt x.p e.rowPtr words).zip (chunk 8 words (padTo (8 * words) ((leBytes (32 * (s.die.qa x).length) (joinBeats qa)).take
          (8 * words))))).foldl (fun m y => KMap.set 0 m y.1 (BitVec.ofNat 64 (leNat y.2))) s.die.rows
        ∧ t.die.dir = s.die.dir ∧ t.die.fires x.tile x.ctx x.op = s.die.fires x.tile x.ctx x.op + 1 ∧ t = { s with die := t.die }))

/-- The control unit on clean beats: NOP fires and changes nothing else (R230); DIGEST folds its beats into its register and may pass them on (R227, R228);
STEP advances the step counter at every N-th firing (R229); HALT with a non-zero lane records the first halt and closes the entries (R231), and with zero
lets the event go on; EMIT sends its decision where its condition holds and nothing where it does not (R232, R233).
What the spec leaves open here is the model's own: log entries 39, 43, 110. -/
def Obligations.ControlUnit : Prop :=
  ∀ (s : State) (x : Fire), s.fires x → s.sound x →
    let w := x.w
    let e := x.e
    let g := s.die.engPas e x.p
    let v := match s.die.qa x with | b :: _ => b.data.toNat | [] => 0
    let slot := s.die.slotIn x
    let fired (t : State) : Prop := t.die.fires x.tile x.ctx x.op = s.die.fires x.tile x.ctx x.op + 1 ∧ t = { s with die := t.die } ∧ t.die.rows = s.die.rows
      ∧ t.die.dir = s.die.dir ∧ (t.die.tile x.tile).store = (s.die.tile x.tile).store
    let passes (t : State) (bs : List QBeat) : Prop :=
      ∀ q, t.die.queue x.tile x.ctx q = s.die.rest x q ++ (if q = opQd w then bs else [])
    (opc w = 0 → s.completes (.tNop x.tile x.ctx x.op) (fun t => fired t ∧ passes t []))
    ∧ (opc w = 33 → s.completes (.tDigest x.tile x.ctx x.op) (fun t => fired t ∧ passes t (if bit w 36 then s.die.qa x else [])
        ∧ (KMap.get {} (t.die.tile x.tile).digests (fld w 41 40)).d
            = (s.die.qa x).foldl (fun d b => mixBeat d b.data.toNat) (KMap.get {} (s.die.tile x.tile).digests (fld w 41 40)).d))
    ∧ (opc w = 34 → s.completes (.tStep x.tile x.ctx x.op) (fun t => fired t ∧ passes t (if bit w 25 then s.die.qa x else [])
        ∧ (t.die.engPas e x.p).step = (if (g.stepFires + 1) % (fld w 41 26 + 1) = 0 then (g.step + 1) % 2 ^ 64 else g.step)
        ∧ (t.die.engPas e x.p).stepFires = g.stepFires + 1))
    ∧ (opc w = 35 → lane v (fld w 41 39) = 0 → s.completes (.tHalt x.tile x.ctx x.op) (fun t => fired t ∧ passes t [] ∧ t.die.closed = s.die.closed))
    ∧ (opc w = 35 → lane v (fld w 41 39) ≠ 0 → x.p < 64 → s.die.on R.FAB_HALT_VALID x.p = false →
        s.completes (.tHalt x.tile x.ctx x.op) (fun t => fired t ∧ passes t []
          ∧ t.die.on R.FAB_HALT_VALID x.p = true ∧ t.die.get R.FAB_HALT_SLOT x.p = slot % 2 ^ R.FAB_HALT_SLOT.width
          ∧ t.die.get R.FAB_HALT_TILE x.p = x.tile % 2 ^ R.FAB_HALT_TILE.width
          ∧ (∀ q, q < 4 → s.die.ownsQuarter x.p e q = true → KMap.get false t.die.closed (e * 4 + q) = true)
          ∧ t.die.tally T.FAB_HALTS x.p = tallyAdd (s.die.tally T.FAB_HALTS x.p) 1))
    ∧ (opc w = 32 → (bit w 41 = false ∨ lane v (fld w 40 38) ≠ 0) → s.completes (.tEmit x.tile x.ctx x.op) (fun t => fired t
        ∧ passes t [⟨BitVec.ofNat 256 (v % 2 ^ 192 + emitDesc w * 2 ^ 192), slot, false, true⟩]
        ∧ t.die.tally T.FAB_DECISIONS x.p = tallyAdd (s.die.tally T.FAB_DECISIONS x.p) 1))
    ∧ (opc w = 32 → bit w 41 = true → lane v (fld w 40 38) = 0 → s.completes (.tEmit x.tile x.ctx x.op) (fun t => fired t ∧ passes t []))

/-- FEATURE_ASSEMBLY of the event the Larder has returned (R133, R148, R316, R352): a label of an updatable image goes to the update unit; under a shed
the event leaves, counted in SHED; else it joins its engine's entry with the packet the image's selections build; a member of a balance group whose next
slot is in flight waits.
What the spec leaves open here is the model's own: log entries 48, 54. -/
def Obligations.AssemblyRoutes : Prop :=
  ∀ (s : State) (p : Nat) (waits : List Nat) (v : Ev) (rest : List Ev) (im : Image), p < 64 → KMap.get [] s.die.looked p = v :: rest →
    s.die.image p = some im →
    (∀ u, im.upd = some u → isLabel u v.er.bytes = true → s.completes (.featureAssembly p waits) (fun t => t = { s with die := t.die }
        ∧ KMap.get [] t.die.looked p = rest ∧ t.die.entries = s.die.entries ∧ t.die.regs = s.die.regs ∧ t.die.tallies = s.die.tallies
        ∧ (t.die.updSt u.engine).labels = (s.die.updSt u.engine).labels
            ++ [⟨leNat (slice v.er.bytes u.loff 6), (List.range 4).map (fun i => leNat (slice v.er.bytes (u.toff + 4 * i) 4)), v.er.inFc16 / 16⟩]))
    ∧ ((∀ u, im.upd = some u → isLabel u v.er.bytes = false) → s.die.shedSet p = true → s.die.on R.FAB_REPLAY_ENABLE p = false →
        s.completes (.featureAssembly p waits) (fun t => t = { s with die := t.die } ∧ KMap.get [] t.die.looked p = rest
          ∧ t.die.entries = s.die.entries ∧ t.die.tally T.FAB_SHED p = tallyAdd (s.die.tally T.FAB_SHED p) 1
          ∧ t.die.tally T.FAB_TIMING_CHOICE p = tallyAdd (s.die.tally T.FAB_TIMING_CHOICE p) 1))
    ∧ ((∀ u, im.upd = some u → isLabel u v.er.bytes = false) → (s.die.shedSet p = false ∨ s.die.on R.FAB_REPLAY_ENABLE p = true) →
        let es := enginesOf im
        let ch := chooseMember (s.die.get R.FAB_BALANCE_POLICY p) v.er.key (s.die.pasture p).rotate es (s.die.memberWaits p es waits)
        let e := if im.shape = 1 then ch.1 else if im.shape = 2 then spanFirst im else es.headD 0
        s.completes (.featureAssembly p waits) (fun t => t = { s with die := t.die } ∧ KMap.get [] t.die.looked p = rest
          ∧ KMap.get [] t.die.entries (e * 64 + p) = KMap.get [] s.die.entries (e * 64 + p) ++ [{ v with packet := buildPacket im e v }]
          ∧ (∀ k, k ≠ e * 64 + p → KMap.get [] t.die.entries k = KMap.get [] s.die.entries k)
          ∧ (im.shape = 1 → ch.2 = true → t.die.tally T.FAB_BAL_DEVIATE p = tallyAdd (s.die.tally T.FAB_BAL_DEVIATE p) 1)
          ∧ (im.shape = 1 → s.die.get R.FAB_BALANCE_POLICY p = 1 → (t.die.pasture p).rotate = ((s.die.pasture p).rotate + 1) % 2 ^ 64)
          ∧ ({ s.die with looked := t.die.looked, entries := t.die.entries, pas := t.die.pas } : Die).report t.die))

/-- ENTRY_ADMIT of an event for which the entry is open, its slot is free, its scales and its update are ready and its queues have room (R124, R132,
R133, R245, R310, R345): the event takes the next slot of the rotation with its step, PAR, WB and FLAG, the entry digest takes its ID and source, and its
packet's beats enter the queues bound to the entry, the last for each queue with LAST. An event whose slot is still in flight waits, counted in SLOT_WAIT.
What the spec leaves open here is the model's own: log entries 54, 55, 135.
ENTRY_WAIT_LIMIT (R38, R359): outside replay the oldest event at the entry is dropped, counted in ENTRY_WAIT and in ENTRY_DROP; in a replay pasture it
waits on. -/
def Obligations.EntryAdmits : Prop :=
  (∀ (s : State) (e p stile3 : Nat) (waited : Bool) (v : Ev) (rest : List Ev) (im : Image) (ei : EngineImg), e < 8 → p < 64 →
     KMap.get [] s.die.entries (e * 64 + p) = v :: rest → s.die.image p = some im → engOf im e = some ei →
     let g := s.die.engPas e p
     let base := im.stepBase.toNat
     let step := match stepN ei with | some k => base + g.index / k | none => base
     let pk := s.die.entering e p ei v
     s.die.flipDue e p step = false → s.die.entryOpen e p = true →
     (g.next ∉ g.flight → (∀ k, stepN ei = some k → base + 2 ≤ step → step < g.commit) → s.die.updHolds e p step = false →
       s.die.packetRoom (2 ^ ei.fold) pk e = true → ((stepN ei).isSome = true ∨ (g.index + 1) % 65536 ≠ 0) →
       s.completes (.entryAdmit e p waited stile3) (fun t => t = { s with die := t.die }
         ∧ (let h := t.die.engPas e p
           h.next = (g.next + 1) % (256 * (s.die.quartersOf e p).length) ∧ h.index = g.index + 1 ∧ h.flight = g.flight ++ [g.next]
           ∧ (let o := KMap.get {} h.slots g.next
             o.ev = { v with packet := [] } ∧ o.step = step ∧ o.par = (match stepN ei with | some _ => step % 2 | none => 0) ∧ o.caps = []
             ∧ o.wb = (match im.upd with | some u => if u.engine = e then (s.die.updSt e).bank else 0 | none => 0)
             ∧ o.flagged = (match im.upd with | some u => u.engine == e && Nat.land (byteAt v.er.bytes u.fbyte).toNat u.fmask != 0 | none => false))
           ∧ h.ed = (match stepN ei with
               | some k => mix64 (if g.index % k = 0 then step else g.ed) (v.er.evid + v.er.source * 2 ^ 48)
               | none => mix64 (if g.index % 65536 = 0 then g.index / 65536 else g.ed) (v.er.evid + v.er.source * 2 ^ 48))
           ∧ ((stepN ei).isSome = true → KMap.get 0 h.eds step = h.ed))
         ∧ KMap.get [] t.die.entries (e * 64 + p) = rest
         ∧ (∀ tile c q, t.die.queue tile c q = s.die.queue tile c q
             ++ ((indexed pk).filter (fun y => e * 512 + y.2.1.tile % 512 == tile && y.2.1.ctx == c && y.2.1.iq == q)).map
               (fun y => ⟨y.2.2.1, g.next, y.2.2.2,
                 !((pk.drop (y.1 + 1)).any (fun z => z.1.tile == y.2.1.tile && z.1.ctx == y.2.1.ctx && z.1.iq == y.2.1.iq))⟩))
         ∧ ((waited || g.waiting || v.er.waited) = true → t.die.tally T.FAB_ENTRY_WAIT p = tallyAdd (s.die.tally T.FAB_ENTRY_WAIT p) 1)
         ∧ t.die.rows = s.die.rows ∧ t.die.dir = s.die.dir))
     ∧ (g.next ∈ g.flight → g.waitSlot = false →
       s.completes (.entryAdmit e p waited stile3) (fun t => t = { s with die := t.die } ∧ t.die.entries = s.die.entries ∧ t.die.tiles = s.die.tiles
         ∧ t.die.tally T.FAB_SLOT_WAIT p = tallyAdd (s.die.tally T.FAB_SLOT_WAIT p) 1)))
  ∧ (∀ (s : State) (e p : Nat) (v : Ev) (rest : List Ev), e < 8 → p < 64 → KMap.get [] s.die.entries (e * 64 + p) = v :: rest →
       (s.die.on R.FAB_REPLAY_ENABLE p = false → s.completes (.entryWaitLimit e p) (fun t => t = { s with die := t.die }
         ∧ KMap.get [] t.die.entries (e * 64 + p) = rest ∧ (∀ k, k ≠ e * 64 + p → KMap.get [] t.die.entries k = KMap.get [] s.die.entries k)
         ∧ t.die.tally T.FAB_ENTRY_WAIT p = tallyAdd (s.die.tally T.FAB_ENTRY_WAIT p) 1
         ∧ t.die.tally T.FAB_ENTRY_DROP p = tallyAdd (s.die.tally T.FAB_ENTRY_DROP p) 1 ∧ t.die.tiles = s.die.tiles ∧ t.die.rows = s.die.rows))
       ∧ (s.die.on R.FAB_REPLAY_ENABLE p = true → s.completes (.entryWaitLimit e p) (fun t => t = s)))

/-- OQ_BEAT_SEND of an output queue all of whose destinations lie in quarters of the pasture and have room, its express buses naming the tile (R109, R111,
R134): its oldest beat enters every one of them at once and, where the queue is bound to the exit, joins the engine's decisions.
DECISION_EXIT takes the oldest decision of the lowest-numbered pasture that has one at the exit (R134, R234, R236): outside replay, a clean one whose
action is to the host alone puts its message into the pasture's decision ring, and one whose action is a trigger alone on a granted pin that the kill gate
and the suppressions leave free drives its pin.
What the spec leaves open here is the model's own: log entries 46, 110. -/
def Obligations.OutputsLeave : Prop :=
  (∀ (s : State) (tile ctx oq : Nat) (x : Fire) (b : QBeat) (rest : List QBeat), tile < 4096 → tile % 32 < 24 → oq < 2 →
     s.die.fireOf tile ctx 0 = some x → s.die.queue tile ctx (8 + oq) = b :: rest →
     let dsts := x.cc.outBind.getD oq []
     let goals := dsts.flatMap (fun y => x.reach s.die oq y)
     dsts ≠ [] → (∀ y ∈ dsts, (y = .exit → tile % 32 = 23) ∧ (y ≠ .exit → x.reach s.die oq y ≠ [])) → x.mayWrite dsts = true →
     (∀ y ∈ goals, s.die.ownsQuarter x.p x.e (tileQ y.1) = true ∧ (s.die.queue y.1 y.2.1 y.2.2).length < 8 / x.F) →
     s.completes (.oqBeatSend tile ctx oq) (fun t =>
       (∀ u c q, t.die.queue u c q = (if u = tile ∧ c = ctx ∧ q = 8 + oq then rest else s.die.queue u c q)
         ++ List.replicate (goals.count (u, c, q)) b)
       ∧ (t.die.engPas x.e x.p).exits = (s.die.engPas x.e x.p).exits
           ++ (if .exit ∈ dsts then [⟨b.data, b.poison, b.slot, (KMap.get {} (s.die.engPas x.e x.p).slots b.slot).ev⟩] else [])
       ∧ t = { s with die := { s.die with tiles := t.die.tiles, eng := t.die.eng } }))
  ∧ (∀ (s : State) (e p stile3 : Nat) (im : Image) (v : Decision) (rest : List Decision), e < 8 → p < 64 →
       (∀ q, q < p → (s.die.engPas e q).exits = []) → s.die.image p = some im → (im.shape ≠ 2 ∨ spanFirst im ≠ e) →
       (s.die.engPas e p).exits = v :: rest → v.ev.er.pasture = p → v.poison = false → s.die.on R.FAB_REPLAY_ENABLE p = false →
       let desc := bits v.beat.toNat 192 64
       (bits desc 0 3 = 4 → s.die.on R.PAS_MSG_CTL_ENABLE p = true →
         (s.die.get R.PAS_MSG_HEAD_VALUE p + 2 ^ 32 - s.die.get R.PAS_MSG_TAIL_VALUE p) % 2 ^ 32 < 2 ^ s.die.get R.PAS_MSG_CTL_LOG2SIZE p →
         s.completes (.decisionExit e stile3) (fun t => t = { s with die := t.die } ∧ (t.die.engPas e p).exits = rest
           ∧ t.die.get R.PAS_MSG_HEAD_VALUE p = (s.die.get R.PAS_MSG_HEAD_VALUE p + 1) % 2 ^ 32 ∧ t.die.pins = s.die.pins ∧ t.die.launch = s.die.launch))
       ∧ (bits desc 0 3 = 1 → bit (grantField (s.die.grant p) 28 2) (bits desc 3 4) = true → s.gate p = 0 →
         (KMap.get {} s.die.pins (bits desc 3 4)).high = false →
         s.completes (.decisionExit e stile3) (fun t => (t.die.engPas e p).exits = rest
           ∧ (KMap.get {} t.die.pins (bits desc 3 4)).high = true
           ∧ (KMap.get {} t.die.pins (bits desc 3 4)).endCc = s.die.cc + bits desc 7 8
           ∧ (KMap.get {} t.die.pins (bits desc 3 4)).pasture = p ∧ t.die.emits.getLast? = some (.trig (bits desc 3 4) true)
           ∧ t.kill = s.kill ∧ t.die.launch = s.die.launch)))

/-- A write of ENG_CONTROL that the device performs, outside a muster (R142 to R144, R152, R623): QUIESCE closes the entries of every quarter of each
pasture selected; LOAD is refused while a selected quarter is loading or running or has no image, and else begins a load of SCOPE into each; RESUME opens
the entry of every selected quarter that is quiesced and holds an image.
Two writes that the device performs: STAGE of ENG_RETIRE (R139, R152) is refused where the row's spare is in use or the column is above 23, and else
stages the retirement; FAB_BALANCE (R148, R151, R153), its page unlocked, takes a policy that the pasture's image allows, keeps its policy under the reserved
value, and else falls back to 0 with POLICY_REFUSED set, for any value where the pasture has no balance group.
What the spec leaves open here is the model's own: log entries 47, 104. -/
def Obligations.EngineWritten : Prop :=
  (∀ (s : State) (src : Source) (e : Nat) (w : Word), e < 8 → s.admits src .ENG e 0x010 → (s.die.sheep e).muster = false →
     let chosen := bitsOf (bits w.toNat 0 4) 4
     let sel := chosen.filter (fun q => !(KMap.get false s.die.stopped (e * 4 + q)))
     let scope := if bits w.toNat 4 2 ≤ 2 then bits w.toNat 4 2 else s.die.get R.ENG_CONTROL_SCOPE e
     let loaded (q : Nat) : Bool := s.die.qstate e q != 0
       && (match (s.die.quarterOwner e q).bind s.die.image with | some im => (engOf im e).isSome | none => false)
     (bit w.toNat 8 = true → s.completes (.engQuiesce src e w) (fun t => t = { s with die := t.die }
         ∧ (∀ q p r, q ∈ chosen → s.die.quarterOwner e q = some p → r < 4 → s.die.ownsQuarter p e r = true → KMap.get false t.die.closed (e * 4 + r) = true)
         ∧ t.die.tiles = s.die.tiles ∧ t.die.eng = s.die.eng ∧ t.die.loads = s.die.loads ∧ ∀ q, t.die.qstate e q = s.die.qstate e q))
     ∧ (bit w.toNat 8 = false → bit w.toNat 9 = true →
         ((∃ q ∈ sel, s.die.qstate e q = 1 ∨ s.die.qstate e q = 2) → s.completes (.engLoad src e w) (fun t => t = { s with die := t.die }
             ∧ t.die.get R.ENG_STATUS_LOAD_RESULT e = 1 ∧ t.die.loads = s.die.loads ∧ t.die.tiles = s.die.tiles))
         ∧ ((∀ q ∈ sel, s.die.qstate e q ≠ 1 ∧ s.die.qstate e q ≠ 2) → (∃ q ∈ sel, loaded q = false) →
             s.completes (.engLoad src e w) (fun t => t = { s with die := t.die }
               ∧ t.die.get R.ENG_STATUS_LOAD_RESULT e = 2 ∧ t.die.loads = s.die.loads ∧ t.die.tiles = s.die.tiles))
         ∧ ((∀ q ∈ sel, s.die.qstate e q ≠ 1 ∧ s.die.qstate e q ≠ 2 ∧ loaded q = true) →
             s.completes (.engLoad src e w) (fun t => t = { s with die := t.die } ∧ t.die.tiles = s.die.tiles
               ∧ (∀ q ∈ sel, t.die.qstate e q = 1 ∧ KMap.get (0, 0, 0) t.die.loads (e * 4 + q) = (1, scope, 0))
               ∧ (∀ q, q < 4 → q ∉ sel → t.die.qstate e q = s.die.qstate e q))))
     ∧ (bit w.toNat 8 = false → bit w.toNat 9 = false → bit w.toNat 10 = true → s.completes (.engResume src e w) (fun t => t = { s with die := t.die }
         ∧ (∀ q ∈ sel, s.die.qstate e q = 3 → loaded q = true → t.die.qstate e q = 2 ∧ KMap.get false t.die.closed (e * 4 + q) = false)
         ∧ (∀ q, q < 4 → q ∉ sel → t.die.qstate e q = s.die.qstate e q))))
  ∧ (∀ (s : State) (src : Source) (i : Nat) (w : Word),
       (i < 8 → s.admits src .ENG i 0x014 → bit w.toNat 31 = true →
         let row := bits w.toNat 8 4
         let col := bits w.toNat 0 5
         s.completes (.retireStage src i w) (fun t => t = { s with die := { s.die with regs := t.die.regs, staged := t.die.staged } }
           ∧ (s.die.leftOut s.fused i row < 24 → t.die.get R.ENG_STATUS_RETIRE_RESULT i = 1 ∧ t.die.staged = s.die.staged)
           ∧ (s.die.leftOut s.fused i row ≥ 24 → 23 < col → t.die.get R.ENG_STATUS_RETIRE_RESULT i = 2 ∧ t.die.staged = s.die.staged)
           ∧ (s.die.leftOut s.fused i row ≥ 24 → col ≤ 23 → t.die.get R.ENG_STATUS_RETIRE_RESULT i = 0 ∧ (i, row, col) ∈ t.die.staged
               ∧ ∀ x, x ∈ s.die.staged → (x.1 ≠ i ∨ x.2.1 ≠ row) → x ∈ t.die.staged)))
       ∧ (i < 64 → s.admits src .FAB i 0x010 → s.die.on (pageLock (blockAddr .FAB i 0)) = false →
         let v := w.toNat % 4
         let allowed : Prop := ∃ im, s.die.image i = some im ∧ im.shape = 1 ∧ (v = 0 ∨ v = 3 ∨ im.upd = none)
         s.completes (.policyWrite src i w) (fun t => t = { s with die := { s.die with regs := t.die.regs } }
           ∧ (v = 3 → allowed → t.die.regs = s.die.regs) ∧ (v ≠ 3 → allowed → t.die.get R.FAB_BALANCE_POLICY i = v
               ∧ t.die.get R.FAB_STATUS_POLICY_REFUSED i = s.die.get R.FAB_STATUS_POLICY_REFUSED i)
           ∧ (¬ allowed → t.die.get R.FAB_BALANCE_POLICY i = 0 ∧ t.die.on R.FAB_STATUS_POLICY_REFUSED i = true))))

/-- The end of a quiesce, of a load, and recovery (R122, R142 to R146, R203, R530): QUIESCE_DONE leaves the quarter quiesced; LOAD_DONE, its turn come, ends
the loads that ENG_CONTROL began, each quarter quiesced if its pasture has an image there and empty if not, counted in LOADS, and LOAD_RESULT 3 of a quarter left
empty stands; STALL counts itself and the events it drops, BAD_OPCODE counts itself, and both put the engine under observation; a reload that cannot be made
leaves the quarter empty with LOAD_RESULT 3.
What the spec leaves open here is the model's own: log entries 45, 136, 141. -/
def Obligations.EngineRecovers : Prop :=
  ∀ (s : State) (e q p : Nat), e < 8 → q < 4 → s.die.quarterOwner e q = some p →
    (s.die.qstate e q = 2 → KMap.get false s.die.closed (e * 4 + q) = true → (s.die.engPas e p).flight = [] → (s.die.pasture p).loading = none →
      s.completes (.quiesceDone e q) (fun t => t = { s with die := t.die } ∧ t.die.qstate e q = 3 ∧ t.die.tiles = s.die.tiles ∧ t.die.eng = s.die.eng
        ∧ (∀ r, r < 4 → r ≠ q → t.die.qstate e r = s.die.qstate e r) ∧ t.die.tallies = s.die.tallies))
    ∧ ((KMap.get (0, 0, 0) s.die.loads (e * 4 + q)).1 = 1 →
      ((KMap.get (0, 0, 0) s.die.loads (e * 4 + q)).2.2 = 0 ∨ (KMap.get (0, 0, 0) s.die.loads (e * 4 + q)).2.2 = 4) → s.die.loadTurn e = true →
      s.completes (.loadDone e) (fun t => t = { s with die := t.die } ∧ KMap.get (0, 0, 0) t.die.loads (e * 4 + q) = (0, 0, 0)
        ∧ t.die.qstate e q = (match (s.die.image p).bind (fun im => engOf im e) with | some _ => 3 | none => 0)
        ∧ ((∀ r, r < 4 → (KMap.get (0, 0, 0) s.die.loads (e * 4 + r)).2.2 ≠ 4) → t.die.get R.ENG_STATUS_LOAD_RESULT e = 0)
        ∧ ((KMap.get (0, 0, 0) s.die.loads (e * 4 + q)).2.2 = 4 → t.die.get R.ENG_STATUS_LOAD_RESULT e = 3)
        ∧ t.die.tally T.ENG_LOADS e = tallyAdd (s.die.tally T.ENG_LOADS e) 1
        ∧ t.die.rows = s.die.rows ∧ t.die.dir = s.die.dir))
    ∧ (∀ im ei lost, s.die.qstate e q = 2 → (s.die.engPas e p).flight ≠ [] → s.die.image p = some im → engOf im e = some ei →
      s.completes (.stall e ⟨q, lost⟩) (fun t => t = { s with die := t.die } ∧ (t.die.engPas e p).flight = [] ∧ (t.die.engPas e p).exits = []
        ∧ t.die.tally T.ENG_STALL e = tallyAdd (s.die.tally T.ENG_STALL e) 1
        ∧ t.die.tally T.ENG_STALL_DROP e = tallyAdd (s.die.tally T.ENG_STALL_DROP e) (s.die.engPas e p).flight.length
        ∧ (lost = true → t.die.qstate e q = 0 ∧ t.die.get R.ENG_STATUS_LOAD_RESULT e = 3)
        ∧ (lost = false → t.die.tally T.ENG_LOADS e = tallyAdd (s.die.tally T.ENG_LOADS e) 1)
        ∧ t.die.on R.SHD_STATUS_OBSERVED e = true ∧ t.die.rows = s.die.rows ∧ t.die.dir = s.die.dir))
    ∧ (∀ tile ctx op lost, tile < 4096 → tile % 32 < 24 → ctx < 8 → op < 32 → tileEng tile = e → tileQ tile = q → 2 ≤ s.die.qstate e q →
      s.completes (.badOpcode tile ctx ⟨op, lost⟩) (fun t => t = { s with die := t.die }
        ∧ t.die.tally T.ENG_BAD_OPCODE e = tallyAdd (s.die.tally T.ENG_BAD_OPCODE e) 1 ∧ (t.die.engPas e p).step = (s.die.engPas e p).step
        ∧ t.die.on R.SHD_STATUS_OBSERVED e = true ∧ t.die.rows = s.die.rows ∧ t.die.dir = s.die.dir))

/-- Calibration (R268 to R270), by writes of FAB_CAL that the device performs and by the events of its phases: START with tensors all of which can be
calibrated now begins the observe phase, and with none, or with one that cannot, is refused with RESULT 6; ABORT ends a calibration with RESULT 7; the observe phase ends in the verify phase once its events have
come and have retired; the verify phase ends with the lowest-numbered tensor's refusal, none of the proposals taken, or with the new exponents static in every engine.
The commit point and the expert write of a scale (R248, R249, R272): STEP_COMMIT of step k, once step k − 2 has been admitted whole and has retired, moves
the engine to the commit point of step k + 1; APPLY, its tensor in no calibration, in the image and its group in range, with zero point 0, makes the exponent
static in every engine of the image with APPLY_RESULT 1.
What the spec leaves open here is the model's own: log entries 49, 112. -/
def Obligations.ScalesCalibrate : Prop :=
  (∀ (s : State) (src : Source) (p : Nat) (w : Word) (im : Image), p < 64 → s.die.image p = some im →
     let c := (s.die.pasture p).cal
     let id := bits w.toNat 0 16
     let retired (ph : Nat) : Prop := ∀ e, e < 8 → ∀ sl ∈ (s.die.engPas e p).flight, (KMap.get {} (s.die.engPas e p).slots sl).cal ≠ ph
     let wants (t : Tensor) : Prop := s.die.calibratable p im t = true
     let named := if id = 0xFFFF then im.tensors.filter (fun t => t.calib) else (tensorOf im id).toList
     let keeps (t : State) : Prop := t = { s with die := t.die } ∧ t.die.tiles = s.die.tiles ∧ t.die.rows = s.die.rows ∧ t.die.dir = s.die.dir
     (s.admits src .FAB p 0x020 → bit w.toNat 24 = true → s.die.get R.FAB_CAL_STATUS_PHASE p ≠ 3 →
       (named ≠ [] → (∀ x ∈ named, wants x) →
         s.completes (.calStart src p w) (fun t => keeps t ∧ t.die.get R.FAB_CAL_STATUS_PHASE p = 1
           ∧ (t.die.pasture p).cal.tensors = named.map (fun x => x.id) ∧ (t.die.pasture p).cal.target = id ∧ (t.die.pasture p).cal.events = 0))
       ∧ (∀ bad, (named = [] ∧ bad = id) ∨ (∃ x ∈ named, ¬ wants x ∧ bad = x.id ∧ ∀ y ∈ named, ¬ wants y → x.id ≤ y.id) →
         s.completes (.calStart src p w) (fun t => keeps t ∧ t.die.get R.FAB_CAL_STATUS_PHASE p = 0 ∧ t.die.get R.FAB_CAL_STATUS_RESULT p = 6
           ∧ t.die.get R.FAB_CAL_STATUS_TENSOR p = bad % 2 ^ 16 ∧ t.die.tally T.FAB_CAL_REFUSE p = tallyAdd (s.die.tally T.FAB_CAL_REFUSE p) 1)))
     ∧ (s.admits src .FAB p 0x020 → bit w.toNat 24 = false → bit w.toNat 25 = true → s.die.get R.FAB_CAL_STATUS_PHASE p ≠ 0 →
       s.completes (.calAbort src p w) (fun t => keeps t ∧ t.die.get R.FAB_CAL_STATUS_PHASE p = 0 ∧ t.die.get R.FAB_CAL_STATUS_RESULT p = 7
         ∧ t.die.tallies = s.die.tallies))
     ∧ (s.die.get R.FAB_CAL_STATUS_PHASE p = 1 → 2 ^ c.log2ev ≤ c.events → retired 1 →
       s.completes (.calObserveEnd p) (fun t => keeps t ∧ t.die.get R.FAB_CAL_STATUS_PHASE p = 2 ∧ (t.die.pasture p).cal.events = 0
         ∧ (t.die.pasture p).cal.tensors = c.tensors ∧ t.die.eng = s.die.eng ∧ t.die.tallies = s.die.tallies))
     ∧ (s.die.get R.FAB_CAL_STATUS_PHASE p = 2 → 2 ^ c.log2ev ≤ c.events → retired 2 →
       ((∀ i ∈ c.tensors, (s.die.calCheck p im i).1 = 0) → s.completes (.calVerifyEnd p) (fun t => keeps t
         ∧ t.die.get R.FAB_CAL_STATUS_PHASE p = 3 ∧ t.die.get R.FAB_CAL_STATUS_TENSOR p = c.target % 2 ^ 16 ∧ t.die.tallies = s.die.tallies
         ∧ (∀ i e x es, i ∈ c.tensors → e ∈ enginesOf im → tensorOf im i = some x → KMap.get none c.proposal i = some es →
             ((t.die.engPas e p).staticOf x).1 = es)))
       ∧ (∀ i, i ∈ c.tensors → (s.die.calCheck p im i).1 ≠ 0 → (∀ j ∈ c.tensors, j < i → (s.die.calCheck p im j).1 = 0) →
         s.completes (.calVerifyEnd p) (fun t => keeps t ∧ t.die.get R.FAB_CAL_STATUS_PHASE p = 0
           ∧ t.die.get R.FAB_CAL_STATUS_RESULT p = (s.die.calCheck p im i).1 ∧ t.die.get R.FAB_CAL_STATUS_TENSOR p = i % 2 ^ 16 ∧ t.die.eng = s.die.eng
           ∧ t.die.tally T.FAB_CAL_REFUSE p = tallyAdd (s.die.tally T.FAB_CAL_REFUSE p) 1))))
  ∧ (∀ (s : State) (p : Nat) (im : Image), p < 64 → s.die.image p = some im →
       (∀ e ei n, e < 8 → engOf im e = some ei → stepN ei = some n →
         let g := s.die.engPas e p
         (g.commit - 1 - im.stepBase.toNat) * n ≤ g.index → (∀ sl ∈ g.flight, g.commit ≤ (KMap.get {} g.slots sl).step + 1) →
         s.die.on R.FAB_REPLAY_ENABLE p = false →
         s.completes (.stepCommit e p) (fun t => t = { s with die := t.die } ∧ (t.die.engPas e p).commit = g.commit + 1
           ∧ (t.die.engPas e p).flight = g.flight ∧ (t.die.engPas e p).index = g.index ∧ t.die.rows = s.die.rows ∧ t.die.dir = s.die.dir))
       ∧ (∀ src (w : Word) x, s.admits src .FAB p 0x404 → bit w.toNat 31 = true → tensorOf im (s.die.get R.FAB_SCALE_SEL_TENSOR p) = some x →
         (s.die.get R.FAB_CAL_STATUS_PHASE p = 0 ∨ s.die.get R.FAB_SCALE_SEL_TENSOR p ∉ (s.die.pasture p).cal.tensors) →
         (s.die.on R.FAB_SCALE_SEL_WHOLE p = true ∨ s.die.get R.FAB_SCALE_SEL_GROUP p < x.exps.length) → bits w.toNat 16 8 = 0 →
         s.completes (.scaleApply src p w) (fun t => t = { s with die := t.die } ∧ t.die.get R.FAB_SCALE_NOW_APPLY_RESULT p = 1
           ∧ (∀ e, e ∈ enginesOf im → (t.die.engPas e p).staticOf x
               = ((if s.die.on R.FAB_SCALE_SEL_WHOLE p then ((s.die.engPas e p).staticOf x).1.map (fun _ => sext (bits w.toNat 0 16) 16)
                   else replaceAt ((s.die.engPas e p).staticOf x).1 (s.die.get R.FAB_SCALE_SEL_GROUP p) (sext (bits w.toNat 0 16) 16)), 0))
           ∧ t.die.tiles = s.die.tiles ∧ t.die.tallies = s.die.tallies)))

/-- An admission (R295 to R299, R303, R306): ADMIT, the pasture not busy, begins the checks, and is ignored while it is busy; an image that cannot be read or
that a check fails is refused with its code, and the pasture serves as before; one that passes waits for its loads, beside the old image in a replacement; once
its loads have their turn and are done, and no engine of it is in a muster, it serves with every quarter running and its entry open. While the timing or the
power profile changes the checks wait.
A withdrawal (R301): WITHDRAW of an admitted image, the pasture not busy, removes its steering entries and empties its feed queues; once its last slot has
retired its queued launches go, those of mode 0 and those already committed apart; once its launch queues are empty the pasture has no image, and what the
Larder holds stays.
What the spec leaves open here is the model's own: log entries 50, 51, 111, 118, 125, 141. -/
def Obligations.ImagesComeAndGo : Prop :=
  (∀ (s : State) (p : Nat), p < 64 →
     let q := s.die.pasture p
     (∀ src (w : Word), s.admits src .PAS p 0x01C → bit w.toNat 0 = true →
       (s.die.on R.PAS_ADMIT_STATUS_BUSY p = false → s.completes (.admitImage src p w) (fun t => t = { s with die := t.die }
         ∧ t.die.get R.PAS_ADMIT_STATUS_STATE p = 1 ∧ t.die.on R.PAS_ADMIT_STATUS_BUSY p = true ∧ (t.die.pasture p).reading = true
         ∧ (t.die.pasture p).replace = bit w.toNat 2 ∧ (t.die.pasture p).image = q.image ∧ t.die.tiles = s.die.tiles ∧ t.die.rows = s.die.rows))
       ∧ (s.die.on R.PAS_ADMIT_STATUS_BUSY p = true → s.completes (.admitImage src p w) (fun t =>
         t = { s with die := { s.die with regs := t.die.regs } } ∧ t.die.get R.PAS_ADMIT_STATUS_STATE p = s.die.get R.PAS_ADMIT_STATUS_STATE p)))
     ∧ (q.reading = true →
         let refused (c : Instr) (code : Nat) : Prop := s.completes c (fun t => t = { s with die := t.die }
           ∧ t.die.get R.PAS_ADMIT_STATUS_CODE p = code % 2 ^ 16 ∧ t.die.on R.PAS_ADMIT_STATUS_BUSY p = false
           ∧ t.die.tally T.PAS_REFUSALS p = tallyAdd (s.die.tally T.PAS_REFUSALS p) 1 ∧ (t.die.pasture p).image = q.image
           ∧ (t.die.pasture p).adm = q.adm ∧ t.die.tiles = s.die.tiles ∧ t.die.rows = s.die.rows ∧ t.die.steer = s.die.steer)
         refused (.admissionChecksDone p .failed) (if 2 ^ 27 < s.die.get R.PAS_IMAGE_LEN_LENGTH p then 0x0102 else 0x0103)
         ∧ (∀ y, s.die.clocksChanging = true → s.completes (.admissionChecksDone p (.image y)) (fun t =>
             t = { s with die := { s.die with regs := t.die.regs } } ∧ t.die.get R.PAS_ADMIT_STATUS_STATE p = 2))
         ∧ (∀ y, s.die.clocksChanging = false →
           let im := s.die.imageRead p y
           let verdict := AdmCtx.verdict ⟨s.fused, s.die, p, im, if q.replace then q.image else none⟩
           (∀ code place, verdict = some (code, place) → refused (.admissionChecksDone p (.image y)) code)
           ∧ (verdict = none → s.completes (.admissionChecksDone p (.image y)) (fun t => t = { s with die := t.die }
               ∧ t.die.get R.PAS_ADMIT_STATUS_STATE p = 3 ∧ (t.die.pasture p).reading = false
               ∧ (match q.image with
                 | none => (t.die.pasture p).image = some im ∧ (t.die.pasture p).adm = false
                     ∧ ∀ y ∈ s.die.imageQuarters p im, t.die.qstate y.1 y.2 = 1
                 | some old => (t.die.pasture p).image = some old ∧ (t.die.pasture p).loading = some im)))))
     ∧ (∀ im, q.going = true → (q.loading = some im ∨ (q.loading = none ∧ q.image = some im ∧ q.adm = false)) →
         (∀ e ∈ enginesOf im, (s.die.sheep e).muster = false) → s.die.loadTurn (8 + p) = true →
         s.completes (.admissionLoadDone p) (fun t => t = { s with die := t.die } ∧ (t.die.pasture p).image = some im ∧ (t.die.pasture p).adm = true
           ∧ (t.die.pasture p).loading = none ∧ t.die.get R.PAS_ADMIT_STATUS_STATE p = 4 ∧ t.die.on R.PAS_ADMIT_STATUS_BUSY p = false
           ∧ t.die.get R.PAS_ADMIT_STATUS_CODE p = 0 ∧ t.die.get R.PAS_IMAGE_ID_IMAGE_ID p = im.imageId % 2 ^ 32
           ∧ t.die.tally T.PAS_ADMITS p = tallyAdd (s.die.tally T.PAS_ADMITS p) 1
           ∧ ∀ y ∈ s.die.imageQuarters p im, t.die.qstate y.1 y.2 = 2 ∧ KMap.get false t.die.closed (y.1 * 4 + y.2) = false)))
  ∧ (∀ (s : State) (p : Nat), p < 64 →
       (∀ src (w : Word), s.admits src .PAS p 0x01C → bit w.toNat 0 = false → bit w.toNat 1 = true → s.die.on R.PAS_ADMIT_STATUS_BUSY p = false →
         (s.die.admitted p = true → s.completes (.withdraw src p w) (fun t => t = { s with die := t.die } ∧ t.die.get R.PAS_ADMIT_STATUS_STATE p = 5
           ∧ t.die.on R.PAS_ADMIT_STATUS_BUSY p = true ∧ (t.die.pasture p).leaving = 1 ∧ (∀ k ent, KMap.get none t.die.steer k = some ent → ent.pasture ≠ p)
           ∧ (∀ k, k % 64 = p → KMap.get [] t.die.feeds k = []) ∧ t.die.rows = s.die.rows ∧ t.die.dir = s.die.dir ∧ t.die.tiles = s.die.tiles))
         ∧ (s.die.admitted p = false → s.completes (.withdraw src p w) (fun t =>
             t = { s with die := { s.die with regs := t.die.regs } } ∧ t.die.get R.PAS_ADMIT_STATUS_CODE p = 0)))
       ∧ ((s.die.pasture p).leaving = 1 → s.die.inFlight p = 0 → s.completes (.withdrawSlotsRetired p) (fun t => (t.die.pasture p).leaving = 2
           ∧ (∀ k e, e ∈ KMap.get [] t.die.launch k → e.pasture = p → e.mode = 0
               ∨ (s.die.onLine k = true ∧ (KMap.get [] s.die.launch k).head? = some e)) ∧ t.die.rows = s.die.rows ∧ t.die.tiles = s.die.tiles
           ∧ t = { s with die := t.die, cel := { s.cel with reserved := t.cel.reserved } }))
       ∧ ((s.die.pasture p).leaving = 2 → s.die.launchIdle p = true → s.completes (.withdrawQueuesEmpty p) (fun t => t = { s with die := t.die }
           ∧ (t.die.pasture p).image = none ∧ (t.die.pasture p).adm = false ∧ t.die.get R.PAS_ADMIT_STATUS_STATE p = 0
           ∧ t.die.on R.PAS_ADMIT_STATUS_BUSY p = false ∧ t.die.get R.PAS_ADMIT_STATUS_CODE p = 0 ∧ t.die.get R.PAS_IMAGE_ID_IMAGE_ID p = 0
           ∧ t.die.rows = s.die.rows ∧ t.die.dir = s.die.dir ∧ t.die.lar = s.die.lar)))

/-- Labels and batches (R317 to R319, R324): the oldest label joins the oldest unmatched record of its event within the window, and counts as an orphan
where no record bears its event; a record whose window has passed unmatched expires; a batch closes with the event IDs of its step ascending, or is skipped
under PAUSE.
What the spec leaves open here is the model's own: log entries 54, 56. -/
def Obligations.BatchesForm : Prop :=
  ∀ (s : State) (e : Nat) (x : UpdCtx), e < 8 → s.die.updCtx e = some x →
    let u := s.die.updSt e
    let only (t : State) : Prop := t = { s with die := t.die } ∧ t.die.tiles = s.die.tiles ∧ t.die.eng = s.die.eng ∧ t.die.rows = s.die.rows
    (∀ l rest, u.labels = l :: rest →
      (∀ r, (u.ring.filter (fun c => c.evid == l.evid)).find? (fun c => c.label.isNone) = some r → 0 ≤ sdiff 64 l.fc r.fc →
        (sdiff 64 l.fc r.fc ≤ (x.u.w * 1000 : Nat) ∨ s.die.on R.FAB_REPLAY_ENABLE x.p = true) → u.openFrom ≤ r.step →
        (u.matched r.step).length < x.u.maxb → s.completes (.labelMatch e) (fun t => only t ∧ (t.die.updSt e).labels = rest
          ∧ (t.die.updSt e).ring = u.ring.map (fun c => if c.evid = l.evid ∧ c.label = none then { c with label := some l.lanes } else c)
          ∧ t.die.tallies = s.die.tallies))
      ∧ ((∀ c ∈ u.ring, c.evid ≠ l.evid) → s.completes (.labelMatch e) (fun t => only t ∧ (t.die.updSt e).labels = rest
          ∧ (t.die.updSt e).ring = u.ring ∧ t.die.tally T.UPD_LABEL_ORPHAN e = tallyAdd (s.die.tally T.UPD_LABEL_ORPHAN e) 1)))
    ∧ (∀ r, u.ring.find? (fun c => c.label.isNone && decide (((x.u.w * 1000 : Nat) : Int) < sdiff 64 s.die.fc c.fc)) = some r →
        s.completes (.capExpire e) (fun t => only t ∧ (t.die.updSt e).ring = u.ring.erase r
          ∧ t.die.tally T.UPD_CAP_EXPIRE e = tallyAdd (s.die.tally T.UPD_CAP_EXPIRE e) 1))
    ∧ (s.die.on R.FAB_REPLAY_ENABLE x.p = false → u.openFrom + 1 + x.u.lag ≤ (s.die.engPas e x.p).step →
        let ids := (u.matched u.openFrom).map (fun r => r.evid)
        (s.die.on R.UPD_CONTROL_PAUSE e = false → s.die.get R.UPD_STATUS_STATE e ≠ 3 → s.completes (.batchClose e) (fun t => only t
          ∧ (t.die.updSt e).openFrom = u.openFrom + 1 ∧ (∃ l, l.Perm ids ∧ l.Pairwise (· ≤ ·) ∧ (t.die.updSt e).queue = u.queue ++ [(u.openFrom, l)])
          ∧ (t.die.updSt e).ring = u.ring ∧ t.die.tallies = s.die.tallies))
        ∧ (s.die.on R.UPD_CONTROL_PAUSE e = true → s.completes (.batchClose e) (fun t => only t
          ∧ (t.die.updSt e).openFrom = u.openFrom + 1 ∧ (t.die.updSt e).queue = u.queue
          ∧ (t.die.updSt e).ring = u.ring.filter (fun r => !(r.label.isSome && r.step == u.openFrom))
          ∧ t.die.tally T.UPD_UPD_SKIPPED e = tallyAdd (s.die.tally T.UPD_UPD_SKIPPED e) 1)))

/-- The phases of an update (R311, R320, R353): UPDATE_BEGIN takes the oldest closed batch with cleared sums; REDUCE_DONE, its sums complete and no word in
error, begins the optimise phase; SWAP_PHASE_BEGIN opens the swap phase where the last update has flipped and no event in flight reads the other bank;
UPDATE_FLIP exchanges the banks, gives the flip step and the new weight digest, and counts in UPDATES.
What the spec leaves open here is the model's own: log entries 54, 56.
The export of the masters (R339): a write of UPD_CONTROL with EXPORT that the device performs begins a copy where PAUSE stands, no update runs and no
copy does, and else has RESULT 2; the copy puts the masters into host memory in UPDATE record order, two bytes each, and a failed one has RESULT 3. -/
def Obligations.UpdatesAdvance : Prop :=
  (∀ (s : State) (e : Nat) (x : UpdCtx), e < 8 → s.die.updCtx e = some x →
     let u := s.die.updSt e
     (∀ k ids rest, u.queue = (k, ids) :: rest → u.run = none → s.die.get R.UPD_STATUS_STATE e ≠ 3 →
       s.completes (.updateBegin e) (fun t => t = { s with die := t.die } ∧ (t.die.updSt e).queue = rest ∧ (t.die.updSt e).sums = []
         ∧ (∃ r, (t.die.updSt e).run = some r ∧ r.step = k ∧ r.pairs = ids.length ∧ r.digest = ids.foldl mix64 k ∧ r.flip = k + x.u.delay
             ∧ r.committed = !x.u.flock)
         ∧ t.die.get R.UPD_STATUS_PHASE e ∈ [1, 2, 3] ∧ t.die.get R.UPD_BATCH_PAIRS e = ids.length % 2 ^ 17 ∧ (t.die.updSt e).bank = u.bank
         ∧ t.die.rows = s.die.rows ∧ t.die.dir = s.die.dir))
     ∧ (∀ r, u.run = some r → s.die.get R.UPD_STATUS_PHASE e = 3 → r.committed = true → (x.u.flock = false ∨ (List.range x.chunks).all r.chunks.contains) →
       s.die.ecc = [] → s.die.poison = [] →
       s.completes (.reduceDone e) (fun t => t = { s with die := t.die }
         ∧ t.die.get R.UPD_STATUS_PHASE e = (if x.tiles.all (fun y => (x.blocks y).isEmpty) then 5 else 4) ∧ (t.die.updSt e).run = some r
         ∧ (t.die.updSt e).masters = u.masters ∧ (t.die.updSt e).sums = u.sums ∧ t.die.tallies = s.die.tallies ∧ t.die.rows = s.die.rows))
     ∧ (∀ r, u.run = some r → s.die.get R.UPD_STATUS_PHASE e = 5 → r.swapping = false → u.pend = none →
       (∀ sl ∈ (s.die.engPas e x.p).flight, (KMap.get {} (s.die.engPas e x.p).slots sl).wb = u.bank) →
       s.completes (.swapPhaseBegin e) (fun t => t = { s with die := t.die } ∧ t.die.tiles = s.die.tiles ∧ t.die.tallies = s.die.tallies
         ∧ (if x.tiles.all (fun y => s.die.swapsDone x y) then (t.die.updSt e).run = none ∧ (∃ z, (t.die.updSt e).pend = some z ∧ z.flip = r.flip)
               ∧ t.die.get R.UPD_STATUS_PHASE e = 6
             else (t.die.updSt e).run = some { r with swapping := true } ∧ (t.die.updSt e).pend = none)))
     ∧ (∀ r n, u.pend = some r → stepN x.ei = some n → r.flip ≤ x.im.stepBase.toNat + (s.die.engPas e x.p).index / n →
       s.completes (.updateFlip e) (fun t => t = { s with die := t.die } ∧ (t.die.updSt e).pend = none ∧ (t.die.updSt e).bank = 1 - u.bank
         ∧ t.die.get R.UPD_STATUS_BANK e = (1 - u.bank) % 2 ∧ t.die.pair64 R.UPD_FLIP_STEP_LO R.UPD_FLIP_STEP_HI e = r.flip % 2 ^ 64
         ∧ t.die.pair64 R.UPD_WDIGEST_LO R.UPD_WDIGEST_HI e = r.wd % 2 ^ 64 ∧ (t.die.updSt e).masters = u.masters
         ∧ t.die.tally T.UPD_UPDATES e = tallyAdd (s.die.tally T.UPD_UPDATES e) 1 ∧ t.die.tiles = s.die.tiles ∧ t.die.rows = s.die.rows)))
  ∧ (∀ (s : State) (src : Source) (e : Nat) (w : Word) (x : UpdCtx), e < 8 → s.die.updCtx e = some x →
       (s.admits src .UPD e 0x010 → bit w.toNat 1 = true → s.die.on R.UPD_STATUS_EXPORT_BUSY e = false →
         s.completes (.updExport src e w) (fun t => t = { s with die := t.die } ∧ t.die.on R.UPD_CONTROL_PAUSE e = bit w.toNat 0
           ∧ (bit w.toNat 0 = true → s.die.get R.UPD_STATUS_PHASE e = 0 → t.die.on R.UPD_STATUS_EXPORT_BUSY e = true
               ∧ (t.die.updSt e).exportFn = (match src with | .vf p => p + 1 | _ => 0))
           ∧ ((bit w.toNat 0 = false ∨ s.die.get R.UPD_STATUS_PHASE e ≠ 0) → t.die.get R.UPD_STATUS_EXPORT_RESULT e = 2
               ∧ t.die.on R.UPD_STATUS_EXPORT_BUSY e = false)
           ∧ (t.die.updSt e).masters = (s.die.updSt e).masters ∧ t.die.tiles = s.die.tiles))
       ∧ (s.die.on R.UPD_STATUS_EXPORT_BUSY e = true →
         s.completes (.exportDone e true) (fun t => t = { s with die := { s.die with regs := t.die.regs, host := t.die.host } }
           ∧ t.die.on R.UPD_STATUS_EXPORT_BUSY e = false ∧ t.die.get R.UPD_STATUS_EXPORT_RESULT e = 1
           ∧ t.die.host = (s.die.hostWrite (s.die.updSt e).exportFn (s.die.get R.UPD_EXPORT_LO e / 64 * 64 + s.die.get R.UPD_EXPORT_HI e * 2 ^ 32)
               (x.keys.flatMap (fun k => leBytes 2 (KMap.get 0 (s.die.updSt e).masters k)))).host)
         ∧ s.completes (.exportDone e false) (fun t => t = { s with die := { s.die with regs := t.die.regs } }
           ∧ t.die.on R.UPD_STATUS_EXPORT_BUSY e = false ∧ t.die.get R.UPD_STATUS_EXPORT_RESULT e = 3)))

/-- The update lane's GRAD and OPTM (R329, R330, R333, R334), run before the last operation of their list with no word in error: GRAD DIFF narrows the
differences of the lanes of two buffers into its destination; GRAD BACK narrows the back-propagated sums, each the exact sum over the outputs rounded once, or
zero where its gate is shut; OPTM leaves in its destination, for each of the block's 16 weights, the new master and the new moments narrowed against the tensor
bases. Each leaves the tile's accumulators and the update store alone, and the lane goes to its next operation.
What the spec leaves open here is the model's own: log entry 57. -/
def Obligations.UpdateLaneComputes : Prop :=
  ∀ (s : State) (tile op : Nat) (x : UpdCtx) (f : UFire) (phase : Nat), tile < 4096 → tile % 32 < 24 → s.die.updCtx (tileEng tile) = some x →
    s.die.laneHead x tile = some (op, f, phase) → tile ∈ x.tiles → s.die.ecc = [] → s.die.poison = [] → phase ≠ 5 →
    (s.die.tile tile).lanePos + 1 < (laneOps (x.cfg tile) phase (uLayer f.w)).length →
    let w := f.w
    let r := f.y.r
    let ub (i : Nat) : UbBeat := s.die.ub tile (fld w 39 38) i
    let leaves (c : Instr) (bs : List UbBeat) : Prop := s.completes c (fun t => t = { s with die := t.die }
      ∧ (∀ i, i < bs.length → t.die.ub tile (fld w 35 34) i = bs.getD i {}) ∧ (t.die.tile tile).lanePos = (s.die.tile tile).lanePos + 1
      ∧ (t.die.tile tile).acc = (s.die.tile tile).acc ∧ (t.die.tile tile).store = (s.die.tile tile).store ∧ t.die.upd = s.die.upd
      ∧ (∀ u, u ≠ tile → t.die.tile u = s.die.tile u) ∧ t.die.rows = s.die.rows ∧ t.die.dir = s.die.dir)
    (opc w = 36 → fld w 41 40 = 0 → leaves (.uGradDiff tile op) (Num.val (narrow ((List.range (uNj w)).map (fun j =>
        Num.val (add32 (Num.val (norm32 (lane (ub 0).data.toNat j)))
          (neg32 (Num.val (norm32 (lane (s.die.ub tile (fld w 37 36) 0).data.toNat j))))))))))
    ∧ (opc w = 36 → fld w 41 40 = 1 →
        let wb := match (s.die.updSt x.e).run with | some u => (match u.cur with | some c => c.wb | none => 0) | none => 0
        let codes := Num.val (dotWeights (s.die.beat tile) f.y.dot (wb * r.boff))
        leaves (.uGradBack tile op) (Num.val (narrow ((List.range (uNi w)).map (fun i =>
          let a := (s.die.ubCode tile (fld w 37 36) r.afmt i).1
          let sum := exactSum ((List.range (uNj w)).map (fun j =>
            let o := (codes.getD j []).getD i {}
            let sc := weightScale (s.die.beat tile) (uAddr w) j (i / max 1 r.g)
            let dl := s.die.ubCode tile (fld w 39 38) 9 j
            (signed (o.s != dl.1.s) (o.m * sc.1 * dl.1.m), o.x + sc.2 + dl.1.x + dl.2)))
          if (bit w 7 = true ∧ (a.s = true ∨ a.m = 0)) ∨ sum.1 = 0 then 0 else Num.val (roundInt sum.1 sum.2))))))
    ∧ (opc w = 37 →
        let half (i : Nat) : Nat := if i % 2 = 0 then (ub (i / 2)).data.toNat % 2 ^ 128 else (ub (i / 2)).data.toNat / 2 ^ 128
        let new (i : Nat) : Nat × Nat × Nat := (Num.val (optmWeight r (half i) (ub 0).t0 (ub 0).t1)).1
        let base := KMap.get (0, 0) (s.die.updSt x.e).bases r.layer
        let ms := narrowMoment base.1 ((List.range 16).map (fun i => (new i).2.1))
        let vs := narrowMoment base.2 ((List.range 16).map (fun i => (new i).2.2))
        let out (i : Nat) : Nat := half i % 2 ^ 96 + (new i).1 * 2 ^ 96 + ms.1.getD i 0 * 2 ^ 112 + vs.1.getD i 0 * 2 ^ 120
        leaves (.uOptm tile op) ((List.range 8).map (fun i => ⟨BitVec.ofNat 256 (out (2 * i) + out (2 * i + 1) * 2 ^ 128), ms.2.1, vs.2.1⟩)))

/-- The update lane's LACC, SRQ and SWAP with no word in error (R331, R335): LACC ACCUM adds the terms of its outputs and inputs to the accumulators from ADDR; LACC
FLUSH moves accumulators into the sums of their weights and clears them; SRQ returns the master and moments of every weight of its block to the update
store and appends the 16 codes that stochastic rounding gives; SWAP writes complete beats of new codes into the bank that is not live.
What the spec leaves open here is the model's own: log entries 57, 58, 59. -/
def Obligations.UpdateLaneStores : Prop :=
  ∀ (s : State) (tile op : Nat) (x : UpdCtx) (f : UFire) (phase : Nat), tile < 4096 → tile % 32 < 24 → s.die.updCtx (tileEng tile) = some x →
    s.die.laneHead x tile = some (op, f, phase) → tile ∈ x.tiles → s.die.ecc = [] → s.die.poison = [] →
    let w := f.w
    let r := f.y.r
    let z := s.die.tile tile
    let u := s.die.updSt x.e
    let keeps (t : State) : Prop := t = { s with die := t.die } ∧ t.die.rows = s.die.rows ∧ t.die.dir = s.die.dir
    (opc w = 40 → fld w 41 40 = 0 → s.completes (.uLaccAccum tile op) (fun t => keeps t
        ∧ (∀ k, k < uNj w * uNi w → KMap.get 0 (t.die.tile tile).acc (uAddr w + k) = KMap.get 0 z.acc (uAddr w + k)
            + (laccTerm (s.die.ubCode tile (fld w 39 38) 9 (k / uNi w)) (s.die.ubCode tile (fld w 37 36) r.afmt (k % uNi w)) r.ql).1)
        ∧ (∀ a, (a < uAddr w ∨ uAddr w + uNj w * uNi w ≤ a) → KMap.get 0 (t.die.tile tile).acc a = KMap.get 0 z.acc a)
        ∧ (t.die.updSt x.e).sums = u.sums ∧ (t.die.updSt x.e).masters = u.masters ∧ (t.die.tile tile).store = z.store))
    ∧ (opc w = 40 → fld w 41 40 = 1 → s.completes (.uLaccFlush tile op) (fun t => keeps t
        ∧ (∀ k, k < uNj w * uNi w → KMap.get 0 (t.die.tile tile).acc (uAddr w + k) = 0)
        ∧ (∀ a, (a < uAddr w ∨ uAddr w + uNj w * uNi w ≤ a) → KMap.get 0 (t.die.tile tile).acc a = KMap.get 0 z.acc a)
        ∧ (∀ key, KMap.get 0 (t.die.updSt x.e).sums key = KMap.get 0 u.sums key
            + (((List.range (uNj w * uNi w)).filter (fun k => decide (r.layer * 2 ^ 20 + (f.y.j0 + k / uNi w) * r.k + f.y.i0 + k % uNi w = key))).map
                (fun k => KMap.get 0 z.acc (uAddr w + k))).sum)
        ∧ (t.die.updSt x.e).masters = u.masters ∧ (t.die.tile tile).store = z.store))
    ∧ (opc w = 38 →
        let n := match (x.blocks tile)[z.block]? with | some y => y.2 | none => 0
        let step := match u.run with | some y => y.step | none => 0
        let half (i : Nat) : Nat :=
          let b := (s.die.ub tile (fld w 39 38) (i / 2)).data.toNat
          if i % 2 = 0 then b % 2 ^ 128 else b / 2 ^ 128
        s.completes (.uSrq tile op) (fun t => keeps t
          ∧ (t.die.tile tile).codes = z.codes ++ (List.range 16).map (fun i => (r.layer, match (f.y.blockKeys n).getD i none with
              | none => 0
              | some k =>
                let sc := weightScale (s.die.beat tile) (uAddr w) k.2.1 (k.2.2 / max 1 r.g)
                (srq (bits (half i) 96 16) sc.1 sc.2 r.wfmt (srBits x.u.seed step r.tensor k.1)).1))
          ∧ (∀ i k, i < 16 → (f.y.blockKeys n).getD i none = some k →
              (∀ j, i < j → j < 16 → ∀ m, (f.y.blockKeys n).getD j none = some m → m.1 ≠ k.1) →
              KMap.get 0 (t.die.updSt x.e).masters (r.layer * 2 ^ 20 + k.1) = bits (half i) 96 16
              ∧ KMap.get (0, 0) (t.die.updSt x.e).moments (r.layer * 2 ^ 20 + k.1) = (bits (half i) 112 8, bits (half i) 120 8))
          ∧ (t.die.updSt x.e).sums = u.sums ∧ (t.die.tile tile).store = z.store))
    ∧ (opc w = 39 →
        let k := KMap.get 0 z.swapped r.layer
        let codes := (z.codes.filter (fun c => c.1 == r.layer)).map (fun c => c.2)
        let n := min (uNi w) (f.y.beats - k * uNi w)
        let first := uAddr w + k * uNi w + (1 - u.bank) * r.boff
        s.completes (.uSwap tile op) (fun t => keeps t
          ∧ (∀ i, i < n → t.die.beat tile (first + i) = (((codes.drop ((k * uNi w + i) * epb r.wfmt)).take (epb r.wfmt)).foldr
              (fun c a => c + a * 2 ^ fmtWidth r.wfmt) 0) % 2 ^ 256)
          ∧ (∀ b, (b < first ∨ first + n ≤ b) → t.die.beat tile b = s.die.beat tile b)
          ∧ (t.die.updSt x.e).masters = u.masters))

/-- Shedding under the power cap (R349, R350, R352, R571): an evaluation above the cap in force raises LEVEL by one up to 64 and PEAK with it, the 64th in a row at
or below 95 % of the cap lowers LEVEL by one, and any other leaves it; PEAK_CLEAR that the device performs sets PEAK to LEVEL.
Replay pastures (R357, R359, R362, R364), by writes that the device performs: ENABLE changes only while no image is admitted, and is else refused; CLOSE
in a replay pasture closes the open batch of its updatable image; a word of the limit takes its value.
What the spec leaves open here is the model's own: log entry 53. -/
def Obligations.ShedsAndReplays : Prop :=
  (∀ (s : State) (a : List Activity),
     let mw := s.die.estimate s.fused a
     let level := s.die.get R.DEV_SHED_STATUS_LEVEL
     s.completes (.shedEvaluate a) (fun t => t = { s with die := { s.die with regs := t.die.regs, shedLow := t.die.shedLow } }
       ∧ t.die.get R.PWR_ESTIMATE_ESTIMATE = mw / 1000 % 2 ^ 10
       ∧ t.die.get R.DEV_SHED_STATUS_LEVEL =
           (if s.die.cap * 1000 < mw then min 64 (level + 1)
             else if mw * 100 ≤ s.die.cap * 95000 ∧ 63 ≤ s.die.shedLow then (level - 1) % 2 ^ 7
             else level)
       ∧ (s.die.cap * 1000 < mw → t.die.get R.DEV_SHED_STATUS_PEAK = max (min 64 (level + 1)) (s.die.get R.DEV_SHED_STATUS_PEAK) % 2 ^ 7)
       ∧ (mw ≤ s.die.cap * 1000 → t.die.get R.DEV_SHED_STATUS_PEAK = s.die.get R.DEV_SHED_STATUS_PEAK))
     ∧ ∀ src (w : Word), s.admits src .DEV 0 0x804 → bit w.toNat 31 = true → s.completes (.peakClear src w) (fun t =>
         t = { s with die := { s.die with regs := t.die.regs } } ∧ t.die.get R.DEV_SHED_STATUS_PEAK = level % 2 ^ 7
         ∧ t.die.get R.DEV_SHED_STATUS_LEVEL = level))
  ∧ (∀ (s : State) (src : Source) (p : Nat) (w : Word), p < 64 →
       (s.admits src .FAB p 0x030 → bit w.toNat 0 ≠ s.die.on R.FAB_REPLAY_ENABLE p → s.completes (.replayEnable src p w) (fun t =>
         t = { s with die := t.die } ∧ t.die.tiles = s.die.tiles ∧ t.die.eng = s.die.eng ∧ t.die.rows = s.die.rows
         ∧ (s.die.admitted p = true → t.die.on R.FAB_REPLAY_STATUS_REFUSED p = true ∧ t.die.on R.FAB_REPLAY_ENABLE p = s.die.on R.FAB_REPLAY_ENABLE p)
         ∧ (s.die.admitted p = false → t.die.on R.FAB_REPLAY_ENABLE p = bit w.toNat 0
             ∧ t.die.get R.FAB_REPLAY_STATUS_REFUSED p = s.die.get R.FAB_REPLAY_STATUS_REFUSED p)))
       ∧ (∀ im u x, s.admits src .FAB p 0x030 → bit w.toNat 1 = true → bit w.toNat 0 = true → s.die.on R.FAB_REPLAY_ENABLE p = true →
         s.die.image p = some im → im.upd = some u → s.die.updCtx u.engine = some x → x.p = p → s.completes (.replayClose src p w) (fun t =>
           t = { s with die := t.die } ∧ t.die.on R.FAB_REPLAY_ENABLE p = true ∧ t.die.tiles = s.die.tiles ∧ t.die.eng = s.die.eng
           ∧ (t.die.updSt u.engine).openFrom = (s.die.updSt u.engine).openFrom + 1
           ∧ (s.die.on R.UPD_CONTROL_PAUSE u.engine = false → s.die.get R.UPD_STATUS_STATE u.engine ≠ 3 →
               ∃ l, (t.die.updSt u.engine).queue = (s.die.updSt u.engine).queue ++ [((s.die.updSt u.engine).openFrom, l)])))
       ∧ (∀ upper, s.admits src .FAB p (if upper then 0x038 else 0x034) → s.completes (.replayLimit src p upper w) (fun t =>
           t = { s with die := { s.die with regs := t.die.regs } }
           ∧ t.die.get R.FAB_REPLAY_LIMIT_LO p = (if upper then s.die.get R.FAB_REPLAY_LIMIT_LO p else w.toNat)
           ∧ t.die.get R.FAB_REPLAY_LIMIT_HI p = (if upper then w.toNat % 2 ^ 16 else s.die.get R.FAB_REPLAY_LIMIT_HI p))))

/-- TB1 to TB7 (R370 to R373, R376, R407), by writes that the device performs: a rate word, clamped under SLEW with SLEW_CLAMPED set and counted, holds from the
present tick on, at which the base's value does not change; TB_CONTROL takes a slew bound in range and clamps the rate in force under it; a requested step
is applied at once to a disabled base, is refused beyond the jump threshold without AUTH, and else joins the steps that wait for the next tick, which applies them. CELLAR_SYNC_PAIR
takes the pair of FC and TB0 while the Cellar is up.
What the spec leaves open here is the model's own: log entries 26, 28. -/
def Obligations.TimeBasesSteer : Prop :=
  ∀ (s : State) (src : Source) (n : Nat) (w : Word), 1 ≤ n → n ≤ 7 →
    let b := s.die.tb n
    let f := s.die.fc
    let lim := slewLimit (s.die.get R.TB_CONTROL_SLEW n)
    let only (t : State) : Prop := t = { s with die := t.die } ∧ (∀ m, m ≠ n → t.die.tb m = s.die.tb m) ∧ t.die.fc = f
    (s.admits src .TB n 0x014 → s.completes (.tbAdjWrite src n w) (fun t => only t
      ∧ (t.die.tb n).segs = ⟨f, b.at f, clampTo lim (sext w.toNat 32), s.die.on R.TB_CONTROL_ENABLE n⟩ :: b.segs
      ∧ t.die.get R.TB_ADJ_ADJ n = low (clampTo lim (sext w.toNat 32)) 32
      ∧ (clampTo lim (sext w.toNat 32) ≠ sext w.toNat 32 → t.die.on R.TB_STATUS_SLEW_CLAMPED n = true
          ∧ t.die.tally T.TB_SLEW_CLAMP n = tallyAdd (s.die.tally T.TB_SLEW_CLAMP n) 1)
      ∧ (clampTo lim (sext w.toNat 32) = sext w.toNat 32 → t.die.tallies = s.die.tallies)))
    ∧ (s.admits src .TB n 0x010 → s.completes (.tbSlewWrite src n w) (fun t => only t
      ∧ t.die.on R.TB_CONTROL_ENABLE n = bit w.toNat 0 ∧ t.die.on R.TB_STATUS_RUNNING n = bit w.toNat 0
      ∧ (bit w.toNat 1 = true → t.die.on R.TB_CONTROL_AUTH n = true)
      ∧ t.die.get R.TB_CONTROL_SLEW n = (if 1 ≤ bits w.toNat 4 9 ∧ bits w.toNat 4 9 ≤ 500 then bits w.toNat 4 9 else s.die.get R.TB_CONTROL_SLEW n)
      ∧ t.die.get R.TB_CONTROL_JUMP n = (if bits w.toNat 16 16 = 0 then s.die.get R.TB_CONTROL_JUMP n else bits w.toNat 16 16)
      ∧ (1 ≤ bits w.toNat 4 9 → bits w.toNat 4 9 ≤ 500 → t.die.adj n = clampTo (slewLimit (bits w.toNat 4 9)) (s.die.adj n))
      ∧ (t.die.tb n).steps = b.steps))
    ∧ (s.admits src .TB n 0x01C →
        let v := sext (b.stepLo + w.toNat * 2 ^ 32) 64
        let big := s.die.get R.TB_CONTROL_JUMP n * 100 * 65536 < v.natAbs
        (s.die.on R.TB_CONTROL_ENABLE n = false → s.completes (.tbStep src n w) (fun t => only t
          ∧ (t.die.tb n).segs = ⟨f, tbWrap (b.at f + v * 2 ^ 24), s.die.adj n, false⟩ :: b.segs ∧ (t.die.tb n).steps = b.steps
          ∧ t.die.tally T.TB_STEPS n = tallyAdd (s.die.tally T.TB_STEPS n) 1))
        ∧ (s.die.on R.TB_CONTROL_ENABLE n = true → big → s.die.on R.TB_CONTROL_AUTH n = false → s.completes (.tbStep src n w) (fun t => only t
          ∧ t.die.tb n = b ∧ t.die.on R.TB_STATUS_JUMP_REFUSED n = true
          ∧ t.die.tally T.TB_JUMP_REFUSE n = tallyAdd (s.die.tally T.TB_JUMP_REFUSE n) 1))
        ∧ (s.die.on R.TB_CONTROL_ENABLE n = true → (¬ big ∨ s.die.on R.TB_CONTROL_AUTH n = true) → s.completes (.tbStep src n w) (fun t => only t
          ∧ (t.die.tb n).steps = b.steps ++ [v] ∧ (t.die.tb n).segs = b.segs ∧ (big → t.die.on R.TB_CONTROL_AUTH n = false)
          ∧ t.die.tallies = s.die.tallies)))
    ∧ (b.steps = [] → s.completes (.tbStepApply n) (fun t => t = s))
    ∧ (∀ v, b.steps = [v] → s.completes (.tbStepApply n) (fun t => only t ∧ (t.die.tb n).steps = []
      ∧ (t.die.tb n).segs = ⟨f, tbWrap (b.at f + v * 2 ^ 24), s.die.adj n, s.die.on R.TB_CONTROL_ENABLE n⟩ :: b.segs
      ∧ t.die.tally T.TB_STEPS n = tallyAdd (s.die.tally T.TB_STEPS n) 1))
    ∧ (∀ v v' vs, b.steps = v :: v' :: vs → s.completes (.tbStepApply n) (fun t => only t ∧ (t.die.tb n).steps = []
      ∧ (t.die.tb n).segs.length = b.segs.length + (vs.length + 2)))
    ∧ (s.cel.up = true → s.completes .cellarSyncPair (fun t => t = { s with die := { s.die with pair := (f, s.cel.tb0 / 2 ^ 40) } }))

/-- The discipline of TB0 (R377 to R379, R402, R406): PPS_EDGE takes the presence of PPS_IN and, with a PPS source, its offset; while a calibration waits
for edges it is one of the 16, and the Cellar drives an output point. PPS_ABSENT and REF10M_PRESENCE set their bits; TB0_HOLDOVER enters holdover at the
frequency last measured with its SOURCE record, or defers that until the Cellar queue has room. PPS_EDGE and TB0_HOLDOVER change nothing while the Cellar
is down.
What the spec leaves open here is the model's own: log entries 27, 65, 67. -/
def Obligations.Tb0Disciplined : Prop :=
  ∀ (s : State) (cap : Capture) (ref : Int),
    let c := s.cel
    let o := ppsOffset (c.capTb0 0 false cap)
    let pps := c.get R.CEL_STATUS_SOURCE = 1 ∨ c.get R.CEL_STATUS_SOURCE = 2
    let inTime := ∃ f, c.ppsFc16 = some f ∧ f + 16 * (10 ^ 9 - 1000) ≤ cap.fc16 ∧ cap.fc16 ≤ f + 16 * (10 ^ 9 + 1000)
    let counted := c.get R.CEL_STATUS_CAL_BUSY = 1 ∧ c.calEdges < 16
    let point := c.get R.CEL_CONTROL_CAL_POINT
    (c.up = true → s.completes (.ppsEdge cap ref) (fun t => t.cel.ppsFc16 = some cap.fc16
        ∧ t.cel.get R.CEL_STATUS_PPS_PRESENT ≤ 1 ∧ (t.cel.get R.CEL_STATUS_PPS_PRESENT = 1 ↔ inTime)
        ∧ (counted → t.cel.calEdges = c.calEdges + 1 ∧ (t.cel.calBad = true ↔ c.calBad = true ∨ ¬ inTime))
        ∧ (¬ counted → t.cel.calEdges = c.calEdges ∧ t.cel.calBad = c.calBad)
        ∧ (counted → outputPoint point = true → Emit.drive point ∈ t.die.emits)
        ∧ (pps → s.offsetTaken t o (c.capFc 0 false cap / 16) ref)
        ∧ (¬ pps → t.cel.tb0 = c.tb0 ∧ t.cel.adj0 = c.adj0 ∧ t.cel.celQ = c.celQ
            ∧ t = { s with cel := t.cel
                           die := { s.die with emits := s.die.emits ++ (if counted ∧ outputPoint point = true then [.drive point] else []) } })))
    ∧ (c.up = false → s.completes (.ppsEdge cap ref) (fun t => t = s) ∧ s.completes .tb0Holdover (fun t => t = s))
    ∧ (c.up = true → (c.holdNext = true → s.completes .tb0Holdover (fun t => t = s))
        ∧ (c.holdNext = false → c.full = false → c.deferHold = [] → s.completes .tb0Holdover (fun t =>
            t = { s with cel := t.cel, die := s.die.alarm 9 } ∧ t.cel.get R.CEL_STATUS_HOLDOVER = 1 ∧ t.cel.adj0 = clampTo c.lim0 c.freq
            ∧ t.cel.tb0 = c.tb0 ∧ t.cel.celQ.length = c.celQ.length + 1))
        ∧ (c.holdNext = false → (c.full = true ∨ c.deferHold ≠ []) → s.completes .tb0Holdover (fun t =>
            t = { s with cel := { c with deferHold := c.deferHold ++ [none] } })))
    ∧ s.completes .ppsAbsent (fun t => t = { s with cel := t.cel } ∧ t.cel.get R.CEL_STATUS_PPS_PRESENT = 0 ∧ t.cel.ppsFc16 = none ∧ t.cel.adj0 = c.adj0
        ∧ t.cel.tb0 = c.tb0 ∧ t.cel.celQ = c.celQ)
    ∧ ∀ b, s.completes (.ref10mPresence b) (fun t => t = { s with cel := { c with regs := t.cel.regs } }
        ∧ t.cel.get R.CEL_STATUS_REF10M_PRESENT = b2n b)

/-- The owner's hand on TB0 (R377, R380 to R382, R406), by writes that the device performs: CEL_DISC selects a source that the mask allows while the
queue has room, with its SOURCE record, and is refused otherwise; CEL_STEP is accepted for the next tc where the queue has room and the step is within the
jump limit or authorised, and is else refused; the next tick of an accepted step moves TB0 with its STEP record. A PTP submission gives the Cellar its offset,
from the times and captures it names under PTP_PORT and as written under PTP_HOST; one that names a capture no longer held counts as stale. PPS_OUT follows
its rise and fall.
What the spec leaves open here is the model's own: log entries 65, 66, 67. -/
def Obligations.Tb0Commanded : Prop :=
  ∀ (s : State) (src : Source) (w : Word),
    let c := s.cel
    let mask := if c.sealed then c.settings.mask else bits w.toNat 8 5
    let v := bits w.toNat 0 3
    (s.admits src .CEL 0 0x010 →
      (v ≤ 4 → bit mask v = true → v ≠ c.get R.CEL_DISC_SOURCE → c.full = false → s.completes (.sourceSelect src w) (fun t => t.kill = s.kill
        ∧ t.cel.get R.CEL_DISC_SOURCE = v ∧ t.cel.get R.CEL_STATUS_SOURCE = v ∧ t.cel.get R.CEL_DISC_PORT = bits w.toNat 4 4
        ∧ t.cel.settings = { c.settings with mask := mask } ∧ t.cel.celQ.length = c.celQ.length + 1 ∧ t.cel.tb0 = c.tb0
        ∧ (v = 0 → c.get R.CEL_STATUS_HOLDOVER = 0 → t.cel.get R.CEL_STATUS_HOLDOVER = 1 ∧ t.cel.adj0 = clampTo c.lim0 c.freq)
        ∧ (v ≠ 0 → t.cel.get R.CEL_STATUS_HOLDOVER = c.get R.CEL_STATUS_HOLDOVER ∧ t.cel.adj0 = c.adj0)))
      ∧ (v ≤ 4 → bit mask v = true → v = c.get R.CEL_DISC_SOURCE → s.completes (.sourceSelect src w) (fun t => t = { s with cel := t.cel }
        ∧ t.cel.get R.CEL_DISC_SOURCE = v ∧ t.cel.get R.CEL_DISC_PORT = bits w.toNat 4 4 ∧ t.cel.settings = { c.settings with mask := mask }
        ∧ t.cel.get R.CEL_STATUS_DISC_REFUSED = c.get R.CEL_STATUS_DISC_REFUSED ∧ t.cel.celQ = c.celQ ∧ t.cel.tb0 = c.tb0))
      ∧ (v ≤ 4 → (bit mask v = false ∨ (c.full = true ∧ v ≠ c.get R.CEL_DISC_SOURCE)) → s.completes (.sourceSelect src w) (fun t =>
          t = { s with cel := t.cel } ∧ t.cel.get R.CEL_STATUS_DISC_REFUSED = 1 ∧ t.cel.get R.CEL_DISC_SOURCE = c.get R.CEL_DISC_SOURCE
          ∧ t.cel.celQ = c.celQ))
      ∧ (4 < v → s.completes (.sourceSelect src w) (fun t => t = { s with cel := t.cel }
          ∧ t.cel.get R.CEL_DISC_SOURCE = c.get R.CEL_DISC_SOURCE ∧ t.cel.celQ = c.celQ)))
    ∧ (s.admits src .CEL 0 0x01C →
        let k := sext (c.stepLo + w.toNat * 2 ^ 32) 64
        let far := c.settings.jump0 * 100 * 65536 < k.natAbs
        (c.full = false → (¬ far ∨ c.get R.CEL_CONTROL_AUTH0 ≠ 0) → s.completes (.celStep src w) (fun t =>
          t = { s with cel := { c with steps := c.steps ++ [k] } }))
        ∧ ((c.full = true ∨ (far ∧ c.get R.CEL_CONTROL_AUTH0 = 0)) → s.completes (.celStep src w) (fun t => t.kill = s.kill ∧ t.cel.tb0 = c.tb0
          ∧ t.cel.celQ = c.celQ ∧ t.cel.steps = c.steps ∧ t.cel.get R.CEL_STATUS_JUMP_REFUSED = 1
          ∧ t.die.tally T.CEL_JUMP_REFUSE = tallyAdd (s.die.tally T.CEL_JUMP_REFUSE) 1)))
    ∧ (∀ k, s.pending = [] → c.up = true → c.steps = [k] →
        let far := c.settings.jump0 * 100 * 65536 < k.natAbs
        (¬ far ∨ c.get R.CEL_CONTROL_AUTH0 = 1) → ∃ t, step s = .next t ∧ t.cel.steps = [] ∧ t.cel.celQ.length = c.celQ.length + 1
          ∧ t.cel.tb0 = tbWrap (tbWrap (c.tb0 + 2 ^ 40 + c.adj0) + k * 2 ^ 24) ∧ t.cel.tc = c.tc + 1
          ∧ t.cel.get R.CEL_CONTROL_AUTH0 = if far then 0 else c.get R.CEL_CONTROL_AUTH0)
    ∧ (s.admits src .CEL 0 0x05C →
        let sub := KMap.set 0 c.submit 7 w.toNat
        let bs := (List.range 8).flatMap (fun k => leBytes 4 (KMap.get 0 sub k))
        let held (sent : Bool) (i : Nat) := c.ptpCaps.find? (fun x => x.1 == leNat (slice bs i 2) && x.2.1 == sent)
        (c.get R.CEL_STATUS_SOURCE = 3 → ∀ t2 t3, held false 20 = some t2 → held true 22 = some t3 → s.completes (.ptpSubmit src w) (fun t =>
            t.cel.submit = sub ∧ ∃ o : Int, (2 * o - ((t2.2.2 - ptpTime bs 0) - (ptpTime bs 10 - t3.2.2))).natAbs ≤ 1
              ∧ s.offsetTaken t o s.die.fc 0))
        ∧ (c.get R.CEL_STATUS_SOURCE = 4 → s.completes (.ptpSubmit src w) (fun t =>
            t.cel.submit = sub ∧ s.offsetTaken t (sext (leNat (slice bs 24 8)) 64) s.die.fc 0))
        ∧ (c.get R.CEL_STATUS_SOURCE = 3 → (held false 20 = none ∨ held true 22 = none) → s.completes (.ptpSubmit src w) (fun t => t.kill = s.kill
            ∧ t.cel = { c with submit := sub } ∧ t.die.tally T.CEL_PTP_STALE = tallyAdd (s.die.tally T.CEL_PTP_STALE) 1))
        ∧ (c.get R.CEL_STATUS_SOURCE ≠ 3 → c.get R.CEL_STATUS_SOURCE ≠ 4 → s.completes (.ptpSubmit src w) (fun t =>
            t = { s with cel := { c with submit := sub } })))
    ∧ (c.up = true → s.completes .ppsOutRise (fun t => t.cel = { c with ppsOut := true } ∧ t.kill = s.kill
        ∧ t.die = { s.die with emits := s.die.emits ++ (if c.ppsOut then [] else [.pps true]) }))
    ∧ (c.ppsOut = true → s.completes .ppsOutFall (fun t =>
        t = { s with cel := { c with ppsOut := false }, die := { s.die with emits := s.die.emits ++ [.pps false] } }))

/-- The seal and calibration (R397 to R402), by writes of CEL_CONTROL that the device performs: a seal message that every check passes seals the settings
in force or breaks the seal and counts the break, with SEAL_RESULT 1 and its record; one that fails a check changes neither, and its code is the result. CAL_START
is refused on a sealed Cellar with result 5 and without PPS_IN with result 2, and else starts the run; CAL_DONE ends a run that is over: one that ends well puts
the mean of its differences, less the fixture delay at an output point, into the settings, and any other leaves them.
CELLAR_POWER_UP keeps the seal, its record and its count, starts the chain from them and counts, and writes the START record.
The audit chain (R403, R406): AUDIT_HASH takes the oldest record, a Cellar record before a launch record of the same tc, and the chain's new value
is the hash of the old value and the record with the low byte of its position in it; CKPT that the device performs leaves the chain as it stands and its two slots
follow those that wait for the ring, which takes as many as it has room for.
What the spec leaves open here is the model's own: log entries 16, 67, 68, 69, 70. -/
def Obligations.CellarSealsAndAudits : Prop :=
  (∀ (s : State) (src : Source) (w : Word),
     let c := s.cel
     let m := s.die.hostRead 0 (c.get R.CEL_SEAL_ADDR_LO * 64 + c.get R.CEL_SEAL_ADDR_HI * 2 ^ 32) 160
     let r := c.sealCheck s.fused m
     (s.admits src .CEL 0 0x020 → bit w.toNat 1 = true →
       (r = 1 → s.completes (.sealGo src w) (fun t => t = { s with cel := t.cel } ∧ t.cel.get R.CEL_STATUS_SEAL_RESULT = 1
         ∧ (if leNat (m.take 1) = 1 then t.cel.sealed = true ∧ t.cel.sealRecord = c.settings.image ∧ t.cel.breaks = c.breaks
             else t.cel.sealed = false ∧ t.cel.breaks = c.breaks + 1)
         ∧ t.cel.settings = c.settings ∧ t.cel.celQ.length = c.celQ.length + 1))
       ∧ (r ≠ 1 → s.completes (.sealGo src w) (fun t => t.cel.sealed = c.sealed ∧ t.cel.breaks = c.breaks ∧ t.cel.settings = c.settings
         ∧ t.cel.celQ = c.celQ ∧ t.cel.sealRecord = c.sealRecord
         ∧ (2 ≤ r → t = { s with cel := t.cel } ∧ t.cel.get R.CEL_STATUS_SEAL_RESULT = r)
         ∧ (r = 0 → t = { s with cel := t.cel, die := { s.die with free := t.die.free } } ∧ 1 ≤ t.cel.get R.CEL_STATUS_SEAL_RESULT
             ∧ t.cel.get R.CEL_STATUS_SEAL_RESULT ≤ 8))))
     ∧ (s.admits src .CEL 0 0x020 → bit w.toNat 1 = false → bit w.toNat 2 = false → bit w.toNat 3 = true →
       (c.get R.CEL_STATUS_CAL_BUSY ≠ 1 → s.completes (.cellarCalStart src w) (fun t => t = { s with cel := t.cel } ∧ t.cel.settings = c.settings
         ∧ (bits w.toNat 4 8 ≤ 185 → t.cel.get R.CEL_CONTROL_CAL_POINT = bits w.toNat 4 8)
         ∧ (c.sealed = true → t.cel.get R.CEL_STATUS_CAL_RESULT = 5 ∧ t.cel.get R.CEL_STATUS_CAL_BUSY = c.get R.CEL_STATUS_CAL_BUSY)
         ∧ (c.sealed = false → c.get R.CEL_STATUS_PPS_PRESENT = 0 →
             t.cel.get R.CEL_STATUS_CAL_RESULT = 2 ∧ t.cel.get R.CEL_STATUS_CAL_BUSY = c.get R.CEL_STATUS_CAL_BUSY)
         ∧ (c.sealed = false → c.get R.CEL_STATUS_PPS_PRESENT ≠ 0 → t.cel.get R.CEL_STATUS_CAL_RESULT = 0 ∧ t.cel.get R.CEL_STATUS_CAL_BUSY = 1
             ∧ t.cel.calEdges = 0 ∧ t.cel.calBad = false)))
       ∧ (c.get R.CEL_STATUS_CAL_BUSY = 1 → s.completes (.cellarCalStart src w) (fun t => t = { s with cel := t.cel } ∧ t.cel.settings = c.settings
         ∧ t.cel.get R.CEL_STATUS_CAL_BUSY = 1 ∧ t.cel.calEdges = c.calEdges)))
     ∧ (∀ x : CalRun,
         let point := c.get R.CEL_CONTROL_CAL_POINT
         let ds := x.diffs.filterMap id
         let fix : Int := if outputPoint point = true then sext (s.cel.get R.CAL_FIXTURE_VALUE) 32 else 0
         (c.get R.CEL_STATUS_CAL_BUSY = 1 → c.calOver = true → s.completes (.calDone x) (fun t => t.kill = s.kill
           ∧ t.cel.get R.CEL_STATUS_CAL_BUSY = 0 ∧ t.cel.get R.CEL_STATUS_CAL_RESULT = c.calResult x
           ∧ (c.calResult x ≠ 1 → t.cel.settings = c.settings ∧ t.die = s.die)
           ∧ (c.calResult x = 1 → t.die = { s.die with free := t.die.free }
               ∧ t.cel.settings = { c.settings with delays := t.cel.settings.delays }
               ∧ (∃ m : Int, (16 * m - ds.sum).natAbs < 16 ∧ t.cel.delay point = sext (low (m - fix) 32) 32)
               ∧ ∀ p, p ≠ point → t.cel.delay p = c.delay p)))
         ∧ (¬ (c.get R.CEL_STATUS_CAL_BUSY = 1 ∧ c.calOver = true) → s.completes (.calDone x) (fun t => t = s)))
     ∧ s.completes .cellarPowerUp (fun t => t = { s with cel := t.cel } ∧ t.cel.up = true ∧ t.cel.sealed = c.sealed ∧ t.cel.breaks = c.breaks
         ∧ t.cel.sealRecord = c.sealRecord ∧ t.cel.powerUps = c.powerUps + 1 ∧ (c.sealed = true → t.cel.settings = c.settings)
         ∧ (c.sealed = false → t.cel.settings = {}) ∧ t.cel.tb0 = 0
         ∧ t.cel.chain = 0 ∧ t.cel.hash = hashOf (leBytes 8 s.fused.dieId ++ leBytes 2 c.breaks ++ leBytes 4 (c.powerUps + 1))
         ∧ t.cel.launchQ = [] ∧ t.cel.celQ.length = 1))
  ∧ (∀ (s : State),
       let c := s.cel
       let hashed (t : State) (r : AuditRec) : Prop := t.cel.chain = c.chain + 1 ∧ t.kill = s.kill ∧ t.cel.tb0 = c.tb0 ∧ t.cel.settings = c.settings
         ∧ t.cel.hash = hashOf (beBytes 32 c.hash.toNat ++ overlay r.bytes 3 (leBytes 1 ((c.chain + 1) % 256)))
         ∧ t.die.tally T.CEL_AUDIT_RECORDS = tallyAdd (s.die.tally T.CEL_AUDIT_RECORDS) 1
       (∀ a rest, c.up = true → c.celQ = a :: rest → (∀ b ∈ c.launchQ.head?, a.order ≤ b.order) →
         s.completes .auditHash (fun t => hashed t a ∧ t.cel.launchQ = c.launchQ
           ∧ ∃ more, t.cel.celQ = rest ++ more ∧ (c.deferHold = [] → more = [])))
       ∧ (∀ b rest, c.up = true → c.launchQ = b :: rest → (∀ a ∈ c.celQ.head?, b.order < a.order) →
         s.completes .auditHash (fun t => hashed t b ∧ t.cel.launchQ = rest
           ∧ ∃ more, t.cel.celQ = c.celQ ++ more ∧ (c.deferHold = [] → more = [])))
       ∧ ((c.up = false ∨ (c.celQ = [] ∧ c.launchQ = [])) → s.completes .auditHash (fun t => t = s))
       ∧ (∀ src (w : Word), s.admits src .CEL 0 0x020 → bit w.toNat 1 = false → bit w.toNat 2 = true →
         let h := c.get R.CEL_AUDIT_HEAD_VALUE
         let size := 2 ^ c.get R.CEL_AUDIT_CTL_LOG2SIZE
         let base := c.get R.CEL_AUDIT_BASE_LO * 64 + c.get R.CEL_AUDIT_BASE_HI * 2 ^ 32
         let first := [6, 0, 0] ++ leBytes 1 (c.chain % 256) ++ List.replicate 6 0 ++ c.now.bytes ++ leBytes 8 c.chain ++ [0, 0]
         let second := beBytes 32 c.hash.toNat
         h < 2 ^ 32 →
         s.completes (.ckpt src w) (fun t => t.kill = s.kill ∧ t.cel.chain = c.chain ∧ t.cel.hash = c.hash ∧ t.cel.settings = c.settings
           ∧ t.cel.tb0 = c.tb0
           ∧ (∃ n, n ≤ c.slots.length + 2 ∧ t.cel.slots = (c.slots ++ [(⟨first, 0⟩ : AuditSlot), ⟨second, 0⟩]).drop n
               ∧ t.cel.get R.CEL_AUDIT_HEAD_VALUE = (h + n) % 2 ^ 32
               ∧ (t.cel.slots ≠ [] → size ≤ ((h + n) % 2 ^ 32 + 2 ^ 32 - c.get R.CEL_AUDIT_TAIL_VALUE) % 2 ^ 32))
           ∧ (∃ more, t.cel.celQ = c.celQ ++ more ∧ (c.deferHold = [] → more = []))
           ∧ (c.slots = [] → c.deferHold = [] → 2 ≤ size → h = c.get R.CEL_AUDIT_TAIL_VALUE → t.cel.slots = []
               ∧ t.die = (s.die.hostWrite 0 (base + h % size * 32) first).hostWrite 0 (base + (h + 1) % 2 ^ 32 % size * 32) second))))

/-- A transmit port chooses a frame (R389, R394, R395): free for a start, with no word in error and some entry ready, it chooses one of the ready ones, which
stays at the head of its queue: the slot owner's where it has one ready, else one of the pasture that no other comes before, and of that pasture's the lowest
queue's. A port that is not free, or a lane with a frame that goes first (R438), changes nothing.
LAUNCH_COMMIT of the frame chosen for a port (R390, R391, R465, R466, R492, R637): without the right to the port it is dropped and counted, and so under a
block of the kill gate or of flock HALT; an agreed launch that the flock does not allow is dropped; else it is committed, on time or late where LATE_SEND allows,
and a late one without it is dropped and counted in LATE_DROP. A port that is not ACTIVE any more gives up its choice, and the frame stays queued (R417).
What the spec leaves open here is the model's own: log entries 60, 61, 62, 64. -/
def Obligations.LaunchesCommit : Prop :=
  (∀ (s : State) (kind n b : Nat), (kind = 1 ∧ n < 16) ∨ (kind = 2 ∧ n < 64) →
     ((s.die.portFree kind n b = false ∨ (kind = 2 ∧ s.die.firstOnLane n = true)) → s.completes (.frameStart kind n b) (fun t => t = s))
     ∧ (s.die.portFree kind n b = true → (kind = 2 → s.die.firstOnLane n = false) → s.die.ecc = [] → s.die.poison = [] → (∀ x ∈ s.die.heads, x.2.poison = false) →
         let ready := s.die.readyFor kind n b
         (ready = [] → s.completes (.frameStart kind n b) (fun t => t = s))
         ∧ (ready ≠ [] → s.completes (.frameStart kind n b) (fun t => t = { s with die := t.die }
           ∧ ∃ k e, (k, e) ∈ ready
             ∧ KMap.get {} t.die.ports (kind * 64 + n) = { KMap.get {} s.die.ports (kind * 64 + n) with sched := some e, start := b }
             ∧ (∀ j, j ≠ kind * 64 + n → KMap.get {} t.die.ports j = KMap.get {} s.die.ports j)
             ∧ (KMap.get [] s.die.launch k).head? = some e ∧ t.die.launch = s.die.launch
             ∧ (∀ y ∈ ready, y.2.pasture = e.pasture → k ≤ y.1)
             ∧ ((∃ p, s.die.slotOwner kind n b = some p ∧ ∃ y ∈ ready, y.2.pasture = p) → s.die.slotOwner kind n b = some e.pasture)
             ∧ ((¬ ∃ p, s.die.slotOwner kind n b = some p ∧ ∃ y ∈ ready, y.2.pasture = p) →
                 ∀ y ∈ ready, y.2.pasture = e.pasture ∨ s.die.before e.pasture y.2.pasture = true)))))
  ∧ (∀ (s : State) (kind n : Nat) (e : LaunchEnt), (kind = 1 ∧ n < 16) ∨ (kind = 2 ∧ n < 64) →
       let key := kind * 64 + n
       let x := KMap.get {} s.die.ports key
       let wc := s.die.wordUnits kind n
       let p := e.pasture
       let dropped (c : Tal) (i : Nat) : Prop := s.completes (.launchCommit kind n) (fun t => (KMap.get {} t.die.ports key).sched = none
         ∧ (KMap.get {} t.die.ports key).line = x.line ∧ t.die.tally c i = tallyAdd (s.die.tally c i) 1 ∧ t.kill = s.kill
         ∧ KMap.get [] t.die.launch e.key = (KMap.get [] s.die.launch e.key).drop 1
         ∧ (∀ j, j ≠ e.key → KMap.get [] t.die.launch j = KMap.get [] s.die.launch j)
         ∧ t.cel = (if e.audited then { s.cel with reserved := s.cel.reserved - 1 } else s.cel))
       x.sched = some e →
       (s.die.portUp kind n = false → s.completes (.launchCommit kind n) (fun t => t = { s with die := { s.die with ports := t.die.ports } }
         ∧ (KMap.get {} t.die.ports key).sched = none ∧ (KMap.get {} t.die.ports key).line = []))
       ∧ (s.die.portUp kind n = true →
       (s.die.mayLaunch p kind n = false → dropped (T.OWN_VIOLATION p) 0)
       ∧ (s.die.mayLaunch p kind n = true → (s.gateBlocks || s.die.haltBlocks p) = true → dropped T.EGR_KILL_DROP p)
       ∧ (s.die.mayLaunch p kind n = true → (s.gateBlocks || s.die.haltBlocks p) = false →
           (e.agreed = true → s.die.agrees = false → dropped T.FLK_AGREE_REFUSE 0)
           ∧ ((e.agreed = false ∨ s.die.agrees = true) →
               let late := !(s.die.onTime e wc x.start)
               (late = true → bit (s.die.get R.EGR_QUEUE_LATE_SEND p) e.queue = false → dropped T.EGR_LATE_DROP p)
               ∧ ((late = false ∨ bit (s.die.get R.EGR_QUEUE_LATE_SEND p) e.queue = true) →
                 s.completes (.launchCommit kind n) (fun t => t = { s with die := t.die } ∧ t.die.launch = s.die.launch
                   ∧ KMap.get {} t.die.ports key = { x with sched := none, start := 0, line := x.line ++ [⟨{ e with late := late }, x.start⟩] }
                   ∧ (late = false → t.die.tallies = s.die.tallies)
                   ∧ (late = true → t.die.tally T.EGR_LATE_SENT p = tallyAdd (s.die.tally T.EGR_LATE_SENT p) 1)))))))

/-- A first bit at a pin and a port that is gone (R392, R396, R404): the first bit of the oldest committed frame of an ACTIVE port counts in LAUNCHES and takes the
frame from its queue and from the line, an Ethernet frame being given to the outside with its preamble and FCS (R414); a trigger edge takes its turn; an audited one leaves its LAUNCH record in place of its reservation; and the head of a queue that has
nowhere to go is dropped and counted.
Pins and signals to the host (R234, R611, R630, R641): the end of a pulse brings its pin low; a fill of the decision ring raises vector 0 once, where it is armed
and enabled and the holdoff has passed; a write of PAS_MSG_TAIL that the device performs takes a count that leaves the fill in range and arms the vector; ALIVE
toggles while it is enabled.
What the spec leaves open here is the model's own: log entries 25, 61. -/
def Obligations.EdgesAndSignals : Prop :=
  (∀ (s : State) (cap : Capture),
     (∀ kind n k3 f rest, (kind = 1 ∧ n < 16) ∨ (kind = 2 ∧ n < 64) → (KMap.get {} s.die.ports (kind * 64 + n)).line = f :: rest →
       s.die.portUp kind n = true →
       let pt := (if kind = 1 then 42 else 122) + n
       let e := f.ent
       s.completes (.launchFirstBit kind n ⟨cap, k3⟩) (fun t => t.kill = s.kill ∧ (KMap.get {} t.die.ports (kind * 64 + n)).line = rest
         ∧ (KMap.get {} t.die.ports (kind * 64 + n)).sched = (KMap.get {} s.die.ports (kind * 64 + n)).sched
         ∧ t.die.tally T.EGR_LAUNCHES e.pasture = tallyAdd (s.die.tally T.EGR_LAUNCHES e.pasture) 1
         ∧ KMap.get [] t.die.launch e.key = (KMap.get [] s.die.launch e.key).drop 1
         ∧ (∀ j, j ≠ e.key → KMap.get [] t.die.launch j = KMap.get [] s.die.launch j)
         ∧ (kind = 1 → ∃ a b, t.die.emits = s.die.emits ++ a ++ [.frame n (ethLine e.bytes)] ++ b)
         ∧ t.cel = (if e.audited then s.cel.launchRecord ⟨e.pasture, e.late, kind * 64 + n, e.evid, e.image, e.template, e.inFc16⟩
               (s.cel.capFc pt true cap) (s.cel.capTb0 pt true cap) else s.cel)))
     ∧ (∀ pin e rest, pin < 16 → (KMap.get {} s.die.pins pin).edges = e :: rest → ∀ k3, s.completes (.launchFirstBit 0 pin ⟨cap, k3⟩) (fun t =>
         t = { s with die := { s.die with pins := t.die.pins }, cel := t.cel } ∧ (KMap.get {} t.die.pins pin).edges = rest
         ∧ (KMap.get {} t.die.pins pin).high = (KMap.get {} s.die.pins pin).high
         ∧ t.cel = (if e.audited then s.cel.launchRecord ⟨e.pasture, e.late, pin, e.evid, e.image, 0xFFFF, e.inFc16⟩
               (s.cel.capFc (10 + pin) true cap) (s.cel.capTb0 (10 + pin) true cap) else s.cel)))
     ∧ (∀ p q e rest, p < 64 → q < 8 → KMap.get [] s.die.launch (p * 8 + q) = e :: rest → s.die.routeOf e = none → s.die.chosen (p * 8 + q) = false →
       s.completes (.portDown p q) (fun t =>
         KMap.get [] t.die.launch (p * 8 + q) = rest ∧ t.die.tally T.EGR_PORT_DOWN p = tallyAdd (s.die.tally T.EGR_PORT_DOWN p) 1 ∧ t.kill = s.kill
         ∧ t.cel = (if e.audited then { s.cel with reserved := s.cel.reserved - 1 } else s.cel))))
  ∧ (∀ (s : State),
       (∀ pin, pin < 16 → (KMap.get {} s.die.pins pin).high = true → s.completes (.trigPulseEnd pin) (fun t =>
         t = { s with die := { s.die with pins := t.die.pins, emits := s.die.emits ++ [.trig pin false] } } ∧ (KMap.get {} t.die.pins pin).high = false
         ∧ (∀ q, q ≠ pin → KMap.get {} t.die.pins q = KMap.get {} s.die.pins q)))
       ∧ (∀ p, p < 64 → s.die.on R.PAS_RING_STATUS_DEC_ARMED p = true → s.die.on R.PAS_MSIX_DEC_EN p = true →
         0 < (s.die.get R.PAS_MSG_HEAD_VALUE p + 2 ^ 32 - s.die.get R.PAS_MSG_TAIL_VALUE p) % 2 ^ 32 →
         ((s.die.pasture p).msixLast = 0 ∨ s.die.get R.PAS_MSIX_HOLDOFF p * 1000 ≤ s.die.ns + 1 - (s.die.pasture p).msixLast) →
         s.completes (.msixDecFire p) (fun t => t = { s with die := { s.die with regs := t.die.regs, pas := t.die.pas, emits := s.die.emits ++ [.msix p 0] } }
           ∧ t.die.on R.PAS_RING_STATUS_DEC_ARMED p = false ∧ (t.die.pasture p).msixLast = s.die.ns + 1))
       ∧ (∀ src p (w : Word), p < 64 → s.admits src .PAS p 0x04C → s.completes (.msgTailWrite src p w) (fun t =>
           t = { s with die := { s.die with regs := t.die.regs } } ∧ t.die.on R.PAS_RING_STATUS_DEC_ARMED p = true
           ∧ t.die.get R.PAS_MSG_TAIL_VALUE p =
               (if (s.die.get R.PAS_MSG_HEAD_VALUE p + 2 ^ 32 - w.toNat) % 2 ^ 32 ≤ 2 ^ s.die.get R.PAS_MSG_CTL_LOG2SIZE p then w.toNat
                 else s.die.get R.PAS_MSG_TAIL_VALUE p)))
       ∧ (s.die.aliveOn = true → s.completes .aliveToggle (fun t =>
           t = { s with die := { s.die with alive := !s.die.alive, emits := s.die.emits ++ [.alive (!s.die.alive)] } })))

/-- The owner's PTP frames (R381, R383, R394, R615): PTP_TX on a port that is up, idle and with no launch ready takes the slot at the ring's tail; a good one is sent
with its TX timestamp, which enters the port's queue while it has room, one that would still be on the line when a pasture's slot begins waits, and a bad one is
skipped and counted. TXTS_READ by a master that reaches the registers
takes the oldest entry of the queue.
What the spec leaves open here is the model's own: log entry 63. -/
def Obligations.PtpFramesSent : Prop :=
  ∀ (s : State) (n : Nat) (cap : Capture), n < 16 →
    let c := s.die.get R.ETH_PTPTX_TAIL_VALUE n
    let slot := s.die.hostRead 0 (s.die.addr64 R.ETH_PTPTX_BASE_LO R.ETH_PTPTX_BASE_HI n + c % 2 ^ s.die.get R.ETH_PTPTX_CTL_LOG2SIZE n * 2048) 2048
    let len := leNat (slot.take 2)
    let good : Prop := 60 ≤ len ∧ len ≤ 1518 ∧ ∀ b ∈ slice slot 4 28, b = 0
    (s.die.on R.ETH_PTPTX_CTL_ENABLE n = true → 0 < (s.die.get R.ETH_PTPTX_HEAD_VALUE n + 2 ^ 32 - c) % 2 ^ 32 →
      s.die.on R.ETH_STATUS_ACTIVE n = true → (KMap.get {} s.die.ports (64 + n)).sched = none →
      s.die.lineFree 1 n ≤ s.die.now21 + s.die.dtx 1 n → s.die.readyFor 1 n (s.die.now21 + s.die.dtx 1 n) = [] →
      let crosses := s.die.crossesSlot 64 1 n (s.die.boundary 1 n s.die.now21 (s.die.now21 + s.die.dtx 1 n)) len
      (good → crosses = true → s.completes (.ptpTx n cap) (fun t => t = s))
      ∧ (good → crosses = false → s.completes (.ptpTx n cap) (fun t => t.kill = s.kill ∧ t.die.get R.ETH_PTPTX_TAIL_VALUE n = (c + 1) % 2 ^ 32
        ∧ (∃ b, t.die.emits = s.die.emits ++ [.frame n (ethLine (slice slot 32 len))] ++ b)
        ∧ ((KMap.get [] s.die.txts n).length < 64 → ∃ x, KMap.get [] t.die.txts n = KMap.get [] s.die.txts n ++ [x] ∧ slice x 0 2 = slice slot 2 2)))
      ∧ (¬ good → s.completes (.ptpTx n cap) (fun t => t = { s with die := t.die } ∧ t.die.get R.ETH_PTPTX_TAIL_VALUE n = (c + 1) % 2 ^ 32
        ∧ t.die.tally T.ETH_PTP_TX_BAD n = tallyAdd (s.die.tally T.ETH_PTP_TX_BAD n) 1 ∧ t.die.txts = s.die.txts ∧ t.die.ports = s.die.ports)))
    ∧ (∀ src x rest, (∀ p, src ≠ .vf p) → s.die.pathUp src = true → s.die.answers src .ETH = true → KMap.get [] s.die.txts n = x :: rest →
        s.completes (.txtsRead src n) (fun t => t = { s with die := t.die } ∧ KMap.get [] t.die.txts n = rest ∧ t.die.regs = s.die.regs
          ∧ t.die.readData = BitVec.ofNat 32 (leNat (slice x 0 4))))

/-- The training state machine (R420, R421, R423, R429 to R434, R441): detection begins TRAIN1 or ends in LINK_ABSENT; training sets received and sent move
the lane on under their counts, a set with a bad CRC counts and words that hold no set break the run; the set that is sent is encoded from the lane's running
disparity; a done partner's idle word and the timeouts end TRAIN2, TRAIN1 and LINK_ABSENT, and a code error outside frames counts.
What the spec leaves open here is the model's own: log entries 72, 74, 75, 114, 142. -/
def Obligations.LaneTrains : Prop :=
  ∀ (s : State) (l : Nat), l < 64 →
    let y := s.die.lane l
    let st := s.die.laneState l
    let rate := s.die.get R.LNK_STATUS_RATE l
    let eq := if s.die.on R.LNK_EQ_TAPS l then 0xFF else s.die.get R.LNK_EQ_PRESET l
    let failed (e : Die) : Prop := e.tally T.LNK_ATTEMPT_FAIL l = tallyAdd (s.die.tally T.LNK_ATTEMPT_FAIL l) 1
      ∧ (e.lane l).attempts = y.attempts + 1
      ∧ e.laneState l = (if s.die.slowest l < s.die.get R.LNK_CONTROL_MAXRATE l + (y.attempts + 1) / 3 then 5 else 1)
    let sends (body : List Byte) (e : Die) : Prop := .line l 0 (packWords (encodeSyms y.rdTx (trainingSyms body)).1) ∈ e.emits
    (st = 1 → s.die.on R.LNK_CONTROL_MODE l = false → s.laneGoes (.receiverDetect l) l (fun e => e.flk = s.die.flk
      ∧ (s.die.slowest l < s.die.attemptRate l → e.laneState l = 5 ∧ e.lane l = y)
      ∧ (s.die.attemptRate l ≤ s.die.slowest l → e.laneState l = 2 ∧ e.lane l = { y.fresh with rdTx := false, preset := eq }
          ∧ e.get R.LNK_STATUS_RATE l = s.die.attemptRate l % 8)))
    ∧ (∀ (w : LineWords) (x : Ts1), readTs1 w = some x → x.crcOk = true →
        (st = 2 → s.laneGoes (.ts1 l w) l (fun e =>
          let run := if x.rate = rate then y.ts1Run + 1 else 0
          let held := if x.locked then y.ts1Locked + 1 else 0
          e.lane l = { y with ts1Run := run, locked := y.locked || decide (8 ≤ run), ts1Locked := held }
          ∧ e.laneState l = if (8 ≤ held ∨ y.sawTs2 = true) ∧ 16 ≤ y.ts1Sent then 3 else 2))
        ∧ (st = 3 → 3 ≤ y.ts1Run → s.laneGoes (.ts1 l w) l (fun e => e.laneState l = 2 ∧ e.get R.LNK_STATUS_RATE l = rate % 8
            ∧ e.lane l = { y.fresh with preset := eq }))
        ∧ (st = 4 → 3 ≤ y.ts1Run → s.laneGoes (.ts1 l w) l (fun e => s.die.retrains e l)))
    ∧ (∀ (w : LineWords) (x : Ts1), readTs1 w = some x → x.crcOk = false → st = 2 → s.laneGoes (.ts1 l w) l (fun e => e.laneState l = 2
        ∧ e.tally T.LNK_CRC_ERR l = tallyAdd (s.die.tally T.LNK_CRC_ERR l) 1 ∧ (e.lane l).ts1Run = 0 ∧ (e.lane l).ts1Locked = 0))
    ∧ (∀ w : LineWords, readTs1 w = none → (st = 2 ∨ st = 3) → s.laneGoes (.ts1 l w) l (fun e => e.laneState l = st
        ∧ (e.lane l).ts1Run = 0 ∧ (e.lane l).ts1Locked = 0 ∧ (e.lane l).errors = y.errors + lineErrs w))
    ∧ (∀ (w : LineWords) (rx : BitVec 64) (x : Ts2), readTs2 w rx = some x → x.crcOk = true →
        (st = 2 → s.laneGoes (.ts2 l ⟨w, rx⟩) l (fun e => e.lane l = { y with sawTs2 := true }
          ∧ e.laneState l = if 16 ≤ y.ts1Sent then 3 else 2))
        ∧ (st = 3 → s.laneGoes (.ts2 l ⟨w, rx⟩) l (fun e =>
            e.get R.LNK_STATUS_CLASSES l = Nat.land x.classes (s.die.get R.LNK_CONTROL_CLASSES l) % 8
            ∧ e.get R.LNK_STATUS_PARTNER_LANE l = x.lane % 64 ∧ e.get R.LNK_STATUS_PARTNER_ROLE l = x.role % 4
            ∧ e.pair64 R.LNK_PARTNER_ID_LO R.LNK_PARTNER_ID_HI l = x.deviceId.toNat
            ∧ e.laneState l = if 4 ≤ y.doneSent ∧ x.done = true ∧ 1 ≤ y.doneRun then 4 else 3)))
    ∧ (∀ cap, (st = 2 → s.laneGoes (.trainingSetSent l cap) l (fun e =>
          let sent := if y.locked then y.ts1Sent + 1 else y.ts1Sent
          sends (s.die.ts1Out l) e ∧ e.lane l = { y with ts1Sent := sent, rdTx := (encodeSyms y.rdTx (trainingSyms (s.die.ts1Out l))).2 }
          ∧ e.laneState l = if (8 ≤ y.ts1Locked ∨ y.sawTs2 = true) ∧ 16 ≤ sent then 3 else 2))
        ∧ (st = 3 → s.laneGoes (.trainingSetSent l cap) l (fun e =>
          let sent := if y.done then y.doneSent + 1 else y.doneSent
          sends (s.die.ts2Out s.fused l) e ∧ (e.lane l).ts2Seq = (y.ts2Seq + 1) % 256
          ∧ ((sent < 4 ∨ y.doneRun < 2) → e.laneState l = 3 ∧ (e.lane l).doneSent = sent
              ∧ (y.ts2Seq, s.cel.capFc (122 + l) true cap) ∈ (e.lane l).ts2Tx)
          ∧ (4 ≤ sent → 2 ≤ y.doneRun → e.laneState l = 4))))
    ∧ (∀ w : LineWords,
        (st = 3 → y.gotDone = true → lineSyms w = idleWord.map some → s.laneGoes (.idleWord ⟨l, w⟩) l (fun e =>
          e.laneState l = 4 ∧ (e.lane l).attempts = 0))
        ∧ (lineErrs w = 0 → (st ≠ 3 ∨ y.gotDone = false ∨ lineSyms w ≠ idleWord.map some) → s.laneGoes (.idleWord ⟨l, w⟩) l (fun e =>
          e.laneState l = st ∧ e.lane l = { y with ts1Run := 0 } ∧ e.tallies = s.die.tallies))
        ∧ (lineErrs w = 1 → (st = 2 ∨ st = 3 ∨ st = 4) → y.errors < 15 → s.laneGoes (.idleWord ⟨l, w⟩) l (fun e =>
          e.laneState l = st ∧ e.lane l = { y with ts1Run := 0, errors := y.errors + 1 }
          ∧ e.tally T.LNK_CODE_ERR l = tallyAdd (s.die.tally T.LNK_CODE_ERR l) 1)))
    ∧ (st = 2 → s.laneGoes (.train1Timeout l) l failed) ∧ (st = 3 → s.laneGoes (.train2Timeout l) l failed)
    ∧ (st = 5 → s.laneGoes (.linkAbsentTimeout l) l (fun e => e.laneState l = 1 ∧ e.lane l = { y with attempts := 0 }))

/-- What ends a lane's service (R423, R429, R439, R440, R442, R445, R449, R570): loss of alignment, of signal, the retrain triggers and their deferral, the
end of an error window, and writes of LNK_CONTROL that the device performs, which enable no lane above 31 under P-150.
What the spec leaves open here is the model's own: log entries 74, 75, 114 (no loss of signal in DISABLED, DETECT and LINK_ABSENT), 125. -/
def Obligations.LanesLeaveActive : Prop :=
  ∀ (s : State) (l : Nat), l < 64 →
    let y := s.die.lane l
    let st := s.die.laneState l
    let ready := st = 4 ∧ s.die.on R.LNK_STATUS_DEFER l = false
    (ready → s.laneGoes (.alignLoss l) l (fun e => s.die.triggered e l
      ∧ e.tally T.LNK_ALIGN_LOSS l = tallyAdd (s.die.tally T.LNK_ALIGN_LOSS l) 1))
    ∧ ((st = 2 ∨ st = 3) → s.laneGoes (.alignLoss l) l (fun e => e.laneState l = st ∧ e.lane l = y
        ∧ e.tally T.LNK_ALIGN_LOSS l = tallyAdd (s.die.tally T.LNK_ALIGN_LOSS l) 1))
    ∧ ((st = 0 ∨ st = 1 ∨ st = 5) → s.laneGoes (.los l) l (fun e => e = s.die))
    ∧ ((st = 2 ∨ st = 3) → s.laneGoes (.los l) l (fun e => e.tally T.LNK_LOS l = tallyAdd (s.die.tally T.LNK_LOS l) 1
        ∧ e.tally T.LNK_ATTEMPT_FAIL l = tallyAdd (s.die.tally T.LNK_ATTEMPT_FAIL l) 1
        ∧ e.laneState l = (if s.die.slowest l < s.die.get R.LNK_CONTROL_MAXRATE l + (y.attempts + 1) / 3 then 5 else 1)))
    ∧ ((st = 4 ∨ st = 6 ∨ st = 7) → s.laneGoes (.los l) l (fun e => e.tally T.LNK_LOS l = tallyAdd (s.die.tally T.LNK_LOS l) 1
        ∧ e.laneState l = 1 ∧ (e.lane l).attempts = y.attempts))
    ∧ s.laneGoes (.errorWindow l) l (fun e => e.lane l = { y with errors := 0 } ∧ e = { s.die with lanes := e.lanes })
    ∧ (∀ cause, ready → s.laneGoes (.retrain l cause) l (fun e => s.die.triggered e l))
    ∧ (∀ cause, ¬ ready → s.laneGoes (.retrain l cause) l (fun e => e = s.die))
    ∧ (st = 4 → s.die.on R.LNK_STATUS_DEFER l = true → s.laneGoes (.retrainDeferTimeout l) l (fun e => s.die.retrains e l))
    ∧ (∀ src (w : Word), s.admits src .LNK l 0x010 →
        let wasOn := s.die.on R.LNK_CONTROL_ENABLE l
        let enables := bit w.toNat 0 = true ∧ (l < 32 ∨ s.die.lowProfile = false)
        (bit w.toNat 16 = false → wasOn = true → ¬ enables → s.laneGoes (.lnkControl src l w) l (fun e =>
            e.laneState l = 0 ∧ e.on R.LNK_CONTROL_ENABLE l = false ∧ e.get R.LNK_STATUS_RATE l = 0))
        ∧ (bit w.toNat 16 = false → wasOn = false → ¬ enables → s.laneGoes (.lnkControl src l w) l (fun e =>
            e.laneState l = st ∧ e.on R.LNK_CONTROL_ENABLE l = false ∧ e.lane l = y))
        ∧ (bit w.toNat 16 = false → wasOn = false → enables → s.laneGoes (.lnkControl src l w) l (fun e =>
            e.laneState l = 1 ∧ e.on R.LNK_CONTROL_ENABLE l = true ∧ (e.lane l).attempts = 0))
        ∧ s.laneGoes (.lnkControl src l w) l (fun e =>
            (s.die.certified 2 l = false → e.get R.LNK_CONTROL_MODE l = b2n (bit w.toNat 1))
            ∧ (s.die.certified 2 l = true → s.die.get R.LNK_CONTROL_MODE l = 1 - b2n (bit w.toNat 1) →
                e.get R.LNK_CONTROL_MODE l = s.die.get R.LNK_CONTROL_MODE l ∧ e.on R.LNK_STATUS_CFG_REFUSED l = true)))

/-- Frames of classes R and B that pass the checks of R425 and R426, and the replay timer (R435 to R437): the expected number is delivered and calls for an
ACK, an older one for another, a gap for one NAK; an acknowledgement ends the frames up to its number, a NAK has them sent again from its number on, and the timer
has all sent again and is at the fourth expiry a retrain trigger. A frame with a wrong CRC counts.
A frame boundary of an ACTIVE lane with no launch chosen starts one item (R438): B frames, a resend before a new one within the limit, then the NAK or ACK that is
due, of class B before R, then R frames; with none ready it starts none. The items of the flock and of the Loft, and their place, are the model's choice (log 143).
What the spec leaves open here is the model's own: log entries 73, 142, 143. -/
def Obligations.ReliableClasses : Prop :=
  (∀ (s : State) (l : Nat) (f : LinkFrame), l < 64 →
    let cls := lfCls f
    let x := s.die.lane l
    let y := x.noSet
    let r := y.rel cls
    let v := sdiff 12 (lfSeq f) r.exp
    let ac := lfAcls f
    let ra := y.rel ac
    let pay := (frameView f).payload
    let taken := msgListed cls (byteAt pay 0).toNat = true ∧ s.die.epoch ≤ leNat (slice pay 2 2)
    let turned (P : Die → Prop) (e : Die) : Prop := ∃ d, e = d.lineTurn l ∧ P d
    (s.die.checkFrame l f = (true, s.die) → (cls = 1 ∨ cls = 2) →
      (v = 0 → r.buf.length < relLimit cls → s.laneGoes (.reliableFrameRx l f) l (fun e =>
        ((e.lane l).rel cls).exp = (r.exp + 1) % 4096 ∧ ((e.lane l).rel cls).naked = false ∧ turned (fun d => ((d.lane l).rel cls).ackDue = true) e
        ∧ (taken → ((e.lane l).rel cls).buf = r.buf ++ [pay])
        ∧ (¬ taken → ((e.lane l).rel cls).buf = r.buf ∧ e.tally T.FLK_MSG_BAD = tallyAdd (s.die.tally T.FLK_MSG_BAD) 1)))
      ∧ (v = 0 → relLimit cls ≤ r.buf.length → s.laneGoes (.reliableFrameRx l f) l (fun e => turned (fun d => d.lane l = y) e
        ∧ e.tally T.LNK_R_BUSY l = tallyAdd (s.die.tally T.LNK_R_BUSY l) 1))
      ∧ (v < 0 → s.laneGoes (.reliableFrameRx l f) l (fun e => e.tally T.LNK_DUP l = tallyAdd (s.die.tally T.LNK_DUP l) 1
        ∧ turned (fun d => d.lane l = y.onRel cls (fun x => { x with reack := true })) e))
      ∧ (0 < v → s.laneGoes (.reliableFrameRx l f) l (fun e => e.tally T.LNK_SEQ_GAP l = tallyAdd (s.die.tally T.LNK_SEQ_GAP l) 1
        ∧ (r.naked = true → turned (fun d => d.lane l = y) e)
        ∧ (r.naked = false → turned (fun d => d.lane l = y.onRel cls (fun x => { x with naked := true, nakDue := some r.exp })) e
            ∧ e.tally T.LNK_NAKS_SENT l = tallyAdd (s.die.tally T.LNK_NAKS_SENT l) 1))))
    ∧ (s.die.checkFrame l f = (true, s.die) → cls = 3 → bit (frameView f).h1.toNat 4 = false →
      ((∀ o ∈ ra.out, o.1 ≠ lfSeq f) → s.laneGoes (.ack l f) l (fun e => e = s.die.onLane l Lane.noSet))
      ∧ ((∃ o ∈ ra.out, o.1 = lfSeq f) → s.laneGoes (.ack l f) l (fun e =>
          let still (o : Nat × List Byte) : Bool := decide (sdiff 12 (lfSeq f) o.1 < 0)
          (∃ d : Die, e = (d.lineTurn l).endDefer l
            ∧ d.lane l = y.onRel ac (fun x => { x with out := x.out.filter still, resend := x.resend.filter still, expiries := 0 }))
          ∧ ra.out.filter still <+: ((e.lane l).rel ac).out
          ∧ (ra.waits = [] → ((e.lane l).rel ac).out = ra.out.filter still)
          ∧ ((e.lane l).rel ac).expiries = 0
          ∧ (s.die.on R.LNK_STATUS_DEFER l = false → e.laneState l = s.die.laneState l))))
    ∧ (s.die.checkFrame l f = (true, s.die) → cls = 3 → bit (frameView f).h1.toNat 4 = true →
      ((∀ o ∈ ra.out, o.1 ≠ lfSeq f) → s.laneGoes (.nak l f) l (fun e => e = s.die.onLane l Lane.noSet))
      ∧ ((∃ o ∈ ra.out, o.1 = lfSeq f) → s.laneGoes (.nak l f) l (fun e => e.tallies = s.die.tallies
          ∧ turned (fun d => d.lane l = y.onRel ac (fun x => { x with resend := ra.out.dropWhile (fun o => o.1 != lfSeq f) })) e)))
    ∧ (∀ c, (c = 1 ∨ c = 2) → s.die.laneState l = 4 → (y.rel c).out ≠ [] → s.laneGoes (.replayTimer l c) l (fun e =>
        e.tally T.LNK_REPLAYS l = tallyAdd (s.die.tally T.LNK_REPLAYS l) 1 ∧ ((e.lane l).rel c).out = (y.rel c).out
        ∧ ((e.lane l).rel c).expiries = (y.rel c).expiries + 1
        ∧ ((y.rel c).expiries ≠ 3 → e.laneState l = 4
            ∧ turned (fun d => d.lane l = x.onRel c (fun r => { r with expiries := r.expiries + 1, resend := r.out })) e)
        ∧ ((y.rel c).expiries = 3 → s.die.on R.LNK_STATUS_DEFER l = false → s.die.triggered e l)))
    ∧ (let z := frameView f
       s.die.laneState l = 4 → z.start = true → z.whole = true → z.ended = true → 1 ≤ z.h3.toNat → z.h3.toNat ≤ 64 → (cls = 1 ∨ cls = 2) →
       lineErrs f.line = 0 → z.crc ≠ crc32c ([z.h1, z.h2, z.h3] ++ pay) % 2 ^ 24 → y.errors < 15 → s.laneGoes (.reliableFrameRx l f) l (fun e =>
         e.lane l = { y with errors := y.errors + 1 } ∧ e.tally T.LNK_CRC_ERR l = tallyAdd (s.die.tally T.LNK_CRC_ERR l) 1)))
  ∧ (∀ (d : Die) (l : Nat),
      let y := d.lane l
      let p := KMap.get {} d.ports (128 + l)
      let at_ := d.boundary 2 l y.lineEnd (max d.now21 p.busyTo)
      let due (r : Rel) : Prop := (r.ackDue = true ∨ r.reack = true) ∧ (∀ t, r.ackAt = some t → t + 16 * d.wordUnits 2 l ≤ at_)
      let noFrame (cls : Nat) (r : Rel) : Prop := r.resend = [] ∧ (r.waits = [] ∨ relLimit cls ≤ r.out.length)
      let noControl (r : Rel) : Prop := r.nakDue = none ∧ ¬ due r
      let puts (syms : List Sym) : Prop := ∃ n rd, (d.lineTurn l).emits = d.emits ++ [.line l n (packWords (encodeSyms rd syms).1)]
      d.laneState l = 4 → at_ < d.now21 + 21000 → p.sched = none → p.line = [] → y.sWaits = [] → d.loft.laneQ = [] →
      d.agreed l 1 = true → d.agreed l 2 = true →
        (∀ g rest, y.b.resend = g :: rest → puts (relSyms 2 g.1 g.2))
        ∧ (∀ m rest, y.b.resend = [] → y.b.waits = m :: rest → y.b.out.length < 8 → puts (relSyms 2 y.b.next m))
        ∧ (noFrame 2 y.b → (∀ n, y.b.nakDue = some n → puts (controlSyms true 2 n))
          ∧ (y.b.nakDue = none → due y.b → puts (controlSyms false 2 ((y.b.exp + 4095) % 4096)))
          ∧ (noControl y.b → (∀ n, y.r.nakDue = some n → puts (controlSyms true 1 n))
            ∧ (y.r.nakDue = none → due y.r → puts (controlSyms false 1 ((y.r.exp + 4095) % 4096)))
            ∧ (noControl y.r → (∀ g rest, y.r.resend = g :: rest → puts (relSyms 1 g.1 g.2))
              ∧ (∀ m rest, y.r.resend = [] → y.r.waits = m :: rest → y.r.out.length < 64 → puts (relSyms 1 y.r.next m))
              ∧ (noFrame 1 y.r → d.lineTurn l = d)))))

/-- Frames that a lane's parser takes (R53, R62, R426, R427, R442 to R446): an S frame of a lane outside the flock advances its channel's expected number,
counts what was lost, and enters the program its steering entry names; a raw lane finds its offset, hands on the frames that match its pattern, and leaves
LOCKED at the fourth that does not.
What the spec leaves open here is the model's own: log entries 11, 20. -/
def Obligations.LaneFramesEnter : Prop :=
  ∀ (s : State) (l : Nat), l < 64 →
    let y := s.die.lane l
    let st := s.die.laneState l
    let starts (k : SteerKey) (bytes : List Byte) (cap : Capture) (t : State) : Prop := ∀ e im q, s.die.steerFor l k = some e →
      s.die.image e.pasture = some im → programOf im l e.entry.program = some q → s.die.inNap = false → (s.die.parser l).busy = false →
      let x := t.die.parser l
      x.busy = true ∧ x.frame = bytes ∧ x.base = 0 ∧ x.arrived = bytes.length ∧ x.pasture = e.pasture ∧ x.instrs = q.instrs ∧ x.running = true
        ∧ x.tb = e.entry.tb ∧ x.srcCode = l
        ∧ x.stamps = stampsOf s.die (s.cel.capFc (58 + l) false cap) (s.cel.capTb0 (58 + l) false cap)
    let misses (k : SteerKey) (t : State) : Prop := s.die.steerFor l k = none → s.die.inNap = false → (s.die.parser l).busy = false →
      t.die.tally T.LNK_NO_MATCH l = tallyAdd (s.die.tally T.LNK_NO_MATCH l) 1 ∧ t.die.parsers = s.die.parsers
    (∀ f, s.die.checkFrame l f = (true, s.die) → lfCls f = 0 → s.die.flockLane l = false → s.die.role ≤ 1 →
      let z := frameView f
      let chan := z.h1.toNat % 64
      s.completes (.sFrame l f) (fun t => t.cel = s.cel ∧ t.kill = s.kill ∧ t.die.rows = s.die.rows ∧ t.die.dir = s.die.dir
        ∧ KMap.get none (t.die.lane l).sExp chan = some ((z.h2.toNat + 1) % 256)
        ∧ (∀ n, KMap.get none y.sExp chan = some n → 0 < sdiff 8 z.h2.toNat n →
            t.die.tally T.LNK_S_LOST l = tallyAdd (s.die.tally T.LNK_S_LOST l) (sdiff 8 z.h2.toNat n).toNat)
        ∧ starts (.chan chan) z.payload f.cap t ∧ misses (.chan chan) t))
    ∧ (∀ bytes cap, st = 7 → s.die.rawMatch l (leNat bytes) = true → s.completes (.rawFrame l bytes cap) (fun t =>
        t.cel = s.cel ∧ t.kill = s.kill ∧ t.die.lane l = { y with misses := 0 } ∧ t.die.laneState l = 7
        ∧ starts .raw bytes cap t ∧ misses .raw t))
    ∧ (∀ bytes cap, st = 7 → s.die.rawMatch l (leNat bytes) = false → s.laneGoes (.rawFrame l bytes cap) l (fun e =>
        e.tally T.LNK_FRAME_ERR l = tallyAdd (s.die.tally T.LNK_FRAME_ERR l) 1
        ∧ (y.misses < 3 → e.laneState l = 7 ∧ e.lane l = { y with misses := y.misses + 1 })
        ∧ (3 ≤ y.misses → e.laneState l = 6 ∧ e.tally T.LNK_RAW_UNLOCK l = tallyAdd (s.die.tally T.LNK_RAW_UNLOCK l) 1)))
    ∧ (st = 1 → s.die.on R.LNK_CONTROL_MODE l = true → s.laneGoes (.rawTransitions l) l (fun e => e.laneState l = 6
        ∧ e.get R.LNK_STATUS_RATE l = s.die.get R.LNK_CONTROL_MAXRATE l % 8 ∧ e.lane l = { y with runs := [], misses := 0 }))
    ∧ (∀ v, st = 6 →
        let run (o : Nat) : Nat := if s.die.rawMatch l (bits v o (s.die.get R.LNK_RAW_CFG_PBITS l)) = true then KMap.get 0 y.runs o + 1 else 0
        let hits := (List.range (40 * s.die.get R.LNK_RAW_CFG_RLEN l)).filter (fun o => decide (4 ≤ run o))
        s.laneGoes (.rawPeriod l v) l (fun e => (∀ o, o < 40 * s.die.get R.LNK_RAW_CFG_RLEN l → KMap.get 0 (e.lane l).runs o = run o)
          ∧ (hits = [] → e.laneState l = 6) ∧ (∀ o, hits = [o] → e.laneState l = 7 ∧ e.get R.LNK_RAW_OFFSET_VALUE l = o % 2 ^ 13)
          ∧ (2 ≤ hits.length → e.laneState l = 6 ∧ e.tally T.LNK_RAW_AMBIG l = tallyAdd (s.die.tally T.LNK_RAW_AMBIG l) 1)))

/-- Ethernet links (R414, R417, R419, R450, R570): a port is ACTIVE once it is enabled, its auto-negotiation done where it has one, locked and without a fault;
block lock and codeword lock come and go apart; loss of a lock it needs or a fault ends ACTIVE and counts LINK_DOWN, and a local fault is shown on the line; a
write of ETH_CONTROL that the device performs is refused where 10G is asked for a setting it lacks or a certified path runs through the port, and enables no
port above 7 under P-150.
What the spec leaves open here is the model's own: log entry 125. -/
def Obligations.EthernetLinks : Prop :=
  ∀ (s : State) (t : Nat), t < 16 →
    let d := s.die
    let active := d.on R.ETH_STATUS_ACTIVE t
    let goes (c : Instr) (P : Die → Prop) : Prop := s.completes c (fun u =>
      u = { s with die := { s.die with regs := u.die.regs, tallies := u.die.tallies, loft := u.die.loft, host := u.die.host, emits := u.die.emits
                                       store := u.die.store, ports := u.die.ports } }
      ∧ (∀ j, j ≠ 64 + t → KMap.get {} u.die.ports j = KMap.get {} d.ports j) ∧ P u.die)
    let phy := d.on R.ETH_CONTROL_ENABLE t = true ∧ (d.on R.ETH_CONTROL_MEDIA t = true → d.on R.ETH_STATUS_AN_DONE t = true)
    let same (e : Die) : Prop := e.on R.ETH_STATUS_ACTIVE t = active ∧ e.tallies = d.tallies
    let locked := d.on R.ETH_STATUS_BLOCK_LOCK t = true ∧ (d.on R.ETH_CONTROL_FEC t = true → d.on R.ETH_STATUS_FEC_LOCK t = true)
    let clear := d.on R.ETH_STATUS_LOCAL_FAULT t = false ∧ d.on R.ETH_STATUS_REMOTE_FAULT t = false
    let unlocked (e : Die) : Prop := e.on R.ETH_STATUS_BLOCK_LOCK t = false ∧ e.on R.ETH_STATUS_FEC_LOCK t = false
    let ended (e : Die) : Prop := e.on R.ETH_STATUS_ACTIVE t = false
      ∧ (active = true → e.tally T.ETH_LINK_DOWN t = tallyAdd (d.tally T.ETH_LINK_DOWN t) 1)
      ∧ (active = false → e.tally T.ETH_LINK_DOWN t = d.tally T.ETH_LINK_DOWN t)
    (phy → locked → clear → goes (.ethActive t) (fun e => e.on R.ETH_STATUS_ACTIVE t = true
      ∧ e.tally T.ETH_LINK_DOWN t = d.tally T.ETH_LINK_DOWN t ∧ (active = true → e = d)))
    ∧ (¬ (phy ∧ locked ∧ clear) → goes (.ethActive t) (fun e => e = d))
    ∧ goes (.linkDown t 0) (fun e => e.on R.ETH_STATUS_LOCAL_FAULT t = false ∧ e.on R.ETH_STATUS_REMOTE_FAULT t = false
        ∧ same e ∧ (d.on R.ETH_STATUS_LOCAL_FAULT t = true → e.emits = d.emits ++ [.fault t false]))
    ∧ goes (.linkDown t 1) (fun e => ended e ∧ unlocked e) ∧ goes (.linkDown t 2) (fun e => ended e ∧ e.on R.ETH_STATUS_LOCAL_FAULT t = true
        ∧ (d.on R.ETH_STATUS_LOCAL_FAULT t = false → .fault t true ∈ e.emits))
    ∧ goes (.linkDown t 3) (fun e => ended e ∧ e.on R.ETH_STATUS_REMOTE_FAULT t = true)
    ∧ goes (.linkDown t 4) (fun e => e.on R.ETH_STATUS_FEC_LOCK t = false ∧ e.on R.ETH_STATUS_BLOCK_LOCK t = d.on R.ETH_STATUS_BLOCK_LOCK t
        ∧ (d.on R.ETH_CONTROL_FEC t = true → ended e) ∧ (d.on R.ETH_CONTROL_FEC t = false → same e))
    ∧ (∀ block codeword : Bool,
        (phy → goes (.blockLockGained ⟨t, block, codeword⟩) (fun e => same e
          ∧ e.on R.ETH_STATUS_BLOCK_LOCK t = (block || d.on R.ETH_STATUS_BLOCK_LOCK t)
          ∧ e.on R.ETH_STATUS_FEC_LOCK t = ((codeword && d.on R.ETH_CONTROL_FEC t) || d.on R.ETH_STATUS_FEC_LOCK t)))
        ∧ (¬ phy → goes (.blockLockGained ⟨t, block, codeword⟩) (fun e => e = d))
        ∧ (active = false → goes (.blockLockLost ⟨t, block, codeword⟩) (fun e => same e
          ∧ e.on R.ETH_STATUS_BLOCK_LOCK t = (!block && d.on R.ETH_STATUS_BLOCK_LOCK t)
          ∧ e.on R.ETH_STATUS_FEC_LOCK t = (!codeword && d.on R.ETH_STATUS_FEC_LOCK t)))
        ∧ (active = true → goes (.blockLockLost ⟨t, block, codeword⟩) (fun e => e = d)))
    ∧ (d.on R.ETH_CONTROL_ENABLE t = true → d.on R.ETH_CONTROL_MEDIA t = true →
        goes (.autonegDone t true) (fun e => e.on R.ETH_STATUS_AN_DONE t = true ∧ e.on R.ETH_STATUS_ACTIVE t = active)
        ∧ goes (.autonegDone t false) (fun e => ended e ∧ unlocked e ∧ e.on R.ETH_STATUS_AN_DONE t = false))
    ∧ ((d.on R.ETH_CONTROL_ENABLE t = false ∨ d.on R.ETH_CONTROL_MEDIA t = false) → ∀ ok, goes (.autonegDone t ok) (fun e => e = d))
    ∧ (∀ src (w : Word), s.admits src .ETH t 0x010 →
        let now := (d.get R.ETH_CONTROL_SPEED t, d.get R.ETH_CONTROL_FEC t, d.get R.ETH_CONTROL_MEDIA t)
        let asked := (b2n (bit w.toNat 1), b2n (bit w.toNat 2), b2n (bit w.toNat 3))
        let enables : Bool := bit w.toNat 0 && (decide (t < 8) || !d.lowProfile)
        let has (e : Die) (v : Nat × Nat × Nat) : Prop :=
          e.get R.ETH_CONTROL_SPEED t = v.1 ∧ e.get R.ETH_CONTROL_FEC t = v.2.1 ∧ e.get R.ETH_CONTROL_MEDIA t = v.2.2
        (bit w.toNat 1 = false → (bit w.toNat 2 = true ∨ bit w.toNat 3 = true) → goes (.ethControl src t w) (fun e => has e now
          ∧ e.on R.ETH_STATUS_CFG_REFUSED t = true ∧ e.on R.ETH_STATUS_ACTIVE t = active ∧ e.get R.ETH_CONTROL_ENABLE t = d.get R.ETH_CONTROL_ENABLE t))
        ∧ ((bit w.toNat 1 = true ∨ (bit w.toNat 2 = false ∧ bit w.toNat 3 = false)) → goes (.ethControl src t w) (fun e =>
          e.on R.ETH_CONTROL_ENABLE t = enables
          ∧ (d.certified 1 t = true → now ≠ asked → has e (now.1 % 2, now.2.1 % 2, now.2.2 % 2) ∧ e.on R.ETH_STATUS_CFG_REFUSED t = true)
          ∧ ((d.certified 1 t = false ∨ now = asked) → has e asked)
          ∧ ((enables = false ∨ (d.certified 1 t = false ∧ now ≠ asked)) → ended e ∧ unlocked e ∧ e.on R.ETH_STATUS_AN_DONE t = false)
          ∧ (enables = true → now = asked → e.on R.ETH_STATUS_ACTIVE t = active))))

/-- Joining, the flock count and takeover (R456, R457, R459 to R461, R474): JOIN is answered with its result, WELCOME adopted, JOIN sent again; a SYNC sent
carries the transmit capture of the one before; a sample of the parent's SYNC steps, absorbs or pulls in FC, or refuses; missed SYNCs begin HOLDOVER; the standby
takes over.
What the spec leaves open here is the model's own: log entries 76, 78, 79, 117. -/
def Obligations.FlockJoins : Prop :=
  ∀ (s : State),
    let d := s.die
    let state := d.get R.FLK_STATUS_STATE
    (∀ l m, d.brings l 1 1 m → l ∈ d.childLanes → s.takes (.join l) l 1 (fun e =>
        let r := d.joinResult l (msgBody m)
        let kid := KMap.get {} e.flk.kids l
        e.queued l 1 (flkMsg 2 d.epoch 0 (leBytes 4 r)) ∧ (r = 1 → kid.joined = true ∧ kid.role = (byteAt (msgBody m) 8).toNat)
        ∧ (r ≠ 1 → kid.joined = false)
        ∧ e = { d with lanes := e.lanes, flk := e.flk, emits := e.emits, ports := e.ports, loft := e.loft }
        ∧ ∀ k, k ≠ l → KMap.get {} e.flk.kids k = KMap.get {} d.flk.kids k ∧ e.lane k = d.lane k))
    ∧ (∀ l m, d.brings l 1 1 m → l ∉ d.childLanes → s.takes (.join l) l 1 (fun e =>
        e.tally T.FLK_MSG_BAD = tallyAdd (d.tally T.FLK_MSG_BAD) 1 ∧ e.flk = d.flk))
    ∧ (∀ l m, d.brings l 1 2 m → l ∈ d.parentLanes → d.parentLane = some l → d.flk.refused = false → s.takes (.welcome l) l 1 (fun e =>
        let r := leNat (slice m 8 1) % 16
        e.get R.FLK_STATUS_JOIN_RESULT = r
        ∧ e.get R.FLK_STATUS_STATE = (if r ≠ 1 then 1 else if state = 1 then 2 else state)
        ∧ e.epoch = (if r = 1 ∧ d.epoch < msgEpoch m then msgEpoch m else d.epoch)))
    ∧ (∀ l, state = 1 → d.get R.FLK_STATUS_JOIN_RESULT ∈ [2, 3, 5] → d.flk.refused = false → d.parentLane = some l →
        s.completes .joinRetry (fun t => t = { s with die := { d with lanes := t.die.lanes, regs := t.die.regs, emits := t.die.emits
                                                                      ports := t.die.ports, loft := t.die.loft } }
          ∧ t.die.queued l 1 (flkMsg 1 d.epoch 0 (d.joinBody s.fused))))
    ∧ (∀ caps, d.fc % 65536 = 0 →
        let lanes := (List.range 64).filter (fun l => d.flockLane l && d.laneState l == 4)
        s.completes (.syncSend caps) (fun t => t = { s with die := { d with lanes := t.die.lanes, flk := t.die.flk, emits := t.die.emits
                                                                            ports := t.die.ports, loft := t.die.loft } }
          ∧ ∀ l ∈ lanes,
            let n := KMap.get 0 (d.lane l).sNext 63
            let body := leBytes 8 (KMap.get 0 d.flk.syncTx l) ++ leBytes 2 d.epoch ++ leBytes 1 state ++ [0] ++ leBytes 4 d.holdAge
            (((63, body) ∈ (t.die.lane l).sWaits ∧ KMap.get 0 (t.die.lane l).sNext 63 = n)
              ∨ (KMap.get 0 (t.die.lane l).sNext 63 = (n + 1) % 256
                  ∧ ∃ i rd, .line l i (packWords (encodeSyms rd (sSyms 63 n body)).1) ∈ t.die.emits))
            ∧ KMap.get 0 t.die.flk.syncTx l =
                (match caps.find? (fun c => c.1 == l) with | some c => s.cel.capFc (122 + l) true c.2 | none => 16 * d.fc) % 2 ^ 64))
    ∧ (∀ l (f : LinkFrame) n r, l < 64 → (frameView f).h1.toNat = 63 → d.checkFrame l f = (true, d) → d.role ≤ 2 → l ∈ d.parentLanes → d.parentLane = some l →
        leNat (slice (frameView f).payload 8 2) = d.epoch → d.get R.FLK_STATUS_JOIN_RESULT = 1 → d.flk.lastSync = some (n, r) →
        (n + 1) % 256 = (frameView f).h2.toNat → d.flk.absorb = 0 →
        let o := sdiff 64 (r % 2 ^ 64) (low ((leNat (slice (frameView f).payload 0 8) : Int) + sext (d.get R.LNK_DELAY_VALUE l) 32) 64)
        s.completes (.sync l f) (fun t => t = { s with die := t.die } ∧ t.die.flk.parentHold = leNat (slice (frameView f).payload 12 4) ∧ t.die.flk.miss = 0
          ∧ t.die.get R.FLK_OFFSET_O = low (max (-(2 ^ 31)) (min o (2 ^ 31 - 1))) 32
          ∧ (o ≤ -16 → t.die.fc = d.fc + (-o / 16).toNat ∧ t.die.tally T.FLK_FC_STEP = tallyAdd (d.tally T.FLK_FC_STEP) 1)
          ∧ (-16 < o → t.die.fc = d.fc ∧ t.die.flk.lastSync = some ((frameView f).h2.toNat, s.cel.capFc (58 + l) false f.cap))
          ∧ (16000000 ≤ o → t.die.get R.FLK_STATUS_JOIN_RESULT = 4 ∧ t.die.get R.FLK_STATUS_STATE = 1 ∧ t.die.flk.refused = true)
          ∧ (16 ≤ o → o < 16000000 → t.die.flk.absorb = (o / 16).toNat)
          ∧ (-16 < o → o < 16 → t.die.flk.phase = -(4 * o) ∧ t.die.flk.good = (if o.natAbs ≤ 2 then d.flk.good + 1 else 0)
              ∧ (state = 2 → 15 ≤ d.flk.good → o.natAbs ≤ 2 → t.die.get R.FLK_STATUS_STATE = 3))))
    ∧ (d.flk.phase ≠ 0 → s.completes .phaseStep (fun t => t = { s with die := t.die }
        ∧ t.die.flk = { d.flk with phase := if d.flk.phase < 0 then d.flk.phase + 1 else d.flk.phase - 1 }
        ∧ t.die.tally T.FLK_PHASE_STEP = tallyAdd (d.tally T.FLK_PHASE_STEP) 1))
    ∧ ((d.get R.FLK_STATUS_JOIN_RESULT = 1 ∨ (d.role = 3 ∧ state = 6)) → s.completes .syncMiss (fun t => t = { s with die := t.die }
        ∧ t.die.tally T.FLK_SYNC_MISS = tallyAdd (d.tally T.FLK_SYNC_MISS) 1 ∧ t.die.flk.miss = d.flk.miss + 1 ∧ t.die.fc = d.fc
        ∧ t.die.get R.FLK_STATUS_STATE = (if state = 3 ∧ 3 ≤ d.flk.miss then 4 else state)))
    ∧ (let live := (List.range 64).filter (fun l => d.laneState l == 4)
       let kid (l : Nat) : Child := KMap.get {} d.flk.kids l
       let most := d.role = 3 ∧ state = 6 ∧ live.length < 2 * (live.filter (fun l => (kid l).state == 4)).length
         ∧ ∀ l ∈ live, (kid l).epoch ≤ d.epoch
       (most → s.completes .standbyTakeover (fun t => t = { s with die := t.die } ∧ t.die.epoch = (d.epoch + 1) % 65536
          ∧ t.die.get R.FLK_STATUS_STATE = 5 ∧ t.die.tally T.FLK_TAKEOVERS = tallyAdd (d.tally T.FLK_TAKEOVERS) 1
          ∧ d.spreads t.die 2 (flkMsg 13 ((d.epoch + 1) % 65536) 0 [])))
       ∧ (¬ most → exec .standbyTakeover s = .next s))
    ∧ (∀ l m, d.brings l 2 13 m → l ∈ d.parentLanes → d.epoch ≤ msgEpoch m → s.takes (.takeover l) l 2 (fun e =>
        e.epoch = msgEpoch m ∧ e.flk.parent = l ∧ (d.role = 2 → d.spreads e 2 m)))

/-- The flock's updates (R464, R465, R467 to R472): an agreed launch is passed on, or queued at a worker; chunks are summed as they come and the sum passed up
when every child that holds the set has given its own, the top shepherd closing the reduction; a member takes totals, the commit and the verdict; digests are
merged and judged by the majority.
What the spec leaves open here is the model's own: log entries 77, 81, 115, 116. -/
def Obligations.FlockUpdates : Prop :=
  ∀ (s : State) (l : Nat) (m : List Byte),
    let d := s.die
    let b := msgBody m
    let image := msgImage m
    let step := leNat (slice b 0 8)
    (d.brings l 1 3 m → l ∈ d.parentLanes → d.role = 2 → s.takes (.launchAt l) l 1 (fun e => d.spreads e 1 m ∧ e.launch = d.launch))
    ∧ (∀ p im tm pl, d.brings l 1 3 m → l ∈ d.parentLanes → d.role = 1 → d.pastureOf image = some p → d.image p = some im →
        im.templates.find? (fun t => t.number == leNat (slice b 14 2)) = some tm →
        im.patchLists.find? (fun y => y.number == (byteAt b 16).toNat) = some pl →
        let key := p * 8 + (byteAt b 17).toNat % 8
        (d.on R.FAB_REPLAY_ENABLE p = true → s.takes (.launchAt l) l 1 (fun e => e.launch = d.launch))
        ∧ (d.on R.FAB_REPLAY_ENABLE p = false → d.mayLaunch p tm.kind tm.port = true → s.gate p = 0 → d.agrees = true →
        (KMap.get [] d.launch key).length < 32 → s.completes (.launchAt l) (fun t => t.kill = s.kill
          ∧ t.cel = (if d.audited p then { s.cel with reserved := s.cel.reserved + 1 } else s.cel)
          ∧ ∃ x, KMap.get [] t.die.launch key = KMap.get [] d.launch key ++ [x] ∧ x.pasture = p ∧ x.agreed = true ∧ x.mode = 1
            ∧ x.target = step ∧ x.template = tm.number ∧ x.kind = tm.kind ∧ x.port = tm.port ∧ x.image = im.imageId
            ∧ x.evid = leNat (slice b 8 6))))
    ∧ (∀ x : SetInfo, d.brings l 1 4 m → l ∈ d.childLanes → (d.role = 2 ∨ d.role = 3) →
        let k := leNat (slice b 8 4)
        let r := d.flk.reduction.getD { image := image, step := step }
        let had := KMap.get [] r.lanes k
        let sum (i : Nat) : Int := KMap.get 0 r.sums (19 * k + i) + (chunkSums b).getD i 0
        let full := ∀ c ∈ d.holders image, c = l ∨ c ∈ had
        let done := ∀ j, j < x.chunks → j ∈ r.sent ∨ (full ∧ j = k)
        let chunk := leBytes 8 step ++ leBytes 4 k ++ (List.range 19).flatMap (fun i => s96Bytes (sum i))
        let ended (e : Die) : Prop := e.flk.reduction = none ∧ KMap.get 0 e.flk.reduced image = step + 1
        (step + 1 ≤ KMap.get 0 d.flk.reduced image → s.takes (.reduce l x) l 1 (fun e => e.flk = d.flk))
        ∧ (KMap.get 0 d.flk.reduced image ≤ step → (r.image ≠ image ∨ r.step ≠ step) → exec (.reduce l x) s = .next s)
        ∧ (KMap.get 0 d.flk.reduced image ≤ step → r.image = image → r.step = step → l ∈ had → s.takes (.reduce l x) l 1 (fun e => e.flk = d.flk))
        ∧ (KMap.get 0 d.flk.reduced image ≤ step → r.image = image → r.step = step → l ∉ had → s.takes (.reduce l x) l 1 (fun e =>
            (¬ done → ∃ y, e.flk.reduction = some y ∧ KMap.get [] y.lanes k = had ++ [l] ∧ (∀ i, i < 19 → KMap.get 0 y.sums (19 * k + i) = sum i)
                ∧ y.image = image ∧ y.step = step)
            ∧ (done → ended e)
            ∧ (∀ u, d.isTop = false → full → d.parentLane = some u → e.queued u 1 (flkMsg 4 d.epoch image chunk))
            ∧ (d.isTop = true → done → d.spreads e 1
                (flkMsg 6 d.epoch image (leBytes 8 step ++ leBytes 8 (step + x.delay) ++ leBytes 4 x.members ++ leBytes 1 1 ++ [0, 0, 0]))))))
    ∧ (∀ (x : SetInfo) r, d.flk.reduction = some r → d.isTop = true → s.completes (.reduceWait x) (fun t => t = { s with die := t.die }
        ∧ t.die.flk.reduction = none ∧ KMap.get 0 t.die.flk.reduced r.image = r.step + 1
        ∧ d.spreads t.die 1 (flkMsg 6 d.epoch r.image (leBytes 8 r.step ++ leBytes 8 (r.step + x.delay) ++ leBytes 4 x.members
            ++ leBytes 1 (if r.lanes.isEmpty then 2 else 1) ++ [0, 0, 0]))
        ∧ (r.lanes = [] → t.die.tally T.FLK_REDUCE_ABANDON = tallyAdd (d.tally T.FLK_REDUCE_ABANDON) 1)))
    ∧ (∀ x run, d.brings l 1 5 m → l ∈ d.parentLanes → d.member image = some x → d.runOf x step = some run →
        let k := leNat (slice b 8 4)
        let keys := (x.keys.drop (19 * k)).take 19
        (d.get R.UPD_STATUS_PHASE x.e < 3 → exec (.total l) s = .next s)
        ∧ (3 ≤ d.get R.UPD_STATUS_PHASE x.e → keys.Nodup → s.takes (.total l) l 1 (fun e =>
            (∀ i, i < keys.length → KMap.get 0 (e.updSt x.e).sums (keys.getD i 0) = (chunkSums b).getD i 0)
            ∧ (e.updSt x.e).run = some { run with chunks := if k ∈ run.chunks then run.chunks else run.chunks ++ [k] }
            ∧ (e.updSt x.e).masters = (d.updSt x.e).masters ∧ (d.role = 2 → d.spreads e 1 m))))
    ∧ (∀ x run, d.brings l 1 6 m → l ∈ d.parentLanes → d.member image = some x → d.runOf x step = some run → s.takes (.commit l) l 1 (fun e =>
        let flip := leNat (slice b 8 8)
        let late := (flip - x.im.stepBase.toNat) * ((stepN x.ei).getD 1) < (d.engPas x.e x.p).index
        ((byteAt b 20).toNat = 2 → (e.updSt x.e).run = none ∧ e.tally T.UPD_UPD_ABANDON x.e = tallyAdd (d.tally T.UPD_UPD_ABANDON x.e) 1)
        ∧ ((byteAt b 20).toNat ≠ 2 → late → (e.updSt x.e).run = none
            ∧ e.tally T.UPD_UPD_LATE_COMMIT x.e = tallyAdd (d.tally T.UPD_UPD_LATE_COMMIT x.e) 1)
        ∧ ((byteAt b 20).toNat ≠ 2 → ¬ late → (e.updSt x.e).run = some { run with flip := flip, committed := true })))
    ∧ (let judged (g : DigestSet) (e : Die) : Prop :=
         let all := (g.found.map (fun y => y.2)).sum + g.other + g.silent
         let msg (wd r : Nat) : List Byte := flkMsg 8 d.epoch g.image (leBytes 8 g.step ++ leBytes 8 wd ++ leBytes 1 r ++ [0, 0, 0])
         (∀ y ∈ e.flk.digests, y.image ≠ g.image ∨ y.step ≠ g.step)
         ∧ (∀ u, d.isTop = false → d.parentLane = some u → e.queued u 1 (flkMsg 7 d.epoch g.image (digestBody g)))
         ∧ (d.isTop = true → ∀ y, g.found.find? (fun y => decide (all < 2 * y.2)) = some y → d.spreads e 1 (msg y.1 1))
         ∧ (d.isTop = true → (∀ y ∈ g.found, 2 * y.2 ≤ all) → d.spreads e 1 (msg 0 2) ∧ e.on R.FLK_STATUS_SPLIT = true
             ∧ e.tally T.FLK_SPLITS = tallyAdd (d.tally T.FLK_SPLITS) 1)
       (d.brings l 1 7 m → l ∈ d.childLanes → s.takes (.flockDigest l) l 1 (fun e =>
          let es := ((List.range 4).map (fun i => (leNat (slice b (12 + 12 * i) 8), leNat (slice b (20 + 12 * i) 4)))).filter (fun y => y.2 != 0)
          let g := (d.flk.digests.find? (fun y => y.image == image && y.step == step)).getD { image := image, step := step }
          let h := { g.add es (leNat (slice b 60 4)) (leNat (slice b 8 4)) with lanes := g.lanes ++ [l] }
          (l ∈ g.lanes → e.flk = d.flk)
          ∧ (l ∉ g.lanes → (∀ c ∈ d.holders image, c ∈ h.lanes) → judged h e)
          ∧ (l ∉ g.lanes → (∃ c ∈ d.holders image, c ∉ h.lanes) → h ∈ e.flk.digests)))
       ∧ ∀ img silent g, d.flk.digests.find? (fun y => y.image == img) = some g → s.completes (.digestWait img silent) (fun t =>
          t = { s with die := t.die } ∧ judged (g.add [] 0 silent) t.die))
    ∧ (∀ x, d.brings l 1 8 m → l ∈ d.parentLanes → d.member image = some x → s.takes (.verdict l) l 1 (fun e =>
        let wd := leNat (slice b 8 8)
        let good := (byteAt b 16).toNat = 1
        let own := (KMap.get none (d.updSt x.e).sentWd step).getD (d.updSt x.e).wd
        (good → own = wd → bit (e.pair64 R.FLK_EXPELLED_LO R.FLK_EXPELLED_HI) x.p = false)
        ∧ (good → own ≠ wd → bit (d.pair64 R.FLK_EXPELLED_LO R.FLK_EXPELLED_HI) x.p = false →
            bit (e.pair64 R.FLK_EXPELLED_LO R.FLK_EXPELLED_HI) x.p = true ∧ e.tally T.FLK_EXPELS = tallyAdd (d.tally T.FLK_EXPELS) 1)
        ∧ (¬ good → bit (e.pair64 R.FLK_SET_HALT_LO R.FLK_SET_HALT_HI) x.p = true)))

/-- Flock-wide actions and messages (R453, R456, R463, R466, R472, R476, R482, R616): KILL, HALT, CANCEL_ALL, which a committed frame outlives, and RELEASE from
the parent act and go on to the children, and by writes of FLK_CONTROL begin at a shepherd; FORM begins a flock; FLK_ROLE changes only while no image is admitted; MREQ is executed for
M2 and answered.
What the spec leaves open here is the model's own: log entries 79, 80, 81, 82. -/
def Obligations.FlockActs : Prop :=
  ∀ (s : State) (l : Nat) (m : List Byte),
    let d := s.die
    let shepherd := d.role = 2 ∨ d.role = 3
    let msg (type : Nat) : List Byte := flkMsg type d.epoch 0 []
    let cancelled (t : State) : Prop := t.kill = s.kill ∧ (∀ q ∈ t.die.launch, ∀ e ∈ (if d.onLine q.1 = true then q.2.drop 1 else q.2), e.agreed = false)
      ∧ (∀ q ∈ d.launch, ∀ e ∈ q.2, e.agreed = false → ∃ r ∈ t.die.launch, r.1 = q.1 ∧ e ∈ r.2)
    let released (e : Die) : Prop := e.on R.FLK_STATUS_KILLED = false ∧ e.on R.FLK_STATUS_HALTED = false
      ∧ e.pair64 R.FLK_SET_HALT_LO R.FLK_SET_HALT_HI = 0
    (l ∈ d.parentLanes →
      (d.brings l 2 9 m → s.takes (.kill l) l 2 (fun e => e.on R.FLK_STATUS_KILLED = true ∧ (d.role = 2 → d.spreads e 2 m)))
      ∧ (d.brings l 2 11 m → s.takes (.flockHalt l) l 2 (fun e => e.on R.FLK_STATUS_HALTED = true ∧ (d.role = 2 → d.spreads e 2 m)))
      ∧ (d.brings l 2 10 m → s.takes (.release l) l 2 (fun e => released e ∧ (d.role = 2 → d.spreads e 2 m)))
      ∧ (d.brings l 2 12 m → s.completes (.cancelAll l) (fun t => cancelled t ∧ (d.role = 2 → d.spreads t.die 2 m))))
    ∧ (d.brings l 1 15 m → l ∈ d.childLanes → exec (.mrsp l) s = .next { s with die := d.dropMsg l 1 })
    ∧ (d.brings l 1 14 m → l ∈ d.parentLanes →
        let b := m.drop 8
        let n := (byteAt b 1).toNat
        let off := leNat (slice b 4 4)
        let u : State := { s with die := d.dropMsg l 1 }
        let answer (res : Nat) (data : List Byte) (t : State) : State := { t with die := t.die.sendUp 15 0 (leBytes 1 res ++ slice b 1 7 ++ data) }
        (((byteAt b 0).toNat = 0 ∨ 2 < (byteAt b 0).toNat ∨ n = 0 ∨ 16 < n ∨ off % 4 ≠ 0) → exec (.mreq l) s = .next (answer 2 [] u))
        ∧ ((byteAt b 0).toNat = 1 → n = 1 → off % 4 = 0 → 8 ≤ b.length →
            exec (.mreq l) s = .next (answer 1 (leBytes 4 (u.busRead .m2 off).1) (u.busRead .m2 off).2))
        ∧ ((byteAt b 0).toNat = 2 → n = 1 → off % 4 = 0 → 12 ≤ b.length →
            exec (.mreq l) s = .next (answer 1 [] (u.busWrite .m2 off (leNat (slice b 8 4))))))
    ∧ (d.on R.FLK_MSG_CTL_ENABLE = true → d.get R.FLK_MSG_HEAD_VALUE ≠ d.get R.FLK_MSG_TAIL_VALUE →
        let tail := d.get R.FLK_MSG_TAIL_VALUE
        let slot := d.hostRead 0 (d.addr64 R.FLK_MSG_BASE_LO R.FLK_MSG_BASE_HI + tail % 2 ^ d.get R.FLK_MSG_CTL_LOG2SIZE * 64) 52
        let good := (byteAt slot 0).toNat = 3 ∧ d.isTop = true ∧ d.get R.FLK_STATUS_STATE = 5
        s.completes .flockMsgSend (fun t => t = { s with die := t.die } ∧ t.die.get R.FLK_MSG_TAIL_VALUE = (tail + 1) % 2 ^ 32
          ∧ (good → d.spreads t.die 1 (overlay slot 2 (leBytes 2 d.epoch)))
          ∧ (¬ good → t.die.tally T.FLK_MSG_BAD = tallyAdd (d.tally T.FLK_MSG_BAD) 1 ∧ t.die.lanes = d.lanes)))
    ∧ (∀ src (w : Word), s.admits src .FLK 0 0x018 →
        let act (c : Instr) (n : Nat) (P : State → Prop) : Prop := lowestWo w.toNat [0, 1, 2, 3, 4] = some n → s.completes c P
        (d.role = 2 → d.level = 1 → d.get R.FLK_STATUS_STATE ≠ 6 → act (.form src w) 0 (fun t => t = { s with die := t.die } ∧ t.die.get R.FLK_STATUS_STATE = 5
            ∧ t.die.fc = max d.fc (d.nOf 0)))
        ∧ (shepherd → act (.flkControlKill src w) 1 (fun t => t = { s with die := t.die } ∧ t.die.on R.FLK_STATUS_KILLED = true
            ∧ d.spreads t.die 2 (msg 9)))
        ∧ (shepherd → act (.flkControlHalt src w) 2 (fun t => t = { s with die := t.die } ∧ t.die.on R.FLK_STATUS_HALTED = true
            ∧ d.spreads t.die 2 (msg 11)))
        ∧ (shepherd → act (.flkControlCancelAll src w) 3 (fun t => cancelled t ∧ d.spreads t.die 2 (msg 12)))
        ∧ (shepherd → act (.flkControlRelease src w) 4 (fun t => t = { s with die := t.die } ∧ released t.die ∧ d.spreads t.die 2 (msg 10))))
    ∧ (∀ src (w : Word), s.admits src .FLK 0 0x010 →
        let role := bits w.toNat 0 2
        let ok := roleOk role (bits w.toNat 2 2) (bits w.toNat 4 1) = true ∧ (∀ p, p < 64 → (d.pasture p).adm = false) ∧ (2 ≤ role → d.updOwner 0 = none)
        (ok → s.completes (.flkRole src w) (fun t => t = { s with die := t.die } ∧ t.die.role = role ∧ t.die.level = bits w.toNat 2 2
          ∧ t.die.get R.FLK_ROLE_HALF = bits w.toNat 4 1 ∧ t.die.get R.FLK_STATUS_STATE = (if role = 3 then 6 else 0)
          ∧ t.die.get R.FLK_STATUS_JOIN_RESULT = 0 ∧ t.die.flk.kids = []))
        ∧ (¬ ok → s.completes (.flkRole src w) (fun t => t = { s with die := { d with regs := t.die.regs } } ∧ t.die.role = d.role
          ∧ t.die.level = d.level ∧ t.die.on R.FLK_STATUS_ROLE_REFUSED = true)))

/-- Who holds the crook (R478, R479, R484 to R487, R583, R602, R607, R621): a claim in an election counts, or takes the crook once its 100 ms have passed;
the election closes by the order; heartbeat loss and the loss of the holder's path open an election and lock every expert area; a handover is asked for, accepted
or lapses.
What the spec leaves open here is the model's own: log entries 83, 85. -/
def Obligations.CrookPasses : Prop :=
  ∀ (s : State),
    let d := s.die
    let held := d.on R.OWN_STATUS_HELD
    let election := d.on R.OWN_STATUS_ELECTION
    let goes (c : Instr) (P : Die → Prop) : Prop := s.completes c (fun t => t = { s with die := t.die } ∧ t.die.tiles = d.tiles ∧ t.die.pas = d.pas
      ∧ t.die.grants = d.grants ∧ P t.die)
    let takes (m : Nat) (e : Die) : Prop := e.holds m = true ∧ e.on R.OWN_STATUS_ELECTION = false ∧ e.on R.OWN_STATUS_PENDING = false ∧ e.claims = []
      ∧ e.heartbeat = 0 ∧ (∀ base, base % 0x1000 = 0 → e.on (pageExpert base) = false)
    let opens (e : Die) : Prop := e.on R.OWN_STATUS_HELD = false ∧ e.on R.OWN_STATUS_ELECTION = true ∧ e.on R.OWN_STATUS_PENDING = false
      ∧ e.tally T.OWN_ELECTIONS = tallyAdd (d.tally T.OWN_ELECTIONS) 1 ∧ e.claims = [] ∧ e.electionNs = d.ns + 1
      ∧ (∀ base, base % 0x1000 = 0 → e.on (pageExpert base) = false)
    let denied (m : Nat) (e : Die) : Prop := e.tally (T.OWN_OWN_DENIED m) = tallyAdd (d.tally (T.OWN_OWN_DENIED m)) 1 ∧ d.report e
    (∀ src (w : Word), (∀ p, src ≠ .vf p) → d.pathUp src = true → d.answers src .OWN = true →
      let m := srcNum src
      (bit w.toNat 0 = true →
        (d.holds m = true → goes (.claim src w) (fun e => e = d))
        ∧ (d.holds m = false → election = true → d.eligible m = true →
            (d.electionNs = 0 → goes (.claim src w) (takes m))
            ∧ (d.electionNs ≠ 0 → goes (.claim src w) (fun e => m ∈ e.claims ∧ (∀ k ∈ e.claims, k = m ∨ k ∈ d.claims) ∧ e = { d with claims := e.claims })))
        ∧ (d.holds m = false → (election = false ∨ d.eligible m = false) → goes (.claim src w) (denied m)))
      ∧ (bit w.toNat 0 = false → bit w.toNat 1 = true →
        let mine := d.on R.OWN_STATUS_PENDING = true ∧ d.get R.OWN_STATUS_TARGET = m
        (mine → goes (.handoverAccept src w) (takes m)) ∧ (¬ mine → goes (.handoverAccept src w) (denied m))))
    ∧ (election = true → d.electionNs ≠ 0 →
        (∀ m, d.otp.order.find? (fun m => d.claims.contains m && d.eligible m) = some m → goes .electionClose (takes m))
        ∧ ((∀ m ∈ d.otp.order, m ∈ d.claims → d.eligible m = false) → goes .electionClose (fun e => e = { d with claims := [], electionNs := 0 })))
    ∧ (∀ src w, s.admits src .OWN 0 0x014 → goes (.ownHeartbeat src w) (fun e => e = { d with heartbeat := 0 }))
    ∧ (held = true → goes .heartbeatLoss (fun e => opens e
        ∧ e.tally T.OWN_HEARTBEAT_LOSS = tallyAdd (d.tally T.OWN_HEARTBEAT_LOSS) 1))
    ∧ (∀ src (w : Word), s.admits src .OWN 0 0x018 → bit w.toNat 4 = true →
        let t := bits w.toNat 0 2
        (d.holds t = true → goes (.handoverRequest src w) (fun e => e.on R.OWN_STATUS_PENDING = false ∧ e.holds t = true))
        ∧ (d.holds t = false → d.eligible t = true → goes (.handoverRequest src w) (fun e => e.on R.OWN_STATUS_PENDING = true
            ∧ e.get R.OWN_STATUS_TARGET = t ∧ e.handover = 0 ∧ ∀ m, e.holds m = d.holds m))
        ∧ (d.holds t = false → d.eligible t = false → goes (.handoverRequest src w) (fun e =>
            e.on R.OWN_STATUS_PENDING = d.on R.OWN_STATUS_PENDING ∧ e.get R.OWN_STATUS_TARGET = d.get R.OWN_STATUS_TARGET ∧ ∀ m, e.holds m = d.holds m)))
    ∧ (d.on R.OWN_STATUS_PENDING = true → goes .handoverExpired (fun e => e.on R.OWN_STATUS_PENDING = false ∧ (∀ m, e.holds m = d.holds m)
        ∧ e.tally T.OWN_HANDOVER_EXPIRED = tallyAdd (d.tally T.OWN_HANDOVER_EXPIRED) 1))
    ∧ (d.on R.PCI_STATUS_LINK_UP = true → goes .pcieLinkDown (fun e => e.on R.PCI_STATUS_LINK_UP = false ∧ e.eligible 0 = false
        ∧ e.tally T.PCI_PCIE_DOWN = tallyAdd (d.tally T.PCI_PCIE_DOWN) 1 ∧ (d.holds 0 = true → opens e)
        ∧ ∀ m, m ≠ 0 → d.holds m = true → d.eligible m = true → e.holds m = true))
    ∧ (∀ speed width vfs, goes (.pcieLinkUp speed width vfs) (fun e => e.eligible 0 = true ∧ e.get R.PCI_STATUS_SPEED = speed % 16
        ∧ e.get R.PCI_STATUS_WIDTH = width % 32 ∧ e.get R.PCI_STATUS_NUMVFS = min vfs 64 ∧ (∀ m, e.holds m = d.holds m)
        ∧ e = { d with regs := e.regs }))

/-- Lifecycle, keys, the debug request and grants, by writes that the device performs (R302, R490, R491, R496 to R501, R503, R504, R506, R596): a transition
that R496 does not allow is refused; a key slot is programmed once and revoked at most once; a grant is staged from the pasture's and takes force if nothing
stands against it.
What the spec leaves open here is the model's own: log entries 84, 86, 87. -/
def Obligations.OwnershipManaged : Prop :=
  ∀ (s : State) (src : Source) (w : Word),
    let d := s.die
    let n := w.toNat
    let at_ (off : Nat) (c : Instr) (P : State → Prop) : Prop := s.admits src .OWN 0 off → s.completes c P
    let slot (e : Die) (i : Nat) : KeySlot := e.otp.slot i
    let i := bits n 0 3
    let key : List Byte := d.hostRead 0 d.hostAddr 96
    let lc := d.otp.lifecycle
    let keyGoes (c : Instr) (r : Nat) : Prop := at_ 0x02C c (fun t => t = { s with die := { d with regs := t.die.regs, otp := t.die.otp } }
      ∧ t.die.get R.OWN_STATUS_KEY_RESULT = r ∧ (r ≠ 1 → t.die.otp = d.otp) ∧ ∀ j, j ≠ i → slot t.die j = slot d j)
    (∀ fail, bit n 8 = true →
      (2 ≤ lc → keyGoes (.keyProgram src w fail) 2)
      ∧ (lc < 2 → (slot d i).programmed = true → keyGoes (.keyProgram src w fail) 3)
      ∧ (lc < 2 → (slot d i).programmed = false → fail = true → keyGoes (.keyProgram src w fail) 6)
      ∧ (lc < 2 → (slot d i).programmed = false → fail = false →
          ((onCurve (beNat (key.take 48)) (beNat (key.drop 48)) = false ∨ (bit n 4 = false ∧ bit n 5 = false)) → keyGoes (.keyProgram src w fail) 4)
          ∧ (onCurve (beNat (key.take 48)) (beNat (key.drop 48)) = true → (bit n 4 = true ∨ bit n 5 = true) →
              keyGoes (.keyProgram src w fail) 1
              ∧ at_ 0x02C (.keyProgram src w fail) (fun t => slot t.die i = ⟨beNat (key.take 48), beNat (key.drop 48), true, false, bit n 4, bit n 5⟩))))
    ∧ (bit n 8 = false → bit n 9 = true →
      let last := (lc = 1 ∨ lc = 2) ∧ ∀ j, j < 8 → j ≠ i → (slot d j).signs = false
      (lc = 4 → keyGoes (.keyRevoke src w) 2)
      ∧ (lc ≠ 4 → ((slot d i).programmed = false ∨ (slot d i).revoked = true) → keyGoes (.keyRevoke src w) 3)
      ∧ (lc ≠ 4 → (slot d i).programmed = true → (slot d i).revoked = false →
          (last → keyGoes (.keyRevoke src w) 5)
          ∧ (¬ last → keyGoes (.keyRevoke src w) 1
              ∧ at_ 0x02C (.keyRevoke src w) (fun t => slot t.die i = { slot d i with revoked := true }))))
    ∧ at_ 0x01C (.debugRequest src w) (fun t => t = { s with die := t.die } ∧ t.die.get R.OWN_DEBUG_REQUEST = bits n 0 2
        ∧ t.die.otp = d.otp ∧ (t.die.debug ≠ 3 → t.die.stopped = [] ∧ t.die.holds 3 = false))
    ∧ (bit n 8 = true → at_ 0x030 (.grantLoad src w) (fun t => t = { s with die := { d with regs := t.die.regs } }
        ∧ ∀ k, k < 16 → t.die.get (R.OWN_GRANT_DATA k) = leNat (slice (d.grant (bits n 0 6)) (4 * k) 4) % 2 ^ 32))
    ∧ (bit n 8 = false → bit n 9 = true →
        let p := bits n 0 6
        let g := d.stagedGrant
        let r := (d.setFields .OWN 0 0x030 n).grantResult s.fused p g
        at_ 0x030 (.grantCommit src w) (fun t => t = { s with die := t.die } ∧ t.die.get R.OWN_STATUS_GRANT_RESULT = r
          ∧ (r ≠ 1 → t.die.grants = d.grants ∧ t.die.pas = d.pas) ∧ (r = 1 → t.die.grant p = g)
          ∧ ∀ q, q ≠ p → t.die.grant q = d.grant q))
    ∧ (∀ fail, bit n 3 = true → 1 ≤ i → i ≤ 4 →
        let signing := ∃ j, j < 8 ∧ (slot d j).signs = true
        let goes (P : State → Prop) : Prop := at_ 0x020 (.lifecycleGo src w fail) P
        (lifecycleFrom i lc = false → goes (fun t => t.cel = s.cel ∧ t.kill = s.kill ∧ t.die.otp = d.otp ∧ t.die.pas = d.pas
            ∧ t.die.get R.OWN_STATUS_LC_RESULT = 2))
        ∧ (lifecycleFrom i lc = true → (i = 1 ∨ i = 2) → (signing → goes (fun t => t.die.otp = { d.otp with lifecycle := i } ∧ t.die.pas = d.pas
              ∧ t.die.get R.OWN_STATUS_LC_RESULT = 1))
            ∧ (¬ signing → goes (fun t => t.die.otp = d.otp ∧ t.die.get R.OWN_STATUS_LC_RESULT = 3)))
        ∧ (lifecycleFrom i lc = true → i = 4 →
            (bits n 16 16 = 0xDEF0 → goes (fun t => t.die.otp.lifecycle = 4 ∧ t.die.get R.OWN_STATUS_LC_RESULT = 1
                ∧ (∀ j, j < 8 → (slot t.die j).revoked = true) ∧ t.die.aliveOn = false ∧ t.die.get R.FLK_STATUS_JOIN_RESULT = 0))
            ∧ (bits n 16 16 ≠ 0xDEF0 → goes (fun t => t.die.otp = d.otp ∧ t.die.get R.OWN_STATUS_LC_RESULT = 3)))
        ∧ (lifecycleFrom i lc = true → i = 3 → fail = true → goes (fun t => t.die.otp = d.otp ∧ t.die.pas = d.pas
            ∧ t.die.get R.OWN_STATUS_LC_RESULT = 6 ∧ t.die.free = d.free + 1)))

/-- Errors of stored words and blocks (R509 to R516, R520, R521, R146): a scrub read of a word in error counts CE or, in data-class memory, UE and leaves the
word in the poison pattern; in control-class memory it ends in a fault reset. A failed tag check counts its verdict; a block that cannot be delivered leaves its
destination poisoned or ends its load. RELEASE of a quarantine works unless it is persistent.
What the spec leaves open here is the model's own: log entries 59, 88, 89, 119. -/
def Obligations.ErrorsFound : Prop :=
  ∀ (s : State),
    let d := s.die
    (∀ kind loc err last, kind ∈ [1, 2, 5, 6, 7, 15, 16, 17, 18] →
      let key := eccKey kind loc
      let found := max err (KMap.get 0 d.ecc key)
      let c := Instr.scrubRead kind loc err last
      let counted (f : Tal) (t : State) : Prop := t.die.tally f = tallyAdd (d.tally f) 1
      (KMap.get false d.poison key = true → s.completes c (fun t => t = { s with die := t.die } ∧ d.report t.die ∧ counted T.CHK_POISON_READ t))
      ∧ (KMap.get false d.poison key = false →
          (found = 0 → s.completes c (fun t => t = { s with die := t.die } ∧ d.report t.die ∧ (last = false → t = s)
              ∧ (last = true → counted T.CHK_SCRUB_PASSES t)))
          ∧ (found = 1 → s.completes c (fun t => t = { s with die := t.die } ∧ counted (T.CHK_CE kind) t ∧ KMap.get 0 t.die.ecc key = 0
              ∧ t.die.poison = d.poison ∧ t.die.tiles = d.tiles ∧ t.die.rows = d.rows ∧ t.die.dir = d.dir))
          ∧ (2 ≤ found → (kind = 1 ∨ kind = 5 ∨ kind = 6 ∨ kind = 7) → s.completes c (fun t => t = { s with die := t.die } ∧ counted (T.CHK_UE kind) t
              ∧ KMap.get 0 t.die.ecc key = 0 ∧ KMap.get false t.die.poison key = true
              ∧ (∀ k, k ≠ key → KMap.get false t.die.poison k = KMap.get false d.poison k) ∧ t.die.tiles = d.tiles ∧ t.die.rows = d.rows))
          ∧ (2 ≤ found → (kind = 2 ∨ kind = 15 ∨ 17 ≤ kind) → s.completes c (fun t => t.die.restoring = true ∧ t.die.up = false
              ∧ t.die.get R.PWR_STATUS_LAST_RESET = 3 ∧ t.kill = s.kill))))
    ∧ (∀ x : TagCheck, tagKnown x = true →
        let source := x.eccOk = false ∨ x.tagSrc ≠ x.tag1
        let path := ¬ source ∧ crc32c (padTo 256 x.data2) = x.tag1.toNat
        (source → (controlKind x.kind = false ∨ x.eccOk = true) → s.completes (.tagCheckFail x) (fun t => t = { s with die := t.die }
            ∧ t.die.tally T.CHK_SOURCE = tallyAdd (d.tally T.CHK_SOURCE) 1
            ∧ (x.load = none → (∀ l ∈ x.dstLocs, KMap.get false t.die.poison (eccKey x.dstKind l) = true)
                ∧ t.die.tally T.CHK_TAG_POISON = tallyAdd (d.tally T.CHK_TAG_POISON) 1)
            ∧ (∀ e n, x.load = some e → x.tile = some n → KMap.get (0, 0, 0) d.loads (e * 4 + n % 512 / 128) ≠ (0, 0, 0) →
                ((KMap.get (0, 0, 0) d.loads (e * 4 + n % 512 / 128)).2.2 = 0 ∨ (KMap.get (0, 0, 0) d.loads (e * 4 + n % 512 / 128)).2.2 = 4) →
                KMap.get (0, 0, 0) t.die.loads (e * 4 + n % 512 / 128) = (0, 0, 0) ∧ t.die.get R.ENG_STATUS_LOAD_RESULT e = 3
                ∧ (x.eccOk = true → t.die.poison = d.poison) ∧ (x.eccOk = false → KMap.get false t.die.poison (eccKey x.kind x.loc) = true))
            ∧ (x.eccOk = false → (x.load = none → KMap.get false t.die.poison (eccKey x.kind x.loc) = true)
                ∧ t.die.tally (T.CHK_UE x.kind) = tallyAdd (d.tally (T.CHK_UE x.kind)) 1)))
        ∧ (¬ source → ¬ path → x.data2 ≠ x.data1 → x.load = none → s.completes (.tagCheckFail x) (fun t => t = { s with die := t.die }
            ∧ t.die.tally T.CHK_PATH = tallyAdd (d.tally T.CHK_PATH) 1 ∧ t.die.tally T.CHK_TAG_POISON = tallyAdd (d.tally T.CHK_TAG_POISON) 1
            ∧ ∀ l ∈ x.dstLocs, KMap.get false t.die.poison (eccKey x.dstKind l) = true))
        ∧ (path → s.completes (.tagCheckFail x) (fun t => t = { s with die := t.die } ∧ d.report t.die
            ∧ t.die.tally T.CHK_PATH = tallyAdd (d.tally T.CHK_PATH) 1))
        ∧ (¬ source → ¬ path → x.data2 = x.data1 → s.completes (.tagCheckFail x) (fun t => t = { s with die := t.die }
            ∧ t.die.tally T.CHK_CHECKER = tallyAdd (d.tally T.CHK_CHECKER) 1
            ∧ (x.echoEcc = true → crc32c (padTo 256 x.echo) = x.tag1.toNat → t.die.poison = d.poison
                ∧ ∀ n, x.tile = some n → t.die.on R.SHD_STATUS_OBSERVED (n / 512) = true))))
    ∧ (∀ src p (w : Word), p < 64 → s.admits src .PAS p 0x020 → bit w.toNat 1 = true → s.completes (.quarantineRelease src p w) (fun t =>
        t = { s with die := { d with regs := t.die.regs } }
        ∧ (d.on R.PAS_QUARANTINE_STATUS_PERSISTENT p = true →
            t.die.get R.PAS_QUARANTINE_STATUS_QUARANTINED p = d.get R.PAS_QUARANTINE_STATUS_QUARANTINED p)
        ∧ (d.on R.PAS_QUARANTINE_STATUS_PERSISTENT p = false → t.die.on R.PAS_QUARANTINE_STATUS_QUARANTINED p = false)))
    ∧ (d.restoring = true → s.cel.up = true → s.completes .restoreDone (fun t => t.cel = s.cel ∧ t.die.restoring = false ∧ t.die.up = true
        ∧ t.kill = { s.kill with running := true } ∧ t.die.on R.OWN_STATUS_HELD = false ∧ t.die.on R.OWN_STATUS_ELECTION = true
        ∧ ∀ k, 15 ≤ k / 2 ^ 40 → k / 2 ^ 40 ≤ 19 → KMap.get 0 t.die.ecc k = 0))

/-- The Sheepdog (R522 to R533): a pattern that runs writes only beats 1,016 onward, and by the digests that its run and its rerun bring it passes, is a transient,
or a confirmed failure; a pack takes force where it verifies; observation begins and ends; a muster quiesces its engine and ends with a reload. The writes are
those that the device performs.
What the spec leaves open here is the model's own: log entries 90, 91, 92. -/
def Obligations.SheepdogRuns : Prop :=
  ∀ (s : State),
    let d := s.die
    let goes (c : Instr) (P : Die → Prop) : Prop := s.completes c (fun t => t = { s with die := t.die } ∧ t.die.grants = d.grants ∧ t.die.rows = d.rows
      ∧ t.die.dir = d.dir ∧ P t.die)
    (∀ tile err1 err2 k i x, tile < 4096 → tile % 32 < 24 →
      let e := tile / 512
      let pos := if (d.sheep e).tile = tile % 512 then (d.sheep e).pos else 0
      let last := (patrolOf k).length ≤ pos + 1
      let tested := (d.sheep e).tested ++ [tile % 512]
      (d.sheep e).pack = some k → (patrolOf k)[pos]? = some (i, x) →
      ((d.sheepMay tile = false ∨ d.sheepTurn e (tile % 512) = false) → goes (.shdPattern tile err1 err2) (fun f => f = d))
      ∧ (d.sheepMay tile = true → d.sheepTurn e (tile % 512) = true → d.ecc = [] → d.poison = [] →
      let run := patternRun s.fused tile x (d.beat tile)
      let obs1 := BitVec.ofNat 64 run.1 ^^^ err1
      let obs2 := BitVec.ofNat 64 run.1 ^^^ err2
      goes (.shdPattern tile err1 err2) (fun f => (∀ j, j < 8 → f.beat tile (1016 + j) = run.2.beat tile (1016 + j))
        ∧ (∀ a, a < 1016 → f.beat tile a = d.beat tile a) ∧ (∀ t, t ≠ tile → f.tile t = d.tile t)
        ∧ (obs1 = x.expected → f.tally T.SHD_SHD_TRANSIENT e = d.tally T.SHD_SHD_TRANSIENT e ∧ f.tally T.SHD_SHD_FAIL e = d.tally T.SHD_SHD_FAIL e)
        ∧ (obs1 ≠ x.expected → obs2 = x.expected → f.tally T.SHD_SHD_TRANSIENT e = tallyAdd (d.tally T.SHD_SHD_TRANSIENT e) 1
            ∧ f.tally T.SHD_SHD_FAIL e = d.tally T.SHD_SHD_FAIL e)
        ∧ (obs1 ≠ x.expected → obs2 ≠ x.expected → f.tally T.SHD_SHD_FAIL e = tallyAdd (d.tally T.SHD_SHD_FAIL e) 1
            ∧ f.on R.SHD_STATUS_FAILED e = true ∧ f.on R.SHD_STATUS_OBSERVED e = true)
        ∧ (last → f.passEnds e tested = true → (f.sheep e).tile = 0 ∧ (f.sheep e).pos = 0 ∧ (f.sheep e).tested = []
            ∧ f.tally T.SHD_PASSES e = tallyAdd (d.tally T.SHD_PASSES e) 1)
        ∧ (last → f.passEnds e tested = false → (f.sheep e).tile = tile % 512 ∧ (f.sheep e).pos = 0 ∧ (f.sheep e).tested = tested
            ∧ f.tally T.SHD_PASSES e = d.tally T.SHD_PASSES e)
        ∧ (¬ last → (f.sheep e).tile = tile % 512 ∧ (f.sheep e).pos = pos + 1 ∧ (f.sheep e).tested = (d.sheep e).tested
            ∧ f.tally T.SHD_PASSES e = d.tally T.SHD_PASSES e))))
    ∧ (∀ src e (w : Word), e < 8 →
      (s.admits src .SHD e 0x020 → bit w.toNat 0 = true → bit w.toNat 1 = false → ∀ fail,
        let bs : Option (List Byte) := if bit w.toNat 2 then some ((d.sheep e).stage.flatMap (fun y => leBytes 4 y.toNat))
          else if fail then none else some (d.hostRead 0 (d.addr64 R.SHD_PACK_ADDR_LO R.SHD_PACK_ADDR_HI e) (d.get R.SHD_PACK_LEN_VALUE e))
        let r := (d.setFields .SHD e 0x020 w.toNat).packResult e bs (d.get R.SHD_PACK_LEN_VALUE e)
        goes (.packLoad src e w fail) (fun f => f.get R.SHD_STATUS_PACK_RESULT e = r ∧ (r ≠ 1 → f.shd = d.shd)
          ∧ (∀ y, r = 1 → bs = some y → (f.sheep e).pack = some (parsePack y).1 ∧ (f.sheep e).pos = 0
              ∧ f.get R.SHD_PACK_VERSION_VALUE e = (parsePack y).1.version.toNat)
          ∧ (bs = none → r = 5) ∧ ∀ g, g ≠ e → f.sheep g = d.sheep g))
      ∧ (s.admits src .SHD e 0x020 → bit w.toNat 0 = false → bit w.toNat 3 = true → goes (.stageReset src e w) (fun f => (f.sheep e).stage = []
          ∧ (f.sheep e).pack = (d.sheep e).pack ∧ ∀ g, g ≠ e → f.sheep g = d.sheep g))
      ∧ (s.admits src .SHD e 0x024 → goes (.packWinWrite src e w) (fun f => (f.sheep e).stage = (d.sheep e).stage ++ [w]
          ∧ f = { d with shd := f.shd } ∧ ∀ g, g ≠ e → f.sheep g = d.sheep g))
      ∧ (s.admits src .SHD e 0x010 → bit w.toNat 0 = true → bit w.toNat 1 = false → bit w.toNat 2 = false → goes (.observe src e w) (fun f =>
          f.on R.SHD_STATUS_OBSERVED e = true ∧ f.tally T.SHD_OBSERVATIONS e =
            (if d.on R.SHD_STATUS_OBSERVED e then d.tally T.SHD_OBSERVATIONS e else tallyAdd (d.tally T.SHD_OBSERVATIONS e) 1)))
      ∧ (s.admits src .SHD e 0x010 → bit w.toNat 0 = false → bit w.toNat 1 = true → goes (.observeEnd src e w) (fun f =>
          f.on R.SHD_STATUS_OBSERVED e = false ∧ f.tally T.SHD_OBSERVATIONS e = d.tally T.SHD_OBSERVATIONS e))
      ∧ (s.admits src .SHD e 0x010 → bit w.toNat 0 = false → bit w.toNat 1 = false → bit w.toNat 2 = true →
          let busy := d.engBusy e = true ∨ (d.sheep e).muster = true
          (busy → goes (.muster src e w) (fun f => f.get R.SHD_STATUS_MUSTER e = 4 ∧ f = { d with regs := f.regs }))
          ∧ (¬ busy → goes (.muster src e w) (fun f => f.get R.SHD_STATUS_MUSTER e = 1 ∧ (f.sheep e).muster = true ∧ f.tiles = d.tiles
              ∧ ∀ q p, q < 4 → d.quarterOwner e q = some p → KMap.get false f.closed (e * 4 + q) = true))))
    ∧ (∀ e fail lost, e < 8 → (d.sheep e).muster = true → (∀ p ∈ d.engPastures e, (d.engPas e p).flight = []) → goes (.musterDone e ⟨fail, lost⟩) (fun f =>
        (f.sheep e).muster = false ∧ f.tally T.SHD_MUSTERS e = tallyAdd (d.tally T.SHD_MUSTERS e) 1
        ∧ (∀ q p im ei, q < 4 → bit lost q = true → KMap.get (0, 0, 0) d.loads (e * 4 + q) = (0, 0, 0) → d.qstate e q ≠ 0 →
            d.quarterOwner e q = some p → d.image p = some im → engOf im e = some ei → f.qstate e q = 0)
        ∧ (fail = none → f.get R.SHD_STATUS_MUSTER e = 2)
        ∧ (fail ≠ none → f.get R.SHD_STATUS_MUSTER e = 3 ∧ f.on R.SHD_STATUS_FAILED e = true ∧ f.on R.SHD_STATUS_OBSERVED e = true)))

/-- The Loft's controls (R555, R556, R559 to R562, R567), by writes that the device performs and by its events: ARM, DUMP, TRIGGER and DISARM of the
first-failure region, its freeze, and the lanes a write of LFT_CONTROL names.
What the spec leaves open here is the model's own: log entries 29, 33, 34. -/
def Obligations.LoftControlled : Prop :=
  ∀ (s : State) (src : Source) (w : Word),
    let d := s.die
    let n := w.toNat
    let state := d.get R.LFT_STATUS_FF_STATE
    let busy := d.on R.LFT_STATUS_DUMP_BUSY
    let goes (c : Instr) (P : Die → Prop) : Prop := s.completes c (fun t =>
      t = { s with die := { d with regs := t.die.regs, tallies := t.die.tallies, loft := t.die.loft, host := t.die.host, emits := t.die.emits } } ∧ P t.die)
    (state = 2 → d.get R.LFT_FF_POST * 16384 ≤ d.loft.ffAfter → goes .captureFreeze (fun e => e.get R.LFT_STATUS_FF_STATE = 3 ∧ e.loft = d.loft))
    ∧ ((state ≠ 2 ∨ d.loft.ffAfter < d.get R.LFT_FF_POST * 16384) → exec .captureFreeze s = .next s)
    ∧ goes .dumpDone (fun e => e.on R.LFT_STATUS_DUMP_BUSY = false ∧ e.loft = d.loft ∧ e.host = d.host)
    ∧ (s.admits src .LFT 0 0x014 →
        (bit n 0 = true → goes (.arm src w) (fun e =>
          (busy = false → e.get R.LFT_STATUS_FF_STATE = 1 ∧ e.get R.LFT_STATUS_CAUSE = 0 ∧ e.loft = { d.loft with ff := [], ffAfter := 0 })
          ∧ (busy = true → e.get R.LFT_STATUS_FF_STATE = state ∧ e.loft = d.loft)))
        ∧ (bit n 0 = false → bit n 1 = true → busy = false → goes (.dump src w) (fun e => e.on R.LFT_STATUS_DUMP_BUSY = true ∧ e.loft = d.loft
          ∧ e.get R.LFT_STATUS_FF_STATE = state
          ∧ (d.loft.ff.flatten.length ≤ ffBytes → e.hostRead 0 (d.addr64 R.LFT_DUMP_ADDR_LO R.LFT_DUMP_ADDR_HI) ffBytes = padTo ffBytes d.loft.ff.flatten)))
        ∧ (bit n 0 = false → bit n 1 = false → bit n 2 = true → bit (d.get R.LFT_INC_MASK_MASK) 11 = true → state = 1 →
            goes (.trigger src w) (fun e => e.get R.LFT_STATUS_FF_STATE = 2 ∧ e.get R.LFT_STATUS_CAUSE = 12
              ∧ e.pair64 R.LFT_FF_FC_LO R.LFT_FF_FC_HI = d.fc % 2 ^ 64))
        ∧ (bit n 0 = false → bit n 1 = false → bit n 2 = false → bit n 3 = true → goes (.disarm src w) (fun e =>
            e.get R.LFT_STATUS_FF_STATE = (if state = 1 ∨ state = 2 then 0 else state) ∧ e.loft = d.loft)))
    ∧ (s.admits src .LFT 0 0x010 →
        let two := bit n 1 = true ∧ bit n 2 = true
        let serve := (bit n 1 = true → d.loftLane (bits n 8 6) = true) ∧ (two → d.loftLane (bits n 16 6) = true ∧ bits n 8 6 ≠ bits n 16 6)
        (serve → goes (.lftControl src w) (fun e => e.on R.LFT_CONTROL_PCIE = bit n 0 ∧ e.on R.LFT_CONTROL_LANES = bit n 1
            ∧ e.on R.LFT_CONTROL_TWO = bit n 2 ∧ e.get R.LFT_CONTROL_LANE_A = bits n 8 6 ∧ e.get R.LFT_CONTROL_LANE_B = bits n 16 6
            ∧ (d.on R.LFT_CONTROL_PCIE = false → bit n 0 = true → e.get R.LFT_RING_HEAD_VALUE = 0 ∧ e.get R.LFT_RING_TAIL_VALUE = 0)))
        ∧ (¬ serve → goes (.lftControl src w) (fun e => e.on R.LFT_STATUS_LANES_REFUSED = true ∧ e.get R.LFT_CONTROL_PCIE = d.get R.LFT_CONTROL_PCIE
            ∧ e.get R.LFT_CONTROL_LANE_A = d.get R.LFT_CONTROL_LANE_A)))

/-- Timing and the master PLL (R30 to R33, R35, R302, R367, R577): APPLY that the device performs, no admission being in progress, refuses with the code of what stands
against it or begins the change, which is then in force; the reference is lost, waited for, returns, and the PLL locks again.
What the spec leaves open here is the model's own: log entries 8, 123, 125. -/
def Obligations.TimingChanges : Prop :=
  ∀ (s : State),
    let d := s.die
    let goes (c : Instr) (P : Die → Prop) : Prop := s.completes c (fun t => t = { s with die := t.die } ∧ t.die.tiles = d.tiles ∧ t.die.pas = d.pas ∧ P t.die)
    (∀ src (w : Word), s.admits src .DEV 0 0x010 → bit w.toNat 31 = true → d.on R.DEV_TIMING_STATUS_BUSY = false →
        (∀ p, p < 64 → d.on R.PAS_ADMIT_STATUS_BUSY p = false) → bits w.toNat 0 2 ≤ 1 → bits w.toNat 4 2 ≤ 2 →
        let mode := bits w.toNat 0 2
        let point := bits w.toNat 4 2
        let refuse (y : Nat) : Nat := if s.fused.maxMHz < pointMHz point then 2 else if (point = 2 ∧ y ≠ 0) ∨ (mode = 1 ∧ y = 2) then 3 else 0
        let now := refuse (d.get R.PWR_STATUS_PROFILE)
        let soon := match d.profilePending with | some y => refuse y | none => 0
        let code := if d.anyAdmitted then 1 else if now ≠ 0 then now else if soon ≠ 0 then soon
          else if mode = 0 ∨ d.on R.DEV_TIMING_STATUS_PLL_LOCK = true then 0 else 4
        goes (.timingApply src w) (fun e => e.get R.DEV_TIMING_STATUS_REFUSE = code ∧ e.get R.DEV_TIMING_STATUS_MODE = d.get R.DEV_TIMING_STATUS_MODE
          ∧ (code = 0 → e.on R.DEV_TIMING_STATUS_BUSY = true ∧ e.timingPending = some (mode, point))
          ∧ (code ≠ 0 → e.on R.DEV_TIMING_STATUS_BUSY = false ∧ e.timingPending = d.timingPending)))
    ∧ (∀ m p, d.timingPending = some (m, p) → goes .timingChangeDone (fun e => e.get R.DEV_TIMING_STATUS_MODE = m % 4
        ∧ e.on R.DEV_TIMING_STATUS_BUSY = false ∧ e.timingPending = none
        ∧ e.get R.DEV_TIMING_STATUS_POINT = (if m = 1 then p % 4 else d.get R.DEV_TIMING_STATUS_POINT)))
    ∧ (d.refParent = false → d.on R.DEV_TIMING_STATUS_PLL_LOCK = true → goes .ref250Lost (fun e => e.on R.DEV_TIMING_STATUS_PLL_LOCK = false
        ∧ e.on R.DEV_TIMING_STATUS_REF_LOST = true ∧ e.on R.DEV_TIMING_STATUS_HOLDOVER = true ∧ e.pullIn = false ∧ e.fc = d.fc))
    ∧ (d.refWait = true → goes .ref250WaitEnd (fun e => e.refWait = false ∧ e.fcRun = true ∧ e.on R.DEV_TIMING_STATUS_HOLDOVER = true ∧ e.fc = d.fc))
    ∧ (d.refParent = false → d.on R.DEV_TIMING_STATUS_HOLDOVER = true → d.on R.DEV_TIMING_STATUS_PLL_LOCK = false →
        goes .ref250Return (fun e => e = { d with pullIn := true }))
    ∧ (d.pullIn = true → goes .pllPullInDone (fun e => e.pullIn = false ∧ e.on R.DEV_TIMING_STATUS_PLL_LOCK = true
        ∧ e.on R.DEV_TIMING_STATUS_HOLDOVER = false))

/-- Power profiles and states (R48, R564, R566, R572, R574, R578 to R581, R590): requests that the device performs are answered with what stands against
them or begin; Nap stops with the launch queues empty but for frames on the line, Standby with images and their memories gone; a state reached is reported and counted; a thermal trip asks for
Standby.
What the spec leaves open here is the model's own: log entries 96, 97, 120, 125. -/
def Obligations.PowerStatesChange : Prop :=
  ∀ (s : State),
    let d := s.die
    let state := d.get R.PWR_STATUS_STATE
    let goes (c : Instr) (P : Die → Prop) : Prop := s.completes c (fun t => t = { s with die := t.die } ∧ P t.die)
    (∀ src (w : Word), s.admits src .PWR 0 0x010 → bit w.toNat 31 = true → bits w.toNat 0 2 ≤ 2 →
        let p := bits w.toNat 0 2
        let clash := ∃ f ∈ d.freeFloors, s.fused.profileMHz p < f
        let links := (∃ l, 32 ≤ l ∧ l < 64 ∧ d.on R.LNK_CONTROL_ENABLE l = true) ∨ (∃ t, 8 ≤ t ∧ t < 16 ∧ d.on R.ETH_CONTROL_ENABLE t = true)
        let locked := (d.get R.DEV_TIMING_STATUS_MODE = 1 ∧ s.fused.lockedRefuse p (d.get R.DEV_TIMING_STATUS_POINT) ≠ 0)
          ∨ ∃ m pt, d.timingPending = some (m, pt) ∧ s.fused.timingRefuse p m pt ≠ 0
        let going := d.profilePending ≠ none ∨ d.statePending ≠ none
        let result (n : Nat) (e : Die) : Prop := e.get R.PWR_STATUS_PROFILE_RESULT = n ∧ e.get R.PWR_STATUS_PROFILE = d.get R.PWR_STATUS_PROFILE
          ∧ e.profilePending = if n = 1 then some p else d.profilePending
        (locked → goes (.profileApply src w) (result 2)) ∧ (¬ locked → clash → goes (.profileApply src w) (result 3))
        ∧ (¬ locked → ¬ clash → p = 2 → links → goes (.profileApply src w) (result 4))
        ∧ (¬ locked → ¬ clash → ¬ (p = 2 ∧ links) → going → goes (.profileApply src w) (result 5))
        ∧ (¬ locked → ¬ clash → ¬ (p = 2 ∧ links) → ¬ going → goes (.profileApply src w) (fun e => result 1 e ∧ e.on R.PWR_STATUS_BUSY = true)))
    ∧ (∀ p, d.profilePending = some p → goes .profileDone (fun e => e.get R.PWR_STATUS_PROFILE = p % 4 ∧ e.profilePending = none
        ∧ (d.statePending = none → e.on R.PWR_STATUS_BUSY = false)))
    ∧ (∀ src (w : Word), s.admits src .PWR 0 0x018 → bit w.toNat 31 = true →
        let t := bits w.toNat 0 2
        let going := d.profilePending ≠ none ∨ d.statePending ≠ none ∨ (∃ e, e < 8 ∧ (d.sheep e).muster = true)
          ∨ (∃ p, p < 64 ∧ d.on R.PAS_ADMIT_STATUS_BUSY p = true ∧ (d.pasture p).leaving = 0)
        let waits := t = 3 ∧ d.auditedIn = true ∧ s.cel.auditEmpty = false
        let refused (n : Nat) : Prop := goes (.stateGo src w) (fun e => e.get R.PWR_STATUS_STATE_RESULT = n ∧ e.statePending = d.statePending
          ∧ e.get R.PWR_STATUS_STATE = state)
        (2 ≤ t → 2 ≤ d.role → refused 2) ∧ ((t < 2 ∨ d.role < 2) → going → refused 3) ∧ ((t < 2 ∨ d.role < 2) → ¬ going → waits → refused 4)
        ∧ ((t < 2 ∨ d.role < 2) → ¬ going → ¬ waits → goes (.stateGo src w) (fun e => e.statePending = some t ∧ e.on R.PWR_STATUS_BUSY = true
            ∧ e.get R.PWR_STATUS_STATE = state
            ∧ (t = 2 → state ≠ 3 → ∀ eng q, eng < 8 → q < 4 → d.qstate eng q = 2 → KMap.get false e.closed (eng * 4 + q) = true))))
    ∧ (d.statePending = some 2 → state ≠ 2 → (∀ p, p < 64 → d.inFlight p = 0) → (∀ e, e < 8 → d.get R.UPD_STATUS_PHASE e = 0 ∨ d.get R.UPD_STATUS_PHASE e = 6) →
        s.completes .napEntry (fun t => t.kill = s.kill ∧ t.die.get R.PWR_STATUS_STATE = 2
          ∧ (∀ q ∈ t.die.launch, d.onLine q.1 = true ∧ q.2.length = 1) ∧ t.die.tiles = d.tiles
          ∧ t.die.rows = d.rows))
    ∧ (d.statePending = some 3 → state ≠ 3 → s.completes .standbyEntry (fun t => t.kill = s.kill ∧ t.die.get R.PWR_STATUS_STATE = 3
        ∧ t.die.tiles = [] ∧ t.die.rows = [] ∧ t.die.dir = [] ∧ t.die.upd = [] ∧ t.die.feeds = [] ∧ t.die.launch = [] ∧ t.die.steer = []
        ∧ t.die.fcRun = false ∧ t.die.aliveOn = false ∧ t.die.otp = d.otp ∧ t.die.on R.PCI_STATUS_LINK_UP = false
        ∧ t.cel.settings = s.cel.settings ∧ t.cel.tb0 = s.cel.tb0))
    ∧ (∀ t, d.statePending = some t → (t = state ∨ (t ≤ 1 ∧ state ≤ 2)) → goes .stateReached (fun e => e.get R.PWR_STATUS_STATE = t
        ∧ e.get R.PWR_STATUS_STATE_RESULT = 1 ∨ t ≠ state ∧ state = 2 ∧ t = 1 ∧ e.get R.PWR_STATUS_STATE = 0 ∧ e.statePending = some 1))
    ∧ (d.statePending = some 0 → state = 3 → goes .stateReached (fun e => e.get R.PWR_STATUS_STATE = 0 ∧ e.get R.PWR_STATUS_STATE_RESULT = 1
        ∧ e.get R.PWR_STATUS_LAST_RESET = (if d.tripped then 5 else 4) ∧ e.up = true ∧ e.statePending = none
        ∧ (∀ base, base % 0x1000 = 0 → e.on (pageLock base) = false)))
    ∧ goes .thermHot (fun e => e.on R.PWR_STATUS_THERM_HOT = true ∧ e = { d with regs := e.regs })
    ∧ (state ≠ 3 → goes .thermTrip (fun e => e.tally T.PWR_THERM_TRIP = tallyAdd (d.tally T.PWR_THERM_TRIP) 1 ∧ e.tripped = true
        ∧ e.statePending = some 3 ∧ e.profilePending = none))

/-- Resets, start-up and the settings record (R516, R582 to R585, R587, R588, R591, R627, R637): what each reset takes and what stays, the Cellar's settings and
time above all; start-up opens the registers and an election; the record is loaded into the stage, checked and programmed.
What the spec leaves open here is the model's own: log entries 93, 94, 95, 98. -/
def Obligations.ResetsAndSettings : Prop :=
  ∀ (s : State),
    let d := s.die
    let clears (keep : Bool) (cause : Nat) (t : State) : Prop := t = { s with cel := { s.cel with reserved := t.cel.reserved }, kill := {}, die := t.die }
      ∧ t.die.tallies = (if keep then d.tallies else []) ∧ t.die.store = (if keep then d.store else []) ∧ t.die.get R.PWR_STATUS_LAST_RESET = cause
      ∧ t.die.up = false ∧ t.die.otp = d.otp.interrupt ∧ t.die.host = d.host ∧ t.die.tiles = [] ∧ t.die.rows = [] ∧ t.die.pas = [] ∧ t.die.grants = []
      ∧ t.die.upd = [] ∧ t.die.launch = [] ∧ t.die.lanes = []
    let goes (c : Instr) (P : Die → Prop) : Prop := s.completes c (fun t => t = { s with die := t.die } ∧ P t.die)
    s.completes .coldReset (clears false 0) ∧ (d.off = false → s.completes .sysReset (clears true 1)) ∧ (d.off = true → exec .sysReset s = .next s)
    ∧ (∀ src (w : Word), s.admits src .PWR 0 0x01C →
        (bit w.toNat 0 = true → bits w.toNat 16 16 = 0xA5A5 → s.completes (.deviceReset src w) (clears true 2))
        ∧ ((bit w.toNat 0 = false ∨ bits w.toNat 16 16 ≠ 0xA5A5) → exec (.deviceReset src w) s = .next s))
    ∧ s.completes .railFault (fun t => clears false 0 t ∧ t.die.off = true)
    ∧ s.completes .vcelLoss (fun t => t.cel.up = false ∧ t.cel.settings = s.cel.settings ∧ t.cel.sealRecord = s.cel.sealRecord ∧ t.kill = s.kill
        ∧ (d.up = false → t.die = d) ∧ (d.up = true → t.die.restoring = true ∧ t.die.up = false ∧ t.die.get R.PWR_STATUS_LAST_RESET = 3))
    ∧ (d.up = false → d.off = false → d.restoring = false → s.completes .startupDone (fun t => t.cel = s.cel ∧ t.kill = { s.kill with running := true }
        ∧ t.die.up = true ∧ t.die.tiles = d.tiles ∧ t.die.on R.OWN_STATUS_HELD = false ∧ t.die.on R.OWN_STATUS_ELECTION = true
        ∧ t.die.otp = { d.otp with gen := d.otp.pick }))
    ∧ (d.on R.PCI_STATUS_LINK_UP = true → goes .hostLinkReset (fun e => e.on R.PCI_STATUS_LINK_UP = false ∧ e.pas = d.pas ∧ e.tiles = d.tiles
        ∧ e.grants = d.grants ∧ (d.holds 0 = true → e.on R.OWN_STATUS_HELD = false)))
    ∧ (∀ p, p < 64 → goes (.vfFlr p) (fun e => e.tally T.PCI_VF_FLR = tallyAdd (d.tally T.PCI_VF_FLR) 1 ∧ e.grants = d.grants
        ∧ e.on R.PAS_MSG_CTL_ENABLE p = false ∧ e.on R.PAS_INJ_CTL_ENABLE p = false ∧ e.on R.PAS_TRACE_CTL_ENABLE p = false
        ∧ e.on R.LRD_RING_CTL_ENABLE p = false ∧ (∀ a, a < 2 ^ 32 → KMap.get 0 e.caps ((4 + p) * 2 ^ 32 + a) = 0)
        ∧ (d.admitted p = true → d.on R.PAS_ADMIT_STATUS_BUSY p = false → e.get R.PAS_ADMIT_STATUS_STATE p = 5
            ∧ e.on R.PAS_ADMIT_STATUS_BUSY p = true ∧ (e.pasture p).leaving = 1)))
    ∧ (∀ src (w : Word), s.admits src .OTP 0 0x010 →
        (∀ r, bit w.toNat 0 = true → d.otp.record = some r → goes (.otpLoad src w) (fun e => e = { d with regs := e.regs }
          ∧ ∀ k, k < 128 → e.get (R.OTP_STAGE k) = leNat (slice r (4 * k) 4) % 2 ^ 32))
        ∧ (bit w.toNat 0 = false → bit w.toNat 1 = true → d.otp.programming = none →
            let full := 5 ≤ d.otp.slots.length
            let bad := recordBad d.stagedRecord = true
            let refused (n : Nat) : Prop := goes (.otpProgram src w) (fun e => e.get R.OTP_STATUS_OTP_RESULT = n ∧ e.otp = d.otp)
            (full → refused 2) ∧ (¬ full → bad → refused 3) ∧ (¬ full → ¬ bad → bits w.toNat 16 16 ≠ 0xA5A5 → refused 4)
            ∧ (¬ full → ¬ bad → bits w.toNat 16 16 = 0xA5A5 → goes (.otpProgram src w) (fun e =>
                e = { d with otp := { d.otp with programming := some (d.finalRecord d.stagedRecord) } }))))
    ∧ (∀ r ok, d.otp.programming = some r → goes (.otpProgramDone ok) (fun e => e.get R.OTP_STATUS_OTP_RESULT = (if ok then 1 else 5)
        ∧ e.otp = { d.otp with slots := d.otp.slots ++ [⟨if ok then r else []⟩], programming := none }))

/-- Reads of BAR0 (R18, R19, R373, R407, R480, R493, R597, R603, R622, R635): the lower word of a tally, a pair or a time captures the whole item for its reader,
whose upper words give that capture; a D3 window reads zero below D3; a trigger input's capture queue gives up its head; a VF's read of a page that
is not its own reads zero and counts.
What the spec leaves open here is the model's own: log entries 102, 103, 104, 105. -/
def Obligations.RegistersRead : Prop :=
  ∀ (s : State) (src : Source),
    let d := s.die
    (∀ b i off, s.reads src b i off → tallyAt b off = some off → hiddenTally d src b off = false → 0xC00 ≤ off → off < 0xF00 →
        s.answers (.tallyRead src (blockAddr b i off)) (KMap.get 0 d.tallies (blockAddr b i off) % 2 ^ 32)
          (fun e => e.captured src b i off = KMap.get 0 d.tallies (blockAddr b i off)))
    ∧ (∀ b i off, s.reads src b i (off + 4) → tallyAt b (off + 4) = some off → hiddenTally d src b (off + 4) = false → 0xC00 ≤ off → off + 4 < 0xF00 →
        s.answers (.tallyRead src (blockAddr b i (off + 4)))
          ((d.captured src b i off / 2 ^ 32 % 2 ^ 16 + d.captured src b i off / 2 ^ 48 * 2 ^ 31) % 2 ^ 32) (fun e => e.caps = d.caps))
    ∧ (s.reads src .DEV 0 0x820 → s.answers (.pairRead src 0x820) (d.fc % 2 ^ 32) (fun e => e.captured src .DEV 0 0x820 = d.fc % 2 ^ 64))
    ∧ (s.reads src .DEV 0 0x824 → s.answers (.pairRead src 0x824) (d.captured src .DEV 0 0x820 / 2 ^ 32 % 2 ^ 32) (fun e => e.caps = d.caps))
    ∧ (s.reads src .CEL 0 0x810 → s.answers (.tbNowRead src 0) ((stampOf s.cel.tb0).ns) (fun e =>
        e.captured src .CEL 0 0x810 = stampWords (stampOf s.cel.tb0)))
    ∧ (∀ n, 1 ≤ n → n ≤ 7 → s.reads src .TB n 0x810 → s.answers (.tbNowRead src n) ((stampOf ((d.tb n).at d.fc)).ns) (fun e =>
        e.captured src .TB n 0x810 = stampWords (stampOf ((d.tb n).at d.fc))))
    ∧ (∀ i off, s.reads src .ENG i off → 0x410 ≤ off → off < 0x480 → d.debug ≠ 3 →
        s.answers (.windowRead src (blockAddr .ENG i off)) 0 (fun e => e.caps = d.caps))
    ∧ (∀ i, s.reads src .ENG i 0x410 → d.debug = 3 → d.ecc = [] → d.poison = [] →
        let beat := d.beat (i * 512 + d.get R.ENG_WIN_SEL_TILE i) (d.get R.ENG_WIN_SEL_BEAT i)
        s.answers (.windowRead src (blockAddr .ENG i 0x410)) (beat % 2 ^ 32) (fun e => e.captured src .ENG i 0x410 = beat))
    ∧ (∀ i, i < 8 → s.reads src .CHK 0 (0x820 + 16 * i) →
        ((d.trigin i).queue = [] → s.answers (.triginCapRead src i) 0 (fun e => e.trigIn = d.trigIn))
        ∧ (∀ x xs, (d.trigin i).queue = x :: xs → s.answers (.triginCapRead src i) (x % 2 ^ 32) (fun e => (e.trigin i).queue = xs
            ∧ (∀ j, j ≠ i → e.trigin j = d.trigin j) ∧ e.captured src .CHK 0 (0x820 + 16 * i) = x % 2 ^ 64 + xs.length * 2 ^ 64)))
    ∧ (∀ p b i off, src = .vf p → d.pathUp src = true → d.answers src b = true → off % 4 = 0 → pageOf s.fused (blockAddr b i off) = some (b, i, off) →
        d.vfPage p b i = 2 → s.completes (.tallyRead src (blockAddr b i off)) (fun t => t.die.readData.toNat = 0
          ∧ t.die.tally (T.OWN_VIOLATION p) = tallyAdd (d.tally (T.OWN_VIOLATION p)) 1 ∧ t = { s with die := t.die } ∧ t.die.caps = d.caps))

/-- Writes of BAR0 (R15, R479, R481, R483, R488, R493, R543, R593, R596, R601 to R603, R608, R610, R623): a plain register takes its value; a write by a master
that does not hold the crook, or by a VF on a page that is not its own, is counted and changes nothing; a partial PCIe word is only counted; a tally is cleared; an
expert area is unlocked by its page's number; a ring begins empty; SMBus and JTAG carry the same accesses.
What the spec leaves open here is the model's own: log entries 84, 104. -/
def Obligations.RegistersWritten : Prop :=
  ∀ (s : State) (src : Source) (w : Word),
    let d := s.die
    let n := w.toNat
    let goes (c : Instr) (P : Die → Prop) : Prop := s.completes c (fun t => t = { s with die := t.die } ∧ P t.die)
    (s.admits src .DEV 0 0x014 → goes (.registerWrite src 0x014 w) (fun e => e = { d with regs := e.regs } ∧ e.get R.DEV_SCRATCH_VALUE = n
        ∧ ∀ f i, f.key i ≠ R.DEV_SCRATCH_VALUE.key 0 → e.get f i = d.get f i))
    ∧ (∀ addr b i off, addr % 4 = 0 → addr ≠ blockAddr .OWN 0 0x010 → pageOf s.fused addr = some (b, i, off) → d.pathUp src = true → d.answers src b = true →
        ((∀ p, src ≠ .vf p) → d.holds (srcNum src) = false → d.get R.PWR_STATUS_STATE ≠ 3 → goes (.registerWrite src addr w) (fun e =>
            d.report e ∧ e.tally (T.OWN_OWN_DENIED (srcNum src)) = tallyAdd (d.tally (T.OWN_OWN_DENIED (srcNum src))) 1))
        ∧ (∀ p, src = .vf p → (d.vfPage p b i = 2 ∨ 0xF00 ≤ off) → goes (.registerWrite src addr w) (fun e =>
            d.report e ∧ e.tally (T.OWN_VIOLATION p) = tallyAdd (d.tally (T.OWN_VIOLATION p)) 1)))
    ∧ (∀ addr be, (be % 16 = 15 → exec (.partialWrite src addr be w) s = exec (.registerWrite src addr w) s)
        ∧ (be % 16 ≠ 15 → (src = .m0 ∨ ∃ p, src = .vf p) → d.pathUp src = true → goes (.partialWrite src addr be w) (fun e =>
            d.report e ∧ e.tally T.PCI_PARTIAL = tallyAdd (d.tally T.PCI_PARTIAL) 1)))
    ∧ (∀ b i lo, s.admits src b i (lo + 4) → (∀ p, src ≠ .vf p) → pageOf s.fused (blockAddr b i (lo + 4)) = some (b, i, lo + 4) → lo % 8 = 0 →
        tallyAt b (lo + 4) = some lo → goes (.tallyClear src (blockAddr b i (lo + 4)) w) (fun e =>
          e = { d with tallies := e.tallies } ∧ (∀ k, k ≠ blockAddr b i lo → KMap.get 0 e.tallies k = KMap.get 0 d.tallies k)
          ∧ KMap.get 0 e.tallies (blockAddr b i lo) = if bit n 31 then 0 else KMap.get 0 d.tallies (blockAddr b i lo)))
    ∧ (∀ b i, pageOf s.fused (blockAddr b i 0xF04) = some (b, i, 0xF04) → s.admits src b i 0xF04 →
        let page := blockAddr b i 0
        let own := b.expert = true ∧ bits n 16 16 = page / 0x1000 % 2 ^ 16
        (bit n 0 = true → goes (.unlock src (blockAddr b i 0xF04) w) (fun e => e = { d with regs := e.regs } ∧ (own → e.on (pageExpert page) = true)
            ∧ (¬ own → e = d)))
        ∧ (bit n 0 = false → bit n 1 = true → goes (.relock src (blockAddr b i 0xF04) w) (fun e => e = { d with regs := e.regs }
            ∧ e.on (pageExpert page) = false)))
    ∧ (s.admits src .CHK 0 0x018 → d.on R.CHK_FAULT_CTL_ENABLE = false → bit n 8 = true → goes (.ringEnable src (blockAddr .CHK 0 0x018) w) (fun e =>
        e = { d with regs := e.regs } ∧ e.on R.CHK_FAULT_CTL_ENABLE = true ∧ e.get R.CHK_FAULT_HEAD_VALUE = 0 ∧ e.get R.CHK_FAULT_TAIL_VALUE = 0
        ∧ (8 ≤ bits n 0 5 → bits n 0 5 ≤ 20 → e.get R.CHK_FAULT_CTL_LOG2SIZE = bits n 0 5)))
    ∧ (∀ g, g < 8 → s.admits src .ENG g 0x408 → (d.debug ≠ 3 → exec (.engClkstop src g w) s = .next s)
        ∧ (d.debug = 3 → goes (.engClkstop src g w) (fun e => e = { d with stopped := e.stopped } ∧ ∀ q, q < 4 →
            KMap.get false e.stopped (g * 4 + q) = (bit n q && (KMap.get false d.stopped (g * 4 + q) || d.qstate g q == 0 || d.qstate g q == 3)))))
    ∧ (d.up = true →
        let bad (c : Instr) : Prop := goes c (fun e => e.tally T.OWN_SMB_ERR = tallyAdd (d.tally T.OWN_SMB_ERR) 1 ∧ d.report e)
        (∀ bytes, bytes.length = 4 → leNat bytes % 4 = 0 → goes (.smbAddress bytes true) (fun e => e = { d with smbPtr := leNat bytes }))
        ∧ (∀ bytes ok, (ok = false ∨ bytes.length ≠ 4 ∨ leNat bytes % 4 ≠ 0) → bad (.smbAddress bytes ok))
        ∧ (∀ bytes, bytes.length = 4 → exec (.smbWrite bytes true) s =
            .next (let t := s.busWrite .m1 d.smbPtr (leNat bytes); { t with die := { t.die with smbPtr := (t.die.smbPtr + 4) % 2 ^ 32 } }))
        ∧ (∀ bytes ok, (ok = false ∨ bytes.length % 4 ≠ 0 ∨ bytes = [] ∨ 32 < bytes.length) → bad (.smbWrite bytes ok))
        ∧ s.completes (.smbRead [] true) (fun t => t.die.emits.getLast? = some (.smbus (leBytes 4 (s.busRead .m1 d.smbPtr).1))
            ∧ t.die.smbPtr = ((s.busRead .m1 d.smbPtr).2.die.smbPtr + 4) % 2 ^ 32)
        ∧ (∀ cmd, cmd < 0x10 ∨ 0x12 < cmd → bad (.smbUnknownCommand cmd)))
    ∧ (∀ dr : BitVec 58, d.pathUp .m3 = true →
        let addr := bits dr.toNat 2 24 * 4
        (bits dr.toNat 0 2 = 1 → s.completes (.regacc dr) (fun t => t.die.jtagLast = BitVec.ofNat 32 (s.busRead .m3 addr).1))
        ∧ (bits dr.toNat 0 2 = 2 → exec (.regacc dr) s = .next (s.busWrite .m3 addr (bits dr.toNat 26 32)))
        ∧ ((bits dr.toNat 0 2 = 0 ∨ bits dr.toNat 0 2 = 3) → exec (.regacc dr) s = .next s))

/-- The KILL and trigger inputs (R374, R633 to R639, R641, R644): a tick moves the kill state machine and cuts the pulses while the gate blocks; CLEAR and T wait for
what they need; a pulse is checked, captured or counted; a stuck input is masked, and unmasked only while it is inactive.
What the spec leaves open here is the model's own: log entries 25, 100, 101. -/
def Obligations.InputsSettle : Prop :=
  ∀ (s : State),
    let d := s.die
    let k := s.kill
    (∀ a b, k.running = true → s.completes (.killTick a b) (fun t =>
        t.cel = s.cel ∧ t.kill.a = a ∧ t.kill.b = b ∧ t.kill.tick = k.tick + 1 ∧ t.kill.running = true ∧ (t.kill.blocked = true ↔ t.kill.st ≠ .idle)
        ∧ (t.kill.st ≠ .idle → ∀ x ∈ t.die.pins, x.2.high = false)
        ∧ (k.st = .idle → (a = false → b = false → t.kill.st = .idle ∧ (k.pending = true → t.kill.nt = k.ntNew ∧ t.kill.pending = false))
            ∧ ((a = true ∨ b = true) → t.kill.st = (if a = true ∧ b = true then .normal else .wait)
                ∧ t.die.tally T.CHK_KILLS = tallyAdd (d.tally T.CHK_KILLS) 1)
            ∧ (a ≠ b → t.kill.n0 = k.tick ∧ t.kill.first = b))
        ∧ (k.st = .wait → (k.nt < k.tick - k.n0 → t.kill.st = .fault ∧ t.die.tally T.CHK_KILL_DISCREPANCY = tallyAdd (d.tally T.CHK_KILL_DISCREPANCY) 1)
            ∧ (k.tick - k.n0 ≤ k.nt → t.kill.st = if (k.first = false ∧ b = true) ∨ (k.first = true ∧ a = true) then .normal else .wait))
        ∧ (k.st = .normal → t.kill.st = if a = false ∧ b = false then .idle else .normal)
        ∧ (k.st = .fault → ((a = true ∨ b = true) → t.kill.st = .fault ∧ t.kill.quiet = 0 ∧ t.kill.clearReq = false
                ∧ (k.clearReq = true → t.kill.clearRefused = true))
            ∧ (a = false → b = false → k.clearReq = true → t.kill.st = .idle ∧ t.kill.clearReq = false)
            ∧ (a = false → b = false → k.clearReq = false → t.kill.st = .fault ∧ t.kill.quiet = k.quiet + 1))))
    ∧ (∀ src (w : Word), s.admits src .PWR 0 0x020 →
        let v := bits w.toNat 0 22
        let taken := d.on (pageLock (blockAddr .PWR 0 0)) = false ∧ 250 ≤ v ∧ v ≤ 2500000
        let held (t : State) : Prop := t.cel = s.cel ∧ t.kill.st = k.st ∧ t.kill.blocked = k.blocked ∧ t.kill.nt = k.nt
        (bit w.toNat 31 = true → s.completes (.killClear src w) (fun t => held t
            ∧ (k.st = .fault → k.nt < k.quiet → t.kill.clearReq = true) ∧ ((k.st ≠ .fault ∨ k.quiet ≤ k.nt) → t.kill.clearRefused = true)))
        ∧ (bit w.toNat 31 = false → s.completes (.killTWrite src w) (fun t => held t ∧ (taken → t.kill = { k with ntNew := v, pending := true })
            ∧ (¬ taken → t.kill = k))))
    ∧ (∀ i, i < 8 →
        let x := d.trigin i
        let goes (c : Instr) (P : Die → Prop) : Prop := s.completes c (fun t => t = { s with die := t.die } ∧ t.die.tiles = d.tiles
          ∧ (∀ j, j < 8 → j ≠ i → t.die.trigin j = d.trigin j) ∧ P t.die)
        (∀ first width cap, d.on (R.PWR_TRIGIN_ENABLE i) = true →
          let late := ∃ a, x.lastAcc = some a ∧ first < a + d.get (R.PWR_TRIGIN_DEAD i) * 16
          let short := width < d.get (R.PWR_TRIGIN_MINW i)
          let ends (P : Die → Prop) : Prop := goes (.triginPulse i first width cap) (fun e => (e.trigin i).active = none ∧ P e)
          (d.trigMasked i = true → ends (fun e => (e.trigin i).queue = x.queue ∧ e.tallies = d.tallies))
          ∧ (d.trigMasked i = false → short → ends (fun e => (e.trigin i).queue = x.queue
              ∧ e.tally T.CHK_TRIGIN_GLITCH = tallyAdd (d.tally T.CHK_TRIGIN_GLITCH) 1))
          ∧ (d.trigMasked i = false → ¬ short → late → ends (fun e => (e.trigin i).queue = x.queue
              ∧ e.tally (T.CHK_TRIGIN_RATE_DROP i) = tallyAdd (d.tally (T.CHK_TRIGIN_RATE_DROP i)) 1))
          ∧ (d.trigMasked i = false → ¬ short → ¬ late → x.queue.length < 16 → ends (fun e => (e.trigin i).lastAcc = some first
              ∧ (e.trigin i).queue = x.queue ++ [s.cel.capFc (2 + i) false cap] ∧ e.tallies = d.tallies))
          ∧ (d.trigMasked i = false → ¬ short → ¬ late → 16 ≤ x.queue.length → ends (fun e => (e.trigin i).queue = x.queue
              ∧ e.tally T.CHK_TRIGIN_CAP_OVF = tallyAdd (d.tally T.CHK_TRIGIN_CAP_OVF) 1)))
        ∧ (d.on (R.PWR_TRIGIN_ENABLE i) = true → d.trigMasked i = false → ∀ cap, goes (.triginStuck ⟨i, cap⟩) (fun e => e.trigMasked i = true
            ∧ (∀ j, j < 8 → j ≠ i → e.trigMasked j = d.trigMasked j)
            ∧ e.tally (T.CHK_TRIGIN_STUCK i) = tallyAdd (d.tally (T.CHK_TRIGIN_STUCK i)) 1 ∧ (e.trigin i).active ≠ none
            ∧ (∀ a, x.active = some a → (∀ b, x.lastAcc = some b → b + d.get (R.PWR_TRIGIN_DEAD i) * 16 ≤ a) →
                d.get (R.PWR_TRIGIN_MINW i) ≤ d.get (R.PWR_TRIGIN_STUCK i) * 2000 → x.queue.length < 16 →
                (e.trigin i).queue = x.queue ++ [s.cel.capFc (2 + i) false cap])))
        ∧ (∀ src (w : Word), s.admits src .PWR 0 (0x040 + 4 * i) → d.on (pageLock (blockAddr .PWR 0 0)) = false →
            (bit w.toNat 31 = false → goes (.triginConfigWrite src i w) (fun e => e.on (R.PWR_TRIGIN_ENABLE i) = bit w.toNat 24
              ∧ e.on (R.PWR_TRIGIN_POL i) = bit w.toNat 25 ∧ e.get (R.PWR_TRIGIN_DEAD i) = bits w.toNat 8 8
              ∧ (2 ≤ bits w.toNat 0 8 → e.get (R.PWR_TRIGIN_MINW i) = bits w.toNat 0 8) ∧ (bit w.toNat 24 = false → (e.trigin i).queue = [])))
            ∧ (∀ raw, bit w.toNat 31 = true → d.on (R.PWR_TRIGIN_ENABLE i) = true → bit w.toNat 24 = true →
                d.get (R.PWR_TRIGIN_POL i) = bits w.toNat 25 1 → goes (.unmask src i w raw) (fun e =>
                  (raw = false → e.trigMasked i = false) ∧ (raw = true → e.on R.CHK_TRIGIN_STATUS_UNMASK_REFUSED = true
                    ∧ e.trigMasked i = d.trigMasked i)))))

/-- R637, R638, R397, R400, R503, R582, R584: right after the supplies come up the kill gate blocks, its machine is in IDLE with T = 25,000 and does not
run yet, the Cellar is unsealed with the reset limits and an open source mask, OWN_DEBUG.REQUEST reads 3, no pin is high and no command waits.
What the spec leaves open here is the model's own: log entries 1, 4. -/
def Obligations.ResetInOrder : Prop :=
  let s := State.reset
  s.kill.inOrder ∧ s.cel.inOrder ∧ s.kill.blocked = true ∧ s.kill.running = false ∧ s.kill.st = .idle ∧ s.kill.nt = 25000
    ∧ s.cel.sealed = false ∧ s.cel.breaks = 0 ∧ s.cel.settings.mask = 31
    ∧ s.die.get R.OWN_DEBUG_REQUEST = 3 ∧ s.die.get R.PWR_KILL_T = 25000 ∧ s.die.get (R.PWR_TRIGIN_MINW 7) = 4
    ∧ (∀ pin, (KMap.get {} s.die.pins pin).high = false) ∧ s.pending = []

/-- R1, R2, R104, R410, R426, R633: a command whose operands name units and places that the device has always completes, whatever the state; and no
command changes what is fixed at manufacture or the queue of those that wait behind it (the queue is the model's own).
What the spec leaves open here is the model's own: log entry 9. -/
def Obligations.WellFormedCompletes : Prop :=
  ∀ (c : Instr) (s : State),
    (c.wellFormed = true → ∃ t, exec c s = .next t)
    ∧ ∀ t, exec c s = .next t → t.fused = s.fused ∧ t.pending = s.pending

/-- R637, R638, R643, R644: from every state whose kill machine is in order, every step leaves it in order; and where, besides, no TRIG_OUT pin is high
while the kill gate blocks, every step keeps that.
What the spec leaves open here is the model's own: log entry 100. -/
def Obligations.KillKeepsOrder : Prop :=
  ∀ (s t : State), s.kill.inOrder → step s = .next t →
    t.kill.inOrder ∧ ((s.kill.blocked = true → ∀ pin, (KMap.get {} s.die.pins pin).high = false) →
      t.kill.blocked = true → ∀ pin, (KMap.get {} t.die.pins pin).high = false)

/-- R1: from every state whose Cellar is sealed, every step leaves the settings in force as they are, and one that unseals the Cellar counts a seal break; and a
register write that unseals it found in host memory, where CEL_SEAL_ADDR points, a BREAK message that the seal-authority key verifies, for this Cellar and this
count. -/
def Obligations.SealedSettingsStand : Prop :=
  (∀ (s t : State), step s = .next t → s.cel.sealed = true →
      t.cel.settings = s.cel.settings ∧ (t.cel.sealed = false → s.cel.breaks < t.cel.breaks))
    ∧ ∀ (s t : State) (src : Source) (w : Word) (addr : Nat), s.cel.sealed = true → t.cel.sealed = false →
        (exec (.sealGo src w) s = .next t ∨ exec (.registerWrite src addr w) s = .next t) →
        let m := s.die.hostRead 0 (s.cel.get R.CEL_SEAL_ADDR_LO * 64 + s.cel.get R.CEL_SEAL_ADDR_HI * 2 ^ 32) 160
        signedOk s.fused.sealKey m = true ∧ leNat (m.take 1) = 2 ∧ leNat (slice m 2 2) = s.cel.breaks ∧ leNat (slice m 4 8) = s.fused.dieId

/-- R18: the two words of every tally that stand in a page from 0xC00 on: a read of the lower word gives bits [31:0] of the count, and the upper word read after it gives
bits [47:32] and, in bit 31, the saturation bit. -/
def Obligations.TallyStandsInTwoWords : Prop :=
  ∀ (s : State) (src : Source) (b : Block) (i lo n sat : Nat), s.reads src b i lo → s.reads src b i (lo + 4) →
    tallyAt b lo = some lo → tallyAt b (lo + 4) = some lo → 0xC00 ≤ lo → lo + 4 < 0xF00 → hiddenTally s.die src b lo = false →
    hiddenTally s.die src b (lo + 4) = false → n < 2 ^ 48 → sat ≤ 1 → KMap.get 0 s.die.tallies (blockAddr b i lo) = n + sat * 2 ^ 48 →
    ∃ t u, exec (.tallyRead src (blockAddr b i lo)) s = .next t ∧ exec (.tallyRead src (blockAddr b i (lo + 4))) t = .next u
      ∧ t.die.readData.toNat = n % 2 ^ 32 ∧ u.die.readData.toNat = n / 2 ^ 32 + sat * 2 ^ 31

/-- R603: while the expert area of a page that has one is locked, a write to offsets 0x400 to 0x7FF by the owner or by the VF whose page it is changes only EXPERT_DENIED, by one;
a read there is answered with the register's word, and a D3 window reads zero below D3. -/
def Obligations.ExpertAreaGuarded : Prop :=
  ∀ (s : State) (src : Source) (b : Block) (i off : Nat), s.reads src b i off → b.expert = true → 0x400 ≤ off → off < 0x800 →
    s.die.on (pageExpert (blockAddr b i 0)) = false →
    (((∀ p, src ≠ .vf p) → s.die.holds (srcNum src) = true) → ∀ w, exec (.registerWrite src (blockAddr b i off) w) s =
        .next { s with die := s.die.count T.OWN_EXPERT_DENIED 0 })
      ∧ s.completes (.tallyRead src (blockAddr b i off)) (fun t => t.die.readData = BitVec.ofNat 32 (s.pageWord src b i off).1
          ∧ (windowAt b off = true → s.die.debug ≠ 3 → t.die.readData = 0))

/-- R380, R397, R400, R408: from every state whose Cellar is in order, every step leaves it in order: limits, source mask and seal-break count in range,
and the settings of a sealed Cellar those of its seal record; and the seal-break count never decreases.
What the spec leaves open here is the model's own: log entries 66, 70. -/
def Obligations.CellarKeepsOrder : Prop :=
  ∀ (s t : State), s.cel.inOrder → step s = .next t → t.cel.inOrder ∧ s.cel.breaks ≤ t.cel.breaks
end

