-- ==== Sys2Proof/Laws/Map.lean ====
section
/-! SUPPORT. Laws of the sparse maps: what a key reads as after a write, and that every operation keeps the canonical form. -/

namespace Sys2Proof.Machine

variable {α : Type}

@[simp] theorem KMap.get_nil (d : α) (k : Nat) : KMap.get d [] k = d := rfl

theorem KMap.get_insert_same (d : α) (m : KMap α) (k : Nat) (v : α) : KMap.get d (KMap.insert m k v) k = v := by
  induction m with
  | nil => simp [KMap.insert, KMap.get]
  | cons x m ih =>
    obtain ⟨j, u⟩ := x
    simp only [KMap.insert]
    split
    · simp [KMap.get]
    · split
      · simp [KMap.get]
      · have : j ≠ k := by omega
        simp [KMap.get, this, ih]

theorem KMap.get_insert_other (d : α) (m : KMap α) (k j : Nat) (v : α) (h : j ≠ k) :
    KMap.get d (KMap.insert m k v) j = KMap.get d m j := by
  induction m with
  | nil => simp [KMap.insert, KMap.get, Ne.symm h]
  | cons x m ih =>
    obtain ⟨i, u⟩ := x
    simp only [KMap.insert]
    split
    · simp [KMap.get, Ne.symm h]
    · split
      · subst k; simp [KMap.get, Ne.symm h]
      · simp only [KMap.get]; split <;> simp_all

theorem KMap.get_erase_same (d : α) (m : KMap α) (k : Nat) : KMap.get d (KMap.erase m k) k = d := by
  induction m with
  | nil => rfl
  | cons x m ih =>
    obtain ⟨j, u⟩ := x
    by_cases h : j = k
    · subst h; simpa [KMap.erase] using ih
    · simpa [KMap.erase, h, KMap.get] using ih

theorem KMap.get_erase_other (d : α) (m : KMap α) (k j : Nat) (h : j ≠ k) : KMap.get d (KMap.erase m k) j = KMap.get d m j := by
  induction m with
  | nil => rfl
  | cons x m ih =>
    obtain ⟨i, u⟩ := x
    by_cases hi : i = k
    · subst hi; simpa [KMap.erase, KMap.get, Ne.symm h] using ih
    · by_cases hj : i = j
      · subst hj; simp [KMap.erase, KMap.get, h]
      · simpa [KMap.erase, KMap.get, hi, hj] using ih

/-- A read after a write of the same key gives the value written. -/
@[simp] theorem KMap.get_set_same [DecidableEq α] (d : α) (m : KMap α) (k : Nat) (v : α) : KMap.get d (KMap.set d m k v) k = v := by
  unfold KMap.set; split
  · next h => rw [KMap.get_erase_same, h]
  · rw [KMap.get_insert_same]

/-- A write leaves every other key alone. -/
theorem KMap.get_set_other [DecidableEq α] (d : α) (m : KMap α) (k j : Nat) (v : α) (h : j ≠ k) :
    KMap.get d (KMap.set d m k v) j = KMap.get d m j := by
  unfold KMap.set; split
  · rw [KMap.get_erase_other _ _ _ _ h]
  · rw [KMap.get_insert_other _ _ _ _ _ h]

/-- A write leaves every other key alone, whatever an absent key reads as. -/
theorem KMap.get_set_ne [DecidableEq α] (e d : α) (m : KMap α) (k j : Nat) (v : α) (h : j ≠ k) :
    KMap.get e (KMap.set d m k v) j = KMap.get e m j := by
  unfold KMap.set; split
  · rw [KMap.get_erase_other _ _ _ _ h]
  · rw [KMap.get_insert_other _ _ _ _ _ h]

/-- What a key reads as after a write of another or of the same key. -/
theorem KMap.get_set [DecidableEq α] (d : α) (m : KMap α) (k j : Nat) (v : α) :
    KMap.get d (KMap.set d m k v) j = if j = k then v else KMap.get d m j := by
  split
  · next h => subst h; simp
  · next h => exact KMap.get_set_other d m k j v h

/-- Every key of a map lies above k. -/
def KMap.above (k : Nat) (m : KMap α) : Prop := ∀ x ∈ m, k < x.1

theorem KMap.rising_cons (j : Nat) (v : α) (m : KMap α) : KMap.rising ((j, v) :: m) = true ↔ KMap.above j m ∧ KMap.rising m = true := by
  induction m generalizing j v with
  | nil => simp [KMap.rising, KMap.above]
  | cons x m ih =>
    obtain ⟨k, u⟩ := x
    simp only [KMap.rising, Bool.and_eq_true, decide_eq_true_eq, KMap.above, List.mem_cons, forall_eq_or_imp]
    constructor
    · rintro ⟨h1, h2⟩
      exact ⟨⟨h1, fun x hx => lt_trans h1 (((ih k u).1 h2).1 x hx)⟩, h2⟩
    · rintro ⟨⟨h1, -⟩, h2⟩
      exact ⟨h1, h2⟩

theorem KMap.rising_filter (p : Nat × α → Bool) (m : KMap α) (h : KMap.rising m = true) : KMap.rising (m.filter p) = true := by
  induction m with
  | nil => rfl
  | cons x m ih =>
    obtain ⟨j, u⟩ := x
    rw [KMap.rising_cons] at h
    by_cases hp : p (j, u) = true
    · rw [List.filter_cons_of_pos hp, KMap.rising_cons]
      exact ⟨fun y hy => h.1 y (List.mem_of_mem_filter hy), ih h.2⟩
    · rw [List.filter_cons_of_neg hp]; exact ih h.2

theorem KMap.mem_insert (m : KMap α) (k : Nat) (v : α) (x : Nat × α) (h : x ∈ KMap.insert m k v) : x = (k, v) ∨ x ∈ m := by
  induction m with
  | nil => simp_all [KMap.insert]
  | cons y m ih =>
    obtain ⟨j, u⟩ := y
    simp only [KMap.insert] at h
    split at h
    · simpa using h
    · split at h
      · simp only [List.mem_cons] at h ⊢; tauto
      · simp only [List.mem_cons] at h ⊢
        rcases h with h | h
        · exact .inr (.inl h)
        · rcases ih h with h | h
          · exact .inl h
          · exact .inr (.inr h)

theorem KMap.rising_insert (m : KMap α) (k : Nat) (v : α) (h : KMap.rising m = true) : KMap.rising (KMap.insert m k v) = true := by
  induction m with
  | nil => rfl
  | cons y m ih =>
    obtain ⟨j, u⟩ := y
    have h' := (KMap.rising_cons j u m).1 h
    simp only [KMap.insert]
    split
    · next hk =>
      rw [KMap.rising_cons]
      refine ⟨?_, h⟩
      intro x hx
      simp only [List.mem_cons] at hx
      rcases hx with rfl | hx
      · exact hk
      · exact lt_trans hk (h'.1 x hx)
    · split
      · next hk => subst hk; rw [KMap.rising_cons]; exact h'
      · rw [KMap.rising_cons]
        refine ⟨?_, ih h'.2⟩
        intro x hx
        rcases KMap.mem_insert m k v x hx with rfl | hx
        · show j < k; omega
        · exact h'.1 x hx

theorem KMap.wf_iff [DecidableEq α] (d : α) (m : KMap α) : KMap.wf d m = true ↔ KMap.rising m = true ∧ ∀ x ∈ m, x.2 ≠ d := by
  simp [KMap.wf, List.all_eq_true]

/-- A write keeps the canonical form. -/
theorem KMap.wf_set [DecidableEq α] (d : α) (m : KMap α) (k : Nat) (v : α) (h : KMap.wf d m = true) : KMap.wf d (KMap.set d m k v) = true := by
  rw [KMap.wf_iff] at h ⊢
  unfold KMap.set; split
  · exact ⟨KMap.rising_filter _ m h.1, fun x hx => h.2 x ((List.mem_filter.1 hx).1)⟩
  · next hv =>
    refine ⟨KMap.rising_insert m k v h.1, fun x hx => ?_⟩
    rcases KMap.mem_insert m k v x hx with rfl | hx
    · exact hv
    · exact h.2 x hx

/-- A change of one key keeps the canonical form. -/
theorem KMap.wf_upd [DecidableEq α] (d : α) (m : KMap α) (k : Nat) (f : α → α) (h : KMap.wf d m = true) :
    KMap.wf d (KMap.upd d m k f) = true := KMap.wf_set d m k _ h

/-- Keeping some keys keeps the canonical form. -/
theorem KMap.wf_keep [DecidableEq α] (d : α) (m : KMap α) (p : Nat → Bool) (h : KMap.wf d m = true) : KMap.wf d (KMap.keep m p) = true := by
  rw [KMap.wf_iff] at h ⊢
  exact ⟨KMap.rising_filter _ m h.1, fun x hx => h.2 x ((List.mem_filter.1 hx).1)⟩

/-- A write of consecutive keys keeps the canonical form. -/
theorem KMap.wf_setRange [DecidableEq α] (d : α) (m : KMap α) (k : Nat) (vs : List α) (h : KMap.wf d m = true) :
    KMap.wf d (KMap.setRange d m k vs) = true := by
  induction vs generalizing m k with
  | nil => exact h
  | cons v vs ih => exact ih _ _ (KMap.wf_set d m k v h)

/-- A key outside the keys written reads as before. -/
theorem KMap.get_setRange_other [DecidableEq α] (d : α) (m : KMap α) (k j : Nat) (vs : List α) (h : j < k ∨ k + vs.length ≤ j) :
    KMap.get d (KMap.setRange d m k vs) j = KMap.get d m j := by
  induction vs generalizing m k with
  | nil => rfl
  | cons v vs ih =>
    simp only [List.length_cons] at h
    rw [KMap.setRange, ih _ _ (by omega), KMap.get_set_other _ _ _ _ _ (by omega)]

/-- A key among those written reads as its value. -/
theorem KMap.get_setRange_in [DecidableEq α] (d : α) (m : KMap α) (k i : Nat) (vs : List α) (h : i < vs.length) :
    KMap.get d (KMap.setRange d m k vs) (k + i) = vs[i] := by
  induction vs generalizing m k i with
  | nil => simp at h
  | cons v vs ih =>
    cases i with
    | zero => rw [KMap.setRange, KMap.get_setRange_other _ _ _ _ _ (.inl (by omega))]; simp
    | succ i =>
      have := ih (KMap.set d m k v) (k + 1) i (by simpa using h)
      rw [KMap.setRange, show k + (i + 1) = k + 1 + i by omega, this]; rfl

@[simp] theorem KMap.get_upd_same [DecidableEq α] (d : α) (m : KMap α) (k : Nat) (f : α → α) :
    KMap.get d (KMap.upd d m k f) k = f (KMap.get d m k) := by simp [KMap.upd]

theorem KMap.get_upd_other [DecidableEq α] (d : α) (m : KMap α) (k j : Nat) (f : α → α) (h : j ≠ k) :
    KMap.get d (KMap.upd d m k f) j = KMap.get d m j := KMap.get_set_other _ _ _ _ _ h

end Sys2Proof.Machine
end

