-- ==== Sys2Proof/Laws/State.lean ====
section
/-! SUPPORT. What each named update of the state leaves alone: one law per update, field by field; and what a register field reads after a write. -/

namespace Sys2Proof.Machine

/-- A field write changes register fields alone. -/
@[simp] theorem Die.put_frame (f : Fld) (i v : Nat) (d : Die) :
    (d.put f i v).tallies = d.tallies ∧ (d.put f i v).caps = d.caps ∧ (d.put f i v).readData = d.readData ∧ (d.put f i v).emits = d.emits ∧
    (d.put f i v).host = d.host ∧ (d.put f i v).free = d.free ∧ (d.put f i v).nonce = d.nonce ∧ (d.put f i v).fc = d.fc ∧ (d.put f i v).ns = d.ns ∧
    (d.put f i v).up = d.up ∧ (d.put f i v).aliveOn = d.aliveOn ∧ (d.put f i v).alive = d.alive ∧ (d.put f i v).refWait = d.refWait ∧
    (d.put f i v).pullIn = d.pullIn ∧ (d.put f i v).fcRun = d.fcRun ∧ (d.put f i v).timingPending = d.timingPending ∧
    (d.put f i v).profilePending = d.profilePending ∧ (d.put f i v).statePending = d.statePending ∧ (d.put f i v).tripped = d.tripped ∧
    (d.put f i v).off = d.off ∧ (d.put f i v).napOpen = d.napOpen ∧ (d.put f i v).restoring = d.restoring ∧ (d.put f i v).parsers = d.parsers ∧
    (d.put f i v).steer = d.steer ∧ (d.put f i v).feeds = d.feeds ∧ (d.put f i v).pas = d.pas ∧ (d.put f i v).rows = d.rows ∧
    (d.put f i v).dir = d.dir ∧ (d.put f i v).lar = d.lar ∧ (d.put f i v).poison = d.poison ∧ (d.put f i v).ecc = d.ecc ∧
    (d.put f i v).looked = d.looked ∧ (d.put f i v).entries = d.entries ∧ (d.put f i v).launch = d.launch ∧ (d.put f i v).ports = d.ports ∧
    (d.put f i v).pins = d.pins ∧ (d.put f i v).trigIn = d.trigIn ∧ (d.put f i v).tbs = d.tbs ∧ (d.put f i v).pair = d.pair ∧
    (d.put f i v).txts = d.txts ∧ (d.put f i v).ptpTag = d.ptpTag ∧ (d.put f i v).grants = d.grants ∧ (d.put f i v).otp = d.otp ∧
    (d.put f i v).claims = d.claims ∧ (d.put f i v).electionNs = d.electionNs ∧ (d.put f i v).heartbeat = d.heartbeat ∧
    (d.put f i v).handover = d.handover ∧ (d.put f i v).smbPtr = d.smbPtr ∧ (d.put f i v).jtagLast = d.jtagLast ∧ (d.put f i v).spares = d.spares ∧
    (d.put f i v).spareField = d.spareField ∧ (d.put f i v).staged = d.staged ∧ (d.put f i v).store = d.store ∧ (d.put f i v).ceLast = d.ceLast ∧
    (d.put f i v).shd = d.shd ∧ (d.put f i v).loft = d.loft ∧ (d.put f i v).lanes = d.lanes ∧ (d.put f i v).flk = d.flk ∧
    (d.put f i v).tiles = d.tiles ∧ (d.put f i v).eng = d.eng ∧ (d.put f i v).upd = d.upd ∧ (d.put f i v).loads = d.loads ∧ (d.put f i v).loadOrder = d.loadOrder ∧
    (d.put f i v).closed = d.closed ∧ (d.put f i v).stopped = d.stopped ∧ (d.put f i v).shedLow = d.shedLow ∧ (d.put f i v).injLast = d.injLast := by and_intros <;> rfl

/-- A flag write changes register fields alone. -/
@[simp] theorem Die.flag_frame (f : Fld) (i : Nat) (b : Bool) (d : Die) :
    (d.flag f i b).tallies = d.tallies ∧ (d.flag f i b).caps = d.caps ∧ (d.flag f i b).readData = d.readData ∧ (d.flag f i b).emits = d.emits ∧
    (d.flag f i b).host = d.host ∧ (d.flag f i b).free = d.free ∧ (d.flag f i b).nonce = d.nonce ∧ (d.flag f i b).fc = d.fc ∧
    (d.flag f i b).ns = d.ns ∧ (d.flag f i b).up = d.up ∧ (d.flag f i b).aliveOn = d.aliveOn ∧ (d.flag f i b).alive = d.alive ∧
    (d.flag f i b).refWait = d.refWait ∧ (d.flag f i b).pullIn = d.pullIn ∧ (d.flag f i b).fcRun = d.fcRun ∧
    (d.flag f i b).timingPending = d.timingPending ∧ (d.flag f i b).profilePending = d.profilePending ∧
    (d.flag f i b).statePending = d.statePending ∧ (d.flag f i b).tripped = d.tripped ∧ (d.flag f i b).off = d.off ∧
    (d.flag f i b).napOpen = d.napOpen ∧ (d.flag f i b).restoring = d.restoring ∧ (d.flag f i b).parsers = d.parsers ∧
    (d.flag f i b).steer = d.steer ∧ (d.flag f i b).feeds = d.feeds ∧ (d.flag f i b).pas = d.pas ∧ (d.flag f i b).rows = d.rows ∧
    (d.flag f i b).dir = d.dir ∧ (d.flag f i b).lar = d.lar ∧ (d.flag f i b).poison = d.poison ∧ (d.flag f i b).ecc = d.ecc ∧
    (d.flag f i b).looked = d.looked ∧ (d.flag f i b).entries = d.entries ∧ (d.flag f i b).launch = d.launch ∧ (d.flag f i b).ports = d.ports ∧
    (d.flag f i b).pins = d.pins ∧ (d.flag f i b).trigIn = d.trigIn ∧ (d.flag f i b).tbs = d.tbs ∧ (d.flag f i b).pair = d.pair ∧
    (d.flag f i b).txts = d.txts ∧ (d.flag f i b).ptpTag = d.ptpTag ∧ (d.flag f i b).grants = d.grants ∧ (d.flag f i b).otp = d.otp ∧
    (d.flag f i b).claims = d.claims ∧ (d.flag f i b).electionNs = d.electionNs ∧ (d.flag f i b).heartbeat = d.heartbeat ∧
    (d.flag f i b).handover = d.handover ∧ (d.flag f i b).smbPtr = d.smbPtr ∧ (d.flag f i b).jtagLast = d.jtagLast ∧
    (d.flag f i b).spares = d.spares ∧ (d.flag f i b).spareField = d.spareField ∧ (d.flag f i b).staged = d.staged ∧ (d.flag f i b).store = d.store ∧
    (d.flag f i b).ceLast = d.ceLast ∧ (d.flag f i b).shd = d.shd ∧ (d.flag f i b).loft = d.loft ∧ (d.flag f i b).lanes = d.lanes ∧
    (d.flag f i b).flk = d.flk ∧ (d.flag f i b).tiles = d.tiles ∧ (d.flag f i b).eng = d.eng ∧ (d.flag f i b).upd = d.upd ∧
    (d.flag f i b).loads = d.loads ∧ (d.flag f i b).loadOrder = d.loadOrder ∧ (d.flag f i b).closed = d.closed ∧ (d.flag f i b).stopped = d.stopped ∧ (d.flag f i b).shedLow = d.shedLow ∧
    (d.flag f i b).injLast = d.injLast := by and_intros <;> rfl

/-- A write of a pair changes register fields alone. -/
@[simp] theorem Die.putPair_frame (lo hi : Fld) (i v : Nat) (d : Die) :
    (d.putPair lo hi i v).tallies = d.tallies ∧ (d.putPair lo hi i v).caps = d.caps ∧ (d.putPair lo hi i v).readData = d.readData ∧
    (d.putPair lo hi i v).emits = d.emits ∧ (d.putPair lo hi i v).host = d.host ∧ (d.putPair lo hi i v).free = d.free ∧
    (d.putPair lo hi i v).nonce = d.nonce ∧ (d.putPair lo hi i v).fc = d.fc ∧ (d.putPair lo hi i v).ns = d.ns ∧ (d.putPair lo hi i v).up = d.up ∧
    (d.putPair lo hi i v).aliveOn = d.aliveOn ∧ (d.putPair lo hi i v).alive = d.alive ∧ (d.putPair lo hi i v).refWait = d.refWait ∧
    (d.putPair lo hi i v).pullIn = d.pullIn ∧ (d.putPair lo hi i v).fcRun = d.fcRun ∧ (d.putPair lo hi i v).timingPending = d.timingPending ∧
    (d.putPair lo hi i v).profilePending = d.profilePending ∧ (d.putPair lo hi i v).statePending = d.statePending ∧
    (d.putPair lo hi i v).tripped = d.tripped ∧ (d.putPair lo hi i v).off = d.off ∧ (d.putPair lo hi i v).napOpen = d.napOpen ∧
    (d.putPair lo hi i v).restoring = d.restoring ∧ (d.putPair lo hi i v).parsers = d.parsers ∧ (d.putPair lo hi i v).steer = d.steer ∧
    (d.putPair lo hi i v).feeds = d.feeds ∧ (d.putPair lo hi i v).pas = d.pas ∧ (d.putPair lo hi i v).rows = d.rows ∧
    (d.putPair lo hi i v).dir = d.dir ∧ (d.putPair lo hi i v).lar = d.lar ∧ (d.putPair lo hi i v).poison = d.poison ∧
    (d.putPair lo hi i v).ecc = d.ecc ∧ (d.putPair lo hi i v).looked = d.looked ∧ (d.putPair lo hi i v).entries = d.entries ∧
    (d.putPair lo hi i v).launch = d.launch ∧ (d.putPair lo hi i v).ports = d.ports ∧ (d.putPair lo hi i v).pins = d.pins ∧
    (d.putPair lo hi i v).trigIn = d.trigIn ∧ (d.putPair lo hi i v).tbs = d.tbs ∧ (d.putPair lo hi i v).pair = d.pair ∧
    (d.putPair lo hi i v).txts = d.txts ∧ (d.putPair lo hi i v).ptpTag = d.ptpTag ∧ (d.putPair lo hi i v).grants = d.grants ∧
    (d.putPair lo hi i v).otp = d.otp ∧ (d.putPair lo hi i v).claims = d.claims ∧ (d.putPair lo hi i v).electionNs = d.electionNs ∧
    (d.putPair lo hi i v).heartbeat = d.heartbeat ∧ (d.putPair lo hi i v).handover = d.handover ∧ (d.putPair lo hi i v).smbPtr = d.smbPtr ∧
    (d.putPair lo hi i v).jtagLast = d.jtagLast ∧ (d.putPair lo hi i v).spares = d.spares ∧ (d.putPair lo hi i v).spareField = d.spareField ∧
    (d.putPair lo hi i v).staged = d.staged ∧ (d.putPair lo hi i v).store = d.store ∧ (d.putPair lo hi i v).ceLast = d.ceLast ∧
    (d.putPair lo hi i v).shd = d.shd ∧ (d.putPair lo hi i v).loft = d.loft ∧ (d.putPair lo hi i v).lanes = d.lanes ∧
    (d.putPair lo hi i v).flk = d.flk ∧ (d.putPair lo hi i v).tiles = d.tiles ∧ (d.putPair lo hi i v).eng = d.eng ∧
    (d.putPair lo hi i v).upd = d.upd ∧ (d.putPair lo hi i v).loads = d.loads ∧ (d.putPair lo hi i v).loadOrder = d.loadOrder ∧ (d.putPair lo hi i v).closed = d.closed ∧
    (d.putPair lo hi i v).stopped = d.stopped ∧ (d.putPair lo hi i v).shedLow = d.shedLow ∧ (d.putPair lo hi i v).injLast = d.injLast := by and_intros <;> rfl

/-- A write to host memory changes host memory alone. -/
@[simp] theorem Die.hostWrite_frame (fn a : Nat) (bs : List Byte) (d : Die) :
    (d.hostWrite fn a bs).regs = d.regs ∧ (d.hostWrite fn a bs).tallies = d.tallies ∧ (d.hostWrite fn a bs).caps = d.caps ∧
    (d.hostWrite fn a bs).readData = d.readData ∧ (d.hostWrite fn a bs).emits = d.emits ∧ (d.hostWrite fn a bs).free = d.free ∧
    (d.hostWrite fn a bs).nonce = d.nonce ∧ (d.hostWrite fn a bs).fc = d.fc ∧ (d.hostWrite fn a bs).ns = d.ns ∧ (d.hostWrite fn a bs).up = d.up ∧
    (d.hostWrite fn a bs).aliveOn = d.aliveOn ∧ (d.hostWrite fn a bs).alive = d.alive ∧ (d.hostWrite fn a bs).refWait = d.refWait ∧
    (d.hostWrite fn a bs).pullIn = d.pullIn ∧ (d.hostWrite fn a bs).fcRun = d.fcRun ∧ (d.hostWrite fn a bs).timingPending = d.timingPending ∧
    (d.hostWrite fn a bs).profilePending = d.profilePending ∧ (d.hostWrite fn a bs).statePending = d.statePending ∧
    (d.hostWrite fn a bs).tripped = d.tripped ∧ (d.hostWrite fn a bs).off = d.off ∧ (d.hostWrite fn a bs).napOpen = d.napOpen ∧
    (d.hostWrite fn a bs).restoring = d.restoring ∧ (d.hostWrite fn a bs).parsers = d.parsers ∧ (d.hostWrite fn a bs).steer = d.steer ∧
    (d.hostWrite fn a bs).feeds = d.feeds ∧ (d.hostWrite fn a bs).pas = d.pas ∧ (d.hostWrite fn a bs).rows = d.rows ∧
    (d.hostWrite fn a bs).dir = d.dir ∧ (d.hostWrite fn a bs).lar = d.lar ∧ (d.hostWrite fn a bs).poison = d.poison ∧
    (d.hostWrite fn a bs).ecc = d.ecc ∧ (d.hostWrite fn a bs).looked = d.looked ∧ (d.hostWrite fn a bs).entries = d.entries ∧
    (d.hostWrite fn a bs).launch = d.launch ∧ (d.hostWrite fn a bs).ports = d.ports ∧ (d.hostWrite fn a bs).pins = d.pins ∧
    (d.hostWrite fn a bs).trigIn = d.trigIn ∧ (d.hostWrite fn a bs).tbs = d.tbs ∧ (d.hostWrite fn a bs).pair = d.pair ∧
    (d.hostWrite fn a bs).txts = d.txts ∧ (d.hostWrite fn a bs).ptpTag = d.ptpTag ∧ (d.hostWrite fn a bs).grants = d.grants ∧
    (d.hostWrite fn a bs).otp = d.otp ∧ (d.hostWrite fn a bs).claims = d.claims ∧ (d.hostWrite fn a bs).electionNs = d.electionNs ∧
    (d.hostWrite fn a bs).heartbeat = d.heartbeat ∧ (d.hostWrite fn a bs).handover = d.handover ∧ (d.hostWrite fn a bs).smbPtr = d.smbPtr ∧
    (d.hostWrite fn a bs).jtagLast = d.jtagLast ∧ (d.hostWrite fn a bs).spares = d.spares ∧ (d.hostWrite fn a bs).spareField = d.spareField ∧
    (d.hostWrite fn a bs).staged = d.staged ∧ (d.hostWrite fn a bs).store = d.store ∧ (d.hostWrite fn a bs).ceLast = d.ceLast ∧
    (d.hostWrite fn a bs).shd = d.shd ∧ (d.hostWrite fn a bs).loft = d.loft ∧ (d.hostWrite fn a bs).lanes = d.lanes ∧
    (d.hostWrite fn a bs).flk = d.flk ∧ (d.hostWrite fn a bs).tiles = d.tiles ∧ (d.hostWrite fn a bs).eng = d.eng ∧
    (d.hostWrite fn a bs).upd = d.upd ∧ (d.hostWrite fn a bs).loads = d.loads ∧ (d.hostWrite fn a bs).loadOrder = d.loadOrder ∧ (d.hostWrite fn a bs).closed = d.closed ∧
    (d.hostWrite fn a bs).stopped = d.stopped ∧ (d.hostWrite fn a bs).shedLow = d.shedLow ∧ (d.hostWrite fn a bs).injLast = d.injLast := by and_intros <;> rfl

/-- An output changes the outputs alone. -/
@[simp] theorem Die.emit_frame (e : Emit) (d : Die) :
    (d.emit e).regs = d.regs ∧ (d.emit e).tallies = d.tallies ∧ (d.emit e).caps = d.caps ∧ (d.emit e).readData = d.readData ∧
    (d.emit e).host = d.host ∧ (d.emit e).free = d.free ∧ (d.emit e).nonce = d.nonce ∧ (d.emit e).fc = d.fc ∧ (d.emit e).ns = d.ns ∧
    (d.emit e).up = d.up ∧ (d.emit e).aliveOn = d.aliveOn ∧ (d.emit e).alive = d.alive ∧ (d.emit e).refWait = d.refWait ∧
    (d.emit e).pullIn = d.pullIn ∧ (d.emit e).fcRun = d.fcRun ∧ (d.emit e).timingPending = d.timingPending ∧
    (d.emit e).profilePending = d.profilePending ∧ (d.emit e).statePending = d.statePending ∧ (d.emit e).tripped = d.tripped ∧
    (d.emit e).off = d.off ∧ (d.emit e).napOpen = d.napOpen ∧ (d.emit e).restoring = d.restoring ∧ (d.emit e).parsers = d.parsers ∧
    (d.emit e).steer = d.steer ∧ (d.emit e).feeds = d.feeds ∧ (d.emit e).pas = d.pas ∧ (d.emit e).rows = d.rows ∧ (d.emit e).dir = d.dir ∧
    (d.emit e).lar = d.lar ∧ (d.emit e).poison = d.poison ∧ (d.emit e).ecc = d.ecc ∧ (d.emit e).looked = d.looked ∧ (d.emit e).entries = d.entries ∧
    (d.emit e).launch = d.launch ∧ (d.emit e).ports = d.ports ∧ (d.emit e).pins = d.pins ∧ (d.emit e).trigIn = d.trigIn ∧ (d.emit e).tbs = d.tbs ∧
    (d.emit e).pair = d.pair ∧ (d.emit e).txts = d.txts ∧ (d.emit e).ptpTag = d.ptpTag ∧ (d.emit e).grants = d.grants ∧ (d.emit e).otp = d.otp ∧
    (d.emit e).claims = d.claims ∧ (d.emit e).electionNs = d.electionNs ∧ (d.emit e).heartbeat = d.heartbeat ∧ (d.emit e).handover = d.handover ∧
    (d.emit e).smbPtr = d.smbPtr ∧ (d.emit e).jtagLast = d.jtagLast ∧ (d.emit e).spares = d.spares ∧ (d.emit e).spareField = d.spareField ∧
    (d.emit e).staged = d.staged ∧ (d.emit e).store = d.store ∧ (d.emit e).ceLast = d.ceLast ∧ (d.emit e).shd = d.shd ∧ (d.emit e).loft = d.loft ∧
    (d.emit e).lanes = d.lanes ∧ (d.emit e).flk = d.flk ∧ (d.emit e).tiles = d.tiles ∧ (d.emit e).eng = d.eng ∧ (d.emit e).upd = d.upd ∧
    (d.emit e).loads = d.loads ∧ (d.emit e).loadOrder = d.loadOrder ∧ (d.emit e).closed = d.closed ∧ (d.emit e).stopped = d.stopped ∧ (d.emit e).shedLow = d.shedLow ∧
    (d.emit e).injLast = d.injLast := by and_intros <;> rfl

/-- A change of a pasture's state changes those states alone. -/
@[simp] theorem Die.onPas_frame (p : Nat) (g : PasSt → PasSt) (d : Die) :
    (d.onPas p g).regs = d.regs ∧ (d.onPas p g).tallies = d.tallies ∧ (d.onPas p g).caps = d.caps ∧ (d.onPas p g).readData = d.readData ∧
    (d.onPas p g).emits = d.emits ∧ (d.onPas p g).host = d.host ∧ (d.onPas p g).free = d.free ∧ (d.onPas p g).nonce = d.nonce ∧
    (d.onPas p g).fc = d.fc ∧ (d.onPas p g).ns = d.ns ∧ (d.onPas p g).up = d.up ∧ (d.onPas p g).aliveOn = d.aliveOn ∧ (d.onPas p g).alive = d.alive ∧
    (d.onPas p g).refWait = d.refWait ∧ (d.onPas p g).pullIn = d.pullIn ∧ (d.onPas p g).fcRun = d.fcRun ∧
    (d.onPas p g).timingPending = d.timingPending ∧ (d.onPas p g).profilePending = d.profilePending ∧ (d.onPas p g).statePending = d.statePending ∧
    (d.onPas p g).tripped = d.tripped ∧ (d.onPas p g).off = d.off ∧ (d.onPas p g).napOpen = d.napOpen ∧ (d.onPas p g).restoring = d.restoring ∧
    (d.onPas p g).parsers = d.parsers ∧ (d.onPas p g).steer = d.steer ∧ (d.onPas p g).feeds = d.feeds ∧ (d.onPas p g).rows = d.rows ∧
    (d.onPas p g).dir = d.dir ∧ (d.onPas p g).lar = d.lar ∧ (d.onPas p g).poison = d.poison ∧ (d.onPas p g).ecc = d.ecc ∧
    (d.onPas p g).looked = d.looked ∧ (d.onPas p g).entries = d.entries ∧ (d.onPas p g).launch = d.launch ∧ (d.onPas p g).ports = d.ports ∧
    (d.onPas p g).pins = d.pins ∧ (d.onPas p g).trigIn = d.trigIn ∧ (d.onPas p g).tbs = d.tbs ∧ (d.onPas p g).pair = d.pair ∧
    (d.onPas p g).txts = d.txts ∧ (d.onPas p g).ptpTag = d.ptpTag ∧ (d.onPas p g).grants = d.grants ∧ (d.onPas p g).otp = d.otp ∧
    (d.onPas p g).claims = d.claims ∧ (d.onPas p g).electionNs = d.electionNs ∧ (d.onPas p g).heartbeat = d.heartbeat ∧
    (d.onPas p g).handover = d.handover ∧ (d.onPas p g).smbPtr = d.smbPtr ∧ (d.onPas p g).jtagLast = d.jtagLast ∧ (d.onPas p g).spares = d.spares ∧
    (d.onPas p g).spareField = d.spareField ∧ (d.onPas p g).staged = d.staged ∧ (d.onPas p g).store = d.store ∧ (d.onPas p g).ceLast = d.ceLast ∧
    (d.onPas p g).shd = d.shd ∧ (d.onPas p g).loft = d.loft ∧ (d.onPas p g).lanes = d.lanes ∧ (d.onPas p g).flk = d.flk ∧
    (d.onPas p g).tiles = d.tiles ∧ (d.onPas p g).eng = d.eng ∧ (d.onPas p g).upd = d.upd ∧ (d.onPas p g).loads = d.loads ∧ (d.onPas p g).loadOrder = d.loadOrder ∧
    (d.onPas p g).closed = d.closed ∧ (d.onPas p g).stopped = d.stopped ∧ (d.onPas p g).shedLow = d.shedLow ∧ (d.onPas p g).injLast = d.injLast := by and_intros <;> rfl

/-- A field reads what was written, cut to its width. -/
@[simp] theorem Die.get_put_same (d : Die) (f : Fld) (i v : Nat) : (d.put f i v).get f i = v % 2 ^ f.width := by
  simp [Die.get, Die.put]

/-- A write to one field leaves a field with another key alone. -/
theorem Die.get_put_other (d : Die) (f g : Fld) (i j v : Nat) (h : g.key j ≠ f.key i) : (d.put f i v).get g j = d.get g j := by
  simp only [Die.get, Die.put]; exact KMap.get_set_ne _ _ _ _ _ _ h

/-- A field read depends on the register fields alone. -/
theorem Die.get_congr (d e : Die) (h : d.regs = e.regs) (f : Fld) (i : Nat) : d.get f i = e.get f i := by simp [Die.get, h]

/-- The state of pasture p's image after a change of it. -/
@[simp] theorem Die.pasture_onPas_same (d : Die) (p : Nat) (g : PasSt → PasSt) : (d.onPas p g).pasture p = g (d.pasture p) := by
  simp [Die.pasture, Die.onPas]

/-- Another pasture's state stands. -/
theorem Die.pasture_onPas_other (d : Die) (p q : Nat) (g : PasSt → PasSt) (h : q ≠ p) : (d.onPas p g).pasture q = d.pasture q := by
  simp [Die.pasture, Die.onPas, KMap.get_upd_other _ _ _ _ _ h]

/-- A command of the compute die that completes changes the die as its meaning says and nothing beside it. -/
theorem dieCmd_next (ok : Bool) (f : State → Die) (s t : State) (h : dieCmd ok f s = .next t) : ok = true ∧ t = { s with die := f s } := by
  unfold dieCmd at h; split at h
  · next hk => exact ⟨hk, by injection h with h; exact h.symm⟩
  · contradiction

/-- A command of a unit the device has completes. -/
theorem dieCmd_ok (ok : Bool) (f : State → Die) (s : State) (h : ok = true) : dieCmd ok f s = .next { s with die := f s } := by
  simp [dieCmd, h]

/-- A guarded command that completes gives its state. -/
theorem guardU_next (ok : Bool) (s t : State) (h : guardU ok s = .next t) : ok = true ∧ t = s := by
  unfold guardU at h; split at h
  · next hk => exact ⟨hk, by injection h with h; exact h.symm⟩
  · contradiction

/-- A guarded command of a unit the device has completes. -/
theorem guardU_ok (ok : Bool) (s : State) (h : ok = true) : guardU ok s = .next s := by simp [guardU, h]

end Sys2Proof.Machine
end

