-- ==== Sys2Proof/Laws/Report.lean ====
section
/-! SUPPORT. Everything that counting, tracing, raising an alarm or an incident, and writing a fault record can change: one law each, that it is a report. -/

namespace Sys2Proof.Machine

theorem Die.report_refl (d : Die) : d.report d := ⟨rfl, fun _ _ _ => rfl⟩

theorem Die.report.trans {a b c : Die} (h : a.report b) (k : b.report c) : a.report c := by
  refine ⟨?_, fun f i hf => (k.2 f i hf).trans (h.2 f i hf)⟩
  rw [k.1, h.1]

/-- A change of a reporting register is a report. -/
theorem Die.report_put (d : Die) (f : Fld) (i v : Nat) (h : reportWord (f.key i / 32) = true) : d.report (d.put f i v) := by
  refine ⟨rfl, fun g j hg => Die.get_put_other _ _ _ _ _ _ fun e => ?_⟩
  rw [e, h] at hg; cases hg

/-- A change of tallies, Loft, host memory, outputs and fault store is a report. -/
theorem Die.report_of (d e : Die)
    (h : e = { d with tallies := e.tallies, loft := e.loft, host := e.host, emits := e.emits, store := e.store }) : d.report e := by
  refine ⟨?_, fun g j _ => ?_⟩
  · rw [h]
  · exact Die.get_congr _ _ (by rw [h]) _ _

theorem Die.report_ite {c : Prop} [Decidable c] {d e f : Die} (h : d.report e) (k : d.report f) : d.report (if c then e else f) := by
  split <;> assumption

theorem report_alarmFld (b : Nat) (h : b < 32) : reportWord ((alarmFld b).key 0 / 32) = true := by
  have : (alarmFld b).key 0 / 32 = 0x810 := by simp only [alarmFld, Fld.key]; omega
  rw [this]; rfl

theorem Die.report_countRaw (t : Tal) (i n : Nat) (d : Die) : d.report (d.countRaw t i n) :=
  Die.report_ite (Die.report.trans (Die.report_of d _ rfl) (Die.report_put _ _ _ _ (report_alarmFld 15 (by decide)))) (Die.report_of _ _ rfl)

/-- A tally after n more occurrences. -/
@[simp] theorem Die.tally_countRaw_same (t : Tal) (i n : Nat) (d : Die) : (d.countRaw t i n).tally t i = tallyAdd (d.tally t i) n := by
  unfold Die.countRaw Die.tally; dsimp only
  split <;> simp [Die.put]

/-- The other tallies stand. -/
theorem Die.tally_countRaw_other (t : Tal) (i n k : Nat) (d : Die) (h : k ≠ t.key i) :
    KMap.get 0 (d.countRaw t i n).tallies k = KMap.get 0 d.tallies k := by
  unfold Die.countRaw; dsimp only
  split <;> simp only [Die.put] <;> exact KMap.get_set_ne _ _ _ _ _ _ h

theorem Die.traced_refl (d : Die) : d.traced d := ⟨d.report_refl, fun _ _ => rfl⟩

theorem Die.traced.trans {a b c : Die} (h : a.traced b) (k : b.traced c) : a.traced c :=
  ⟨h.1.trans k.1, fun x hx => (k.2 x hx).trans (h.2 x hx)⟩

theorem Die.traced_put (d : Die) (f : Fld) (i v : Nat) (h : reportWord (f.key i / 32) = true) : d.traced (d.put f i v) :=
  ⟨d.report_put f i v h, fun _ _ => rfl⟩

theorem Die.traced_of (d e : Die) (h : e = { d with loft := e.loft, host := e.host, emits := e.emits, store := e.store }) : d.traced e :=
  ⟨Die.report_of _ _ (by rw [h]), fun _ _ => by rw [h]⟩

theorem Die.traced_ite {c : Prop} [Decidable c] {d e f : Die} (h : d.traced e) (k : d.traced f) : d.traced (if c then e else f) := by
  split <;> assumption

/-- A count of one of the Loft's own tallies. -/
theorem Die.traced_countRaw (t : Tal) (i n : Nat) (d : Die) (h : loftTally (t.key i) = true) : d.traced (d.countRaw t i n) :=
  ⟨d.report_countRaw t i n, fun k hk => Die.tally_countRaw_other _ _ _ _ _ fun e => by rw [e, h] at hk; cases hk⟩

theorem Die.traced_hostWrite (fn a : Nat) (bs : List Byte) (d : Die) : d.traced (d.hostWrite fn a bs) := Die.traced_of _ _ rfl

theorem Die.traced_emit (e : Emit) (d : Die) : d.traced (d.emit e) := Die.traced_of _ _ rfl

theorem Die.traced_nextSeq (a b : Nat) (d : Die) : d.traced (d.nextSeq a b).2 := Die.traced_of _ _ rfl

theorem Die.traced_ffPut (bs : List Byte) (d : Die) : d.traced (d.ffPut bs) :=
  Die.traced_ite (Die.traced_of _ _ rfl) (Die.traced_refl _)

/-- The head register of a ring is a reporting one. -/
def PktRing.reports (r : PktRing) : Prop := reportWord (r.head.key r.inst / 32) = true

theorem PktRing.traced_write (r : PktRing) (h : r.reports) (pad : Nat) (bs : List Byte) (d : Die) : d.traced (r.write pad bs d) :=
  ((d.traced_hostWrite _ _ _).trans (Die.traced_hostWrite _ _ _ _)).trans (Die.traced_put _ _ _ _ h)

/-- Dropping a packet is traced alone. -/
def Reports (f : Die → Die) : Prop := ∀ d : Die, d.traced (f d)

theorem Die.traced_loft (d : Die) (l : Loft) : d.traced { d with loft := l } := Die.traced_of _ _ rfl

theorem Die.traced_gapBytes (k : Pkt) (g : Nat × Nat) (d : Die) : d.traced (d.gapBytes k g).2 :=
  (d.traced_nextSeq 9 0).trans (Die.traced_countRaw _ _ _ _ rfl)

theorem Die.traced_ringPut (r : PktRing) (hr : r.reports) (out : Nat) (k : Pkt) (bs : List Byte) (drop : Die → Die) (hd : Reports drop) (d : Die) :
    d.traced (d.ringPut r out k bs drop) := by
  have hdrop : ∀ l, d.traced { drop d with loft := l } := fun l => (hd d).trans (Die.traced_loft _ l)
  unfold Die.ringPut
  refine Die.traced_ite (hdrop _) ?_
  split
  · exact hdrop _
  · refine Die.traced_ite (PktRing.traced_write r hr _ _ _) ?_
    exact ((d.traced_gapBytes k _).trans (Die.traced_loft _ _)).trans (PktRing.traced_write r hr _ _ _)

theorem Die.traced_lanePut (bs : List Byte) (d : Die) : d.traced (d.lanePut bs) := by
  unfold Die.lanePut; split
  · exact d.traced_refl
  · exact d.traced_loft _
  · exact d.traced_loft _

theorem reports_dropLoft (a : Bool) : Reports (dropLoft a) := fun d => by
  have h := (d.traced_countRaw T.LFT_TRACE_DROP 0 1 rfl).trans (Die.traced_put _ (alarmFld 14) 0 1 (report_alarmFld 14 (by decide)))
  unfold dropLoft
  exact Die.traced_ite (h.trans (Die.traced_countRaw _ _ _ _ rfl)) h

theorem Die.traced_laneDrain (k : Pkt) (bs : List Byte) (d : Die) : d.traced (d.laneDrain k bs) := by
  unfold Die.laneDrain
  refine Die.traced_ite d.traced_refl (Die.traced_ite ?_ (Die.traced_ite (d.traced_lanePut bs) ?_))
  · exact (reports_dropLoft _ d).trans (Die.traced_loft _ _)
  · exact (((d.traced_gapBytes k _).trans (Die.traced_loft _ _)).trans (Die.traced_lanePut _ _)).trans (Die.traced_lanePut _ _)

/-- TRACE_DROP of a pasture the device has is one of the Loft's tallies. -/
theorem loftTally_pas (p : Nat) (h : p < 64) : loftTally (T.PAS_TRACE_DROP.key p) = true := by
  have a : 0x300000 ≤ T.PAS_TRACE_DROP.key p := by simp only [Tal.key, T.PAS_TRACE_DROP]; omega
  have b : T.PAS_TRACE_DROP.key p < 0x340000 := by simp only [Tal.key, T.PAS_TRACE_DROP]; omega
  have c : T.PAS_TRACE_DROP.key p % 0x1000 = 0xC28 := by simp only [Tal.key, T.PAS_TRACE_DROP]; omega
  simp [loftTally, a, b, c]

theorem reports_dropPas (p : Nat) (hp : p < 64) : Reports (dropPas p) := fun d =>
  (d.traced_countRaw _ _ _ (loftTally_pas p hp)).trans (Die.traced_put _ (alarmFld 14) 0 1 (report_alarmFld 14 (by decide)))

theorem Die.reports_ringA (d : Die) : d.ringA.reports := by
  show reportWord (R.LFT_A_HEAD_VALUE.key 0 / 32) = true; rfl

theorem Die.reports_ringG (d : Die) : d.ringG.reports := by
  show reportWord (R.LFT_RING_HEAD_VALUE.key 0 / 32) = true; rfl

/-- The trace ring of a pasture the device has. -/
theorem Die.reports_ringP (d : Die) (p : Nat) (h : p < 64) : (d.ringP p).reports := by
  have : (d.ringP p).head.key (d.ringP p).inst / 32 = 0x300814 + p * 0x1000 := by
    simp only [Die.ringP, R.PAS_TRACE_HEAD_VALUE, Fld.key]; omega
  unfold PktRing.reports reportWord
  rw [this]
  have a : 0x300000 ≤ 0x300814 + p * 0x1000 := by omega
  have b : 0x300814 + p * 0x1000 < 0x340000 := by omega
  have c : (0x300814 + p * 0x1000) % 0x1000 = 0x814 := by omega
  simp [a, b, c]

/-- The pasture a packet concerns, if any, is one of the 64. -/
def Pkt.known (k : Pkt) : Prop := ∀ p, k.pas = some p → p < 64

/-- A packet at the trace ring of the pasture it concerns. -/
theorem Die.traced_pasStep (o : Option Nat) (b : Bool) (k : Pkt) (bs : List Byte) (d : Die) :
    (∀ p, o = some p → p < 64) → d.traced (match o with | some q => if b then d.ringPut (d.ringP q) (3 + q) k bs (dropPas q) else d | none => d) := by
  intro ho
  split
  · next q => exact Die.traced_ite (Die.traced_ringPut _ (Die.reports_ringP _ _ (ho q rfl)) _ _ _ _ (reports_dropPas _ (ho q rfl)) _) d.traced_refl
  · exact d.traced_refl

theorem Die.traced_deliver (k : Pkt) (hk : k.known) (d : Die) : d.traced (d.deliver k) := by
  unfold Die.deliver
  split
  refine Die.traced_ite ?_ d.traced_refl
  dsimp only
  refine Die.traced.trans ?_ (Die.traced_ite (Die.traced_laneDrain _ _ _) (Die.traced_refl _))
  refine Die.traced.trans ?_ (Die.traced_ite (Die.traced_ringPut _ (Die.reports_ringG _) _ _ _ _ (reports_dropLoft _) _) (Die.traced_refl _))
  refine Die.traced.trans ?_ (Die.traced_pasStep _ _ _ _ _ hk)
  · refine Die.traced_ite ?_ ?_
    · exact (((d.traced_nextSeq _ _).trans (Die.traced_ite (Die.traced_countRaw _ _ _ _ rfl) (Die.traced_refl _))).trans (Die.traced_ffPut _ _)).trans
        (Die.traced_ringPut _ (Die.reports_ringA _) _ _ _ _ (reports_dropLoft _) _)
    · exact ((d.traced_nextSeq _ _).trans (Die.traced_ite (Die.traced_countRaw _ _ _ _ rfl) (Die.traced_refl _))).trans (Die.traced_ffPut _ _)

theorem Die.traced_alarmsSince (d0 : Die) (bs sent : List Nat) (d : Die) : d.traced (Die.alarmsSince d0 bs sent d) := by
  induction bs generalizing sent d with
  | nil => exact d.traced_refl
  | cons b bs ih =>
    unfold Die.alarmsSince
    exact Die.traced_ite ((d.traced_deliver (alarmPkt b) (fun p h => by cases h)).trans (ih _ _)) (ih _ _)

/-- Setting an alarm bit traces alone. -/
theorem Die.traced_alarm (b : Nat) (hb : b < 32) (d : Die) : d.traced (d.alarm b) :=
  (d.traced_put _ _ _ (report_alarmFld b hb)).trans (Die.traced_alarmsSince _ _ _ _)

theorem Die.report_alarm (b : Nat) (hb : b < 32) (d : Die) : d.report (d.alarm b) := (d.traced_alarm b hb).1

/-- A trace packet is a report. -/
theorem Die.traced_trace (k : Pkt) (hk : k.known) (d : Die) : d.traced (d.trace k) :=
  (d.traced_deliver k hk).trans (Die.traced_alarmsSince _ _ _ _)

theorem Die.report_trace (k : Pkt) (hk : k.known) (d : Die) : d.report (d.trace k) := (d.traced_trace k hk).1

/-- The alarm bits that tallies raise are among the 32. -/
theorem Tal.alarm_lt (t : Tal) (b : Nat) (h : t.alarm = some b) : b < 32 := by
  have key : ∀ (c : Prop) [Decidable c] (x : Nat) (y : Option Nat), x < 32 → (∀ z, y = some z → z < 32) →
      ∀ z, (if c then some x else y) = some z → z < 32 := by
    intro c _ x y hx hy z hz; split at hz
    · injection hz with hz; omega
    · exact hy z hz
  have none_ : ∀ z, (none : Option Nat) = some z → z < 32 := fun z hz => by cases hz
  have two : ∀ (c : Prop) [Decidable c] (x y : Option Nat), (∀ z, x = some z → z < 32) → (∀ z, y = some z → z < 32) →
      ∀ z, (if c then x else y) = some z → z < 32 := by
    intro c _ x y hx hy z hz; split at hz
    · exact hx z hz
    · exact hy z hz
  have one : ∀ x : Nat, x < 32 → ∀ z, some x = some z → z < 32 := fun x hx z hz => by injection hz with hz; omega
  refine two _ _ _ (two _ _ _ (two _ _ _ (one _ (by decide)) (one _ (by decide))) ?_) ?_ b h
  · exact key _ _ _ (by decide) (key _ _ _ (by decide) (key _ _ _ (by decide) none_))
  · iterate 11 refine key _ _ _ (by decide) ?_
    exact none_

/-- A count is a report. -/
theorem Die.report_countBy (t : Tal) (i n : Nat) (d : Die) : d.report (d.countBy t i n) := by
  unfold Die.countBy
  refine Die.report.trans ?_ (Die.traced_alarmsSince _ _ _ _).1
  split
  · next b hb => exact (d.report_countRaw _ _ _).trans (Die.report_put _ _ _ _ (report_alarmFld b (Tal.alarm_lt t b hb)))
  · exact d.report_countRaw _ _ _

theorem Die.report_count (t : Tal) (i : Nat) (d : Die) : d.report (d.count t i) := d.report_countBy t i 1

/-- What a count leaves in its own tally, one the Loft does not count (R20, R545). -/
theorem Die.tally_countBy_same (t : Tal) (i n : Nat) (d : Die) (h : loftTally (t.key i) = false) :
    (d.countBy t i n).tally t i = tallyAdd (d.tally t i) n := by
  unfold Die.countBy
  refine ((Die.traced_alarmsSince _ _ _ _).2 _ h).trans ?_
  split
  · exact Die.tally_countRaw_same t i n d
  · exact Die.tally_countRaw_same t i n d

/-- A count leaves every other tally alone, the Loft's apart. -/
theorem Die.tally_countBy_other (t : Tal) (i n k : Nat) (d : Die) (h : loftTally k = false) (hk : k ≠ t.key i) :
    KMap.get 0 (d.countBy t i n).tallies k = KMap.get 0 d.tallies k := by
  unfold Die.countBy
  refine ((Die.traced_alarmsSince _ _ _ _).2 _ h).trans ?_
  split
  · exact Die.tally_countRaw_other t i n k d hk
  · exact Die.tally_countRaw_other t i n k d hk

theorem Die.tally_count_same (t : Tal) (i : Nat) (d : Die) (h : loftTally (t.key i) = false) :
    (d.count t i).tally t i = tallyAdd (d.tally t i) 1 := Die.tally_countBy_same t i 1 d h

/-- A stage packet is traced alone. -/
theorem Die.traced_stage (src inst p evid slot st : Nat) (hp : p < 64) (d : Die) : d.traced (d.stage src inst p evid slot st) :=
  d.traced_trace _ (fun q h => by injection h with h; omega)

/-- A stage packet is a report. -/
theorem Die.report_stage (src inst p evid slot st : Nat) (hp : p < 64) (d : Die) : d.report (d.stage src inst p evid slot st) :=
  d.report_trace _ (fun q h => by injection h with h; omega)

/-- An incident is a report. -/
theorem Die.report_incident (c src inst name : Nat) (d : Die) : d.report (d.incident c src inst name) := by
  unfold Die.incident
  refine Die.report_ite ?_ d.report_refl
  dsimp only
  have h := ((d.report_count T.LFT_INCIDENTS 0).trans (Die.report_alarm 16 (by decide) _))
  refine Die.report_ite ?_ ?_
  · refine Die.report.trans ?_ (Die.traced_loft _ _).1
    refine Die.report.trans ?_ (Die.report_put _ R.LFT_FF_FC_HI 0 _ rfl)
    refine Die.report.trans ?_ (Die.report_put _ R.LFT_FF_FC_LO 0 _ rfl)
    refine Die.report.trans ?_ (Die.report_put _ R.LFT_STATUS_CAUSE 0 _ rfl)
    refine Die.report.trans ?_ (Die.report_put _ R.LFT_STATUS_FF_STATE 0 _ rfl)
    exact h.trans (Die.report_trace _ (fun p h => by cases h) _)
  · exact h.trans (Die.report_trace _ (fun p h => by cases h) _)

/-- A fault record is a report. -/
theorem Die.report_faultRecord (fu : Fused) (kind : Nat) (keys : List (Nat × Cbor)) (d : Die) : d.report (d.faultRecord fu kind keys) := by
  unfold Die.faultRecord
  refine Die.report.trans ?_ (Die.report_trace _ (fun p h => by cases h) _)
  have h : ∀ x : List Byte, d.report (if kind = 1 then d else { d with store := (x :: d.store).take 16 }) := fun x =>
    Die.report_ite d.report_refl (Die.report_of _ _ rfl)
  refine Die.report.trans (h _) (Die.report_ite ?_ (Die.report_count _ _ _))
  exact (Die.traced_hostWrite _ _ _ _).1.trans (Die.report_put _ _ _ _ rfl)

/-- What a report leaves alone, field by field. -/
theorem Die.report.frame {d e : Die} (h : d.report e) :
    (e).caps = d.caps ∧ (e).readData = d.readData ∧ (e).free = d.free ∧ (e).fc = d.fc ∧ (e).ns = d.ns ∧ (e).up = d.up ∧ (e).aliveOn = d.aliveOn ∧
    (e).alive = d.alive ∧ (e).refWait = d.refWait ∧ (e).pullIn = d.pullIn ∧ (e).fcRun = d.fcRun ∧ (e).timingPending = d.timingPending ∧
    (e).profilePending = d.profilePending ∧ (e).statePending = d.statePending ∧ (e).tripped = d.tripped ∧ (e).off = d.off ∧ (e).napOpen = d.napOpen ∧
    (e).restoring = d.restoring ∧ (e).parsers = d.parsers ∧ (e).steer = d.steer ∧ (e).feeds = d.feeds ∧ (e).pas = d.pas ∧ (e).rows = d.rows ∧
    (e).dir = d.dir ∧ (e).lar = d.lar ∧ (e).poison = d.poison ∧ (e).ecc = d.ecc ∧ (e).looked = d.looked ∧ (e).entries = d.entries ∧
    (e).launch = d.launch ∧ (e).ports = d.ports ∧ (e).pins = d.pins ∧ (e).trigIn = d.trigIn ∧ (e).tbs = d.tbs ∧ (e).pair = d.pair ∧
    (e).txts = d.txts ∧ (e).ptpTag = d.ptpTag ∧ (e).grants = d.grants ∧ (e).otp = d.otp ∧ (e).claims = d.claims ∧ (e).electionNs = d.electionNs ∧
    (e).heartbeat = d.heartbeat ∧ (e).handover = d.handover ∧ (e).smbPtr = d.smbPtr ∧ (e).jtagLast = d.jtagLast ∧ (e).spares = d.spares ∧
    (e).spareField = d.spareField ∧ (e).staged = d.staged ∧ (e).ceLast = d.ceLast ∧ (e).shd = d.shd ∧ (e).lanes = d.lanes ∧ (e).flk = d.flk ∧
    (e).tiles = d.tiles ∧ (e).eng = d.eng ∧ (e).upd = d.upd ∧ (e).loads = d.loads ∧ (e).loadOrder = d.loadOrder ∧ (e).closed = d.closed ∧ (e).stopped = d.stopped ∧
    (e).shedLow = d.shedLow ∧ (e).injLast = d.injLast := by
  have k := h.1
  rw [k]
  and_intros <;> rfl

/-- A register field that no report changes. -/
theorem Die.report.get {d e : Die} (h : d.report e) (f : Fld) (i : Nat) (hf : reportWord (f.key i / 32) = false) : e.get f i = d.get f i := h.2 f i hf

/-- A count leaves these alone. -/
@[simp] theorem Die.count_frame (d : Die) (t : Tal) (i : Nat) :
    (d.count t i).caps = d.caps ∧ (d.count t i).readData = d.readData ∧ (d.count t i).free = d.free ∧ (d.count t i).fc = d.fc ∧
    (d.count t i).ns = d.ns ∧ (d.count t i).up = d.up ∧ (d.count t i).aliveOn = d.aliveOn ∧ (d.count t i).alive = d.alive ∧
    (d.count t i).refWait = d.refWait ∧ (d.count t i).pullIn = d.pullIn ∧ (d.count t i).fcRun = d.fcRun ∧
    (d.count t i).timingPending = d.timingPending ∧ (d.count t i).profilePending = d.profilePending ∧ (d.count t i).statePending = d.statePending ∧
    (d.count t i).tripped = d.tripped ∧ (d.count t i).off = d.off ∧ (d.count t i).napOpen = d.napOpen ∧ (d.count t i).restoring = d.restoring ∧
    (d.count t i).parsers = d.parsers ∧ (d.count t i).steer = d.steer ∧ (d.count t i).feeds = d.feeds ∧ (d.count t i).pas = d.pas ∧
    (d.count t i).rows = d.rows ∧ (d.count t i).dir = d.dir ∧ (d.count t i).lar = d.lar ∧ (d.count t i).poison = d.poison ∧
    (d.count t i).ecc = d.ecc ∧ (d.count t i).looked = d.looked ∧ (d.count t i).entries = d.entries ∧ (d.count t i).launch = d.launch ∧
    (d.count t i).ports = d.ports ∧ (d.count t i).pins = d.pins ∧ (d.count t i).trigIn = d.trigIn ∧ (d.count t i).tbs = d.tbs ∧
    (d.count t i).pair = d.pair ∧ (d.count t i).txts = d.txts ∧ (d.count t i).ptpTag = d.ptpTag ∧ (d.count t i).grants = d.grants ∧
    (d.count t i).otp = d.otp ∧ (d.count t i).claims = d.claims ∧ (d.count t i).electionNs = d.electionNs ∧ (d.count t i).heartbeat = d.heartbeat ∧
    (d.count t i).handover = d.handover ∧ (d.count t i).smbPtr = d.smbPtr ∧ (d.count t i).jtagLast = d.jtagLast ∧ (d.count t i).spares = d.spares ∧
    (d.count t i).spareField = d.spareField ∧ (d.count t i).staged = d.staged ∧ (d.count t i).ceLast = d.ceLast ∧ (d.count t i).shd = d.shd ∧
    (d.count t i).lanes = d.lanes ∧ (d.count t i).flk = d.flk ∧ (d.count t i).tiles = d.tiles ∧ (d.count t i).eng = d.eng ∧
    (d.count t i).upd = d.upd ∧ (d.count t i).loads = d.loads ∧ (d.count t i).loadOrder = d.loadOrder ∧ (d.count t i).closed = d.closed ∧ (d.count t i).stopped = d.stopped ∧
    (d.count t i).shedLow = d.shedLow ∧ (d.count t i).injLast = d.injLast := (d.report_count t i).frame

/-- A count of several leaves these alone. -/
@[simp] theorem Die.countBy_frame (d : Die) (t : Tal) (i n : Nat) :
    (d.countBy t i n).caps = d.caps ∧ (d.countBy t i n).readData = d.readData ∧ (d.countBy t i n).free = d.free ∧ (d.countBy t i n).fc = d.fc ∧
    (d.countBy t i n).ns = d.ns ∧ (d.countBy t i n).up = d.up ∧ (d.countBy t i n).aliveOn = d.aliveOn ∧ (d.countBy t i n).alive = d.alive ∧
    (d.countBy t i n).refWait = d.refWait ∧ (d.countBy t i n).pullIn = d.pullIn ∧ (d.countBy t i n).fcRun = d.fcRun ∧
    (d.countBy t i n).timingPending = d.timingPending ∧ (d.countBy t i n).profilePending = d.profilePending ∧
    (d.countBy t i n).statePending = d.statePending ∧ (d.countBy t i n).tripped = d.tripped ∧ (d.countBy t i n).off = d.off ∧
    (d.countBy t i n).napOpen = d.napOpen ∧ (d.countBy t i n).restoring = d.restoring ∧ (d.countBy t i n).parsers = d.parsers ∧
    (d.countBy t i n).steer = d.steer ∧ (d.countBy t i n).feeds = d.feeds ∧ (d.countBy t i n).pas = d.pas ∧ (d.countBy t i n).rows = d.rows ∧
    (d.countBy t i n).dir = d.dir ∧ (d.countBy t i n).lar = d.lar ∧ (d.countBy t i n).poison = d.poison ∧ (d.countBy t i n).ecc = d.ecc ∧
    (d.countBy t i n).looked = d.looked ∧ (d.countBy t i n).entries = d.entries ∧ (d.countBy t i n).launch = d.launch ∧
    (d.countBy t i n).ports = d.ports ∧ (d.countBy t i n).pins = d.pins ∧ (d.countBy t i n).trigIn = d.trigIn ∧ (d.countBy t i n).tbs = d.tbs ∧
    (d.countBy t i n).pair = d.pair ∧ (d.countBy t i n).txts = d.txts ∧ (d.countBy t i n).ptpTag = d.ptpTag ∧ (d.countBy t i n).grants = d.grants ∧
    (d.countBy t i n).otp = d.otp ∧ (d.countBy t i n).claims = d.claims ∧ (d.countBy t i n).electionNs = d.electionNs ∧
    (d.countBy t i n).heartbeat = d.heartbeat ∧ (d.countBy t i n).handover = d.handover ∧ (d.countBy t i n).smbPtr = d.smbPtr ∧
    (d.countBy t i n).jtagLast = d.jtagLast ∧ (d.countBy t i n).spares = d.spares ∧ (d.countBy t i n).spareField = d.spareField ∧
    (d.countBy t i n).staged = d.staged ∧ (d.countBy t i n).ceLast = d.ceLast ∧ (d.countBy t i n).shd = d.shd ∧ (d.countBy t i n).lanes = d.lanes ∧
    (d.countBy t i n).flk = d.flk ∧ (d.countBy t i n).tiles = d.tiles ∧ (d.countBy t i n).eng = d.eng ∧ (d.countBy t i n).upd = d.upd ∧
    (d.countBy t i n).loads = d.loads ∧ (d.countBy t i n).loadOrder = d.loadOrder ∧ (d.countBy t i n).closed = d.closed ∧ (d.countBy t i n).stopped = d.stopped ∧
    (d.countBy t i n).shedLow = d.shedLow ∧ (d.countBy t i n).injLast = d.injLast := (d.report_countBy t i n).frame

/-- An incident leaves these alone. -/
@[simp] theorem Die.incident_frame (d : Die) (c a b n : Nat) :
    (d.incident c a b n).caps = d.caps ∧ (d.incident c a b n).readData = d.readData ∧ (d.incident c a b n).free = d.free ∧
    (d.incident c a b n).fc = d.fc ∧ (d.incident c a b n).ns = d.ns ∧ (d.incident c a b n).up = d.up ∧ (d.incident c a b n).aliveOn = d.aliveOn ∧
    (d.incident c a b n).alive = d.alive ∧ (d.incident c a b n).refWait = d.refWait ∧ (d.incident c a b n).pullIn = d.pullIn ∧
    (d.incident c a b n).fcRun = d.fcRun ∧ (d.incident c a b n).timingPending = d.timingPending ∧
    (d.incident c a b n).profilePending = d.profilePending ∧ (d.incident c a b n).statePending = d.statePending ∧
    (d.incident c a b n).tripped = d.tripped ∧ (d.incident c a b n).off = d.off ∧ (d.incident c a b n).napOpen = d.napOpen ∧
    (d.incident c a b n).restoring = d.restoring ∧ (d.incident c a b n).parsers = d.parsers ∧ (d.incident c a b n).steer = d.steer ∧
    (d.incident c a b n).feeds = d.feeds ∧ (d.incident c a b n).pas = d.pas ∧ (d.incident c a b n).rows = d.rows ∧ (d.incident c a b n).dir = d.dir ∧
    (d.incident c a b n).lar = d.lar ∧ (d.incident c a b n).poison = d.poison ∧ (d.incident c a b n).ecc = d.ecc ∧
    (d.incident c a b n).looked = d.looked ∧ (d.incident c a b n).entries = d.entries ∧ (d.incident c a b n).launch = d.launch ∧
    (d.incident c a b n).ports = d.ports ∧ (d.incident c a b n).pins = d.pins ∧ (d.incident c a b n).trigIn = d.trigIn ∧
    (d.incident c a b n).tbs = d.tbs ∧ (d.incident c a b n).pair = d.pair ∧ (d.incident c a b n).txts = d.txts ∧
    (d.incident c a b n).ptpTag = d.ptpTag ∧ (d.incident c a b n).grants = d.grants ∧ (d.incident c a b n).otp = d.otp ∧
    (d.incident c a b n).claims = d.claims ∧ (d.incident c a b n).electionNs = d.electionNs ∧ (d.incident c a b n).heartbeat = d.heartbeat ∧
    (d.incident c a b n).handover = d.handover ∧ (d.incident c a b n).smbPtr = d.smbPtr ∧ (d.incident c a b n).jtagLast = d.jtagLast ∧
    (d.incident c a b n).spares = d.spares ∧ (d.incident c a b n).spareField = d.spareField ∧ (d.incident c a b n).staged = d.staged ∧
    (d.incident c a b n).ceLast = d.ceLast ∧ (d.incident c a b n).shd = d.shd ∧ (d.incident c a b n).lanes = d.lanes ∧
    (d.incident c a b n).flk = d.flk ∧ (d.incident c a b n).tiles = d.tiles ∧ (d.incident c a b n).eng = d.eng ∧ (d.incident c a b n).upd = d.upd ∧
    (d.incident c a b n).loads = d.loads ∧ (d.incident c a b n).loadOrder = d.loadOrder ∧ (d.incident c a b n).closed = d.closed ∧ (d.incident c a b n).stopped = d.stopped ∧
    (d.incident c a b n).shedLow = d.shedLow ∧ (d.incident c a b n).injLast = d.injLast := (d.report_incident c a b n).frame

/-- A fault record leaves these alone. -/
@[simp] theorem Die.faultRecord_frame (d : Die) (fu : Fused) (k : Nat) (l : List (Nat × Cbor)) :
    (d.faultRecord fu k l).caps = d.caps ∧ (d.faultRecord fu k l).readData = d.readData ∧ (d.faultRecord fu k l).free = d.free ∧
    (d.faultRecord fu k l).fc = d.fc ∧ (d.faultRecord fu k l).ns = d.ns ∧ (d.faultRecord fu k l).up = d.up ∧
    (d.faultRecord fu k l).aliveOn = d.aliveOn ∧ (d.faultRecord fu k l).alive = d.alive ∧ (d.faultRecord fu k l).refWait = d.refWait ∧
    (d.faultRecord fu k l).pullIn = d.pullIn ∧ (d.faultRecord fu k l).fcRun = d.fcRun ∧ (d.faultRecord fu k l).timingPending = d.timingPending ∧
    (d.faultRecord fu k l).profilePending = d.profilePending ∧ (d.faultRecord fu k l).statePending = d.statePending ∧
    (d.faultRecord fu k l).tripped = d.tripped ∧ (d.faultRecord fu k l).off = d.off ∧ (d.faultRecord fu k l).napOpen = d.napOpen ∧
    (d.faultRecord fu k l).restoring = d.restoring ∧ (d.faultRecord fu k l).parsers = d.parsers ∧ (d.faultRecord fu k l).steer = d.steer ∧
    (d.faultRecord fu k l).feeds = d.feeds ∧ (d.faultRecord fu k l).pas = d.pas ∧ (d.faultRecord fu k l).rows = d.rows ∧
    (d.faultRecord fu k l).dir = d.dir ∧ (d.faultRecord fu k l).lar = d.lar ∧ (d.faultRecord fu k l).poison = d.poison ∧
    (d.faultRecord fu k l).ecc = d.ecc ∧ (d.faultRecord fu k l).looked = d.looked ∧ (d.faultRecord fu k l).entries = d.entries ∧
    (d.faultRecord fu k l).launch = d.launch ∧ (d.faultRecord fu k l).ports = d.ports ∧ (d.faultRecord fu k l).pins = d.pins ∧
    (d.faultRecord fu k l).trigIn = d.trigIn ∧ (d.faultRecord fu k l).tbs = d.tbs ∧ (d.faultRecord fu k l).pair = d.pair ∧
    (d.faultRecord fu k l).txts = d.txts ∧ (d.faultRecord fu k l).ptpTag = d.ptpTag ∧ (d.faultRecord fu k l).grants = d.grants ∧
    (d.faultRecord fu k l).otp = d.otp ∧ (d.faultRecord fu k l).claims = d.claims ∧ (d.faultRecord fu k l).electionNs = d.electionNs ∧
    (d.faultRecord fu k l).heartbeat = d.heartbeat ∧ (d.faultRecord fu k l).handover = d.handover ∧ (d.faultRecord fu k l).smbPtr = d.smbPtr ∧
    (d.faultRecord fu k l).jtagLast = d.jtagLast ∧ (d.faultRecord fu k l).spares = d.spares ∧ (d.faultRecord fu k l).spareField = d.spareField ∧
    (d.faultRecord fu k l).staged = d.staged ∧ (d.faultRecord fu k l).ceLast = d.ceLast ∧ (d.faultRecord fu k l).shd = d.shd ∧
    (d.faultRecord fu k l).lanes = d.lanes ∧ (d.faultRecord fu k l).flk = d.flk ∧ (d.faultRecord fu k l).tiles = d.tiles ∧
    (d.faultRecord fu k l).eng = d.eng ∧ (d.faultRecord fu k l).upd = d.upd ∧ (d.faultRecord fu k l).loads = d.loads ∧ (d.faultRecord fu k l).loadOrder = d.loadOrder ∧
    (d.faultRecord fu k l).closed = d.closed ∧ (d.faultRecord fu k l).stopped = d.stopped ∧ (d.faultRecord fu k l).shedLow = d.shedLow ∧
    (d.faultRecord fu k l).injLast = d.injLast := (d.report_faultRecord fu k l).frame

/-- A stage packet leaves these alone. -/
theorem Die.stage_frame (d : Die) (a b p c x y : Nat) (h : p < 64) :
    (d.stage a b p c x y).caps = d.caps ∧ (d.stage a b p c x y).readData = d.readData ∧ (d.stage a b p c x y).free = d.free ∧
    (d.stage a b p c x y).fc = d.fc ∧ (d.stage a b p c x y).ns = d.ns ∧ (d.stage a b p c x y).up = d.up ∧ (d.stage a b p c x y).aliveOn = d.aliveOn ∧
    (d.stage a b p c x y).alive = d.alive ∧ (d.stage a b p c x y).refWait = d.refWait ∧ (d.stage a b p c x y).pullIn = d.pullIn ∧
    (d.stage a b p c x y).fcRun = d.fcRun ∧ (d.stage a b p c x y).timingPending = d.timingPending ∧
    (d.stage a b p c x y).profilePending = d.profilePending ∧ (d.stage a b p c x y).statePending = d.statePending ∧
    (d.stage a b p c x y).tripped = d.tripped ∧ (d.stage a b p c x y).off = d.off ∧ (d.stage a b p c x y).napOpen = d.napOpen ∧
    (d.stage a b p c x y).restoring = d.restoring ∧ (d.stage a b p c x y).parsers = d.parsers ∧ (d.stage a b p c x y).steer = d.steer ∧
    (d.stage a b p c x y).feeds = d.feeds ∧ (d.stage a b p c x y).pas = d.pas ∧ (d.stage a b p c x y).rows = d.rows ∧
    (d.stage a b p c x y).dir = d.dir ∧ (d.stage a b p c x y).lar = d.lar ∧ (d.stage a b p c x y).poison = d.poison ∧
    (d.stage a b p c x y).ecc = d.ecc ∧ (d.stage a b p c x y).looked = d.looked ∧ (d.stage a b p c x y).entries = d.entries ∧
    (d.stage a b p c x y).launch = d.launch ∧ (d.stage a b p c x y).ports = d.ports ∧ (d.stage a b p c x y).pins = d.pins ∧
    (d.stage a b p c x y).trigIn = d.trigIn ∧ (d.stage a b p c x y).tbs = d.tbs ∧ (d.stage a b p c x y).pair = d.pair ∧
    (d.stage a b p c x y).txts = d.txts ∧ (d.stage a b p c x y).ptpTag = d.ptpTag ∧ (d.stage a b p c x y).grants = d.grants ∧
    (d.stage a b p c x y).otp = d.otp ∧ (d.stage a b p c x y).claims = d.claims ∧ (d.stage a b p c x y).electionNs = d.electionNs ∧
    (d.stage a b p c x y).heartbeat = d.heartbeat ∧ (d.stage a b p c x y).handover = d.handover ∧ (d.stage a b p c x y).smbPtr = d.smbPtr ∧
    (d.stage a b p c x y).jtagLast = d.jtagLast ∧ (d.stage a b p c x y).spares = d.spares ∧ (d.stage a b p c x y).spareField = d.spareField ∧
    (d.stage a b p c x y).staged = d.staged ∧ (d.stage a b p c x y).ceLast = d.ceLast ∧ (d.stage a b p c x y).shd = d.shd ∧
    (d.stage a b p c x y).lanes = d.lanes ∧ (d.stage a b p c x y).flk = d.flk ∧ (d.stage a b p c x y).tiles = d.tiles ∧
    (d.stage a b p c x y).eng = d.eng ∧ (d.stage a b p c x y).upd = d.upd ∧ (d.stage a b p c x y).loads = d.loads ∧ (d.stage a b p c x y).loadOrder = d.loadOrder ∧
    (d.stage a b p c x y).closed = d.closed ∧ (d.stage a b p c x y).stopped = d.stopped ∧ (d.stage a b p c x y).shedLow = d.shedLow ∧
    (d.stage a b p c x y).injLast = d.injLast := (d.report_stage a b p c x y h).frame

/-- An alarm bit leaves these alone. -/
theorem Die.alarm_frame (d : Die) (b : Nat) (h : b < 32) :
    (d.alarm b).caps = d.caps ∧ (d.alarm b).readData = d.readData ∧ (d.alarm b).free = d.free ∧ (d.alarm b).fc = d.fc ∧ (d.alarm b).ns = d.ns ∧
    (d.alarm b).up = d.up ∧ (d.alarm b).aliveOn = d.aliveOn ∧ (d.alarm b).alive = d.alive ∧ (d.alarm b).refWait = d.refWait ∧
    (d.alarm b).pullIn = d.pullIn ∧ (d.alarm b).fcRun = d.fcRun ∧ (d.alarm b).timingPending = d.timingPending ∧
    (d.alarm b).profilePending = d.profilePending ∧ (d.alarm b).statePending = d.statePending ∧ (d.alarm b).tripped = d.tripped ∧
    (d.alarm b).off = d.off ∧ (d.alarm b).napOpen = d.napOpen ∧ (d.alarm b).restoring = d.restoring ∧ (d.alarm b).parsers = d.parsers ∧
    (d.alarm b).steer = d.steer ∧ (d.alarm b).feeds = d.feeds ∧ (d.alarm b).pas = d.pas ∧ (d.alarm b).rows = d.rows ∧ (d.alarm b).dir = d.dir ∧
    (d.alarm b).lar = d.lar ∧ (d.alarm b).poison = d.poison ∧ (d.alarm b).ecc = d.ecc ∧ (d.alarm b).looked = d.looked ∧
    (d.alarm b).entries = d.entries ∧ (d.alarm b).launch = d.launch ∧ (d.alarm b).ports = d.ports ∧ (d.alarm b).pins = d.pins ∧
    (d.alarm b).trigIn = d.trigIn ∧ (d.alarm b).tbs = d.tbs ∧ (d.alarm b).pair = d.pair ∧ (d.alarm b).txts = d.txts ∧ (d.alarm b).ptpTag = d.ptpTag ∧
    (d.alarm b).grants = d.grants ∧ (d.alarm b).otp = d.otp ∧ (d.alarm b).claims = d.claims ∧ (d.alarm b).electionNs = d.electionNs ∧
    (d.alarm b).heartbeat = d.heartbeat ∧ (d.alarm b).handover = d.handover ∧ (d.alarm b).smbPtr = d.smbPtr ∧ (d.alarm b).jtagLast = d.jtagLast ∧
    (d.alarm b).spares = d.spares ∧ (d.alarm b).spareField = d.spareField ∧ (d.alarm b).staged = d.staged ∧ (d.alarm b).ceLast = d.ceLast ∧
    (d.alarm b).shd = d.shd ∧ (d.alarm b).lanes = d.lanes ∧ (d.alarm b).flk = d.flk ∧ (d.alarm b).tiles = d.tiles ∧ (d.alarm b).eng = d.eng ∧
    (d.alarm b).upd = d.upd ∧ (d.alarm b).loads = d.loads ∧ (d.alarm b).loadOrder = d.loadOrder ∧ (d.alarm b).closed = d.closed ∧ (d.alarm b).stopped = d.stopped ∧
    (d.alarm b).shedLow = d.shedLow ∧ (d.alarm b).injLast = d.injLast := (d.report_alarm b h).frame

end Sys2Proof.Machine
end

