-- ==== Sys2Proof/Laws/Fabric.lean ====
section
/-! SUPPORT. Laws of a firing: what the updates of tiles, queues and engine parts leave alone, and what taking beats and finishing a firing do where no stored
word is in error. -/

namespace Sys2Proof.Machine

/-- A change of a tile changes the tiles alone. -/
@[simp] theorem Die.onTile_frame (t : Nat) (f : TileSt → TileSt) (d : Die) :
    (d.onTile t f).regs = d.regs ∧ (d.onTile t f).tallies = d.tallies ∧ (d.onTile t f).caps = d.caps ∧ (d.onTile t f).readData = d.readData ∧
    (d.onTile t f).emits = d.emits ∧ (d.onTile t f).host = d.host ∧ (d.onTile t f).free = d.free ∧ (d.onTile t f).fc = d.fc ∧
    (d.onTile t f).ns = d.ns ∧ (d.onTile t f).up = d.up ∧ (d.onTile t f).aliveOn = d.aliveOn ∧ (d.onTile t f).alive = d.alive ∧
    (d.onTile t f).refWait = d.refWait ∧ (d.onTile t f).pullIn = d.pullIn ∧ (d.onTile t f).fcRun = d.fcRun ∧
    (d.onTile t f).timingPending = d.timingPending ∧ (d.onTile t f).profilePending = d.profilePending ∧
    (d.onTile t f).statePending = d.statePending ∧ (d.onTile t f).tripped = d.tripped ∧ (d.onTile t f).off = d.off ∧
    (d.onTile t f).napOpen = d.napOpen ∧ (d.onTile t f).restoring = d.restoring ∧ (d.onTile t f).parsers = d.parsers ∧
    (d.onTile t f).steer = d.steer ∧ (d.onTile t f).feeds = d.feeds ∧ (d.onTile t f).pas = d.pas ∧ (d.onTile t f).rows = d.rows ∧
    (d.onTile t f).dir = d.dir ∧ (d.onTile t f).lar = d.lar ∧ (d.onTile t f).poison = d.poison ∧ (d.onTile t f).ecc = d.ecc ∧
    (d.onTile t f).looked = d.looked ∧ (d.onTile t f).entries = d.entries ∧ (d.onTile t f).launch = d.launch ∧ (d.onTile t f).ports = d.ports ∧
    (d.onTile t f).pins = d.pins ∧ (d.onTile t f).trigIn = d.trigIn ∧ (d.onTile t f).tbs = d.tbs ∧ (d.onTile t f).pair = d.pair ∧
    (d.onTile t f).txts = d.txts ∧ (d.onTile t f).ptpTag = d.ptpTag ∧ (d.onTile t f).grants = d.grants ∧ (d.onTile t f).otp = d.otp ∧
    (d.onTile t f).claims = d.claims ∧ (d.onTile t f).electionNs = d.electionNs ∧ (d.onTile t f).heartbeat = d.heartbeat ∧
    (d.onTile t f).handover = d.handover ∧ (d.onTile t f).smbPtr = d.smbPtr ∧ (d.onTile t f).jtagLast = d.jtagLast ∧
    (d.onTile t f).spares = d.spares ∧ (d.onTile t f).spareField = d.spareField ∧ (d.onTile t f).staged = d.staged ∧ (d.onTile t f).store = d.store ∧
    (d.onTile t f).ceLast = d.ceLast ∧ (d.onTile t f).shd = d.shd ∧ (d.onTile t f).loft = d.loft ∧ (d.onTile t f).lanes = d.lanes ∧
    (d.onTile t f).flk = d.flk ∧ (d.onTile t f).eng = d.eng ∧ (d.onTile t f).upd = d.upd ∧ (d.onTile t f).loads = d.loads ∧ (d.onTile t f).loadOrder = d.loadOrder ∧
    (d.onTile t f).closed = d.closed ∧ (d.onTile t f).stopped = d.stopped ∧ (d.onTile t f).shedLow = d.shedLow ∧ (d.onTile t f).injLast = d.injLast := by and_intros <;> rfl

/-- A change of a context changes the tiles alone. -/
@[simp] theorem Die.onCtx_frame (t c : Nat) (f : CtxSt → CtxSt) (d : Die) :
    (d.onCtx t c f).regs = d.regs ∧ (d.onCtx t c f).tallies = d.tallies ∧ (d.onCtx t c f).caps = d.caps ∧ (d.onCtx t c f).readData = d.readData ∧
    (d.onCtx t c f).emits = d.emits ∧ (d.onCtx t c f).host = d.host ∧ (d.onCtx t c f).free = d.free ∧ (d.onCtx t c f).fc = d.fc ∧
    (d.onCtx t c f).ns = d.ns ∧ (d.onCtx t c f).up = d.up ∧ (d.onCtx t c f).aliveOn = d.aliveOn ∧ (d.onCtx t c f).alive = d.alive ∧
    (d.onCtx t c f).refWait = d.refWait ∧ (d.onCtx t c f).pullIn = d.pullIn ∧ (d.onCtx t c f).fcRun = d.fcRun ∧
    (d.onCtx t c f).timingPending = d.timingPending ∧ (d.onCtx t c f).profilePending = d.profilePending ∧
    (d.onCtx t c f).statePending = d.statePending ∧ (d.onCtx t c f).tripped = d.tripped ∧ (d.onCtx t c f).off = d.off ∧
    (d.onCtx t c f).napOpen = d.napOpen ∧ (d.onCtx t c f).restoring = d.restoring ∧ (d.onCtx t c f).parsers = d.parsers ∧
    (d.onCtx t c f).steer = d.steer ∧ (d.onCtx t c f).feeds = d.feeds ∧ (d.onCtx t c f).pas = d.pas ∧ (d.onCtx t c f).rows = d.rows ∧
    (d.onCtx t c f).dir = d.dir ∧ (d.onCtx t c f).lar = d.lar ∧ (d.onCtx t c f).poison = d.poison ∧ (d.onCtx t c f).ecc = d.ecc ∧
    (d.onCtx t c f).looked = d.looked ∧ (d.onCtx t c f).entries = d.entries ∧ (d.onCtx t c f).launch = d.launch ∧ (d.onCtx t c f).ports = d.ports ∧
    (d.onCtx t c f).pins = d.pins ∧ (d.onCtx t c f).trigIn = d.trigIn ∧ (d.onCtx t c f).tbs = d.tbs ∧ (d.onCtx t c f).pair = d.pair ∧
    (d.onCtx t c f).txts = d.txts ∧ (d.onCtx t c f).ptpTag = d.ptpTag ∧ (d.onCtx t c f).grants = d.grants ∧ (d.onCtx t c f).otp = d.otp ∧
    (d.onCtx t c f).claims = d.claims ∧ (d.onCtx t c f).electionNs = d.electionNs ∧ (d.onCtx t c f).heartbeat = d.heartbeat ∧
    (d.onCtx t c f).handover = d.handover ∧ (d.onCtx t c f).smbPtr = d.smbPtr ∧ (d.onCtx t c f).jtagLast = d.jtagLast ∧
    (d.onCtx t c f).spares = d.spares ∧ (d.onCtx t c f).spareField = d.spareField ∧ (d.onCtx t c f).staged = d.staged ∧
    (d.onCtx t c f).store = d.store ∧ (d.onCtx t c f).ceLast = d.ceLast ∧ (d.onCtx t c f).shd = d.shd ∧ (d.onCtx t c f).loft = d.loft ∧
    (d.onCtx t c f).lanes = d.lanes ∧ (d.onCtx t c f).flk = d.flk ∧ (d.onCtx t c f).eng = d.eng ∧ (d.onCtx t c f).upd = d.upd ∧
    (d.onCtx t c f).loads = d.loads ∧ (d.onCtx t c f).loadOrder = d.loadOrder ∧ (d.onCtx t c f).closed = d.closed ∧ (d.onCtx t c f).stopped = d.stopped ∧ (d.onCtx t c f).shedLow = d.shedLow ∧
    (d.onCtx t c f).injLast = d.injLast := by and_intros <;> rfl

/-- A change of a queue changes the tiles alone. -/
@[simp] theorem Die.setQueue_frame (t c q : Nat) (l : List QBeat) (d : Die) :
    (d.setQueue t c q l).regs = d.regs ∧ (d.setQueue t c q l).tallies = d.tallies ∧ (d.setQueue t c q l).caps = d.caps ∧
    (d.setQueue t c q l).readData = d.readData ∧ (d.setQueue t c q l).emits = d.emits ∧ (d.setQueue t c q l).host = d.host ∧
    (d.setQueue t c q l).free = d.free ∧ (d.setQueue t c q l).fc = d.fc ∧ (d.setQueue t c q l).ns = d.ns ∧ (d.setQueue t c q l).up = d.up ∧
    (d.setQueue t c q l).aliveOn = d.aliveOn ∧ (d.setQueue t c q l).alive = d.alive ∧ (d.setQueue t c q l).refWait = d.refWait ∧
    (d.setQueue t c q l).pullIn = d.pullIn ∧ (d.setQueue t c q l).fcRun = d.fcRun ∧ (d.setQueue t c q l).timingPending = d.timingPending ∧
    (d.setQueue t c q l).profilePending = d.profilePending ∧ (d.setQueue t c q l).statePending = d.statePending ∧
    (d.setQueue t c q l).tripped = d.tripped ∧ (d.setQueue t c q l).off = d.off ∧ (d.setQueue t c q l).napOpen = d.napOpen ∧
    (d.setQueue t c q l).restoring = d.restoring ∧ (d.setQueue t c q l).parsers = d.parsers ∧ (d.setQueue t c q l).steer = d.steer ∧
    (d.setQueue t c q l).feeds = d.feeds ∧ (d.setQueue t c q l).pas = d.pas ∧ (d.setQueue t c q l).rows = d.rows ∧ (d.setQueue t c q l).dir = d.dir ∧
    (d.setQueue t c q l).lar = d.lar ∧ (d.setQueue t c q l).poison = d.poison ∧ (d.setQueue t c q l).ecc = d.ecc ∧
    (d.setQueue t c q l).looked = d.looked ∧ (d.setQueue t c q l).entries = d.entries ∧ (d.setQueue t c q l).launch = d.launch ∧
    (d.setQueue t c q l).ports = d.ports ∧ (d.setQueue t c q l).pins = d.pins ∧ (d.setQueue t c q l).trigIn = d.trigIn ∧
    (d.setQueue t c q l).tbs = d.tbs ∧ (d.setQueue t c q l).pair = d.pair ∧ (d.setQueue t c q l).txts = d.txts ∧
    (d.setQueue t c q l).ptpTag = d.ptpTag ∧ (d.setQueue t c q l).grants = d.grants ∧ (d.setQueue t c q l).otp = d.otp ∧
    (d.setQueue t c q l).claims = d.claims ∧ (d.setQueue t c q l).electionNs = d.electionNs ∧ (d.setQueue t c q l).heartbeat = d.heartbeat ∧
    (d.setQueue t c q l).handover = d.handover ∧ (d.setQueue t c q l).smbPtr = d.smbPtr ∧ (d.setQueue t c q l).jtagLast = d.jtagLast ∧
    (d.setQueue t c q l).spares = d.spares ∧ (d.setQueue t c q l).spareField = d.spareField ∧ (d.setQueue t c q l).staged = d.staged ∧
    (d.setQueue t c q l).store = d.store ∧ (d.setQueue t c q l).ceLast = d.ceLast ∧ (d.setQueue t c q l).shd = d.shd ∧
    (d.setQueue t c q l).loft = d.loft ∧ (d.setQueue t c q l).lanes = d.lanes ∧ (d.setQueue t c q l).flk = d.flk ∧ (d.setQueue t c q l).eng = d.eng ∧
    (d.setQueue t c q l).upd = d.upd ∧ (d.setQueue t c q l).loads = d.loads ∧ (d.setQueue t c q l).loadOrder = d.loadOrder ∧ (d.setQueue t c q l).closed = d.closed ∧
    (d.setQueue t c q l).stopped = d.stopped ∧ (d.setQueue t c q l).shedLow = d.shedLow ∧ (d.setQueue t c q l).injLast = d.injLast := by and_intros <;> rfl

/-- A push changes the tiles alone. -/
@[simp] theorem Die.push_frame (t c q : Nat) (l : List QBeat) (d : Die) :
    (d.push t c q l).regs = d.regs ∧ (d.push t c q l).tallies = d.tallies ∧ (d.push t c q l).caps = d.caps ∧ (d.push t c q l).readData = d.readData ∧
    (d.push t c q l).emits = d.emits ∧ (d.push t c q l).host = d.host ∧ (d.push t c q l).free = d.free ∧ (d.push t c q l).fc = d.fc ∧
    (d.push t c q l).ns = d.ns ∧ (d.push t c q l).up = d.up ∧ (d.push t c q l).aliveOn = d.aliveOn ∧ (d.push t c q l).alive = d.alive ∧
    (d.push t c q l).refWait = d.refWait ∧ (d.push t c q l).pullIn = d.pullIn ∧ (d.push t c q l).fcRun = d.fcRun ∧
    (d.push t c q l).timingPending = d.timingPending ∧ (d.push t c q l).profilePending = d.profilePending ∧
    (d.push t c q l).statePending = d.statePending ∧ (d.push t c q l).tripped = d.tripped ∧ (d.push t c q l).off = d.off ∧
    (d.push t c q l).napOpen = d.napOpen ∧ (d.push t c q l).restoring = d.restoring ∧ (d.push t c q l).parsers = d.parsers ∧
    (d.push t c q l).steer = d.steer ∧ (d.push t c q l).feeds = d.feeds ∧ (d.push t c q l).pas = d.pas ∧ (d.push t c q l).rows = d.rows ∧
    (d.push t c q l).dir = d.dir ∧ (d.push t c q l).lar = d.lar ∧ (d.push t c q l).poison = d.poison ∧ (d.push t c q l).ecc = d.ecc ∧
    (d.push t c q l).looked = d.looked ∧ (d.push t c q l).entries = d.entries ∧ (d.push t c q l).launch = d.launch ∧
    (d.push t c q l).ports = d.ports ∧ (d.push t c q l).pins = d.pins ∧ (d.push t c q l).trigIn = d.trigIn ∧ (d.push t c q l).tbs = d.tbs ∧
    (d.push t c q l).pair = d.pair ∧ (d.push t c q l).txts = d.txts ∧ (d.push t c q l).ptpTag = d.ptpTag ∧ (d.push t c q l).grants = d.grants ∧
    (d.push t c q l).otp = d.otp ∧ (d.push t c q l).claims = d.claims ∧ (d.push t c q l).electionNs = d.electionNs ∧
    (d.push t c q l).heartbeat = d.heartbeat ∧ (d.push t c q l).handover = d.handover ∧ (d.push t c q l).smbPtr = d.smbPtr ∧
    (d.push t c q l).jtagLast = d.jtagLast ∧ (d.push t c q l).spares = d.spares ∧ (d.push t c q l).spareField = d.spareField ∧
    (d.push t c q l).staged = d.staged ∧ (d.push t c q l).store = d.store ∧ (d.push t c q l).ceLast = d.ceLast ∧ (d.push t c q l).shd = d.shd ∧
    (d.push t c q l).loft = d.loft ∧ (d.push t c q l).lanes = d.lanes ∧ (d.push t c q l).flk = d.flk ∧ (d.push t c q l).eng = d.eng ∧
    (d.push t c q l).upd = d.upd ∧ (d.push t c q l).loads = d.loads ∧ (d.push t c q l).loadOrder = d.loadOrder ∧ (d.push t c q l).closed = d.closed ∧ (d.push t c q l).stopped = d.stopped ∧
    (d.push t c q l).shedLow = d.shedLow ∧ (d.push t c q l).injLast = d.injLast := by and_intros <;> rfl

/-- A change of an engine's part for a pasture changes those parts alone. -/
@[simp] theorem Die.onEng_frame (e p : Nat) (f : EngPas → EngPas) (d : Die) :
    (d.onEng e p f).regs = d.regs ∧ (d.onEng e p f).tallies = d.tallies ∧ (d.onEng e p f).caps = d.caps ∧ (d.onEng e p f).readData = d.readData ∧
    (d.onEng e p f).emits = d.emits ∧ (d.onEng e p f).host = d.host ∧ (d.onEng e p f).free = d.free ∧ (d.onEng e p f).fc = d.fc ∧
    (d.onEng e p f).ns = d.ns ∧ (d.onEng e p f).up = d.up ∧ (d.onEng e p f).aliveOn = d.aliveOn ∧ (d.onEng e p f).alive = d.alive ∧
    (d.onEng e p f).refWait = d.refWait ∧ (d.onEng e p f).pullIn = d.pullIn ∧ (d.onEng e p f).fcRun = d.fcRun ∧
    (d.onEng e p f).timingPending = d.timingPending ∧ (d.onEng e p f).profilePending = d.profilePending ∧
    (d.onEng e p f).statePending = d.statePending ∧ (d.onEng e p f).tripped = d.tripped ∧ (d.onEng e p f).off = d.off ∧
    (d.onEng e p f).napOpen = d.napOpen ∧ (d.onEng e p f).restoring = d.restoring ∧ (d.onEng e p f).parsers = d.parsers ∧
    (d.onEng e p f).steer = d.steer ∧ (d.onEng e p f).feeds = d.feeds ∧ (d.onEng e p f).pas = d.pas ∧ (d.onEng e p f).rows = d.rows ∧
    (d.onEng e p f).dir = d.dir ∧ (d.onEng e p f).lar = d.lar ∧ (d.onEng e p f).poison = d.poison ∧ (d.onEng e p f).ecc = d.ecc ∧
    (d.onEng e p f).looked = d.looked ∧ (d.onEng e p f).entries = d.entries ∧ (d.onEng e p f).launch = d.launch ∧ (d.onEng e p f).ports = d.ports ∧
    (d.onEng e p f).pins = d.pins ∧ (d.onEng e p f).trigIn = d.trigIn ∧ (d.onEng e p f).tbs = d.tbs ∧ (d.onEng e p f).pair = d.pair ∧
    (d.onEng e p f).txts = d.txts ∧ (d.onEng e p f).ptpTag = d.ptpTag ∧ (d.onEng e p f).grants = d.grants ∧ (d.onEng e p f).otp = d.otp ∧
    (d.onEng e p f).claims = d.claims ∧ (d.onEng e p f).electionNs = d.electionNs ∧ (d.onEng e p f).heartbeat = d.heartbeat ∧
    (d.onEng e p f).handover = d.handover ∧ (d.onEng e p f).smbPtr = d.smbPtr ∧ (d.onEng e p f).jtagLast = d.jtagLast ∧
    (d.onEng e p f).spares = d.spares ∧ (d.onEng e p f).spareField = d.spareField ∧ (d.onEng e p f).staged = d.staged ∧
    (d.onEng e p f).store = d.store ∧ (d.onEng e p f).ceLast = d.ceLast ∧ (d.onEng e p f).shd = d.shd ∧ (d.onEng e p f).loft = d.loft ∧
    (d.onEng e p f).lanes = d.lanes ∧ (d.onEng e p f).flk = d.flk ∧ (d.onEng e p f).tiles = d.tiles ∧ (d.onEng e p f).upd = d.upd ∧
    (d.onEng e p f).loads = d.loads ∧ (d.onEng e p f).loadOrder = d.loadOrder ∧ (d.onEng e p f).closed = d.closed ∧ (d.onEng e p f).stopped = d.stopped ∧ (d.onEng e p f).shedLow = d.shedLow ∧
    (d.onEng e p f).injLast = d.injLast := by and_intros <;> rfl


@[simp] theorem Die.tile_onTile_same (d : Die) (t : Nat) (f : TileSt → TileSt) : (d.onTile t f).tile t = f (d.tile t) := by
  simp [Die.tile, Die.onTile]

theorem Die.tile_onTile_other (d : Die) (t u : Nat) (f : TileSt → TileSt) (h : u ≠ t) : (d.onTile t f).tile u = d.tile u := by
  simp [Die.tile, Die.onTile, KMap.get_upd_other _ _ _ _ _ h]

theorem Die.tile_congr (d e : Die) (h : d.tiles = e.tiles) (t : Nat) : d.tile t = e.tile t := by simp [Die.tile, h]

theorem Die.queue_congr (d e : Die) (h : d.tiles = e.tiles) (t c q : Nat) : d.queue t c q = e.queue t c q := by
  simp [Die.queue, Die.ctx, Die.tile, h]

@[simp] theorem Die.ctx_onCtx_same (d : Die) (t c : Nat) (f : CtxSt → CtxSt) : (d.onCtx t c f).ctx t c = f (d.ctx t c) := by
  simp [Die.ctx, Die.onCtx]

theorem Die.ctx_onCtx_other (d : Die) (t c k : Nat) (f : CtxSt → CtxSt) (h : k ≠ c) : (d.onCtx t c f).ctx t k = d.ctx t k := by
  simp [Die.ctx, Die.onCtx, KMap.get_upd_other _ _ _ _ _ h]

/-- A change of a tile that leaves its contexts alone leaves every queue alone. -/
theorem Die.ctx_onTile (d : Die) (t u c : Nat) (f : TileSt → TileSt) (h : ∀ x, (f x).ctxs = x.ctxs) : (d.onTile t f).ctx u c = d.ctx u c := by
  by_cases k : u = t
  · subst k; simp [Die.ctx, h]
  · simp [Die.ctx, Die.tile_onTile_other _ _ _ _ k]

@[simp] theorem Die.queue_setQueue_same (d : Die) (t c q : Nat) (l : List QBeat) : (d.setQueue t c q l).queue t c q = l := by
  simp [Die.queue, Die.setQueue]

theorem Die.queue_setQueue_other (d : Die) (t c q r : Nat) (l : List QBeat) (h : r ≠ q) : (d.setQueue t c q l).queue t c r = d.queue t c r := by
  simp [Die.queue, Die.setQueue, KMap.get_set_other _ _ _ _ _ h]

@[simp] theorem Die.fires_setQueue (d : Die) (t c q j : Nat) (l : List QBeat) : (d.setQueue t c q l).fires t c j = d.fires t c j := by
  simp [Die.fires, Die.setQueue]

@[simp] theorem Die.store_setQueue (d : Die) (t c q : Nat) (l : List QBeat) : ((d.setQueue t c q l).tile t).store = (d.tile t).store := by
  simp [Die.setQueue, Die.onCtx]

@[simp] theorem Die.queue_push_same (d : Die) (t c q : Nat) (l : List QBeat) : (d.push t c q l).queue t c q = d.queue t c q ++ l := by
  simp [Die.push]

theorem Die.queue_push_other (d : Die) (t c q r : Nat) (l : List QBeat) (h : r ≠ q) : (d.push t c q l).queue t c r = d.queue t c r := by
  simp [Die.push, Die.queue_setQueue_other _ _ _ _ _ _ h]

/-- A read of a word that is neither poisoned nor in error changes nothing. -/
theorem Die.eccRead_clean (d : Die) (fu : Fused) (kind loc : Nat) (t p : Option Nat) (h : d.ecc = []) (k : d.poison = []) :
    d.eccRead fu kind loc t p = (false, d) := by
  simp [Die.eccRead, h, k]

theorem Die.eccReadAll_clean (d : Die) (fu : Fused) (kind : Nat) (t p : Option Nat) (l : List Nat) (h : d.ecc = []) (k : d.poison = []) :
    d.eccReadAll fu kind t p l = (false, d) := by
  induction l with
  | nil => rfl
  | cons a l ih => simp [Die.eccReadAll, Die.eccRead_clean _ _ _ _ _ _ h k, ih]

theorem Die.readStore_clean (d : Die) (fu : Fused) (im : Image) (p t : Nat) (l : List Nat) (h : d.ecc = []) (k : d.poison = []) :
    d.readStore fu im p t l = (false, d) := by
  induction l with
  | nil => rfl
  | cons a l ih => simp [Die.readStore, Die.eccRead_clean _ _ _ _ _ _ h k, ih]

theorem Die.readBeats_clean (d : Die) (fu : Fused) (x : Fire) (l : List Nat) (h : d.ecc = []) (k : d.poison = []) :
    d.readBeats fu x l = (false, d) := Die.readStore_clean d fu x.im x.p x.tile l h k

/-- Taking beats from a queue whose memory is sound. -/
theorem Die.pop_clean (d : Die) (fu : Fused) (t c q n : Nat) (h : d.ecc = []) (k : d.poison = []) :
    d.pop fu t c q n = ((d.queue t c q).take n, d.setQueue t c q ((d.queue t c q).drop n)) := by
  simp [Die.pop, Die.eccRead_clean _ _ _ _ _ _ h k]

/-- What a firing takes where nothing it reads is in error (R116): its beats and their slot; the queues lose them and nothing else changes. -/
theorem Die.take_sound (s : State) (x : Fire) (h : s.sound x) :
    ∃ e, s.die.take s.fused x = (⟨s.die.qa x, s.die.qb x, s.die.slotIn x, false⟩, e) ∧ e = { s.die with tiles := e.tiles }
      ∧ (∀ q, e.queue x.tile x.ctx q = s.die.rest x q)
      ∧ (∀ u, u ≠ x.tile → e.tile u = s.die.tile u) ∧ (∀ k, k ≠ x.ctx → e.ctx x.tile k = s.die.ctx x.tile k)
      ∧ e.tile x.tile = { s.die.tile x.tile with ctxs := (e.tile x.tile).ctxs }
      ∧ e.ctx x.tile x.ctx = { s.die.ctx x.tile x.ctx with queues := (e.ctx x.tile x.ctx).queues } := by
  obtain ⟨h1, h2, h3, h4⟩ := h
  have drop_len : ∀ (n : Nat) (l : List QBeat), l.drop (l.take n).length = l.drop n := by
    intro n l
    rw [List.length_take]
    by_cases hn : n ≤ l.length
    · rw [Nat.min_eq_left hn]
    · rw [Nat.min_eq_right (by omega), List.drop_eq_nil_of_le (Nat.le_refl _), List.drop_eq_nil_of_le (by omega)]
  have bad : (s.die.qa x ++ s.die.qb x).any (fun q => q.poison) = false := by
    rw [List.any_eq_false]; intro b hb; simp [(h3 b hb).1]
  have mis : (s.die.qa x ++ s.die.qb x).any (fun q => q.slot != s.die.slotIn x) = false := by
    rw [List.any_eq_false]; intro b hb; simp [(h3 b hb).2]
  unfold Die.take
  simp only [Die.pop_clean _ _ _ _ _ _ h1 h2]
  by_cases nb : x.need 1 = 0
  · have hqb : s.die.qb x = [] := by simp [Die.qb, nb]
    rw [if_pos nb]
    rw [hqb, List.append_nil] at bad
    refine ⟨s.die.setQueue x.tile x.ctx (opQa x.w) ((s.die.queue x.tile x.ctx (opQa x.w)).drop (x.need 0)), ?_, rfl, ?_, ?_, ?_, ?_, ?_⟩
    · rw [hqb]
      have hs : slotOf ((s.die.queue x.tile x.ctx (opQa x.w)).take (x.need 0) ++ []) = s.die.slotIn x := by rw [Die.slotIn, hqb]; rfl
      have hb : ((s.die.queue x.tile x.ctx (opQa x.w)).take (x.need 0) ++ []).any (fun q => q.poison) = false := by rw [List.append_nil]; exact bad
      simp only [hs, hb]; rfl
    · intro q
      simp only [Die.rest, hqb, List.length_nil]
      by_cases hq : q = opQa x.w
      · subst hq; rw [Die.queue_setQueue_same, Die.qa, if_pos rfl, ite_self, Nat.add_zero, drop_len]
      · rw [Die.queue_setQueue_other _ _ _ _ _ _ hq, if_neg hq, ite_self]; rfl
    · intro u hu; simp [Die.setQueue, Die.onCtx, Die.tile_onTile_other _ _ _ _ hu]
    · intro k hk; simp [Die.setQueue, Die.ctx_onCtx_other _ _ _ _ _ hk]
    · simp [Die.setQueue, Die.onCtx]
    · simp [Die.setQueue]
  · rw [if_neg nb]
    have hne := h4 nb
    have hq2 := Die.queue_setQueue_other s.die x.tile x.ctx (opQa x.w) (opQb x.w)
      ((s.die.queue x.tile x.ctx (opQa x.w)).drop (x.need 0)) hne
    simp only [Die.pop_clean _ _ _ _ _ _ (show (s.die.setQueue x.tile x.ctx (opQa x.w)
      ((s.die.queue x.tile x.ctx (opQa x.w)).drop (x.need 0))).ecc = [] by simpa using h1) (show (s.die.setQueue x.tile x.ctx (opQa x.w)
      ((s.die.queue x.tile x.ctx (opQa x.w)).drop (x.need 0))).poison = [] by simpa using h2), hq2]
    refine ⟨(s.die.setQueue x.tile x.ctx (opQa x.w) ((s.die.queue x.tile x.ctx (opQa x.w)).drop (x.need 0))).setQueue x.tile x.ctx (opQb x.w)
      ((s.die.queue x.tile x.ctx (opQb x.w)).drop (x.need 1)), ?_, rfl, ?_, ?_, ?_, ?_, ?_⟩
    · have hs : slotOf ((s.die.queue x.tile x.ctx (opQa x.w)).take (x.need 0) ++ (s.die.queue x.tile x.ctx (opQb x.w)).take (x.need 1)) = s.die.slotIn x := rfl
      have hb : ((s.die.queue x.tile x.ctx (opQa x.w)).take (x.need 0) ++ (s.die.queue x.tile x.ctx (opQb x.w)).take (x.need 1)).any
        (fun q => q.poison) = false := bad
      have hm : ((s.die.queue x.tile x.ctx (opQa x.w)).take (x.need 0) ++ (s.die.queue x.tile x.ctx (opQb x.w)).take (x.need 1)).any
        (fun q => q.slot != s.die.slotIn x) = false := mis
      simp only [hs, hb, hm, Bool.and_false, Bool.or_false]; rfl
    · intro q
      simp only [Die.rest]
      by_cases hq : q = opQa x.w
      · subst hq
        rw [Die.queue_setQueue_other _ _ _ _ _ _ (Ne.symm hne), Die.queue_setQueue_same, Die.qa, if_pos rfl, if_neg (Ne.symm hne), Nat.add_zero, drop_len]
      · by_cases hq' : q = opQb x.w
        · subst hq'; rw [Die.queue_setQueue_same, if_neg hq, if_pos rfl, Nat.zero_add, Die.qb, drop_len]
        · rw [Die.queue_setQueue_other _ _ _ _ _ _ hq', Die.queue_setQueue_other _ _ _ _ _ _ hq, if_neg hq, if_neg hq']; rfl
    · intro u hu; simp [Die.setQueue, Die.onCtx, Die.tile_onTile_other _ _ _ _ hu]
    · intro k hk; simp [Die.setQueue, Die.ctx_onCtx_other _ _ _ _ _ hk]
    · simp [Die.setQueue, Die.onCtx]
    · simp [Die.setQueue]

/-- Loop counters are not contexts, stores or digests: one of them. -/
theorem Die.onGate_keeps (t c : Nat) (f : Nat → Nat) (d : Die) :
    d.onGate t c f = { d with tiles := (d.onGate t c f).tiles } ∧ (∀ u k, (d.onGate t c f).ctx u k = d.ctx u k)
      ∧ (∀ u, ((d.onGate t c f).tile u).store = (d.tile u).store) ∧ (∀ u, ((d.onGate t c f).tile u).digests = (d.tile u).digests) := by
  unfold Die.onGate
  refine ⟨rfl, fun u k => Die.ctx_onTile _ _ _ _ _ (fun _ => rfl), fun u => ?_, fun u => ?_⟩
  all_goals
    by_cases k : u = t
    · subst k; simp
    · rw [Die.tile_onTile_other _ _ _ _ k]

/-- Loop counters are not contexts, stores or digests: any number of them. -/
theorem Die.onGates_keeps {α : Type} (t c : α → Nat) (f : Nat → Nat) (l : List α) (d : Die) :
    let r := l.foldl (fun d g => d.onGate (t g) (c g) f) d
    r = { d with tiles := r.tiles } ∧ (∀ u k, r.ctx u k = d.ctx u k)
      ∧ (∀ u, (r.tile u).store = (d.tile u).store) ∧ (∀ u, (r.tile u).digests = (d.tile u).digests) := by
  induction l generalizing d with
  | nil => exact ⟨rfl, fun _ _ => rfl, fun _ => rfl, fun _ => rfl⟩
  | cons g l ih =>
    obtain ⟨a1, a2, a3, a4⟩ := ih (d.onGate (t g) (c g) f)
    obtain ⟨b1, b2, b3, b4⟩ := Die.onGate_keeps (t g) (c g) f d
    refine ⟨?_, fun u k => (a2 u k).trans (b2 u k), fun u => (a3 u).trans (b3 u), fun u => (a4 u).trans (b4 u)⟩
    simp only [List.foldl_cons]
    rw [a1, b1]

/-- Loop counters are not contexts, stores or digests: those of one firing. -/
theorem Die.loopCount_keeps (x : Fire) (b : Bool) (d : Die) :
    d.loopCount x b = { d with tiles := (d.loopCount x b).tiles } ∧ (∀ t c, (d.loopCount x b).ctx t c = d.ctx t c)
      ∧ (∀ t, ((d.loopCount x b).tile t).store = (d.tile t).store) ∧ (∀ t, ((d.loopCount x b).tile t).digests = (d.tile t).digests) := by
  obtain ⟨a1, a2, a3, a4⟩ := Die.onGates_keeps (fun _ => x.tile) (fun g : Nat × Nat => g.1) (· + 1) x.gates d
  cases b
  · simpa only [Die.loopCount, Bool.false_eq_true, if_false] using ⟨a1, a2, a3, a4⟩
  · simp only [Die.loopCount, if_true]
    obtain ⟨b1, b2, b3, b4⟩ := Die.onGates_keeps (fun g : Nat × Nat => g.1) (fun g => g.2) (· - 1) x.leaves
      (x.gates.foldl (fun d g => d.onGate x.tile g.1 (· + 1)) d)
    refine ⟨?_, fun u k => (b2 u k).trans (a2 u k), fun u => (b3 u).trans (a3 u), fun u => (b4 u).trans (a4 u)⟩
    rw [b1, a1]

/-- Capture and retirement change no tile. -/
theorem Die.capture_tiles (x : Fire) (sl : Nat) (bs : List QBeat) (d : Die) :
    (d.capture x sl bs).tiles = d.tiles ∧ (d.capture x sl bs).rows = d.rows ∧ (d.capture x sl bs).dir = d.dir := by
  unfold Die.capture; dsimp only
  repeat' split
  all_goals simp

theorem Die.writeCapture_tiles (e : Nat) (r : CapRec) (d : Die) :
    (d.writeCapture e r).tiles = d.tiles ∧ (d.writeCapture e r).rows = d.rows ∧ (d.writeCapture e r).dir = d.dir := by
  unfold Die.writeCapture; dsimp only
  repeat' split
  all_goals first | exact ⟨by simp [Die.onUpd, Die.eccClear], by simp [Die.onUpd, Die.eccClear], by simp [Die.onUpd, Die.eccClear]⟩

theorem Die.finishCapture_tiles (x : Fire) (sl : Nat) (d : Die) :
    (d.finishCapture x sl).tiles = d.tiles ∧ (d.finishCapture x sl).rows = d.rows ∧ (d.finishCapture x sl).dir = d.dir := by
  unfold Die.finishCapture; dsimp only
  repeat' split
  all_goals first
    | exact ⟨rfl, rfl, rfl⟩
    | (obtain ⟨h1, h2, h3⟩ := Die.writeCapture_tiles _ _ _; rw [h1, h2, h3]; simp)

theorem Die.retire_tiles (x : Fire) (sl : Nat) (d : Die) :
    (d.retire x sl).tiles = d.tiles ∧ (d.retire x sl).rows = d.rows ∧ (d.retire x sl).dir = d.dir := by
  unfold Die.retire Die.clearMarker; dsimp only
  split <;> simp [Die.onLar]

/-- What the end of a firing leaves in tiles and Larder (R113, R118, R125): the queues as pushed, one firing more, stores and digests alone. -/
theorem Die.finish_tiles (x : Fire) (o : Out) (d : Die) :
    let e := o.outs.foldl (fun d y => d.push x.tile y.1 y.2.1 y.2.2) d
    (∀ q, (d.finish x o).queue x.tile x.ctx q = e.queue x.tile x.ctx q)
      ∧ (∀ k q, k ≠ x.ctx → (d.finish x o).queue x.tile k q = e.queue x.tile k q)
      ∧ (d.finish x o).fires x.tile x.ctx x.op = e.fires x.tile x.ctx x.op + 1
      ∧ (∀ t, ((d.finish x o).tile t).store = (e.tile t).store) ∧ (∀ t, ((d.finish x o).tile t).digests = (e.tile t).digests)
      ∧ (d.finish x o).rows = e.rows ∧ (d.finish x o).dir = e.dir
      ∧ ((d.finish x o).ctx x.tile x.ctx) = { e.ctx x.tile x.ctx with fires := KMap.upd 0 (e.ctx x.tile x.ctx).fires x.op (· + 1) } := by
  intro e
  have key : ∃ f : Die, (d.finish x o).tiles = f.tiles ∧ (d.finish x o).rows = f.rows ∧ (d.finish x o).dir = f.dir
      ∧ f = (e.onCtx x.tile x.ctx (fun c => { c with fires := KMap.upd 0 c.fires x.op (· + 1) })).loopCount x o.last := by
    refine ⟨_, ?_, ?_, ?_, rfl⟩
    all_goals
      unfold Die.finish; dsimp only
      split
      · first
          | rw [(Die.retire_tiles _ _ _).1] | rw [(Die.retire_tiles _ _ _).2.1] | rw [(Die.retire_tiles _ _ _).2.2]
        first
          | rw [(Die.finishCapture_tiles _ _ _).1, (Die.capture_tiles _ _ _ _).1]
          | rw [(Die.finishCapture_tiles _ _ _).2.1, (Die.capture_tiles _ _ _ _).2.1]
          | rw [(Die.finishCapture_tiles _ _ _).2.2, (Die.capture_tiles _ _ _ _).2.2]
      · first
          | rw [(Die.finishCapture_tiles _ _ _).1, (Die.capture_tiles _ _ _ _).1]
          | rw [(Die.finishCapture_tiles _ _ _).2.1, (Die.capture_tiles _ _ _ _).2.1]
          | rw [(Die.finishCapture_tiles _ _ _).2.2, (Die.capture_tiles _ _ _ _).2.2]
  obtain ⟨f, h1, h2, h3, h4⟩ := key
  obtain ⟨l1, l2, l3, l4⟩ := Die.loopCount_keeps x o.last (e.onCtx x.tile x.ctx (fun c => { c with fires := KMap.upd 0 c.fires x.op (· + 1) }))
  rw [← h4] at l1 l2 l3 l4
  have hc : ∀ t c, (d.finish x o).ctx t c = f.ctx t c := fun t c => by simp [Die.ctx, Die.tile, h1]
  have ht : ∀ t, (d.finish x o).tile t = f.tile t := fun t => by simp [Die.tile, h1]
  refine ⟨fun q => ?_, fun k q hk => ?_, ?_, fun t => ?_, fun t => ?_, ?_, ?_, ?_⟩
  · simp [Die.queue, hc, l2]
  · simp [Die.queue, hc, l2, Die.ctx_onCtx_other _ _ _ _ _ hk]
  · simp [Die.fires, hc, l2]
  · rw [ht, l3]
    by_cases k : t = x.tile
    · subst k; simp [Die.onCtx]
    · rw [Die.onCtx, Die.tile_onTile_other _ _ _ _ k]
  · rw [ht, l4]
    by_cases k : t = x.tile
    · subst k; simp [Die.onCtx]
    · rw [Die.onCtx, Die.tile_onTile_other _ _ _ _ k]
  · rw [h2, l1]; simp
  · rw [h3, l1]; simp
  · rw [hc, l2]; simp

/-- A tile operation's command, at an operation that fires: its effect and the end of the firing. -/
theorem tileCmd_fires (sel : Nat → Bool) (f : Fused → Fire → Die → Out × Die) (s : State) (x : Fire) (h : s.fires x) (k : sel x.w = true) :
    tileCmd sel f x.tile x.ctx x.op s = .next { s with die := (f s.fused x s.die).2.finish x (f s.fused x s.die).1 } := by
  obtain ⟨h1, h2, h3, h4, h5, h6, _⟩ := h
  simp [tileCmd, dieCmd, h1, h2, h3, h4, h5, h6, k]

/-- A computing operation where nothing it reads is in error and no operand is at fault (R182): the beats of its result go to QD, and beside the queues it took
from only counts change. -/
theorem arith_sound (s : State) (x : Fire) (h : s.sound x) (sat fl : Tal) (reads : (Nat → Nat) → Fire → Nat → List Nat → List Nat)
    (work : (Nat → Nat) → Fire → Nat → List Nat → List Nat → Num (List Nat))
    (hv : (work (s.die.beat x.tile) x (s.die.slotSt x (s.die.slotIn x)).par ((s.die.qa x).map (fun b => b.data.toNat))
      ((s.die.qb x).map (fun b => b.data.toNat)) {}).2.operandBad = 0) :
    ∃ e, (∃ k, s.die.take s.fused x = (⟨s.die.qa x, s.die.qb x, s.die.slotIn x, false⟩, k) ∧ e.tiles = k.tiles ∧ e.rows = k.rows ∧ e.dir = k.dir)
      ∧ arith sat fl reads work s.fused x s.die = (⟨[(opCtx x.w, opQd x.w, outBeats (s.die.slotIn x) false
          ((work (s.die.beat x.tile) x (s.die.slotSt x (s.die.slotIn x)).par ((s.die.qa x).map (fun b => b.data.toNat))
            ((s.die.qb x).map (fun b => b.data.toNat))).val
          ++ List.replicate ((match (shapeOf x.w).outs with | y :: _ => y.2.2 | [] => 0)
            - ((work (s.die.beat x.tile) x (s.die.slotSt x (s.die.slotIn x)).par ((s.die.qa x).map (fun b => b.data.toNat))
                ((s.die.qb x).map (fun b => b.data.toNat))).val).length) 0))], s.die.slotIn x, true, []⟩, e) := by
  obtain ⟨k, h1, h2, -, -, -, h5, -⟩ := Die.take_sound s x h
  have hb : k.beat x.tile = s.die.beat x.tile := by funext b; simp only [Die.beat]; rw [h5]
  have hsl : ∀ n, k.slotSt x n = s.die.slotSt x n := fun n => by simp only [Die.slotSt, Die.engPas]; rw [h2]
  have hr : ∀ l, k.readBeats s.fused x l = (false, k) := fun l => Die.readBeats_clean _ _ _ _ (by rw [h2]; exact h.1) (by rw [h2]; exact h.2.1)
  have hf : decide (0 < (work (s.die.beat x.tile) x (s.die.slotSt x (s.die.slotIn x)).par ((s.die.qa x).map (fun b => b.data.toNat))
      ((s.die.qb x).map (fun b => b.data.toNat)) {}).2.operandBad) = false := by rw [hv]; rfl
  unfold arith
  simp only [h1, hb, hsl, hr, hf, Bool.or_false, Bool.false_eq_true, if_false]
  exact ⟨_, ⟨k, rfl, by simp, by simp, by simp⟩, rfl⟩

/-- A firing that pushes beats into QD alone, its tiles as after the take: what the queues and the rest hold. -/
theorem yields_of (s : State) (c : Instr) (x : Fire) (hf : s.fires x) (hs : s.sound x)
    (bs st : List QBeat) (b : Bool) (sl : Nat) (e : Die)
    (he : ∃ k, s.die.take s.fused x = (⟨s.die.qa x, s.die.qb x, s.die.slotIn x, false⟩, k) ∧ e.tiles = k.tiles ∧ e.rows = k.rows ∧ e.dir = k.dir)
    (hc : exec c s = .next { s with die := e.finish x ⟨[(opCtx x.w, opQd x.w, bs)], sl, b, st⟩ }) : s.yields c x bs := by
  obtain ⟨k, h1, h2, h3, h4⟩ := he
  obtain ⟨k', g1, g2, g3, -, -, g5, g6⟩ := Die.take_sound s x hs
  have : k' = k := by rw [h1] at g1; exact (Prod.mk.inj g1).2.symm
  subst this
  obtain ⟨f1, -, f3, f4, -, f6, f7, -⟩ := Die.finish_tiles x ⟨[(opCtx x.w, opQd x.w, bs)], sl, b, st⟩ e
  simp only [List.foldl_cons, List.foldl_nil, hf.2.2.2.2.2.2] at f1 f3 f4 f6 f7
  have hctx : e.ctx x.tile x.ctx = k'.ctx x.tile x.ctx := by simp [Die.ctx, Die.tile, h2]
  refine ⟨_, hc, ?_, ?_, ?_, rfl, ?_, ?_⟩
  all_goals simp only [hf.2.2.2.2.2.2]
  · rw [f3, Die.push, Die.fires_setQueue, Die.fires, hctx, g6]; rfl
  · intro q
    rw [f1]
    by_cases hq : q = opQd x.w
    · subst hq; rw [Die.queue_push_same, Die.queue_congr e k' h2, g3, if_pos rfl]
    · rw [Die.queue_push_other _ _ _ _ _ _ hq, Die.queue_congr e k' h2, g3, if_neg hq, List.append_nil]
  · rw [f4]; simp only [Die.push, Die.store_setQueue]
    rw [Die.tile_congr e k' h2, g5]
  · rw [f6]; simp [h3]; rw [g2]
  · rw [f7]; simp [h4]; rw [g2]

/-- A computing operation whose result fills its beats: what QD gains. -/
theorem arith_yields (s : State) (c : Instr) (x : Fire) (sel : Nat → Bool) (f : Fused → Fire → Die → Out × Die) (sat fl : Tal)
    (reads : (Nat → Nat) → Fire → Nat → List Nat → List Nat)
    (work : (Nat → Nat) → Fire → Nat → List Nat → List Nat → Num (List Nat)) (vs : List Nat)
    (hc : exec c s = tileCmd sel f x.tile x.ctx x.op s) (hx : f s.fused x s.die = arith sat fl reads work s.fused x s.die) (hsel : sel x.w = true)
    (hf : s.fires x) (hs : s.sound x)
    (hv : (work (s.die.beat x.tile) x (s.die.slotSt x (s.die.slotIn x)).par ((s.die.qa x).map (fun b => b.data.toNat))
      ((s.die.qb x).map (fun b => b.data.toNat)) {}).2.operandBad = 0)
    (hw : (work (s.die.beat x.tile) x (s.die.slotSt x (s.die.slotIn x)).par ((s.die.qa x).map (fun b => b.data.toNat))
      ((s.die.qb x).map (fun b => b.data.toNat))).val = vs)
    (hn : (match (shapeOf x.w).outs with | y :: _ => y.2.2 | [] => 0) ≤ vs.length) :
    s.yields c x (outBeats (s.die.slotIn x) false vs) := by
  obtain ⟨e, he, h⟩ := arith_sound s x hs sat fl reads work hv
  refine yields_of s c x hf hs _ [] true (s.die.slotIn x) e he ?_
  rw [hc, tileCmd_fires sel _ s x hf hsel, hx, h, hw, Nat.sub_eq_zero_of_le hn]
  simp

end Sys2Proof.Machine
end

