-- ==== Sys2Proof/Laws/Numeric.lean ====
section
/-! SUPPORT. Laws of the counting computations: what they answer does not depend on what has been counted, and they find no operand at fault. -/

namespace Sys2Proof.Machine

/-- A computation whose answer does not depend on what has been counted, and that finds no operand at fault. -/
def Num.plain {α : Type} (f : Num α) : Prop := ∀ t, (f t).1 = f.val ∧ (f t).2.operandBad = t.operandBad

variable {α β : Type}

theorem Num.plain_ret (x : α) : (Num.ret x).plain := fun _ => ⟨rfl, rfl⟩

theorem Num.plain_seq (f : Num α) (g : α → Num β) (h : f.plain) (k : ∀ x, (g x).plain) : (Num.seq f g).plain := fun t => by
  refine ⟨?_, ((k _ _).2).trans (h t).2⟩
  show (g (f t).1 (f t).2).1 = (g (f {}).1 (f {}).2).1
  rw [(k _ _).1, (k _ _).1, (h t).1]; rfl

/-- One computation after another answers what the second answers to the first's answer. -/
theorem Num.val_seq (f : Num α) (g : α → Num β) (k : ∀ x, (g x).plain) : (Num.seq f g).val = (g f.val).val := (k _ _).1

@[simp] theorem Num.val_ret (x : α) : (Num.ret x).val = x := rfl

theorem Num.plain_all (f : α → Num β) (l : List α) (h : ∀ x, (f x).plain) : (Num.all f l).plain := by
  induction l with
  | nil => exact Num.plain_ret _
  | cons x l ih => exact Num.plain_seq _ _ (h x) fun _ => Num.plain_seq _ _ ih fun _ => Num.plain_ret _

/-- A computation on each element answers the list of answers. -/
theorem Num.val_all (f : α → Num β) (l : List α) (h : ∀ x, (f x).plain) : (Num.all f l).val = l.map (fun x => (f x).val) := by
  induction l with
  | nil => rfl
  | cons x l ih =>
    have s1 : ∀ y : β, (Num.seq (Num.all f l) fun ys => Num.ret (y :: ys)).plain := fun y =>
      Num.plain_seq _ _ (Num.plain_all f l h) fun _ => Num.plain_ret _
    rw [Num.all, Num.val_seq _ _ s1, Num.val_seq _ _ fun _ => Num.plain_ret _, ih]; rfl

theorem Num.plain_fold (f : β → α → Num β) (b : β) (l : List α) (h : ∀ b x, (f b x).plain) : (Num.fold f b l).plain := by
  induction l generalizing b with
  | nil => exact Num.plain_ret _
  | cons x l ih => exact Num.plain_seq _ _ (h b x) fun _ => ih _

/-- A running computation answers the fold of the answers. -/
theorem Num.val_fold (f : β → α → Num β) (b : β) (l : List α) (h : ∀ b x, (f b x).plain) :
    (Num.fold f b l).val = l.foldl (fun b x => (f b x).val) b := by
  induction l generalizing b with
  | nil => rfl
  | cons x l ih => rw [Num.fold, Num.val_seq _ _ fun b => Num.plain_fold f b l h, ih]; rfl

theorem Num.plain_ite {c : Prop} [Decidable c] (f g : Num α) (h : f.plain) (k : g.plain) : (if c then f else g).plain := by
  split <;> assumption

theorem norm32_plain (v : Nat) : (norm32 v).plain := fun t => by
  unfold norm32 Num.val; dsimp only; split <;> exact ⟨rfl, rfl⟩

theorem decode32_plain (v : Nat) : (decode32 v).plain := fun t => by
  unfold decode32 Num.val; dsimp only; repeat' split
  all_goals exact ⟨rfl, rfl⟩

theorem round32_plain (s : Bool) (n : Nat) (e : Int) : (round32 s n e).plain := fun t => by
  unfold round32 Num.val; dsimp only; repeat' split
  all_goals exact ⟨rfl, rfl⟩

theorem roundInt_plain (v e : Int) : (roundInt v e).plain := round32_plain _ _ _

theorem read32_plain (v : Nat) : (read32 v).plain := Num.plain_seq _ _ (norm32_plain v) decode32_plain

theorem add32_plain (p q : Nat) : (add32 p q).plain :=
  Num.plain_seq _ _ (decode32_plain p) fun _ => Num.plain_seq _ _ (decode32_plain q) fun _ => roundInt_plain _ _

theorem accumulate_plain (b : Nat) (l : List Nat) : (accumulate b l).plain := Num.plain_fold _ _ _ add32_plain

theorem mul32_plain (p q : Nat) : (mul32 p q).plain :=
  Num.plain_seq _ _ (read32_plain p) fun _ => Num.plain_seq _ _ (read32_plain q) fun _ =>
    Num.plain_ite _ _ (Num.plain_ret _) (round32_plain _ _ _)

theorem diff32_plain (p q : Nat) : (diff32 p q).plain :=
  Num.plain_seq _ _ (read32_plain p) fun _ => Num.plain_seq _ _ (read32_plain q) fun _ => Num.plain_ret _

theorem cmp32_plain (p q : Nat) : (cmp32 p q).plain := Num.plain_seq _ _ (diff32_plain p q) fun _ => Num.plain_ret _

theorem affine32_plain (v c e : Nat) : (affine32 v c e).plain :=
  Num.plain_seq _ _ (diff32_plain v c) fun _ => Num.plain_seq _ _ (read32_plain e) fun _ =>
    Num.plain_ite _ _ (Num.plain_ret _) (round32_plain _ _ _)

theorem rsqrt32_plain (a : Nat) : (rsqrt32 a).plain :=
  Num.plain_seq _ _ (decode32_plain a) fun _ => Num.plain_ite _ _ (Num.plain_ret _) (round32_plain _ _ _)

theorem layer32_plain (v : List Nat) (eps : Nat) : (layer32 v eps).plain := by
  have flat : ∀ c : Nat, Num.plain (fun t => ((), if c = 0 then { t with flat := t.flat + 1 } else t)) := fun c t => by
    refine ⟨rfl, ?_⟩; show Tl.operandBad (if c = 0 then _ else _) = _; split <;> rfl
  refine Num.plain_seq _ _ (Num.plain_all _ _ read32_plain) fun _ => Num.plain_seq _ _ (Num.plain_ite _ _ (Num.plain_ret _) (roundInt_plain _ _)) fun _ =>
    Num.plain_seq _ _ (decode32_plain _) fun _ => Num.plain_seq _ _ (Num.plain_ite _ _ (Num.plain_ret _) (round32_plain _ _ _)) fun _ =>
    Num.plain_seq _ _ (flat _) fun _ => Num.plain_seq _ _ (norm32_plain _) fun _ => Num.plain_seq _ _ (add32_plain _ _) fun _ =>
    Num.plain_ite _ _ (Num.plain_ret _) (Num.plain_seq _ _ (rsqrt32_plain _) fun _ => Num.plain_seq _ _ (decode32_plain _) fun _ =>
      Num.plain_all _ _ fun _ => Num.plain_ite _ _ (Num.plain_ret _) (round32_plain _ _ _))

theorem expand_plain (f c cb : Nat) : (expand f c cb).plain := fun t => by
  unfold expand Num.val; dsimp only; repeat' split
  all_goals exact ⟨rfl, rfl⟩

end Sys2Proof.Machine
end

