-- ==== Sys2Proof/Laws/Parser.lean ====
section
/-! SUPPORT. Laws of the Gate parsers: what a change of one parser leaves alone, and what the end of an instruction does. -/

namespace Sys2Proof.Machine

/-- A change of a parser changes the parsers alone. -/
@[simp] theorem Die.putParser_frame (g : Nat) (x : Parser) (d : Die) :
    (d.putParser g x).regs = d.regs ∧ (d.putParser g x).tallies = d.tallies ∧ (d.putParser g x).caps = d.caps ∧
    (d.putParser g x).readData = d.readData ∧ (d.putParser g x).emits = d.emits ∧ (d.putParser g x).host = d.host ∧ (d.putParser g x).free = d.free ∧
    (d.putParser g x).fc = d.fc ∧ (d.putParser g x).ns = d.ns ∧ (d.putParser g x).up = d.up ∧ (d.putParser g x).aliveOn = d.aliveOn ∧
    (d.putParser g x).alive = d.alive ∧ (d.putParser g x).refWait = d.refWait ∧ (d.putParser g x).pullIn = d.pullIn ∧
    (d.putParser g x).fcRun = d.fcRun ∧ (d.putParser g x).timingPending = d.timingPending ∧ (d.putParser g x).profilePending = d.profilePending ∧
    (d.putParser g x).statePending = d.statePending ∧ (d.putParser g x).tripped = d.tripped ∧ (d.putParser g x).off = d.off ∧
    (d.putParser g x).napOpen = d.napOpen ∧ (d.putParser g x).restoring = d.restoring ∧ (d.putParser g x).steer = d.steer ∧
    (d.putParser g x).feeds = d.feeds ∧ (d.putParser g x).pas = d.pas ∧ (d.putParser g x).rows = d.rows ∧ (d.putParser g x).dir = d.dir ∧
    (d.putParser g x).lar = d.lar ∧ (d.putParser g x).poison = d.poison ∧ (d.putParser g x).ecc = d.ecc ∧ (d.putParser g x).looked = d.looked ∧
    (d.putParser g x).entries = d.entries ∧ (d.putParser g x).launch = d.launch ∧ (d.putParser g x).ports = d.ports ∧
    (d.putParser g x).pins = d.pins ∧ (d.putParser g x).trigIn = d.trigIn ∧ (d.putParser g x).tbs = d.tbs ∧ (d.putParser g x).pair = d.pair ∧
    (d.putParser g x).txts = d.txts ∧ (d.putParser g x).ptpTag = d.ptpTag ∧ (d.putParser g x).grants = d.grants ∧ (d.putParser g x).otp = d.otp ∧
    (d.putParser g x).claims = d.claims ∧ (d.putParser g x).electionNs = d.electionNs ∧ (d.putParser g x).heartbeat = d.heartbeat ∧
    (d.putParser g x).handover = d.handover ∧ (d.putParser g x).smbPtr = d.smbPtr ∧ (d.putParser g x).jtagLast = d.jtagLast ∧
    (d.putParser g x).spares = d.spares ∧ (d.putParser g x).spareField = d.spareField ∧ (d.putParser g x).staged = d.staged ∧
    (d.putParser g x).store = d.store ∧ (d.putParser g x).ceLast = d.ceLast ∧ (d.putParser g x).shd = d.shd ∧ (d.putParser g x).loft = d.loft ∧
    (d.putParser g x).lanes = d.lanes ∧ (d.putParser g x).flk = d.flk ∧ (d.putParser g x).tiles = d.tiles ∧ (d.putParser g x).eng = d.eng ∧
    (d.putParser g x).upd = d.upd ∧ (d.putParser g x).loads = d.loads ∧ (d.putParser g x).loadOrder = d.loadOrder ∧ (d.putParser g x).closed = d.closed ∧ (d.putParser g x).stopped = d.stopped ∧
    (d.putParser g x).shedLow = d.shedLow ∧ (d.putParser g x).injLast = d.injLast := by and_intros <;> rfl

/-- A parser reads as what it was replaced by. -/
@[simp] theorem Die.parser_putParser_same (d : Die) (g : Nat) (x : Parser) : (d.putParser g x).parser g = x := by
  simp [Die.parser, Die.putParser]

/-- Another parser stands. -/
theorem Die.parser_putParser_other (d : Die) (g h : Nat) (x : Parser) (k : h ≠ g) : (d.putParser g x).parser h = d.parser h := by
  simp [Die.parser, Die.putParser, KMap.get_set_other _ _ _ _ _ k]

/-- A parser read depends on the parsers alone. -/
theorem Die.parser_congr (d e : Die) (h : d.parsers = e.parsers) (g : Nat) : d.parser g = e.parser g := by simp [Die.parser, h]

@[simp] theorem Die.parser_count (d : Die) (t : Tal) (i g : Nat) : (d.count t i).parser g = d.parser g := Die.parser_congr _ _ (by simp) g

/-- A parser that runs keeps its frame. -/
theorem Parser.settle_running (x : Parser) (h : x.running = true) : x.settle = x := by simp [Parser.settle, h]

/-- After an instruction that leaves the program running at an instruction it has, nothing more happens. -/
theorem Die.pEnd_parser (d : Die) (g : Nat) (h : (d.parser g).running = true) (k : (d.parser g).pc < (d.parser g).instrs.length) :
    (d.pEnd g).parser g = d.parser g := by
  have : ¬ ((d.parser g).instrs.length ≤ (d.parser g).pc) := by omega
  simp [Die.pEnd, h, this, Parser.settle_running]

/-- After an instruction whose program has ended, the parser settles. -/
theorem Die.pEnd_parser_ended (d : Die) (g : Nat) (h : (d.parser g).running = false) : (d.pEnd g).parser g = (d.parser g).settle := by
  simp [Die.pEnd, h]

/-- The end of an instruction of a parser, its program running past no end, changes that parser alone. -/
theorem Die.pEnd_frame (d : Die) (g : Nat) (h : (d.parser g).running = false ∨ (d.parser g).pc < (d.parser g).instrs.length) :
    d.pEnd g = d.putParser g (d.parser g).settle := by
  have : ((d.parser g).running && decide ((d.parser g).instrs.length ≤ (d.parser g).pc)) = false := by
    rcases h with h | h
    · simp [h]
    · have : ¬ ((d.parser g).instrs.length ≤ (d.parser g).pc) := by omega
      simp [this]
  simp [Die.pEnd, this]

/-- An instruction that can execute belongs to a running program. -/
theorem Die.ready_running (d : Die) (g : Nat) (i : PInstr) (h : d.ready g = some i) : (d.parser g).running = true := by
  unfold Die.ready at h; dsimp only at h
  split at h
  · cases h
  · next k => simpa using k

/-- A parser opcode whose turn it is has its effect, and the parser stands as after an instruction. -/
theorem pCmd_ready (op g : Nat) (f : PInstr → Die → Die) (s : State) (i : PInstr) (hg : g < 81) (h : s.die.ready g = some i) (ho : i.op = op) :
    pCmd op g f s = .next { s with die := (f i s.die).pEnd g } := by
  simp [pCmd, dieCmd, hg, h, ho]

end Sys2Proof.Machine
end

