-- ==== Sys2Proof/Tests/Slice0.lean ====
section
/-! SUPPORT. Small tests of the model: ill-formed commands the check refuses, and states that meet the hypotheses of the statements. Expected results are
computed by hand from the rules of spec/ that each test names. -/

open Sys2Proof Sys2Proof.Machine

namespace Sys2Proof.Tests

set_option Elab.async false

/-- Set register field f of unit i. -/
def put (f : Fld) (i v : Nat) (s : State) : State := { s with die := s.die.put f i v }

/-- Change the compute die. -/
def die (f : Die → Die) (s : State) : State := { s with die := f s.die }

/-- Change the Cellar. -/
def cel (f : Cellar → Cellar) (s : State) : State := { s with cel := f s.cel }

/-- Command c answers a next state of which P holds. -/
def after (c : Instr) (s : State) (P : State → Bool) : Bool :=
  match exec c s with
  | .next t => P t
  | _ => false

/-- Start-up done, both supplies up, the flock count running, M1 holding the crook, the kill gate open. -/
def awake : State :=
  put R.OWN_STATUS_HELD 0 1 (put R.OWN_STATUS_HOLDER 0 1
    { die := { up := true, aliveOn := true, fcRun := true, refWait := false, fc := 1000000 }
      cel := { up := true }, kill := { blocked := false, running := true } })

/-- An image of pasture 0 whose content a test fills in. -/
def im0 : Image :=
  { imageId := 7, length := 0, keySlot := 0, manImageId := 7, grades := 7, mode := 0, fMHz := 1000, engineMask := 1, shape := 0, sheep := 0
    auditByte := 0, entryWait := 0, certNs := 0, stepBase := 0 }

/-- Admit an image to pasture p, without its checks. -/
def holding (p : Nat) (im : Image) (s : State) : State := die (Die.onPas p (fun q => { q with image := some im, adm := true })) s

/-- Grant pasture p bytes of its record from offset i. -/
def granting (p i : Nat) (bs : List Byte) (s : State) : State :=
  die (fun d => { d with grants := KMap.set (List.replicate 64 0) d.grants p (overlay (d.grant p) i bs) }) s

theorem test_wf_lane : (Instr.ts1 63 ⟨false, []⟩).wellFormed = true ∧ (Instr.ts1 64 ⟨false, []⟩).wellFormed = false
    ∧ (Instr.idleWord ⟨64, ⟨false, []⟩⟩).wellFormed = false := by decide
theorem test_wf_port : (Instr.fcsResult 15 true).wellFormed = true ∧ (Instr.fcsResult 16 true).wellFormed = false
    ∧ (Instr.blockLockGained ⟨16, true, false⟩).wellFormed = false := by decide
theorem test_wf_parser : (Instr.pNop 80).wellFormed = true ∧ (Instr.pNop 81).wellFormed = false := by decide
theorem test_wf_pasture : (Instr.vfFlr 63).wellFormed = true ∧ (Instr.vfFlr 64).wellFormed = false := by decide
theorem test_wf_engine : (Instr.loadDone 7).wellFormed = true ∧ (Instr.loadDone 8).wellFormed = false := by decide
theorem test_wf_quarter : (Instr.stall 0 ⟨3, false⟩).wellFormed = true ∧ (Instr.stall 0 ⟨4, false⟩).wellFormed = false := by decide
theorem test_wf_tile : (Instr.tNop 4087 7 31).wellFormed = true ∧ (Instr.tNop 24 0 0).wellFormed = false
    ∧ (Instr.tNop 4096 0 0).wellFormed = false := by decide
theorem test_wf_ctx : (Instr.tNop 0 8 0).wellFormed = false ∧ (Instr.tNop 0 0 32).wellFormed = false ∧ (Instr.oqBeatSend 0 0 2).wellFormed = false := by decide
theorem test_wf_base : (Instr.tbStepApply 7).wellFormed = true ∧ (Instr.tbStepApply 0).wellFormed = false ∧ (Instr.tbStepApply 8).wellFormed = false := by decide
theorem test_wf_word : (Instr.tallyRead .m1 0x840).wellFormed = true ∧ (Instr.tallyRead .m1 0x842).wellFormed = false
    ∧ (Instr.tallyRead .m1 0x4000000).wellFormed = false := by decide
theorem test_wf_source : (Instr.claim (.vf 63) 0).wellFormed = true ∧ (Instr.claim (.vf 64) 0).wellFormed = false := by decide
theorem test_wf_lanes_written : (Instr.partialWrite .m1 0x10 15 0).wellFormed = true ∧ (Instr.partialWrite .m1 0x10 16 0).wellFormed = false := by decide
theorem test_wf_pin : (Instr.trigPulseEnd 15).wellFormed = true ∧ (Instr.trigPulseEnd 16).wellFormed = false
    ∧ (Instr.triginStuck ⟨8, ⟨0, 0⟩⟩).wellFormed = false := by decide
theorem test_wf_egress : (Instr.launchCommit 1 15).wellFormed = true ∧ (Instr.launchCommit 1 16).wellFormed = false
    ∧ (Instr.launchCommit 2 63).wellFormed = true ∧ (Instr.launchCommit 0 0).wellFormed = false := by decide
theorem test_reset_queue_empty : State.reset.pending = [] := rfl
theorem test_wf_tag : (Instr.tagCheckFail ⟨[], 0, true, 0, [], true, [], 1, 0, 1, [], some 7, some 0⟩).wellFormed = true
    ∧ (Instr.tagCheckFail ⟨[], 0, true, 0, [], true, [], 1, 0, 1, [], some 8, none⟩).wellFormed = false
    ∧ (Instr.tagCheckFail ⟨[], 0, true, 0, [], true, [], 21, 0, 1, [], none, none⟩).wellFormed = false := by decide

/-- A parser instruction word (R56). -/
def pw (op rel off len be dst arg : Nat) : Word :=
  BitVec.ofNat 32 (op * 2 ^ 27 + rel * 2 ^ 26 + off * 2 ^ 16 + len * 2 ^ 13 + be * 2 ^ 12 + dst * 2 ^ 6 + arg)

/-- Parser 64 at the first of two instructions, over the frame bytes 1 to 8, the last byte declared in bounds. -/
def atP (w : Word) : Parser :=
  { busy := true, frame := [1, 2, 3, 4, 5, 6, 7, 8], arrived := 8, instrs := [w, 0], bounds := [7], running := true, fields := List.replicate 40 0
    consts := [(0x0605, 0xFFFF)] }

/-- The state with that parser. -/
def pSt (x : Parser) : State := die (Die.putParser 64 x) awake

/-- The hypotheses of ParserStraight for an opcode with a source, at the last byte of its bound. -/
def pMeets (op : Nat) (x : Parser) (bs : List Byte) : Bool :=
  match (pSt x).die.ready 64 with
  | some i => i.op == op && (match x.source i with | .ok b => b == bs | .error _ => false) && !x.dropped && decide (x.pc + 1 + i.arg ≤ x.instrs.length)
  | none => false

theorem test_ext : pMeets 1 (atP (pw 1 0 6 1 0 25 0)) [7, 8] = true
    ∧ after (.pExt 64) (pSt (atP (pw 1 0 6 1 0 25 0))) (fun t => slice (t.die.parser 64).fields 0 4 == [0, 7, 8, 0]) = true := by decide +kernel
theorem test_keyc : pMeets 2 (atP (pw 2 0 4 1 1 0 0)) [5, 6] = true
    ∧ after (.pKeyc 64) (pSt (atP (pw 2 0 4 1 1 0 0))) (fun t => (t.die.parser 64).key == 0x0506) = true := by decide +kernel
theorem test_keyh : pMeets 3 (atP (pw 3 0 0 5 0 0 0)) [1, 2, 3, 4, 5, 6, 7, 8] = true
    ∧ after (.pKeyh 64) (pSt (atP (pw 3 0 0 5 0 0 0))) (fun t => (t.die.parser 64).touched) = true := by decide +kernel
theorem test_evid : pMeets 4 (atP (pw 4 0 2 4 0 0 0)) [3, 4, 5, 6, 7, 8] = true
    ∧ after (.pEvid 64) (pSt (atP (pw 4 0 2 4 0 0 0))) (fun t => (t.die.parser 64).evid == some 0x080706050403) = true := by decide +kernel
theorem test_match : pMeets 5 (atP (pw 5 0 4 1 0 0 0)) [5, 6] = true
    ∧ after (.pMatch 64) (pSt (atP (pw 5 0 4 1 0 0 0))) (fun t => (t.die.parser 64).c) = true := by decide +kernel
theorem test_cur : pMeets 8 (atP (pw 8 0 7 0 0 0 0)) [8] = true
    ∧ after (.pCur 64) (pSt (atP (pw 8 0 7 0 0 0 0))) (fun t => (t.die.parser 64).cursor == 8) = true := by decide +kernel
theorem test_moves : (([(0, .pNop 64), (6, .pBrc 64), (7, .pBrn 64), (9, .pCuri 64), (10, .pTbsel 64)] : List (Nat × Instr)).all (fun c =>
      let s := pSt { atP (pw c.1 0 3 0 0 0 1) with instrs := [pw c.1 0 3 0 0 0 1, 0, 0] }
      (match s.die.ready 64 with | some i => i.op == c.1 && decide (0 + 1 + i.arg < 3) | none => false)
        && after c.2 s (fun t => (t.die.parser 64).pc == (if c.1 = 7 then 2 else 1)))) = true := by decide +kernel
theorem test_emitr : after (.pEmitr 64) (pSt { atP (pw 11 0 0 0 0 0 0) with key := 9, closed := 7 }) (fun t =>
      ((t.die.parser 64).closing.map (fun r => r.key)) == [9] && (t.die.parser 64).closed == 8 && t.die.tally T.ING_RECORDS 64 == 1) = true := by
  decide +kernel
theorem test_accept : after (.pAccept 64) (pSt (atP (pw 12 0 0 0 0 0 0))) (fun t => !(t.die.parser 64).running && t.die.tally T.ING_RECORDS 64 == 1) = true := by
  decide +kernel
theorem test_drop : after (.pDrop 64) (pSt (atP (pw 13 0 0 0 0 0 0))) (fun t => t.die.tally T.PAS_PROG_DROP 0 == 1 && !(t.die.parser 64).busy) = true := by
  decide +kernel

/-- Pasture 0 holds an image with an engine; parser 64 has one closed record. -/
def oneRecord (wait : Bool) : State :=
  holding 0 { im0 with engines := [{ engine := 0, quarters := 1, fold := 0, ii := 1, stages := 1, slots := 1 }] }
    (pSt { atP 0 with running := false, closing := [⟨none, 5, 0, List.replicate 40 0⟩], wait := wait, fcsDue := true, srcCode := 64 })

theorem test_recordAssembled : ((oneRecord false).die.parser 64).closing ≠ [] ∧ (oneRecord false).die.image 0 ≠ none
    ∧ (KMap.get [] (oneRecord false).die.feeds (64 * 64)).length < 16
    ∧ after (.recordAssembled ⟨64, 0⟩) (oneRecord false) (fun t => (KMap.get [] t.die.feeds (64 * 64)).map (fun r => r.key) == [5]
        && (t.die.pasture 0).evCounter == 1) = true
    ∧ after (.recordAssembled ⟨64, 0⟩) (oneRecord true) (fun t => (t.die.parser 64).held.map (fun r => r.key) == [5] && t.die.feeds == []) = true := by
  decide +kernel

/-- A frame at parser 64 of which the header stage has seen nothing and whose program waits for byte 7. -/
def waiting7 : State := pSt { atP (pw 1 0 7 0 0 24 0) with arrived := 0 }

theorem test_wordArrival : (waiting7.die.parser 64).busy = true ∧ (match (waiting7.die.putParser 64 { (waiting7.die.parser 64) with arrived := 4 }).ready 64 with
      | none => true | some _ => false) = true
    ∧ waiting7.die.get R.DEV_TIMING_STATUS_MODE = 0
    ∧ after (.parserWordArrival 64 4 1) waiting7 (fun t => (t.die.parser 64).arrived == 4 && t.die.tally T.FAB_TIMING_CHOICE 0 == 1) = true := by
  decide +kernel
theorem test_fcsFails : after (.fcsResult 0 false) (oneRecord true) (fun t => t.die.tally T.PAS_FCS_BAD 0 == 1 && !(t.die.parser 64).busy) = true
    ∧ ((oneRecord true).die.parser 64).running = false ∧ ((oneRecord true).die.parser 64).fcsDue = true := by decide +kernel
theorem test_fcsPasses : ((pSt { atP 0 with running := false, fcsDue := true }).die.parser 64).held = []
    ∧ after (.fcsResult 0 true) (pSt { atP 0 with running := false, fcsDue := true }) (fun t => !(t.die.parser 64).busy) = true := by decide +kernel

/-- Port 0 on and locked; pasture 0 steers every UDP frame of it to a program that takes one. -/
def port0 : State :=
  put R.ETH_CONTROL_ENABLE 0 1 (put R.ETH_STATUS_BLOCK_LOCK 0 1 (holding 0 { im0 with programs := [{ port := 64, number := 0, instrs := [pw 12 0 0 0 0 0 0] }] }
    (die (fun d => { d with steer := [(64 * 64, some ⟨0, { index := 0, source := 64, program := 0 }⟩)] }) awake)))

/-- A UDP frame to a group address, 60 bytes, with a good IPv4 header (R50). -/
def udpFrame : List Byte :=
  padTo 60 ([1, 0, 0, 0, 0, 0, 2, 0, 0, 0, 0, 0, 8, 0, 0x45, 0, 0, 30, 0, 0, 0, 0, 64, 17, 0x7A, 0xD0, 0, 0, 0, 0, 0, 0, 0, 0, 0, 5, 0, 6, 0, 10, 0, 0, 1, 2])

theorem test_ethFrame : port0.die.ethReceives 0 = true ∧ port0.die.inNap = false ∧ port0.die.macOk 0 udpFrame = true ∧ isPtp udpFrame = false
    ∧ (match headerStage udpFrame with | .ok (.eth none 0 6, 42) => true | _ => false) = true
    ∧ port0.die.steerFor 64 (.eth none 0 6) = some ⟨0, { index := 0, source := 64, program := 0 }⟩
    ∧ after (.ethFrameRx 0 udpFrame {} ⟨0, 0⟩) port0 (fun t => (t.die.parser 64).busy && t.die.tally T.ING_FRAMES 64 == 1) = true := by decide +kernel
theorem test_ethNoMatch : (die (fun d => { d with steer := [] }) port0).die.steerFor 64 (.eth none 0 6) = none
    ∧ after (.ethFrameRx 0 udpFrame {} ⟨0, 0⟩) (die (fun d => { d with steer := [] }) port0) (fun t => t.die.tally T.ETH_NO_MATCH 0 == 1) = true := by
  decide +kernel

/-- A PTP event message over Ethernet (R381). -/
def ptpFrame : List Byte := padTo 60 ([1, 0, 0, 0, 0, 0, 2, 0, 0, 0, 0, 0, 0x88, 0xF7])

theorem test_ptpRx : isPtp ptpFrame = true ∧ port0.die.macOk 0 ptpFrame = true ∧ port0.die.on R.ETH_PTPRX_CTL_ENABLE 0 = false
    ∧ after (.ptpRx 0 ptpFrame ⟨0, 0⟩) port0 (fun t => t.die.tally T.ETH_PTP_RX_DROP 0 == 1) = true
    ∧ after (.ptpRx 0 ptpFrame ⟨0, 0⟩) (put R.ETH_PTPRX_CTL_ENABLE 0 1 port0) (fun t => t.die.get R.ETH_PTPRX_HEAD_VALUE 0 == 1) = true := by decide +kernel

/-- Pasture 3's injection ring holds one unit whose LENGTH field is n. -/
def ring3 (n : Nat) : State :=
  put R.PAS_INJ_CTL_ENABLE 3 1 (put R.PAS_INJ_HEAD_VALUE 3 1 (die (fun d => d.hostWrite (vfFn 3) 0 (leBytes 2 n)) awake))

theorem test_inject : (ring3 4).die.injHead 3 ≠ none ∧ (∀ q < 64, q ≠ 3 → (ring3 4).die.injHead q = none)
    ∧ after .injectEntry (ring3 4) (fun t => t.die.get R.PAS_INJ_TAIL_VALUE 3 == 1 && t.die.tally T.PAS_INJECTED 3 == 1) = true
    ∧ after .injectEntry (ring3 0) (fun t => t.die.on R.PAS_RING_STATUS_INJ_HALTED 3 && t.die.tally T.PAS_INJ_BAD 3 == 1) = true := by decide +kernel

/-- A table of rows of two words. -/
def tab2 : TableImg := { table := 2, cls := 0, wback := 0, rowUnits := 2, maxKeys := 4, churn := 0 }

/-- Pasture 0 with row words 10 to 13, two buckets from bucket 4, and that table; a record for its key 5 at the feed of parser 0. -/
def larder0 : State :=
  granting 0 8 [10, 0, 0, 0, 4, 0, 0, 0, 4, 0, 0, 0, 1] (holding 0 { im0 with tables := [tab2] }
    (die (fun d => { d with feeds := [(0, [{ key := 5, table := some 2 }])], rows := [(12, 7)], lar := [(0, { alloc := [(10, [10, 11])], defLive := [(2, 10)] })] }) awake))

/-- The same with an entry of bank 0 for key 5 that points at word 12. -/
def larderHit : State :=
  die (fun d => { d with dir := [((d.places 0 2 5 0 0).headD 0, some ⟨5, 2, 12⟩)] }) larder0

theorem test_lookupMiss : larder0.die.dirFind (larder0.die.places 0 2 5 0 0) 2 5 = none
    ∧ after (.larderLookup 0 0) larder0 (fun t => (KMap.get [] t.die.looked 0).map (fun v => (v.miss, v.rowPtr)) == [(true, 10)]
        && t.die.tally (T.LRD_MISS 2) 0 == 1) = true := by decide +kernel
theorem test_lookupHit : (larderHit.die.dirFind (larderHit.die.places 0 2 5 0 0) 2 5).map (fun y => y.2.ptr) = some 12
    ∧ grantField (larderHit.die.grant 0) 8 4 ≤ 12 ∧ 12 + 2 ≤ grantField (larderHit.die.grant 0) 8 4 + grantField (larderHit.die.grant 0) 12 4
    ∧ after (.larderLookup 0 0) larderHit (fun t => (KMap.get [] t.die.looked 0).map (fun v => (v.miss, v.row.headD 0)) == [(false, 7)]) = true := by decide +kernel

/-- A master's write of a register is one the device performs. -/
def adm (s : State) (b : Block) (i off : Nat) : Bool := (s.die.admitWrite s.fused .m1 (blockAddr b i off)).1

theorem test_rebuildStart : adm larderHit .LRD 0 0x010 = true ∧ larderHit.die.grantK 0 ≠ 0
    ∧ after (.rebuildStart .m1 0 4) larderHit (fun t => t.die.lrdState 0 == 1 && t.die.dir.length == 2) = true := by decide +kernel
theorem test_rebuildAbort : after (.rebuildAbort .m1 0 8) (put R.LRD_STATUS_STATE 0 3 larderHit) (fun t => t.die.lrdState 0 == 0) = true := by decide +kernel

/-- A rebuild in progress on pasture 0 whose ring holds one record. -/
def rb (op table len n : Nat) : State :=
  put R.LRD_STATUS_STATE 0 1 (put R.LRD_RING_CTL_ENABLE 0 1 (put R.LRD_RING_HEAD_VALUE 0 n (die (fun d =>
    (d.hostWrite (vfFn 0) 0 (leBytes 1 op ++ leBytes 1 table ++ leBytes 2 len ++ leBytes 4 5 ++ List.replicate 8 0 ++ leBytes 8 9))) larder0)))

/-- The record at the tail, with the hypotheses of its clause. -/
def rbAt (s : State) (P : RbRec → Bool) : Bool := match s.die.rbHead 0 with | some r => P r | none => false

theorem test_rbPut : rbAt (rb 1 2 16 4) (fun r => r.fits && !((rb 1 2 16 4).die.rbSkips 0 r) && r.op == 1 && r.units == 4) = true
    ∧ (rb 1 2 16 4).die.freeRuns 0 2 = [12]
    ∧ ((rb 1 2 16 4).die.places 0 2 5 1 0).find? (fun j => (KMap.get none (rb 1 2 16 4).die.dir j).isNone) ≠ none := by decide +kernel
theorem test_rbPutRefused : (die (fun d => d.onLar 0 (fun x => { x with alloc := [(10, [10, 11]), (12, [12, 13])] })) (rb 1 2 16 4)).die.freeRuns 0 2 = []
    ∧ after (.rbPut 0) (die (fun d => d.onLar 0 (fun x => { x with alloc := [(10, [10, 11]), (12, [12, 13])] })) (rb 1 2 16 4)) (fun t =>
        t.die.on R.LRD_STATUS_REFUSED 0 && t.die.get R.LRD_STATUS_KEY_KEY 0 == 5 && t.die.tally T.LRD_INSERT_REFUSE 0 == 1) = true := by decide +kernel
theorem test_rbDelete : rbAt (rb 2 2 0 2) (fun r => r.fits && !((rb 2 2 0 2).die.rbSkips 0 r) && r.op == 2) = true
    ∧ after (.rbDelete 0) (die (fun d => { d with dir := [((d.places 0 2 5 1 0).headD 0, some ⟨5, 2, 10⟩)] }) (rb 2 2 0 2)) (fun t =>
        t.die.dir == [] && t.die.get R.LRD_RING_TAIL_VALUE 0 == 2) = true := by decide +kernel
theorem test_rbDefault : rbAt (rb 3 2 16 4) (fun r => r.fits && !((rb 3 2 16 4).die.rbSkips 0 r) && r.op == 3) = true := by decide +kernel
theorem test_rbEnd : rbAt (rb 4 0 0 2) (fun r => r.fits && !((rb 4 0 0 2).die.rbSkips 0 r) && r.op == 4) = true
    ∧ after (.rbEnd 0) (rb 4 0 0 2) (fun t => t.die.lrdState 0 == 2) = true := by decide +kernel
theorem test_rbSkip : rbAt (rb 5 0 0 2) (fun r => r.fits && (rb 5 0 0 2).die.rbSkips 0 r) = true
    ∧ after (.rebuildRecordSkip 0) (rb 5 0 0 2) (fun t => t.die.tally T.LRD_RB_BAD 0 == 1) = true := by decide +kernel
theorem test_rbHalt : (put R.LRD_RING_CTL_LOG2SIZE 0 4 (rb 1 2 128 2)).die.get R.LRD_RING_CTL_LOG2SIZE 0 = 4
    ∧ rbAt (put R.LRD_RING_CTL_LOG2SIZE 0 4 (rb 1 2 128 2)) (fun r => !r.fits) = true
    ∧ after (.rbHalt 0) (put R.LRD_RING_CTL_LOG2SIZE 0 4 (rb 1 2 128 2)) (fun t => t.die.on R.LRD_STATUS_RB_HALTED 0) = true := by decide +kernel

/-- A shadow bank that is ready, with the default row at word 12. -/
def shadowReady (st : Nat) : State :=
  put R.LRD_STATUS_STATE 0 st (die (fun d => d.onLar 0 (fun x => { x with defShadow := [(2, 12)], alloc := [(10, [10, 11]), (12, [12, 13])], swapAt := 1000000 })) larder0)

theorem test_swapGo : after (.lrdSwapGo .m1 0 1) (shadowReady 2) (fun t => (t.die.larder 0).live == 1 && (t.die.larder 0).freeing == [10]
      && t.die.lrdState 0 == 0) = true
    ∧ after (.lrdSwapGo .m1 0 1) (shadowReady 1) (fun t => t.die.tally T.LRD_SWAP_REFUSE 0 == 1) = true := by decide +kernel
theorem test_swapAt : sdiff 64 1000000 1000001 < 0
    ∧ after (.lrdSwapAt .m1 0 2) (put R.LRD_SWAP_FC_LO 0 1000001 (shadowReady 2)) (fun t => t.die.lrdState 0 == 3 && (t.die.larder 0).live == 0) = true
    ∧ after (.swapAtFc 0) (shadowReady 3) (fun t => (t.die.larder 0).live == 1) = true := by decide +kernel
theorem test_rowFree : after (.rowFree 0) (die (fun d => d.onLar 0 (fun x => { x with freeing := [12], alloc := [(10, [10, 11]), (12, [12, 13])] })) larder0) (fun t =>
      (t.die.larder 0).alloc == [(10, [10, 11])]) = true := by decide +kernel

/-- An operation word: opcode, QA, QB, QD and fields given as (lowest bit, value). -/
def op (c a b d : Nat) (fs : List (Nat × Nat)) : OpWord :=
  BitVec.ofNat 64 (c * 2 ^ 58 + a * 2 ^ 50 + b * 2 ^ 46 + d * 2 ^ 42 + (fs.map (fun x => x.2 * 2 ^ x.1)).sum)

/-- The binary32 value 1, and n lanes of one value as a beat. -/
def one32 : Nat := 0x3F800000
/-- A beat of eight equal lanes. -/
def beat8 (v : Nat) : Beat := BitVec.ofNat 256 (beatOf (List.replicate 8 v))

/-- Pasture 0 runs one operation word on tile 0 of engine 0, at fold 2^f, context c. -/
def tile1 (f : Nat) (w : OpWord) (qs : List (Nat × List QBeat)) (store : List (Nat × Beat)) : State :=
  put R.ENG_STATUS_QSTATE 0 2 (granting 0 0 [1]
    (holding 0 { im0 with engines := [{ engine := 0, quarters := 1, fold := f, ii := 1, stages := 1, slots := 4
                                        tiles := [{ addr := 0, cfg := { ctxs := [{ ops := [w], inBind := List.replicate 4 .entry }] } }] }], tables := [tab2] }
      (die (fun d => { d with tiles := [(0, { ctxs := [(0, { queues := qs })], store := store })] }) awake)))

/-- The beats of a list, in slot 1. -/
def beats (l : List Beat) : List QBeat := l.map (fun v => ⟨v, 1, false, true⟩)

/-- The operation at tile 0, context 0, place 0 of s fires with clean operands, under the further condition P. -/
def firesSound (s : State) (P : Nat → Bool) : Bool :=
  match s.die.fireOf 0 0 0 with
  | some x => wordCode x.F x.w == 0 && s.die.ready1 x && !(s.die.gateShut x) && opCtx x.w == 0 && s.die.ecc == [] && s.die.poison == []
      && (s.die.qa x ++ s.die.qb x).all (fun b => !b.poison && b.slot == s.die.slotIn x) && (x.need 1 == 0 || opQb x.w != opQa x.w) && P x.w
  | none => false

/-- A state that passes meets the premises of the statements on operations. -/
theorem firesSound_meets (s : State) (P : Nat → Bool) (h : firesSound s P = true) : ∃ x, s.fires x ∧ s.sound x ∧ P x.w = true := by
  unfold firesSound at h
  split at h
  case h_2 => simp at h
  case h_1 x hx =>
    simp only [Bool.and_eq_true, beq_iff_eq, Bool.not_eq_true', List.all_eq_true, bne_iff_ne, ne_eq, Bool.or_eq_true] at h
    obtain ⟨⟨⟨⟨⟨⟨⟨⟨h1, h2⟩, h3⟩, h4⟩, h5⟩, h6⟩, h7⟩, h8⟩, h9⟩ := h
    have hp : x.tile = 0 ∧ x.ctx = 0 ∧ x.op = 0 := by
      unfold Die.fireOf at hx
      dsimp only at hx
      repeat' split at hx
      all_goals first | cases hx; exact ⟨rfl, rfl, rfl⟩ | cases hx
    exact ⟨x, ⟨by omega, by omega, by rw [hp.1, hp.2.1, hp.2.2]; exact hx, h1, h2, h3, by rw [h4, hp.2.1]⟩,
      ⟨h5, h6, h7, fun hn => h8.resolve_left hn⟩, h9⟩

/-- The operation of a state fires, and the lane l of the first beat of QD, queue 4, is v afterwards. -/
def gives (c : Nat → Nat → Nat → Instr) (s : State) (P : Nat → Bool) (l v : Nat) : Bool :=
  firesSound s P && after (c 0 0 0) s (fun t => match t.die.queue 0 0 4 with | b :: _ => lane b.data.toNat l == v | [] => false)

/-- QA is queue 0, QB queue 1, QD queue 4. -/
def vec (c bs : Nat) (fs : List (Nat × Nat)) (a b : Nat) : State :=
  tile1 0 (op c 0 (if bs = 0 then 1 else 0) 4 ((37, bs) :: fs)) [(0, beats [beat8 a]), (1, beats [beat8 b])] [(3, beat8 0x40000000), (4, beat8 0x40400000)]

/-- QSEL of a word takes no operand from the word alone. -/
def any (_ : Nat) : Bool := true

theorem test_relu : gives .tRelu (vec 9 0 [(0, 0x3F000000)] 0xBF800000 0) any 7 0xBF000000 = true := by decide +kernel
theorem test_clampBeats : gives .tClamp (vec 10 1 [(0, 3)] one32 0) (fun w => fld w 38 37 == 1) 0 0x40000000 = true := by decide +kernel
theorem test_clampImm : gives .tClamp (vec 10 2 [(0, one32)] 0xC0000000 0) (fun w => fld w 38 37 == 2) 0 0xBF800000 = true := by decide +kernel
theorem test_addv : gives .tAddv (vec 11 0 [] one32 one32) any 3 0x40000000 = true := by decide +kernel
theorem test_mulvImm : gives .tMulv (vec 12 2 [(0, 0x40000000)] 0x40400000 0) any 0 0x40C00000 = true := by decide +kernel
theorem test_maxv : gives .tMaxv (vec 13 0 [] 0xBF800000 one32) any 0 one32 = true := by decide +kernel
theorem test_minv : gives .tMinv (vec 14 0 [] 0xBF800000 one32) any 0 0xBF800000 = true := by decide +kernel
theorem test_cmpv : gives .tCmpv (vec 15 0 [] one32 one32) any 0 one32 = true := by decide +kernel
theorem test_selv : gives .tSelv (tile1 0 (op 16 0 1 4 [(37, 1), (0, 3)]) [(0, beats [beat8 0]), (1, beats [beat8 one32])] [(3, beat8 7)]) any 0 0 = true
    ∧ gives .tSelv (tile1 0 (op 16 0 1 4 [(37, 1), (0, 3)]) [(0, beats [beat8 0]), (1, beats [beat8 one32])] [(3, beat8 one32)]) any 0 one32 = true := by
  decide +kernel
theorem test_act : firesSound (die (fun d => d.onCtx 0 0 (fun c => { c with tr := [(0, { bytes := [0, 9] })] }))
      (tile1 0 (op 8 0 0 4 [(38, 7), (34, 7), (28, 3)]) [(0, beats [1])] [])) (fun w => opc w == 8) = true
    ∧ gives .tAct (die (fun d => d.onCtx 0 0 (fun c => { c with tr := [(0, { bytes := [0, 9] })] }))
      (tile1 0 (op 8 0 0 4 [(38, 7), (34, 7), (28, 3)]) [(0, beats [1])] [])) any 0 9 = true := by decide +kernel
theorem test_normAffine : gives .tNormAffine (vec 17 1 [(0, 3)] one32 0) (fun w => fld w 36 34 == 0) 0 0xC0400000 = true := by decide +kernel
theorem test_normLayer : gives .tNormLayer (vec 17 2 [(34, 1), (0, 0x3F800000)] one32 0) (fun w => fld w 36 34 == 1) 0 0 = true := by decide +kernel
theorem test_argmax : gives .tArgmax (tile1 0 (op 18 0 0 4 []) [(0, beats [BitVec.ofNat 256 (beatOf [0, one32, one32, 0, 0, 0, 0, 0])])] []) any 1 1 = true := by
  decide +kernel
theorem test_tree : firesSound (tile1 0 (op 19 0 0 4 [(22, 3)]) [(0, beats [0])] []) (fun w => opc w == 19) = true := by decide +kernel
theorem test_leaf : firesSound (tile1 0 (op 20 0 0 4 [(5, 1), (16, 3)]) [(0, beats [0])] [(3, beat8 one32)]) (fun w => opc w == 20) = true
    ∧ gives .tLeaf (tile1 0 (op 20 0 0 4 [(5, 1), (16, 3)]) [(0, beats [0])] [(3, beat8 one32)]) any 0 one32 = true := by decide +kernel

/-- Thirty-two codes of 8 bits, all v. -/
def codes8 (v : Nat) : Beat := BitVec.ofNat 256 ((List.range 32).map (fun i => v * 2 ^ (8 * i))).sum

/-- The S of the first group-sum record in queue 4. -/
def firstSum (t : State) : Int := match t.die.queue 0 0 4 with | b :: _ => sext (bits b.data.toNat 0 48) 48 | [] => 0

/-- The state of a command's answer; the state before where it stops. -/
def ran (c : Instr) (s : State) : State := match exec c s with | .next t => t | _ => s

/-- An EXPAND of one INT8 beat for one DOT. -/
def expand1 : State := tile1 0 (op 4 0 0 0 [(38, 7)]) [(0, beats [codes8 3])] []

theorem test_expand : firesSound expand1 (fun w => opc w == 4) = true
    ∧ after (.tExpand 0 0 0) expand1 (fun t => (t.die.ctx 0 0).wptr == 1 && (KMap.get {} (t.die.ctx 0 0).bufs 0).left == 1
        && ((KMap.get {} (KMap.get {} (t.die.ctx 0 0).bufs 0).ents 0).ops.length == 32)) = true := by decide +kernel

/-- A DOT of 32 INT8 inputs, weights of 2, over the buffer that EXPAND filled with 3. -/
def dot1 : State :=
  die (fun d => d.onCtx 0 0 (fun _ => (ran (.tExpand 0 0 0) expand1).die.ctx 0 0))
    (tile1 0 (op 1 0 0 4 [(38, 7), (34, 7), (15, 4)]) [] [(4, codes8 2)])

theorem test_dot : firesSound dot1 (fun w => opc w == 1) = true ∧ after (.tDot 0 0 0) dot1 (fun t => firstSum t == 192 * 2 ^ 24) = true := by decide +kernel
theorem test_dota : firesSound (tile1 0 (op 2 0 0 4 [(38, 7), (34, 7), (15, 4)]) [(0, beats [0])] [(0, codes8 0xFF), (4, codes8 2)]) (fun w => opc w == 2) = true
    ∧ after (.tDota 0 0 0) (tile1 0 (op 2 0 0 4 [(38, 7), (34, 7), (15, 4)]) [(0, beats [0])] [(0, codes8 0xFF), (4, codes8 2)]) (fun t =>
        firstSum t == -64 * 2 ^ 24) = true := by decide +kernel
theorem test_dwc : firesSound (tile1 0 (op 3 0 0 4 [(38, 7), (34, 7), (16, 4)]) [(0, beats [0])] [(0, codes8 5), (4, codes8 2)]) (fun w => opc w == 3) = true
    ∧ after (.tDwc 0 0 0) (tile1 0 (op 3 0 0 4 [(38, 7), (34, 7), (16, 4)]) [(0, beats [0])] [(0, codes8 5), (4, codes8 2)]) (fun t =>
        firstSum t == 10 * 2 ^ 24) = true := by decide +kernel

/-- A SCALEG of one record S = 3, X = 0, with JT = 1 and the weight entry's multiplier 128 at exponent 0. -/
def scale1 : State := tile1 0 (op 5 0 0 4 [(6, 3)]) [(0, beats [3])] [(3, BitVec.ofNat 256 (2 ^ 16 + 2 ^ 32)), (6, 128)]

theorem test_scaleg : gives .tScaleg scale1 (fun w => opc w == 5) 0 0x37C00000 = true := by decide +kernel
theorem test_accf : gives .tAccf (tile1 0 (op 6 0 1 4 [(21, 1), (7, 3)]) [(0, beats [BitVec.ofNat 256 one32])] [(3, beat8 one32)]) (fun w => opc w == 6) 0 0x40000000 = true := by
  decide +kernel
theorem test_rq : gives .tRq (tile1 0 (op 7 0 0 4 [(38, 7), (20, 3)]) [(0, beats [beat8 0x40A00000])] [(3, beat8 0x000A0000)]) (fun w => opc w == 7) 0 0x0F0F0F0F = true := by
  decide +kernel

/-- A queue of one beat v that LAST ends, at queue q. -/
def at1 (q : Nat) (v : Nat) : Nat × List QBeat := (q, beats [BitVec.ofNat 256 v])

/-- The first beat of queue q of context c of tile 0. -/
def head (t : State) (c q : Nat) : Nat := match t.die.queue 0 c q with | b :: _ => b.data.toNat | [] => 0

theorem test_movq : firesSound (tile1 0 (op 21 0 0 4 []) [at1 0 9] []) (fun w => fld w 38 37 == 0) = true
    ∧ after (.tMovq 0 0 0) (tile1 0 (op 21 0 0 4 []) [at1 0 9] []) (fun t => head t 0 4 == 9) = true := by decide +kernel
theorem test_movqLoads : firesSound (tile1 0 (op 21 0 0 4 [(37, 2), (27, 3)]) [at1 0 9] [(3, 7)]) (fun w => fld w 38 37 == 2) = true
    ∧ after (.tMovq 0 0 0) (tile1 0 (op 21 0 0 4 [(37, 2), (27, 3)]) [at1 0 9] [(3, 7)]) (fun t => head t 0 4 == 7) = true := by decide +kernel
theorem test_movqStores : firesSound (tile1 0 (op 21 0 0 0 [(37, 1), (27, 1023)]) [at1 0 9] []) (fun w => fld w 38 37 == 1) = true
    ∧ after (.tMovq 0 0 0) (tile1 0 (op 21 0 0 0 [(37, 1), (27, 1023)]) [at1 0 9] []) (fun t => t.die.beat 0 1023 == 9) = true := by decide +kernel
theorem test_bcast : firesSound (tile1 0 (op 22 0 0 0 [(33, 3)]) [at1 0 9] []) (fun w => opc w == 22) = true
    ∧ after (.tBcast 0 0 0) (tile1 0 (op 22 0 0 0 [(33, 3)]) [at1 0 9] []) (fun t => head t 0 4 == 9 && head t 0 5 == 9 && head t 0 6 == 0) = true := by decide +kernel
theorem test_gather : firesSound (tile1 0 (op 23 0 1 4 [(39, 3), (19, 3)]) [at1 0 0x0B0A] [(3, 1)]) (fun w => opc w == 23) = true
    ∧ after (.tGather 0 0 0) (tile1 0 (op 23 0 1 4 [(39, 3), (19, 3)]) [at1 0 0x0B0A] [(3, 1)]) (fun t => head t 0 4 % 65536 == 0x0A0B) = true := by decide +kernel
theorem test_scatter : firesSound (tile1 0 (op 24 0 0 0 [(39, 5), (21, 8), (11, 3)]) [at1 0 0x0A] [(3, BitVec.ofNat 256 0x8000800080008000800080008000_0001)]) (fun w => opc w == 24) = true
    ∧ after (.tScatter 0 0 0) (tile1 0 (op 24 0 0 0 [(39, 5), (21, 8), (11, 3)]) [at1 0 0x0A] [(3, BitVec.ofNat 256 0x8000800080008000800080008000_0001)])
        (fun t => t.die.beat 0 8 == 0x0A * 2 ^ 32) = true := by decide +kernel
theorem test_shiftw : firesSound (tile1 0 (op 25 0 0 0 [(29, 8), (23, 1), (19, 1)]) [at1 0 9] []) (fun w => opc w == 25) = true
    ∧ after (.tShiftw 0 0 0) (tile1 0 (op 25 0 0 0 [(29, 8), (23, 1), (19, 1)]) [at1 0 9] []) (fun t => t.die.beat 0 9 == 9 && head t 0 4 == 1) = true := by
  decide +kernel
theorem test_pack : firesSound (tile1 0 (op 26 0 0 4 [(39, 1)]) [(0, beats [1, 2])] []) (fun w => opc w == 26) = true
    ∧ Nat.land 1 2 = 0 ∧ after (.tPack 0 0 0) (tile1 0 (op 26 0 0 4 [(39, 1)]) [(0, beats [1, 2])] []) (fun t => head t 0 4 == 3) = true := by decide +kernel
theorem test_unpack : gives .tUnpack (tile1 0 (op 27 0 0 4 [(38, 7)]) [at1 0 0xFF] []) (fun w => opc w == 27) 0 0xBF800000 = true := by decide +kernel

/-- A RING, or RING_LATE, of the row of the event in slot 1, over the Larder of tests above. -/
def ring1 (w : OpWord) (qs : List (Nat × List QBeat)) : State :=
  granting 0 8 [10, 0, 0, 0, 4, 0, 0, 0, 4, 0, 0, 0, 1] (die (fun d => { d with
    rows := [(12, 7)], dir := [((larder0.die.places 0 2 5 0 0).headD 0, some ⟨5, 2, 12⟩)]
    eng := [(0, { slots := [(1, { ev := { er := { key := 5 }, table := some 2, rowPtr := 12 } })] })] }) (tile1 0 w qs []))

theorem test_ring : firesSound (ring1 (op 28 0 0 4 [(39, 2)]) [at1 0 0]) (fun w => opc w == 28) = true
    ∧ after (.tRing 0 0 0) (ring1 (op 28 0 0 4 [(39, 2)]) [at1 0 0]) (fun t => head t 0 4 == 7) = true
    ∧ (ring1 (op 28 0 0 4 [(39, 2)]) [at1 0 0]).die.get R.DEV_TIMING_STATUS_MODE = 0
    ∧ after (.tRingLate 0 0 0) (ring1 (op 28 0 0 4 [(39, 2)]) [at1 0 0]) (fun t => head t 0 4 == 7 && t.die.tally T.FAB_RING_LATE 0 == 1) = true := by decide +kernel
theorem test_storek : firesSound (ring1 (op 29 0 0 0 [(39, 2)]) [at1 0 9]) (fun w => opc w == 29 && fld w 41 39 == 2) = true
    ∧ ((ring1 (op 29 0 0 0 [(39, 2)]) [at1 0 9]).die.dirFind ((ring1 (op 29 0 0 0 [(39, 2)]) [at1 0 9]).die.places 0 2 5 0 0) 2 5).map (fun y => y.2.ptr) = some 12
    ∧ after (.tStorek 0 0 0) (ring1 (op 29 0 0 0 [(39, 2)]) [at1 0 9]) (fun t => KMap.get 0 t.die.rows 12 == 9) = true := by decide +kernel
theorem test_fold : firesSound (tile1 1 (op 30 0 0 4 [(39, 1)]) [at1 0 9] []) (fun w => opc w == 30) = true
    ∧ after (.tFold 0 0 0) (tile1 1 (op 30 0 0 4 [(39, 1)]) [at1 0 9] []) (fun t => head t 1 4 == 9) = true := by decide +kernel
theorem test_barriers : firesSound (tile1 0 (op 31 0 1 4 []) [at1 0 9, at1 1 0] []) (fun w => fld w 41 40 == 0) = true
    ∧ after (.tBarrierJoin 0 0 0) (tile1 0 (op 31 0 1 4 []) [at1 0 9, at1 1 0] []) (fun t => head t 0 4 == 9 && t.die.queue 0 0 1 == []) = true
    ∧ after (.tBarrierEnter 0 0 0) (tile1 0 (op 31 0 0 4 [(40, 1)]) [at1 0 9] []) (fun t => head t 0 4 == 9) = true
    ∧ after (.tBarrierLeave 0 0 0) (tile1 0 (op 31 0 0 4 [(40, 2)]) [at1 0 9] []) (fun t => head t 0 4 == 9) = true
    ∧ firesSound (tile1 0 (op 31 0 0 4 [(40, 1)]) [at1 0 9] []) (fun w => fld w 41 40 == 1) = true
    ∧ firesSound (tile1 0 (op 31 0 0 4 [(40, 2)]) [at1 0 9] []) (fun w => fld w 41 40 == 2) = true := by decide +kernel

/-- NOP before a MOVQ that has begun an event. -/
def nop1 : State :=
  put R.ENG_STATUS_QSTATE 0 2 (granting 0 0 [1]
    (holding 0 { im0 with engines := [{ engine := 0, quarters := 1, fold := 0, ii := 1, stages := 1, slots := 4
                                        tiles := [{ addr := 0, cfg := { ctxs := [{ ops := [0, op 21 0 0 4 []] }] } }] }] }
      (die (fun d => { d with tiles := [(0, { ctxs := [(0, { fires := [(1, 1)] })] })] }) awake)))

theorem test_nop : firesSound nop1 (fun w => opc w == 0) = true ∧ after (.tNop 0 0 0) nop1 (fun t => t.die.fires 0 0 0 == 1) = true := by decide +kernel
theorem test_tileDigest : firesSound (tile1 0 (op 33 0 0 4 [(36, 1), (32, 5)]) [at1 0 9] []) (fun w => opc w == 33) = true
    ∧ after (.tDigest 0 0 0) (tile1 0 (op 33 0 0 4 [(36, 1), (32, 5)]) [at1 0 9] []) (fun t => head t 0 4 == 9
        && (KMap.get {} (t.die.tile 0).digests 0).d == mixBeat 0 9) = true := by decide +kernel
theorem test_step : firesSound (tile1 0 (op 34 0 0 0 []) [at1 0 9] []) (fun w => opc w == 34) = true
    ∧ after (.tStep 0 0 0) (tile1 0 (op 34 0 0 0 []) [at1 0 9] []) (fun t => (t.die.engPas 0 0).step == 1) = true
    ∧ after (.tStep 0 0 0) (tile1 0 (op 34 0 0 0 [(26, 1)]) [at1 0 9] []) (fun t => (t.die.engPas 0 0).step == 0) = true := by decide +kernel
theorem test_halt : firesSound (tile1 0 (op 35 0 0 0 []) [at1 0 9] []) (fun w => opc w == 35) = true ∧ lane 9 0 ≠ 0
    ∧ after (.tHalt 0 0 0) (tile1 0 (op 35 0 0 0 []) [at1 0 9] []) (fun t => t.die.on R.FAB_HALT_VALID 0 && KMap.get false t.die.closed 0) = true
    ∧ after (.tHalt 0 0 0) (tile1 0 (op 35 0 0 0 []) [at1 0 0] []) (fun t => t.die.closed == []) = true := by decide +kernel
theorem test_emit : firesSound (tile1 0 (op 32 0 0 4 [(41, 1), (35, 1), (23, 5)]) [at1 0 9] []) (fun w => opc w == 32 && bit w 41) = true
    ∧ after (.tEmit 0 0 0) (tile1 0 (op 32 0 0 4 [(41, 1), (35, 1), (23, 5)]) [at1 0 9] []) (fun t => t.die.tally T.FAB_DECISIONS 0 == 1) = true
    ∧ after (.tEmit 0 0 0) (tile1 0 (op 32 0 0 4 [(41, 1), (35, 1), (23, 5)]) [at1 0 0] []) (fun t => t.die.queue 0 0 4 == []) = true := by decide +kernel

/-- An event at the engine entry whose packet is one beat for queue 2 of tile 0. -/
def ev1 : Ev := { er := { evid := 3 }, packet := [(⟨0, 0, 2, []⟩, 9, false)] }

/-- Tile 0 runs a MOVQ; an event waits in `looked` and, if `here`, one at the entry of engine 0. -/
def entry1 (here : Bool) (flight : List Nat) : State :=
  die (fun d => { d with looked := [(0, [{ er := { evid := 4 } }])], entries := if here then [(0, [ev1])] else []
                         eng := [(0, { flight := flight, stepFires := 1 })] })
    (tile1 0 (op 21 2 0 4 []) [] [])

theorem test_assembly : after (.featureAssembly 0 []) (entry1 false []) (fun t => (KMap.get [] t.die.entries 0).map (fun v => v.er.evid) == [4]
      && t.die.looked == []) = true ∧ (entry1 false []).die.shedSet 0 = false := by decide +kernel
theorem test_assemblySheds : (put R.DEV_SHED_STATUS_LEVEL 0 1 (entry1 false [])).die.shedSet 0 = true
    ∧ after (.featureAssembly 0 []) (put R.DEV_SHED_STATUS_LEVEL 0 1 (entry1 false [])) (fun t => t.die.entries == [] && t.die.tally T.FAB_SHED 0 == 1) = true := by
  decide +kernel

/-- An update header of engine 0 whose labels have bit 0 of byte 24 set and name the event at byte 24, the targets at byte 32. -/
def hdr : UpdHdr :=
  { engine := 0, fbyte := 24, fmask := 2, lbyte := 24, lmask := 1, loff := 24, toff := 32, lag := 0, delay := 1, w := 100, flockByte := 0, points := []
    maxb := 4, wu := 10, seed := 0, ws := 1 }

theorem test_assemblyLabel : isLabel hdr ({ fields := [1] } : EvRec).bytes = true
    ∧ after (.featureAssembly 0 []) (holding 0 { im0 with upd := some hdr } (die (fun d => { d with looked := [(0, [{ er := { fields := [1] } }])] }) awake))
        (fun t => (t.die.updSt 0).labels.length == 1 && t.die.entries == []) = true := by decide +kernel
theorem test_entryAdmit : (entry1 true []).die.entryOpen 0 0 = true ∧ (entry1 true []).die.flipDue 0 0 0 = false ∧ (entry1 true []).die.updHolds 0 0 0 = false
    ∧ (entry1 true []).die.packetRoom 1 ev1.packet 0 = true
    ∧ after (.entryAdmit 0 0 false 0) (entry1 true []) (fun t => (t.die.engPas 0 0).flight == [0] && (t.die.engPas 0 0).next == 1
        && head t 0 2 == 9 && t.die.entries == []) = true := by decide +kernel
theorem test_slotWait : after (.entryAdmit 0 0 false 0) (entry1 true [0]) (fun t => t.die.tally T.FAB_SLOT_WAIT 0 == 1 && head t 0 2 == 0) = true := by
  decide +kernel
theorem test_entryWait : after (.entryWaitLimit 0 0) (entry1 true []) (fun t => t.die.entries == [] && t.die.tally T.FAB_ENTRY_DROP 0 == 1) = true
    ∧ after (.entryWaitLimit 0 0) (put R.FAB_REPLAY_ENABLE 0 1 (entry1 true [])) (fun t => (KMap.get [] t.die.entries 0).length == 1) = true := by decide +kernel

/-- Tile 23 with one context bound as given; output queue 8 holds a beat. -/
def outq (dsts : List QDst) : State :=
  put R.ENG_STATUS_QSTATE 0 2 (granting 0 0 [1]
    (holding 0 { im0 with engines := [{ engine := 0, quarters := 1, fold := 0, ii := 1, stages := 1, slots := 4
                                        tiles := [{ addr := 23, cfg := { ctxs := [{ ops := [0], inBind := [.loop 0 0], outBind := [dsts] }] } }] }] }
      (die (fun d => { d with tiles := [(23, { ctxs := [(0, { queues := [at1 8 9] })] })] }) awake)))

theorem test_oqSend : (match (outq [.loop 0 0, .exit]).die.fireOf 23 0 0 with
      | some x => x.reach (outq [.loop 0 0, .exit]).die 0 (.loop 0 0) == [(23, 0, 0)]
      | none => false) = true
    ∧ after (.oqBeatSend 23 0 0) (outq [.loop 0 0, .exit]) (fun t => (t.die.queue 23 0 0).map (fun b => b.data) == [9] && (t.die.engPas 0 0).exits.length == 1
        && t.die.queue 23 0 8 == []) = true := by
  decide +kernel

/-- A decision of pasture 0 at the exit of engine 0 with this action descriptor; pin 3 is granted. -/
def decided (desc : Nat) : State :=
  put R.PAS_MSG_CTL_ENABLE 0 1 (granting 0 28 [8] (holding 0 im0 (die (fun d => { d with
    eng := [(0, { exits := [⟨BitVec.ofNat 256 (desc * 2 ^ 192), false, 0, {}⟩] })] }) awake)))

theorem test_decisionHost : after (.decisionExit 0 0) (decided 4) (fun t => t.die.get R.PAS_MSG_HEAD_VALUE 0 == 1 && (t.die.engPas 0 0).exits == []) = true := by
  decide +kernel
theorem test_decisionTrig : (decided (1 + 3 * 8 + 5 * 128)).gate 0 = 0 ∧ bit (grantField ((decided 0).die.grant 0) 28 2) 3 = true
    ∧ after (.decisionExit 0 0) (decided (1 + 3 * 8 + 5 * 128)) (fun t => (KMap.get {} t.die.pins 3).high
        && t.die.emits.getLast? == some (.trig 3 true)) = true := by decide +kernel

theorem test_quiesce : adm (entry1 false []) .ENG 0 0x010 = true ∧ bitsOf 1 4 = [0]
    ∧ after (.engQuiesce .m1 0 0x101) (entry1 false []) (fun t => KMap.get false t.die.closed 0 && t.die.qstate 0 0 == 2) = true := by decide +kernel
theorem test_loadRefused : after (.engLoad .m1 0 0x201) (entry1 false []) (fun t => t.die.get R.ENG_STATUS_LOAD_RESULT 0 == 1 && t.die.loads == []) = true
    ∧ after (.engLoad .m1 0 0x202) (entry1 false []) (fun t => t.die.get R.ENG_STATUS_LOAD_RESULT 0 == 2 && t.die.loads == []) = true := by decide +kernel
theorem test_load : after (.engLoad .m1 0 0x211) (put R.ENG_STATUS_QSTATE 0 3 (entry1 false [])) (fun t => t.die.qstate 0 0 == 1
      && KMap.get (0, 0, 0) t.die.loads 0 == (1, 1, 0)) = true := by decide +kernel
theorem test_resume : after (.engResume .m1 0 0x401) (put R.ENG_STATUS_QSTATE 0 3 (entry1 false [])) (fun t => t.die.qstate 0 0 == 2) = true := by decide +kernel
theorem test_retireStage : adm awake .ENG 7 0x014 = true
    ∧ after (.retireStage .m1 7 0x80000F17) awake (fun t => t.die.staged == [(7, 15, 23)] && t.die.get R.ENG_STATUS_RETIRE_RESULT 7 == 0) = true
    ∧ after (.retireStage .m1 7 0x80000F18) awake (fun t => t.die.staged == [] && t.die.get R.ENG_STATUS_RETIRE_RESULT 7 == 2) = true
    ∧ after (.retireStage .m1 7 0x80000F17) (die (fun d => { d with spares := [(127, 5)] }) awake) (fun t => t.die.staged == []
        && t.die.get R.ENG_STATUS_RETIRE_RESULT 7 == 1) = true := by decide +kernel
theorem test_policy : adm awake .FAB 63 0x010 = true
    ∧ after (.policyWrite .m1 63 2) (holding 63 { im0 with shape := 1 } awake) (fun t => t.die.get R.FAB_BALANCE_POLICY 63 == 2) = true
    ∧ after (.policyWrite .m1 63 2) awake (fun t => t.die.get R.FAB_BALANCE_POLICY 63 == 0 && t.die.on R.FAB_STATUS_POLICY_REFUSED 63) = true
    ∧ after (.policyWrite .m1 63 3) awake (fun t => t.die.get R.FAB_BALANCE_POLICY 63 == 0 && t.die.on R.FAB_STATUS_POLICY_REFUSED 63) = true
    ∧ after (.policyWrite .m1 63 3) (holding 63 { im0 with shape := 1 } awake) (fun t => !(t.die.on R.FAB_STATUS_POLICY_REFUSED 63)) = true := by
  decide +kernel
theorem test_quiesceDone : after (.quiesceDone 0 0) (die (fun d => { d with closed := [(0, true)] }) (entry1 false [])) (fun t => t.die.qstate 0 0 == 3) = true := by
  decide +kernel

/-- Quarter 0 of engine 0 runs an image without tiles. -/
def bare : State :=
  put R.ENG_STATUS_QSTATE 0 2 (granting 0 0 [1]
    (holding 0 { im0 with engines := [{ engine := 0, quarters := 1, fold := 0, ii := 1, stages := 1, slots := 4 }] } awake))

theorem test_loadDone : after (.loadDone 0) (put R.ENG_STATUS_QSTATE 0 1 (die (fun d => { d with loads := [(0, 1, 0, 0)] }) bare)) (fun t =>
      t.die.qstate 0 0 == 3 && t.die.tally T.ENG_LOADS 0 == 1 && t.die.loads == []) = true := by decide +kernel
theorem test_stall : after (.stall 0 ⟨0, false⟩) (die (fun d => { d with eng := [(0, { flight := [0, 1] })] }) bare) (fun t => (t.die.engPas 0 0).flight == []
      && t.die.tally T.ENG_STALL 0 == 1 && t.die.tally T.ENG_STALL_DROP 0 == 2 && t.die.on R.SHD_STATUS_OBSERVED 0) = true := by decide +kernel
theorem test_badOpcode : tileEng 119 = 0 ∧ tileQ 119 = 0 ∧ 119 % 32 < 24
    ∧ after (.badOpcode 119 7 ⟨31, false⟩) bare (fun t => t.die.tally T.ENG_BAD_OPCODE 0 == 1 && t.die.on R.SHD_STATUS_OBSERVED 0) = true := by decide +kernel

/-- A calibratable tensor of one group. -/
def ten : Tensor := { id := 0, format := 7, zp := 0, mode := 0, h := 0, cb := 0, calibratable := 1, groups := 1, exps := [2] }

/-- Pasture 0 with that tensor, its page readable and writable. -/
def calSt (phase : Nat) (c : CalSt) : State :=
  put R.FAB_CAL_STATUS_PHASE 0 phase (die (Die.onPas 0 (fun q => { q with cal := c }))
    (holding 0 { im0 with tensors := [ten], engines := [{ engine := 0, quarters := 1, fold := 0, ii := 1, stages := 1, slots := 4 }] } bare))

theorem test_calStart : adm (calSt 0 {}) .FAB 0 0x020 = true ∧ (calSt 0 {}).die.calibratable 0 { im0 with tensors := [ten] } ten = true
    ∧ after (.calStart .m1 0 0x01000000) (calSt 0 {}) (fun t => t.die.get R.FAB_CAL_STATUS_PHASE 0 == 1 && (t.die.pasture 0).cal.tensors == [0]) = true
    ∧ after (.calStart .m1 0 0x01000009) (calSt 0 {}) (fun t => t.die.get R.FAB_CAL_STATUS_RESULT 0 == 6 && t.die.get R.FAB_CAL_STATUS_TENSOR 0 == 9) = true := by
  decide +kernel
theorem test_calAbort : after (.calAbort .m1 0 0x02000000) (calSt 1 {}) (fun t => t.die.get R.FAB_CAL_STATUS_RESULT 0 == 7
      && t.die.get R.FAB_CAL_STATUS_PHASE 0 == 0) = true := by decide +kernel
theorem test_calObserveEnd : (calSt 1 { tensors := [0], events := 1 }).die.eng = []
    ∧ after (.calObserveEnd 0) (calSt 1 { tensors := [0], events := 1 }) (fun t => t.die.get R.FAB_CAL_STATUS_PHASE 0 == 2) = true := by
  decide +kernel
theorem test_calVerifyEnd : (calSt 2 { tensors := [0], events := 1, proposal := [(0, some [5])] }).die.eng = []
    ∧ ((calSt 2 { tensors := [0], events := 1, proposal := [(0, some [5])] }).die.calCheck 0 { im0 with tensors := [ten] } 0).1 ≠ 0
    ∧ after (.calVerifyEnd 0) (calSt 2 { tensors := [0], events := 1, proposal := [(0, some [5])] }) (fun t => t.die.get R.FAB_CAL_STATUS_PHASE 0 == 0) = true := by
  decide +kernel
theorem test_scaleApply : adm (put ⟨0x380000, 0xF00, 1, 1, .ro, 0⟩ 0 1 (calSt 0 {})) .FAB 0 0x404 = true
    ∧ after (.scaleApply .m1 0 0x80000004) (put ⟨0x380000, 0xF00, 1, 1, .ro, 0⟩ 0 1 (calSt 0 {})) (fun t => t.die.get R.FAB_SCALE_NOW_APPLY_RESULT 0 == 1
        && (t.die.engPas 0 0).staticOf ten == ([4], 0)) = true := by decide +kernel
theorem test_stepCommit : (match (entry1 false []).die.image 0 with | some im => (engOf im 0).isSome | none => false) = true
    ∧ after (.stepCommit 0 0) (tile1 0 (op 34 0 0 0 []) [] []) (fun t => (t.die.engPas 0 0).commit == 1) = true := by decide +kernel

/-- Key slot 0 holds the P-384 base point, so r of the base point signs the digest 0. -/
def keyed (s : State) : State :=
  die (fun d => { d with otp := { d.otp with lifecycle := 1, keys := [(0, { x := g384.1, y := g384.2, programmed := true, image := true, pack := true })] } }) s

/-- An image of one engine, quarter 0, that every admission check passes: the tile of column 0 passes the entry's beats to that of column 23 by the row bus. -/
def im1 : Image :=
  { im0 with length := 640, digest := 0, sigR := g384.1 % n384, sigS := g384.1 % n384
             sections := [⟨1, 0, 0xFF, 128, 64, 0⟩, ⟨10, 0, 0xFF, 192, 64, 0⟩, ⟨2, 0, 0, 256, 64, 0⟩, ⟨3, 0, 0, 320, 64, 0⟩]
             engines := [{ engine := 0, quarters := 1, fold := 0, ii := 1, stages := 4, slots := 4
                           tiles := [{ addr := 0, cfg := { ctxs := [{ ops := [op 21 0 0 8 []], inBind := [.entry], outBind := [[.rowBus]] }] } },
                                     { addr := 23, cfg := { ctxs := [{ ops := [op 21 0 0 8 [(54, 1)]], inBind := [.rowBus 0], outBind := [[.exit]] }] } }] }]
             calendars := [{ engine := 0, isRow := true, index := 0, positions := [0] }], packet := [⟨0, 0, 0, []⟩] }

/-- Pasture 63 reads an image of 640 bytes. -/
def admitting : State :=
  put R.PAS_IMAGE_LEN_LENGTH 63 640 (put R.PAS_ADMIT_STATUS_BUSY 63 1 (put R.PAS_ADMIT_STATUS_STATE 63 1 (die (Die.onPas 63 (fun q => { q with reading := true })) (keyed (granting 63 0 [1] awake)))))

/-- Pasture 63 waits for the loads of that image. -/
def loadingIm : State := die (Die.onPas 63 (fun q => { q with image := some im1, going := true })) admitting

theorem test_verdict : AdmCtx.verdict ⟨admitting.fused, admitting.die, 63, im1, none⟩ = none := by decide +kernel
theorem test_verdictCodes : (AdmCtx.verdict ⟨admitting.fused, admitting.die, 63, { im1 with sigZero := 1 }, none⟩).map (fun v => v.1) = some 0x0104
    ∧ (AdmCtx.verdict ⟨admitting.fused, admitting.die, 63, { im1 with fMHz := 1100 }, none⟩).map (fun v => v.1) = some 0x0106
    ∧ (AdmCtx.verdict ⟨admitting.fused, awake.die, 63, { im1 with length := 640 }, none⟩).map (fun v => v.1) = some 0x0102 := by decide +kernel
theorem test_admit : adm awake .PAS 63 0x01C = true ∧ after (.admitImage .m1 63 5) awake (fun t => t.die.get R.PAS_ADMIT_STATUS_STATE 63 == 1
      && t.die.on R.PAS_ADMIT_STATUS_BUSY 63 && (t.die.pasture 63).reading && (t.die.pasture 63).replace) = true
    ∧ after (.admitImage .m1 63 1) (put R.PAS_ADMIT_STATUS_BUSY 63 1 awake) (fun t => t.die.get R.PAS_ADMIT_STATUS_STATE 63 == 0) = true := by decide +kernel
theorem test_imageUnread : (admitting.die.pasture 63).reading = true
    ∧ after (.admissionChecksDone 63 .failed) admitting (fun t => t.die.get R.PAS_ADMIT_STATUS_CODE 63 == 0x0103 && !(t.die.on R.PAS_ADMIT_STATUS_BUSY 63)
        && t.die.tally T.PAS_REFUSALS 63 == 1) = true := by decide +kernel
theorem test_imageRefused : after (.admissionChecksDone 63 (.image {})) admitting (fun t => t.die.get R.PAS_ADMIT_STATUS_CODE 63 == 0x0101
      && (t.die.pasture 63).image.isNone && t.die.tally T.PAS_REFUSALS 63 == 1) = true
    ∧ after (.admissionChecksDone 63 (.image {})) (die (fun d => { d with timingPending := some (0, 0) }) admitting) (fun t =>
        t.die.get R.PAS_ADMIT_STATUS_STATE 63 == 2 && (t.die.pasture 63).reading) = true := by decide +kernel

/-- An image without engines in bytes (R276 to R282): header, two sections, MANIFEST, an empty CERT, and r = s = its digest as the signature. -/
def imageBytes : List Byte :=
  let m := leBytes 4 0x4D534F52 ++ leBytes 2 1 ++ leBytes 2 2 ++ leBytes 4 1 ++ leBytes 4 384 ++ List.replicate 16 0
    ++ (leBytes 2 1 ++ [0, 0xFF] ++ leBytes 4 64 ++ leBytes 4 128 ++ leBytes 4 0) ++ (leBytes 2 10 ++ [0, 0xFF] ++ leBytes 4 192 ++ leBytes 4 64 ++ leBytes 4 0)
    ++ (leBytes 4 1 ++ [7, 0] ++ leBytes 2 1000 ++ List.replicate 120 0) ++ List.replicate 64 0
  let z := beBytes 48 (sha384 m)
  m ++ z ++ z ++ List.replicate 32 0

/-- Pasture 63 reads those bytes; key slot 0 holds the key that signs them. -/
def admittingBytes : State :=
  put R.PAS_IMAGE_LEN_LENGTH 63 384 (die (fun d => { d.hostWrite (vfFn 63) 0 imageBytes with
    otp := { d.otp with lifecycle := 1, keys := [(0, { x := 0x11eb1ce9e05e5160b3cc65177e5e6d79c3059f97c0d044de2a2957a350f6476b6cd1e84017df2b7b1f22e0dd260d6cc4, y := 0xfbb8d5f0476ca97f00a9f75f711a087452eb581fdb7747d4e0927e95adea74d3773fd646294ca13a48b4616438cc7126, programmed := true, image := true })] } }) admitting)

theorem test_imagePasses : after (.admissionChecksDone 63 (.image {})) admittingBytes (fun t => t.die.get R.PAS_ADMIT_STATUS_STATE 63 == 3
      && ((t.die.pasture 63).image.map (fun i => (i.imageId, i.fMHz, i.sections.length, i.engines.length))) == some (1, 1000, 2, 0)
      && !(t.die.pasture 63).adm && t.die.loadOrder.length == 1) = true := by decide +kernel
theorem test_imageServes : enginesOf im1 = [0] ∧ (loadingIm.die.sheep 0).muster = false
    ∧ after (.admissionLoadDone 63) loadingIm (fun t => (t.die.pasture 63).adm && t.die.get R.PAS_ADMIT_STATUS_STATE 63 == 4
        && t.die.get R.PAS_IMAGE_ID_IMAGE_ID 63 == 7 && t.die.qstate 0 0 == 2) = true := by decide +kernel

/-- Pasture 63 serves that image, with a steering entry and a waiting launch; `n` is the step of its withdrawal. -/
def serving (n : Nat) : State :=
  die (fun d => { (Die.onPas 63 (fun q => { q with image := some im1, adm := true, leaving := n })) d with
    steer := [(0, some { pasture := 63, entry := { index := 0, source := 0, program := 0 } })]
    launch := if n == 2 then [] else [(63 * 8, [{ pasture := 63, mode := 1 }])] }) (keyed awake)

theorem test_withdraw : (serving 0).die.admitted 63 = true ∧ after (.withdraw .m1 63 2) (serving 0) (fun t => t.die.get R.PAS_ADMIT_STATUS_STATE 63 == 5
      && (KMap.get none t.die.steer 0).isNone && (t.die.pasture 63).leaving == 1) = true
    ∧ awake.die.admitted 63 = false ∧ after (.withdraw .m1 63 2) awake (fun t => t.die.get R.PAS_ADMIT_STATUS_STATE 63 == 0) = true := by decide +kernel
theorem test_withdrawSlots : (serving 1).die.inFlight 63 = 0 ∧ after (.withdrawSlotsRetired 63) (serving 1) (fun t => (t.die.pasture 63).leaving == 2
      && KMap.get [] t.die.launch (63 * 8) == []) = true := by decide +kernel
theorem test_withdrawn : (serving 2).die.launchIdle 63 = true ∧ after (.withdrawQueuesEmpty 63) (serving 2) (fun t => (t.die.pasture 63).image.isNone
      && t.die.get R.PAS_ADMIT_STATUS_STATE 63 == 0) = true := by decide +kernel

/-- An UPDATE record: layer 0, INT8, one output of 32 inputs, weights at beat 4 of tile 0, bank 1 at beat 68. -/
def rec0 : UpdRec :=
  { layer := 0, opt := 0, tensor := 5, wfmt := 7, afmt := 7, ql := 0, j := 1, k := 32, g := 32, dotIdx := 0, nlr := 0xBF800000, b1 := 0x3F800000, c1 := 0
    b2 := 0, c2 := 0, eps := 0, tiles := [(0, 0, 4, 1, 0, 0)], boff := 64 }

/-- An operation of the update lane: opcode, SUB, UBA, UBB, UBD, NJ, NI, ADDR. -/
def uop (c sub a b d nj ni addr : Nat) : OpWord :=
  BitVec.ofNat 64 (c * 2 ^ 58 + sub * 2 ^ 40 + a * 2 ^ 38 + b * 2 ^ 36 + d * 2 ^ 34 + nj * 2 ^ 29 + ni * 2 ^ 21 + addr * 2 ^ 11)

/-- Pasture 0 runs an updatable image on engine 0: one DOT of the layer at tile 0, the lane's lists as given. -/
def updating (pairs flush opt : List OpWord) : State :=
  put R.ENG_STATUS_QSTATE 0 2 (put R.UPD_STATUS_STATE 0 1 (granting 0 4 [1] (granting 0 0 [1]
    (holding 0 { im0 with
        engines := [{ engine := 0, quarters := 1, fold := 0, ii := 1, stages := 1, slots := 4
                      tiles := [{ addr := 0, cfg := { ctxs := [{ ops := [op 1 0 0 4 [(38, 7), (34, 7), (15, 4)], op 34 0 0 0 []] }]
                                                      pairList := pairs, flushList := flush, optList := opt } }] }]
        upd := some hdr, updRecs := [rec0] } awake))))

/-- Its update unit's state. -/
def withUpd (u : UpdSt) (s : State) : State := die (fun d => { d with upd := [(0, u)] }) s

/-- An update in `phase`. -/
def inPhase (phase : Nat) (u : UpdSt) (s : State) : State := put R.UPD_STATUS_PHASE 0 phase (withUpd { u with run := some { committed := true, flip := 1, pairs := 1 } } s)

/-- A captured event of step 0, and its label. -/
def cap7 : CapRec := { evid := 7, beats := [], tags := [], poison := false, wb := 0, step := 0, fc := 500 }
/-- That event's label. -/
def lab7 : LabelMsg := { evid := 7, fc := 600, lanes := [1] }

theorem test_updCtx : ((updating [] [] []).die.updCtx 0).isSome = true := by decide +kernel
theorem test_labelMatch : after (.labelMatch 0) (withUpd { ring := [cap7], labels := [lab7] } (updating [] [] [])) (fun t =>
      (t.die.updSt 0).labels == [] && (t.die.updSt 0).ring == [{ cap7 with label := some [1] }]) = true
    ∧ after (.labelMatch 0) (withUpd { ring := [], labels := [lab7] } (updating [] [] [])) (fun t => t.die.tally T.UPD_LABEL_ORPHAN 0 == 1) = true := by
  decide +kernel
theorem test_capExpire : sdiff 64 (updating [] [] []).die.fc 500 = 999500
    ∧ after (.capExpire 0) (withUpd { ring := [cap7] } (updating [] [] [])) (fun t => (t.die.updSt 0).ring == [] && t.die.tally T.UPD_CAP_EXPIRE 0 == 1) = true := by
  decide +kernel
theorem test_batchClose : after (.batchClose 0) (die (fun d => { d with eng := [(0, { step := 1 })] })
      (withUpd { ring := [{ cap7 with evid := 9, label := some [] }, { cap7 with label := some [] }] } (updating [] [] []))) (fun t =>
        (t.die.updSt 0).queue == [(0, [7, 9])] && (t.die.updSt 0).openFrom == 1) = true
    ∧ after (.batchClose 0) (put R.UPD_CONTROL_PAUSE 0 1 (die (fun d => { d with eng := [(0, { step := 1 })] })
      (withUpd { ring := [cap7, { cap7 with label := some [] }] } (updating [] [] [])))) (fun t => (t.die.updSt 0).queue == [] && (t.die.updSt 0).ring == [cap7]
        && t.die.tally T.UPD_UPD_SKIPPED 0 == 1) = true := by decide +kernel
theorem test_updateBegin : after (.updateBegin 0) (withUpd { ring := [{ cap7 with label := some [1] }], queue := [(0, [7])] } (updating [uop 40 0 0 1 0 0 31 0] [] [])) (fun t =>
      t.die.get R.UPD_STATUS_PHASE 0 == 1 && t.die.get R.UPD_BATCH_PAIRS 0 == 1 && ((t.die.updSt 0).run.map (fun r => (r.step, r.pairs, r.flip))) == some (0, 1, 1)
        && (t.die.updSt 0).ring == []) = true := by decide +kernel
theorem test_reduceDone : after (.reduceDone 0) (inPhase 3 {} (updating [] [] [])) (fun t => t.die.get R.UPD_STATUS_PHASE 0 == 5) = true
    ∧ after (.reduceDone 0) (inPhase 3 {} (updating [] [] [uop 37 0 0 0 1 0 0 0])) (fun t => t.die.get R.UPD_STATUS_PHASE 0 == 4) = true := by decide +kernel
theorem test_swapPhase : after (.swapPhaseBegin 0) (inPhase 5 {} (updating [] [] [uop 39 0 0 0 0 0 0 4])) (fun t =>
      (t.die.updSt 0).pend.isNone && ((t.die.updSt 0).run.map (fun r => r.swapping)) == some true) = true
    ∧ after (.swapPhaseBegin 0) (inPhase 5 {} (updating [] [] [])) (fun t => (t.die.updSt 0).pend.isSome && t.die.get R.UPD_STATUS_PHASE 0 == 6) = true := by
  decide +kernel
theorem test_updateFlip : (match (updating [] [] []).die.updCtx 0 with | some x => stepN x.ei == some 1 | none => false) = true
    ∧ after (.updateFlip 0) (die (fun d => { d with eng := [(0, { index := 1 })] }) (withUpd { pend := some { flip := 1, wd := 77 } } (updating [] [] []))) (fun t =>
        (t.die.updSt 0).bank == 1 && t.die.get R.UPD_STATUS_BANK 0 == 1 && t.die.get R.UPD_WDIGEST_LO 0 == 77 && t.die.get R.UPD_FLIP_STEP_LO 0 == 1
          && t.die.tally T.UPD_UPDATES 0 == 1) = true
    ∧ after (.updateFlip 0) (withUpd { pend := some { flip := 1, wd := 77 } } (updating [] [] [])) (fun t => (t.die.updSt 0).bank == 0) = true := by decide +kernel
theorem test_export : adm (updating [] [] []) .UPD 0 0x010 = true
    ∧ after (.updExport .m1 0 3) (updating [] [] []) (fun t => t.die.on R.UPD_STATUS_EXPORT_BUSY 0 && t.die.get R.UPD_STATUS_STATE 0 == 2) = true
    ∧ after (.updExport .m1 0 2) (updating [] [] []) (fun t => t.die.get R.UPD_STATUS_EXPORT_RESULT 0 == 2) = true
    ∧ after (.exportDone 0 true) (put R.UPD_STATUS_EXPORT_BUSY 0 1 (withUpd { masters := [(1, 0x3F80)] } (updating [] [] []))) (fun t =>
        t.die.get R.UPD_STATUS_EXPORT_RESULT 0 == 1 && !(t.die.on R.UPD_STATUS_EXPORT_BUSY 0)) = true
    ∧ after (.exportDone 0 false) (put R.UPD_STATUS_EXPORT_BUSY 0 1 (updating [] [] [])) (fun t => t.die.get R.UPD_STATUS_EXPORT_RESULT 0 == 3) = true := by
  decide +kernel

/-- Tile 0's update buffers. -/
def withUbs (l : List (Nat × UbBeat)) (s : State) : State := die (Die.onTile 0 (fun z => { z with ubs := l })) s

/-- Command c runs operation 0 of its list as the lane's head, with no word in error, and the answer has P. -/
def lane0 (c : Instr) (s : State) (P : State → Bool) : Bool :=
  (match s.die.updCtx 0 with
    | some x => (s.die.laneHead x 0).isSome && x.tiles.contains 0
    | none => false) && s.die.ecc == [] && s.die.poison == [] && after c s P

/-- The same with beats in tile 0's store: the weights 2 at beat 4, the scale block of M = 128 at beat 3. -/
def weighted (l : List (Nat × UbBeat)) (s : State) : State :=
  die (Die.onTile 0 (fun z => { z with ubs := l, store := [(3, BitVec.ofNat 256 (2 ^ 16 + 2 ^ 32)), (4, codes8 2), (6, 128)] })) s

theorem test_gradDiff : lane0 (.uGradDiff 0 0) (withUbs [(0, { data := BitVec.ofNat 256 0x3F800000 }), (16, { data := BitVec.ofNat 256 0x40400000 })]
    (inPhase 1 {} (updating [uop 36 0 0 2 1 0 0 0, uop 40 0 1 0 0 0 31 0] [] []))) (fun t =>
      (t.die.ub 0 1 0).data == 0xF8 && (t.die.ub 0 1 0).t0 == -14 && (t.die.tile 0).lanePos == 1) = true := by decide +kernel
theorem test_gradBack : lane0 (.uGradBack 0 0) (weighted [(0, { data := 0x3C })] (inPhase 1 {} (updating [uop 36 1 0 2 1 0 31 3, uop 40 0 1 0 0 0 31 0] [] [])))
    (fun t => (t.die.ub 0 1 0).data == codes8 0x78 && (t.die.ub 0 1 0).t0 == -7) = true := by decide +kernel
theorem test_optm : lane0 (.uOptm 0 0) (withUbs [(0, { data := BitVec.ofNat 256 (1 + 0x4000 * 2 ^ 96) })]
    (inPhase 4 {} (updating [] [] [uop 37 0 0 0 1 0 0 0, uop 38 0 1 0 2 0 0 3]))) (fun t =>
      (t.die.ub 0 1 0).data == BitVec.ofNat 256 (1 + 0x3F80 * 2 ^ 96 + 0x38 * 2 ^ 112) && (t.die.ub 0 1 7).data == 0) = true := by decide +kernel
theorem test_laccAccum : lane0 (.uLaccAccum 0 0) (withUbs [(0, { data := 0x3C }), (8, { data := codes8 0xFD })]
    (inPhase 1 {} (updating [uop 40 0 0 1 0 0 31 8] [] []))) (fun t => KMap.get 0 (t.die.tile 0).acc 8 == -3 && KMap.get 0 (t.die.tile 0).acc 39 == -3
      && KMap.get 0 (t.die.tile 0).acc 40 == 0 && t.die.get R.UPD_STATUS_PHASE 0 == 3) = true := by decide +kernel
theorem test_laccFlush : lane0 (.uLaccFlush 0 0) (die (Die.onTile 0 (fun z => { z with acc := [(8, 5), (40, 6)] })) (inPhase 2 {} (updating [] [uop 40 1 0 0 0 0 31 8] [])))
    (fun t => KMap.get 0 (t.die.tile 0).acc 8 == 0 && KMap.get 0 (t.die.tile 0).acc 40 == 6 && KMap.get 0 (t.die.updSt 0).sums 0 == 5) = true := by decide +kernel
theorem test_srq : lane0 (.uSrq 0 0) (weighted [(0, { data := BitVec.ofNat 256 (0x4380 * 2 ^ 96 + 0x38 * 2 ^ 112) })]
    (inPhase 4 {} (updating [] [] [uop 38 0 0 0 2 0 0 3]))) (fun t => (t.die.tile 0).codes == (0, 2) :: List.replicate 15 (0, 0)
      && KMap.get 0 (t.die.updSt 0).masters 0 == 0x4380 && KMap.get (0, 0) (t.die.updSt 0).moments 0 == (0x38, 0)) = true := by decide +kernel
theorem test_swap : lane0 (.uSwap 0 0) (die (Die.onTile 0 (fun z => { z with codes := List.replicate 32 (0, 2) }))
    (withUpd { run := some { committed := true, flip := 1, swapping := true } } (put R.UPD_STATUS_PHASE 0 5 (updating [] [] [uop 39 0 0 0 0 0 0 4])))) (fun t =>
      t.die.beat 0 68 == (codes8 2).toNat && t.die.beat 0 4 == 0 && (t.die.updSt 0).pend.isSome) = true := by decide +kernel

theorem test_shedRaise : awake.die.estimate awake.fused [⟨0, 0, 0⟩, ⟨10 ^ 9, 0, 0⟩] > awake.die.cap * 1000
    ∧ after (.shedEvaluate [⟨0, 0, 0⟩, ⟨10 ^ 9, 0, 0⟩]) awake (fun t => t.die.get R.DEV_SHED_STATUS_LEVEL == 1 && t.die.get R.DEV_SHED_STATUS_PEAK == 1) = true := by
  decide +kernel
theorem test_shedLower : after (.shedEvaluate []) (put R.DEV_SHED_STATUS_LEVEL 0 5 (die (fun d => { d with shedLow := 63 }) awake)) (fun t =>
      t.die.get R.DEV_SHED_STATUS_LEVEL == 4 && t.die.shedLow == 0) = true
    ∧ after (.shedEvaluate []) (put R.DEV_SHED_STATUS_LEVEL 0 5 (die (fun d => { d with shedLow := 62 }) awake)) (fun t =>
      t.die.get R.DEV_SHED_STATUS_LEVEL == 5 && t.die.shedLow == 63) = true := by decide +kernel
theorem test_peakClear : adm awake .DEV 0 0x804 = true ∧ after (.peakClear .m1 0x80000000) (put R.DEV_SHED_STATUS_PEAK 0 9 (put R.DEV_SHED_STATUS_LEVEL 0 5 awake))
      (fun t => t.die.get R.DEV_SHED_STATUS_PEAK == 5) = true := by decide +kernel
theorem test_replayEnable : adm awake .FAB 63 0x030 = true
    ∧ after (.replayEnable .m1 63 1) awake (fun t => t.die.on R.FAB_REPLAY_ENABLE 63) = true
    ∧ after (.replayEnable .m1 0 1) (updating [] [] []) (fun t => !(t.die.on R.FAB_REPLAY_ENABLE 0) && t.die.on R.FAB_REPLAY_STATUS_REFUSED 0) = true := by
  decide +kernel
theorem test_replayClose : adm (put R.FAB_REPLAY_ENABLE 0 1 (updating [] [] [])) .FAB 0 0x030 = true
    ∧ after (.replayClose .m1 0 3) (put R.FAB_REPLAY_ENABLE 0 1 (updating [] [] [])) (fun t =>
      (t.die.updSt 0).openFrom == 1 && (t.die.updSt 0).queue == [(0, [])]) = true := by decide +kernel
theorem test_replayLimit : adm awake .FAB 63 0x038 = true
    ∧ after (.replayLimit .m1 63 true 0x12345678) awake (fun t => t.die.get R.FAB_REPLAY_LIMIT_HI 63 == 0x5678 && t.die.get R.FAB_REPLAY_LIMIT_LO 63 == 0) = true
    ∧ after (.replayLimit .m1 63 false 0x12345678) awake (fun t => t.die.get R.FAB_REPLAY_LIMIT_LO 63 == 0x12345678) = true := by decide +kernel

/-- TB n enabled, with SLEW 100 ppm and JUMP 10. -/
def tbOn (n : Nat) : State := put R.TB_CONTROL_ENABLE n 1 awake

theorem test_tbAdj : adm awake .TB 7 0x014 = true ∧ slewLimit (awake.die.get R.TB_CONTROL_SLEW 7) = 109951162
    ∧ after (.tbAdjWrite .m1 7 1000) (tbOn 7) (fun t => t.die.get R.TB_ADJ_ADJ 7 == 1000 && (t.die.tb 7).segs == [⟨1000000, 0, 1000, true⟩]) = true
    ∧ after (.tbAdjWrite .m1 7 0x80000000) (tbOn 7) (fun t => t.die.get R.TB_ADJ_ADJ 7 == 2 ^ 32 - 109951162 && t.die.on R.TB_STATUS_SLEW_CLAMPED 7
        && t.die.tally T.TB_SLEW_CLAMP 7 == 1) = true := by decide +kernel
theorem test_tbControl : adm awake .TB 1 0x010 = true
    ∧ after (.tbSlewWrite .m1 1 0x00201F43) awake (fun t => t.die.on R.TB_CONTROL_ENABLE 1 && t.die.on R.TB_STATUS_RUNNING 1 && t.die.on R.TB_CONTROL_AUTH 1
        && t.die.get R.TB_CONTROL_SLEW 1 == 500 && t.die.get R.TB_CONTROL_JUMP 1 == 0x20) = true
    ∧ after (.tbSlewWrite .m1 1 0x00001F51) awake (fun t => t.die.get R.TB_CONTROL_SLEW 1 == 100 && t.die.get R.TB_CONTROL_JUMP 1 == 10) = true := by decide +kernel
theorem test_tbStepOff : adm awake .TB 1 0x01C = true ∧ after (.tbStep .m1 1 0) (die (fun d => { d with tbs := [(1, { stepLo := 65536 })] }) awake) (fun t =>
      (t.die.tb 1).at t.die.fc == 2 ^ 40 && t.die.tally T.TB_STEPS 1 == 1) = true := by decide +kernel
theorem test_tbStepOn : after (.tbStep .m1 1 0) (die (fun d => { d with tbs := [(1, { stepLo := 65536000 })] }) (tbOn 1)) (fun t => (t.die.tb 1).steps == [65536000]) = true
    ∧ after (.tbStep .m1 1 0) (die (fun d => { d with tbs := [(1, { stepLo := 65536001 })] }) (tbOn 1)) (fun t => (t.die.tb 1).steps == []
        && t.die.on R.TB_STATUS_JUMP_REFUSED 1 && t.die.tally T.TB_JUMP_REFUSE 1 == 1) = true
    ∧ after (.tbStep .m1 1 0) (put R.TB_CONTROL_AUTH 1 1 (die (fun d => { d with tbs := [(1, { stepLo := 65536001 })] }) (tbOn 1))) (fun t =>
        (t.die.tb 1).steps == [65536001] && !(t.die.on R.TB_CONTROL_AUTH 1)) = true := by decide +kernel
theorem test_tbStepApply : after (.tbStepApply 1) (die (fun d => { d with tbs := [(1, { steps := [-65536, 131072], segs := [⟨0, 2 ^ 41, 0, true⟩] })] }) (tbOn 1)) (fun t =>
      (t.die.tb 1).steps == [] && t.die.tally T.TB_STEPS 1 == 2) = true := by decide +kernel
theorem test_syncPair : after .cellarSyncPair (cel (fun c => { c with tb0 := 5 * 2 ^ 40 }) awake) (fun t => t.die.pair == (1000000, 5)) = true := by decide +kernel

/-- The Cellar disciplined by PPS_IN (1) or with REF10M (2); TB0 at 3 s. -/
def pps (n : Nat) : State := cel (fun c => { c.put R.CEL_STATUS_SOURCE n with tb0 := 3 * 10 ^ 9 * 2 ^ 40 }) awake
/-- A capture o units of 2^-16 ns after the second of TB0. -/
def edge (o : Nat) : Capture := ⟨16000000, 3 * 10 ^ 9 * 65536 + o⟩

theorem test_ppsNoSource : after (.ppsEdge (edge 0) 0) (cel (fun c => { c with ppsFc16 := some 0 }) awake) (fun t => t.cel.ppsFc16 == some 16000000
      && t.cel.get R.CEL_STATUS_PPS_PRESENT == 0) = true
    ∧ after (.ppsEdge ⟨16 * (10 ^ 9 + 1000), 0⟩ 0) (cel (fun c => { c with ppsFc16 := some 0 }) awake) (fun t => t.cel.get R.CEL_STATUS_PPS_PRESENT == 1) = true := by
  decide +kernel
theorem test_ppsCorrects : ppsOffset ((pps 2).cel.capTb0 0 false (edge 65536)) = 65536 ∧ (pps 2).cel.full = false
    ∧ after (.ppsEdge (edge 65536) 77) (cel (fun c => c.put R.CEL_STATUS_REF10M_PRESENT 1) (pps 2)) (fun t => t.cel.freq == 77 && t.cel.oPrev == some 65536
        && t.cel.get R.CEL_STATUS_HOLDOVER == 0 && t.cel.adj0 == 77 - 137 && t.die.tally T.CEL_CORRECTIONS == 1) = true := by decide +kernel
theorem test_ppsRefused : ppsOffset ((pps 1).cel.capTb0 0 false (edge (1001 * 65536))) = 1001 * 65536
    ∧ after (.ppsEdge (edge (1001 * 65536)) 0) (pps 1) (fun t => t.cel.get R.CEL_STATUS_JUMP_REFUSED == 1 && t.cel.adj0 == 0
        && t.die.tally T.CEL_JUMP_REFUSE == 1) = true
    ∧ after (.ppsEdge (edge (1001 * 65536)) 0) (cel (fun c => c.put R.CEL_CONTROL_AUTH0 1) (pps 1)) (fun t => t.cel.get R.CEL_CONTROL_AUTH0 == 0
        && t.cel.tb0 == (3 * 10 ^ 9 - 1001) * 2 ^ 40) = true := by decide +kernel
theorem test_holdover : (cel (fun c => { c.put R.CEL_STATUS_HOLDOVER 0 with freq := 9 }) awake).cel.full = false
    ∧ after .tb0Holdover (cel (fun c => { c.put R.CEL_STATUS_HOLDOVER 0 with freq := 9 }) awake) (fun t => t.cel.adj0 == 9 && t.cel.get R.CEL_STATUS_HOLDOVER == 1
        && t.cel.celQ.length == 1) = true
    ∧ after .tb0Holdover (cel (fun c => { c.put R.CEL_STATUS_HOLDOVER 0 with celQ := List.replicate 32 ⟨[], 0⟩ }) awake) (fun t => t.cel.deferHold == [none]) = true := by
  decide +kernel
theorem test_deferred : (cel (fun c => { c.put R.CEL_STATUS_HOLDOVER 0 with celQ := List.replicate 32 ⟨[], 0⟩, deferHold := [none] }) (pps 1)).cel.holdNext = true
    ∧ after (.ppsEdge (edge 0) 0) (cel (fun c => { c.put R.CEL_STATUS_HOLDOVER 0 with celQ := List.replicate 32 ⟨[], 0⟩, deferHold := [none] }) (pps 1)) (fun t =>
        t.cel.deferHold == [none, some 0] && t.cel.get R.CEL_STATUS_HOLDOVER == 0) = true
    ∧ after .auditHash (cel (fun c => { (c.put R.CEL_STATUS_HOLDOVER 0).put R.CEL_AUDIT_CTL_LOG2SIZE 8 with freq := 9, celQ := List.replicate 32 ⟨[], 0⟩, deferHold := [none, some 7] }) awake)
        (fun t => t.cel.deferHold == [some 7] && t.cel.get R.CEL_STATUS_HOLDOVER == 1 && t.cel.adj0 == 9) = true := by decide +kernel
theorem test_presence : after .ppsAbsent (cel (fun c => c.put R.CEL_STATUS_PPS_PRESENT 1) awake) (fun t => t.cel.get R.CEL_STATUS_PPS_PRESENT == 0) = true
    ∧ after (.ref10mPresence true) awake (fun t => t.cel.get R.CEL_STATUS_REF10M_PRESENT == 1) = true := by decide +kernel

theorem test_select : adm awake .CEL 0 0x010 = true ∧ after (.sourceSelect .m1 0x1F74) awake (fun t => t.cel.get R.CEL_DISC_SOURCE == 4 && t.cel.get R.CEL_DISC_PORT == 7
      && t.cel.celQ.length == 1) = true
    ∧ after (.sourceSelect .m1 0x0F74) awake (fun t => t.cel.get R.CEL_DISC_SOURCE == 0 && t.cel.get R.CEL_STATUS_DISC_REFUSED == 1) = true
    ∧ after (.sourceSelect .m1 0x1F75) awake (fun t => t.cel.get R.CEL_DISC_SOURCE == 0 && t.cel.get R.CEL_STATUS_DISC_REFUSED == 0) = true := by decide +kernel
theorem test_celStep : adm awake .CEL 0 0x01C = true
    ∧ after (.celStep .m1 0) (cel (fun c => { c with stepLo := 65536000 }) awake) (fun t => t.cel.steps == [65536000] && t.cel.tb0 == 0) = true
    ∧ (match step (cel (fun c => { c with steps := [65536000] }) awake) with
        | .next t => t.cel.tb0 == 1001 * 2 ^ 40 && t.cel.celQ.length == 1 && t.cel.steps == [] | _ => false) = true
    ∧ after (.celStep .m1 0) (cel (fun c => { c with stepLo := 65536001 }) awake) (fun t => t.cel.tb0 == 0 && t.cel.get R.CEL_STATUS_JUMP_REFUSED == 1
        && t.die.tally T.CEL_JUMP_REFUSE == 1) = true := by decide +kernel
theorem test_ptpStale : adm awake .CEL 0 0x05C = true
    ∧ after (.ptpSubmit .m1 5) (cel (fun c => c.put R.CEL_STATUS_SOURCE 3) awake) (fun t => t.die.tally T.CEL_PTP_STALE == 1) = true := by decide +kernel
theorem test_ptpSubmits : after (.ptpSubmit .m1 0) (cel (fun c => { c.put R.CEL_STATUS_SOURCE 3 with
      ptpCaps := [(5, false, 131072 + 30 * 65536), (6, true, 0)], submit := [(5, 6 * 65536 + 5)] }) awake) (fun t => t.cel.oPrev == some (16 * 65536)) = true
    ∧ after (.ptpSubmit .m1 0) (cel (fun c => { c.put R.CEL_STATUS_SOURCE 4 with submit := [(6, 70000)] }) awake) (fun t => t.cel.oPrev == some 70000) = true := by decide +kernel
theorem test_ppsOut : after .ppsOutRise awake (fun t => t.cel.ppsOut && t.die.emits.getLast? == some (.pps true)) = true
    ∧ after .ppsOutFall (cel (fun c => { c with ppsOut := true }) awake) (fun t => !t.cel.ppsOut && t.die.emits.getLast? == some (.pps false)) = true := by decide +kernel

/-- A seal message of 64 bytes under a key chosen so that its digest z is both halves of a valid signature: the key is the point of x-coordinate z less the base
point. -/
def sealing (key : Nat × Nat) (dieId : Nat) (m : List Byte) (s : State) : State :=
  let z := beBytes 48 (sha384 m)
  die (fun d => { d with host := KMap.setRange 0 [] 0 (m ++ z ++ z) }) { s with fused := { s.fused with sealKey := key, dieId := dieId } }

/-- The sealed Cellar receives BREAK. -/
def breakMsg : State :=
  sealing (0x352a2fa2f32da61c796a9576b3d404f7b2e65862baf9f6673d3e96a9f4eeb788c99f1021f852b303aa142db8e427e78e,
    0xe9fb8d1f2ce59963346d84ba1380c99866d12ff639e5b74b67a860c5b6f6c813582c74317badfa678a0f1f03a21f1bfa) 2
    ([2, 0, 0, 0] ++ leBytes 8 2 ++ List.replicate 52 0) (cel (fun c => { c with sealed := true, sealRecord := c.settings.image }) awake)

theorem test_sealBreak : after (.sealGo .m1 2) breakMsg (fun t => t.cel.get R.CEL_STATUS_SEAL_RESULT == 1 && !t.cel.sealed && t.cel.breaks == 1) = true := by
  decide +kernel
theorem test_sealRefused : adm awake .CEL 0 0x020 = true ∧ after (.sealGo .m1 2) awake (fun t => t.cel.get R.CEL_STATUS_SEAL_RESULT == 2) = true := by decide +kernel
theorem test_calStartCellar : after (.cellarCalStart .m1 0x78) (cel (fun c => c.put R.CEL_STATUS_PPS_PRESENT 1) awake) (fun t => t.cel.get R.CEL_STATUS_CAL_BUSY == 1) = true
    ∧ after (.cellarCalStart .m1 0x78) awake (fun t => t.cel.get R.CEL_STATUS_CAL_RESULT == 2) = true
    ∧ after (.cellarCalStart .m1 0x78) (cel (fun c => { c with sealed := true }) awake) (fun t => t.cel.get R.CEL_STATUS_CAL_RESULT == 5) = true := by decide +kernel
/-- The calibration of a point has met 16 edges of PPS_IN, which is present. -/
def calRuns (point : Nat) : State :=
  cel (fun c => { ((c.put R.CEL_STATUS_CAL_BUSY 1).put R.CEL_CONTROL_CAL_POINT point).put R.CEL_STATUS_PPS_PRESENT 1 with calEdges := 16 }) awake

theorem test_calDone : after (.calDone ⟨List.replicate 16 (some 100)⟩) (calRuns 5) (fun t =>
      t.cel.get R.CEL_STATUS_CAL_RESULT == 1 && t.cel.get R.CEL_STATUS_CAL_BUSY == 0 && t.cel.delay 5 == 100) = true
    ∧ after (.calDone ⟨List.replicate 16 (some 100)⟩) (cel (fun c => c.put R.CAL_FIXTURE_VALUE 30) (calRuns 10)) (fun t => t.cel.delay 10 == 70) = true
    ∧ after (.ppsEdge (edge 0) 0) (cel (fun c => { (c.put R.CEL_STATUS_CAL_BUSY 1).put R.CEL_CONTROL_CAL_POINT 10 with ppsFc16 := some 0 }) awake) (fun t =>
      t.cel.calEdges == 1 && t.cel.calBad && t.die.emits == [.drive 10]) = true
    ∧ after (.calDone ⟨List.replicate 15 (some 100) ++ [some 32869]⟩) (calRuns 5) (fun t =>
      t.cel.get R.CEL_STATUS_CAL_RESULT == 4 && t.cel.delay 5 == 0) = true := by decide +kernel
theorem test_powerUp : after .cellarPowerUp (cel (fun c => { c with sealed := true, breaks := 3, powerUps := 7, tb0 := 99 }) awake) (fun t =>
      t.cel.up && t.cel.sealed && t.cel.breaks == 3 && t.cel.powerUps == 8 && t.cel.tb0 == 0 && t.cel.celQ.length == 1) = true := by decide +kernel
theorem test_auditHash : after .auditHash (cel (fun c => { c with celQ := [⟨List.replicate 32 1, 5⟩], launchQ := [⟨List.replicate 32 2, 5⟩] }) awake) (fun t =>
      t.cel.chain == 1 && t.cel.celQ == [] && t.cel.launchQ.length == 1 && t.die.tally T.CEL_AUDIT_RECORDS == 1) = true
    ∧ after .auditHash (cel (fun c => { c with celQ := [⟨List.replicate 32 1, 5⟩], launchQ := [⟨List.replicate 32 2, 4⟩] }) awake) (fun t =>
      t.cel.chain == 1 && t.cel.launchQ == [] && t.cel.celQ.length == 1) = true := by decide +kernel
theorem test_ckpt : 1 ≤ awake.cel.get R.CEL_AUDIT_CTL_LOG2SIZE ∧ after (.ckpt .m1 4) awake (fun t => t.cel.get R.CEL_AUDIT_HEAD_VALUE == 2 && t.cel.slots == []) = true := by
  decide +kernel

/-- Ethernet ports 3 and 15 up, granted to pasture 0, which has these launches in its queue 2. -/
def egress (l : List LaunchEnt) : State :=
  put R.ETH_STATUS_ACTIVE 3 1 (put R.ETH_STATUS_ACTIVE 15 1 (granting 0 32 [8, 0x80] (holding 0 im0 (die (fun d => { d with launch := [(2, l)] }) awake))))
/-- A launch of 64 bytes on port 3 with ALT 15, at once. -/
def ent3 : LaunchEnt := { pasture := 0, queue := 2, kind := 1, port := 3, alt := 15, bytes := List.replicate 64 0 }
/-- The earliest start on an Ethernet port. -/
def startAt : Nat := awake.die.now21 + awake.die.dtx 1 3

theorem test_frameStart : (egress [ent3]).die.portFree 1 3 startAt = true ∧ (egress [ent3]).die.ecc = [] ∧ (egress [ent3]).die.poison = []
    ∧ (egress [ent3]).die.readyFor 1 3 startAt = [(2, ent3)]
    ∧ after (.frameStart 1 3 startAt) (egress [ent3]) (fun t => (KMap.get {} t.die.ports 67).sched == some ent3 && (KMap.get [] t.die.launch 2).length == 1) = true
    ∧ after (.frameStart 1 15 startAt) (egress [{ ent3 with port := 4 }]) (fun t => (KMap.get {} t.die.ports 79).sched.isSome) = true := by decide +kernel
theorem test_frameStartNot : (egress [{ ent3 with mode := 2, target := 10 ^ 9 }]).die.readyFor 1 3 startAt = [] ∧ awake.die.portFree 1 3 startAt = false
    ∧ after (.frameStart 1 3 startAt) (egress [{ ent3 with mode := 2, target := 10 ^ 9 }]) (fun t => (KMap.get {} t.die.ports 67).sched.isNone
        && (KMap.get [] t.die.launch 2).length == 1) = true := by decide +kernel

/-- That launch chosen for its start on port 3 (67 of the ports). -/
def chosen (e : LaunchEnt) : State := die (fun d => { d with ports := [(67, { sched := some e, start := startAt })] }) { egress [e] with kill := { blocked := false, running := true } }

theorem test_launchCommit : (chosen ent3).die.mayLaunch 0 1 3 = true ∧ (chosen ent3).gateBlocks = false ∧ (chosen ent3).die.haltBlocks 0 = false
    ∧ (chosen ent3).die.onTime ent3 ((chosen ent3).die.wordUnits 1 3) startAt = true
    ∧ after (.launchCommit 1 3) (chosen ent3) (fun t => (KMap.get {} t.die.ports 67).line == [⟨ent3, startAt⟩]
        && t.die.lineFree 1 3 == startAt + 11 * (chosen ent3).die.wordUnits 1 3 && (KMap.get [] t.die.launch 2).length == 1) = true
    ∧ after (.launchCommit 1 3) (put R.ETH_STATUS_ACTIVE 3 0 (chosen ent3)) (fun t => (KMap.get {} t.die.ports 67).sched.isNone && (KMap.get [] t.die.launch 2).length == 1) = true := by decide +kernel
theorem test_launchLate : (chosen { ent3 with mode := 2, target := 5 }).die.onTime { ent3 with mode := 2, target := 5 } 1 startAt = false
    ∧ after (.launchCommit 1 3) (chosen { ent3 with mode := 2, target := 5 }) (fun t => t.die.tally T.EGR_LATE_DROP 0 == 1 && (KMap.get {} t.die.ports 67).sched.isNone && KMap.get [] t.die.launch 2 == []) = true
    ∧ after (.launchCommit 1 3) (put R.EGR_QUEUE_LATE_SEND 0 4 (chosen { ent3 with mode := 2, target := 5 })) (fun t => t.die.tally T.EGR_LATE_SENT 0 == 1
        && (KMap.get {} t.die.ports 67).line.length == 1) = true := by decide +kernel
theorem test_launchDrops : (granting 0 32 [0] (chosen ent3)).die.mayLaunch 0 1 3 = false
    ∧ after (.launchCommit 1 3) (granting 0 32 [0] (chosen ent3)) (fun t => t.die.tally (T.OWN_VIOLATION 0) 0 == 1) = true
    ∧ after (.launchCommit 1 3) { chosen ent3 with kill := { blocked := true } } (fun t => t.die.tally T.EGR_KILL_DROP 0 == 1) = true
    ∧ (chosen { ent3 with agreed := true }).die.agrees = false
    ∧ after (.launchCommit 1 3) (chosen { ent3 with agreed := true }) (fun t => t.die.tally T.FLK_AGREE_REFUSE 0 == 1) = true := by decide +kernel
/-- That launch committed on port 3. -/
def onLine3 (e : LaunchEnt) : State := die (fun d => { d with ports := [(67, { line := [⟨e, startAt⟩] })] }) (egress [e])
/-- A capture. -/
def cap0 : Capture := ⟨16000000, 0⟩

theorem test_firstBit : after (.launchFirstBit 1 3 ⟨cap0, 0⟩) (onLine3 ent3) (fun t =>
      (KMap.get {} t.die.ports 67).line == [] && KMap.get [] t.die.launch 2 == [] && t.die.tally T.EGR_LAUNCHES 0 == 1 && t.die.emits == [.frame 3 (ethLine ent3.bytes)]) = true
    ∧ after (.launchFirstBit 1 3 ⟨cap0, 0⟩) (put R.ETH_STATUS_ACTIVE 3 0 (onLine3 ent3)) (fun t => (KMap.get {} t.die.ports 67).line == []
        && (KMap.get [] t.die.launch 2).length == 1 && t.die.emits == []) = true := by decide +kernel
theorem test_firstBitAudited : after (.launchFirstBit 1 3 ⟨cap0, 0⟩) (cel (fun c => { c with reserved := 1 })
      (onLine3 { ent3 with audited := true })) (fun t =>
      t.cel.launchQ.length == 1 && t.cel.reserved == 0) = true := by decide +kernel
theorem test_portDown : awake.die.routeOf ent3 = none
    ∧ after (.portDown 0 2) (die (fun d => { d with launch := [(2, [ent3])] }) awake) (fun t => KMap.get [] t.die.launch 2 == [] && t.die.tally T.EGR_PORT_DOWN 0 == 1) = true := by
  decide +kernel

/-- The owner's PTP transmit ring of port 3 holds one slot of n bytes with tag 0x1234. -/
def ptpRing (n : Nat) : State :=
  put R.ETH_PTPTX_CTL_ENABLE 3 1 (put R.ETH_PTPTX_HEAD_VALUE 3 1 (die (Die.hostWrite 0 0 (leBytes 2 n ++ [0x34, 0x12])) (egress [])))

theorem test_ptpTx : (ptpRing 60).die.readyFor 1 3 ((ptpRing 60).die.now21 + (ptpRing 60).die.dtx 1 3) = []
    ∧ after (.ptpTx 3 ⟨16000000, 0⟩) (ptpRing 60) (fun t => t.die.get R.ETH_PTPTX_TAIL_VALUE 3 == 1 && (KMap.get [] t.die.txts 3).map (fun x => slice x 0 2) == [[0x34, 0x12]]
        && t.die.emits == [.frame 3 (ethLine (List.replicate 60 0))]) = true
    ∧ after (.ptpTx 3 ⟨16000000, 0⟩) (ptpRing 59) (fun t => t.die.get R.ETH_PTPTX_TAIL_VALUE 3 == 1 && t.die.tally T.ETH_PTP_TX_BAD 3 == 1 && t.die.txts == []) = true := by
  decide +kernel
theorem test_txtsRead : awake.die.pathUp .m1 = true ∧ awake.die.answers .m1 .ETH = true
    ∧ after (.txtsRead .m1 3) (die (fun d => { d with txts := [(3, [[1, 2, 3, 4, 5], [6]])] }) awake) (fun t => KMap.get [] t.die.txts 3 == [[6]]
        && t.die.readData == 0x04030201) = true := by decide +kernel
theorem test_pulseEnd : after (.trigPulseEnd 15) (die (fun d => { d with pins := [(15, { high := true })] }) awake) (fun t => !(KMap.get {} t.die.pins 15).high
      && t.die.emits.getLast? == some (.trig 15 false)) = true := by decide +kernel
theorem test_firstBitTrig : after (.launchFirstBit 0 15 ⟨cap0, 0⟩) (die (fun d => { d with pins := [(15, { high := true, edges := [{}] })] }) awake) (fun t =>
      (KMap.get {} t.die.pins 15).edges == [] && (KMap.get {} t.die.pins 15).high) = true := by decide +kernel
theorem test_msix : after (.msixDecFire 63) (put R.PAS_RING_STATUS_DEC_ARMED 63 1 (put R.PAS_MSIX_DEC_EN 63 1 (put R.PAS_MSG_HEAD_VALUE 63 1 awake))) (fun t =>
      t.die.emits.getLast? == some (.msix 63 0) && !(t.die.on R.PAS_RING_STATUS_DEC_ARMED 63)) = true := by decide +kernel
theorem test_msgTail : adm awake .PAS 63 0x04C = true
    ∧ after (.msgTailWrite .m1 63 5) (put R.PAS_MSG_HEAD_VALUE 63 7 awake) (fun t => t.die.get R.PAS_MSG_TAIL_VALUE 63 == 5 && t.die.on R.PAS_RING_STATUS_DEC_ARMED 63) = true
    ∧ after (.msgTailWrite .m1 63 8) (put R.PAS_MSG_HEAD_VALUE 63 7 awake) (fun t => t.die.get R.PAS_MSG_TAIL_VALUE 63 == 0) = true := by decide +kernel
theorem test_alive : after .aliveToggle awake (fun t => t.die.alive && t.die.emits.getLast? == some (.alive true)) = true := by decide +kernel

/-- Lane 63 in a state with these contents, at rate 1. -/
def lane63 (st : Nat) (y : Lane) : State :=
  put R.LNK_CONTROL_ENABLE 63 1 (put R.LNK_STATUS_RATE 63 1 (put R.LNK_STATUS_STATE 63 st (die (fun d => { d with lanes := [(63, y)] }) awake)))
/-- Command c leaves lane 63 in that state with P of the die. -/
def lane_ (c : Instr) (s : State) (st : Nat) (P : Die → Bool) : Bool := after c s (fun t => t.die.laneState 63 == st && P t.die)
/-- These symbols on the line, from negative running disparity on. -/
def onLine (syms : List Sym) : LineWords := ⟨false, packWords (encodeSyms false syms).1⟩
/-- A training set with one of its CRC bytes changed. -/
def badSet (body : List Byte) : LineWords := onLine ((trainingSyms body).take 15 ++ [.data 0])
/-- A good TS1 at rate 1. -/
def ts1g (locked : Bool) : LineWords := onLine (trainingSyms ([0x31, 1, if locked then 1 else 0, 9] ++ List.replicate 8 0))
/-- A good TS2 at rate 1 of lane 9, role 2, classes 3, device 77. -/
def ts2g (done : Bool) : Ts2Line :=
  ⟨onLine (trainingSyms ([0x32, 1, if done then 1 else 0, 9, 2, 3, 0x3F] ++ leBytes 8 77 ++ List.replicate 29 0)), 0⟩

theorem test_detect : lane_ (.receiverDetect 63) (lane63 1 {}) 2 (fun d => d.get R.LNK_STATUS_RATE 63 == 1) = true
    ∧ lane_ (.receiverDetect 63) (lane63 1 { attempts := 18 }) 5 (fun _ => true) = true ∧ (lane63 1 { attempts := 15 }).die.attemptRate 63 = 6
    ∧ lane_ (.receiverDetect 63) (lane63 1 { attempts := 15 }) 2 (fun d => d.get R.LNK_STATUS_RATE 63 == 6) = true := by decide +kernel
theorem test_ts1 : lane_ (.ts1 63 (ts1g true)) (lane63 2 { ts1Run := 7, ts1Locked := 6, ts1Sent := 16 }) 2 (fun d => (d.lane 63).locked) = true
    ∧ lane_ (.ts1 63 (ts1g true)) (lane63 2 { ts1Run := 7, ts1Locked := 7, ts1Sent := 16 }) 3 (fun _ => true) = true
    ∧ lane_ (.ts1 63 (ts1g true)) (lane63 2 { ts1Locked := 7, ts1Sent := 15 }) 2 (fun _ => true) = true := by decide +kernel
theorem test_ts1Later : lane_ (.ts1 63 (ts1g false)) (lane63 3 { ts1Run := 3 }) 2 (fun _ => true) = true
    ∧ lane_ (.ts1 63 (ts1g false)) (lane63 4 { ts1Run := 3 }) 2 (fun d => d.tally T.LNK_RETRAINS 63 == 1) = true
    ∧ lane_ (.ts1 63 (badSet ([0x31, 1, 1] ++ List.replicate 9 0))) (lane63 2 { ts1Run := 3, ts1Locked := 3 }) 2 (fun d => (d.lane 63).ts1Locked == 0 && d.tally T.LNK_CRC_ERR 63 == 1) = true := by
  decide +kernel
theorem test_ts2 : lane_ (.ts2 63 (ts2g false)) (lane63 2 { ts1Sent := 16 }) 3 (fun d => (d.lane 63).sawTs2) = true
    ∧ lane_ (.ts2 63 (ts2g true)) (lane63 3 { doneSent := 4, doneRun := 1 }) 4 (fun d => d.get R.LNK_STATUS_CLASSES 63 == 3 && d.get R.LNK_STATUS_PARTNER_LANE 63 == 9
        && d.pair64 R.LNK_PARTNER_ID_LO R.LNK_PARTNER_ID_HI 63 == 77) = true
    ∧ lane_ (.ts2 63 (ts2g true)) (lane63 3 { doneSent := 4 }) 3 (fun _ => true) = true := by decide +kernel
theorem test_trainSent : lane_ (.trainingSetSent 63 cap0) (lane63 2 { locked := true, ts1Locked := 8, ts1Sent := 15 }) 3 (fun _ => true) = true
    ∧ lane_ (.trainingSetSent 63 cap0) (lane63 3 { ts2Seq := 255, done := true, doneSent := 2 }) 3 (fun d => (d.lane 63).ts2Seq == 0 && (d.lane 63).doneSent == 3
        && (d.lane 63).ts2Tx.contains (255, 16000000)) = true
    ∧ lane_ (.trainingSetSent 63 cap0) (lane63 3 { done := true, doneSent := 3, doneRun := 2 }) 4 (fun _ => true) = true := by decide +kernel
theorem test_idle : lane_ (.idleWord ⟨63, onLine idleWord⟩) (lane63 3 { gotDone := true, attempts := 4 }) 4 (fun d => (d.lane 63).attempts == 0) = true
    ∧ lane_ (.idleWord ⟨63, onLine idleWord⟩) (lane63 3 { ts1Run := 2 }) 3 (fun d => (d.lane 63).ts1Run == 0) = true := by decide +kernel
theorem test_trainTimeouts : lane_ (.train1Timeout 63) (lane63 2 {}) 1 (fun d => (d.lane 63).attempts == 1 && d.tally T.LNK_ATTEMPT_FAIL 63 == 1) = true
    ∧ lane_ (.train2Timeout 63) (lane63 3 { attempts := 17 }) 5 (fun _ => true) = true
    ∧ lane_ (.linkAbsentTimeout 63) (lane63 5 { attempts := 18 }) 1 (fun d => (d.lane 63).attempts == 0) = true := by decide +kernel
theorem test_alignLoss : lane_ (.alignLoss 63) (lane63 4 {}) 2 (fun d => d.tally T.LNK_ALIGN_LOSS 63 == 1 && d.tally T.LNK_RETRAINS 63 == 1) = true
    ∧ lane_ (.alignLoss 63) (lane63 4 { b := { waits := [[1]] } }) 4 (fun d => d.on R.LNK_STATUS_DEFER 63 && d.tally T.LNK_DEFERRED 63 == 1) = true
    ∧ lane_ (.alignLoss 63) (lane63 3 {}) 3 (fun d => d.tally T.LNK_ALIGN_LOSS 63 == 1) = true := by decide +kernel
theorem test_los : lane_ (.los 63) (lane63 0 {}) 0 (fun d => d.tallies == []) = true ∧ lane_ (.los 63) (lane63 2 {}) 1 (fun d => d.tally T.LNK_ATTEMPT_FAIL 63 == 1) = true
    ∧ lane_ (.los 63) (lane63 7 { attempts := 2 }) 1 (fun d => d.tally T.LNK_LOS 63 == 1 && (d.lane 63).attempts == 2) = true := by decide +kernel
theorem test_retrain : lane_ (.errorWindow 63) (lane63 4 { errors := 9 }) 4 (fun d => (d.lane 63).errors == 0) = true
    ∧ lane_ (.retrain 63 1) (lane63 4 {}) 2 (fun d => d.tally T.LNK_RETRAINS 63 == 1) = true ∧ lane_ (.retrain 63 1) (lane63 3 {}) 3 (fun _ => true) = true
    ∧ lane_ (.retrainDeferTimeout 63) (put R.LNK_STATUS_DEFER 63 1 (lane63 4 { b := { waits := [[1]] } })) 2 (fun d => !(d.on R.LNK_STATUS_DEFER 63)) = true := by
  decide +kernel
theorem test_lnkControl : adm awake .LNK 63 0x010 = true ∧ (lane63 4 {}).die.certified 2 63 = false
    ∧ lane_ (.lnkControl .m1 63 0x7610) (lane63 4 {}) 0 (fun d => !(d.on R.LNK_CONTROL_ENABLE 63)) = true
    ∧ lane_ (.lnkControl .m1 63 0x7611) (put R.LNK_CONTROL_ENABLE 63 0 (lane63 0 {})) 1 (fun d => d.on R.LNK_CONTROL_ENABLE 63) = true
    ∧ lane_ (.lnkControl .m1 63 0x7613) (lane63 4 {}) 1 (fun d => d.on R.LNK_CONTROL_MODE 63) = true := by decide +kernel
theorem test_lnkCertified : after (.lnkControl .m1 63 0x7613) (holding 0 { im0 with cert := [⟨63, 0, 1, 2, 5, [], 0, []⟩] } (lane63 4 {})) (fun t =>
      !(t.die.on R.LNK_CONTROL_MODE 63) && t.die.on R.LNK_STATUS_CFG_REFUSED 63) = true := by decide +kernel

/-- A frame on a lane. -/
def lframe (h1 h2 : Byte) (pay : List Byte) : LinkFrame := ⟨onLine (frameSyms h1 h2 pay), cap0⟩
/-- Lane 63 ACTIVE with all classes. -/
def act63 (y : Lane) : State := put R.LNK_STATUS_CLASSES 63 7 (lane63 4 y)
/-- A listed message of class R in epoch 0. -/
def msgR : List Byte := [1, 0, 0, 0]

theorem test_relDeliver : ((act63 {}).die.checkFrame 63 (lframe 0x40 0 msgR)).1 = true ∧ msgListed 1 1 = true
    ∧ lane_ (.reliableFrameRx 63 (lframe 0x40 0 msgR)) (act63 {}) 4 (fun d => (d.lane 63).r.exp == 1 && (d.lane 63).r.buf == [msgR]
        && d.emits == [.line 63 800000 (onLine (controlSyms false 1 0)).words]) = true
    ∧ lane_ (.reliableFrameRx 63 (lframe 0x4F 0xFF [0, 0, 0, 0])) (act63 { r := { exp := 4095 } }) 4 (fun d => (d.lane 63).r.exp == 0 && (d.lane 63).r.buf == []
        && d.tally T.FLK_MSG_BAD 0 == 1) = true := by decide +kernel
theorem test_relOther : lane_ (.reliableFrameRx 63 (lframe 0x40 0 msgR)) (act63 { r := { buf := List.replicate 64 msgR } }) 4 (fun d => d.tally T.LNK_R_BUSY 63 == 1) = true
    ∧ lane_ (.reliableFrameRx 63 (lframe 0x4F 0xFF msgR)) (act63 {}) 4 (fun d => d.tally T.LNK_DUP 63 == 1 && d.emits == [.line 63 800000 (onLine (controlSyms false 1 4095)).words]) = true
    ∧ lane_ (.reliableFrameRx 63 (lframe 0x80 1 [9, 0, 0, 0])) (act63 {}) 4 (fun d => d.tally T.LNK_SEQ_GAP 63 == 1 && (d.lane 63).b.naked
        && d.emits == [.line 63 800000 (onLine (controlSyms true 2 0)).words]) = true
    ∧ lane_ (.reliableFrameRx 63 (lframe 0x80 1 [9, 0, 0, 0])) (act63 { b := { naked := true } }) 4 (fun d => d.tally T.LNK_NAKS_SENT 63 == 0) = true := by decide +kernel
theorem test_ack : lfAcls (lframe 0xC0 5 []) = 1
    ∧ lane_ (.ack 63 (lframe 0xC0 5 [])) (act63 { r := { out := [(4, [1]), (5, [2]), (6, [3])] } }) 4 (fun d => (d.lane 63).r.out == [(6, [3])]) = true
    ∧ lane_ (.ack 63 (lframe 0xC0 7 [])) (act63 { r := { out := [(4, [1])] } }) 4 (fun d => (d.lane 63).r.out == [(4, [1])]) = true := by decide +kernel
theorem test_nak : lane_ (.nak 63 (lframe 0xD0 5 [])) (act63 { r := { out := [(4, [1]), (5, [2]), (6, [3])] } }) 4 (fun d =>
      d.emits == [.line 63 800000 (onLine (relSyms 1 5 [2])).words] && (d.lane 63).r.resend == [(6, [3])]) = true
    ∧ lane_ (.nak 63 (lframe 0xD0 7 [])) (act63 { r := { out := [(4, [1])] } }) 4 (fun d => d.emits == []) = true := by decide +kernel
theorem test_replay : lane_ (.replayTimer 63 1) (act63 { r := { out := [(4, [1])] } }) 4 (fun d => d.tally T.LNK_REPLAYS 63 == 1 && (d.lane 63).r.expiries == 1) = true
    ∧ lane_ (.replayTimer 63 1) (act63 { r := { out := [(4, [1])], expiries := 3 } }) 2 (fun d => d.tally T.LNK_RETRAINS 63 == 1) = true := by decide +kernel

/-- Lane 63 as that, with a steering entry of pasture 0 for channel 5 and for raw frames, and its program. -/
def steered (st : Nat) (y : Lane) : State :=
  put R.LNK_RAW_MASK_LO 63 0xFF (put R.LNK_RAW_PATTERN_LO 63 0x5A
    (holding 0 { im0 with programs := [{ port := 63, number := 1, instrs := [7] }] }
      (die (fun d => { d with steer := [(63 * 64, some { pasture := 0, entry := { index := 0, source := 63, channel := 5, program := 1 } })] })
        (put R.LNK_STATUS_CLASSES 63 7 (lane63 st y)))))

theorem test_sFrame : (steered 4 {}).die.flockLane 63 = false ∧ (steered 4 {}).die.role ≤ 1 ∧ ((steered 4 {}).die.steerFor 63 (.chan 5)).isSome = true
    ∧ (steered 4 {}).die.inNap = false
    ∧ lane_ (.sFrame 63 (lframe 5 255 [1, 2, 3, 4])) (steered 4 { sExp := [(5, some 250)] }) 4 (fun d => KMap.get none (d.lane 63).sExp 5 == some 0
        && d.tally T.LNK_S_LOST 63 == 5 && (d.parser 63).busy && (d.parser 63).frame == [1, 2, 3, 4] && (d.parser 63).instrs == [7]) = true
    ∧ lane_ (.sFrame 63 (lframe 6 0 [1, 2, 3, 4])) (steered 4 {}) 4 (fun d => d.tally T.LNK_NO_MATCH 63 == 1 && !(d.parser 63).busy) = true := by decide +kernel
theorem test_rawFrame : (steered 7 {}).die.rawMatch 63 0x5A = true ∧ ((steered 7 {}).die.steerFor 63 .raw).isSome = true
    ∧ lane_ (.rawFrame 63 [0x5A, 1] cap0) (steered 7 { misses := 3 }) 7 (fun d => (d.lane 63).misses == 0 && (d.parser 63).busy && (d.parser 63).frame == [0x5A, 1]) = true
    ∧ lane_ (.rawFrame 63 [0x5B, 1] cap0) (steered 7 { misses := 2 }) 7 (fun d => (d.lane 63).misses == 3 && d.tally T.LNK_FRAME_ERR 63 == 1) = true
    ∧ lane_ (.rawFrame 63 [0x5B, 1] cap0) (steered 7 { misses := 3 }) 6 (fun d => d.tally T.LNK_RAW_UNLOCK 63 == 1) = true := by decide +kernel
theorem test_rawSearch : lane_ (.rawTransitions 63) (put R.LNK_CONTROL_MODE 63 1 (steered 1 { misses := 3 })) 6 (fun d => (d.lane 63).misses == 0) = true
    ∧ lane_ (.rawPeriod 63 (0x5A * 8)) (steered 6 { runs := [(3, 3)] }) 7 (fun d => d.get R.LNK_RAW_OFFSET_VALUE 63 == 3) = true
    ∧ lane_ (.rawPeriod 63 (0x5A * 8)) (steered 6 { runs := [(3, 2)] }) 6 (fun d => KMap.get 0 (d.lane 63).runs 3 == 3) = true
    ∧ lane_ (.rawPeriod 63 (0x5A5A * 8)) (steered 6 { runs := [(3, 3), (11, 3)] }) 6 (fun d => d.tally T.LNK_RAW_AMBIG 63 == 1) = true := by decide +kernel

/-- Ethernet port 15 enabled and locked, ACTIVE or not. -/
def eth15 (active : Nat) : State := put R.ETH_CONTROL_ENABLE 15 1 (put R.ETH_STATUS_BLOCK_LOCK 15 1 (put R.ETH_STATUS_ACTIVE 15 active awake))

theorem test_ethActive : after (.ethActive 15) (eth15 0) (fun t => t.die.on R.ETH_STATUS_ACTIVE 15) = true
    ∧ after (.ethActive 15) (put R.ETH_STATUS_LOCAL_FAULT 15 1 (eth15 0)) (fun t => !(t.die.on R.ETH_STATUS_ACTIVE 15)) = true := by decide +kernel
theorem test_linkDown : after (.linkDown 15 1) (eth15 1) (fun t => t.die.tally T.ETH_LINK_DOWN 15 == 1 && !(t.die.on R.ETH_STATUS_BLOCK_LOCK 15)) = true
    ∧ after (.linkDown 15 3) (eth15 0) (fun t => t.die.tally T.ETH_LINK_DOWN 15 == 0 && t.die.on R.ETH_STATUS_REMOTE_FAULT 15) = true
    ∧ after (.linkDown 15 0) (put R.ETH_STATUS_REMOTE_FAULT 15 1 (eth15 0)) (fun t => !(t.die.on R.ETH_STATUS_REMOTE_FAULT 15)) = true := by decide +kernel
theorem test_blockLock : after (.blockLockGained ⟨15, true, true⟩) (put R.ETH_CONTROL_FEC 15 1 (put R.ETH_STATUS_BLOCK_LOCK 15 0 (eth15 0))) (fun t =>
      t.die.on R.ETH_STATUS_BLOCK_LOCK 15 && t.die.on R.ETH_STATUS_FEC_LOCK 15) = true
    ∧ after (.blockLockLost ⟨15, true, true⟩) (eth15 0) (fun t => !(t.die.on R.ETH_STATUS_BLOCK_LOCK 15)) = true := by decide +kernel
theorem test_autoneg : after (.autonegDone 15 true) (put R.ETH_CONTROL_MEDIA 15 1 (eth15 1)) (fun t => t.die.on R.ETH_STATUS_AN_DONE 15) = true
    ∧ after (.autonegDone 15 false) (put R.ETH_CONTROL_MEDIA 15 1 (eth15 1)) (fun t => !(t.die.on R.ETH_STATUS_ACTIVE 15) && t.die.tally T.ETH_LINK_DOWN 15 == 1) = true := by
  decide +kernel
theorem test_ethControl : adm awake .ETH 15 0x010 = true ∧ (eth15 1).die.certified 1 15 = false
    ∧ after (.ethControl .m1 15 0xD) (eth15 1) (fun t => t.die.on R.ETH_STATUS_CFG_REFUSED 15 && t.die.on R.ETH_STATUS_ACTIVE 15 && t.die.get R.ETH_CONTROL_FEC 15 == 0) = true
    ∧ after (.ethControl .m1 15 0xF) (eth15 1) (fun t => t.die.on R.ETH_CONTROL_FEC 15 && t.die.on R.ETH_CONTROL_MEDIA 15 && !(t.die.on R.ETH_STATUS_ACTIVE 15)
        && t.die.tally T.ETH_LINK_DOWN 15 == 1) = true
    ∧ after (.ethControl .m1 15 0x3) (eth15 1) (fun t => t.die.on R.ETH_STATUS_ACTIVE 15) = true
    ∧ after (.ethControl .m1 15 0x7) (holding 0 { im0 with cert := [⟨79, 0, 1, 2, 5, [], 0, []⟩] } (eth15 1)) (fun t => t.die.on R.ETH_STATUS_CFG_REFUSED 15
        && !(t.die.on R.ETH_CONTROL_FEC 15) && t.die.on R.ETH_STATUS_ACTIVE 15) = true := by decide +kernel

/-- A device of role r and level v in flock state st; these lanes are ACTIVE with every class, with these contents. -/
def flocked (r v st : Nat) (lanes : List (Nat × Lane)) : State :=
  put R.FLK_ROLE_ROLE 0 r (put R.FLK_ROLE_LEVEL 0 v (put R.FLK_STATUS_STATE 0 st
    (lanes.foldl (fun s l => put R.LNK_STATUS_STATE l.1 4 (put R.LNK_STATUS_CLASSES l.1 7 s)) (die (fun d => { d with lanes := lanes }) awake))))
/-- A lane whose class R has received m. -/
def gotR (m : List Byte) : Lane := { r := { buf := [m] } }
/-- A lane whose class B has received m. -/
def gotB (m : List Byte) : Lane := { b := { buf := [m] } }
/-- The messages of lane l in a class that are sent and not acknowledged, and those that wait. -/
def sent (d : Die) (l cls : Nat) : List (List Byte) := ((d.lane l).rel cls).out.map (fun o => o.2) ++ ((d.lane l).rel cls).waits
/-- The body of a JOIN with these role, level and address. -/
def joinB (role level addr : Nat) : List Byte :=
  leBytes 8 5 ++ leBytes 1 role ++ leBytes 1 level ++ [0, 0] ++ leBytes 4 addr ++ leBytes 8 0 ++ leBytes 4 77 ++ List.replicate 28 0

theorem test_join : after (.join 63) (flocked 2 1 5 [(63, gotR (flkMsg 1 0 0 (joinB 2 2 (63 * 4096))))]) (fun t => (KMap.get {} t.die.flk.kids 63).joined
      && (KMap.get {} t.die.flk.kids 63).images == [77] && sent t.die 63 1 == [flkMsg 2 0 0 [1, 0, 0, 0]]) = true
    ∧ after (.join 63) (flocked 2 1 5 [(63, gotR (flkMsg 1 0 0 (joinB 2 2 (62 * 4096))))]) (fun t => !(KMap.get {} t.die.flk.kids 63).joined
      && sent t.die 63 1 == [flkMsg 2 0 0 [2, 0, 0, 0]]) = true
    ∧ after (.join 63) (flocked 1 0 1 [(63, gotR (flkMsg 1 0 0 (joinB 2 2 0)))]) (fun t => t.die.tally T.FLK_MSG_BAD 0 == 1) = true := by decide +kernel
theorem test_welcome : (flocked 1 0 1 []).die.parentLane = some 0
    ∧ after (.welcome 0) (flocked 1 0 1 [(0, gotR (flkMsg 2 3 0 [1, 0, 0, 0]))]) (fun t => t.die.get R.FLK_STATUS_STATE 0 == 2 && t.die.get R.FLK_STATUS_JOIN_RESULT 0 == 1
        && t.die.epoch == 3) = true
    ∧ after (.welcome 0) (flocked 1 0 2 [(0, gotR (flkMsg 2 0 0 [5, 0, 0, 0]))]) (fun t => t.die.get R.FLK_STATUS_STATE 0 == 1 && t.die.get R.FLK_STATUS_JOIN_RESULT 0 == 5) = true := by
  decide +kernel
theorem test_joinRetry : after .joinRetry (put R.FLK_STATUS_JOIN_RESULT 0 5 (flocked 1 0 1 [(0, {})])) (fun t => (sent t.die 0 1).length == 1) = true := by decide +kernel
theorem test_syncSend : (die (fun d => { d with fc := 131072 }) (flocked 1 0 1 [(0, {})])).die.fc % 65536 = 0
    ∧ after (.syncSend [(0, cap0)]) (die (fun d => { d with fc := 131072 }) (flocked 1 0 3 [(0, { sNext := [(63, 255)] })])) (fun t =>
        t.die.emits == [.line 0 51200 (onLine (sSyms 63 255 (List.replicate 10 0 ++ [3, 0, 0, 0, 0, 0]))).words] && KMap.get 0 (t.die.lane 0).sNext 63 == 0
          && KMap.get 0 t.die.flk.syncTx 0 == 16000000) = true := by decide +kernel

/-- A worker in a state that kept SYNC 7 at 1,000,000 ns receives SYNC 8, whose predecessor left the parent o sixteenths of a ns earlier. -/
def syncing (st : Nat) (k : Flock) : State := put R.FLK_STATUS_JOIN_RESULT 0 1 (die (fun d => { d with flk := { k with lastSync := some (7, 16000000) } }) (flocked 1 0 st [(0, {})]))
/-- SYNC 8. -/
def sync8 (prev : Nat) : LinkFrame := lframe 63 8 (leBytes 8 prev ++ [0, 0, 3, 0] ++ leBytes 4 9)

theorem test_syncLocks : ((syncing 2 {}).die.checkFrame 0 (sync8 16000000)).1 = true
    ∧ after (.sync 0 (sync8 15999998)) (syncing 2 { good := 15 }) (fun t => t.die.get R.FLK_STATUS_STATE 0 == 3 && t.die.flk.phase == -8 && t.die.flk.good == 16
        && t.die.flk.parentHold == 9 && t.die.get R.FLK_OFFSET_O 0 == 2) = true
    ∧ after (.sync 0 (sync8 15999997)) (syncing 2 { good := 15 }) (fun t => t.die.get R.FLK_STATUS_STATE 0 == 2 && t.die.flk.good == 0) = true := by decide +kernel
theorem test_syncSteps : after (.sync 0 (sync8 16000016)) (syncing 2 {}) (fun t => t.die.fc == 1000001 && t.die.tally T.FLK_FC_STEP 0 == 1) = true
    ∧ after (.sync 0 (sync8 15999984)) (syncing 2 {}) (fun t => t.die.fc == 1000000 && t.die.flk.absorb == 1) = true
    ∧ after (.sync 0 (sync8 0)) (syncing 3 {}) (fun t => t.die.get R.FLK_STATUS_JOIN_RESULT 0 == 4 && t.die.get R.FLK_STATUS_STATE 0 == 1 && t.die.flk.refused) = true := by
  decide +kernel
theorem test_phaseStep : after .phaseStep (syncing 3 { phase := -5 }) (fun t => t.die.flk.phase == -4 && t.die.tally T.FLK_PHASE_STEP 0 == 1) = true
    ∧ after .phaseStep (syncing 3 { phase := 1 }) (fun t => t.die.flk.phase == 0) = true := by decide +kernel
theorem test_syncMiss : after .syncMiss (syncing 3 { miss := 3 }) (fun t => t.die.get R.FLK_STATUS_STATE 0 == 4 && t.die.tally T.FLK_SYNC_MISS 0 == 1) = true
    ∧ after .syncMiss (syncing 3 { miss := 2 }) (fun t => t.die.get R.FLK_STATUS_STATE 0 == 3) = true := by decide +kernel

/-- The standby with two links; `st` the state that lane 63's last SYNC carried. -/
def standby (st : Nat) : State := die (fun d => { d with flk := { kids := [(62, { state := 4 }), (63, { state := st })] } }) (flocked 3 1 6 [(62, {}), (63, {})])

theorem test_takeover : after .standbyTakeover (standby 4) (fun t => t.die.epoch == 1 && t.die.get R.FLK_STATUS_STATE 0 == 5 && t.die.tally T.FLK_TAKEOVERS 0 == 1
      && sent t.die 63 2 == [flkMsg 13 1 0 []]) = true
    ∧ after .standbyTakeover (standby 3) (fun t => t.die.epoch == 0 && t.die.get R.FLK_STATUS_STATE 0 == 6) = true
    ∧ after (.takeover 1) (flocked 2 2 3 [(1, gotB (flkMsg 13 4 0 [])), (3, {})]) (fun t => t.die.epoch == 4 && t.die.flk.parent == 1 && sent t.die 3 2 == [flkMsg 13 4 0 []]) = true := by
  decide +kernel

/-- The body of a LAUNCH_AT at FC 2,000,000 of event 9, template 5, patch list 2, queue 6. -/
def laB : List Byte := leBytes 8 2000000 ++ leBytes 6 9 ++ leBytes 2 5 ++ [2, 6, 0, 0] ++ List.replicate 24 0
/-- A worker whose pasture 0 holds the image with that template on Ethernet port 15. -/
def workerIm : State :=
  granting 0 32 [0, 0x80] (holding 0 { im0 with templates := [{ number := 5, kind := 1, port := 15, bytes := List.replicate 64 0 }]
                                                patchLists := [{ number := 2, desc := 0, patches := [] }] }
    (flocked 1 0 3 [(0, gotR (flkMsg 3 0 7 laB))]))

theorem test_launchAt : workerIm.gate 0 = 0 ∧ workerIm.die.agrees = true ∧ workerIm.die.pastureOf 7 = some 0
    ∧ after (.launchAt 0) workerIm (fun t => (KMap.get [] t.die.launch 6).map (fun e => (e.agreed, e.mode, e.target, e.template, e.evid)) == [(true, 1, 2000000, 5, 9)]) = true
    ∧ after (.launchAt 0) (flocked 2 2 3 [(0, gotR (flkMsg 3 0 7 laB)), (3, {})]) (fun t => sent t.die 3 1 == [flkMsg 3 0 7 laB] && t.die.launch == []) = true := by
  decide +kernel

/-- The body of a REDUCE or TOTAL chunk of step 4 whose first sum is v. -/
def chunk1 (v : Int) : List Byte := leBytes 8 4 ++ leBytes 4 0 ++ s96Bytes v ++ List.replicate 216 0
/-- The top shepherd with two children that hold image 7, lane 63's chunk received. -/
def reducing (r : Option Reduction) (had : KMap Nat) : State :=
  die (fun d => { d with flk := { kids := [(62, { joined := true, images := [7] }), (63, { joined := true, images := [7] })], reduction := r, reduced := had } })
    (flocked 2 1 5 [(62, {}), (63, gotR (flkMsg 4 0 7 (chunk1 (-3))))])

set_option maxRecDepth 100000 in
theorem test_reduce : after (.reduce 63 ⟨1, 2, 8⟩) (reducing none []) (fun t => (t.die.flk.reduction.map (fun r => (r.lanes, r.sums))) == some ([(0, [63])], [(0, -3)])) = true
    ∧ after (.reduce 63 ⟨1, 2, 8⟩) (reducing (some { image := 7, step := 4, lanes := [(0, [62])], sums := [(0, 5)] }) []) (fun t => t.die.flk.reduction.isNone
        && KMap.get 0 t.die.flk.reduced 7 == 5 && sent t.die 62 1 == [flkMsg 5 0 7 (chunk1 2),
          flkMsg 6 0 7 (leBytes 8 4 ++ leBytes 8 6 ++ leBytes 4 8 ++ [1, 0, 0, 0])]) = true := by decide +kernel
theorem test_reduceOther : after (.reduce 63 ⟨1, 2, 8⟩) (reducing none [(7, 5)]) (fun t => t.die.flk.reduction.isNone && (t.die.lane 63).r.buf == []) = true
    ∧ after (.reduce 63 ⟨1, 2, 8⟩) (reducing (some { image := 8, step := 4 }) []) (fun t => (t.die.lane 63).r.buf.length == 1) = true
    ∧ after (.reduce 63 ⟨1, 2, 8⟩) (reducing (some { image := 7, step := 4, lanes := [(0, [63])] }) []) (fun t => (t.die.flk.reduction.map (fun r => r.sums)) == some []) = true
    ∧ after (.reduceWait ⟨1, 2, 8⟩) (reducing (some { image := 7, step := 4 }) []) (fun t => t.die.flk.reduction.isNone && t.die.tally T.FLK_REDUCE_ABANDON 0 == 1) = true := by
  decide +kernel

/-- A member whose update of step 4 stands in a phase, with a message on its parent link. -/
def member (phase : Nat) (m : List Byte) : State :=
  let s := updating [] [] []
  put R.UPD_STATUS_PHASE 0 phase (put R.FLK_ROLE_ROLE 0 1 (put R.LNK_STATUS_STATE 0 4 (put R.LNK_STATUS_CLASSES 0 7
    (die (fun d => { d with lanes := [(0, gotR m)], upd := [(0, { run := some { step := 4, flip := 6 }, wd := 99 })] })
      (holding 0 { ((s.die.image 0).getD im0) with upd := some { hdr with flockByte := 1 } } s)))))

theorem test_total : ((member 3 []).die.member 7).isSome = true
    ∧ after (.total 0) (member 3 (flkMsg 5 0 7 (chunk1 (-3)))) (fun t => KMap.get 0 (t.die.updSt 0).sums 0 == -3 && ((t.die.updSt 0).run.map (fun r => r.chunks)) == some [0]) = true
    ∧ after (.total 0) (member 2 (flkMsg 5 0 7 (chunk1 (-3)))) (fun t => (t.die.lane 0).r.buf.length == 1) = true := by decide +kernel
theorem test_commit : after (.commit 0) (member 3 (flkMsg 6 0 7 (leBytes 8 4 ++ leBytes 8 8 ++ leBytes 4 8 ++ [1, 0, 0, 0]))) (fun t =>
      ((t.die.updSt 0).run.map (fun r => (r.flip, r.committed))) == some (8, true)) = true
    ∧ after (.commit 0) (member 3 (flkMsg 6 0 7 (leBytes 8 4 ++ leBytes 8 8 ++ leBytes 4 8 ++ [2, 0, 0, 0]))) (fun t => (t.die.updSt 0).run.isNone
        && t.die.tally T.UPD_UPD_ABANDON 0 == 1) = true
    ∧ after (.commit 0) (die (fun d => { d with eng := [(0, { index := 9 })] }) (member 3 (flkMsg 6 0 7 (leBytes 8 4 ++ leBytes 8 8 ++ leBytes 4 8 ++ [1, 0, 0, 0])))) (fun t =>
        (t.die.updSt 0).run.isNone && t.die.tally T.UPD_UPD_LATE_COMMIT 0 == 1) = true := by decide +kernel

/-- The body of a DIGEST of step 4: n members with digest wd. -/
def digB (wd n : Nat) : List Byte := leBytes 8 4 ++ leBytes 4 0 ++ leBytes 8 wd ++ leBytes 4 n ++ List.replicate 40 0
/-- The top shepherd with those two children, lane 63's DIGEST received, the other's perhaps before. -/
def judging (g : List DigestSet) : State :=
  die (fun d => { d with flk := { d.flk with digests := g }, lanes := [(62, {}), (63, gotR (flkMsg 7 0 7 (digB 99 3)))] }) (reducing none [])

theorem test_digest : after (.flockDigest 63) (judging [{ image := 7, step := 4, lanes := [62], found := [(98, 2)] }]) (fun t => t.die.flk.digests == []
      && sent t.die 62 1 == [flkMsg 8 0 7 (leBytes 8 4 ++ leBytes 8 99 ++ [1, 0, 0, 0])]) = true
    ∧ after (.flockDigest 63) (judging [{ image := 7, step := 4, lanes := [62], found := [(98, 3)] }]) (fun t => t.die.on R.FLK_STATUS_SPLIT 0 && t.die.tally T.FLK_SPLITS 0 == 1) = true
    ∧ after (.flockDigest 63) (judging []) (fun t => t.die.flk.digests.map (fun g => (g.lanes, g.found)) == [([63], [(99, 3)])]) = true
    ∧ after (.digestWait 7 1) (judging [{ image := 7, step := 4, lanes := [62], found := [(98, 2)] }]) (fun t => t.die.flk.digests == [] && (sent t.die 62 1).length == 1) = true := by
  decide +kernel
theorem test_flockVerdict : after (.verdict 0) (member 0 (flkMsg 8 0 7 (leBytes 8 4 ++ leBytes 8 99 ++ [1, 0, 0, 0]))) (fun t => t.die.get R.FLK_EXPELLED_LO 0 == 0) = true
    ∧ after (.verdict 0) (member 0 (flkMsg 8 0 7 (leBytes 8 4 ++ leBytes 8 98 ++ [1, 0, 0, 0]))) (fun t => t.die.get R.FLK_EXPELLED_LO 0 == 1 && t.die.tally T.FLK_EXPELS 0 == 1) = true
    ∧ after (.verdict 0) (member 0 (flkMsg 8 0 7 (leBytes 8 4 ++ leBytes 8 0 ++ [2, 0, 0, 0]))) (fun t => t.die.get R.FLK_SET_HALT_LO 0 == 1) = true := by decide +kernel

theorem test_flockActs : after (.kill 0) (flocked 2 2 3 [(0, gotB (flkMsg 9 0 0 [])), (3, {})]) (fun t => t.die.on R.FLK_STATUS_KILLED 0 && sent t.die 3 2 == [flkMsg 9 0 0 []]) = true
    ∧ after (.flockHalt 0) (flocked 2 2 3 [(0, gotB (flkMsg 11 0 0 []))]) (fun t => t.die.on R.FLK_STATUS_HALTED 0) = true
    ∧ after (.release 0) (put R.FLK_STATUS_KILLED 0 1 (flocked 1 0 3 [(0, gotB (flkMsg 10 0 0 []))])) (fun t => !(t.die.on R.FLK_STATUS_KILLED 0)) = true
    ∧ after (.cancelAll 0) (die (fun d => { d with launch := [(2, [ent3, { ent3 with agreed := true }])] }) (flocked 1 0 3 [(0, gotB (flkMsg 12 0 0 []))])) (fun t =>
        t.die.launch == [(2, [ent3])]) = true := by decide +kernel
theorem test_mreq : after (.mrsp 63) (flocked 2 1 5 [(63, gotR (flkMsg 15 0 0 [1]))]) (fun t => (t.die.lane 63).r.buf == []) = true
    ∧ after (.mreq 0) (flocked 1 0 3 [(0, gotR (flkMsg 14 0 0 ([1, 1, 0, 0] ++ leBytes 4 0)))]) (fun t => (sent t.die 0 1).map (fun m => slice m 8 4) == [[1, 1, 0, 0]]) = true
    ∧ after (.mreq 0) (flocked 1 0 3 [(0, gotR (flkMsg 14 0 0 ([2, 1, 0, 0] ++ leBytes 4 0 ++ leBytes 4 5)))]) (fun t => (sent t.die 0 1).map (fun m => slice m 8 1) == [[1]]) = true
    ∧ after (.mreq 0) (flocked 1 0 3 [(0, gotR (flkMsg 14 0 0 ([3, 1, 0, 0] ++ leBytes 4 0)))]) (fun t => (sent t.die 0 1).map (fun m => slice m 8 1) == [[2]]) = true := by
  decide +kernel
theorem test_flockMsg : after .flockMsgSend (put R.FLK_MSG_CTL_ENABLE 0 1 (put R.FLK_MSG_HEAD_VALUE 0 1 (die (Die.hostWrite 0 0 [3]) (flocked 2 1 5 [(63, {})])))) (fun t =>
      t.die.get R.FLK_MSG_TAIL_VALUE 0 == 1 && (sent t.die 63 1).length == 1) = true
    ∧ after .flockMsgSend (put R.FLK_MSG_CTL_ENABLE 0 1 (put R.FLK_MSG_HEAD_VALUE 0 1 (flocked 2 1 5 [(63, {})]))) (fun t => t.die.tally T.FLK_MSG_BAD 0 == 1) = true := by
  decide +kernel
theorem test_flkControl : adm awake .FLK 0 0x018 = true ∧ adm awake .FLK 0 0x010 = true
    ∧ after (.form .m1 1) (die (fun d => { d with pair := (1000000, 5000000) }) (flocked 2 1 0 [])) (fun t => t.die.get R.FLK_STATUS_STATE 0 == 5 && t.die.fc == 5000000) = true
    ∧ after (.flkControlKill .m1 2) (flocked 2 1 5 [(63, {})]) (fun t => t.die.on R.FLK_STATUS_KILLED 0 && sent t.die 63 2 == [flkMsg 9 0 0 []]) = true
    ∧ after (.flkControlHalt .m1 4) (flocked 2 1 5 [(63, {})]) (fun t => t.die.on R.FLK_STATUS_HALTED 0 && sent t.die 63 2 == [flkMsg 11 0 0 []]) = true
    ∧ after (.flkControlCancelAll .m1 8) (flocked 3 1 5 [(63, {})]) (fun t => sent t.die 63 2 == [flkMsg 12 0 0 []]) = true
    ∧ after (.flkControlRelease .m1 16) (put R.FLK_STATUS_HALTED 0 1 (flocked 3 1 5 [(63, {})])) (fun t => !(t.die.on R.FLK_STATUS_HALTED 0) && sent t.die 63 2 == [flkMsg 10 0 0 []]) = true := by
  decide +kernel
theorem test_flkRole : awake.die.on (pageLock (blockAddr .FLK 0 0)) = false
    ∧ after (.flkRole .m1 7) awake (fun t => t.die.role == 3 && t.die.level == 1 && t.die.get R.FLK_STATUS_STATE 0 == 6) = true
    ∧ after (.flkRole .m1 3) awake (fun t => t.die.role == 0 && t.die.on R.FLK_STATUS_ROLE_REFUSED 0) = true := by decide +kernel

/-- An election with these claims, open at ns of its first (0: 100 ms have passed). -/
def electing (claims : List Nat) (ns : Nat) : State :=
  put R.OWN_STATUS_HELD 0 0 (put R.OWN_STATUS_ELECTION 0 1 (put R.PCI_STATUS_LINK_UP 0 1 (die (fun d => { d with claims := claims, electionNs := ns, heartbeat := 9 }) awake)))
/-- A handover to master 0 is pending. -/
def handing : State := put R.PCI_STATUS_LINK_UP 0 1 (put R.OWN_STATUS_PENDING 0 1 (put R.OWN_STATUS_TARGET 0 0 awake))

theorem test_claim : after (.claim .m0 1) (electing [] 0) (fun t => t.die.holds 0 && t.die.heartbeat == 0 && !(t.die.on R.OWN_STATUS_ELECTION 0)) = true
    ∧ after (.claim .m0 1) (electing [1] 5) (fun t => t.die.claims.contains 0 && t.die.claims.contains 1 && !(t.die.holds 0)) = true
    ∧ after (.claim .m3 1) (electing [] 0) (fun t => t.die.tally (T.OWN_OWN_DENIED 3) 0 == 0 && !(t.die.holds 3)) = true
    ∧ (electing [] 0).die.pathUp .m3 = false ∧ after (.claim .m0 1) handing (fun t => t.die.tally (T.OWN_OWN_DENIED 0) 0 == 1 && t.die.holds 1) = true
    ∧ after (.claim .m1 1) awake (fun t => t.die.holds 1) = true := by decide +kernel
theorem test_handoverAccept : after (.handoverAccept .m0 2) handing (fun t => t.die.holds 0 && !(t.die.on R.OWN_STATUS_PENDING 0)) = true
    ∧ after (.handoverAccept .m1 2) handing (fun t => t.die.holds 1 && t.die.tally (T.OWN_OWN_DENIED 1) 0 == 1) = true := by decide +kernel
theorem test_electionClose : (electing [1, 0] 5).die.otp.order = [0, 1, 2, 3] ∧ after .electionClose (electing [1, 0] 5) (fun t => t.die.holds 0) = true
    ∧ after .electionClose (electing [3] 5) (fun t => !(t.die.on R.OWN_STATUS_HELD 0) && t.die.claims == [] && t.die.electionNs == 0) = true := by decide +kernel
theorem test_heartbeat : adm awake .OWN 0 0x014 = true ∧ after (.ownHeartbeat .m1 7) (die (fun d => { d with heartbeat := 9 }) awake) (fun t => t.die.heartbeat == 0) = true
    ∧ after .heartbeatLoss (put (pageExpert 0x10000) 0 1 awake) (fun t => t.die.on R.OWN_STATUS_ELECTION 0 && !(t.die.holds 1) && !(t.die.on (pageExpert 0x10000) 0)
        && t.die.tally T.OWN_HEARTBEAT_LOSS 0 == 1 && t.die.tally T.OWN_ELECTIONS 0 == 1) = true := by decide +kernel
theorem test_handover : adm awake .OWN 0 0x018 = true
    ∧ after (.handoverRequest .m1 0x10) (put R.PCI_STATUS_LINK_UP 0 1 awake) (fun t => t.die.on R.OWN_STATUS_PENDING 0 && t.die.get R.OWN_STATUS_TARGET 0 == 0 && t.die.holds 1) = true
    ∧ after (.handoverRequest .m1 0x10) (put R.PCI_STATUS_LINK_UP 0 0 awake) (fun t => !(t.die.on R.OWN_STATUS_PENDING 0)) = true
    ∧ after (.handoverRequest .m1 0x11) handing (fun t => !(t.die.on R.OWN_STATUS_PENDING 0) && t.die.holds 1) = true
    ∧ after .handoverExpired handing (fun t => !(t.die.on R.OWN_STATUS_PENDING 0) && t.die.tally T.OWN_HANDOVER_EXPIRED 0 == 1) = true := by decide +kernel
theorem test_pcieLink : after .pcieLinkDown (put R.OWN_STATUS_HOLDER 0 0 (put R.PCI_STATUS_LINK_UP 0 1 awake)) (fun t => !(t.die.on R.OWN_STATUS_HELD 0)
      && t.die.on R.OWN_STATUS_ELECTION 0 && t.die.tally T.PCI_PCIE_DOWN 0 == 1) = true
    ∧ after .pcieLinkDown (put R.PCI_STATUS_LINK_UP 0 1 awake) (fun t => t.die.holds 1) = true
    ∧ after (.pcieLinkUp 5 16 64) awake (fun t => t.die.on R.PCI_STATUS_LINK_UP 0 && t.die.get R.PCI_STATUS_NUMVFS 0 == 64) = true := by decide +kernel

/-- The base point stands at host address 0 as a key. -/
def keyHost (lc : Nat) : State :=
  die (fun d => { d.hostWrite 0 0 (beBytes 48 g384.1 ++ beBytes 48 g384.2) with otp := { d.otp with lifecycle := lc } }) awake
/-- Key slots 6 and 7 hold image keys. -/
def twoKeys (lc : Nat) : State :=
  die (fun d => { d with otp := { d.otp with lifecycle := lc, keys := [(6, { programmed := true, image := true }), (7, { programmed := true, image := true })] } }) awake
/-- Key slot 7 alone. -/
def oneKey (lc : Nat) : State := die (fun d => { d with otp := { d.otp with lifecycle := lc, keys := [(7, { programmed := true, image := true })] } }) awake
/-- KEY_RESULT after a command. -/
def keyRes (c : Instr) (s : State) (r : Nat) : Bool := after c s (fun t => t.die.get R.OWN_STATUS_KEY_RESULT 0 == r)

theorem test_keyProgram : adm awake .OWN 0 0x02C = true ∧ keyRes (.keyProgram .m1 0x117 false) (keyHost 2) 2 = true ∧ keyRes (.keyProgram .m1 0x117 false) (oneKey 1) 3 = true
    ∧ keyRes (.keyProgram .m1 0x117 true) (keyHost 1) 6 = true ∧ keyRes (.keyProgram .m1 0x107 false) (keyHost 1) 4 = true
    ∧ after (.keyProgram .m1 0x117 false) (keyHost 0) (fun t => t.die.get R.OWN_STATUS_KEY_RESULT 0 == 1 && t.die.otp.slot 7 == ⟨g384.1, g384.2, true, false, true, false⟩) = true := by
  decide +kernel
theorem test_keyRevoke : keyRes (.keyRevoke .m1 0x207) (twoKeys 4) 2 = true ∧ keyRes (.keyRevoke .m1 0x205) (twoKeys 1) 3 = true ∧ keyRes (.keyRevoke .m1 0x207) (oneKey 1) 5 = true
    ∧ after (.keyRevoke .m1 0x207) (twoKeys 1) (fun t => t.die.get R.OWN_STATUS_KEY_RESULT 0 == 1 && (t.die.otp.slot 7).revoked && !(t.die.otp.slot 6).revoked) = true := by
  decide +kernel
theorem test_debugRequest : adm awake .OWN 0 0x01C = true ∧ after (.debugRequest .m1 3) awake (fun t => t.die.get R.OWN_DEBUG_REQUEST 0 == 3) = true := by decide +kernel
theorem test_grant : adm awake .OWN 0 0x030 = true
    ∧ after (.grantLoad .m1 0x13F) (granting 63 60 [1, 2, 3, 4] awake) (fun t => t.die.get (R.OWN_GRANT_DATA 15) 0 == 0x04030201) = true
    ∧ after (.grantCommit .m1 0x23F) (put (R.OWN_GRANT_DATA 0) 0 5 awake) (fun t => t.die.get R.OWN_STATUS_GRANT_RESULT 0 == 1 && grantField (t.die.grant 63) 0 4 == 5) = true
    ∧ after (.grantCommit .m1 0x23F) (put (R.OWN_GRANT_DATA 15) 0 5 awake) (fun t => t.die.get R.OWN_STATUS_GRANT_RESULT 0 == 2 && t.die.grants == []) = true
    ∧ after (.grantCommit .m1 0x23F) (put (R.OWN_GRANT_DATA 0) 0 5 (granting 0 0 [1] awake)) (fun t => t.die.get R.OWN_STATUS_GRANT_RESULT 0 == 3) = true := by decide +kernel
theorem test_lifecycle : adm awake .OWN 0 0x020 = true
    ∧ after (.lifecycleGo .m1 0x0A false) (oneKey 0) (fun t => t.die.get R.OWN_STATUS_LC_RESULT 0 == 2 && t.die.otp.lifecycle == 0) = true
    ∧ after (.lifecycleGo .m1 0x09 false) (oneKey 0) (fun t => t.die.get R.OWN_STATUS_LC_RESULT 0 == 1 && t.die.otp.lifecycle == 1) = true
    ∧ after (.lifecycleGo .m1 0x09 false) awake (fun t => t.die.get R.OWN_STATUS_LC_RESULT 0 == 3 && t.die.otp.lifecycle == 0) = true
    ∧ after (.lifecycleGo .m1 0xDEF0000C false) (oneKey 2) (fun t => t.die.otp.lifecycle == 4 && (t.die.otp.slot 7).revoked && !t.die.aliveOn) = true
    ∧ after (.lifecycleGo .m1 0x0000000C false) (oneKey 2) (fun t => t.die.otp.lifecycle == 2 && t.die.get R.OWN_STATUS_LC_RESULT 0 == 3) = true
    ∧ after (.lifecycleGo .m1 0x0B true) (oneKey 2) (fun t => t.die.otp.lifecycle == 2 && t.die.free == 1) = true := by decide +kernel

/-- A word of a memory kind carries this error; or it holds the poison pattern. -/
def eccAt (kind loc e : Nat) : State := die (fun d => { d with ecc := [(eccKey kind loc, e)] }) awake
/-- The poison pattern stands there. -/
def poisonAt (kind loc : Nat) : State := die (fun d => { d with poison := [(eccKey kind loc, true)] }) awake

theorem test_scrub : after (.scrubRead 1 5 2 false) (poisonAt 1 5) (fun t => t.die.tally T.CHK_POISON_READ 0 == 1) = true
    ∧ after (.scrubRead 18 5 0 true) awake (fun t => t.die.tally T.CHK_SCRUB_PASSES 0 == 1) = true
    ∧ after (.scrubRead 7 5 0 false) (eccAt 7 5 1) (fun t => t.die.tally (T.CHK_CE 7) 0 == 1 && t.die.ecc == []) = true
    ∧ after (.scrubRead 1 5 2 false) awake (fun t => t.die.tally (T.CHK_UE 1) 0 == 1 && KMap.get false t.die.poison (eccKey 1 5)) = true := by decide +kernel
theorem test_scrubControl : after (.scrubRead 2 5 2 false) awake (fun t => t.die.restoring && !t.die.up && t.die.get R.PWR_STATUS_LAST_RESET 0 == 3) = true := by decide +kernel
theorem test_scrubGrant : after (.scrubRead 16 5 2 false) awake (fun t => t.die.up && t.die.tally (T.CHK_CE 16) 0 == 1) = true := by decide +kernel

/-- A tag check whose data are right; ECC at the source, the tag there and what arrived as given. -/
def tagged (ecc : Bool) (src : Word) (d2 : List Byte) : TagCheck :=
  ⟨[1], BitVec.ofNat 32 (crc32c (padTo 256 [1])), ecc, src, d2, true, [1], 1, 0, 1, [7], none, some 513⟩
/-- The right tag of those data. -/
def tagOf1 : Word := BitVec.ofNat 32 (crc32c (padTo 256 [1]))

theorem test_tagSource : tagKnown (tagged false 0 []) = true
    ∧ after (.tagCheckFail (tagged false 0 [1])) awake (fun t => t.die.tally T.CHK_SOURCE 0 == 1 && t.die.tally T.CHK_TAG_POISON 0 == 1
        && KMap.get false t.die.poison (eccKey 1 7)) = true
    ∧ after (.tagCheckFail { tagged false 0 [1] with load := some 1 }) (die (fun d => { d with loads := [(4, 1, 0, 0)] }) awake) (fun t => t.die.loads == [] && !KMap.get false t.die.poison (eccKey 1 7)) = true := by
  decide +kernel
set_option maxRecDepth 100000 in
theorem test_tagOther : after (.tagCheckFail (tagged true tagOf1 [1])) awake (fun t => t.die.tally T.CHK_PATH 0 == 1 && t.die.poison == []) = true
    ∧ after (.tagCheckFail { tagged true 5 [2] with data1 := [2], tag1 := 5, echo := [2] }) awake (fun t => t.die.tally T.CHK_CHECKER 0 == 1 && KMap.get false t.die.poison (eccKey 1 7)) = true
    ∧ after (.tagCheckFail { tagged true tagOf1 [2] with data1 := [2], echo := [1] }) awake (fun t => t.die.tally T.CHK_CHECKER 0 == 1 && t.die.poison == []
        && t.die.on R.SHD_STATUS_OBSERVED 1) = true := by decide +kernel
theorem test_release : adm awake .PAS 63 0x020 = true
    ∧ after (.quarantineRelease .m1 63 2) (put R.PAS_QUARANTINE_STATUS_QUARANTINED 63 1 awake) (fun t => !(t.die.on R.PAS_QUARANTINE_STATUS_QUARANTINED 63)) = true
    ∧ after (.quarantineRelease .m1 63 2) (put R.PAS_QUARANTINE_STATUS_PERSISTENT 63 1 (put R.PAS_QUARANTINE_STATUS_QUARANTINED 63 1 awake)) (fun t =>
        t.die.on R.PAS_QUARANTINE_STATUS_QUARANTINED 63) = true
    ∧ after .restoreDone (die (fun d => { d with restoring := true, up := false }) awake) (fun t => t.die.up && !t.die.restoring && t.kill.running) = true := by
  decide +kernel

/-- The digest of a MOVQ of the beat 5 in two repetitions: 5, then 10. -/
def pat1 : BitVec 64 := BitVec.ofNat 64 (mix64 (mix64 (mix64 (mix64 (mix64 (mix64 (mix64 (mix64 1 5) 0) 0) 0) 10) 0) 0) 0)

/-- A pack of one pattern in force on engine 7, these tiles tested in the present pass. -/
def sheep7 (tested : List Nat) : State :=
  die (fun d => { d with shd := [(7, { pack := some { keySlot := 0, packId := 9, version := 3, length := 256, patterns := [{ id := 1, musterOnly := false, reps := 2, words := [op 21 0 0 4 []], expected := pat1, operands := [5, 6] }] }
                                       tested := tested })] }) awake

theorem test_pattern : (sheep7 []).die.sheepMay (7 * 512) = true
    ∧ after (.shdPattern (7 * 512) 0 0) (sheep7 []) (fun t => t.die.beat (7 * 512) 1017 == 12 && t.die.tally T.SHD_SHD_FAIL 7 == 0 && (t.die.sheep 7).tested == [0]
        && t.die.tally T.SHD_PASSES 7 == 0) = true
    ∧ after (.shdPattern (7 * 512) 1 1) (sheep7 [0]) (fun t => t.die.shd == (sheep7 [0]).die.shd) = true
    ∧ after (.shdPattern (7 * 512) 1 0) (sheep7 []) (fun t => t.die.tally T.SHD_SHD_TRANSIENT 7 == 1 && t.die.tally T.SHD_SHD_FAIL 7 == 0) = true
    ∧ after (.shdPattern (7 * 512) 1 1) (sheep7 []) (fun t => t.die.tally T.SHD_SHD_FAIL 7 == 1 && t.die.on R.SHD_STATUS_FAILED 7 && t.die.on R.SHD_STATUS_OBSERVED 7) = true
    ∧ after (.shdPattern (7 * 512 + 503) 0 0) (sheep7 (engTiles.filter (· != 503))) (fun t => t.die.tally T.SHD_PASSES 7 == 1 && (t.die.sheep 7).tested == []) = true := by decide +kernel

/-- A pack of one pattern of 256 bytes, version 1, stands at host address 0, signed by the key of slot 0 as the seal message is. -/
def packHost : State :=
  let m := leBytes 4 0x4B504453 ++ [1, 0, 0, 0] ++ leBytes 4 9 ++ leBytes 4 1 ++ [1, 0, 0, 0] ++ leBytes 4 256 ++ List.replicate 8 0
    ++ [3, 0, 0, 1, 1, 0, 2, 0] ++ leBytes 8 (op 21 4 0 4 []).toNat ++ List.replicate 24 0 ++ leBytes 8 77 ++ leBytes 32 5 ++ List.replicate 16 0
  let z := beBytes 48 (sha384 m)
  put R.SHD_PACK_LEN_VALUE 7 256 (die (fun d => { d.hostWrite 0 0 (m ++ z ++ z) with
    otp := { d.otp with lifecycle := 1, keys := [(0, { x := 0xaee0b1cf7afbc2995fdc344dd2e6a28f20b159088e68a33a9aba85a1c3ba01b2eff85eec3b324c40cb81b1bb2aa67129, y := 0xfe918b7a6c219594fef6a76746851dc9a5d18003f33eab890c39f05854d9a41097e5eb2e81529c46e6f28f5fc2125bf5, programmed := true, pack := true })] } }) awake)

theorem test_packLoad : after (.packLoad .m1 7 1 false) packHost (fun t => t.die.get R.SHD_STATUS_PACK_RESULT 7 == 1 && t.die.get R.SHD_PACK_VERSION_VALUE 7 == 1
      && ((t.die.sheep 7).pack.map (fun k => k.patterns.length)) == some 1) = true := by decide +kernel
theorem test_packs : adm awake .SHD 7 0x020 = true ∧ adm awake .SHD 7 0x024 = true
    ∧ after (.packLoad .m1 7 1 true) awake (fun t => t.die.get R.SHD_STATUS_PACK_RESULT 7 == 5) = true
    ∧ after (.packLoad .m1 7 5 false) awake (fun t => t.die.get R.SHD_STATUS_PACK_RESULT 7 == 2 && t.die.shd == []) = true
    ∧ after (.packWinWrite .m1 7 5) awake (fun t => (t.die.sheep 7).stage == [5]) = true
    ∧ after (.stageReset .m1 7 8) (die (fun d => { d with shd := [(7, { stage := [5] })] }) awake) (fun t => (t.die.sheep 7).stage == []) = true := by decide +kernel
theorem test_observe : adm awake .SHD 7 0x010 = true
    ∧ after (.observe .m1 7 1) awake (fun t => t.die.on R.SHD_STATUS_OBSERVED 7 && t.die.tally T.SHD_OBSERVATIONS 7 == 1) = true
    ∧ after (.observeEnd .m1 7 2) (put R.SHD_STATUS_OBSERVED 7 1 awake) (fun t => !(t.die.on R.SHD_STATUS_OBSERVED 7)) = true := by decide +kernel
theorem test_muster : after (.muster .m1 0 4) bare (fun t => t.die.get R.SHD_STATUS_MUSTER 0 == 1 && (t.die.sheep 0).muster && KMap.get false t.die.closed 0) = true
    ∧ after (.muster .m1 7 4) (die (fun d => { d with shd := [(7, { muster := true })] }) awake) (fun t => t.die.get R.SHD_STATUS_MUSTER 7 == 4) = true
    ∧ after (.musterDone 0 ⟨none, 0⟩) (die (fun d => { d with shd := [(0, { muster := true, wasRunning := 1 })] }) bare) (fun t => !(t.die.sheep 0).muster
        && t.die.tally T.SHD_MUSTERS 0 == 1 && t.die.get R.SHD_STATUS_MUSTER 0 == 2 && t.die.qstate 0 0 == 2) = true
    ∧ after (.musterDone 7 ⟨some ⟨3, none, 0⟩, 0⟩) (die (fun d => { d with shd := [(7, { muster := true })] }) awake) (fun t => t.die.get R.SHD_STATUS_MUSTER 7 == 3
        && t.die.on R.SHD_STATUS_FAILED 7 && t.die.on R.SHD_STATUS_OBSERVED 7) = true := by decide +kernel

/-- The Loft with its first-failure region in a state. -/
def loft (st : Nat) (x : Loft) : State := put R.LFT_STATUS_FF_STATE 0 st (die (fun d => { d with loft := x }) awake)

theorem test_freeze : after .captureFreeze (put R.LFT_FF_POST 0 2 (loft 2 { ffAfter := 32768 })) (fun t => t.die.get R.LFT_STATUS_FF_STATE 0 == 3) = true
    ∧ after .captureFreeze (put R.LFT_FF_POST 0 2 (loft 2 { ffAfter := 32767 })) (fun t => t.die.get R.LFT_STATUS_FF_STATE 0 == 2) = true := by decide +kernel
theorem test_arm : adm awake .LFT 0 0x014 = true
    ∧ after (.arm .m1 1) (loft 3 { ff := [[1]], ffAfter := 5 }) (fun t => t.die.get R.LFT_STATUS_FF_STATE 0 == 1 && t.die.loft.ff == [] && t.die.loft.ffAfter == 0) = true
    ∧ after (.arm .m1 1) (put R.LFT_STATUS_DUMP_BUSY 0 1 (loft 3 { ff := [[1]] })) (fun t => t.die.get R.LFT_STATUS_FF_STATE 0 == 3 && t.die.loft.ff == [[1]]) = true := by decide +kernel
theorem test_trigger : after (.trigger .m1 4) (put R.LFT_INC_MASK_MASK 0 0x800 (loft 1 {})) (fun t => t.die.get R.LFT_STATUS_FF_STATE 0 == 2 && t.die.get R.LFT_STATUS_CAUSE 0 == 12
      && t.die.get R.LFT_FF_FC_LO 0 == 1000000) = true
    ∧ after (.disarm .m1 8) (loft 2 {}) (fun t => t.die.get R.LFT_STATUS_FF_STATE 0 == 0) = true ∧ after (.disarm .m1 8) (loft 3 {}) (fun t => t.die.get R.LFT_STATUS_FF_STATE 0 == 3) = true
    ∧ after .dumpDone (put R.LFT_STATUS_DUMP_BUSY 0 1 awake) (fun t => !(t.die.on R.LFT_STATUS_DUMP_BUSY 0)) = true := by decide +kernel
theorem test_lftControl : adm awake .LFT 0 0x010 = true ∧ (act63 {}).die.loftLane 63 = true
    ∧ after (.lftControl .m1 0x3F03) (act63 {}) (fun t => t.die.on R.LFT_CONTROL_LANES 0 && t.die.get R.LFT_CONTROL_LANE_A 0 == 63) = true
    ∧ after (.lftControl .m1 0x3F3F07) (act63 {}) (fun t => t.die.on R.LFT_STATUS_LANES_REFUSED 0 && !(t.die.on R.LFT_CONTROL_LANES 0)) = true := by decide +kernel

/-- The master PLL has locked. -/
def pllUp : State := put R.DEV_TIMING_STATUS_PLL_LOCK 0 1 awake
/-- What APPLY of DEV_TIMING answers. -/
def timed (w : Word) (s : State) (code : Nat) : Bool :=
  after (.timingApply .m1 w) s (fun t => t.die.get R.DEV_TIMING_STATUS_REFUSE 0 == code && (t.die.timingPending.isSome == (code == 0)))

theorem test_timingApply : adm awake .DEV 0 0x010 = true ∧ timed 0x80000001 pllUp 0 = true ∧ timed 0x80000000 awake 0 = true ∧ timed 0x80000001 awake 4 = true
    ∧ timed 0x80000011 { pllUp with fused := { grade := 2 } } 0 = true ∧ timed 0x80000021 { pllUp with fused := { grade := 2 } } 2 = true
    ∧ timed 0x80000001 (put R.PWR_STATUS_PROFILE 0 2 pllUp) 3 = true ∧ timed 0x80000021 (put R.PWR_STATUS_PROFILE 0 1 pllUp) 3 = true
    ∧ timed 0x80000001 (holding 63 im0 pllUp) 1 = true ∧ timed 0x80000000 (holding 63 im0 pllUp) 1 = true := by decide +kernel
theorem test_timingChange : after .timingChangeDone (die (fun d => { d with timingPending := some (1, 2) }) (put R.DEV_TIMING_STATUS_BUSY 0 1 awake)) (fun t =>
      t.die.get R.DEV_TIMING_STATUS_MODE 0 == 1 && t.die.get R.DEV_TIMING_STATUS_POINT 0 == 2 && !(t.die.on R.DEV_TIMING_STATUS_BUSY 0) && t.die.timingPending.isNone) = true
    ∧ after .timingChangeDone (die (fun d => { d with timingPending := some (0, 2) }) awake) (fun t => t.die.get R.DEV_TIMING_STATUS_POINT 0 == awake.die.get R.DEV_TIMING_STATUS_POINT 0) = true := by
  decide +kernel
theorem test_reference : pllUp.die.refParent = false ∧ after .ref250Lost pllUp (fun t => t.die.on R.DEV_TIMING_STATUS_REF_LOST 0 && !(t.die.on R.DEV_TIMING_STATUS_PLL_LOCK 0)
      && t.die.on R.DEV_TIMING_STATUS_HOLDOVER 0) = true
    ∧ after .ref250WaitEnd State.reset (fun t => t.die.fcRun && !t.die.refWait && t.die.on R.DEV_TIMING_STATUS_HOLDOVER 0) = true
    ∧ after .ref250Return (put R.DEV_TIMING_STATUS_HOLDOVER 0 1 awake) (fun t => t.die.pullIn) = true
    ∧ after .pllPullInDone (die (fun d => { d with pullIn := true }) (put R.DEV_TIMING_STATUS_HOLDOVER 0 1 awake)) (fun t => t.die.on R.DEV_TIMING_STATUS_PLL_LOCK 0
        && !(t.die.on R.DEV_TIMING_STATUS_HOLDOVER 0)) = true := by decide +kernel

/-- What APPLY of PWR_PROFILE answers. -/
def profiled (c : Instr) (s : State) (code : Nat) : Bool :=
  after c s (fun t => t.die.get R.PWR_STATUS_PROFILE_RESULT 0 == code)

theorem test_profile : adm awake .PWR 0 0x010 = true ∧ profiled (.profileApply .m1 0x80000002) awake 1 = true ∧ profiled (.profileApply .m1 0x80000002) (put R.DEV_TIMING_STATUS_MODE 0 1 awake) 2 = true
    ∧ profiled (.profileApply .m1 0x80000002) (holding 63 { im0 with fMHz := 1251 } awake) 3 = true ∧ profiled (.profileApply .m1 0x80000002) (holding 63 { im0 with fMHz := 1250 } awake) 1 = true
    ∧ profiled (.profileApply .m1 0x80000002) (put R.LNK_CONTROL_ENABLE 32 1 awake) 4 = true ∧ profiled (.profileApply .m1 0x80000002) (put R.LNK_CONTROL_ENABLE 31 1 awake) 1 = true
    ∧ profiled (.profileApply .m1 0x80000002) (put R.ETH_CONTROL_ENABLE 8 1 awake) 4 = true ∧ profiled (.profileApply .m1 0x80000001) (die (fun d => { d with statePending := some 1 }) awake) 5 = true
    ∧ after .profileDone (die (fun d => { d with profilePending := some 2 }) (put R.PWR_STATUS_BUSY 0 1 awake)) (fun t => t.die.get R.PWR_STATUS_PROFILE 0 == 2
        && !(t.die.on R.PWR_STATUS_BUSY 0) && t.die.profilePending.isNone) = true := by decide +kernel

/-- What GO of PWR_STATE answers; 0: the change begins. -/
def asked (c : Instr) (s : State) (code : Nat) : Bool :=
  after c s (fun t => if code == 0 then t.die.statePending.isSome else t.die.get R.PWR_STATUS_STATE_RESULT 0 == code
    && t.die.statePending == s.die.statePending)

theorem test_stateGo : adm awake .PWR 0 0x018 = true ∧ asked (.stateGo .m1 0x80000003) awake 0 = true ∧ asked (.stateGo .m1 0x80000002) (flocked 2 1 6 []) 2 = true ∧ asked (.stateGo .m1 0x80000001) (flocked 2 1 6 []) 0 = true
    ∧ asked (.stateGo .m1 0x80000000) (put R.PAS_ADMIT_STATUS_BUSY 63 1 awake) 3 = true
    ∧ asked (.stateGo .m1 0x80000003) (cel (fun c => { c with slots := [{ bytes := [], frees := 0 }] }) (holding 63 { im0 with auditByte := 1 } awake)) 4 = true
    ∧ after (.stateGo .m1 0x80000002) bare (fun t => KMap.get false t.die.closed 0) = true ∧ bare.die.qstate 0 0 = 2 := by decide +kernel
theorem test_nap : after .napEntry (die (fun d => { d with statePending := some 2 }) (egress [ent3])) (fun t => t.die.get R.PWR_STATUS_STATE 0 == 2
      && t.die.launch.all (fun q => q.2.isEmpty) && t.die.tally T.PWR_NAP_DISCARD 0 == 1) = true := by decide +kernel
theorem test_standby : after .standbyEntry (die (fun d => { d with statePending := some 3 }) larder0) (fun t => t.die.get R.PWR_STATUS_STATE 0 == 3
      && t.die.rows == [] && t.die.launch == [] && !t.die.fcRun && !t.die.aliveOn) = true := by decide +kernel
theorem test_stateReached : after .stateReached (die (fun d => { d with statePending := some 1 }) awake) (fun t => t.die.get R.PWR_STATUS_STATE 0 == 1
      && t.die.get R.PWR_STATUS_STATE_RESULT 0 == 1 && t.die.tally T.PWR_STATE_CHANGES 0 == 1) = true
    ∧ after .stateReached (die (fun d => { d with statePending := some 1 }) (put R.PWR_STATUS_STATE 0 2 awake)) (fun t => t.die.get R.PWR_STATUS_STATE 0 == 0
        && t.die.statePending == some 1) = true
    ∧ after .stateReached (die (fun d => { d with statePending := some 0, tripped := true }) (put R.PWR_STATUS_STATE 0 3 (put (pageLock 0x10000) 0 1 awake))) (fun t =>
        t.die.get R.PWR_STATUS_STATE 0 == 0 && t.die.get R.PWR_STATUS_LAST_RESET 0 == 5 && t.die.up && !(t.die.on (pageLock 0x10000) 0)
        && t.die.on R.OWN_STATUS_ELECTION 0) = true := by decide +kernel
theorem test_thermal : after .thermHot awake (fun t => t.die.on R.PWR_STATUS_THERM_HOT 0) = true
    ∧ after .thermTrip awake (fun t => t.die.statePending == some 3 && t.die.tripped && t.die.tally T.PWR_THERM_TRIP 0 == 1) = true
    ∧ after .thermTrip (put R.PWR_STATUS_STATE 0 3 awake) (fun t => t.die.statePending == none) = true := by decide +kernel

/-- A running machine with something in every part that a reset takes. -/
def used : State := { (die (fun d => { d with tallies := [(7, 1)], store := [[1]] }) larder0) with kill := { st := .fault, running := true } }

theorem test_resets : after .coldReset used (fun t => t.die.tallies == [] && t.die.store == [] && t.die.rows == [] && t.kill == {} && !t.die.up) = true
    ∧ after .sysReset used (fun t => t.die.tallies == [(7, 1)] && t.die.store == [[1]] && t.die.get R.PWR_STATUS_LAST_RESET 0 == 1) = true
    ∧ after .sysReset (die (fun d => { d with off := true }) used) (fun t => t.kill == used.kill) = true
    ∧ adm used .PWR 0 0x01C = true ∧ after (.deviceReset .m1 0xA5A50001) used (fun t => t.die.get R.PWR_STATUS_LAST_RESET 0 == 2 && t.die.rows == []) = true
    ∧ after (.deviceReset .m1 0xA5A50000) used (fun t => t.die.up) = true ∧ after (.deviceReset .m1 0xA5A40001) used (fun t => t.die.up) = true
    ∧ after .railFault used (fun t => t.die.off && t.kill.blocked && t.die.tallies == []) = true := by decide +kernel
theorem test_vcelLoss : after .vcelLoss awake (fun t => !t.cel.up && t.die.restoring && t.die.get R.PWR_STATUS_LAST_RESET 0 == 3) = true
    ∧ after .vcelLoss State.reset (fun t => !t.cel.up && t.die == State.reset.die) = true := by decide +kernel
theorem test_startup : after .startupDone State.reset (fun t => t.die.up && t.kill.running && t.kill.blocked && t.die.on R.OWN_STATUS_ELECTION 0
      && t.die.get R.DEV_TIMING_STATUS_MODE 0 == 1 && t.die.otp.gen == 7) = true := by decide +kernel
theorem test_hostReset : after .hostLinkReset (put R.OWN_STATUS_HOLDER 0 0 (put R.PCI_STATUS_LINK_UP 0 1 awake)) (fun t => !(t.die.on R.PCI_STATUS_LINK_UP 0)
      && !(t.die.on R.OWN_STATUS_HELD 0)) = true
    ∧ after (.vfFlr 63) (put R.PAS_MSG_CTL_ENABLE 63 1 (holding 63 im0 awake)) (fun t => t.die.get R.PAS_ADMIT_STATUS_STATE 63 == 5 && (t.die.pasture 63).leaving == 1
        && !(t.die.on R.PAS_MSG_CTL_ENABLE 63) && t.die.tally T.PCI_VF_FLR 0 == 1) = true := by decide +kernel

/-- The magic and defaults of a settings record, in the stage. -/
def stagedRec : State := put (R.OTP_STAGE 1) 0 0xE4000100 (put (R.OTP_STAGE 0) 0 0x52544553 awake)
/-- A record of generation 0, in force. -/
def withRecord : State := die (fun d => { d with otp := { d.otp with slots := [⟨List.replicate 512 9⟩], gen := 0 } }) awake
/-- The result of a write of OTP_CONTROL. -/
def otpRes (c : Instr) (s : State) (n : Nat) : Bool := after c s (fun t => t.die.get R.OTP_STATUS_OTP_RESULT 0 == n && t.die.otp.programming.isNone)

theorem test_otp : adm awake .OTP 0 0x010 = true ∧ after (.otpLoad .m1 3) withRecord (fun t => t.die.get (R.OTP_STAGE 127) 0 == 0x09090909 && t.die.otp == withRecord.die.otp) = true
    ∧ otpRes (.otpProgram .m1 0xA5A50002) (die (fun d => { d with otp := { d.otp with slots := List.replicate 5 ⟨[]⟩ } }) stagedRec) 2 = true ∧ otpRes (.otpProgram .m1 0xA5A50002) awake 3 = true
    ∧ otpRes (.otpProgram .m1 0xA5A40002) stagedRec 4 = true ∧ after (.otpProgram .m1 0xA5A50002) stagedRec (fun t => t.die.otp.programming.isSome) = true
    ∧ after (.otpProgramDone true) (die (fun d => { d with otp := { d.otp with programming := some [1] } }) awake) (fun t => t.die.get R.OTP_STATUS_OTP_RESULT 0 == 1
        && t.die.otp.slots == [⟨[1]⟩]) = true
    ∧ after (.otpProgramDone false) (die (fun d => { d with otp := { d.otp with programming := some [1] } }) awake) (fun t => t.die.get R.OTP_STATUS_OTP_RESULT 0 == 5
        && t.die.otp.slots == [⟨[]⟩]) = true := by decide +kernel

/-- M1's read of a register meets it (R603). -/
def rdOk (s : State) (src : Source) (b : Block) (i off : Nat) : Bool :=
  off % 4 == 0 && s.die.pathUp src && s.die.answers src b && pageOf s.fused (blockAddr b i off) == some (b, i, off)
/-- The word that read c gives. -/
def reading (c : Instr) (s : State) (w : Nat) (P : Die → Bool) : Bool := after c s (fun t => t.die.readData.toNat == w && P t.die)
/-- A saturated tally above 2^32 at THERM_TRIP. -/
def tallied : State := die (fun d => { d with tallies := [(0x32C10, 2 ^ 48 + 5 * 2 ^ 32 + 9)] }) awake

theorem test_tallyRead : rdOk awake .m1 .PWR 0 0xC10 = true ∧ tallyAt .PWR 0xC10 = some 0xC10 ∧ tallyAt .PWR 0xC14 = some 0xC10 ∧ rdOk awake .m1 .PWR 0 0xC14 = true
    ∧ hiddenTally tallied.die .m1 .PWR 0xC10 = false ∧ blockAddr .PWR 0 0xC10 = 0x32C10
    ∧ reading (.tallyRead .m1 0x32C10) tallied 9 (fun d => d.captured .m1 .PWR 0 0xC10 == 2 ^ 48 + 5 * 2 ^ 32 + 9) = true
    ∧ reading (.tallyRead .m1 0x32C14) (ran (.tallyRead .m1 0x32C10) tallied) 0x80000005 (fun _ => true) = true
    ∧ reading (.tallyRead .m1 0x32C14) tallied 0 (fun _ => true) = true := by decide +kernel
theorem test_pairRead : rdOk awake .m1 .DEV 0 0x820 = true ∧ rdOk awake .m1 .DEV 0 0x824 = true
    ∧ reading (.pairRead .m1 0x820) (die (fun d => { d with fc := 7 * 2 ^ 32 + 3 }) awake) 3 (fun d => d.captured .m1 .DEV 0 0x820 == 7 * 2 ^ 32 + 3) = true
    ∧ reading (.pairRead .m1 0x824) (ran (.pairRead .m1 0x820) (die (fun d => { d with fc := 7 * 2 ^ 32 + 3 }) awake)) 7 (fun _ => true) = true := by decide +kernel
theorem test_timeRead : rdOk awake .m1 .CEL 0 0x810 = true ∧ rdOk awake .m1 .TB 7 0x810 = true
    ∧ reading (.tbNowRead .m1 0) (cel (fun c => { c with tb0 := (2 * 10 ^ 9 + 5) * 2 ^ 40 }) awake) 5 (fun d => d.captured .m1 .CEL 0 0x810 == 2 * 2 ^ 64 + 5) = true
    ∧ after (.tbNowRead .m1 7) awake (fun t => t.die.captured .m1 .TB 7 0x810 == stampWords (stampOf ((awake.die.tb 7).at awake.die.fc))) = true := by decide +kernel
theorem test_windowRead : rdOk awake .m1 .ENG 7 0x47C = true ∧ rdOk awake .m1 .ENG 7 0x410 = true ∧ awake.die.debug ≠ 3
    ∧ (put R.OWN_DEBUG_REQUEST 0 3 awake).die.debug = 3
    ∧ reading (.windowRead .m1 (blockAddr .ENG 7 0x410)) (put R.OWN_DEBUG_REQUEST 0 3 awake) 0 (fun _ => true) = true
    ∧ reading (.windowRead .m1 (blockAddr .ENG 7 0x47C)) awake 0 (fun _ => true) = true := by decide +kernel
theorem test_capRead : rdOk awake .m1 .CHK 0 0x890 = true ∧ reading (.triginCapRead .m1 7) awake 0 (fun _ => true) = true
    ∧ reading (.triginCapRead .m1 7) (die (fun d => { d with trigIn := [(7, { queue := [5, 6] })] }) awake) 5 (fun d => (d.trigin 7).queue == [6]
        && d.captured .m1 .CHK 0 0x890 == 5 + 2 ^ 64) = true := by decide +kernel

/-- The PCIe link is up with 64 VFs. -/
def hosted : State := put R.PCI_STATUS_NUMVFS 0 64 (put R.PCI_STATUS_LINK_UP 0 1 awake)

theorem test_vfRead : rdOk hosted (.vf 5) .PAS 6 0x010 = true ∧ hosted.die.vfPage 5 .PAS 6 = 2
    ∧ reading (.tallyRead (.vf 5) (blockAddr .PAS 6 0x010)) hosted 0 (fun d => d.tally (T.OWN_VIOLATION 5) 0 == 1) = true := by decide +kernel
theorem test_plainWrite : adm awake .DEV 0 0x014 = true ∧ after (.registerWrite .m1 0x014 0xFFFFFFFF) awake (fun t => t.die.get R.DEV_SCRATCH_VALUE 0 == 0xFFFFFFFF) = true := by
  decide +kernel
theorem test_denied : rdOk hosted .m0 .DEV 0 0x014 = true ∧ hosted.die.holds 0 = false ∧ rdOk hosted (.vf 5) .PAS 5 0xF00 = true
    ∧ after (.registerWrite .m0 0x014 7) hosted (fun t => t.die.get R.DEV_SCRATCH_VALUE 0 == 0 && t.die.tally (T.OWN_OWN_DENIED 0) 0 == 1) = true
    ∧ after (.registerWrite (.vf 5) (blockAddr .PAS 6 0x010) 7) hosted (fun t => t.die.tally (T.OWN_VIOLATION 5) 0 == 1) = true
    ∧ after (.registerWrite (.vf 5) (blockAddr .PAS 5 0xF00) 1) hosted (fun t => t.die.tally (T.OWN_VIOLATION 5) 0 == 1) = true := by decide +kernel
theorem test_partial : hosted.die.pathUp .m0 = true ∧ hosted.die.pathUp (.vf 63) = true
    ∧ after (.partialWrite .m0 0x014 7 1) hosted (fun t => t.die.tally T.PCI_PARTIAL 0 == 1 && t.die.get R.DEV_SCRATCH_VALUE 0 == 0) = true
    ∧ after (.partialWrite .m1 0x014 15 1) hosted (fun t => t.die.get R.DEV_SCRATCH_VALUE 0 == 1) = true := by decide +kernel
theorem test_tallyClear : adm awake .PWR 0 0xC14 = true ∧ rdOk awake .m1 .PWR 0 0xC14 = true ∧ after (.tallyClear .m1 0x32C14 0x80000000) tallied (fun t => t.die.tallies == []) = true
    ∧ after (.tallyClear .m1 0x32C14 0x7FFFFFFF) tallied (fun t => t.die.tallies == tallied.die.tallies) = true := by decide +kernel
theorem test_unlock : rdOk awake .m1 .DEV 0 0xF04 = true ∧ rdOk awake .m1 .ENG 7 0xF04 = true ∧ adm awake .DEV 0 0xF04 = true ∧ adm awake .ENG 7 0xF04 = true
    ∧ after (.unlock .m1 0xF04 1) awake (fun t => t.die.on (pageExpert 0) 0) = true ∧ after (.unlock .m1 0xF04 0x10001) awake (fun t => !(t.die.on (pageExpert 0) 0)) = true
    ∧ after (.relock .m1 0xF04 2) (put (pageExpert 0) 0 1 awake) (fun t => !(t.die.on (pageExpert 0) 0)) = true := by decide +kernel
theorem test_ringEnable : adm awake .CHK 0 0x018 = true ∧ after (.ringEnable .m1 (blockAddr .CHK 0 0x018) 0x10A) (put R.CHK_FAULT_HEAD_VALUE 0 9 awake) (fun t =>
      t.die.on R.CHK_FAULT_CTL_ENABLE 0 && t.die.get R.CHK_FAULT_HEAD_VALUE 0 == 0 && t.die.get R.CHK_FAULT_CTL_LOG2SIZE 0 == 10) = true := by decide +kernel
theorem test_clkstop : adm (put (pageExpert (blockAddr .ENG 7 0)) 0 1 awake) .ENG 7 0x408 = true ∧ adm awake .ENG 7 0x408 = false
    ∧ after (.engClkstop .m1 7 15) (put R.OWN_DEBUG_REQUEST 0 3 (put (pageExpert (blockAddr .ENG 7 0)) 0 1 awake)) (fun t => KMap.get false t.die.stopped 31) = true
    ∧ after (.engClkstop .m1 7 15) (put (pageExpert (blockAddr .ENG 7 0)) 0 1 awake) (fun t => t.die.stopped == []) = true := by decide +kernel
theorem test_smb : after (.smbAddress [0x14, 0, 0, 0] true) awake (fun t => t.die.smbPtr == 0x14) = true
    ∧ after (.smbAddress [0x13, 0, 0, 0] true) awake (fun t => t.die.smbPtr == 0 && t.die.tally T.OWN_SMB_ERR 0 == 1) = true
    ∧ after (.smbWrite [1, 2, 3, 4] true) (die (fun d => { d with smbPtr := 0x14 }) awake) (fun t => t.die.get R.DEV_SCRATCH_VALUE 0 == 0x04030201 && t.die.smbPtr == 0x18) = true
    ∧ after (.smbWrite [1, 2, 3] true) awake (fun t => t.die.tally T.OWN_SMB_ERR 0 == 1) = true ∧ after (.smbUnknownCommand 0x13) awake (fun t => t.die.tally T.OWN_SMB_ERR 0 == 1) = true
    ∧ after (.smbRead [] true) (put R.DEV_SCRATCH_VALUE 0 5 (die (fun d => { d with smbPtr := 0x14 }) awake)) (fun t => t.die.emits.getLast? == some (.smbus [5, 0, 0, 0])
        && t.die.smbPtr == 0x18) = true := by decide +kernel
theorem test_jtag : (put R.OWN_DEBUG_REQUEST 0 3 awake).die.pathUp .m3 = true
    ∧ after (.regacc (BitVec.ofNat 58 (1 + 5 * 4))) (put R.OWN_DEBUG_REQUEST 0 3 (put R.DEV_SCRATCH_VALUE 0 8 awake)) (fun t => t.die.jtagLast == 8) = true
    ∧ after (.regacc (BitVec.ofNat 58 (2 + 5 * 4 + 9 * 2 ^ 26))) (put R.OWN_DEBUG_REQUEST 0 3 (put R.OWN_STATUS_HOLDER 0 3 awake)) (fun t => t.die.get R.DEV_SCRATCH_VALUE 0 == 9) = true := by
  decide +kernel

/-- The kill machine in a state. -/
def killed (k : Kill) : State := { awake with kill := { k with running := true } }
/-- A kill tick leads to a state of the machine. -/
def ticks (c : Instr) (k : Kill) (st : KillState) : Bool := after c (killed k) (fun t => t.kill.st == st && (t.kill.blocked == (st != .idle)))

theorem test_killTick : ticks (.killTick false false) {} .idle = true ∧ ticks (.killTick true true) {} .normal = true ∧ ticks (.killTick true false) {} .wait = true ∧ ticks (.killTick false true) { st := .wait, first := true, n0 := 0, tick := 25000 } .wait = true
    ∧ ticks (.killTick true false) { st := .wait, n0 := 0, tick := 25001 } .fault = true ∧ ticks (.killTick true true) { st := .wait, n0 := 0, tick := 25000 } .normal = true
    ∧ ticks (.killTick true true) { st := .wait, n0 := 0, tick := 25001 } .fault = true ∧ ticks (.killTick true false) { st := .normal } .normal = true ∧ ticks (.killTick false false) { st := .normal } .idle = true
    ∧ ticks (.killTick false false) { st := .fault, clearReq := true } .idle = true ∧ ticks (.killTick false false) { st := .fault } .fault = true
    ∧ after (.killTick true false) (killed { st := .fault, clearReq := true }) (fun t => t.kill.clearRefused && !t.kill.clearReq) = true
    ∧ after (.killTick false false) (killed { pending := true, ntNew := 300 }) (fun t => t.kill.nt == 300 && !t.kill.pending) = true
    ∧ after (.killTick true false) (die (fun d => { d with pins := [(9, { high := true })] }) (killed {})) (fun t => !(KMap.get {} t.die.pins 9).high
        && t.die.tally T.CHK_KILLS 0 == 1) = true := by decide +kernel
theorem test_kill : adm awake .PWR 0 0x020 = true ∧ after (.killClear .m1 0x80000000) (killed { st := .fault, quiet := 25001 }) (fun t => t.kill.clearReq && !t.kill.clearRefused) = true
    ∧ after (.killClear .m1 0x80000000) (killed { st := .fault, quiet := 25000 }) (fun t => !t.kill.clearReq && t.kill.clearRefused) = true
    ∧ after (.killTWrite .m1 250) awake (fun t => t.kill.ntNew == 250 && t.kill.pending && t.kill.nt == 25000) = true
    ∧ after (.killTWrite .m1 249) awake (fun t => t.kill.ntNew == 25000 && !t.kill.pending) = true ∧ after (.killTWrite .m1 2500001) awake (fun t => !t.kill.pending) = true := by decide +kernel

/-- Trigger input 7 enabled, in a state. -/
def input7 (x : TrigIn) : State := put (R.PWR_TRIGIN_ENABLE 7) 0 1 (die (fun d => { d with trigIn := [(7, x)] }) awake)
/-- The pulse of four samples that ends at input 7. -/
def pulse7 (c : Instr) (x : TrigIn) (P : Die → Bool) : Bool := after c (input7 x) (fun t => (t.die.trigin 7).active.isNone && P t.die)

theorem test_triginPulse : pulse7 (.triginPulse 7 100 4 cap0) {} (fun d => (d.trigin 7).queue.length == 1 && (d.trigin 7).lastAcc == some 100) = true
    ∧ pulse7 (.triginPulse 7 100 3 cap0) {} (fun d => (d.trigin 7).queue == [] && d.tally T.CHK_TRIGIN_GLITCH 0 == 1) = true
    ∧ pulse7 (.triginPulse 7 100 4 cap0) { queue := List.replicate 16 1 } (fun d => (d.trigin 7).queue.length == 16 && d.tally T.CHK_TRIGIN_CAP_OVF 0 == 1) = true
    ∧ after (.triginPulse 7 100 4 cap0) (put (R.PWR_TRIGIN_DEAD 7) 0 1 (input7 { lastAcc := some 85 })) (fun t => t.die.tally (T.CHK_TRIGIN_RATE_DROP 7) 0 == 1) = true
    ∧ after (.triginPulse 7 100 4 cap0) (put (R.PWR_TRIGIN_DEAD 7) 0 1 (input7 { lastAcc := some 84 })) (fun t => (t.die.trigin 7).queue.length == 1) = true
    ∧ after (.triginPulse 7 100 4 cap0) (put R.CHK_TRIGIN_STATUS_MASKED 0 0x80 (input7 {})) (fun t => (t.die.trigin 7).queue == []) = true := by decide +kernel
theorem test_triginStuck : after (.triginStuck ⟨7, cap0⟩) (input7 {}) (fun t => t.die.trigMasked 7 && !(t.die.trigMasked 6) && t.die.tally (T.CHK_TRIGIN_STUCK 7) 0 == 1) = true := by
  decide +kernel
theorem test_triginConfig : adm awake .PWR 0 0x05C = true ∧ awake.die.on (pageLock (blockAddr .PWR 0 0)) 0 = false
    ∧ after (.triginConfigWrite .m1 7 0x03000509) awake (fun t => t.die.on (R.PWR_TRIGIN_ENABLE 7) 0 && t.die.on (R.PWR_TRIGIN_POL 7) 0 && t.die.get (R.PWR_TRIGIN_DEAD 7) 0 == 5
        && t.die.get (R.PWR_TRIGIN_MINW 7) 0 == 9) = true
    ∧ after (.triginConfigWrite .m1 7 4) (input7 { queue := [5] }) (fun t => (t.die.trigin 7).queue == []) = true
    ∧ after (.unmask .m1 7 0x81000004 false) (put R.CHK_TRIGIN_STATUS_MASKED 0 0x80 (input7 {})) (fun t => !(t.die.trigMasked 7)) = true
    ∧ after (.unmask .m1 7 0x81000004 true) (put R.CHK_TRIGIN_STATUS_MASKED 0 0x80 (input7 {})) (fun t => t.die.trigMasked 7
        && t.die.on R.CHK_TRIGIN_STATUS_UNMASK_REFUSED 0) = true := by decide +kernel

/-- Code groups of IEEE 802.3 clause 36 (log 142): K28.5, /S/ and /T/ at both disparities, D0.0, D10.2, and D17.7, D11.7 with A7. -/
theorem test_codeGroups : codeGroup false comma = 0b0011111010 ∧ codeGroup true comma = 0b1100000101 ∧ codeGroup false symS = 0b1101101000
    ∧ codeGroup true symT = 0b0100010111 ∧ codeGroup false (.data 0) = 0b1001110100 ∧ codeGroup true (.data 0) = 0b0110001011
    ∧ codeGroup false (.data 0x4A) = 0b0101010101 ∧ codeGroup false (.data 0xF1) = 0b1000110111 ∧ codeGroup true (.data 0xEB) = 0b1101001000 := by decide +kernel
theorem test_decode : lineSyms (onLine idleWord) = idleWord.map some ∧ lineErrs ⟨false, [0]⟩ = 4 ∧ lineErrs ⟨true, (onLine idleWord).words⟩ = 1
    ∧ (packWords (encodeSyms true idleWord).1).length = 1 := by decide +kernel
/-- The check value of CRC-32: that of the nine digits. -/
theorem test_fcs : fcs [0x31, 0x32, 0x33, 0x34, 0x35, 0x36, 0x37, 0x38, 0x39] = 0xCBF43926 ∧ (ethLine [1]).length = 13 := by decide +kernel

/-- Parser 64 runs the record of an older frame to its end, behind which another frame has come. -/
def tailed : State :=
  holding 0 { im0 with engines := [{ engine := 0, quarters := 1, fold := 0, ii := 1, stages := 1, slots := 1 }] }
    (pSt { atP 0 with tails := [{ closing := [⟨none, 5, 0, List.replicate 40 0⟩], srcCode := 64 }] })

theorem test_tails : (tailed.die.parser 64).tails.length = 1
    ∧ after (.recordAssembled ⟨64, 0⟩) tailed (fun t => (t.die.parser 64).tails == [] && (t.die.parser 64).busy && (t.die.feeds.map (fun f => f.2.length)) == [1]) = true
    ∧ after (.ethFrameRx 0 udpFrame {} ⟨0, 0⟩) (die (Die.putParser 64 { atP 0 with running := false, fcsDue := true }) port0) (fun t =>
        (t.die.parser 64).running && (t.die.parser 64).tails.length == 1) = true := by decide +kernel

/-- A STATE table with WRITEBACK at the feed of parser 0, its key free of markers. -/
def larderWb : State := die (Die.onPas 0 (fun q => { q with image := some { im0 with tables := [{ tab2 with cls := 1, wback := 1 }] } })) larder0

theorem test_lookupMarks : after (.larderLookup 0 0) larderWb (fun t => (t.die.larder 0).markers == [(2, 5, 1)]) = true
    ∧ after (.larderLookup 0 0) (die (fun d => d.onLar 0 (fun x => { x with markers := [(2, 5, 9)] })) larderWb) (fun t => t.die.looked == []
        && (KMap.get [] t.die.feeds 0).length == 1) = true := by decide +kernel

/-- The row words 11 and 13 of pasture 0 are free. -/
def scattered (op : Nat) : State := die (fun d => d.onLar 0 (fun x => { x with alloc := [(10, [10, 12])] })) (rb op 2 16 4)

theorem test_rbSpread : (scattered 1).die.freeRuns 0 2 = [] ∧ freeWords 10 14 [10, 12] 2 = [11, 13]
    ∧ after (.rbPut 0) (scattered 1) (fun t => t.die.dir.map (fun y => y.2) == [some ⟨5, 2, 11⟩] && t.die.rowAt 0 11 2 == [11, 13]) = true
    ∧ after (.rbDefault 0) (scattered 3) (fun t => KMap.get 0 (t.die.larder 0).defShadow 2 == 11) = true := by decide +kernel

theorem test_partLoad : bare.die.loadTurn 0 = true
    ∧ after (.loadDone 0) (die (fun d => { d with loads := [(0, 1, 0, 4)] }) bare) (fun t => t.die.qstate 0 0 == 3 && t.die.get R.ENG_STATUS_LOAD_RESULT 0 == 3) = true
    ∧ after (.stall 0 ⟨0, true⟩) (die (fun d => { d with eng := [(0, { flight := [0] })] }) bare) (fun t => t.die.qstate 0 0 == 0
        && t.die.get R.ENG_STATUS_LOAD_RESULT 0 == 3) = true
    ∧ after (.badOpcode 119 7 ⟨31, true⟩) bare (fun t => t.die.qstate 0 0 == 0) = true := by decide +kernel
theorem test_calStartBad : after (.calStart .m1 0 0x0100FFFF) (die (Die.onPas 0 (fun q => { q with
      image := some { im0 with tensors := [ten, { ten with id := 3, mode := 1 }], engines := [{ engine := 0, quarters := 1, fold := 0, ii := 1, stages := 1, slots := 4 }] } })) (calSt 0 {}))
      (fun t => t.die.get R.FAB_CAL_STATUS_RESULT 0 == 6 && t.die.get R.FAB_CAL_STATUS_TENSOR 0 == 3) = true := by decide +kernel

theorem test_tbStepOne : after (.tbStepApply 1) (die (fun d => { d with tbs := [(1, { steps := [65536], segs := [⟨0, 2 ^ 41, 0, true⟩] })] }) (tbOn 1)) (fun t =>
      (t.die.tb 1).steps == [] && (t.die.tb 1).segs.length == 2 && t.die.tally T.TB_STEPS 1 == 1) = true
    ∧ after (.tbStepApply 1) (tbOn 1) (fun t => t == tbOn 1) = true := by decide +kernel
theorem test_sourceAgain : after (.sourceSelect .m1 0x1F34) (cel (fun c => c.put R.CEL_DISC_SOURCE 4) awake) (fun t => t.cel.get R.CEL_DISC_SOURCE == 4
      && t.cel.get R.CEL_DISC_PORT == 3 && t.cel.celQ == []) = true := by decide +kernel
theorem test_bigStep : (match step (cel (fun c => { c.put R.CEL_CONTROL_AUTH0 1 with steps := [65536001] }) awake) with
      | .next t => t.cel.get R.CEL_CONTROL_AUTH0 == 0 && t.cel.celQ.length == 1 | _ => false) = true := by decide +kernel
/-- A signed message for the sealed Cellar whose COMMAND is 3. -/
def oddMsg : State :=
  sealing (0xb6f1723171c6ea5a67bf9b6159d6b6737a1859ecd4fc37ce7bc7217772bcb6ad39c797515ef0218643e598e1335ffa8d,
    0x8c0377f3621c40727b316baa45954d825d45d9db50de2a4f6294e178fb97020f08c7610a86ed9d899e0566488876bb50) 2
    ([3, 0, 0, 0] ++ leBytes 8 2 ++ List.replicate 36 0 ++ [4] ++ List.replicate 15 0) (cel (fun c => { c with sealed := true, sealRecord := c.settings.image }) awake)

theorem test_sealOdd : oddMsg.cel.sealCheck oddMsg.fused (oddMsg.die.hostRead 0 0 160) = 0
    ∧ after (.sealGo .m1 2) oddMsg (fun t => t.cel.sealed && t.die.free == 1) = true := by decide +kernel
theorem test_calBusy : after (.cellarCalStart .m1 0x78) (calRuns 5) (fun t => t.cel.get R.CEL_STATUS_CAL_BUSY == 1 && t.cel.calEdges == 16) = true
    ∧ after (.calDone ⟨[]⟩) (cel (fun c => { c with calEdges := 15 }) (calRuns 5)) (fun t => t.cel.get R.CEL_STATUS_CAL_BUSY == 1) = true := by decide +kernel

theorem test_laneFirst : (act63 { b := { waits := [[1]] } }).die.firstOnLane 63 = true
    ∧ after (.frameStart 2 63 0) (act63 { b := { waits := [[1]] } }) (fun t => t == act63 { b := { waits := [[1]] } }) = true := by decide +kernel
/-- Pasture 1's slot on port 3 begins 2 ns into every 4 ns. -/
def slotted : State := die (Die.onPas 1 (fun q => { q with image := some { im0 with slotRes := [{ kind := 1, port := 3, period := 4, phase := 2, len := 1 }] }, adm := true })) (ptpRing 60)

theorem test_ptpCrosses : slotted.die.crossesSlot 64 1 3 (slotted.die.boundary 1 3 slotted.die.now21 (slotted.die.now21 + slotted.die.dtx 1 3)) 60 = true
    ∧ after (.ptpTx 3 cap0) slotted (fun t => t == slotted) = true := by decide +kernel
theorem test_noSet : readTs1 (onLine idleWord) = none ∧ lineErrs (onLine idleWord) = 0
    ∧ lane_ (.ts1 63 (onLine idleWord)) (lane63 2 { ts1Run := 7, ts1Locked := 7 }) 2 (fun d => (d.lane 63).ts1Run == 0 && (d.lane 63).ts1Locked == 0) = true := by decide +kernel
/-- An idle word whose last code group is none of the code. -/
def oneErr : LineWords := ⟨false, [BitVec.ofNat 40 (((onLine idleWord).words.headD 0).toNat / 1024 * 1024)]⟩

theorem test_codeErr : lineErrs oneErr = 1
    ∧ lane_ (.idleWord ⟨63, oneErr⟩) (lane63 2 { errors := 3 }) 2 (fun d => (d.lane 63).errors == 4 && d.tally T.LNK_CODE_ERR 63 == 1) = true
    ∧ lane_ (.idleWord ⟨63, oneErr⟩) (lane63 1 {}) 1 (fun d => d.tallies == []) = true := by decide +kernel
theorem test_lnkLowProfile : (put R.PWR_STATUS_PROFILE 0 2 awake).die.lowProfile = true
    ∧ after (.lnkControl .m1 32 1) (put R.PWR_STATUS_PROFILE 0 2 awake) (fun t => !(t.die.on R.LNK_CONTROL_ENABLE 32) && t.die.laneState 32 == 0) = true
    ∧ after (.lnkControl .m1 31 1) (put R.PWR_STATUS_PROFILE 0 2 awake) (fun t => t.die.on R.LNK_CONTROL_ENABLE 31) = true
    ∧ after (.ethControl .m1 8 1) (die (fun d => { d with profilePending := some 2 }) awake) (fun t => !(t.die.on R.ETH_CONTROL_ENABLE 8)) = true := by decide +kernel
/-- Lane 63 has each of these to send: a NAK and a frame of B that the limit holds, a NAK of R, an R frame. -/
def ordered (b r : Rel) : Die := (act63 { b := b, r := r }).die
/-- The first words that the lane sends. -/
def firstOut (b r : Rel) : List Emit := ((ordered b r).lineTurn 63).emits

theorem test_order : firstOut { resend := [(3, [1])], waits := [[2]], nakDue := some 5 } { nakDue := some 6 } = [.line 63 800000 (onLine (relSyms 2 3 [1])).words]
    ∧ firstOut { waits := [[2]], nakDue := some 5 } {} = [.line 63 800000 (onLine (relSyms 2 0 [2])).words]
    ∧ firstOut { nakDue := some 5, ackDue := true } { resend := [(1, [])] } = [.line 63 800000 (onLine (controlSyms true 2 5)).words]
    ∧ firstOut { reack := true, exp := 8 } { nakDue := some 6 } = [.line 63 800000 (onLine (controlSyms false 2 7)).words]
    ∧ firstOut {} { nakDue := some 6, ackDue := true } = [.line 63 800000 (onLine (controlSyms true 1 6)).words]
    ∧ firstOut {} { ackDue := true, waits := [[9]] } = [.line 63 800000 (onLine (controlSyms false 1 4095)).words]
    ∧ firstOut {} { ackDue := true, ackAt := some 21000000000, waits := [[9]] } = [.line 63 800000 (onLine (relSyms 1 0 [9])).words]
    ∧ firstOut {} {} = [] := by decide +kernel
theorem test_fecLost : after (.linkDown 15 4) (put R.ETH_CONTROL_FEC 15 1 (put R.ETH_STATUS_FEC_LOCK 15 1 (eth15 1))) (fun t => !(t.die.on R.ETH_STATUS_ACTIVE 15)
      && !(t.die.on R.ETH_STATUS_FEC_LOCK 15) && t.die.on R.ETH_STATUS_BLOCK_LOCK 15) = true
    ∧ after (.linkDown 15 2) (eth15 1) (fun t => t.die.emits == [.fault 15 true]) = true
    ∧ after (.blockLockGained ⟨15, true, true⟩) (put R.ETH_CONTROL_MEDIA 15 1 (put R.ETH_STATUS_BLOCK_LOCK 15 0 (eth15 0))) (fun t => !(t.die.on R.ETH_STATUS_BLOCK_LOCK 15)) = true := by
  decide +kernel
theorem test_launchAtReplay : after (.launchAt 0) (put R.FAB_REPLAY_ENABLE 0 1 workerIm) (fun t => t.die.launch == [] && (t.die.lane 0).r.buf == []) = true := by
  decide +kernel
theorem test_cancelCommitted : after (.cancelAll 0) (die (fun d => { d with launch := [(2, [{ ent3 with agreed := true }, { ent3 with agreed := true }])]
                                                                            ports := [(67, { line := [⟨{ ent3 with agreed := true }, 0⟩] })] })
      (flocked 1 0 3 [(0, gotB (flkMsg 12 0 0 []))])) (fun t => (KMap.get [] t.die.launch 2).length == 1) = true := by decide +kernel
set_option maxRecDepth 100000 in
theorem test_tagPath : after (.tagCheckFail { tagged true 9 [3] with data1 := [2], tag1 := 9 }) awake (fun t => t.die.tally T.CHK_PATH 0 == 1
      && t.die.tally T.CHK_TAG_POISON 0 == 1 && KMap.get false t.die.poison (eccKey 1 7)) = true := by decide +kernel
theorem test_musterLost : after (.musterDone 0 ⟨none, 1⟩) (die (fun d => { d with shd := [(0, { muster := true, wasRunning := 1 })] }) bare) (fun t =>
      t.die.qstate 0 0 == 0) = true := by decide +kernel
theorem test_clockClash : timed 0x80000001 (die (fun d => { d with profilePending := some 2 }) pllUp) 3 = true
    ∧ timed 0x80000020 (put R.PWR_STATUS_PROFILE 0 1 pllUp) 3 = true
    ∧ profiled (.profileApply .m1 0x80000002) (die (fun d => { d with timingPending := some (1, 0) }) awake) 2 = true := by decide +kernel
theorem test_stuckCapture : after (.triginStuck ⟨7, cap0⟩) (input7 { active := some 9 }) (fun t => (t.die.trigin 7).queue == [16000000]
      && (t.die.trigin 7).active == some 9) = true := by decide +kernel

theorem test_reset_kill : State.reset.kill.inOrder := by unfold Kill.inOrder; decide +kernel
theorem test_reset_cellar : State.reset.cel.inOrder := by unfold Cellar.inOrder; decide +kernel
theorem test_sealedInOrder : Cellar.inOrder { sealed := true, sealRecord := Settings.image {}, breaks := 31 } := by unfold Cellar.inOrder; decide +kernel
theorem test_killBoundary : Kill.inOrder { nt := 250, ntNew := 2500000, st := .fault, clearReq := true } ∧ Kill.inOrder { blocked := false } := by unfold Kill.inOrder; decide +kernel
theorem test_stepRuns : (match step { awake with pending := [.killTick true true, .sysReset] } with
    | .next t => t.kill.st == .normal && t.pending == [.sysReset] | _ => false) = true := by decide +kernel
theorem test_blockedLow : (killed { st := .wait }).kill.blocked = true ∧ (KMap.get {} (killed { st := .wait }).die.pins 0).high = false
    ∧ after (.killTick false false) (killed { st := .wait }) (fun t => t.kill.blocked) = true := by decide +kernel
theorem test_completes : (Instr.vfFlr 63).wellFormed = true ∧ after (.vfFlr 63) State.reset (fun _ => true) = true := by decide +kernel
theorem test_expertLocked : rdOk awake .m1 .ENG 7 0x47C = true ∧ Block.expert .ENG = true ∧ windowAt .ENG 0x47C = true ∧ awake.die.holds 1 = true
    ∧ after (.registerWrite .m1 (blockAddr .ENG 7 0x400) 5) awake (fun t => t.die.tally T.OWN_EXPERT_DENIED 0 == 1 && t.die.get R.ENG_WIN_SEL_TILE 7 == 0) = true := by
  decide +kernel

end Sys2Proof.Tests
end

section
/-! SUPPORT. What the operations of the machine leave of the Cellar's seal (R1, R397, R400): one law per operation that reaches the Cellar, that the
settings in force, the seal and the seal-break count stand. -/

namespace Sys2Proof.Machine

/-- What a sealed Cellar holds fast (R1, R397): the settings in force, the seal, and the seal-break count. -/
def Cellar.sealView (c : Cellar) : Settings × Bool × Nat := (c.settings, c.sealed, c.breaks)

/-- A fold keeps what each of its steps keeps. -/
theorem foldl_keeps {σ β γ : Type} (g : σ → γ) (f : σ → β → σ) (h : ∀ s b, g (f s b) = g s) (l : List β) (s : σ) : g (l.foldl f s) = g s := by
  induction l generalizing s with
  | nil => rfl
  | cons b l ih => exact (ih _).trans (h s b)

@[simp] theorem State.sealView_ite {p : Prop} [Decidable p] (s t : State) :
    (if p then s else t).cel.sealView = if p then s.cel.sealView else t.cel.sealView := by split <;> rfl

/-- A choice of two states keeps what both keep. -/
theorem sealView_of_ite {p : Prop} [Decidable p] {s t : State} {v : Settings × Bool × Nat} (hs : s.cel.sealView = v) (ht : t.cel.sealView = v) :
    (if p then s else t).cel.sealView = v := by split <;> assumption

@[simp] theorem Cellar.sealView_ite {p : Prop} [Decidable p] (c e : Cellar) :
    (if p then c else e).sealView = if p then c.sealView else e.sealView := by split <;> rfl

/-! Operations of the Cellar alone. -/

@[simp] theorem Cellar.put_sealView (f : Fld) (v : Nat) (c : Cellar) : (c.put f v).sealView = c.sealView := rfl

@[simp] theorem Cellar.record_sealView (a b : Nat) (mid tail : List Byte) (c : Cellar) : (c.record a b mid tail).sealView = c.sealView := rfl

@[simp] theorem Cellar.sourceRecord_sealView (c : Cellar) : c.sourceRecord.sealView = c.sealView := rfl

@[simp] theorem Cellar.step_sealView (v : Int) (owner : Bool) (c : Cellar) : (c.step v owner).sealView = c.sealView := rfl

@[simp] theorem Cellar.release_sealView (n : Nat) (c : Cellar) : (c.release n).sealView = c.sealView := rfl

@[simp] theorem Cellar.launchRecord_sealView (x : LaunchInfo) (fc tb : Nat) (c : Cellar) : (c.launchRecord x fc tb).sealView = c.sealView := rfl

@[simp] theorem Cellar.checkpoint_sealView (c : Cellar) : c.checkpoint.sealView = c.sealView := rfl

@[simp] theorem Cellar.keepPtp_sealView (t tag : Nat) (sent : Bool) (tb : Nat) (c : Cellar) : (c.keepPtp t tag sent tb).sealView = c.sealView := by
  unfold Cellar.keepPtp; split <;> rfl

@[simp] theorem Cellar.hashRecord_sealView (r : AuditRec) (n : Nat) (c : Cellar) : (c.hashRecord r n).sealView = c.sealView := by
  unfold Cellar.hashRecord; dsimp only; split <;> rfl

@[simp] theorem Cellar.calStart_sealView (c : Cellar) : c.calStart.sealView = c.sealView := by
  unfold Cellar.calStart; split_ifs <;> rfl

@[simp] theorem Cellar.nsTick_sealView (c : Cellar) : c.nsTick.sealView = c.sealView := by
  unfold Cellar.nsTick; split <;> rfl

@[simp] theorem WField.writeCel_sealView (x : WField) (w : Nat) (c : Cellar) : (x.writeCel w c).sealView = c.sealView := by
  unfold WField.writeCel; dsimp only; split
  · split <;> rfl
  · rfl
  · rfl

@[simp] theorem Cellar.setFields_sealView (off w : Nat) (c : Cellar) : (c.setFields off w).sealView = c.sealView :=
  foldl_keeps Cellar.sealView _ (fun c x => x.writeCel_sealView w c) _ c

/-- A power-up takes the settings of a sealed Cellar from its OTP, where they stand (R397). -/
theorem Cellar.powerUp_sealView (fu : Fused) (c : Cellar) (h : c.sealed = true) : (c.powerUp fu).sealView = c.sealView := by
  simp [Cellar.powerUp, Cellar.sealView, Cellar.record, h]

/-! Egress, ingress and decisions: reservations of the launch queue alone. -/

@[simp] theorem State.reserve_sealView (p : Nat) (s : State) : (s.reserve p).cel.sealView = s.cel.sealView := by
  unfold State.reserve; split <;> rfl

@[simp] theorem State.actTrig_sealView (c : ActCtx) (pin w : Nat) (s : State) : (s.actTrig c pin w).cel.sealView = s.cel.sealView := by
  simp [State.actTrig]

@[simp] theorem State.enqueue_sealView (e : LaunchEnt) (s : State) : (s.enqueue e).cel.sealView = s.cel.sealView := by
  simp [State.enqueue]

@[simp] theorem State.actLaunch_sealView (c : ActCtx) (t : Template) (x : LaunchDesc) (ps : List (Nat × List Byte)) (pl : List Byte) (a : Option Nat)
    (s : State) : (s.actLaunch c t x ps pl a).cel.sealView = s.cel.sealView := by
  simp [State.actLaunch]

@[simp] theorem State.reflexAct_sealView (c : ActCtx) (rb : List Byte) (i : Nat) (x : Reflex) (s : State) :
    (s.reflexAct c rb i x).cel.sealView = s.cel.sealView := by
  unfold State.reflexAct
  refine sealView_of_ite rfl (sealView_of_ite rfl (sealView_of_ite (State.actTrig_sealView _ _ _ _) ?_))
  split
  · rfl
  · split
    · rfl
    · split
      · rfl
      · exact State.actLaunch_sealView _ _ _ _ _ _ _

@[simp] theorem State.reflexStage_sealView (g : Nat) (r : EvRec) (s : State) : (s.reflexStage g r).cel.sealView = s.cel.sealView := by
  unfold State.reflexStage
  dsimp only
  cases s.die.image r.pasture with
  | none => rfl
  | some im =>
    simp only [↓State.sealView_ite, ite_self]
    refine (foldl_keeps (fun s : State => s.cel.sealView) _ (fun s x => s.reflexAct_sealView _ _ _ _) _ _).trans ?_
    simp

@[simp] theorem State.assemble_sealView (g n : Nat) (s : State) : (s.assemble g n).cel.sealView = s.cel.sealView := by
  unfold State.assemble
  dsimp only
  split
  · rfl
  · exact sealView_of_ite rfl (sealView_of_ite rfl (State.reflexStage_sealView _ _ _))

@[simp] theorem State.releaseHeld_sealView (g : Nat) (rs : List EvRec) (s : State) : (s.releaseHeld g rs).cel.sealView = s.cel.sealView := by
  induction rs generalizing s with
  | nil => rfl
  | cons r rs ih => exact (ih _).trans (State.reflexStage_sealView g r s)

@[simp] theorem State.fcsResult_sealView (g : Nat) (ok : Bool) (s : State) : (s.fcsResult g ok).cel.sealView = s.cel.sealView := by
  unfold State.fcsResult
  exact sealView_of_ite rfl (sealView_of_ite (State.releaseHeld_sealView _ _ _) rfl)

@[simp] theorem State.ptpReceive_sealView (t : Nat) (bs : List Byte) (cap : Capture) (s : State) :
    (s.ptpReceive t bs cap).cel.sealView = s.cel.sealView := by
  unfold State.ptpReceive
  exact sealView_of_ite (Cellar.keepPtp_sealView _ _ _ _ _) (Cellar.keepPtp_sealView _ _ _ _ _)

@[simp] theorem State.ethFrame_sealView (t : Nat) (bs : List Byte) (f : RxFaults) (cap : Capture) (s : State) :
    (s.ethFrame t bs f cap).cel.sealView = s.cel.sealView := by
  unfold State.ethFrame
  refine sealView_of_ite rfl (sealView_of_ite rfl (sealView_of_ite rfl (sealView_of_ite (State.ptpReceive_sealView _ _ _ _) ?_)))
  split
  · rfl
  · split <;> rfl

@[simp] theorem State.laneFrame_sealView (l : Nat) (k : SteerKey) (bs : List Byte) (src : Nat) (cap : Capture) (s : State) :
    (s.laneFrame l k bs src cap).cel.sealView = s.cel.sealView := by
  unfold State.laneFrame
  refine sealView_of_ite rfl ?_
  split <;> rfl

@[simp] theorem State.rawFrame_sealView (l : Nat) (bs : List Byte) (cap : Capture) (s : State) :
    (s.rawFrame l bs cap).cel.sealView = s.cel.sealView := by
  unfold State.rawFrame
  exact sealView_of_ite rfl (sealView_of_ite (State.laneFrame_sealView _ _ _ _ _ _) (sealView_of_ite rfl rfl))

@[simp] theorem State.sFrame_sealView (l : Nat) (f : LinkFrame) (s : State) : (s.sFrame l f).cel.sealView = s.cel.sealView := by
  unfold State.sFrame
  exact sealView_of_ite rfl (sealView_of_ite (sealView_of_ite (State.laneFrame_sealView _ _ _ _ _ _) rfl) (State.laneFrame_sealView _ _ _ _ _ _))

@[simp] theorem State.sFrameRx_sealView (l : Nat) (f : LinkFrame) (s : State) : (s.sFrameRx l f).cel.sealView = s.cel.sealView := by
  unfold State.sFrameRx
  exact sealView_of_ite (State.sFrame_sealView _ _ _) rfl

@[simp] theorem State.decide_sealView (e : Nat) (v : Decision) (s : State) : (s.decide_ e v).cel.sealView = s.cel.sealView := by
  unfold State.decide_
  refine sealView_of_ite (sealView_of_ite rfl rfl) (sealView_of_ite (foldl_keeps (fun s : State => s.cel.sealView) _ (by intros; rfl) _ _) ?_)
  refine Eq.trans (sealView_of_ite rfl rfl) (Eq.trans (sealView_of_ite ?_ rfl) (sealView_of_ite (State.actTrig_sealView _ _ _ _) rfl))
  split
  · rfl
  · split
    · split
      · exact State.actLaunch_sealView _ _ _ _ _ _ _
      · rfl
    · rfl
    · rfl

@[simp] theorem State.decisionExit_sealView (e n : Nat) (s : State) : (s.decisionExit e n).cel.sealView = s.cel.sealView := by
  unfold State.decisionExit
  split
  · rfl
  · extract_lets span n u
    have hu : u.cel.sealView = s.cel.sealView := sealView_of_ite rfl rfl
    split
    · refine sealView_of_ite hu ((State.decide_sealView _ _ _).trans hu)
    · exact hu
    · exact hu

@[simp] theorem State.agreedLaunch_sealView (m : List Byte) (s : State) : (s.agreedLaunch m).cel.sealView = s.cel.sealView := by
  unfold State.agreedLaunch
  dsimp only
  split
  · rfl
  · split
    · rfl
    · split
      · exact sealView_of_ite rfl (State.actLaunch_sealView _ _ _ _ _ _ _)
      · rfl

/-! Launch. -/

@[simp] theorem State.discardLaunches_sealView (sel : LaunchEnt → Bool) (t : Tal) (ix : LaunchEnt → Nat) (s : State) :
    (s.discardLaunches sel t ix).cel.sealView = s.cel.sealView := Cellar.release_sealView _ _

@[simp] theorem State.cancelAgreed_sealView (s : State) : s.cancelAgreed.cel.sealView = s.cel.sealView := s.discardLaunches_sealView _ _ _

@[simp] theorem flkControlW_sealView (w : Nat) (s : State) : (flkControlW w s).cel.sealView = s.cel.sealView := by
  unfold flkControlW
  dsimp only
  split
  · rfl
  · exact sealView_of_ite rfl rfl
  · exact sealView_of_ite rfl rfl
  · exact sealView_of_ite (State.cancelAgreed_sealView _) rfl
  · exact sealView_of_ite rfl rfl
  · rfl

@[simp] theorem State.slotsRetired_sealView (p : Nat) (s : State) : (s.slotsRetired p).cel.sealView = s.cel.sealView := by
  simp [State.slotsRetired]

/-- The reservation of an audited entry is released, or none is held. -/
theorem Cellar.releaseIf_sealView (b : Bool) (n : Nat) (c : Cellar) : (if b then c.release n else c).sealView = c.sealView := by
  split <;> rfl

@[simp] theorem State.dropPoisoned_sealView (k : Nat) (s : State) : (s.dropPoisoned k).cel.sealView = s.cel.sealView := by
  unfold State.dropPoisoned
  split
  · rfl
  · rfl
  · exact sealView_of_ite (Cellar.releaseIf_sealView _ _ _) rfl

@[simp] theorem State.frameStart_sealView (kind n b : Nat) (s : State) : (s.frameStart kind n b).cel.sealView = s.cel.sealView := by
  have hdrop := foldl_keeps (fun s : State => s.cel.sealView) _ (fun s k => s.dropPoisoned_sealView k) (List.range 512) s
  unfold State.frameStart
  refine sealView_of_ite ?_ rfl
  generalize (List.range 512).foldl (fun s k => s.dropPoisoned k) s = u at hdrop
  dsimp only
  split <;> exact hdrop

@[simp] theorem State.dropSched_sealView (key : Nat) (e : LaunchEnt) (t : Tal) (i : Nat) (s : State) :
    (s.dropSched key e t i).cel.sealView = s.cel.sealView := Cellar.releaseIf_sealView _ _ _

@[simp] theorem State.launchCommit_sealView (kind n : Nat) (s : State) : (s.launchCommit kind n).cel.sealView = s.cel.sealView := by
  unfold State.launchCommit
  dsimp only
  split
  · rfl
  · exact sealView_of_ite rfl (sealView_of_ite (State.dropSched_sealView _ _ _ _ _) (sealView_of_ite (State.dropSched_sealView _ _ _ _ _)
      (sealView_of_ite (State.dropSched_sealView _ _ _ _ _) (sealView_of_ite (State.dropSched_sealView _ _ _ _ _) rfl))))

@[simp] theorem State.trigEdge_sealView (pin : Nat) (cap : Capture) (s : State) : (s.trigEdge pin cap).cel.sealView = s.cel.sealView := by
  unfold State.trigEdge
  dsimp only
  split
  · rfl
  · simp

@[simp] theorem State.firstBit_sealView (kind n : Nat) (cap : Capture) (k : Nat) (s : State) :
    (s.firstBit kind n cap k).cel.sealView = s.cel.sealView := by
  unfold State.firstBit
  dsimp only
  split
  · rfl
  · refine sealView_of_ite rfl ?_
    simp

@[simp] theorem State.portDown_sealView (p q : Nat) (s : State) : (s.portDown p q).cel.sealView = s.cel.sealView := by
  unfold State.portDown
  dsimp only
  split
  · rfl
  · exact sealView_of_ite rfl (Cellar.releaseIf_sealView _ _ _)

@[simp] theorem State.ptpSend_sealView (t : Nat) (cap : Capture) (s : State) : (s.ptpSend t cap).cel.sealView = s.cel.sealView := by
  unfold State.ptpSend
  exact sealView_of_ite (sealView_of_ite rfl (sealView_of_ite rfl (Cellar.keepPtp_sealView _ _ _ _ _))) rfl

end Sys2Proof.Machine
end

section
/-! SUPPORT. What reads, resets, power, pins and checks leave of the Cellar's seal, and the Cellar's own operations on a sealed Cellar (R1, R397). -/

namespace Sys2Proof.Machine

/-! Reads: the Cellar stands. -/

@[simp] theorem State.windowWord_cel (s : State) (k loc : Nat) (t : Option Nat) (v : Nat) : (s.windowWord k loc t v).2.cel = s.cel := by
  unfold State.windowWord
  dsimp only
  split_ifs <;> rfl

@[simp] theorem State.itemRead_cel (s : State) (src : Source) (b : Block) (i first n : Nat) : (s.itemRead src b i first n).2.cel = s.cel := by
  unfold State.itemRead
  cases b with
  | ETH => dsimp only; split <;> rfl
  | CHK => dsimp only; split <;> rfl
  | ENG => dsimp only; split
           · exact s.windowWord_cel _ _ _ _
           · rfl
  | LRD => exact s.windowWord_cel _ _ _ _
  | UPD => dsimp only; split <;> rfl
  | FAB => dsimp only; split <;> rfl
  | _ => rfl

@[simp] theorem State.itemWord_cel (s : State) (src : Source) (b : Block) (i first n off : Nat) :
    (s.itemWord src b i first n off).2.cel = s.cel := by
  unfold State.itemWord
  dsimp only
  split
  · exact s.itemRead_cel _ _ _ _ _
  · rfl

@[simp] theorem State.tallyWord_cel (s : State) (src : Source) (b : Block) (i lo off : Nat) : (s.tallyWord src b i lo off).2.cel = s.cel := by
  unfold State.tallyWord
  dsimp only
  split <;> rfl

@[simp] theorem State.scaleWord_cel (s : State) (p : Nat) : (s.scaleWord p).2.cel = s.cel := by
  unfold State.scaleWord
  dsimp only
  split
  · rfl
  · split <;> rfl

@[simp] theorem State.pageWord_cel (s : State) (src : Source) (b : Block) (i off : Nat) : (s.pageWord src b i off).2.cel = s.cel := by
  unfold State.pageWord
  iterate 6 (split; · rfl)
  split
  · split
    · rfl
    · exact s.tallyWord_cel _ _ _ _ _
  · split
    · exact s.scaleWord_cel _
    · split
      · exact s.itemWord_cel _ _ _ _ _ _
      · rfl

@[simp] theorem State.busRead_cel (src : Source) (a : Nat) (s : State) : (s.busRead src a).2.cel = s.cel := by
  unfold State.busRead
  dsimp only
  split_ifs
  · rfl
  · split
    · rfl
    · rfl
    · split_ifs
      · rfl
      · split
        · split
          · exact s.pageWord_cel _ _ _ _
          · rfl
          · rfl
        · exact s.pageWord_cel _ _ _ _

@[simp] theorem State.readAt_cel (src : Source) (a : Nat) (s : State) : (s.readAt src a).cel = s.cel := by
  unfold State.readAt
  split
  · exact s.busRead_cel src a
  · rfl

@[simp] theorem State.readWords_cel (a n : Nat) (s : State) : (s.readWords a n).2.cel = s.cel := by
  induction n generalizing a s with
  | zero => rfl
  | succ n ih => exact (ih _ _).trans (s.busRead_cel _ _)

/-! Resets, states of power and of life, checks, pins. -/

@[simp] theorem State.keepReserved_sealView (s : State) : s.keepReserved.cel.sealView = s.cel.sealView := by
  simp only [State.keepReserved, Cellar.sealView]

@[simp] theorem State.resetDie_sealView (keep : Bool) (n : Nat) (s : State) : (s.resetDie keep n).cel.sealView = s.cel.sealView :=
  State.keepReserved_sealView _

@[simp] theorem State.railFault_sealView (s : State) : s.railFault.cel.sealView = s.cel.sealView := s.resetDie_sealView _ _

@[simp] theorem pwrResetW_sealView (w : Nat) (s : State) : (pwrResetW w s).cel.sealView = s.cel.sealView := by
  unfold pwrResetW
  exact sealView_of_ite (s.resetDie_sealView _ _) rfl

@[simp] theorem State.withdrawAll_sealView (s : State) : s.withdrawAll.cel.sealView = s.cel.sealView := by
  unfold State.withdrawAll
  exact foldl_keeps (fun s : State => s.cel.sealView) _ (fun s p => by simp) _ _

@[simp] theorem State.napEntry_sealView (s : State) : s.napEntry.cel.sealView = s.cel.sealView := by
  simp [State.napEntry]

@[simp] theorem State.standbyEntry_sealView (s : State) : s.standbyEntry.cel.sealView = s.cel.sealView := by
  simp [State.standbyEntry]

@[simp] theorem State.faultReset_sealView (k loc : Nat) (s : State) : (s.faultReset k loc).cel.sealView = s.cel.sealView := by
  simp [State.faultReset]

@[simp] theorem State.restoreDone_sealView (s : State) : s.restoreDone.cel.sealView = s.cel.sealView := by
  unfold State.restoreDone
  exact sealView_of_ite rfl rfl

@[simp] theorem State.vcelLoss_sealView (s : State) : s.vcelLoss.cel.sealView = s.cel.sealView := by
  unfold State.vcelLoss
  exact sealView_of_ite (State.faultReset_sealView _ _ _) rfl

@[simp] theorem State.enterLifecycle_sealView (t : Nat) (s : State) : (s.enterLifecycle t).cel.sealView = s.cel.sealView := by
  simp [State.enterLifecycle]

@[simp] theorem State.lifecycleGo_sealView (hostFail : Bool) (s : State) : (s.lifecycleGo hostFail).cel.sealView = s.cel.sealView := by
  unfold State.lifecycleGo
  exact sealView_of_ite (s.enterLifecycle_sealView _) rfl

@[simp] theorem ownLifecycleW_sealView (hostFail : Bool) (w : Nat) (s : State) : (ownLifecycleW hostFail w s).cel.sealView = s.cel.sealView := by
  unfold ownLifecycleW
  exact sealView_of_ite (State.lifecycleGo_sealView _ _) rfl

@[simp] theorem State.scrubRead_sealView (k loc err : Nat) (last : Bool) (s : State) :
    (s.scrubRead k loc err last).cel.sealView = s.cel.sealView := by
  unfold State.scrubRead
  refine sealView_of_ite rfl ?_
  extract_lets key u
  have hu : u.cel.sealView = s.cel.sealView := sealView_of_ite rfl rfl
  exact sealView_of_ite hu (sealView_of_ite hu (sealView_of_ite hu (sealView_of_ite hu
    (sealView_of_ite ((State.faultReset_sealView _ _ _).trans hu) hu))))

@[simp] theorem State.tagFail_sealView (x : TagCheck) (s : State) : (s.tagFail x).cel.sealView = s.cel.sealView := by
  unfold State.tagFail
  exact sealView_of_ite (State.faultReset_sealView _ _ _) rfl

@[simp] theorem State.killTick_sealView (a b : Bool) (s : State) : (s.killTick a b).cel.sealView = s.cel.sealView := by
  unfold State.killTick
  exact sealView_of_ite rfl rfl

@[simp] theorem State.triginPulse_sealView (i f w : Nat) (cap : Capture) (s : State) : (s.triginPulse i f w cap).cel.sealView = s.cel.sealView := by
  unfold State.triginPulse
  exact sealView_of_ite rfl rfl

/-! The Cellar's own operations. -/

@[simp] theorem State.syncPair_sealView (s : State) : s.syncPair.cel.sealView = s.cel.sealView := by
  unfold State.syncPair
  exact sealView_of_ite rfl rfl

@[simp] theorem State.changeHold_sealView (x : Option Int) (s : State) : (s.changeHold x).cel.sealView = s.cel.sealView := by
  cases x <;> rfl

@[simp] theorem State.orDefer_sealView (x : Option Int) (s : State) : (s.orDefer x).cel.sealView = s.cel.sealView := by
  unfold State.orDefer
  exact sealView_of_ite rfl (s.changeHold_sealView x)

@[simp] theorem State.enterHold_sealView (s : State) : s.enterHold.cel.sealView = s.cel.sealView := by
  unfold State.enterHold
  exact sealView_of_ite rfl (s.orDefer_sealView none)

@[simp] theorem State.takeRate_sealView (a : Int) (s : State) : (s.takeRate a).cel.sealView = s.cel.sealView := by
  unfold State.takeRate
  exact sealView_of_ite (s.orDefer_sealView _) (sealView_of_ite rfl rfl)

@[simp] theorem State.jumpRefused_sealView (s : State) : s.jumpRefused.cel.sealView = s.cel.sealView := rfl

@[simp] theorem State.correct_sealView (o : Int) (fc : Nat) (r : Int) (s : State) : (s.correct o fc r).cel.sealView = s.cel.sealView := by
  unfold State.correct
  exact sealView_of_ite (sealView_of_ite rfl rfl) (State.takeRate_sealView _ _)

@[simp] theorem State.calEdge_sealView (b : Bool) (s : State) : (s.calEdge b).cel.sealView = s.cel.sealView := by
  unfold State.calEdge
  exact sealView_of_ite rfl rfl

@[simp] theorem State.ppsEdge_sealView (cap : Capture) (r : Int) (s : State) : (s.ppsEdge cap r).cel.sealView = s.cel.sealView := by
  unfold State.ppsEdge
  refine sealView_of_ite (sealView_of_ite ?_ ?_) rfl
  · exact (State.correct_sealView _ _ _ _).trans (State.calEdge_sealView _ _)
  · exact State.calEdge_sealView _ _

@[simp] theorem celSubmitW_sealView (k w : Nat) (s : State) : (celSubmitW k w s).cel.sealView = s.cel.sealView := rfl

@[simp] theorem State.submitPtp_sealView (s : State) : s.submitPtp.cel.sealView = s.cel.sealView := by
  unfold State.submitPtp
  refine sealView_of_ite ?_ (sealView_of_ite (State.correct_sealView _ _ _ _) rfl)
  dsimp only
  split
  · exact State.correct_sealView _ _ _ _
  · rfl

@[simp] theorem celStepHiW_sealView (w : Nat) (s : State) : (celStepHiW w s).cel.sealView = s.cel.sealView := by
  unfold celStepHiW
  exact sealView_of_ite rfl rfl

@[simp] theorem State.ownerStep_sealView (v : Int) (s : State) : (s.ownerStep v).cel.sealView = s.cel.sealView := by
  unfold State.ownerStep
  exact sealView_of_ite (sealView_of_ite rfl rfl) rfl

@[simp] theorem State.ownerSteps_sealView (s : State) : s.ownerSteps.cel.sealView = s.cel.sealView :=
  foldl_keeps (fun s : State => s.cel.sealView) _ (fun s v => s.ownerStep_sealView v) _ _

@[simp] theorem State.flushAudit_sealView (n : Nat) (s : State) : (s.flushAudit n).cel.sealView = s.cel.sealView := by
  induction n generalizing s with
  | zero => rfl
  | succ n ih =>
    unfold State.flushAudit
    dsimp only
    split
    · rfl
    · exact sealView_of_ite (ih _) rfl

@[simp] theorem State.takeDeferred_sealView (xs : List (Option Int)) (s : State) : (s.takeDeferred xs).cel.sealView = s.cel.sealView := by
  induction xs generalizing s with
  | nil => rfl
  | cons x xs ih => exact sealView_of_ite rfl ((ih _).trans (State.changeHold_sealView x _))

@[simp] theorem State.drainAudit_sealView (s : State) : s.drainAudit.cel.sealView = s.cel.sealView :=
  (State.takeDeferred_sealView _ _).trans (State.flushAudit_sealView _ s)

@[simp] theorem State.auditHash_sealView (s : State) : s.auditHash.cel.sealView = s.cel.sealView := by
  unfold State.auditHash
  refine sealView_of_ite ?_ rfl
  dsimp only
  split
  · exact (State.drainAudit_sealView _).trans (Cellar.hashRecord_sealView _ _ _)
  · exact (State.drainAudit_sealView _).trans (Cellar.hashRecord_sealView _ _ _)
  · rfl

/-- A calibration that ends on a sealed Cellar is refused (R402). -/
theorem State.calDone_sealView (x : CalRun) (s : State) (h : s.cel.sealed = true) : (s.calDone x).cel.sealView = s.cel.sealView := by
  have hr : s.cel.calResult x = 5 := if_pos h
  unfold State.calDone
  refine sealView_of_ite ?_ rfl
  simp [hr]

/-- CEL_DISC leaves the source mask of a sealed Cellar (R398, R408). -/
theorem celDiscW_sealView (w : Nat) (s : State) (h : s.cel.sealed = true) : (celDiscW w s).cel.sealView = s.cel.sealView := by
  unfold celDiscW
  extract_lets c₀ g c₁ port e c v
  have hc₁ : c₁ = s.cel := if_pos h
  have hc : c.sealView = s.cel.sealView := by
    rw [← hc₁]; exact (Cellar.sealView_ite _ _).trans (ite_self _)
  exact sealView_of_ite hc (sealView_of_ite hc (sealView_of_ite hc (sealView_of_ite hc hc)))

/-- CEL_LIMITS is ignored while the Cellar is sealed (R398, R408). -/
theorem celLimitsW_sealView (w : Nat) (s : State) (h : s.cel.sealed = true) : (celLimitsW w s).cel.sealView = s.cel.sealView := by
  simp [celLimitsW, h]

@[simp] theorem celAuditW_sealView (off w : Nat) (s : State) : (celAuditW off w s).cel.sealView = s.cel.sealView := by
  unfold celAuditW
  refine sealView_of_ite (sealView_of_ite (State.drainAudit_sealView _) rfl) (sealView_of_ite ?_ (sealView_of_ite rfl (Cellar.setFields_sealView _ _ _)))
  exact foldl_keeps Cellar.sealView _ (fun c x => by simp) _ _

end Sys2Proof.Machine
end

section
namespace Sys2Proof.Machine

/-! The one way to unseal (R399, R400): SEAL_GO with a BREAK message that the seal authority signed. -/

/-- The seal message in host memory where CEL_SEAL_ADDR points (R399). -/
def State.sealMessage (s : State) : List Byte :=
  s.die.hostRead 0 (s.cel.get R.CEL_SEAL_ADDR_LO * 64 + s.cel.get R.CEL_SEAL_ADDR_HI * 2 ^ 32) 160

/-- A message is a BREAK that the seal-authority key verifies, for this Cellar and this count (R399, R400). -/
def State.authorisesBreak (s : State) (m : List Byte) : Prop :=
  signedOk s.fused.sealKey m = true ∧ leNat (m.take 1) = 2 ∧ leNat (slice m 2 2) = s.cel.breaks ∧ leNat (slice m 4 8) = s.fused.dieId

/-- In t the seal of s is broken: the settings and the compute die stand, the break is counted, and the message of s authorised it. -/
structure State.sealBroken (s t : State) : Prop where
  view : t.cel.sealView = (s.cel.settings, false, s.cel.breaks + 1)
  die : t.die = s.die
  authorised : s.authorisesBreak s.sealMessage

/-- The parts of an equal view. -/
theorem Cellar.sealView_eq {c e : Cellar} (h : c.sealView = e.sealView) : c.settings = e.settings ∧ c.sealed = e.sealed ∧ c.breaks = e.breaks := by
  simpa [Cellar.sealView] using h

/-- A state that differs from s in nothing that a BREAK is judged by breaks the seal as s does. -/
theorem State.sealBroken.of_same {s u t : State} (hb : u.sealBroken t) (hview : u.cel.sealView = s.cel.sealView) (hdie : u.die = s.die)
    (hfused : u.fused = s.fused) (hmsg : u.sealMessage = s.sealMessage) : s.sealBroken t := by
  obtain ⟨hset, -, hbreaks⟩ := Cellar.sealView_eq hview
  obtain ⟨hv, hd, ha⟩ := hb
  refine ⟨by rw [hv, hset, hbreaks], hd.trans hdie, ?_⟩
  rwa [State.authorisesBreak, hfused, hmsg, hbreaks] at ha

/-- A choice that gives c takes its second branch where the first gives something else. -/
theorem not_and_eq_of_ite_eq {p : Prop} [Decidable p] {a b c : Nat} (h : (if p then a else b) = c) (ha : a ≠ c) : ¬ p ∧ b = c := by
  split at h
  · exact absurd h ha
  · next hp => exact ⟨hp, h⟩

/-- A message accepted on a sealed Cellar is an authorised BREAK (R400). -/
theorem Cellar.sealCheck_sealed (s : State) (m : List Byte) (h : s.cel.sealed = true) (hr : s.cel.sealCheck s.fused m = 1) :
    s.authorisesBreak m := by
  unfold Cellar.sealCheck at hr
  obtain ⟨hkey, hr⟩ := not_and_eq_of_ite_eq hr (by decide)
  obtain ⟨hdie, hr⟩ := not_and_eq_of_ite_eq hr (by decide)
  obtain ⟨hcount, hr⟩ := not_and_eq_of_ite_eq hr (by decide)
  obtain ⟨hstate, hr⟩ := not_and_eq_of_ite_eq hr (by decide)
  obtain ⟨-, hr⟩ := not_and_eq_of_ite_eq hr (by decide)
  obtain ⟨-, hr⟩ := not_and_eq_of_ite_eq hr (by decide)
  obtain ⟨-, hr⟩ := not_and_eq_of_ite_eq hr (by decide)
  have hcmd : leNat (m.take 1) = 2 := by
    by_contra h2
    by_cases h1 : leNat (m.take 1) = 1
    · exact hstate (.inl ⟨h1, h⟩)
    · rw [if_neg (by tauto)] at hr
      exact absurd hr (by decide)
  exact ⟨by simpa using hkey, hcmd, not_not.1 hcount, not_not.1 hdie⟩

/-- The Cellar as an accepted BREAK leaves it (R400, R405). -/
def Cellar.breakSeal (c : Cellar) : Cellar :=
  Cellar.record 3 0 (leBytes 1 2 ++ leBytes 2 (c.breaks + 1)) []
    (Cellar.put R.CEL_STATUS_SEAL_RESULT 1 { c with sealed := false, breaks := c.breaks + 1 })

/-- SEAL_GO of an accepted BREAK. -/
theorem State.sealGo_break (s : State) (hr : s.cel.sealCheck s.fused s.sealMessage = 1) (hcmd : leNat (s.sealMessage.take 1) = 2) :
    s.sealGo = { s with cel := s.cel.breakSeal } := by
  have hnot : (leNat (s.sealMessage.take 1) == 1) = false := by rw [hcmd]; rfl
  unfold State.sealMessage at hr hnot
  unfold State.sealGo
  dsimp only
  rw [if_pos hr, hnot]
  rfl

/-- SEAL_GO of any other outcome leaves the seal alone. -/
theorem State.sealGo_refused (s : State) (hr : s.cel.sealCheck s.fused s.sealMessage ≠ 1) : s.sealGo.cel.sealView = s.cel.sealView := by
  unfold State.sealMessage at hr
  unfold State.sealGo
  dsimp only
  rw [if_neg hr]
  exact sealView_of_ite (Cellar.put_sealView _ _ _) (Cellar.put_sealView _ _ _)

/-- SEAL_GO on a sealed Cellar leaves the seal alone, or an authorised BREAK breaks it. -/
theorem State.sealGo_sealed (s : State) (h : s.cel.sealed = true) : s.sealGo.cel.sealView = s.cel.sealView ∨ s.sealBroken s.sealGo := by
  by_cases hr : s.cel.sealCheck s.fused s.sealMessage = 1
  · have ha := Cellar.sealCheck_sealed s _ h hr
    have hgo := s.sealGo_break hr ha.2.1
    exact .inr ⟨by rw [hgo]; rfl, by rw [hgo], ha⟩
  · exact .inl (s.sealGo_refused hr)

/-- What CEL_CONTROL's fields change of the Cellar before its action: AUTH0 and CAL_POINT, no part of the seal nor of the message's address. -/
theorem celControl_fields (w : Nat) (c : Cellar) :
    let c₁ := if bit w 0 then c.put R.CEL_CONTROL_AUTH0 1 else c
    let c₂ := if bits w 4 8 ≤ 185 then c₁.put R.CEL_CONTROL_CAL_POINT (bits w 4 8) else c₁
    c₂.sealView = c.sealView ∧ c₂.get R.CEL_SEAL_ADDR_LO = c.get R.CEL_SEAL_ADDR_LO ∧ c₂.get R.CEL_SEAL_ADDR_HI = c.get R.CEL_SEAL_ADDR_HI := by
  have hput : ∀ (f g : Fld) (v : Nat) (e : Cellar), g.key 0 ≠ f.key 0 → (e.put f v).get g = e.get g := fun f g v e hk =>
    KMap.get_set_ne _ _ _ _ _ _ hk
  dsimp only
  split_ifs <;> simp [hput, Fld.key, R.CEL_CONTROL_AUTH0, R.CEL_CONTROL_CAL_POINT, R.CEL_SEAL_ADDR_LO, R.CEL_SEAL_ADDR_HI]

/-- A write of CEL_CONTROL on a sealed Cellar leaves the seal alone, or an authorised BREAK breaks it. -/
theorem celControlW_sealed (w : Nat) (s : State) (h : s.cel.sealed = true) :
    (celControlW w s).cel.sealView = s.cel.sealView ∨ s.sealBroken (celControlW w s) := by
  obtain ⟨hview, hlo, hhi⟩ := celControl_fields w s.cel
  unfold celControlW
  extract_lets c₁ c₂ u
  have hu : u.cel.sealView = s.cel.sealView := hview
  have hmsg : u.sealMessage = s.sealMessage := by
    unfold State.sealMessage
    rw [show u.cel.get R.CEL_SEAL_ADDR_LO = _ from hlo, show u.cel.get R.CEL_SEAL_ADDR_HI = _ from hhi]
  split
  · rcases u.sealGo_sealed ((Cellar.sealView_eq hu).2.1.trans h) with hk | hb
    · exact .inl (hk.trans hu)
    · exact .inr (hb.of_same hu rfl rfl hmsg)
  · exact .inl ((State.drainAudit_sealView _).trans hu)
  · exact .inl ((Cellar.calStart_sealView _).trans hu)
  · exact .inl hu

/-! Register writes. -/

/-- An admitted write finds the die as it was (R479, R603). -/
theorem Die.admitWrite_cases (f : Fused) (src : Source) (a : Nat) (d : Die) :
    (d.admitWrite f src a).1 = false ∨ d.admitWrite f src a = (true, d) := by
  unfold Die.admitWrite
  split
  · cases src <;> dsimp only <;> split_ifs <;> simp
  · cases src <;> dsimp only <;> split_ifs <;> simp

/-- A write acts on the state, or changes the compute die alone. -/
theorem writeAt_cases (src : Source) (a : Nat) (act : State → State) (s : State) :
    writeAt src a act s = act s ∨ writeAt src a act s = { s with die := (s.die.admitWrite s.fused src a).2 } := by
  unfold writeAt
  rcases s.die.admitWrite_cases s.fused src a with h | h
  · exact .inr (by simp [h])
  · exact .inl (by simp [h])

/-- A write whose action leaves the seal alone leaves it alone. -/
theorem writeAt_sealView (src : Source) (a : Nat) (act : State → State) (s : State) (h : (act s).cel.sealView = s.cel.sealView) :
    (writeAt src a act s).cel.sealView = s.cel.sealView := by
  rcases writeAt_cases src a act s with hw | hw <;> rw [hw]
  exact h

/-- A page of the Cellar's other than those of the settings and of CEL_CONTROL leaves the seal alone, sealed or not. -/
theorem celPageW_sealView (off w : Nat) (s : State) (hdisc : off ≠ 0x010) (hlim : off ≠ 0x014) (hctl : off ≠ 0x020) :
    (celPageW off w s).cel.sealView = s.cel.sealView := by
  unfold celPageW
  rw [if_neg hdisc, if_neg hlim]
  refine sealView_of_ite rfl (sealView_of_ite (celStepHiW_sealView w s) ?_)
  rw [if_neg hctl]
  exact sealView_of_ite (celAuditW_sealView off w s) (sealView_of_ite (State.submitPtp_sealView _)
    (sealView_of_ite rfl (Cellar.setFields_sealView off w _)))

/-- A write of the Cellar's page while it is sealed leaves the seal alone, or is one of CEL_CONTROL that breaks it. -/
theorem celPageW_sealed (off w : Nat) (s : State) (h : s.cel.sealed = true) :
    (celPageW off w s).cel.sealView = s.cel.sealView ∨ (off = 0x020 ∧ s.sealBroken (celPageW off w s)) := by
  by_cases hdisc : off = 0x010
  · exact .inl (by subst hdisc; exact celDiscW_sealView w s h)
  by_cases hlim : off = 0x014
  · exact .inl (by subst hlim; exact celLimitsW_sealView w s h)
  by_cases hctl : off = 0x020
  · subst hctl
    exact (celControlW_sealed w s h).imp_right fun hb => ⟨rfl, hb⟩
  · exact .inl (celPageW_sealView off w s hdisc hlim hctl)

@[simp] theorem pwrPageW_sealView (off w : Nat) (s : State) : (pwrPageW off w s).cel.sealView = s.cel.sealView := by
  unfold pwrPageW
  exact sealView_of_ite rfl (sealView_of_ite rfl (sealView_of_ite (pwrResetW_sealView w s) (sealView_of_ite rfl (sealView_of_ite rfl rfl))))

@[simp] theorem ownPageW_sealView (src : Source) (off w : Nat) (s : State) : (ownPageW src off w s).cel.sealView = s.cel.sealView := by
  unfold ownPageW
  have hdie : ∀ f, (onDie f s).cel.sealView = s.cel.sealView := fun _ => rfl
  exact sealView_of_ite (hdie _) (sealView_of_ite (hdie _) (sealView_of_ite (hdie _) (sealView_of_ite (hdie _)
    (sealView_of_ite (ownLifecycleW_sealView false w s) (sealView_of_ite (hdie _) (sealView_of_ite (hdie _) (hdie _)))))))

@[simp] theorem chkPageW_sealView (off w : Nat) (s : State) : (chkPageW off w s).cel.sealView = s.cel.sealView := by
  unfold chkPageW
  exact sealView_of_ite (sealView_of_ite rfl rfl) (sealView_of_ite rfl rfl)

@[simp] theorem flkPageW_sealView (off w : Nat) (s : State) : (flkPageW off w s).cel.sealView = s.cel.sealView := by
  unfold flkPageW
  exact sealView_of_ite rfl (sealView_of_ite (flkControlW_sealView w s) (sealView_of_ite rfl rfl))

/-- A write of any page but the Cellar's leaves the seal alone. -/
theorem pageW_sealView (src : Source) (b : Block) (i off w : Nat) (s : State) (hb : b ≠ .CEL) :
    (pageW src b i off w s).cel.sealView = s.cel.sealView := by
  unfold pageW
  split
  · rfl
  · refine sealView_of_ite rfl (sealView_of_ite rfl ?_)
    cases b with
    | CEL => exact absurd rfl hb
    | OWN => exact ownPageW_sealView src off w s
    | FLK => exact flkPageW_sealView off w s
    | CHK => exact chkPageW_sealView off w s
    | PWR => exact pwrPageW_sealView off w s
    | OTP => exact sealView_of_ite rfl rfl
    | LNK => exact sealView_of_ite rfl (sealView_of_ite rfl rfl)
    | UPD => exact sealView_of_ite rfl rfl
    | _ => rfl

/-- A write of the Cellar's page is one of its registers', or changes the compute die alone. -/
theorem pageW_cel_cases (src : Source) (i off w : Nat) (s : State) :
    pageW src .CEL i off w s = celPageW off w s ∨ ∃ f, pageW src .CEL i off w s = onDie f s := by
  unfold pageW
  split
  · exact .inr ⟨_, rfl⟩
  · split
    · exact .inr ⟨_, rfl⟩
    · split
      · exact .inr ⟨_, rfl⟩
      · exact .inl rfl

end Sys2Proof.Machine
end

section
namespace Sys2Proof.Machine

/-! The Cellar's page in BAR0 (R605), and writes of several words (R481, R482): after a word that breaks the seal come only registers above
CEL_CONTROL. -/

/-- An offset in the Cellar's page. -/
theorem pageOf_cel_inv (f : Fused) (a i off : Nat) (h : pageOf f a = some (.CEL, i, off)) : a / 0x1000 = 0x10 ∧ off = a % 0x1000 := by
  unfold pageOf at h
  dsimp only at h
  split at h
  · cases h
  · next b base lo hi hfind =>
    rw [Option.ite_none_right_eq_some, Option.some.injEq, Prod.mk.injEq, Prod.mk.injEq] at h
    obtain ⟨-, rfl, -, rfl⟩ := h
    obtain ⟨rfl, rfl, rfl⟩ : base = 0x10000 ∧ lo = 0 ∧ hi = 0 := by simpa [directory] using List.mem_of_find?_eq_some hfind
    have hin := List.find?_some hfind
    simp only [Bool.and_eq_true, decide_eq_true_eq] at hin
    exact ⟨by omega, rfl⟩

/-- The page at 0x10000 is the Cellar's. -/
theorem pageOf_cel (f : Fused) (a : Nat) (h : a / 0x1000 = 0x10) : pageOf f a = some (.CEL, 0, a % 0x1000) := by
  unfold pageOf
  rw [h]
  rfl

/-- CEL_CONTROL's offset in BAR0 (R408). -/
def celControlAddr : Nat := 0x10020

/-- A write to a sealed Cellar leaves the seal alone, or is one of CEL_CONTROL that breaks it. -/
theorem State.busWrite_sealed (src : Source) (addr w : Nat) (s : State) (h : s.cel.sealed = true) :
    (s.busWrite src addr w).cel.sealView = s.cel.sealView ∨ (addr / 4 * 4 = celControlAddr ∧ s.sealBroken (s.busWrite src addr w)) := by
  unfold State.busWrite
  dsimp only
  split
  · exact .inl rfl
  · split
    · next b i off hpage =>
      rcases writeAt_cases src (addr / 4 * 4) (pageW src b i off w) s with hw | hw <;> rw [hw]
      · by_cases hb : b = .CEL
        · subst hb
          obtain ⟨hpg, hoff⟩ := pageOf_cel_inv _ _ _ _ hpage
          rcases pageW_cel_cases src i off w s with hc | ⟨f, hc⟩ <;> rw [hc]
          · refine (celPageW_sealed off w s h).imp_right fun ⟨ho, hbr⟩ => ⟨?_, hbr⟩
            show addr / 4 * 4 = 0x10020
            omega
          · exact .inl rfl
        · exact .inl (pageW_sealView src b i off w s hb)
      · exact .inl rfl
    · exact .inl (writeAt_sealView _ _ _ s rfl)

/-- Below its tallies the Cellar's page holds its registers alone. -/
theorem pageW_cel (src : Source) (i off w : Nat) (s : State) (hoff : off < 0xC00) : pageW src .CEL i off w s = celPageW off w s := by
  have htally : tallyAt .CEL off = none := by
    simp [tallyAt, Block.tallyRuns]
    omega
  unfold pageW
  rw [htally]
  dsimp only
  rw [if_neg (by omega), if_neg (by omega)]

/-- A write in the Cellar's page above CEL_CONTROL and below the tallies is one of a register there. -/
theorem State.busWrite_above (src : Source) (addr w : Nat) (s : State) (hlo : celControlAddr < addr / 4 * 4) (hhi : addr / 4 * 4 < 0x10C00) :
    s.busWrite src addr w = writeAt src (addr / 4 * 4) (celPageW (addr / 4 * 4 % 0x1000) w) s := by
  have hlo' : 0x10020 < addr / 4 * 4 := hlo
  have hclaim : addr / 4 * 4 ≠ blockAddr .OWN 0 0x010 := by
    show addr / 4 * 4 ≠ 0x1010
    omega
  unfold State.busWrite
  dsimp only
  rw [if_neg hclaim, pageOf_cel s.fused (addr / 4 * 4) (by omega)]
  exact congrArg (writeAt src (addr / 4 * 4) · s) (funext fun u => pageW_cel src 0 _ w u (by omega))

/-- Such a write leaves the seal alone, sealed or not. -/
theorem State.busWrite_above_sealView (src : Source) (addr w : Nat) (s : State) (hlo : celControlAddr < addr / 4 * 4)
    (hhi : addr / 4 * 4 < 0x10C00) : (s.busWrite src addr w).cel.sealView = s.cel.sealView := by
  have hlo' : 0x10020 < addr / 4 * 4 := hlo
  rw [s.busWrite_above src addr w hlo hhi]
  exact writeAt_sealView _ _ _ s (celPageW_sealView _ w s (by omega) (by omega) (by omega))

/-- What one step may do to a sealed Cellar (R1): the settings in force stand, and a step that unseals counts a break. -/
def State.sealGuarded (s t : State) : Prop := t.cel.settings = s.cel.settings ∧ (t.cel.sealed = false → s.cel.breaks < t.cel.breaks)

/-- Where the seal stands, the step is guarded. -/
theorem State.sealGuarded_of_view {s t : State} (hs : s.cel.sealed = true) (h : t.cel.sealView = s.cel.sealView) : s.sealGuarded t := by
  obtain ⟨hset, hsealed, -⟩ := Cellar.sealView_eq h
  exact ⟨hset, fun ht => by rw [hsealed, hs] at ht; cases ht⟩

/-- What is guarded from a state is guarded from every state of the same seal. -/
theorem State.sealGuarded.of_view {s u t : State} (h : u.sealGuarded t) (hv : u.cel.sealView = s.cel.sealView) : s.sealGuarded t := by
  obtain ⟨hset, -, hbreaks⟩ := Cellar.sealView_eq hv
  exact ⟨h.1.trans hset, fun ht => hbreaks ▸ h.2 ht⟩

/-- A broken seal is counted, whatever comes after that leaves the seal alone. -/
theorem State.sealGuarded_of_broken {s u t : State} (hb : s.sealBroken u) (h : t.cel.sealView = u.cel.sealView) : s.sealGuarded t := by
  obtain ⟨hset, -, hbreaks⟩ : t.cel.settings = s.cel.settings ∧ t.cel.sealed = false ∧ t.cel.breaks = s.cel.breaks + 1 := by
    simpa [Cellar.sealView] using h.trans hb.view
  exact ⟨hset, fun _ => by omega⟩

/-- A step that leaves the seal alone or breaks it with authority is guarded. -/
theorem State.sealGuarded_of_cases {s t : State} (hs : s.cel.sealed = true) (h : t.cel.sealView = s.cel.sealView ∨ s.sealBroken t) :
    s.sealGuarded t :=
  h.elim (State.sealGuarded_of_view hs) fun hb => State.sealGuarded_of_broken hb rfl

/-- One write to a sealed Cellar is guarded. -/
theorem State.busWrite_sealGuarded (src : Source) (addr w : Nat) (s : State) (h : s.cel.sealed = true) : s.sealGuarded (s.busWrite src addr w) :=
  State.sealGuarded_of_cases h ((s.busWrite_sealed src addr w h).imp_right And.right)

/-- The words of an MREQ above CEL_CONTROL in the Cellar's page leave the seal alone. -/
theorem State.writeWords_above (ws : List Nat) (addr : Nat) (s : State) (hlo : celControlAddr < addr / 4 * 4)
    (hhi : addr / 4 * 4 + 4 * ws.length ≤ 0x10C00) : (s.writeWords addr ws).cel.sealView = s.cel.sealView := by
  have hlo' : 0x10020 < addr / 4 * 4 := hlo
  induction ws generalizing addr s with
  | nil => rfl
  | cons w ws ih =>
    rw [List.length_cons] at hhi
    have hnext : 0x10020 < (addr + 4) / 4 * 4 := by omega
    exact (ih (addr + 4) _ hnext (by omega) hnext).trans (s.busWrite_above_sealView .m2 addr w hlo (by omega))

/-- The words of an MREQ (R482). -/
theorem State.writeWords_sealGuarded (ws : List Nat) (addr : Nat) (s : State) (hn : ws.length ≤ 16) (h : s.cel.sealed = true) :
    s.sealGuarded (s.writeWords addr ws) := by
  induction ws generalizing addr s with
  | nil => exact State.sealGuarded_of_view h rfl
  | cons w ws ih =>
    rw [List.length_cons] at hn
    rcases s.busWrite_sealed .m2 addr w h with hk | ⟨ha, hb⟩
    · exact (ih (addr + 4) _ (by omega) ((Cellar.sealView_eq hk).2.1.trans h)).of_view hk
    · have ha' : addr / 4 * 4 = 0x10020 := ha
      have hnext : 0x10020 < (addr + 4) / 4 * 4 := by omega
      exact State.sealGuarded_of_broken hb (State.writeWords_above ws (addr + 4) _ hnext (by omega))

/-! The SMBus pointer, which a burst advances (R481), stands under the writes that matter here. -/

/-- The count of a refused access leaves the pointer. -/
theorem Die.admitWrite_smbPtr (f : Fused) (src : Source) (a : Nat) (d : Die) : (d.admitWrite f src a).2.smbPtr = d.smbPtr := by
  unfold Die.admitWrite
  split
  · cases src <;> dsimp only <;> split_ifs <;> simp
  · cases src <;> dsimp only <;> split_ifs <;> simp

theorem State.changeHold_smbPtr (x : Option Int) (s : State) : (s.changeHold x).die.smbPtr = s.die.smbPtr := by
  cases x with
  | none => simp [State.changeHold, Die.alarm_frame s.die 9 (by decide)]
  | some a => rfl

theorem State.flushAudit_smbPtr (n : Nat) (s : State) : (s.flushAudit n).die.smbPtr = s.die.smbPtr := by
  induction n generalizing s with
  | zero => rfl
  | succ n ih =>
    unfold State.flushAudit
    dsimp only
    split
    · rfl
    · split
      · exact ih _
      · rfl

theorem State.takeDeferred_smbPtr (xs : List (Option Int)) (s : State) : (s.takeDeferred xs).die.smbPtr = s.die.smbPtr := by
  induction xs generalizing s with
  | nil => rfl
  | cons x xs ih =>
    unfold State.takeDeferred
    split
    · rfl
    · exact (ih _).trans (State.changeHold_smbPtr x _)

theorem State.drainAudit_smbPtr (s : State) : s.drainAudit.die.smbPtr = s.die.smbPtr :=
  (State.takeDeferred_smbPtr _ _).trans (State.flushAudit_smbPtr _ s)

theorem celAuditW_smbPtr (off w : Nat) (s : State) : (celAuditW off w s).die.smbPtr = s.die.smbPtr := by
  unfold celAuditW
  dsimp only
  split_ifs
  · exact State.drainAudit_smbPtr _
  all_goals rfl

/-- The registers from CEL_CONTROL to the end of the audit ring's leave the pointer. -/
theorem celPageW_smbPtr (off w : Nat) (s : State) (hlo : 0x020 < off) (hhi : off < 0x040) : (celPageW off w s).die.smbPtr = s.die.smbPtr := by
  unfold celPageW
  rw [if_neg (by omega), if_neg (by omega), if_neg (by omega), if_neg (by omega), if_neg (by omega)]
  split
  · exact celAuditW_smbPtr off w s
  · rw [if_neg (by omega), if_neg (by omega)]

/-- The words of an SMBus burst above CEL_CONTROL leave the seal alone. -/
theorem State.smbWords_above (ws : List Nat) (s : State) (hlo : celControlAddr < s.die.smbPtr / 4 * 4)
    (hhi : s.die.smbPtr / 4 * 4 + 4 * ws.length ≤ 0x10040) : (State.smbWords ws s).cel.sealView = s.cel.sealView := by
  have hlo' : 0x10020 < s.die.smbPtr / 4 * 4 := hlo
  induction ws generalizing s with
  | nil => rfl
  | cons w ws ih =>
    rw [List.length_cons] at hhi
    have hptr : (s.busWrite .m1 s.die.smbPtr w).die.smbPtr = s.die.smbPtr := by
      rw [s.busWrite_above .m1 _ w hlo (by omega)]
      rcases writeAt_cases .m1 (s.die.smbPtr / 4 * 4) (celPageW (s.die.smbPtr / 4 * 4 % 0x1000) w) s with hw | hw <;> rw [hw]
      · exact celPageW_smbPtr _ w s (by omega) (by omega)
      · exact s.die.admitWrite_smbPtr _ _ _
    have hnext : (onDie Die.smbNext (s.busWrite .m1 s.die.smbPtr w)).die.smbPtr = (s.die.smbPtr + 4) % 2 ^ 32 :=
      congrArg (fun p => (p + 4) % 2 ^ 32) hptr
    refine (ih _ ?_ ?_ ?_).trans (s.busWrite_above_sealView .m1 _ w hlo (by omega))
    · show 0x10020 < _
      rw [hnext]; omega
    · rw [hnext]; omega
    · rw [hnext]; omega

/-- The words of an SMBus burst (R481). -/
theorem State.smbWords_sealGuarded (ws : List Nat) (s : State) (hn : ws.length ≤ 8) (h : s.cel.sealed = true) :
    s.sealGuarded (State.smbWords ws s) := by
  induction ws generalizing s with
  | nil => exact State.sealGuarded_of_view h rfl
  | cons w ws ih =>
    rw [List.length_cons] at hn
    rcases s.busWrite_sealed .m1 s.die.smbPtr w h with hk | ⟨ha, hb⟩
    · exact (ih (onDie Die.smbNext _) (by omega) ((Cellar.sealView_eq hk).2.1.trans h)).of_view hk
    · have ha' : s.die.smbPtr / 4 * 4 = 0x10020 := ha
      have hnext : (onDie Die.smbNext (s.busWrite .m1 s.die.smbPtr w)).die.smbPtr = (s.die.smbPtr + 4) % 2 ^ 32 :=
        congrArg (fun d : Die => (d.smbPtr + 4) % 2 ^ 32) hb.die
      refine State.sealGuarded_of_broken hb ((State.smbWords_above ws _ ?_ ?_).trans rfl)
      · show 0x10020 < _
        rw [hnext]; omega
      · rw [hnext]; omega

theorem length_wordsOf (bs : List Byte) : (wordsOf bs).length = bs.length / 4 := by simp [wordsOf]

theorem State.smbWrite_sealGuarded (bytes : List Byte) (pec : Bool) (s : State) (h : s.cel.sealed = true) :
    s.sealGuarded (s.smbWrite bytes pec) := by
  unfold State.smbWrite
  dsimp only
  split
  · exact State.sealGuarded_of_view h rfl
  · split
    · exact State.sealGuarded_of_view h rfl
    · next hok =>
      have hlen : bytes.length ≤ 32 := by
        by_contra hc
        simp [show 32 < bytes.length by omega] at hok
      exact s.smbWords_sealGuarded _ (by rw [length_wordsOf]; omega) h

theorem State.mreq_sealGuarded (m : List Byte) (s : State) (h : s.cel.sealed = true) : s.sealGuarded (s.mreq m) := by
  unfold State.mreq
  dsimp only
  split
  · exact State.sealGuarded_of_view h rfl
  · next hok =>
    split
    · exact State.sealGuarded_of_view h (congrArg Cellar.sealView (State.readWords_cel _ _ s))
    · refine s.writeWords_sealGuarded _ _ ?_ h
      have hn : (byteAt (m.drop 8) 1).toNat ≤ 16 := not_lt.1 fun h16 => hok (.inr (.inr (.inl h16)))
      rw [length_wordsOf, slice, List.length_take]
      omega

theorem State.partialWrite_sealGuarded (src : Source) (a be w : Nat) (s : State) (h : s.cel.sealed = true) :
    s.sealGuarded (s.partialWrite src a be w) := by
  unfold State.partialWrite
  extract_lets pcie
  split
  · exact State.sealGuarded_of_view h (sealView_of_ite rfl rfl)
  · exact s.busWrite_sealGuarded src a w h

theorem State.regacc_sealGuarded (dr : Nat) (s : State) (h : s.cel.sealed = true) : s.sealGuarded (s.regacc dr) := by
  unfold State.regacc
  dsimp only
  split_ifs
  · exact State.sealGuarded_of_view h (congrArg Cellar.sealView (State.busRead_cel _ _ s))
  · exact s.busWrite_sealGuarded _ _ _ h
  · exact State.sealGuarded_of_view h rfl
  · exact State.sealGuarded_of_view h rfl

/-- SEAL_GO by name, on a sealed Cellar, leaves the seal alone, or an authorised BREAK breaks it. -/
theorem sealGo_write_sealed (src : Source) (w : Nat) (s : State) (h : s.cel.sealed = true) :
    (writeAt src (blockAddr .CEL 0 0x020) (celControlW w) s).cel.sealView = s.cel.sealView
      ∨ s.sealBroken (writeAt src (blockAddr .CEL 0 0x020) (celControlW w) s) := by
  rcases writeAt_cases src (blockAddr .CEL 0 0x020) (celControlW w) s with hw | hw <;> rw [hw]
  · exact celControlW_sealed w s h
  · exact .inl rfl

end Sys2Proof.Machine
end

section
namespace Sys2Proof.Machine

/-! One step from a sealed Cellar: each shape of command, then each command, then the step. -/

theorem State.sealGuarded_of_ite {p : Prop} [Decidable p] {s t u : State} (ht : s.sealGuarded t) (hu : s.sealGuarded u) :
    s.sealGuarded (if p then t else u) := by split <;> assumption

theorem next_sealGuarded {s t u : State} (h : Host.Outcome.next (φ := Fault) (ρ := Refusal) u = .next t) (hu : s.sealGuarded u) : s.sealGuarded t := by
  cases h
  exact hu

theorem guardU_sealGuarded {ok : Bool} {s t u : State} (h : guardU ok u = .next t) (hu : s.sealGuarded u) : s.sealGuarded t := by
  obtain ⟨-, rfl⟩ := guardU_next _ _ _ h
  exact hu

/-- A flock message that is not taken changes the compute die alone. -/
theorem msgCmd_sealGuarded {down : Bool} {cls type l : Nat} {f : List Byte → State → State} {s t : State} (hs : s.cel.sealed = true)
    (h : msgCmd down cls type l f s = .next t) (hf : ∀ m (u : State), u.cel.sealed = true → u.sealGuarded (f m u)) : s.sealGuarded t := by
  refine guardU_sealGuarded h ?_
  split
  · exact State.sealGuarded_of_view hs rfl
  · exact State.sealGuarded_of_ite (hf _ { s with die := s.die.dropMsg l cls } hs) (State.sealGuarded_of_view hs rfl)

theorem pwrKillW_sealView (w : Nat) (s : State) : (pwrKillW w s).cel.sealView = s.cel.sealView := rfl

/-- Every command that completes on a sealed Cellar is guarded. -/
theorem exec_sealGuarded (c : Instr) (s t : State) (hs : s.cel.sealed = true) (h : exec c s = .next t) : s.sealGuarded t := by
  cases c with
  | tallyClear | registerWrite | unlock | relock | ringEnable => exact next_sealGuarded h (s.busWrite_sealGuarded _ _ _ hs)
  | partialWrite => exact next_sealGuarded h (s.partialWrite_sealGuarded _ _ _ _ hs)
  | smbWrite => exact next_sealGuarded h (s.smbWrite_sealGuarded _ _ hs)
  | regacc => exact next_sealGuarded h (s.regacc_sealGuarded _ hs)
  | mreq => exact msgCmd_sealGuarded hs h (fun m u hu => u.mreq_sealGuarded m hu)
  | sealGo | ckpt | cellarCalStart => exact next_sealGuarded h (State.sealGuarded_of_cases hs (sealGo_write_sealed _ _ s hs))
  | sourceSelect _ w =>
    exact next_sealGuarded h (State.sealGuarded_of_view hs (writeAt_sealView _ _ _ s (celDiscW_sealView w.toNat s hs)))
  | calDone x => exact next_sealGuarded h (State.sealGuarded_of_view hs (s.calDone_sealView x hs))
  | cellarPowerUp => exact next_sealGuarded h (State.sealGuarded_of_view hs (s.cel.powerUp_sealView s.fused hs))
  | form | flkControlKill | flkControlHalt | flkControlCancelAll | flkControlRelease =>
    exact next_sealGuarded h (State.sealGuarded_of_view hs (writeAt_sealView _ _ _ s (flkControlW_sealView _ s)))
  | killClear | killTWrite =>
    exact next_sealGuarded h (State.sealGuarded_of_view hs (writeAt_sealView _ _ _ s (pwrKillW_sealView _ s)))
  | ptpSubmit _ w =>
    exact next_sealGuarded h (State.sealGuarded_of_view hs (writeAt_sealView _ _ _ s (State.submitPtp_sealView (celSubmitW 7 w.toNat s))))
  | celStep => exact next_sealGuarded h (State.sealGuarded_of_view hs (writeAt_sealView _ _ _ s (celStepHiW_sealView _ s)))
  | lifecycleGo => exact next_sealGuarded h (State.sealGuarded_of_view hs (writeAt_sealView _ _ _ s (ownLifecycleW_sealView _ _ s)))
  | deviceReset => exact next_sealGuarded h (State.sealGuarded_of_view hs (writeAt_sealView _ _ _ s (pwrResetW_sealView _ s)))
  | tallyRead | pairRead | windowRead | ppsEdge | cellarSyncPair | auditHash | scrubRead | restoreDone | napEntry | standbyEntry | coldReset | railFault
  | vcelLoss | killTick =>
    exact next_sealGuarded h (State.sealGuarded_of_view hs (by simp))
  | ppsAbsent | ref10mPresence | startupDone => exact next_sealGuarded h (State.sealGuarded_of_view hs rfl)
  | tb0Holdover => exact next_sealGuarded h (State.sealGuarded_of_view hs (sealView_of_ite s.enterHold_sealView rfl))
  | sysReset => exact next_sealGuarded h (State.sealGuarded_of_view hs (sealView_of_ite rfl (s.resetDie_sealView _ _)))
  | ppsOutRise | ppsOutFall | smbUnknownCommand => exact next_sealGuarded h (State.sealGuarded_of_view hs (sealView_of_ite rfl rfl))
  | smbAddress => exact next_sealGuarded h (State.sealGuarded_of_view hs (sealView_of_ite rfl (sealView_of_ite rfl rfl)))
  | smbRead =>
    exact next_sealGuarded h (State.sealGuarded_of_view hs (sealView_of_ite rfl (sealView_of_ite rfl
      (congrArg Cellar.sealView (State.busRead_cel _ _ s)))))
  | ethFrameRx | fcsResult | sFrame | rawFrame | recordAssembled | decisionExit | frameStart | launchCommit | portDown | tagCheckFail
  | withdrawSlotsRetired | tbNowRead | txtsRead | triginCapRead | ptpTx | triginPulse =>
    exact guardU_sealGuarded h (State.sealGuarded_of_view hs (by simp))
  | launchFirstBit => exact guardU_sealGuarded h (State.sealGuarded_of_view hs (sealView_of_ite (s.trigEdge_sealView _ _) (s.firstBit_sealView _ _ _ _)))
  | ptpRx => exact guardU_sealGuarded h (State.sealGuarded_of_view hs (sealView_of_ite (s.ptpReceive_sealView _ _ _) rfl))
  | sync => exact guardU_sealGuarded h (State.sealGuarded_of_view hs (sealView_of_ite (s.sFrameRx_sealView _ _) rfl))
  | join | commit | verdict | kill | flockHalt | release | mrsp =>
    unfold exec at h
    delta execJoin execCommit execVerdict execKill execFlockHalt execRelease execMrsp at h
    exact msgCmd_sealGuarded hs h (fun m u hu => State.sealGuarded_of_view hu rfl)
  | welcome | takeover | flockDigest =>
    unfold exec at h
    delta execWelcome execTakeover execFlockDigest at h
    exact msgCmd_sealGuarded hs h (fun m u hu => State.sealGuarded_of_view hu (sealView_of_ite rfl rfl))
  | launchAt =>
    unfold exec execLaunchAt at h
    exact msgCmd_sealGuarded hs h (fun m u hu => State.sealGuarded_of_view hu (sealView_of_ite (State.agreedLaunch_sealView m _) rfl))
  | cancelAll =>
    unfold exec execCancelAll at h
    exact msgCmd_sealGuarded hs h (fun m u hu => State.sealGuarded_of_view hu (State.cancelAgreed_sealView _))
  | timingChangeDone | ref250Lost | ref250WaitEnd | ref250Return | pllPullInDone | injectEntry | shedEvaluate | joinRetry | phaseStep | syncMiss
  | standbyTakeover | reduceWait | digestWait | flockMsgSend | claim | electionClose | heartbeatLoss | handoverAccept | handoverExpired | captureFreeze
  | dumpDone | profileDone | stateReached | thermHot | thermTrip | hostLinkReset | otpProgramDone | aliveToggle | pcieLinkDown | pcieLinkUp | syncSend =>
    exact next_sealGuarded h (u := onDie _ s) (State.sealGuarded_of_view hs rfl)
  | timingApply | peakClear | flkRole | ownHeartbeat | handoverRequest | keyProgram | keyRevoke | debugRequest | grantLoad | grantCommit | arm | dump
  | trigger | disarm | lftControl | profileApply | stateGo | otpLoad | otpProgram => exact next_sealGuarded h (State.sealGuarded_of_view hs rfl)
  | _ => exact guardU_sealGuarded h (State.sealGuarded_of_view hs rfl)

/-- A nanosecond leaves the seal alone. -/
theorem State.tick_sealView (s : State) : s.tick.cel.sealView = s.cel.sealView := by
  unfold State.tick
  exact sealView_of_ite ((State.ownerSteps_sealView _).trans s.cel.nsTick_sealView) s.cel.nsTick_sealView

/-- R1: every step from a sealed Cellar is guarded. -/
theorem step_sealGuarded (s t : State) (hs : s.cel.sealed = true) (h : step s = .next t) : s.sealGuarded t := by
  unfold step at h
  split at h
  · exact next_sealGuarded h (State.sealGuarded_of_view hs s.tick_sealView)
  · next c rest _ => exact exec_sealGuarded c { s with pending := rest } t hs h

/-- What unseals a sealed Cellar found an authorised BREAK. -/
theorem State.authorisesBreak_of_unsealed {s t : State} (hs : s.cel.sealed = true) (ht : t.cel.sealed = false)
    (h : t.cel.sealView = s.cel.sealView ∨ s.sealBroken t) : s.authorisesBreak s.sealMessage := by
  rcases h with hk | hb
  · rw [(Cellar.sealView_eq hk).2.1, hs] at ht
    cases ht
  · exact hb.authorised

/-- Settles O57: every operation but SEAL_GO leaves the settings, the seal and its count alone on a sealed Cellar, SEAL_GO breaks the seal of an authorised
BREAK alone, and in a burst of words only registers above CEL_CONTROL, which hold no settings, follow it. -/
theorem sealedSettingsStand : Obligations.SealedSettingsStand := by
  unfold Obligations.SealedSettingsStand
  refine ⟨fun s t h hs => step_sealGuarded s t hs h, fun s t src w addr hs ht h => ?_⟩
  rcases h with h | h
  · obtain rfl : writeAt src (blockAddr .CEL 0 0x020) (celControlW w.toNat) s = t := Host.Outcome.next.inj h
    exact State.authorisesBreak_of_unsealed hs ht (sealGo_write_sealed src w.toNat s hs)
  · obtain rfl : s.busWrite src addr w.toNat = t := Host.Outcome.next.inj h
    exact State.authorisesBreak_of_unsealed hs ht ((s.busWrite_sealed src addr w.toNat hs).imp_right And.right)

end Sys2Proof.Machine
end

section
/-! SUPPORT. Reads of BAR0 that meet their register (R479, R488, R594), and the two words of a tally (R18, R19). -/

namespace Sys2Proof.Machine

/-- The page offset that an address has in the page it lies in. -/
theorem pageOf_off (f : Fused) (a : Nat) (b : Block) (i off : Nat) (h : pageOf f a = some (b, i, off)) : off = a % 0x1000 := by
  unfold pageOf at h
  dsimp only at h
  split at h
  · cases h
  · rw [Option.ite_none_right_eq_some, Option.some.injEq, Prod.mk.injEq, Prod.mk.injEq] at h
    exact h.2.2.2.symm

/-- A read that meets its register gives the page's word. -/
theorem State.busRead_of_reads (s : State) (src : Source) (b : Block) (i off : Nat) (h : s.reads src b i off) :
    s.busRead src (blockAddr b i off) = s.pageWord src b i off := by
  obtain ⟨halign, hpath, hans, hpage, hvf⟩ := h
  have hword : blockAddr b i off / 4 * 4 = blockAddr b i off := by
    have hoff := pageOf_off _ _ _ _ _ hpage
    omega
  unfold State.busRead
  dsimp only
  rw [hword, hpage]
  dsimp only
  rw [if_neg (by simp [hpath]), if_neg (by simp [hans])]
  cases src with
  | vf p => dsimp only; rw [hvf p rfl]; rfl
  | _ => rfl

/-- A read command that gives the word w back and leaves the compute die d. -/
def State.gives (s : State) (d : Die) (w : Nat) : State := { s with die := { d with readData := BitVec.ofNat 32 w } }

/-- The word that such a read leaves in the reader's hand, and the state after it. -/
theorem State.readAt_of_reads (s : State) (src : Source) (b : Block) (i off : Nat) (h : s.reads src b i off) :
    s.readAt src (blockAddr b i off) =
      (s.pageWord src b i off).2.gives (s.pageWord src b i off).2.die (s.pageWord src b i off).1 := by
  unfold State.readAt
  rw [if_pos h.2.1, s.busRead_of_reads src b i off h]
  rfl

/-- A page's word in its tallies, where they are shown. -/
theorem State.pageWord_tally (s : State) (src : Source) (b : Block) (i lo off : Nat) (hlo : 0xC00 ≤ off) (hhi : off < 0xF00)
    (htally : tallyAt b off = some lo) (hshown : hiddenTally s.die src b off = false) : s.pageWord src b i off = s.tallyWord src b i lo off := by
  have hwindow : windowAt b off = false := by
    unfold windowAt
    rw [decide_eq_false (show ¬ off < 0x800 by omega)]
    simp
  unfold State.pageWord
  rw [if_neg (by omega), if_neg (by omega), if_neg (by omega), if_neg (by omega), if_neg (by omega), hwindow, htally]
  simp [hshown]

/-- A source captures v of the item at a register (R19). -/
def Die.holdCapture (d : Die) (src : Source) (b : Block) (i off v : Nat) : Die :=
  { d with caps := KMap.set 0 d.caps (srcNum src * 2 ^ 32 + blockAddr b i off) v }

@[simp] theorem Die.captured_holdCapture (d : Die) (src : Source) (b : Block) (i off v : Nat) : (d.holdCapture src b i off v).captured src b i off = v :=
  KMap.get_set_same _ _ _ _

@[simp] theorem State.gives_readData (s : State) (d : Die) (w : Nat) : (s.gives d w).die.readData = BitVec.ofNat 32 w := rfl

@[simp] theorem State.gives_captured (s : State) (d : Die) (w : Nat) (src : Source) (b : Block) (i off : Nat) :
    (s.gives d w).die.captured src b i off = d.captured src b i off := rfl

/-- A register stands in reach of a source after a capture as before it. -/
theorem State.gives_holdCapture_reads (s : State) (src src' : Source) (b b' : Block) (i i' off off' v w : Nat) :
    (s.gives (s.die.holdCapture src b i off v) w).reads src' b' i' off' ↔ s.reads src' b' i' off' := Iff.rfl

/-- A tally is shown to a source after a capture as before it. -/
theorem State.gives_holdCapture_hiddenTally (s : State) (src src' : Source) (b b' : Block) (i off off' v w : Nat) :
    hiddenTally (s.gives (s.die.holdCapture src b i off v) w).die src' b' off' = hiddenTally s.die src' b' off' := rfl

/-- TALLY_READ is the read of the word. -/
theorem exec_tallyRead (src : Source) (a : Nat) (s : State) : exec (.tallyRead src a) s = .next (s.readAt src a) := rfl

/-- The read of a tally's lower word gives the count's low bits and captures the tally. -/
theorem State.readAt_tally_lower (s : State) (src : Source) (b : Block) (i lo : Nat) (hreads : s.reads src b i lo) (hlo : 0xC00 ≤ lo) (hhi : lo < 0xF00)
    (htally : tallyAt b lo = some lo) (hshown : hiddenTally s.die src b lo = false) : s.readAt src (blockAddr b i lo) =
      s.gives (s.die.holdCapture src b i lo (KMap.get 0 s.die.tallies (blockAddr b i lo))) (KMap.get 0 s.die.tallies (blockAddr b i lo) % 2 ^ 32) := by
  rw [s.readAt_of_reads src b i lo hreads, s.pageWord_tally src b i lo lo hlo hhi htally hshown]
  unfold State.tallyWord
  rw [if_pos rfl]
  rfl

/-- The read of a tally's upper word gives what the reader captured. -/
theorem State.readAt_tally_upper (s : State) (src : Source) (b : Block) (i lo : Nat) (hreads : s.reads src b i (lo + 4)) (hlo : 0xC00 ≤ lo)
    (hhi : lo + 4 < 0xF00) (htally : tallyAt b (lo + 4) = some lo) (hshown : hiddenTally s.die src b (lo + 4) = false) :
    s.readAt src (blockAddr b i (lo + 4)) =
      s.gives s.die (bits (s.die.captured src b i lo) 32 16 + s.die.captured src b i lo / 2 ^ 48 * 2 ^ 31) := by
  rw [s.readAt_of_reads src b i (lo + 4) hreads, s.pageWord_tally src b i lo (lo + 4) (by omega) hhi htally hshown]
  unfold State.tallyWord
  rw [if_neg (by omega)]
  rfl

/-- The lower word of a count and its saturation bit (R18). -/
theorem lower_tally_word (n sat : Nat) : (n + sat * 2 ^ 48) % 2 ^ 32 % 2 ^ 32 = n % 2 ^ 32 := by omega

/-- The upper word of a count and its saturation bit (R18). -/
theorem upper_tally_word (n sat : Nat) (hn : n < 2 ^ 48) (hsat : sat ≤ 1) :
    (bits (n + sat * 2 ^ 48) 32 16 + (n + sat * 2 ^ 48) / 2 ^ 48 * 2 ^ 31) % 2 ^ 32 = n / 2 ^ 32 + sat * 2 ^ 31 := by
  unfold bits
  omega

/-- Settles O58: the lower word captures the tally and the upper word gives the capture, whose bits are the count's and the saturation bit. -/
theorem tallyStandsInTwoWords : Obligations.TallyStandsInTwoWords := by
  unfold Obligations.TallyStandsInTwoWords
  intro s src b i lo n sat hlow hup htlow htup hge hlt hslow hsup hn hsat hv
  refine ⟨_, _, exec_tallyRead _ _ _, exec_tallyRead _ _ _, ?_, ?_⟩
  · rw [s.readAt_tally_lower src b i lo hlow hge (by omega) htlow hslow, hv, State.gives_readData, BitVec.toNat_ofNat, lower_tally_word]
  · rw [s.readAt_tally_lower src b i lo hlow hge (by omega) htlow hslow, hv,
      State.readAt_tally_upper _ src b i lo ((s.gives_holdCapture_reads ..).2 hup) hge hlt htup ((s.gives_holdCapture_hiddenTally ..).trans hsup),
      State.gives_readData, BitVec.toNat_ofNat, State.gives_captured, Die.captured_holdCapture, upper_tally_word n sat hn hsat]

end Sys2Proof.Machine
end

section
/-! SUPPORT. The locked expert area of a page (R603): a write there is counted and not performed, and a window reads zero below D3. -/

namespace Sys2Proof.Machine

/-- The address of a register in reach lies at its own page offset. -/
theorem State.reads.off_eq {s : State} {src : Source} {b : Block} {i off : Nat} (h : s.reads src b i off) : off = blockAddr b i off % 0x1000 := by
  obtain ⟨-, -, -, hpage, -⟩ := h
  exact pageOf_off _ _ _ _ _ hpage

/-- A register in reach stands at a word's address. -/
theorem State.reads.word_aligned {s : State} {src : Source} {b : Block} {i off : Nat} (h : s.reads src b i off) :
    blockAddr b i off / 4 * 4 = blockAddr b i off := by
  have hoff := h.off_eq
  obtain ⟨halign, -⟩ := h
  omega

/-- A write by the crook's holder, or by a VF to its own page, into a locked expert area is counted in EXPERT_DENIED and not performed. -/
theorem State.admitWrite_expertLocked (s : State) (src : Source) (b : Block) (i off : Nat) (h : s.reads src b i off) (hexpert : b.expert = true)
    (hlo : 0x400 ≤ off) (hhi : off < 0x800) (hlocked : s.die.on (pageExpert (blockAddr b i 0)) = false)
    (hholds : (∀ p, src ≠ .vf p) → s.die.holds (srcNum src) = true) :
    s.die.admitWrite s.fused src (blockAddr b i off) = (false, s.die.count T.OWN_EXPERT_DENIED 0) := by
  obtain ⟨-, hpath, hans, hpage, hvf⟩ := h
  unfold Die.admitWrite
  rw [hpage]
  dsimp only
  rw [if_pos (by simp [hpath, hans])]
  cases src with
  | vf p =>
    have hown : s.die.vfPage p b i = 0 := hvf p rfl
    simp [show ¬ 0xF00 ≤ off by omega, hown, hlo, hhi, hexpert, hlocked]
  | _ => simp [hholds (by simp), hlo, hhi, hexpert, hlocked]

/-- A write to a register other than OWN_CLAIM that is not admitted leaves the machine with the die that its refusal counted on. -/
theorem State.busWrite_of_refused (s : State) (src : Source) (addr w : Nat) (d : Die) (halign : addr / 4 * 4 = addr)
    (hclaim : addr ≠ blockAddr .OWN 0 0x010) (hrefused : s.die.admitWrite s.fused src addr = (false, d)) :
    s.busWrite src addr w = { s with die := d } := by
  have hwrite (act : State → State) : writeAt src addr act s = { s with die := d } := by
    unfold writeAt
    rw [hrefused]
    rfl
  unfold State.busWrite
  dsimp only
  rw [halign, if_neg hclaim]
  split
  · exact hwrite _
  · exact hwrite _

/-- A D3 window reads zero below D3. -/
theorem State.pageWord_window (s : State) (src : Source) (b : Block) (i off : Nat) (hwindow : windowAt b off = true) (hdebug : s.die.debug ≠ 3) :
    s.pageWord src b i off = (0, s) := by
  obtain ⟨⟨hlo, hhi⟩, -⟩ : (0x410 ≤ off ∧ off < 0x800) ∧ _ := by simpa [windowAt] using hwindow
  unfold State.pageWord
  rw [if_neg (by omega), if_neg (by omega), if_neg (by omega), if_neg (by omega), if_neg (by omega), if_pos (by simp [hwindow, hdebug])]

/-- Settles O59: the admission of the write refuses and counts it, and a read gives the page's word, zero in a window below D3. -/
theorem expertAreaGuarded : Obligations.ExpertAreaGuarded := by
  unfold Obligations.ExpertAreaGuarded
  intro s src b i off hreads hexpert hlo hhi hlocked
  refine ⟨fun hholds w => ?_, _, exec_tallyRead _ _ _, ?_, fun hwindow hdebug => ?_⟩
  · have hclaim : blockAddr b i off ≠ blockAddr .OWN 0 0x010 := by
      have hoff := hreads.off_eq
      show blockAddr b i off ≠ 0x1010
      omega
    exact congrArg Host.Outcome.next (s.busWrite_of_refused src _ w.toNat _ hreads.word_aligned hclaim
      (s.admitWrite_expertLocked src b i off hreads hexpert hlo hhi hlocked hholds))
  · rw [s.readAt_of_reads src b i off hreads, State.gives_readData]
  · rw [s.readAt_of_reads src b i off hreads, State.gives_readData, s.pageWord_window src b i off hwindow hdebug]
    rfl

end Sys2Proof.Machine
end

section
/-! SUPPORT. The front of the queue (log 106), and the machine right after the supplies come up (R582, R584). -/

namespace Sys2Proof.Machine

/-- Settles O1: a step takes the command in front of the queue. -/
theorem stepRunsFront : Obligations.StepRunsFront := fun _ _ => rfl

/-- After reset no trigger pin has a state of its own. -/
theorem reset_pins : State.reset.die.pins = [] := rfl

/-- Settles O54: every field is the reset state's, which no register field overrides. -/
theorem resetInOrder : Obligations.ResetInOrder := by
  unfold Obligations.ResetInOrder
  refine ⟨?_, ?_, rfl, rfl, rfl, rfl, rfl, rfl, rfl, by decide, by decide, by decide, fun pin => by rw [reset_pins]; rfl, rfl⟩
  · unfold Kill.inOrder; decide
  · unfold Cellar.inOrder; decide

end Sys2Proof.Machine
end

section
/-! SUPPORT. The trigger pins: every operation of the compute die but those that drive a pin leaves them alone. -/

namespace Sys2Proof.Machine

@[simp] theorem Die.pins_ite {p : Prop} [Decidable p] (d e : Die) : (if p then d else e).pins = if p then d.pins else e.pins := by split <;> rfl
@[simp] theorem Die.put_pins (f : Fld) (i : Nat) (v : Nat) (d : Die) : (Die.put f i v d).pins = d.pins := rfl

@[simp] theorem Die.flag_pins (f : Fld) (i : Nat) (b : Bool) (d : Die) : (Die.flag f i b d).pins = d.pins := rfl

@[simp] theorem Die.putPair_pins (lo : Fld) (hi : Fld) (i : Nat) (v : Nat) (d : Die) : (Die.putPair lo hi i v d).pins = d.pins := rfl

@[simp] theorem Die.hostWrite_pins (fn : Nat) (addr : Nat) (bs : List Byte) (d : Die) : (Die.hostWrite fn addr bs d).pins = d.pins := rfl

@[simp] theorem Die.emit_pins (e : Emit) (d : Die) : (Die.emit e d).pins = d.pins := rfl

@[simp] theorem Die.draw_pins (d : Die) : (Die.draw d).2.pins = d.pins := rfl

@[simp] theorem Die.onPas_pins (p : Nat) (f : PasSt → PasSt) (d : Die) : (Die.onPas p f d).pins = d.pins := rfl

@[simp] theorem Die.countRaw_pins (t : Tal) (i : Nat) (n : Nat) (d : Die) : (Die.countRaw t i n d).pins = d.pins := by simp [Die.countRaw]

@[simp] theorem PktRing.write_pins (r : PktRing) (pad : Nat) (bs : List Byte) (d : Die) : (PktRing.write r pad bs d).pins = d.pins := rfl

@[simp] theorem Die.nextSeq_pins (src : Nat) (inst : Nat) (d : Die) : (Die.nextSeq src inst d).2.pins = d.pins := rfl

@[simp] theorem Die.ffPut_pins (bs : List Byte) (d : Die) : (Die.ffPut bs d).pins = d.pins := by simp [Die.ffPut]

@[simp] theorem Die.gapBytes_pins (k : Pkt) (g : Nat × Nat) (d : Die) : (Die.gapBytes k g d).2.pins = d.pins := by simp [Die.gapBytes]

@[simp] theorem dropLoft_pins (a : Bool) (d : Die) : (dropLoft a d).pins = d.pins := by simp [dropLoft]

@[simp] theorem Die.lanePut_pins (bs : List Byte) (d : Die) : (Die.lanePut bs d).pins = d.pins := by
  unfold Die.lanePut
  dsimp only
  split <;> simp

@[simp] theorem Die.laneDrain_pins (k : Pkt) (bs : List Byte) (d : Die) : (Die.laneDrain k bs d).pins = d.pins := by simp [Die.laneDrain]

@[simp] theorem dropPas_pins (p : Nat) (d : Die) : (dropPas p d).pins = d.pins := by simp [dropPas]

@[simp] theorem Die.count_pins (t : Tal) (i : Nat) (d : Die) : (Die.count t i d).pins = d.pins := by simp [Die.count]

@[simp] theorem Die.stile_pins (p : Nat) (three : Nat) (n : Nat) (d : Die) : (Die.stile p three n d).pins = d.pins := by simp [Die.stile]

@[simp] theorem Die.admitWrite_pins (f : Fused) (src : Source) (addr : Nat) (d : Die) : (Die.admitWrite f src addr d).2.pins = d.pins := by
  unfold Die.admitWrite
  dsimp only
  repeat' split
  all_goals simp

@[simp] theorem WField.write_pins (x : WField) (i : Nat) (lk : Bool) (w : Nat) (d : Die) : (WField.write x i lk w d).pins = d.pins := by
  unfold WField.write
  dsimp only
  split <;> simp

@[simp] theorem Die.setFields_pins (b : Block) (i : Nat) (off : Nat) (w : Nat) (d : Die) : (Die.setFields b i off w d).pins = d.pins := by
  unfold Die.setFields
  exact foldl_keeps Die.pins _ (by intros; simp) _ _

@[simp] theorem Die.tbBreak_pins (n : Nat) (value : Nat) (adj : Int) (on : Bool) (d : Die) : (Die.tbBreak n value adj on d).pins = d.pins := rfl

@[simp] theorem Die.unchoose_pins (kind : Nat) (n : Nat) (d : Die) : (Die.unchoose kind n d).pins = d.pins := rfl

@[simp] theorem Die.gateCount_pins (code : Nat) (p : Nat) (d : Die) : (Die.gateCount code p d).pins = d.pins := by simp [Die.gateCount]

@[simp] theorem Die.postMsg_pins (p : Nat) (msg : List Byte) (d : Die) : (Die.postMsg p msg d).pins = d.pins := by simp [Die.postMsg]

@[simp] theorem Die.consumePoison_pins (p : Nat) (d : Die) : (Die.consumePoison p d).pins = d.pins := by simp [Die.consumePoison]

@[simp] theorem Die.putParser_pins (g : Nat) (x : Parser) (d : Die) : (Die.putParser g x d).pins = d.pins := rfl

@[simp] theorem Die.startFrame_pins (g : Nat) (e : SteerEnt) (frame : List Byte) (base : Nat) (arrived : Nat) (srcCode : Nat) (stamps : List Stamp) (inFc16 : Nat) (due : Bool) (fault : Bool) (d : Die) :
    (Die.startFrame g e frame base arrived srcCode stamps inFc16 due fault d).pins = d.pins := by
  unfold Die.startFrame
  dsimp only
  repeat' split
  all_goals simp

@[simp] theorem Die.dropRec_pins (g : Nat) (t : Tal) (d : Die) : (Die.dropRec g t d).pins = d.pins := by simp [Die.dropRec]

@[simp] theorem Die.progDrop_pins (g : Nat) (d : Die) : (Die.progDrop g d).pins = d.pins := by simp [Die.progDrop]

@[simp] theorem Die.closeRec_pins (g : Nat) (fin : Bool) (d : Die) : (Die.closeRec g fin d).pins = d.pins := by simp [Die.closeRec]

@[simp] theorem Die.next_pins (g : Nat) (k : Nat) (d : Die) : (Die.next g k d).pins = d.pins := rfl

@[simp] theorem pNopOp_pins (g : Nat) (x1 : PInstr) (d : Die) : (pNopOp g x1 d).pins = d.pins := rfl

@[simp] theorem withSource_pins (g : Nat) (i : PInstr) (f : Parser → List Byte → Parser) (d : Die) : (withSource g i f d).pins = d.pins := by
  unfold withSource
  dsimp only
  repeat' split
  all_goals simp

@[simp] theorem pExtOp_pins (g : Nat) (i : PInstr) (d : Die) : (pExtOp g i d).pins = d.pins := by simp [pExtOp]

@[simp] theorem pKeycOp_pins (g : Nat) (i : PInstr) (d : Die) : (pKeycOp g i d).pins = d.pins := by simp [pKeycOp]

@[simp] theorem pKeyhOp_pins (g : Nat) (i : PInstr) (d : Die) : (pKeyhOp g i d).pins = d.pins := by simp [pKeyhOp]

@[simp] theorem pEvidOp_pins (g : Nat) (i : PInstr) (d : Die) : (pEvidOp g i d).pins = d.pins := by simp [pEvidOp]

@[simp] theorem pMatchOp_pins (g : Nat) (i : PInstr) (d : Die) : (pMatchOp g i d).pins = d.pins := by simp [pMatchOp]

@[simp] theorem pBrcOp_pins (g : Nat) (i : PInstr) (d : Die) : (pBrcOp g i d).pins = d.pins := rfl

@[simp] theorem pBrnOp_pins (g : Nat) (i : PInstr) (d : Die) : (pBrnOp g i d).pins = d.pins := rfl

@[simp] theorem pCurOp_pins (g : Nat) (i : PInstr) (d : Die) : (pCurOp g i d).pins = d.pins := by simp [pCurOp]

@[simp] theorem pCuriOp_pins (g : Nat) (i : PInstr) (d : Die) : (pCuriOp g i d).pins = d.pins := rfl

@[simp] theorem pTbselOp_pins (g : Nat) (i : PInstr) (d : Die) : (pTbselOp g i d).pins = d.pins := rfl

@[simp] theorem Die.pEnd_pins (g : Nat) (d : Die) : (Die.pEnd g d).pins = d.pins := by simp [Die.pEnd]

@[simp] theorem Die.takeEvid_pins (p : Nat) (e : Option Nat) (d : Die) : (Die.takeEvid p e d).2.pins = d.pins := by
  unfold Die.takeEvid
  dsimp only
  split <;> simp

@[simp] theorem Die.rxFaults_pins (t : Nat) (n : Nat) (f : RxFaults) (d : Die) : (Die.rxFaults t n f d).2.pins = d.pins := by simp [Die.rxFaults]

@[simp] theorem Die.injectFrame_pins (p : Nat) (frame : List Byte) (d : Die) : (Die.injectFrame p frame d).pins = d.pins := by
  unfold Die.injectFrame
  dsimp only
  repeat' split
  all_goals simp

@[simp] theorem Die.inject_pins (d : Die) : (Die.inject d).pins = d.pins := by
  unfold Die.inject
  dsimp only
  repeat' split
  all_goals simp

@[simp] theorem Die.observe_pins (fu : Fused) (e : Nat) (d : Die) : (Die.observe fu e d).pins = d.pins := by simp [Die.observe]

@[simp] theorem Die.onShd_pins (e : Nat) (f : Shd → Shd) (d : Die) : (Die.onShd e f d).pins = d.pins := rfl

@[simp] theorem Die.noteUe_pins (fu : Fused) (e : Nat) (d : Die) : (Die.noteUe fu e d).pins = d.pins := by simp [Die.noteUe]

@[simp] theorem Die.foundCe_pins (fu : Fused) (kind : Nat) (loc : Nat) (tile : Option Nat) (d : Die) :
    (Die.foundCe fu kind loc tile d).pins = d.pins := by simp [Die.foundCe]

@[simp] theorem Die.foundUe_pins (fu : Fused) (kind : Nat) (loc : Nat) (rk : Nat) (tile : Option Nat) (pas : Option Nat) (d : Die) :
    (Die.foundUe fu kind loc rk tile pas d).pins = d.pins := by
  unfold Die.foundUe
  dsimp only
  split <;> simp

@[simp] theorem Die.eccRead_pins (fu : Fused) (kind : Nat) (loc : Nat) (tile : Option Nat) (pas : Option Nat) (d : Die) :
    (Die.eccRead fu kind loc tile pas d).2.pins = d.pins := by
  unfold Die.eccRead
  dsimp only
  repeat' split
  all_goals simp

@[simp] theorem Die.eccClean_pins (a : Nat) (b : Nat) (d : Die) : (Die.eccClean a b d).pins = d.pins := rfl

@[simp] theorem Die.eccClear_pins (kind : Nat) (loc : Nat) (d : Die) : (Die.eccClear kind loc d).pins = d.pins := rfl

@[simp] theorem Die.persist_pins (p : Nat) (tile : Nat) (d : Die) : (Die.persist p tile d).pins = d.pins := by simp [Die.persist]

@[simp] theorem Die.onLar_pins (p : Nat) (f : LarPas → LarPas) (d : Die) : (Die.onLar p f d).pins = d.pins := rfl

@[simp] theorem Die.putDir_pins (k : Nat) (v : Option DirEnt) (d : Die) : (Die.putDir k v d).pins = d.pins := rfl

@[simp] theorem Die.putRow_pins (p : Nat) (ptr : Nat) (words : Nat) (bs : List Byte) (d : Die) : (Die.putRow p ptr words bs d).pins = d.pins := by
  unfold Die.putRow
  exact foldl_keeps Die.pins _ (by intros; simp) _ _

@[simp] theorem Die.clearMarker_pins (p : Nat) (ticket : Nat) (d : Die) : (Die.clearMarker p ticket d).pins = d.pins := rfl

@[simp] theorem Die.discardShadow_pins (p : Nat) (d : Die) : (Die.discardShadow p d).pins = d.pins := rfl

@[simp] theorem Die.cleanBank_pins (p : Nat) (bank : Nat) (d : Die) : (Die.cleanBank p bank d).pins = d.pins := rfl

@[simp] theorem Die.cloneBank_pins (fu : Fused) (p : Nat) (d : Die) : (Die.cloneBank fu p d).pins = d.pins := by
  unfold Die.cloneBank
  exact foldl_keeps Die.pins _ (by intros; simp) _ _

@[simp] theorem Die.rebuildStart_pins (fu : Fused) (p : Nat) (d : Die) : (Die.rebuildStart fu p d).pins = d.pins := by simp [Die.rebuildStart]

@[simp] theorem Die.rebuildAbort_pins (p : Nat) (d : Die) : (Die.rebuildAbort p d).pins = d.pins := rfl

@[simp] theorem lrdRebuildW_pins (fu : Fused) (p : Nat) (w : Nat) (d : Die) : (lrdRebuildW fu p w d).pins = d.pins := by
  unfold lrdRebuildW
  dsimp only
  split <;> simp

@[simp] theorem Die.rbPop_pins (p : Nat) (units : Nat) (d : Die) : (Die.rbPop p units d).pins = d.pins := rfl

@[simp] theorem Die.insertRefuse_pins (p : Nat) (r : RbRec) (d : Die) : (Die.insertRefuse p r d).pins = d.pins := by simp [Die.insertRefuse]

@[simp] theorem Die.rbDelete_pins (p : Nat) (r : RbRec) (d : Die) : (Die.rbDelete p r d).pins = d.pins := by
  unfold Die.rbDelete
  dsimp only
  split <;> simp

@[simp] theorem Die.swapBanks_pins (p : Nat) (d : Die) : (Die.swapBanks p d).pins = d.pins := by
  unfold Die.swapBanks
  exact foldl_keeps Die.pins _ (by intros; simp) _ _

@[simp] theorem Die.swapGo_pins (p : Nat) (d : Die) : (Die.swapGo p d).pins = d.pins := by simp [Die.swapGo]

@[simp] theorem Die.swapAt_pins (p : Nat) (d : Die) : (Die.swapAt p d).pins = d.pins := by simp [Die.swapAt]

@[simp] theorem lrdSwapW_pins (p : Nat) (w : Nat) (d : Die) : (lrdSwapW p w d).pins = d.pins := by
  unfold lrdSwapW
  dsimp only
  split <;> simp

@[simp] theorem Die.rowFree_pins (p : Nat) (d : Die) : (Die.rowFree p d).pins = d.pins := by simp [Die.rowFree]

@[simp] theorem Die.clearLarder_pins (p : Nat) (d : Die) : (Die.clearLarder p d).pins = d.pins := rfl

@[simp] theorem Die.onEng_pins (e : Nat) (p : Nat) (f : EngPas → EngPas) (d : Die) : (Die.onEng e p f d).pins = d.pins := rfl

@[simp] theorem Die.onTile_pins (t : Nat) (f : TileSt → TileSt) (d : Die) : (Die.onTile t f d).pins = d.pins := rfl

@[simp] theorem Die.onCtx_pins (t : Nat) (c : Nat) (f : CtxSt → CtxSt) (d : Die) : (Die.onCtx t c f d).pins = d.pins := rfl

@[simp] theorem Die.setQueue_pins (t : Nat) (c : Nat) (q : Nat) (l : List QBeat) (d : Die) : (Die.setQueue t c q l d).pins = d.pins := rfl

@[simp] theorem Die.setQ_pins (e : Nat) (q : Nat) (v : Nat) (d : Die) : (Die.setQ e q v d).pins = d.pins := rfl

@[simp] theorem Die.pop_pins (fu : Fused) (t : Nat) (c : Nat) (q : Nat) (n : Nat) (d : Die) : (Die.pop fu t c q n d).2.pins = d.pins := by
  unfold Die.pop
  dsimp only
  split <;> simp

@[simp] theorem Die.take_pins (fu : Fused) (x : Fire) (d : Die) : (Die.take fu x d).2.pins = d.pins := by
  unfold Die.take
  dsimp only
  split <;> simp

@[simp] theorem Die.putBeat_pins (t : Nat) (b : Nat) (v : Nat) (bad : Bool) (d : Die) :
    (Die.putBeat t b v bad d).pins = d.pins := by simp [Die.putBeat]

@[simp] theorem Die.push_pins (t : Nat) (c : Nat) (q : Nat) (l : List QBeat) (d : Die) : (Die.push t c q l d).pins = d.pins := rfl

@[simp] theorem Die.capture_pins (x : Fire) (slot : Nat) (bs : List QBeat) (d : Die) : (Die.capture x slot bs d).pins = d.pins := by
  unfold Die.capture
  dsimp only
  split <;> simp

@[simp] theorem Die.onUpd_pins (e : Nat) (f : UpdSt → UpdSt) (d : Die) : (Die.onUpd e f d).pins = d.pins := rfl

@[simp] theorem Die.writeCapture_pins (e : Nat) (r : CapRec) (d : Die) : (Die.writeCapture e r d).pins = d.pins := by simp [Die.writeCapture]

@[simp] theorem Die.finishCapture_pins (x : Fire) (slot : Nat) (d : Die) : (Die.finishCapture x slot d).pins = d.pins := by
  unfold Die.finishCapture
  dsimp only
  split <;> simp

@[simp] theorem Die.retire_pins (x : Fire) (slot : Nat) (d : Die) : (Die.retire x slot d).pins = d.pins := by simp [Die.retire]

@[simp] theorem Die.onGate_pins (t : Nat) (c : Nat) (f : Nat → Nat) (d : Die) : (Die.onGate t c f d).pins = d.pins := rfl

@[simp] theorem expandOp_pins (fu : Fused) (x : Fire) (d : Die) : (expandOp fu x d).2.pins = d.pins := by simp [expandOp]

@[simp] theorem Die.observeLane_pins (x : Fire) (slot : Nat) (l : Nat) (v : Nat) (sh : Nat) (f : Nat) (z : Int) (clipped : Bool) (d : Die) :
    (Die.observeLane x slot l v sh f z clipped d).pins = d.pins := by
  unfold Die.observeLane
  dsimp only
  split <;> simp

@[simp] theorem bcastOp_pins (fu : Fused) (x : Fire) (d : Die) : (bcastOp fu x d).2.pins = d.pins := by simp [bcastOp]

@[simp] theorem shiftwOp_pins (fu : Fused) (x : Fire) (d : Die) : (shiftwOp fu x d).2.pins = d.pins := by simp [shiftwOp]

@[simp] theorem foldOp_pins (fu : Fused) (x : Fire) (d : Die) : (foldOp fu x d).2.pins = d.pins := by simp [foldOp]

@[simp] theorem barrierOp_pins (fu : Fused) (x : Fire) (d : Die) : (barrierOp fu x d).2.pins = d.pins := by simp [barrierOp]

@[simp] theorem nopOp_pins (x0 : Fused) (x : Fire) (d : Die) : (nopOp x0 x d).2.pins = d.pins := rfl

@[simp] theorem Die.closeEntry_pins (e : Nat) (p : Nat) (d : Die) : (Die.closeEntry e p d).pins = d.pins := rfl

@[simp] theorem haltOp_pins (fu : Fused) (x : Fire) (d : Die) : (haltOp fu x d).2.pins = d.pins := by
  unfold haltOp
  dsimp only
  repeat' split
  all_goals simp

@[simp] theorem emitOp_pins (fu : Fused) (x : Fire) (d : Die) : (emitOp fu x d).2.pins = d.pins := by
  unfold emitOp
  dsimp only
  repeat' split
  all_goals simp

@[simp] theorem Die.writeBlock_pins (tile : Nat) (saddr : Nat) (par : Nat) (es : List Int) (d : Die) :
    (Die.writeBlock tile saddr par es d).pins = d.pins := by
  unfold Die.writeBlock
  exact foldl_keeps Die.pins _ (by intros; simp) _ _

@[simp] theorem Die.writeLane_pins (tile : Nat) (qaddr : Nat) (l : Nat) (par : Nat) (sh : Int) (z : Int) (d : Die) :
    (Die.writeLane tile qaddr l par sh z d).pins = d.pins := rfl

@[simp] theorem Die.calInForce_pins (p : Nat) (s : Nat) (here : Nat → Bool) (d : Die) :
    (Die.calInForce p s here d).pins = d.pins := by simp [Die.calInForce]

@[simp] theorem Die.calEnd_pins (p : Nat) (d : Die) : (Die.calEnd p d).pins = d.pins := by simp [Die.calEnd]

@[simp] theorem Die.calRefuse_pins (p : Nat) (code : Nat) (t : Nat) (d : Die) : (Die.calRefuse p code t d).pins = d.pins := by simp [Die.calRefuse]

@[simp] theorem Die.assembleEvent_pins (p : Nat) (im : Image) (v : Ev) (waits : List Nat) (d : Die) :
    (Die.assembleEvent p im v waits d).pins = d.pins := by
  unfold Die.assembleEvent
  dsimp only
  split <;> simp

@[simp] theorem Die.putPacket_pins (slot : Nat) (pk : List (PacketBeat × Beat × Bool)) (e : Nat) (d : Die) :
    (Die.putPacket slot pk e d).pins = d.pins := by
  unfold Die.putPacket
  exact foldl_keeps Die.pins _ (by intros; simp) _ _

@[simp] theorem Die.noteWait_pins (e : Nat) (p : Nat) (slot : Bool) (scale : Bool) (upd : Bool) (d : Die) :
    (Die.noteWait e p slot scale upd d).pins = d.pins := by simp [Die.noteWait]

@[simp] theorem Die.entryDrop_pins (e : Nat) (p : Nat) (d : Die) : (Die.entryDrop e p d).pins = d.pins := by
  unfold Die.entryDrop
  dsimp only
  split <;> simp

@[simp] theorem Die.spanMove_pins (e : Nat) (p : Nat) (im : Image) (d : Die) : (Die.spanMove e p im d).pins = d.pins := by
  unfold Die.spanMove
  dsimp only
  split <;> simp

@[simp] theorem Die.storeClean_pins (e : Nat) (d : Die) : (Die.storeClean e d).pins = d.pins := rfl

@[simp] theorem Die.updReset_pins (e : Nat) (p : Nat) (im : Image) (adm : Bool) (d : Die) : (Die.updReset e p im adm d).pins = d.pins := by
  unfold Die.updReset
  dsimp only
  split <;> simp

@[simp] theorem Die.leaveEmpty_pins (e : Nat) (q : Nat) (d : Die) : (Die.leaveEmpty e q d).pins = d.pins := rfl

@[simp] theorem Die.setBusy_pins (e : Nat) (d : Die) : (Die.setBusy e d).pins = d.pins := rfl

@[simp] theorem Die.quiesce_pins (e : Nat) (d : Die) : (Die.quiesce e d).pins = d.pins := by
  unfold Die.quiesce
  exact foldl_keeps Die.pins _ (by intros; simp) _ _

@[simp] theorem Die.askLoad_pins (r : LoadReq) (d : Die) : (Die.askLoad r d).pins = d.pins := rfl

@[simp] theorem Die.openEntry_pins (e : Nat) (q : Nat) (d : Die) : (Die.openEntry e q d).pins = d.pins := rfl

@[simp] theorem engRetireW_pins (fu : Fused) (e : Nat) (w : Nat) (d : Die) : (engRetireW fu e w d).pins = d.pins := by simp [engRetireW]

@[simp] theorem fabBalanceW_pins (p : Nat) (w : Nat) (d : Die) : (fabBalanceW p w d).pins = d.pins := by simp [fabBalanceW]

@[simp] theorem Die.relockAll_pins (d : Die) : (Die.relockAll d).pins = d.pins := rfl

@[simp] theorem Die.cancelHandover_pins (d : Die) : (Die.cancelHandover d).pins = d.pins := rfl

@[simp] theorem Die.openElection_pins (d : Die) : (Die.openElection d).pins = d.pins := by simp [Die.openElection]

@[simp] theorem Die.releaseCrook_pins (d : Die) : (Die.releaseCrook d).pins = d.pins := by simp [Die.releaseCrook]

@[simp] theorem Die.giveCrook_pins (m : Nat) (d : Die) : (Die.giveCrook m d).pins = d.pins := rfl

@[simp] theorem Die.recheck_pins (d : Die) : (Die.recheck d).pins = d.pins := by simp [Die.recheck]

@[simp] theorem Die.deny_pins (m : Nat) (d : Die) : (Die.deny m d).pins = d.pins := by simp [Die.deny]

@[simp] theorem ownHeartbeatW_pins (x0 : Nat) (d : Die) : (ownHeartbeatW x0 d).pins = d.pins := rfl

@[simp] theorem Die.heartbeatLoss_pins (d : Die) : (Die.heartbeatLoss d).pins = d.pins := by simp [Die.heartbeatLoss]

@[simp] theorem ownHandoverW_pins (w : Nat) (d : Die) : (ownHandoverW w d).pins = d.pins := by simp [ownHandoverW]

@[simp] theorem Die.handoverExpired_pins (d : Die) : (Die.handoverExpired d).pins = d.pins := by simp [Die.handoverExpired]

@[simp] theorem Die.pcieDown_pins (d : Die) : (Die.pcieDown d).pins = d.pins := by simp [Die.pcieDown]

@[simp] theorem Die.pcieUp_pins (speed : Nat) (width : Nat) (vfs : Nat) (d : Die) : (Die.pcieUp speed width vfs d).pins = d.pins := rfl

@[simp] theorem Die.onLane_pins (l : Nat) (f : Lane → Lane) (d : Die) : (Die.onLane l f d).pins = d.pins := rfl

@[simp] theorem Die.putLine_pins (l : Nat) (s : Nat) (syms : List Sym) (d : Die) : (Die.putLine l s syms d).pins = d.pins := rfl

@[simp] theorem Die.putS_pins (l : Nat) (s : Nat) (chan : Nat) (payload : List Byte) (d : Die) :
    (Die.putS l s chan payload d).pins = d.pins := by simp [Die.putS]

@[simp] theorem Die.onFlk_pins (f : Flock → Flock) (d : Die) : (Die.onFlk f d).pins = d.pins := rfl

@[simp] theorem Die.enterHoldover_pins (d : Die) : (Die.enterHoldover d).pins = d.pins := by simp [Die.enterHoldover]

@[simp] theorem Die.refBack_pins (d : Die) : (Die.refBack d).pins = d.pins := by simp [Die.refBack]

@[simp] theorem Die.putSet_pins (l : Nat) (body : List Byte) (d : Die) : (Die.putSet l body d).pins = d.pins := rfl

@[simp] theorem Die.deliverMsg_pins (l : Nat) (cls : Nat) (msg : List Byte) (d : Die) :
    (Die.deliverMsg l cls msg d).pins = d.pins := by simp [Die.deliverMsg]

@[simp] theorem Die.onReliable_pins (l : Nat) (cls : Nat) (seq : Nat) (msg : List Byte) (d : Die) :
    (Die.onReliable l cls seq msg d).pins = d.pins := by simp [Die.onReliable]

@[simp] theorem lnkEqW_pins (l : Nat) (w : Nat) (d : Die) : (lnkEqW l w d).pins = d.pins := by simp [lnkEqW]

@[simp] theorem Die.ethUnlock_pins (t : Nat) (block : Bool) (codeword : Bool) (d : Die) :
    (Die.ethUnlock t block codeword d).pins = d.pins := by simp [Die.ethUnlock]

@[simp] theorem Die.localFault_pins (t : Nat) (b : Bool) (d : Die) : (Die.localFault t b d).pins = d.pins := by simp [Die.localFault]

@[simp] theorem Die.setUb_pins (tile : Nat) (buf : Nat) (l : List UbBeat) (d : Die) : (Die.setUb tile buf l d).pins = d.pins := by
  unfold Die.setUb
  exact foldl_keeps Die.pins _ (by intros; simp) _ _

@[simp] theorem Die.setPhase_pins (e : Nat) (v : Nat) (d : Die) : (Die.setPhase e v d).pins = d.pins := rfl

@[simp] theorem Die.onRun_pins (e : Nat) (f : UpdRun → UpdRun) (d : Die) : (Die.onRun e f d).pins = d.pins := rfl

@[simp] theorem Die.labelMatch_pins (x : UpdCtx) (d : Die) : (Die.labelMatch x d).pins = d.pins := by
  unfold Die.labelMatch
  dsimp only
  repeat' split
  all_goals simp

@[simp] theorem Die.capExpire_pins (x : UpdCtx) (d : Die) : (Die.capExpire x d).pins = d.pins := by
  unfold Die.capExpire
  dsimp only
  split <;> simp

@[simp] theorem Die.optimiseEnd_pins (x : UpdCtx) (d : Die) : (Die.optimiseEnd x d).pins = d.pins := rfl

@[simp] theorem Die.swapEnd_pins (x : UpdCtx) (d : Die) : (Die.swapEnd x d).pins = d.pins := by
  unfold Die.swapEnd
  dsimp only
  split <;> simp

@[simp] theorem Die.swapBegin_pins (x : UpdCtx) (d : Die) : (Die.swapBegin x d).pins = d.pins := by
  unfold Die.swapBegin
  dsimp only
  split <;> simp

@[simp] theorem gradDiff_pins (x0 : Fused) (f : UFire) (d : Die) : (gradDiff x0 f d).2.pins = d.pins := by simp [gradDiff]

@[simp] theorem optm_pins (x0 : Fused) (f : UFire) (d : Die) : (optm x0 f d).2.pins = d.pins := by simp [optm]

@[simp] theorem swapOp_pins (x0 : Fused) (f : UFire) (d : Die) : (swapOp x0 f d).2.pins = d.pins := by
  unfold swapOp
  exact foldl_keeps Die.pins _ (by intros; simp) _ _

@[simp] theorem Die.dropMsg_pins (l : Nat) (cls : Nat) (d : Die) : (Die.dropMsg l cls d).pins = d.pins := rfl

@[simp] theorem Die.sSequence_pins (l : Nat) (chan : Nat) (seq : Nat) (d : Die) : (Die.sSequence l chan seq d).pins = d.pins := by
  unfold Die.sSequence
  dsimp only
  split <;> simp

@[simp] theorem Die.pasBit_pins (lo : Fld) (hi : Fld) (p : Nat) (b : Bool) (d : Die) : (Die.pasBit lo hi p b d).pins = d.pins := by simp [Die.pasBit]

@[simp] theorem Die.verdictMsg_pins (x : UpdCtx) (step : Nat) (wd : Nat) (result : Nat) (d : Die) :
    (Die.verdictMsg x step wd result d).pins = d.pins := by simp [Die.verdictMsg]

@[simp] theorem Die.flockKill_pins (d : Die) : (Die.flockKill d).pins = d.pins := rfl

@[simp] theorem Die.flockHalt_pins (d : Die) : (Die.flockHalt d).pins = d.pins := rfl

@[simp] theorem Die.flockRelease_pins (d : Die) : (Die.flockRelease d).pins = d.pins := rfl

@[simp] theorem flkRoleW_pins (w : Nat) (d : Die) : (flkRoleW w d).pins = d.pins := by simp [flkRoleW]

@[simp] theorem Die.setFloors_pins (d : Die) : (Die.setFloors d).pins = d.pins := by
  unfold Die.setFloors
  exact foldl_keeps Die.pins _ (by intros; simp) _ _

@[simp] theorem Die.unsteer_pins (p : Nat) (d : Die) : (Die.unsteer p d).pins = d.pins := rfl

@[simp] theorem Die.larderSave_pins (p : Nat) (d : Die) : (Die.larderSave p d).pins = d.pins := rfl

@[simp] theorem Die.refuse_pins (p : Nat) (code : Nat) (w : Where) (d : Die) : (Die.refuse p code w d).pins = d.pins := by simp [Die.refuse]

@[simp] theorem Die.updGone_pins (e : Nat) (d : Die) : (Die.updGone e d).pins = d.pins := rfl

@[simp] theorem Die.startAdmission_pins (p : Nat) (d : Die) : (Die.startAdmission p d).pins = d.pins := by simp [Die.startAdmission]

@[simp] theorem Die.readTick_pins (p : Nat) (d : Die) : (Die.readTick p d).pins = d.pins := by simp [Die.readTick]

@[simp] theorem Die.timingDone_pins (d : Die) : (Die.timingDone d).pins = d.pins := by
  unfold Die.timingDone
  dsimp only
  split <;> simp

@[simp] theorem Die.refWaitEnd_pins (d : Die) : (Die.refWaitEnd d).pins = d.pins := by simp [Die.refWaitEnd]

@[simp] theorem Die.pulledIn_pins (d : Die) : (Die.pulledIn d).pins = d.pins := by simp [Die.pulledIn]

@[simp] theorem Die.shedEvaluate_pins (fu : Fused) (a : List Activity) (d : Die) :
    (Die.shedEvaluate fu a d).pins = d.pins := by simp [Die.shedEvaluate]

@[simp] theorem devShedW_pins (w : Nat) (d : Die) : (devShedW w d).pins = d.pins := by simp [devShedW]

@[simp] theorem Die.popLaunch_pins (k : Nat) (d : Die) : (Die.popLaunch k d).pins = d.pins := rfl

@[simp] theorem Die.addTxts_pins (t : Nat) (id : Nat) (tb : Nat) (pas : Nat) (st : Stamp) (d : Die) :
    (Die.addTxts t id tb pas st d).pins = d.pins := by simp [Die.addTxts]

@[simp] theorem Die.msixFire_pins (p : Nat) (d : Die) : (Die.msixFire p d).pins = d.pins := by simp [Die.msixFire]

@[simp] theorem Die.softCount_pins (prod : Fld) (cons : Fld) (lg : Nat) (i : Nat) (producer : Bool) (w : Nat) (d : Die) :
    (Die.softCount prod cons lg i producer w d).pins = d.pins := by simp [Die.softCount]

@[simp] theorem msgTailW_pins (p : Nat) (w : Nat) (d : Die) : (msgTailW p w d).pins = d.pins := by simp [msgTailW]

@[simp] theorem Die.setAdj_pins (n : Nat) (v : Int) (d : Die) : (Die.setAdj n v d).pins = d.pins := by simp [Die.setAdj]

@[simp] theorem tbAdjW_pins (n : Nat) (w : Nat) (d : Die) : (tbAdjW n w d).pins = d.pins := by simp [tbAdjW]

@[simp] theorem tbControlW_pins (n : Nat) (w : Nat) (d : Die) : (tbControlW n w d).pins = d.pins := by simp [tbControlW]

@[simp] theorem Die.applyStep_pins (n : Nat) (v : Int) (d : Die) : (Die.applyStep n v d).pins = d.pins := by simp [Die.applyStep]

@[simp] theorem Die.requestStep_pins (n : Nat) (v : Int) (d : Die) : (Die.requestStep n v d).pins = d.pins := by simp [Die.requestStep]

@[simp] theorem tbStepLoW_pins (n : Nat) (w : Nat) (d : Die) : (tbStepLoW n w d).pins = d.pins := rfl

@[simp] theorem tbStepHiW_pins (n : Nat) (w : Nat) (d : Die) : (tbStepHiW n w d).pins = d.pins := by simp [tbStepHiW]

@[simp] theorem Die.roundTo_pins (num : Int) (den : Nat) (halves : Bool) (d : Die) : (Die.roundTo num den halves d).2.pins = d.pins := by
  unfold Die.roundTo
  dsimp only
  repeat' split
  all_goals simp

@[simp] theorem Die.readSettings_pins (fu : Fused) (d : Die) : (Die.readSettings fu d).pins = d.pins := rfl

@[simp] theorem Die.pllStart_pins (fromZero : Bool) (d : Die) : (Die.pllStart fromZero d).pins = d.pins := by simp [Die.pllStart]

@[simp] theorem Die.startMode_pins (d : Die) : (Die.startMode d).pins = d.pins := by simp [Die.startMode]

@[simp] theorem Die.newNonce_pins (d : Die) : (Die.newNonce d).pins = d.pins := rfl

@[simp] theorem Die.debugReset_pins (d : Die) : (Die.debugReset d).pins = d.pins := rfl

@[simp] theorem Die.aliveStart_pins (d : Die) : (Die.aliveStart d).pins = d.pins := by simp [Die.aliveStart]

@[simp] theorem Die.aliveStop_pins (d : Die) : (Die.aliveStop d).pins = d.pins := rfl

@[simp] theorem Die.awake_pins (d : Die) : (Die.awake d).pins = d.pins := by simp [Die.awake]

@[simp] theorem Die.startup_pins (fu : Fused) (d : Die) : (Die.startup fu d).pins = d.pins := by simp [Die.startup]

@[simp] theorem Die.unlockAll_pins (d : Die) : (Die.unlockAll d).pins = d.pins := rfl

@[simp] theorem Die.stateDone_pins (d : Die) : (Die.stateDone d).pins = d.pins := by simp [Die.stateDone]

@[simp] theorem Die.profileApply_pins (fu : Fused) (d : Die) : (Die.profileApply fu d).pins = d.pins := by simp [Die.profileApply]

@[simp] theorem pwrProfileW_pins (fu : Fused) (w : Nat) (d : Die) : (pwrProfileW fu w d).pins = d.pins := by simp [pwrProfileW]

@[simp] theorem Die.profileDone_pins (d : Die) : (Die.profileDone d).pins = d.pins := by
  unfold Die.profileDone
  dsimp only
  split <;> simp

@[simp] theorem Die.otpProgram_pins (w : Nat) (d : Die) : (Die.otpProgram w d).pins = d.pins := by simp [Die.otpProgram]

@[simp] theorem Die.otpDone_pins (ok : Bool) (d : Die) : (Die.otpDone ok d).pins = d.pins := by
  unfold Die.otpDone
  dsimp only
  split <;> simp

@[simp] theorem Die.aliveToggle_pins (d : Die) : (Die.aliveToggle d).pins = d.pins := by simp [Die.aliveToggle]

@[simp] theorem Die.keyProgram_pins (hostFail : Bool) (d : Die) : (Die.keyProgram hostFail d).pins = d.pins := by simp [Die.keyProgram]

@[simp] theorem Die.keyRevoke_pins (d : Die) : (Die.keyRevoke d).pins = d.pins := by simp [Die.keyRevoke]

@[simp] theorem ownKeyCtlW_pins (hostFail : Bool) (w : Nat) (d : Die) : (ownKeyCtlW hostFail w d).pins = d.pins := by
  unfold ownKeyCtlW
  dsimp only
  split <;> simp

@[simp] theorem ownDebugW_pins (w : Nat) (d : Die) : (ownDebugW w d).pins = d.pins := by simp [ownDebugW]

@[simp] theorem Die.grantLoad_pins (d : Die) : (Die.grantLoad d).pins = d.pins := rfl

@[simp] theorem Die.scrubUe_pins (fu : Fused) (kind : Nat) (loc : Nat) (d : Die) : (Die.scrubUe fu kind loc d).pins = d.pins := by
  unfold Die.scrubUe
  dsimp only
  repeat' split
  all_goals simp

@[simp] theorem Die.tagRecord_pins (fu : Fused) (x : TagCheck) (d : Die) : (Die.tagRecord fu x d).pins = d.pins := by simp [Die.tagRecord]

@[simp] theorem pasQuarantineW_pins (p : Nat) (w : Nat) (d : Die) : (pasQuarantineW p w d).pins = d.pins := by simp [pasQuarantineW]

@[simp] theorem Die.noteFailure_pins (tile : Nat) (d : Die) : (Die.noteFailure tile d).pins = d.pins := by simp [Die.noteFailure]

@[simp] theorem Die.transient_pins (fu : Fused) (tile : Nat) (k : Pack) (x : Pattern) (seen : BitVec 64) (d : Die) :
    (Die.transient fu tile k x seen d).pins = d.pins := by simp [Die.transient]

@[simp] theorem Die.confirmed_pins (fu : Fused) (tile : Nat) (k : Pack) (x : Pattern) (seen : BitVec 64) (d : Die) :
    (Die.confirmed fu tile k x seen d).pins = d.pins := by
  unfold Die.confirmed
  dsimp only
  repeat' split
  all_goals simp

@[simp] theorem Die.putPattern_pins (tile : Nat) (x : Pattern) (after : Nat → Nat) (d : Die) : (Die.putPattern tile x after d).pins = d.pins := by
  unfold Die.putPattern
  exact foldl_keeps Die.pins _ (by intros; simp) _ _

@[simp] theorem Die.sheepNext_pins (e : Nat) (k : Pack) (tile : Nat) (pos : Nat) (d : Die) :
    (Die.sheepNext e k tile pos d).pins = d.pins := by simp [Die.sheepNext]

@[simp] theorem Die.takePack_pins (e : Nat) (k : Pack) (d : Die) : (Die.takePack e k d).pins = d.pins := rfl

@[simp] theorem shdPackWinW_pins (e : Nat) (w : Nat) (d : Die) : (shdPackWinW e w d).pins = d.pins := rfl

@[simp] theorem Die.observeEnd_pins (fu : Fused) (e : Nat) (d : Die) : (Die.observeEnd fu e d).pins = d.pins := by simp [Die.observeEnd]

@[simp] theorem Die.captureFreeze_pins (d : Die) : (Die.captureFreeze d).pins = d.pins := by simp [Die.captureFreeze]

@[simp] theorem Die.ffArm_pins (d : Die) : (Die.ffArm d).pins = d.pins := by simp [Die.ffArm]

@[simp] theorem Die.ffDump_pins (d : Die) : (Die.ffDump d).pins = d.pins := by simp [Die.ffDump]

@[simp] theorem Die.ffDisarm_pins (d : Die) : (Die.ffDisarm d).pins = d.pins := by simp [Die.ffDisarm]

@[simp] theorem lftFfW_pins (w : Nat) (d : Die) : (lftFfW w d).pins = d.pins := by
  unfold lftFfW
  dsimp only
  split <;> simp

@[simp] theorem lftControlW_pins (w : Nat) (d : Die) : (lftControlW w d).pins = d.pins := by simp [lftControlW]

@[simp] theorem Die.onTrigin_pins (i : Nat) (f : TrigIn → TrigIn) (d : Die) : (Die.onTrigin i f d).pins = d.pins := rfl

@[simp] theorem Die.setMasked_pins (i : Nat) (b : Bool) (d : Die) : (Die.setMasked i b d).pins = d.pins := rfl

@[simp] theorem Die.settlePulse_pins (i : Nat) (first : Nat) (width : Nat) (fc16 : Nat) (d : Die) :
    (Die.settlePulse i first width fc16 d).pins = d.pins := by simp [Die.settlePulse]

@[simp] theorem Die.triginStuck_pins (i : Nat) (fc16 : Nat) (d : Die) : (Die.triginStuck i fc16 d).pins = d.pins := by simp [Die.triginStuck]

@[simp] theorem Die.flipLevel_pins (i : Nat) (d : Die) : (Die.flipLevel i d).pins = d.pins := by
  unfold Die.flipLevel
  dsimp only
  split <;> simp

@[simp] theorem Die.unmask_pins (i : Nat) (d : Die) : (Die.unmask i d).pins = d.pins := by simp [Die.unmask]

@[simp] theorem triginW_pins (i : Nat) (w : Nat) (d : Die) : (triginW i w d).pins = d.pins := by simp [triginW]

@[simp] theorem unmaskW_pins (i : Nat) (raw : Bool) (w : Nat) (d : Die) : (unmaskW i raw w d).pins = d.pins := by simp [unmaskW]

@[simp] theorem engWinSelW_pins (e : Nat) (w : Nat) (d : Die) : (engWinSelW e w d).pins = d.pins := by simp [engWinSelW]

@[simp] theorem tbPageW_pins (n : Nat) (off : Nat) (w : Nat) (d : Die) : (tbPageW n off w d).pins = d.pins := by simp [tbPageW]

@[simp] theorem pageExpertW_pins (b : Block) (i : Nat) (w : Nat) (d : Die) : (pageExpertW b i w d).pins = d.pins := by
  unfold pageExpertW
  dsimp only
  split <;> simp

@[simp] theorem Die.smbNext_pins (d : Die) : (Die.smbNext d).pins = d.pins := rfl

@[simp] theorem Die.microTick_pins (d : Die) : (Die.microTick d).pins = d.pins := by simp [Die.microTick]

/-- A choice of two compute dies keeps the pins that both keep. -/
theorem Die.pins_of_ite {p : Prop} [Decidable p] {d e : Die} {v : KMap TrigPin} (hd : d.pins = v) (he : e.pins = v) :
    (if p then d else e).pins = v := by split <;> assumption

theorem Die.ringPut_pins (r : PktRing) (out : Nat) (k : Pkt) (bs : List Byte) (drop : Die → Die) (hd : ∀ d, (drop d).pins = d.pins) (d : Die) :
    (d.ringPut r out k bs drop).pins = d.pins := by
  unfold Die.ringPut
  refine Die.pins_of_ite (hd d) ?_
  split
  · exact hd d
  · exact Die.pins_of_ite rfl (Die.gapBytes_pins k _ d)

@[simp] theorem Die.deliver_pins (k : Pkt) (d : Die) : (d.deliver k).pins = d.pins := by
  have hl := fun (r : PktRing) (out : Nat) (bs : List Byte) (a : Bool) => Die.ringPut_pins r out k bs (dropLoft a) (dropLoft_pins a)
  have hp := fun (r : PktRing) (out : Nat) (bs : List Byte) (p : Nat) => Die.ringPut_pins r out k bs (dropPas p) (dropPas_pins p)
  unfold Die.deliver
  cases k.pas <;> simp [hl, hp]

@[simp] theorem Die.alarmsSince_pins (d₀ : Die) (bs sent : List Nat) (d : Die) : (Die.alarmsSince d₀ bs sent d).pins = d.pins := by
  induction bs generalizing sent d with
  | nil => rfl
  | cons b bs ih => simp [Die.alarmsSince, ih]

@[simp] theorem Die.alarm_pins (b : Nat) (d : Die) : (d.alarm b).pins = d.pins := by simp [Die.alarm]

@[simp] theorem Die.trace_pins (k : Pkt) (d : Die) : (d.trace k).pins = d.pins := by simp [Die.trace]

@[simp] theorem Die.stage_pins (src inst p evid slot st : Nat) (d : Die) : (d.stage src inst p evid slot st).pins = d.pins := by simp [Die.stage]

@[simp] theorem Die.foldl_pins {β : Type} (f : Die → β → Die) (h : ∀ d b, (f d b).pins = d.pins) (l : List β) (d : Die) :
    (l.foldl f d).pins = d.pins :=
  foldl_keeps Die.pins f h l d

@[simp] theorem Die.pExec_pins (g : Nat) (i : PInstr) (d : Die) : (Die.pExec g i d).pins = d.pins := by
  unfold Die.pExec
  split <;> simp

@[simp] theorem Die.swapPacket_pins (p : Nat) (evid : Nat) (d : Die) : (Die.swapPacket p evid d).pins = d.pins := by simp [Die.swapPacket]

@[simp] theorem Die.storek_pins (e : Ev) (p : Nat) (t : Nat) (bs : List Byte) (bad : Bool) (d : Die) :
    (Die.storek e p t bs bad d).pins = d.pins := by simp [Die.storek]

@[simp] theorem storekOp_pins (fu : Fused) (x : Fire) (d : Die) : (storekOp fu x d).2.pins = d.pins := by simp [storekOp]

@[simp] theorem Die.engTrace_pins (type : Nat) (e : Nat) (p : Nat) (a : Bool) (body : List Byte) (d : Die) :
    (Die.engTrace type e p a body d).pins = d.pins := by simp [Die.engTrace]

@[simp] theorem digestOp_pins (fu : Fused) (x : Fire) (d : Die) : (digestOp fu x d).2.pins = d.pins := by simp [digestOp]

@[simp] theorem Die.stepPacket_pins (e : Nat) (p : Nat) (im : Image) (ei : EngineImg) (step : Nat) (nostep : Bool) (d : Die) :
    (Die.stepPacket e p im ei step nostep d).pins = d.pins := by simp [Die.stepPacket]

@[simp] theorem stepOp_pins (fu : Fused) (x : Fire) (d : Die) : (stepOp fu x d).2.pins = d.pins := by simp [stepOp]

@[simp] theorem Die.satEvent_pins (e : Nat) (p : Nat) (t : Nat) (step : Nat) (share : Nat) (d : Die) :
    (Die.satEvent e p t step share d).pins = d.pins := by simp [Die.satEvent]

@[simp] theorem Die.shares_pins (e : Nat) (p : Nat) (s : Nat) (im : Image) (d : Die) : (Die.shares e p s im d).pins = d.pins := by simp [Die.shares]

@[simp] theorem Die.scalePackets_pins (e : Nat) (p : Nat) (step : Nat) (t : Nat) (es : List Int) (z : Int) (d : Die) :
    (Die.scalePackets e p step t es z d).pins = d.pins := by simp [Die.scalePackets]

@[simp] theorem Die.readRecords_pins (fu : Fused) (e : Nat) (p : Nat) (s : Nat) (im : Image) (t : Tensor) (d : Die) :
    (Die.readRecords fu e p s im t d).pins = d.pins := by simp [Die.readRecords]

@[simp] theorem Die.calUntag_pins (p : Nat) (d : Die) : (Die.calUntag p d).pins = d.pins := by simp [Die.calUntag]

@[simp] theorem Die.calStart_pins (p : Nat) (d : Die) : (Die.calStart p d).pins = d.pins := by
  unfold Die.calStart
  dsimp only
  repeat' split
  all_goals simp

@[simp] theorem fabCalW_pins (p : Nat) (w : Nat) (d : Die) : (fabCalW p w d).pins = d.pins := by
  unfold fabCalW
  split <;> simp

@[simp] theorem Die.scaleApply_pins (p : Nat) (d : Die) : (Die.scaleApply p d).pins = d.pins := by
  unfold Die.scaleApply
  dsimp only
  repeat' split
  all_goals simp

@[simp] theorem fabScaleValW_pins (p : Nat) (w : Nat) (d : Die) : (fabScaleValW p w d).pins = d.pins := by simp [fabScaleValW]

@[simp] theorem Die.admitEvent_pins (e : Nat) (p : Nat) (im : Image) (ei : EngineImg) (v : Ev) (d : Die) :
    (Die.admitEvent e p im ei v d).pins = d.pins := by
  unfold Die.admitEvent
  dsimp only
  split <;> simp

@[simp] theorem Die.entryAdmit_pins (e : Nat) (p : Nat) (waited : Bool) (stile3 : Nat) (d : Die) :
    (Die.entryAdmit e p waited stile3 d).pins = d.pins := by
  unfold Die.entryAdmit
  dsimp only
  repeat' split
  all_goals simp

@[simp] theorem Die.sendBeat_pins (x : Fire) (oq : Nat) (d : Die) : (Die.sendBeat x oq d).pins = d.pins := by
  unfold Die.sendBeat
  split <;> simp

@[simp] theorem Die.refLoss_pins (d : Die) : (Die.refLoss d).pins = d.pins := by simp [Die.refLoss]

@[simp] theorem Die.linkPacket_pins (l : Nat) (old : Nat) (new : Nat) (cause : Nat) (d : Die) :
    (Die.linkPacket l old new cause d).pins = d.pins := by simp [Die.linkPacket]

@[simp] theorem Die.laneTo_pins (l : Nat) (st : Nat) (cause : Nat) (d : Die) : (Die.laneTo l st cause d).pins = d.pins := by simp [Die.laneTo]

@[simp] theorem Die.toTrain1_pins (l : Nat) (rate : Nat) (cause : Nat) (d : Die) :
    (Die.toTrain1 l rate cause d).pins = d.pins := by simp [Die.toTrain1]

@[simp] theorem Die.failAttempt_pins (l : Nat) (cause : Nat) (d : Die) : (Die.failAttempt l cause d).pins = d.pins := by simp [Die.failAttempt]

@[simp] theorem Die.beginRetrain_pins (l : Nat) (cause : Nat) (d : Die) : (Die.beginRetrain l cause d).pins = d.pins := by simp [Die.beginRetrain]

@[simp] theorem Die.retrainTrigger_pins (l : Nat) (cause : Nat) (d : Die) :
    (Die.retrainTrigger l cause d).pins = d.pins := by simp [Die.retrainTrigger]

@[simp] theorem Die.laneError_pins (t : Tal) (l : Nat) (d : Die) : (Die.laneError t l d).pins = d.pins := by simp [Die.laneError]

@[simp] theorem Die.codeErrors_pins (l : Nat) (w : LineWords) (d : Die) : (Die.codeErrors l w d).pins = d.pins := by simp [Die.codeErrors]

@[simp] theorem Die.checkFrame_pins (l : Nat) (f : LinkFrame) (d : Die) : (Die.checkFrame l f d).2.pins = d.pins := by
  unfold Die.checkFrame
  dsimp only
  repeat' split
  all_goals simp

@[simp] theorem Die.frameIn_pins (l : Nat) (f : LinkFrame) (d : Die) : (Die.frameIn l f d).2.pins = d.pins := by simp [Die.frameIn]

@[simp] theorem Die.endDefer_pins (l : Nat) (d : Die) : (Die.endDefer l d).pins = d.pins := by simp [Die.endDefer]

@[simp] theorem Die.train1Exit_pins (l : Nat) (d : Die) : (Die.train1Exit l d).pins = d.pins := by simp [Die.train1Exit]

@[simp] theorem Die.los_pins (l : Nat) (d : Die) : (Die.los l d).pins = d.pins := by simp [Die.los]

@[simp] theorem lnkControlW_pins (l : Nat) (w : Nat) (d : Die) : (lnkControlW l w d).pins = d.pins := by simp [lnkControlW]

@[simp] theorem Die.ethPacket_pins (t : Nat) (old : Nat) (new : Nat) (cause : Nat) (d : Die) :
    (Die.ethPacket t old new cause d).pins = d.pins := by simp [Die.ethPacket]

@[simp] theorem Die.ethDown_pins (t : Nat) (cause : Nat) (d : Die) : (Die.ethDown t cause d).pins = d.pins := by simp [Die.ethDown]

@[simp] theorem ethControlW_pins (t : Nat) (w : Nat) (d : Die) : (ethControlW t w d).pins = d.pins := by simp [ethControlW]

@[simp] theorem Die.updPacket_pins (x : UpdCtx) (r : UpdRun) (outcome : Nat) (d : Die) :
    (Die.updPacket x r outcome d).pins = d.pins := by simp [Die.updPacket]

@[simp] theorem Die.skipBatch_pins (x : UpdCtx) (s : Nat) (ids : List Nat) (d : Die) :
    (Die.skipBatch x s ids d).pins = d.pins := by simp [Die.skipBatch]

@[simp] theorem Die.closeBatch_pins (x : UpdCtx) (d : Die) : (Die.closeBatch x d).pins = d.pins := by simp [Die.closeBatch]

@[simp] theorem Die.deliverPair_pins (x : UpdCtx) (c : CapRec) (d : Die) : (Die.deliverPair x c d).pins = d.pins := by simp [Die.deliverPair]

@[simp] theorem updControlW_pins (src : Source) (e : Nat) (w : Nat) (d : Die) : (updControlW src e w d).pins = d.pins := by
  unfold updControlW
  dsimp only
  repeat' split
  all_goals simp

@[simp] theorem Die.stepFc_pins (n : Nat) (d : Die) : (Die.stepFc n d).pins = d.pins := by simp [Die.stepFc]

@[simp] theorem Die.onSample_pins (o : Int) (d : Die) : (Die.onSample o d).pins = d.pins := by simp [Die.onSample]

@[simp] theorem Die.parentSync_pins (l : Nat) (seq : Nat) (prevTx : Nat) (hold : Nat) (rx : Nat) (d : Die) :
    (Die.parentSync l seq prevTx hold rx d).pins = d.pins := by
  unfold Die.parentSync
  dsimp only
  split <;> simp

@[simp] theorem Die.passCommit_pins (image : Nat) (step : Nat) (d : Die) : (Die.passCommit image step d).pins = d.pins := by
  unfold Die.passCommit
  split <;> simp

@[simp] theorem Die.form_pins (d : Die) : (Die.form d).pins = d.pins := by simp [Die.form]

@[simp] theorem Die.larderBack_pins (p : Nat) (d : Die) : (Die.larderBack p d).pins = d.pins := by
  unfold Die.larderBack
  dsimp only
  repeat' split
  all_goals simp

@[simp] theorem Die.emptyQuarters_pins (p : Nat) (d : Die) : (Die.emptyQuarters p d).pins = d.pins := by simp [Die.emptyQuarters]

@[simp] theorem Die.dropImage_pins (p : Nat) (d : Die) : (Die.dropImage p d).pins = d.pins := by
  unfold Die.dropImage
  split <;> simp

@[simp] theorem Die.queuesEmpty_pins (p : Nat) (d : Die) : (Die.queuesEmpty p d).pins = d.pins := by simp [Die.queuesEmpty]

@[simp] theorem Die.breakSlots_pins (kind : Nat) (n : Nat) (s : Nat) (d : Die) : (Die.breakSlots kind n s d).pins = d.pins := by
  unfold Die.breakSlots
  split <;> simp

@[simp] theorem Die.stepDue_pins (n : Nat) (d : Die) : (Die.stepDue n d).pins = d.pins := by
  unfold Die.stepDue
  split <;> simp

@[simp] theorem Die.raiseLinks_pins (d : Die) : (Die.raiseLinks d).pins = d.pins := by simp [Die.raiseLinks]

@[simp] theorem Die.powerPacket_pins (left : Nat) (entered : Nat) (exit : Bool) (lost : Bool) (d : Die) :
    (Die.powerPacket left entered exit lost d).pins = d.pins := by simp [Die.powerPacket]

@[simp] theorem Die.beginState_pins (t : Nat) (d : Die) : (Die.beginState t d).pins = d.pins := by simp [Die.beginState]

@[simp] theorem Die.stateGo_pins (c : Cellar) (d : Die) : (Die.stateGo c d).pins = d.pins := by simp [Die.stateGo]

@[simp] theorem pwrStateW_pins (c : Cellar) (w : Nat) (d : Die) : (pwrStateW c w d).pins = d.pins := by simp [pwrStateW]

@[simp] theorem Die.leaveStandby_pins (d : Die) : (Die.leaveStandby d).pins = d.pins := by simp [Die.leaveStandby]

@[simp] theorem Die.leaveNap_pins (d : Die) : (Die.leaveNap d).pins = d.pins := by simp [Die.leaveNap]

@[simp] theorem Die.stateReached_pins (d : Die) : (Die.stateReached d).pins = d.pins := by
  unfold Die.stateReached
  split <;> simp

@[simp] theorem Die.thermTrip_pins (d : Die) : (Die.thermTrip d).pins = d.pins := by simp [Die.thermTrip]

@[simp] theorem Die.settle_pins (p : Nat) (d : Die) : (Die.settle p d).pins = d.pins := by simp [Die.settle]

@[simp] theorem Die.otpLoad_pins (d : Die) : (Die.otpLoad d).pins = d.pins := by
  unfold Die.otpLoad
  split <;> simp

@[simp] theorem otpControlW_pins (w : Nat) (d : Die) : (otpControlW w d).pins = d.pins := by
  unfold otpControlW
  split <;> simp

@[simp] theorem Die.packLoad_pins (fu : Fused) (e : Nat) (hostFail : Bool) (d : Die) : (Die.packLoad fu e hostFail d).pins = d.pins := by
  unfold Die.packLoad
  dsimp only
  repeat' split
  all_goals simp

@[simp] theorem shdPackW_pins (fu : Fused) (e : Nat) (hostFail : Bool) (w : Nat) (d : Die) : (shdPackW fu e hostFail w d).pins = d.pins := by
  unfold shdPackW
  split <;> simp

@[simp] theorem ringRise_pins (b : Block) (ctl : Nat) (i : Nat) (d : Die) : (ringRise b ctl i d).pins = d.pins := by
  unfold ringRise
  split <;> simp

@[simp] theorem ringW_pins (b : Block) (i : Nat) (off : Nat) (r : RingRegs) (w : Nat) (d : Die) :
    (ringW b i off r w d).pins = d.pins := by simp [ringW]

@[simp] theorem ringWrite_pins (b : Block) (i : Nat) (off : Nat) (w : Nat) (d : Die) : (ringWrite b i off w d).pins = d.pins := by
  unfold ringWrite
  split <;> simp

@[simp] theorem engClkstopW_pins (e : Nat) (w : Nat) (d : Die) : (engClkstopW e w d).pins = d.pins := by simp [engClkstopW]

@[simp] theorem lrdPageW_pins (fu : Fused) (p : Nat) (off : Nat) (w : Nat) (d : Die) : (lrdPageW fu p off w d).pins = d.pins := by simp [lrdPageW]

@[simp] theorem lftPageW_pins (off : Nat) (w : Nat) (d : Die) : (lftPageW off w d).pins = d.pins := by simp [lftPageW]

@[simp] theorem ethPageW_pins (t : Nat) (off : Nat) (w : Nat) (d : Die) : (ethPageW t off w d).pins = d.pins := by simp [ethPageW]

@[simp] theorem tallyW_pins (src : Source) (b : Block) (i : Nat) (lo : Nat) (off : Nat) (w : Nat) (d : Die) :
    (tallyW src b i lo off w d).pins = d.pins := by
  unfold tallyW
  split <;> simp

@[simp] theorem Die.fcTick_pins (d : Die) : (Die.fcTick d).pins = d.pins := by simp [Die.fcTick]

/-- Each step of a fold keeps the pins. -/
def KeepsPins {β : Type} (f : Die → β → Die) : Prop := ∀ d b, (f d b).pins = d.pins

@[simp] theorem keepsPins_iff {β : Type} (f : Die → β → Die) : KeepsPins f ↔ ∀ d b, (f d b).pins = d.pins := Iff.rfl

@[simp] theorem Die.foldl_pins_of_keeps {β : Type} (f : Die → β → Die) (l : List β) (d : Die) (h : KeepsPins f) : (l.foldl f d).pins = d.pins :=
  foldl_keeps Die.pins f h l d

@[simp] theorem Die.pRun_pins (g n : Nat) (d : Die) : (d.pRun g n).pins = d.pins := by
  induction n generalizing d with
  | zero => rfl
  | succ n ih =>
    unfold Die.pRun
    split
    · simp [ih]
    · rfl

@[simp] theorem Die.eccReadAll_pins (fu : Fused) (kind : Nat) (t p : Option Nat) (l : List Nat) (d : Die) :
    (d.eccReadAll fu kind t p l).2.pins = d.pins := by
  induction l generalizing d with
  | nil => rfl
  | cons a l ih => simp [Die.eccReadAll, ih]

@[simp] theorem Die.readStore_pins (fu : Fused) (im : Image) (p t : Nat) (l : List Nat) (d : Die) : (d.readStore fu im p t l).2.pins = d.pins := by
  induction l generalizing d with
  | nil => rfl
  | cons a l ih => simp [Die.readStore, ih]

@[simp] theorem Die.observeAll_pins (x : Fire) (slot f : Nat) (l : List (Nat × Nat × Nat × Bool)) (d : Die) :
    (Die.observeAll x slot f l d).pins = d.pins := by
  induction l generalizing d with
  | nil => rfl
  | cons a l ih => simp [Die.observeAll, ih]

theorem Die.allocRow_pins (p n a : Nat) (d e : Die) (h : d.allocRow p n = some (a, e)) : e.pins = d.pins := by
  unfold Die.allocRow at h
  dsimp only at h
  split at h
  · cases h; rfl
  · split at h
    · rw [Option.ite_none_right_eq_some] at h
      obtain ⟨-, h⟩ := h
      cases h; rfl
    · cases h

@[simp] theorem Die.rbPut_pins (p : Nat) (r : RbRec) (d : Die) : (d.rbPut p r).pins = d.pins := by
  unfold Die.rbPut
  split
  · rfl
  · dsimp only
    split
    · next ha => simp [Die.allocRow_pins _ _ _ _ _ ha]
    · simp

@[simp] theorem Die.rbDefault_pins (p : Nat) (r : RbRec) (d : Die) : (d.rbDefault p r).pins = d.pins := by
  unfold Die.rbDefault
  split
  · rfl
  · split
    · rfl
    · next ha => simp [Die.allocRow_pins _ _ _ _ _ ha]

@[simp] theorem Die.lineEnds_pins (g : Nat) (d : Die) : (Die.lineEnds g d).pins = d.pins := by simp [Die.lineEnds]

@[simp] theorem Die.readRow_pins (fu : Fused) (p : Nat) (ptr : Nat) (words : Nat) (d : Die) : (Die.readRow fu p ptr words d).2.2.pins = d.pins := by
  unfold Die.readRow
  dsimp only
  split <;> simp

@[simp] theorem Die.lookup_pins (fu : Fused) (p : Nat) (table : Nat) (key : Nat) (d : Die) : (Die.lookup fu p table key d).2.pins = d.pins := by
  unfold Die.lookup
  dsimp only
  repeat' split
  all_goals simp

@[simp] theorem Die.larderLookup_pins (fu : Fused) (g : Nat) (p : Nat) (d : Die) : (Die.larderLookup fu g p d).pins = d.pins := by
  unfold Die.larderLookup
  dsimp only
  repeat' split
  all_goals simp

@[simp] theorem Die.readBeats_pins (fu : Fused) (x : Fire) (l : List Nat) (d : Die) :
    (Die.readBeats fu x l d).2.pins = d.pins := by simp [Die.readBeats]

@[simp] theorem Die.loopCount_pins (x : Fire) (last : Bool) (d : Die) : (Die.loopCount x last d).pins = d.pins := by simp [Die.loopCount]

@[simp] theorem Die.finish_pins (x : Fire) (o : Out) (d : Die) : (Die.finish x o d).pins = d.pins := by simp [Die.finish]

@[simp] theorem arith_pins (sat : Tal) (fl : Tal) (reads : (Nat → Nat) → Fire → Nat → List Nat → List Nat) (work : (Nat → Nat) → Fire → Nat → List Nat → List Nat → Num (List Nat)) (fu : Fused) (x : Fire) (d : Die) :
    (arith sat fl reads work fu x d).2.pins = d.pins := by simp [arith]

@[simp] theorem dotOp_pins (fu : Fused) (x : Fire) (d : Die) : (dotOp fu x d).2.pins = d.pins := by simp [dotOp]

@[simp] theorem dotaOp_pins (fu : Fused) (x : Fire) (d : Die) : (dotaOp fu x d).2.pins = d.pins := by simp [dotaOp]

@[simp] theorem dwcOp_pins (fu : Fused) (x : Fire) (d : Die) : (dwcOp fu x d).2.pins = d.pins := by simp [dwcOp]

@[simp] theorem scalegOp_pins (fu : Fused) (x : Fire) (d : Die) : (scalegOp fu x d).2.pins = d.pins := by simp [scalegOp]

@[simp] theorem accfOp_pins (fu : Fused) (x : Fire) (d : Die) : (accfOp fu x d).2.pins = d.pins := by simp [accfOp]

@[simp] theorem rqOp_pins (fu : Fused) (x : Fire) (d : Die) : (rqOp fu x d).2.pins = d.pins := by
  unfold rqOp
  dsimp only
  split <;> simp

@[simp] theorem actOp_pins (fu : Fused) (x : Fire) (d : Die) : (actOp fu x d).2.pins = d.pins := by
  unfold actOp
  dsimp only
  split <;> simp

@[simp] theorem vecOp_pins (f : Nat → Nat → Nat → Num Nat) (fu : Fused) (x : Fire) (d : Die) : (vecOp f fu x d).2.pins = d.pins := by simp [vecOp]

@[simp] theorem reluOp_pins (fu : Fused) (x : Fire) (d : Die) : (reluOp fu x d).2.pins = d.pins := by simp [reluOp]

@[simp] theorem clampOp_pins (fu : Fused) (x : Fire) (d : Die) : (clampOp fu x d).2.pins = d.pins := by simp [clampOp]

@[simp] theorem selvOp_pins (fu : Fused) (x : Fire) (d : Die) : (selvOp fu x d).2.pins = d.pins := by simp [selvOp]

@[simp] theorem normAffineOp_pins (fu : Fused) (x : Fire) (d : Die) : (normAffineOp fu x d).2.pins = d.pins := by simp [normAffineOp]

@[simp] theorem normLayerOp_pins (fu : Fused) (x : Fire) (d : Die) : (normLayerOp fu x d).2.pins = d.pins := by simp [normLayerOp]

@[simp] theorem argmaxOp_pins (fu : Fused) (x : Fire) (d : Die) : (argmaxOp fu x d).2.pins = d.pins := by simp [argmaxOp]

@[simp] theorem treeOp_pins (fu : Fused) (x : Fire) (d : Die) : (treeOp fu x d).2.pins = d.pins := by simp [treeOp]

@[simp] theorem leafOp_pins (fu : Fused) (x : Fire) (d : Die) : (leafOp fu x d).2.pins = d.pins := by simp [leafOp]

@[simp] theorem movqOp_pins (fu : Fused) (x : Fire) (d : Die) : (movqOp fu x d).2.pins = d.pins := by
  unfold movqOp
  dsimp only
  split <;> simp

@[simp] theorem gatherOp_pins (fu : Fused) (x : Fire) (d : Die) : (gatherOp fu x d).2.pins = d.pins := by simp [gatherOp]

@[simp] theorem scatterOp_pins (fu : Fused) (x : Fire) (d : Die) : (scatterOp fu x d).2.pins = d.pins := by simp [scatterOp]

@[simp] theorem packOp_pins (fu : Fused) (x : Fire) (d : Die) : (packOp fu x d).2.pins = d.pins := by simp [packOp]

@[simp] theorem unpackOp_pins (fu : Fused) (x : Fire) (d : Die) : (unpackOp fu x d).2.pins = d.pins := by simp [unpackOp]

@[simp] theorem ringOp_pins (fu : Fused) (x : Fire) (d : Die) : (ringOp fu x d).2.pins = d.pins := by
  unfold ringOp
  dsimp only
  split <;> simp

@[simp] theorem ringLateOp_pins (fu : Fused) (x : Fire) (d : Die) : (ringLateOp fu x d).2.pins = d.pins := by simp [ringLateOp]

@[simp] theorem Die.writeTensor_pins (e : Nat) (p : Nat) (par : Nat) (im : Image) (t : Tensor) (es : List Int) (z : Int) (d : Die) :
    (Die.writeTensor e p par im t es z d).pins = d.pins := by simp [Die.writeTensor]

@[simp] theorem Die.writeStatics_pins (e : Nat) (p : Nat) (par : Nat) (im : Image) (d : Die) :
    (Die.writeStatics e p par im d).pins = d.pins := by simp [Die.writeStatics]

@[simp] theorem Die.commitStep_pins (fu : Fused) (e : Nat) (p : Nat) (s : Nat) (im : Image) (d : Die) :
    (Die.commitStep fu e p s im d).pins = d.pins := by simp [Die.commitStep]

@[simp] theorem Die.startCtx_pins (fu : Fused) (tile : Nat) (c : Nat) (cc : CtxCfg) (d : Die) :
    (Die.startCtx fu tile c cc d).pins = d.pins := by simp [Die.startCtx]

@[simp] theorem Die.dropFlight_pins (e : Nat) (p : Nat) (d : Die) : (Die.dropFlight e p d).2.pins = d.pins := by simp [Die.dropFlight]

@[simp] theorem Die.takeStatics_pins (e : Nat) (p : Nat) (im : Image) (d : Die) :
    (Die.takeStatics e p im d).pins = d.pins := by simp [Die.takeStatics]

@[simp] theorem Die.resumePas_pins (e : Nat) (p : Nat) (im : Image) (d : Die) : (Die.resumePas e p im d).pins = d.pins := by simp [Die.resumePas]

@[simp] theorem gradBack_pins (fu : Fused) (f : UFire) (d : Die) : (gradBack fu f d).2.pins = d.pins := by simp [gradBack]

@[simp] theorem laccAccum_pins (fu : Fused) (f : UFire) (d : Die) : (laccAccum fu f d).2.pins = d.pins := by
  unfold laccAccum
  dsimp only
  split <;> simp

@[simp] theorem laccFlush_pins (fu : Fused) (f : UFire) (d : Die) : (laccFlush fu f d).2.pins = d.pins := by
  unfold laccFlush
  dsimp only
  split <;> simp

@[simp] theorem Die.beginLoads_pins (p : Nat) (im : Image) (why : Nat) (d : Die) :
    (Die.beginLoads p im why d).pins = d.pins := by simp [Die.beginLoads]

@[simp] theorem Die.replaceGo_pins (p : Nat) (d : Die) : (Die.replaceGo p d).pins = d.pins := by
  unfold Die.replaceGo
  split <;> simp

@[simp] theorem Die.abortAdmission_pins (p : Nat) (code : Nat) (d : Die) : (Die.abortAdmission p code d).pins = d.pins := by
  unfold Die.abortAdmission
  dsimp only
  repeat' split
  all_goals simp

@[simp] theorem Die.loadFailed_pins (p : Nat) (d : Die) : (Die.loadFailed p d).pins = d.pins := by simp [Die.loadFailed]

@[simp] theorem Die.dropWaiting_pins (p : Nat) (d : Die) : (Die.dropWaiting p d).pins = d.pins := by simp [Die.dropWaiting]

@[simp] theorem Die.withdraw_pins (p : Nat) (d : Die) : (Die.withdraw p d).pins = d.pins := by simp [Die.withdraw]

@[simp] theorem pasAdmitW_pins (p : Nat) (w : Nat) (d : Die) : (pasAdmitW p w d).pins = d.pins := by
  unfold pasAdmitW
  split <;> simp

@[simp] theorem Die.abortAdmissions_pins (code : Nat) (d : Die) : (Die.abortAdmissions code d).pins = d.pins := by simp [Die.abortAdmissions]

@[simp] theorem Die.timingApply_pins (fu : Fused) (d : Die) : (Die.timingApply fu d).pins = d.pins := by simp [Die.timingApply]

@[simp] theorem devTimingW_pins (fu : Fused) (w : Nat) (d : Die) : (devTimingW fu w d).pins = d.pins := by simp [devTimingW]

@[simp] theorem Die.wipe_pins (d : Die) : (Die.wipe d).pins = d.pins := by simp [Die.wipe]

@[simp] theorem Die.vfFlr_pins (p : Nat) (d : Die) : (Die.vfFlr p d).pins = d.pins := by simp [Die.vfFlr]

@[simp] theorem Die.grantCommit_pins (fu : Fused) (d : Die) : (Die.grantCommit fu d).pins = d.pins := by simp [Die.grantCommit]

@[simp] theorem ownGrantSelW_pins (fu : Fused) (w : Nat) (d : Die) : (ownGrantSelW fu w d).pins = d.pins := by
  unfold ownGrantSelW
  split <;> simp

@[simp] theorem Die.endLoad_pins (e : Nat) (q : Nat) (d : Die) : (Die.endLoad e q d).pins = d.pins := by
  unfold Die.endLoad
  dsimp only
  repeat' split
  all_goals simp

@[simp] theorem Die.shdPattern_pins (fu : Fused) (tile : Nat) (err1 : BitVec 64) (err2 : BitVec 64) (d : Die) :
    (Die.shdPattern fu tile err1 err2 d).pins = d.pins := by
  unfold Die.shdPattern
  dsimp only
  repeat' split
  all_goals simp

@[simp] theorem Die.musterGo_pins (e : Nat) (d : Die) : (Die.musterGo e d).pins = d.pins := by simp [Die.musterGo]

@[simp] theorem shdControlW_pins (fu : Fused) (e : Nat) (w : Nat) (d : Die) : (shdControlW fu e w d).pins = d.pins := by
  unfold shdControlW
  dsimp only
  split <;> simp

@[simp] theorem pasPageW_pins (p : Nat) (off : Nat) (w : Nat) (d : Die) : (pasPageW p off w d).pins = d.pins := by simp [pasPageW]

@[simp] theorem shdPageW_pins (fu : Fused) (e : Nat) (off : Nat) (w : Nat) (d : Die) : (shdPageW fu e off w d).pins = d.pins := by simp [shdPageW]

@[simp] theorem devPageW_pins (fu : Fused) (off : Nat) (w : Nat) (d : Die) : (devPageW fu off w d).pins = d.pins := by simp [devPageW]

@[simp] theorem Die.loadStore_pins (im : Image) (scope tile : Nat) (z : TileImg) (d : Die) : (d.loadStore im scope tile z).pins = d.pins := by
  unfold Die.loadStore
  refine Die.pins_of_ite rfl (foldl_keeps Die.pins _ (fun d y => ?_) _ _)
  dsimp only
  split <;> simp

@[simp] theorem Die.startLoad_pins (e : Nat) (d : Die) : (d.startLoad e).pins = d.pins := by
  unfold Die.startLoad
  refine Die.pins_of_ite (by simp) (Die.pins_of_ite (by simp) ?_)
  refine (Die.setBusy_pins e _).trans ((Die.askLoad_pins _ _).trans (foldl_keeps Die.pins _ (fun d q => ?_) _ _))
  refine (Die.setQ_pins e q 1 _).trans ?_
  split <;> simp

@[simp] theorem Die.resume_pins (e : Nat) (d : Die) : (d.resume e).pins = d.pins := by
  unfold Die.resume
  refine ((Die.setBusy_pins _ _).trans (foldl_keeps Die.pins _ (fun d p => ?_) _ _)).trans (by simp)
  split
  · rfl
  · simp

@[simp] theorem Die.loadTile_pins (fu : Fused) (im : Image) (scope tile : Nat) (z : TileImg) (d : Die) :
    (d.loadTile fu im scope tile z).pins = d.pins := by simp [Die.loadTile]

@[simp] theorem Die.loadQuarter_pins (fu : Fused) (e q p scope : Nat) (im : Image) (ei : EngineImg) (d : Die) :
    (d.loadQuarter fu e q p scope im ei).pins = d.pins := by
  unfold Die.loadQuarter
  extract_lets tiles d₁ d₂ d₃
  have h₁ : d₁.pins = d.pins := foldl_keeps Die.pins _ (fun d t => by split <;> simp) _ _
  have h₃ : d₃.pins = d.pins := by simp [d₃, d₂, h₁]
  exact Die.pins_of_ite h₃ h₃

@[simp] theorem Die.loadDone_pins (fu : Fused) (e : Nat) (d : Die) : (d.loadDone fu e).pins = d.pins := by
  unfold Die.loadDone
  refine Die.pins_of_ite rfl ?_
  extract_lets part of ps
  simp only [Die.setBusy_pins, Die.put_pins, Die.count_pins]
  refine (foldl_keeps Die.pins _ (fun d y => by simp) _ _).trans (foldl_keeps Die.pins _ (fun d q => ?_) _ _)
  dsimp only
  split <;> simp

@[simp] theorem ownClaimW_pins (src : Source) (w : Nat) (d : Die) : (ownClaimW src w d).pins = d.pins := by
  have hg : ∀ m (e : Die), (e.giveCrook m).pins = e.pins := fun m e => by simp
  unfold ownClaimW
  refine Die.pins_of_ite ?_ rfl
  cases src with
  | vf p => exact Die.count_pins _ _ _
  | m0 | m1 | m2 | m3 =>
    dsimp only
    split <;> simp [Die.claim, Die.accept]

@[simp] theorem Die.electionClose_pins (d : Die) : d.electionClose.pins = d.pins := by
  unfold Die.electionClose
  refine Die.pins_of_ite ?_ rfl
  split
  · simp
  · rfl

/-- An item of a lane comes from the lane's own queues and the Loft's. -/
theorem Die.nextItem_pins (l s : Nat) (d e : Die) (syms : List Sym) (h : d.nextItem l s = some (syms, e)) : e.pins = d.pins := by
  unfold Die.nextItem at h
  extract_lets x wc lane rel sync src loft at h
  have hlane : ∀ r y, lane r = some y → y.2.pins = d.pins := by
    intro r y hy
    obtain ⟨z, -, rfl⟩ := Option.map_eq_some_iff.1 hy
    rfl
  have hrel : ∀ cls r y, rel cls r = some y → y.2.pins = d.pins := fun cls r y hy => hlane _ y hy
  have hloft : ∀ y, loft = some y → y.2.pins = d.pins := by
    intro y hy
    rw [Option.ite_none_right_eq_some] at hy
    obtain ⟨z, -, rfl⟩ := Option.map_eq_some_iff.1 hy.2
    rfl
  have hif : ∀ (b : Bool) (o : Option (List Sym × Die)), (∀ y, o = some y → y.2.pins = d.pins) →
      ∀ y, (if b then o else none) = some y → y.2.pins = d.pins := by
    intro b o ho y hy
    rw [Option.ite_none_right_eq_some] at hy
    exact ho y hy.2
  obtain ⟨o, ho, hsome⟩ := List.exists_of_findSome?_eq_some h
  simp only [List.mem_cons, List.not_mem_nil, or_false] at ho
  obtain rfl : o = some (syms, e) := hsome
  rcases ho with ho | ho | ho | ho | ho | ho | ho
  · exact hif _ _ (hlane _) _ ho.symm
  · exact hif _ _ (hrel _ _) _ ho.symm
  · exact hif _ _ (hlane _) _ ho.symm
  · exact hloft _ ho.symm
  · exact hrel _ _ _ ho.symm
  · exact hrel _ _ _ ho.symm
  · exact hif _ _ (hrel _ _) _ ho.symm

@[simp] theorem Die.lineTurn_pins (l : Nat) (d : Die) : (d.lineTurn l).pins = d.pins := by
  unfold Die.lineTurn
  refine Die.pins_of_ite ?_ rfl
  split
  · rfl
  · next hitem => exact Die.pins_of_ite ((Die.putLine_pins _ _ _ _).trans (Die.nextItem_pins _ _ _ _ _ hitem)) rfl

@[simp] theorem Die.steerIn_pins (p : Nat) (im : Image) (d : Die) : (d.steerIn p im).pins = d.pins := by
  unfold Die.steerIn
  exact (foldl_keeps Die.pins _ (fun d s => by split <;> rfl) _ _).trans (by simp)

@[simp] theorem Die.larderIn_pins (p : Nat) (im : Image) (d : Die) : (d.larderIn p im).pins = d.pins := by
  unfold Die.larderIn
  refine (foldl_keeps Die.pins _ (fun d t => ?_) _ _).trans (by simp)
  split
  · rfl
  · next ha => simp [Die.allocRow_pins _ _ _ _ _ ha]

/-- A draw of several words, one after another. -/
theorem Die.drawN_succ (P : Nat × Die → Prop) (n : Nat) (d : Die)
    (h : P (d.draw.1.toNat + (Die.drawN n d.draw.2).1 * 2 ^ 64, (Die.drawN n d.draw.2).2)) : P (d.drawN (n + 1)) := h

@[simp] theorem Die.drawN_pins (n : Nat) (d : Die) : (d.drawN n).2.pins = d.pins := by
  induction n generalizing d with
  | zero => rfl
  | succ n ih => exact Die.drawN_succ (fun x => x.2.pins = d.pins) n d (ih d.draw.2)

@[simp] theorem Die.loadAll_pins (fu : Fused) (p : Nat) (im : Image) (d : Die) : (d.loadAll fu p im).pins = d.pins := by
  unfold Die.loadAll
  refine (foldl_keeps Die.pins _ (fun d e => by simp) _ _).trans (foldl_keeps Die.pins _ (fun d y => ?_) _ _)
  split
  · rfl
  · simp

@[simp] theorem Die.serveCore_pins (fu : Fused) (p : Nat) (im : Image) (d : Die) : (d.serveCore fu p im).pins = d.pins := by
  unfold Die.serveCore
  extract_lets start d₁ d₂ d₃ d₄ d₅ fold mask d₆ d₇
  have h₂ : d₂.pins = d.pins := foldl_keeps Die.pins _ (fun d e => by split <;> simp) _ _
  have h₄ : d₄.pins = d.pins := by
    refine Eq.trans ?_ ((Die.loadAll_pins fu p im d₂).trans h₂)
    show Die.pins (match im.upd with | some u => _ | none => _) = _
    split <;> rfl
  simp [d₅, d₆, d₇, h₄]

@[simp] theorem srqOp_pins (fu : Fused) (f : UFire) (d : Die) : (srqOp fu f d).2.pins = d.pins := by
  unfold srqOp
  extract_lets n ks rd
  split
  · simp [rd]
  · refine (foldl_keeps Die.pins _ (fun d i => ?_) _ _).trans ((Die.onUpd_pins _ _ _).trans (Die.readStore_pins _ _ _ _ _ _))
    dsimp only
    split <;> simp

@[simp] theorem Die.recoverQuarter_pins (fu : Fused) (e : Nat) (q : Nat) (lost : Bool) (d : Die) :
    (Die.recoverQuarter fu e q lost d).pins = d.pins := by
  unfold Die.recoverQuarter
  dsimp only
  repeat' split
  all_goals simp

@[simp] theorem engControlW_pins (e : Nat) (w : Nat) (d : Die) : (engControlW e w d).pins = d.pins := by
  unfold engControlW
  dsimp only
  repeat' split
  all_goals simp

@[simp] theorem Die.sendRel_pins (l : Nat) (cls : Nat) (payload : List Byte) (d : Die) :
    (Die.sendRel l cls payload d).pins = d.pins := by simp [Die.sendRel]

@[simp] theorem Die.sendS_pins (l : Nat) (chan : Nat) (payload : List Byte) (d : Die) :
    (Die.sendS l chan payload d).pins = d.pins := by simp [Die.sendS]

@[simp] theorem Die.sendUp_pins (type : Nat) (image : Nat) (body : List Byte) (d : Die) : (Die.sendUp type image body d).pins = d.pins := by
  unfold Die.sendUp
  split <;> simp

@[simp] theorem Die.sendDown_pins (cls : Nat) (msg : List Byte) (d : Die) : (Die.sendDown cls msg d).pins = d.pins := by simp [Die.sendDown]

@[simp] theorem Die.sendJoin_pins (fu : Fused) (d : Die) : (Die.sendJoin fu d).pins = d.pins := by simp [Die.sendJoin]

@[simp] theorem Die.toActive_pins (fu : Fused) (l : Nat) (d : Die) : (Die.toActive fu l d).pins = d.pins := by simp [Die.toActive]

@[simp] theorem Die.train2Exit_pins (fu : Fused) (l : Nat) (d : Die) : (Die.train2Exit fu l d).pins = d.pins := by simp [Die.train2Exit]

@[simp] theorem Die.control_pins (l : Nat) (f : LinkFrame) (d : Die) : (Die.control l f d).pins = d.pins := by simp [Die.control]

@[simp] theorem Die.sendDigest_pins (x : UpdCtx) (step : Nat) (d : Die) : (Die.sendDigest x step d).pins = d.pins := by simp [Die.sendDigest]

@[simp] theorem Die.updStop_pins (x : UpdCtx) (frozen : Bool) (outcome : Nat) (d : Die) : (Die.updStop x frozen outcome d).pins = d.pins := by
  unfold Die.updStop
  split <;> simp

@[simp] theorem Die.enterReduce_pins (x : UpdCtx) (d : Die) : (Die.enterReduce x d).pins = d.pins := by
  unfold Die.enterReduce
  dsimp only
  split <;> simp

@[simp] theorem Die.enterFlush_pins (x : UpdCtx) (d : Die) : (Die.enterFlush x d).pins = d.pins := by simp [Die.enterFlush]

@[simp] theorem Die.deliverBlock_pins (fu : Fused) (x : UpdCtx) (tile : Nat) (d : Die) : (Die.deliverBlock fu x tile d).pins = d.pins := by
  unfold Die.deliverBlock
  split <;> simp

@[simp] theorem Die.reduceDone_pins (fu : Fused) (x : UpdCtx) (d : Die) : (Die.reduceDone fu x d).pins = d.pins := by
  unfold Die.reduceDone
  split <;> simp

@[simp] theorem Die.updateFlip_pins (x : UpdCtx) (d : Die) : (Die.updateFlip x d).pins = d.pins := by
  unfold Die.updateFlip
  split <;> simp

@[simp] theorem Die.forward_pins (cls : Nat) (m : List Byte) (d : Die) : (Die.forward cls m d).pins = d.pins := by simp [Die.forward]

@[simp] theorem Die.relay_pins (payload : List Byte) (d : Die) : (Die.relay payload d).pins = d.pins := by simp [Die.relay]

@[simp] theorem Die.standbyTakeover_pins (d : Die) : (Die.standbyTakeover d).pins = d.pins := by simp [Die.standbyTakeover]

@[simp] theorem Die.closeReduction_pins (x : SetInfo) (r : Reduction) (d : Die) :
    (Die.closeReduction x r d).pins = d.pins := by simp [Die.closeReduction]

@[simp] theorem Die.reduceMsg_pins (l : Nat) (x : SetInfo) (m : List Byte) (d : Die) :
    (Die.reduceMsg l x m d).pins = d.pins := by simp [Die.reduceMsg]

@[simp] theorem Die.commitMsg_pins (x : UpdCtx) (step : Nat) (flip : Nat) (verdict : Nat) (d : Die) :
    (Die.commitMsg x step flip verdict d).pins = d.pins := by
  unfold Die.commitMsg
  split <;> simp

@[simp] theorem Die.finishDigest_pins (g : DigestSet) (d : Die) : (Die.finishDigest g d).pins = d.pins := by
  unfold Die.finishDigest
  dsimp only
  repeat' split
  all_goals simp

@[simp] theorem Die.flockMsgSend_pins (d : Die) : (Die.flockMsgSend d).pins = d.pins := by simp [Die.flockMsgSend]

@[simp] theorem Die.acceptImage_pins (p : Nat) (im : Image) (d : Die) : (Die.accept_ p im d).pins = d.pins := by
  unfold Die.accept_
  split <;> simp

@[simp] theorem Die.checksDone_pins (fu : Fused) (p : Nat) (r : ImageRead) (d : Die) : (Die.checksDone fu p r d).pins = d.pins := by
  unfold Die.checksDone
  dsimp only
  repeat' split
  all_goals simp

@[simp] theorem Die.serve_pins (fu : Fused) (p : Nat) (im : Image) (d : Die) : (Die.serve fu p im d).pins = d.pins := by simp [Die.serve]

@[simp] theorem Die.admissionLoadDone_pins (fu : Fused) (p : Nat) (d : Die) : (Die.admissionLoadDone fu p d).pins = d.pins := by
  unfold Die.admissionLoadDone
  dsimp only
  repeat' split
  all_goals simp

@[simp] theorem Die.restorePas_pins (fu : Fused) (p : Nat) (d : Die) : (Die.restorePas fu p d).pins = d.pins := by
  unfold Die.restorePas
  dsimp only
  repeat' split
  all_goals simp

@[simp] theorem engPageW_pins (fu : Fused) (e : Nat) (off : Nat) (w : Nat) (d : Die) : (engPageW fu e off w d).pins = d.pins := by simp [engPageW]

@[simp] theorem Die.electionTick_pins (d : Die) : (Die.electionTick d).pins = d.pins := by simp [Die.electionTick]

@[simp] theorem Die.nsTick_pins (d : Die) : (Die.nsTick d).pins = d.pins := by simp [Die.nsTick]

@[simp] theorem Die.nextPair_pins (fu : Fused) (x : UpdCtx) (l : List CapRec) (d : Die) : (Die.nextPair fu x l d).pins = d.pins := by
  induction l generalizing d with
  | nil => simp [Die.nextPair]
  | cons c rest ih =>
    unfold Die.nextPair
    extract_lets d₁ rd d₂ d₃
    have h₂ : d₂.pins = d.pins := by simp [d₂, rd, d₁]
    exact Die.pins_of_ite ((ih _).trans (by simp [h₂])) (Die.pins_of_ite ((ih _).trans (by simp [d₃, h₂])) (by simp [d₃, h₂]))

@[simp] theorem Die.updateBegin_pins (fu : Fused) (x : UpdCtx) (d : Die) : (Die.updateBegin fu x d).pins = d.pins := by
  unfold Die.updateBegin
  dsimp only
  split
  · exact Die.pins_of_ite rfl (by simp)
  · rfl

@[simp] theorem Die.laneNext_pins (fu : Fused) (x : UpdCtx) (tile phase : Nat) (d : Die) : (Die.laneNext fu x tile phase d).pins = d.pins := by
  unfold Die.laneNext
  extract_lets d₁ at_
  have h₁ : d₁.pins = d.pins := Die.pins_of_ite rfl rfl
  split
  · refine Die.pins_of_ite ?_ h₁
    split <;> simp [h₁]
  · exact Die.pins_of_ite (by simp [h₁]) h₁
  · split
    · exact h₁
    · have hd := (Die.deliverBlock_pins fu x tile (d₁.onTile tile (fun z => { z with lanePos := 0, block := z.block + 1 }))).trans h₁
      exact Die.pins_of_ite (Die.pins_of_ite ((Die.optimiseEnd_pins _ _).trans hd) hd) h₁
  · exact Die.pins_of_ite (by simp [h₁]) h₁

@[simp] theorem Die.adoptEpoch_pins (ep : Nat) (d : Die) : (Die.adoptEpoch ep d).pins = d.pins := by
  unfold Die.adoptEpoch
  refine Die.pins_of_ite ((foldl_keeps Die.pins _ (fun d e => ?_) _ _).trans (by simp)) rfl
  split
  · exact Die.pins_of_ite (by simp) rfl
  · rfl

@[simp] theorem Die.syncFrame_pins (l seq : Nat) (b : List Byte) (rx : Nat) (d : Die) : (Die.syncFrame l seq b rx d).pins = d.pins := by
  simp [Die.syncFrame]

@[simp] theorem Die.replayClose_pins (p : Nat) (d : Die) : (Die.replayClose p d).pins = d.pins := by
  unfold Die.replayClose
  refine Die.pins_of_ite ?_ rfl
  split
  · exact Die.pins_of_ite (by simp) rfl
  · rfl

@[simp] theorem fabReplayW_pins (p w : Nat) (d : Die) : (fabReplayW p w d).pins = d.pins := by simp [fabReplayW]

@[simp] theorem fabPageW_pins (p off w : Nat) (d : Die) : (fabPageW p off w d).pins = d.pins := by simp [fabPageW]

@[simp] theorem Die.musterReload_pins (fu : Fused) (e lost : Nat) (d : Die) : (Die.musterReload fu e lost d).pins = d.pins := by
  unfold Die.musterReload
  extract_lets was held ps d₁ d₂
  have h₁ : d₁.pins = d.pins := by
    refine foldl_keeps Die.pins _ (fun d q => ?_) _ _
    split
    · simp
    · rfl
  exact Die.pins_of_ite (by simp [d₂, h₁]) (by simp [d₂, h₁])

@[simp] theorem Die.musterDone_pins (fu : Fused) (e : Nat) (fail : Option MusterFail) (lost : Nat) (d : Die) :
    (Die.musterDone fu e fail lost d).pins = d.pins := by
  unfold Die.musterDone
  refine Die.pins_of_ite ?_ rfl
  cases fail <;> simp

end Sys2Proof.Machine
end

section
/-! SUPPORT. What most commands leave alone beside the compute die: the fuses, the queue, the kill state machine and the Cellar's settings with
their seal (R1, R397, R637). -/

namespace Sys2Proof.Machine

/-- What the order of the Cellar speaks of (R397, R400): the settings in force, the seal, its record and the seal-break count. -/
def Cellar.orderView (c : Cellar) : Settings × Bool × List Byte × Nat := (c.settings, c.sealed, c.sealRecord, c.breaks)

/-- What most commands leave alone: the fuses, the queue, the kill state machine, the trigger pins, and the Cellar's settings with their seal. -/
def State.core (s : State) : Fused × List Instr × Kill × KMap TrigPin × (Settings × Bool × List Byte × Nat) :=
  (s.fused, s.pending, s.kill, s.die.pins, s.cel.orderView)

@[simp] theorem State.core_mk (fu : Fused) (d : Die) (c : Cellar) (k : Kill) (p : List Instr) :
    State.core ⟨fu, d, c, k, p⟩ = (fu, p, k, d.pins, c.orderView) := rfl

@[simp] theorem State.core_eta (s : State) : (s.fused, s.pending, s.kill, s.die.pins, s.cel.orderView) = s.core := rfl

@[simp] theorem State.core_ite {p : Prop} [Decidable p] (s t : State) : (if p then s else t).core = if p then s.core else t.core := by split <;> rfl

@[simp] theorem Cellar.orderView_mk (regs : KMap Nat) (st : Settings) (sealed : Bool) (breaks ups : Nat) (image : List Byte) (up : Bool) (tb0 : Nat)
    (adj freq : Int) (o : Option Int) (offFc tc : Nat) (pps : Option Nat) (out : Bool) (defer : List (Option Int)) (steps : List Int) (edges : Nat)
    (bad : Bool) (caps : List (Nat × Bool × Nat)) (submit : KMap Nat) (lo res : Nat) (lq cq : List AuditRec) (sl : List AuditSlot) (hash : BitVec 256)
    (chain : Nat) : Cellar.orderView ⟨regs, st, sealed, breaks, ups, image, up, tb0, adj, freq, o, offFc, tc, pps, out, defer, steps, edges, bad, caps,
      submit, lo, res, lq, cq, sl, hash, chain⟩ = (st, sealed, image, breaks) := rfl

@[simp] theorem Cellar.orderView_eta (c : Cellar) : (c.settings, c.sealed, c.sealRecord, c.breaks) = c.orderView := rfl

@[simp] theorem Cellar.orderView_ite {p : Prop} [Decidable p] (c e : Cellar) :
    (if p then c else e).orderView = if p then c.orderView else e.orderView := by split <;> rfl

/-- A choice of two states keeps the core that both keep. -/
theorem State.core_of_ite {p : Prop} [Decidable p] {s t u : State} (hs : s.core = u.core) (ht : t.core = u.core) :
    (if p then s else t).core = u.core := by split <;> assumption

@[simp] theorem Cellar.put_orderView (f : Fld) (v : Nat) (c : Cellar) : (Cellar.put f v c).orderView = c.orderView := rfl

@[simp] theorem Cellar.release_orderView (n : Nat) (c : Cellar) : (Cellar.release n c).orderView = c.orderView := rfl

@[simp] theorem State.enqueue_core (e : LaunchEnt) (s : State) : (State.enqueue e s).core = s.core := by simp [State.enqueue]

@[simp] theorem State.laneFrame_core (l : Nat) (k : SteerKey) (bytes : List Byte) (src : Nat) (cap : Capture) (s : State) :
    (State.laneFrame l k bytes src cap s).core = s.core := by
  unfold State.laneFrame
  dsimp only
  repeat' split
  all_goals simp

@[simp] theorem State.rawFrame_core (l : Nat) (bytes : List Byte) (cap : Capture) (s : State) :
    (State.rawFrame l bytes cap s).core = s.core := by simp [State.rawFrame]

@[simp] theorem State.sFrame_core (l : Nat) (f : LinkFrame) (s : State) : (State.sFrame l f s).core = s.core := by simp [State.sFrame]

@[simp] theorem State.sFrameRx_core (l : Nat) (f : LinkFrame) (s : State) : (State.sFrameRx l f s).core = s.core := by simp [State.sFrameRx]

@[simp] theorem State.discardLaunches_core (sel : LaunchEnt → Bool) (t : Tal) (s : State) (ix : optParam (LaunchEnt → Nat) fun e => e.pasture) :
    (State.discardLaunches sel t s ix).core = s.core := by simp [State.discardLaunches]

@[simp] theorem State.cancelAgreed_core (s : State) : (State.cancelAgreed s).core = s.core := by simp [State.cancelAgreed]

@[simp] theorem flkControlW_core (w : Nat) (s : State) : (flkControlW w s).core = s.core := by
  unfold flkControlW
  split <;> simp

@[simp] theorem State.slotsRetired_core (p : Nat) (s : State) : (State.slotsRetired p s).core = s.core := by simp [State.slotsRetired]

@[simp] theorem State.dropPoisoned_core (k : Nat) (s : State) : (State.dropPoisoned k s).core = s.core := by
  unfold State.dropPoisoned
  split <;> simp

@[simp] theorem State.dropSched_core (key : Nat) (e : LaunchEnt) (t : Tal) (i : Nat) (s : State) :
    (State.dropSched key e t i s).core = s.core := by simp [State.dropSched]

@[simp] theorem State.launchCommit_core (kind : Nat) (n : Nat) (s : State) : (State.launchCommit kind n s).core = s.core := by
  unfold State.launchCommit
  dsimp only
  split <;> simp

@[simp] theorem Cellar.launchRecord_orderView (x : LaunchInfo) (fc16 tb0 : Nat) (c : Cellar) :
    (Cellar.launchRecord x fc16 tb0 c).orderView = c.orderView := rfl

@[simp] theorem State.firstBit_core (kind : Nat) (n : Nat) (cap : Capture) (stile3 : Nat) (s : State) :
    (State.firstBit kind n cap stile3 s).core = s.core := by
  unfold State.firstBit
  dsimp only
  split <;> simp

@[simp] theorem State.portDown_core (p : Nat) (q : Nat) (s : State) : (State.portDown p q s).core = s.core := by
  unfold State.portDown
  dsimp only
  split <;> simp

@[simp] theorem State.syncPair_core (s : State) : (State.syncPair s).core = s.core := by simp [State.syncPair]

@[simp] theorem Cellar.record_orderView (type b1 : Nat) (mid tail : List Byte) (c : Cellar) :
    (Cellar.record type b1 mid tail c).orderView = c.orderView := rfl

@[simp] theorem Cellar.sourceRecord_orderView (c : Cellar) : (Cellar.sourceRecord c).orderView = c.orderView := rfl

@[simp] theorem Cellar.step_orderView (v : Int) (owner : Bool) (c : Cellar) : (Cellar.step v owner c).orderView = c.orderView := rfl

@[simp] theorem State.jumpRefused_core (s : State) : (State.jumpRefused s).core = s.core := by simp [State.jumpRefused]

@[simp] theorem celSubmitW_core (k : Nat) (w : Nat) (s : State) : (celSubmitW k w s).core = s.core := rfl

@[simp] theorem celStepLoW_core (w : Nat) (s : State) : (celStepLoW w s).core = s.core := rfl

@[simp] theorem State.ownerStep_core (v : Int) (s : State) : (State.ownerStep v s).core = s.core := by simp [State.ownerStep]

@[simp] theorem Cellar.checkpoint_orderView (c : Cellar) : (Cellar.checkpoint c).orderView = c.orderView := rfl

@[simp] theorem State.keepReserved_core (s : State) : (State.keepReserved s).core = s.core := rfl

@[simp] theorem State.napEntry_core (s : State) : (State.napEntry s).core = s.core := by simp [State.napEntry]

@[simp] theorem State.triginPulse_core (i : Nat) (first : Nat) (width : Nat) (cap : Capture) (s : State) :
    (State.triginPulse i first width cap s).core = s.core := by simp [State.triginPulse]

@[simp] theorem State.windowWord_core (s : State) (kind : Nat) (loc : Nat) (tile : Option Nat) (stored : Nat) :
    (State.windowWord s kind loc tile stored).2.core = s.core := by
  unfold State.windowWord
  dsimp only
  repeat' split
  all_goals simp

@[simp] theorem State.itemRead_core (s : State) (src : Source) (b : Block) (i : Nat) (first : Nat) (n : Nat) :
    (State.itemRead s src b i first n).2.core = s.core := by
  unfold State.itemRead
  dsimp only
  repeat' split
  all_goals simp

@[simp] theorem State.tallyWord_core (s : State) (src : Source) (b : Block) (i : Nat) (lo : Nat) (off : Nat) :
    (State.tallyWord s src b i lo off).2.core = s.core := by
  unfold State.tallyWord
  split <;> simp

@[simp] theorem State.scaleWord_core (s : State) (p : Nat) : (State.scaleWord s p).2.core = s.core := by
  unfold State.scaleWord
  dsimp only
  repeat' split
  all_goals simp

@[simp] theorem WField.writeCel_orderView (x : WField) (w : Nat) (c : Cellar) : (WField.writeCel x w c).orderView = c.orderView := by
  unfold WField.writeCel
  split <;> simp

@[simp] theorem State.withFetchWord_core (s : State) (nbits : Nat) (w : Nat) : (State.withFetchWord s nbits w).core = s.core := rfl

@[simp] theorem State.reserve_core (p : Nat) (s : State) : (s.reserve p).core = s.core := by
  unfold State.reserve; split <;> rfl

@[simp] theorem State.actLaunch_core (c : ActCtx) (t : Template) (x : LaunchDesc) (ps : List (Nat × List Byte)) (pl : List Byte) (a : Option Nat)
    (s : State) : (s.actLaunch c t x ps pl a).core = s.core := by
  simp [State.actLaunch]

@[simp] theorem Cellar.keepPtp_orderView (t tag : Nat) (sent : Bool) (tb : Nat) (c : Cellar) : (c.keepPtp t tag sent tb).orderView = c.orderView := by
  unfold Cellar.keepPtp; split <;> rfl

@[simp] theorem State.ptpReceive_core (t : Nat) (bs : List Byte) (cap : Capture) (s : State) :
    (s.ptpReceive t bs cap).core = s.core := by
  unfold State.ptpReceive
  dsimp only
  repeat' split
  all_goals simp

@[simp] theorem State.ethFrame_core (t : Nat) (bs : List Byte) (f : RxFaults) (cap : Capture) (s : State) :
    (s.ethFrame t bs f cap).core = s.core := by
  unfold State.ethFrame
  dsimp only
  repeat' split
  all_goals simp

@[simp] theorem State.agreedLaunch_core (m : List Byte) (s : State) : (s.agreedLaunch m).core = s.core := by
  unfold State.agreedLaunch
  dsimp only
  split
  · simp
  · split
    · simp
    · split
      · exact State.core_of_ite (by simp) (State.actLaunch_core _ _ _ _ _ _ _)
      · simp

@[simp] theorem State.frameStart_core (kind n b : Nat) (s : State) : (s.frameStart kind n b).core = s.core := by
  have hdrop := foldl_keeps (fun s : State => s.core) _ (fun s k => s.dropPoisoned_core k) (List.range 512) s
  unfold State.frameStart
  refine State.core_of_ite ?_ (by simp)
  generalize (List.range 512).foldl (fun s k => s.dropPoisoned k) s = u at hdrop
  dsimp only
  split <;> simp [hdrop]

@[simp] theorem State.ptpSend_core (t : Nat) (cap : Capture) (s : State) : (s.ptpSend t cap).core = s.core := by
  unfold State.ptpSend
  dsimp only
  repeat' split
  all_goals simp

@[simp] theorem State.changeHold_core (x : Option Int) (s : State) : (s.changeHold x).core = s.core := by
  cases x <;> simp [State.changeHold]

@[simp] theorem State.orDefer_core (x : Option Int) (s : State) : (s.orDefer x).core = s.core := by
  unfold State.orDefer
  dsimp only
  repeat' split
  all_goals simp

@[simp] theorem State.enterHold_core (s : State) : s.enterHold.core = s.core := by
  unfold State.enterHold
  exact State.core_of_ite (by simp) (s.orDefer_core none)

@[simp] theorem State.takeRate_core (a : Int) (s : State) : (s.takeRate a).core = s.core := by
  unfold State.takeRate
  dsimp only
  repeat' split
  all_goals simp

@[simp] theorem State.correct_core (o : Int) (fc : Nat) (r : Int) (s : State) : (s.correct o fc r).core = s.core := by
  unfold State.correct
  dsimp only
  repeat' split
  all_goals simp

@[simp] theorem State.calEdge_core (b : Bool) (s : State) : (s.calEdge b).core = s.core := by
  unfold State.calEdge
  dsimp only
  repeat' split
  all_goals simp

@[simp] theorem State.ppsEdge_core (cap : Capture) (r : Int) (s : State) : (s.ppsEdge cap r).core = s.core := by
  unfold State.ppsEdge
  refine State.core_of_ite (State.core_of_ite ?_ ?_) (by simp)
  · exact (State.correct_core _ _ _ _).trans (State.calEdge_core _ _)
  · exact State.calEdge_core _ _

/-- A correction by a rounded offset, whatever the offset. -/
theorem State.correctRounded_core (n : Int) (s : State) :
    (State.correct (s.die.roundTo n 2 true).1 s.die.fc 0 { s with die := (s.die.roundTo n 2 true).2 }).core = s.core := by
  rw [State.correct_core, State.core_mk, Die.roundTo_pins, State.core_eta]

@[simp] theorem State.submitPtp_core (s : State) : s.submitPtp.core = s.core := by
  unfold State.submitPtp
  extract_lets bs so find
  clear_value bs
  split
  · split
    · exact State.correctRounded_core _ s
    · simp only [State.core_mk, Die.count_pins, State.core_eta]
  · split
    · rw [State.correct_core]
    · rfl

@[simp] theorem celStepHiW_core (w : Nat) (s : State) : (celStepHiW w s).core = s.core := by
  unfold celStepHiW
  dsimp only
  repeat' split
  all_goals simp

@[simp] theorem State.ownerSteps_core (s : State) : s.ownerSteps.core = s.core :=
  foldl_keeps (fun s : State => s.core) _ (fun s v => s.ownerStep_core v) _ _

@[simp] theorem State.flushAudit_core (n : Nat) (s : State) : (s.flushAudit n).core = s.core := by
  induction n generalizing s with
  | zero => rfl
  | succ n ih =>
    unfold State.flushAudit
    dsimp only
    split
    · simp
    · exact State.core_of_ite (ih _) (by simp)

@[simp] theorem State.takeDeferred_core (xs : List (Option Int)) (s : State) : (s.takeDeferred xs).core = s.core := by
  induction xs generalizing s with
  | nil => rfl
  | cons x xs ih => exact State.core_of_ite (by simp) ((ih _).trans (State.changeHold_core x _))

@[simp] theorem State.drainAudit_core (s : State) : s.drainAudit.core = s.core :=
  (State.takeDeferred_core _ _).trans (State.flushAudit_core _ s)

@[simp] theorem Cellar.hashRecord_orderView (r : AuditRec) (n : Nat) (c : Cellar) : (c.hashRecord r n).orderView = c.orderView := by
  unfold Cellar.hashRecord; dsimp only; split <;> rfl

@[simp] theorem State.auditHash_core (s : State) : s.auditHash.core = s.core := by
  unfold State.auditHash
  dsimp only
  repeat' split
  all_goals simp

@[simp] theorem Cellar.calStart_orderView (c : Cellar) : c.calStart.orderView = c.orderView := by
  unfold Cellar.calStart; split_ifs <;> rfl

@[simp] theorem State.withdrawAll_core (s : State) : s.withdrawAll.core = s.core := by
  unfold State.withdrawAll
  exact foldl_keeps (fun s : State => s.core) _ (fun s p => by simp) _ _

@[simp] theorem State.itemWord_core (s : State) (src : Source) (b : Block) (i first n off : Nat) :
    (s.itemWord src b i first n off).2.core = s.core := by
  unfold State.itemWord
  dsimp only
  split
  · exact s.itemRead_core _ _ _ _ _
  · simp

@[simp] theorem State.pageWord_core (s : State) (src : Source) (b : Block) (i off : Nat) : (s.pageWord src b i off).2.core = s.core := by
  unfold State.pageWord
  iterate 6 (split; · simp)
  split
  · split
    · simp
    · exact s.tallyWord_core _ _ _ _ _
  · split
    · exact s.scaleWord_core _
    · split
      · exact s.itemWord_core _ _ _ _ _ _
      · simp

@[simp] theorem State.busRead_core (src : Source) (a : Nat) (s : State) : (s.busRead src a).2.core = s.core := by
  unfold State.busRead
  dsimp only
  repeat' split
  all_goals simp [onDie]

@[simp] theorem State.readAt_core (src : Source) (a : Nat) (s : State) : (s.readAt src a).core = s.core := by
  unfold State.readAt
  split
  · exact s.busRead_core src a
  · simp

@[simp] theorem Cellar.setFields_orderView (off w : Nat) (c : Cellar) : (c.setFields off w).orderView = c.orderView :=
  foldl_keeps Cellar.orderView _ (fun c x => x.writeCel_orderView w c) _ c

@[simp] theorem celAuditW_core (off w : Nat) (s : State) : (celAuditW off w s).core = s.core := by
  have hctl := foldl_keeps Cellar.orderView
    (fun c x => if s.cel.get R.CEL_AUDIT_HEAD_VALUE != s.cel.get R.CEL_AUDIT_TAIL_VALUE && x.fld == R.CEL_AUDIT_CTL_LOG2SIZE then c else x.writeCel w c)
    (fun c x => by simp) (fieldsAt .CEL off) s.cel
  unfold celAuditW
  refine State.core_of_ite (State.core_of_ite (State.drainAudit_core _) rfl) (State.core_of_ite ?_ (State.core_of_ite rfl (by simp)))
  rw [State.core_mk, hctl]
  rfl

@[simp] theorem flkPageW_core (off w : Nat) (s : State) : (flkPageW off w s).core = s.core := by
  unfold flkPageW onDie
  repeat' split
  all_goals simp

@[simp] theorem State.readWords_core (a n : Nat) (s : State) : (s.readWords a n).2.core = s.core := by
  induction n generalizing a s with
  | zero => rfl
  | succ n ih => exact (ih _ _).trans (s.busRead_core _ _)

@[simp] theorem Cellar.nsTick_orderView (c : Cellar) : c.nsTick.orderView = c.orderView := by
  unfold Cellar.nsTick; split <;> rfl

end Sys2Proof.Machine
end

section
/-! SUPPORT. What every step keeps: the order of the kill machine (R637, R638, R644), the pins low while its gate blocks (R643), and the order of
the Cellar (R380, R397, R400, R408); and that every well-formed command completes. -/

namespace Sys2Proof.Machine

/-- No TRIG_OUT pin is high. -/
def pinsQuiet (m : KMap TrigPin) : Prop := ∀ pin, (KMap.get {} m pin).high = false

/-- What every step keeps: the fuses, the queue behind the command, the order of the kill state machine, the pins low while its gate blocks, and the
Cellar's order with its seal-break count. -/
structure State.lawful (s t : State) : Prop where
  fused : t.fused = s.fused
  pending : t.pending = s.pending
  kill : s.kill.inOrder → t.kill.inOrder
  calm : s.kill.inOrder → (s.kill.blocked = true → pinsQuiet s.die.pins) → t.kill.blocked = true → pinsQuiet t.die.pins
  cel : s.cel.inOrder → t.cel.inOrder ∧ s.cel.breaks ≤ t.cel.breaks

theorem State.lawful.trans {s u t : State} (hu : s.lawful u) (ht : u.lawful t) : s.lawful t where
  fused := ht.fused.trans hu.fused
  pending := ht.pending.trans hu.pending
  kill := fun h => ht.kill (hu.kill h)
  calm := fun h hq => ht.calm (hu.kill h) (hu.calm h hq)
  cel := fun h => ⟨(ht.cel (hu.cel h).1).1, (hu.cel h).2.trans (ht.cel (hu.cel h).1).2⟩

/-- The parts of an equal view of the Cellar's order. -/
theorem Cellar.orderView_eq {c e : Cellar} (h : c.orderView = e.orderView) :
    c.settings = e.settings ∧ c.sealed = e.sealed ∧ c.sealRecord = e.sealRecord ∧ c.breaks = e.breaks := by
  simpa only [Cellar.orderView, Prod.mk.injEq] using h

/-- The order of the Cellar is a matter of its view. -/
theorem Cellar.inOrder_of_view {c e : Cellar} (h : e.orderView = c.orderView) (hc : c.inOrder) : e.inOrder ∧ c.breaks ≤ e.breaks := by
  obtain ⟨hset, hsealed, hrec, hbreaks⟩ := Cellar.orderView_eq h
  unfold Cellar.inOrder at hc ⊢
  rw [hset, hsealed, hrec, hbreaks]
  exact ⟨hc, le_rfl⟩

/-- The parts of an equal core. -/
theorem State.core_eq {s t : State} (h : t.core = s.core) :
    t.fused = s.fused ∧ t.pending = s.pending ∧ t.kill = s.kill ∧ t.die.pins = s.die.pins ∧ t.cel.orderView = s.cel.orderView := by
  simpa only [State.core, Prod.mk.injEq] using h

/-- What leaves the core alone is lawful. -/
theorem State.lawful_of_core {s t : State} (h : t.core = s.core) : s.lawful t := by
  obtain ⟨hf, hp, hk, hpins, hc⟩ := State.core_eq h
  exact ⟨hf, hp, fun hin => hk ▸ hin, fun _ hq hb => hpins ▸ hq (hk ▸ hb), fun hin => Cellar.inOrder_of_view hc hin⟩

theorem State.lawful.refl (s : State) : s.lawful s := State.lawful_of_core rfl

theorem State.lawful_of_ite {p : Prop} [Decidable p] {s t u : State} (ht : s.lawful t) (hu : s.lawful u) : s.lawful (if p then t else u) := by
  split <;> assumption

/-- A fold of lawful steps is lawful. -/
theorem State.lawful_foldl {α : Type} (f : State → α → State) (hf : ∀ (s : State) a, s.lawful (f s a)) (xs : List α) (s : State) :
    s.lawful (xs.foldl f s) := by
  induction xs generalizing s with
  | nil => exact .refl s
  | cons x xs ih => exact (hf s x).trans (ih _)

/-- A new compute die that keeps pins low is lawful. -/
theorem State.lawful_of_die {s : State} {d : Die} (h : pinsQuiet s.die.pins → pinsQuiet d.pins) : s.lawful { s with die := d } :=
  ⟨rfl, rfl, id, fun _ hq hb => h (hq hb), fun hin => ⟨hin, le_rfl⟩⟩

/-- While the gate is open the pins may go high. -/
theorem State.lawful_of_open {s : State} {d : Die} (h : s.kill.blocked = false) : s.lawful { s with die := d } :=
  ⟨rfl, rfl, id, fun _ _ (hb : s.kill.blocked = true) => absurd (h.symm.trans hb) (by decide), fun hin => ⟨hin, le_rfl⟩⟩

/-! Pins that go low. -/

/-- A pin without an entry is low, and a pin with one is as its entry says. -/
theorem pinsQuiet_of_entries {m : KMap TrigPin} (h : ∀ x ∈ m, x.2.high = false) : pinsQuiet m := by
  intro pin
  induction m with
  | nil => rfl
  | cons x m ih =>
    obtain ⟨k, v⟩ := x
    rw [KMap.get]
    split
    · exact h _ List.mem_cons_self
    · exact ih fun y hy => h y (List.mem_cons_of_mem _ hy)

/-- A pin set low leaves low what was low. -/
theorem pinsQuiet_set {m : KMap TrigPin} {pin : Nat} {x : TrigPin} (hm : pinsQuiet m) (hx : x.high = false) : pinsQuiet (KMap.set {} m pin x) := by
  intro j
  rw [KMap.get_set]
  split
  · exact hx
  · exact hm j

/-- Trace of the outside alone. -/
theorem Die.foldl_emit_pins {α : Type} (f : α → Emit) (xs : List α) (d : Die) : (xs.foldl (fun d x => d.emit (f x)) d).pins = d.pins :=
  foldl_keeps Die.pins _ (fun d x => d.emit_pins (f x)) xs d

theorem Die.pinsLow_quiet (d : Die) : pinsQuiet d.pinsLow.pins := by
  unfold Die.pinsLow
  rw [Die.foldl_emit_pins]
  refine pinsQuiet_of_entries fun x hx => ?_
  obtain ⟨y, -, rfl⟩ := List.mem_map.1 (List.mem_of_mem_filter hx)
  rfl

theorem Die.fresh_quiet (keep : Bool) (cause : Nat) (d : Die) : pinsQuiet (d.fresh keep cause).pins := by
  have h : (d.fresh keep cause).pins = d.pinsLow.pins := by
    unfold Die.fresh
    rw [Die.debugReset_pins, Die.put_pins]
  exact h ▸ d.pinsLow_quiet

/-- A fold of register writes leaves the pins. -/
@[simp] theorem Die.foldl_put_pins {α : Type} (f : α → Fld) (i v : α → Nat) (ys : List α) (d : Die) :
    (ys.foldl (fun d y => d.put (f y) (i y) (v y)) d).pins = d.pins :=
  foldl_keeps Die.pins _ (fun d _ => d.put_pins _ _ _) ys d

theorem Die.enterStandby_quiet (d : Die) : pinsQuiet d.enterStandby.pins := by
  unfold Die.enterStandby
  dsimp only
  simp only [Die.recheck_pins, Die.relockAll_pins, Die.put_pins, Die.flag_pins]
  rw [foldl_keeps Die.pins _ (fun d e => foldl_keeps Die.pins _ (fun d f => Die.put_pins _ _ _ _) _ d)]
  rw [Die.foldl_put_pins]
  dsimp only
  rw [Die.wipe_pins]
  exact Die.pinsLow_quiet _

theorem Die.defunct_quiet (d : Die) : pinsQuiet d.defunct.pins := by
  unfold Die.defunct
  simp only [Die.relockAll_pins, Die.put_pins, Die.aliveStop_pins]
  exact Die.pinsLow_quiet _

theorem Die.pulseEnd_quiet (pin : Nat) (d : Die) (h : pinsQuiet d.pins) : pinsQuiet (d.pulseEnd pin).pins := by
  unfold Die.pulseEnd
  dsimp only
  rw [if_neg (by simp [h pin])]
  exact h

theorem Die.faultLoss_quiet (d : Die) : pinsQuiet d.faultLoss.pins := by
  have hlow := Die.pinsLow_quiet (d.idleLinks.pcieDown).aliveStop
  unfold Die.faultLoss
  dsimp only
  generalize (d.idleLinks.pcieDown).aliveStop.pinsLow = u at hlow
  have hmark (xs : List Nat) : (xs.foldl (fun d p => (d.settle p).onLar p (fun y => { y with markers := [] })) u).pins = u.pins :=
    foldl_keeps Die.pins _ (fun d p => by simp) _ u
  simp only [Die.relockAll_pins, Die.cancelHandover_pins, Die.put_pins, Die.flag_pins, Die.count_pins]
  rw [foldl_keeps Die.pins]
  · simp only [Die.onFlk_pins, hmark]
    exact hlow
  · intro d e
    dsimp only
    split <;> simp

/-- An open gate blocks no launch: the kill gate is not blocked. -/
theorem State.kill_open_of_gate {s : State} {p : Nat} (h : s.gate p = 0) : s.kill.blocked = false := by
  unfold State.gate State.gateBlocks at h
  split at h
  · cases h
  · next hb => 
    simp only [Bool.or_eq_true, not_or, Bool.not_eq_true] at hb
    exact hb.1.1.1.1

/-- A new compute die of the same pins is lawful. -/
theorem State.lawful_of_pins {s : State} {d : Die} (h : d.pins = s.die.pins) : s.lawful { s with die := d } :=
  State.lawful_of_die fun hq => h ▸ hq

/-- A new compute die whose pins are all low is lawful. -/
theorem State.lawful_of_quiet {s : State} {d : Die} (h : pinsQuiet d.pins) : s.lawful { s with die := d } :=
  State.lawful_of_die fun _ => h

theorem State.actTrig_lawful (c : ActCtx) (pin width : Nat) (s : State) : s.lawful (s.actTrig c pin width) := by
  unfold State.actTrig
  dsimp only
  split
  · exact State.lawful_of_pins (Die.count_pins _ _ _)
  · split
    · next hg =>
      have hopen : (s.reserve c.pasture).kill.blocked = false := by
        rw [(State.core_eq (s.reserve_core c.pasture)).2.2.1]
        exact State.kill_open_of_gate hg
      exact (State.lawful_of_core (s.reserve_core _)).trans (State.lawful_of_open hopen)
    · exact State.lawful_of_pins (by simp)

theorem State.reflexAct_lawful (c : ActCtx) (rb : List Byte) (i : Nat) (x : Reflex) (s : State) : s.lawful (s.reflexAct c rb i x) := by
  unfold State.reflexAct
  dsimp only
  split
  · exact .refl s
  · split
    · exact State.lawful_of_pins (by simp)
    · have hstage : s.lawful { s with die := s.die.stage 2 80 c.pasture c.evid 0 8 } := State.lawful_of_pins (by simp)
      split
      · exact hstage.trans (State.actTrig_lawful _ _ _ _)
      · refine hstage.trans (State.lawful_of_core ?_)
        repeat' split
        all_goals simp

theorem State.reflexStage_lawful (g : Nat) (r : EvRec) (s : State) : s.lawful (s.reflexStage g r) := by
  unfold State.reflexStage
  extract_lets p rb s₁ k
  split
  · exact State.lawful_of_pins (by simp)
  · extract_lets groups s₂ u v s₃ s₄ q die
    have h₁ : s.lawful s₁ := State.lawful_of_ite (State.lawful_of_pins (by simp)) (.refl s)
    have h₂ : s₁.lawful s₂ := State.lawful_foldl _ (fun s x => s.reflexAct_lawful _ _ _ _) _ s₁
    have h₃ : s₂.lawful s₃ := State.lawful_of_pins (by simp)
    have h₄ : s₃.lawful s₄ := State.lawful_of_ite (State.lawful_of_pins (by simp)) (.refl s₃)
    clear_value s₁ s₂ s₃ s₄
    refine ((h₁.trans h₂).trans (h₃.trans h₄)).trans (State.lawful_of_core ?_)
    repeat' split
    all_goals simp [die]

theorem State.assemble_lawful (g stile3 : Nat) (s : State) : s.lawful (s.assemble g stile3) := by
  unfold State.assemble
  extract_lets y tail x put p ek
  split
  · exact .refl s
  · next c rest _ =>
    extract_lets ev bad ue d r d₂ d₃
    have hd : d.pins = s.die.pins := by
      have hev : ev.2.pins = s.die.pins := by simp [ev]
      simp only [d, ue]
      split <;> simp [hev]
    have h₂ : d₂.pins = d.pins := by simp [d₂]
    clear_value d₂
    refine State.lawful_of_ite (.refl s) (State.lawful_of_ite (State.lawful_of_pins ?_) ?_)
    · rw [Die.putParser_pins, h₂, hd]
    · refine (State.lawful_of_pins ?_ : s.lawful { s with die := d₃ }).trans (State.reflexStage_lawful g r _)
      simp only [d₃, Die.putParser_pins, h₂, hd]

theorem State.releaseHeld_lawful (g : Nat) (rs : List EvRec) (s : State) : s.lawful (State.releaseHeld g rs s) := by
  induction rs generalizing s with
  | nil => exact .refl s
  | cons r rs ih => exact (s.reflexStage_lawful g r).trans (ih _)

theorem State.fcsResult_lawful (g : Nat) (ok : Bool) (s : State) : s.lawful (s.fcsResult g ok) := by
  unfold State.fcsResult
  extract_lets old d y x put d₁ d₂
  clear_value old
  have hd : d.pins = s.die.pins := by
    simp only [d]
    split <;> simp
  have h₂ : d₂.pins = d.pins := by
    simp only [d₂, d₁]
    split <;> simp
  clear_value d d₂
  refine State.lawful_of_ite (.refl s) (State.lawful_of_ite ?_ (State.lawful_of_pins (by simp [h₂, hd])))
  exact (State.lawful_of_pins (by simp [hd])).trans (State.releaseHeld_lawful _ _ _)

theorem State.decide_lawful (e : Nat) (v : Decision) (s : State) : s.lawful (s.decide_ e v) := by
  unfold State.decide_
  extract_lets p src c n desc payload s₁ acts host s₂ s₃ s₄
  have h₁ : s.lawful s₁ := State.lawful_of_pins (by simp)
  have hhost (s : State) : s.lawful (host s) := State.lawful_of_pins (by simp)
  have h₂ : s₁.lawful s₂ := State.lawful_of_ite (hhost _) (.refl _)
  have h₃ : s₁.lawful s₃ := State.lawful_of_ite (State.actTrig_lawful _ _ _ _) (.refl _)
  have h₄ : s₃.lawful s₄ := by
    refine State.lawful_of_ite (State.lawful_of_core ?_) (.refl _)
    repeat' split
    all_goals simp
  clear_value s₁ s₂ s₃ s₄
  refine h₁.trans (State.lawful_of_ite (h₂.trans (State.lawful_of_pins (by simp))) (State.lawful_of_ite ?_ ?_))
  · exact State.lawful_foldl _ (fun s _ => hhost s) _ _
  · exact (h₃.trans h₄).trans (State.lawful_of_ite (hhost _) (.refl _))

theorem State.decisionExit_lawful (e n : Nat) (s : State) : s.lawful (s.decisionExit e n) := by
  unfold State.decisionExit
  split
  · exact .refl s
  · next p _ =>
    extract_lets span n s₁
    have h₁ : s.lawful s₁ := State.lawful_of_ite (.refl s) (State.lawful_of_pins (by simp))
    clear_value s₁
    refine h₁.trans ?_
    split
    · refine State.lawful_of_ite (State.lawful_of_pins (by simp)) (State.lawful_of_pins ?_ |>.trans (State.decide_lawful _ _ _))
      simp
    · exact State.lawful_of_pins (by simp)
    · exact .refl _

theorem State.trigEdge_lawful (pin : Nat) (cap : Capture) (s : State) : s.lawful (s.trigEdge pin cap) := by
  unfold State.trigEdge
  dsimp only
  split
  · exact .refl s
  · next e rest _ =>
    refine State.lawful.trans (u := { s with die := { s.die with
      pins := KMap.set {} s.die.pins pin { KMap.get {} s.die.pins pin with edges := rest } } }) (State.lawful_of_die fun hq => pinsQuiet_set hq (hq pin)) ?_
    exact State.lawful_of_core (by split <;> simp)

/-- A new compute die, a kill machine in order and a Cellar of the same order are lawful where the pins are low or the gate and the pins stand. -/
theorem State.lawful_of_low {s : State} {d : Die} {c : Cellar} {k : Kill} (hk : k.inOrder) (hq : pinsQuiet d.pins)
    (hc : c.orderView = s.cel.orderView) : s.lawful { s with die := d, cel := c, kill := k } :=
  ⟨rfl, rfl, fun _ => hk, fun _ _ _ => hq, fun hin => Cellar.inOrder_of_view hc hin⟩

/-- A kill machine that keeps order and gate. -/
theorem State.lawful_of_kill {s : State} {k : Kill} (hk : s.kill.inOrder → k.inOrder) (hb : k.blocked = s.kill.blocked) :
    s.lawful { s with kill := k } :=
  ⟨rfl, rfl, hk, fun _ hq ht => hq (hb ▸ ht), fun hin => ⟨hin, le_rfl⟩⟩

/-- Whether the kill machine runs is no part of its order. -/
theorem State.lawful_running (s : State) : s.lawful { s with kill := { s.kill with running := true } } := State.lawful_of_kill id rfl

theorem Kill.inOrder_reset : Kill.inOrder {} := by unfold Kill.inOrder; decide

theorem State.startup_lawful (s : State) : s.lawful s.startup := by
  unfold State.startup
  have hdie : s.lawful { s with die := s.die.startup s.fused } := State.lawful_of_pins (by simp)
  split
  · exact hdie
  · exact hdie.trans (State.lawful_running _)

theorem State.resetDie_lawful (keep : Bool) (cause : Nat) (s : State) : s.lawful (s.resetDie keep cause) := by
  have hlow : s.lawful { s with die := s.die.fresh keep cause, kill := {} } :=
    State.lawful_of_low Kill.inOrder_reset (Die.fresh_quiet _ _ _) rfl
  exact hlow.trans (State.lawful_of_core (State.keepReserved_core _))

theorem pwrResetW_lawful (w : Nat) (s : State) : s.lawful (pwrResetW w s) := by
  unfold pwrResetW
  exact State.lawful_of_ite (s.resetDie_lawful _ _) (.refl s)

theorem State.railFault_lawful (s : State) : s.lawful s.railFault := (s.resetDie_lawful false 0).trans (State.lawful_of_pins rfl)

theorem State.standbyEntry_lawful (s : State) : s.lawful s.standbyEntry := by
  unfold State.standbyEntry
  have hdie : s.withdrawAll.lawful { s.withdrawAll with die := s.withdrawAll.die.enterStandby } := State.lawful_of_quiet (Die.enterStandby_quiet _)
  exact State.lawful_of_ite (((State.lawful_of_core s.withdrawAll_core).trans hdie).trans (State.lawful_of_core (State.keepReserved_core _))) (.refl s)

theorem State.faultReset_lawful (kind loc : Nat) (s : State) : s.lawful (s.faultReset kind loc) := by
  unfold State.faultReset
  dsimp only
  refine State.lawful.trans (State.lawful_of_quiet ?_) (State.lawful_of_core (State.keepReserved_core _))
  rw [foldl_keeps Die.pins]
  · exact Die.faultLoss_quiet _
  · intro d p
    split <;> simp

theorem State.restoreDone_lawful (s : State) : s.lawful s.restoreDone := by
  unfold State.restoreDone
  extract_lets d ctl d₂
  have hd : d.pins = s.die.pins := 
    foldl_keeps Die.pins (fun d p => d.restorePas s.fused p) (fun d p => Die.restorePas_pins s.fused p d) pastures s.die
  clear_value d
  have h₂ : d₂.pins = d.pins := rfl
  clear_value d₂
  have hdie : s.lawful { s with die := d₂.awake.raiseLinks } := State.lawful_of_pins (by rw [Die.raiseLinks_pins, Die.awake_pins, h₂, hd])
  generalize d₂.awake.raiseLinks = e at hdie
  exact State.lawful_of_ite (hdie.trans (State.lawful_running _)) (.refl s)

theorem State.vcelLoss_lawful (s : State) : s.lawful s.vcelLoss := by
  have hdown : s.lawful { s with cel := { s.cel with up := false } } := State.lawful_of_core (by simp)
  exact hdown.trans (State.lawful_of_ite (State.faultReset_lawful 19 0 _) (.refl _))

theorem State.enterLifecycle_lawful (t : Nat) (s : State) : s.lawful (s.enterLifecycle t) := by
  unfold State.enterLifecycle
  extract_lets otp d u v
  have hu : s.lawful u := State.lawful_of_pins rfl
  have hv : s.lawful v := hu.trans (State.lawful_of_core u.withdrawAll_core)
  refine State.lawful_of_ite (hv.trans (State.lawful_of_pins (by simp))) (State.lawful_of_ite (hv.trans (State.lawful_of_quiet ?_)) (hu.trans (State.lawful_of_pins (by simp))))
  rw [Die.recheck_pins]
  exact Die.defunct_quiet _

theorem State.lifecycleGo_lawful (hostFail : Bool) (s : State) : s.lawful (s.lifecycleGo hostFail) := by
  unfold State.lifecycleGo
  extract_lets t r u d
  have hu : s.lawful u := State.lawful_of_ite (s.enterLifecycle_lawful t) (.refl s)
  have hd : d.pins = u.die.pins := by simp only [d]; split <;> simp
  exact hu.trans (State.lawful_of_pins (by simp [hd]))

theorem ownLifecycleW_lawful (hostFail : Bool) (w : Nat) (s : State) : s.lawful (ownLifecycleW hostFail w s) := by
  have hset : s.lawful { s with die := s.die.setFields .OWN 0 0x020 w } := State.lawful_of_pins (by simp)
  exact State.lawful_of_ite (hset.trans (State.lifecycleGo_lawful _ _)) hset

theorem State.scrubRead_lawful (kind loc err : Nat) (last : Bool) (s : State) : s.lawful (s.scrubRead kind loc err last) := by
  unfold State.scrubRead
  extract_lets k u e control ue
  have hu : s.lawful u := State.lawful_of_ite (State.lawful_of_pins (by simp)) (.refl s)
  clear_value u
  refine State.lawful_of_ite (.refl s) (State.lawful_of_ite ?_ (State.lawful_of_ite hu (State.lawful_of_ite ?_ (State.lawful_of_ite ?_
    (State.lawful_of_ite ?_ ?_)))))
  · exact hu.trans (State.lawful_of_pins (by simp))
  · exact hu.trans (State.lawful_of_pins (by simp))
  · exact hu.trans (State.lawful_of_pins (by simp))
  · exact (hu.trans (State.lawful_of_pins (by simp [ue]))).trans (State.faultReset_lawful _ _ _)
  · exact hu.trans (State.lawful_of_pins (by simp))

theorem State.tagFail_lawful (x : TagCheck) (s : State) : s.lawful (s.tagFail x) := by
  unfold State.tagFail
  extract_lets d₁ d₂ o d₃ ue poisoned d₄
  have h₁ : d₁.pins = s.die.pins := by simp [d₁]
  have h₂ : d₂.pins = s.die.pins := by simp [d₂, h₁]
  have h₃ : d₃.pins = s.die.pins := by simp only [d₃]; split <;> simp [h₂]
  clear_value d₁ d₂ d₃
  refine State.lawful_of_ite ((State.lawful_of_pins (by simp [ue, h₃])).trans (State.faultReset_lawful _ _ _)) (State.lawful_of_pins ?_)
  have hload (xs : List Nat) (e : Nat) : (xs.foldl (fun d q => d.endLoad e q) d₃).pins = d₃.pins :=
    foldl_keeps Die.pins _ (fun d q => d.endLoad_pins _ _) _ _
  have h₄ : d₄.pins = s.die.pins := by
    simp only [d₄]
    split
    · split <;> simp [hload, h₃]
    · split <;> simp [poisoned, h₃]
  clear_value d₄
  split
  · split <;> simp [h₄]
  · exact h₄

/-! The kill machine. -/

theorem Kill.inOrder_step (a b : Bool) (k : Kill) (h : k.inOrder) : (k.step a b).1.inOrder := by
  obtain ⟨hlo, hhi, hnlo, hnhi, hclear, hopen⟩ := h
  unfold Kill.step
  cases hst : k.st with
  | idle =>
    have hreq : k.clearReq = false := by
      by_contra hc
      exact absurd ((hclear (by simpa using hc)).symm.trans hst) (by decide)
    unfold Kill.idleTick Kill.inOrder
    dsimp only
    split_ifs <;> simp_all
  | wait =>
    have hreq : k.clearReq = false := by
      by_contra hc
      exact absurd ((hclear (by simpa using hc)).symm.trans hst) (by decide)
    unfold Kill.waitTick Kill.inOrder
    dsimp only
    split_ifs <;> simp_all
  | normal =>
    have hreq : k.clearReq = false := by
      by_contra hc
      exact absurd ((hclear (by simpa using hc)).symm.trans hst) (by decide)
    unfold Kill.normalTick Kill.inOrder
    dsimp only
    split_ifs <;> simp_all
  | fault =>
    unfold Kill.faultTick Kill.inOrder
    dsimp only
    split_ifs <;> simp_all

theorem State.killTick_lawful (a b : Bool) (s : State) : s.lawful (s.killTick a b) := by
  unfold State.killTick
  extract_lets r d₁ d₂
  refine State.lawful_of_ite ⟨rfl, rfl, fun h => Kill.inOrder_step a b s.kill h, fun _ _ (hb : r.1.blocked = true) => ?_, fun hin => ⟨hin, le_rfl⟩⟩ (.refl s)
  show pinsQuiet (if r.1.blocked then d₂.pinsLow else d₂).pins
  rw [if_pos hb]
  exact d₂.pinsLow_quiet

theorem Kill.inOrder_setT (locked : Bool) (w : Nat) (k : Kill) (h : k.inOrder) : (k.setT locked w).inOrder := by
  obtain ⟨hlo, hhi, hnlo, hnhi, hclear, hopen⟩ := h
  unfold Kill.setT
  dsimp only
  split
  · exact ⟨hlo, hhi, hnlo, hnhi, hclear, hopen⟩
  · next hw =>
    simp only [Bool.or_eq_true, decide_eq_true_eq, not_or, not_lt] at hw
    exact ⟨hlo, hhi, hw.1.2, hw.2, hclear, hopen⟩

theorem Kill.inOrder_clear (k : Kill) (h : k.inOrder) : k.clear.inOrder := by
  obtain ⟨hlo, hhi, hnlo, hnhi, hclear, hopen⟩ := h
  unfold Kill.clear
  split
  · next hf => exact ⟨hlo, hhi, hnlo, hnhi, fun _ => hf.1, hopen⟩
  · exact ⟨hlo, hhi, hnlo, hnhi, hclear, hopen⟩

theorem Kill.setT_blocked (locked : Bool) (w : Nat) (k : Kill) : (k.setT locked w).blocked = k.blocked := by
  unfold Kill.setT
  dsimp only
  split <;> rfl

theorem Kill.clear_blocked (k : Kill) : k.clear.blocked = k.blocked := by
  unfold Kill.clear
  split <;> rfl

theorem pwrKillW_lawful (w : Nat) (s : State) : s.lawful (pwrKillW w s) := by
  unfold pwrKillW
  extract_lets k
  have hdie : s.lawful { s with die := s.die.setFields .PWR 0 0x020 w } := State.lawful_of_pins (by simp)
  have hk : s.kill.inOrder → k.inOrder := Kill.inOrder_setT _ _ _
  have hb : k.blocked = s.kill.blocked := Kill.setT_blocked _ _ _
  refine hdie.trans (State.lawful_of_kill ?_ ?_)
  · intro h
    split
    · exact Kill.inOrder_clear _ (hk h)
    · exact hk h
  · split
    · exact (Kill.clear_blocked _).trans hb
    · exact hb

theorem chkPageW_lawful (off w : Nat) (s : State) : s.lawful (chkPageW off w s) := by
  unfold chkPageW onDie
  exact State.lawful_of_ite (State.lawful_of_ite (State.lawful_of_kill id rfl) (.refl s))
    (State.lawful_of_ite (State.lawful_of_pins (by simp)) (State.lawful_of_pins (by simp)))

/-! The Cellar. -/

/-- A new Cellar in order whose breaks do not fall. -/
theorem State.lawful_of_cel {s : State} {c : Cellar} (h : s.cel.inOrder → c.inOrder ∧ s.cel.breaks ≤ c.breaks) : s.lawful { s with cel := c } :=
  ⟨rfl, rfl, id, fun _ hq => hq, h⟩

/-- A new Cellar of the same view. -/
theorem State.lawful_of_celView {s : State} {c : Cellar} (h : c.orderView = s.cel.orderView) : s.lawful { s with cel := c } :=
  State.lawful_of_cel (Cellar.inOrder_of_view h)

theorem celDiscW_lawful (w : Nat) (s : State) : s.lawful (celDiscW w s) := by
  unfold celDiscW
  extract_lets c₀ mask c₁ port moved c₂ v c
  have h₁ : c₀.inOrder → c₁.inOrder ∧ c₀.breaks ≤ c₁.breaks := by
    intro hin
    obtain ⟨hs, hs', hj, hj', hm, hb, hseal⟩ := hin
    simp only [c₁]
    split
    · exact ⟨⟨hs, hs', hj, hj', hm, hb, hseal⟩, le_rfl⟩
    · next hopen => exact ⟨⟨hs, hs', hj, hj', Nat.mod_lt _ (by decide), hb, fun ht => absurd ht hopen⟩, le_rfl⟩
  have h₂ : c₂.orderView = c₁.orderView := by simp [c₂, moved]
  have hc : c.orderView = c₂.orderView := by simp [c]
  have hu : s.lawful { s with cel := c₁ } := State.lawful_of_cel h₁
  clear_value c₁ c₂ c
  refine hu.trans ?_
  refine State.lawful_of_ite (State.lawful_of_celView h₂) (State.lawful_of_ite (State.lawful_of_celView (by simp [h₂]))
    (State.lawful_of_ite (State.lawful_of_celView h₂) (State.lawful_of_ite (State.lawful_of_core ?_) (State.lawful_of_celView (by simp [hc, h₂])))))
  rw [State.changeHold_core, State.core_mk, hc, h₂]
  rfl

theorem celLimitsW_lawful (w : Nat) (s : State) : s.lawful (celLimitsW w s) := by
  unfold celLimitsW
  split
  · exact .refl s
  · next hopen =>
    refine State.lawful_of_cel fun hin => ?_
    obtain ⟨hs, hs', hj, hj', hm, hb, hseal⟩ := hin
    have hju : bits w 16 16 < 2 ^ 16 := Nat.mod_lt _ (by decide)
    refine ⟨⟨?_, ?_, ?_, ?_, hm, hb, fun ht => absurd ht hopen⟩, le_rfl⟩ <;> dsimp only <;> split <;> omega

/-- A message that is accepted as BREAK finds fewer than 31 breaks (R400). -/
theorem Cellar.sealCheck_breaks (fu : Fused) (c : Cellar) (m : List Byte) (hin : c.breaks ≤ 31) (hr : c.sealCheck fu m = 1)
    (hbreak : leNat (m.take 1) ≠ 1) : c.breaks + 1 ≤ 31 := by
  unfold Cellar.sealCheck at hr
  obtain ⟨-, hr⟩ := not_and_eq_of_ite_eq hr (by decide)
  obtain ⟨-, hr⟩ := not_and_eq_of_ite_eq hr (by decide)
  obtain ⟨-, hr⟩ := not_and_eq_of_ite_eq hr (by decide)
  obtain ⟨-, hr⟩ := not_and_eq_of_ite_eq hr (by decide)
  obtain ⟨-, hr⟩ := not_and_eq_of_ite_eq hr (by decide)
  obtain ⟨hfull, hr⟩ := not_and_eq_of_ite_eq hr (by decide)
  obtain ⟨-, hr⟩ := not_and_eq_of_ite_eq hr (by decide)
  have hcmd : leNat (m.take 1) = 1 ∨ leNat (m.take 1) = 2 := by
    by_contra hno
    rw [if_neg hno] at hr
    exact absurd hr (by decide)
  have h2 : leNat (m.take 1) = 2 := hcmd.resolve_left hbreak
  have hne : c.breaks ≠ 31 := fun h31 => hfull ⟨h2, h31⟩
  omega

theorem State.sealGo_lawful (s : State) : s.lawful s.sealGo := by
  unfold State.sealGo
  extract_lets c m r isSeal c₁ c₂
  have hstep : r = 1 → c.inOrder → c₁.inOrder ∧ c.breaks ≤ c₁.breaks := by
    intro hr hin
    obtain ⟨hs, hs', hj, hj', hm, hb, hseal⟩ := hin
    simp only [c₁]
    split
    · exact ⟨⟨hs, hs', hj, hj', hm, hb, fun _ => rfl⟩, le_rfl⟩
    · next hnot =>
      have hb' := Cellar.sealCheck_breaks s.fused c m hb hr (by simpa [isSeal] using hnot)
      exact ⟨⟨hs, hs', hj, hj', hm, hb', fun ht => absurd ht Bool.false_ne_true⟩, Nat.le_succ _⟩
  split
  · next hr =>
    have h₁ : s.lawful { s with cel := c₁ } := State.lawful_of_cel (hstep hr)
    clear_value c₁
    exact h₁.trans (State.lawful_of_celView (by simp [c₂]))
  · exact State.lawful_of_ite (State.lawful_of_core (by simp [c])) (State.lawful_of_celView (by simp [c]))

theorem celControlW_lawful (w : Nat) (s : State) : s.lawful (celControlW w s) := by
  unfold celControlW
  extract_lets c₁ c₂ u
  have h₁ : c₁.orderView = s.cel.orderView := by simp [c₁]
  have hu : s.lawful u := State.lawful_of_celView (by simp [c₂, h₁])
  clear_value u
  refine hu.trans ?_
  split
  · exact u.sealGo_lawful
  · exact State.lawful_of_core (by simp)
  · exact State.lawful_of_celView (by simp)
  · exact .refl u

theorem State.calDone_lawful (x : CalRun) (s : State) : s.lawful (s.calDone x) := by
  unfold State.calDone
  extract_lets r c v st
  have hc : c.orderView = s.cel.orderView := by simp [c]
  refine State.lawful_of_ite ?_ (.refl s)
  split
  · next hr =>
    have hopen : s.cel.sealed = false := by
      by_contra hs
      have h5 : r = 5 := if_pos (by simpa using hs)
      omega
    have hdie : v.2.pins = s.die.pins := by simp [v, State.calDelay]
    refine State.lawful.trans (u := { s with die := v.2 }) (State.lawful_of_pins hdie) (State.lawful_of_cel fun hin => ?_)
    obtain ⟨⟨hs, hs', hj, hj', hm, hb, -⟩, hle⟩ := Cellar.inOrder_of_view hc hin
    exact ⟨⟨hs, hs', hj, hj', hm, hb, fun ht => absurd (((Cellar.orderView_eq hc).2.1.symm.trans ht).symm.trans hopen) (by decide)⟩, hle⟩
  · exact State.lawful_of_celView hc

theorem Cellar.powerUp_inOrder (fu : Fused) (c : Cellar) (hin : c.inOrder) : (c.powerUp fu).inOrder ∧ c.breaks ≤ (c.powerUp fu).breaks := by
  obtain ⟨hs, hs', hj, hj', hm, hb, hseal⟩ := hin
  have hview : (c.powerUp fu).orderView = (if c.sealed then c.settings else {}, c.sealed, c.sealRecord, c.breaks) := by
    simp [Cellar.powerUp]
  obtain ⟨hset, hsealed, hrec, hbreaks⟩ : _ ∧ _ ∧ _ ∧ _ := by simpa only [Cellar.orderView, Prod.mk.injEq] using hview
  unfold Cellar.inOrder
  rw [hset, hsealed, hrec, hbreaks]
  refine ⟨?_, le_rfl⟩
  cases hc : c.sealed with
  | true => exact ⟨hs, hs', hj, hj', hm, hb, fun _ => hseal hc⟩
  | false =>
    rw [if_neg Bool.false_ne_true]
    exact ⟨by decide, by decide, by decide, by decide, by decide, hb, fun ht => absurd ht Bool.false_ne_true⟩

/-- A command on the compute die alone that leaves the pins. -/
theorem onDie_lawful {f : Die → Die} {s : State} (h : (f s.die).pins = s.die.pins) : s.lawful (onDie f s) := State.lawful_of_pins h

theorem celPageW_lawful (off w : Nat) (s : State) : s.lawful (celPageW off w s) := by
  unfold celPageW
  refine State.lawful_of_ite (celDiscW_lawful w s) (State.lawful_of_ite (celLimitsW_lawful w s) (State.lawful_of_ite (State.lawful_of_core ?_)
    (State.lawful_of_ite (State.lawful_of_core ?_) (State.lawful_of_ite (celControlW_lawful w s) (State.lawful_of_ite (State.lawful_of_core ?_)
      (State.lawful_of_ite (State.lawful_of_core ?_) (State.lawful_of_ite (State.lawful_of_core ?_) (State.lawful_of_core ?_))))))))
  all_goals simp

theorem pwrPageW_lawful (off w : Nat) (s : State) : s.lawful (pwrPageW off w s) := by
  unfold pwrPageW
  refine State.lawful_of_ite (onDie_lawful ?_) (State.lawful_of_ite (onDie_lawful ?_) (State.lawful_of_ite (pwrResetW_lawful w s)
    (State.lawful_of_ite (pwrKillW_lawful w s) (State.lawful_of_ite (onDie_lawful ?_) (onDie_lawful ?_)))))
  all_goals simp

theorem ownPageW_lawful (src : Source) (off w : Nat) (s : State) : s.lawful (ownPageW src off w s) := by
  unfold ownPageW
  refine State.lawful_of_ite (onDie_lawful ?_) (State.lawful_of_ite (onDie_lawful ?_) (State.lawful_of_ite (onDie_lawful ?_)
    (State.lawful_of_ite (onDie_lawful ?_) (State.lawful_of_ite (ownLifecycleW_lawful false w s) (State.lawful_of_ite (onDie_lawful ?_)
      (State.lawful_of_ite (onDie_lawful ?_) (onDie_lawful ?_)))))))
  all_goals simp

theorem pageW_lawful (src : Source) (b : Block) (i off w : Nat) (s : State) : s.lawful (pageW src b i off w s) := by
  unfold pageW
  split
  · exact onDie_lawful (by simp)
  · refine State.lawful_of_ite (onDie_lawful (by simp)) (State.lawful_of_ite (onDie_lawful (by simp)) ?_)
    cases b with
    | CEL => exact celPageW_lawful off w s
    | OWN => exact ownPageW_lawful src off w s
    | FLK => exact State.lawful_of_core (flkPageW_core off w s)
    | CHK => exact chkPageW_lawful off w s
    | PWR => exact pwrPageW_lawful off w s
    | OTP => exact State.lawful_of_ite (onDie_lawful (by simp)) (onDie_lawful (by simp))
    | LNK => exact State.lawful_of_ite (onDie_lawful (by simp)) (State.lawful_of_ite (onDie_lawful (by simp)) (onDie_lawful (by simp)))
    | UPD => exact State.lawful_of_ite (onDie_lawful (by simp)) (onDie_lawful (by simp))
    | _ => exact onDie_lawful (by simp)

/-- A refused write leaves the pins. -/
theorem writeAt_lawful (src : Source) (a : Nat) (act : State → State) (s : State) (h : s.lawful (act s)) : s.lawful (writeAt src a act s) := by
  rcases writeAt_cases src a act s with hw | hw <;> rw [hw]
  · exact h
  · exact State.lawful_of_pins (by simp)

theorem State.busWrite_lawful (src : Source) (addr w : Nat) (s : State) : s.lawful (s.busWrite src addr w) := by
  unfold State.busWrite
  dsimp only
  split
  · exact onDie_lawful (by simp)
  · split
    · exact writeAt_lawful _ _ _ s (pageW_lawful _ _ _ _ _ s)
    · exact writeAt_lawful _ _ _ s (.refl s)

theorem State.writeWords_lawful (ws : List Nat) (addr : Nat) (s : State) : s.lawful (s.writeWords addr ws) := by
  induction ws generalizing addr s with
  | nil => exact .refl s
  | cons w ws ih => exact (s.busWrite_lawful .m2 addr w).trans (ih _ _)

theorem State.smbWords_lawful (ws : List Nat) (s : State) : s.lawful (State.smbWords ws s) := by
  induction ws generalizing s with
  | nil => exact .refl s
  | cons w ws ih => exact ((s.busWrite_lawful .m1 _ w).trans (State.lawful_of_pins (by simp))).trans (ih _)

theorem State.smbWrite_lawful (bytes : List Byte) (pec : Bool) (s : State) : s.lawful (s.smbWrite bytes pec) := by
  unfold State.smbWrite
  dsimp only
  split
  · exact .refl s
  · split
    · exact State.lawful_of_pins (by simp)
    · exact State.smbWords_lawful _ s

theorem State.mreq_lawful (m : List Byte) (s : State) : s.lawful (s.mreq m) := by
  unfold State.mreq
  dsimp only
  split
  · exact State.lawful_of_pins (by simp)
  · split
    · exact (State.lawful_of_core (State.readWords_core _ _ s)).trans (State.lawful_of_pins (by simp))
    · exact (s.writeWords_lawful _ _).trans (State.lawful_of_pins (by simp))

theorem State.partialWrite_lawful (src : Source) (a be w : Nat) (s : State) : s.lawful (s.partialWrite src a be w) := by
  unfold State.partialWrite
  extract_lets pcie
  split
  · exact State.lawful_of_ite (State.lawful_of_pins (by simp)) (.refl s)
  · exact s.busWrite_lawful src a w

theorem State.regacc_lawful (dr : Nat) (s : State) : s.lawful (s.regacc dr) := by
  unfold State.regacc
  dsimp only
  split_ifs
  · exact (State.lawful_of_core (State.busRead_core _ _ s)).trans (onDie_lawful rfl)
  · exact s.busWrite_lawful _ _ _
  · exact .refl s
  · exact .refl s

/-! The shapes of a command. -/

theorem next_lawful {s t u : State} (h : Host.Outcome.next (φ := Fault) (ρ := Refusal) u = .next t) (hu : s.lawful u) : s.lawful t := by
  cases h
  exact hu

theorem guardU_lawful {ok : Bool} {s t u : State} (h : guardU ok u = .next t) (hu : s.lawful u) : s.lawful t := by
  obtain ⟨-, rfl⟩ := guardU_next _ _ _ h
  exact hu

/-- A command on the compute die alone. -/
theorem dieCmd_lawful {ok : Bool} {f : State → Die} {s t : State} (h : dieCmd ok f s = .next t) (hf : (f s).pins = s.die.pins) : s.lawful t := by
  obtain ⟨-, rfl⟩ := dieCmd_next _ _ _ _ h
  exact State.lawful_of_pins hf

theorem msgCmd_lawful {down : Bool} {cls type l : Nat} {f : List Byte → State → State} {s t : State}
    (h : msgCmd down cls type l f s = .next t) (hf : ∀ m (u : State), u.lawful (f m u)) : s.lawful t := by
  refine guardU_lawful h ?_
  split
  · exact .refl s
  · next m _ =>
    exact State.lawful_of_ite ((State.lawful_of_pins (Die.dropMsg_pins _ _ _)).trans (hf _ _)) (State.lawful_of_pins (by simp))

theorem pCmd_lawful {op g : Nat} {f : PInstr → Die → Die} {s t : State} (h : pCmd op g f s = .next t) (hf : ∀ i (d : Die), (f i d).pins = d.pins) :
    s.lawful t := by
  refine dieCmd_lawful h ?_
  split
  · split
    · rw [Die.pEnd_pins, hf]
    · rfl
  · rfl

theorem tileCmd_lawful {sel : Nat → Bool} {f : Fused → Fire → Die → Out × Die} {tile ctx op : Nat} {s t : State}
    (h : tileCmd sel f tile ctx op s = .next t) (hf : ∀ fu x (d : Die), (f fu x d).2.pins = d.pins) : s.lawful t := by
  refine dieCmd_lawful h ?_
  split
  · rfl
  · split
    · split
      · exact Die.count_pins _ _ _
      · exact (Die.finish_pins _ _ _).trans (hf _ _ _)
    · rfl

theorem laneCmd_lawful {sel : Nat → Bool} {g : Fused → UFire → Die → Bool × Die} {tile op : Nat} {s t : State}
    (h : laneCmd sel g tile op s = .next t) (hg : ∀ fu x (d : Die), (g fu x d).2.pins = d.pins) : s.lawful t := by
  refine dieCmd_lawful h ?_
  dsimp only
  split
  · rfl
  · split
    · rfl
    · split
      · split
        · rw [Die.updStop_pins, hg]
        · rw [Die.laneNext_pins, hg]
      · rfl

theorem rbCmd_lawful {p : Nat} {sel : Die → RbRec → Bool} {f : RbRec → Die → Die} {s t : State} (h : rbCmd p sel f s = .next t)
    (hf : ∀ r (d : Die), (f r d).pins = d.pins) : s.lawful t := by
  refine dieCmd_lawful h ?_
  split
  · split
    · exact hf _ _
    · rfl
  · rfl

theorem updCmd_lawful {e : Nat} {f : Fused → UpdCtx → Die → Die} {s t : State} (h : updCmd e f s = .next t)
    (hf : ∀ fu x (d : Die), (f fu x d).pins = d.pins) : s.lawful t := by
  refine dieCmd_lawful h ?_
  split
  · exact hf _ _ _
  · rfl

/-- A register write that acts on the compute die alone. -/
theorem writeDie_pins (src : Source) (a : Nat) (act : Die → Die) (s : State) (h : (act s.die).pins = s.die.pins) :
    (writeDie src a act s).pins = s.die.pins := by
  unfold writeDie
  rcases s.die.admitWrite_cases s.fused src a with hw | hw
  · have hpins := Die.admitWrite_pins s.fused src a s.die
    generalize s.die.admitWrite s.fused src a = r at hw hpins
    obtain ⟨ok, d⟩ := r
    dsimp only at hw hpins ⊢
    rw [hw]
    exact hpins
  · rw [hw]
    exact h

theorem writeDie_lawful {ok : Bool} {src : Source} {a : Nat} {act : Die → Die} {s t : State} (h : dieCmd ok (writeDie src a act) s = .next t)
    (hact : (act s.die).pins = s.die.pins) : s.lawful t :=
  dieCmd_lawful h (writeDie_pins src a act s hact)

theorem execRawPeriod_lawful (l v : Nat) (s t : State) (h : execRawPeriod l v s = .next t) : s.lawful t := by
  unfold execRawPeriod at h
  refine dieCmd_lawful h ?_
  dsimp only
  repeat' split
  all_goals simp

theorem execFeatureAssembly_lawful (p : Nat) (waits : List Nat) (s t : State) (h : execFeatureAssembly p waits s = .next t) : s.lawful t := by
  unfold execFeatureAssembly at h
  refine dieCmd_lawful h ?_
  dsimp only
  repeat' split
  all_goals simp

theorem execOqBeatSend_lawful (tile ctx oq : Nat) (s t : State) (h : execOqBeatSend tile ctx oq s = .next t) : s.lawful t := by
  unfold execOqBeatSend at h
  refine dieCmd_lawful h ?_
  repeat' split
  all_goals simp

theorem execStall_lawful (e : Nat) (x : StallAt) (s t : State) (h : execStall e x s = .next t) : s.lawful t := by
  unfold execStall at h
  refine dieCmd_lawful h ?_
  dsimp only
  repeat' split
  all_goals simp

theorem execQuiesceDone_lawful (e q : Nat) (s t : State) (h : execQuiesceDone e q s = .next t) : s.lawful t := by
  unfold execQuiesceDone at h
  refine dieCmd_lawful h ?_
  dsimp only
  repeat' split
  all_goals simp

theorem execStepCommit_lawful (e p : Nat) (s t : State) (h : execStepCommit e p s = .next t) : s.lawful t := by
  unfold execStepCommit at h
  refine dieCmd_lawful h ?_
  dsimp only
  repeat' split
  all_goals simp

theorem execCalObserveEnd_lawful (p : Nat) (s t : State) (h : execCalObserveEnd p s = .next t) : s.lawful t := by
  unfold execCalObserveEnd at h
  refine dieCmd_lawful h ?_
  dsimp only
  repeat' split
  all_goals simp

theorem execCalVerifyEnd_lawful (p : Nat) (s t : State) (h : execCalVerifyEnd p s = .next t) : s.lawful t := by
  unfold execCalVerifyEnd at h
  refine dieCmd_lawful h ?_
  dsimp only
  repeat' split
  all_goals simp

theorem execTs1_lawful (l : Nat) (w : LineWords) (s t : State) (h : execTs1 l w s = .next t) : s.lawful t := by
  unfold execTs1 at h
  refine dieCmd_lawful h ?_
  dsimp only
  repeat' split
  all_goals simp

theorem execTs2_lawful (l : Nat) (z : Ts2Line) (s t : State) (h : execTs2 l z s = .next t) : s.lawful t := by
  unfold execTs2 at h
  refine dieCmd_lawful h ?_
  dsimp only
  repeat' split
  all_goals simp

theorem execReduce_lawful (l : Nat) (x : SetInfo) (s t : State) (h : execReduce l x s = .next t) : s.lawful t := by
  unfold execReduce at h
  refine dieCmd_lawful h ?_
  dsimp only
  repeat' split
  all_goals simp

theorem execTotal_lawful (l : Nat) (s t : State) (h : execTotal l s = .next t) : s.lawful t := by
  unfold execTotal at h
  refine dieCmd_lawful h ?_
  dsimp only
  repeat' split
  all_goals simp

theorem execReduceWait_lawful (x : SetInfo) (s t : State) (h : execReduceWait x s = .next t) : s.lawful t := by
  unfold execReduceWait at h
  refine next_lawful h (onDie_lawful ?_)
  repeat' split
  all_goals simp

theorem execDigestWait_lawful (image silent : Nat) (s t : State) (h : execDigestWait image silent s = .next t) : s.lawful t := by
  unfold execDigestWait at h
  refine next_lawful h (onDie_lawful ?_)
  split <;> simp

theorem execSyncSend_lawful (caps : List (Nat × Capture)) (s t : State) (h : execSyncSend caps s = .next t) : s.lawful t := by
  unfold execSyncSend at h
  refine next_lawful h (onDie_lawful ?_)
  dsimp only
  split
  · exact foldl_keeps Die.pins _ (fun d l => by simp) _ _
  · rfl

theorem smbErr_lawful (s : State) : s.lawful (smbErr s) := onDie_lawful (Die.count_pins _ _ _)

theorem State.smbAddress_lawful (bytes : List Byte) (pec : Bool) (s : State) : s.lawful (s.smbAddress bytes pec) := by
  unfold State.smbAddress
  exact State.lawful_of_ite (.refl s) (State.lawful_of_ite (smbErr_lawful s) (onDie_lawful rfl))

theorem State.smbRead_lawful (bytes : List Byte) (pec : Bool) (s : State) : s.lawful (s.smbRead bytes pec) := by
  unfold State.smbRead
  exact State.lawful_of_ite (.refl s) (State.lawful_of_ite (smbErr_lawful s)
    ((State.lawful_of_core (State.busRead_core _ _ s)).trans (onDie_lawful (by simp))))

theorem execJoin_lawful (l : Nat) (s t : State) (h : execJoin l s = .next t) : s.lawful t := by
  unfold execJoin at h
  exact msgCmd_lawful h fun m u => State.lawful_of_pins (by simp)

theorem execWelcome_lawful (l : Nat) (s t : State) (h : execWelcome l s = .next t) : s.lawful t := by
  unfold execWelcome at h
  refine msgCmd_lawful h fun m u => State.lawful_of_ite (.refl u) (State.lawful_of_pins ?_)
  repeat' split
  all_goals simp

theorem execTakeover_lawful (l : Nat) (s t : State) (h : execTakeover l s = .next t) : s.lawful t := by
  unfold execTakeover at h
  exact msgCmd_lawful h fun m u => State.lawful_of_ite (State.lawful_of_pins (by simp)) (State.lawful_of_pins (by simp))

theorem execLaunchAt_lawful (l : Nat) (s t : State) (h : execLaunchAt l s = .next t) : s.lawful t := by
  unfold execLaunchAt at h
  refine msgCmd_lawful h fun m u => State.lawful.trans (u := { u with die := u.die.forward 1 m }) (State.lawful_of_pins (by simp)) ?_
  exact State.lawful_of_ite (State.lawful_of_core (by simp)) (.refl _)

theorem execCommit_lawful (l : Nat) (s t : State) (h : execCommit l s = .next t) : s.lawful t := by
  unfold execCommit at h
  refine msgCmd_lawful h fun m u => State.lawful_of_pins ?_
  split <;> simp

theorem execFlockDigest_lawful (l : Nat) (s t : State) (h : execFlockDigest l s = .next t) : s.lawful t := by
  unfold execFlockDigest at h
  refine msgCmd_lawful h fun m u => State.lawful_of_ite (.refl u) (State.lawful_of_pins ?_)
  split <;> simp

theorem execVerdict_lawful (l : Nat) (s t : State) (h : execVerdict l s = .next t) : s.lawful t := by
  unfold execVerdict at h
  refine msgCmd_lawful h fun m u => State.lawful_of_pins ?_
  split <;> simp

/-- Every command that completes is lawful. -/
theorem exec_lawful (c : Instr) (s t : State) (h : exec c s = .next t) : s.lawful t := by
  cases c with
  | tallyClear | registerWrite | unlock | relock | ringEnable =>
    exact next_lawful h (s.busWrite_lawful _ _ _)
  | pNop | pExt | pKeyc | pKeyh | pEvid | pMatch | pBrc | pBrn | pCur | pCuri | pTbsel | pEmitr | pAccept | pDrop =>
    unfold exec at h
    delta execPNop execPExt execPKeyc execPKeyh execPEvid execPMatch execPBrc execPBrn execPCur execPCuri execPTbsel execPEmitr execPAccept
      execPDrop at h
    exact pCmd_lawful h (by simp)
  | tNop | tDot | tDota | tDwc | tExpand | tScaleg | tAccf | tRq | tAct | tRelu | tClamp | tAddv | tMulv | tMaxv | tMinv | tCmpv | tSelv |
  tNormAffine | tNormLayer | tArgmax | tTree | tLeaf | tMovq | tBcast | tGather | tScatter | tShiftw | tPack | tUnpack | tRing | tRingLate |
  tStorek | tFold | tBarrierJoin | tBarrierEnter | tBarrierLeave | tDigest | tStep | tHalt | tEmit =>
    unfold exec at h
    delta execTNop execTDot execTDota execTDwc execTExpand execTScaleg execTAccf execTRq execTAct execTRelu execTClamp execTAddv execTMulv
      execTMaxv execTMinv execTCmpv execTSelv execTNormAffine execTNormLayer execTArgmax execTTree execTLeaf execTMovq execTBcast
      execTGather execTScatter execTShiftw execTPack execTUnpack execTRing execTRingLate execTStorek execTFold execTBarrierJoin
      execTBarrierEnter execTBarrierLeave execTDigest execTStep execTHalt execTEmit at h
    exact tileCmd_lawful h (by simp)
  | uGradDiff | uGradBack | uLaccAccum | uLaccFlush | uOptm | uSrq | uSwap =>
    unfold exec at h
    delta execUGradDiff execUGradBack execULaccAccum execULaccFlush execUOptm execUSrq execUSwap at h
    exact laneCmd_lawful h (by simp)
  | rbPut | rbDelete | rbDefault | rbEnd | rbHalt | rebuildRecordSkip =>
    unfold exec at h
    delta execRbPut execRbDelete execRbDefault execRbEnd execRbHalt execRebuildRecordSkip at h
    exact rbCmd_lawful h (by simp)
  | labelMatch | capExpire | batchClose | updateBegin | reduceDone | swapPhaseBegin | updateFlip | exportDone =>
    unfold exec at h
    delta execLabelMatch execCapExpire execBatchClose execUpdateBegin execReduceDone execSwapPhaseBegin execUpdateFlip execExportDone at h
    exact updCmd_lawful h (by simp)
  | msgTailWrite | engQuiesce | engLoad | engResume | policyWrite | lrdSwapGo | lrdSwapAt | calStart | calAbort | scaleApply | admitImage |
  withdraw | updExport | peakClear | replayEnable | replayClose | replayLimit | tbAdjWrite | tbSlewWrite | tbStep | ethControl | lnkControl
  | flkRole | ownHeartbeat | handoverRequest | keyProgram | keyRevoke | debugRequest | grantLoad | grantCommit | quarantineRelease |
  packWinWrite | arm | dump | trigger | disarm | lftControl | profileApply | otpLoad | otpProgram | engClkstop | triginConfigWrite | unmask =>
    unfold exec at h
    delta execMsgTailWrite execEngQuiesce execEngLoad execEngResume execPolicyWrite execLrdSwapGo execLrdSwapAt execCalStart execCalAbort
      execScaleApply execAdmitImage execWithdraw execUpdExport execPeakClear execReplayEnable execReplayClose execReplayLimit execTbAdjWrite
      execTbSlewWrite execTbStep execEthControl execLnkControl execFlkRole execOwnHeartbeat execHandoverRequest execKeyProgram execKeyRevoke
      execDebugRequest execGrantLoad execGrantCommit execQuarantineRelease execPackWinWrite execArm execDump execTrigger execDisarm
      execLftControl execProfileApply execOtpLoad execOtpProgram execEngClkstop execTriginConfigWrite execUnmask at h
    exact writeDie_lawful h (by simp)
  | timingApply | retireStage | rebuildStart | rebuildAbort | packLoad | stageReset | observe | observeEnd | muster | stateGo =>
    unfold exec at h
    delta execTimingApply execRetireStage execRebuildStart execRebuildAbort execPackLoad execStageReset execObserve execObserveEnd
      execMuster execStateGo at h
    exact dieCmd_lawful h (writeDie_pins _ _ _ _ (by simp))
  | parserWordArrival | larderLookup | entryAdmit | entryWaitLimit | badOpcode | msixDecFire | loadDone | swapAtFc | rowFree |
  admissionChecksDone | admissionLoadDone | withdrawQueuesEmpty | tbStepApply | receiverDetect | train1Timeout | train2Timeout |
  linkAbsentTimeout | alignLoss | los | errorWindow | retrain | retrainDeferTimeout | reliableFrameRx | ack | nak | replayTimer | ethActive
  | linkDown | shdPattern | musterDone | vfFlr | triginStuck | rawTransitions | idleWord | trainingSetSent | blockLockGained | blockLockLost
  | autonegDone =>
    unfold exec at h
    delta execParserWordArrival execLarderLookup execEntryAdmit execEntryWaitLimit execBadOpcode execMsixDecFire execLoadDone execSwapAtFc
      execRowFree execAdmissionChecksDone execAdmissionLoadDone execWithdrawQueuesEmpty execTbStepApply execReceiverDetect execTrain1Timeout
      execTrain2Timeout execLinkAbsentTimeout execAlignLoss execLos execErrorWindow execRetrain execRetrainDeferTimeout execReliableFrameRx
      execAck execNak execReplayTimer execEthActive execLinkDown execShdPattern execMusterDone execVfFlr execTriginStuck execRawTransitions
      execIdleWord execTrainingSetSent execBlockLockGained execBlockLockLost execAutonegDone at h
    refine dieCmd_lawful h ?_
    repeat' split
    all_goals simp
  | timingChangeDone | ref250Lost | ref250WaitEnd | ref250Return | pllPullInDone | injectEntry | shedEvaluate | joinRetry | phaseStep |
  syncMiss | standbyTakeover | flockMsgSend | claim | electionClose | heartbeatLoss | handoverAccept | handoverExpired | captureFreeze |
  dumpDone | profileDone | stateReached | thermHot | thermTrip | hostLinkReset | otpProgramDone | aliveToggle | pcieLinkDown | pcieLinkUp =>
    exact next_lawful h (onDie_lawful (by simp))
  | ethFrameRx | sFrame | rawFrame | frameStart | launchCommit | portDown | withdrawSlotsRetired | tbNowRead | ptpRx | ptpTx | txtsRead |
  sync | triginPulse | triginCapRead =>
    exact guardU_lawful h (State.lawful_of_core (by simp))
  | tallyRead | pairRead | cellarSyncPair | ppsEdge | ppsAbsent | tb0Holdover | auditHash | ppsOutRise | ppsOutFall | napEntry | windowRead
  | ref10mPresence =>
    exact next_lawful h (State.lawful_of_core (by simp))
  | partialWrite => exact next_lawful h (s.partialWrite_lawful _ _ _ _)
  | smbAddress => exact next_lawful h (s.smbAddress_lawful _ _)
  | smbWrite => exact next_lawful h (s.smbWrite_lawful _ _)
  | smbRead => exact next_lawful h (s.smbRead_lawful _ _)
  | smbUnknownCommand => exact next_lawful h (State.lawful_of_ite (smbErr_lawful s) (.refl s))
  | regacc => exact next_lawful h (s.regacc_lawful _)
  | fcsResult => exact guardU_lawful h (s.fcsResult_lawful _ _)
  | recordAssembled => exact guardU_lawful h (s.assemble_lawful _ _)
  | decisionExit => exact guardU_lawful h (s.decisionExit_lawful _ _)
  | tagCheckFail => exact guardU_lawful h (s.tagFail_lawful _)
  | launchFirstBit => exact guardU_lawful h (State.lawful_of_ite (s.trigEdge_lawful _ _) (State.lawful_of_core (by simp)))
  | calDone x => exact next_lawful h (s.calDone_lawful x)
  | cellarPowerUp => exact next_lawful h (State.lawful_of_cel (s.cel.powerUp_inOrder s.fused))
  | scrubRead => exact next_lawful h (s.scrubRead_lawful _ _ _ _)
  | restoreDone => exact next_lawful h s.restoreDone_lawful
  | standbyEntry => exact next_lawful h s.standbyEntry_lawful
  | sysReset => exact next_lawful h (State.lawful_of_ite (.refl s) (s.resetDie_lawful _ _))
  | coldReset => exact next_lawful h (s.resetDie_lawful _ _)
  | startupDone => exact next_lawful h s.startup_lawful
  | railFault => exact next_lawful h s.railFault_lawful
  | vcelLoss => exact next_lawful h s.vcelLoss_lawful
  | killTick => exact next_lawful h (s.killTick_lawful _ _)
  | sourceSelect => exact next_lawful h (writeAt_lawful _ _ _ s (celDiscW_lawful _ s))
  | ptpSubmit => exact next_lawful h (writeAt_lawful _ _ _ s (State.lawful_of_core (by simp)))
  | celStep => exact next_lawful h (writeAt_lawful _ _ _ s (State.lawful_of_core (celStepHiW_core _ s)))
  | sealGo | ckpt | cellarCalStart => exact next_lawful h (writeAt_lawful _ _ _ s (celControlW_lawful _ s))
  | form | flkControlKill | flkControlHalt | flkControlCancelAll | flkControlRelease =>
    exact next_lawful h (writeAt_lawful _ _ _ s (State.lawful_of_core (flkControlW_core _ s)))
  | lifecycleGo => exact next_lawful h (writeAt_lawful _ _ _ s (ownLifecycleW_lawful _ _ s))
  | deviceReset => exact next_lawful h (writeAt_lawful _ _ _ s (pwrResetW_lawful _ s))
  | killClear | killTWrite => exact next_lawful h (writeAt_lawful _ _ _ s (pwrKillW_lawful _ s))
  | mreq =>
    unfold exec execMreq at h
    exact msgCmd_lawful h (fun m u => u.mreq_lawful m)
  | mrsp =>
    unfold exec execMrsp at h
    exact msgCmd_lawful h (fun _ u => .refl u)
  | kill | flockHalt | release =>
    unfold exec at h
    delta execKill execFlockHalt execRelease at h
    exact msgCmd_lawful h (fun m u => State.lawful_of_pins (by simp))
  | cancelAll =>
    unfold exec execCancelAll at h
    exact msgCmd_lawful h (fun m u => State.lawful_of_core (by simp))
  | trigPulseEnd =>
    unfold exec execTrigPulseEnd at h
    obtain ⟨-, rfl⟩ := dieCmd_next _ _ _ _ h
    exact State.lawful_of_die (Die.pulseEnd_quiet _ s.die)
  | rawPeriod => exact execRawPeriod_lawful _ _ s t h
  | featureAssembly => exact execFeatureAssembly_lawful _ _ s t h
  | oqBeatSend => exact execOqBeatSend_lawful _ _ _ s t h
  | stall => exact execStall_lawful _ _ s t h
  | quiesceDone => exact execQuiesceDone_lawful _ _ s t h
  | stepCommit => exact execStepCommit_lawful _ _ s t h
  | calObserveEnd => exact execCalObserveEnd_lawful _ s t h
  | calVerifyEnd => exact execCalVerifyEnd_lawful _ s t h
  | ts1 => exact execTs1_lawful _ _ s t h
  | ts2 => exact execTs2_lawful _ _ s t h
  | reduce => exact execReduce_lawful _ _ s t h
  | total => exact execTotal_lawful _ s t h
  | reduceWait => exact execReduceWait_lawful _ s t h
  | digestWait => exact execDigestWait_lawful _ _ s t h
  | syncSend => exact execSyncSend_lawful _ s t h
  | join => exact execJoin_lawful _ s t h
  | welcome => exact execWelcome_lawful _ s t h
  | takeover => exact execTakeover_lawful _ s t h
  | launchAt => exact execLaunchAt_lawful _ s t h
  | commit => exact execCommit_lawful _ s t h
  | flockDigest => exact execFlockDigest_lawful _ s t h
  | verdict => exact execVerdict_lawful _ s t h

/-- A nanosecond leaves the core alone. -/
theorem State.tick_core (s : State) : s.tick.core = s.core := by
  unfold State.tick
  dsimp only
  split <;> simp

/-- Every step is lawful towards the state without the command in front. -/
theorem step_lawful (s t : State) (h : step s = .next t) : { s with pending := t.pending }.lawful t := by
  unfold step at h
  split at h
  · next hp =>
    cases h
    have hcore := s.tick_core
    obtain ⟨-, hpend, -⟩ := State.core_eq hcore
    rw [hpend]
    exact State.lawful_of_core hcore
  · next c rest _ =>
    have hlaw := exec_lawful c { s with pending := rest } t h
    rw [hlaw.pending]
    exact hlaw

/-- Settles O56: no step disturbs the kill machine's order, and none drives a pin while its gate blocks. -/
theorem killKeepsOrder : Obligations.KillKeepsOrder := by
  intro s t hin hstep
  have hlaw := step_lawful s t hstep
  exact ⟨hlaw.kill hin, hlaw.calm hin⟩

/-- Settles O60: no step disturbs the Cellar's order. -/
theorem cellarKeepsOrder : Obligations.CellarKeepsOrder := fun s t hin hstep => (step_lawful s t hstep).cel hin

theorem dieCmd_completes {ok : Bool} {f : State → Die} {s : State} (h : ok = true) : ∃ t, dieCmd ok f s = .next t := by
  subst h
  exact ⟨_, rfl⟩

theorem guardU_completes {ok : Bool} {u : State} (h : ok = true) : ∃ t, guardU ok u = .next t := by
  subst h
  exact ⟨_, rfl⟩

/-- A command whose operands name units of the device completes: its guard asks for nothing else (R7, R139, R605). -/
theorem exec_completes (c : Instr) (s : State) (h : c.wellFormed = true) : ∃ t, exec c s = .next t := by
  cases c with
  | tallyRead | tallyClear | pairRead | registerWrite | partialWrite | timingChangeDone | ref250Lost | ref250WaitEnd | ref250Return |
    pllPullInDone | injectEntry | shedEvaluate | cellarSyncPair | ppsEdge | ppsAbsent | tb0Holdover | sourceSelect | ptpSubmit | celStep | sealGo
    | ckpt | cellarCalStart | calDone | cellarPowerUp | auditHash | ppsOutRise | ppsOutFall | joinRetry | phaseStep | syncMiss | standbyTakeover
    | reduceWait | digestWait | flockMsgSend | form | flkControlKill | flkControlHalt | flkControlCancelAll | flkControlRelease | claim |
    electionClose | heartbeatLoss | handoverAccept | handoverExpired | smbAddress | smbWrite | smbRead | regacc | lifecycleGo | scrubRead |
    restoreDone | captureFreeze | dumpDone | profileDone | napEntry | standbyEntry | stateReached | thermHot | thermTrip | deviceReset | sysReset
    | coldReset | startupDone | railFault | vcelLoss | hostLinkReset | otpProgramDone | unlock | relock | ringEnable | windowRead | killTick |
    killClear | killTWrite | aliveToggle | ref10mPresence | pcieLinkDown | pcieLinkUp | smbUnknownCommand | syncSend =>
    exact ⟨_, rfl⟩
  | timingApply | peakClear | flkRole | ownHeartbeat | handoverRequest | keyProgram | keyRevoke | debugRequest | grantLoad | grantCommit | arm |
    dump | trigger | disarm | lftControl | profileApply | stateGo | otpLoad | otpProgram =>
    unfold exec
    delta execTimingApply execPeakClear execFlkRole execOwnHeartbeat execHandoverRequest execKeyProgram execKeyRevoke execDebugRequest
      execGrantLoad execGrantCommit execArm execDump execTrigger execDisarm execLftControl execProfileApply execStateGo execOtpLoad
      execOtpProgram
    exact dieCmd_completes rfl
  | rawPeriod | parserWordArrival | larderLookup | featureAssembly | entryAdmit | entryWaitLimit | stall | trigPulseEnd | msixDecFire |
    quiesceDone | loadDone | swapAtFc | rowFree | stepCommit | calObserveEnd | calVerifyEnd | admissionChecksDone | admissionLoadDone |
    withdrawQueuesEmpty | tbStepApply | receiverDetect | ts1 | ts2 | train1Timeout | train2Timeout | linkAbsentTimeout | alignLoss | los |
    errorWindow | retrain | retrainDeferTimeout | reliableFrameRx | ack | nak | replayTimer | ethActive | linkDown | reduce | total | musterDone
    | vfFlr | triginStuck | rawTransitions | idleWord | trainingSetSent | blockLockGained | blockLockLost | autonegDone =>
    unfold exec
    delta execRawPeriod execParserWordArrival execLarderLookup execFeatureAssembly execEntryAdmit execEntryWaitLimit execStall execTrigPulseEnd
      execMsixDecFire execQuiesceDone execLoadDone execSwapAtFc execRowFree execStepCommit execCalObserveEnd execCalVerifyEnd
      execAdmissionChecksDone execAdmissionLoadDone execWithdrawQueuesEmpty execTbStepApply execReceiverDetect execTs1 execTs2 execTrain1Timeout
      execTrain2Timeout execLinkAbsentTimeout execAlignLoss execLos execErrorWindow execRetrain execRetrainDeferTimeout execReliableFrameRx
      execAck execNak execReplayTimer execEthActive execLinkDown execReduce execTotal execMusterDone execVfFlr execTriginStuck execRawTransitions
      execIdleWord execTrainingSetSent execBlockLockGained execBlockLockLost execAutonegDone
    exact dieCmd_completes h
  | shdPattern =>
    unfold exec
    delta execShdPattern
    exact dieCmd_completes h
  | msgTailWrite | engQuiesce | engLoad | engResume | retireStage | policyWrite | rebuildStart | rebuildAbort | lrdSwapGo | lrdSwapAt | calStart
    | calAbort | scaleApply | admitImage | withdraw | updExport | replayEnable | replayClose | replayLimit | tbAdjWrite | tbSlewWrite | tbStep |
    ethControl | lnkControl | quarantineRelease | packLoad | stageReset | packWinWrite | observe | observeEnd | muster | engClkstop |
    triginConfigWrite | unmask =>
    unfold exec
    delta execMsgTailWrite execEngQuiesce execEngLoad execEngResume execRetireStage execPolicyWrite execRebuildStart execRebuildAbort
      execLrdSwapGo execLrdSwapAt execCalStart execCalAbort execScaleApply execAdmitImage execWithdraw execUpdExport execReplayEnable
      execReplayClose execReplayLimit execTbAdjWrite execTbSlewWrite execTbStep execEthControl execLnkControl execQuarantineRelease execPackLoad
      execStageReset execPackWinWrite execObserve execObserveEnd execMuster execEngClkstop execTriginConfigWrite execUnmask
    exact dieCmd_completes (Bool.and_elim_right h)
  | ethFrameRx | fcsResult | sFrame | rawFrame | recordAssembled | decisionExit | frameStart | launchCommit | launchFirstBit | portDown |
    withdrawSlotsRetired | ptpRx | ptpTx | sync | triginPulse =>
    unfold exec
    delta execEthFrameRx execFcsResult execSFrame execRawFrame execRecordAssembled execDecisionExit execFrameStart execLaunchCommit
      execLaunchFirstBit execPortDown execWithdrawSlotsRetired execPtpRx execPtpTx execSync execTriginPulse
    exact guardU_completes h
  | tagCheckFail =>
    unfold exec
    delta execTagCheckFail
    exact guardU_completes h
  | tbNowRead | txtsRead | triginCapRead =>
    unfold exec
    delta execTbNowRead execTxtsRead execTriginCapRead
    exact guardU_completes (Bool.and_elim_right h)
  | join | welcome | takeover | launchAt | commit | flockDigest | verdict | kill | flockHalt | cancelAll | release | mreq | mrsp =>
    unfold exec
    delta execJoin execWelcome execTakeover execLaunchAt execCommit execFlockDigest execVerdict execKill execFlockHalt execCancelAll execRelease
      execMreq execMrsp
    exact guardU_completes h
  | pNop | pExt | pKeyc | pKeyh | pEvid | pMatch | pBrc | pBrn | pCur | pCuri | pTbsel | pEmitr | pAccept | pDrop =>
    unfold exec
    delta execPNop execPExt execPKeyc execPKeyh execPEvid execPMatch execPBrc execPBrn execPCur execPCuri execPTbsel execPEmitr execPAccept
      execPDrop
    delta pCmd
    exact dieCmd_completes h
  | rbPut | rbDelete | rbDefault | rbEnd | rbHalt | rebuildRecordSkip =>
    unfold exec
    delta execRbPut execRbDelete execRbDefault execRbEnd execRbHalt execRebuildRecordSkip
    delta rbCmd
    exact dieCmd_completes h
  | labelMatch | capExpire | batchClose | updateBegin | reduceDone | swapPhaseBegin | updateFlip | exportDone =>
    unfold exec
    delta execLabelMatch execCapExpire execBatchClose execUpdateBegin execReduceDone execSwapPhaseBegin execUpdateFlip execExportDone
    delta updCmd
    exact dieCmd_completes h
  | tNop | tDot | tDota | tDwc | tExpand | tScaleg | tAccf | tRq | tAct | tRelu | tClamp | tAddv | tMulv | tMaxv | tMinv | tCmpv | tSelv |
    tNormAffine | tNormLayer | tArgmax | tTree | tLeaf | tMovq | tBcast | tGather | tScatter | tShiftw | tPack | tUnpack | tRing | tRingLate |
    tStorek | tFold | tBarrierJoin | tBarrierEnter | tBarrierLeave | tDigest | tStep | tHalt | tEmit =>
    unfold exec
    delta execTNop execTDot execTDota execTDwc execTExpand execTScaleg execTAccf execTRq execTAct execTRelu execTClamp execTAddv execTMulv
      execTMaxv execTMinv execTCmpv execTSelv execTNormAffine execTNormLayer execTArgmax execTTree execTLeaf execTMovq execTBcast execTGather
      execTScatter execTShiftw execTPack execTUnpack execTRing execTRingLate execTStorek execTFold execTBarrierJoin execTBarrierEnter
      execTBarrierLeave execTDigest execTStep execTHalt execTEmit
    delta tileCmd
    exact dieCmd_completes (Bool.and_elim_left (Bool.and_elim_left h))
  | uGradDiff | uGradBack | uLaccAccum | uLaccFlush | uOptm | uSrq | uSwap =>
    unfold exec
    delta execUGradDiff execUGradBack execULaccAccum execULaccFlush execUOptm execUSrq execUSwap
    delta laneCmd
    exact dieCmd_completes (Bool.and_elim_left h)
  | oqBeatSend tile ctx oq =>
    have hwf : (onTile tile && decide (ctx < 8) && decide (oq < 2)) = true := h
    unfold exec execOqBeatSend
    refine dieCmd_completes ?_
    simp only [onTile, Bool.and_eq_true] at hwf ⊢
    exact ⟨hwf.1.1, hwf.2⟩
  | badOpcode tile ctx x =>
    have hwf : (onTile tile && decide (ctx < 8) && decide (x.op < 32)) = true := h
    unfold exec execBadOpcode
    refine dieCmd_completes ?_
    simp only [onTile, Bool.and_eq_true] at hwf ⊢
    exact hwf

/-- Settles O55: the operands alone decide completion, and the fuses and the queue are part of what every command keeps. -/
theorem wellFormedCompletes : Obligations.WellFormedCompletes := fun c s =>
  ⟨exec_completes c s, fun t h => ⟨(exec_lawful c s t h).fused, (exec_lawful c s t h).pending⟩⟩

end Sys2Proof.Machine
end

section
/-! SUPPORT. Parser instructions (R57): each replaces the parser by one that stands at another instruction, and changes nothing else. -/

namespace Sys2Proof.Machine

/-- e is d with parser g as y says. -/
structure Die.reparsed (d e : Die) (g : Nat) (y : Parser) : Prop where
  frame : e = { d with parsers := e.parsers }
  same : e.parser g = y
  other : ∀ h, h ≠ g → e.parser h = d.parser h

theorem Die.putParser_reparsed (d : Die) (g : Nat) (y : Parser) : d.reparsed (d.putParser g y) g y :=
  ⟨rfl, d.parser_putParser_same g y, fun h hne => d.parser_putParser_other g h y hne⟩

/-- A second change of the same parser stands for both. -/
theorem Die.reparsed.trans {d e f : Die} {g : Nat} {y z : Parser} (h : d.reparsed e g y) (k : e.reparsed f g z) : d.reparsed f g z := by
  obtain ⟨hframe, -, hother⟩ := h
  obtain ⟨kframe, ksame, kother⟩ := k
  refine ⟨?_, ksame, fun j hj => (kother j hj).trans (hother j hj)⟩
  rw [hframe] at kframe
  exact kframe

/-- The next instruction, k further on. -/
theorem Die.next_reparsed (d : Die) (g k : Nat) : d.reparsed (d.next g k) g { d.parser g with pc := (d.parser g).pc + k } :=
  d.putParser_reparsed g _

/-- An instruction that replaces the parser and goes k further. -/
theorem Die.put_next_reparsed (d : Die) (g k : Nat) (y : Parser) : d.reparsed ((d.putParser g y).next g k) g { y with pc := y.pc + k } := by
  have hnext := (d.putParser g y).next_reparsed g k
  rw [Die.parser_putParser_same] at hnext
  exact (d.putParser_reparsed g y).trans hnext

/-- An instruction whose source has been read. -/
theorem withSource_ok {g : Nat} {i : PInstr} {f : Parser → List Byte → Parser} {d : Die} {bs : List Byte} (h : (d.parser g).source i = .ok bs) :
    withSource g i f d = (d.putParser g (f (d.parser g) bs)).next g 1 := by
  unfold withSource
  dsimp only
  rw [h]

/-- In a record that is not dropped a working value is written and marks the record. -/
theorem Parser.work_live {x : Parser} (h : x.dropped = false) (y : Parser) : x.work y = { y with touched := true } := by
  unfold Parser.work
  rw [h]
  rfl

/-- An instruction that is ready and goes on to an instruction of its program leaves the parser as it says. -/
theorem pCmd_goes {s : State} {c : Instr} {op g : Nat} {f : PInstr → Die → Die} {i : PInstr} {y : Parser} (hexec : exec c s = pCmd op g f s)
    (hg : g < 81) (hready : s.die.ready g = some i) (hop : i.op = op) (hf : s.die.reparsed (f i s.die) g y) (hrun : y.running = true)
    (hpc : y.pc < y.instrs.length) : s.parserGoes c g y := by
  obtain ⟨hframe, hsame, hother⟩ := hf
  have hend : s.die.reparsed ((f i s.die).pEnd g) g y := by
    rw [Die.pEnd_frame _ g (.inr (by rw [hsame]; exact hpc)), hsame, Parser.settle_running y hrun]
    exact Die.reparsed.trans ⟨hframe, hsame, hother⟩ ((f i s.die).putParser_reparsed g y)
  refine ⟨_, hexec.trans (pCmd_ready op g f s i hg hready hop), ?_, hend.same, hend.other⟩
  exact congrArg (fun d => ({ s with die := d } : State)) hend.frame

/-- An instruction that writes a working value of a live record goes on to the next. -/
theorem withSource_work_reparsed {g : Nat} {i : PInstr} {d : Die} {bs : List Byte} (f : Parser → List Byte → Parser)
    (hsrc : (d.parser g).source i = .ok bs) (hlive : (d.parser g).dropped = false) :
    d.reparsed (withSource g i (fun x bs => x.work (f x bs)) d) g
      { f (d.parser g) bs with pc := (f (d.parser g) bs).pc + 1, touched := true } := by
  rw [withSource_ok hsrc, Parser.work_live hlive]
  exact d.put_next_reparsed g 1 _

/-- Settles O2: every instruction replaces the parser by one that runs on. -/
theorem parserStraight : Obligations.ParserStraight := by
  unfold Obligations.ParserStraight
  refine ⟨?_, ?_⟩
  · rintro s g i bs x rfl hg hready hsrc hlive hpc
    have hrun := s.die.ready_running g i hready
    refine ⟨fun hop => ?_, fun hop => ?_, fun hop => ?_, fun hop => ?_⟩
    · exact pCmd_goes (f := pExtOp g) rfl hg hready hop (withSource_work_reparsed _ hsrc hlive) hrun hpc
    · exact pCmd_goes (f := pKeycOp g) rfl hg hready hop (withSource_work_reparsed _ hsrc hlive) hrun hpc
    · exact pCmd_goes (f := pKeyhOp g) rfl hg hready hop (withSource_work_reparsed _ hsrc hlive) hrun hpc
    · exact pCmd_goes (f := pEvidOp g) rfl hg hready hop (withSource_work_reparsed _ hsrc hlive) hrun hpc
  · rintro s g i x rfl hg hready hpc
    have hrun := s.die.ready_running g i hready
    have hnext : (s.die.parser g).pc + 1 < (s.die.parser g).instrs.length := by omega
    refine ⟨fun hop => ?_, fun hop bs hsrc => ?_, fun hop => ?_, fun hop => ?_, fun hop bs hsrc => ?_, fun hop => ?_, fun hop => ?_⟩
    · exact pCmd_goes rfl hg hready hop (s.die.next_reparsed g 1) hrun hnext
    · refine pCmd_goes rfl hg hready hop ?_ hrun hnext
      rw [pMatchOp, withSource_ok hsrc]
      exact s.die.put_next_reparsed g 1 _
    · exact pCmd_goes rfl hg hready hop (s.die.next_reparsed g _) hrun (by dsimp only; split <;> omega)
    · exact pCmd_goes rfl hg hready hop (s.die.next_reparsed g _) hrun (by dsimp only; split <;> omega)
    · refine pCmd_goes rfl hg hready hop ?_ hrun hnext
      rw [pCurOp, withSource_ok hsrc]
      exact s.die.put_next_reparsed g 1 _
    · exact pCmd_goes rfl hg hready hop (s.die.put_next_reparsed g 1 _) hrun hnext
    · exact pCmd_goes rfl hg hready hop (s.die.put_next_reparsed g 1 _) hrun hnext

end Sys2Proof.Machine
end

section
/-! SUPPORT. Lane-wise computations: beats of lanes, and what an operation on each lane answers (R195, R196). -/

namespace Sys2Proof.Machine

@[simp] theorem length_beatsOf (n : Nat) (ls : List Nat) : (beatsOf n ls).length = n := by
  induction n generalizing ls with
  | zero => rfl
  | succ n ih => simp [beatsOf, ih]

@[simp] theorem length_lanesOf (bs : List Nat) : (lanesOf bs).length = 8 * bs.length := by
  induction bs with
  | nil => rfl
  | cons b bs ih =>
    rw [lanesOf, List.flatMap_cons, List.length_append, List.length_map, List.length_range, List.length_cons, ← lanesOf, ih]
    omega

@[simp] theorem length_span (a b : Nat) : (span a b).length = b - a := by simp [span]

/-- No more is consumed of QA than the operation's shape says. -/
theorem Die.length_qa_le (d : Die) (x : Fire) : (d.qa x).length ≤ x.need 0 := by
  rw [Die.qa, List.length_take]
  exact min_le_left _ _

/-- A number that is read, then computed with. -/
theorem val_norm_seq {α : Type} (v : Nat) (f : Nat → Num α) (hf : ∀ u, (f u).plain) :
    (Num.seq (norm32 v) f).plain ∧ (Num.seq (norm32 v) f).val = (f (norm32 v).val).val :=
  ⟨Num.plain_seq _ _ (norm32_plain v) hf, Num.val_seq _ _ hf⟩

/-- A computing operation that works on each of some lanes and fills its beats with the answers. -/
theorem lanes_yields {α : Type} (s : State) (c : Instr) (x : Fire) (sel : Nat → Bool) (f : Fused → Fire → Die → Out × Die) (sat fl : Tal)
    (reads : (Nat → Nat) → Fire → Nat → List Nat → List Nat) (ls : (Nat → Nat) → Fire → Nat → List Nat → List Nat → List α) (g : α → Num Nat) (n : Nat)
    (vs : List Nat) (hf : s.fires x) (hs : s.sound x) (hc : exec c s = tileCmd sel f x.tile x.ctx x.op s) (hsel : sel x.w = true)
    (hx : f s.fused x s.die = arith sat fl reads
      (fun raw x par as bs => Num.seq (Num.all g (ls raw x par as bs)) (fun ys => Num.ret (beatsOf n ys))) s.fused x s.die)
    (hg : ∀ a, (g a).plain)
    (hv : (ls (s.die.beat x.tile) x (s.die.slotSt x (s.die.slotIn x)).par ((s.die.qa x).map (fun b => b.data.toNat))
      ((s.die.qb x).map (fun b => b.data.toNat))).map (fun a => (g a).val) = vs)
    (hn : (match (shapeOf x.w).outs with | y :: _ => y.2.2 | [] => 0) ≤ n) :
    s.yields c x (outBeats (s.die.slotIn x) false (beatsOf n vs)) := by
  have hret : ∀ ys : List Nat, (Num.ret (beatsOf n ys)).plain := fun _ => Num.plain_ret _
  have hplain := Num.plain_seq _ _ (Num.plain_all g (ls (s.die.beat x.tile) x (s.die.slotSt x (s.die.slotIn x)).par
    ((s.die.qa x).map (fun b => b.data.toNat)) ((s.die.qb x).map (fun b => b.data.toNat))) hg) hret
  refine arith_yields s c x sel f sat fl reads _ (beatsOf n vs) hc hx hsel hf hs (hplain {}).2 ?_ (by rw [length_beatsOf]; exact hn)
  rw [Num.val_seq _ _ hret, Num.val_all _ _ hg, hv]
  rfl

/-- A lane of ADDV to CMPV: both operands are read, then put together. -/
theorem vecOp_yields (s : State) (c : Instr) (x : Fire) (sel : Nat → Bool) (f : Nat → Nat → Nat → Num Nat) (h : Nat → Nat → Nat)
    (hf : s.fires x) (hs : s.sound x) (hc : exec c s = tileCmd sel (vecOp f) x.tile x.ctx x.op s) (hsel : sel x.w = true)
    (hplain : ∀ v u, (f x.w v u).plain) (hval : ∀ v u, (f x.w v u).val = h v u)
    (hn : (match (shapeOf x.w).outs with | y :: _ => y.2.2 | [] => 0) ≤ fld x.w 41 39 + 1) :
    s.yields c x (outBeats (s.die.slotIn x) false (beatsOf (fld x.w 41 39 + 1)
      ((((lanesOf ((s.die.qa x).map (fun b => b.data.toNat))).map (fun v => (norm32 v).val)).zip
        ((vecB (s.die.beat x.tile) x.w ((s.die.qb x).map (fun b => b.data.toNat))).map (fun v => (norm32 v).val))).map (fun p => h p.1 p.2)))) := by
  have hinner (v u : Nat) := val_norm_seq u (fun u => f x.w v u) (hplain v)
  have houter (p : Nat × Nat) := val_norm_seq p.1 (fun v => Num.seq (norm32 p.2) (fun u => f x.w v u)) (fun v => (hinner v p.2).1)
  refine lanes_yields s c x sel (vecOp f) T.FAB_VEC_SAT T.FAB_VEC_FLUSH (fun _ _ _ _ => vecReads x.w) (fun raw _ _ as bs => (lanesOf as).zip (vecB raw x.w bs))
    (fun p => Num.seq (norm32 p.1) (fun v => Num.seq (norm32 p.2) (fun u => f x.w v u))) _ _ hf hs hc hsel rfl (fun p => (houter p).1) ?_ hn
  rw [List.zip_map, List.map_map]
  refine List.map_congr_left fun p _ => ?_
  rw [(houter p).2, (hinner _ _).2, hval]
  rfl

/-- A bound of CLAMP, both of whose comparisons answer (R196). -/
theorem clampLane_plain (v lo hi : Nat) : (clampLane v lo hi).plain :=
  Num.plain_seq _ _ (cmp32_plain v lo) fun _ => Num.plain_seq _ _ (cmp32_plain _ hi) fun _ => Num.plain_ret _

theorem clampLane_val (v lo hi : Nat) : (clampLane v lo hi).val =
    (if (cmp32 (if 0 ≤ (cmp32 v lo).val then v else lo) hi).val ≤ 0 then (if 0 ≤ (cmp32 v lo).val then v else lo) else hi) := by
  unfold clampLane
  rw [Num.val_seq _ _ fun _ => Num.plain_seq _ _ (cmp32_plain _ hi) fun _ => Num.plain_ret _, Num.val_seq _ _ fun _ => Num.plain_ret _]
  rfl

/-- A comparison, then an answer by its sign. -/
theorem val_cmp_ret (v u : Nat) (k : Int → Nat) : (Num.seq (cmp32 v u) (fun c => Num.ret (k c))).val = k (cmp32 v u).val :=
  Num.val_seq _ _ fun _ => Num.plain_ret _

/-- Only as many partners count as there are lanes. -/
theorem zip_append_left {α β : Type} (as : List α) (bs cs : List β) (h : as.length ≤ bs.length) : as.zip (bs ++ cs) = as.zip bs := by
  induction as generalizing bs with
  | nil => rfl
  | cons a as ih =>
    cases bs with
    | nil => simp at h
    | cons b bs => simp [ih bs (by simpa using h)]

/-- Partners that do not count. -/
theorem map_zip_fst {α β γ : Type} (as : List α) (bs : List β) (f : α → γ) (h : as.length ≤ bs.length) :
    (as.zip bs).map (fun p => f p.1) = as.map f := by
  conv_rhs => rw [← List.map_fst_zip h]
  rw [List.map_map]
  rfl

/-- What CLAMP does with one lane and its pair of bounds (R196). -/
def clampOne (w : Nat) (p : Nat × Nat × Nat) : Num Nat :=
  Num.seq (norm32 p.1) (fun v =>
    if fld w 38 37 = 1 then Num.seq (norm32 p.2.1) (fun lo => Num.seq (norm32 p.2.2) (fun hi => clampLane v lo hi))
    else Num.seq (norm32 (fld w 31 0)) (fun h => clampLane v (if h % 2 ^ 31 = 0 then 0 else h % 2 ^ 31 + 2 ^ 31) (h % 2 ^ 31)))

/-- The bounds that CLAMP has for its lanes, those of the tile store first. -/
def clampBounds (raw : Nat → Nat) (w : Nat) : List (Nat × Nat) :=
  (lanesOf ((span (fld w 9 0) (fld w 9 0 + (fld w 41 39 + 1))).map raw)).zip
      (lanesOf ((span (fld w 9 0 + (fld w 41 39 + 1)) (fld w 9 0 + 2 * (fld w 41 39 + 1))).map raw))
    ++ List.replicate (8 * (fld w 41 39 + 1)) (0, 0)

/-- There is a pair of bounds for every lane. -/
theorem le_length_clampBounds (raw : Nat → Nat) (w : Nat) : 8 * (fld w 41 39 + 1) ≤ (clampBounds raw w).length := by
  simp [clampBounds]

theorem clampOp_arith (fu : Fused) (x : Fire) (d : Die) : clampOp fu x d = arith T.FAB_VEC_SAT T.FAB_VEC_FLUSH
    (fun _ _ _ _ => if fld x.w 38 37 = 1 then span (fld x.w 9 0) (fld x.w 9 0 + 2 * (fld x.w 41 39 + 1)) else [])
    (fun raw _ _ as _ => Num.seq (Num.all (clampOne x.w) ((lanesOf as).zip (clampBounds raw x.w)))
      (fun ys => Num.ret (beatsOf (fld x.w 41 39 + 1) ys))) fu x d := rfl

theorem clampOne_plain (w : Nat) (p : Nat × Nat × Nat) : (clampOne w p).plain := by
  unfold clampOne
  refine Num.plain_seq _ _ (norm32_plain _) fun v => Num.plain_ite _ _ ?_ ?_
  · exact Num.plain_seq _ _ (norm32_plain _) fun lo => Num.plain_seq _ _ (norm32_plain _) fun hi => clampLane_plain v lo hi
  · exact Num.plain_seq _ _ (norm32_plain _) fun h => clampLane_plain v _ _

/-- CLAMP by bounds of the tile store. -/
theorem clampOne_val_store (w : Nat) (p : Nat × Nat × Nat) (h : fld w 38 37 = 1) :
    (clampOne w p).val = (clampLane (norm32 p.1).val (norm32 p.2.1).val (norm32 p.2.2).val).val := by
  unfold clampOne
  simp only [if_pos h]
  have hhi (v lo : Nat) := val_norm_seq p.2.2 _ (clampLane_plain v lo)
  have hlo (v : Nat) := val_norm_seq p.2.1 (fun lo => Num.seq (norm32 p.2.2) (clampLane v lo)) (fun lo => (hhi v lo).1)
  rw [(val_norm_seq p.1 _ fun v => (hlo v).1).2, (hlo _).2, (hhi _ _).2]

/-- CLAMP by the bound of its word. -/
theorem clampOne_val_imm (w : Nat) (p : Nat × Nat × Nat) (h : fld w 38 37 ≠ 1) :
    (clampOne w p).val = (clampLane (norm32 p.1).val
      (if (norm32 (fld w 31 0)).val % 2 ^ 31 = 0 then 0 else (norm32 (fld w 31 0)).val % 2 ^ 31 + 2 ^ 31) ((norm32 (fld w 31 0)).val % 2 ^ 31)).val := by
  unfold clampOne
  simp only [if_neg h]
  have himm (v : Nat) := val_norm_seq (fld w 31 0)
    (fun h => clampLane v (if h % 2 ^ 31 = 0 then 0 else h % 2 ^ 31 + 2 ^ 31) (h % 2 ^ 31)) (fun h => clampLane_plain v _ _)
  rw [(val_norm_seq p.1 _ fun v => (himm v).1).2, (himm _).2]

/-- CLAMP of a firing: the answers of its lanes. -/
theorem clamp_yields (s : State) (x : Fire) (hf : s.fires x) (hs : s.sound x) (hop : opc x.w = 10) (vs : List Nat)
    (hv : ((lanesOf ((s.die.qa x).map (fun b => b.data.toNat))).zip (clampBounds (s.die.beat x.tile) x.w)).map (fun p => (clampOne x.w p).val) = vs) :
    s.yields (.tClamp x.tile x.ctx x.op) x (outBeats (s.die.slotIn x) false (beatsOf (fld x.w 41 39 + 1) vs)) :=
  lanes_yields s _ x (fun w => opc w == 10) clampOp _ _ _ (fun raw _ _ as _ => (lanesOf as).zip (clampBounds raw x.w)) (clampOne x.w) _ _ hf hs rfl
    (by simp [hop]) (clampOp_arith _ _ _) (clampOne_plain x.w) hv (by simp [shapeOf, hop])

/-- The lanes of QA are as many as its beats carry. -/
theorem Die.length_lanes_qa (d : Die) (x : Fire) {n : Nat} (h : x.need 0 = n) :
    (lanesOf ((d.qa x).map (fun b => b.data.toNat))).length ≤ 8 * n := by
  have hqa := d.length_qa_le x
  rw [length_lanesOf, List.length_map]
  omega

/-- What SELV does with one lane of its three operands (R196). -/
def selvOne (p : Nat × Nat × Nat) : Num Nat :=
  Num.seq (norm32 p.1) (fun c => Num.seq (norm32 p.2.1) (fun t => Num.seq (norm32 p.2.2) (fun u => Num.ret (if c ≠ 0 then t else u))))

theorem selvOne_spec (p : Nat × Nat × Nat) :
    (selvOne p).plain ∧ (selvOne p).val = if (norm32 p.1).val ≠ 0 then (norm32 p.2.1).val else (norm32 p.2.2).val := by
  have hu (c t : Nat) := val_norm_seq p.2.2 (fun u => Num.ret (if c ≠ 0 then t else u)) (fun _ => Num.plain_ret _)
  have ht (c : Nat) := val_norm_seq p.2.1 (fun t => Num.seq (norm32 p.2.2) (fun u => Num.ret (if c ≠ 0 then t else u))) (fun t => (hu c t).1)
  have hc := val_norm_seq p.1 _ (fun c => (ht c).1)
  exact ⟨hc.1, hc.2.trans ((ht _).2.trans (hu _ _).2)⟩

/-- Settles O9: each operation reads its lanes and answers lane by lane. -/
theorem vectorLanes : Obligations.VectorLanes := by
  unfold Obligations.VectorLanes
  intro s x hf hs raw nb ba imm norm as qb bs out clamp
  refine ⟨fun hop => ?_, fun hop hmode => ?_, fun hop hmode => ?_, fun hop => ?_, fun hop => ?_, fun hop => ?_, fun hop => ?_, fun hop => ?_, fun hop => ?_⟩
  · have hrelu (v : Nat) : (if bit v 31 = false then Num.ret v else if imm = 0 then Num.ret 0 else mul32 v imm : Num Nat).plain :=
      Num.plain_ite _ _ (Num.plain_ret _) (Num.plain_ite _ _ (Num.plain_ret _) (mul32_plain _ _))
    refine lanes_yields s _ x (fun w => opc w == 9) reluOp T.FAB_VEC_SAT T.FAB_VEC_FLUSH noReads (fun _ _ _ as _ => lanesOf as)
      (fun y => Num.seq (norm32 y) (fun v => if bit v 31 = false then Num.ret v else if imm = 0 then Num.ret 0 else mul32 v imm)) nb _
      hf hs rfl (by simp [hop]) rfl ?_ ?_ (by simp [shapeOf, hop, nb])
    · intro v
      exact (val_norm_seq v _ hrelu).1
    · rw [List.map_map]
      refine List.map_congr_left fun v _ => ?_
      rw [(val_norm_seq v _ hrelu).2]
      simp only [Function.comp_apply]
      split
      · rfl
      · split <;> rfl
  · refine clamp_yields s x hf hs hop _ ?_
    have hlen := s.die.length_lanes_qa x (n := nb) (by simp [Fire.need, shapeOf, hop, nb])
    rw [clampBounds, zip_append_left _ _ _ (by simpa [nb, two_mul, Nat.add_sub_add_left] using hlen), List.zip_map, List.zip_map, List.map_map]
    refine List.map_congr_left fun p _ => ?_
    rw [clampOne_val_store _ _ hmode, clampLane_val]
    rfl
  · refine clamp_yields s x hf hs hop _ ?_
    have hlen := s.die.length_lanes_qa x (n := nb) (by simp [Fire.need, shapeOf, hop, nb])
    have hbounds := hlen.trans (le_length_clampBounds raw x.w)
    rw [List.map_map, ← map_zip_fst _ _ _ hbounds]
    refine List.map_congr_left fun p _ => ?_
    rw [clampOne_val_imm _ _ (by omega), clampLane_val]
    rfl
  · exact vecOp_yields s _ x (fun w => opc w == 11) (fun _ => add32) (fun v u => (add32 v u).val) hf hs rfl (by simp [hop]) add32_plain (fun _ _ => rfl) (by simp [shapeOf, hop])
  · exact vecOp_yields s _ x (fun w => opc w == 12) (fun _ => mul32) (fun v u => (mul32 v u).val) hf hs rfl (by simp [hop]) mul32_plain (fun _ _ => rfl) (by simp [shapeOf, hop])
  · exact vecOp_yields s _ x (fun w => opc w == 13) maxLane (fun v u => if 0 ≤ (cmp32 v u).val then v else u) hf hs rfl (by simp [hop])
      (fun v u => Num.plain_seq _ _ (cmp32_plain v u) fun _ => Num.plain_ret _) (fun v u => val_cmp_ret v u _) (by simp [shapeOf, hop])
  · exact vecOp_yields s _ x (fun w => opc w == 14) minLane (fun v u => if (cmp32 v u).val ≤ 0 then v else u) hf hs rfl (by simp [hop])
      (fun v u => Num.plain_seq _ _ (cmp32_plain v u) fun _ => Num.plain_ret _) (fun v u => val_cmp_ret v u _) (by simp [shapeOf, hop])
  · exact vecOp_yields s _ x (fun w => opc w == 15) cmpLane (fun v u => if relHolds (fld x.w 36 34) (cmp32 v u).val then 0x3F800000 else 0) hf hs rfl (by simp [hop])
      (fun v u => Num.plain_seq _ _ (cmp32_plain v u) fun _ => Num.plain_ret _) (fun v u => val_cmp_ret v u _) (by simp [shapeOf, hop])
  · refine lanes_yields s _ x (fun w => opc w == 16) selvOp T.FAB_VEC_SAT T.FAB_VEC_FLUSH (fun _ _ _ _ => vecReads x.w)
      (fun raw _ _ as bs => (lanesOf as).zip ((lanesOf bs).zip (vecB raw x.w []))) selvOne _ _ hf hs rfl (by simp [hop]) rfl
      (fun p => (selvOne_spec p).1) ?_ (by simp [shapeOf, hop, nb])
    rw [List.zip_map, List.zip_map, List.map_map]
    exact List.map_congr_left fun p _ => (selvOne_spec p).2

end Sys2Proof.Machine
end

section
/-! SUPPORT. Computations that reduce the lanes of a beat or look them up (R194, R197 to R200). -/

namespace Sys2Proof.Machine

/-- A computing operation whose computation is plain. -/
theorem plain_yields (s : State) (c : Instr) (x : Fire) (sel : Nat → Bool) (f : Fused → Fire → Die → Out × Die) (sat fl : Tal)
    (reads : (Nat → Nat) → Fire → Nat → List Nat → List Nat) (work : (Nat → Nat) → Fire → Nat → List Nat → List Nat → Num (List Nat)) (vs : List Nat)
    (hf : s.fires x) (hs : s.sound x) (hc : exec c s = tileCmd sel f x.tile x.ctx x.op s) (hsel : sel x.w = true)
    (hx : f s.fused x s.die = arith sat fl reads work s.fused x s.die)
    (hw : (work (s.die.beat x.tile) x (s.die.slotSt x (s.die.slotIn x)).par ((s.die.qa x).map (fun b => b.data.toNat))
      ((s.die.qb x).map (fun b => b.data.toNat))).plain
      ∧ (work (s.die.beat x.tile) x (s.die.slotSt x (s.die.slotIn x)).par ((s.die.qa x).map (fun b => b.data.toNat))
        ((s.die.qb x).map (fun b => b.data.toNat))).val = vs)
    (hn : (match (shapeOf x.w).outs with | y :: _ => y.2.2 | [] => 0) ≤ vs.length) :
    s.yields c x (outBeats (s.die.slotIn x) false vs) :=
  arith_yields s c x sel f sat fl reads work vs hc hx hsel hf hs (hw.1 {}).2 hw.2 hn

/-- The beat of the leaves that TREE's walks reach (R199). -/
def treeBeat (raw : Nat → Nat) (w : Nat) (as : List Nat) : Nat :=
  (((List.range (fld w 38 35 + 1)).zip (treeWalks raw w as)).map (fun y =>
    (y.2.headD 0 - (2 ^ (fld w 34 32 + 1) - 1)) % 256 * 2 ^ (8 * (fld w 21 17 + y.1)))).sum % 2 ^ 256

theorem treeOp_arith (fu : Fused) (x : Fire) (d : Die) : treeOp fu x d = arith T.FAB_VEC_SAT T.FAB_VEC_FLUSH
    (fun raw _ _ as => ((List.range (fld x.w 38 35 + 1)).zip (treeWalks raw x.w as)).flatMap (fun y =>
      (y.2.drop 1).map (fun n => (32 * fld x.w 31 22 + 4 * (y.1 * 2 ^ (fld x.w 34 32 + 1) + n)) / 32)))
    (fun raw _ _ as _ => Num.ret [treeBeat raw x.w as]) fu x d := rfl

/-- What ARGMAX does with its lanes (R198). -/
def argmaxLanes (ls : List Nat) : Num (List Nat) :=
  Num.seq (Num.all norm32 ls) (fun vs =>
    Num.seq (Num.fold (fun (best : Nat) i => Num.seq (cmp32 (vs.getD i 0) (vs.getD best 0)) (fun c =>
        Num.ret (if 0 < c then i else best))) 0 (span 1 vs.length))
      (fun best => Num.ret [beatOf [vs.getD best 0, best]]))

theorem argmaxLanes_spec (ls : List Nat) :
    (argmaxLanes ls).plain ∧ (argmaxLanes ls).val =
      let vs := ls.map (fun v => (norm32 v).val)
      let best := (span 1 vs.length).foldl (fun b i => if 0 < (cmp32 (vs.getD i 0) (vs.getD b 0)).val then i else b) 0
      [beatOf [vs.getD best 0, best]] := by
  have hcmp (vs : List Nat) (b i : Nat) : (Num.seq (cmp32 (vs.getD i 0) (vs.getD b 0)) (fun c => Num.ret (if 0 < c then i else b))).plain :=
    Num.plain_seq _ _ (cmp32_plain _ _) fun _ => Num.plain_ret _
  have hret (vs : List Nat) : ∀ best : Nat, (Num.ret [beatOf [vs.getD best 0, best]]).plain := fun _ => Num.plain_ret _
  have hfold (vs : List Nat) := Num.plain_seq _ _ (Num.plain_fold _ 0 (span 1 vs.length) (hcmp vs)) (hret vs)
  refine ⟨Num.plain_seq _ _ (Num.plain_all _ _ norm32_plain) hfold, ?_⟩
  unfold argmaxLanes
  rw [Num.val_seq _ _ hfold, Num.val_all _ _ norm32_plain, Num.val_seq _ _ (hret _), Num.val_fold _ _ _ (hcmp _)]
  simp only [val_cmp_ret]
  rfl

/-- An operand that is not at fault counts nothing. -/
theorem operandFault_false_plain : (operandFault false).plain := fun _ => ⟨rfl, rfl⟩

/-- What LEAF does with its trees' leaves (R200). -/
def leafBeats (raw : Nat → Nat) (w : Nat) (as bs : List Nat) : Num (List Nat) :=
  Num.seq (operandFault ((List.range (fld w 41 38 + 1)).any (fun t => decide (2 ^ (fld w 37 35 + 1) ≤ leafIdx w (as.headD 0) t)))) (fun _ =>
    Num.seq (Num.all (fun o =>
      Num.seq (if bit w 26 then norm32 (lane (bs.headD 0) o) else if bit w 5 = false then norm32 (lane (raw (fld w 15 6)) o) else Num.ret 0)
        (fun a => accumulate a ((List.range (fld w 41 38 + 1)).map (fun t =>
          if leafIdx w (as.headD 0) t < 2 ^ (fld w 37 35 + 1) then tsWord raw (leafByte w t (leafIdx w (as.headD 0) t) o) else 0))))
      (List.range (fld w 34 32 + 1))) (fun ls => Num.ret [beatOf ls]))

theorem leafOp_arith (fu : Fused) (x : Fire) (d : Die) : leafOp fu x d = arith T.FAB_VEC_SAT T.FAB_VEC_FLUSH
    (fun _ _ _ as => (if bit x.w 26 = false ∧ bit x.w 5 = false then [fld x.w 15 6] else [])
      ++ (List.range (fld x.w 41 38 + 1)).flatMap (fun t => if leafIdx x.w (as.headD 0) t < 2 ^ (fld x.w 37 35 + 1)
        then (List.range (fld x.w 34 32 + 1)).map (fun o => leafByte x.w t (leafIdx x.w (as.headD 0) t) o / 32) else []))
    (fun raw _ _ as bs => leafBeats raw x.w as bs) fu x d := rfl

theorem leafBeats_spec {raw : Nat → Nat} {w : Nat} {as bs : List Nat}
    (hidx : ∀ t, t < fld w 41 38 + 1 → leafIdx w (as.headD 0) t < 2 ^ (fld w 37 35 + 1)) :
    (leafBeats raw w as bs).plain ∧ (leafBeats raw w as bs).val = [beatOf ((List.range (fld w 34 32 + 1)).map (fun o =>
      let a := if bit w 26 then (norm32 (lane (bs.headD 0) o)).val
        else if bit w 5 = false then (norm32 (lane (raw (fld w 15 6)) o)).val else 0
      ((List.range (fld w 41 38 + 1)).map (fun t => tsWord raw (leafByte w t (leafIdx w (as.headD 0) t) o))).foldl
        (fun p q => (add32 p q).val) a))] := by
  have hfault : (List.range (fld w 41 38 + 1)).any (fun t => decide (2 ^ (fld w 37 35 + 1) ≤ leafIdx w (as.headD 0) t)) = false := by
    rw [List.any_eq_false]
    intro t ht
    simpa using hidx t (List.mem_range.1 ht)
  have hleaves (o : Nat) : (List.range (fld w 41 38 + 1)).map (fun t =>
      if leafIdx w (as.headD 0) t < 2 ^ (fld w 37 35 + 1) then tsWord raw (leafByte w t (leafIdx w (as.headD 0) t) o) else 0)
        = (List.range (fld w 41 38 + 1)).map (fun t => tsWord raw (leafByte w t (leafIdx w (as.headD 0) t) o)) :=
    List.map_congr_left fun t ht => if_pos (hidx t (List.mem_range.1 ht))
  have hbias (o : Nat) : (if bit w 26 then norm32 (lane (bs.headD 0) o)
      else if bit w 5 = false then norm32 (lane (raw (fld w 15 6)) o) else Num.ret 0 : Num Nat).plain :=
    Num.plain_ite _ _ (norm32_plain _) (Num.plain_ite _ _ (norm32_plain _) (Num.plain_ret _))
  have hsum (o : Nat) := Num.plain_seq _ _ (hbias o) fun a => accumulate_plain a ((List.range (fld w 41 38 + 1)).map (fun t =>
    tsWord raw (leafByte w t (leafIdx w (as.headD 0) t) o)))
  have hret : ∀ ls : List Nat, (Num.ret [beatOf ls]).plain := fun _ => Num.plain_ret _
  have hall := Num.plain_seq _ _ (Num.plain_all _ (List.range (fld w 34 32 + 1)) hsum) hret
  unfold leafBeats
  simp only [hfault, hleaves]
  refine ⟨Num.plain_seq _ _ operandFault_false_plain fun _ => hall, ?_⟩
  rw [Num.val_seq _ _ fun _ => hall, Num.val_seq _ _ hret, Num.val_all _ _ hsum]
  refine congrArg (fun ls => [beatOf ls]) (List.map_congr_left fun o _ => ?_)
  rw [Num.val_seq _ _ fun a => accumulate_plain a _, accumulate, Num.val_fold _ _ _ add32_plain]
  split
  · rfl
  · split <;> rfl

/-- Settles O10: what each operation's computation answers. -/
theorem vectorReductions : Obligations.VectorReductions := by
  unfold Obligations.VectorReductions
  intro s x hf hs w raw nb ba qa qb out tr
  refine ⟨fun hop htr => ?_, fun hop hsub => ?_, fun hop hsub => ?_, fun hop => ?_, fun hop => ?_, fun hop => ?_⟩
  · refine plain_yields s _ x (fun w => opc w == 8) actOp T.FAB_VEC_SAT T.FAB_VEC_FLUSH noReads
      (fun _ _ _ as _ => Num.ret [((List.range (fld w 32 28 + 1)).map (fun l =>
        (byteAt tr.bytes (elem (as.headD 0) (fmtWidth (fld w 41 38)) (fld w 27 20 + l))).toNat
          % 2 ^ fmtWidth (fld w 37 34) * 2 ^ (fmtWidth (fld w 37 34) * (fld w 19 12 + l)))).sum]) _
      hf hs rfl (by simp [hop, w]) ?_ ⟨Num.plain_ret _, rfl⟩ (by simp [shapeOf, hop, w])
    unfold actOp
    dsimp only
    rw [Die.eccRead_clean _ _ _ _ _ _ hs.1 hs.2.1, show (KMap.get {} (s.die.ctx x.tile x.ctx).tr (fld x.w 33 33)).poison = false from htr]
    rfl
  · refine lanes_yields s _ x (fun w => opc w == 17 && fld w 36 34 == 0) normAffineOp T.FAB_VEC_SAT T.FAB_VEC_FLUSH
      (fun _ _ _ _ => span ba (ba + 2 * nb))
      (fun raw _ _ as _ => (lanesOf as).zip ((lanesOf ((span ba (ba + nb)).map raw)).zip (lanesOf ((span (ba + nb) (ba + 2 * nb)).map raw))))
      (fun p => affine32 p.1 p.2.1 p.2.2) nb _ hf hs rfl (by simp [w] at hop hsub; simp [hop, hsub]) rfl (fun p => affine32_plain _ _ _) rfl ?_
    simp [shapeOf, hop, nb, w]
  · have hret : ∀ ls : List Nat, (Num.ret (beatsOf (fld w 41 39 + 1) ls)).plain := fun _ => Num.plain_ret _
    refine plain_yields s _ x (fun w => opc w == 17 && fld w 36 34 == 1) normLayerOp T.FAB_VEC_SAT T.FAB_VEC_FLUSH noReads
      (fun _ _ _ as _ => Num.seq (layer32 (lanesOf as) (fld w 31 0)) (fun ls => Num.ret (beatsOf (fld w 41 39 + 1) ls))) _
      hf hs rfl (by simp [w] at hop hsub; simp [hop, hsub]) rfl
      ⟨Num.plain_seq _ _ (layer32_plain _ _) hret, Num.val_seq _ _ hret⟩ (by simp [shapeOf, hop, w, nb])
  · exact plain_yields s _ x (fun w => opc w == 18) argmaxOp T.FAB_VEC_SAT T.FAB_VEC_FLUSH noReads
      (fun _ _ _ as _ => argmaxLanes (lanesOf as)) _ hf hs rfl (by simp [hop, w]) rfl (argmaxLanes_spec _) (by simp [shapeOf, hop, w])
  · exact plain_yields s _ x (fun w => opc w == 19) treeOp _ _ _ _ _ hf hs rfl (by simp [hop, w]) (treeOp_arith _ _ _)
      ⟨Num.plain_ret _, Num.val_ret [treeBeat raw w qa]⟩ (by simp [shapeOf, hop, w])
  · intro idx nt hidx
    exact plain_yields s _ x (fun w => opc w == 20) leafOp _ _ _ _ _ hf hs rfl (by simp [hop, w]) (leafOp_arith _ _ _)
      (leafBeats_spec hidx) (by simp [shapeOf, hop, w])
end Sys2Proof.Machine
end

section
/-! SUPPORT. The expansion and MAC units: records and their beats, weights and taps (R164, R184 to R189). -/

namespace Sys2Proof.Machine

@[simp] theorem length_recordBeats (n : Nat) (rs : List Nat) : (recordBeats n rs).length = n := by
  induction n generalizing rs with
  | zero => rfl
  | succ n ih => simp [recordBeats, ih]

theorem dotWeight_plain (raw : Nat → Nat) (w boff j i : Nat) : (dotWeight raw w boff j i).plain := expand_plain _ _ _

theorem dotWeights_plain (raw : Nat → Nat) (w boff : Nat) : (dotWeights raw w boff).plain :=
  Num.plain_all _ _ fun j => Num.plain_all _ _ (dotWeight_plain raw w boff j)

theorem expandTaps_plain (f K : Nat) (vs : List Nat) : (expandTaps f K vs).plain := Num.plain_all _ _ fun _ => expand_plain _ _ _

/-- What DOTA computes from its weights and its window's taps (R187). -/
def dotaBeats (raw : Nat → Nat) (w : Nat) (x : Fire) (boff : Nat) (m : List Nat) : Num (List Nat) :=
  Num.seq (dotWeights raw w boff) (fun ws =>
    let fa := fld w 37 34
    let K := (fld w 33 30 + 1) * classN (pairWidth (fld w 41 38) fa)
    Num.seq (expandTaps fa K ((dotaTaps x m).map raw)) (fun as =>
      Num.ret (recordBeats (cdiv (dotRecords w) 4) (dotRecs K (gOf w) ws as))))

theorem dotaOp_arith (fu : Fused) (x : Fire) (d : Die) : dotaOp fu x d = arith T.FAB_SCALE_SAT T.FAB_FLUSH_ZERO
    (fun _ y _ m => dotReads x.w (fireBank d x (slotA d x) (fld x.w 24 15)) ++ dotaTaps y m)
    (fun raw y _ m _ => dotaBeats raw x.w y (fireBank d x (slotA d x) (fld x.w 24 15)) m) fu x d := rfl

theorem dotaBeats_spec (raw : Nat → Nat) (w : Nat) (x : Fire) (boff : Nat) (m : List Nat) :
    (dotaBeats raw w x boff m).plain ∧ (dotaBeats raw w x boff m).val =
      let K := (fld w 33 30 + 1) * classN (pairWidth (fld w 41 38) (fld w 37 34))
      recordBeats (cdiv (dotRecords w) 4) (dotRecs K (gOf w) (dotWeights raw w boff).val
        (expandTaps (fld w 37 34) K ((dotaTaps x m).map raw)).val) := by
  have hret (ws : List (List Xop)) (K : Nat) (as : List Xop) :
      (Num.ret (recordBeats (cdiv (dotRecords w) 4) (dotRecs K (gOf w) ws as))).plain := Num.plain_ret _
  have htaps (ws : List (List Xop)) (K : Nat) := Num.plain_seq _ _ (expandTaps_plain (fld w 37 34) K ((dotaTaps x m).map raw)) (hret ws K)
  refine ⟨Num.plain_seq _ _ (dotWeights_plain _ _ _) fun ws => htaps ws _, ?_⟩
  unfold dotaBeats
  rw [Num.val_seq _ _ fun ws => htaps ws _, Num.val_seq _ _ (hret _ _)]
  rfl

/-- One product of DWC: weight `t` of channel `j` and the channel's code of tap `t` (R189). -/
def dwcTap (raw : Nat → Nat) (w : Nat) (x : Fire) (boff : Nat) (m : List Nat) (j t : Nat) : Num (Xop × Xop) :=
  Num.seq (expand (fld w 41 38) (tsCode raw (fld w 25 16 + boff) (fmtWidth (fld w 41 38)) (j * (fld w 33 29 + 1) + t))
      (raw (fld w 25 16 - 1 + boff))) (fun ww =>
    Num.seq (expand (fld w 37 34) (elem (raw (winBeat x (fld w 28 26) m t)) (fmtWidth (fld w 37 34)) (fld w 10 3 + j)) 0)
      (fun aa => Num.ret (ww, aa)))

/-- What DWC computes, a group sum for each channel (R189). -/
def dwcBeats (raw : Nat → Nat) (w : Nat) (x : Fire) (boff : Nat) (m : List Nat) : Num (List Nat) :=
  Num.seq (Num.all (fun j => Num.all (dwcTap raw w x boff m j) (List.range (fld w 33 29 + 1))) (List.range (fld w 15 11 + 1)))
    (fun ps => Num.ret (recordBeats (cdiv (fld w 15 11 + 1) 4) (ps.map (fun p => gsRecord (groupSum p)))))

theorem dwcOp_arith (fu : Fused) (x : Fire) (d : Die) : dwcOp fu x d = arith T.FAB_SCALE_SAT T.FAB_FLUSH_ZERO
    (fun _ y _ m => (if fld x.w 41 38 = 3 ∨ fld x.w 41 38 = 6 then [fld x.w 25 16 - 1 + fireBank d x (slotA d x) (fld x.w 25 16)] else [])
      ++ span (fld x.w 25 16 + fireBank d x (slotA d x) (fld x.w 25 16)) (fld x.w 25 16 + fireBank d x (slotA d x) (fld x.w 25 16)
        + cdiv ((fld x.w 15 11 + 1) * (fld x.w 33 29 + 1) * fmtWidth (fld x.w 41 38)) 256)
      ++ (List.range (fld x.w 33 29 + 1)).map (winBeat y (fld x.w 28 26) m))
    (fun raw y _ m _ => dwcBeats raw x.w y (fireBank d x (slotA d x) (fld x.w 25 16)) m) fu x d := rfl

theorem dwcTap_spec (raw : Nat → Nat) (w : Nat) (x : Fire) (boff : Nat) (m : List Nat) (j t : Nat) :
    (dwcTap raw w x boff m j t).plain ∧ (dwcTap raw w x boff m j t).val =
      ((expand (fld w 41 38) (tsCode raw (fld w 25 16 + boff) (fmtWidth (fld w 41 38)) (j * (fld w 33 29 + 1) + t))
          (raw (fld w 25 16 - 1 + boff))).val,
        (expand (fld w 37 34) (elem (raw (winBeat x (fld w 28 26) m t)) (fmtWidth (fld w 37 34)) (fld w 10 3 + j)) 0).val) := by
  have hret (ww : Xop) : ∀ aa : Xop, (Num.ret (ww, aa)).plain := fun _ => Num.plain_ret _
  have htap (ww : Xop) := Num.plain_seq _ _
    (expand_plain (fld w 37 34) (elem (raw (winBeat x (fld w 28 26) m t)) (fmtWidth (fld w 37 34)) (fld w 10 3 + j)) 0) (hret ww)
  refine ⟨Num.plain_seq _ _ (expand_plain _ _ _) htap, ?_⟩
  unfold dwcTap
  rw [Num.val_seq _ _ htap, Num.val_seq _ _ (hret _)]
  rfl

theorem dwcBeats_spec (raw : Nat → Nat) (w : Nat) (x : Fire) (boff : Nat) (m : List Nat) :
    (dwcBeats raw w x boff m).plain ∧ (dwcBeats raw w x boff m).val =
      recordBeats (cdiv (fld w 15 11 + 1) 4) ((List.range (fld w 15 11 + 1)).map (fun j =>
        gsRecord (groupSum ((List.range (fld w 33 29 + 1)).map (fun t => (dwcTap raw w x boff m j t).val))))) := by
  have htaps (j : Nat) := Num.plain_all _ (List.range (fld w 33 29 + 1)) fun t => (dwcTap_spec raw w x boff m j t).1
  have hret (ps : List (List (Xop × Xop))) :
      (Num.ret (recordBeats (cdiv (fld w 15 11 + 1) 4) (ps.map (fun p => gsRecord (groupSum p))))).plain := Num.plain_ret _
  refine ⟨Num.plain_seq _ _ (Num.plain_all _ _ htaps) hret, ?_⟩
  unfold dwcBeats
  rw [Num.val_seq _ _ hret, Num.val_all _ _ htaps, Num.val_ret, List.map_map]
  congr 1
  refine List.map_congr_left fun j _ => ?_
  rw [Function.comp_apply, Num.val_all _ _ fun t => (dwcTap_spec raw w x boff m j t).1]

/-- A firing whose operation leaves its own queues, counts and store as QA's and QB's beats left them: what QD gains. -/
theorem yields_of_die (s : State) (c : Instr) (x : Fire) (hf : s.fires x) (bs st : List QBeat) (b : Bool) (sl : Nat) (e : Die)
    (hq : ∀ q, e.queue x.tile x.ctx q = s.die.rest x q) (hfi : e.fires x.tile x.ctx x.op = s.die.fires x.tile x.ctx x.op)
    (hst : (e.tile x.tile).store = (s.die.tile x.tile).store) (hr : e.rows = s.die.rows) (hd : e.dir = s.die.dir)
    (hc : exec c s = .next { s with die := e.finish x ⟨[(opCtx x.w, opQd x.w, bs)], sl, b, st⟩ }) : s.yields c x bs := by
  obtain ⟨f1, -, f3, f4, -, f6, f7, -⟩ := Die.finish_tiles x ⟨[(opCtx x.w, opQd x.w, bs)], sl, b, st⟩ e
  simp only [List.foldl_cons, List.foldl_nil, hf.2.2.2.2.2.2] at f1 f3 f4 f6 f7
  refine ⟨_, hc, ?_, fun q => ?_, ?_, rfl, ?_, ?_⟩
  all_goals simp only [hf.2.2.2.2.2.2]
  · rw [f3, Die.push, Die.fires_setQueue, hfi]
  · rw [f1]
    by_cases hqd : q = opQd x.w
    · subst hqd; rw [Die.queue_push_same, hq, if_pos rfl]
    · rw [Die.queue_push_other _ _ _ _ _ _ hqd, hq, if_neg hqd, List.append_nil]
  · rw [f4]; simp only [Die.push, Die.store_setQueue, hst]
  · rw [f6]; simpa using hr
  · rw [f7]; simpa using hd

/-- DOT after its weights' reads (R186): the buffer it reads has one consumer less. -/
def dotRead (x : Fire) (d : Die) : Die := d.onCtx x.tile x.ctx (fun c =>
  let b := KMap.get {} c.bufs c.rptr
  { c with bufs := KMap.set {} c.bufs c.rptr { b with left := b.left - 1 }, rptr := if b.left ≤ 1 then 1 - c.rptr else c.rptr })

@[simp] theorem Die.store_onCtx (d : Die) (t c : Nat) (f : CtxSt → CtxSt) : ((d.onCtx t c f).tile t).store = (d.tile t).store := by
  simp [Die.onCtx]

/-- DOT takes from no queue and is no firing yet. -/
theorem dotRead_queue (x : Fire) (d : Die) (q : Nat) : (dotRead x d).queue x.tile x.ctx q = d.queue x.tile x.ctx q := by
  rw [Die.queue, dotRead, Die.ctx_onCtx_same]; rfl

theorem dotRead_fires (x : Fire) (d : Die) : (dotRead x d).fires x.tile x.ctx x.op = d.fires x.tile x.ctx x.op := by
  rw [Die.fires, dotRead, Die.ctx_onCtx_same]; rfl

/-- DOT whose entries are of one slot and clean, where nothing it reads is in error. -/
theorem dotOp_clean (s : State) (x : Fire) (hs : s.sound x) :
    let w := x.w
    let K := (fld w 33 30 + 1) * classN (pairWidth (fld w 41 38) (fld w 37 34))
    let c := s.die.ctx x.tile x.ctx
    let ents := (List.range (cdiv K (epb (fld w 37 34)))).map (fun i => KMap.get {} (KMap.get {} c.bufs c.rptr).ents (fld w 29 27 + i))
    let slot := match ents with | y :: _ => y.slot | [] => 0
    (∀ y ∈ ents, y.slot = slot ∧ y.poison = false) →
    ∃ n, dotOp s.fused x s.die = (⟨[(opCtx w, opQd w, outBeats slot false (recordBeats (cdiv (dotRecords w) 4)
        (dotRecs K (gOf w) (dotWeights (s.die.beat x.tile) w ((s.die.slotSt x slot).wb * bankOff x (fld w 24 15))).val
          (ents.flatMap (fun y => y.ops)))))], slot, true, []⟩, (dotRead x s.die).countBy T.FAB_CODE_SPECIAL x.p n) := by
  intro w K c ents slot hents
  have hmis : ents.any (fun y => y.slot != slot) = false := by
    rw [List.any_eq_false]; intro y hy; simp [(hents y hy).1]
  have hpoi : ents.any (fun y => y.poison) = false := by
    rw [List.any_eq_false]; intro y hy; simp [(hents y hy).2]
  have hbeat : (dotRead x s.die).beat x.tile = s.die.beat x.tile := by funext b; simp [Die.beat, dotRead, Die.onCtx]
  have hslot : (dotRead x s.die).slotSt x slot = s.die.slotSt x slot := rfl
  refine ⟨(dotWeights (s.die.beat x.tile) w ((s.die.slotSt x slot).wb * bankOff x (fld w 24 15)) {}).2.special, ?_⟩
  unfold dotOp
  extract_lets fa' K' buf ents' slot' mis d1 eb d2 boff' raw' r ws bad recs d3
  have h1 : mis = false := hmis
  have h2 : eb = (false, s.die) := by
    simp only [eb, d1, h1, Bool.false_eq_true, if_false]
    exact Die.eccRead_clean _ _ _ _ _ _ hs.1 hs.2.1
  have h3 : d2 = dotRead x s.die := by simp only [d2, h2]; rfl
  have h4 : r = (false, dotRead x s.die) := by
    simp only [r, h3]
    exact Die.readBeats_clean _ _ _ _ hs.1 hs.2.1
  have hpoi' : ents'.any (fun y => y.poison) = false := hpoi
  have h5 : bad = false := by simp only [bad, h1, h2, h4, hpoi', Bool.or_self]
  have h6 : ws = dotWeights (s.die.beat x.tile) w ((s.die.slotSt x slot).wb * bankOff x (fld w 24 15)) {} := by
    simp only [ws, raw', boff', h3, hbeat]; rfl
  simp only [d3, h5, h4, recs, h6, Bool.false_eq_true, if_false]
  rfl

/-- The entries that EXPAND makes of beats of codes (R185). -/
def expandEnt (f : Nat) (b : QBeat) : Num AxEnt :=
  Num.seq (Num.all (fun i => expand f (elem b.data.toNat (fmtWidth f) i) 0) (List.range (epb f))) (fun ops => Num.ret (⟨ops, f, b.slot, b.poison⟩ : AxEnt))

theorem expandEnt_spec (f : Nat) (b : QBeat) : (expandEnt f b).plain ∧ (expandEnt f b).val =
    ⟨(List.range (epb f)).map (fun i => (expand f (elem b.data.toNat (fmtWidth f) i) 0).val), f, b.slot, b.poison⟩ := by
  have hret : ∀ ops : List Xop, (Num.ret (⟨ops, f, b.slot, b.poison⟩ : AxEnt)).plain := fun _ => Num.plain_ret _
  have hall (i : Nat) := expand_plain f (elem b.data.toNat (fmtWidth f) i) 0
  refine ⟨Num.plain_seq _ _ (Num.plain_all _ _ hall) hret, ?_⟩
  unfold expandEnt
  rw [Num.val_seq _ _ hret, Num.val_all _ _ hall, Num.val_ret]

/-- The context after EXPAND: the buffer of the write pointer has the entries and their consumers, and the pointer moves on (R184). -/
def expandCtx (w : Nat) (es : List AxEnt) (c : CtxSt) : CtxSt := { c with
  bufs := KMap.upd {} c.bufs c.wptr (fun y => ⟨KMap.setRange {} y.ents (fld w 35 34) es, fld w 33 32 + 1⟩), wptr := 1 - c.wptr }

/-- EXPAND where nothing it reads is in error. -/
theorem expandOp_clean (s : State) (x : Fire) (hs : s.sound x) :
    ∃ k e : Die, s.die.take s.fused x = (⟨s.die.qa x, s.die.qb x, s.die.slotIn x, false⟩, k) ∧ e.tiles = k.tiles ∧ e.rows = k.rows
      ∧ expandOp s.fused x s.die = (⟨[], s.die.slotIn x, true, []⟩,
        e.onCtx x.tile x.ctx (expandCtx x.w ((s.die.qa x).map (fun b => (expandEnt (fld x.w 41 38) b).val)))) := by
  obtain ⟨k, h1, -⟩ := Die.take_sound s x hs
  unfold expandOp
  extract_lets f k0 es d1 d2 d3
  have hk : k0 = (⟨s.die.qa x, s.die.qb x, s.die.slotIn x, false⟩, k) := h1
  have hes : es.1 = (s.die.qa x).map (fun b => (expandEnt f b).val) := by
    show (Num.all (expandEnt f) k0.1.a).val = _
    rw [hk, Num.val_all _ _ fun b => (expandEnt_spec f b).1]
  have hd1 : d1 = k.countBy T.FAB_CODE_SPECIAL x.p es.2.special := by simp only [d1, hk, Bool.false_eq_true, if_false]
  refine ⟨k, d2, h1, ?_, ?_, ?_⟩
  · simp [d2, hd1, Die.eccClear]
  · simp [d2, hd1, Die.eccClear]
  · rw [← hes, show k0.1.slot = s.die.slotIn x by rw [hk]]
    rfl

/-- Settles O11: EXPAND by the context it leaves, DOT by its entries, DOTA and DWC by what their weights and taps answer. -/
theorem multiplyUnits : Obligations.MultiplyUnits := by
  unfold Obligations.MultiplyUnits
  intro s x hf hs w raw qa c fw fa K recs
  refine ⟨fun hop => ?_, fun hop => ?_, fun hop => ?_, fun hop => ?_⟩
  · obtain ⟨k, e, h1, h2, h3, h4⟩ := expandOp_clean s x hs
    obtain ⟨k', g1, g2, g3, -, -, g5, g6⟩ := Die.take_sound s x hs
    have hk : k' = k := by rw [h1] at g1; exact (Prod.mk.inj g1).2.symm
    subst hk
    simp only [(expandEnt_spec _ _).2] at h4
    have hctx : e.ctx x.tile x.ctx = k'.ctx x.tile x.ctx := by simp [Die.ctx, Die.tile, h2]
    obtain ⟨f1, -, f3, f4, -, f6, -, f8⟩ := Die.finish_tiles x ⟨[], s.die.slotIn x, true, []⟩
      (e.onCtx x.tile x.ctx (expandCtx x.w ((s.die.qa x).map (fun b => (⟨(List.range (epb fw)).map
        (fun i => (expand fw (elem b.data.toNat (fmtWidth fw) i) 0).val), fw, b.slot, b.poison⟩ : AxEnt)))))
    simp only [List.foldl_nil] at f1 f3 f4 f6 f8
    refine ⟨_, tileCmd_fires (fun w => opc w == 4) expandOp s x hf (by simp [hop, w]), ?_⟩
    rw [h4]
    refine ⟨?_, ?_, ?_, fun q => ?_, ?_, ?_, rfl, ?_⟩
    · rw [f8, Die.ctx_onCtx_same, hctx, g6]; rfl
    · rw [f8, Die.ctx_onCtx_same, hctx, g6]; simp [expandCtx, c, w]
    · rw [f8, Die.ctx_onCtx_same, hctx, g6]
      have hents : (s.die.qa x).map (fun b => (⟨(List.range (epb fw)).map (fun i => (expand fw (elem b.data.toNat (fmtWidth fw) i) 0).val),
          fw, b.slot, b.poison⟩ : AxEnt)) = (s.die.qa x).map (fun b => ⟨(List.range (epb fw)).map
            (fun i => (expand fw (elem b.data.toNat (fmtWidth fw) i) 0).val), fw, b.slot, false⟩) :=
        List.map_congr_left fun b hb => by rw [(hs.2.2.1 b (List.mem_append_left _ hb)).1]
      rw [hents]
      simp [expandCtx, c, w]
    · rw [f1, Die.queue, Die.ctx_onCtx_same, hctx]; exact g3 q
    · rw [f4, Die.store_onCtx, Die.tile_congr e k' h2, g5]
    · rw [f3, Die.fires, Die.ctx_onCtx_same, hctx, g6]; rfl
    · rw [f6]; simp [h3]; rw [g2]
  · intro ents slot hents
    obtain ⟨n, hdot⟩ := dotOp_clean s x hs hents
    refine yields_of_die s _ x hf _ [] true slot ((dotRead x s.die).countBy T.FAB_CODE_SPECIAL x.p n) ?_ ?_ ?_ ?_ ?_
      ((tileCmd_fires (fun w => opc w == 1) dotOp s x hf (by simp [hop, w])).trans (by rw [hdot] <;> rfl))
    · intro q
      have hqa : s.die.qa x = [] := by simp [Die.qa, Fire.need, shapeOf, show opc x.w = 1 from hop]
      have hqb : s.die.qb x = [] := by simp [Die.qb, Fire.need, shapeOf, show opc x.w = 1 from hop]
      rw [Die.queue_congr _ (dotRead x s.die) (by simp), dotRead_queue, Die.rest, hqa, hqb]
      simp
    · rw [Die.fires, Die.ctx, Die.tile_congr _ (dotRead x s.die) (by simp)]
      exact dotRead_fires x s.die
    · rw [Die.tile_congr _ (dotRead x s.die) (by simp), dotRead, Die.store_onCtx]
    · simp [dotRead]
    · simp [dotRead]
  · exact plain_yields s _ x (fun w => opc w == 2) dotaOp _ _ _ _ _ hf hs rfl (by simp [hop, w]) (dotaOp_arith _ _ _)
      (dotaBeats_spec _ _ _ _ _) (by simp [shapeOf, hop, w])
  · intro boff n taps
    have hv := (dwcBeats_spec raw w x boff qa)
    simp only [(dwcTap_spec raw w x boff qa _ _).2] at hv
    exact plain_yields s _ x (fun w => opc w == 3) dwcOp _ _ _ _ _ hf hs rfl (by simp [hop, w]) (dwcOp_arith _ _ _)
      hv (by simp [shapeOf, show opc x.w = 3 from hop, w, n])
end Sys2Proof.Machine
end

section
/-! SUPPORT. The scale unit: group values, their sums onto a bias, and codes (R167 to R169, R190 to R192). -/

namespace Sys2Proof.Machine

/-- The scaled value of one group-sum record, with its group and output (R190). -/
def scalegOne (raw : Nat → Nat) (w par : Nat) (y : Nat × Nat) : Num Nat :=
  let jk := scalegJK w y.1
  let sc := combinedScale raw (fld w 15 6) par jk.1 jk.2
  let S := sext (bits y.2 0 48) 48
  let X := sext (bits y.2 48 16) 16
  Num.seq (if S = 0 ∨ sc.1 = 0 then Num.ret 0 else round32 (decide (S < 0)) (S.natAbs * sc.1) (X - 24 + sc.2)) (fun g =>
    Num.ret (g + jk.2 % 2 ^ 16 * 2 ^ 32 + jk.1 % 2 ^ 8 * 2 ^ 48))

/-- What SCALEG computes. -/
def scalegBeats (raw : Nat → Nat) (w par : Nat) (as : List Nat) : Num (List Nat) :=
  Num.seq (Num.all (scalegOne raw w par) ((List.range (fld w 41 37 + 1)).zip (recordsOf as)))
    (fun rs => Num.ret (recordBeats (cdiv (fld w 41 37 + 1) 4) rs))

theorem scalegOp_arith (fu : Fused) (x : Fire) (d : Die) : scalegOp fu x d = arith T.FAB_SCALE_SAT T.FAB_FLUSH_ZERO
    (fun raw _ par _ => fld x.w 15 6 :: (List.range (fld x.w 41 37 + 1)).flatMap (fun r =>
      let jk := scalegJK x.w r
      let s := scaleAt raw (fld x.w 15 6) par jk.1 jk.2
      [s.xa, s.xa + s.da / 256, s.entry / 32]))
    (fun raw _ par as _ => scalegBeats raw x.w par as) fu x d := rfl

theorem scalegOne_spec (raw : Nat → Nat) (w par : Nat) (y : Nat × Nat) :
    (scalegOne raw w par y).plain ∧ (scalegOne raw w par y).val =
      let j := fld w 23 16 + y.1 % (fld w 36 32 + 1)
      let k := fld w 31 24 + y.1 / (fld w 36 32 + 1)
      let sc := combinedScale raw (fld w 15 6) par j k
      let S := sext (bits y.2 0 48) 48
      let X := sext (bits y.2 48 16) 16
      (if S = 0 ∨ sc.1 = 0 then 0 else (round32 (decide (S < 0)) (S.natAbs * sc.1) (X - 24 + sc.2)).val) + k % 2 ^ 16 * 2 ^ 32 + j % 2 ^ 8 * 2 ^ 48 := by
  unfold scalegOne
  extract_lets jk sc S X j k sc'
  have hret : ∀ g : Nat, (Num.ret (g + jk.2 % 2 ^ 16 * 2 ^ 32 + jk.1 % 2 ^ 8 * 2 ^ 48)).plain := fun _ => Num.plain_ret _
  refine ⟨Num.plain_seq _ _ (Num.plain_ite _ _ (Num.plain_ret _) (round32_plain _ _ _)) hret, ?_⟩
  rw [Num.val_seq _ _ hret, Num.val_ret]
  have hsc : sc' = sc := rfl
  rw [hsc]
  by_cases hz : S = 0 ∨ sc.1 = 0
  · rw [if_pos hz, if_pos hz]; rfl
  · rw [if_neg hz, if_neg hz]; rfl

theorem scalegBeats_spec (raw : Nat → Nat) (w par : Nat) (as : List Nat) :
    (scalegBeats raw w par as).plain ∧ (scalegBeats raw w par as).val = recordBeats (cdiv (fld w 41 37 + 1) 4)
      (((List.range (fld w 41 37 + 1)).zip (recordsOf as)).map (fun y => (scalegOne raw w par y).val)) := by
  have hone (y : Nat × Nat) := (scalegOne_spec raw w par y).1
  have hret : ∀ rs : List Nat, (Num.ret (recordBeats (cdiv (fld w 41 37 + 1) 4) rs)).plain := fun _ => Num.plain_ret _
  refine ⟨Num.plain_seq _ _ (Num.plain_all _ _ hone) hret, ?_⟩
  unfold scalegBeats
  rw [Num.val_seq _ _ hret, Num.val_all _ _ hone, Num.val_ret]

/-- A list without repetition loses nothing to the erasure of repetitions. -/
theorem eraseDups_of_nodup {l : List Nat} (h : l.Nodup) : l.eraseDups = l := by
  induction l with
  | nil => rfl
  | cons a l ih =>
    obtain ⟨hmem, hl⟩ := List.nodup_cons.1 h
    have hfilter : l.filter (fun b => !b == a) = l :=
      List.filter_eq_self.2 fun b hb => by simpa using fun hba : b = a => hmem (hba ▸ hb)
    rw [List.eraseDups_cons, hfilter, ih hl]

/-- The records of ACCF: output, group and value (R191). -/
def accfRecs (w : Nat) (bs : List Nat) : List (Nat × Nat × Nat) :=
  ((recordsOf bs).take (fld w 41 36 + 1)).map (fun v => (bits v 48 8, bits v 32 16, bits v 0 32))

/-- The values of an output's groups, in ascending group order (R169). -/
def accfGroups (w : Nat) (recs : List (Nat × Nat × Nat)) (o : Nat) : List Nat :=
  (List.range ((fld w 41 36 + 1) / (fld w 35 33 + 1))).map (fun k =>
    match recs.find? (fun r => r.1 == fld w 32 25 + o && r.2.1 == k) with | some r => r.2.2 | none => 0)

/-- Whether a record of ACCF names an output or a group that it has not, or two records name the same. -/
def accfBad (w : Nat) (recs : List (Nat × Nat × Nat)) : Bool :=
  recs.any (fun r => decide (r.1 < fld w 32 25) || decide (fld w 32 25 + (fld w 35 33 + 1) ≤ r.1)
      || decide ((fld w 41 36 + 1) / (fld w 35 33 + 1) ≤ r.2.1))
    || (recs.map (fun r => r.1 * 65536 + r.2.1)).eraseDups.length != (recs.map (fun r => r.1 * 65536 + r.2.1)).length

/-- One output of ACCF. -/
def accfOne (raw : Nat → Nat) (w : Nat) (x : Fire) (par : Nat) (recs : List (Nat × Nat × Nat)) (o : Nat) : Num Nat :=
  Num.seq (if bit w 6 then Num.ret 0 else norm32 (lane (raw (biasBeat x par)) o)) (fun b => accumulate b (accfGroups w recs o))

/-- What ACCF computes. -/
def accfBeats (raw : Nat → Nat) (w : Nat) (x : Fire) (par : Nat) (recs : List (Nat × Nat × Nat)) : Num (List Nat) :=
  Num.seq (operandFault (accfBad w recs)) (fun _ =>
    Num.seq (Num.all (accfOne raw w x par recs) (List.range (fld w 35 33 + 1))) (fun ls => Num.ret [beatOf ls]))

theorem accfOp_arith (fu : Fused) (x : Fire) (d : Die) : accfOp fu x d = arith T.FAB_ACC_SAT T.FAB_FLUSH_ZERO
    (fun _ y par _ => if bit x.w 6 then [] else [biasBeat y par])
    (fun raw y par as bs => accfBeats raw x.w y par (accfRecs x.w (as ++ bs))) fu x d := rfl

theorem accfBad_false {w : Nat} {recs : List (Nat × Nat × Nat)}
    (hrecs : ∀ r ∈ recs, fld w 32 25 ≤ r.1 ∧ r.1 < fld w 32 25 + (fld w 35 33 + 1) ∧ r.2.1 < (fld w 41 36 + 1) / (fld w 35 33 + 1))
    (hkeys : (recs.map (fun r => r.1 * 65536 + r.2.1)).Nodup) : accfBad w recs = false := by
  unfold accfBad
  rw [eraseDups_of_nodup hkeys, bne_self_eq_false, Bool.or_false, List.any_eq_false]
  intro r hr
  obtain ⟨h1, h2, h3⟩ := hrecs r hr
  simp only [Bool.or_eq_true, decide_eq_true_eq]
  omega

theorem accfOne_spec (raw : Nat → Nat) (w : Nat) (x : Fire) (par : Nat) (recs : List (Nat × Nat × Nat)) (o : Nat) :
    (accfOne raw w x par recs o).plain ∧ (accfOne raw w x par recs o).val =
      (accfGroups w recs o).foldl (fun p q => (add32 p q).val) (if bit w 6 then 0 else (norm32 (lane (raw (biasBeat x par)) o)).val) := by
  have hsum (b : Nat) := accumulate_plain b (accfGroups w recs o)
  refine ⟨Num.plain_seq _ _ (Num.plain_ite _ _ (Num.plain_ret _) (norm32_plain _)) hsum, ?_⟩
  unfold accfOne
  rw [Num.val_seq _ _ hsum, accumulate, Num.val_fold _ _ _ add32_plain]
  split <;> rfl

theorem accfBeats_spec (raw : Nat → Nat) (w : Nat) (x : Fire) (par : Nat) {recs : List (Nat × Nat × Nat)} (hbad : accfBad w recs = false) :
    (accfBeats raw w x par recs).plain ∧ (accfBeats raw w x par recs).val =
      [beatOf ((List.range (fld w 35 33 + 1)).map (fun o => (accfOne raw w x par recs o).val))] := by
  have hone (o : Nat) := (accfOne_spec raw w x par recs o).1
  have hret : ∀ ls : List Nat, (Num.ret [beatOf ls]).plain := fun _ => Num.plain_ret _
  have hall := Num.plain_seq _ _ (Num.plain_all _ (List.range (fld w 35 33 + 1)) hone) hret
  unfold accfBeats
  rw [hbad]
  refine ⟨Num.plain_seq _ _ operandFault_false_plain fun _ => hall, ?_⟩
  rw [Num.val_seq _ _ fun _ => hall, Num.val_seq _ _ hret, Num.val_all _ _ hone, Num.val_ret]

theorem qfloat_plain (f : Nat) (s : Bool) (n : Nat) (e : Int) : (qfloat f s n e).plain := fun t => by
  unfold qfloat Num.val; dsimp only; repeat' split
  all_goals exact ⟨rfl, rfl⟩

theorem requantLane_plain (f : Nat) (o : Xop) (sh z : Int) : (requantLane f o sh z).plain := fun t => by
  unfold requantLane Num.val; dsimp only
  by_cases hf : f = 0
  · rw [if_pos hf, if_pos hf]; exact ⟨rfl, rfl⟩
  · rw [if_neg hf, if_neg hf]
    split
    · dsimp only; repeat' split
      all_goals exact ⟨rfl, rfl⟩
    · exact qfloat_plain _ _ _ _ t

/-- One lane of RQ: its code, and what an observation of it needs (R192). -/
def rqOne (raw : Nat → Nat) (w par : Nat) (y : Nat × Nat) : Num (Nat × Nat × Nat × Nat × Bool) :=
  let pw := lane (raw (fld w 29 20 + par)) y.1
  Num.seq (norm32 y.2) (fun v => Num.seq (decode32 v) (fun o =>
    Num.seq (requantLane (fld w 41 38) o (sext (bits pw 0 16) 16) (sext (bits pw 16 8) 8)) (fun c => Num.ret (c.1, y.1, v, pw, c.2))))

/-- What RQ computes. -/
def rqBeats (raw : Nat → Nat) (w par : Nat) (as : List Nat) : Num (List Nat) :=
  Num.seq (Num.all (rqOne raw w par) ((List.range 8).zip (lanesOf as))) (fun cs =>
    Num.ret [(cs.map (fun c => c.1 * 2 ^ (fmtWidth (fld w 41 38) * (fld w 37 30 + c.2.1)))).sum])

theorem rqOne_spec (raw : Nat → Nat) (w par : Nat) (y : Nat × Nat) :
    (rqOne raw w par y).plain ∧ (rqOne raw w par y).val.2.1 = y.1 ∧ (rqOne raw w par y).val.1 =
      (requantLane (fld w 41 38) (decode32 (norm32 y.2).val).val (sext (bits (lane (raw (fld w 29 20 + par)) y.1) 0 16) 16)
        (sext (bits (lane (raw (fld w 29 20 + par)) y.1) 16 8) 8)).val.1 := by
  unfold rqOne
  extract_lets pw
  have hret (v : Nat) : ∀ c : Nat × Bool, (Num.ret (c.1, y.1, v, pw, c.2)).plain := fun _ => Num.plain_ret _
  have hquant (v : Nat) (o : Xop) :=
    Num.plain_seq _ _ (requantLane_plain (fld w 41 38) o (sext (bits pw 0 16) 16) (sext (bits pw 16 8) 8)) (hret v)
  have hdec (v : Nat) := Num.plain_seq _ _ (decode32_plain v) (hquant v)
  rw [Num.val_seq _ _ hdec, Num.val_seq _ _ (hquant _), Num.val_seq _ _ (hret _)]
  exact ⟨Num.plain_seq _ _ (norm32_plain _) hdec, rfl, rfl⟩

theorem rqBeats_spec (raw : Nat → Nat) (w par : Nat) (as : List Nat) :
    (rqBeats raw w par as).plain ∧ (rqBeats raw w par as).val =
      [(((List.range 8).zip (lanesOf as)).map (fun y => (rqOne raw w par y).val.1 * 2 ^ (fmtWidth (fld w 41 38) * (fld w 37 30 + y.1)))).sum] := by
  have hone (y : Nat × Nat) := (rqOne_spec raw w par y).1
  have hret : ∀ cs : List (Nat × Nat × Nat × Nat × Bool),
      (Num.ret [(cs.map (fun c => c.1 * 2 ^ (fmtWidth (fld w 41 38) * (fld w 37 30 + c.2.1)))).sum]).plain := fun _ => Num.plain_ret _
  refine ⟨Num.plain_seq _ _ (Num.plain_all _ _ hone) hret, ?_⟩
  unfold rqBeats
  rw [Num.val_seq _ _ hret, Num.val_all _ _ hone, Num.val_ret, List.map_map]
  refine congrArg (fun l => [List.sum l]) (List.map_congr_left fun y _ => ?_)
  rw [Function.comp_apply, (rqOne_spec raw w par y).2.1]

/-- An observation of a lane changes no tile and no row (R269). -/
theorem Die.observeLane_frame (x : Fire) (slot l v sh f : Nat) (z : Int) (b : Bool) (d : Die) :
    (d.observeLane x slot l v sh f z b).tiles = d.tiles ∧ (d.observeLane x slot l v sh f z b).rows = d.rows
      ∧ (d.observeLane x slot l v sh f z b).dir = d.dir := by
  unfold Die.observeLane
  cases obsMap x (fld x.w 29 20) l with
  | none => exact ⟨rfl, rfl, rfl⟩
  | some tg =>
    dsimp only
    repeat' split
    all_goals exact ⟨rfl, rfl, rfl⟩

theorem Die.observeAll_frame (x : Fire) (slot f : Nat) (ys : List (Nat × Nat × Nat × Bool)) (d : Die) :
    (d.observeAll x slot f ys).tiles = d.tiles ∧ (d.observeAll x slot f ys).rows = d.rows ∧ (d.observeAll x slot f ys).dir = d.dir := by
  induction ys generalizing d with
  | nil => exact ⟨rfl, rfl, rfl⟩
  | cons y ys ih =>
    obtain ⟨l, v, pw, c⟩ := y
    obtain ⟨h1, h2, h3⟩ := ih (if bit pw 24 then d.observeLane x slot l v (bits pw 0 16) f (sext (bits pw 16 8) 8) c else d)
    obtain ⟨k1, k2, k3⟩ := Die.observeLane_frame x slot l v (bits pw 0 16) f (sext (bits pw 16 8) 8) c d
    rw [Die.observeAll]
    refine ⟨h1.trans ?_, h2.trans ?_, h3.trans ?_⟩
    · split <;> [exact k1; rfl]
    · split <;> [exact k2; rfl]
    · split <;> [exact k3; rfl]

theorem outBeats_clean (slot : Nat) (vs : List Nat) : (outBeats slot false vs).any (fun b => b.poison) = false := by
  induction vs with
  | nil => rfl
  | cons v vs ih =>
    cases vs with
    | nil => rfl
    | cons u us => simpa [outBeats] using ih

/-- The arithmetic of RQ, before its observations. -/
def rqArith (fu : Fused) (x : Fire) (d : Die) : Out × Die := arith T.FAB_VEC_SAT T.FAB_VEC_FLUSH (fun _ _ par _ => [fld x.w 29 20 + par])
  (fun raw _ par as _ => rqBeats raw x.w par as) fu x d

/-- RQ's outputs are those of its arithmetic; beside them it only observes. -/
theorem rqOp_arith (fu : Fused) (x : Fire) (d : Die) : (rqOp fu x d).1 = (rqArith fu x d).1
    ∧ (rqOp fu x d).2.tiles = (rqArith fu x d).2.tiles ∧ (rqOp fu x d).2.rows = (rqArith fu x d).2.rows
    ∧ (rqOp fu x d).2.dir = (rqArith fu x d).2.dir := by
  unfold rqOp
  extract_lets w f qa one all slot r poisoned par as
  split
  · exact ⟨rfl, rfl, rfl, rfl⟩
  · exact ⟨rfl, Die.observeAll_frame x slot f _ r.2⟩

/-- Settles O12: what each operation's computation answers. -/
theorem scaleUnit : Obligations.ScaleUnit := by
  unfold Obligations.ScaleUnit
  intro s x hf hs w raw par qa qb out
  refine ⟨fun hop => ?_, fun hop => ?_, fun hop hlen => ?_⟩
  · intro n
    have hv := scalegBeats_spec raw w par qa
    simp only [(scalegOne_spec raw w par _).2] at hv
    exact plain_yields s _ x (fun w => opc w == 5) scalegOp _ _ _ _ _ hf hs rfl (by simp [hop, w]) (scalegOp_arith _ _ _)
      hv (by simp [shapeOf, show opc x.w = 5 from hop, w, n])
  · intro nrec nout jb recs hrecs hkeys
    have hv := accfBeats_spec raw w x par (accfBad_false hrecs hkeys)
    simp only [(accfOne_spec raw w x par _ _).2] at hv
    exact plain_yields s _ x (fun w => opc w == 6) accfOp _ _ _ _ _ hf hs rfl (by simp [hop, w]) (accfOp_arith _ _ _)
      hv (by simp [shapeOf, show opc x.w = 6 from hop])
  · intro f pw
    obtain ⟨hplain, hval⟩ := rqBeats_spec raw w par qa
    obtain ⟨e, ⟨k, hk, ht, hr, hd⟩, h⟩ := arith_sound s x hs T.FAB_VEC_SAT T.FAB_VEC_FLUSH (fun _ _ par _ => [fld x.w 29 20 + par])
      (fun raw _ par as _ => rqBeats raw x.w par as) (hplain {}).2
    obtain ⟨h1, h2, h3, h4⟩ := rqOp_arith s.fused x s.die
    rw [rqArith, h] at h1 h2 h3 h4
    have hqa : qa = [qa.headD 0] := by
      have hle : qa.length ≤ 1 := by
        rw [List.length_map]
        exact (Die.length_qa_le s.die x).trans (by simp [Fire.need, shapeOf, show opc x.w = 7 from hop])
      obtain ⟨v, hv⟩ := List.length_eq_one_iff.1 (le_antisymm hle hlen)
      rw [hv]; rfl
    have hlanes : (List.range 8).zip (lanesOf qa) = (List.range 8).map (fun l => (l, lane (qa.headD 0) l)) := by
      rw [hqa]
      rfl
    have hcodes : (rqBeats raw w par qa).val = [((List.range 8).map (fun l =>
        (requantLane f (decode32 (norm32 (lane (qa.headD 0) l)).val).val (sext (bits (pw l) 0 16) 16) (sext (bits (pw l) 16 8) 8)).val.1
          * 2 ^ (fmtWidth f * (fld w 37 30 + l)))).sum] := by
      rw [hval, hlanes, List.map_map]
      refine congrArg (fun l => [List.sum l]) (List.map_congr_left fun l _ => ?_)
      rw [Function.comp_apply, (rqOne_spec raw w par _).2.2]
    refine yields_of s _ x hf hs _ [] true (s.die.slotIn x) (rqOp s.fused x s.die).2 ⟨k, hk, h2.trans ht, h3.trans hr, h4.trans hd⟩ ?_
    refine (tileCmd_fires (fun w => opc w == 7) rqOp s x hf (by simp [hop, w])).trans ?_
    rw [h1, hcodes]
    simp [shapeOf, show opc x.w = 7 from hop]
    rfl
end Sys2Proof.Machine
end

section
/-! SUPPORT. The end of a firing whose outputs go to queues of its own context (R113, R118), and the operations that pass beats on. -/

namespace Sys2Proof.Machine

@[simp] theorem Die.fires_push (d : Die) (t c q j : Nat) (l : List QBeat) : (d.push t c q l).fires t c j = d.fires t c j := by
  simp [Die.push]

/-- The same beats pushed onto each of some queues of a context. -/
theorem Die.queue_pushes (t c : Nat) (bs : List QBeat) (q : Nat) {qs : List Nat} (hqs : qs.Nodup) (d : Die) :
    (qs.foldl (fun d r => d.push t c r bs) d).queue t c q = d.queue t c q ++ (if q ∈ qs then bs else []) := by
  induction qs generalizing d with
  | nil => simp
  | cons r qs ih =>
    obtain ⟨hmem, hnd⟩ := List.nodup_cons.1 hqs
    rw [List.foldl_cons, ih hnd]
    by_cases hq : q = r
    · subst hq; simp [hmem]
    · rw [Die.queue_push_other _ _ _ _ _ _ hq]; simp [hq]

/-- What a firing leaves behind the computation of its operation, whose outputs all go to queues `qs` of its context (R113, R118). -/
structure Fired (s : State) (x : Fire) (qs : List Nat) (bs : List QBeat) (e : Die) (t : State) : Prop where
  eq : t = { s with die := t.die }
  queues : ∀ q, t.die.queue x.tile x.ctx q = e.queue x.tile x.ctx q ++ (if q ∈ qs then bs else [])
  fires : t.die.fires x.tile x.ctx x.op = e.fires x.tile x.ctx x.op + 1
  stores : ∀ u, (t.die.tile u).store = (e.tile u).store
  digests : ∀ u, (t.die.tile u).digests = (e.tile u).digests
  rows : t.die.rows = e.rows
  dir : t.die.dir = e.dir
  heads : (t.die.ctx x.tile x.ctx).heads = (e.ctx x.tile x.ctx).heads

/-- The outputs of a firing: the same beats for each of some queues of its context. -/
def outTo (x : Fire) (qs : List Nat) (bs : List QBeat) (slot : Nat) (last : Bool) (st : List QBeat) : Out :=
  ⟨qs.map (fun q => (x.ctx, q, bs)), slot, last, st⟩

theorem fired_finish (s : State) (x : Fire) {qs : List Nat} (hqs : qs.Nodup) (bs : List QBeat) (slot : Nat) (last : Bool) (st : List QBeat) (e : Die) :
    Fired s x qs bs e { s with die := e.finish x (outTo x qs bs slot last st) } := by
  obtain ⟨f1, -, f3, f4, f5, f6, f7, f8⟩ := Die.finish_tiles x (outTo x qs bs slot last st) e
  simp only [outTo, List.foldl_map] at f1 f3 f4 f5 f6 f7 f8
  have hkeep {γ : Type} (g : Die → γ) (h : ∀ d q, g (Die.push x.tile x.ctx q bs d) = g d) := foldl_keeps g _ h qs e
  refine ⟨rfl, fun q => (f1 q).trans (Die.queue_pushes _ _ _ _ hqs e), ?_, fun u => ?_, fun u => ?_, ?_, ?_, ?_⟩
  · rw [outTo, f3, hkeep (fun d => d.fires x.tile x.ctx x.op) fun d q => Die.fires_push _ _ _ _ _ _]
  · rw [outTo, f4, hkeep (fun d => (d.tile u).store) fun d q => ?_]
    by_cases hu : u = x.tile
    · rw [hu, Die.push, Die.store_setQueue]
    · rw [Die.push, Die.setQueue, Die.onCtx, Die.tile_onTile_other _ _ _ _ hu]
  · rw [outTo, f5, hkeep (fun d => (d.tile u).digests) fun d q => ?_]
    by_cases hu : u = x.tile
    · rw [hu, Die.push, Die.setQueue, Die.onCtx, Die.tile_onTile_same]
    · rw [Die.push, Die.setQueue, Die.onCtx, Die.tile_onTile_other _ _ _ _ hu]
  · rw [outTo, f6, hkeep (fun d => d.rows) fun d q => by simp]
  · rw [outTo, f7, hkeep (fun d => d.dir) fun d q => by simp]
  · rw [outTo, f8, ← hkeep (fun d => (d.ctx x.tile x.ctx).heads) fun d q => by rw [Die.push, Die.setQueue, Die.ctx_onCtx_same]]

/-- A firing whose operation answers outputs for queues of its context. -/
theorem fire_completes (s : State) (c : Instr) (x : Fire) (sel : Nat → Bool) (f : Fused → Fire → Die → Out × Die) {qs : List Nat} {bs : List QBeat}
    {slot : Nat} {last : Bool} {st : List QBeat} {e : Die} (hf : s.fires x) (hc : exec c s = tileCmd sel f x.tile x.ctx x.op s) (hsel : sel x.w = true)
    (hqs : qs.Nodup) (hx : f s.fused x s.die = (outTo x qs bs slot last st, e)) :
    exec c s = .next { s with die := e.finish x (outTo x qs bs slot last st) }
      ∧ Fired s x qs bs e { s with die := e.finish x (outTo x qs bs slot last st) } := by
  refine ⟨?_, fired_finish s x hqs bs slot last st e⟩
  rw [hc, tileCmd_fires sel f s x hf hsel, hx]

/-- A firing whose operation leaves the queues as taken from, and store, rows and directory alone: what QD gains. -/
theorem fire_yields (s : State) (c : Instr) (x : Fire) (sel : Nat → Bool) (f : Fused → Fire → Die → Out × Die) {bs : List QBeat}
    {slot : Nat} {last : Bool} {st : List QBeat} {e : Die} (hf : s.fires x) (hs : s.sound x) (hc : exec c s = tileCmd sel f x.tile x.ctx x.op s)
    (hsel : sel x.w = true) (hx : f s.fused x s.die = (outTo x [opQd x.w] bs slot last st, e))
    (he : ∃ k, s.die.take s.fused x = (⟨s.die.qa x, s.die.qb x, s.die.slotIn x, false⟩, k) ∧ e.tiles = k.tiles ∧ e.rows = k.rows ∧ e.dir = k.dir) :
    s.yields c x bs := by
  refine yields_of s c x hf hs bs st last slot e he ?_
  rw [hf.2.2.2.2.2.2]
  exact (fire_completes s c x sel f hf hc hsel (List.nodup_singleton _) hx).1

/-- The queues, store, rows and directory after a sound take. -/
theorem take_clean (s : State) (x : Fire) (hs : s.sound x) :
    ∃ e, s.die.take s.fused x = (⟨s.die.qa x, s.die.qb x, s.die.slotIn x, false⟩, e) ∧ e = { s.die with tiles := e.tiles }
      ∧ (∀ q, e.queue x.tile x.ctx q = s.die.rest x q) ∧ (∀ k, k ≠ x.ctx → e.ctx x.tile k = s.die.ctx x.tile k)
      ∧ (∀ u, (e.tile u).store = (s.die.tile u).store) ∧ (∀ u, (e.tile u).digests = (s.die.tile u).digests)
      ∧ e.fires x.tile x.ctx x.op = s.die.fires x.tile x.ctx x.op ∧ (e.ctx x.tile x.ctx).heads = (s.die.ctx x.tile x.ctx).heads := by
  obtain ⟨e, h1, h2, h3, h4, h5, h6, h7⟩ := Die.take_sound s x hs
  refine ⟨e, h1, h2, h3, h5, fun u => ?_, fun u => ?_, ?_, ?_⟩
  · by_cases hu : u = x.tile
    · rw [hu, h6]
    · rw [h4 u hu]
  · by_cases hu : u = x.tile
    · rw [hu, h6]
    · rw [h4 u hu]
  · rw [Die.fires, h7]; rfl
  · rw [h7]

/-- An operation that passes the beats of QA on to QD. -/
theorem pass_yields (s : State) (c : Instr) (x : Fire) (sel : Nat → Bool) (f : Fused → Fire → Die → Out × Die) (hf : s.fires x) (hs : s.sound x)
    (hc : exec c s = tileCmd sel f x.tile x.ctx x.op s) (hsel : sel x.w = true)
    (hx : f s.fused x s.die = (let k := s.die.take s.fused x
      (⟨[(opCtx x.w, opQd x.w, moved k.1.bad k.1.a)], k.1.slot, anyLast k.1.a, []⟩, k.2))) : s.yields c x (s.die.qa x) := by
  obtain ⟨e, h1, -⟩ := take_clean s x hs
  refine fire_yields s c x sel f (slot := s.die.slotIn x) (last := anyLast (s.die.qa x)) (st := []) hf hs hc hsel ?_ ⟨e, h1, rfl, rfl, rfl⟩
  rw [hx, h1, hf.2.2.2.2.2.2]
  rfl

/-- The queues of a mask are each named once. -/
theorem nodup_lqs (m : Nat) : (lqs m).Nodup :=
  (List.Nodup.filter _ List.nodup_range).map fun _ _ h => Nat.add_right_cancel h

theorem lt_of_mem_lqs {m q : Nat} (h : q ∈ lqs m) : q < 8 := by
  simp only [lqs, bitsOf, List.mem_map, List.mem_filter, List.mem_range] at h
  omega

theorem nodup_bcastQs (m : Nat) : (bcastQs m).Nodup := by
  have hone (b : Bool) (n : Nat) : (if b = true then [n] else []).Nodup := by cases b <;> simp
  have hmem (b : Bool) (n q : Nat) (h : q ∈ if b = true then [n] else []) : q = n := by cases b <;> simp_all
  refine ((nodup_lqs m).append (hone _ 8) fun q h1 h2 => ?_).append (hone _ 9) fun q h1 h2 => ?_
  · have := lt_of_mem_lqs h1; have := hmem _ _ _ h2; omega
  · have h9 := hmem _ _ _ h2
    rcases List.mem_append.1 h1 with h | h
    · have := lt_of_mem_lqs h; omega
    · have := hmem _ _ _ h; omega

/-- A word that is not refused has no field that is. -/
theorem fieldRefused_of_wordCode {F w : Nat} (h : wordCode F w = 0) : fieldRefused F w = false := by
  unfold wordCode at h
  dsimp only at h
  rw [if_neg (fun hc => by rw [if_pos hc] at h; omega)] at h
  rw [if_neg (fun hc => by rw [if_pos hc] at h; omega)] at h
  rw [if_neg (fun hc => by rw [if_pos hc] at h; omega)] at h
  by_contra hr
  rw [if_pos (by simpa using hr)] at h
  omega

/-- FOLD names another context than its own (R212). -/
theorem fold_ctx_ne (s : State) (x : Fire) (hf : s.fires x) (hop : opc x.w = 30) : fld x.w 41 39 ≠ x.ctx := by
  obtain ⟨-, -, -, hword, -, -, hctx⟩ := hf
  have hfield := fieldRefused_of_wordCode hword
  unfold fieldRefused at hfield
  simp only [hop, Bool.or_eq_false_iff, beq_eq_false_iff_ne] at hfield
  obtain ⟨⟨⟨-, hne⟩, -⟩, -⟩ := hfield
  rw [← hctx]
  exact hne

/-- PACK's beats and whether two set a bit twice (R209). -/
def packFold (as : List Nat) : Nat × Bool := as.foldl (fun (a : Nat × Bool) v => (Nat.lor a.1 v, a.2 || Nat.land a.1 v != 0)) (0, false)

/-- Beats of which no two set a bit, and none sets one of `a`: their union is made without a fault. -/
theorem packFold_disjoint (as : List Nat) (a : Nat) (hpair : as.Pairwise (fun v u => Nat.land v u = 0)) (ha : ∀ v ∈ as, Nat.land a v = 0) :
    as.foldl (fun (a : Nat × Bool) v => (Nat.lor a.1 v, a.2 || Nat.land a.1 v != 0)) (a, false) = (as.foldl Nat.lor a, false) := by
  induction as generalizing a with
  | nil => rfl
  | cons v as ih =>
    obtain ⟨hv, hpair⟩ := List.pairwise_cons.1 hpair
    have hav : Nat.land a v = 0 := ha v List.mem_cons_self
    rw [List.foldl_cons, List.foldl_cons]
    dsimp only
    rw [hav, show (false || (0 : Nat) != 0) = false from rfl]
    refine ih _ hpair fun u hu => ?_
    have h1 : a &&& u = 0 := ha u (List.mem_cons_of_mem _ hu)
    have h2 : v &&& u = 0 := hv u hu
    show (a ||| v) &&& u = 0
    rw [Nat.and_or_distrib_right, h1, h2]
    rfl

theorem packOp_arith (fu : Fused) (x : Fire) (d : Die) : packOp fu x d = arith T.FAB_VEC_SAT T.FAB_VEC_FLUSH noReads
    (fun _ _ _ as _ => Num.seq (operandFault (packFold as).2) (fun _ => Num.ret [(packFold as).1])) fu x d := rfl

/-- What UNPACK makes of one code (R210). -/
def unpackOne (w inp k : Nat) : Num Nat :=
  Num.seq (expand (fld w 41 38) (elem inp (fmtWidth (fld w 41 38)) (fld w 28 18 + k)) 0) (fun o => round32 o.s o.m (o.x + sext (fld w 17 10) 8))

theorem unpackOp_arith (fu : Fused) (x : Fire) (d : Die) : unpackOp fu x d = arith T.FAB_VEC_SAT T.FAB_VEC_FLUSH noReads
    (fun _ _ _ as _ => Num.seq (Num.all (unpackOne x.w (joinBeats as)) (List.range (fld x.w 34 29 + 1)))
      (fun ls => Num.ret (beatsOf (cdiv (fld x.w 34 29 + 1) 8) ls))) fu x d := rfl

theorem unpackOne_spec (w inp k : Nat) : (unpackOne w inp k).plain ∧ (unpackOne w inp k).val =
    let o := (expand (fld w 41 38) (elem inp (fmtWidth (fld w 41 38)) (fld w 28 18 + k)) 0).val
    (round32 o.s o.m (o.x + sext (fld w 17 10) 8)).val := by
  have hround (o : Xop) := round32_plain o.s o.m (o.x + sext (fld w 17 10) 8)
  exact ⟨Num.plain_seq _ _ (expand_plain _ _ _) hround, Num.val_seq _ _ hround⟩

/-- What GATHER brings together (R208). -/
def gatherBeats (raw : Nat → Nat) (w inp : Nat) : List Nat :=
  let res := ((List.range ((fld w 31 29 + 1) * (256 / ewOf w))).map (fun e =>
    let m := tsHalf raw (32 * fld w 28 19 + 2 * e)
    if bit m 15 then 0 else bits inp (ewOf w * bits m 0 12) (ewOf w) * 2 ^ (ewOf w * e))).sum
  (List.range (fld w 31 29 + 1)).map (fun i => bits res (256 * i) 256)

theorem gatherOp_arith (fu : Fused) (x : Fire) (d : Die) : gatherOp fu x d = arith T.FAB_VEC_SAT T.FAB_VEC_FLUSH
    (fun _ _ _ _ => span (fld x.w 28 19) (fld x.w 28 19 + cdiv (2 * ((fld x.w 31 29 + 1) * (256 / ewOf x.w))) 32))
    (fun raw _ _ as bs => Num.ret (gatherBeats raw x.w (joinBeats (as ++ bs)))) fu x d := rfl

/-- Settles O13: operations that pass on what they take, and those whose computation answers the beats. -/
theorem beatsMove : Obligations.BeatsMove := by
  unfold Obligations.BeatsMove
  intro s x hf hs w raw qa qb out
  refine ⟨fun hop hsub => ?_, fun hop hsub => ?_, fun hop => ?_, fun hop => ?_, fun hop hbits => ?_, fun hop => ?_, fun hop => ?_, fun hop hsub => ?_,
    fun hop hsub => ?_, fun hop hsub => ?_⟩
  · refine pass_yields s _ x (fun w => opc w == 21) movqOp hf hs rfl (by simp [hop, w]) ?_
    unfold movqOp
    simp only [show fld x.w 38 37 = 0 from hsub]
  · obtain ⟨e, h1, h2, -, -, h5, -⟩ := take_clean s x hs
    have hraw : e.beat x.tile = raw := by funext b; simp only [Die.beat, h5, raw]
    refine fire_yields s _ x (fun w => opc w == 21) movqOp (slot := s.die.slotIn x) (last := true) (st := []) hf hs rfl (by simp [hop, w]) ?_
      ⟨e, h1, rfl, rfl, rfl⟩
    unfold movqOp
    simp only [show fld x.w 38 37 = 2 from hsub, h1, Die.readBeats_clean _ _ _ _ (show e.ecc = [] by rw [h2]; exact hs.1)
      (show e.poison = [] by rw [h2]; exact hs.2.1), hf.2.2.2.2.2.2, hraw]
    rfl
  · obtain ⟨e, h1, h2, h3, -, -, -, h6, -⟩ := take_clean s x hs
    obtain ⟨hc, hd⟩ := fire_completes s (.tBcast x.tile x.ctx x.op) x (fun w => opc w == 22) bcastOp (bs := s.die.qa x) (slot := s.die.slotIn x)
      (last := anyLast (s.die.qa x)) (st := []) hf rfl (by simp [hop, w]) (nodup_bcastQs (fld w 38 33))
      (by unfold bcastOp; simp only [h1, hf.2.2.2.2.2.2]; rfl)
    exact ⟨_, hc, fun q => by rw [hd.queues, h3], by rw [hd.fires, h6], rfl, by rw [hd.rows, h2]⟩
  · intro ew no res
    exact plain_yields s _ x (fun w => opc w == 23) gatherOp _ _ _ _ _ hf hs rfl (by simp [hop, w]) (gatherOp_arith _ _ _)
      ⟨Num.plain_ret _, Num.val_ret (gatherBeats raw w (joinBeats (qa ++ qb)))⟩ (by simp [shapeOf, show opc x.w = 23 from hop, no, w])
  · have hpack : packFold qa = (qa.foldl Nat.lor 0, false) := by
      refine packFold_disjoint qa 0 (List.pairwise_iff_getElem.2 fun i j hi hj hij => ?_) fun v _ => Nat.zero_and v
      have := hbits i j hij hj
      rwa [List.getD_eq_getElem _ _ hi, List.getD_eq_getElem _ _ hj] at this
    refine plain_yields s _ x (fun w => opc w == 26) packOp _ _ _ _ _ hf hs rfl (by simp [hop, w]) (packOp_arith _ _ _) ?_
      (by simp [shapeOf, show opc x.w = 26 from hop])
    show Num.plain (Num.seq (operandFault (packFold qa).2) _) ∧ Num.val (Num.seq (operandFault (packFold qa).2) _) = _
    rw [hpack]
    exact ⟨Num.plain_seq _ _ operandFault_false_plain fun _ => Num.plain_ret _, rfl⟩
  · intro f n
    refine plain_yields s _ x (fun w => opc w == 27) unpackOp _ _ _ _ _ hf hs rfl (by simp [hop, w]) (unpackOp_arith _ _ _) ?_
      (by simp [shapeOf, show opc x.w = 27 from hop, n, w])
    have hone (k : Nat) := (unpackOne_spec w (joinBeats qa) k).1
    have hret : ∀ ls : List Nat, (Num.ret (beatsOf (cdiv n 8) ls)).plain := fun _ => Num.plain_ret _
    refine ⟨Num.plain_seq _ _ (Num.plain_all _ _ hone) hret, ?_⟩
    refine (Num.val_seq _ _ hret).trans ?_
    rw [Num.val_ret]
    refine congrArg _ ((Num.val_all _ _ hone).trans (List.map_congr_left fun k _ => (unpackOne_spec w (joinBeats qa) k).2))
  · obtain ⟨e, h1, h2, h3, h4, -, -, h6, -⟩ := take_clean s x hs
    have hne : fld w 41 39 ≠ x.ctx := fold_ctx_ne s x hf hop
    obtain ⟨f1, f2, f3, -, -, f6, -⟩ := Die.finish_tiles x ⟨[(fld w 41 39, opQd w, s.die.qa x)], s.die.slotIn x, anyLast (s.die.qa x), []⟩ e
    simp only [List.foldl_cons, List.foldl_nil] at f1 f2 f3 f6
    have hctx : (e.push x.tile (fld w 41 39) (opQd w) (s.die.qa x)).ctx x.tile x.ctx = e.ctx x.tile x.ctx := by
      rw [Die.push, Die.setQueue, Die.ctx_onCtx_other _ _ _ _ _ (Ne.symm hne)]
    refine ⟨{ s with die := e.finish x ⟨[(fld w 41 39, opQd w, s.die.qa x)], s.die.slotIn x, anyLast (s.die.qa x), []⟩ }, ?_, ?_, fun q => ?_, ?_, rfl, ?_⟩
    · refine (tileCmd_fires (fun w => opc w == 30) foldOp s x hf (by simp [hop, w])).trans ?_
      unfold foldOp
      simp only [h1]
      rfl
    · rw [f2 _ _ hne, Die.queue_push_same, Die.queue, h4 _ hne]; rfl
    · rw [f1, Die.queue, hctx]; exact h3 q
    · rw [f3, Die.fires, hctx]; exact congrArg (· + 1) h6
    · rw [f6]; simp; rw [h2]
  · exact pass_yields s _ x (fun w => opc w == 31 && fld w 41 40 == 0) barrierOp hf hs rfl (by simp [hop, hsub, w]) rfl
  · exact pass_yields s _ x (fun w => opc w == 31 && fld w 41 40 == 1) barrierOp hf hs rfl (by simp [hop, hsub, w]) rfl
  · exact pass_yields s _ x (fun w => opc w == 31 && fld w 41 40 == 2) barrierOp hf hs rfl (by simp [hop, hsub, w]) rfl
end Sys2Proof.Machine
end

section
/-! SUPPORT. What the end of a firing leaves of registers, tallies and the engine's counts, and the control unit (R226 to R233). -/

namespace Sys2Proof.Machine

theorem Die.lt_of_quarterOwner {d : Die} {e q p : Nat} (h : d.quarterOwner e q = some p) : p < 64 :=
  List.mem_range.1 (List.mem_of_find?_eq_some h)

/-- An operation that fires is one of a pasture the device has. -/
theorem State.fires.pas_lt {s : State} {x : Fire} (h : s.fires x) : x.p < 64 := by
  obtain ⟨-, -, hfire, -⟩ := h
  unfold Die.fireOf at hfire
  dsimp only at hfire
  split at hfire
  · cases hfire
  · cases howner : s.die.quarterOwner (tileEng x.tile) (tileQ x.tile) with
    | none => rw [howner] at hfire; cases hfire
    | some p =>
      have hp : x.p = p := by
        rw [howner] at hfire
        dsimp only at hfire
        repeat' split at hfire
        all_goals simpa [eq_comm] using congrArg (Option.map Fire.p) hfire
      exact hp ▸ Die.lt_of_quarterOwner howner

/-- `e` is as `d` but for tiles, the Larder, update captures, the in-flight count of pasture `p` and what reports; the step counts of the engines stand. -/
structure Die.Settled (p : Nat) (d e : Die) : Prop where
  get : ∀ (f : Fld) (i : Nat), reportWord (f.key i / 32) = false → f.key i ≠ R.FAB_STATUS_IN_FLIGHT.key p → e.get f i = d.get f i
  tally : ∀ k, loftTally k = false → (∀ i, k ≠ T.UPD_CAPTURES.key i ∧ k ≠ T.UPD_CAP_DROP.key i ∧ k ≠ T.UPD_CAP_DUP.key i) →
    KMap.get 0 e.tallies k = KMap.get 0 d.tallies k
  closed : e.closed = d.closed
  step : ∀ e' p', (e.engPas e' p').step = (d.engPas e' p').step ∧ (e.engPas e' p').stepFires = (d.engPas e' p').stepFires

theorem Die.Settled.refl (p : Nat) (d : Die) : Settled p d d := ⟨fun _ _ _ _ => rfl, fun _ _ _ => rfl, rfl, fun _ _ => ⟨rfl, rfl⟩⟩

theorem Die.Settled.trans {p : Nat} {d e f : Die} (h : Settled p d e) (k : Settled p e f) : Settled p d f where
  get g i hr hn := (k.get g i hr hn).trans (h.get g i hr hn)
  tally n hl hu := (k.tally n hl hu).trans (h.tally n hl hu)
  closed := k.closed.trans h.closed
  step e' p' := ⟨((k.step e' p').1).trans (h.step e' p').1, ((k.step e' p').2).trans (h.step e' p').2⟩

/-- What changes no register, tally, entry or engine settles nothing else. -/
theorem Die.settled_of_eq (p : Nat) {d e : Die} (h1 : e.regs = d.regs) (h2 : e.tallies = d.tallies) (h3 : e.closed = d.closed) (h4 : e.eng = d.eng) :
    Settled p d e where
  get f i _ _ := Die.get_congr _ _ h1 f i
  tally k _ _ := by rw [h2]
  closed := h3
  step e' p' := by simp only [Die.engPas, h4, and_self]

theorem Die.settled_ite (p : Nat) {c : Prop} [Decidable c] {d e f : Die} (h : Settled p d e) (k : Settled p d f) : Settled p d (if c then e else f) := by
  split <;> assumption

/-- A change of slots or flight of an engine's part. -/
theorem Die.settled_onEng (p e q : Nat) (g : EngPas → EngPas) (hg : ∀ y, (g y).step = y.step ∧ (g y).stepFires = y.stepFires) (d : Die) :
    Settled p d (d.onEng e q g) where
  get f i _ _ := Die.get_congr _ _ (by simp) f i
  tally k _ _ := by simp
  closed := by simp
  step e' p' := by
    simp only [Die.engPas, Die.onEng]
    by_cases h : e' * 64 + p' = e * 64 + q
    · rw [h, KMap.get_upd_same]; exact hg _
    · rw [KMap.get_upd_other _ _ _ _ _ h]; exact ⟨rfl, rfl⟩

/-- A count of an update capture. -/
theorem Die.settled_capTally (p i : Nat) (t : Tal) (ht : t = T.UPD_CAPTURES ∨ t = T.UPD_CAP_DROP ∨ t = T.UPD_CAP_DUP) (d : Die) : Settled p d (d.count t i) where
  get f j hr _ := (d.report_count t i).2 f j hr
  tally k hl hu := Die.tally_countBy_other t i 1 k d hl (by
    obtain ⟨h1, h2, h3⟩ := hu i
    rcases ht with rfl | rfl | rfl <;> assumption)
  closed := by simp
  step e' p' := by simp [Die.engPas]

theorem Die.settled_writeCapture (p e : Nat) (r : CapRec) (d : Die) : Settled p d (d.writeCapture e r) := by
  unfold Die.writeCapture
  extract_lets ring dup rest d1
  refine Die.settled_ite p (Die.settled_capTally p e _ (.inr (.inl rfl)) d) ?_
  have h1 : Settled p d d1 :=
    (Die.settled_of_eq p (by rfl) (by rfl) (by rfl) (by rfl)).trans (Die.settled_capTally p e T.UPD_CAPTURES (.inl rfl) _)
  exact Die.settled_ite p (h1.trans (Die.settled_capTally p e _ (.inr (.inr rfl)) d1)) h1

theorem Die.settled_capture (p : Nat) (x : Fire) (slot : Nat) (bs : List QBeat) (d : Die) : Settled p d (d.capture x slot bs) := by
  unfold Die.capture
  split
  · exact .refl p d
  · dsimp only
    refine Die.settled_ite p (.refl p d) (Die.settled_ite p (Die.settled_onEng p _ _ _ ?_ d) (.refl p d))
    exact fun _ => ⟨rfl, rfl⟩

theorem Die.settled_finishCapture (p : Nat) (x : Fire) (slot : Nat) (d : Die) : Settled p d (d.finishCapture x slot) := by
  unfold Die.finishCapture
  split
  · exact .refl p d
  · dsimp only
    refine Die.settled_ite p (.trans (Die.settled_onEng p _ _ _ ?_ d) (Die.settled_writeCapture p _ _ _)) (.refl p d)
    exact fun _ => ⟨rfl, rfl⟩

theorem Die.settled_put_inFlight (p v : Nat) (d : Die) : Settled p d (d.put R.FAB_STATUS_IN_FLIGHT p v) where
  get f i _ hn := Die.get_put_other _ _ _ _ _ _ hn
  tally k _ _ := by simp
  closed := by simp
  step e' p' := by simp [Die.engPas]

theorem Die.settled_retire (x : Fire) (slot : Nat) (d : Die) : Settled x.p d (d.retire x slot) := by
  unfold Die.retire
  extract_lets d1 d2
  have h1 : Settled x.p d d1 := Die.settled_ite _ (.refl _ d) (Die.settled_of_eq _ (by rfl) (by rfl) (by rfl) (by rfl))
  refine (h1.trans (Die.settled_onEng x.p x.e x.p _ ?_ d1)).trans (Die.settled_put_inFlight x.p _ d2)
  exact fun _ => ⟨rfl, rfl⟩

/-- What the end of a firing settles beside the tiles (R118, R125). -/
theorem Die.settled_finish (x : Fire) (o : Out) (d : Die) : Settled x.p d (d.finish x o) := by
  unfold Die.finish
  extract_lets d1 d2 d3 d4
  have h1 : Settled x.p d d1 := by
    have hkeep {γ : Type} (g : Die → γ) (h : ∀ d t c q l, g (Die.push t c q l d) = g d) : g d1 = g d := foldl_keeps g _ (fun d y => h d _ _ _ _) o.outs d
    exact Die.settled_of_eq _ (hkeep (fun d => d.regs) fun d t c q l => by simp) (hkeep (fun d => d.tallies) fun d t c q l => by simp)
      (hkeep (fun d => d.closed) fun d t c q l => by simp) (hkeep (fun d => d.eng) fun d t c q l => by simp)
  have h3 : Settled x.p d d3 := by
    obtain ⟨hl, -⟩ := Die.loopCount_keeps x o.last d2
    refine h1.trans (Die.settled_of_eq _ ?_ ?_ ?_ ?_)
    all_goals simp only [d3]; rw [hl]; simp [d2]
  have h4 := (h3.trans (Die.settled_capture x.p x o.slot (o.stored ++ o.outs.flatMap (fun y => y.2.2)) d3)).trans (Die.settled_finishCapture x.p x o.slot _)
  exact Die.settled_ite _ (h4.trans (Die.settled_retire x o.slot d4)) h4

/-- A report settles everything but what reports. -/
theorem Die.settled_of_traced (p : Nat) {d e : Die} (h : d.traced e) : Settled p d e where
  get f i hr _ := h.1.2 f i hr
  tally k hl _ := h.2 k hl
  closed := by rw [h.1.1]
  step e' p' := by rw [h.1.1]; exact ⟨rfl, rfl⟩

/-- The closing of an engine's entries: those of the quarters its pasture owns are closed (R231). -/
theorem Die.closed_closeEntry (e p q : Nat) (d : Die) (hq : q < 4) (ho : d.ownsQuarter p e q = true) :
    KMap.get false (d.closeEntry e p).closed (e * 4 + q) = true := by
  have key (qs : List Nat) (m : KMap Bool) (h : q ∈ qs ∨ KMap.get false m (e * 4 + q) = true) :
      KMap.get false (qs.foldl (fun m q => KMap.set false m (e * 4 + q) true) m) (e * 4 + q) = true := by
    induction qs generalizing m with
    | nil => simpa using h
    | cons r qs ih =>
      refine ih _ ?_
      by_cases hr : q = r
      · exact .inr (by rw [hr, KMap.get_set_same])
      · rcases h with h | h
        · exact .inl (by simpa [hr] using h)
        · exact .inr (by rw [KMap.get_set_other _ _ _ _ _ (by omega)]; exact h)
  exact key _ _ (.inl (by simp [Die.quartersOf, hq, ho]))

/-- The control unit's fields and tallies of a pasture report nothing. -/
theorem haltFields (p : Nat) (hp : p < 64) : ∀ f ∈ [R.FAB_HALT_VALID, R.FAB_HALT_SLOT, R.FAB_HALT_TILE],
    reportWord (f.key p / 32) = false ∧ f.key p ≠ R.FAB_STATUS_IN_FLIGHT.key p ∧ ∀ e, f.key p ≠ R.ENG_STATUS_BUSY.key e := by
  have word (f : Fld) (hb : f.base = 0x380000) (ho : f.off = 0x804) (hl : f.lo < 32) :
      reportWord (f.key p / 32) = false ∧ f.key p ≠ R.FAB_STATUS_IN_FLIGHT.key p ∧ ∀ e, f.key p ≠ R.ENG_STATUS_BUSY.key e := by
    have hk : f.key p / 32 = 0x380804 + p * 0x1000 := by simp only [Fld.key, hb, ho]; omega
    refine ⟨?_, fun h => ?_, fun e h => ?_⟩
    · rw [hk]; unfold reportWord; simp; omega
    · have := congrArg (· / 32) h
      simp only [R.FAB_STATUS_IN_FLIGHT, Fld.key] at this
      omega
    · have := congrArg (· / 32) h
      simp only [R.ENG_STATUS_BUSY, Fld.key] at this
      omega
  simp only [List.forall_mem_cons]
  exact ⟨word _ rfl rfl (by decide), word _ rfl rfl (by decide), word _ rfl rfl (by decide), by simp⟩

/-- A tally of a pasture's fabric page is counted by no report and no update capture. -/
theorem fabTally (p : Nat) (hp : p < 64) : ∀ t ∈ [T.FAB_HALTS, T.FAB_DECISIONS, T.FAB_RING_LATE], loftTally (t.key p) = false
    ∧ ∀ i, t.key p ≠ T.UPD_CAPTURES.key i ∧ t.key p ≠ T.UPD_CAP_DROP.key i ∧ t.key p ≠ T.UPD_CAP_DUP.key i := by
  have tal (t : Tal) (hb : t.base = 0x380000) (ho : 0xC60 ≤ t.off ∧ t.off < 0xD00) : loftTally (t.key p) = false
      ∧ ∀ i, t.key p ≠ T.UPD_CAPTURES.key i ∧ t.key p ≠ T.UPD_CAP_DROP.key i ∧ t.key p ≠ T.UPD_CAP_DUP.key i := by
    constructor
    · unfold loftTally
      simp only [Tal.key, hb, Bool.or_eq_false_iff, Bool.and_eq_false_iff, decide_eq_false_iff_not]
      omega
    · intro i
      simp only [Tal.key, hb, T.UPD_CAPTURES, T.UPD_CAP_DROP, T.UPD_CAP_DUP]
      omega
  simp only [List.forall_mem_cons]
  exact ⟨tal _ rfl (by decide), tal _ rfl (by decide), tal _ rfl (by decide), by simp⟩

/-- A digest of clean beats (R227). -/
theorem digest_clean (bs : List QBeat) (g : DigReg) (h : ∀ b ∈ bs, b.poison = false) :
    (bs.foldl (fun (g : DigReg) b => if b.poison then { g with d := mix64 g.d (2 ^ 64 - 1), seen := true }
      else { g with d := mixBeat g.d b.data.toNat }) g).d = bs.foldl (fun d b => mixBeat d b.data.toNat) g.d := by
  induction bs generalizing g with
  | nil => rfl
  | cons b bs ih =>
    rw [List.foldl_cons, List.foldl_cons, h b List.mem_cons_self, ih _ fun c hc => h c (List.mem_cons_of_mem _ hc)]
    rfl

/-- DIGEST of clean beats: the register is folded, and beside that only reported (R227). -/
theorem digestOp_clean (s : State) (x : Fire) {k : Die} (hf : s.fires x) (hs : s.sound x)
    (h1 : s.die.take s.fused x = (⟨s.die.qa x, s.die.qb x, s.die.slotIn x, false⟩, k)) (h6 : ∀ u, (k.tile u).digests = (s.die.tile u).digests) :
    ∃ g d, digestOp s.fused x s.die
        = (outTo x (if bit x.w 36 then [opQd x.w] else []) (s.die.qa x) (s.die.slotIn x) (anyLast (s.die.qa x)) [], d)
      ∧ (k.onTile x.tile (fun t => { t with digests := KMap.set {} t.digests (fld x.w 41 40) g })).traced d
      ∧ g.d = (s.die.qa x).foldl (fun d b => mixBeat d b.data.toNat) (KMap.get {} (s.die.tile x.tile).digests (fld x.w 41 40)).d := by
  unfold digestOp
  extract_lets w dr k0 g0 g n d1 d2
  have hk : k0 = (⟨s.die.qa x, s.die.qb x, s.die.slotIn x, false⟩, k) := h1
  have hd1 : d1 = k.onTile x.tile (fun t => { t with digests := KMap.set {} t.digests dr g }) := by simp only [d1, hk]
  refine ⟨g, d2, ?_, ?_, ?_⟩
  · rw [hk, show opCtx w = x.ctx from hf.2.2.2.2.2.2, outTo]
    cases bit x.w 36 <;> rfl
  · rw [← hd1]
    exact Die.traced_ite (Die.traced_trace _ (fun q h => by cases h; exact hf.pas_lt) d1) d1.traced_refl
  · refine Eq.trans (b := _) ?_ (digest_clean (s.die.qa x) _ fun b hb => (hs.2.2.1 b (List.mem_append_left _ hb)).1)
    simp only [g, g0, hk, h6]
    rfl

/-- STEP of clean beats: the engine's counts (R229). -/
theorem stepOp_clean (s : State) (x : Fire) {k : Die} (hf : s.fires x)
    (h1 : s.die.take s.fused x = (⟨s.die.qa x, s.die.qb x, s.die.slotIn x, false⟩, k)) :
    ∃ d, stepOp s.fused x s.die
        = (outTo x (if bit x.w 25 then [opQd x.w] else []) (s.die.qa x) (s.die.slotIn x) (anyLast (s.die.qa x)) [], d)
      ∧ d.tiles = k.tiles ∧ d.rows = k.rows ∧ d.dir = k.dir
      ∧ (d.engPas x.e x.p).step = (if ((k.engPas x.e x.p).stepFires + 1) % (fld x.w 41 26 + 1) = 0 then ((k.engPas x.e x.p).step + 1) % 2 ^ 64
          else (k.engPas x.e x.p).step)
      ∧ (d.engPas x.e x.p).stepFires = (k.engPas x.e x.p).stepFires + 1 := by
  unfold stepOp
  extract_lets w n k0 d1 g d2
  have hk : k0 = (⟨s.die.qa x, s.die.qb x, s.die.slotIn x, false⟩, k) := h1
  have hd1 : d1 = k.onEng x.e x.p (fun y => { y with stepFires := y.stepFires + 1 }) := by simp only [d1, hk]
  have hg : g = { k.engPas x.e x.p with stepFires := (k.engPas x.e x.p).stepFires + 1 } := by
    simp only [g, hd1, Die.engPas, Die.onEng, KMap.get_upd_same]
  refine ⟨d2, ?_, ?_⟩
  · rw [hk, show opCtx w = x.ctx from hf.2.2.2.2.2.2, outTo]
    cases bit x.w 25 <;> rfl
  · have htr : d1.traced (d1.stepPacket x.e x.p x.im x.ei g.step false) := Die.traced_trace _ (fun q h => by cases h; exact hf.pas_lt) d1
    simp only [d2]
    by_cases hn : g.stepFires % n = 0
    · have hn' : ((k.engPas x.e x.p).stepFires + 1) % (fld x.w 41 26 + 1) = 0 := by rw [hg] at hn; exact hn
      rw [if_pos hn, if_pos hn']
      generalize d1.stepPacket x.e x.p x.im x.ei g.step false = e at htr
      have ht : e.tiles = k.tiles := (congrArg Die.tiles htr.1.1).trans (by rw [hd1]; rfl)
      have hr : e.rows = k.rows := (congrArg Die.rows htr.1.1).trans (by rw [hd1]; rfl)
      have hd : e.dir = k.dir := (congrArg Die.dir htr.1.1).trans (by rw [hd1]; rfl)
      have he : e.engPas x.e x.p = g := by rw [Die.engPas, show e.eng = d1.eng from (congrArg Die.eng htr.1.1).trans rfl]; rfl
      have hsame (q : EngPas → EngPas) : (e.onEng x.e x.p q).engPas x.e x.p = q g := by
        rw [← he]; simp only [Die.engPas, Die.onEng, KMap.get_upd_same]
      refine ⟨ht, hr, hd, ?_, ?_⟩
      · rw [hsame, hg]
      · rw [hsame, hg]
    · have hn' : ¬((k.engPas x.e x.p).stepFires + 1) % (fld x.w 41 26 + 1) = 0 := by rw [hg] at hn; exact hn
      rw [if_neg hn, if_neg hn']
      exact ⟨by rw [hd1]; rfl, by rw [hd1]; rfl, by rw [hd1]; rfl, (congrArg EngPas.step hg).trans rfl, (congrArg EngPas.stepFires hg).trans rfl⟩

/-- Fields of one block at different places. -/
theorem Fld.key_ne_of_place {f g : Fld} (i : Nat) (hb : f.base = g.base) (h : f.off * 32 + f.lo ≠ g.off * 32 + g.lo) : f.key i ≠ g.key i := by
  unfold Fld.key
  rw [hb]
  omega

/-- The first halt of a pasture as HALT leaves it (R231). -/
structure Halted (x : Fire) (slot : Nat) (k d : Die) : Prop where
  valid : d.get R.FAB_HALT_VALID x.p = 1
  slot : d.get R.FAB_HALT_SLOT x.p = slot % 2 ^ R.FAB_HALT_SLOT.width
  tile : d.get R.FAB_HALT_TILE x.p = x.tile % 2 ^ R.FAB_HALT_TILE.width
  closed : d.closed = (k.closeEntry x.e x.p).closed
  tally : d.tally T.FAB_HALTS x.p = tallyAdd (k.tally T.FAB_HALTS x.p) 1

/-- HALT with a lane that is not zero, where no halt is recorded yet. -/
theorem haltOp_first (s : State) (x : Fire) {k : Die} (hf : s.fires x)
    (h1 : s.die.take s.fused x = (⟨s.die.qa x, s.die.qb x, s.die.slotIn x, false⟩, k))
    (hz : lane (match s.die.qa x with | b :: _ => b.data.toNat | [] => 0) (fld x.w 41 39) ≠ 0) (hv : k.on R.FAB_HALT_VALID x.p = false) :
    ∃ d, haltOp s.fused x s.die = (outTo x [] [] (s.die.slotIn x) (anyLast (s.die.qa x)) [], d)
      ∧ d.tiles = k.tiles ∧ d.rows = k.rows ∧ d.dir = k.dir ∧ Halted x (s.die.slotIn x) k d := by
  have hp := hf.pas_lt
  obtain ⟨hl, -⟩ := fabTally x.p hp T.FAB_HALTS (by simp)
  obtain ⟨r1, -, b1⟩ := haltFields x.p hp R.FAB_HALT_VALID (by simp)
  set d1 := (k.closeEntry x.e x.p).count T.FAB_HALTS x.p with hd1
  have hon : d1.on R.FAB_HALT_VALID x.p = false := by
    rw [Die.on, hd1, ((k.closeEntry x.e x.p).report_count _ _).2 _ _ r1]
    exact Eq.trans (by rw [Die.closeEntry, Die.flag, Die.get_put_other _ _ _ _ _ _ (b1 x.e)]; rfl) hv
  have hrest : d1.tiles = k.tiles ∧ d1.rows = k.rows ∧ d1.dir = k.dir ∧ d1.closed = (k.closeEntry x.e x.p).closed := by simp [hd1, Die.closeEntry]
  obtain ⟨t1, t2, t3, t4⟩ := hrest
  have htal : d1.tally T.FAB_HALTS x.p = tallyAdd (k.tally T.FAB_HALTS x.p) 1 := Die.tally_count_same _ _ _ hl
  have hother (f g : Fld) (hb : g.base = f.base) (h : g.off * 32 + g.lo ≠ f.off * 32 + f.lo) {d : Die} {v : Nat} :
      (d.put f x.p v).get g x.p = d.get g x.p := Die.get_put_other _ _ _ _ _ _ (Fld.key_ne_of_place x.p hb h)
  refine ⟨(((d1.flag R.FAB_HALT_VALID x.p true).put R.FAB_HALT_SLOT x.p (s.die.slotIn x)).put R.FAB_HALT_TILE x.p x.tile).putPair
    R.FAB_HALT_EVID_LO R.FAB_HALT_EVID_HI x.p (d1.slotSt x (s.die.slotIn x)).ev.er.evid, ?_, ?_, ?_, ?_, ?_, ?_, ?_, ?_, ?_⟩
  · unfold haltOp
    simp only [h1, Bool.false_eq_true, if_false]
    exact (if_neg hz).trans (if_neg (by rw [hon]; exact Bool.false_ne_true))
  · simp [t1]
  · simp [t2]
  · simp [t3]
  · rw [Die.putPair, hother R.FAB_HALT_EVID_HI R.FAB_HALT_VALID rfl (by decide), hother R.FAB_HALT_EVID_LO R.FAB_HALT_VALID rfl (by decide),
      hother R.FAB_HALT_TILE R.FAB_HALT_VALID rfl (by decide), hother R.FAB_HALT_SLOT R.FAB_HALT_VALID rfl (by decide), Die.flag, Die.get_put_same]
    rfl
  · rw [Die.putPair, hother R.FAB_HALT_EVID_HI R.FAB_HALT_SLOT rfl (by decide), hother R.FAB_HALT_EVID_LO R.FAB_HALT_SLOT rfl (by decide),
      hother R.FAB_HALT_TILE R.FAB_HALT_SLOT rfl (by decide), Die.get_put_same]
  · rw [Die.putPair, hother R.FAB_HALT_EVID_HI R.FAB_HALT_TILE rfl (by decide), hother R.FAB_HALT_EVID_LO R.FAB_HALT_TILE rfl (by decide), Die.get_put_same]
  · simp [t4]
  · rw [← htal]; simp [Die.tally]

/-- Settles O15: what each operation of the control unit leaves, and what the end of its firing settles. -/
theorem controlUnit : Obligations.ControlUnit := by
  unfold Obligations.ControlUnit
  intro s x hf hs w e g v slot fired passes
  have hp := hf.pas_lt
  obtain ⟨k, h1, h2, h3, -, h5, h6, h7, -⟩ := take_clean s x hs
  have hfired (t : State) (qs : List Nat) (bs : List QBeat) (d : Die) (ht : d.tiles = k.tiles) (hr : d.rows = k.rows) (hd : d.dir = k.dir)
      (h : Fired s x qs bs d t) : fired t ∧ ∀ q, t.die.queue x.tile x.ctx q = s.die.rest x q ++ (if q ∈ qs then bs else []) := by
    refine ⟨⟨?_, h.eq, ?_, ?_, ?_⟩, fun q => ?_⟩
    · rw [h.fires, ← h7, Die.fires, Die.ctx, Die.tile_congr d k ht]; rfl
    · rw [h.rows, hr, h2]
    · rw [h.dir, hd, h2]
    · rw [h.stores, Die.tile_congr d k ht, h5]
    · rw [h.queues, Die.queue_congr d k ht, h3]
  refine ⟨fun hop => ?_, fun hop => ?_, fun hop => ?_, fun hop hz => ?_, fun hop hz _ hv => ?_, fun hop hgo => ?_, fun hop hb hz => ?_⟩
  · have hqa : s.die.qa x = [] := by simp [Die.qa, Fire.need, shapeOf, show opc x.w = 0 from hop]
    have hqb : s.die.qb x = [] := by simp [Die.qb, Fire.need, shapeOf, show opc x.w = 0 from hop]
    obtain ⟨hc, hd⟩ := fire_completes s (.tNop x.tile x.ctx x.op) x (fun w => opc w == 0) nopOp (qs := []) (bs := []) (st := []) hf rfl
      (by simp [hop, w]) List.nodup_nil rfl
    refine ⟨_, hc, ⟨hd.fires, rfl, hd.rows, hd.dir, hd.stores _⟩, fun q => ?_⟩
    rw [hd.queues, Die.rest, hqa, hqb]
    simp
  · obtain ⟨g1, d1, hx, htr, hg⟩ := digestOp_clean s x hf hs h1 h6
    obtain ⟨hc, hd⟩ := fire_completes s (.tDigest x.tile x.ctx x.op) x (fun w => opc w == 33) digestOp hf rfl (by simp [hop, w]) (by split <;> simp) hx
    have htiles : d1.tiles = (k.onTile x.tile (fun t => { t with digests := KMap.set {} t.digests (fld w 41 40) g1 })).tiles := by rw [htr.1.1]
    have hctx : d1.ctx x.tile x.ctx = k.ctx x.tile x.ctx := by
      rw [Die.ctx, Die.tile_congr _ _ htiles]
      exact Die.ctx_onTile _ _ _ _ _ fun _ => rfl
    refine ⟨_, hc, ⟨?_, rfl, ?_, ?_, ?_⟩, fun q => ?_, ?_⟩
    · rw [hd.fires, ← h7, Die.fires, hctx]; rfl
    · exact hd.rows.trans ((congrArg Die.rows htr.1.1).trans ((congrArg Die.rows h2).trans rfl))
    · exact hd.dir.trans ((congrArg Die.dir htr.1.1).trans ((congrArg Die.dir h2).trans rfl))
    · rw [hd.stores, Die.tile_congr _ _ htiles, Die.tile_onTile_same, ← h5]
    · rw [hd.queues, Die.queue, hctx, ← h3]; cases bit w 36 <;> simp <;> rfl
    · rw [hd.digests, Die.tile_congr _ _ htiles, Die.tile_onTile_same, KMap.get_set_same, hg]
  · obtain ⟨d1, hx, ht, hr, hd', hst, hsf⟩ := stepOp_clean s x hf h1
    obtain ⟨hc, hd⟩ := fire_completes s (.tStep x.tile x.ctx x.op) x (fun w => opc w == 34) stepOp hf rfl (by simp [hop, w]) (by split <;> simp) hx
    obtain ⟨hfi, hq⟩ := hfired _ _ _ _ ht hr hd' hd
    obtain ⟨hs1, hs2⟩ := (Die.settled_finish x _ d1).step e x.p
    have heng : k.engPas e x.p = g := by rw [h2]; rfl
    refine ⟨_, hc, hfi, fun q => ?_, hs1.trans (hst.trans (by rw [heng])), hs2.trans (hsf.trans (by rw [heng]))⟩
    rw [hq]; cases bit w 25 <;> simp <;> rfl
  · obtain ⟨hc, hd⟩ := fire_completes s (.tHalt x.tile x.ctx x.op) x (fun w => opc w == 35) haltOp (qs := []) (bs := []) (slot := s.die.slotIn x)
      (last := anyLast (s.die.qa x)) (st := []) (e := k) hf rfl (by simp [hop, w]) List.nodup_nil
      (by unfold haltOp; simp only [h1, Bool.false_eq_true, if_false]; exact if_pos hz)
    obtain ⟨hfi, hq⟩ := hfired _ _ _ _ rfl rfl rfl hd
    refine ⟨_, hc, hfi, fun q => by rw [hq]; simp, ?_⟩
    exact (Die.settled_finish x _ k).closed.trans (by rw [h2])
  · obtain ⟨hl, hu⟩ := fabTally x.p hp T.FAB_HALTS (by simp)
    obtain ⟨r1, n1, -⟩ := haltFields x.p hp R.FAB_HALT_VALID (by simp)
    obtain ⟨r2, n2, -⟩ := haltFields x.p hp R.FAB_HALT_SLOT (by simp)
    obtain ⟨r3, n3, -⟩ := haltFields x.p hp R.FAB_HALT_TILE (by simp)
    obtain ⟨d1, hx, ht, hr, hd', hhalt⟩ := haltOp_first s x hf h1 hz (by rw [h2]; exact hv)
    obtain ⟨hc, hd⟩ := fire_completes s (.tHalt x.tile x.ctx x.op) x (fun w => opc w == 35) haltOp hf rfl (by simp [hop, w]) List.nodup_nil hx
    obtain ⟨hfi, hq⟩ := hfired _ _ _ _ ht hr hd' hd
    have hset := Die.settled_finish x (outTo x [] [] (s.die.slotIn x) (anyLast (s.die.qa x)) []) d1
    refine ⟨_, hc, hfi, fun q => by rw [hq]; simp, ?_, ?_, ?_, fun q hq4 ho => ?_, ?_⟩
    · rw [Die.on, hset.get _ _ r1 n1, hhalt.valid]; rfl
    · rw [hset.get _ _ r2 n2, hhalt.slot]
    · rw [hset.get _ _ r3 n3, hhalt.tile]
    · rw [hset.closed, hhalt.closed]
      exact Die.closed_closeEntry _ _ _ _ hq4 (by rw [h2]; exact ho)
    · refine (hset.tally _ hl hu).trans (hhalt.tally.trans ?_)
      rw [Die.tally, h2]; rfl
  · obtain ⟨hc, hd⟩ := fire_completes s (.tEmit x.tile x.ctx x.op) x (fun w => opc w == 32) emitOp (qs := [opQd w])
      (bs := [⟨BitVec.ofNat 256 (v % 2 ^ 192 + emitDesc w * 2 ^ 192), slot, false, true⟩]) (slot := slot) (last := true) (st := [])
      (e := k.count T.FAB_DECISIONS x.p) hf rfl (by simp [hop, w]) (List.nodup_singleton _) (by
        unfold emitOp
        simp only [h1, hf.2.2.2.2.2.2]
        exact if_pos (by simp only [Bool.false_or, Bool.or_eq_true, Bool.not_eq_true', bne_iff_ne]; exact hgo))
    obtain ⟨hfi, hq⟩ := hfired _ _ _ _ (by simp) (by simp) (by simp) hd
    obtain ⟨hl, hu⟩ := fabTally x.p hp T.FAB_DECISIONS (by simp)
    refine ⟨_, hc, hfi, fun q => by rw [hq]; simp, ?_⟩
    refine ((Die.settled_finish x _ _).tally _ hl hu).trans ((Die.tally_count_same _ _ _ hl).trans ?_)
    rw [Die.tally, h2]; rfl
  · obtain ⟨hc, hd⟩ := fire_completes s (.tEmit x.tile x.ctx x.op) x (fun w => opc w == 32) emitOp (qs := []) (bs := []) (slot := slot)
      (last := true) (st := []) (e := k) hf rfl (by simp [hop, w]) List.nodup_nil (by
        unfold emitOp
        simp only [h1, hf.2.2.2.2.2.2]
        exact if_neg (by
          simp only [Bool.false_or, Bool.or_eq_true, Bool.not_eq_true', bne_iff_ne]
          exact not_or.2 ⟨by rw [show bit x.w 41 = true from hb]; decide, not_not.2 hz⟩))
    obtain ⟨hfi, hq⟩ := hfired _ _ _ _ rfl rfl rfl hd
    exact ⟨_, hc, hfi, fun q => by rw [hq]; simp⟩
end Sys2Proof.Machine
end

section
/-! SUPPORT. Writes of beats to the tile store, lookups where no word is in error, and the operations that store (R206, R211, R215, R219 to R224). -/

namespace Sys2Proof.Machine

@[simp] theorem Die.beat_putBeat_same (t b v : Nat) (d : Die) : (d.putBeat t b v false).beat t b = v % 2 ^ 256 := by
  simp [Die.putBeat, Die.beat, Die.eccClear, Die.tile, Die.onTile]

theorem Die.beat_putBeat_other (t b v c : Nat) (d : Die) (h : c ≠ b) : (d.putBeat t b v false).beat t c = d.beat t c := by
  simp [Die.putBeat, Die.beat, Die.eccClear, Die.tile, Die.onTile, KMap.get_set_other _ _ _ _ _ h]

theorem Die.tile_putBeat_other (t b v u : Nat) (d : Die) (h : u ≠ t) : (d.putBeat t b v false).tile u = d.tile u := by
  simp [Die.putBeat, Die.eccClear, Die.tile, Die.onTile, KMap.get_upd_other _ _ _ _ _ h]

theorem Die.ctx_putBeat (t b v u c : Nat) (d : Die) : (d.putBeat t b v false).ctx u c = d.ctx u c :=
  (Die.ctx_onTile d t u c (fun x => { x with store := KMap.set 0 x.store b (BitVec.ofNat 256 v) }) fun _ => rfl :)

/-- Consecutive beats written from `first` on. -/
def Die.putBeats (t first : Nat) (v : Nat → Nat) (n : Nat) (d : Die) : Die :=
  (List.range n).foldl (fun d i => d.putBeat t (first + i) (v i) false) d

theorem Die.putBeats_succ (t first : Nat) (v : Nat → Nat) (n : Nat) (d : Die) :
    d.putBeats t first v (n + 1) = (d.putBeats t first v n).putBeat t (first + n) (v n) false := by
  simp [Die.putBeats, List.range_succ]

theorem Die.beat_putBeats_in (t first : Nat) (v : Nat → Nat) (n i : Nat) (d : Die) (h : i < n) :
    (d.putBeats t first v n).beat t (first + i) = v i % 2 ^ 256 := by
  induction n with
  | zero => omega
  | succ n ih =>
    rw [Die.putBeats_succ]
    by_cases hi : i = n
    · rw [hi, Die.beat_putBeat_same]
    · rw [Die.beat_putBeat_other _ _ _ _ _ (by omega), ih (by omega)]

theorem Die.beat_putBeats_out (t first : Nat) (v : Nat → Nat) (n b : Nat) (d : Die) (h : b < first ∨ first + n ≤ b) :
    (d.putBeats t first v n).beat t b = d.beat t b := by
  induction n with
  | zero => rfl
  | succ n ih => rw [Die.putBeats_succ, Die.beat_putBeat_other _ _ _ _ _ (by omega), ih (by omega)]

theorem Die.putBeats_keeps (t first : Nat) (v : Nat → Nat) (n : Nat) (d : Die) :
    (∀ u, u ≠ t → (d.putBeats t first v n).tile u = d.tile u) ∧ (∀ u c, (d.putBeats t first v n).ctx u c = d.ctx u c)
      ∧ (d.putBeats t first v n).rows = d.rows := by
  induction n with
  | zero => exact ⟨fun _ _ => rfl, fun _ _ => rfl, rfl⟩
  | succ n ih =>
    obtain ⟨h1, h2, h3⟩ := ih
    rw [Die.putBeats_succ]
    exact ⟨fun u hu => (Die.tile_putBeat_other _ _ _ _ _ hu).trans (h1 u hu), fun u c => (Die.ctx_putBeat _ _ _ _ _ _).trans (h2 u c), h3⟩

/-- Beats written one after another from a list. -/
theorem foldl_putBeat_zip (t first : Nat) (bs : List QBeat) (d : Die) :
    ((List.range bs.length).zip bs).foldl (fun d y => d.putBeat t (first + y.1) y.2.data.toNat false) d
      = d.putBeats t first (fun i => (bs.map (fun b => b.data.toNat)).getD i 0) bs.length := by
  have hzip : (List.range bs.length).zip (bs.map (fun b => b.data.toNat))
      = (List.range bs.length).map (fun i => (i, (bs.map (fun b => b.data.toNat)).getD i 0)) := by
    refine List.ext_getElem (by simp) fun i h1 h2 => ?_
    simp at h1
    simp [h1]
  calc ((List.range bs.length).zip bs).foldl (fun d y => d.putBeat t (first + y.1) y.2.data.toNat false) d
      = ((List.range bs.length).zip (bs.map (fun b => b.data.toNat))).foldl (fun d y => d.putBeat t (first + y.1) y.2 false) d := by
        rw [List.zip_map_right, List.foldl_map]; rfl
    _ = _ := by rw [hzip, List.foldl_map]; rfl

/-- What a firing wrote to the tile store: its beats and no other (R206). -/
def State.wrote (s : State) (c : Instr) (x : Fire) (first n : Nat) (v : Nat → Nat) : Prop :=
  s.completes c (fun t =>
    (∀ i, i < n → t.die.beat x.tile (first + i) = v i % 2 ^ 256) ∧ (∀ b, (b < first ∨ first + n ≤ b) → t.die.beat x.tile b = s.die.beat x.tile b)
    ∧ (∀ u, u ≠ x.tile → (t.die.tile u).store = (s.die.tile u).store)
    ∧ t.die.fires x.tile x.ctx x.op = s.die.fires x.tile x.ctx x.op + 1 ∧ t = { s with die := t.die } ∧ t.die.rows = s.die.rows)

/-- A firing whose operation writes beats behind a sound take. -/
theorem fired_wrote (s : State) (c : Instr) (x : Fire) {k e : Die} {t : State} {qs : List Nat} {bs : List QBeat} (first n : Nat) (v : Nat → Nat)
    (h5 : ∀ u, (k.tile u).store = (s.die.tile u).store) (h7 : k.fires x.tile x.ctx x.op = s.die.fires x.tile x.ctx x.op) (h2 : k.rows = s.die.rows)
    (hk : ∀ u, (e.tile u).store = ((k.putBeats x.tile first v n).tile u).store) (hfi : e.fires x.tile x.ctx x.op = k.fires x.tile x.ctx x.op)
    (hr : e.rows = k.rows) (hc : exec c s = .next t) (hd : Fired s x qs bs e t) : s.wrote c x first n v := by
  have hb (b : Nat) : t.die.beat x.tile b = (k.putBeats x.tile first v n).beat x.tile b := by rw [Die.beat, hd.stores, hk]; rfl
  have hkb (b : Nat) : k.beat x.tile b = s.die.beat x.tile b := by rw [Die.beat, h5]; rfl
  obtain ⟨k1, -, -⟩ := Die.putBeats_keeps x.tile first v n k
  refine ⟨t, hc, fun i hi => ?_, fun b hout => ?_, fun u hu => ?_, ?_, hd.eq, ?_⟩
  · rw [hb, Die.beat_putBeats_in _ _ _ _ _ _ hi]
  · rw [hb, Die.beat_putBeats_out _ _ _ _ _ _ hout, hkb]
  · rw [hd.stores, hk, k1 u hu, h5]
  · rw [hd.fires, hfi, h7]
  · rw [hd.rows, hr, h2]

/-- The bytes that a row read brings, zero where the row lies outside the pasture's share (R87). -/
def Die.rowGot (d : Die) (p ptr words : Nat) : List Byte :=
  if (d.rowAt p ptr words).any (fun a => decide (a < grantField (d.grant p) 8 4) || decide (grantField (d.grant p) 8 4 + grantField (d.grant p) 12 4 ≤ a))
  then List.replicate (8 * words) 0 else d.rowBytes p ptr words

/-- A row read where no word is in error counts at most a violation. -/
theorem Die.readRow_clean (d : Die) (fu : Fused) (p ptr words : Nat) (h : d.ecc = []) (k : d.poison = []) :
    ∃ e, d.readRow fu p ptr words = (d.rowGot p ptr words, false, e) ∧ (e = d ∨ e = d.count (T.OWN_VIOLATION p) 0) := by
  unfold Die.readRow Die.rowGot
  dsimp only
  split
  · exact ⟨_, rfl, .inr rfl⟩
  · rw [Die.eccReadAll_clean _ _ _ _ _ _ h k]
    exact ⟨_, rfl, .inl rfl⟩

/-- The words of a table's row in the image of a pasture. -/
def Die.rowWords (d : Die) (p table : Nat) : Nat :=
  match d.image p with
  | some im => (match tableRec im table with | some t => t.rowUnits | none => 0)
  | none => 0

/-- The directory entry of a key in the live bank (R84). -/
def Die.hit (d : Die) (p table key : Nat) : Option (Nat × DirEnt) :=
  d.dirFind (d.places p table key (d.larder p).live (d.larder p).liveSeed) table key

/-- What a lookup brings where no word is in error: the key's row or the table's default row (R84 to R86). -/
def Die.found (d : Die) (p table key : Nat) : Looked :=
  match d.hit p table key with
  | some (_, e) => ⟨d.rowGot p e.ptr (d.rowWords p table), e.ptr, false, false⟩
  | none => ⟨d.rowGot p (KMap.get 0 (d.larder p).defLive table) (d.rowWords p table), KMap.get 0 (d.larder p).defLive table, true, false⟩

/-- A lookup where no word is in error: what it brings, and what it counts. -/
theorem Die.lookup_clean (d : Die) (fu : Fused) (p table key : Nat) (h : d.ecc = []) (k : d.poison = []) :
    ∃ e, (e = d ∨ e = d.count (T.OWN_VIOLATION p) 0)
      ∧ d.lookup fu p table key = (d.found p table key, if (d.hit p table key).isSome then e else e.count (T.LRD_MISS table) p) := by
  unfold Die.lookup Die.found Die.hit
  simp only [Die.eccRead_clean _ _ _ _ _ _ h k, Die.eccReadAll_clean _ _ _ _ _ _ h k, Bool.false_eq_true, if_false]
  cases d.dirFind (d.places p table key (d.larder p).live (d.larder p).liveSeed) table key with
  | none =>
    obtain ⟨e, he, hcount⟩ := Die.readRow_clean d fu p (KMap.get 0 (d.larder p).defLive table) (d.rowWords p table) h k
    refine ⟨e, hcount, ?_⟩
    exact congrArg (fun r : List Byte × Bool × Die =>
      ((⟨r.1, KMap.get 0 (d.larder p).defLive table, true, r.2.1⟩ : Looked), r.2.2.count (T.LRD_MISS table) p)) he
  | some y =>
    obtain ⟨e, he, hcount⟩ := Die.readRow_clean d fu p y.2.ptr (d.rowWords p table) h k
    refine ⟨e, hcount, ?_⟩
    exact congrArg (fun r : List Byte × Bool × Die => ((⟨r.1, y.2.ptr, false, r.2.1⟩ : Looked), r.2.2)) he

/-- RING's key (R219). -/
def ringKey (d : Die) (x : Fire) : Nat :=
  if bit x.w 38 then lane (((d.qa x).map (fun b => b.data.toNat)).headD 0) (fld x.w 37 35) else (d.slotSt x (d.slotIn x)).ev.er.key

/-- RING where no word is in error. -/
theorem ringOp_clean (s : State) (x : Fire) {k : Die} (hf : s.fires x) (hs : s.sound x)
    (h1 : s.die.take s.fused x = (⟨s.die.qa x, s.die.qb x, s.die.slotIn x, false⟩, k)) (h2 : k = { s.die with tiles := k.tiles }) :
    ∃ d e, (e = k ∨ e = k.count (T.OWN_VIOLATION x.p) 0) ∧ (d = e ∨ d = e.count (T.LRD_MISS (fld x.w 41 39)) x.p)
      ∧ ringOp s.fused x s.die = (outTo x [opQd x.w] (outBeats (s.die.slotIn x) false ((List.range (fld x.w 34 32 + 1)).map (fun i =>
        leNat (slice (s.die.lookup s.fused x.p (fld x.w 41 39) (ringKey s.die x)).1.row (32 * (fld x.w 31 27 + i)) 32)))) (s.die.slotIn x)
          (anyLast (s.die.qa x)) [], d) := by
  obtain ⟨e, he, hk⟩ := k.lookup_clean s.fused x.p (fld x.w 41 39) (ringKey s.die x) (by rw [h2]; exact hs.1) (by rw [h2]; exact hs.2.1)
  obtain ⟨_, _, hl⟩ := s.die.lookup_clean s.fused x.p (fld x.w 41 39) (ringKey s.die x) hs.1 hs.2.1
  have hfound : k.found x.p (fld x.w 41 39) (ringKey s.die x) = s.die.found x.p (fld x.w 41 39) (ringKey s.die x) := by rw [h2]; rfl
  have hpoison : (s.die.found x.p (fld x.w 41 39) (ringKey s.die x)).poison = false := by
    unfold Die.found; split <;> rfl
  refine ⟨if (k.hit x.p (fld x.w 41 39) (ringKey s.die x)).isSome then e else e.count (T.LRD_MISS (fld x.w 41 39)) x.p, e, he, ?_, ?_⟩
  rotate_left
  · unfold ringOp
    extract_lets w nb k0 v key l off bs
    have hk0 : k0 = (⟨s.die.qa x, s.die.qb x, s.die.slotIn x, false⟩, k) := h1
    have hkey : key = ringKey s.die x := by
      have hv : v = ((s.die.qa x).map (fun b => b.data.toNat)).headD 0 := by
        simp only [v, hk0]
        cases s.die.qa x <;> rfl
      have hslot : k.slotSt x (s.die.slotIn x) = s.die.slotSt x (s.die.slotIn x) := by rw [h2]; rfl
      simp only [key, hv, hk0, ringKey, hslot]
      rfl
    have hl' : l = (s.die.found x.p (fld x.w 41 39) (ringKey s.die x), if (k.hit x.p (fld x.w 41 39) (ringKey s.die x)).isSome then e
        else e.count (T.LRD_MISS (fld x.w 41 39)) x.p) := by
      simp only [l, hk0, Bool.false_eq_true, if_false, hkey]
      rw [hk, hfound]
    simp only [bs, hl', hk0, hpoison, hl, Bool.or_self]
    rw [show opCtx w = x.ctx from hf.2.2.2.2.2.2]
    rfl
  · split
    · exact .inl rfl
    · exact .inr rfl

/-- The markers are the only thing of the Larder that clearing one changes. -/
theorem Die.rowAt_clearMarker (d : Die) (p ticket q ptr words : Nat) : (d.clearMarker p ticket).rowAt q ptr words = d.rowAt q ptr words := by
  have h : ((d.clearMarker p ticket).larder q).alloc = (d.larder q).alloc := by
    simp only [Die.larder, Die.clearMarker, Die.onLar]
    by_cases hq : q = p
    · rw [hq, KMap.get_upd_same]
    · rw [KMap.get_upd_other _ _ _ _ _ hq]
  unfold Die.rowAt
  rw [h]

/-- The row words that a row written takes (R222). -/
theorem Die.putRow_eq (p ptr words : Nat) (bs : List Byte) (d : Die) :
    (d.putRow p ptr words bs).rows = ((d.rowAt p ptr words).zip (chunk 8 words (padTo (8 * words) bs))).foldl
        (fun m y => KMap.set 0 m y.1 (BitVec.ofNat 64 (leNat y.2))) d.rows
      ∧ (d.putRow p ptr words bs).dir = d.dir ∧ (d.putRow p ptr words bs).tiles = d.tiles := by
  unfold Die.putRow
  dsimp only
  rw [List.zip_map_right, List.foldl_map]
  refine ⟨?_, foldl_keeps Die.dir _ (fun _ _ => by rfl) _ _, foldl_keeps Die.tiles _ (fun _ _ => by rfl) _ _⟩
  generalize (d.rowAt p ptr words).zip (chunk 8 words (padTo (8 * words) bs)) = l
  induction l generalizing d with
  | nil => rfl
  | cons y l ih => rw [List.foldl_cons, List.foldl_cons, ih]; rfl

/-- SHIFTW: the window's head goes on and its tap is written (R215). -/
def shiftwDie (x : Fire) (h v : Nat) (d : Die) : Die :=
  (d.onCtx x.tile x.ctx (fun c => { c with heads := KMap.set 0 c.heads (fld x.w 41 39) h })).putBeat x.tile (fld x.w 38 29 + h) v false

theorem shiftwDie_keeps (x : Fire) (h v : Nat) (d : Die) :
    (∀ u, ((shiftwDie x h v d).tile u).store = ((d.putBeats x.tile (fld x.w 38 29 + h) (fun _ => v) 1).tile u).store)
      ∧ (∀ q, (shiftwDie x h v d).queue x.tile x.ctx q = d.queue x.tile x.ctx q)
      ∧ (shiftwDie x h v d).fires x.tile x.ctx x.op = d.fires x.tile x.ctx x.op
      ∧ KMap.get 0 ((shiftwDie x h v d).ctx x.tile x.ctx).heads (fld x.w 41 39) = h := by
  have hctx : (shiftwDie x h v d).ctx x.tile x.ctx = { d.ctx x.tile x.ctx with heads := KMap.set 0 (d.ctx x.tile x.ctx).heads (fld x.w 41 39) h } := by
    rw [shiftwDie, Die.ctx_putBeat, Die.ctx_onCtx_same]
  refine ⟨fun u => ?_, fun q => by rw [Die.queue, hctx]; rfl, by rw [Die.fires, hctx]; rfl, by rw [hctx, KMap.get_set_same]⟩
  show ((shiftwDie x h v d).tile u).store = ((d.putBeat x.tile (fld x.w 38 29 + h) v false).tile u).store
  simp only [shiftwDie, Die.putBeat, Die.eccClear, Bool.false_eq_true, if_false, Die.tile, Die.onTile, Die.onCtx]
  by_cases hu : u = x.tile
  · subst hu; simp only [KMap.get_upd_same]
  · simp only [KMap.get_upd_other _ _ _ _ _ hu]

theorem shiftwOp_clean (s : State) (x : Fire) {k : Die} (hf : s.fires x)
    (h1 : s.die.take s.fused x = (⟨s.die.qa x, s.die.qb x, s.die.slotIn x, false⟩, k))
    (h8 : (k.ctx x.tile x.ctx).heads = (s.die.ctx x.tile x.ctx).heads) :
    let h := (KMap.get 0 (s.die.ctx x.tile x.ctx).heads (fld x.w 41 39) + 1) % (fld x.w 28 23 + 1)
    let v := ((s.die.qa x).map (fun b => b.data.toNat)).headD 0
    shiftwOp s.fused x s.die = (outTo x (lqs (fld x.w 22 19)) [⟨BitVec.ofNat 256 (h + fld x.w 41 39 * 256), s.die.slotIn x, false, true⟩] (s.die.slotIn x)
      (anyLast (s.die.qa x)) (outBeats (s.die.slotIn x) false [v]), shiftwDie x h v k) := by
  intro h v
  unfold shiftwOp
  simp only [h1, Bool.false_eq_true, if_false, h8, hf.2.2.2.2.2.2, v]
  generalize s.die.qa x = l
  cases l <;> rfl

/-- A ring lookup of a firing counts, and changes neither tiles nor Larder. -/
theorem ring_keeps {x : Fire} {k e d : Die} (he : e = k ∨ e = k.count (T.OWN_VIOLATION x.p) 0)
    (hd : d = e ∨ d = e.count (T.LRD_MISS (fld x.w 41 39)) x.p) : d.tiles = k.tiles ∧ d.rows = k.rows ∧ d.dir = k.dir := by
  have hcount : ∀ (t : Tal) (i : Nat) (f : Die), (f.count t i).tiles = f.tiles ∧ (f.count t i).rows = f.rows ∧ (f.count t i).dir = f.dir := by simp
  have hek : e.tiles = k.tiles ∧ e.rows = k.rows ∧ e.dir = k.dir := by
    rcases he with rfl | rfl
    · exact ⟨rfl, rfl, rfl⟩
    · exact hcount _ _ _
  rcases hd with rfl | rfl
  · exact hek
  · obtain ⟨c1, c2, c3⟩ := hcount (T.LRD_MISS (fld x.w 41 39)) x.p e
    exact ⟨c1.trans hek.1, c2.trans hek.2.1, c3.trans hek.2.2⟩

theorem fld_lt (w hi lo : Nat) : fld w hi lo < 2 ^ (hi + 1 - lo) := Nat.mod_lt _ (Nat.two_pow_pos _)

/-- A ring lookup leaves the tally of the late rows. -/
theorem ring_tally {x : Fire} {k e d : Die} (hp : x.p < 64) (he : e = k ∨ e = k.count (T.OWN_VIOLATION x.p) 0)
    (hd : d = e ∨ d = e.count (T.LRD_MISS (fld x.w 41 39)) x.p) : d.tally T.FAB_RING_LATE x.p = k.tally T.FAB_RING_LATE x.p := by
  obtain ⟨hl, -⟩ := fabTally x.p hp T.FAB_RING_LATE (by simp)
  have hother (t : Tal) (i : Nat) (f : Die) (h : T.FAB_RING_LATE.key x.p ≠ t.key i) :
      (f.count t i).tally T.FAB_RING_LATE x.p = f.tally T.FAB_RING_LATE x.p := Die.tally_countBy_other t i 1 _ f hl h
  have hek : e.tally T.FAB_RING_LATE x.p = k.tally T.FAB_RING_LATE x.p := by
    rcases he with rfl | rfl
    · rfl
    · refine hother _ _ _ ?_
      simp only [Tal.key, T.FAB_RING_LATE, T.OWN_VIOLATION]; omega
  rcases hd with rfl | rfl
  · exact hek
  · refine (hother _ _ _ ?_).trans hek
    have := fld_lt x.w 41 39
    simp only [Tal.key, T.FAB_RING_LATE, T.LRD_MISS]; omega

/-- STOREK of a row that its event looked up, with its words in the pasture's share (R222 to R224). -/
theorem storek_clean (ev : Ev) (p tb words : Nat) (bs : List Byte) (d : Die) (hpoi : d.poison = [])
    (hw : d.rowWords p tb = words) (htab : ev.table = some tb) (hmiss : ev.miss = false)
    (hdir : (d.hit p tb ev.er.key).map (fun y => y.2.ptr) = some ev.rowPtr)
    (hrows : ∀ a ∈ d.rowAt p ev.rowPtr words, grantField (d.grant p) 8 4 ≤ a ∧ a < grantField (d.grant p) 8 4 + grantField (d.grant p) 12 4) :
    ∃ e, (e = d ∨ e = d.clearMarker p ev.ticket) ∧ d.storek ev p tb bs false = e.putRow p ev.rowPtr words (bs.take (8 * words)) := by
  refine ⟨if ev.marker ∧ ev.table = some tb then d.clearMarker p ev.ticket else d, ?_, ?_⟩
  · split
    · exact .inr rfl
    · exact .inl rfl
  · unfold Die.storek
    extract_lets words' lar d1 cur g lo ws d2 d3
    have hws : ws.any (fun a => decide (a < lo) || decide (lo + grantField g 12 4 ≤ a)) = false := by
      rw [List.any_eq_false]
      intro a ha
      have hw' : words' = words := hw
      obtain ⟨r1, r2⟩ := hrows a (by simpa only [ws, hw'] using ha)
      simp only [Bool.or_eq_true, decide_eq_true_eq]
      exact not_or.2 ⟨not_lt.2 r1, not_le.2 r2⟩
    have hwp : ws.any (fun a => KMap.get false d.poison (eccKey 5 a)) = false := by
      rw [hpoi]; simp
    have hcur : ¬(cur.map (fun y => y.2.ptr) ≠ some ev.rowPtr) := not_not.2 hdir
    rw [if_neg (by simp [htab, hmiss]), if_neg hcur, hws, hwp]
    simp only [Bool.false_eq_true, if_false]
    show d1.putRow p ev.rowPtr words' _ = _
    rw [show words' = words from hw]

/-- Settles O14: what each operation writes behind its take. -/
theorem storesWrite : Obligations.StoresWrite := by
  unfold Obligations.StoresWrite
  intro s x hf hs w raw qa wrote
  have hp := hf.pas_lt
  obtain ⟨k, h1, h2, h3, -, h5, -, h7, h8⟩ := take_clean s x hs
  refine ⟨fun hop hsub hlen => ?_, fun hop => ?_, fun hop => ?_, fun hop => ?_, fun hop => ?_⟩
  · have hlen' : (s.die.qa x).length = fld w 41 39 + 1 := by rw [← hlen]; simp [qa]
    obtain ⟨hc, hd⟩ := fire_completes s (.tMovq x.tile x.ctx x.op) x (fun w => opc w == 21) movqOp (qs := []) (bs := []) (slot := s.die.slotIn x)
      (last := anyLast (s.die.qa x)) (st := moved false (s.die.qa x))
      (e := k.putBeats x.tile (fld w 36 27) (fun i => qa.getD i 0) (fld w 41 39 + 1)) hf rfl (by simp [hop, w]) List.nodup_nil (by
        unfold movqOp
        simp only [show fld x.w 38 37 = 1 from hsub, h1, Bool.false_eq_true, if_false]
        rw [← hlen', foldl_putBeat_zip]
        rfl)
    exact fired_wrote s _ x _ _ _ h5 h7 ((congrArg Die.rows h2).trans rfl) (fun _ => rfl)
      (by rw [Die.fires, (Die.putBeats_keeps _ _ _ _ _).2.1]; rfl) (Die.putBeats_keeps _ _ _ _ _).2.2 hc hd
  · intro ew ndb ba new
    have hecc : k.ecc = [] := ((congrArg Die.ecc h2).trans rfl).trans hs.1
    have hpoi : k.poison = [] := ((congrArg Die.poison h2).trans rfl).trans hs.2.1
    have hraw : k.beat x.tile = raw := by funext b; simp only [Die.beat, h5, raw]
    obtain ⟨hc, hd⟩ := fire_completes s (.tScatter x.tile x.ctx x.op) x (fun w => opc w == 24) scatterOp (qs := []) (bs := []) (slot := s.die.slotIn x)
      (last := anyLast (s.die.qa x)) (st := outBeats (s.die.slotIn x) false ((List.range ndb).map (fun i => bits new (256 * i) 256)))
      (e := k.putBeats x.tile ba (fun i => bits new (256 * i) 256) ndb) hf rfl (by simp [hop, w]) List.nodup_nil (by
        unfold scatterOp
        simp only [h1, Die.readBeats_clean _ _ _ _ hecc hpoi, hraw, Bool.or_self, Bool.false_eq_true, if_false]
        simp only [new, qa, List.length_map]
        rfl)
    exact fired_wrote s _ x _ _ _ h5 h7 ((congrArg Die.rows h2).trans rfl) (fun _ => rfl)
      (by rw [Die.fires, (Die.putBeats_keeps _ _ _ _ _).2.1]; rfl) (Die.putBeats_keeps _ _ _ _ _).2.2 hc hd
  · intro win h
    obtain ⟨hc, hd⟩ := fire_completes s (.tShiftw x.tile x.ctx x.op) x (fun w => opc w == 25) shiftwOp hf rfl (by simp [hop, w]) (nodup_lqs _)
      (shiftwOp_clean s x hf h1 h8)
    obtain ⟨k1, k2, k3, k4⟩ := shiftwDie_keeps x h (qa.headD 0) k
    refine ⟨fired_wrote s _ x (fld w 38 29 + h) 1 (fun _ => qa.headD 0) h5 h7 ((congrArg Die.rows h2).trans rfl) k1 k3 rfl hc hd, _, hc, ?_, fun q => ?_⟩
    · rw [hd.heads]; exact k4
    · rw [hd.queues, ← h3, ← k2]
  · intro key row bs
    obtain ⟨d, e, he, hd, hx⟩ := ringOp_clean s x hf hs h1 h2
    have hkeep := ring_keeps he hd
    refine ⟨fire_yields s _ x (fun w => opc w == 28) ringOp hf hs rfl (by simp [hop, w]) hx ⟨k, h1, hkeep⟩, fun hmode => ?_⟩
    have hx' : ringLateOp s.fused x s.die = (outTo x [opQd x.w] bs (s.die.slotIn x) (anyLast (s.die.qa x)) [],
        (d.count T.FAB_RING_LATE x.p).count T.FAB_TIMING_CHOICE x.p) := by unfold ringLateOp; rw [hx]; rfl
    refine ⟨fire_yields s _ x (fun w => opc w == 28 && s.die.get R.DEV_TIMING_STATUS_MODE == 0) ringLateOp hf hs rfl (by simp [hop, hmode, w]) hx'
      ⟨k, h1, ?_⟩, ?_⟩
    · simpa using hkeep
    · obtain ⟨hc, -⟩ := fire_completes s (.tRingLate x.tile x.ctx x.op) x (fun w => opc w == 28 && s.die.get R.DEV_TIMING_STATUS_MODE == 0) ringLateOp
        hf rfl (by simp [hop, hmode, w]) (List.nodup_singleton _) hx'
      obtain ⟨hl, hu⟩ := fabTally x.p hp T.FAB_RING_LATE (by simp)
      refine ⟨_, hc, ((Die.settled_finish x _ _).tally _ hl hu).trans ?_⟩
      refine (Die.tally_countBy_other T.FAB_TIMING_CHOICE x.p 1 _ _ hl (by simp only [Tal.key, T.FAB_RING_LATE, T.FAB_TIMING_CHOICE]; omega)).trans ?_
      refine (Die.tally_count_same T.FAB_RING_LATE x.p d hl).trans ?_
      rw [ring_tally hp he hd, Die.tally, h2]
      rfl
  · intro e tb L words htab hmiss him hdir hrows
    have hpoi : k.poison = [] := ((congrArg Die.poison h2).trans rfl).trans hs.2.1
    have hev : (k.slotSt x (s.die.slotIn x)).ev = e := by rw [h2]; rfl
    have hwords : k.rowWords x.p tb = words := by
      have : k.image x.p = some x.im := by rw [h2]; exact him
      unfold Die.rowWords
      rw [this] <;> rfl
    obtain ⟨d, hd, hst⟩ := storek_clean e x.p tb words (leBytes (32 * (s.die.qa x).length) (joinBeats qa)) k hpoi hwords htab hmiss
      (by rw [h2]; exact hdir) (by rw [h2]; exact hrows)
    obtain ⟨p1, p2, p3⟩ := Die.putRow_eq x.p e.rowPtr words ((leBytes (32 * (s.die.qa x).length) (joinBeats qa)).take (8 * words)) d
    have hdk : d.rows = s.die.rows ∧ d.dir = s.die.dir ∧ d.tiles = k.tiles ∧ d.rowAt x.p e.rowPtr words = s.die.rowAt x.p e.rowPtr words := by
      have hk : k.rowAt x.p e.rowPtr words = s.die.rowAt x.p e.rowPtr words := by rw [h2]; rfl
      rcases hd with rfl | rfl
      · exact ⟨(congrArg Die.rows h2).trans rfl, (congrArg Die.dir h2).trans rfl, rfl, hk⟩
      · exact ⟨(congrArg Die.rows h2).trans rfl, (congrArg Die.dir h2).trans rfl, rfl, (Die.rowAt_clearMarker _ _ _ _ _ _).trans hk⟩
    obtain ⟨hc, hfi⟩ := fire_completes s (.tStorek x.tile x.ctx x.op) x (fun w => opc w == 29) storekOp (qs := []) (bs := []) (slot := s.die.slotIn x)
      (last := anyLast (s.die.qa x)) (st := []) hf rfl (by simp [hop, w]) List.nodup_nil (by
        unfold storekOp
        simp only [h1]
        rw [hev]
        exact congrArg (Prod.mk _) hst)
    refine ⟨_, hc, ?_, ?_, ?_, rfl⟩
    · rw [hfi.rows, p1, hdk.1, hdk.2.2.2]
    · rw [hfi.dir, p2, hdk.2.1]
    · rw [hfi.fires, ← h7, Die.fires, Die.ctx, Die.tile_congr _ k (p3.trans hdk.2.2.1)]; rfl
end Sys2Proof.Machine
end

section
/-! SUPPORT. What the intake of frames and records leaves alone, and how records close, are dropped and are assembled (R57 to R70). -/

namespace Sys2Proof.Machine

/-- `e` is as `d` but for parsers, feed queues, the pastures' own states and what reports. -/
def Die.intake (d e : Die) : Prop := ({ d with parsers := e.parsers, feeds := e.feeds, pas := e.pas } : Die).report e

theorem Die.intake_refl (d : Die) : d.intake d := Die.report_refl d

theorem Die.intake.trans {d e f : Die} (h : d.intake e) (k : e.intake f) : d.intake f := by
  refine ⟨?_, fun g i hg => (k.2 g i hg).trans (h.2 g i hg)⟩
  rw [k.1, h.1]

theorem Die.report.intake {d e : Die} (h : d.report e) : d.intake e := by
  refine ⟨?_, h.2⟩
  rw [h.1]

theorem Die.intake_putParser (g : Nat) (x : Parser) (d : Die) : d.intake (d.putParser g x) := ⟨rfl, fun _ _ _ => rfl⟩

theorem Die.intake_onPas (p : Nat) (f : PasSt → PasSt) (d : Die) : d.intake (d.onPas p f) := ⟨rfl, fun _ _ _ => rfl⟩

theorem Die.intake_feeds (m : KMap (List EvRec)) (d : Die) : d.intake { d with feeds := m } := ⟨rfl, fun _ _ _ => rfl⟩

/-- What a report leaves: parsers, feed queues and pastures. -/
theorem Die.report.parsers {d e : Die} (h : d.report e) : e.parsers = d.parsers := (congrArg Die.parsers h.1).trans rfl
theorem Die.report.feeds {d e : Die} (h : d.report e) : e.feeds = d.feeds := (congrArg Die.feeds h.1).trans rfl
theorem Die.report.pas {d e : Die} (h : d.report e) : e.pas = d.pas := (congrArg Die.pas h.1).trans rfl

/-- A state behind an intake that left feed queues and pastures is as `parsersReport` says. -/
theorem Die.intake.parsersReport {s : State} {e : Die} (h : s.die.intake e) (hf : e.feeds = s.die.feeds) (hp : e.pas = s.die.pas) :
    s.parsersReport { s with die := e } := by
  refine ⟨rfl, ?_⟩
  have h' := h
  unfold Die.intake at h'
  rw [hf, hp] at h'
  exact h'

/-- A tally of a register block at or above 0x340000, or below 0x31000, is counted by no trace packet. -/
theorem loftTally_false {t : Tal} {i : Nat} (h : t.key i < 0x31000 ∨ (0x32000 ≤ t.key i ∧ (t.key i < 0x300000 ∨ 0x340000 ≤ t.key i ∨ t.key i % 0x1000 ≠ 0xC28))) :
    loftTally (t.key i) = false := by
  unfold loftTally
  simp only [Bool.or_eq_false_iff, Bool.and_eq_false_iff, decide_eq_false_iff_not, beq_eq_false_iff_ne]
  omega

/-- The parser that a closed record leaves (R57, R60). -/
def Parser.recClosed (x : Parser) : Parser :=
  { x with closed := x.closed + 1
           closing := x.closing ++ [⟨(match x.evid with | some v => some v | none => x.replayEvid), x.key, x.tb, x.fields⟩]
           key := 0, evid := none, fields := List.replicate 40 0, touched := false, emitted := true, msgStart := x.cursor, pc := x.pc + 1 }

/-- The end of a record that is live and not one too many, outside replay. -/
theorem Die.closeRec_live (g : Nat) (fin : Bool) (d : Die) (hlive : (d.parser g).dropped = false) (hclosed : (d.parser g).closed < 8)
    (hreplay : d.on R.FAB_REPLAY_ENABLE (d.parser g).pasture = false) :
    d.closeRec g fin = (d.putParser g { (d.parser g).recClosed with running := !fin }).count T.ING_RECORDS g := by
  unfold Die.closeRec
  extract_lets x r d1 d2
  have hd1 : d1 = d.putParser g { x.recClosed with running := !fin } := by
    simp only [d1, show x.dropped = false from hlive, Bool.false_eq_true, if_false]
    unfold Parser.recClosed
    rw [show x.dropped = false from hlive] <;> rfl
  have hon : d2.on R.FAB_REPLAY_ENABLE x.pasture = false := by
    have hword : reportWord (R.FAB_REPLAY_ENABLE.key x.pasture / 32) = false := by
      have hk : R.FAB_REPLAY_ENABLE.key x.pasture / 32 = 0x380030 + x.pasture * 0x1000 := by simp only [Fld.key, R.FAB_REPLAY_ENABLE]; omega
      rw [hk]; unfold reportWord; simp; omega
    rw [Die.on, (d1.report_count T.ING_RECORDS g).2 _ _ hword, hd1]
    exact hreplay
  rw [if_neg (by show ¬8 ≤ x.closed; exact not_le.2 hclosed), show x.dropped = false from hlive]
  simp only [Bool.false_eq_true, if_false, hon]
  exact congrArg (Die.count T.ING_RECORDS g) hd1

/-- A count leaves the parsers; the end of an instruction behind it moves one. -/
theorem State.count_pEnd (g : Nat) (t : Tal) (i : Nat) (y : Parser) (s : State) (ht : loftTally (t.key i) = false)
    (hend : y.running = false ∨ y.pc < y.instrs.length) :
    (((s.die.putParser g y).count t i).pEnd g).parser g = y.settle
      ∧ (((s.die.putParser g y).count t i).pEnd g).tally t i = tallyAdd (s.die.tally t i) 1
      ∧ s.parsersReport { s with die := (((s.die.putParser g y).count t i).pEnd g) } := by
  have hpar : ((s.die.putParser g y).count t i).parser g = y := by rw [Die.parser_count, Die.parser_putParser_same]
  have hrep := (s.die.putParser g y).report_count t i
  rw [Die.pEnd_frame _ _ (by rw [hpar]; exact hend), hpar]
  refine ⟨Die.parser_putParser_same _ _ _, ?_, ?_⟩
  · rw [← show (s.die.putParser g y).tally t i = s.die.tally t i from rfl, ← Die.tally_count_same t i _ ht]
    rfl
  · refine Die.intake.parsersReport (((Die.intake_putParser g y _).trans hrep.intake).trans (Die.intake_putParser g _ _)) ?_ ?_
    · exact hrep.feeds
    · exact hrep.pas

/-- The end of a stile crossing counts at most. -/
theorem Die.report_stile (p three n : Nat) (d : Die) : d.report (d.stile p three n) := by
  unfold Die.stile
  exact Die.report_ite (Die.report_countBy _ _ _ _) d.report_refl

/-- The reflex stage where no rule stands and the pasture serves (R70): the record joins its feed queue. -/
theorem State.reflexStage_plain (g : Nat) (r : EvRec) (s : State) (im : Image) (him : s.die.image r.pasture = some im) (hpoison : r.poison = false)
    (hreflex : im.reflex = []) (heng : im.engines ≠ []) (hleave : (s.die.pasture r.pasture).leaving = 0)
    (hroom : (KMap.get [] s.die.feeds (g * 64 + r.pasture)).length < 16) :
    ∃ e v, (s.die.onPas r.pasture (fun q => { q with reflexExcess := v })).report e
      ∧ s.reflexStage g r = { s with die := { e with
          feeds := KMap.set [] s.die.feeds (g * 64 + r.pasture) (KMap.get [] s.die.feeds (g * 64 + r.pasture) ++ [r]) } } := by
  unfold State.reflexStage
  extract_lets p rb s0 k
  split
  case h_1 hnone => exact absurd (hnone.symm.trans him) (by simp)
  case h_2 im' hsome =>
  obtain rfl : im = im' := Option.some.inj (him.symm.trans hsome)
  extract_lets groups s1 u v s2 s3 q
  have hgroups : groups = [] := by simp only [groups, hpoison, hreflex, reflexGroups, Bool.false_eq_true, if_false]
  have hs1 : s1 = s := by
    simp only [s1, hgroups, s0, hpoison, Bool.false_eq_true, if_false, reflexFire]
    cases s.die.on R.FAB_REPLAY_ENABLE p <;> rfl
  have hs2 : s2 = { s with die := s.die.onPas r.pasture (fun q => { q with reflexExcess := v }) } := by simp only [s2, hs1]; rfl
  have hs3 : s3 = { s with die := s3.die } ∧ s2.die.report s3.die := by
    simp only [s3]
    split
    · exact ⟨by rw [hs2], Die.report_alarm 15 (by decide) _⟩
    · exact ⟨by rw [hs2], Die.report_refl _⟩
  obtain ⟨h1, h2⟩ := hs3
  have hd2 : s2.die = s.die.onPas r.pasture (fun q => { q with reflexExcess := v }) := by rw [hs2]
  rw [hd2] at h2
  refine ⟨s3.die, v, h2, ?_⟩
  have hleave' : (s3.die.pasture r.pasture).leaving = 0 := by
    rw [Die.pasture, h2.pas]
    simp only [Die.onPas, KMap.get_upd_same]
    exact hleave
  have hfeeds : s3.die.feeds = s.die.feeds := h2.feeds
  have hq : q.length < 16 := by simp only [q, k, hfeeds]; exact hroom
  have hempty : im.engines.isEmpty = false := by simpa using heng
  rw [hempty, hgroups, if_neg (by simp), if_neg (not_not.2 hleave'), if_pos hq, h1]
  simp only [q, k, hfeeds]
  rfl

/-- The event ID of a record: its own, or the pasture's counter, which goes on (R69). -/
theorem Die.takeEvid_spec (p : Nat) (e : Option Nat) (d : Die) :
    (d.takeEvid p e).1 = (match e with | some v => v | none => (d.pasture p).evCounter)
      ∧ (d.takeEvid p e).2.pasture p = { d.pasture p with evCounter := (match e with
          | some _ => (d.pasture p).evCounter | none => ((d.pasture p).evCounter + 1) % 2 ^ 48) }
      ∧ d.intake (d.takeEvid p e).2 ∧ (d.takeEvid p e).2.parsers = d.parsers ∧ (d.takeEvid p e).2.feeds = d.feeds := by
  cases e with
  | some v => exact ⟨rfl, rfl, d.intake_refl, rfl, rfl⟩
  | none =>
    refine ⟨rfl, ?_, d.intake_onPas _ _, rfl, rfl⟩
    simp only [Die.takeEvid, Die.pasture, Die.onPas, KMap.get_upd_same]

/-- A sublist's first frame with a closed record, and what replacing it leaves. -/
theorem find_putTail (sel : FrameTail → Bool) (before after : List FrameTail) (x y : FrameTail) (hb : ∀ z ∈ before, sel z = false) (hx : sel x = true) :
    (before ++ x :: after).find? sel = some x
      ∧ putTail sel y (before ++ x :: after) = before ++ (if y.over then after else y :: after) := by
  induction before with
  | nil => simp [putTail, hx]
  | cons z zs ih =>
    obtain ⟨h1, h2⟩ := ih fun u hu => hb u (List.mem_cons_of_mem _ hu)
    have hz := hb z List.mem_cons_self
    exact ⟨by rw [List.cons_append, List.find?_cons, hz]; exact h1, by simp [putTail, hz, h2]⟩

/-- The parser that the frame of an assembled record leaves behind: in the hand, or among the frames before it. -/
def Parser.tailsPut (y : Parser) (z : FrameTail) : Parser := match y.tails.find? (fun z => !z.closing.isEmpty) with
  | some _ => Parser.settle { y with tails := putTail (fun z => !z.closing.isEmpty) z y.tails }
  | none => Parser.settle (y.withTail z)

/-- The frame whose record is assembled next. -/
def Parser.oldest (y : Parser) : FrameTail := (y.tails.find? (fun z => !z.closing.isEmpty)).getD y.tail

/-- The assembly of a record (R62, R66 to R70) whose queue entry is not in error. -/
theorem State.assemble_plain (s : State) (g n : Nat) (c : ClosedRec) (rest : List ClosedRec) (im : Image)
    (hp : (s.die.parser g).oldest.pasture < 64) (hclosing : (s.die.parser g).oldest.closing = c :: rest)
    (hreplay : s.die.on R.FAB_REPLAY_ENABLE (s.die.parser g).oldest.pasture = false)
    (hecc : KMap.get 0 s.die.ecc (12 * 2 ^ 40 + g * 64 + (s.die.parser g).oldest.pasture) ≠ 2)
    (him : s.die.image (s.die.parser g).oldest.pasture = some im) (hreflex : im.reflex = []) (heng : im.engines ≠ [])
    (hroom : (KMap.get [] s.die.feeds (g * 64 + (s.die.parser g).oldest.pasture)).length < 16)
    (hleave : (s.die.pasture (s.die.parser g).oldest.pasture).leaving = 0) :
    let x := (s.die.parser g).oldest
    let r : EvRec := { evid := match c.evid with | some v => v | none => (s.die.pasture x.pasture).evCounter
                       key := c.key, pasture := x.pasture, source := x.srcCode, tb := c.tb, ts := x.stamps.getD c.tb {}, fields := c.fields
                       poison := false, inFc16 := x.inFc16, table := x.table }
    (if x.wait = true ∧ x.fcsDue = true then
       (s.assemble g n).die.parser g = (s.die.parser g).tailsPut { x with closing := rest, held := x.held ++ [r] } ∧ (s.assemble g n).die.feeds = s.die.feeds
     else (s.assemble g n).die.parser g = (s.die.parser g).tailsPut { x with closing := rest, left := x.left + 1 }
       ∧ KMap.get [] (s.assemble g n).die.feeds (g * 64 + x.pasture) = KMap.get [] s.die.feeds (g * 64 + x.pasture) ++ [r])
    ∧ ((s.assemble g n).die.pasture x.pasture).evCounter =
        (match c.evid with
          | some _ => (s.die.pasture x.pasture).evCounter
          | none => ((s.die.pasture x.pasture).evCounter + 1) % 2 ^ 48)
    ∧ (s.assemble g n).cel = s.cel ∧ (s.assemble g n).kill = s.kill ∧ s.die.intake (s.assemble g n).die := by
  intro x r
  obtain ⟨e1, e2, e3, e4, e5⟩ := s.die.takeEvid_spec x.pasture c.evid
  set ev := s.die.takeEvid x.pasture c.evid with hev
  set d1 := (ev.2.stage 2 g x.pasture r.evid 0 1).stile x.pasture n 1 with hd1
  have hrep : ev.2.report d1 := (ev.2.report_stage _ _ _ _ _ _ hp).trans (Die.report_stile _ _ _ _)
  have hecc' : ev.2.ecc = s.die.ecc := (congrArg Die.ecc e3.1).trans rfl
  have hasm : s.assemble g n = if x.wait && x.fcsDue then
        { s with die := d1.putParser g ((s.die.parser g).tailsPut { x with closing := rest, held := x.held ++ [r] }) }
      else State.reflexStage g r { s with die := d1.putParser g ((s.die.parser g).tailsPut { x with closing := rest, left := x.left + 1 }) } := by
    have hr : r = { evid := ev.1, key := c.key, pasture := x.pasture, source := x.srcCode, tb := c.tb, ts := x.stamps.getD c.tb {}
                    fields := c.fields, poison := false, inFc16 := x.inFc16, table := x.table } := by rw [e1]
    unfold State.assemble
    extract_lets y tail x' put p ek
    have hbad : (KMap.get 0 ev.2.ecc ek == 2) = false := by
      rw [hecc']
      exact beq_eq_false_iff_ne.2 hecc
    clear_value ek
    have hx : x' = x := rfl
    have hput : put = (s.die.parser g).tailsPut := rfl
    clear_value put x'
    subst hx hput
    rw [show x.closing = c :: rest from hclosing]
    dsimp only
    rw [if_neg (by rw [show p = x.pasture from rfl, hreplay]; simp)]
    simp only [show p = x.pasture from rfl, ← hev, hbad, Bool.false_eq_true, if_false]
    rw [hr, show d1 = (ev.2.stage 2 g x.pasture ev.1 0 1).stile x.pasture n 1 by rw [hd1, show r.evid = ev.1 from e1.symm]]
  rw [hasm]
  have hpas : d1.pasture x.pasture = { s.die.pasture x.pasture with evCounter := (match c.evid with
      | some _ => (s.die.pasture x.pasture).evCounter | none => ((s.die.pasture x.pasture).evCounter + 1) % 2 ^ 48) } := by
    rw [Die.pasture, hrep.pas]; exact e2
  have hin : s.die.intake d1 := e3.trans hrep.intake
  have hfeeds : d1.feeds = s.die.feeds := hrep.feeds.trans e5
  clear_value d1 ev
  by_cases hw : x.wait = true ∧ x.fcsDue = true
  · have hb : (x.wait && x.fcsDue) = true := by simpa using hw
    rw [if_pos hb, if_pos hw]
    refine ⟨⟨Die.parser_putParser_same _ _ _, hfeeds⟩, ?_, rfl, rfl, hin.trans (Die.intake_putParser _ _ _)⟩
    exact congrArg PasSt.evCounter hpas
  · have hb : ¬(x.wait && x.fcsDue) = true := by simpa using hw
    rw [if_neg hb, if_neg hw]
    set d2 := d1.putParser g ((s.die.parser g).tailsPut { x with closing := rest, left := x.left + 1 }) with hd2
    obtain ⟨e, v, he, hst⟩ := State.reflexStage_plain g r { s with die := d2 } im
      (by show (d1.pasture x.pasture).image = some im; rw [hpas]; exact him) rfl hreflex heng
      (by show (d1.pasture x.pasture).leaving = 0; rw [hpas]; exact hleave) (by show (KMap.get [] d1.feeds _).length < 16; rw [hfeeds]; exact hroom)
    rw [hst]
    refine ⟨⟨?_, ?_⟩, ?_, rfl, rfl, ?_⟩
    · show e.parser g = _
      rw [Die.parser_congr _ _ he.parsers]
      exact Die.parser_putParser_same _ _ _
    · show KMap.get [] (KMap.set [] d1.feeds (g * 64 + x.pasture) (KMap.get [] d1.feeds (g * 64 + x.pasture) ++ [r])) (g * 64 + x.pasture) = _
      rw [KMap.get_set_same, hfeeds]
    · show (e.pasture x.pasture).evCounter = _
      rw [Die.pasture, he.pas]
      have hrp : r.pasture = x.pasture := rfl
      rw [hrp, Die.onPas]
      dsimp only
      rw [KMap.get_upd_same]
      refine Eq.trans (b := (d1.pasture x.pasture).evCounter) rfl ?_
      rw [hpas]
    · exact (((hin.trans (Die.intake_putParser _ _ _)).trans (Die.intake_onPas _ _ _)).trans he.intake).trans (Die.intake_feeds _ e)

/-- The tallies of records and of dropped programs are counted by no trace packet. -/
theorem loftTally_records (g : Nat) (hg : g < 81) : loftTally (T.ING_RECORDS.key g) = false := by
  refine loftTally_false (.inr ?_)
  simp only [Tal.key, T.ING_RECORDS]
  omega

theorem loftTally_progDrop (p : Nat) : loftTally (T.PAS_PROG_DROP.key p) = false := by
  refine loftTally_false (.inr ?_)
  simp only [Tal.key, T.PAS_PROG_DROP]
  omega

/-- Settles O3: the end of a record, and its assembly, by what each leaves of the parser, its queue and its pasture. -/
theorem recordsForm : Obligations.RecordsForm := by
  unfold Obligations.RecordsForm
  refine ⟨?_, ?_⟩
  · rintro s g i x rfl hg hready hlive y
    have hrun := s.die.ready_running g i hready
    have hclose (fin : Bool) (c : Instr) (op : Nat) (hop : i.op = op) (hexec : exec c s = pCmd op g (fun _ => Die.closeRec g fin) s)
        (hclosed : (s.die.parser g).closed < 8) (hreplay : s.die.on R.FAB_REPLAY_ENABLE (s.die.parser g).pasture = false)
        (hend : fin = true ∨ (s.die.parser g).pc + 1 < (s.die.parser g).instrs.length) :
        s.completes c (fun t => t.die.parser g = Parser.settle { y with running := !fin }
          ∧ t.die.tally T.ING_RECORDS g = tallyAdd (s.die.tally T.ING_RECORDS g) 1 ∧ s.parsersReport t) := by
      refine ⟨_, hexec.trans (pCmd_ready op g _ s i hg hready hop), ?_⟩
      rw [Die.closeRec_live g fin s.die hlive hclosed hreplay]
      refine State.count_pEnd g _ _ { y with running := !fin } s (loftTally_records g hg) ?_
      rcases hend with rfl | h
      · exact .inl rfl
      · exact .inr h
    refine ⟨fun hop hclosed hreplay hpc => ?_, fun hop hclosed hreplay => ?_, fun hop hemit => ?_⟩
    · have := hclose false (.pEmitr g) 11 hop rfl hclosed hreplay (.inr hpc)
      rwa [Parser.settle_running _ rfl, show ({ y with running := !false } : Parser) = y from congrArg (fun b => ({ y with running := b } : Parser)) hrun.symm] at this
    · have := hclose true (.pAccept g) 12 hop rfl hclosed hreplay (.inl rfl)
      rwa [show Parser.settle { y with running := !true } = { y with running := false } from ?_] at this
      simp [Parser.settle, y]
    · refine ⟨_, pCmd_ready 13 g _ s i hg hready hop, ?_⟩
      have hdrop : s.die.progDrop g = (s.die.putParser g { s.die.parser g with running := false }).count T.PAS_PROG_DROP (s.die.parser g).pasture := by
        unfold Die.progDrop
        simp [hlive, hemit]
      show (((s.die.progDrop g).pEnd g).parser g = _ ∧ ((s.die.progDrop g).pEnd g).tally _ _ = _ ∧ s.parsersReport { s with die := (s.die.progDrop g).pEnd g })
      rw [hdrop]
      exact State.count_pEnd g _ _ _ s (loftTally_progDrop _) (.inl rfl)
  · rintro s g n y x c rest im put rfl hg hp hput hclosing hreplay hecc him hreflex heng hroom hleave r
    have hold : (s.die.parser g).oldest = x ∧ ∀ z : FrameTail, z.fcsDue = x.fcsDue → (s.die.parser g).tailsPut z = put z := by
      have hx : (fun z : FrameTail => !z.closing.isEmpty) x = true := by simp [hclosing]
      rcases hput with ⟨hnone, rfl, rfl⟩ | ⟨before, after, htails, hbefore, rfl⟩
      · have hfind : (s.die.parser g).tails.find? (fun z => !z.closing.isEmpty) = none := by
          rw [List.find?_eq_none]; intro z hz; simp [hnone z hz]
        refine ⟨by rw [Parser.oldest, hfind]; rfl, fun z hz => ?_⟩
        rw [Parser.tailsPut, hfind]
        show Parser.settle ((s.die.parser g).withTail z) = _
        rw [Parser.withTail, hz]
        rfl
      · obtain ⟨h1, h2⟩ := find_putTail (fun z => !z.closing.isEmpty) before after x x (fun z hz => by simp [hbefore z hz]) hx
        rw [← htails] at h1
        refine ⟨by rw [Parser.oldest, h1]; rfl, fun z _ => ?_⟩
        obtain ⟨-, h3⟩ := find_putTail (fun z => !z.closing.isEmpty) before after x z (fun z hz => by simp [hbefore z hz]) hx
        rw [Parser.tailsPut, h1]
        show Parser.settle { s.die.parser g with tails := putTail _ z (s.die.parser g).tails } = _
        rw [htails, h3]
        have hover : z.over = true ↔ z.closing = [] ∧ z.fcsDue = false ∧ z.held = [] := by simp [FrameTail.over, and_assoc]
        simp only [hover]
    have hput' (cl : List ClosedRec) (l : Nat) (h : List EvRec) : (s.die.parser g).tailsPut { x with closing := cl, left := l, held := h }
        = put { x with closing := cl, left := l, held := h } := hold.2 _ rfl
    obtain rfl := hold.1
    obtain ⟨h1, h2, h3, h4, h5⟩ := s.assemble_plain g n c rest im hp hclosing hreplay hecc him hreflex heng hroom hleave
    rw [hput', hput'] at h1
    refine ⟨s.assemble g n, ?_, h1, h2, h3, h4, h5⟩
    show guardU (decide (g < 81)) (s.assemble g n) = _
    rw [decide_eq_true hg]
    rfl
end Sys2Proof.Machine
end

section
/-! SUPPORT. Bytes that arrive and the result of the frame check (R62, R64, R65). -/

namespace Sys2Proof.Machine

/-- Whether an instruction can execute depends on the parser and on the replay window alone, which no report touches. -/
theorem Die.ready_report {d e : Die} (h : d.report e) (g : Nat) : e.ready g = d.ready g := by
  have hpar : e.parser g = d.parser g := Die.parser_congr _ _ h.parsers g
  have hheld (p : Nat) : e.replayHeld p = d.replayHeld p := by
    have word (f : Fld) (hb : f.base = 0x380000) (hl : f.lo < 32) : e.get f p = d.get f p := by
      refine h.2 f p ?_
      have hk : f.key p / 32 = 0x380000 + p * 0x1000 + f.off := by simp only [Fld.key, hb]; omega
      rw [hk]; unfold reportWord; simp; omega
    unfold Die.replayHeld Die.on
    rw [word R.FAB_REPLAY_ENABLE rfl (by decide), word R.FAB_REPLAY_LIMIT_LO rfl (by decide), word R.FAB_REPLAY_LIMIT_HI rfl (by decide), Die.pasture, h.pas]
    rfl
  unfold Die.ready
  simp only [hpar, hheld]

theorem Die.tally_putParser (g : Nat) (y : Parser) (t : Tal) (i : Nat) (d : Die) : (d.putParser g y).tally t i = d.tally t i := rfl

/-- A change of a parser behind a report is as the change before it. -/
theorem Die.ready_putParser_report {d e : Die} (h : d.report e) {g : Nat} {y : Parser} : (e.putParser g y).ready g = (d.putParser g y).ready g := by
  refine Die.ready_report (d := d.putParser g y) (e := e.putParser g y) ⟨?_, h.2⟩ g
  unfold Die.putParser
  rw [h.parsers, h.1]

/-- Without an instruction that can execute, a run does nothing. -/
theorem Die.pRun_idle (g n : Nat) (d : Die) (h : d.ready g = none) : d.pRun g n = d := by
  cases n with
  | zero => rfl
  | succ n => rw [Die.pRun, h]

theorem Die.ready_ended (g : Nat) (d : Die) (h : (d.parser g).running = false) : d.ready g = none := by
  unfold Die.ready
  simp [h]

/-- A parser given new bytes that bring no instruction to execution settles (R62). -/
theorem Die.bytes_settle (g : Nat) (y : Parser) (d : Die) (hready : (d.putParser g y).ready g = none) (hend : y.running = false ∨ y.pc < y.instrs.length) :
    (((d.putParser g y).pRun g 65).pEnd g) = (d.putParser g y).putParser g y.settle := by
  rw [Die.pRun_idle _ _ _ hready, Die.pEnd_frame _ _ (by rw [Die.parser_putParser_same]; exact hend), Die.parser_putParser_same]

theorem Die.stile_free (p k n : Nat) (d : Die) (hk : 0 < k) (hn : k ≤ n) (hmode : d.get R.DEV_TIMING_STATUS_MODE = 0) :
    d.stile p k n = d.countBy T.FAB_TIMING_CHOICE p k := by
  unfold Die.stile Die.freeMode
  rw [hmode, min_eq_left hn]
  simp [hk]

/-- A parser that settles behind a report. -/
theorem State.reports_putParser (s : State) (g : Nat) (y : Parser) {e : Die} (h : s.die.report e) :
    s.parsersReport { s with die := e.putParser g y } :=
  (h.intake.trans (Die.intake_putParser g y e)).parsersReport h.feeds h.pas

theorem loftTally_fab (t : Tal) (p : Nat) (hb : t.base = 0x380000) : loftTally (t.key p) = false := by
  refine loftTally_false (.inr ?_)
  simp only [Tal.key, hb]
  omega

theorem loftTally_pasPage (t : Tal) (p : Nat) (hb : t.base = 0x300000) (ho : t.off < 0x1000) (hn : t.off ≠ 0xC28) : loftTally (t.key p) = false := by
  refine loftTally_false (.inr ?_)
  simp only [Tal.key, hb]
  omega

/-- The frame in hand, its program ended and its check due, with no frame before it waiting (R65): the line has ended. -/
theorem Die.lineEnds_due (g : Nat) (d : Die) (hbusy : (d.parser g).busy = true) (hdue : (d.parser g).fcsDue = true) (hrun : (d.parser g).running = false) :
    d.reparsed (d.lineEnds g) g { d.parser g with arrived := (d.parser g).frame.length } := by
  unfold Die.lineEnds
  dsimp only
  rw [if_pos hbusy, Die.bytes_settle _ { d.parser g with arrived := (d.parser g).frame.length } _ (Die.ready_ended _ _ (by rw [Die.parser_putParser_same]; exact hrun)) (.inl hrun)]
  have hsettle : Parser.settle { d.parser g with arrived := (d.parser g).frame.length } = { d.parser g with arrived := (d.parser g).frame.length } := by
    simp [Parser.settle, hdue]
  rw [hsettle]
  exact (d.putParser_reparsed g _).trans ((d.putParser g _).putParser_reparsed g _)

/-- PARSER_WORD_ARRIVAL at a parser with a frame (R62): its crossings, then its bytes. -/
theorem parserWordArrival_exec (s : State) (g n k : Nat) (hg : g < 81) (hbusy : (s.die.parser g).busy = true) :
    exec (.parserWordArrival g n k) s = .next { s with die := (((s.die.stile (s.die.parser g).pasture k n).putParser g
      { s.die.parser g with arrived := min (s.die.parser g).frame.length ((s.die.parser g).arrived + n) }).pRun g 65).pEnd g } := by
  rw [show exec (.parserWordArrival g n k) s = execParserWordArrival g n k s from rfl]
  unfold execParserWordArrival dieCmd
  simp only [decide_eq_true hg, if_true]
  rw [if_pos hbusy]

/-- Bytes that settle behind counted crossings. -/
theorem State.stile_settle (s : State) (g p k : Nat) (y : Parser) (hready : (s.die.putParser g y).ready g = none)
    (hend : y.running = false ∨ y.pc < y.instrs.length) :
    let e := (((s.die.countBy T.FAB_TIMING_CHOICE p k).putParser g y).pRun g 65).pEnd g
    e.parser g = y.settle ∧ e.tally T.FAB_TIMING_CHOICE p = tallyAdd (s.die.tally T.FAB_TIMING_CHOICE p) k ∧ s.parsersReport { s with die := e } := by
  have hrep := s.die.report_countBy T.FAB_TIMING_CHOICE p k
  have htal := Die.tally_countBy_same T.FAB_TIMING_CHOICE p k s.die (loftTally_fab _ _ rfl)
  generalize s.die.countBy T.FAB_TIMING_CHOICE p k = d at hrep htal
  intro e
  have he : e = (d.putParser g y).putParser g y.settle := Die.bytes_settle g y d (by rw [Die.ready_putParser_report hrep]; exact hready) hend
  rw [he]
  exact ⟨Die.parser_putParser_same _ _ _, htal,
    ((hrep.intake.trans (Die.intake_putParser g y d)).trans (Die.intake_putParser g _ _)).parsersReport hrep.feeds hrep.pas⟩

/-- FCS_RESULT of the frame in hand, where none before it waits (R65): the line has ended, and what its result leaves. -/
theorem State.fcsResult_hand (s : State) (g : Nat) (ok : Bool) {d : Die} {x : Parser} (hd : s.die.lineEnds g = d) (hx : d.parser g = x)
    (hnone : (s.die.parser g).tails.find? (fun z => z.fcsDue) = none) (hdue : x.fcsDue = true) :
    s.fcsResult g ok = if (ok && !x.fault) = true then
        State.releaseHeld g x.held { s with die := d.putParser g (Parser.settle { x with fcsDue := false, held := [], left := x.left + x.held.length }) }
      else
        let e := if x.wait then d.countBy T.PAS_FCS_BAD x.pasture (x.held.length + x.closing.length)
          else (d.countBy T.PAS_FCS_BAD x.pasture (x.held.length + x.closing.length)).countBy T.PAS_FCS_LATE x.pasture x.left
        { s with die := e.putParser g (Parser.settle { x with fcsDue := false, held := [], closing := [] }) } := by
  unfold State.fcsResult
  simp only [hnone, hd, Option.getD_none, hx]
  rw [if_neg (by simp [Parser.tail, hdue])]
  rfl

/-- A frame that fails its check takes its records with it (R65). -/
theorem State.fcsBad_leaves (s : State) (g : Nat) {d : Die} {x : Parser} (hd : s.die.reparsed d g x) :
    let e := (if x.wait then d.countBy T.PAS_FCS_BAD x.pasture (x.held.length + x.closing.length)
        else (d.countBy T.PAS_FCS_BAD x.pasture (x.held.length + x.closing.length)).countBy T.PAS_FCS_LATE x.pasture x.left)
    s.die.intake e ∧ e.feeds = s.die.feeds ∧ e.pas = s.die.pas
      ∧ e.tally T.PAS_FCS_BAD x.pasture = tallyAdd (s.die.tally T.PAS_FCS_BAD x.pasture) (x.held.length + x.closing.length)
      ∧ (x.wait = false → e.tally T.PAS_FCS_LATE x.pasture = tallyAdd (s.die.tally T.PAS_FCS_LATE x.pasture) x.left) := by
  have hbad := loftTally_pasPage T.PAS_FCS_BAD x.pasture rfl (by decide) (by decide)
  have hlate := loftTally_pasPage T.PAS_FCS_LATE x.pasture rfl (by decide) (by decide)
  have hne : T.PAS_FCS_BAD.key x.pasture ≠ T.PAS_FCS_LATE.key x.pasture := by simp only [Tal.key, T.PAS_FCS_BAD, T.PAS_FCS_LATE]; omega
  obtain ⟨hframe, -, -⟩ := hd
  have hin : s.die.intake d ∧ d.feeds = s.die.feeds ∧ d.pas = s.die.pas ∧ d.tallies = s.die.tallies := by
    rw [hframe]; exact ⟨⟨rfl, fun _ _ _ => rfl⟩, rfl, rfl, rfl⟩
  obtain ⟨h1, h2, h3, h4⟩ := hin
  have ht (t : Tal) (i : Nat) : d.tally t i = s.die.tally t i := by rw [Die.tally, h4]; rfl
  have r1 := d.report_countBy T.PAS_FCS_BAD x.pasture (x.held.length + x.closing.length)
  have t1 := (Die.tally_countBy_same T.PAS_FCS_BAD x.pasture (x.held.length + x.closing.length) d hbad)
  have t2 := Die.tally_countBy_other T.PAS_FCS_BAD x.pasture (x.held.length + x.closing.length) _ d hlate hne.symm
  generalize d.countBy T.PAS_FCS_BAD x.pasture (x.held.length + x.closing.length) = e1 at r1 t1 t2
  have r2 := e1.report_countBy T.PAS_FCS_LATE x.pasture x.left
  have t3 := Die.tally_countBy_same T.PAS_FCS_LATE x.pasture x.left e1 hlate
  have t4 := Die.tally_countBy_other T.PAS_FCS_LATE x.pasture x.left _ e1 hbad hne
  generalize e1.countBy T.PAS_FCS_LATE x.pasture x.left = e2 at r2 t3 t4
  intro e
  cases hw : x.wait with
  | true =>
    have he : e = e1 := by simp only [e, hw, if_true]
    rw [he]
    exact ⟨h1.trans r1.intake, r1.feeds.trans h2, r1.pas.trans h3, t1.trans (by rw [ht]), fun h => by cases h⟩
  | false =>
    have he : e = e2 := by simp only [e, hw, Bool.false_eq_true, if_false]
    rw [he]
    refine ⟨(h1.trans r1.intake).trans r2.intake, r2.feeds.trans (r1.feeds.trans h2), r2.pas.trans (r1.pas.trans h3), t4.trans (t1.trans (by rw [ht])), fun _ => ?_⟩
    refine t3.trans ?_
    rw [Die.tally, t2]
    exact congrArg (fun v => tallyAdd v x.left) (ht _ _)

/-- Settles O4: arriving bytes by a run that executes nothing, and both results of the check by what they leave of the frame. -/
theorem frameBytesSettle : Obligations.FrameBytesSettle := by
  unfold Obligations.FrameBytesSettle
  refine ⟨?_, ?_⟩
  · rintro s g n x rfl hg hbusy hpc hready
    refine ⟨?_, fun k hk hn hmode => ?_⟩
    · refine ⟨_, parserWordArrival_exec s g n 0 hg hbusy, ?_⟩
      have hstile : s.die.stile (s.die.parser g).pasture 0 n = s.die := by simp [Die.stile]
      rw [hstile, Die.bytes_settle g _ _ hready (.inr hpc)]
      obtain ⟨h1, h2, h3⟩ := (s.die.putParser_reparsed g _).trans ((s.die.putParser g _).putParser_reparsed g (Parser.settle _))
      exact ⟨congrArg (fun d => ({ s with die := d } : State)) h1, h2, h3⟩
    · refine ⟨_, parserWordArrival_exec s g n k hg hbusy, ?_⟩
      rw [Die.stile_free _ _ _ _ hk hn hmode]
      exact s.stile_settle g _ k _ hready (.inr hpc)
  · rintro s t x rfl ht hbusy hdue hrun htails
    have hline := s.die.lineEnds_due (64 + t) hbusy hdue hrun
    have hnone : (s.die.parser (64 + t)).tails.find? (fun z => z.fcsDue) = none := by
      rw [List.find?_eq_none]; intro z hz; simp [htails z hz]
    have hexec (ok : Bool) : exec (.fcsResult t ok) s = .next (s.fcsResult (64 + t) ok) := by
      show guardU (decide (t < 16)) _ = _
      rw [decide_eq_true ht]; rfl
    have hfcs (ok : Bool) := s.fcsResult_hand (64 + t) ok rfl hline.same hnone hdue
    refine ⟨fun hfault hheld => ?_, ?_⟩
    · refine ⟨_, hexec true, ?_⟩
      rw [hfcs, if_pos (by simp [hfault]), hheld, State.releaseHeld]
      obtain ⟨h1, h2, h3⟩ := hline.trans ((s.die.lineEnds (64 + t)).putParser_reparsed (64 + t) (Parser.settle _))
      exact ⟨congrArg (fun d => ({ s with die := d } : State)) h1, h2, h3⟩
    · refine ⟨_, hexec false, ?_⟩
      rw [hfcs, if_neg (by simp)]
      obtain ⟨h1, h2, h3, h4, h5⟩ := s.fcsBad_leaves (64 + t) hline
      refine ⟨(Die.parser_putParser_same _ _ _).trans ?_, h4, h5, (h1.trans (Die.intake_putParser _ _ _)).parsersReport h2 h3⟩
      simp [Parser.settle, hrun]

end Sys2Proof.Machine
end

section
/-! SUPPORT. Lookups of the Larder in the foreground (R79, R84 to R88). -/

namespace Sys2Proof.Machine

/-- `e` has what a lookup of pasture `p` seeks, as `d` has it. -/
structure Die.Sought (p : Nat) (d e : Die) : Prop where
  rows : e.rows = d.rows
  dir : e.dir = d.dir
  grants : e.grants = d.grants
  image : e.image p = d.image p
  live : (e.larder p).live = (d.larder p).live ∧ (e.larder p).liveSeed = (d.larder p).liveSeed
  rowsAt : (e.larder p).defLive = (d.larder p).defLive ∧ (e.larder p).alloc = (d.larder p).alloc

/-- `e` has what a lookup of pasture `p` reads and writes as `d` has it. -/
structure Die.Lookable (p : Nat) (d e : Die) : Prop extends d.Sought p e where
  feeds : e.feeds = d.feeds
  looked : e.looked = d.looked
  ecc : e.ecc = d.ecc
  poison : e.poison = d.poison
  markers : (e.larder p).markers = (d.larder p).markers

theorem Die.Sought.trans {p : Nat} {d e f : Die} (h : d.Sought p e) (g : e.Sought p f) : d.Sought p f where
  rows := g.rows.trans h.rows
  dir := g.dir.trans h.dir
  grants := g.grants.trans h.grants
  image := g.image.trans h.image
  live := ⟨g.live.1.trans h.live.1, g.live.2.trans h.live.2⟩
  rowsAt := ⟨g.rowsAt.1.trans h.rowsAt.1, g.rowsAt.2.trans h.rowsAt.2⟩

theorem Die.Lookable.trans {p : Nat} {d e f : Die} (h : Lookable p d e) (g : Lookable p e f) : Lookable p d f where
  toSought := h.toSought.trans g.toSought
  feeds := g.feeds.trans h.feeds
  looked := g.looked.trans h.looked
  ecc := g.ecc.trans h.ecc
  poison := g.poison.trans h.poison
  markers := g.markers.trans h.markers

theorem Die.Sought.of_larder {p : Nat} {d e : Die} (h : e = { d with lar := e.lar, pas := e.pas, feeds := e.feeds }) (hi : e.image p = d.image p)
    (hl : (e.larder p).live = (d.larder p).live ∧ (e.larder p).liveSeed = (d.larder p).liveSeed)
    (hr : (e.larder p).defLive = (d.larder p).defLive ∧ (e.larder p).alloc = (d.larder p).alloc) : d.Sought p e := by
  refine ⟨?_, ?_, ?_, hi, hl, hr⟩
  all_goals rw [h]

theorem Die.Lookable.refl (p : Nat) (d : Die) : Lookable p d d := ⟨⟨rfl, rfl, rfl, rfl, ⟨rfl, rfl⟩, ⟨rfl, rfl⟩⟩, rfl, rfl, rfl, rfl, rfl⟩

/-- A report leaves what a lookup reads and writes. -/
theorem Die.report.lookable {p : Nat} {d e : Die} (h : d.report e) : Lookable p d e := by
  obtain ⟨h, -⟩ := h
  rw [h]
  exact ⟨⟨rfl, rfl, rfl, rfl, ⟨rfl, rfl⟩, ⟨rfl, rfl⟩⟩, rfl, rfl, rfl, rfl, rfl⟩

/-- SWAP_PACKET: at most a flag of the Larder and a trace packet (R92). -/
theorem Die.lookable_swapPacket (p k evid : Nat) (hp : p < 64) (hk : loftTally k = false) (d : Die) :
    Lookable p d (d.swapPacket p evid) ∧ KMap.get 0 (d.swapPacket p evid).tallies k = KMap.get 0 d.tallies k := by
  unfold Die.swapPacket
  dsimp only
  split
  case isFalse => exact ⟨.refl p d, rfl⟩
  case isTrue =>
    have hlar : Lookable p d (d.onLar p (fun y => { y with swapNew := false })) := by
      have h : (d.onLar p (fun y => { y with swapNew := false })).larder p = { d.larder p with swapNew := false } := by
        simp only [Die.larder, Die.onLar, KMap.get_upd_same]
      exact ⟨⟨rfl, rfl, rfl, rfl, by rw [h]; exact ⟨rfl, rfl⟩, by rw [h]; exact ⟨rfl, rfl⟩⟩, rfl, rfl, rfl, rfl, by rw [h]⟩
    obtain ⟨htr, htal⟩ := Die.traced_trace ⟨5, true, 1, 0, some p, leBytes 6 evid ++ leBytes 2 (d.larder p).live ++ leBytes 2 (d.larder p).liveSeed⟩
      (fun q h => by cases h; exact hp) { d.onLar p (fun y => { y with swapNew := false }) with fc := (d.larder p).swapFc }
    have hfc (v : Nat) (f : Die) : Lookable p f { f with fc := v } :=
      ⟨⟨rfl, rfl, rfl, rfl, ⟨rfl, rfl⟩, ⟨rfl, rfl⟩⟩, rfl, rfl, rfl, rfl, rfl⟩
    exact ⟨((hlar.trans (hfc _ _)).trans htr.lookable).trans (hfc _ _), htal k hk⟩

/-- What a lookup finds depends on what `Sought` keeps. -/
theorem Die.Sought.hit {p : Nat} {d e : Die} (h : d.Sought p e) (table key : Nat) : e.hit p table key = d.hit p table key := by
  have hgrant : e.grant p = d.grant p := by rw [Die.grant, h.grants]; rfl
  have hplaces (bank seed : Nat) : e.places p table key bank seed = d.places p table key bank seed := by
    unfold Die.places Die.grantK
    rw [hgrant]
  unfold Die.hit Die.dirFind
  rw [h.live.1, h.live.2, hplaces, h.dir]

theorem Die.Sought.rowGot {p : Nat} {d e : Die} (h : d.Sought p e) (ptr words : Nat) :
    e.rowAt p ptr words = d.rowAt p ptr words ∧ e.rowGot p ptr words = d.rowGot p ptr words := by
  have hat : e.rowAt p ptr words = d.rowAt p ptr words := by
    unfold Die.rowAt
    rw [h.rowsAt.2]
  have hgrant : e.grant p = d.grant p := by rw [Die.grant, h.grants]; rfl
  refine ⟨hat, ?_⟩
  unfold Die.rowGot Die.rowBytes
  rw [hat, hgrant, h.rows]

theorem Die.Sought.found {p : Nat} {d e : Die} (h : d.Sought p e) (table key : Nat) : e.found p table key = d.found p table key := by
  have hwords : e.rowWords p table = d.rowWords p table := by
    unfold Die.rowWords
    rw [h.image]
  unfold Die.found
  rw [h.hit, hwords, h.rowsAt.1]
  simp only [(h.rowGot _ _).2]

/-- A row whose words lie in the pasture's share is read as it stands. -/
theorem Die.rowGot_in {d : Die} {p ptr words : Nat}
    (h : ∀ a ∈ d.rowAt p ptr words, grantField (d.grant p) 8 4 ≤ a ∧ a < grantField (d.grant p) 8 4 + grantField (d.grant p) 12 4) :
    d.rowGot p ptr words = d.rowBytes p ptr words := by
  unfold Die.rowGot
  rw [if_neg]
  rw [Bool.not_eq_true, List.any_eq_false]
  intro a ha
  obtain ⟨h1, h2⟩ := h a ha
  simp only [Bool.or_eq_true, decide_eq_true_eq]
  omega

/-- The Larder's lookup of a record with a table (R79): its steps up to the event. -/
theorem Die.larderLookup_table (d : Die) (fu : Fused) (g p t : Nat) (r : EvRec) (rest : List EvRec) (im : Image) (y : TableImg)
    (hecc : d.ecc = []) (hpoison : d.poison = []) (hfeed : KMap.get [] d.feeds (g * 64 + p) = r :: rest) (htable : r.table = some t)
    (him : d.image p = some im) (hrec : tableRec im t = some y)
    (hmark : (y.writeback && y.state) = true → ∀ m ∈ (d.larder p).markers, ¬(m.1 = t ∧ m.2.1 = r.key)) :
    let d1 := ({ d with feeds := KMap.set [] d.feeds (g * 64 + p) rest } : Die).onPas p (fun q => { q with ticket := (d.pasture p).ticket + 1 })
    let d2 := if y.writeback && y.state then d1.onLar p (fun z => { z with markers := (t, r.key, (d.pasture p).ticket + 1) :: z.markers }) else d1
    let l := (d2.swapPacket p r.evid).lookup fu p t r.key
    let d3 := l.2.stage 1 0 p r.evid 0 2
    let e : Ev := { er := r, table := some t, row := l.1.row, rowPtr := l.1.ptr, miss := l.1.miss, poison := r.poison || l.1.poison
                    ticket := (d.pasture p).ticket + 1, marker := y.writeback && y.state }
    d.larderLookup fu g p = { d3 with looked := KMap.upd [] d3.looked p (· ++ [e]) } := by
  have hany : ((y.writeback && y.state) && (d.larder p).markers.any (fun m => m.1 == t && m.2.1 == r.key)) = false := by
    cases hwb : y.writeback && y.state with
    | false => rfl
    | true =>
      rw [Bool.true_and, List.any_eq_false]
      intro m hm
      simpa using hmark hwb m hm
  have hrd := Die.eccRead_clean d fu 12 (4096 + (g * 64 + p)) none (some p) hecc hpoison
  unfold Die.larderLookup
  simp only [hfeed, htable, him, hrec, hany, Bool.false_eq_true, if_false, hrd, Bool.or_false]

/-- The machine after a die command whose operands name what the device has. -/
theorem State.completes_dieCmd {s : State} {c : Instr} {ok : Bool} {f : State → Die} {P : State → Prop} (hc : exec c s = dieCmd ok f s) (hok : ok = true)
    (h : P { s with die := f s }) : s.completes c P :=
  ⟨_, hc.trans (by rw [dieCmd, if_pos hok]), h⟩

/-- Settles O6: the lookup's steps, none of which touches what it reads, and what it finds. -/
theorem larderLooksUp : Obligations.LarderLooksUp := by
  unfold Obligations.LarderLooksUp
  intro s g p t r rest im y hg hp hecc hpoison hfeed htable him hrec wb x hmark hit ptr hrows
  set k := (T.LRD_MISS t).key p with hk
  have hkval : k = 0x340000 + p * 0x1000 + (0xC00 + 8 * t) := rfl
  have hkloft : loftTally k = false := loftTally_false (.inr ⟨by omega, .inr (.inl (by omega))⟩)
  have hviol : k ≠ (T.OWN_VIOLATION p).key 0 := by
    have : (T.OWN_VIOLATION p).key 0 = 0x1000 + 0 * 0x1000 + (0xC00 + 8 * p) := rfl
    omega
  refine State.completes_dieCmd (f := fun s => s.die.larderLookup s.fused g p) rfl (by simp [hg, hp]) ?_
  have hcmd := s.die.larderLookup_table s.fused g p t r rest im y hecc hpoison hfeed htable him hrec hmark
  extract_lets d1 d2 l d3 e at hcmd
  rw [hcmd]
  have hlar : d1.larder p = s.die.larder p := rfl
  have hd1 : s.die.Sought p d1 :=
    .of_larder rfl (by simp only [d1, Die.image, Die.pasture, Die.onPas, KMap.get_upd_same]) ⟨rfl, rfl⟩ ⟨rfl, rfl⟩
  have hd2 : s.die.Sought p d2 ∧ d2.feeds = d1.feeds ∧ d2.looked = s.die.looked ∧ d2.ecc = [] ∧ d2.poison = []
      ∧ (d2.larder p).markers = (if wb then [(t, r.key, (s.die.pasture p).ticket + 1)] else []) ++ x.markers
      ∧ KMap.get 0 d2.tallies k = KMap.get 0 s.die.tallies k := by
    by_cases hwb : wb = true
    · have h : d2 = d1.onLar p (fun z => { z with markers := (t, r.key, (s.die.pasture p).ticket + 1) :: z.markers }) := if_pos hwb
      have hl : d2.larder p = { s.die.larder p with markers := (t, r.key, (s.die.pasture p).ticket + 1) :: x.markers } := by
        rw [h, ← hlar]; simp only [Die.larder, Die.onLar, KMap.get_upd_same]; rfl
      rw [if_pos hwb]
      have hs : d1.Sought p d2 := by
        rw [h] at hl ⊢
        refine .of_larder rfl rfl ?_ ?_
        · rw [hl]; exact ⟨rfl, rfl⟩
        · rw [hl]; exact ⟨rfl, rfl⟩
      refine ⟨hd1.trans hs, ?_, ?_, ?_, ?_, ?_, ?_⟩
      · rw [h]; rfl
      · rw [h]; rfl
      · rw [h]; exact hecc
      · rw [h]; exact hpoison
      · rw [hl]; rfl
      · rw [h]; rfl
    · have h : d2 = d1 := if_neg hwb
      rw [if_neg hwb, h]
      exact ⟨hd1, rfl, rfl, hecc, hpoison, rfl, rfl⟩
  clear_value d2
  obtain ⟨hsought2, hfeeds2, hlooked2, hecc2, hpoison2, hmarkers2, htally2⟩ := hd2
  obtain ⟨hswap, hswapTally⟩ := Die.lookable_swapPacket p k r.evid hp hkloft d2
  have hsought := hsought2.trans hswap.toSought
  obtain ⟨e1, he1, hl⟩ := (d2.swapPacket p r.evid).lookup_clean s.fused p t r.key (hswap.ecc.trans hecc2) (hswap.poison.trans hpoison2)
  have hwords : s.die.rowWords p t = y.rowUnits := by simp only [Die.rowWords, him, hrec]
  have hgot : s.die.found p t r.key = ⟨s.die.rowBytes p ptr y.rowUnits, ptr, hit.isNone, false⟩ := by
    rw [← Die.rowGot_in hrows]
    unfold Die.found
    rw [hwords, show s.die.hit p t r.key = hit from rfl]
    simp only [ptr]
    clear_value hit
    cases hit <;> rfl
  have hl1 : l.1 = ⟨s.die.rowBytes p ptr y.rowUnits, ptr, hit.isNone, false⟩ := by
    rw [show l = _ from hl, hsought.found]; exact hgot
  have hviolated : (d2.swapPacket p r.evid).report e1 ∧ KMap.get 0 e1.tallies k = KMap.get 0 s.die.tallies k := by
    obtain rfl | rfl := he1
    · exact ⟨Die.report_refl _, hswapTally.trans htally2⟩
    · exact ⟨Die.report_count _ _ _, (Die.tally_countBy_other _ _ _ _ _ hkloft hviol).trans (hswapTally.trans htally2)⟩
  have hl2 : l.2 = if hit.isSome then e1 else e1.count (T.LRD_MISS t) p := by
    rw [show l = _ from hl, hsought.hit]; rfl
  have hrep : (d2.swapPacket p r.evid).report l.2 := by
    rw [hl2]
    exact Die.report_ite hviolated.1 (hviolated.1.trans (Die.report_count _ _ _))
  obtain ⟨hstage, hstageTally⟩ := Die.traced_stage 1 0 p r.evid 0 2 hp l.2
  have hd3 : d2.Lookable p d3 := hswap.trans (hrep.trans hstage).lookable
  have he : e = { er := r, table := some t, row := s.die.rowBytes p ptr y.rowUnits, rowPtr := ptr, miss := hit.isNone, poison := r.poison
                  ticket := (s.die.pasture p).ticket + 1, marker := wb } := by
    simp only [e, hl1, Bool.or_false]
    rfl
  have hmiss : hit = none → d3.tally (T.LRD_MISS t) p = tallyAdd (s.die.tally (T.LRD_MISS t) p) 1 := by
    intro hnone
    have hcount : l.2 = e1.count (T.LRD_MISS t) p := by rw [hl2, hnone]; rfl
    refine (hstageTally k hkloft).trans ?_
    rw [hcount]
    exact (Die.tally_count_same _ _ _ hkloft).trans (congrArg (fun v => tallyAdd v 1) hviolated.2)
  clear_value d3 e
  rw [he]
  refine ⟨?_, ?_, hd3.markers.trans hmarkers2, hmiss, rfl, (hsought2.trans hd3.toSought).rows, (hsought2.trans hd3.toSought).dir⟩
  · show KMap.get [] d3.feeds _ = rest
    rw [hd3.feeds, hfeeds2]
    exact KMap.get_set_same _ _ _ _
  · dsimp only
    rw [KMap.get_upd_same, hd3.looked, hlooked2]

end Sys2Proof.Machine
end

section
/-! SUPPORT. Writes of registers that the device performs (R15, R17, R596): what they hand to a register's action, and what its fields take. -/

namespace Sys2Proof.Machine

/-- A write that the device performs is its action on the die as it stands. -/
theorem writeDie_admitted {s : State} {src : Source} {b : Block} {i off : Nat} (h : s.admits src b i off) (act : Die → Die) :
    writeDie src (blockAddr b i off) act s = act s.die := by
  unfold State.admits at h
  unfold writeDie
  rcases s.die.admitWrite_cases s.fused src (blockAddr b i off) with hf | ht
  · rw [hf] at h; cases h
  · rw [ht]; rfl

/-- The same for an action on the whole machine. -/
theorem writeAt_admitted {s : State} {src : Source} {b : Block} {i off : Nat} (h : s.admits src b i off) (act : State → State) :
    writeAt src (blockAddr b i off) act s = act s := by
  unfold State.admits at h
  unfold writeAt
  rcases s.die.admitWrite_cases s.fused src (blockAddr b i off) with hf | ht
  · rw [hf] at h; cases h
  · rw [ht]; rfl

/-- The blocks of the register map. -/
def Block.all : List Block :=
  [.DEV, .OWN, .CEL, .TB, .FLK, .CHK, .LFT, .PWR, .OTP, .PCI, .ETH, .LNK, .ENG, .UPD, .SHD, .ING, .PAS, .LRD, .FAB, .EGR, .TIL]

theorem Block.mem_all (b : Block) : b ∈ Block.all := by cases b <;> decide

/-- A register of the map: its fields lie in its word, and no two at one bit. -/
def Block.rowInOrder (b : Block) (r : Nat × List WField) : Bool :=
  r.2.all (fun x => x.fld.base == blockAddr b 0 0 && x.fld.off == r.1 && decide (x.fld.lo < 32)) && decide ((r.2.map (fun x => x.fld.lo)).Nodup)

theorem rows_inOrder : Block.all.all (fun b => b.regs.all b.rowInOrder) = true := by decide +kernel

/-- The fields of a register lie in its word, and no two at one bit. -/
theorem fieldsAt_inOrder (b : Block) (off : Nat) : (∀ x ∈ fieldsAt b off, x.fld.base = blockAddr b 0 0 ∧ x.fld.off = off ∧ x.fld.lo < 32)
    ∧ ((fieldsAt b off).map (fun x => x.fld.lo)).Nodup := by
  unfold fieldsAt
  split
  case h_2 => exact ⟨fun x hx => by simp at hx, List.nodup_nil⟩
  case h_1 r hr =>
    have hoff : r.1 = off := by simpa using List.find?_some hr
    have hrow := List.all_eq_true.mp (List.all_eq_true.mp rows_inOrder b b.mem_all) r (List.mem_of_find?_eq_some hr)
    unfold Block.rowInOrder at hrow
    rw [Bool.and_eq_true, List.all_eq_true, decide_eq_true_eq] at hrow
    refine ⟨fun x hx => ?_, hrow.2⟩
    have := hrow.1 x hx
    simp only [Bool.and_eq_true, beq_iff_eq, decide_eq_true_eq] at this
    exact ⟨this.1.1, this.1.2.trans hoff, this.2⟩

theorem blockAddr_eq (b : Block) (i off : Nat) : blockAddr b i off = blockAddr b 0 0 + i * 0x1000 + off := by
  cases b <;> (simp only [blockAddr, directory]; simp)

/-- The word of a register that a field of it lies in. -/
theorem fieldsAt_word {b : Block} {off : Nat} {x : WField} (h : x ∈ fieldsAt b off) (i : Nat) : x.fld.key i / 32 = blockAddr b i off := by
  obtain ⟨h1, h2, h3⟩ := (fieldsAt_inOrder b off).1 x h
  rw [blockAddr_eq, Fld.key, h1, h2]
  omega

/-- A field write changes the registers alone. -/
theorem WField.write_regs (x : WField) (i : Nat) (lk : Bool) (w : Nat) (d : Die) : x.write i lk w d = { d with regs := (x.write i lk w d).regs } := by
  unfold WField.write
  dsimp only
  split
  · split <;> rfl
  · split <;> rfl
  all_goals rfl

/-- A field write leaves the fields at other keys alone. -/
theorem WField.get_write_other (x : WField) (i : Nat) (lk : Bool) (w : Nat) (d : Die) (f : Fld) (j : Nat) (h : f.key j ≠ x.fld.key i) :
    (x.write i lk w d).get f j = d.get f j := by
  have hput (v : Nat) := Die.get_put_other d x.fld f i j v h
  unfold WField.write
  dsimp only
  split
  · split
    · exact hput _
    · rfl
  · split
    · rfl
    · exact hput _
  · exact hput _
  · exact hput _
  · rfl
  · rfl

/-- A register's write changes the registers alone (R596). -/
theorem Die.setFields_regs (b : Block) (i off w : Nat) (d : Die) : d.setFields b i off w = { d with regs := (d.setFields b i off w).regs } := by
  unfold Die.setFields
  generalize fieldsAt b off = l
  induction l generalizing d with
  | nil => rfl
  | cons x l ih =>
    rw [List.foldl_cons]
    refine (ih _).trans ?_
    rw [WField.write_regs]

/-- Writes of the fields of a list that have other keys leave a field alone. -/
theorem Die.get_writes_other (l : List WField) (i w : Nat) (lk : Die → Bool) (f : Fld) (j : Nat) (h : ∀ x ∈ l, f.key j ≠ x.fld.key i) (d : Die) :
    (l.foldl (fun d x => x.write i (lk d) w d) d).get f j = d.get f j := by
  induction l generalizing d with
  | nil => rfl
  | cons x l ih =>
    rw [List.foldl_cons, ih (fun y hy => h y (List.mem_cons_of_mem _ hy)), WField.get_write_other _ _ _ _ _ _ _ (h x List.mem_cons_self)]

/-- A register's write leaves the fields of other words alone. -/
theorem Die.get_setFields_other (b : Block) (i off w : Nat) (d : Die) (f : Fld) (j : Nat) (h : f.key j / 32 ≠ blockAddr b i off) :
    (d.setFields b i off w).get f j = d.get f j :=
  Die.get_writes_other _ i w _ f j (fun x hx hk => h (by rw [hk, fieldsAt_word hx])) d

/-- A register's write leaves in a field without a lock the value it carries, a reserved one apart (R15, R17). -/
theorem Die.get_setFields_rw (b : Block) (i off w : Nat) (d : Die) (x : WField) (hx : x ∈ fieldsAt b off) (hrw : x.fld.acc = .rw) :
    (d.setFields b i off w).get x.fld i = if x.ok (bits w x.fld.lo x.fld.width) then bits w x.fld.lo x.fld.width else d.get x.fld i := by
  have hnodup := (fieldsAt_inOrder b off).2
  have hplace := (fieldsAt_inOrder b off).1
  unfold Die.setFields
  obtain ⟨l1, l2, hl⟩ := List.append_of_mem hx
  rw [hl] at hnodup hplace ⊢
  obtain ⟨h1, h2, h3⟩ := hplace x (by simp)
  have hkey (y : WField) (hy : y ∈ l1 ++ l2) : x.fld.key i ≠ y.fld.key i := by
    obtain ⟨g1, g2, g3⟩ := hplace y (by simp only [List.mem_append, List.mem_cons] at hy ⊢; tauto)
    intro hk
    have hlo : x.fld.lo = y.fld.lo := by
      simp only [Fld.key, h1, h2, g1, g2] at hk
      omega
    simp only [List.map_append, List.map_cons] at hnodup
    rw [List.nodup_middle, List.nodup_cons, ← List.map_append] at hnodup
    exact hnodup.1 (hlo ▸ List.mem_map_of_mem hy)
  rw [List.foldl_append, List.foldl_cons, Die.get_writes_other _ _ _ _ _ _ (fun y hy => hkey y (List.mem_append_right _ hy))]
  have hbits : bits w x.fld.lo x.fld.width % 2 ^ x.fld.width = bits w x.fld.lo x.fld.width := Nat.mod_eq_of_lt (Nat.mod_lt _ (by positivity))
  have hbefore := Die.get_writes_other l1 i w (fun d => d.on (pageLock (blockAddr b i 0))) x.fld i (fun y hy => hkey y (List.mem_append_left _ hy)) d
  unfold WField.write
  simp only [hrw]
  split
  · rw [Die.get_put_same, hbits]
  · exact hbefore

end Sys2Proof.Machine
end

section
/-! SUPPORT. The exchange of a pasture's banks and the rows it frees (R95 to R99). -/

namespace Sys2Proof.Machine

theorem KMap.get_keep {α : Type} (d : α) (m : KMap α) (p : Nat → Bool) (k : Nat) : KMap.get d (KMap.keep m p) k = if p k then KMap.get d m k else d := by
  unfold KMap.keep
  induction m with
  | nil => simp
  | cons x m ih =>
    obtain ⟨j, v⟩ := x
    rw [List.filter_cons]
    by_cases hj : j = k
    · subst hj
      cases hp : p j with
      | true => simp [KMap.get]
      | false => simpa [hp] using ih
    · cases hp : p j with
      | true => simpa [KMap.get, hj] using ih
      | false => simpa [KMap.get, hj] using ih

@[simp] theorem Die.larder_onLar_same (d : Die) (p : Nat) (f : LarPas → LarPas) : (d.onLar p f).larder p = f (d.larder p) := by
  simp [Die.larder, Die.onLar]

theorem Die.larder_congr {d e : Die} (h : e.lar = d.lar) (p : Nat) : e.larder p = d.larder p := by rw [Die.larder, h]; rfl

/-- `e` has the Larder of `d`: its registers and what it stores. -/
def Die.sameLarder (d e : Die) : Prop :=
  e.lar = d.lar ∧ e.rows = d.rows ∧ e.dir = d.dir ∧ e.grants = d.grants ∧ e.fc = d.fc

/-- A register's write leaves what the Larder stores. -/
theorem Die.sameLarder_setFields (b : Block) (i off w : Nat) (d : Die) : d.sameLarder (d.setFields b i off w) := by
  rw [Die.setFields_regs]
  exact ⟨rfl, rfl, rfl, rfl, rfl⟩

/-- Clean default rows leave the registers and what the Larder stores. -/
theorem Die.eccClears_same (p : Nat) (l : List Nat) (d : Die) :
    d.sameLarder (l.foldl (fun d t => d.eccClear 7 (p * 8 + t)) d) ∧ (l.foldl (fun d t => d.eccClear 7 (p * 8 + t)) d).regs = d.regs := by
  induction l generalizing d with
  | nil => exact ⟨⟨rfl, rfl, rfl, rfl, rfl⟩, rfl⟩
  | cons t l ih => exact ih (d.eccClear 7 (p * 8 + t))

/-- The banks of pasture `p` change places (R97). -/
theorem Die.swapBanks_exchanges (p : Nat) (d : Die) :
    let e := d.swapBanks p
    (e.larder p).live = 1 - (d.larder p).live ∧ (e.larder p).liveSeed = (d.larder p).shadowSeed ∧ (e.larder p).defLive = (d.larder p).defShadow
      ∧ e.lrdState p = 0 ∧ e.rows = d.rows ∧ e.dir = d.dir := by
  unfold Die.swapBanks
  extract_lets x nl used gone d1 d2 e
  have h2 : d1.sameLarder d2 := (Die.eccClears_same p _ d1).1
  obtain ⟨hlar, hrows, hdir, -, -⟩ := h2
  have hlarder : e.larder p = d1.larder p := Die.larder_congr hlar p
  have hd1 : d1.larder p = _ := Die.larder_onLar_same d p _
  rw [hlarder, hd1]
  refine ⟨rfl, rfl, rfl, ?_, hrows, hdir⟩
  have hseed : R.LRD_STATUS_STATE.key p ≠ R.LRD_STATUS_LIVE_SEED.key p := by simp only [Fld.key, R.LRD_STATUS_STATE, R.LRD_STATUS_LIVE_SEED]; omega
  have hlive : R.LRD_STATUS_STATE.key p ≠ R.LRD_STATUS_LIVE.key p := by simp only [Fld.key, R.LRD_STATUS_STATE, R.LRD_STATUS_LIVE]; omega
  simp only [e, Die.lrdState]
  rw [Die.get_put_other _ _ _ _ _ _ hseed, Die.get_put_other _ _ _ _ _ _ hlive, Die.get_put_same]
  rfl

/-- Settles O8: whichever way the swap comes, it is the one exchange of the banks; a register that is written leaves what the Larder stores. -/
theorem banksExchange : Obligations.BanksExchange := by
  unfold Obligations.BanksExchange
  intro s src p w hp x swapped
  have hok : decide (p < 64) = true := decide_eq_true hp
  set e := s.die.setFields .LRD p 0x014 w.toNat with he
  have hsame : s.die.sameLarder e := Die.sameLarder_setFields _ _ _ _ _
  obtain ⟨hlar, hrows, hdir, hgrants, hfc⟩ := hsame
  have hlarder : e.larder p = x := Die.larder_congr hlar p
  have hfield (f : Fld) (hf : f.key p / 32 ≠ blockAddr .LRD p 0x014) : e.get f p = s.die.get f p := Die.get_setFields_other _ _ _ _ _ _ _ hf
  have hword (f : Fld) (hb : f.base = 0x340000) (ho : f.off + f.lo / 32 ≠ 0x014) : e.get f p = s.die.get f p := by
    refine hfield f ?_
    rw [blockAddr_eq, show blockAddr .LRD 0 0 = 0x340000 from rfl, Fld.key, hb]
    omega
  have hstate : e.lrdState p = s.die.lrdState p := hword _ rfl (by decide)
  have hrefused : e.on R.LRD_STATUS_REFUSED p = s.die.on R.LRD_STATUS_REFUSED p := congrArg (· == 1) (hword R.LRD_STATUS_REFUSED rfl (by decide))
  have hpair : e.pair64 R.LRD_SWAP_FC_LO R.LRD_SWAP_FC_HI p = s.die.pair64 R.LRD_SWAP_FC_LO R.LRD_SWAP_FC_HI p := by
    rw [Die.pair64, hword R.LRD_SWAP_FC_LO rfl (by decide), hword R.LRD_SWAP_FC_HI rfl (by decide)]
    rfl
  have hswapOk (h : s.die.lrdState p = 2 ∨ s.die.lrdState p = 3) (hr : s.die.on R.LRD_STATUS_REFUSED p = false) : e.swapOk p = true := by
    unfold Die.swapOk
    rw [hstate, hrefused, hr]
    rcases h with h | h <;> simp [h]
  refine ⟨?_, ?_, ?_, ?_, ?_⟩
  · intro ha hgo hst hr
    refine State.completes_dieCmd (f := writeDie src (blockAddr .LRD p 0x014) (lrdSwapW p w.toNat)) rfl hok ?_
    rw [writeDie_admitted ha]
    have hw : lrdSwapW p w.toNat s.die = e.swapBanks p := by
      simp only [lrdSwapW, lowestWo, List.find?_cons, hgo, Die.swapGo, ← he, hswapOk hst hr, if_true]
    rw [hw]
    obtain ⟨h1, h2, h3, h4, h5, h6⟩ := Die.swapBanks_exchanges p e
    rw [hlarder] at h1 h2 h3
    exact ⟨rfl, h1, h2, h3, h4, h5.trans hrows, h6.trans hdir⟩
  · intro ha hgo hst
    refine State.completes_dieCmd (f := writeDie src (blockAddr .LRD p 0x014) (lrdSwapW p w.toNat)) rfl hok ?_
    rw [writeDie_admitted ha]
    have hw : lrdSwapW p w.toNat s.die = e.count T.LRD_SWAP_REFUSE p := by
      have : e.swapOk p = false := by
        unfold Die.swapOk
        rw [hstate]
        have h2 : (s.die.lrdState p == 2) = false := by simp; omega
        have h3 : (s.die.lrdState p == 3) = false := by simp; omega
        simp [h2, h3]
      simp only [lrdSwapW, lowestWo, List.find?_cons, hgo, Die.swapGo, ← he, this, if_false, Bool.false_eq_true]
    rw [hw]
    have hloft : loftTally (T.LRD_SWAP_REFUSE.key p) = false :=
      loftTally_false (.inr ⟨by simp only [Tal.key, T.LRD_SWAP_REFUSE]; omega, .inr (.inl (by simp only [Tal.key, T.LRD_SWAP_REFUSE]; omega))⟩)
    refine ⟨(Die.tally_count_same _ _ _ hloft).trans ?_, ?_, rfl⟩
    · have : e.tallies = s.die.tallies := by rw [he, Die.setFields_regs]
      rw [Die.tally, this]; rfl
    · simp only [Die.count_frame]; exact hlar
  · intro ha hgo hat hst hr hfut
    refine State.completes_dieCmd (f := writeDie src (blockAddr .LRD p 0x014) (lrdSwapW p w.toNat)) rfl hok ?_
    rw [writeDie_admitted ha]
    have hw : lrdSwapW p w.toNat s.die
        = (e.onLar p (fun y => { y with swapAt := s.die.pair64 R.LRD_SWAP_FC_LO R.LRD_SWAP_FC_HI p })).put R.LRD_STATUS_STATE p 3 := by
      have hneg : ¬ 0 ≤ sdiff 64 s.die.fc (s.die.pair64 R.LRD_SWAP_FC_LO R.LRD_SWAP_FC_HI p) := by omega
      simp only [lrdSwapW, lowestWo, List.find?_cons, hgo, hat, Die.swapAt, ← he, hswapOk (.inl hst) hr, if_true, hpair, hfc, hneg, if_false]
    rw [hw]
    have hl := Die.larder_onLar_same e p (fun y => { y with swapAt := s.die.pair64 R.LRD_SWAP_FC_LO R.LRD_SWAP_FC_HI p })
    rw [hlarder] at hl
    have hst3 (d : Die) : (d.put R.LRD_STATUS_STATE p 3).lrdState p = 3 := Die.get_put_same _ _ _ _
    exact ⟨rfl, hst3 _, (congrArg LarPas.live hl :), (congrArg LarPas.swapAt hl :)⟩
  · intro hst hdue
    refine State.completes_dieCmd (f := fun s => if s.die.lrdState p = 3 ∧ 0 ≤ sdiff 64 s.die.fc (s.die.larder p).swapAt then s.die.swapBanks p else s.die)
      rfl hok ?_
    rw [if_pos ⟨hst, hdue⟩]
    obtain ⟨h1, h2, h3, h4, h5, h6⟩ := Die.swapBanks_exchanges p s.die
    exact ⟨rfl, h1, h2, h3, h4, h5, h6⟩
  · intro hfree
    refine State.completes_dieCmd (f := fun s => s.die.rowFree p) rfl hok ?_
    have hempty : (s.die.larder p).freeing.isEmpty = false := by rw [List.isEmpty_eq_false_iff]; exact hfree
    have hlar : (s.die.rowFree p).larder p = { x with
        alloc := KMap.keep x.alloc (fun a => !(x.freeing.contains a) || (s.die.refs p x.live x.defLive).contains a), freeing := [] } := by
      unfold Die.rowFree
      simp only [hempty, Bool.false_eq_true, if_false]
      split <;> simp only [Die.larder, Die.onLar, KMap.get_upd_same] <;> rfl
    have hrows : (s.die.rowFree p).rows = s.die.rows := by
      unfold Die.rowFree
      simp only [hempty, Bool.false_eq_true, if_false]
      split <;> rfl
    dsimp only
    rw [hlar]
    refine ⟨rfl, rfl, fun a ha href => ?_, fun a ha => ?_, hrows⟩
    · rw [KMap.get_keep]
      simp [ha, href]
    · rw [KMap.get_keep]
      simp [ha]

end Sys2Proof.Machine
end

section
/-! SUPPORT. The rebuild of a pasture's shadow bank from its ring (R90 to R94, R98). -/

namespace Sys2Proof.Machine

/-- A register's write leaves the fields of its page's other registers alone. -/
theorem Die.get_setFields_page (b : Block) (i off w : Nat) (d : Die) (f : Fld) (hb : f.base = blockAddr b 0 0) (ho : f.off + f.lo / 32 ≠ off) :
    (d.setFields b i off w).get f i = d.get f i := by
  refine Die.get_setFields_other _ _ _ _ _ _ _ ?_
  rw [blockAddr_eq, Fld.key, hb]
  omega

@[simp] theorem Die.faultRecord_larder (fu : Fused) (kind : Nat) (keys : List (Nat × Cbor)) (d : Die) :
    (d.faultRecord fu kind keys).lar = d.lar ∧ (d.faultRecord fu kind keys).rows = d.rows :=
  have h := d.report_faultRecord fu kind keys
  ⟨(congrArg Die.lar h.1).trans rfl, (congrArg Die.rows h.1).trans rfl⟩

@[simp] theorem Die.incident_larder (c src inst name : Nat) (d : Die) :
    (d.incident c src inst name).lar = d.lar ∧ (d.incident c src inst name).rows = d.rows :=
  have h := d.report_incident c src inst name
  ⟨(congrArg Die.lar h.1).trans rfl, (congrArg Die.rows h.1).trans rfl⟩

/-- A word in error that no tile holds changes the errors, the poison and the report alone. -/
theorem Die.eccRead_larder (fu : Fused) (kind loc : Nat) (pas : Option Nat) (d : Die) :
    (d.eccRead fu kind loc none pas).2.lar = d.lar ∧ (d.eccRead fu kind loc none pas).2.rows = d.rows := by
  unfold Die.eccRead
  dsimp only
  split
  · simp
  split
  · exact ⟨rfl, rfl⟩
  · unfold Die.foundCe
    dsimp only
    split <;> simp [Die.draw]
  · simp [Die.foundUe, Die.draw]

/-- CLONE changes the places of the shadow bank, and no row. -/
theorem Die.cloneBank_larder (fu : Fused) (p : Nat) (d : Die) : (d.cloneBank fu p).lar = d.lar ∧ (d.cloneBank fu p).rows = d.rows := by
  unfold Die.cloneBank
  dsimp only
  constructor
  · refine foldl_keeps Die.lar _ (fun e k => ?_) _ _
    split <;> exact (e.eccRead_larder fu 6 k (some p)).1
  · refine foldl_keeps Die.rows _ (fun e k => ?_) _ _
    split <;> exact (e.eccRead_larder fu 6 k (some p)).2

/-- A discarded shadow bank (R98): the live bank stands, and the live default rows are the next ones. -/
theorem Die.discardShadow_live (p : Nat) (d : Die) :
    ((d.discardShadow p).larder p).live = (d.larder p).live ∧ ((d.discardShadow p).larder p).defShadow = (d.larder p).defLive
      ∧ ((d.discardShadow p).larder p).defLive = (d.larder p).defLive ∧ (d.discardShadow p).rows = d.rows := by
  unfold Die.discardShadow
  dsimp only
  simp only [Die.larder_onLar_same]
  exact ⟨rfl, rfl, rfl, rfl⟩

/-- A write to one field leaves a field of the same unit that stands elsewhere. -/
theorem Die.get_put_apart (d : Die) (f g : Fld) (i v : Nat) (h : (g.base + g.off) * 32 + g.lo ≠ (f.base + f.off) * 32 + f.lo) :
    (d.put f i v).get g i = d.get g i := by
  refine Die.get_put_other _ _ _ _ _ _ ?_
  unfold Fld.key
  omega

/-- A START that is taken begins the rebuild; the live bank stands (R91). -/
theorem Die.rebuildStart_begins (fu : Fused) (p : Nat) (d : Die) (im : Image) (hst : d.lrdState p ≠ 3) (him : d.admittedImage p = some im)
    (htab : im.tables ≠ []) (hk : d.grantK p ≠ 0) :
    let e := d.rebuildStart fu p
    e.lrdState p = 1 ∧ e.on R.LRD_STATUS_REFUSED p = false ∧ (e.larder p).live = (d.larder p).live ∧ (e.larder p).defShadow = (e.larder p).defLive
      ∧ (e.larder p).defLive = (d.larder p).defLive ∧ e.rows = d.rows := by
  have hsome : im.tables.isEmpty = false := by rw [List.isEmpty_eq_false_iff]; exact htab
  have hkz : (d.grantK p == 0) = false := by simpa using hk
  unfold Die.rebuildStart
  simp only [hst, if_false, him, hsome, hkz, Bool.not_false, Bool.not_true, Bool.or_self, Bool.false_eq_true]
  obtain ⟨hlive, hshadow, hdef, hrows⟩ := d.discardShadow_live p
  set d1 := (d.discardShadow p).cleanBank p (1 - (d.larder p).live) with hd1
  have hclean : d1.larder p = (d.discardShadow p).larder p ∧ d1.rows = (d.discardShadow p).rows := ⟨rfl, rfl⟩
  clear_value d1
  generalize hd2 : (if d1.get R.LRD_REBUILD_MODE p = 0 then (d1.cloneBank fu p).onLar p (fun y => { y with shadowSeed := y.liveSeed })
    else d1.onLar p (fun y => { y with shadowSeed := d1.get R.LRD_REBUILD_SEED p })) = d2
  have h2 : (d2.larder p).live = (d.larder p).live ∧ (d2.larder p).defShadow = (d.larder p).defLive ∧ (d2.larder p).defLive = (d.larder p).defLive
      ∧ d2.rows = d.rows := by
    rw [← hclean.1] at hlive hshadow hdef
    have hseed (e : Die) (f : LarPas → LarPas) (he : e.lar = d1.lar ∧ e.rows = d1.rows)
        (hf : ∀ y, (f y).live = y.live ∧ (f y).defShadow = y.defShadow ∧ (f y).defLive = y.defLive) :
        ((e.onLar p f).larder p).live = (d.larder p).live ∧ ((e.onLar p f).larder p).defShadow = (d.larder p).defLive
          ∧ ((e.onLar p f).larder p).defLive = (d.larder p).defLive ∧ (e.onLar p f).rows = d.rows := by
      rw [Die.larder_onLar_same, Die.larder_congr he.1]
      obtain ⟨f1, f2, f3⟩ := hf (d1.larder p)
      exact ⟨f1.trans hlive, f2.trans hshadow, f3.trans hdef, he.2.trans (hclean.2.trans hrows)⟩
    rw [← hd2]
    split
    · exact hseed _ _ (d1.cloneBank_larder fu p) (fun _ => ⟨rfl, rfl, rfl⟩)
    · exact hseed _ _ ⟨rfl, rfl⟩ (fun _ => ⟨rfl, rfl, rfl⟩)
  obtain ⟨g1, g2, g3, g4⟩ := h2
  refine ⟨?_, ?_, g1, g2.trans g3.symm, g3, g4⟩
  · simp (disch := decide) only [Die.lrdState, Die.get_put_apart, Die.get_put_same]
    rfl
  · simp (disch := decide) only [Die.on, Die.get_put_apart, Die.get_put_same]
    rfl

/-- START and ABORT of LRD_REBUILD, performed (R91, R98). -/
theorem rebuild_written {s : State} {src : Source} {p : Nat} {w : Word} (hp : p < 64) (ha : s.admits src .LRD p 0x010) :
    (bit w.toNat 2 = true → ∀ im, s.die.lrdState p ≠ 3 → s.die.image p = some im → (s.die.pasture p).adm = true → im.tables ≠ [] → s.die.grantK p ≠ 0 →
       s.completes (.rebuildStart src p w) (fun t => t = { s with die := t.die } ∧ t.die.lrdState p = 1 ∧ t.die.on R.LRD_STATUS_REFUSED p = false
         ∧ (t.die.larder p).live = (s.die.larder p).live ∧ (t.die.larder p).defShadow = (t.die.larder p).defLive
         ∧ (t.die.larder p).defLive = (s.die.larder p).defLive ∧ t.die.rows = s.die.rows))
     ∧ (bit w.toNat 2 = false → bit w.toNat 3 = true →
       s.completes (.rebuildAbort src p w) (fun t => t = { s with die := t.die } ∧ t.die.lrdState p = 0
         ∧ (t.die.larder p).live = (s.die.larder p).live ∧ (t.die.larder p).defShadow = (t.die.larder p).defLive
         ∧ (t.die.larder p).defLive = (s.die.larder p).defLive ∧ t.die.rows = s.die.rows)) := by
  set e := s.die.setFields .LRD p 0x010 w.toNat with he
  obtain ⟨hlar, hrows, -, hgrants, -⟩ : s.die.sameLarder e := Die.sameLarder_setFields _ _ _ _ _
  have hpas : e.pas = s.die.pas := by rw [he, Die.setFields_regs]
  have hlarder := Die.larder_congr hlar p
  constructor
  · intro hstart im hst him hadm htab hk
    refine State.completes_dieCmd (f := fun s => writeDie src (blockAddr .LRD p 0x010) (lrdRebuildW s.fused p w.toNat) s) rfl (decide_eq_true hp) ?_
    rw [writeDie_admitted ha]
    have hw : lrdRebuildW s.fused p w.toNat s.die = e.rebuildStart s.fused p := by
      simp only [lrdRebuildW, lowestWo, List.find?_cons, hstart, ← he]
    rw [hw]
    have hstate : e.lrdState p = s.die.lrdState p := by
      exact Die.get_setFields_page _ _ _ _ _ R.LRD_STATUS_STATE rfl (by decide)
    have hpasture : e.pasture p = s.die.pasture p := by rw [Die.pasture, hpas]; rfl
    have hadmitted : e.admittedImage p = some im := by
      rw [Die.admittedImage, hpasture, if_pos hadm, Die.image, hpasture]; exact him
    have hgrantK : e.grantK p = s.die.grantK p := by rw [Die.grantK, Die.grant, hgrants]; rfl
    obtain ⟨h1, h2, h3, h4, h5, h6⟩ := Die.rebuildStart_begins s.fused p e im (by rw [hstate]; exact hst) hadmitted htab (by rw [hgrantK]; exact hk)
    rw [hlarder] at h3 h5
    exact ⟨rfl, h1, h2, h3, h4, h5, h6.trans hrows⟩
  · intro hstart habort
    refine State.completes_dieCmd (f := fun s => writeDie src (blockAddr .LRD p 0x010) (lrdRebuildW s.fused p w.toNat) s) rfl (decide_eq_true hp) ?_
    rw [writeDie_admitted ha]
    have hw : lrdRebuildW s.fused p w.toNat s.die = e.rebuildAbort p := by
      simp only [lrdRebuildW, lowestWo, List.find?_cons, hstart, habort, ← he]
    rw [hw]
    obtain ⟨h1, h2, h3, h4⟩ := e.discardShadow_live p
    rw [hlarder] at h1 h2 h3
    exact ⟨rfl, (Die.get_put_same _ _ _ _).trans rfl, h1, h2.trans h3.symm, h3, h4.trans hrows⟩

/-- A rebuild command whose record stands at the ring's tail. -/
theorem State.completes_rb {s : State} {c : Instr} {p : Nat} {sel : Die → RbRec → Bool} {f : RbRec → Die → Die} {r : RbRec} {P : State → Prop}
    (hc : exec c s = rbCmd p sel f s) (hp : p < 64) (hhead : s.die.rbHead p = some r) (hsel : sel s.die r = true) (h : P { s with die := f r s.die }) :
    s.completes c P := by
  refine State.completes_dieCmd hc (decide_eq_true hp) ?_
  simp only [hhead, hsel, if_true]
  exact h

/-- Row words `ws` of pasture `p` taken from pointer `a` on: `e` is `d` with them in use (R92). -/
structure Die.RowTaken (p n a : Nat) (ws : List Nat) (d e : Die) : Prop where
  taken : d.allocRow p n = some (a, e)
  words : e.rowAt p a n = ws
  length : ws.length = n
  rows : e.rows = d.rows
  dir : e.dir = d.dir
  regs : e.regs = d.regs

/-- A row takes a run of free words where there is one (R92). -/
theorem Die.allocRow_run (p n : Nat) (d : Die) (h : d.freeRuns p n ≠ []) : ∃ a ∈ d.freeRuns p n, ∃ e, Die.RowTaken p n a (span a (a + n)) d e := by
  have hlt : d.draw.1.toNat % (d.freeRuns p n).length < (d.freeRuns p n).length := Nat.mod_lt _ (List.length_pos_iff.mpr h)
  have hget := List.getElem?_eq_getElem hlt
  set a := (d.freeRuns p n)[d.draw.1.toNat % (d.freeRuns p n).length]
  refine ⟨a, List.getElem_mem hlt, d.draw.2.onLar p (fun x => { x with alloc := KMap.set [] x.alloc a (span a (a + n)) }),
    ⟨by unfold Die.allocRow; simp only [hget], ?_, by simp, rfl, rfl, rfl⟩⟩
  unfold Die.rowAt
  rw [Die.larder_onLar_same]
  simp only [KMap.get_set_same]
  split
  · rfl
  · rw [List.take_of_length_le (by simp)]

/-- Where no run of words is free a row takes the lowest free ones (R92). -/
theorem Die.allocRow_spread (p n : Nat) (d : Die) (ws : List Nat)
    (hws : freeWords (grantField (d.grant p) 8 4) (grantField (d.grant p) 8 4 + grantField (d.grant p) 12 4) (d.usedWords p) n = ws)
    (h : d.freeRuns p n = []) (hlen : ws.length = n) (hn : n ≠ 0) : ∃ e, Die.RowTaken p n (ws.headD 0) ws d e := by
  obtain ⟨a, ws', rfl⟩ := List.exists_cons_of_length_pos (l := ws) (by omega)
  refine ⟨d.onLar p (fun x => { x with alloc := KMap.set [] x.alloc a (a :: ws') }), ⟨?_, ?_, hlen, rfl, rfl, rfl⟩⟩
  · unfold Die.allocRow
    simp only [h, List.getElem?_nil, hws]
    rw [if_pos (by simpa using hlen)]
    rfl
  · unfold Die.rowAt
    rw [Die.larder_onLar_same, List.headD_cons]
    simp only [KMap.get_set_same]
    rw [List.take_of_length_le (by omega)]

/-- Where the region has fewer free words than a row takes, none is taken (R93). -/
theorem Die.allocRow_none (p n : Nat) (d : Die) (h : d.freeRuns p n = [])
    (hlen : (freeWords (grantField (d.grant p) 8 4) (grantField (d.grant p) 8 4 + grantField (d.grant p) 12 4) (d.usedWords p) n).length < n) :
    d.allocRow p n = none := by
  unfold Die.allocRow
  simp only [h, List.getElem?_nil]
  split
  · next a ws hws =>
    rw [hws, List.length_cons] at hlen
    rw [if_neg (by omega)]
  · rfl

/-- The rows after `data` is written into row words `ws`. -/
def Die.rowsWritten (d : Die) (ws : List Nat) (data : List Byte) : KMap (BitVec 64) :=
  (ws.zip (chunk 8 ws.length (padTo (8 * ws.length) data))).foldl (fun m y => KMap.set 0 m y.1 (BitVec.ofNat 64 (leNat y.2))) d.rows

/-- A row that is written leaves the registers and which words are in use. -/
theorem Die.putRow_stands (p ptr words : Nat) (bs : List Byte) (d : Die) :
    (d.putRow p ptr words bs).regs = d.regs ∧ (d.putRow p ptr words bs).lar = d.lar := by
  unfold Die.putRow
  dsimp only
  exact ⟨foldl_keeps Die.regs _ (fun _ _ => by rfl) _ _, foldl_keeps Die.lar _ (fun _ _ => by rfl) _ _⟩

/-- Data written into a row just taken. -/
theorem Die.RowTaken.written {p n a : Nat} {ws : List Nat} {d e : Die} (h : Die.RowTaken p n a ws d e) (data : List Byte) :
    (e.putRow p a n data).rows = d.rowsWritten ws data ∧ (e.putRow p a n data).dir = d.dir ∧ (e.putRow p a n data).regs = d.regs
      ∧ (e.putRow p a n data).rowAt p a n = ws := by
  obtain ⟨hrows, hdir, -⟩ := Die.putRow_eq p a n data e
  obtain ⟨hregs, hlar⟩ := Die.putRow_stands p a n data e
  refine ⟨?_, hdir.trans h.dir, hregs.trans h.regs, ?_⟩
  · rw [hrows, h.words, h.rows, Die.rowsWritten, h.length]
  · rw [Die.rowAt, Die.larder_congr hlar]
    exact h.words

/-- The ring's tail after a record's units are consumed, whatever the record did besides. -/
theorem Die.rbPop_tail (p units : Nat) {d e : Die} (h : e.regs = d.regs) :
    (e.rbPop p units).get R.LRD_RING_TAIL_VALUE p = (d.get R.LRD_RING_TAIL_VALUE p + units) % 2 ^ 32 := by
  rw [Die.rbPop, Die.get_put_same, Die.get_congr e d h]
  rfl

/-- The place in the shadow bank that a PUT takes: the key's own, or the first of its buckets that has none (R92). -/
def Die.rbSpot (d : Die) (p : Nat) (r : RbRec) : Option Nat :=
  match d.dirFind (d.places p r.table r.key (1 - (d.larder p).live) (d.larder p).shadowSeed) r.table r.key with
  | some (j, _) => some j
  | none => (d.places p r.table r.key (1 - (d.larder p).live) (d.larder p).shadowSeed).find? (fun j => (KMap.get none d.dir j).isNone)

/-- PUT, by the place and the row it takes (R92, R93). -/
theorem Die.rbPut_eq (p : Nat) (r : RbRec) (tb : TableImg) (d : Die) (htb : d.rbTable p r = some tb) :
    d.rbPut p r = (match d.rbSpot p r, d.allocRow p tb.rowUnits with
      | some k, some (a, d1) => (d1.putRow p a tb.rowUnits r.data).putDir k (some ⟨r.key, r.table, a⟩)
      | _, _ => d.insertRefuse p r) := by
  unfold Die.rbPut Die.rbSpot
  simp only [htb] <;> rfl

/-- The places after one is written and the record's units consumed. -/
theorem Die.dir_rbPop_putDir (p units k : Nat) (v : Option DirEnt) (d : Die) :
    KMap.get none ((d.putDir k v).rbPop p units).dir k = v
      ∧ ∀ j, j ≠ k → KMap.get none ((d.putDir k v).rbPop p units).dir j = KMap.get none d.dir j := by
  have h : ((d.putDir k v).rbPop p units).dir = KMap.set none d.dir k v := rfl
  rw [h]
  exact ⟨KMap.get_set_same _ _ _ _, fun j hj => KMap.get_set_other _ _ _ _ _ hj⟩

/-- PUT with a place and a row (R92). -/
theorem Die.rbPut_taken {p n k a : Nat} {r : RbRec} {tb : TableImg} {ws : List Nat} {d e : Die} (htb : d.rbTable p r = some tb) (hn : tb.rowUnits = n)
    (hspot : d.rbSpot p r = some k) (h : Die.RowTaken p n a ws d e) :
    let u := (d.rbPut p r).rbPop p r.units
    u.get R.LRD_RING_TAIL_VALUE p = (d.get R.LRD_RING_TAIL_VALUE p + r.units) % 2 ^ 32
      ∧ KMap.get none u.dir k = some ⟨r.key, r.table, a⟩ ∧ u.rows = d.rowsWritten ws r.data ∧ u.rowAt p a n = ws
      ∧ ∀ j, j ≠ k → KMap.get none u.dir j = KMap.get none d.dir j := by
  subst hn
  obtain ⟨hrows, hdir, hregs, hat⟩ := h.written r.data
  rw [Die.rbPut_eq p r tb d htb, hspot, h.taken]
  dsimp only
  generalize e.putRow p a tb.rowUnits r.data = f at hrows hdir hregs hat
  obtain ⟨hsame, hother⟩ := f.dir_rbPop_putDir p r.units k (some ⟨r.key, r.table, a⟩)
  rw [hdir] at hother
  exact ⟨Die.rbPop_tail p r.units hregs, hsame, hrows, hat, hother⟩

/-- PUT refused (R93). -/
theorem Die.rbPut_refused {p : Nat} {r : RbRec} {tb : TableImg} {d : Die} (htb : d.rbTable p r = some tb)
    (h : d.rbSpot p r = none ∨ d.allocRow p tb.rowUnits = none) : d.rbPut p r = d.insertRefuse p r := by
  rw [Die.rbPut_eq p r tb d htb]
  rcases h with h | h
  · rw [h]
  · rw [h]
    cases d.rbSpot p r <;> rfl

/-- DEFAULT with a row (R91, R92). -/
theorem Die.rbDefault_taken {p n a : Nat} {r : RbRec} {tb : TableImg} {ws : List Nat} {d e : Die} (htb : d.rbTable p r = some tb) (hn : tb.rowUnits = n)
    (h : Die.RowTaken p n a ws d e) :
    let u := (d.rbDefault p r).rbPop p r.units
    u.get R.LRD_RING_TAIL_VALUE p = (d.get R.LRD_RING_TAIL_VALUE p + r.units) % 2 ^ 32
      ∧ KMap.get 0 (u.larder p).defShadow r.table = a ∧ u.rows = d.rowsWritten ws r.data ∧ u.dir = d.dir := by
  subst hn
  obtain ⟨hrows, hdir, hregs, -⟩ := h.written r.data
  unfold Die.rbDefault
  simp only [htb, h.taken]
  generalize e.putRow p a tb.rowUnits r.data = f at hrows hdir hregs
  refine ⟨Die.rbPop_tail p r.units hregs, ?_, hrows, hdir⟩
  have hlar (g : Die) : (g.rbPop p r.units).larder p = g.larder p := rfl
  rw [hlar, Die.larder_onLar_same]
  exact KMap.get_set_same _ _ _ _

/-- The Larder's tallies are none of the Loft's. -/
theorem loftTally_lrd (t : Tal) (p : Nat) (hb : t.base = 0x340000) : loftTally (t.key p) = false := by
  refine loftTally_false (.inr ?_)
  simp only [Tal.key, hb]
  omega

/-- A Larder's registers are none that a report changes. -/
theorem reportWord_lrd (f : Fld) (p : Nat) (hb : f.base = 0x340000) (hp : p < 64) (ho : f.off < 0x1000) (hlo : f.lo < 32) :
    reportWord (f.key p / 32) = false := by
  have : f.key p / 32 = 0x340000 + p * 0x1000 + f.off := by unfold Fld.key; omega
  rw [this]
  unfold reportWord
  simp
  omega

/-- The first PUT refused of a rebuild is counted and recorded (R93). -/
theorem Die.insertRefuse_first (p : Nat) (r : RbRec) (d : Die) (hp : p < 64) (hfirst : d.on R.LRD_STATUS_REFUSED p = false) :
    let u := (d.insertRefuse p r).rbPop p r.units
    u.get R.LRD_RING_TAIL_VALUE p = (d.get R.LRD_RING_TAIL_VALUE p + r.units) % 2 ^ 32 ∧ u.on R.LRD_STATUS_REFUSED p = true
      ∧ u.get R.LRD_STATUS_KEY_KEY p = r.key % 2 ^ 32 ∧ u.tally T.LRD_INSERT_REFUSE p = tallyAdd (d.tally T.LRD_INSERT_REFUSE p) 1
      ∧ u.rows = d.rows ∧ u.dir = d.dir := by
  have hrep := d.report_count T.LRD_INSERT_REFUSE p
  have hfield (f : Fld) (hb : f.base = 0x340000) (ho : f.off < 0x1000) (hlo : f.lo < 32) : (d.count T.LRD_INSERT_REFUSE p).get f p = d.get f p :=
    hrep.get f p (reportWord_lrd f p hb hp ho hlo)
  have hon : (d.count T.LRD_INSERT_REFUSE p).on R.LRD_STATUS_REFUSED p = false :=
    (congrArg (· == 1) (hfield R.LRD_STATUS_REFUSED rfl (by decide) (by decide))).trans hfirst
  have htail := hfield R.LRD_RING_TAIL_VALUE rfl (by decide) (by decide)
  have htally := Die.tally_count_same T.LRD_INSERT_REFUSE p d (loftTally_lrd _ _ rfl)
  have hrows : (d.count T.LRD_INSERT_REFUSE p).rows = d.rows := by simp
  have hdir : (d.count T.LRD_INSERT_REFUSE p).dir = d.dir := by simp
  unfold Die.insertRefuse
  simp only [hon, Bool.false_eq_true, if_false]
  generalize d.count T.LRD_INSERT_REFUSE p = e at htail htally hrows hdir
  refine ⟨?_, ?_, ?_, htally, hrows, hdir⟩
  · simp (disch := decide) only [Die.rbPop, Die.flag, Die.get_put_apart, Die.get_put_same, htail]
    rfl
  · simp (disch := decide) only [Die.rbPop, Die.flag, Die.on, Die.get_put_apart, Die.get_put_same]
    rfl
  · simp (disch := decide) only [Die.rbPop, Die.flag, Die.get_put_apart, Die.get_put_same]
    rfl

/-- Settles O7: a write of LRD_REBUILD by `rebuild_written`; a record of the ring by what it takes (`RowTaken`) and what consuming it leaves. -/
theorem rebuildRuns : Obligations.RebuildRuns := by
  unfold Obligations.RebuildRuns
  refine ⟨fun s src p w im hp ha => ?_, ?_⟩
  · obtain ⟨hstart, habort⟩ := rebuild_written hp ha
    exact ⟨fun hb => hstart hb im, habort⟩
  intro s p r hp hhead x pl spot tail written lo spread
  have hspot : spot = s.die.rbSpot p r := rfl
  have hput {P : State → Prop} (hfits : r.fits = true) (hskip : s.die.rbSkips p r = false) (hop : r.op = 1)
      (h : P { s with die := (s.die.rbPut p r).rbPop p r.units }) : s.completes (.rbPut p) P :=
    State.completes_rb (sel := fun d r => r.fits && r.op == 1 && !(d.rbSkips p r)) (f := fun r d => (d.rbPut p r).rbPop p r.units) rfl hp hhead
      (by simp [hfits, hop, hskip]) h
  have hdefault {P : State → Prop} (hfits : r.fits = true) (hskip : s.die.rbSkips p r = false) (hop : r.op = 3)
      (h : P { s with die := (s.die.rbDefault p r).rbPop p r.units }) : s.completes (.rbDefault p) P :=
    State.completes_rb (sel := fun d r => r.fits && r.op == 3 && !(d.rbSkips p r)) (f := fun r d => (d.rbDefault p r).rbPop p r.units) rfl hp hhead
      (by simp [hfits, hop, hskip]) h
  refine ⟨fun hfits hskip => ⟨?_, ?_, ?_, ?_, ?_, ?_, ?_⟩, ?_, ?_⟩
  · intro k tb hop htb hk hrun
    obtain ⟨a, ha, e, htaken⟩ := s.die.allocRow_run p tb.rowUnits hrun
    obtain ⟨h1, h2, h3, -, h5⟩ := Die.rbPut_taken htb rfl (hspot ▸ hk) htaken
    exact hput hfits hskip hop ⟨⟨h1, rfl⟩, a, ha, h2, h3, h5⟩
  · intro k tb hop htb hk hrun hlen hn
    obtain ⟨e, htaken⟩ := s.die.allocRow_spread p tb.rowUnits _ rfl hrun hlen hn
    obtain ⟨h1, h2, h3, h4, h5⟩ := Die.rbPut_taken htb rfl (hspot ▸ hk) htaken
    exact hput hfits hskip hop ⟨⟨h1, rfl⟩, h2, h3, h4, h5⟩
  · intro tb hop htb hlack hfirst
    have hrefused : s.die.rbPut p r = s.die.insertRefuse p r :=
      Die.rbPut_refused htb (hlack.imp (fun h => hspot ▸ h) (fun h => s.die.allocRow_none p tb.rowUnits h.1 h.2))
    obtain ⟨h1, h2, h3, h4, h5, h6⟩ := s.die.insertRefuse_first p r hp hfirst
    refine hput hfits hskip hop ?_
    rw [hrefused]
    exact ⟨⟨h1, rfl⟩, h2, h3, h4, h5, h6⟩
  · intro k e hop hfind
    have hdel : s.die.rbDelete p r = s.die.putDir k none := by
      unfold Die.rbDelete
      simp only [show s.die.dirFind (s.die.places p r.table r.key (1 - (s.die.larder p).live) (s.die.larder p).shadowSeed) r.table r.key = some (k, e) from hfind]
    refine State.completes_rb (sel := fun d r => r.fits && r.op == 2 && !(d.rbSkips p r))
      (f := fun r d => (d.rbDelete p r).rbPop p r.units) rfl hp hhead (by simp [hfits, hop, hskip]) ?_
    rw [hdel]
    obtain ⟨hsame, hother⟩ := s.die.dir_rbPop_putDir p r.units k none
    exact ⟨⟨Die.rbPop_tail p r.units rfl, rfl⟩, hsame, rfl, hother⟩
  · intro tb hop htb hrun
    obtain ⟨a, ha, e, htaken⟩ := s.die.allocRow_run p tb.rowUnits hrun
    obtain ⟨h1, h2, h3, h4⟩ := Die.rbDefault_taken htb rfl htaken
    exact hdefault hfits hskip hop ⟨⟨h1, rfl⟩, a, ha, h2, h3, h4⟩
  · intro tb hop htb hrun hlen hn
    obtain ⟨e, htaken⟩ := s.die.allocRow_spread p tb.rowUnits _ rfl hrun hlen hn
    obtain ⟨h1, h2, h3, h4⟩ := Die.rbDefault_taken htb rfl htaken
    exact hdefault hfits hskip hop ⟨⟨h1, rfl⟩, h2, h3, h4⟩
  · intro hop
    refine State.completes_rb (sel := fun d r => r.fits && r.op == 4 && !(d.rbSkips p r))
      (f := fun r d => (d.rbPop p r.units).put R.LRD_STATUS_STATE p 2) rfl hp hhead (by simp [hfits, hop, hskip]) ?_
    refine ⟨⟨?_, rfl⟩, ?_, rfl, rfl⟩
    · simp (disch := decide) only [Die.rbPop, Die.get_put_apart, Die.get_put_same]
      rfl
    · simp only [Die.lrdState, Die.get_put_same]
      rfl
  · intro hfits hskip
    refine State.completes_rb (sel := fun d r => r.fits && d.rbSkips p r)
      (f := fun r d => (d.rbPop p r.units).count T.LRD_RB_BAD p) rfl hp hhead (by simp [hfits, hskip]) ?_
    refine ⟨⟨?_, rfl⟩, Die.tally_count_same T.LRD_RB_BAD p (s.die.rbPop p r.units) (loftTally_lrd _ _ rfl), by simp [Die.rbPop], by simp [Die.rbPop]⟩
    refine ((Die.report_count _ _ _).get _ _ (reportWord_lrd _ p rfl hp (by decide) (by decide))).trans ?_
    exact Die.rbPop_tail p r.units rfl
  · intro hfits
    refine State.completes_rb (sel := fun _ r => !r.fits)
      (f := fun _ d => (d.flag R.LRD_STATUS_RB_HALTED p true).count T.LRD_RB_BAD p) rfl hp hhead (by simp [hfits]) ?_
    refine ⟨?_, rfl, Die.tally_count_same T.LRD_RB_BAD p (s.die.flag R.LRD_STATUS_RB_HALTED p true) (loftTally_lrd _ _ rfl), by simp [Die.flag],
      by simp [Die.flag]⟩
    have h := (Die.report_count T.LRD_RB_BAD p (s.die.flag R.LRD_STATUS_RB_HALTED p true)).get R.LRD_STATUS_RB_HALTED p
      (reportWord_lrd _ p rfl hp (by decide) (by decide))
    have hset : (s.die.flag R.LRD_STATUS_RB_HALTED p true).get R.LRD_STATUS_RB_HALTED p = 1 := Die.get_put_same _ _ _ _
    simp only [Die.on, h, hset]
    rfl

end Sys2Proof.Machine
end

section
/-! SUPPORT. Frames of the Ethernet ports, PTP frames and injected frames (R50 to R55, R381, R612, R615). -/

namespace Sys2Proof.Machine

/-- A word above the Loft's page, no head of a pasture's trace ring, is none that reports change. -/
theorem reportWord_above {a : Nat} (h : 0x31818 ≤ a) (ht : a < 0x300000 ∨ 0x340000 ≤ a ∨ a % 0x1000 ≠ 0x814) : reportWord a = false := by
  unfold reportWord
  simp
  omega

/-- An Ethernet port's registers are none that a report changes. -/
theorem reportWord_eth (f : Fld) (t : Nat) (hb : f.base = 0x40000) (ht : t < 16) (ho : f.off < 0x1000) (hlo : f.lo < 32) :
    reportWord (f.key t / 32) = false := by
  have : f.key t / 32 = 0x40000 + t * 0x1000 + f.off := by unfold Fld.key; omega
  exact reportWord_above (by omega) (.inl (by omega))

theorem loftTally_eth (k : Tal) (t : Nat) (hb : k.base = 0x40000) (ht : t < 16) (ho : k.off < 0x1000) : loftTally (k.key t) = false := by
  refine loftTally_false (.inr ?_)
  simp only [Tal.key, hb]
  omega

theorem loftTally_ing (k : Tal) (g : Nat) (hb : k.base = 0x200000) (hg : g < 81) (ho : k.off < 0x1000) : loftTally (k.key g) = false := by
  refine loftTally_false (.inr ?_)
  simp only [Tal.key, hb]
  omega

/-- A sound frame of 64 to 1,522 bytes counts no fault (R415). -/
theorem Die.rxFaults_sound (t n : Nat) (d : Die) (hlo : 64 ≤ n) (hhi : n ≤ 1522) :
    d.rxFaults t n {} = (false, (d.countBy T.ETH_FEC_UNCORR t 0).countBy T.ETH_FEC_CORR t 0) := by
  have h1 : ¬ 1522 < n := by omega
  have h2 : ¬ n < 64 := by omega
  simp [Die.rxFaults, h1, h2]

/-- The address filter reads registers that no report changes. -/
theorem Die.macOk_report {d e : Die} (h : d.report e) (t : Nat) (ht : t < 16) (bs : List Byte) : e.macOk t bs = d.macOk t bs := by
  unfold Die.macOk
  rw [h.get R.ETH_MAC_LO_VALUE t (reportWord_eth _ _ rfl ht (by decide) (by decide)),
    h.get R.ETH_MAC_HI_VALUE t (reportWord_eth _ _ rfl ht (by decide) (by decide))]

theorem Die.stampsOf_report {d e : Die} (h : d.report e) (fc16 tb0 : Nat) : stampsOf e fc16 tb0 = stampsOf d fc16 tb0 := by
  have htb (n : Nat) : e.tb n = d.tb n := by rw [Die.tb, (congrArg Die.tbs h.1).trans rfl]; rfl
  simp only [stampsOf, Die.stampAt, htb]

/-- The tails of the frames before one that begins behind parser state `x`. -/
def Parser.behind (x : Parser) : List FrameTail := if x.busy then x.tails ++ [x.tail] else x.tails

/-- Before a new frame the frame in hand, if any, ends its line and settles (R62). -/
theorem Die.lineEnds_behind (g : Nat) (d : Die) (h : (d.parser g).busy = false ∨ (d.parser g).running = false) :
    ((d.lineEnds g).parser g).behind = (d.parser g).settle.behind ∧ d.lineEnds g = { d with parsers := (d.lineEnds g).parsers } := by
  by_cases hbusy : (d.parser g).busy = true
  · have hrun : (d.parser g).running = false := h.resolve_left (by simp [hbusy])
    set y : Parser := { d.parser g with arrived := (d.parser g).frame.length } with hy
    have hends : d.lineEnds g = (d.putParser g y).putParser g y.settle := by
      unfold Die.lineEnds
      dsimp only
      rw [if_pos hbusy]
      exact Die.bytes_settle g y d (Die.ready_ended _ _ (by rw [Die.parser_putParser_same]; exact hrun)) (.inl hrun)
    rw [hends, Die.parser_putParser_same]
    refine ⟨?_, rfl⟩
    unfold Parser.settle
    rw [show y.running = (d.parser g).running from rfl, show y.closing = (d.parser g).closing from rfl, show y.fcsDue = (d.parser g).fcsDue from rfl,
      show y.held = (d.parser g).held from rfl]
    split <;> rfl
  · have hidle : d.lineEnds g = d := by
      unfold Die.lineEnds
      dsimp only
      rw [if_neg hbusy]
    rw [hidle]
    refine ⟨?_, rfl⟩
    have hb : (d.parser g).busy = false := by simpa using hbusy
    unfold Parser.settle
    split
    · rfl
    · simp [Parser.behind, hb]

/-- A steering entry whose pasture has the program starts it on the frame (R53 to R55). -/
theorem Die.startFrame_begins (g : Nat) (e : SteerEnt) (frame : List Byte) (base arrived srcCode : Nat) (stamps : List Stamp) (inFc16 : Nat)
    (due fault : Bool) (d : Die) (im : Image) (q : Program) (him : d.image e.pasture = some im) (hq : programOf im g e.entry.program = some q) :
    let u := d.startFrame g e frame base arrived srcCode stamps inFc16 due fault
    let x := u.parser g
    x.busy = true ∧ x.frame = frame ∧ x.base = base ∧ x.arrived = arrived ∧ x.pasture = e.pasture ∧ x.instrs = q.instrs ∧ x.running = true
      ∧ x.tails = (d.parser g).behind ∧ x.fcsDue = due ∧ x.fault = fault ∧ x.tb = e.entry.tb ∧ x.srcCode = srcCode ∧ x.wait = e.entry.wait
      ∧ x.stamps = stamps ∧ u.tallies = (d.count T.ING_FRAMES g).tallies ∧ d.intake u ∧ u.feeds = d.feeds ∧ u.pas = d.pas := by
  unfold Die.startFrame
  simp only [him, hq, Die.parser_putParser_same]
  have hrep := d.report_count T.ING_FRAMES g
  refine ⟨trivial, trivial, trivial, trivial, trivial, trivial, trivial, ?_, trivial, trivial, trivial, trivial, trivial, trivial, rfl,
    hrep.intake.trans (Die.intake_putParser _ _ _), hrep.feeds, hrep.pas⟩
  rw [Die.parser_congr _ _ hrep.parsers]
  rfl

/-- The frame of a sound arrival on an Ethernet port, past the address filter and the header stage. -/
theorem State.ethFrame_sound (s : State) (t base : Nat) (bytes : List Byte) (cap : Capture) (k : SteerKey) (ht : t < 16)
    (hrx : s.die.ethReceives t = true) (hnap : s.die.inNap = false) (hlo : 60 ≤ bytes.length) (hhi : bytes.length ≤ 1518)
    (hmac : s.die.macOk t bytes = true) (hptp : isPtp bytes = false) (hhead : headerStage bytes = .ok (k, base)) :
    let d := (s.die.countBy T.ETH_FEC_UNCORR t 0).countBy T.ETH_FEC_CORR t 0
    s.ethFrame t bytes {} cap = { s with die := match s.die.steerFor (64 + t) k with
      | none => d.count T.ETH_NO_MATCH t
      | some e => (d.lineEnds (64 + t)).startFrame (64 + t) e bytes base base (64 + t)
          (stampsOf s.die (s.cel.capFc (26 + t) false cap) (s.cel.capTb0 (26 + t) false cap)) (s.cel.capFc (26 + t) false cap) true false } := by
  intro d
  have hrep : s.die.report d := (s.die.report_countBy _ _ _).trans (Die.report_countBy _ _ _ _)
  have hfaults : s.die.rxFaults t (bytes.length + 4) {} = (false, d) := Die.rxFaults_sound t _ s.die (by omega) (by omega)
  have hsteer : d.steerFor (64 + t) k = s.die.steerFor (64 + t) k := by
    unfold Die.steerFor
    rw [(congrArg Die.steer hrep.1).trans rfl]
  unfold State.ethFrame
  simp only [hrx, hnap, Bool.not_true, Bool.false_eq_true, if_false, List.take_of_length_le (show bytes.length ≤ 1522 by omega), hfaults,
    Die.macOk_report hrep t ht, hmac, hptp, hhead, hsteer, Die.stampsOf_report hrep]
  cases s.die.steerFor (64 + t) k <;> rfl

/-- The tallies of an Ethernet port are apart from those of the ingress. -/
theorem tally_fecs (d : Die) (t k : Nat) (hk : loftTally k = false) (h1 : k ≠ T.ETH_FEC_UNCORR.key t) (h2 : k ≠ T.ETH_FEC_CORR.key t) :
    KMap.get 0 ((d.countBy T.ETH_FEC_UNCORR t 0).countBy T.ETH_FEC_CORR t 0).tallies k = KMap.get 0 d.tallies k :=
  (Die.tally_countBy_other _ _ _ _ _ hk h2).trans (Die.tally_countBy_other _ _ _ _ _ hk h1)

/-- ETH_FRAME_RX of a sound frame (R50 to R55). -/
theorem ethFrameRx_enters (s : State) (t base : Nat) (bytes : List Byte) (cap : Capture) (k : SteerKey) (ht : t < 16)
    (hrx : s.die.ethReceives t = true) (hnap : s.die.inNap = false)
    (hidle : (s.die.parser (64 + t)).busy = false ∨ (s.die.parser (64 + t)).running = false) (hlo : 60 ≤ bytes.length) (hhi : bytes.length ≤ 1518)
    (hmac : s.die.macOk t bytes = true) (hptp : isPtp bytes = false) (hhead : headerStage bytes = .ok (k, base)) :
    (∀ e im q, s.die.steerFor (64 + t) k = some e → s.die.image e.pasture = some im → programOf im (64 + t) e.entry.program = some q →
       s.completes (.ethFrameRx t bytes {} cap) (fun u =>
         let x := u.die.parser (64 + t)
         x.busy = true ∧ x.frame = bytes ∧ x.base = base ∧ x.arrived = base ∧ x.pasture = e.pasture ∧ x.instrs = q.instrs ∧ x.running = true
         ∧ x.tails = (s.die.parser (64 + t)).settle.behind
         ∧ x.fcsDue = true ∧ x.fault = false ∧ x.tb = e.entry.tb ∧ x.srcCode = 64 + t ∧ x.wait = e.entry.wait
         ∧ x.stamps = stampsOf s.die (s.cel.capFc (26 + t) false cap) (s.cel.capTb0 (26 + t) false cap)
         ∧ u.die.tally T.ING_FRAMES (64 + t) = tallyAdd (s.die.tally T.ING_FRAMES (64 + t)) 1 ∧ s.parsersReport u))
    ∧ (s.die.steerFor (64 + t) k = none →
       s.completes (.ethFrameRx t bytes {} cap) (fun u =>
         u.die.tally T.ETH_NO_MATCH t = tallyAdd (s.die.tally T.ETH_NO_MATCH t) 1 ∧ u = { s with die := u.die } ∧ s.die.report u.die)) := by
  have hexec : exec (.ethFrameRx t bytes {} cap) s = .next (s.ethFrame t bytes {} cap) := guardU_ok _ _ (decide_eq_true ht)
  have hframe := s.ethFrame_sound t base bytes cap k ht hrx hnap hlo hhi hmac hptp hhead
  have hrep : s.die.report ((s.die.countBy T.ETH_FEC_UNCORR t 0).countBy T.ETH_FEC_CORR t 0) :=
    (s.die.report_countBy _ _ _).trans (Die.report_countBy _ _ _ _)
  have htal := tally_fecs s.die t
  dsimp only at hframe
  generalize (s.die.countBy T.ETH_FEC_UNCORR t 0).countBy T.ETH_FEC_CORR t 0 = d at hframe hrep htal
  constructor
  · intro e im q hsteer him hq
    refine ⟨_, hexec, ?_⟩
    rw [hframe, hsteer]
    dsimp only
    have hpar : d.parser (64 + t) = s.die.parser (64 + t) := Die.parser_congr _ _ hrep.parsers _
    obtain ⟨hbehind, hline⟩ := d.lineEnds_behind (64 + t) (by rw [hpar]; exact hidle)
    have him' : (d.lineEnds (64 + t)).image e.pasture = some im := by
      rw [hline, ← him, Die.image, Die.image, Die.pasture, Die.pasture]
      exact congrArg (fun m => (KMap.get {} m e.pasture : PasSt).image) hrep.pas
    have hintake : s.die.intake (d.lineEnds (64 + t)) := hrep.intake.trans (by rw [hline]; exact ⟨rfl, fun _ _ _ => rfl⟩)
    have hfeeds : (d.lineEnds (64 + t)).feeds = s.die.feeds := by rw [hline]; exact hrep.feeds
    have hpas : (d.lineEnds (64 + t)).pas = s.die.pas := by rw [hline]; exact hrep.pas
    have htallies : (d.lineEnds (64 + t)).tally T.ING_FRAMES (64 + t) = s.die.tally T.ING_FRAMES (64 + t) := by
      rw [hline]
      refine htal _ (loftTally_ing _ _ rfl (by omega) (by decide)) ?_ ?_
      · simp only [Tal.key, T.ING_FRAMES, T.ETH_FEC_UNCORR]; omega
      · simp only [Tal.key, T.ING_FRAMES, T.ETH_FEC_CORR]; omega
    obtain ⟨h1, h2, h3, h4, h5, h6, h7, h8, h9, h10, h11, h12, h13, h14, h15, h16, h17, h18⟩ := (d.lineEnds (64 + t)).startFrame_begins (64 + t) e bytes
      base base (64 + t) (stampsOf s.die (s.cel.capFc (26 + t) false cap) (s.cel.capTb0 (26 + t) false cap)) (s.cel.capFc (26 + t) false cap) true false im q him' hq
    refine ⟨h1, h2, h3, h4, h5, h6, h7, ?_, h9, h10, h11, h12, h13, h14, ?_, (hintake.trans h16).parsersReport (h17.trans hfeeds) (h18.trans hpas)⟩
    · rw [h8, hbehind, hpar]
    · rw [Die.tally, h15, ← htallies]
      exact Die.tally_count_same _ _ _ (loftTally_ing _ _ rfl (by omega) (by decide))
  · intro hsteer
    refine ⟨_, hexec, ?_⟩
    rw [hframe, hsteer]
    dsimp only
    have hloft := loftTally_eth T.ETH_NO_MATCH t rfl ht (by decide)
    refine ⟨(Die.tally_count_same _ _ _ hloft).trans ?_, rfl, hrep.trans (Die.report_count _ _ _)⟩
    refine congrArg (fun v => tallyAdd v 1) (htal _ hloft ?_ ?_)
    · simp only [Tal.key, T.ETH_NO_MATCH, T.ETH_FEC_UNCORR]; omega
    · simp only [Tal.key, T.ETH_NO_MATCH, T.ETH_FEC_CORR]; omega

/-- PTP_RX of a frame that passes the filter (R381, R615). -/
theorem ptpRx_enters (s : State) (t : Nat) (bytes : List Byte) (cap : Capture) (ht : t < 16) (hrx : s.die.ethReceives t = true)
    (hmac : s.die.macOk t bytes = true) (hptp : isPtp bytes = true) :
    (s.die.on R.ETH_PTPRX_CTL_ENABLE t = true →
         (s.die.get R.ETH_PTPRX_HEAD_VALUE t + 2 ^ 32 - s.die.get R.ETH_PTPRX_TAIL_VALUE t) % 2 ^ 32 < 2 ^ s.die.get R.ETH_PTPRX_CTL_LOG2SIZE t →
         s.completes (.ptpRx t bytes cap) (fun u =>
           u.die.get R.ETH_PTPRX_HEAD_VALUE t = (s.die.get R.ETH_PTPRX_HEAD_VALUE t + 1) % 2 ^ 32
           ∧ KMap.get 0 u.die.ptpTag t = (KMap.get 0 s.die.ptpTag t + 1) % 2 ^ 16))
       ∧ (s.die.on R.ETH_PTPRX_CTL_ENABLE t = false →
         s.completes (.ptpRx t bytes cap) (fun u =>
           u.die.tally T.ETH_PTP_RX_DROP t = tallyAdd (s.die.tally T.ETH_PTP_RX_DROP t) 1
           ∧ KMap.get 0 u.die.ptpTag t = (KMap.get 0 s.die.ptpTag t + 1) % 2 ^ 16)) := by
  have hexec : exec (.ptpRx t bytes cap) s = .next (s.ptpReceive t bytes cap) := by
    rw [show exec (.ptpRx t bytes cap) s = guardU (decide (t < 16))
      (if s.die.ethReceives t && s.die.macOk t bytes && isPtp bytes then s.ptpReceive t bytes cap else s) from rfl, guardU_ok _ _ (decide_eq_true ht),
      if_pos (by simp [hrx, hmac, hptp])]
  constructor
  · intro hen hroom
    refine ⟨_, hexec, ?_⟩
    unfold State.ptpReceive
    extract_lets d h size tag fc t0 d1 cel
    have hc : (d1.on R.ETH_PTPRX_CTL_ENABLE t && decide ((h + 2 ^ 32 - d1.get R.ETH_PTPRX_TAIL_VALUE t) % 2 ^ 32 < size)) = true := by
      rw [Bool.and_eq_true, decide_eq_true_eq]
      exact ⟨hen, hroom⟩
    rw [if_pos hc]
    exact ⟨(Die.get_put_same _ _ _ _).trans rfl, (KMap.get_set_same 0 s.die.ptpTag t _ :)⟩
  · intro hoff
    refine ⟨_, hexec, ?_⟩
    unfold State.ptpReceive
    extract_lets d h size tag fc t0 d1 cel
    have hc : ¬ (d1.on R.ETH_PTPRX_CTL_ENABLE t && decide ((h + 2 ^ 32 - d1.get R.ETH_PTPRX_TAIL_VALUE t) % 2 ^ 32 < size)) = true := by
      rw [show d1.on R.ETH_PTPRX_CTL_ENABLE t = false from hoff]
      simp
    rw [if_neg hc]
    refine ⟨Die.tally_count_same _ _ d1 (loftTally_eth _ _ rfl ht (by decide)), ?_⟩
    have : (d1.count T.ETH_PTP_RX_DROP t).ptpTag = d1.ptpTag := by simp
    rw [this]
    exact KMap.get_set_same 0 s.die.ptpTag t _

/-- What an injected frame leaves of its entry's bookkeeping: the ring's tail, the tally of entries and the pasture served last. -/
structure Die.InjectionKept (p : Nat) (d e : Die) : Prop where
  tail : e.get R.PAS_INJ_TAIL_VALUE p = d.get R.PAS_INJ_TAIL_VALUE p
  injected : e.tally T.PAS_INJECTED p = d.tally T.PAS_INJECTED p
  last : e.injLast = d.injLast

theorem Die.InjectionKept.trans {p : Nat} {d e f : Die} (h : Die.InjectionKept p d e) (g : Die.InjectionKept p e f) : Die.InjectionKept p d f :=
  ⟨g.tail.trans h.tail, g.injected.trans h.injected, g.last.trans h.last⟩

/-- A pasture's ring registers are none that a report changes. -/
theorem reportWord_pas (f : Fld) (p : Nat) (hb : f.base = 0x300000) (ho : f.off < 0x1000) (hn : f.off ≠ 0x814) (hlo : f.lo < 32) :
    reportWord (f.key p / 32) = false := by
  have : f.key p / 32 = 0x300000 + p * 0x1000 + f.off := by unfold Fld.key; omega
  exact reportWord_above (by omega) (by omega)

/-- A count of another tally keeps them. -/
theorem Die.injectionKept_count (p : Nat) (t : Tal) (i : Nat) (d : Die) (h : T.PAS_INJECTED.key p ≠ t.key i) : Die.InjectionKept p d (d.count t i) :=
  ⟨(d.report_count t i).get _ _ (reportWord_pas _ p rfl (by decide) (by decide) (by decide)),
    Die.tally_countBy_other _ _ _ _ _ (loftTally_pasPage _ _ rfl (by decide) (by decide)) h, by simp⟩

theorem Die.injectionKept_putParser (p g : Nat) (x : Parser) (d : Die) : Die.InjectionKept p d (d.putParser g x) := ⟨rfl, rfl, rfl⟩

theorem injected_ne_ing (t : Tal) (p : Nat) (hb : t.base = 0x200000) (ho : t.off < 0x1000) : T.PAS_INJECTED.key p ≠ t.key 80 := by
  simp only [Tal.key, T.PAS_INJECTED, hb]
  omega

theorem injected_ne_progDrop (p : Nat) : T.PAS_INJECTED.key p ≠ T.PAS_PROG_DROP.key p := by
  simp only [Tal.key, T.PAS_INJECTED, T.PAS_PROG_DROP]
  omega

/-- Steering an injected frame keeps its entry's bookkeeping (R53). -/
theorem Die.injectionKept_startFrame (p : Nat) (e : SteerEnt) (frame : List Byte) (base arrived srcCode : Nat) (stamps : List Stamp) (inFc16 : Nat)
    (due fault : Bool) (d : Die) : Die.InjectionKept p d (d.startFrame 80 e frame base arrived srcCode stamps inFc16 due fault) := by
  unfold Die.startFrame
  split
  · exact ⟨rfl, rfl, rfl⟩
  split
  · exact ⟨rfl, rfl, rfl⟩
  · exact (d.injectionKept_count p T.ING_FRAMES 80 (injected_ne_ing _ _ rfl (by decide))).trans (Die.injectionKept_putParser _ _ _ _)

theorem Die.injectionKept_injectFrame (p : Nat) (frame : List Byte) (d : Die) : Die.InjectionKept p d (d.injectFrame p frame) := by
  have hframes := d.injectionKept_count p T.ING_FRAMES 80 (injected_ne_ing _ _ rfl (by decide))
  have hnone := d.injectionKept_count p T.ING_NO_MATCH 80 (injected_ne_ing _ _ rfl (by decide))
  have hdrop := d.injectionKept_count p T.PAS_PROG_DROP p (injected_ne_progDrop p)
  unfold Die.injectFrame
  dsimp only
  split
  · split
    · exact hnone
    · split
      · exact hdrop
      · split
        · exact hdrop
        · exact hframes.trans (Die.injectionKept_putParser _ _ _ _)
  · split
    · exact hnone
    · exact d.injectionKept_startFrame p _ _ _ _ _ _ _ _ _

/-- The only pasture with an entry is the one the rotation takes (R612). -/
theorem Die.injectOrder_find (d : Die) (p : Nat) (hp : p < 64) (hhead : (d.injHead p).isSome = true)
    (hothers : ∀ q, q < 64 → q ≠ p → d.injHead q = none) :
    ((List.range 64).map (fun i => (d.injLast + 1 + i) % 64)).find? (fun q => (d.injHead q).isSome) = some p := by
  have hmem : p ∈ (List.range 64).map (fun i => (d.injLast + 1 + i) % 64) := by
    rw [List.mem_map]
    exact ⟨(p + 63 * (d.injLast + 1)) % 64, List.mem_range.mpr (Nat.mod_lt _ (by decide)), by omega⟩
  cases hf : ((List.range 64).map (fun i => (d.injLast + 1 + i) % 64)).find? (fun q => (d.injHead q).isSome) with
  | none => exact absurd hhead (List.find?_eq_none.mp hf p hmem)
  | some q =>
    have hsome : (d.injHead q).isSome = true := List.find?_some (p := fun q => (d.injHead q).isSome) hf
    have hq : q < 64 := by
      obtain ⟨i, -, rfl⟩ := List.mem_map.mp (List.mem_of_find?_eq_some hf)
      exact Nat.mod_lt _ (by decide)
    by_contra hne
    rw [hothers q hq (fun h => hne (congrArg some h))] at hsome
    cases hsome

/-- INJECT_ENTRY with one pasture ready (R612). -/
theorem injectEntry_takes (s : State) (p : Nat) (h : List Byte) (hp : p < 64) (hbusy : (s.die.parser 80).busy = false) (hhead : s.die.injHead p = some h)
    (hothers : ∀ q, q < 64 → q ≠ p → s.die.injHead q = none) :
    let len := leNat (slice h 0 2)
    s.completes .injectEntry (fun t => t = { s with die := t.die } ∧ t.die.injLast = p
      ∧ (if 1 ≤ len ∧ len ≤ 4088 ∧ leNat (slice h 2 6) = 0 then
          t.die.get R.PAS_INJ_TAIL_VALUE p = (s.die.get R.PAS_INJ_TAIL_VALUE p + injUnits len) % 2 ^ 32
          ∧ t.die.tally T.PAS_INJECTED p = tallyAdd (s.die.tally T.PAS_INJECTED p) 1
        else t.die.on R.PAS_RING_STATUS_INJ_HALTED p = true ∧ t.die.parsers = s.die.parsers
          ∧ t.die.tally T.PAS_INJ_BAD p = tallyAdd (s.die.tally T.PAS_INJ_BAD p) 1)) := by
  intro len
  refine ⟨{ s with die := s.die.inject }, rfl, rfl, ?_⟩
  dsimp only
  unfold Die.inject
  rw [if_neg (by simp [hbusy])]
  simp only [s.die.injectOrder_find p hp (by simp [hhead]) hothers, hhead, Option.getD_some]
  by_cases hgood : 1 ≤ len ∧ len ≤ 4088 ∧ leNat (slice h 2 6) = 0
  · rw [if_pos hgood, if_pos hgood]
    generalize ((({ s.die with injLast := p } : Die).ringBytes _ _ _ _ _ _).drop 8) = frame
    set d : Die := { s.die with injLast := p }
    set d1 := d.put R.PAS_INJ_TAIL_VALUE p (d.get R.PAS_INJ_TAIL_VALUE p + injUnits len)
    have htail : (d1.count T.PAS_INJECTED p).get R.PAS_INJ_TAIL_VALUE p = (s.die.get R.PAS_INJ_TAIL_VALUE p + injUnits len) % 2 ^ 32 :=
      ((d1.report_count _ _).get _ _ (reportWord_pas _ p rfl (by decide) (by decide) (by decide))).trans (Die.get_put_same _ _ _ _)
    have hcount : (d1.count T.PAS_INJECTED p).tally T.PAS_INJECTED p = tallyAdd (s.die.tally T.PAS_INJECTED p) 1 :=
      Die.tally_count_same _ _ d1 (loftTally_pasPage _ _ rfl (by decide) (by decide))
    have hlast : (d1.count T.PAS_INJECTED p).injLast = p := by simp [d1, d]
    have hkept : Die.InjectionKept p (d1.count T.PAS_INJECTED p)
        (if (d1.count T.PAS_INJECTED p).inNap = true then (d1.count T.PAS_INJECTED p).count T.PWR_NAP_DROP 0
          else (d1.count T.PAS_INJECTED p).injectFrame p frame) := by
      split
      · refine Die.injectionKept_count p _ _ _ ?_
        simp only [Tal.key, T.PAS_INJECTED, T.PWR_NAP_DROP]
        omega
      · exact Die.injectionKept_injectFrame p frame _
    exact ⟨hkept.last.trans hlast, hkept.tail.trans htail, hkept.injected.trans hcount⟩
  · rw [if_neg hgood, if_neg hgood]
    set d : Die := { s.die with injLast := p }
    have hword := (Die.report_count T.PAS_INJ_BAD p (d.flag R.PAS_RING_STATUS_INJ_HALTED p true)).get R.PAS_RING_STATUS_INJ_HALTED p
      (reportWord_pas _ p rfl (by decide) (by decide) (by decide))
    have hset : (d.flag R.PAS_RING_STATUS_INJ_HALTED p true).get R.PAS_RING_STATUS_INJ_HALTED p = 1 := Die.get_put_same _ _ _ _
    refine ⟨by simp [Die.flag, d], ?_, by simp [Die.flag, d],
      Die.tally_count_same _ _ (d.flag R.PAS_RING_STATUS_INJ_HALTED p true) (loftTally_pasPage _ _ rfl (by decide) (by decide))⟩
    rw [Die.on, hword, hset]
    rfl

/-- Settles O5: a frame of a port, a PTP frame, an injected frame. -/
theorem framesEnter : Obligations.FramesEnter := by
  unfold Obligations.FramesEnter
  exact ⟨fun s t base bytes cap k ht hrx hnap hidle hlo hhi hmac hptp hhead => ethFrameRx_enters s t base bytes cap k ht hrx hnap hidle hlo hhi hmac hptp hhead,
    fun s t bytes cap ht hrx hmac hptp => ptpRx_enters s t bytes cap ht hrx hmac hptp,
    fun s p h hp hbusy hhead hothers => injectEntry_takes s p h hp hbusy hhead hothers⟩

end Sys2Proof.Machine
end

section
/-! SUPPORT. Feature assembly (R133, R148, R316, R352). -/

namespace Sys2Proof.Machine

/-- The engine of an event and whether the choice deviates from its member (R148, R291). -/
def Die.memberOf (d : Die) (p : Nat) (im : Image) (v : Ev) (waits : List Nat) : Nat × Bool :=
  if im.shape = 1 then chooseMember (d.get R.FAB_BALANCE_POLICY p) v.er.key (d.pasture p).rotate (enginesOf im) (d.memberWaits p (enginesOf im) waits)
  else if im.shape = 2 then (spanFirst im, false) else ((enginesOf im).headD 0, false)

/-- The pasture after one event of its balance group: the rotation advances under policy 1 (R148). -/
def Die.rotated (d : Die) (p : Nat) (im : Image) : Die :=
  if im.shape = 1 ∧ d.get R.FAB_BALANCE_POLICY p = 1 then d.onPas p (fun y => { y with rotate := (y.rotate + 1) % 2 ^ 64 }) else d

/-- An event that is neither a label nor shed joins its engine's entry (R133, R148). -/
theorem Die.assembleEvent_routed (p : Nat) (im : Image) (v : Ev) (waits : List Nat) (d : Die) (hlabel : ∀ u, im.upd = some u → isLabel u v.er.bytes = false)
    (hshed : d.shedSet p = false ∨ d.on R.FAB_REPLAY_ENABLE p = true) :
    let ch := d.memberOf p im v waits
    let d1 := if ch.2 then ((d.rotated p im).count T.FAB_BAL_DEVIATE p).count T.FAB_TIMING_CHOICE p else d.rotated p im
    d.assembleEvent p im v waits = { d1 with entries := KMap.upd [] d1.entries (ch.1 * 64 + p) (· ++ [{ v with packet := buildPacket im ch.1 v }]) } := by
  have hnone : im.upd.filter (fun u => isLabel u v.er.bytes) = none := by
    rw [Option.filter_eq_none_iff]
    exact fun u hu => by simp [hlabel u hu]
  have hstays : ¬ (d.shedSet p && !(d.on R.FAB_REPLAY_ENABLE p)) = true := by
    rcases hshed with h | h <;> simp [h]
  unfold Die.assembleEvent
  simp only [hnone]
  rw [if_neg hstays]
  rfl

/-- A label of an updatable image goes to the update unit (R316). -/
theorem Die.assembleEvent_label (p : Nat) (im : Image) (v : Ev) (waits : List Nat) (d : Die) (u : UpdHdr) (hu : im.upd = some u)
    (hlabel : isLabel u v.er.bytes = true) :
    d.assembleEvent p im v waits = (d.clearMarker p v.ticket).onUpd u.engine (fun x => { x with labels := x.labels ++
      [⟨leNat (slice v.er.bytes u.loff 6), (List.range 4).map (fun i => leNat (slice v.er.bytes (u.toff + 4 * i) 4)), v.er.inFc16 / 16⟩] }) := by
  have hsome : im.upd.filter (fun u => isLabel u v.er.bytes) = some u := by
    rw [hu, Option.filter_some, if_pos hlabel]
  unfold Die.assembleEvent
  simp only [hsome]

/-- An event that the shed takes is counted (R352). -/
theorem Die.assembleEvent_shed (p : Nat) (im : Image) (v : Ev) (waits : List Nat) (d : Die) (hlabel : ∀ u, im.upd = some u → isLabel u v.er.bytes = false)
    (hshed : d.shedSet p = true) (hreplay : d.on R.FAB_REPLAY_ENABLE p = false) :
    d.assembleEvent p im v waits = ((d.clearMarker p v.ticket).count T.FAB_SHED p).count T.FAB_TIMING_CHOICE p := by
  have hnone : im.upd.filter (fun u => isLabel u v.er.bytes) = none := by
    rw [Option.filter_eq_none_iff]
    exact fun u hu => by simp [hlabel u hu]
  unfold Die.assembleEvent
  simp only [hnone]
  rw [if_pos (by simp [hshed, hreplay])]

/-- Two tallies of one page differ in their places. -/
theorem Tal.key_ne (t u : Tal) (i : Nat) (h : t.base + t.off ≠ u.base + u.off) : t.key i ≠ u.key i := by
  unfold Tal.key
  omega

/-- A count leaves another tally of its page. -/
theorem Die.tally_count_apart (t u : Tal) (i : Nat) (d : Die) (hl : loftTally (u.key i) = false) (h : u.base + u.off ≠ t.base + t.off) :
    (d.count t i).tally u i = d.tally u i :=
  Die.tally_countBy_other _ _ _ _ _ hl (Tal.key_ne _ _ _ h)

/-- Settles O16: a label, a shed event, an event that joins its entry. -/
theorem assemblyRoutes : Obligations.AssemblyRoutes := by
  unfold Obligations.AssemblyRoutes
  intro s p waits v rest im hp hlooked him
  set d : Die := { s.die with looked := KMap.set [] s.die.looked p rest } with hd
  have hexec : exec (.featureAssembly p waits) s = .next { s with die := d.assembleEvent p im v waits } := by
    rw [show exec (.featureAssembly p waits) s = execFeatureAssembly p waits s from rfl]
    unfold execFeatureAssembly
    rw [dieCmd_ok _ _ _ (decide_eq_true hp)]
    simp only [hlooked, him, hd]
  have hpop : KMap.get [] d.looked p = rest := KMap.get_set_same _ _ _ _
  refine ⟨fun u hu hlabel => ⟨_, hexec, ?_⟩, fun hlabel hshed hreplay => ⟨_, hexec, ?_⟩, ?_⟩
  · rw [d.assembleEvent_label p im v waits u hu hlabel]
    refine ⟨rfl, hpop, rfl, rfl, rfl, ?_⟩
    simp only [Die.updSt, Die.onUpd, KMap.get_upd_same]
    rfl
  · rw [d.assembleEvent_shed p im v waits hlabel hshed hreplay]
    have hlar : ∃ l, d.clearMarker p v.ticket = { d with lar := l } := ⟨_, rfl⟩
    obtain ⟨l, hl⟩ := hlar
    rw [hl]
    refine ⟨rfl, by simpa using hpop, by simp [hd], ?_, ?_⟩
    · refine (Die.tally_count_apart _ _ _ _ (loftTally_fab _ _ rfl) (by decide)).trans ?_
      exact Die.tally_count_same _ _ _ (loftTally_fab _ _ rfl)
    · refine (Die.tally_count_same _ _ _ (loftTally_fab _ _ rfl)).trans ?_
      refine congrArg (fun v => tallyAdd v 1) ?_
      exact Die.tally_count_apart _ _ _ _ (loftTally_fab _ _ rfl) (by decide)
  · intro hlabel hshed es ch e
    refine ⟨_, hexec, ?_⟩
    rw [d.assembleEvent_routed p im v waits hlabel hshed]
    have hmember : (d.memberOf p im v waits).1 = e ∧ (im.shape = 1 → (d.memberOf p im v waits).2 = ch.2) := by
      simp only [Die.memberOf, e]
      by_cases h1 : im.shape = 1
      · simp only [h1, if_true]
        exact ⟨rfl, fun _ => rfl⟩
      · by_cases h2 : im.shape = 2
        · simp [h2]
        · simp [h1, h2, es]
    have hrot : d.rotated p im = { s.die with looked := d.looked, pas := (d.rotated p im).pas } := by
      unfold Die.rotated
      split <;> rfl
    have hpas : im.shape = 1 → s.die.get R.FAB_BALANCE_POLICY p = 1 → ((d.rotated p im).pasture p).rotate = ((s.die.pasture p).rotate + 1) % 2 ^ 64 := by
      intro h1 h2
      rw [Die.rotated, if_pos ⟨h1, h2⟩, Die.pasture_onPas_same]
      rfl
    obtain ⟨hm1, hm2⟩ := hmember
    generalize d.memberOf p im v waits = m at hm1 hm2
    generalize d.rotated p im = f at hrot hpas
    obtain ⟨m1, m2⟩ := m
    dsimp only at hm1 hm2 ⊢
    subst hm1
    set f1 := if m2 = true then (f.count T.FAB_BAL_DEVIATE p).count T.FAB_TIMING_CHOICE p else f with hf1
    have hrep : f.report f1 := Die.report_ite ((f.report_count _ _).trans (Die.report_count _ _ _)) f.report_refl
    have hlooked1 : f1.looked = d.looked := by rw [(congrArg Die.looked hrep.1).trans rfl, hrot]
    have hentries1 : f1.entries = s.die.entries := by rw [(congrArg Die.entries hrep.1).trans rfl, hrot]
    have hdev : m2 = true → f1.tally T.FAB_BAL_DEVIATE p = tallyAdd (s.die.tally T.FAB_BAL_DEVIATE p) 1 := by
      intro h
      rw [hf1, if_pos h]
      refine (Die.tally_count_apart _ _ _ _ (loftTally_fab _ _ rfl) (by decide)).trans ?_
      refine (Die.tally_count_same _ _ _ (loftTally_fab _ _ rfl)).trans ?_
      rw [hrot]
      rfl
    have hpas1 : f1.pas = f.pas := hrep.pas
    have hreport : ({ s.die with looked := f1.looked, pas := f1.pas } : Die).report f1 := by
      have h := hrep
      rw [hrot] at h
      rw [hlooked1, hpas1]
      exact h
    clear_value f1
    refine ⟨rfl, ?_, ?_, fun k hk => ?_, fun h1 h2 => hdev ((hm2 h1).trans h2), fun h1 h2 => ?_, ?_⟩
    · rw [hlooked1]
      exact hpop
    · rw [KMap.get_upd_same, hentries1]
    · rw [KMap.get_upd_other _ _ _ _ _ hk, hentries1]
    · rw [← hpas h1 h2, Die.pasture, Die.pasture, ← hpas1]
    · refine ⟨?_, hreport.2⟩
      dsimp only
      rw [hreport.1]

end Sys2Proof.Machine
end

section
/-! SUPPORT. The engine entry: admission, waits and drops (R38, R124, R132, R133, R245, R310, R345, R359). -/

namespace Sys2Proof.Machine

/-- A queue after beats enter any queue (R105). -/
theorem Die.queue_push (d : Die) (t c q u k r : Nat) (l : List QBeat) :
    (d.push t c q l).queue u k r = d.queue u k r ++ if t == u && c == k && q == r then l else [] := by
  by_cases h : t = u ∧ c = k
  · obtain ⟨rfl, rfl⟩ := h
    by_cases hq : q = r
    · subst hq; simp
    · rw [Die.queue_push_other _ _ _ _ _ _ (fun h => hq h.symm)]
      simp [hq]
  · have hctx : (d.push t c q l).ctx u k = d.ctx u k := by
      unfold Die.push Die.setQueue
      by_cases ht : u = t
      · subst ht
        exact Die.ctx_onCtx_other _ _ _ _ _ (fun hk => h ⟨rfl, hk.symm⟩)
      · unfold Die.ctx Die.tile Die.onCtx Die.onTile
        rw [KMap.get_upd_other _ _ _ _ _ ht]
    have hno : (t == u && c == k && q == r) = false := by
      simp only [Bool.and_eq_false_iff, beq_eq_false_iff_ne]
      by_cases ht : t = u
      · exact .inl (.inr (fun hk => h ⟨ht, hk⟩))
      · exact .inl (.inl ht)
    rw [Die.queue, hctx, hno]
    simp [Die.queue]

/-- The beat that enters for place `y` of packet `pk`: the last one for its queue carries LAST (R105). -/
def packetBeat (slot : Nat) (pk : List (PacketBeat × Beat × Bool)) (y : Nat × PacketBeat × Beat × Bool) : QBeat :=
  ⟨y.2.2.1, slot, y.2.2.2, !((pk.drop (y.1 + 1)).any (fun z => z.1.tile == y.2.1.tile && z.1.ctx == y.2.1.ctx && z.1.iq == y.2.1.iq))⟩

/-- The beats of a packet enter their queues in order (R133). -/
theorem Die.queue_putPacket (slot : Nat) (pk : List (PacketBeat × Beat × Bool)) (e tile c q : Nat) (d : Die) :
    (d.putPacket slot pk e).queue tile c q = d.queue tile c q
      ++ ((indexed pk).filter (fun y => e * 512 + y.2.1.tile % 512 == tile && y.2.1.ctx == c && y.2.1.iq == q)).map (packetBeat slot pk) := by
  have key (l : List (Nat × PacketBeat × Beat × Bool)) (d : Die) :
      (l.foldl (fun d x => d.push (e * 512 + x.2.1.tile % 512) x.2.1.ctx x.2.1.iq [packetBeat slot pk x]) d).queue tile c q
        = d.queue tile c q ++ (l.filter (fun y => e * 512 + y.2.1.tile % 512 == tile && y.2.1.ctx == c && y.2.1.iq == q)).map (packetBeat slot pk) := by
    induction l generalizing d with
    | nil => simp
    | cons x l ih =>
      rw [List.foldl_cons, ih, Die.queue_push, List.filter_cons]
      split <;> simp
  exact key (indexed pk) d

/-- A packet changes the tiles alone. -/
theorem Die.putPacket_tiles (slot : Nat) (pk : List (PacketBeat × Beat × Bool)) (e : Nat) (d : Die) :
    d.putPacket slot pk e = { d with tiles := (d.putPacket slot pk e).tiles } := by
  unfold Die.putPacket
  generalize indexed pk = l
  induction l generalizing d with
  | nil => rfl
  | cons x l ih =>
    rw [List.foldl_cons]
    exact ih _

@[simp] theorem Die.engPas_onEng_same (d : Die) (e p : Nat) (f : EngPas → EngPas) : (d.onEng e p f).engPas e p = f (d.engPas e p) := by
  simp [Die.engPas, Die.onEng]

/-- The step of the next event of an engine (R245). -/
def stepAt (im : Image) (ei : EngineImg) (g : EngPas) : Nat := match stepN ei with | some k => im.stepBase.toNat + g.index / k | none => im.stepBase.toNat

/-- What an admission leaves of an engine and its event (R124, R132, R310, R345). -/
structure Die.Admitted (e p : Nat) (im : Image) (ei : EngineImg) (v : Ev) (d t : Die) : Prop where
  next : (t.engPas e p).next = ((d.engPas e p).next + 1) % (256 * (d.quartersOf e p).length)
  index : (t.engPas e p).index = (d.engPas e p).index + 1
  flight : (t.engPas e p).flight = (d.engPas e p).flight ++ [(d.engPas e p).next]
  slot : let o := KMap.get {} (t.engPas e p).slots (d.engPas e p).next
    o.ev = { v with packet := [] } ∧ o.step = stepAt im ei (d.engPas e p) ∧ o.par = (match stepN ei with | some _ => stepAt im ei (d.engPas e p) % 2 | none => 0)
      ∧ o.caps = [] ∧ o.wb = (match im.upd with | some u => if u.engine = e then (d.updSt e).bank else 0 | none => 0)
      ∧ o.flagged = (match im.upd with | some u => u.engine == e && Nat.land (byteAt v.er.bytes u.fbyte).toNat u.fmask != 0 | none => false)
  digest : (t.engPas e p).ed = (match stepN ei with
    | some k => mix64 (if (d.engPas e p).index % k = 0 then stepAt im ei (d.engPas e p) else (d.engPas e p).ed) (v.er.evid + v.er.source * 2 ^ 48)
    | none => mix64 (if (d.engPas e p).index % 65536 = 0 then (d.engPas e p).index / 65536 else (d.engPas e p).ed) (v.er.evid + v.er.source * 2 ^ 48))
  digests : (stepN ei).isSome = true → KMap.get 0 (t.engPas e p).eds (stepAt im ei (d.engPas e p)) = (t.engPas e p).ed
  entries : t.entries = d.entries
  queues : ∀ tile c q, t.queue tile c q = d.queue tile c q ++ ((indexed (d.entering e p ei v)).filter
    (fun y => e * 512 + y.2.1.tile % 512 == tile && y.2.1.ctx == c && y.2.1.iq == q)).map (packetBeat (d.engPas e p).next (d.entering e p ei v))
  tallies : ∀ k, loftTally k = false → KMap.get 0 t.tallies k = KMap.get 0 d.tallies k
  rows : t.rows = d.rows
  dir : t.dir = d.dir

/-- A packet that enters its queues, whatever else of the pasture's own bookkeeping moves. -/
structure Die.PacketIn (slot : Nat) (pk : List (PacketBeat × Beat × Bool)) (e : Nat) (d t : Die) : Prop where
  eng : t.eng = d.eng
  entries : t.entries = d.entries
  queues : ∀ tile c q, t.queue tile c q = d.queue tile c q
    ++ ((indexed pk).filter (fun y => e * 512 + y.2.1.tile % 512 == tile && y.2.1.ctx == c && y.2.1.iq == q)).map (packetBeat slot pk)
  tallies : ∀ k, loftTally k = false → KMap.get 0 t.tallies k = KMap.get 0 d.tallies k
  rows : t.rows = d.rows
  dir : t.dir = d.dir

/-- The packet, IN_FLIGHT and the stage packet of an admission (R133). -/
theorem Die.packetIn_stage (slot : Nat) (pk : List (PacketBeat × Beat × Bool)) (e p evid n : Nat) (hp : p < 64) (d : Die) :
    Die.PacketIn slot pk e d (((d.putPacket slot pk e).put R.FAB_STATUS_IN_FLIGHT p n).stage 0 e p evid slot 3) := by
  have hpacket := Die.putPacket_tiles slot pk e d
  have hqueues := fun tile c q => Die.queue_putPacket slot pk e tile c q d
  generalize d.putPacket slot pk e = f at hpacket hqueues
  obtain ⟨hstage, htallies⟩ := Die.traced_stage 0 e p evid slot 3 hp (f.put R.FAB_STATUS_IN_FLIGHT p n)
  refine ⟨?_, ?_, fun tile c q => ?_, fun k hk => (htallies k hk).trans ?_, ?_, ?_⟩
  · rw [(congrArg Die.eng hstage.1).trans rfl, hpacket]; rfl
  · rw [(congrArg Die.entries hstage.1).trans rfl, hpacket]; rfl
  · rw [← hqueues tile c q]
    exact Die.queue_congr _ _ ((congrArg Die.tiles hstage.1).trans rfl) _ _ _
  · rw [hpacket]; rfl
  · rw [(congrArg Die.rows hstage.1).trans rfl, hpacket]; rfl
  · rw [(congrArg Die.dir hstage.1).trans rfl, hpacket]; rfl

/-- A change of a pasture's state behind it. -/
theorem Die.PacketIn.onPas {slot : Nat} {pk : List (PacketBeat × Beat × Bool)} {e : Nat} {d t : Die} (h : Die.PacketIn slot pk e d t) (c : Prop)
    [Decidable c] (p : Nat) (f : PasSt → PasSt) : Die.PacketIn slot pk e d (if c then t.onPas p f else t) := by
  split
  · exact ⟨h.eng, h.entries, h.queues, h.tallies, h.rows, h.dir⟩
  · exact h

/-- The admission of an event that ends no window of an engine without steps (R124, R245). -/
theorem Die.admitEvent_admitted (e p : Nat) (im : Image) (ei : EngineImg) (v : Ev) (d : Die) (hp : p < 64)
    (hwindow : (stepN ei).isSome = true ∨ ((d.engPas e p).index + 1) % 65536 ≠ 0) : Die.Admitted e p im ei v d (d.admitEvent e p im ei v) := by
  unfold Die.admitEvent
  extract_lets g base n step first seed ed rb wb fl slots par slot ph cal d1 d2 d3 d4
  have hin : Die.PacketIn slot (d1.entering e p ei v) e d1 d4 := (Die.packetIn_stage slot _ e p _ _ hp d1).onPas _ _ _
  have hpas : d4.engPas e p = d1.engPas e p := by rw [Die.engPas, hin.eng]; rfl
  have heng : d1.engPas e p = _ := Die.engPas_onEng_same d e p _
  clear_value d4 d3
  suffices hd : Die.Admitted e p im ei v d d4 by
    rcases hwindow with h | h
    · obtain ⟨k, hk⟩ := Option.isSome_iff_exists.mp h
      simp only [show n = some k from hk]
      exact hd
    · rw [if_neg h]
      clear_value n
      cases n <;> exact hd
  rw [heng] at hpas
  have hentering : d1.entering e p ei v = d.entering e p ei v := rfl
  have hqueue (tile c q : Nat) : d1.queue tile c q = d.queue tile c q := rfl
  refine ⟨by rw [hpas], by rw [hpas], by rw [hpas], ?_, ?_, ?_, hin.entries, fun tile c q => ?_, hin.tallies, hin.rows, hin.dir⟩
  · rw [hpas]
    simp only [show (d.engPas e p).next = slot from rfl, KMap.get_set_same]
    exact ⟨trivial, rfl, rfl, trivial, rfl, rfl⟩
  · rw [hpas]
    have hstep : step = stepAt im ei (d.engPas e p) := rfl
    simp only [ed, first, seed, hstep]
    cases hn : stepN ei <;> simp [n, hn, g]
  · intro hsome
    rw [hpas]
    have hn : n.isSome = true := hsome
    simp only [hn, if_true]
    exact KMap.get_set_same _ _ _ _
  · rw [hin.queues, hentering, hqueue]

/-- What an admission reads of the machine. -/
structure Die.SameEntry (d t : Die) : Prop where
  eng : t.eng = d.eng
  upd : t.upd = d.upd
  grants : t.grants = d.grants
  tiles : t.tiles = d.tiles
  rows : t.rows = d.rows
  dir : t.dir = d.dir

/-- An admission from a state that reads alike. -/
theorem Die.Admitted.of_same {e p : Nat} {im : Image} {ei : EngineImg} {v : Ev} {d f t : Die} (h : Die.Admitted e p im ei v f t) (hs : d.SameEntry f) :
    (let a := t.engPas e p
      let g := d.engPas e p
      a.next = (g.next + 1) % (256 * (d.quartersOf e p).length) ∧ a.index = g.index + 1 ∧ a.flight = g.flight ++ [g.next]
      ∧ (let o := KMap.get {} a.slots g.next
        o.ev = { v with packet := [] } ∧ o.step = stepAt im ei g ∧ o.par = (match stepN ei with | some _ => stepAt im ei g % 2 | none => 0) ∧ o.caps = []
        ∧ o.wb = (match im.upd with | some u => if u.engine = e then (d.updSt e).bank else 0 | none => 0)
        ∧ o.flagged = (match im.upd with | some u => u.engine == e && Nat.land (byteAt v.er.bytes u.fbyte).toNat u.fmask != 0 | none => false))
      ∧ a.ed = (match stepN ei with
          | some k => mix64 (if g.index % k = 0 then stepAt im ei g else g.ed) (v.er.evid + v.er.source * 2 ^ 48)
          | none => mix64 (if g.index % 65536 = 0 then g.index / 65536 else g.ed) (v.er.evid + v.er.source * 2 ^ 48))
      ∧ ((stepN ei).isSome = true → KMap.get 0 a.eds (stepAt im ei g) = a.ed))
    ∧ (∀ tile c q, t.queue tile c q = d.queue tile c q ++ ((indexed (d.entering e p ei v)).filter
        (fun y => e * 512 + y.2.1.tile % 512 == tile && y.2.1.ctx == c && y.2.1.iq == q)).map (packetBeat (d.engPas e p).next (d.entering e p ei v))) := by
  have heng : f.engPas e p = d.engPas e p := by rw [Die.engPas, hs.eng]; rfl
  have hupd : f.updSt e = d.updSt e := by rw [Die.updSt, hs.upd]; rfl
  have howns (q : Nat) : f.ownsQuarter p e q = d.ownsQuarter p e q := by unfold Die.ownsQuarter Die.grant; rw [hs.grants]
  have hquarters : f.quartersOf e p = d.quartersOf e p := by unfold Die.quartersOf; simp only [howns]
  have hentering : f.entering e p ei v = d.entering e p ei v := by unfold Die.entering Die.entersAt; simp only [howns]
  have h1 := h.next
  have h2 := h.index
  have h3 := h.flight
  have h4 := h.slot
  have h5 := h.digest
  have h6 := h.digests
  have h7 := h.queues
  simp only [heng, hupd, hquarters, hentering] at h1 h2 h3 h4 h5 h6 h7
  refine ⟨⟨h1, h2, h3, h4, h5, h6⟩, fun tile c q => ?_⟩
  rw [h7, Die.queue_congr _ _ hs.tiles]

/-- ENTRY_ADMIT where nothing holds the event (R124, R245, R310, R321). -/
theorem Die.entryAdmit_enters (e p three : Nat) (waited : Bool) (d : Die) (v : Ev) (rest : List Ev) (im : Image) (ei : EngineImg)
    (hentry : KMap.get [] d.entries (e * 64 + p) = v :: rest) (him : d.image p = some im) (hei : engOf im e = some ei)
    (hflip : d.flipDue e p (stepAt im ei (d.engPas e p)) = false) (hopen : d.entryOpen e p = true)
    (hslot : (d.engPas e p).next ∉ (d.engPas e p).flight)
    (hscale : ∀ k, stepN ei = some k → im.stepBase.toNat + 2 ≤ stepAt im ei (d.engPas e p) → stepAt im ei (d.engPas e p) < (d.engPas e p).commit)
    (hupd : d.updHolds e p (stepAt im ei (d.engPas e p)) = false) (hroom : d.packetRoom (2 ^ ei.fold) (d.entering e p ei v) e = true) :
    d.entryAdmit e p waited three = (({ (if (waited || (d.engPas e p).waiting || v.er.waited) = true then d.count T.FAB_ENTRY_WAIT p else d) with
      entries := KMap.set [] (if (waited || (d.engPas e p).waiting || v.er.waited) = true then d.count T.FAB_ENTRY_WAIT p else d).entries (e * 64 + p) rest }
        : Die).stile p three v.packet.length).admitEvent e p im ei v := by
  have hno : (d.engPas e p).flight.contains (d.engPas e p).next = false := by simpa using hslot
  have hready : ((stepN ei).isSome && decide (im.stepBase.toNat + 2 ≤ stepAt im ei (d.engPas e p))
      && decide ((d.engPas e p).commit ≤ stepAt im ei (d.engPas e p))) = false := by
    cases hn : stepN ei with
    | none => rfl
    | some k =>
      by_cases hb : im.stepBase.toNat + 2 ≤ stepAt im ei (d.engPas e p)
      · have := hscale k hn hb
        simp [hb]
        omega
      · simp [hb]
  unfold Die.entryAdmit
  simp only [hentry, him, hei]
  change (if d.flipDue e p (stepAt im ei (d.engPas e p)) = true then _ else if (!(d.entryOpen e p)) = true then _ else
    if ((d.engPas e p).flight.contains (d.engPas e p).next || ((stepN ei).isSome && decide (im.stepBase.toNat + 2 ≤ stepAt im ei (d.engPas e p))
      && decide ((d.engPas e p).commit ≤ stepAt im ei (d.engPas e p))) || d.updHolds e p (stepAt im ei (d.engPas e p))) = true then _ else _) = _
  rw [hflip, hopen, hno, hready, hupd, if_neg (by simp), if_neg (by simp), if_neg (by simp), if_pos hroom]

/-- ENTRY_ADMIT of an event that nothing holds: what the crossing and the admission leave. -/
theorem entryAdmit_admits (s : State) (e p three : Nat) (waited : Bool) (v : Ev) (rest : List Ev) (im : Image) (ei : EngineImg) (he : e < 8) (hp : p < 64)
    (hentry : KMap.get [] s.die.entries (e * 64 + p) = v :: rest) (him : s.die.image p = some im) (hei : engOf im e = some ei)
    (hflip : s.die.flipDue e p (stepAt im ei (s.die.engPas e p)) = false) (hopen : s.die.entryOpen e p = true)
    (hslot : (s.die.engPas e p).next ∉ (s.die.engPas e p).flight)
    (hscale : ∀ k, stepN ei = some k → im.stepBase.toNat + 2 ≤ stepAt im ei (s.die.engPas e p)
      → stepAt im ei (s.die.engPas e p) < (s.die.engPas e p).commit)
    (hupd : s.die.updHolds e p (stepAt im ei (s.die.engPas e p)) = false) (hroom : s.die.packetRoom (2 ^ ei.fold) (s.die.entering e p ei v) e = true)
    (hwindow : (stepN ei).isSome = true ∨ ((s.die.engPas e p).index + 1) % 65536 ≠ 0) :
    s.completes (.entryAdmit e p waited three) (fun t => t = { s with die := t.die } ∧ ∃ f, s.die.SameEntry f ∧ Die.Admitted e p im ei v f t.die
      ∧ f.entries = KMap.set [] s.die.entries (e * 64 + p) rest
      ∧ ((waited || (s.die.engPas e p).waiting || v.er.waited) = true → f.tally T.FAB_ENTRY_WAIT p = tallyAdd (s.die.tally T.FAB_ENTRY_WAIT p) 1)) := by
  have hmain := s.die.entryAdmit_enters e p three waited v rest im ei hentry him hei hflip hopen hslot hscale hupd hroom
  refine State.completes_dieCmd (f := fun s => s.die.entryAdmit e p waited three) rfl (by simp [he, hp]) ?_
  rw [hmain]
  generalize hb : (waited || (s.die.engPas e p).waiting || v.er.waited) = b
  set d0 := if b = true then s.die.count T.FAB_ENTRY_WAIT p else s.die with hd0
  have h0 : s.die.report d0 := Die.report_ite (s.die.report_count _ _) s.die.report_refl
  have hcount : b = true → d0.tally T.FAB_ENTRY_WAIT p = tallyAdd (s.die.tally T.FAB_ENTRY_WAIT p) 1 := by
    intro h
    rw [hd0, if_pos h]
    exact Die.tally_count_same _ _ _ (loftTally_fab _ _ rfl)
  have hentries0 : d0.entries = s.die.entries := (congrArg Die.entries h0.1).trans rfl
  clear_value d0
  rw [hentries0]
  set d1 : Die := { d0 with entries := KMap.set [] s.die.entries (e * 64 + p) rest } with hd1
  have hstile := Die.report_stile p three v.packet.length d1
  have htimed : (d1.stile p three v.packet.length).tally T.FAB_ENTRY_WAIT p = d0.tally T.FAB_ENTRY_WAIT p := by
    unfold Die.stile
    split
    · exact Die.tally_countBy_other _ _ _ _ _ (loftTally_fab _ _ rfl) (Tal.key_ne T.FAB_ENTRY_WAIT T.FAB_TIMING_CHOICE p (by decide))
    · rfl
  generalize d1.stile p three v.packet.length = f at hstile htimed
  have hf : s.die.SameEntry f := by
    have h := hstile.1
    rw [hd1, h0.1] at h
    exact ⟨(congrArg Die.eng h).trans rfl, (congrArg Die.upd h).trans rfl, (congrArg Die.grants h).trans rfl, (congrArg Die.tiles h).trans rfl,
      (congrArg Die.rows h).trans rfl, (congrArg Die.dir h).trans rfl⟩
  have heng : f.engPas e p = s.die.engPas e p := by rw [Die.engPas, hf.eng]; rfl
  exact ⟨rfl, f, hf, Die.admitEvent_admitted e p im ei v f hp (by rw [heng]; exact hwindow), (congrArg Die.entries hstile.1).trans rfl,
    fun h => htimed.trans (hcount h)⟩

/-- An event whose slot is in flight waits and is counted once (R124). -/
theorem Die.entryAdmit_waits (e p three : Nat) (waited : Bool) (d : Die) (v : Ev) (rest : List Ev) (im : Image) (ei : EngineImg) (he : e < 8)
    (hentry : KMap.get [] d.entries (e * 64 + p) = v :: rest) (him : d.image p = some im) (hei : engOf im e = some ei)
    (hflip : d.flipDue e p (stepAt im ei (d.engPas e p)) = false) (hopen : d.entryOpen e p = true)
    (hslot : (d.engPas e p).next ∈ (d.engPas e p).flight) (hwait : (d.engPas e p).waitSlot = false) :
    (d.entryAdmit e p waited three).entries = d.entries ∧ (d.entryAdmit e p waited three).tiles = d.tiles
      ∧ (d.entryAdmit e p waited three).tally T.FAB_SLOT_WAIT p = tallyAdd (d.tally T.FAB_SLOT_WAIT p) 1 := by
  have hyes : (d.engPas e p).flight.contains (d.engPas e p).next = true := by simpa using hslot
  have hnote (scale upd : Bool) : (d.noteWait e p true scale upd).entries = d.entries ∧ (d.noteWait e p true scale upd).tiles = d.tiles
      ∧ (d.noteWait e p true scale upd).tally T.FAB_SLOT_WAIT p = tallyAdd (d.tally T.FAB_SLOT_WAIT p) 1 := by
    unfold Die.noteWait
    extract_lets g d1 d2 d3
    have hloft := loftTally_fab T.FAB_SLOT_WAIT p rfl
    have h1 : d1 = d.count T.FAB_SLOT_WAIT p := if_pos (by simp [g, hwait])
    have h2 : d1.report d2 := Die.report_ite (d1.report_count _ _) d1.report_refl
    have h3 : d2.report d3 := Die.report_ite (d2.report_count _ _) d2.report_refl
    have t1 : d1.tally T.FAB_SLOT_WAIT p = tallyAdd (d.tally T.FAB_SLOT_WAIT p) 1 := by rw [h1]; exact Die.tally_count_same _ _ _ hloft
    have t2 : d2.tally T.FAB_SLOT_WAIT p = d1.tally T.FAB_SLOT_WAIT p := by
      simp only [d2]
      split
      · exact Die.tally_count_apart _ _ _ _ hloft (by decide)
      · rfl
    have t3 : d3.tally T.FAB_SLOT_WAIT p = d2.tally T.FAB_SLOT_WAIT p := by
      simp only [d3]
      split
      · refine Die.tally_countBy_other _ _ _ _ _ hloft ?_
        simp only [Tal.key, T.FAB_SLOT_WAIT, T.UPD_UPD_WAIT]
        omega
      · rfl
    have hrep := (h1 ▸ d.report_count T.FAB_SLOT_WAIT p : d.report d1).trans (h2.trans h3)
    exact ⟨(congrArg Die.entries hrep.1).trans rfl, (congrArg Die.tiles hrep.1).trans rfl, t3.trans (t2.trans t1)⟩
  obtain ⟨scale, upd, hadmit⟩ : ∃ scale upd, d.entryAdmit e p waited three = d.noteWait e p true scale upd := by
    refine ⟨(stepN ei).isSome && decide (im.stepBase.toNat + 2 ≤ stepAt im ei (d.engPas e p))
      && decide ((d.engPas e p).commit ≤ stepAt im ei (d.engPas e p)), d.updHolds e p (stepAt im ei (d.engPas e p)), ?_⟩
    unfold Die.entryAdmit
    simp only [hentry, him, hei]
    change (if d.flipDue e p (stepAt im ei (d.engPas e p)) = true then _ else if (!(d.entryOpen e p)) = true then _ else
      if ((d.engPas e p).flight.contains (d.engPas e p).next || _ || _) = true then d.noteWait e p ((d.engPas e p).flight.contains (d.engPas e p).next) _ _
        else _ : Die) = _
    rw [hflip, hopen, hyes, if_neg (by simp), if_neg (by simp), if_pos (by simp)]
    rfl
  rw [hadmit]
  exact hnote scale upd

/-- ENTRY_WAIT_LIMIT outside replay (R38). -/
theorem Die.entryDrop_drops (e p : Nat) (d : Die) (v : Ev) (rest : List Ev) (hentry : KMap.get [] d.entries (e * 64 + p) = v :: rest) :
    (d.entryDrop e p).entries = KMap.set [] d.entries (e * 64 + p) rest
      ∧ (d.entryDrop e p).tally T.FAB_ENTRY_WAIT p = tallyAdd (d.tally T.FAB_ENTRY_WAIT p) 1
      ∧ (d.entryDrop e p).tally T.FAB_ENTRY_DROP p = tallyAdd (d.tally T.FAB_ENTRY_DROP p) 1
      ∧ (d.entryDrop e p).tiles = d.tiles ∧ (d.entryDrop e p).rows = d.rows := by
  unfold Die.entryDrop
  simp only [hentry]
  set d0 : Die := { d with entries := KMap.set [] d.entries (e * 64 + p) rest } with hd0
  have hrep : d0.report ((d0.count T.FAB_ENTRY_WAIT p).count T.FAB_ENTRY_DROP p) := (d0.report_count _ _).trans (Die.report_count _ _ _)
  have hwait : ((d0.count T.FAB_ENTRY_WAIT p).count T.FAB_ENTRY_DROP p).tally T.FAB_ENTRY_WAIT p = tallyAdd (d0.tally T.FAB_ENTRY_WAIT p) 1 :=
    (Die.tally_count_apart _ _ _ _ (loftTally_fab T.FAB_ENTRY_WAIT p rfl) (by decide)).trans (Die.tally_count_same _ _ d0 (loftTally_fab _ _ rfl))
  have hdrop : ((d0.count T.FAB_ENTRY_WAIT p).count T.FAB_ENTRY_DROP p).tally T.FAB_ENTRY_DROP p = tallyAdd (d0.tally T.FAB_ENTRY_DROP p) 1 :=
    (Die.tally_count_same _ _ _ (loftTally_fab T.FAB_ENTRY_DROP p rfl)).trans
      (congrArg (fun v => tallyAdd v 1) (Die.tally_count_apart _ _ _ d0 (loftTally_fab _ _ rfl) (by decide)))
  generalize (d0.count T.FAB_ENTRY_WAIT p).count T.FAB_ENTRY_DROP p = f at hrep hwait hdrop
  obtain ⟨hframe, -⟩ := hrep
  have hentries : f.entries = d0.entries := by rw [hframe]
  have htiles : f.tiles = d0.tiles := by rw [hframe]
  have hrows : f.rows = d0.rows := by rw [hframe]
  exact ⟨hentries, hwait, hdrop, htiles, hrows⟩

/-- Settles O17: an admission is what crossing the entry and taking the slot leave; a held event and one past its limit are counted. -/
theorem entryAdmits : Obligations.EntryAdmits := by
  unfold Obligations.EntryAdmits
  refine ⟨fun s e p stile3 waited v rest im ei he hp hentry him hei => ?_, fun s e p v rest he hp hentry => ⟨fun hlive => ?_, fun hreplay => ?_⟩⟩
  · intro g base step pk hflip hopen
    refine ⟨fun hslot hscale hupd hroom hwindow => ?_, fun hslot hwait => ?_⟩
    · obtain ⟨t, hexec, ht, f, hsame, hadm, hentries, hcount⟩ := entryAdmit_admits s e p stile3 waited v rest im ei he hp hentry him hei hflip hopen hslot hscale
        hupd hroom hwindow
      obtain ⟨hrest, hqueues⟩ := hadm.of_same hsame
      refine ⟨t, hexec, ht, hrest, ?_, hqueues, fun h => ?_, hadm.rows.trans hsame.rows, hadm.dir.trans hsame.dir⟩
      · rw [hadm.entries, hentries]
        exact KMap.get_set_same _ _ _ _
      · rw [← hcount h]
        exact hadm.tallies _ (loftTally_fab _ _ rfl)
    · refine State.completes_dieCmd (f := fun s => s.die.entryAdmit e p waited stile3) rfl (by simp [he, hp]) ?_
      exact ⟨rfl, s.die.entryAdmit_waits e p stile3 waited v rest im ei he hentry him hei hflip hopen hslot hwait⟩
  · refine State.completes_dieCmd (f := fun s => if s.die.on R.FAB_REPLAY_ENABLE p then s.die else s.die.entryDrop e p) rfl (by simp [he, hp]) ?_
    rw [if_neg (by simp [hlive])]
    obtain ⟨h1, h2, h3, h4, h5⟩ := s.die.entryDrop_drops e p v rest hentry
    refine ⟨rfl, ?_, fun k hk => ?_, h2, h3, h4, h5⟩
    · rw [h1]
      exact KMap.get_set_same _ _ _ _
    · rw [h1]
      exact KMap.get_set_other _ _ _ _ _ hk
  · refine State.completes_dieCmd (f := fun s => if s.die.on R.FAB_REPLAY_ENABLE p then s.die else s.die.entryDrop e p) rfl (by simp [he, hp]) ?_
    rw [if_pos hreplay]

end Sys2Proof.Machine
end

section
/-! SUPPORT. Output beats and decisions (R109, R111, R134, R234, R236). -/

namespace Sys2Proof.Machine

/-- Beats pushed to a list of queues: each queue gains as many as it is named (R109). -/
theorem Die.queue_pushAll (b : QBeat) (l : List (Nat × Nat × Nat)) (u c q : Nat) (d : Die) :
    (l.foldl (fun d y => d.push y.1 y.2.1 y.2.2 [b]) d).queue u c q = d.queue u c q ++ List.replicate (l.count (u, c, q)) b := by
  induction l generalizing d with
  | nil => simp
  | cons y l ih =>
    rw [List.foldl_cons, ih, Die.queue_push, List.count_cons, List.append_assoc]
    have hy : (y == (u, c, q)) = (y.1 == u && y.2.1 == c && y.2.2 == q) := by
      obtain ⟨y1, y2, y3⟩ := y
      rw [Bool.eq_iff_iff]
      simp [and_assoc]
    rw [hy]
    cases (y.1 == u && y.2.1 == c && y.2.2 == q) with
    | false => simp
    | true => simp [List.replicate_succ]

/-- Beats pushed to queues change the tiles alone. -/
theorem Die.pushAll_tiles (b : QBeat) (l : List (Nat × Nat × Nat)) (d : Die) :
    l.foldl (fun d y => d.push y.1 y.2.1 y.2.2 [b]) d = { d with tiles := (l.foldl (fun d y => d.push y.1 y.2.1 y.2.2 [b]) d).tiles } := by
  induction l generalizing d with
  | nil => rfl
  | cons y l ih =>
    rw [List.foldl_cons]
    exact ih _

/-- A queue after its own oldest beat is taken, and any other. -/
theorem Die.queue_setQueue (d : Die) (t k r u c q : Nat) (l : List QBeat) :
    (d.setQueue t k r l).queue u c q = if u = t ∧ c = k ∧ q = r then l else d.queue u c q := by
  by_cases h : u = t ∧ c = k
  · obtain ⟨rfl, rfl⟩ := h
    by_cases hq : q = r
    · subst hq; simp
    · rw [Die.queue_setQueue_other _ _ _ _ _ _ hq]
      simp [hq]
  · rw [if_neg (fun hx => h ⟨hx.1, hx.2.1⟩)]
    have hctx : (d.setQueue t k r l).ctx u c = d.ctx u c := by
      unfold Die.setQueue
      by_cases ht : u = t
      · subst ht
        exact Die.ctx_onCtx_other _ _ _ _ _ (fun hk => h ⟨rfl, hk⟩)
      · unfold Die.ctx Die.tile Die.onCtx Die.onTile
        rw [KMap.get_upd_other _ _ _ _ _ ht]
    rw [Die.queue, hctx]
    rfl

/-- An output queue that is ready: its oldest beat enters every destination at once (R109, R134). -/
theorem Die.sendBeat_ready (x : Fire) (oq : Nat) (d : Die) (b : QBeat) (rest : List QBeat) (hq : d.queue x.tile x.ctx (8 + oq) = b :: rest)
    (hsome : x.cc.outBind.getD oq [] ≠ [])
    (hstands : ∀ y ∈ x.cc.outBind.getD oq [], (y = .exit → x.tile % 32 = 23) ∧ (y ≠ .exit → x.reach d oq y ≠ []))
    (hwrite : x.mayWrite (x.cc.outBind.getD oq []) = true)
    (hroom : ∀ y ∈ (x.cc.outBind.getD oq []).flatMap (fun y => x.reach d oq y),
      d.ownsQuarter x.p x.e (tileQ y.1) = true ∧ (d.queue y.1 y.2.1 y.2.2).length < 8 / x.F) :
    d.sendBeat x oq =
      (let f := ((x.cc.outBind.getD oq []).flatMap (fun y => x.reach d oq y)).foldl (fun d y => d.push y.1 y.2.1 y.2.2 [b])
        (d.setQueue x.tile x.ctx (8 + oq) rest)
       if .exit ∈ x.cc.outBind.getD oq [] then
         f.onEng x.e x.p (fun g => { g with exits := g.exits ++ [⟨b.data, b.poison, b.slot, (KMap.get {} g.slots b.slot).ev⟩] })
       else f) := by
  unfold Die.sendBeat
  simp only [hq]
  set dsts := x.cc.outBind.getD oq []
  set goals := dsts.flatMap (fun y => x.reach d oq y)
  have hmine : goals.filter (fun y => d.ownsQuarter x.p x.e (tileQ y.1)) = goals := List.filter_eq_self.mpr (fun y hy => (hroom y hy).1)
  have hall : dsts.all (x.stands d oq) = true := by
    rw [List.all_eq_true]
    intro y hy
    obtain ⟨h1, h2⟩ := hstands y hy
    unfold Fire.stands
    split
    · next he => simpa [tileCol] using h1 he
    · next he => simpa using h2 he
  have hready : (!dsts.isEmpty && dsts.all (x.stands d oq) && x.mayWrite dsts
      && goals.all (fun y => decide ((d.queue y.1 y.2.1 y.2.2).length < 8 / x.F))) = true := by
    have hroom' : goals.all (fun y => decide ((d.queue y.1 y.2.1 y.2.2).length < 8 / x.F)) = true := by
      rw [List.all_eq_true]
      exact fun y hy => decide_eq_true (hroom y hy).2
    have hne : dsts.isEmpty = false := by rw [List.isEmpty_eq_false_iff]; exact hsome
    rw [hall, hwrite, hroom', hne]
    rfl
  rw [hmine, if_pos hready, if_neg (lt_irrefl _)]
  simp only [List.contains_iff_mem]

/-- OQ_BEAT_SEND (R109, R111, R134). -/
theorem oqBeatSend_sends (s : State) (tile ctx oq : Nat) (x : Fire) (b : QBeat) (rest : List QBeat) (ht : tile < 4096) (hcol : tile % 32 < 24) (hoq : oq < 2)
    (hx : s.die.fireOf tile ctx 0 = some x) (hq : s.die.queue tile ctx (8 + oq) = b :: rest) (hsome : x.cc.outBind.getD oq [] ≠ [])
    (hstands : ∀ y ∈ x.cc.outBind.getD oq [], (y = .exit → tile % 32 = 23) ∧ (y ≠ .exit → x.reach s.die oq y ≠ []))
    (hwrite : x.mayWrite (x.cc.outBind.getD oq []) = true)
    (hroom : ∀ y ∈ (x.cc.outBind.getD oq []).flatMap (fun y => x.reach s.die oq y),
      s.die.ownsQuarter x.p x.e (tileQ y.1) = true ∧ (s.die.queue y.1 y.2.1 y.2.2).length < 8 / x.F) :
    s.completes (.oqBeatSend tile ctx oq) (fun t =>
       (∀ u c q, t.die.queue u c q = (if u = tile ∧ c = ctx ∧ q = 8 + oq then rest else s.die.queue u c q)
         ++ List.replicate (((x.cc.outBind.getD oq []).flatMap (fun y => x.reach s.die oq y)).count (u, c, q)) b)
       ∧ (t.die.engPas x.e x.p).exits = (s.die.engPas x.e x.p).exits
           ++ (if .exit ∈ x.cc.outBind.getD oq [] then [⟨b.data, b.poison, b.slot, (KMap.get {} (s.die.engPas x.e x.p).slots b.slot).ev⟩] else [])
       ∧ t = { s with die := { s.die with tiles := t.die.tiles, eng := t.die.eng } }) := by
  have hplace : x.tile = tile ∧ x.ctx = ctx := by
    unfold Die.fireOf at hx
    dsimp only at hx
    repeat' split at hx
    all_goals simp only [Option.some.injEq, reduceCtorEq] at hx
    subst hx
    exact ⟨rfl, rfl⟩
  obtain ⟨rfl, rfl⟩ := hplace
  refine State.completes_dieCmd (f := fun s => match s.die.fireOf x.tile x.ctx 0 with | some x => s.die.sendBeat x oq | none => s.die) rfl
    (by simp [ht, hcol, hoq]) ?_
  simp only [hx]
  rw [s.die.sendBeat_ready x oq b rest hq hsome hstands hwrite hroom]
  set goals := (x.cc.outBind.getD oq []).flatMap (fun y => x.reach s.die oq y)
  have hqueue := fun u c q => Die.queue_pushAll b goals u c q (s.die.setQueue x.tile x.ctx (8 + oq) rest)
  have htiles := Die.pushAll_tiles b goals (s.die.setQueue x.tile x.ctx (8 + oq) rest)
  dsimp only
  generalize goals.foldl (fun d y => d.push y.1 y.2.1 y.2.2 [b]) (s.die.setQueue x.tile x.ctx (8 + oq) rest) = f at hqueue htiles
  have hf : f = { s.die with tiles := f.tiles } := htiles
  have heng : f.engPas x.e x.p = s.die.engPas x.e x.p := by rw [hf]; rfl
  simp only [Die.queue_setQueue] at hqueue
  split
  · refine ⟨hqueue, ?_, ?_⟩
    · rw [Die.engPas_onEng_same, heng]
    · rw [hf]; rfl
  · refine ⟨hqueue, ?_, ?_⟩
    · rw [heng, List.append_nil]
    · rw [hf]

/-- The registers of the flock's page are none that a report changes. -/
theorem reportWord_flk (f : Fld) (hb : f.base = 0x20000) (ho : f.off < 0x1000) (hlo : f.lo < 32) : reportWord (f.key 0 / 32) = false := by
  have : f.key 0 / 32 = 0x20000 + f.off := by unfold Fld.key; omega
  rw [this]
  unfold reportWord
  simp
  omega

/-- What the kill gate and the suppressions say of a pasture's action is nothing that a report changes (R234). -/
theorem State.gate_report (s : State) {e : Die} (h : s.die.report e) (p : Nat) : ({ s with die := e } : State).gate p = s.gate p := by
  have hflk (f : Fld) (hb : f.base = 0x20000) (ho : f.off < 0x1000) (hlo : f.lo < 32) : e.get f 0 = s.die.get f 0 := h.get f 0 (reportWord_flk f hb ho hlo)
  have himage : e.image p = s.die.image p := by rw [Die.image, Die.pasture, h.pas]; rfl
  have hblocks : ({ s with die := e } : State).gateBlocks = s.gateBlocks := by
    unfold State.gateBlocks Die.on
    dsimp only
    rw [hflk R.FLK_STATUS_KILLED rfl (by decide) (by decide), (congrArg Die.restoring h.1).trans rfl, (congrArg Die.tripped h.1).trans rfl]
  have hhalt : e.haltBlocks p = s.die.haltBlocks p := by
    unfold Die.haltBlocks Die.on
    rw [hflk R.FLK_STATUS_HALTED rfl (by decide) (by decide), himage]
  have hexp : e.expelled p = s.die.expelled p := by
    unfold Die.expelled Die.pair64
    rw [hflk R.FLK_EXPELLED_LO rfl (by decide) (by decide), hflk R.FLK_EXPELLED_HI rfl (by decide) (by decide),
      hflk R.FLK_SET_HALT_LO rfl (by decide) (by decide), hflk R.FLK_SET_HALT_HI rfl (by decide) (by decide)]
  have hquar : e.on R.PAS_QUARANTINE_STATUS_QUARANTINED p = s.die.on R.PAS_QUARANTINE_STATUS_QUARANTINED p :=
    congrArg (· == 1) (h.get R.PAS_QUARANTINE_STATUS_QUARANTINED p (reportWord_pas _ p rfl (by decide) (by decide) (by decide)))
  have haud : e.audited p = s.die.audited p := by
    unfold Die.audited
    rw [himage]
  unfold State.gate
  rw [hblocks]
  dsimp only
  rw [hhalt, hexp, hquar, haud]

/-- The first pasture, by number, with a decision at an engine's exit (R236). -/
theorem Die.exit_find (d : Die) (e p : Nat) (hp : p < 64) (hbefore : ∀ q, q < p → (d.engPas e q).exits = []) (hhere : (d.engPas e p).exits ≠ []) :
    pastures.find? (fun p => !(d.engPas e p).exits.isEmpty) = some p := by
  unfold pastures
  rw [List.find?_range_eq_some]
  refine ⟨by simpa using hhere, List.mem_range.mpr hp, fun q hq => ?_⟩
  simp [hbefore q hq]

/-- DECISION_EXIT of an engine that no span carries (R236): the oldest decision leaves, its crossing counted, and acts. -/
theorem State.decisionExit_acts (s : State) (e p three : Nat) (im : Image) (v : Decision) (rest : List Decision) (hp : p < 64)
    (hbefore : ∀ q, q < p → (s.die.engPas e q).exits = []) (him : s.die.image p = some im) (hspan : im.shape ≠ 2 ∨ spanFirst im ≠ e)
    (hexits : (s.die.engPas e p).exits = v :: rest) :
    s.decisionExit e three = State.decide_ e v { s with die := (s.die.stile p three 1).onEng e p (fun y => { y with exits := rest }) } := by
  have hfind := s.die.exit_find e p hp hbefore (by rw [hexits]; exact List.cons_ne_nil _ _)
  have hno : (im.shape == 2 && spanFirst im == e) = false := by
    rcases hspan with h | h <;> simp [h]
  have hrep := s.die.report_stile p three 1
  have himage : (s.die.stile p three 1).image p = some im := by
    rw [← him, Die.image, Die.pasture, hrep.pas]; rfl
  have heng : ((s.die.stile p three 1).engPas e p).exits = v :: rest := by
    rw [← hexits, Die.engPas, (congrArg Die.eng hrep.1).trans rfl]; rfl
  unfold State.decisionExit
  simp only [hfind, him, hno, Bool.false_eq_true, if_false, himage, heng]

/-- What a decision's action carries (R234). -/
def Die.decisionCtx (d : Die) (e : Nat) (v : Decision) : ActCtx := { ctxOf d v.ev.er e v.slot with slot := v.slot }

/-- A clean decision of a pasture outside replay: its actions in order (R234). -/
theorem State.decide_live (e : Nat) (v : Decision) (s : State) (hclean : v.poison = false)
    (hlive : (s.die.stage 1 0 v.ev.er.pasture v.ev.er.evid v.slot 4).on R.FAB_REPLAY_ENABLE v.ev.er.pasture = false) :
    (bits (bits v.beat.toNat 192 64) 0 3 = 4 → ∃ msg,
        s.decide_ e v = { s with die := (s.die.stage 1 0 v.ev.er.pasture v.ev.er.evid v.slot 4).postMsg v.ev.er.pasture msg })
    ∧ (bits (bits v.beat.toNat 192 64) 0 3 = 1 →
        s.decide_ e v = State.actTrig (s.die.decisionCtx e v) (bits (bits v.beat.toNat 192 64) 3 4) (bits (bits v.beat.toNat 192 64) 7 8)
          { s with die := s.die.stage 1 0 v.ev.er.pasture v.ev.er.evid v.slot 4 }) := by
  constructor
  · intro hacts
    have h0 : bit 4 0 = false := rfl
    have h1 : bit 4 1 = false := rfl
    have h2 : bit 4 2 = true := rfl
    refine ⟨hostMsg (s.die.decisionCtx e v) v.poison (leBytes 24 (v.beat.toNat % 2 ^ 192)) (bits v.beat.toNat 192 64), ?_⟩
    unfold State.decide_
    simp only [hacts, h0, h1, h2, hclean, Bool.false_eq_true, if_false, if_true]
    rw [if_neg (by rw [Bool.not_eq_true]; exact hlive)]
    rfl
  · intro hacts
    have h0 : bit 1 0 = true := rfl
    have h1 : bit 1 1 = false := rfl
    have h2 : bit 1 2 = false := rfl
    unfold State.decide_
    simp only [hacts, h0, h1, h2, hclean, Bool.false_eq_true, if_false, if_true]
    rw [if_neg (by rw [Bool.not_eq_true]; exact hlive)]
    rfl

/-- A message into a ring that is on and has room (R234). -/
theorem Die.postMsg_posts (p : Nat) (msg : List Byte) (d : Die) (hon : d.on R.PAS_MSG_CTL_ENABLE p = true)
    (hroom : (d.get R.PAS_MSG_HEAD_VALUE p + 2 ^ 32 - d.get R.PAS_MSG_TAIL_VALUE p) % 2 ^ 32 < 2 ^ d.get R.PAS_MSG_CTL_LOG2SIZE p) :
    (d.postMsg p msg).get R.PAS_MSG_HEAD_VALUE p = (d.get R.PAS_MSG_HEAD_VALUE p + 1) % 2 ^ 32
      ∧ d.postMsg p msg = { d with regs := (d.postMsg p msg).regs, host := (d.postMsg p msg).host } := by
  unfold Die.postMsg
  simp only [hon, hroom, decide_true, Bool.and_self, if_true]
  exact ⟨(Die.get_put_same _ _ _ _).trans rfl, rfl⟩

/-- A trigger that a granted pin, the kill gate and the suppressions leave free drives its low pin (R234). -/
theorem State.actTrig_free (c : ActCtx) (pin width : Nat) (s : State) (hgrant : bit (grantField (s.die.grant c.pasture) 28 2) pin = true)
    (hgate : s.gate c.pasture = 0) (hlow : (KMap.get {} s.die.pins pin).high = false) (hp : c.pasture < 64) :
    let t := s.actTrig c pin width
    (KMap.get {} t.die.pins pin).high = true ∧ (KMap.get {} t.die.pins pin).endCc = s.die.cc + width ∧ (KMap.get {} t.die.pins pin).pasture = c.pasture
      ∧ t.die.emits.getLast? = some (.trig pin true) ∧ t.kill = s.kill ∧ t.die.launch = s.die.launch ∧ t.die.eng = s.die.eng := by
  have hstage := s.die.report_stage 1 0 c.pasture c.evid c.slot 5 hp
  have hreserve : (s.reserve c.pasture).die = s.die ∧ (s.reserve c.pasture).kill = s.kill := by
    unfold State.reserve
    split <;> exact ⟨rfl, rfl⟩
  unfold State.actTrig
  simp only [hgrant, hgate, Bool.not_true, Bool.false_eq_true, if_false, if_true, hreserve.1]
  generalize s.die.stage 1 0 c.pasture c.evid c.slot 5 = d at hstage
  obtain ⟨hframe, -⟩ := hstage
  have hpins : d.pins = s.die.pins := by rw [hframe]
  have hcc : d.cc = s.die.cc := by rw [Die.cc, hframe]; rfl
  have hlaunch : d.launch = s.die.launch := by rw [hframe]
  have heng : d.eng = s.die.eng := by rw [hframe]
  unfold Die.pulse
  simp only [hpins, hlow, Bool.false_and, Bool.false_eq_true, if_false, hcc, Die.emit, KMap.get_set_same, List.getLast?_append, List.getLast?_singleton]
  exact ⟨trivial, trivial, trivial, rfl, hreserve.2, hlaunch, heng⟩

/-- Settles O18: a beat by `sendBeat_ready`, a decision by what its action leaves. -/
theorem outputsLeave : Obligations.OutputsLeave := by
  unfold Obligations.OutputsLeave
  refine ⟨fun s tile ctx oq x b rest ht hcol hoq hx hq => ?_, fun s e p three im v rest he hp hbefore him hspan hexits hv hclean hlive => ?_⟩
  · intro dsts goals hsome hstands hwrite hroom
    exact oqBeatSend_sends s tile ctx oq x b rest ht hcol hoq hx hq hsome hstands hwrite hroom
  intro desc
  have hexec : exec (.decisionExit e three) s = .next (s.decisionExit e three) := guardU_ok _ _ (decide_eq_true he)
  have hacts := s.decisionExit_acts e p three im v rest hp hbefore him hspan hexits
  have hstile := s.die.report_stile p three 1
  generalize s.die.stile p three 1 = f at hacts hstile
  set d0 : Die := s.die.onEng e p (fun y => { y with exits := rest }) with hd0
  have hleft : d0.report (f.onEng e p (fun y => { y with exits := rest })) := by
    refine ⟨?_, hstile.2⟩
    unfold Die.onEng at hd0 ⊢
    rw [hd0, hstile.1]
  have hstage : d0.report ((f.onEng e p (fun y => { y with exits := rest })).stage 1 0 p v.ev.er.evid v.slot 4) :=
    hleft.trans (Die.report_stage _ _ _ _ _ _ hp _)
  have hreplay : ((f.onEng e p (fun y => { y with exits := rest })).stage 1 0 p v.ev.er.evid v.slot 4).on R.FAB_REPLAY_ENABLE p = false := by
    have hk : R.FAB_REPLAY_ENABLE.key p / 32 = 0x380030 + p * 0x1000 := by simp only [Fld.key, R.FAB_REPLAY_ENABLE]; omega
    exact (congrArg (· == 1) (hstage.get R.FAB_REPLAY_ENABLE p (by rw [hk]; exact reportWord_above (by omega) (by omega)))).trans hlive
  have hexits0 : (d0.engPas e p).exits = rest := by rw [hd0, Die.engPas_onEng_same]
  have hdecide := State.decide_live e v { s with die := f.onEng e p (fun y => { y with exits := rest }) } hclean (by rw [hv]; exact hreplay)
  rw [hv] at hdecide
  have hmsg (g : Fld) (hb : g.base = 0x300000) (ho : g.off < 0x1000) (hn : g.off ≠ 0x814) (hlo : g.lo < 32) :
      ((f.onEng e p (fun y => { y with exits := rest })).stage 1 0 p v.ev.er.evid v.slot 4).get g p = s.die.get g p :=
    hstage.get g p (reportWord_pas g p hb ho hn hlo)
  dsimp only at hdecide
  generalize (f.onEng e p (fun y => { y with exits := rest })).stage 1 0 p v.ev.er.evid v.slot 4 = d at hstage hreplay hdecide hmsg
  have heng : d.eng = d0.eng := (congrArg Die.eng hstage.1).trans rfl
  have hpins : d.pins = s.die.pins := (congrArg Die.pins hstage.1).trans rfl
  have hlaunch : d.launch = s.die.launch := (congrArg Die.launch hstage.1).trans rfl
  have hexitsd {u : Die} (hu : u.eng = d.eng) : (u.engPas e p).exits = rest := by
    rw [Die.engPas, hu, heng]
    exact hexits0
  refine ⟨fun hhost hon hroom => ⟨_, hexec, ?_⟩, fun htrig hgrant hgate hlow => ⟨_, hexec, ?_⟩⟩
  · obtain ⟨msg, hdone⟩ := hdecide.1 hhost
    rw [hacts, hdone]
    have hhead := hmsg R.PAS_MSG_HEAD_VALUE rfl (by decide) (by decide) (by decide)
    obtain ⟨h1, h2⟩ := d.postMsg_posts p msg ((congrArg (· == 1) (hmsg R.PAS_MSG_CTL_ENABLE rfl (by decide) (by decide) (by decide))).trans hon)
      (by rw [hhead, hmsg R.PAS_MSG_TAIL_VALUE rfl (by decide) (by decide) (by decide), hmsg R.PAS_MSG_CTL_LOG2SIZE rfl (by decide) (by decide) (by decide)]
          exact hroom)
    refine ⟨rfl, hexitsd ?_, h1.trans (by rw [hhead]), ?_, ?_⟩
    · dsimp only; rw [h2]
    · dsimp only; rw [h2]; exact hpins
    · dsimp only; rw [h2]; exact hlaunch
  · rw [hacts, hdecide.2 htrig]
    have hgated : ({ s with die := d } : State).gate p = s.gate p := State.gate_report { s with die := d0 } hstage p
    have hctx : (Die.decisionCtx (f.onEng e p (fun y => { y with exits := rest })) e v).pasture = p := hv
    generalize Die.decisionCtx (f.onEng e p (fun y => { y with exits := rest })) e v = c at hctx
    subst hctx
    have hgrants : d.grant c.pasture = s.die.grant c.pasture := by
      rw [Die.grant, (congrArg Die.grants hstage.1).trans rfl]; rfl
    have hcc : d.cc = s.die.cc := by rw [Die.cc, (congrArg Die.fc hstage.1).trans rfl]; rfl
    obtain ⟨h1, h2, h3, h4, h5, h6, h7⟩ := State.actTrig_free c (bits desc 3 4) (bits desc 7 8) { s with die := d } (by rw [hgrants]; exact hgrant)
      (hgated.trans hgate) (by rw [hpins]; exact hlow) hp
    exact ⟨hexitsd h7, h1, h2.trans (by rw [hcc]), h3, h4, h5, h6.trans hlaunch⟩

end Sys2Proof.Machine
end

section
/-! SUPPORT. Writes of ENG_CONTROL, ENG_RETIRE and FAB_BALANCE (R139, R142 to R144, R148, R152, R623). -/

namespace Sys2Proof.Machine

/-- Two bits of a byte-wide field after two of its bits are set. -/
theorem bits_setBits_quarter (n q r v : Nat) (hq : q < 4) (hr : r < 4) (hv : v < 4) :
    bits (setBits n (2 * q) 2 v % 2 ^ 8) (2 * r) 2 = if r = q then v else bits n (2 * r) 2 := by
  unfold bits setBits bits
  interval_cases q <;> interval_cases r <;> simp <;> omega

/-- The state of the quarters after one is set (R143). -/
theorem Die.qstate_setQ (d : Die) (e q r v : Nat) (hq : q < 4) (hr : r < 4) (hv : v < 4) :
    (d.setQ e q v).qstate e r = if r = q then v else d.qstate e r := by
  unfold Die.qstate Die.setQ
  rw [Die.get_put_same]
  exact bits_setBits_quarter _ _ _ _ hq hr hv

/-- `f` has engine `e`'s quarter states and closed entries as `d` has them. -/
def Die.sameGates (e : Nat) (d f : Die) : Prop := f.closed = d.closed ∧ f.get R.ENG_STATUS_QSTATE e = d.get R.ENG_STATUS_QSTATE e

theorem Die.sameGates.trans {e : Nat} {d f g : Die} (h : d.sameGates e f) (k : f.sameGates e g) : d.sameGates e g := ⟨k.1.trans h.1, k.2.trans h.2⟩

theorem Die.sameGates_refl (e : Nat) (d : Die) : d.sameGates e d := ⟨rfl, rfl⟩

theorem Die.sameGates.qstate {e : Nat} {d f : Die} (h : d.sameGates e f) (q : Nat) : f.qstate e q = d.qstate e q := by rw [Die.qstate, h.2]; rfl

/-- A report leaves the quarters. -/
theorem Die.report.sameGates {d f : Die} (h : d.report f) (e : Nat) : d.sameGates e f := by
  refine ⟨(congrArg Die.closed h.1).trans rfl, h.get _ _ ?_⟩
  have : R.ENG_STATUS_QSTATE.key e / 32 = 0x100800 + e * 0x1000 := by simp only [Fld.key, R.ENG_STATUS_QSTATE]; omega
  rw [this]
  exact reportWord_above (by omega) (by omega)

/-- A register of the fabric's pages is none of an engine's. -/
theorem Die.sameGates_putFab (e p : Nat) (f : Fld) (v : Nat) (d : Die) (he : e < 8) (hb : f.base = 0x380000) : d.sameGates e (d.put f p v) := by
  refine ⟨rfl, Die.get_put_other _ _ _ _ _ _ ?_⟩
  simp only [Fld.key, R.ENG_STATUS_QSTATE, hb]
  omega

theorem Die.sameGates_foldl {α : Type} (e : Nat) (f : Die → α → Die) (hf : ∀ (d : Die) (a : α), d.sameGates e (f d a)) (l : List α) (d : Die) : d.sameGates e (l.foldl f d) := by
  induction l generalizing d with
  | nil => exact ⟨rfl, rfl⟩
  | cons a l ih =>
    rw [List.foldl_cons]
    exact (hf d a).trans (ih _)

/-- A scale packet is traced alone. -/
theorem Die.sameGates_scalePackets (e k p step t : Nat) (es : List Int) (z : Int) (d : Die) (hp : p < 64) : d.sameGates e (d.scalePackets k p step t es z) := by
  unfold Die.scalePackets
  refine Die.sameGates_foldl e _ (fun d i => ?_) _ d
  exact (d.report_trace _ (fun q h => by injection h with h; omega)).sameGates e

/-- A tensor's scales written leave the quarters. -/
theorem Die.sameGates_writeTensor (e k p par : Nat) (im : Image) (t : Tensor) (es : List Int) (z : Int) (d : Die) :
    d.sameGates e (d.writeTensor k p par im t es z) := by
  have hbeat (tile b v : Nat) (d : Die) : d.sameGates e (d.putBeat tile b v false) := ⟨rfl, rfl⟩
  have hcount (t : Tal) (n : Nat) (d : Die) : d.sameGates e (d.countBy t p n) := (d.report_countBy t p n).sameGates e
  unfold Die.writeTensor
  dsimp only
  refine Die.sameGates.trans ?_ ⟨rfl, rfl⟩
  refine Die.sameGates.trans (Die.sameGates_foldl e _ (fun d b => ?_) _ _) (Die.sameGates.trans (Die.sameGates_foldl e _ (fun d y => hbeat _ _ _ _) _ _)
    (Die.sameGates_foldl e _ (fun d b => ?_) _ _))
  · exact Die.sameGates_foldl e _ (fun d i => hbeat _ _ _ _) _ _
  · split
    · exact (((hcount _ _ d).trans (hcount _ _ _)).trans (hcount _ _ _)).trans (hbeat _ _ _ _)
    · exact Die.sameGates_refl e d

theorem Die.sameGates_takeStatics (e k p : Nat) (im : Image) (d : Die) (hp : p < 64) : d.sameGates e (d.takeStatics k p im) := by
  have hwrite (par : Nat) (d : Die) : d.sameGates e (d.writeStatics k p par im) := by
    unfold Die.writeStatics
    exact Die.sameGates_foldl e _ (fun d t => Die.sameGates_writeTensor e k p par im t _ _ d) _ d
  unfold Die.takeStatics
  exact ((hwrite 0 d).trans (hwrite 1 _)).trans (Die.sameGates_foldl e _ (fun d t => Die.sameGates_scalePackets e k p _ _ _ _ d hp) _ _)

theorem Die.sameGates_calInForce (e p step : Nat) (here : Nat → Bool) (d : Die) (he : e < 8) : d.sameGates e (d.calInForce p step here) := by
  have hpair (lo hi : Fld) (v : Nat) (d : Die) (hlo : lo.base = 0x380000) (hhi : hi.base = 0x380000) : d.sameGates e (d.putPair lo hi p v) :=
    (d.sameGates_putFab e p lo _ he hlo).trans (Die.sameGates_putFab e p hi _ _ he hhi)
  have hpas (f : PasSt → PasSt) (d : Die) : d.sameGates e (d.onPas p f) := ⟨rfl, rfl⟩
  unfold Die.calInForce
  dsimp only
  refine Die.sameGates.trans (hpas (fun q => { q with changed := q.changed.filter (fun t => !(here t)) }) d) ?_
  split
  · exact ((Die.sameGates_putFab e p _ _ _ he rfl).trans (Die.sameGates_putFab e p _ _ _ he rfl)).trans (hpair _ _ _ _ rfl rfl)
  · exact ⟨rfl, rfl⟩

/-- What follows an open entry leaves every quarter and entry as it is (R250). -/
theorem Die.sameGates_resumePas (e k p : Nat) (im : Image) (d : Die) (he : e < 8) (hp : p < 64) : d.sameGates e (d.resumePas k p im) := by
  have heng (j : Nat) (f : EngPas → EngPas) (d : Die) : d.sameGates e (d.onEng j p f) := ⟨rfl, rfl⟩
  unfold Die.resumePas
  dsimp only
  split
  · split
    · refine ((heng k _ d).trans (Die.sameGates_foldl e _ (fun d j => ?_) _ _)).trans (Die.sameGates_calInForce e p _ _ _ he)
      exact (Die.sameGates_takeStatics e j p im d hp).trans (heng j _ _)
    · exact heng k _ d
  · split
    · exact (Die.sameGates_takeStatics e k p im d hp).trans (Die.sameGates_calInForce e p _ _ _ he)
    · exact ⟨rfl, rfl⟩

/-- Whether a quarter holds an admitted image that a load can read (R146, R152). -/
def Die.loadable (d : Die) (e q : Nat) : Bool :=
  d.qstate e q != 0 && (match (d.quarterOwner e q).bind d.image with | some im => (engOf im e).isSome | none => false)

/-- ENG_CONTROL's fields after a write of it, and all that it leaves. -/
structure Die.EngControlSet (e w : Nat) (d f : Die) : Prop where
  frame : f = { d with regs := f.regs }
  quarters : f.get R.ENG_CONTROL_QUARTERS e = bits w 0 4
  scope : f.get R.ENG_CONTROL_SCOPE e = if bits w 4 2 ≤ 2 then bits w 4 2 else d.get R.ENG_CONTROL_SCOPE e
  qstate : ∀ q, f.qstate e q = d.qstate e q

theorem Die.engControlSet (e w : Nat) (d : Die) : Die.EngControlSet e w d (d.setFields .ENG e 0x010 w) where
  frame := Die.setFields_regs _ _ _ _ _
  quarters := (Die.get_setFields_rw .ENG e 0x010 w d ⟨R.ENG_CONTROL_QUARTERS, any⟩ (by simp [fieldsAt, Block.regs, regsENG]) rfl).trans (if_pos rfl)
  scope := by
    refine (Die.get_setFields_rw .ENG e 0x010 w d ⟨R.ENG_CONTROL_SCOPE, fun v => v ≤ 2⟩ (by simp [fieldsAt, Block.regs, regsENG]) rfl).trans ?_
    simp only [decide_eq_true_eq]
    rfl
  qstate q := by rw [Die.qstate, Die.get_setFields_page _ _ _ _ _ R.ENG_STATUS_QSTATE rfl (by decide)]; rfl

/-- A command of ENG_CONTROL that is performed outside a muster (R532). -/
theorem engControlW_performed (e w : Nat) (d : Die) (hmuster : (d.sheep e).muster = false) :
    (bit w 8 = true → engControlW e w d = (d.setFields .ENG e 0x010 w).quiesce e)
    ∧ (bit w 8 = false → bit w 9 = true → engControlW e w d = (d.setFields .ENG e 0x010 w).startLoad e)
    ∧ (bit w 8 = false → bit w 9 = false → bit w 10 = true → engControlW e w d = (d.setFields .ENG e 0x010 w).resume e) := by
  unfold engControlW
  rw [if_neg (by simp [hmuster])]
  refine ⟨fun h8 => ?_, fun h8 h9 => ?_, fun h8 h9 h10 => ?_⟩
  · simp only [lowestWo, List.find?_cons, h8]
  · simp only [lowestWo, List.find?_cons, h8, h9]
  · simp only [lowestWo, List.find?_cons, h8, h9, h10]

/-- An entry closed once stays closed while others are closed (R144). -/
theorem Die.closeEntries_closed (e p r : Nat) (hr : r < 4) (l : List Nat) (d : Die) (hp : p ∈ l ∧ d.ownsQuarter p e r = true ∨ KMap.get false d.closed (e * 4 + r) = true) :
    KMap.get false (l.foldl (fun d p => d.closeEntry e p) d).closed (e * 4 + r) = true := by
  have hkeep (q : Nat) (d : Die) (h : KMap.get false d.closed (e * 4 + r) = true) : KMap.get false (d.closeEntry e q).closed (e * 4 + r) = true := by
    have key (qs : List Nat) (m : KMap Bool) (h : KMap.get false m (e * 4 + r) = true) :
        KMap.get false (qs.foldl (fun m q => KMap.set false m (e * 4 + q) true) m) (e * 4 + r) = true := by
      induction qs generalizing m with
      | nil => exact h
      | cons q qs ih =>
        refine ih _ ?_
        by_cases hq : e * 4 + r = e * 4 + q
        · rw [hq, KMap.get_set_same]
        · rw [KMap.get_set_other _ _ _ _ _ hq]; exact h
    exact key _ _ h
  induction l generalizing d with
  | nil => simpa using hp
  | cons q l ih =>
    rw [List.foldl_cons]
    refine ih _ ?_
    rcases hp with ⟨hmem, howns⟩ | hclosed
    · rcases List.mem_cons.mp hmem with rfl | hmem
      · exact .inr (Die.closed_closeEntry e p r d hr howns)
      · exact .inl ⟨hmem, howns⟩
    · exact .inr (hkeep q d hclosed)

/-- Closing entries leaves the tiles, the engines, the loads and the quarters' states. -/
theorem Die.closeEntries_frame (e : Nat) (l : List Nat) (d : Die) :
    let f := l.foldl (fun d p => d.closeEntry e p) d
    f.tiles = d.tiles ∧ f.eng = d.eng ∧ f.loads = d.loads ∧ f.get R.ENG_STATUS_QSTATE e = d.get R.ENG_STATUS_QSTATE e := by
  induction l generalizing d with
  | nil => exact ⟨rfl, rfl, rfl, rfl⟩
  | cons p l ih =>
    obtain ⟨h1, h2, h3, h4⟩ := ih (d.closeEntry e p)
    exact ⟨h1, h2, h3, h4.trans (Die.get_put_apart _ _ _ _ _ (by decide))⟩

/-- BUSY leaves the quarters' states. -/
theorem Die.qstate_setBusy (e q : Nat) (d : Die) : (d.setBusy e).qstate e q = d.qstate e q := by
  unfold Die.qstate Die.setBusy Die.flag
  rw [Die.get_put_apart _ _ _ _ _ (by decide)]

/-- QUIESCE (R144). -/
theorem Die.quiesce_closes (e w : Nat) {d f : Die} (h : Die.EngControlSet e w d f) :
    (∀ q p r, q ∈ bitsOf (bits w 0 4) 4 → d.quarterOwner e q = some p → r < 4 → d.ownsQuarter p e r = true → KMap.get false (f.quiesce e).closed (e * 4 + r) = true)
      ∧ (f.quiesce e).tiles = d.tiles ∧ (f.quiesce e).eng = d.eng ∧ (f.quiesce e).loads = d.loads ∧ ∀ q, (f.quiesce e).qstate e q = d.qstate e q := by
  have howns (p r : Nat) : f.ownsQuarter p e r = d.ownsQuarter p e r := by rw [Die.ownsQuarter, Die.grant, h.frame]; rfl
  have howner (q : Nat) : f.quarterOwner e q = d.quarterOwner e q := by
    unfold Die.quarterOwner
    simp only [howns]
  unfold Die.quiesce
  simp only [h.quarters]
  generalize hl : ((bitsOf (bits w 0 4) 4).filterMap (f.quarterOwner e)).eraseDups = l
  obtain ⟨h1, h2, h3, h4⟩ := f.closeEntries_frame e l
  refine ⟨fun q p r hq hp hr ho => ?_, h1.trans (by rw [h.frame]), h2.trans (by rw [h.frame]), h3.trans (by rw [h.frame]), fun q => ?_⟩
  · refine Die.closeEntries_closed e p r hr l f (.inl ⟨?_, by rw [howns]; exact ho⟩)
    rw [← hl, List.mem_eraseDups, List.mem_filterMap]
    exact ⟨q, hq, by rw [howner]; exact hp⟩
  · rw [Die.qstate_setBusy, Die.qstate, h4]
    exact h.qstate q

/-- One quarter's load begins (R142, R143). -/
def Die.beginLoad (e scope : Nat) (d : Die) (q : Nat) : Die :=
  let d := match d.quarterOwner e q with | some p => d.calEnd p | none => d
  { d.setQ e q 1 with loads := KMap.set (0, 0, 0) d.loads (e * 4 + q) (1, scope, 0) }

/-- An end of calibration leaves the tiles, the loads and the quarters. -/
theorem Die.calEnd_frame (e p : Nat) (d : Die) (he : e < 8) :
    (d.calEnd p).tiles = d.tiles ∧ (d.calEnd p).loads = d.loads ∧ (d.calEnd p).stopped = d.stopped ∧ d.sameGates e (d.calEnd p) := by
  unfold Die.calEnd
  split
  · exact ⟨rfl, rfl, rfl, rfl, rfl⟩
  · have hput := (Die.sameGates_putFab e p R.FAB_CAL_STATUS_PHASE 0 d he rfl).trans (Die.sameGates_putFab e p R.FAB_CAL_STATUS_RESULT 7 _ he rfl)
    exact ⟨rfl, rfl, rfl, hput.1, hput.2⟩

theorem Die.beginLoad_one (e scope q : Nat) (d : Die) (he : e < 8) (hq : q < 4) :
    let f := Die.beginLoad e scope d q
    f.tiles = d.tiles ∧ (∀ r, r < 4 → f.qstate e r = if r = q then 1 else d.qstate e r) ∧ f.loads = KMap.set (0, 0, 0) d.loads (e * 4 + q) (1, scope, 0) := by
  unfold Die.beginLoad
  have hend : ∀ p, (d.calEnd p).tiles = d.tiles ∧ (d.calEnd p).loads = d.loads ∧ ∀ r, (d.calEnd p).qstate e r = d.qstate e r := by
    intro p
    obtain ⟨h1, h2, -, h3⟩ := d.calEnd_frame e p he
    exact ⟨h1, h2, h3.qstate⟩
  generalize hd : (match d.quarterOwner e q with | some p => d.calEnd p | none => d) = d1
  have h1 : d1.tiles = d.tiles ∧ d1.loads = d.loads ∧ ∀ r, d1.qstate e r = d.qstate e r := by
    rw [← hd]
    split
    · exact hend _
    · exact ⟨rfl, rfl, fun _ => rfl⟩
  obtain ⟨h1, h2, h3⟩ := h1
  refine ⟨h1, fun r hr => ?_, by dsimp only; rw [h2]⟩
  exact (Die.qstate_setQ d1 e q r 1 hq hr (by decide)).trans (by rw [h3])

/-- The loads of several quarters begin. -/
theorem Die.beginLoad_each (e scope : Nat) (he : e < 8) (l : List Nat) (hl : ∀ q ∈ l, q < 4) (d : Die) :
    let f := l.foldl (Die.beginLoad e scope) d
    f.tiles = d.tiles ∧ (∀ r, r < 4 → f.qstate e r = if r ∈ l then 1 else d.qstate e r)
      ∧ ∀ r, KMap.get (0, 0, 0) f.loads (e * 4 + r) = if r ∈ l then (1, scope, 0) else KMap.get (0, 0, 0) d.loads (e * 4 + r) := by
  induction l generalizing d with
  | nil => exact ⟨rfl, fun r _ => by simp, fun r => by simp⟩
  | cons q l ih =>
    rw [List.foldl_cons]
    obtain ⟨h1, h2, h3⟩ := Die.beginLoad_one e scope q d he (hl q List.mem_cons_self)
    obtain ⟨g1, g2, g3⟩ := ih (fun r hr => hl r (List.mem_cons_of_mem _ hr)) (Die.beginLoad e scope d q)
    refine ⟨g1.trans h1, fun r hr => ?_, fun r => ?_⟩
    · rw [g2 r hr, h2 r hr]
      by_cases hrl : r ∈ l <;> by_cases hrq : r = q <;> simp [hrl, hrq]
    · rw [g3 r, h3]
      by_cases hrl : r ∈ l
      · simp [hrl]
      · by_cases hrq : r = q
        · subst hrq
          simp
        · rw [KMap.get_set_other _ _ _ _ _ (by omega)]
          simp [hrl, hrq]

/-- The quarters of a command whose clock runs (R623). -/
def Die.clocked (d : Die) (e w : Nat) : List Nat := (bitsOf (bits w 0 4) 4).filter (fun q => !(KMap.get false d.stopped (e * 4 + q)))

theorem Die.clocked_lt {d : Die} {e w q : Nat} (h : q ∈ d.clocked e w) : q < 4 := by
  unfold Die.clocked bitsOf at h
  exact List.mem_range.mp (List.mem_of_mem_filter (List.mem_of_mem_filter h))

theorem Die.EngControlSet.selected {e w : Nat} {d f : Die} (h : Die.EngControlSet e w d f) : f.selected e = d.clocked e w := by
  unfold Die.selected Die.clocked
  rw [h.quarters, show f.stopped = d.stopped by rw [h.frame]]

theorem Die.EngControlSet.owner {e w : Nat} {d f : Die} (h : Die.EngControlSet e w d f) (q : Nat) :
    f.quarterOwner e q = d.quarterOwner e q ∧ f.image = d.image := by
  rw [h.frame]
  exact ⟨rfl, rfl⟩

theorem Die.EngControlSet.loadable {e w : Nat} {d f : Die} (h : Die.EngControlSet e w d f) (q : Nat) : f.loadable e q = d.loadable e q := by
  unfold Die.loadable
  rw [h.qstate, (h.owner q).1, (h.owner q).2]

/-- LOAD (R142, R143, R146, R152). -/
theorem Die.startLoad_loads (e w : Nat) (he : e < 8) {d f : Die} (h : Die.EngControlSet e w d f) :
    ((∃ q ∈ d.clocked e w, d.qstate e q = 1 ∨ d.qstate e q = 2) →
        (f.startLoad e).get R.ENG_STATUS_LOAD_RESULT e = 1 ∧ (f.startLoad e).loads = d.loads ∧ (f.startLoad e).tiles = d.tiles)
    ∧ ((∀ q ∈ d.clocked e w, d.qstate e q ≠ 1 ∧ d.qstate e q ≠ 2) → (∃ q ∈ d.clocked e w, d.loadable e q = false) →
        (f.startLoad e).get R.ENG_STATUS_LOAD_RESULT e = 2 ∧ (f.startLoad e).loads = d.loads ∧ (f.startLoad e).tiles = d.tiles)
    ∧ ((∀ q ∈ d.clocked e w, d.qstate e q ≠ 1 ∧ d.qstate e q ≠ 2 ∧ d.loadable e q = true) →
        (f.startLoad e).tiles = d.tiles
        ∧ (∀ q ∈ d.clocked e w, (f.startLoad e).qstate e q = 1
            ∧ KMap.get (0, 0, 0) (f.startLoad e).loads (e * 4 + q) = (1, (if bits w 4 2 ≤ 2 then bits w 4 2 else d.get R.ENG_CONTROL_SCOPE e), 0))
        ∧ (∀ q, q < 4 → q ∉ d.clocked e w → (f.startLoad e).qstate e q = d.qstate e q)) := by
  have hbusy : (f.selected e).any (fun q => f.qstate e q == 1 || f.qstate e q == 2) = true ↔ ∃ q ∈ d.clocked e w, d.qstate e q = 1 ∨ d.qstate e q = 2 := by
    rw [h.selected, List.any_eq_true]
    simp only [h.qstate, Bool.or_eq_true, beq_iff_eq]
  have hlack : (f.selected e).any (fun q => !(f.loadable e q)) = true ↔ ∃ q ∈ d.clocked e w, d.loadable e q = false := by
    rw [h.selected, List.any_eq_true]
    simp only [h.loadable, Bool.not_eq_true']
  have hloads : f.loads = d.loads := by rw [h.frame]
  have htiles : f.tiles = d.tiles := by rw [h.frame]
  have hstart : f.startLoad e = if (f.selected e).any (fun q => f.qstate e q == 1 || f.qstate e q == 2) then f.put R.ENG_STATUS_LOAD_RESULT e 1
      else if (f.selected e).any (fun q => !(f.loadable e q)) then f.put R.ENG_STATUS_LOAD_RESULT e 2
      else (((f.selected e).foldl (Die.beginLoad e (f.get R.ENG_CONTROL_SCOPE e)) f).askLoad ⟨e, (((f.selected e).filterMap (f.quarterOwner e)).eraseDups).filterMap
        (fun p => (f.image p).map (fun im => bankOf im (f.pasture p).attic e))⟩).setBusy e := rfl
  refine ⟨fun hb => ?_, fun hb hl => ?_, fun hgood => ?_⟩
  · rw [hstart, if_pos (hbusy.mpr hb)]
    exact ⟨(Die.get_put_same _ _ _ _).trans rfl, hloads, htiles⟩
  · rw [hstart, if_neg (fun hx => by obtain ⟨q, hq, hx⟩ := hbusy.mp hx; have := hb q hq; omega), if_pos (hlack.mpr hl)]
    exact ⟨(Die.get_put_same _ _ _ _).trans rfl, hloads, htiles⟩
  · rw [hstart, if_neg (fun hx => by obtain ⟨q, hq, hx⟩ := hbusy.mp hx; have := hgood q hq; omega),
      if_neg (fun hx => by obtain ⟨q, hq, hx⟩ := hlack.mp hx; rw [(hgood q hq).2.2] at hx; cases hx), h.selected, h.scope]
    obtain ⟨h1, h2, h3⟩ := Die.beginLoad_each e (if bits w 4 2 ≤ 2 then bits w 4 2 else d.get R.ENG_CONTROL_SCOPE e) he (d.clocked e w)
      (fun q hq => Die.clocked_lt hq) f
    generalize (d.clocked e w).foldl (Die.beginLoad e (if bits w 4 2 ≤ 2 then bits w 4 2 else d.get R.ENG_CONTROL_SCOPE e)) f = g at h1 h2 h3
    have hask (r : LoadReq) : ((g.askLoad r).setBusy e).tiles = g.tiles ∧ ((g.askLoad r).setBusy e).loads = g.loads
        ∧ ∀ q, ((g.askLoad r).setBusy e).qstate e q = g.qstate e q :=
      ⟨rfl, rfl, fun q => Die.qstate_setBusy e q (g.askLoad r)⟩
    obtain ⟨k1, k2, k3⟩ := hask ⟨e, (((d.clocked e w).filterMap (f.quarterOwner e)).eraseDups).filterMap
        (fun p => (f.image p).map (fun im => bankOf im (f.pasture p).attic e))⟩
    refine ⟨k1.trans (h1.trans htiles), fun q hq => ⟨?_, ?_⟩, fun q hq hno => ?_⟩
    · rw [k3, h2 q (Die.clocked_lt hq), if_pos hq]
    · rw [k2, h3, if_pos hq]
    · rw [k3, h2 q hq, if_neg hno, h.qstate]

/-- Entries opened (R152). -/
theorem Die.openEntries (e : Nat) (l : List Nat) (hl : ∀ q ∈ l, q < 4) (d : Die) :
    let f := l.foldl (fun d q => d.openEntry e q) d
    (∀ r, r < 4 → f.qstate e r = if r ∈ l then 2 else d.qstate e r) ∧ (∀ r ∈ l, KMap.get false f.closed (e * 4 + r) = false) := by
  have hkeep (r : Nat) (l : List Nat) (d : Die) (h : KMap.get false d.closed (e * 4 + r) = false) :
      KMap.get false (l.foldl (fun d q => d.openEntry e q) d).closed (e * 4 + r) = false := by
    induction l generalizing d with
    | nil => exact h
    | cons q l ih =>
      refine ih _ ?_
      have hset : (d.openEntry e q).closed = KMap.set false d.closed (e * 4 + q) false := rfl
      rw [hset]
      by_cases hq : e * 4 + r = e * 4 + q
      · rw [hq, KMap.get_set_same]
      · rw [KMap.get_set_other _ _ _ _ _ hq]; exact h
  induction l generalizing d with
  | nil => exact ⟨fun r _ => by simp, fun r hr => by cases hr⟩
  | cons q l ih =>
    obtain ⟨g1, g2⟩ := ih (fun r hr => hl r (List.mem_cons_of_mem _ hr)) (d.openEntry e q)
    refine ⟨fun r hr => ?_, fun r hr => ?_⟩
    · rw [List.foldl_cons, g1 r hr, show (d.openEntry e q).qstate e r = (d.setQ e q 2).qstate e r from rfl,
        Die.qstate_setQ d e q r 2 (hl q List.mem_cons_self) hr (by decide)]
      by_cases hrl : r ∈ l <;> by_cases hrq : r = q <;> simp [hrl, hrq]
    · rw [List.foldl_cons]
      rcases List.mem_cons.mp hr with rfl | hr
      · exact hkeep r l _ (by rw [show (d.openEntry e r).closed = KMap.set false d.closed (e * 4 + r) false from rfl, KMap.get_set_same])
      · exact g2 r hr

/-- RESUME (R152, R250). -/
theorem Die.resume_opens (e w : Nat) (he : e < 8) {d f : Die} (h : Die.EngControlSet e w d f) :
    (∀ q ∈ d.clocked e w, d.qstate e q = 3 → d.loadable e q = true → (f.resume e).qstate e q = 2 ∧ KMap.get false (f.resume e).closed (e * 4 + q) = false)
      ∧ (∀ q, q < 4 → q ∉ d.clocked e w → (f.resume e).qstate e q = d.qstate e q) := by
  unfold Die.resume
  extract_lets sel ok open_ d1 ps
  have hopen (q : Nat) (hq : q ∈ open_) : q ∈ d.clocked e w := by
    rw [← h.selected]
    exact List.mem_of_mem_filter hq
  obtain ⟨h1, h2⟩ := Die.openEntries e open_ (fun q hq => Die.clocked_lt (hopen q hq)) f
  have hps : ∀ p ∈ ps, p < 64 := by
    intro p hp
    rw [List.mem_eraseDups, List.mem_filterMap] at hp
    obtain ⟨q, -, hq⟩ := hp
    exact Die.lt_of_quarterOwner hq
  have hgates (l : List Nat) (hl : ∀ p ∈ l, p < 64) (g : Die) : g.sameGates e (l.foldl (fun d p => match d.image p with
      | none => d
      | some im => if d.entryOpen e p then d.resumePas e p im else d) g) := by
    induction l generalizing g with
    | nil => exact Die.sameGates_refl e g
    | cons p l ih =>
      rw [List.foldl_cons]
      refine Die.sameGates.trans ?_ (ih (fun q hq => hl q (List.mem_cons_of_mem _ hq)) _)
      split
      · exact Die.sameGates_refl e g
      · split
        · exact Die.sameGates_resumePas e e p _ g he (hl p List.mem_cons_self)
        · exact Die.sameGates_refl e g
  have hall := hgates ps hps d1
  generalize ps.foldl _ d1 = g at hall ⊢
  have hclosed : (g.setBusy e).closed = d1.closed := hall.1
  have hqstate (q : Nat) : (g.setBusy e).qstate e q = d1.qstate e q := (Die.qstate_setBusy e q g).trans (hall.qstate q)
  refine ⟨fun q hq h3 hload => ?_, fun q hq hno => ?_⟩
  · have hin : q ∈ open_ := by
      refine List.mem_filter.mpr ⟨by rw [show sel = d.clocked e w from h.selected]; exact hq, ?_⟩
      have hf : f.qstate e q = 3 := (h.qstate q).trans h3
      have himage := h.loadable q
      rw [hload] at himage
      unfold Die.loadable at himage
      rw [Bool.and_eq_true] at himage
      simp only [ok, hf, beq_self_eq_true, Bool.true_or, Bool.true_and]
      exact himage.2
    exact ⟨(hqstate q).trans ((h1 q (Die.clocked_lt hq)).trans (if_pos hin)), by rw [hclosed]; exact h2 q hin⟩
  · rw [hqstate, h1 q hq, if_neg (fun hx => hno (hopen q hx)), h.qstate]

/-- STAGE of ENG_RETIRE (R139, R152). -/
theorem retireStage_stages (s : State) (src : Source) (i : Nat) (w : Word) (hi : i < 8) (ha : s.admits src .ENG i 0x014) (hstage : bit w.toNat 31 = true) :
    s.completes (.retireStage src i w) (fun t => t = { s with die := { s.die with regs := t.die.regs, staged := t.die.staged } }
      ∧ (s.die.leftOut s.fused i (bits w.toNat 8 4) < 24 → t.die.get R.ENG_STATUS_RETIRE_RESULT i = 1 ∧ t.die.staged = s.die.staged)
      ∧ (s.die.leftOut s.fused i (bits w.toNat 8 4) ≥ 24 → 23 < bits w.toNat 0 5 → t.die.get R.ENG_STATUS_RETIRE_RESULT i = 2 ∧ t.die.staged = s.die.staged)
      ∧ (s.die.leftOut s.fused i (bits w.toNat 8 4) ≥ 24 → bits w.toNat 0 5 ≤ 23 → t.die.get R.ENG_STATUS_RETIRE_RESULT i = 0
          ∧ (i, bits w.toNat 8 4, bits w.toNat 0 5) ∈ t.die.staged
          ∧ ∀ x, x ∈ s.die.staged → (x.1 ≠ i ∨ x.2.1 ≠ bits w.toNat 8 4) → x ∈ t.die.staged)) := by
  refine State.completes_dieCmd (f := fun s => writeDie src (blockAddr .ENG i 0x014) (engRetireW s.fused i w.toNat) s) rfl (decide_eq_true hi) ?_
  rw [writeDie_admitted ha]
  have hframe := Die.setFields_regs .ENG i 0x014 w.toNat s.die
  have hrow : (s.die.setFields .ENG i 0x014 w.toNat).get R.ENG_RETIRE_ROW i = bits w.toNat 8 4 :=
    (Die.get_setFields_rw .ENG i 0x014 w.toNat s.die ⟨R.ENG_RETIRE_ROW, any⟩ (by simp [fieldsAt, Block.regs, regsENG]) rfl).trans (if_pos rfl)
  have hcol : (s.die.setFields .ENG i 0x014 w.toNat).get R.ENG_RETIRE_COLUMN i = bits w.toNat 0 5 :=
    (Die.get_setFields_rw .ENG i 0x014 w.toNat s.die ⟨R.ENG_RETIRE_COLUMN, any⟩ (by simp [fieldsAt, Block.regs, regsENG]) rfl).trans (if_pos rfl)
  unfold engRetireW
  simp only [hstage, if_true, hrow, hcol]
  generalize s.die.setFields .ENG i 0x014 w.toNat = f at hframe
  have hleft : f.leftOut s.fused i (bits w.toNat 8 4) = s.die.leftOut s.fused i (bits w.toNat 8 4) := by rw [hframe]; rfl
  have hstaged : f.staged = s.die.staged := by rw [hframe]
  have hresult (v : Nat) (hv : v < 4) : (f.put R.ENG_STATUS_RETIRE_RESULT i v).get R.ENG_STATUS_RETIRE_RESULT i = v :=
    (Die.get_put_same _ _ _ _).trans (Nat.mod_eq_of_lt hv)
  rw [hleft]
  by_cases hspare : s.die.leftOut s.fused i (bits w.toNat 8 4) < 24
  · rw [if_pos hspare]
    exact ⟨by rw [hframe]; rfl, fun _ => ⟨hresult 1 (by decide), hstaged⟩, fun h => by omega, fun h => by omega⟩
  rw [if_neg hspare]
  by_cases hc : 23 < bits w.toNat 0 5
  · rw [if_pos hc]
    exact ⟨by rw [hframe]; rfl, fun h => absurd h hspare, fun _ _ => ⟨hresult 2 (by decide), hstaged⟩, fun _ h => by omega⟩
  rw [if_neg hc]
  refine ⟨by rw [hframe]; rfl, fun h => absurd h hspare, fun _ h => absurd h hc, fun _ _ => ⟨hresult 0 (by decide), ?_, fun x hx hne => ?_⟩⟩
  · exact List.mem_append_right _ List.mem_cons_self
  · refine List.mem_append_left _ (List.mem_filter.mpr ⟨by rw [← hstaged] at hx; exact hx, ?_⟩)
    rcases hne with h | h <;> simp [h]

/-- FAB_BALANCE (R148, R151, R153). -/
theorem policyWrite_takes (s : State) (src : Source) (i : Nat) (w : Word) (hi : i < 64) (ha : s.admits src .FAB i 0x010)
    (hlock : s.die.on (pageLock (blockAddr .FAB i 0)) = false) :
    let v := w.toNat % 4
    let allowed : Prop := ∃ im, s.die.image i = some im ∧ im.shape = 1 ∧ (v = 0 ∨ v = 3 ∨ im.upd = none)
    s.completes (.policyWrite src i w) (fun t => t = { s with die := { s.die with regs := t.die.regs } }
      ∧ (v = 3 → allowed → t.die.regs = s.die.regs) ∧ (v ≠ 3 → allowed → t.die.get R.FAB_BALANCE_POLICY i = v
          ∧ t.die.get R.FAB_STATUS_POLICY_REFUSED i = s.die.get R.FAB_STATUS_POLICY_REFUSED i)
      ∧ (¬ allowed → t.die.get R.FAB_BALANCE_POLICY i = 0 ∧ t.die.on R.FAB_STATUS_POLICY_REFUSED i = true)) := by
  intro v allowed
  have hv : v < 4 := Nat.mod_lt _ (by decide)
  refine State.completes_dieCmd (f := writeDie src (blockAddr .FAB i 0x010) (fabBalanceW i w.toNat)) rfl (decide_eq_true hi) ?_
  rw [writeDie_admitted ha]
  have hcase : ((match s.die.image i with | some im => im.shape != 1 | none => true)
      || ((match s.die.image i with | some im => im.upd.isSome | none => false) && (v == 1 || v == 2))) = true ↔ ¬ allowed := by
    cases him : s.die.image i with
    | none => simp [allowed, him]
    | some im =>
      have hup : im.upd.isSome = true ↔ im.upd ≠ none := Option.isSome_iff_ne_none
      simp only [allowed, him, Option.some.injEq, exists_eq_left', Bool.or_eq_true, Bool.and_eq_true, bne_iff_ne, beq_iff_eq, hup]
      constructor
      · rintro (h | ⟨h1, h2⟩) ⟨h3, h4⟩
        · exact h h3
        · rcases h4 with h4 | h4 | h4
          · omega
          · omega
          · exact h1 h4
      · intro h
        by_cases hs : im.shape = 1
        · refine .inr ⟨fun hn => h ⟨hs, .inr (.inr hn)⟩, ?_⟩
          by_contra hne
          exact h ⟨hs, by omega⟩
        · exact .inl hs
  have hw : fabBalanceW i w.toNat s.die = if ((match s.die.image i with | some im => im.shape != 1 | none => true)
      || ((match s.die.image i with | some im => im.upd.isSome | none => false) && (v == 1 || v == 2))) = true
      then (s.die.put R.FAB_BALANCE_POLICY i 0).flag R.FAB_STATUS_POLICY_REFUSED i true
      else if v = 3 then s.die else s.die.put R.FAB_BALANCE_POLICY i v := by
    unfold fabBalanceW
    rw [if_neg (by rw [hlock]; decide)] <;> rfl
  rw [hw]
  by_cases hall : allowed
  · rw [if_neg (fun h => (hcase.mp h) hall)]
    by_cases h3 : v = 3
    · rw [if_pos h3]
      exact ⟨rfl, fun _ _ => rfl, fun h => absurd h3 h, fun h => absurd hall h⟩
    · rw [if_neg h3]
      exact ⟨rfl, fun h => absurd h h3, fun _ _ => ⟨(Die.get_put_same _ _ _ _).trans (Nat.mod_eq_of_lt hv), Die.get_put_apart _ _ _ _ _ (by decide)⟩,
        fun h => absurd hall h⟩
  · rw [if_pos (hcase.mpr hall)]
    refine ⟨rfl, fun _ h => absurd h hall, fun _ h => absurd h hall, fun _ => ⟨?_, ?_⟩⟩
    · exact (Die.get_put_apart _ _ _ _ _ (by decide)).trans (Die.get_put_same _ _ _ _)
    · rw [Die.on, Die.flag, Die.get_put_same]
      rfl

/-- Settles O19: ENG_CONTROL by its three commands, ENG_RETIRE and FAB_BALANCE by what their values allow. -/
theorem engineWritten : Obligations.EngineWritten := by
  unfold Obligations.EngineWritten
  refine ⟨fun s src e w he ha hmuster => ?_, fun s src i w => ⟨fun hi ha hstage => retireStage_stages s src i w hi ha hstage,
    fun hi ha hlock => policyWrite_takes s src i w hi ha hlock⟩⟩
  intro chosen sel scope loaded
  obtain ⟨hquiesce, hload, hresume⟩ := engControlW_performed e w.toNat s.die hmuster
  have hset := s.die.engControlSet e w.toNat
  generalize s.die.setFields .ENG e 0x010 w.toNat = f at hquiesce hload hresume hset
  have hdone {c : Instr} (hc : exec c s = dieCmd (decide (e < 8)) (writeDie src (blockAddr .ENG e 0x010) (engControlW e w.toNat)) s) {P : State → Prop}
      (h : P { s with die := engControlW e w.toNat s.die }) : s.completes c P := by
    refine State.completes_dieCmd hc (decide_eq_true he) ?_
    rw [writeDie_admitted ha]
    exact h
  refine ⟨fun h8 => hdone rfl ?_, fun h8 h9 => ⟨fun hbusy => hdone rfl ?_, fun hfree hlack => hdone rfl ?_, fun hgood => hdone rfl ?_⟩,
    fun h8 h9 h10 => hdone rfl ?_⟩
  · rw [hquiesce h8]
    exact ⟨rfl, Die.quiesce_closes e w.toNat hset⟩
  · rw [hload h8 h9]
    exact ⟨rfl, (Die.startLoad_loads e w.toNat he hset).1 hbusy⟩
  · rw [hload h8 h9]
    exact ⟨rfl, (Die.startLoad_loads e w.toNat he hset).2.1 hfree hlack⟩
  · rw [hload h8 h9]
    exact ⟨rfl, (Die.startLoad_loads e w.toNat he hset).2.2 hgood⟩
  · rw [hresume h8 h9 h10]
    exact ⟨rfl, Die.resume_opens e w.toNat he hset⟩

end Sys2Proof.Machine
end

section
/-! SUPPORT. TB1 to TB7: rates, slew bounds and steps (R370 to R373, R376, R407). -/

namespace Sys2Proof.Machine

/-- A register's write leaves in a field what the field's own write leaves there, on a state with the field and the other words as they were
(R15, R17). -/
theorem Die.get_setFields_write (b : Block) (i off w : Nat) (d : Die) (x : WField) (hx : x ∈ fieldsAt b off) :
    ∃ e : Die, e.get x.fld i = d.get x.fld i ∧ (∀ (g : Fld) (j : Nat), g.key j / 32 ≠ blockAddr b i off → e.get g j = d.get g j)
      ∧ (d.setFields b i off w).get x.fld i = (x.write i (e.on (pageLock (blockAddr b i 0))) w e).get x.fld i := by
  have hnodup := (fieldsAt_inOrder b off).2
  have hplace := (fieldsAt_inOrder b off).1
  have hword (y : WField) (hy : y ∈ fieldsAt b off) := fieldsAt_word hy i
  unfold Die.setFields
  obtain ⟨l1, l2, hl⟩ := List.append_of_mem hx
  rw [hl] at hnodup hplace hword ⊢
  obtain ⟨h1, h2, h3⟩ := hplace x (by simp)
  have hkey (y : WField) (hy : y ∈ l1 ++ l2) : x.fld.key i ≠ y.fld.key i := by
    obtain ⟨g1, g2, g3⟩ := hplace y (by simp only [List.mem_append, List.mem_cons] at hy ⊢; tauto)
    intro hk
    have hlo : x.fld.lo = y.fld.lo := by
      simp only [Fld.key, h1, h2, g1, g2] at hk
      omega
    simp only [List.map_append, List.map_cons] at hnodup
    rw [List.nodup_middle, List.nodup_cons, ← List.map_append] at hnodup
    exact hnodup.1 (hlo ▸ List.mem_map_of_mem hy)
  refine ⟨l1.foldl (fun d y => y.write i (d.on (pageLock (blockAddr b i 0))) w d) d, ?_, fun g j hg => ?_, ?_⟩
  · exact Die.get_writes_other l1 i w (fun d => d.on (pageLock (blockAddr b i 0))) x.fld i (fun y hy => hkey y (List.mem_append_left _ hy)) d
  · refine Die.get_writes_other l1 i w (fun d => d.on (pageLock (blockAddr b i 0))) g j (fun y hy hk => hg ?_) d
    rw [hk, hword y (by simp [hy])]
  · rw [List.foldl_append, List.foldl_cons, Die.get_writes_other _ _ _ _ _ _ (fun y hy => hkey y (List.mem_append_right _ hy))]

/-- A one-bit field that a write of 1 sets is 1 after such a write. -/
theorem Die.on_setFields_w1s (b : Block) (i off w : Nat) (d : Die) (x : WField) (hx : x ∈ fieldsAt b off) (hacc : x.fld.acc = .w1s) (hwidth : x.fld.width = 1)
    (hw : bit w x.fld.lo = true) : (d.setFields b i off w).on x.fld i = true := by
  obtain ⟨e, -, -, he⟩ := d.get_setFields_write b i off w x hx
  have hbits : bits w x.fld.lo x.fld.width = 1 := by
    unfold bit at hw
    rw [hwidth]
    simpa [bits] using hw
  unfold Die.on
  rw [he, WField.write, hacc]
  dsimp only
  rw [Die.get_put_same, hwidth, ← hwidth, hbits, hwidth]
  have hodd : (e.get x.fld i ||| 1) % 2 = 1 := by simp
  exact decide_eq_true hodd

/-- A change of a time base. -/
theorem Die.tb_updTbs_same (n : Nat) (f : TimeBase → TimeBase) (d : Die) : ({ d with tbs := KMap.upd {} d.tbs n f } : Die).tb n = f (d.tb n) := by
  dsimp only [Die.tb]
  exact KMap.get_upd_same _ _ _ _

theorem Die.tb_updTbs_other (n m : Nat) (f : TimeBase → TimeBase) (d : Die) (h : m ≠ n) : ({ d with tbs := KMap.upd {} d.tbs n f } : Die).tb m = d.tb m := by
  dsimp only [Die.tb]
  exact KMap.get_upd_other _ _ _ _ _ h

@[simp] theorem Die.tb_tbBreak_same (n v : Nat) (a : Int) (on : Bool) (d : Die) :
    (d.tbBreak n v a on).tb n = { d.tb n with segs := ⟨d.fc, v, a, on⟩ :: (d.tb n).segs } := Die.tb_updTbs_same n _ d

theorem Die.tb_tbBreak_other (n m v : Nat) (a : Int) (on : Bool) (d : Die) (h : m ≠ n) : (d.tbBreak n v a on).tb m = d.tb m :=
  Die.tb_updTbs_other n m _ d h

/-- A field write leaves the time bases. -/
@[simp] theorem Die.tb_put (f : Fld) (i v m : Nat) (d : Die) : (d.put f i v).tb m = d.tb m := rfl
@[simp] theorem Die.tb_flag (f : Fld) (i m : Nat) (v : Bool) (d : Die) : (d.flag f i v).tb m = d.tb m := rfl
@[simp] theorem Die.get_tbBreak (n v : Nat) (a : Int) (on : Bool) (d : Die) (f : Fld) (i : Nat) : (d.tbBreak n v a on).get f i = d.get f i := rfl
@[simp] theorem Die.on_tbBreak (n v : Nat) (a : Int) (on : Bool) (d : Die) (f : Fld) (i : Nat) : (d.tbBreak n v a on).on f i = d.on f i := rfl

/-- A count leaves the time bases. -/
@[simp] theorem Die.tb_count (t : Tal) (i m : Nat) (d : Die) : (d.count t i).tb m = d.tb m := by
  unfold Die.tb
  rw [(congrArg Die.tbs (d.report_count t i).1).trans rfl]

@[simp] theorem Die.tb_setFields (b : Block) (i off w m : Nat) (d : Die) : (d.setFields b i off w).tb m = d.tb m := by
  rw [Die.setFields_regs]
  rfl

@[simp] theorem Die.fc_tbBreak (n v : Nat) (a : Int) (on : Bool) (d : Die) : (d.tbBreak n v a on).fc = d.fc := rfl
@[simp] theorem Die.fc_setFields (b : Block) (i off w : Nat) (d : Die) : (d.setFields b i off w).fc = d.fc := by
  rw [Die.setFields_regs]

/-- A count leaves the registers of the time bases' pages. -/
theorem Die.get_count_tb (t : Tal) (i n : Nat) (d : Die) (f : Fld) (hb : f.base = 0x10000) (hlo : f.lo < 32) (ho : f.off < 0x1000) (hn : n ≤ 7) :
    (d.count t i).get f n = d.get f n := by
  refine (d.report_count t i).get f n ?_
  have : f.key n / 32 = 0x10000 + n * 0x1000 + f.off := by simp only [Fld.key, hb]; omega
  rw [this]
  simp only [reportWord, Bool.or_eq_false_iff, Bool.and_eq_false_iff, beq_eq_false_iff_ne, decide_eq_false_iff_not]
  omega

/-- What a rate word put in force leaves (R371). -/
structure Die.RateSet (n : Nat) (v : Int) (d f : Die) : Prop where
  others : ∀ m, m ≠ n → f.tb m = d.tb m
  fc : f.fc = d.fc
  base : f.tb n = { d.tb n with segs := ⟨d.fc, (d.tb n).at d.fc, clampTo (slewLimit (d.get R.TB_CONTROL_SLEW n)) v, d.on R.TB_CONTROL_ENABLE n⟩ :: (d.tb n).segs }
  word : f.get R.TB_ADJ_ADJ n = low (clampTo (slewLimit (d.get R.TB_CONTROL_SLEW n)) v) 32
  control : ∀ g : Fld, g.base = 0x10000 → g.off = 0x10 → g.lo < 32 → f.get g n = d.get g n
  running : f.get R.TB_STATUS_RUNNING n = d.get R.TB_STATUS_RUNNING n
  clamped : clampTo (slewLimit (d.get R.TB_CONTROL_SLEW n)) v ≠ v → f.on R.TB_STATUS_SLEW_CLAMPED n = true
    ∧ f.tally T.TB_SLEW_CLAMP n = tallyAdd (d.tally T.TB_SLEW_CLAMP n) 1
  inBound : clampTo (slewLimit (d.get R.TB_CONTROL_SLEW n)) v = v → f.tallies = d.tallies

theorem low_lt (v : Int) (w : Nat) : low v w < 2 ^ w := by
  have h := Int.emod_lt_of_pos v (show (0 : Int) < (2 : Int) ^ w by positivity)
  have h0 := Int.emod_nonneg v (show ((2 : Int) ^ w) ≠ 0 by positivity)
  unfold low
  zify
  rw [Int.toNat_of_nonneg h0]
  exact h

theorem Die.setAdj_sets (n : Nat) (v : Int) (d : Die) (hn : n ≤ 7) : Die.RateSet n v d (d.setAdj n v) := by
  have hput (g : Fld) (h : (g.base + g.off) * 32 + g.lo ≠ (R.TB_ADJ_ADJ.base + R.TB_ADJ_ADJ.off) * 32 + R.TB_ADJ_ADJ.lo) (x : Nat) (e : Die) :
      (e.put R.TB_ADJ_ADJ n x).get g n = e.get g n := Die.get_put_apart _ _ _ _ _ h
  have hword : low (clampTo (slewLimit (d.get R.TB_CONTROL_SLEW n)) v) 32 % 2 ^ R.TB_ADJ_ADJ.width = low (clampTo (slewLimit (d.get R.TB_CONTROL_SLEW n)) v) 32 :=
    Nat.mod_eq_of_lt (low_lt _ 32)
  have htally : loftTally (T.TB_SLEW_CLAMP.key n) = false := loftTally_false (by simp only [Tal.key, T.TB_SLEW_CLAMP]; omega)
  unfold Die.setAdj
  dsimp only
  split
  case isTrue h =>
    exact { others := fun m hm => by rw [Die.tb_put, Die.tb_tbBreak_other _ _ _ _ _ _ hm]
            fc := rfl
            base := by rw [Die.tb_put, Die.tb_tbBreak_same]
            word := by rw [Die.get_put_same, hword]
            control := fun g hb ho hlo => by
              rw [hput g (by simp only [hb, ho, R.TB_ADJ_ADJ]; omega), Die.get_tbBreak]
            running := by rw [hput _ (by decide), Die.get_tbBreak]
            clamped := fun hne => absurd h hne
            inBound := fun _ => rfl }
  case isFalse h =>
    exact { others := fun m hm => by rw [Die.tb_count, Die.tb_flag, Die.tb_put, Die.tb_tbBreak_other _ _ _ _ _ _ hm]
            fc := (congrArg Die.fc (Die.report_count _ _ _).1).trans rfl
            base := by rw [Die.tb_count, Die.tb_flag, Die.tb_put, Die.tb_tbBreak_same]
            word := by
              rw [Die.get_count_tb _ _ _ _ _ rfl (by decide) (by decide) hn, Die.flag, Die.get_put_apart _ _ _ _ _ (by decide), Die.get_put_same, hword]
            control := fun g hb ho hlo => by
              rw [Die.get_count_tb _ _ _ _ _ hb hlo (by omega) hn, Die.flag, Die.get_put_apart _ _ _ _ _ (by simp only [hb, ho, R.TB_STATUS_SLEW_CLAMPED]; omega),
                hput g (by simp only [hb, ho, R.TB_ADJ_ADJ]; omega), Die.get_tbBreak]
            running := by
              rw [Die.get_count_tb _ _ _ _ _ rfl (by decide) (by decide) hn, Die.flag, Die.get_put_apart _ _ _ _ _ (by decide), hput _ (by decide), Die.get_tbBreak]
            clamped := fun _ => ⟨by
              rw [Die.on, Die.get_count_tb _ _ _ _ _ rfl (by decide) (by decide) hn, Die.flag, Die.get_put_same]
              rfl, Die.tally_count_same _ _ _ htally⟩
            inBound := fun he => absurd he h }

/-- A rate word within ± 2^31 stands in TB_ADJ as it is. -/
theorem sext_low (c : Int) (h1 : -(2 ^ 31) ≤ c) (h2 : c < 2 ^ 31) : sext (low c 32) 32 = c := by
  unfold sext low
  norm_num
  norm_num at h1 h2
  split <;> omega

/-- A slew bound is within the 32 bits of a rate word. -/
theorem slewLimit_lt (ppm : Nat) (h : ppm ≤ 500) : 0 ≤ slewLimit ppm ∧ slewLimit ppm < 2 ^ 31 := by
  unfold slewLimit
  refine ⟨Int.natCast_nonneg _, ?_⟩
  have : ppm * 2 ^ 40 / 10 ^ 6 ≤ 500 * 2 ^ 40 / 10 ^ 6 := Nat.div_le_div_right (Nat.mul_le_mul_right _ h)
  norm_num at this ⊢
  omega

/-- A step applied breaks the base's line at the present tick (R372). -/
theorem Die.applyStep_applies (n : Nat) (v : Int) (d : Die) (hn : n ≤ 7) :
    (∀ m, m ≠ n → (d.applyStep n v).tb m = d.tb m) ∧ (d.applyStep n v).fc = d.fc
    ∧ (d.applyStep n v).tb n = { d.tb n with segs := ⟨d.fc, tbWrap ((d.tb n).at d.fc + v * 2 ^ 24), d.adj n, d.on R.TB_CONTROL_ENABLE n⟩ :: (d.tb n).segs }
    ∧ (d.applyStep n v).tally T.TB_STEPS n = tallyAdd (d.tally T.TB_STEPS n) 1 := by
  unfold Die.applyStep
  refine ⟨fun m hm => ?_, (congrArg Die.fc (Die.report_count _ _ _).1).trans rfl, ?_, ?_⟩
  · rw [Die.tb_count, Die.tb_tbBreak_other _ _ _ _ _ _ hm]
  · rw [Die.tb_count, Die.tb_tbBreak_same]
  · exact Die.tally_count_same _ _ _ (loftTally_false (by simp only [Tal.key, T.TB_STEPS]; omega))

/-- Steps applied in order leave the other bases, and break the line once each. -/
theorem Die.applySteps_apply (n : Nat) (vs : List Int) (d : Die) (hn : n ≤ 7) :
    (∀ m, m ≠ n → (vs.foldl (fun d v => d.applyStep n v) d).tb m = d.tb m) ∧ (vs.foldl (fun d v => d.applyStep n v) d).fc = d.fc
    ∧ ((vs.foldl (fun d v => d.applyStep n v) d).tb n).steps = (d.tb n).steps
    ∧ ((vs.foldl (fun d v => d.applyStep n v) d).tb n).segs.length = (d.tb n).segs.length + vs.length := by
  induction vs generalizing d with
  | nil => exact ⟨fun _ _ => rfl, rfl, rfl, rfl⟩
  | cons v vs ih =>
    obtain ⟨hothers, hfc, hbase, -⟩ := d.applyStep_applies n v hn
    obtain ⟨iothers, ifc, isteps, isegs⟩ := ih (d.applyStep n v)
    rw [List.foldl_cons]
    refine ⟨fun m hm => (iothers m hm).trans (hothers m hm), ifc.trans hfc, isteps.trans (by rw [hbase]), isegs.trans ?_⟩
    rw [hbase]
    simp only [List.length_cons]
    omega

/-- TB_CONTROL's fields after a write of it, and all that it leaves. -/
structure Die.TbControlSet (n w : Nat) (d f : Die) : Prop where
  frame : f = { d with regs := f.regs }
  enable : f.on R.TB_CONTROL_ENABLE n = bit w 0
  auth : bit w 1 = true → f.on R.TB_CONTROL_AUTH n = true
  slew : f.get R.TB_CONTROL_SLEW n = if 1 ≤ bits w 4 9 ∧ bits w 4 9 ≤ 500 then bits w 4 9 else d.get R.TB_CONTROL_SLEW n
  jump : f.get R.TB_CONTROL_JUMP n = if bits w 16 16 = 0 then d.get R.TB_CONTROL_JUMP n else bits w 16 16
  adj : f.adj n = d.adj n

theorem bit_eq_bits (w i : Nat) : (bits w i 1 == 1) = bit w i := by
  unfold bits bit
  norm_num

theorem Die.tbControlSet (n w : Nat) (d : Die) : Die.TbControlSet n w d (d.setFields .TB n 0x010 w) where
  frame := Die.setFields_regs _ _ _ _ _
  enable := by
    rw [Die.on, (Die.get_setFields_rw .TB n 0x010 w d ⟨R.TB_CONTROL_ENABLE, any⟩ (by simp [fieldsAt, Block.regs, regsTB]) rfl).trans (if_pos rfl)]
    exact bit_eq_bits w 0
  auth h := Die.on_setFields_w1s .TB n 0x010 w d ⟨R.TB_CONTROL_AUTH, any⟩ (by simp [fieldsAt, Block.regs, regsTB]) rfl rfl h
  slew := by
    refine (Die.get_setFields_rw .TB n 0x010 w d ⟨R.TB_CONTROL_SLEW, fun v => 1 ≤ v && v ≤ 500⟩ (by simp [fieldsAt, Block.regs, regsTB]) rfl).trans ?_
    simp only [Bool.and_eq_true, decide_eq_true_eq]
    rfl
  jump := by
    refine (Die.get_setFields_rw .TB n 0x010 w d ⟨R.TB_CONTROL_JUMP, fun v => 1 ≤ v && v ≤ 65535⟩ (by simp [fieldsAt, Block.regs, regsTB]) rfl).trans ?_
    have hlt : bits w 16 16 < 65536 := Nat.mod_lt _ (by decide)
    simp only [Bool.and_eq_true, decide_eq_true_eq]
    change (if 1 ≤ bits w 16 16 ∧ bits w 16 16 ≤ 65535 then bits w 16 16 else _) = _
    by_cases h0 : bits w 16 16 = 0
    · rw [if_pos h0, if_neg (by omega)]
    · rw [if_neg h0, if_pos (by omega)]
  adj := by
    unfold Die.adj
    rw [Die.get_setFields_other]
    rw [blockAddr_eq]
    simp only [Fld.key, R.TB_ADJ_ADJ, show blockAddr .TB 0 0 = 0x10000 from rfl]
    omega

/-- A write of TB_CONTROL on a base, clause by clause (R370, R371, R372). -/
theorem tbControlW_sets (n w : Nat) (d : Die) (hn : n ≤ 7) :
    (∀ m, m ≠ n → (tbControlW n w d).tb m = d.tb m) ∧ (tbControlW n w d).fc = d.fc
    ∧ (tbControlW n w d).on R.TB_CONTROL_ENABLE n = bit w 0 ∧ (tbControlW n w d).on R.TB_STATUS_RUNNING n = bit w 0
    ∧ (bit w 1 = true → (tbControlW n w d).on R.TB_CONTROL_AUTH n = true)
    ∧ (tbControlW n w d).get R.TB_CONTROL_SLEW n = (if 1 ≤ bits w 4 9 ∧ bits w 4 9 ≤ 500 then bits w 4 9 else d.get R.TB_CONTROL_SLEW n)
    ∧ (tbControlW n w d).get R.TB_CONTROL_JUMP n = (if bits w 16 16 = 0 then d.get R.TB_CONTROL_JUMP n else bits w 16 16)
    ∧ (1 ≤ bits w 4 9 → bits w 4 9 ≤ 500 → (tbControlW n w d).adj n = clampTo (slewLimit (bits w 4 9)) (d.adj n))
    ∧ ((tbControlW n w d).tb n).steps = (d.tb n).steps := by
  have hset := d.tbControlSet n w
  have hs : ∀ m, (d.setFields .TB n 0x010 w).tb m = d.tb m := fun m => by simp
  have hfc : (d.setFields .TB n 0x010 w).fc = d.fc := by simp
  unfold tbControlW
  dsimp only
  generalize d.setFields .TB n 0x010 w = f at hset hs hfc
  set g := (f.tbBreak n ((f.tb n).at f.fc) (f.adj n) (f.on R.TB_CONTROL_ENABLE n)).flag R.TB_STATUS_RUNNING n (f.on R.TB_CONTROL_ENABLE n) with hg
  have hget (x : Fld) (hx : (x.base + x.off) * 32 + x.lo ≠ (R.TB_STATUS_RUNNING.base + R.TB_STATUS_RUNNING.off) * 32 + R.TB_STATUS_RUNNING.lo) :
      g.get x n = f.get x n := by
    rw [hg, Die.flag, Die.get_put_apart _ _ _ _ _ hx, Die.get_tbBreak]
  have hother (m : Nat) (hm : m ≠ n) : g.tb m = d.tb m := by rw [hg, Die.tb_flag, Die.tb_tbBreak_other _ _ _ _ _ _ hm, hs]
  have hsteps : (g.tb n).steps = (d.tb n).steps := by rw [hg, Die.tb_flag, Die.tb_tbBreak_same, hs]
  have hadj : g.adj n = d.adj n := by rw [Die.adj, hget _ (by decide)]; exact hset.adj
  have hrun : g.on R.TB_STATUS_RUNNING n = bit w 0 := by
    rw [hg, Die.on, Die.flag, Die.get_put_same, hset.enable]
    cases bit w 0 <;> rfl
  have hctl (x : Fld) (hx : x.off = 0x10) (hb : x.base = 0x10000) (hlo : x.lo < 32) : g.get x n = f.get x n :=
    hget x (by simp only [hx, hb, R.TB_STATUS_RUNNING]; omega)
  have henable : g.on R.TB_CONTROL_ENABLE n = bit w 0 := by rw [Die.on, hctl _ rfl rfl (by decide)]; exact hset.enable
  have hauth (h : bit w 1 = true) : g.on R.TB_CONTROL_AUTH n = true := by rw [Die.on, hctl _ rfl rfl (by decide)]; exact hset.auth h
  have hslew := (hctl R.TB_CONTROL_SLEW rfl rfl (by decide)).trans hset.slew
  have hjump := (hctl R.TB_CONTROL_JUMP rfl rfl (by decide)).trans hset.jump
  have hbound (h1 : 1 ≤ bits w 4 9) (h5 : bits w 4 9 ≤ 500) : slewLimit (g.get R.TB_CONTROL_SLEW n) = slewLimit (bits w 4 9) := by
    rw [hslew, if_pos ⟨h1, h5⟩]
  split
  case isFalse hin =>
    refine ⟨hother, hfc, henable, hrun, hauth, hslew, hjump, fun h1 h5 => ?_, hsteps⟩
    rw [hbound h1 h5] at hin
    rw [hadj] at hin ⊢
    unfold clampTo
    have := slewLimit_lt _ h5
    omega
  case isTrue hout =>
    have hr := g.setAdj_sets n (g.adj n) hn
    refine ⟨fun m hm => (hr.others m hm).trans (hother m hm), hr.fc.trans hfc, ?_, ?_, fun h => ?_, ?_, ?_, fun h1 h5 => ?_, ?_⟩
    · rw [Die.on, hr.control _ rfl rfl (by decide)]; exact henable
    · rw [Die.on, hr.running]; exact hrun
    · rw [Die.on, hr.control _ rfl rfl (by decide)]; exact hauth h
    · exact (hr.control _ rfl rfl (by decide)).trans hslew
    · exact (hr.control _ rfl rfl (by decide)).trans hjump
    · rw [Die.adj, hr.word, hbound h1 h5, hadj]
      obtain ⟨hpos, hlt⟩ := slewLimit_lt _ h5
      refine sext_low _ ?_ ?_
      · unfold clampTo; omega
      · unfold clampTo; omega
    · rw [hr.base]; exact hsteps

/-- A step accepted joins those that wait for the next tick (R372). -/
theorem Die.awaitStep_waits (n : Nat) (v : Int) (d e : Die) (hd : d = { e with tbs := KMap.upd {} e.tbs n (fun t => { t with steps := t.steps ++ [v] }) }) :
    (∀ m, m ≠ n → d.tb m = e.tb m) ∧ (d.tb n).steps = (e.tb n).steps ++ [v] ∧ (d.tb n).segs = (e.tb n).segs := by
  have hsame := Die.tb_updTbs_same n (fun t => { t with steps := t.steps ++ [v] }) e
  have hother (m : Nat) (hm : m ≠ n) := Die.tb_updTbs_other n m (fun t => { t with steps := t.steps ++ [v] }) e hm
  rw [← hd] at hsame
  refine ⟨fun m hm => (congrArg (fun x => Die.tb x m) hd).trans (hother m hm), ?_, ?_⟩
  · rw [hsame]
  · rw [hsame]

/-- Settles O28: each register's action as it bears on one base. -/
theorem timeBasesSteer : Obligations.TimeBasesSteer := by
  unfold Obligations.TimeBasesSteer
  intro s src n w h1 hn
  have hok : decide (1 ≤ n ∧ n ≤ 7) = true := decide_eq_true ⟨h1, hn⟩
  refine ⟨fun ha => ?_, fun ha => ?_, fun ha => ⟨fun hoff => ?_, fun hon hbig hno => ?_, fun hon hmay => ?_⟩, fun hnil => ?_, fun v hv => ?_, fun v v' vs hv => ?_,
    fun hup => ?_⟩
  · refine State.completes_dieCmd (f := writeDie src (blockAddr .TB n 0x014) (tbAdjW n w.toNat)) rfl hok ?_
    rw [writeDie_admitted ha]
    have hr := s.die.setAdj_sets n (sext w.toNat 32) hn
    exact ⟨⟨rfl, hr.others, hr.fc⟩, congrArg TimeBase.segs hr.base, hr.word, hr.clamped, hr.inBound⟩
  · refine State.completes_dieCmd (f := writeDie src (blockAddr .TB n 0x010) (tbControlW n w.toNat)) rfl hok ?_
    rw [writeDie_admitted ha]
    obtain ⟨hothers, hfc, h⟩ := tbControlW_sets n w.toNat s.die hn
    exact ⟨⟨rfl, hothers, hfc⟩, h⟩
  · refine State.completes_dieCmd (f := writeDie src (blockAddr .TB n 0x01C) (tbStepHiW n w.toNat)) rfl hok ?_
    rw [writeDie_admitted ha, tbStepHiW, Die.requestStep, if_pos hoff]
    obtain ⟨hothers, hfc, hbase, hcount⟩ := s.die.applyStep_applies n (sext ((s.die.tb n).stepLo + w.toNat * 2 ^ 32) 64) hn
    refine ⟨⟨rfl, hothers, hfc⟩, ?_, (congrArg TimeBase.steps hbase).trans rfl, hcount⟩
    rw [hoff] at hbase
    exact congrArg TimeBase.segs hbase
  · refine State.completes_dieCmd (f := writeDie src (blockAddr .TB n 0x01C) (tbStepHiW n w.toNat)) rfl hok ?_
    rw [writeDie_admitted ha, tbStepHiW, Die.requestStep, if_neg (by simp [hon])]
    dsimp only
    rw [if_pos (by rw [decide_eq_true hbig, hno]; rfl)]
    refine ⟨⟨rfl, fun m _ => by simp, (congrArg Die.fc (Die.report_count _ _ _).1).trans rfl⟩, by simp, ?_, ?_⟩
    · rw [Die.on, Die.get_count_tb _ _ _ _ _ rfl (by decide) (by decide) hn, Die.flag, Die.get_put_same]
      rfl
    · exact Die.tally_count_same _ _ _ (loftTally_false (by simp only [Tal.key, T.TB_JUMP_REFUSE]; omega))
  · refine State.completes_dieCmd (f := writeDie src (blockAddr .TB n 0x01C) (tbStepHiW n w.toNat)) rfl hok ?_
    rw [writeDie_admitted ha, tbStepHiW, Die.requestStep, if_neg (by simp [hon])]
    dsimp only
    rw [if_neg (by
      rcases hmay with h | h
      · rw [decide_eq_false h]; simp
      · rw [h]; simp)]
    by_cases hbig : s.die.get R.TB_CONTROL_JUMP n * 100 * 65536 < (sext ((s.die.tb n).stepLo + w.toNat * 2 ^ 32) 64).natAbs
    · rw [if_pos (decide_eq_true hbig)]
      obtain ⟨hothers, hsteps, hsegs⟩ := Die.awaitStep_waits n (sext ((s.die.tb n).stepLo + w.toNat * 2 ^ 32) 64) _ (s.die.flag R.TB_CONTROL_AUTH n false) rfl
      exact ⟨⟨rfl, hothers, rfl⟩, hsteps, hsegs, fun _ => congrArg (· == 1) (Die.get_put_same s.die R.TB_CONTROL_AUTH n (b2n false)), rfl⟩
    · rw [if_neg (by rw [decide_eq_false hbig]; simp)]
      obtain ⟨hothers, hsteps, hsegs⟩ := Die.awaitStep_waits n (sext ((s.die.tb n).stepLo + w.toNat * 2 ^ 32) 64) _ s.die rfl
      exact ⟨⟨rfl, hothers, rfl⟩, hsteps, hsegs, fun h => absurd h hbig, rfl⟩
  · refine State.completes_dieCmd (f := fun s => s.die.stepDue n) rfl hok ?_
    rw [Die.stepDue, hnil]
  · refine State.completes_dieCmd (f := fun s => s.die.stepDue n) rfl hok ?_
    have hcleared := Die.tb_updTbs_same n (fun t => { t with steps := [] }) s.die
    have hothers' (m : Nat) (hm : m ≠ n) := Die.tb_updTbs_other n m (fun t => { t with steps := [] }) s.die hm
    rw [Die.stepDue, hv]
    dsimp only [List.foldl_cons, List.foldl_nil]
    generalize hc : ({ s.die with tbs := KMap.upd {} s.die.tbs n (fun t => { t with steps := [] }) } : Die) = c at hcleared hothers'
    obtain ⟨hothers, hfc, hbase, hcount⟩ := c.applyStep_applies n v hn
    rw [hcleared] at hbase
    subst hc
    exact ⟨⟨rfl, fun m hm => (hothers m hm).trans (hothers' m hm), hfc⟩, congrArg TimeBase.steps hbase, congrArg TimeBase.segs hbase, hcount⟩
  · refine State.completes_dieCmd (f := fun s => s.die.stepDue n) rfl hok ?_
    have hcleared := Die.tb_updTbs_same n (fun t => { t with steps := [] }) s.die
    have hothers' (m : Nat) (hm : m ≠ n) := Die.tb_updTbs_other n m (fun t => { t with steps := [] }) s.die hm
    rw [Die.stepDue, hv]
    dsimp only
    generalize hc : ({ s.die with tbs := KMap.upd {} s.die.tbs n (fun t => { t with steps := [] }) } : Die) = c at hcleared hothers'
    obtain ⟨hothers, hfc, hsteps, hsegs⟩ := c.applySteps_apply n (v :: v' :: vs) hn
    rw [hcleared] at hsteps hsegs
    subst hc
    exact ⟨⟨rfl, fun m hm => (hothers m hm).trans (hothers' m hm), hfc⟩, hsteps, hsegs.trans (by simp)⟩
  · exact ⟨_, rfl, by rw [State.syncPair, if_pos hup]⟩

end Sys2Proof.Machine
end

section
/-! SUPPORT. Labels, their records, and batches that close (R317 to R319, R324). -/

namespace Sys2Proof.Machine

/-- The updatable image on an engine is that engine's, of a pasture that the device has. -/
theorem Die.updCtx_spec {d : Die} {e : Nat} {x : UpdCtx} (h : d.updCtx e = some x) :
    x.e = e ∧ x.p < 64 ∧ d.image x.p = some x.im ∧ engOf x.im e = some x.ei ∧ x.im.upd = some x.u := by
  unfold Die.updCtx at h
  split at h
  case h_1 => cases h
  case h_2 p hp =>
    split at h
    case h_1 => cases h
    case h_2 im him =>
      split at h
      case h_2 => cases h
      case h_1 ei u hei hu =>
        split at h
        case isFalse => cases h
        case isTrue =>
          injection h with h
          subst h
          exact ⟨rfl, List.mem_range.mp (List.mem_of_find?_eq_some hp), him, hei, hu⟩

/-- A command of the update unit of an engine that has an updatable image. -/
theorem State.completes_updCmd {s : State} {c : Instr} {e : Nat} {x : UpdCtx} {f : Fused → UpdCtx → Die → Die} {P : State → Prop}
    (hc : exec c s = updCmd e f s) (he : e < 8) (hx : s.die.updCtx e = some x) (h : P { s with die := f s.fused x s.die }) : s.completes c P := by
  refine State.completes_dieCmd hc (decide_eq_true he) ?_
  rw [hx]
  exact h

@[simp] theorem Die.updSt_onUpd_same (e : Nat) (f : UpdSt → UpdSt) (d : Die) : (d.onUpd e f).updSt e = f (d.updSt e) := by
  unfold Die.updSt Die.onUpd
  exact KMap.get_upd_same _ _ _ _

/-- A change of the update unit's state changes nothing else. -/
@[simp] theorem Die.get_onUpd (e : Nat) (f : UpdSt → UpdSt) (d : Die) (g : Fld) (i : Nat) : (d.onUpd e f).get g i = d.get g i := rfl
@[simp] theorem Die.on_onUpd (e : Nat) (f : UpdSt → UpdSt) (d : Die) (g : Fld) (i : Nat) : (d.onUpd e f).on g i = d.on g i := rfl

/-- A report leaves the update units. -/
theorem Die.report.updSt {d f : Die} (h : d.report f) (e : Nat) : f.updSt e = d.updSt e := by
  unfold Die.updSt
  rw [(congrArg Die.upd h.1).trans rfl]

/-- `f` differs from `d` in the state of the update units and in what a report touches. -/
def Die.unitReport (d f : Die) : Prop := ∃ u, ({ d with upd := u } : Die).report f

theorem Die.unitReport_onUpd (e : Nat) (f : UpdSt → UpdSt) (d : Die) : d.unitReport (d.onUpd e f) := ⟨_, Die.report_refl _⟩

theorem Die.unitReport.then {d f g : Die} (h : d.unitReport f) (k : f.report g) : d.unitReport g := ⟨h.choose, h.choose_spec.trans k⟩

theorem Die.unitReport.frame {d f : Die} (h : d.unitReport f) : f.tiles = d.tiles ∧ f.eng = d.eng ∧ f.rows = d.rows ∧ f.pas = d.pas := by
  obtain ⟨u, h, -⟩ := h
  exact ⟨(congrArg Die.tiles h).trans rfl, (congrArg Die.eng h).trans rfl, (congrArg Die.rows h).trans rfl, (congrArg Die.pas h).trans rfl⟩

theorem Die.unitReport.get {d f : Die} (h : d.unitReport f) (g : Fld) (i : Nat) (hg : reportWord (g.key i / 32) = false) : f.get g i = d.get g i :=
  (h.choose_spec.get g i hg).trans rfl

/-- What a count by the update unit leaves. -/
theorem Die.unitReport_count (x : UpdCtx) (f : UpdSt → UpdSt) (t : Tal) (d : Die) :
    d.unitReport ((d.onUpd x.e f).count t x.e) ∧ ((d.onUpd x.e f).count t x.e).updSt x.e = f (d.updSt x.e) :=
  ⟨(Die.unitReport_onUpd x.e f d).then (Die.report_count _ _ _), ((Die.report_count _ _ _).updSt x.e).trans (Die.updSt_onUpd_same _ _ _)⟩

/-- The UPDATE packet and its vector count nothing but the Loft's own tallies. -/
theorem Die.traced_updPacket (x : UpdCtx) (r : UpdRun) (outcome : Nat) (d : Die) (hp : x.p < 64) : d.traced (d.updPacket x r outcome) := by
  have htrace (k : Pkt) (hk : k.pas = some x.p) : d.traced (d.trace k) := d.traced_trace _ (fun q h => by rw [hk] at h; injection h with h; omega)
  unfold Die.updPacket
  dsimp only
  split
  · exact (htrace _ rfl).trans (Die.traced_emit _ _)
  · exact htrace _ rfl

/-- The event IDs of a batch, in order. -/
def batchIds (u : UpdSt) : List Nat := sortBy (fun a b => decide (a ≤ b)) ((u.matched u.openFrom).map (fun r => r.evid))

theorem batchIds_sorted (u : UpdSt) : (batchIds u).Perm ((u.matched u.openFrom).map (fun r => r.evid)) ∧ (batchIds u).Pairwise (· ≤ ·) := by
  refine ⟨sortBy_perm _ _, ?_⟩
  have h := sortBy_pairwise (fun a b : Nat => decide (a ≤ b)) (by simp; omega) (by simp; omega) ((u.matched u.openFrom).map (fun r => r.evid))
  rw [batchIds]
  simpa using h

/-- What the close of a batch leaves (R319, R324). -/
structure Die.BatchClosed (x : UpdCtx) (d f : Die) : Prop where
  frame : d.unitReport f
  next : (f.updSt x.e).openFrom = (d.updSt x.e).openFrom + 1
  queued : d.on R.UPD_CONTROL_PAUSE x.e = false → d.get R.UPD_STATUS_STATE x.e ≠ 3 →
    (f.updSt x.e).queue = (d.updSt x.e).queue ++ [((d.updSt x.e).openFrom, batchIds (d.updSt x.e))]
      ∧ (f.updSt x.e).ring = (d.updSt x.e).ring ∧ f.tallies = d.tallies
  skipped : x.e < 8 → d.on R.UPD_CONTROL_PAUSE x.e = true → (f.updSt x.e).queue = (d.updSt x.e).queue
      ∧ (f.updSt x.e).ring = (d.updSt x.e).ring.filter (fun r => !(r.label.isSome && r.step == (d.updSt x.e).openFrom))
      ∧ f.tally T.UPD_UPD_SKIPPED x.e = tallyAdd (d.tally T.UPD_UPD_SKIPPED x.e) 1

theorem Die.closeBatch_closes (x : UpdCtx) (d : Die) (hp : x.p < 64) : Die.BatchClosed x d (d.closeBatch x) := by
  have hupd (f g : UpdSt → UpdSt) : ((d.onUpd x.e f).onUpd x.e g).updSt x.e = g (f (d.updSt x.e)) := by rw [Die.updSt_onUpd_same, Die.updSt_onUpd_same]
  have htwice (f g : UpdSt → UpdSt) : d.unitReport ((d.onUpd x.e f).onUpd x.e g) := ⟨_, Die.report_refl _⟩
  unfold Die.closeBatch
  dsimp only
  by_cases hpause : d.on R.UPD_CONTROL_PAUSE x.e = true
  · rw [if_pos (show (d.onUpd x.e _).on R.UPD_CONTROL_PAUSE x.e = true from hpause)]
    unfold Die.skipBatch
    have hcount := Die.report_count T.UPD_UPD_SKIPPED x.e ((d.onUpd x.e (fun y => { y with openFrom := (d.updSt x.e).openFrom + 1 })).onUpd x.e
      (fun y => { y with ring := y.ring.filter (fun r => !(r.label.isSome && r.step == (d.updSt x.e).openFrom)) }))
    have hpkt (f : Die) (r : UpdRun) := Die.traced_updPacket x r 3 f hp
    have hlast := fun r => (hcount.trans (hpkt _ r).1).updSt x.e
    refine ⟨((htwice _ _).then hcount).then (hpkt _ _).1, ?_, fun hno => by simp [hno] at hpause, fun he _ => ⟨?_, ?_, ?_⟩⟩
    · rw [hlast, hupd]
    · rw [hlast, hupd]
    · rw [hlast, hupd]
    · have hkey : loftTally (T.UPD_UPD_SKIPPED.key x.e) = false := loftTally_false (by simp only [Tal.key, T.UPD_UPD_SKIPPED]; omega)
      exact ((hpkt _ _).2 _ hkey).trans (Die.tally_count_same _ _ _ hkey)
  · rw [if_neg (show ¬ (d.onUpd x.e _).on R.UPD_CONTROL_PAUSE x.e = true from hpause)]
    by_cases hfrozen : d.get R.UPD_STATUS_STATE x.e = 3
    · rw [if_pos (show (d.onUpd x.e _).get R.UPD_STATUS_STATE x.e = 3 from hfrozen)]
      exact ⟨htwice _ _, by rw [hupd], fun _ h => absurd hfrozen h, fun _ h => absurd h hpause⟩
    · rw [if_neg (show ¬ (d.onUpd x.e _).get R.UPD_STATUS_STATE x.e = 3 from hfrozen)]
      exact ⟨htwice _ _, by rw [hupd], fun _ _ => ⟨by rw [hupd]; rfl, by rw [hupd], rfl⟩, fun _ h => absurd h hpause⟩

/-- Settles O23: what the label finds, and what the close of a batch leaves. -/
theorem batchesForm : Obligations.BatchesForm := by
  unfold Obligations.BatchesForm
  intro s e x he hx
  obtain ⟨hxe, hp, -⟩ := s.die.updCtx_spec hx
  subst hxe
  have honly {f : Die} (h : s.die.unitReport f) : f.tiles = s.die.tiles ∧ f.eng = s.die.eng ∧ f.rows = s.die.rows :=
    ⟨h.frame.1, h.frame.2.1, h.frame.2.2.1⟩
  have hkey (t : Tal) (hb : t.base = 0x140000) (ho : t.off < 0x1000) : loftTally (t.key x.e) = false :=
    loftTally_false (by simp only [Tal.key, hb]; omega)
  refine ⟨fun l rest hl => ⟨fun r hr hpos hwin hopen hroom => ?_, fun hnone => ?_⟩, fun r hr => ?_, fun hreplay hdue => ⟨fun hpause hstate => ?_, fun hpause => ?_⟩⟩
  · refine State.completes_updCmd (f := fun _ x d => d.labelMatch x) rfl he hx ?_
    have hfree : r.label.isSome = false := by simpa using List.find?_some hr
    have hin : ¬ ((x.u.w * 1000 : Nat) < sdiff 64 l.fc r.fc
        ∧ (s.die.onUpd x.e (fun y => { y with labels := rest })).on R.FAB_REPLAY_ENABLE x.p = false) := by
      rintro ⟨h1, h2⟩
      rcases hwin with h | h
      · omega
      · rw [Die.on_onUpd, h] at h2
        cases h2
    have hmatch : s.die.labelMatch x = (s.die.onUpd x.e (fun y => { y with labels := rest })).onUpd x.e (fun y => { y with ring := y.ring.map (fun c =>
        if c.evid == l.evid && c.label.isNone then { c with label := some l.lanes } else c) }) := by
      unfold Die.labelMatch
      simp only [hl, hr]
      rw [if_neg (by omega), if_neg (by simp [hfree]), if_neg hin, if_neg (by omega), if_neg (by omega)]
    rw [hmatch]
    refine ⟨⟨rfl, rfl, rfl, rfl⟩, ?_, ?_, rfl⟩
    · rw [Die.updSt_onUpd_same, Die.updSt_onUpd_same]
    · rw [Die.updSt_onUpd_same, Die.updSt_onUpd_same]
      simp
  · refine State.completes_updCmd (f := fun _ x d => d.labelMatch x) rfl he hx ?_
    have hmine : (s.die.updSt x.e).ring.filter (fun r => r.evid == l.evid) = [] :=
      List.filter_eq_nil_iff.mpr (fun c hc => by simpa using hnone c hc)
    have hmatch : s.die.labelMatch x = (s.die.onUpd x.e (fun y => { y with labels := rest })).count T.UPD_LABEL_ORPHAN x.e := by
      unfold Die.labelMatch
      simp only [hl, hmine, List.find?_nil, List.head?_nil]
    obtain ⟨hframe, hupd⟩ := Die.unitReport_count x (fun y => { y with labels := rest }) T.UPD_LABEL_ORPHAN s.die
    rw [hmatch]
    exact ⟨⟨rfl, honly hframe⟩, by rw [hupd], by rw [hupd], Die.tally_count_same _ _ _ (hkey _ rfl (by decide))⟩
  · refine State.completes_updCmd (f := fun _ x d => d.capExpire x) rfl he hx ?_
    have hexp : s.die.capExpire x = (s.die.onUpd x.e (fun y => { y with ring := y.ring.erase r })).count T.UPD_CAP_EXPIRE x.e := by
      unfold Die.capExpire
      simp only [hr]
    obtain ⟨hframe, hupd⟩ := Die.unitReport_count x (fun y => { y with ring := y.ring.erase r }) T.UPD_CAP_EXPIRE s.die
    rw [hexp]
    exact ⟨⟨rfl, honly hframe⟩, by rw [hupd], Die.tally_count_same _ _ _ (hkey _ rfl (by decide))⟩
  · refine State.completes_updCmd (f := fun _ x d => if d.on R.FAB_REPLAY_ENABLE x.p = false ∧ (d.updSt x.e).openFrom + 1 + x.u.lag ≤ (d.engPas x.e x.p).step
      then d.closeBatch x else d) rfl he hx ?_
    rw [if_pos ⟨hreplay, hdue⟩]
    have hclosed := s.die.closeBatch_closes x hp
    obtain ⟨hqueue, hring, htallies⟩ := hclosed.queued hpause hstate
    exact ⟨⟨rfl, honly hclosed.frame⟩, hclosed.next, ⟨_, (batchIds_sorted _).1, (batchIds_sorted _).2, hqueue⟩, hring, htallies⟩
  · refine State.completes_updCmd (f := fun _ x d => if d.on R.FAB_REPLAY_ENABLE x.p = false ∧ (d.updSt x.e).openFrom + 1 + x.u.lag ≤ (d.engPas x.e x.p).step
      then d.closeBatch x else d) rfl he hx ?_
    rw [if_pos ⟨hreplay, hdue⟩]
    have hclosed := s.die.closeBatch_closes x hp
    exact ⟨⟨rfl, honly hclosed.frame⟩, hclosed.next, hclosed.skipped he hpause⟩

end Sys2Proof.Machine
end

section
/-! SUPPORT. Shedding under the power cap and the controls of replay pastures (R349 to R364, R571). -/

namespace Sys2Proof.Machine

/-- An evaluation above the cap in force. -/
theorem Die.shedEvaluate_above (fu : Fused) (a : List Activity) (d : Die) (h : d.cap * 1000 < d.estimate fu a) :
    d.shedEvaluate fu a = { ((d.put R.PWR_ESTIMATE_ESTIMATE 0 (d.estimate fu a / 1000)).put R.DEV_SHED_STATUS_LEVEL 0 (min 64 (d.get R.DEV_SHED_STATUS_LEVEL + 1))).put
      R.DEV_SHED_STATUS_PEAK 0 (max (min 64 (d.get R.DEV_SHED_STATUS_LEVEL + 1))
        ((d.put R.PWR_ESTIMATE_ESTIMATE 0 (d.estimate fu a / 1000)).get R.DEV_SHED_STATUS_PEAK)) with shedLow := 0 } := by
  unfold Die.shedEvaluate
  dsimp only
  exact if_pos h

/-- The 64th in a row at or below 95 % of the cap. -/
theorem Die.shedEvaluate_calm (fu : Fused) (a : List Activity) (d : Die) (h : ¬ d.cap * 1000 < d.estimate fu a)
    (hcalm : d.estimate fu a * 100 ≤ d.cap * 95000) (hlong : 63 ≤ d.shedLow) :
    d.shedEvaluate fu a = { (d.put R.PWR_ESTIMATE_ESTIMATE 0 (d.estimate fu a / 1000)).put R.DEV_SHED_STATUS_LEVEL 0 (d.get R.DEV_SHED_STATUS_LEVEL - 1)
      with shedLow := 0 } := by
  unfold Die.shedEvaluate
  dsimp only
  rw [if_neg h, if_pos]
  rw [if_pos (decide_eq_true hcalm)]
  exact Nat.succ_le_succ hlong

/-- Any other evaluation. -/
theorem Die.shedEvaluate_other (fu : Fused) (a : List Activity) (d : Die) (h : ¬ d.cap * 1000 < d.estimate fu a)
    (hno : ¬ (d.estimate fu a * 100 ≤ d.cap * 95000 ∧ 63 ≤ d.shedLow)) :
    ∃ n, d.shedEvaluate fu a = { d.put R.PWR_ESTIMATE_ESTIMATE 0 (d.estimate fu a / 1000) with shedLow := n } := by
  unfold Die.shedEvaluate
  dsimp only
  rw [if_neg h, if_neg]
  · exact ⟨_, rfl⟩
  · split
    case isTrue hcalm =>
      have hshort : ¬ 63 ≤ d.shedLow := fun hl => hno ⟨of_decide_eq_true hcalm, hl⟩
      exact fun h64 => hshort (Nat.le_of_succ_le_succ h64)
    case isFalse => decide

/-- What an evaluation leaves in the estimate, the level and the peak (R350, R352, R571). -/
theorem Die.shedEvaluate_sets (fu : Fused) (a : List Activity) (d : Die) :
    d.shedEvaluate fu a = { d with regs := (d.shedEvaluate fu a).regs, shedLow := (d.shedEvaluate fu a).shedLow }
    ∧ (d.shedEvaluate fu a).get R.PWR_ESTIMATE_ESTIMATE = d.estimate fu a / 1000 % 2 ^ 10
    ∧ (d.shedEvaluate fu a).get R.DEV_SHED_STATUS_LEVEL =
        (if d.cap * 1000 < d.estimate fu a then min 64 (d.get R.DEV_SHED_STATUS_LEVEL + 1)
          else if d.estimate fu a * 100 ≤ d.cap * 95000 ∧ 63 ≤ d.shedLow then (d.get R.DEV_SHED_STATUS_LEVEL - 1) % 2 ^ 7
          else d.get R.DEV_SHED_STATUS_LEVEL)
    ∧ (d.cap * 1000 < d.estimate fu a → (d.shedEvaluate fu a).get R.DEV_SHED_STATUS_PEAK
        = max (min 64 (d.get R.DEV_SHED_STATUS_LEVEL + 1)) (d.get R.DEV_SHED_STATUS_PEAK) % 2 ^ 7)
    ∧ (d.estimate fu a ≤ d.cap * 1000 → (d.shedEvaluate fu a).get R.DEV_SHED_STATUS_PEAK = d.get R.DEV_SHED_STATUS_PEAK) := by
  have hmin (l : Nat) : min 64 (l + 1) % 2 ^ 7 = min 64 (l + 1) := Nat.mod_eq_of_lt (by omega)
  have hcount (x : Die) (n : Nat) (f : Fld) : ({ x with shedLow := n } : Die).get f = x.get f := rfl
  by_cases hover : d.cap * 1000 < d.estimate fu a
  · rw [if_pos hover, d.shedEvaluate_above fu a hover]
    simp (disch := decide) only [hcount, Die.get_put_apart, Die.get_put_same]
    exact ⟨rfl, rfl, hmin _, fun _ => rfl, fun h => by omega⟩
  · rw [if_neg hover]
    by_cases hcalm : d.estimate fu a * 100 ≤ d.cap * 95000 ∧ 63 ≤ d.shedLow
    · rw [if_pos hcalm, d.shedEvaluate_calm fu a hover hcalm.1 hcalm.2]
      simp (disch := decide) only [hcount, Die.get_put_apart, Die.get_put_same]
      exact ⟨rfl, rfl, rfl, fun h => absurd h hover, fun _ => trivial⟩
    · obtain ⟨n, hn⟩ := d.shedEvaluate_other fu a hover hcalm
      rw [if_neg hcalm, hn]
      simp (disch := decide) only [hcount, Die.get_put_apart, Die.get_put_same]
      exact ⟨rfl, rfl, trivial, fun h => absurd h hover, fun _ => trivial⟩

/-- A report leaves the registers of the fabric's pages. -/
theorem Die.unitReport.get_fab {d f : Die} (h : d.unitReport f) (g : Fld) (p : Nat) (hb : g.base = 0x380000) (hlo : g.lo < 32) :
    f.get g p = d.get g p := by
  refine h.get g p ?_
  have : g.key p / 32 = 0x380000 + p * 0x1000 + g.off := by simp only [Fld.key, hb]; omega
  rw [this]
  exact reportWord_above (by omega) (by omega)

/-- CLOSE changes the update units and reports, no more. -/
theorem Die.replayClose_unit (p : Nat) (d : Die) : d.unitReport (d.replayClose p) := by
  unfold Die.replayClose
  split
  case isFalse => exact ⟨_, Die.report_refl _⟩
  case isTrue =>
    split
    case h_2 => exact ⟨_, Die.report_refl _⟩
    case h_1 x hx =>
      split
      case isFalse => exact ⟨_, Die.report_refl _⟩
      case isTrue =>
        obtain ⟨u, -, hu⟩ := Option.bind_eq_some_iff.mp hx
        have hspec := d.updCtx_spec hu
        exact (d.closeBatch_closes x hspec.2.1).frame

/-- FAB_REPLAY's fields after a write of ENABLE. -/
theorem Die.replayEnable_setFields (p w : Nat) (d : Die) : (d.setFields .FAB p 0x030 w).on R.FAB_REPLAY_ENABLE p = bit w 0
    ∧ (d.setFields .FAB p 0x030 w).get R.FAB_REPLAY_STATUS_REFUSED p = d.get R.FAB_REPLAY_STATUS_REFUSED p := by
  refine ⟨?_, Die.get_setFields_page _ _ _ _ _ R.FAB_REPLAY_STATUS_REFUSED rfl (by decide)⟩
  rw [Die.on, (Die.get_setFields_rw .FAB p 0x030 w d ⟨R.FAB_REPLAY_ENABLE, any⟩ (by simp [fieldsAt, Block.regs, regsFAB]) rfl).trans (if_pos rfl)]
  exact bit_eq_bits w 0

/-- A word of the limit takes its value, the other stands (R359, R364). -/
theorem Die.replayLimit_setFields (p w : Nat) (upper : Bool) (d : Die) (hw : w < 2 ^ 32) :
    (d.setFields .FAB p (if upper then 0x038 else 0x034) w).get R.FAB_REPLAY_LIMIT_LO p = (if upper then d.get R.FAB_REPLAY_LIMIT_LO p else w)
    ∧ (d.setFields .FAB p (if upper then 0x038 else 0x034) w).get R.FAB_REPLAY_LIMIT_HI p = (if upper then w % 2 ^ 16 else d.get R.FAB_REPLAY_LIMIT_HI p) := by
  cases upper with
  | true =>
    refine ⟨Die.get_setFields_page _ _ _ _ _ R.FAB_REPLAY_LIMIT_LO rfl (by decide), ?_⟩
    exact ((Die.get_setFields_rw .FAB p 0x038 w d ⟨R.FAB_REPLAY_LIMIT_HI, any⟩ (by simp [fieldsAt, Block.regs, regsFAB]) rfl).trans (if_pos rfl)).trans
      (by simp [bits, R.FAB_REPLAY_LIMIT_HI])
  | false =>
    refine ⟨?_, Die.get_setFields_page _ _ _ _ _ R.FAB_REPLAY_LIMIT_HI rfl (by decide)⟩
    refine ((Die.get_setFields_rw .FAB p 0x034 w d ⟨R.FAB_REPLAY_LIMIT_LO, any⟩ (by simp [fieldsAt, Block.regs, regsFAB]) rfl).trans (if_pos rfl)).trans ?_
    simp only [bits, R.FAB_REPLAY_LIMIT_LO, Nat.pow_zero, Nat.div_one]
    exact Nat.mod_eq_of_lt hw

/-- Settles O27: the evaluation's fields, and each word of the replay registers. -/
theorem shedsAndReplays : Obligations.ShedsAndReplays := by
  unfold Obligations.ShedsAndReplays
  refine ⟨fun s a => ⟨?_, fun src w ha hclear => ?_⟩, fun s src p w hp => ⟨fun ha hchange => ?_, fun im u x ha hclose h0 hon him hu hx hxp => ?_, fun upper ha => ?_⟩⟩
  · obtain ⟨hframe, hest, hlevel, hpeak, hstands⟩ := s.die.shedEvaluate_sets s.fused a
    exact ⟨_, rfl, congrArg (fun d => { s with die := d }) hframe, hest, hlevel, hpeak, hstands⟩
  · refine State.completes_dieCmd (f := writeDie src (blockAddr .DEV 0 0x804) (devShedW w.toNat)) rfl rfl ?_
    rw [writeDie_admitted ha, devShedW, if_pos hclear]
    simp (disch := decide) only [Die.get_put_apart, Die.get_put_same]
    exact ⟨rfl, rfl, trivial⟩
  · refine State.completes_dieCmd (f := writeDie src (blockAddr .FAB p 0x030) (fabReplayW p w.toNat)) rfl (decide_eq_true hp) ?_
    rw [writeDie_admitted ha]
    have hclose (d : Die) : d.unitReport (if bit w.toNat 1 then d.replayClose p else d) := by
      split
      · exact d.replayClose_unit p
      · exact ⟨_, Die.report_refl _⟩
    have hget (d : Die) (g : Fld) (hb : g.base = 0x380000) (hlo : g.lo < 32) := (hclose d).get_fab g p hb hlo
    unfold fabReplayW
    dsimp only
    rw [if_neg hchange]
    cases hadm : s.die.admitted p with
    | true =>
      rw [if_pos rfl]
      obtain ⟨htiles, heng, hrows, -⟩ := (hclose (s.die.flag R.FAB_REPLAY_STATUS_REFUSED p true)).frame
      refine ⟨rfl, htiles, heng, hrows, fun _ => ⟨?_, ?_⟩, fun h => absurd h (by simp)⟩
      · rw [Die.on, hget _ _ rfl (by decide), Die.flag, Die.get_put_same]
        rfl
      · rw [Die.on, hget _ _ rfl (by decide), Die.flag, Die.get_put_apart _ _ _ _ _ (by decide)]
        rfl
    | false =>
      rw [if_neg Bool.false_ne_true]
      obtain ⟨htiles, heng, hrows, -⟩ := (hclose (s.die.setFields .FAB p 0x030 w.toNat)).frame
      have hregs := s.die.setFields_regs .FAB p 0x030 w.toNat
      obtain ⟨henable, hrefused⟩ := s.die.replayEnable_setFields p w.toNat
      refine ⟨rfl, htiles.trans ((congrArg Die.tiles hregs).trans rfl), heng.trans ((congrArg Die.eng hregs).trans rfl),
        hrows.trans ((congrArg Die.rows hregs).trans rfl), fun h => absurd h (by simp), fun _ => ⟨?_, ?_⟩⟩
      · rw [Die.on, hget _ _ rfl (by decide)]
        exact henable
      · rw [hget _ _ rfl (by decide), hrefused]
  · refine State.completes_dieCmd (f := writeDie src (blockAddr .FAB p 0x030) (fabReplayW p w.toNat)) rfl (decide_eq_true hp) ?_
    obtain ⟨hxe, hx64, -⟩ := s.die.updCtx_spec hx
    have hw : fabReplayW p w.toNat s.die = s.die.closeBatch x := by
      unfold fabReplayW
      dsimp only
      rw [if_pos (h0.trans hon.symm), if_pos hclose, Die.replayClose, if_pos hon, him]
      dsimp only [Option.bind_some]
      rw [hu]
      dsimp only [Option.bind_some]
      rw [hx]
      exact if_pos hxp
    rw [writeDie_admitted ha, hw]
    have hclosed := s.die.closeBatch_closes x hx64
    obtain ⟨htiles, heng, -, -⟩ := hclosed.frame.frame
    rw [← hxe]
    refine ⟨rfl, ?_, htiles, heng, hclosed.next, fun hpause hstate => ⟨_, (hclosed.queued hpause hstate).1⟩⟩
    rw [Die.on, hclosed.frame.get_fab _ _ rfl (by decide)]
    exact hon
  · refine State.completes_dieCmd (f := writeDie src (blockAddr .FAB p (if upper then 0x038 else 0x034)) (Die.setFields .FAB p (if upper then 0x038 else 0x034) w.toNat))
      rfl (decide_eq_true hp) ?_
    rw [writeDie_admitted ha]
    exact ⟨congrArg (fun d => { s with die := d }) (Die.setFields_regs _ _ _ _ _), s.die.replayLimit_setFields p w.toNat upper w.isLt⟩

end Sys2Proof.Machine
end

section
/-! SUPPORT. Incidents and the tallies; the KILL machine and the trigger inputs (R374, R633 to R639, R644). -/

namespace Sys2Proof.Machine

/-- A count of a tally of the Loft's own traces alone. -/
theorem Die.traced_count_loft (t : Tal) (i : Nat) (d : Die) (h : loftTally (t.key i) = true) : d.traced (d.count t i) :=
  ⟨d.report_count t i, fun k hk => Die.tally_countBy_other t i 1 k d hk (fun e => by rw [e, h] at hk; cases hk)⟩

/-- An incident counts nothing but the Loft's own tallies. -/
theorem Die.traced_incident (c src inst name : Nat) (d : Die) : d.traced (d.incident c src inst name) := by
  unfold Die.incident
  refine Die.traced_ite ?_ d.traced_refl
  dsimp only
  have h := ((d.traced_count_loft T.LFT_INCIDENTS 0 rfl).trans (Die.traced_alarm 16 (by decide) _))
  refine Die.traced_ite ?_ ?_
  · refine Die.traced.trans ?_ (Die.traced_loft _ _)
    refine Die.traced.trans ?_ (Die.traced_put _ R.LFT_FF_FC_HI 0 _ rfl)
    refine Die.traced.trans ?_ (Die.traced_put _ R.LFT_FF_FC_LO 0 _ rfl)
    refine Die.traced.trans ?_ (Die.traced_put _ R.LFT_STATUS_CAUSE 0 _ rfl)
    refine Die.traced.trans ?_ (Die.traced_put _ R.LFT_STATUS_FF_STATE 0 _ rfl)
    exact h.trans (Die.traced_trace _ (fun p h => by cases h) _)
  · exact h.trans (Die.traced_trace _ (fun p h => by cases h) _)

theorem Die.traced.tally {d e : Die} (h : d.traced e) (t : Tal) (i : Nat) (hk : loftTally (t.key i) = false) : e.tally t i = d.tally t i := h.2 _ hk

/-- A tick without a kill in IDLE takes a T that waits (R637). -/
theorem Kill.idleTick_quiet (k : Kill) : (k.idleTick false false).1 = (if k.pending then { k with nt := k.ntNew, pending := false } else k)
    ∧ (k.idleTick false false).2 = false := by
  unfold Kill.idleTick
  simp

/-- A kill in IDLE counts and leads to NORMAL or WAIT (R637). -/
theorem Kill.idleTick_kill (a b : Bool) (k : Kill) (h : (a || b) = true) :
    k.idleTick a b = (if a = true ∧ b = true then ({ k with st := .normal }, true) else ({ k with st := .wait, n0 := k.tick, first := b }, true)) := by
  have hk : (k.pending && !a && !b) = false := by
    rcases (Bool.or_eq_true _ _).mp h with rfl | rfl
    · simp
    · simp
  unfold Kill.idleTick
  rw [hk]
  simp only [Bool.false_eq_true, if_false, h, if_true, Bool.and_eq_true]

/-- The tick's own fields, whatever the state (R637). -/
theorem Kill.step_fields (a b : Bool) (k : Kill) : (k.step a b).1.a = a ∧ (k.step a b).1.b = b ∧ (k.step a b).1.tick = k.tick + 1
    ∧ (k.step a b).1.running = k.running ∧ ((k.step a b).1.blocked = true ↔ (k.step a b).1.st ≠ .idle) := by
  have hrun : (k.step a b).1.running = k.running := by
    unfold Kill.step
    cases k.st with
    | idle => simp only [Kill.idleTick]; split_ifs <;> rfl
    | wait => simp only [Kill.waitTick]; split_ifs <;> rfl
    | normal => simp only [Kill.normalTick]; split_ifs <;> rfl
    | fault => simp only [Kill.faultTick]; split_ifs <;> rfl
  exact ⟨rfl, rfl, rfl, hrun, by simp [Kill.step]⟩

/-- A tick from IDLE (R637). -/
theorem Kill.step_idle (a b : Bool) (k : Kill) (hst : k.st = .idle) :
    (a = false → b = false → (k.step a b).1.st = .idle ∧ (k.pending = true → (k.step a b).1.nt = k.ntNew ∧ (k.step a b).1.pending = false))
    ∧ ((a = true ∨ b = true) → (k.step a b).1.st = (if a = true ∧ b = true then .normal else .wait) ∧ (k.step a b).2 = (true, false))
    ∧ (a ≠ b → (k.step a b).1.n0 = k.tick ∧ (k.step a b).1.first = b) := by
  unfold Kill.step
  simp only [hst]
  refine ⟨?_, fun h => ?_, fun h => ?_⟩
  · rintro rfl rfl
    rw [k.idleTick_quiet.1]
    refine ⟨?_, fun hp => ?_⟩
    · split_ifs <;> exact hst
    · rw [if_pos hp]
      exact ⟨rfl, rfl⟩
  · rw [Kill.idleTick_kill a b k (by rcases h with rfl | rfl <;> simp)]
    split_ifs <;> exact ⟨rfl, rfl⟩
  · have hone : (a || b) = true ∧ ¬ (a = true ∧ b = true) := by cases a <;> cases b <;> simp at h ⊢
    rw [Kill.idleTick_kill a b k hone.1, if_neg hone.2]
    exact ⟨rfl, rfl⟩

/-- A tick from WAIT (R637, R638). -/
theorem Kill.step_wait (a b : Bool) (k : Kill) (hst : k.st = .wait) :
    (k.nt < k.tick - k.n0 → (k.step a b).1.st = .fault ∧ (k.step a b).2 = (false, true))
    ∧ (k.tick - k.n0 ≤ k.nt → (k.step a b).1.st = if (k.first = false ∧ b = true) ∨ (k.first = true ∧ a = true) then .normal else .wait) := by
  unfold Kill.step
  simp only [hst, Kill.waitTick]
  refine ⟨fun h => ?_, fun h => ?_⟩
  · rw [if_pos h]
    exact ⟨rfl, rfl⟩
  · rw [if_neg (by omega)]
    by_cases hsecond : (k.first = false ∧ b = true) ∨ (k.first = true ∧ a = true)
    · rw [if_pos (by simpa using hsecond), if_pos hsecond]
    · rw [if_neg (by simpa using hsecond), if_neg hsecond]
      exact hst

/-- A tick from NORMAL (R637). -/
theorem Kill.step_normal (a b : Bool) (k : Kill) (hst : k.st = .normal) :
    (k.step a b).1.st = if a = false ∧ b = false then .idle else .normal := by
  unfold Kill.step
  simp only [hst, Kill.normalTick]
  by_cases h : a = false ∧ b = false
  · rw [if_pos (by simpa using h), if_pos h]
  · rw [if_neg (by simpa using h), if_neg h]
    exact hst

/-- A tick from FAULT (R637, R638). -/
theorem Kill.step_fault (a b : Bool) (k : Kill) (hst : k.st = .fault) :
    ((a = true ∨ b = true) → (k.step a b).1.st = .fault ∧ (k.step a b).1.quiet = 0 ∧ (k.step a b).1.clearReq = false
      ∧ (k.clearReq = true → (k.step a b).1.clearRefused = true))
    ∧ (a = false → b = false → k.clearReq = true → (k.step a b).1.st = .idle ∧ (k.step a b).1.clearReq = false)
    ∧ (a = false → b = false → k.clearReq = false → (k.step a b).1.st = .fault ∧ (k.step a b).1.quiet = k.quiet + 1) := by
  unfold Kill.step
  simp only [hst, Kill.faultTick]
  refine ⟨fun h => ?_, ?_, ?_⟩
  · rw [if_pos (by simpa using h)]
    exact ⟨rfl, rfl, rfl, fun hc => by simp [hc]⟩
  · rintro rfl rfl hc
    simp [hc]
  · rintro rfl rfl hc
    simp [hc]

/-- A cut of every pulse leaves every entry low, and the pins and the outputs apart nothing changes. -/
theorem Die.pinsLow_low (d : Die) : (∀ x ∈ d.pinsLow.pins, x.2.high = false) ∧ d.pinsLow.tallies = d.tallies := by
  unfold Die.pinsLow
  dsimp only
  refine ⟨?_, (foldl_keeps Die.tallies (fun d (x : Nat × TrigPin) => d.emit (.trig x.1 false)) (fun _ _ => rfl) _ _).trans rfl⟩
  rw [Die.foldl_emit_pins]
  intro x hx
  obtain ⟨y, -, rfl⟩ := List.mem_map.mp (List.mem_of_mem_filter hx)
  rfl

/-- What one kill tick does to the machine, the pins and the two tallies. -/
theorem State.killTick_eq (a b : Bool) (s : State) (hrun : s.kill.running = true) :
    (s.killTick a b).kill = (s.kill.step a b).1 ∧ (s.killTick a b).cel = s.cel
    ∧ ((s.kill.step a b).1.blocked = true → ∀ x ∈ (s.killTick a b).die.pins, x.2.high = false)
    ∧ ((s.kill.step a b).2 = (true, false) → (s.killTick a b).die.tally T.CHK_KILLS = tallyAdd (s.die.tally T.CHK_KILLS) 1)
    ∧ ((s.kill.step a b).2 = (false, true) → (s.killTick a b).die.tally T.CHK_KILL_DISCREPANCY = tallyAdd (s.die.tally T.CHK_KILL_DISCREPANCY) 1) := by
  have hpins (d : Die) (t : Tal) : (if (s.kill.step a b).1.blocked then d.pinsLow else d).tally t = d.tally t := by
    split
    · rw [Die.tally, d.pinsLow_low.2]
      rfl
    · rfl
  unfold State.killTick
  rw [if_pos hrun]
  refine ⟨rfl, rfl, fun hb => ?_, fun hc => ?_, fun hc => ?_⟩
  · dsimp only
    rw [if_pos hb]
    exact (Die.pinsLow_low _).1
  · dsimp only
    rw [hpins, hc]
    exact ((Die.traced_incident _ _ _ _ _).tally _ _ rfl).trans (Die.tally_count_same _ _ _ rfl)
  · dsimp only
    rw [hpins, hc]
    exact ((Die.traced_incident _ _ _ _ _).tally _ _ rfl).trans (Die.tally_count_same _ _ _ rfl)

/-- What the settling of a pulse on input i may touch. -/
structure Die.PulseFrame (i : Nat) (d f : Die) : Prop where
  tiles : f.tiles = d.tiles
  others : ∀ j, j ≠ i → f.trigin j = d.trigin j
  get : ∀ (g : Fld) (j : Nat), reportWord (g.key j / 32) = false → f.get g j = d.get g j

theorem Die.PulseFrame.trans {i : Nat} {d f g : Die} (h : d.PulseFrame i f) (k : f.PulseFrame i g) : d.PulseFrame i g :=
  ⟨k.tiles.trans h.tiles, fun j hj => (k.others j hj).trans (h.others j hj), fun x j hx => (k.get x j hx).trans (h.get x j hx)⟩

@[simp] theorem Die.trigin_onTrigin_same (i : Nat) (f : TrigIn → TrigIn) (d : Die) : (d.onTrigin i f).trigin i = f (d.trigin i) := by
  unfold Die.trigin Die.onTrigin
  exact KMap.get_upd_same _ _ _ _

theorem Die.trigin_onTrigin_other (i j : Nat) (f : TrigIn → TrigIn) (d : Die) (h : j ≠ i) : (d.onTrigin i f).trigin j = d.trigin j := by
  unfold Die.trigin Die.onTrigin
  exact KMap.get_upd_other _ _ _ _ _ h

theorem Die.report.trigin {d f : Die} (h : d.report f) (i : Nat) : f.trigin i = d.trigin i := by
  unfold Die.trigin
  rw [(congrArg Die.trigIn h.1).trans rfl]

theorem Die.pulseFrame_onTrigin (i : Nat) (f : TrigIn → TrigIn) (d : Die) : d.PulseFrame i (d.onTrigin i f) :=
  ⟨rfl, fun j hj => Die.trigin_onTrigin_other i j f d hj, fun _ _ _ => rfl⟩

theorem Die.report.pulseFrame {d f : Die} (h : d.report f) (i : Nat) : d.PulseFrame i f :=
  ⟨(congrArg Die.tiles h.1).trans rfl, fun j _ => h.trigin j, fun g j hg => h.get g j hg⟩

/-- The settling of a pulse by the checks of R633, case by case. -/
theorem Die.settlePulse_masked {i first width fc16 : Nat} {d : Die} (h : d.trigMasked i = true) : d.settlePulse i first width fc16 = d := if_pos h

theorem Die.settlePulse_short {i first width fc16 : Nat} {d : Die} (h : d.trigMasked i = false) (hs : width < d.get (R.PWR_TRIGIN_MINW i)) :
    d.settlePulse i first width fc16 = d.count T.CHK_TRIGIN_GLITCH 0 := by
  unfold Die.settlePulse
  rw [h, if_neg Bool.false_ne_true, if_pos hs]

/-- A pulse begins in the dead time of the one before it. -/
def Die.inDead (d : Die) (i first : Nat) : Prop := ∃ a, (d.trigin i).lastAcc = some a ∧ first < a + d.get (R.PWR_TRIGIN_DEAD i) * 16

theorem Die.settlePulse_late {i first width fc16 : Nat} {d : Die} (h : d.trigMasked i = false) (hs : ¬ width < d.get (R.PWR_TRIGIN_MINW i))
    (hl : d.inDead i first) : d.settlePulse i first width fc16 = d.count (T.CHK_TRIGIN_RATE_DROP i) 0 := by
  obtain ⟨a, ha, hlt⟩ := hl
  unfold Die.settlePulse
  rw [h, if_neg Bool.false_ne_true, if_neg hs]
  dsimp only
  rw [ha]
  exact if_pos (decide_eq_true hlt)

theorem Die.settlePulse_taken {i first width fc16 : Nat} {d : Die} (h : d.trigMasked i = false) (hs : ¬ width < d.get (R.PWR_TRIGIN_MINW i))
    (hl : ¬ d.inDead i first) : d.settlePulse i first width fc16 = (if 16 ≤ (d.trigin i).queue.length
      then (d.onTrigin i (fun x => { x with lastAcc := some first })).count T.CHK_TRIGIN_CAP_OVF 0
      else (d.onTrigin i (fun x => { x with lastAcc := some first })).onTrigin i (fun x => { x with queue := x.queue ++ [fc16] })) := by
  have hlate : (match (d.trigin i).lastAcc with | some a => decide (first < a + d.get (R.PWR_TRIGIN_DEAD i) * 16) | none => false) = false := by
    cases ha : (d.trigin i).lastAcc with
    | none => rfl
    | some a => exact decide_eq_false (fun hlt => hl ⟨a, ha, hlt⟩)
  unfold Die.settlePulse
  rw [h, if_neg Bool.false_ne_true, if_neg hs]
  dsimp only
  rw [if_neg (by rw [Bool.not_eq_true]; exact hlate), Die.trigin_onTrigin_same]

theorem Die.settlePulse_frame (i first width fc16 : Nat) (d : Die) : d.PulseFrame i (d.settlePulse i first width fc16) := by
  cases hm : d.trigMasked i with
  | true => rw [Die.settlePulse_masked hm]; exact d.report_refl.pulseFrame i
  | false =>
    by_cases hs : width < d.get (R.PWR_TRIGIN_MINW i)
    · rw [Die.settlePulse_short hm hs]; exact (d.report_count _ _).pulseFrame i
    · by_cases hl : d.inDead i first
      · rw [Die.settlePulse_late hm hs hl]; exact (d.report_count _ _).pulseFrame i
      · rw [Die.settlePulse_taken hm hs hl]
        split
        · exact (d.pulseFrame_onTrigin i _).trans ((Die.report_count _ _ _).pulseFrame i)
        · exact (d.pulseFrame_onTrigin i _).trans (Die.pulseFrame_onTrigin i _ _)

/-- A register's write leaves in a locked field, while its page's lock is off, the value it carries, a reserved one apart (R15, R17). -/
theorem Die.get_setFields_rwl (b : Block) (i off w : Nat) (d : Die) (x : WField) (hx : x ∈ fieldsAt b off) (hacc : x.fld.acc = .rwl)
    (hword : blockAddr b i 0 + 0xF00 ≠ blockAddr b i off) (hlock : d.on (pageLock (blockAddr b i 0)) = false) :
    (d.setFields b i off w).get x.fld i = if x.ok (bits w x.fld.lo x.fld.width) then bits w x.fld.lo x.fld.width else d.get x.fld i := by
  obtain ⟨e, hsame, hother, heq⟩ := d.get_setFields_write b i off w x hx
  have hkey : (pageLock (blockAddr b i 0)).key 0 / 32 = blockAddr b i 0 + 0xF00 := by simp only [Fld.key, pageLock]; omega
  have helock : e.on (pageLock (blockAddr b i 0)) = false := by
    rw [Die.on, hother _ _ (by rw [hkey]; exact hword)]
    exact hlock
  have hbits : bits w x.fld.lo x.fld.width % 2 ^ x.fld.width = bits w x.fld.lo x.fld.width := Nat.mod_eq_of_lt (Nat.mod_lt _ (by positivity))
  rw [heq, WField.write, hacc, helock]
  cases hok : x.ok (bits w x.fld.lo x.fld.width) with
  | true => simp [hbits]
  | false => simpa using hsame

/-- The configuration of an input after a write of it with its page unlocked, and all that the write leaves. -/
structure Die.TriginSet (i w : Nat) (d f : Die) : Prop where
  frame : f = { d with regs := f.regs }
  enable : f.get (R.PWR_TRIGIN_ENABLE i) = bits w 24 1
  pol : f.get (R.PWR_TRIGIN_POL i) = bits w 25 1
  dead : f.get (R.PWR_TRIGIN_DEAD i) = bits w 8 8
  minw : 2 ≤ bits w 0 8 → f.get (R.PWR_TRIGIN_MINW i) = bits w 0 8
  masked : ∀ j, f.trigMasked j = d.trigMasked j

theorem Die.triginSet (i w : Nat) (d : Die) (hi : i < 8) (hlock : d.on (pageLock (blockAddr .PWR 0 0)) = false) :
    Die.TriginSet i w d (d.setFields .PWR 0 (0x040 + 4 * i) w) := by
  have hword : blockAddr .PWR 0 0 + 0xF00 ≠ blockAddr .PWR 0 (0x040 + 4 * i) := by
    rw [blockAddr_eq .PWR 0 (0x040 + 4 * i)]
    omega
  have hset (x : WField) (hx : x ∈ fieldsAt .PWR (0x040 + 4 * i)) (hacc : x.fld.acc = .rwl) := d.get_setFields_rwl .PWR 0 (0x040 + 4 * i) w x hx hacc hword hlock
  have hmem (x : WField) (hx : x ∈ [⟨R.PWR_TRIGIN_MINW i, fun v => 2 ≤ v && v ≤ 255⟩, ⟨R.PWR_TRIGIN_DEAD i, any⟩, ⟨R.PWR_TRIGIN_STUCK i, fun v => 1 ≤ v && v ≤ 255⟩,
      ⟨R.PWR_TRIGIN_ENABLE i, any⟩, ⟨R.PWR_TRIGIN_POL i, any⟩, (⟨R.PWR_TRIGIN_UNMASK i, any⟩ : WField)]) : x ∈ fieldsAt .PWR (0x040 + 4 * i) := by
    have hrow : fieldsAt .PWR (0x040 + 4 * i) = [⟨R.PWR_TRIGIN_MINW i, fun v => 2 ≤ v && v ≤ 255⟩, ⟨R.PWR_TRIGIN_DEAD i, any⟩,
        ⟨R.PWR_TRIGIN_STUCK i, fun v => 1 ≤ v && v ≤ 255⟩, ⟨R.PWR_TRIGIN_ENABLE i, any⟩, ⟨R.PWR_TRIGIN_POL i, any⟩, ⟨R.PWR_TRIGIN_UNMASK i, any⟩] := by
      interval_cases i <;> rfl
    rw [hrow]
    exact hx
  exact {
    frame := Die.setFields_regs _ _ _ _ _
    enable := (hset ⟨R.PWR_TRIGIN_ENABLE i, any⟩ (hmem _ (by simp)) rfl).trans (if_pos rfl)
    pol := (hset ⟨R.PWR_TRIGIN_POL i, any⟩ (hmem _ (by simp)) rfl).trans (if_pos rfl)
    dead := (hset ⟨R.PWR_TRIGIN_DEAD i, any⟩ (hmem _ (by simp)) rfl).trans (if_pos rfl)
    minw := fun h => by
      have h255 : bits w 0 8 ≤ 255 := Nat.le_of_lt_succ (Nat.mod_lt _ (by decide))
      refine (hset ⟨R.PWR_TRIGIN_MINW i, fun v => 2 ≤ v && v ≤ 255⟩ (hmem _ (by simp)) rfl).trans (if_pos ?_)
      change (decide (2 ≤ bits w 0 8) && decide (bits w 0 8 ≤ 255)) = true
      simp [h, h255]
    masked := fun j => by
      unfold Die.trigMasked
      rw [Die.get_setFields_other]
      rw [blockAddr_eq .PWR 0 (0x040 + 4 * i)]
      simp only [Fld.key, R.CHK_TRIGIN_STATUS_MASKED, show blockAddr .PWR 0 0 = 0x32000 from rfl]
      omega }

/-- The parts of a number with one bit set or cleared: what lies above the bit, the bit, what lies below. -/
theorem setBit_eq (n i : Nat) (b : Bool) : setBit n i b = (2 * (n / 2 ^ i / 2) + b2n b) * 2 ^ i + n % 2 ^ i := by
  have hsplit : n = 2 * (n / 2 ^ i / 2) * 2 ^ i + n / 2 ^ i % 2 * 2 ^ i + n % 2 ^ i := by
    rw [← Nat.add_mul, Nat.div_add_mod, Nat.mul_comm, Nat.div_add_mod]
  unfold setBit
  rw [Nat.add_mul]
  generalize 2 * (n / 2 ^ i / 2) * 2 ^ i = above, n / 2 ^ i % 2 * 2 ^ i = one, n % 2 ^ i = below at hsplit
  cases b <;> simp only [b2n, if_true, if_false, Bool.false_eq_true] <;> omega

/-- A bit of a number after one of its bits is set or cleared. -/
theorem bit_setBit (n i j : Nat) (b : Bool) : bit (setBit n i b) j = if j = i then b else bit n j := by
  have hP : 0 < 2 ^ i := by positivity
  have hlow : n % 2 ^ i < 2 ^ i := Nat.mod_lt _ hP
  have hb : b2n b < 2 := by cases b <;> decide
  have hhigh : setBit n i b / 2 ^ i = 2 * (n / 2 ^ i / 2) + b2n b := by
    rw [setBit_eq, Nat.add_comm, Nat.add_mul_div_right _ _ hP, Nat.div_eq_of_lt hlow, Nat.zero_add]
  have hmod : setBit n i b % 2 ^ i = n % 2 ^ i := by
    rw [setBit_eq, Nat.mul_comm, Nat.mul_add_mod, Nat.mod_mod]
  rcases Nat.lt_trichotomy j i with hji | rfl | hij
  · have hbelow (x : Nat) : bit x j = (x % 2 ^ i).testBit j := by
      rw [Nat.testBit_mod_two_pow, decide_eq_true hji, Bool.true_and, Nat.testBit_eq_decide_div_mod_eq]
      rfl
    rw [if_neg (by omega), hbelow, hbelow n, hmod]
  · rw [if_pos rfl, bit, hhigh, Nat.mul_add_mod, Nat.mod_eq_of_lt hb]
    cases b <;> rfl
  · obtain ⟨k, rfl⟩ := Nat.exists_eq_add_of_lt hij
    have habove (x : Nat) : x / 2 ^ (i + k + 1) = x / 2 ^ i / 2 / 2 ^ k := by
      rw [Nat.div_div_eq_div_mul, Nat.div_div_eq_div_mul, Nat.pow_add, Nat.pow_add]
      congr 1
      ring
    have hhalf : (2 * (n / 2 ^ i / 2) + b2n b) / 2 = n / 2 ^ i / 2 := by omega
    rw [if_neg (by omega), bit, bit, habove, habove n, hhigh, hhalf]

/-- A bit of a byte-wide field after one of its bits is set or cleared. -/
theorem bit_setBit_mask (n i j : Nat) (b : Bool) (hj : j < 8) : bit (setBit n i b % 2 ^ 8) j = if j = i then b else bit n j := by
  rw [← bit_setBit]
  have hbit (x : Nat) : bit x j = x.testBit j := by
    rw [Nat.testBit_eq_decide_div_mod_eq]
    rfl
  rw [hbit, hbit, Nat.testBit_mod_two_pow, decide_eq_true hj, Bool.true_and]

theorem Die.trigMasked_setMasked (i j : Nat) (b : Bool) (d : Die) (hj : j < 8) :
    (d.setMasked i b).trigMasked j = if j = i then b else d.trigMasked j := by
  unfold Die.trigMasked Die.setMasked
  rw [Die.get_put_same]
  exact bit_setBit_mask _ i j b hj

/-- A report leaves the masks. -/
theorem Die.report.trigMasked {d f : Die} (h : d.report f) (i : Nat) : f.trigMasked i = d.trigMasked i := by
  unfold Die.trigMasked
  rw [h.get _ _ rfl]

theorem Die.setMasked_trigin (i j : Nat) (b : Bool) (d : Die) : (d.setMasked i b).trigin j = d.trigin j := rfl
theorem Die.trigMasked_onTrigin (i j : Nat) (f : TrigIn → TrigIn) (d : Die) : (d.onTrigin i f).trigMasked j = d.trigMasked j := rfl
theorem Die.PulseFrame.trigMasked {i : Nat} {d f : Die} (h : d.PulseFrame i f) (j : Nat) : f.trigMasked j = d.trigMasked j := by
  unfold Die.trigMasked
  rw [h.get _ _ rfl]

/-- What a pulse that has ended leaves of its input (R633, R635). -/
theorem Die.settlePulse_settles (i first width fc16 : Nat) (d : Die) :
    (d.trigMasked i = true → ((d.settlePulse i first width fc16).trigin i).queue = (d.trigin i).queue ∧ (d.settlePulse i first width fc16).tallies = d.tallies)
    ∧ (d.trigMasked i = false → width < d.get (R.PWR_TRIGIN_MINW i) → ((d.settlePulse i first width fc16).trigin i).queue = (d.trigin i).queue
      ∧ (d.settlePulse i first width fc16).tally T.CHK_TRIGIN_GLITCH = tallyAdd (d.tally T.CHK_TRIGIN_GLITCH) 1)
    ∧ (d.trigMasked i = false → ¬ width < d.get (R.PWR_TRIGIN_MINW i) → d.inDead i first → loftTally ((T.CHK_TRIGIN_RATE_DROP i).key 0) = false →
      ((d.settlePulse i first width fc16).trigin i).queue = (d.trigin i).queue
      ∧ (d.settlePulse i first width fc16).tally (T.CHK_TRIGIN_RATE_DROP i) = tallyAdd (d.tally (T.CHK_TRIGIN_RATE_DROP i)) 1)
    ∧ (d.trigMasked i = false → ¬ width < d.get (R.PWR_TRIGIN_MINW i) → ¬ d.inDead i first → (d.trigin i).queue.length < 16 →
      ((d.settlePulse i first width fc16).trigin i).lastAcc = some first ∧ ((d.settlePulse i first width fc16).trigin i).queue = (d.trigin i).queue ++ [fc16]
      ∧ (d.settlePulse i first width fc16).tallies = d.tallies)
    ∧ (d.trigMasked i = false → ¬ width < d.get (R.PWR_TRIGIN_MINW i) → ¬ d.inDead i first → 16 ≤ (d.trigin i).queue.length →
      ((d.settlePulse i first width fc16).trigin i).queue = (d.trigin i).queue
      ∧ (d.settlePulse i first width fc16).tally T.CHK_TRIGIN_CAP_OVF = tallyAdd (d.tally T.CHK_TRIGIN_CAP_OVF) 1) := by
  refine ⟨fun hm => ?_, fun hm hs => ?_, fun hm hs hl hk => ?_, fun hm hs hl hq => ?_, fun hm hs hl hq => ?_⟩
  · rw [Die.settlePulse_masked hm]
    exact ⟨rfl, rfl⟩
  · rw [Die.settlePulse_short hm hs, (d.report_count _ _).trigin]
    exact ⟨rfl, Die.tally_count_same _ _ _ rfl⟩
  · rw [Die.settlePulse_late hm hs hl, (d.report_count _ _).trigin]
    exact ⟨rfl, Die.tally_count_same _ _ _ hk⟩
  · rw [Die.settlePulse_taken hm hs hl, if_neg (by omega), Die.trigin_onTrigin_same, Die.trigin_onTrigin_same]
    exact ⟨rfl, rfl, rfl⟩
  · rw [Die.settlePulse_taken hm hs hl, if_pos hq, (Die.report_count _ _ _).trigin, Die.trigin_onTrigin_same]
    exact ⟨rfl, Die.tally_count_same _ _ _ rfl⟩

/-- The settling of a pulse does not count an input as stuck. -/
theorem Die.settlePulse_stuckTally (i first width fc16 : Nat) (d : Die) (hi : i < 8) :
    (d.settlePulse i first width fc16).tally (T.CHK_TRIGIN_STUCK i) = d.tally (T.CHK_TRIGIN_STUCK i) := by
  have hloft : loftTally ((T.CHK_TRIGIN_STUCK i).key 0) = false := loftTally_false (by simp only [Tal.key, T.CHK_TRIGIN_STUCK]; omega)
  have hcount (t : Tal) (e : Die) (ht : (T.CHK_TRIGIN_STUCK i).key 0 ≠ t.key 0) : (e.count t 0).tally (T.CHK_TRIGIN_STUCK i) = e.tally (T.CHK_TRIGIN_STUCK i) :=
    Die.tally_countBy_other t 0 1 _ e hloft ht
  cases hm : d.trigMasked i with
  | true => rw [Die.settlePulse_masked hm]
  | false =>
    by_cases hs : width < d.get (R.PWR_TRIGIN_MINW i)
    · rw [Die.settlePulse_short hm hs, hcount _ _ (by simp only [Tal.key, T.CHK_TRIGIN_STUCK, T.CHK_TRIGIN_GLITCH]; omega)]
    · by_cases hl : d.inDead i first
      · rw [Die.settlePulse_late hm hs hl, hcount _ _ (by simp only [Tal.key, T.CHK_TRIGIN_STUCK, T.CHK_TRIGIN_RATE_DROP]; omega)]
      · rw [Die.settlePulse_taken hm hs hl]
        split
        · rw [hcount _ _ (by simp only [Tal.key, T.CHK_TRIGIN_STUCK, T.CHK_TRIGIN_CAP_OVF]; omega)]
          rfl
        · rfl

/-- A change of level by a write of POL touches the input alone (R633). -/
theorem Die.flipLevel_frame (i : Nat) (d : Die) : d.PulseFrame i (d.flipLevel i) := by
  have hdraw (e : Die) : e.PulseFrame i { e with free := e.free + 1 } := ⟨rfl, fun _ _ => rfl, fun _ _ _ => rfl⟩
  unfold Die.flipLevel
  split
  · exact ((hdraw d).trans (Die.settlePulse_frame _ _ _ _ _)).trans (Die.pulseFrame_onTrigin i _ _)
  · exact d.pulseFrame_onTrigin i _

/-- What precedes UNMASK in a write of an input's configuration: its fields, and the end of a pulse or of the queue (R633 to R635). -/
def triginConfig (i w : Nat) (d : Die) : Die :=
  let f := d.setFields .PWR 0 (0x040 + 4 * i) w
  if !(f.on (R.PWR_TRIGIN_ENABLE i)) then f.onTrigin i (fun x => { x with queue := [], active := if d.on (R.PWR_TRIGIN_ENABLE i) then none else x.active })
  else if d.on (R.PWR_TRIGIN_ENABLE i) && f.get (R.PWR_TRIGIN_POL i) != d.get (R.PWR_TRIGIN_POL i) then f.flipLevel i else f

theorem triginW_eq (i w : Nat) (d : Die) : triginW i w d = if bit w 31 then (triginConfig i w d).unmask i else triginConfig i w d := rfl

/-- An input's configuration is what was written (R633 to R635). -/
theorem triginConfig_sets (i w : Nat) (d : Die) (hi : i < 8) (hlock : d.on (pageLock (blockAddr .PWR 0 0)) = false) :
    (triginConfig i w d).tiles = d.tiles ∧ (∀ j, j ≠ i → (triginConfig i w d).trigin j = d.trigin j)
    ∧ (triginConfig i w d).on (R.PWR_TRIGIN_ENABLE i) = bit w 24 ∧ (triginConfig i w d).on (R.PWR_TRIGIN_POL i) = bit w 25
    ∧ (triginConfig i w d).get (R.PWR_TRIGIN_DEAD i) = bits w 8 8 ∧ (2 ≤ bits w 0 8 → (triginConfig i w d).get (R.PWR_TRIGIN_MINW i) = bits w 0 8)
    ∧ (bit w 24 = false → ((triginConfig i w d).trigin i).queue = []) ∧ (∀ j, (triginConfig i w d).trigMasked j = d.trigMasked j)
    ∧ (d.on (R.PWR_TRIGIN_ENABLE i) = true → bit w 24 = true → d.get (R.PWR_TRIGIN_POL i) = bits w 25 1 → (triginConfig i w d).trigin i = d.trigin i) := by
  obtain ⟨hregs, henable, hpol, hdead, hminw, hmasked⟩ := d.triginSet i w hi hlock
  unfold triginConfig
  dsimp only
  generalize d.setFields .PWR 0 (0x040 + 4 * i) w = f at hregs henable hpol hdead hminw hmasked
  have htrig (j : Nat) : f.trigin j = d.trigin j := by rw [hregs]; rfl
  have htiles : f.tiles = d.tiles := by rw [hregs]
  have hon : f.on (R.PWR_TRIGIN_ENABLE i) = bit w 24 := by rw [Die.on, henable, bit_eq_bits]
  have hpword (g : Fld) (hb : g.base = 0x32000) (hlo : g.lo < 32) (ho : g.off < 0x1000) : reportWord (g.key 0 / 32) = false := by
    have : g.key 0 / 32 = 0x32000 + g.off := by simp only [Fld.key, hb]; omega
    rw [this]
    exact reportWord_above (by omega) (by omega)
  have hfinish (e : Die) (he : f.PulseFrame i e) : e.tiles = d.tiles ∧ (∀ j, j ≠ i → e.trigin j = d.trigin j) ∧ e.on (R.PWR_TRIGIN_ENABLE i) = bit w 24
      ∧ e.on (R.PWR_TRIGIN_POL i) = bit w 25 ∧ e.get (R.PWR_TRIGIN_DEAD i) = bits w 8 8 ∧ (2 ≤ bits w 0 8 → e.get (R.PWR_TRIGIN_MINW i) = bits w 0 8)
      ∧ ∀ j, e.trigMasked j = d.trigMasked j := by
    have hget (g : Fld) (hb : g.base = 0x32000) (hlo : g.lo < 32) (ho : g.off < 0x1000) : e.get g = f.get g := he.get g 0 (hpword g hb hlo ho)
    refine ⟨he.tiles.trans htiles, fun j hj => (he.others j hj).trans (htrig j), ?_, ?_, ?_, fun h => ?_, fun j => (he.trigMasked j).trans (hmasked j)⟩
    · rw [Die.on, hget (R.PWR_TRIGIN_ENABLE i) rfl (by simp [R.PWR_TRIGIN_ENABLE]) (by simp only [R.PWR_TRIGIN_ENABLE]; omega), henable, bit_eq_bits]
    · rw [Die.on, hget (R.PWR_TRIGIN_POL i) rfl (by simp [R.PWR_TRIGIN_POL]) (by simp only [R.PWR_TRIGIN_POL]; omega), hpol, bit_eq_bits]
    · rw [hget (R.PWR_TRIGIN_DEAD i) rfl (by simp [R.PWR_TRIGIN_DEAD]) (by simp only [R.PWR_TRIGIN_DEAD]; omega), hdead]
    · rw [hget (R.PWR_TRIGIN_MINW i) rfl (by simp [R.PWR_TRIGIN_MINW]) (by simp only [R.PWR_TRIGIN_MINW]; omega), hminw h]
  split
  case isTrue hoff =>
    obtain ⟨h1, h2, h3, h4, h5, h6, h7⟩ := hfinish _ (f.pulseFrame_onTrigin i _)
    refine ⟨h1, h2, h3, h4, h5, h6, fun _ => by rw [Die.trigin_onTrigin_same], h7, fun _ h24 => ?_⟩
    rw [hon, h24] at hoff
    cases hoff
  case isFalse hstays =>
    have h24 : bit w 24 = true := by rw [← hon]; simpa using hstays
    split
    case isTrue hflip =>
      obtain ⟨h1, h2, h3, h4, h5, h6, h7⟩ := hfinish _ (f.flipLevel_frame i)
      refine ⟨h1, h2, h3, h4, h5, h6, fun h => absurd (h24.symm.trans h) (by decide), h7, fun _ _ hsame => ?_⟩
      rw [hpol, hsame] at hflip
      simp at hflip
    case isFalse =>
      obtain ⟨h1, h2, h3, h4, h5, h6, h7⟩ := hfinish f ⟨rfl, fun _ _ => rfl, fun _ _ _ => rfl⟩
      exact ⟨h1, h2, h3, h4, h5, h6, fun h => absurd (h24.symm.trans h) (by decide), h7, fun _ _ _ => htrig i⟩

/-- What PWR_KILL's T takes leaves the machine's state and the T in force (R637). -/
theorem Kill.setT_keeps (locked : Bool) (w : Nat) (k : Kill) : (k.setT locked w).st = k.st ∧ (k.setT locked w).nt = k.nt ∧ (k.setT locked w).quiet = k.quiet := by
  unfold Kill.setT
  dsimp only
  split <;> exact ⟨rfl, rfl, rfl⟩

/-- A stuck input: its pulse is settled as one that begins where it began, and the input is masked (R633, R634). -/
theorem Die.triginStuck_settles (i fc16 : Nat) (d : Die) (hon : d.on (R.PWR_TRIGIN_ENABLE i) = true) (hm : d.trigMasked i = false) :
    ∃ first, (∀ a, (d.trigin i).active = some a → first = a)
      ∧ d.triginStuck i fc16 = (((d.settlePulse i first (d.get (R.PWR_TRIGIN_STUCK i) * 2000) fc16).setMasked i true).count (T.CHK_TRIGIN_STUCK i) 0).onTrigin i
        (fun x => { x with active := some first }) := by
  unfold Die.triginStuck
  rw [if_pos (by rw [hon, hm]; rfl)]
  exact ⟨_, fun a ha => by rw [ha], rfl⟩

/-- Settles O53: the tick from each state, the write of PWR_KILL, and each way a pulse settles. -/
theorem inputsSettle : Obligations.InputsSettle := by
  unfold Obligations.InputsSettle
  intro s
  refine ⟨fun a b hrun => ?_, fun src w ha => ⟨fun hclear => ?_, fun hno => ?_⟩, fun i hi => ⟨fun first width cap hon => ?_, fun hon hm cap => ?_, fun src w ha hlock =>
    ⟨fun h31 => ?_, fun raw h31 hon h24 hpol => ?_⟩⟩⟩
  · obtain ⟨hkill, hcel, hpins, hkills, hdisc⟩ := s.killTick_eq a b hrun
    obtain ⟨fa, fb, ftick, frun, fblocked⟩ := s.kill.step_fields a b
    refine ⟨_, rfl, ?_⟩
    dsimp only
    rw [hkill]
    refine ⟨hcel, fa, fb, ftick, frun.trans hrun, fblocked, fun hst => hpins (fblocked.mpr hst), fun hst => ?_, fun hst => ?_, fun hst => s.kill.step_normal a b hst,
      fun hst => s.kill.step_fault a b hst⟩
    · obtain ⟨hquiet, hin, hone⟩ := s.kill.step_idle a b hst
      exact ⟨hquiet, fun h => ⟨(hin h).1, hkills (hin h).2⟩, hone⟩
    · obtain ⟨hlate, hok⟩ := s.kill.step_wait a b hst
      exact ⟨fun h => ⟨(hlate h).1, hdisc (hlate h).2⟩, hok⟩
  · refine ⟨_, rfl, ?_⟩
    obtain ⟨hst, hnt, hquiet⟩ := s.kill.setT_keeps (s.die.on (pageLock (blockAddr .PWR 0 0))) w.toNat
    have hblocked := s.kill.setT_blocked (s.die.on (pageLock (blockAddr .PWR 0 0))) w.toNat
    dsimp only
    rw [writeAt_admitted ha, pwrKillW]
    dsimp only
    rw [if_pos hclear]
    generalize s.kill.setT (s.die.on (pageLock (blockAddr .PWR 0 0))) w.toNat = k at hst hnt hquiet hblocked
    by_cases hidle : k.st = .fault ∧ k.nt + 1 ≤ k.quiet
    · rw [Kill.clear, if_pos hidle, ← hst, ← hnt, ← hquiet, ← hblocked]
      exact ⟨⟨rfl, rfl, rfl, rfl⟩, fun _ _ => rfl, fun h => h.elim (fun h => absurd hidle.1 h) (fun h => absurd hidle.2 (by omega))⟩
    · rw [Kill.clear, if_neg hidle, ← hst, ← hnt, ← hquiet, ← hblocked]
      exact ⟨⟨rfl, rfl, rfl, rfl⟩, fun h1 h2 => absurd ⟨h1, h2⟩ hidle, fun _ => rfl⟩
  · refine ⟨_, rfl, ?_⟩
    obtain ⟨hst, hnt, -⟩ := s.kill.setT_keeps (s.die.on (pageLock (blockAddr .PWR 0 0))) w.toNat
    have hblocked := s.kill.setT_blocked (s.die.on (pageLock (blockAddr .PWR 0 0))) w.toNat
    dsimp only
    rw [writeAt_admitted ha, pwrKillW]
    dsimp only
    rw [if_neg (by rw [hno]; exact Bool.false_ne_true)]
    refine ⟨⟨rfl, hst, hblocked, hnt⟩, fun ⟨hlock, hlo, hhi⟩ => ?_, fun hnot => ?_⟩
    · rw [Kill.setT, if_neg]
      simp only [hlock, Bool.or_eq_true, decide_eq_true_eq, Bool.false_eq_true, false_or]
      omega
    · rw [Kill.setT, if_pos]
      by_contra h
      simp only [Bool.or_eq_true, decide_eq_true_eq, not_or] at h
      obtain ⟨⟨hlock, hlo⟩, hhi⟩ := h
      exact hnot ⟨by simpa using hlock, by omega, by omega⟩
  · have hgoes (P : Die → Prop) (hP : ((s.die.settlePulse i first width (s.cel.capFc (2 + i) false cap)).onTrigin i (fun x => { x with active := none })).tiles
        = s.die.tiles → P ((s.die.settlePulse i first width (s.cel.capFc (2 + i) false cap)).onTrigin i (fun x => { x with active := none }))) :
        s.completes (.triginPulse i first width cap) (fun t => t = { s with die := t.die } ∧ t.die.tiles = s.die.tiles
          ∧ (∀ j, j < 8 → j ≠ i → t.die.trigin j = s.die.trigin j) ∧ (t.die.trigin i).active = none ∧ P t.die) := by
      have hframe := (s.die.settlePulse_frame i first width (s.cel.capFc (2 + i) false cap)).trans (Die.pulseFrame_onTrigin i (fun x => { x with active := none }) _)
      refine ⟨_, (if_pos (decide_eq_true hi)).trans (congrArg _ (if_pos hon)), rfl, hframe.tiles, fun j _ hj => hframe.others j hj, ?_, hP hframe.tiles⟩
      rw [Die.trigin_onTrigin_same]
    obtain ⟨hmask, hshort, hlate, htaken, hfull⟩ := s.die.settlePulse_settles i first width (s.cel.capFc (2 + i) false cap)
    have hrate : loftTally ((T.CHK_TRIGIN_RATE_DROP i).key 0) = false := loftTally_false (by simp only [Tal.key, T.CHK_TRIGIN_RATE_DROP]; omega)
    refine ⟨fun hm => hgoes (fun e => (e.trigin i).queue = (s.die.trigin i).queue ∧ e.tallies = s.die.tallies) (fun _ => ?_),
      fun hm hs => hgoes (fun e => (e.trigin i).queue = (s.die.trigin i).queue
        ∧ e.tally T.CHK_TRIGIN_GLITCH = tallyAdd (s.die.tally T.CHK_TRIGIN_GLITCH) 1) (fun _ => ?_),
      fun hm hs hl => hgoes (fun e => (e.trigin i).queue = (s.die.trigin i).queue
        ∧ e.tally (T.CHK_TRIGIN_RATE_DROP i) = tallyAdd (s.die.tally (T.CHK_TRIGIN_RATE_DROP i)) 1) (fun _ => ?_),
      fun hm hs hl hq =>
      hgoes (fun e => (e.trigin i).lastAcc = some first ∧ (e.trigin i).queue = (s.die.trigin i).queue ++ [s.cel.capFc (2 + i) false cap]
        ∧ e.tallies = s.die.tallies) (fun _ => ?_),
      fun hm hs hl hq => hgoes (fun e => (e.trigin i).queue = (s.die.trigin i).queue
        ∧ e.tally T.CHK_TRIGIN_CAP_OVF = tallyAdd (s.die.tally T.CHK_TRIGIN_CAP_OVF) 1) (fun _ => ?_)⟩
    · rw [Die.trigin_onTrigin_same]
      exact hmask hm
    · rw [Die.trigin_onTrigin_same]
      exact hshort hm hs
    · rw [Die.trigin_onTrigin_same]
      exact hlate hm hs hl hrate
    · rw [Die.trigin_onTrigin_same]
      exact htaken hm hs hl hq
    · rw [Die.trigin_onTrigin_same]
      exact hfull hm hs hl hq
  · refine State.completes_dieCmd (f := fun s => s.die.triginStuck i (s.cel.capFc (2 + i) false cap)) rfl (decide_eq_true hi) ?_
    obtain ⟨first, hfirst, heq⟩ := s.die.triginStuck_settles i (s.cel.capFc (2 + i) false cap) hon hm
    rw [heq]
    have hframe := s.die.settlePulse_frame i first (s.die.get (R.PWR_TRIGIN_STUCK i) * 2000) (s.cel.capFc (2 + i) false cap)
    have htaken := (s.die.settlePulse_settles i first (s.die.get (R.PWR_TRIGIN_STUCK i) * 2000) (s.cel.capFc (2 + i) false cap)).2.2.2.1
    have htally := s.die.settlePulse_stuckTally i first (s.die.get (R.PWR_TRIGIN_STUCK i) * 2000) (s.cel.capFc (2 + i) false cap) hi
    generalize s.die.settlePulse i first (s.die.get (R.PWR_TRIGIN_STUCK i) * 2000) (s.cel.capFc (2 + i) false cap) = f at hframe htaken htally
    have hreport := (f.setMasked i true).report_count (T.CHK_TRIGIN_STUCK i) 0
    have hstuck : loftTally ((T.CHK_TRIGIN_STUCK i).key 0) = false := loftTally_false (by simp only [Tal.key, T.CHK_TRIGIN_STUCK]; omega)
    refine ⟨rfl, ?_, fun j _ hj => ?_, ?_, fun j hj8 hj => ?_, ?_, ?_, fun a ha hdead hmin hq => ?_⟩
    · exact ((congrArg Die.tiles hreport.1).trans rfl).trans hframe.tiles
    · rw [Die.trigin_onTrigin_other _ _ _ _ hj, hreport.trigin, Die.setMasked_trigin, hframe.others j hj]
    · rw [Die.trigMasked_onTrigin, hreport.trigMasked, Die.trigMasked_setMasked _ _ _ _ hi, if_pos rfl]
    · rw [Die.trigMasked_onTrigin, hreport.trigMasked, Die.trigMasked_setMasked _ _ _ _ hj8, if_neg hj, hframe.trigMasked]
    · exact (Die.tally_count_same _ _ _ hstuck).trans (congrArg (tallyAdd · 1) htally)
    · rw [Die.trigin_onTrigin_same]
      exact Option.some_ne_none _
    · rw [Die.trigin_onTrigin_same, hreport.trigin, Die.setMasked_trigin]
      have hfa := hfirst a ha
      exact (htaken hm (by omega) (fun ⟨b, hb, hlt⟩ => by have := hdead b hb; omega) hq).2.1
  · refine State.completes_dieCmd (f := writeDie src (blockAddr .PWR 0 (0x040 + 4 * i)) (triginW i w.toNat)) rfl (decide_eq_true hi) ?_
    rw [writeDie_admitted ha, triginW_eq, if_neg (by rw [h31]; exact Bool.false_ne_true)]
    obtain ⟨h1, h2, h3, h4, h5, h6, h7, -⟩ := triginConfig_sets i w.toNat s.die hi hlock
    exact ⟨rfl, h1, fun j _ hj => h2 j hj, h3, h4, h5, h6, h7⟩
  · refine State.completes_dieCmd (f := writeDie src (blockAddr .PWR 0 (0x040 + 4 * i)) (unmaskW i raw w.toNat)) rfl (decide_eq_true hi) ?_
    rw [writeDie_admitted ha, unmaskW, triginW_eq, if_pos h31]
    generalize hg : s.die.onTrigin i (fun x => { x with active := if raw then (match x.active with | some f => some f | none => some s.die.nowCc) else none }) = g
    have hframe : s.die.PulseFrame i g := hg ▸ s.die.pulseFrame_onTrigin i _
    have hactive : (g.trigin i).active.isSome = raw := by
      rw [← hg, Die.trigin_onTrigin_same]
      cases raw with
      | false => rfl
      | true => dsimp only; rw [if_pos rfl]; split <;> rfl
    have hregs (x : Fld) (j : Nat) : g.get x j = s.die.get x j := by rw [← hg]; rfl
    obtain ⟨h1, h2, -, -, -, -, -, h8, h9⟩ := triginConfig_sets i w.toNat g hi (by rw [Die.on, hregs]; exact hlock)
    have hinput := h9 (by rw [Die.on, hregs]; exact hon) h24 (by rw [hregs]; exact hpol)
    unfold Die.unmask
    rw [hinput, hactive]
    cases raw with
    | false =>
      rw [if_neg Bool.false_ne_true]
      refine ⟨rfl, h1.trans hframe.tiles, fun j _ hj => (h2 j hj).trans (hframe.others j hj), fun _ => ?_, fun h => by cases h⟩
      rw [Die.trigMasked_setMasked _ _ _ _ hi, if_pos rfl]
    | true =>
      rw [if_pos rfl]
      refine ⟨rfl, h1.trans hframe.tiles, fun j _ hj => (h2 j hj).trans (hframe.others j hj), fun h => (by cases h), fun _ => ⟨?_, ?_⟩⟩
      · rw [Die.on, Die.flag, Die.get_put_same]
        rfl
      · refine Eq.trans ?_ ((h8 i).trans (hframe.trigMasked i))
        unfold Die.trigMasked
        rw [Die.flag, Die.get_put_apart _ _ _ _ _ (by decide)]

end Sys2Proof.Machine
end

section
/-! SUPPORT. Timing changes and the master PLL (R30 to R33, R35, R302, R367, R577). -/

namespace Sys2Proof.Machine

/-- A command that is an action on the die, by what the action gives. -/
theorem State.completes_onDie {s : State} {c : Instr} {f : Die → Die} {e : Die} {P : State → Prop} (hc : exec c s = .next (onDie f s)) (he : f s.die = e)
    (h : P { s with die := e }) : s.completes c P := ⟨_, hc, by rw [onDie, he]; exact h⟩

/-- A time-mode request is held to the speed grade and the profile (R32). -/
theorem Fused.timingRefuse_eq (f : Fused) (y mode point : Nat) (hmode : mode ≤ 1) : f.timingRefuse y mode point
    = if f.maxMHz < pointMHz point then 2 else if (point = 2 ∧ y ≠ 0) ∨ (mode = 1 ∧ y = 2) then 3 else 0 := by
  unfold Fused.timingRefuse Fused.lockedRefuse Fused.pointRefuse
  by_cases hgrade : f.maxMHz < pointMHz point
  · simp [hgrade]
  · by_cases hpoint : point = 2 ∧ y ≠ 0
    · obtain ⟨rfl, hy⟩ := hpoint
      have : mode = 0 ∨ mode = 1 := by omega
      rcases this with rfl | rfl
      · simp [hgrade, hy]
      · simp [hgrade, hy]
    · have : mode = 0 ∨ mode = 1 := by omega
      rcases this with rfl | rfl
      · simp [hgrade, hpoint]
      · simp [hgrade, hpoint]

/-- Where no admission is in progress none is aborted (R302). -/
theorem Die.abortAdmissions_none (code : Nat) (d : Die) (h : ∀ p, p < 64 → d.on R.PAS_ADMIT_STATUS_BUSY p = false) : d.abortAdmissions code = d := by
  unfold Die.abortAdmissions
  have key (l : List Nat) (hl : ∀ p ∈ l, p < 64) : l.foldl (fun d p =>
      if d.on R.PAS_ADMIT_STATUS_BUSY p && (d.pasture p).leaving == 0 then d.abortAdmission p code else d) d = d := by
    induction l with
    | nil => rfl
    | cons p l ih =>
      rw [List.foldl_cons, if_neg (by rw [h p (hl p List.mem_cons_self)]; exact Bool.false_ne_true)]
      exact ih (fun q hq => hl q (List.mem_cons_of_mem _ hq))
  exact key _ (fun p hp => List.mem_range.mp hp)

/-- The code that a request for a change of timing is answered with (R31, R32). -/
def Die.timingCode (fu : Fused) (mode point : Nat) (d : Die) : Nat :=
  let now := fu.timingRefuse (d.get R.PWR_STATUS_PROFILE) mode point
  let soon := match d.profilePending with | some y => fu.timingRefuse y mode point | none => 0
  if d.anyAdmitted then 1 else if now ≠ 0 then now else if soon ≠ 0 then soon
    else if mode = 0 ∨ d.on R.DEV_TIMING_STATUS_PLL_LOCK = true then 0 else 4

/-- The answer to a request with its code (R31). -/
def Die.timingAnswered (code : Nat) (req : Nat × Nat) (d : Die) : Die :=
  let d := d.put R.DEV_TIMING_STATUS_REFUSE 0 code
  if code = 0 then { d.flag R.DEV_TIMING_STATUS_BUSY 0 true with timingPending := some req } else d

theorem Die.timingApply_answers (fu : Fused) (d : Die) (hbusy : d.on R.DEV_TIMING_STATUS_BUSY = false)
    (hnone : ∀ p, p < 64 → d.on R.PAS_ADMIT_STATUS_BUSY p = false) :
    d.timingApply fu = d.timingAnswered (d.timingCode fu (d.get R.DEV_TIMING_MODE) (d.get R.DEV_TIMING_POINT)) (d.get R.DEV_TIMING_MODE, d.get R.DEV_TIMING_POINT) := by
  unfold Die.timingApply
  rw [if_neg (by rw [hbusy]; exact Bool.false_ne_true)]
  dsimp only
  rw [Die.abortAdmissions_none _ _ hnone]
  rfl

/-- What an answer leaves in the status and in what is to come. -/
theorem Die.timingAnswered_sets (code : Nat) (req : Nat × Nat) (d : Die) (hcode : code < 16) (hbusy : d.on R.DEV_TIMING_STATUS_BUSY = false) :
    (d.timingAnswered code req).tiles = d.tiles ∧ (d.timingAnswered code req).pas = d.pas
    ∧ (d.timingAnswered code req).get R.DEV_TIMING_STATUS_REFUSE = code
    ∧ (d.timingAnswered code req).get R.DEV_TIMING_STATUS_MODE = d.get R.DEV_TIMING_STATUS_MODE
    ∧ (code = 0 → (d.timingAnswered code req).on R.DEV_TIMING_STATUS_BUSY = true ∧ (d.timingAnswered code req).timingPending = some req)
    ∧ (code ≠ 0 → (d.timingAnswered code req).on R.DEV_TIMING_STATUS_BUSY = false ∧ (d.timingAnswered code req).timingPending = d.timingPending) := by
  have hpend (e : Die) (x : Option (Nat × Nat)) (f : Fld) : ({ e with timingPending := x } : Die).get f = e.get f := rfl
  have hmod : code % 2 ^ R.DEV_TIMING_STATUS_REFUSE.width = code := Nat.mod_eq_of_lt hcode
  unfold Die.timingAnswered
  dsimp only
  by_cases h0 : code = 0
  · rw [if_pos h0]
    simp (disch := decide) only [Die.on, hpend, Die.flag, Die.get_put_apart, Die.get_put_same]
    exact ⟨rfl, rfl, hmod, trivial, fun _ => ⟨rfl, trivial⟩, fun h => absurd h0 h⟩
  · rw [if_neg h0]
    simp (disch := decide) only [Die.on, Die.get_put_apart, Die.get_put_same]
    exact ⟨rfl, rfl, hmod, trivial, fun h => absurd h h0, fun _ => ⟨hbusy, rfl⟩⟩

/-- The code is one of the few of REFUSE. -/
theorem Die.timingCode_lt (fu : Fused) (mode point : Nat) (d : Die) (hmode : mode ≤ 1) : d.timingCode fu mode point < 16 := by
  have hle (y : Nat) : fu.timingRefuse y mode point < 16 := by
    rw [Fused.timingRefuse_eq _ _ _ _ hmode]
    split_ifs <;> decide
  have hsoon : (match d.profilePending with | some y => fu.timingRefuse y mode point | none => 0) < 16 := by
    cases d.profilePending with
    | none => exact Nat.zero_lt_succ 15
    | some y => exact hle y
  unfold Die.timingCode
  dsimp only
  split_ifs
  · decide
  · exact hle _
  · exact hsoon
  · decide
  · decide

/-- An alarm leaves what a report leaves. -/
theorem Die.alarm_get (b : Nat) (hb : b < 32) (d : Die) (f : Fld) (hf : reportWord (f.key 0 / 32) = false) : (d.alarm b).get f = d.get f :=
  (d.report_alarm b hb).get f 0 hf

/-- Settles O48: the answer to APPLY, and each event of the PLL. -/
theorem timingChanges : Obligations.TimingChanges := by
  unfold Obligations.TimingChanges
  intro s
  refine ⟨fun src w ha h31 hbusy hnone hmode hpoint => ?_, fun m p hp => ?_, fun href hlock => ?_, fun hwait => ?_, fun href hhold hlock => ?_, fun hpull => ?_⟩
  · refine State.completes_dieCmd (f := fun s => writeDie src (blockAddr .DEV 0 0x010) (devTimingW s.fused w.toNat) s) rfl rfl ?_
    dsimp only
    rw [writeDie_admitted ha, devTimingW, if_pos h31]
    have hregs := s.die.setFields_regs .DEV 0 0x010 w.toNat
    have hget (f : Fld) (i : Nat) (hf : f.key i / 32 ≠ 0x10) := Die.get_setFields_other .DEV 0 0x010 w.toNat s.die f i hf
    have hm := (Die.get_setFields_rw .DEV 0 0x010 w.toNat s.die ⟨R.DEV_TIMING_MODE, fun v => v ≤ 1⟩ (by simp [fieldsAt, Block.regs, regsDEV]) rfl).trans
      (if_pos (decide_eq_true hmode))
    have hp := (Die.get_setFields_rw .DEV 0 0x010 w.toNat s.die ⟨R.DEV_TIMING_POINT, fun v => v ≤ 2⟩ (by simp [fieldsAt, Block.regs, regsDEV]) rfl).trans
      (if_pos (decide_eq_true hpoint))
    generalize s.die.setFields .DEV 0 0x010 w.toNat = d at hregs hget hm hp
    have hcode : d.timingCode s.fused (bits w.toNat 0 2) (bits w.toNat 4 2) = s.die.timingCode s.fused (bits w.toNat 0 2) (bits w.toNat 4 2) := by
      unfold Die.timingCode
      rw [hget R.PWR_STATUS_PROFILE 0 (by decide), Die.on, hget R.DEV_TIMING_STATUS_PLL_LOCK 0 (by decide), hregs]
      rfl
    have hb : d.on R.DEV_TIMING_STATUS_BUSY = false := by
      rw [Die.on, hget R.DEV_TIMING_STATUS_BUSY 0 (by decide)]
      exact hbusy
    have hn (p : Nat) (hp : p < 64) : d.on R.PAS_ADMIT_STATUS_BUSY p = false := by
      rw [Die.on, hget R.PAS_ADMIT_STATUS_BUSY p (by simp only [Fld.key, R.PAS_ADMIT_STATUS_BUSY]; omega)]
      exact hnone p hp
    have hmode' : d.get R.DEV_TIMING_MODE = bits w.toNat 0 2 := hm
    have hpoint' : d.get R.DEV_TIMING_POINT = bits w.toNat 4 2 := hp
    rw [d.timingApply_answers _ hb hn, hmode', hpoint', hcode]
    obtain ⟨htiles, hpas, hrefuse, hstands, hgo, hno⟩ := d.timingAnswered_sets (s.die.timingCode s.fused (bits w.toNat 0 2) (bits w.toNat 4 2))
      (bits w.toNat 0 2, bits w.toNat 4 2) (Die.timingCode_lt _ _ _ _ hmode) hb
    have htp : d.timingPending = s.die.timingPending := by rw [hregs]
    rw [htp] at hno
    rw [hget R.DEV_TIMING_STATUS_MODE 0 (by decide)] at hstands
    generalize hc : s.die.timingCode s.fused (bits w.toNat 0 2) (bits w.toNat 4 2) = c at htiles hpas hrefuse hstands hgo hno ⊢
    generalize d.timingAnswered c (bits w.toNat 0 2, bits w.toNat 4 2) = e at htiles hpas hrefuse hstands hgo hno ⊢
    have hend (x : Nat) (hx : c = x) : { s with die := e } = { s with die := e } ∧ e.tiles = s.die.tiles ∧ e.pas = s.die.pas ∧ e.get R.DEV_TIMING_STATUS_REFUSE = x
        ∧ e.get R.DEV_TIMING_STATUS_MODE = s.die.get R.DEV_TIMING_STATUS_MODE
        ∧ (x = 0 → e.on R.DEV_TIMING_STATUS_BUSY = true ∧ e.timingPending = some (bits w.toNat 0 2, bits w.toNat 4 2))
        ∧ (x ≠ 0 → e.on R.DEV_TIMING_STATUS_BUSY = false ∧ e.timingPending = s.die.timingPending) :=
      hx ▸ ⟨rfl, htiles.trans ((congrArg Die.tiles hregs).trans rfl), hpas.trans ((congrArg Die.pas hregs).trans rfl), hrefuse, hstands, hgo, hno⟩
    refine hend _ (hc.symm.trans ?_)
    unfold Die.timingCode
    cases s.die.profilePending with
    | none => simp only [Fused.timingRefuse_eq _ _ _ _ hmode]
    | some y => simp only [Fused.timingRefuse_eq _ _ _ _ hmode]
  · refine ⟨_, rfl, ?_⟩
    have hpend (e : Die) (x : Option (Nat × Nat)) (f : Fld) : ({ e with timingPending := x } : Die).get f = e.get f := rfl
    have hbusy (e : Die) : (e.flag R.DEV_TIMING_STATUS_BUSY 0 false).on R.DEV_TIMING_STATUS_BUSY = false := by
      rw [Die.on, Die.flag, Die.get_put_same]
      rfl
    have hmode (e : Die) : ((e.put R.DEV_TIMING_STATUS_MODE 0 m).flag R.DEV_TIMING_STATUS_BUSY 0 false).get R.DEV_TIMING_STATUS_MODE = m % 4 := by
      rw [Die.flag, Die.get_put_apart _ _ _ _ _ (by decide), Die.get_put_same]
      rfl
    unfold onDie Die.timingDone
    dsimp only
    rw [hp]
    dsimp only
    by_cases h1 : m = 1
    · rw [if_pos h1, if_pos h1]
      refine ⟨rfl, rfl, rfl, ?_, ?_, rfl, ?_⟩
      · rw [Die.get_put_apart _ _ _ _ _ (by decide), hpend, hmode]
      · rw [Die.on, Die.get_put_apart _ _ _ _ _ (by decide), hpend]
        exact hbusy _
      · rw [Die.get_put_same]
        rfl
    · rw [if_neg h1, if_neg h1]
      refine ⟨rfl, rfl, rfl, hmode _, hbusy _, rfl, ?_⟩
      rw [hpend, Die.flag, Die.get_put_apart _ _ _ _ _ (by decide), Die.get_put_apart _ _ _ _ _ (by decide)]
  · have halarm (e : Die) (f : Fld) (hf : reportWord (f.key 0 / 32) = false) := Die.alarm_get 9 (by decide) e f hf
    have hreport (e : Die) := e.report_alarm 9 (by decide)
    refine State.completes_onDie (f := fun d => if d.refParent then d else d.refLoss) (e := s.die.refLoss) rfl (by rw [href]; rfl) ?_
    rw [Die.refLoss]
    dsimp only
    rw [if_pos (show ({ s.die with pullIn := false } : Die).on R.DEV_TIMING_STATUS_PLL_LOCK = true from hlock)]
    refine ⟨rfl, (congrArg Die.tiles (hreport _).1).trans rfl, (congrArg Die.pas (hreport _).1).trans rfl, ?_, ?_, ?_,
      (congrArg Die.pullIn (hreport _).1).trans rfl, (congrArg Die.fc (hreport _).1).trans rfl⟩
    · rw [Die.on, halarm _ _ (by decide), Die.flag, Die.flag, Die.flag, Die.get_put_apart _ _ _ _ _ (by decide), Die.get_put_apart _ _ _ _ _ (by decide), Die.get_put_same]
      rfl
    · rw [Die.on, halarm _ _ (by decide), Die.flag, Die.flag, Die.get_put_apart _ _ _ _ _ (by decide), Die.get_put_same]
      rfl
    · rw [Die.on, halarm _ _ (by decide), Die.flag, Die.get_put_same]
      rfl
  · refine ⟨_, rfl, ?_⟩
    unfold onDie Die.refWaitEnd
    dsimp only
    rw [if_pos hwait]
    exact ⟨rfl, rfl, rfl, rfl, rfl, congrArg (· == 1) (Die.get_put_same s.die R.DEV_TIMING_STATUS_HOLDOVER 0 (b2n true)), rfl⟩
  · refine State.completes_onDie (f := fun d => if d.refParent || !(d.on R.DEV_TIMING_STATUS_HOLDOVER) then d else d.refBack)
      (e := { s.die with pullIn := true }) rfl ?_ ⟨rfl, rfl, rfl, rfl⟩
    rw [href, hhold, Die.refBack, hlock]
    rfl
  · refine ⟨_, rfl, ?_⟩
    have hpend (e : Die) (f : Fld) : ({ e with pullIn := false } : Die).get f = e.get f := rfl
    unfold onDie Die.pulledIn
    dsimp only
    rw [if_pos hpull]
    refine ⟨rfl, rfl, rfl, rfl, ?_, ?_⟩
    · rw [Die.on, hpend, Die.flag, Die.get_put_same]
      rfl
    · rw [Die.on, hpend, Die.flag, Die.get_put_apart _ _ _ _ _ (by decide), Die.flag, Die.get_put_same]
      rfl

end Sys2Proof.Machine
end

section
/-! SUPPORT. What a count and a packet give to the outside: nothing. -/

namespace Sys2Proof.Machine

@[simp] theorem Die.emits_ite {c : Prop} [Decidable c] (d e : Die) : (if c then d else e).emits = if c then d.emits else e.emits := by split <;> rfl
@[simp] theorem Die.put_emits (f : Fld) (i v : Nat) (d : Die) : (d.put f i v).emits = d.emits := rfl
@[simp] theorem Die.countRaw_emits (t : Tal) (i n : Nat) (d : Die) : (d.countRaw t i n).emits = d.emits := by simp [Die.countRaw]
@[simp] theorem PktRing.write_emits (r : PktRing) (pad : Nat) (bs : List Byte) (d : Die) : (r.write pad bs d).emits = d.emits := rfl
@[simp] theorem Die.nextSeq_emits (a b : Nat) (d : Die) : (d.nextSeq a b).2.emits = d.emits := rfl
@[simp] theorem Die.ffPut_emits (bs : List Byte) (d : Die) : (d.ffPut bs).emits = d.emits := by simp [Die.ffPut]
@[simp] theorem Die.gapBytes_emits (k : Pkt) (g : Nat × Nat) (d : Die) : (d.gapBytes k g).2.emits = d.emits := by simp [Die.gapBytes]
@[simp] theorem dropLoft_emits (a : Bool) (d : Die) : (dropLoft a d).emits = d.emits := by simp [dropLoft]
@[simp] theorem dropPas_emits (p : Nat) (d : Die) : (dropPas p d).emits = d.emits := by simp [dropPas]

@[simp] theorem Die.lanePut_emits (bs : List Byte) (d : Die) : (d.lanePut bs).emits = d.emits := by
  unfold Die.lanePut
  split <;> rfl

@[simp] theorem Die.laneDrain_emits (k : Pkt) (bs : List Byte) (d : Die) : (d.laneDrain k bs).emits = d.emits := by simp [Die.laneDrain]

theorem Die.emits_of_ite {c : Prop} [Decidable c] {d e : Die} {x : List Emit} (hd : d.emits = x) (he : e.emits = x) : (if c then d else e).emits = x := by
  split <;> assumption

theorem Die.ringPut_emits (r : PktRing) (out : Nat) (k : Pkt) (bs : List Byte) (drop : Die → Die) (hd : ∀ d, (drop d).emits = d.emits) (d : Die) :
    (d.ringPut r out k bs drop).emits = d.emits := by
  unfold Die.ringPut
  refine Die.emits_of_ite (hd d) ?_
  split
  · exact hd d
  · exact Die.emits_of_ite rfl (Die.gapBytes_emits k _ d)

@[simp] theorem Die.deliver_emits (k : Pkt) (d : Die) : (d.deliver k).emits = d.emits := by
  unfold Die.deliver
  split
  split
  case isFalse => rfl
  case isTrue =>
    extract_lets sq bs d1 d2 d3 d4 d5
    have h1 : d1.emits = d.emits := by simp [d1, sq]
    have h2 : d2.emits = d.emits := (Die.ffPut_emits _ _).trans h1
    have h3 : d3.emits = d.emits := by
      dsimp only [d3]
      split
      · exact (Die.ringPut_emits _ _ _ _ _ (dropLoft_emits _) _).trans h2
      · exact h2
    have h4 : d4.emits = d.emits := by
      dsimp only [d4]
      split
      · split
        · exact (Die.ringPut_emits _ _ _ _ _ (dropPas_emits _) _).trans h3
        · exact h3
      · exact h3
    have h5 : d5.emits = d.emits := by
      dsimp only [d5]
      split
      · exact (Die.ringPut_emits _ _ _ _ _ (dropLoft_emits _) _).trans h4
      · exact h4
    split
    · exact (Die.laneDrain_emits _ _ _).trans h5
    · exact h5

@[simp] theorem Die.alarmsSince_emits (d0 : Die) (bs sent : List Nat) (d : Die) : (Die.alarmsSince d0 bs sent d).emits = d.emits := by
  induction bs generalizing sent d with
  | nil => rfl
  | cons b bs ih =>
    unfold Die.alarmsSince
    split
    · exact (ih _ _).trans (Die.deliver_emits _ _)
    · exact ih _ _

@[simp] theorem Die.countBy_emits (t : Tal) (i n : Nat) (d : Die) : (d.countBy t i n).emits = d.emits := by
  unfold Die.countBy
  refine (Die.alarmsSince_emits _ _ _ _).trans ?_
  split
  · exact Die.countRaw_emits _ _ _ _
  · exact Die.countRaw_emits _ _ _ _

@[simp] theorem Die.count_emits (t : Tal) (i : Nat) (d : Die) : (d.count t i).emits = d.emits := Die.countBy_emits t i 1 d
@[simp] theorem Die.alarm_emits (b : Nat) (d : Die) : (d.alarm b).emits = d.emits := Die.alarmsSince_emits _ _ _ _
@[simp] theorem Die.trace_emits (k : Pkt) (d : Die) : (d.trace k).emits = d.emits := (Die.alarmsSince_emits _ _ _ _).trans (Die.deliver_emits k d)
@[simp] theorem Die.stile_emits (p a b : Nat) (d : Die) : (d.stile p a b).emits = d.emits := by simp [Die.stile]

@[simp] theorem Die.incident_emits (c src inst name : Nat) (d : Die) : (d.incident c src inst name).emits = d.emits := by
  unfold Die.incident
  refine Die.emits_of_ite ?_ rfl
  dsimp only
  exact Die.emits_of_ite (by simp [Die.putPair]) (by simp)

/-- A TX timestamp that enters its queue or is lost leaves the ports, the launch queues, the outputs and the launches counted (R383). -/
theorem Die.addTxts_keeps (t id tb pas p : Nat) (st : Stamp) (d : Die) : (d.addTxts t id tb pas st).ports = d.ports
    ∧ (d.addTxts t id tb pas st).launch = d.launch ∧ (d.addTxts t id tb pas st).emits = d.emits
    ∧ (d.addTxts t id tb pas st).tally T.EGR_LAUNCHES p = d.tally T.EGR_LAUNCHES p := by
  have hlaunch : loftTally (T.EGR_LAUNCHES.key p) = false := loftTally_false (by simp only [Tal.key, T.EGR_LAUNCHES]; omega)
  have hne : T.EGR_LAUNCHES.key p ≠ T.ETH_TXTS_OVF.key t := by simp only [Tal.key, T.EGR_LAUNCHES, T.ETH_TXTS_OVF]; omega
  have hreport := d.report_count T.ETH_TXTS_OVF t
  have hcount : (d.count T.ETH_TXTS_OVF t).ports = d.ports ∧ (d.count T.ETH_TXTS_OVF t).launch = d.launch ∧ (d.count T.ETH_TXTS_OVF t).emits = d.emits
      ∧ (d.count T.ETH_TXTS_OVF t).tally T.EGR_LAUNCHES p = d.tally T.EGR_LAUNCHES p :=
    ⟨(congrArg Die.ports hreport.1).trans rfl, (congrArg Die.launch hreport.1).trans rfl, Die.count_emits _ _ _,
      Die.tally_countBy_other _ _ 1 _ d hlaunch hne⟩
  unfold Die.addTxts
  dsimp only
  split
  · exact ⟨rfl, rfl, rfl, rfl⟩
  · split
    · exact hcount
    · exact hcount

/-- An S frame put on a lane's line leaves the queues and the tallies, and of the ports only the end of that lane's line (R428). -/
theorem Die.putS_keeps (l s chan : Nat) (payload : List Byte) (d : Die) : (d.putS l s chan payload).launch = d.launch
    ∧ (d.putS l s chan payload).tallies = d.tallies
    ∧ (KMap.get {} (d.putS l s chan payload).ports (2 * 64 + l)).line = (KMap.get {} d.ports (2 * 64 + l)).line
    ∧ (KMap.get {} (d.putS l s chan payload).ports (2 * 64 + l)).sched = (KMap.get {} d.ports (2 * 64 + l)).sched := by
  have key (m : KMap PortSt) (b : Nat) : (KMap.get {} (KMap.upd {} m (128 + l) (fun p => { p with busyTo := b })) (2 * 64 + l)).line = (KMap.get {} m (2 * 64 + l)).line
      ∧ (KMap.get {} (KMap.upd {} m (128 + l) (fun p => { p with busyTo := b })) (2 * 64 + l)).sched = (KMap.get {} m (2 * 64 + l)).sched := by
    rw [KMap.get_upd_same]
    exact ⟨rfl, rfl⟩
  unfold Die.putS Die.putLine
  exact ⟨rfl, rfl, key _ _⟩

/-- The counts of a first bit, the entry's queue and the port's line after it (R29, R392, R404). -/
def Die.bitOut (kind n stile3 : Nat) (f : TxFrame) (rest : List TxFrame) (d : Die) : Die :=
  let e := ((d.count T.EGR_LAUNCHES f.ent.pasture).stile f.ent.pasture stile3 (frameWords kind f.ent.bytes.length).1).popLaunch f.ent.key
  { e with ports := KMap.set {} e.ports (kind * 64 + n) { KMap.get {} d.ports (kind * 64 + n) with
      line := rest, busyTo := f.start + (frameWords kind f.ent.bytes.length).2 * e.wordUnits kind n } }

/-- What a first bit leaves, before the frame itself and its timestamp. -/
structure Die.BitKept (kind n : Nat) (f : TxFrame) (rest : List TxFrame) (d e : Die) : Prop where
  line : (KMap.get {} e.ports (kind * 64 + n)).line = rest
  sched : (KMap.get {} e.ports (kind * 64 + n)).sched = (KMap.get {} d.ports (kind * 64 + n)).sched
  counted : e.tally T.EGR_LAUNCHES f.ent.pasture = tallyAdd (d.tally T.EGR_LAUNCHES f.ent.pasture) 1
  taken : KMap.get [] e.launch f.ent.key = (KMap.get [] d.launch f.ent.key).drop 1
  stands : ∀ j, j ≠ f.ent.key → KMap.get [] e.launch j = KMap.get [] d.launch j

theorem Die.bitOut_kept (kind n stile3 : Nat) (f : TxFrame) (rest : List TxFrame) (d : Die) :
    Die.BitKept kind n f rest d (d.bitOut kind n stile3 f rest) ∧ (d.bitOut kind n stile3 f rest).emits = d.emits := by
  have hk : loftTally (T.EGR_LAUNCHES.key f.ent.pasture) = false := loftTally_false (by simp only [Tal.key, T.EGR_LAUNCHES]; omega)
  have hcount := d.report_count T.EGR_LAUNCHES f.ent.pasture
  have hfirst := Die.tally_count_same T.EGR_LAUNCHES f.ent.pasture d hk
  have hmute := d.count_emits T.EGR_LAUNCHES f.ent.pasture
  have hstile := Die.report_stile f.ent.pasture stile3 (frameWords kind f.ent.bytes.length).1 (d.count T.EGR_LAUNCHES f.ent.pasture)
  have hstill : ((d.count T.EGR_LAUNCHES f.ent.pasture).stile f.ent.pasture stile3 (frameWords kind f.ent.bytes.length).1).tally T.EGR_LAUNCHES f.ent.pasture
      = (d.count T.EGR_LAUNCHES f.ent.pasture).tally T.EGR_LAUNCHES f.ent.pasture := by
    unfold Die.stile
    split
    · exact Die.tally_countBy_other _ _ _ _ _ hk (by simp only [Tal.key, T.EGR_LAUNCHES, T.FAB_TIMING_CHOICE]; omega)
    · rfl
  have hquiet := (Die.stile_emits f.ent.pasture stile3 (frameWords kind f.ent.bytes.length).1 (d.count T.EGR_LAUNCHES f.ent.pasture)).trans hmute
  unfold Die.bitOut
  generalize (d.count T.EGR_LAUNCHES f.ent.pasture).stile f.ent.pasture stile3 (frameWords kind f.ent.bytes.length).1 = g at hstile hstill hquiet
  have hlaunch : g.launch = d.launch := (congrArg Die.launch hstile.1).trans ((congrArg Die.launch hcount.1).trans rfl)
  dsimp only [Die.popLaunch]
  refine ⟨⟨?_, ?_, hstill.trans hfirst, ?_, fun j hj => ?_⟩, hquiet⟩
  · rw [KMap.get_set_same]
  · rw [KMap.get_set_same]
  · rw [KMap.get_upd_same, hlaunch]
  · rw [KMap.get_upd_other _ _ _ _ _ hj, hlaunch]

theorem Die.BitKept.of {kind n : Nat} {f : TxFrame} {rest : List TxFrame} {d e g : Die} (h : Die.BitKept kind n f rest d e)
    (hline : (KMap.get {} g.ports (kind * 64 + n)).line = (KMap.get {} e.ports (kind * 64 + n)).line)
    (hsched : (KMap.get {} g.ports (kind * 64 + n)).sched = (KMap.get {} e.ports (kind * 64 + n)).sched)
    (hlaunch : g.launch = e.launch) (htally : g.tally T.EGR_LAUNCHES f.ent.pasture = e.tally T.EGR_LAUNCHES f.ent.pasture) : Die.BitKept kind n f rest d g where
  line := hline.trans h.line
  sched := hsched.trans h.sched
  counted := htally.trans h.counted
  taken := by rw [hlaunch]; exact h.taken
  stands j hj := by rw [hlaunch]; exact h.stands j hj

/-- The frame itself and its timestamp (R383, R414, R428). -/
def Die.bitSent (kind n : Nat) (f : TxFrame) (fc16 tb0 : Nat) (d : Die) : Die :=
  let d := if kind = 1 then d.emit (.frame n (ethLine f.ent.bytes)) else d.putS n f.start ((byteAt f.ent.bytes 0).toNat % 64) (f.ent.bytes.drop 1)
  let tb := d.get R.ETH_TSCFG_TB n
  if kind = 1 && f.ent.tstamp then d.addTxts n (f.ent.evid % 65536) tb f.ent.pasture ((stampsOf d fc16 tb0).getD tb {}) else d

theorem Die.bitSent_kept {kind n : Nat} {f : TxFrame} {rest : List TxFrame} {d e : Die} (fc16 tb0 : Nat) (hkind : (kind = 1 ∧ n < 16) ∨ (kind = 2 ∧ n < 64))
    (h : Die.BitKept kind n f rest d e) : Die.BitKept kind n f rest d (e.bitSent kind n f fc16 tb0)
      ∧ (kind = 1 → (e.bitSent kind n f fc16 tb0).emits = e.emits ++ [.frame n (ethLine f.ent.bytes)]) := by
  rcases hkind with ⟨rfl, hn⟩ | ⟨rfl, hn⟩
  · have hsent : Die.BitKept 1 n f rest d (e.emit (.frame n (ethLine f.ent.bytes))) := h.of rfl rfl rfl rfl
    unfold Die.bitSent
    dsimp only
    rw [if_pos rfl]
    split
    · obtain ⟨hports, hlaunch, hemits, htally⟩ := Die.addTxts_keeps n (f.ent.evid % 65536) ((e.emit (.frame n (ethLine f.ent.bytes))).get R.ETH_TSCFG_TB n) f.ent.pasture
        f.ent.pasture ((stampsOf (e.emit (.frame n (ethLine f.ent.bytes))) fc16 tb0).getD ((e.emit (.frame n (ethLine f.ent.bytes))).get R.ETH_TSCFG_TB n) {})
        (e.emit (.frame n (ethLine f.ent.bytes)))
      exact ⟨hsent.of (by rw [hports]) (by rw [hports]) hlaunch htally, fun _ => hemits⟩
    · exact ⟨hsent, fun _ => rfl⟩
  · obtain ⟨hlaunch, htallies, hline, hsched⟩ := e.putS_keeps n f.start ((byteAt f.ent.bytes 0).toNat % 64) (f.ent.bytes.drop 1)
    refine ⟨h.of hline hsched hlaunch ?_, fun h => absurd h (by decide)⟩
    unfold Die.tally
    exact congrArg (fun m => KMap.get 0 m _) htallies

/-- The first bit of the oldest committed frame of an ACTIVE port (R383, R392, R404, R414, R428). -/
theorem State.firstBit_out (kind n : Nat) (cap : Capture) (k3 : Nat) (s : State) (f : TxFrame) (rest : List TxFrame) (hkind : (kind = 1 ∧ n < 16) ∨ (kind = 2 ∧ n < 64))
    (hline : (KMap.get {} s.die.ports (kind * 64 + n)).line = f :: rest) (hup : s.die.portUp kind n = true) :
    (s.firstBit kind n cap k3).kill = s.kill ∧ Die.BitKept kind n f rest s.die (s.firstBit kind n cap k3).die
    ∧ (kind = 1 → (s.firstBit kind n cap k3).die.emits = s.die.emits ++ [.frame n (ethLine f.ent.bytes)])
    ∧ (s.firstBit kind n cap k3).cel = (if f.ent.audited then s.cel.launchRecord
        ⟨f.ent.pasture, f.ent.late, kind * 64 + n, f.ent.evid, f.ent.image, f.ent.template, f.ent.inFc16⟩
        (s.cel.capFc ((if kind = 1 then 42 else 122) + n) true cap) (s.cel.capTb0 ((if kind = 1 then 42 else 122) + n) true cap) else s.cel) := by
  obtain ⟨hkept, hquiet⟩ := s.die.bitOut_kept kind n k3 f rest
  have hdie : s.firstBit kind n cap k3 = { s with
      die := (s.die.bitOut kind n k3 f rest).bitSent kind n f (s.cel.capFc ((if kind = 1 then 42 else 122) + n) true cap)
        (s.cel.capTb0 ((if kind = 1 then 42 else 122) + n) true cap)
      cel := if f.ent.audited then s.cel.launchRecord ⟨f.ent.pasture, f.ent.late, kind * 64 + n, f.ent.evid, f.ent.image, f.ent.template, f.ent.inFc16⟩
        (s.cel.capFc ((if kind = 1 then 42 else 122) + n) true cap) (s.cel.capTb0 ((if kind = 1 then 42 else 122) + n) true cap) else s.cel } := by
    unfold State.firstBit
    dsimp only
    rw [hline]
    dsimp only
    rw [if_neg (by rw [hup]; decide)]
    rfl
  obtain ⟨hsent, hframe⟩ := Die.bitSent_kept (s.cel.capFc ((if kind = 1 then 42 else 122) + n) true cap)
    (s.cel.capTb0 ((if kind = 1 then 42 else 122) + n) true cap) hkind hkept
  rw [hdie]
  exact ⟨rfl, hsent, fun h1 => by rw [hframe h1, hquiet], rfl⟩

/-- Settles O33: the first bit, the edge, the port that is gone, and each signal. -/
theorem edgesAndSignals : Obligations.EdgesAndSignals := by
  unfold Obligations.EdgesAndSignals
  refine ⟨fun s cap => ⟨fun kind n k3 f rest hkind hline hup => ?_, fun pin e rest hpin hedges k3 => ?_, fun p q e rest hp hq hhead hroute hchosen => ?_⟩,
    fun s => ⟨fun pin hpin hhigh => ?_, fun p hp harmed hen hfill hlast => ?_, fun src p w hp ha => ?_, fun hon => ?_⟩⟩
  · obtain ⟨hkill, hkept, hframe, hcel⟩ := s.firstBit_out kind n cap k3 f rest hkind hline hup
    have hexec : exec (.launchFirstBit kind n ⟨cap, k3⟩) s = .next (s.firstBit kind n cap k3) := by
      refine (if_pos (decide_eq_true (Or.inr hkind))).trans ?_
      rw [if_neg (by omega)]
    exact ⟨_, hexec, hkill, hkept.line, hkept.sched, hkept.counted, hkept.taken, hkept.stands, fun h1 => ⟨[], [], by rw [hframe h1]; simp⟩, hcel⟩
  · have hexec : exec (.launchFirstBit 0 pin ⟨cap, k3⟩) s = .next (s.trigEdge pin cap) := if_pos (decide_eq_true (Or.inl ⟨rfl, hpin⟩))
    refine ⟨_, hexec, ?_⟩
    unfold State.trigEdge
    dsimp only
    rw [hedges]
    dsimp only
    refine ⟨rfl, ?_, ?_, rfl⟩
    · rw [KMap.get_set_same]
    · rw [KMap.get_set_same]
  · have hexec : exec (.portDown p q) s = .next (s.portDown p q) := if_pos (decide_eq_true ⟨hp, hq⟩)
    refine ⟨_, hexec, ?_⟩
    have hreport := (s.die.popLaunch (p * 8 + q)).report_count T.EGR_PORT_DOWN p
    have htally := Die.tally_count_same T.EGR_PORT_DOWN p (s.die.popLaunch (p * 8 + q)) (loftTally_false (by simp only [Tal.key, T.EGR_PORT_DOWN]; omega))
    unfold State.portDown
    dsimp only
    rw [hhead]
    dsimp only
    rw [hroute, hchosen, if_neg (by decide)]
    refine ⟨?_, htally, rfl, ?_⟩
    · have hlaunch := (congrArg Die.launch hreport.1).trans rfl
      rw [hlaunch, Die.popLaunch, KMap.get_upd_same, hhead]
      rfl
    · rfl
  · refine State.completes_dieCmd (f := fun s => s.die.pulseEnd pin) rfl (decide_eq_true hpin) ?_
    unfold Die.pulseEnd
    dsimp only
    rw [if_pos hhigh]
    dsimp only [Die.emit]
    refine ⟨rfl, ?_, fun q hq => ?_⟩
    · rw [KMap.get_set_same]
    · rw [KMap.get_set_other _ _ _ _ _ hq]
  · refine State.completes_dieCmd (f := fun s => s.die.msixFire p) rfl (decide_eq_true hp) ?_
    have hgo : (s.die.on R.PAS_RING_STATUS_DEC_ARMED p && s.die.on R.PAS_MSIX_DEC_EN p
        && decide (0 < (s.die.get R.PAS_MSG_HEAD_VALUE p + 2 ^ 32 - s.die.get R.PAS_MSG_TAIL_VALUE p) % 2 ^ 32)
        && ((s.die.pasture p).msixLast == 0 || decide (s.die.get R.PAS_MSIX_HOLDOFF p * 1000 ≤ s.die.ns + 1 - (s.die.pasture p).msixLast))) = true := by
      rw [harmed, hen, decide_eq_true hfill, Bool.true_and, Bool.true_and, Bool.true_and, Bool.or_eq_true, beq_iff_eq, decide_eq_true_eq]
      exact hlast
    unfold Die.msixFire
    dsimp only
    rw [if_pos hgo]
    refine ⟨rfl, congrArg (· == 1) (Die.get_put_same s.die R.PAS_RING_STATUS_DEC_ARMED p (b2n false)), ?_⟩
    exact congrArg PasSt.msixLast (Die.pasture_onPas_same (s.die.flag R.PAS_RING_STATUS_DEC_ARMED p false) p (fun x => { x with msixLast := s.die.ns + 1 }))
  · refine State.completes_dieCmd (f := writeDie src (blockAddr .PAS p 0x04C) (msgTailW p w.toNat)) rfl (decide_eq_true hp) ?_
    have hmod : w.toNat % 2 ^ R.PAS_MSG_TAIL_VALUE.width = w.toNat := Nat.mod_eq_of_lt w.isLt
    rw [writeDie_admitted ha]
    unfold msgTailW Die.softCount
    dsimp only
    rw [if_neg Bool.false_ne_true, if_neg Bool.false_ne_true]
    refine ⟨?_, congrArg (· == 1) (Die.get_put_same _ R.PAS_RING_STATUS_DEC_ARMED p (b2n true)), ?_⟩
    · split <;> rfl
    · rw [Die.flag, Die.get_put_apart _ _ _ _ _ (by decide)]
      split
      · rw [Die.get_put_same, hmod]
      · rfl
  · refine State.completes_onDie (f := Die.aliveToggle) rfl ?_ rfl
    rw [Die.aliveToggle, if_pos hon]
    rfl

end Sys2Proof.Machine
end

section
/-! SUPPORT. Ethernet links come and go (R414, R417, R419, R450, R570). -/

namespace Sys2Proof.Machine

/-- `f` differs from `d` in registers, tallies, what reports write, and port t's own line. -/
def Die.portFrame (t : Nat) (d f : Die) : Prop :=
  f = { d with regs := f.regs, tallies := f.tallies, loft := f.loft, host := f.host, emits := f.emits, store := f.store, ports := f.ports }
    ∧ ∀ j, j ≠ 64 + t → KMap.get {} f.ports j = KMap.get {} d.ports j

theorem Die.portFrame_refl (t : Nat) (d : Die) : d.portFrame t d := ⟨rfl, fun _ _ => rfl⟩

theorem Die.portFrame.trans {t : Nat} {d f g : Die} (h : d.portFrame t f) (k : f.portFrame t g) : d.portFrame t g := by
  refine ⟨?_, fun j hj => (k.2 j hj).trans (h.2 j hj)⟩
  have hk := k.1
  rw [h.1] at hk
  exact hk

theorem Die.report.portFrame {d f : Die} (h : d.report f) (t : Nat) : d.portFrame t f := by
  obtain ⟨h, -⟩ := h
  have hports : f.ports = d.ports := (congrArg Die.ports h).trans rfl
  refine ⟨h.trans (by rw [hports]), fun j _ => by rw [hports]⟩

theorem Die.portFrame_put (t : Nat) (f : Fld) (i v : Nat) (d : Die) : d.portFrame t (d.put f i v) := ⟨rfl, fun _ _ => rfl⟩
theorem Die.portFrame_flag (t : Nat) (f : Fld) (i : Nat) (b : Bool) (d : Die) : d.portFrame t (d.flag f i b) := ⟨rfl, fun _ _ => rfl⟩
theorem Die.portFrame_emit (t : Nat) (e : Emit) (d : Die) : d.portFrame t (d.emit e) := ⟨rfl, fun _ _ => rfl⟩

theorem Die.portFrame_ite {t : Nat} {c : Prop} [Decidable c] {d f g : Die} (hf : d.portFrame t f) (hg : d.portFrame t g) : d.portFrame t (if c then f else g) := by
  split <;> assumption

theorem Die.portFrame_unchoose (t : Nat) (d : Die) : d.portFrame t (d.unchoose 1 t) := by
  refine ⟨rfl, fun j hj => ?_⟩
  dsimp only [Die.unchoose]
  exact KMap.get_upd_other _ _ _ _ _ (by omega)

/-- An Ethernet port's field after another field of the port is set. -/
theorem Die.on_flag_same (f : Fld) (i : Nat) (b : Bool) (d : Die) (hw : f.width = 1) : (d.flag f i b).on f i = b := by
  rw [Die.on, Die.flag, Die.get_put_same, hw]
  cases b <;> rfl

theorem Die.on_flag_apart (f g : Fld) (i : Nat) (b : Bool) (d : Die) (h : (g.base + g.off) * 32 + g.lo ≠ (f.base + f.off) * 32 + f.lo) :
    (d.flag f i b).on g i = d.on g i := by
  rw [Die.on, Die.flag, Die.get_put_apart _ _ _ _ _ h]
  rfl

/-- The end of a port's service (R417): ACTIVE, LINK_DOWN, and what it leaves. -/
structure Die.EthEnded (t : Nat) (d f : Die) : Prop where
  frame : d.portFrame t f
  active : f.on R.ETH_STATUS_ACTIVE t = false
  counted : d.on R.ETH_STATUS_ACTIVE t = true → f.tally T.ETH_LINK_DOWN t = tallyAdd (d.tally T.ETH_LINK_DOWN t) 1
  idle : d.on R.ETH_STATUS_ACTIVE t = false → f.tally T.ETH_LINK_DOWN t = d.tally T.ETH_LINK_DOWN t
  emits : f.emits = d.emits
  get : ∀ g : Fld, g.base = 0x40000 → g.off < 0x1000 → g.lo < 32 → (g.base + g.off) * 32 + g.lo ≠ (R.ETH_STATUS_ACTIVE.base + R.ETH_STATUS_ACTIVE.off) * 32 + R.ETH_STATUS_ACTIVE.lo →
    f.get g t = d.get g t

/-- A LINK packet of an Ethernet port is traced alone. -/
theorem Die.traced_ethPacket (t old new cause : Nat) (d : Die) : d.traced (d.ethPacket t old new cause) :=
  d.traced_trace _ (fun p h => by cases h)

theorem Die.ethDown_ends (t cause : Nat) (d : Die) (ht : t < 16) : Die.EthEnded t d (d.ethDown t cause) := by
  have hk : loftTally (T.ETH_LINK_DOWN.key t) = false := loftTally_eth _ _ rfl ht (by decide)
  unfold Die.ethDown
  cases hon : d.on R.ETH_STATUS_ACTIVE t with
  | false =>
    rw [if_neg Bool.false_ne_true]
    exact ⟨d.portFrame_refl t, hon, fun h => absurd (hon.symm.trans h) (by decide), fun _ => rfl, rfl, fun _ _ _ _ _ => rfl⟩
  | true =>
    rw [if_pos rfl]
    have hcount := (d.flag R.ETH_STATUS_ACTIVE t false).report_count T.ETH_LINK_DOWN t
    have hpacket := (((d.flag R.ETH_STATUS_ACTIVE t false).count T.ETH_LINK_DOWN t).unchoose 1 t).traced_ethPacket t 1 0 cause
    have hget (g : Fld) (hb : g.base = 0x40000) (ho : g.off < 0x1000) (hlo : g.lo < 32) :
        ((((d.flag R.ETH_STATUS_ACTIVE t false).count T.ETH_LINK_DOWN t).unchoose 1 t).ethPacket t 1 0 cause).get g t = (d.flag R.ETH_STATUS_ACTIVE t false).get g t :=
      (hpacket.1.get g t (reportWord_eth g t hb ht ho hlo)).trans (hcount.get g t (reportWord_eth g t hb ht ho hlo))
    refine ⟨((d.portFrame_flag t _ _ _).trans (hcount.portFrame t)).trans ((Die.portFrame_unchoose t _).trans (hpacket.1.portFrame t)), ?_, fun _ => ?_,
      fun h => absurd (hon.symm.trans h) (by decide), ?_, fun g hb ho hlo hg => ?_⟩
    · rw [Die.on, hget _ rfl (by decide) (by decide)]
      exact d.on_flag_same R.ETH_STATUS_ACTIVE t false rfl
    · exact (hpacket.tally _ _ hk).trans (Die.tally_count_same _ _ _ hk)
    · exact (Die.trace_emits _ _).trans (Die.count_emits T.ETH_LINK_DOWN t (d.flag R.ETH_STATUS_ACTIVE t false))
    · rw [hget g hb ho hlo, Die.flag, Die.get_put_apart _ _ _ _ _ hg]

theorem Die.EthEnded.on {t : Nat} {d f : Die} (h : Die.EthEnded t d f) (g : Fld) (hb : g.base = 0x40000) (ho : g.off < 0x1000) (hlo : g.lo < 32)
    (hg : (g.base + g.off) * 32 + g.lo ≠ (R.ETH_STATUS_ACTIVE.base + R.ETH_STATUS_ACTIVE.off) * 32 + R.ETH_STATUS_ACTIVE.lo) : f.on g t = d.on g t := by
  rw [Die.on, h.get g hb ho hlo hg]
  rfl

/-- A port that loses both locks and its auto-negotiation with its service (R414, R419). -/
def Die.ethLost (t : Nat) (d : Die) : Die := ((d.ethDown t 6).ethUnlock t true true).flag R.ETH_STATUS_AN_DONE t false

theorem Die.ethLost_ends (t : Nat) (d : Die) (ht : t < 16) : d.portFrame t (d.ethLost t) ∧ (d.ethLost t).on R.ETH_STATUS_ACTIVE t = false
    ∧ (d.on R.ETH_STATUS_ACTIVE t = true → (d.ethLost t).tally T.ETH_LINK_DOWN t = tallyAdd (d.tally T.ETH_LINK_DOWN t) 1)
    ∧ (d.on R.ETH_STATUS_ACTIVE t = false → (d.ethLost t).tally T.ETH_LINK_DOWN t = d.tally T.ETH_LINK_DOWN t)
    ∧ (d.ethLost t).on R.ETH_STATUS_BLOCK_LOCK t = false ∧ (d.ethLost t).on R.ETH_STATUS_FEC_LOCK t = false ∧ (d.ethLost t).on R.ETH_STATUS_AN_DONE t = false
    ∧ (d.ethLost t).on R.ETH_STATUS_CFG_REFUSED t = d.on R.ETH_STATUS_CFG_REFUSED t
    ∧ ∀ g : Fld, g.base = 0x40000 → g.off = 0x10 → g.lo < 32 → (d.ethLost t).get g t = d.get g t := by
  have h := d.ethDown_ends t 6 ht
  unfold Die.ethLost
  generalize d.ethDown t 6 = f at h
  dsimp only [Die.ethUnlock]
  rw [if_pos rfl, if_pos rfl]
  refine ⟨h.frame.trans (((f.portFrame_flag t _ _ _).trans (Die.portFrame_flag t _ _ _ _)).trans (Die.portFrame_flag t _ _ _ _)), ?_, h.counted, h.idle, ?_, ?_, ?_,
    ?_, fun g hb ho hlo => ?_⟩
  · rw [Die.on_flag_apart _ _ _ _ _ (by decide), Die.on_flag_apart _ _ _ _ _ (by decide), Die.on_flag_apart _ _ _ _ _ (by decide)]
    exact h.active
  · rw [Die.on_flag_apart _ _ _ _ _ (by decide), Die.on_flag_apart _ _ _ _ _ (by decide), Die.on_flag_same _ _ _ _ rfl]
  · rw [Die.on_flag_apart _ _ _ _ _ (by decide), Die.on_flag_same _ _ _ _ rfl]
  · rw [Die.on_flag_same _ _ _ _ rfl]
  · rw [Die.on_flag_apart _ _ _ _ _ (by decide), Die.on_flag_apart _ _ _ _ _ (by decide), Die.on_flag_apart _ _ _ _ _ (by decide)]
    exact h.on _ rfl (by decide) (by decide) (by decide)
  · have hne (x : Fld) (hx : x.base = 0x40000) (ho' : x.off = 0x800) (hx5 : x.lo < 32) : (g.base + g.off) * 32 + g.lo ≠ (x.base + x.off) * 32 + x.lo := by omega
    rw [Die.flag, Die.flag, Die.flag, Die.get_put_apart _ _ _ _ _ (hne _ rfl rfl (by decide)), Die.get_put_apart _ _ _ _ _ (hne _ rfl rfl (by decide)),
      Die.get_put_apart _ _ _ _ _ (hne _ rfl rfl (by decide)), h.get g hb (by omega) hlo (hne _ rfl rfl (by decide))]

/-- A one-bit field set under a condition, and a field apart from it. -/
theorem Die.on_flagIf_same (c : Bool) (f : Fld) (i : Nat) (b : Bool) (d : Die) (hw : f.width = 1) :
    (if c then d.flag f i b else d).on f i = if c then b else d.on f i := by
  cases c with
  | true => exact d.on_flag_same f i b hw
  | false => rfl

theorem Die.on_flagIf_apart (c : Bool) (f g : Fld) (i : Nat) (b : Bool) (d : Die) (h : (g.base + g.off) * 32 + g.lo ≠ (f.base + f.off) * 32 + f.lo) :
    (if c then d.flag f i b else d).on g i = d.on g i := by
  cases c with
  | true => exact d.on_flag_apart f g i b h
  | false => rfl

theorem Die.portFrame_flagIf (t : Nat) (c : Bool) (f : Fld) (i : Nat) (b : Bool) (d : Die) :
    d.portFrame t (if c then d.flag f i b else d) ∧ (if c then d.flag f i b else d).tallies = d.tallies := by
  cases c with
  | true => exact ⟨d.portFrame_flag t f i b, rfl⟩
  | false => exact ⟨d.portFrame_refl t, rfl⟩

/-- The loss of a port's locks (R417). -/
theorem Die.ethUnlock_sets (t : Nat) (block codeword : Bool) (d : Die) : d.portFrame t (d.ethUnlock t block codeword) ∧ (d.ethUnlock t block codeword).tallies = d.tallies
    ∧ (d.ethUnlock t block codeword).on R.ETH_STATUS_BLOCK_LOCK t = (!block && d.on R.ETH_STATUS_BLOCK_LOCK t)
    ∧ (d.ethUnlock t block codeword).on R.ETH_STATUS_FEC_LOCK t = (!codeword && d.on R.ETH_STATUS_FEC_LOCK t)
    ∧ (d.ethUnlock t block codeword).on R.ETH_STATUS_ACTIVE t = d.on R.ETH_STATUS_ACTIVE t
    ∧ (d.ethUnlock t block codeword).on R.ETH_CONTROL_FEC t = d.on R.ETH_CONTROL_FEC t := by
  have hif (c x : Bool) : (if c then false else x) = (!c && x) := by cases c <;> rfl
  obtain ⟨hframe, htallies⟩ := d.portFrame_flagIf t block R.ETH_STATUS_BLOCK_LOCK t false
  unfold Die.ethUnlock
  dsimp only
  generalize he : (if block then d.flag R.ETH_STATUS_BLOCK_LOCK t false else d) = e at hframe htallies
  obtain ⟨hframe', htallies'⟩ := e.portFrame_flagIf t codeword R.ETH_STATUS_FEC_LOCK t false
  have hon (g : Fld) (hg : (g.base + g.off) * 32 + g.lo ≠ (R.ETH_STATUS_BLOCK_LOCK.base + R.ETH_STATUS_BLOCK_LOCK.off) * 32 + R.ETH_STATUS_BLOCK_LOCK.lo) :
      e.on g t = d.on g t := he ▸ Die.on_flagIf_apart _ _ _ _ _ _ hg
  refine ⟨hframe.trans hframe', htallies'.trans htallies, ?_, ?_, ?_, ?_⟩
  · rw [Die.on_flagIf_apart _ _ _ _ _ _ (by decide), ← he, Die.on_flagIf_same _ _ _ _ _ rfl, hif]
  · rw [Die.on_flagIf_same _ _ _ _ _ rfl, hon _ (by decide), hif]
  · rw [Die.on_flagIf_apart _ _ _ _ _ _ (by decide), hon _ (by decide)]
  · rw [Die.on_flagIf_apart _ _ _ _ _ _ (by decide), hon _ (by decide)]

/-- What ETH_CONTROL carries: the field that P-150 may cut, and the setting asked for (R419, R570). -/
theorem Die.enableCut_bits (outside : Bool) (w : Nat) (d : Die) : bit (d.enableCut outside w) 0 = (bit w 0 && !(outside && d.lowProfile))
    ∧ bit (d.enableCut outside w) 1 = bit w 1 ∧ bit (d.enableCut outside w) 2 = bit w 2 ∧ bit (d.enableCut outside w) 3 = bit w 3 := by
  unfold Die.enableCut
  cases hcut : (outside && d.lowProfile) with
  | false => simp
  | true =>
    cases hw : bit w 0 with
    | false => simp [hw]
    | true =>
      simp only [bit, beq_iff_eq] at hw ⊢
      simp only [Bool.and_self, if_true, Bool.not_true, Bool.and_false, beq_eq_false_iff_ne]
      refine ⟨by omega, ?_, ?_, ?_⟩
      · congr 1; omega
      · congr 1; omega
      · congr 1; omega

/-- A setting of an Ethernet port: SPEED, FEC, MEDIA. -/
def Die.ethSetting (d : Die) (t : Nat) : Nat × Nat × Nat := (d.get R.ETH_CONTROL_SPEED t, d.get R.ETH_CONTROL_FEC t, d.get R.ETH_CONTROL_MEDIA t)

/-- ETH_CONTROL's fields after a write of it. -/
theorem Die.ethSetting_setFields (t w : Nat) (d : Die) : (d.setFields .ETH t 0x010 w).on R.ETH_CONTROL_ENABLE t = bit w 0
    ∧ (d.setFields .ETH t 0x010 w).ethSetting t = (b2n (bit w 1), b2n (bit w 2), b2n (bit w 3)) := by
  have hbits (k : Nat) : bits w k 1 = b2n (bit w k) := by
    unfold bits bit
    have h2 : w / 2 ^ k % 2 < 2 := Nat.mod_lt _ (by decide)
    rcases (show w / 2 ^ k % 2 = 0 ∨ w / 2 ^ k % 2 = 1 by omega) with h | h
    · rw [Nat.pow_one, h]; rfl
    · rw [Nat.pow_one, h]; rfl
  have hset (x : WField) (hx : x ∈ fieldsAt .ETH 0x010) (hacc : x.fld.acc = .rw) (hok : ∀ v, x.ok v = true) (hw : x.fld.width = 1) :
      (d.setFields .ETH t 0x010 w).get x.fld t = b2n (bit w x.fld.lo) := by
    rw [Die.get_setFields_rw .ETH t 0x010 w d x hx hacc, if_pos (hok _), hw, hbits]
  refine ⟨?_, ?_⟩
  · rw [Die.on, hset ⟨R.ETH_CONTROL_ENABLE, any⟩ (by simp [fieldsAt, Block.regs, regsETH]) rfl (fun _ => rfl) rfl]
    change (b2n (bit w 0) == 1) = bit w 0
    cases bit w 0 <;> rfl
  · unfold Die.ethSetting
    rw [hset ⟨R.ETH_CONTROL_SPEED, any⟩ (by simp [fieldsAt, Block.regs, regsETH]) rfl (fun _ => rfl) rfl,
      hset ⟨R.ETH_CONTROL_FEC, any⟩ (by simp [fieldsAt, Block.regs, regsETH]) rfl (fun _ => rfl) rfl,
      hset ⟨R.ETH_CONTROL_MEDIA, any⟩ (by simp [fieldsAt, Block.regs, regsETH]) rfl (fun _ => rfl) rfl]
    rfl

/-- ETH_CONTROL as written, with the setting that a certified path keeps (R419). -/
def Die.ethTaken (t w : Nat) (d : Die) : Die :=
  let f := d.setFields .ETH t 0x010 w
  if d.ethSetting t ≠ f.ethSetting t ∧ f.certified 1 t = true then
    (((f.put R.ETH_CONTROL_SPEED t (d.ethSetting t).1).put R.ETH_CONTROL_FEC t (d.ethSetting t).2.1).put R.ETH_CONTROL_MEDIA t (d.ethSetting t).2.2).flag
      R.ETH_STATUS_CFG_REFUSED t true
  else f

/-- Two settings differ as the lists of their parts do. -/
theorem ethSetting_ne (a b c x y z : Nat) : ([a, b, c] ≠ [x, y, z]) = ((a, b, c) ≠ (x, y, z)) := by
  simp

theorem ethControlW_takes (t w : Nat) (d : Die) (hok : ¬ (bit w 1 = false ∧ (bit w 2 = true ∨ bit w 3 = true))) :
    ethControlW t w d = (if ((d.ethTaken t (d.enableCut (decide (8 ≤ t)) w)).on R.ETH_CONTROL_ENABLE t = false
        ∨ d.ethSetting t ≠ (d.ethTaken t (d.enableCut (decide (8 ≤ t)) w)).ethSetting t)
      then (d.ethTaken t (d.enableCut (decide (8 ≤ t)) w)).ethLost t else d.ethTaken t (d.enableCut (decide (8 ≤ t)) w)) := by
  obtain ⟨-, h1, h2, h3⟩ := d.enableCut_bits (decide (8 ≤ t)) w
  unfold ethControlW
  dsimp only
  rw [h1, h2, h3, if_neg hok]
  simp only [ethSetting_ne]
  rfl

/-- What the taken setting leaves. -/
theorem Die.ethTaken_sets (t w : Nat) (d : Die) :
    d.portFrame t (d.ethTaken t w) ∧ (d.ethTaken t w).tallies = d.tallies ∧ (d.ethTaken t w).on R.ETH_CONTROL_ENABLE t = bit w 0
    ∧ (d.ethTaken t w).on R.ETH_STATUS_ACTIVE t = d.on R.ETH_STATUS_ACTIVE t
    ∧ (d.certified 1 t = true → d.ethSetting t ≠ (b2n (bit w 1), b2n (bit w 2), b2n (bit w 3)) →
      (d.ethTaken t w).ethSetting t = ((d.ethSetting t).1 % 2, (d.ethSetting t).2.1 % 2, (d.ethSetting t).2.2 % 2)
      ∧ (d.ethTaken t w).on R.ETH_STATUS_CFG_REFUSED t = true)
    ∧ ((d.certified 1 t = false ∨ d.ethSetting t = (b2n (bit w 1), b2n (bit w 2), b2n (bit w 3))) →
      (d.ethTaken t w).ethSetting t = (b2n (bit w 1), b2n (bit w 2), b2n (bit w 3))) := by
  obtain ⟨henable, hsetting⟩ := d.ethSetting_setFields t w
  have hregs := d.setFields_regs .ETH t 0x010 w
  have hactive : (d.setFields .ETH t 0x010 w).on R.ETH_STATUS_ACTIVE t = d.on R.ETH_STATUS_ACTIVE t := by
    rw [Die.on, Die.get_setFields_page _ _ _ _ _ R.ETH_STATUS_ACTIVE rfl (by decide)]
    rfl
  unfold Die.ethTaken
  dsimp only
  generalize d.setFields .ETH t 0x010 w = f at henable hsetting hregs hactive
  have hcert : f.certified 1 t = d.certified 1 t := by rw [hregs]; rfl
  have htallies : f.tallies = d.tallies := by rw [hregs]
  have hframe : d.portFrame t f := by
    refine ⟨?_, fun j _ => by rw [hregs]⟩
    conv_lhs => rw [hregs]
    rw [show f.tallies = d.tallies by rw [hregs], show f.loft = d.loft by rw [hregs], show f.host = d.host by rw [hregs], show f.emits = d.emits by rw [hregs],
      show f.store = d.store by rw [hregs], show f.ports = d.ports by rw [hregs]]
  rw [hcert, hsetting]
  by_cases hkeep : d.ethSetting t ≠ (b2n (bit w 1), b2n (bit w 2), b2n (bit w 3)) ∧ d.certified 1 t = true
  · rw [if_pos hkeep]
    refine ⟨hframe.trans ((((f.portFrame_put t _ _ _).trans (Die.portFrame_put t _ _ _ _)).trans (Die.portFrame_put t _ _ _ _)).trans (Die.portFrame_flag t _ _ _ _)),
      htallies, ?_, ?_, fun _ _ => ⟨?_, Die.on_flag_same _ _ _ _ rfl⟩, fun h => ?_⟩
    · rw [← henable, Die.on_flag_apart _ _ _ _ _ (by decide)]
      simp (disch := decide) only [Die.on, Die.get_put_apart]
    · rw [← hactive, Die.on_flag_apart _ _ _ _ _ (by decide)]
      simp (disch := decide) only [Die.on, Die.get_put_apart]
    · rw [Die.ethSetting]
      simp (disch := decide) only [Die.flag, Die.get_put_apart, Die.get_put_same]
      rfl
    · rcases h with h | h
      · exact absurd (h.symm.trans hkeep.2) (by decide)
      · exact absurd h hkeep.1
  · rw [if_neg hkeep]
    exact ⟨hframe, htallies, henable, hactive, fun hc hne => absurd ⟨hne, hc⟩ hkeep, fun _ => hsetting⟩

theorem Die.ethPhy_iff (d : Die) (t : Nat) :
    d.ethPhy t = true ↔ d.on R.ETH_CONTROL_ENABLE t = true ∧ (d.on R.ETH_CONTROL_MEDIA t = true → d.on R.ETH_STATUS_AN_DONE t = true) := by
  unfold Die.ethPhy
  cases d.on R.ETH_CONTROL_MEDIA t <;> simp

theorem Die.ethLocked_iff (d : Die) (t : Nat) :
    d.ethLocked t = true ↔ d.on R.ETH_STATUS_BLOCK_LOCK t = true ∧ (d.on R.ETH_CONTROL_FEC t = true → d.on R.ETH_STATUS_FEC_LOCK t = true) := by
  unfold Die.ethLocked
  cases d.on R.ETH_CONTROL_FEC t <;> simp

/-- A command that leaves the machine as an action on the die does, by what the action gives. -/
theorem State.completes_dieGives {s : State} {c : Instr} {f : Die} {P : State → Prop} (g : Die) (hc : exec c s = .next { s with die := f }) (hg : f = g)
    (h : P { s with die := g }) : s.completes c P := ⟨_, hc, by rw [hg]; exact h⟩

/-- The machine after such an action on a port. -/
theorem Die.portFrame.goes {t : Nat} {s : State} {g : Die} {Q : Prop} (h : s.die.portFrame t g) (hQ : Q) : ({ s with die := g } : State)
    = { s with die := { s.die with regs := g.regs, tallies := g.tallies, loft := g.loft, host := g.host, emits := g.emits, store := g.store, ports := g.ports } }
    ∧ (∀ j, j ≠ 64 + t → KMap.get {} g.ports j = KMap.get {} s.die.ports j) ∧ Q :=
  ⟨congrArg (fun d => { s with die := d }) h.1, h.2, hQ⟩

/-- A local fault that begins or ends (R417). -/
theorem Die.localFault_sets (t : Nat) (b : Bool) (d : Die) : d.portFrame t (d.localFault t b) ∧ (d.localFault t b).tallies = d.tallies
    ∧ (d.localFault t b).on R.ETH_STATUS_LOCAL_FAULT t = b ∧ (d.localFault t b).on R.ETH_STATUS_ACTIVE t = d.on R.ETH_STATUS_ACTIVE t
    ∧ (d.on R.ETH_STATUS_LOCAL_FAULT t = !b → (d.localFault t b).emits = d.emits ++ [.fault t b]) := by
  unfold Die.localFault
  by_cases h : d.on R.ETH_STATUS_LOCAL_FAULT t = b
  · rw [if_pos h]
    exact ⟨d.portFrame_refl t, rfl, h, rfl, fun hne => by rw [h] at hne; cases b <;> cases hne⟩
  · rw [if_neg h]
    exact ⟨(d.portFrame_flag t _ _ _).trans (Die.portFrame_emit t _ _), rfl, Die.on_flag_same _ _ _ _ rfl, Die.on_flag_apart _ _ _ _ _ (by decide), fun _ => rfl⟩

/-- Settles O39: each event of a port, and the write of ETH_CONTROL. -/
theorem ethernetLinks : Obligations.EthernetLinks := by
  unfold Obligations.EthernetLinks
  intro s t ht
  have hok : decide (t < 16) = true := decide_eq_true ht
  have hk : loftTally (T.ETH_LINK_DOWN.key t) = false := loftTally_eth _ _ rfl ht (by decide)
  have htally {d e : Die} (h : d.tallies = e.tallies) : d.tally T.ETH_LINK_DOWN t = e.tally T.ETH_LINK_DOWN t := congrArg (fun m => KMap.get 0 m _) h
  have hends {d f g : Die} (hsame : f.tallies = d.tallies) (hactive : f.on R.ETH_STATUS_ACTIVE t = d.on R.ETH_STATUS_ACTIVE t) (h : Die.EthEnded t f g) :
      g.on R.ETH_STATUS_ACTIVE t = false ∧ (d.on R.ETH_STATUS_ACTIVE t = true → g.tally T.ETH_LINK_DOWN t = tallyAdd (d.tally T.ETH_LINK_DOWN t) 1)
      ∧ (d.on R.ETH_STATUS_ACTIVE t = false → g.tally T.ETH_LINK_DOWN t = d.tally T.ETH_LINK_DOWN t) :=
    ⟨h.active, fun ha => by rw [h.counted (hactive.trans ha), htally hsame], fun ha => by rw [h.idle (hactive.trans ha), htally hsame]⟩
  have hself (c : Instr) {f : Die} (hc : exec c s = .next { s with die := f }) (hf : f = s.die) := State.completes_dieGives (c := c) (P := fun u => u = { s with
    die := { s.die with regs := u.die.regs, tallies := u.die.tallies, loft := u.die.loft, host := u.die.host, emits := u.die.emits
                        store := u.die.store, ports := u.die.ports } } ∧ (∀ j, j ≠ 64 + t → KMap.get {} u.die.ports j = KMap.get {} s.die.ports j) ∧ u.die = s.die)
    s.die hc hf ⟨rfl, fun _ _ => rfl, rfl⟩
  refine ⟨fun hphy hlocked hclear => ?_, fun hnot => ?_, ?_, ?_, ?_, ?_, ?_, fun block codeword => ⟨fun hphy => ?_, fun hphy => ?_, fun hidle => ?_, fun hactive => ?_⟩,
    fun hen hmedia => ⟨?_, ?_⟩, fun hno ok => ?_, fun src w ha => ⟨fun h1 h23 => ?_, fun hhas => ?_⟩⟩
  · cases hactive : s.die.on R.ETH_STATUS_ACTIVE t with
    | true =>
      refine State.completes_dieGives s.die (if_pos hok) ?_ (Die.portFrame.goes (s.die.portFrame_refl t) ⟨hactive, rfl, fun _ => rfl⟩)
      dsimp only
      rw [hactive, Bool.not_true, Bool.and_false, if_neg Bool.false_ne_true]
    | false =>
      have htrace := (s.die.flag R.ETH_STATUS_ACTIVE t true).traced_ethPacket t 0 1 6
      refine State.completes_dieGives ((s.die.flag R.ETH_STATUS_ACTIVE t true).ethPacket t 0 1 6) (if_pos hok) ?_
        (Die.portFrame.goes ((s.die.portFrame_flag t _ _ _).trans (htrace.1.portFrame t)) ⟨?_, htrace.tally _ _ hk, fun h => absurd h (by decide)⟩)
      · dsimp only
        rw [if_pos]
        rw [(s.die.ethPhy_iff t).mpr hphy, (s.die.ethLocked_iff t).mpr hlocked, hclear.1, hclear.2, hactive]
        rfl
      · rw [Die.on, htrace.1.get _ _ (reportWord_eth _ t rfl ht (by decide) (by decide))]
        exact s.die.on_flag_same R.ETH_STATUS_ACTIVE t true rfl
  · refine hself _ (if_pos hok) ?_
    dsimp only
    rw [if_neg]
    intro h
    simp only [Bool.and_eq_true, Bool.not_eq_true'] at h
    obtain ⟨⟨⟨⟨hphy, hlocked⟩, hlf⟩, hrf⟩, -⟩ := h
    exact hnot ⟨(s.die.ethPhy_iff t).mp hphy, (s.die.ethLocked_iff t).mp hlocked, hlf, hrf⟩
  · obtain ⟨hframe, htallies, hlf, hactive, hemits⟩ := s.die.localFault_sets t false
    refine State.completes_dieGives ((s.die.localFault t false).flag R.ETH_STATUS_REMOTE_FAULT t false) (if_pos hok) rfl
      (Die.portFrame.goes (hframe.trans (Die.portFrame_flag t _ _ _ _)) ⟨?_, Die.on_flag_same _ _ _ _ rfl, ⟨?_, htallies⟩, fun h => hemits h⟩)
    · rw [Die.on_flag_apart _ _ _ _ _ (by decide), hlf]
    · rw [Die.on_flag_apart _ _ _ _ _ (by decide), hactive]
  · obtain ⟨hframe, htallies, hblock, hfec, hactive, -⟩ := s.die.ethUnlock_sets t true true
    have h := (s.die.ethUnlock t true true).ethDown_ends t 5 ht
    refine State.completes_dieGives ((s.die.ethUnlock t true true).ethDown t 5) (if_pos hok) rfl (Die.portFrame.goes (hframe.trans h.frame) ⟨hends htallies hactive h, ?_, ?_⟩)
    · rw [h.on _ rfl (by decide) (by decide) (by decide), hblock]
      rfl
    · rw [h.on _ rfl (by decide) (by decide) (by decide), hfec]
      rfl
  · obtain ⟨hframe, htallies, hlf, hactive, hemits⟩ := s.die.localFault_sets t true
    have h := (s.die.localFault t true).ethDown_ends t 6 ht
    refine State.completes_dieGives ((s.die.localFault t true).ethDown t 6) (if_pos hok) rfl (Die.portFrame.goes (hframe.trans h.frame) ⟨hends htallies hactive h, ?_, fun hno => ?_⟩)
    · rw [h.on _ rfl (by decide) (by decide) (by decide), hlf]
    · rw [h.emits, hemits hno]
      simp
  · have h := (s.die.flag R.ETH_STATUS_REMOTE_FAULT t true).ethDown_ends t 6 ht
    refine State.completes_dieGives ((s.die.flag R.ETH_STATUS_REMOTE_FAULT t true).ethDown t 6) (if_pos hok) rfl (Die.portFrame.goes
      ((s.die.portFrame_flag t _ _ _).trans h.frame) ⟨hends (f := s.die.flag R.ETH_STATUS_REMOTE_FAULT t true) rfl (Die.on_flag_apart _ _ _ _ _ (by decide)) h, ?_⟩)
    rw [h.on _ rfl (by decide) (by decide) (by decide), Die.on_flag_same _ _ _ _ rfl]
  · obtain ⟨hframe, htallies, hblock, hfec, hactive, hcfg⟩ := s.die.ethUnlock_sets t false true
    have h := (s.die.ethUnlock t false true).ethDown_ends t 5 ht
    cases hrs : s.die.on R.ETH_CONTROL_FEC t with
    | false =>
      refine State.completes_dieGives (s.die.ethUnlock t false true) (if_pos hok) ?_ (Die.portFrame.goes hframe
        ⟨by rw [hfec]; rfl, by rw [hblock]; rfl, fun h => absurd h (by decide), fun _ => ⟨hactive, htallies⟩⟩)
      exact if_pos (⟨rfl, hcfg.trans hrs⟩ : (4 : Nat) = 4 ∧ (s.die.ethUnlock t false true).on R.ETH_CONTROL_FEC t = false)
    | true =>
      refine State.completes_dieGives ((s.die.ethUnlock t false true).ethDown t 5) (if_pos hok) ?_ (Die.portFrame.goes (hframe.trans h.frame)
        ⟨?_, ?_, fun _ => hends htallies hactive h, fun h => absurd h (by decide)⟩)
      · exact if_neg (show ¬ ((4 : Nat) = 4 ∧ (s.die.ethUnlock t false true).on R.ETH_CONTROL_FEC t = false) by rw [hcfg, hrs]; decide)
      · rw [h.on _ rfl (by decide) (by decide) (by decide), hfec]
        rfl
      · rw [h.on _ rfl (by decide) (by decide) (by decide), hblock]
        rfl
  · obtain ⟨hframe, htallies⟩ := s.die.portFrame_flagIf t block R.ETH_STATUS_BLOCK_LOCK t true
    have hor (c x : Bool) : (if c then true else x) = (c || x) := by cases c <;> rfl
    have hgo : (if s.die.ethPhy t then (if codeword && (if block then s.die.flag R.ETH_STATUS_BLOCK_LOCK t true else s.die).on R.ETH_CONTROL_FEC t
        then (if block then s.die.flag R.ETH_STATUS_BLOCK_LOCK t true else s.die).flag R.ETH_STATUS_FEC_LOCK t true
        else (if block then s.die.flag R.ETH_STATUS_BLOCK_LOCK t true else s.die)) else s.die) = _ := if_pos ((s.die.ethPhy_iff t).mpr hphy)
    refine State.completes_dieGives _ (if_pos hok) hgo ?_
    have hon (g : Fld) (hg : (g.base + g.off) * 32 + g.lo ≠ (R.ETH_STATUS_BLOCK_LOCK.base + R.ETH_STATUS_BLOCK_LOCK.off) * 32 + R.ETH_STATUS_BLOCK_LOCK.lo) :
        (if block then s.die.flag R.ETH_STATUS_BLOCK_LOCK t true else s.die).on g t = s.die.on g t := Die.on_flagIf_apart _ _ _ _ _ _ hg
    have hblock : (if block then s.die.flag R.ETH_STATUS_BLOCK_LOCK t true else s.die).on R.ETH_STATUS_BLOCK_LOCK t = (block || s.die.on R.ETH_STATUS_BLOCK_LOCK t) := by
      rw [Die.on_flagIf_same _ _ _ _ _ rfl, hor]
    generalize (if block then s.die.flag R.ETH_STATUS_BLOCK_LOCK t true else s.die) = e at hframe htallies hon hblock
    obtain ⟨hframe', htallies'⟩ := e.portFrame_flagIf t (codeword && e.on R.ETH_CONTROL_FEC t) R.ETH_STATUS_FEC_LOCK t true
    refine Die.portFrame.goes (hframe.trans hframe') ⟨⟨?_, htallies'.trans htallies⟩, ?_, ?_⟩
    · rw [Die.on_flagIf_apart _ _ _ _ _ _ (by decide), hon _ (by decide)]
    · rw [Die.on_flagIf_apart _ _ _ _ _ _ (by decide), hblock]
    · rw [Die.on_flagIf_same _ _ _ _ _ rfl, hor, hon _ (by decide), hon _ (by decide)]
  · refine hself (.blockLockGained ⟨t, block, codeword⟩) (if_pos hok) ?_
    dsimp only
    rw [if_neg (fun h => hphy ((s.die.ethPhy_iff t).mp h))]
  · obtain ⟨hframe, htallies, hblock, hfec, hactive, -⟩ := s.die.ethUnlock_sets t block codeword
    refine State.completes_dieGives (s.die.ethUnlock t block codeword) (if_pos hok) ?_ (Die.portFrame.goes hframe ⟨⟨hactive, htallies⟩, hblock, hfec⟩)
    dsimp only
    rw [hidle, if_neg Bool.false_ne_true]
  · refine hself (.blockLockLost ⟨t, block, codeword⟩) (if_pos hok) ?_
    dsimp only
    rw [hactive, if_pos rfl]
  · refine State.completes_dieGives (s.die.flag R.ETH_STATUS_AN_DONE t true) (if_pos hok) ?_
      (Die.portFrame.goes (s.die.portFrame_flag t _ _ _) ⟨Die.on_flag_same _ _ _ _ rfl, Die.on_flag_apart _ _ _ _ _ (by decide)⟩)
    dsimp only
    rw [hen, hmedia]
    rfl
  · obtain ⟨hframe, hactive, hcount, hidle, hblock, hfec, han, -⟩ := s.die.ethLost_ends t ht
    refine State.completes_dieGives (s.die.ethLost t) (if_pos hok) ?_ (Die.portFrame.goes hframe ⟨⟨hactive, hcount, hidle⟩, ⟨hblock, hfec⟩, han⟩)
    dsimp only
    rw [hen, hmedia]
    rfl
  · refine hself (.autonegDone t ok) (if_pos hok) ?_
    dsimp only
    rw [if_neg]
    rintro h
    rw [Bool.and_eq_true] at h
    rcases hno with h' | h'
    · exact absurd (h'.symm.trans h.1) (by decide)
    · exact absurd (h'.symm.trans h.2) (by decide)
  · obtain ⟨-, hc1, hc2, hc3⟩ := s.die.enableCut_bits (decide (8 ≤ t)) w.toNat
    refine State.completes_dieGives (s.die.flag R.ETH_STATUS_CFG_REFUSED t true) (if_pos hok) ?_ (Die.portFrame.goes (s.die.portFrame_flag t _ _ _)
      ⟨?_, Die.on_flag_same _ _ _ _ rfl, Die.on_flag_apart _ _ _ _ _ (by decide), ?_⟩)
    · rw [writeDie_admitted ha]
      unfold ethControlW
      dsimp only
      rw [hc1, hc2, hc3, if_pos ⟨h1, h23⟩]
    · exact ⟨Die.get_put_apart _ _ _ _ _ (by decide), Die.get_put_apart _ _ _ _ _ (by decide), Die.get_put_apart _ _ _ _ _ (by decide)⟩
    · exact Die.get_put_apart _ _ _ _ _ (by decide)
  · obtain ⟨hc0, hc1, hc2, hc3⟩ := s.die.enableCut_bits (decide (8 ≤ t)) w.toNat
    have hnot : ¬ (bit w.toNat 1 = false ∧ (bit w.toNat 2 = true ∨ bit w.toNat 3 = true)) := by
      rintro ⟨h1, h23⟩
      rcases hhas with h | ⟨h2, h3⟩
      · exact absurd (h1.symm.trans h) (by decide)
      · rcases h23 with h | h
        · exact absurd (h2.symm.trans h) (by decide)
        · exact absurd (h3.symm.trans h) (by decide)
    obtain ⟨hframe, htallies, henable, hactive, hkept, htaken⟩ := s.die.ethTaken_sets t (s.die.enableCut (decide (8 ≤ t)) w.toNat)
    have hlost := (s.die.ethTaken t (s.die.enableCut (decide (8 ≤ t)) w.toNat)).ethLost_ends t ht
    have henables : (bit w.toNat 0 && (decide (t < 8) || !s.die.lowProfile)) = bit (s.die.enableCut (decide (8 ≤ t)) w.toNat) 0 := by
      rw [hc0]
      by_cases h8 : t < 8
      · simp [h8]
      · simp [h8, Nat.le_of_not_lt h8]
    refine State.completes_dieGives _ (if_pos hok) ((writeDie_admitted ha _).trans (ethControlW_takes t w.toNat s.die hnot)) ?_
    rw [hc1, hc2, hc3] at hkept htaken
    dsimp only
    rw [henables]
    generalize s.die.ethTaken t (s.die.enableCut (decide (8 ≤ t)) w.toNat) = f at hframe htallies henable hactive hkept htaken hlost ⊢
    have hhas' {e : Die} {v : Nat × Nat × Nat} (h : e.ethSetting t = v) :
        e.get R.ETH_CONTROL_SPEED t = v.1 ∧ e.get R.ETH_CONTROL_FEC t = v.2.1 ∧ e.get R.ETH_CONTROL_MEDIA t = v.2.2 := h ▸ ⟨rfl, rfl, rfl⟩
    obtain ⟨hframe', hoff, hcount, hidle, hblock, hfec, han, hrefused, hctl⟩ := hlost
    have hsetting : (f.ethLost t).ethSetting t = f.ethSetting t := by
      unfold Die.ethSetting
      rw [hctl _ rfl rfl (by decide), hctl _ rfl rfl (by decide), hctl _ rfl rfl (by decide)]
    by_cases hends' : f.on R.ETH_CONTROL_ENABLE t = false ∨ s.die.ethSetting t ≠ f.ethSetting t
    · rw [if_pos hends']
      refine Die.portFrame.goes (hframe.trans hframe') ⟨?_, fun hc hne => ⟨hhas' (hsetting.trans (hkept hc hne).1), hrefused.trans (hkept hc hne).2⟩,
        fun h => hhas' (hsetting.trans (htaken h)), fun _ => ⟨⟨hoff, fun h => ?_, fun h => ?_⟩, ⟨hblock, hfec⟩, han⟩, fun hon hsame => ?_⟩
      · rw [Die.on, hctl _ rfl rfl (by decide)]
        exact henable
      · rw [hcount (hactive.trans h), htally htallies]
      · rw [hidle (hactive.trans h), htally htallies]
      · rcases hends' with h | h
        · exact absurd (h.symm.trans (henable.trans hon)) (by decide)
        · exact absurd (hsame.trans (htaken (.inr hsame)).symm) h
    · rw [if_neg hends']
      refine Die.portFrame.goes hframe ⟨henable, fun hc hne => ⟨hhas' (hkept hc hne).1, (hkept hc hne).2⟩, fun h => hhas' (htaken h), fun h => ?_, fun _ _ => hactive⟩
      rcases h with h | ⟨hc, hne⟩
      · exact absurd (.inl (henable.trans h)) hends'
      · exact absurd (.inr (fun heq => hne (heq.trans (htaken (.inl hc))))) hends'

end Sys2Proof.Machine
end

section
/-! SUPPORT. What packets of no pasture write, more narrowly than a report; the Loft's controls (R555, R556, R559 to R562, R567). -/

namespace Sys2Proof.Machine

/-- The words that a packet of no pasture writes: DEV_ALARM and the heads of the Loft's two rings. -/
def packetWord (a : Nat) : Bool := a == 0x810 || a == 0x31810 || a == 0x31814

/-- `e` is `d` after packets of no pasture: registers of those words, tallies, the Loft and host memory. -/
def Die.sends (d e : Die) : Prop :=
  e = { d with regs := e.regs, tallies := e.tallies, loft := e.loft, host := e.host } ∧ ∀ (f : Fld) (i : Nat), packetWord (f.key i / 32) = false → e.get f i = d.get f i

theorem Die.sends_refl (d : Die) : d.sends d := ⟨rfl, fun _ _ _ => rfl⟩

theorem Die.sends.trans {a b c : Die} (h : a.sends b) (k : b.sends c) : a.sends c := by
  refine ⟨?_, fun f i hf => (k.2 f i hf).trans (h.2 f i hf)⟩
  have hk := k.1
  rw [h.1] at hk
  exact hk

theorem Die.sends_of (d e : Die) (h : e = { d with tallies := e.tallies, loft := e.loft, host := e.host }) : d.sends e := by
  refine ⟨?_, fun f i _ => Die.get_congr _ _ (by rw [h]) _ _⟩
  rw [h]

theorem Die.sends_put (d : Die) (f : Fld) (i v : Nat) (h : packetWord (f.key i / 32) = true) : d.sends (d.put f i v) := by
  refine ⟨rfl, fun g j hg => Die.get_put_other _ _ _ _ _ _ fun e => ?_⟩
  rw [e, h] at hg
  cases hg

theorem Die.sends_ite {c : Prop} [Decidable c] {d e f : Die} (h : d.sends e) (k : d.sends f) : d.sends (if c then e else f) := by
  split <;> assumption

theorem packetWord_alarmFld (b : Nat) (h : b < 32) : packetWord ((alarmFld b).key 0 / 32) = true := by
  have : (alarmFld b).key 0 / 32 = 0x810 := by simp only [alarmFld, Fld.key]; omega
  rw [this]
  rfl

theorem Die.sends_countRaw (t : Tal) (i n : Nat) (d : Die) : d.sends (d.countRaw t i n) := by
  unfold Die.countRaw
  dsimp only
  split
  · exact (Die.sends_of d _ rfl).trans (Die.sends_put _ _ _ _ (packetWord_alarmFld 15 (by decide)))
  · exact Die.sends_of d _ rfl

theorem Die.sends_loft (d : Die) (l : Loft) : d.sends { d with loft := l } := Die.sends_of _ _ rfl

theorem PktRing.sends_write (r : PktRing) (h : packetWord (r.head.key r.inst / 32) = true) (pad : Nat) (bs : List Byte) (d : Die) : d.sends (r.write pad bs d) :=
  ((Die.sends_of d (d.hostWrite _ _ _) rfl).trans (Die.sends_of _ (Die.hostWrite _ _ _ _) rfl)).trans (Die.sends_put _ _ _ _ h)

theorem Die.sends_gapBytes (k : Pkt) (g : Nat × Nat) (d : Die) : d.sends (d.gapBytes k g).2 :=
  (Die.sends_of d (d.nextSeq 9 0).2 rfl).trans (Die.sends_countRaw _ _ _ _)

theorem sends_dropLoft (a : Bool) (d : Die) : d.sends (dropLoft a d) := by
  have h := (d.sends_countRaw T.LFT_TRACE_DROP 0 1).trans (Die.sends_put _ (alarmFld 14) 0 1 (packetWord_alarmFld 14 (by decide)))
  unfold dropLoft
  exact Die.sends_ite (h.trans (Die.sends_countRaw _ _ _ _)) h

theorem Die.sends_ringPut (r : PktRing) (hr : packetWord (r.head.key r.inst / 32) = true) (out : Nat) (k : Pkt) (bs : List Byte) (a : Bool) (d : Die) :
    d.sends (d.ringPut r out k bs (dropLoft a)) := by
  have hdrop (l : Loft) : d.sends { dropLoft a d with loft := l } := (sends_dropLoft a d).trans (Die.sends_loft _ l)
  unfold Die.ringPut
  refine Die.sends_ite (hdrop _) ?_
  split
  · exact hdrop _
  · refine Die.sends_ite (PktRing.sends_write r hr _ _ _) ?_
    exact ((d.sends_gapBytes k _).trans (Die.sends_loft _ _)).trans (PktRing.sends_write r hr _ _ _)

theorem Die.sends_lanePut (bs : List Byte) (d : Die) : d.sends (d.lanePut bs) := by
  unfold Die.lanePut
  split
  · exact d.sends_refl
  · exact d.sends_loft _
  · exact d.sends_loft _

theorem Die.sends_laneDrain (k : Pkt) (bs : List Byte) (d : Die) : d.sends (d.laneDrain k bs) := by
  unfold Die.laneDrain
  refine Die.sends_ite d.sends_refl (Die.sends_ite ?_ (Die.sends_ite (d.sends_lanePut bs) ?_))
  · exact (sends_dropLoft _ d).trans (Die.sends_loft _ _)
  · exact (((d.sends_gapBytes k _).trans (Die.sends_loft _ _)).trans (Die.sends_lanePut _ _)).trans (Die.sends_lanePut _ _)

theorem Die.sends_ffPut (bs : List Byte) (d : Die) : d.sends (d.ffPut bs) := Die.sends_ite (Die.sends_loft _ _) d.sends_refl

theorem Die.packetWord_ringA (d : Die) : packetWord (d.ringA.head.key d.ringA.inst / 32) = true := by
  change packetWord (R.LFT_A_HEAD_VALUE.key 0 / 32) = true
  decide

theorem Die.packetWord_ringG (d : Die) : packetWord (d.ringG.head.key d.ringG.inst / 32) = true := by
  change packetWord (R.LFT_RING_HEAD_VALUE.key 0 / 32) = true
  decide

theorem Die.sends_deliver (k : Pkt) (hk : k.pas = none) (d : Die) : d.sends (d.deliver k) := by
  have hfirst : d.sends ((if (d.routes k).1 || (d.nextSeq k.src k.inst).2.ffOpen
      || ((d.routes k).2.2 && (d.on R.LFT_CONTROL_PCIE || !d.loftLanes.isEmpty)) then (d.nextSeq k.src k.inst).2.countRaw T.LFT_PACKETS 0 1
      else (d.nextSeq k.src k.inst).2).ffPut (k.bytes (d.nextSeq k.src k.inst).1 d.fc)) :=
    ((Die.sends_of d (d.nextSeq _ _).2 rfl).trans (Die.sends_ite (Die.sends_countRaw _ _ _ _) (Die.sends_refl _))).trans (Die.sends_ffPut _ _)
  unfold Die.deliver
  split
  rename_i a p g hroutes
  rw [hroutes] at hfirst
  refine Die.sends_ite ?_ d.sends_refl
  dsimp only
  rw [hk]
  dsimp only
  refine Die.sends.trans ?_ (Die.sends_ite (Die.sends_laneDrain _ _ _) (Die.sends_refl _))
  refine Die.sends.trans ?_ (Die.sends_ite (Die.sends_ringPut _ (Die.packetWord_ringG _) _ _ _ _ _) (Die.sends_refl _))
  exact Die.sends_ite (hfirst.trans (Die.sends_ringPut _ (Die.packetWord_ringA _) _ _ _ _ _)) hfirst

theorem Die.sends_alarmsSince (d0 : Die) (bs sent : List Nat) (d : Die) : d.sends (Die.alarmsSince d0 bs sent d) := by
  induction bs generalizing sent d with
  | nil => exact d.sends_refl
  | cons b bs ih =>
    unfold Die.alarmsSince
    exact Die.sends_ite ((d.sends_deliver (alarmPkt b) rfl).trans (ih _ _)) (ih _ _)

theorem Die.sends_countBy (t : Tal) (i n : Nat) (d : Die) : d.sends (d.countBy t i n) := by
  unfold Die.countBy
  refine Die.sends.trans ?_ (Die.sends_alarmsSince _ _ _ _)
  split
  · next b hb => exact (d.sends_countRaw _ _ _).trans (Die.sends_put _ _ _ _ (packetWord_alarmFld b (Tal.alarm_lt t b hb)))
  · exact d.sends_countRaw _ _ _

theorem Die.sends_count (t : Tal) (i : Nat) (d : Die) : d.sends (d.count t i) := d.sends_countBy t i 1

theorem Die.sends_alarm (b : Nat) (hb : b < 32) (d : Die) : d.sends (d.alarm b) :=
  (d.sends_put _ _ _ (packetWord_alarmFld b hb)).trans (Die.sends_alarmsSince _ _ _ _)

theorem Die.sends_trace (k : Pkt) (hk : k.pas = none) (d : Die) : d.sends (d.trace k) := by
  have h := d.sends_deliver k hk
  unfold Die.trace
  generalize d.deliver k = e at h ⊢
  exact h.trans (Die.sends_alarmsSince d [14, 15, 14] [] e)

/-- What an incident of the mask's leaves while the first-failure region is armed (R559, R560). -/
theorem Die.incident_captures (c src inst name : Nat) (d : Die) (hmask : bit (d.get R.LFT_INC_MASK_MASK) (c - 1) = true) (hc : 1 ≤ c)
    (harmed : d.get R.LFT_STATUS_FF_STATE = 1) : (d.incident c src inst name).get R.LFT_STATUS_FF_STATE = 2
      ∧ (d.incident c src inst name).get R.LFT_STATUS_CAUSE = c % 256
      ∧ (d.incident c src inst name).pair64 R.LFT_FF_FC_LO R.LFT_FF_FC_HI = d.fc % 2 ^ 64
      ∧ d.incident c src inst name = { d with regs := (d.incident c src inst name).regs, tallies := (d.incident c src inst name).tallies
                                              loft := (d.incident c src inst name).loft, host := (d.incident c src inst name).host } := by
  have hsent := (d.sends_count T.LFT_INCIDENTS 0).trans (Die.sends_alarm 16 (by decide) _)
  have hstate : ((d.count T.LFT_INCIDENTS 0).alarm 16).get R.LFT_STATUS_FF_STATE = 1 := (hsent.2 _ _ rfl).trans harmed
  unfold Die.incident
  rw [if_pos (by rw [hmask, decide_eq_true hc]; rfl)]
  dsimp only
  rw [hstate, if_pos (show ((1 : Nat) == 1) = true from rfl)]
  have hall := hsent.trans (Die.sends_trace ⟨9, false, src, inst, none, leBytes 1 c ++ leBytes 1 (b2n (1 == 1)) ++ leBytes 2 name⟩ rfl _)
  generalize ((d.count T.LFT_INCIDENTS 0).alarm 16).trace ⟨9, false, src, inst, none, leBytes 1 c ++ leBytes 1 (b2n (1 == 1)) ++ leBytes 2 name⟩ = e at hall
  have hfc : e.fc = d.fc := (congrArg Die.fc hall.1).trans rfl
  have hloft (x : Die) (l : Loft) (f : Fld) : ({ x with loft := l } : Die).get f = x.get f := rfl
  refine ⟨?_, ?_, ?_, ?_⟩
  · rw [hloft, Die.putPair, Die.get_put_apart _ _ _ _ _ (by decide), Die.get_put_apart _ _ _ _ _ (by decide), Die.get_put_apart _ _ _ _ _ (by decide), Die.get_put_same]
    rfl
  · rw [hloft, Die.putPair, Die.get_put_apart _ _ _ _ _ (by decide), Die.get_put_apart _ _ _ _ _ (by decide), Die.get_put_same]
    rfl
  · rw [Die.pair64, hloft _ _ R.LFT_FF_FC_LO, hloft _ _ R.LFT_FF_FC_HI, Die.putPair, Die.get_put_apart _ _ _ _ _ (by decide), Die.get_put_same, Die.get_put_same, hfc]
    simp only [R.LFT_FF_FC_LO, R.LFT_FF_FC_HI]
    omega
  · obtain ⟨r, t, l, m, he⟩ : ∃ r t l m, e = { d with regs := r, tallies := t, loft := l, host := m } := ⟨_, _, _, _, hall.1⟩
    subst he
    rfl

/-- Host memory reads as the last write that covers the words read. -/
theorem Die.hostRead_hostWrite (fn addr n : Nat) (bs : List Byte) (d : Die) (hn : bs.length = n) : (d.hostWrite fn addr bs).hostRead fn addr n = bs := by
  subst hn
  unfold Die.hostRead Die.hostWrite KMap.getRange
  refine List.ext_getElem (by simp) fun i hi _ => ?_
  rw [List.getElem_map, List.getElem_range]
  exact KMap.get_setRange_in _ _ _ _ _ _

theorem padTo_length (n : Nat) (bs : List Byte) (h : bs.length ≤ n) : (padTo n bs).length = n := by
  simp only [padTo, List.length_append, List.length_replicate]
  omega

/-- The lanes of a write of LFT_CONTROL serve where each is the Loft's and they differ (R556, R567). -/
theorem Die.lanesServe (n : Nat) (d : Die) :
    ((if bit n 1 then bits n 8 6 :: (if bit n 2 then [bits n 16 6] else []) else []).all d.loftLane
      && decide ((if bit n 1 then bits n 8 6 :: (if bit n 2 then [bits n 16 6] else []) else []).eraseDups.length
        = (if bit n 1 then bits n 8 6 :: (if bit n 2 then [bits n 16 6] else []) else []).length)) = true
    ↔ (bit n 1 = true → d.loftLane (bits n 8 6) = true) ∧ (bit n 1 = true ∧ bit n 2 = true → d.loftLane (bits n 16 6) = true ∧ bits n 8 6 ≠ bits n 16 6) := by
  cases h1 : bit n 1
  · simp
  · cases h2 : bit n 2
    · simp [List.eraseDups_cons]
    · by_cases heq : bits n 8 6 = bits n 16 6
      · simp [List.eraseDups_cons, heq]
      · have hne : (bits n 16 6 == bits n 8 6) = false := beq_false_of_ne fun h => heq h.symm
        simp [List.eraseDups_cons, heq, hne]

/-- What each action of LFT_FF leaves. -/
theorem lftFfW_arm (n : Nat) (d : Die) (h0 : bit n 0 = true) : lftFfW n d = (d.setFields .LFT 0 0x014 n).ffArm := by
  rw [lftFfW]
  simp only [lowestWo, List.find?_cons, h0]

theorem lftFfW_dump (n : Nat) (d : Die) (h0 : bit n 0 = false) (h1 : bit n 1 = true) : lftFfW n d = (d.setFields .LFT 0 0x014 n).ffDump := by
  rw [lftFfW]
  simp only [lowestWo, List.find?_cons, h0, h1]

theorem lftFfW_trigger (n : Nat) (d : Die) (h0 : bit n 0 = false) (h1 : bit n 1 = false) (h2 : bit n 2 = true) :
    lftFfW n d = (d.setFields .LFT 0 0x014 n).incident 12 9 0 0 := by
  rw [lftFfW]
  simp only [lowestWo, List.find?_cons, h0, h1, h2]

theorem lftFfW_disarm (n : Nat) (d : Die) (h0 : bit n 0 = false) (h1 : bit n 1 = false) (h2 : bit n 2 = false) (h3 : bit n 3 = true) :
    lftFfW n d = (d.setFields .LFT 0 0x014 n).ffDisarm := by
  rw [lftFfW]
  simp only [lowestWo, List.find?_cons, h0, h1, h2, h3]

/-- A write of LFT_FF touches its own word alone. -/
theorem Die.setFields_lft (n : Nat) (d : Die) : ∃ r, d.setFields .LFT 0 0x014 n = { d with regs := r }
    ∧ ∀ f : Fld, f.base = 0x31000 → f.off + f.lo / 32 ≠ 0x014 → ({ d with regs := r } : Die).get f = d.get f := by
  refine ⟨_, Die.setFields_regs .LFT 0 0x014 n d, fun f hb ho => ?_⟩
  rw [← Die.setFields_regs]
  exact Die.get_setFields_page _ _ _ _ _ _ hb ho

/-- A write leaves in a plain bit the bit that it carries (R15). -/
theorem Die.on_setFields_rw (b : Block) (i off w : Nat) (d : Die) (f : Fld) (hx : ⟨f, any⟩ ∈ fieldsAt b off) (hrw : f.acc = .rw) (hwidth : f.width = 1) :
    (d.setFields b i off w).on f i = bit w f.lo := by
  rw [Die.on, (d.get_setFields_rw b i off w ⟨f, any⟩ hx hrw).trans (if_pos rfl), hwidth, bit_eq_bits]

/-- A write of LFT_CONTROL whose lanes serve takes its fields, and the ring newly in use begins empty (R556, R567). -/
theorem lftControlW_serves (n : Nat) (d : Die) (hserve : (bit n 1 = true → d.loftLane (bits n 8 6) = true)
      ∧ (bit n 1 = true ∧ bit n 2 = true → d.loftLane (bits n 16 6) = true ∧ bits n 8 6 ≠ bits n 16 6)) :
    ∃ r, lftControlW n d = { d with regs := r } ∧ (lftControlW n d).on R.LFT_CONTROL_PCIE = bit n 0 ∧ (lftControlW n d).on R.LFT_CONTROL_LANES = bit n 1
      ∧ (lftControlW n d).on R.LFT_CONTROL_TWO = bit n 2 ∧ (lftControlW n d).get R.LFT_CONTROL_LANE_A = bits n 8 6
      ∧ (lftControlW n d).get R.LFT_CONTROL_LANE_B = bits n 16 6 ∧ (d.on R.LFT_CONTROL_PCIE = false → bit n 0 = true →
        (lftControlW n d).get R.LFT_RING_HEAD_VALUE = 0 ∧ (lftControlW n d).get R.LFT_RING_TAIL_VALUE = 0) := by
  have hlaneA := (d.get_setFields_rw .LFT 0 0x010 n ⟨R.LFT_CONTROL_LANE_A, any⟩ (by simp [fieldsAt, Block.regs, regsLFT]) rfl).trans (if_pos rfl)
  have hlaneB := (d.get_setFields_rw .LFT 0 0x010 n ⟨R.LFT_CONTROL_LANE_B, any⟩ (by simp [fieldsAt, Block.regs, regsLFT]) rfl).trans (if_pos rfl)
  have hpcieIs : (d.setFields .LFT 0 0x010 n).on R.LFT_CONTROL_PCIE = bit n 0 :=
    d.on_setFields_rw (b := .LFT) (i := 0) (off := 0x010) (w := n) _ (by simp [fieldsAt, Block.regs, regsLFT]) rfl rfl
  have hlanesIs : (d.setFields .LFT 0 0x010 n).on R.LFT_CONTROL_LANES = bit n 1 :=
    d.on_setFields_rw (b := .LFT) (i := 0) (off := 0x010) (w := n) _ (by simp [fieldsAt, Block.regs, regsLFT]) rfl rfl
  have htwoIs : (d.setFields .LFT 0 0x010 n).on R.LFT_CONTROL_TWO = bit n 2 :=
    d.on_setFields_rw (b := .LFT) (i := 0) (off := 0x010) (w := n) _ (by simp [fieldsAt, Block.regs, regsLFT]) rfl rfl
  have hregs := d.setFields_regs .LFT 0 0x010 n
  rw [lftControlW]
  dsimp only
  rw [if_pos ((d.lanesServe n).2 hserve)]
  generalize d.setFields .LFT 0 0x010 n = e at hpcieIs hlanesIs htwoIs hlaneA hlaneB hregs ⊢
  cases hfresh : !(d.on R.LFT_CONTROL_PCIE) && bit n 0
  · rw [if_neg Bool.false_ne_true]
    refine ⟨_, hregs, hpcieIs, hlanesIs, htwoIs, hlaneA, hlaneB, fun hoff hon => ?_⟩
    rw [hoff, hon] at hfresh
    cases hfresh
  · rw [if_pos rfl]
    have hkept (f : Fld) (h : (f.base + f.off) * 32 + f.lo < 0x31011 * 32) :
        ((e.put R.LFT_RING_HEAD_VALUE 0 0).put R.LFT_RING_TAIL_VALUE 0 0).get f = e.get f :=
      (Die.get_put_apart _ _ _ _ _ (by simp only [R.LFT_RING_TAIL_VALUE]; omega)).trans (Die.get_put_apart _ _ _ _ _ (by simp only [R.LFT_RING_HEAD_VALUE]; omega))
    refine ⟨((e.put R.LFT_RING_HEAD_VALUE 0 0).put R.LFT_RING_TAIL_VALUE 0 0).regs, ?_, ?_, ?_, ?_, (hkept _ (by decide)).trans hlaneA,
      (hkept _ (by decide)).trans hlaneB, fun _ _ => ⟨?_, Die.get_put_same _ _ _ _⟩⟩
    · rw [hregs]
      rfl
    · rw [Die.on, hkept _ (by decide)]
      exact hpcieIs
    · rw [Die.on, hkept _ (by decide)]
      exact hlanesIs
    · rw [Die.on, hkept _ (by decide)]
      exact htwoIs
    · exact (Die.get_put_apart _ _ _ _ _ (by decide)).trans (Die.get_put_same _ _ _ _)

/-- The machine after an action on the Loft. -/
theorem State.loftGoes {s : State} {e : Die} {Q : Prop} (h : e = { s.die with regs := e.regs, tallies := e.tallies, loft := e.loft, host := e.host }) (hQ : Q) :
    ({ s with die := e } : State) = { s with die := { s.die with regs := e.regs, tallies := e.tallies, loft := e.loft, host := e.host, emits := e.emits } } ∧ Q :=
  ⟨congrArg (fun x => { s with die := x }) (h.trans (by rw [h])), hQ⟩

/-- Settles O47: the actions of LFT_FF one by one, and the lanes of LFT_CONTROL by `Die.lanesServe`. -/
theorem loftControlled : Obligations.LoftControlled := by
  unfold Obligations.LoftControlled
  intro s src w
  dsimp only
  obtain ⟨r, hfields, hget⟩ := s.die.setFields_lft w.toNat
  have hact (c : Instr) (e : Die) (hc : exec c s = dieCmd true (writeDie src (blockAddr .LFT 0 0x014) (lftFfW w.toNat)) s) (hg : s.admits src .LFT 0 0x014)
      (he : lftFfW w.toNat s.die = e) : exec c s = .next { s with die := e } := by rw [hc, dieCmd, if_pos rfl, writeDie_admitted hg, he]
  have hbusyIs : ({ s.die with regs := r } : Die).on R.LFT_STATUS_DUMP_BUSY = s.die.on R.LFT_STATUS_DUMP_BUSY := by
    rw [Die.on, hget _ rfl (by decide), ← Die.on]
  have hstateIs := hget R.LFT_STATUS_FF_STATE rfl (by decide)
  refine ⟨fun hst hafter => ?_, fun hst => ?_, ?_, fun hg => ⟨fun h0 => ?_, fun h0 h1 hbusy => ?_, fun h0 h1 h2 hmask hst => ?_, fun h0 h1 h2 h3 => ?_⟩,
    fun hg => ⟨fun hserve => ?_, fun hserve => ?_⟩⟩
  · refine State.completes_onDie rfl (if_pos ⟨hst, hafter⟩) (State.loftGoes rfl ⟨Die.get_put_same _ _ _ _, rfl⟩)
  · change Host.Outcome.next (onDie Die.captureFreeze s) = _
    rw [onDie, Die.captureFreeze, if_neg fun h => by have := h.1; have := h.2; omega]
  · exact State.completes_onDie rfl rfl (State.loftGoes rfl ⟨Die.on_flag_same _ _ _ _ rfl, rfl, rfl⟩)
  · have harm := hact (.arm src w) _ rfl hg ((lftFfW_arm w.toNat s.die h0).trans (congrArg Die.ffArm hfields))
    cases hbusy : s.die.on R.LFT_STATUS_DUMP_BUSY
    · refine State.completes_dieGives _ harm (if_neg (by rw [hbusyIs, hbusy]; exact Bool.false_ne_true)) ?_
      refine State.loftGoes rfl ⟨fun _ => ⟨?_, Die.get_put_same _ _ _ _, rfl⟩, fun h => Bool.noConfusion h⟩
      exact (Die.get_put_apart _ _ _ _ _ (by decide)).trans (Die.get_put_same _ _ _ _)
    · refine State.completes_dieGives _ harm (if_pos (hbusyIs.trans hbusy)) ?_
      exact State.loftGoes rfl ⟨fun h => Bool.noConfusion h, fun _ => ⟨hstateIs, rfl⟩⟩
  · have hdump := hact (.dump src w) _ rfl hg ((lftFfW_dump w.toNat s.die h0 h1).trans (congrArg Die.ffDump hfields))
    refine State.completes_dieGives _ hdump (if_neg (by rw [hbusyIs, hbusy]; exact Bool.false_ne_true)) ?_
    refine State.loftGoes rfl ⟨Die.on_flag_same _ _ _ _ rfl, rfl, (Die.get_put_apart _ _ _ _ _ (by decide)).trans hstateIs, fun hlen => ?_⟩
    have haddr : ({ s.die with regs := r } : Die).addr64 R.LFT_DUMP_ADDR_LO R.LFT_DUMP_ADDR_HI = s.die.addr64 R.LFT_DUMP_ADDR_LO R.LFT_DUMP_ADDR_HI := by
      rw [Die.addr64, hget _ rfl (by decide), hget _ rfl (by decide)]
      rfl
    rw [haddr]
    exact Die.hostRead_hostWrite _ _ _ _ _ (padTo_length _ _ hlen)
  · have htrig := hact (.trigger src w) _ rfl hg ((lftFfW_trigger w.toNat s.die h0 h1 h2).trans (congrArg (Die.incident 12 9 0 0) hfields))
    obtain ⟨hstate, hcause, hfc, hinc⟩ := Die.incident_captures 12 9 0 0 { s.die with regs := r }
      (by rw [hget _ rfl (by decide)]; exact hmask) (by decide) (hstateIs.trans hst)
    generalize Die.incident 12 9 0 0 { s.die with regs := r } = e at htrig hstate hcause hfc hinc
    exact State.completes_dieGives e htrig rfl (State.loftGoes hinc ⟨hstate, hcause, hfc⟩)
  · have hdisarm := hact (.disarm src w) _ rfl hg ((lftFfW_disarm w.toNat s.die h0 h1 h2 h3).trans (congrArg Die.ffDisarm hfields))
    by_cases hst : s.die.get R.LFT_STATUS_FF_STATE = 1 ∨ s.die.get R.LFT_STATUS_FF_STATE = 2
    · refine State.completes_dieGives _ hdisarm (if_pos (by rw [hstateIs]; exact hst)) ?_
      rw [if_pos hst]
      exact State.loftGoes rfl ⟨Die.get_put_same _ _ _ _, rfl⟩
    · refine State.completes_dieGives _ hdisarm (if_neg (by rw [hstateIs]; exact hst)) ?_
      rw [if_neg hst]
      exact State.loftGoes rfl ⟨hstateIs, rfl⟩
  · have hwrite : exec (.lftControl src w) s = .next { s with die := lftControlW w.toNat s.die } := by
      change dieCmd true (writeDie src (blockAddr .LFT 0 0x010) (lftControlW w.toNat)) s = _
      rw [dieCmd, if_pos rfl, writeDie_admitted hg]
    obtain ⟨r, hr, hrest⟩ := lftControlW_serves w.toNat s.die hserve
    rw [hr] at hwrite hrest
    exact State.completes_dieGives _ hwrite rfl (State.loftGoes rfl hrest)
  · have hwrite : exec (.lftControl src w) s = .next { s with die := lftControlW w.toNat s.die } := by
      change dieCmd true (writeDie src (blockAddr .LFT 0 0x010) (lftControlW w.toNat)) s = _
      rw [dieCmd, if_pos rfl, writeDie_admitted hg]
    refine State.completes_dieGives _ hwrite ((if_neg fun h => hserve ((s.die.lanesServe w.toNat).1 h))) ?_
    exact State.loftGoes rfl ⟨Die.on_flag_same _ _ _ _ rfl, Die.get_put_apart _ _ _ _ _ (by decide), Die.get_put_apart _ _ _ _ _ (by decide)⟩

end Sys2Proof.Machine
end

section
/-! SUPPORT. Writes of BAR0: what an admitted write does at its register, and what a write that is not admitted counts (R479, R493, R543, R593, R596, R602, R608). -/

namespace Sys2Proof.Machine

/-- The page of OWN_CLAIM. -/
theorem pageOf_claim (f : Fused) : pageOf f (blockAddr .OWN 0 0x010) = some (.OWN, 0, 0x010) := rfl

/-- A register of a page, other than OWN_CLAIM, is written where the write is admitted. -/
theorem State.busWrite_page (s : State) (src : Source) (b : Block) (i off w : Nat) (halign : off % 4 = 0) (hclaim : (b, i, off) ≠ (.OWN, 0, 0x010))
    (hpage : pageOf s.fused (blockAddr b i off) = some (b, i, off)) :
    s.busWrite src (blockAddr b i off) w = writeAt src (blockAddr b i off) (pageW src b i off w) s := by
  have hword : blockAddr b i off / 4 * 4 = blockAddr b i off := by
    have hoff := pageOf_off _ _ _ _ _ hpage
    omega
  have hown : blockAddr b i off ≠ blockAddr .OWN 0 0x010 := by
    intro h
    rw [h, pageOf_claim] at hpage
    exact hclaim (Option.some.inj hpage).symm
  unfold State.busWrite
  dsimp only
  rw [hword, if_neg hown, hpage]

/-- Such a write, admitted, does what its register says. -/
theorem State.busWrite_admitted {s : State} {src : Source} {b : Block} {i off : Nat} (h : s.admits src b i off) (w : Nat) (halign : off % 4 = 0)
    (hclaim : (b, i, off) ≠ (.OWN, 0, 0x010)) (hpage : pageOf s.fused (blockAddr b i off) = some (b, i, off)) :
    s.busWrite src (blockAddr b i off) w = pageW src b i off w s := by
  rw [s.busWrite_page src b i off w halign hclaim hpage, writeAt_admitted h]

/-- A write by a master that does not hold the crook is counted (R479). -/
theorem State.admitWrite_denied (s : State) (src : Source) (addr off i : Nat) (b : Block) (hpage : pageOf s.fused addr = some (b, i, off))
    (hpath : s.die.pathUp src = true) (hans : s.die.answers src b = true) (hvf : ∀ p, src ≠ .vf p) (hholds : s.die.holds (srcNum src) = false)
    (hawake : s.die.get R.PWR_STATUS_STATE ≠ 3) :
    s.die.admitWrite s.fused src addr = (false, s.die.count (T.OWN_OWN_DENIED (srcNum src)) 0) := by
  unfold Die.admitWrite
  rw [hpage]
  dsimp only
  rw [if_pos (by rw [hpath, hans]; rfl)]
  cases src with
  | vf p => exact absurd rfl (hvf p)
  | _ => simp [hholds, hawake]

/-- A write by a VF on a page that is not its own, or in the upper part of its own, is counted (R488, R493). -/
theorem State.admitWrite_violation (s : State) (p addr off i : Nat) (b : Block) (hpage : pageOf s.fused addr = some (b, i, off))
    (hpath : s.die.pathUp (.vf p) = true) (hans : s.die.answers (.vf p) b = true) (hbad : s.die.vfPage p b i = 2 ∨ 0xF00 ≤ off) :
    s.die.admitWrite s.fused (.vf p) addr = (false, s.die.count (T.OWN_VIOLATION p) 0) := by
  have hperm : (if 0xF00 ≤ off then 2 else s.die.vfPage p b i) = 2 := by
    split
    · rfl
    · exact hbad.resolve_right ‹_›
  unfold Die.admitWrite
  rw [hpage]
  dsimp only
  rw [if_pos (by rw [hpath, hans]; rfl), hperm]
  rfl

/-- Every tally that is full in `d` is full in `e` (R18). -/
def Die.keepsFull (d e : Die) : Prop := ∀ k, KMap.get 0 d.tallies k = 2 ^ 49 - 1 → KMap.get 0 e.tallies k = 2 ^ 49 - 1

theorem Die.keepsFull.trans {a b c : Die} (h : a.keepsFull b) (k : b.keepsFull c) : a.keepsFull c := fun x hx => k x (h x hx)

theorem Die.keepsFull_of (d e : Die) (h : e.tallies = d.tallies) : d.keepsFull e := fun k hk => by rw [h]; exact hk

theorem Die.keepsFull_loft (d : Die) (l : Loft) : d.keepsFull { d with loft := l } := Die.keepsFull_of _ _ rfl

theorem Die.keepsFull_ite {c : Prop} [Decidable c] {d e f : Die} (h : d.keepsFull e) (k : d.keepsFull f) : d.keepsFull (if c then e else f) := by
  split <;> assumption

theorem Die.keepsFull_countRaw (t : Tal) (i n : Nat) (d : Die) : d.keepsFull (d.countRaw t i n) := by
  intro k hk
  by_cases h : k = t.key i
  · have hcount := d.tally_countRaw_same t i n
    unfold Die.tally at hcount
    rw [h] at hk ⊢
    rw [hcount, hk]
    unfold tallyAdd
    split
    · omega
    · rfl
  · rw [Die.tally_countRaw_other t i n k d h, hk]

theorem Die.keepsFull_gapBytes (k : Pkt) (g : Nat × Nat) (d : Die) : d.keepsFull (d.gapBytes k g).2 :=
  (Die.keepsFull_of d (d.nextSeq 9 0).2 rfl).trans (Die.keepsFull_countRaw _ _ _ _)

theorem keepsFull_dropLoft (a : Bool) (d : Die) : d.keepsFull (dropLoft a d) := by
  have h := (d.keepsFull_countRaw T.LFT_TRACE_DROP 0 1).trans (Die.keepsFull_of _ (Die.put (alarmFld 14) 0 1 _) rfl)
  unfold dropLoft
  exact Die.keepsFull_ite (h.trans (Die.keepsFull_countRaw _ _ _ _)) h

theorem Die.keepsFull_ringPut (r : PktRing) (out : Nat) (k : Pkt) (bs : List Byte) (a : Bool) (d : Die) : d.keepsFull (d.ringPut r out k bs (dropLoft a)) := by
  have hdrop (l : Loft) : d.keepsFull { dropLoft a d with loft := l } := (keepsFull_dropLoft a d).trans (Die.keepsFull_of _ _ rfl)
  unfold Die.ringPut
  refine Die.keepsFull_ite (hdrop _) ?_
  split
  · exact hdrop _
  · refine Die.keepsFull_ite (Die.keepsFull_of _ (r.write _ _ _) rfl) ?_
    exact ((d.keepsFull_gapBytes k _).trans (Die.keepsFull_of _ _ rfl)).trans (Die.keepsFull_of _ (r.write _ _ _) rfl)

theorem Die.keepsFull_lanePut (bs : List Byte) (d : Die) : d.keepsFull (d.lanePut bs) := by
  unfold Die.lanePut
  split <;> exact Die.keepsFull_of _ _ rfl

theorem Die.keepsFull_laneDrain (k : Pkt) (bs : List Byte) (d : Die) : d.keepsFull (d.laneDrain k bs) := by
  unfold Die.laneDrain
  refine Die.keepsFull_ite (Die.keepsFull_of _ _ rfl) (Die.keepsFull_ite ?_ (Die.keepsFull_ite (d.keepsFull_lanePut bs) ?_))
  · exact (keepsFull_dropLoft _ d).trans (Die.keepsFull_of _ _ rfl)
  · exact (((d.keepsFull_gapBytes k _).trans (Die.keepsFull_loft _ _)).trans (Die.keepsFull_lanePut _ _)).trans (Die.keepsFull_lanePut _ _)

theorem Die.keepsFull_ffPut (bs : List Byte) (d : Die) : d.keepsFull (d.ffPut bs) := Die.keepsFull_ite (Die.keepsFull_of _ _ rfl) (Die.keepsFull_of _ _ rfl)

theorem Die.keepsFull_deliver (k : Pkt) (hk : k.pas = none) (d : Die) : d.keepsFull (d.deliver k) := by
  have hfirst : d.keepsFull ((if (d.routes k).1 || (d.nextSeq k.src k.inst).2.ffOpen
      || ((d.routes k).2.2 && (d.on R.LFT_CONTROL_PCIE || !d.loftLanes.isEmpty)) then (d.nextSeq k.src k.inst).2.countRaw T.LFT_PACKETS 0 1
      else (d.nextSeq k.src k.inst).2).ffPut (k.bytes (d.nextSeq k.src k.inst).1 d.fc)) :=
    ((Die.keepsFull_of d (d.nextSeq _ _).2 rfl).trans (Die.keepsFull_ite (Die.keepsFull_countRaw _ _ _ _) (Die.keepsFull_of _ _ rfl))).trans
      (Die.keepsFull_ffPut _ _)
  unfold Die.deliver
  split
  rename_i a p g hroutes
  rw [hroutes] at hfirst
  refine Die.keepsFull_ite ?_ (Die.keepsFull_of _ _ rfl)
  dsimp only
  rw [hk]
  dsimp only
  refine Die.keepsFull.trans ?_ (Die.keepsFull_ite (Die.keepsFull_laneDrain _ _ _) (Die.keepsFull_of _ _ rfl))
  refine Die.keepsFull.trans ?_ (Die.keepsFull_ite (Die.keepsFull_ringPut _ _ _ _ _ _) (Die.keepsFull_of _ _ rfl))
  exact Die.keepsFull_ite (hfirst.trans (Die.keepsFull_ringPut _ _ _ _ _ _)) hfirst

theorem Die.keepsFull_alarmsSince (d0 : Die) (bs sent : List Nat) (d : Die) : d.keepsFull (Die.alarmsSince d0 bs sent d) := by
  induction bs generalizing sent d with
  | nil => exact Die.keepsFull_of _ _ rfl
  | cons b bs ih =>
    unfold Die.alarmsSince
    exact Die.keepsFull_ite ((d.keepsFull_deliver (alarmPkt b) rfl).trans (ih _ _)) (ih _ _)

/-- No packet is sent where no alarm rises. -/
theorem Die.alarmsSince_none (d0 : Die) (bs sent : List Nat) (d : Die) (h : ∀ b, d.on (alarmFld b) = d0.on (alarmFld b)) : Die.alarmsSince d0 bs sent d = d := by
  induction bs generalizing sent with
  | nil => rfl
  | cons b bs ih =>
    unfold Die.alarmsSince
    rw [h b, if_neg (by simp)]
    exact ih sent

/-- Below saturation a tally's next value does not set its saturation bit. -/
theorem tallyAdd_full {u n : Nat} (h : (bit (tallyAdd u n) 48 && !(bit u 48)) = true) : tallyAdd u n = 2 ^ 49 - 1 := by
  unfold tallyAdd at h ⊢
  split at h
  · next hlt =>
    rw [if_pos hlt]
    exfalso
    have hsame : (u + n) / 2 ^ 48 = u / 2 ^ 48 := by omega
    simp only [bit, hsame, Bool.and_not_self, Bool.false_eq_true] at h
  · next hlt => rw [if_neg hlt]

/-- A tally without an alarm bit counts one up, whichever packets its saturation sends. -/
theorem Die.tally_count_exact (t : Tal) (i : Nat) (d : Die) (h : t.alarm = none) : (d.count t i).tally t i = tallyAdd (d.tally t i) 1 := by
  have hraw := d.tally_countRaw_same t i 1
  unfold Die.count Die.countBy
  rw [h]
  cases hsat : bit (tallyAdd (d.tally t i) 1) 48 && !(bit (d.tally t i) 48)
  · have hsame : d.countRaw t i 1 = { d with tallies := KMap.set 0 d.tallies (t.key i) (tallyAdd (d.tally t i) 1) } := by
      unfold Die.countRaw
      dsimp only
      rw [hsat, if_neg Bool.false_ne_true]
    dsimp only
    rw [Die.alarmsSince_none _ _ _ _ fun b => by rw [hsame]; rfl]
    exact hraw
  · have hfull := tallyAdd_full hsat
    rw [hfull] at hraw ⊢
    exact Die.keepsFull_alarmsSince _ _ _ _ _ hraw

/-- VIOLATION counts one up, whichever pasture's. -/
theorem Die.tally_count_violation (p : Nat) (d : Die) : (d.count (T.OWN_VIOLATION p) 0).tally (T.OWN_VIOLATION p) = tallyAdd (d.tally (T.OWN_VIOLATION p)) 1 := by
  by_cases hp : p < 64
  · refine Die.tally_count_same _ _ _ ?_
    have hkey : (T.OWN_VIOLATION p).key 0 = 0x1C00 + 8 * p := by
      simp only [Tal.key, T.OWN_VIOLATION]
      omega
    rw [hkey, loftTally, decide_eq_false (show ¬ 0x31000 ≤ 0x1C00 + 8 * p by omega), decide_eq_false (show ¬ 0x300000 ≤ 0x1C00 + 8 * p by omega)]
    rfl
  · refine Die.tally_count_exact _ _ _ ?_
    have hoff : ¬ 0xC00 + 8 * p < 0xE00 := by omega
    simp [Tal.alarm, T.OWN_VIOLATION, hoff, T.PAS_POISONED, T.ENG_STALL, T.ENG_BAD_OPCODE, T.SHD_SHD_FAIL, T.SHD_SHD_TRANSIENT, T.FAB_SAT_EVENTS,
      T.LNK_RETRAINS, T.LNK_LOS, T.ETH_LINK_DOWN, T.TB_JUMP_REFUSE, T.FLK_EXPELS, T.FLK_SPLITS, T.FLK_TAKEOVERS, T.FLK_AGREE_REFUSE, T.FLK_HOLDOVERS,
      T.EGR_AUDIT_REFUSE, T.FAB_ENTRY_DROP, T.PAS_QUEUE_DROP, T.FAB_SHED, T.ENG_STALL_DROP, T.EGR_LQ_FULL, T.EGR_LATE_DROP, T.EGR_PORT_DOWN,
      T.LFT_TRACE_DROP, T.PAS_TRACE_DROP]

/-- The tallies of a block lie from 0xC00 on and below 0xF00. -/
theorem tallyAt_range {b : Block} {off lo : Nat} (h : tallyAt b off = some lo) : 0xC00 ≤ off ∧ off < 0xF00 := by
  unfold tallyAt at h
  cases b <;> simp [Block.tallyRuns] at h <;> omega

/-- A tally's clear leaves the other tallies (R543). -/
theorem tallyW_clears (src : Source) (b : Block) (i lo w : Nat) (d : Die) (hvf : ∀ p, src ≠ .vf p) :
    tallyW src b i lo (lo + 4) w d = { d with tallies := (tallyW src b i lo (lo + 4) w d).tallies }
    ∧ (∀ k, k ≠ blockAddr b i lo → KMap.get 0 (tallyW src b i lo (lo + 4) w d).tallies k = KMap.get 0 d.tallies k)
    ∧ KMap.get 0 (tallyW src b i lo (lo + 4) w d).tallies (blockAddr b i lo) = if bit w 31 then 0 else KMap.get 0 d.tallies (blockAddr b i lo) := by
  have heq : tallyW src b i lo (lo + 4) w d = if bit w 31 = true then { d with tallies := KMap.set 0 d.tallies (blockAddr b i lo) 0 } else d := by
    cases src with
    | vf p => exact absurd rfl (hvf p)
    | _ => simp only [tallyW, true_and]
  rw [heq]
  cases bit w 31
  · exact ⟨rfl, fun _ _ => rfl, rfl⟩
  · rw [if_pos rfl, if_pos rfl]
    dsimp only
    exact ⟨rfl, fun k hk => KMap.get_set_ne _ _ _ _ _ _ hk, KMap.get_set_same _ _ _ _⟩

/-- The registers of a page's controls, which no block holds itself. -/
theorem pageW_expert (src : Source) (b : Block) (i w : Nat) (s : State) : pageW src b i 0xF04 w s = onDie (pageExpertW b i w) s := by
  have hnone : tallyAt b 0xF04 = none := by
    cases h : tallyAt b 0xF04 with
    | none => rfl
    | some lo => have := (tallyAt_range h).2; omega
  unfold pageW
  rw [hnone]
  rfl

/-- UNLOCK and RELOCK of PAGE_EXPERT (R602). -/
theorem pageExpertW_unlock (b : Block) (i w : Nat) (d : Die) (h : bit w 0 = true) : pageExpertW b i w d
    = if b.expert = true ∧ bits w 16 16 = blockAddr b i 0 / 0x1000 % 2 ^ 16 then d.put (pageExpert (blockAddr b i 0)) 0 1 else d := by
  unfold pageExpertW
  simp only [lowestWo, List.find?_cons, h, Bool.and_eq_true, beq_iff_eq]

theorem pageExpertW_relock (b : Block) (i w : Nat) (d : Die) (h0 : bit w 0 = false) (h1 : bit w 1 = true) :
    pageExpertW b i w d = d.put (pageExpert (blockAddr b i 0)) 0 0 := by
  unfold pageExpertW
  simp only [lowestWo, List.find?_cons, h0, h1]

/-- The fault ring's registers (R609). -/
def faultRing : RingRegs :=
  ⟨0x010, 0x018, 0x01C, R.CHK_FAULT_CTL_LOG2SIZE, some R.CHK_FAULT_CTL_ENABLE, R.CHK_FAULT_HEAD_VALUE, R.CHK_FAULT_TAIL_VALUE, false⟩

theorem ringAt_fault : ringAt .CHK 0x018 = some faultRing := by simp [ringAt, ringsOf, faultRing]

/-- A write of the fault ring's control word is the ring's. -/
theorem chkPageW_fault (w : Nat) (s : State) : chkPageW 0x018 w s = onDie (ringW .CHK 0 0x018 faultRing w) s := by
  unfold chkPageW onDie ringWrite
  simp [ringAt_fault]

/-- The fault ring begins empty as its ENABLE rises (R608, R610). -/
theorem ringW_fault (w : Nat) (d : Die) (hoff : d.on R.CHK_FAULT_CTL_ENABLE = false) (hon : bit w 8 = true) :
    ∃ r, ringW .CHK 0 0x018 faultRing w d = { d with regs := r } ∧ ({ d with regs := r } : Die).on R.CHK_FAULT_CTL_ENABLE = true
      ∧ ({ d with regs := r } : Die).get R.CHK_FAULT_HEAD_VALUE = 0 ∧ ({ d with regs := r } : Die).get R.CHK_FAULT_TAIL_VALUE = 0
      ∧ (8 ≤ bits w 0 5 → bits w 0 5 ≤ 20 → ({ d with regs := r } : Die).get R.CHK_FAULT_CTL_LOG2SIZE = bits w 0 5) := by
  have hbusy : faultRing.busy 0 d = false := hoff
  have hfields : fieldsAt .CHK 0x018 = [⟨R.CHK_FAULT_CTL_LOG2SIZE, fun v => 8 ≤ v && v ≤ 20⟩, ⟨R.CHK_FAULT_CTL_ENABLE, any⟩] := by
    simp [fieldsAt, Block.regs, regsCHK]
  have henable : bits w 8 1 = 1 := by
    have h := bit_eq_bits w 8
    rw [hon, beq_iff_eq] at h
    exact h
  generalize hx : (if (decide (8 ≤ bits w 0 5) && decide (bits w 0 5 ≤ 20)) = true then d.put R.CHK_FAULT_CTL_LOG2SIZE 0 (bits w 0 5) else d) = x
  have hxregs : x = { d with regs := x.regs } := by
    rw [← hx]
    split <;> rfl
  have hxsize : 8 ≤ bits w 0 5 → bits w 0 5 ≤ 20 → x.get R.CHK_FAULT_CTL_LOG2SIZE = bits w 0 5 := by
    intro h1 h2
    rw [← hx, if_pos (by rw [decide_eq_true h1, decide_eq_true h2]; rfl), Die.get_put_same]
    exact Nat.mod_eq_of_lt (by simp only [R.CHK_FAULT_CTL_LOG2SIZE]; omega)
  have hring : ringW .CHK 0 0x018 faultRing w d = ((x.put R.CHK_FAULT_CTL_ENABLE 0 1).put R.CHK_FAULT_HEAD_VALUE 0 0).put R.CHK_FAULT_TAIL_VALUE 0 0 := by
    have hset : faultRing.busy 0 (x.put R.CHK_FAULT_CTL_ENABLE 0 1) = true := Die.on_flag_same R.CHK_FAULT_CTL_ENABLE 0 true x rfl
    unfold ringW
    rw [hbusy]
    dsimp only
    rw [hfields]
    simp only [Bool.false_and, Bool.false_eq_true, if_false, List.foldl_cons, List.foldl_nil]
    rw [if_neg (by simp [faultRing]), if_pos (by rfl)]
    have hwrites (lk : Bool) : WField.write ⟨R.CHK_FAULT_CTL_ENABLE, any⟩ 0 lk w
        (WField.write ⟨R.CHK_FAULT_CTL_LOG2SIZE, fun v => decide (8 ≤ v) && decide (v ≤ 20)⟩ 0 lk w d) = x.put R.CHK_FAULT_CTL_ENABLE 0 1 := by
      rw [← hx]
      change Die.put R.CHK_FAULT_CTL_ENABLE 0 (bits w 8 1) _ = _
      rw [henable]
      rfl
    rw [hwrites, hset]
    rfl
  obtain ⟨r, hr⟩ : ∃ r, ((x.put R.CHK_FAULT_CTL_ENABLE 0 1).put R.CHK_FAULT_HEAD_VALUE 0 0).put R.CHK_FAULT_TAIL_VALUE 0 0 = { d with regs := r } :=
    ⟨(((x.put R.CHK_FAULT_CTL_ENABLE 0 1).put R.CHK_FAULT_HEAD_VALUE 0 0).put R.CHK_FAULT_TAIL_VALUE 0 0).regs, by rw [hxregs]; rfl⟩
  refine ⟨r, hring.trans hr, ?_⟩
  rw [← hr]
  refine ⟨?_, ?_, Die.get_put_same _ _ _ _, fun h1 h2 => ?_⟩
  · rw [Die.on, Die.get_put_apart _ _ _ _ _ (by decide), Die.get_put_apart _ _ _ _ _ (by decide), Die.get_put_same]
    rfl
  · rw [Die.get_put_apart _ _ _ _ _ (by decide), Die.get_put_same]
    rfl
  · rw [Die.get_put_apart _ _ _ _ _ (by decide), Die.get_put_apart _ _ _ _ _ (by decide), Die.get_put_apart _ _ _ _ _ (by decide)]
    exact hxsize h1 h2

/-- ENG_CLKSTOP sets the bits of idle quarters and clears the others (R623). -/
theorem engClkstopW_stops (g w : Nat) (d : Die) (hd : d.debug = 3) : engClkstopW g w d = { d with stopped := (engClkstopW g w d).stopped }
    ∧ ∀ q, q < 4 → KMap.get false (engClkstopW g w d).stopped (g * 4 + q)
      = (bit w q && (KMap.get false d.stopped (g * 4 + q) || d.qstate g q == 0 || d.qstate g q == 3)) := by
  have hq (x : KMap Bool) (q : Nat) : ({ d with stopped := x } : Die).qstate g q = d.qstate g q := rfl
  unfold engClkstopW
  rw [if_pos hd]
  refine ⟨rfl, fun q hlt => ?_⟩
  simp only [List.range_succ, List.range_zero, List.nil_append, List.cons_append, List.foldl_cons, List.foldl_nil, hq]
  interval_cases q <;> simp [KMap.get_set_ne, KMap.get_set_same, Bool.or_assoc]

/-- The words of four bytes. -/
theorem wordsOf_four (bs : List Byte) (h : bs.length = 4) : wordsOf bs = [leNat bs] := by
  unfold wordsOf slice
  rw [h]
  simp [List.range_succ, List.take_of_length_le h.le]

/-- An SMBus transaction that the device discards is counted (R481). -/
theorem State.completes_smbErr {s : State} {c : Instr} (hc : exec c s = .next (smbErr s)) : s.completes c (fun t => t = { s with die := t.die }
    ∧ t.die.tally T.OWN_SMB_ERR = tallyAdd (s.die.tally T.OWN_SMB_ERR) 1 ∧ s.die.report t.die) :=
  ⟨_, hc, rfl, Die.tally_count_same _ _ _ rfl, s.die.report_count T.OWN_SMB_ERR 0⟩

/-- A word's 32 bits are the word. -/
theorem bits_word (w : Word) : bits w.toNat 0 32 = w.toNat := by
  unfold bits
  have := w.isLt
  omega

theorem fieldsAt_scratch : fieldsAt .DEV 0x014 = [⟨R.DEV_SCRATCH_VALUE, any⟩] := by simp [fieldsAt, Block.regs, regsDEV]

/-- Settles O52: each write through `State.busWrite` and its admission, SMBus and JTAG by the same. -/
theorem registersWritten : Obligations.RegistersWritten := by
  unfold Obligations.RegistersWritten
  intro s src w
  dsimp only
  refine ⟨fun hg => ?_, fun addr b i off halign hclaim hpage hpath hans => ⟨fun hvf hholds hawake => ?_, fun p hp hbad => ?_⟩,
    fun addr be => ⟨fun hbe => ?_, fun hbe hsrc hpath => ?_⟩, fun b i lo hg hvf hpage hlo htally => ?_, fun b i hpage hg => ⟨fun h0 => ?_, fun h0 h1 => ?_⟩,
    fun hg hoff hon => ?_, fun g hlt hg => ⟨fun hd => ?_, fun hd => ?_⟩,
    fun hup => ⟨fun bytes hlen hword => ?_, fun bytes ok hbad => ?_, fun bytes hlen => ?_, fun bytes ok hbad => ?_, ?_, fun cmd hcmd => ?_⟩,
    fun dr hpath => ⟨fun hop => ?_, fun hop => ?_, fun hop => ?_⟩⟩
  · have hw : s.busWrite src (blockAddr .DEV 0 0x014) w.toNat = onDie (Die.setFields .DEV 0 0x014 w.toNat) s :=
      State.busWrite_admitted hg w.toNat (by decide) (by decide) rfl
    refine ⟨_, congrArg Host.Outcome.next hw, rfl, Die.setFields_regs _ _ _ _ _, ?_, fun f i hf => ?_⟩
    · exact (s.die.get_setFields_rw .DEV 0 0x014 w.toNat ⟨R.DEV_SCRATCH_VALUE, any⟩ (by simp [fieldsAt, Block.regs, regsDEV]) rfl).trans
        ((if_pos rfl).trans (bits_word w))
    · exact Die.get_writes_other _ 0 w.toNat _ f i (fun x hx => by rw [fieldsAt_scratch, List.mem_singleton] at hx; rw [hx]; exact hf) s.die
  · refine ⟨_, congrArg Host.Outcome.next (s.busWrite_of_refused src addr w.toNat _ (by omega) hclaim
      (s.admitWrite_denied src addr off i b hpage hpath hans hvf hholds hawake)), rfl, Die.report_count _ _ _, Die.tally_count_same _ _ _ ?_⟩
    cases src with
    | vf p => exact absurd rfl (hvf p)
    | _ => rfl
  · subst hp
    exact ⟨_, congrArg Host.Outcome.next (s.busWrite_of_refused (.vf p) addr w.toNat _ (by omega) hclaim
      (s.admitWrite_violation p addr off i b hpage hpath hans hbad)), rfl, Die.report_count _ _ _, Die.tally_count_violation _ _⟩
  · change Host.Outcome.next (s.partialWrite src addr be w.toNat) = .next (s.busWrite src addr w.toNat)
    unfold State.partialWrite
    dsimp only
    rw [if_neg (by simp [hbe])]
  · refine ⟨onDie (Die.count T.PCI_PARTIAL 0) s, congrArg Host.Outcome.next ?_, rfl, s.die.report_count T.PCI_PARTIAL 0, Die.tally_count_same _ _ _ rfl⟩
    unfold State.partialWrite
    dsimp only
    rcases hsrc with rfl | ⟨p, rfl⟩ <;> simp [hbe, hpath]
  · have hrange := tallyAt_range htally
    have hw := State.busWrite_admitted hg w.toNat (by omega) (by simp; omega) hpage
    have hpw : pageW src b i (lo + 4) w.toNat s = onDie (tallyW src b i lo (lo + 4) w.toNat) s := by
      unfold pageW
      rw [htally]
    obtain ⟨hframe, hothers, hown⟩ := tallyW_clears src b i lo w.toNat s.die hvf
    exact ⟨_, congrArg Host.Outcome.next (hw.trans hpw), rfl, hframe, hothers, hown⟩
  · have hw := (State.busWrite_admitted hg w.toNat (by decide) (by simp) hpage).trans (pageW_expert src b i w.toNat s)
    refine ⟨_, congrArg Host.Outcome.next hw, rfl, ?_⟩
    rw [onDie, pageExpertW_unlock b i w.toNat s.die h0]
    split
    · next hown => exact ⟨rfl, fun _ => Die.on_flag_same (pageExpert (blockAddr b i 0)) 0 true s.die rfl, fun h => absurd hown h⟩
    · next hown => exact ⟨rfl, fun h => absurd h hown, fun _ => rfl⟩
  · have hw := (State.busWrite_admitted hg w.toNat (by decide) (by simp) hpage).trans (pageW_expert src b i w.toNat s)
    refine ⟨_, congrArg Host.Outcome.next hw, rfl, ?_⟩
    rw [onDie, pageExpertW_relock b i w.toNat s.die h0 h1]
    exact ⟨rfl, Die.on_flag_same (pageExpert (blockAddr b i 0)) 0 false s.die rfl⟩
  · have hw : s.busWrite src (blockAddr .CHK 0 0x018) w.toNat = chkPageW 0x018 w.toNat s :=
      State.busWrite_admitted hg w.toNat (by decide) (by decide) rfl
    obtain ⟨r, hr, hrest⟩ := ringW_fault w.toNat s.die hoff hon
    exact ⟨{ s with die := { s.die with regs := r } }, congrArg Host.Outcome.next (hw.trans ((chkPageW_fault _ _).trans (congrArg (fun e => { s with die := e }) hr))), rfl, rfl, hrest⟩
  · exact (congrArg Host.Outcome.next (a₁ := { s with die := writeDie src (blockAddr .ENG g 0x408) (engClkstopW g w.toNat) s })
      (by rw [writeDie_admitted hg, engClkstopW, if_neg hd])) ▸ (if_pos (decide_eq_true hlt))
  · refine ⟨_, if_pos (decide_eq_true hlt), rfl, ?_⟩
    rw [writeDie_admitted hg]
    exact engClkstopW_stops g w.toNat s.die hd
  · refine ⟨_, congrArg Host.Outcome.next (?_ : s.smbAddress bytes true = onDie (fun d => { d with smbPtr := leNat bytes }) s), rfl, rfl⟩
    unfold State.smbAddress
    simp [hup, hlen, hword]
  · refine State.completes_smbErr (congrArg Host.Outcome.next (?_ : s.smbAddress bytes ok = smbErr s))
    unfold State.smbAddress
    rw [if_neg (by simp [hup]), if_pos]
    rcases hbad with rfl | h | h
    · rfl
    · simp [h]
    · simp [h]
  · refine congrArg Host.Outcome.next (?_ : s.smbWrite bytes true = onDie Die.smbNext (s.busWrite .m1 s.die.smbPtr (leNat bytes)))
    unfold State.smbWrite
    simp [hup, hlen, wordsOf_four, State.smbWords]
  · refine State.completes_smbErr (congrArg Host.Outcome.next (?_ : s.smbWrite bytes ok = smbErr s))
    unfold State.smbWrite
    dsimp only
    rw [if_neg (by simp [hup]), if_pos]
    rcases hbad with rfl | h | rfl | h
    · rfl
    · simp [h]
    · simp
    · simp [h]
  · refine ⟨onDie (fun d => d.smbNext.emit (.smbus (leBytes 4 (s.busRead .m1 s.die.smbPtr).1))) (s.busRead .m1 s.die.smbPtr).2,
      congrArg Host.Outcome.next (?_ : s.smbRead [] true = _), ?_, rfl⟩
    · unfold State.smbRead
      rw [if_neg (by simp [hup])]
      rfl
    · exact List.getLast?_concat
  · refine State.completes_smbErr (congrArg Host.Outcome.next (if_pos ?_))
    rw [hup]
    rcases hcmd with h | h
    · simp [show ¬ 0x10 ≤ cmd by omega]
    · simp [show ¬ cmd ≤ 0x12 by omega]
  · refine ⟨_, congrArg Host.Outcome.next (?_ : s.regacc dr.toNat = onDie (fun d => { d with jtagLast := BitVec.ofNat 32 (s.busRead .m3 (bits dr.toNat 2 24 * 4)).1 })
      (s.busRead .m3 (bits dr.toNat 2 24 * 4)).2), rfl⟩
    unfold State.regacc
    rw [if_pos hpath, if_pos hop]
  · refine congrArg Host.Outcome.next (?_ : s.regacc dr.toNat = _)
    unfold State.regacc
    rw [if_pos hpath, if_neg (by omega), if_pos hop]
  · refine congrArg Host.Outcome.next (?_ : s.regacc dr.toNat = _)
    unfold State.regacc
    rw [if_pos hpath, if_neg (by omega), if_neg (by omega)]

end Sys2Proof.Machine
end

section
/-! SUPPORT. Reads of captured items: pairs, times, capture queues and windows (R19, R373, R407, R597, R622, R635). -/

namespace Sys2Proof.Machine

/-- A page's word of a captured item. -/
theorem State.pageWord_item (s : State) (src : Source) (b : Block) (i off first n : Nat) (hlo : 0x400 ≤ off) (hhi : off < 0xC00)
    (hwindow : (windowAt b off && s.die.debug != 3) = false) (hscale : ¬ (b = .FAB ∧ off = 0x824)) (hcap : captureAt b off = some (first, n)) :
    s.pageWord src b i off = s.itemWord src b i first n off := by
  have htally : tallyAt b off = none := by
    cases h : tallyAt b off with
    | none => rfl
    | some lo => have := (tallyAt_range h).1; omega
  unfold State.pageWord
  rw [if_neg (by omega), if_neg (by omega), if_neg (by omega), if_neg (by omega), if_neg (by omega), hwindow, htally, if_neg Bool.false_ne_true]
  dsimp only
  rw [if_neg hscale, hcap]

/-- The first word of an item captures it. -/
theorem State.itemWord_first (s : State) (src : Source) (b : Block) (i first n : Nat) : s.itemWord src b i first n first
    = ((s.itemRead src b i first n).1 % 2 ^ 32,
        { (s.itemRead src b i first n).2 with die := (s.itemRead src b i first n).2.die.holdCapture src b i first (s.itemRead src b i first n).1 }) := by
  unfold State.itemWord
  rw [if_pos rfl]
  rfl

/-- A read of a page's word answers with it, where the word's read leaves what a read leaves. -/
theorem State.answers_read {s : State} {c : Instr} {src : Source} {b : Block} {i off w : Nat} {e : Die} {P : Die → Prop}
    (hc : exec c s = .next (s.readAt src (blockAddr b i off))) (h : s.reads src b i off) (hw : s.pageWord src b i off = (w, { s with die := e })) (hlt : w < 2 ^ 32)
    (he : e.regs = s.die.regs ∧ e.tallies = s.die.tallies ∧ e.tiles = s.die.tiles) (hP : P { e with readData := BitVec.ofNat 32 w }) : s.answers c w P := by
  refine ⟨s.gives e w, ?_, rfl, ?_, he.1, he.2.1, he.2.2, hP⟩
  · rw [hc, s.readAt_of_reads src b i off h, hw]
    rfl
  · exact Nat.mod_eq_of_lt hlt

/-- The first word of an item of value v. -/
theorem State.answers_first {s : State} {c : Instr} {src : Source} {b : Block} {i off w : Nat} {e : Die} {P : Die → Prop} (n v : Nat)
    (hc : exec c s = .next (s.readAt src (blockAddr b i off))) (h : s.reads src b i off) (hlo : 0x400 ≤ off) (hhi : off < 0xC00)
    (hwindow : (windowAt b off && s.die.debug != 3) = false) (hscale : ¬ (b = .FAB ∧ off = 0x824)) (hcap : captureAt b off = some (off, n))
    (hread : s.itemRead src b i off n = (v, { s with die := e })) (hv : v % 2 ^ 32 = w)
    (he : e.regs = s.die.regs ∧ e.tallies = s.die.tallies ∧ e.tiles = s.die.tiles)
    (hP : P { e.holdCapture src b i off v with readData := BitVec.ofNat 32 w }) : s.answers c w P := by
  subst hv
  refine State.answers_read hc h (e := e.holdCapture src b i off v) ?_ (Nat.mod_lt _ (by decide)) he hP
  rw [s.pageWord_item src b i off off n hlo hhi hwindow hscale hcap, s.itemWord_first, hread]

/-- The nanoseconds of a time are the low word of its four (R407). -/
theorem stampWords_low (v : Nat) : stampWords (stampOf v) % 2 ^ 32 = (stampOf v).ns := by
  have h : (stampOf v).ns < 10 ^ 9 := Nat.mod_lt _ (by decide)
  unfold stampWords
  omega

/-- A read of an image without errors or poison finds what is stored. -/
theorem State.windowWord_clean (s : State) (kind loc stored : Nat) (tile : Option Nat) (hecc : s.die.ecc = []) (hpoison : s.die.poison = []) :
    s.windowWord kind loc tile stored = (stored, s) := by
  unfold State.windowWord Die.eccRead
  dsimp only
  rw [hecc, hpoison]
  rfl

/-- What a source captured stands while the word is given to it. -/
theorem Die.captured_given (d : Die) (src : Source) (b : Block) (i off v : Nat) (w : Word) :
    ({ d.holdCapture src b i off v with readData := w } : Die).captured src b i off = v := d.captured_holdCapture src b i off v

theorem Die.trigin_given (d : Die) (src : Source) (b : Block) (i off v j : Nat) (w : Word) :
    ({ d.holdCapture src b i off v with readData := w } : Die).trigin j = d.trigin j := rfl

/-- A read that leaves the die answers with its word. -/
theorem State.answers_gives {s : State} {c : Instr} {w : Nat} (hc : exec c s = .next (s.gives s.die w)) :
    s.answers c (w % 2 ^ 32) (fun e => e.caps = s.die.caps) := ⟨_, hc, rfl, BitVec.toNat_ofNat _ _, rfl, rfl, rfl, rfl⟩

theorem captureAt_trigin (i : Nat) (h : i < 8) : captureAt .CHK (0x820 + 16 * i) = some (0x820 + 16 * i, 4) := by
  interval_cases i <;> rfl

/-- Settles O51: each item through `State.answers_first`, and tallies by the words of R18. -/
theorem registersRead : Obligations.RegistersRead := by
  unfold Obligations.RegistersRead
  intro s src
  dsimp only
  refine ⟨fun b i off h htally hshown hlo hhi => ?_, fun b i off h htally hshown hlo hhi => ?_, fun h => ?_, fun h => ?_, fun h => ?_,
    fun n h1 h7 h => ?_, fun i off h hlo hhi hd => ?_, fun i h hd hecc hpoison => ?_, fun i hi h => ⟨fun hq => ?_, fun x xs hq => ?_⟩,
    fun p b i off hsrc hpath hans halign hpage hvf => ?_⟩
  · refine State.answers_read (exec_tallyRead _ _ _) h (e := s.die.holdCapture src b i off (KMap.get 0 s.die.tallies (blockAddr b i off))) ?_
      (Nat.mod_lt _ (by decide)) ⟨rfl, rfl, rfl⟩ (Die.captured_given _ _ _ _ _ _ _)
    rw [s.pageWord_tally src b i off off hlo hhi htally hshown, State.tallyWord, if_pos rfl]
    rfl
  · have hread := s.readAt_tally_upper src b i off h hlo hhi htally hshown
    rw [bits] at hread
    exact State.answers_gives (congrArg Host.Outcome.next hread)
  · exact State.answers_first 2 (s.die.fc % 2 ^ 64) rfl h (by decide) (by decide) rfl (by simp) (by decide) rfl (Nat.mod_mod_of_dvd _ (by decide)) ⟨rfl, rfl, rfl⟩
      (Die.captured_given _ _ _ _ _ _ _)
  · have hword : s.pageWord src .DEV 0 0x824 = (bits (s.die.captured src .DEV 0 0x820) 32 32, s) :=
      (s.pageWord_item src .DEV 0 0x824 0x820 2 (by decide) (by decide) rfl (by simp) rfl).trans rfl
    exact State.answers_read rfl h hword (Nat.mod_lt _ (by decide)) ⟨rfl, rfl, rfl⟩ rfl
  · have hexec : exec (.tbNowRead src 0) s = .next (s.readAt src (blockAddr .CEL 0 0x810)) := by
      change guardU (decide (0 ≤ 7)) (s.readAt src (0x10810 + 0 * 0x1000)) = _
      rw [guardU, if_pos (by decide), show 0x10810 + 0 * 0x1000 = blockAddr .CEL 0 0x810 by decide]
    exact State.answers_first 4 _ hexec h (by decide) (by decide) rfl (by simp) (by decide) rfl (stampWords_low _) ⟨rfl, rfl, rfl⟩ (Die.captured_given _ _ _ _ _ _ _)
  · have hexec : exec (.tbNowRead src n) s = .next (s.readAt src (blockAddr .TB n 0x810)) := by
      change guardU (decide (n ≤ 7)) (s.readAt src (0x10810 + n * 0x1000)) = _
      rw [guardU, if_pos (decide_eq_true h7), show 0x10810 + n * 0x1000 = blockAddr .TB n 0x810 by rw [blockAddr_eq]; change _ = 0x10000 + _ + _; omega]
    exact State.answers_first 4 _ hexec h (by decide) (by decide) rfl (by simp) (by decide) rfl (stampWords_low _) ⟨rfl, rfl, rfl⟩ (Die.captured_given _ _ _ _ _ _ _)
  · have hwindow : windowAt .ENG off = true := by
      unfold windowAt
      rw [decide_eq_true hlo, decide_eq_true (show off < 0x800 by omega)]
      rfl
    exact State.answers_read rfl h (s.pageWord_window src .ENG i off hwindow hd) (by decide) ⟨rfl, rfl, rfl⟩ rfl
  · have hread : s.itemRead src .ENG i 0x410 8 = (s.die.beat (i * 512 + s.die.get R.ENG_WIN_SEL_TILE i) (s.die.get R.ENG_WIN_SEL_BEAT i), s) := by
      unfold State.itemRead
      exact (if_pos (Eq.refl 0x410)).trans (s.windowWord_clean _ _ _ _ hecc hpoison)
    generalize s.die.beat (i * 512 + s.die.get R.ENG_WIN_SEL_TILE i) (s.die.get R.ENG_WIN_SEL_BEAT i) = v at hread ⊢
    exact State.answers_first 8 v rfl h (by decide) (by decide) (by rw [hd]; rfl) (by simp) (by decide) hread rfl ⟨rfl, rfl, rfl⟩
      (Die.captured_given _ _ _ _ _ _ _)
  · have hindex : (0x820 + 16 * i - 0x820) / 16 = i := by omega
    have hexec : exec (.triginCapRead src i) s = .next (s.readAt src (blockAddr .CHK 0 (0x820 + 16 * i))) := if_pos (decide_eq_true hi)
    have hread : s.itemRead src .CHK 0 (0x820 + 16 * i) 4 = (0, s) := by
      simp only [State.itemRead, hindex, hq]
    exact State.answers_first 4 0 hexec h (by omega) (by omega) (by rw [windowAt]; simp) (by simp) (captureAt_trigin i hi) hread rfl ⟨rfl, rfl, rfl⟩ rfl
  · have hindex : (0x820 + 16 * i - 0x820) / 16 = i := by omega
    have hexec : exec (.triginCapRead src i) s = .next (s.readAt src (blockAddr .CHK 0 (0x820 + 16 * i))) := if_pos (decide_eq_true hi)
    have hread : s.itemRead src .CHK 0 (0x820 + 16 * i) 4
        = (x % 2 ^ 64 + xs.length * 2 ^ 64, { s with die := s.die.onTrigin i (fun y => { y with queue := xs }) }) := by
      simp only [State.itemRead, hindex, hq]
    refine State.answers_first 4 _ hexec h (by omega) (by omega) (by rw [windowAt]; simp) (by simp) (captureAt_trigin i hi) hread (by omega) ⟨rfl, rfl, rfl⟩
      ⟨?_, fun j hj => ?_, Die.captured_given _ _ _ _ _ _ _⟩
    · rw [Die.trigin_given]
      exact congrArg TrigIn.queue (s.die.trigin_onTrigin_same i (fun y => { y with queue := xs }))
    · rw [Die.trigin_given]
      exact s.die.trigin_onTrigin_other i j (fun y => { y with queue := xs }) hj
  · subst hsrc
    have hword : blockAddr b i off / 4 * 4 = blockAddr b i off := by
      have hoff := pageOf_off _ _ _ _ _ hpage
      omega
    have hread : s.readAt (.vf p) (blockAddr b i off) = s.gives (s.die.count (T.OWN_VIOLATION p) 0) 0 := by
      unfold State.readAt State.busRead
      dsimp only
      rw [if_pos hpath, hword, hpage]
      dsimp only
      rw [if_neg (by simp [hpath]), if_neg (by simp [hans]), hvf]
      rfl
    refine ⟨_, congrArg Host.Outcome.next hread, rfl, Die.tally_count_violation p s.die, rfl, ?_⟩
    exact (congrArg Die.caps (s.die.report_count (T.OWN_VIOLATION p) 0).1).trans rfl

end Sys2Proof.Machine
end

section
/-! SUPPORT. What the ends of images and of the crook leave of the fuses and the grants (R496 to R501, R490, R491). -/

namespace Sys2Proof.Machine

@[simp] theorem Die.otp_ite {c : Prop} [Decidable c] (d e : Die) : (if c then d else e).otp = if c then d.otp else e.otp := by split <;> rfl

@[simp] theorem Die.foldl_otp {β : Type} (f : Die → β → Die) (h : ∀ d b, (f d b).otp = d.otp) (l : List β) (d : Die) : (l.foldl f d).otp = d.otp :=
  foldl_keeps Die.otp f h l d

@[simp] theorem Die.grants_ite {c : Prop} [Decidable c] (d e : Die) : (if c then d else e).grants = if c then d.grants else e.grants := by split <;> rfl

@[simp] theorem Die.foldl_grants {β : Type} (f : Die → β → Die) (h : ∀ d b, (f d b).grants = d.grants) (l : List β) (d : Die) : (l.foldl f d).grants = d.grants :=
  foldl_keeps Die.grants f h l d

@[simp] theorem Die.put_owned (f : Fld) (i : Nat) (v : Nat) (d : Die) : (Die.put f i v d).otp = d.otp ∧ (Die.put f i v d).grants = d.grants := ⟨rfl, rfl⟩

@[simp] theorem Die.flag_owned (f : Fld) (i : Nat) (b : Bool) (d : Die) : (Die.flag f i b d).otp = d.otp ∧ (Die.flag f i b d).grants = d.grants := ⟨rfl, rfl⟩

@[simp] theorem Die.draw_owned (d : Die) : (Die.draw d).2.otp = d.otp ∧ (Die.draw d).2.grants = d.grants := ⟨rfl, rfl⟩

@[simp] theorem Die.onPas_owned (p : Nat) (f : PasSt → PasSt) (d : Die) : (Die.onPas p f d).otp = d.otp ∧ (Die.onPas p f d).grants = d.grants := ⟨rfl, rfl⟩

@[simp] theorem Die.count_owned (t : Tal) (i : Nat) (d : Die) : (Die.count t i d).otp = d.otp ∧ (Die.count t i d).grants = d.grants :=
  have h := (d.report_count t i).1
  ⟨(congrArg Die.otp h).trans rfl, (congrArg Die.grants h).trans rfl⟩

@[simp] theorem Die.eccClean_owned (a : Nat) (b : Nat) (d : Die) : (Die.eccClean a b d).otp = d.otp ∧ (Die.eccClean a b d).grants = d.grants := ⟨rfl, rfl⟩

@[simp] theorem Die.onLar_owned (p : Nat) (f : LarPas → LarPas) (d : Die) : (Die.onLar p f d).otp = d.otp ∧ (Die.onLar p f d).grants = d.grants := ⟨rfl, rfl⟩

@[simp] theorem Die.clearMarker_owned (p : Nat) (ticket : Nat) (d : Die) : (Die.clearMarker p ticket d).otp = d.otp ∧ (Die.clearMarker p ticket d).grants = d.grants := ⟨rfl, rfl⟩

@[simp] theorem Die.clearLarder_owned (p : Nat) (d : Die) : (Die.clearLarder p d).otp = d.otp ∧ (Die.clearLarder p d).grants = d.grants := ⟨rfl, rfl⟩

@[simp] theorem Die.onEng_owned (e : Nat) (p : Nat) (f : EngPas → EngPas) (d : Die) : (Die.onEng e p f d).otp = d.otp ∧ (Die.onEng e p f d).grants = d.grants := ⟨rfl, rfl⟩

@[simp] theorem Die.setQ_owned (e : Nat) (q : Nat) (v : Nat) (d : Die) : (Die.setQ e q v d).otp = d.otp ∧ (Die.setQ e q v d).grants = d.grants := ⟨rfl, rfl⟩

@[simp] theorem Die.calEnd_owned (p : Nat) (d : Die) : (Die.calEnd p d).otp = d.otp ∧ (Die.calEnd p d).grants = d.grants := by simp [Die.calEnd]

@[simp] theorem Die.storeClean_owned (e : Nat) (d : Die) : (Die.storeClean e d).otp = d.otp ∧ (Die.storeClean e d).grants = d.grants := ⟨rfl, rfl⟩

@[simp] theorem Die.setBusy_owned (e : Nat) (d : Die) : (Die.setBusy e d).otp = d.otp ∧ (Die.setBusy e d).grants = d.grants := ⟨rfl, rfl⟩

@[simp] theorem Die.askLoad_owned (r : LoadReq) (d : Die) : (Die.askLoad r d).otp = d.otp ∧ (Die.askLoad r d).grants = d.grants := ⟨rfl, rfl⟩

@[simp] theorem Die.openEntry_owned (e : Nat) (q : Nat) (d : Die) : (Die.openEntry e q d).otp = d.otp ∧ (Die.openEntry e q d).grants = d.grants := ⟨rfl, rfl⟩

@[simp] theorem Die.relockAll_owned (d : Die) : (Die.relockAll d).otp = d.otp ∧ (Die.relockAll d).grants = d.grants := ⟨rfl, rfl⟩

@[simp] theorem Die.cancelHandover_owned (d : Die) : (Die.cancelHandover d).otp = d.otp ∧ (Die.cancelHandover d).grants = d.grants := ⟨rfl, rfl⟩

@[simp] theorem Die.openElection_owned (d : Die) : (Die.openElection d).otp = d.otp ∧ (Die.openElection d).grants = d.grants := by simp [Die.openElection]

@[simp] theorem Die.releaseCrook_owned (d : Die) : (Die.releaseCrook d).otp = d.otp ∧ (Die.releaseCrook d).grants = d.grants := by simp [Die.releaseCrook]

@[simp] theorem Die.recheck_owned (d : Die) : (Die.recheck d).otp = d.otp ∧ (Die.recheck d).grants = d.grants := by simp [Die.recheck]

@[simp] theorem Die.setFloors_owned (d : Die) : (Die.setFloors d).otp = d.otp ∧ (Die.setFloors d).grants = d.grants := by
  unfold Die.setFloors
  exact ⟨foldl_keeps Die.otp _ (by intros; simp) _ _, foldl_keeps Die.grants _ (by intros; simp) _ _⟩

@[simp] theorem Die.unsteer_owned (p : Nat) (d : Die) : (Die.unsteer p d).otp = d.otp ∧ (Die.unsteer p d).grants = d.grants := ⟨rfl, rfl⟩

@[simp] theorem Die.refuse_owned (p : Nat) (code : Nat) (w : Where) (d : Die) : (Die.refuse p code w d).otp = d.otp ∧ (Die.refuse p code w d).grants = d.grants := by simp [Die.refuse]

@[simp] theorem Die.updGone_owned (e : Nat) (d : Die) : (Die.updGone e d).otp = d.otp ∧ (Die.updGone e d).grants = d.grants := ⟨rfl, rfl⟩

@[simp] theorem Die.aliveStop_owned (d : Die) : (Die.aliveStop d).otp = d.otp ∧ (Die.aliveStop d).grants = d.grants := ⟨rfl, rfl⟩

@[simp] theorem Die.larderBack_owned (p : Nat) (d : Die) : (Die.larderBack p d).otp = d.otp ∧ (Die.larderBack p d).grants = d.grants := by
  unfold Die.larderBack
  dsimp only
  repeat' split
  all_goals simp

@[simp] theorem Die.emptyQuarters_owned (p : Nat) (d : Die) : (Die.emptyQuarters p d).otp = d.otp ∧ (Die.emptyQuarters p d).grants = d.grants := by simp [Die.emptyQuarters]

@[simp] theorem Die.dropImage_owned (p : Nat) (d : Die) : (Die.dropImage p d).otp = d.otp ∧ (Die.dropImage p d).grants = d.grants := by
  unfold Die.dropImage
  split <;> simp

@[simp] theorem Die.beginLoads_owned (p : Nat) (im : Image) (why : Nat) (d : Die) : (Die.beginLoads p im why d).otp = d.otp ∧ (Die.beginLoads p im why d).grants = d.grants := by simp [Die.beginLoads]

@[simp] theorem Die.abortAdmission_owned (p : Nat) (code : Nat) (d : Die) : (Die.abortAdmission p code d).otp = d.otp ∧ (Die.abortAdmission p code d).grants = d.grants := by
  unfold Die.abortAdmission
  dsimp only
  repeat' split
  all_goals simp

@[simp] theorem Die.dropWaiting_owned (p : Nat) (d : Die) : (Die.dropWaiting p d).otp = d.otp ∧ (Die.dropWaiting p d).grants = d.grants := by simp [Die.dropWaiting]

/-- A field that is no page's expert bit is untouched by a relock (R602). -/
theorem Die.get_relockAll (d : Die) (f : Fld) (i : Nat) (h : ¬ (f.key i / 32 % 0x1000 = 0xF00 ∧ f.key i % 32 = 1)) : d.relockAll.get f i = d.get f i := by
  unfold Die.relockAll Die.get
  rw [KMap.get_keep, if_pos (by simpa [imp_iff_not_or] using h)]

/-- What a check of the crook and of the debug level can change besides reports: OWN_STATUS, the expert bits, the clock stops and the election (R484, R503). -/
def Die.rechecked (d e : Die) : Prop :=
  e = { d with regs := e.regs, tallies := e.tallies, loft := e.loft, host := e.host, emits := e.emits, store := e.store
               stopped := e.stopped, handover := e.handover, claims := e.claims, electionNs := e.electionNs }
  ∧ ∀ (f : Fld) (i : Nat), reportWord (f.key i / 32) = false → f.key i / 32 ≠ 0x1800 → ¬ (f.key i / 32 % 0x1000 = 0xF00 ∧ f.key i % 32 = 1) →
      e.get f i = d.get f i

theorem Die.rechecked.trans {a b c : Die} (h : a.rechecked b) (k : b.rechecked c) : a.rechecked c := by
  refine ⟨?_, fun f i h1 h2 h3 => (k.2 f i h1 h2 h3).trans (h.2 f i h1 h2 h3)⟩
  have hk := k.1
  rw [h.1] at hk
  exact hk

theorem Die.rechecked_refl (d : Die) : d.rechecked d := ⟨rfl, fun _ _ _ _ _ => rfl⟩

theorem Die.rechecked_ite {c : Prop} [Decidable c] {d e f : Die} (h : d.rechecked e) (k : d.rechecked f) : d.rechecked (if c then e else f) := by
  split <;> assumption

theorem Die.report.rechecked {d e : Die} (h : d.report e) : d.rechecked e := by
  refine ⟨?_, fun f i hf _ _ => h.2 f i hf⟩
  have h1 := h.1
  rw [h1]

theorem Die.rechecked_put (d : Die) (f : Fld) (i v : Nat) (h : f.key i / 32 = 0x1800) : d.rechecked (d.put f i v) :=
  ⟨rfl, fun g j _ hg _ => Die.get_put_other _ _ _ _ _ _ fun hk => hg (by rw [hk, h])⟩

theorem Die.rechecked_cancelHandover (d : Die) : d.rechecked d.cancelHandover :=
  ((d.rechecked_put R.OWN_STATUS_PENDING 0 0 rfl).trans (Die.rechecked_put _ R.OWN_STATUS_TARGET 0 0 rfl)).trans ⟨rfl, fun _ _ _ _ _ => rfl⟩

theorem Die.rechecked_relockAll (d : Die) : d.rechecked d.relockAll := ⟨rfl, fun f i _ _ h => d.get_relockAll f i h⟩

theorem Die.rechecked_openElection (d : Die) : d.rechecked d.openElection :=
  ((d.rechecked_put R.OWN_STATUS_ELECTION 0 1 rfl).trans (Die.report_count T.OWN_ELECTIONS 0 _).rechecked).trans ⟨rfl, fun _ _ _ _ _ => rfl⟩

theorem Die.rechecked_releaseCrook (d : Die) : d.rechecked d.releaseCrook :=
  ((((d.rechecked_put R.OWN_STATUS_HELD 0 0 rfl).trans (Die.rechecked_put _ R.OWN_STATUS_HOLDER 0 0 rfl)).trans (Die.rechecked_cancelHandover _)).trans
    (Die.rechecked_relockAll _)).trans (Die.rechecked_openElection _)

theorem Die.rechecked_recheck (d : Die) : d.rechecked d.recheck := by
  have hstop : d.rechecked (if d.debug = 3 then d else { d with stopped := [] }) := Die.rechecked_ite (Die.rechecked_refl d) ⟨rfl, fun _ _ _ _ _ => rfl⟩
  have hhand (e : Die) : e.rechecked (if e.on R.OWN_STATUS_PENDING && !(e.eligible (e.get R.OWN_STATUS_TARGET)) then e.cancelHandover else e) :=
    Die.rechecked_ite e.rechecked_cancelHandover e.rechecked_refl
  have hcrook (e : Die) : e.rechecked (if e.on R.OWN_STATUS_HELD && !(e.eligible (e.get R.OWN_STATUS_HOLDER)) then e.releaseCrook else e) :=
    Die.rechecked_ite e.rechecked_releaseCrook e.rechecked_refl
  exact (hstop.trans (hhand _)).trans (hcrook _)

/-- The debug level is as before. -/
theorem Die.rechecked.sameDebug {d e : Die} (h : d.rechecked e) : e.debug = d.debug := by
  have hpas : e.pas = d.pas := (congrArg Die.pas h.1).trans rfl
  have hotp : e.otp = d.otp := (congrArg Die.otp h.1).trans rfl
  unfold Die.debug Die.debugRaw Die.auditedIn Die.image Die.pasture
  rw [hpas, hotp, h.2 R.OWN_DEBUG_REQUEST 0 rfl (by decide) (by decide), h.2 R.PWR_STATUS_STATE 0 rfl (by decide) (by decide)]

/-- The first field of OWN_STATUS is released with the crook. -/
theorem Die.releaseCrook_held (d : Die) : d.releaseCrook.on R.OWN_STATUS_HELD = false := by
  have hget : d.releaseCrook.get R.OWN_STATUS_HELD = 0 := by
    unfold Die.releaseCrook Die.openElection
    refine ((Die.report_count T.OWN_ELECTIONS 0 _).2 R.OWN_STATUS_HELD 0 rfl).trans ?_
    refine (Die.get_put_apart _ _ _ _ _ (by decide)).trans ?_
    rw [Die.get_relockAll _ _ _ (by decide)]
    change ((((d.put R.OWN_STATUS_HELD 0 0).put R.OWN_STATUS_HOLDER 0 0).put R.OWN_STATUS_PENDING 0 0).put R.OWN_STATUS_TARGET 0 0).get R.OWN_STATUS_HELD = 0
    rw [Die.get_put_apart _ _ _ _ _ (by decide), Die.get_put_apart _ _ _ _ _ (by decide), Die.get_put_apart _ _ _ _ _ (by decide), Die.get_put_same]
    rfl
  rw [Die.on, hget]
  rfl

/-- A crook that JTAG holds is released where JTAG is not eligible (R484). -/
theorem Die.crook_checked (d : Die) (h : d.debug ≠ 3) :
    (if d.on R.OWN_STATUS_HELD && !(d.eligible (d.get R.OWN_STATUS_HOLDER)) then d.releaseCrook else d).holds 3 = false := by
  split
  · rw [Die.holds, d.releaseCrook_held]
    rfl
  · next hok =>
    by_contra hheld
    rw [Bool.not_eq_false, Die.holds, Bool.and_eq_true, beq_iff_eq] at hheld
    rw [hheld.1, hheld.2] at hok
    exact hok (by simp [Die.eligible, h])

theorem Die.crook_checked_stopped (d : Die) (c : Bool) : (if c then d.releaseCrook else d).stopped = d.stopped := by
  cases c
  · rfl
  · exact (congrArg Die.stopped (Die.report_count T.OWN_ELECTIONS 0 _).1).trans rfl

theorem Die.handover_checked (d : Die) (c : Bool) : d.rechecked (if c then d.cancelHandover else d) ∧ (if c then d.cancelHandover else d).stopped = d.stopped := by
  cases c
  · exact ⟨d.rechecked_refl, rfl⟩
  · exact ⟨d.rechecked_cancelHandover, rfl⟩

/-- Below effective D3 no clock is stopped and JTAG does not hold the crook (R484, R503, R623). -/
theorem Die.recheck_undebugged (d : Die) (h : d.debug ≠ 3) : d.recheck.stopped = [] ∧ d.recheck.holds 3 = false := by
  unfold Die.recheck
  rw [if_neg h]
  dsimp only
  have hhand := Die.handover_checked { d with stopped := [] } (({ d with stopped := [] } : Die).on R.OWN_STATUS_PENDING
    && !(({ d with stopped := [] } : Die).eligible (({ d with stopped := [] } : Die).get R.OWN_STATUS_TARGET)))
  exact ⟨(Die.crook_checked_stopped _ _).trans hhand.2, Die.crook_checked _ (fun hd => h (hhand.1.sameDebug.symm.trans hd))⟩

/-- KEY_RESULT of a PROGRAM (R499). -/
def Die.programResult (fail : Bool) (n : Nat) (d : Die) : Nat :=
  if 2 ≤ d.otp.lifecycle then 2
  else if (d.otp.slot (bits n 0 3)).programmed then 3
  else if fail then 6
  else if !(onCurve (beNat ((d.hostRead 0 d.hostAddr 96).take 48)) (beNat ((d.hostRead 0 d.hostAddr 96).drop 48))) || !(bit n 4 || bit n 5) then 4
  else 1

/-- KEY_RESULT of a REVOKE (R499, R501). -/
def Die.revokeResult (n : Nat) (d : Die) : Nat :=
  if d.otp.lifecycle = 4 then 2
  else if !(d.otp.slot (bits n 0 3)).programmed || (d.otp.slot (bits n 0 3)).revoked then 3
  else if (d.otp.lifecycle == 1 || d.otp.lifecycle == 2) && (List.range 8).all (fun j => j == bits n 0 3 || !((d.otp.slot j).signs)) then 5
  else 1

/-- `e` is `d` after an action on key slot i with result r, which is 1 where the slot took the value k. -/
def Die.keyed (d : Die) (i r : Nat) (k : KeySlot) (e : Die) : Prop :=
  e = { d with regs := e.regs, otp := e.otp } ∧ e.get R.OWN_STATUS_KEY_RESULT = r ∧ (r ≠ 1 → e.otp = d.otp)
    ∧ (∀ j, j ≠ i → e.otp.slot j = d.otp.slot j) ∧ (r = 1 → e.otp.slot i = k)

/-- The end of such an action. -/
theorem Die.keyed_put (d : Die) (x : KMap Nat) (i r : Nat) (k : KeySlot) (hr : r < 16) :
    d.keyed i r k (Die.put R.OWN_STATUS_KEY_RESULT 0 r (if r = 1 then { d with regs := x, otp := { d.otp with keys := KMap.insert d.otp.keys i k } } else { d with regs := x })) := by
  have hget (e : Die) : (Die.put R.OWN_STATUS_KEY_RESULT 0 r e).get R.OWN_STATUS_KEY_RESULT = r := (Die.get_put_same _ _ _ _).trans (Nat.mod_eq_of_lt hr)
  by_cases h1 : r = 1
  · rw [if_pos h1]
    exact ⟨rfl, hget _, fun h => absurd h1 h, fun j hj => KMap.get_insert_other _ _ _ _ _ hj, fun _ => KMap.get_insert_same _ _ _ _⟩
  · rw [if_neg h1]
    exact ⟨rfl, hget _, fun _ => rfl, fun _ _ => rfl, fun h => absurd h h1⟩

/-- A write of OWN_KEY_CTL takes its fields and leaves the host address. -/
theorem Die.setFields_keyCtl (n : Nat) (d : Die) : ∃ x, d.setFields .OWN 0 0x02C n = { d with regs := x }
    ∧ ({ d with regs := x } : Die).get R.OWN_KEY_CTL_SLOT = bits n 0 3 ∧ ({ d with regs := x } : Die).on R.OWN_KEY_CTL_USE_IMAGE = bit n 4
    ∧ ({ d with regs := x } : Die).on R.OWN_KEY_CTL_USE_PACK = bit n 5 ∧ ({ d with regs := x } : Die).hostAddr = d.hostAddr := by
  refine ⟨_, Die.setFields_regs _ _ _ _ _, ?_⟩
  rw [← Die.setFields_regs]
  refine ⟨(d.get_setFields_rw .OWN 0 0x02C n ⟨R.OWN_KEY_CTL_SLOT, any⟩ (by simp [fieldsAt, Block.regs, regsOWN]) rfl).trans (if_pos rfl),
    Die.on_setFields_rw _ _ _ _ _ R.OWN_KEY_CTL_USE_IMAGE (by simp [fieldsAt, Block.regs, regsOWN]) rfl rfl,
    Die.on_setFields_rw _ _ _ _ _ R.OWN_KEY_CTL_USE_PACK (by simp [fieldsAt, Block.regs, regsOWN]) rfl rfl, ?_⟩
  unfold Die.hostAddr Die.pair64
  rw [Die.get_setFields_page _ _ _ _ _ _ rfl (by decide), Die.get_setFields_page _ _ _ _ _ _ rfl (by decide)]

theorem ownKeyCtlW_program (fail : Bool) (n : Nat) (d : Die) (h8 : bit n 8 = true) : d.keyed (bits n 0 3) (d.programResult fail n)
    ⟨beNat ((d.hostRead 0 d.hostAddr 96).take 48), beNat ((d.hostRead 0 d.hostAddr 96).drop 48), true, false, bit n 4, bit n 5⟩ (ownKeyCtlW fail n d) := by
  obtain ⟨x, hx, hslot, himage, hpack, haddr⟩ := d.setFields_keyCtl n
  have hwrite : ownKeyCtlW fail n d = Die.keyProgram fail { d with regs := x } := by
    rw [ownKeyCtlW, hx]
    simp only [lowestWo, List.find?_cons, h8]
  rw [hwrite, Die.keyProgram]
  dsimp only
  rw [hslot, himage, hpack, haddr]
  exact d.keyed_put x (bits n 0 3) (d.programResult fail n) _ (by unfold Die.programResult; split_ifs <;> decide)

theorem ownKeyCtlW_revoke (n : Nat) (d : Die) (h8 : bit n 8 = false) (h9 : bit n 9 = true) : d.keyed (bits n 0 3) (d.revokeResult n)
    { d.otp.slot (bits n 0 3) with revoked := true } (ownKeyCtlW false n d) := by
  obtain ⟨x, hx, hslot, -⟩ := d.setFields_keyCtl n
  have hwrite : ownKeyCtlW false n d = Die.keyRevoke { d with regs := x } := by
    rw [ownKeyCtlW, hx]
    simp only [lowestWo, List.find?_cons, h8, h9]
  rw [hwrite, Die.keyRevoke]
  dsimp only
  rw [hslot]
  exact d.keyed_put x (bits n 0 3) (d.revokeResult n) _ (by unfold Die.revokeResult; split_ifs <;> decide)

/-- A run of words put into consecutive registers. -/
theorem Die.loads_puts (v : Nat → Nat) (l : List Nat) (d : Die) : ∃ x, l.foldl (fun d k => d.put (R.OWN_GRANT_DATA k) 0 (v k)) d = { d with regs := x }
    ∧ ∀ k, k ∈ l → (l.foldl (fun d k => d.put (R.OWN_GRANT_DATA k) 0 (v k)) d).get (R.OWN_GRANT_DATA k) = v k % 2 ^ 32 := by
  induction l using List.reverseRecOn with
  | nil => exact ⟨d.regs, rfl, fun k hk => by simp at hk⟩
  | append_singleton l j ih =>
    obtain ⟨x, hx, hall⟩ := ih
    rw [List.foldl_concat]
    refine ⟨(Die.put (R.OWN_GRANT_DATA j) 0 (v j) { d with regs := x }).regs, by rw [hx]; rfl, fun k hk => ?_⟩
    by_cases hj : k = j
    · rw [hj, Die.get_put_same]
      rfl
    · rw [Die.get_put_apart _ _ _ _ _ (by simp only [R.OWN_GRANT_DATA]; omega)]
      exact hall k ((List.mem_append.1 hk).resolve_right (by simpa using hj))

/-- A write of OWN_GRANT_SEL names its pasture and leaves the staged grant. -/
theorem Die.setFields_grantSel (n : Nat) (d : Die) : ∃ x, d.setFields .OWN 0 0x030 n = { d with regs := x }
    ∧ ({ d with regs := x } : Die).get R.OWN_GRANT_SEL_PASTURE = bits n 0 6 ∧ ({ d with regs := x } : Die).stagedGrant = d.stagedGrant := by
  refine ⟨_, Die.setFields_regs _ _ _ _ _, ?_⟩
  rw [← Die.setFields_regs]
  refine ⟨(d.get_setFields_rw .OWN 0 0x030 n ⟨R.OWN_GRANT_SEL_PASTURE, any⟩ (by simp [fieldsAt, Block.regs, regsOWN]) rfl).trans (if_pos rfl), ?_⟩
  unfold Die.stagedGrant
  refine List.flatMap_congr fun k _ => ?_
  rw [Die.get_setFields_page _ _ _ _ _ _ rfl (by simp only [R.OWN_GRANT_DATA]; omega)]

theorem ownGrantSelW_load (fu : Fused) (n : Nat) (d : Die) (h8 : bit n 8 = true) : ∃ x, ownGrantSelW fu n d = { d with regs := x }
    ∧ ∀ k, k < 16 → ({ d with regs := x } : Die).get (R.OWN_GRANT_DATA k) = leNat (slice (d.grant (bits n 0 6)) (4 * k) 4) % 2 ^ 32 := by
  obtain ⟨y, hy, hp, -⟩ := d.setFields_grantSel n
  have hwrite : ownGrantSelW fu n d = Die.grantLoad { d with regs := y } := by
    rw [ownGrantSelW, hy]
    simp only [lowestWo, List.find?_cons, h8]
  obtain ⟨x, hx, hall⟩ := Die.loads_puts (fun k => leNat (slice (d.grant (bits n 0 6)) (4 * k) 4)) (List.range 16) { d with regs := y }
  rw [hwrite, Die.grantLoad, hp]
  refine ⟨x, hx, fun k hk => ?_⟩
  have hget := hall k (List.mem_range.2 hk)
  rw [hx] at hget
  exact hget

/-- The end of a COMMIT (R491). -/
theorem ownGrantSelW_commit (fu : Fused) (n : Nat) (d : Die) (h8 : bit n 8 = false) (h9 : bit n 9 = true) (e : Die) (he : ownGrantSelW fu n d = e) :
    e.get R.OWN_STATUS_GRANT_RESULT = (d.setFields .OWN 0 0x030 n).grantResult fu (bits n 0 6) d.stagedGrant
    ∧ ((d.setFields .OWN 0 0x030 n).grantResult fu (bits n 0 6) d.stagedGrant ≠ 1 → e.grants = d.grants ∧ e.pas = d.pas)
    ∧ ((d.setFields .OWN 0 0x030 n).grantResult fu (bits n 0 6) d.stagedGrant = 1 → e.grant (bits n 0 6) = d.stagedGrant)
    ∧ ∀ q, q ≠ bits n 0 6 → e.grant q = d.grant q := by
  obtain ⟨y, hy, hp, hstaged⟩ := d.setFields_grantSel n
  have hwrite : ownGrantSelW fu n d = Die.grantCommit fu { d with regs := y } := by
    rw [ownGrantSelW, hy]
    simp only [lowestWo, List.find?_cons, h8, h9]
  have hlt : Die.grantResult fu (bits n 0 6) d.stagedGrant { d with regs := y } < 16 := by
    unfold Die.grantResult
    dsimp only
    split_ifs <;> decide
  rw [hwrite, Die.grantCommit] at he
  dsimp only at he
  rw [hp, hstaged] at he
  rw [hy]
  generalize Die.grantResult fu (bits n 0 6) d.stagedGrant { d with regs := y } = r at he hlt ⊢
  by_cases h1 : r = 1
  · rw [if_pos h1] at he
    subst h1
    have hgrants (x : Die) (hx : x.grants = d.grants) : (if regionChanged (x.grant (bits n 0 6)) d.stagedGrant then x.clearLarder (bits n 0 6) else x).grants = d.grants := by
      split
      · exact (Die.clearLarder_owned _ _).2.trans hx
      · exact hx
    have hset := hgrants (Die.abortAdmission (bits n 0 6) 0x0903 { d with regs := y }) (Die.abortAdmission_owned _ _ _).2
    subst he
    refine ⟨Die.get_put_same _ _ _ _, fun h => absurd rfl h, fun _ => KMap.get_set_same _ _ _ _, fun q hq => ?_⟩
    refine (KMap.get_set_other _ _ _ _ _ hq).trans ?_
    rw [hset]
    rfl
  · rw [if_neg h1] at he
    subst he
    exact ⟨(Die.get_put_same _ _ _ _).trans (Nat.mod_eq_of_lt hlt), fun _ => ⟨rfl, rfl⟩, fun h => absurd h h1, fun _ _ => rfl⟩

@[simp] theorem Die.unchoose_owned (kind : Nat) (n : Nat) (d : Die) : (Die.unchoose kind n d).otp = d.otp ∧ (Die.unchoose kind n d).grants = d.grants := ⟨rfl, rfl⟩

@[simp] theorem Die.onFlk_owned (f : Flock → Flock) (d : Die) : (Die.onFlk f d).otp = d.otp ∧ (Die.onFlk f d).grants = d.grants := ⟨rfl, rfl⟩

@[simp] theorem Die.enterHoldover_owned (d : Die) : (Die.enterHoldover d).otp = d.otp ∧ (Die.enterHoldover d).grants = d.grants := by simp [Die.enterHoldover]

@[simp] theorem Die.refBack_owned (d : Die) : (Die.refBack d).otp = d.otp ∧ (Die.refBack d).grants = d.grants := by simp [Die.refBack]

@[simp] theorem Die.ethUnlock_owned (t : Nat) (block : Bool) (codeword : Bool) (d : Die) : (Die.ethUnlock t block codeword d).otp = d.otp ∧ (Die.ethUnlock t block codeword d).grants = d.grants := by simp [Die.ethUnlock]

@[simp] theorem Die.alarm_owned (b : Nat) (hb : b < 32) (d : Die) : (d.alarm b).otp = d.otp ∧ (d.alarm b).grants = d.grants :=
  have h := (d.report_alarm b hb).1
  ⟨(congrArg Die.otp h).trans rfl, (congrArg Die.grants h).trans rfl⟩

@[simp] theorem Die.refLoss_owned (d : Die) : (Die.refLoss d).otp = d.otp ∧ (Die.refLoss d).grants = d.grants := by simp [Die.refLoss]

@[simp] theorem Die.linkPacket_owned (a b c e : Nat) (d : Die) : (d.linkPacket a b c e).otp = d.otp ∧ (d.linkPacket a b c e).grants = d.grants :=
  have h := (d.report_trace _ (fun q hq => by cases hq)).1
  ⟨(congrArg Die.otp h).trans rfl, (congrArg Die.grants h).trans rfl⟩

@[simp] theorem Die.laneTo_owned (l : Nat) (st : Nat) (cause : Nat) (d : Die) : (Die.laneTo l st cause d).otp = d.otp ∧ (Die.laneTo l st cause d).grants = d.grants := by simp [Die.laneTo]

@[simp] theorem Die.ethPacket_owned (a b c e : Nat) (d : Die) : (d.ethPacket a b c e).otp = d.otp ∧ (d.ethPacket a b c e).grants = d.grants :=
  have h := (d.report_trace _ (fun q hq => by cases hq)).1
  ⟨(congrArg Die.otp h).trans rfl, (congrArg Die.grants h).trans rfl⟩

@[simp] theorem Die.ethDown_owned (t : Nat) (cause : Nat) (d : Die) : (Die.ethDown t cause d).otp = d.otp ∧ (Die.ethDown t cause d).grants = d.grants := by simp [Die.ethDown]


@[simp] theorem Die.idleLinks_owned (d : Die) : d.idleLinks.otp = d.otp ∧ d.idleLinks.grants = d.grants := by simp [Die.idleLinks]

@[simp] theorem Die.pinsLow_owned (d : Die) : d.pinsLow.otp = d.otp ∧ d.pinsLow.grants = d.grants := by simp [Die.pinsLow, Die.emit]

@[simp] theorem State.discardLaunches_otp (sel : LaunchEnt → Bool) (t : Tal) (s : State) (ix : optParam (LaunchEnt → Nat) fun e => e.pasture) :
    (State.discardLaunches sel t s ix).die.otp = s.die.otp := by simp [State.discardLaunches]

/-- The end of every image leaves the fuses (R302). -/
theorem State.withdrawAll_otp (s : State) : s.withdrawAll.die.otp = s.die.otp := by
  unfold State.withdrawAll
  refine foldl_keeps (fun s : State => s.die.otp) _ (fun s p => ?_) _ _
  dsimp only
  split
  · split <;> simp
  · split <;> simp

/-- DEFUNCT revokes every key, ends the flock and stops ALIVE (R496). -/
theorem Die.defunct_ends (d : Die) : d.defunct.otp.lifecycle = d.otp.lifecycle ∧ (∀ j, j < 8 → (d.defunct.otp.slot j).revoked = true) ∧ d.defunct.aliveOn = false
    ∧ d.defunct.get R.FLK_STATUS_JOIN_RESULT = 0 := by
  have hotp : d.idleLinks.pinsLow.aliveStop.otp = d.otp := by simp
  unfold Die.defunct
  dsimp only
  rw [hotp]
  refine ⟨rfl, fun j hj => ?_, rfl, ?_⟩
  · change KeySlot.revoked (KMap.get {} ((List.range 8).map fun i => (i, { d.otp.slot i with revoked := true })) j) = true
    interval_cases j <;> rfl
  · rw [Die.get_relockAll _ _ _ (by decide)]
    exact Die.get_put_same _ _ _ _

/-- A write of OWN_LIFECYCLE with GO takes its target and its confirmation (R506). -/
theorem Die.setFields_lifecycle (n : Nat) (d : Die) (h1 : 1 ≤ bits n 0 3) (h4 : bits n 0 3 ≤ 4) : ∃ x, d.setFields .OWN 0 0x020 n = { d with regs := x }
    ∧ ({ d with regs := x } : Die).get R.OWN_LIFECYCLE_TARGET = bits n 0 3 ∧ ({ d with regs := x } : Die).get R.OWN_LIFECYCLE_CONFIRM = bits n 16 16 := by
  refine ⟨_, Die.setFields_regs _ _ _ _ _, ?_⟩
  rw [← Die.setFields_regs]
  refine ⟨(d.get_setFields_rw .OWN 0 0x020 n ⟨R.OWN_LIFECYCLE_TARGET, fun v => 1 ≤ v && v ≤ 4⟩ (by simp [fieldsAt, Block.regs, regsOWN]) rfl).trans (if_pos ?_),
    (d.get_setFields_rw .OWN 0 0x020 n ⟨R.OWN_LIFECYCLE_CONFIRM, any⟩ (by simp [fieldsAt, Block.regs, regsOWN]) rfl).trans (if_pos rfl)⟩
  rw [Bool.and_eq_true, decide_eq_true_eq, decide_eq_true_eq]
  exact ⟨h1, h4⟩

/-- GO of OWN_LIFECYCLE with target i: the result's checks read the fuses, the confirmation and the message (R497). -/
theorem ownLifecycleW_go (fail : Bool) (n : Nat) (s : State) (h3 : bit n 3 = true) (h1 : 1 ≤ bits n 0 3) (h4 : bits n 0 3 ≤ 4) :
    ∃ x, ownLifecycleW fail n s = State.lifecycleGo fail { s with die := { s.die with regs := x } }
      ∧ ({ s.die with regs := x } : Die).get R.OWN_LIFECYCLE_TARGET = bits n 0 3 ∧ ({ s.die with regs := x } : Die).get R.OWN_LIFECYCLE_CONFIRM = bits n 16 16 := by
  obtain ⟨x, hx, htarget, hconfirm⟩ := s.die.setFields_lifecycle n h1 h4
  refine ⟨x, ?_, htarget, hconfirm⟩
  rw [ownLifecycleW]
  dsimp only
  rw [hx, h3]
  rfl

/-- A GO that is refused leaves all but its result and, where an RMA message was asked for, the nonce (R497). -/
theorem State.lifecycleGo_refused (fail : Bool) (s : State) (r : Nat) (hr : s.die.lifecycleResult s.fused fail = r) (h1 : r ≠ 1) :
    ∃ d, s.lifecycleGo fail = { s with die := d.put R.OWN_STATUS_LC_RESULT 0 r } ∧ d = if s.die.get R.OWN_LIFECYCLE_TARGET = 3 then s.die.newNonce else s.die := by
  refine ⟨_, ?_, rfl⟩
  rw [State.lifecycleGo, hr, if_neg h1]

/-- A GO to a state other than RMA that is carried out enters it (R496, R497). -/
theorem State.lifecycleGo_entered (fail : Bool) (s : State) (hr : s.die.lifecycleResult s.fused fail = 1) (h3 : s.die.get R.OWN_LIFECYCLE_TARGET ≠ 3) :
    s.lifecycleGo fail = { s.enterLifecycle (s.die.get R.OWN_LIFECYCLE_TARGET) with
      die := (s.enterLifecycle (s.die.get R.OWN_LIFECYCLE_TARGET)).die.put R.OWN_STATUS_LC_RESULT 0 1 } := by
  rw [State.lifecycleGo]
  dsimp only
  rw [hr, if_pos rfl, if_neg h3]

/-- Whether a slot signs images. -/
theorem Die.signs_iff (d : Die) : ((List.range 8).any (fun i => (d.otp.slot i).signs)) = true ↔ ∃ j, j < 8 ∧ (d.otp.slot j).signs = true := by
  simp [List.any_eq_true]

/-- Settles O44: keys by `Die.keyed`, the debug request by `Die.rechecked`, grants by their COMMIT, and each transition by its result. -/
theorem ownershipManaged : Obligations.OwnershipManaged := by
  unfold Obligations.OwnershipManaged
  intro s src w
  dsimp only
  have hkey (c : Instr) (e : Die) (r : Nat) (k : KeySlot) (hk : s.die.keyed (bits w.toNat 0 3) r k e) (hc : s.admits src .OWN 0 0x02C → exec c s = .next { s with die := e })
      (hg : s.admits src .OWN 0 0x02C) : s.completes c (fun t => t = { s with die := { s.die with regs := t.die.regs, otp := t.die.otp } }
        ∧ t.die.get R.OWN_STATUS_KEY_RESULT = r ∧ (r ≠ 1 → t.die.otp = s.die.otp) ∧ ∀ j, j ≠ bits w.toNat 0 3 → t.die.otp.slot j = s.die.otp.slot j) :=
    ⟨_, hc hg, congrArg (fun d => { s with die := d }) hk.1, hk.2.1, hk.2.2.1, hk.2.2.2.1⟩
  refine ⟨fun fail h8 => ?_, fun h8 h9 => ?_, fun hg => ?_, fun h8 hg => ?_, fun h8 h9 hg => ?_, fun fail h3 h1 h4 => ?_⟩
  · have hprog := ownKeyCtlW_program fail w.toNat s.die h8
    have hexec (hg : s.admits src .OWN 0 0x02C) : exec (.keyProgram src w fail) s = .next { s with die := ownKeyCtlW fail w.toNat s.die } := by
      change dieCmd true (writeDie src (blockAddr .OWN 0 0x02C) (ownKeyCtlW fail w.toNat)) s = _
      rw [dieCmd, if_pos rfl, writeDie_admitted hg]
    have hgoes (r : Nat) (hr : s.die.programResult fail w.toNat = r) := hkey _ _ _ _ (hr ▸ hprog) hexec
    refine ⟨fun hlc => hgoes 2 (if_pos hlc), fun hlc hfull => hgoes 3 ?_, fun hlc hfree hfail => hgoes 6 ?_,
      fun hlc hfree hfail => ⟨fun hbad => hgoes 4 ?_, fun hcurve huse => ?_⟩⟩
    · rw [Die.programResult, if_neg (by omega), if_pos hfull]
    · rw [Die.programResult, if_neg (by omega), if_neg (by simp [hfree]), if_pos hfail]
    · rw [Die.programResult, if_neg (by omega), if_neg (by simp [hfree]), if_neg (by simp [hfail]), if_pos]
      rcases hbad with h | ⟨hi, hp⟩
      · simp [h]
      · simp [hi, hp]
    · have hone : s.die.programResult fail w.toNat = 1 := by
        rw [Die.programResult, if_neg (by omega), if_neg (by simp [hfree]), if_neg (by simp [hfail]), if_neg]
        rcases huse with h | h <;> simp [hcurve, h]
      exact ⟨hgoes 1 hone, fun hg => ⟨_, hexec hg, hprog.2.2.2.2 hone⟩⟩
  · have hrevoke := ownKeyCtlW_revoke w.toNat s.die h8 h9
    have hexec (hg : s.admits src .OWN 0 0x02C) : exec (.keyRevoke src w) s = .next { s with die := ownKeyCtlW false w.toNat s.die } := by
      change dieCmd true (writeDie src (blockAddr .OWN 0 0x02C) (ownKeyCtlW false w.toNat)) s = _
      rw [dieCmd, if_pos rfl, writeDie_admitted hg]
    have hgoes (r : Nat) (hr : s.die.revokeResult w.toNat = r) := hkey _ _ _ _ (hr ▸ hrevoke) hexec
    have hlast : ((s.die.otp.lifecycle == 1 || s.die.otp.lifecycle == 2) && (List.range 8).all (fun j => j == bits w.toNat 0 3 || !((s.die.otp.slot j).signs))) = true
        ↔ (s.die.otp.lifecycle = 1 ∨ s.die.otp.lifecycle = 2) ∧ ∀ j, j < 8 → j ≠ bits w.toNat 0 3 → (s.die.otp.slot j).signs = false := by
      simp only [Bool.and_eq_true, Bool.or_eq_true, beq_iff_eq, List.all_eq_true, List.mem_range, Bool.not_eq_true', or_iff_not_imp_left (a := _ = bits w.toNat 0 3)]
    refine ⟨fun hlc => hgoes 2 (if_pos hlc), fun hlc hbad => hgoes 3 ?_, fun hlc hfull hlive => ⟨fun hl => hgoes 5 ?_, fun hl => ?_⟩⟩
    · rw [Die.revokeResult, if_neg hlc, if_pos]
      rcases hbad with h | h <;> simp [h]
    · rw [Die.revokeResult, if_neg hlc, if_neg (by simp [hfull, hlive]), if_pos (hlast.2 hl)]
    · have hone : s.die.revokeResult w.toNat = 1 := by
        rw [Die.revokeResult, if_neg hlc, if_neg (by simp [hfull, hlive]), if_neg (fun h => hl (hlast.1 h))]
      exact ⟨hgoes 1 hone, fun hg => ⟨_, hexec hg, hrevoke.2.2.2.2 hone⟩⟩
  · have hframe := (s.die.setFields .OWN 0 0x01C w.toNat).rechecked_recheck
    have hfields := s.die.setFields_regs .OWN 0 0x01C w.toNat
    refine ⟨{ s with die := ownDebugW w.toNat s.die }, ?_, rfl, ?_, ?_, fun hd => Die.recheck_undebugged _ (fun h => hd (hframe.sameDebug.trans h))⟩
    · change dieCmd true (writeDie src (blockAddr .OWN 0 0x01C) (ownDebugW w.toNat)) s = _
      rw [dieCmd, if_pos rfl, writeDie_admitted hg]
    · refine (hframe.2 R.OWN_DEBUG_REQUEST 0 rfl (by decide) (by decide)).trans ?_
      exact (s.die.get_setFields_rw .OWN 0 0x01C w.toNat ⟨R.OWN_DEBUG_REQUEST, any⟩ (by simp [fieldsAt, Block.regs, regsOWN]) rfl).trans (if_pos rfl)
    · exact ((congrArg Die.otp hframe.1).trans rfl).trans ((congrArg Die.otp hfields).trans rfl)
  · obtain ⟨x, hx, hall⟩ := ownGrantSelW_load s.fused w.toNat s.die h8
    refine ⟨{ s with die := { s.die with regs := x } }, ?_, rfl, hall⟩
    change dieCmd true (writeDie src (blockAddr .OWN 0 0x030) (ownGrantSelW s.fused w.toNat)) s = _
    rw [dieCmd, if_pos rfl, writeDie_admitted hg, hx]
  · refine ⟨{ s with die := ownGrantSelW s.fused w.toNat s.die }, ?_, rfl, ownGrantSelW_commit s.fused w.toNat s.die h8 h9 _ rfl⟩
    change dieCmd true (writeDie src (blockAddr .OWN 0 0x030) (ownGrantSelW s.fused w.toNat)) s = _
    rw [dieCmd, if_pos rfl, writeDie_admitted hg]
  · obtain ⟨x, hx, htarget, hconfirm⟩ := ownLifecycleW_go fail w.toNat s h3 h1 h4
    generalize bits w.toNat 0 3 = i at *
    generalize bits w.toNat 16 16 = key at *
    have hexec (hg : s.admits src .OWN 0 0x020) : exec (.lifecycleGo src w fail) s = .next (State.lifecycleGo fail { s with die := { s.die with regs := x } }) := by
      change Host.Outcome.next (writeAt src (blockAddr .OWN 0 0x020) (ownLifecycleW fail w.toNat) s) = _
      rw [writeAt_admitted hg, hx]
    have hput (d : Die) (r : Nat) (hr : r < 16) : (d.put R.OWN_STATUS_LC_RESULT 0 r).get R.OWN_STATUS_LC_RESULT = r :=
      (Die.get_put_same _ _ _ _).trans (Nat.mod_eq_of_lt hr)
    have hrefused (r : Nat) (hr : Die.lifecycleResult s.fused fail { s.die with regs := x } = r) (hr1 : r ≠ 1) (hr16 : r < 16) (hg : s.admits src .OWN 0 0x020) :
        ∃ d, exec (.lifecycleGo src w fail) s = .next { s with die := d } ∧ d.otp = s.die.otp ∧ d.pas = s.die.pas ∧ d.get R.OWN_STATUS_LC_RESULT = r
          ∧ (i = 3 → d.free = s.die.free + 1) := by
      obtain ⟨d, hd, hnonce⟩ := State.lifecycleGo_refused fail { s with die := { s.die with regs := x } } r hr hr1
      have hexec' := (hexec hg).trans (congrArg Host.Outcome.next hd)
      rw [htarget] at hnonce
      refine ⟨_, hexec', ?_, ?_, hput _ _ hr16, fun h3 => ?_⟩
      · rw [hnonce]
        split <;> rfl
      · rw [hnonce]
        split <;> rfl
      · rw [hnonce, if_pos h3]
        rfl
    have hentered (hr : Die.lifecycleResult s.fused fail { s.die with regs := x } = 1) (hi : i ≠ 3) (hg : s.admits src .OWN 0 0x020) :
        ∃ t : State, t = State.enterLifecycle i { s with die := { s.die with regs := x } }
          ∧ exec (.lifecycleGo src w fail) s = .next { t with die := t.die.put R.OWN_STATUS_LC_RESULT 0 1 } := by
      have hgo := State.lifecycleGo_entered fail { s with die := { s.die with regs := x } } hr (by rw [htarget]; exact hi)
      rw [htarget] at hgo
      exact ⟨_, rfl, (hexec hg).trans (congrArg Host.Outcome.next hgo)⟩
    refine ⟨fun hfrom hg => ?_, fun hfrom hi => ⟨fun hsign hg => ?_, fun hsign hg => ?_⟩, fun hfrom hi => ⟨fun hkey hg => ?_, fun hkey hg => ?_⟩, fun hfrom hi hfail hg => ?_⟩
    · obtain ⟨d, hd, hotp, hpas, hres, -⟩ := hrefused 2 (by rw [Die.lifecycleResult, htarget]; exact if_pos (by simp [hfrom])) (by decide) (by decide) hg
      exact ⟨_, hd, rfl, rfl, hotp, hpas, hres⟩
    · have hr : Die.lifecycleResult s.fused fail { s.die with regs := x } = 1 := by
        rw [Die.lifecycleResult, htarget]
        dsimp only
        rw [hfrom, s.die.signs_iff.2 hsign]
        rcases hi with rfl | rfl <;> rfl
      obtain ⟨t, ht, hd⟩ := hentered hr (by omega) hg
      have hplain : t = { s with die := Die.recheck { s.die with regs := x, otp := { s.die.otp with lifecycle := i } } } := by
        rw [ht, State.enterLifecycle, if_neg (by omega), if_neg (by omega)]
      have hframe := (Die.rechecked_recheck { s.die with regs := x, otp := { s.die.otp with lifecycle := i } }).1
      refine ⟨_, hd, ?_, ?_, hput _ _ (by decide)⟩
      · rw [hplain]
        exact (congrArg Die.otp hframe).trans rfl
      · rw [hplain]
        exact (congrArg Die.pas hframe).trans rfl
    · have hnone : (List.range 8).any (fun i => (s.die.otp.slot i).signs) = false := by
        rw [← Bool.not_eq_true, s.die.signs_iff]
        exact hsign
      obtain ⟨d, hd, hotp, -, hres, -⟩ := hrefused 3 (by
        rw [Die.lifecycleResult, htarget]
        dsimp only
        rw [hfrom, hnone]
        rcases hi with rfl | rfl <;> rfl) (by decide) (by decide) hg
      exact ⟨_, hd, hotp, hres⟩
    · have hr : Die.lifecycleResult s.fused fail { s.die with regs := x } = 1 := by
        rw [Die.lifecycleResult, htarget, hconfirm, hi, hkey]
        dsimp only
        rw [hi] at hfrom
        rw [hfrom]
        rfl
      obtain ⟨t, ht, hd⟩ := hentered hr (by omega) hg
      have hdead : t.die = (State.withdrawAll { s with die := { s.die with regs := x, otp := { s.die.otp with lifecycle := 4 } } }).die.defunct.recheck := by
        rw [ht, State.enterLifecycle, hi, if_neg (by decide), if_pos rfl]
      have hotp := State.withdrawAll_otp { s with die := { s.die with regs := x, otp := { s.die.otp with lifecycle := 4 } } }
      generalize (State.withdrawAll { s with die := { s.die with regs := x, otp := { s.die.otp with lifecycle := 4 } } }).die = d at hdead hotp
      obtain ⟨hlife, hkeys, halive, hjoin⟩ := d.defunct_ends
      have hframe := d.defunct.rechecked_recheck
      have hotpIs : t.die.otp = d.defunct.otp := by
        rw [hdead]
        exact (congrArg Die.otp hframe.1).trans rfl
      refine ⟨_, hd, ?_, hput _ _ (by decide), fun j hj => ?_, ?_, ?_⟩
      · change t.die.otp.lifecycle = 4
        rw [hotpIs, hlife, hotp]
      · change (t.die.otp.slot j).revoked = true
        rw [hotpIs]
        exact hkeys j hj
      · change t.die.aliveOn = false
        rw [hdead]
        exact ((congrArg Die.aliveOn hframe.1).trans rfl).trans halive
      · refine (Die.get_put_apart _ _ _ _ _ (by decide)).trans ?_
        rw [hdead]
        exact (hframe.2 R.FLK_STATUS_JOIN_RESULT 0 rfl (by decide) (by decide)).trans hjoin
    · obtain ⟨d, hd, hotp, -, hres, -⟩ := hrefused 3 (by
        rw [Die.lifecycleResult, htarget, hconfirm]
        dsimp only
        rw [hfrom, hi]
        simp [hkey]) (by decide) (by decide) hg
      exact ⟨_, hd, hotp, hres⟩
    · obtain ⟨d, hd, hotp, hpas, hres, hfree⟩ := hrefused 6 (by
        rw [Die.lifecycleResult, htarget]
        dsimp only
        rw [hfrom, hi, hfail]
        rfl) (by decide) (by decide) hg
      exact ⟨_, hd, hotp, hpas, hres, hfree hi⟩

end Sys2Proof.Machine
end

section
/-! SUPPORT. Power profiles and states: what a transition begins and ends, what a start leaves of the page locks (R564, R572, R578 to R581, R604). -/

namespace Sys2Proof.Machine

theorem Die.traced_powerPacket (left entered : Nat) (exit lost : Bool) (d : Die) : d.traced (d.powerPacket left entered exit lost) := d.traced_trace _ (fun q hq => by cases hq)

/-- Keys set one after another read as set, and the others as before. -/
theorem KMap.get_setAll (v : Bool) (l : List Nat) (m : KMap Bool) (k : Nat) :
    KMap.get false (l.foldl (fun m k => KMap.set false m k v) m) k = if k ∈ l then v else KMap.get false m k := by
  induction l generalizing m with
  | nil => rfl
  | cons j l ih =>
    rw [List.foldl_cons, ih]
    by_cases hl : k ∈ l
    · rw [if_pos hl, if_pos (List.mem_cons_of_mem _ hl)]
    · by_cases hj : k = j
      · rw [if_neg hl, hj, KMap.get_set_same, if_pos List.mem_cons_self]
      · rw [if_neg hl, KMap.get_set_other _ _ _ _ _ hj, if_neg (by simp [hl, hj])]

/-- A transition begins with BUSY, its request and its packet; to Nap, every open entry closes (R564, R579, R580). -/
theorem Die.beginState_begins (t : Nat) (d : Die) : ∃ x : Die, ({ d.flag R.PWR_STATUS_BUSY 0 true with statePending := some t } : Die).traced x
    ∧ ∃ r n c, d.beginState t = { x with refWait := r, napOpen := n, closed := c }
      ∧ (t = 2 → d.pstate ≠ 3 → ∀ k, k < 32 → d.qstate (k / 4) (k % 4) = 2 → KMap.get false c k = true) := by
  have hx : Die.traced { d.flag R.PWR_STATUS_BUSY 0 true with statePending := some t }
      (if t = 0 ∨ d.pstate = 3 then ({ d.flag R.PWR_STATUS_BUSY 0 true with statePending := some t } : Die)
        else Die.powerPacket d.pstate t false false { d.flag R.PWR_STATUS_BUSY 0 true with statePending := some t }) := by
    split
    · exact Die.traced_refl _
    · exact Die.traced_powerPacket _ _ _ _ _
  unfold Die.beginState
  dsimp only
  generalize (if t = 0 ∨ d.pstate = 3 then ({ d.flag R.PWR_STATUS_BUSY 0 true with statePending := some t } : Die)
        else Die.powerPacket d.pstate t false false { d.flag R.PWR_STATUS_BUSY 0 true with statePending := some t }) = x at hx
  refine ⟨x, hx, ?_⟩
  by_cases h3 : d.pstate = 3
  · rw [if_pos h3]
    exact ⟨true, x.napOpen, x.closed, rfl, fun _ h => absurd h3 h⟩
  · rw [if_neg h3]
    by_cases h2 : t = 2
    · rw [if_pos h2]
      refine ⟨x.refWait, _, _, rfl, fun _ _ k hk hq => ?_⟩
      have hsame : x.qstate (k / 4) (k % 4) = 2 := by
        rw [Die.qstate, hx.1.2 _ _ (reportWord_above (by simp only [Fld.key, R.ENG_STATUS_QSTATE]; omega) (by simp only [Fld.key, R.ENG_STATUS_QSTATE]; omega))]
        exact (congrArg (fun v => bits v (2 * (k % 4)) 2) (Die.get_put_other d R.PWR_STATUS_BUSY R.ENG_STATUS_QSTATE 0 (k / 4) 1
          (by simp only [Fld.key, R.ENG_STATUS_QSTATE, R.PWR_STATUS_BUSY]; omega))).trans hq
      rw [KMap.get_setAll]
      split
      · rfl
      · next hopen =>
        by_contra hclosed
        exact hopen (List.mem_filter.2 ⟨List.mem_range.2 hk, by simpa [hsame] using hclosed⟩)
    · rw [if_neg h2]
      exact ⟨x.refWait, x.napOpen, x.closed, rfl, fun h => absurd h h2⟩

/-- A power transition leaves what is neither reported nor its own. -/
theorem Die.get_beginState (t : Nat) (d : Die) (f : Fld) (i : Nat) (hf : reportWord (f.key i / 32) = false) (hb : f.key i ≠ R.PWR_STATUS_BUSY.key 0) :
    (d.beginState t).get f i = d.get f i := by
  obtain ⟨x, hx, r, n, c, he, -⟩ := d.beginState_begins t
  rw [he]
  refine (hx.1.2 f i hf).trans ?_
  exact Die.get_put_other d R.PWR_STATUS_BUSY f 0 i 1 hb

theorem Die.beginState_pending (t : Nat) (d : Die) : (d.beginState t).statePending = some t ∧ (d.beginState t).tripped = d.tripped
    ∧ (d.beginState t).profilePending = d.profilePending ∧ (d.beginState t).on R.PWR_STATUS_BUSY = true := by
  obtain ⟨x, hx, r, n, c, he, -⟩ := d.beginState_begins t
  rw [he]
  refine ⟨(congrArg Die.statePending hx.1.1).trans rfl, (congrArg Die.tripped hx.1.1).trans rfl, (congrArg Die.profilePending hx.1.1).trans rfl, ?_⟩
  have hbusy : x.get R.PWR_STATUS_BUSY = 1 := (hx.1.2 R.PWR_STATUS_BUSY 0 rfl).trans (Die.get_put_same d R.PWR_STATUS_BUSY 0 1)
  rw [Die.on]
  exact beq_iff_eq.2 hbusy

theorem Die.tally_beginState (t : Nat) (d : Die) (u : Tal) (i : Nat) (hu : loftTally (u.key i) = false) : (d.beginState t).tally u i = d.tally u i := by
  obtain ⟨x, hx, r, n, c, he, -⟩ := d.beginState_begins t
  rw [he]
  exact hx.2 _ hu

/-- An over-temperature trip counts and asks for Standby (R574). -/
theorem Die.thermTrip_asks (d : Die) (h : d.get R.PWR_STATUS_STATE ≠ 3) : d.thermTrip.tally T.PWR_THERM_TRIP = tallyAdd (d.tally T.PWR_THERM_TRIP) 1
    ∧ d.thermTrip.tripped = true ∧ d.thermTrip.statePending = some 3 ∧ d.thermTrip.profilePending = none := by
  have hstate : ((d.put R.PWR_TEMP_TEMP 0 110).count T.PWR_THERM_TRIP 0).pstate ≠ 3 := by
    rw [Die.pstate, (Die.report_count T.PWR_THERM_TRIP 0 _).2 _ _ rfl, Die.get_put_apart _ _ _ _ _ (by decide)]
    exact h
  unfold Die.thermTrip
  dsimp only
  rw [if_neg hstate]
  obtain ⟨hpending, htripped, hprofile, -⟩ := Die.beginState_pending 3 { (d.put R.PWR_TEMP_TEMP 0 110).count T.PWR_THERM_TRIP 0 with tripped := true, profilePending := none }
  refine ⟨?_, htripped, hpending, hprofile⟩
  rw [Die.tally_beginState _ _ _ _ rfl]
  exact Die.tally_count_same T.PWR_THERM_TRIP 0 (d.put R.PWR_TEMP_TEMP 0 110) rfl

/-- The code that a request for a power profile is answered with (R48, R572). -/
def Die.profileCode (fu : Fused) (p : Nat) (d : Die) : Nat :=
  if (d.get R.DEV_TIMING_STATUS_MODE == 1 && fu.lockedRefuse p (d.get R.DEV_TIMING_STATUS_POINT) != 0)
      || (match d.timingPending with | some (m, pt) => fu.timingRefuse p m pt != 0 | none => false) then 2
  else if d.freeFloors.any (fun f => decide (fu.profileMHz p < f)) then 3
  else if p = 2 ∧ ((span 32 64).any (fun l => d.on R.LNK_CONTROL_ENABLE l) ∨ (span 8 16).any (fun t => d.on R.ETH_CONTROL_ENABLE t)) then 4
  else if d.profilePending.isSome ∨ d.statePending.isSome then 5
  else 1

/-- A write of PWR_PROFILE with APPLY is answered with its code (R590). -/
theorem pwrProfileW_answers (fu : Fused) (n : Nat) (d : Die) (h31 : bit n 31 = true) (hp : bits n 0 2 ≤ 2) (e : Die) (he : pwrProfileW fu n d = e) :
    e.get R.PWR_STATUS_PROFILE_RESULT = d.profileCode fu (bits n 0 2) ∧ e.get R.PWR_STATUS_PROFILE = d.get R.PWR_STATUS_PROFILE
    ∧ e.profilePending = (if d.profileCode fu (bits n 0 2) = 1 then some (bits n 0 2) else d.profilePending)
    ∧ (d.profileCode fu (bits n 0 2) = 1 → e.on R.PWR_STATUS_BUSY = true) := by
  have hlt : d.profileCode fu (bits n 0 2) < 16 := by
    unfold Die.profileCode
    split_ifs <;> decide
  have hother (f : Fld) (j : Nat) (h : f.key j / 32 ≠ 0x32010) : (d.setFields .PWR 0 0x010 n).get f j = d.get f j := Die.get_setFields_other _ _ _ _ _ _ _ h
  have hp' : (d.setFields .PWR 0 0x010 n).get R.PWR_PROFILE_PROFILE = bits n 0 2 := by
    refine (d.get_setFields_rw .PWR 0 0x010 n ⟨R.PWR_PROFILE_PROFILE, fun v => v ≤ 2⟩ (by simp [fieldsAt, Block.regs, regsPWR]) rfl).trans (if_pos ?_)
    exact decide_eq_true hp
  obtain ⟨r, hr⟩ : ∃ r, d.setFields .PWR 0 0x010 n = { d with regs := r } := ⟨_, d.setFields_regs .PWR 0 0x010 n⟩
  rw [hr] at hother hp'
  have hcode : Die.profileCode fu (bits n 0 2) { d with regs := r } = d.profileCode fu (bits n 0 2) := by
    have hlanes (l : Nat) : ({ d with regs := r } : Die).on R.LNK_CONTROL_ENABLE l = d.on R.LNK_CONTROL_ENABLE l :=
      congrArg (· == 1) (hother R.LNK_CONTROL_ENABLE l (by simp only [Fld.key, R.LNK_CONTROL_ENABLE]; omega))
    have hports (t : Nat) : ({ d with regs := r } : Die).on R.ETH_CONTROL_ENABLE t = d.on R.ETH_CONTROL_ENABLE t :=
      congrArg (· == 1) (hother R.ETH_CONTROL_ENABLE t (by simp only [Fld.key, R.ETH_CONTROL_ENABLE]; omega))
    unfold Die.profileCode
    rw [hother R.DEV_TIMING_STATUS_MODE 0 (by decide), hother R.DEV_TIMING_STATUS_POINT 0 (by decide)]
    simp only [hlanes, hports]
    rfl
  have happly : e = (if d.profileCode fu (bits n 0 2) = 1 then
      { (Die.put R.PWR_STATUS_PROFILE_RESULT 0 (d.profileCode fu (bits n 0 2)) { d with regs := r }).flag R.PWR_STATUS_BUSY 0 true with profilePending := some (bits n 0 2) }
      else Die.put R.PWR_STATUS_PROFILE_RESULT 0 (d.profileCode fu (bits n 0 2)) { d with regs := r }) := by
    rw [← he, pwrProfileW]
    dsimp only
    rw [hr, h31, if_pos rfl, ← hcode]
    unfold Die.profileApply
    rw [hp']
    rfl
  have hresult : (Die.put R.PWR_STATUS_PROFILE_RESULT 0 (d.profileCode fu (bits n 0 2)) { d with regs := r }).get R.PWR_STATUS_PROFILE_RESULT
      = d.profileCode fu (bits n 0 2) := (Die.get_put_same _ _ _ _).trans (Nat.mod_eq_of_lt hlt)
  have hprofile : (Die.put R.PWR_STATUS_PROFILE_RESULT 0 (d.profileCode fu (bits n 0 2)) { d with regs := r }).get R.PWR_STATUS_PROFILE = d.get R.PWR_STATUS_PROFILE :=
    (Die.get_put_apart _ _ _ _ _ (by decide)).trans (hother R.PWR_STATUS_PROFILE 0 (by decide))
  by_cases h1 : d.profileCode fu (bits n 0 2) = 1
  · rw [if_pos h1] at happly ⊢
    subst happly
    exact ⟨(Die.get_put_apart _ R.PWR_STATUS_BUSY R.PWR_STATUS_PROFILE_RESULT 0 1 (by decide)).trans hresult,
      (Die.get_put_apart _ R.PWR_STATUS_BUSY R.PWR_STATUS_PROFILE 0 1 (by decide)).trans hprofile, rfl, fun _ => Die.on_flag_same R.PWR_STATUS_BUSY 0 true _ rfl⟩
  · rw [if_neg h1] at happly ⊢
    subst happly
    exact ⟨hresult, hprofile, rfl, fun h => absurd h h1⟩

/-- A profile that has settled (R572). -/
theorem Die.profileDone_settles (p : Nat) (d : Die) (h : d.profilePending = some p) : d.profileDone.get R.PWR_STATUS_PROFILE = p % 4
    ∧ d.profileDone.profilePending = none ∧ (d.statePending = none → d.profileDone.on R.PWR_STATUS_BUSY = false) := by
  unfold Die.profileDone
  rw [h]
  refine ⟨(Die.get_put_apart _ _ _ _ _ (by decide)).trans (Die.get_put_same _ _ _ _), rfl, fun hs => ?_⟩
  rw [hs]
  exact Die.on_flag_same R.PWR_STATUS_BUSY 0 false (d.put R.PWR_STATUS_PROFILE 0 p) rfl

/-- The result that a request for a power state is refused with, none where it begins (R579). -/
def Die.stateCode (c : Cellar) (t : Nat) (d : Die) : Nat :=
  if 2 ≤ t ∧ 2 ≤ d.role then 2
  else if d.profilePending.isSome || d.statePending.isSome || d.workGoing then 3
  else if t = 3 ∧ d.auditedIn = true ∧ c.auditEmpty = false then 4
  else 1

theorem Die.stateGo_code (c : Cellar) (d : Die) : d.stateGo c = if d.stateCode c (d.get R.PWR_STATE_REQUEST) = 1 then d.beginState (d.get R.PWR_STATE_REQUEST)
    else d.put R.PWR_STATUS_STATE_RESULT 0 (d.stateCode c (d.get R.PWR_STATE_REQUEST)) := by
  unfold Die.stateGo Die.stateCode
  generalize d.get R.PWR_STATE_REQUEST = t
  dsimp only
  by_cases h2 : 2 ≤ t ∧ 2 ≤ d.role
  · rw [if_pos h2, if_pos h2, if_neg (by decide)]
  · rw [if_neg h2, if_neg h2]
    by_cases h3 : (d.profilePending.isSome || d.statePending.isSome || d.workGoing) = true
    · rw [if_pos h3, if_pos h3, if_neg (by decide)]
    · rw [if_neg h3, if_neg h3]
      by_cases h4 : t = 3 ∧ d.auditedIn = true ∧ c.auditEmpty = false
      · rw [if_pos h4, if_pos h4, if_neg (by decide)]
      · rw [if_neg h4, if_neg h4, if_pos rfl]

/-- A write of PWR_STATE with GO (R590). -/
theorem pwrStateW_answers (c : Cellar) (n : Nat) (d : Die) (h31 : bit n 31 = true) : ∃ r, d.setFields .PWR 0 0x018 n = { d with regs := r }
    ∧ (∀ (f : Fld) (j : Nat), f.key j / 32 ≠ 0x32018 → ({ d with regs := r } : Die).get f j = d.get f j)
    ∧ pwrStateW c n d = if d.stateCode c (bits n 0 2) = 1 then Die.beginState (bits n 0 2) { d with regs := r }
        else Die.put R.PWR_STATUS_STATE_RESULT 0 (d.stateCode c (bits n 0 2)) { d with regs := r } := by
  have hother (f : Fld) (j : Nat) (h : f.key j / 32 ≠ 0x32018) : (d.setFields .PWR 0 0x018 n).get f j = d.get f j := Die.get_setFields_other _ _ _ _ _ _ _ h
  have ht : (d.setFields .PWR 0 0x018 n).get R.PWR_STATE_REQUEST = bits n 0 2 :=
    (d.get_setFields_rw .PWR 0 0x018 n ⟨R.PWR_STATE_REQUEST, any⟩ (by simp [fieldsAt, Block.regs, regsPWR]) rfl).trans (if_pos rfl)
  obtain ⟨r, hr⟩ : ∃ r, d.setFields .PWR 0 0x018 n = { d with regs := r } := ⟨_, d.setFields_regs .PWR 0 0x018 n⟩
  rw [hr] at hother ht
  refine ⟨r, hr, hother, ?_⟩
  have hcode : Die.stateCode c (bits n 0 2) { d with regs := r } = d.stateCode c (bits n 0 2) := by
    have hbusy (p : Nat) : ({ d with regs := r } : Die).on R.PAS_ADMIT_STATUS_BUSY p = d.on R.PAS_ADMIT_STATUS_BUSY p :=
      congrArg (· == 1) (hother R.PAS_ADMIT_STATUS_BUSY p (by simp only [Fld.key, R.PAS_ADMIT_STATUS_BUSY]; omega))
    have hrole : ({ d with regs := r } : Die).role = d.role := hother R.FLK_ROLE_ROLE 0 (by decide)
    unfold Die.stateCode Die.workGoing
    simp only [hbusy, hrole]
    rfl
  rw [pwrStateW, hr, h31, if_pos rfl, ← hcode]
  rw [Die.stateGo_code, ht]

/-- Counts of many occurrences are a report. -/
theorem Die.report_counts {α : Type} (t : Tal) (ix : α → Nat) (l : List α) (d : Die) : d.report (l.foldl (fun d x => d.count t (ix x)) d) := by
  induction l generalizing d with
  | nil => exact d.report_refl
  | cons x l ih => exact (d.report_count t (ix x)).trans (ih _)

/-- Where every queued launch is discarded, frames on the line stay, one to a queue (R580). -/
theorem State.discardLaunches_all (t : Tal) (s : State) (ix : LaunchEnt → Nat) : (State.discardLaunches (fun _ => true) t s ix).kill = s.kill
    ∧ (∀ q ∈ (State.discardLaunches (fun _ => true) t s ix).die.launch, s.die.onLine q.1 = true ∧ q.2.length = 1)
    ∧ (State.discardLaunches (fun _ => true) t s ix).die.tiles = s.die.tiles ∧ (State.discardLaunches (fun _ => true) t s ix).die.rows = s.die.rows := by
  refine ⟨rfl, fun q hq => ?_, ?_, ?_⟩
  · unfold State.discardLaunches at hq
    dsimp only at hq
    rw [(congrArg Die.launch (Die.report_counts t ix _ _).1 :)] at hq
    dsimp only at hq
    obtain ⟨hq, hne⟩ := List.mem_filter.1 hq
    obtain ⟨y, -, rfl⟩ := List.mem_map.1 hq
    dsimp only at hne ⊢
    simp only [Bool.not_true, List.filter_false, List.append_nil] at hne ⊢
    by_cases hon : s.die.onLine y.1 = true
    · rw [if_pos hon] at hne ⊢
      refine ⟨hon, ?_⟩
      cases hy : y.2 with
      | nil => rw [hy] at hne; simp at hne
      | cons a l => rfl
    · rw [if_neg hon] at hne
      simp at hne
  · unfold State.discardLaunches
    exact (congrArg Die.tiles (Die.report_counts t ix _ _).1).trans rfl
  · unfold State.discardLaunches
    exact (congrArg Die.rows (Die.report_counts t ix _ _).1).trans rfl

/-- A transition that is over (R579). -/
theorem Die.stateDone_ends (d : Die) : d.stateDone.get R.PWR_STATUS_STATE_RESULT = 1 ∧ d.stateDone.statePending = none ∧ d.stateDone.up = d.up
    ∧ ∀ (f : Fld) (i : Nat), reportWord (f.key i / 32) = false → f.key i ≠ R.PWR_STATUS_STATE_RESULT.key 0 → f.key i ≠ R.PWR_STATUS_BUSY.key 0 →
      d.stateDone.get f i = d.get f i := by
  have hrep := Die.report_count T.PWR_STATE_CHANGES 0 { (d.put R.PWR_STATUS_STATE_RESULT 0 1).flag R.PWR_STATUS_BUSY 0 false with statePending := none }
  refine ⟨?_, (congrArg Die.statePending hrep.1).trans rfl, (congrArg Die.up hrep.1).trans rfl, fun f i hf hr hb => ?_⟩
  · refine (hrep.2 _ _ rfl).trans ?_
    exact (Die.get_put_apart (d.put R.PWR_STATUS_STATE_RESULT 0 1) R.PWR_STATUS_BUSY R.PWR_STATUS_STATE_RESULT 0 0 (by decide)).trans (Die.get_put_same _ _ _ _)
  · refine (hrep.2 _ _ hf).trans ?_
    exact (Die.get_put_other (d.put R.PWR_STATUS_STATE_RESULT 0 1) R.PWR_STATUS_BUSY f 0 i 0 hb).trans (Die.get_put_other d R.PWR_STATUS_STATE_RESULT f 0 i 1 hr)

/-- The state that a request reaches without a stop (R564, R565, R579). -/
theorem Die.stateReached_reaches (d : Die) (t : Nat) (ht : d.statePending = some t) (h : t = d.get R.PWR_STATUS_STATE ∨ (t ≤ 1 ∧ d.get R.PWR_STATUS_STATE ≤ 2)) :
    d.stateReached.get R.PWR_STATUS_STATE = t ∧ d.stateReached.get R.PWR_STATUS_STATE_RESULT = 1
    ∨ t ≠ d.get R.PWR_STATUS_STATE ∧ d.get R.PWR_STATUS_STATE = 2 ∧ t = 1 ∧ d.stateReached.get R.PWR_STATUS_STATE = 0 ∧ d.stateReached.statePending = some 1 := by
  have hdone (e : Die) (v : Nat) (hv : e.get R.PWR_STATUS_STATE = v) : e.stateDone.get R.PWR_STATUS_STATE = v ∧ e.stateDone.get R.PWR_STATUS_STATE_RESULT = 1 :=
    ⟨(e.stateDone_ends.2.2.2 R.PWR_STATUS_STATE 0 rfl (by decide) (by decide)).trans hv, e.stateDone_ends.1⟩
  have hpacket (a b : Nat) (x y : Bool) (e : Die) : (e.powerPacket a b x y).get R.PWR_STATUS_STATE = e.get R.PWR_STATUS_STATE :=
    (Die.traced_powerPacket a b x y e).1.2 _ _ rfl
  have hput (v : Nat) (hv : v < 4) (e : Die) : (e.put R.PWR_STATUS_STATE 0 v).get R.PWR_STATUS_STATE = v := (Die.get_put_same _ _ _ _).trans (Nat.mod_eq_of_lt hv)
  unfold Die.stateReached Die.pstate
  rw [ht]
  dsimp only
  generalize hcur : d.get R.PWR_STATUS_STATE = cur at h ⊢
  by_cases hsame : t = cur
  · rw [if_pos hsame]
    exact .inl (hdone d t (hcur.trans hsame.symm))
  · obtain ⟨ht1, hle⟩ := h.resolve_left hsame
    rw [if_neg hsame, if_neg (show cur ≠ 3 by omega), if_neg (show t ≠ 3 by omega)]
    by_cases h2 : cur = 2
    · rw [if_pos h2]
      have hnap : d.leaveNap.get R.PWR_STATUS_STATE = 0 := (hpacket _ _ _ _ _).trans (hput 0 (by decide) d)
      by_cases h0 : t = 0
      · rw [if_pos h0]
        exact .inl (hdone _ _ (hnap.trans h0.symm))
      · have h1 : t = 1 := by omega
        subst h1
        rw [if_neg h0]
        refine .inr ⟨hsame, h2, rfl, ?_, (Die.beginState_pending 1 _).1⟩
        rw [Die.get_beginState _ _ _ _ rfl (by decide), (Die.report_count T.PWR_STATE_CHANGES 0 _).2 _ _ rfl]
        exact hnap
    · rw [if_neg h2, if_neg (show t ≠ 2 by omega)]
      by_cases h0 : t = 0
      · rw [if_pos h0]
        exact .inl (hdone _ _ ((hpacket _ _ _ _ _).trans ((hput 0 (by decide) d).trans h0.symm)))
      · rw [if_neg h0]
        exact .inl (hdone _ _ (hput t (by omega) d))

/-- What a start leaves once it has set it: the page locks and PWR_STATUS, and the state of the transition. -/
def Die.bootKept (d e : Die) : Prop :=
  (∀ (f : Fld) (i : Nat), (f.key i / 32 % 0x1000 = 0xF00 ∧ f.key i % 32 = 0) ∨ f.key i / 32 = 0x32800 → e.get f i = d.get f i) ∧ e.up = d.up

theorem Die.bootKept_refl (d : Die) : d.bootKept d := ⟨fun _ _ _ => rfl, rfl⟩

theorem Die.bootKept.trans {a b c : Die} (h : a.bootKept b) (k : b.bootKept c) : a.bootKept c :=
  ⟨fun f i hf => (k.1 f i hf).trans (h.1 f i hf), k.2.trans h.2⟩

theorem Die.bootKept_ite {c : Prop} [Decidable c] {d e f : Die} (h : d.bootKept e) (k : d.bootKept f) : d.bootKept (if c then e else f) := by
  split <;> assumption

theorem Die.bootKept_of (d e : Die) (hr : e.regs = d.regs) (hu : e.up = d.up) : d.bootKept e := ⟨fun _ _ _ => Die.get_congr _ _ hr _ _, hu⟩

theorem reportWord_boot {a : Nat} (h : a % 0x1000 = 0xF00 ∨ a = 0x32800) : reportWord a = false := by
  simp only [reportWord, Bool.or_eq_false_iff, Bool.and_eq_false_iff, beq_eq_false_iff_ne, decide_eq_false_iff_not]
  omega

theorem Die.report.bootKept {d e : Die} (h : d.report e) : d.bootKept e :=
  ⟨fun f i hf => h.2 f i (reportWord_boot (hf.imp_left And.left)), (congrArg Die.up h.1).trans rfl⟩

theorem Die.bootKept_put (d : Die) (f : Fld) (i v : Nat) (h : f.key i / 32 % 0x1000 ≠ 0xF00 ∧ f.key i / 32 ≠ 0x32800) : d.bootKept (d.put f i v) :=
  ⟨fun g j hg => Die.get_put_other _ _ _ _ _ _ fun hk => by rw [hk] at hg; exact hg.elim (fun x => h.1 x.1) h.2, rfl⟩

theorem Die.bootKept_foldl {α : Type} (g : Die → α → Die) (h : ∀ (d : Die) x, d.bootKept (g d x)) (l : List α) (d : Die) : d.bootKept (l.foldl g d) := by
  induction l generalizing d with
  | nil => exact d.bootKept_refl
  | cons x l ih => exact (h d x).trans (ih _)

theorem Die.bootKept_enterHoldover (d : Die) : d.bootKept d.enterHoldover := by
  unfold Die.enterHoldover
  exact Die.bootKept_ite (((d.bootKept_put _ _ _ (by decide)).trans (Die.report_count _ _ _).bootKept).trans (Die.bootKept_of _ _ rfl rfl)) d.bootKept_refl

theorem Die.bootKept_refLoss (d : Die) : d.bootKept d.refLoss := by
  have hstop : d.bootKept { d with pullIn := false } := Die.bootKept_of _ _ rfl rfl
  unfold Die.refLoss
  refine Die.bootKept_ite ?_ hstop
  exact hstop.trans ((((Die.bootKept_put _ R.DEV_TIMING_STATUS_PLL_LOCK 0 0 (by decide)).trans (Die.bootKept_put _ R.DEV_TIMING_STATUS_REF_LOST 0 1 (by decide))).trans
    (Die.bootKept_put _ R.DEV_TIMING_STATUS_HOLDOVER 0 1 (by decide))).trans (Die.report_alarm 9 (by decide) _).bootKept)

theorem Die.bootKept_refBack (d : Die) : d.bootKept d.refBack := by
  unfold Die.refBack
  exact Die.bootKept_ite d.bootKept_refl (Die.bootKept_of _ _ rfl rfl)

theorem Die.bootKept_laneTo (l st cause : Nat) (d : Die) : d.bootKept (d.laneTo l st cause) := by
  have hpacket : d.bootKept ((d.put R.LNK_STATUS_STATE l st).linkPacket l (d.laneState l) st cause) :=
    (d.bootKept_put _ _ _ (by simp only [Fld.key, R.LNK_STATUS_STATE]; omega)).trans (Die.report_trace _ (fun q hq => by cases hq) _).bootKept
  unfold Die.laneTo
  dsimp only
  refine Die.bootKept_ite d.bootKept_refl ?_
  generalize (d.put R.LNK_STATUS_STATE l st).linkPacket l (d.laneState l) st cause = x at hpacket
  refine hpacket.trans ?_
  have hchosen : x.bootKept (if d.laneState l = 4 then x.unchoose 2 l else x) := Die.bootKept_ite (Die.bootKept_of _ _ rfl rfl) x.bootKept_refl
  generalize (if d.laneState l = 4 then x.unchoose 2 l else x) = y at hchosen
  refine hchosen.trans ?_
  have hincident : y.bootKept (if d.laneState l = 4 ∧ y.flockLane l then y.incident 10 4 l l else y) :=
    Die.bootKept_ite (y.report_incident 10 4 l l).bootKept y.bootKept_refl
  generalize (if d.laneState l = 4 ∧ y.flockLane l then y.incident 10 4 l l else y) = z at hincident
  refine hincident.trans ?_
  exact Die.bootKept_ite ((Die.bootKept_ite z.bootKept_refLoss z.bootKept_refl).trans (Die.bootKept_enterHoldover _))
    (Die.bootKept_ite z.bootKept_refBack z.bootKept_refl)

theorem Die.bootKept_raiseLinks (d : Die) : d.bootKept d.raiseLinks :=
  Die.bootKept_foldl _ (fun d l => Die.bootKept_ite (d.bootKept_laneTo l 1 6) d.bootKept_refl) _ d

theorem Die.bootKept_pllStart (fromZero : Bool) (d : Die) : d.bootKept (d.pllStart fromZero) := by
  unfold Die.pllStart
  refine Die.bootKept_ite (((d.bootKept_put R.DEV_TIMING_STATUS_PLL_LOCK 0 1 (by decide)).trans
    (Die.bootKept_put _ R.DEV_TIMING_STATUS_HOLDOVER 0 0 (by decide))).trans (Die.bootKept_of _ _ rfl rfl)) d.bootKept_refl

theorem Die.bootKept_startMode (d : Die) : d.bootKept d.startMode := by
  have hfree (c : Nat) : d.bootKept ((d.put R.DEV_TIMING_STATUS_MODE 0 0).put R.DEV_TIMING_STATUS_REFUSE 0 c) :=
    (d.bootKept_put _ _ _ (by decide)).trans (Die.bootKept_put _ _ _ _ (by decide))
  unfold Die.startMode
  exact Die.bootKept_ite (hfree 3) (Die.bootKept_ite (((d.bootKept_put _ _ _ (by decide)).trans (Die.bootKept_put _ _ _ _ (by decide))).trans
    (Die.bootKept_put _ _ _ _ (by decide))) (hfree 4))

/-- At the end of a start masters reach the registers (R484, R584). -/
theorem Die.awake_up (d : Die) : d.awake.up = true ∧ ∀ (f : Fld) (i : Nat), f.key i / 32 % 0x1000 = 0xF00 ∧ f.key i % 32 = 0 ∨ f.key i / 32 = 0x32800 →
    d.awake.get f i = d.get f i := by
  have h : d.bootKept ((d.newNonce.debugReset.flag R.OWN_STATUS_HELD 0 false).put R.OWN_STATUS_HOLDER 0 0).cancelHandover.aliveStart.openElection := by
    have hnonce : d.bootKept d.newNonce := Die.bootKept_of _ _ rfl rfl
    have hrequest : d.bootKept d.newNonce.debugReset := hnonce.trans (Die.bootKept_put _ R.OWN_DEBUG_REQUEST 0 _ (by decide))
    have hcrook := (hrequest.trans (Die.bootKept_put _ R.OWN_STATUS_HELD 0 0 (by decide))).trans (Die.bootKept_put _ R.OWN_STATUS_HOLDER 0 0 (by decide))
    have hhand := hcrook.trans (((Die.bootKept_put _ R.OWN_STATUS_PENDING 0 0 (by decide)).trans (Die.bootKept_put _ R.OWN_STATUS_TARGET 0 0 (by decide))).trans
      (Die.bootKept_of _ (Die.cancelHandover _) rfl rfl))
    have halive (x : Die) : x.bootKept x.aliveStart := by
      unfold Die.aliveStart
      exact Die.bootKept_ite x.bootKept_refl (Die.bootKept_of _ _ rfl rfl)
    have helect (x : Die) : x.bootKept x.openElection :=
      ((x.bootKept_put R.OWN_STATUS_ELECTION 0 1 (by decide)).trans (Die.report_count T.OWN_ELECTIONS 0 _).bootKept).trans (Die.bootKept_of _ _ rfl rfl)
    exact (hhand.trans (halive _)).trans (helect _)
  exact ⟨rfl, h.1⟩

/-- The page locks are open after an exit from Standby (R604). -/
theorem Die.get_unlockAll (d : Die) (f : Fld) (i : Nat) : d.unlockAll.get f i = if f.key i / 32 % 0x1000 = 0xF00 ∧ f.key i % 32 = 0 then f.reset else d.get f i := by
  unfold Die.unlockAll Die.get
  rw [KMap.get_keep]
  by_cases h : f.key i / 32 % 0x1000 = 0xF00 ∧ f.key i % 32 = 0
  · rw [if_pos h, if_neg (by simp [h.1, h.2])]
  · rw [if_neg h, if_pos (by simpa [imp_iff_not_or] using h)]

theorem Die.leaveStandby_leaves (d : Die) : d.leaveStandby.up = true ∧ d.leaveStandby.get R.PWR_STATUS_STATE = 0
    ∧ d.leaveStandby.get R.PWR_STATUS_LAST_RESET = (if d.tripped then 5 else 4) ∧ ∀ base, base % 0x1000 = 0 → d.leaveStandby.get (pageLock base) = 0 := by
  have hv : (if d.tripped then 5 else 4) < 8 := by split <;> decide
  unfold Die.leaveStandby
  dsimp only
  generalize (if d.tripped then 5 else 4) = v at hv ⊢
  have hstart : Die.bootKept { ((d.put R.PWR_STATUS_STATE 0 0).put R.PWR_STATUS_LAST_RESET 0 v).unlockAll with tripped := false }
      ((Die.pllStart false { ((d.put R.PWR_STATUS_STATE 0 0).put R.PWR_STATUS_LAST_RESET 0 v).unlockAll with tripped := false }).startMode) :=
    (Die.bootKept_pllStart _ _).trans (Die.bootKept_startMode _)
  generalize (Die.pllStart false { ((d.put R.PWR_STATUS_STATE 0 0).put R.PWR_STATUS_LAST_RESET 0 v).unlockAll with tripped := false }).startMode = x at hstart
  have hend : x.awake.bootKept ((x.awake.powerPacket 3 0 true true).raiseLinks) :=
    (Die.traced_powerPacket 3 0 true true x.awake).1.bootKept.trans (Die.bootKept_raiseLinks _)
  obtain ⟨hup, hawake⟩ := x.awake_up
  have hget (f : Fld) (i : Nat) (hf : (f.key i / 32 % 0x1000 = 0xF00 ∧ f.key i % 32 = 0) ∨ f.key i / 32 = 0x32800) :
      ((x.awake.powerPacket 3 0 true true).raiseLinks).get f i = ((d.put R.PWR_STATUS_STATE 0 0).put R.PWR_STATUS_LAST_RESET 0 v).unlockAll.get f i :=
    (hend.1 f i hf).trans ((hawake f i hf).trans (hstart.1 f i hf))
  refine ⟨hend.2.trans hup, ?_, ?_, fun base hbase => ?_⟩
  · rw [hget _ _ (.inr (by decide)), Die.get_unlockAll, if_neg (by decide), Die.get_put_apart _ _ _ _ _ (by decide), Die.get_put_same]
    rfl
  · rw [hget _ _ (.inr (by decide)), Die.get_unlockAll, if_neg (by decide), Die.get_put_same]
    exact Nat.mod_eq_of_lt hv
  · have hlock : (pageLock base).key 0 / 32 % 0x1000 = 0xF00 ∧ (pageLock base).key 0 % 32 = 0 := by
      simp only [Fld.key, pageLock]
      omega
    rw [hget _ _ (.inl hlock), Die.get_unlockAll, if_pos hlock]
    rfl

/-- `e` is `d` but for its registers. -/
def Die.regsOnly (d e : Die) : Prop := e = { d with regs := e.regs }

theorem Die.regsOnly.trans {a b c : Die} (h : a.regsOnly b) (k : b.regsOnly c) : a.regsOnly c := by
  unfold Die.regsOnly at *
  rw [h] at k
  exact k

theorem Die.regsOnly_foldl {α : Type} (g : Die → α → Die) (h : ∀ (d : Die) x, d.regsOnly (g d x)) (l : List α) (d : Die) : d.regsOnly (l.foldl g d) := by
  induction l generalizing d with
  | nil => exact rfl
  | cons x l ih => exact (h d x).trans (ih _)

/-- PCI_STATUS.LINK_UP and PWR_STATUS stand. -/
def Die.linkKept (d e : Die) : Prop := e.get R.PCI_STATUS_LINK_UP = d.get R.PCI_STATUS_LINK_UP ∧ e.otp = d.otp ∧ e.aliveOn = d.aliveOn

theorem Die.linkKept.trans {a b c : Die} (h : a.linkKept b) (k : b.linkKept c) : a.linkKept c := ⟨k.1.trans h.1, k.2.1.trans h.2.1, k.2.2.trans h.2.2⟩

theorem Die.linkKept_refl (d : Die) : d.linkKept d := ⟨rfl, rfl, rfl⟩

theorem Die.linkKept_foldl {α : Type} (g : Die → α → Die) (h : ∀ (d : Die) x, d.linkKept (g d x)) (l : List α) (d : Die) : d.linkKept (l.foldl g d) := by
  induction l generalizing d with
  | nil => exact d.linkKept_refl
  | cons x l ih => exact (h d x).trans (ih _)

theorem Die.linkKept_put (d : Die) (f : Fld) (i v : Nat) (h : f.key i ≠ R.PCI_STATUS_LINK_UP.key 0) : d.linkKept (d.put f i v) :=
  ⟨Die.get_put_other _ _ _ _ _ _ h.symm, rfl, rfl⟩

theorem Die.rechecked.linkKept {d e : Die} (h : d.rechecked e) : d.linkKept e :=
  ⟨h.2 _ _ rfl (by decide) (by decide), (congrArg Die.otp h.1).trans rfl, (congrArg Die.aliveOn h.1).trans rfl⟩

theorem Die.linkKept_clearLarder (p : Nat) (d : Die) : d.linkKept (d.clearLarder p) := by
  refine ⟨?_, rfl, rfl⟩
  have hkey (f : Fld) (h : f.base = 0x340000) : R.PCI_STATUS_LINK_UP.key 0 ≠ f.key p := by
    simp only [Fld.key, R.PCI_STATUS_LINK_UP, h]
    omega
  unfold Die.clearLarder
  dsimp only
  rw [Die.get_put_other _ _ _ _ _ _ (hkey _ rfl), Die.get_put_other _ _ _ _ _ _ (hkey _ rfl), Die.get_put_other _ _ _ _ _ _ (hkey _ rfl),
    Die.get_put_other _ _ _ _ _ _ (hkey _ rfl)]
  rfl

theorem Die.linkKept_emits (l : List (Nat × TrigPin)) (d : Die) : d.linkKept (l.foldl (fun d x => d.emit (.trig x.1 false)) d) :=
  Die.linkKept_foldl (fun d x => d.emit (.trig x.1 false)) (fun _ _ => ⟨rfl, rfl, rfl⟩) l d

theorem Die.linkKept_pinsLow (d : Die) : d.linkKept d.pinsLow := by
  unfold Die.pinsLow
  exact Die.linkKept.trans ⟨rfl, rfl, rfl⟩ (Die.linkKept_emits _ _)

theorem Die.linkKept_wipe (d : Die) : d.linkKept d.wipe := by
  have h := Die.linkKept_foldl (fun d p => d.clearLarder p) (fun d p => d.linkKept_clearLarder p) pastures d
  unfold Die.wipe
  generalize pastures.foldl (fun d p => d.clearLarder p) d = x at h ⊢
  exact h.trans ⟨rfl, rfl, rfl⟩

theorem Die.wipe_leaves (d : Die) : d.wipe.tiles = [] ∧ d.wipe.rows = [] ∧ d.wipe.dir = [] ∧ d.wipe.upd = [] := by
  unfold Die.wipe
  generalize pastures.foldl (fun d p => d.clearLarder p) d = x
  exact ⟨rfl, rfl, rfl, rfl⟩

/-- The host link is down after its loss (R583). -/
theorem Die.pcieDown_down (d : Die) : d.pcieDown.on R.PCI_STATUS_LINK_UP = false := by
  unfold Die.pcieDown
  split
  · rw [Die.on, (Die.rechecked_recheck _).2 _ _ rfl (by decide) (by decide), (Die.report_count T.PCI_PCIE_DOWN 0 _).2 _ _ rfl,
      Die.get_put_apart _ _ _ _ _ (by decide), Die.get_put_apart _ _ _ _ _ (by decide)]
    exact Die.on_flag_same R.PCI_STATUS_LINK_UP 0 false d rfl
  · next h => rwa [Bool.not_eq_true] at h

/-- The parts of the entry to Standby (R581): the Loft's lanes, the links, ALIVE and the pins; -/
def Die.standbyIdle (d : Die) : Die :=
  Die.pinsLow (Die.aliveStop (Die.pcieDown (Die.idleLinks { d.countBy T.LFT_TRACE_DROP 0 d.loft.laneQ.length with loft := { d.loft with laneQ := [] } })))

/-- the images' memories and the queues; -/
def Die.standbyWipe (d : Die) : Die :=
  { d.wipe with feeds := [], looked := [], entries := [], parsers := [], steer := [], launch := [], ports := [], trigIn := []
                shd := [], staged := [], txts := [], stopped := [], napOpen := [], fcRun := false, pullIn := false, timingPending := none
                flk := {} }

/-- and the registers. -/
def Die.standbyRegs (d : Die) : Die :=
  let d := (List.range 8).foldl (fun d e => d.put R.ENG_STATUS_RETIRE_RESULT e 3) d
  let d := (List.range 8).foldl (fun d e => [R.SHD_STATUS_OBSERVED, R.SHD_CONTROL_OBSERVE, R.SHD_PACK_ID_VALUE, R.SHD_PACK_VERSION_VALUE,
    R.SHD_PASS_SLOTS_VALUE].foldl (fun d f => d.put f e 0) d) d
  let d := (d.flag R.DEV_TIMING_STATUS_PLL_LOCK 0 false).flag R.DEV_TIMING_STATUS_BUSY 0 false
  let d := (d.put R.FLK_STATUS_STATE 0 0).put R.FLK_STATUS_JOIN_RESULT 0 0
  let d := ((d.put R.LFT_STATUS_FF_STATE 0 1).put R.LFT_STATUS_CAUSE 0 0).flag R.LFT_STATUS_DUMP_BUSY 0 false
  ((d.put R.OWN_DEBUG_REQUEST 0 0).put R.PWR_STATUS_STATE 0 3).relockAll

theorem Die.enterStandby_eq (d : Die) : d.enterStandby = d.standbyIdle.standbyWipe.standbyRegs.recheck := rfl

theorem Die.aliveStop_stops (d : Die) : d.aliveStop.aliveOn = false ∧ d.aliveStop.otp = d.otp ∧ d.aliveStop.get R.PCI_STATUS_LINK_UP = d.get R.PCI_STATUS_LINK_UP :=
  ⟨rfl, rfl, rfl⟩

theorem Die.pcieDown_otp (d : Die) : d.pcieDown.otp = d.otp := by
  unfold Die.pcieDown
  split
  · simp
  · rfl

theorem Die.standbyIdle_leaves (d : Die) : d.standbyIdle.otp = d.otp ∧ d.standbyIdle.aliveOn = false ∧ d.standbyIdle.get R.PCI_STATUS_LINK_UP ≠ 1 := by
  have hcount : ({ d.countBy T.LFT_TRACE_DROP 0 d.loft.laneQ.length with loft := { d.loft with laneQ := [] } } : Die).otp = d.otp :=
    (congrArg Die.otp (d.report_countBy T.LFT_TRACE_DROP 0 d.loft.laneQ.length).1).trans rfl
  unfold Die.standbyIdle
  generalize ({ d.countBy T.LFT_TRACE_DROP 0 d.loft.laneQ.length with loft := { d.loft with laneQ := [] } } : Die) = x at hcount
  have hdown := x.idleLinks.pcieDown_down
  have hotp := (Die.pcieDown_otp x.idleLinks).trans ((Die.idleLinks_owned x).1.trans hcount)
  generalize x.idleLinks.pcieDown = y at hdown hotp
  obtain ⟨hlink, hfuse, halive⟩ := Die.linkKept_pinsLow y.aliveStop
  obtain ⟨hoff, hkept, hget⟩ := y.aliveStop_stops
  refine ⟨hfuse.trans (hkept.trans hotp), halive.trans hoff, ?_⟩
  rw [hlink, hget]
  exact beq_eq_false_iff_ne.1 hdown

theorem Die.regsOnly_put (d : Die) (f : Fld) (i v : Nat) : d.regsOnly (d.put f i v) := rfl

theorem Die.regsOnly_flag (d : Die) (f : Fld) (i : Nat) (b : Bool) : d.regsOnly (d.flag f i b) := rfl

theorem Die.regsOnly_relockAll (d : Die) : d.regsOnly d.relockAll := rfl

/-- The registers of the observed engines that Standby clears. -/
def Die.clearPacks (d : Die) (e : Nat) : Die :=
  [R.SHD_STATUS_OBSERVED, R.SHD_CONTROL_OBSERVE, R.SHD_PACK_ID_VALUE, R.SHD_PACK_VERSION_VALUE, R.SHD_PASS_SLOTS_VALUE].foldl (fun d f => d.put f e 0) d

theorem Die.clearPacks_kept (d : Die) (e : Nat) : d.regsOnly (d.clearPacks e) ∧ d.linkKept (d.clearPacks e) := by
  refine ⟨Die.regsOnly_foldl (fun d f => d.put f e 0) (fun d f => d.regsOnly_put f e 0) _ d, ?_⟩
  have hkey (f : Fld) (h : f.base = 0x180000) : f.key e ≠ R.PCI_STATUS_LINK_UP.key 0 := by
    simp only [Fld.key, R.PCI_STATUS_LINK_UP, h]
    omega
  unfold Die.clearPacks
  simp only [List.foldl_cons, List.foldl_nil]
  exact ((((d.linkKept_put _ _ _ (hkey _ rfl)).trans (Die.linkKept_put _ _ _ _ (hkey _ rfl))).trans (Die.linkKept_put _ _ _ _ (hkey _ rfl))).trans
    (Die.linkKept_put _ _ _ _ (hkey _ rfl))).trans (Die.linkKept_put _ _ _ _ (hkey _ rfl))

theorem Die.retireResults_kept (d : Die) : d.regsOnly ((List.range 8).foldl (fun d e => d.put R.ENG_STATUS_RETIRE_RESULT e 3) d)
    ∧ d.linkKept ((List.range 8).foldl (fun d e => d.put R.ENG_STATUS_RETIRE_RESULT e 3) d) :=
  ⟨Die.regsOnly_foldl (fun d e => d.put R.ENG_STATUS_RETIRE_RESULT e 3) (fun d e => d.regsOnly_put _ e 3) _ d,
    Die.linkKept_foldl (fun d e => d.put R.ENG_STATUS_RETIRE_RESULT e 3)
      (fun d e => d.linkKept_put _ _ _ (by simp only [Fld.key, R.ENG_STATUS_RETIRE_RESULT, R.PCI_STATUS_LINK_UP]; omega)) _ d⟩

/-- The last registers that Standby sets. -/
def Die.standbyStatus (d : Die) : Die :=
  let d := (d.flag R.DEV_TIMING_STATUS_PLL_LOCK 0 false).flag R.DEV_TIMING_STATUS_BUSY 0 false
  let d := (d.put R.FLK_STATUS_STATE 0 0).put R.FLK_STATUS_JOIN_RESULT 0 0
  let d := ((d.put R.LFT_STATUS_FF_STATE 0 1).put R.LFT_STATUS_CAUSE 0 0).flag R.LFT_STATUS_DUMP_BUSY 0 false
  ((d.put R.OWN_DEBUG_REQUEST 0 0).put R.PWR_STATUS_STATE 0 3).relockAll

theorem Die.standbyStatus_leaves (d : Die) : d.regsOnly d.standbyStatus ∧ d.standbyStatus.get R.PWR_STATUS_STATE = 3
    ∧ d.standbyStatus.get R.PCI_STATUS_LINK_UP = d.get R.PCI_STATUS_LINK_UP := by
  unfold Die.standbyStatus
  dsimp only
  refine ⟨?_, ?_, ?_⟩
  · exact (((((((((d.regsOnly_flag _ _ _).trans (Die.regsOnly_flag _ _ _ _)).trans (Die.regsOnly_put _ _ _ _)).trans (Die.regsOnly_put _ _ _ _)).trans
      (Die.regsOnly_put _ _ _ _)).trans (Die.regsOnly_put _ _ _ _)).trans (Die.regsOnly_flag _ _ _ _)).trans (Die.regsOnly_put _ _ _ _)).trans
      (Die.regsOnly_put _ _ _ _)).trans (Die.regsOnly_relockAll _)
  · rw [Die.get_relockAll _ _ _ (by decide)]
    exact Die.get_put_same _ _ _ _
  · rw [Die.get_relockAll _ _ _ (by decide)]
    simp (disch := decide) only [Die.flag, Die.get_put_apart]

theorem Die.standbyRegs_eq (d : Die) :
    d.standbyRegs = ((List.range 8).foldl Die.clearPacks ((List.range 8).foldl (fun d e => d.put R.ENG_STATUS_RETIRE_RESULT e 3) d)).standbyStatus := rfl

theorem Die.standbyRegs_leaves (d : Die) : d.regsOnly d.standbyRegs ∧ d.standbyRegs.get R.PWR_STATUS_STATE = 3
    ∧ d.standbyRegs.get R.PCI_STATUS_LINK_UP = d.get R.PCI_STATUS_LINK_UP := by
  rw [Die.standbyRegs_eq]
  obtain ⟨hr1, hk1⟩ := d.retireResults_kept
  generalize (List.range 8).foldl (fun d e => d.put R.ENG_STATUS_RETIRE_RESULT e 3) d = x at hr1 hk1
  have hr2 := hr1.trans (Die.regsOnly_foldl Die.clearPacks (fun d e => (d.clearPacks_kept e).1) (List.range 8) x)
  have hk2 := hk1.trans (Die.linkKept_foldl Die.clearPacks (fun d e => (d.clearPacks_kept e).2) (List.range 8) x)
  generalize (List.range 8).foldl Die.clearPacks x = y at hr2 hk2
  obtain ⟨hr, hstate, hlink⟩ := y.standbyStatus_leaves
  exact ⟨hr2.trans hr, hstate, hlink.trans hk2.1⟩

/-- The wipe leaves no image memory and no queue (R566, R581, R582). -/
theorem Die.standbyWipe_leaves (d : Die) : (d.standbyWipe.tiles = [] ∧ d.standbyWipe.rows = [] ∧ d.standbyWipe.dir = [] ∧ d.standbyWipe.upd = []
    ∧ d.standbyWipe.feeds = [] ∧ d.standbyWipe.launch = [] ∧ d.standbyWipe.steer = [] ∧ d.standbyWipe.fcRun = false) ∧ d.linkKept d.standbyWipe := by
  have hwipe := d.linkKept_wipe
  unfold Die.standbyWipe
  refine ⟨⟨?_, ?_, ?_, ?_, rfl, rfl, rfl, rfl⟩, ?_⟩
  · exact d.wipe_leaves.1
  · exact d.wipe_leaves.2.1
  · exact d.wipe_leaves.2.2.1
  · exact d.wipe_leaves.2.2.2
  · generalize d.wipe = x at hwipe
    exact hwipe.trans ⟨rfl, rfl, rfl⟩

/-- Standby takes the images' memories, the queues and the links from the compute die (R566, R578, R581, R582). -/
theorem Die.enterStandby_takes (d : Die) : d.enterStandby.get R.PWR_STATUS_STATE = 3 ∧ d.enterStandby.tiles = [] ∧ d.enterStandby.rows = []
    ∧ d.enterStandby.dir = [] ∧ d.enterStandby.upd = [] ∧ d.enterStandby.feeds = [] ∧ d.enterStandby.launch = [] ∧ d.enterStandby.steer = []
    ∧ d.enterStandby.fcRun = false ∧ d.enterStandby.aliveOn = false ∧ d.enterStandby.otp = d.otp ∧ d.enterStandby.on R.PCI_STATUS_LINK_UP = false := by
  rw [Die.enterStandby_eq]
  obtain ⟨hotp, halive, hlink⟩ := d.standbyIdle_leaves
  generalize d.standbyIdle = x at hotp halive hlink
  obtain ⟨⟨htiles, hrows, hdir, hupd, hfeeds, hlaunch, hsteer, hfc⟩, hpci, hfuse, hon⟩ := x.standbyWipe_leaves
  generalize x.standbyWipe = y at htiles hrows hdir hupd hfeeds hlaunch hsteer hfc hpci hfuse hon
  obtain ⟨hregs, hstate, hpci2⟩ := y.standbyRegs_leaves
  generalize y.standbyRegs = z at hregs hstate hpci2
  obtain ⟨hframe, hfget⟩ := z.rechecked_recheck
  have hkeep {α : Type} (proj : Die → α) (h1 : ∀ (d : Die) r, proj { d with regs := r } = proj d) (h2 : proj z.recheck = proj z) : proj z.recheck = proj y := by
    rw [h2, hregs, h1]
  refine ⟨(hfget _ _ rfl (by decide) (by decide)).trans hstate, ?_, ?_, ?_, ?_, ?_, ?_, ?_, ?_, ?_, ?_, ?_⟩
  · exact (hkeep Die.tiles (fun _ _ => rfl) ((congrArg Die.tiles hframe).trans rfl)).trans htiles
  · exact (hkeep Die.rows (fun _ _ => rfl) ((congrArg Die.rows hframe).trans rfl)).trans hrows
  · exact (hkeep Die.dir (fun _ _ => rfl) ((congrArg Die.dir hframe).trans rfl)).trans hdir
  · exact (hkeep Die.upd (fun _ _ => rfl) ((congrArg Die.upd hframe).trans rfl)).trans hupd
  · exact (hkeep Die.feeds (fun _ _ => rfl) ((congrArg Die.feeds hframe).trans rfl)).trans hfeeds
  · exact (hkeep Die.launch (fun _ _ => rfl) ((congrArg Die.launch hframe).trans rfl)).trans hlaunch
  · exact (hkeep Die.steer (fun _ _ => rfl) ((congrArg Die.steer hframe).trans rfl)).trans hsteer
  · exact (hkeep Die.fcRun (fun _ _ => rfl) ((congrArg Die.fcRun hframe).trans rfl)).trans hfc
  · exact (hkeep Die.aliveOn (fun _ _ => rfl) ((congrArg Die.aliveOn hframe).trans rfl)).trans (hon.trans halive)
  · exact (hkeep Die.otp (fun _ _ => rfl) ((congrArg Die.otp hframe).trans rfl)).trans (hfuse.trans hotp)
  · rw [Die.on, hfget _ _ rfl (by decide) (by decide), hpci2, hpci]
    exact beq_eq_false_iff_ne.2 hlink

@[simp] theorem State.discardLaunches_tb0 (sel : LaunchEnt → Bool) (t : Tal) (s : State) (ix : optParam (LaunchEnt → Nat) fun e => e.pasture) :
    (State.discardLaunches sel t s ix).cel.tb0 = s.cel.tb0 := rfl

theorem State.withdrawAll_tb0 (s : State) : s.withdrawAll.cel.tb0 = s.cel.tb0 := by
  unfold State.withdrawAll
  refine foldl_keeps (fun s : State => s.cel.tb0) _ (fun s p => ?_) _ _
  dsimp only
  split
  · split <;> simp
  · split <;> simp

theorem State.keepReserved_keeps (s : State) : s.keepReserved.die = s.die ∧ s.keepReserved.kill = s.kill ∧ s.keepReserved.cel.settings = s.cel.settings
    ∧ s.keepReserved.cel.tb0 = s.cel.tb0 := ⟨rfl, rfl, rfl, rfl⟩

/-- The codes of a profile request in the words of R48 and R572. -/
theorem Die.profileCode_cases (fu : Fused) (p : Nat) (d : Die) :
    let clash := ∃ f ∈ d.freeFloors, fu.profileMHz p < f
    let links := (∃ l, 32 ≤ l ∧ l < 64 ∧ d.on R.LNK_CONTROL_ENABLE l = true) ∨ (∃ t, 8 ≤ t ∧ t < 16 ∧ d.on R.ETH_CONTROL_ENABLE t = true)
    let locked := (d.get R.DEV_TIMING_STATUS_MODE = 1 ∧ fu.lockedRefuse p (d.get R.DEV_TIMING_STATUS_POINT) ≠ 0)
      ∨ ∃ m pt, d.timingPending = some (m, pt) ∧ fu.timingRefuse p m pt ≠ 0
    let going := d.profilePending ≠ none ∨ d.statePending ≠ none
    (locked → d.profileCode fu p = 2) ∧ (¬ locked → clash → d.profileCode fu p = 3) ∧ (¬ locked → ¬ clash → p = 2 → links → d.profileCode fu p = 4)
    ∧ (¬ locked → ¬ clash → ¬ (p = 2 ∧ links) → going → d.profileCode fu p = 5) ∧ (¬ locked → ¬ clash → ¬ (p = 2 ∧ links) → ¬ going → d.profileCode fu p = 1) := by
  intro clash links locked going
  have hlocked : ((d.get R.DEV_TIMING_STATUS_MODE == 1 && fu.lockedRefuse p (d.get R.DEV_TIMING_STATUS_POINT) != 0)
      || (match d.timingPending with | some (m, pt) => fu.timingRefuse p m pt != 0 | none => false)) = true ↔ locked := by
    rw [Bool.or_eq_true]
    refine or_congr (by simp) ?_
    cases d.timingPending with
    | none => simp
    | some x => simp [Prod.ext_iff]
  have hclash : d.freeFloors.any (fun f => decide (fu.profileMHz p < f)) = true ↔ clash := by simp [clash]
  have hlinks : ((span 32 64).any (fun l => d.on R.LNK_CONTROL_ENABLE l) ∨ (span 8 16).any (fun t => d.on R.ETH_CONTROL_ENABLE t)) ↔ links := by
    have hspan (a b : Nat) (f : Nat → Bool) : (span a b).any f = true ↔ ∃ l, a ≤ l ∧ l < b ∧ f l = true := by
      simp only [span, List.any_map, List.any_eq_true, List.mem_range, Function.comp_apply]
      exact ⟨fun ⟨x, hx, hf⟩ => ⟨x + a, by omega, by omega, hf⟩, fun ⟨l, hl, hb, hf⟩ => ⟨l - a, by omega, by rwa [Nat.sub_add_cancel hl]⟩⟩
    exact or_congr (hspan _ _ _) (hspan _ _ _)
  have hgoing : (d.profilePending.isSome ∨ d.statePending.isSome) ↔ going := or_congr Option.isSome_iff_ne_none Option.isSome_iff_ne_none
  rw [← hlocked, ← hclash, ← hlinks, ← hgoing]
  unfold Die.profileCode
  refine ⟨fun h => if_pos h, fun h h2 => ?_, fun h h2 h3 h4 => ?_, fun h h2 h3 h4 => ?_, fun h h2 h3 h4 => ?_⟩
  · rw [if_neg h, if_pos h2]
  · rw [if_neg h, if_neg h2, if_pos ⟨h3, h4⟩]
  · rw [if_neg h, if_neg h2, if_neg h3, if_pos h4]
  · rw [if_neg h, if_neg h2, if_neg h3, if_neg h4]

/-- The codes of a power-state request in the words of R579 and R580. -/
theorem Die.stateCode_cases (c : Cellar) (t : Nat) (d : Die) :
    let going := d.profilePending ≠ none ∨ d.statePending ≠ none ∨ (∃ e, e < 8 ∧ (d.sheep e).muster = true)
      ∨ (∃ p, p < 64 ∧ d.on R.PAS_ADMIT_STATUS_BUSY p = true ∧ (d.pasture p).leaving = 0)
    let waits := t = 3 ∧ d.auditedIn = true ∧ c.auditEmpty = false
    (2 ≤ t → 2 ≤ d.role → d.stateCode c t = 2) ∧ ((t < 2 ∨ d.role < 2) → going → d.stateCode c t = 3)
    ∧ ((t < 2 ∨ d.role < 2) → ¬ going → waits → d.stateCode c t = 4) ∧ ((t < 2 ∨ d.role < 2) → ¬ going → ¬ waits → d.stateCode c t = 1) := by
  intro going waits
  have hgoing : (d.profilePending.isSome || d.statePending.isSome || d.workGoing) = true ↔ going := by
    have hwork : d.workGoing = true ↔ (∃ e, e < 8 ∧ (d.sheep e).muster = true) ∨ (∃ p, p < 64 ∧ d.on R.PAS_ADMIT_STATUS_BUSY p = true ∧ (d.pasture p).leaving = 0) := by
      unfold Die.workGoing
      simp only [Bool.or_eq_true, pastures, List.any_eq_true, List.mem_range, Bool.and_eq_true, beq_iff_eq]
    rw [Bool.or_eq_true, Bool.or_eq_true, hwork, Option.isSome_iff_ne_none, Option.isSome_iff_ne_none, or_assoc]
  clear_value going
  unfold Die.stateCode
  rw [← hgoing]
  refine ⟨fun h h2 => if_pos ⟨h, h2⟩, fun h h2 => ?_, fun h h2 h3 => ?_, fun h h2 h3 => ?_⟩
  · rw [if_neg (by omega), if_pos h2]
  · rw [if_neg (by omega), if_neg h2, if_pos h3]
  · rw [if_neg (by omega), if_neg h2, if_neg h3]

theorem State.stateGo_goes (s : State) (src : Source) (w : Word) (hg : s.admits src .PWR 0 0x018) (h31 : bit w.toNat 31 = true) :
    let going := s.die.profilePending ≠ none ∨ s.die.statePending ≠ none ∨ (∃ e, e < 8 ∧ (s.die.sheep e).muster = true)
      ∨ (∃ p, p < 64 ∧ s.die.on R.PAS_ADMIT_STATUS_BUSY p = true ∧ (s.die.pasture p).leaving = 0)
    let waits := bits w.toNat 0 2 = 3 ∧ s.die.auditedIn = true ∧ s.cel.auditEmpty = false
    let refused (n : Nat) : Prop := s.completes (.stateGo src w) (fun t => t = { s with die := t.die } ∧ t.die.get R.PWR_STATUS_STATE_RESULT = n
      ∧ t.die.statePending = s.die.statePending ∧ t.die.get R.PWR_STATUS_STATE = s.die.get R.PWR_STATUS_STATE)
    (2 ≤ bits w.toNat 0 2 → 2 ≤ s.die.role → refused 2) ∧ ((bits w.toNat 0 2 < 2 ∨ s.die.role < 2) → going → refused 3)
    ∧ ((bits w.toNat 0 2 < 2 ∨ s.die.role < 2) → ¬ going → waits → refused 4)
    ∧ ((bits w.toNat 0 2 < 2 ∨ s.die.role < 2) → ¬ going → ¬ waits → s.completes (.stateGo src w) (fun t => t = { s with die := t.die }
        ∧ t.die.statePending = some (bits w.toNat 0 2) ∧ t.die.on R.PWR_STATUS_BUSY = true ∧ t.die.get R.PWR_STATUS_STATE = s.die.get R.PWR_STATUS_STATE
        ∧ (bits w.toNat 0 2 = 2 → s.die.get R.PWR_STATUS_STATE ≠ 3 → ∀ eng q, eng < 8 → q < 4 → s.die.qstate eng q = 2 →
            KMap.get false t.die.closed (eng * 4 + q) = true))) := by
  have hexec : exec (.stateGo src w) s = .next { s with die := pwrStateW s.cel w.toNat s.die } := by
    change dieCmd true (fun s => writeDie src (blockAddr .PWR 0 0x018) (pwrStateW s.cel w.toNat) s) s = _
    rw [dieCmd, if_pos rfl, writeDie_admitted hg]
  obtain ⟨r, -, hother, hdie⟩ := pwrStateW_answers s.cel w.toNat s.die h31
  obtain ⟨h2, h3, h4, h1⟩ := s.die.stateCode_cases s.cel (bits w.toNat 0 2)
  have hrefused (n : Nat) (hn : s.die.stateCode s.cel (bits w.toNat 0 2) = n) (hn1 : n ≠ 1) (hn16 : n < 16) : s.completes (.stateGo src w) (fun t => t = { s with die := t.die }
      ∧ t.die.get R.PWR_STATUS_STATE_RESULT = n ∧ t.die.statePending = s.die.statePending ∧ t.die.get R.PWR_STATUS_STATE = s.die.get R.PWR_STATUS_STATE) := by
    rw [if_neg (by rwa [hn]), hn] at hdie
    refine State.completes_dieGives _ hexec hdie ⟨rfl, (Die.get_put_same _ _ _ _).trans (Nat.mod_eq_of_lt hn16), rfl, ?_⟩
    exact (Die.get_put_apart _ _ _ _ _ (by decide)).trans (hother _ _ (by decide))
  refine ⟨fun ht hr => hrefused 2 (h2 ht hr) (by decide) (by decide), fun ht hgo => hrefused 3 (h3 ht hgo) (by decide) (by decide),
    fun ht hgo hw => hrefused 4 (h4 ht hgo hw) (by decide) (by decide), fun ht hgo hw => ?_⟩
  rw [if_pos (h1 ht hgo hw)] at hdie
  obtain ⟨hpending, -, -, hbusy⟩ := Die.beginState_pending (bits w.toNat 0 2) { s.die with regs := r }
  refine State.completes_dieGives _ hexec hdie ⟨rfl, hpending, hbusy, ?_, fun h2 hst eng q he hq hqs => ?_⟩
  · exact (Die.get_beginState _ _ _ _ rfl (by decide)).trans (hother _ _ (by decide))
  · obtain ⟨x, -, a, n, c, hbegin, hclosed⟩ := Die.beginState_begins (bits w.toNat 0 2) { s.die with regs := r }
    rw [hbegin]
    refine hclosed h2 ?_ (eng * 4 + q) (by omega) ?_
    · exact fun h => hst ((hother R.PWR_STATUS_STATE 0 (by decide)).symm.trans h)
    · rw [show (eng * 4 + q) / 4 = eng by omega, show (eng * 4 + q) % 4 = q by omega, Die.qstate,
        hother R.ENG_STATUS_QSTATE eng (by simp only [Fld.key, R.ENG_STATUS_QSTATE]; omega)]
      exact hqs

/-- Nap stops with the launch queues empty but for frames on the line (R580). -/
theorem State.napEntry_enters (s : State) (h2 : s.die.statePending = some 2) (hne : s.die.get R.PWR_STATUS_STATE ≠ 2) (hflight : ∀ p, p < 64 → s.die.inFlight p = 0)
    (hphase : ∀ e, e < 8 → s.die.get R.UPD_STATUS_PHASE e = 0 ∨ s.die.get R.UPD_STATUS_PHASE e = 6) :
    s.completes .napEntry (fun t => t.kill = s.kill ∧ t.die.get R.PWR_STATUS_STATE = 2
      ∧ (∀ q ∈ t.die.launch, s.die.onLine q.1 = true ∧ q.2.length = 1) ∧ t.die.tiles = s.die.tiles ∧ t.die.rows = s.die.rows) := by
  have hentry : s.napEntry = { State.discardLaunches (fun _ => true) T.PWR_NAP_DISCARD s (fun _ => 0) with
      die := ((State.discardLaunches (fun _ => true) T.PWR_NAP_DISCARD s (fun _ => 0)).die.put R.PWR_STATUS_STATE 0 2).recheck } := by
    unfold State.napEntry
    refine if_pos ⟨h2, hne, ?_, ?_⟩
    · simpa [pastures] using hflight
    · simpa using hphase
  obtain ⟨hkill, hlaunch, htiles, hrows⟩ := s.discardLaunches_all T.PWR_NAP_DISCARD (fun _ => 0)
  generalize State.discardLaunches (fun _ => true) T.PWR_NAP_DISCARD s (fun _ => 0) = y at hentry hkill hlaunch htiles hrows
  have hframe := (y.die.put R.PWR_STATUS_STATE 0 2).rechecked_recheck
  refine ⟨s.napEntry, rfl, ?_⟩
  rw [hentry]
  refine ⟨hkill, (hframe.2 _ _ rfl (by decide) (by decide)).trans (Die.get_put_same _ _ _ _), ?_, ?_, ?_⟩
  · have hl : (y.die.put R.PWR_STATUS_STATE 0 2).recheck.launch = y.die.launch := (congrArg Die.launch hframe.1).trans rfl
    rw [hl]
    exact hlaunch
  · exact ((congrArg Die.tiles hframe.1).trans rfl).trans htiles
  · exact ((congrArg Die.rows hframe.1).trans rfl).trans hrows

theorem State.standbyEntry_enters (s : State) (h3 : s.die.statePending = some 3) (hne : s.die.get R.PWR_STATUS_STATE ≠ 3) :
    s.completes .standbyEntry (fun t => t.kill = s.kill ∧ t.die.get R.PWR_STATUS_STATE = 3
      ∧ t.die.tiles = [] ∧ t.die.rows = [] ∧ t.die.dir = [] ∧ t.die.upd = [] ∧ t.die.feeds = [] ∧ t.die.launch = [] ∧ t.die.steer = []
      ∧ t.die.fcRun = false ∧ t.die.aliveOn = false ∧ t.die.otp = s.die.otp ∧ t.die.on R.PCI_STATUS_LINK_UP = false
      ∧ t.cel.settings = s.cel.settings ∧ t.cel.tb0 = s.cel.tb0) := by
  have hentry : s.standbyEntry = State.keepReserved { s.withdrawAll with die := s.withdrawAll.die.enterStandby } := if_pos ⟨h3, hne⟩
  have hcore := s.withdrawAll_core
  have hseal := s.withdrawAll_sealView
  have htb0 := s.withdrawAll_tb0
  have hotp := s.withdrawAll_otp
  generalize s.withdrawAll = y at hentry hcore hseal htb0 hotp
  obtain ⟨hstate, htiles, hrows, hdir, hupd, hfeeds, hlaunch, hsteer, hfc, halive, hfuse, hlink⟩ := y.die.enterStandby_takes
  generalize y.die.enterStandby = z at hentry hstate htiles hrows hdir hupd hfeeds hlaunch hsteer hfc halive hfuse hlink
  obtain ⟨hdie, hkill, hsettings, htb⟩ := State.keepReserved_keeps { y with die := z }
  have hk : y.kill = s.kill := congrArg (fun c => c.2.2.1) hcore
  have hd : s.standbyEntry.die = z := (congrArg State.die hentry).trans hdie
  refine ⟨s.standbyEntry, rfl, (congrArg State.kill hentry).trans (hkill.trans hk), ?_⟩
  rw [hd]
  exact ⟨hstate, htiles, hrows, hdir, hupd, hfeeds, hlaunch, hsteer, hfc, halive, hfuse.trans hotp, hlink,
    (congrArg (fun t : State => t.cel.settings) hentry).trans (hsettings.trans (congrArg (fun c => c.1) hseal)),
    (congrArg (fun t : State => t.cel.tb0) hentry).trans (htb.trans htb0)⟩

theorem Die.recheck_bootKept (d : Die) : d.bootKept d.recheck ∧ d.recheck.statePending = d.statePending := by
  have hframe := d.rechecked_recheck
  refine ⟨⟨fun f i hf => hframe.2 f i (reportWord_boot (by omega)) (by omega) (by omega), ?_⟩, ?_⟩
  · exact (congrArg Die.up hframe.1).trans rfl
  · exact (congrArg Die.statePending hframe.1).trans rfl

/-- A state that is reached without a stop, whatever the links then do (R579). -/
theorem State.stateReached_goes (s : State) (t : Nat) (ht : s.die.statePending = some t)
    (hreach : t = s.die.get R.PWR_STATUS_STATE ∨ (t ≤ 1 ∧ s.die.get R.PWR_STATUS_STATE ≤ 2)) :
    s.completes .stateReached (fun u => u = { s with die := u.die } ∧ (u.die.get R.PWR_STATUS_STATE = t ∧ u.die.get R.PWR_STATUS_STATE_RESULT = 1
      ∨ t ≠ s.die.get R.PWR_STATUS_STATE ∧ s.die.get R.PWR_STATUS_STATE = 2 ∧ t = 1 ∧ u.die.get R.PWR_STATUS_STATE = 0 ∧ u.die.statePending = some 1)) := by
  obtain ⟨⟨hget, -⟩, hpending⟩ := s.die.stateReached.recheck_bootKept
  refine State.completes_onDie (f := fun d => d.stateReached.recheck) rfl rfl ⟨rfl, ?_⟩
  rw [hget R.PWR_STATUS_STATE 0 (.inr (by decide)), hget R.PWR_STATUS_STATE_RESULT 0 (.inr (by decide)), hpending]
  exact s.die.stateReached_reaches t ht hreach

/-- The way out of Standby (R581, R590). -/
theorem State.stateReached_awakes (s : State) (h0 : s.die.statePending = some 0) (hst : s.die.get R.PWR_STATUS_STATE = 3) :
    s.completes .stateReached (fun t => t = { s with die := t.die } ∧ t.die.get R.PWR_STATUS_STATE = 0 ∧ t.die.get R.PWR_STATUS_STATE_RESULT = 1
      ∧ t.die.get R.PWR_STATUS_LAST_RESET = (if s.die.tripped then 5 else 4) ∧ t.die.up = true ∧ t.die.statePending = none
      ∧ (∀ base, base % 0x1000 = 0 → t.die.on (pageLock base) = false)) := by
  have hreached : s.die.stateReached = s.die.leaveStandby.stateDone := by
    unfold Die.stateReached Die.pstate
    rw [h0, hst]
    rfl
  obtain ⟨hup, hstate, hlast, hlocks⟩ := s.die.leaveStandby_leaves
  obtain ⟨hresult, hpending, hupkept, hget⟩ := s.die.leaveStandby.stateDone_ends
  obtain ⟨⟨hkeep, hkeepup⟩, hkeepst⟩ := s.die.leaveStandby.stateDone.recheck_bootKept
  generalize s.die.leaveStandby.stateDone = x at *
  generalize s.die.leaveStandby = y at *
  refine State.completes_onDie (f := fun d => d.stateReached.recheck) rfl (congrArg Die.recheck hreached) ⟨rfl, ?_, ?_, ?_, ?_, ?_, fun base hbase => ?_⟩
  · exact (hkeep _ _ (.inr (by decide))).trans ((hget _ _ rfl (by decide) (by decide)).trans hstate)
  · exact (hkeep _ _ (.inr (by decide))).trans hresult
  · exact (hkeep _ _ (.inr (by decide))).trans ((hget _ _ rfl (by decide) (by decide)).trans hlast)
  · exact hkeepup.trans (hupkept.trans hup)
  · exact hkeepst.trans hpending
  · have hlock : (pageLock base).key 0 / 32 % 0x1000 = 0xF00 ∧ (pageLock base).key 0 % 32 = 0 := by
      simp only [Fld.key, pageLock]
      omega
    have hresultKey : R.PWR_STATUS_STATE_RESULT.key 0 / 32 = 0x32800 := by decide
    have hbusyKey : R.PWR_STATUS_BUSY.key 0 / 32 = 0x32800 := by decide
    rw [Die.on, hkeep _ _ (.inl hlock), hget _ _ (reportWord_boot (.inl hlock.1)) (fun h => by omega) (fun h => by omega), hlocks base hbase]
    rfl

theorem Die.thermHot_shows (d : Die) : ((d.flag R.PWR_STATUS_THERM_HOT 0 true).put R.PWR_TEMP_TEMP 0 100).on R.PWR_STATUS_THERM_HOT = true
    ∧ d.regsOnly ((d.flag R.PWR_STATUS_THERM_HOT 0 true).put R.PWR_TEMP_TEMP 0 100) :=
  ⟨(congrArg (· == 1) (Die.get_put_apart _ _ _ _ _ (by decide))).trans (Die.on_flag_same R.PWR_STATUS_THERM_HOT 0 true d rfl),
    (d.regsOnly_flag _ _ _).trans (Die.regsOnly_put _ _ _ _)⟩

theorem State.thermHot_shows (s : State) : s.completes .thermHot (fun t => t = { s with die := t.die } ∧ t.die.on R.PWR_STATUS_THERM_HOT = true
    ∧ t.die = { s.die with regs := t.die.regs }) :=
  State.completes_onDie (f := fun d => (d.flag R.PWR_STATUS_THERM_HOT 0 true).put R.PWR_TEMP_TEMP 0 100) rfl rfl ⟨rfl, s.die.thermHot_shows⟩

/-- Settles O49: each request is answered with its code or begins, and each transition ends with its result. -/
theorem powerStatesChange : Obligations.PowerStatesChange := by
  unfold Obligations.PowerStatesChange
  intro s
  dsimp only
  refine ⟨fun src w hg h31 hp => ?_, fun p hp => ?_, fun src w hg h31 => ?_, fun h2 hne hflight hphase => ?_, fun h3 hne => ?_, fun t ht hreach => ?_,
    fun h0 hst => ?_, ?_, fun hst => ?_⟩
  · have hexec : exec (.profileApply src w) s = .next { s with die := pwrProfileW s.fused w.toNat s.die } := by
      change dieCmd true (writeDie src (blockAddr .PWR 0 0x010) (pwrProfileW s.fused w.toNat)) s = _
      rw [dieCmd, if_pos rfl, writeDie_admitted hg]
    obtain ⟨hresult, hprofile, hpend, hbusy⟩ := pwrProfileW_answers s.fused w.toNat s.die h31 hp _ rfl
    have hgoes (n : Nat) (hn : s.die.profileCode s.fused (bits w.toNat 0 2) = n) : s.completes (.profileApply src w) (fun t => t = { s with die := t.die }
        ∧ t.die.get R.PWR_STATUS_PROFILE_RESULT = n ∧ t.die.get R.PWR_STATUS_PROFILE = s.die.get R.PWR_STATUS_PROFILE
        ∧ t.die.profilePending = if n = 1 then some (bits w.toNat 0 2) else s.die.profilePending) :=
      State.completes_dieGives _ hexec rfl ⟨rfl, hresult.trans hn, hprofile, by rw [← hn]; exact hpend⟩
    obtain ⟨h2, h3, h4, h5, h1⟩ := s.die.profileCode_cases s.fused (bits w.toNat 0 2)
    exact ⟨fun h => hgoes 2 (h2 h), fun h hc => hgoes 3 (h3 h hc), fun h hc hp hl => hgoes 4 (h4 h hc hp hl), fun h hc hl hgo => hgoes 5 (h5 h hc hl hgo),
      fun h hc hl hgo => State.completes_dieGives _ hexec rfl ⟨rfl, ⟨hresult.trans (h1 h hc hl hgo), hprofile, hpend.trans (if_pos (h1 h hc hl hgo))⟩, hbusy (h1 h hc hl hgo)⟩⟩
  · exact State.completes_onDie (f := Die.profileDone) rfl rfl ⟨rfl, s.die.profileDone_settles p hp⟩
  · exact s.stateGo_goes src w hg h31
  · exact s.napEntry_enters h2 hne hflight hphase
  · exact s.standbyEntry_enters h3 hne
  · exact s.stateReached_goes t ht hreach
  · exact s.stateReached_awakes h0 hst
  · exact s.thermHot_shows
  · exact State.completes_onDie (f := Die.thermTrip) rfl rfl ⟨rfl, s.die.thermTrip_asks hst⟩

end Sys2Proof.Machine
end

section
/-! SUPPORT. What the resets, the fault reset and a start leave (R516, R582 to R585, R588, R591, R627). -/

namespace Sys2Proof.Machine

theorem Die.emits_frame (l : List (Nat × TrigPin)) (d : Die) : ∃ e, l.foldl (fun d x => d.emit (.trig x.1 false)) d = { d with emits := e } := by
  induction l generalizing d with
  | nil => exact ⟨_, rfl⟩
  | cons x l ih =>
    obtain ⟨e, he⟩ := ih (d.emit (.trig x.1 false))
    exact ⟨e, he⟩

/-- The pins go low; nothing else changes on the die (R643). -/
theorem Die.pinsLow_frame (d : Die) : ∃ p e, d.pinsLow = { d with pins := p, emits := e } := by
  unfold Die.pinsLow
  obtain ⟨e, he⟩ := Die.emits_frame (d.pins.filter (fun x => x.2.high))
    { d with pins := (d.pins.map (fun x => (x.1, ({ edges := x.2.edges } : TrigPin)))).filter (fun x => !x.2.edges.isEmpty) }
  exact ⟨_, e, he⟩

/-- What a reset of the whole compute die leaves (R582). -/
theorem Die.fresh_clears (keep : Bool) (cause : Nat) (d : Die) (h : cause < 8) :
    (d.fresh keep cause).tallies = (if keep then d.tallies else []) ∧ (d.fresh keep cause).store = (if keep then d.store else [])
    ∧ (d.fresh keep cause).get R.PWR_STATUS_LAST_RESET = cause ∧ (d.fresh keep cause).up = false ∧ (d.fresh keep cause).otp = d.otp.interrupt
    ∧ (d.fresh keep cause).host = d.host ∧ (d.fresh keep cause).tiles = [] ∧ (d.fresh keep cause).rows = [] ∧ (d.fresh keep cause).pas = []
    ∧ (d.fresh keep cause).grants = [] ∧ (d.fresh keep cause).upd = [] ∧ (d.fresh keep cause).launch = [] ∧ (d.fresh keep cause).lanes = [] := by
  unfold Die.fresh
  obtain ⟨p, e, hlow⟩ := d.pinsLow_frame
  rw [hlow]
  refine ⟨rfl, rfl, ?_, rfl, rfl, rfl, rfl, rfl, rfl, rfl, rfl, rfl, rfl⟩
  exact (Die.get_put_apart _ _ _ _ _ (by decide)).trans ((Die.get_put_same _ _ _ _).trans (Nat.mod_eq_of_lt h))

theorem State.keepReserved_frame (s : State) : s.keepReserved = { s with cel := { s.cel with reserved := s.keepReserved.cel.reserved } } := rfl

theorem State.resetDie_frame (keep : Bool) (cause : Nat) (s : State) : (s.resetDie keep cause).die = s.die.fresh keep cause
    ∧ s.resetDie keep cause = { s with cel := { s.cel with reserved := (s.resetDie keep cause).cel.reserved }, kill := {}, die := (s.resetDie keep cause).die } :=
  ⟨rfl, rfl⟩

/-- PWR_STATUS, and whether the die is up or restoring, stand. -/
def Die.lossKept (d e : Die) : Prop := (∀ (f : Fld) (i : Nat), f.key i / 32 = 0x32800 → e.get f i = d.get f i) ∧ e.up = d.up ∧ e.restoring = d.restoring

theorem Die.lossKept_refl (d : Die) : d.lossKept d := ⟨fun _ _ _ => rfl, rfl, rfl⟩

theorem Die.lossKept.trans {a b c : Die} (h : a.lossKept b) (k : b.lossKept c) : a.lossKept c :=
  ⟨fun f i hf => (k.1 f i hf).trans (h.1 f i hf), k.2.1.trans h.2.1, k.2.2.trans h.2.2⟩

theorem Die.lossKept_foldl {α : Type} (g : Die → α → Die) (l : List α) (h : ∀ (d : Die), ∀ x ∈ l, d.lossKept (g d x)) (d : Die) : d.lossKept (l.foldl g d) := by
  induction l generalizing d with
  | nil => exact d.lossKept_refl
  | cons x l ih => exact (h d x List.mem_cons_self).trans (ih (fun d y hy => h d y (List.mem_cons_of_mem _ hy)) _)

/-- A register above the power block's leaves it. -/
theorem Die.lossKept_put (d : Die) (f : Fld) (i v : Nat) (h : 0x40000 ≤ f.base) : d.lossKept (d.put f i v) :=
  ⟨fun g j hg => Die.get_put_other _ _ _ _ _ _ fun hk => by
    have : f.key i / 32 = 0x32800 := hk ▸ hg
    unfold Fld.key at this
    omega, rfl, rfl⟩

theorem Die.lossKept_beginLoads (p : Nat) (im : Image) (why : Nat) (d : Die) : d.lossKept (d.beginLoads p im why) := by
  have hcal (d : Die) : d.lossKept (d.calEnd p) := by
    unfold Die.calEnd
    split
    · exact d.lossKept_refl
    · exact ((d.lossKept_put R.FAB_CAL_STATUS_PHASE p 0 (by decide)).trans (Die.lossKept_put _ R.FAB_CAL_STATUS_RESULT p 7 (by decide))).trans
        ⟨fun _ _ _ => rfl, rfl, rfl⟩
  have hquarter (d : Die) (y : Nat × Nat) : d.lossKept { d.setQ y.1 y.2 1 with
      loads := KMap.set (0, 0, 0) d.loads (y.1 * 4 + y.2) (1, 0, why), closed := KMap.set false d.closed (y.1 * 4 + y.2) true } :=
    (d.lossKept_put R.ENG_STATUS_QSTATE y.1 _ (by decide)).trans ⟨fun _ _ _ => rfl, rfl, rfl⟩
  have hbusy (d : Die) (e : Nat) : d.lossKept (d.setBusy e) := d.lossKept_put _ _ _ (by decide)
  have hdraw : d.lossKept (if why = 1 then d.draw.2 else d) := by
    split
    · exact ⟨fun _ _ _ => rfl, rfl, rfl⟩
    · exact d.lossKept_refl
  unfold Die.beginLoads
  dsimp only
  generalize (if why = 1 then d.free else (d.pasture p).attic) = v
  generalize (if why = 1 then d.draw.2 else d) = x at hdraw
  have hask : d.lossKept (((x.calEnd p).onPas p (fun q => { q with going := true, atticNew := v })).askLoad ⟨8 + p, (enginesOf im).map (bankOf im v)⟩) :=
    hdraw.trans ((hcal x).trans ⟨fun _ _ _ => rfl, rfl, rfl⟩)
  generalize ((x.calEnd p).onPas p (fun q => { q with going := true, atticNew := v })).askLoad ⟨8 + p, (enginesOf im).map (bankOf im v)⟩ = y at hask
  exact ((hask.trans (Die.lossKept_foldl _ _ (fun d z _ => hquarter d z) _)).trans (Die.lossKept_foldl _ _ (fun d z _ => hbusy d z) _)).trans
    (Die.lossKept_put _ _ _ _ (by decide))

/-- The end of a fault reset's loss. -/
def Die.lossEnd (d : Die) : Die :=
  let d := d.onFlk (fun k => { k with reduction := none, digests := [] })
  let d := (List.range 8).foldl (fun d e =>
    let d := ((d.put R.ENG_STATUS_QSTATE e 0).flag R.ENG_STATUS_BUSY e false).put R.ENG_STATUS_RETIRE_RESULT e 3
    let d := if (d.sheep e).muster then (d.put R.SHD_STATUS_MUSTER e 5).onShd e (fun x => { x with muster := false, wasRunning := 0 }) else d
    { d with loads := [] }) d
  let d := (d.flag R.DEV_TIMING_STATUS_BUSY 0 false).flag R.PWR_STATUS_BUSY 0 false
  let d := ((d.put R.LFT_STATUS_FF_STATE 0 1).put R.LFT_STATUS_CAUSE 0 0).flag R.LFT_STATUS_DUMP_BUSY 0 false
  let d := ((d.put R.PWR_STATUS_STATE 0 0).put R.PWR_STATUS_LAST_RESET 0 3).count T.CHK_FAULT_RESETS 0
  d.cancelHandover.relockAll

theorem Die.faultLoss_ends (d : Die) : ∃ x : Die, x.up = false ∧ x.restoring = true ∧ d.faultLoss = x.lossEnd := ⟨_, rfl, rfl, rfl⟩

theorem Die.lossEnd_leaves (d : Die) : d.lossEnd.up = d.up ∧ d.lossEnd.restoring = d.restoring ∧ d.lossEnd.get R.PWR_STATUS_LAST_RESET = 3 := by
  have heng (d : Die) (e : Nat) : d.lossKept
      { (if ((((d.put R.ENG_STATUS_QSTATE e 0).flag R.ENG_STATUS_BUSY e false).put R.ENG_STATUS_RETIRE_RESULT e 3).sheep e).muster then
        ((((d.put R.ENG_STATUS_QSTATE e 0).flag R.ENG_STATUS_BUSY e false).put R.ENG_STATUS_RETIRE_RESULT e 3).put R.SHD_STATUS_MUSTER e 5).onShd e
          (fun x => { x with muster := false, wasRunning := 0 })
        else ((d.put R.ENG_STATUS_QSTATE e 0).flag R.ENG_STATUS_BUSY e false).put R.ENG_STATUS_RETIRE_RESULT e 3) with loads := [] } := by
    have hputs : d.lossKept (((d.put R.ENG_STATUS_QSTATE e 0).flag R.ENG_STATUS_BUSY e false).put R.ENG_STATUS_RETIRE_RESULT e 3) :=
      ((d.lossKept_put _ _ _ (by decide)).trans (Die.lossKept_put _ _ _ _ (by decide))).trans (Die.lossKept_put _ _ _ _ (by decide))
    generalize ((d.put R.ENG_STATUS_QSTATE e 0).flag R.ENG_STATUS_BUSY e false).put R.ENG_STATUS_RETIRE_RESULT e 3 = x at hputs
    split
    · exact (hputs.trans (x.lossKept_put R.SHD_STATUS_MUSTER e 5 (by decide))).trans ⟨fun _ _ _ => rfl, rfl, rfl⟩
    · exact hputs.trans ⟨fun _ _ _ => rfl, rfl, rfl⟩
  unfold Die.lossEnd
  dsimp only
  have hfold := Die.lossKept_foldl _ (List.range 8) (fun d e _ => heng d e) (d.onFlk (fun k => { k with reduction := none, digests := [] }))
  generalize (List.range 8).foldl _ (d.onFlk (fun k => { k with reduction := none, digests := [] })) = x at hfold ⊢
  obtain ⟨-, hup, hrest⟩ := hfold
  generalize hy : (((x.flag R.DEV_TIMING_STATUS_BUSY 0 false).flag R.PWR_STATUS_BUSY 0 false).put R.LFT_STATUS_FF_STATE 0 1).put R.LFT_STATUS_CAUSE 0 0 = y
  have hyup : y.up = x.up := by rw [← hy]; rfl
  have hyrest : y.restoring = x.restoring := by rw [← hy]; rfl
  have hrep := Die.report_count T.CHK_FAULT_RESETS 0 (((y.flag R.LFT_STATUS_DUMP_BUSY 0 false).put R.PWR_STATUS_STATE 0 0).put R.PWR_STATUS_LAST_RESET 0 3)
  refine ⟨?_, ?_, ?_⟩
  · exact ((congrArg Die.up hrep.1).trans rfl).trans (hyup.trans hup)
  · exact ((congrArg Die.restoring hrep.1).trans rfl).trans (hyrest.trans hrest)
  · rw [Die.get_relockAll _ _ _ (by decide)]
    change (((Die.count T.CHK_FAULT_RESETS 0 (((y.flag R.LFT_STATUS_DUMP_BUSY 0 false).put R.PWR_STATUS_STATE 0 0).put R.PWR_STATUS_LAST_RESET 0 3)).put
      R.OWN_STATUS_PENDING 0 0).put R.OWN_STATUS_TARGET 0 0).get R.PWR_STATUS_LAST_RESET = 3
    rw [Die.get_put_apart _ _ _ _ _ (by decide), Die.get_put_apart _ _ _ _ _ (by decide), hrep.2 _ _ rfl, Die.get_put_same]
    rfl

/-- What a fault reset leaves of the die and of the rest (R516, R585). -/
theorem State.faultReset_leaves (kind loc : Nat) (s : State) : (s.faultReset kind loc).kill = s.kill
    ∧ (s.faultReset kind loc).cel = { s.cel with reserved := (s.faultReset kind loc).cel.reserved } ∧ (s.faultReset kind loc).die.restoring = true
    ∧ (s.faultReset kind loc).die.up = false ∧ (s.faultReset kind loc).die.get R.PWR_STATUS_LAST_RESET = 3 := by
  have hloads (d : Die) (hd : d.up = false ∧ d.restoring = true ∧ d.get R.PWR_STATUS_LAST_RESET = 3) :
      let e := pastures.foldl (fun d p => match d.image p with | some im => d.beginLoads p im 2 | none => d) d
      e.restoring = true ∧ e.up = false ∧ e.get R.PWR_STATUS_LAST_RESET = 3 := by
    obtain ⟨hget, hup, hrest⟩ := Die.lossKept_foldl (fun d p => match d.image p with | some im => d.beginLoads p im 2 | none => d) pastures
      (fun d p _ => by
        split
        · exact d.lossKept_beginLoads p _ 2
        · exact d.lossKept_refl) d
    exact ⟨hrest.trans hd.2.1, hup.trans hd.1, (hget _ _ (by decide)).trans hd.2.2⟩
  have hloss (x : Die) : x.faultLoss.up = false ∧ x.faultLoss.restoring = true ∧ x.faultLoss.get R.PWR_STATUS_LAST_RESET = 3 := by
    obtain ⟨y, hup, hrest, hy⟩ := x.faultLoss_ends
    obtain ⟨hu, hr, hl⟩ := y.lossEnd_leaves
    rw [hy]
    exact ⟨hu.trans hup, hr.trans hrest, hl⟩
  obtain ⟨x, hx⟩ : ∃ x : Die, s.faultReset kind loc
      = State.keepReserved { s with die := pastures.foldl (fun d p => match d.image p with | some im => d.beginLoads p im 2 | none => d) x.faultLoss } := ⟨_, rfl⟩
  have hx2 := hloads _ (hloss x)
  generalize pastures.foldl (fun d p => match d.image p with | some im => d.beginLoads p im 2 | none => d) x.faultLoss = y at hx hx2
  rw [hx]
  exact ⟨rfl, rfl, hx2⟩

/-- What the end of a start leaves (R34, R484, R584, R587). -/
theorem Die.awake_elects (d : Die) : d.awake.up = true ∧ d.awake.tiles = d.tiles ∧ d.awake.otp = d.otp ∧ d.awake.on R.OWN_STATUS_HELD = false
    ∧ d.awake.on R.OWN_STATUS_ELECTION = true := by
  have halive (x : Die) : x.aliveStart.regs = x.regs ∧ x.aliveStart.tiles = x.tiles ∧ x.aliveStart.otp = x.otp := by
    unfold Die.aliveStart
    split <;> exact ⟨rfl, rfl, rfl⟩
  unfold Die.awake
  dsimp only
  generalize hx : d.newNonce.debugReset.put R.OWN_STATUS_HELD 0 0 = x
  have hheld : x.get R.OWN_STATUS_HELD = 0 := by
    rw [← hx]
    exact Die.get_put_same _ _ _ _
  have htiles : x.tiles = d.tiles := by rw [← hx]; rfl
  have hotp : x.otp = d.otp := by rw [← hx]; rfl
  obtain ⟨hregs, hatiles, haotp⟩ := halive (x.put R.OWN_STATUS_HOLDER 0 0).cancelHandover
  have hget : ((x.put R.OWN_STATUS_HOLDER 0 0).cancelHandover.aliveStart).get R.OWN_STATUS_HELD = 0 := by
    refine (Die.get_congr _ _ hregs _ _).trans ?_
    change (((x.put R.OWN_STATUS_HOLDER 0 0).put R.OWN_STATUS_PENDING 0 0).put R.OWN_STATUS_TARGET 0 0).get R.OWN_STATUS_HELD = 0
    rw [Die.get_put_apart _ _ _ _ _ (by decide), Die.get_put_apart _ _ _ _ _ (by decide), Die.get_put_apart _ _ _ _ _ (by decide)]
    exact hheld
  have htiles' : (x.put R.OWN_STATUS_HOLDER 0 0).cancelHandover.aliveStart.tiles = d.tiles := hatiles.trans htiles
  have hotp' : (x.put R.OWN_STATUS_HOLDER 0 0).cancelHandover.aliveStart.otp = d.otp := haotp.trans hotp
  generalize hy : (x.put R.OWN_STATUS_HOLDER 0 0).cancelHandover.aliveStart = y at hget htiles' hotp'
  have hrep := Die.report_count T.OWN_ELECTIONS 0 (y.flag R.OWN_STATUS_ELECTION 0 true)
  have hyy : (Die.cancelHandover (Die.put R.OWN_STATUS_HOLDER 0 0 (Die.flag R.OWN_STATUS_HELD 0 false d.newNonce.debugReset))).aliveStart = y := by rw [← hy, ← hx]; rfl
  rw [hyy]
  refine ⟨rfl, ?_, ?_, ?_, ?_⟩
  · exact ((congrArg Die.tiles hrep.1).trans rfl).trans htiles'
  · exact ((congrArg Die.otp hrep.1).trans rfl).trans hotp'
  · have h := (hrep.2 R.OWN_STATUS_HELD 0 rfl).trans ((Die.get_put_apart _ _ _ _ _ (by decide)).trans hget)
    exact congrArg (· == 1) h
  · have h := (hrep.2 R.OWN_STATUS_ELECTION 0 rfl).trans (Die.get_put_same _ _ _ _)
    exact congrArg (· == 1) h

theorem Die.startMode_frame (d : Die) : d.regsOnly d.startMode := by
  unfold Die.startMode
  split
  · exact (d.regsOnly_put _ _ _).trans (Die.regsOnly_put _ _ _ _)
  · split
    · exact ((d.regsOnly_put _ _ _).trans (Die.regsOnly_put _ _ _ _)).trans (Die.regsOnly_put _ _ _ _)
    · exact (d.regsOnly_put _ _ _).trans (Die.regsOnly_put _ _ _ _)

theorem Die.pllStart_frame (z : Bool) (d : Die) : (d.pllStart z).tiles = d.tiles ∧ (d.pllStart z).otp = d.otp := by
  unfold Die.pllStart
  split <;> exact ⟨rfl, rfl⟩

theorem Die.startup_starts (fu : Fused) (d : Die) (hup : d.up = false) (hoff : d.off = false) (hrest : d.restoring = false) :
    (d.startup fu).up = true ∧ (d.startup fu).tiles = d.tiles ∧ (d.startup fu).on R.OWN_STATUS_HELD = false ∧ (d.startup fu).on R.OWN_STATUS_ELECTION = true
    ∧ (d.startup fu).otp = { d.otp with gen := d.otp.pick } := by
  unfold Die.startup
  rw [hup, hoff, hrest]
  rw [if_neg (by decide)]
  obtain ⟨htiles, hotp⟩ := Die.pllStart_frame true (d.readSettings fu)
  generalize Die.pllStart true (d.readSettings fu) = x at htiles hotp ⊢
  dsimp only
  obtain ⟨pr, hpr⟩ : ∃ pr, pr = x.otp.byte 5 1 := ⟨_, rfl⟩
  obtain ⟨cap, hcap⟩ : ∃ cap, cap = x.otp.byte 144 0 + x.otp.byte 145 0 * 256 := ⟨_, rfl⟩
  rw [← hpr, ← hcap]
  have hmode := Die.startMode_frame (((x.put R.PWR_STATUS_PROFILE 0 pr).put R.PWR_PROFILE_PROFILE 0 pr).put R.PWR_CAP_WATTS 0 cap)
  generalize (((x.put R.PWR_STATUS_PROFILE 0 pr).put R.PWR_PROFILE_PROFILE 0 pr).put R.PWR_CAP_WATTS 0 cap).startMode = y at hmode
  obtain ⟨hu, ht, ho, hh, he⟩ := y.awake_elects
  refine ⟨hu, ?_, hh, he, ?_⟩
  · exact ht.trans (((congrArg Die.tiles hmode).trans rfl).trans (htiles.trans rfl))
  · exact ho.trans (((congrArg Die.otp hmode).trans rfl).trans (hotp.trans rfl))

/-- A host whose link is down loses the crook (R485, R583). -/
theorem Die.recheck_unheld (d : Die) (hlink : d.on R.PCI_STATUS_LINK_UP = false) (h : d.holds 0 = true) : d.recheck.on R.OWN_STATUS_HELD = false := by
  have hstop : (if d.debug = 3 then d else { d with stopped := [] }).regs = d.regs := by split <;> rfl
  unfold Die.recheck
  dsimp only
  generalize (if d.debug = 3 then d else { d with stopped := [] }) = x at hstop
  have hhand (f : Fld) (hf : f.key 0 ≠ R.OWN_STATUS_PENDING.key 0 ∧ f.key 0 ≠ R.OWN_STATUS_TARGET.key 0) :
      (if x.on R.OWN_STATUS_PENDING && !(x.eligible (x.get R.OWN_STATUS_TARGET)) then x.cancelHandover else x).get f = d.get f := by
    split
    · refine Eq.trans ?_ (Die.get_congr _ _ hstop _ _)
      change ((x.put R.OWN_STATUS_PENDING 0 0).put R.OWN_STATUS_TARGET 0 0).get f = x.get f
      rw [Die.get_put_other _ _ _ _ _ _ hf.2, Die.get_put_other _ _ _ _ _ _ hf.1]
    · exact Die.get_congr _ _ hstop _ _
  generalize (if x.on R.OWN_STATUS_PENDING && !(x.eligible (x.get R.OWN_STATUS_TARGET)) then x.cancelHandover else x) = y at hhand
  obtain ⟨hheld, hholder⟩ := Bool.and_eq_true_iff.1 h
  have hcond : (y.on R.OWN_STATUS_HELD && !(y.eligible (y.get R.OWN_STATUS_HOLDER))) = true := by
    rw [hhand R.OWN_STATUS_HOLDER (by decide), beq_iff_eq.1 hholder, Die.eligible, Die.on, Die.on, hhand _ (by decide), hhand _ (by decide)]
    rw [Die.on] at hheld hlink
    rw [hheld, hlink]
    rfl
  rw [if_pos hcond]
  exact y.releaseCrook_held

/-- A master whose path is down does not hold the crook (R485, R583). -/
theorem Die.pcieDown_leaves (d : Die) (hup : d.on R.PCI_STATUS_LINK_UP = true) : d.pcieDown.pas = d.pas ∧ d.pcieDown.tiles = d.tiles ∧ d.pcieDown.grants = d.grants
    ∧ (d.holds 0 = true → d.pcieDown.on R.OWN_STATUS_HELD = false) := by
  have hcount := Die.report_count T.PCI_PCIE_DOWN 0 (((d.flag R.PCI_STATUS_LINK_UP 0 false).put R.PCI_STATUS_SPEED 0 0).put R.PCI_STATUS_WIDTH 0 0)
  have hget (f : Fld) (hf : reportWord (f.key 0 / 32) = false) (h : f.key 0 / 32 = 0x1800) :
      (Die.count T.PCI_PCIE_DOWN 0 (((d.flag R.PCI_STATUS_LINK_UP 0 false).put R.PCI_STATUS_SPEED 0 0).put R.PCI_STATUS_WIDTH 0 0)).get f = d.get f := by
    have hne (g : Fld) (hg : g.key 0 / 32 = 0x34800) : f.key 0 ≠ g.key 0 := fun hk => by rw [hk, hg] at h; omega
    rw [hcount.2 f 0 hf, Die.get_put_other _ _ _ _ _ _ (hne _ (by decide)), Die.get_put_other _ _ _ _ _ _ (hne _ (by decide))]
    exact Die.get_put_other _ _ _ _ _ _ (hne R.PCI_STATUS_LINK_UP (by decide))
  have hlink : (Die.count T.PCI_PCIE_DOWN 0 (((d.flag R.PCI_STATUS_LINK_UP 0 false).put R.PCI_STATUS_SPEED 0 0).put R.PCI_STATUS_WIDTH 0 0)).on R.PCI_STATUS_LINK_UP = false := by
    rw [Die.on, hcount.2 _ _ rfl, Die.get_put_apart _ _ _ _ _ (by decide), Die.get_put_apart _ _ _ _ _ (by decide)]
    exact Die.on_flag_same R.PCI_STATUS_LINK_UP 0 false d rfl
  unfold Die.pcieDown
  rw [if_pos hup]
  generalize Die.count T.PCI_PCIE_DOWN 0 (((d.flag R.PCI_STATUS_LINK_UP 0 false).put R.PCI_STATUS_SPEED 0 0).put R.PCI_STATUS_WIDTH 0 0) = x at hcount hget hlink
  have hframe := x.rechecked_recheck.1
  refine ⟨?_, ?_, ?_, fun h => x.recheck_unheld hlink ?_⟩
  · exact ((congrArg Die.pas hframe).trans rfl).trans ((congrArg Die.pas hcount.1).trans rfl)
  · exact ((congrArg Die.tiles hframe).trans rfl).trans ((congrArg Die.tiles hcount.1).trans rfl)
  · exact ((congrArg Die.grants hframe).trans rfl).trans ((congrArg Die.grants hcount.1).trans rfl)
  · rw [Die.holds, Die.on, hget _ rfl (by decide), hget _ rfl (by decide)]
    exact h

/-- The rings of a VF, which its function level reset ends (R583). -/
def vfRings : List Fld :=
  [R.PAS_MSG_CTL_ENABLE, R.PAS_MSG_BASE_LO, R.PAS_MSG_BASE_HI, R.PAS_INJ_CTL_ENABLE, R.PAS_INJ_BASE_LO, R.PAS_INJ_BASE_HI,
    R.PAS_TRACE_CTL_ENABLE, R.PAS_TRACE_ADDR_LO, R.PAS_TRACE_ADDR_HI, R.LRD_RING_CTL_ENABLE, R.LRD_RING_BASE_LO, R.LRD_RING_BASE_HI]

theorem Die.put_zero_keeps (d : Die) (f g : Fld) (i j : Nat) (hf : f.reset = 0) (hg : g.reset = 0) (h : d.get g j = 0) : (d.put f i 0).get g j = 0 := by
  by_cases hk : g.key j = f.key i
  · unfold Die.get Die.put
    rw [hk, hf, hg, KMap.get_set_same, Nat.zero_mod]
  · rw [Die.get_put_other _ _ _ _ _ _ hk, h]

/-- Fields that are cleared one after another read zero. -/
theorem Die.get_clears (i : Nat) (l : List Fld) (hl : ∀ f ∈ l, f.reset = 0) (g : Fld) (d : Die) (hg : g.reset = 0) (h : g ∈ l ∨ d.get g i = 0) :
    (l.foldl (fun d f => d.put f i 0) d).get g i = 0 := by
  induction l generalizing d with
  | nil => exact h.resolve_left List.not_mem_nil
  | cons f l ih =>
    refine ih (fun f hf => hl f (List.mem_cons_of_mem _ hf)) _ ?_
    rcases h with h | h
    · rcases List.mem_cons.1 h with rfl | h
      · exact .inr ((Die.get_put_same _ _ _ _).trans (Nat.zero_mod _))
      · exact .inl h
    · exact .inr (Die.put_zero_keeps _ _ _ _ _ (hl f List.mem_cons_self) hg h)

theorem Die.get_clears_other (i : Nat) (l : List Fld) (g : Fld) (j : Nat) (hl : ∀ f ∈ l, g.key j ≠ f.key i) (d : Die) :
    (l.foldl (fun d f => d.put f i 0) d).get g j = d.get g j := by
  induction l generalizing d with
  | nil => rfl
  | cons f l ih => exact (ih (fun f hf => hl f (List.mem_cons_of_mem _ hf)) _).trans (Die.get_put_other _ _ _ _ _ _ (hl f List.mem_cons_self))

theorem Die.clears_regsOnly (i : Nat) (l : List Fld) (d : Die) : d.regsOnly (l.foldl (fun d f => d.put f i 0) d) :=
  Die.regsOnly_foldl (fun d f => d.put f i 0) (fun d f => d.regsOnly_put f i 0) l d

/-- PAS_ADMIT_STATUS of a pasture, its state, and the count of function level resets stand. -/
def Die.flrKept (p : Nat) (d e : Die) : Prop := e.get R.PAS_ADMIT_STATUS_STATE p = d.get R.PAS_ADMIT_STATUS_STATE p
  ∧ e.get R.PAS_ADMIT_STATUS_BUSY p = d.get R.PAS_ADMIT_STATUS_BUSY p ∧ e.pas = d.pas ∧ e.tally T.PCI_VF_FLR = d.tally T.PCI_VF_FLR

theorem Die.flrKept_refl (p : Nat) (d : Die) : Die.flrKept p d d := ⟨rfl, rfl, rfl, rfl⟩

theorem Die.flrKept.trans {p : Nat} {a b c : Die} (h : Die.flrKept p a b) (k : Die.flrKept p b c) : Die.flrKept p a c :=
  ⟨k.1.trans h.1, k.2.1.trans h.2.1, k.2.2.1.trans h.2.2.1, k.2.2.2.trans h.2.2.2⟩

theorem Die.flrKept_foldl {α : Type} {p : Nat} (g : Die → α → Die) (h : ∀ (d : Die) x, Die.flrKept p d (g d x)) (l : List α) (d : Die) : Die.flrKept p d (l.foldl g d) := by
  induction l generalizing d with
  | nil => exact d.flrKept_refl p
  | cons x l ih => exact (h d x).trans (ih _)

theorem Die.flrKept_busy (p : Nat) (d : Die) (e v : Nat) (he : e < 8) : Die.flrKept p d (d.put R.ENG_STATUS_BUSY e v) := by
  have hkey (g : Fld) (hg : g.base = 0x300000) : g.key p ≠ R.ENG_STATUS_BUSY.key e := by
    simp only [Fld.key, R.ENG_STATUS_BUSY, hg]
    omega
  exact ⟨Die.get_put_other _ _ _ _ _ _ (hkey _ rfl), Die.get_put_other _ _ _ _ _ _ (hkey _ rfl), rfl, rfl⟩

theorem Die.flrKept_countBy (p q : Nat) (t : Tal) (n : Nat) (d : Die) (ht : T.PCI_VF_FLR.key 0 ≠ t.key q) : Die.flrKept p d (d.countBy t q n) := by
  have h := d.report_countBy t q n
  exact ⟨h.2 _ _ (reportWord_pas _ p rfl (by decide) (by decide) (by decide)), h.2 _ _ (reportWord_pas _ p rfl (by decide) (by decide) (by decide)),
    (congrArg Die.pas h.1).trans rfl, Die.tally_countBy_other _ _ _ _ _ rfl ht⟩

/-- The launches and events of a pasture that wait are dropped and counted; its admission word stands (R301). -/
theorem Die.flrKept_dropWaiting (p : Nat) (d : Die) : Die.flrKept p d (d.dropWaiting p) := by
  have hkey (t : Tal) (ht : 0x300000 ≤ t.base) : T.PCI_VF_FLR.key 0 ≠ t.key p := by
    simp only [Tal.key, T.PCI_VF_FLR]
    omega
  have hfeeds : Die.flrKept p d { d with feeds := KMap.keep d.feeds (fun k => k % 64 != p) } := ⟨rfl, rfl, rfl, rfl⟩
  have hmark (d : Die) (v : Ev) : Die.flrKept p d (d.clearMarker p v.ticket) := ⟨rfl, rfl, rfl, rfl⟩
  have hloop (x : Die) (n : Nat) (l : List Ev) : Die.flrKept p x (l.foldl (fun d v => d.clearMarker p v.ticket)
      (Die.countBy T.FAB_ENTRY_DROP p n { x with looked := KMap.set [] x.looked p [], entries := KMap.keep x.entries (fun k => k % 64 != p) })) :=
    have hx : Die.flrKept p x { x with looked := KMap.set [] x.looked p [], entries := KMap.keep x.entries (fun k => k % 64 != p) } := ⟨rfl, rfl, rfl, rfl⟩
    (hx.trans (Die.flrKept_countBy p p T.FAB_ENTRY_DROP n _ (hkey _ (by decide)))).trans (Die.flrKept_foldl _ hmark _ _)
  unfold Die.dropWaiting
  dsimp only
  have hdrop := hfeeds.trans (Die.flrKept_countBy p p T.PAS_QUEUE_DROP ((d.feeds.filter (fun y => y.1 % 64 == p)).map (fun y => y.2.length)).sum _ (hkey _ (by decide)))
  generalize Die.countBy T.PAS_QUEUE_DROP p _ { d with feeds := KMap.keep d.feeds (fun k => k % 64 != p) } = x at hdrop
  exact hdrop.trans (hloop x _ _)

theorem enginesOf_lt (im : Image) (e : Nat) (h : e ∈ enginesOf im) : e < 8 := by
  unfold enginesOf at h
  simp at h
  omega

/-- How a withdrawal begins (R301). -/
def Die.leaves (p : Nat) (d : Die) : Die :=
  ((d.put R.PAS_ADMIT_STATUS_STATE p 5).flag R.PAS_ADMIT_STATUS_BUSY p true).onPas p (fun q => { q with leaving := 1 })

theorem Die.leaves_status (p : Nat) (d : Die) : (d.leaves p).get R.PAS_ADMIT_STATUS_STATE p = 5 ∧ (d.leaves p).get R.PAS_ADMIT_STATUS_BUSY p = 1
    ∧ ((d.leaves p).pasture p).leaving = 1 ∧ (d.leaves p).tally T.PCI_VF_FLR = d.tally T.PCI_VF_FLR := by
  refine ⟨?_, ?_, ?_, rfl⟩
  · refine (Die.get_put_other (d.put R.PAS_ADMIT_STATUS_STATE p 5) R.PAS_ADMIT_STATUS_BUSY R.PAS_ADMIT_STATUS_STATE p p 1 ?_).trans (Die.get_put_same d R.PAS_ADMIT_STATUS_STATE p 5)
    simp only [Fld.key, R.PAS_ADMIT_STATUS_STATE, R.PAS_ADMIT_STATUS_BUSY]
    omega
  · exact Die.get_put_same (d.put R.PAS_ADMIT_STATUS_STATE p 5) R.PAS_ADMIT_STATUS_BUSY p 1
  · exact congrArg PasSt.leaving (KMap.get_upd_same {} d.pas p (fun q => { q with leaving := 1 }))

theorem Die.flrKept_closeEngines (p : Nat) (l : List Nat) (hl : ∀ e ∈ l, e < 8) (d : Die) :
    Die.flrKept p d (l.foldl (fun d e => (d.closeEntry e p).setBusy e) d) := by
  have hclose (d : Die) (e : Nat) (he : e < 8) : Die.flrKept p d ((d.closeEntry e p).setBusy e) := by
    have hclosed : Die.flrKept p d (d.closeEntry e p) := Die.flrKept.trans ⟨rfl, rfl, rfl, rfl⟩ (Die.flrKept_busy p _ e 1 he)
    exact hclosed.trans (Die.flrKept_busy p _ e _ he)
  induction l generalizing d with
  | nil => exact d.flrKept_refl p
  | cons e l ih => exact (hclose d e (hl e List.mem_cons_self)).trans (ih (fun e he => hl e (List.mem_cons_of_mem _ he)) _)

theorem Die.withdraw_closes (p : Nat) (d : Die) (hb : d.on R.PAS_ADMIT_STATUS_BUSY p = false) (ha : d.admitted p = true) : ∃ l : List Nat, (∀ e ∈ l, e < 8)
    ∧ d.withdraw p = (l.foldl (fun d e => (d.closeEntry e p).setBusy e) ((d.leaves p).unsteer p)).dropWaiting p := by
  refine ⟨match (d.leaves p).image p with | some im => enginesOf im | none => [], ?_, ?_⟩
  · split
    · exact fun e he => enginesOf_lt _ e he
    · exact fun e he => absurd he List.not_mem_nil
  · unfold Die.withdraw
    rw [hb, ha]
    rfl

/-- A withdrawal begins for an admitted image that is not busy; it counts no function level reset (R301). -/
theorem Die.withdraw_begins (p : Nat) (d : Die) : (d.withdraw p).tally T.PCI_VF_FLR = d.tally T.PCI_VF_FLR
    ∧ (d.admitted p = true → d.on R.PAS_ADMIT_STATUS_BUSY p = false → (d.withdraw p).get R.PAS_ADMIT_STATUS_STATE p = 5
      ∧ (d.withdraw p).get R.PAS_ADMIT_STATUS_BUSY p = 1 ∧ ((d.withdraw p).pasture p).leaving = 1) := by
  by_cases hb : d.on R.PAS_ADMIT_STATUS_BUSY p = true
  · rw [Die.withdraw, if_pos hb]
    exact ⟨rfl, fun _ h => absurd (hb.symm.trans h) (by decide)⟩
  · rw [Bool.not_eq_true] at hb
    by_cases ha : d.admitted p = true
    · obtain ⟨l, hl, he⟩ := d.withdraw_closes p hb ha
      rw [he]
      obtain ⟨hstate, hbusy, hleaving, htally⟩ := d.leaves_status p
      have hsteer : Die.flrKept p (d.leaves p) ((d.leaves p).unsteer p) := ⟨rfl, rfl, rfl, rfl⟩
      obtain ⟨h1, h2, h3, h4⟩ := (hsteer.trans (Die.flrKept_closeEngines p l hl _)).trans (Die.flrKept_dropWaiting p _)
      refine ⟨h4.trans htally, fun _ _ => ⟨h1.trans hstate, h2.trans hbusy, ?_⟩⟩
      rw [Die.pasture, h3]
      exact hleaving
    · rw [Die.withdraw, if_neg (by rw [hb]; decide), if_pos (by simpa using ha)]
      exact ⟨rfl, fun h => absurd h ha⟩

/-- The staged record as LOAD leaves it (R591). -/
theorem Die.get_loadStage (v : Nat → Nat) (n : Nat) (d : Die) (k : Nat) (hk : k < n) :
    ((List.range n).foldl (fun d k => d.put (R.OTP_STAGE k) 0 (v k)) d).get (R.OTP_STAGE k) = v k % 2 ^ 32 := by
  induction n with
  | zero => omega
  | succ n ih =>
    rw [List.range_succ, List.foldl_append, List.foldl_cons, List.foldl_nil]
    by_cases hkn : k = n
    · subst hkn
      exact Die.get_put_same _ _ _ _
    · refine (Die.get_put_other _ _ _ _ _ _ ?_).trans (ih (by omega))
      simp only [Fld.key, R.OTP_STAGE]
      omega

@[simp] theorem Die.withdraw_owned (p : Nat) (d : Die) : (d.withdraw p).otp = d.otp ∧ (d.withdraw p).grants = d.grants := by
  simp [Die.withdraw, Die.closeEntry]

theorem vfRings_reset : ∀ f ∈ vfRings, f.reset = 0 := by decide

theorem vfRings_off : ∀ f ∈ vfRings, (f.base = 0x300000 ∨ f.base = 0x340000) ∧ f.off < 0x800 ∧ f.lo < 32 := by decide

theorem Die.vfFlr_eq (p : Nat) (d : Die) : d.vfFlr p = { vfRings.foldl (fun d f => d.put f p 0) ((d.withdraw p).count T.PCI_VF_FLR 0) with
    caps := KMap.keep (vfRings.foldl (fun d f => d.put f p 0) ((d.withdraw p).count T.PCI_VF_FLR 0)).caps (fun k => k / 2 ^ 32 != 4 + p) } := rfl

/-- A function level reset of a VF counts, withdraws its image, and clears its rings and its captures (R583, R597, R621). -/
theorem Die.vfFlr_resets (p : Nat) (d : Die) : (d.vfFlr p).tally T.PCI_VF_FLR = tallyAdd (d.tally T.PCI_VF_FLR) 1 ∧ (d.vfFlr p).grants = d.grants
    ∧ (∀ f ∈ vfRings, (d.vfFlr p).get f p = 0) ∧ (∀ a, a < 2 ^ 32 → KMap.get 0 (d.vfFlr p).caps ((4 + p) * 2 ^ 32 + a) = 0)
    ∧ (d.admitted p = true → d.on R.PAS_ADMIT_STATUS_BUSY p = false → (d.vfFlr p).get R.PAS_ADMIT_STATUS_STATE p = 5
        ∧ (d.vfFlr p).get R.PAS_ADMIT_STATUS_BUSY p = 1 ∧ ((d.vfFlr p).pasture p).leaving = 1) := by
  obtain ⟨htally, hleave⟩ := d.withdraw_begins p
  have hgrants := (d.withdraw_owned p).2
  rw [Die.vfFlr_eq]
  generalize d.withdraw p = x at htally hleave hgrants
  have hrep := Die.report_count T.PCI_VF_FLR 0 x
  have hcount := Die.tally_count_same T.PCI_VF_FLR 0 x rfl
  generalize x.count T.PCI_VF_FLR 0 = y at hrep hcount
  have hregs := Die.clears_regsOnly p vfRings y
  have hclear (f : Fld) (hf : f ∈ vfRings) : (vfRings.foldl (fun d f => d.put f p 0) y).get f p = 0 :=
    Die.get_clears p vfRings vfRings_reset f y (vfRings_reset f hf) (.inl hf)
  have hkept (f : Fld) (hf : f.base = 0x300000 ∧ f.off = 0x800 ∧ f.lo < 32) : (vfRings.foldl (fun d f => d.put f p 0) y).get f p = y.get f p := by
    refine Die.get_clears_other p vfRings f p (fun g hg => ?_) y
    have hoff := vfRings_off g hg
    unfold Fld.key
    omega
  generalize vfRings.foldl (fun d f => d.put f p 0) y = z at hregs hclear hkept
  refine ⟨?_, ?_, hclear, fun a ha => ?_, fun had hb => ⟨?_, ?_, ?_⟩⟩
  · rw [← htally, ← hcount]
    exact (congrArg (fun d : Die => d.tally T.PCI_VF_FLR) hregs).trans rfl
  · exact ((congrArg Die.grants hregs).trans rfl).trans (((congrArg Die.grants hrep.1).trans rfl).trans hgrants)
  · refine (KMap.get_keep 0 z.caps (fun k => k / 2 ^ 32 != 4 + p) ((4 + p) * 2 ^ 32 + a)).trans (if_neg ?_)
    simp only [bne_iff_ne, ne_eq, not_not]
    omega
  · exact ((hkept R.PAS_ADMIT_STATUS_STATE (by decide)).trans (hrep.2 _ _ (reportWord_pas _ p rfl (by decide) (by decide) (by decide)))).trans (hleave had hb).1
  · exact ((hkept R.PAS_ADMIT_STATUS_BUSY (by decide)).trans (hrep.2 _ _ (reportWord_pas _ p rfl (by decide) (by decide) (by decide)))).trans (hleave had hb).2.1
  · have hpas : z.pas = x.pas := ((congrArg Die.pas hregs).trans rfl).trans ((congrArg Die.pas hrep.1).trans rfl)
    rw [Die.pasture, hpas]
    exact (hleave had hb).2.2

theorem Die.otpLoad_loads (r : List Byte) (d : Die) (h : d.otp.record = some r) : d.regsOnly d.otpLoad
    ∧ ∀ k, k < 128 → d.otpLoad.get (R.OTP_STAGE k) = leNat (slice r (4 * k) 4) % 2 ^ 32 := by
  unfold Die.otpLoad
  rw [h]
  exact ⟨Die.regsOnly_foldl _ (fun d k => d.regsOnly_put _ 0 _) _ d, fun k hk => Die.get_loadStage (fun k => leNat (slice r (4 * k) 4)) 128 d k hk⟩

/-- PROGRAM is answered with what stands against it, or begins (R588). -/
theorem Die.otpProgram_answers (w : Nat) (d : Die) (h : d.otp.programming = none) :
    (5 ≤ d.otp.slots.length → d.otpProgram w = d.put R.OTP_STATUS_OTP_RESULT 0 2)
    ∧ (¬ 5 ≤ d.otp.slots.length → recordBad d.stagedRecord = true → d.otpProgram w = d.put R.OTP_STATUS_OTP_RESULT 0 3)
    ∧ (¬ 5 ≤ d.otp.slots.length → ¬ recordBad d.stagedRecord = true → bits w 16 16 ≠ 0xA5A5 → d.otpProgram w = d.put R.OTP_STATUS_OTP_RESULT 0 4)
    ∧ (¬ 5 ≤ d.otp.slots.length → ¬ recordBad d.stagedRecord = true → bits w 16 16 = 0xA5A5 →
        d.otpProgram w = { d with otp := { d.otp with programming := some (d.finalRecord d.stagedRecord) } }) := by
  unfold Die.otpProgram
  rw [h, if_neg (by decide)]
  refine ⟨fun h1 => if_pos h1, fun h1 h2 => ?_, fun h1 h2 h3 => ?_, fun h1 h2 h3 => ?_⟩
  · rw [if_neg h1, if_pos h2]
  · rw [if_neg h1, if_neg h2, if_pos h3]
  · rw [if_neg h1, if_neg h2, if_neg (not_not.2 h3)]

theorem Die.otpDone_ends (ok : Bool) (r : List Byte) (d : Die) (h : d.otp.programming = some r) :
    (d.otpDone ok).get R.OTP_STATUS_OTP_RESULT = (if ok then 1 else 5)
    ∧ (d.otpDone ok).otp = { d.otp with slots := d.otp.slots ++ [⟨if ok then r else []⟩], programming := none } := by
  unfold Die.otpDone
  rw [h]
  refine ⟨(Die.get_put_same _ _ _ _).trans (Nat.mod_eq_of_lt ?_), rfl⟩
  split <;> decide

theorem State.vcelLoss_leaves (s : State) : s.vcelLoss.cel.up = false ∧ s.vcelLoss.cel.settings = s.cel.settings ∧ s.vcelLoss.cel.sealRecord = s.cel.sealRecord
    ∧ s.vcelLoss.kill = s.kill ∧ (s.die.up = false → s.vcelLoss.die = s.die)
    ∧ (s.die.up = true → s.vcelLoss.die.restoring = true ∧ s.vcelLoss.die.up = false ∧ s.vcelLoss.die.get R.PWR_STATUS_LAST_RESET = 3) := by
  unfold State.vcelLoss
  by_cases hup : s.die.up = true
  · dsimp only
    rw [if_pos hup]
    obtain ⟨hkill, hcel, hrest, hu, hlast⟩ := State.faultReset_leaves 19 0 { s with cel := { s.cel with up := false } }
    generalize State.faultReset 19 0 { s with cel := { s.cel with up := false } } = t at hkill hcel hrest hu hlast
    rw [hcel]
    exact ⟨rfl, rfl, rfl, hkill, fun h => absurd (hup.symm.trans h) (by decide), fun _ => ⟨hrest, hu, hlast⟩⟩
  · dsimp only
    rw [if_neg hup]
    exact ⟨rfl, rfl, rfl, rfl, fun _ => rfl, fun h => absurd h hup⟩

theorem State.resetDie_clears (keep : Bool) (cause : Nat) (s : State) (h : cause < 8) :
    s.resetDie keep cause = { s with cel := { s.cel with reserved := (s.resetDie keep cause).cel.reserved }, kill := {}, die := (s.resetDie keep cause).die }
    ∧ (s.resetDie keep cause).die.tallies = (if keep then s.die.tallies else []) ∧ (s.resetDie keep cause).die.store = (if keep then s.die.store else [])
    ∧ (s.resetDie keep cause).die.get R.PWR_STATUS_LAST_RESET = cause ∧ (s.resetDie keep cause).die.up = false
    ∧ (s.resetDie keep cause).die.otp = s.die.otp.interrupt ∧ (s.resetDie keep cause).die.host = s.die.host ∧ (s.resetDie keep cause).die.tiles = []
    ∧ (s.resetDie keep cause).die.rows = [] ∧ (s.resetDie keep cause).die.pas = [] ∧ (s.resetDie keep cause).die.grants = []
    ∧ (s.resetDie keep cause).die.upd = [] ∧ (s.resetDie keep cause).die.launch = [] ∧ (s.resetDie keep cause).die.lanes = [] :=
  ⟨(s.resetDie_frame keep cause).2, s.die.fresh_clears keep cause h⟩

theorem State.railFault_stops (s : State) : (s.railFault = { s with cel := { s.cel with reserved := s.railFault.cel.reserved }, kill := {}, die := s.railFault.die }
    ∧ s.railFault.die.tallies = [] ∧ s.railFault.die.store = [] ∧ s.railFault.die.get R.PWR_STATUS_LAST_RESET = 0 ∧ s.railFault.die.up = false
    ∧ s.railFault.die.otp = s.die.otp.interrupt ∧ s.railFault.die.host = s.die.host ∧ s.railFault.die.tiles = []
    ∧ s.railFault.die.rows = [] ∧ s.railFault.die.pas = [] ∧ s.railFault.die.grants = []
    ∧ s.railFault.die.upd = [] ∧ s.railFault.die.launch = [] ∧ s.railFault.die.lanes = []) ∧ s.railFault.die.off = true := by
  obtain ⟨hframe, hrest⟩ := s.resetDie_clears false 0 (by decide)
  unfold State.railFault
  generalize s.resetDie false 0 = t at hframe hrest
  rw [hframe]
  exact ⟨⟨rfl, hrest⟩, rfl⟩

theorem otpControlW_load (w : Nat) (d : Die) (h : bit w 0 = true) : otpControlW w d = d.otpLoad := by
  rw [otpControlW, lowestWo, List.find?_cons_of_pos h]
  rfl

theorem otpControlW_program (w : Nat) (d : Die) (h : bit w 0 = false) (h1 : bit w 1 = true) : otpControlW w d = d.otpProgram w := by
  rw [otpControlW, lowestWo, List.find?_cons_of_neg (by rw [h]; decide), List.find?_cons_of_pos h1]
  rfl

/-- Settles O50: what each reset takes and leaves, what a start opens, and what becomes of the settings record. -/
theorem resetsAndSettings : Obligations.ResetsAndSettings := by
  unfold Obligations.ResetsAndSettings
  intro s
  dsimp only
  refine ⟨⟨_, rfl, s.resetDie_clears false 0 (by decide)⟩, fun hoff => ⟨_, congrArg Host.Outcome.next (if_neg ?_), s.resetDie_clears true 1 (by decide)⟩,
    fun hoff => congrArg Host.Outcome.next (if_pos hoff), fun src w hg => ⟨fun h0 hk => ⟨_, ?_, s.resetDie_clears true 2 (by decide)⟩, fun h => ?_⟩,
    ⟨_, rfl, s.railFault_stops⟩, ⟨_, rfl, s.vcelLoss_leaves⟩, fun hup hoff hrest => ?_, fun hup => ?_, fun p hp => ?_, fun src w hg => ?_, fun r ok hr => ?_⟩
  · rw [hoff]
    decide
  · change Host.Outcome.next (writeAt src (blockAddr .PWR 0 0x01C) (pwrResetW w.toNat) s) = _
    rw [writeAt_admitted hg, pwrResetW, if_pos (by rw [h0, hk]; rfl)]
  · change Host.Outcome.next (writeAt src (blockAddr .PWR 0 0x01C) (pwrResetW w.toNat) s) = _
    rw [writeAt_admitted hg, pwrResetW, if_neg]
    rw [Bool.and_eq_true, beq_iff_eq]
    rcases h with h | h
    · exact fun hb => absurd (h.symm.trans hb.1) (by decide)
    · exact fun hb => h hb.2
  · obtain ⟨hu, ht, hheld, hel, hotp⟩ := s.die.startup_starts s.fused hup hoff hrest
    refine ⟨s.startup, rfl, rfl, if_neg (by rw [hup, hoff, hrest]; decide), hu, ht, hheld, hel, hotp⟩
  · obtain ⟨hpas, htiles, hgrants, hheld⟩ := s.die.pcieDown_leaves hup
    exact State.completes_onDie (f := Die.pcieDown) rfl rfl ⟨rfl, s.die.pcieDown_down, hpas, htiles, hgrants, hheld⟩
  · obtain ⟨htally, hgrants, hrings, hcaps, hleave⟩ := s.die.vfFlr_resets p
    have hexec : exec (.vfFlr p) s = .next { s with die := s.die.vfFlr p } := by
      change dieCmd (decide (p < 64)) (fun s => s.die.vfFlr p) s = _
      rw [dieCmd, if_pos (decide_eq_true hp)]
    have hoff (f : Fld) (hf : f ∈ vfRings) : (s.die.vfFlr p).on f p = false := congrArg (· == 1) (hrings f hf)
    refine State.completes_dieGives _ hexec rfl ⟨rfl, htally, hgrants, hoff _ (by decide), hoff _ (by decide), hoff _ (by decide), hoff _ (by decide), hcaps, fun ha hb => ?_⟩
    obtain ⟨h1, h2, h3⟩ := hleave ha hb
    exact ⟨h1, congrArg (· == 1) h2, h3⟩
  · have hexec (c : Instr) (hc : exec c s = dieCmd true (writeDie src (blockAddr .OTP 0 0x010) (otpControlW w.toNat)) s) :
        exec c s = .next { s with die := otpControlW w.toNat s.die } := by
      rw [hc, dieCmd, if_pos rfl, writeDie_admitted hg]
    refine ⟨fun r h0 hr => State.completes_dieGives _ (hexec (.otpLoad src w) rfl) (otpControlW_load _ _ h0) ⟨rfl, s.die.otpLoad_loads r hr⟩, fun h0 h1 hp => ?_⟩
    obtain ⟨h2, h3, h4, hgo⟩ := s.die.otpProgram_answers w.toNat hp
    have hrefused (n : Nat) (hn : n < 16) (hd : s.die.otpProgram w.toNat = s.die.put R.OTP_STATUS_OTP_RESULT 0 n) :
        s.completes (.otpProgram src w) (fun t => t = { s with die := t.die } ∧ t.die.get R.OTP_STATUS_OTP_RESULT = n ∧ t.die.otp = s.die.otp) :=
      State.completes_dieGives _ (hexec (.otpProgram src w) rfl) ((otpControlW_program _ _ h0 h1).trans hd)
        ⟨rfl, (Die.get_put_same _ _ _ _).trans (Nat.mod_eq_of_lt hn), rfl⟩
    exact ⟨fun hf => hrefused 2 (by decide) (h2 hf), fun hf hb => hrefused 3 (by decide) (h3 hf hb), fun hf hb hk => hrefused 4 (by decide) (h4 hf hb hk),
      fun hf hb hk => State.completes_dieGives _ (hexec (.otpProgram src w) rfl) ((otpControlW_program _ _ h0 h1).trans (hgo hf hb hk)) ⟨rfl, rfl⟩⟩
  · exact State.completes_onDie (f := Die.otpDone ok) rfl rfl ⟨rfl, s.die.otpDone_ends ok r hr⟩

end Sys2Proof.Machine
end

section
/-! SUPPORT. The discipline of TB0: what an offset, a change of holdover and a record leave of the Cellar (R377 to R380, R402, R406). -/

namespace Sys2Proof.Machine

theorem Cellar.get_put_same (c : Cellar) (f : Fld) (v : Nat) : (c.put f v).get f = v % 2 ^ f.width := by
  unfold Cellar.get Cellar.put
  exact KMap.get_set_same _ _ _ _

theorem Cellar.get_put_other (c : Cellar) (f g : Fld) (v : Nat) (h : g.key 0 ≠ f.key 0) : (c.put f v).get g = c.get g :=
  KMap.get_set_ne _ _ _ _ _ _ h

/-- A quotient rounded to one of its neighbours, to the nearer one where `halves` (R378, R402); a tie draws. -/
theorem Die.roundTo_near (num : Int) (den : Nat) (hd : 0 < den) (halves : Bool) (d : Die) :
    (∃ f, (d.roundTo num den halves).2 = { d with free := f }) ∧ ((d.roundTo num den halves).1 * den - num).natAbs < den
    ∧ (halves = true → 2 * ((d.roundTo num den halves).1 * den - num).natAbs ≤ den) := by
  have hdiv : num / (den : Int) * den + num % den = num := Int.ediv_mul_add_emod num den
  have hlt : num % (den : Int) < den := Int.emod_lt_of_pos num (by omega)
  have hpos : 0 ≤ num % (den : Int) := Int.emod_nonneg num (by omega)
  have hnext : (num / (den : Int) + 1) * den = num / (den : Int) * den + den := by ring
  unfold Die.roundTo
  dsimp only
  generalize num / (den : Int) = q at hdiv hnext ⊢
  generalize num % (den : Int) = r at hdiv hlt hpos ⊢
  by_cases h0 : r.toNat = 0
  · rw [if_pos h0]
    exact ⟨⟨_, rfl⟩, by dsimp only; omega, fun _ => by dsimp only; omega⟩
  · rw [if_neg h0]
    by_cases hlow : halves = true ∧ 2 * r.toNat < den
    · rw [if_pos hlow]
      exact ⟨⟨_, rfl⟩, by dsimp only; omega, fun _ => by dsimp only; omega⟩
    · rw [if_neg hlow]
      by_cases hhigh : halves = true ∧ den < 2 * r.toNat
      · rw [if_pos hhigh]
        exact ⟨⟨_, rfl⟩, by dsimp only; omega, fun _ => by dsimp only; omega⟩
      · rw [if_neg hhigh]
        dsimp only
        have htie (h : halves = true) : 2 * r.toNat = den := by
          have hl : ¬ 2 * r.toNat < den := fun h' => hlow ⟨h, h'⟩
          have hg : ¬ den < 2 * r.toNat := fun h' => hhigh ⟨h, h'⟩
          omega
        have hbit : d.draw.1.toNat % 2 = 0 ∨ d.draw.1.toNat % 2 = 1 := Nat.mod_two_eq_zero_or_one _
        rcases hbit with hb | hb
        · rw [hb, Int.ofNat_zero, Int.add_zero]
          exact ⟨⟨_, rfl⟩, by omega, fun h => by have := htie h; omega⟩
        · rw [hb, Int.ofNat_one]
          exact ⟨⟨_, rfl⟩, by omega, fun h => by have := htie h; omega⟩

/-- What no discipline of TB0 touches: the PPS edges, the calibration run and the submission. -/
def Cellar.sideKept (c e : Cellar) : Prop :=
  e.ppsFc16 = c.ppsFc16 ∧ e.calEdges = c.calEdges ∧ e.calBad = c.calBad ∧ e.submit = c.submit ∧ e.get R.CEL_STATUS_PPS_PRESENT = c.get R.CEL_STATUS_PPS_PRESENT

/-- The change of holdover that an offset brings (R379, R406). -/
theorem State.takeRate_takes (a : Int) (s : State) : (s.takeRate a).kill = s.kill ∧ (s.takeRate a).die = s.die ∧ (s.takeRate a).cel.tb0 = s.cel.tb0
    ∧ (s.takeRate a).cel.oPrev = s.cel.oPrev ∧ (s.takeRate a).cel.offFc = s.cel.offFc ∧ (s.takeRate a).cel.freq = s.cel.freq ∧ s.cel.sideKept (s.takeRate a).cel
    ∧ (s.cel.holdNext = true → ¬ (s.cel.full = true ∨ s.cel.deferHold ≠ []) → (s.takeRate a).cel.get R.CEL_STATUS_HOLDOVER = 0 ∧ (s.takeRate a).cel.adj0 = a
        ∧ (s.takeRate a).cel.celQ.length = s.cel.celQ.length + 1)
    ∧ (s.cel.holdNext = false → s.cel.deferHold = [] → (s.takeRate a).cel.get R.CEL_STATUS_HOLDOVER = s.cel.get R.CEL_STATUS_HOLDOVER
        ∧ (s.takeRate a).cel.adj0 = a ∧ (s.takeRate a).cel.celQ = s.cel.celQ)
    ∧ (s.cel.holdNext = true → (s.cel.full = true ∨ s.cel.deferHold ≠ []) → (s.takeRate a).cel.adj0 = s.cel.adj0
        ∧ (s.takeRate a).cel.get R.CEL_STATUS_HOLDOVER = s.cel.get R.CEL_STATUS_HOLDOVER
        ∧ (s.takeRate a).cel.deferHold = s.cel.deferHold ++ [some a] ∧ (s.takeRate a).cel.celQ = s.cel.celQ)
    ∧ (s.cel.holdNext = false → s.cel.deferHold ≠ [] → (s.takeRate a).cel.adj0 = s.cel.adj0
        ∧ (s.takeRate a).cel.get R.CEL_STATUS_HOLDOVER = s.cel.get R.CEL_STATUS_HOLDOVER
        ∧ (s.takeRate a).cel.deferHold = s.cel.deferHold.dropLast ++ [some a] ∧ (s.takeRate a).cel.celQ = s.cel.celQ) := by
  unfold State.takeRate
  by_cases hh : s.cel.holdNext = true
  · rw [if_pos hh]
    have hno : s.cel.holdNext ≠ false := by rw [hh]; decide
    unfold State.orDefer
    by_cases hw : s.cel.full = true ∨ s.cel.deferHold ≠ []
    · rw [if_pos (by simpa using hw)]
      exact ⟨rfl, rfl, rfl, rfl, rfl, rfl, ⟨rfl, rfl, rfl, rfl, rfl⟩, fun _ h => absurd hw h, fun h => absurd h hno, fun _ _ => ⟨rfl, rfl, rfl, rfl⟩, fun h => absurd h hno⟩
    · rw [if_neg (by simpa using hw)]
      refine ⟨rfl, rfl, rfl, rfl, rfl, rfl, ⟨rfl, rfl, rfl, rfl, ?_⟩, fun _ _ => ⟨?_, rfl, ?_⟩, fun h => absurd h hno, fun _ h => absurd h hw, fun h => absurd h hno⟩
      · exact Cellar.get_put_other s.cel R.CEL_STATUS_HOLDOVER R.CEL_STATUS_PPS_PRESENT 0 (by decide)
      · exact Cellar.get_put_same s.cel R.CEL_STATUS_HOLDOVER 0
      · exact List.length_append
  · rw [if_neg hh]
    by_cases hd : s.cel.deferHold = []
    · rw [if_pos (by rw [hd]; rfl)]
      exact ⟨rfl, rfl, rfl, rfl, rfl, rfl, ⟨rfl, rfl, rfl, rfl, rfl⟩, fun h => absurd h hh, fun _ _ => ⟨rfl, rfl, rfl⟩, fun h => absurd h hh, fun _ h => absurd hd h⟩
    · rw [if_neg (by simpa using hd)]
      exact ⟨rfl, rfl, rfl, rfl, rfl, rfl, ⟨rfl, rfl, rfl, rfl, rfl⟩, fun h => absurd h hh, fun _ h => absurd h hd, fun h => absurd h hh, fun _ _ => ⟨rfl, rfl, rfl, rfl⟩⟩

/-- A refused offset or step of TB0 (R378, R380). -/
theorem State.jumpRefused_refuses (s : State) : s.jumpRefused.kill = s.kill ∧ (∃ r, s.jumpRefused.cel = { s.cel with regs := r })
    ∧ s.jumpRefused.cel.get R.CEL_STATUS_JUMP_REFUSED = 1
    ∧ s.jumpRefused.cel.get R.CEL_STATUS_PPS_PRESENT = s.cel.get R.CEL_STATUS_PPS_PRESENT
    ∧ s.jumpRefused.die.tally T.CEL_JUMP_REFUSE = tallyAdd (s.die.tally T.CEL_JUMP_REFUSE) 1 ∧ s.jumpRefused.die.emits = s.die.emits := by
  refine ⟨rfl, ⟨_, rfl⟩, Cellar.get_put_same _ _ _, Cellar.get_put_other _ _ _ _ (by decide), ?_, ?_⟩
  · exact ((Die.traced_incident 11 6 0 0 _).tally _ _ rfl).trans (Die.tally_count_same _ _ _ rfl)
  · exact (Die.incident_emits _ _ _ _ _).trans (Die.count_emits _ _ _)

/-- The rate that an accepted offset measures (R378). -/
def State.measured (o : Int) (fc : Nat) (ref : Int) (s : State) : Int × Die :=
  if s.cel.get R.CEL_STATUS_SOURCE = 2 ∧ s.cel.get R.CEL_STATUS_REF10M_PRESENT = 1 then (ref, s.die)
  else match s.cel.oPrev with
    | none => (s.cel.freq, s.die)
    | some p =>
      if fc ≤ s.cel.offFc then (sext s.die.draw.1.toNat 64, s.die.draw.2)
      else
        let r := s.die.roundTo ((o - p) * 2 ^ 24) (4 * (fc - s.cel.offFc)) true
        (s.cel.freq - r.1, r.2)

theorem State.measured_rate (o : Int) (fc : Nat) (ref : Int) (s : State) : (∃ f, (s.measured o fc ref).2 = { s.die with free := f })
    ∧ (s.cel.get R.CEL_STATUS_SOURCE = 2 → s.cel.get R.CEL_STATUS_REF10M_PRESENT = 1 → (s.measured o fc ref).1 = ref)
    ∧ (¬ (s.cel.get R.CEL_STATUS_SOURCE = 2 ∧ s.cel.get R.CEL_STATUS_REF10M_PRESENT = 1) → (s.cel.oPrev = none → (s.measured o fc ref).1 = s.cel.freq)
        ∧ (∀ p, s.cel.oPrev = some p → s.cel.offFc < fc → ∃ r : Int, (s.measured o fc ref).1 = s.cel.freq - r
            ∧ 2 * (r * (4 * (fc - s.cel.offFc) : Nat) - (o - p) * 2 ^ 24).natAbs ≤ 4 * (fc - s.cel.offFc))) := by
  unfold State.measured
  by_cases href : s.cel.get R.CEL_STATUS_SOURCE = 2 ∧ s.cel.get R.CEL_STATUS_REF10M_PRESENT = 1
  · rw [if_pos href]
    exact ⟨⟨_, rfl⟩, fun _ _ => rfl, fun h => absurd href h⟩
  · rw [if_neg href]
    refine ⟨?_, fun h1 h2 => absurd ⟨h1, h2⟩ href, fun _ => ⟨fun hp => ?_, fun p hp hlt => ?_⟩⟩
    · split
      · exact ⟨_, rfl⟩
      · split
        · exact ⟨_, rfl⟩
        · next hlt => exact (s.die.roundTo_near _ _ (by omega) true).1
    · rw [hp]
    · rw [hp]
      dsimp only
      rw [if_neg (by omega)]
      exact ⟨_, rfl, (s.die.roundTo_near _ _ (by omega) true).2.2 rfl⟩

theorem State.correct_eq (o : Int) (fc : Nat) (ref : Int) (s : State) (h : ¬ s.cel.settings.jump0 * 100 * 65536 < o.natAbs) : s.correct o fc ref
    = State.takeRate (clampTo s.cel.lim0 ((s.measured o fc ref).1 + ((s.measured o fc ref).2.roundTo (-o * 2 ^ 24) (8 * 10 ^ 9) true).1))
      { s with die := ((s.measured o fc ref).2.roundTo (-o * 2 ^ 24) (8 * 10 ^ 9) true).2.count T.CEL_CORRECTIONS 0
               cel := { s.cel with freq := (s.measured o fc ref).1, oPrev := some o, offFc := fc } } := by
  unfold State.correct
  rw [if_neg h]
  rfl

/-- An offset that is taken or refused leaves the side of the Cellar alone, and drives nothing. -/
theorem State.correct_sideKept (o : Int) (fc : Nat) (ref : Int) (s : State) : s.cel.sideKept (s.correct o fc ref).cel ∧ (s.correct o fc ref).die.emits = s.die.emits := by
  by_cases hfar : s.cel.settings.jump0 * 100 * 65536 < o.natAbs
  · unfold State.correct
    dsimp only
    rw [if_pos hfar]
    split
    · exact ⟨⟨rfl, rfl, rfl, rfl, Cellar.get_put_other _ _ _ _ (by decide)⟩, rfl⟩
    · obtain ⟨-, ⟨r, hr⟩, -, hpps, -, hemits⟩ := s.jumpRefused_refuses
      refine ⟨⟨?_, ?_, ?_, ?_, hpps⟩, hemits⟩ <;> rw [hr]
  · rw [s.correct_eq o fc ref hfar]
    obtain ⟨⟨f, hf⟩, -, -⟩ := s.measured_rate o fc ref
    obtain ⟨⟨g, hg⟩, -, -⟩ := (s.measured o fc ref).2.roundTo_near (-o * 2 ^ 24) (8 * 10 ^ 9) (by decide) true
    generalize ((s.measured o fc ref).2.roundTo (-o * 2 ^ 24) (8 * 10 ^ 9) true) = x at hg ⊢
    obtain ⟨-, hdie, -, -, -, -, hside, -⟩ := State.takeRate_takes (clampTo s.cel.lim0 ((s.measured o fc ref).1 + x.1))
      { s with die := x.2.count T.CEL_CORRECTIONS 0, cel := { s.cel with freq := (s.measured o fc ref).1, oPrev := some o, offFc := fc } }
    refine ⟨hside, ?_⟩
    rw [hdie]
    refine (Die.count_emits _ _ _).trans ?_
    rw [hg, hf]

/-- correct(o) of R378. -/
theorem State.correct_taken (o : Int) (fc : Nat) (ref : Int) (s : State) : s.offsetTaken (s.correct o fc ref) o fc ref := by
  unfold State.offsetTaken
  dsimp only
  by_cases hfar : s.cel.settings.jump0 * 100 * 65536 < o.natAbs
  · by_cases hstep : s.cel.get R.CEL_CONTROL_AUTH0 = 1 ∧ s.cel.full = false
    · have he : s.correct o fc ref = { s with cel := (s.cel.step (-o) false).put R.CEL_CONTROL_AUTH0 0 } := by
        unfold State.correct
        dsimp only
        rw [if_pos hfar, if_pos hstep]
      rw [he]
      exact ⟨rfl, fun h => absurd hfar h, fun _ h => absurd hstep h, fun _ _ _ => ⟨rfl, Cellar.get_put_same _ _ _, rfl, List.length_append, rfl⟩⟩
    · have he : s.correct o fc ref = s.jumpRefused := by
        unfold State.correct
        dsimp only
        rw [if_pos hfar, if_neg hstep]
      rw [he]
      obtain ⟨hkill, ⟨r, hr⟩, href, -, htally, -⟩ := s.jumpRefused_refuses
      refine ⟨hkill, fun h => absurd hfar h, fun _ _ => ⟨?_, ?_, ?_, ?_, ?_, href, htally⟩, fun _ h1 h2 => absurd ⟨h1, h2⟩ hstep⟩ <;> rw [hr]
  · rw [s.correct_eq o fc ref hfar]
    obtain ⟨⟨f, hf⟩, hrefIs, hrate⟩ := s.measured_rate o fc ref
    obtain ⟨⟨g, hg⟩, -, hnear⟩ := (s.measured o fc ref).2.roundTo_near (-o * 2 ^ 24) (8 * 10 ^ 9) (by decide) true
    generalize s.measured o fc ref = m at hf hrefIs hrate hg hnear ⊢
    generalize m.2.roundTo (-o * 2 ^ 24) (8 * 10 ^ 9) true = x at hg hnear ⊢
    obtain ⟨hkill, hdie, htb0, hprev, hfc, hfreq, -, h1, h2, h3, h4⟩ := State.takeRate_takes (clampTo s.cel.lim0 (m.1 + x.1))
      { s with die := x.2.count T.CEL_CORRECTIONS 0, cel := { s.cel with freq := m.1, oPrev := some o, offFc := fc } }
    generalize State.takeRate (clampTo s.cel.lim0 (m.1 + x.1))
      { s with die := x.2.count T.CEL_CORRECTIONS 0, cel := { s.cel with freq := m.1, oPrev := some o, offFc := fc } } = t at hkill hdie htb0 hprev hfc hfreq h1 h2 h3 h4
    have hm : t.cel.freq = m.1 := hfreq
    refine ⟨hkill, fun _ => ⟨htb0, hprev, hfc, ?_, fun hs hr => hm.trans (hrefIs hs hr), fun hno => ?_, x.1, ?_, ?_⟩, fun h => absurd h hfar, fun h => absurd h hfar⟩
    · rw [hdie]
      refine (Die.tally_count_same T.CEL_CORRECTIONS 0 x.2 rfl).trans ?_
      rw [hg, hf]
      rfl
    · rw [hm]
      exact hrate hno
    · have h := hnear rfl
      push_cast at h ⊢
      omega
    · rw [hm]
      exact ⟨h1, h2, h3, h4⟩

/-- What correct(o) reads of a state. -/
theorem State.offsetTaken_of {s s' t : State} {o : Int} {fc : Nat} {ref : Int} (hkill : s'.kill = s.kill) (htallies : s'.die.tallies = s.die.tallies)
    (hset : s'.cel.settings = s.cel.settings) (hq : s'.cel.celQ = s.cel.celQ) (hsl : s'.cel.slots = s.cel.slots) (hst : s'.cel.steps = s.cel.steps)
    (hdef : s'.cel.deferHold = s.cel.deferHold) (htb : s'.cel.tb0 = s.cel.tb0) (hprev : s'.cel.oPrev = s.cel.oPrev) (hoff : s'.cel.offFc = s.cel.offFc)
    (hfreq : s'.cel.freq = s.cel.freq) (hadj : s'.cel.adj0 = s.cel.adj0)
    (hget : ∀ f ∈ [R.CEL_STATUS_SOURCE, R.CEL_STATUS_REF10M_PRESENT, R.CEL_STATUS_HOLDOVER, R.CEL_CONTROL_AUTH0], s'.cel.get f = s.cel.get f)
    (h : s'.offsetTaken t o fc ref) : s.offsetTaken t o fc ref := by
  unfold State.offsetTaken Cellar.full Cellar.celUsed Cellar.holdNext Cellar.lim0 Die.tally at *
  dsimp only at h ⊢
  rw [hkill, htallies, hset, hq, hsl, hst, hdef, htb, hprev, hoff, hfreq, hadj, hget R.CEL_STATUS_SOURCE (by simp), hget R.CEL_STATUS_REF10M_PRESENT (by simp),
    hget R.CEL_STATUS_HOLDOVER (by simp), hget R.CEL_CONTROL_AUTH0 (by simp)] at h
  exact h

/-- An edge of PPS_IN is one of a calibration's 16 (R402). -/
theorem State.calEdge_counts (inTime : Bool) (s : State) :
    (s.cel.get R.CEL_STATUS_CAL_BUSY = 1 ∧ s.cel.calEdges < 16 → State.calEdge inTime s = { s with
        cel := { s.cel with calEdges := s.cel.calEdges + 1, calBad := s.cel.calBad || !inTime }
        die := { s.die with emits := s.die.emits ++ (if outputPoint (s.cel.get R.CEL_CONTROL_CAL_POINT) = true then [.drive (s.cel.get R.CEL_CONTROL_CAL_POINT)] else []) } })
    ∧ (¬ (s.cel.get R.CEL_STATUS_CAL_BUSY = 1 ∧ s.cel.calEdges < 16) → State.calEdge inTime s = s) := by
  unfold State.calEdge
  dsimp only
  refine ⟨fun h => ?_, fun h => if_neg h⟩
  rw [if_pos h]
  split
  · rfl
  · rw [List.append_nil]

/-- A PPS_IN edge 1 s ± 1 µs after the last one (R377). -/
def ppsInTime (last : Option Nat) (fc16 : Nat) : Bool :=
  match last with
  | some f => decide (f + 16 * (10 ^ 9 - 1000) ≤ fc16) && decide (fc16 ≤ f + 16 * (10 ^ 9 + 1000))
  | none => false

theorem ppsInTime_iff (last : Option Nat) (fc16 : Nat) : ppsInTime last fc16 = true
    ↔ ∃ f, last = some f ∧ f + 16 * (10 ^ 9 - 1000) ≤ fc16 ∧ fc16 ≤ f + 16 * (10 ^ 9 + 1000) := by
  cases last <;> simp [ppsInTime]

/-- The Cellar once the presence of PPS_IN has been taken. -/
def Cellar.ppsSeen (fc16 : Nat) (c : Cellar) : Cellar := { c.put R.CEL_STATUS_PPS_PRESENT (b2n (ppsInTime c.ppsFc16 fc16)) with ppsFc16 := some fc16 }

theorem Cellar.ppsSeen_get (fc16 : Nat) (c : Cellar) (f : Fld) (h : f.key 0 ≠ R.CEL_STATUS_PPS_PRESENT.key 0) : (c.ppsSeen fc16).get f = c.get f :=
  Cellar.get_put_other c R.CEL_STATUS_PPS_PRESENT f _ h

theorem Cellar.ppsSeen_present (fc16 : Nat) (c : Cellar) : (c.ppsSeen fc16).get R.CEL_STATUS_PPS_PRESENT = b2n (ppsInTime c.ppsFc16 fc16) := by
  refine (Cellar.get_put_same c R.CEL_STATUS_PPS_PRESENT _).trans ?_
  cases ppsInTime c.ppsFc16 fc16 <;> rfl

/-- PPS_EDGE once its presence has been taken (R377): the edge of a calibration, and the offset of a PPS source. -/
theorem State.ppsEdge_eq (cap : Capture) (ref : Int) (s : State) (hup : s.cel.up = true) : s.ppsEdge cap ref
    = if s.cel.get R.CEL_STATUS_SOURCE = 1 ∨ s.cel.get R.CEL_STATUS_SOURCE = 2 then
        State.correct (ppsOffset (s.cel.capTb0 0 false cap)) (s.cel.capFc 0 false cap / 16) ref
          (State.calEdge (ppsInTime s.cel.ppsFc16 cap.fc16) { s with cel := s.cel.ppsSeen cap.fc16 })
      else State.calEdge (ppsInTime s.cel.ppsFc16 cap.fc16) { s with cel := s.cel.ppsSeen cap.fc16 } := by
  rw [← s.cel.ppsSeen_get cap.fc16 R.CEL_STATUS_SOURCE (by decide)]
  unfold State.ppsEdge
  rw [if_pos hup]
  rfl

/-- What PPS_EDGE leaves (R377, R378, R402). -/
theorem State.ppsEdge_edges (cap : Capture) (ref : Int) (s : State) (hup : s.cel.up = true) :
    let counted := s.cel.get R.CEL_STATUS_CAL_BUSY = 1 ∧ s.cel.calEdges < 16
    let point := s.cel.get R.CEL_CONTROL_CAL_POINT
    let inTime := ppsInTime s.cel.ppsFc16 cap.fc16
    let pps := s.cel.get R.CEL_STATUS_SOURCE = 1 ∨ s.cel.get R.CEL_STATUS_SOURCE = 2
    let t := s.ppsEdge cap ref
    t.cel.ppsFc16 = some cap.fc16 ∧ t.cel.get R.CEL_STATUS_PPS_PRESENT = b2n inTime
    ∧ (counted → t.cel.calEdges = s.cel.calEdges + 1 ∧ t.cel.calBad = (s.cel.calBad || !inTime))
    ∧ (¬ counted → t.cel.calEdges = s.cel.calEdges ∧ t.cel.calBad = s.cel.calBad)
    ∧ t.die.emits = s.die.emits ++ (if counted ∧ outputPoint point = true then [.drive point] else [])
    ∧ (pps → s.offsetTaken t (ppsOffset (s.cel.capTb0 0 false cap)) (s.cel.capFc 0 false cap / 16) ref)
    ∧ (¬ pps → t.cel.tb0 = s.cel.tb0 ∧ t.cel.adj0 = s.cel.adj0 ∧ t.cel.celQ = s.cel.celQ
        ∧ t = { s with cel := t.cel, die := { s.die with emits := s.die.emits ++ (if counted ∧ outputPoint point = true then [.drive point] else []) } }) := by
  intro counted point inTime pps t
  obtain ⟨hyes, hno⟩ := State.calEdge_counts inTime { s with cel := s.cel.ppsSeen cap.fc16 }
  have hbusy := s.cel.ppsSeen_get cap.fc16 R.CEL_STATUS_CAL_BUSY (by decide)
  have hpoint := s.cel.ppsSeen_get cap.fc16 R.CEL_CONTROL_CAL_POINT (by decide)
  have hpresent := s.cel.ppsSeen_present cap.fc16
  obtain ⟨b, k, e, hx, hk, hnk, he⟩ : ∃ b k e, State.calEdge inTime { s with cel := s.cel.ppsSeen cap.fc16 }
      = { s with cel := { s.cel.ppsSeen cap.fc16 with calEdges := k, calBad := b }, die := { s.die with emits := s.die.emits ++ e } }
      ∧ (counted → k = s.cel.calEdges + 1 ∧ b = (s.cel.calBad || !inTime)) ∧ (¬ counted → k = s.cel.calEdges ∧ b = s.cel.calBad)
      ∧ e = (if counted ∧ outputPoint point = true then [.drive point] else []) := by
    by_cases hc : counted
    · have hc' : Cellar.get (s.cel.ppsSeen cap.fc16) R.CEL_STATUS_CAL_BUSY = 1 ∧ (s.cel.ppsSeen cap.fc16).calEdges < 16 := ⟨hbusy.trans hc.1, hc.2⟩
      refine ⟨_, _, _, (hyes hc').trans rfl, fun _ => ⟨rfl, rfl⟩, fun h => absurd hc h, ?_⟩
      dsimp only
      rw [hpoint]
      by_cases hp : outputPoint point = true
      · rw [if_pos hp, if_pos ⟨hc, hp⟩]
      · rw [if_neg hp, if_neg (fun h => hp h.2)]
    · have hc' : ¬ (Cellar.get (s.cel.ppsSeen cap.fc16) R.CEL_STATUS_CAL_BUSY = 1 ∧ (s.cel.ppsSeen cap.fc16).calEdges < 16) :=
        fun h => hc ⟨hbusy.symm.trans h.1, h.2⟩
      refine ⟨_, _, [], (hno hc').trans ?_, fun h => absurd h hc, fun _ => ⟨rfl, rfl⟩, (if_neg (fun h => hc h.1)).symm⟩
      rw [List.append_nil]
      rfl
  have ht := s.ppsEdge_eq cap ref hup
  rw [hx] at ht
  have hin (y : Cellar) (hy : Cellar.sideKept { s.cel.ppsSeen cap.fc16 with calEdges := k, calBad := b } y) : y.ppsFc16 = some cap.fc16
      ∧ y.get R.CEL_STATUS_PPS_PRESENT = b2n inTime ∧ (counted → y.calEdges = s.cel.calEdges + 1 ∧ y.calBad = (s.cel.calBad || !inTime))
      ∧ (¬ counted → y.calEdges = s.cel.calEdges ∧ y.calBad = s.cel.calBad) := by
    obtain ⟨h1, h2, h3, -, h5⟩ := hy
    exact ⟨h1, h5.trans hpresent, fun h => ⟨h2.trans (hk h).1, h3.trans (hk h).2⟩, fun h => ⟨h2.trans (hnk h).1, h3.trans (hnk h).2⟩⟩
  by_cases hp : pps
  · rw [if_pos hp] at ht
    obtain ⟨hside, hemits⟩ := State.correct_sideKept (ppsOffset (s.cel.capTb0 0 false cap)) (s.cel.capFc 0 false cap / 16) ref
      { s with cel := { s.cel.ppsSeen cap.fc16 with calEdges := k, calBad := b }, die := { s.die with emits := s.die.emits ++ e } }
    have htaken := State.correct_taken (ppsOffset (s.cel.capTb0 0 false cap)) (s.cel.capFc 0 false cap / 16) ref
      { s with cel := { s.cel.ppsSeen cap.fc16 with calEdges := k, calBad := b }, die := { s.die with emits := s.die.emits ++ e } }
    rw [← ht] at hside hemits htaken
    obtain ⟨h1, h2, h3, h4⟩ := hin _ hside
    refine ⟨h1, h2, h3, h4, hemits.trans (by rw [he]), fun _ => ?_, fun h => absurd hp h⟩
    refine State.offsetTaken_of ?_ ?_ ?_ ?_ ?_ ?_ ?_ ?_ ?_ ?_ ?_ ?_ ?_ htaken
    any_goals rfl
    intro f hf
    refine s.cel.ppsSeen_get cap.fc16 f ?_
    fin_cases hf <;> decide
  · rw [if_neg hp] at ht
    obtain ⟨h1, h2, h3, h4⟩ := hin { s.cel.ppsSeen cap.fc16 with calEdges := k, calBad := b } ⟨rfl, rfl, rfl, rfl, rfl⟩
    change t = _ at ht
    rw [ht]
    exact ⟨h1, h2, h3, h4, by rw [he], fun h => absurd h hp, fun _ => ⟨rfl, rfl, rfl, by rw [he]⟩⟩

/-- The Cellar enters holdover (R379), or defers it (R406). -/
theorem State.enterHold_enters (s : State) : (s.cel.holdNext = true → s.enterHold = s)
    ∧ (s.cel.holdNext = false → s.cel.full = false → s.cel.deferHold = [] → s.enterHold = { s with cel := s.enterHold.cel, die := s.die.alarm 9 }
      ∧ s.enterHold.cel.get R.CEL_STATUS_HOLDOVER = 1 ∧ s.enterHold.cel.adj0 = clampTo s.cel.lim0 s.cel.freq
      ∧ s.enterHold.cel.tb0 = s.cel.tb0 ∧ s.enterHold.cel.celQ.length = s.cel.celQ.length + 1)
    ∧ (s.cel.holdNext = false → (s.cel.full = true ∨ s.cel.deferHold ≠ []) →
      s.enterHold = { s with cel := { s.cel with deferHold := s.cel.deferHold ++ [none] } }) := by
  unfold State.enterHold
  refine ⟨fun h => if_pos h, fun h hf hd => ?_, fun h hw => ?_⟩
  · rw [if_neg (by rw [h]; decide), State.orDefer, hf, hd]
    exact ⟨rfl, Cellar.get_put_same s.cel R.CEL_STATUS_HOLDOVER 1, rfl, rfl, List.length_append⟩
  · rw [if_neg (by rw [h]; decide), State.orDefer, if_pos]
    simpa using hw

/-- Settles O29: each event of the discipline by what it takes, defers or leaves. -/
theorem tb0Disciplined : Obligations.Tb0Disciplined := by
  unfold Obligations.Tb0Disciplined
  intro s cap ref
  dsimp only
  refine ⟨fun hup => ⟨_, rfl, ?_⟩, fun hdown => ⟨⟨_, rfl, if_neg (by rw [hdown]; decide)⟩, ⟨_, rfl, if_neg (by rw [hdown]; decide)⟩⟩, fun hup => ?_,
    ⟨_, rfl, rfl, Cellar.get_put_same s.cel R.CEL_STATUS_PPS_PRESENT 0, rfl, rfl, rfl, rfl⟩, fun b => ⟨_, rfl, rfl, ?_⟩⟩
  · obtain ⟨h1, h2, h3, h4, h5, h6, h7⟩ := s.ppsEdge_edges cap ref hup
    have hin := ppsInTime_iff s.cel.ppsFc16 cap.fc16
    refine ⟨h1, ?_, ?_, fun hc => ⟨(h3 hc).1, ?_⟩, h4, fun hc hp => ?_, h6, h7⟩
    · rw [h2]
      cases ppsInTime s.cel.ppsFc16 cap.fc16 <;> decide
    · rw [h2, ← hin]
      cases ppsInTime s.cel.ppsFc16 cap.fc16 <;> decide
    · rw [(h3 hc).2, ← hin, Bool.or_eq_true, Bool.not_eq_true']
      exact or_congr_right (Bool.not_eq_true _).symm.to_iff
    · rw [h5, if_pos ⟨hc, hp⟩]
      exact List.mem_append_right _ List.mem_cons_self
  · have hexec : exec .tb0Holdover s = .next s.enterHold := congrArg Host.Outcome.next (if_pos hup)
    obtain ⟨h1, h2, h3⟩ := s.enterHold_enters
    exact ⟨fun h => ⟨_, hexec, h1 h⟩, fun h hf hd => ⟨_, hexec, h2 h hf hd⟩, fun h hw => ⟨_, hexec, h3 h hw⟩⟩
  · refine (Cellar.get_put_same s.cel R.CEL_STATUS_REF10M_PRESENT (b2n b)).trans ?_
    cases b <;> rfl

end Sys2Proof.Machine
end

section
/-! SUPPORT. The owner's hand on TB0: the source, the steps and the submissions (R377, R380 to R382, R406). -/

namespace Sys2Proof.Machine

theorem sourceMask_lt (v : Nat) (h : v ≤ 4) : v % 2 ^ 3 = v := Nat.mod_eq_of_lt (by omega)

/-- The Cellar once a write of CEL_DISC has taken its mask and its port (R377, R398). -/
def Cellar.discTaken (w : Nat) (c : Cellar) : Cellar :=
  let c1 := if c.sealed then c else { c with settings := { c.settings with mask := bits w 8 5 } }
  if c1.get R.CEL_DISC_PORT = bits w 4 4 then c1 else { c1.put R.CEL_DISC_PORT (bits w 4 4) with ptpCaps := [] }

theorem Cellar.discTaken_takes (w : Nat) (c : Cellar) : (∃ r p, c.discTaken w = { c with
      regs := r, ptpCaps := p, settings := { c.settings with mask := if c.sealed then c.settings.mask else bits w 8 5 } })
    ∧ (c.discTaken w).get R.CEL_DISC_PORT = bits w 4 4 ∧ ∀ f, f.key 0 ≠ R.CEL_DISC_PORT.key 0 → (c.discTaken w).get f = c.get f := by
  obtain ⟨y, hy, hget⟩ : ∃ y, (if c.sealed then c else { c with settings := { c.settings with mask := bits w 8 5 } }) = y
      ∧ y = { c with settings := { c.settings with mask := if c.sealed then c.settings.mask else bits w 8 5 } } := by
    refine ⟨_, rfl, ?_⟩
    split <;> rfl
  have hsame (f : Fld) : y.get f = c.get f := by rw [hget]; rfl
  unfold Cellar.discTaken
  rw [hy]
  dsimp only
  by_cases hp : y.get R.CEL_DISC_PORT = bits w 4 4
  · rw [if_pos hp]
    exact ⟨⟨_, _, hget⟩, hp, fun f _ => hsame f⟩
  · rw [if_neg hp]
    refine ⟨⟨(y.put R.CEL_DISC_PORT (bits w 4 4)).regs, [], ?_⟩, ?_, fun f hf => ?_⟩
    · rw [hget]
      rfl
    · refine (Cellar.get_put_same y R.CEL_DISC_PORT _).trans (Nat.mod_eq_of_lt ?_)
      exact Nat.mod_lt _ (by decide)
    · exact (Cellar.get_put_other y R.CEL_DISC_PORT f _ hf).trans (hsame f)

theorem celDiscW_eq (w : Nat) (s : State) : celDiscW w s =
    if 4 < bits w 0 3 then { s with cel := s.cel.discTaken w }
    else if bit (s.cel.discTaken w).settings.mask (bits w 0 3) = false ∨ ((s.cel.discTaken w).full ∧ bits w 0 3 ≠ (s.cel.discTaken w).get R.CEL_DISC_SOURCE) then
      { s with cel := (s.cel.discTaken w).put R.CEL_STATUS_DISC_REFUSED 1 }
    else if bits w 0 3 = (s.cel.discTaken w).get R.CEL_DISC_SOURCE then { s with cel := s.cel.discTaken w }
    else if bits w 0 3 = 0 ∧ (((s.cel.discTaken w).put R.CEL_DISC_SOURCE (bits w 0 3)).put R.CEL_STATUS_SOURCE (bits w 0 3)).get R.CEL_STATUS_HOLDOVER = 0 then
      State.changeHold none { s with cel := ((s.cel.discTaken w).put R.CEL_DISC_SOURCE (bits w 0 3)).put R.CEL_STATUS_SOURCE (bits w 0 3) }
    else { s with cel := (((s.cel.discTaken w).put R.CEL_DISC_SOURCE (bits w 0 3)).put R.CEL_STATUS_SOURCE (bits w 0 3)).sourceRecord } := rfl

theorem State.record_kept (type b1 : Nat) (mid tail : List Byte) (c : Cellar) : (c.record type b1 mid tail).regs = c.regs
    ∧ (c.record type b1 mid tail).celQ.length = c.celQ.length + 1 := ⟨rfl, List.length_append⟩

/-- A source that is selected (R377, R379). -/
theorem Cellar.selects (v : Nat) (hv : v ≤ 4) (c : Cellar) (s : State) (hs : s.cel = (c.put R.CEL_DISC_SOURCE v).put R.CEL_STATUS_SOURCE v) (t : State)
    (ht : t = if v = 0 ∧ s.cel.get R.CEL_STATUS_HOLDOVER = 0 then State.changeHold none s else { s with cel := s.cel.sourceRecord }) :
    t.kill = s.kill ∧ t.cel.get R.CEL_DISC_SOURCE = v ∧ t.cel.get R.CEL_STATUS_SOURCE = v ∧ t.cel.get R.CEL_DISC_PORT = c.get R.CEL_DISC_PORT
    ∧ t.cel.settings = c.settings ∧ t.cel.celQ.length = c.celQ.length + 1 ∧ t.cel.tb0 = c.tb0
    ∧ (v = 0 → c.get R.CEL_STATUS_HOLDOVER = 0 → t.cel.get R.CEL_STATUS_HOLDOVER = 1 ∧ t.cel.adj0 = clampTo c.lim0 c.freq)
    ∧ (v ≠ 0 → t.cel.get R.CEL_STATUS_HOLDOVER = c.get R.CEL_STATUS_HOLDOVER ∧ t.cel.adj0 = c.adj0) := by
  have hhold : s.cel.get R.CEL_STATUS_HOLDOVER = c.get R.CEL_STATUS_HOLDOVER := by
    rw [hs, Cellar.get_put_other _ _ _ _ (by decide), Cellar.get_put_other _ _ _ _ (by decide)]
  have hdisc : s.cel.get R.CEL_DISC_SOURCE = v := by
    rw [hs, Cellar.get_put_other _ _ _ _ (by decide), Cellar.get_put_same]
    exact sourceMask_lt v hv
  have hsrc : s.cel.get R.CEL_STATUS_SOURCE = v := by
    rw [hs, Cellar.get_put_same]
    exact sourceMask_lt v hv
  have hport : s.cel.get R.CEL_DISC_PORT = c.get R.CEL_DISC_PORT := by
    rw [hs, Cellar.get_put_other _ _ _ _ (by decide), Cellar.get_put_other _ _ _ _ (by decide)]
  have hset : s.cel.settings = c.settings := by rw [hs]; rfl
  have hq : s.cel.celQ = c.celQ := by rw [hs]; rfl
  have htb : s.cel.tb0 = c.tb0 := by rw [hs]; rfl
  have hfreq : s.cel.freq = c.freq := by rw [hs]; rfl
  have hadj : s.cel.adj0 = c.adj0 := by rw [hs]; rfl
  by_cases h : v = 0 ∧ s.cel.get R.CEL_STATUS_HOLDOVER = 0
  · rw [if_pos h] at ht
    rw [ht]
    have hput (f : Fld) (hf : f.key 0 ≠ R.CEL_STATUS_HOLDOVER.key 0) : (State.changeHold none s).cel.get f = s.cel.get f :=
      Cellar.get_put_other s.cel R.CEL_STATUS_HOLDOVER f 1 hf
    refine ⟨rfl, (hput _ (by decide)).trans hdisc, (hput _ (by decide)).trans hsrc, (hput _ (by decide)).trans hport, hset, ?_, htb, fun _ _ => ⟨?_, ?_⟩, fun h0 => absurd h.1 h0⟩
    · rw [← hq]
      exact List.length_append
    · exact Cellar.get_put_same s.cel R.CEL_STATUS_HOLDOVER 1
    · rw [Cellar.lim0, ← hset, ← hfreq]
      rfl
  · rw [if_neg h] at ht
    rw [ht]
    refine ⟨rfl, hdisc, hsrc, hport, hset, ?_, htb, fun h0 h1 => absurd ⟨h0, hhold.trans h1⟩ h, fun _ => ⟨hhold, hadj⟩⟩
    rw [← hq]
    exact List.length_append

/-- CEL_DISC (R377, R406). -/
theorem celDiscW_selects (w : Nat) (s : State) :
    let c := s.cel
    let mask := if c.sealed then c.settings.mask else bits w 8 5
    let v := bits w 0 3
    let t := celDiscW w s
    (v ≤ 4 → bit mask v = true → v ≠ c.get R.CEL_DISC_SOURCE → c.full = false → t.kill = s.kill
        ∧ t.cel.get R.CEL_DISC_SOURCE = v ∧ t.cel.get R.CEL_STATUS_SOURCE = v ∧ t.cel.get R.CEL_DISC_PORT = bits w 4 4
        ∧ t.cel.settings = { c.settings with mask := mask } ∧ t.cel.celQ.length = c.celQ.length + 1 ∧ t.cel.tb0 = c.tb0
        ∧ (v = 0 → c.get R.CEL_STATUS_HOLDOVER = 0 → t.cel.get R.CEL_STATUS_HOLDOVER = 1 ∧ t.cel.adj0 = clampTo c.lim0 c.freq)
        ∧ (v ≠ 0 → t.cel.get R.CEL_STATUS_HOLDOVER = c.get R.CEL_STATUS_HOLDOVER ∧ t.cel.adj0 = c.adj0))
      ∧ (v ≤ 4 → bit mask v = true → v = c.get R.CEL_DISC_SOURCE → t = { s with cel := t.cel }
        ∧ t.cel.get R.CEL_DISC_SOURCE = v ∧ t.cel.get R.CEL_DISC_PORT = bits w 4 4 ∧ t.cel.settings = { c.settings with mask := mask }
        ∧ t.cel.get R.CEL_STATUS_DISC_REFUSED = c.get R.CEL_STATUS_DISC_REFUSED ∧ t.cel.celQ = c.celQ ∧ t.cel.tb0 = c.tb0)
      ∧ (v ≤ 4 → (bit mask v = false ∨ (c.full = true ∧ v ≠ c.get R.CEL_DISC_SOURCE)) →
          t = { s with cel := t.cel } ∧ t.cel.get R.CEL_STATUS_DISC_REFUSED = 1 ∧ t.cel.get R.CEL_DISC_SOURCE = c.get R.CEL_DISC_SOURCE
          ∧ t.cel.celQ = c.celQ)
      ∧ (4 < v → t = { s with cel := t.cel } ∧ t.cel.get R.CEL_DISC_SOURCE = c.get R.CEL_DISC_SOURCE ∧ t.cel.celQ = c.celQ) := by
  intro c mask v t
  obtain ⟨⟨r, p, hc⟩, hport, hget⟩ := s.cel.discTaken_takes w
  have ht := celDiscW_eq w s
  change t = _ at ht
  have hfull : (s.cel.discTaken w).full = s.cel.full := by rw [hc]; rfl
  have hset : (s.cel.discTaken w).settings = { c.settings with mask := mask } := by rw [hc]
  have hq : (s.cel.discTaken w).celQ = s.cel.celQ := by rw [hc]
  have htb : (s.cel.discTaken w).tb0 = s.cel.tb0 := by rw [hc]
  have hadj : (s.cel.discTaken w).adj0 = s.cel.adj0 := by rw [hc]
  have hlim : clampTo (s.cel.discTaken w).lim0 (s.cel.discTaken w).freq = clampTo s.cel.lim0 s.cel.freq := by rw [hc]; rfl
  have hmask : bit (s.cel.discTaken w).settings.mask v = bit mask v := by rw [hset]
  have hsource := hget R.CEL_DISC_SOURCE (by decide)
  have hhold := hget R.CEL_STATUS_HOLDOVER (by decide)
  have hrefused := hget R.CEL_STATUS_DISC_REFUSED (by decide)
  generalize s.cel.discTaken w = y at ht hport hfull hset hq htb hadj hlim hmask hsource hhold hrefused
  change t = (if 4 < v then _ else if bit y.settings.mask v = false ∨ _ then _ else _) at ht
  rw [hmask, hfull, hsource] at ht
  refine ⟨fun hv hm hne hf => ?_, fun hv hm he => ?_, fun hv hr => ?_, fun hv => ?_⟩
  · rw [if_neg (by omega), if_neg (by rw [hm, hf]; simp), if_neg hne] at ht
    obtain ⟨h1, h2, h3, h4, h5, h6, h7, h8, h9⟩ := Cellar.selects v hv y { s with cel := (y.put R.CEL_DISC_SOURCE v).put R.CEL_STATUS_SOURCE v } rfl t ht
    exact ⟨h1, h2, h3, h4.trans hport, h5.trans hset, h6.trans (by rw [hq]), h7.trans htb, fun h0 h => ⟨(h8 h0 (hhold.trans h)).1, (h8 h0 (hhold.trans h)).2.trans hlim⟩,
      fun h0 => ⟨(h9 h0).1.trans hhold, (h9 h0).2.trans hadj⟩⟩
  · rw [if_neg (by omega), if_neg (fun h => h.elim (fun h => absurd (hm.symm.trans h) (by decide)) (fun h => h.2 he)), if_pos he] at ht
    rw [ht]
    exact ⟨rfl, hsource.trans he.symm, hport, hset, hrefused, hq, htb⟩
  · rw [if_neg (by omega), if_pos hr] at ht
    rw [ht]
    exact ⟨rfl, Cellar.get_put_same y R.CEL_STATUS_DISC_REFUSED 1, (Cellar.get_put_other y R.CEL_STATUS_DISC_REFUSED R.CEL_DISC_SOURCE 1 (by decide)).trans hsource, hq⟩
  · rw [if_pos hv] at ht
    rw [ht]
    exact ⟨rfl, hsource, hq⟩

/-- CEL_STEP (R380, R406). -/
theorem celStepHiW_requests (w : Nat) (s : State) :
    let c := s.cel
    let k := sext (c.stepLo + w * 2 ^ 32) 64
    let far := c.settings.jump0 * 100 * 65536 < k.natAbs
    (c.full = false → (¬ far ∨ c.get R.CEL_CONTROL_AUTH0 ≠ 0) → celStepHiW w s = { s with cel := { c with steps := c.steps ++ [k] } })
    ∧ ((c.full = true ∨ (far ∧ c.get R.CEL_CONTROL_AUTH0 = 0)) → celStepHiW w s = s.jumpRefused) := by
  intro c k far
  have hbig : s.cel.bigStep k = true ↔ far := decide_eq_true_iff
  unfold celStepHiW
  refine ⟨fun hf h => if_neg ?_, fun h => if_pos ?_⟩
  · rw [Bool.or_eq_true, Bool.and_eq_true, beq_iff_eq]
    rintro (h1 | ⟨h1, h2⟩)
    · exact absurd (hf.symm.trans h1) (by decide)
    · exact h.elim (fun h => h (hbig.1 h1)) (fun h => h h2)
  · rw [Bool.or_eq_true, Bool.and_eq_true, beq_iff_eq]
    exact h.imp_right (fun h => ⟨hbig.2 h.1, h.2⟩)

theorem State.ownerStep_steps (k : Int) (s : State) (hfar : ¬ s.cel.settings.jump0 * 100 * 65536 < k.natAbs ∨ s.cel.get R.CEL_CONTROL_AUTH0 = 1) :
    (s.ownerStep k).cel.steps = s.cel.steps ∧ (s.ownerStep k).cel.celQ.length = s.cel.celQ.length + 1 ∧ (s.ownerStep k).cel.tb0 = tbWrap (s.cel.tb0 + k * 2 ^ 24)
    ∧ (s.ownerStep k).cel.tc = s.cel.tc
    ∧ (s.ownerStep k).cel.get R.CEL_CONTROL_AUTH0 = if s.cel.settings.jump0 * 100 * 65536 < k.natAbs then 0 else s.cel.get R.CEL_CONTROL_AUTH0 := by
  unfold State.ownerStep Cellar.bigStep
  by_cases hb : s.cel.settings.jump0 * 100 * 65536 < k.natAbs
  · have hauth : s.cel.get R.CEL_CONTROL_AUTH0 = 1 := hfar.resolve_left (not_not.2 hb)
    rw [if_pos (decide_eq_true hb), if_pos hauth, if_pos hb]
    exact ⟨rfl, List.length_append, rfl, rfl, Cellar.get_put_same _ R.CEL_CONTROL_AUTH0 0⟩
  · rw [if_neg (by simpa using hb), if_neg hb]
    exact ⟨rfl, List.length_append, rfl, rfl, rfl⟩

/-- The next tick of an accepted step (R380, R405). -/
theorem State.tick_step (s : State) (k : Int) (hup : s.cel.up = true) (hk : s.cel.steps = [k]) : s.tick = State.ownerStep k { s with
    die := s.die.nsTick, cel := { s.cel with tc := s.cel.tc + 1, tb0 := tbWrap (s.cel.tb0 + 2 ^ 40 + s.cel.adj0), steps := [] } } := by
  have htick : s.cel.nsTick = { s.cel with tc := s.cel.tc + 1, tb0 := tbWrap (s.cel.tb0 + 2 ^ 40 + s.cel.adj0) } := if_pos hup
  unfold State.tick
  rw [htick]
  refine (if_pos hup).trans ?_
  unfold State.ownerSteps
  dsimp only
  rw [hk]
  rfl

theorem State.tick_steps (s : State) (k : Int) (hup : s.cel.up = true) (hk : s.cel.steps = [k])
    (hfar : ¬ s.cel.settings.jump0 * 100 * 65536 < k.natAbs ∨ s.cel.get R.CEL_CONTROL_AUTH0 = 1) : s.tick.cel.steps = []
    ∧ s.tick.cel.celQ.length = s.cel.celQ.length + 1 ∧ s.tick.cel.tb0 = tbWrap (tbWrap (s.cel.tb0 + 2 ^ 40 + s.cel.adj0) + k * 2 ^ 24)
    ∧ s.tick.cel.tc = s.cel.tc + 1
    ∧ s.tick.cel.get R.CEL_CONTROL_AUTH0 = if s.cel.settings.jump0 * 100 * 65536 < k.natAbs then 0 else s.cel.get R.CEL_CONTROL_AUTH0 := by
  rw [s.tick_step k hup hk]
  obtain ⟨h1, h2, h3, h4, h5⟩ := State.ownerStep_steps k { s with die := s.die.nsTick, cel := { s.cel with
    tc := s.cel.tc + 1, tb0 := tbWrap (s.cel.tb0 + 2 ^ 40 + s.cel.adj0), steps := [] } } hfar
  exact ⟨h1, h2, h3, h4, h5⟩

/-- The submission record, and the capture of a frame it names (R382). -/
def Cellar.submission (c : Cellar) : List Byte := (List.range 8).flatMap (fun k => leBytes 4 (KMap.get 0 c.submit k))

def Cellar.ptpHeld (c : Cellar) (sent : Bool) (i : Nat) : Option (Nat × Bool × Nat) :=
  c.ptpCaps.find? (fun x => x.1 == leNat (slice c.submission i 2) && x.2.1 == sent)

/-- Twice the offset of a submission under PTP_PORT (R377). -/
def Cellar.ptpTwice (c : Cellar) (t2 t3 : Nat) : Int := ((t2 : Int) - ptpTime c.submission 0) - (ptpTime c.submission 10 - (t3 : Int))

theorem State.submitPtp_eq (s : State) : s.submitPtp = if s.cel.get R.CEL_STATUS_SOURCE = 3 then
      match s.cel.ptpHeld false 20, s.cel.ptpHeld true 22 with
      | some t2, some t3 => State.correct (s.die.roundTo (s.cel.ptpTwice t2.2.2 t3.2.2) 2 true).1 s.die.fc 0
          { s with die := (s.die.roundTo (s.cel.ptpTwice t2.2.2 t3.2.2) 2 true).2 }
      | _, _ => { s with die := s.die.count T.CEL_PTP_STALE 0 }
    else if s.cel.get R.CEL_STATUS_SOURCE = 4 then s.correct (sext (leNat (slice s.cel.submission 24 8)) 64) s.die.fc 0
    else s := rfl

theorem State.offsetTaken_die (s : State) (d : Die) {t : State} {o : Int} {fc : Nat} {ref : Int} (hd : d.tallies = s.die.tallies)
    (h : State.offsetTaken { s with die := d } t o fc ref) : s.offsetTaken t o fc ref := by
  unfold State.offsetTaken Die.tally at *
  dsimp only at h ⊢
  rw [hd] at h
  exact h

/-- A submission under PTP_PORT whose captures are held (R377, R382). -/
theorem State.submitPtp_port (s : State) (h3 : s.cel.get R.CEL_STATUS_SOURCE = 3) (t2 t3 : Nat × Bool × Nat) (h2 : s.cel.ptpHeld false 20 = some t2)
    (ht3 : s.cel.ptpHeld true 22 = some t3) : s.submitPtp.cel.submit = s.cel.submit
    ∧ ∃ o : Int, (2 * o - s.cel.ptpTwice t2.2.2 t3.2.2).natAbs ≤ 1 ∧ s.offsetTaken s.submitPtp o s.die.fc 0 := by
  have he : s.submitPtp = State.correct (s.die.roundTo (s.cel.ptpTwice t2.2.2 t3.2.2) 2 true).1 s.die.fc 0
      { s with die := (s.die.roundTo (s.cel.ptpTwice t2.2.2 t3.2.2) 2 true).2 } := by
    rw [s.submitPtp_eq, if_pos h3, h2, ht3]
  obtain ⟨⟨f, hf⟩, -, hnear⟩ := s.die.roundTo_near (s.cel.ptpTwice t2.2.2 t3.2.2) 2 (by decide) true
  generalize s.die.roundTo (s.cel.ptpTwice t2.2.2 t3.2.2) 2 true = x at he hf hnear
  have hside := State.correct_sideKept x.1 s.die.fc 0 { s with die := x.2 }
  have htaken := State.correct_taken x.1 s.die.fc 0 { s with die := x.2 }
  have htal : x.2.tallies = s.die.tallies := by rw [hf]
  rw [← he] at hside htaken
  refine ⟨hside.1.2.2.2.1, x.1, ?_, State.offsetTaken_die s x.2 htal htaken⟩
  have h := hnear rfl
  push_cast at h
  omega

/-- A submission under PTP_HOST (R377). -/
theorem State.submitPtp_host (s : State) (h4 : s.cel.get R.CEL_STATUS_SOURCE = 4) : s.submitPtp.cel.submit = s.cel.submit
    ∧ s.offsetTaken s.submitPtp (sext (leNat (slice s.cel.submission 24 8)) 64) s.die.fc 0 := by
  rw [s.submitPtp_eq, if_neg (by rw [h4]; decide), if_pos h4]
  exact ⟨(State.correct_sideKept _ _ 0 s).1.2.2.2.1, State.correct_taken _ _ 0 s⟩

/-- A submission that names a capture no longer held (R382). -/
theorem State.submitPtp_stale (s : State) (h3 : s.cel.get R.CEL_STATUS_SOURCE = 3) (hn : s.cel.ptpHeld false 20 = none ∨ s.cel.ptpHeld true 22 = none) :
    s.submitPtp = { s with die := s.die.count T.CEL_PTP_STALE 0 } := by
  rw [s.submitPtp_eq, if_pos h3]
  rcases hn with h | h
  · rw [h]
  · rw [h]
    cases s.cel.ptpHeld false 20 <;> rfl

/-- Settles O30: the write or event, then what the owner's request leaves of the Cellar. -/
theorem tb0Commanded : Obligations.Tb0Commanded := by
  unfold Obligations.Tb0Commanded
  intro s src w
  dsimp only
  refine ⟨fun hg => ?_, fun hg => ?_, fun k hp hup hk hfar => ?_, fun hg => ?_, fun hup => ⟨_, congrArg Host.Outcome.next (if_pos hup), rfl, rfl, ?_⟩,
    fun hp => ⟨_, congrArg Host.Outcome.next (if_pos hp), rfl⟩⟩
  · have hexec : exec (.sourceSelect src w) s = .next (celDiscW w.toNat s) := congrArg Host.Outcome.next (writeAt_admitted hg _)
    obtain ⟨h1, h2, h3, h4⟩ := celDiscW_selects w.toNat s
    exact ⟨fun hv hm hne hf => ⟨_, hexec, h1 hv hm hne hf⟩, fun hv hm he => ⟨_, hexec, h2 hv hm he⟩, fun hv hr => ⟨_, hexec, h3 hv hr⟩, fun hv => ⟨_, hexec, h4 hv⟩⟩
  · have hexec : exec (.celStep src w) s = .next (celStepHiW w.toNat s) := congrArg Host.Outcome.next (writeAt_admitted hg _)
    obtain ⟨h1, h2⟩ := celStepHiW_requests w.toNat s
    refine ⟨fun hf h => ⟨_, hexec, h1 hf h⟩, fun h => ⟨_, hexec.trans (congrArg Host.Outcome.next (h2 h)), ?_⟩⟩
    obtain ⟨hkill, ⟨r, hr⟩, href, -, htally, -⟩ := s.jumpRefused_refuses
    exact ⟨hkill, by rw [hr], by rw [hr], by rw [hr], href, htally⟩
  · refine ⟨s.tick, ?_, s.tick_steps k hup hk hfar⟩
    unfold step
    rw [hp]
  · have hexec : exec (.ptpSubmit src w) s = .next (celSubmitW 7 w.toNat s).submitPtp :=
      congrArg Host.Outcome.next (writeAt_admitted hg (fun s => (celSubmitW 7 w.toNat s).submitPtp))
    have hof {t : State} {o : Int} {fc : Nat} {ref : Int} (h : (celSubmitW 7 w.toNat s).offsetTaken t o fc ref) : s.offsetTaken t o fc ref :=
      State.offsetTaken_of rfl rfl rfl rfl rfl rfl rfl rfl rfl rfl rfl rfl (fun _ _ => rfl) h
    refine ⟨fun hs t2 t3 hf ht => ⟨_, hexec, ?_⟩, fun hs => ⟨_, hexec, ?_⟩, fun hs hn => ⟨_, hexec, ?_⟩, fun hs hs4 => ⟨_, hexec, ?_⟩⟩
    · obtain ⟨hsub, o, ho, htaken⟩ := (celSubmitW 7 w.toNat s).submitPtp_port hs t2 t3 hf ht
      exact ⟨hsub, o, ho, hof htaken⟩
    · obtain ⟨hsub, htaken⟩ := (celSubmitW 7 w.toNat s).submitPtp_host hs
      exact ⟨hsub, hof htaken⟩
    · rw [(celSubmitW 7 w.toNat s).submitPtp_stale hs hn]
      exact ⟨rfl, rfl, Die.tally_count_same T.CEL_PTP_STALE 0 s.die rfl⟩
    · rw [State.submitPtp_eq]
      exact (if_neg hs).trans (if_neg hs4)
  · change (if s.cel.ppsOut = true then s.die else s.die.emit (.pps true)) = _
    split
    · rw [List.append_nil]
    · rfl

end Sys2Proof.Machine
end

section
/-! SUPPORT. The seal, the calibration and the audit chain of the Cellar (R397 to R406). -/

namespace Sys2Proof.Machine

theorem Cellar.record_adds (type b1 : Nat) (mid tail : List Byte) (c : Cellar) : (c.record type b1 mid tail).celQ.length = c.celQ.length + 1
    ∧ c.record type b1 mid tail = { c with celQ := (c.record type b1 mid tail).celQ } := ⟨List.length_append, rfl⟩

/-- The result of a seal message is one of R400's. -/
theorem Cellar.sealCheck_le (fu : Fused) (c : Cellar) (m : List Byte) : c.sealCheck fu m ≤ 8 := by
  unfold Cellar.sealCheck
  dsimp only
  split_ifs <;> decide

/-- The seal set or broken, with the break counted (R400). -/
def Cellar.resealed (isSeal : Bool) (c : Cellar) : Cellar :=
  if isSeal then { c with sealed := true, sealRecord := c.settings.image } else { c with sealed := false, breaks := c.breaks + 1 }

theorem Cellar.resealed_seals (isSeal : Bool) (c : Cellar) : (c.resealed isSeal).settings = c.settings ∧ (c.resealed isSeal).celQ = c.celQ
    ∧ (isSeal = true → (c.resealed isSeal).sealed = true ∧ (c.resealed isSeal).sealRecord = c.settings.image ∧ (c.resealed isSeal).breaks = c.breaks)
    ∧ (isSeal = false → (c.resealed isSeal).sealed = false ∧ (c.resealed isSeal).breaks = c.breaks + 1) := by
  cases isSeal
  · exact ⟨rfl, rfl, fun h => Bool.noConfusion h, fun _ => ⟨rfl, rfl⟩⟩
  · exact ⟨rfl, rfl, fun _ => ⟨rfl, rfl, rfl⟩, fun h => Bool.noConfusion h⟩

/-- SEAL_GO (R399, R400). -/
theorem State.sealGo_goes (s : State) :
    let c := s.cel
    let m := s.die.hostRead 0 (c.get R.CEL_SEAL_ADDR_LO * 64 + c.get R.CEL_SEAL_ADDR_HI * 2 ^ 32) 160
    let r := c.sealCheck s.fused m
    let t := s.sealGo
    (r = 1 → t = { s with cel := t.cel } ∧ t.cel.get R.CEL_STATUS_SEAL_RESULT = 1
      ∧ (if leNat (m.take 1) = 1 then t.cel.sealed = true ∧ t.cel.sealRecord = c.settings.image ∧ t.cel.breaks = c.breaks
          else t.cel.sealed = false ∧ t.cel.breaks = c.breaks + 1)
      ∧ t.cel.settings = c.settings ∧ t.cel.celQ.length = c.celQ.length + 1)
    ∧ (r ≠ 1 → t.cel.sealed = c.sealed ∧ t.cel.breaks = c.breaks ∧ t.cel.settings = c.settings
      ∧ t.cel.celQ = c.celQ ∧ t.cel.sealRecord = c.sealRecord
      ∧ (2 ≤ r → t = { s with cel := t.cel } ∧ t.cel.get R.CEL_STATUS_SEAL_RESULT = r)
      ∧ (r = 0 → t = { s with cel := t.cel, die := { s.die with free := t.die.free } } ∧ 1 ≤ t.cel.get R.CEL_STATUS_SEAL_RESULT
          ∧ t.cel.get R.CEL_STATUS_SEAL_RESULT ≤ 8)) := by
  intro c m r t
  have hle : r ≤ 8 := c.sealCheck_le s.fused m
  have ht : t = if r = 1 then { s with cel := ((c.resealed (leNat (m.take 1) == 1)).put R.CEL_STATUS_SEAL_RESULT 1).record 3 0 (leBytes 1 (if leNat (m.take 1) == 1 then 1 else 2) ++ leBytes 2 ((c.resealed (leNat (m.take 1) == 1)).put R.CEL_STATUS_SEAL_RESULT 1).breaks) [] }
      else if r = 0 then { s with die := s.die.draw.2, cel := c.put R.CEL_STATUS_SEAL_RESULT (1 + s.die.draw.1.toNat % 8) }
      else { s with cel := c.put R.CEL_STATUS_SEAL_RESULT r } := rfl
  clear_value r m
  refine ⟨fun h1 => ?_, fun h1 => ?_⟩
  · rw [if_pos h1] at ht
    rw [ht]
    obtain ⟨hset, hq, hyes, hno⟩ := c.resealed_seals (leNat (m.take 1) == 1)
    generalize c.resealed (leNat (m.take 1) == 1) = y at hset hq hyes hno
    refine ⟨rfl, Cellar.get_put_same y R.CEL_STATUS_SEAL_RESULT 1, ?_, hset, ?_⟩
    · by_cases hs : leNat (m.take 1) = 1
      · rw [if_pos hs]
        exact hyes (beq_iff_eq.2 hs)
      · rw [if_neg hs]
        exact hno (beq_eq_false_iff_ne.2 hs)
    · refine List.length_append.trans ?_
      change y.celQ.length + 1 = _
      rw [hq]
  · rw [if_neg h1] at ht
    by_cases h0 : r = 0
    · rw [if_pos h0] at ht
      rw [ht]
      have hres : (c.put R.CEL_STATUS_SEAL_RESULT (1 + s.die.draw.1.toNat % 8)).get R.CEL_STATUS_SEAL_RESULT = 1 + s.die.draw.1.toNat % 8 :=
        (Cellar.get_put_same _ _ _).trans (Nat.mod_eq_of_lt (show 1 + s.die.draw.1.toNat % 8 < 16 by omega))
      refine ⟨rfl, rfl, rfl, rfl, rfl, fun h2 => by omega, fun _ => ⟨rfl, ?_, ?_⟩⟩
      · dsimp only
        rw [hres]
        omega
      · dsimp only
        rw [hres]
        omega
    · rw [if_neg h0] at ht
      rw [ht]
      refine ⟨rfl, rfl, rfl, rfl, rfl, fun _ => ⟨rfl, ?_⟩, fun h => absurd h h0⟩
      exact (Cellar.get_put_same c R.CEL_STATUS_SEAL_RESULT r).trans (Nat.mod_eq_of_lt (show r < 16 by omega))

/-- The Cellar once a write of CEL_CONTROL has taken AUTH0 and CAL_POINT (R408). -/
def Cellar.controlTaken (w : Nat) (c : Cellar) : Cellar :=
  let c := if bit w 0 then c.put R.CEL_CONTROL_AUTH0 1 else c
  if bits w 4 8 ≤ 185 then c.put R.CEL_CONTROL_CAL_POINT (bits w 4 8) else c

theorem Cellar.controlTaken_takes (w : Nat) (c : Cellar) : (∃ r, c.controlTaken w = { c with regs := r })
    ∧ (bits w 4 8 ≤ 185 → (c.controlTaken w).get R.CEL_CONTROL_CAL_POINT = bits w 4 8)
    ∧ ∀ f, f.key 0 ≠ R.CEL_CONTROL_AUTH0.key 0 → f.key 0 ≠ R.CEL_CONTROL_CAL_POINT.key 0 → (c.controlTaken w).get f = c.get f := by
  obtain ⟨y, hy, ⟨r, hr⟩, hget⟩ : ∃ y, (if bit w 0 then c.put R.CEL_CONTROL_AUTH0 1 else c) = y ∧ (∃ r, y = { c with regs := r })
      ∧ ∀ f, f.key 0 ≠ R.CEL_CONTROL_AUTH0.key 0 → y.get f = c.get f := by
    refine ⟨_, rfl, ?_, fun f hf => ?_⟩
    · split
      · exact ⟨_, rfl⟩
      · exact ⟨_, rfl⟩
    · split
      · exact Cellar.get_put_other _ _ _ _ hf
      · rfl
  unfold Cellar.controlTaken
  rw [hy]
  dsimp only
  refine ⟨?_, fun h => ?_, fun f h1 h2 => ?_⟩
  · split
    · exact ⟨(y.put R.CEL_CONTROL_CAL_POINT (bits w 4 8)).regs, by rw [hr]; rfl⟩
    · exact ⟨r, hr⟩
  · rw [if_pos h]
    refine (Cellar.get_put_same y R.CEL_CONTROL_CAL_POINT _).trans (Nat.mod_eq_of_lt (show bits w 4 8 < 256 by omega))
  · split
    · exact (Cellar.get_put_other _ _ _ _ h2).trans (hget f h1)
    · exact hget f h1

theorem celControlW_acts (w : Nat) (s : State) :
    (bit w 1 = true → celControlW w s = State.sealGo { s with cel := s.cel.controlTaken w })
    ∧ (bit w 1 = false → bit w 2 = true → celControlW w s = State.drainAudit { s with cel := (s.cel.controlTaken w).checkpoint })
    ∧ (bit w 1 = false → bit w 2 = false → bit w 3 = true → celControlW w s = { s with cel := (s.cel.controlTaken w).calStart }) := by
  have he : celControlW w s = match lowestWo w [1, 2, 3] with
    | some 1 => State.sealGo { s with cel := s.cel.controlTaken w }
    | some 2 => State.drainAudit { s with cel := (s.cel.controlTaken w).checkpoint }
    | some 3 => { s with cel := (s.cel.controlTaken w).calStart }
    | _ => { s with cel := s.cel.controlTaken w } := rfl
  rw [he]
  generalize s.cel.controlTaken w = c
  refine ⟨fun h => ?_, fun h1 h2 => ?_, fun h1 h2 h3 => ?_⟩
  · rw [lowestWo, List.find?_cons_of_pos h]
    rfl
  · rw [lowestWo, List.find?_cons_of_neg (by rw [h1]; decide), List.find?_cons_of_pos h2]
    rfl
  · rw [lowestWo, List.find?_cons_of_neg (by rw [h1]; decide), List.find?_cons_of_neg (by rw [h2]; decide), List.find?_cons_of_pos h3]
    rfl

/-- CAL_START (R402). -/
theorem Cellar.calStart_starts (c : Cellar) : (c.get R.CEL_STATUS_CAL_BUSY = 1 → c.calStart = c)
    ∧ (c.get R.CEL_STATUS_CAL_BUSY ≠ 1 → c.sealed = true → c.calStart = c.put R.CEL_STATUS_CAL_RESULT 5)
    ∧ (c.get R.CEL_STATUS_CAL_BUSY ≠ 1 → c.sealed = false → c.get R.CEL_STATUS_PPS_PRESENT = 0 → c.calStart = c.put R.CEL_STATUS_CAL_RESULT 2)
    ∧ (c.get R.CEL_STATUS_CAL_BUSY ≠ 1 → c.sealed = false → c.get R.CEL_STATUS_PPS_PRESENT ≠ 0 →
        c.calStart = { (c.put R.CEL_STATUS_CAL_BUSY 1).put R.CEL_STATUS_CAL_RESULT 0 with calEdges := 0, calBad := false }) := by
  unfold Cellar.calStart
  refine ⟨fun h => if_pos h, fun h hs => ?_, fun h hs hp => ?_, fun h hs hp => ?_⟩
  · rw [if_neg h, if_pos hs]
  · rw [if_neg h, if_neg (by rw [hs]; decide), if_pos hp]
  · rw [if_neg h, if_neg (by rw [hs]; decide), if_neg hp]

/-- The first claim on CAL_START: on a Cellar that is not busy. -/
theorem Cellar.calStart_result (c : Cellar) (h : c.get R.CEL_STATUS_CAL_BUSY ≠ 1) : c.calStart.settings = c.settings
    ∧ c.calStart.get R.CEL_CONTROL_CAL_POINT = c.get R.CEL_CONTROL_CAL_POINT
    ∧ (c.sealed = true → c.calStart.get R.CEL_STATUS_CAL_RESULT = 5 ∧ c.calStart.get R.CEL_STATUS_CAL_BUSY = c.get R.CEL_STATUS_CAL_BUSY)
    ∧ (c.sealed = false → c.get R.CEL_STATUS_PPS_PRESENT = 0 →
        c.calStart.get R.CEL_STATUS_CAL_RESULT = 2 ∧ c.calStart.get R.CEL_STATUS_CAL_BUSY = c.get R.CEL_STATUS_CAL_BUSY)
    ∧ (c.sealed = false → c.get R.CEL_STATUS_PPS_PRESENT ≠ 0 → c.calStart.get R.CEL_STATUS_CAL_RESULT = 0 ∧ c.calStart.get R.CEL_STATUS_CAL_BUSY = 1
        ∧ c.calStart.calEdges = 0 ∧ c.calStart.calBad = false) := by
  obtain ⟨-, hsealed, hpps, hgo⟩ := c.calStart_starts
  have hcode (n : Nat) (hn : n < 16) : (c.put R.CEL_STATUS_CAL_RESULT n).get R.CEL_STATUS_CAL_RESULT = n
      ∧ (c.put R.CEL_STATUS_CAL_RESULT n).get R.CEL_STATUS_CAL_BUSY = c.get R.CEL_STATUS_CAL_BUSY
      ∧ (c.put R.CEL_STATUS_CAL_RESULT n).get R.CEL_CONTROL_CAL_POINT = c.get R.CEL_CONTROL_CAL_POINT :=
    ⟨(Cellar.get_put_same _ _ _).trans (Nat.mod_eq_of_lt hn), Cellar.get_put_other _ _ _ _ (by decide), Cellar.get_put_other _ _ _ _ (by decide)⟩
  have hstart (f : Fld) : Cellar.get { (c.put R.CEL_STATUS_CAL_BUSY 1).put R.CEL_STATUS_CAL_RESULT 0 with calEdges := 0, calBad := false } f
      = ((c.put R.CEL_STATUS_CAL_BUSY 1).put R.CEL_STATUS_CAL_RESULT 0).get f := rfl
  by_cases hs : c.sealed = true
  · rw [hsealed h hs]
    exact ⟨rfl, (hcode 5 (by decide)).2.2, fun _ => ⟨(hcode 5 (by decide)).1, (hcode 5 (by decide)).2.1⟩, fun hf => absurd (hs.symm.trans hf) (by decide),
      fun hf => absurd (hs.symm.trans hf) (by decide)⟩
  · rw [Bool.not_eq_true] at hs
    have hno : c.sealed ≠ true := by rw [hs]; decide
    by_cases hp : c.get R.CEL_STATUS_PPS_PRESENT = 0
    · rw [hpps h hs hp]
      exact ⟨rfl, (hcode 2 (by decide)).2.2, fun ht => absurd ht hno, fun _ _ => ⟨(hcode 2 (by decide)).1, (hcode 2 (by decide)).2.1⟩, fun _ hf => absurd hp hf⟩
    · rw [hgo h hs hp]
      refine ⟨rfl, ?_, fun ht => absurd ht hno, fun _ hf => absurd hf hp, fun _ _ => ⟨?_, ?_, rfl, rfl⟩⟩
      · rw [hstart, Cellar.get_put_other _ _ _ _ (by decide), Cellar.get_put_other _ _ _ _ (by decide)]
      · rw [hstart, Cellar.get_put_same]
        rfl
      · rw [hstart, Cellar.get_put_other _ _ _ _ (by decide), Cellar.get_put_same]
        rfl

/-- CAL_DONE (R402). -/
theorem State.calDone_ends (x : CalRun) (s : State) (hb : s.cel.get R.CEL_STATUS_CAL_BUSY = 1) (ho : s.cel.calOver = true) :
    let c := s.cel
    let point := c.get R.CEL_CONTROL_CAL_POINT
    let fix : Int := if outputPoint point = true then sext (c.get R.CAL_FIXTURE_VALUE) 32 else 0
    let t := s.calDone x
    t.kill = s.kill ∧ t.cel.get R.CEL_STATUS_CAL_BUSY = 0 ∧ t.cel.get R.CEL_STATUS_CAL_RESULT = c.calResult x
    ∧ (c.calResult x ≠ 1 → t.cel.settings = c.settings ∧ t.die = s.die)
    ∧ (c.calResult x = 1 → t.die = { s.die with free := t.die.free }
        ∧ t.cel.settings = { c.settings with delays := t.cel.settings.delays }
        ∧ (∃ m : Int, (16 * m - (x.diffs.filterMap id).sum).natAbs < 16 ∧ t.cel.delay point = sext (low (m - fix) 32) 32)
        ∧ ∀ p, p ≠ point → t.cel.delay p = c.delay p) := by
  intro c point fix t
  have hlt : c.calResult x < 16 := by
    unfold Cellar.calResult
    dsimp only
    split_ifs <;> decide
  have hdone : t = if c.calResult x = 1 then { s with die := (s.calDelay x).2, cel := { (c.put R.CEL_STATUS_CAL_BUSY 0).put R.CEL_STATUS_CAL_RESULT (c.calResult x) with
        settings := { c.settings with delays := KMap.set 0 c.settings.delays (((c.put R.CEL_STATUS_CAL_BUSY 0).put R.CEL_STATUS_CAL_RESULT (c.calResult x)).get R.CEL_CONTROL_CAL_POINT) (s.calDelay x).1 } } }
      else { s with cel := (c.put R.CEL_STATUS_CAL_BUSY 0).put R.CEL_STATUS_CAL_RESULT (c.calResult x) } := if_pos ⟨hb, ho⟩
  generalize c.calResult x = r at hlt hdone ⊢
  have hbusy : ((c.put R.CEL_STATUS_CAL_BUSY 0).put R.CEL_STATUS_CAL_RESULT r).get R.CEL_STATUS_CAL_BUSY = 0 := by
    rw [Cellar.get_put_other _ _ _ _ (by decide), Cellar.get_put_same]
    rfl
  have hres : ((c.put R.CEL_STATUS_CAL_BUSY 0).put R.CEL_STATUS_CAL_RESULT r).get R.CEL_STATUS_CAL_RESULT = r :=
    (Cellar.get_put_same _ _ _).trans (Nat.mod_eq_of_lt hlt)
  have hpoint : ((c.put R.CEL_STATUS_CAL_BUSY 0).put R.CEL_STATUS_CAL_RESULT r).get R.CEL_CONTROL_CAL_POINT = point := by
    rw [Cellar.get_put_other _ _ _ _ (by decide), Cellar.get_put_other _ _ _ _ (by decide)]
  rw [hpoint] at hdone
  by_cases h1 : r = 1
  · rw [if_pos h1] at hdone
    obtain ⟨⟨f, hf⟩, hnear, -⟩ := s.die.roundTo_near (x.diffs.filterMap id).sum 16 (by decide) false
    rw [hdone]
    refine ⟨rfl, hbusy, hres, fun h => absurd h1 h, fun _ => ⟨?_, rfl, ⟨(s.die.roundTo (x.diffs.filterMap id).sum 16 false).1, ?_, ?_⟩, fun p hp => ?_⟩⟩
    · have hd : (s.calDelay x).2 = { s.die with free := f } := hf
      change (s.calDelay x).2 = { s.die with free := (s.calDelay x).2.free }
      rw [hd]
    · push_cast at hnear
      omega
    · exact KMap.get_set_same 0 _ _ _
    · exact KMap.get_set_ne 0 _ _ _ _ _ hp
  · rw [if_neg h1] at hdone
    rw [hdone]
    exact ⟨rfl, hbusy, hres, fun _ => ⟨rfl, rfl⟩, fun h => absurd h h1⟩

/-- The room of the audit ring (R406). -/
def Cellar.ringRoom (c : Cellar) : Prop :=
  (c.get R.CEL_AUDIT_HEAD_VALUE + 2 ^ 32 - c.get R.CEL_AUDIT_TAIL_VALUE) % 2 ^ 32 < 2 ^ c.get R.CEL_AUDIT_CTL_LOG2SIZE

/-- The address of the slot that the ring's head names. -/
def Cellar.ringSlot (c : Cellar) : Nat := c.get R.CEL_AUDIT_BASE_LO * 64 + c.get R.CEL_AUDIT_BASE_HI * 2 ^ 32
  + c.get R.CEL_AUDIT_HEAD_VALUE % 2 ^ c.get R.CEL_AUDIT_CTL_LOG2SIZE * 32

theorem State.flushAudit_nil (n : Nat) (s : State) (h : s.cel.slots = []) : s.flushAudit n = s := by
  cases n with
  | zero => rfl
  | succ n =>
    unfold State.flushAudit
    dsimp only
    rw [h]

/-- One slot goes to the ring where there is room. -/
theorem State.flushAudit_cons (n : Nat) (s : State) (x : AuditSlot) (rest : List AuditSlot) (h : s.cel.slots = x :: rest) :
    (s.cel.ringRoom → s.flushAudit (n + 1) = State.flushAudit n { s with
      die := s.die.hostWrite 0 s.cel.ringSlot x.bytes
      cel := { s.cel.put R.CEL_AUDIT_HEAD_VALUE (s.cel.get R.CEL_AUDIT_HEAD_VALUE + 1) with slots := rest } })
    ∧ (¬ s.cel.ringRoom → s.flushAudit (n + 1) = s) := by
  have he : s.flushAudit (n + 1) = match s.cel.slots with
    | [] => s
    | x :: rest => if (s.cel.get R.CEL_AUDIT_HEAD_VALUE + 2 ^ 32 - s.cel.get R.CEL_AUDIT_TAIL_VALUE) % 2 ^ 32 < 2 ^ s.cel.get R.CEL_AUDIT_CTL_LOG2SIZE then
        State.flushAudit n { s with
          die := s.die.hostWrite 0 s.cel.ringSlot x.bytes
          cel := { s.cel.put R.CEL_AUDIT_HEAD_VALUE (s.cel.get R.CEL_AUDIT_HEAD_VALUE + 1) with slots := rest } }
      else s := rfl
  rw [he, h]
  exact ⟨fun hr => if_pos hr, fun hr => if_neg hr⟩

/-- What the writing of hashed slots touches: the ring and its head. -/
theorem State.flushAudit_flushes (n : Nat) (s : State) :
    ∃ k, k ≤ n ∧ k ≤ s.cel.slots.length ∧ (s.flushAudit n).cel.slots = s.cel.slots.drop k
      ∧ (s.cel.get R.CEL_AUDIT_HEAD_VALUE < 2 ^ 32 → (s.flushAudit n).cel.get R.CEL_AUDIT_HEAD_VALUE = (s.cel.get R.CEL_AUDIT_HEAD_VALUE + k) % 2 ^ 32)
      ∧ (k = n ∨ (s.flushAudit n).cel.slots = [] ∨ ¬ (s.flushAudit n).cel.ringRoom)
      ∧ (∃ host r sl, s.flushAudit n = { s with die := { s.die with host := host }, cel := { s.cel with regs := r, slots := sl } })
      ∧ ∀ f, f.key 0 ≠ R.CEL_AUDIT_HEAD_VALUE.key 0 → (s.flushAudit n).cel.get f = s.cel.get f := by
  induction n generalizing s with
  | zero => exact ⟨0, le_rfl, Nat.zero_le _, rfl, fun hh => (Nat.mod_eq_of_lt hh).symm, .inl rfl, ⟨_, _, _, rfl⟩, fun _ _ => rfl⟩
  | succ n ih =>
    cases hs : s.cel.slots with
    | nil =>
      rw [s.flushAudit_nil _ hs]
      exact ⟨0, Nat.zero_le _, Nat.zero_le _, hs, fun hh => (Nat.mod_eq_of_lt hh).symm, .inr (.inl hs), ⟨_, _, _, rfl⟩, fun _ _ => rfl⟩
    | cons x rest =>
      obtain ⟨hroom, hfull⟩ := s.flushAudit_cons n x rest hs
      by_cases hr : s.cel.ringRoom
      · rw [hroom hr]
        have hhead : Cellar.get { s.cel.put R.CEL_AUDIT_HEAD_VALUE (s.cel.get R.CEL_AUDIT_HEAD_VALUE + 1) with slots := rest } R.CEL_AUDIT_HEAD_VALUE
            = (s.cel.get R.CEL_AUDIT_HEAD_VALUE + 1) % 2 ^ 32 := Cellar.get_put_same s.cel R.CEL_AUDIT_HEAD_VALUE _
        obtain ⟨k, hkn, hkl, hslots, hget, hend, ⟨host, r, sl, hframe⟩, hother⟩ := ih { s with
          die := s.die.hostWrite 0 s.cel.ringSlot x.bytes
          cel := { s.cel.put R.CEL_AUDIT_HEAD_VALUE (s.cel.get R.CEL_AUDIT_HEAD_VALUE + 1) with slots := rest } }
        refine ⟨k + 1, by omega, ?_, hslots, fun _ => ?_, hend.imp_left (fun h => by omega), ⟨host, r, sl, hframe⟩, fun f hf => (hother f hf).trans ?_⟩
        · dsimp only at hkl
          rw [List.length_cons]
          omega
        · rw [hget (by rw [hhead]; exact Nat.mod_lt _ (by decide)), hhead]
          omega
        · exact Cellar.get_put_other s.cel R.CEL_AUDIT_HEAD_VALUE f _ hf
      · rw [hfull hr]
        exact ⟨0, Nat.zero_le _, Nat.zero_le _, hs, fun hh => (Nat.mod_eq_of_lt hh).symm, .inr (.inr hr), ⟨_, _, _, rfl⟩, fun _ _ => rfl⟩

/-- The deferred changes of holdover that take place: the queue grows, the chain stands. -/
theorem State.takeDeferred_takes (l : List (Option Int)) (s : State) : (State.takeDeferred l s).kill = s.kill
    ∧ (State.takeDeferred l s).cel.chain = s.cel.chain ∧ (State.takeDeferred l s).cel.hash = s.cel.hash ∧ (State.takeDeferred l s).cel.settings = s.cel.settings
    ∧ (State.takeDeferred l s).cel.tb0 = s.cel.tb0 ∧ (State.takeDeferred l s).cel.launchQ = s.cel.launchQ ∧ (State.takeDeferred l s).cel.slots = s.cel.slots
    ∧ (∃ more, (State.takeDeferred l s).cel.celQ = s.cel.celQ ++ more ∧ (l = [] → more = [])) ∧ s.die.traced (State.takeDeferred l s).die
    ∧ ∀ f, f.key 0 ≠ R.CEL_STATUS_HOLDOVER.key 0 → (State.takeDeferred l s).cel.get f = s.cel.get f := by
  induction l generalizing s with
  | nil => exact ⟨rfl, rfl, rfl, rfl, rfl, rfl, rfl, ⟨[], (List.append_nil _).symm, fun _ => rfl⟩, ⟨s.die.report_refl, fun _ _ => rfl⟩, fun _ _ => rfl⟩
  | cons x l ih =>
    have he : State.takeDeferred (x :: l) s = if s.cel.full then s else State.takeDeferred l (State.changeHold x { s with cel := { s.cel with deferHold := l } }) := rfl
    rw [he]
    by_cases hf : s.cel.full = true
    · rw [if_pos hf]
      exact ⟨rfl, rfl, rfl, rfl, rfl, rfl, rfl, ⟨[], (List.append_nil _).symm, fun _ => rfl⟩, ⟨s.die.report_refl, fun _ _ => rfl⟩, fun _ _ => rfl⟩
    · rw [if_neg hf]
      obtain ⟨h1, h2, h3, h4, h5, h6, h7, ⟨more, h8, -⟩, h9, h10⟩ := ih (State.changeHold x { s with cel := { s.cel with deferHold := l } })
      have hc : ∃ rec, (State.changeHold x { s with cel := { s.cel with deferHold := l } }).cel.celQ = s.cel.celQ ++ [rec] := by
        cases x <;> exact ⟨_, rfl⟩
      obtain ⟨rec, hc⟩ := hc
      have hd : s.die.traced (State.changeHold x { s with cel := { s.cel with deferHold := l } }).die := by
        cases x with
        | none => exact s.die.traced_alarm 9 (by decide)
        | some a => exact ⟨s.die.report_refl, fun _ _ => rfl⟩
      refine ⟨h1.trans ?_, h2.trans ?_, h3.trans ?_, h4.trans ?_, h5.trans ?_, h6.trans ?_, h7.trans ?_, ⟨rec :: more, ?_, fun h => by cases h⟩, hd.trans h9,
        fun f hfk => (h10 f hfk).trans ?_⟩
      any_goals (cases x <;> rfl)
      · rw [h8, hc, List.append_assoc]
        rfl
      · cases x with
        | none => exact Cellar.get_put_other s.cel R.CEL_STATUS_HOLDOVER f 1 hfk
        | some a => exact Cellar.get_put_other s.cel R.CEL_STATUS_HOLDOVER f 0 hfk

/-- What writing to the ring leaves of the chain (R406). -/
theorem State.drainAudit_drains (s : State) : s.drainAudit.kill = s.kill ∧ s.drainAudit.cel.chain = s.cel.chain ∧ s.drainAudit.cel.hash = s.cel.hash
    ∧ s.drainAudit.cel.settings = s.cel.settings ∧ s.drainAudit.cel.tb0 = s.cel.tb0 ∧ s.drainAudit.cel.launchQ = s.cel.launchQ
    ∧ (∃ more, s.drainAudit.cel.celQ = s.cel.celQ ++ more ∧ (s.cel.deferHold = [] → more = []))
    ∧ (∀ t i, loftTally (Tal.key t i) = false → s.drainAudit.die.tally t i = s.die.tally t i)
    ∧ ∃ k, k ≤ s.cel.slots.length ∧ s.drainAudit.cel.slots = s.cel.slots.drop k
      ∧ (s.cel.get R.CEL_AUDIT_HEAD_VALUE < 2 ^ 32 → s.drainAudit.cel.get R.CEL_AUDIT_HEAD_VALUE = (s.cel.get R.CEL_AUDIT_HEAD_VALUE + k) % 2 ^ 32)
      ∧ (s.drainAudit.cel.slots ≠ [] → ¬ s.drainAudit.cel.ringRoom)
      ∧ ∀ f, f.key 0 ≠ R.CEL_AUDIT_HEAD_VALUE.key 0 → f.key 0 ≠ R.CEL_STATUS_HOLDOVER.key 0 → s.drainAudit.cel.get f = s.cel.get f := by
  have he : s.drainAudit = State.takeDeferred (s.flushAudit s.cel.slots.length).cel.deferHold (s.flushAudit s.cel.slots.length) := rfl
  rw [he]
  obtain ⟨k, -, hkl, hslots, hhead, hend, ⟨host, r, sl, hframe⟩, hother⟩ := s.flushAudit_flushes s.cel.slots.length
  generalize s.flushAudit s.cel.slots.length = y at hslots hhead hend hframe hother
  obtain ⟨h1, h2, h3, h4, h5, h6, h7, ⟨more, h8, h8'⟩, h9, h10⟩ := State.takeDeferred_takes y.cel.deferHold y
  generalize State.takeDeferred y.cel.deferHold y = t at h1 h2 h3 h4 h5 h6 h7 h8 h9 h10
  refine ⟨h1.trans (by rw [hframe]), h2.trans (by rw [hframe]), h3.trans (by rw [hframe]), h4.trans (by rw [hframe]), h5.trans (by rw [hframe]),
    h6.trans (by rw [hframe]), ⟨more, h8.trans (by rw [hframe]), fun hd => h8' (by rw [hframe]; exact hd)⟩, fun u i hu => (h9.tally u i hu).trans (by rw [hframe]; rfl),
    k, hkl, h7.trans hslots, fun hh => (h10 _ (by decide)).trans (hhead hh), fun hne => ?_, fun f hf1 hf2 => (h10 f hf2).trans (hother f hf1)⟩
  have hroom : t.cel.ringRoom ↔ y.cel.ringRoom := by
    unfold Cellar.ringRoom
    rw [h10 _ (by decide), h10 _ (by decide), h10 _ (by decide)]
  rw [hroom]
  have hyne : y.cel.slots ≠ [] := by rwa [← h7]
  rcases hend with h | h | h
  · rw [hslots, h, List.drop_length] at hyne
    exact absurd rfl hyne
  · exact absurd h hyne
  · exact h

theorem Cellar.hashRecord_hashes (r : AuditRec) (frees : Nat) (c : Cellar) : (c.hashRecord r frees).chain = c.chain + 1
    ∧ (c.hashRecord r frees).hash = hashOf (beBytes 32 c.hash.toNat ++ overlay r.bytes 3 (leBytes 1 ((c.chain + 1) % 256)))
    ∧ (c.hashRecord r frees).settings = c.settings ∧ (c.hashRecord r frees).tb0 = c.tb0 ∧ (c.hashRecord r frees).launchQ = c.launchQ
    ∧ (c.hashRecord r frees).celQ = c.celQ ∧ (c.hashRecord r frees).deferHold = c.deferHold := by
  unfold Cellar.hashRecord
  dsimp only
  split
  · exact ⟨rfl, rfl, rfl, rfl, rfl, rfl, rfl⟩
  · exact ⟨rfl, rfl, rfl, rfl, rfl, rfl, rfl⟩

/-- The record that AUDIT_HASH takes (R406). -/
theorem State.auditHash_takes (s : State) (hup : s.cel.up = true) :
    (∀ a rest, s.cel.celQ = a :: rest → (∀ b ∈ s.cel.launchQ.head?, a.order ≤ b.order) → s.auditHash
      = State.drainAudit { s with die := s.die.count T.CEL_AUDIT_RECORDS 0, cel := Cellar.hashRecord a 2 { s.cel with celQ := rest } })
    ∧ (∀ b rest, s.cel.launchQ = b :: rest → (∀ a ∈ s.cel.celQ.head?, b.order < a.order) → s.auditHash
      = State.drainAudit { s with die := s.die.count T.CEL_AUDIT_RECORDS 0, cel := Cellar.hashRecord b 1 { s.cel with launchQ := rest } })
    ∧ (s.cel.celQ = [] → s.cel.launchQ = [] → s.auditHash = s) := by
  have he : s.auditHash = match (match s.cel.celQ, s.cel.launchQ with
      | a :: _, b :: _ => decide (a.order ≤ b.order)
      | _, [] => true
      | [], _ => false), s.cel.celQ, s.cel.launchQ with
    | true, a :: rest, _ => State.drainAudit { s with die := s.die.count T.CEL_AUDIT_RECORDS 0, cel := Cellar.hashRecord a 2 { s.cel with celQ := rest } }
    | false, _, b :: rest => State.drainAudit { s with die := s.die.count T.CEL_AUDIT_RECORDS 0, cel := Cellar.hashRecord b 1 { s.cel with launchQ := rest } }
    | _, _, _ => s := if_pos hup
  refine ⟨fun a rest hq hb => ?_, fun b rest hq ha => ?_, fun hq hl => ?_⟩
  · rw [he, hq]
    cases hl : s.cel.launchQ with
    | nil => rfl
    | cons b l =>
      rw [hl] at hb
      simp only [decide_eq_true (hb b rfl)]
  · rw [he, hq]
    cases hl : s.cel.celQ with
    | nil => rfl
    | cons a l =>
      rw [hl] at ha
      simp only [decide_eq_false (Nat.not_le.2 (ha a rfl))]
  · rw [he, hq, hl]

/-- What AUDIT_HASH leaves once it has taken record r (R403, R406). -/
theorem State.hashed_leaves (r : AuditRec) (frees : Nat) (c : Cellar) (s : State) (hc : c.chain = s.cel.chain) (hh : c.hash = s.cel.hash)
    (hs : c.settings = s.cel.settings) (ht : c.tb0 = s.cel.tb0) :
    let t := State.drainAudit { s with die := s.die.count T.CEL_AUDIT_RECORDS 0, cel := c.hashRecord r frees }
    (t.cel.chain = s.cel.chain + 1 ∧ t.kill = s.kill ∧ t.cel.tb0 = s.cel.tb0 ∧ t.cel.settings = s.cel.settings
      ∧ t.cel.hash = hashOf (beBytes 32 s.cel.hash.toNat ++ overlay r.bytes 3 (leBytes 1 ((s.cel.chain + 1) % 256)))
      ∧ t.die.tally T.CEL_AUDIT_RECORDS = tallyAdd (s.die.tally T.CEL_AUDIT_RECORDS) 1)
    ∧ t.cel.launchQ = c.launchQ ∧ ∃ more, t.cel.celQ = c.celQ ++ more ∧ (c.deferHold = [] → more = []) := by
  obtain ⟨h1, h2, h3, h4, h5, h6, ⟨more, h7, h7'⟩, h8, -⟩ := State.drainAudit_drains { s with die := s.die.count T.CEL_AUDIT_RECORDS 0, cel := c.hashRecord r frees }
  obtain ⟨g1, g2, g3, g4, g5, g6, g7⟩ := c.hashRecord_hashes r frees
  generalize State.drainAudit { s with die := s.die.count T.CEL_AUDIT_RECORDS 0, cel := c.hashRecord r frees } = t at h1 h2 h3 h4 h5 h6 h7 h8
  rw [hc] at g1
  rw [hc, hh] at g2
  refine ⟨⟨h2.trans g1, h1, h5.trans (g4.trans ht), h4.trans (g3.trans hs), h3.trans g2, ?_⟩, h6.trans g5, more, h7.trans (by rw [g6]), fun hd => h7' (g7.trans hd)⟩
  exact (h8 T.CEL_AUDIT_RECORDS 0 rfl).trans (Die.tally_count_same T.CEL_AUDIT_RECORDS 0 s.die rfl)

/-- A checkpoint into an empty ring of two slots or more (R406). -/
theorem State.drainAudit_two (s : State) (x y : AuditSlot) (hs : s.cel.slots = [x, y]) (hd : s.cel.deferHold = [])
    (hsize : 2 ≤ 2 ^ s.cel.get R.CEL_AUDIT_CTL_LOG2SIZE) (htail : s.cel.get R.CEL_AUDIT_HEAD_VALUE = s.cel.get R.CEL_AUDIT_TAIL_VALUE) :
    s.drainAudit.cel.slots = [] ∧ s.drainAudit.die = (s.die.hostWrite 0 s.cel.ringSlot x.bytes).hostWrite 0
      (s.cel.get R.CEL_AUDIT_BASE_LO * 64 + s.cel.get R.CEL_AUDIT_BASE_HI * 2 ^ 32
        + (s.cel.get R.CEL_AUDIT_HEAD_VALUE + 1) % 2 ^ 32 % 2 ^ s.cel.get R.CEL_AUDIT_CTL_LOG2SIZE * 32) y.bytes := by
  obtain ⟨hroom, -⟩ := s.flushAudit_cons 1 x [y] hs
  have hr : s.cel.ringRoom := by
    unfold Cellar.ringRoom
    rw [← htail]
    generalize 2 ^ s.cel.get R.CEL_AUDIT_CTL_LOG2SIZE = z at hsize ⊢
    omega
  have hstep := hroom hr
  have hget (f : Fld) (hf : f.key 0 ≠ R.CEL_AUDIT_HEAD_VALUE.key 0) :
      Cellar.get { s.cel.put R.CEL_AUDIT_HEAD_VALUE (s.cel.get R.CEL_AUDIT_HEAD_VALUE + 1) with slots := [y] } f = s.cel.get f :=
    Cellar.get_put_other s.cel R.CEL_AUDIT_HEAD_VALUE f _ hf
  have hhead : Cellar.get { s.cel.put R.CEL_AUDIT_HEAD_VALUE (s.cel.get R.CEL_AUDIT_HEAD_VALUE + 1) with slots := [y] } R.CEL_AUDIT_HEAD_VALUE
      = (s.cel.get R.CEL_AUDIT_HEAD_VALUE + 1) % 2 ^ 32 := Cellar.get_put_same s.cel R.CEL_AUDIT_HEAD_VALUE _
  have hc : ({ s.cel.put R.CEL_AUDIT_HEAD_VALUE (s.cel.get R.CEL_AUDIT_HEAD_VALUE + 1) with slots := [y] } : Cellar).slots = [y] := rfl
  have hdc : ({ s.cel.put R.CEL_AUDIT_HEAD_VALUE (s.cel.get R.CEL_AUDIT_HEAD_VALUE + 1) with slots := [y] } : Cellar).deferHold = [] := hd
  generalize ({ s.cel.put R.CEL_AUDIT_HEAD_VALUE (s.cel.get R.CEL_AUDIT_HEAD_VALUE + 1) with slots := [y] } : Cellar) = c at hstep hget hhead hc hdc
  obtain ⟨hroom2, -⟩ := State.flushAudit_cons 0 { s with die := s.die.hostWrite 0 s.cel.ringSlot x.bytes, cel := c } y [] hc
  have hr2 : c.ringRoom := by
    unfold Cellar.ringRoom
    rw [hhead, hget _ (by decide), hget _ (by decide), ← htail]
    generalize 2 ^ s.cel.get R.CEL_AUDIT_CTL_LOG2SIZE = z at hsize ⊢
    omega
  have hslot : c.ringSlot = s.cel.get R.CEL_AUDIT_BASE_LO * 64 + s.cel.get R.CEL_AUDIT_BASE_HI * 2 ^ 32
        + (s.cel.get R.CEL_AUDIT_HEAD_VALUE + 1) % 2 ^ 32 % 2 ^ s.cel.get R.CEL_AUDIT_CTL_LOG2SIZE * 32 := by
    unfold Cellar.ringSlot
    rw [hhead, hget _ (by decide), hget _ (by decide), hget _ (by decide)]
  have hflush := hstep.trans (hroom2 hr2)
  have he : s.drainAudit = State.takeDeferred (s.flushAudit s.cel.slots.length).cel.deferHold (s.flushAudit s.cel.slots.length) := rfl
  rw [he, hs]
  change (State.takeDeferred (s.flushAudit 2).cel.deferHold (s.flushAudit 2)).cel.slots = [] ∧ (State.takeDeferred (s.flushAudit 2).cel.deferHold (s.flushAudit 2)).die = _
  rw [hflush]
  have hdefer : (State.flushAudit 0 { s with
      die := (s.die.hostWrite 0 s.cel.ringSlot x.bytes).hostWrite 0 c.ringSlot y.bytes
      cel := { c.put R.CEL_AUDIT_HEAD_VALUE (c.get R.CEL_AUDIT_HEAD_VALUE + 1) with slots := [] } }).cel.deferHold = [] := hdc
  dsimp only
  rw [hdefer, ← hslot]
  exact ⟨rfl, rfl⟩

/-- SEAL_GO by a write of CEL_CONTROL, whatever it sets besides (R408). -/
theorem State.sealGo_taken (w : Nat) (s : State) :
    let c := s.cel
    let m := s.die.hostRead 0 (c.get R.CEL_SEAL_ADDR_LO * 64 + c.get R.CEL_SEAL_ADDR_HI * 2 ^ 32) 160
    let r := c.sealCheck s.fused m
    let t := State.sealGo { s with cel := s.cel.controlTaken w }
    (r = 1 → t = { s with cel := t.cel } ∧ t.cel.get R.CEL_STATUS_SEAL_RESULT = 1
      ∧ (if leNat (m.take 1) = 1 then t.cel.sealed = true ∧ t.cel.sealRecord = c.settings.image ∧ t.cel.breaks = c.breaks
          else t.cel.sealed = false ∧ t.cel.breaks = c.breaks + 1)
      ∧ t.cel.settings = c.settings ∧ t.cel.celQ.length = c.celQ.length + 1)
    ∧ (r ≠ 1 → t.cel.sealed = c.sealed ∧ t.cel.breaks = c.breaks ∧ t.cel.settings = c.settings
      ∧ t.cel.celQ = c.celQ ∧ t.cel.sealRecord = c.sealRecord
      ∧ (2 ≤ r → t = { s with cel := t.cel } ∧ t.cel.get R.CEL_STATUS_SEAL_RESULT = r)
      ∧ (r = 0 → t = { s with cel := t.cel, die := { s.die with free := t.die.free } } ∧ 1 ≤ t.cel.get R.CEL_STATUS_SEAL_RESULT
          ∧ t.cel.get R.CEL_STATUS_SEAL_RESULT ≤ 8)) := by
  obtain ⟨⟨r, hr⟩, -, hget⟩ := s.cel.controlTaken_takes w
  have h := State.sealGo_goes { s with cel := s.cel.controlTaken w }
  have hlo := hget R.CEL_SEAL_ADDR_LO (by decide) (by decide)
  have hhi := hget R.CEL_SEAL_ADDR_HI (by decide) (by decide)
  have hcheck (m : List Byte) : (s.cel.controlTaken w).sealCheck s.fused m = s.cel.sealCheck s.fused m := by rw [hr]; rfl
  have h1 : (s.cel.controlTaken w).settings = s.cel.settings := by rw [hr]
  have h2 : (s.cel.controlTaken w).breaks = s.cel.breaks := by rw [hr]
  have h3 : (s.cel.controlTaken w).celQ = s.cel.celQ := by rw [hr]
  have h4 : (s.cel.controlTaken w).sealed = s.cel.sealed := by rw [hr]
  have h5 : (s.cel.controlTaken w).sealRecord = s.cel.sealRecord := by rw [hr]
  generalize s.cel.controlTaken w = c at h hlo hhi hcheck h1 h2 h3 h4 h5 ⊢
  dsimp only at h ⊢
  rw [hlo, hhi, hcheck, h1, h2, h3, h4, h5] at h
  exact h

/-- CAL_START by a write of CEL_CONTROL (R402, R408). -/
theorem State.calStart_taken (w : Nat) (s : State) :
    let c := s.cel
    let e := (s.cel.controlTaken w).calStart
    (c.get R.CEL_STATUS_CAL_BUSY ≠ 1 → e.settings = c.settings
      ∧ (bits w 4 8 ≤ 185 → e.get R.CEL_CONTROL_CAL_POINT = bits w 4 8)
      ∧ (c.sealed = true → e.get R.CEL_STATUS_CAL_RESULT = 5 ∧ e.get R.CEL_STATUS_CAL_BUSY = c.get R.CEL_STATUS_CAL_BUSY)
      ∧ (c.sealed = false → c.get R.CEL_STATUS_PPS_PRESENT = 0 →
          e.get R.CEL_STATUS_CAL_RESULT = 2 ∧ e.get R.CEL_STATUS_CAL_BUSY = c.get R.CEL_STATUS_CAL_BUSY)
      ∧ (c.sealed = false → c.get R.CEL_STATUS_PPS_PRESENT ≠ 0 → e.get R.CEL_STATUS_CAL_RESULT = 0 ∧ e.get R.CEL_STATUS_CAL_BUSY = 1
          ∧ e.calEdges = 0 ∧ e.calBad = false))
    ∧ (c.get R.CEL_STATUS_CAL_BUSY = 1 → e.settings = c.settings ∧ e.get R.CEL_STATUS_CAL_BUSY = 1 ∧ e.calEdges = c.calEdges) := by
  obtain ⟨⟨r, hr⟩, hpoint, hget⟩ := s.cel.controlTaken_takes w
  have hbusy := hget R.CEL_STATUS_CAL_BUSY (by decide) (by decide)
  have hpps := hget R.CEL_STATUS_PPS_PRESENT (by decide) (by decide)
  have h1 : (s.cel.controlTaken w).settings = s.cel.settings := by rw [hr]
  have h2 : (s.cel.controlTaken w).sealed = s.cel.sealed := by rw [hr]
  have h3 : (s.cel.controlTaken w).calEdges = s.cel.calEdges := by rw [hr]
  generalize s.cel.controlTaken w = c at hpoint hbusy hpps h1 h2 h3 ⊢
  refine ⟨fun hb => ?_, fun hb => ?_⟩
  · obtain ⟨g1, g2, g3, g4, g5⟩ := c.calStart_result (by rwa [hbusy])
    rw [← h2, ← hpps, ← hbusy]
    exact ⟨g1.trans h1, fun hp => g2.trans (hpoint hp), g3, g4, g5⟩
  · rw [c.calStart_starts.1 (hbusy.trans hb)]
    exact ⟨h1, hbusy.trans hb, h3⟩

/-- CELLAR_POWER_UP (R380, R397, R403). -/
theorem Cellar.powerUp_starts (fu : Fused) (c : Cellar) : (c.powerUp fu).up = true ∧ (c.powerUp fu).sealed = c.sealed ∧ (c.powerUp fu).breaks = c.breaks
    ∧ (c.powerUp fu).sealRecord = c.sealRecord ∧ (c.powerUp fu).powerUps = c.powerUps + 1 ∧ (c.sealed = true → (c.powerUp fu).settings = c.settings)
    ∧ (c.sealed = false → (c.powerUp fu).settings = {}) ∧ (c.powerUp fu).tb0 = 0
    ∧ (c.powerUp fu).chain = 0 ∧ (c.powerUp fu).hash = hashOf (leBytes 8 fu.dieId ++ leBytes 2 c.breaks ++ leBytes 4 (c.powerUps + 1))
    ∧ (c.powerUp fu).launchQ = [] ∧ (c.powerUp fu).celQ.length = 1 :=
  ⟨rfl, rfl, rfl, rfl, rfl, fun h => if_pos h, fun h => if_neg (by rw [h]; decide), rfl, rfl, rfl, rfl, rfl⟩

/-- CKPT by a write of CEL_CONTROL (R406). -/
theorem State.ckpt_drains (w : Nat) (s : State) (hh : s.cel.get R.CEL_AUDIT_HEAD_VALUE < 2 ^ 32) :
    let c := s.cel
    let h := c.get R.CEL_AUDIT_HEAD_VALUE
    let size := 2 ^ c.get R.CEL_AUDIT_CTL_LOG2SIZE
    let base := c.get R.CEL_AUDIT_BASE_LO * 64 + c.get R.CEL_AUDIT_BASE_HI * 2 ^ 32
    let first := [6, 0, 0] ++ leBytes 1 (c.chain % 256) ++ List.replicate 6 0 ++ c.now.bytes ++ leBytes 8 c.chain ++ [0, 0]
    let second := beBytes 32 c.hash.toNat
    let t := State.drainAudit { s with cel := (s.cel.controlTaken w).checkpoint }
    t.kill = s.kill ∧ t.cel.chain = c.chain ∧ t.cel.hash = c.hash ∧ t.cel.settings = c.settings ∧ t.cel.tb0 = c.tb0
    ∧ (∃ n, n ≤ c.slots.length + 2 ∧ t.cel.slots = (c.slots ++ [(⟨first, 0⟩ : AuditSlot), ⟨second, 0⟩]).drop n
        ∧ t.cel.get R.CEL_AUDIT_HEAD_VALUE = (h + n) % 2 ^ 32
        ∧ (t.cel.slots ≠ [] → size ≤ ((h + n) % 2 ^ 32 + 2 ^ 32 - c.get R.CEL_AUDIT_TAIL_VALUE) % 2 ^ 32))
    ∧ (∃ more, t.cel.celQ = c.celQ ++ more ∧ (c.deferHold = [] → more = []))
    ∧ (c.slots = [] → c.deferHold = [] → 2 ≤ size → h = c.get R.CEL_AUDIT_TAIL_VALUE → t.cel.slots = []
        ∧ t.die = (s.die.hostWrite 0 (base + h % size * 32) first).hostWrite 0 (base + (h + 1) % 2 ^ 32 % size * 32) second) := by
  intro c h size base first second t
  obtain ⟨⟨r, hr⟩, -, hget⟩ := s.cel.controlTaken_takes w
  have hcget (f : Fld) (h1 : f.key 0 ≠ R.CEL_CONTROL_AUTH0.key 0) (h2 : f.key 0 ≠ R.CEL_CONTROL_CAL_POINT.key 0) :
      (s.cel.controlTaken w).checkpoint.get f = c.get f := hget f h1 h2
  have hchain : (s.cel.controlTaken w).checkpoint.chain = c.chain := by rw [hr]; rfl
  have hhash : (s.cel.controlTaken w).checkpoint.hash = c.hash := by rw [hr]; rfl
  have hset : (s.cel.controlTaken w).checkpoint.settings = c.settings := by rw [hr]; rfl
  have htb : (s.cel.controlTaken w).checkpoint.tb0 = c.tb0 := by rw [hr]; rfl
  have hq : (s.cel.controlTaken w).checkpoint.celQ = c.celQ := by rw [hr]; rfl
  have hdef : (s.cel.controlTaken w).checkpoint.deferHold = c.deferHold := by rw [hr]; rfl
  have hslots : (s.cel.controlTaken w).checkpoint.slots = c.slots ++ [(⟨first, 0⟩ : AuditSlot), ⟨second, 0⟩] := by rw [hr]; rfl
  have ht : t = State.drainAudit { s with cel := (s.cel.controlTaken w).checkpoint } := rfl
  generalize (s.cel.controlTaken w).checkpoint = y at hcget hchain hhash hset htb hq hdef hslots ht
  have hhead := hcget R.CEL_AUDIT_HEAD_VALUE (by decide) (by decide)
  have htail := hcget R.CEL_AUDIT_TAIL_VALUE (by decide) (by decide)
  have hsize := hcget R.CEL_AUDIT_CTL_LOG2SIZE (by decide) (by decide)
  obtain ⟨h1, h2, h3, h4, h5, -, ⟨more, h7, h7'⟩, -, k, hkl, hk, hkh, hend, hkget⟩ := State.drainAudit_drains { s with cel := y }
  have htwo := State.drainAudit_two { s with cel := y } (⟨first, 0⟩ : AuditSlot) ⟨second, 0⟩
  rw [← ht] at h1 h2 h3 h4 h5 h7 hk hkh hend hkget htwo
  dsimp only at h1 h2 h3 h4 h5 h7 h7' hkl hk hkh hend hkget htwo
  refine ⟨h1, h2.trans hchain, h3.trans hhash, h4.trans hset, h5.trans htb, ⟨k, ?_, by rw [hk, hslots], ?_, fun hne => ?_⟩, ⟨more, by rw [h7, hq], fun hd => h7' (hdef.trans hd)⟩,
    fun hs hd h2 ht0 => ?_⟩
  · rw [hslots, List.length_append] at hkl
    exact hkl
  · rw [hkh (by rw [hhead]; exact hh), hhead]
  · have hno := hend hne
    unfold Cellar.ringRoom at hno
    rw [hkh (by rw [hhead]; exact hh), hkget _ (by decide) (by decide), hkget _ (by decide) (by decide), hhead, htail, hsize] at hno
    exact Nat.not_lt.1 hno
  · obtain ⟨g1, g2⟩ := htwo (by rw [hslots, hs]; rfl) (hdef.trans hd) (by rw [hsize]; exact h2) (by rw [hhead, htail]; exact ht0)
    refine ⟨g1, g2.trans ?_⟩
    unfold Cellar.ringSlot
    rw [hhead, hsize, hcget R.CEL_AUDIT_BASE_LO (by decide) (by decide), hcget R.CEL_AUDIT_BASE_HI (by decide) (by decide)]

/-- Settles O31: each write or event, then what the seal, the run or the chain is left with. -/
theorem cellarSealsAndAudits : Obligations.CellarSealsAndAudits := by
  unfold Obligations.CellarSealsAndAudits
  refine ⟨fun s src w => ?_, fun s => ?_⟩
  · dsimp only
    refine ⟨fun hg h1 => ?_, fun hg h1 h2 h3 => ?_, fun x => ⟨fun hb ho => ⟨_, rfl, s.calDone_ends x hb ho⟩, fun h => ⟨_, rfl, if_neg h⟩⟩,
      ⟨_, rfl, rfl, s.cel.powerUp_starts s.fused⟩⟩
    · have hexec : exec (.sealGo src w) s = .next (State.sealGo { s with cel := s.cel.controlTaken w.toNat }) :=
        congrArg Host.Outcome.next ((writeAt_admitted hg (celControlW w.toNat)).trans ((celControlW_acts w.toNat s).1 h1))
      obtain ⟨hyes, hno⟩ := s.sealGo_taken w.toNat
      exact ⟨fun hr => ⟨_, hexec, hyes hr⟩, fun hr => ⟨_, hexec, hno hr⟩⟩
    · have hexec : exec (.cellarCalStart src w) s = .next { s with cel := (s.cel.controlTaken w.toNat).calStart } :=
        congrArg Host.Outcome.next ((writeAt_admitted hg (celControlW w.toNat)).trans ((celControlW_acts w.toNat s).2.2 h1 h2 h3))
      obtain ⟨hidle, hbusy⟩ := s.calStart_taken w.toNat
      exact ⟨fun hb => ⟨_, hexec, rfl, hidle hb⟩, fun hb => ⟨_, hexec, rfl, hbusy hb⟩⟩
  · dsimp only
    refine ⟨fun a rest hup hq hb => ⟨_, congrArg Host.Outcome.next ((s.auditHash_takes hup).1 a rest hq hb), ?_⟩,
      fun b rest hup hq ha => ⟨_, congrArg Host.Outcome.next ((s.auditHash_takes hup).2.1 b rest hq ha), ?_⟩, fun h => ?_, fun src w hg h1 h2 hh => ?_⟩
    · exact State.hashed_leaves a 2 { s.cel with celQ := rest } s rfl rfl rfl rfl
    · exact State.hashed_leaves b 1 { s.cel with launchQ := rest } s rfl rfl rfl rfl
    · refine ⟨_, congrArg Host.Outcome.next ?_, rfl⟩
      by_cases hup : s.cel.up = true
      · obtain ⟨hq, hl⟩ := h.resolve_left (by rw [hup]; decide)
        exact (s.auditHash_takes hup).2.2 hq hl
      · exact if_neg hup
    · have hexec : exec (.ckpt src w) s = .next (State.drainAudit { s with cel := (s.cel.controlTaken w.toNat).checkpoint }) :=
        congrArg Host.Outcome.next ((writeAt_admitted hg (celControlW w.toNat)).trans ((celControlW_acts w.toNat s).2.1 h1 h2))
      exact ⟨_, hexec, s.ckpt_drains w.toNat hh⟩

end Sys2Proof.Machine
end

section
/-! SUPPORT. The owner's PTP frames and their timestamps (R381, R383, R394, R615). -/

namespace Sys2Proof.Machine

/-- The low bytes of a number are its first ones. -/
theorem leNat_take (n : Nat) (bs : List Byte) : leNat bs % 256 ^ n = leNat (bs.take n) := by
  induction n generalizing bs with
  | zero => simp [leNat, Nat.mod_one]
  | succ n ih =>
    cases bs with
    | nil => simp [leNat]
    | cons b bs =>
      rw [List.take_succ_cons, leNat, leNat, ← ih]
      have hb : b.toNat < 256 := b.isLt
      have hdiv : (b.toNat + 256 * leNat bs) / 256 = leNat bs := by omega
      have hmod : (b.toNat + 256 * leNat bs) % 256 = b.toNat := by omega
      rw [pow_succ, Nat.mul_comm (256 ^ n) 256, Nat.mod_mul, hdiv, hmod]

theorem leBytes_leNat (bs : List Byte) : leBytes bs.length (leNat bs) = bs := by
  induction bs with
  | nil => rfl
  | cons b bs ih =>
    have hb : b.toNat < 256 := b.isLt
    rw [List.length_cons, leBytes, leNat, show (b.toNat + 256 * leNat bs) / 256 = leNat bs by omega, ih]
    congr 1
    apply BitVec.eq_of_toNat_eq
    rw [BitVec.toNat_ofNat]
    omega

theorem KMap.getRange_length {α : Type} (x : α) (m : KMap α) (a n : Nat) : (KMap.getRange x m a n).length = n := by
  simp [KMap.getRange]

/-- A TX timestamp joins the queue of its port while it has room (R383). -/
theorem Die.addTxts_adds (t id tb pas : Nat) (st : Stamp) (d : Die) : (d.addTxts t id tb pas st).emits = d.emits
    ∧ (∀ f i, reportWord (Fld.key f i / 32) = false → f.key i ≠ R.ETH_TXTS_LOST_ID.key t → f.key i ≠ R.ETH_TXTS_LOST_VALID.key t →
        (d.addTxts t id tb pas st).get f i = d.get f i)
    ∧ ((KMap.get [] d.txts t).length < 64 → KMap.get [] (d.addTxts t id tb pas st).txts t
        = KMap.get [] d.txts t ++ [leBytes 2 id ++ (leBytes 1 (tb % 8) ++ leBytes 1 (pas % 64) ++ st.bytes)]) := by
  unfold Die.addTxts
  dsimp only
  by_cases h : (KMap.get [] d.txts t).length < 64
  · rw [if_pos h]
    refine ⟨rfl, fun _ _ _ _ _ => rfl, fun _ => ?_⟩
    rw [KMap.get_set_same, List.append_assoc, List.append_assoc, List.append_assoc]
  · rw [if_neg h]
    refine ⟨?_, fun f i hf h1 h2 => ?_, fun hl => absurd hl h⟩
    · split
      · exact Die.count_emits _ _ _
      · exact Die.count_emits _ _ _
    · split
      · exact (Die.report_count T.ETH_TXTS_OVF t d).2 f i hf
      · exact (Die.get_put_other _ _ _ _ _ _ h2).trans ((Die.get_put_other _ _ _ _ _ _ h1).trans ((Die.report_count T.ETH_TXTS_OVF t d).2 f i hf))

/-- The slot that the tail of a port's PTP ring names (R615). -/
def Die.ptpSlot (d : Die) (n : Nat) : List Byte :=
  d.hostRead 0 (d.addr64 R.ETH_PTPTX_BASE_LO R.ETH_PTPTX_BASE_HI n + d.get R.ETH_PTPTX_TAIL_VALUE n % 2 ^ d.get R.ETH_PTPTX_CTL_LOG2SIZE n * 2048) 2048

/-- A port with a slot to take and nothing before it (R394). -/
theorem State.ptpSend_eq (n : Nat) (cap : Capture) (s : State) (hon : s.die.on R.ETH_PTPTX_CTL_ENABLE n = true)
    (hfill : 0 < (s.die.get R.ETH_PTPTX_HEAD_VALUE n + 2 ^ 32 - s.die.get R.ETH_PTPTX_TAIL_VALUE n) % 2 ^ 32) (hact : s.die.on R.ETH_STATUS_ACTIVE n = true)
    (hsched : (KMap.get {} s.die.ports (64 + n)).sched = none) (hfree : s.die.lineFree 1 n ≤ s.die.now21 + s.die.dtx 1 n)
    (hready : s.die.readyFor 1 n (s.die.now21 + s.die.dtx 1 n) = []) : s.ptpSend n cap =
    if leNat ((s.die.ptpSlot n).take 2) < 60 ∨ 1518 < leNat ((s.die.ptpSlot n).take 2) ∨ (slice (s.die.ptpSlot n) 4 28).any (fun b => b != 0) then
      { s with die := (s.die.put R.ETH_PTPTX_TAIL_VALUE n (s.die.get R.ETH_PTPTX_TAIL_VALUE n + 1)).count T.ETH_PTP_TX_BAD n }
    else if s.die.crossesSlot 64 1 n (s.die.boundary 1 n s.die.now21 (s.die.now21 + s.die.dtx 1 n)) (leNat ((s.die.ptpSlot n).take 2)) then s
    else
      let d := s.die.put R.ETH_PTPTX_TAIL_VALUE n (s.die.get R.ETH_PTPTX_TAIL_VALUE n + 1)
      let busy := cap.fc16 * 21000 / 16 + (frameWords 1 (leNat ((s.die.ptpSlot n).take 2))).2 * d.wordUnits 1 n
      let d1 : Die := { d with ports := KMap.upd {} d.ports (64 + n) (fun x => { x with busyTo := busy }) }
      { s with
        die := (d1.emit (.frame n (ethLine (slice (s.die.ptpSlot n) 32 (leNat ((s.die.ptpSlot n).take 2)))))).addTxts n (leNat (slice (s.die.ptpSlot n) 2 2))
          (d.get R.ETH_TSCFG_TB n) 63 ((stampsOf d1 (s.cel.capFc (42 + n) true cap) (s.cel.capTb0 (42 + n) true cap)).getD (d.get R.ETH_TSCFG_TB n) {})
        cel := s.cel.keepPtp n (leNat (slice (s.die.ptpSlot n) 2 2)) true (s.cel.capTb0 (42 + n) true cap) } := by
  unfold State.ptpSend
  refine if_pos ?_
  simp only [hon, hact, hsched, hready, decide_eq_true hfill, decide_eq_true hfree, Option.isNone_none, List.isEmpty_nil, Bool.and_self]

/-- The tail of a port's PTP ring apart from the words of reports and of lost timestamps. -/
theorem ptpTail_apart (n : Nat) (hn : n < 16) : reportWord (R.ETH_PTPTX_TAIL_VALUE.key n / 32) = false
    ∧ R.ETH_PTPTX_TAIL_VALUE.key n ≠ R.ETH_TXTS_LOST_ID.key n ∧ R.ETH_PTPTX_TAIL_VALUE.key n ≠ R.ETH_TXTS_LOST_VALID.key n := by
  refine ⟨reportWord_eth _ n rfl hn (by decide) (by decide), ?_, ?_⟩
  · simp only [Fld.key, R.ETH_PTPTX_TAIL_VALUE, R.ETH_TXTS_LOST_ID]
    omega
  · simp only [Fld.key, R.ETH_PTPTX_TAIL_VALUE, R.ETH_TXTS_LOST_VALID]
    omega

/-- A frame that is sent (R381, R383). -/
theorem Die.ptpSent (n : Nat) (hn : n < 16) (v busy tag tb : Nat) (bytes : List Byte) (st : Stamp) (d : Die) :
    let t := Die.addTxts n tag tb 63 st (Die.emit (.frame n bytes) { d.put R.ETH_PTPTX_TAIL_VALUE n v with
      ports := KMap.upd {} d.ports (64 + n) (fun x => { x with busyTo := busy }) })
    t.get R.ETH_PTPTX_TAIL_VALUE n = v % 2 ^ 32 ∧ t.emits = d.emits ++ [.frame n bytes]
    ∧ ((KMap.get [] d.txts n).length < 64 → KMap.get [] t.txts n
        = KMap.get [] d.txts n ++ [leBytes 2 tag ++ (leBytes 1 (tb % 8) ++ leBytes 1 (63 % 64) ++ st.bytes)]) := by
  obtain ⟨hemits, hget, htxts⟩ := Die.addTxts_adds n tag tb 63 st (Die.emit (.frame n bytes) { d.put R.ETH_PTPTX_TAIL_VALUE n v with
      ports := KMap.upd {} d.ports (64 + n) (fun x => { x with busyTo := busy }) })
  obtain ⟨h1, h2, h3⟩ := ptpTail_apart n hn
  exact ⟨(hget _ _ h1 h2 h3).trans (Die.get_put_same d R.ETH_PTPTX_TAIL_VALUE n v), hemits, htxts⟩

theorem slice_tag (slot : List Byte) (hlen : slot.length = 2048) (tail : List Byte) : slice (leBytes 2 (leNat (slice slot 2 2)) ++ tail) 0 2 = slice slot 2 2 := by
  have hl : (slice slot 2 2).length = 2 := by
    unfold slice
    rw [List.length_take, List.length_drop, hlen]
    rfl
  have he := leBytes_leNat (slice slot 2 2)
  rw [hl] at he
  rw [he]
  unfold slice at hl ⊢
  rw [List.drop_zero]
  exact List.take_left' hl

theorem Die.ptpSlot_length (d : Die) (n : Nat) : (d.ptpSlot n).length = 2048 := KMap.getRange_length _ _ _ _

/-- TXTS_READ takes the oldest timestamp of the port (R383). -/
theorem State.txtsRead_takes (s : State) (src : Source) (n : Nat) (hn : n < 16) (x : List Byte) (rest : List (List Byte)) (hvf : ∀ p, src ≠ .vf p)
    (hpath : s.die.pathUp src = true) (hans : s.die.answers src .ETH = true) (hq : KMap.get [] s.die.txts n = x :: rest) :
    s.answers (.txtsRead src n) (leNat x % 2 ^ 32) (fun e => KMap.get [] e.txts n = rest) := by
  have hexec : exec (.txtsRead src n) s = .next (s.readAt src (blockAddr .ETH n 0x820)) := if_pos (decide_eq_true hn)
  have hpage : pageOf s.fused (blockAddr .ETH n 0x820) = some (.ETH, n, 0x820) := by interval_cases n <;> rfl
  have hreads : s.reads src .ETH n 0x820 := ⟨rfl, hpath, hans, hpage, fun p hp => absurd hp (hvf p)⟩
  refine State.answers_first 4 (leNat x) hexec hreads (by decide) (by decide) rfl (by simp) (by decide) (e := { s.die with txts := KMap.set [] s.die.txts n rest }) ?_ rfl
    ⟨rfl, rfl, rfl⟩ ?_
  · unfold State.itemRead
    dsimp only
    rw [hq]
  · exact KMap.get_set_same [] s.die.txts n rest

/-- Settles O34: a slot is sent, waits or is skipped, and a timestamp is taken. -/
theorem ptpFramesSent : Obligations.PtpFramesSent := by
  unfold Obligations.PtpFramesSent
  intro s n cap hn
  dsimp only
  have hexec : exec (.ptpTx n cap) s = .next (s.ptpSend n cap) := if_pos (decide_eq_true hn)
  refine ⟨fun hon hfill hact hsched hfree hready => ?_, fun src x rest hvf hpath hans hq => ?_⟩
  · have hsend := s.ptpSend_eq n cap hon hfill hact hsched hfree hready
    change (60 ≤ leNat ((s.die.ptpSlot n).take 2) ∧ leNat ((s.die.ptpSlot n).take 2) ≤ 1518 ∧ (∀ b ∈ slice (s.die.ptpSlot n) 4 28, b = 0) → _) ∧ _
    have hgood (h : 60 ≤ leNat ((s.die.ptpSlot n).take 2) ∧ leNat ((s.die.ptpSlot n).take 2) ≤ 1518 ∧ ∀ b ∈ slice (s.die.ptpSlot n) 4 28, b = 0) :
        ¬ (leNat ((s.die.ptpSlot n).take 2) < 60 ∨ 1518 < leNat ((s.die.ptpSlot n).take 2) ∨ (slice (s.die.ptpSlot n) 4 28).any (fun b => b != 0) = true) := by
      rintro (h1 | h1 | h1)
      · omega
      · omega
      · obtain ⟨b, hb, hne⟩ := List.any_eq_true.1 h1
        exact absurd (h.2.2 b hb) (bne_iff_ne.1 hne)
    refine ⟨fun hg hc => ⟨_, hexec, hsend.trans ((if_neg (hgood hg)).trans (if_pos hc))⟩, fun hg hc => ?_, fun hb => ?_⟩
    · have ht := hsend.trans ((if_neg (hgood hg)).trans (if_neg (fun h => Bool.noConfusion (hc.symm.trans h))))
      refine ⟨_, hexec.trans (congrArg Host.Outcome.next ht), rfl, ?_⟩
      obtain ⟨h1, h2, h3⟩ := Die.ptpSent n hn (s.die.get R.ETH_PTPTX_TAIL_VALUE n + 1)
        (cap.fc16 * 21000 / 16 + (frameWords 1 (leNat ((s.die.ptpSlot n).take 2))).2 * (s.die.put R.ETH_PTPTX_TAIL_VALUE n (s.die.get R.ETH_PTPTX_TAIL_VALUE n + 1)).wordUnits 1 n)
        (leNat (slice (s.die.ptpSlot n) 2 2)) ((s.die.put R.ETH_PTPTX_TAIL_VALUE n (s.die.get R.ETH_PTPTX_TAIL_VALUE n + 1)).get R.ETH_TSCFG_TB n)
        (ethLine (slice (s.die.ptpSlot n) 32 (leNat ((s.die.ptpSlot n).take 2)))) _ s.die
      refine ⟨h1, ⟨[], h2.trans (List.append_nil _).symm⟩, fun hroom => ⟨_, h3 hroom, slice_tag _ (s.die.ptpSlot_length n) _⟩⟩
    · have hbad : leNat ((s.die.ptpSlot n).take 2) < 60 ∨ 1518 < leNat ((s.die.ptpSlot n).take 2) ∨ (slice (s.die.ptpSlot n) 4 28).any (fun b => b != 0) = true := by
        by_contra hno
        refine hb ⟨show 60 ≤ leNat ((s.die.ptpSlot n).take 2) by omega, show leNat ((s.die.ptpSlot n).take 2) ≤ 1518 by omega, fun b hb' => ?_⟩
        by_contra hne
        exact hno (.inr (.inr (List.any_eq_true.2 ⟨b, hb', bne_iff_ne.2 hne⟩)))
      have ht := hsend.trans (if_pos hbad)
      have hrep := Die.report_count T.ETH_PTP_TX_BAD n (s.die.put R.ETH_PTPTX_TAIL_VALUE n (s.die.get R.ETH_PTPTX_TAIL_VALUE n + 1))
      refine ⟨_, hexec.trans (congrArg Host.Outcome.next ht), rfl, ?_, ?_, (congrArg Die.txts hrep.1).trans rfl, (congrArg Die.ports hrep.1).trans rfl⟩
      · exact (hrep.2 _ _ (ptpTail_apart n hn).1).trans (Die.get_put_same _ _ _ _)
      · exact Die.tally_count_exact T.ETH_PTP_TX_BAD n _ rfl
  · obtain ⟨t, ht, hframe, hdata, hregs, -, -, htxts⟩ := s.txtsRead_takes src n hn x rest hvf hpath hans hq
    refine ⟨t, ht, hframe, htxts, hregs, BitVec.eq_of_toNat_eq ?_⟩
    rw [hdata, BitVec.toNat_ofNat, ← Nat.mod_mod]
    refine congrArg (· % 2 ^ 32) ?_
    exact leNat_take 4 x

end Sys2Proof.Machine
end

section
/-! SUPPORT. The choice of a transmit port and its commit (R389 to R395, R417). -/

namespace Sys2Proof.Machine

/-- What goes before what on a port: by rank, then by number (R394). -/
theorem Die.before_iff (d : Die) (p q : Nat) : d.before p q = true ↔ d.rank q < d.rank p ∨ (d.rank p = d.rank q ∧ p < q) := by
  simp [Die.before]

/-- The order of the pastures on a port, the pasture itself included. -/
def Die.first (d : Die) (p q : Nat) : Prop := q = p ∨ d.before p q = true

theorem Die.first_trans (d : Die) {p q r : Nat} (h : d.first p q) (h' : d.first q r) : d.first p r := by
  rcases h with rfl | h
  · exact h'
  · rcases h' with rfl | h'
    · exact .inr h
    · rw [Die.before_iff] at h h'
      exact .inr ((d.before_iff p r).2 (by omega))

theorem Die.first_total (d : Die) (p q : Nat) : d.first p q ∨ d.first q p := by
  simp only [Die.first, Die.before_iff]
  omega

/-- Among some entries one is of a pasture that no other comes before. -/
theorem Die.exists_first (d : Die) (l : List (Nat × LaunchEnt)) (h : l ≠ []) : ∃ x ∈ l, ∀ y ∈ l, d.first x.2.pasture y.2.pasture := by
  induction l with
  | nil => exact absurd rfl h
  | cons a l ih =>
    by_cases hl : l = []
    · exact ⟨a, List.mem_cons_self, by subst hl; intro y hy; obtain rfl := List.mem_singleton.1 hy; exact .inl rfl⟩
    · obtain ⟨x, hx, hall⟩ := ih hl
      rcases d.first_total a.2.pasture x.2.pasture with hax | hxa
      · refine ⟨a, List.mem_cons_self, fun y hy => ?_⟩
        rcases List.mem_cons.1 hy with rfl | hy
        · exact .inl rfl
        · exact d.first_trans hax (hall y hy)
      · refine ⟨x, List.mem_cons_of_mem _ hx, fun y hy => ?_⟩
        rcases List.mem_cons.1 hy with rfl | hy
        · exact hxa
        · exact hall y hy

/-- The first entry of a sorted list that satisfies a test is the lowest that does. -/
theorem find?_lowest {α : Type} (l : List (Nat × α)) (f : Nat × α → Bool) (hl : l.Pairwise (fun x y => x.1 < y.1)) (x : Nat × α)
    (h : l.find? f = some x) (y : Nat × α) (hy : y ∈ l) (hf : f y = true) : x.1 ≤ y.1 := by
  induction l with
  | nil => cases hy
  | cons a l ih =>
    rw [List.find?_cons] at h
    cases hfa : f a with
    | true =>
      rw [hfa] at h
      cases h
      rcases List.mem_cons.1 hy with rfl | hy
      · exact Nat.le_refl _
      · exact Nat.le_of_lt ((List.pairwise_cons.1 hl).1 y hy)
    | false =>
      rw [hfa] at h
      rcases List.mem_cons.1 hy with rfl | hy
      · rw [hfa] at hf; cases hf
      · exact ih (List.pairwise_cons.1 hl).2 h hy

/-- The heads of the launch queues are the first entries of queues, in the order of the queues. -/
theorem Die.mem_heads (d : Die) (x : Nat × LaunchEnt) (h : x ∈ d.heads) : (KMap.get [] d.launch x.1).head? = some x.2 := by
  obtain ⟨k, -, hk⟩ := List.mem_filterMap.1 h
  split at hk
  · next e es hq => cases hk; simp [hq]
  · cases hk

theorem Die.heads_of (d : Die) (k : Nat) (hk : k < 512) (e : LaunchEnt) (es : List LaunchEnt) (h : KMap.get [] d.launch k = e :: es) : (k, e) ∈ d.heads :=
  List.mem_filterMap.2 ⟨k, List.mem_range.2 hk, by rw [h]⟩

theorem Die.heads_sorted (d : Die) : d.heads.Pairwise (fun x y => x.1 < y.1) := by
  refine List.Pairwise.filterMap _ (R := (· < ·)) (fun a b hab x hx y hy => ?_) List.pairwise_lt_range
  split at hx
  · next => 
    split at hy
    · cases hx; cases hy; exact hab
    · cases hy
  · cases hx

theorem Die.readyFor_sorted (d : Die) (kind n s : Nat) : (d.readyFor kind n s).Pairwise (fun x y => x.1 < y.1) := d.heads_sorted.filter _

theorem Die.readyFor_head (d : Die) (kind n s : Nat) (x : Nat × LaunchEnt) (h : x ∈ d.readyFor kind n s) :
    (KMap.get [] d.launch x.1).head? = some x.2 := d.mem_heads x (List.mem_filter.1 h).1

/-- What the choice of a port is (R394). -/
structure Die.chosenAs (d : Die) (kind n b : Nat) (x : Nat × LaunchEnt) : Prop where
  ready : x ∈ d.readyFor kind n b
  lowest : ∀ y ∈ d.readyFor kind n b, y.2.pasture = x.2.pasture → x.1 ≤ y.1
  owner : (∃ p, d.slotOwner kind n b = some p ∧ ∃ y ∈ d.readyFor kind n b, y.2.pasture = p) → d.slotOwner kind n b = some x.2.pasture
  rank : (¬ ∃ p, d.slotOwner kind n b = some p ∧ ∃ y ∈ d.readyFor kind n b, y.2.pasture = p) →
    ∀ y ∈ d.readyFor kind n b, y.2.pasture = x.2.pasture ∨ d.before x.2.pasture y.2.pasture = true

/-- An entry of a pasture that no other ready one's comes before. -/
def Die.leads (d : Die) (kind n b : Nat) (x : Nat × LaunchEnt) : Bool :=
  (d.readyFor kind n b).all (fun y => y.2.pasture == x.2.pasture || d.before x.2.pasture y.2.pasture)

theorem Die.leads_iff (d : Die) (kind n b : Nat) (x : Nat × LaunchEnt) :
    d.leads kind n b x = true ↔ ∀ y ∈ d.readyFor kind n b, d.first x.2.pasture y.2.pasture := by
  simp [Die.leads, Die.first]

theorem Die.choose_eq (d : Die) (kind n b : Nat) : d.choose kind n b
    = match (match d.slotOwner kind n b with
      | some p => (d.readyFor kind n b).find? (fun x => x.2.pasture == p)
      | none => none) with
    | some x => some x
    | none => (d.readyFor kind n b).find? (d.leads kind n b) := rfl

/-- Where no slot owner has an entry ready, the choice goes by rank. -/
theorem Die.choose_rank (d : Die) (kind n b : Nat) (h : ¬ ∃ p, d.slotOwner kind n b = some p ∧ ∃ y ∈ d.readyFor kind n b, y.2.pasture = p)
    (hne : d.readyFor kind n b ≠ []) (hc : d.choose kind n b = (d.readyFor kind n b).find? (d.leads kind n b)) :
    ∃ x, d.choose kind n b = some x ∧ d.chosenAs kind n b x := by
  obtain ⟨z, hz, hzall⟩ := d.exists_first _ hne
  cases hfind : (d.readyFor kind n b).find? (d.leads kind n b) with
  | none => exact absurd ((d.leads_iff kind n b z).2 hzall) (List.find?_eq_none.1 hfind z hz)
  | some x =>
    have hx := (d.leads_iff kind n b x).1 (List.find?_some hfind)
    refine ⟨x, hc.trans hfind, List.mem_of_find?_eq_some hfind, fun y hy hp => ?_, fun ho => absurd ho h, fun _ => hx⟩
    exact find?_lowest _ _ (d.readyFor_sorted kind n b) x hfind y hy ((d.leads_iff kind n b y).2 (by rw [hp]; exact hx))

/-- A port chooses where an entry is ready. -/
theorem Die.choose_chooses (d : Die) (kind n b : Nat) (hne : d.readyFor kind n b ≠ []) :
    ∃ x, d.choose kind n b = some x ∧ d.chosenAs kind n b x := by
  cases ho : d.slotOwner kind n b with
  | none =>
    refine d.choose_rank kind n b (fun ⟨p, hp, _⟩ => by rw [ho] at hp; cases hp) hne ?_
    rw [Die.choose_eq, ho]
  | some p =>
    cases hf : (d.readyFor kind n b).find? (fun x => x.2.pasture == p) with
    | none =>
      refine d.choose_rank kind n b (fun ⟨q, hq, y, hy, hyq⟩ => ?_) hne ?_
      · rw [ho] at hq
        cases hq
        exact List.find?_eq_none.1 hf y hy (by simp [hyq])
      · rw [Die.choose_eq, ho]
        dsimp only
        rw [hf]
    | some x =>
      have hxp : x.2.pasture = p := by simpa using List.find?_some (p := fun x : Nat × LaunchEnt => x.2.pasture == p) hf
      have hx := List.mem_of_find?_eq_some hf
      refine ⟨x, ?_, hx, fun y hy hp => ?_, fun _ => by rw [ho, hxp], fun hno => absurd ⟨p, ho, x, hx, hxp⟩ hno⟩
      · rw [Die.choose_eq, ho]
        dsimp only
        rw [hf]
      · exact find?_lowest _ _ (d.readyFor_sorted kind n b) x hf y hy (by simp [hp, hxp])

theorem Die.choose_none (d : Die) (kind n b : Nat) (h : d.readyFor kind n b = []) : d.choose kind n b = none := by
  unfold Die.choose
  rw [h]
  cases d.slotOwner kind n b <;> rfl

/-- A queue's head without error or poison stays. -/
theorem State.dropPoisoned_clean (k : Nat) (hk : k < 512) (s : State) (hecc : s.die.ecc = []) (hpoison : s.die.poison = [])
    (hheads : ∀ x ∈ s.die.heads, x.2.poison = false) : s.dropPoisoned k = s := by
  unfold State.dropPoisoned
  split
  · rfl
  · rfl
  · next e es hc hq =>
    have he : e.poison = false := hheads _ (s.die.heads_of k hk e es hq)
    unfold Die.eccRead
    dsimp only
    rw [hecc, hpoison, he]
    rfl

theorem foldl_same {σ α : Type} (f : σ → α → σ) (l : List α) (s : σ) (h : ∀ x ∈ l, f s x = s) : l.foldl f s = s := by
  induction l with
  | nil => rfl
  | cons a l ih =>
    rw [List.foldl_cons, h a List.mem_cons_self]
    exact ih (fun x hx => h x (List.mem_cons_of_mem _ hx))

theorem Die.report_breakSlots (kind n b : Nat) (d : Die) : d.report (d.breakSlots kind n b) := by
  unfold Die.breakSlots
  split
  · exact d.report_refl
  · next p _ =>
    generalize hl : d.covering kind n b = l
    generalize hd : d.readyFor kind n b = r
    clear hl hd
    have hg (e : Die) : d.report e → d.report (l.foldl (fun d' q => if q ≠ p ∧ (d'.readyFor kind n b).any (fun x => x.2.pasture == q)
        ∧ (d'.readyFor kind n b).any (fun x => x.2.pasture == p) then d'.count T.EGR_SLOT_BREAK q else d') e) := by
      induction l generalizing e with
      | nil => exact id
      | cons q l ih => exact fun h => ih _ (h.trans (Die.report_ite (Die.report_count _ _ _) e.report_refl))
    exact hg d d.report_refl

/-- A free port with entries ready takes one as its choice. -/
theorem State.frameStart_chooses (s : State) (kind n b : Nat) (hfree : s.die.portFree kind n b = true) (hlane : kind = 2 → s.die.firstOnLane n = false)
    (hecc : s.die.ecc = []) (hpoison : s.die.poison = []) (hheads : ∀ x ∈ s.die.heads, x.2.poison = false) :
    s.frameStart kind n b = match s.die.choose kind n b with
      | none => s
      | some (_, e) => { s with die := { s.die.breakSlots kind n b with
          ports := KMap.upd {} (s.die.breakSlots kind n b).ports (kind * 64 + n) (fun x => { x with sched := some e, start := b }) } } := by
  unfold State.frameStart
  have hgo : (s.die.portFree kind n b && !(kind == 2 && s.die.firstOnLane n)) = true := by
    rw [hfree]
    by_cases h2 : kind = 2
    · simp [hlane h2]
    · simp [h2]
  rw [if_pos hgo, foldl_same _ _ s (fun k hk => s.dropPoisoned_clean k (List.mem_range.1 hk) hecc hpoison hheads)] <;> rfl

theorem State.frameStart_busy (s : State) (kind n b : Nat) (h : s.die.portFree kind n b = false ∨ (kind = 2 ∧ s.die.firstOnLane n = true)) :
    s.frameStart kind n b = s := by
  unfold State.frameStart
  refine if_neg ?_
  rcases h with h | ⟨rfl, h⟩ <;> simp [h]

/-- A report leaves ports and launch queues. -/
theorem Die.report_ports {d e : Die} (h : d.report e) : e.ports = d.ports ∧ e.launch = d.launch := by
  rw [h.1]
  exact ⟨rfl, rfl⟩

/-- A commit of one word of what stands at a port. -/
theorem Die.port_upd (d : Die) (key : Nat) (f : PortSt → PortSt) :
    KMap.get {} ({ d with ports := KMap.upd {} d.ports key f } : Die).ports key = f (KMap.get {} d.ports key) := KMap.get_upd_same _ _ _ _

/-- A chosen entry that is dropped leaves its port and its queue, is counted, and gives back its reservation. -/
theorem State.dropSched_drops (key : Nat) (e : LaunchEnt) (c : Tal) (i : Nat) (s : State)
    (hc : (s.die.count c i).tally c i = tallyAdd (s.die.tally c i) 1) :
    (KMap.get {} (s.dropSched key e c i).die.ports key).sched = none
    ∧ (KMap.get {} (s.dropSched key e c i).die.ports key).line = (KMap.get {} s.die.ports key).line
    ∧ (s.dropSched key e c i).die.tally c i = tallyAdd (s.die.tally c i) 1 ∧ (s.dropSched key e c i).kill = s.kill
    ∧ KMap.get [] (s.dropSched key e c i).die.launch e.key = (KMap.get [] s.die.launch e.key).drop 1
    ∧ (∀ j, j ≠ e.key → KMap.get [] (s.dropSched key e c i).die.launch j = KMap.get [] s.die.launch j)
    ∧ (s.dropSched key e c i).cel = (if e.audited then { s.cel with reserved := s.cel.reserved - 1 } else s.cel) := by
  have hrep := Die.report_ports (Die.report_count c i s.die)
  have hports : ((s.die.count c i).popLaunch e.key).ports = s.die.ports := hrep.1
  have hlaunch : (s.dropSched key e c i).die.launch = KMap.upd [] s.die.launch e.key (fun q => q.drop 1) :=
    congrArg (fun l => KMap.upd [] l e.key (fun q => q.drop 1)) hrep.2
  have hport : KMap.get {} (s.dropSched key e c i).die.ports key = { KMap.get {} s.die.ports key with sched := none, start := 0 } := by
    refine (Die.port_upd _ _ _).trans ?_
    rw [hports]
  refine ⟨by rw [hport], by rw [hport], hc, rfl, ?_, fun j hj => ?_, rfl⟩
  · rw [hlaunch]
    exact KMap.get_upd_same _ _ _ _
  · rw [hlaunch]
    exact KMap.get_upd_other _ _ _ _ _ hj

/-- A violation of a pasture counts once. -/
theorem Die.count_violation (d : Die) (p : Nat) : (d.count (T.OWN_VIOLATION p) 0).tally (T.OWN_VIOLATION p) 0 = tallyAdd (d.tally (T.OWN_VIOLATION p) 0) 1 := by
  by_cases hp : p < 64
  · refine Die.tally_count_same _ _ _ ?_
    exact loftTally_false (.inl (by simp only [Tal.key, T.OWN_VIOLATION]; omega))
  · refine Die.tally_count_exact _ _ _ ?_
    unfold Tal.alarm
    have hrow : ¬ 3072 + 8 * p < 3584 := by omega
    simp [T.OWN_VIOLATION, hrow, T.PAS_POISONED, T.ENG_STALL, T.ENG_BAD_OPCODE, T.SHD_SHD_FAIL, T.SHD_SHD_TRANSIENT, T.FAB_SAT_EVENTS, T.LNK_RETRAINS,
      T.LNK_LOS, T.ETH_LINK_DOWN, T.TB_JUMP_REFUSE, T.FLK_EXPELS, T.FLK_SPLITS, T.FLK_TAKEOVERS, T.FLK_AGREE_REFUSE, T.FLK_HOLDOVERS, T.EGR_AUDIT_REFUSE,
      T.FAB_ENTRY_DROP, T.PAS_QUEUE_DROP, T.FAB_SHED, T.ENG_STALL_DROP, T.EGR_LQ_FULL, T.EGR_LATE_DROP, T.EGR_PORT_DOWN, T.LFT_TRACE_DROP, T.PAS_TRACE_DROP]

/-- A tally of an egress page is none of the Loft. -/
theorem Die.count_egress (d : Die) (off p : Nat) : (d.count ⟨0x3C0000, off⟩ p).tally ⟨0x3C0000, off⟩ p = tallyAdd (d.tally ⟨0x3C0000, off⟩ p) 1 := by
  exact Die.tally_count_same _ _ _ (loftTally_false (.inr ⟨by simp only [Tal.key]; omega, .inr (.inl (by simp only [Tal.key]; omega))⟩))

/-- The entry that a commit puts on its port's line. -/
def Die.commitChosen (d : Die) (key : Nat) (x : PortSt) (e : LaunchEnt) (late : Bool) : Die :=
  let d := if late then d.count T.EGR_LATE_SENT e.pasture else d
  { d with ports := KMap.set {} d.ports key { x with sched := none, start := 0, line := x.line ++ [⟨{ e with late := late }, x.start⟩] } }

theorem State.launchCommit_eq (s : State) (kind n : Nat) (e : LaunchEnt) (h : (KMap.get {} s.die.ports (kind * 64 + n)).sched = some e) :
    s.launchCommit kind n =
      if s.die.portUp kind n = false then { s with die := s.die.unchoose kind n }
      else if !(s.die.mayLaunch e.pasture kind n) then s.dropSched (kind * 64 + n) e (T.OWN_VIOLATION e.pasture) 0
      else if s.gateBlocks || s.die.haltBlocks e.pasture then s.dropSched (kind * 64 + n) e T.EGR_KILL_DROP e.pasture
      else if e.agreed && !(s.die.agrees) then s.dropSched (kind * 64 + n) e T.FLK_AGREE_REFUSE 0
      else if !(s.die.onTime e (s.die.wordUnits kind n) (KMap.get {} s.die.ports (kind * 64 + n)).start)
            && !(bit (s.die.get R.EGR_QUEUE_LATE_SEND e.pasture) e.queue) then s.dropSched (kind * 64 + n) e T.EGR_LATE_DROP e.pasture
      else { s with die := s.die.commitChosen (kind * 64 + n) (KMap.get {} s.die.ports (kind * 64 + n)) e
                        (!(s.die.onTime e (s.die.wordUnits kind n) (KMap.get {} s.die.ports (kind * 64 + n)).start)) } := by
  unfold State.launchCommit
  dsimp only
  rw [h]
  rfl

theorem Die.commitChosen_commits (d : Die) (key : Nat) (x : PortSt) (e : LaunchEnt) (late : Bool) :
    (d.commitChosen key x e late).launch = d.launch
    ∧ KMap.get {} (d.commitChosen key x e late).ports key = { x with sched := none, start := 0, line := x.line ++ [⟨{ e with late := late }, x.start⟩] }
    ∧ (late = false → (d.commitChosen key x e late).tallies = d.tallies)
    ∧ (late = true → (d.commitChosen key x e late).tally T.EGR_LATE_SENT e.pasture = tallyAdd (d.tally T.EGR_LATE_SENT e.pasture) 1) := by
  refine ⟨?_, KMap.get_set_same _ _ _ _, fun h => ?_, fun h => ?_⟩
  · cases late
    · rfl
    · exact (Die.report_ports (Die.report_count T.EGR_LATE_SENT e.pasture d)).2
  · subst h; rfl
  · subst h; exact Die.count_egress d 0xC10 e.pasture

/-- The clauses on a port's choice. -/
theorem State.frameStart_cases (s : State) (kind n b : Nat) (hfree : s.die.portFree kind n b = true) (hlane : kind = 2 → s.die.firstOnLane n = false)
    (hecc : s.die.ecc = []) (hpoison : s.die.poison = []) (hheads : ∀ x ∈ s.die.heads, x.2.poison = false) (hne : s.die.readyFor kind n b ≠ []) :
    ∃ k e, s.die.chosenAs kind n b (k, e) ∧ (s.frameStart kind n b).die.launch = s.die.launch
      ∧ s.frameStart kind n b = { s with die := (s.frameStart kind n b).die }
      ∧ KMap.get {} (s.frameStart kind n b).die.ports (kind * 64 + n) = { KMap.get {} s.die.ports (kind * 64 + n) with sched := some e, start := b }
      ∧ ∀ j, j ≠ kind * 64 + n → KMap.get {} (s.frameStart kind n b).die.ports j = KMap.get {} s.die.ports j := by
  obtain ⟨⟨k, e⟩, hc, hx⟩ := s.die.choose_chooses kind n b hne
  have hs := s.frameStart_chooses kind n b hfree hlane hecc hpoison hheads
  rw [hc] at hs
  obtain ⟨hports, hlaunch⟩ := Die.report_ports (s.die.report_breakSlots kind n b)
  refine ⟨k, e, hx, ?_, ?_, ?_, fun j hj => ?_⟩
  · rw [hs]
    exact hlaunch
  · rw [hs]
  · rw [hs]
    refine (Die.port_upd _ _ _).trans ?_
    rw [hports]
  · rw [hs]
    exact (KMap.get_upd_other ({} : PortSt) _ _ _ (fun x => { x with sched := some e, start := b }) hj).trans (congrArg (fun m => KMap.get {} m j) hports)

/-- Settles O32: the choice by slot and rank, and the commit branch by branch. -/
theorem launchesCommit : Obligations.LaunchesCommit := by
  unfold Obligations.LaunchesCommit
  refine ⟨fun s kind n b hkn => ?_, fun s kind n e hkn => ?_⟩
  · have hexec : exec (.frameStart kind n b) s = .next (s.frameStart kind n b) := if_pos (decide_eq_true hkn)
    refine ⟨fun h => ⟨_, hexec, s.frameStart_busy kind n b h⟩, fun hfree hlane hecc hpoison hheads => ⟨fun hnone => ⟨_, hexec, ?_⟩, fun hne => ?_⟩⟩
    · rw [s.frameStart_chooses kind n b hfree hlane hecc hpoison hheads, s.die.choose_none kind n b hnone]
    · obtain ⟨k, e, hx, hlaunch, hframe, hport, hother⟩ := s.frameStart_cases kind n b hfree hlane hecc hpoison hheads hne
      exact ⟨_, hexec, hframe, k, e, hx.ready, hport, hother, s.die.readyFor_head kind n b _ hx.ready, hlaunch, hx.lowest, hx.owner, hx.rank⟩
  · have hexec : exec (.launchCommit kind n) s = .next (s.launchCommit kind n) := if_pos (decide_eq_true hkn)
    dsimp only
    intro hsched
    have heq := s.launchCommit_eq kind n e hsched
    have hnext {t : State} (h : s.launchCommit kind n = t) : exec (.launchCommit kind n) s = .next t := hexec.trans (congrArg Host.Outcome.next h)
    refine ⟨fun hdown => ?_, fun hup => ?_⟩
    · refine ⟨_, hnext (heq.trans (if_pos hdown)), rfl, ?_, ?_⟩
      · exact congrArg PortSt.sched (Die.port_upd _ _ _)
      · exact congrArg PortSt.line (Die.port_upd _ _ _)
    · rw [if_neg (by rw [hup]; exact Bool.true_eq_false_eq_False)] at heq
      refine ⟨fun hmay => ?_, fun hmay hblock => ?_, fun hmay hblock => ⟨fun hag hnot => ?_, fun hag => ?_⟩⟩
      · exact ⟨_, hnext (heq.trans (if_pos (by rw [hmay]; rfl))), State.dropSched_drops _ _ _ _ _ (s.die.count_violation _)⟩
      all_goals rw [if_neg (by rw [hmay]; exact Bool.false_ne_true)] at heq
      · exact ⟨_, hnext (heq.trans (if_pos hblock)), State.dropSched_drops _ _ _ _ _ (s.die.count_egress _ _)⟩
      all_goals rw [if_neg (by rw [hblock]; exact Bool.false_ne_true)] at heq
      · exact ⟨_, hnext (heq.trans (if_pos (by rw [hag, hnot]; rfl))), State.dropSched_drops _ _ _ _ _ (Die.tally_count_same _ _ _ (by decide))⟩
      · rw [if_neg (by rcases hag with h | h <;> simp [h])] at heq
        refine ⟨fun hlate hno => ?_, fun hgo => ?_⟩
        · exact ⟨_, hnext (heq.trans (if_pos (by rw [hlate, hno]; rfl))), State.dropSched_drops _ _ _ _ _ (s.die.count_egress _ _)⟩
        · refine ⟨_, hnext (heq.trans (if_neg ?_)), rfl, Die.commitChosen_commits _ _ _ _ _⟩
          rcases hgo with h | h
          · rw [h]; exact Bool.false_ne_true
          · rw [h]; simp

end Sys2Proof.Machine
end

section
/-! SUPPORT. Who holds the crook (R478, R479, R484 to R487). -/

namespace Sys2Proof.Machine

/-- An election that opens (R484). -/
structure Die.opened (d e : Die) : Prop where
  held : e.on R.OWN_STATUS_HELD = false
  election : e.on R.OWN_STATUS_ELECTION = true
  pending : e.on R.OWN_STATUS_PENDING = false
  counted : e.tally T.OWN_ELECTIONS = tallyAdd (d.tally T.OWN_ELECTIONS) 1
  claims : e.claims = []
  since : e.electionNs = d.ns + 1
  locked : ∀ base, base % 0x1000 = 0 → e.on (pageExpert base) = false

/-- A master that takes the crook (R484 to R486). -/
structure Die.taken (m : Nat) (e : Die) : Prop where
  holder : e.holds m = true
  election : e.on R.OWN_STATUS_ELECTION = false
  pending : e.on R.OWN_STATUS_PENDING = false
  claims : e.claims = []
  heartbeat : e.heartbeat = 0
  locked : ∀ base, base % 0x1000 = 0 → e.on (pageExpert base) = false

/-- A relock locks every expert area (R602). -/
theorem Die.expert_relockAll (d : Die) (base : Nat) (h : base % 0x1000 = 0) : d.relockAll.get (pageExpert base) = 0 := by
  have hk : (pageExpert base).key 0 = (base + 0xF00) * 32 + 1 := by simp only [Fld.key, pageExpert, Nat.zero_mul, Nat.add_zero]
  have h1 : (pageExpert base).key 0 / 32 % 0x1000 = 0xF00 := by rw [hk]; omega
  have h2 : (pageExpert base).key 0 % 32 = 1 := by rw [hk]; omega
  unfold Die.relockAll Die.get
  rw [KMap.get_keep, if_neg (by simp [h1, h2])]
  rfl

theorem pageExpert_word (base : Nat) (h : base % 0x1000 = 0) : (pageExpert base).key 0 / 32 % 0x1000 = 0xF00 := by
  simp only [Fld.key, pageExpert]
  omega

/-- What the opening of an election leaves and gives (R484). -/
theorem Die.openElection_opens (d : Die) : d.openElection.on R.OWN_STATUS_ELECTION = true
    ∧ (∀ f i, reportWord (f.key i / 32) = false → f.key i ≠ R.OWN_STATUS_ELECTION.key 0 → d.openElection.get f i = d.get f i)
    ∧ d.openElection.tally T.OWN_ELECTIONS = tallyAdd (d.tally T.OWN_ELECTIONS) 1 ∧ d.openElection.claims = [] ∧ d.openElection.electionNs = d.ns + 1 := by
  have hrep := Die.report_count T.OWN_ELECTIONS 0 (d.flag R.OWN_STATUS_ELECTION 0 true)
  have hget (f : Fld) (i : Nat) (hf : reportWord (f.key i / 32) = false) : d.openElection.get f i = (d.flag R.OWN_STATUS_ELECTION 0 true).get f i := hrep.2 f i hf
  refine ⟨?_, fun f i hf hne => (hget f i hf).trans (Die.get_put_other _ _ _ _ _ _ hne), ?_, rfl, rfl⟩
  · rw [Die.on, hget _ _ rfl]
    exact Die.on_flag_same R.OWN_STATUS_ELECTION 0 true d rfl
  · exact Die.tally_count_same T.OWN_ELECTIONS 0 (d.flag R.OWN_STATUS_ELECTION 0 true) rfl

/-- A crook that is lost opens an election (R485, R487, R602). -/
theorem Die.releaseCrook_opens (d : Die) : Die.opened d d.releaseCrook := by
  unfold Die.releaseCrook
  generalize hx : (((d.flag R.OWN_STATUS_HELD 0 false).put R.OWN_STATUS_HOLDER 0 0).cancelHandover) = x
  have htal : x.relockAll.tally T.OWN_ELECTIONS = d.tally T.OWN_ELECTIONS := by rw [← hx]; rfl
  have hns : x.relockAll.ns = d.ns := by rw [← hx]; rfl
  have hpending : x.relockAll.get R.OWN_STATUS_PENDING = 0 := by
    rw [Die.get_relockAll _ _ _ (by decide), ← hx]
    change ((((d.put R.OWN_STATUS_HELD 0 0).put R.OWN_STATUS_HOLDER 0 0).put R.OWN_STATUS_PENDING 0 0).put R.OWN_STATUS_TARGET 0 0).get R.OWN_STATUS_PENDING = 0
    rw [Die.get_put_apart _ _ _ _ _ (by decide), Die.get_put_same]
    rfl
  have hheld : x.relockAll.get R.OWN_STATUS_HELD = 0 := by
    rw [Die.get_relockAll _ _ _ (by decide), ← hx]
    change ((((d.put R.OWN_STATUS_HELD 0 0).put R.OWN_STATUS_HOLDER 0 0).put R.OWN_STATUS_PENDING 0 0).put R.OWN_STATUS_TARGET 0 0).get R.OWN_STATUS_HELD = 0
    rw [Die.get_put_apart _ _ _ _ _ (by decide), Die.get_put_apart _ _ _ _ _ (by decide), Die.get_put_apart _ _ _ _ _ (by decide), Die.get_put_same]
    rfl
  have hlocked := x.expert_relockAll
  clear hx
  obtain ⟨helection, hget, hcount, hclaims, hsince⟩ := x.relockAll.openElection_opens
  refine ⟨?_, helection, ?_, by rw [hcount, htal], hclaims, by rw [hsince, hns], fun base hb => ?_⟩
  · rw [Die.on, hget _ _ rfl (by decide), hheld]; rfl
  · rw [Die.on, hget _ _ rfl (by decide), hpending]; rfl
  · have hw := pageExpert_word base hb
    rw [Die.on, hget _ _ (reportWord_boot (.inl hw)) (fun hk => by rw [hk] at hw; exact absurd hw (by decide)), hlocked base hb]
    rfl

/-- A master that is given the crook holds it (R484 to R486, R602). -/
theorem Die.giveCrook_taken (d : Die) (m : Nat) (hm : m < 4) : Die.taken m (d.giveCrook m) := by
  have hstep (f : Fld) (hf : ¬ (f.key 0 / 32 % 0x1000 = 0xF00 ∧ f.key 0 % 32 = 1)) : (d.giveCrook m).get f
      = (((((d.put R.OWN_STATUS_HELD 0 1).put R.OWN_STATUS_HOLDER 0 m).put R.OWN_STATUS_ELECTION 0 0).put R.OWN_STATUS_PENDING 0 0).put R.OWN_STATUS_TARGET 0 0).get f := by
    change (Die.relockAll (((d.flag R.OWN_STATUS_HELD 0 true).put R.OWN_STATUS_HOLDER 0 m).flag R.OWN_STATUS_ELECTION 0 false).cancelHandover).get f = _
    rw [Die.get_relockAll _ _ _ hf]
    rfl
  have hheld : (d.giveCrook m).get R.OWN_STATUS_HELD = 1 := by
    rw [hstep _ (by decide), Die.get_put_apart _ _ _ _ _ (by decide), Die.get_put_apart _ _ _ _ _ (by decide), Die.get_put_apart _ _ _ _ _ (by decide),
      Die.get_put_apart _ _ _ _ _ (by decide), Die.get_put_same]
    rfl
  have hholder : (d.giveCrook m).get R.OWN_STATUS_HOLDER = m := by
    rw [hstep _ (by decide), Die.get_put_apart _ _ _ _ _ (by decide), Die.get_put_apart _ _ _ _ _ (by decide), Die.get_put_apart _ _ _ _ _ (by decide),
      Die.get_put_same]
    exact Nat.mod_eq_of_lt hm
  have helection : (d.giveCrook m).get R.OWN_STATUS_ELECTION = 0 := by
    rw [hstep _ (by decide), Die.get_put_apart _ _ _ _ _ (by decide), Die.get_put_apart _ _ _ _ _ (by decide), Die.get_put_same]
    rfl
  have hpending : (d.giveCrook m).get R.OWN_STATUS_PENDING = 0 := by
    rw [hstep _ (by decide), Die.get_put_apart _ _ _ _ _ (by decide), Die.get_put_same]
    rfl
  have hlocked (base : Nat) (hb : base % 0x1000 = 0) : (d.giveCrook m).get (pageExpert base) = 0 :=
    (((d.flag R.OWN_STATUS_HELD 0 true).put R.OWN_STATUS_HOLDER 0 m).flag R.OWN_STATUS_ELECTION 0 false).cancelHandover.expert_relockAll base hb
  refine ⟨?_, by rw [Die.on, helection]; rfl, by rw [Die.on, hpending]; rfl, rfl, rfl, fun base hb => by rw [Die.on, hlocked base hb]; rfl⟩
  rw [Die.holds, Die.on, hheld, hholder]
  simp

theorem Die.giveCrook_leaves (d : Die) (m : Nat) : (d.giveCrook m).tiles = d.tiles ∧ (d.giveCrook m).pas = d.pas ∧ (d.giveCrook m).grants = d.grants := ⟨rfl, rfl, rfl⟩

theorem Die.rechecked.stands {d e : Die} (h : d.rechecked e) : e.tiles = d.tiles ∧ e.pas = d.pas ∧ e.grants = d.grants ∧ e.ns = d.ns := by
  rw [h.1]
  exact ⟨rfl, rfl, rfl, rfl⟩

theorem Die.report_stands {d e : Die} (h : d.report e) : e.tiles = d.tiles ∧ e.pas = d.pas ∧ e.grants = d.grants ∧ e.ns = d.ns := by
  rw [h.1]
  exact ⟨rfl, rfl, rfl, rfl⟩

/-- A report leaves who holds the crook. -/
theorem Die.report_holds {d e : Die} (h : d.report e) (m : Nat) : e.holds m = d.holds m := by
  rw [Die.holds, Die.holds, Die.on, Die.on, h.2 _ _ rfl, h.2 _ _ rfl]

/-- The end of a handover leaves every other field (R486). -/
theorem Die.get_cancelHandover (d : Die) (f : Fld) (i : Nat) (h : f.key i ≠ R.OWN_STATUS_PENDING.key 0 ∧ f.key i ≠ R.OWN_STATUS_TARGET.key 0) :
    d.cancelHandover.get f i = d.get f i := by
  change ((d.put R.OWN_STATUS_PENDING 0 0).put R.OWN_STATUS_TARGET 0 0).get f i = d.get f i
  rw [Die.get_put_other _ _ _ _ _ _ h.2, Die.get_put_other _ _ _ _ _ _ h.1]

theorem Die.cancelHandover_cancels (d : Die) : d.cancelHandover.on R.OWN_STATUS_PENDING = false ∧ ∀ m, d.cancelHandover.holds m = d.holds m := by
  refine ⟨?_, fun m => ?_⟩
  · rw [Die.on]
    change (((d.put R.OWN_STATUS_PENDING 0 0).put R.OWN_STATUS_TARGET 0 0).get R.OWN_STATUS_PENDING == 1) = false
    rw [Die.get_put_apart _ _ _ _ _ (by decide), Die.get_put_same]
    rfl
  · rw [Die.holds, Die.holds, Die.on, Die.on, Die.get_cancelHandover _ _ _ (by decide), Die.get_cancelHandover _ _ _ (by decide)]

theorem srcNum_lt (src : Source) (h : ∀ p, src ≠ .vf p) : srcNum src < 4 := by
  cases src with
  | vf p => exact absurd rfl (h p)
  | _ => decide

/-- A write of OWN_CLAIM by a master that reaches the register (R479). -/
theorem ownClaimW_eq (src : Source) (w : Nat) (d : Die) (hvf : ∀ p, src ≠ .vf p) (hpath : d.pathUp src = true) (hans : d.answers src .OWN = true) :
    ownClaimW src w d = match lowestWo w [0, 1] with
      | some 0 => d.claim (srcNum src)
      | some _ => d.accept (srcNum src)
      | none => if d.holds (srcNum src) then d else d.deny (srcNum src) := by
  unfold ownClaimW
  rw [hpath, hans]
  cases src with
  | vf p => exact absurd rfl (hvf p)
  | _ => rfl

/-- What a denied claim counts (R479). -/
theorem Die.deny_counts (d : Die) (m : Nat) (hm : m < 4) : (d.deny m).tally (T.OWN_OWN_DENIED m) = tallyAdd (d.tally (T.OWN_OWN_DENIED m)) 1 ∧ d.report (d.deny m) := by
  refine ⟨Die.tally_count_same _ _ _ (loftTally_false (.inl ?_)), Die.report_count _ _ _⟩
  simp only [Tal.key, T.OWN_OWN_DENIED]
  omega

/-- A claim counts in an election, takes the crook after its 100 ms, and is denied otherwise (R479, R484). -/
theorem Die.claim_cases (d : Die) (m : Nat) :
    (d.holds m = true → d.claim m = d)
    ∧ (d.holds m = false → d.on R.OWN_STATUS_ELECTION = true → d.eligible m = true →
        (d.electionNs = 0 → d.claim m = d.giveCrook m)
        ∧ (d.electionNs ≠ 0 → m ∈ (d.claim m).claims ∧ (∀ k ∈ (d.claim m).claims, k = m ∨ k ∈ d.claims) ∧ d.claim m = { d with claims := (d.claim m).claims }))
    ∧ (d.holds m = false → (d.on R.OWN_STATUS_ELECTION = false ∨ d.eligible m = false) → d.claim m = d.deny m) := by
  have hnot (hh : d.holds m = false) : ¬ d.holds m = true := fun h => Bool.noConfusion (hh.symm.trans h)
  refine ⟨fun h => if_pos h, fun hh he hel => ?_, fun hh hno => ?_⟩
  · have hcl : d.claim m = if d.electionNs = 0 then d.giveCrook m else { d with claims := if d.claims.contains m then d.claims else d.claims ++ [m] } := by
      unfold Die.claim
      rw [if_neg (hnot hh), if_pos (by rw [he, hel]; rfl)]
    refine ⟨fun h0 => hcl.trans (if_pos h0), fun h0 => ?_⟩
    rw [hcl.trans (if_neg h0)]
    dsimp only
    split
    · next hc => exact ⟨by simpa using hc, fun k hk => .inr hk, rfl⟩
    · exact ⟨List.mem_append_right _ (List.mem_singleton.2 rfl), fun k hk => by simpa [or_comm] using hk, rfl⟩
  · unfold Die.claim
    rw [if_neg (hnot hh), if_neg]
    rcases hno with h | h <;> simp [h]

/-- What follows from the loss of a path leaves a master that is still eligible its crook, and takes it from one that is not (R487). -/
theorem Die.recheck_cases (d : Die) :
    ((d.on R.OWN_STATUS_HELD && !(d.eligible (d.get R.OWN_STATUS_HOLDER))) = true → Die.opened d d.recheck)
    ∧ (∀ m, d.holds m = true → d.eligible m = true → d.recheck.holds m = true)
    ∧ ∀ (t : Tal), t.base + t.off ≠ T.OWN_ELECTIONS.base + T.OWN_ELECTIONS.off → loftTally (t.key 0) = false → d.recheck.tally t = d.tally t := by
  have hdebug : (if d.debug = 3 then d else { d with stopped := [] }).regs = d.regs
      ∧ (if d.debug = 3 then d else { d with stopped := [] }).tallies = d.tallies ∧ (if d.debug = 3 then d else { d with stopped := [] }).ns = d.ns
      ∧ ∀ m, (if d.debug = 3 then d else { d with stopped := [] }).eligible m = d.eligible m := by
    split <;> exact ⟨rfl, rfl, rfl, fun _ => rfl⟩
  unfold Die.recheck
  dsimp only
  generalize (if d.debug = 3 then d else { d with stopped := [] }) = x at hdebug
  obtain ⟨hregs, htallies, hns, helig⟩ := hdebug
  have hy : ∃ y : Die, (if x.on R.OWN_STATUS_PENDING && !(x.eligible (x.get R.OWN_STATUS_TARGET)) then x.cancelHandover else x) = y
      ∧ y.tallies = d.tallies ∧ y.ns = d.ns ∧ (∀ m, y.eligible m = d.eligible m)
      ∧ y.get R.OWN_STATUS_HELD = d.get R.OWN_STATUS_HELD ∧ y.get R.OWN_STATUS_HOLDER = d.get R.OWN_STATUS_HOLDER := by
    refine ⟨_, rfl, ?_⟩
    split
    · refine ⟨htallies, hns, fun m => (Eq.trans ?_ (helig m)), ?_, ?_⟩
      · have h0 := x.get_cancelHandover R.PCI_STATUS_LINK_UP 0 (by decide)
        have h2 := x.get_cancelHandover R.FLK_STATUS_JOIN_RESULT 0 (by decide)
        have h3 : x.cancelHandover.debug = x.debug := x.rechecked_cancelHandover.sameDebug
        unfold Die.eligible Die.on
        rw [h0, h2, h3]
      · exact (x.get_cancelHandover _ _ (by decide)).trans (Die.get_congr _ _ hregs _ _)
      · exact (x.get_cancelHandover _ _ (by decide)).trans (Die.get_congr _ _ hregs _ _)
    · exact ⟨htallies, hns, helig, Die.get_congr _ _ hregs _ _, Die.get_congr _ _ hregs _ _⟩
  obtain ⟨y, heq, htal, hyns, hel, hheld, hholder⟩ := hy
  rw [heq]
  have hon : y.on R.OWN_STATUS_HELD = d.on R.OWN_STATUS_HELD := by rw [Die.on, Die.on, hheld]
  have htally (t : Tal) : y.tally t = d.tally t := by rw [Die.tally, Die.tally, htal]
  refine ⟨fun hc => ?_, fun m hh he => ?_, fun t ht hl => ?_⟩
  · rw [if_pos (by rw [hon, hholder, hel]; exact hc)]
    obtain ⟨h1, h2, h3, h4, h5, h6, h7⟩ := y.releaseCrook_opens
    exact ⟨h1, h2, h3, by rw [h4, htally], h5, by rw [h6, hyns], h7⟩
  · obtain ⟨h1, h2⟩ := Bool.and_eq_true_iff.1 hh
    have hm : d.get R.OWN_STATUS_HOLDER = m := beq_iff_eq.1 h2
    rw [if_neg (by rw [hholder, hel, hm, he]; simp), Die.holds, hon, hholder]
    exact hh
  · split
    · refine Eq.trans ?_ (htally t)
      have hrel : y.releaseCrook.tally t = (Die.count T.OWN_ELECTIONS 0
          ((((y.flag R.OWN_STATUS_HELD 0 false).put R.OWN_STATUS_HOLDER 0 0).cancelHandover.relockAll).flag R.OWN_STATUS_ELECTION 0 true)).tally t := rfl
      rw [hrel, Die.tally_count_apart _ _ _ _ hl ht]
      rfl
    · exact htally t

/-- The host link's loss (R487, R583). -/
theorem Die.pcieDown_opens (d : Die) (hup : d.on R.PCI_STATUS_LINK_UP = true) :
    d.pcieDown.tally T.PCI_PCIE_DOWN = tallyAdd (d.tally T.PCI_PCIE_DOWN) 1 ∧ (d.holds 0 = true → Die.opened d d.pcieDown)
    ∧ ∀ m, m ≠ 0 → d.holds m = true → d.eligible m = true → d.pcieDown.holds m = true := by
  generalize hx : (((d.flag R.PCI_STATUS_LINK_UP 0 false).put R.PCI_STATUS_SPEED 0 0).put R.PCI_STATUS_WIDTH 0 0) = x
  have hdown : d.pcieDown = (x.count T.PCI_PCIE_DOWN 0).recheck := by rw [← hx]; exact if_pos hup
  have hreg (f : Fld) (hf : f.key 0 / 32 ≠ 0x34800) : x.get f = d.get f := by
    have hne (g : Fld) (hg : g.key 0 / 32 = 0x34800) : f.key 0 ≠ g.key 0 := fun hk => hf (by rw [hk, hg])
    rw [← hx, Die.get_put_other _ _ _ _ _ _ (hne _ (by decide)), Die.get_put_other _ _ _ _ _ _ (hne _ (by decide))]
    exact Die.get_put_other _ _ _ _ _ _ (hne R.PCI_STATUS_LINK_UP (by decide))
  have hlink : x.get R.PCI_STATUS_LINK_UP = 0 := by
    rw [← hx, Die.get_put_apart _ _ _ _ _ (by decide), Die.get_put_apart _ _ _ _ _ (by decide)]
    exact Die.get_put_same _ _ _ _
  have htal (t : Tal) : x.tally t = d.tally t := by rw [← hx]; rfl
  have hns : x.ns = d.ns := by rw [← hx]; rfl
  have hraw : x.debug = d.debug := by
    have hf : x = { d with regs := x.regs } := by rw [← hx]; rfl
    have hpas : x.pas = d.pas := (congrArg Die.pas hf).trans rfl
    have hotp : x.otp = d.otp := (congrArg Die.otp hf).trans rfl
    unfold Die.debug Die.debugRaw Die.auditedIn Die.image Die.pasture
    rw [hpas, hotp, hreg _ (by decide), hreg _ (by decide)]
  have hcount := x.report_count T.PCI_PCIE_DOWN 0
  have hsame : (x.count T.PCI_PCIE_DOWN 0).debug = x.debug := Die.rechecked.sameDebug hcount.rechecked
  have hget (f : Fld) (h : reportWord (f.key 0 / 32) = false) (hf : f.key 0 / 32 ≠ 0x34800) : (x.count T.PCI_PCIE_DOWN 0).get f = d.get f := (hcount.2 f 0 h).trans (hreg f hf)
  have helig (m : Nat) (hm : m ≠ 0) : (x.count T.PCI_PCIE_DOWN 0).eligible m = d.eligible m := by
    unfold Die.eligible
    rw [hget R.FLK_STATUS_JOIN_RESULT rfl (by decide), hsame, hraw]
    match m with
    | 0 => exact absurd rfl hm
    | 1 => rfl
    | 2 => rfl
    | 3 => rfl
    | _ + 4 => rfl
  have helig0 : (x.count T.PCI_PCIE_DOWN 0).eligible 0 = false := by
    change (x.count T.PCI_PCIE_DOWN 0).on R.PCI_STATUS_LINK_UP = false
    rw [Die.on, hcount.2 _ _ rfl, hlink]
    rfl
  have hholds (m : Nat) : (x.count T.PCI_PCIE_DOWN 0).holds m = d.holds m := by
    rw [Die.holds, Die.holds, Die.on, Die.on, hget _ rfl (by decide), hget _ rfl (by decide)]
  obtain ⟨hopen, hkeep, htally⟩ := (x.count T.PCI_PCIE_DOWN 0).recheck_cases
  rw [hdown]
  refine ⟨?_, fun h0 => ?_, fun m hm hh he => hkeep m (by rw [hholds, hh]) (by rw [helig m hm, he])⟩
  · rw [htally T.PCI_PCIE_DOWN (by decide) rfl, ← htal]
    exact Die.tally_count_same T.PCI_PCIE_DOWN 0 x rfl
  · rw [← hholds] at h0
    obtain ⟨hheld, hholder⟩ := Bool.and_eq_true_iff.1 h0
    obtain ⟨h1, h2, h3, h4, h5, h6, h7⟩ := hopen (by rw [hheld, beq_iff_eq.1 hholder, helig0]; rfl)
    refine ⟨h1, h2, h3, ?_, h5, ?_, h7⟩
    · rw [h4, Die.tally_count_apart _ _ _ _ rfl (by decide), htal]
    · rw [h6, (Die.report_stands hcount).2.2.2, hns]

/-- A write of OWN_HANDOVER with REQUEST (R486, R487). -/
theorem Die.handover_cases (d : Die) (w : Nat) (hw : bit w 4 = true) :
    (d.holds (bits w 0 2) = true → (ownHandoverW w d).on R.OWN_STATUS_PENDING = false ∧ (ownHandoverW w d).holds (bits w 0 2) = true)
    ∧ (d.holds (bits w 0 2) = false → d.eligible (bits w 0 2) = true → (ownHandoverW w d).on R.OWN_STATUS_PENDING = true
        ∧ (ownHandoverW w d).get R.OWN_STATUS_TARGET = bits w 0 2 ∧ (ownHandoverW w d).handover = 0 ∧ ∀ m, (ownHandoverW w d).holds m = d.holds m)
    ∧ (d.holds (bits w 0 2) = false → d.eligible (bits w 0 2) = false → (ownHandoverW w d).on R.OWN_STATUS_PENDING = d.on R.OWN_STATUS_PENDING
        ∧ (ownHandoverW w d).get R.OWN_STATUS_TARGET = d.get R.OWN_STATUS_TARGET ∧ ∀ m, (ownHandoverW w d).holds m = d.holds m) := by
  have htarget : (d.setFields .OWN 0 0x018 w).get R.OWN_HANDOVER_TARGET = bits w 0 2 :=
    Die.get_setFields_rw .OWN 0 0x018 w d ⟨R.OWN_HANDOVER_TARGET, any⟩ List.mem_cons_self rfl
  have hother (f : Fld) (hf : f.key 0 / 32 ≠ 0x1018) : (d.setFields .OWN 0 0x018 w).get f = d.get f := Die.get_setFields_other _ _ _ _ _ _ _ hf
  have hdef : ownHandoverW w d = if (d.setFields .OWN 0 0x018 w).holds (bits w 0 2) then (d.setFields .OWN 0 0x018 w).cancelHandover
      else if (d.setFields .OWN 0 0x018 w).eligible (bits w 0 2) then
        { ((d.setFields .OWN 0 0x018 w).flag R.OWN_STATUS_PENDING 0 true).put R.OWN_STATUS_TARGET 0 (bits w 0 2) with handover := 0 }
      else d.setFields .OWN 0 0x018 w := by
    unfold ownHandoverW
    dsimp only
    rw [if_pos hw, htarget]
  have hframe := Die.setFields_regs .OWN 0 0x018 w d
  generalize d.setFields .OWN 0 0x018 w = x at hother hdef hframe
  have hholds (m : Nat) : x.holds m = d.holds m := by
    rw [Die.holds, Die.holds, Die.on, Die.on, hother _ (by decide), hother _ (by decide)]
  have hdebug : x.debug = d.debug := by
    have hpas : x.pas = d.pas := (congrArg Die.pas hframe).trans rfl
    have hotp : x.otp = d.otp := (congrArg Die.otp hframe).trans rfl
    unfold Die.debug Die.debugRaw Die.auditedIn Die.image Die.pasture
    rw [hpas, hotp, hother _ (by decide), hother _ (by decide)]
  have helig (m : Nat) : x.eligible m = d.eligible m := by
    unfold Die.eligible Die.on
    rw [hother R.FLK_STATUS_JOIN_RESULT (by decide), hother R.PCI_STATUS_LINK_UP (by decide), hdebug]
  have hlt : bits w 0 2 < 4 := Nat.mod_lt _ (by decide)
  rw [hdef, hholds, helig]
  refine ⟨fun h => ?_, fun h he => ?_, fun h he => ?_⟩
  · rw [if_pos h]
    exact ⟨x.cancelHandover_cancels.1, by rw [x.cancelHandover_cancels.2, hholds, h]⟩
  · rw [if_neg (by rw [h]; exact Bool.false_ne_true), if_pos he]
    refine ⟨?_, ?_, rfl, fun m => ?_⟩
    · rw [Die.on]
      change (((x.put R.OWN_STATUS_PENDING 0 1).put R.OWN_STATUS_TARGET 0 (bits w 0 2)).get R.OWN_STATUS_PENDING == 1) = true
      rw [Die.get_put_apart _ _ _ _ _ (by decide), Die.get_put_same]
      rfl
    · exact (Die.get_put_same _ R.OWN_STATUS_TARGET 0 _).trans (Nat.mod_eq_of_lt hlt)
    · refine Eq.trans ?_ (hholds m)
      change ((x.put R.OWN_STATUS_PENDING 0 1).put R.OWN_STATUS_TARGET 0 (bits w 0 2)).holds m = x.holds m
      rw [Die.holds, Die.holds, Die.on, Die.on, Die.get_put_apart _ _ _ _ _ (by decide), Die.get_put_apart _ _ _ _ _ (by decide),
        Die.get_put_apart _ _ _ _ _ (by decide), Die.get_put_apart _ _ _ _ _ (by decide)]
  · rw [if_neg (by rw [h]; exact Bool.false_ne_true), if_neg (by rw [he]; exact Bool.false_ne_true)]
    exact ⟨by rw [Die.on, Die.on, hother _ (by decide)], hother _ (by decide), hholds⟩

theorem ownHandoverW_leaves (w : Nat) (d : Die) : (ownHandoverW w d).tiles = d.tiles ∧ (ownHandoverW w d).pas = d.pas ∧ (ownHandoverW w d).grants = d.grants := by
  have hframe := Die.setFields_regs .OWN 0 0x018 w d
  unfold ownHandoverW
  dsimp only
  generalize d.setFields .OWN 0 0x018 w = x at hframe
  have hx : x.tiles = d.tiles ∧ x.pas = d.pas ∧ x.grants = d.grants := by rw [hframe]; exact ⟨rfl, rfl, rfl⟩
  split
  · split
    · exact hx
    · split <;> exact hx
  · exact hx

/-- A master takes the crook as its election closes, or nobody does (R484). -/
theorem Die.electionClose_closes (d : Die) (he : d.on R.OWN_STATUS_ELECTION = true) (hns : d.electionNs ≠ 0) :
    (∀ m, d.otp.order.find? (fun m => d.claims.contains m && d.eligible m) = some m → d.electionClose = d.giveCrook m ∧ m < 4)
    ∧ ((∀ m ∈ d.otp.order, m ∈ d.claims → d.eligible m = false) → d.electionClose = { d with claims := [], electionNs := 0 }) := by
  have hgo : d.electionClose = match d.otp.order.find? (fun m => d.claims.contains m && d.eligible m) with
      | some m => d.giveCrook m
      | none => { d with claims := [], electionNs := 0 } := by
    unfold Die.electionClose
    rw [if_pos (by rw [he, decide_eq_true hns]; rfl)] <;> rfl
  refine ⟨fun m hm => ⟨by rw [hgo, hm], ?_⟩, fun hno => ?_⟩
  · have hel : d.eligible m = true := (Bool.and_eq_true_iff.1 (List.find?_some (p := fun m => d.claims.contains m && d.eligible m) hm)).2
    by_contra hge
    match m with
    | 0 => exact hge (by decide)
    | 1 => exact hge (by decide)
    | 2 => exact hge (by decide)
    | 3 => exact hge (by decide)
    | _ + 4 => exact Bool.noConfusion hel
  · have hnone : d.otp.order.find? (fun m => d.claims.contains m && d.eligible m) = none := by
      refine List.find?_eq_none.2 (fun m hm hc => ?_)
      obtain ⟨h1, h2⟩ := Bool.and_eq_true_iff.1 hc
      exact Bool.noConfusion ((hno m hm (by simpa using h1)).symm.trans h2)
    rw [hgo, hnone]

/-- The host link comes up with its generation, width and VFs (R583). -/
theorem Die.pcieUp_up (d : Die) (speed width vfs : Nat) : (d.pcieUp speed width vfs).eligible 0 = true ∧ (d.pcieUp speed width vfs).get R.PCI_STATUS_SPEED = speed % 16
    ∧ (d.pcieUp speed width vfs).get R.PCI_STATUS_WIDTH = width % 32 ∧ (d.pcieUp speed width vfs).get R.PCI_STATUS_NUMVFS = min vfs 64
    ∧ (∀ m, (d.pcieUp speed width vfs).holds m = d.holds m) ∧ d.pcieUp speed width vfs = { d with regs := (d.pcieUp speed width vfs).regs } := by
  have hdef : d.pcieUp speed width vfs = (((d.put R.PCI_STATUS_LINK_UP 0 1).put R.PCI_STATUS_SPEED 0 speed).put R.PCI_STATUS_WIDTH 0 width).put R.PCI_STATUS_NUMVFS 0 (min vfs 64) := rfl
  refine ⟨?_, ?_, ?_, ?_, fun m => ?_, rfl⟩
  · change (d.pcieUp speed width vfs).on R.PCI_STATUS_LINK_UP = true
    rw [Die.on, hdef, Die.get_put_apart _ _ _ _ _ (by decide), Die.get_put_apart _ _ _ _ _ (by decide), Die.get_put_apart _ _ _ _ _ (by decide), Die.get_put_same]
    rfl
  · rw [hdef, Die.get_put_apart _ _ _ _ _ (by decide), Die.get_put_apart _ _ _ _ _ (by decide), Die.get_put_same]
    rfl
  · rw [hdef, Die.get_put_apart _ _ _ _ _ (by decide), Die.get_put_same]
    rfl
  · rw [hdef, Die.get_put_same]
    exact Nat.mod_eq_of_lt (Nat.lt_of_le_of_lt (Nat.min_le_right _ _) (by decide))
  · have hget (f : Fld) (hf : f.key 0 / 32 ≠ 0x34800) : (d.pcieUp speed width vfs).get f = d.get f := by
      have hne (g : Fld) (hg : g.key 0 / 32 = 0x34800) : f.key 0 ≠ g.key 0 := fun hk => hf (by rw [hk, hg])
      rw [hdef, Die.get_put_other _ _ _ _ _ _ (hne _ (by decide)), Die.get_put_other _ _ _ _ _ _ (hne _ (by decide)),
        Die.get_put_other _ _ _ _ _ _ (hne _ (by decide)), Die.get_put_other _ _ _ _ _ _ (hne _ (by decide))]
    rw [Die.holds, Die.holds, Die.on, Die.on, hget _ (by decide), hget _ (by decide)]

/-- The holder's heartbeat is lost (R485). -/
theorem Die.heartbeatLoss_opens (d : Die) (hheld : d.on R.OWN_STATUS_HELD = true) :
    Die.opened d d.heartbeatLoss ∧ d.heartbeatLoss.tally T.OWN_HEARTBEAT_LOSS = tallyAdd (d.tally T.OWN_HEARTBEAT_LOSS) 1 ∧ d.rechecked d.heartbeatLoss := by
  have hdef : d.heartbeatLoss = (d.count T.OWN_HEARTBEAT_LOSS 0).releaseCrook := if_pos hheld
  have hcount := d.report_count T.OWN_HEARTBEAT_LOSS 0
  obtain ⟨h1, h2, h3, h4, h5, h6, h7⟩ := (d.count T.OWN_HEARTBEAT_LOSS 0).releaseCrook_opens
  have hrel (y : Die) : y.releaseCrook.tally T.OWN_HEARTBEAT_LOSS = y.tally T.OWN_HEARTBEAT_LOSS := by
    have hstep : y.releaseCrook.tally T.OWN_HEARTBEAT_LOSS = (Die.count T.OWN_ELECTIONS 0
        ((((y.flag R.OWN_STATUS_HELD 0 false).put R.OWN_STATUS_HOLDER 0 0).cancelHandover.relockAll).flag R.OWN_STATUS_ELECTION 0 true)).tally T.OWN_HEARTBEAT_LOSS := rfl
    rw [hstep, Die.tally_count_apart _ _ _ _ rfl (by decide)]
    rfl
  rw [hdef]
  refine ⟨⟨h1, h2, h3, ?_, h5, ?_, h7⟩, ?_, hcount.rechecked.trans (Die.rechecked_releaseCrook _)⟩
  · rw [h4, Die.tally_count_apart _ _ _ _ rfl (by decide)]
  · rw [h6, (Die.report_stands hcount).2.2.2]
  · rw [hrel]
    exact Die.tally_count_same T.OWN_HEARTBEAT_LOSS 0 d rfl

/-- A handover that lapses is counted (R486, R487). -/
theorem Die.handoverExpired_lapses (d : Die) (h : d.on R.OWN_STATUS_PENDING = true) : d.handoverExpired.on R.OWN_STATUS_PENDING = false
    ∧ (∀ m, d.handoverExpired.holds m = d.holds m) ∧ d.handoverExpired.tally T.OWN_HANDOVER_EXPIRED = tallyAdd (d.tally T.OWN_HANDOVER_EXPIRED) 1
    ∧ d.rechecked d.handoverExpired := by
  have hdef : d.handoverExpired = d.cancelHandover.count T.OWN_HANDOVER_EXPIRED 0 := if_pos h
  have hcount := d.cancelHandover.report_count T.OWN_HANDOVER_EXPIRED 0
  rw [hdef]
  refine ⟨?_, fun m => (Die.report_holds hcount m).trans (d.cancelHandover_cancels.2 m), Die.tally_count_same T.OWN_HANDOVER_EXPIRED 0 _ rfl,
    d.rechecked_cancelHandover.trans hcount.rechecked⟩
  rw [Die.on, hcount.2 _ _ rfl]
  exact d.cancelHandover_cancels.1

/-- Settles O43: claims and handovers, the election's close, and the losses that open one. -/
theorem crookPasses : Obligations.CrookPasses := by
  unfold Obligations.CrookPasses
  intro s
  dsimp only
  have hgive (m : Nat) (hm : m < 4) : Die.taken m (s.die.giveCrook m) := s.die.giveCrook_taken m hm
  refine ⟨fun src w hvf hpath hans => ?_, fun he hns => ?_, fun src w hadm => ?_, fun hheld => ?_, fun src w hadm hw => ?_, fun hpend => ?_, fun hup => ?_,
    fun speed width vfs => ?_⟩
  · have hw := ownClaimW_eq src w.toNat s.die hvf hpath hans
    have hlt := srcNum_lt src hvf
    refine ⟨fun h0 => ?_, fun h0 h1 => ?_⟩
    · have hclaim : ownClaimW src w.toNat s.die = s.die.claim (srcNum src) := by
        rw [hw]
        simp only [lowestWo, List.find?_cons, h0]
      obtain ⟨hmine, helect, hdeny⟩ := s.die.claim_cases (srcNum src)
      refine ⟨fun hh => ?_, fun hh he hel => ⟨fun hz => ?_, fun hz => ?_⟩, fun hh hno => ?_⟩
      · exact State.completes_onDie (f := ownClaimW src w.toNat) rfl (hclaim.trans (hmine hh)) ⟨rfl, rfl, rfl, rfl, rfl⟩
      · obtain ⟨a, b, c, e, f, g⟩ := hgive _ hlt
        exact State.completes_onDie (f := ownClaimW src w.toNat) rfl (hclaim.trans ((helect hh he hel).1 hz)) ⟨rfl, rfl, rfl, rfl, a, b, c, e, f, g⟩
      · obtain ⟨hmem, hall, hframe⟩ := (helect hh he hel).2 hz
        exact State.completes_onDie (f := ownClaimW src w.toNat) rfl (hclaim.trans hframe) ⟨rfl, rfl, rfl, rfl, hmem, hall, rfl⟩
      · obtain ⟨hcount, hrep⟩ := s.die.deny_counts (srcNum src) hlt
        obtain ⟨h1, h2, h3, -⟩ := Die.report_stands hrep
        exact State.completes_onDie (f := ownClaimW src w.toNat) rfl (hclaim.trans (hdeny hh hno)) ⟨rfl, h1, h2, h3, hcount, hrep⟩
    · have hacc : ownClaimW src w.toNat s.die = s.die.accept (srcNum src) := by
        rw [hw, lowestWo, List.find?_cons, h0]
        simp only [List.find?_cons, h1]
      refine ⟨fun hmine => ?_, fun hmine => ?_⟩
      · have hgo : s.die.accept (srcNum src) = s.die.giveCrook (srcNum src) := if_pos (by rw [hmine.1, hmine.2]; simp)
        obtain ⟨a, b, c, e, f, g⟩ := hgive _ hlt
        exact State.completes_onDie (f := ownClaimW src w.toNat) rfl (hacc.trans hgo) ⟨rfl, rfl, rfl, rfl, a, b, c, e, f, g⟩
      · have hgo : s.die.accept (srcNum src) = s.die.deny (srcNum src) := if_neg (fun h => hmine (by simpa using h))
        obtain ⟨hcount, hrep⟩ := s.die.deny_counts (srcNum src) hlt
        obtain ⟨h1, h2, h3, -⟩ := Die.report_stands hrep
        exact State.completes_onDie (f := ownClaimW src w.toNat) rfl (hacc.trans hgo) ⟨rfl, h1, h2, h3, hcount, hrep⟩
  · obtain ⟨hsome, hnone⟩ := s.die.electionClose_closes he hns
    refine ⟨fun m hm => ?_, fun hno => State.completes_onDie (f := Die.electionClose) rfl (hnone hno) ⟨rfl, rfl, rfl, rfl, rfl⟩⟩
    obtain ⟨a, b, c, e, f, g⟩ := hgive m (hsome m hm).2
    exact State.completes_onDie (f := Die.electionClose) rfl (hsome m hm).1 ⟨rfl, rfl, rfl, rfl, a, b, c, e, f, g⟩
  · refine State.completes_dieCmd (f := writeDie src (blockAddr .OWN 0 0x014) (ownHeartbeatW w.toNat)) rfl rfl ?_
    rw [writeDie_admitted hadm]
    exact ⟨rfl, rfl, rfl, rfl, rfl⟩
  · obtain ⟨⟨a, b, c, e, f, g, h⟩, hcount, hre⟩ := s.die.heartbeatLoss_opens hheld
    obtain ⟨h1, h2, h3, -⟩ := hre.stands
    exact State.completes_onDie (f := Die.heartbeatLoss) rfl rfl ⟨rfl, h1, h2, h3, ⟨a, b, c, e, f, g, h⟩, hcount⟩
  · obtain ⟨hmine, hreq, hno⟩ := s.die.handover_cases w.toNat hw
    obtain ⟨h1, h2, h3⟩ := ownHandoverW_leaves w.toNat s.die
    have hgoes (P : Die → Prop) (h : P (ownHandoverW w.toNat s.die)) : s.completes (.handoverRequest src w) (fun t => t = { s with die := t.die }
        ∧ t.die.tiles = s.die.tiles ∧ t.die.pas = s.die.pas ∧ t.die.grants = s.die.grants ∧ P t.die) := by
      refine State.completes_dieCmd (f := writeDie src (blockAddr .OWN 0 0x018) (ownHandoverW w.toNat)) rfl rfl ?_
      rw [writeDie_admitted hadm]
      exact ⟨rfl, h1, h2, h3, h⟩
    exact ⟨fun h => hgoes (fun e => e.on R.OWN_STATUS_PENDING = false ∧ e.holds (bits w.toNat 0 2) = true) (hmine h), fun h he => hgoes (fun e => e.on R.OWN_STATUS_PENDING = true
      ∧ e.get R.OWN_STATUS_TARGET = bits w.toNat 0 2 ∧ e.handover = 0 ∧ ∀ m, e.holds m = s.die.holds m) (hreq h he), fun h he => hgoes (fun e =>
      e.on R.OWN_STATUS_PENDING = s.die.on R.OWN_STATUS_PENDING ∧ e.get R.OWN_STATUS_TARGET = s.die.get R.OWN_STATUS_TARGET ∧ ∀ m, e.holds m = s.die.holds m) (hno h he)⟩
  · obtain ⟨ha, hb, hc, hre⟩ := s.die.handoverExpired_lapses hpend
    obtain ⟨h1, h2, h3, -⟩ := hre.stands
    exact State.completes_onDie (f := Die.handoverExpired) rfl rfl ⟨rfl, h1, h2, h3, ha, hb, hc⟩
  · obtain ⟨hcount, hopen, hkeep⟩ := s.die.pcieDown_opens hup
    obtain ⟨hpas, htiles, hgrants, -⟩ := s.die.pcieDown_leaves hup
    refine State.completes_onDie (f := Die.pcieDown) rfl rfl ⟨rfl, htiles, hpas, hgrants, s.die.pcieDown_down, s.die.pcieDown_down, hcount, fun h0 => ?_, hkeep⟩
    obtain ⟨a, b, c, e, f, g, h⟩ := hopen h0
    exact ⟨a, b, c, e, f, g, h⟩
  · exact State.completes_onDie (f := Die.pcieUp speed width vfs) rfl rfl ⟨rfl, rfl, rfl, rfl, s.die.pcieUp_up speed width vfs⟩

end Sys2Proof.Machine
end

section
/-! SUPPORT. Flock messages on the line (R438, R456, R466). -/

namespace Sys2Proof.Machine

/-- What an update of a map leaves in it or puts there. -/
theorem KMap.mem_set {α : Type} [DecidableEq α] (d : α) (m : KMap α) (k : Nat) (v : α) (x : Nat × α) (h : x ∈ KMap.set d m k v) : x = (k, v) ∨ x ∈ m := by
  unfold KMap.set at h
  split at h
  · exact .inr (List.mem_of_mem_filter h)
  · exact KMap.mem_insert m k v x h

theorem KMap.get_mem {α : Type} (d : α) (m : KMap α) (k : Nat) : KMap.get d m k = d ∨ (k, KMap.get d m k) ∈ m := by
  induction m with
  | nil => exact .inl rfl
  | cons y m ih =>
    obtain ⟨j, v⟩ := y
    rw [KMap.get]
    split
    · next hj => subst hj; exact .inr List.mem_cons_self
    · exact ih.imp_right (List.mem_cons_of_mem _)

/-- A message waits in a class or is outstanding there. -/
def Rel.carries (r : Rel) (m : List Byte) : Prop := m ∈ r.waits ∨ ∃ n, (n, m) ∈ r.out

theorem Die.queued_iff (d : Die) (l cls : Nat) (m : List Byte) : d.queued l cls m ↔ ((d.lane l).rel cls).carries m := Iff.rfl

/-- A class after a turn of its line: it holds what it has received, and carries on what it carried. -/
def Rel.onward (r q : Rel) : Prop := q.buf = r.buf ∧ ∀ m, r.carries m → q.carries m

theorem Rel.onward_next (cls : Nat) (r q : Rel) (syms : List Sym) (h : r.next? cls = some (syms, q)) : r.onward q := by
  unfold Rel.next? at h
  split at h
  · cases h
    exact ⟨rfl, fun m hm => hm⟩
  · next m rest hr hw =>
    split at h
    · cases h
      refine ⟨rfl, fun y hy => ?_⟩
      rcases hy with hy | ⟨n, hy⟩
      · rw [hw] at hy
        rcases List.mem_cons.1 hy with rfl | hy
        · exact .inr ⟨r.next, List.mem_append_right _ (List.mem_singleton.2 rfl)⟩
        · exact .inl hy
      · exact .inr ⟨n, List.mem_append_left _ hy⟩
    · cases h
  · cases h

theorem Rel.onward_control (cls s wc : Nat) (r q : Rel) (syms : List Sym) (h : r.control? cls s wc = some (syms, q)) : r.onward q := by
  unfold Rel.control? at h
  split at h
  · cases h
    exact ⟨rfl, fun m hm => hm⟩
  · obtain ⟨-, hq⟩ := Option.ite_none_right_eq_some.1 h
    cases hq
    exact ⟨rfl, fun m hm => hm⟩

/-- A lane after a turn of its line. -/
def Lane.onward (x y : Lane) : Prop := x.r.onward y.r ∧ x.b.onward y.b

theorem Rel.onward_refl (r : Rel) : r.onward r := ⟨rfl, fun _ h => h⟩

theorem Rel.onward.trans {p q r : Rel} (h : p.onward q) (k : q.onward r) : p.onward r := ⟨k.1.trans h.1, fun m hm => k.2 m (h.2 m hm)⟩

theorem Lane.onward_refl (x : Lane) : x.onward x := ⟨x.r.onward_refl, x.b.onward_refl⟩

theorem Lane.onward.trans {x y z : Lane} (h : x.onward y) (k : y.onward z) : x.onward z := ⟨h.1.trans k.1, h.2.trans k.2⟩

theorem Lane.onward.rel {x y : Lane} (h : x.onward y) (cls : Nat) : (x.rel cls).onward (y.rel cls) := by
  unfold Lane.rel
  split
  · exact h.2
  · exact h.1

/-- What the line of a lane can change: lanes, ports, the Loft's queue and what is given to the outside. -/
structure Die.lineOnly (d e : Die) : Prop where
  frame : e = { d with lanes := e.lanes, ports := e.ports, loft := e.loft, emits := e.emits }
  lanes : ∀ l, (d.lane l).onward (e.lane l)
  line : ∀ k, e.onLine k = true → d.onLine k = true

theorem Die.lineOnly_refl (d : Die) : d.lineOnly d := ⟨rfl, fun l => (d.lane l).onward_refl, fun _ h => h⟩

theorem Die.lineOnly.trans {a b c : Die} (h : a.lineOnly b) (k : b.lineOnly c) : a.lineOnly c := by
  refine ⟨?_, fun l => (h.lanes l).trans (k.lanes l), fun n hn => h.line n (k.line n hn)⟩
  have hk := k.frame
  rw [h.frame] at hk
  exact hk

theorem Die.lineOnly_foldl {α : Type} (f : Die → α → Die) (hf : ∀ d x, Die.lineOnly d (f d x)) (l : List α) (d : Die) : d.lineOnly (l.foldl f d) := by
  induction l generalizing d with
  | nil => exact d.lineOnly_refl
  | cons x l ih => exact (hf d x).trans (ih _)

theorem Die.lane_onLane_same (d : Die) (l : Nat) (f : Lane → Lane) : (d.onLane l f).lane l = f (d.lane l) := KMap.get_upd_same _ _ _ _

theorem Die.lane_onLane_other (d : Die) (l j : Nat) (f : Lane → Lane) (h : j ≠ l) : (d.onLane l f).lane j = d.lane j := KMap.get_upd_other _ _ _ _ _ h

theorem Die.lineOnly_onLane (d : Die) (l : Nat) (f : Lane → Lane) (h : (d.lane l).onward (f (d.lane l))) : d.lineOnly (d.onLane l f) := by
  refine ⟨rfl, fun j => ?_, fun _ hk => hk⟩
  by_cases hj : j = l
  · subst hj
    rw [Die.lane_onLane_same]
    exact h
  · rw [Die.lane_onLane_other _ _ _ _ hj]
    exact Lane.onward_refl _

theorem Lane.onward_onRel (x : Lane) (cls : Nat) (q : Rel) (h : (x.rel cls).onward q) : x.onward (x.onRel cls (fun _ => q)) := by
  unfold Lane.rel at h
  unfold Lane.onRel
  split at h
  · next hc => rw [if_pos hc]; exact ⟨x.r.onward_refl, h⟩
  · next hc => rw [if_neg hc]; exact ⟨h, x.b.onward_refl⟩

theorem Lane.onward_sNow (x : Lane) (chan : Nat) (m : List Byte) : x.onward (x.sNow chan m).2 := ⟨x.r.onward_refl, x.b.onward_refl⟩

theorem Lane.onward_sFirst (x y : Lane) (syms : List Sym) (h : x.sFirst? = some (syms, y)) : x.onward y := by
  unfold Lane.sFirst? at h
  split at h
  · cases h
    exact ⟨x.r.onward_refl, x.b.onward_refl⟩
  · cases h

/-- An item of a lane comes from the lane's own queues and the Loft's (R438). -/
theorem Die.nextItem_lineOnly (l s : Nat) (d e : Die) (syms : List Sym) (h : d.nextItem l s = some (syms, e)) : d.lineOnly e := by
  unfold Die.nextItem at h
  extract_lets x wc lane rel sync src loft at h
  have hlane (r : Option (List Sym × Lane)) (hr : ∀ y z, r = some (y, z) → x.onward z) (y : List Sym × Die) (hy : lane r = some y) : d.lineOnly y.2 := by
    obtain ⟨z, hz, rfl⟩ := Option.map_eq_some_iff.1 hy
    exact d.lineOnly_onLane l (fun _ => z.2) (hr z.1 z.2 hz)
  have hrel (cls : Nat) (r : Option (List Sym × Rel)) (hr : ∀ y z, r = some (y, z) → (x.rel cls).onward z) (y : List Sym × Die) (hy : rel cls r = some y) : d.lineOnly y.2 := by
    refine hlane _ (fun a b hab => ?_) y hy
    obtain ⟨z, hz, heq⟩ := Option.map_eq_some_iff.1 hab
    cases heq
    exact x.onward_onRel cls z.2 (hr z.1 z.2 hz)
  have hloft (y : List Sym × Die) (hy : loft = some y) : d.lineOnly y.2 := by
    rw [Option.ite_none_right_eq_some] at hy
    obtain ⟨z, -, rfl⟩ := Option.map_eq_some_iff.1 hy.2
    have hl := d.lineOnly_onLane l (fun _ => (x.sNow 61 z.2).2) (x.onward_sNow 61 z.2)
    exact ⟨rfl, hl.lanes, hl.line⟩
  have hif (b : Bool) (o : Option (List Sym × Die)) (ho : ∀ y, o = some y → d.lineOnly y.2) (y : List Sym × Die) (hy : (if b then o else none) = some y) :
      d.lineOnly y.2 := by
    rw [Option.ite_none_right_eq_some] at hy
    exact ho y hy.2
  have hfirst := hlane x.sFirst? (fun y z hz => x.onward_sFirst z y hz)
  obtain ⟨o, ho, hsome⟩ := List.exists_of_findSome?_eq_some h
  simp only [List.mem_cons, List.not_mem_nil, or_false] at ho
  obtain rfl : o = some (syms, e) := hsome
  rcases ho with ho | ho | ho | ho | ho | ho | ho
  · exact hif _ _ hfirst _ ho.symm
  · exact hif _ _ (hrel 2 _ (fun y z hz => Rel.onward_next 2 _ z y hz)) _ ho.symm
  · exact hif _ _ hfirst _ ho.symm
  · exact hloft _ ho.symm
  · exact hrel 2 _ (fun y z hz => Rel.onward_control 2 _ _ _ z y hz) _ ho.symm
  · exact hrel 1 _ (fun y z hz => Rel.onward_control 1 _ _ _ z y hz) _ ho.symm
  · exact hif _ _ (hrel 1 _ (fun y z hz => Rel.onward_next 1 _ z y hz)) _ ho.symm

theorem Die.lineOnly_putLine (l s : Nat) (syms : List Sym) (d : Die) : d.lineOnly (d.putLine l s syms) := by
  refine ⟨rfl, fun j => ?_, fun k hk => ?_⟩
  · change (d.lane j).onward ((d.onLane l (fun y => { y with rdTx := _, lineEnd := _ })).lane j)
    exact (d.lineOnly_onLane l _ ⟨Rel.onward_refl _, Rel.onward_refl _⟩).lanes j
  · obtain ⟨y, hy, hline⟩ := List.any_eq_true.1 hk
    rcases KMap.mem_set _ _ _ _ _ hy with rfl | hy
    · rcases KMap.get_mem ({} : PortSt) d.ports (128 + l) with hnone | hmem
      · change ((KMap.get ({} : PortSt) d.ports (128 + l)).line.any (fun f => f.ent.key == k)) = true at hline
        rw [hnone] at hline
        cases hline
      · exact List.any_eq_true.2 ⟨_, hmem, hline⟩
    · exact List.any_eq_true.2 ⟨y, hy, hline⟩

theorem Die.lineOnly_lineTurn (l : Nat) (d : Die) : d.lineOnly (d.lineTurn l) := by
  unfold Die.lineTurn
  dsimp only
  split
  · split
    · exact d.lineOnly_refl
    · next syms e hitem =>
      split
      · exact (Die.nextItem_lineOnly _ _ _ _ _ hitem).trans (Die.lineOnly_putLine _ _ _ _)
      · exact d.lineOnly_refl
  · exact d.lineOnly_refl

theorem Lane.rel_onRel_same (x : Lane) (cls : Nat) (f : Rel → Rel) : (x.onRel cls f).rel cls = f (x.rel cls) := by
  unfold Lane.rel Lane.onRel
  split <;> rfl

/-- A message that is sent on a class joins those the class carries (R435). -/
theorem Die.sendRel_sends (l cls : Nat) (m : List Byte) (d : Die) : d.lineOnly (d.sendRel l cls m) ∧ (d.sendRel l cls m).queued l cls m := by
  have hjoin : (d.lane l).onward ((d.lane l).onRel cls (fun r => { r with waits := r.waits ++ [m] })) := by
    have hadd (r : Rel) : r.onward { r with waits := r.waits ++ [m] } := ⟨rfl, fun y hy => hy.imp_left (List.mem_append_left _)⟩
    unfold Lane.onRel
    split
    · exact ⟨Rel.onward_refl _, hadd _⟩
    · exact ⟨hadd _, Rel.onward_refl _⟩
  have hturn := Die.lineOnly_lineTurn l (d.onLane l (Lane.onRel cls (fun r => { r with waits := r.waits ++ [m] })))
  refine ⟨(d.lineOnly_onLane l _ hjoin).trans hturn, ((hturn.lanes l).rel cls).2 m (.inl ?_)⟩
  rw [Die.lane_onLane_same, Lane.rel_onRel_same]
  exact List.mem_append_right _ (List.mem_singleton.2 rfl)

theorem Die.lineOnly.queued {d e : Die} (h : d.lineOnly e) {l cls : Nat} {m : List Byte} (hq : d.queued l cls m) : e.queued l cls m := ((h.lanes l).rel cls).2 m hq

theorem Die.lineOnly.regs {d e : Die} (h : d.lineOnly e) : e.regs = d.regs := by rw [h.frame]

/-- A message that goes down joins what every ACTIVE child's link carries (R456). -/
theorem Die.sendDown_spreads (cls : Nat) (m : List Byte) (d : Die) : d.lineOnly (d.sendDown cls m) ∧ d.spreads (d.sendDown cls m) cls m := by
  have hfold (l : List Nat) (e : Die) : e.lineOnly (l.foldl (fun d l => d.sendRel l cls m) e) ∧ ∀ c ∈ l, (l.foldl (fun d l => d.sendRel l cls m) e).queued c cls m := by
    induction l generalizing e with
    | nil => exact ⟨e.lineOnly_refl, fun c hc => absurd hc List.not_mem_nil⟩
    | cons a l ih =>
      obtain ⟨hline, hq⟩ := e.sendRel_sends a cls m
      obtain ⟨hrest, hall⟩ := ih (e.sendRel a cls m)
      refine ⟨hline.trans hrest, fun c hc => ?_⟩
      rcases List.mem_cons.1 hc with rfl | hc
      · exact hrest.queued hq
      · exact hall c hc
  obtain ⟨hline, hall⟩ := hfold (d.childLanes.filter (fun l => d.laneState l == 4)) d
  exact ⟨hline, fun c hc hstate => hall c (List.mem_filter.2 ⟨hc, beq_iff_eq.2 hstate⟩)⟩

theorem Die.lineOnly_forward (cls : Nat) (m : List Byte) (d : Die) : d.lineOnly (d.forward cls m) := by
  unfold Die.forward
  split
  · exact (d.sendDown_spreads cls m).1
  · exact d.lineOnly_refl

/-- A shepherd passes a message on. -/
theorem Die.forward_spreads (cls : Nat) (m : List Byte) (d : Die) (h : d.role = 2) : d.spreads (d.forward cls m) cls m := by
  unfold Die.forward
  rw [if_pos (.inl h)]
  exact (d.sendDown_spreads cls m).2

theorem Die.lineOnly_sendUp (type image : Nat) (body : List Byte) (d : Die) : d.lineOnly (d.sendUp type image body) := by
  unfold Die.sendUp
  split
  · exact (Die.sendRel_sends _ _ _ _).1
  · exact d.lineOnly_refl

/-- A message that is taken leaves every other one. -/
theorem Die.dropMsg_drops (l cls : Nat) (d : Die) : (((d.dropMsg l cls).lane l).rel cls).buf = ((d.lane l).rel cls).buf.drop 1
    ∧ d.dropMsg l cls = { d with lanes := (d.dropMsg l cls).lanes } := by
  refine ⟨?_, rfl⟩
  unfold Die.dropMsg
  rw [Die.lane_onLane_same, Lane.rel_onRel_same]

/-- A command that takes a message from the parent's link, or from a child's (R456). -/
theorem msgCmd_takes (down : Bool) (cls type l : Nat) (f : List Byte → State → State) (s : State) (m : List Byte) (h : s.die.brings l cls type m)
    (hl : (if down then s.die.parentLanes.contains l else s.die.childLanes.contains l) = true) :
    msgCmd down cls type l f s = .next (f m { s with die := s.die.dropMsg l cls }) := by
  have hgo : msgCmd down cls type l f s = .next (match s.die.msgOf l cls type with
    | none => s
    | some m =>
      if (if down then (s.die.dropMsg l cls).parentLanes.contains l else (s.die.dropMsg l cls).childLanes.contains l) then f m { s with die := s.die.dropMsg l cls }
      else { s with die := (s.die.dropMsg l cls).count T.FLK_MSG_BAD 0 }) := if_pos (decide_eq_true h.1)
  rw [hgo, h.2]
  exact congrArg Host.Outcome.next (if_pos hl)

/-- A register write on a die leaves what its lanes carry. -/
theorem Die.putAt_queued {d e : Die} (hl : e.lanes = d.lanes) (l cls : Nat) (m : List Byte) : e.queued l cls m ↔ d.queued l cls m := by
  rw [Die.queued_iff, Die.queued_iff, Die.lane, Die.lane, hl]

/-- A message from the parent that is passed on and changes this device's registers (R456, R466). -/
theorem State.takes_forwarded (s : State) (c : Instr) (l type : Nat) (m : List Byte) (act : Die → Die) (P : Die → Prop)
    (hc : exec c s = msgCmd true 2 type l (fun m s => { s with die := act (s.die.forward 2 m) }) s) (hl : l ∈ s.die.parentLanes) (h : s.die.brings l 2 type m)
    (hact : ∀ d, (act d).lanes = d.lanes ∧ (act d).tiles = d.tiles ∧ (act d).rows = d.rows ∧ (act d).dir = d.dir) (hP : ∀ d, P (act d)) :
    s.takes c l 2 (fun e => P e ∧ (s.die.role = 2 → s.die.spreads e 2 m)) := by
  have hexec := hc.trans (msgCmd_takes true 2 type l _ s m h (by simpa using hl))
  have hline := (s.die.dropMsg l 2).lineOnly_forward 2 m
  obtain ⟨hlanes, htiles, hrows, hdir⟩ := hact ((s.die.dropMsg l 2).forward 2 m)
  refine ⟨_, hexec, rfl, ?_, ?_, ?_, ?_, hP _, fun hrole k hk hstate => ?_⟩
  · change (((act ((s.die.dropMsg l 2).forward 2 m)).lane l).rel 2).buf = _
    rw [Die.lane, hlanes]
    exact ((hline.lanes l).rel 2).1.trans (s.die.dropMsg_drops l 2).1
  · exact htiles.trans (by rw [hline.frame]; rfl)
  · exact hrows.trans (by rw [hline.frame]; rfl)
  · exact hdir.trans (by rw [hline.frame]; rfl)
  · exact (Die.putAt_queued hlanes k 2 m).2 ((s.die.dropMsg l 2).forward_spreads 2 m hrole k hk hstate)

/-- KILL, HALT and RELEASE on this device change its registers (R466). -/
theorem Die.flockKill_kills (d : Die) : d.flockKill.on R.FLK_STATUS_KILLED = true := Die.on_flag_same R.FLK_STATUS_KILLED 0 true d rfl

theorem Die.flockHalt_halts (d : Die) : d.flockHalt.on R.FLK_STATUS_HALTED = true := Die.on_flag_same R.FLK_STATUS_HALTED 0 true d rfl

theorem Die.flockRelease_releases (d : Die) : d.flockRelease.on R.FLK_STATUS_KILLED = false ∧ d.flockRelease.on R.FLK_STATUS_HALTED = false
    ∧ d.flockRelease.pair64 R.FLK_SET_HALT_LO R.FLK_SET_HALT_HI = 0 := by
  have hdef : d.flockRelease = (((d.put R.FLK_STATUS_KILLED 0 0).put R.FLK_STATUS_HALTED 0 0).put R.FLK_SET_HALT_LO 0 0).put R.FLK_SET_HALT_HI 0 (0 / 2 ^ 32) := rfl
  refine ⟨?_, ?_, ?_⟩
  · rw [Die.on, hdef, Die.get_put_apart _ _ _ _ _ (by decide), Die.get_put_apart _ _ _ _ _ (by decide), Die.get_put_apart _ _ _ _ _ (by decide), Die.get_put_same]
    rfl
  · rw [Die.on, hdef, Die.get_put_apart _ _ _ _ _ (by decide), Die.get_put_apart _ _ _ _ _ (by decide), Die.get_put_same]
    rfl
  · rw [Die.pair64, hdef, Die.get_put_apart _ _ _ _ _ (by decide), Die.get_put_same, Die.get_put_same]
    rfl

/-- What is left of a launch queue whose agreed entries are discarded, a committed head apart (R391, R392, R466). -/
def Die.unagreed (d : Die) (q : Nat × List LaunchEnt) : List LaunchEnt :=
  (if d.onLine q.1 then q.2.take 1 else []) ++ (if d.onLine q.1 then q.2.drop 1 else q.2).filter (fun e => !(e.agreed))

theorem State.cancelAgreed_leaves (s : State) : s.cancelAgreed.kill = s.kill ∧ s.cancelAgreed.die.lanes = s.die.lanes
    ∧ s.cancelAgreed.die.launch = (s.die.launch.map (fun q => (q.1, s.die.unagreed q))).filter (fun q => !q.2.isEmpty) := by
  refine ⟨rfl, ?_, ?_⟩
  · unfold State.cancelAgreed State.discardLaunches
    exact (congrArg Die.lanes (Die.report_counts T.EGR_KILL_DROP _ _ _).1).trans rfl
  · unfold State.cancelAgreed State.discardLaunches
    exact (congrArg Die.launch (Die.report_counts T.EGR_KILL_DROP _ _ _).1).trans rfl

/-- A cancelled flock keeps what is committed and what is not agreed (R466). -/
theorem State.cancelAgreed_cancels (s u : State) (hline : s.die.lineOnly u.die) :
    (∀ q ∈ u.cancelAgreed.die.launch, ∀ e ∈ (if s.die.onLine q.1 = true then q.2.drop 1 else q.2), e.agreed = false)
    ∧ (∀ q ∈ s.die.launch, ∀ e ∈ q.2, e.agreed = false → ∃ r ∈ u.cancelAgreed.die.launch, r.1 = q.1 ∧ e ∈ r.2) := by
  have hlaunch : u.die.launch = s.die.launch := by rw [hline.frame]
  rw [u.cancelAgreed_leaves.2.2, hlaunch]
  refine ⟨fun q hq e he => ?_, fun q hq e he hag => ?_⟩
  · obtain ⟨hq, -⟩ := List.mem_filter.1 hq
    obtain ⟨y, -, rfl⟩ := List.mem_map.1 hq
    have hfree (l : List LaunchEnt) (h : e ∈ l.filter (fun e => !(e.agreed))) : e.agreed = false := by simpa using (List.mem_filter.1 h).2
    unfold Die.unagreed at he
    dsimp only at he
    by_cases hu : u.die.onLine y.1 = true
    · rw [if_pos (hline.line _ hu), if_pos hu, if_pos hu] at he
      cases hy : y.2 with
      | nil => rw [hy] at he; cases he
      | cons a l =>
        rw [hy] at he
        exact hfree l he
    · rw [if_neg hu, if_neg hu, List.nil_append] at he
      split at he
      · exact hfree _ (List.mem_of_mem_drop he)
      · exact hfree _ he
  · have hkeep : e ∈ u.die.unagreed q := by
      unfold Die.unagreed
      split
      · rw [List.mem_append]
        rw [← List.take_append_drop 1 q.2, List.mem_append] at he
        exact he.imp_right (fun h => List.mem_filter.2 ⟨h, by rw [hag]; rfl⟩)
      · exact List.mem_append_right _ (List.mem_filter.2 ⟨he, by rw [hag]; rfl⟩)
    refine ⟨(q.1, u.die.unagreed q), List.mem_filter.2 ⟨List.mem_map.2 ⟨q, hq, rfl⟩, ?_⟩, rfl, hkeep⟩
    cases hr : u.die.unagreed q with
    | nil => rw [hr] at hkeep; cases hkeep
    | cons a l => rfl

/-- A request for registers that does not fit is answered with result 2 (R482). -/
def State.mrspOf (res : Nat) (b data : List Byte) (s : State) : State := onDie (Die.sendUp 15 0 (leBytes 1 res ++ slice b 1 7 ++ data)) s

theorem State.mreq_eq (m : List Byte) (s : State) : s.mreq m =
    if ((byteAt (m.drop 8) 0).toNat ≠ 1 ∧ (byteAt (m.drop 8) 0).toNat ≠ 2) ∨ (byteAt (m.drop 8) 1).toNat = 0 ∨ 16 < (byteAt (m.drop 8) 1).toNat
        ∨ leNat (slice (m.drop 8) 4 4) % 4 ≠ 0 ∨ (m.drop 8).length < 8
        ∨ ((byteAt (m.drop 8) 0).toNat = 2 ∧ (m.drop 8).length < 8 + 4 * (byteAt (m.drop 8) 1).toNat) then s.mrspOf 2 (m.drop 8) []
    else if (byteAt (m.drop 8) 0).toNat = 1 then
      (State.readWords (leNat (slice (m.drop 8) 4 4)) (byteAt (m.drop 8) 1).toNat s).2.mrspOf 1 (m.drop 8)
        (State.readWords (leNat (slice (m.drop 8) 4 4)) (byteAt (m.drop 8) 1).toNat s).1
    else (State.writeWords (leNat (slice (m.drop 8) 4 4)) (wordsOf (slice (m.drop 8) 8 (4 * (byteAt (m.drop 8) 1).toNat))) s).mrspOf 1 (m.drop 8) [] := rfl

theorem State.mreq_cases (m : List Byte) (s : State) :
    (((byteAt (m.drop 8) 0).toNat = 0 ∨ 2 < (byteAt (m.drop 8) 0).toNat ∨ (byteAt (m.drop 8) 1).toNat = 0 ∨ 16 < (byteAt (m.drop 8) 1).toNat
        ∨ leNat (slice (m.drop 8) 4 4) % 4 ≠ 0) → s.mreq m = s.mrspOf 2 (m.drop 8) [])
    ∧ ((byteAt (m.drop 8) 0).toNat = 1 → (byteAt (m.drop 8) 1).toNat = 1 → leNat (slice (m.drop 8) 4 4) % 4 = 0 → 8 ≤ (m.drop 8).length →
        s.mreq m = (s.busRead .m2 (leNat (slice (m.drop 8) 4 4))).2.mrspOf 1 (m.drop 8) (leBytes 4 (s.busRead .m2 (leNat (slice (m.drop 8) 4 4))).1))
    ∧ ((byteAt (m.drop 8) 0).toNat = 2 → (byteAt (m.drop 8) 1).toNat = 1 → leNat (slice (m.drop 8) 4 4) % 4 = 0 → 12 ≤ (m.drop 8).length →
        s.mreq m = (s.busWrite .m2 (leNat (slice (m.drop 8) 4 4)) (leNat (slice (m.drop 8) 8 4))).mrspOf 1 (m.drop 8) []) := by
  have heq := s.mreq_eq m
  generalize m.drop 8 = b at heq ⊢
  refine ⟨fun h => heq.trans (if_pos (by omega)), fun h1 hn hoff hlen => ?_, fun h2 hn hoff hlen => ?_⟩
  · rw [heq, if_neg (by omega), if_pos h1, hn]
    have hread : State.readWords (leNat (slice b 4 4)) 1 s = (leBytes 4 (s.busRead .m2 (leNat (slice b 4 4))).1 ++ [], (s.busRead .m2 (leNat (slice b 4 4))).2) := rfl
    rw [hread, List.append_nil]
  · rw [heq, if_neg (by omega), if_neg (by omega), hn]
    have hlen4 : (slice b 8 4).length = 4 := by
      unfold slice
      simp
      omega
    have hword : wordsOf (slice b 8 (4 * 1)) = [leNat (slice b 8 4)] := by
      unfold wordsOf
      rw [Nat.mul_one, hlen4]
      change [leNat (slice (slice b 8 4) 0 4)] = _
      have hself : slice (slice b 8 4) 0 4 = slice b 8 4 := by
        conv_lhs => unfold slice
        rw [List.drop_zero]
        exact List.take_of_length_le (by rw [List.length_take]; exact Nat.min_le_left _ _)
      rw [hself]
    rw [hword]
    rfl

/-- A message the owner writes for the flock (R464, R608, R616). -/
def Die.flockSlot (d : Die) : List Byte :=
  d.hostRead 0 (d.addr64 R.FLK_MSG_BASE_LO R.FLK_MSG_BASE_HI + d.get R.FLK_MSG_TAIL_VALUE % 2 ^ d.get R.FLK_MSG_CTL_LOG2SIZE * 64) 52

/-- What a field of its own word leaves as it is written. -/
theorem Die.sameTop_put (d : Die) (f : Fld) (v : Nat) (h : f.key 0 / 32 ≠ 0x20010 ∧ f.key 0 / 32 ≠ 0x20800) :
    (d.put f 0 v).role = d.role ∧ (d.put f 0 v).isTop = d.isTop ∧ (d.put f 0 v).get R.FLK_STATUS_STATE = d.get R.FLK_STATUS_STATE
    ∧ (d.put f 0 v).epoch = d.epoch := by
  have hget (g : Fld) (hg : g.key 0 / 32 = 0x20010 ∨ g.key 0 / 32 = 0x20800) : (d.put f 0 v).get g = d.get g := by
    refine Die.get_put_other _ _ _ _ _ _ (fun hk => ?_)
    rw [hk] at hg
    exact hg.elim h.1 h.2
  have hrole : (d.put f 0 v).role = d.role := hget R.FLK_ROLE_ROLE (.inl (by decide))
  refine ⟨hrole, ?_, hget R.FLK_STATUS_STATE (.inr (by decide)), hget R.FLK_STATUS_EPOCH (.inr (by decide))⟩
  unfold Die.isTop Die.level
  rw [hrole, hget R.FLK_ROLE_LEVEL (.inl (by decide))]

theorem Die.spreads_of {d x e : Die} (hregs : ∀ g : Fld, ∀ i, (g.key i / 32 = 0x20010 ∨ g.base = 0x80000) → x.get g i = d.get g i) {cls : Nat} {m : List Byte}
    (h : x.spreads e cls m) : d.spreads e cls m := by
  intro c hc hstate
  have hrole : x.role = d.role := hregs R.FLK_ROLE_ROLE 0 (.inl (by decide))
  have hlevel : x.level = d.level := hregs R.FLK_ROLE_LEVEL 0 (.inl (by decide))
  have htail : x.isTail = d.isTail := by rw [Die.isTail, Die.isTail, Die.on, Die.on, hregs R.FLK_ROLE_HALF 0 (.inl (by decide))]
  have hchild : x.childLanes = d.childLanes := by
    unfold Die.childLanes Die.isTop
    rw [hrole, hlevel, htail]
  refine h c (by rw [hchild]; exact hc) ?_
  exact (hregs R.LNK_STATUS_STATE c (.inr (by decide))).trans hstate

/-- A message of the owner's ring goes down, or is counted as bad (R464, R616). -/
theorem Die.flockMsgSend_sends (d : Die) (hon : d.on R.FLK_MSG_CTL_ENABLE = true) (hne : d.get R.FLK_MSG_HEAD_VALUE ≠ d.get R.FLK_MSG_TAIL_VALUE) :
    d.flockMsgSend.get R.FLK_MSG_TAIL_VALUE = (d.get R.FLK_MSG_TAIL_VALUE + 1) % 2 ^ 32
    ∧ ((byteAt d.flockSlot 0).toNat = 3 ∧ d.isTop = true ∧ d.get R.FLK_STATUS_STATE = 5 →
        d.spreads d.flockMsgSend 1 (overlay d.flockSlot 2 (leBytes 2 d.epoch)))
    ∧ (¬ ((byteAt d.flockSlot 0).toNat = 3 ∧ d.isTop = true ∧ d.get R.FLK_STATUS_STATE = 5) →
        d.flockMsgSend.tally T.FLK_MSG_BAD = tallyAdd (d.tally T.FLK_MSG_BAD) 1 ∧ d.flockMsgSend.lanes = d.lanes) := by
  obtain ⟨x, hx⟩ : ∃ x, d.put R.FLK_MSG_TAIL_VALUE 0 (d.get R.FLK_MSG_TAIL_VALUE + 1) = x := ⟨_, rfl⟩
  have hsend : d.flockMsgSend = if (byteAt d.flockSlot 0).toNat = 3 ∧ x.isTop = true ∧ x.get R.FLK_STATUS_STATE = 5
      then x.sendDown 1 (overlay d.flockSlot 2 (leBytes 2 x.epoch)) else x.count T.FLK_MSG_BAD 0 := by
    subst hx
    exact if_pos ⟨hon, hne⟩
  obtain ⟨-, htop, hstate, hepoch⟩ := d.sameTop_put R.FLK_MSG_TAIL_VALUE (d.get R.FLK_MSG_TAIL_VALUE + 1) (by decide)
  have htail : x.get R.FLK_MSG_TAIL_VALUE = (d.get R.FLK_MSG_TAIL_VALUE + 1) % 2 ^ 32 := by subst hx; exact Die.get_put_same _ _ _ _
  have hother (g : Fld) (i : Nat) (hg : g.key i / 32 = 0x20010 ∨ g.base = 0x80000) : x.get g i = d.get g i := by
    subst hx
    refine Die.get_put_other _ _ _ _ _ _ (fun hk => ?_)
    rcases hg with hg | hg
    · rw [hk] at hg
      exact absurd hg (by decide)
    · have h1 : g.key i ≥ 0x80000 * 32 := by rw [Fld.key, hg]; omega
      rw [hk] at h1
      exact absurd h1 (by decide)
  have hcount := x.report_count T.FLK_MSG_BAD 0
  rw [hx] at htop hstate hepoch
  rw [htop, hstate, hepoch] at hsend
  rw [hsend]
  refine ⟨?_, fun hgood => ?_, fun hbad => ?_⟩
  · split
    · exact (Die.get_congr _ _ (x.sendDown_spreads _ _).1.regs _ _).trans htail
    · exact (hcount.2 _ _ rfl).trans htail
  · rw [if_pos hgood]
    exact Die.spreads_of hother (x.sendDown_spreads _ _).2
  · rw [if_neg hbad]
    refine ⟨(Die.tally_count_exact T.FLK_MSG_BAD 0 x rfl).trans ?_, (congrArg Die.lanes hcount.1).trans ?_⟩
    · subst hx; rfl
    · subst hx; rfl

/-- A flock that forms takes its count from SOURCE where that is ahead (R463). -/
theorem Die.form_forms (d : Die) (hrole : d.role = 2) (hlevel : d.level = 1) (hstate : d.get R.FLK_STATUS_STATE ≠ 6) :
    d.form.get R.FLK_STATUS_STATE = 5 ∧ d.form.fc = max d.fc (d.nOf 0) := by
  have hdef : d.form = (d.stepFc (d.nOf 0 - d.fc)).put R.FLK_STATUS_STATE 0 5 := if_pos ⟨hrole, hlevel, hstate⟩
  have hfc (n : Nat) : (d.stepFc n).fc = d.fc + n := by
    unfold Die.stepFc
    dsimp only [Die.onFlk]
    exact foldl_keeps Die.fc _ (fun e y => by split <;> rfl) _ _
  rw [hdef]
  refine ⟨(Die.get_put_same _ _ _ _).trans rfl, ?_⟩
  change (d.stepFc (d.nOf 0 - d.fc)).fc = _
  rw [hfc]
  omega

/-- The owner's commands to the flock (R463, R466). -/
theorem flkControlW_eq (w : Nat) (s : State) : flkControlW w s = match lowestWo w [0, 1, 2, 3, 4] with
    | some 0 => { s with die := s.die.form }
    | some 1 => if s.die.isShepherd then { s with die := (s.die.sendDown 2 (flkMsg 9 s.die.epoch 0 [])).flockKill } else s
    | some 2 => if s.die.isShepherd then { s with die := (s.die.sendDown 2 (flkMsg 11 s.die.epoch 0 [])).flockHalt } else s
    | some 3 => if s.die.isShepherd then State.cancelAgreed { s with die := s.die.sendDown 2 (flkMsg 12 s.die.epoch 0 []) } else s
    | some _ => if s.die.isShepherd then { s with die := (s.die.sendDown 2 (flkMsg 10 s.die.epoch 0 [])).flockRelease } else s
    | none => s := rfl

theorem Die.isShepherd_of (d : Die) (h : d.role = 2 ∨ d.role = 3) : d.isShepherd = true := by
  unfold Die.isShepherd
  rcases h with h | h <;> rw [h] <;> rfl

/-- A role that the device may take is taken, with its position, and the flock is left (R453, R461, R476). -/
theorem flkRoleW_takes (w : Nat) (d : Die) (hok : roleOk (bits w 0 2) (bits w 2 2) (bits w 4 1) = true) (hadm : ∀ p, p < 64 → (d.pasture p).adm = false)
    (hupd : 2 ≤ bits w 0 2 → d.updOwner 0 = none) :
    (flkRoleW w d).role = bits w 0 2 ∧ (flkRoleW w d).level = bits w 2 2 ∧ (flkRoleW w d).get R.FLK_ROLE_HALF = bits w 4 1
    ∧ (flkRoleW w d).get R.FLK_STATUS_STATE = (if bits w 0 2 = 3 then 6 else 0) ∧ (flkRoleW w d).get R.FLK_STATUS_JOIN_RESULT = 0
    ∧ (flkRoleW w d).flk.kids = [] := by
  have hall : pastures.all (fun p => !(d.pasture p).adm) = true := by
    refine List.all_eq_true.2 (fun p hp => ?_)
    rw [hadm p (List.mem_range.1 hp)]
    rfl
  have hcond : (!(roleOk (bits w 0 2) (bits w 2 2) (bits w 4 1) && pastures.all (fun p => !(d.pasture p).adm) && (decide (bits w 0 2 < 2) || (d.updOwner 0).isNone))) = false := by
    rw [hok, hall]
    by_cases h2 : bits w 0 2 < 2
    · rw [decide_eq_true h2]; rfl
    · rw [hupd (by omega), decide_eq_false h2]; rfl
  obtain ⟨x, hx⟩ : ∃ x, d.setFields .FLK 0 0x010 w = x := ⟨_, rfl⟩
  obtain ⟨y, hy⟩ : ∃ y, (x.put R.FLK_STATUS_STATE 0 (if bits w 0 2 = 3 then 6 else 0)).put R.FLK_STATUS_JOIN_RESULT 0 0 = y := ⟨_, rfl⟩
  have htake : ∃ g : Flock → Flock, flkRoleW w d = y.recheck.onFlk g ∧ ∀ k, (g k).kids = [] := by
    refine ⟨fun k => { k with parent := 0, lastSync := none, good := 0, bad := 0, miss := 0, kids := [], reduction := none, digests := [] }, ?_, fun _ => rfl⟩
    unfold flkRoleW
    dsimp only
    rw [hcond, if_neg Bool.false_ne_true, hx, hy]
  obtain ⟨g, hflk, hkids⟩ := htake
  have hget (f : Fld) (hf : f.key 0 / 32 = 0x20010 ∨ f.key 0 / 32 = 0x20800) : (flkRoleW w d).get f = y.get f := by
    have hrep : reportWord (f.key 0 / 32) = false := by rcases hf with hf | hf <;> rw [hf] <;> rfl
    have hregs : (flkRoleW w d).regs = y.recheck.regs := by rw [hflk, Die.onFlk]
    exact (Die.get_congr _ _ hregs _ _).trans ((y.rechecked_recheck).2 f 0 hrep (by omega) (by omega))
  have hput (f : Fld) (hf : f.key 0 / 32 = 0x20010) : y.get f = x.get f := by
    have hne (h : Fld) (hh : h.key 0 / 32 = 0x20800) : f.key 0 ≠ h.key 0 := fun hk => by rw [hk, hh] at hf; exact absurd hf (by decide)
    rw [← hy, Die.get_put_other _ _ _ _ _ _ (hne _ (by decide)), Die.get_put_other _ _ _ _ _ _ (hne _ (by decide))]
  have hfield (f : WField) (hf : f ∈ fieldsAt .FLK 0x010) (hrw : f.fld.acc = .rw) (hany : f.ok = any) (hk : f.fld.key 0 / 32 = 0x20010) :
      (flkRoleW w d).get f.fld = bits w f.fld.lo f.fld.width := by
    rw [hget _ (.inl hk), hput _ hk, ← hx, Die.get_setFields_rw .FLK 0 0x010 w d f hf hrw, hany]
    exact if_pos rfl
  refine ⟨hfield ⟨R.FLK_ROLE_ROLE, any⟩ (by simp [fieldsAt, Block.regs, regsFLK]) rfl rfl (by decide),
    hfield ⟨R.FLK_ROLE_LEVEL, any⟩ (by simp [fieldsAt, Block.regs, regsFLK]) rfl rfl (by decide),
    hfield ⟨R.FLK_ROLE_HALF, any⟩ (by simp [fieldsAt, Block.regs, regsFLK]) rfl rfl (by decide), ?_, ?_, ?_⟩
  · rw [hget _ (.inr (by decide)), ← hy, Die.get_put_apart _ _ _ _ _ (by decide), Die.get_put_same]
    split <;> rfl
  · rw [hget _ (.inr (by decide)), ← hy, Die.get_put_same]
    rfl
  · rw [hflk]
    exact hkids _

/-- A role that the device may not take is refused (R453, R461). -/
theorem flkRoleW_refused (w : Nat) (d : Die) (h : ¬ (roleOk (bits w 0 2) (bits w 2 2) (bits w 4 1) = true ∧ (∀ p, p < 64 → (d.pasture p).adm = false)
      ∧ (2 ≤ bits w 0 2 → d.updOwner 0 = none))) : flkRoleW w d = d.flag R.FLK_STATUS_ROLE_REFUSED 0 true := by
  unfold flkRoleW
  dsimp only
  refine if_pos ?_
  by_contra hno
  rw [Bool.not_eq_true, Bool.not_eq_false', Bool.and_eq_true, Bool.and_eq_true, List.all_eq_true] at hno
  obtain ⟨⟨h1, h2⟩, h3⟩ := hno
  refine h ⟨h1, fun p hp => by simpa using h2 p (List.mem_range.2 hp), fun hge => ?_⟩
  simpa [Nat.not_lt.2 hge] using h3

/-- Settles O42: messages from the parent and the owner's commands, requests for registers, the message ring, FORM and FLK_ROLE. -/
theorem flockActs : Obligations.FlockActs := by
  unfold Obligations.FlockActs
  intro s l m
  dsimp only
  refine ⟨fun hl => ⟨fun h => ?_, fun h => ?_, fun h => ?_, fun h => ?_⟩, fun h hl => ?_, fun h hl => ?_, fun hon hne => ?_, fun src w hadm => ?_, fun src w hadm => ?_⟩
  · exact s.takes_forwarded (.kill l) l 9 m Die.flockKill (fun e => e.on R.FLK_STATUS_KILLED = true) rfl hl h (fun _ => ⟨rfl, rfl, rfl, rfl⟩) Die.flockKill_kills
  · exact s.takes_forwarded (.flockHalt l) l 11 m Die.flockHalt (fun e => e.on R.FLK_STATUS_HALTED = true) rfl hl h (fun _ => ⟨rfl, rfl, rfl, rfl⟩) Die.flockHalt_halts
  · exact s.takes_forwarded (.release l) l 10 m Die.flockRelease _ rfl hl h (fun _ => ⟨rfl, rfl, rfl, rfl⟩) Die.flockRelease_releases
  · have hexec : exec (.cancelAll l) s = .next (State.cancelAgreed { s with die := (s.die.dropMsg l 2).forward 2 m }) :=
      msgCmd_takes true 2 12 l (fun m s => State.cancelAgreed { s with die := s.die.forward 2 m }) s m h (by simpa using hl)
    have hline := (s.die.dropMsg l 2).lineOnly_forward 2 m
    refine ⟨_, hexec, ⟨rfl, State.cancelAgreed_cancels { s with die := s.die.dropMsg l 2 } { s with die := (s.die.dropMsg l 2).forward 2 m } hline⟩,
      fun hrole k hk hstate => ?_⟩
    exact (Die.putAt_queued (State.cancelAgreed_leaves _).2.1 k 2 m).2 ((s.die.dropMsg l 2).forward_spreads 2 m hrole k hk hstate)
  · exact msgCmd_takes false 1 15 l (fun _ s => s) s m h (by simpa using hl)
  · have hexec : exec (.mreq l) s = .next (State.mreq m { s with die := s.die.dropMsg l 1 }) := msgCmd_takes true 1 14 l State.mreq s m h (by simpa using hl)
    obtain ⟨hbad, hread, hwrite⟩ := State.mreq_cases m { s with die := s.die.dropMsg l 1 }
    exact ⟨fun hb => hexec.trans (congrArg Host.Outcome.next (hbad hb)), fun h1 hn hoff hlen => hexec.trans (congrArg Host.Outcome.next (hread h1 hn hoff hlen)),
      fun h1 hn hoff hlen => hexec.trans (congrArg Host.Outcome.next (hwrite h1 hn hoff hlen))⟩
  · exact State.completes_onDie (f := Die.flockMsgSend) rfl rfl ⟨rfl, s.die.flockMsgSend_sends hon hne⟩
  · have hact {c : Instr} {u : State} (hc : exec c s = .next (writeAt src (blockAddr .FLK 0 0x018) (flkControlW w.toNat) s)) (hu : flkControlW w.toNat s = u) :
        exec c s = .next u := by rw [hc, writeAt_admitted hadm, hu]
    have heq := flkControlW_eq w.toNat s
    refine ⟨fun hrole hlevel hstate hlow => ?_, fun hsh hlow => ?_, fun hsh hlow => ?_, fun hsh hlow => ?_, fun hsh hlow => ?_⟩
    · rw [hlow] at heq
      exact ⟨_, hact rfl heq, rfl, s.die.form_forms hrole hlevel hstate⟩
    all_goals rw [hlow] at heq
    · exact ⟨_, hact rfl (heq.trans (if_pos (s.die.isShepherd_of hsh))), rfl, Die.flockKill_kills _, fun k hk hst =>
        (Die.putAt_queued rfl k 2 _).2 ((s.die.sendDown_spreads 2 _).2 k hk hst)⟩
    · exact ⟨_, hact rfl (heq.trans (if_pos (s.die.isShepherd_of hsh))), rfl, Die.flockHalt_halts _, fun k hk hst =>
        (Die.putAt_queued rfl k 2 _).2 ((s.die.sendDown_spreads 2 _).2 k hk hst)⟩
    · refine ⟨_, hact rfl (heq.trans (if_pos (s.die.isShepherd_of hsh))),
        ⟨rfl, State.cancelAgreed_cancels s { s with die := s.die.sendDown 2 (flkMsg 12 s.die.epoch 0 []) } (s.die.sendDown_spreads 2 _).1⟩, fun k hk hst => ?_⟩
      exact (Die.putAt_queued (State.cancelAgreed_leaves _).2.1 k 2 _).2 ((s.die.sendDown_spreads 2 _).2 k hk hst)
    · exact ⟨_, hact rfl (heq.trans (if_pos (s.die.isShepherd_of hsh))), rfl, Die.flockRelease_releases _, fun k hk hst =>
        (Die.putAt_queued rfl k 2 _).2 ((s.die.sendDown_spreads 2 _).2 k hk hst)⟩
  · refine ⟨fun ⟨hok, hall, hupd⟩ => ?_, fun hno => ?_⟩
    · refine State.completes_dieCmd (f := writeDie src (blockAddr .FLK 0 0x010) (flkRoleW w.toNat)) rfl rfl ?_
      rw [writeDie_admitted hadm]
      exact ⟨rfl, flkRoleW_takes w.toNat s.die hok hall hupd⟩
    · refine State.completes_dieCmd (f := writeDie src (blockAddr .FLK 0 0x010) (flkRoleW w.toNat)) rfl rfl ?_
      rw [writeDie_admitted hadm, flkRoleW_refused w.toNat s.die hno]
      exact ⟨rfl, Die.get_put_apart _ _ _ _ _ (by decide), Die.get_put_apart _ _ _ _ _ (by decide), Die.on_flag_same R.FLK_STATUS_ROLE_REFUSED 0 true _ rfl⟩

end Sys2Proof.Machine
end

section
/-! SUPPORT. Joining a flock, its count and takeover (R456 to R461, R474). -/

namespace Sys2Proof.Machine

/-- The registers that say which links a device has and in which state: FLK_ROLE, FLK_STATUS and those of the lanes. -/
def linkKey (k : Nat) : Prop := k / 32 = 0x20010 ∨ k / 32 = 0x20800 ∨ (0x80000 ≤ k / 32 ∧ k / 32 < 0xC0000 ∧ k / 32 % 0x1000 ≠ 0xF00)

/-- What the flock's bookkeeping leaves: the engines' and the Larder's memory, the count, what the lanes hold, and the registers of the links, one field apart. -/
structure Die.linksKept (j : Nat) (d e : Die) : Prop where
  tiles : e.tiles = d.tiles
  rows : e.rows = d.rows
  dir : e.dir = d.dir
  fc : e.fc = d.fc
  lanes : ∀ l, (d.lane l).onward (e.lane l)
  regs : ∀ g i, linkKey (g.key i) → g.key i ≠ j → e.get g i = d.get g i

theorem Die.linksKept_refl (j : Nat) (d : Die) : d.linksKept j d := ⟨rfl, rfl, rfl, rfl, fun _ => Lane.onward_refl _, fun _ _ _ _ => rfl⟩

theorem Die.linksKept.trans {j : Nat} {a b c : Die} (h : a.linksKept j b) (k : b.linksKept j c) : a.linksKept j c :=
  ⟨k.tiles.trans h.tiles, k.rows.trans h.rows, k.dir.trans h.dir, k.fc.trans h.fc, fun l => (h.lanes l).trans (k.lanes l),
    fun g i hg hj => (k.regs g i hg hj).trans (h.regs g i hg hj)⟩

theorem Die.linksKept_foldl {α : Type} (j : Nat) (f : Die → α → Die) (hf : ∀ d x, Die.linksKept j d (f d x)) (l : List α) (d : Die) : d.linksKept j (l.foldl f d) := by
  induction l generalizing d with
  | nil => exact d.linksKept_refl j
  | cons x l ih => exact (hf d x).trans (ih _)

/-- Nothing that is not a lane, a register or one of the memories. -/
theorem Die.linksKept_of (j : Nat) {d e : Die} (ht : e.tiles = d.tiles) (hr : e.rows = d.rows) (hd : e.dir = d.dir) (hf : e.fc = d.fc) (hl : e.lanes = d.lanes)
    (hg : e.regs = d.regs) : d.linksKept j e :=
  ⟨ht, hr, hd, hf, fun l => by rw [Die.lane, Die.lane, hl]; exact Lane.onward_refl _, fun _ _ _ _ => Die.get_congr _ _ hg _ _⟩

theorem linkKey_report {k : Nat} (h : linkKey k) : reportWord (k / 32) = false := by
  unfold linkKey at h
  rcases h with h | h | h
  · rw [h]; rfl
  · rw [h]; rfl
  · exact reportWord_above (by omega) (.inl (by omega))

theorem Die.linksKept_report (j : Nat) {d e : Die} (h : d.report e) : d.linksKept j e := by
  refine ⟨?_, ?_, ?_, ?_, fun l => ?_, fun g i hg _ => h.2 g i (linkKey_report hg)⟩
  all_goals rw [h.1]
  exact Lane.onward_refl _

theorem Die.linksKept_put (j : Nat) (d : Die) (f : Fld) (i v : Nat) (h : ¬ linkKey (f.key i) ∨ f.key i = j) : d.linksKept j (d.put f i v) :=
  ⟨rfl, rfl, rfl, rfl, fun _ => Lane.onward_refl _, fun _ _ hg hj => Die.get_put_other _ _ _ _ _ _ fun hk => h.elim (fun hn => hn (hk ▸ hg)) (fun hj' => hj (hk.trans hj'))⟩

theorem Die.lineOnly.linksKept {d e : Die} (h : d.lineOnly e) (j : Nat) : d.linksKept j e := by
  refine ⟨?_, ?_, ?_, ?_, h.lanes, fun g i _ _ => Die.get_congr _ _ h.regs _ _⟩
  all_goals rw [h.frame]

theorem Die.linksKept_recheck (j : Nat) (d : Die) : d.linksKept j d.recheck := by
  have h := d.rechecked_recheck
  refine ⟨?_, ?_, ?_, ?_, fun l => ?_, fun g i hg _ => h.2 g i (linkKey_report hg) ?_ ?_⟩
  · exact (congrArg Die.tiles h.1).trans rfl
  · exact (congrArg Die.rows h.1).trans rfl
  · exact (congrArg Die.dir h.1).trans rfl
  · exact (congrArg Die.fc h.1).trans rfl
  · rw [Die.lane, Die.lane, (congrArg Die.lanes h.1).trans rfl]
    exact Lane.onward_refl _
  · unfold linkKey at hg; omega
  · unfold linkKey at hg; omega

/-- The end of an update leaves the links (R320, R469). -/
theorem Die.linksKept_sendDigest (j : Nat) (x : UpdCtx) (step : Nat) (d : Die) : d.linksKept j (d.sendDigest x step) := by
  unfold Die.sendDigest
  split
  · exact (Die.linksKept_of j (d := d) (e := d.onUpd x.e (fun y => { y with sentWd := KMap.set none y.sentWd step (some y.wd) })) rfl rfl rfl rfl rfl rfl).trans
      ((Die.lineOnly_sendUp _ _ _ _).linksKept j)
  · exact d.linksKept_refl j

theorem Die.linksKept_updPacket (j : Nat) (x : UpdCtx) (hp : x.p < 64) (r : UpdRun) (outcome : Nat) (d : Die) : d.linksKept j (d.updPacket x r outcome) := by
  unfold Die.updPacket
  dsimp only
  have htrace (k : Pkt) (hk : k.known) : d.linksKept j (d.trace k) := Die.linksKept_report j (Die.report_trace k hk d)
  have hknown : ∀ body, Pkt.known ⟨4, true, 7, x.e, some x.p, body⟩ := fun _ q hq => by injection hq with hq; omega
  split
  · exact (htrace _ (hknown _)).trans (Die.linksKept_of j rfl rfl rfl rfl rfl rfl)
  · exact htrace _ (hknown _)

theorem not_linkKey_upd (f : Fld) (e : Nat) (h : 0x140000 ≤ f.base) : ¬ linkKey (f.key e) := by
  unfold linkKey Fld.key
  omega

theorem Die.linksKept_ite (j : Nat) {c : Prop} [Decidable c] {d e f : Die} (h : d.linksKept j e) (k : d.linksKept j f) : d.linksKept j (if c then e else f) := by
  split
  · exact h
  · exact k

theorem Die.linksKept_updStop (j : Nat) (x : UpdCtx) (hp : x.p < 64) (frozen : Bool) (outcome : Nat) (d : Die) : d.linksKept j (d.updStop x frozen outcome) := by
  unfold Die.updStop
  split
  · exact d.linksKept_refl j
  · next r _ =>
    dsimp only
    generalize (if ((d.onUpd x.e (fun y => { y with run := none })).updSt x.e).pend.isSome then 6 else 0) = v
    have hrun : d.linksKept j (d.onUpd x.e (fun y => { y with run := none })) := Die.linksKept_of j rfl rfl rfl rfl rfl rfl
    have hphase := hrun.trans (Die.linksKept_put j _ R.UPD_STATUS_PHASE x.e v (.inl (not_linkKey_upd _ _ (by decide))))
    have hcount := hphase.trans (Die.linksKept_report j (Die.report_count (if outcome = 4 then T.UPD_UPD_LATE_COMMIT else T.UPD_UPD_ABANDON) x.e _))
    have hfrozen := hcount.trans (Die.linksKept_ite (c := frozen = true) j
      (Die.linksKept_put j _ R.UPD_STATUS_STATE x.e 3 (.inl (not_linkKey_upd _ _ (by decide)))) (Die.linksKept_refl j _))
    have hpacket := hfrozen.trans (Die.linksKept_updPacket j x hp r outcome _)
    exact hpacket.trans (Die.linksKept_ite j (Die.linksKept_sendDigest j x r.flip _) (Die.linksKept_refl j _))

/-- A device that adopts an epoch keeps its links, and its epoch is the greater (R474). -/
theorem Die.adoptEpoch_adopts (ep : Nat) (hep : ep < 2 ^ 16) (d : Die) : d.linksKept (R.FLK_STATUS_EPOCH.key 0) (d.adoptEpoch ep)
    ∧ (d.adoptEpoch ep).epoch = max d.epoch ep := by
  unfold Die.adoptEpoch
  split
  · next hlt =>
    dsimp only
    generalize hx : (d.put R.FLK_STATUS_EPOCH 0 ep).onFlk (fun k => { k with reduction := none, digests := [] }) = x
    have hput : d.linksKept (R.FLK_STATUS_EPOCH.key 0) x := by
      rw [← hx]
      exact (Die.linksKept_put _ d R.FLK_STATUS_EPOCH 0 ep (.inr rfl)).trans (Die.linksKept_of _ rfl rfl rfl rfl rfl rfl)
    have hepoch : x.epoch = ep := by
      rw [← hx]
      exact (Die.get_put_same _ _ _ _).trans (Nat.mod_eq_of_lt hep)
    clear hx
    have hstep (d : Die) (e : Nat) (j : Nat) : Die.linksKept j d (match d.updCtx e with
        | some x => if x.u.flock && d.get R.UPD_STATUS_PHASE e == 3 then d.updStop x false 2 else d
        | none => d) := by
      split
      · next y hy => exact Die.linksKept_ite j (Die.linksKept_updStop j y (Die.updCtx_spec hy).2.1 false 2 d) (d.linksKept_refl j)
      · exact d.linksKept_refl j
    refine ⟨hput.trans (Die.linksKept_foldl _ _ (fun d e => hstep d e _) _ _), ?_⟩
    have hall := Die.linksKept_foldl 0 (fun (d : Die) e => match d.updCtx e with
        | some x => if x.u.flock && d.get R.UPD_STATUS_PHASE e == 3 then d.updStop x false 2 else d
        | none => d) (fun d e => hstep d e _) (List.range 8) x
    refine (hall.regs R.FLK_STATUS_EPOCH 0 (.inr (.inl (by decide))) (by decide)).trans ?_
    change x.epoch = _
    rw [hepoch]
    omega
  · next hge => exact ⟨d.linksKept_refl _, by omega⟩

theorem msgEpoch_lt (m : List Byte) : msgEpoch m < 2 ^ 16 := by
  have htake : leNat (slice m 2 2) = leNat (m.drop 2) % 256 ^ 2 := (leNat_take 2 (m.drop 2)).symm
  rw [msgEpoch, htake]
  exact Nat.mod_lt _ (by decide)

/-- A message that takes its place on a lane: what is left of it, and what the memories hold. -/
theorem State.takes_of {s : State} {c : Instr} {l cls : Nat} {e : Die} {P : Die → Prop} (j : Nat) (hc : exec c s = .next { s with die := e })
    (h : (s.die.dropMsg l cls).linksKept j e) (hP : P e) : s.takes c l cls P :=
  ⟨_, hc, rfl, ((h.lanes l).rel cls).1.trans (s.die.dropMsg_drops l cls).1, h.tiles, h.rows, h.dir, hP⟩

/-- A message from a lane that has no business here is dropped and counted (R456). -/
theorem msgCmd_bad (down : Bool) (cls type l : Nat) (f : List Byte → State → State) (s : State) (m : List Byte) (h : s.die.brings l cls type m)
    (hl : (if down then s.die.parentLanes.contains l else s.die.childLanes.contains l) = false) :
    msgCmd down cls type l f s = .next { s with die := (s.die.dropMsg l cls).count T.FLK_MSG_BAD 0 } := by
  have hgo : msgCmd down cls type l f s = .next (match s.die.msgOf l cls type with
    | none => s
    | some m =>
      if (if down then (s.die.dropMsg l cls).parentLanes.contains l else (s.die.dropMsg l cls).childLanes.contains l) then f m { s with die := s.die.dropMsg l cls }
      else { s with die := (s.die.dropMsg l cls).count T.FLK_MSG_BAD 0 }) := if_pos (decide_eq_true h.1)
  rw [hgo, h.2]
  exact congrArg Host.Outcome.next (if_neg (fun hn => Bool.noConfusion (hl.symm.trans hn)))

theorem Die.putLine_otherLane (l j : Nat) (h : j ≠ l) (s : Nat) (syms : List Sym) (d : Die) : (d.putLine l s syms).lane j = d.lane j := by
  change ((d.onLane l (fun y => { y with rdTx := _, lineEnd := _ })).lane j) = _
  exact d.lane_onLane_other l j _ h

/-- The items of a lane's line are its own, and so is what they change (R438). -/
theorem Die.lineTurn_otherLane (l j : Nat) (h : j ≠ l) (d : Die) : (d.lineTurn l).lane j = d.lane j := by
  have hitem (s : Nat) (syms : List Sym) (e : Die) (he : d.nextItem l s = some (syms, e)) : e.lane j = d.lane j := by
    unfold Die.nextItem at he
    extract_lets x wc lane rel sync src loft at he
    have hlane (r : Option (List Sym × Lane)) (y : List Sym × Die) (hy : lane r = some y) : y.2.lane j = d.lane j := by
      obtain ⟨z, -, rfl⟩ := Option.map_eq_some_iff.1 hy
      exact d.lane_onLane_other l j _ h
    have hloft (y : List Sym × Die) (hy : loft = some y) : y.2.lane j = d.lane j := by
      rw [Option.ite_none_right_eq_some] at hy
      obtain ⟨z, -, rfl⟩ := Option.map_eq_some_iff.1 hy.2
      exact d.lane_onLane_other l j (fun _ => (x.sNow 61 z.2).2) h
    have hif (b : Bool) (o : Option (List Sym × Die)) (ho : ∀ y, o = some y → y.2.lane j = d.lane j) (y : List Sym × Die) (hy : (if b then o else none) = some y) :
        y.2.lane j = d.lane j := by
      rw [Option.ite_none_right_eq_some] at hy
      exact ho y hy.2
    obtain ⟨o, ho, hsome⟩ := List.exists_of_findSome?_eq_some he
    simp only [List.mem_cons, List.not_mem_nil, or_false] at ho
    obtain rfl : o = some (syms, e) := hsome
    rcases ho with ho | ho | ho | ho | ho | ho | ho
    · exact hif _ _ (hlane _) _ ho.symm
    · exact hif _ _ (hlane _) _ ho.symm
    · exact hif _ _ (hlane _) _ ho.symm
    · exact hloft _ ho.symm
    · exact hlane _ _ ho.symm
    · exact hlane _ _ ho.symm
    · exact hif _ _ (hlane _) _ ho.symm
  unfold Die.lineTurn
  dsimp only
  split
  · split
    · rfl
    · next syms e he =>
      split
      · exact (Die.putLine_otherLane l j h _ _ e).trans (hitem _ _ _ he)
      · rfl
  · rfl

theorem Die.sendRel_otherLane (l cls j : Nat) (h : j ≠ l) (m : List Byte) (d : Die) : (d.sendRel l cls m).lane j = d.lane j :=
  (Die.lineTurn_otherLane l j h _).trans (d.lane_onLane_other l j _ h)

/-- What a line's turn changes of a die whose lanes and flock alone have changed. -/
theorem Die.lineOnly.after {d x e : Die} (h : x.lineOnly e) (hx : x = { d with lanes := x.lanes, flk := x.flk }) :
    e = { d with lanes := e.lanes, flk := e.flk, emits := e.emits, ports := e.ports, loft := e.loft } := by
  have hflk : e.flk = x.flk := by rw [h.frame]
  have hf := h.frame
  rw [hflk]
  rw [hx] at hf
  exact hf

/-- What a parent keeps of a child that asks to join (R459). -/
def Child.answered (r : Nat) (b : List Byte) (c : Child) : Child :=
  if r = 1 then { c with joined := true, role := (byteAt b 8).toNat, images := ((List.range 8).map (fun i => leNat (slice b (24 + 4 * i) 4))).filter (· != 0) }
  else { c with joined := false }

/-- The die with a child's answer kept. -/
def Die.joinKept (l : Nat) (b : List Byte) (d : Die) : Die :=
  d.onFlk (fun k => { k with kids := KMap.upd {} k.kids l (Child.answered (d.joinResult l b) b) })

/-- What JOIN does at its parent (R459). -/
def State.joinAct (l : Nat) (m : List Byte) (s : State) : State :=
  { s with die := (s.die.joinKept l (msgBody m)).sendRel l 1 (flkMsg 2 (s.die.joinKept l (msgBody m)).epoch 0 (leBytes 4 (s.die.joinResult l (msgBody m)))) }

/-- JOIN (R459). -/
theorem State.join_joins (s : State) (l : Nat) (m : List Byte) (h : s.die.brings l 1 1 m) (hl : l ∈ s.die.childLanes) :
    ∃ e : Die, exec (.join l) s = .next { s with die := e } ∧ (s.die.dropMsg l 1).linksKept 0 e
      ∧ e.queued l 1 (flkMsg 2 s.die.epoch 0 (leBytes 4 (s.die.joinResult l (msgBody m))))
      ∧ (s.die.joinResult l (msgBody m) = 1 → (KMap.get {} e.flk.kids l).joined = true ∧ (KMap.get {} e.flk.kids l).role = (byteAt (msgBody m) 8).toNat)
      ∧ (s.die.joinResult l (msgBody m) ≠ 1 → (KMap.get {} e.flk.kids l).joined = false)
      ∧ e = { s.die with lanes := e.lanes, flk := e.flk, emits := e.emits, ports := e.ports, loft := e.loft }
      ∧ ∀ k, k ≠ l → KMap.get {} e.flk.kids k = KMap.get {} s.die.flk.kids k ∧ e.lane k = s.die.lane k := by
  have hact : exec (.join l) s = msgCmd false 1 1 l (State.joinAct l) s := rfl
  have hres : (s.die.dropMsg l 1).joinResult l (msgBody m) = s.die.joinResult l (msgBody m) := rfl
  have hexec := hact.trans (msgCmd_takes false 1 1 l (State.joinAct l) s m h (by simpa using hl))
  unfold State.joinAct at hexec
  dsimp only at hexec
  obtain ⟨x, hx⟩ : ∃ x, (s.die.dropMsg l 1).joinKept l (msgBody m) = x := ⟨_, rfl⟩
  have hkeep : (s.die.dropMsg l 1).linksKept 0 x := by rw [← hx]; exact Die.linksKept_of 0 rfl rfl rfl rfl rfl rfl
  have hkids : x.flk.kids = KMap.upd {} s.die.flk.kids l (Child.answered (s.die.joinResult l (msgBody m)) (msgBody m)) := by rw [← hx]; rfl
  have hepoch : x.epoch = s.die.epoch := by rw [← hx]; rfl
  have hframe : x = { s.die with lanes := x.lanes, flk := x.flk } := by rw [← hx]; rfl
  have hlane (k : Nat) (hk : k ≠ l) : x.lane k = s.die.lane k := by rw [← hx]; exact s.die.lane_onLane_other l k _ hk
  rw [hx, hres, hepoch] at hexec
  generalize s.die.joinResult l (msgBody m) = r at hexec hkids ⊢
  obtain ⟨hline, hq⟩ := x.sendRel_sends l 1 (flkMsg 2 s.die.epoch 0 (leBytes 4 r))
  have hflk : (x.sendRel l 1 (flkMsg 2 s.die.epoch 0 (leBytes 4 r))).flk = x.flk := by rw [hline.frame]
  refine ⟨_, hexec, hkeep.trans (hline.linksKept 0), hq, fun h1 => ?_, fun h1 => ?_, ?_, fun k hk => ⟨?_, ?_⟩⟩
  · rw [hflk, hkids, KMap.get_upd_same, Child.answered, if_pos h1]
    exact ⟨rfl, rfl⟩
  · rw [hflk, hkids, KMap.get_upd_same, Child.answered, if_neg h1]
  · exact hline.after hframe
  · rw [hflk, hkids, KMap.get_upd_other _ _ _ _ _ hk]
  · rw [x.sendRel_otherLane l 1 k hk, hlane k hk]

/-- What a child does on WELCOME (R459, R461). -/
def Die.welcomed (m : List Byte) (r : Nat) (d : Die) : Die :=
  let d := (d.put R.FLK_STATUS_JOIN_RESULT 0 r).recheck
  let d := if r = 1 then (d.adoptEpoch (msgEpoch m)).refBack else d
  if r = 1 then
    (if d.get R.FLK_STATUS_STATE = 1 then (d.put R.FLK_STATUS_STATE 0 2).onFlk (fun k => { k with good := 0, bad := 0, miss := 0, lastSync := none }) else d)
  else d.put R.FLK_STATUS_STATE 0 1

/-- WELCOME's effect at the device (R459). -/
def State.welcomeAct (l : Nat) (m : List Byte) (s : State) : State :=
  if s.die.flk.refused ∨ s.die.parentLane ≠ some l then s else { s with die := s.die.welcomed m (bits (leNat (slice m 8 1)) 0 4) }

theorem Die.linksKept.status {j : Nat} {d e : Die} (h : d.linksKept j e) (f : Fld) (hf : f.key 0 / 32 = 0x20800) (hj : f.key 0 ≠ j) : e.get f = d.get f :=
  h.regs f 0 (.inr (.inl hf)) hj

/-- The answer to a JOIN is kept, and its epoch and state with it (R459, R461). -/
theorem Die.welcomed_keeps (m : List Byte) (r : Nat) (hr : r < 16) (d : Die) :
    (d.welcomed m r).tiles = d.tiles ∧ (d.welcomed m r).rows = d.rows ∧ (d.welcomed m r).dir = d.dir ∧ (∀ l, (d.lane l).onward ((d.welcomed m r).lane l))
    ∧ (d.welcomed m r).get R.FLK_STATUS_JOIN_RESULT = r
    ∧ (d.welcomed m r).get R.FLK_STATUS_STATE = (if r ≠ 1 then 1 else if d.get R.FLK_STATUS_STATE = 1 then 2 else d.get R.FLK_STATUS_STATE)
    ∧ (d.welcomed m r).epoch = (if r = 1 ∧ d.epoch < msgEpoch m then msgEpoch m else d.epoch) := by
  obtain ⟨x, hx⟩ : ∃ x, (d.put R.FLK_STATUS_JOIN_RESULT 0 r).recheck = x := ⟨_, rfl⟩
  have hjoined : d.linksKept (R.FLK_STATUS_JOIN_RESULT.key 0) x := by
    rw [← hx]
    exact (Die.linksKept_put _ d _ 0 r (.inr rfl)).trans (Die.linksKept_recheck _ _)
  have hxj : x.get R.FLK_STATUS_JOIN_RESULT = r := by
    rw [← hx, (Die.linksKept_recheck 0 (d.put R.FLK_STATUS_JOIN_RESULT 0 r)).status _ (by decide) (by decide), Die.get_put_same]
    exact Nat.mod_eq_of_lt hr
  have hxs : x.get R.FLK_STATUS_STATE = d.get R.FLK_STATUS_STATE := hjoined.status _ (by decide) (by decide)
  have hxe : x.epoch = d.epoch := hjoined.status R.FLK_STATUS_EPOCH (by decide) (by decide)
  by_cases h1 : r = 1
  · obtain ⟨y, hy⟩ : ∃ y, (x.adoptEpoch (msgEpoch m)).refBack = y := ⟨_, rfl⟩
    obtain ⟨hadopt, hepoch⟩ := x.adoptEpoch_adopts (msgEpoch m) (msgEpoch_lt m)
    have hback (e : Die) (j : Nat) : e.linksKept j e.refBack := Die.linksKept_ite j (e.linksKept_refl j) (Die.linksKept_of j rfl rfl rfl rfl rfl rfl)
    have hkept : x.linksKept (R.FLK_STATUS_EPOCH.key 0) y := by rw [← hy]; exact hadopt.trans (hback _ _)
    have hye : y.epoch = max x.epoch (msgEpoch m) := by
      rw [← hy, ← hepoch]
      exact (hback (x.adoptEpoch (msgEpoch m)) 0).status R.FLK_STATUS_EPOCH (by decide) (by decide)
    have hyj : y.get R.FLK_STATUS_JOIN_RESULT = r := (hkept.status _ (by decide) (by decide)).trans hxj
    have hys : y.get R.FLK_STATUS_STATE = d.get R.FLK_STATUS_STATE := (hkept.status _ (by decide) (by decide)).trans hxs
    have hdef : d.welcomed m r = if y.get R.FLK_STATUS_STATE = 1 then
        (y.put R.FLK_STATUS_STATE 0 2).onFlk (fun k => { k with good := 0, bad := 0, miss := 0, lastSync := none }) else y := by
      unfold Die.welcomed
      dsimp only
      rw [hx, if_pos h1, if_pos h1, hy]
    have hfinal : y.linksKept (R.FLK_STATUS_STATE.key 0) (d.welcomed m r) := by
      rw [hdef]
      exact Die.linksKept_ite _ ((Die.linksKept_put _ y _ 0 2 (.inr rfl)).trans (Die.linksKept_of _ rfl rfl rfl rfl rfl rfl)) (y.linksKept_refl _)
    refine ⟨hfinal.tiles.trans (hkept.tiles.trans hjoined.tiles), hfinal.rows.trans (hkept.rows.trans hjoined.rows), hfinal.dir.trans (hkept.dir.trans hjoined.dir),
      fun l => ((hjoined.lanes l).trans (hkept.lanes l)).trans (hfinal.lanes l), (hfinal.status _ (by decide) (by decide)).trans hyj, ?_, ?_⟩
    · rw [if_neg (not_not_intro h1), hdef, ← hys]
      split
      · exact (Die.get_put_same y R.FLK_STATUS_STATE 0 2).trans rfl
      · rfl
    · refine (hfinal.status R.FLK_STATUS_EPOCH (by decide) (by decide)).trans ?_
      change y.epoch = _
      rw [hye, hxe]
      split <;> omega
  · have hdef : d.welcomed m r = x.put R.FLK_STATUS_STATE 0 1 := by
      unfold Die.welcomed
      dsimp only
      rw [hx, if_neg h1, if_neg h1]
    have hfinal : x.linksKept (R.FLK_STATUS_STATE.key 0) (d.welcomed m r) := by
      rw [hdef]
      exact Die.linksKept_put _ x _ 0 1 (.inr rfl)
    refine ⟨hfinal.tiles.trans hjoined.tiles, hfinal.rows.trans hjoined.rows, hfinal.dir.trans hjoined.dir, fun l => (hjoined.lanes l).trans (hfinal.lanes l),
      (hfinal.status _ (by decide) (by decide)).trans hxj, ?_, ?_⟩
    · rw [if_pos h1, hdef, Die.get_put_same]
      rfl
    · rw [if_neg (fun h => h1 h.1)]
      exact (hfinal.status R.FLK_STATUS_EPOCH (by decide) (by decide)).trans hxe

/-- WELCOME (R459, R461). -/
theorem State.welcome_takes (s : State) (l : Nat) (m : List Byte) (h : s.die.brings l 1 2 m) (hl : l ∈ s.die.parentLanes) (hp : s.die.parentLane = some l)
    (hr : s.die.flk.refused = false) : s.takes (.welcome l) l 1 (fun e =>
      e.get R.FLK_STATUS_JOIN_RESULT = leNat (slice m 8 1) % 16
      ∧ e.get R.FLK_STATUS_STATE = (if leNat (slice m 8 1) % 16 ≠ 1 then 1 else if s.die.get R.FLK_STATUS_STATE = 1 then 2 else s.die.get R.FLK_STATUS_STATE)
      ∧ e.epoch = (if leNat (slice m 8 1) % 16 = 1 ∧ s.die.epoch < msgEpoch m then msgEpoch m else s.die.epoch)) := by
  have hact : exec (.welcome l) s = msgCmd true 1 2 l (State.welcomeAct l) s := rfl
  have hexec := hact.trans (msgCmd_takes true 1 2 l (State.welcomeAct l) s m h (by simpa using hl))
  have hbits : bits (leNat (slice m 8 1)) 0 4 = leNat (slice m 8 1) % 16 := by
    rw [bits, Nat.pow_zero, Nat.div_one]
    rfl
  have hgo : State.welcomeAct l m { s with die := s.die.dropMsg l 1 } = { s with die := (s.die.dropMsg l 1).welcomed m (leNat (slice m 8 1) % 16) } := by
    rw [← hbits]
    refine if_neg ?_
    rintro (h1 | h1)
    · change s.die.flk.refused = true at h1
      rw [hr] at h1
      cases h1
    · exact h1 hp
  rw [hgo] at hexec
  obtain ⟨htiles, hrows, hdir, hlanes, hjoin, hstate, hepoch⟩ := (s.die.dropMsg l 1).welcomed_keeps m (leNat (slice m 8 1) % 16) (Nat.mod_lt _ (by decide))
  exact ⟨_, hexec, rfl, ((hlanes l).rel 1).1.trans (s.die.dropMsg_drops l 1).1, htiles, hrows, hdir, hjoin, hstate, hepoch⟩

/-- What says which link leads to the parent (R454, R474). -/
structure Die.sameParent (d e : Die) : Prop where
  role : e.role = d.role
  level : e.level = d.level
  tail : e.isTail = d.isTail
  state : e.get R.FLK_STATUS_STATE = d.get R.FLK_STATUS_STATE
  lanes : ∀ l, e.laneState l = d.laneState l
  kids : e.flk.kids = d.flk.kids
  parent : e.flk.parent = d.flk.parent

theorem Die.sameParent.parentLanes {d e : Die} (h : d.sameParent e) : e.parentLanes = d.parentLanes := by
  unfold Die.parentLanes
  rw [h.role, h.level, h.tail]

theorem Die.sameParent.childLanes {d e : Die} (h : d.sameParent e) : e.childLanes = d.childLanes := by
  unfold Die.childLanes Die.isTop
  rw [h.role, h.level, h.tail]

theorem Die.sameParent.parentLane {d e : Die} (h : d.sameParent e) : e.parentLane = d.parentLane := by
  have hlanes : e.laneState = d.laneState := funext h.lanes
  unfold Die.parentLane
  rw [h.parentLanes, h.role, h.state, h.kids, h.parent, hlanes]

/-- A field outside FLK_ROLE, FLK_STATUS and the lanes' LNK_STATUS. -/
theorem Die.sameParent_put (d : Die) (f : Fld) (v : Nat) (h : f.key 0 / 32 = 0x20800) (hs : f.key 0 ≠ R.FLK_STATUS_STATE.key 0) : d.sameParent (d.put f 0 v) := by
  have hget (g : Fld) (hg : g.key 0 / 32 ≠ 0x20800) : (d.put f 0 v).get g = d.get g := Die.get_put_other _ _ _ _ _ _ (fun hk => hg (by rw [hk, h]))
  refine ⟨hget R.FLK_ROLE_ROLE (by decide), hget R.FLK_ROLE_LEVEL (by decide), ?_, Die.get_put_other _ _ _ _ _ _ (fun hk => hs hk.symm), fun l => ?_, rfl, rfl⟩
  · rw [Die.isTail, Die.isTail, Die.on, Die.on, hget _ (by decide)]
  · refine Die.get_put_other _ _ _ _ _ _ (fun hk => ?_)
    have hl : R.LNK_STATUS_STATE.key l / 32 = 0x80800 + l * 0x1000 := by simp only [Fld.key, R.LNK_STATUS_STATE]; omega
    rw [hk, h] at hl
    omega

/-- A device that asks again sends its JOIN up (R459). -/
theorem Die.sendJoin_asks (fu : Fused) (d : Die) (l : Nat) (hs : d.get R.FLK_STATUS_STATE = 1) (hr : d.flk.refused = false) (hp : d.parentLane = some l) :
    d.sendJoin fu = { d with lanes := (d.sendJoin fu).lanes, regs := (d.sendJoin fu).regs, emits := (d.sendJoin fu).emits, ports := (d.sendJoin fu).ports
                             loft := (d.sendJoin fu).loft }
    ∧ (d.sendJoin fu).queued l 1 (flkMsg 1 d.epoch 0 (d.joinBody fu)) := by
  obtain ⟨x, hx⟩ : ∃ x, d.put R.FLK_STATUS_STATE 0 1 = x := ⟨_, rfl⟩
  have hxs : x.get R.FLK_STATUS_STATE = d.get R.FLK_STATUS_STATE := by rw [← hx, Die.get_put_same, hs]; rfl
  have hget (g : Fld) (i : Nat) (hg : g.key i ≠ R.FLK_STATUS_STATE.key 0) : x.get g i = d.get g i := by rw [← hx]; exact Die.get_put_other _ _ _ _ _ _ hg
  have hframe : x = { d with regs := x.regs } := by rw [← hx]; rfl
  have hrole : x.role = d.role := hget R.FLK_ROLE_ROLE 0 (by decide)
  have hlevel : x.level = d.level := hget R.FLK_ROLE_LEVEL 0 (by decide)
  have htail : x.isTail = d.isTail := by rw [Die.isTail, Die.isTail, Die.on, Die.on, hget _ 0 (by decide)]
  have hparent : x.parentLane = some l := by
    refine Eq.trans (Die.sameParent.parentLane ⟨hrole, hlevel, htail, hxs, fun k => hget _ _ (fun hk => ?_), by rw [hframe], by rw [hframe]⟩) hp
    have hl : R.LNK_STATUS_STATE.key k / 32 = 0x80800 + k * 0x1000 := by simp only [Fld.key, R.LNK_STATUS_STATE]; omega
    rw [hk, show R.FLK_STATUS_STATE.key 0 / 32 = 0x20800 from rfl] at hl
    omega
  have hepoch : x.epoch = d.epoch := hget R.FLK_STATUS_EPOCH 0 (by decide)
  have hsub : x.subtreeImages = d.subtreeImages := by rw [hframe]; rfl
  have hfc : x.fc = d.fc := by rw [hframe]
  have hbody : x.joinBody fu = d.joinBody fu := by
    unfold Die.joinBody
    rw [hrole, hlevel, htail, hget R.FLK_ADDR_ADDR 0 (by decide), hsub, hfc]
  have hdef : d.sendJoin fu = x.sendRel l 1 (flkMsg 1 d.epoch 0 (d.joinBody fu)) := by
    unfold Die.sendJoin
    rw [if_neg (by rw [hr]; exact Bool.false_ne_true)]
    dsimp only
    rw [if_neg (by rw [hs]; decide), hx, Die.sendUp, hparent, hepoch, hbody]
  obtain ⟨hline, hq⟩ := x.sendRel_sends l 1 (flkMsg 1 d.epoch 0 (d.joinBody fu))
  rw [hdef]
  refine ⟨?_, hq⟩
  have hregs : (x.sendRel l 1 (flkMsg 1 d.epoch 0 (d.joinBody fu))).regs = x.regs := hline.regs
  generalize x.sendRel l 1 (flkMsg 1 d.epoch 0 (d.joinBody fu)) = e at hline hregs
  have hf := hline.frame
  rw [hregs]
  rw [hframe] at hf
  exact hf

/-- What a lane's line gives to the outside only grows. -/
def Die.emitsMore (d e : Die) : Prop := ∃ es, e.emits = d.emits ++ es

theorem Die.emitsMore_refl (d : Die) : d.emitsMore d := ⟨[], (List.append_nil _).symm⟩

theorem Die.emitsMore.trans {a b c : Die} (h : a.emitsMore b) (k : b.emitsMore c) : a.emitsMore c := by
  obtain ⟨x, hx⟩ := h
  obtain ⟨y, hy⟩ := k
  exact ⟨x ++ y, by rw [hy, hx, List.append_assoc]⟩

theorem Die.nextItem_emits (l s : Nat) (d e : Die) (syms : List Sym) (he : d.nextItem l s = some (syms, e)) : e.emits = d.emits := by
  unfold Die.nextItem at he
  extract_lets x wc lane rel sync src loft at he
  have hlane (r : Option (List Sym × Lane)) (y : List Sym × Die) (hy : lane r = some y) : y.2.emits = d.emits := by
    obtain ⟨z, -, rfl⟩ := Option.map_eq_some_iff.1 hy
    rfl
  have hloft (y : List Sym × Die) (hy : loft = some y) : y.2.emits = d.emits := by
    rw [Option.ite_none_right_eq_some] at hy
    obtain ⟨z, -, rfl⟩ := Option.map_eq_some_iff.1 hy.2
    rfl
  have hif (b : Bool) (o : Option (List Sym × Die)) (ho : ∀ y, o = some y → y.2.emits = d.emits) (y : List Sym × Die) (hy : (if b then o else none) = some y) :
      y.2.emits = d.emits := by
    rw [Option.ite_none_right_eq_some] at hy
    exact ho y hy.2
  obtain ⟨o, ho, hsome⟩ := List.exists_of_findSome?_eq_some he
  simp only [List.mem_cons, List.not_mem_nil, or_false] at ho
  obtain rfl : o = some (syms, e) := hsome
  rcases ho with ho | ho | ho | ho | ho | ho | ho
  · exact hif _ _ (hlane _) _ ho.symm
  · exact hif _ _ (hlane _) _ ho.symm
  · exact hif _ _ (hlane _) _ ho.symm
  · exact hloft _ ho.symm
  · exact hlane _ _ ho.symm
  · exact hlane _ _ ho.symm
  · exact hif _ _ (hlane _) _ ho.symm

theorem Die.lineTurn_emitsMore (l : Nat) (d : Die) : d.emitsMore (d.lineTurn l) := by
  unfold Die.lineTurn
  dsimp only
  split
  · split
    · exact d.emitsMore_refl
    · next syms e he =>
      split
      · have hput : ∃ x, (e.putLine l (d.boundary 2 l (d.lane l).lineEnd (max d.now21 (KMap.get {} d.ports (128 + l)).busyTo)) syms).emits = e.emits ++ [x] := ⟨_, rfl⟩
        obtain ⟨x, hx⟩ := hput
        exact ⟨[x], by rw [hx, Die.nextItem_emits _ _ _ _ _ he]⟩
      · exact d.emitsMore_refl
  · exact d.emitsMore_refl

/-- A frame of channel 63 goes onto the line first, or waits there (R438, R457). -/
def Die.syncOut (d e : Die) (l : Nat) (body : List Byte) : Prop :=
  ((63, body) ∈ (e.lane l).sWaits ∧ KMap.get 0 (e.lane l).sNext 63 = KMap.get 0 (d.lane l).sNext 63)
  ∨ (KMap.get 0 (e.lane l).sNext 63 = (KMap.get 0 (d.lane l).sNext 63 + 1) % 256
      ∧ ∃ i rd, Emit.line l i (packWords (encodeSyms rd (sSyms 63 (KMap.get 0 (d.lane l).sNext 63) body)).1) ∈ e.emits)

theorem Die.nextItem_sync (l s : Nat) (d : Die) (body : List Byte) (rest : List (Nat × List Byte)) (h : (d.lane l).sWaits = (63, body) :: rest) :
    d.nextItem l s = some (sSyms 63 (KMap.get 0 (d.lane l).sNext 63) body,
      d.onLane l (fun _ => (({ d.lane l with sWaits := rest } : Lane).sNow 63 body).2)) := by
  unfold Die.nextItem
  extract_lets x wc lane rel sync src loft
  have hsync : sync = some (sSyms 63 (KMap.get 0 (d.lane l).sNext 63) body, d.onLane l (fun _ => (({ d.lane l with sWaits := rest } : Lane).sNow 63 body).2)) := by
    have hany : x.sWaits.any (fun y => y.1 == 63) = true := by
      change (d.lane l).sWaits.any (fun y => y.1 == 63) = true
      rw [h]
      rfl
    have hfirst : x.sFirst? = some (({ d.lane l with sWaits := rest } : Lane).sNow 63 body) := by
      change (d.lane l).sFirst? = _
      unfold Lane.sFirst?
      rw [h]
    change (if x.sWaits.any (fun y => y.1 == 63) then lane x.sFirst? else none) = _
    rw [if_pos hany, hfirst]
    rfl
  rw [hsync]
  rfl

/-- What a frame on a line leaves of its lane, and gives to the outside. -/
theorem Die.putLine_puts (l s : Nat) (syms : List Sym) (d : Die) : ∃ rd i,
    ((d.putLine l s syms).lane l).sNext = (d.lane l).sNext ∧ (d.putLine l s syms).emits = d.emits ++ [.line l i (packWords (encodeSyms rd syms).1)] := by
  refine ⟨_, _, ?_, rfl⟩
  change ((d.onLane l (fun y => { y with rdTx := _, lineEnd := _ })).lane l).sNext = _
  rw [Die.lane_onLane_same]

theorem Die.sendS_sync (l : Nat) (body : List Byte) (d : Die) : d.syncOut (d.sendS l 63 body) l body := by
  unfold Die.sendS
  obtain ⟨x, hx⟩ : ∃ x, d.onLane l (fun x => { x with sWaits := if 63 = 63 then (63, body) :: x.sWaits else x.sWaits ++ [(63, body)] }) = x := ⟨_, rfl⟩
  rw [hx]
  have hlane : x.lane l = { d.lane l with sWaits := (63, body) :: (d.lane l).sWaits } := by
    rw [← hx]
    exact d.lane_onLane_same l _
  have hstay : d.syncOut x l body := by
    refine .inl ⟨?_, ?_⟩
    · rw [hlane]; exact List.mem_cons_self
    · rw [hlane]
  have hitem (s : Nat) := Die.nextItem_sync l s x body (d.lane l).sWaits (by rw [hlane])
  unfold Die.lineTurn
  dsimp only
  split
  · rw [hitem]
    dsimp only
    split
    · generalize x.boundary 2 l (x.lane l).lineEnd (max x.now21 (KMap.get {} x.ports (128 + l)).busyTo) = b
      obtain ⟨rd, i, hl, he⟩ := Die.putLine_puts l b (sSyms 63 (KMap.get 0 (x.lane l).sNext 63) body)
        (x.onLane l (fun _ => (({ x.lane l with sWaits := (d.lane l).sWaits } : Lane).sNow 63 body).2))
      refine .inr ⟨?_, i, rd, ?_⟩
      · rw [hl, Die.lane_onLane_same, hlane]
        exact KMap.get_set_same _ _ _ _
      · rw [he, hlane]
        exact List.mem_append_right _ (List.mem_singleton.2 rfl)
    · exact hstay
  · exact hstay

/-- A SYNC that a device sends on a link (R457). -/
def Die.syncBody (d : Die) (l : Nat) : List Byte :=
  leBytes 8 (KMap.get 0 d.flk.syncTx l) ++ leBytes 2 d.epoch ++ leBytes 1 (d.get R.FLK_STATUS_STATE) ++ [0] ++ leBytes 4 d.holdAge

/-- When it left (R457). -/
def Die.syncLeft (c : Cellar) (caps : List (Nat × Capture)) (d : Die) (l : Nat) : Nat :=
  match caps.find? (fun y => y.1 == l) with | some y => c.capFc (122 + l) true y.2 | none => 16 * d.fc

def Die.syncTo (c : Cellar) (caps : List (Nat × Capture)) (d : Die) (l : Nat) : Die :=
  (d.sendS l 63 (d.syncBody l)).onFlk (fun k => { k with syncTx := KMap.set 0 k.syncTx l (d.syncLeft c caps l % 2 ^ 64) })

/-- What SYNC frames on the line change: lanes, ports, the Loft's queue, the captures and what is given to the outside. -/
structure Die.synced (d e : Die) : Prop where
  frame : e = { d with lanes := e.lanes, flk := e.flk, emits := e.emits, ports := e.ports, loft := e.loft }
  flk : e.flk = { d.flk with syncTx := e.flk.syncTx }
  emits : d.emitsMore e

theorem Die.synced_refl (d : Die) : d.synced d := ⟨rfl, rfl, d.emitsMore_refl⟩

theorem Die.synced.trans {a b c : Die} (h : a.synced b) (k : b.synced c) : a.synced c := by
  refine ⟨?_, ?_, h.emits.trans k.emits⟩
  · have hk := k.frame
    rw [h.frame] at hk
    exact hk
  · have hk := k.flk
    rw [h.flk] at hk
    exact hk

theorem Die.lineOnly_sendS (l chan : Nat) (m : List Byte) (d : Die) : d.lineOnly (d.sendS l chan m) :=
  (d.lineOnly_onLane l _ (Lane.onward_refl (d.lane l))).trans (Die.lineOnly_lineTurn l _)

theorem Die.sendS_emitsMore (l chan : Nat) (m : List Byte) (d : Die) : d.emitsMore (d.sendS l chan m) := Die.lineTurn_emitsMore l _

theorem Die.sendS_otherLane (l chan j : Nat) (h : j ≠ l) (m : List Byte) (d : Die) : (d.sendS l chan m).lane j = d.lane j :=
  (Die.lineTurn_otherLane l j h _).trans (d.lane_onLane_other l j _ h)

theorem Die.syncTo_syncs (c : Cellar) (caps : List (Nat × Capture)) (d : Die) (l : Nat) : d.synced (d.syncTo c caps l)
    ∧ d.syncOut (d.syncTo c caps l) l (d.syncBody l) ∧ KMap.get 0 (d.syncTo c caps l).flk.syncTx l = d.syncLeft c caps l % 2 ^ 64
    ∧ ∀ j, j ≠ l → (d.syncTo c caps l).lane j = d.lane j ∧ KMap.get 0 (d.syncTo c caps l).flk.syncTx j = KMap.get 0 d.flk.syncTx j := by
  have hline := d.lineOnly_sendS l 63 (d.syncBody l)
  have hflk : (d.sendS l 63 (d.syncBody l)).flk = d.flk := by rw [hline.frame]
  have hset : (d.syncTo c caps l).flk = { d.flk with syncTx := KMap.set 0 d.flk.syncTx l (d.syncLeft c caps l % 2 ^ 64) } := by
    rw [← hflk]
    rfl
  refine ⟨⟨?_, by rw [hset], d.sendS_emitsMore l 63 _⟩, d.sendS_sync l _ |>.imp id id, ?_, fun j hj => ⟨d.sendS_otherLane l 63 j hj _, ?_⟩⟩
  · have hf := hline.frame
    unfold Die.syncTo Die.onFlk
    generalize d.sendS l 63 (d.syncBody l) = e at hf
    rw [hf]
  · rw [hset]
    exact KMap.get_set_same _ _ _ _
  · rw [hset]
    exact KMap.get_set_ne _ _ _ _ _ _ hj

theorem Die.syncOut.later {d e f : Die} {l : Nat} {body : List Byte} (h : d.syncOut e l body) (hl : f.lane l = e.lane l) (he : e.emitsMore f) : d.syncOut f l body := by
  obtain ⟨es, hes⟩ := he
  unfold Die.syncOut
  rw [hl, hes]
  exact h.imp_right (fun ⟨h1, i, rd, h2⟩ => ⟨h1, i, rd, List.mem_append_left _ h2⟩)

theorem Die.synced.body {d e : Die} (h : d.synced e) {l : Nat} (ht : KMap.get 0 e.flk.syncTx l = KMap.get 0 d.flk.syncTx l) : e.syncBody l = d.syncBody l := by
  have hregs : e.regs = d.regs := by rw [h.frame]
  have hns : e.ns = d.ns := by rw [h.frame]
  have hstate : e.get R.FLK_STATUS_STATE = d.get R.FLK_STATUS_STATE := Die.get_congr _ _ hregs _ _
  have hepoch : e.epoch = d.epoch := Die.get_congr _ _ hregs _ _
  have hfrom : e.flk.holdFrom = d.flk.holdFrom := by rw [h.flk]
  have hhold : e.flk.parentHold = d.flk.parentHold := by rw [h.flk]
  unfold Die.syncBody Die.holdAge
  rw [ht, hstate, hepoch, hns, hfrom, hhold]

/-- Every link of the flock carries a SYNC with the capture of the one before (R457). -/
theorem Die.syncTo_all (c : Cellar) (caps : List (Nat × Capture)) (d : Die) (ls : List Nat) (hnd : ls.Nodup) (e : Die) (he : d.synced e)
    (hls : ∀ l ∈ ls, e.lane l = d.lane l ∧ KMap.get 0 e.flk.syncTx l = KMap.get 0 d.flk.syncTx l) :
    d.synced (ls.foldl (fun d l => d.syncTo c caps l) e)
    ∧ (∀ l ∈ ls, d.syncOut (ls.foldl (fun d l => d.syncTo c caps l) e) l (d.syncBody l)
        ∧ KMap.get 0 (ls.foldl (fun d l => d.syncTo c caps l) e).flk.syncTx l = d.syncLeft c caps l % 2 ^ 64)
    ∧ e.emitsMore (ls.foldl (fun d l => d.syncTo c caps l) e)
    ∧ ∀ j, j ∉ ls → (ls.foldl (fun d l => d.syncTo c caps l) e).lane j = e.lane j
        ∧ KMap.get 0 (ls.foldl (fun d l => d.syncTo c caps l) e).flk.syncTx j = KMap.get 0 e.flk.syncTx j := by
  induction ls generalizing e with
  | nil => exact ⟨he, fun l hl => absurd hl List.not_mem_nil, e.emitsMore_refl, fun _ _ => ⟨rfl, rfl⟩⟩
  | cons a ls ih =>
    obtain ⟨hna, hnd⟩ := List.nodup_cons.1 hnd
    obtain ⟨hsync, hout, htx, hother⟩ := e.syncTo_syncs c caps a
    obtain ⟨hlane, hget⟩ := hls a List.mem_cons_self
    have hne (l : Nat) (hl : l ∈ ls) : l ≠ a := fun h => hna (h ▸ hl)
    obtain ⟨h1, h2, h3, h4⟩ := ih hnd (e.syncTo c caps a) (he.trans hsync) (fun l hl =>
      ⟨(hother l (hne l hl)).1.trans (hls l (List.mem_cons_of_mem _ hl)).1, (hother l (hne l hl)).2.trans (hls l (List.mem_cons_of_mem _ hl)).2⟩)
    rw [List.foldl_cons]
    refine ⟨h1, fun l hl => ?_, hsync.emits.trans h3, fun j hj => ?_⟩
    · rcases List.mem_cons.1 hl with rfl | hl
      · have hbody := he.body hget
        rw [hbody] at hout
        have hleft : e.syncLeft c caps l = d.syncLeft c caps l := by
          have hfc : e.fc = d.fc := by rw [he.frame]
          unfold Die.syncLeft
          rw [hfc]
        refine ⟨Die.syncOut.later ?_ (h4 l hna).1 h3, by rw [(h4 l hna).2, htx, hleft]⟩
        unfold Die.syncOut at hout ⊢
        rw [hlane] at hout
        exact hout
      · exact h2 l hl
    · obtain ⟨hja, hj⟩ := not_or.1 (fun h => hj (List.mem_cons.2 h))
      exact ⟨(h4 j hj).1.trans (hother j hja).1, (h4 j hj).2.trans (hother j hja).2⟩

/-- A forward step of the count (R460, R463). -/
theorem Die.stepFc_steps (n : Nat) (d : Die) : (d.stepFc n).fc = d.fc + n ∧ (d.stepFc n).regs = d.regs ∧ (d.stepFc n).tallies = d.tallies
    ∧ (d.stepFc n).flk = { d.flk with lastSync := d.flk.lastSync.map (fun y => (y.1, y.2 + 16 * n)) } := by
  unfold Die.stepFc
  dsimp only [Die.onFlk]
  refine ⟨?_, ?_, ?_, ?_⟩
  · exact foldl_keeps Die.fc _ (fun e y => by split <;> rfl) _ _
  · exact foldl_keeps Die.regs _ (fun e y => by split <;> rfl) _ _
  · exact foldl_keeps Die.tallies _ (fun e y => by split <;> rfl) _ _
  · rw [foldl_keeps Die.flk _ (fun e y => by split <;> rfl) _ _]

/-- The first part of a sample: the offset is kept, and what it means for the state (R460, R461). -/
def Die.sampled (o : Int) (d : Die) : Die :=
  let first := d.flk.hold
  let d := d.onFlk (fun k => { k with miss := 0, hold := false })
  let d := d.put R.FLK_OFFSET_O 0 (low (max (-(2 ^ 31)) (min o (2 ^ 31 - 1))) 32)
  let st := d.get R.FLK_STATUS_STATE
  if st = 3 then
    (let bad := if 4 ≤ o.natAbs then d.flk.bad + 1 else 0
     let d := d.onFlk (fun k => { k with bad := bad })
     if 4 ≤ bad then (d.put R.FLK_STATUS_STATE 0 2).onFlk (fun k => { k with bad := 0, good := 0 }) else d)
  else if st = 4 ∧ first ∧ 16 ≤ o.natAbs then d.put R.FLK_STATUS_STATE 0 2
  else d

/-- Its second part: what the count does. -/
def Die.corrected (o : Int) (d : Die) : Die :=
  if o ≤ -16 then ((d.stepFc ((-o) / 16).toNat).count T.FLK_FC_STEP 0).onFlk (fun k => { k with good := 0 })
  else if 16000000 ≤ o then
    ((d.put R.FLK_STATUS_JOIN_RESULT 0 4).recheck.put R.FLK_STATUS_STATE 0 1).onFlk (fun k => { k with good := 0, refused := true })
  else if 16 ≤ o then d.onFlk (fun k => { k with absorb := (o / 16).toNat, good := 0 })
  else
    let good := if o.natAbs ≤ 2 then d.flk.good + 1 else 0
    let d := d.onFlk (fun k => { k with phase := -(4 * o), good := good })
    let st := d.get R.FLK_STATUS_STATE
    if 16 ≤ good ∧ (st = 2 ∨ st = 4) then d.put R.FLK_STATUS_STATE 0 3 else d

theorem Die.onSample_eq (o : Int) (d : Die) : d.onSample o = (d.sampled o).corrected o := rfl

/-- What the first part of a sample leaves (R460). -/
structure Die.sampledTo (o : Int) (d e : Die) : Prop where
  fc : e.fc = d.fc
  tallies : e.tallies = d.tallies
  miss : e.flk.miss = 0
  hold : e.flk.parentHold = d.flk.parentHold
  last : e.flk.lastSync = d.flk.lastSync
  good : o.natAbs < 4 → e.flk.good = d.flk.good
  offset : e.get R.FLK_OFFSET_O = low (max (-(2 ^ 31)) (min o (2 ^ 31 - 1))) 32
  joining : d.get R.FLK_STATUS_STATE = 2 → e.get R.FLK_STATUS_STATE = 2

theorem Die.sampled_samples (o : Int) (d : Die) : Die.sampledTo o d (d.sampled o) := by
  obtain ⟨x, hx⟩ : ∃ x, (d.onFlk (fun k => { k with miss := 0, hold := false })).put R.FLK_OFFSET_O 0 (low (max (-(2 ^ 31)) (min o (2 ^ 31 - 1))) 32) = x := ⟨_, rfl⟩
  have hoff : x.get R.FLK_OFFSET_O = low (max (-(2 ^ 31)) (min o (2 ^ 31 - 1))) 32 := by
    rw [← hx, Die.get_put_same]
    exact Nat.mod_eq_of_lt (low_lt _ 32)
  have hst : x.get R.FLK_STATUS_STATE = d.get R.FLK_STATUS_STATE := by rw [← hx]; exact Die.get_put_apart _ _ _ _ _ (by decide)
  have hmiss : x.flk.miss = 0 := by rw [← hx]; rfl
  have hhold : x.flk.parentHold = d.flk.parentHold := by rw [← hx]; rfl
  have hlast : x.flk.lastSync = d.flk.lastSync := by rw [← hx]; rfl
  have hgood : x.flk.good = d.flk.good := by rw [← hx]; rfl
  have hfc : x.fc = d.fc := by rw [← hx]; rfl
  have htal : x.tallies = d.tallies := by rw [← hx]; rfl
  obtain ⟨b, hb⟩ : ∃ b, (if 4 ≤ o.natAbs then x.flk.bad + 1 else 0) = b := ⟨_, rfl⟩
  have hsmall : o.natAbs < 4 → b = 0 := fun h => by rw [← hb, if_neg (by omega)]
  have hdef : d.sampled o = if x.get R.FLK_STATUS_STATE = 3 then
      (if 4 ≤ b then ((x.onFlk (fun k => { k with bad := b })).put R.FLK_STATUS_STATE 0 2).onFlk (fun k => { k with bad := 0, good := 0 })
        else x.onFlk (fun k => { k with bad := b }))
      else if x.get R.FLK_STATUS_STATE = 4 ∧ d.flk.hold ∧ 16 ≤ o.natAbs then x.put R.FLK_STATUS_STATE 0 2 else x := by rw [← hb, ← hx]; rfl
  have hput (y : Die) : (y.put R.FLK_STATUS_STATE 0 2).get R.FLK_OFFSET_O = y.get R.FLK_OFFSET_O := Die.get_put_apart _ _ _ _ _ (by decide)
  clear hx hb
  rw [hdef]
  split
  · next h3 =>
    have hno : d.get R.FLK_STATUS_STATE ≠ 2 := by omega
    split
    · exact ⟨hfc, htal, hmiss, hhold, hlast, fun hlt => by have := hsmall hlt; omega, (hput _).trans hoff, fun h2 => absurd h2 hno⟩
    · exact ⟨hfc, htal, hmiss, hhold, hlast, fun _ => hgood, hoff, fun h2 => absurd h2 hno⟩
  · split
    · exact ⟨hfc, htal, hmiss, hhold, hlast, fun _ => hgood, (hput x).trans hoff, fun _ => (Die.get_put_same x R.FLK_STATUS_STATE 0 2).trans rfl⟩
    · exact ⟨hfc, htal, hmiss, hhold, hlast, fun _ => hgood, hoff, fun h2 => hst.trans h2⟩

/-- What the correction does to the count (R460, R461). -/
structure Die.correctedTo (o : Int) (d e : Die) : Prop where
  hold : e.flk.parentHold = d.flk.parentHold
  miss : e.flk.miss = d.flk.miss
  offset : e.get R.FLK_OFFSET_O = d.get R.FLK_OFFSET_O
  back : o ≤ -16 → e.fc = d.fc + (-o / 16).toNat ∧ e.tally T.FLK_FC_STEP = tallyAdd (d.tally T.FLK_FC_STEP) 1
  stay : -16 < o → e.fc = d.fc ∧ e.flk.lastSync = d.flk.lastSync
  far : 16000000 ≤ o → e.get R.FLK_STATUS_JOIN_RESULT = 4 ∧ e.get R.FLK_STATUS_STATE = 1 ∧ e.flk.refused = true
  ahead : 16 ≤ o → o < 16000000 → e.flk.absorb = (o / 16).toNat
  near : -16 < o → o < 16 → e.flk.phase = -(4 * o) ∧ e.flk.good = (if o.natAbs ≤ 2 then d.flk.good + 1 else 0)
    ∧ (d.get R.FLK_STATUS_STATE = 2 → 15 ≤ d.flk.good → o.natAbs ≤ 2 → e.get R.FLK_STATUS_STATE = 3)

theorem Die.corrected_back (o : Int) (d : Die) (h : o ≤ -16) : Die.correctedTo o d (d.corrected o) := by
  obtain ⟨hfc, hregs, htal, hflk⟩ := d.stepFc_steps ((-o) / 16).toNat
  obtain ⟨x, hx⟩ : ∃ x, d.stepFc ((-o) / 16).toNat = x := ⟨_, rfl⟩
  have hdef : d.corrected o = (x.count T.FLK_FC_STEP 0).onFlk (fun k => { k with good := 0 }) := by rw [← hx]; exact if_pos h
  rw [hx] at hfc hregs htal hflk
  have hcount := x.report_count T.FLK_FC_STEP 0
  have hcf : (x.count T.FLK_FC_STEP 0).flk = x.flk := by rw [hcount.1]
  have hcc : (x.count T.FLK_FC_STEP 0).fc = x.fc := by rw [hcount.1]
  have hhold : x.flk.parentHold = d.flk.parentHold := by rw [hflk]
  have hmiss : x.flk.miss = d.flk.miss := by rw [hflk]
  have hon : (d.corrected o).flk = { x.flk with good := 0 } := by rw [hdef, ← hcf]; rfl
  refine ⟨by rw [hon]; exact hhold, by rw [hon]; exact hmiss, ?_, fun _ => ⟨?_, ?_⟩, fun h' => by omega, fun h' => by omega, fun h' => by omega, fun h' => by omega⟩
  · rw [hdef]
    exact (hcount.2 _ _ rfl).trans (Die.get_congr _ _ hregs _ _)
  · rw [hdef]
    exact hcc.trans hfc
  · rw [hdef]
    refine (Die.tally_count_exact T.FLK_FC_STEP 0 x rfl).trans ?_
    rw [Die.tally, htal]
    rfl

theorem Die.corrected_far (o : Int) (d : Die) (h : 16000000 ≤ o) : Die.correctedTo o d (d.corrected o) := by
  obtain ⟨x, hx⟩ : ∃ x, (d.put R.FLK_STATUS_JOIN_RESULT 0 4).recheck = x := ⟨_, rfl⟩
  have hre := (d.put R.FLK_STATUS_JOIN_RESULT 0 4).rechecked_recheck
  rw [hx] at hre
  have hflk : x.flk = d.flk := (congrArg Die.flk hre.1).trans rfl
  have hfc : x.fc = d.fc := (congrArg Die.fc hre.1).trans rfl
  have hdef : d.corrected o = (x.put R.FLK_STATUS_STATE 0 1).onFlk (fun k => { k with good := 0, refused := true }) := by
    rw [← hx]
    exact (if_neg (by omega)).trans (if_pos h)
  have hon : (d.corrected o).flk = { x.flk with good := 0, refused := true } := by rw [hdef]; rfl
  have hget (f : Fld) : (d.corrected o).get f = (x.put R.FLK_STATUS_STATE 0 1).get f := by rw [hdef]; rfl
  refine ⟨by rw [hon, hflk], by rw [hon, hflk], ?_, fun h' => by omega, fun _ => ⟨?_, by rw [hon, hflk]⟩, fun _ => ⟨?_, ?_, by rw [hon]⟩, fun _ h' => by omega,
    fun _ h' => by omega⟩
  · rw [hget, Die.get_put_apart _ _ _ _ _ (by decide), hre.2 _ _ rfl (by decide) (by decide), Die.get_put_apart _ _ _ _ _ (by decide)]
  · rw [hdef]
    exact hfc
  · rw [hget, Die.get_put_apart _ _ _ _ _ (by decide), hre.2 _ _ rfl (by decide) (by decide), Die.get_put_same]
    rfl
  · rw [hget, Die.get_put_same]
    rfl

theorem Die.corrected_ahead (o : Int) (d : Die) (h : 16 ≤ o) (h' : o < 16000000) : Die.correctedTo o d (d.corrected o) := by
  have hdef : d.corrected o = d.onFlk (fun k => { k with absorb := (o / 16).toNat, good := 0 }) :=
    (if_neg (by omega)).trans ((if_neg (by omega)).trans (if_pos h))
  rw [hdef]
  exact ⟨rfl, rfl, rfl, fun h' => by omega, fun _ => ⟨rfl, rfl⟩, fun h' => by omega, fun _ _ => rfl, fun _ h' => by omega⟩

theorem Die.corrected_near (o : Int) (d : Die) (h : -16 < o) (h' : o < 16) : Die.correctedTo o d (d.corrected o) := by
  obtain ⟨g, hg⟩ : ∃ g, (if o.natAbs ≤ 2 then d.flk.good + 1 else 0) = g := ⟨_, rfl⟩
  obtain ⟨x, hx⟩ : ∃ x, d.onFlk (fun k => { k with phase := -(4 * o), good := g }) = x := ⟨_, rfl⟩
  have hdef : d.corrected o = if 16 ≤ g ∧ (x.get R.FLK_STATUS_STATE = 2 ∨ x.get R.FLK_STATUS_STATE = 4) then x.put R.FLK_STATUS_STATE 0 3 else x := by
    rw [← hx, ← hg]
    exact (if_neg (by omega)).trans ((if_neg (by omega)).trans (if_neg (by omega)))
  have hflk : (d.corrected o).flk = x.flk := by rw [hdef]; split <;> rfl
  have hfc : (d.corrected o).fc = x.fc := by rw [hdef]; split <;> rfl
  have hxs (f : Fld) : x.get f = d.get f := by rw [← hx]; rfl
  have hxc : x.fc = d.fc := by rw [← hx]; rfl
  refine ⟨by rw [hflk, ← hx]; rfl, by rw [hflk, ← hx]; rfl, ?_, fun h' => by omega, fun _ => ⟨hfc.trans hxc, by rw [hflk, ← hx]; rfl⟩, fun h' => by omega,
    fun h' => by omega, fun _ _ => ⟨by rw [hflk, ← hx]; rfl, by rw [hflk, ← hx, hg]; rfl, fun h2 h15 hsmall => ?_⟩⟩
  · rw [hdef, ← hxs]
    split
    · exact Die.get_put_apart _ _ _ _ _ (by decide)
    · rfl
  · rw [if_pos hsmall] at hg
    rw [hdef, if_pos ⟨by omega, .inl ((hxs _).trans h2)⟩, Die.get_put_same]
    rfl

theorem Die.corrected_corrects (o : Int) (d : Die) : Die.correctedTo o d (d.corrected o) := by
  by_cases h1 : o ≤ -16
  · exact d.corrected_back o h1
  · by_cases h2 : 16000000 ≤ o
    · exact d.corrected_far o h2
    · by_cases h3 : 16 ≤ o
      · exact d.corrected_ahead o h3 (by omega)
      · exact d.corrected_near o (by omega) (by omega)

/-- A frame's number on its channel is noted, and nothing of the flock with it (R427). -/
structure Die.sequenced (d e : Die) : Prop where
  fc : e.fc = d.fc
  flk : e.flk = d.flk
  regs : ∀ g i, reportWord (g.key i / 32) = false → e.get g i = d.get g i
  step : e.tally T.FLK_FC_STEP = d.tally T.FLK_FC_STEP

theorem Die.sSequence_sequences (l chan seq : Nat) (hl : l < 64) (d : Die) : d.sequenced (d.sSequence l chan seq) := by
  have hcount (t : Tal) (n : Nat) (ht : t.base = 0x80000) (ho : t.off < 0x1000) : d.sequenced (d.countBy t l n) := by
    have hrep := d.report_countBy t l n
    refine ⟨by rw [hrep.1], by rw [hrep.1], hrep.2, Die.tally_countBy_other _ _ _ _ _ rfl ?_⟩
    simp only [Tal.key, T.FLK_FC_STEP, ht]
    omega
  have hgo (x : Die) (f : Lane → Lane) (h : d.sequenced x) : d.sequenced (x.onLane l f) := ⟨h.fc, h.flk, h.regs, h.step⟩
  unfold Die.sSequence
  refine hgo _ _ ?_
  split
  · exact ⟨rfl, rfl, fun _ _ _ => rfl, rfl⟩
  · dsimp only
    split
    · exact hcount _ _ rfl (by decide)
    · split
      · exact hcount _ 1 rfl (by decide)
      · exact ⟨rfl, rfl, fun _ _ _ => rfl, rfl⟩

theorem reportWord_lnk (f : Fld) (l : Nat) (hb : f.base = 0x80000) (hl : l < 64) (ho : f.off < 0x1000) (hlo : f.lo < 32) : reportWord (f.key l / 32) = false := by
  have : f.key l / 32 = 0x80000 + l * 0x1000 + f.off := by unfold Fld.key; omega
  exact reportWord_above (by omega) (.inl (by omega))

theorem Die.sequenced.trans {a b c : Die} (h : a.sequenced b) (k : b.sequenced c) : a.sequenced c :=
  ⟨k.fc.trans h.fc, k.flk.trans h.flk, fun g i hg => (k.regs g i hg).trans (h.regs g i hg), k.step.trans h.step⟩

theorem Die.sequenced.place {d e : Die} (h : d.sequenced e) : e.role = d.role ∧ e.parentLanes = d.parentLanes ∧ e.epoch = d.epoch
    ∧ e.get R.FLK_STATUS_STATE = d.get R.FLK_STATUS_STATE ∧ e.get R.FLK_STATUS_JOIN_RESULT = d.get R.FLK_STATUS_JOIN_RESULT ∧ e.childLanes = d.childLanes := by
  have hrole : e.role = d.role := h.regs R.FLK_ROLE_ROLE 0 rfl
  have hlevel : e.level = d.level := h.regs R.FLK_ROLE_LEVEL 0 rfl
  have htail : e.isTail = d.isTail := by rw [Die.isTail, Die.isTail, Die.on, Die.on, h.regs R.FLK_ROLE_HALF 0 rfl]
  refine ⟨hrole, ?_, h.regs R.FLK_STATUS_EPOCH 0 rfl, h.regs _ 0 rfl, h.regs _ 0 rfl, ?_⟩
  · unfold Die.parentLanes
    rw [hrole, hlevel, htail]
  · unfold Die.childLanes Die.isTop
    rw [hrole, hlevel, htail]

/-- The parent's link of a device that is no standby (R454). -/
theorem Die.parentLane_low (d : Die) (h : d.role ≤ 2) : d.parentLane = match d.parentLanes with
    | [] => none
    | l :: rest => if rest.contains d.flk.parent then some d.flk.parent else some l := by
  unfold Die.parentLane
  exact if_neg (fun hn => by omega)

/-- A SYNC of the parent (R457, R460, R461). -/
theorem Die.syncFrame_samples (l seq rx n r : Nat) (b : List Byte) (d : Die) (hrole : d.role ≤ 2) (hl : l ∈ d.parentLanes) (hp : d.parentLane = some l)
    (hep : leNat (slice b 8 2) = d.epoch) (hjoin : d.get R.FLK_STATUS_JOIN_RESULT = 1) (hlast : d.flk.lastSync = some (n, r)) (hseq : (n + 1) % 256 = seq)
    (habs : d.flk.absorb = 0) :
    ∃ y : Die, d.syncFrame l seq b rx = y.onSample (sdiff 64 (r % 2 ^ 64) (low ((leNat (slice b 0 8) : Int) + sext (d.get R.LNK_DELAY_VALUE l) 32) 64))
      ∧ y.flk.parentHold = leNat (slice b 12 4) ∧ y.flk.lastSync = some (seq, rx) ∧ y.flk.good = d.flk.good ∧ y.fc = d.fc ∧ y.tallies = d.tallies ∧ y.regs = d.regs := by
  obtain ⟨x, hx⟩ : ∃ x, d.onFlk (fun k => { k with kids := KMap.upd {} k.kids l (fun c => { c with epoch := leNat (slice b 8 2), state := (byteAt b 10).toNat }) }) = x := ⟨_, rfl⟩
  have hregs : x.regs = d.regs := by rw [← hx]; rfl
  have hget (f : Fld) (i : Nat) : x.get f i = d.get f i := Die.get_congr _ _ hregs _ _
  have hxrole : x.role = d.role := hget _ _
  have hxl : x.parentLanes = d.parentLanes := by
    unfold Die.parentLanes Die.role Die.level Die.isTail Die.on
    rw [hget, hget, hget]
  have hxp : x.parentLane = some l := by
    rw [x.parentLane_low (by rw [hxrole]; exact hrole), hxl, show x.flk.parent = d.flk.parent by rw [← hx]; rfl, ← d.parentLane_low hrole]
    exact hp
  have hxe : x.epoch = d.epoch := hget _ _
  have hxlast : x.flk.lastSync = some (n, r) := by rw [← hx]; exact hlast
  have hxabs : x.flk.absorb = 0 := by rw [← hx]; exact habs
  have hframe : d.syncFrame l seq b rx = x.parentSync l seq (leNat (slice b 0 8)) (leNat (slice b 12 4)) rx := by
    unfold Die.syncFrame
    dsimp only
    rw [hx, hxe, hep, if_neg (fun h => Nat.lt_irrefl _ h.1), if_neg (by rw [hxrole]; omega), hxl, if_neg (by simpa using hl), if_neg (Nat.lt_irrefl _),
      if_pos ⟨hxp, by rw [hxe], (hget _ _).trans hjoin⟩]
  refine ⟨x.onFlk (fun k => { k with parentHold := leNat (slice b 12 4), lastSync := some (seq, rx) }), ?_, rfl, rfl, by rw [← hx]; rfl, by rw [← hx]; rfl,
    by rw [← hx]; rfl, by rw [← hx]; rfl⟩
  rw [hframe]
  unfold Die.parentSync
  dsimp only
  rw [hxlast]
  dsimp only
  rw [hxabs, if_neg (by simp [hseq])]
  have hdelay : (x.onFlk (fun k => { k with parentHold := leNat (slice b 12 4), lastSync := some (seq, rx) })).get R.LNK_DELAY_VALUE l = d.get R.LNK_DELAY_VALUE l := hget _ _
  rw [hdelay]

/-- SYNC on the parent's link reaches the flock (R426, R457). -/
theorem State.sync_reaches (s : State) (l : Nat) (f : LinkFrame) (hl : l < 64) (h63 : (frameView f).h1.toNat = 63) (hcheck : s.die.checkFrame l f = (true, s.die))
    (hp : l ∈ s.die.parentLanes) :
    ∃ x : Die, exec (.sync l f) s = .next { s with die := x.syncFrame l (frameView f).h2.toNat (frameView f).payload (s.cel.capFc (58 + l) false f.cap) }
      ∧ s.die.sequenced x := by
  have hflock (d : Die) (h : d.parentLanes = s.die.parentLanes) : d.flockLane l = true := by
    unfold Die.flockLane
    rw [h, List.contains_iff_mem.2 hp]
    rfl
  have hexec : exec (.sync l f) s = .next (if s.die.flockLane l ∧ (frameView f).h1.toNat = 63 then s.sFrameRx l f else s) := if_pos (decide_eq_true hl)
  obtain ⟨y, hy⟩ : ∃ y, s.die.onLane l Lane.noSet = y := ⟨_, rfl⟩
  have hin : s.die.frameIn l f = (true, y) := by
    unfold Die.frameIn
    dsimp only
    rw [hcheck, ← hy]
  have hrx : s.sFrameRx l f = State.sFrame l f { s with die := y } := by
    unfold State.sFrameRx
    dsimp only
    rw [hin, if_pos]
    unfold lfCls
    rw [h63]
    rfl
  obtain ⟨x, hx⟩ : ∃ x, y.sSequence l 63 (frameView f).h2.toNat = x := ⟨_, rfl⟩
  have hseq : s.die.sequenced x := by
    have h1 : s.die.sequenced y := by rw [← hy]; exact ⟨rfl, rfl, fun _ _ _ => rfl, rfl⟩
    rw [← hx]
    exact h1.trans (Die.sSequence_sequences l 63 _ hl y)
  refine ⟨x, ?_, hseq⟩
  rw [hexec, if_pos ⟨hflock _ rfl, h63⟩, hrx]
  unfold State.sFrame
  dsimp only
  rw [h63, hx, if_pos ⟨hflock _ hseq.place.2.1, rfl⟩]

/-- PHASE_STEP (R460). -/
theorem State.phaseStep_steps (s : State) (h : s.die.flk.phase ≠ 0) : s.completes .phaseStep (fun t => t = { s with die := t.die }
    ∧ t.die.flk = { s.die.flk with phase := if s.die.flk.phase < 0 then s.die.flk.phase + 1 else s.die.flk.phase - 1 }
    ∧ t.die.tally T.FLK_PHASE_STEP = tallyAdd (s.die.tally T.FLK_PHASE_STEP) 1) := by
  have hflk : (s.die.count T.FLK_PHASE_STEP 0).flk = s.die.flk := by rw [(s.die.report_count T.FLK_PHASE_STEP 0).1]
  refine ⟨_, congrArg Host.Outcome.next (congrArg (fun d => ({ s with die := d } : State)) (if_neg h)), rfl, ?_, Die.tally_count_exact T.FLK_PHASE_STEP 0 s.die rfl⟩
  change ({ (s.die.count T.FLK_PHASE_STEP 0).flk with
    phase := if (s.die.count T.FLK_PHASE_STEP 0).flk.phase < 0 then (s.die.count T.FLK_PHASE_STEP 0).flk.phase + 1 else (s.die.count T.FLK_PHASE_STEP 0).flk.phase - 1 } : Flock) = _
  rw [hflk]

/-- A SYNC period without a sample (R461). -/
theorem State.syncMiss_misses (s : State) (h : s.die.get R.FLK_STATUS_JOIN_RESULT = 1 ∨ (s.die.role = 3 ∧ s.die.get R.FLK_STATUS_STATE = 6)) :
    s.completes .syncMiss (fun t => t = { s with die := t.die } ∧ t.die.tally T.FLK_SYNC_MISS = tallyAdd (s.die.tally T.FLK_SYNC_MISS) 1
      ∧ t.die.flk.miss = s.die.flk.miss + 1 ∧ t.die.fc = s.die.fc
      ∧ t.die.get R.FLK_STATUS_STATE = (if s.die.get R.FLK_STATUS_STATE = 3 ∧ 3 ≤ s.die.flk.miss then 4 else s.die.get R.FLK_STATUS_STATE)) := by
  have hrep := s.die.report_count T.FLK_SYNC_MISS 0
  obtain ⟨x, hx⟩ : ∃ x, (s.die.count T.FLK_SYNC_MISS 0).onFlk (fun k => { k with miss := k.miss + 1 }) = x := ⟨_, rfl⟩
  have hmiss : x.flk.miss = s.die.flk.miss + 1 := by
    rw [← hx]
    change (s.die.count T.FLK_SYNC_MISS 0).flk.miss + 1 = _
    rw [hrep.1]
  have hfc : x.fc = s.die.fc := by
    rw [← hx]
    change (s.die.count T.FLK_SYNC_MISS 0).fc = _
    rw [hrep.1]
  have hstate : x.get R.FLK_STATUS_STATE = s.die.get R.FLK_STATUS_STATE := by
    rw [← hx]
    exact hrep.2 _ _ rfl
  have htal : x.tally T.FLK_SYNC_MISS = tallyAdd (s.die.tally T.FLK_SYNC_MISS) 1 := by
    rw [← hx]
    exact Die.tally_count_exact T.FLK_SYNC_MISS 0 s.die rfl
  have hexec : exec .syncMiss s = .next { s with die := if 4 ≤ x.flk.miss then x.enterHoldover else x } := by
    rw [← hx]
    exact congrArg Host.Outcome.next (congrArg (fun d => ({ s with die := d } : State)) (if_pos h))
  refine ⟨_, hexec, rfl, ?_⟩
  dsimp only
  clear hx
  rw [hmiss]
  split
  · next h4 =>
    unfold Die.enterHoldover
    rw [hstate]
    split
    · next h3 =>
      have hhold := (x.put R.FLK_STATUS_STATE 0 4).report_count T.FLK_HOLDOVERS 0
      generalize hz : (x.put R.FLK_STATUS_STATE 0 4).count T.FLK_HOLDOVERS 0 = z at hhold
      have hzm : z.flk.miss = x.flk.miss := by rw [hhold.1]; rfl
      have hzf : z.fc = x.fc := by rw [hhold.1]; rfl
      have hzt : z.tally T.FLK_SYNC_MISS = x.tally T.FLK_SYNC_MISS := by
        rw [← hz]
        exact Die.tally_count_apart T.FLK_HOLDOVERS T.FLK_SYNC_MISS 0 (x.put R.FLK_STATUS_STATE 0 4) rfl (by decide)
      refine ⟨hzt.trans htal, hzm.trans hmiss, hzf.trans hfc, ?_⟩
      rw [if_pos ⟨h3, by omega⟩]
      exact (hhold.2 _ _ rfl).trans ((Die.get_put_same _ _ _ _).trans rfl)
    · next h3 =>
      rw [if_neg (fun h => h3 h.1)]
      exact ⟨htal, hmiss, hfc, hstate⟩
  · next h4 =>
    rw [if_neg (fun h => h4 (by omega))]
    exact ⟨htal, hmiss, hfc, hstate⟩

/-- What says which links lead down, and in which state each is. -/
structure Die.sameLinks (d e : Die) : Prop where
  role : e.role = d.role
  level : e.level = d.level
  tail : e.isTail = d.isTail
  lanes : ∀ l, l < 64 → e.laneState l = d.laneState l

theorem Die.sameLinks.trans {a b c : Die} (h : a.sameLinks b) (k : b.sameLinks c) : a.sameLinks c :=
  ⟨k.role.trans h.role, k.level.trans h.level, k.tail.trans h.tail, fun l hl => (k.lanes l hl).trans (h.lanes l hl)⟩

/-- Every link that leads down is one of the 64 lanes. -/
theorem Die.childLanes_lt (d : Die) (c : Nat) (h : c ∈ d.childLanes) : c < 64 := by
  unfold Die.childLanes span at h
  split at h
  · exact List.mem_range.1 h
  · split at h
    · split at h
      · obtain ⟨i, hi, rfl⟩ := List.mem_map.1 h
        have := List.mem_range.1 hi
        omega
      · rcases List.mem_cons.1 h with rfl | h
        · decide
        · obtain ⟨i, hi, rfl⟩ := List.mem_map.1 h
          have := List.mem_range.1 hi
          omega
    · cases h

theorem Die.sameLinks.spreads {d x e : Die} (h : d.sameLinks x) {cls : Nat} {m : List Byte} (hx : x.spreads e cls m) : d.spreads e cls m := by
  have hchild : x.childLanes = d.childLanes := by
    unfold Die.childLanes Die.isTop
    rw [h.role, h.level, h.tail]
  exact fun c hc hstate => hx c (by rw [hchild]; exact hc) ((h.lanes c (d.childLanes_lt c hc)).trans hstate)

theorem laneState_word (l : Nat) : R.LNK_STATUS_STATE.key l / 32 = 0x80800 + l * 0x1000 := by
  simp only [Fld.key, R.LNK_STATUS_STATE]
  omega

/-- The fields of the flock's own status leave the links. -/
theorem Die.sameLinks_of {d e : Die} (h : ∀ g i, g.key i / 32 = 0x20010 ∨ g.key i / 32 = 0x80800 + i * 0x1000 → e.get g i = d.get g i) : d.sameLinks e := by
  refine ⟨h R.FLK_ROLE_ROLE 0 (.inl (by decide)), h R.FLK_ROLE_LEVEL 0 (.inl (by decide)), ?_, fun l _ => h R.LNK_STATUS_STATE l (.inr (laneState_word l))⟩
  rw [Die.isTail, Die.isTail, Die.on, Die.on, h R.FLK_ROLE_HALF 0 (.inl (by decide))]

theorem Die.sameLinks_put (d : Die) (f : Fld) (v : Nat) (h : f.key 0 / 32 = 0x20800) : d.sameLinks (d.put f 0 v) :=
  Die.sameLinks_of (fun g i hg => Die.get_put_other _ _ _ _ _ _ (fun hk => by rw [hk, h] at hg; omega))

theorem Die.sameLinks_report {d e : Die} (h : d.report e) : d.sameLinks e := by
  refine Die.sameLinks_of (fun g i hg => h.2 g i ?_)
  rcases hg with hg | hg
  · rw [hg]; rfl
  · exact reportWord_above (by omega) (by omega)

/-- The flock's bookkeeping leaves the links, where the field apart is one of its status. -/
theorem Die.linksKept.sameLinks {j : Nat} {d e : Die} (h : d.linksKept j e) (hj : j / 32 = 0x20800) : d.sameLinks e := by
  have hrole (f : Fld) (hf : f.key 0 / 32 = 0x20010) : e.get f = d.get f := h.regs f 0 (.inl hf) (fun hk => by rw [hk, hj] at hf; exact absurd hf (by decide))
  refine ⟨hrole R.FLK_ROLE_ROLE rfl, hrole R.FLK_ROLE_LEVEL rfl, by rw [Die.isTail, Die.isTail, Die.on, Die.on, hrole R.FLK_ROLE_HALF rfl], fun l hl => ?_⟩
  have hw := laneState_word l
  exact h.regs R.LNK_STATUS_STATE l (.inr (.inr (by omega))) (fun hk => by rw [hk, hj] at hw; omega)

/-- The standby takes over where most links are in HOLDOVER (R474). -/
theorem Die.standbyTakeover_takes (d : Die) :
    ((d.role = 3 ∧ d.get R.FLK_STATUS_STATE = 6
        ∧ ((List.range 64).filter (fun l => d.laneState l == 4)).length
            < 2 * (((List.range 64).filter (fun l => d.laneState l == 4)).filter (fun l => (KMap.get ({} : Child) d.flk.kids l).state == 4)).length
        ∧ ∀ l ∈ (List.range 64).filter (fun l => d.laneState l == 4), (KMap.get ({} : Child) d.flk.kids l).epoch ≤ d.epoch) →
      d.standbyTakeover.epoch = (d.epoch + 1) % 65536 ∧ d.standbyTakeover.get R.FLK_STATUS_STATE = 5
      ∧ d.standbyTakeover.tally T.FLK_TAKEOVERS = tallyAdd (d.tally T.FLK_TAKEOVERS) 1
      ∧ d.spreads d.standbyTakeover 2 (flkMsg 13 ((d.epoch + 1) % 65536) 0 []))
    ∧ (¬ (d.role = 3 ∧ d.get R.FLK_STATUS_STATE = 6
        ∧ ((List.range 64).filter (fun l => d.laneState l == 4)).length
            < 2 * (((List.range 64).filter (fun l => d.laneState l == 4)).filter (fun l => (KMap.get ({} : Child) d.flk.kids l).state == 4)).length
        ∧ ∀ l ∈ (List.range 64).filter (fun l => d.laneState l == 4), (KMap.get ({} : Child) d.flk.kids l).epoch ≤ d.epoch) → d.standbyTakeover = d) := by
  have hall : ((List.range 64).filter (fun l => d.laneState l == 4)).all (fun l => decide ((KMap.get ({} : Child) d.flk.kids l).epoch ≤ d.epoch)) = true
      ↔ ∀ l ∈ (List.range 64).filter (fun l => d.laneState l == 4), (KMap.get ({} : Child) d.flk.kids l).epoch ≤ d.epoch := by
    simp only [List.all_eq_true, decide_eq_true_eq]
  refine ⟨fun ⟨hrole, hstate, hmost, hep⟩ => ?_, fun hno => ?_⟩
  · obtain ⟨x, hx⟩ : ∃ x, ((d.put R.FLK_STATUS_EPOCH 0 ((d.epoch + 1) % 65536)).put R.FLK_STATUS_STATE 0 5).count T.FLK_TAKEOVERS 0 = x := ⟨_, rfl⟩
    have hdef : d.standbyTakeover = (x.sendDown 2 (flkMsg 13 ((d.epoch + 1) % 65536) 0 [])).incident 9 10 0 0 := by
      rw [← hx]
      exact if_pos ⟨hrole, hstate, hmost, hall.2 hep⟩
    have hcount := Die.report_count T.FLK_TAKEOVERS 0 ((d.put R.FLK_STATUS_EPOCH 0 ((d.epoch + 1) % 65536)).put R.FLK_STATUS_STATE 0 5)
    have hinc := Die.traced_incident 9 10 0 0 (x.sendDown 2 (flkMsg 13 ((d.epoch + 1) % 65536) 0 []))
    obtain ⟨hline, hsp⟩ := x.sendDown_spreads 2 (flkMsg 13 ((d.epoch + 1) % 65536) 0 [])
    have hxt : x.tally T.FLK_TAKEOVERS = tallyAdd (d.tally T.FLK_TAKEOVERS) 1 := by
      rw [← hx]
      exact Die.tally_count_same T.FLK_TAKEOVERS 0 ((d.put R.FLK_STATUS_EPOCH 0 ((d.epoch + 1) % 65536)).put R.FLK_STATUS_STATE 0 5) rfl
    rw [hx] at hcount
    have hxe : x.get R.FLK_STATUS_EPOCH = (d.epoch + 1) % 65536 := by
      rw [hcount.2 _ _ rfl, Die.get_put_apart _ _ _ _ _ (by decide), Die.get_put_same]
      exact Nat.mod_eq_of_lt (Nat.mod_lt _ (by decide))
    have hxs : x.get R.FLK_STATUS_STATE = 5 := by
      rw [hcount.2 _ _ rfl, Die.get_put_same]
      rfl
    have hlinks : d.sameLinks x := by
      have hput := (d.sameLinks_put R.FLK_STATUS_EPOCH ((d.epoch + 1) % 65536) rfl).trans (Die.sameLinks_put _ R.FLK_STATUS_STATE 5 rfl)
      exact hput.trans (Die.sameLinks_report hcount)
    have hget (f : Fld) (hf : reportWord (f.key 0 / 32) = false) : d.standbyTakeover.get f = x.get f := by
      rw [hdef]
      exact (hinc.1.2 _ _ hf).trans (Die.get_congr _ _ hline.regs _ _)
    have htal : (x.sendDown 2 (flkMsg 13 ((d.epoch + 1) % 65536) 0 [])).tally T.FLK_TAKEOVERS = x.tally T.FLK_TAKEOVERS := by
      rw [Die.tally, Die.tally, show (x.sendDown 2 (flkMsg 13 ((d.epoch + 1) % 65536) 0 [])).tallies = x.tallies by rw [hline.frame]]
    refine ⟨(hget R.FLK_STATUS_EPOCH rfl).trans hxe, (hget _ rfl).trans hxs, ?_, fun c hc hstate => ?_⟩
    · rw [hdef]
      exact ((hinc.2 _ rfl).trans htal).trans hxt
    · rw [hdef]
      refine (Die.putAt_queued (by rw [hinc.1.1]) c 2 _).2 (hlinks.spreads hsp c hc hstate)
  · unfold Die.standbyTakeover
    dsimp only
    exact if_neg (fun h => hno ⟨h.1, h.2.1, h.2.2.1, hall.1 h.2.2.2⟩)

/-- A takeover from the parent's link (R474). -/
def State.takeoverAct (l : Nat) (m : List Byte) (s : State) : State :=
  if s.die.epoch ≤ msgEpoch m then
    { s with die := ((s.die.adoptEpoch (msgEpoch m)).onFlk (fun k => { k with parent := l, lastSync := if k.parent = l then k.lastSync else none })).forward 2 m }
  else { s with die := s.die.count T.FLK_MSG_BAD 0 }

theorem State.takeover_takes (s : State) (l : Nat) (m : List Byte) (h : s.die.brings l 2 13 m) (hl : l ∈ s.die.parentLanes) (hep : s.die.epoch ≤ msgEpoch m) :
    s.takes (.takeover l) l 2 (fun e => e.epoch = msgEpoch m ∧ e.flk.parent = l ∧ (s.die.role = 2 → s.die.spreads e 2 m)) := by
  have hact : exec (.takeover l) s = msgCmd true 2 13 l (State.takeoverAct l) s := rfl
  have hexec := hact.trans (msgCmd_takes true 2 13 l (State.takeoverAct l) s m h (by simpa using hl))
  obtain ⟨hadopt, hepoch⟩ := (s.die.dropMsg l 2).adoptEpoch_adopts (msgEpoch m) (msgEpoch_lt m)
  obtain ⟨x, hx⟩ : ∃ x, ((s.die.dropMsg l 2).adoptEpoch (msgEpoch m)).onFlk (fun k => { k with parent := l, lastSync := if k.parent = l then k.lastSync else none }) = x := ⟨_, rfl⟩
  have hgo : State.takeoverAct l m { s with die := s.die.dropMsg l 2 } = { s with die := x.forward 2 m } := by
    rw [← hx]
    exact if_pos hep
  have hkept : (s.die.dropMsg l 2).linksKept (R.FLK_STATUS_EPOCH.key 0) x := by
    rw [← hx]
    exact hadopt.trans (Die.linksKept_of _ rfl rfl rfl rfl rfl rfl)
  have hxe : x.epoch = msgEpoch m := by
    have h1 : x.epoch = ((s.die.dropMsg l 2).adoptEpoch (msgEpoch m)).epoch := by rw [← hx]; rfl
    rw [h1, hepoch]
    exact Nat.max_eq_right hep
  have hxp : x.flk.parent = l := by rw [← hx]; rfl
  have hlinks : s.die.sameLinks x := by
    refine Die.sameLinks.trans (b := s.die.dropMsg l 2) ⟨rfl, rfl, rfl, fun _ _ => rfl⟩ (hkept.sameLinks rfl)
  have hline := x.lineOnly_forward 2 m
  rw [hgo] at hexec
  refine State.takes_of _ hexec (hkept.trans (hline.linksKept _)) ⟨?_, ?_, fun hrole => ?_⟩
  · exact (Die.get_congr _ _ hline.regs _ _).trans hxe
  · rw [hline.frame]
    exact hxp
  · exact hlinks.spreads (x.forward_spreads 2 m (hlinks.role.trans hrole))

/-- Settles O40: joining, the SYNC of a link and its samples, the SYNC that fails to come, and the takeovers. -/
theorem flockJoins : Obligations.FlockJoins := by
  unfold Obligations.FlockJoins
  intro s
  dsimp only
  refine ⟨fun l m h hl => ?_, fun l m h hl => ?_, fun l m h hl hp hr => s.welcome_takes l m h hl hp hr, fun l hs hj hr hp => ?_, fun caps hfc => ?_,
    fun l f n r hl h63 hcheck hrole hp hpl hep hjoin hlast hseq habs => ?_, fun h => s.phaseStep_steps h, fun h => s.syncMiss_misses h, ⟨fun h => ?_, fun h => ?_⟩,
    fun l m h hl hep => s.takeover_takes l m h hl hep⟩
  · obtain ⟨e, hexec, hkept, hq, h1, h2, hframe, hother⟩ := s.join_joins l m h hl
    exact State.takes_of 0 hexec hkept ⟨hq, h1, h2, hframe, hother⟩
  · have hexec : exec (.join l) s = .next { s with die := (s.die.dropMsg l 1).count T.FLK_MSG_BAD 0 } :=
      msgCmd_bad false 1 1 l (State.joinAct l) s m h (by simpa using hl)
    have hcount := (s.die.dropMsg l 1).report_count T.FLK_MSG_BAD 0
    refine State.takes_of 0 hexec (Die.linksKept_report 0 hcount) ⟨Die.tally_count_exact T.FLK_MSG_BAD 0 (s.die.dropMsg l 1) rfl, ?_⟩
    rw [hcount.1]
    rfl
  · obtain ⟨hframe, hq⟩ := s.die.sendJoin_asks s.fused l hs hr hp
    have hexec : exec .joinRetry s = .next { s with die := s.die.sendJoin s.fused } :=
      congrArg Host.Outcome.next (congrArg (fun d => ({ s with die := d } : State)) (if_pos ⟨hs, List.contains_iff_mem.2 hj⟩))
    exact ⟨_, hexec, congrArg (fun d => ({ s with die := d } : State)) hframe, hq⟩
  · obtain ⟨hsync, hall, -, -⟩ := Die.syncTo_all s.cel caps s.die ((List.range 64).filter (fun l => s.die.flockLane l && s.die.laneState l == 4))
      (List.nodup_range.filter _) s.die s.die.synced_refl (fun _ _ => ⟨rfl, rfl⟩)
    have hexec : exec (.syncSend caps) s = .next { s with die :=
        ((List.range 64).filter (fun l => s.die.flockLane l && s.die.laneState l == 4)).foldl (fun d l => d.syncTo s.cel caps l) s.die } :=
      congrArg Host.Outcome.next (congrArg (fun d => ({ s with die := d } : State)) (if_pos hfc))
    exact ⟨_, hexec, congrArg (fun d => ({ s with die := d } : State)) hsync.frame, fun l hl => hall l hl⟩
  · obtain ⟨x, hexec, hseqd⟩ := s.sync_reaches l f hl h63 hcheck hp
    obtain ⟨hxrole, hxp, hxe, hxs, hxj, -⟩ := hseqd.place
    have hxpl : x.parentLane = some l := by
      rw [x.parentLane_low (by rw [hxrole]; exact hrole), hxp, hseqd.flk, ← s.die.parentLane_low hrole]
      exact hpl
    obtain ⟨y, hy, hyh, hyl, hyg, hyf, hyt, hyr⟩ := Die.syncFrame_samples l (frameView f).h2.toNat (s.cel.capFc (58 + l) false f.cap) n r (frameView f).payload x
      (by rw [hxrole]; exact hrole) (by rw [hxp]; exact hp) hxpl (hep.trans hxe.symm) (hxj.trans hjoin) (by rw [hseqd.flk]; exact hlast) hseq (by rw [hseqd.flk]; exact habs)
    rw [hy, hseqd.regs R.LNK_DELAY_VALUE l (reportWord_lnk _ l rfl hl (by decide) (by decide))] at hexec
    generalize sdiff 64 (r % 2 ^ 64) (low ((leNat (slice (frameView f).payload 0 8) : Int) + sext (s.die.get R.LNK_DELAY_VALUE l) 32) 64) = o at hexec ⊢
    have hys : y.get R.FLK_STATUS_STATE = s.die.get R.FLK_STATUS_STATE := (Die.get_congr _ _ hyr _ _).trans hxs
    have hsam := y.sampled_samples o
    have hcor := (y.sampled o).corrected_corrects o
    have hyfc : y.fc = s.die.fc := hyf.trans hseqd.fc
    have hytal : y.tally T.FLK_FC_STEP = s.die.tally T.FLK_FC_STEP := by
      rw [Die.tally, hyt]
      exact hseqd.step
    have hygood : y.flk.good = s.die.flk.good := hyg.trans (by rw [hseqd.flk])
    rw [Die.onSample_eq] at hexec
    refine ⟨_, hexec, rfl, hcor.hold.trans (hsam.hold.trans hyh), hcor.miss.trans hsam.miss, hcor.offset.trans hsam.offset, fun ho => ⟨?_, ?_⟩, fun ho => ⟨?_, ?_⟩,
      hcor.far, hcor.ahead, fun h1 h2 => ⟨(hcor.near h1 h2).1, ?_, fun hst h15 hsmall => ?_⟩⟩
    · rw [(hcor.back ho).1, hsam.fc, hyfc]
    · rw [(hcor.back ho).2, Die.tally, hsam.tallies]
      exact congrArg (tallyAdd · 1) hytal
    · exact ((hcor.stay ho).1.trans hsam.fc).trans hyfc
    · exact ((hcor.stay ho).2.trans hsam.last).trans hyl
    · rw [(hcor.near h1 h2).2.1]
      split
      · next hsmall => rw [hsam.good (by omega), hygood]
      · rfl
    · exact (hcor.near h1 h2).2.2 (hsam.joining (hys.trans hst)) (by rw [hsam.good (by omega), hygood]; exact h15) hsmall
  · exact ⟨_, rfl, rfl, s.die.standbyTakeover_takes.1 h⟩
  · exact congrArg Host.Outcome.next (congrArg (fun d => ({ s with die := d } : State)) (s.die.standbyTakeover_takes.2 h))

end Sys2Proof.Machine
end

section
/-! SUPPORT. The flock's updates (R464, R465, R467 to R472). -/

namespace Sys2Proof.Machine

theorem Die.sameLinks_regs {d e : Die} (h : e.regs = d.regs) : d.sameLinks e := Die.sameLinks_of (fun _ _ _ => Die.get_congr _ _ h _ _)

theorem Die.lineOnly.sameLinks {d e : Die} (h : d.lineOnly e) : d.sameLinks e := Die.sameLinks_regs h.regs

theorem Die.lineOnly.same {d e : Die} (h : d.lineOnly e) : e.flk = d.flk ∧ e.tallies = d.tallies := by
  rw [h.frame]
  exact ⟨rfl, rfl⟩

theorem Die.report_flk {d e : Die} (h : d.report e) : e.flk = d.flk := by rw [h.1]

/-- A message from a link that is used up: what its command does on the die without it. -/
theorem State.takes_act {s : State} {c : Instr} {l cls type : Nat} {down : Bool} {m : List Byte} {e : Die} {P : Die → Prop} (j : Nat) (f : List Byte → State → State)
    (hc : exec c s = msgCmd down cls type l f s) (h : s.die.brings l cls type m)
    (hl : (if down then s.die.parentLanes.contains l else s.die.childLanes.contains l) = true)
    (hf : f m { s with die := s.die.dropMsg l cls } = { s with die := e }) (hk : (s.die.dropMsg l cls).linksKept j e) (hP : P e) : s.takes c l cls P :=
  State.takes_of j (hc.trans ((msgCmd_takes down cls type l f s m h hl).trans (congrArg Host.Outcome.next hf))) hk hP

/-- LAUNCH_AT at a device (R464). -/
def State.launchAtAct (m : List Byte) (s : State) : State :=
  if ({ s with die := s.die.forward 1 m } : State).die.role = 1 then State.agreedLaunch m { s with die := s.die.forward 1 m } else { s with die := s.die.forward 1 m }

theorem State.launchAt_forwards (s : State) (l : Nat) (m : List Byte) (h : s.die.brings l 1 3 m) (hl : l ∈ s.die.parentLanes) (hrole : s.die.role = 2) :
    s.takes (.launchAt l) l 1 (fun e => s.die.spreads e 1 m ∧ e.launch = s.die.launch) := by
  have hline := (s.die.dropMsg l 1).lineOnly_forward 1 m
  have hfrole : ((s.die.dropMsg l 1).forward 1 m).role = s.die.role := Die.get_congr _ _ hline.regs _ _
  refine State.takes_act (m := m) (e := (s.die.dropMsg l 1).forward 1 m) 0 State.launchAtAct rfl h (by simpa using hl) ?_ (hline.linksKept 0)
    ⟨(s.die.dropMsg l 1).forward_spreads 1 m hrole, ?_⟩
  · exact if_neg (fun h1 => by rw [hfrole, hrole] at h1; cases h1)
  · rw [hline.frame]
    rfl

/-- The entry that an accepted launch puts on its queue (R388, R389). -/
theorem State.actLaunch_queues (s : State) (c : ActCtx) (tm : Template) (x : LaunchDesc) (patches : List (Nat × List Byte)) (payload : List Byte) (f : Nat)
    (hmay : s.die.mayLaunch c.pasture tm.kind tm.port = true) (hgate : s.gate c.pasture = 0) (hag : s.die.agrees = true) (hp : c.pasture < 64)
    (hroom : (KMap.get [] s.die.launch (c.pasture * 8 + x.queue)).length < 32) :
    (s.actLaunch c tm x patches payload (some f)).kill = s.kill
    ∧ (s.actLaunch c tm x patches payload (some f)).cel = (if s.die.audited c.pasture then { s.cel with reserved := s.cel.reserved + 1 } else s.cel)
    ∧ ∃ e : LaunchEnt, KMap.get [] (s.actLaunch c tm x patches payload (some f)).die.launch (c.pasture * 8 + x.queue)
        = KMap.get [] s.die.launch (c.pasture * 8 + x.queue) ++ [e]
      ∧ e.pasture = c.pasture ∧ e.agreed = true ∧ e.mode = 1 ∧ e.target = f ∧ e.template = tm.number ∧ e.kind = tm.kind ∧ e.port = tm.port ∧ e.image = c.image
      ∧ e.evid = c.evid := by
  obtain ⟨d, hd⟩ : ∃ d, ((s.reserve c.pasture).die.stage 1 0 c.pasture c.evid c.slot 5) = d := ⟨_, rfl⟩
  obtain ⟨e, he⟩ : ∃ e : LaunchEnt, e =
      { pasture := c.pasture, queue := x.queue, kind := tm.kind, port := tm.port, alt := tm.alt, template := tm.number, mode := 1, target := f, win := x.win
        bytes := fixFrame tm (patches.foldl (fun b q => overlay b q.1 q.2) tm.bytes), tstamp := tm.tstamp, tb := c.tb, evid := c.evid, inFc16 := c.inFc16
        image := c.image, audited := s.die.audited c.pasture, agreed := true } := ⟨_, rfl⟩
  have hstage := (s.reserve c.pasture).die.report_stage 1 0 c.pasture c.evid c.slot 5 hp
  have hres : (s.reserve c.pasture).die = s.die ∧ (s.reserve c.pasture).kill = s.kill
      ∧ (s.reserve c.pasture).cel = (if s.die.audited c.pasture then { s.cel with reserved := s.cel.reserved + 1 } else s.cel) := by
    unfold State.reserve
    split <;> exact ⟨rfl, rfl, rfl⟩
  have hlaunch : d.launch = s.die.launch := by
    rw [← hd]
    exact (Die.report_ports hstage).2.trans (congrArg Die.launch hres.1)
  have hkey : e.key = c.pasture * 8 + x.queue := by rw [he]; rfl
  have hact : s.actLaunch c tm x patches payload (some f) = State.enqueue e { s.reserve c.pasture with die := d } := by
    unfold State.actLaunch
    dsimp only
    rw [if_neg (by rw [hmay]; exact Bool.false_ne_true), if_pos hgate, if_neg (by rw [hag]; simp), hd, he]
    simp
  have hroom' : (KMap.get [] d.launch e.key).length < 32 := by
    rw [hlaunch, hkey]
    exact hroom
  have henq : State.enqueue e { s.reserve c.pasture with die := d }
      = { s.reserve c.pasture with die := { d with launch := KMap.set [] d.launch e.key (KMap.get [] d.launch e.key ++ [e]) } } := if_pos hroom'
  rw [hact, henq]
  refine ⟨hres.2.1, hres.2.2, e, ?_, ?_⟩
  · change KMap.get [] (KMap.set [] d.launch e.key (KMap.get [] d.launch e.key ++ [e])) (c.pasture * 8 + x.queue) = _
    rw [← hkey, KMap.get_set_same, hlaunch]
  · rw [he]
    exact ⟨rfl, rfl, rfl, rfl, rfl, rfl, rfl, rfl, rfl⟩

/-- A worker queues an agreed launch (R464, R465). -/
theorem State.launchAt_queues (s : State) (l : Nat) (m : List Byte) (p : Nat) (im : Image) (tm : Template) (pl : PatchList)
    (h : s.die.brings l 1 3 m) (hl : l ∈ s.die.parentLanes) (hrole : s.die.role = 1) (hp : s.die.pastureOf (msgImage m) = some p) (him : s.die.image p = some im)
    (htm : im.templates.find? (fun t => t.number == leNat (slice (msgBody m) 14 2)) = some tm)
    (hpl : im.patchLists.find? (fun y => y.number == (byteAt (msgBody m) 16).toNat) = some pl) :
    (s.die.on R.FAB_REPLAY_ENABLE p = true → s.takes (.launchAt l) l 1 (fun e => e.launch = s.die.launch))
    ∧ (s.die.on R.FAB_REPLAY_ENABLE p = false → s.die.mayLaunch p tm.kind tm.port = true → s.gate p = 0 → s.die.agrees = true →
        (KMap.get [] s.die.launch (p * 8 + (byteAt (msgBody m) 17).toNat % 8)).length < 32 → s.completes (.launchAt l) (fun t => t.kill = s.kill
          ∧ t.cel = (if s.die.audited p then { s.cel with reserved := s.cel.reserved + 1 } else s.cel)
          ∧ ∃ x, KMap.get [] t.die.launch (p * 8 + (byteAt (msgBody m) 17).toNat % 8)
              = KMap.get [] s.die.launch (p * 8 + (byteAt (msgBody m) 17).toNat % 8) ++ [x] ∧ x.pasture = p ∧ x.agreed = true ∧ x.mode = 1
            ∧ x.target = leNat (slice (msgBody m) 0 8) ∧ x.template = tm.number ∧ x.kind = tm.kind ∧ x.port = tm.port ∧ x.image = im.imageId
            ∧ x.evid = leNat (slice (msgBody m) 8 6))) := by
  have hp64 : p < 64 := List.mem_range.1 (List.mem_of_find?_eq_some hp)
  obtain ⟨u, hu⟩ : ∃ u : State, { s with die := s.die.dropMsg l 1 } = u := ⟨_, rfl⟩
  have hfwd : (s.die.dropMsg l 1).forward 1 m = s.die.dropMsg l 1 := if_neg (fun h1 => by
    change s.die.role = 2 ∨ s.die.role = 3 at h1
    omega)
  have hact : State.launchAtAct m { s with die := s.die.dropMsg l 1 } = State.agreedLaunch m u := by
    unfold State.launchAtAct
    dsimp only
    rw [hfwd]
    exact (if_pos hrole).trans (congrArg (State.agreedLaunch m) hu)
  have hq : bits (byteAt (msgBody m) 17).toNat 0 3 = (byteAt (msgBody m) 17).toNat % 8 := by
    rw [bits, Nat.pow_zero, Nat.div_one]
    rfl
  have hgo : State.agreedLaunch m u = if s.die.on R.FAB_REPLAY_ENABLE p then u
      else u.actLaunch ⟨p, leNat (slice (msgBody m) 8 6), 0, {}, 16 * u.die.fc, u.die.fc, im.imageId, 0, 0⟩ tm
        { number := pl.desc, mode := 1, base := 0, tb := 9, queue := (byteAt (msgBody m) 17).toNat % 8 }
        (pl.patches.map (patchBytes ⟨p, leNat (slice (msgBody m) 8 6), 0, {}, 16 * u.die.fc, u.die.fc, im.imageId, 0, 0⟩ (slice (msgBody m) 20 24)))
        (slice (msgBody m) 20 24) (some (leNat (slice (msgBody m) 0 8))) := by
    have hpu : u.die.pastureOf (msgImage m) = some p := by rw [← hu]; exact hp
    have hiu : u.die.image p = some im := by rw [← hu]; exact him
    have hru : u.die.on R.FAB_REPLAY_ENABLE p = s.die.on R.FAB_REPLAY_ENABLE p := by rw [← hu]; rfl
    unfold State.agreedLaunch
    dsimp only
    rw [hpu]
    dsimp only
    rw [hiu]
    dsimp only
    rw [htm, hpl]
    dsimp only
    rw [hru]
  refine ⟨fun hrep => ?_, fun hrep hmay hgate hag hroom => ?_⟩
  · refine State.takes_act (m := m) (e := s.die.dropMsg l 1) 0 State.launchAtAct rfl h (by simpa using hl) ?_ (Die.linksKept_refl 0 _) rfl
    rw [hact, hgo, if_pos hrep, hu]
  · have hexec : exec (.launchAt l) s = .next (State.launchAtAct m { s with die := s.die.dropMsg l 1 }) :=
      msgCmd_takes true 1 3 l State.launchAtAct s m h (by simpa using hl)
    rw [hact, hgo, if_neg (by rw [hrep]; exact Bool.false_ne_true)] at hexec
    have hacts := u.actLaunch_queues ⟨p, leNat (slice (msgBody m) 8 6), 0, {}, 16 * u.die.fc, u.die.fc, im.imageId, 0, 0⟩ tm
      { number := pl.desc, mode := 1, base := 0, tb := 9, queue := (byteAt (msgBody m) 17).toNat % 8 }
      (pl.patches.map (patchBytes ⟨p, leNat (slice (msgBody m) 8 6), 0, {}, 16 * u.die.fc, u.die.fc, im.imageId, 0, 0⟩ (slice (msgBody m) 20 24)))
      (slice (msgBody m) 20 24) (leNat (slice (msgBody m) 0 8)) (by rw [← hu]; exact hmay) (by rw [← hu]; exact hgate) (by rw [← hu]; exact hag) hp64
      (by rw [← hu]; exact hroom)
    refine ⟨_, hexec, hacts.1.trans (by rw [← hu]), hacts.2.1.trans (by rw [← hu]; rfl), ?_⟩
    obtain ⟨e, hq, hall⟩ := hacts.2.2
    refine ⟨e, hq.trans (by rw [← hu]; rfl), hall⟩

/-- The COMMIT that closes a reduction (R468). -/
def commitMsgOf (epoch : Nat) (r : Reduction) (x : SetInfo) (v : Nat) : List Byte :=
  flkMsg 6 epoch r.image (leBytes 8 r.step ++ leBytes 8 (r.step + x.delay) ++ leBytes 4 x.members ++ leBytes 1 v ++ [0, 0, 0])

/-- The top shepherd closes a reduction: its totals and its COMMIT go down (R468). -/
theorem Die.closeReduction_closes (x : SetInfo) (r : Reduction) (d : Die) : d.linksKept 0 (d.closeReduction x r)
    ∧ (d.closeReduction x r).flk.reduction = none ∧ KMap.get 0 (d.closeReduction x r).flk.reduced r.image = r.step + 1
    ∧ d.spreads (d.closeReduction x r) 1 (commitMsgOf d.epoch r x (if r.lanes.isEmpty then 2 else 1))
    ∧ (r.lanes.isEmpty = true → (d.closeReduction x r).tally T.FLK_REDUCE_ABANDON = tallyAdd (d.tally T.FLK_REDUCE_ABANDON) 1) := by
  obtain ⟨u, hu⟩ : ∃ u, d.onFlk (fun k => { k with reduction := none, reduced := KMap.set 0 k.reduced r.image (r.step + 1) }) = u := ⟨_, rfl⟩
  have huflk : u.flk.reduction = none ∧ KMap.get 0 u.flk.reduced r.image = r.step + 1 := by
    rw [← hu]
    refine ⟨rfl, ?_⟩
    change KMap.get 0 (KMap.set 0 d.flk.reduced r.image (r.step + 1)) r.image = _
    exact KMap.get_set_same _ _ _ _
  have hukept : d.linksKept 0 u := by rw [← hu]; exact Die.linksKept_of 0 rfl rfl rfl rfl rfl rfl
  have hulinks : d.sameLinks u := by rw [← hu]; exact Die.sameLinks_regs rfl
  have huepoch : u.epoch = d.epoch := by rw [← hu]; rfl
  have hutal : u.tally T.FLK_REDUCE_ABANDON = d.tally T.FLK_REDUCE_ABANDON := by rw [← hu]; rfl
  cases hempty : r.lanes.isEmpty with
  | true =>
    obtain ⟨hline, hsp⟩ := u.sendDown_spreads 1 (commitMsgOf u.epoch r x 2)
    have hcount := (u.sendDown 1 (commitMsgOf u.epoch r x 2)).report_count T.FLK_REDUCE_ABANDON 0
    have hdef : d.closeReduction x r = (u.sendDown 1 (commitMsgOf u.epoch r x 2)).count T.FLK_REDUCE_ABANDON 0 := by
      unfold Die.closeReduction
      dsimp only
      rw [hu, if_pos hempty]
      rfl
    have hflk : (d.closeReduction x r).flk = u.flk := by
      rw [hdef]
      exact (Die.report_flk hcount).trans hline.same.1
    rw [hflk]
    refine ⟨?_, huflk.1, huflk.2, ?_, fun _ => ?_⟩
    · rw [hdef]
      exact hukept.trans ((hline.linksKept 0).trans (Die.linksKept_report 0 hcount))
    · rw [hdef, if_pos rfl, ← huepoch]
      exact fun c hc hstate => (Die.putAt_queued (by rw [hcount.1]) c 1 _).2 (hulinks.spreads hsp c hc hstate)
    · rw [hdef]
      refine (Die.tally_count_exact T.FLK_REDUCE_ABANDON 0 _ rfl).trans ?_
      rw [Die.tally, hline.same.2]
      exact congrArg (tallyAdd · 1) hutal
  | false =>
    obtain ⟨y, hy⟩ : ∃ y, (List.range x.chunks).foldl (fun d k => d.sendDown 1 (flkMsg 5 d.epoch r.image (chunkBody r k))) u = y := ⟨_, rfl⟩
    have hfold : u.lineOnly y := by
      rw [← hy]
      exact Die.lineOnly_foldl _ (fun d k => (d.sendDown_spreads 1 _).1) _ _
    have hyepoch : y.epoch = d.epoch := Eq.trans (Die.get_congr _ _ hfold.regs _ _) huepoch
    obtain ⟨hline, hsp⟩ := y.sendDown_spreads 1 (commitMsgOf y.epoch r x 1)
    have hdef : d.closeReduction x r = y.sendDown 1 (commitMsgOf y.epoch r x 1) := by
      unfold Die.closeReduction
      dsimp only
      rw [hu, if_neg (by rw [hempty]; exact Bool.false_ne_true), hy]
      rfl
    have hflk : (d.closeReduction x r).flk = u.flk := by
      rw [hdef]
      exact (hfold.trans hline).same.1
    rw [hflk]
    refine ⟨?_, huflk.1, huflk.2, ?_, fun h => Bool.noConfusion h⟩
    · rw [hdef]
      exact hukept.trans ((hfold.trans hline).linksKept 0)
    · rw [hdef, if_neg Bool.false_ne_true, ← hyepoch]
      exact (hulinks.trans hfold.sameLinks).spreads hsp

/-- A reduction with a chunk of a child in it (R467). -/
def Reduction.joined (l k : Nat) (b : List Byte) (r : Reduction) : Reduction :=
  { r with lanes := KMap.set [] r.lanes k (KMap.get [] r.lanes k ++ [l])
           sums := (List.range 19).foldl (fun s i => KMap.upd 0 s (19 * k + i) (· + (chunkSums b).getD i 0)) r.sums }

theorem KMap.get_adds (base : Nat) (f : Nat → Int) (n : Nat) (m : KMap Int) :
    (∀ i, i < n → KMap.get 0 ((List.range n).foldl (fun s i => KMap.upd 0 s (base + i) (· + f i)) m) (base + i) = KMap.get 0 m (base + i) + f i)
    ∧ ∀ i, n ≤ i → KMap.get 0 ((List.range n).foldl (fun s i => KMap.upd 0 s (base + i) (· + f i)) m) (base + i) = KMap.get 0 m (base + i) := by
  induction n with
  | zero => exact ⟨fun i hi => by omega, fun _ _ => rfl⟩
  | succ n ih =>
    obtain ⟨hin, hout⟩ := ih
    simp only [List.range_succ, List.foldl_append, List.foldl_cons, List.foldl_nil]
    refine ⟨fun i hi => ?_, fun i hi => ?_⟩
    · by_cases h : i = n
      · subst h
        rw [KMap.get_upd_same, hout i (Nat.le_refl _)]
      · rw [KMap.get_upd_other _ _ _ _ _ (by omega), hin i (by omega)]
    · rw [KMap.get_upd_other _ _ _ _ _ (by omega), hout i (by omega)]

/-- What a chunk makes of a reduction (R467). -/
theorem Reduction.joined_joins (l k : Nat) (b : List Byte) (r : Reduction) : KMap.get [] (r.joined l k b).lanes k = KMap.get [] r.lanes k ++ [l]
    ∧ (∀ i, i < 19 → KMap.get 0 (r.joined l k b).sums (19 * k + i) = KMap.get 0 r.sums (19 * k + i) + (chunkSums b).getD i 0)
    ∧ (r.joined l k b).lanes.isEmpty = false := by
  have hlanes : KMap.get [] (r.joined l k b).lanes k = KMap.get [] r.lanes k ++ [l] := KMap.get_set_same _ _ _ _
  have hadds := (KMap.get_adds (19 * k) (fun i => (chunkSums b).getD i 0) 19 r.sums).1
  refine ⟨hlanes, fun i hi => ?_, ?_⟩
  · have hdef : (r.joined l k b).sums = (List.range 19).foldl (fun s i => KMap.upd 0 s (19 * k + i) (· + (chunkSums b).getD i 0)) r.sums := by
      rw [Reduction.joined]
    rw [hdef]
    exact hadds i hi
  cases h : (r.joined l k b).lanes with
  | nil => rw [h] at hlanes; simp at hlanes
  | cons y ys => rfl

/-- The chunk is passed up once it is full (R468). -/
def Reduction.passed (full : Bool) (k : Nat) (r : Reduction) : Reduction := if full then { r with sent := r.sent ++ [k] } else r

/-- What follows a chunk at a shepherd (R467, R468). -/
def Die.chunkDone (x : SetInfo) (image step k : Nat) (full : Bool) (r : Reduction) (d : Die) : Die :=
  if d.isTop then (if (List.range x.chunks).all r.sent.contains then d.closeReduction x r else d)
  else
    if (List.range x.chunks).all r.sent.contains then
      (if full then d.sendUp 4 image (chunkBody r k) else d).onFlk (fun y => { y with reduction := none, reduced := KMap.set 0 y.reduced image (step + 1) })
    else (if full then d.sendUp 4 image (chunkBody r k) else d)

theorem Reduction.passed_same (full : Bool) (k : Nat) (r : Reduction) : (r.passed full k).image = r.image ∧ (r.passed full k).step = r.step
    ∧ (r.passed full k).lanes = r.lanes ∧ (r.passed full k).sums = r.sums ∧ (r.passed full k).sent = r.sent ++ (if full then [k] else []) := by
  unfold Reduction.passed
  cases full
  · exact ⟨rfl, rfl, rfl, rfl, (List.append_nil _).symm⟩
  · exact ⟨rfl, rfl, rfl, rfl, rfl⟩

theorem Reduction.passed_all (full : Bool) (k n : Nat) (r : Reduction) : (List.range n).all (r.passed full k).sent.contains = true
    ↔ ∀ j, j < n → j ∈ r.sent ∨ (full = true ∧ j = k) := by
  rw [(r.passed_same full k).2.2.2.2]
  simp only [List.all_eq_true, List.mem_range, List.contains_iff_mem, List.mem_append]
  refine forall₂_congr (fun j _ => or_congr_right ?_)
  cases full <;> simp

/-- A chunk's sums go up as they stand (R467). -/
theorem chunkBody_of (r : Reduction) (k : Nat) (sum : Nat → Int) (h : ∀ i, i < 19 → KMap.get 0 r.sums (19 * k + i) = sum i) :
    chunkBody r k = leBytes 8 r.step ++ leBytes 4 k ++ (List.range 19).flatMap (fun i => s96Bytes (sum i)) := by
  unfold chunkBody
  congr 1
  exact List.flatMap_congr (fun i hi => by rw [h i (List.mem_range.1 hi)])

/-- What a chunk that has its place leaves (R467, R468). -/
theorem Die.chunkDone_does (x : SetInfo) (image step k : Nat) (full : Bool) (r : Reduction) (d : Die) (hr : d.flk.reduction = some r) (hri : r.image = image)
    (hrs : r.step = step) (hne : r.lanes.isEmpty = false) :
    d.linksKept 0 (d.chunkDone x image step k full r)
    ∧ (¬ (List.range x.chunks).all r.sent.contains = true → (d.chunkDone x image step k full r).flk.reduction = some r)
    ∧ ((List.range x.chunks).all r.sent.contains = true → (d.chunkDone x image step k full r).flk.reduction = none
        ∧ KMap.get 0 (d.chunkDone x image step k full r).flk.reduced image = step + 1)
    ∧ (∀ u, d.isTop = false → full = true → d.parentLane = some u → (d.chunkDone x image step k full r).queued u 1 (flkMsg 4 d.epoch image (chunkBody r k)))
    ∧ (d.isTop = true → (List.range x.chunks).all r.sent.contains = true → d.spreads (d.chunkDone x image step k full r) 1 (commitMsgOf d.epoch r x 1)) := by
  unfold Die.chunkDone
  cases htop : d.isTop with
  | true =>
    rw [if_pos rfl]
    obtain ⟨hkept, hnone, hred, hsp, -⟩ := d.closeReduction_closes x r
    by_cases hdone : (List.range x.chunks).all r.sent.contains = true
    · rw [if_pos hdone]
      rw [hne, if_neg Bool.false_ne_true] at hsp
      refine ⟨hkept, fun h => absurd hdone h, fun _ => ⟨hnone, ?_⟩, fun _ h => Bool.noConfusion h, fun _ _ => hsp⟩
      rw [← hri, ← hrs]
      exact hred
    · rw [if_neg hdone]
      exact ⟨d.linksKept_refl 0, fun _ => hr, fun h => absurd h hdone, fun _ h => Bool.noConfusion h, fun _ h => absurd h hdone⟩
  | false =>
    rw [if_neg Bool.false_ne_true]
    obtain ⟨e, he⟩ : ∃ e, (if full then d.sendUp 4 image (chunkBody r k) else d) = e := ⟨_, rfl⟩
    have hline : d.lineOnly e := by
      rw [← he]
      split
      · exact d.lineOnly_sendUp 4 image _
      · exact d.lineOnly_refl
    have hqueued (u : Nat) (hfull : full = true) (hp : d.parentLane = some u) : e.queued u 1 (flkMsg 4 d.epoch image (chunkBody r k)) := by
      rw [← he, if_pos hfull, Die.sendUp, hp]
      exact (d.sendRel_sends u 1 _).2
    rw [he]
    by_cases hdone : (List.range x.chunks).all r.sent.contains = true
    · rw [if_pos hdone]
      refine ⟨(hline.linksKept 0).trans (Die.linksKept_of 0 rfl rfl rfl rfl rfl rfl), fun h => absurd hdone h, fun _ => ⟨rfl, ?_⟩, fun u _ hfull hp => ?_, fun h => Bool.noConfusion h⟩
      · exact KMap.get_set_same (0 : Nat) e.flk.reduced image (step + 1)
      · exact (Die.putAt_queued rfl u 1 _).2 (hqueued u hfull hp)
    · rw [if_neg hdone]
      exact ⟨hline.linksKept 0, fun _ => by rw [hline.same.1]; exact hr, fun h => absurd h hdone, fun u _ hfull hp => hqueued u hfull hp, fun h => Bool.noConfusion h⟩

/-- Every child that holds the set has given its chunk (R467). -/
def Die.chunkFull (d : Die) (image k : Nat) (r : Reduction) : Bool := (d.holders image).all (fun c => (KMap.get [] r.lanes k).contains c)

/-- A chunk that has its place in a reduction (R467, R468). -/
def Die.chunkJoins (d : Die) (l : Nat) (x : SetInfo) (image step k : Nat) (q : Reduction) : Die :=
  ((d.dropMsg l 1).onFlk (fun y => { y with reduction := some (q.passed (d.chunkFull image k q) k) })).chunkDone x image step k (d.chunkFull image k q)
    (q.passed (d.chunkFull image k q) k)

/-- REDUCE at a shepherd (R467, R468). -/
theorem Die.reduceMsg_eq (l : Nat) (x : SetInfo) (m : List Byte) (d : Die) (r : Reduction)
    (hr : d.flk.reduction.getD { image := msgImage m, step := leNat (slice (msgBody m) 0 8) } = r) :
    d.reduceMsg l x m = if leNat (slice (msgBody m) 0 8) + 1 ≤ KMap.get 0 d.flk.reduced (msgImage m) then d.dropMsg l 1
      else if r.image ≠ msgImage m ∨ r.step ≠ leNat (slice (msgBody m) 0 8) then d
      else if (KMap.get [] r.lanes (leNat (slice (msgBody m) 8 4))).contains l then d.dropMsg l 1
      else d.chunkJoins l x (msgImage m) (leNat (slice (msgBody m) 0 8)) (leNat (slice (msgBody m) 8 4))
        (r.joined l (leNat (slice (msgBody m) 8 4)) (msgBody m)) := by
  subst hr
  unfold Die.reduceMsg
  rfl

theorem Die.reduceMsg_cases (l : Nat) (x : SetInfo) (m : List Byte) (d : Die) (r : Reduction)
    (hr : d.flk.reduction.getD { image := msgImage m, step := leNat (slice (msgBody m) 0 8) } = r) :
    (leNat (slice (msgBody m) 0 8) + 1 ≤ KMap.get 0 d.flk.reduced (msgImage m) → d.reduceMsg l x m = d.dropMsg l 1)
    ∧ (KMap.get 0 d.flk.reduced (msgImage m) ≤ leNat (slice (msgBody m) 0 8) → (r.image ≠ msgImage m ∨ r.step ≠ leNat (slice (msgBody m) 0 8)) → d.reduceMsg l x m = d)
    ∧ (KMap.get 0 d.flk.reduced (msgImage m) ≤ leNat (slice (msgBody m) 0 8) → r.image = msgImage m → r.step = leNat (slice (msgBody m) 0 8) →
        (l ∈ KMap.get [] r.lanes (leNat (slice (msgBody m) 8 4)) → d.reduceMsg l x m = d.dropMsg l 1)
        ∧ (l ∉ KMap.get [] r.lanes (leNat (slice (msgBody m) 8 4)) → d.reduceMsg l x m
            = d.chunkJoins l x (msgImage m) (leNat (slice (msgBody m) 0 8)) (leNat (slice (msgBody m) 8 4))
              (r.joined l (leNat (slice (msgBody m) 8 4)) (msgBody m)))) := by
  have heq := d.reduceMsg_eq l x m r hr
  generalize d.chunkJoins l x (msgImage m) (leNat (slice (msgBody m) 0 8)) (leNat (slice (msgBody m) 8 4)) (r.joined l (leNat (slice (msgBody m) 8 4)) (msgBody m)) = e at heq ⊢
  generalize leNat (slice (msgBody m) 0 8) = step at heq ⊢
  refine ⟨fun h => heq.trans (if_pos h), fun h hne => heq.trans ((if_neg (by omega)).trans (if_pos hne)), fun h hi hs => ⟨fun hin => ?_, fun hout => ?_⟩⟩
  · exact heq.trans ((if_neg (by omega)).trans ((if_neg (by simp [hi, hs])).trans (if_pos (List.contains_iff_mem.2 hin))))
  · exact heq.trans ((if_neg (by omega)).trans ((if_neg (by simp [hi, hs])).trans (if_neg (by simpa using hout))))

/-- REDUCE from a child (R467, R468). -/
theorem State.reduce_exec (s : State) (l : Nat) (x : SetInfo) (m : List Byte) (h : s.die.brings l 1 4 m) (hl : l ∈ s.die.childLanes) (hrole : s.die.role = 2 ∨ s.die.role = 3) :
    exec (.reduce l x) s = .next { s with die := s.die.reduceMsg l x m } := by
  have hexec : exec (.reduce l x) s = .next { s with die := match s.die.msgOf l 1 4 with
    | none => s.die
    | some m =>
      if (s.die.role = 2 ∨ s.die.role = 3) ∧ s.die.childLanes.contains l then s.die.reduceMsg l x m else (s.die.dropMsg l 1).count T.FLK_MSG_BAD 0 } :=
    if_pos (decide_eq_true h.1)
  rw [hexec, h.2]
  exact congrArg (fun d => Host.Outcome.next ({ s with die := d } : State)) (if_pos ⟨hrole, List.contains_iff_mem.2 hl⟩)

/-- A chunk that has its place in the reduction in progress (R467, R468). -/
theorem State.reduce_joins (s : State) (l : Nat) (x : SetInfo) (m : List Byte) (r : Reduction) (h : s.die.brings l 1 4 m) (hl : l ∈ s.die.childLanes)
    (hrole : s.die.role = 2 ∨ s.die.role = 3) (hr : s.die.flk.reduction.getD { image := msgImage m, step := leNat (slice (msgBody m) 0 8) } = r)
    (k step image : Nat) (hk : leNat (slice (msgBody m) 8 4) = k) (hstep : leNat (slice (msgBody m) 0 8) = step) (himage : msgImage m = image)
    (hle : KMap.get 0 s.die.flk.reduced image ≤ step) (hi : r.image = image) (hs : r.step = step) (hout : l ∉ KMap.get [] r.lanes k)
    (sum : Nat → Int) (hsum : ∀ i, sum i = KMap.get 0 r.sums (19 * k + i) + (chunkSums (msgBody m)).getD i 0)
    (full done : Prop) (hfull : full ↔ ∀ c ∈ s.die.holders image, c = l ∨ c ∈ KMap.get [] r.lanes k)
    (hdone : done ↔ ∀ j, j < x.chunks → j ∈ r.sent ∨ (full ∧ j = k)) :
    s.takes (.reduce l x) l 1 (fun e =>
      (¬ done → ∃ y, e.flk.reduction = some y ∧ KMap.get [] y.lanes k = KMap.get [] r.lanes k ++ [l] ∧ (∀ i, i < 19 → KMap.get 0 y.sums (19 * k + i) = sum i)
          ∧ y.image = image ∧ y.step = step)
      ∧ (done → e.flk.reduction = none ∧ KMap.get 0 e.flk.reduced image = step + 1)
      ∧ (∀ u, s.die.isTop = false → full → s.die.parentLane = some u → e.queued u 1 (flkMsg 4 s.die.epoch image
          (leBytes 8 step ++ leBytes 4 k ++ (List.range 19).flatMap (fun i => s96Bytes (sum i)))))
      ∧ (s.die.isTop = true → done → s.die.spreads e 1
          (flkMsg 6 s.die.epoch image (leBytes 8 step ++ leBytes 8 (step + x.delay) ++ leBytes 4 x.members ++ leBytes 1 1 ++ [0, 0, 0])))) := by
  subst hk hstep himage
  obtain ⟨-, -, hcases⟩ := Die.reduceMsg_cases l x m s.die r hr
  have hmsg := (hcases hle hi hs).2 hout
  obtain ⟨hjl, hjs, hje⟩ := Reduction.joined_joins l (leNat (slice (msgBody m) 8 4)) (msgBody m) r
  obtain ⟨q, hq⟩ : ∃ q, r.joined l (leNat (slice (msgBody m) 8 4)) (msgBody m) = q := ⟨_, rfl⟩
  have hqi : q.image = r.image ∧ q.step = r.step ∧ q.sent = r.sent := by rw [← hq]; exact ⟨rfl, rfl, rfl⟩
  rw [hq] at hmsg hjl hjs hje
  unfold Die.chunkJoins at hmsg
  obtain ⟨f, hf⟩ : ∃ f, s.die.chunkFull (msgImage m) (leNat (slice (msgBody m) 8 4)) q = f := ⟨_, rfl⟩
  have hff : f = true ↔ full := by
    rw [hfull, ← hf, Die.chunkFull, hjl]
    simp only [List.all_eq_true, List.contains_iff_mem, List.mem_append, List.mem_singleton]
    exact forall₂_congr (fun c _ => or_comm)
  rw [hf] at hmsg
  obtain ⟨hpi, hps, hpl, hpsum, -⟩ := q.passed_same f (leNat (slice (msgBody m) 8 4))
  have hpd := q.passed_all f (leNat (slice (msgBody m) 8 4)) x.chunks
  obtain ⟨p, hp⟩ : ∃ p, q.passed f (leNat (slice (msgBody m) 8 4)) = p := ⟨_, rfl⟩
  rw [hp] at hmsg hpi hps hpl hpsum hpd
  have hpdone : (List.range x.chunks).all p.sent.contains = true ↔ done := by
    rw [hpd, hdone, hqi.2.2, hff]
  obtain ⟨u, hu⟩ : ∃ u, (s.die.dropMsg l 1).onFlk (fun y => { y with reduction := some p }) = u := ⟨_, rfl⟩
  rw [hu] at hmsg
  have hured : u.flk.reduction = some p := by rw [← hu]; rfl
  have hutop : u.isTop = s.die.isTop := by rw [← hu]; rfl
  have huparent : u.parentLane = s.die.parentLane := by rw [← hu]; rfl
  have huepoch : u.epoch = s.die.epoch := by rw [← hu]; rfl
  have hukept : (s.die.dropMsg l 1).linksKept 0 u := by rw [← hu]; exact Die.linksKept_of 0 rfl rfl rfl rfl rfl rfl
  have hulinks : s.die.sameLinks u := by rw [← hu]; exact Die.sameLinks_regs rfl
  obtain ⟨hkept, hopen, hended, hup, hdown⟩ := u.chunkDone_does x (msgImage m) (leNat (slice (msgBody m) 0 8)) (leNat (slice (msgBody m) 8 4)) f p hured
    (hpi.trans (hqi.1.trans hi)) (hps.trans (hqi.2.1.trans hs)) (by rw [hpl]; exact hje)
  have hexec := s.reduce_exec l x m h hl hrole
  rw [hmsg] at hexec
  have hpsums (i : Nat) (h19 : i < 19) : KMap.get 0 p.sums (19 * leNat (slice (msgBody m) 8 4) + i) = sum i := by rw [hpsum, hjs i h19, hsum]
  refine State.takes_of 0 hexec (hukept.trans hkept) ⟨fun hno => ⟨p, hopen (fun hd => hno (hpdone.1 hd)), by rw [hpl, hjl], hpsums, hpi.trans (hqi.1.trans hi),
    hps.trans (hqi.2.1.trans hs)⟩, fun hd => hended (hpdone.2 hd), fun v htop hfl hpar => ?_, fun htop hd => ?_⟩
  · have hsend := hup v (hutop.trans htop) (hff.2 hfl) (huparent.trans hpar)
    rw [huepoch, chunkBody_of p _ sum hpsums, hps, hqi.2.1, hs] at hsend
    exact hsend
  · have hsend := hulinks.spreads (hdown (hutop.trans htop) (hpdone.2 hd))
    unfold commitMsgOf at hsend
    rw [huepoch, hpi, hqi.1, hi, hps, hqi.2.1, hs] at hsend
    exact hsend

/-- The member of an image is found in the engines and the grants. -/
theorem Die.member_spec {d : Die} {image : Nat} {x : UpdCtx} (h : d.member image = some x) : x.e < 8 ∧ x.p < 64 := by
  obtain ⟨e, he, hx⟩ := List.exists_of_findSome?_eq_some h
  split at hx
  · next y hy =>
    split at hx
    · cases hx
      obtain ⟨h1, h2, -⟩ := Die.updCtx_spec hy
      exact ⟨h1 ▸ List.mem_range.1 he, h2⟩
    · cases hx
  · cases hx

theorem Die.member_same {d e : Die} (hg : e.grants = d.grants) (hp : e.pas = d.pas) : e.member = d.member := by
  have hctx : e.updCtx = d.updCtx := by
    funext k
    unfold Die.updCtx Die.updOwner Die.grant Die.image Die.pasture
    rw [hg, hp]
  funext image
  unfold Die.member
  rw [hctx]

theorem Die.runOf_same {d e : Die} (h : e.upd = d.upd) (x : UpdCtx) (step : Nat) : e.runOf x step = d.runOf x step := by
  unfold Die.runOf Die.updSt
  rw [h]

theorem Die.runOf_spec {d : Die} {x : UpdCtx} {step : Nat} {run : UpdRun} (h : d.runOf x step = some run) : (d.updSt x.e).run = some run := by
  unfold Die.runOf at h
  split at h
  · next r hr =>
    split at h
    · cases h; exact hr
    · cases h
  · cases h

theorem Die.lineOnly.units {d e : Die} (h : d.lineOnly e) : e.upd = d.upd ∧ e.grants = d.grants ∧ e.pas = d.pas ∧ e.eng = d.eng := by
  rw [h.frame]
  exact ⟨rfl, rfl, rfl, rfl⟩

/-- Totals by weight (R468). -/
theorem KMap.get_setAt (key : Nat → Nat) (v : Nat → Int) (n : Nat) (hinj : ∀ i j, i < n → j < n → key i = key j → i = j) (m : KMap Int) (i : Nat) (hi : i < n) :
    KMap.get 0 ((List.range n).foldl (fun s i => KMap.set 0 s (key i) (v i)) m) (key i) = v i := by
  induction n with
  | zero => omega
  | succ n ih =>
    simp only [List.range_succ, List.foldl_append, List.foldl_cons, List.foldl_nil]
    by_cases h : i = n
    · subst h
      exact KMap.get_set_same _ _ _ _
    · rw [KMap.get_set_ne _ _ _ _ _ _ (fun hk => h (hinj i n hi (Nat.lt_succ_self n) hk))]
      exact ih (fun a b ha hb => hinj a b (by omega) (by omega)) (by omega)

/-- The totals of a chunk at a member (R468). -/
def Die.totalled (x : UpdCtx) (keys : List Nat) (b : List Byte) (n : Nat) (d : Die) : Die :=
  (List.range n).foldl (fun d i =>
    (d.onUpd x.e (fun u => { u with sums := KMap.set 0 u.sums (keys.getD i 0) ((chunkSums b).getD i 0) })).eccClear 9 (updLoc x.e (keys.getD i 0))) d

theorem Die.totalled_totals (x : UpdCtx) (keys : List Nat) (b : List Byte) (n : Nat) (d : Die) : d.linksKept 0 (d.totalled x keys b n)
    ∧ (d.totalled x keys b n).updSt x.e = { d.updSt x.e with
        sums := (List.range n).foldl (fun s i => KMap.set 0 s (keys.getD i 0) ((chunkSums b).getD i 0)) (d.updSt x.e).sums }
    ∧ (d.totalled x keys b n).lanes = d.lanes := by
  induction n with
  | zero => exact ⟨d.linksKept_refl 0, rfl, rfl⟩
  | succ n ih =>
    obtain ⟨hkept, hupd, hlanes⟩ := ih
    have hstep : d.totalled x keys b (n + 1) = ((d.totalled x keys b n).onUpd x.e (fun u => { u with sums := KMap.set 0 u.sums (keys.getD n 0) ((chunkSums b).getD n 0) })).eccClear 9
        (updLoc x.e (keys.getD n 0)) := by
      unfold Die.totalled
      rw [List.range_succ, List.foldl_append, List.foldl_cons, List.foldl_nil]
    have hst : (d.totalled x keys b (n + 1)).updSt x.e
        = { (d.totalled x keys b n).updSt x.e with sums := KMap.set 0 ((d.totalled x keys b n).updSt x.e).sums (keys.getD n 0) ((chunkSums b).getD n 0) } := by
      rw [hstep]
      exact Die.updSt_onUpd_same x.e (fun u => { u with sums := KMap.set 0 u.sums (keys.getD n 0) ((chunkSums b).getD n 0) }) (d.totalled x keys b n)
    refine ⟨?_, ?_, ?_⟩
    · rw [hstep]
      exact hkept.trans (Die.linksKept_of 0 rfl rfl rfl rfl rfl rfl)
    · rw [hst, hupd, List.range_succ, List.foldl_append, List.foldl_cons, List.foldl_nil]
    · rw [hstep]
      exact hlanes

/-- TOTAL at a member whose update of the step is in progress (R468). -/
def Die.totalMsg (l : Nat) (x : UpdCtx) (k : Nat) (keys : List Nat) (m : List Byte) (d : Die) : Die :=
  if d.get R.UPD_STATUS_PHASE x.e < 3 then d
  else (((d.dropMsg l 1).forward 1 m).totalled x keys (msgBody m) keys.length).onRun x.e
    (fun r => { r with chunks := if r.chunks.contains k then r.chunks else r.chunks ++ [k] })

theorem State.total_exec (s : State) (l : Nat) (m : List Byte) (x : UpdCtx) (run : UpdRun) (h : s.die.brings l 1 5 m) (hl : l ∈ s.die.parentLanes)
    (hx : s.die.member (msgImage m) = some x) (hrun : s.die.runOf x (leNat (slice (msgBody m) 0 8)) = some run) :
    exec (.total l) s = .next { s with die := s.die.totalMsg l x (leNat (slice (msgBody m) 8 4)) ((x.keys.drop (19 * leNat (slice (msgBody m) 8 4))).take 19) m } := by
  have hgo : exec (.total l) s = execTotal l s := rfl
  rw [hgo]
  unfold execTotal
  refine (if_pos (decide_eq_true h.1)).trans ?_
  dsimp only
  rw [h.2]
  dsimp only
  rw [List.contains_iff_mem.2 hl, hx]
  dsimp only
  rw [hrun]
  rfl

theorem State.total_takes (s : State) (l : Nat) (m : List Byte) (x : UpdCtx) (run : UpdRun) (h : s.die.brings l 1 5 m) (hl : l ∈ s.die.parentLanes)
    (hx : s.die.member (msgImage m) = some x) (hrun : s.die.runOf x (leNat (slice (msgBody m) 0 8)) = some run) (k : Nat) (hk : leNat (slice (msgBody m) 8 4) = k)
    (keys : List Nat) (hkeys : (x.keys.drop (19 * k)).take 19 = keys) :
    (s.die.get R.UPD_STATUS_PHASE x.e < 3 → exec (.total l) s = .next s)
    ∧ (3 ≤ s.die.get R.UPD_STATUS_PHASE x.e → keys.Nodup → s.takes (.total l) l 1 (fun e =>
        (∀ i, i < keys.length → KMap.get 0 (e.updSt x.e).sums (keys.getD i 0) = (chunkSums (msgBody m)).getD i 0)
        ∧ (e.updSt x.e).run = some { run with chunks := if k ∈ run.chunks then run.chunks else run.chunks ++ [k] }
        ∧ (e.updSt x.e).masters = (s.die.updSt x.e).masters ∧ (s.die.role = 2 → s.die.spreads e 1 m))) := by
  have hexec := s.total_exec l m x run h hl hx hrun
  rw [hk, hkeys] at hexec
  refine ⟨fun hph => hexec.trans ?_, fun hph hnd => ?_⟩
  · rw [Die.totalMsg, if_pos hph]
  · rw [Die.totalMsg, if_neg (by omega)] at hexec
    obtain ⟨y, hy⟩ : ∃ y, (s.die.dropMsg l 1).forward 1 m = y := ⟨_, rfl⟩
    have hline : (s.die.dropMsg l 1).lineOnly y := by rw [← hy]; exact Die.lineOnly_forward 1 m _
    rw [hy] at hexec
    obtain ⟨hkept, hupd, hlanes⟩ := y.totalled_totals x keys (msgBody m) keys.length
    have hyupd : y.updSt x.e = s.die.updSt x.e := by
      rw [Die.updSt, Die.updSt, hline.units.1]
      rfl
    have hsums : ∀ i, i < keys.length → KMap.get 0 ((List.range keys.length).foldl (fun s i => KMap.set 0 s (keys.getD i 0) ((chunkSums (msgBody m)).getD i 0)) (y.updSt x.e).sums)
        (keys.getD i 0) = (chunkSums (msgBody m)).getD i 0 := by
      refine fun i hi => KMap.get_setAt (fun i => keys.getD i 0) (fun i => (chunkSums (msgBody m)).getD i 0) keys.length (fun a b ha hb hab => ?_) _ i hi
      change keys.getD a 0 = keys.getD b 0 at hab
      rw [List.getD_eq_getElem _ _ ha, List.getD_eq_getElem _ _ hb] at hab
      exact (List.Nodup.getElem_inj_iff hnd).1 hab
    have hon (f : UpdRun → UpdRun) : ((y.totalled x keys (msgBody m) keys.length).onRun x.e f).updSt x.e
        = { (y.totalled x keys (msgBody m) keys.length).updSt x.e with run := ((y.totalled x keys (msgBody m) keys.length).updSt x.e).run.map f } :=
      Die.updSt_onUpd_same x.e _ _
    refine State.takes_of 0 hexec ((hline.linksKept 0).trans (hkept.trans (Die.linksKept_of 0 rfl rfl rfl rfl rfl rfl))) ⟨?_, ?_, ?_, fun hrole => ?_⟩
    · rw [hon, hupd]
      exact hsums
    · rw [hon, hupd]
      dsimp only
      rw [hyupd, Die.runOf_spec hrun]
      simp
    · rw [hon, hupd]
      change (y.updSt x.e).masters = _
      rw [hyupd]
    · intro c hc hstate
      refine (Die.putAt_queued (d := y) hlanes c 1 m).2 ?_
      rw [← hy]
      exact (s.die.dropMsg l 1).forward_spreads 1 m hrole c hc hstate

/-- An update that ends is forgotten and counted (R320, R469). -/
theorem Die.updStop_stops (x : UpdCtx) (hp : x.p < 64) (he : x.e < 8) (outcome : Nat) (d : Die) (run : UpdRun) (hrun : (d.updSt x.e).run = some run) (t : Tal)
    (ht : (if outcome = 4 then T.UPD_UPD_LATE_COMMIT else T.UPD_UPD_ABANDON) = t) :
    ((d.updStop x false outcome).updSt x.e).run = none ∧ (d.updStop x false outcome).tally t x.e = tallyAdd (d.tally t x.e) 1 := by
  obtain ⟨y, hy⟩ : ∃ y, (d.onUpd x.e (fun y => { y with run := none })).setPhase x.e
      (if ((d.onUpd x.e (fun y => { y with run := none })).updSt x.e).pend.isSome then 6 else 0) = y := ⟨_, rfl⟩
  have hyrun : (y.updSt x.e).run = none := by
    rw [← hy]
    change ((d.onUpd x.e (fun y => { y with run := none })).updSt x.e).run = none
    rw [Die.updSt_onUpd_same]
  have hytal : y.tally t x.e = d.tally t x.e := by rw [← hy]; rfl
  have hbase : t.base = 0x140000 ∧ t.off < 0x1000 := by rw [← ht]; split <;> decide
  have hloft : loftTally (t.key x.e) = false := loftTally_false (.inr ⟨by rw [Tal.key]; omega, .inl (by rw [Tal.key]; omega)⟩)
  have hcount := y.report_count t x.e
  have hctal := Die.tally_count_same t x.e y hloft
  obtain ⟨z, hz⟩ : ∃ z, y.count t x.e = z := ⟨_, rfl⟩
  rw [hz] at hcount hctal
  have hzrun : (z.updSt x.e).run = none := by rw [hcount.updSt]; exact hyrun
  obtain ⟨w, hw⟩ : ∃ w, z.updPacket x run outcome = w := ⟨_, rfl⟩
  have hwkept : w.updSt x.e = z.updSt x.e ∧ w.tally t x.e = z.tally t x.e := by
    rw [← hw]
    unfold Die.updPacket
    dsimp only
    have htrace (k : Pkt) (hk : k.known) := z.traced_trace k hk
    have hknown : ∀ body, Pkt.known ⟨4, true, 7, x.e, some x.p, body⟩ := fun _ q hq => by injection hq with hq; omega
    split
    · exact ⟨(htrace _ (hknown _)).1.updSt x.e, (htrace _ (hknown _)).2 _ hloft⟩
    · exact ⟨(htrace _ (hknown _)).1.updSt x.e, (htrace _ (hknown _)).2 _ hloft⟩
  have hdef : d.updStop x false outcome = if run.committed || outcome = 4 then w.sendDigest x run.flip else w := by
    unfold Die.updStop
    rw [hrun]
    dsimp only
    rw [hy, ht, hz, if_neg Bool.false_ne_true, hw]
  have hsend : ((w.sendDigest x run.flip).updSt x.e).run = (w.updSt x.e).run ∧ (w.sendDigest x run.flip).tally t x.e = w.tally t x.e := by
    unfold Die.sendDigest
    split
    · obtain ⟨v, hv⟩ : ∃ v, w.onUpd x.e (fun y => { y with sentWd := KMap.set none y.sentWd run.flip (some y.wd) }) = v := ⟨_, rfl⟩
      have hvrun : (v.updSt x.e).run = (w.updSt x.e).run := by
        rw [← hv, Die.updSt_onUpd_same]
      have hvtal : v.tallies = w.tallies := by rw [← hv]; rfl
      rw [hv]
      generalize leBytes 8 run.flip ++ leBytes 4 0 ++ leBytes 8 (w.updSt x.e).wd ++ leBytes 4 1 ++ List.replicate 36 0 ++ leBytes 4 0 = body
      have hline := v.lineOnly_sendUp 7 x.im.imageId body
      refine ⟨?_, ?_⟩
      · rw [Die.updSt, hline.units.1]
        exact hvrun
      · rw [Die.tally, hline.same.2, hvtal]
        rfl
    · exact ⟨rfl, rfl⟩
  rw [hdef]
  have hdone : (w.updSt x.e).run = none ∧ w.tally t x.e = tallyAdd (d.tally t x.e) 1 :=
    ⟨by rw [hwkept.1]; exact hzrun, by rw [hwkept.2, hctal, hytal]⟩
  split
  · exact ⟨hsend.1.trans hdone.1, hsend.2.trans hdone.2⟩
  · exact hdone

theorem Die.passCommit_passes (image step : Nat) (d : Die) : ∃ f, d.passCommit image step = d.onFlk f := by
  unfold Die.passCommit
  split
  · split
    · exact ⟨_, rfl⟩
    · exact ⟨id, rfl⟩
  · exact ⟨id, rfl⟩

/-- COMMIT at a device (R468). -/
def State.commitAct (m : List Byte) (s : State) : State :=
  { s with die := match ((s.die.forward 1 m).passCommit (msgImage m) (leNat (slice (msgBody m) 0 8))).member (msgImage m) with
      | some x => ((s.die.forward 1 m).passCommit (msgImage m) (leNat (slice (msgBody m) 0 8))).commitMsg x (leNat (slice (msgBody m) 0 8))
          (leNat (slice (msgBody m) 8 8)) (byteAt (msgBody m) 20).toNat
      | none => (s.die.forward 1 m).passCommit (msgImage m) (leNat (slice (msgBody m) 0 8)) }

/-- What a COMMIT does with a member's update (R468, R469). -/
theorem Die.commitMsg_commits (x : UpdCtx) (hp : x.p < 64) (he : x.e < 8) (step flip verdict : Nat) (d : Die) (run : UpdRun) (hrun : d.runOf x step = some run) :
    d.linksKept 0 (d.commitMsg x step flip verdict)
    ∧ (verdict = 2 → ((d.commitMsg x step flip verdict).updSt x.e).run = none
        ∧ (d.commitMsg x step flip verdict).tally T.UPD_UPD_ABANDON x.e = tallyAdd (d.tally T.UPD_UPD_ABANDON x.e) 1)
    ∧ (verdict ≠ 2 → (flip - x.im.stepBase.toNat) * ((stepN x.ei).getD 1) < (d.engPas x.e x.p).index →
        ((d.commitMsg x step flip verdict).updSt x.e).run = none
        ∧ (d.commitMsg x step flip verdict).tally T.UPD_UPD_LATE_COMMIT x.e = tallyAdd (d.tally T.UPD_UPD_LATE_COMMIT x.e) 1)
    ∧ (verdict ≠ 2 → ¬ (flip - x.im.stepBase.toNat) * ((stepN x.ei).getD 1) < (d.engPas x.e x.p).index →
        ((d.commitMsg x step flip verdict).updSt x.e).run = some { run with flip := flip, committed := true }) := by
  obtain ⟨y, hy⟩ : ∃ y, d.onRun x.e (fun r => { r with flip := flip }) = y := ⟨_, rfl⟩
  have hyrun : (y.updSt x.e).run = some { run with flip := flip } := by
    rw [← hy, Die.onRun, Die.updSt_onUpd_same]
    dsimp only
    rw [Die.runOf_spec hrun]
    rfl
  have hyeng : y.engPas x.e x.p = d.engPas x.e x.p := by rw [← hy]; rfl
  have hykept : d.linksKept 0 y := by rw [← hy]; exact Die.linksKept_of 0 rfl rfl rfl rfl rfl rfl
  have hytal (t : Tal) : y.tally t x.e = d.tally t x.e := by rw [← hy]; rfl
  have hdef : d.commitMsg x step flip verdict = if verdict = 2 then d.updStop x false 2
      else if (flip - x.im.stepBase.toNat) * ((stepN x.ei).getD 1) < (d.engPas x.e x.p).index then y.updStop x false 4
      else y.onRun x.e (fun r => { r with committed := true }) := by
    unfold Die.commitMsg
    rw [hrun]
    dsimp only
    rw [hy, hyeng]
  rw [hdef]
  by_cases h2 : verdict = 2
  · rw [if_pos h2]
    exact ⟨d.linksKept_updStop 0 x hp false 2, fun _ => d.updStop_stops x hp he 2 run (Die.runOf_spec hrun) _ rfl, fun h => absurd h2 h, fun h => absurd h2 h⟩
  · rw [if_neg h2]
    by_cases hlate : (flip - x.im.stepBase.toNat) * ((stepN x.ei).getD 1) < (d.engPas x.e x.p).index
    · rw [if_pos hlate]
      have hstop := y.updStop_stops x hp he 4 _ hyrun T.UPD_UPD_LATE_COMMIT rfl
      exact ⟨hykept.trans (y.linksKept_updStop 0 x hp false 4), fun h => absurd h h2, fun _ _ => ⟨hstop.1, by rw [hstop.2, hytal]⟩, fun _ h => absurd hlate h⟩
    · rw [if_neg hlate]
      refine ⟨hykept.trans (Die.linksKept_of 0 rfl rfl rfl rfl rfl rfl), fun h => absurd h h2, fun _ h => absurd h hlate, fun _ _ => ?_⟩
      rw [Die.onRun, Die.updSt_onUpd_same]
      dsimp only
      rw [hyrun]
      rfl

theorem State.commit_takes (s : State) (l : Nat) (m : List Byte) (x : UpdCtx) (run : UpdRun) (h : s.die.brings l 1 6 m) (hl : l ∈ s.die.parentLanes)
    (hx : s.die.member (msgImage m) = some x) (hrun : s.die.runOf x (leNat (slice (msgBody m) 0 8)) = some run) (flip : Nat) (hflip : leNat (slice (msgBody m) 8 8) = flip) :
    s.takes (.commit l) l 1 (fun e =>
      ((byteAt (msgBody m) 20).toNat = 2 → (e.updSt x.e).run = none ∧ e.tally T.UPD_UPD_ABANDON x.e = tallyAdd (s.die.tally T.UPD_UPD_ABANDON x.e) 1)
      ∧ ((byteAt (msgBody m) 20).toNat ≠ 2 → (flip - x.im.stepBase.toNat) * ((stepN x.ei).getD 1) < (s.die.engPas x.e x.p).index → (e.updSt x.e).run = none
          ∧ e.tally T.UPD_UPD_LATE_COMMIT x.e = tallyAdd (s.die.tally T.UPD_UPD_LATE_COMMIT x.e) 1)
      ∧ ((byteAt (msgBody m) 20).toNat ≠ 2 → ¬ (flip - x.im.stepBase.toNat) * ((stepN x.ei).getD 1) < (s.die.engPas x.e x.p).index →
          (e.updSt x.e).run = some { run with flip := flip, committed := true })) := by
  obtain ⟨he, hp⟩ := Die.member_spec hx
  obtain ⟨f, hf⟩ := ((s.die.dropMsg l 1).forward 1 m).passCommit_passes (msgImage m) (leNat (slice (msgBody m) 0 8))
  have hline := (s.die.dropMsg l 1).lineOnly_forward 1 m
  obtain ⟨y, hy⟩ : ∃ y, ((s.die.dropMsg l 1).forward 1 m).onFlk f = y := ⟨_, rfl⟩
  have hykept : (s.die.dropMsg l 1).linksKept 0 y := by
    rw [← hy]
    exact (hline.linksKept 0).trans (Die.linksKept_of 0 rfl rfl rfl rfl rfl rfl)
  have hunits : y.upd = s.die.upd ∧ y.grants = s.die.grants ∧ y.pas = s.die.pas ∧ y.eng = s.die.eng := by
    rw [← hy]
    exact hline.units
  have hytal (t : Tal) : y.tally t x.e = s.die.tally t x.e := by
    have ht : y.tallies = s.die.tallies := by rw [← hy]; exact hline.same.2
    rw [Die.tally, Die.tally, ht]
  have hyeng : y.engPas x.e x.p = s.die.engPas x.e x.p := by rw [Die.engPas, Die.engPas, hunits.2.2.2]
  have hact : State.commitAct m { s with die := s.die.dropMsg l 1 } = { s with die := y.commitMsg x (leNat (slice (msgBody m) 0 8)) flip (byteAt (msgBody m) 20).toNat } := by
    have hyx : y.member (msgImage m) = some x := by rw [Die.member_same hunits.2.1 hunits.2.2.1]; exact hx
    unfold State.commitAct
    dsimp only
    rw [hf, hy, hyx, hflip]
  obtain ⟨hkept, h1, h2, h3⟩ := y.commitMsg_commits x hp he (leNat (slice (msgBody m) 0 8)) flip (byteAt (msgBody m) 20).toNat run ((Die.runOf_same hunits.1 x _).trans hrun)
  rw [hyeng] at h2 h3
  rw [hytal] at h1 h2
  exact State.takes_act (m := m) 0 State.commitAct rfl h (by simpa using hl) hact (hykept.trans hkept) ⟨h1, h2, h3⟩

end Sys2Proof.Machine
end

section
/-! SUPPORT. The flock's digests and verdicts (R469 to R472). -/

namespace Sys2Proof.Machine

theorem State.reduceWait_closes (s : State) (x : SetInfo) (r : Reduction) (hr : s.die.flk.reduction = some r) (htop : s.die.isTop = true) :
    s.completes (.reduceWait x) (fun t => t = { s with die := t.die } ∧ t.die.flk.reduction = none ∧ KMap.get 0 t.die.flk.reduced r.image = r.step + 1
      ∧ s.die.spreads t.die 1 (commitMsgOf s.die.epoch r x (if r.lanes.isEmpty then 2 else 1))
      ∧ (r.lanes = [] → t.die.tally T.FLK_REDUCE_ABANDON = tallyAdd (s.die.tally T.FLK_REDUCE_ABANDON) 1)) := by
  obtain ⟨-, hnone, hred, hsp, habandon⟩ := s.die.closeReduction_closes x r
  refine ⟨{ s with die := s.die.closeReduction x r }, ?_, rfl, hnone, hred, hsp, fun h => habandon (by rw [h]; rfl)⟩
  have hgo : exec (.reduceWait x) s = execReduceWait x s := rfl
  rw [hgo, execReduceWait, onDie, hr]
  exact congrArg (fun d => Host.Outcome.next ({ s with die := d } : State)) (if_pos htop)

/-- The members of a set that a digest speaks for (R470). -/
def DigestSet.members (g : DigestSet) : Nat := (g.found.map (fun y => y.2)).sum + g.other + g.silent

/-- VERDICT on a digest (R470). -/
def verdictOf (epoch : Nat) (g : DigestSet) (wd r : Nat) : List Byte := flkMsg 8 epoch g.image (leBytes 8 g.step ++ leBytes 8 wd ++ leBytes 1 r ++ [0, 0, 0])

/-- The device has judged a digest, or passed it up (R469, R470). -/
structure Die.judges (d e : Die) (g : DigestSet) : Prop where
  gone : ∀ y ∈ e.flk.digests, y.image ≠ g.image ∨ y.step ≠ g.step
  up : ∀ u, d.isTop = false → d.parentLane = some u → e.queued u 1 (flkMsg 7 d.epoch g.image (digestBody g))
  majority : d.isTop = true → ∀ y, g.found.find? (fun y => decide (g.members < 2 * y.2)) = some y → d.spreads e 1 (verdictOf d.epoch g y.1 1)
  split : d.isTop = true → (∀ y ∈ g.found, 2 * y.2 ≤ g.members) → d.spreads e 1 (verdictOf d.epoch g 0 2) ∧ e.on R.FLK_STATUS_SPLIT = true
    ∧ e.tally T.FLK_SPLITS = tallyAdd (d.tally T.FLK_SPLITS) 1

/-- A digest without the one that is settled. -/
def Die.digestGone (g : DigestSet) (d : Die) : Die := d.onFlk (fun k => { k with digests := k.digests.filter (fun y => !(y.image == g.image && y.step == g.step)) })

theorem Die.finishDigest_eq (g : DigestSet) (d : Die) : d.finishDigest g = if d.isTop then
      match g.found.find? (fun y => decide (g.members < 2 * y.2)) with
      | some y => (d.digestGone g).sendDown 1 (verdictOf d.epoch g y.1 1)
      | none => (((d.digestGone g).flag R.FLK_STATUS_SPLIT 0 true).count T.FLK_SPLITS 0).sendDown 1 (verdictOf d.epoch g 0 2)
    else (d.digestGone g).sendUp 7 g.image (digestBody g) := rfl

theorem Die.digestGone_gone (g : DigestSet) (d : Die) : ∀ y ∈ (d.digestGone g).flk.digests, y.image ≠ g.image ∨ y.step ≠ g.step := by
  intro y hy
  have h := (List.mem_filter.1 hy).2
  simp only [Bool.not_eq_true', Bool.and_eq_false_iff, beq_eq_false_iff_ne] at h
  exact h

/-- The end of a digest: the links keep their registers, SPLIT apart. -/
theorem Die.finishDigest_judges (g : DigestSet) (d : Die) : d.linksKept (R.FLK_STATUS_SPLIT.key 0) (d.finishDigest g) ∧ d.judges (d.finishDigest g) g := by
  obtain ⟨u, hu⟩ : ∃ u, d.digestGone g = u := ⟨_, rfl⟩
  have hgone := d.digestGone_gone g
  have hukept : d.linksKept (R.FLK_STATUS_SPLIT.key 0) u := by rw [← hu]; exact Die.linksKept_of _ rfl rfl rfl rfl rfl rfl
  have hulinks : d.sameLinks u := by rw [← hu]; exact Die.sameLinks_regs rfl
  have huparent : u.parentLane = d.parentLane := by rw [← hu]; rfl
  have huepoch : u.epoch = d.epoch := by rw [← hu]; rfl
  have hutal : u.tally T.FLK_SPLITS = d.tally T.FLK_SPLITS := by rw [← hu]; rfl
  rw [hu] at hgone
  rw [Die.finishDigest_eq, hu]
  cases htop : d.isTop with
  | false =>
    rw [if_neg Bool.false_ne_true]
    have hline := u.lineOnly_sendUp 7 g.image (digestBody g)
    refine ⟨hukept.trans (hline.linksKept _), ⟨?_, fun v _ hp => ?_, fun h => ?_, fun h => ?_⟩⟩
    · rw [hline.same.1]
      exact hgone
    · rw [Die.sendUp, huparent, hp, ← huepoch]
      exact (u.sendRel_sends v 1 _).2
    · rw [htop] at h; cases h
    · rw [htop] at h; cases h
  | true =>
    rw [if_pos rfl]
    cases hfind : g.found.find? (fun y => decide (g.members < 2 * y.2)) with
    | some y =>
      dsimp only
      obtain ⟨hline, hsp⟩ := u.sendDown_spreads 1 (verdictOf d.epoch g y.1 1)
      refine ⟨hukept.trans (hline.linksKept _), ⟨?_, fun v h => ?_, fun _ z hz => ?_, fun _ hall => ?_⟩⟩
      · rw [hline.same.1]
        exact hgone
      · rw [htop] at h; cases h
      · rw [hfind] at hz
        cases hz
        exact hulinks.spreads hsp
      · have hmem := hall y (List.mem_of_find?_eq_some hfind)
        have hlt := List.find?_some hfind
        simp only [decide_eq_true_eq] at hlt
        omega
    | none =>
      dsimp only
      obtain ⟨v, hv⟩ : ∃ v, u.flag R.FLK_STATUS_SPLIT 0 true = v := ⟨_, rfl⟩
      have hvkept : u.linksKept (R.FLK_STATUS_SPLIT.key 0) v := by rw [← hv]; exact Die.linksKept_put _ u _ 0 _ (.inr rfl)
      have hvlinks : u.sameLinks v := by rw [← hv]; exact Die.sameLinks_put u _ _ (by decide)
      have hvon : v.on R.FLK_STATUS_SPLIT = true := by rw [← hv]; exact Die.on_flag_same _ 0 true u rfl
      have hvflk : v.flk = u.flk ∧ v.tally T.FLK_SPLITS = u.tally T.FLK_SPLITS := by rw [← hv]; exact ⟨rfl, rfl⟩
      rw [hv]
      have hcount := v.report_count T.FLK_SPLITS 0
      have htal := Die.tally_count_same T.FLK_SPLITS 0 v rfl
      obtain ⟨w, hw⟩ : ∃ w, v.count T.FLK_SPLITS 0 = w := ⟨_, rfl⟩
      rw [hw] at hcount htal ⊢
      obtain ⟨hline, hsp⟩ := w.sendDown_spreads 1 (verdictOf d.epoch g 0 2)
      refine ⟨hukept.trans (hvkept.trans ((Die.linksKept_report _ hcount).trans (hline.linksKept _))), ⟨?_, fun v h => ?_, fun _ z hz => ?_, fun _ _ => ⟨?_, ?_, ?_⟩⟩⟩
      · rw [hline.same.1, Die.report_flk hcount, hvflk.1]
        exact hgone
      · rw [htop] at h; cases h
      · rw [hfind] at hz; cases hz
      · exact (hulinks.trans (hvlinks.trans (Die.sameLinks_report hcount))).spreads hsp
      · refine Eq.trans (congrArg (· == 1) ?_) hvon
        exact (Die.get_congr _ _ hline.regs _ _).trans (hcount.get R.FLK_STATUS_SPLIT 0 (by decide))
      · rw [Die.tally, hline.same.2]
        exact htal.trans (congrArg (tallyAdd · 1) (hvflk.2.trans hutal))

/-- The digests that DIGEST brings (R469). -/
def digestEntries (b : List Byte) : List (Nat × Nat) :=
  ((List.range 4).map (fun i => (leNat (slice b (12 + 12 * i) 8), leNat (slice b (20 + 12 * i) 4)))).filter (fun y => y.2 != 0)

/-- The digest that a child's joins (R469). -/
def Die.digestOf (image step : Nat) (d : Die) : DigestSet :=
  (d.flk.digests.find? (fun y => y.image == image && y.step == step)).getD { image := image, step := step }

/-- A digest with a child's in it (R469). -/
def DigestSet.heard (l : Nat) (b : List Byte) (g : DigestSet) : DigestSet :=
  { g.add (digestEntries b) (leNat (slice b 60 4)) (leNat (slice b 8 4)) with lanes := g.lanes ++ [l] }

/-- A digest takes the place of the one it was (R469). -/
def Die.digestHeld (image step : Nat) (h : DigestSet) (d : Die) : Die :=
  d.onFlk (fun k => { k with digests := k.digests.filter (fun y => !(y.image == image && y.step == step)) ++ [h] })

/-- A digest is settled once every child that holds the set has sent its own (R469). -/
def Die.digestJudged (image : Nat) (h : DigestSet) (d : Die) : Die := if (d.holders image).all h.lanes.contains then d.finishDigest h else d

/-- Two dies of one place in the flock. -/
structure Die.sameFrom (x d : Die) : Prop where
  top : x.isTop = d.isTop
  parent : x.parentLane = d.parentLane
  epoch : x.epoch = d.epoch
  tallies : x.tallies = d.tallies
  links : d.sameLinks x

theorem Die.sameFrom.judges {x d e : Die} {g : DigestSet} (h : x.sameFrom d) (k : x.judges e g) : d.judges e g := by
  obtain ⟨hgone, hup, hmaj, hsplit⟩ := k
  obtain ⟨htop, hparent, hepoch, htal, hlinks⟩ := h
  rw [htop] at hup hmaj hsplit
  rw [hparent, hepoch] at hup
  rw [hepoch] at hmaj hsplit
  rw [Die.tally, Die.tally, htal] at hsplit
  exact ⟨hgone, hup, fun h y hy => hlinks.spreads (hmaj h y hy), fun h hall => ⟨hlinks.spreads (hsplit h hall).1, (hsplit h hall).2⟩⟩

/-- DIGEST at a shepherd (R469, R470). -/
def State.digestAct (l : Nat) (m : List Byte) (s : State) : State :=
  if (s.die.digestOf (msgImage m) (leNat (slice (msgBody m) 0 8))).lanes.contains l then s
  else { s with
    die := (s.die.digestHeld (msgImage m) (leNat (slice (msgBody m) 0 8))
        ((s.die.digestOf (msgImage m) (leNat (slice (msgBody m) 0 8))).heard l (msgBody m))).digestJudged (msgImage m)
      ((s.die.digestOf (msgImage m) (leNat (slice (msgBody m) 0 8))).heard l (msgBody m)) }

theorem State.flockDigest_takes (s : State) (l : Nat) (m : List Byte) (h : s.die.brings l 1 7 m) (hl : l ∈ s.die.childLanes) (image : Nat) (himage : msgImage m = image)
    (step : Nat) (hstep : leNat (slice (msgBody m) 0 8) = step) (g : DigestSet) (hg : s.die.digestOf image step = g) :
    s.takes (.flockDigest l) l 1 (fun e =>
      (l ∈ g.lanes → e.flk = s.die.flk)
      ∧ (l ∉ g.lanes → (∀ c ∈ s.die.holders image, c ∈ (g.heard l (msgBody m)).lanes) → s.die.judges e (g.heard l (msgBody m)))
      ∧ (l ∉ g.lanes → (∃ c ∈ s.die.holders image, c ∉ (g.heard l (msgBody m)).lanes) → g.heard l (msgBody m) ∈ e.flk.digests)) := by
  obtain ⟨u, hu⟩ : ∃ u, s.die.dropMsg l 1 = u := ⟨_, rfl⟩
  have hug : u.digestOf image step = g := by rw [← hu]; exact hg
  have hulinks : s.die.sameLinks u := by rw [← hu]; exact Die.sameLinks_regs rfl
  have huflk : u.flk = s.die.flk := by rw [← hu]; rfl
  have hact : State.digestAct l m { s with die := s.die.dropMsg l 1 } = if g.lanes.contains l then { s with die := u }
      else { s with die := (u.digestHeld image step (g.heard l (msgBody m))).digestJudged image (g.heard l (msgBody m)) } := by
    unfold State.digestAct
    dsimp only
    rw [himage, hstep, hu, hug]
  have hlc : (if false = true then s.die.parentLanes.contains l else s.die.childLanes.contains l) = true := by simpa using hl
  generalize hheard : g.heard l (msgBody m) = x at hact ⊢
  by_cases hin : l ∈ g.lanes
  · rw [if_pos (List.contains_iff_mem.2 hin)] at hact
    refine State.takes_act (m := m) (e := u) 0 (State.digestAct l) rfl h hlc hact ?_ ⟨fun _ => huflk, fun hn => absurd hin hn, fun hn => absurd hin hn⟩
    rw [hu]
    exact Die.linksKept_refl 0 u
  · rw [if_neg (by simpa using hin)] at hact
    obtain ⟨v, hv⟩ : ∃ v, u.digestHeld image step x = v := ⟨_, rfl⟩
    have hvkept : u.linksKept (R.FLK_STATUS_SPLIT.key 0) v := by rw [← hv]; exact Die.linksKept_of _ rfl rfl rfl rfl rfl rfl
    have hvmem : x ∈ v.flk.digests := by rw [← hv]; exact List.mem_append_right _ (List.mem_singleton.2 rfl)
    have hvholders : v.holders image = s.die.holders image := by rw [← hv, ← hu]; rfl
    have hvsame : v.sameFrom s.die := by
      rw [← hv, ← hu]
      exact ⟨rfl, rfl, rfl, rfl, Die.sameLinks_regs rfl⟩
    rw [hv] at hact
    obtain ⟨hkept, hjudges⟩ := v.finishDigest_judges x
    unfold Die.digestJudged at hact
    rw [hvholders] at hact
    by_cases hall : ∀ c ∈ s.die.holders image, c ∈ x.lanes
    · rw [if_pos (List.all_eq_true.2 (fun c hc => List.contains_iff_mem.2 (hall c hc)))] at hact
      refine State.takes_act (m := m) (R.FLK_STATUS_SPLIT.key 0) (State.digestAct l) rfl h hlc hact ?_
        ⟨fun hn => absurd hn hin, fun _ _ => hvsame.judges hjudges, fun _ hno => ?_⟩
      · rw [hu]
        exact hvkept.trans hkept
      · obtain ⟨c, hc, hout⟩ := hno
        exact absurd (hall c hc) hout
    · have hno : ¬ (s.die.holders image).all x.lanes.contains = true := fun hn => hall (fun c hc => List.contains_iff_mem.1 (List.all_eq_true.1 hn c hc))
      rw [if_neg hno] at hact
      refine State.takes_act (m := m) (R.FLK_STATUS_SPLIT.key 0) (State.digestAct l) rfl h hlc hact ?_
        ⟨fun hn => absurd hn hin, fun _ hn => absurd hn hall, fun _ _ => hvmem⟩
      rw [hu]
      exact hvkept

theorem State.digestWait_judges (s : State) (image silent : Nat) (g : DigestSet) (hg : s.die.flk.digests.find? (fun y => y.image == image) = some g) :
    s.completes (.digestWait image silent) (fun t => t = { s with die := t.die } ∧ s.die.judges t.die (g.add [] 0 silent)) := by
  refine ⟨{ s with die := s.die.finishDigest (g.add [] 0 silent) }, ?_, rfl, (s.die.finishDigest_judges _).2⟩
  have hgo : exec (.digestWait image silent) s = execDigestWait image silent s := rfl
  rw [hgo, execDigestWait, onDie, hg]

/-- A pasture's bit in a pair of registers (R472). -/
theorem Die.bit_pasBit (lo hi : Fld) (hlo : lo.width = 32) (hhi : hi.width = 32) (hne : (lo.base + lo.off) * 32 + lo.lo ≠ (hi.base + hi.off) * 32 + hi.lo)
    (p : Nat) (hp : p < 64) (b : Bool) (d : Die) : bit ((d.pasBit lo hi p b).pair64 lo hi) p = b := by
  obtain ⟨v, hv⟩ : ∃ v, setBit (d.pair64 lo hi) p b = v := ⟨_, rfl⟩
  have hbit : bit v p = b := by
    rw [← hv, bit_setBit, if_pos rfl]
  have hget : (d.pasBit lo hi p b).pair64 lo hi = v % 2 ^ 64 := by
    rw [Die.pasBit, hv, Die.putPair, Die.pair64, Die.get_put_same, Die.get_put_apart _ _ _ _ _ hne, Die.get_put_same, hlo, hhi]
    omega
  have hpow : v / 2 ^ p % 2 = v % 2 ^ 64 / 2 ^ p % 2 := by
    obtain ⟨j, hj⟩ : ∃ j, 64 = p + (j + 1) := ⟨63 - p, by omega⟩
    rw [hj, Nat.pow_add, Nat.mod_mul_right_div_self, Nat.pow_succ', Nat.mod_mul_right_mod]
  rw [hget, ← hbit, bit, bit, hpow]

@[simp] theorem Die.pasBit_tallies (lo hi : Fld) (p : Nat) (b : Bool) (d : Die) : (d.pasBit lo hi p b).tallies = d.tallies :=
  (Die.putPair_frame lo hi 0 _ d).1

theorem Die.linksKept_pasBit (j : Nat) (lo hi : Fld) (hlo : ¬ linkKey (lo.key 0)) (hhi : ¬ linkKey (hi.key 0)) (p : Nat) (b : Bool) (d : Die) :
    d.linksKept j (d.pasBit lo hi p b) :=
  (Die.linksKept_put j d lo 0 _ (.inl hlo)).trans (Die.linksKept_put j _ hi 0 _ (.inl hhi))

/-- What VERDICT does with a member (R471, R472). -/
theorem Die.verdictMsg_tells (x : UpdCtx) (hp : x.p < 64) (step wd result : Nat) (d : Die) (own : Nat)
    (hown : (KMap.get none (d.updSt x.e).sentWd step).getD (d.updSt x.e).wd = own) :
    d.linksKept 0 (d.verdictMsg x step wd result)
    ∧ (result = 1 → own = wd → bit ((d.verdictMsg x step wd result).pair64 R.FLK_EXPELLED_LO R.FLK_EXPELLED_HI) x.p = false)
    ∧ (result = 1 → own ≠ wd → bit (d.pair64 R.FLK_EXPELLED_LO R.FLK_EXPELLED_HI) x.p = false →
        bit ((d.verdictMsg x step wd result).pair64 R.FLK_EXPELLED_LO R.FLK_EXPELLED_HI) x.p = true
        ∧ (d.verdictMsg x step wd result).tally T.FLK_EXPELS = tallyAdd (d.tally T.FLK_EXPELS) 1)
    ∧ (result ≠ 1 → bit ((d.verdictMsg x step wd result).pair64 R.FLK_SET_HALT_LO R.FLK_SET_HALT_HI) x.p = true) := by
  obtain ⟨u, hu⟩ : ∃ u, d.onUpd x.e (fun y => { y with sentWd := KMap.set none y.sentWd step none }) = u := ⟨_, rfl⟩
  have hukept : d.linksKept 0 u := by rw [← hu]; exact Die.linksKept_of 0 rfl rfl rfl rfl rfl rfl
  have hutal : u.tally T.FLK_EXPELS = d.tally T.FLK_EXPELS := by rw [← hu]; rfl
  have hdef : d.verdictMsg x step wd result = if result = 1 then
      if own = wd then u.pasBit R.FLK_EXPELLED_LO R.FLK_EXPELLED_HI x.p false
      else if bit (d.pair64 R.FLK_EXPELLED_LO R.FLK_EXPELLED_HI) x.p then u
      else ((u.pasBit R.FLK_EXPELLED_LO R.FLK_EXPELLED_HI x.p true).count T.FLK_EXPELS 0).incident 8 10 0 x.p
    else (u.pasBit R.FLK_SET_HALT_LO R.FLK_SET_HALT_HI x.p true).incident 8 10 0 x.p := by
    unfold Die.verdictMsg
    rw [hown, hu]
  have hexp (b : Bool) : u.linksKept 0 (u.pasBit R.FLK_EXPELLED_LO R.FLK_EXPELLED_HI x.p b) := Die.linksKept_pasBit 0 _ _ (by unfold linkKey; decide) (by unfold linkKey; decide) _ _ _
  have hpair {a e : Die} (h : a.report e) (f g : Fld) (hf : reportWord (f.key 0 / 32) = false) (hg : reportWord (g.key 0 / 32) = false) : e.pair64 f g = a.pair64 f g := by
    rw [Die.pair64, Die.pair64, h.get f 0 hf, h.get g 0 hg]
  rw [hdef]
  by_cases h1 : result = 1
  · rw [if_pos h1]
    by_cases heq : own = wd
    · rw [if_pos heq]
      exact ⟨hukept.trans (hexp false), fun _ _ => Die.bit_pasBit _ _ rfl rfl (by decide) _ hp _ _, fun _ h => absurd heq h, fun h => absurd h1 h⟩
    · rw [if_neg heq]
      cases hout : bit (d.pair64 R.FLK_EXPELLED_LO R.FLK_EXPELLED_HI) x.p with
      | true => exact ⟨hukept, fun _ h => absurd h heq, fun _ _ h => Bool.noConfusion h, fun h => absurd h1 h⟩
      | false =>
        rw [if_neg Bool.false_ne_true]
        obtain ⟨v, hv⟩ : ∃ v, u.pasBit R.FLK_EXPELLED_LO R.FLK_EXPELLED_HI x.p true = v := ⟨_, rfl⟩
        have hbit : bit (v.pair64 R.FLK_EXPELLED_LO R.FLK_EXPELLED_HI) x.p = true := by
          rw [← hv]
          exact Die.bit_pasBit _ _ rfl rfl (by decide) _ hp _ _
        have hvkept : d.linksKept 0 v := by rw [← hv]; exact hukept.trans (hexp true)
        have hvtal : v.tally T.FLK_EXPELS = d.tally T.FLK_EXPELS := by rw [Die.tally, ← hv, Die.pasBit_tallies]; exact hutal
        rw [hv]
        have hcount := v.report_count T.FLK_EXPELS 0
        have htal := Die.tally_count_same T.FLK_EXPELS 0 v rfl
        have hinc := (v.count T.FLK_EXPELS 0).traced_incident 8 10 0 x.p
        refine ⟨hvkept.trans (Die.linksKept_report 0 (hcount.trans hinc.1)), fun _ h => absurd h heq, fun _ _ _ => ⟨?_, ?_⟩, fun h => absurd h1 h⟩
        · rw [hpair (hcount.trans hinc.1) _ _ (by decide) (by decide)]
          exact hbit
        · have hsame : ((v.count T.FLK_EXPELS 0).incident 8 10 0 x.p).tally T.FLK_EXPELS = (v.count T.FLK_EXPELS 0).tally T.FLK_EXPELS := hinc.2 (T.FLK_EXPELS.key 0) (by decide)
          rw [hsame, htal, hvtal]
  · rw [if_neg h1]
    obtain ⟨v, hv⟩ : ∃ v, u.pasBit R.FLK_SET_HALT_LO R.FLK_SET_HALT_HI x.p true = v := ⟨_, rfl⟩
    have hbit : bit (v.pair64 R.FLK_SET_HALT_LO R.FLK_SET_HALT_HI) x.p = true := by
      rw [← hv]
      exact Die.bit_pasBit _ _ rfl rfl (by decide) _ hp _ _
    have hvkept : d.linksKept 0 v := by
      rw [← hv]
      exact hukept.trans (Die.linksKept_pasBit 0 _ _ (by unfold linkKey; decide) (by unfold linkKey; decide) _ _ _)
    rw [hv]
    have hinc := (v.traced_incident 8 10 0 x.p).1
    refine ⟨hvkept.trans (Die.linksKept_report 0 hinc), fun h => absurd h h1, fun h => absurd h h1, fun _ => ?_⟩
    rw [hpair hinc _ _ (by decide) (by decide)]
    exact hbit

/-- VERDICT at a device (R471, R472). -/
def State.verdictAct (m : List Byte) (s : State) : State :=
  { s with die := match (s.die.forward 1 m).member (msgImage m) with
      | some x => (s.die.forward 1 m).verdictMsg x (leNat (slice (msgBody m) 0 8)) (leNat (slice (msgBody m) 8 8)) (byteAt (msgBody m) 16).toNat
      | none => s.die.forward 1 m }

theorem State.verdict_takes (s : State) (l : Nat) (m : List Byte) (x : UpdCtx) (h : s.die.brings l 1 8 m) (hl : l ∈ s.die.parentLanes)
    (hx : s.die.member (msgImage m) = some x) (step : Nat) (hstep : leNat (slice (msgBody m) 0 8) = step) (wd : Nat) (hwd : leNat (slice (msgBody m) 8 8) = wd)
    (own : Nat) (hown : (KMap.get none (s.die.updSt x.e).sentWd step).getD (s.die.updSt x.e).wd = own) (good : Prop) (hgood : good ↔ (byteAt (msgBody m) 16).toNat = 1) :
    s.takes (.verdict l) l 1 (fun e =>
      (good → own = wd → bit (e.pair64 R.FLK_EXPELLED_LO R.FLK_EXPELLED_HI) x.p = false)
      ∧ (good → own ≠ wd → bit (s.die.pair64 R.FLK_EXPELLED_LO R.FLK_EXPELLED_HI) x.p = false →
          bit (e.pair64 R.FLK_EXPELLED_LO R.FLK_EXPELLED_HI) x.p = true ∧ e.tally T.FLK_EXPELS = tallyAdd (s.die.tally T.FLK_EXPELS) 1)
      ∧ (¬ good → bit (e.pair64 R.FLK_SET_HALT_LO R.FLK_SET_HALT_HI) x.p = true)) := by
  obtain ⟨-, hp⟩ := Die.member_spec hx
  have hline := (s.die.dropMsg l 1).lineOnly_forward 1 m
  obtain ⟨y, hy⟩ : ∃ y, (s.die.dropMsg l 1).forward 1 m = y := ⟨_, rfl⟩
  rw [hy] at hline
  have hupd : y.updSt x.e = s.die.updSt x.e := by rw [Die.updSt, Die.updSt, hline.units.1]; rfl
  have hyx : y.member (msgImage m) = some x := by rw [Die.member_same hline.units.2.1 hline.units.2.2.1]; exact hx
  have hact : State.verdictAct m { s with die := s.die.dropMsg l 1 } = { s with die := y.verdictMsg x step wd (byteAt (msgBody m) 16).toNat } := by
    unfold State.verdictAct
    dsimp only
    rw [hy, hyx, hstep, hwd]
  have hpair : y.pair64 R.FLK_EXPELLED_LO R.FLK_EXPELLED_HI = s.die.pair64 R.FLK_EXPELLED_LO R.FLK_EXPELLED_HI := by
    rw [Die.pair64, Die.pair64, Die.get_congr _ _ hline.regs, Die.get_congr _ _ hline.regs]
    rfl
  have htal : y.tally T.FLK_EXPELS = s.die.tally T.FLK_EXPELS := by rw [Die.tally, hline.same.2]; rfl
  obtain ⟨hkept, h1, h2, h3⟩ := y.verdictMsg_tells x hp step wd (byteAt (msgBody m) 16).toNat own (by rw [hupd]; exact hown)
  rw [← hgood] at h1 h2
  rw [hpair, htal] at h2
  exact State.takes_act (m := m) 0 State.verdictAct rfl h (by simpa using hl) hact ((hline.linksKept 0).trans hkept) ⟨h1, h2, fun hn => h3 (fun h => hn (hgood.2 h))⟩

theorem Die.judges.told {d e : Die} {g : DigestSet} (h : d.judges e g) :
    (∀ y ∈ e.flk.digests, y.image ≠ g.image ∨ y.step ≠ g.step)
    ∧ (∀ u, d.isTop = false → d.parentLane = some u → e.queued u 1 (flkMsg 7 d.epoch g.image (digestBody g)))
    ∧ (d.isTop = true → ∀ y, g.found.find? (fun y => decide (g.members < 2 * y.2)) = some y → d.spreads e 1 (verdictOf d.epoch g y.1 1))
    ∧ (d.isTop = true → (∀ y ∈ g.found, 2 * y.2 ≤ g.members) → d.spreads e 1 (verdictOf d.epoch g 0 2) ∧ e.on R.FLK_STATUS_SPLIT = true
      ∧ e.tally T.FLK_SPLITS = tallyAdd (d.tally T.FLK_SPLITS) 1) := ⟨h.gone, h.up, h.majority, h.split⟩

/-- Settles O41: launches, chunks, totals, the commit, digests and verdicts. -/
theorem flockUpdates : Obligations.FlockUpdates := by
  intro s l m
  dsimp only
  refine ⟨s.launchAt_forwards l m, fun p im tm pl h hl hrole hp him htm hpl => s.launchAt_queues l m p im tm pl h hl hrole hp him htm hpl, fun x h hl hrole => ?_,
    fun x r hr htop => s.reduceWait_closes x r hr htop,
    fun x run h hl hx hrun => s.total_takes l m x run h hl hx hrun _ rfl _ rfl, fun x run h hl hx hrun => s.commit_takes l m x run h hl hx hrun _ rfl,
    ⟨fun h hl => ?_, fun image silent g hg => ?_⟩, fun x h hl hx => s.verdict_takes l m x h hl hx _ rfl _ rfl _ rfl _ Iff.rfl⟩
  · obtain ⟨r, hr⟩ : ∃ r, s.die.flk.reduction.getD { image := msgImage m, step := leNat (slice (msgBody m) 0 8) } = r := ⟨_, rfl⟩
    obtain ⟨hdone, hother, hcases⟩ := Die.reduceMsg_cases l x m s.die r hr
    have hexec := s.reduce_exec l x m h hl hrole
    rw [hr]
    have hdrop (heq : s.die.reduceMsg l x m = s.die.dropMsg l 1) : s.takes (.reduce l x) l 1 (fun e => e.flk = s.die.flk) :=
      State.takes_of (e := s.die.dropMsg l 1) 0 (by rw [hexec, heq]) (Die.linksKept_refl 0 _) rfl
    refine ⟨fun hle => hdrop (hdone hle), fun hle hne => ?_, fun hle hi hs hin => hdrop ((hcases hle hi hs).1 hin), fun hle hi hs hout => ?_⟩
    · rw [hexec, hother hle hne]
    · exact s.reduce_joins l x m r h hl hrole hr _ _ _ rfl rfl rfl hle hi hs hout _ (fun _ => rfl) _ _ Iff.rfl Iff.rfl
  · obtain ⟨k, hkexec, hkdie, hkbuf, hkt, hkr, hkd, hin, hall, hsome⟩ := s.flockDigest_takes l m h hl _ rfl _ rfl _ rfl
    refine ⟨k, hkexec, hkdie, hkbuf, hkt, hkr, hkd, hin, fun hn hc => ?_, hsome⟩
    have htold := (hall hn hc).told
    exact htold
  · obtain ⟨t, hexec, hdie, hj⟩ := s.digestWait_judges image silent g hg
    exact ⟨t, hexec, hdie, hj.told⟩

end Sys2Proof.Machine
end

section
/-! SUPPORT. What errors of stored words, the reads that find them and the observation they lead to leave alone (R509 to R516, R530). -/

namespace Sys2Proof.Machine

/-- `f` differs from `d` by errors of stored words alone: the errors and the poison, the records of them, and the Sheepdog they wake. -/
structure Die.erred (d f : Die) : Prop where
  frame : f = { d with regs := f.regs, tallies := f.tallies, loft := f.loft, host := f.host, emits := f.emits, store := f.store, ecc := f.ecc, poison := f.poison, ceLast := f.ceLast, shd := f.shd, free := f.free }
  regs : ∀ (g : Fld) (i : Nat), reportWord (g.key i / 32) = false → g.key i / 32 < 0x180000 ∨ 0x188000 ≤ g.key i / 32 → f.get g i = d.get g i
  tals : ∀ k, loftTally k = false → k < 0x30000 ∨ 0x31000 ≤ k → k < 0x180000 ∨ 0x188000 ≤ k → KMap.get 0 f.tallies k = KMap.get 0 d.tallies k

theorem Die.erred_refl (d : Die) : d.erred d := ⟨rfl, fun _ _ _ _ => rfl, fun _ _ _ _ => rfl⟩

theorem Die.erred.trans {a b c : Die} (h : a.erred b) (k : b.erred c) : a.erred c := by
  refine ⟨?_, fun g i hr hs => (k.regs g i hr hs).trans (h.regs g i hr hs), fun n hl hc hs => (k.tals n hl hc hs).trans (h.tals n hl hc hs)⟩
  rw [k.frame, h.frame]

theorem Die.erred_ite {d e f : Die} {c : Prop} [Decidable c] (h : d.erred e) (k : d.erred f) : d.erred (if c then e else f) := by split <;> assumption

theorem Die.erred_foldl {α : Type} (f : Die → α → Die) (hf : ∀ d x, Die.erred d (f d x)) (l : List α) (d : Die) : d.erred (l.foldl f d) := by
  induction l generalizing d with
  | nil => exact d.erred_refl
  | cons x xs ih => exact (hf d x).trans (ih _)

theorem Die.erred_traced {d f : Die} (h : d.traced f) : d.erred f := by
  refine ⟨?_, fun g i hr _ => h.1.get g i hr, fun k hl _ _ => h.2 k hl⟩
  rw [h.1.1]

theorem Die.erred_of {d f : Die}
    (h : f = { d with ecc := f.ecc, poison := f.poison, ceLast := f.ceLast, shd := f.shd, free := f.free }) : d.erred f := by
  rw [h]
  exact ⟨rfl, fun _ _ _ _ => rfl, fun _ _ _ _ => rfl⟩

/-- A count of an error's tally. -/
theorem Die.erred_count (t : Tal) (i : Nat) (d : Die) (h : (0x30000 ≤ t.key i ∧ t.key i < 0x31000) ∨ (0x180000 ≤ t.key i ∧ t.key i < 0x188000)) : d.erred (d.count t i) := by
  have hcount := d.report_count t i
  refine ⟨?_, fun g j hr _ => hcount.get g j hr, fun k hl hc hs => Die.tally_countBy_other t i 1 k d hl (by omega)⟩
  rw [hcount.1]

/-- A flag of the Sheepdog. -/
theorem Die.erred_flag (f : Fld) (i : Nat) (b : Bool) (d : Die) (h : 0x180000 ≤ f.key i / 32 ∧ f.key i / 32 < 0x188000) : d.erred (d.flag f i b) :=
  ⟨rfl, fun g j _ hs => Die.get_put_other _ _ _ _ _ _ (by omega), fun _ _ _ _ => rfl⟩

theorem Die.erred_faultRecord (fu : Fused) (kind : Nat) (keys : List (Nat × Cbor)) (d : Die) : d.erred (d.faultRecord fu kind keys) := by
  unfold Die.faultRecord
  refine Die.erred.trans ?_ (Die.erred_traced (Die.traced_trace _ (fun p h => by cases h) _))
  have h : ∀ x : List Byte, d.erred (if kind = 1 then d else { d with store := (x :: d.store).take 16 }) := fun x =>
    Die.erred_ite d.erred_refl (Die.erred_traced (Die.traced_of _ _ rfl))
  refine Die.erred.trans (h _) (Die.erred_ite ?_ (Die.erred_count T.CHK_FAULT_DROP 0 _ (by decide)))
  exact Die.erred_traced ((Die.traced_hostWrite _ _ _ _).trans (Die.traced_put _ _ _ _ rfl))

theorem Die.erred_observe (fu : Fused) (e : Nat) (he : e < 8) (d : Die) : d.erred (d.observe fu e) := by
  unfold Die.observe
  refine Die.erred_ite d.erred_refl ?_
  refine Die.erred.trans ?_ (Die.erred_faultRecord fu 12 [] _)
  refine Die.erred.trans ?_ (Die.erred_count _ _ _ (by simp only [Tal.key, T.SHD_OBSERVATIONS]; omega))
  refine Die.erred.trans ?_ (Die.erred_flag _ _ _ _ (by simp only [Fld.key, R.SHD_CONTROL_OBSERVE]; omega))
  exact Die.erred_flag _ _ _ _ (by simp only [Fld.key, R.SHD_STATUS_OBSERVED]; omega)

theorem Die.erred_noteUe (fu : Fused) (e : Nat) (he : e < 8) (d : Die) : d.erred (d.noteUe fu e) := by
  unfold Die.noteUe
  dsimp only
  have h : d.erred (d.onShd e (fun x => { x with ues := d.ns :: (d.sheep e).ues.filter (fun t => decide (d.ns - t ≤ 10 ^ 9)) })) := Die.erred_of rfl
  exact Die.erred_ite h (h.trans (Die.erred_observe fu e he _))

theorem Die.erred_foundCe (fu : Fused) (kind loc : Nat) (tile : Option Nat) (d : Die) (hk : kind < 32) : d.erred (d.foundCe fu kind loc tile) := by
  unfold Die.foundCe
  dsimp only
  have hcount : d.erred (d.count (T.CHK_CE kind) 0) := Die.erred_count _ _ _ (by simp only [Tal.key, T.CHK_CE]; omega)
  have hbase : d.erred { d.count (T.CHK_CE kind) 0 with ecc := KMap.set 0 d.ecc (eccKey kind loc) 0 } := hcount.trans (Die.erred_of rfl)
  exact Die.erred_ite hbase (hbase.trans ((Die.erred_of rfl).trans (Die.erred_faultRecord fu 1 _ _)))

theorem Die.erred_foundUe (fu : Fused) (kind loc rk : Nat) (tile pas : Option Nat) (d : Die) (hk : kind < 32) (ht : ∀ t, tile = some t → t < 4096) :
    d.erred (d.foundUe fu kind loc rk tile pas) := by
  unfold Die.foundUe
  dsimp only
  have hcount : d.erred (d.count (T.CHK_UE kind) 0) := Die.erred_count _ _ _ (by simp only [Tal.key, T.CHK_UE]; omega)
  have hrec (e : Die) (keys : List (Nat × Cbor)) (n : Nat) (he : d.erred e) : d.erred ((e.faultRecord fu rk keys).incident 4 1 0 n) :=
    he.trans ((Die.erred_faultRecord fu rk keys e).trans (Die.erred_traced (Die.traced_incident 4 1 0 n _)))
  have hbase := hcount.trans (Die.erred_of (f := { d.count (T.CHK_UE kind) 0 with ecc := KMap.set 0 (d.count (T.CHK_UE kind) 0).ecc (eccKey kind loc) 0
                                                                                  poison := KMap.set false (d.count (T.CHK_UE kind) 0).poison (eccKey kind loc) true
                                                                                  free := (d.count (T.CHK_UE kind) 0).free + 1 }) rfl)
  cases tile with
  | none => exact hrec _ _ _ hbase
  | some t => exact Die.erred_ite ((hrec _ _ _ hbase).trans (Die.erred_noteUe fu _ (by have := ht t rfl; omega) _)) (hrec _ _ _ hbase)

theorem Die.erred_eccRead (fu : Fused) (kind loc : Nat) (tile pas : Option Nat) (d : Die) (hk : kind < 32) (ht : ∀ t, tile = some t → t < 4096) :
    d.erred (d.eccRead fu kind loc tile pas).2 := by
  unfold Die.eccRead
  dsimp only
  split
  · exact Die.erred_count T.CHK_POISON_READ 0 _ (by decide)
  · split
    · exact d.erred_refl
    · exact Die.erred_foundCe fu kind loc tile d hk
    · exact Die.erred_foundUe fu kind loc 2 tile pas d hk ht

theorem Die.erred_eccReadAll (fu : Fused) (kind : Nat) (tile pas : Option Nat) (hk : kind < 32) (ht : ∀ t, tile = some t → t < 4096) (l : List Nat) (d : Die) :
    d.erred (d.eccReadAll fu kind tile pas l).2 := by
  induction l generalizing d with
  | nil => exact d.erred_refl
  | cons a l ih => exact (d.erred_eccRead fu kind a tile pas hk ht).trans (ih _)

theorem Die.erred_eccClear (kind loc : Nat) (d : Die) : d.erred (d.eccClear kind loc) := Die.erred_of rfl

theorem Die.erred_eccClean (a b : Nat) (d : Die) : d.erred (d.eccClean a b) := Die.erred_of rfl

end Sys2Proof.Machine
end

section
/-! SUPPORT. The phases of an update and the copy of the masters to the host (R311, R320, R339, R353). -/

namespace Sys2Proof.Machine

/-- What the pair and flush phases keep of an update that has begun (R320). -/
structure Die.pairing (e : Nat) (d f : Die) : Prop where
  rows : f.rows = d.rows
  dir : f.dir = d.dir
  unit : (f.updSt e).bank = (d.updSt e).bank ∧ (f.updSt e).queue = (d.updSt e).queue ∧ (f.updSt e).sums = (d.updSt e).sums
  run : ∀ r, (d.updSt e).run = some r → ∃ q, (f.updSt e).run = some q ∧ q.step = r.step ∧ q.pairs = r.pairs ∧ q.digest = r.digest ∧ q.flip = r.flip ∧ q.committed = r.committed
  batch : f.get R.UPD_BATCH_PAIRS e = d.get R.UPD_BATCH_PAIRS e
  phase : d.get R.UPD_STATUS_PHASE e ∈ [1, 2, 3] → f.get R.UPD_STATUS_PHASE e ∈ [1, 2, 3]

theorem Die.pairing_same {e : Nat} {d f : Die} (hr : f.rows = d.rows) (hd : f.dir = d.dir) (hu : f.upd = d.upd)
    (hb : f.get R.UPD_BATCH_PAIRS e = d.get R.UPD_BATCH_PAIRS e) (hp : f.get R.UPD_STATUS_PHASE e = d.get R.UPD_STATUS_PHASE e) : d.pairing e f := by
  have hst : f.updSt e = d.updSt e := by rw [Die.updSt, Die.updSt, hu]
  refine ⟨hr, hd, by rw [hst]; exact ⟨rfl, rfl, rfl⟩, fun r h => ⟨r, by rw [hst]; exact h, rfl, rfl, rfl, rfl, rfl⟩, hb, fun h => by rw [hp]; exact h⟩

theorem Die.pairing_refl (e : Nat) (d : Die) : d.pairing e d := Die.pairing_same rfl rfl rfl rfl rfl

theorem Die.pairing.trans {e : Nat} {a b c : Die} (h : a.pairing e b) (k : b.pairing e c) : a.pairing e c := by
  refine ⟨k.rows.trans h.rows, k.dir.trans h.dir, ⟨k.unit.1.trans h.unit.1, k.unit.2.1.trans h.unit.2.1, k.unit.2.2.trans h.unit.2.2⟩, fun r hr => ?_, k.batch.trans h.batch,
    fun hp => k.phase (h.phase hp)⟩
  obtain ⟨q, hq, h1, h2, h3, h4, h5⟩ := h.run r hr
  obtain ⟨z, hz, k1, k2, k3, k4, k5⟩ := k.run q hq
  exact ⟨z, hz, k1.trans h1, k2.trans h2, k3.trans h3, k4.trans h4, k5.trans h5⟩

theorem Die.pairing_foldl {α : Type} (e : Nat) (f : Die → α → Die) (hf : ∀ d x, Die.pairing e d (f d x)) (l : List α) (d : Die) : d.pairing e (l.foldl f d) := by
  induction l generalizing d with
  | nil => exact d.pairing_refl e
  | cons x xs ih => exact (hf d x).trans (ih _)

theorem Die.pairing_onTile (e t : Nat) (f : TileSt → TileSt) (d : Die) : d.pairing e (d.onTile t f) := Die.pairing_same rfl rfl rfl rfl rfl

theorem Die.erred.pairing {d f : Die} (h : d.erred f) {e : Nat} (he : e < 8) : d.pairing e f := by
  refine Die.pairing_same (by rw [h.frame]) (by rw [h.frame]) (by rw [h.frame]) (h.regs _ _ ?_ ?_) (h.regs _ _ ?_ ?_)
  · exact reportWord_above (by simp only [Fld.key, R.UPD_BATCH_PAIRS]; omega) (by simp only [Fld.key, R.UPD_BATCH_PAIRS]; omega)
  · simp only [Fld.key, R.UPD_BATCH_PAIRS]; omega
  · exact reportWord_above (by simp only [Fld.key, R.UPD_STATUS_PHASE]; omega) (by simp only [Fld.key, R.UPD_STATUS_PHASE]; omega)
  · simp only [Fld.key, R.UPD_STATUS_PHASE]; omega

theorem Die.lineOnly.pairing {d f : Die} (h : d.lineOnly f) (e : Nat) : d.pairing e f := by
  refine Die.pairing_same (by rw [h.frame]) (by rw [h.frame]) h.units.1 (Die.get_congr _ _ h.regs _ _) (Die.get_congr _ _ h.regs _ _)

theorem Die.report.pairing {d f : Die} (h : d.report f) {e : Nat} (he : e < 8) : d.pairing e f := by
  refine Die.pairing_same (by rw [h.1]) (by rw [h.1]) (by rw [h.1]) (h.get _ _ ?_) (h.get _ _ ?_)
  · exact reportWord_above (by simp only [Fld.key, R.UPD_BATCH_PAIRS]; omega) (by simp only [Fld.key, R.UPD_BATCH_PAIRS]; omega)
  · exact reportWord_above (by simp only [Fld.key, R.UPD_STATUS_PHASE]; omega) (by simp only [Fld.key, R.UPD_STATUS_PHASE]; omega)

theorem Die.get_setPhase_same (e v : Nat) (hv : v < 8) (d : Die) : (d.setPhase e v).get R.UPD_STATUS_PHASE e = v := by
  rw [Die.setPhase, Die.get_put_same]
  exact Nat.mod_eq_of_lt hv

theorem Die.pairing_setPhase (e v : Nat) (hv : v ∈ [1, 2, 3]) (d : Die) : d.pairing e (d.setPhase e v) := by
  refine ⟨rfl, rfl, ⟨rfl, rfl, rfl⟩, fun r h => ⟨r, h, rfl, rfl, rfl, rfl, rfl⟩, Die.get_put_apart _ _ _ _ _ (by decide), fun _ => ?_⟩
  rw [Die.get_setPhase_same e v (by simp at hv; omega)]
  exact hv

/-- A change of the unit that keeps what its update is of. -/
theorem Die.pairing_onUpd (e : Nat) (f : UpdSt → UpdSt) (d : Die) (hf : ∀ y, (f y).bank = y.bank ∧ (f y).queue = y.queue ∧ (f y).sums = y.sums)
    (g : UpdRun → UpdRun) (hg : ∀ y, (f y).run = y.run.map g) (hr : ∀ r, (g r).step = r.step ∧ (g r).pairs = r.pairs ∧ (g r).digest = r.digest ∧ (g r).flip = r.flip
      ∧ (g r).committed = r.committed) : d.pairing e (d.onUpd e f) := by
  refine ⟨rfl, rfl, ?_, fun r h => ⟨g r, ?_, hr r⟩, rfl, fun h => h⟩
  · rw [Die.updSt_onUpd_same]
    exact hf _
  · rw [Die.updSt_onUpd_same, hg, h]
    rfl

theorem Die.pairing_onRun (e : Nat) (g : UpdRun → UpdRun) (d : Die) (hr : ∀ r, (g r).step = r.step ∧ (g r).pairs = r.pairs ∧ (g r).digest = r.digest ∧ (g r).flip = r.flip
    ∧ (g r).committed = r.committed) : d.pairing e (d.onRun e g) := Die.pairing_onUpd e _ d (fun _ => ⟨rfl, rfl, rfl⟩) g (fun _ => rfl) hr

theorem Die.pairing_enterReduce (x : UpdCtx) (d : Die) : d.pairing x.e (d.enterReduce x) := by
  unfold Die.enterReduce
  have hphase := d.pairing_setPhase x.e 3 (by decide)
  dsimp only
  split
  · split
    · exact hphase.trans (Die.pairing_foldl x.e _ (fun d k => (d.lineOnly_sendUp 4 x.im.imageId _).pairing x.e) _ _)
    · exact hphase
  · exact hphase

theorem Die.pairing_enterFlush (x : UpdCtx) (d : Die) : d.pairing x.e (d.enterFlush x) := by
  unfold Die.enterFlush
  have htiles := (d.pairing_setPhase x.e 2 (by decide)).trans (Die.pairing_foldl x.e _ (fun d t => d.pairing_onTile x.e t (fun z => { z with lanePos := 0 })) x.tiles _)
  dsimp only
  split
  · exact htiles.trans (Die.pairing_enterReduce x _)
  · exact htiles

theorem Die.pairing_deliverPair (x : UpdCtx) (c : CapRec) (d : Die) : d.pairing x.e (d.deliverPair x c) := by
  unfold Die.deliverPair
  exact Die.pairing_foldl x.e _ (fun d t => (d.pairing_onTile x.e t _).trans (Die.pairing_foldl x.e _ (fun d y => d.pairing_onTile x.e t _) _ _)) _ _

theorem Die.pairing_nextPair (fu : Fused) (x : UpdCtx) (he : x.e < 8) (l : List CapRec) (d : Die) : d.pairing x.e (d.nextPair fu x l) := by
  induction l generalizing d with
  | nil =>
    unfold Die.nextPair
    exact (d.pairing_onRun x.e (fun r => { r with todo := [], cur := none }) (fun _ => ⟨rfl, rfl, rfl, rfl, rfl⟩)).trans (Die.pairing_enterFlush x _)
  | cons c rest ih =>
    unfold Die.nextPair
    have htake := d.pairing_onUpd x.e (fun y => { y with ring := y.ring.erase c, run := y.run.map (fun r => { r with todo := rest, cur := some c }) })
      (fun _ => ⟨rfl, rfl, rfl⟩) _ (fun _ => rfl) (fun _ => ⟨rfl, rfl, rfl, rfl, rfl⟩)
    obtain ⟨u, hu⟩ : ∃ u, d.onUpd x.e (fun y => { y with ring := y.ring.erase c, run := y.run.map (fun r => { r with todo := rest, cur := some c }) }) = u := ⟨_, rfl⟩
    have hread := ((u.erred_eccRead fu 8 (capLoc x.e c.evid) none (some x.p) (by decide) (fun t h => by cases h)).trans (Die.erred_eccClear 8 (capLoc x.e c.evid) _)).pairing he
    dsimp only
    rw [hu] at htake ⊢
    have hpre := htake.trans hread
    split
    · exact hpre.trans (((Die.report_count _ _ _).pairing he).trans (ih _))
    · split
      · exact hpre.trans ((Die.pairing_deliverPair x c _).trans (ih _))
      · exact hpre.trans (Die.pairing_deliverPair x c _)

/-- An update that begins (R320): the unit, BATCH_PAIRS and the tiles before the first pair. -/
theorem Die.updateBegin_begins (fu : Fused) (x : UpdCtx) (he : x.e < 8) (d : Die) (k : Nat) (ids : List Nat) (rest : List (Nat × List Nat))
    (hq : (d.updSt x.e).queue = (k, ids) :: rest) (hrun : (d.updSt x.e).run = none) (hst : d.get R.UPD_STATUS_STATE x.e ≠ 3) (f : Die) (hf : d.updateBegin fu x = f) :
    (f.updSt x.e).queue = rest ∧ (f.updSt x.e).sums = []
      ∧ (∃ r, (f.updSt x.e).run = some r ∧ r.step = k ∧ r.pairs = ids.length ∧ r.digest = ids.foldl mix64 k ∧ r.flip = k + x.u.delay ∧ r.committed = !x.u.flock)
      ∧ f.get R.UPD_STATUS_PHASE x.e ∈ [1, 2, 3] ∧ f.get R.UPD_BATCH_PAIRS x.e = ids.length % 2 ^ 17 ∧ (f.updSt x.e).bank = (d.updSt x.e).bank
      ∧ f.rows = d.rows ∧ f.dir = d.dir := by
  obtain ⟨r, hr⟩ : ∃ r : UpdRun, r = { step := k, pairs := ids.length, digest := batchDigest k ids, flip := k + x.u.delay, committed := !x.u.flock } := ⟨_, rfl⟩
  obtain ⟨u, hu⟩ : ∃ u, (d.onUpd x.e (fun y => { y with queue := rest, run := some r, sums := [] })).put R.UPD_BATCH_PAIRS x.e ids.length = u := ⟨_, rfl⟩
  obtain ⟨v, hv⟩ : ∃ v, x.tiles.foldl (fun d t =>
        (d.onTile t (fun z => { z with acc := [], codes := [], block := 0, swapped := [] })).eccClean (eccKey 10 (tsLoc t 0)) (eccKey 10 (tsLoc (t + 1) 0))) u = v := ⟨_, rfl⟩
  obtain ⟨w, hw⟩ : ∃ w, x.keys.foldl (fun d k => d.eccClear 9 (updLoc x.e k)) v = w := ⟨_, rfl⟩
  have hdef : f = (w.setPhase x.e 1).nextPair fu x (sortBy (fun a b => decide (a.evid ≤ b.evid)) ((d.updSt x.e).matched k)) := by
    rw [← hf, ← hw, ← hv, ← hu, hr]
    unfold Die.updateBegin
    dsimp only
    rw [hq, hrun]
    exact if_neg hst
  have huv : u.pairing x.e v := by
    rw [← hv]
    exact Die.pairing_foldl x.e _ (fun d t => (d.pairing_onTile x.e t _).trans ((Die.erred_eccClean _ _ _).pairing he)) _ _
  have hvw : v.pairing x.e w := by
    rw [← hw]
    exact Die.pairing_foldl x.e _ (fun d k => (Die.erred_eccClear _ _ _).pairing he) _ _
  have hphase : (w.setPhase x.e 1).get R.UPD_STATUS_PHASE x.e ∈ [1, 2, 3] := by
    rw [Die.get_setPhase_same x.e 1 (by decide)]
    decide
  have hnext := Die.pairing_nextPair fu x he (sortBy (fun a b => decide (a.evid ≤ b.evid)) ((d.updSt x.e).matched k)) (w.setPhase x.e 1)
  rw [← hdef] at hnext
  have hall := huv.trans (hvw.trans ((w.pairing_setPhase x.e 1 (by decide)).trans hnext))
  have hust : u.updSt x.e = { d.updSt x.e with queue := rest, run := some r, sums := [] } := by
    rw [← hu]
    exact Die.updSt_onUpd_same x.e (fun y => { y with queue := rest, run := some r, sums := [] }) d
  have hubatch : u.get R.UPD_BATCH_PAIRS x.e = ids.length % 2 ^ 17 := by
    rw [← hu]
    exact Die.get_put_same _ _ _ _
  obtain ⟨q, hqrun, h1, h2, h3, h4, h5⟩ := hall.run r (by rw [hust])
  refine ⟨?_, ?_, ⟨q, hqrun, ?_⟩, hnext.phase hphase, hall.batch.trans hubatch, ?_, ?_, ?_⟩
  · rw [hall.unit.2.1, hust]
  · rw [hall.unit.2.2, hust]
  · rw [h1, h2, h3, h4, h5, hr]
    exact ⟨rfl, rfl, rfl, rfl, rfl⟩
  · rw [hall.unit.1, hust]
  · rw [hall.rows, ← hu]
    rfl
  · rw [hall.dir, ← hu]
    rfl

/-- `f` differs from `d` in the tiles alone. -/
def Die.tilesOnly (d f : Die) : Prop := f = { d with tiles := f.tiles }

theorem Die.tilesOnly_refl (d : Die) : d.tilesOnly d := rfl

theorem Die.tilesOnly.trans {a b c : Die} (h : a.tilesOnly b) (k : b.tilesOnly c) : a.tilesOnly c := by
  unfold Die.tilesOnly at h k ⊢
  rw [k, h]

theorem Die.tilesOnly_onTile (t : Nat) (f : TileSt → TileSt) (d : Die) : d.tilesOnly (d.onTile t f) := rfl

theorem Die.tilesOnly_foldl {α : Type} (f : Die → α → Die) (hf : ∀ d x, Die.tilesOnly d (f d x)) (l : List α) (d : Die) : d.tilesOnly (l.foldl f d) := by
  induction l generalizing d with
  | nil => exact d.tilesOnly_refl
  | cons x xs ih => exact (hf d x).trans (ih _)

theorem Die.tilesOnly_setUb (tile buf : Nat) (l : List UbBeat) (d : Die) : d.tilesOnly (d.setUb tile buf l) :=
  Die.tilesOnly_foldl _ (fun d _ => d.tilesOnly_onTile tile _) _ _

/-- With no word in error a block's state beats are written into the tile (R333). -/
theorem Die.tilesOnly_deliverBlock (fu : Fused) (x : UpdCtx) (t : Nat) (d : Die) (hecc : d.ecc = []) (hpoison : d.poison = []) : d.tilesOnly (d.deliverBlock fu x t) := by
  unfold Die.deliverBlock
  split
  · exact d.tilesOnly_refl
  · dsimp only
    rw [Die.eccReadAll_clean _ _ _ _ _ _ hecc hpoison]
    exact (if_neg Bool.false_ne_true) ▸ Die.tilesOnly_setUb _ _ _ d

theorem Die.tilesOnly_deliverBlocks (fu : Fused) (x : UpdCtx) (l : List Nat) (d : Die) (hecc : d.ecc = []) (hpoison : d.poison = []) :
    d.tilesOnly (l.foldl (fun d t => (d.onTile t (fun z => { z with lanePos := 0, block := 0 })).deliverBlock fu x t) d) := by
  induction l generalizing d with
  | nil => exact d.tilesOnly_refl
  | cons t l ih =>
    have hone : d.tilesOnly ((d.onTile t (fun z => { z with lanePos := 0, block := 0 })).deliverBlock fu x t) :=
      (d.tilesOnly_onTile t _).trans (Die.tilesOnly_deliverBlock fu x t _ hecc hpoison)
    exact hone.trans (ih _ (by rw [hone]; exact hecc) (by rw [hone]; exact hpoison))

/-- The optimise phase begins, or is over at once where no tile has a block (R320). -/
theorem Die.reduceDone_optimises (fu : Fused) (x : UpdCtx) (d : Die) (r : UpdRun) (hr : (d.updSt x.e).run = some r) (hphase : d.get R.UPD_STATUS_PHASE x.e = 3)
    (hcommit : r.committed = true) (hall : x.u.flock = false ∨ (List.range x.chunks).all r.chunks.contains) (hecc : d.ecc = []) (hpoison : d.poison = [])
    (f : Die) (hf : d.reduceDone fu x = f) :
    f.get R.UPD_STATUS_PHASE x.e = (if x.tiles.all (fun y => (x.blocks y).isEmpty) then 5 else 4) ∧ (f.updSt x.e).run = some r
      ∧ (f.updSt x.e).masters = (d.updSt x.e).masters ∧ (f.updSt x.e).sums = (d.updSt x.e).sums ∧ f.tallies = d.tallies ∧ f.rows = d.rows := by
  obtain ⟨u, hu⟩ : ∃ u, x.tiles.foldl (fun d t => (d.onTile t (fun z => { z with lanePos := 0, block := 0 })).deliverBlock fu x t) (d.setPhase x.e 4) = u := ⟨_, rfl⟩
  have hdef : f = if x.tiles.all (fun t => (x.blocks t).isEmpty) then u.optimiseEnd x else u := by
    rw [← hf, ← hu]
    unfold Die.reduceDone
    rw [hr]
    dsimp only
    rw [if_pos ⟨hphase, hcommit, hall⟩, Die.eccReadAll_clean _ _ _ _ _ _ hecc hpoison]
    exact if_neg Bool.false_ne_true
  have htiles : (d.setPhase x.e 4).tilesOnly u := by
    rw [← hu]
    exact Die.tilesOnly_deliverBlocks fu x x.tiles (d.setPhase x.e 4) hecc hpoison
  have hust : u.updSt x.e = d.updSt x.e := by rw [htiles]; rfl
  have huphase : u.get R.UPD_STATUS_PHASE x.e = 4 := by
    rw [htiles]
    exact Die.get_setPhase_same x.e 4 (by decide) d
  have hsame : u.tallies = d.tallies ∧ u.rows = d.rows := by rw [htiles]; exact ⟨rfl, rfl⟩
  rw [hdef]
  split
  · obtain ⟨b, hb⟩ : ∃ b, u.optimiseEnd x = (u.onUpd x.e (fun y => { y with bases := b })).setPhase x.e 5 := ⟨_, rfl⟩
    have hst : (u.optimiseEnd x).updSt x.e = { d.updSt x.e with bases := b } := by
      rw [hb, ← hust]
      exact Die.updSt_onUpd_same x.e (fun y => { y with bases := b }) u
    refine ⟨?_, by rw [hst]; exact hr, by rw [hst], by rw [hst], ?_, ?_⟩
    · rw [hb]
      exact Die.get_setPhase_same x.e 5 (by decide) _
    · rw [hb]
      exact hsame.1
    · rw [hb]
      exact hsame.2
  · exact ⟨huphase, by rw [hust]; exact hr, by rw [hust], by rw [hust], hsame.1, hsame.2⟩

/-- The swap phase opens, or is over at once where nothing is to swap (R320, R353). -/
theorem Die.swapBegin_opens (x : UpdCtx) (d : Die) (r : UpdRun) (hr : (d.updSt x.e).run = some r) (hphase : d.get R.UPD_STATUS_PHASE x.e = 5) (hswap : r.swapping = false)
    (hpend : (d.updSt x.e).pend = none) (hflight : ∀ sl ∈ (d.engPas x.e x.p).flight, (KMap.get {} (d.engPas x.e x.p).slots sl).wb = (d.updSt x.e).bank)
    (f : Die) (hf : d.swapBegin x = f) :
    f.tiles = d.tiles ∧ f.tallies = d.tallies
      ∧ (if x.tiles.all (fun y => d.swapsDone x y) then (f.updSt x.e).run = none ∧ (∃ z, (f.updSt x.e).pend = some z ∧ z.flip = r.flip) ∧ f.get R.UPD_STATUS_PHASE x.e = 6
        else (f.updSt x.e).run = some { r with swapping := true } ∧ (f.updSt x.e).pend = none) := by
  obtain ⟨u, hu⟩ : ∃ u, d.onRun x.e (fun y => { y with swapping := true }) = u := ⟨_, rfl⟩
  have hdef : f = if x.tiles.all (fun t => u.swapsDone x t) then u.swapEnd x else u := by
    rw [← hf, ← hu]
    unfold Die.swapBegin
    dsimp only
    rw [hr]
    refine if_pos ⟨hphase, hswap, by rw [hpend]; rfl, ?_⟩
    rw [List.all_eq_true]
    exact fun sl h => by rw [hflight sl h]; exact beq_self_eq_true _
  have hst : u.updSt x.e = { d.updSt x.e with run := some { r with swapping := true } } := by
    rw [← hu, Die.onRun, Die.updSt_onUpd_same, hr]
    rfl
  have hframe : u.tiles = d.tiles ∧ u.tallies = d.tallies := by rw [← hu]; exact ⟨rfl, rfl⟩
  have hall : x.tiles.all (fun t => u.swapsDone x t) = x.tiles.all (fun t => d.swapsDone x t) := by rw [← hu]; rfl
  rw [hdef, hall]
  by_cases hdone : x.tiles.all (fun t => d.swapsDone x t) = true
  · rw [if_pos hdone, if_pos hdone]
    obtain ⟨wd, hwd⟩ : ∃ wd, u.weightDigest x.e x.im r.flip (1 - (u.updSt x.e).bank) = wd := ⟨_, rfl⟩
    have hend : u.swapEnd x = (u.onUpd x.e (fun y => { y with run := none, pend := some { r with swapping := true, wd := wd } })).setPhase x.e 6 := by
      unfold Die.swapEnd
      rw [← hwd, hst]
    have hend' : (u.swapEnd x).updSt x.e = { u.updSt x.e with run := none, pend := some { r with swapping := true, wd := wd } } := by
      rw [hend]
      exact Die.updSt_onUpd_same x.e (fun y => { y with run := none, pend := some { r with swapping := true, wd := wd } }) u
    rw [hend', hend]
    exact ⟨hframe.1, hframe.2, rfl, ⟨_, rfl, rfl⟩, Die.get_setPhase_same x.e 6 (by decide) _⟩
  · rw [if_neg hdone, if_neg hdone, hst]
    exact ⟨hframe.1, hframe.2, rfl, hpend⟩

/-- What the report of a flip leaves (R469, R550): the unit's banks, its registers but PHASE, and the memories. -/
structure Die.flipKept (e : Nat) (d f : Die) : Prop where
  unit : (f.updSt e).pend = (d.updSt e).pend ∧ (f.updSt e).bank = (d.updSt e).bank ∧ (f.updSt e).masters = (d.updSt e).masters
  regs : ∀ g : Fld, g.base = 0x140000 → g.off < 0x1000 → g.lo < 32 → g.off * 32 + g.lo ≠ 0x800 * 32 + 3 → f.get g e = d.get g e
  mem : f.tiles = d.tiles ∧ f.rows = d.rows

theorem Die.flipKept.trans {e : Nat} {a b c : Die} (h : a.flipKept e b) (k : b.flipKept e c) : a.flipKept e c :=
  ⟨⟨k.unit.1.trans h.unit.1, k.unit.2.1.trans h.unit.2.1, k.unit.2.2.trans h.unit.2.2⟩, fun g hb ho hl hn => (k.regs g hb ho hl hn).trans (h.regs g hb ho hl hn),
    k.mem.1.trans h.mem.1, k.mem.2.trans h.mem.2⟩

theorem Die.flipKept_refl (e : Nat) (d : Die) : d.flipKept e d := ⟨⟨rfl, rfl, rfl⟩, fun _ _ _ _ _ => rfl, rfl, rfl⟩

theorem Die.report.flipKept {d f : Die} (h : d.report f) {e : Nat} (he : e < 8) : d.flipKept e f := by
  have hst := h.updSt e
  refine ⟨by rw [hst]; exact ⟨rfl, rfl, rfl⟩, fun g hb ho hl _ => h.get g e (reportWord_above ?_ ?_), by rw [h.1], by rw [h.1]⟩
  · rw [Fld.key]; omega
  · rw [Fld.key]; omega

theorem Die.flipKept_setPhase (e v : Nat) (d : Die) : d.flipKept e (d.setPhase e v) := by
  refine ⟨⟨rfl, rfl, rfl⟩, fun g hb _ _ hn => Die.get_put_apart _ _ _ _ _ ?_, rfl, rfl⟩
  rw [hb]
  simp only [R.UPD_STATUS_PHASE]
  omega

/-- A DIGEST sent is a message on the line, and kept until it is judged (R469). -/
theorem Die.flipKept_sendDigest (x : UpdCtx) (step : Nat) (d : Die) : d.flipKept x.e (d.sendDigest x step) ∧ (d.sendDigest x step).tallies = d.tallies := by
  unfold Die.sendDigest
  split
  · generalize leBytes 8 step ++ leBytes 4 0 ++ leBytes 8 (d.updSt x.e).wd ++ leBytes 4 1 ++ List.replicate 36 0 ++ leBytes 4 0 = body
    obtain ⟨u, hu⟩ : ∃ u, d.onUpd x.e (fun y => { y with sentWd := KMap.set none y.sentWd step (some y.wd) }) = u := ⟨_, rfl⟩
    have hst : u.updSt x.e = { d.updSt x.e with sentWd := KMap.set none (d.updSt x.e).sentWd step (some (d.updSt x.e).wd) } := by
      rw [← hu]
      exact Die.updSt_onUpd_same x.e (fun y => { y with sentWd := KMap.set none y.sentWd step (some y.wd) }) d
    have hframe : u.tiles = d.tiles ∧ u.rows = d.rows ∧ u.regs = d.regs ∧ u.tallies = d.tallies := by rw [← hu]; exact ⟨rfl, rfl, rfl, rfl⟩
    rw [hu]
    have hline := u.lineOnly_sendUp 7 x.im.imageId body
    have hline' : (u.sendUp 7 x.im.imageId body).updSt x.e = u.updSt x.e := by rw [Die.updSt, hline.units.1]; rfl
    refine ⟨⟨by rw [hline', hst]; exact ⟨rfl, rfl, rfl⟩, fun g _ _ _ _ => (Die.get_congr _ _ (hline.regs.trans hframe.2.2.1) _ _), ?_, ?_⟩, hline.same.2.trans hframe.2.2.2⟩
    · rw [hline.frame]
      exact hframe.1
    · rw [hline.frame]
      exact hframe.2.1
  · exact ⟨d.flipKept_refl x.e, rfl⟩

/-- BANK, the flip step and the weight digest as they are put (R311, R353). -/
theorem Die.flipWords_read (e bank flip wd : Nat) (d f : Die)
    (hf : ((d.put R.UPD_STATUS_BANK e bank).putPair R.UPD_FLIP_STEP_LO R.UPD_FLIP_STEP_HI e flip).putPair R.UPD_WDIGEST_LO R.UPD_WDIGEST_HI e wd = f) :
    f.get R.UPD_STATUS_BANK e = bank % 2 ∧ f.pair64 R.UPD_FLIP_STEP_LO R.UPD_FLIP_STEP_HI e = flip % 2 ^ 64 ∧ f.pair64 R.UPD_WDIGEST_LO R.UPD_WDIGEST_HI e = wd % 2 ^ 64 := by
  have hpair (v : Nat) : v % 2 ^ 32 + v / 2 ^ 32 % 2 ^ 32 * 2 ^ 32 = v % 2 ^ 64 := by omega
  subst hf
  refine ⟨?_, ?_, ?_⟩
  · rw [Die.putPair, Die.putPair, Die.get_put_apart _ _ _ _ _ (by decide), Die.get_put_apart _ _ _ _ _ (by decide), Die.get_put_apart _ _ _ _ _ (by decide),
      Die.get_put_apart _ _ _ _ _ (by decide), Die.get_put_same]
    rfl
  · rw [Die.pair64, Die.putPair, Die.putPair, Die.get_put_apart _ _ _ _ _ (by decide), Die.get_put_apart _ _ _ _ _ (by decide), Die.get_put_apart _ _ _ _ _ (by decide),
      Die.get_put_same, Die.get_put_apart _ _ _ _ _ (by decide), Die.get_put_apart _ _ _ _ _ (by decide), Die.get_put_same]
    exact hpair flip
  · rw [Die.pair64, Die.putPair, Die.get_put_apart _ _ _ _ _ (by decide), Die.get_put_same, Die.get_put_same]
    exact hpair wd

/-- The flip (R311, R353, R469): the banks exchange, and the update reports itself. -/
theorem Die.updateFlip_flips (x : UpdCtx) (he : x.e < 8) (hp : x.p < 64) (d : Die) (r : UpdRun) (n : Nat) (hpend : (d.updSt x.e).pend = some r) (hn : stepN x.ei = some n)
    (hflip : r.flip ≤ x.im.stepBase.toNat + (d.engPas x.e x.p).index / n) (f : Die) (hf : d.updateFlip x = f) :
    (f.updSt x.e).pend = none ∧ (f.updSt x.e).bank = 1 - (d.updSt x.e).bank ∧ f.get R.UPD_STATUS_BANK x.e = (1 - (d.updSt x.e).bank) % 2
      ∧ f.pair64 R.UPD_FLIP_STEP_LO R.UPD_FLIP_STEP_HI x.e = r.flip % 2 ^ 64 ∧ f.pair64 R.UPD_WDIGEST_LO R.UPD_WDIGEST_HI x.e = r.wd % 2 ^ 64
      ∧ (f.updSt x.e).masters = (d.updSt x.e).masters ∧ f.tally T.UPD_UPDATES x.e = tallyAdd (d.tally T.UPD_UPDATES x.e) 1 ∧ f.tiles = d.tiles ∧ f.rows = d.rows := by
  obtain ⟨a, ha⟩ : ∃ a, d.onUpd x.e (fun y => { y with pend := none, bank := 1 - y.bank, wd := r.wd }) = a := ⟨_, rfl⟩
  have hast : a.updSt x.e = { d.updSt x.e with pend := none, bank := 1 - (d.updSt x.e).bank, wd := r.wd } := by
    rw [← ha]
    exact Die.updSt_onUpd_same x.e (fun y => { y with pend := none, bank := 1 - y.bank, wd := r.wd }) d
  have haframe : a.tiles = d.tiles ∧ a.rows = d.rows ∧ a.tallies = d.tallies := by rw [← ha]; exact ⟨rfl, rfl, rfl⟩
  obtain ⟨b, hb⟩ : ∃ b, ((a.put R.UPD_STATUS_BANK x.e (a.updSt x.e).bank).putPair R.UPD_FLIP_STEP_LO R.UPD_FLIP_STEP_HI x.e r.flip).putPair R.UPD_WDIGEST_LO R.UPD_WDIGEST_HI
      x.e r.wd = b := ⟨_, rfl⟩
  have hbst : b.updSt x.e = a.updSt x.e := by rw [← hb]; rfl
  have hbframe : b.tiles = a.tiles ∧ b.rows = a.rows ∧ b.tallies = a.tallies := by rw [← hb]; exact ⟨rfl, rfl, rfl⟩
  have hbregs := Die.flipWords_read x.e (a.updSt x.e).bank r.flip r.wd a b hb
  obtain ⟨c, hc⟩ : ∃ c, b.count T.UPD_UPDATES x.e = c := ⟨_, rfl⟩
  have hcount := b.report_count T.UPD_UPDATES x.e
  have hctal := Die.tally_count_exact T.UPD_UPDATES x.e b rfl
  rw [hc] at hcount hctal
  obtain ⟨g, hg⟩ : ∃ g, (if (c.updSt x.e).run.isNone then c.setPhase x.e 0 else c) = g := ⟨_, rfl⟩
  have hgkept : c.flipKept x.e g ∧ g.tallies = c.tallies := by
    rw [← hg]
    split
    · exact ⟨c.flipKept_setPhase x.e 0, rfl⟩
    · exact ⟨c.flipKept_refl x.e, rfl⟩
  have hpacket := g.traced_updPacket x r 1 hp
  have hdef : f = (g.updPacket x r 1).sendDigest x r.flip := by
    rw [← hf, ← hg, ← hc, ← hb, ← ha]
    unfold Die.updateFlip
    rw [hpend, hn]
    exact if_pos hflip
  obtain ⟨hsend, hsendtal⟩ := (g.updPacket x r 1).flipKept_sendDigest x r.flip
  rw [← hdef] at hsend hsendtal
  have hkept := (hcount.flipKept he).trans (hgkept.1.trans ((hpacket.1.flipKept he).trans hsend))
  have hpair (lo hi : Fld) (hlo : lo.base = 0x140000 ∧ lo.off < 0x1000 ∧ lo.lo < 32 ∧ lo.off * 32 + lo.lo ≠ 0x800 * 32 + 3)
      (hhi : hi.base = 0x140000 ∧ hi.off < 0x1000 ∧ hi.lo < 32 ∧ hi.off * 32 + hi.lo ≠ 0x800 * 32 + 3) : f.pair64 lo hi x.e = b.pair64 lo hi x.e := by
    rw [Die.pair64, Die.pair64, hkept.regs lo hlo.1 hlo.2.1 hlo.2.2.1 hlo.2.2.2, hkept.regs hi hhi.1 hhi.2.1 hhi.2.2.1 hhi.2.2.2]
  refine ⟨?_, ?_, ?_, ?_, ?_, ?_, ?_, ?_, ?_⟩
  · rw [hkept.unit.1, hbst, hast]
  · rw [hkept.unit.2.1, hbst, hast]
  · rw [hkept.regs _ rfl (by decide) (by decide) (by decide), hbregs.1, hast]
  · rw [hpair _ _ (by decide) (by decide), hbregs.2.1]
  · rw [hpair _ _ (by decide) (by decide), hbregs.2.2]
  · rw [hkept.unit.2.2, hbst, hast]
  · have htraced : (g.updPacket x r 1).tally T.UPD_UPDATES x.e = g.tally T.UPD_UPDATES x.e :=
      hpacket.2 _ (loftTally_false (.inr ⟨by simp only [Tal.key, T.UPD_UPDATES]; omega, .inl (by simp only [Tal.key, T.UPD_UPDATES]; omega)⟩))
    rw [Die.tally, hsendtal]
    refine htraced.trans ?_
    rw [Die.tally, hgkept.2]
    refine hctal.trans ?_
    rw [Die.tally, hbframe.2.2, haframe.2.2]
    rfl
  · rw [hkept.mem.1, hbframe.1, haframe.1]
  · rw [hkept.mem.2, hbframe.2.1, haframe.2.1]

/-- `f` differs from `d` by batches that are skipped (R324). -/
def Die.skipping (e : Nat) (d f : Die) : Prop := d.unitReport f ∧ (f.updSt e).masters = (d.updSt e).masters

theorem Die.unitReport.trans {a b c : Die} (h : a.unitReport b) (k : b.unitReport c) : a.unitReport c := by
  obtain ⟨u, h, hregs⟩ := h
  obtain ⟨v, k, kregs⟩ := k
  refine ⟨v, ?_, fun f i hf => (kregs f i hf).trans (hregs f i hf)⟩
  rw [k, h]

theorem Die.skipping.trans {e : Nat} {a b c : Die} (h : a.skipping e b) (k : b.skipping e c) : a.skipping e c := ⟨h.1.trans k.1, k.2.trans h.2⟩

theorem Die.skipping_refl (e : Nat) (d : Die) : d.skipping e d := ⟨⟨d.upd, Die.report_refl d⟩, rfl⟩

theorem Die.skipping_onUpd (e : Nat) (f : UpdSt → UpdSt) (d : Die) (hf : ∀ y, (f y).masters = y.masters) : d.skipping e (d.onUpd e f) :=
  ⟨Die.unitReport_onUpd e f d, by rw [Die.updSt_onUpd_same, hf]⟩

theorem Die.report.skipping {d f : Die} (h : d.report f) (e : Nat) : d.skipping e f := ⟨⟨d.upd, h⟩, by rw [h.updSt]⟩

theorem Die.skipping_skipBatch (x : UpdCtx) (hp : x.p < 64) (k : Nat) (ids : List Nat) (d : Die) : d.skipping x.e (d.skipBatch x k ids) := by
  obtain ⟨u, hu⟩ : ∃ u, d.onUpd x.e (fun y => { y with ring := y.ring.filter (fun r => !(r.label.isSome && r.step == k)) }) = u := ⟨_, rfl⟩
  have hring : d.skipping x.e u := by
    rw [← hu]
    exact d.skipping_onUpd x.e (fun y => { y with ring := y.ring.filter (fun r => !(r.label.isSome && r.step == k)) }) (fun _ => rfl)
  obtain ⟨r, hr⟩ : ∃ r : UpdRun, { step := k, pairs := ids.length, digest := batchDigest k ids, flip := k + x.u.delay } = r := ⟨_, rfl⟩
  have hdef : d.skipBatch x k ids = (u.count T.UPD_UPD_SKIPPED x.e).updPacket x r 3 := by
    rw [← hu, ← hr]
    rfl
  have hpacket := (u.count T.UPD_UPD_SKIPPED x.e).traced_updPacket x r 3 hp
  rw [hdef]
  exact hring.trans (((u.report_count T.UPD_UPD_SKIPPED x.e).trans hpacket.1).skipping x.e)

theorem Die.skipping.ctx {e : Nat} {d f : Die} (h : d.skipping e f) (k : Nat) : f.updCtx k = d.updCtx k := by
  obtain ⟨⟨u, h, -⟩, -⟩ := h
  unfold Die.updCtx Die.updOwner Die.grant Die.image Die.pasture
  rw [h]

/-- PAUSE and the state it makes (R324). -/
def Die.pauseSet (e w : Nat) (d : Die) : Die :=
  if (d.setFields .UPD e 0x010 w).get R.UPD_STATUS_STATE e = 1 ∨ (d.setFields .UPD e 0x010 w).get R.UPD_STATUS_STATE e = 2
  then (d.setFields .UPD e 0x010 w).put R.UPD_STATUS_STATE e (if (d.setFields .UPD e 0x010 w).on R.UPD_CONTROL_PAUSE e then 2 else 1)
  else d.setFields .UPD e 0x010 w

theorem Die.pauseSet_sets (e w : Nat) (d : Die) : d.pauseSet e w = { d with regs := (d.pauseSet e w).regs }
    ∧ (d.pauseSet e w).on R.UPD_CONTROL_PAUSE e = bit w 0 ∧ (d.pauseSet e w).get R.UPD_STATUS_PHASE e = d.get R.UPD_STATUS_PHASE e
    ∧ (d.pauseSet e w).on R.UPD_STATUS_EXPORT_BUSY e = d.on R.UPD_STATUS_EXPORT_BUSY e := by
  obtain ⟨u, hu⟩ : ∃ u, d.setFields .UPD e 0x010 w = u := ⟨_, rfl⟩
  have hframe : u = { d with regs := u.regs } := by
    rw [← hu]
    exact Die.setFields_regs .UPD e 0x010 w d
  have hpause : u.on R.UPD_CONTROL_PAUSE e = bit w 0 := by
    rw [← hu]
    exact Die.on_setFields_rw .UPD e 0x010 w d R.UPD_CONTROL_PAUSE (by simp [fieldsAt, Block.regs, regsUPD]) rfl rfl
  have hphase : u.get R.UPD_STATUS_PHASE e = d.get R.UPD_STATUS_PHASE e := by
    rw [← hu]
    exact Die.get_setFields_page _ _ _ _ _ _ (by decide) (by decide)
  have hbusy : u.on R.UPD_STATUS_EXPORT_BUSY e = d.on R.UPD_STATUS_EXPORT_BUSY e := by
    rw [← hu]
    exact congrArg (· == 1) (Die.get_setFields_page _ _ _ _ _ _ (by decide) (by decide))
  unfold Die.pauseSet
  rw [hu]
  split
  · refine ⟨?_, ?_, ?_, ?_⟩
    · rw [hframe]
      rfl
    · rw [← hpause]
      exact congrArg (· == 1) (Die.get_put_apart _ _ _ _ _ (by decide))
    · rw [← hphase]
      exact Die.get_put_apart _ _ _ _ _ (by decide)
    · rw [← hbusy]
      exact congrArg (· == 1) (Die.get_put_apart _ _ _ _ _ (by decide))
  · exact ⟨hframe, hpause, hphase, hbusy⟩

theorem Die.skipping_skipBatches (x : UpdCtx) (hp : x.p < 64) (l : List (Nat × List Nat)) (d : Die) : d.skipping x.e (l.foldl (fun d b => d.skipBatch x b.1 b.2) d) := by
  induction l generalizing d with
  | nil => exact d.skipping_refl x.e
  | cons b l ih =>
    have hone := Die.skipping_skipBatch x hp b.1 b.2 d
    exact hone.trans (ih _)

/-- The batches that a PAUSE skips (R324). -/
def Die.pauseSkips (e : Nat) (was paused : Bool) (d : Die) : Die :=
  match d.updCtx e with
  | some x => if paused && !was then (d.updSt e).queue.foldl (fun d b => d.skipBatch x b.1 b.2) (d.onUpd e (fun y => { y with queue := [] })) else d
  | none => d

theorem Die.skipping_pauseSkips (e : Nat) (was paused : Bool) (d : Die) : d.skipping e (d.pauseSkips e was paused) := by
  unfold Die.pauseSkips
  split
  · next x hx =>
    obtain ⟨hxe, hp, -⟩ := d.updCtx_spec hx
    subst hxe
    split
    · obtain ⟨u, hu⟩ : ∃ u, d.onUpd x.e (fun y => { y with queue := [] }) = u := ⟨_, rfl⟩
      have hqueue : d.skipping x.e u := by
        rw [← hu]
        exact d.skipping_onUpd x.e (fun y => { y with queue := [] }) (fun _ => rfl)
      rw [hu]
      exact hqueue.trans (Die.skipping_skipBatches x hp _ u)
    · exact d.skipping_refl x.e
  · exact d.skipping_refl e

/-- The function whose memory the copy of the masters writes (R339). -/
def sourceFn (src : Source) : Nat := match src with | .vf p => p + 1 | _ => 0

/-- EXPORT (R339). -/
def Die.exportBegins (src : Source) (e : Nat) (paused : Bool) (d : Die) : Die :=
  if d.on R.UPD_STATUS_EXPORT_BUSY e then d
  else if paused = false ∨ d.get R.UPD_STATUS_PHASE e ≠ 0 then d.put R.UPD_STATUS_EXPORT_RESULT e 2
  else (d.flag R.UPD_STATUS_EXPORT_BUSY e true).onUpd e (fun y => { y with exportFn := sourceFn src })

theorem updControlW_eq (src : Source) (e w : Nat) (d : Die) (hw : bit w 1 = true) (x : UpdCtx) (hx : d.updCtx e = some x) :
    updControlW src e w d = ((d.pauseSet e w).pauseSkips e (d.on R.UPD_CONTROL_PAUSE e) (bit w 0)).exportBegins src e (bit w 0) := by
  obtain ⟨hregs, hpause, -, -⟩ := d.pauseSet_sets e w
  obtain ⟨u, hu⟩ : ∃ u, d.pauseSet e w = u := ⟨_, rfl⟩
  obtain ⟨v, hv⟩ : ∃ v, u.pauseSkips e (d.on R.UPD_CONTROL_PAUSE e) (bit w 0) = v := ⟨_, rfl⟩
  rw [hu] at hregs hpause
  have hsets : (d.setFields .UPD e 0x010 w).on R.UPD_CONTROL_PAUSE e = bit w 0 :=
    Die.on_setFields_rw .UPD e 0x010 w d R.UPD_CONTROL_PAUSE (by simp [fieldsAt, Block.regs, regsUPD]) rfl rfl
  have hux : u.updCtx e = some x := by
    rw [hregs]
    exact hx
  have hvx : v.updCtx e = some x := by
    rw [← hv, (u.skipping_pauseSkips e _ _).ctx]
    exact hux
  have hdef : updControlW src e w d = if bit w 1 then
      match v.updCtx e with
      | none => v
      | some _ => v.exportBegins src e (bit w 0)
    else v := by
    rw [← hv, ← hu]
    unfold updControlW Die.pauseSkips Die.exportBegins sourceFn Die.pauseSet
    dsimp only
    rw [hsets]
    rfl
  rw [hdef, if_pos hw, hvx, hu, hv]

/-- What EXPORT begins or refuses (R339). -/
theorem Die.exportBegins_begins (src : Source) (e : Nat) (paused : Bool) (d : Die) (hbusy : d.on R.UPD_STATUS_EXPORT_BUSY e = false) (f : Die) (hf : d.exportBegins src e paused = f) :
    f.on R.UPD_CONTROL_PAUSE e = d.on R.UPD_CONTROL_PAUSE e
      ∧ (paused = true → d.get R.UPD_STATUS_PHASE e = 0 → f.on R.UPD_STATUS_EXPORT_BUSY e = true ∧ (f.updSt e).exportFn = sourceFn src)
      ∧ ((paused = false ∨ d.get R.UPD_STATUS_PHASE e ≠ 0) → f.get R.UPD_STATUS_EXPORT_RESULT e = 2 ∧ f.on R.UPD_STATUS_EXPORT_BUSY e = false)
      ∧ (f.updSt e).masters = (d.updSt e).masters ∧ f.tiles = d.tiles := by
  have hdef : f = if paused = false ∨ d.get R.UPD_STATUS_PHASE e ≠ 0 then d.put R.UPD_STATUS_EXPORT_RESULT e 2
      else (d.flag R.UPD_STATUS_EXPORT_BUSY e true).onUpd e (fun y => { y with exportFn := sourceFn src }) := by
    rw [← hf]
    unfold Die.exportBegins
    exact if_neg (by rw [hbusy]; exact Bool.false_ne_true)
  by_cases hrefuse : paused = false ∨ d.get R.UPD_STATUS_PHASE e ≠ 0
  · rw [if_pos hrefuse] at hdef
    subst hdef
    refine ⟨congrArg (· == 1) (Die.get_put_apart _ _ _ _ _ (by decide)), fun hp hz => ?_, fun _ => ⟨Die.get_put_same _ _ _ _, ?_⟩, rfl, rfl⟩
    · rcases hrefuse with h | h
      · rw [h] at hp; cases hp
      · exact absurd hz h
    · exact (congrArg (· == 1) (Die.get_put_apart _ _ _ _ _ (by decide))).trans hbusy
  · rw [if_neg hrefuse] at hdef
    have hst : f.updSt e = { d.updSt e with exportFn := sourceFn src } := by
      rw [hdef]
      exact Die.updSt_onUpd_same e (fun y => { y with exportFn := sourceFn src }) (d.flag R.UPD_STATUS_EXPORT_BUSY e true)
    refine ⟨?_, fun _ _ => ⟨?_, by rw [hst]⟩, fun h => absurd h hrefuse, by rw [hst], by rw [hdef]; rfl⟩
    · rw [hdef, Die.on_onUpd]
      exact Die.on_flag_apart _ _ _ _ _ (by decide)
    · rw [hdef, Die.on_onUpd]
      exact Die.on_flag_same _ e true d rfl

/-- The copy that a write of UPD_CONTROL begins or refuses (R339). -/
theorem updControlW_exports (src : Source) (e w : Nat) (he : e < 8) (d : Die) (x : UpdCtx) (hx : d.updCtx e = some x) (hw : bit w 1 = true)
    (hbusy : d.on R.UPD_STATUS_EXPORT_BUSY e = false) (f : Die) (hf : updControlW src e w d = f) :
    f.on R.UPD_CONTROL_PAUSE e = bit w 0
      ∧ (bit w 0 = true → d.get R.UPD_STATUS_PHASE e = 0 → f.on R.UPD_STATUS_EXPORT_BUSY e = true ∧ (f.updSt e).exportFn = sourceFn src)
      ∧ ((bit w 0 = false ∨ d.get R.UPD_STATUS_PHASE e ≠ 0) → f.get R.UPD_STATUS_EXPORT_RESULT e = 2 ∧ f.on R.UPD_STATUS_EXPORT_BUSY e = false)
      ∧ (f.updSt e).masters = (d.updSt e).masters ∧ f.tiles = d.tiles := by
  rw [updControlW_eq src e w d hw x hx] at hf
  obtain ⟨hregs, hpause, hphase, hub⟩ := d.pauseSet_sets e w
  obtain ⟨u, hu⟩ : ∃ u, d.pauseSet e w = u := ⟨_, rfl⟩
  rw [hu] at hregs hpause hphase hub hf
  have hskip := u.skipping_pauseSkips e (d.on R.UPD_CONTROL_PAUSE e) (bit w 0)
  obtain ⟨v, hv⟩ : ∃ v, u.pauseSkips e (d.on R.UPD_CONTROL_PAUSE e) (bit w 0) = v := ⟨_, rfl⟩
  rw [hv] at hskip hf
  have hget (g : Fld) (hb : g.base = 0x140000) (ho : g.off < 0x1000) (hl : g.lo < 32) : v.get g e = u.get g e := by
    refine hskip.1.get g e (reportWord_above ?_ ?_)
    · rw [Fld.key]; omega
    · rw [Fld.key]; omega
  have hvp : v.on R.UPD_CONTROL_PAUSE e = bit w 0 := Eq.trans (congrArg (· == 1) (hget R.UPD_CONTROL_PAUSE rfl (by decide) (by decide))) hpause
  have hvb : v.on R.UPD_STATUS_EXPORT_BUSY e = false := (Eq.trans (congrArg (· == 1) (hget R.UPD_STATUS_EXPORT_BUSY rfl (by decide) (by decide))) hub).trans hbusy
  have hvphase : v.get R.UPD_STATUS_PHASE e = d.get R.UPD_STATUS_PHASE e := (hget R.UPD_STATUS_PHASE rfl (by decide) (by decide)).trans hphase
  have humasters : (u.updSt e).masters = (d.updSt e).masters := by rw [hregs]; rfl
  have hutiles : u.tiles = d.tiles := by rw [hregs]
  obtain ⟨h1, h2, h3, h4, h5⟩ := v.exportBegins_begins src e (bit w 0) hvb f hf
  rw [hvphase] at h2 h3
  exact ⟨h1.trans hvp, h2, h3, h4.trans (hskip.2.trans humasters), h5.trans (hskip.1.frame.1.trans hutiles)⟩

/-- EXPORT_DONE (R339). -/
def Die.exportEnds (e : Nat) (ok : Bool) (x : UpdCtx) (d : Die) : Die :=
  if d.on R.UPD_STATUS_EXPORT_BUSY e then
    if ok then
      ((d.flag R.UPD_STATUS_EXPORT_BUSY e false).hostWrite ((d.flag R.UPD_STATUS_EXPORT_BUSY e false).updSt e).exportFn
        ((d.flag R.UPD_STATUS_EXPORT_BUSY e false).get R.UPD_EXPORT_LO e / 64 * 64 + (d.flag R.UPD_STATUS_EXPORT_BUSY e false).get R.UPD_EXPORT_HI e * 2 ^ 32)
        (x.keys.flatMap (fun k => leBytes 2 (KMap.get 0 ((d.flag R.UPD_STATUS_EXPORT_BUSY e false).updSt e).masters k)))).put R.UPD_STATUS_EXPORT_RESULT e 1
    else (d.flag R.UPD_STATUS_EXPORT_BUSY e false).put R.UPD_STATUS_EXPORT_RESULT e 3
  else d

/-- The end of a copy of the masters (R339). -/
theorem State.exportDone_ends (s : State) (e : Nat) (he : e < 8) (x : UpdCtx) (hx : s.die.updCtx e = some x) (hbusy : s.die.on R.UPD_STATUS_EXPORT_BUSY e = true) :
    s.completes (.exportDone e true) (fun t => t = { s with die := { s.die with regs := t.die.regs, host := t.die.host } }
        ∧ t.die.on R.UPD_STATUS_EXPORT_BUSY e = false ∧ t.die.get R.UPD_STATUS_EXPORT_RESULT e = 1
        ∧ t.die.host = (s.die.hostWrite (s.die.updSt e).exportFn (s.die.get R.UPD_EXPORT_LO e / 64 * 64 + s.die.get R.UPD_EXPORT_HI e * 2 ^ 32)
          (x.keys.flatMap (fun k => leBytes 2 (KMap.get 0 (s.die.updSt e).masters k)))).host)
    ∧ s.completes (.exportDone e false) (fun t => t = { s with die := { s.die with regs := t.die.regs } }
        ∧ t.die.on R.UPD_STATUS_EXPORT_BUSY e = false ∧ t.die.get R.UPD_STATUS_EXPORT_RESULT e = 3) := by
  obtain ⟨u, hu⟩ : ∃ u, s.die.flag R.UPD_STATUS_EXPORT_BUSY e false = u := ⟨_, rfl⟩
  have hub : u.on R.UPD_STATUS_EXPORT_BUSY e = false := by
    rw [← hu]
    exact Die.on_flag_same _ e false s.die rfl
  have hregs : u = { s.die with regs := u.regs } := by rw [← hu]; rfl
  have hlo : u.get R.UPD_EXPORT_LO e = s.die.get R.UPD_EXPORT_LO e := by rw [← hu]; exact Die.get_put_apart _ _ _ _ _ (by decide)
  have hhi : u.get R.UPD_EXPORT_HI e = s.die.get R.UPD_EXPORT_HI e := by rw [← hu]; exact Die.get_put_apart _ _ _ _ _ (by decide)
  have hst : u.updSt e = s.die.updSt e := by rw [← hu]; rfl
  have hresult (y : Die) (v : Nat) (hy : y.on R.UPD_STATUS_EXPORT_BUSY e = false) : (y.put R.UPD_STATUS_EXPORT_RESULT e v).on R.UPD_STATUS_EXPORT_BUSY e = false :=
    (congrArg (· == 1) (Die.get_put_apart _ _ _ _ _ (by decide))).trans hy
  refine ⟨State.completes_updCmd (f := fun _ x d => d.exportEnds e true x) rfl he hx ?_, State.completes_updCmd (f := fun _ x d => d.exportEnds e false x) rfl he hx ?_⟩
  all_goals unfold Die.exportEnds
  · rw [if_pos hbusy, hu, if_pos rfl, hst, hlo, hhi]
    obtain ⟨bs, hbs⟩ : ∃ bs, x.keys.flatMap (fun k => leBytes 2 (KMap.get 0 (s.die.updSt e).masters k)) = bs := ⟨_, rfl⟩
    obtain ⟨a, ha⟩ : ∃ a, s.die.get R.UPD_EXPORT_LO e / 64 * 64 + s.die.get R.UPD_EXPORT_HI e * 2 ^ 32 = a := ⟨_, rfl⟩
    rw [hbs, ha]
    refine ⟨?_, hresult _ 1 hub, Die.get_put_same _ _ _ _, ?_⟩
    · rw [hregs]
      rfl
    · rw [hregs]
      rfl
  · rw [if_pos hbusy, hu, if_neg Bool.false_ne_true]
    refine ⟨?_, hresult u 3 hub, Die.get_put_same _ _ _ _⟩
    rw [hregs]
    rfl

/-- Settles O24: the phases of an update, and the copy of the masters. -/
theorem updatesAdvance : Obligations.UpdatesAdvance := by
  unfold Obligations.UpdatesAdvance
  refine ⟨fun s e x he hx => ?_, fun s src e w x he hx => ⟨fun hadm hw hbusy => ?_, fun hbusy => s.exportDone_ends e he x hx hbusy⟩⟩
  · obtain ⟨hxe, hp, -⟩ := s.die.updCtx_spec hx
    subst hxe
    refine ⟨fun k ids rest hq hrun hst => State.completes_updCmd rfl he hx ⟨rfl, Die.updateBegin_begins s.fused x he s.die k ids rest hq hrun hst _ rfl⟩,
      fun r hr hphase hcommit hall hecc hpoison => ?_, fun r hr hphase hswap hpend hflight => ?_, fun r n hpend hn hflip => ?_⟩
    · exact State.completes_updCmd rfl he hx ⟨rfl, s.die.reduceDone_optimises s.fused x r hr hphase hcommit hall hecc hpoison _ rfl⟩
    · exact State.completes_updCmd (f := fun _ x d => d.swapBegin x) rfl he hx ⟨rfl, s.die.swapBegin_opens x r hr hphase hswap hpend hflight _ rfl⟩
    · exact State.completes_updCmd (f := fun _ x d => d.updateFlip x) rfl he hx ⟨rfl, s.die.updateFlip_flips x he hp r n hpend hn hflip _ rfl⟩
  · refine State.completes_dieCmd rfl (decide_eq_true he) ?_
    rw [writeDie_admitted hadm]
    exact ⟨rfl, updControlW_exports src e w.toNat he s.die x hx hw hbusy _ rfl⟩

end Sys2Proof.Machine
end

section
/-! SUPPORT. What the commands of one Ouvust lane leave alone: every other lane, every other port, and all that is not the links' (R412 to R446). -/

namespace Sys2Proof.Machine

/-- `f` differs from `d` by what lane l's commands change (R429, R436, R461). -/
structure Die.laneOnly (l : Nat) (d f : Die) : Prop where
  frame : f = { d with regs := f.regs, tallies := f.tallies, loft := f.loft, host := f.host, emits := f.emits, store := f.store, lanes := f.lanes, flk := f.flk, pullIn := f.pullIn, ports := f.ports }
  ports : ∀ j, j ≠ 128 + l → KMap.get {} f.ports j = KMap.get {} d.ports j
  others : ∀ m, m < 64 → m ≠ l → f.laneState m = d.laneState m ∧ f.lane m = d.lane m

theorem Die.laneOnly_refl (l : Nat) (d : Die) : d.laneOnly l d := ⟨rfl, fun _ _ => rfl, fun _ _ _ => ⟨rfl, rfl⟩⟩

theorem Die.laneOnly.trans {l : Nat} {a b c : Die} (h : a.laneOnly l b) (k : b.laneOnly l c) : a.laneOnly l c := by
  refine ⟨?_, fun j hj => (k.ports j hj).trans (h.ports j hj), fun m hm hl => ⟨(k.others m hm hl).1.trans (h.others m hm hl).1, (k.others m hm hl).2.trans (h.others m hm hl).2⟩⟩
  rw [k.frame, h.frame]

theorem Die.laneOnly_ite {l : Nat} {c : Prop} [Decidable c] {d e f : Die} (h : d.laneOnly l e) (k : d.laneOnly l f) : d.laneOnly l (if c then e else f) := by
  split <;> assumption

theorem Die.laneOnly_foldl {α : Type} (l : Nat) (f : Die → α → Die) (hf : ∀ d x, Die.laneOnly l d (f d x)) (xs : List α) (d : Die) : d.laneOnly l (xs.foldl f d) := by
  induction xs generalizing d with
  | nil => exact d.laneOnly_refl l
  | cons x xs ih => exact (hf d x).trans (ih _)

/-- The machine after a command of lane l. -/
theorem State.laneGoes_of {s : State} {c : Instr} {l : Nat} {f : Die} {P : Die → Prop} (hc : exec c s = .next { s with die := f }) (h : s.die.laneOnly l f) (hP : P f) :
    s.laneGoes c l P := ⟨{ s with die := f }, hc, congrArg (fun d => ({ s with die := d } : State)) h.frame, h.ports, h.others, hP⟩

theorem Die.laneOnly_report (l : Nat) {d f : Die} (h : d.report f) : d.laneOnly l f := by
  refine ⟨?_, fun j _ => by rw [h.1], fun m hm _ => ⟨h.get R.LNK_STATUS_STATE m (reportWord_above ?_ ?_), ?_⟩⟩
  · rw [h.1]
  · simp only [Fld.key, R.LNK_STATUS_STATE]; omega
  · simp only [Fld.key, R.LNK_STATUS_STATE]; omega
  · rw [Die.lane, Die.lane, h.1]

theorem Die.laneOnly_traced (l : Nat) {d f : Die} (h : d.traced f) : d.laneOnly l f := Die.laneOnly_report l h.1

theorem Die.laneOnly_count (l : Nat) (t : Tal) (i : Nat) (d : Die) : d.laneOnly l (d.count t i) := Die.laneOnly_report l (d.report_count t i)

/-- A field of lane l, or of a block below the links'. -/
theorem Die.laneOnly_put (l : Nat) (f : Fld) (i v : Nat) (d : Die) (h : (f.base = 0x80000 ∧ f.off < 0x1000 ∧ f.lo < 32 ∧ i = l) ∨ (f.base + f.off < 0x80000 ∧ f.lo < 32 ∧ i = 0)) :
    d.laneOnly l (d.put f i v) := by
  refine ⟨rfl, fun _ _ => rfl, fun m hm hl => ⟨Die.get_put_other _ _ _ _ _ _ ?_, rfl⟩⟩
  simp only [Fld.key, R.LNK_STATUS_STATE]
  rcases h with ⟨hb, ho, hlo, rfl⟩ | ⟨hb, hlo, rfl⟩ <;> omega

theorem Die.laneOnly_flag (l : Nat) (f : Fld) (i : Nat) (b : Bool) (d : Die) (h : (f.base = 0x80000 ∧ f.off < 0x1000 ∧ f.lo < 32 ∧ i = l) ∨ (f.base + f.off < 0x80000 ∧ f.lo < 32 ∧ i = 0)) :
    d.laneOnly l (d.flag f i b) := Die.laneOnly_put l f i _ d h

theorem Die.laneOnly_onLane (l : Nat) (f : Lane → Lane) (d : Die) : d.laneOnly l (d.onLane l f) :=
  ⟨rfl, fun _ _ => rfl, fun m _ hm => ⟨rfl, d.lane_onLane_other l m f hm⟩⟩

theorem Die.laneOnly_onFlk (l : Nat) (f : Flock → Flock) (d : Die) : d.laneOnly l (d.onFlk f) := ⟨rfl, fun _ _ => rfl, fun _ _ _ => ⟨rfl, rfl⟩⟩

theorem Die.laneOnly_port (l : Nat) (f : PortSt → PortSt) (d : Die) : d.laneOnly l { d with ports := KMap.upd {} d.ports (128 + l) f } :=
  ⟨rfl, fun _ hj => KMap.get_upd_other _ _ _ _ _ hj, fun _ _ _ => ⟨rfl, rfl⟩⟩

theorem Die.laneOnly_pullIn (l : Nat) (b : Bool) (d : Die) : d.laneOnly l { d with pullIn := b } := ⟨rfl, fun _ _ => rfl, fun _ _ _ => ⟨rfl, rfl⟩⟩

theorem Die.laneOnly_enterHoldover (l : Nat) (d : Die) : d.laneOnly l d.enterHoldover := by
  unfold Die.enterHoldover
  exact Die.laneOnly_ite (((d.laneOnly_put l R.FLK_STATUS_STATE 0 4 (.inr (by decide))).trans (Die.laneOnly_count l _ _ _)).trans (Die.laneOnly_onFlk l _ _)) (d.laneOnly_refl l)

theorem Die.laneOnly_refLoss (l : Nat) (d : Die) : d.laneOnly l d.refLoss := by
  unfold Die.refLoss
  have hpull := d.laneOnly_pullIn l false
  refine Die.laneOnly_ite (hpull.trans ?_) hpull
  refine Die.laneOnly.trans ?_ (Die.laneOnly_traced l (Die.traced_alarm 9 (by decide) _))
  refine Die.laneOnly.trans ?_ (Die.laneOnly_flag l R.DEV_TIMING_STATUS_HOLDOVER 0 true _ (.inr (by decide)))
  refine Die.laneOnly.trans ?_ (Die.laneOnly_flag l R.DEV_TIMING_STATUS_REF_LOST 0 true _ (.inr (by decide)))
  exact Die.laneOnly_flag l R.DEV_TIMING_STATUS_PLL_LOCK 0 false _ (.inr (by decide))

theorem Die.laneOnly_refBack (l : Nat) (d : Die) : d.laneOnly l d.refBack := Die.laneOnly_ite (d.laneOnly_refl l) (d.laneOnly_pullIn l true)

theorem Die.traced_linkPacket (l old new cause : Nat) (d : Die) : d.traced (d.linkPacket l old new cause) := d.traced_trace _ (fun q hq => by cases hq)

/-- What a lane that leaves ACTIVE gives up (R417, R559). -/
def Die.laneLeft (l old : Nat) (d : Die) : Die :=
  if old = 4 ∧ (if old = 4 then d.unchoose 2 l else d).flockLane l then (if old = 4 then d.unchoose 2 l else d).incident 10 4 l l else if old = 4 then d.unchoose 2 l else d

/-- What the parent link's coming and going does to the flock's count (R455, R461). -/
def Die.parentTurned (l old st : Nat) (d : Die) : Die :=
  if old = 4 ∧ d.parentLane = some l then (if d.refParent then d.refLoss else d).enterHoldover
  else if st = 4 ∧ d.parentLane = some l ∧ d.refParent = true then d.refBack else d

theorem Die.laneTo_eq (l st cause : Nat) (d : Die) : d.laneTo l st cause = if d.laneState l = st then d
    else (((d.put R.LNK_STATUS_STATE l st).linkPacket l (d.laneState l) st cause).laneLeft l (d.laneState l)).parentTurned l (d.laneState l) st := rfl

theorem Die.laneOnly_laneLeft (l old : Nat) (d : Die) : d.laneOnly l (d.laneLeft l old) := by
  have hchoice : d.laneOnly l (if old = 4 then d.unchoose 2 l else d) := Die.laneOnly_ite (Die.laneOnly_port l (fun x => { x with sched := none, start := 0, line := [] }) d) (d.laneOnly_refl l)
  exact Die.laneOnly_ite (hchoice.trans (Die.laneOnly_traced l (Die.traced_incident 10 4 l l _))) hchoice

theorem Die.laneOnly_parentTurned (l old st : Nat) (d : Die) : d.laneOnly l (d.parentTurned l old st) :=
  Die.laneOnly_ite ((Die.laneOnly_ite (d.laneOnly_refLoss l) (d.laneOnly_refl l)).trans (Die.laneOnly_enterHoldover l _)) (Die.laneOnly_ite (d.laneOnly_refBack l) (d.laneOnly_refl l))

/-- A change of state is a lane's own (R429, R461). -/
theorem Die.laneOnly_laneTo (l st cause : Nat) (d : Die) : d.laneOnly l (d.laneTo l st cause) := by
  rw [Die.laneTo_eq]
  refine Die.laneOnly_ite (d.laneOnly_refl l) ?_
  have hput := d.laneOnly_put l R.LNK_STATUS_STATE l st (.inl ⟨rfl, by decide, by decide, rfl⟩)
  have hpacket := hput.trans (Die.laneOnly_traced l (Die.traced_linkPacket l (d.laneState l) st cause _))
  exact hpacket.trans ((Die.laneOnly_laneLeft l _ _).trans (Die.laneOnly_parentTurned l _ st _))

theorem Die.laneOnly_toTrain1 (l rate cause : Nat) (d : Die) : d.laneOnly l (d.toTrain1 l rate cause) := by
  unfold Die.toTrain1
  dsimp only
  refine Die.laneOnly.trans ?_ (Die.laneOnly_laneTo l 2 cause _)
  refine Die.laneOnly.trans ?_ (Die.laneOnly_onLane l _ _)
  exact (Die.laneOnly_ite (Die.laneOnly_count l _ _ _) (d.laneOnly_refl l)).trans (Die.laneOnly_put l R.LNK_STATUS_RATE l rate _ (.inl ⟨rfl, by decide, by decide, rfl⟩))

theorem Die.laneOnly_failAttempt (l cause : Nat) (d : Die) : d.laneOnly l (d.failAttempt l cause) := by
  unfold Die.failAttempt
  dsimp only
  have hpre := (d.laneOnly_count l T.LNK_ATTEMPT_FAIL l).trans (Die.laneOnly_onLane l (fun x => { x.fresh with attempts := x.attempts + 1, resume := false }) _)
  exact Die.laneOnly_ite (hpre.trans (Die.laneOnly_laneTo l 5 cause _)) (hpre.trans (Die.laneOnly_laneTo l 1 cause _))

theorem Die.laneOnly_beginRetrain (l cause : Nat) (d : Die) : d.laneOnly l (d.beginRetrain l cause) := by
  unfold Die.beginRetrain
  dsimp only
  refine Die.laneOnly.trans ?_ (Die.laneOnly_toTrain1 l _ cause _)
  refine Die.laneOnly.trans ?_ (Die.laneOnly_onLane l _ _)
  exact (d.laneOnly_count l T.LNK_RETRAINS l).trans (Die.laneOnly_flag l R.LNK_STATUS_DEFER l false _ (.inl ⟨rfl, by decide, by decide, rfl⟩))

theorem Die.laneOnly_retrainTrigger (l cause : Nat) (d : Die) : d.laneOnly l (d.retrainTrigger l cause) := by
  unfold Die.retrainTrigger
  dsimp only
  refine Die.laneOnly_ite (d.laneOnly_refl l) (Die.laneOnly_ite (d.laneOnly_beginRetrain l cause) ?_)
  refine Die.laneOnly.trans ?_ (Die.laneOnly_onLane l _ _)
  exact (d.laneOnly_flag l R.LNK_STATUS_DEFER l true (.inl ⟨rfl, by decide, by decide, rfl⟩)).trans (Die.laneOnly_count l _ _ _)

theorem Die.laneOnly_laneError (t : Tal) (l : Nat) (d : Die) : d.laneOnly l (d.laneError t l) := by
  unfold Die.laneError
  dsimp only
  have hpre := (d.laneOnly_count l t l).trans (Die.laneOnly_onLane l (fun x => { x with errors := x.errors + 1 }) _)
  exact Die.laneOnly_ite (hpre.trans (Die.laneOnly_retrainTrigger l 1 _)) hpre

theorem Die.laneOnly_codeErrors (l : Nat) (w : LineWords) (d : Die) : d.laneOnly l (d.codeErrors l w) :=
  Die.laneOnly_ite (Die.laneOnly_foldl l _ (fun d _ => d.laneOnly_laneError T.LNK_CODE_ERR l) _ _) (d.laneOnly_refl l)

theorem Die.laneOnly_checkFrame (l : Nat) (f : LinkFrame) (d : Die) : d.laneOnly l (d.checkFrame l f).2 := by
  unfold Die.checkFrame
  have hcode := d.laneOnly_codeErrors l f.line
  dsimp only
  split
  · exact hcode
  · generalize (if lfCls f = 3 then (frameView f).h3.toNat == 0 else decide (1 ≤ (frameView f).h3.toNat) && decide ((frameView f).h3.toNat ≤ 64)) = lenOk
    split
    · exact hcode.trans (Die.laneOnly_laneError _ l _)
    · split
      · exact hcode.trans (Die.laneOnly_laneError _ l _)
      · split
        · exact hcode.trans (Die.laneOnly_count l T.LNK_CLASS_OFF l _)
        · exact hcode

theorem Die.laneOnly_frameIn (l : Nat) (f : LinkFrame) (d : Die) : d.laneOnly l (d.frameIn l f).2 := (d.laneOnly_checkFrame l f).trans (Die.laneOnly_onLane l _ _)

/-- An item that starts changes its lane and the Loft's queue alone (R438). -/
theorem Die.nextItem_changes (l s : Nat) (d : Die) (syms : List Sym) (e : Die) (h : d.nextItem l s = some (syms, e)) :
    ∃ y q, e = { d.onLane l (fun _ => y) with loft := q } := by
  unfold Die.nextItem at h
  extract_lets x wc lane rel sync src loft at h
  have hlane (r : Option (List Sym × Lane)) (y : List Sym × Die) (hy : lane r = some y) : ∃ z q, y.2 = { d.onLane l (fun _ => z) with loft := q } := by
    obtain ⟨z, -, rfl⟩ := Option.map_eq_some_iff.1 hy
    exact ⟨z.2, d.loft, rfl⟩
  have hloft (y : List Sym × Die) (hy : loft = some y) : ∃ z q, y.2 = { d.onLane l (fun _ => z) with loft := q } := by
    rw [Option.ite_none_right_eq_some] at hy
    obtain ⟨z, -, rfl⟩ := Option.map_eq_some_iff.1 hy.2
    exact ⟨_, _, rfl⟩
  have hif (b : Bool) (o : Option (List Sym × Die)) (ho : ∀ y, o = some y → ∃ z q, y.2 = { d.onLane l (fun _ => z) with loft := q }) (y : List Sym × Die)
      (hy : (if b then o else none) = some y) : ∃ z q, y.2 = { d.onLane l (fun _ => z) with loft := q } := by
    rw [Option.ite_none_right_eq_some] at hy
    exact ho y hy.2
  obtain ⟨o, ho, hsome⟩ := List.exists_of_findSome?_eq_some h
  simp only [List.mem_cons, List.not_mem_nil, or_false] at ho
  obtain rfl : o = some (syms, e) := hsome
  rcases ho with ho | ho | ho | ho | ho | ho | ho
  · exact hif _ _ (hlane _) _ ho.symm
  · exact hif _ _ (hlane _) _ ho.symm
  · exact hif _ _ (hlane _) _ ho.symm
  · exact hloft _ ho.symm
  · exact hlane _ _ ho.symm
  · exact hlane _ _ ho.symm
  · exact hif _ _ (hlane _) _ ho.symm

theorem Die.laneOnly_putLine (l s : Nat) (syms : List Sym) (d : Die) : d.laneOnly l (d.putLine l s syms) :=
  (d.laneOnly_onLane l _).trans ((Die.laneOnly_port l _ _).trans (Die.laneOnly_traced l (Die.traced_emit _ _)))

theorem Die.laneOnly_lineTurn (l : Nat) (d : Die) : d.laneOnly l (d.lineTurn l) := by
  unfold Die.lineTurn
  dsimp only
  split
  · split
    · exact d.laneOnly_refl l
    · next syms e he =>
      obtain ⟨y, q, hq⟩ := d.nextItem_changes l _ syms e he
      have hitem : d.laneOnly l e := by
        rw [hq]
        exact (d.laneOnly_onLane l (fun _ => y)).trans ⟨rfl, fun _ _ => rfl, fun _ _ _ => ⟨rfl, rfl⟩⟩
      split
      · exact hitem.trans (Die.laneOnly_putLine l _ _ e)
      · exact d.laneOnly_refl l
  · exact d.laneOnly_refl l

theorem Die.laneOnly_sendRel (l cls : Nat) (m : List Byte) (d : Die) : d.laneOnly l (d.sendRel l cls m) := (d.laneOnly_onLane l _).trans (Die.laneOnly_lineTurn l _)

theorem Die.laneOnly_endDefer (l : Nat) (d : Die) : d.laneOnly l (d.endDefer l) :=
  Die.laneOnly_ite (Die.laneOnly_ite (d.laneOnly_beginRetrain l _) (d.laneOnly_refl l)) (d.laneOnly_refl l)

theorem Die.laneOnly_deliverMsg (l cls : Nat) (m : List Byte) (d : Die) : d.laneOnly l (d.deliverMsg l cls m) :=
  Die.laneOnly_ite (d.laneOnly_onLane l _) (d.laneOnly_count l _ _)

theorem Die.laneOnly_onReliable (l cls seq : Nat) (m : List Byte) (d : Die) : d.laneOnly l (d.onReliable l cls seq m) := by
  unfold Die.onReliable
  dsimp only
  refine Die.laneOnly_ite (Die.laneOnly_ite (d.laneOnly_count l _ _) ?_) (Die.laneOnly_ite ?_ (Die.laneOnly_ite (d.laneOnly_count l _ _) ?_))
  · exact (d.laneOnly_onLane l _).trans (Die.laneOnly_deliverMsg l cls m _)
  · exact (d.laneOnly_count l _ _).trans (Die.laneOnly_onLane l _ _)
  · exact (d.laneOnly_count l _ _).trans ((Die.laneOnly_onLane l _ _).trans (Die.laneOnly_count l _ _ _))

theorem Die.laneOnly_control (l : Nat) (f : LinkFrame) (d : Die) : d.laneOnly l (d.control l f) := by
  unfold Die.control
  dsimp only
  refine Die.laneOnly_ite (d.laneOnly_refl l) (Die.laneOnly_ite ?_ ?_)
  · exact (d.laneOnly_onLane l _).trans (Die.laneOnly_lineTurn l _)
  · exact (d.laneOnly_onLane l _).trans ((Die.laneOnly_lineTurn l _).trans (Die.laneOnly_endDefer l _))

/-- The parent link after the device is joining: the same, or none where the standby took another's place (R454, R474). -/
theorem Die.parentLane_joining (l : Nat) (d : Die) (h : d.parentLane = some l) :
    (d.put R.FLK_STATUS_STATE 0 1).parentLane = some l ∨ (d.put R.FLK_STATUS_STATE 0 1).parentLane = none := by
  have hstate : (d.put R.FLK_STATUS_STATE 0 1).get R.FLK_STATUS_STATE = 1 := Die.get_put_same _ _ _ _
  have hrole : (d.put R.FLK_STATUS_STATE 0 1).role = d.role := Die.get_put_apart _ _ _ _ _ (by decide)
  have hlevel : (d.put R.FLK_STATUS_STATE 0 1).level = d.level := Die.get_put_apart _ _ _ _ _ (by decide)
  have htail : (d.put R.FLK_STATUS_STATE 0 1).isTail = d.isTail := congrArg (· == 1) (Die.get_put_apart _ _ _ _ _ (by decide))
  have hlanes : (d.put R.FLK_STATUS_STATE 0 1).parentLanes = d.parentLanes := by
    unfold Die.parentLanes
    rw [hrole, hlevel, htail]
  have hnow : (d.put R.FLK_STATUS_STATE 0 1).parentLane = match d.parentLanes with
      | [] => none
      | l :: rest => if rest.contains d.flk.parent then some d.flk.parent else some l := by
    unfold Die.parentLane
    rw [if_neg (by rw [hstate]; omega), hlanes]
    rfl
  rw [hnow]
  unfold Die.parentLane at h
  by_cases hstandby : d.role = 3 ∧ d.get R.FLK_STATUS_STATE = 6
  · have hnone : d.parentLanes = [] := by
      unfold Die.parentLanes
      rw [if_neg (by omega), if_neg (by omega)]
    rw [hnone]
    exact .inr rfl
  · rw [if_neg hstandby] at h
    exact .inl h

/-- The JOIN of a lane that is the parent link goes out on it (R459). -/
theorem Die.laneOnly_sendJoin (fu : Fused) (l : Nat) (d : Die) (h : d.parentLane = some l) : d.laneOnly l (d.sendJoin fu) := by
  unfold Die.sendJoin
  refine Die.laneOnly_ite (d.laneOnly_refl l) ?_
  obtain ⟨e, he⟩ : ∃ e, (if d.get R.FLK_STATUS_STATE = 4 then d else d.put R.FLK_STATUS_STATE 0 1) = e := ⟨_, rfl⟩
  have hkept : d.laneOnly l e := by
    rw [← he]
    exact Die.laneOnly_ite (d.laneOnly_refl l) (d.laneOnly_put l R.FLK_STATUS_STATE 0 1 (.inr (by decide)))
  have hparent : e.parentLane = some l ∨ e.parentLane = none := by
    rw [← he]
    split
    · exact .inl h
    · exact d.parentLane_joining l h
  dsimp only
  rw [he]
  unfold Die.sendUp
  rcases hparent with hp | hp
  · rw [hp]
    exact hkept.trans (Die.laneOnly_sendRel l 1 _ e)
  · rw [hp]
    exact hkept

/-- The classes of a lane that enters ACTIVE (R434, R440). -/
def Lane.entered (same : Bool) (y : Lane) : Lane :=
  { y.fresh with attempts := 0, resume := false, resumeRx := false, sExp := [], sNext := if same then y.sNext else []
                 r := if same then ({ y.r with expiries := 0 } : Rel).again (fun _ => true) else { waits := y.r.waits, buf := y.r.buf }
                 b := if same then ({ y.b with expiries := 0 } : Rel).again (fun _ => true) else { waits := y.b.waits, buf := y.b.buf } }

/-- The first frame boundary of a lane that enters ACTIVE (R440). -/
def Die.firstBoundary (l : Nat) (d : Die) : Die :=
  { d.onLane l (fun y => { y with lineEnd := d.boundary 2 l d.now21 d.now21 }) with
    ports := KMap.upd {} (d.onLane l (fun y => { y with lineEnd := d.boundary 2 l d.now21 d.now21 })).ports (128 + l)
      (fun p => { p with busyTo := d.boundary 2 l d.now21 d.now21 + 16 * (d.onLane l (fun y => { y with lineEnd := d.boundary 2 l d.now21 d.now21 })).wordUnits 2 l }) }

/-- What a lane enters ACTIVE with: the partner it resumes with, if it does (R434). -/
def Die.resumes (l : Nat) (d : Die) : Bool :=
  (d.lane l).resume && (d.lane l).resumeRx && (d.lane l).oldId == d.pair64 R.LNK_PARTNER_ID_LO R.LNK_PARTNER_ID_HI l
    && (d.lane l).oldLane == d.get R.LNK_STATUS_PARTNER_LANE l

/-- The frames that a lane gives up where it does not resume (R434). -/
def Die.discards (l : Nat) (same : Bool) (d : Die) : Die :=
  if same then d else (d.countBy T.LNK_R_DISCARD l (d.lane l).r.out.length).countBy T.LNK_B_DISCARD l (d.lane l).b.out.length

/-- A lane in ACTIVE, before its JOIN (R429, R434, R440). -/
def Die.nowActive (l : Nat) (d : Die) : Die :=
  (((((d.discards l (d.resumes l)).onLane l (Lane.entered (d.resumes l))).flag R.LNK_STATUS_RESUMED l (d.resumes l)).laneTo l 4 6)).firstBoundary l

theorem Die.toActive_eq (fu : Fused) (l : Nat) (d : Die) : d.toActive fu l = if (d.nowActive l).parentLane = some l then (d.nowActive l).sendJoin fu else d.nowActive l := by
  unfold Die.toActive Die.nowActive Die.firstBoundary
  rfl

theorem Die.laneOnly_discards (l : Nat) (same : Bool) (d : Die) : d.laneOnly l (d.discards l same) :=
  Die.laneOnly_ite (d.laneOnly_refl l) ((Die.laneOnly_report l (d.report_countBy _ _ _)).trans (Die.laneOnly_report l (Die.report_countBy _ _ _ _)))

theorem Die.laneOnly_firstBoundary (l : Nat) (d : Die) : d.laneOnly l (d.firstBoundary l) := (d.laneOnly_onLane l _).trans (Die.laneOnly_port l _ _)

theorem Die.laneOnly_nowActive (l : Nat) (d : Die) : d.laneOnly l (d.nowActive l) := by
  unfold Die.nowActive
  refine Die.laneOnly.trans ?_ (Die.laneOnly_firstBoundary l _)
  refine Die.laneOnly.trans ?_ (Die.laneOnly_laneTo l 4 6 _)
  refine Die.laneOnly.trans ?_ (Die.laneOnly_flag l R.LNK_STATUS_RESUMED l _ _ (.inl ⟨rfl, by decide, by decide, rfl⟩))
  exact (d.laneOnly_discards l _).trans (Die.laneOnly_onLane l _ _)

theorem Die.laneOnly_toActive (fu : Fused) (l : Nat) (d : Die) : d.laneOnly l (d.toActive fu l) := by
  rw [Die.toActive_eq]
  split
  · next h => exact (d.laneOnly_nowActive l).trans (Die.laneOnly_sendJoin fu l _ h)
  · exact d.laneOnly_nowActive l

theorem Die.laneOnly_train1Exit (l : Nat) (d : Die) : d.laneOnly l (d.train1Exit l) := Die.laneOnly_ite (d.laneOnly_laneTo l 3 6) (d.laneOnly_refl l)

theorem Die.laneOnly_train2Exit (fu : Fused) (l : Nat) (d : Die) : d.laneOnly l (d.train2Exit fu l) := Die.laneOnly_ite (d.laneOnly_toActive fu l) (d.laneOnly_refl l)

theorem Die.laneOnly_los (l : Nat) (d : Die) : d.laneOnly l (d.los l) := by
  unfold Die.los
  dsimp only
  have hpre := (d.laneOnly_count l T.LNK_LOS l).trans (Die.laneOnly_flag l R.LNK_STATUS_DEFER l false _ (.inl ⟨rfl, by decide, by decide, rfl⟩))
  refine Die.laneOnly_ite (d.laneOnly_refl l) (Die.laneOnly_ite (hpre.trans (Die.laneOnly_failAttempt l 5 _)) ?_)
  exact hpre.trans ((Die.laneOnly_onLane l _ _).trans (Die.laneOnly_laneTo l 1 5 _))

end Sys2Proof.Machine
end

section
/-! SUPPORT. What a lane's own registers and tallies are after a change of its state, a retrain or a failed attempt (R429, R430, R439, R440). -/

namespace Sys2Proof.Machine

/-- A field's place in its page. -/
def Fld.place (f : Fld) : Nat := f.off * 32 + f.lo

/-- Lane l's registers and tallies stand, but the fields at `ex` and the tallies at `tx`. -/
structure Die.lnkKept (l : Nat) (ex tx : List Nat) (d f : Die) : Prop where
  regs : ∀ g : Fld, g.base = 0x80000 → g.off < 0x1000 → g.lo < 32 → g.place ∉ ex → f.get g l = d.get g l
  tals : ∀ t : Tal, t.base = 0x80000 → t.off < 0x1000 → t.off ∉ tx → f.tally t l = d.tally t l

theorem Die.lnkKept_refl (l : Nat) (d : Die) : d.lnkKept l [] [] d := ⟨fun _ _ _ _ _ => rfl, fun _ _ _ _ => rfl⟩

theorem Die.lnkKept.trans {l : Nat} {ex ex' tx tx' : List Nat} {a b c : Die} (h : a.lnkKept l ex tx b) (k : b.lnkKept l ex' tx' c) : a.lnkKept l (ex ++ ex') (tx ++ tx') c := by
  refine ⟨fun g hb ho hl hx => ?_, fun t hb ho hx => ?_⟩
  · rw [List.mem_append, not_or] at hx
    exact (k.regs g hb ho hl hx.2).trans (h.regs g hb ho hl hx.1)
  · rw [List.mem_append, not_or] at hx
    exact (k.tals t hb ho hx.2).trans (h.tals t hb ho hx.1)

theorem Die.lnkKept.mono {l : Nat} {ex ex' tx tx' : List Nat} {a b : Die} (h : a.lnkKept l ex tx b) (hx : ∀ x ∈ ex, x ∈ ex') (ht : ∀ x ∈ tx, x ∈ tx') : a.lnkKept l ex' tx' b :=
  ⟨fun g hb ho hl hn => h.regs g hb ho hl (fun hm => hn (hx _ hm)), fun t hb ho hn => h.tals t hb ho (fun hm => hn (ht _ hm))⟩

theorem Die.lnkKept_ite {l : Nat} {ex tx : List Nat} {c : Prop} [Decidable c] {d e f : Die} (h : d.lnkKept l ex tx e) (k : d.lnkKept l ex tx f) : d.lnkKept l ex tx (if c then e else f) := by
  split <;> assumption

theorem lnkWord_quiet (g : Fld) (l : Nat) (hl : l < 64) (hb : g.base = 0x80000) (ho : g.off < 0x1000) (hlo : g.lo < 32) : reportWord (g.key l / 32) = false :=
  reportWord_above (by rw [Fld.key]; omega) (by rw [Fld.key]; omega)

theorem lnkTal_quiet (t : Tal) (l : Nat) (hl : l < 64) (hb : t.base = 0x80000) (ho : t.off < 0x1000) : loftTally (t.key l) = false :=
  loftTally_false (.inr ⟨by rw [Tal.key]; omega, .inl (by rw [Tal.key]; omega)⟩)

theorem Die.lnkKept_traced {l : Nat} (hl : l < 64) {d f : Die} (h : d.traced f) : d.lnkKept l [] [] f :=
  ⟨fun g hb ho hlo _ => h.1.get g l (lnkWord_quiet g l hl hb ho hlo), fun t hb ho _ => h.2 _ (lnkTal_quiet t l hl hb ho)⟩

/-- A change of other parts of the die. -/
theorem Die.lnkKept_same (l : Nat) {d f : Die} (hr : f.regs = d.regs) (ht : f.tallies = d.tallies) : d.lnkKept l [] [] f :=
  ⟨fun g _ _ _ _ => Die.get_congr _ _ hr g l, fun t _ _ _ => by rw [Die.tally, Die.tally, ht]⟩

theorem Die.lnkKept_put (l : Nat) (f : Fld) (v : Nat) (d : Die) (hb : f.base = 0x80000) : d.lnkKept l [f.place] [] (d.put f l v) :=
  ⟨fun g hg ho hlo hx => Die.get_put_apart _ _ _ _ _ (by rw [List.mem_singleton, Fld.place, Fld.place] at hx; omega), fun _ _ _ _ => rfl⟩

theorem Die.lnkKept_flag (l : Nat) (f : Fld) (b : Bool) (d : Die) (hb : f.base = 0x80000) : d.lnkKept l [f.place] [] (d.flag f l b) := d.lnkKept_put l f _ hb

/-- A field of a block below the links'. -/
theorem Die.lnkKept_below (l : Nat) (f : Fld) (v : Nat) (d : Die) (h : f.base + f.off < 0x80000 ∧ f.lo < 32) : d.lnkKept l [] [] (d.put f 0 v) :=
  ⟨fun g hg ho hlo _ => Die.get_put_other _ _ _ _ _ _ (by simp only [Fld.key]; omega), fun _ _ _ _ => rfl⟩

theorem Die.lnkKept_countBy {l : Nat} (hl : l < 64) (t : Tal) (n : Nat) (d : Die) (hb : t.base = 0x80000) : d.lnkKept l [] [t.off] (d.countBy t l n) :=
  ⟨fun g hg ho hlo _ => (d.report_countBy t l n).get g l (lnkWord_quiet g l hl hg ho hlo),
    fun u hu ho hx => Die.tally_countBy_other t l n _ d (lnkTal_quiet u l hl hu ho) (by rw [List.mem_singleton] at hx; simp only [Tal.key]; omega)⟩

theorem Die.lnkKept_count {l : Nat} (hl : l < 64) (t : Tal) (d : Die) (hb : t.base = 0x80000) : d.lnkKept l [] [t.off] (d.count t l) := Die.lnkKept_countBy hl t 1 d hb

/-- A count of another block's tally. -/
theorem Die.lnkKept_countBelow {l : Nat} (hl : l < 64) (t : Tal) (d : Die) (hb : t.base + t.off < 0x80000) : d.lnkKept l [] [] (d.count t 0) :=
  ⟨fun g hg ho hlo _ => (d.report_count t 0).get g l (lnkWord_quiet g l hl hg ho hlo),
    fun u hu ho hx => Die.tally_countBy_other t 0 1 _ d (lnkTal_quiet u l hl hu ho) (by simp only [Tal.key]; omega)⟩

theorem Die.tally_lnk {l : Nat} (hl : l < 64) (t : Tal) (d : Die) (hb : t.base = 0x80000) (ho : t.off < 0x1000) : (d.count t l).tally t l = tallyAdd (d.tally t l) 1 :=
  Die.tally_count_same t l d (lnkTal_quiet t l hl hb ho)

/-- What the lane reads of its own settings. -/
theorem Die.lnkKept.on {l : Nat} {ex tx : List Nat} {d f : Die} (h : d.lnkKept l ex tx f) (g : Fld) (hb : g.base = 0x80000) (ho : g.off < 0x1000) (hlo : g.lo < 32) (hx : g.place ∉ ex) :
    f.on g l = d.on g l := congrArg (· == 1) (h.regs g hb ho hlo hx)

theorem Die.lnkKept.state {l : Nat} {ex tx : List Nat} {d f : Die} (h : d.lnkKept l ex tx f) (hx : R.LNK_STATUS_STATE.place ∉ ex) : f.laneState l = d.laneState l :=
  h.regs R.LNK_STATUS_STATE rfl (by decide) (by decide) hx

theorem Die.lnkKept.slowest {l : Nat} {ex tx : List Nat} {d f : Die} (h : d.lnkKept l ex tx f) (hfloor : R.LNK_STATUS_FLOOR.place ∉ ex) (hmin : R.LNK_CONTROL_MINRATE.place ∉ ex)
    (hmax : R.LNK_CONTROL_MAXRATE.place ∉ ex) : f.slowest l = d.slowest l := by
  unfold Die.slowest
  rw [h.regs R.LNK_STATUS_FLOOR rfl (by decide) (by decide) hfloor, h.regs R.LNK_CONTROL_MINRATE rfl (by decide) (by decide) hmin,
    h.regs R.LNK_CONTROL_MAXRATE rfl (by decide) (by decide) hmax]

theorem Die.lnkKept_enterHoldover {l : Nat} (hl : l < 64) (d : Die) : d.lnkKept l [] [] d.enterHoldover ∧ d.enterHoldover.lanes = d.lanes := by
  unfold Die.enterHoldover
  split
  · have hput := d.lnkKept_below l R.FLK_STATUS_STATE 4 (by decide)
    have hcount := Die.lnkKept_countBelow hl T.FLK_HOLDOVERS (d.put R.FLK_STATUS_STATE 0 4) (by decide)
    exact ⟨(hput.trans hcount).trans (Die.lnkKept_same l rfl rfl), by
      change ((d.put R.FLK_STATUS_STATE 0 4).count T.FLK_HOLDOVERS 0).lanes = d.lanes
      rw [((d.put R.FLK_STATUS_STATE 0 4).report_count T.FLK_HOLDOVERS 0).1]
      rfl⟩
  · exact ⟨d.lnkKept_refl l, rfl⟩

theorem Die.lnkKept_refLoss {l : Nat} (hl : l < 64) (d : Die) : d.lnkKept l [] [] d.refLoss ∧ d.refLoss.lanes = d.lanes := by
  unfold Die.refLoss
  dsimp only
  split
  · obtain ⟨u, hu⟩ : ∃ u, (((({ d with pullIn := false } : Die).flag R.DEV_TIMING_STATUS_PLL_LOCK 0 false).flag R.DEV_TIMING_STATUS_REF_LOST 0 true).flag R.DEV_TIMING_STATUS_HOLDOVER 0 true)
      = u := ⟨_, rfl⟩
    have hkept : d.lnkKept l [] [] u := by
      rw [← hu]
      refine Die.lnkKept.trans (ex := []) (ex' := []) (tx := []) (tx' := []) ?_ (Die.lnkKept_below l R.DEV_TIMING_STATUS_HOLDOVER _ _ (by decide))
      refine Die.lnkKept.trans (ex := []) (ex' := []) (tx := []) (tx' := []) ?_ (Die.lnkKept_below l R.DEV_TIMING_STATUS_REF_LOST _ _ (by decide))
      refine Die.lnkKept.trans (ex := []) (ex' := []) (tx := []) (tx' := []) ?_ (Die.lnkKept_below l R.DEV_TIMING_STATUS_PLL_LOCK _ _ (by decide))
      exact Die.lnkKept_same l rfl rfl
    have hlanes : u.lanes = d.lanes := by rw [← hu]; rfl
    have halarm := Die.traced_alarm 9 (by decide) u
    rw [hu]
    exact ⟨hkept.trans (Die.lnkKept_traced hl halarm), by rw [halarm.1.1]; exact hlanes⟩
  · exact ⟨Die.lnkKept_same l rfl rfl, rfl⟩

theorem Die.lnkKept_refBack (l : Nat) (d : Die) : d.lnkKept l [] [] d.refBack ∧ d.refBack.lanes = d.lanes := by
  unfold Die.refBack
  split
  · exact ⟨d.lnkKept_refl l, rfl⟩
  · exact ⟨Die.lnkKept_same l rfl rfl, rfl⟩

theorem Die.lnkKept_parentTurned {l : Nat} (hl : l < 64) (k old st : Nat) (d : Die) : d.lnkKept l [] [] (d.parentTurned k old st) ∧ (d.parentTurned k old st).lanes = d.lanes := by
  unfold Die.parentTurned
  split
  · obtain ⟨e, he⟩ : ∃ e, (if d.refParent then d.refLoss else d) = e := ⟨_, rfl⟩
    have hkept : d.lnkKept l [] [] e ∧ e.lanes = d.lanes := by
      rw [← he]
      split
      · exact Die.lnkKept_refLoss hl d
      · exact ⟨d.lnkKept_refl l, rfl⟩
    rw [he]
    obtain ⟨hhold, hsame⟩ := Die.lnkKept_enterHoldover hl e
    exact ⟨hkept.1.trans hhold, hsame.trans hkept.2⟩
  · split
    · exact d.lnkKept_refBack l
    · exact ⟨d.lnkKept_refl l, rfl⟩

theorem Die.lnkKept_laneLeft {l : Nat} (hl : l < 64) (k old : Nat) (d : Die) : d.lnkKept l [] [] (d.laneLeft k old) ∧ (d.laneLeft k old).lanes = d.lanes := by
  obtain ⟨e, he⟩ : ∃ e, (if old = 4 then d.unchoose 2 k else d) = e := ⟨_, rfl⟩
  have hkept : d.lnkKept l [] [] e ∧ e.lanes = d.lanes := by
    rw [← he]
    split
    · exact ⟨Die.lnkKept_same l rfl rfl, rfl⟩
    · exact ⟨d.lnkKept_refl l, rfl⟩
  unfold Die.laneLeft
  rw [he]
  split
  · have hinc := e.traced_incident 10 4 k k
    exact ⟨hkept.1.trans (Die.lnkKept_traced hl hinc), by rw [hinc.1.1]; exact hkept.2⟩
  · exact hkept

/-- A lane in a new state (R429). -/
theorem Die.laneTo_moves {l : Nat} (hl : l < 64) (st cause : Nat) (hst : st < 8) (d : Die) : (d.laneTo l st cause).laneState l = st ∧ (d.laneTo l st cause).lanes = d.lanes
    ∧ d.lnkKept l [R.LNK_STATUS_STATE.place] [] (d.laneTo l st cause) := by
  rw [Die.laneTo_eq]
  split
  · next h => exact ⟨h, rfl, (d.lnkKept_refl l).mono (fun _ h => absurd h List.not_mem_nil) (fun _ h => h)⟩
  · obtain ⟨u, hu⟩ : ∃ u, d.put R.LNK_STATUS_STATE l st = u := ⟨_, rfl⟩
    have hustate : u.laneState l = st := by
      rw [← hu]
      exact (Die.get_put_same _ _ _ _).trans (Nat.mod_eq_of_lt hst)
    have hukept : d.lnkKept l [R.LNK_STATUS_STATE.place] [] u := by rw [← hu]; exact d.lnkKept_put l _ st rfl
    have hulanes : u.lanes = d.lanes := by rw [← hu]; rfl
    rw [hu]
    have hpacket := Die.traced_linkPacket l (d.laneState l) st cause u
    obtain ⟨v, hv⟩ : ∃ v, u.linkPacket l (d.laneState l) st cause = v := ⟨_, rfl⟩
    rw [hv] at hpacket ⊢
    obtain ⟨hleft, hleftLanes⟩ := Die.lnkKept_laneLeft hl l (d.laneState l) v
    obtain ⟨hturn, hturnLanes⟩ := Die.lnkKept_parentTurned hl l (d.laneState l) st (v.laneLeft l (d.laneState l))
    have hafter := ((Die.lnkKept_traced hl hpacket).trans hleft).trans hturn
    refine ⟨(hafter.state (by decide)).trans hustate, ?_, hukept.trans hafter⟩
    rw [hturnLanes, hleftLanes, hpacket.1.1]
    exact hulanes

theorem Die.lane_of_lanes {d f : Die} (h : f.lanes = d.lanes) (l : Nat) : f.lane l = d.lane l := by rw [Die.lane, Die.lane, h]

/-- The equaliser setting that the lane's TS1 names (R449). -/
def Die.presetOf (l : Nat) (d : Die) : Nat := if d.on R.LNK_EQ_TAPS l then 0xFF else d.get R.LNK_EQ_PRESET l

theorem Die.lnkKept.preset {l : Nat} {ex tx : List Nat} {d f : Die} (h : d.lnkKept l ex tx f) (htaps : R.LNK_EQ_TAPS.place ∉ ex) (hpreset : R.LNK_EQ_PRESET.place ∉ ex) :
    f.presetOf l = d.presetOf l := by
  unfold Die.presetOf
  rw [h.on R.LNK_EQ_TAPS rfl (by decide) (by decide) htaps, h.regs R.LNK_EQ_PRESET rfl (by decide) (by decide) hpreset]

/-- A lane in TRAIN1 at a rate (R430). -/
theorem Die.toTrain1_trains {l : Nat} (hl : l < 64) (rate cause : Nat) (d : Die) (f : Die) (hf : d.toTrain1 l rate cause = f) :
    f.laneState l = 2 ∧ f.lane l = { (d.lane l).fresh with rdTx := !([0, 1, 5].contains (d.laneState l)) && (d.lane l).rdTx, preset := d.presetOf l }
      ∧ f.get R.LNK_STATUS_RATE l = rate % 8 ∧ d.lnkKept l [R.LNK_STATUS_RATE.place, R.LNK_STATUS_STATE.place] [T.LNK_RATE_DOWN.off] f := by
  obtain ⟨a, ha⟩ : ∃ a, (if d.get R.LNK_STATUS_RATE l ≠ 0 ∧ d.get R.LNK_STATUS_RATE l < rate then d.count T.LNK_RATE_DOWN l else d) = a := ⟨_, rfl⟩
  have hakept : d.lnkKept l [] [T.LNK_RATE_DOWN.off] a ∧ a.lanes = d.lanes := by
    rw [← ha]
    split
    · exact ⟨Die.lnkKept_count hl T.LNK_RATE_DOWN d rfl, by rw [(d.report_count T.LNK_RATE_DOWN l).1]⟩
    · exact ⟨(d.lnkKept_refl l).mono (fun _ h => h) (fun _ h => absurd h List.not_mem_nil), rfl⟩
  obtain ⟨b, hb⟩ : ∃ b, a.put R.LNK_STATUS_RATE l rate = b := ⟨_, rfl⟩
  have hbkept : a.lnkKept l [R.LNK_STATUS_RATE.place] [] b := by rw [← hb]; exact a.lnkKept_put l _ rate rfl
  have hbrate : b.get R.LNK_STATUS_RATE l = rate % 8 := by rw [← hb]; exact Die.get_put_same _ _ _ _
  have hblane : b.lane l = d.lane l := by
    rw [← hb]
    exact Die.lane_of_lanes hakept.2 l
  obtain ⟨c, hc⟩ : ∃ c, b.onLane l (fun x => { x.fresh with rdTx := !([0, 1, 5].contains (a.laneState l)) && x.rdTx, preset := a.presetOf l }) = c := ⟨_, rfl⟩
  have hckept : b.lnkKept l [] [] c := by rw [← hc]; exact Die.lnkKept_same l rfl rfl
  have hclane : c.lane l = { (d.lane l).fresh with rdTx := !([0, 1, 5].contains (d.laneState l)) && (d.lane l).rdTx, preset := d.presetOf l } := by
    rw [← hc, Die.lane_onLane_same, hblane, hakept.1.state (by decide), hakept.1.preset (by decide) (by decide)]
  obtain ⟨hstate, hlanes, hkept⟩ := Die.laneTo_moves hl 2 cause (by decide) c
  have hdef : f = c.laneTo l 2 cause := by
    rw [← hf, ← hc, ← hb, ← ha]
    rfl
  subst hdef
  have hafter := hckept.trans hkept
  refine ⟨hstate, (Die.lane_of_lanes hlanes l).trans hclane, ?_, ?_⟩
  · rw [hafter.regs R.LNK_STATUS_RATE rfl (by decide) (by decide) (by decide)]
    exact hbrate
  · exact (hakept.1.trans (hbkept.trans hafter)).mono (by decide) (by decide)

/-- A retrain that begins (R430, R434, R439). -/
theorem Die.beginRetrain_begins {l : Nat} (hl : l < 64) (cause : Nat) (d : Die) (f : Die) (hf : d.beginRetrain l cause = f) :
    d.retrains f l ∧ d.lnkKept l [R.LNK_STATUS_DEFER.place, R.LNK_STATUS_RATE.place, R.LNK_STATUS_STATE.place] [T.LNK_RETRAINS.off, T.LNK_RATE_DOWN.off] f := by
  have hcount := Die.lnkKept_count hl T.LNK_RETRAINS d rfl
  have hctal := Die.tally_lnk hl T.LNK_RETRAINS d rfl (by decide)
  obtain ⟨a, ha⟩ : ∃ a, d.count T.LNK_RETRAINS l = a := ⟨_, rfl⟩
  rw [ha] at hcount hctal
  obtain ⟨b, hb⟩ : ∃ b, a.flag R.LNK_STATUS_DEFER l false = b := ⟨_, rfl⟩
  have hbkept : a.lnkKept l [R.LNK_STATUS_DEFER.place] [] b := by rw [← hb]; exact a.lnkKept_flag l _ false rfl
  have hbdefer : b.on R.LNK_STATUS_DEFER l = false := by rw [← hb]; exact Die.on_flag_same _ l false a rfl
  obtain ⟨c, hc⟩ : ∃ c, b.onLane l (fun x => { x with
      attempts := 3 * (d.get R.LNK_STATUS_RATE l - d.get R.LNK_CONTROL_MAXRATE l), resume := true
      oldId := b.pair64 R.LNK_PARTNER_ID_LO R.LNK_PARTNER_ID_HI l, oldLane := b.get R.LNK_STATUS_PARTNER_LANE l }) = c := ⟨_, rfl⟩
  have hckept : b.lnkKept l [] [] c := by rw [← hc]; exact Die.lnkKept_same l rfl rfl
  have hdef : c.toTrain1 l (d.get R.LNK_STATUS_RATE l) cause = f := by
    rw [← hf, ← hc, ← hb, ← ha]
    rfl
  obtain ⟨hstate, -, hrate, hkept⟩ := Die.toTrain1_trains hl (d.get R.LNK_STATUS_RATE l) cause c f hdef
  have hafter := hckept.trans hkept
  have hall := hcount.trans (hbkept.trans hafter)
  refine ⟨⟨hstate, ?_, hrate, ?_⟩, hall.mono (by decide) (by decide)⟩
  · rw [hafter.on R.LNK_STATUS_DEFER rfl (by decide) (by decide) (by decide)]
    exact hbdefer
  · rw [(hbkept.trans hafter).tals T.LNK_RETRAINS rfl (by decide) (by decide)]
    exact hctal

/-- A retrain trigger on a lane in service (R439, R440). -/
theorem Die.retrainTrigger_triggers {l : Nat} (hl : l < 64) (cause : Nat) (d : Die) (hstate : d.laneState l = 4) (hdefer : d.on R.LNK_STATUS_DEFER l = false)
    (f : Die) (hf : d.retrainTrigger l cause = f) : d.triggered f l
      ∧ d.lnkKept l [R.LNK_STATUS_DEFER.place, R.LNK_STATUS_RATE.place, R.LNK_STATUS_STATE.place] [T.LNK_RETRAINS.off, T.LNK_RATE_DOWN.off, T.LNK_DEFERRED.off] f := by
  have hready : ¬ (d.laneState l ≠ 4 ∨ d.on R.LNK_STATUS_DEFER l = true) := by
    rw [hdefer]
    simp [hstate]
  have hdef : f = if (d.lane l).b.out.isEmpty && (d.lane l).b.waits.isEmpty then d.beginRetrain l cause
      else ((d.flag R.LNK_STATUS_DEFER l true).count T.LNK_DEFERRED l).onLane l (fun x => { x with
        deferFor := (d.lane l).b.out.map (fun f => f.1) ++ (List.range (d.lane l).b.waits.length).map (fun i => ((d.lane l).b.next + i) % 4096), deferCause := cause }) := by
    rw [← hf]
    exact if_neg hready
  cases hempty : (d.lane l).b.out.isEmpty && (d.lane l).b.waits.isEmpty with
  | true =>
    rw [hempty, if_pos rfl] at hdef
    obtain ⟨hout, hwaits⟩ := (Bool.and_eq_true _ _).mp hempty
    obtain ⟨hretrain, hkept⟩ := Die.beginRetrain_begins hl cause d f hdef.symm
    refine ⟨⟨fun _ _ => hretrain, fun h => ?_⟩, hkept.mono (by decide) (by decide)⟩
    rcases h with h | h
    · exact absurd (List.isEmpty_iff.1 hout) h
    · exact absurd (List.isEmpty_iff.1 hwaits) h
  | false =>
    rw [hempty, if_neg Bool.false_ne_true] at hdef
    obtain ⟨a, ha⟩ : ∃ a, d.flag R.LNK_STATUS_DEFER l true = a := ⟨_, rfl⟩
    have hakept : d.lnkKept l [R.LNK_STATUS_DEFER.place] [] a := by rw [← ha]; exact d.lnkKept_flag l _ true rfl
    have hadefer : a.on R.LNK_STATUS_DEFER l = true := by rw [← ha]; exact Die.on_flag_same _ l true d rfl
    rw [ha] at hdef
    have hcount := Die.lnkKept_count hl T.LNK_DEFERRED a rfl
    have hctal := Die.tally_lnk hl T.LNK_DEFERRED a rfl (by decide)
    obtain ⟨b, hb⟩ : ∃ b, a.count T.LNK_DEFERRED l = b := ⟨_, rfl⟩
    rw [hb] at hcount hctal hdef
    have hlane : (f.lane l).deferFor = (d.lane l).b.out.map (fun f => f.1) ++ (List.range (d.lane l).b.waits.length).map (fun i => ((d.lane l).b.next + i) % 4096) := by
      rw [hdef, Die.lane_onLane_same]
    have hfkept : b.lnkKept l [] [] f := by
      rw [hdef]
      exact Die.lnkKept_same l rfl rfl
    have hafter := hcount.trans hfkept
    have hall := hakept.trans hafter
    refine ⟨⟨fun hout hwaits => ?_, fun _ => ⟨?_, ?_, ?_, ?_, hlane⟩⟩, hall.mono (by decide) (by decide)⟩
    · rw [hout, hwaits] at hempty
      cases hempty
    · exact (hall.state (by decide)).trans hstate
    · exact (hafter.on R.LNK_STATUS_DEFER rfl (by decide) (by decide) (by decide)).trans hadefer
    · rw [hfkept.tals T.LNK_DEFERRED rfl (by decide) (by decide), hctal, hakept.tals T.LNK_DEFERRED rfl (by decide) (by decide)]
    · exact hall.tals T.LNK_RETRAINS rfl (by decide) (by decide)

theorem Die.retrainTrigger_idle (l cause : Nat) (d : Die) (h : ¬ (d.laneState l = 4 ∧ d.on R.LNK_STATUS_DEFER l = false)) : d.retrainTrigger l cause = d := by
  refine if_pos ?_
  by_cases hstate : d.laneState l = 4
  · right
    by_contra hdefer
    exact h ⟨hstate, by simpa using hdefer⟩
  · exact .inl hstate

/-- An attempt that fails (R429, R430). -/
theorem Die.failAttempt_fails {l : Nat} (hl : l < 64) (cause : Nat) (d : Die) (f : Die) (hf : d.failAttempt l cause = f) :
    f.tally T.LNK_ATTEMPT_FAIL l = tallyAdd (d.tally T.LNK_ATTEMPT_FAIL l) 1 ∧ (f.lane l).attempts = (d.lane l).attempts + 1
      ∧ f.laneState l = (if d.slowest l < d.get R.LNK_CONTROL_MAXRATE l + ((d.lane l).attempts + 1) / 3 then 5 else 1)
      ∧ d.lnkKept l [R.LNK_STATUS_STATE.place] [T.LNK_ATTEMPT_FAIL.off] f := by
  have hcount := Die.lnkKept_count hl T.LNK_ATTEMPT_FAIL d rfl
  have hctal := Die.tally_lnk hl T.LNK_ATTEMPT_FAIL d rfl (by decide)
  have hclane : (d.count T.LNK_ATTEMPT_FAIL l).lane l = d.lane l := Die.lane_of_lanes (by rw [(d.report_count T.LNK_ATTEMPT_FAIL l).1]) l
  obtain ⟨a, ha⟩ : ∃ a, d.count T.LNK_ATTEMPT_FAIL l = a := ⟨_, rfl⟩
  rw [ha] at hcount hctal hclane
  obtain ⟨b, hb⟩ : ∃ b, a.onLane l (fun x => { x.fresh with attempts := x.attempts + 1, resume := false }) = b := ⟨_, rfl⟩
  have hbkept : a.lnkKept l [] [] b := by rw [← hb]; exact Die.lnkKept_same l rfl rfl
  have hblane : (b.lane l).attempts = (d.lane l).attempts + 1 := by rw [← hb, Die.lane_onLane_same, hclane]
  have hpre := hcount.trans hbkept
  have hrates : (b.slowest l < b.attemptRate l) ↔ d.slowest l < d.get R.LNK_CONTROL_MAXRATE l + ((d.lane l).attempts + 1) / 3 := by
    rw [Die.attemptRate, hblane, hpre.slowest (by decide) (by decide) (by decide), hpre.regs R.LNK_CONTROL_MAXRATE rfl (by decide) (by decide) (by decide)]
  have hdef : f = if b.slowest l < b.attemptRate l then b.laneTo l 5 cause else b.laneTo l 1 cause := by
    rw [← hf, ← hb, ← ha]
    rfl
  have hmove (st : Nat) (hst : st < 8) (hdef : f = b.laneTo l st cause) : f.tally T.LNK_ATTEMPT_FAIL l = tallyAdd (d.tally T.LNK_ATTEMPT_FAIL l) 1
      ∧ (f.lane l).attempts = (d.lane l).attempts + 1 ∧ f.laneState l = st ∧ d.lnkKept l [R.LNK_STATUS_STATE.place] [T.LNK_ATTEMPT_FAIL.off] f := by
    obtain ⟨hstate, hlanes, hkept⟩ := Die.laneTo_moves hl st cause hst b
    rw [← hdef] at hstate hlanes hkept
    refine ⟨?_, ?_, hstate, (hpre.trans hkept).mono (by decide) (by decide)⟩
    · rw [(hbkept.trans hkept).tals T.LNK_ATTEMPT_FAIL rfl (by decide) (by decide)]
      exact hctal
    · rw [Die.lane_of_lanes hlanes]
      exact hblane
  by_cases hslow : b.slowest l < b.attemptRate l
  · rw [if_pos hslow] at hdef
    rw [if_pos (hrates.1 hslow)]
    exact hmove 5 (by decide) hdef
  · rw [if_neg hslow] at hdef
    rw [if_neg (fun h => hslow (hrates.2 h))]
    exact hmove 1 (by decide) hdef

end Sys2Proof.Machine
end

section
/-! SUPPORT. What ends a lane's service, at once or deferred (R423, R429, R439, R440, R442, R445, R449, R570). -/

namespace Sys2Proof.Machine

/-- A lane's training starts anew (R449). -/
def Die.lnkReset (l : Nat) (d : Die) : Die :=
  ((d.flag R.LNK_STATUS_DEFER l false).put R.LNK_STATUS_RATE l 0).onLane l (fun x => { x.fresh with attempts := 0, resume := false, runs := [], misses := 0 })

/-- LNK_CONTROL's fields, and the mode that a certified path holds (R48, R449). -/
def Die.lnkSet (l w : Nat) (d : Die) : Die :=
  if (d.setFields .LNK l 0x010 w).get R.LNK_CONTROL_MODE l ≠ d.get R.LNK_CONTROL_MODE l ∧ d.certified 2 l then
    ((d.setFields .LNK l 0x010 w).put R.LNK_CONTROL_MODE l (d.get R.LNK_CONTROL_MODE l)).flag R.LNK_STATUS_CFG_REFUSED l true
  else d.setFields .LNK l 0x010 w

/-- The lane after its enable or its mode has changed (R429, R442, R449). -/
def Die.lnkTurn (l : Nat) (wasOn : Bool) (mode : Nat) (d : Die) : Die :=
  if wasOn && !d.on R.LNK_CONTROL_ENABLE l then (d.lnkReset l).laneTo l 0 6
  else if d.on R.LNK_CONTROL_ENABLE l && (!wasOn || d.get R.LNK_CONTROL_MODE l != mode) then (d.lnkReset l).laneTo l 1 6
  else d

theorem lnkControlW_eq (l w : Nat) (d : Die) : lnkControlW l w d =
    if bit (d.enableCut (decide (32 ≤ l)) w) 16 then
      ((d.lnkSet l (d.enableCut (decide (32 ≤ l)) w)).lnkTurn l (d.on R.LNK_CONTROL_ENABLE l) (d.get R.LNK_CONTROL_MODE l)).retrainTrigger l 4
    else (d.lnkSet l (d.enableCut (decide (32 ≤ l)) w)).lnkTurn l (d.on R.LNK_CONTROL_ENABLE l) (d.get R.LNK_CONTROL_MODE l) := rfl

theorem Die.enableCut_retrain (outside : Bool) (w : Nat) (d : Die) : bit (d.enableCut outside w) 16 = bit w 16 := by
  unfold Die.enableCut
  cases hcut : (outside && d.lowProfile) with
  | false => simp
  | true =>
    cases hw : bit w 0 with
    | false => simp
    | true =>
      simp only [bit, beq_iff_eq] at hw ⊢
      simp only [Bool.and_self, if_true]
      congr 1
      omega

theorem Die.laneOnly_setFields (l off w : Nat) (ho : off < 0x1000) (d : Die) : d.laneOnly l (d.setFields .LNK l off w) := by
  refine ⟨by rw [Die.setFields_regs], fun _ _ => by rw [Die.setFields_regs], fun m hm hne => ⟨Die.get_setFields_other _ _ _ _ _ _ _ ?_, by rw [Die.lane, Die.setFields_regs]; rfl⟩⟩
  have hbase : blockAddr .LNK 0 0 = 0x80000 := by decide
  rw [blockAddr_eq, hbase]
  simp only [Fld.key, R.LNK_STATUS_STATE]
  omega

theorem Die.laneOnly_lnkReset (l : Nat) (d : Die) : d.laneOnly l (d.lnkReset l) :=
  ((d.laneOnly_flag l R.LNK_STATUS_DEFER l false (.inl ⟨rfl, by decide, by decide, rfl⟩)).trans
    (Die.laneOnly_put l R.LNK_STATUS_RATE l 0 _ (.inl ⟨rfl, by decide, by decide, rfl⟩))).trans (Die.laneOnly_onLane l _ _)

theorem Die.laneOnly_lnkSet (l w : Nat) (d : Die) : d.laneOnly l (d.lnkSet l w) := by
  have hset := d.laneOnly_setFields l 0x010 w (by decide)
  have hmode := hset.trans (Die.laneOnly_put l R.LNK_CONTROL_MODE l (d.get R.LNK_CONTROL_MODE l) _ (.inl ⟨rfl, by decide, by decide, rfl⟩))
  exact Die.laneOnly_ite (hmode.trans (Die.laneOnly_flag l R.LNK_STATUS_CFG_REFUSED l true _ (.inl ⟨rfl, by decide, by decide, rfl⟩))) hset

theorem Die.laneOnly_lnkTurn (l : Nat) (wasOn : Bool) (mode : Nat) (d : Die) : d.laneOnly l (d.lnkTurn l wasOn mode) :=
  Die.laneOnly_ite ((d.laneOnly_lnkReset l).trans (Die.laneOnly_laneTo l 0 6 _))
    (Die.laneOnly_ite ((d.laneOnly_lnkReset l).trans (Die.laneOnly_laneTo l 1 6 _)) (d.laneOnly_refl l))

theorem laneOnly_lnkControlW (l w : Nat) (d : Die) : d.laneOnly l (lnkControlW l w d) := by
  rw [lnkControlW_eq]
  have hturn := (d.laneOnly_lnkSet l (d.enableCut (decide (32 ≤ l)) w)).trans
    (Die.laneOnly_lnkTurn l (d.on R.LNK_CONTROL_ENABLE l) (d.get R.LNK_CONTROL_MODE l) _)
  exact Die.laneOnly_ite (hturn.trans (Die.laneOnly_retrainTrigger l 4 _)) hturn

/-- What a write of LNK_CONTROL sets (R48, R449). -/
theorem Die.lnkSet_sets (l w : Nat) (d : Die) (f : Die) (hf : d.lnkSet l w = f) :
    f.on R.LNK_CONTROL_ENABLE l = bit w 0 ∧ f.laneState l = d.laneState l ∧ f.lane l = d.lane l
      ∧ (d.certified 2 l = false → f.get R.LNK_CONTROL_MODE l = b2n (bit w 1))
      ∧ (d.certified 2 l = true → d.get R.LNK_CONTROL_MODE l = 1 - b2n (bit w 1) →
          f.get R.LNK_CONTROL_MODE l = d.get R.LNK_CONTROL_MODE l ∧ f.on R.LNK_STATUS_CFG_REFUSED l = true) := by
  obtain ⟨u, hu⟩ : ∃ u, d.setFields .LNK l 0x010 w = u := ⟨_, rfl⟩
  have henable : u.on R.LNK_CONTROL_ENABLE l = bit w 0 := by
    rw [← hu]
    exact Die.on_setFields_rw .LNK l 0x010 w d R.LNK_CONTROL_ENABLE (by simp [fieldsAt, Block.regs, regsLNK]) rfl rfl
  have hmode : u.get R.LNK_CONTROL_MODE l = b2n (bit w 1) := by
    rw [← hu, d.get_setFields_rw .LNK l 0x010 w ⟨R.LNK_CONTROL_MODE, any⟩ (by simp [fieldsAt, Block.regs, regsLNK]) rfl]
    refine (if_pos rfl).trans ?_
    rw [← bit_eq_bits]
    have hlt : bits w 1 1 < 2 := Nat.mod_lt _ (by decide)
    change bits w 1 1 = b2n (bits w 1 1 == 1)
    rcases (by omega : bits w 1 1 = 0 ∨ bits w 1 1 = 1) with h | h <;> rw [h] <;> rfl
  have hstate : u.laneState l = d.laneState l := by
    rw [← hu]
    exact Die.get_setFields_page _ _ _ _ _ _ (by decide) (by decide)
  have hlane : u.lane l = d.lane l := by
    rw [← hu, Die.lane, Die.setFields_regs]
    rfl
  have hdef : f = if u.get R.LNK_CONTROL_MODE l ≠ d.get R.LNK_CONTROL_MODE l ∧ d.certified 2 l = true then
      (u.put R.LNK_CONTROL_MODE l (d.get R.LNK_CONTROL_MODE l)).flag R.LNK_STATUS_CFG_REFUSED l true else u := by
    rw [← hf, ← hu]
    rfl
  by_cases hrefuse : u.get R.LNK_CONTROL_MODE l ≠ d.get R.LNK_CONTROL_MODE l ∧ d.certified 2 l = true
  · rw [if_pos hrefuse] at hdef
    have hkept := (u.lnkKept_put l R.LNK_CONTROL_MODE (d.get R.LNK_CONTROL_MODE l) rfl).trans (Die.lnkKept_flag l R.LNK_STATUS_CFG_REFUSED true _ rfl)
    rw [← hdef] at hkept
    refine ⟨(hkept.on _ rfl (by decide) (by decide) (by decide)).trans henable, (hkept.state (by decide)).trans hstate, ?_, fun h => ?_, fun _ hother => ⟨?_, ?_⟩⟩
    · rw [hdef]
      exact hlane
    · rw [hrefuse.2] at h; cases h
    · rw [hdef, Die.flag, Die.get_put_apart _ _ _ _ _ (by decide), Die.get_put_same]
      exact Nat.mod_eq_of_lt (by rw [hother]; exact Nat.lt_of_le_of_lt (Nat.sub_le _ _) (by decide))
    · rw [hdef]
      exact Die.on_flag_same _ l true _ rfl
  · rw [if_neg hrefuse] at hdef
    subst hdef
    refine ⟨henable, hstate, hlane, fun _ => hmode, fun hcert hother => ?_⟩
    refine absurd ⟨?_, hcert⟩ hrefuse
    rw [hmode, hother]
    cases bit w 1 <;> decide

/-- What a lane's turn leaves after a write of LNK_CONTROL (R429, R449). -/
theorem Die.lnkTurn_turns {l : Nat} (hl : l < 64) (wasOn : Bool) (mode : Nat) (d : Die) (f : Die) (hf : d.lnkTurn l wasOn mode = f) :
    d.lnkKept l [R.LNK_STATUS_DEFER.place, R.LNK_STATUS_RATE.place, R.LNK_STATUS_STATE.place] [] f
      ∧ (wasOn = true → d.on R.LNK_CONTROL_ENABLE l = false → f.laneState l = 0 ∧ f.get R.LNK_STATUS_RATE l = 0)
      ∧ (wasOn = false → d.on R.LNK_CONTROL_ENABLE l = false → f = d)
      ∧ (wasOn = false → d.on R.LNK_CONTROL_ENABLE l = true → f.laneState l = 1 ∧ (f.lane l).attempts = 0) := by
  have hreset : d.lnkKept l [R.LNK_STATUS_DEFER.place, R.LNK_STATUS_RATE.place] [] (d.lnkReset l) :=
    (d.lnkKept_flag l R.LNK_STATUS_DEFER false rfl).trans ((Die.lnkKept_put l R.LNK_STATUS_RATE 0 _ rfl).trans (Die.lnkKept_same l rfl rfl))
  have hrate : (d.lnkReset l).get R.LNK_STATUS_RATE l = 0 := Die.get_put_same (d.flag R.LNK_STATUS_DEFER l false) R.LNK_STATUS_RATE l 0
  have hattempts : ((d.lnkReset l).lane l).attempts = 0 := by rw [Die.lnkReset, Die.lane_onLane_same]
  have hmove (st : Nat) (hst : st < 8) (hdef : f = (d.lnkReset l).laneTo l st 6) : f.laneState l = st ∧ f.get R.LNK_STATUS_RATE l = 0 ∧ (f.lane l).attempts = 0
      ∧ d.lnkKept l [R.LNK_STATUS_DEFER.place, R.LNK_STATUS_RATE.place, R.LNK_STATUS_STATE.place] [] f := by
    obtain ⟨hstate, hlanes, hkept⟩ := Die.laneTo_moves hl st 6 hst (d.lnkReset l)
    rw [← hdef] at hstate hlanes hkept
    refine ⟨hstate, ?_, ?_, (hreset.trans hkept).mono (by decide) (by decide)⟩
    · rw [hkept.regs R.LNK_STATUS_RATE rfl (by decide) (by decide) (by decide)]
      exact hrate
    · rw [Die.lane_of_lanes hlanes]
      exact hattempts
  unfold Die.lnkTurn at hf
  cases hon : d.on R.LNK_CONTROL_ENABLE l with
  | false =>
    rw [hon] at hf
    cases hwas : wasOn with
    | true =>
      rw [hwas] at hf
      obtain ⟨h1, h2, -, h4⟩ := hmove 0 (by decide) hf.symm
      exact ⟨h4, fun _ _ => ⟨h1, h2⟩, fun h => Bool.noConfusion h, fun h => Bool.noConfusion h⟩
    | false =>
      rw [hwas] at hf
      subst hf
      exact ⟨(d.lnkKept_refl l).mono (fun _ h => absurd h List.not_mem_nil) (fun _ h => h), fun h => Bool.noConfusion h, fun _ _ => rfl, fun _ h => Bool.noConfusion h⟩
  | true =>
    rw [hon, Bool.not_true, Bool.and_false, if_neg Bool.false_ne_true, Bool.true_and] at hf
    by_cases hgo : (!wasOn || d.get R.LNK_CONTROL_MODE l != mode) = true
    · rw [if_pos hgo] at hf
      obtain ⟨h1, -, h3, h4⟩ := hmove 1 (by decide) hf.symm
      exact ⟨h4, fun _ h => Bool.noConfusion h, fun _ h => Bool.noConfusion h, fun _ _ => ⟨h1, h3⟩⟩
    · rw [if_neg hgo] at hf
      subst hf
      refine ⟨(d.lnkKept_refl l).mono (fun _ h => absurd h List.not_mem_nil) (fun _ h => h), fun _ h => Bool.noConfusion h, fun _ _ => rfl, fun h => ?_⟩
      rw [h] at hgo
      simp at hgo

/-- A write of LNK_CONTROL that the device performs. -/
theorem State.lnkControl_goes (s : State) (src : Source) (l : Nat) (hl : l < 64) (w : Word) (hadm : s.admits src .LNK l 0x010) {P : Die → Prop} (hP : P (lnkControlW l w.toNat s.die)) :
    s.laneGoes (.lnkControl src l w) l P := by
  refine State.laneGoes_of (f := lnkControlW l w.toNat s.die) ?_ (laneOnly_lnkControlW l w.toNat s.die) hP
  have hgo : exec (.lnkControl src l w) s = dieCmd (decide (l < 64)) (writeDie src (blockAddr .LNK l 0x010) (lnkControlW l w.toNat)) s := rfl
  rw [hgo, dieCmd, decide_eq_true hl, writeDie_admitted hadm]
  rfl

theorem State.lane_goes (s : State) (c : Instr) (l : Nat) (hl : l < 64) (act : Die → Die) (hc : exec c s = dieCmd (decide (l < 64)) (fun s => act s.die) s)
    (h : s.die.laneOnly l (act s.die)) {P : Die → Prop} (hP : P (act s.die)) : s.laneGoes c l P := by
  refine State.laneGoes_of (f := act s.die) ?_ h hP
  rw [hc, dieCmd, decide_eq_true hl]
  rfl

/-- A loss of alignment counts, and triggers (R423, R439). -/
theorem Die.alignLoss_counts {l : Nat} (hl : l < 64) (d : Die) : d.lnkKept l [] [T.LNK_ALIGN_LOSS.off] (d.count T.LNK_ALIGN_LOSS l)
    ∧ (d.count T.LNK_ALIGN_LOSS l).tally T.LNK_ALIGN_LOSS l = tallyAdd (d.tally T.LNK_ALIGN_LOSS l) 1 ∧ (d.count T.LNK_ALIGN_LOSS l).lane l = d.lane l :=
  ⟨Die.lnkKept_count hl T.LNK_ALIGN_LOSS d rfl, Die.tally_lnk hl T.LNK_ALIGN_LOSS d rfl (by decide), Die.lane_of_lanes (by rw [(d.report_count T.LNK_ALIGN_LOSS l).1]) l⟩

/-- A trigger after what the lane counts is the lane's own trigger. -/
theorem Die.triggered_after {l : Nat} {tx : List Nat} {d a f : Die} (h : d.lnkKept l [] tx a) (hlane : a.lane l = d.lane l) (hretrains : T.LNK_RETRAINS.off ∉ tx)
    (hdeferred : T.LNK_DEFERRED.off ∉ tx) (ht : a.triggered f l) : d.triggered f l := by
  unfold Die.triggered Die.retrains at ht ⊢
  rw [hlane, h.regs R.LNK_STATUS_RATE rfl (by decide) (by decide) List.not_mem_nil, h.tals T.LNK_RETRAINS rfl (by decide) hretrains,
    h.tals T.LNK_DEFERRED rfl (by decide) hdeferred] at ht
  exact ht

theorem State.alignLoss_goes (s : State) (l : Nat) (hl : l < 64) :
    (s.die.laneState l = 4 → s.die.on R.LNK_STATUS_DEFER l = false → s.laneGoes (.alignLoss l) l (fun e => s.die.triggered e l
      ∧ e.tally T.LNK_ALIGN_LOSS l = tallyAdd (s.die.tally T.LNK_ALIGN_LOSS l) 1))
    ∧ (s.die.laneState l = 2 ∨ s.die.laneState l = 3 → s.laneGoes (.alignLoss l) l (fun e => e.laneState l = s.die.laneState l ∧ e.lane l = s.die.lane l
      ∧ e.tally T.LNK_ALIGN_LOSS l = tallyAdd (s.die.tally T.LNK_ALIGN_LOSS l) 1)) := by
  obtain ⟨hcount, htal, hlane⟩ := Die.alignLoss_counts hl s.die
  obtain ⟨a, ha⟩ : ∃ a, s.die.count T.LNK_ALIGN_LOSS l = a := ⟨_, rfl⟩
  have honly : s.die.laneOnly l (a.retrainTrigger l 2) := by
    rw [← ha]
    exact (s.die.laneOnly_count l T.LNK_ALIGN_LOSS l).trans (Die.laneOnly_retrainTrigger l 2 _)
  rw [ha] at hcount htal hlane
  have hgo (h : s.die.laneState l = 2 ∨ s.die.laneState l = 3 ∨ s.die.laneState l = 4) : exec (.alignLoss l) s = .next { s with die := a.retrainTrigger l 2 } := by
    have hexec : exec (.alignLoss l) s = dieCmd (decide (l < 64)) (fun s =>
      if s.die.laneState l = 2 ∨ s.die.laneState l = 3 ∨ s.die.laneState l = 4 then (s.die.count T.LNK_ALIGN_LOSS l).retrainTrigger l 2 else s.die) s := rfl
    rw [hexec, dieCmd, decide_eq_true hl, if_pos rfl, if_pos h, ha]
  refine ⟨fun hstate hdefer => ?_, fun hstate => ?_⟩
  · obtain ⟨htrig, hkept⟩ := Die.retrainTrigger_triggers hl 2 a ((hcount.state List.not_mem_nil).trans hstate)
      ((hcount.on R.LNK_STATUS_DEFER rfl (by decide) (by decide) List.not_mem_nil).trans hdefer) _ rfl
    refine State.laneGoes_of (hgo (.inr (.inr hstate))) honly ⟨Die.triggered_after hcount hlane (by decide) (by decide) htrig, ?_⟩
    rw [hkept.tals T.LNK_ALIGN_LOSS rfl (by decide) (by decide)]
    exact htal
  · have hastate := hcount.state List.not_mem_nil
    rw [Die.retrainTrigger_idle l 2 a (fun h => by rw [hastate] at h; omega)] at hgo honly
    exact State.laneGoes_of (hgo (by omega)) honly ⟨hastate, hlane, htal⟩

/-- A loss of signal (R429, R442, R445). -/
theorem State.los_goes (s : State) (l : Nat) (hl : l < 64) :
    (s.die.laneState l = 0 ∨ s.die.laneState l = 1 ∨ s.die.laneState l = 5 → s.laneGoes (.los l) l (fun e => e = s.die))
    ∧ (s.die.laneState l = 2 ∨ s.die.laneState l = 3 → s.laneGoes (.los l) l (fun e => e.tally T.LNK_LOS l = tallyAdd (s.die.tally T.LNK_LOS l) 1
        ∧ e.tally T.LNK_ATTEMPT_FAIL l = tallyAdd (s.die.tally T.LNK_ATTEMPT_FAIL l) 1
        ∧ e.laneState l = (if s.die.slowest l < s.die.get R.LNK_CONTROL_MAXRATE l + ((s.die.lane l).attempts + 1) / 3 then 5 else 1)))
    ∧ (s.die.laneState l = 4 ∨ s.die.laneState l = 6 ∨ s.die.laneState l = 7 → s.laneGoes (.los l) l (fun e =>
        e.tally T.LNK_LOS l = tallyAdd (s.die.tally T.LNK_LOS l) 1 ∧ e.laneState l = 1 ∧ (e.lane l).attempts = (s.die.lane l).attempts)) := by
  have hgoes {P : Die → Prop} (hP : P (s.die.los l)) : s.laneGoes (.los l) l P := s.lane_goes _ l hl (Die.los l) rfl (s.die.laneOnly_los l) hP
  have hcount := Die.lnkKept_count hl T.LNK_LOS s.die rfl
  have htal := Die.tally_lnk hl T.LNK_LOS s.die rfl (by decide)
  have hlane : (s.die.count T.LNK_LOS l).lane l = s.die.lane l := Die.lane_of_lanes (by rw [(s.die.report_count T.LNK_LOS l).1]) l
  obtain ⟨a, ha⟩ : ∃ a, s.die.count T.LNK_LOS l = a := ⟨_, rfl⟩
  rw [ha] at hcount htal hlane
  obtain ⟨b, hb⟩ : ∃ b, a.flag R.LNK_STATUS_DEFER l false = b := ⟨_, rfl⟩
  have hbkept : a.lnkKept l [R.LNK_STATUS_DEFER.place] [] b := by rw [← hb]; exact a.lnkKept_flag l _ false rfl
  have hblane : b.lane l = s.die.lane l := by rw [← hb]; exact hlane
  have hall := hcount.trans hbkept
  have hdef : s.die.los l = if s.die.laneState l = 0 ∨ s.die.laneState l = 1 ∨ s.die.laneState l = 5 then s.die
      else if s.die.laneState l = 2 ∨ s.die.laneState l = 3 then b.failAttempt l 5
      else (b.onLane l (fun x => { x.fresh with resume := false, runs := [], misses := 0 })).laneTo l 1 5 := by
    rw [← hb, ← ha]
    rfl
  refine ⟨fun h => hgoes ?_, fun h => hgoes ?_, fun h => hgoes ?_⟩
  · rw [hdef, if_pos h]
  · rw [hdef, if_neg (by omega), if_pos h]
    obtain ⟨hfail, -, hstate, hkept⟩ := Die.failAttempt_fails hl 5 b _ rfl
    refine ⟨?_, ?_, ?_⟩
    · rw [(hbkept.trans hkept).tals T.LNK_LOS rfl (by decide) (by decide)]
      exact htal
    · rw [hfail, hall.tals T.LNK_ATTEMPT_FAIL rfl (by decide) (by decide)]
    · rw [hstate, hblane, hall.slowest (by decide) (by decide) (by decide), hall.regs R.LNK_CONTROL_MAXRATE rfl (by decide) (by decide) (by decide)]
  · rw [hdef, if_neg (by omega), if_neg (by omega)]
    obtain ⟨c, hc⟩ : ∃ c, b.onLane l (fun x => { x.fresh with resume := false, runs := [], misses := 0 }) = c := ⟨_, rfl⟩
    have hckept : b.lnkKept l [] [] c := by rw [← hc]; exact Die.lnkKept_same l rfl rfl
    have hclane : (c.lane l).attempts = (s.die.lane l).attempts := by
      rw [← hc, Die.lane_onLane_same, hblane]
      rfl
    rw [hc]
    obtain ⟨hstate, hlanes, hkept⟩ := Die.laneTo_moves hl 1 5 (by decide) c
    refine ⟨?_, hstate, ?_⟩
    · rw [(hbkept.trans (hckept.trans hkept)).tals T.LNK_LOS rfl (by decide) (by decide)]
      exact htal
    · rw [Die.lane_of_lanes hlanes]
      exact hclane

/-- A write of LNK_CONTROL without RETRAIN, and the mode after any (R48, R449, R570). -/
theorem lnkControlW_writes {l : Nat} (hl : l < 64) (w : Nat) (d : Die) (enables : Prop) (henables : enables ↔ bit w 0 = true ∧ (l < 32 ∨ d.lowProfile = false))
    (f : Die) (hf : lnkControlW l w d = f) :
    (bit w 16 = false → d.on R.LNK_CONTROL_ENABLE l = true → ¬ enables → f.laneState l = 0 ∧ f.on R.LNK_CONTROL_ENABLE l = false ∧ f.get R.LNK_STATUS_RATE l = 0)
    ∧ (bit w 16 = false → d.on R.LNK_CONTROL_ENABLE l = false → ¬ enables →
        f.laneState l = d.laneState l ∧ f.on R.LNK_CONTROL_ENABLE l = false ∧ f.lane l = d.lane l)
    ∧ (bit w 16 = false → d.on R.LNK_CONTROL_ENABLE l = false → enables → f.laneState l = 1 ∧ f.on R.LNK_CONTROL_ENABLE l = true ∧ (f.lane l).attempts = 0)
    ∧ (d.certified 2 l = false → f.get R.LNK_CONTROL_MODE l = b2n (bit w 1))
    ∧ (d.certified 2 l = true → d.get R.LNK_CONTROL_MODE l = 1 - b2n (bit w 1) →
        f.get R.LNK_CONTROL_MODE l = d.get R.LNK_CONTROL_MODE l ∧ f.on R.LNK_STATUS_CFG_REFUSED l = true) := by
  obtain ⟨hcut0, hcut1, -, -⟩ := d.enableCut_bits (decide (32 ≤ l)) w
  have hcut16 := d.enableCut_retrain (decide (32 ≤ l)) w
  have hon : bit (d.enableCut (decide (32 ≤ l)) w) 0 = true ↔ enables := by
    rw [hcut0, henables]
    by_cases h32 : l < 32
    · simp [h32, Nat.not_le.2 h32]
    · simp [h32, Nat.not_lt.1 h32]
  rw [lnkControlW_eq] at hf
  generalize d.enableCut (decide (32 ≤ l)) w = v at hf hcut1 hcut16 hon
  obtain ⟨henable, hstate, hlane, hfree, hcert⟩ := Die.lnkSet_sets l v d _ rfl
  obtain ⟨a, ha⟩ : ∃ a, d.lnkSet l v = a := ⟨_, rfl⟩
  rw [ha] at hf henable hstate hlane hfree hcert
  rw [hcut1] at hfree hcert
  obtain ⟨hkept, hoff, hstays, hstarts⟩ := Die.lnkTurn_turns hl (d.on R.LNK_CONTROL_ENABLE l) (d.get R.LNK_CONTROL_MODE l) a _ rfl
  obtain ⟨b, hb⟩ : ∃ b, a.lnkTurn l (d.on R.LNK_CONTROL_ENABLE l) (d.get R.LNK_CONTROL_MODE l) = b := ⟨_, rfl⟩
  rw [hb] at hf hkept hoff hstays hstarts
  rw [henable] at hoff hstays hstarts
  rw [hcut16] at hf
  have hbenable : b.on R.LNK_CONTROL_ENABLE l = bit v 0 := (hkept.on R.LNK_CONTROL_ENABLE rfl (by decide) (by decide) (by decide)).trans henable
  have hnot (h : ¬ enables) : bit v 0 = false := by
    cases hv : bit v 0 with
    | false => rfl
    | true => exact absurd (hon.1 hv) h
  have hplain (h : bit w 16 = false) : f = b := by
    rw [← hf, h]
    rfl
  have hafter : ∃ ex tx, a.lnkKept l ex tx f ∧ R.LNK_CONTROL_MODE.place ∉ ex ∧ R.LNK_STATUS_CFG_REFUSED.place ∉ ex := by
    cases h16 : bit w 16 with
    | false =>
      rw [hplain h16]
      exact ⟨_, _, hkept, by decide, by decide⟩
    | true =>
      rw [h16, if_pos rfl] at hf
      by_cases hready : b.laneState l = 4 ∧ b.on R.LNK_STATUS_DEFER l = false
      · exact ⟨_, _, hkept.trans (Die.retrainTrigger_triggers hl 4 b hready.1 hready.2 f hf).2, by decide, by decide⟩
      · rw [Die.retrainTrigger_idle l 4 b hready] at hf
        rw [← hf]
        exact ⟨_, _, hkept, by decide, by decide⟩
  obtain ⟨ex, tx, hlast, hmode, hrefused⟩ := hafter
  refine ⟨fun h16 hwas hno => ?_, fun h16 hwas hno => ?_, fun h16 hwas hyes => ?_, fun h => ?_, fun h hother => ⟨?_, ?_⟩⟩
  · rw [hplain h16]
    exact ⟨(hoff hwas (hnot hno)).1, hbenable.trans (hnot hno), (hoff hwas (hnot hno)).2⟩
  · rw [hplain h16, hstays hwas (hnot hno)]
    exact ⟨hstate, henable.trans (hnot hno), hlane⟩
  · rw [hplain h16]
    exact ⟨(hstarts hwas (hon.2 hyes)).1, hbenable.trans (hon.2 hyes), (hstarts hwas (hon.2 hyes)).2⟩
  · rw [hlast.regs R.LNK_CONTROL_MODE rfl (by decide) (by decide) hmode]
    exact hfree h
  · rw [hlast.regs R.LNK_CONTROL_MODE rfl (by decide) (by decide) hmode]
    exact (hcert h hother).1
  · rw [hlast.on R.LNK_STATUS_CFG_REFUSED rfl (by decide) (by decide) hrefused]
    exact (hcert h hother).2

/-- Settles O36: alignment, signal, the retrain triggers, and LNK_CONTROL. -/
theorem lanesLeaveActive : Obligations.LanesLeaveActive := by
  intro s l hl
  dsimp only
  obtain ⟨halign4, halign23⟩ := s.alignLoss_goes l hl
  obtain ⟨hlos0, hlos2, hlos4⟩ := s.los_goes l hl
  have hretrain (cause : Nat) {P : Die → Prop} (hP : P (s.die.retrainTrigger l cause)) : s.laneGoes (.retrain l cause) l P :=
    s.lane_goes _ l hl (Die.retrainTrigger l cause) rfl (s.die.laneOnly_retrainTrigger l cause) hP
  refine ⟨fun h => halign4 h.1 h.2, halign23, hlos0, hlos2, hlos4, ?_, fun cause h => hretrain cause (Die.retrainTrigger_triggers hl cause s.die h.1 h.2 _ rfl).1,
    fun cause h => hretrain cause (Die.retrainTrigger_idle l cause s.die h), fun hstate hdefer => ?_, fun src w hadm => ?_⟩
  · exact s.lane_goes _ l hl (fun d => d.onLane l (fun x => { x with errors := 0 })) rfl (s.die.laneOnly_onLane l _) ⟨s.die.lane_onLane_same l _, rfl⟩
  · refine State.laneGoes_of (f := s.die.beginRetrain l (s.die.lane l).deferCause) ?_ (s.die.laneOnly_beginRetrain l _) (Die.beginRetrain_begins hl _ s.die _ rfl).1
    have hexec : exec (.retrainDeferTimeout l) s = dieCmd (decide (l < 64)) (fun s =>
      if s.die.on R.LNK_STATUS_DEFER l ∧ s.die.laneState l = 4 then s.die.beginRetrain l (s.die.lane l).deferCause else s.die) s := rfl
    rw [hexec, dieCmd, decide_eq_true hl, if_pos rfl, if_pos ⟨hdefer, hstate⟩]
  · obtain ⟨hoff, hstays, hstarts, hfree, hcert⟩ := lnkControlW_writes hl w.toNat s.die _ Iff.rfl _ rfl
    exact ⟨fun h16 hwas hno => s.lnkControl_goes src l hl w hadm (hoff h16 hwas hno), fun h16 hwas hno => s.lnkControl_goes src l hl w hadm (hstays h16 hwas hno),
      fun h16 hwas hyes => s.lnkControl_goes src l hl w hadm (hstarts h16 hwas hyes), s.lnkControl_goes src l hl w hadm ⟨hfree, hcert⟩⟩

end Sys2Proof.Machine
end

section
/-! SUPPORT. What a turn of its line leaves of a lane: training and receiver stand, and the classes go on (R435 to R438). -/

namespace Sys2Proof.Machine

/-- A class after items of it have gone: what it receives stands, and frames join those outstanding. -/
structure Rel.goesOn (r q : Rel) : Prop where
  received : q.exp = r.exp ∧ q.naked = r.naked ∧ q.buf = r.buf ∧ q.expiries = r.expiries
  sent : ∃ more, q.out = r.out ++ more
  idle : r.waits = [] → q.out = r.out ∧ q.waits = []

theorem Rel.goesOn_refl (r : Rel) : r.goesOn r := ⟨⟨rfl, rfl, rfl, rfl⟩, ⟨[], (List.append_nil _).symm⟩, fun h => ⟨rfl, h⟩⟩

theorem Rel.goesOn_next (cls : Nat) (r q : Rel) (syms : List Sym) (h : r.next? cls = some (syms, q)) : r.goesOn q := by
  unfold Rel.next? at h
  split at h
  · cases h
    exact ⟨⟨rfl, rfl, rfl, rfl⟩, ⟨[], (List.append_nil _).symm⟩, fun hw => ⟨rfl, hw⟩⟩
  · next m rest hr hw =>
    obtain ⟨-, hq⟩ := Option.ite_none_right_eq_some.1 h
    cases hq
    exact ⟨⟨rfl, rfl, rfl, rfl⟩, ⟨_, rfl⟩, fun hn => by rw [hn] at hw; cases hw⟩
  · cases h

theorem Rel.goesOn_control (cls s wc : Nat) (r q : Rel) (syms : List Sym) (h : r.control? cls s wc = some (syms, q)) : r.goesOn q := by
  unfold Rel.control? at h
  split at h
  · cases h
    exact ⟨⟨rfl, rfl, rfl, rfl⟩, ⟨[], (List.append_nil _).symm⟩, fun hw => ⟨rfl, hw⟩⟩
  · obtain ⟨-, hq⟩ := Option.ite_none_right_eq_some.1 h
    cases hq
    exact ⟨⟨rfl, rfl, rfl, rfl⟩, ⟨[], (List.append_nil _).symm⟩, fun hw => ⟨rfl, hw⟩⟩

/-- A lane after a turn of its line. -/
structure Lane.goesOn (x y : Lane) : Prop where
  rest : y = { x with r := y.r, b := y.b, sNext := y.sNext, sWaits := y.sWaits, rdTx := y.rdTx, lineEnd := y.lineEnd }
  r : x.r.goesOn y.r
  b : x.b.goesOn y.b

theorem Lane.goesOn_refl (x : Lane) : x.goesOn x := ⟨rfl, x.r.goesOn_refl, x.b.goesOn_refl⟩

theorem Lane.goesOn_onRel (cls : Nat) (x : Lane) (q : Rel) (h : (x.rel cls).goesOn q) : x.goesOn (x.onRel cls (fun _ => q)) := by
  unfold Lane.rel at h
  unfold Lane.onRel
  split
  · next hc =>
    rw [if_pos hc] at h
    exact ⟨rfl, x.r.goesOn_refl, h⟩
  · next hc =>
    rw [if_neg hc] at h
    exact ⟨rfl, h, x.b.goesOn_refl⟩

theorem Lane.goesOn_sFirst (x y : Lane) (syms : List Sym) (h : x.sFirst? = some (syms, y)) : x.goesOn y := by
  unfold Lane.sFirst? at h
  split at h
  · cases h
    exact ⟨rfl, x.r.goesOn_refl, x.b.goesOn_refl⟩
  · cases h

theorem Lane.goesOn.rel {x y : Lane} (h : x.goesOn y) (cls : Nat) : (x.rel cls).goesOn (y.rel cls) := by
  unfold Lane.rel
  split
  · exact h.b
  · exact h.r

/-- An item that starts changes its lane and the Loft's queue alone, and the lane goes on (R438). -/
theorem Die.nextItem_goesOn (l s : Nat) (d : Die) (syms : List Sym) (e : Die) (h : d.nextItem l s = some (syms, e)) :
    ∃ y q, (d.lane l).goesOn y ∧ e = { d.onLane l (fun _ => y) with loft := q } := by
  unfold Die.nextItem at h
  extract_lets x wc lane rel sync src loft at h
  have hlane (r : Option (List Sym × Lane)) (hr : ∀ a b, r = some (a, b) → x.goesOn b) (y : List Sym × Die) (hy : lane r = some y) :
      ∃ z q, x.goesOn z ∧ y.2 = { d.onLane l (fun _ => z) with loft := q } := by
    obtain ⟨z, hz, rfl⟩ := Option.map_eq_some_iff.1 hy
    exact ⟨z.2, d.loft, hr z.1 z.2 hz, rfl⟩
  have hrel (cls : Nat) (r : Option (List Sym × Rel)) (hr : ∀ a b, r = some (a, b) → (x.rel cls).goesOn b) (y : List Sym × Die) (hy : rel cls r = some y) :
      ∃ z q, x.goesOn z ∧ y.2 = { d.onLane l (fun _ => z) with loft := q } := by
    refine hlane _ (fun a b hab => ?_) y hy
    obtain ⟨z, hz, heq⟩ := Option.map_eq_some_iff.1 hab
    cases heq
    exact x.goesOn_onRel cls z.2 (hr z.1 z.2 hz)
  have hloft (y : List Sym × Die) (hy : loft = some y) : ∃ z q, x.goesOn z ∧ y.2 = { d.onLane l (fun _ => z) with loft := q } := by
    rw [Option.ite_none_right_eq_some] at hy
    obtain ⟨z, -, rfl⟩ := Option.map_eq_some_iff.1 hy.2
    exact ⟨(x.sNow 61 z.2).2, _, ⟨rfl, x.r.goesOn_refl, x.b.goesOn_refl⟩, rfl⟩
  have hif (b : Bool) (o : Option (List Sym × Die)) (ho : ∀ y, o = some y → ∃ z q, x.goesOn z ∧ y.2 = { d.onLane l (fun _ => z) with loft := q }) (y : List Sym × Die)
      (hy : (if b then o else none) = some y) : ∃ z q, x.goesOn z ∧ y.2 = { d.onLane l (fun _ => z) with loft := q } := by
    rw [Option.ite_none_right_eq_some] at hy
    exact ho y hy.2
  obtain ⟨o, ho, hsome⟩ := List.exists_of_findSome?_eq_some h
  simp only [List.mem_cons, List.not_mem_nil, or_false] at ho
  obtain rfl : o = some (syms, e) := hsome
  rcases ho with ho | ho | ho | ho | ho | ho | ho
  · exact hif _ _ (hlane _ (fun a b => x.goesOn_sFirst b a)) _ ho.symm
  · exact hif _ _ (hrel 2 _ (fun a b => Rel.goesOn_next 2 x.b b a)) _ ho.symm
  · exact hif _ _ (hlane _ (fun a b => x.goesOn_sFirst b a)) _ ho.symm
  · exact hloft _ ho.symm
  · exact hrel 2 _ (fun a b => Rel.goesOn_control 2 s wc x.b b a) _ ho.symm
  · exact hrel 1 _ (fun a b => Rel.goesOn_control 1 s wc x.r b a) _ ho.symm
  · exact hif _ _ (hrel 1 _ (fun a b => Rel.goesOn_next 1 x.r b a)) _ ho.symm

/-- A frame on the line changes the transmitter alone. -/
theorem Die.putLine_lane (l s : Nat) (syms : List Sym) (d : Die) : ∃ rd fin, (d.putLine l s syms).lane l = { d.lane l with rdTx := rd, lineEnd := fin } := by
  obtain ⟨rd, hrd⟩ : ∃ rd, (encodeSyms (if ((s - (d.lane l).lineEnd) / d.wordUnits 2 l) % 2 = 1 then !(d.lane l).rdTx else (d.lane l).rdTx) syms).2 = rd := ⟨_, rfl⟩
  obtain ⟨fin, hfin⟩ : ∃ fin, s + cdiv syms.length 4 * d.wordUnits 2 l = fin := ⟨_, rfl⟩
  refine ⟨rd, fin, ?_⟩
  unfold Die.putLine
  dsimp only
  rw [hrd, hfin]
  exact d.lane_onLane_same l (fun y => { y with rdTx := rd, lineEnd := fin })

/-- A turn of its line leaves the lane's training and its receiver, and its classes go on (R438). -/
theorem Die.lineTurn_goesOn (l : Nat) (d : Die) : (d.lane l).goesOn ((d.lineTurn l).lane l) := by
  unfold Die.lineTurn
  dsimp only
  split
  · split
    · exact Lane.goesOn_refl _
    · next syms e he =>
      obtain ⟨y, q, hy, hq⟩ := d.nextItem_goesOn l _ syms e he
      have hlane : e.lane l = y := by
        rw [hq]
        exact d.lane_onLane_same l (fun _ => y)
      split
      · obtain ⟨rd, fin, hput⟩ := e.putLine_lane l (d.boundary 2 l (d.lane l).lineEnd (max d.now21 (KMap.get {} d.ports (128 + l)).busyTo)) syms
        rw [hput, hlane]
        refine ⟨?_, hy.r, hy.b⟩
        rw [hy.rest]
      · exact Lane.goesOn_refl _
  · exact Lane.goesOn_refl _

end Sys2Proof.Machine
end

section
/-! SUPPORT. The training state machine of a lane (R420, R421, R423, R429 to R434, R441). -/

namespace Sys2Proof.Machine

@[simp] theorem Die.enterHoldover_emits (d : Die) : d.enterHoldover.emits = d.emits := by
  unfold Die.enterHoldover
  split
  · exact Die.count_emits _ _ _
  · rfl

@[simp] theorem Die.refLoss_emits (d : Die) : d.refLoss.emits = d.emits := by
  unfold Die.refLoss
  dsimp only
  split
  · exact Die.alarm_emits _ _
  · rfl

@[simp] theorem Die.laneLeft_emits (l old : Nat) (d : Die) : (d.laneLeft l old).emits = d.emits := by
  obtain ⟨e, he⟩ : ∃ e, (if old = 4 then d.unchoose 2 l else d) = e := ⟨_, rfl⟩
  have hchoice : e.emits = d.emits := by
    rw [← he]
    split <;> rfl
  unfold Die.laneLeft
  rw [he]
  split
  · rw [Die.incident_emits, hchoice]
  · exact hchoice

@[simp] theorem Die.parentTurned_emits (l old st : Nat) (d : Die) : (d.parentTurned l old st).emits = d.emits := by
  unfold Die.parentTurned
  split
  · rw [Die.enterHoldover_emits]
    split
    · exact d.refLoss_emits
    · rfl
  · split
    · unfold Die.refBack
      split <;> rfl
    · rfl

@[simp] theorem Die.laneTo_emits (l st cause : Nat) (d : Die) : (d.laneTo l st cause).emits = d.emits := by
  rw [Die.laneTo_eq]
  split
  · rfl
  · rw [Die.parentTurned_emits, Die.laneLeft_emits, Die.linkPacket, Die.trace_emits, Die.put_emits]

/-- A lane that neither leaves nor enters ACTIVE leaves the flock's logic (R455, R461). -/
theorem Die.laneTo_flk (l st cause : Nat) (d : Die) (hold : d.laneState l ≠ 4) (hst : st ≠ 4) : (d.laneTo l st cause).flk = d.flk := by
  rw [Die.laneTo_eq]
  split
  · rfl
  · unfold Die.parentTurned Die.laneLeft
    rw [if_neg (fun h => hold h.1), if_neg (fun h => hst h.1), if_neg (fun h => hold h.1), if_neg hold]
    have hpacket := Die.traced_linkPacket l (d.laneState l) st cause (d.put R.LNK_STATUS_STATE l st)
    rw [hpacket.1.1]
    rfl

theorem Die.toTrain1_flk {l : Nat} (hl : l < 64) (rate cause : Nat) (d : Die) (hold : d.laneState l ≠ 4) : (d.toTrain1 l rate cause).flk = d.flk := by
  obtain ⟨a, ha⟩ : ∃ a, (if d.get R.LNK_STATUS_RATE l ≠ 0 ∧ d.get R.LNK_STATUS_RATE l < rate then d.count T.LNK_RATE_DOWN l else d) = a := ⟨_, rfl⟩
  have hakept : a.flk = d.flk ∧ a.laneState l = d.laneState l := by
    rw [← ha]
    split
    · exact ⟨Die.report_flk (d.report_count _ _), (Die.lnkKept_count hl T.LNK_RATE_DOWN d rfl).state List.not_mem_nil⟩
    · exact ⟨rfl, rfl⟩
  obtain ⟨c, hc⟩ : ∃ c, (a.put R.LNK_STATUS_RATE l rate).onLane l (fun x => { x.fresh with rdTx := !([0, 1, 5].contains (a.laneState l)) && x.rdTx, preset := a.presetOf l }) = c := ⟨_, rfl⟩
  have hckept : c.flk = a.flk ∧ c.laneState l = a.laneState l := by
    rw [← hc]
    exact ⟨rfl, (a.lnkKept_put l R.LNK_STATUS_RATE rate rfl).state (by decide)⟩
  have hdef : d.toTrain1 l rate cause = c.laneTo l 2 cause := by
    rw [← hc, ← ha]
    rfl
  rw [hdef, Die.laneTo_flk l 2 cause c (by rw [hckept.2, hakept.2]; exact hold) (by decide), hckept.1, hakept.1]

/-- RECEIVER_DETECT in DETECT (R429, R430). -/
theorem State.receiverDetect_detects (s : State) (l : Nat) (hl : l < 64) (hst : s.die.laneState l = 1) (hmode : s.die.on R.LNK_CONTROL_MODE l = false) :
    s.laneGoes (.receiverDetect l) l (fun e => e.flk = s.die.flk
      ∧ (s.die.slowest l < s.die.attemptRate l → e.laneState l = 5 ∧ e.lane l = s.die.lane l)
      ∧ (s.die.attemptRate l ≤ s.die.slowest l → e.laneState l = 2 ∧ e.lane l = { (s.die.lane l).fresh with rdTx := false, preset := s.die.presetOf l }
          ∧ e.get R.LNK_STATUS_RATE l = s.die.attemptRate l % 8)) := by
  have hgo {f : Die} (hf : (if s.die.slowest l < s.die.attemptRate l then s.die.laneTo l 5 6 else s.die.toTrain1 l (s.die.attemptRate l) 6) = f) :
      exec (.receiverDetect l) s = .next { s with die := f } := by
    have hexec : exec (.receiverDetect l) s = dieCmd (decide (l < 64)) (fun s =>
      if s.die.laneState l = 1 ∧ s.die.on R.LNK_CONTROL_MODE l = false then
        if s.die.slowest l < s.die.attemptRate l then s.die.laneTo l 5 6 else s.die.toTrain1 l (s.die.attemptRate l) 6
      else s.die) s := rfl
    rw [hexec, dieCmd, decide_eq_true hl, if_pos rfl, if_pos ⟨hst, hmode⟩, hf]
  by_cases hslow : s.die.slowest l < s.die.attemptRate l
  · obtain ⟨hstate, hlanes, -⟩ := Die.laneTo_moves hl 5 6 (by decide) s.die
    refine State.laneGoes_of (hgo (if_pos hslow)) (s.die.laneOnly_laneTo l 5 6) ⟨s.die.laneTo_flk l 5 6 (by rw [hst]; decide) (by decide),
      fun _ => ⟨hstate, Die.lane_of_lanes hlanes l⟩, fun h => absurd hslow (by omega)⟩
  · obtain ⟨hstate, hlane, hrate, -⟩ := Die.toTrain1_trains hl (s.die.attemptRate l) 6 s.die _ rfl
    refine State.laneGoes_of (hgo (if_neg hslow)) (s.die.laneOnly_toTrain1 l _ 6) ⟨s.die.toTrain1_flk hl _ 6 (by rw [hst]; decide),
      fun h => absurd h hslow, fun _ => ⟨hstate, ?_, hrate⟩⟩
    rw [hlane, hst]
    rfl

/-- A lane that enters ACTIVE, before its JOIN (R429, R434, R440). -/
theorem Die.nowActive_enters {l : Nat} (hl : l < 64) (d : Die) : (d.nowActive l).laneState l = 4 ∧ ((d.nowActive l).lane l).attempts = 0
    ∧ ((d.nowActive l).lane l).ts2Seq = (d.lane l).ts2Seq ∧ (d.nowActive l).emits = d.emits
    ∧ d.lnkKept l [R.LNK_STATUS_RESUMED.place, R.LNK_STATUS_STATE.place] [T.LNK_R_DISCARD.off, T.LNK_B_DISCARD.off] (d.nowActive l) := by
  obtain ⟨same, hsame⟩ : ∃ same, d.resumes l = same := ⟨_, rfl⟩
  obtain ⟨a, ha⟩ : ∃ a, d.discards l same = a := ⟨_, rfl⟩
  have hakept : d.lnkKept l [] [T.LNK_R_DISCARD.off, T.LNK_B_DISCARD.off] a ∧ a.lane l = d.lane l ∧ a.emits = d.emits := by
    rw [← ha]
    unfold Die.discards
    split
    · exact ⟨(d.lnkKept_refl l).mono (fun _ h => h) (fun _ h => absurd h List.not_mem_nil), rfl, rfl⟩
    · refine ⟨(Die.lnkKept_countBy hl T.LNK_R_DISCARD _ d rfl).trans (Die.lnkKept_countBy hl T.LNK_B_DISCARD _ _ rfl), ?_, ?_⟩
      · rw [Die.lane, (Die.report_countBy T.LNK_B_DISCARD l _ _).1, (d.report_countBy T.LNK_R_DISCARD l _).1, Die.lane]
      · rw [Die.countBy_emits, Die.countBy_emits]
  obtain ⟨b, hb⟩ : ∃ b, (a.onLane l (Lane.entered same)).flag R.LNK_STATUS_RESUMED l same = b := ⟨_, rfl⟩
  have hbkept : a.lnkKept l [R.LNK_STATUS_RESUMED.place] [] b := by
    rw [← hb]
    have hlane : a.lnkKept l [] [] (a.onLane l (Lane.entered same)) := Die.lnkKept_same l rfl rfl
    exact hlane.trans (Die.lnkKept_flag l R.LNK_STATUS_RESUMED same _ rfl)
  have hblane : b.lane l = Lane.entered same (d.lane l) := by
    rw [← hb, ← hakept.2.1]
    exact a.lane_onLane_same l (Lane.entered same)
  have hbemits : b.emits = a.emits := by
    rw [← hb]
    exact Die.put_emits _ _ _ _
  obtain ⟨hstate, hlanes, hckept⟩ := Die.laneTo_moves hl 4 6 (by decide) b
  obtain ⟨c, hc⟩ : ∃ c, b.laneTo l 4 6 = c := ⟨_, rfl⟩
  have hcemits : c.emits = b.emits := by rw [← hc, Die.laneTo_emits]
  rw [hc] at hstate hlanes hckept
  have hdef : d.nowActive l = c.firstBoundary l := by
    rw [← hc, ← hb, ← ha, ← hsame]
    rfl
  have hlast : (c.firstBoundary l).lane l = { c.lane l with lineEnd := c.boundary 2 l c.now21 c.now21 } := c.lane_onLane_same l (fun y => { y with lineEnd := c.boundary 2 l c.now21 c.now21 })
  have hfkept : c.lnkKept l [] [] (c.firstBoundary l) := Die.lnkKept_same l rfl rfl
  rw [hdef]
  refine ⟨(hfkept.state List.not_mem_nil).trans hstate, ?_, ?_, ?_, ?_⟩
  · rw [hlast, Die.lane_of_lanes hlanes l, hblane]
    rfl
  · rw [hlast, Die.lane_of_lanes hlanes l, hblane]
    rfl
  · exact (show (c.firstBoundary l).emits = c.emits from rfl).trans (hcemits.trans (hbemits.trans hakept.2.2))
  · exact (hakept.1.trans (hbkept.trans (hckept.trans hfkept))).mono (by decide) (by decide)

/-- What a lane gives to its line after it has been changed leaves its training. -/
structure Die.trainKept (l : Nat) (d f : Die) : Prop where
  attempts : (f.lane l).attempts = (d.lane l).attempts
  ts2Seq : (f.lane l).ts2Seq = (d.lane l).ts2Seq
  kept : d.lnkKept l [] [] f
  emits : d.emitsMore f

theorem Die.sendRel_trainKept (l cls : Nat) (payload : List Byte) (d : Die) : d.trainKept l (d.sendRel l cls payload) := by
  obtain ⟨e, he⟩ : ∃ e, d.onLane l (Lane.onRel cls (fun r => { r with waits := r.waits ++ [payload] })) = e := ⟨_, rfl⟩
  have hlane : (e.lane l).attempts = (d.lane l).attempts ∧ (e.lane l).ts2Seq = (d.lane l).ts2Seq := by
    rw [← he, Die.lane_onLane_same]
    unfold Lane.onRel
    split <;> exact ⟨rfl, rfl⟩
  have hsame : e.regs = d.regs ∧ e.tallies = d.tallies ∧ e.emits = d.emits := by
    rw [← he]
    exact ⟨rfl, rfl, rfl⟩
  have hrest := (e.lineTurn_goesOn l).rest
  have hturn := e.lineOnly_lineTurn l
  unfold Die.sendRel
  rw [he]
  refine ⟨?_, ?_, Die.lnkKept_same l ?_ ?_, ?_⟩
  · rw [hrest]
    exact hlane.1
  · rw [hrest]
    exact hlane.2
  · rw [hturn.frame]
    exact hsame.1
  · rw [hturn.frame]
    exact hsame.2.1
  · obtain ⟨es, hes⟩ := e.lineTurn_emitsMore l
    exact ⟨es, by rw [hes, hsame.2.2]⟩

theorem Die.sendJoin_trainKept (fu : Fused) (l : Nat) (d : Die) (h : d.parentLane = some l) : d.trainKept l (d.sendJoin fu) := by
  unfold Die.sendJoin
  split
  · exact ⟨rfl, rfl, d.lnkKept_refl l, d.emitsMore_refl⟩
  · obtain ⟨e, he⟩ : ∃ e, (if d.get R.FLK_STATUS_STATE = 4 then d else d.put R.FLK_STATUS_STATE 0 1) = e := ⟨_, rfl⟩
    have hkept : d.lnkKept l [] [] e ∧ e.lane l = d.lane l ∧ e.emits = d.emits := by
      rw [← he]
      split
      · exact ⟨d.lnkKept_refl l, rfl, rfl⟩
      · exact ⟨d.lnkKept_below l R.FLK_STATUS_STATE 1 (by decide), rfl, Die.put_emits _ _ _ _⟩
    have hparent : e.parentLane = some l ∨ e.parentLane = none := by
      rw [← he]
      split
      · exact .inl h
      · exact d.parentLane_joining l h
    dsimp only
    rw [he]
    obtain ⟨hregs, hlane, hemits⟩ := hkept
    unfold Die.sendUp
    rcases hparent with hp | hp
    · rw [hp]
      have hsent := e.sendRel_trainKept l 1 (flkMsg 1 e.epoch 0 (e.joinBody fu))
      obtain ⟨es, hes⟩ := hsent.emits
      exact ⟨by rw [hsent.attempts, hlane], by rw [hsent.ts2Seq, hlane], hregs.trans hsent.kept, es, by rw [hes, hemits]⟩
    · rw [hp]
      exact ⟨by rw [hlane], by rw [hlane], hregs, [], by rw [hemits, List.append_nil]⟩

/-- A lane that enters ACTIVE (R429, R434, R440). -/
theorem Die.toActive_enters {l : Nat} (hl : l < 64) (fu : Fused) (d : Die) : (d.toActive fu l).laneState l = 4 ∧ ((d.toActive fu l).lane l).attempts = 0
    ∧ ((d.toActive fu l).lane l).ts2Seq = (d.lane l).ts2Seq ∧ d.emitsMore (d.toActive fu l)
    ∧ d.lnkKept l [R.LNK_STATUS_RESUMED.place, R.LNK_STATUS_STATE.place] [T.LNK_R_DISCARD.off, T.LNK_B_DISCARD.off] (d.toActive fu l) := by
  obtain ⟨hstate, hattempts, hseq, hemits, hkept⟩ := d.nowActive_enters hl
  rw [Die.toActive_eq]
  split
  · next h =>
    have hjoin := (d.nowActive l).sendJoin_trainKept fu l h
    obtain ⟨es, hes⟩ := hjoin.emits
    exact ⟨(hjoin.kept.state List.not_mem_nil).trans hstate, hjoin.attempts.trans hattempts, hjoin.ts2Seq.trans hseq, ⟨es, by rw [hes, hemits]⟩,
      (hkept.trans hjoin.kept).mono (by decide) (by decide)⟩
  · exact ⟨hstate, hattempts, hseq, ⟨[], by rw [hemits, List.append_nil]⟩, hkept⟩

/-- The end of TRAIN1 (R431). -/
theorem Die.train1Exit_exits {l : Nat} (hl : l < 64) (d : Die) (hst : d.laneState l = 2) :
    (d.train1Exit l).laneState l = (if (8 ≤ (d.lane l).ts1Locked ∨ (d.lane l).sawTs2 = true) ∧ 16 ≤ (d.lane l).ts1Sent then 3 else 2)
      ∧ (d.train1Exit l).lane l = d.lane l ∧ (d.train1Exit l).emits = d.emits := by
  unfold Die.train1Exit
  dsimp only
  by_cases h : (8 ≤ (d.lane l).ts1Locked ∨ (d.lane l).sawTs2 = true) ∧ 16 ≤ (d.lane l).ts1Sent
  · obtain ⟨hstate, hlanes, -⟩ := Die.laneTo_moves hl 3 6 (by decide) d
    rw [if_pos ⟨hst, h⟩, if_pos h]
    exact ⟨hstate, Die.lane_of_lanes hlanes l, Die.laneTo_emits _ _ _ _⟩
  · rw [if_neg (fun k => h k.2), if_neg h]
    exact ⟨hst, rfl, rfl⟩

/-- The end of TRAIN2 (R432). -/
theorem Die.train2Exit_exits {l : Nat} (fu : Fused) (d : Die) (hst : d.laneState l = 3) (h : 4 ≤ (d.lane l).doneSent ∧ 2 ≤ (d.lane l).doneRun) :
    d.train2Exit fu l = d.toActive fu l := if_pos ⟨hst, h⟩

theorem Die.train2Exit_waits {l : Nat} (fu : Fused) (d : Die) (h : ¬ (4 ≤ (d.lane l).doneSent ∧ 2 ≤ (d.lane l).doneRun)) : d.train2Exit fu l = d :=
  if_neg (fun k => h k.2)

/-- Words that hold a training set hold no code error (R421, R431). -/
theorem lineErrs_trainingSet {id n : Nat} {w : LineWords} {bs : List Byte} (h : trainingSet id n w = some bs) : lineErrs w = 0 := by
  unfold trainingSet at h
  rw [Option.ite_none_right_eq_some] at h
  obtain ⟨⟨-, hfirst, hrest, -⟩, -⟩ := h
  refine List.length_eq_zero_iff.2 (List.filter_eq_nil_iff.2 fun o ho => ?_)
  cases hw : lineSyms w with
  | nil => rw [hw] at ho; exact absurd ho List.not_mem_nil
  | cons o₀ os =>
    rw [hw] at ho hfirst hrest
    rcases List.mem_cons.1 ho with rfl | hmem
    · obtain rfl : o = some comma := hfirst
      exact Bool.false_ne_true
    · have hsome := List.all_eq_true.1 hrest o hmem
      cases o with
      | none => exact absurd hsome Bool.false_ne_true
      | some y => exact Bool.false_ne_true

theorem lineErrs_readTs1 {w : LineWords} {x : Ts1} (h : readTs1 w = some x) : lineErrs w = 0 := by
  obtain ⟨bs, hbs, -⟩ := Option.map_eq_some_iff.1 h
  exact lineErrs_trainingSet hbs

theorem lineErrs_readTs2 {w : LineWords} {rx : BitVec 64} {x : Ts2} (h : readTs2 w rx = some x) : lineErrs w = 0 := by
  obtain ⟨bs, hbs, -⟩ := Option.map_eq_some_iff.1 h
  exact lineErrs_trainingSet hbs

theorem Die.codeErrors_clean (l : Nat) (w : LineWords) (d : Die) (h : lineErrs w = 0) : d.codeErrors l w = d := by
  unfold Die.codeErrors
  rw [h]
  exact ite_self _

/-- An error of a lane that is not in service, or that is not its 16th (R439). -/
theorem Die.laneError_counts (t : Tal) (l : Nat) (d : Die) (h : d.laneState l ≠ 4 ∨ (d.lane l).errors ≠ 15) (ht : (d.count t l).laneState l = d.laneState l) :
    d.laneError t l = (d.count t l).onLane l (fun x => { x with errors := x.errors + 1 }) := by
  have hlane : (d.count t l).lane l = d.lane l := by rw [Die.lane, (d.report_count t l).1, Die.lane]
  unfold Die.laneError
  dsimp only
  split
  · next h16 =>
    rw [Die.lane_onLane_same, hlane] at h16
    refine Die.retrainTrigger_idle l 1 _ (fun hk => ?_)
    rcases h with h | h
    · exact h (ht ▸ hk.1)
    · exact h (by simp only at h16; omega)
  · rfl

/-- What code errors leave of a lane that trains. -/
theorem Die.codeErrors_training {l : Nat} (hl : l < 64) (w : LineWords) (d : Die) (hst : d.laneState l = 2 ∨ d.laneState l = 3) :
    (d.codeErrors l w).laneState l = d.laneState l ∧ (d.codeErrors l w).lane l = { d.lane l with errors := (d.lane l).errors + lineErrs w } := by
  have hfold (n : Nat) : let f := (List.range n).foldl (fun d _ => d.laneError T.LNK_CODE_ERR l) d
      f.laneState l = d.laneState l ∧ f.lane l = { d.lane l with errors := (d.lane l).errors + n } := by
    induction n with
    | zero => exact ⟨rfl, rfl⟩
    | succ n ih =>
      rw [List.range_succ, List.foldl_append]
      obtain ⟨f, hf⟩ : ∃ f, (List.range n).foldl (fun d _ => d.laneError T.LNK_CODE_ERR l) d = f := ⟨_, rfl⟩
      rw [hf] at ih ⊢
      obtain ⟨hstate, hlane⟩ := ih
      have hcount : (f.count T.LNK_CODE_ERR l).laneState l = f.laneState l := (Die.lnkKept_count hl T.LNK_CODE_ERR f rfl).state List.not_mem_nil
      have hstep : (f.laneError T.LNK_CODE_ERR l) = (f.count T.LNK_CODE_ERR l).onLane l (fun x => { x with errors := x.errors + 1 }) :=
        f.laneError_counts T.LNK_CODE_ERR l (.inl (by rw [hstate]; omega)) hcount
      simp only [List.foldl_cons, List.foldl_nil]
      rw [hstep]
      refine ⟨(show _ = (f.count T.LNK_CODE_ERR l).laneState l from rfl).trans (hcount.trans hstate), ?_⟩
      rw [Die.lane_onLane_same]
      have hsame : (f.count T.LNK_CODE_ERR l).lane l = f.lane l := by rw [Die.lane, (f.report_count T.LNK_CODE_ERR l).1, Die.lane]
      rw [hsame, hlane]
      rfl
  unfold Die.codeErrors
  rw [if_pos (by rcases hst with h | h <;> rw [Die.receiving, h] <;> rfl)]
  exact hfold (lineErrs w)

/-- What a TS1 and words that hold none do (R421, R431, R439). -/
def Die.ts1In (l : Nat) (w : LineWords) (d : Die) : Die :=
  let d := d.codeErrors l w
  let st := d.laneState l
  if st = 2 ∨ st = 3 ∨ st = 4 then
    match readTs1 w with
    | none => d.onLane l Lane.noSet
    | some x =>
    if x.crcOk = false then (d.laneError T.LNK_CRC_ERR l).onLane l (fun y => { y with ts1Run := 0, ts1Locked := 0 })
    else if st = 2 then
      let ok := x.rate == d.get R.LNK_STATUS_RATE l
      let d := d.onLane l (fun y =>
        let run := if ok then y.ts1Run + 1 else 0
        { y with ts1Run := run, locked := y.locked || decide (8 ≤ run), ts1Locked := if x.locked then y.ts1Locked + 1 else 0 })
      d.train1Exit l
    else
      let d := d.onLane l (fun y => { y with ts1Run := y.ts1Run + 1 })
      if 4 ≤ (d.lane l).ts1Run then
        (if st = 4 then d.beginRetrain l 6 else d.toTrain1 l (d.get R.LNK_STATUS_RATE l) 6)
      else d
  else d

theorem State.ts1_goes (s : State) (l : Nat) (hl : l < 64) (w : LineWords) {f : Die} {P : Die → Prop} (hf : s.die.ts1In l w = f) (h : s.die.laneOnly l f) (hP : P f) :
    s.laneGoes (.ts1 l w) l P :=
  s.lane_goes (.ts1 l w) l hl (Die.ts1In l w) rfl (hf ▸ h) (hf ▸ hP)

/-- What a TS1 of TRAIN1 leaves of its lane (R431). -/
def Lane.withTs1 (rate : Nat) (x : Ts1) (y : Lane) : Lane :=
  { y with ts1Run := if x.rate = rate then y.ts1Run + 1 else 0, locked := y.locked || decide (8 ≤ if x.rate = rate then y.ts1Run + 1 else 0)
           ts1Locked := if x.locked then y.ts1Locked + 1 else 0 }

theorem State.ts1_train1 (s : State) (l : Nat) (hl : l < 64) (w : LineWords) (x : Ts1) (hw : readTs1 w = some x) (hcrc : x.crcOk = true) (hst : s.die.laneState l = 2) :
    s.laneGoes (.ts1 l w) l (fun e => e.lane l = (s.die.lane l).withTs1 (s.die.get R.LNK_STATUS_RATE l) x
      ∧ e.laneState l = if (8 ≤ (if x.locked then (s.die.lane l).ts1Locked + 1 else 0) ∨ (s.die.lane l).sawTs2 = true) ∧ 16 ≤ (s.die.lane l).ts1Sent then 3 else 2) := by
  obtain ⟨f, hf⟩ : ∃ f, s.die.onLane l (Lane.withTs1 (s.die.get R.LNK_STATUS_RATE l) x) = f := ⟨_, rfl⟩
  have hlane : f.lane l = (s.die.lane l).withTs1 (s.die.get R.LNK_STATUS_RATE l) x := by rw [← hf, Die.lane_onLane_same]
  have hstate : f.laneState l = 2 := by rw [← hst, ← hf]; rfl
  have honly : s.die.laneOnly l f := by rw [← hf]; exact s.die.laneOnly_onLane l _
  have hact : s.die.ts1In l w = f.train1Exit l := by
    unfold Die.ts1In
    rw [Die.codeErrors_clean l w s.die (lineErrs_readTs1 hw)]
    dsimp only
    rw [if_pos (.inl hst), hw]
    dsimp only
    rw [if_neg (by rw [hcrc]; decide), if_pos hst, ← hf]
    simp only [beq_iff_eq]
    rfl
  obtain ⟨hnext, hsame, -⟩ := f.train1Exit_exits hl hstate
  refine s.ts1_goes l hl w hact (honly.trans (f.laneOnly_train1Exit l)) ⟨hsame.trans hlane, ?_⟩
  rw [hnext, hlane]
  rfl

/-- A fourth TS1 in a row of a lane past TRAIN1 (R433, R439). -/
theorem Die.ts1In_fourth (l : Nat) (w : LineWords) (x : Ts1) (d : Die) (hw : readTs1 w = some x) (hcrc : x.crcOk = true) (hst : d.laneState l = 3 ∨ d.laneState l = 4)
    (hrun : 3 ≤ (d.lane l).ts1Run) (f : Die) (hf : d.onLane l (fun y => { y with ts1Run := y.ts1Run + 1 }) = f) :
    d.ts1In l w = if d.laneState l = 4 then f.beginRetrain l 6 else f.toTrain1 l (f.get R.LNK_STATUS_RATE l) 6 := by
  unfold Die.ts1In
  rw [Die.codeErrors_clean l w d (lineErrs_readTs1 hw)]
  dsimp only
  rw [if_pos (.inr hst), hw]
  dsimp only
  rw [if_neg (by rw [hcrc]; decide), if_neg (by omega), hf, if_pos]
  rw [← hf, Die.lane_onLane_same]
  exact Nat.succ_le_succ hrun

theorem State.ts1_train2 (s : State) (l : Nat) (hl : l < 64) (w : LineWords) (x : Ts1) (hw : readTs1 w = some x) (hcrc : x.crcOk = true) (hst : s.die.laneState l = 3)
    (hrun : 3 ≤ (s.die.lane l).ts1Run) :
    s.laneGoes (.ts1 l w) l (fun e => e.laneState l = 2 ∧ e.get R.LNK_STATUS_RATE l = s.die.get R.LNK_STATUS_RATE l % 8
      ∧ e.lane l = { (s.die.lane l).fresh with preset := s.die.presetOf l }) := by
  obtain ⟨f, hf⟩ : ∃ f, s.die.onLane l (fun y => { y with ts1Run := y.ts1Run + 1 }) = f := ⟨_, rfl⟩
  have hlane : f.lane l = { s.die.lane l with ts1Run := (s.die.lane l).ts1Run + 1 } := by rw [← hf, Die.lane_onLane_same]
  have hregs : f.regs = s.die.regs := by rw [← hf]; rfl
  have honly : s.die.laneOnly l f := by rw [← hf]; exact s.die.laneOnly_onLane l _
  have hkept : s.die.lnkKept l [] [] f := Die.lnkKept_same l hregs (by rw [← hf]; rfl)
  have hact := s.die.ts1In_fourth l w x hw hcrc (.inl hst) hrun f hf
  rw [if_neg (by omega)] at hact
  obtain ⟨hstate, hafter, hrate, -⟩ := Die.toTrain1_trains hl (f.get R.LNK_STATUS_RATE l) 6 f _ rfl
  refine s.ts1_goes l hl w hact (honly.trans (f.laneOnly_toTrain1 l _ 6)) ⟨hstate, ?_, ?_⟩
  · rw [hrate, hkept.regs R.LNK_STATUS_RATE rfl (by decide) (by decide) List.not_mem_nil]
  · rw [hafter, hlane, hkept.state List.not_mem_nil, hst, hkept.preset List.not_mem_nil List.not_mem_nil]
    rfl

theorem State.ts1_active (s : State) (l : Nat) (hl : l < 64) (w : LineWords) (x : Ts1) (hw : readTs1 w = some x) (hcrc : x.crcOk = true) (hst : s.die.laneState l = 4)
    (hrun : 3 ≤ (s.die.lane l).ts1Run) : s.laneGoes (.ts1 l w) l (fun e => s.die.retrains e l) := by
  obtain ⟨f, hf⟩ : ∃ f, s.die.onLane l (fun y => { y with ts1Run := y.ts1Run + 1 }) = f := ⟨_, rfl⟩
  have honly : s.die.laneOnly l f := by rw [← hf]; exact s.die.laneOnly_onLane l _
  have hkept : s.die.lnkKept l [] [] f := Die.lnkKept_same l (by rw [← hf]; rfl) (by rw [← hf]; rfl)
  have hact := s.die.ts1In_fourth l w x hw hcrc (.inr hst) hrun f hf
  rw [if_pos hst] at hact
  obtain ⟨⟨hstate, hdefer, hrate, htally⟩, -⟩ := Die.beginRetrain_begins hl 6 f _ rfl
  refine s.ts1_goes l hl w hact (honly.trans (f.laneOnly_beginRetrain l 6)) ⟨hstate, hdefer, ?_, ?_⟩
  · rw [hrate, hkept.regs R.LNK_STATUS_RATE rfl (by decide) (by decide) List.not_mem_nil]
  · rw [htally, hkept.tals T.LNK_RETRAINS rfl (by decide) List.not_mem_nil]

/-- A TS1 with a bad CRC counts (R421, R439). -/
theorem State.ts1_badCrc (s : State) (l : Nat) (hl : l < 64) (w : LineWords) (x : Ts1) (hw : readTs1 w = some x) (hcrc : x.crcOk = false) (hst : s.die.laneState l = 2) :
    s.laneGoes (.ts1 l w) l (fun e => e.laneState l = 2 ∧ e.tally T.LNK_CRC_ERR l = tallyAdd (s.die.tally T.LNK_CRC_ERR l) 1
      ∧ (e.lane l).ts1Run = 0 ∧ (e.lane l).ts1Locked = 0) := by
  obtain ⟨f, hf⟩ : ∃ f, s.die.count T.LNK_CRC_ERR l = f := ⟨_, rfl⟩
  have hstate : f.laneState l = s.die.laneState l := by rw [← hf]; exact (Die.lnkKept_count hl T.LNK_CRC_ERR s.die rfl).state List.not_mem_nil
  have htally : f.tally T.LNK_CRC_ERR l = tallyAdd (s.die.tally T.LNK_CRC_ERR l) 1 := by rw [← hf]; exact Die.tally_lnk hl T.LNK_CRC_ERR s.die rfl (by decide)
  have honly : s.die.laneOnly l f := by rw [← hf]; exact s.die.laneOnly_count l T.LNK_CRC_ERR l
  have hact : s.die.ts1In l w = (f.onLane l (fun x => { x with errors := x.errors + 1 })).onLane l (fun y => { y with ts1Run := 0, ts1Locked := 0 }) := by
    unfold Die.ts1In
    rw [Die.codeErrors_clean l w s.die (lineErrs_readTs1 hw)]
    dsimp only
    rw [if_pos (.inl hst), hw]
    dsimp only
    rw [if_pos hcrc, s.die.laneError_counts T.LNK_CRC_ERR l (.inl (by omega)) (by rw [hf, hstate]), hf]
  refine s.ts1_goes l hl w hact (honly.trans ((f.laneOnly_onLane l _).trans (Die.laneOnly_onLane l _ _))) ⟨hstate.trans hst, htally, ?_, ?_⟩
  · rw [Die.lane_onLane_same]
  · rw [Die.lane_onLane_same]

/-- Words that hold no set break the run (R421, R431). -/
theorem State.ts1_noSet (s : State) (l : Nat) (hl : l < 64) (w : LineWords) (hw : readTs1 w = none) (hst : s.die.laneState l = 2 ∨ s.die.laneState l = 3) :
    s.laneGoes (.ts1 l w) l (fun e => e.laneState l = s.die.laneState l ∧ (e.lane l).ts1Run = 0 ∧ (e.lane l).ts1Locked = 0
      ∧ (e.lane l).errors = (s.die.lane l).errors + lineErrs w) := by
  obtain ⟨f, hf⟩ : ∃ f, s.die.codeErrors l w = f := ⟨_, rfl⟩
  obtain ⟨hstate, hlane⟩ := s.die.codeErrors_training hl w hst
  have honly := s.die.laneOnly_codeErrors l w
  rw [hf] at hstate hlane honly
  have hact : s.die.ts1In l w = f.onLane l Lane.noSet := by
    unfold Die.ts1In
    rw [hf]
    dsimp only
    rw [if_pos (by rw [hstate]; omega), hw]
  refine s.ts1_goes l hl w hact (honly.trans (f.laneOnly_onLane l _)) ⟨hstate, ?_⟩
  rw [Die.lane_onLane_same, hlane]
  exact ⟨rfl, rfl, rfl⟩

/-- A TS2 of TRAIN1 (R431). -/
theorem State.ts2_train1 (s : State) (l : Nat) (hl : l < 64) (w : LineWords) (rx : BitVec 64) (x : Ts2) (hw : readTs2 w rx = some x) (hcrc : x.crcOk = true)
    (hst : s.die.laneState l = 2) : s.laneGoes (.ts2 l ⟨w, rx⟩) l (fun e => e.lane l = { s.die.lane l with sawTs2 := true }
      ∧ e.laneState l = if 16 ≤ (s.die.lane l).ts1Sent then 3 else 2) := by
  obtain ⟨f, hf⟩ : ∃ f, s.die.onLane l (fun y => { y with sawTs2 := true }) = f := ⟨_, rfl⟩
  have hlane : f.lane l = { s.die.lane l with sawTs2 := true } := by rw [← hf, Die.lane_onLane_same]
  have hstate : f.laneState l = 2 := by rw [← hst, ← hf]; rfl
  have honly : s.die.laneOnly l f := by rw [← hf]; exact s.die.laneOnly_onLane l _
  obtain ⟨hnext, hsame, -⟩ := f.train1Exit_exits hl hstate
  have hexec : exec (.ts2 l ⟨w, rx⟩) s = .next { s with die := f.train1Exit l } := by
    change execTs2 l ⟨w, rx⟩ s = _
    unfold execTs2
    rw [dieCmd, decide_eq_true hl, if_pos rfl]
    dsimp only
    rw [Die.codeErrors_clean l w s.die (lineErrs_readTs2 hw), if_pos (.inl hst), hw]
    dsimp only
    rw [if_neg (by rw [hcrc]; decide), if_pos hst, hf]
  refine State.laneGoes_of hexec (honly.trans (f.laneOnly_train1Exit l)) ⟨hsame.trans hlane, ?_⟩
  rw [hnext, hlane]
  simp only [or_true, true_and]

/-- What a lane learns from a TS2 of TRAIN2 (R432 to R434). -/
def Lane.withTs2 (x : Ts2) (y : Lane) : Lane :=
  let y := if y.done then { y with ts2Last := some ⟨x.seq, x.echoValid, x.echoSeq, x.echoRx.toNat, x.rx.toNat⟩ } else y.sample x
  { y with doneRun := if x.done then y.doneRun + 1 else 0, gotDone := y.gotDone || x.done, resumeRx := x.resume, ts1Run := 0 }

theorem Lane.sample_run (x : Ts2) (y : Lane) : (y.sample x).doneRun = y.doneRun ∧ (y.sample x).doneSent = y.doneSent := by
  unfold Lane.sample
  dsimp only
  split
  · split
    · split <;> exact ⟨rfl, rfl⟩
    · exact ⟨rfl, rfl⟩
  · exact ⟨rfl, rfl⟩

theorem Lane.withTs2_run (x : Ts2) (y : Lane) : (y.withTs2 x).doneRun = (if x.done then y.doneRun + 1 else 0) ∧ (y.withTs2 x).doneSent = y.doneSent := by
  obtain ⟨hrun, hsent⟩ := y.sample_run x
  unfold Lane.withTs2
  split
  · exact ⟨rfl, rfl⟩
  · dsimp only
    rw [hrun]
    exact ⟨rfl, hsent⟩

/-- The delay of the lane, once its samples are complete (R433). -/
def Die.measured (l : Nat) (d : Die) : Die :=
  if (d.lane l).done = false ∧ 16 ≤ (d.lane l).samples.length then
    (d.put R.LNK_DELAY_VALUE l (low (((d.lane l).samples.take 16).foldl (· + ·) 0 / 32) 32)).onLane l (fun z => { z with done := true })
  else d

/-- The partner that a TS2 names (R432). -/
def Die.partnered (l : Nat) (x : Ts2) (d : Die) : Die :=
  (((d.put R.LNK_STATUS_CLASSES l (Nat.land x.classes (d.get R.LNK_CONTROL_CLASSES l))).put R.LNK_STATUS_PARTNER_LANE l x.lane).put
    R.LNK_STATUS_PARTNER_ROLE l x.role).putPair R.LNK_PARTNER_ID_LO R.LNK_PARTNER_ID_HI l x.deviceId.toNat

theorem Die.measured_keeps (l : Nat) (d : Die) : d.laneOnly l (d.measured l) ∧ d.lnkKept l [R.LNK_DELAY_VALUE.place] [] (d.measured l)
    ∧ ((d.measured l).lane l).doneRun = (d.lane l).doneRun ∧ ((d.measured l).lane l).doneSent = (d.lane l).doneSent := by
  unfold Die.measured
  split
  · obtain ⟨e, he⟩ : ∃ e, d.put R.LNK_DELAY_VALUE l (low (((d.lane l).samples.take 16).foldl (· + ·) 0 / 32) 32) = e := ⟨_, rfl⟩
    have honly : d.laneOnly l e := by rw [← he]; exact d.laneOnly_put l R.LNK_DELAY_VALUE l _ (.inl ⟨rfl, by decide, by decide, rfl⟩)
    have hkept : d.lnkKept l [R.LNK_DELAY_VALUE.place] [] e := by rw [← he]; exact d.lnkKept_put l R.LNK_DELAY_VALUE _ rfl
    have hlane : e.lane l = d.lane l := by rw [← he]; rfl
    have hdone : e.lnkKept l [] [] (e.onLane l (fun z => { z with done := true })) := Die.lnkKept_same l rfl rfl
    rw [he]
    refine ⟨honly.trans (e.laneOnly_onLane l _), hkept.trans hdone, ?_, ?_⟩
    · rw [Die.lane_onLane_same, hlane]
    · rw [Die.lane_onLane_same, hlane]
  · exact ⟨d.laneOnly_refl l, (d.lnkKept_refl l).mono (fun _ h => absurd h List.not_mem_nil) (fun _ h => h), rfl, rfl⟩

theorem Die.partnered_names (l : Nat) (x : Ts2) (d : Die) : d.laneOnly l (d.partnered l x) ∧ (d.partnered l x).lane l = d.lane l
    ∧ (d.partnered l x).laneState l = d.laneState l
    ∧ (d.partnered l x).get R.LNK_STATUS_CLASSES l = Nat.land x.classes (d.get R.LNK_CONTROL_CLASSES l) % 8
    ∧ (d.partnered l x).get R.LNK_STATUS_PARTNER_LANE l = x.lane % 64 ∧ (d.partnered l x).get R.LNK_STATUS_PARTNER_ROLE l = x.role % 4
    ∧ (d.partnered l x).pair64 R.LNK_PARTNER_ID_LO R.LNK_PARTNER_ID_HI l = x.deviceId.toNat := by
  obtain ⟨a, ha⟩ : ∃ a, d.put R.LNK_STATUS_CLASSES l (Nat.land x.classes (d.get R.LNK_CONTROL_CLASSES l)) = a := ⟨_, rfl⟩
  obtain ⟨b, hb⟩ : ∃ b, a.put R.LNK_STATUS_PARTNER_LANE l x.lane = b := ⟨_, rfl⟩
  obtain ⟨c, hc⟩ : ∃ c, b.put R.LNK_STATUS_PARTNER_ROLE l x.role = c := ⟨_, rfl⟩
  obtain ⟨e, he⟩ : ∃ e, c.put R.LNK_PARTNER_ID_LO l x.deviceId.toNat = e := ⟨_, rfl⟩
  obtain ⟨f, hf⟩ : ∃ f, e.put R.LNK_PARTNER_ID_HI l (x.deviceId.toNat / 2 ^ 32) = f := ⟨_, rfl⟩
  have hdef : d.partnered l x = f := by
    rw [← hf, ← he, ← hc, ← hb, ← ha]
    rfl
  have hakept : d.lnkKept l [R.LNK_STATUS_CLASSES.place] [] a := by rw [← ha]; exact d.lnkKept_put l _ _ rfl
  have hbkept : a.lnkKept l [R.LNK_STATUS_PARTNER_LANE.place] [] b := by rw [← hb]; exact a.lnkKept_put l _ _ rfl
  have hckept : b.lnkKept l [R.LNK_STATUS_PARTNER_ROLE.place] [] c := by rw [← hc]; exact b.lnkKept_put l _ _ rfl
  have hekept : c.lnkKept l [R.LNK_PARTNER_ID_LO.place] [] e := by rw [← he]; exact c.lnkKept_put l _ _ rfl
  have hfkept : e.lnkKept l [R.LNK_PARTNER_ID_HI.place] [] f := by rw [← hf]; exact e.lnkKept_put l _ _ rfl
  have hclasses : a.get R.LNK_STATUS_CLASSES l = Nat.land x.classes (d.get R.LNK_CONTROL_CLASSES l) % 8 := by rw [← ha]; exact Die.get_put_same _ _ _ _
  have hplane : b.get R.LNK_STATUS_PARTNER_LANE l = x.lane % 64 := by rw [← hb]; exact Die.get_put_same _ _ _ _
  have hprole : c.get R.LNK_STATUS_PARTNER_ROLE l = x.role % 4 := by rw [← hc]; exact Die.get_put_same _ _ _ _
  have hlo : e.get R.LNK_PARTNER_ID_LO l = x.deviceId.toNat % 2 ^ 32 := by rw [← he]; exact Die.get_put_same _ _ _ _
  have hhi : f.get R.LNK_PARTNER_ID_HI l = x.deviceId.toNat / 2 ^ 32 % 2 ^ 32 := by rw [← hf]; exact Die.get_put_same _ _ _ _
  rw [hdef]
  refine ⟨?_, ?_, ?_, ?_, ?_, ?_, ?_⟩
  · have honly (g : Fld) (h : g.base = 0x80000 ∧ g.off < 0x1000 ∧ g.lo < 32) (v : Nat) (d : Die) : d.laneOnly l (d.put g l v) :=
      d.laneOnly_put l g l v (.inl ⟨h.1, h.2.1, h.2.2, rfl⟩)
    rw [← hf, ← he, ← hc, ← hb, ← ha]
    exact (honly _ (by decide) _ _).trans ((honly _ (by decide) _ _).trans ((honly _ (by decide) _ _).trans ((honly _ (by decide) _ _).trans (honly _ (by decide) _ _))))
  · rw [← hf, ← he, ← hc, ← hb, ← ha]
    rfl
  · exact (hakept.trans (hbkept.trans (hckept.trans (hekept.trans hfkept)))).state (by decide)
  · exact ((hbkept.trans (hckept.trans (hekept.trans hfkept))).regs R.LNK_STATUS_CLASSES rfl (by decide) (by decide) (by decide)).trans hclasses
  · exact ((hckept.trans (hekept.trans hfkept)).regs R.LNK_STATUS_PARTNER_LANE rfl (by decide) (by decide) (by decide)).trans hplane
  · exact ((hekept.trans hfkept).regs R.LNK_STATUS_PARTNER_ROLE rfl (by decide) (by decide) (by decide)).trans hprole
  · rw [Die.pair64, hhi, hfkept.regs R.LNK_PARTNER_ID_LO rfl (by decide) (by decide) (by decide), hlo]
    have hid := x.deviceId.isLt
    omega

/-- A TS2 of TRAIN2 (R432, R433). -/
theorem State.ts2_train2 (s : State) (l : Nat) (hl : l < 64) (w : LineWords) (rx : BitVec 64) (x : Ts2) (hw : readTs2 w rx = some x) (hcrc : x.crcOk = true)
    (hst : s.die.laneState l = 3) : s.laneGoes (.ts2 l ⟨w, rx⟩) l (fun e =>
      e.get R.LNK_STATUS_CLASSES l = Nat.land x.classes (s.die.get R.LNK_CONTROL_CLASSES l) % 8
      ∧ e.get R.LNK_STATUS_PARTNER_LANE l = x.lane % 64 ∧ e.get R.LNK_STATUS_PARTNER_ROLE l = x.role % 4
      ∧ e.pair64 R.LNK_PARTNER_ID_LO R.LNK_PARTNER_ID_HI l = x.deviceId.toNat
      ∧ e.laneState l = if 4 ≤ (s.die.lane l).doneSent ∧ x.done = true ∧ 1 ≤ (s.die.lane l).doneRun then 4 else 3) := by
  obtain ⟨a, ha⟩ : ∃ a, s.die.onLane l (Lane.withTs2 x) = a := ⟨_, rfl⟩
  have halane : a.lane l = (s.die.lane l).withTs2 x := by rw [← ha, Die.lane_onLane_same]
  have hakept : s.die.lnkKept l [] [] a := Die.lnkKept_same l (by rw [← ha]; rfl) (by rw [← ha]; rfl)
  have haonly : s.die.laneOnly l a := by rw [← ha]; exact s.die.laneOnly_onLane l _
  obtain ⟨hbonly, hbkept, hbrun, hbsent⟩ := a.measured_keeps l
  obtain ⟨b, hb⟩ : ∃ b, a.measured l = b := ⟨_, rfl⟩
  rw [hb] at hbonly hbkept hbrun hbsent
  obtain ⟨hconly, hclane, hcstate, hclasses, hplane, hprole, hid⟩ := b.partnered_names l x
  obtain ⟨c, hc⟩ : ∃ c, b.partnered l x = c := ⟨_, rfl⟩
  rw [hc] at hconly hclane hcstate hclasses hplane hprole hid
  have hexec : exec (.ts2 l ⟨w, rx⟩) s = .next { s with die := c.train2Exit s.fused l } := by
    change execTs2 l ⟨w, rx⟩ s = _
    unfold execTs2
    rw [dieCmd, decide_eq_true hl, if_pos rfl]
    dsimp only
    rw [Die.codeErrors_clean l w s.die (lineErrs_readTs2 hw), if_pos (.inr (.inl hst)), hw]
    dsimp only
    rw [if_neg (by rw [hcrc]; decide), if_neg (by omega), if_pos hst, ← hc, ← hb, ← ha]
    rfl
  have hstate : c.laneState l = 3 := by rw [hcstate, hbkept.state (by decide), hakept.state List.not_mem_nil, hst]
  obtain ⟨hrun, hsent⟩ := (s.die.lane l).withTs2_run x
  have hdone : (4 ≤ (c.lane l).doneSent ∧ 2 ≤ (c.lane l).doneRun) ↔ 4 ≤ (s.die.lane l).doneSent ∧ x.done = true ∧ 1 ≤ (s.die.lane l).doneRun := by
    rw [hclane, hbrun, hbsent, halane, hrun, hsent]
    cases x.done with
    | false => simp
    | true => simp
  have hcontrol : b.get R.LNK_CONTROL_CLASSES l = s.die.get R.LNK_CONTROL_CLASSES l :=
    (hakept.trans hbkept).regs R.LNK_CONTROL_CLASSES rfl (by decide) (by decide) (by decide)
  rw [hcontrol] at hclasses
  refine State.laneGoes_of hexec (haonly.trans (hbonly.trans (hconly.trans (c.laneOnly_train2Exit s.fused l)))) ?_
  by_cases hd : 4 ≤ (s.die.lane l).doneSent ∧ x.done = true ∧ 1 ≤ (s.die.lane l).doneRun
  · obtain ⟨hnext, -, -, -, hkept⟩ := c.toActive_enters hl s.fused
    rw [Die.train2Exit_exits s.fused c hstate (hdone.2 hd), if_pos hd]
    refine ⟨?_, ?_, ?_, ?_, hnext⟩
    · rw [hkept.regs R.LNK_STATUS_CLASSES rfl (by decide) (by decide) (by decide), hclasses]
    · rw [hkept.regs R.LNK_STATUS_PARTNER_LANE rfl (by decide) (by decide) (by decide), hplane]
    · rw [hkept.regs R.LNK_STATUS_PARTNER_ROLE rfl (by decide) (by decide) (by decide), hprole]
    · rw [Die.pair64, hkept.regs R.LNK_PARTNER_ID_LO rfl (by decide) (by decide) (by decide), hkept.regs R.LNK_PARTNER_ID_HI rfl (by decide) (by decide) (by decide)]
      exact hid
  · rw [Die.train2Exit_waits s.fused c (fun h => hd (hdone.1 h)), if_neg hd]
    exact ⟨hclasses, hplane, hprole, hid, hstate⟩

/-- The set sent joins the line from the lane's running disparity (R420, R421). -/
theorem Die.putSet_sends (l : Nat) (body : List Byte) (d : Die) : .line l 0 (packWords (encodeSyms (d.lane l).rdTx (trainingSyms body)).1) ∈ (d.putSet l body).emits
    ∧ (d.putSet l body).lane l = { d.lane l with rdTx := (encodeSyms (d.lane l).rdTx (trainingSyms body)).2 }
    ∧ (d.putSet l body).laneState l = d.laneState l ∧ d.laneOnly l (d.putSet l body) := by
  obtain ⟨rd, hrd⟩ : ∃ rd, (encodeSyms (d.lane l).rdTx (trainingSyms body)).2 = rd := ⟨_, rfl⟩
  unfold Die.putSet
  dsimp only
  rw [hrd]
  exact ⟨List.mem_append_right _ (List.mem_singleton.2 rfl), d.lane_onLane_same l (fun x => { x with rdTx := rd }), rfl,
    (d.laneOnly_onLane l (fun x => { x with rdTx := rd })).trans (Die.laneOnly_traced l (Die.traced_emit _ _))⟩

theorem State.trainingSetSent_train1 (s : State) (l : Nat) (hl : l < 64) (cap : Capture) (hst : s.die.laneState l = 2) :
    s.laneGoes (.trainingSetSent l cap) l (fun e =>
      .line l 0 (packWords (encodeSyms (s.die.lane l).rdTx (trainingSyms (s.die.ts1Out l))).1) ∈ e.emits
      ∧ e.lane l = { s.die.lane l with ts1Sent := if (s.die.lane l).locked then (s.die.lane l).ts1Sent + 1 else (s.die.lane l).ts1Sent
                                       rdTx := (encodeSyms (s.die.lane l).rdTx (trainingSyms (s.die.ts1Out l))).2 }
      ∧ e.laneState l = if (8 ≤ (s.die.lane l).ts1Locked ∨ (s.die.lane l).sawTs2 = true)
          ∧ 16 ≤ (if (s.die.lane l).locked then (s.die.lane l).ts1Sent + 1 else (s.die.lane l).ts1Sent) then 3 else 2) := by
  obtain ⟨hmem, hlane, hstate, honly⟩ := s.die.putSet_sends l (s.die.ts1Out l)
  obtain ⟨a, ha⟩ : ∃ a, s.die.putSet l (s.die.ts1Out l) = a := ⟨_, rfl⟩
  rw [ha] at hmem hlane hstate honly
  obtain ⟨f, hf⟩ : ∃ f, a.onLane l (fun x => { x with ts1Sent := if x.locked then x.ts1Sent + 1 else x.ts1Sent }) = f := ⟨_, rfl⟩
  have hfstate : f.laneState l = 2 := by rw [← hst, ← hstate, ← hf]; rfl
  have hflane : f.lane l = { s.die.lane l with ts1Sent := if (s.die.lane l).locked then (s.die.lane l).ts1Sent + 1 else (s.die.lane l).ts1Sent
                                               rdTx := (encodeSyms (s.die.lane l).rdTx (trainingSyms (s.die.ts1Out l))).2 } := by
    rw [← hf, Die.lane_onLane_same, hlane]
  have hfemits : f.emits = a.emits := by rw [← hf]; rfl
  have hfonly : a.laneOnly l f := by rw [← hf]; exact a.laneOnly_onLane l _
  obtain ⟨hnext, hsame, hemits⟩ := f.train1Exit_exits hl hfstate
  have hexec : exec (.trainingSetSent l cap) s = .next { s with die := f.train1Exit l } := by
    change execTrainingSetSent l cap s = _
    unfold execTrainingSetSent
    rw [dieCmd, decide_eq_true hl, if_pos rfl]
    dsimp only
    rw [if_pos hst, ha, hf]
  refine State.laneGoes_of hexec (honly.trans (hfonly.trans (f.laneOnly_train1Exit l))) ⟨?_, hsame.trans hflane, ?_⟩
  · rw [hemits, hfemits]
    exact hmem
  · rw [hnext, hflane]

/-- What a TS2 sent leaves of its lane (R432, R433). -/
def Lane.sentTs2 (t : Nat) (x : Lane) : Lane :=
  { x with ts2Tx := x.ts2Tx.filter (fun y => y.1 != x.ts2Seq) ++ [(x.ts2Seq, t)], ts2Seq := (x.ts2Seq + 1) % 256
           doneSent := if x.done then x.doneSent + 1 else x.doneSent }

theorem State.trainingSetSent_train2 (s : State) (l : Nat) (hl : l < 64) (cap : Capture) (hst : s.die.laneState l = 3) :
    s.laneGoes (.trainingSetSent l cap) l (fun e =>
      let sent := if (s.die.lane l).done then (s.die.lane l).doneSent + 1 else (s.die.lane l).doneSent
      .line l 0 (packWords (encodeSyms (s.die.lane l).rdTx (trainingSyms (s.die.ts2Out s.fused l))).1) ∈ e.emits
      ∧ (e.lane l).ts2Seq = ((s.die.lane l).ts2Seq + 1) % 256
      ∧ ((sent < 4 ∨ (s.die.lane l).doneRun < 2) → e.laneState l = 3 ∧ (e.lane l).doneSent = sent
          ∧ ((s.die.lane l).ts2Seq, s.cel.capFc (122 + l) true cap) ∈ (e.lane l).ts2Tx)
      ∧ (4 ≤ sent → 2 ≤ (s.die.lane l).doneRun → e.laneState l = 4)) := by
  obtain ⟨hmem, hlane, hstate, honly⟩ := s.die.putSet_sends l (s.die.ts2Out s.fused l)
  obtain ⟨a, ha⟩ : ∃ a, s.die.putSet l (s.die.ts2Out s.fused l) = a := ⟨_, rfl⟩
  rw [ha] at hmem hlane hstate honly
  obtain ⟨t, ht⟩ : ∃ t, s.cel.capFc (122 + l) true cap = t := ⟨_, rfl⟩
  obtain ⟨f, hf⟩ : ∃ f, a.onLane l (Lane.sentTs2 t) = f := ⟨_, rfl⟩
  have hfstate : f.laneState l = 3 := by rw [← hst, ← hstate, ← hf]; rfl
  have hflane : f.lane l = (a.lane l).sentTs2 t := by rw [← hf, Die.lane_onLane_same]
  have hfemits : f.emits = a.emits := by rw [← hf]; rfl
  have hfonly : a.laneOnly l f := by rw [← hf]; exact a.laneOnly_onLane l _
  obtain ⟨sent, hsent⟩ : ∃ sent, (if (s.die.lane l).done then (s.die.lane l).doneSent + 1 else (s.die.lane l).doneSent) = sent := ⟨_, rfl⟩
  have hlaneSent : (f.lane l).doneSent = sent := by
    rw [hflane, hlane, ← hsent]
    rfl
  have hlaneRun : (f.lane l).doneRun = (s.die.lane l).doneRun := by
    rw [hflane, hlane]
    rfl
  have hseq : (f.lane l).ts2Seq = ((s.die.lane l).ts2Seq + 1) % 256 := by
    rw [hflane, hlane]
    rfl
  have htx : ((s.die.lane l).ts2Seq, t) ∈ (f.lane l).ts2Tx := by
    rw [hflane, hlane]
    exact List.mem_append_right _ (List.mem_singleton.2 rfl)
  have hexec : exec (.trainingSetSent l cap) s = .next { s with die := f.train2Exit s.fused l } := by
    change execTrainingSetSent l cap s = _
    unfold execTrainingSetSent
    rw [dieCmd, decide_eq_true hl, if_pos rfl]
    dsimp only
    rw [if_neg (by omega), if_pos hst, ha, ht, ← hf]
    rfl
  dsimp only
  rw [hsent, ht]
  refine State.laneGoes_of hexec (honly.trans (hfonly.trans (f.laneOnly_train2Exit s.fused l))) ?_
  by_cases hd : 4 ≤ sent ∧ 2 ≤ (s.die.lane l).doneRun
  · obtain ⟨hnext, -, hkeptSeq, ⟨es, hes⟩, -⟩ := f.toActive_enters hl s.fused
    rw [Die.train2Exit_exits s.fused f hfstate (by rw [hlaneSent, hlaneRun]; exact hd)]
    refine ⟨?_, hkeptSeq.trans hseq, fun h => absurd h (by omega), fun _ _ => hnext⟩
    rw [hes, hfemits]
    exact List.mem_append_left _ hmem
  · rw [Die.train2Exit_waits s.fused f (by rw [hlaneSent, hlaneRun]; exact hd)]
    exact ⟨by rw [hfemits]; exact hmem, hseq, fun _ => ⟨hfstate, hlaneSent, htx⟩, fun h k => absurd ⟨h, k⟩ hd⟩

/-- An idle word is of 16 symbols that are none of them in error (R420). -/
theorem lineErrs_idle {w : LineWords} (h : lineSyms w = idleWord.map some) : lineErrs w = 0 := by
  rw [lineErrs, h]
  rfl

theorem State.idleWord_done (s : State) (l : Nat) (hl : l < 64) (w : LineWords) (hst : s.die.laneState l = 3) (hdone : (s.die.lane l).gotDone = true)
    (hidle : lineSyms w = idleWord.map some) : s.laneGoes (.idleWord ⟨l, w⟩) l (fun e => e.laneState l = 4 ∧ (e.lane l).attempts = 0) := by
  obtain ⟨hstate, hattempts, -⟩ := s.die.toActive_enters hl s.fused
  refine State.laneGoes_of (f := s.die.toActive s.fused l) ?_ (s.die.laneOnly_toActive s.fused l) ⟨hstate, hattempts⟩
  change execIdleWord ⟨l, w⟩ s = _
  unfold execIdleWord
  rw [dieCmd, decide_eq_true hl, if_pos rfl]
  dsimp only
  rw [s.die.codeErrors_clean l w (lineErrs_idle hidle), if_pos ⟨hst, hdone, hidle⟩]

/-- A word outside frames that does not end TRAIN2 (R420, R421). -/
theorem State.idleWord_goes (s : State) (l : Nat) (hl : l < 64) (w : LineWords) {f : Die} (hf : s.die.codeErrors l w = f)
    (hno : ¬ (f.laneState l = 3 ∧ (f.lane l).gotDone = true ∧ lineSyms w = idleWord.map some)) {P : Die → Prop}
    (hP : P (f.onLane l (fun x => { x with ts1Run := 0 }))) : s.laneGoes (.idleWord ⟨l, w⟩) l P := by
  have honly : s.die.laneOnly l f := by rw [← hf]; exact s.die.laneOnly_codeErrors l w
  refine State.laneGoes_of ?_ (honly.trans (f.laneOnly_onLane l (fun x => { x with ts1Run := 0 }))) hP
  change execIdleWord ⟨l, w⟩ s = _
  unfold execIdleWord
  rw [dieCmd, decide_eq_true hl, if_pos rfl]
  dsimp only
  rw [hf, if_neg hno]

theorem State.idleWord_passes (s : State) (l : Nat) (hl : l < 64) (w : LineWords) (hclean : lineErrs w = 0)
    (hno : s.die.laneState l ≠ 3 ∨ (s.die.lane l).gotDone = false ∨ lineSyms w ≠ idleWord.map some) :
    s.laneGoes (.idleWord ⟨l, w⟩) l (fun e => e.laneState l = s.die.laneState l ∧ e.lane l = { s.die.lane l with ts1Run := 0 } ∧ e.tallies = s.die.tallies) := by
  refine s.idleWord_goes l hl w (s.die.codeErrors_clean l w hclean) ?_ ⟨rfl, s.die.lane_onLane_same l (fun x => { x with ts1Run := 0 }), rfl⟩
  rintro ⟨h3, hdone, hidle⟩
  rcases hno with h | h | h
  · exact h h3
  · rw [h] at hdone
    exact absurd hdone Bool.false_ne_true
  · exact h hidle

/-- A code error outside frames counts (R423, R439). -/
theorem State.idleWord_codeError (s : State) (l : Nat) (hl : l < 64) (w : LineWords) (herr : lineErrs w = 1)
    (hst : s.die.laneState l = 2 ∨ s.die.laneState l = 3 ∨ s.die.laneState l = 4) (hfew : (s.die.lane l).errors < 15) :
    s.laneGoes (.idleWord ⟨l, w⟩) l (fun e => e.laneState l = s.die.laneState l ∧ e.lane l = { s.die.lane l with ts1Run := 0, errors := (s.die.lane l).errors + 1 }
      ∧ e.tally T.LNK_CODE_ERR l = tallyAdd (s.die.tally T.LNK_CODE_ERR l) 1) := by
  obtain ⟨a, ha⟩ : ∃ a, s.die.count T.LNK_CODE_ERR l = a := ⟨_, rfl⟩
  have hastate : a.laneState l = s.die.laneState l := by rw [← ha]; exact (Die.lnkKept_count hl T.LNK_CODE_ERR s.die rfl).state List.not_mem_nil
  have halane : a.lane l = s.die.lane l := by rw [← ha, Die.lane, (s.die.report_count T.LNK_CODE_ERR l).1, Die.lane]
  have hatally : a.tally T.LNK_CODE_ERR l = tallyAdd (s.die.tally T.LNK_CODE_ERR l) 1 := by rw [← ha]; exact Die.tally_lnk hl T.LNK_CODE_ERR s.die rfl (by decide)
  obtain ⟨f, hf⟩ : ∃ f, a.onLane l (fun x => { x with errors := x.errors + 1 }) = f := ⟨_, rfl⟩
  have hflane : f.lane l = { s.die.lane l with errors := (s.die.lane l).errors + 1 } := by rw [← hf, Die.lane_onLane_same, halane]
  have hfstate : f.laneState l = s.die.laneState l := by rw [← hastate, ← hf]; rfl
  have hftally : f.tally T.LNK_CODE_ERR l = tallyAdd (s.die.tally T.LNK_CODE_ERR l) 1 := by rw [← hatally, ← hf]; rfl
  have hcode : s.die.codeErrors l w = f := by
    unfold Die.codeErrors
    rw [if_pos (by rcases hst with h | h | h <;> rw [Die.receiving, h] <;> rfl), herr]
    refine (s.die.laneError_counts T.LNK_CODE_ERR l (.inr (by omega)) (by rw [ha, hastate])).trans ?_
    rw [ha, hf]
  refine s.idleWord_goes l hl w hcode ?_ ⟨hfstate, ?_, hftally⟩
  · rintro ⟨-, -, hidle⟩
    rw [lineErrs_idle hidle] at herr
    exact absurd herr (by decide)
  · rw [Die.lane_onLane_same, hflane]

theorem State.train_timeouts (s : State) (l : Nat) (hl : l < 64) (c : Instr) (st : Nat) (hc : exec c s = dieCmd (decide (l < 64)) (fun s => if s.die.laneState l = st then s.die.failAttempt l 6 else s.die) s)
    (hst : s.die.laneState l = st) : s.laneGoes c l (fun e => e.tally T.LNK_ATTEMPT_FAIL l = tallyAdd (s.die.tally T.LNK_ATTEMPT_FAIL l) 1
      ∧ (e.lane l).attempts = (s.die.lane l).attempts + 1
      ∧ e.laneState l = (if s.die.slowest l < s.die.get R.LNK_CONTROL_MAXRATE l + ((s.die.lane l).attempts + 1) / 3 then 5 else 1)) := by
  obtain ⟨htally, hattempts, hstate, -⟩ := Die.failAttempt_fails hl 6 s.die _ rfl
  refine State.laneGoes_of (f := s.die.failAttempt l 6) ?_ (s.die.laneOnly_failAttempt l 6) ⟨htally, hattempts, hstate⟩
  rw [hc, dieCmd, decide_eq_true hl, if_pos rfl, if_pos hst]

/-- LINK_ABSENT ends in a new detection (R430). -/
theorem State.linkAbsentTimeout_detects (s : State) (l : Nat) (hl : l < 64) (hst : s.die.laneState l = 5) :
    s.laneGoes (.linkAbsentTimeout l) l (fun e => e.laneState l = 1 ∧ e.lane l = { s.die.lane l with attempts := 0 }) := by
  obtain ⟨a, ha⟩ : ∃ a, s.die.onLane l (fun x => { x with attempts := 0 }) = a := ⟨_, rfl⟩
  have halane : a.lane l = { s.die.lane l with attempts := 0 } := by rw [← ha, Die.lane_onLane_same]
  have haonly : s.die.laneOnly l a := by rw [← ha]; exact s.die.laneOnly_onLane l _
  obtain ⟨hstate, hlanes, -⟩ := Die.laneTo_moves hl 1 6 (by decide) a
  refine State.laneGoes_of (f := a.laneTo l 1 6) ?_ (haonly.trans (a.laneOnly_laneTo l 1 6)) ⟨hstate, (Die.lane_of_lanes hlanes l).trans halane⟩
  change execLinkAbsentTimeout l s = _
  unfold execLinkAbsentTimeout
  rw [dieCmd, decide_eq_true hl, if_pos rfl, if_pos hst, ha]

/-- Settles O35: each set or word is judged in the state the lane is in, and errors of a lane that is not in service never trigger a retrain. -/
theorem laneTrains : Obligations.LaneTrains := by
  intro s l hl
  dsimp only
  refine ⟨s.receiverDetect_detects l hl, fun w x hw hcrc => ⟨s.ts1_train1 l hl w x hw hcrc, s.ts1_train2 l hl w x hw hcrc, s.ts1_active l hl w x hw hcrc⟩,
    s.ts1_badCrc l hl, s.ts1_noSet l hl, fun w rx x hw hcrc => ⟨s.ts2_train1 l hl w rx x hw hcrc, s.ts2_train2 l hl w rx x hw hcrc⟩,
    fun cap => ⟨s.trainingSetSent_train1 l hl cap, s.trainingSetSent_train2 l hl cap⟩,
    fun w => ⟨s.idleWord_done l hl w, s.idleWord_passes l hl w, s.idleWord_codeError l hl w⟩, ?_, ?_, s.linkAbsentTimeout_detects l hl⟩
  · exact s.train_timeouts l hl (.train1Timeout l) 2 rfl
  · exact s.train_timeouts l hl (.train2Timeout l) 3 rfl

end Sys2Proof.Machine
end

section
/-! SUPPORT. A class-B number past 4,095 that a fourth expiry leaves on its way (R435, R437, R440). -/

namespace Sys2Proof.Machine

/-- A lane in service whose class B has one frame to send, under the number 5000, which no frame can carry; class R is at its fourth expiry. -/
def pastNumber : State :=
  { die := (({ up := true, fcRun := true, fc := 1000000
               lanes := [(63, { r := { out := [(4, [1])], expiries := 3 }, b := { next := 5000, waits := [[9]] } })] } : Die).put R.LNK_STATUS_STATE 63 4).put R.LNK_STATUS_CLASSES 63 7 }

/-- The frames for which a lane waits before it retrains, after a command. -/
def defersFor (c : Instr) (s : State) (l : Nat) : Option (List Nat) :=
  match exec c s with
  | .next t => some (t.die.lane l).deferFor
  | _ => none

/-- The turn of the line before the trigger sends the frame under 5000, and the trigger waits for that number, which the obligation reduces modulo 4096. -/
theorem replayTimer_pastNumber : defersFor (.replayTimer 63 1) pastNumber 63 = some [5000] := by decide +kernel

theorem pastNumber_serves : pastNumber.die.laneState 63 = 4 ∧ pastNumber.die.on R.LNK_STATUS_DEFER 63 = false := by decide +kernel

/-- Refutes O37: the state's counter of class-B frames is any natural number. At 5000 the frame that leaves with the replay timer's turn is outstanding under 5000,
and the fourth expiry waits for 5000; the obligation's deferral names the number 904 (5000 mod 4096) of the state before the turn. -/
theorem not_reliableClasses : ¬ Obligations.ReliableClasses := by
  rintro ⟨h, -⟩
  obtain ⟨-, -, -, htimer, -⟩ := h pastNumber 63 ⟨⟨false, []⟩, ⟨0, 0⟩⟩ (by decide)
  obtain ⟨t, hexec, -, -, -, -, -, -, -, hfourth⟩ := htimer 1 (.inl rfl) pastNumber_serves.1 (by decide)
  obtain ⟨-, hwaits⟩ := hfourth (by decide) pastNumber_serves.2
  obtain ⟨-, -, -, -, hmarks⟩ := hwaits (.inr (by decide))
  have hrun := replayTimer_pastNumber
  rw [defersFor, hexec] at hrun
  exact absurd (hmarks.symm.trans (Option.some.inj hrun)) (by decide)

end Sys2Proof.Machine
end

section
/-! SUPPORT. What parsers do to the links' own registers and tallies, and the frames of a lane that reach one (R53, R62, R426, R427, R442 to R446). -/

namespace Sys2Proof.Machine

/-- A count of a block above the links. -/
theorem Die.lnkKept_countAbove {l : Nat} (hl : l < 64) (t : Tal) (i : Nat) (d : Die) (hb : 0xC0000 ≤ t.base) : d.lnkKept l [] [] (d.count t i) :=
  ⟨fun g hg ho hlo _ => (d.report_count t i).get g l (lnkWord_quiet g l hl hg ho hlo),
    fun u hu ho _ => Die.tally_countBy_other t i 1 (u.key l) d (lnkTal_quiet u l hl hu ho) (by rw [Tal.key, Tal.key]; omega)⟩

/-- What parsers execute: the intake changes, and nothing of the links' own. -/
structure Die.parsing (d e : Die) : Prop where
  intake : d.intake e
  links : ∀ l, l < 64 → d.lnkKept l [] [] e

theorem Die.parsing_refl (d : Die) : d.parsing d := ⟨d.intake_refl, fun l _ => d.lnkKept_refl l⟩

theorem Die.parsing.trans {a b c : Die} (h : a.parsing b) (k : b.parsing c) : a.parsing c := ⟨h.intake.trans k.intake, fun l hl => (h.links l hl).trans (k.links l hl)⟩

theorem Die.parsing_putParser (g : Nat) (x : Parser) (d : Die) : d.parsing (d.putParser g x) := ⟨d.intake_putParser g x, fun l _ => Die.lnkKept_same l rfl rfl⟩

theorem Die.parsing_onPas (p : Nat) (f : PasSt → PasSt) (d : Die) : d.parsing (d.onPas p f) := ⟨d.intake_onPas p f, fun l _ => Die.lnkKept_same l rfl rfl⟩

theorem Die.parsing_count (t : Tal) (i : Nat) (d : Die) (hb : 0xC0000 ≤ t.base) : d.parsing (d.count t i) :=
  ⟨(d.report_count t i).intake, fun _ hl => Die.lnkKept_countAbove hl t i d hb⟩

theorem Die.parsing_ite {c : Prop} [Decidable c] {d e f : Die} (h : d.parsing e) (k : d.parsing f) : d.parsing (if c then e else f) := by
  split
  · exact h
  · exact k

theorem Die.parsing_next (g k : Nat) (d : Die) : d.parsing (d.next g k) := d.parsing_putParser g _

theorem Die.parsing_dropRec (g : Nat) (t : Tal) (d : Die) (hb : 0xC0000 ≤ t.base) : d.parsing (d.dropRec g t) :=
  Die.parsing_ite d.parsing_refl ((d.parsing_putParser g _).trans (Die.parsing_count t _ _ hb))

theorem Die.parsing_progDrop (g : Nat) (d : Die) : d.parsing (d.progDrop g) :=
  Die.parsing_ite (d.parsing_putParser g _) ((d.parsing_putParser g _).trans (Die.parsing_count T.PAS_PROG_DROP _ _ (by decide)))

theorem Die.parsing_closeRec (g : Nat) (fin : Bool) (d : Die) : d.parsing (d.closeRec g fin) := by
  unfold Die.closeRec
  dsimp only
  refine Die.parsing_ite ((d.parsing_putParser g _).trans (Die.parsing_count T.PAS_MSG_EXCESS _ _ (by decide))) (Die.parsing_ite (d.parsing_putParser g _) ?_)
  have hcount (y : Parser) := (d.parsing_putParser g y).trans (Die.parsing_count T.ING_RECORDS g _ (by decide))
  exact Die.parsing_ite ((hcount _).trans (Die.parsing_onPas _ _ _)) (hcount _)

/-- The tallies that drop a record are the pasture's (R61). -/
theorem Parser.source_tally (x : Parser) (i : PInstr) (t : Tal) (h : x.source i = .error t) : 0xC0000 ≤ t.base := by
  unfold Parser.source at h
  extract_lets a past at h
  split at h
  · rw [← Except.error.inj h]
    decide
  · split at h
    · rw [← Except.error.inj h]
      decide
    · cases h

theorem Die.parsing_withSource (g : Nat) (i : PInstr) (f : Parser → List Byte → Parser) (d : Die) : d.parsing (withSource g i f d) := by
  unfold withSource
  dsimp only
  split
  · next t ht =>
    refine Die.parsing.trans ?_ (Die.parsing_next g 1 _)
    split
    · exact d.parsing_putParser g _
    · exact d.parsing_dropRec g t (Parser.source_tally _ i t ht)
  · exact (d.parsing_putParser g _).trans (Die.parsing_next g 1 _)

theorem Die.parsing_pExec (g : Nat) (i : PInstr) (d : Die) : d.parsing (d.pExec g i) := by
  unfold Die.pExec
  split
  · exact d.parsing_next g 1
  · exact d.parsing_withSource g i _
  · exact d.parsing_withSource g i _
  · exact d.parsing_withSource g i _
  · exact d.parsing_withSource g i _
  · exact d.parsing_withSource g i _
  · exact d.parsing_next g _
  · exact d.parsing_next g _
  · exact d.parsing_withSource g i _
  · exact (d.parsing_putParser g _).trans (Die.parsing_next g 1 _)
  · exact (d.parsing_putParser g _).trans (Die.parsing_next g 1 _)
  · exact d.parsing_closeRec g false
  · exact d.parsing_closeRec g true
  · exact d.parsing_progDrop g

theorem Die.parsing_pRun (g n : Nat) (d : Die) : d.parsing (d.pRun g n) := by
  induction n generalizing d with
  | zero => exact d.parsing_refl
  | succ n ih =>
    unfold Die.pRun
    split
    · exact (d.parsing_pExec g _).trans (ih _)
    · exact d.parsing_refl

theorem Die.parsing_pEnd (g : Nat) (d : Die) : d.parsing (d.pEnd g) :=
  (Die.parsing_ite (d.parsing_progDrop g) d.parsing_refl).trans (Die.parsing_putParser g _ _)

theorem Die.parsing_lineEnds (g : Nat) (d : Die) : d.parsing (d.lineEnds g) :=
  Die.parsing_ite ((d.parsing_putParser g _).trans ((Die.parsing_pRun g 65 _).trans (Die.parsing_pEnd g _))) d.parsing_refl

theorem Die.parsing_startFrame (g : Nat) (e : SteerEnt) (frame : List Byte) (base arrived srcCode : Nat) (stamps : List Stamp) (inFc16 : Nat) (due fault : Bool) (d : Die) :
    d.parsing (d.startFrame g e frame base arrived srcCode stamps inFc16 due fault) := by
  unfold Die.startFrame
  split
  · exact d.parsing_refl
  · split
    · exact d.parsing_refl
    · exact (d.parsing_count T.ING_FRAMES g (by decide)).trans (Die.parsing_putParser g _ _)

theorem Die.lineEnds_idle (g : Nat) (d : Die) (h : (d.parser g).busy = false) : d.lineEnds g = d := if_neg (by rw [h]; exact Bool.false_ne_true)

/-- What a frame that reaches the parser of lane l leaves (R53, R62). -/
structure Die.enters (l : Nat) (k : SteerKey) (bytes : List Byte) (stamps : List Stamp) (d e : Die) : Prop where
  rows : e.rows = d.rows
  dir : e.dir = d.dir
  lanes : e.lanes = d.lanes
  links : d.lnkKept l [] [T.LNK_NO_MATCH.off] e
  starts : ∀ x im q, d.steerFor l k = some x → d.image x.pasture = some im → programOf im l x.entry.program = some q → d.inNap = false → (d.parser l).busy = false →
    let y := e.parser l
    y.busy = true ∧ y.frame = bytes ∧ y.base = 0 ∧ y.arrived = bytes.length ∧ y.pasture = x.pasture ∧ y.instrs = q.instrs ∧ y.running = true
      ∧ y.tb = x.entry.tb ∧ y.srcCode = l ∧ y.stamps = stamps
  misses : d.steerFor l k = none → d.inNap = false → (d.parser l).busy = false →
    e.tally T.LNK_NO_MATCH l = tallyAdd (d.tally T.LNK_NO_MATCH l) 1 ∧ e.parsers = d.parsers

theorem State.laneFrame_enters (s : State) (l : Nat) (hl : l < 64) (k : SteerKey) (bytes : List Byte) (cap : Capture) :
    ∃ e, s.laneFrame l k bytes l cap = { s with die := e }
      ∧ s.die.enters l k bytes (stampsOf s.die (s.cel.capFc (58 + l) false cap) (s.cel.capTb0 (58 + l) false cap)) e := by
  unfold State.laneFrame
  have hwiden {e : Die} (h : s.die.lnkKept l [] [] e) : s.die.lnkKept l [] [T.LNK_NO_MATCH.off] e := h.mono (fun _ h => h) (fun _ h => absurd h List.not_mem_nil)
  split
  · next hnap =>
    have hrep := s.die.report_count T.PWR_NAP_DROP 0
    refine ⟨_, rfl, (congrArg Die.rows hrep.1).trans rfl, (congrArg Die.dir hrep.1).trans rfl, (congrArg Die.lanes hrep.1).trans rfl, hwiden ?_, fun _ _ _ _ _ _ h => ?_, fun _ h => ?_⟩
    · exact Die.lnkKept_countBelow hl T.PWR_NAP_DROP s.die (by decide)
    · rw [h] at hnap
      exact absurd hnap Bool.false_ne_true
    · rw [h] at hnap
      exact absurd hnap Bool.false_ne_true
  · split
    · next hnone =>
      have hrep := s.die.report_count T.LNK_NO_MATCH l
      refine ⟨_, rfl, (congrArg Die.rows hrep.1).trans rfl, (congrArg Die.dir hrep.1).trans rfl, (congrArg Die.lanes hrep.1).trans rfl, Die.lnkKept_count hl T.LNK_NO_MATCH s.die rfl, fun x _ _ h => ?_, fun _ _ _ => ?_⟩
      · rw [hnone] at h
        cases h
      · exact ⟨Die.tally_lnk hl T.LNK_NO_MATCH s.die rfl (by decide), hrep.parsers⟩
    · next x hsome =>
      have hparse := (s.die.parsing_lineEnds l).trans (Die.parsing_startFrame l x bytes 0 bytes.length l
        (stampsOf s.die (s.cel.capFc (58 + l) false cap) (s.cel.capTb0 (58 + l) false cap)) (s.cel.capFc (58 + l) false cap) false false _)
      refine ⟨_, rfl, (congrArg Die.rows hparse.intake.1).trans rfl, (congrArg Die.dir hparse.intake.1).trans rfl, (congrArg Die.lanes hparse.intake.1).trans rfl, hwiden (hparse.links l hl),
        fun y im q hy him hq _ hidle => ?_, fun h => ?_⟩
      · obtain rfl : x = y := Option.some.inj (hsome.symm.trans hy)
        rw [Die.lineEnds_idle l s.die hidle]
        obtain ⟨hbusy, hframe, hbase, harrived, hpas, hinstrs, hrun, -, -, -, htb, hsrc, -, hstamps, -⟩ :=
          s.die.startFrame_begins l x bytes 0 bytes.length l (stampsOf s.die (s.cel.capFc (58 + l) false cap) (s.cel.capTb0 (58 + l) false cap))
            (s.cel.capFc (58 + l) false cap) false false im q him hq
        exact ⟨hbusy, hframe, hbase, harrived, hpas, hinstrs, hrun, htb, hsrc, hstamps⟩
      · rw [hsome] at h
        cases h

/-- What `enters` says of a die holds of one with the same steering, images, parsers and time bases that has the same NO_MATCH. -/
theorem Die.enters_before {l : Nat} {k : SteerKey} {bytes : List Byte} {fc tb0 : Nat} {a d e : Die} (h : d.enters l k bytes (stampsOf d fc tb0) e)
    (hsteer : d.steer = a.steer) (hpas : d.pas = a.pas) (hparsers : d.parsers = a.parsers) (htbs : d.tbs = a.tbs) (hnap : d.inNap = a.inNap)
    (htally : d.tally T.LNK_NO_MATCH l = a.tally T.LNK_NO_MATCH l) :
    (∀ x im q, a.steerFor l k = some x → a.image x.pasture = some im → programOf im l x.entry.program = some q → a.inNap = false → (a.parser l).busy = false →
      let y := e.parser l
      y.busy = true ∧ y.frame = bytes ∧ y.base = 0 ∧ y.arrived = bytes.length ∧ y.pasture = x.pasture ∧ y.instrs = q.instrs ∧ y.running = true
        ∧ y.tb = x.entry.tb ∧ y.srcCode = l ∧ y.stamps = stampsOf a fc tb0)
    ∧ (a.steerFor l k = none → a.inNap = false → (a.parser l).busy = false →
      e.tally T.LNK_NO_MATCH l = tallyAdd (a.tally T.LNK_NO_MATCH l) 1 ∧ e.parsers = a.parsers) := by
  have hfor : d.steerFor l k = a.steerFor l k := by unfold Die.steerFor; rw [hsteer]
  have himage (p : Nat) : d.image p = a.image p := by rw [Die.image, Die.image, Die.pasture, Die.pasture, hpas]
  have hparser : d.parser l = a.parser l := Die.parser_congr _ _ hparsers l
  have htb (n : Nat) : d.tb n = a.tb n := by rw [Die.tb, Die.tb, htbs]
  have hstamps : stampsOf d fc tb0 = stampsOf a fc tb0 := by simp only [stampsOf, Die.stampAt, htb]
  have hstarts := h.starts
  have hmisses := h.misses
  rw [hfor, hnap, hparser] at hstarts hmisses
  simp only [himage, hstamps] at hstarts
  rw [htally, hparsers] at hmisses
  exact ⟨hstarts, hmisses⟩

/-- The sequence number of an S frame (R427). -/
theorem Die.sSequence_counts {l : Nat} (hl : l < 64) (chan seq : Nat) (d : Die) :
    ∃ c, d.sSequence l chan seq = c.onLane l (fun x => { x with sExp := KMap.set none x.sExp chan (some ((seq + 1) % 256)) })
      ∧ d.report c ∧ d.lnkKept l [] [T.LNK_S_LOST.off, T.LNK_S_BACK.off] c
      ∧ (∀ n, KMap.get none (d.lane l).sExp chan = some n → 0 < sdiff 8 seq n → c.tally T.LNK_S_LOST l = tallyAdd (d.tally T.LNK_S_LOST l) (sdiff 8 seq n).toNat) := by
  refine ⟨_, rfl, ?_⟩
  have hsame : d.lnkKept l [] [T.LNK_S_LOST.off, T.LNK_S_BACK.off] d := (d.lnkKept_refl l).mono (fun _ h => h) (fun _ h => absurd h List.not_mem_nil)
  cases hexp : KMap.get none (d.lane l).sExp chan with
  | none => exact ⟨d.report_refl, hsame, fun n hn => by cases hn⟩
  | some m =>
    dsimp only
    by_cases hpos : 0 < sdiff 8 seq m
    · rw [if_pos hpos]
      refine ⟨d.report_countBy _ _ _, (Die.lnkKept_countBy hl T.LNK_S_LOST _ d rfl).mono (by decide) (by decide), fun n hn _ => ?_⟩
      obtain rfl := Option.some.inj hn
      exact Die.tally_countBy_same T.LNK_S_LOST l _ d (lnkTal_quiet T.LNK_S_LOST l hl rfl (by decide))
    · rw [if_neg hpos]
      refine ⟨?_, ?_, fun n hn h => ?_⟩
      · split
        · exact d.report_count _ _
        · exact d.report_refl
      · split
        · exact (Die.lnkKept_count hl T.LNK_S_BACK d rfl).mono (by decide) (by decide)
        · exact hsame
      · obtain rfl := Option.some.inj hn
        exact absurd h hpos

/-- An S frame of a lane outside the flock (R53, R62, R426, R427). -/
theorem State.sFrame_enters (s : State) (l : Nat) (hl : l < 64) (f : LinkFrame) (hcheck : s.die.checkFrame l f = (true, s.die)) (hcls : lfCls f = 0)
    (hflock : s.die.flockLane l = false) (hrole : s.die.role ≤ 1) :
    let z := frameView f
    let chan := z.h1.toNat % 64
    s.completes (.sFrame l f) (fun t => t.cel = s.cel ∧ t.kill = s.kill ∧ t.die.rows = s.die.rows ∧ t.die.dir = s.die.dir
      ∧ KMap.get none (t.die.lane l).sExp chan = some ((z.h2.toNat + 1) % 256)
      ∧ (∀ n, KMap.get none (s.die.lane l).sExp chan = some n → 0 < sdiff 8 z.h2.toNat n →
          t.die.tally T.LNK_S_LOST l = tallyAdd (s.die.tally T.LNK_S_LOST l) (sdiff 8 z.h2.toNat n).toNat)
      ∧ (∀ e im q, s.die.steerFor l (.chan chan) = some e → s.die.image e.pasture = some im → programOf im l e.entry.program = some q →
          s.die.inNap = false → (s.die.parser l).busy = false →
          let x := t.die.parser l
          x.busy = true ∧ x.frame = z.payload ∧ x.base = 0 ∧ x.arrived = z.payload.length ∧ x.pasture = e.pasture ∧ x.instrs = q.instrs ∧ x.running = true
            ∧ x.tb = e.entry.tb ∧ x.srcCode = l ∧ x.stamps = stampsOf s.die (s.cel.capFc (58 + l) false f.cap) (s.cel.capTb0 (58 + l) false f.cap))
      ∧ (s.die.steerFor l (.chan chan) = none → s.die.inNap = false → (s.die.parser l).busy = false →
          t.die.tally T.LNK_NO_MATCH l = tallyAdd (s.die.tally T.LNK_NO_MATCH l) 1 ∧ t.die.parsers = s.die.parsers)) := by
  intro z chan
  obtain ⟨a, ha⟩ : ∃ a, s.die.onLane l Lane.noSet = a := ⟨_, rfl⟩
  have hakept : s.die.lnkKept l [] [] a := Die.lnkKept_same l (by rw [← ha]; rfl) (by rw [← ha]; rfl)
  obtain ⟨c, hseq, hrep, hckept, hlost⟩ := a.sSequence_counts hl chan z.h2.toNat
  obtain ⟨d, hd⟩ : ∃ d, c.onLane l (fun x => { x with sExp := KMap.set none x.sExp chan (some ((z.h2.toNat + 1) % 256)) }) = d := ⟨_, rfl⟩
  rw [hd] at hseq
  have hdkept : c.lnkKept l [] [] d := Die.lnkKept_same l (by rw [← hd]; rfl) (by rw [← hd]; rfl)
  obtain ⟨e, he, henters⟩ := State.laneFrame_enters { s with die := d } l hl (.chan chan) z.payload f.cap
  have hget (g : Fld) (i : Nat) (hg : reportWord (g.key i / 32) = false) : d.get g i = s.die.get g i := by
    rw [← hd]
    exact (hrep.get g i hg).trans (by rw [← ha]; rfl)
  have hdrole : d.role = s.die.role := hget _ _ (by decide)
  have hlevel : d.level = s.die.level := hget _ _ (by decide)
  have htail : d.isTail = s.die.isTail := congrArg (· == 1) (hget R.FLK_ROLE_HALF 0 (by decide))
  have hflockLane : d.flockLane l = false := by
    rw [← hflock]
    unfold Die.flockLane Die.parentLanes Die.childLanes Die.isTop
    rw [hdrole, hlevel, htail]
  have hframe : State.sFrame l f { s with die := a } = State.laneFrame l (.chan chan) z.payload l f.cap { s with die := d } := by
    unfold State.sFrame
    dsimp only
    rw [hseq, if_neg (by rw [hflockLane]; exact fun h => Bool.false_ne_true h.1), if_neg (by rw [hflockLane]; exact fun h => Bool.false_ne_true h.1),
      if_neg (by rw [hdrole]; omega)]
  have hexec : exec (.sFrame l f) s = .next { s with die := e } := by
    refine (guardU_ok _ _ (decide_eq_true hl)).trans (congrArg _ ?_)
    unfold State.sFrameRx Die.frameIn
    rw [hcheck]
    dsimp only
    rw [hcls, ha]
    exact (if_pos rfl).trans (hframe.trans he)
  have hlane : (d.lane l).sExp = KMap.set none (c.lane l).sExp chan (some ((z.h2.toNat + 1) % 256)) := by rw [← hd, Die.lane_onLane_same]
  have hbefore := Die.enters_before (a := s.die) henters
    (by rw [← hd]; exact ((congrArg Die.steer hrep.1).trans rfl).trans (by rw [← ha]; rfl))
    (by rw [← hd]; exact hrep.pas.trans (by rw [← ha]; rfl))
    (by rw [← hd]; exact hrep.parsers.trans (by rw [← ha]; rfl))
    (by rw [← hd]; exact ((congrArg Die.tbs hrep.1).trans rfl).trans (by rw [← ha]; rfl))
    (congrArg (· == 2) (hget R.PWR_STATUS_STATE 0 (by decide)))
    ((hakept.trans (hckept.trans hdkept)).tals T.LNK_NO_MATCH rfl (by decide) (by decide))
  refine ⟨_, hexec, rfl, rfl, ?_, ?_, ?_, ?_, hbefore.1, hbefore.2⟩
  · exact henters.rows.trans (by rw [← hd]; exact ((congrArg Die.rows hrep.1).trans rfl).trans (by rw [← ha]; rfl))
  · exact henters.dir.trans (by rw [← hd]; exact ((congrArg Die.dir hrep.1).trans rfl).trans (by rw [← ha]; rfl))
  · have hsame : e.lane l = d.lane l := Die.lane_of_lanes henters.lanes l
    change KMap.get none (e.lane l).sExp chan = _
    rw [hsame, hlane, KMap.get_set_same]
  · intro n hn hpos
    have hexp : KMap.get none (a.lane l).sExp chan = some n := by
      rw [← ha, Die.lane_onLane_same]
      exact hn
    change e.tally T.LNK_S_LOST l = _
    rw [henters.links.tals T.LNK_S_LOST rfl (by decide) (by decide), hdkept.tals T.LNK_S_LOST rfl (by decide) (by decide), hlost n hexp hpos,
      hakept.tals T.LNK_S_LOST rfl (by decide) (by decide)]

/-- A raw frame that matches its pattern (R445, R446). -/
theorem State.rawFrame_matches (s : State) (l : Nat) (hl : l < 64) (bytes : List Byte) (cap : Capture) (hst : s.die.laneState l = 7)
    (hmatch : s.die.rawMatch l (leNat bytes) = true) : s.completes (.rawFrame l bytes cap) (fun t =>
      t.cel = s.cel ∧ t.kill = s.kill ∧ t.die.lane l = { s.die.lane l with misses := 0 } ∧ t.die.laneState l = 7
      ∧ (∀ e im q, s.die.steerFor l .raw = some e → s.die.image e.pasture = some im → programOf im l e.entry.program = some q →
          s.die.inNap = false → (s.die.parser l).busy = false →
          let x := t.die.parser l
          x.busy = true ∧ x.frame = bytes ∧ x.base = 0 ∧ x.arrived = bytes.length ∧ x.pasture = e.pasture ∧ x.instrs = q.instrs ∧ x.running = true
            ∧ x.tb = e.entry.tb ∧ x.srcCode = l ∧ x.stamps = stampsOf s.die (s.cel.capFc (58 + l) false cap) (s.cel.capTb0 (58 + l) false cap))
      ∧ (s.die.steerFor l .raw = none → s.die.inNap = false → (s.die.parser l).busy = false →
          t.die.tally T.LNK_NO_MATCH l = tallyAdd (s.die.tally T.LNK_NO_MATCH l) 1 ∧ t.die.parsers = s.die.parsers)) := by
  obtain ⟨d, hd⟩ : ∃ d, s.die.onLane l (fun x => { x with misses := 0 }) = d := ⟨_, rfl⟩
  obtain ⟨e, he, henters⟩ := State.laneFrame_enters { s with die := d } l hl .raw bytes cap
  have hexec : exec (.rawFrame l bytes cap) s = .next { s with die := e } := by
    refine (guardU_ok _ _ (decide_eq_true hl)).trans (congrArg _ ?_)
    unfold State.rawFrame
    dsimp only
    rw [if_neg (not_not.2 hst), if_pos hmatch, hd, he]
  have hkept : s.die.lnkKept l [] [] d := Die.lnkKept_same l (by rw [← hd]; rfl) (by rw [← hd]; rfl)
  have hbefore := Die.enters_before (a := s.die) henters (by rw [← hd]; rfl) (by rw [← hd]; rfl) (by rw [← hd]; rfl) (by rw [← hd]; rfl) (by rw [← hd]; rfl)
    (hkept.tals T.LNK_NO_MATCH rfl (by decide) List.not_mem_nil)
  have hlane : e.lane l = d.lane l := Die.lane_of_lanes henters.lanes l
  refine ⟨_, hexec, rfl, rfl, hlane.trans ?_, (henters.links.state List.not_mem_nil).trans ((hkept.state List.not_mem_nil).trans hst), hbefore.1, hbefore.2⟩
  rw [← hd, Die.lane_onLane_same]

/-- A raw frame that does not match counts, and the fourth in a row ends LOCKED (R446). -/
theorem State.rawFrame_differs (s : State) (l : Nat) (hl : l < 64) (bytes : List Byte) (cap : Capture) (hst : s.die.laneState l = 7)
    (hmatch : s.die.rawMatch l (leNat bytes) = false) : s.laneGoes (.rawFrame l bytes cap) l (fun e =>
      e.tally T.LNK_FRAME_ERR l = tallyAdd (s.die.tally T.LNK_FRAME_ERR l) 1
      ∧ ((s.die.lane l).misses < 3 → e.laneState l = 7 ∧ e.lane l = { s.die.lane l with misses := (s.die.lane l).misses + 1 })
      ∧ (3 ≤ (s.die.lane l).misses → e.laneState l = 6 ∧ e.tally T.LNK_RAW_UNLOCK l = tallyAdd (s.die.tally T.LNK_RAW_UNLOCK l) 1)) := by
  obtain ⟨a, ha⟩ : ∃ a, s.die.count T.LNK_FRAME_ERR l = a := ⟨_, rfl⟩
  have hakept : s.die.lnkKept l [] [T.LNK_FRAME_ERR.off] a := by rw [← ha]; exact Die.lnkKept_count hl T.LNK_FRAME_ERR s.die rfl
  have hatally : a.tally T.LNK_FRAME_ERR l = tallyAdd (s.die.tally T.LNK_FRAME_ERR l) 1 := by rw [← ha]; exact Die.tally_lnk hl T.LNK_FRAME_ERR s.die rfl (by decide)
  have halane : a.lane l = s.die.lane l := by rw [← ha, Die.lane, (s.die.report_count T.LNK_FRAME_ERR l).1, Die.lane]
  obtain ⟨b, hb⟩ : ∃ b, a.onLane l (fun x => { x with misses := x.misses + 1 }) = b := ⟨_, rfl⟩
  have hbkept : a.lnkKept l [] [] b := Die.lnkKept_same l (by rw [← hb]; rfl) (by rw [← hb]; rfl)
  have hblane : b.lane l = { s.die.lane l with misses := (s.die.lane l).misses + 1 } := by rw [← hb, Die.lane_onLane_same, halane]
  have hbonly : s.die.laneOnly l b := by
    rw [← hb, ← ha]
    exact (s.die.laneOnly_count l T.LNK_FRAME_ERR l).trans (Die.laneOnly_onLane l _ _)
  have hgo {e : Die} (hlast : (if 4 ≤ (b.lane l).misses then { s with die := ((b.count T.LNK_RAW_UNLOCK l).onLane l (fun x => { x with runs := [], misses := 0 })).laneTo l 6 6 }
      else { s with die := b } : State) = { s with die := e }) : exec (.rawFrame l bytes cap) s = .next { s with die := e } := by
    refine (guardU_ok _ _ (decide_eq_true hl)).trans (congrArg _ ?_)
    unfold State.rawFrame
    dsimp only
    rw [if_neg (not_not.2 hst), if_neg (by rw [hmatch]; exact Bool.false_ne_true), ha, hb, hlast]
  have hmisses : (b.lane l).misses = (s.die.lane l).misses + 1 := by rw [hblane]
  by_cases hfew : (s.die.lane l).misses < 3
  · refine State.laneGoes_of (hgo (if_neg (by omega))) hbonly ⟨?_, fun _ => ⟨?_, hblane⟩, fun h => absurd hfew (by omega)⟩
    · rw [hbkept.tals T.LNK_FRAME_ERR rfl (by decide) List.not_mem_nil, hatally]
    · rw [hbkept.state List.not_mem_nil, hakept.state List.not_mem_nil, hst]
  · obtain ⟨c, hc⟩ : ∃ c, b.count T.LNK_RAW_UNLOCK l = c := ⟨_, rfl⟩
    have hckept : b.lnkKept l [] [T.LNK_RAW_UNLOCK.off] c := by rw [← hc]; exact Die.lnkKept_count hl T.LNK_RAW_UNLOCK b rfl
    have hctally : c.tally T.LNK_RAW_UNLOCK l = tallyAdd (b.tally T.LNK_RAW_UNLOCK l) 1 := by rw [← hc]; exact Die.tally_lnk hl T.LNK_RAW_UNLOCK b rfl (by decide)
    obtain ⟨e, he⟩ : ∃ e, c.onLane l (fun x => { x with runs := [], misses := 0 }) = e := ⟨_, rfl⟩
    have hekept : c.lnkKept l [] [] e := Die.lnkKept_same l (by rw [← he]; rfl) (by rw [← he]; rfl)
    have heonly : b.laneOnly l e := by
      rw [← he, ← hc]
      exact (b.laneOnly_count l T.LNK_RAW_UNLOCK l).trans (Die.laneOnly_onLane l _ _)
    obtain ⟨hstate, -, hlast⟩ := Die.laneTo_moves hl 6 6 (by decide) e
    refine State.laneGoes_of (hgo ((if_pos (by omega)).trans (by rw [hc, he]))) (hbonly.trans (heonly.trans (e.laneOnly_laneTo l 6 6)))
      ⟨?_, fun h => absurd h hfew, fun _ => ⟨hstate, ?_⟩⟩
    · rw [hlast.tals T.LNK_FRAME_ERR rfl (by decide) List.not_mem_nil, (hbkept.trans (hckept.trans hekept)).tals T.LNK_FRAME_ERR rfl (by decide) (by decide), hatally]
    · rw [hlast.tals T.LNK_RAW_UNLOCK rfl (by decide) List.not_mem_nil, hekept.tals T.LNK_RAW_UNLOCK rfl (by decide) List.not_mem_nil, hctally,
        (hakept.trans hbkept).tals T.LNK_RAW_UNLOCK rfl (by decide) (by decide)]

/-- Transitions on a raw lane begin the search (R444, R445). -/
theorem State.rawTransitions_search (s : State) (l : Nat) (hl : l < 64) (hst : s.die.laneState l = 1) (hmode : s.die.on R.LNK_CONTROL_MODE l = true) :
    s.laneGoes (.rawTransitions l) l (fun e => e.laneState l = 6 ∧ e.get R.LNK_STATUS_RATE l = s.die.get R.LNK_CONTROL_MAXRATE l % 8
      ∧ e.lane l = { s.die.lane l with runs := [], misses := 0 }) := by
  obtain ⟨a, ha⟩ : ∃ a, s.die.put R.LNK_STATUS_RATE l (s.die.get R.LNK_CONTROL_MAXRATE l) = a := ⟨_, rfl⟩
  have harate : a.get R.LNK_STATUS_RATE l = s.die.get R.LNK_CONTROL_MAXRATE l % 8 := by rw [← ha]; exact Die.get_put_same _ _ _ _
  have haonly : s.die.laneOnly l a := by rw [← ha]; exact s.die.laneOnly_put l R.LNK_STATUS_RATE l _ (.inl ⟨rfl, by decide, by decide, rfl⟩)
  have halane : a.lane l = s.die.lane l := by rw [← ha]; rfl
  obtain ⟨b, hb⟩ : ∃ b, a.onLane l (fun x => { x with runs := [], misses := 0 }) = b := ⟨_, rfl⟩
  have hblane : b.lane l = { s.die.lane l with runs := [], misses := 0 } := by rw [← hb, Die.lane_onLane_same, halane]
  have hbkept : a.lnkKept l [] [] b := Die.lnkKept_same l (by rw [← hb]; rfl) (by rw [← hb]; rfl)
  have hbonly : a.laneOnly l b := by rw [← hb]; exact a.laneOnly_onLane l _
  obtain ⟨hstate, hlanes, hkept⟩ := Die.laneTo_moves hl 6 6 (by decide) b
  have hexec : exec (.rawTransitions l) s = .next { s with die := b.laneTo l 6 6 } := by
    change execRawTransitions l s = _
    unfold execRawTransitions
    rw [dieCmd, decide_eq_true hl, if_pos rfl]
    dsimp only
    rw [if_pos ⟨hst, hmode⟩, ha, hb]
  refine State.laneGoes_of hexec (haonly.trans (hbonly.trans (b.laneOnly_laneTo l 6 6))) ⟨hstate, ?_, (Die.lane_of_lanes hlanes l).trans hblane⟩
  rw [(hbkept.trans hkept).regs R.LNK_STATUS_RATE rfl (by decide) (by decide) (by decide), harate]

theorem KMap.insert_above {α : Type} (m : KMap α) (k : Nat) (v : α) (h : ∀ x ∈ m, x.1 < k) : KMap.insert m k v = m ++ [(k, v)] := by
  induction m with
  | nil => rfl
  | cons x m ih =>
    have hx := h x List.mem_cons_self
    unfold KMap.insert
    rw [if_neg (by omega), if_neg (by omega), ih (fun y hy => h y (List.mem_cons_of_mem _ hy))]
    rfl

theorem KMap.erase_absent {α : Type} (m : KMap α) (k : Nat) (h : ∀ x ∈ m, x.1 < k) : KMap.erase m k = m :=
  List.filter_eq_self.2 fun x hx => bne_iff_ne.2 (Nat.ne_of_lt (h x hx))

/-- The runs of every offset: the offsets with a run, ascending (R444). -/
def runsOf (run : Nat → Nat) (n : Nat) : KMap Nat := ((List.range n).filter (fun o => run o != 0)).map (fun o => (o, run o))

theorem runsOf_foldl (run : Nat → Nat) (n : Nat) : (List.range n).foldl (fun m o => KMap.set 0 m o (run o)) [] = runsOf run n := by
  induction n with
  | zero => rfl
  | succ n ih =>
    have hbelow : ∀ x ∈ runsOf run n, x.1 < n := by
      intro x hx
      obtain ⟨o, ho, rfl⟩ := List.mem_map.1 hx
      exact List.mem_range.1 (List.mem_filter.1 ho).1
    rw [List.range_succ, List.foldl_append, ih, List.foldl_cons, List.foldl_nil, KMap.set]
    unfold runsOf at hbelow ⊢
    rw [List.range_succ, List.filter_append, List.map_append]
    by_cases hzero : run n = 0
    · rw [if_pos hzero, KMap.erase_absent _ _ hbelow]
      simp [hzero]
    · rw [if_neg hzero, KMap.insert_above _ _ _ hbelow]
      simp [hzero]

theorem runsOf_get (run : Nat → Nat) (n o : Nat) (h : o < n) : KMap.get 0 (runsOf run n) o = run o := by
  rw [← runsOf_foldl]
  induction n with
  | zero => exact absurd h (Nat.not_lt_zero o)
  | succ n ih =>
    rw [List.range_succ, List.foldl_append, List.foldl_cons, List.foldl_nil]
    by_cases heq : o = n
    · rw [heq, KMap.get_set_same]
    · rw [KMap.get_set_other _ _ _ _ _ heq]
      exact ih (by omega)

/-- The offsets with a run of four or more. -/
theorem runsOf_long (run : Nat → Nat) (n : Nat) :
    (runsOf run n).filter (fun y => decide (4 ≤ y.2)) = ((List.range n).filter (fun o => decide (4 ≤ run o))).map (fun o => (o, run o)) := by
  unfold runsOf
  rw [List.filter_map, List.filter_filter]
  congr 1
  refine List.filter_congr fun o _ => ?_
  by_cases h : 4 ≤ run o
  · simp [h]
    omega
  · simp [h]

/-- What a period of the search does with the offsets it finds (R444). -/
def Die.foundAt (l : Nat) (found : KMap Nat) (d : Die) : Die :=
  match found with
  | [] => d
  | [y] => ((d.put R.LNK_RAW_OFFSET_VALUE l y.1).onLane l (fun x => { x with misses := 0 })).laneTo l 7 6
  | _ => d.count T.LNK_RAW_AMBIG l

/-- A period of the search (R444). -/
theorem State.rawPeriod_searches (s : State) (l : Nat) (hl : l < 64) (v : Nat) (hst : s.die.laneState l = 6) :
    let run (o : Nat) : Nat := if s.die.rawMatch l (bits v o (s.die.get R.LNK_RAW_CFG_PBITS l)) = true then KMap.get 0 (s.die.lane l).runs o + 1 else 0
    let hits := (List.range (40 * s.die.get R.LNK_RAW_CFG_RLEN l)).filter (fun o => decide (4 ≤ run o))
    s.laneGoes (.rawPeriod l v) l (fun e => (∀ o, o < 40 * s.die.get R.LNK_RAW_CFG_RLEN l → KMap.get 0 (e.lane l).runs o = run o)
      ∧ (hits = [] → e.laneState l = 6) ∧ (∀ o, hits = [o] → e.laneState l = 7 ∧ e.get R.LNK_RAW_OFFSET_VALUE l = o % 2 ^ 13)
      ∧ (2 ≤ hits.length → e.laneState l = 6 ∧ e.tally T.LNK_RAW_AMBIG l = tallyAdd (s.die.tally T.LNK_RAW_AMBIG l) 1)) := by
  intro run hits
  obtain ⟨n, hn⟩ : ∃ n, 40 * s.die.get R.LNK_RAW_CFG_RLEN l = n := ⟨_, rfl⟩
  obtain ⟨a, ha⟩ : ∃ a, s.die.onLane l (fun x => { x with runs := runsOf run n }) = a := ⟨_, rfl⟩
  have halane : a.lane l = { s.die.lane l with runs := runsOf run n } := by rw [← ha, Die.lane_onLane_same]
  have hakept : s.die.lnkKept l [] [] a := Die.lnkKept_same l (by rw [← ha]; rfl) (by rw [← ha]; rfl)
  have haonly : s.die.laneOnly l a := by rw [← ha]; exact s.die.laneOnly_onLane l _
  have hastate : a.laneState l = 6 := (hakept.state List.not_mem_nil).trans hst
  have hruns (e : Die) (he : (e.lane l).runs = (a.lane l).runs) : ∀ o, o < n → KMap.get 0 (e.lane l).runs o = run o := by
    intro o ho
    rw [he, halane]
    exact runsOf_get run n o ho
  have hexec : exec (.rawPeriod l v) s = .next { s with die := a.foundAt l (hits.map (fun o => (o, run o))) } := by
    change execRawPeriod l v s = _
    unfold execRawPeriod
    rw [dieCmd, decide_eq_true hl, if_pos rfl]
    dsimp only
    have hfold := runsOf_foldl run n
    dsimp only [run] at hfold
    rw [if_pos hst, hn, hfold, runsOf_long, ha]
    have hhits : hits = (List.range n).filter (fun o => decide (4 ≤ run o)) := by rw [← hn]
    rw [hhits]
    rfl
  rw [hn]
  clear_value hits
  match hits with
  | [] => exact State.laneGoes_of hexec haonly ⟨hruns a rfl, fun _ => hastate, fun o h => absurd h (by simp), fun h => absurd h (by simp)⟩
  | [o] =>
    obtain ⟨b, hb⟩ : ∃ b, a.put R.LNK_RAW_OFFSET_VALUE l o = b := ⟨_, rfl⟩
    have hboffset : b.get R.LNK_RAW_OFFSET_VALUE l = o % 2 ^ 13 := by rw [← hb]; exact Die.get_put_same _ _ _ _
    have hblane : b.lane l = a.lane l := by rw [← hb]; rfl
    have hbonly : a.laneOnly l b := by rw [← hb]; exact a.laneOnly_put l R.LNK_RAW_OFFSET_VALUE l _ (.inl ⟨rfl, by decide, by decide, rfl⟩)
    obtain ⟨c, hc⟩ : ∃ c, b.onLane l (fun x => { x with misses := 0 }) = c := ⟨_, rfl⟩
    have hckept : b.lnkKept l [] [] c := Die.lnkKept_same l (by rw [← hc]; rfl) (by rw [← hc]; rfl)
    have hclane : (c.lane l).runs = (a.lane l).runs := by rw [← hc, Die.lane_onLane_same, hblane]
    have hconly : b.laneOnly l c := by rw [← hc]; exact b.laneOnly_onLane l _
    obtain ⟨hstate, hlanes, hkept⟩ := Die.laneTo_moves hl 7 6 (by decide) c
    have hfound : a.foundAt l ([o].map (fun o => (o, run o))) = c.laneTo l 7 6 := by
      rw [← hc, ← hb]
      rfl
    rw [hfound] at hexec
    refine State.laneGoes_of hexec (haonly.trans (hbonly.trans (hconly.trans (c.laneOnly_laneTo l 7 6))))
      ⟨hruns _ (by rw [Die.lane_of_lanes hlanes l, hclane]), fun h => absurd h (by simp), fun u hu => ⟨hstate, ?_⟩, fun h => absurd h (by simp)⟩
    obtain rfl : o = u := by simpa using hu
    rw [(hckept.trans hkept).regs R.LNK_RAW_OFFSET_VALUE rfl (by decide) (by decide) (by decide), hboffset]
  | o :: p :: rest =>
    have hckept := Die.lnkKept_count hl T.LNK_RAW_AMBIG a rfl
    have hlane : (a.count T.LNK_RAW_AMBIG l).lane l = a.lane l := by rw [Die.lane, (a.report_count T.LNK_RAW_AMBIG l).1, Die.lane]
    have hfound : a.foundAt l ((o :: p :: rest).map (fun o => (o, run o))) = a.count T.LNK_RAW_AMBIG l := rfl
    rw [hfound] at hexec
    refine State.laneGoes_of hexec (haonly.trans (a.laneOnly_count l T.LNK_RAW_AMBIG l))
      ⟨hruns _ (by rw [hlane]), fun h => absurd h (by simp), fun u hu => absurd hu (by simp), fun _ => ⟨?_, ?_⟩⟩
    · exact (hckept.state List.not_mem_nil).trans hastate
    · rw [Die.tally_lnk hl T.LNK_RAW_AMBIG a rfl (by decide), hakept.tals T.LNK_RAW_AMBIG rfl (by decide) List.not_mem_nil]

/-- Settles O38: a frame that a lane's parser takes ends the line of the one before and starts its program, which touches nothing of the lanes. -/
theorem laneFramesEnter : Obligations.LaneFramesEnter := by
  intro s l hl
  dsimp only
  exact ⟨s.sFrame_enters l hl, s.rawFrame_matches l hl, s.rawFrame_differs l hl, s.rawTransitions_search l hl, s.rawPeriod_searches l hl⟩

end Sys2Proof.Machine
end

section
/-! SUPPORT. What the load of a quarter and the new start of its update leave alone (R142 to R146, R203, R249, R320). -/

namespace Sys2Proof.Machine

/-- `f` differs from `d` by work of loads: tiles, update states, markers, static values, and errors of stored words that reads found. -/
structure Die.reloaded (d f : Die) : Prop where
  frame : f = { d with regs := f.regs, tallies := f.tallies, loft := f.loft, host := f.host, emits := f.emits, store := f.store, ecc := f.ecc, poison := f.poison
                       ceLast := f.ceLast, shd := f.shd, free := f.free, tiles := f.tiles, upd := f.upd, lar := f.lar, pas := f.pas, eng := f.eng }
  images : ∀ p, f.image p = d.image p
  events : ∀ e p, (f.engPas e p).flight = (d.engPas e p).flight ∧ (f.engPas e p).exits = (d.engPas e p).exits ∧ (f.engPas e p).step = (d.engPas e p).step
  regs : ∀ (g : Fld) (i : Nat), reportWord (g.key i / 32) = false →
    g.key i / 32 < 0x140000 ∨ (0x188000 ≤ g.key i / 32 ∧ g.key i / 32 < 0x380000 ∧ g.key i / 32 % 0x1000 ≠ 0x810) → f.get g i = d.get g i
  tals : ∀ k, loftTally k = false → k < 0x30000 ∨ 0x31000 ≤ k → k < 0x140000 ∨ (0x188000 ≤ k ∧ k < 0x380000) → KMap.get 0 f.tallies k = KMap.get 0 d.tallies k

theorem Die.reloaded_refl (d : Die) : d.reloaded d := ⟨rfl, fun _ => rfl, fun _ _ => ⟨rfl, rfl, rfl⟩, fun _ _ _ _ => rfl, fun _ _ _ _ => rfl⟩

theorem Die.reloaded.trans {a b c : Die} (h : a.reloaded b) (k : b.reloaded c) : a.reloaded c := by
  refine ⟨?_, fun p => (k.images p).trans (h.images p), fun e p => ?_, fun g i hr hs => (k.regs g i hr hs).trans (h.regs g i hr hs),
    fun n hl hc hs => (k.tals n hl hc hs).trans (h.tals n hl hc hs)⟩
  · rw [k.frame, h.frame]
  · obtain ⟨hf, hx, hs⟩ := k.events e p
    obtain ⟨hf', hx', hs'⟩ := h.events e p
    exact ⟨hf.trans hf', hx.trans hx', hs.trans hs'⟩

theorem Die.reloaded_ite {d e f : Die} {c : Prop} [Decidable c] (h : d.reloaded e) (k : d.reloaded f) : d.reloaded (if c then e else f) := by split <;> assumption

theorem Die.reloaded_foldl {α : Type} (l : List α) (f : Die → α → Die) (hf : ∀ d, ∀ x ∈ l, Die.reloaded d (f d x)) (d : Die) : d.reloaded (l.foldl f d) := by
  induction l generalizing d with
  | nil => exact d.reloaded_refl
  | cons x xs ih => exact (hf d x List.mem_cons_self).trans (ih (fun d y hy => hf d y (List.mem_cons_of_mem _ hy)) _)

theorem Die.reloaded_erred {d f : Die} (h : d.erred f) : d.reloaded f := by
  refine ⟨?_, fun p => ?_, fun e p => ?_, fun g i hr hs => h.regs g i hr (by omega), fun n hl hc hs => h.tals n hl hc (by omega)⟩
  · rw [h.frame]
  · rw [h.frame]; rfl
  · rw [h.frame]; exact ⟨rfl, rfl, rfl⟩

/-- A change of tiles, update states, markers, or records of errors. -/
theorem Die.reloaded_of {d f : Die} (h : f = { d with ecc := f.ecc, poison := f.poison, tiles := f.tiles, upd := f.upd, lar := f.lar }) : d.reloaded f := by
  rw [h]
  exact ⟨rfl, fun _ => rfl, fun _ _ => ⟨rfl, rfl, rfl⟩, fun _ _ _ _ => rfl, fun _ _ _ _ => rfl⟩

theorem Die.reloaded_put (f : Fld) (i v : Nat) (d : Die)
    (h : (0x140000 ≤ f.key i / 32 ∧ f.key i / 32 < 0x188000) ∨ 0x380000 ≤ f.key i / 32 ∨ f.key i / 32 % 0x1000 = 0x810 ∧ 0x140000 ≤ f.key i / 32) : d.reloaded (d.put f i v) :=
  ⟨rfl, fun _ => rfl, fun _ _ => ⟨rfl, rfl, rfl⟩, fun _ _ _ hs => Die.get_put_other _ _ _ _ _ _ (by omega), fun _ _ _ _ => rfl⟩

theorem Die.reloaded_countBy (t : Tal) (i n : Nat) (d : Die) (h : (0x140000 ≤ t.key i ∧ t.key i < 0x188000) ∨ 0x380000 ≤ t.key i) : d.reloaded (d.countBy t i n) := by
  have hrep := d.report_countBy t i n
  refine ⟨?_, fun p => ?_, fun e p => ?_, fun g j hr _ => hrep.get g j hr, fun k hl _ hs => Die.tally_countBy_other t i n k d hl (by omega)⟩
  · rw [hrep.1]
  · rw [hrep.1]; rfl
  · rw [hrep.1]; exact ⟨rfl, rfl, rfl⟩

theorem Die.reloaded_onPas (p : Nat) (f : PasSt → PasSt) (d : Die) (h : ∀ x, (f x).image = x.image) : d.reloaded (d.onPas p f) := by
  refine ⟨rfl, fun q => ?_, fun _ _ => ⟨rfl, rfl, rfl⟩, fun _ _ _ _ => rfl, fun _ _ _ _ => rfl⟩
  unfold Die.image Die.pasture Die.onPas
  dsimp only
  by_cases hq : q = p
  · rw [hq, KMap.get_upd_same, h]
  · rw [KMap.get_upd_other _ _ _ _ _ hq]

theorem Die.reloaded_onEng (e p : Nat) (f : EngPas → EngPas) (d : Die) (h : ∀ x, (f x).flight = x.flight ∧ (f x).exits = x.exits ∧ (f x).step = x.step) :
    d.reloaded (d.onEng e p f) := by
  refine ⟨rfl, fun _ => rfl, fun i j => ?_, fun _ _ _ _ => rfl, fun _ _ _ _ => rfl⟩
  unfold Die.engPas Die.onEng
  dsimp only
  by_cases hq : i * 64 + j = e * 64 + p
  · rw [hq, KMap.get_upd_same]
    exact h _
  · rw [KMap.get_upd_other _ _ _ _ _ hq]
    exact ⟨rfl, rfl, rfl⟩

theorem Die.reloaded_putBeat (t b v : Nat) (bad : Bool) (d : Die) : d.reloaded (d.putBeat t b v bad) :=
  Die.reloaded_ite (Die.reloaded_of rfl) (Die.reloaded_of rfl)

theorem Die.reloaded_calEnd (p : Nat) (d : Die) : d.reloaded (d.calEnd p) := by
  unfold Die.calEnd
  refine Die.reloaded_ite d.reloaded_refl (Die.reloaded.trans ?_ (Die.reloaded_onPas p _ _ fun _ => rfl))
  refine (d.reloaded_put R.FAB_CAL_STATUS_PHASE p 0 ?_).trans (Die.reloaded_put R.FAB_CAL_STATUS_RESULT p 7 _ ?_)
  · simp only [Fld.key, R.FAB_CAL_STATUS_PHASE]; omega
  · simp only [Fld.key, R.FAB_CAL_STATUS_RESULT]; omega

theorem Die.reloaded_clearMarker (p ticket : Nat) (d : Die) : d.reloaded (d.clearMarker p ticket) := Die.reloaded_of rfl

theorem Die.reloaded_loadStore (im : Image) (scope tile : Nat) (z : TileImg) (d : Die) : d.reloaded (d.loadStore im scope tile z) := by
  unfold Die.loadStore
  extract_lets keep other a b offs
  have ha : d.reloaded b := Die.reloaded_of rfl
  refine Die.reloaded_ite ha (ha.trans (Die.reloaded_foldl _ _ (fun c y _ => ?_) b))
  dsimp only
  split
  · exact Die.reloaded_of rfl
  · exact Die.reloaded_of rfl

theorem Die.reloaded_startCtx (fu : Fused) (tile c : Nat) (cc : CtxCfg) (ht : tile < 4096) (d : Die) : d.reloaded (d.startCtx fu tile c cc) := by
  unfold Die.startCtx
  refine Die.reloaded.trans (Die.reloaded_of rfl) (Die.reloaded_foldl _ _ (fun e i _ => ?_) _)
  dsimp only
  have hread := Die.reloaded_erred (Die.erred_eccReadAll fu 1 (some tile) none (by decide) (fun t h => by cases h; exact ht)
    ((span (cc.trSrc.getD i 0) (cc.trSrc.getD i 0 + 8)).map (tsLoc tile)) e)
  exact hread.trans (Die.reloaded_of rfl)

theorem Die.reloaded_loadTile (fu : Fused) (im : Image) (scope tile : Nat) (z : TileImg) (ht : tile < 4096) (d : Die) : d.reloaded (d.loadTile fu im scope tile z) := by
  unfold Die.loadTile
  refine ((d.reloaded_loadStore im scope tile z).trans (Die.reloaded_of rfl)).trans (Die.reloaded_foldl _ _ (fun e c _ => ?_) _)
  exact e.reloaded_startCtx fu tile c _ ht

theorem Die.reloaded_writeBlock (tile saddr par : Nat) (es : List Int) (d : Die) : d.reloaded (d.writeBlock tile saddr par es) :=
  Die.reloaded_foldl _ _ (fun e _ _ => e.reloaded_putBeat _ _ _ _) d

theorem Die.reloaded_writeLane (tile qaddr l par : Nat) (sh z : Int) (d : Die) : d.reloaded (d.writeLane tile qaddr l par sh z) := by
  unfold Die.writeLane
  exact d.reloaded_putBeat _ _ _ _

theorem Die.reloaded_writeTensor (e p par : Nat) (im : Image) (t : Tensor) (es : List Int) (z : Int) (d : Die) : d.reloaded (d.writeTensor e p par im t es z) := by
  unfold Die.writeTensor
  refine Die.reloaded.trans ?_ (Die.reloaded_onEng e p _ _ fun _ => ⟨rfl, rfl, rfl⟩)
  refine Die.reloaded.trans ((Die.reloaded_foldl _ _ (fun c _ _ => c.reloaded_writeBlock _ _ _ _) d).trans (Die.reloaded_foldl _ _ (fun c _ _ => c.reloaded_writeLane _ _ _ _ _ _) _))
    (Die.reloaded_foldl _ _ (fun c b _ => ?_) _)
  refine Die.reloaded_ite ?_ c.reloaded_refl
  have hcount (t : Tal) (h : 0x380000 ≤ t.base) (n : Nat) (d : Die) : d.reloaded (d.countBy t p n) := d.reloaded_countBy t p n (.inr (by rw [Tal.key]; omega))
  exact ((hcount T.FAB_SCALE_SAT (by decide) _ _).trans ((hcount T.FAB_FLUSH_ZERO (by decide) _ _).trans (hcount T.FAB_CODE_SPECIAL (by decide) _ _))).trans
    (Die.reloaded_putBeat _ _ _ _ _)

theorem Die.reloaded_writeStatics (e p par : Nat) (im : Image) (d : Die) : d.reloaded (d.writeStatics e p par im) :=
  Die.reloaded_foldl _ _ (fun c t _ => c.reloaded_writeTensor e p par im t _ _) d

theorem Die.reloaded_loadQuarter (fu : Fused) (e q p scope : Nat) (im : Image) (ei : EngineImg) (he : e < 8) (hq : q < 4) (d : Die) :
    d.reloaded (d.loadQuarter fu e q p scope im ei) := by
  unfold Die.loadQuarter
  extract_lets tiles a b c
  have htile : ∀ t ∈ tiles, e * 512 + t < 4096 := by
    intro t ht
    obtain ⟨k, hk, rfl⟩ := List.mem_map.1 (List.mem_of_mem_filter ht)
    have hlt := List.mem_range.1 hk
    omega
  have ha : d.reloaded a := Die.reloaded_foldl _ _ (fun f t ht => by
    split
    · exact f.reloaded_loadTile fu im scope _ _ (htile t ht)
    · exact f.reloaded_loadTile fu im scope _ _ (htile t ht)) d
  have hb : a.reloaded b := (a.reloaded_onEng e p (fun g => { g with statics := [], forced := [] }) fun _ => ⟨rfl, rfl, rfl⟩).trans
    (Die.reloaded_onPas p (fun q => { q with changed := [] }) _ fun _ => rfl)
  have hc : b.reloaded c := (b.reloaded_writeStatics e p 0 im).trans (Die.reloaded_writeStatics e p 1 im _)
  have hall := ha.trans (hb.trans hc)
  refine Die.reloaded_ite (hall.trans (Die.reloaded_put _ _ _ _ ?_)) hall
  simp only [Fld.key, R.PAS_QUARANTINE_STATUS_PERSISTENT]
  omega

theorem Die.reloaded_updReset (e p : Nat) (im : Image) (adm : Bool) (he : e < 8) (d : Die) : d.reloaded (d.updReset e p im adm) := by
  unfold Die.updReset
  split
  · exact d.reloaded_refl
  · next u _ =>
    refine Die.reloaded_ite d.reloaded_refl ?_
    extract_lets a b wd
    have ha : d.reloaded a := Die.reloaded_ite d.reloaded_refl (d.reloaded_countBy T.UPD_UPD_RESET e 1 (.inl (by simp only [Tal.key, T.UPD_UPD_RESET]; omega)))
    have hc (g : UpdSt → UpdSt) : a.reloaded (b.onUpd e g) := Die.reloaded_of rfl
    have hput (g : Fld) (h : 0x140000 ≤ g.base ∧ g.base + g.off < 0x141000 ∧ g.lo < 32) (v : Nat) (f : Die) : f.reloaded (f.put g e v) :=
      f.reloaded_put g e v (.inl (by rw [Fld.key]; omega))
    exact ha.trans ((hc _).trans ((hput _ (by decide) _ _).trans ((hput _ (by decide) _ _).trans ((hput _ (by decide) _ _).trans
      ((hput R.UPD_WDIGEST_LO (by decide) _ _).trans (hput R.UPD_WDIGEST_HI (by decide) _ _))))))

end Sys2Proof.Machine
end

section
/-! SUPPORT. The end of a quiesce, of a load, and recovery (R122, R142 to R146, R203, R530). -/

namespace Sys2Proof.Machine

/-- What a load leaves of an engine's own page. -/
theorem Die.reloaded.engWord {d f : Die} (h : d.reloaded f) (g : Fld) {e : Nat} (he : e < 8) (hg : g.base = 0x100000 ∧ g.off < 0x1000 ∧ g.lo < 32) : f.get g e = d.get g e := by
  have hword : g.key e / 32 = 0x100000 + e * 0x1000 + g.off := by rw [Fld.key]; omega
  exact h.regs g e (reportWord_above (by omega) (by omega)) (by omega)

theorem Die.reloaded.engTally {d f : Die} (h : d.reloaded f) (t : Tal) {e : Nat} (he : e < 8) (ht : t.base = 0x100000 ∧ t.off < 0x1000) : f.tally t e = d.tally t e :=
  h.tals _ (loftTally_false (.inr ⟨by rw [Tal.key]; omega, .inl (by rw [Tal.key]; omega)⟩)) (by rw [Tal.key]; omega) (by rw [Tal.key]; omega)

theorem Die.reloaded.qstate {d f : Die} (h : d.reloaded f) {e : Nat} (he : e < 8) (q : Nat) : f.qstate e q = d.qstate e q := by
  rw [Die.qstate, Die.qstate, h.engWord R.ENG_STATUS_QSTATE he (by decide)]

theorem Die.reloaded.larder {d f : Die} (h : d.reloaded f) : f.rows = d.rows ∧ f.dir = d.dir ∧ f.loads = d.loads ∧ f.grants = d.grants := by
  rw [h.frame]
  exact ⟨rfl, rfl, rfl, rfl⟩

/-- The tallies of an engine's page are not of the Loft's. -/
theorem engTal_quiet (t : Tal) (e : Nat) (he : e < 8) (ht : t.base = 0x100000 ∧ t.off < 0x1000) : loftTally (t.key e) = false :=
  loftTally_false (.inr ⟨by rw [Tal.key]; omega, .inl (by rw [Tal.key]; omega)⟩)

/-- A quiesce that ends (R144). -/
theorem State.quiesceDone_quiesces (s : State) (e q p : Nat) (he : e < 8) (hq : q < 4) (howner : s.die.quarterOwner e q = some p) (hst : s.die.qstate e q = 2)
    (hclosed : KMap.get false s.die.closed (e * 4 + q) = true) (hflight : (s.die.engPas e p).flight = []) (hload : (s.die.pasture p).loading = none) :
    s.completes (.quiesceDone e q) (fun t => t = { s with die := t.die } ∧ t.die.qstate e q = 3 ∧ t.die.tiles = s.die.tiles ∧ t.die.eng = s.die.eng
      ∧ (∀ r, r < 4 → r ≠ q → t.die.qstate e r = s.die.qstate e r) ∧ t.die.tallies = s.die.tallies) := by
  have hgo : ((s.die.setQ e q 3).setBusy e).replaceGo p = (s.die.setQ e q 3).setBusy e := by
    unfold Die.replaceGo
    rw [show (((s.die.setQ e q 3).setBusy e).pasture p).loading = none from hload]
  have hexec : exec (.quiesceDone e q) s = .next { s with die := (s.die.setQ e q 3).setBusy e } := by
    change execQuiesceDone e q s = _
    unfold execQuiesceDone
    rw [dieCmd, decide_eq_true he, decide_eq_true hq]
    simp only [Bool.and_self, if_true, howner]
    rw [if_pos ⟨hst, hclosed, by rw [hflight]; rfl⟩, hgo]
  refine ⟨_, hexec, rfl, ?_, rfl, rfl, fun r hr hne => ?_, rfl⟩
  · rw [Die.qstate_setBusy, Die.qstate_setQ _ _ _ _ _ hq hq (by decide), if_pos rfl]
  · rw [Die.qstate_setBusy, Die.qstate_setQ _ _ _ _ _ hq hr (by decide), if_neg hne]

/-- The pasture, image and part of it that a quarter loads (R143). -/
def Die.loadOf (d : Die) (e q : Nat) : Option (Nat × Image × EngineImg) :=
  (d.quarterOwner e q).bind (fun p => (d.image p).bind (fun im => (engOf im e).map (fun ei => (p, im, ei))))

/-- One quarter's load ends (R143). -/
def Die.quarterLoaded (fu : Fused) (e : Nat) (part : Nat → Option (Nat × Image × EngineImg)) (d : Die) (q : Nat) : Die :=
  let scope := (KMap.get (0, 0, 0) d.loads (e * 4 + q)).2.1
  let d := { d with loads := KMap.set (0, 0, 0) d.loads (e * 4 + q) (0, 0, 0) }
  match part q with
  | none => d.setQ e q 0
  | some (p, im, ei) => (d.loadQuarter fu e q p scope im ei).setQ e q 3

/-- What the ends of loads leave: the Larder, the engine's tallies, and the quarters not among them. -/
structure Die.loadsEnd (e : Nat) (part : Nat → Option (Nat × Image × EngineImg)) (qs : List Nat) (d f : Die) : Prop where
  larder : f.rows = d.rows ∧ f.dir = d.dir
  tals : ∀ t : Tal, t.base = 0x100000 ∧ t.off < 0x1000 → f.tally t e = d.tally t e
  loads : ∀ r, r < 4 → KMap.get (0, 0, 0) f.loads (e * 4 + r) = if r ∈ qs then (0, 0, 0) else KMap.get (0, 0, 0) d.loads (e * 4 + r)
  states : ∀ r, r < 4 → f.qstate e r = if r ∈ qs then (if (part r).isSome then 3 else 0) else d.qstate e r

theorem Die.quarterLoaded_ends (fu : Fused) {e : Nat} (he : e < 8) (part : Nat → Option (Nat × Image × EngineImg)) (q : Nat) (hq : q < 4) (d : Die) :
    d.loadsEnd e part [q] (d.quarterLoaded fu e part q) := by
  obtain ⟨a, ha⟩ : ∃ a : Die, { d with loads := KMap.set (0, 0, 0) d.loads (e * 4 + q) (0, 0, 0) } = a := ⟨_, rfl⟩
  have haget (r : Nat) (hr : r < 4) : KMap.get (0, 0, 0) a.loads (e * 4 + r) = if r ∈ [q] then (0, 0, 0) else KMap.get (0, 0, 0) d.loads (e * 4 + r) := by
    rw [← ha]
    dsimp only
    by_cases hrq : r = q
    · rw [if_pos (List.mem_singleton.2 hrq), hrq, KMap.get_set_same]
    · rw [if_neg (fun h => hrq (List.mem_singleton.1 h)), KMap.get_set_other _ _ _ _ _ (by omega)]
  have hset (b : Die) (hb : a.reloaded b) (v : Nat) (hv : v < 4) (r : Nat) (hr : r < 4) : (b.setQ e q v).qstate e r = if r ∈ [q] then v else d.qstate e r := by
    have hqs : b.qstate e r = d.qstate e r := by rw [hb.qstate he r, ← ha]; rfl
    rw [Die.qstate_setQ _ _ _ _ _ hq hr hv, hqs]
    by_cases hrq : r = q
    · rw [if_pos hrq, if_pos (List.mem_singleton.2 hrq)]
    · rw [if_neg hrq, if_neg (fun h => hrq (List.mem_singleton.1 h))]
  have hends (b : Die) (hb : a.reloaded b) (v : Nat) (hv : v < 4) (hpart : (if (part q).isSome then 3 else 0) = v) : d.loadsEnd e part [q] (b.setQ e q v) := by
    obtain ⟨hrows, hdir, hloads, -⟩ := hb.larder
    refine ⟨⟨hrows.trans (by rw [← ha]), hdir.trans (by rw [← ha])⟩, fun t ht => ?_, fun r hr => ?_, fun r hr => ?_⟩
    · exact (show (b.setQ e q v).tally t e = b.tally t e from rfl).trans ((hb.engTally t he ht).trans (by rw [← ha]; rfl))
    · exact (congrArg (fun m => KMap.get (0, 0, 0) m (e * 4 + r)) hloads).trans (haget r hr)
    · rw [hset b hb v hv r hr]
      by_cases hrq : r ∈ [q]
      · rw [if_pos hrq, if_pos hrq, List.mem_singleton.1 hrq, hpart]
      · rw [if_neg hrq, if_neg hrq]
  unfold Die.quarterLoaded
  rw [ha]
  cases hpart : part q with
  | none => exact hends a a.reloaded_refl 0 (by decide) (by rw [hpart]; rfl)
  | some x => exact hends _ (a.reloaded_loadQuarter fu e q x.1 _ x.2.1 x.2.2 he hq) 3 (by decide) (by rw [hpart]; rfl)

theorem Die.quartersLoaded_end (fu : Fused) {e : Nat} (he : e < 8) (part : Nat → Option (Nat × Image × EngineImg)) (qs : List Nat) (hqs : ∀ q ∈ qs, q < 4) (d : Die) :
    d.loadsEnd e part qs (qs.foldl (Die.quarterLoaded fu e part) d) := by
  induction qs generalizing d with
  | nil => exact ⟨⟨rfl, rfl⟩, fun _ _ => rfl, fun _ _ => rfl, fun _ _ => rfl⟩
  | cons q qs ih =>
    have hone := d.quarterLoaded_ends fu he part q (hqs q List.mem_cons_self)
    have hrest := ih (fun r hr => hqs r (List.mem_cons_of_mem _ hr)) (d.quarterLoaded fu e part q)
    refine ⟨⟨hrest.larder.1.trans hone.larder.1, hrest.larder.2.trans hone.larder.2⟩, fun t ht => (hrest.tals t ht).trans (hone.tals t ht), fun r hr => ?_, fun r hr => ?_⟩
    · rw [List.foldl_cons, hrest.loads r hr, hone.loads r hr]
      by_cases hrq : r = q <;> by_cases hmem : r ∈ qs <;> simp [hrq, hmem]
    · rw [List.foldl_cons, hrest.states r hr, hone.states r hr]
      by_cases hrq : r = q <;> by_cases hmem : r ∈ qs <;> simp [hrq, hmem]

/-- The loads that an engine ends begin its updates anew, and count (R143). -/
theorem State.loadDone_ends (s : State) (e q p : Nat) (he : e < 8) (hq : q < 4) (howner : s.die.quarterOwner e q = some p)
    (hload : (KMap.get (0, 0, 0) s.die.loads (e * 4 + q)).1 = 1)
    (hkind : (KMap.get (0, 0, 0) s.die.loads (e * 4 + q)).2.2 = 0 ∨ (KMap.get (0, 0, 0) s.die.loads (e * 4 + q)).2.2 = 4) (hturn : s.die.loadTurn e = true) :
    s.completes (.loadDone e) (fun t => t = { s with die := t.die } ∧ KMap.get (0, 0, 0) t.die.loads (e * 4 + q) = (0, 0, 0)
      ∧ t.die.qstate e q = (match (s.die.image p).bind (fun im => engOf im e) with | some _ => 3 | none => 0)
      ∧ ((∀ r, r < 4 → (KMap.get (0, 0, 0) s.die.loads (e * 4 + r)).2.2 ≠ 4) → t.die.get R.ENG_STATUS_LOAD_RESULT e = 0)
      ∧ ((KMap.get (0, 0, 0) s.die.loads (e * 4 + q)).2.2 = 4 → t.die.get R.ENG_STATUS_LOAD_RESULT e = 3)
      ∧ t.die.tally T.ENG_LOADS e = tallyAdd (s.die.tally T.ENG_LOADS e) 1
      ∧ t.die.rows = s.die.rows ∧ t.die.dir = s.die.dir) := by
  obtain ⟨qs, hqs⟩ : ∃ qs, s.die.loadingQuarters e = qs := ⟨_, rfl⟩
  have hmemOf {r : Nat} : r ∈ qs → r < 4 := fun h => by
    rw [← hqs] at h
    exact List.mem_range.1 (List.mem_filter.1 h).1
  have hmem : q ∈ qs := by
    rw [← hqs]
    refine List.mem_filter.2 ⟨List.mem_range.2 hq, ?_⟩
    rcases hkind with h | h <;> simp [hload, h]
  obtain ⟨part, hpart⟩ : ∃ part, qs.any (fun r => (KMap.get (0, 0, 0) s.die.loads (e * 4 + r)).2.2 == 4) = part := ⟨_, rfl⟩
  obtain ⟨a, ha⟩ : ∃ a, qs.foldl (Die.quarterLoaded s.fused e (s.die.loadOf e)) s.die = a := ⟨_, rfl⟩
  have hends := s.die.quartersLoaded_end s.fused he (s.die.loadOf e) qs (fun r => hmemOf) 
  rw [ha] at hends
  obtain ⟨b, hb⟩ : ∃ b, (((qs.filterMap (s.die.loadOf e)).map (fun y => (y.1, y.2.1))).eraseDups).foldl (fun d y => d.updReset e y.1 y.2 false) a = b := ⟨_, rfl⟩
  have hbkept : a.reloaded b := by
    rw [← hb]
    exact Die.reloaded_foldl _ _ (fun d y _ => d.reloaded_updReset e y.1 y.2 false he) a
  obtain ⟨c, hc⟩ : ∃ c, b.count T.ENG_LOADS e = c := ⟨_, rfl⟩
  have hcrep : b.report c := by rw [← hc]; exact b.report_count T.ENG_LOADS e
  have hctally : c.tally T.ENG_LOADS e = tallyAdd (b.tally T.ENG_LOADS e) 1 := by rw [← hc]; exact Die.tally_count_same _ _ _ (engTal_quiet T.ENG_LOADS e he (by decide))
  have hcstate : c.get R.ENG_STATUS_QSTATE e = b.get R.ENG_STATUS_QSTATE e :=
    hcrep.get _ _ (reportWord_above (by simp only [Fld.key, R.ENG_STATUS_QSTATE]; omega) (by simp only [Fld.key, R.ENG_STATUS_QSTATE]; omega))
  obtain ⟨f, hf⟩ : ∃ f, c.put R.ENG_STATUS_LOAD_RESULT e (if part then 3 else 0) = f := ⟨_, rfl⟩
  have hfresult : f.get R.ENG_STATUS_LOAD_RESULT e = if part then 3 else 0 := by
    rw [← hf, Die.get_put_same]
    split <;> rfl
  have hfstate : f.qstate e q = a.qstate e q := by
    rw [← hbkept.qstate he q, ← hf, Die.qstate, Die.get_put_apart _ _ _ _ _ (by decide), hcstate, Die.qstate]
  have hexec : exec (.loadDone e) s = .next { s with die := f.setBusy e } := by
    change execLoadDone e s = _
    unfold execLoadDone
    rw [dieCmd, decide_eq_true he, if_pos rfl]
    unfold Die.loadDone
    dsimp only
    have hsome : qs.isEmpty = false := by
      cases qs with
      | nil => exact absurd hmem List.not_mem_nil
      | cons _ _ => rfl
    rw [hqs, hsome, hturn, if_neg (by decide), hpart, ← hf, ← hc, ← hb, ← ha]
    rfl
  have hbusy : (f.setBusy e).get R.ENG_STATUS_LOAD_RESULT e = f.get R.ENG_STATUS_LOAD_RESULT e := Die.get_put_apart _ _ _ _ _ (by decide)
  obtain ⟨hrows, hdir, hloads, -⟩ := hbkept.larder
  have hframe : (f.setBusy e).rows = c.rows ∧ (f.setBusy e).dir = c.dir ∧ (f.setBusy e).loads = c.loads := by
    rw [← hf]
    exact ⟨rfl, rfl, rfl⟩
  refine ⟨_, hexec, rfl, ?_, ?_, fun hno => ?_, fun hyes => ?_, ?_, ?_, ?_⟩
  · have h := hends.loads q hq
    rw [if_pos hmem] at h
    change KMap.get (0, 0, 0) (f.setBusy e).loads (e * 4 + q) = _
    rw [hframe.2.2, (congrArg Die.loads hcrep.1).trans rfl]
    exact (congrArg (fun m => KMap.get (0, 0, 0) m (e * 4 + q)) hloads).trans h
  · change (f.setBusy e).qstate e q = _
    rw [Die.qstate_setBusy, hfstate, hends.states q hq, if_pos hmem, Die.loadOf, howner]
    cases him : s.die.image p with
    | none => simp [him]
    | some im => cases hei : engOf im e <;> simp [him, hei]
  · change (f.setBusy e).get R.ENG_STATUS_LOAD_RESULT e = _
    have hfalse : part = false := by
      rw [← hpart]
      refine Bool.eq_false_iff.2 fun h => ?_
      obtain ⟨r, hr, h4⟩ := List.any_eq_true.1 h
      exact hno r (hmemOf hr) (beq_iff_eq.1 h4)
    rw [hbusy, hfresult, hfalse]
    rfl
  · change (f.setBusy e).get R.ENG_STATUS_LOAD_RESULT e = _
    have htrue : part = true := by
      rw [← hpart]
      exact List.any_eq_true.2 ⟨q, hmem, beq_iff_eq.2 hyes⟩
    rw [hbusy, hfresult, htrue]
    rfl
  · have htally : (f.setBusy e).tally T.ENG_LOADS e = c.tally T.ENG_LOADS e := by rw [← hf]; rfl
    exact htally.trans (by rw [hctally, hbkept.engTally T.ENG_LOADS he (by decide), hends.tals T.ENG_LOADS (by decide)])
  · exact hframe.1.trans (((congrArg Die.rows hcrep.1).trans rfl).trans (hrows.trans hends.larder.1))
  · exact hframe.2.1.trans (((congrArg Die.dir hcrep.1).trans rfl).trans (hdir.trans hends.larder.2))

/-- The events in an engine and their decisions are dropped (R145). -/
theorem Die.dropFlight_drops (e p : Nat) (d : Die) : (d.dropFlight e p).1 = (d.engPas e p).flight.length
    ∧ ∃ m v, d.reloaded m ∧ (d.dropFlight e p).2 = (m.onEng e p (fun y => { y with flight := [], exits := [] })).put R.FAB_STATUS_IN_FLIGHT p v := by
  refine ⟨rfl, _, _, ?_, rfl⟩
  exact (Die.reloaded_foldl _ _ (fun f _ _ => f.reloaded_clearMarker p _) d).trans (Die.reloaded_foldl _ _ (fun f _ _ => f.reloaded_clearMarker p _) _)

/-- What a recovery leaves of an engine's pasture: no event in it, the drops counted, the quarter loaded again or empty (R142, R145). -/
structure Die.recovered (e q p : Nat) (lost : Bool) (d f : Die) : Prop where
  larder : f.rows = d.rows ∧ f.dir = d.dir
  events : (f.engPas e p).flight = [] ∧ (f.engPas e p).exits = [] ∧ (f.engPas e p).step = (d.engPas e p).step
  drops : f.tally T.ENG_STALL_DROP e = tallyAdd (d.tally T.ENG_STALL_DROP e) (d.engPas e p).flight.length
  others : ∀ t : Tal, t.base = 0x100000 ∧ t.off < 0x1000 → t.off ≠ T.ENG_STALL_DROP.off → t.off ≠ T.ENG_LOADS.off → f.tally t e = d.tally t e
  empty : lost = true → f.qstate e q = 0 ∧ f.get R.ENG_STATUS_LOAD_RESULT e = 3
  again : lost = false → f.tally T.ENG_LOADS e = tallyAdd (d.tally T.ENG_LOADS e) 1

theorem Die.tally_eng_other (t u : Tal) (e n : Nat) (he : e < 8) (ht : t.base = 0x100000 ∧ t.off < 0x1000) (hu : u.base = 0x100000) (h : t.off ≠ u.off) (d : Die) :
    (d.countBy u e n).tally t e = d.tally t e :=
  Die.tally_countBy_other u e n (t.key e) d (engTal_quiet t e he ht) (by rw [Tal.key, Tal.key, ht.1, hu]; omega)

/-- What the drop of an engine's events leaves (R145). -/
structure Die.flightDropped (e p : Nat) (d f : Die) : Prop where
  larder : f.rows = d.rows ∧ f.dir = d.dir
  events : (f.engPas e p).flight = [] ∧ (f.engPas e p).exits = [] ∧ (f.engPas e p).step = (d.engPas e p).step
  drops : f.tally T.ENG_STALL_DROP e = tallyAdd (d.tally T.ENG_STALL_DROP e) (d.engPas e p).flight.length
  others : ∀ t : Tal, t.base = 0x100000 ∧ t.off < 0x1000 → t.off ≠ T.ENG_STALL_DROP.off → f.tally t e = d.tally t e

/-- The die with an engine's events dropped and counted, and its pasture's calibration ended. -/
def Die.droppedFlight (e p : Nat) (d : Die) : Die := (((d.dropFlight e p).2).countBy T.ENG_STALL_DROP e (d.engPas e p).flight.length).calEnd p

theorem Die.engPas_congr {d f : Die} (h : f.eng = d.eng) (e p : Nat) : f.engPas e p = d.engPas e p := by
  rw [Die.engPas, Die.engPas, h]

theorem Die.droppedFlight_drops (e p : Nat) (he : e < 8) (d : Die) : d.flightDropped e p (d.droppedFlight e p) := by
  obtain ⟨-, m, v, hm, hdrop⟩ := d.dropFlight_drops e p
  obtain ⟨n, hn⟩ : ∃ n, (d.engPas e p).flight.length = n := ⟨_, rfl⟩
  obtain ⟨a, ha⟩ : ∃ a, (d.dropFlight e p).2 = a := ⟨_, rfl⟩
  have halarder : a.rows = m.rows ∧ a.dir = m.dir := by rw [← ha, hdrop]; exact ⟨rfl, rfl⟩
  have haeng : a.engPas e p = { m.engPas e p with flight := [], exits := [] } := by
    rw [← ha, hdrop]
    exact (Die.engPas_congr rfl e p).trans (Die.engPas_onEng_same m e p (fun y => { y with flight := [], exits := [] }))
  have hatals (t : Tal) : a.tally t e = m.tally t e := by rw [← ha, hdrop]; rfl
  obtain ⟨b, hb⟩ : ∃ b, a.countBy T.ENG_STALL_DROP e n = b := ⟨_, rfl⟩
  have hbrep : a.report b := by rw [← hb]; exact a.report_countBy _ _ _
  have hbdrop : b.tally T.ENG_STALL_DROP e = tallyAdd (a.tally T.ENG_STALL_DROP e) n := by
    rw [← hb]; exact Die.tally_countBy_same _ _ _ _ (engTal_quiet T.ENG_STALL_DROP e he (by decide))
  have hbother (t : Tal) (ht : t.base = 0x100000 ∧ t.off < 0x1000) (h : t.off ≠ T.ENG_STALL_DROP.off) : b.tally t e = a.tally t e := by
    rw [← hb]; exact Die.tally_eng_other t T.ENG_STALL_DROP e _ he ht rfl h a
  have hbeng : b.engPas e p = { m.engPas e p with flight := [], exits := [] } := (Die.engPas_congr ((congrArg Die.eng hbrep.1).trans rfl) e p).trans haeng
  obtain ⟨c, hc⟩ : ∃ c, b.calEnd p = c := ⟨_, rfl⟩
  have hckept : b.reloaded c := by rw [← hc]; exact b.reloaded_calEnd p
  have hdef : d.droppedFlight e p = c := by rw [Die.droppedFlight, hn, ha, hb, hc]
  obtain ⟨hrows, hdir, -⟩ := hckept.larder
  obtain ⟨hmrows, hmdir, -⟩ := hm.larder
  obtain ⟨hf, hx, hs⟩ := hckept.events e p
  rw [hdef]
  refine ⟨⟨?_, ?_⟩, ⟨?_, ?_, ?_⟩, ?_, fun t ht h => ?_⟩
  · exact hrows.trans (((congrArg Die.rows hbrep.1).trans rfl).trans (halarder.1.trans hmrows))
  · exact hdir.trans (((congrArg Die.dir hbrep.1).trans rfl).trans (halarder.2.trans hmdir))
  · rw [hf, hbeng]
  · rw [hx, hbeng]
  · rw [hs, hbeng]
    exact (hm.events e p).2.2
  · rw [hckept.engTally _ he (by decide), hbdrop, hatals, hm.engTally _ he (by decide), hn]
  · rw [hckept.engTally t he ht, hbother t ht h, hatals, hm.engTally t he ht]

theorem Die.leaveEmpty_recovers {e q p : Nat} (hq : q < 4) {d c : Die} (h : d.flightDropped e p c) : d.recovered e q p true (c.leaveEmpty e q) := by
  obtain ⟨f, hf⟩ : ∃ f : Die, { c with
    loads := KMap.set (0, 0, 0) c.loads (e * 4 + q) (0, 0, 0), closed := KMap.set false c.closed (e * 4 + q) false
    tiles := KMap.keep c.tiles (fun t => !(t / 128 == e * 4 + q)) } = f := ⟨_, rfl⟩
  have hempty : c.leaveEmpty e q = (f.setQ e q 0).put R.ENG_STATUS_LOAD_RESULT e 3 := by rw [← hf]; rfl
  have hsame : f.rows = c.rows ∧ f.dir = c.dir ∧ f.eng = c.eng ∧ f.tallies = c.tallies := by rw [← hf]; exact ⟨rfl, rfl, rfl, rfl⟩
  obtain ⟨hrows, hdir, heng, htals⟩ := hsame
  have hfeng : (c.leaveEmpty e q).engPas e p = c.engPas e p := by rw [hempty]; exact congrArg (fun m => KMap.get {} m (e * 64 + p)) heng
  have hftals (t : Tal) : (c.leaveEmpty e q).tally t e = c.tally t e := by rw [hempty]; exact congrArg (fun m => KMap.get 0 m (t.key e)) htals
  refine ⟨?_, by rw [hfeng]; exact h.events, by rw [hftals]; exact h.drops, fun t ht hdrop _ => by rw [hftals]; exact h.others t ht hdrop, fun _ => ⟨?_, ?_⟩, fun h => by cases h⟩
  · rw [hempty]
    exact ⟨hrows.trans h.larder.1, hdir.trans h.larder.2⟩
  · rw [hempty, Die.qstate, Die.get_put_apart _ _ _ _ _ (by decide)]
    exact (f.qstate_setQ e q q 0 hq hq (by decide)).trans (if_pos rfl)
  · rw [hempty]
    exact Die.get_put_same _ _ _ _

theorem Die.reload_recovers {e q p : Nat} (he : e < 8) {d c f : Die} (h : d.flightDropped e p c) (hf : c.reloaded f) : d.recovered e q p false (f.count T.ENG_LOADS e) := by
  obtain ⟨hrows, hdir, -⟩ := hf.larder
  obtain ⟨hfl, hx, hs⟩ := hf.events e p
  have hrep := f.report_count T.ENG_LOADS e
  have heng : (f.count T.ENG_LOADS e).engPas e p = f.engPas e p := Die.engPas_congr ((congrArg Die.eng hrep.1).trans rfl) e p
  have hother (t : Tal) (ht : t.base = 0x100000 ∧ t.off < 0x1000) (h : t.off ≠ T.ENG_LOADS.off) : (f.count T.ENG_LOADS e).tally t e = c.tally t e :=
    (Die.tally_eng_other t T.ENG_LOADS e 1 he ht rfl h f).trans (hf.engTally t he ht)
  refine ⟨⟨((congrArg Die.rows hrep.1).trans rfl).trans (hrows.trans h.larder.1), ((congrArg Die.dir hrep.1).trans rfl).trans (hdir.trans h.larder.2)⟩, ?_,
    (hother T.ENG_STALL_DROP (by decide) (by decide)).trans h.drops, fun t ht hd hl => (hother t ht hl).trans (h.others t ht hd), fun h => absurd h Bool.false_ne_true, fun _ => ?_⟩
  · rw [heng]
    exact ⟨hfl.trans h.events.1, hx.trans h.events.2.1, hs.trans h.events.2.2⟩
  · rw [Die.tally_count_same _ _ _ (engTal_quiet T.ENG_LOADS e he (by decide)), hf.engTally _ he (by decide), h.others T.ENG_LOADS (by decide) (by decide)]

theorem Die.recoverQuarter_eq (fu : Fused) (e q p : Nat) (lost : Bool) (im : Image) (ei : EngineImg) (d : Die)
    (howner : d.quarterOwner e q = some p) (him : d.image p = some im) (hei : engOf im e = some ei) :
    d.recoverQuarter fu e q lost = if lost then (d.droppedFlight e p).leaveEmpty e q
      else (((d.droppedFlight e p).loadQuarter fu e q p 0 im ei).updReset e p im false).count T.ENG_LOADS e := by
  unfold Die.recoverQuarter
  rw [howner]
  dsimp only
  rw [him]
  dsimp only
  rw [hei]
  rfl

theorem Die.recoverQuarter_recovers (fu : Fused) (e q p : Nat) (lost : Bool) (im : Image) (ei : EngineImg) (he : e < 8) (hq : q < 4) (d : Die)
    (howner : d.quarterOwner e q = some p) (him : d.image p = some im) (hei : engOf im e = some ei) : d.recovered e q p lost (d.recoverQuarter fu e q lost) := by
  rw [d.recoverQuarter_eq fu e q p lost im ei howner him hei]
  have hdrop := d.droppedFlight_drops e p he
  obtain ⟨c, hc⟩ : ∃ c, d.droppedFlight e p = c := ⟨_, rfl⟩
  rw [hc] at hdrop ⊢
  cases lost with
  | true => exact Die.leaveEmpty_recovers hq hdrop
  | false => exact Die.reload_recovers he hdrop ((c.reloaded_loadQuarter fu e q p 0 im ei he hq).trans (Die.reloaded_updReset e p im false he _))

/-- An engine under observation (R530). -/
theorem Die.observe_observes (fu : Fused) {e : Nat} (he : e < 8) (d : Die) : (d.observe fu e).on R.SHD_STATUS_OBSERVED e = true := by
  unfold Die.observe
  split
  · assumption
  · have hword : reportWord (R.SHD_STATUS_OBSERVED.key e / 32) = false :=
      reportWord_above (by simp only [Fld.key, R.SHD_STATUS_OBSERVED]; omega) (by simp only [Fld.key, R.SHD_STATUS_OBSERVED]; omega)
    have hflag : ((d.flag R.SHD_STATUS_OBSERVED e true).flag R.SHD_CONTROL_OBSERVE e true).on R.SHD_STATUS_OBSERVED e = true := by
      rw [Die.on, Die.flag, Die.get_put_apart _ _ _ _ _ (by decide)]
      exact Die.on_flag_same _ e true d rfl
    have hrep := (((d.flag R.SHD_STATUS_OBSERVED e true).flag R.SHD_CONTROL_OBSERVE e true).report_count T.SHD_OBSERVATIONS e).trans (Die.report_faultRecord fu 12 [] _)
    exact (congrArg (· == 1) (hrep.get _ _ hword)).trans hflag

/-- What a note of a failure leaves (R146, R528): the owners and images, and the engine's tallies but the one counted. -/
theorem Die.noted_keeps (fu : Fused) (t : Tal) (e c name kind : Nat) (keys : List (Nat × Cbor)) (he : e < 8) (ht : t.base = 0x100000 ∧ t.off < 0x1000) (d f : Die)
    (hf : ((d.count t e).incident c 0 e name).faultRecord fu kind keys = f) :
    (∀ q, f.quarterOwner e q = d.quarterOwner e q) ∧ (∀ p, f.image p = d.image p) ∧ (∀ p, f.engPas e p = d.engPas e p) ∧ f.rows = d.rows ∧ f.dir = d.dir
      ∧ f.tally t e = tallyAdd (d.tally t e) 1 ∧ ∀ u : Tal, u.base = 0x100000 ∧ u.off < 0x1000 → u.off ≠ t.off → f.tally u e = d.tally u e := by
  obtain ⟨a, ha⟩ : ∃ a, d.count t e = a := ⟨_, rfl⟩
  have hrep : d.report a := by rw [← ha]; exact d.report_count t e
  have hown : a.tally t e = tallyAdd (d.tally t e) 1 := by rw [← ha]; exact Die.tally_count_same _ _ _ (engTal_quiet t e he ht)
  have hkept : a.reloaded f := by
    rw [← hf, ha]
    exact Die.reloaded_erred ((Die.erred_traced (Die.traced_incident c 0 e name a)).trans (Die.erred_faultRecord fu kind keys _))
  have hgrants : f.grants = d.grants := hkept.larder.2.2.2.trans ((congrArg Die.grants hrep.1).trans rfl)
  have hfull : d.report f := by
    rw [← hf, ha]
    exact hrep.trans ((a.report_incident c 0 e name).trans (Die.report_faultRecord fu kind keys _))
  refine ⟨fun q => ?_, fun p => (hkept.images p).trans ?_, fun p => ?_, hkept.larder.1.trans ((congrArg Die.rows hrep.1).trans rfl),
    hkept.larder.2.1.trans ((congrArg Die.dir hrep.1).trans rfl), (hkept.engTally t he ht).trans hown, fun u hu h => (hkept.engTally u he hu).trans ?_⟩
  · unfold Die.quarterOwner Die.ownsQuarter Die.grant
    rw [hgrants]
  · rw [Die.image, Die.image, Die.pasture, Die.pasture, hrep.pas]
  · exact Die.engPas_congr ((congrArg Die.eng hfull.1).trans rfl) e p
  · rw [← ha]
    exact Die.tally_eng_other u t e 1 he hu ht.1 h d

/-- STALL (R122, R145, R146). -/
theorem State.stall_recovers (s : State) (e q p : Nat) (he : e < 8) (hq : q < 4) (howner : s.die.quarterOwner e q = some p) (im : Image) (ei : EngineImg) (lost : Bool)
    (hst : s.die.qstate e q = 2) (hflight : (s.die.engPas e p).flight ≠ []) (him : s.die.image p = some im) (hei : engOf im e = some ei) :
    s.completes (.stall e ⟨q, lost⟩) (fun t => t = { s with die := t.die } ∧ (t.die.engPas e p).flight = [] ∧ (t.die.engPas e p).exits = []
      ∧ t.die.tally T.ENG_STALL e = tallyAdd (s.die.tally T.ENG_STALL e) 1
      ∧ t.die.tally T.ENG_STALL_DROP e = tallyAdd (s.die.tally T.ENG_STALL_DROP e) (s.die.engPas e p).flight.length
      ∧ (lost = true → t.die.qstate e q = 0 ∧ t.die.get R.ENG_STATUS_LOAD_RESULT e = 3)
      ∧ (lost = false → t.die.tally T.ENG_LOADS e = tallyAdd (s.die.tally T.ENG_LOADS e) 1)
      ∧ t.die.on R.SHD_STATUS_OBSERVED e = true ∧ t.die.rows = s.die.rows ∧ t.die.dir = s.die.dir) := by
  obtain ⟨a, ha⟩ : ∃ a, ((s.die.count T.ENG_STALL e).incident 1 0 e (e * 512 + q * 128)).faultRecord s.fused 10
      (((s.die.count T.ENG_STALL e).incident 1 0 e (e * 512 + q * 128)).pasKeys p) = a := ⟨_, rfl⟩
  obtain ⟨hown, himg, heng, hrows, hdir, hstall, hother⟩ := Die.noted_keeps s.fused T.ENG_STALL e 1 (e * 512 + q * 128) 10 _ he (by decide) s.die a ha
  have hrec := a.recoverQuarter_recovers s.fused e q p lost im ei he hq ((hown q).trans howner) ((himg p).trans him) hei
  obtain ⟨b, hb⟩ : ∃ b, a.recoverQuarter s.fused e q lost = b := ⟨_, rfl⟩
  rw [hb] at hrec
  have hkept : b.reloaded (b.observe s.fused e) := Die.reloaded_erred (Die.erred_observe s.fused e he b)
  have hexec : exec (.stall e ⟨q, lost⟩) s = .next { s with die := b.observe s.fused e } := by
    change execStall e ⟨q, lost⟩ s = _
    unfold execStall
    rw [dieCmd, decide_eq_true he, decide_eq_true hq]
    simp only [Bool.and_self, if_true, howner]
    have hsome : (!(s.die.engPas e p).flight.isEmpty) = true := by
      cases hnil : (s.die.engPas e p).flight with
      | nil => exact absurd hnil hflight
      | cons _ _ => rfl
    rw [if_pos ⟨hst, hsome⟩, ← hb, ← ha]
  obtain ⟨hfl, hx, -⟩ := hkept.events e p
  refine ⟨_, hexec, rfl, hfl.trans hrec.events.1, hx.trans hrec.events.2.1, ?_, ?_, fun h => ?_, fun h => ?_, b.observe_observes s.fused he, ?_, ?_⟩
  · exact (hkept.engTally T.ENG_STALL he (by decide)).trans ((hrec.others T.ENG_STALL (by decide) (by decide) (by decide)).trans hstall)
  · exact (hkept.engTally T.ENG_STALL_DROP he (by decide)).trans (hrec.drops.trans (by rw [heng, hother T.ENG_STALL_DROP (by decide) (by decide)]))
  · exact ⟨(hkept.qstate he q).trans (hrec.empty h).1, (hkept.engWord R.ENG_STATUS_LOAD_RESULT he (by decide)).trans (hrec.empty h).2⟩
  · exact (hkept.engTally T.ENG_LOADS he (by decide)).trans ((hrec.again h).trans (by rw [hother T.ENG_LOADS (by decide) (by decide)]))
  · exact hkept.larder.1.trans (hrec.larder.1.trans hrows)
  · exact hkept.larder.2.1.trans (hrec.larder.2.trans hdir)

/-- A recovery that finds no image changes nothing. -/
theorem Die.recoverQuarter_keeps (fu : Fused) (e q p : Nat) (lost : Bool) (he : e < 8) (hq : q < 4) (d : Die) (howner : d.quarterOwner e q = some p) :
    (d.recoverQuarter fu e q lost).rows = d.rows ∧ (d.recoverQuarter fu e q lost).dir = d.dir ∧ ((d.recoverQuarter fu e q lost).engPas e p).step = (d.engPas e p).step
      ∧ (d.recoverQuarter fu e q lost).tally T.ENG_BAD_OPCODE e = d.tally T.ENG_BAD_OPCODE e := by
  cases him : d.image p with
  | none =>
    have hsame : d.recoverQuarter fu e q lost = d := by
      unfold Die.recoverQuarter
      rw [howner]
      dsimp only
      rw [him]
    rw [hsame]
    exact ⟨rfl, rfl, rfl, rfl⟩
  | some im =>
    cases hei : engOf im e with
    | none =>
      have hsame : d.recoverQuarter fu e q lost = d := by
        unfold Die.recoverQuarter
        rw [howner]
        dsimp only
        rw [him]
        dsimp only
        rw [hei]
      rw [hsame]
      exact ⟨rfl, rfl, rfl, rfl⟩
    | some ei =>
      have hrec := d.recoverQuarter_recovers fu e q p lost im ei he hq howner him hei
      exact ⟨hrec.larder.1, hrec.larder.2, hrec.events.2.2, hrec.others T.ENG_BAD_OPCODE (by decide) (by decide) (by decide)⟩

/-- BAD_OPCODE (R203, R530). -/
theorem State.badOpcode_recovers (s : State) (e q p : Nat) (he : e < 8) (hq : q < 4) (howner : s.die.quarterOwner e q = some p) (tile ctx op : Nat) (lost : Bool)
    (htile : tile < 4096) (hcol : tile % 32 < 24) (hctx : ctx < 8) (hop : op < 32) (hte : tileEng tile = e) (htq : tileQ tile = q) (hst : 2 ≤ s.die.qstate e q) :
    s.completes (.badOpcode tile ctx ⟨op, lost⟩) (fun t => t = { s with die := t.die }
      ∧ t.die.tally T.ENG_BAD_OPCODE e = tallyAdd (s.die.tally T.ENG_BAD_OPCODE e) 1 ∧ (t.die.engPas e p).step = (s.die.engPas e p).step
      ∧ t.die.on R.SHD_STATUS_OBSERVED e = true ∧ t.die.rows = s.die.rows ∧ t.die.dir = s.die.dir) := by
  obtain ⟨keys, hkeys⟩ : ∃ keys, [(5, Cbor.uint tile), (6, Cbor.uint (((s.die.count T.ENG_BAD_OPCODE e).incident 2 0 e tile).physCol tile))]
      ++ (match ((s.die.count T.ENG_BAD_OPCODE e).incident 2 0 e tile).quarterOwner e q with
        | some p => ((s.die.count T.ENG_BAD_OPCODE e).incident 2 0 e tile).pasKeys p
        | none => []) = keys := ⟨_, rfl⟩
  obtain ⟨a, ha⟩ : ∃ a, ((s.die.count T.ENG_BAD_OPCODE e).incident 2 0 e tile).faultRecord s.fused 11 keys = a := ⟨_, rfl⟩
  obtain ⟨hown, -, heng, hrows, hdir, hbad, -⟩ := Die.noted_keeps s.fused T.ENG_BAD_OPCODE e 2 tile 11 _ he (by decide) s.die a ha
  obtain ⟨hbrows, hbdir, hstep, htally⟩ := a.recoverQuarter_keeps s.fused e q p lost he hq ((hown q).trans howner)
  obtain ⟨b, hb⟩ : ∃ b, a.recoverQuarter s.fused e q lost = b := ⟨_, rfl⟩
  rw [hb] at hbrows hbdir hstep htally
  have hkept : b.reloaded (b.observe s.fused e) := Die.reloaded_erred (Die.erred_observe s.fused e he b)
  have hexec : exec (.badOpcode tile ctx ⟨op, lost⟩) s = .next { s with die := b.observe s.fused e } := by
    change execBadOpcode tile ctx ⟨op, lost⟩ s = _
    unfold execBadOpcode
    rw [dieCmd, decide_eq_true htile, decide_eq_true hcol, decide_eq_true hctx, decide_eq_true hop]
    refine (if_pos (by rfl)).trans ?_
    dsimp only
    rw [hte, htq, if_pos hst, ← hb, ← ha, ← hkeys] <;> rfl
  refine ⟨_, hexec, rfl, ?_, ?_, b.observe_observes s.fused he, ?_, ?_⟩
  · exact (hkept.engTally T.ENG_BAD_OPCODE he (by decide)).trans (htally.trans hbad)
  · exact (hkept.events e p).2.2.trans (hstep.trans (by rw [heng]))
  · exact hkept.larder.1.trans (hbrows.trans hrows)
  · exact hkept.larder.2.1.trans (hbdir.trans hdir)

/-- Settles O20: a load changes tiles, update states and static values; what an engine's page, the Larder and the events hold goes through it unchanged. -/
theorem engineRecovers : Obligations.EngineRecovers := by
  intro s e q p he hq howner
  exact ⟨s.quiesceDone_quiesces e q p he hq howner, s.loadDone_ends e q p he hq howner, fun im ei lost => s.stall_recovers e q p he hq howner im ei lost,
    fun tile ctx op lost => s.badOpcode_recovers e q p he hq howner tile ctx op lost⟩

end Sys2Proof.Machine
end

section
/-! SUPPORT. What finds of errors, failed loads and their reports leave of the tallies of the checks (R510 to R521). -/

namespace Sys2Proof.Machine

/-- The tallies of the checks' page stand, but the one of fault records that find no room. -/
structure Die.chkKept (d f : Die) : Prop where
  tals : ∀ k, 0x30C00 ≤ k → k < 0x31000 → k ≠ 0x30E28 → KMap.get 0 f.tallies k = KMap.get 0 d.tallies k

theorem Die.chkKept_refl (d : Die) : d.chkKept d := ⟨fun _ _ _ _ => rfl⟩

theorem Die.chkKept.trans {a b c : Die} (h : a.chkKept b) (k : b.chkKept c) : a.chkKept c := ⟨fun n hlo hhi hne => (k.tals n hlo hhi hne).trans (h.tals n hlo hhi hne)⟩

theorem Die.chkKept_same {d f : Die} (h : f.tallies = d.tallies) : d.chkKept f := ⟨fun _ _ _ _ => by rw [h]⟩

theorem Die.chkKept_ite {c : Prop} [Decidable c] {d e f : Die} (h : d.chkKept e) (k : d.chkKept f) : d.chkKept (if c then e else f) := by split <;> assumption

theorem Die.chkKept_foldl {α : Type} (f : Die → α → Die) (hf : ∀ d x, Die.chkKept d (f d x)) (l : List α) (d : Die) : d.chkKept (l.foldl f d) := by
  induction l generalizing d with
  | nil => exact d.chkKept_refl
  | cons x xs ih => exact (hf d x).trans (ih _)

theorem chkTal_quiet {k : Nat} (hlo : 0x30C00 ≤ k) (hhi : k < 0x31000) : loftTally k = false := by
  simp only [loftTally, Bool.or_eq_false_iff, Bool.and_eq_false_iff, decide_eq_false_iff_not, beq_eq_false_iff_ne]
  omega

theorem Die.chkKept_traced {d f : Die} (h : d.traced f) : d.chkKept f := ⟨fun k hlo hhi _ => h.2 k (chkTal_quiet hlo hhi)⟩

theorem Die.chkKept_countBy (t : Tal) (i n : Nat) (d : Die) (h : t.key i < 0x30C00 ∨ 0x31000 ≤ t.key i ∨ t.key i = 0x30E28) : d.chkKept (d.countBy t i n) :=
  ⟨fun k hlo hhi hne => Die.tally_countBy_other t i n k d (chkTal_quiet hlo hhi) (by omega)⟩

theorem Die.chkKept_count (t : Tal) (i : Nat) (d : Die) (h : t.key i < 0x30C00 ∨ 0x31000 ≤ t.key i ∨ t.key i = 0x30E28) : d.chkKept (d.count t i) := d.chkKept_countBy t i 1 h

theorem Die.chkKept_faultRecord (fu : Fused) (kind : Nat) (keys : List (Nat × Cbor)) (d : Die) : d.chkKept (d.faultRecord fu kind keys) := by
  unfold Die.faultRecord
  refine Die.chkKept.trans ?_ (Die.chkKept_traced (Die.traced_trace _ (fun p h => by cases h) _))
  have h (x : List Byte) : d.chkKept (if kind = 1 then d else { d with store := (x :: d.store).take 16 }) := Die.chkKept_ite d.chkKept_refl (Die.chkKept_traced (Die.traced_of _ _ rfl))
  refine Die.chkKept.trans (h _) (Die.chkKept_ite ?_ (Die.chkKept_count T.CHK_FAULT_DROP 0 _ (by decide)))
  exact Die.chkKept_traced ((Die.traced_hostWrite _ _ _ _).trans (Die.traced_put _ _ _ _ rfl))

theorem Die.chkKept_put (f : Fld) (i v : Nat) (d : Die) : d.chkKept (d.put f i v) := ⟨fun _ _ _ _ => rfl⟩

/-- The page's tallies of errors, by kind. -/
theorem chkCe_key (kind : Nat) : (T.CHK_CE kind).key 0 = 0x30C00 + 16 * (kind - 1) := by simp only [Tal.key, T.CHK_CE]; omega

theorem chkUe_key (kind : Nat) : (T.CHK_UE kind).key 0 = 0x30C08 + 16 * (kind - 1) := by simp only [Tal.key, T.CHK_UE]; omega

/-- `f` differs from `d` by reports and the Sheepdog's records. -/
structure Die.noted (d f : Die) : Prop where
  frame : f = { d with regs := f.regs, tallies := f.tallies, loft := f.loft, host := f.host, emits := f.emits, store := f.store, shd := f.shd }
  chk : d.chkKept f

theorem Die.noted_refl (d : Die) : d.noted d := ⟨rfl, d.chkKept_refl⟩

theorem Die.noted.trans {a b c : Die} (h : a.noted b) (k : b.noted c) : a.noted c := by
  refine ⟨?_, h.chk.trans k.chk⟩
  have hk := k.frame
  rw [h.frame] at hk
  exact hk

theorem Die.noted_ite {c : Prop} [Decidable c] {d e f : Die} (h : d.noted e) (k : d.noted f) : d.noted (if c then e else f) := by split <;> assumption

theorem Die.noted_report {d f : Die} (h : d.report f) (k : d.chkKept f) : d.noted f := by
  refine ⟨?_, k⟩
  have hf := h.1
  rw [hf]

theorem Die.noted_faultRecord (fu : Fused) (kind : Nat) (keys : List (Nat × Cbor)) (d : Die) : d.noted (d.faultRecord fu kind keys) :=
  Die.noted_report (d.report_faultRecord fu kind keys) (d.chkKept_faultRecord fu kind keys)

theorem Die.noted_put (f : Fld) (i v : Nat) (d : Die) : d.noted (d.put f i v) := ⟨rfl, d.chkKept_put f i v⟩

theorem Die.noted_observe (fu : Fused) (e : Nat) (d : Die) : d.noted (d.observe fu e) := by
  unfold Die.observe
  refine Die.noted_ite d.noted_refl (Die.noted.trans ?_ (Die.noted_faultRecord fu 12 [] _))
  refine ((d.noted_put R.SHD_STATUS_OBSERVED e 1).trans (Die.noted_put R.SHD_CONTROL_OBSERVE e 1 _)).trans
    (Die.noted_report (Die.report_count T.SHD_OBSERVATIONS e _) (Die.chkKept_count T.SHD_OBSERVATIONS e _ ?_))
  simp only [Tal.key, T.SHD_OBSERVATIONS]
  omega

theorem Die.noted_noteUe (fu : Fused) (e : Nat) (d : Die) : d.noted (d.noteUe fu e) := by
  unfold Die.noteUe
  obtain ⟨a, ha⟩ : ∃ a, d.onShd e (fun x => { x with ues := d.ns :: (d.sheep e).ues.filter (fun t => decide (d.ns - t ≤ 10 ^ 9)) }) = a := ⟨_, rfl⟩
  have hnoted : d.noted a := by rw [← ha]; exact ⟨rfl, Die.chkKept_same rfl⟩
  dsimp only
  rw [ha]
  exact Die.noted_ite hnoted (hnoted.trans (a.noted_observe fu e))

/-- A correctable error that is found (R510, R512): counted and corrected, then reported. -/
theorem Die.foundCe_notes (fu : Fused) (kind loc : Nat) (tile : Option Nat) (d : Die) : ∃ a : Die, a.noted (d.foundCe fu kind loc tile)
    ∧ a.tallies = (d.count (T.CHK_CE kind) 0).tallies ∧ a.ecc = KMap.set 0 d.ecc (eccKey kind loc) 0
    ∧ a.poison = d.poison ∧ a.tiles = d.tiles ∧ a.rows = d.rows ∧ a.dir = d.dir := by
  obtain ⟨c, hc⟩ : ∃ c, d.count (T.CHK_CE kind) 0 = c := ⟨_, rfl⟩
  have hrep : d.report c := by rw [← hc]; exact d.report_count _ _
  have hsame : c.poison = d.poison ∧ c.tiles = d.tiles ∧ c.rows = d.rows ∧ c.dir = d.dir :=
    ⟨(congrArg Die.poison hrep.1).trans rfl, (congrArg Die.tiles hrep.1).trans rfl, (congrArg Die.rows hrep.1).trans rfl, (congrArg Die.dir hrep.1).trans rfl⟩
  unfold Die.foundCe
  rw [hc]
  extract_lets src a k last b sy
  refine Decidable.byCases (p := last ≠ 0 ∧ a.ns < last - 1 + 10 ^ 6) (fun h => ?_) (fun h => ?_)
  · rw [if_pos h]
    exact ⟨a, a.noted_refl, rfl, rfl, hsame⟩
  · rw [if_neg h]
    exact ⟨sy.2, Die.noted_faultRecord _ _ _ _, rfl, rfl, hsame⟩

/-- An uncorrectable error that is found (R511, R512): counted, the word put into the poison pattern, then reported. -/
theorem Die.foundUe_notes (fu : Fused) (kind loc rk : Nat) (tile pas : Option Nat) (d : Die) : ∃ a : Die, a.noted (d.foundUe fu kind loc rk tile pas)
    ∧ a.tallies = (d.count (T.CHK_UE kind) 0).tallies ∧ a.ecc = KMap.set 0 d.ecc (eccKey kind loc) 0 ∧ a.poison = KMap.set false d.poison (eccKey kind loc) true
    ∧ a.tiles = d.tiles ∧ a.rows = d.rows ∧ a.loads = d.loads ∧ a.grants = d.grants := by
  obtain ⟨c, hc⟩ : ∃ c, d.count (T.CHK_UE kind) 0 = c := ⟨_, rfl⟩
  have hrep : d.report c := by rw [← hc]; exact d.report_count _ _
  have hecc : c.ecc = d.ecc := (congrArg Die.ecc hrep.1).trans rfl
  have hpoison : c.poison = d.poison := (congrArg Die.poison hrep.1).trans rfl
  have hsame : c.tiles = d.tiles ∧ c.rows = d.rows ∧ c.loads = d.loads ∧ c.grants = d.grants :=
    ⟨(congrArg Die.tiles hrep.1).trans rfl, (congrArg Die.rows hrep.1).trans rfl, (congrArg Die.loads hrep.1).trans rfl, (congrArg Die.grants hrep.1).trans rfl⟩
  unfold Die.foundUe
  rw [hc]
  extract_lets k src a sy b f
  have hnoted : sy.2.noted f := (Die.noted_faultRecord _ _ _ _).trans (Die.noted_report (Die.report_incident _ _ _ _ _) (Die.chkKept_traced (Die.traced_incident _ _ _ _ _)))
  refine ⟨sy.2, ?_, rfl, congrArg (fun m => KMap.set 0 m (eccKey kind loc) 0) hecc, congrArg (fun m => KMap.set false m (eccKey kind loc) true) hpoison, hsame⟩
  cases tile with
  | none => exact hnoted
  | some t => exact Die.noted_ite (hnoted.trans (f.noted_noteUe fu _)) hnoted

theorem Die.tallies_foldl {α : Type} (f : Die → α → Die) (hf : ∀ d x, (f d x).tallies = d.tallies) (l : List α) (d : Die) : (l.foldl f d).tallies = d.tallies := by
  induction l generalizing d with
  | nil => rfl
  | cons x xs ih => exact (ih _).trans (hf d x)

theorem Die.calEnd_tallies (p : Nat) (d : Die) : (d.calEnd p).tallies = d.tallies := by
  unfold Die.calEnd
  split <;> rfl

theorem Die.emptyQuarters_tallies (p : Nat) (d : Die) : (d.emptyQuarters p).tallies = d.tallies := by
  unfold Die.emptyQuarters
  refine Die.tallies_foldl _ (fun a e => ?_) _ d
  exact (show _ = ((a.quartersOf e p).foldl _ a).tallies from rfl).trans (Die.tallies_foldl _ (by intro _ _; rfl) _ a)

theorem Die.chkKept_openElection (d : Die) : d.chkKept d.openElection :=
  ((d.chkKept_put R.OWN_STATUS_ELECTION 0 1).trans (Die.chkKept_count T.OWN_ELECTIONS 0 _ (by decide))).trans ⟨fun _ _ _ _ => rfl⟩

theorem Die.chkKept_recheck (d : Die) : d.chkKept d.recheck := by
  unfold Die.recheck
  extract_lets a b
  have ha : d.chkKept a := Die.chkKept_ite d.chkKept_refl ⟨fun _ _ _ _ => rfl⟩
  have hb : a.chkKept b := Die.chkKept_ite ⟨fun _ _ _ _ => rfl⟩ a.chkKept_refl
  have hrelease (e : Die) : e.chkKept e.releaseCrook := by
    unfold Die.releaseCrook
    exact Die.chkKept.trans (b := ((e.flag R.OWN_STATUS_HELD 0 false).put R.OWN_STATUS_HOLDER 0 0).cancelHandover.relockAll) ⟨fun _ _ _ _ => rfl⟩
      (Die.chkKept_openElection _)
  exact (ha.trans hb).trans (Die.chkKept_ite (hrelease b) b.chkKept_refl)

theorem Die.chkKept_setFloors (d : Die) : d.chkKept d.setFloors := by
  unfold Die.setFloors
  exact Die.chkKept_same (Die.tallies_foldl _ (by intro _ _; rfl) _ d)

theorem Die.chkKept_dropImage (p : Nat) (d : Die) : d.chkKept (d.dropImage p) := by
  unfold Die.dropImage
  extract_lets a b c e f g
  have ha : d.chkKept a := by
    refine Die.chkKept_same ?_
    unfold a
    split <;> rfl
  have hb : a.chkKept b := Die.chkKept_same ((Die.emptyQuarters_tallies p _).trans (Die.calEnd_tallies p a))
  have hg : b.chkKept g := ⟨fun _ _ _ _ => rfl⟩
  exact ((ha.trans (hb.trans hg)).trans (Die.chkKept_put R.PAS_ADMIT_STATUS_BUSY p 0 g)).trans ((Die.chkKept_setFloors _).trans (Die.chkKept_recheck _))

theorem Die.chkKept_beginLoads (p : Nat) (im : Image) (why : Nat) (d : Die) : d.chkKept (d.beginLoads p im why) := by
  unfold Die.beginLoads
  extract_lets v draw a b c
  have ha : d.chkKept a := by
    refine Die.chkKept_same ?_
    unfold a
    split <;> rfl
  have hb : a.chkKept b := Die.chkKept_same ((show b.tallies = (a.calEnd p).tallies from rfl).trans (Die.calEnd_tallies p a))
  have hc : b.chkKept c := Die.chkKept_same (Die.tallies_foldl _ (by intro _ _; rfl) _ b)
  exact ((ha.trans hb).trans hc).trans ((Die.chkKept_same (Die.tallies_foldl _ (by intro _ _; rfl) _ c)).trans (Die.chkKept_put _ _ _ _))

theorem Die.chkKept_refuse (p code : Nat) (w : Where) (d : Die) : d.chkKept (d.refuse p code w) := by
  unfold Die.refuse
  extract_lets a b
  have ha : d.chkKept a := ⟨fun _ _ _ _ => rfl⟩
  have hcount (t : Tal) (h : t.base = 0x300000) (e : Die) : e.chkKept (e.count t p) := e.chkKept_count t p (by rw [Tal.key]; omega)
  have hb : a.chkKept b := by
    refine Die.chkKept.trans ?_ (hcount T.PAS_REFUSALS rfl _)
    exact ⟨fun _ _ _ _ => rfl⟩
  exact (ha.trans hb).trans ⟨fun _ _ _ _ => rfl⟩

theorem Die.chkKept_larderBack (p : Nat) (d : Die) : d.chkKept (d.larderBack p) := by
  unfold Die.larderBack
  split
  · exact d.chkKept_refl
  · extract_lets a b old gone c
    have hb : d.chkKept b := ⟨fun _ _ _ _ => rfl⟩
    refine hb.trans (Die.chkKept_ite ⟨fun _ _ _ _ => rfl⟩ ?_)
    have hc : b.chkKept c := ⟨fun _ _ _ _ => rfl⟩
    exact hc.trans (Die.chkKept_same (Die.tallies_foldl _ (by intro _ _; rfl) _ c))

theorem Die.chkKept_refusal (p code : Nat) (d : Die) : d.chkKept ((d.put R.PAS_ADMIT_STATUS_CODE p code).count T.PAS_REFUSALS p) :=
  (d.chkKept_put R.PAS_ADMIT_STATUS_CODE p code).trans (Die.chkKept_count T.PAS_REFUSALS p _ (by simp only [Tal.key, T.PAS_REFUSALS]; omega))

theorem Die.chkKept_abortAdmission (p code : Nat) (d : Die) : d.chkKept (d.abortAdmission p code) := by
  have hdrop : d.chkKept ((d.dropImage p).larderBack p) := (d.chkKept_dropImage p).trans (Die.chkKept_larderBack p _)
  have hgone : d.chkKept (if code = 0 then (d.dropImage p).larderBack p else (((d.dropImage p).larderBack p).put R.PAS_ADMIT_STATUS_CODE p code).count T.PAS_REFUSALS p) :=
    Die.chkKept_ite hdrop (hdrop.trans (Die.chkKept_refusal p code _))
  unfold Die.abortAdmission
  extract_lets q
  refine Die.chkKept_ite (d.chkKept_refuse p code {}) ?_
  by_cases hgoing : q.going = true
  · rw [if_pos hgoing]
    split
    · extract_lets rid a b c
      have hb : d.chkKept b := Die.chkKept.trans (b := a) ⟨fun _ _ _ _ => rfl⟩ (Die.chkKept_same (Die.tallies_foldl _ (by intro _ _; rfl) _ a))
      have hc : b.chkKept c := by
        refine Die.chkKept.trans ?_ (Die.chkKept_beginLoads p _ 2 _)
        exact ⟨fun _ _ _ _ => rfl⟩
      exact (hb.trans hc).trans (Die.chkKept_refusal p code c)
    · exact Die.chkKept_ite d.chkKept_refl hgone
    · exact hgone
  · rw [if_neg hgoing]
    split
    · extract_lets a
      have ha : d.chkKept a := Die.chkKept_same (Die.tallies_foldl _ (by intro _ _; rfl) _ d)
      refine Die.chkKept.trans ?_ (Die.chkKept_refuse p code {} _)
      exact ha.trans ⟨fun _ _ _ _ => rfl⟩
    · exact d.chkKept_refl

theorem Die.chkKept_loadFailed (p : Nat) (d : Die) : d.chkKept (d.loadFailed p) :=
  Die.chkKept_ite (d.chkKept_dropImage p) (d.chkKept_abortAdmission p 0x0901)

/-- A load that ends without its block (R146, R299). -/
theorem Die.chkKept_endLoad (e q : Nat) (d : Die) : d.chkKept (d.endLoad e q) := by
  unfold Die.endLoad
  extract_lets l a b c
  have ha : d.chkKept a := ⟨fun _ _ _ _ => rfl⟩
  have hb : a.chkKept b := Die.chkKept_ite (Die.chkKept_same (Die.tallies_foldl _ (by intro _ _; rfl) _ a)) a.chkKept_refl
  have hc : b.chkKept c := b.chkKept_put _ _ _
  have habc := ha.trans (hb.trans hc)
  refine Die.chkKept_ite d.chkKept_refl (Die.chkKept_ite (habc.trans ?_) habc)
  split
  · exact c.chkKept_loadFailed _
  · exact c.chkKept_refl

/-- What the end of an engine's LOAD leaves: that quarter's load gone, its result, and the words in error. -/
theorem Die.endLoad_ends (e q : Nat) (d : Die) (hload : KMap.get (0, 0, 0) d.loads (e * 4 + q) ≠ (0, 0, 0))
    (hkind : (KMap.get (0, 0, 0) d.loads (e * 4 + q)).2.2 = 0 ∨ (KMap.get (0, 0, 0) d.loads (e * 4 + q)).2.2 = 4) :
    KMap.get (0, 0, 0) (d.endLoad e q).loads (e * 4 + q) = (0, 0, 0) ∧ (d.endLoad e q).get R.ENG_STATUS_LOAD_RESULT e = 3 ∧ (d.endLoad e q).poison = d.poison := by
  obtain ⟨a, ha⟩ : ∃ a, d.leaveEmpty e q = a := ⟨_, rfl⟩
  have haload : KMap.get (0, 0, 0) a.loads (e * 4 + q) = (0, 0, 0) := by
    rw [← ha]
    exact KMap.get_set_same (0, 0, 0) d.loads (e * 4 + q) (0, 0, 0)
  have haresult : a.get R.ENG_STATUS_LOAD_RESULT e = 3 := by rw [← ha]; exact Die.get_put_same _ _ _ _
  have hapoison : a.poison = d.poison := by rw [← ha]; rfl
  obtain ⟨b, hb⟩ : ∃ b, (a.loadingQuarters e).foldl (fun d k => { d with loads := KMap.upd (0, 0, 0) d.loads (e * 4 + k) (fun y => (y.1, y.2.1, 4)) }) a = b := ⟨_, rfl⟩
  have hfold (l : List Nat) (hl : q ∉ l) (c : Die) :
      let f := l.foldl (fun d k => { d with loads := KMap.upd (0, 0, 0) d.loads (e * 4 + k) (fun y => (y.1, y.2.1, 4)) }) c
      KMap.get (0, 0, 0) f.loads (e * 4 + q) = KMap.get (0, 0, 0) c.loads (e * 4 + q) ∧ f.regs = c.regs ∧ f.poison = c.poison := by
    induction l generalizing c with
    | nil => exact ⟨rfl, rfl, rfl⟩
    | cons k l ih =>
      obtain ⟨hk, hl⟩ := not_or.1 (fun h => hl (List.mem_cons.2 h))
      obtain ⟨hload, hregs, hpoison⟩ := ih hl { c with loads := KMap.upd (0, 0, 0) c.loads (e * 4 + k) (fun y => (y.1, y.2.1, 4)) }
      exact ⟨hload.trans (KMap.get_upd_other (0, 0, 0) c.loads (e * 4 + k) (e * 4 + q) (fun y => (y.1, y.2.1, 4)) (by omega)), hregs, hpoison⟩
  have hnot : q ∉ a.loadingQuarters e := by
    intro h
    have hone := (List.mem_filter.1 h).2
    dsimp only at hone
    rw [haload] at hone
    exact absurd hone (by decide)
  obtain ⟨hbload, hbregs, hbpoison⟩ := hfold _ hnot a
  rw [hb] at hbload hbregs hbpoison
  have hdef : d.endLoad e q = b.setBusy e := by
    unfold Die.endLoad
    dsimp only
    rw [if_neg hload, if_pos hkind, ha, hb, if_neg (by omega)]
  rw [hdef]
  refine ⟨hbload.trans haload, ?_, hbpoison.trans hapoison⟩
  rw [Die.setBusy, Die.flag, Die.get_put_apart _ _ _ _ _ (by decide), Die.get_congr _ _ hbregs]
  exact haresult

end Sys2Proof.Machine
end

section
/-! SUPPORT. Errors of stored words and blocks (R509 to R521, R146): the scrubber's reads, failed tag checks, the end of a quarantine and of a restore. -/

namespace Sys2Proof.Machine

theorem scrubbed_kinds {kind : Nat} (h : kind ∈ [1, 2, 5, 6, 7, 15, 16, 17, 18]) : ([1, 2, 5, 6, 7, 15, 16, 17, 18].contains kind) = true ∧ 1 ≤ kind ∧ kind ≤ 18 := by
  simp only [List.mem_cons, List.not_mem_nil, or_false] at h
  rcases h with h | h | h | h | h | h | h | h | h <;> subst h <;> decide

/-- The die at the read, with the end of a pass counted (R512). -/
def Die.passRead (last : Bool) (d : Die) : Die := if last then d.count T.CHK_SCRUB_PASSES 0 else d

theorem Die.passRead_report (last : Bool) (d : Die) : d.report (d.passRead last) := Die.report_ite (d.report_count _ _) d.report_refl

/-- The end of a pass is counted apart from every other tally of the checks. -/
theorem Die.passRead_tally (last : Bool) (d : Die) (t : Tal) (h : t.key 0 ≠ 0x30E38) (hlo : 0x30C00 ≤ t.key 0) (hhi : t.key 0 < 0x31000) :
    (d.passRead last).tally t = d.tally t := by
  unfold Die.passRead
  split
  · exact Die.tally_countBy_other T.CHK_SCRUB_PASSES 0 1 (t.key 0) d (chkTal_quiet hlo hhi) h
  · rfl

/-- The state in which the scrubber reads. -/
def State.atScrub (last : Bool) (s : State) : State := { s with die := s.die.passRead last }

theorem State.scrubRead_reads {kind loc err : Nat} {last : Bool} {s : State} (h : kind ∈ [1, 2, 5, 6, 7, 15, 16, 17, 18]) :
    s.scrubRead kind loc err last =
      let t := s.atScrub last
      let e := max err (KMap.get 0 s.die.ecc (eccKey kind loc))
      if KMap.get false s.die.poison (eccKey kind loc) then { t with die := t.die.count T.CHK_POISON_READ 0 }
      else if e = 0 then t
      else if e = 1 then { t with die := t.die.foundCe s.fused kind loc (tileOfWord kind loc) }
      else if kind = 16 ∧ loc < 1024 ∧ KMap.get 0 s.die.ecc (eccKey 16 (twinWord loc)) < 2 then
        { t with die := t.die.foundCe s.fused kind loc none }
      else if controlKind kind then
        { t with die := { t.die.count (T.CHK_UE kind) 0 with ecc := KMap.set 0 s.die.ecc (eccKey kind loc) 2 } }.faultReset kind loc
      else { t with die := t.die.scrubUe s.fused kind loc } := by
  have hframe := (s.die.passRead_report last).1
  have hecc : (s.die.passRead last).ecc = s.die.ecc := (congrArg Die.ecc hframe).trans rfl
  have hpoison : (s.die.passRead last).poison = s.die.poison := (congrArg Die.poison hframe).trans rfl
  have hpass : (if last then { s with die := s.die.count T.CHK_SCRUB_PASSES 0 } else s) = s.atScrub last := by
    unfold State.atScrub Die.passRead
    split <;> rfl
  unfold State.scrubRead
  rw [(scrubbed_kinds h).1]
  dsimp only
  rw [if_neg (show ¬ (!true) = true from Bool.false_ne_true), hpass, show (s.atScrub last).die.ecc = s.die.ecc from hecc, show (s.atScrub last).die.poison = s.die.poison from hpoison]
  rfl

theorem Die.chk_tally {d f : Die} (h : d.chkKept f) (t : Tal) (hlo : 0x30C00 ≤ t.key 0) (hhi : t.key 0 < 0x31000) (hne : t.key 0 ≠ 0x30E28) : f.tally t = d.tally t := h.tals _ hlo hhi hne

theorem chkUe_page {kind : Nat} (h1 : 1 ≤ kind) (h20 : kind ≤ 20) :
    0x30C00 ≤ (T.CHK_UE kind).key 0 ∧ (T.CHK_UE kind).key 0 < 0x30D48 := by rw [chkUe_key]; omega

theorem chkCe_page {kind : Nat} (h1 : 1 ≤ kind) (h20 : kind ≤ 20) :
    0x30C00 ≤ (T.CHK_CE kind).key 0 ∧ (T.CHK_CE kind).key 0 < 0x30D48 := by rw [chkCe_key]; omega

/-- What a correctable error leaves (R510). -/
theorem Die.foundCe_counts (fu : Fused) (kind loc : Nat) (tile : Option Nat) (d : Die) (h1 : 1 ≤ kind) (h20 : kind ≤ 20) :
    (d.foundCe fu kind loc tile).tally (T.CHK_CE kind) = tallyAdd (d.tally (T.CHK_CE kind)) 1 ∧ KMap.get 0 (d.foundCe fu kind loc tile).ecc (eccKey kind loc) = 0
    ∧ (d.foundCe fu kind loc tile).poison = d.poison ∧ (d.foundCe fu kind loc tile).tiles = d.tiles ∧ (d.foundCe fu kind loc tile).rows = d.rows
    ∧ (d.foundCe fu kind loc tile).dir = d.dir := by
  obtain ⟨hlo, hhi⟩ := chkCe_page h1 h20
  obtain ⟨a, hnoted, htal, hecc, hpoison, htiles, hrows, hdir⟩ := d.foundCe_notes fu kind loc tile
  have hframe := hnoted.frame
  refine ⟨?_, ?_, ?_, ?_, ?_, ?_⟩
  · rw [Die.chk_tally hnoted.chk _ hlo (by omega) (by omega)]
    exact (congrArg (fun m => KMap.get 0 m ((T.CHK_CE kind).key 0)) htal).trans (Die.tally_count_same _ _ _ (chkTal_quiet hlo (by omega)))
  · have h : (d.foundCe fu kind loc tile).ecc = a.ecc := (congrArg Die.ecc hframe).trans rfl
    rw [h, hecc]
    exact KMap.get_set_same 0 d.ecc _ 0
  · exact ((congrArg Die.poison hframe).trans rfl).trans hpoison
  · exact ((congrArg Die.tiles hframe).trans rfl).trans htiles
  · exact ((congrArg Die.rows hframe).trans rfl).trans hrows
  · exact ((congrArg Die.dir hframe).trans rfl).trans hdir

/-- What an uncorrectable error of data-class memory leaves (R511). -/
structure Die.ueFound (kind loc : Nat) (d f : Die) : Prop where
  counted : f.tally (T.CHK_UE kind) = tallyAdd (d.tally (T.CHK_UE kind)) 1
  others : ∀ k, 0x30D48 ≤ k → k < 0x31000 → k ≠ 0x30E28 → KMap.get 0 f.tallies k = KMap.get 0 d.tallies k
  ecc : KMap.get 0 f.ecc (eccKey kind loc) = 0
  poison : f.poison = KMap.set false d.poison (eccKey kind loc) true
  tiles : f.tiles = d.tiles
  rows : f.rows = d.rows
  loads : f.loads = d.loads

theorem Die.foundUe_finds (fu : Fused) (kind loc rk : Nat) (tile pas : Option Nat) (d : Die) (h1 : 1 ≤ kind) (h20 : kind ≤ 20) :
    d.ueFound kind loc (d.foundUe fu kind loc rk tile pas) := by
  obtain ⟨hlo, hhi⟩ := chkUe_page h1 h20
  obtain ⟨a, hnoted, htal, hecc, hpoison, htiles, hrows, hloads, -⟩ := d.foundUe_notes fu kind loc rk tile pas
  have hframe := hnoted.frame
  refine ⟨?_, fun k hk1 hk2 hk3 => ?_, ?_, ?_, ?_, ?_, ?_⟩
  · rw [Die.chk_tally hnoted.chk _ hlo (by omega) (by omega)]
    exact (congrArg (fun m => KMap.get 0 m ((T.CHK_UE kind).key 0)) htal).trans (Die.tally_count_same _ _ _ (chkTal_quiet hlo (by omega)))
  · rw [hnoted.chk.tals k (by omega) hk2 hk3, htal]
    exact Die.tally_countBy_other (T.CHK_UE kind) 0 1 k d (chkTal_quiet (by omega) hk2) (by omega)
  · have h : (d.foundUe fu kind loc rk tile pas).ecc = a.ecc := (congrArg Die.ecc hframe).trans rfl
    rw [h, hecc]
    exact KMap.get_set_same 0 d.ecc _ 0
  · exact ((congrArg Die.poison hframe).trans rfl).trans hpoison
  · exact ((congrArg Die.tiles hframe).trans rfl).trans htiles
  · exact ((congrArg Die.rows hframe).trans rfl).trans hrows
  · exact ((congrArg Die.loads hframe).trans rfl).trans hloads

theorem Die.ueFound.put {kind loc : Nat} {d f : Die} (h : d.ueFound kind loc f) (g : Fld) (i v : Nat) : d.ueFound kind loc (f.put g i v) :=
  ⟨h.counted, h.others, h.ecc, h.poison, h.tiles, h.rows, h.loads⟩

theorem Die.ueFound.ite {kind loc : Nat} {c : Prop} [Decidable c] {d f g : Die} (h : d.ueFound kind loc f) (k : d.ueFound kind loc g) : d.ueFound kind loc (if c then f else g) := by
  split <;> assumption

/-- The scrubber's find may make the pasture's quarantine persistent (R514). -/
theorem Die.scrubUe_finds (fu : Fused) (kind loc : Nat) (d : Die) (h1 : 1 ≤ kind) (h20 : kind ≤ 20) : d.ueFound kind loc (d.scrubUe fu kind loc) := by
  have h := d.foundUe_finds fu kind loc 4 (tileOfWord kind loc) (d.pastureOfWord kind loc) h1 h20
  unfold Die.scrubUe
  extract_lets tile pas f
  have hf : d.ueFound kind loc f := h
  clear_value f
  clear_value tile pas
  have hpersist (p t : Nat) : d.ueFound kind loc (f.persist p t) := by
    unfold Die.persist
    exact Die.ueFound.ite hf ((hf.put _ _ _).put _ _ _)
  split
  · split
    · exact Die.ueFound.ite (hpersist _ _) hf
    · exact hf
  · exact hf

/-- A scrub read of a word that is poisoned, sound, or has a correctable error (R510, R512). -/
theorem scrubRead_mild (s : State) (kind loc err : Nat) (last : Bool) (h : kind ∈ [1, 2, 5, 6, 7, 15, 16, 17, 18]) :
    let d := s.die
    let key := eccKey kind loc
    let found := max err (KMap.get 0 d.ecc key)
    let c := Instr.scrubRead kind loc err last
    let counted (f : Tal) (t : State) : Prop := t.die.tally f = tallyAdd (d.tally f) 1
    (KMap.get false d.poison key = true → s.completes c (fun t => t = { s with die := t.die } ∧ d.report t.die ∧ counted T.CHK_POISON_READ t))
    ∧ (KMap.get false d.poison key = false →
        (found = 0 → s.completes c (fun t => t = { s with die := t.die } ∧ d.report t.die ∧ (last = false → t = s) ∧ (last = true → counted T.CHK_SCRUB_PASSES t)))
        ∧ (found = 1 → s.completes c (fun t => t = { s with die := t.die } ∧ counted (T.CHK_CE kind) t ∧ KMap.get 0 t.die.ecc key = 0
            ∧ t.die.poison = d.poison ∧ t.die.tiles = d.tiles ∧ t.die.rows = d.rows ∧ t.die.dir = d.dir))) := by
  intro d key found c counted
  obtain ⟨-, h1, h18⟩ := scrubbed_kinds h
  have hread := State.scrubRead_reads (loc := loc) (err := err) (last := last) (s := s) h
  dsimp only at hread
  have hrep := s.die.passRead_report last
  have hframe := hrep.1
  refine ⟨fun hp => ?_, fun hp => ⟨fun h0 => ?_, fun hone => ?_⟩⟩
  · rw [if_pos hp] at hread
    refine ⟨_, congrArg Host.Outcome.next hread, rfl, hrep.trans (Die.report_count T.CHK_POISON_READ 0 (s.die.passRead last)), ?_⟩
    exact (Die.tally_count_same T.CHK_POISON_READ 0 _ (by decide)).trans
      (congrArg (fun n => tallyAdd n 1) (s.die.passRead_tally last T.CHK_POISON_READ (by decide) (by decide) (by decide)))
  · rw [if_neg (by rw [hp]; exact Bool.false_ne_true), if_pos h0] at hread
    refine ⟨_, congrArg Host.Outcome.next hread, rfl, hrep, fun hl => ?_, fun hl => ?_⟩
    · subst hl; rfl
    · subst hl
      exact Die.tally_count_same T.CHK_SCRUB_PASSES 0 _ (by decide)
  · have hne : found ≠ 0 := by omega
    rw [if_neg (by rw [hp]; exact Bool.false_ne_true), if_neg hne, if_pos hone] at hread
    obtain ⟨hcount, hecc, hpoison, htiles, hrows, hdir⟩ := (s.atScrub last).die.foundCe_counts s.fused kind loc (tileOfWord kind loc) h1 (by omega)
    obtain ⟨hlo, hhi⟩ := chkCe_page h1 (by omega : kind ≤ 20)
    refine ⟨_, congrArg Host.Outcome.next hread, rfl, ?_, hecc, ?_, ?_, ?_, ?_⟩
    · exact hcount.trans (congrArg (fun n => tallyAdd n 1) (s.die.passRead_tally last (T.CHK_CE kind) (by omega) hlo (by omega)))
    · exact hpoison.trans ((congrArg Die.poison hframe).trans rfl)
    · exact htiles.trans ((congrArg Die.tiles hframe).trans rfl)
    · exact hrows.trans ((congrArg Die.rows hframe).trans rfl)
    · exact hdir.trans ((congrArg Die.dir hframe).trans rfl)

/-- A scrub read of a word of the data class with an uncorrectable error leaves the poison pattern, of the control class a fault reset (R511, R516). -/
theorem scrubRead_uncorrectable (s : State) (kind loc err : Nat) (last : Bool) (h : kind ∈ [1, 2, 5, 6, 7, 15, 16, 17, 18]) :
    let d := s.die
    let key := eccKey kind loc
    let found := max err (KMap.get 0 d.ecc key)
    let c := Instr.scrubRead kind loc err last
    let counted (f : Tal) (t : State) : Prop := t.die.tally f = tallyAdd (d.tally f) 1
    KMap.get false d.poison key = false →
      (2 ≤ found → (kind = 1 ∨ kind = 5 ∨ kind = 6 ∨ kind = 7) → s.completes c (fun t => t = { s with die := t.die } ∧ counted (T.CHK_UE kind) t
          ∧ KMap.get 0 t.die.ecc key = 0 ∧ KMap.get false t.die.poison key = true
          ∧ (∀ k, k ≠ key → KMap.get false t.die.poison k = KMap.get false d.poison k) ∧ t.die.tiles = d.tiles ∧ t.die.rows = d.rows))
      ∧ (2 ≤ found → (kind = 2 ∨ kind = 15 ∨ 17 ≤ kind) → s.completes c (fun t => t.die.restoring = true ∧ t.die.up = false
          ∧ t.die.get R.PWR_STATUS_LAST_RESET = 3 ∧ t.kill = s.kill)) := by
  intro d key found c counted hp
  obtain ⟨-, h1, h18⟩ := scrubbed_kinds h
  have hread := State.scrubRead_reads (loc := loc) (err := err) (last := last) (s := s) h
  dsimp only at hread
  have hframe := (s.die.passRead_report last).1
  refine ⟨fun htwo hdata => ?_, fun htwo hcontrol => ?_⟩
  all_goals
    have hzero : found ≠ 0 := by omega
    have hone : found ≠ 1 := by omega
    rw [if_neg (by rw [hp]; exact Bool.false_ne_true), if_neg hzero, if_neg hone, if_neg (by omega)] at hread
  · have hclass : controlKind kind = false := by
      rcases hdata with hk | hk | hk | hk <;> subst hk <;> rfl
    rw [if_neg (by rw [hclass]; exact Bool.false_ne_true)] at hread
    have hue := (s.atScrub last).die.scrubUe_finds s.fused kind loc h1 (by omega)
    obtain ⟨hlo, hhi⟩ := chkUe_page h1 (by omega : kind ≤ 20)
    have hpoison : ((s.atScrub last).die.scrubUe s.fused kind loc).poison = KMap.set false s.die.poison key true :=
      hue.poison.trans (congrArg (fun m => KMap.set false m key true) ((congrArg Die.poison hframe).trans rfl))
    refine ⟨_, congrArg Host.Outcome.next hread, rfl, ?_, hue.ecc, ?_, fun k hk => ?_, ?_, ?_⟩
    · exact hue.counted.trans (congrArg (fun n => tallyAdd n 1) (s.die.passRead_tally last (T.CHK_UE kind) (by omega) hlo (by omega)))
    · exact (congrArg (fun m => KMap.get false m key) hpoison).trans (KMap.get_set_same false _ _ _)
    · exact (congrArg (fun m => KMap.get false m k) hpoison).trans (KMap.get_set_other false _ _ _ _ hk)
    · exact hue.tiles.trans ((congrArg Die.tiles hframe).trans rfl)
    · exact hue.rows.trans ((congrArg Die.rows hframe).trans rfl)
  · have hclass : controlKind kind = true := by
      unfold controlKind
      simp only [Bool.or_eq_true, Bool.and_eq_true, decide_eq_true_eq, beq_iff_eq]
      omega
    rw [if_pos hclass] at hread
    obtain ⟨hkill, -, hrestoring, hup, hreset⟩ := State.faultReset_leaves kind loc
      { s.atScrub last with die := { (s.atScrub last).die.count (T.CHK_UE kind) 0 with ecc := KMap.set 0 s.die.ecc (eccKey kind loc) 2 } }
    exact ⟨_, congrArg Host.Outcome.next hread, hrestoring, hup, hreset, hkill⟩

end Sys2Proof.Machine
end

section
/-! SUPPORT. Failed tag checks, the end of a quarantine and of a restore (R514 to R521, R146, R299). -/

namespace Sys2Proof.Machine

def tagTally (x : TagCheck) : Tal := if (tagVerdict x).1 = 1 then T.CHK_PATH else if (tagVerdict x).1 = 2 then T.CHK_SOURCE else T.CHK_CHECKER

/-- The verdict of a tag check, counted and recorded (R520). -/
def Die.tagHeard (fu : Fused) (x : TagCheck) (d : Die) : Die := (d.count (tagTally x) 0).tagRecord fu x

/-- The word in error that the check's block came from (R521). -/
def Die.tagStruck (fu : Fused) (x : TagCheck) (d : Die) : Die :=
  if !x.eccOk && !(controlKind x.kind) then d.foundUe fu x.kind x.loc 2 (tileOfWord x.kind x.loc) (d.pastureOfWord x.kind x.loc) else d

/-- What a block that cannot be delivered does to its destination (R520). -/
def Die.tagOut (x : TagCheck) (d : Die) : Die :=
  if tagOutcome x = 3 then (match x.load with | some e => (tagQuarters x e d).foldl (fun d q => d.endLoad e q) d | none => d)
  else if tagOutcome x = 2 then
    { d.count T.CHK_TAG_POISON 0 with poison := x.dstLocs.foldl (fun m l => KMap.set false m (eccKey x.dstKind l) true) d.poison }
  else d

/-- A checker at fault puts its engine under observation (R520, R530). -/
def Die.tagWatched (fu : Fused) (x : TagCheck) (d : Die) : Die :=
  match x.tile with
  | some t => if tagVerdict x = (3, true) then d.observe fu (t / 512) else d
  | none => d

theorem State.tagFail_ends {x : TagCheck} (s : State) (h : tagOutcome x ≠ 4) :
    s.tagFail x = { s with die := (((s.die.tagHeard s.fused x).tagStruck s.fused x).tagOut x).tagWatched s.fused x } := by
  unfold State.tagFail
  dsimp only
  rw [if_neg h]
  rfl

theorem tagTally_page (x : TagCheck) : 0x30E00 ≤ (tagTally x).key 0 ∧ (tagTally x).key 0 ≤ 0x30E10 := by
  unfold tagTally
  split
  · decide
  · split <;> decide

theorem Die.tagHeard_report (fu : Fused) (x : TagCheck) (d : Die) : d.report (d.tagHeard fu x) := (d.report_count _ _).trans (Die.report_faultRecord fu 5 _ _)

theorem Die.tagHeard_counts (fu : Fused) (x : TagCheck) (d : Die) : (d.tagHeard fu x).tally (tagTally x) = tallyAdd (d.tally (tagTally x)) 1 := by
  obtain ⟨hlo, hhi⟩ := tagTally_page x
  exact (Die.chk_tally (Die.chkKept_faultRecord fu 5 _ _) _ (by omega) (by omega) (by omega)).trans (Die.tally_count_same _ _ _ (chkTal_quiet (by omega) (by omega)))

theorem Die.tagHeard_tally (fu : Fused) (x : TagCheck) (t : Tal) (d : Die) (hlo : 0x30C00 ≤ t.key 0) (hhi : t.key 0 < 0x31000) (hne : t.key 0 ≠ 0x30E28) (h : t.key 0 ≠ (tagTally x).key 0) :
    (d.tagHeard fu x).tally t = d.tally t :=
  (Die.chk_tally (Die.chkKept_faultRecord fu 5 _ _) _ hlo hhi hne).trans (Die.tally_countBy_other (tagTally x) 0 1 _ d (chkTal_quiet hlo hhi) h)

theorem Die.tagHeard_keeps (fu : Fused) (x : TagCheck) (d : Die) : (d.tagHeard fu x).poison = d.poison ∧ (d.tagHeard fu x).loads = d.loads := by
  have h := (d.tagHeard_report fu x).1
  exact ⟨(congrArg Die.poison h).trans rfl, (congrArg Die.loads h).trans rfl⟩

theorem Die.tagStruck_sound {fu : Fused} {x : TagCheck} (d : Die) (h : x.eccOk = true) : d.tagStruck fu x = d := by
  unfold Die.tagStruck
  rw [if_neg (by rw [h]; exact Bool.false_ne_true)]

theorem Die.tagStruck_finds {fu : Fused} {x : TagCheck} (d : Die) (hecc : x.eccOk = false) (hclass : controlKind x.kind = false) (h1 : 1 ≤ x.kind) (h20 : x.kind ≤ 20) :
    d.ueFound x.kind x.loc (d.tagStruck fu x) := by
  unfold Die.tagStruck
  rw [if_pos (by rw [hecc, hclass]; rfl)]
  exact d.foundUe_finds fu x.kind x.loc 2 _ _ h1 h20

/-- The word in error counts apart from the verdicts, and the loads stand. -/
theorem Die.tagStruck_keeps (fu : Fused) (x : TagCheck) (d : Die) (h1 : 1 ≤ x.kind) (h20 : x.kind ≤ 20) : (d.tagStruck fu x).loads = d.loads
    ∧ ∀ t : Tal, 0x30D48 ≤ t.key 0 → t.key 0 < 0x31000 → t.key 0 ≠ 0x30E28 → (d.tagStruck fu x).tally t = d.tally t := by
  unfold Die.tagStruck
  split
  · have h := d.foundUe_finds fu x.kind x.loc 2 (tileOfWord x.kind x.loc) (d.pastureOfWord x.kind x.loc) h1 h20
    exact ⟨h.loads, fun t hlo hhi hne => h.others _ hlo hhi hne⟩
  · exact ⟨rfl, fun t _ _ _ => rfl⟩

theorem Die.tagOut_delivered {x : TagCheck} (d : Die) (h : tagOutcome x = 1) : d.tagOut x = d := by
  unfold Die.tagOut
  rw [if_neg (by omega), if_neg (by omega)]

theorem poisonAll_get (kind : Nat) (l : List Nat) (m : KMap Bool) (k : Nat) :
    KMap.get false (l.foldl (fun m l => KMap.set false m (eccKey kind l) true) m) k = (KMap.get false m k || l.any (fun j => eccKey kind j == k)) := by
  induction l generalizing m with
  | nil => exact (Bool.or_false _).symm
  | cons j l ih =>
    rw [List.foldl_cons, ih, List.any_cons, ← Bool.or_assoc]
    congr 1
    by_cases hk : eccKey kind j = k
    · rw [hk, KMap.get_set_same, beq_self_eq_true, Bool.or_true]
    · rw [KMap.get_set_other false _ _ _ _ (Ne.symm hk), beq_eq_false_iff_ne.2 hk, Bool.or_false]

/-- A block that cannot be delivered leaves its destination poisoned (R521). -/
theorem Die.tagOut_poisons {x : TagCheck} (d : Die) (h : tagOutcome x = 2) : (d.tagOut x).tally T.CHK_TAG_POISON = tallyAdd (d.tally T.CHK_TAG_POISON) 1
    ∧ (∀ k, KMap.get false d.poison k = true → KMap.get false (d.tagOut x).poison k = true)
    ∧ ∀ l ∈ x.dstLocs, KMap.get false (d.tagOut x).poison (eccKey x.dstKind l) = true := by
  have hout : d.tagOut x = { d.count T.CHK_TAG_POISON 0 with poison := x.dstLocs.foldl (fun m l => KMap.set false m (eccKey x.dstKind l) true) d.poison } := by
    unfold Die.tagOut
    rw [if_neg (by omega), if_pos h]
  rw [hout]
  refine ⟨Die.tally_count_same T.CHK_TAG_POISON 0 d (by decide), fun k hk => ?_, fun l hl => ?_⟩
  · exact (poisonAll_get _ _ _ _).trans (by rw [hk, Bool.true_or])
  · refine (poisonAll_get _ _ _ _).trans ?_
    exact Bool.or_eq_true_iff.2 (.inr (List.any_eq_true.2 ⟨l, hl, beq_self_eq_true (eccKey x.dstKind l)⟩))

theorem Die.tagOut_tally (x : TagCheck) (d : Die) (t : Tal) (hlo : 0x30C00 ≤ t.key 0) (hhi : t.key 0 < 0x31000) (hne : t.key 0 ≠ 0x30E28) (hpoison : t.key 0 ≠ 0x30E18) :
    (d.tagOut x).tally t = d.tally t := by
  unfold Die.tagOut
  split
  · split
    · exact Die.chk_tally (Die.chkKept_foldl _ (fun d q => d.chkKept_endLoad _ q) _ d) t hlo hhi hne
    · rfl
  · split
    · exact Die.tally_countBy_other T.CHK_TAG_POISON 0 1 _ d (chkTal_quiet hlo hhi) hpoison
    · rfl

/-- A load's block ends the load of its tile's quarter (R146, R299). -/
theorem Die.tagOut_ends {x : TagCheck} {e n : Nat} (d : Die) (h : tagOutcome x = 3) (he : x.load = some e) (hn : x.tile = some n) : d.tagOut x = d.endLoad e (n % 512 / 128) := by
  unfold Die.tagOut
  rw [if_pos h, he]
  dsimp only
  unfold tagQuarters
  rw [hn]
  rfl

theorem Die.tagWatched_idle {fu : Fused} {x : TagCheck} (d : Die) (h : tagVerdict x ≠ (3, true)) : d.tagWatched fu x = d := by
  unfold Die.tagWatched
  split
  · exact if_neg h
  · rfl

theorem Die.tagWatched_noted (fu : Fused) (x : TagCheck) (d : Die) : d.noted (d.tagWatched fu x) := by
  unfold Die.tagWatched
  split
  · exact Die.noted_ite (d.noted_observe fu _) d.noted_refl
  · exact d.noted_refl

/-- The verdict on a block whose source word or tag was wrong (R520). -/
theorem tagVerdict_source {x : TagCheck} (h : x.eccOk = false ∨ x.tagSrc ≠ x.tag1) : tagVerdict x = (2, false) := by
  unfold tagVerdict
  dsimp only
  rw [if_pos]
  simp only [Bool.or_eq_true, Bool.not_eq_true', decide_eq_true_eq]
  exact h

theorem tagVerdict_sound {x : TagCheck} (h : ¬ (x.eccOk = false ∨ x.tagSrc ≠ x.tag1)) : tagVerdict x =
    if crc32c (padTo 256 x.data2) = x.tag1.toNat then (1, true)
    else if x.data2 ≠ x.data1 then (1, false)
    else if x.echoEcc && crc32c (padTo 256 x.echo) == x.tag1.toNat then (3, true) else (3, false) := by
  unfold tagVerdict
  dsimp only
  rw [if_neg]
  simp only [Bool.or_eq_true, Bool.not_eq_true', decide_eq_true_eq]
  exact h

theorem tagOutcome_lost {x : TagCheck} (hv : (tagVerdict x).2 = false) (hstands : (tagVerdict x).1 ≠ 2 ∨ controlKind x.kind = false ∨ x.eccOk = true) :
    tagOutcome x = if x.load.isSome then 3 else 2 := by
  unfold tagOutcome
  rw [hv, if_neg Bool.false_ne_true, if_neg]
  rintro ⟨htwo, hcontrol, hecc⟩
  rcases hstands with h | h | h
  · exact h htwo
  · rw [h] at hcontrol; cases hcontrol
  · rw [h] at hecc; cases hecc

theorem tagKnown_ranges {x : TagCheck} (h : tagKnown x = true) : 1 ≤ x.kind ∧ x.kind ≤ 20 ∧ ∀ n, x.tile = some n → n < 4096 := by
  simp only [tagKnown, Bool.and_eq_true, decide_eq_true_eq] at h
  obtain ⟨⟨⟨h1, h20⟩, -⟩, htile⟩ := h
  refine ⟨h1, h20, fun n hn => ?_⟩
  rw [hn] at htile
  dsimp only at htile
  simp only [Bool.and_eq_true, decide_eq_true_eq] at htile
  exact htile.1

theorem State.completes_tagFail {s : State} {x : TagCheck} {P : State → Prop} (hx : tagKnown x = true) (ho : tagOutcome x ≠ 4)
    (h : P { s with die := (((s.die.tagHeard s.fused x).tagStruck s.fused x).tagOut x).tagWatched s.fused x }) : s.completes (.tagCheckFail x) P :=
  ⟨_, (if_pos hx).trans (congrArg Host.Outcome.next (s.tagFail_ends ho)), h⟩

/-- A block whose source was wrong: the error and its destination (R520, R521). -/
theorem tagCheckFail_source (s : State) {x : TagCheck} (hx : tagKnown x = true) (hsource : x.eccOk = false ∨ x.tagSrc ≠ x.tag1) (hclass : controlKind x.kind = false ∨ x.eccOk = true) :
    let d := s.die
    s.completes (.tagCheckFail x) (fun t => t = { s with die := t.die }
      ∧ t.die.tally T.CHK_SOURCE = tallyAdd (d.tally T.CHK_SOURCE) 1
      ∧ (x.load = none → (∀ l ∈ x.dstLocs, KMap.get false t.die.poison (eccKey x.dstKind l) = true)
          ∧ t.die.tally T.CHK_TAG_POISON = tallyAdd (d.tally T.CHK_TAG_POISON) 1)
      ∧ (∀ e n, x.load = some e → x.tile = some n → KMap.get (0, 0, 0) d.loads (e * 4 + n % 512 / 128) ≠ (0, 0, 0) →
          ((KMap.get (0, 0, 0) d.loads (e * 4 + n % 512 / 128)).2.2 = 0 ∨ (KMap.get (0, 0, 0) d.loads (e * 4 + n % 512 / 128)).2.2 = 4) →
          KMap.get (0, 0, 0) t.die.loads (e * 4 + n % 512 / 128) = (0, 0, 0) ∧ t.die.get R.ENG_STATUS_LOAD_RESULT e = 3
          ∧ (x.eccOk = true → t.die.poison = d.poison) ∧ (x.eccOk = false → KMap.get false t.die.poison (eccKey x.kind x.loc) = true))
      ∧ (x.eccOk = false → (x.load = none → KMap.get false t.die.poison (eccKey x.kind x.loc) = true)
          ∧ t.die.tally (T.CHK_UE x.kind) = tallyAdd (d.tally (T.CHK_UE x.kind)) 1)) := by
  intro d
  obtain ⟨h1, h20, -⟩ := tagKnown_ranges hx
  have hv := tagVerdict_source hsource
  have ho : tagOutcome x = if x.load.isSome then 3 else 2 := tagOutcome_lost (by rw [hv]) (.inr hclass)
  have htally : tagTally x = T.CHK_SOURCE := by
    unfold tagTally
    rw [hv]
    rfl
  obtain ⟨a, ha⟩ : ∃ a, s.die.tagHeard s.fused x = a := ⟨_, rfl⟩
  obtain ⟨b, hb⟩ : ∃ b, a.tagStruck s.fused x = b := ⟨_, rfl⟩
  have hcount : a.tally T.CHK_SOURCE = tallyAdd (d.tally T.CHK_SOURCE) 1 := by
    have h := s.die.tagHeard_counts s.fused x
    rwa [htally, ha] at h
  have hother (t : Tal) (hlo : 0x30C00 ≤ t.key 0) (hhi : t.key 0 < 0x31000) (hne : t.key 0 ≠ 0x30E28) (h : t.key 0 ≠ 0x30E08) : a.tally t = d.tally t := by
    rw [← ha]
    exact s.die.tagHeard_tally s.fused x t hlo hhi hne (by rw [htally]; exact h)
  obtain ⟨hapoison, haloads⟩ := s.die.tagHeard_keeps s.fused x
  rw [ha] at hapoison haloads
  obtain ⟨hbloads, hbtally⟩ := a.tagStruck_keeps s.fused x h1 h20
  rw [hb] at hbloads hbtally
  have hfound (hecc : x.eccOk = false) : a.ueFound x.kind x.loc b := by
    rw [← hb]
    exact a.tagStruck_finds hecc (hclass.resolve_right (by rw [hecc]; exact Bool.false_ne_true)) h1 h20
  obtain ⟨hlo, hhi⟩ := chkUe_page h1 h20
  refine State.completes_tagFail hx (by rw [ho]; split <;> decide) ?_
  rw [Die.tagWatched_idle _ (by rw [hv]; decide), ha, hb]
  refine ⟨rfl, ?_, fun hload => ?_, fun e n hload htile hbusy hkind => ?_, fun hecc => ⟨fun hload => ?_, ?_⟩⟩
  · exact (b.tagOut_tally x T.CHK_SOURCE (by decide) (by decide) (by decide) (by decide)).trans ((hbtally T.CHK_SOURCE (by decide) (by decide) (by decide)).trans hcount)
  · obtain ⟨hpoisons, -, hdst⟩ := b.tagOut_poisons (x := x) (by rw [ho, hload]; rfl)
    exact ⟨hdst, hpoisons.trans (congrArg (fun n => tallyAdd n 1) ((hbtally T.CHK_TAG_POISON (by decide) (by decide) (by decide)).trans
      (hother T.CHK_TAG_POISON (by decide) (by decide) (by decide) (by decide))))⟩
  · have hloads : b.loads = d.loads := hbloads.trans haloads
    rw [b.tagOut_ends (by rw [ho, hload]; rfl) hload htile]
    obtain ⟨hgone, hresult, hpoison⟩ := b.endLoad_ends e (n % 512 / 128) (by rw [hloads]; exact hbusy) (by rw [hloads]; exact hkind)
    refine ⟨hgone, hresult, fun hecc => ?_, fun hecc => ?_⟩
    · refine hpoison.trans (Eq.trans ?_ hapoison)
      rw [← hb, a.tagStruck_sound hecc]
    · refine (congrArg (fun m => KMap.get false m (eccKey x.kind x.loc)) (hpoison.trans (hfound hecc).poison)).trans (KMap.get_set_same false _ _ _)
  · refine (b.tagOut_poisons (x := x) (by rw [ho, hload]; rfl)).2.1 _ ?_
    exact (congrArg (fun m => KMap.get false m (eccKey x.kind x.loc)) (hfound hecc).poison).trans (KMap.get_set_same false _ _ _)
  · exact (b.tagOut_tally x (T.CHK_UE x.kind) hlo (by omega) (by omega) (by omega)).trans ((hfound hecc).counted.trans
      (congrArg (fun n => tallyAdd n 1) (hother (T.CHK_UE x.kind) hlo (by omega) (by omega) (by omega))))

/-- A block damaged on its path, or read again sound, or a checker at fault (R520, R521, R530). -/
theorem tagCheckFail_sound (s : State) {x : TagCheck} (hx : tagKnown x = true) (hsource : ¬ (x.eccOk = false ∨ x.tagSrc ≠ x.tag1)) :
    let d := s.die
    (crc32c (padTo 256 x.data2) ≠ x.tag1.toNat → x.data2 ≠ x.data1 → x.load = none → s.completes (.tagCheckFail x) (fun t => t = { s with die := t.die }
        ∧ t.die.tally T.CHK_PATH = tallyAdd (d.tally T.CHK_PATH) 1 ∧ t.die.tally T.CHK_TAG_POISON = tallyAdd (d.tally T.CHK_TAG_POISON) 1
        ∧ ∀ l ∈ x.dstLocs, KMap.get false t.die.poison (eccKey x.dstKind l) = true))
    ∧ (crc32c (padTo 256 x.data2) = x.tag1.toNat → s.completes (.tagCheckFail x) (fun t => t = { s with die := t.die } ∧ d.report t.die
        ∧ t.die.tally T.CHK_PATH = tallyAdd (d.tally T.CHK_PATH) 1))
    ∧ (crc32c (padTo 256 x.data2) ≠ x.tag1.toNat → x.data2 = x.data1 → s.completes (.tagCheckFail x) (fun t => t = { s with die := t.die }
        ∧ t.die.tally T.CHK_CHECKER = tallyAdd (d.tally T.CHK_CHECKER) 1
        ∧ (x.echoEcc = true → crc32c (padTo 256 x.echo) = x.tag1.toNat → t.die.poison = d.poison
            ∧ ∀ n, x.tile = some n → t.die.on R.SHD_STATUS_OBSERVED (n / 512) = true))) := by
  intro d
  obtain ⟨-, -, hrange⟩ := tagKnown_ranges hx
  have hecc : x.eccOk = true := by
    cases hx : x.eccOk with
    | true => rfl
    | false => exact absurd (.inl hx) hsource
  have hv := tagVerdict_sound hsource
  obtain ⟨a, ha⟩ : ∃ a, s.die.tagHeard s.fused x = a := ⟨_, rfl⟩
  have hrep : d.report a := by rw [← ha]; exact s.die.tagHeard_report s.fused x
  have hcount : a.tally (tagTally x) = tallyAdd (d.tally (tagTally x)) 1 := by rw [← ha]; exact s.die.tagHeard_counts s.fused x
  obtain ⟨hapoison, -⟩ := s.die.tagHeard_keeps s.fused x
  rw [ha] at hapoison
  refine ⟨fun hpath hdata hload => ?_, fun hpath => ?_, fun hpath hdata => ?_⟩
  · rw [if_neg hpath, if_pos hdata] at hv
    have ho : tagOutcome x = 2 := (tagOutcome_lost (by rw [hv]) (.inr (.inr hecc))).trans (by rw [hload]; rfl)
    have htally : tagTally x = T.CHK_PATH := by
      unfold tagTally
      rw [hv]
      rfl
    rw [htally] at hcount
    have hother : a.tally T.CHK_TAG_POISON = d.tally T.CHK_TAG_POISON := by
      rw [← ha]
      exact s.die.tagHeard_tally s.fused x T.CHK_TAG_POISON (by decide) (by decide) (by decide) (by rw [htally]; decide)
    obtain ⟨hpoisons, -, hdst⟩ := a.tagOut_poisons ho
    refine State.completes_tagFail hx (by omega) ?_
    rw [Die.tagWatched_idle _ (by rw [hv]; decide), ha, a.tagStruck_sound hecc]
    exact ⟨rfl, (a.tagOut_tally x T.CHK_PATH (by decide) (by decide) (by decide) (by decide)).trans hcount, hpoisons.trans (congrArg (fun n => tallyAdd n 1) hother), hdst⟩
  · rw [if_pos hpath] at hv
    have ho : tagOutcome x = 1 := by
      unfold tagOutcome
      rw [hv]
      rfl
    have htally : tagTally x = T.CHK_PATH := by
      unfold tagTally
      rw [hv]
      rfl
    rw [htally] at hcount
    refine State.completes_tagFail hx (by omega) ?_
    rw [Die.tagWatched_idle _ (by rw [hv]; decide), ha, a.tagStruck_sound hecc, a.tagOut_delivered ho]
    exact ⟨rfl, hrep, hcount⟩
  · rw [if_neg hpath, if_neg (not_not.2 hdata)] at hv
    have hthree : (tagVerdict x).1 = 3 := by
      rw [hv]
      split <;> rfl
    have htally : tagTally x = T.CHK_CHECKER := by
      unfold tagTally
      rw [hthree]
      rfl
    rw [htally] at hcount
    have ho : tagOutcome x ≠ 4 := by
      unfold tagOutcome
      rw [hthree]
      split
      · decide
      · rw [if_neg (by omega)]
        split <;> decide
    refine State.completes_tagFail hx ho ?_
    rw [ha, a.tagStruck_sound hecc]
    have hnoted := (a.tagOut x).tagWatched_noted s.fused x
    refine ⟨rfl, (Die.chk_tally hnoted.chk T.CHK_CHECKER (by decide) (by decide) (by decide)).trans
      ((a.tagOut_tally x T.CHK_CHECKER (by decide) (by decide) (by decide) (by decide)).trans hcount), fun hecho htag => ?_⟩
    rw [if_pos (by rw [hecho, htag, beq_self_eq_true]; rfl)] at hv
    have hone : tagOutcome x = 1 := by
      unfold tagOutcome
      rw [hv]
      rfl
    have hout := a.tagOut_delivered hone
    refine ⟨((congrArg Die.poison hnoted.frame).trans rfl).trans ((congrArg Die.poison hout).trans hapoison), fun n hn => ?_⟩
    have hn512 : n / 512 < 8 := by have := hrange n hn; omega
    have hwatched : (a.tagOut x).tagWatched s.fused x = (a.tagOut x).observe s.fused (n / 512) := by
      unfold Die.tagWatched
      rw [hn]
      exact if_pos hv
    exact (congrArg (fun f => f.on R.SHD_STATUS_OBSERVED (n / 512)) hwatched).trans ((a.tagOut x).observe_observes s.fused hn512)

/-- The end of a quarantine (R514). -/
theorem pasQuarantineW_releases (p n : Nat) (d : Die) (hrelease : bit n 1 = true) : pasQuarantineW p n d = { d with regs := (pasQuarantineW p n d).regs }
    ∧ (d.on R.PAS_QUARANTINE_STATUS_PERSISTENT p = true → (pasQuarantineW p n d).get R.PAS_QUARANTINE_STATUS_QUARANTINED p = d.get R.PAS_QUARANTINE_STATUS_QUARANTINED p)
    ∧ (d.on R.PAS_QUARANTINE_STATUS_PERSISTENT p = false → (pasQuarantineW p n d).on R.PAS_QUARANTINE_STATUS_QUARANTINED p = false) := by
  have hregs := d.setFields_regs .PAS p 0x020 n
  have hpersistent := d.get_setFields_page .PAS p 0x020 n R.PAS_QUARANTINE_STATUS_PERSISTENT rfl (by decide)
  have hquarantined := d.get_setFields_page .PAS p 0x020 n R.PAS_QUARANTINE_STATUS_QUARANTINED rfl (by decide)
  unfold pasQuarantineW
  generalize d.setFields .PAS p 0x020 n = a at hregs hpersistent hquarantined ⊢
  have hon : a.on R.PAS_QUARANTINE_STATUS_PERSISTENT p = d.on R.PAS_QUARANTINE_STATUS_PERSISTENT p := congrArg (· == 1) hpersistent
  dsimp only
  rw [hrelease, hon]
  cases hp : d.on R.PAS_QUARANTINE_STATUS_PERSISTENT p with
  | true => exact ⟨hregs, fun _ => hquarantined, fun h => absurd h.symm Bool.false_ne_true⟩
  | false => exact ⟨congrArg (fun f => f.flag R.PAS_QUARANTINE_STATUS_QUARANTINED p false) hregs, fun h => absurd h Bool.false_ne_true, fun _ => Die.on_flag_same _ p false a rfl⟩

/-- A register's word stands. -/
def Die.wordKept (w : Nat) (d e : Die) : Prop := ∀ (f : Fld) (i : Nat), f.key i / 32 = w → e.get f i = d.get f i

theorem Die.wordKept_refl (w : Nat) (d : Die) : d.wordKept w d := fun _ _ _ => rfl

theorem Die.wordKept.trans {w : Nat} {a b c : Die} (h : a.wordKept w b) (k : b.wordKept w c) : a.wordKept w c := fun f i hf => (k f i hf).trans (h f i hf)

theorem Die.wordKept_ite {w : Nat} {c : Prop} [Decidable c] {d e f : Die} (h : d.wordKept w e) (k : d.wordKept w f) : d.wordKept w (if c then e else f) := by split <;> assumption

theorem Die.wordKept_of {w : Nat} (d e : Die) (h : e.regs = d.regs) : d.wordKept w e := fun _ _ _ => Die.get_congr _ _ h _ _

theorem Die.wordKept_put {w : Nat} (d : Die) (f : Fld) (i v : Nat) (h : f.key i / 32 ≠ w) : d.wordKept w (d.put f i v) :=
  fun _ _ hg => Die.get_put_other _ _ _ _ _ _ fun hk => h (by rw [← hk]; exact hg)

theorem Die.report.wordKept {w : Nat} {d e : Die} (h : d.report e) (hw : reportWord w = false) : d.wordKept w e := fun f i hf => h.get f i (by rw [hf]; exact hw)

/-- The crook's status stands while a lane goes to a new state (R429, R484). -/
theorem Die.wordKept_laneTo (l st cause : Nat) (d : Die) : d.wordKept 0x1800 (d.laneTo l st cause) := by
  have hpacket : d.wordKept 0x1800 ((d.put R.LNK_STATUS_STATE l st).linkPacket l (d.laneState l) st cause) :=
    (d.wordKept_put _ _ _ (by simp only [Fld.key, R.LNK_STATUS_STATE]; omega)).trans ((Die.report_trace _ (fun q hq => by cases hq) _).wordKept rfl)
  have hholdover (x : Die) : x.wordKept 0x1800 x.enterHoldover := by
    unfold Die.enterHoldover
    exact Die.wordKept_ite (((x.wordKept_put _ _ _ (by decide)).trans ((Die.report_count _ _ _).wordKept rfl)).trans (Die.wordKept_of _ _ rfl)) (x.wordKept_refl _)
  have hloss (x : Die) : x.wordKept 0x1800 x.refLoss := by
    have hstop : x.wordKept 0x1800 { x with pullIn := false } := Die.wordKept_of _ _ rfl
    unfold Die.refLoss
    refine Die.wordKept_ite ?_ hstop
    exact hstop.trans ((((Die.wordKept_put _ R.DEV_TIMING_STATUS_PLL_LOCK 0 0 (by decide)).trans (Die.wordKept_put _ R.DEV_TIMING_STATUS_REF_LOST 0 1 (by decide))).trans
      (Die.wordKept_put _ R.DEV_TIMING_STATUS_HOLDOVER 0 1 (by decide))).trans ((Die.report_alarm 9 (by decide) _).wordKept rfl))
  have hback (x : Die) : x.wordKept 0x1800 x.refBack := by
    unfold Die.refBack
    exact Die.wordKept_ite (x.wordKept_refl _) (Die.wordKept_of _ _ rfl)
  unfold Die.laneTo
  extract_lets old a b c
  have hb : a.wordKept 0x1800 b := Die.wordKept_ite (Die.wordKept_of _ _ rfl) (a.wordKept_refl _)
  have hc : b.wordKept 0x1800 c := Die.wordKept_ite ((b.report_incident 10 4 l l).wordKept rfl) (b.wordKept_refl _)
  refine Die.wordKept_ite (d.wordKept_refl _) (Die.wordKept.trans hpacket (hb.trans (hc.trans ?_)))
  exact Die.wordKept_ite ((Die.wordKept_ite (hloss c) (c.wordKept_refl _)).trans (hholdover _)) (Die.wordKept_ite (hback c) (c.wordKept_refl _))

/-- The links that come up again leave the rest of the die (R429, R517). -/
theorem Die.raiseLinks_keeps (d : Die) : d.wordKept 0x1800 d.raiseLinks ∧ d.raiseLinks.ecc = d.ecc ∧ d.raiseLinks.up = d.up ∧ d.raiseLinks.restoring = d.restoring := by
  unfold Die.raiseLinks
  generalize List.range 64 = ls
  induction ls generalizing d with
  | nil => exact ⟨d.wordKept_refl _, rfl, rfl, rfl⟩
  | cons l ls ih =>
    have hframe := (d.laneOnly_laneTo l 1 6).frame
    obtain ⟨a, ha⟩ : ∃ a, (if d.on R.LNK_CONTROL_ENABLE l then d.laneTo l 1 6 else d) = a := ⟨_, rfl⟩
    have hstep : d.wordKept 0x1800 a ∧ a.ecc = d.ecc ∧ a.up = d.up ∧ a.restoring = d.restoring := by
      rw [← ha]
      split
      · exact ⟨d.wordKept_laneTo l 1 6, (congrArg Die.ecc hframe).trans rfl, (congrArg Die.up hframe).trans rfl, (congrArg Die.restoring hframe).trans rfl⟩
      · exact ⟨d.wordKept_refl _, rfl, rfl, rfl⟩
    obtain ⟨hword, hecc, hup, hrest⟩ := hstep
    obtain ⟨hword', hecc', hup', hrest'⟩ := ih a
    rw [List.foldl_cons, ha]
    exact ⟨hword.trans hword', hecc'.trans hecc, hup'.trans hup, hrest'.trans hrest⟩

theorem Die.awake_keeps (d : Die) : d.awake.ecc = d.ecc ∧ d.awake.restoring = d.restoring := by
  have halive (x : Die) : x.aliveStart.ecc = x.ecc ∧ x.aliveStart.restoring = x.restoring := by
    unfold Die.aliveStart
    split <;> exact ⟨rfl, rfl⟩
  have helect (x : Die) : x.openElection.ecc = x.ecc ∧ x.openElection.restoring = x.restoring := by
    have h := (Die.report_count T.OWN_ELECTIONS 0 (x.flag R.OWN_STATUS_ELECTION 0 true)).1
    exact ⟨(congrArg Die.ecc h).trans rfl, (congrArg Die.restoring h).trans rfl⟩
  unfold Die.awake
  extract_lets a b
  obtain ⟨hecc, hrest⟩ := helect a.cancelHandover.aliveStart
  obtain ⟨hecc', hrest'⟩ := halive a.cancelHandover
  exact ⟨hecc.trans hecc', hrest.trans hrest'⟩

/-- The words of control-class memory. -/
def controlWord (k : Nat) : Bool := k / 2 ^ 40 == 2 || (decide (15 ≤ k / 2 ^ 40) && decide (k / 2 ^ 40 ≤ 19))

/-- The end of a restore (R517, R584). -/
theorem State.restoreDone_ends (s : State) (hrestoring : s.die.restoring = true) (hcel : s.cel.up = true) : s.restoreDone.cel = s.cel
    ∧ s.restoreDone.die.restoring = false ∧ s.restoreDone.die.up = true ∧ s.restoreDone.kill = { s.kill with running := true }
    ∧ s.restoreDone.die.on R.OWN_STATUS_HELD = false ∧ s.restoreDone.die.on R.OWN_STATUS_ELECTION = true
    ∧ ∀ k, 15 ≤ k / 2 ^ 40 → k / 2 ^ 40 ≤ 19 → KMap.get 0 s.restoreDone.die.ecc k = 0 := by
  obtain ⟨a, ha⟩ : ∃ a, pastures.foldl (fun d p => d.restorePas s.fused p) s.die = a := ⟨_, rfl⟩
  obtain ⟨b, hb⟩ : ∃ b : Die, { a with ecc := KMap.keep a.ecc (fun k => !(controlWord k)), restoring := false } = b := ⟨_, rfl⟩
  have hdone : s.restoreDone = { s with die := b.awake.raiseLinks, kill := { s.kill with running := true } } := by
    unfold State.restoreDone
    rw [if_pos ⟨hrestoring, hcel⟩, ha, ← hb]
    rfl
  have hbrest : b.restoring = false := (congrArg Die.restoring hb).symm
  have hbecc : b.ecc = KMap.keep a.ecc (fun k => !(controlWord k)) := (congrArg Die.ecc hb).symm
  obtain ⟨hup, -, -, hheld, helection⟩ := b.awake_elects
  obtain ⟨hecc, hrest⟩ := b.awake_keeps
  obtain ⟨hword, hecc', hup', hrest'⟩ := b.awake.raiseLinks_keeps
  have hheldKept : b.awake.raiseLinks.on R.OWN_STATUS_HELD = b.awake.on R.OWN_STATUS_HELD := by rw [Die.on, hword R.OWN_STATUS_HELD 0 (by decide), Die.on]
  have helectionKept : b.awake.raiseLinks.on R.OWN_STATUS_ELECTION = b.awake.on R.OWN_STATUS_ELECTION := by
    rw [Die.on, hword R.OWN_STATUS_ELECTION 0 (by decide), Die.on]
  rw [hdone]
  refine ⟨rfl, hrest'.trans (hrest.trans hbrest), hup'.trans hup, rfl, ?_, ?_, fun k hlo hhi => ?_⟩
  · dsimp only
    rw [hheldKept]
    exact hheld
  · dsimp only
    rw [helectionKept]
    exact helection
  · have hcontrol : controlWord k = true := by
      unfold controlWord
      simp only [Bool.or_eq_true, Bool.and_eq_true, decide_eq_true_eq]
      exact .inr ⟨hlo, hhi⟩
    refine (congrArg (fun m => KMap.get 0 m k) ((hecc'.trans hecc).trans hbecc)).trans ?_
    rw [KMap.get_keep, hcontrol]
    rfl

/-- Settles O45: each find and each failed check counts its own tally, what it poisons or ends is the rest, and no report touches the page of the checks. -/
theorem errorsFound : Obligations.ErrorsFound := by
  unfold Obligations.ErrorsFound
  intro s
  dsimp only
  refine ⟨fun kind loc err last hkind => ?_, fun x hx => ⟨fun hsource hclass => ?_, fun hsource hpath hdata hload => ?_, fun hpath => ?_, fun hsource hpath hdata => ?_⟩,
    fun src p w hp hw hrelease => ?_, fun hrestoring hcel => ?_⟩
  · obtain ⟨hpoison, hmild⟩ := scrubRead_mild s kind loc err last hkind
    exact ⟨hpoison, fun h => ⟨(hmild h).1, (hmild h).2, scrubRead_uncorrectable s kind loc err last hkind h⟩⟩
  · exact tagCheckFail_source s hx hsource hclass
  · exact (tagCheckFail_sound s hx hsource).1 (fun h => hpath ⟨hsource, h⟩) hdata hload
  · exact (tagCheckFail_sound s hx hpath.1).2.1 hpath.2
  · exact (tagCheckFail_sound s hx hsource).2.2 (fun h => hpath ⟨hsource, h⟩) hdata
  · obtain ⟨hregs, hpersistent, hends⟩ := pasQuarantineW_releases p w.toNat s.die hrelease
    have hdie := writeDie_admitted hw (pasQuarantineW p w.toNat)
    refine ⟨{ s with die := pasQuarantineW p w.toNat s.die }, ?_, congrArg (fun d => { s with die := d }) hregs, hpersistent, hends⟩
    exact (if_pos (decide_eq_true hp)).trans (congrArg (fun d => Host.Outcome.next { s with die := d }) hdie)
  · exact ⟨_, rfl, s.restoreDone_ends hrestoring hcel⟩

end Sys2Proof.Machine
end

section
/-! SUPPORT. A launch queue that stands twice in the state, emptied for a withdrawal (R301, R391). -/

namespace Sys2Proof.Machine

def committedEntry : LaunchEnt := { mode := 1 }

/-- The slots of pasture 0 have retired. Its queue 0 stands twice among the launch queues, empty first and then with one committed entry. -/
def twiceQueued : State :=
  { die := { pas := [(0, { leaving := 1 })], launch := [(0, []), (0, [committedEntry])], ports := [(0, { line := [{ ent := committedEntry, start := 0 }] })] } }

/-- Queue 0 after a command. -/
def queueAfter (c : Instr) (s : State) : Option (List LaunchEnt) :=
  match exec c s with
  | .next t => some (KMap.get [] t.die.launch 0)
  | _ => none

theorem withdrawSlotsRetired_twiceQueued : queueAfter (.withdrawSlotsRetired 0) twiceQueued = some [committedEntry] := by decide +kernel

/-- Refutes O22: the launch queues of a state are any association list. In `twiceQueued` the committed entry is the first of the second list kept for queue 0; the
withdrawal drops the empty list before it, so the entry stands in queue 0 afterwards, while the head that the obligation asks for, of the queue before, is none. -/
theorem not_imagesComeAndGo : ¬ Obligations.ImagesComeAndGo := by
  rintro ⟨-, h⟩
  obtain ⟨-, hretired, -⟩ := h twiceQueued 0 (by decide)
  obtain ⟨t, hexec, -, hgone, -⟩ := hretired (by decide +kernel) (by decide +kernel)
  have hrun := withdrawSlotsRetired_twiceQueued
  rw [queueAfter, hexec] at hrun
  have hmem : committedEntry ∈ KMap.get [] t.die.launch 0 := by
    rw [Option.some.inj hrun]
    exact List.mem_singleton_self _
  rcases hgone 0 committedEntry hmem rfl with hmode | ⟨-, hhead⟩
  · exact absurd hmode (by decide)
  · exact absurd hhead (by decide)

end Sys2Proof.Machine
end

section
/-! SUPPORT. The phases of a calibration and what a START, an ABORT and a refusal leave (R268 to R270). -/

namespace Sys2Proof.Machine

/-- `f` has the tiles, the rows and the directory of `d`. -/
structure Die.holdsStore (d f : Die) : Prop where
  tiles : f.tiles = d.tiles
  rows : f.rows = d.rows
  dir : f.dir = d.dir

theorem Die.holdsStore_refl (d : Die) : d.holdsStore d := ⟨rfl, rfl, rfl⟩

theorem Die.holdsStore.trans {a b c : Die} (h : a.holdsStore b) (k : b.holdsStore c) : a.holdsStore c := ⟨k.tiles.trans h.tiles, k.rows.trans h.rows, k.dir.trans h.dir⟩

theorem Die.report.holdsStore {d f : Die} (h : d.report f) : d.holdsStore f := ⟨(congrArg Die.tiles h.1).trans rfl, (congrArg Die.rows h.1).trans rfl, (congrArg Die.dir h.1).trans rfl⟩

/-- `f` differs from `d` in the pastures' parts of the engines alone. -/
structure Die.engOnly (d f : Die) : Prop where
  frame : f = { d with eng := f.eng }

theorem Die.engOnly_foldl {α : Type} (g : Die → α → Die) (h : ∀ d x, Die.engOnly d (g d x)) (l : List α) (d : Die) : d.engOnly (l.foldl g d) := by
  induction l generalizing d with
  | nil => exact ⟨rfl⟩
  | cons x l ih =>
    obtain ⟨hx⟩ := h d x
    obtain ⟨hl⟩ := ih (g d x)
    rw [List.foldl_cons]
    exact ⟨hl.trans (by rw [hx])⟩

theorem Die.engOnly.holdsStore {d f : Die} (h : d.engOnly f) : d.holdsStore f := ⟨(congrArg Die.tiles h.frame).trans rfl, (congrArg Die.rows h.frame).trans rfl, (congrArg Die.dir h.frame).trans rfl⟩

theorem Die.engOnly.get {d f : Die} (h : d.engOnly f) (g : Fld) (i : Nat) : f.get g i = d.get g i := Die.get_congr _ _ ((congrArg Die.regs h.frame).trans rfl) _ _

theorem Die.calUntag_engOnly (p : Nat) (d : Die) : d.engOnly (d.calUntag p) :=
  Die.engOnly_foldl _ (fun d _ => Die.engOnly_foldl _ (fun _ _ => ⟨rfl⟩) _ d) _ d

theorem calWord_plain {p : Nat} (hp : p < 64) (f : Fld) (hb : f.base = 0x380000) (ho : f.off < 0x1000) (hl : f.lo < 32) : reportWord (f.key p / 32) = false :=
  reportWord_above (by simp only [Fld.key, hb]; omega) (.inr (.inl (by simp only [Fld.key, hb]; omega)))

theorem calRefuse_quiet {p : Nat} : loftTally (T.FAB_CAL_REFUSE.key p) = false :=
  loftTally_false (by simp only [Tal.key, T.FAB_CAL_REFUSE]; omega)

/-- What a refusal of a calibration leaves (R268 to R270). -/
theorem Die.calRefuse_refuses {p : Nat} (hp : p < 64) (code t : Nat) (hcode : code < 16) (d : Die) : d.holdsStore (d.calRefuse p code t) ∧ (d.calRefuse p code t).eng = d.eng
    ∧ (d.calRefuse p code t).get R.FAB_CAL_STATUS_PHASE p = 0 ∧ (d.calRefuse p code t).get R.FAB_CAL_STATUS_RESULT p = code
    ∧ (d.calRefuse p code t).get R.FAB_CAL_STATUS_TENSOR p = t % 2 ^ 16 ∧ (d.calRefuse p code t).tally T.FAB_CAL_REFUSE p = tallyAdd (d.tally T.FAB_CAL_REFUSE p) 1 := by
  obtain ⟨a, ha⟩ : ∃ a, ((d.put R.FAB_CAL_STATUS_PHASE p 0).put R.FAB_CAL_STATUS_RESULT p code).put R.FAB_CAL_STATUS_TENSOR p t = a := ⟨_, rfl⟩
  have hrep := a.report_count T.FAB_CAL_REFUSE p
  have hget (f : Fld) (hb : f.base = 0x380000) (ho : f.off < 0x1000) (hl : f.lo < 32) : (d.calRefuse p code t).get f p = a.get f p := by
    rw [← ha]
    exact (ha ▸ hrep).get f p (calWord_plain hp f hb ho hl)
  have hstore : d.holdsStore (a.count T.FAB_CAL_REFUSE p) := Die.holdsStore.trans (b := a) (by rw [← ha]; exact ⟨rfl, rfl, rfl⟩) hrep.holdsStore
  have heng : (a.count T.FAB_CAL_REFUSE p).eng = d.eng := ((congrArg Die.eng hrep.1).trans rfl).trans (by rw [← ha]; rfl)
  have htally : (a.count T.FAB_CAL_REFUSE p).tally T.FAB_CAL_REFUSE p = tallyAdd (d.tally T.FAB_CAL_REFUSE p) 1 :=
    (Die.tally_count_same _ _ _ calRefuse_quiet).trans (by rw [← ha]; rfl)
  have hphase : a.get R.FAB_CAL_STATUS_PHASE p = 0 := by
    rw [← ha, Die.get_put_apart _ _ _ _ _ (by decide), Die.get_put_apart _ _ _ _ _ (by decide), Die.get_put_same]
    rfl
  have hresult : a.get R.FAB_CAL_STATUS_RESULT p = code := by
    rw [← ha, Die.get_put_apart _ _ _ _ _ (by decide), Die.get_put_same]
    exact Nat.mod_eq_of_lt hcode
  have htensor : a.get R.FAB_CAL_STATUS_TENSOR p = t % 2 ^ 16 := by
    rw [← ha, Die.get_put_same]
    rfl
  have hdef : d.calRefuse p code t = (a.count T.FAB_CAL_REFUSE p).onPas p (fun q => { q with cal := {} }) := by rw [← ha]; rfl
  refine ⟨?_, ?_, (hget _ rfl (by decide) (by decide)).trans hphase, (hget _ rfl (by decide) (by decide)).trans hresult, (hget _ rfl (by decide) (by decide)).trans htensor, ?_⟩
  · rw [hdef]; exact ⟨hstore.tiles, hstore.rows, hstore.dir⟩
  · rw [hdef]; exact heng
  · rw [hdef]; exact htally

/-- A calibration that ends leaves the rest (R268). -/
theorem Die.calEnd_ends (p : Nat) (d : Die) : d.holdsStore (d.calEnd p) ∧ (d.calEnd p).eng = d.eng ∧ (d.calEnd p).tallies = d.tallies ∧ (d.calEnd p).image p = d.image p
    ∧ (d.calEnd p).get R.FAB_CAL_STATUS_PHASE p = 0 ∧ (d.get R.FAB_CAL_STATUS_PHASE p ≠ 0 → (d.calEnd p).get R.FAB_CAL_STATUS_RESULT p = 7)
    ∧ ∀ f : Fld, f.base + f.off < 0x380810 → f.lo < 32 → (d.calEnd p).get f p = d.get f p := by
  by_cases h : d.get R.FAB_CAL_STATUS_PHASE p = 0
  · rw [Die.calEnd, if_pos h]
    exact ⟨d.holdsStore_refl, rfl, rfl, rfl, h, fun hne => absurd h hne, fun _ _ _ => rfl⟩
  · obtain ⟨b, hb⟩ : ∃ b, (d.put R.FAB_CAL_STATUS_PHASE p 0).put R.FAB_CAL_STATUS_RESULT p 7 = b := ⟨_, rfl⟩
    have hphase : b.get R.FAB_CAL_STATUS_PHASE p = 0 := by
      rw [← hb, Die.get_put_apart _ _ _ _ _ (by decide), Die.get_put_same]
      rfl
    have hresult : b.get R.FAB_CAL_STATUS_RESULT p = 7 := by
      rw [← hb, Die.get_put_same]
      rfl
    have himage : b.image p = d.image p := by rw [← hb]; rfl
    have hkept : d.holdsStore b ∧ b.eng = d.eng ∧ b.tallies = d.tallies := by rw [← hb]; exact ⟨⟨rfl, rfl, rfl⟩, rfl, rfl⟩
    have hget (f : Fld) (hf : f.base + f.off < 0x380810) (hl : f.lo < 32) : b.get f p = d.get f p := by
      rw [← hb, Die.get_put_apart _ _ _ _ _ (by simp only [R.FAB_CAL_STATUS_RESULT]; omega), Die.get_put_apart _ _ _ _ _ (by simp only [R.FAB_CAL_STATUS_PHASE]; omega)]
    rw [Die.calEnd, if_neg h, hb]
    refine ⟨⟨hkept.1.tiles, hkept.1.rows, hkept.1.dir⟩, hkept.2.1, hkept.2.2, ?_, hphase, fun _ => hresult, hget⟩
    rw [Die.image, Die.pasture_onPas_same]
    exact himage

/-- The tensors that a START names (R268). -/
def calNamed (im : Image) (id : Nat) : List Tensor := if id = 0xFFFF then im.tensors.filter (fun t => t.calib) else (tensorOf im id).toList

theorem minBy_none {α : Type} (f : α → Nat) (l : List α) : minBy f l = none ↔ l = [] := by
  cases l with
  | nil => exact ⟨fun _ => rfl, fun _ => rfl⟩
  | cons x xs =>
    refine ⟨fun h => absurd h ?_, fun h => absurd h (List.cons_ne_nil _ _)⟩
    rw [minBy]
    split
    · exact Option.some_ne_none _
    · split <;> exact Option.some_ne_none _

/-- The least of a list is in it, and no other is less. -/
theorem minBy_least {α : Type} {f : α → Nat} {l : List α} {x : α} (h : minBy f l = some x) : x ∈ l ∧ ∀ y ∈ l, f x ≤ f y := by
  induction l generalizing x with
  | nil => cases h
  | cons a as ih =>
    rw [minBy] at h
    split at h
    next hnone =>
      cases h
      rw [(minBy_none f as).1 hnone]
      exact ⟨List.mem_singleton_self _, fun y hy => by rw [List.mem_singleton.1 hy]⟩
    next y hy =>
      obtain ⟨hmem, hle⟩ := ih hy
      split at h
      next hxy =>
        cases h
        refine ⟨List.mem_cons_self, fun z hz => ?_⟩
        rcases List.mem_cons.1 hz with rfl | hz
        · exact le_refl _
        · exact hxy.trans (hle z hz)
      next hxy =>
        cases h
        refine ⟨List.mem_cons_of_mem _ hmem, fun z hz => ?_⟩
        rcases List.mem_cons.1 hz with rfl | hz
        · omega
        · exact hle z hz

/-- The die on which a START of a calibration acts, its write taken and the calibration before it ended. -/
def Die.calFresh (p w : Nat) (d : Die) : Die := (d.setFields .FAB p 0x020 w).calEnd p

theorem Die.calFresh_holds (p w : Nat) (d : Die) : d.holdsStore (d.calFresh p w) ∧ (d.calFresh p w).eng = d.eng ∧ (d.calFresh p w).tallies = d.tallies
    ∧ (d.calFresh p w).image p = d.image p ∧ (d.calFresh p w).get R.FAB_CAL_TENSOR p = bits w 0 16 := by
  have hregs := d.setFields_regs .FAB p 0x020 w
  have htensor := d.get_setFields_rw .FAB p 0x020 w ⟨R.FAB_CAL_TENSOR, any⟩ (.head _) rfl
  unfold Die.calFresh
  generalize d.setFields .FAB p 0x020 w = a at hregs htensor ⊢
  obtain ⟨hstore, heng, htal, himage, -, -, hget⟩ := a.calEnd_ends p
  refine ⟨⟨hstore.tiles.trans ((congrArg Die.tiles hregs).trans rfl), hstore.rows.trans ((congrArg Die.rows hregs).trans rfl), hstore.dir.trans ((congrArg Die.dir hregs).trans rfl)⟩,
    heng.trans ((congrArg Die.eng hregs).trans rfl), htal.trans ((congrArg Die.tallies hregs).trans rfl), himage.trans ?_, ?_⟩
  · rw [Die.image, Die.pasture, congrArg Die.pas hregs]
    rfl
  · exact (hget R.FAB_CAL_TENSOR (by decide) (by decide)).trans (htensor.trans (if_pos rfl))

theorem Die.calibratable_congr {d f : Die} (h : f.eng = d.eng) (p : Nat) (im : Image) (t : Tensor) : f.calibratable p im t = d.calibratable p im t := by
  unfold Die.calibratable Die.engPas
  rw [h]

/-- The pasture's calibration after a START that is taken. -/
def PasSt.calBegun (im : Image) (id log2ev : Nat) (q : PasSt) : PasSt := { q with cal := { tensors := (calNamed im id).map (fun t => t.id), target := id, log2ev := log2ev } }

/-- The tensor of a START that cannot be calibrated now, if there is one: the one of the lowest number. -/
def Die.calBad (d : Die) (p : Nat) (im : Image) (id : Nat) : Option Tensor := minBy (fun t => t.id) ((calNamed im id).filter (fun t => !(d.calibratable p im t)))

/-- What a START does (R268). -/
theorem fabCalW_starts {p w : Nat} {im : Image} {d : Die} (himage : d.image p = some im) (hphase : d.get R.FAB_CAL_STATUS_PHASE p ≠ 3) (hw : bit w 24 = true) :
    (∀ t, d.calBad p im (bits w 0 16) = some t → fabCalW p w d = (d.calFresh p w).calRefuse p 6 t.id)
    ∧ (d.calBad p im (bits w 0 16) = none → calNamed im (bits w 0 16) = [] → fabCalW p w d = (d.calFresh p w).calRefuse p 6 (bits w 0 16))
    ∧ (d.calBad p im (bits w 0 16) = none → calNamed im (bits w 0 16) ≠ [] → fabCalW p w d
        = (((d.calFresh p w).calUntag p).put R.FAB_CAL_STATUS_PHASE p 1).onPas p (PasSt.calBegun im (bits w 0 16) ((d.calFresh p w).get R.FAB_CAL_LOG2EV p))) := by
  obtain ⟨-, heng, -, hfreshImage, htensor⟩ := d.calFresh_holds p w
  have hkept : (d.setFields .FAB p 0x020 w).get R.FAB_CAL_STATUS_PHASE p ≠ 3 := by
    rw [Die.get_setFields_page _ _ _ _ _ _ rfl (by decide)]
    exact hphase
  have hlow : lowestWo w [24, 25] = some 24 := by
    unfold lowestWo
    rw [List.find?_cons_of_pos hw]
  have hbad (l : List Tensor) : l.filter (fun t => !((d.calFresh p w).calibratable p im t)) = l.filter (fun t => !(d.calibratable p im t)) :=
    List.filter_congr (fun t _ => by rw [Die.calibratable_congr heng p im t])
  have hgo : fabCalW p w d = (d.setFields .FAB p 0x020 w).calStart p := by
    unfold fabCalW
    dsimp only
    rw [hlow] <;> rfl
  obtain ⟨a, ha⟩ : ∃ a, (d.setFields .FAB p 0x020 w).calEnd p = a := ⟨_, rfl⟩
  have hfresh : d.calFresh p w = a := ha
  rw [hfresh] at hfreshImage htensor hbad
  rw [hgo, hfresh]
  unfold Die.calStart Die.calBad
  rw [if_neg hkept]
  dsimp only
  rw [ha, hfreshImage.trans himage]
  dsimp only
  rw [htensor]
  rw [show (if bits w 0 16 = 0xFFFF then im.tensors.filter (fun t => t.calib) else (tensorOf im (bits w 0 16)).toList) = calNamed im (bits w 0 16) from rfl, hbad]
  refine ⟨fun t ht => ?_, fun hnone hnil => ?_, fun hnone hcons => ?_⟩
  · rw [ht]
  · rw [hnone, hnil]
  · rw [hnone]
    split
    next heq => cases heq
    next hnil => exact absurd hnil hcons
    next => rfl

theorem lowestWo_second {w a b : Nat} (ha : bit w a = false) (hb : bit w b = true) : lowestWo w [a, b] = some b := by
  unfold lowestWo
  rw [List.find?_cons_of_neg (by rw [ha]; exact Bool.false_ne_true), List.find?_cons_of_pos hb]

/-- What an ABORT of a calibration leaves (R268). -/
theorem fabCalW_aborts {p w : Nat} {d : Die} (h24 : bit w 24 = false) (h25 : bit w 25 = true) (hphase : d.get R.FAB_CAL_STATUS_PHASE p ≠ 0) : d.holdsStore (fabCalW p w d)
    ∧ (fabCalW p w d).get R.FAB_CAL_STATUS_PHASE p = 0 ∧ (fabCalW p w d).get R.FAB_CAL_STATUS_RESULT p = 7 ∧ (fabCalW p w d).tallies = d.tallies := by
  have hgo : fabCalW p w d = d.calFresh p w := by
    unfold fabCalW
    dsimp only
    rw [lowestWo_second h24 h25] <;> rfl
  have hkept : (d.setFields .FAB p 0x020 w).get R.FAB_CAL_STATUS_PHASE p ≠ 0 := by
    rw [Die.get_setFields_page _ _ _ _ _ _ rfl (by decide)]
    exact hphase
  obtain ⟨hstore, -, htal, -, -⟩ := d.calFresh_holds p w
  obtain ⟨-, -, -, -, hzero, hresult, -⟩ := (d.setFields .FAB p 0x020 w).calEnd_ends p
  rw [hgo]
  exact ⟨hstore, hzero, hresult hkept, htal⟩

/-- A phase of a calibration is over once its events have come and have retired (R269). -/
theorem Die.calPhaseOver_of {p : Nat} {d : Die} (hevents : 2 ^ (d.pasture p).cal.log2ev ≤ (d.pasture p).cal.events)
    (hretired : ∀ e, e < 8 → ∀ sl ∈ (d.engPas e p).flight, (KMap.get {} (d.engPas e p).slots sl).cal ≠ d.get R.FAB_CAL_STATUS_PHASE p) : d.calPhaseOver p = true := by
  unfold Die.calPhaseOver
  dsimp only
  rw [decide_eq_true hevents, Bool.true_and, List.all_eq_true]
  intro e he
  rw [List.all_eq_true]
  intro sl hsl
  exact bne_iff_ne.2 (hretired e (List.mem_range.1 he) sl hsl)

theorem calStart_completes {s : State} {src : Source} {p : Nat} {w : Word} (hp : p < 64) (hadm : s.admits src .FAB p 0x020) {P : State → Prop}
    (h : P { s with die := fabCalW p w.toNat s.die }) : s.completes (.calStart src p w) P :=
  ⟨_, (if_pos (decide_eq_true hp)).trans (congrArg (fun d => Host.Outcome.next { s with die := d }) (writeDie_admitted hadm _)), h⟩

theorem calAbort_completes {s : State} {src : Source} {p : Nat} {w : Word} (hp : p < 64) (hadm : s.admits src .FAB p 0x020) {P : State → Prop}
    (h : P { s with die := fabCalW p w.toNat s.die }) : s.completes (.calAbort src p w) P :=
  ⟨_, (if_pos (decide_eq_true hp)).trans (congrArg (fun d => Host.Outcome.next { s with die := d }) (writeDie_admitted hadm _)), h⟩

/-- What a START that begins a calibration leaves (R268). -/
theorem fabCalW_begins {p w : Nat} {im : Image} {d : Die} (himage : d.image p = some im) (hphase : d.get R.FAB_CAL_STATUS_PHASE p ≠ 3) (hw : bit w 24 = true)
    (hne : calNamed im (bits w 0 16) ≠ []) (hwant : ∀ x ∈ calNamed im (bits w 0 16), d.calibratable p im x = true) : d.holdsStore (fabCalW p w d)
    ∧ (fabCalW p w d).get R.FAB_CAL_STATUS_PHASE p = 1 ∧ ((fabCalW p w d).pasture p).cal.tensors = (calNamed im (bits w 0 16)).map (fun x => x.id)
    ∧ ((fabCalW p w d).pasture p).cal.target = bits w 0 16 ∧ ((fabCalW p w d).pasture p).cal.events = 0 := by
  have hnone : d.calBad p im (bits w 0 16) = none := by
    unfold Die.calBad
    rw [minBy_none, List.filter_eq_nil_iff]
    intro x hx h
    rw [hwant x hx] at h
    cases h
  have hstore := (d.calFresh_holds p w).1.trans ((d.calFresh p w).calUntag_engOnly p).holdsStore
  obtain ⟨a, ha⟩ : ∃ a, (d.calFresh p w).calUntag p = a := ⟨_, rfl⟩
  obtain ⟨n, hn⟩ : ∃ n, (d.calFresh p w).get R.FAB_CAL_LOG2EV p = n := ⟨_, rfl⟩
  rw [ha] at hstore
  rw [(fabCalW_starts himage hphase hw).2.2 hnone hne, ha, hn, Die.pasture_onPas_same]
  refine ⟨⟨hstore.tiles, hstore.rows, hstore.dir⟩, ?_, rfl, rfl, rfl⟩
  exact Die.get_put_same a R.FAB_CAL_STATUS_PHASE p 1

/-- What a START that is refused leaves (R268). -/
theorem fabCalW_refuses {p w : Nat} {im : Image} {d : Die} (hp : p < 64) (himage : d.image p = some im) (hphase : d.get R.FAB_CAL_STATUS_PHASE p ≠ 3) (hw : bit w 24 = true) (bad : Nat)
    (hbad : (calNamed im (bits w 0 16) = [] ∧ bad = bits w 0 16) ∨ (∃ x ∈ calNamed im (bits w 0 16), ¬ d.calibratable p im x = true ∧ bad = x.id
      ∧ ∀ y ∈ calNamed im (bits w 0 16), ¬ d.calibratable p im y = true → x.id ≤ y.id)) :
    d.holdsStore (fabCalW p w d) ∧ (fabCalW p w d).get R.FAB_CAL_STATUS_PHASE p = 0 ∧ (fabCalW p w d).get R.FAB_CAL_STATUS_RESULT p = 6
    ∧ (fabCalW p w d).get R.FAB_CAL_STATUS_TENSOR p = bad % 2 ^ 16 ∧ (fabCalW p w d).tally T.FAB_CAL_REFUSE p = tallyAdd (d.tally T.FAB_CAL_REFUSE p) 1 := by
  obtain ⟨hfresh, -, htal, -⟩ := d.calFresh_holds p w
  have hrefused : fabCalW p w d = (d.calFresh p w).calRefuse p 6 bad := by
    obtain ⟨hsome, hnil, -⟩ := fabCalW_starts himage hphase hw
    rcases hbad with ⟨hnamed, rfl⟩ | ⟨x, hx, hcannot, rfl, hleast⟩
    · refine hnil ?_ hnamed
      unfold Die.calBad
      rw [hnamed]
      rfl
    · have hxin : x ∈ (calNamed im (bits w 0 16)).filter (fun t => !(d.calibratable p im t)) :=
        List.mem_filter.2 ⟨hx, by rw [Bool.eq_false_of_not_eq_true hcannot]; rfl⟩
      cases hmin : d.calBad p im (bits w 0 16) with
      | none =>
        rw [(minBy_none _ _).1 hmin] at hxin
        cases hxin
      | some t =>
        obtain ⟨ht, hle⟩ := minBy_least hmin
        obtain ⟨htin, htbad⟩ := List.mem_filter.1 ht
        have hcannot : ¬ d.calibratable p im t = true := by
          intro h
          rw [h] at htbad
          cases htbad
        rw [hsome t hmin, le_antisymm (hle x hxin) (hleast t htin hcannot)]
  obtain ⟨hstore, -, hzero, hresult, htensor, htally⟩ := (d.calFresh p w).calRefuse_refuses hp 6 bad (by decide)
  rw [hrefused]
  exact ⟨hfresh.trans hstore, hzero, hresult, htensor, htally.trans (by rw [Die.tally, htal, Die.tally])⟩

end Sys2Proof.Machine
end

section
/-! SUPPORT. The ends of the observe and the verify phase, the commit point and the expert write of a scale (R248, R249, R269 to R272). -/

namespace Sys2Proof.Machine

/-- A pasture whose calibration goes on to its verify phase. -/
def PasSt.calVerifying (c : CalSt) (prop : KMap (Option (List Int))) (q : PasSt) : PasSt := { q with cal := { c with events := 0, proposal := prop } }

/-- The end of the observe phase (R269). -/
theorem execCalObserveEnd_ends {s : State} {p : Nat} {im : Image} (hp : p < 64) (himage : s.die.image p = some im) (hphase : s.die.get R.FAB_CAL_STATUS_PHASE p = 1)
    (hover : s.die.calPhaseOver p = true) :
    ∃ prop, exec (.calObserveEnd p) s = .next { s with die := (s.die.put R.FAB_CAL_STATUS_PHASE p 2).onPas p (PasSt.calVerifying (s.die.pasture p).cal prop) } := by
  change ∃ prop, execCalObserveEnd p s = _
  unfold execCalObserveEnd dieCmd
  rw [if_pos (decide_eq_true hp)]
  dsimp only
  rw [himage]
  dsimp only
  rw [if_pos ⟨hphase, hover⟩]
  exact ⟨_, rfl⟩

/-- The verdict of the verify phase: the lowest-numbered tensor that fails, with its result and share (R270). -/
def Die.calFailed (d : Die) (p : Nat) (im : Image) (c : CalSt) : Option (Nat × Nat × Nat) :=
  minBy (fun r => r.1) ((c.tensors.map (fun id => (id, d.calCheck p im id))).filter (fun r => r.2.1 != 0))

/-- An engine that takes the proposals of a calibration (R270). -/
def EngPas.calTaken (im : Image) (c : CalSt) (g : EngPas) : EngPas :=
  { g with resumed := false
           statics := c.tensors.foldl (fun m id => match tensorOf im id, KMap.get none c.proposal id with
             | some t, some es => KMap.set none m id (some (es, (g.staticOf t).2))
             | _, _ => m) g.statics }

/-- A pasture in which tensors have new static values. -/
def PasSt.alsoChanged (l : List Nat) (q : PasSt) : PasSt := { q with changed := q.changed ++ l }

def Die.calPassed (p target share : Nat) (d : Die) : Die :=
  ((d.put R.FAB_CAL_SHARE_SHARE p share).put R.FAB_CAL_STATUS_PHASE p 3).put R.FAB_CAL_STATUS_TENSOR p target

/-- The die once every tensor has passed: its proposals are static in every engine of the image (R270). -/
def Die.calDone (p : Nat) (im : Image) (c : CalSt) (share : Nat) (d : Die) : Die :=
  ((enginesOf im).foldl (fun d e => d.onEng e p (EngPas.calTaken im c)) (d.calPassed p c.target share)).onPas p (PasSt.alsoChanged c.tensors)

/-- The end of the verify phase (R270). -/
theorem execCalVerifyEnd_ends {s : State} {p : Nat} {im : Image} (hp : p < 64) (himage : s.die.image p = some im) (hphase : s.die.get R.FAB_CAL_STATUS_PHASE p = 2)
    (hover : s.die.calPhaseOver p = true) :
    (∀ r, s.die.calFailed p im (s.die.pasture p).cal = some r → exec (.calVerifyEnd p) s = .next { s with die := (s.die.put R.FAB_CAL_SHARE_SHARE p r.2.2).calRefuse p r.2.1 r.1 })
    ∧ (s.die.calFailed p im (s.die.pasture p).cal = none → ∃ share, exec (.calVerifyEnd p) s = .next { s with die := s.die.calDone p im (s.die.pasture p).cal share }) := by
  change (∀ r, _ → execCalVerifyEnd p s = _) ∧ (_ → ∃ share, execCalVerifyEnd p s = _)
  unfold execCalVerifyEnd dieCmd Die.calFailed
  rw [if_pos (decide_eq_true hp)]
  dsimp only
  rw [himage]
  dsimp only
  rw [if_pos ⟨hphase, hover⟩]
  refine ⟨fun r hr => ?_, fun hnone => ⟨(((s.die.pasture p).cal.tensors.map (fun id => (id, s.die.calCheck p im id))).map (fun r => r.2.2)).foldl max 0, ?_⟩⟩
  · rw [hr]
  · rw [hnone] <;> rfl

/-- Every engine of a list is changed once. -/
theorem Die.engPas_onEng_foldl (p : Nat) (f : EngPas → EngPas) (l : List Nat) (hl : l.Nodup) (d : Die) (e : Nat) :
    (l.foldl (fun d e => d.onEng e p f) d).engPas e p = if e ∈ l then f (d.engPas e p) else d.engPas e p := by
  induction l generalizing d with
  | nil => rfl
  | cons a l ih =>
    obtain ⟨ha, hl⟩ := List.nodup_cons.1 hl
    rw [List.foldl_cons, ih hl]
    by_cases h : e = a
    · subst h
      rw [if_neg ha, if_pos List.mem_cons_self, Die.engPas_onEng_same]
    · have hother : (d.onEng a p f).engPas e p = d.engPas e p := KMap.get_upd_other _ _ _ _ _ (by omega)
      rw [hother]
      simp only [List.mem_cons, h, false_or]

theorem enginesOf_nodup (im : Image) : (enginesOf im).Nodup := List.Nodup.filter _ List.nodup_range

theorem tensorOf_id {im : Image} {id : Nat} {t : Tensor} (h : tensorOf im id = some t) : t.id = id := by
  have := List.find?_some h
  exact beq_iff_eq.1 this

/-- A proposal taken is the tensor's static value (R270). -/
theorem EngPas.calTaken_static {im : Image} {c : CalSt} {g : EngPas} {i : Nat} {x : Tensor} {es : List Int} (hi : i ∈ c.tensors) (hx : tensorOf im i = some x)
    (hes : KMap.get none c.proposal i = some es) : ((g.calTaken im c).staticOf x).1 = es := by
  have hfold (l : List Nat) (m : KMap (Option (List Int × Int))) (h : i ∈ l ∨ KMap.get none m i = some (es, (g.staticOf x).2)) :
      KMap.get none (l.foldl (fun m id => match tensorOf im id, KMap.get none c.proposal id with
        | some t, some es => KMap.set none m id (some (es, (g.staticOf t).2))
        | _, _ => m) m) i = some (es, (g.staticOf x).2) := by
    induction l generalizing m with
    | nil => exact h.resolve_left List.not_mem_nil
    | cons j l ih =>
      rw [List.foldl_cons]
      refine ih _ ?_
      by_cases hj : j = i
      · subst hj
        rw [hx, hes]
        exact .inr (KMap.get_set_same none m _ _)
      · rcases h with h | h
        · exact .inl ((List.mem_cons.1 h).resolve_left (Ne.symm hj))
        · refine .inr ?_
          split
          · rw [KMap.get_set_other none m _ _ _ (Ne.symm hj)]
            exact h
          · exact h
  have hstatic : KMap.get none (g.calTaken im c).statics x.id = some (es, (g.staticOf x).2) := by
    rw [tensorOf_id hx]
    exact hfold c.tensors g.statics (.inl hi)
  rw [EngPas.staticOf, hstatic]
  rfl

/-- What a verify phase that every tensor passes leaves (R270). -/
theorem Die.calDone_leaves (p share : Nat) (im : Image) (c : CalSt) (d : Die) :
    let f := d.calDone p im c share
    d.holdsStore f ∧ f.get R.FAB_CAL_STATUS_PHASE p = 3 ∧ f.get R.FAB_CAL_STATUS_TENSOR p = c.target % 2 ^ 16 ∧ f.tallies = d.tallies
    ∧ ∀ e ∈ enginesOf im, f.engPas e p = (d.engPas e p).calTaken im c := by
  intro f
  have heng (e : Nat) : ((enginesOf im).foldl (fun d e => d.onEng e p (EngPas.calTaken im c)) (d.calPassed p c.target share)).engPas e p
      = if e ∈ enginesOf im then (d.engPas e p).calTaken im c else d.engPas e p := Die.engPas_onEng_foldl p _ _ (enginesOf_nodup im) _ e
  obtain ⟨a, ha⟩ : ∃ a, d.calPassed p c.target share = a := ⟨_, rfl⟩
  have honly : a.engOnly ((enginesOf im).foldl (fun d e => d.onEng e p (EngPas.calTaken im c)) a) := Die.engOnly_foldl _ (fun _ _ => ⟨rfl⟩) _ a
  have hphase : a.get R.FAB_CAL_STATUS_PHASE p = 3 := by
    rw [← ha, Die.calPassed, Die.get_put_apart _ _ _ _ _ (by decide), Die.get_put_same]
    rfl
  have htensor : a.get R.FAB_CAL_STATUS_TENSOR p = c.target % 2 ^ 16 := by
    rw [← ha, Die.calPassed, Die.get_put_same]
    rfl
  have hkept : d.holdsStore a ∧ a.tallies = d.tallies := by
    rw [← ha]
    exact ⟨⟨rfl, rfl, rfl⟩, rfl⟩
  have hf : f = ((enginesOf im).foldl (fun d e => d.onEng e p (EngPas.calTaken im c)) a).onPas p (PasSt.alsoChanged c.tensors) := by
    rw [← ha]
    rfl
  rw [ha] at heng
  generalize (enginesOf im).foldl (fun d e => d.onEng e p (EngPas.calTaken im c)) a = b at heng honly hf
  have hstore := hkept.1.trans honly.holdsStore
  rw [hf]
  refine ⟨⟨hstore.tiles, hstore.rows, hstore.dir⟩, (honly.get _ _).trans hphase, (honly.get _ _).trans htensor, ?_, fun e he => ?_⟩
  · exact ((congrArg Die.tallies honly.frame).trans rfl).trans hkept.2
  · exact (heng e).trans (if_pos he)

end Sys2Proof.Machine
end

section
/-! SUPPORT. The commit point of a step and the expert write of a scale (R248, R249, R272). -/

namespace Sys2Proof.Machine

/-- The events in flight, the rows and the directory stand. -/
structure Die.slotsKept (d f : Die) : Prop where
  rows : f.rows = d.rows
  dir : f.dir = d.dir
  runs : ∀ e p, (f.engPas e p).flight = (d.engPas e p).flight ∧ (f.engPas e p).index = (d.engPas e p).index

theorem Die.slotsKept_refl (d : Die) : d.slotsKept d := ⟨rfl, rfl, fun _ _ => ⟨rfl, rfl⟩⟩

theorem Die.slotsKept.trans {a b c : Die} (h : a.slotsKept b) (k : b.slotsKept c) : a.slotsKept c :=
  ⟨k.rows.trans h.rows, k.dir.trans h.dir, fun e p => ⟨(k.runs e p).1.trans (h.runs e p).1, (k.runs e p).2.trans (h.runs e p).2⟩⟩

theorem Die.slotsKept_ite {c : Prop} [Decidable c] {d e f : Die} (h : d.slotsKept e) (k : d.slotsKept f) : d.slotsKept (if c then e else f) := by split <;> assumption

theorem Die.slotsKept_foldl {α : Type} (f : Die → α → Die) (hf : ∀ d x, Die.slotsKept d (f d x)) (l : List α) (d : Die) : d.slotsKept (l.foldl f d) := by
  induction l generalizing d with
  | nil => exact d.slotsKept_refl
  | cons x xs ih => exact (hf d x).trans (ih _)

theorem Die.slotsKept_of {d f : Die} (hrows : f.rows = d.rows) (hdir : f.dir = d.dir) (heng : f.eng = d.eng) : d.slotsKept f :=
  ⟨hrows, hdir, fun e p => by rw [Die.engPas_congr heng]; exact ⟨rfl, rfl⟩⟩

theorem Die.slotsKept_erred {d f : Die} (h : d.erred f) : d.slotsKept f :=
  Die.slotsKept_of ((congrArg Die.rows h.frame).trans rfl) ((congrArg Die.dir h.frame).trans rfl) ((congrArg Die.eng h.frame).trans rfl)

theorem Die.slotsKept_report {d f : Die} (h : d.report f) : d.slotsKept f :=
  Die.slotsKept_of ((congrArg Die.rows h.1).trans rfl) ((congrArg Die.dir h.1).trans rfl) ((congrArg Die.eng h.1).trans rfl)

theorem Die.slotsKept_put (f : Fld) (i v : Nat) (d : Die) : d.slotsKept (d.put f i v) := Die.slotsKept_of rfl rfl rfl

theorem Die.slotsKept_onPas (p : Nat) (f : PasSt → PasSt) (d : Die) : d.slotsKept (d.onPas p f) := Die.slotsKept_of rfl rfl rfl

theorem Die.slotsKept_putBeat (t b v : Nat) (bad : Bool) (d : Die) : d.slotsKept (d.putBeat t b v bad) := by
  unfold Die.putBeat
  exact Die.slotsKept_ite (Die.slotsKept_of rfl rfl rfl) (Die.slotsKept_of rfl rfl rfl)

theorem Die.slotsKept_onEng (e p : Nat) (f : EngPas → EngPas) (d : Die) (h : ∀ g, (f g).flight = g.flight ∧ (f g).index = g.index) : d.slotsKept (d.onEng e p f) := by
  refine ⟨rfl, rfl, fun e' p' => ?_⟩
  by_cases hk : e' * 64 + p' = e * 64 + p
  · have hget : (d.onEng e p f).engPas e' p' = f (d.engPas e' p') := by
      unfold Die.engPas Die.onEng
      rw [hk]
      exact KMap.get_upd_same _ _ _ _
    rw [hget]
    exact h _
  · have hget : (d.onEng e p f).engPas e' p' = d.engPas e' p' := KMap.get_upd_other _ _ _ _ _ hk
    rw [hget]
    exact ⟨rfl, rfl⟩

theorem Die.slotsKept_writeTensor (e p par : Nat) (im : Image) (t : Tensor) (es : List Int) (z : Int) (d : Die) : d.slotsKept (d.writeTensor e p par im t es z) := by
  unfold Die.writeTensor
  extract_lets at_ a b c
  have ha : d.slotsKept a := Die.slotsKept_foldl _ (fun d b => Die.slotsKept_foldl _ (fun d i => d.slotsKept_putBeat _ _ _ _) _ d) _ d
  have hb : a.slotsKept b := Die.slotsKept_foldl _ (fun d y => by
    unfold Die.writeLane
    exact Die.slotsKept_putBeat _ _ _ _ _) _ a
  have hc : b.slotsKept c := by
    refine Die.slotsKept_foldl _ (fun d x => Die.slotsKept_ite ?_ d.slotsKept_refl) _ b
    refine Die.slotsKept.trans ?_ (Die.slotsKept_putBeat _ _ _ _ _)
    exact Die.slotsKept_report ((d.report_countBy _ _ _).trans ((Die.report_countBy _ _ _ _).trans (Die.report_countBy _ _ _ _)))
  exact (ha.trans (hb.trans hc)).trans (Die.slotsKept_onEng _ _ _ _ (fun _ => ⟨rfl, rfl⟩))

theorem Die.slotsKept_readRecords (fu : Fused) (e p s : Nat) (im : Image) (t : Tensor) (d : Die) : d.slotsKept (d.readRecords fu e p s im t) := by
  refine Die.slotsKept_foldl _ (fun d k => Die.slotsKept_foldl _ (fun d g => ?_) _ d) _ d
  have hread := Die.slotsKept_erred (d.erred_eccRead fu 11 (obsLoc e p k t.id g) none (some p) (by decide) (fun _ h => by cases h))
  exact Die.slotsKept_ite (hread.trans (Die.slotsKept_onEng _ _ _ _ (fun _ => ⟨rfl, rfl⟩))) hread

theorem Die.report_engTrace {p : Nat} (hp : p < 64) (type e : Nat) (a : Bool) (body : List Byte) (d : Die) : d.report (d.engTrace type e p a body) :=
  d.report_trace _ (fun q hq => by cases hq; exact hp)

theorem Die.slotsKept_scalePackets {p : Nat} (hp : p < 64) (e step t : Nat) (es : List Int) (z : Int) (d : Die) : d.slotsKept (d.scalePackets e p step t es z) :=
  Die.slotsKept_foldl _ (fun d _ => Die.slotsKept_report (d.report_engTrace hp 6 e true _)) _ d

theorem Die.slotsKept_satEvent {p : Nat} (hp : p < 64) (e t step share : Nat) (d : Die) : d.slotsKept (d.satEvent e p t step share) := by
  unfold Die.satEvent
  extract_lets a b
  have ha : d.slotsKept a := Die.slotsKept_report (d.report_count _ _)
  have hb : a.slotsKept b := Die.slotsKept_ite a.slotsKept_refl (Die.slotsKept_of rfl rfl rfl)
  exact (ha.trans hb).trans (Die.slotsKept_report (b.report_engTrace hp 7 e true _))

theorem Die.slotsKept_shares {p : Nat} (hp : p < 64) (e s : Nat) (im : Image) (d : Die) : d.slotsKept (d.shares e p s im) :=
  Die.slotsKept_foldl _ (fun d _ => Die.slotsKept_ite d.slotsKept_refl (Die.slotsKept_ite (d.slotsKept_satEvent hp e _ s _) d.slotsKept_refl)) _ d

theorem Die.calInForce_keeps (p s : Nat) (here : Nat → Bool) (d : Die) : d.slotsKept (d.calInForce p s here) ∧ (d.calInForce p s here).eng = d.eng := by
  unfold Die.calInForce
  extract_lets a q
  split
  · exact ⟨Die.slotsKept_of rfl rfl rfl, rfl⟩
  · exact ⟨Die.slotsKept_of rfl rfl rfl, rfl⟩

/-- What a commit point leaves: the engine's next commit point, with the events in flight as they were (R248). -/
theorem Die.commitStep_commits (fu : Fused) {p : Nat} (hp : p < 64) (e s : Nat) (im : Image) (d : Die) :
    d.slotsKept (d.commitStep fu e p s im) ∧ ((d.commitStep fu e p s im).engPas e p).commit = s + 1 := by
  unfold Die.commitStep
  extract_lets nmin a b c
  have ha : d.slotsKept a := by
    refine Die.slotsKept_foldl _ (fun d t => Die.slotsKept_ite ?_ ?_) _ d
    · exact ((d.slotsKept_readRecords fu e p s im t).trans (Die.slotsKept_report (Die.report_countBy _ _ _ _))).trans (Die.slotsKept_writeTensor _ _ _ _ _ _ _ _)
    · exact (d.slotsKept_writeTensor _ _ _ _ _ _ _).trans (Die.slotsKept_ite (Die.slotsKept_scalePackets hp _ _ _ _ _ _) (Die.slotsKept_refl _))
  have hb : a.slotsKept b := a.slotsKept_shares hp e (s - 2) im
  have hc : b.slotsKept c := Die.slotsKept_onEng _ _ _ _ (fun _ => ⟨rfl, rfl⟩)
  have hcommit : (c.engPas e p).commit = s + 1 := congrArg EngPas.commit (Die.engPas_onEng_same b e p (fun g => { g with commit := s + 1 }))
  have hkept := ha.trans (hb.trans hc)
  split
  · exact ⟨hkept, hcommit⟩
  · obtain ⟨hlast, heng⟩ := c.calInForce_keeps p s (fun id => (tensorsOn im e).any (fun t => t.id == id))
    exact ⟨hkept.trans hlast, (congrArg EngPas.commit (Die.engPas_congr heng e p)).trans hcommit⟩

/-- The commit point of a step comes once the step before the last has been admitted whole and has retired (R248). -/
theorem stepCommit_commits {s : State} {e p n : Nat} {im : Image} {ei : EngineImg} (hp : p < 64) (he : e < 8) (himage : s.die.image p = some im) (hei : engOf im e = some ei)
    (hn : stepN ei = some n) (hbegun : ((s.die.engPas e p).commit - 1 - im.stepBase.toNat) * n ≤ (s.die.engPas e p).index)
    (hold : ∀ sl ∈ (s.die.engPas e p).flight, (s.die.engPas e p).commit ≤ (KMap.get {} (s.die.engPas e p).slots sl).step + 1) (hreplay : s.die.on R.FAB_REPLAY_ENABLE p = false) :
    exec (.stepCommit e p) s = .next { s with die := s.die.commitStep s.fused e p (s.die.engPas e p).commit im } := by
  have hold' : (s.die.engPas e p).flight.all (fun sl => decide ((s.die.engPas e p).commit ≤ (KMap.get {} (s.die.engPas e p).slots sl).step + 1)) = true :=
    List.all_eq_true.2 (fun sl hsl => decide_eq_true (hold sl hsl))
  change execStepCommit e p s = _
  unfold execStepCommit dieCmd
  rw [decide_eq_true he, decide_eq_true hp, if_pos (by rfl)]
  dsimp only
  rw [himage]
  dsimp only
  rw [hei]
  dsimp only
  rw [hn]
  dsimp only
  rw [decide_eq_true hbegun, hold', hreplay, if_pos (by rfl)]

/-- An engine after an expert write of a tensor's scale with zero point 0 (R272). -/
def EngPas.scaled (t : Tensor) (id k : Nat) (whole : Bool) (ex : Int) (g : EngPas) : EngPas :=
  { g with resumed := false
           statics := KMap.set none g.statics id (some (if whole then (g.staticOf t).1.map (fun _ => ex) else replaceAt (g.staticOf t).1 k ex, 0))
           forced := if t.running then id :: g.forced else g.forced }

/-- What an APPLY of FAB_SCALE_VAL with zero point 0 leaves (R272). -/
theorem fabScaleValW_applies {p w : Nat} {im : Image} {d : Die} {x : Tensor} (himage : d.image p = some im) (happly : bit w 31 = true)
    (hx : tensorOf im (d.get R.FAB_SCALE_SEL_TENSOR p) = some x)
    (hcal : d.get R.FAB_CAL_STATUS_PHASE p = 0 ∨ d.get R.FAB_SCALE_SEL_TENSOR p ∉ (d.pasture p).cal.tensors)
    (hrange : d.on R.FAB_SCALE_SEL_WHOLE p = true ∨ d.get R.FAB_SCALE_SEL_GROUP p < x.exps.length) (hzero : bits w 16 8 = 0) :
    fabScaleValW p w d = (((enginesOf im).foldl (fun f e => f.onEng e p
        (EngPas.scaled x (d.get R.FAB_SCALE_SEL_TENSOR p) (d.get R.FAB_SCALE_SEL_GROUP p) (d.on R.FAB_SCALE_SEL_WHOLE p) (sext (bits w 0 16) 16)))
        (d.setFields .FAB p 0x404 w)).onPas p (PasSt.alsoChanged [d.get R.FAB_SCALE_SEL_TENSOR p])).put R.FAB_SCALE_NOW_APPLY_RESULT p 1 := by
  have hregs := d.setFields_regs .FAB p 0x404 w
  have hpage (f : Fld) (hb : f.base = 0x380000) (ho : f.off + f.lo / 32 ≠ 0x404) : (d.setFields .FAB p 0x404 w).get f p = d.get f p :=
    Die.get_setFields_page .FAB p 0x404 w d f hb ho
  have hexp := d.get_setFields_rw .FAB p 0x404 w ⟨R.FAB_SCALE_VAL_EXP, any⟩ (.head _) rfl
  have hzp := d.get_setFields_rw .FAB p 0x404 w ⟨R.FAB_SCALE_VAL_ZP, any⟩ (.tail _ (.head _)) rfl
  unfold fabScaleValW
  generalize d.setFields .FAB p 0x404 w = a at hregs hpage hexp hzp ⊢
  have hpas : a.pas = d.pas := (congrArg Die.pas hregs).trans rfl
  have hapasture : a.pasture p = d.pasture p := by rw [Die.pasture, hpas, Die.pasture]
  have hexp' : a.get R.FAB_SCALE_VAL_EXP p = bits w 0 16 := hexp.trans (if_pos rfl)
  have hzp' : a.get R.FAB_SCALE_VAL_ZP p = 0 := (hzp.trans (if_pos rfl)).trans hzero
  have hwhole : a.on R.FAB_SCALE_SEL_WHOLE p = d.on R.FAB_SCALE_SEL_WHOLE p := by rw [Die.on, hpage R.FAB_SCALE_SEL_WHOLE rfl (by decide), Die.on]
  have hidle : ¬ (d.get R.FAB_CAL_STATUS_PHASE p ≠ 0 ∧ (d.pasture p).cal.tensors.contains (d.get R.FAB_SCALE_SEL_TENSOR p) = true) := by
    rintro ⟨hphase, hmem⟩
    exact hcal.elim hphase (fun h => h (List.contains_iff_mem.1 hmem))
  have hfits : ¬ ((!(d.on R.FAB_SCALE_SEL_WHOLE p)) = true ∧ x.exps.length ≤ d.get R.FAB_SCALE_SEL_GROUP p) := by
    rintro ⟨hw, hlen⟩
    rcases hrange with h | h
    · rw [h] at hw
      cases hw
    · omega
  have hsext : sext 0 8 = 0 := rfl
  dsimp only
  rw [if_pos happly]
  unfold Die.scaleApply
  dsimp only
  rw [hpage R.FAB_SCALE_SEL_TENSOR rfl (by decide), hpage R.FAB_SCALE_SEL_GROUP rfl (by decide), hpage R.FAB_CAL_STATUS_PHASE rfl (by decide), hwhole, hexp', hzp', hapasture,
    if_neg hidle, Die.image, hapasture, show (d.pasture p).image = some im from himage]
  dsimp only [Option.bind]
  rw [hx]
  dsimp only [Option.map]
  rw [if_neg hfits, hsext, if_neg (fun h => h.1 rfl)]
  rfl

theorem Die.calFailed_none {d : Die} {p : Nat} {im : Image} {c : CalSt} (h : ∀ i ∈ c.tensors, (d.calCheck p im i).1 = 0) : d.calFailed p im c = none := by
  unfold Die.calFailed
  rw [minBy_none, List.filter_eq_nil_iff]
  intro r hr hbad
  obtain ⟨i, hi, rfl⟩ := List.mem_map.1 hr
  exact bne_iff_ne.1 hbad (h i hi)

/-- The verdict of a calibration is that of the lowest-numbered tensor that fails (R270). -/
theorem Die.calFailed_some {d : Die} {p : Nat} {im : Image} {c : CalSt} {i : Nat} (hi : i ∈ c.tensors) (hfail : (d.calCheck p im i).1 ≠ 0)
    (hleast : ∀ j ∈ c.tensors, j < i → (d.calCheck p im j).1 = 0) : d.calFailed p im c = some (i, d.calCheck p im i) := by
  have hin : (i, d.calCheck p im i) ∈ (c.tensors.map (fun id => (id, d.calCheck p im id))).filter (fun r => r.2.1 != 0) :=
    List.mem_filter.2 ⟨List.mem_map.2 ⟨i, hi, rfl⟩, bne_iff_ne.2 hfail⟩
  cases hmin : d.calFailed p im c with
  | none =>
    rw [(minBy_none _ _).1 hmin] at hin
    cases hin
  | some r =>
    obtain ⟨hr, hle⟩ := minBy_least hmin
    obtain ⟨hmem, hbad⟩ := List.mem_filter.1 hr
    obtain ⟨j, hj, rfl⟩ := List.mem_map.1 hmem
    have hji : j ≤ i := hle _ hin
    have hij : ¬ j < i := fun h => bne_iff_ne.1 hbad (hleast j hj h)
    rw [show j = i by omega]

theorem Die.calCheck_small (d : Die) (p : Nat) (im : Image) (i : Nat) : (d.calCheck p im i).1 < 16 := by
  unfold Die.calCheck
  dsimp only
  split
  · decide
  · dsimp only
    split_ifs <;> decide

/-- What an expert write of a scale leaves (R272). -/
theorem fabScaleValW_leaves {p w : Nat} {im : Image} {d : Die} {x : Tensor} (himage : d.image p = some im) (happly : bit w 31 = true)
    (hx : tensorOf im (d.get R.FAB_SCALE_SEL_TENSOR p) = some x)
    (hcal : d.get R.FAB_CAL_STATUS_PHASE p = 0 ∨ d.get R.FAB_SCALE_SEL_TENSOR p ∉ (d.pasture p).cal.tensors)
    (hrange : d.on R.FAB_SCALE_SEL_WHOLE p = true ∨ d.get R.FAB_SCALE_SEL_GROUP p < x.exps.length) (hzero : bits w 16 8 = 0) :
    (fabScaleValW p w d).get R.FAB_SCALE_NOW_APPLY_RESULT p = 1
    ∧ (∀ e, e ∈ enginesOf im → ((fabScaleValW p w d).engPas e p).staticOf x = ((if d.on R.FAB_SCALE_SEL_WHOLE p then ((d.engPas e p).staticOf x).1.map (fun _ => sext (bits w 0 16) 16)
        else replaceAt ((d.engPas e p).staticOf x).1 (d.get R.FAB_SCALE_SEL_GROUP p) (sext (bits w 0 16) 16)), 0))
    ∧ (fabScaleValW p w d).tiles = d.tiles ∧ (fabScaleValW p w d).tallies = d.tallies := by
  obtain ⟨g, hg⟩ : ∃ g, EngPas.scaled x (d.get R.FAB_SCALE_SEL_TENSOR p) (d.get R.FAB_SCALE_SEL_GROUP p) (d.on R.FAB_SCALE_SEL_WHOLE p) (sext (bits w 0 16) 16) = g := ⟨_, rfl⟩
  have hregs := d.setFields_regs .FAB p 0x404 w
  rw [fabScaleValW_applies himage happly hx hcal hrange hzero, hg]
  generalize d.setFields .FAB p 0x404 w = a at hregs ⊢
  have hengs : a.eng = d.eng := (congrArg Die.eng hregs).trans rfl
  have heng (e : Nat) : ((enginesOf im).foldl (fun f e => f.onEng e p g) a).engPas e p = if e ∈ enginesOf im then g (d.engPas e p) else d.engPas e p := by
    rw [Die.engPas_onEng_foldl p g _ (enginesOf_nodup im) a e, Die.engPas_congr hengs]
  have honly : a.engOnly ((enginesOf im).foldl (fun f e => f.onEng e p g) a) := Die.engOnly_foldl _ (fun _ _ => ⟨rfl⟩) _ a
  generalize (enginesOf im).foldl (fun f e => f.onEng e p g) a = b at heng honly ⊢
  refine ⟨Die.get_put_same (b.onPas p (PasSt.alsoChanged [d.get R.FAB_SCALE_SEL_TENSOR p])) R.FAB_SCALE_NOW_APPLY_RESULT p 1, fun e he => ?_, ?_, ?_⟩
  · refine (congrArg (fun y => y.staticOf x) ((heng e).trans (if_pos he))).trans ?_
    rw [← hg, EngPas.staticOf]
    have hset : KMap.get none (EngPas.scaled x (d.get R.FAB_SCALE_SEL_TENSOR p) (d.get R.FAB_SCALE_SEL_GROUP p) (d.on R.FAB_SCALE_SEL_WHOLE p) (sext (bits w 0 16) 16) (d.engPas e p)).statics x.id
        = some (if d.on R.FAB_SCALE_SEL_WHOLE p then ((d.engPas e p).staticOf x).1.map (fun _ => sext (bits w 0 16) 16)
          else replaceAt ((d.engPas e p).staticOf x).1 (d.get R.FAB_SCALE_SEL_GROUP p) (sext (bits w 0 16) 16), 0) := by
      rw [tensorOf_id hx]
      unfold EngPas.scaled
      dsimp only
      rw [KMap.get_set_same]
    rw [hset]
    rfl
  · exact ((congrArg Die.tiles honly.frame).trans rfl).trans ((congrArg Die.tiles hregs).trans rfl)
  · exact ((congrArg Die.tallies honly.frame).trans rfl).trans ((congrArg Die.tallies hregs).trans rfl)

/-- Settles O21: a phase's end and a START differ by the lowest-numbered tensor that stands against it, and a static value taken is the tensor's own in every engine. -/
theorem scalesCalibrate : Obligations.ScalesCalibrate := by
  unfold Obligations.ScalesCalibrate
  refine ⟨fun s src p w im hp himage => ?_, fun s p im hp himage => ⟨fun e ei n he hei hn => ?_, fun src w x hadm happly hx hcal hrange hzero => ?_⟩⟩
  · dsimp only
    refine ⟨fun hadm hstart hphase => ⟨fun hne hwant => ?_, fun bad hbad => ?_⟩, fun hadm hstart habort hphase => ?_, fun hphase hevents hretired => ?_, fun hphase hevents hretired =>
      ⟨fun hpass => ?_, fun i hi hfail hleast => ?_⟩⟩
    · obtain ⟨hstore, hone, htensors, htarget, hzero⟩ := fabCalW_begins himage hphase hstart hne hwant
      exact calStart_completes hp hadm ⟨⟨rfl, hstore.tiles, hstore.rows, hstore.dir⟩, hone, htensors, htarget, hzero⟩
    · obtain ⟨hstore, hzero, hresult, htensor, htally⟩ := fabCalW_refuses hp himage hphase hstart bad hbad
      exact calStart_completes hp hadm ⟨⟨rfl, hstore.tiles, hstore.rows, hstore.dir⟩, hzero, hresult, htensor, htally⟩
    · obtain ⟨hstore, hzero, hresult, htal⟩ := fabCalW_aborts hstart habort hphase
      exact calAbort_completes hp hadm ⟨⟨rfl, hstore.tiles, hstore.rows, hstore.dir⟩, hzero, hresult, htal⟩
    · obtain ⟨prop, hexec⟩ := execCalObserveEnd_ends hp himage hphase (Die.calPhaseOver_of hevents (by rw [hphase]; exact hretired))
      refine ⟨_, hexec, ⟨rfl, rfl, rfl, rfl⟩, Die.get_put_same s.die R.FAB_CAL_STATUS_PHASE p 2, ?_, ?_, rfl, rfl⟩
      · exact congrArg (fun q => q.cal.events) (Die.pasture_onPas_same _ _ _)
      · exact congrArg (fun q => q.cal.tensors) (Die.pasture_onPas_same _ _ _)
    · obtain ⟨-, hgo⟩ := execCalVerifyEnd_ends hp himage hphase (Die.calPhaseOver_of hevents (by rw [hphase]; exact hretired))
      obtain ⟨share, hexec⟩ := hgo (Die.calFailed_none hpass)
      obtain ⟨hstore, hthree, htensor, htal, htaken⟩ := s.die.calDone_leaves p share im (s.die.pasture p).cal
      refine ⟨_, hexec, ⟨rfl, hstore.tiles, hstore.rows, hstore.dir⟩, hthree, htensor, htal, fun i e x es hi he hx hes => ?_⟩
      exact (congrArg (fun g => (EngPas.staticOf g x).1) (htaken e he)).trans (EngPas.calTaken_static hi hx hes)
    · obtain ⟨hgo, -⟩ := execCalVerifyEnd_ends hp himage hphase (Die.calPhaseOver_of hevents (by rw [hphase]; exact hretired))
      have hexec := hgo _ (Die.calFailed_some hi hfail hleast)
      obtain ⟨hstore, heng, hzero, hresult, htensor, htally⟩ := (s.die.put R.FAB_CAL_SHARE_SHARE p (s.die.calCheck p im i).2).calRefuse_refuses hp _ i (s.die.calCheck_small p im i)
      exact ⟨_, hexec, ⟨rfl, hstore.tiles, hstore.rows, hstore.dir⟩, hzero, hresult, htensor, heng, htally⟩
  · dsimp only
    intro hbegun hold hreplay
    obtain ⟨hkept, hcommit⟩ := s.die.commitStep_commits s.fused hp e (s.die.engPas e p).commit im
    exact ⟨_, stepCommit_commits hp he himage hei hn hbegun hold hreplay, rfl, hcommit, (hkept.runs e p).1, (hkept.runs e p).2, hkept.rows, hkept.dir⟩
  · obtain ⟨hresult, hstatic, htiles, htal⟩ := fabScaleValW_leaves himage happly hx hcal hrange hzero
    have hdie := writeDie_admitted hadm (fabScaleValW p w.toNat)
    refine ⟨{ s with die := fabScaleValW p w.toNat s.die }, ?_, rfl, hresult, hstatic, htiles, htal⟩
    exact (if_pos (decide_eq_true hp)).trans (congrArg (fun d => Host.Outcome.next { s with die := d }) hdie)

end Sys2Proof.Machine
end

section
/-! SUPPORT. The update lane of a tile: the operation it runs next, what follows it, and the beats it leaves in a buffer (R320, R329 to R334). -/

namespace Sys2Proof.Machine

/-- The operation that the lane runs next is of the context, the tile and the phase (R320). -/
theorem Die.laneHead_of {d : Die} {x : UpdCtx} {tile op phase : Nat} {f : UFire} (h : d.laneHead x tile = some (op, f, phase)) :
    f.x = x ∧ f.tile = tile ∧ phase = d.get R.UPD_STATUS_PHASE x.e
    ∧ (phase ≠ 5 → (laneOps (x.cfg tile) phase (match (x.blocks tile)[(d.tile tile).block]? with | some y => y.1.r.layer | none => 8))[(d.tile tile).lanePos]? = some (op, f.w)) := by
  unfold Die.laneHead at h
  dsimp only at h
  split at h
  next o r ho hr =>
    split at h
    · cases h
    · obtain ⟨y, hy, heq⟩ := Option.map_eq_some_iff.1 h
      cases heq
      refine ⟨rfl, rfl, rfl, fun hphase => ?_⟩
      rw [if_neg hphase] at ho
      exact ho
  · cases h

/-- A command of the update lane that is the lane's next and meets no word in error. -/
theorem laneCmd_runs {sel : Nat → Bool} {g : Fused → UFire → Die → Bool × Die} {tile op phase : Nat} {s : State} {x : UpdCtx} {f : UFire} (htile : tile < 4096)
    (hcol : tile % 32 < 24) (hctx : s.die.updCtx (tileEng tile) = some x) (hhead : s.die.laneHead x tile = some (op, f, phase)) (hin : tile ∈ x.tiles)
    (hsel : sel f.w = true) (hclean : (g s.fused f s.die).1 = false) :
    laneCmd sel g tile op s = .next { s with die := (g s.fused f s.die).2.laneNext s.fused x tile phase } := by
  unfold laneCmd dieCmd
  rw [decide_eq_true htile, decide_eq_true hcol, if_pos (by rfl)]
  dsimp only
  rw [hctx]
  dsimp only
  rw [hhead]
  dsimp only
  rw [if_pos ⟨rfl, hsel, List.contains_iff_mem.2 hin⟩, hclean, if_neg Bool.false_ne_true]

/-- Before the last operation of its list the lane goes to the next (R320). -/
theorem Die.laneNext_goes (fu : Fused) {x : UpdCtx} {tile op phase : Nat} {f : UFire} {d e : Die} (hhead : d.laneHead x tile = some (op, f, phase)) (hin : tile ∈ x.tiles)
    (hphase : phase ≠ 5) (hlast : (d.tile tile).lanePos + 1 < (laneOps (x.cfg tile) phase (uLayer f.w)).length) (hpos : (e.tile tile).lanePos = (d.tile tile).lanePos)
    (hblock : (e.tile tile).block = (d.tile tile).block) : e.laneNext fu x tile phase = e.onTile tile (fun z => { z with lanePos := z.lanePos + 1 }) := by
  obtain ⟨-, -, -, hop⟩ := Die.laneHead_of hhead
  obtain ⟨a, ha⟩ : ∃ a, e.onTile tile (fun z => { z with lanePos := z.lanePos + 1 }) = a := ⟨_, rfl⟩
  have htile : a.tile tile = { e.tile tile with lanePos := (e.tile tile).lanePos + 1 } := by
    rw [← ha]
    exact Die.tile_onTile_same _ _ _
  have hat : (a.tile tile).lanePos = (d.tile tile).lanePos + 1 := by rw [htile, hpos]
  have hshort (hlayer : (laneOps (x.cfg tile) phase 0).length = (laneOps (x.cfg tile) phase (uLayer f.w)).length) :
      ¬ x.tiles.all (fun t => decide ((laneOps (x.cfg t) phase 0).length ≤ (a.tile t).lanePos)) = true := by
    intro hall
    have := of_decide_eq_true (List.all_eq_true.1 hall tile hin)
    rw [hlayer, hat] at this
    omega
  unfold Die.laneNext
  rw [if_neg hphase, ha]
  dsimp only
  split
  · exact if_neg (hshort rfl)
  · exact if_neg (hshort rfl)
  · have hb : (a.tile tile).block = (d.tile tile).block := by rw [htile]; exact hblock
    rw [hb]
    split
    · rfl
    next y b hy =>
      rw [if_neg]
      have hop := hop hphase
      rw [hy] at hop
      have hmem := List.mem_of_getElem? hop
      have hlayer := (List.mem_filter.1 hmem).2
      simp only [Bool.and_eq_true, beq_iff_eq] at hlayer
      rw [← hlayer.2, hat]
      omega
  next h1 h2 h4 =>
    exfalso
    have hnil : laneOps (x.cfg tile) phase (uLayer f.w) = [] := by
      unfold laneOps
      dsimp only
      split
      · exact absurd rfl h1
      · exact absurd rfl h2
      · exact absurd rfl h4
      · exact absurd rfl hphase
      · rfl
    rw [hnil] at hlast
    exact absurd hlast (Nat.not_lt_zero _)

/-- `f` differs from `d` by the beats `bs` in a buffer of one tile, from its first on. -/
structure Die.ubWritten (tile buf : Nat) (bs : List UbBeat) (d f : Die) : Prop where
  upd : f.upd = d.upd
  rows : f.rows = d.rows
  dir : f.dir = d.dir
  others : ∀ u, u ≠ tile → f.tile u = d.tile u
  own : f.tile tile = { d.tile tile with ubs := (f.tile tile).ubs }
  beats : ∀ i, i < bs.length → f.ub tile buf i = bs.getD i {}

theorem Die.ubWritten.report {tile buf : Nat} {bs : List UbBeat} {d f g : Die} (h : d.ubWritten tile buf bs f) (k : f.report g) : d.ubWritten tile buf bs g := by
  have htiles : g.tiles = f.tiles := (congrArg Die.tiles k.1).trans rfl
  have htile (t : Nat) : g.tile t = f.tile t := by rw [Die.tile, htiles, Die.tile]
  exact ⟨((congrArg Die.upd k.1).trans rfl).trans h.upd, ((congrArg Die.rows k.1).trans rfl).trans h.rows, ((congrArg Die.dir k.1).trans rfl).trans h.dir,
    fun u hu => (htile u).trans (h.others u hu), by rw [htile]; exact h.own, fun i hi => by rw [Die.ub, htile]; exact h.beats i hi⟩

/-- Beats put into a buffer are what it holds. -/
theorem Die.setUb_writes (tile buf : Nat) (bs : List UbBeat) (d : Die) : d.ubWritten tile buf bs (d.setUb tile buf bs) := by
  have h (n : Nat) : let f := (List.range n).foldl (fun d i => d.onTile tile (fun t => { t with ubs := KMap.set {} t.ubs (buf * 8 + i) (bs.getD i {}) })) d
      (f.upd = d.upd ∧ f.rows = d.rows ∧ f.dir = d.dir) ∧ (∀ u, u ≠ tile → f.tile u = d.tile u) ∧ f.tile tile = { d.tile tile with ubs := (f.tile tile).ubs }
      ∧ ∀ i, i < n → f.ub tile buf i = bs.getD i {} := by
    induction n with
    | zero => exact ⟨⟨rfl, rfl, rfl⟩, fun _ _ => rfl, rfl, fun i hi => absurd hi (Nat.not_lt_zero _)⟩
    | succ n ih =>
      rw [List.range_succ, List.foldl_append, List.foldl_cons, List.foldl_nil]
      generalize (List.range n).foldl (fun d i => d.onTile tile (fun t => { t with ubs := KMap.set {} t.ubs (buf * 8 + i) (bs.getD i {}) })) d = f at ih
      obtain ⟨hframe, hothers, hown, hbeats⟩ := ih
      have htile : (f.onTile tile (fun t => { t with ubs := KMap.set {} t.ubs (buf * 8 + n) (bs.getD n {}) })).tile tile
          = { f.tile tile with ubs := KMap.set {} (f.tile tile).ubs (buf * 8 + n) (bs.getD n {}) } := Die.tile_onTile_same _ _ _
      refine ⟨hframe, fun u hu => (Die.tile_onTile_other _ _ _ _ hu).trans (hothers u hu), ?_, fun i hi => ?_⟩
      · rw [htile, hown]
      · rw [Die.ub, htile]
        by_cases hin : i = n
        · subst hin
          exact KMap.get_set_same _ _ _ _
        · rw [KMap.get_set_other _ _ _ _ _ (by omega)]
          exact hbeats i (by omega)
  obtain ⟨⟨hupd, hrows, hdir⟩, hothers, hown, hbeats⟩ := h bs.length
  exact ⟨hupd, hrows, hdir, hothers, hown, hbeats⟩

end Sys2Proof.Machine
end

section
/-! SUPPORT. What GRAD and OPTM compute (R329, R330, R333, R334). -/

namespace Sys2Proof.Machine

/-- A lane operation that writes the beats `bs` to its destination and leaves the lane at its next operation. -/
theorem lane_leaves {sel : Nat → Bool} {g : Fused → UFire → Die → Bool × Die} {c : Instr} {s : State} {tile op phase : Nat} {x : UpdCtx} {f : UFire} {bs : List UbBeat}
    (hexec : exec c s = laneCmd sel g tile op s) (htile : tile < 4096) (hcol : tile % 32 < 24) (hctx : s.die.updCtx (tileEng tile) = some x)
    (hhead : s.die.laneHead x tile = some (op, f, phase)) (hin : tile ∈ x.tiles) (hphase : phase ≠ 5)
    (hlast : (s.die.tile tile).lanePos + 1 < (laneOps (x.cfg tile) phase (uLayer f.w)).length) (hsel : sel f.w = true) (hclean : (g s.fused f s.die).1 = false)
    (hwrites : s.die.ubWritten tile (fld f.w 35 34) bs (g s.fused f s.die).2) :
    s.completes c (fun t => t = { s with die := t.die }
      ∧ (∀ i, i < bs.length → t.die.ub tile (fld f.w 35 34) i = bs.getD i {}) ∧ (t.die.tile tile).lanePos = (s.die.tile tile).lanePos + 1
      ∧ (t.die.tile tile).acc = (s.die.tile tile).acc ∧ (t.die.tile tile).store = (s.die.tile tile).store ∧ t.die.upd = s.die.upd
      ∧ (∀ u, u ≠ tile → t.die.tile u = s.die.tile u) ∧ t.die.rows = s.die.rows ∧ t.die.dir = s.die.dir) := by
  have hrun := (hexec.trans (laneCmd_runs htile hcol hctx hhead hin hsel hclean))
  obtain ⟨e, he⟩ : ∃ e, (g s.fused f s.die).2 = e := ⟨_, rfl⟩
  rw [he] at hwrites hrun
  have hown := hwrites.own
  have hnext := Die.laneNext_goes s.fused (e := e) hhead hin hphase hlast (by rw [hown]) (by rw [hown])
  have hown' : (e.onTile tile (fun z => { z with lanePos := z.lanePos + 1 })).tile tile = { e.tile tile with lanePos := (e.tile tile).lanePos + 1 } := Die.tile_onTile_same _ _ _
  refine ⟨_, hrun.trans (by rw [hnext]), rfl, fun i hi => ?_, ?_, ?_, ?_, hwrites.upd, fun u hu => ?_, hwrites.rows, hwrites.dir⟩
  · dsimp only
    rw [Die.ub, hown']
    exact hwrites.beats i hi
  · dsimp only
    rw [hown', hown]
  · dsimp only
    rw [hown', hown]
  · dsimp only
    rw [hown', hown]
  · exact (Die.tile_onTile_other _ _ _ _ hu).trans (hwrites.others u hu)

/-- Beats put into a buffer, with two counts. -/
theorem Die.setUb_counted (tile buf : Nat) (bs : List UbBeat) (t u : Tal) (i j m n : Nat) (d : Die) :
    d.ubWritten tile buf bs (((d.setUb tile buf bs).countBy t i m).countBy u j n) :=
  ((d.setUb_writes tile buf bs).report (Die.report_countBy t i m _)).report (Die.report_countBy u j n _)

theorem gradDiff_writes (fu : Fused) (f : UFire) (d : Die) : (gradDiff fu f d).1 = false
    ∧ d.ubWritten f.tile (fld f.w 35 34) (Num.val (narrow ((List.range (uNj f.w)).map (fun j =>
        Num.val (add32 (Num.val (norm32 (lane (d.ub f.tile (fld f.w 39 38) 0).data.toNat j)))
          (neg32 (Num.val (norm32 (lane (d.ub f.tile (fld f.w 37 36) 0).data.toNat j))))))))) (gradDiff fu f d).2 := by
  refine ⟨rfl, ?_⟩
  have hplain (a b : Nat) : (Num.seq (norm32 a) (fun p => Num.seq (norm32 b) (fun q => add32 p (neg32 q)))).plain :=
    Num.plain_seq _ _ (norm32_plain a) (fun p => Num.plain_seq _ _ (norm32_plain b) (fun q => add32_plain p (neg32 q)))
  have hval (a b : Nat) : (Num.seq (norm32 a) (fun p => Num.seq (norm32 b) (fun q => add32 p (neg32 q)))).val = (add32 (norm32 a).val (neg32 (norm32 b).val)).val := by
    rw [Num.val_seq _ _ (fun p => Num.plain_seq _ _ (norm32_plain b) (fun q => add32_plain p (neg32 q))), Num.val_seq _ _ (fun q => add32_plain _ (neg32 q))]
  have hall := Num.val_all (fun j => Num.seq (norm32 (lane (d.ub f.tile (fld f.w 39 38) 0).data.toNat j)) (fun p =>
    Num.seq (norm32 (lane (d.ub f.tile (fld f.w 37 36) 0).data.toNat j)) (fun q => add32 p (neg32 q)))) (List.range (uNj f.w)) (fun j => hplain _ _)
  simp only [hval] at hall
  rw [← hall]
  unfold gradDiff
  dsimp only
  exact Die.setUb_counted _ _ _ _ _ _ _ _ _ d

/-- The back-propagated sum of one input, its gate apart (R330). -/
def backSum (d : Die) (f : UFire) (codes : List (List Xop)) (i : Nat) : Int × Int :=
  exactSum ((List.range (uNj f.w)).map (fun j =>
    let o := (codes.getD j []).getD i {}
    let sc := weightScale (d.beat f.tile) (uAddr f.w) j (i / max 1 f.y.r.g)
    let dl := d.ubCode f.tile (fld f.w 39 38) 9 j
    (signed (o.s != dl.1.s) (o.m * sc.1 * dl.1.m), o.x + sc.2 + dl.1.x + dl.2)))

/-- The back-propagated lane of one input: zero where its gate is shut (R330). -/
def backLane (d : Die) (f : UFire) (codes : List (List Xop)) (i : Nat) : Num Nat :=
  if (bit f.w 7 && ((d.ubCode f.tile (fld f.w 37 36) f.y.r.afmt i).1.s || (d.ubCode f.tile (fld f.w 37 36) f.y.r.afmt i).1.m == 0)) = true ∨ (backSum d f codes i).1 = 0 then
    Num.ret 0 else roundInt (backSum d f codes i).1 (backSum d f codes i).2

theorem backLane_plain (d : Die) (f : UFire) (codes : List (List Xop)) (i : Nat) : (backLane d f codes i).plain := Num.plain_ite _ _ (Num.plain_ret 0) (roundInt_plain _ _)

theorem backLane_val (d : Die) (f : UFire) (codes : List (List Xop)) (i : Nat) : (backLane d f codes i).val =
    if (bit f.w 7 = true ∧ ((d.ubCode f.tile (fld f.w 37 36) f.y.r.afmt i).1.s = true ∨ (d.ubCode f.tile (fld f.w 37 36) f.y.r.afmt i).1.m = 0)) ∨ (backSum d f codes i).1 = 0 then 0
    else Num.val (roundInt (backSum d f codes i).1 (backSum d f codes i).2) := by
  have hgate : ((bit f.w 7 && ((d.ubCode f.tile (fld f.w 37 36) f.y.r.afmt i).1.s || (d.ubCode f.tile (fld f.w 37 36) f.y.r.afmt i).1.m == 0)) = true)
      ↔ (bit f.w 7 = true ∧ ((d.ubCode f.tile (fld f.w 37 36) f.y.r.afmt i).1.s = true ∨ (d.ubCode f.tile (fld f.w 37 36) f.y.r.afmt i).1.m = 0)) := by
    rw [Bool.and_eq_true, Bool.or_eq_true, beq_iff_eq]
  rw [backLane, apply_ite Num.val]
  exact if_congr (or_congr_left hgate) rfl rfl

/-- The bank of weights of the pair in hand. -/
def Die.pairBank (d : Die) (e : Nat) : Nat := match (d.updSt e).run with | some r => (match r.cur with | some c => c.wb | none => 0) | none => 0

theorem gradBack_writes (fu : Fused) (f : UFire) (d : Die) (hecc : d.ecc = []) (hpoison : d.poison = []) :
    (gradBack fu f d).1 = false ∧ d.ubWritten f.tile (fld f.w 35 34) (Num.val (narrow ((List.range (uNi f.w)).map (fun i =>
        Num.val (backLane d f (Num.val (dotWeights (d.beat f.tile) f.y.dot (d.pairBank f.x.e * f.y.r.boff))) i))))) (gradBack fu f d).2 := by
  rw [← Num.val_all _ _ (backLane_plain d f _)]
  unfold gradBack
  dsimp only
  rw [Die.readStore_clean _ _ _ _ _ _ hecc hpoison]
  dsimp only
  rw [if_neg Bool.false_ne_true]
  exact ⟨rfl, Die.setUb_counted _ _ _ _ _ _ _ _ _ d⟩

theorem optmWeight_plain (r : UpdRec) (half : Nat) (t0 t1 : Int) : (optmWeight r half t0 t1).plain := by
  unfold optmWeight
  extract_lets A g w mom done
  have hmom (c : Nat) (t : Int) : (mom c t).plain := Num.plain_seq _ _ (expand_plain _ _ _) (fun _ => round32_plain _ _ _)
  have hdone (w m v : Nat) : (done w m v).plain := Num.plain_ret _
  refine Num.plain_seq _ _ (hmom _ _) (fun m => Num.plain_seq _ _ (hmom _ _) (fun v => Num.plain_ite _ _ ?_ ?_))
  · exact Num.plain_seq _ _ (mul32_plain _ _) (fun _ => Num.plain_seq _ _ (add32_plain _ _) (fun _ => Num.plain_seq _ _ (mul32_plain _ _) (fun _ =>
      Num.plain_seq _ _ (add32_plain _ _) (fun _ => hdone _ _ _))))
  · refine Num.plain_seq _ _ (mul32_plain _ _) (fun _ => Num.plain_seq _ _ (mul32_plain _ _) (fun _ => Num.plain_seq _ _ (add32_plain _ _) (fun _ => ?_)))
    refine Num.plain_seq _ _ (mul32_plain _ _) (fun _ => Num.plain_seq _ _ (mul32_plain _ _) (fun _ => Num.plain_seq _ _ (mul32_plain _ _) (fun _ =>
      Num.plain_seq _ _ (add32_plain _ _) (fun _ => ?_))))
    refine Num.plain_seq _ _ (add32_plain _ _) (fun _ => Num.plain_seq _ _ (rsqrt32_plain _) (fun _ => Num.plain_seq _ _ (mul32_plain _ _) (fun _ =>
      Num.plain_seq _ _ (mul32_plain _ _) (fun _ => Num.plain_seq _ _ (add32_plain _ _) (fun _ => hdone _ _ _)))))

/-- Half i of the state beats in a buffer: one weight's sum, master and moments (R333). -/
def Die.stateHalf (d : Die) (tile buf i : Nat) : Nat := if i % 2 = 0 then (d.ub tile buf (i / 2)).data.toNat % 2 ^ 128 else (d.ub tile buf (i / 2)).data.toNat / 2 ^ 128

theorem stateHalves (d : Die) (tile buf : Nat) : ((List.range 8).map (fun i => d.ub tile buf i)).flatMap (fun b => [b.data.toNat % 2 ^ 128, b.data.toNat / 2 ^ 128])
    = (List.range 16).map (d.stateHalf tile buf) := rfl

/-- The state beats that OPTM leaves (R333, R334). -/
def optmBeats (d : Die) (f : UFire) : List UbBeat :=
  let half := d.stateHalf f.tile (fld f.w 39 38)
  let new (i : Nat) : Nat × Nat × Nat := (Num.val (optmWeight f.y.r (half i) (d.ub f.tile (fld f.w 39 38) 0).t0 (d.ub f.tile (fld f.w 39 38) 0).t1)).1
  let base := KMap.get (0, 0) (d.updSt f.x.e).bases f.y.r.layer
  let ms := narrowMoment base.1 ((List.range 16).map (fun i => (new i).2.1))
  let vs := narrowMoment base.2 ((List.range 16).map (fun i => (new i).2.2))
  let out (i : Nat) : Nat := half i % 2 ^ 96 + (new i).1 * 2 ^ 96 + ms.1.getD i 0 * 2 ^ 112 + vs.1.getD i 0 * 2 ^ 120
  (List.range 8).map (fun i => ⟨BitVec.ofNat 256 (out (2 * i) + out (2 * i + 1) * 2 ^ 128), ms.2.1, vs.2.1⟩)

/-- The weights of the block as OPTM computes them: a weight's half, and its new master, moments and saturation. -/
def optmRows (d : Die) (f : UFire) : List (Nat × (Nat × Nat × Nat) × Nat) :=
  Num.val (Num.all (fun h => Num.seq (optmWeight f.y.r h (d.ub f.tile (fld f.w 39 38) 0).t0 (d.ub f.tile (fld f.w 39 38) 0).t1) (fun r => Num.ret (h, r)))
    (((List.range 8).map (fun i => d.ub f.tile (fld f.w 39 38) i)).flatMap (fun b => [b.data.toNat % 2 ^ 128, b.data.toNat / 2 ^ 128])))

theorem optmRows_eq (d : Die) (f : UFire) : optmRows d f = (List.range 16).map (fun i => (d.stateHalf f.tile (fld f.w 39 38) i,
    Num.val (optmWeight f.y.r (d.stateHalf f.tile (fld f.w 39 38) i) (d.ub f.tile (fld f.w 39 38) 0).t0 (d.ub f.tile (fld f.w 39 38) 0).t1))) := by
  unfold optmRows
  rw [Num.val_all _ _ (fun h => Num.plain_seq _ _ (optmWeight_plain _ _ _ _) (fun _ => Num.plain_ret _)), stateHalves, List.map_map]
  refine List.map_congr_left (fun i _ => ?_)
  exact Num.val_seq _ _ (fun _ => Num.plain_ret _)

/-- A weight's half as OPTM leaves it. -/
def optmOut (rows : List (Nat × (Nat × Nat × Nat) × Nat)) (ms vs : List Nat) (i : Nat) : Nat :=
  match rows[i]? with
  | some r => r.1 % 2 ^ 96 + r.2.1.1 * 2 ^ 96 + ms.getD i 0 * 2 ^ 112 + vs.getD i 0 * 2 ^ 120
  | none => 0

/-- The buffer beats of OPTM from the weights it computed and the narrowed moments. -/
def optmBuffer (rows : List (Nat × (Nat × Nat × Nat) × Nat)) (ms vs : List Nat × Int × Nat) : List UbBeat :=
  (List.range 8).map (fun i => ⟨BitVec.ofNat 256 (optmOut rows ms.1 vs.1 (2 * i) + optmOut rows ms.1 vs.1 (2 * i + 1) * 2 ^ 128), ms.2.1, vs.2.1⟩)

theorem optm_counts (fu : Fused) (f : UFire) (d : Die) : ∃ m n, (optm fu f d).2 = ((d.setUb f.tile (fld f.w 35 34) (optmBuffer (optmRows d f)
    (narrowMoment (KMap.get (0, 0) (d.updSt f.x.e).bases f.y.r.layer).1 ((optmRows d f).map (fun r => r.2.1.2.1)))
    (narrowMoment (KMap.get (0, 0) (d.updSt f.x.e).bases f.y.r.layer).2 ((optmRows d f).map (fun r => r.2.1.2.2))))).countBy T.UPD_OPT_SAT f.x.e m).countBy T.FAB_CODE_SPECIAL f.x.p n :=
  ⟨_, _, rfl⟩

theorem optmBuffer_eq (d : Die) (f : UFire) : optmBuffer (optmRows d f)
    (narrowMoment (KMap.get (0, 0) (d.updSt f.x.e).bases f.y.r.layer).1 ((optmRows d f).map (fun r => r.2.1.2.1)))
    (narrowMoment (KMap.get (0, 0) (d.updSt f.x.e).bases f.y.r.layer).2 ((optmRows d f).map (fun r => r.2.1.2.2))) = optmBeats d f := by
  have hout (ms vs : List Nat) (i : Nat) (hi : i < 16) : optmOut (optmRows d f) ms vs i = d.stateHalf f.tile (fld f.w 39 38) i % 2 ^ 96
      + (Num.val (optmWeight f.y.r (d.stateHalf f.tile (fld f.w 39 38) i) (d.ub f.tile (fld f.w 39 38) 0).t0 (d.ub f.tile (fld f.w 39 38) 0).t1)).1.1 * 2 ^ 96
      + ms.getD i 0 * 2 ^ 112 + vs.getD i 0 * 2 ^ 120 := by
    unfold optmOut
    rw [optmRows_eq, List.getElem?_map, List.getElem?_range hi]
    rfl
  have hfirst : (optmRows d f).map (fun r => r.2.1.2.1) = (List.range 16).map (fun i =>
      (Num.val (optmWeight f.y.r (d.stateHalf f.tile (fld f.w 39 38) i) (d.ub f.tile (fld f.w 39 38) 0).t0 (d.ub f.tile (fld f.w 39 38) 0).t1)).1.2.1) := by
    rw [optmRows_eq, List.map_map]
    rfl
  have hsecond : (optmRows d f).map (fun r => r.2.1.2.2) = (List.range 16).map (fun i =>
      (Num.val (optmWeight f.y.r (d.stateHalf f.tile (fld f.w 39 38) i) (d.ub f.tile (fld f.w 39 38) 0).t0 (d.ub f.tile (fld f.w 39 38) 0).t1)).1.2.2) := by
    rw [optmRows_eq, List.map_map]
    rfl
  rw [hfirst, hsecond]
  unfold optmBuffer optmBeats
  dsimp only
  refine List.map_congr_left (fun i hi => ?_)
  have := List.mem_range.1 hi
  rw [hout _ _ (2 * i) (by omega), hout _ _ (2 * i + 1) (by omega)]

theorem optm_writes (fu : Fused) (f : UFire) (d : Die) : (optm fu f d).1 = false ∧ d.ubWritten f.tile (fld f.w 35 34) (optmBeats d f) (optm fu f d).2 := by
  obtain ⟨m, n, h⟩ := optm_counts fu f d
  rw [h, optmBuffer_eq]
  exact ⟨rfl, Die.setUb_counted _ _ _ _ _ _ _ m n d⟩

theorem exec_uGradDiff (tile op : Nat) (s : State) : exec (.uGradDiff tile op) s = laneCmd (fun w => opc w == 36 && fld w 41 40 == 0) gradDiff tile op s := rfl

theorem exec_uGradBack (tile op : Nat) (s : State) : exec (.uGradBack tile op) s = laneCmd (fun w => opc w == 36 && fld w 41 40 == 1) gradBack tile op s := rfl

theorem exec_uOptm (tile op : Nat) (s : State) : exec (.uOptm tile op) s = laneCmd (fun w => opc w == 37) optm tile op s := rfl

/-- Settles O25: an operation's lanes are plain, so that each is the value of its own inputs, and before the last operation of a list the lane only moves on. -/
theorem updateLaneComputes : Obligations.UpdateLaneComputes := by
  unfold Obligations.UpdateLaneComputes
  intro s tile op x f phase htile hcol hctx hhead hin hecc hpoison hphase hlast
  obtain ⟨hx, ht, -, -⟩ := Die.laneHead_of hhead
  dsimp only
  refine ⟨fun hop hsub => ?_, fun hop hsub => ?_, fun hop => ?_⟩
  · obtain ⟨hclean, hwrites⟩ := gradDiff_writes s.fused f s.die
    rw [ht] at hwrites
    exact lane_leaves (exec_uGradDiff tile op s) htile hcol hctx hhead hin hphase hlast (by rw [hop, hsub]; rfl) hclean hwrites
  · obtain ⟨hclean, hwrites⟩ := gradBack_writes s.fused f s.die hecc hpoison
    simp only [backLane_val, backSum, Die.pairBank, ht, hx] at hwrites
    exact lane_leaves (exec_uGradBack tile op s) htile hcol hctx hhead hin hphase hlast (by rw [hop, hsub]; rfl) hclean hwrites
  · obtain ⟨hclean, hwrites⟩ := optm_writes s.fused f s.die
    rw [ht] at hwrites
    have hleaves := lane_leaves (exec_uOptm tile op s) htile hcol hctx hhead hin hphase hlast (by rw [hop]; rfl) hclean hwrites
    simp only [optmBeats, Die.stateHalf, ht, hx] at hleaves
    exact hleaves

end Sys2Proof.Machine
end

section
/-! SUPPORT. What follows an operation of the update lane keeps of the tiles' accumulators, codes and stores and of the unit's sums, masters and moments (R320). -/

namespace Sys2Proof.Machine

/-- The rows, every tile's accumulators, codes and store, and the sums, masters and moments of engine e's unit stand. -/
structure Die.laneMoved (e : Nat) (d f : Die) : Prop where
  rows : f.rows = d.rows
  dir : f.dir = d.dir
  tiles : ∀ t, (f.tile t).acc = (d.tile t).acc ∧ (f.tile t).codes = (d.tile t).codes ∧ (f.tile t).store = (d.tile t).store
  unit : (f.updSt e).sums = (d.updSt e).sums ∧ (f.updSt e).masters = (d.updSt e).masters ∧ (f.updSt e).moments = (d.updSt e).moments

theorem Die.laneMoved_refl (e : Nat) (d : Die) : d.laneMoved e d := ⟨rfl, rfl, fun _ => ⟨rfl, rfl, rfl⟩, rfl, rfl, rfl⟩

theorem Die.laneMoved.trans {e : Nat} {a b c : Die} (h : a.laneMoved e b) (k : b.laneMoved e c) : a.laneMoved e c := by
  refine ⟨k.rows.trans h.rows, k.dir.trans h.dir, fun t => ?_, k.unit.1.trans h.unit.1, k.unit.2.1.trans h.unit.2.1, k.unit.2.2.trans h.unit.2.2⟩
  obtain ⟨hacc, hcodes, hstore⟩ := h.tiles t
  obtain ⟨kacc, kcodes, kstore⟩ := k.tiles t
  exact ⟨kacc.trans hacc, kcodes.trans hcodes, kstore.trans hstore⟩

theorem Die.laneMoved_ite {e : Nat} {c : Prop} [Decidable c] {d f g : Die} (h : d.laneMoved e f) (k : d.laneMoved e g) : d.laneMoved e (if c then f else g) := by split <;> assumption

theorem Die.laneMoved_foldl {α : Type} (e : Nat) (f : Die → α → Die) (hf : ∀ d x, Die.laneMoved e d (f d x)) (l : List α) (d : Die) : d.laneMoved e (l.foldl f d) := by
  induction l generalizing d with
  | nil => exact d.laneMoved_refl e
  | cons x xs ih => exact (hf d x).trans (ih _)

theorem Die.laneMoved_of {d f : Die} (e : Nat) (hrows : f.rows = d.rows) (hdir : f.dir = d.dir) (htiles : f.tiles = d.tiles) (hupd : f.upd = d.upd) : d.laneMoved e f := by
  have htile (t : Nat) : f.tile t = d.tile t := Die.tile_congr f d htiles t
  have hst : f.updSt e = d.updSt e := by rw [Die.updSt, hupd, Die.updSt]
  exact ⟨hrows, hdir, fun t => by rw [htile]; exact ⟨rfl, rfl, rfl⟩, by rw [hst], by rw [hst], by rw [hst]⟩

theorem Die.laneMoved_report {d f : Die} (e : Nat) (h : d.report f) : d.laneMoved e f := Die.laneMoved_of e (by rw [h.1]) (by rw [h.1]) (by rw [h.1]) (by rw [h.1])

theorem Die.laneMoved_erred {d f : Die} (e : Nat) (h : d.erred f) : d.laneMoved e f := Die.laneMoved_of e (by rw [h.frame]) (by rw [h.frame]) (by rw [h.frame]) (by rw [h.frame])

theorem Die.laneMoved_lineOnly {d f : Die} (e : Nat) (h : d.lineOnly f) : d.laneMoved e f := Die.laneMoved_of e (by rw [h.frame]) (by rw [h.frame]) (by rw [h.frame]) (by rw [h.frame])

theorem Die.laneMoved_put (e : Nat) (f : Fld) (i v : Nat) (d : Die) : d.laneMoved e (d.put f i v) := Die.laneMoved_of e rfl rfl rfl rfl

theorem Die.laneMoved_onTile (e t : Nat) (f : TileSt → TileSt) (d : Die) (hf : ∀ z, (f z).acc = z.acc ∧ (f z).codes = z.codes ∧ (f z).store = z.store) : d.laneMoved e (d.onTile t f) := by
  refine ⟨rfl, rfl, fun u => ?_, rfl, rfl, rfl⟩
  by_cases hu : u = t
  · subst hu
    rw [Die.tile_onTile_same]
    exact hf _
  · rw [Die.tile_onTile_other _ _ _ _ hu]
    exact ⟨rfl, rfl, rfl⟩

theorem Die.laneMoved_onUpd (e : Nat) (f : UpdSt → UpdSt) (d : Die) (hf : ∀ y, (f y).sums = y.sums ∧ (f y).masters = y.masters ∧ (f y).moments = y.moments) : d.laneMoved e (d.onUpd e f) := by
  refine ⟨rfl, rfl, fun _ => ⟨rfl, rfl, rfl⟩, ?_⟩
  rw [Die.updSt_onUpd_same]
  exact hf _

theorem Die.laneMoved_setUb (e t buf : Nat) (l : List UbBeat) (d : Die) : d.laneMoved e (d.setUb t buf l) :=
  Die.laneMoved_foldl e _ (fun d _ => d.laneMoved_onTile e t _ (by intro _; exact ⟨rfl, rfl, rfl⟩)) _ d

theorem Die.laneMoved_sendDigest (x : UpdCtx) (step : Nat) (d : Die) : d.laneMoved x.e (d.sendDigest x step) :=
  Die.laneMoved_ite ((d.laneMoved_onUpd x.e _ (by intro _; exact ⟨rfl, rfl, rfl⟩)).trans (Die.laneMoved_lineOnly x.e (Die.lineOnly_sendUp _ _ _ _))) (d.laneMoved_refl x.e)

theorem Die.laneMoved_updPacket {x : UpdCtx} (hp : x.p < 64) (r : UpdRun) (outcome : Nat) (d : Die) : d.laneMoved x.e (d.updPacket x r outcome) := by
  unfold Die.updPacket
  extract_lets a
  have ha : d.laneMoved x.e a := Die.laneMoved_report x.e (d.report_trace _ (fun q hq => by cases hq; exact hp))
  exact ha.trans (Die.laneMoved_ite (Die.laneMoved_of x.e rfl rfl rfl rfl) (a.laneMoved_refl x.e))

theorem Die.laneMoved_updStop {x : UpdCtx} (hp : x.p < 64) (frozen : Bool) (outcome : Nat) (d : Die) : d.laneMoved x.e (d.updStop x frozen outcome) := by
  unfold Die.updStop
  split
  · exact d.laneMoved_refl x.e
  · extract_lets a b c g h
    have ha : d.laneMoved x.e a := d.laneMoved_onUpd x.e _ (by intro _; exact ⟨rfl, rfl, rfl⟩)
    have hb : a.laneMoved x.e b := a.laneMoved_put x.e _ _ _
    have hc : b.laneMoved x.e c := Die.laneMoved_report x.e (b.report_count _ _)
    have hg : c.laneMoved x.e g := Die.laneMoved_ite (c.laneMoved_put x.e _ _ _) (c.laneMoved_refl x.e)
    have hh : g.laneMoved x.e h := Die.laneMoved_updPacket hp _ outcome g
    have hall := ha.trans (hb.trans (hc.trans (hg.trans hh)))
    exact Die.laneMoved_ite (hall.trans (h.laneMoved_sendDigest x _)) hall

theorem Die.laneMoved_deliverBlock (fu : Fused) {x : UpdCtx} (hp : x.p < 64) (tile : Nat) (d : Die) : d.laneMoved x.e (d.deliverBlock fu x tile) := by
  unfold Die.deliverBlock
  split
  · exact d.laneMoved_refl x.e
  · extract_lets ks locs r u t half buf
    have hr : d.laneMoved x.e r.2 := Die.laneMoved_erred x.e (Die.erred_eccReadAll fu 9 none (some x.p) (by decide) (fun _ h => by cases h) locs d)
    exact Die.laneMoved_ite (hr.trans (Die.laneMoved_updStop hp true 2 _)) (hr.trans (Die.laneMoved_setUb x.e tile _ _ _))

theorem Die.laneMoved_optimiseEnd (x : UpdCtx) (d : Die) : d.laneMoved x.e (d.optimiseEnd x) :=
  (d.laneMoved_onUpd x.e _ (by intro _; exact ⟨rfl, rfl, rfl⟩)).trans (Die.laneMoved_put x.e _ _ _ _)

theorem Die.laneMoved_swapEnd (x : UpdCtx) (d : Die) : d.laneMoved x.e (d.swapEnd x) := by
  unfold Die.swapEnd
  split
  · exact (d.laneMoved_onUpd x.e _ (by intro _; exact ⟨rfl, rfl, rfl⟩)).trans (Die.laneMoved_put x.e _ _ _ _)
  · exact d.laneMoved_refl x.e

theorem Die.laneMoved_enterReduce (x : UpdCtx) (d : Die) : d.laneMoved x.e (d.enterReduce x) := by
  unfold Die.enterReduce
  extract_lets a
  have ha : d.laneMoved x.e a := d.laneMoved_put x.e _ _ _
  split
  · exact Die.laneMoved_ite (ha.trans (Die.laneMoved_foldl x.e _ (fun d _ => Die.laneMoved_lineOnly x.e (d.lineOnly_sendUp _ _ _)) _ _)) ha
  · exact ha

theorem Die.laneMoved_enterFlush (x : UpdCtx) (d : Die) : d.laneMoved x.e (d.enterFlush x) := by
  unfold Die.enterFlush
  extract_lets a
  have ha : d.laneMoved x.e a := (d.laneMoved_put x.e _ _ _).trans (Die.laneMoved_foldl x.e _ (fun d t => d.laneMoved_onTile x.e t _ (by intro _; exact ⟨rfl, rfl, rfl⟩)) _ _)
  exact Die.laneMoved_ite (ha.trans (a.laneMoved_enterReduce x)) ha

theorem Die.laneMoved_deliverPair (x : UpdCtx) (c : CapRec) (d : Die) : d.laneMoved x.e (d.deliverPair x c) :=
  Die.laneMoved_foldl x.e _ (fun d t => (d.laneMoved_onTile x.e t _ (by intro _; exact ⟨rfl, rfl, rfl⟩)).trans
    (Die.laneMoved_foldl x.e _ (fun d _ => d.laneMoved_onTile x.e t _ (by intro _; exact ⟨rfl, rfl, rfl⟩)) _ _)) _ d

theorem Die.laneMoved_nextPair (fu : Fused) (x : UpdCtx) (l : List CapRec) (d : Die) : d.laneMoved x.e (d.nextPair fu x l) := by
  induction l generalizing d with
  | nil =>
    unfold Die.nextPair
    exact (d.laneMoved_onUpd x.e _ (by intro _; exact ⟨rfl, rfl, rfl⟩)).trans (Die.laneMoved_enterFlush x _)
  | cons c rest ih =>
    unfold Die.nextPair
    extract_lets a rd b g
    have ha : d.laneMoved x.e a := d.laneMoved_onUpd x.e _ (by intro _; exact ⟨rfl, rfl, rfl⟩)
    have hb : a.laneMoved x.e b := (Die.laneMoved_erred x.e (a.erred_eccRead fu 8 (capLoc x.e c.evid) none (some x.p) (by decide) (fun _ h => by cases h))).trans
      (Die.laneMoved_of x.e rfl rfl rfl rfl)
    have hg : b.laneMoved x.e g := b.laneMoved_deliverPair x c
    have hab := ha.trans hb
    exact Die.laneMoved_ite (hab.trans ((Die.laneMoved_report x.e (b.report_count _ _)).trans (ih _))) (Die.laneMoved_ite (hab.trans (hg.trans (ih g))) (hab.trans hg))

/-- What follows an operation of the lane (R320). -/
theorem Die.laneNext_moves (fu : Fused) {x : UpdCtx} (hp : x.p < 64) (tile phase : Nat) (d : Die) : d.laneMoved x.e (d.laneNext fu x tile phase) := by
  unfold Die.laneNext
  extract_lets a at_ b
  have ha : d.laneMoved x.e a := Die.laneMoved_ite (d.laneMoved_refl x.e) (d.laneMoved_onTile x.e tile _ (by intro _; exact ⟨rfl, rfl, rfl⟩))
  refine ha.trans ?_
  split
  · refine Die.laneMoved_ite ?_ (a.laneMoved_refl x.e)
    split
    · exact Die.laneMoved_nextPair fu x _ a
    · exact a.laneMoved_refl x.e
  · exact Die.laneMoved_ite (a.laneMoved_enterReduce x) (a.laneMoved_refl x.e)
  · split
    · exact a.laneMoved_refl x.e
    · have hb : a.laneMoved x.e b := (a.laneMoved_onTile x.e tile _ (by intro _; exact ⟨rfl, rfl, rfl⟩)).trans (Die.laneMoved_deliverBlock fu hp tile _)
      exact Die.laneMoved_ite (Die.laneMoved_ite (hb.trans (b.laneMoved_optimiseEnd x)) hb) (a.laneMoved_refl x.e)
  · exact Die.laneMoved_ite (a.laneMoved_swapEnd x) (a.laneMoved_refl x.e)

end Sys2Proof.Machine
end

section
/-! SUPPORT. LACC, SRQ and SWAP of the update lane (R331, R335). -/

namespace Sys2Proof.Machine

/-- `f` is `d` after LACC ACCUM of n terms from accumulator `a` on (R331). -/
structure Die.accumulated (tile a n : Nat) (term : Nat → Int) (d f : Die) : Prop where
  rows : f.rows = d.rows
  dir : f.dir = d.dir
  upd : f.upd = d.upd
  own : f.tile tile = { d.tile tile with acc := (f.tile tile).acc }
  sums : ∀ k, k < n → KMap.get 0 (f.tile tile).acc (a + k) = KMap.get 0 (d.tile tile).acc (a + k) + term k
  rest : ∀ b, b < a ∨ a + n ≤ b → KMap.get 0 (f.tile tile).acc b = KMap.get 0 (d.tile tile).acc b

theorem Die.ubCode_own {d f : Die} {tile : Nat} (h : f.tile tile = { d.tile tile with acc := (f.tile tile).acc }) (buf fmt i : Nat) : f.ubCode tile buf fmt i = d.ubCode tile buf fmt i := by
  unfold Die.ubCode Die.ub
  rw [h]

/-- One term of LACC ACCUM. -/
def laccStep (f : UFire) (d : Die) (k : Nat) : Die :=
  let t := laccTerm (d.ubCode f.tile (fld f.w 39 38) 9 (k / uNi f.w)) (d.ubCode f.tile (fld f.w 37 36) f.y.r.afmt (k % uNi f.w)) f.y.r.ql
  let d := d.onTile f.tile (fun z => { z with acc := KMap.upd 0 z.acc (uAddr f.w + k) (· + t.1) })
  if t.2 then d.count T.UPD_LACC_CLIP f.x.e else d

def laccTerms (f : UFire) (d : Die) (k : Nat) : Int :=
  (laccTerm (d.ubCode f.tile (fld f.w 39 38) 9 (k / uNi f.w)) (d.ubCode f.tile (fld f.w 37 36) f.y.r.afmt (k % uNi f.w)) f.y.r.ql).1

theorem laccStep_adds (f : UFire) (d : Die) (k : Nat) : (laccStep f d k).rows = d.rows ∧ (laccStep f d k).dir = d.dir ∧ (laccStep f d k).upd = d.upd
    ∧ (laccStep f d k).tile f.tile = { d.tile f.tile with acc := KMap.upd 0 (d.tile f.tile).acc (uAddr f.w + k) (· + laccTerms f d k) } := by
  have h : (d.onTile f.tile (fun z => { z with acc := KMap.upd 0 z.acc (uAddr f.w + k) (· + laccTerms f d k) })).report (laccStep f d k) :=
    Die.report_ite (Die.report_count _ _ _) (Die.report_refl _)
  have htile := Die.tile_onTile_same d f.tile (fun z => { z with acc := KMap.upd 0 z.acc (uAddr f.w + k) (· + laccTerms f d k) })
  refine ⟨(congrArg Die.rows h.1).trans rfl, (congrArg Die.dir h.1).trans rfl, (congrArg Die.upd h.1).trans rfl, ?_⟩
  exact (Die.tile_congr _ _ ((congrArg Die.tiles h.1).trans rfl) f.tile).trans htile

theorem laccFold_accumulates (f : UFire) (n : Nat) (d : Die) : d.accumulated f.tile (uAddr f.w) n (laccTerms f d) ((List.range n).foldl (laccStep f) d) := by
  induction n with
  | zero => exact ⟨rfl, rfl, rfl, rfl, fun k hk => absurd hk (Nat.not_lt_zero _), fun _ _ => rfl⟩
  | succ n ih =>
    rw [List.range_succ, List.foldl_append, List.foldl_cons, List.foldl_nil]
    generalize (List.range n).foldl (laccStep f) d = a at ih
    obtain ⟨hrows, hdir, hupd, htile⟩ := laccStep_adds f a n
    have hterm : laccTerms f a n = laccTerms f d n := by rw [laccTerms, Die.ubCode_own ih.own, Die.ubCode_own ih.own, laccTerms]
    have hacc : ((laccStep f a n).tile f.tile).acc = KMap.upd 0 (a.tile f.tile).acc (uAddr f.w + n) (· + laccTerms f d n) := by rw [htile, hterm]
    refine ⟨hrows.trans ih.rows, hdir.trans ih.dir, hupd.trans ih.upd, ?_, fun k hk => ?_, fun b hb => ?_⟩
    · rw [htile, ih.own]
    · rw [hacc]
      by_cases hkn : k = n
      · rw [hkn, KMap.get_upd_same, ih.rest _ (by omega)]
      · rw [KMap.get_upd_other _ _ _ _ _ (by omega)]
        exact ih.sums k (by omega)
    · rw [hacc, KMap.get_upd_other _ _ _ _ _ (by omega)]
      exact ih.rest b (by omega)

theorem laccAccum_accumulates (fu : Fused) (f : UFire) (d : Die) (hecc : d.ecc = []) (hpoison : d.poison = []) : (laccAccum fu f d).1 = false
    ∧ d.accumulated f.tile (uAddr f.w) (uNj f.w * uNi f.w) (laccTerms f d) (laccAccum fu f d).2 := by
  obtain ⟨n, hn⟩ : ∃ n, (laccAccum fu f d) = (false, (List.range (uNj f.w * uNi f.w)).foldl (laccStep f) (d.countBy T.FAB_CODE_SPECIAL f.x.p n)) := by
    unfold laccAccum
    dsimp only
    rw [Die.eccReadAll_clean _ _ _ _ _ _ hecc hpoison, if_neg Bool.false_ne_true]
    exact ⟨_, rfl⟩
  have hrep := d.report_countBy T.FAB_CODE_SPECIAL f.x.p n
  obtain ⟨a, ha⟩ : ∃ a, d.countBy T.FAB_CODE_SPECIAL f.x.p n = a := ⟨_, rfl⟩
  rw [ha] at hn hrep
  have htile : a.tile f.tile = d.tile f.tile := Die.tile_congr _ _ ((congrArg Die.tiles hrep.1).trans rfl) _
  have hterms : laccTerms f a = laccTerms f d := by
    funext k
    unfold laccTerms Die.ubCode Die.ub
    rw [htile]
  have h := laccFold_accumulates f (uNj f.w * uNi f.w) a
  rw [hterms] at h
  rw [hn]
  refine ⟨rfl, h.rows.trans ((congrArg Die.rows hrep.1).trans rfl), h.dir.trans ((congrArg Die.dir hrep.1).trans rfl), h.upd.trans ((congrArg Die.upd hrep.1).trans rfl), ?_, fun k hk => ?_, fun b hb => ?_⟩
  · rw [h.own, htile]
  · rw [h.sums k hk, htile]
  · rw [h.rest b hb, htile]

/-- `f` is `d` after LACC FLUSH of n accumulators from `a` on into the sums under their keys (R331). -/
structure Die.flushed (tile e a n : Nat) (key : Nat → Nat) (d f : Die) : Prop where
  rows : f.rows = d.rows
  dir : f.dir = d.dir
  own : f.tile tile = { d.tile tile with acc := (f.tile tile).acc }
  cleared : ∀ k, k < n → KMap.get 0 (f.tile tile).acc (a + k) = 0
  rest : ∀ b, b < a ∨ a + n ≤ b → KMap.get 0 (f.tile tile).acc b = KMap.get 0 (d.tile tile).acc b
  sums : ∀ j, KMap.get 0 (f.updSt e).sums j = KMap.get 0 (d.updSt e).sums j
    + (((List.range n).filter (fun k => decide (key k = j))).map (fun k => KMap.get 0 (d.tile tile).acc (a + k))).sum
  unit : f.updSt e = { d.updSt e with sums := (f.updSt e).sums }

def flushKey (f : UFire) (k : Nat) : Nat := f.y.r.layer * 2 ^ 20 + (f.y.j0 + k / uNi f.w) * f.y.r.k + f.y.i0 + k % uNi f.w

/-- One accumulator of LACC FLUSH. -/
def flushStep (f : UFire) (d : Die) (k : Nat) : Die :=
  let v := KMap.get 0 (d.tile f.tile).acc (uAddr f.w + k)
  let d := (d.onTile f.tile (fun z => { z with acc := KMap.set 0 z.acc (uAddr f.w + k) 0 })).eccClear 10 (tsLoc f.tile (uAddr f.w + k))
  d.onUpd f.x.e (fun u => { u with sums := KMap.upd 0 u.sums (flushKey f k) (· + v) })

theorem flushStep_moves (f : UFire) (d : Die) (k : Nat) : (flushStep f d k).rows = d.rows ∧ (flushStep f d k).dir = d.dir
    ∧ (flushStep f d k).tile f.tile = { d.tile f.tile with acc := KMap.set 0 (d.tile f.tile).acc (uAddr f.w + k) 0 }
    ∧ (flushStep f d k).updSt f.x.e = { d.updSt f.x.e with sums := KMap.upd 0 (d.updSt f.x.e).sums (flushKey f k) (· + KMap.get 0 (d.tile f.tile).acc (uAddr f.w + k)) } := by
  refine ⟨rfl, rfl, ?_, ?_⟩
  · exact Die.tile_onTile_same d f.tile (fun z => { z with acc := KMap.set 0 z.acc (uAddr f.w + k) 0 })
  · exact Die.updSt_onUpd_same f.x.e (fun u => { u with sums := KMap.upd 0 u.sums (flushKey f k) (· + KMap.get 0 (d.tile f.tile).acc (uAddr f.w + k)) }) d

theorem flushFold_flushes (f : UFire) (n : Nat) (d : Die) : d.flushed f.tile f.x.e (uAddr f.w) n (flushKey f) ((List.range n).foldl (flushStep f) d) := by
  induction n with
  | zero => exact ⟨rfl, rfl, rfl, fun k hk => absurd hk (Nat.not_lt_zero _), fun _ _ => rfl, fun j => (Int.add_zero _).symm, rfl⟩
  | succ n ih =>
    rw [List.range_succ, List.foldl_append, List.foldl_cons, List.foldl_nil]
    generalize (List.range n).foldl (flushStep f) d = a at ih
    obtain ⟨hrows, hdir, htile, hunit⟩ := flushStep_moves f a n
    have hacc : ((flushStep f a n).tile f.tile).acc = KMap.set 0 (a.tile f.tile).acc (uAddr f.w + n) 0 := by rw [htile]
    have hsums : ((flushStep f a n).updSt f.x.e).sums = KMap.upd 0 (a.updSt f.x.e).sums (flushKey f n) (· + KMap.get 0 (d.tile f.tile).acc (uAddr f.w + n)) := by
      rw [hunit, ih.rest _ (by omega)]
    refine ⟨hrows.trans ih.rows, hdir.trans ih.dir, ?_, fun k hk => ?_, fun b hb => ?_, fun j => ?_, ?_⟩
    · rw [htile, ih.own]
    · rw [hacc]
      by_cases hkn : k = n
      · rw [hkn, KMap.get_set_same]
      · rw [KMap.get_set_other _ _ _ _ _ (by omega)]
        exact ih.cleared k (by omega)
    · rw [hacc, KMap.get_set_other _ _ _ _ _ (by omega)]
      exact ih.rest b (by omega)
    · rw [hsums, List.range_succ, List.filter_append, List.map_append, List.sum_append]
      by_cases hj : flushKey f n = j
      · have hone : [n].filter (fun k => decide (flushKey f k = j)) = [n] := List.filter_cons_of_pos (decide_eq_true hj)
        rw [hone, hj, KMap.get_upd_same, ih.sums j, List.map_singleton, List.sum_singleton, Int.add_assoc]
      · have hnone : [n].filter (fun k => decide (flushKey f k = j)) = [] := List.filter_cons_of_neg (by rw [decide_eq_false hj]; exact Bool.false_ne_true)
        rw [hnone, KMap.get_upd_other _ _ _ _ _ (Ne.symm hj), ih.sums j, List.map_nil, List.sum_nil, Int.add_zero]
    · rw [hunit, ih.unit]

theorem laccFlush_flushes (fu : Fused) (f : UFire) (d : Die) (hecc : d.ecc = []) (hpoison : d.poison = []) : (laccFlush fu f d).1 = false
    ∧ d.flushed f.tile f.x.e (uAddr f.w) (uNj f.w * uNi f.w) (flushKey f) (laccFlush fu f d).2 := by
  have h : laccFlush fu f d = (false, (List.range (uNj f.w * uNi f.w)).foldl (flushStep f) d) := by
    unfold laccFlush
    dsimp only
    rw [Die.eccReadAll_clean _ _ _ _ _ _ hecc hpoison, if_neg Bool.false_ne_true]
    rfl
  rw [h]
  exact ⟨rfl, flushFold_flushes f _ d⟩

/-- The weight of place i of a block's keys. -/
def srqKey (ks : List (Option (Nat × Nat × Nat))) (i : Nat) : Option (Nat × Nat × Nat) := ks.getD i none

/-- The code that stochastic rounding gives a weight, and whether it clipped (R331). -/
def srqCode (f : UFire) (raw : Nat → Nat) (step half : Nat) (k : Nat × Nat × Nat) : Nat × Bool :=
  let sc := weightScale raw (uAddr f.w) k.2.1 (k.2.2 / max 1 f.y.r.g)
  srq (bits half 96 16) sc.1 sc.2 f.y.r.wfmt (srBits f.x.u.seed step f.y.r.tensor k.1)

/-- The code that place i of a block appends. -/
def srqPlace (f : UFire) (raw : Nat → Nat) (step half : Nat) (k : Option (Nat × Nat × Nat)) : Nat :=
  match k with
  | none => 0
  | some k => (srqCode f raw step half k).1

/-- One place of SRQ. -/
def srqStep (f : UFire) (raw : Nat → Nat) (ks : List (Option (Nat × Nat × Nat))) (step : Nat) (d : Die) (i : Nat) : Die :=
  let half := d.stateHalf f.tile (fld f.w 39 38) i
  match srqKey ks i with
  | none => d.onTile f.tile (fun z => { z with codes := z.codes ++ [(f.y.r.layer, 0)] })
  | some k =>
    let c := srqCode f raw step half k
    let key := f.y.r.layer * 2 ^ 20 + k.1
    let d := d.onTile f.tile (fun z => { z with codes := z.codes ++ [(f.y.r.layer, c.1)] })
    let d := d.onUpd f.x.e (fun u => { u with
      masters := KMap.set 0 u.masters key (bits half 96 16)
      moments := KMap.set (0, 0) u.moments key (bits half 112 8, bits half 120 8) })
    let d := (d.eccClear 9 (updLoc f.x.e key + 1)).countBy T.FAB_CODE_SPECIAL f.x.p (expand 10 (bits half 96 16) 0 {}).2.special
    if c.2 then d.count T.UPD_SRQ_CLIP f.x.e else d

/-- The masters and moments after place i of SRQ. -/
def srqUnit (f : UFire) (half : Nat) (k : Option (Nat × Nat × Nat)) (u : UpdSt) : UpdSt :=
  match k with
  | none => u
  | some k => { u with
      masters := KMap.set 0 u.masters (f.y.r.layer * 2 ^ 20 + k.1) (bits half 96 16)
      moments := KMap.set (0, 0) u.moments (f.y.r.layer * 2 ^ 20 + k.1) (bits half 112 8, bits half 120 8) }

theorem srqStep_returns (f : UFire) (raw : Nat → Nat) (ks : List (Option (Nat × Nat × Nat))) (step : Nat) (d : Die) (i : Nat) :
    (srqStep f raw ks step d i).rows = d.rows ∧ (srqStep f raw ks step d i).dir = d.dir
    ∧ (srqStep f raw ks step d i).tile f.tile = { d.tile f.tile with codes := (d.tile f.tile).codes
        ++ [(f.y.r.layer, srqPlace f raw step (d.stateHalf f.tile (fld f.w 39 38) i) (srqKey ks i))] }
    ∧ (srqStep f raw ks step d i).updSt f.x.e = srqUnit f (d.stateHalf f.tile (fld f.w 39 38) i) (srqKey ks i) (d.updSt f.x.e) := by
  unfold srqStep srqPlace srqUnit
  generalize srqKey ks i = place
  generalize d.stateHalf f.tile (fld f.w 39 38) i = half
  cases place with
  | none => exact ⟨rfl, rfl, Die.tile_onTile_same d f.tile (fun z => { z with codes := z.codes ++ [(f.y.r.layer, 0)] }), rfl⟩
  | some k =>
    dsimp only
    obtain ⟨a, ha⟩ : ∃ a, (d.onTile f.tile (fun z => { z with codes := z.codes ++ [(f.y.r.layer, (srqCode f raw step half k).1)] })) = a := ⟨_, rfl⟩
    have hatile : a.tile f.tile = { d.tile f.tile with codes := (d.tile f.tile).codes ++ [(f.y.r.layer, (srqCode f raw step half k).1)] } := by
      rw [← ha]
      exact Die.tile_onTile_same d f.tile (fun z => { z with codes := z.codes ++ [(f.y.r.layer, (srqCode f raw step half k).1)] })
    have haupd : a.upd = d.upd := by rw [← ha]; rfl
    have harows : a.rows = d.rows := by rw [← ha]; rfl
    have hadir : a.dir = d.dir := by rw [← ha]; rfl
    rw [ha]
    obtain ⟨b, hb⟩ : ∃ b, ((a.onUpd f.x.e (srqUnit f half (some k))).eccClear 9 (updLoc f.x.e (f.y.r.layer * 2 ^ 20 + k.1) + 1)) = b := ⟨_, rfl⟩
    have hbtile : b.tile f.tile = a.tile f.tile := by rw [← hb]; rfl
    have hbupd : b.updSt f.x.e = srqUnit f half (some k) (a.updSt f.x.e) := by rw [← hb]; exact Die.updSt_onUpd_same f.x.e (srqUnit f half (some k)) a
    have hbrows : b.rows = a.rows := by rw [← hb]; rfl
    have hbdir : b.dir = a.dir := by rw [← hb]; rfl
    have hrep : b.report (if (srqCode f raw step half k).2 = true then (b.countBy T.FAB_CODE_SPECIAL f.x.p (expand 10 (bits half 96 16) 0 {}).2.special).count T.UPD_SRQ_CLIP f.x.e
        else b.countBy T.FAB_CODE_SPECIAL f.x.p (expand 10 (bits half 96 16) 0 {}).2.special) :=
      Die.report_ite ((b.report_countBy _ _ _).trans (Die.report_count _ _ _)) (b.report_countBy _ _ _)
    have hst : a.updSt f.x.e = d.updSt f.x.e := by rw [Die.updSt, haupd, Die.updSt]
    have hgoal (g : Die) (hg : b.report g) : g.rows = d.rows ∧ g.dir = d.dir
        ∧ g.tile f.tile = { d.tile f.tile with codes := (d.tile f.tile).codes ++ [(f.y.r.layer, (srqCode f raw step half k).1)] }
        ∧ g.updSt f.x.e = srqUnit f half (some k) (d.updSt f.x.e) := by
      refine ⟨?_, ?_, ?_, ?_⟩
      · rw [hg.1, ← harows, ← hbrows]
      · rw [hg.1, ← hadir, ← hbdir]
      · rw [Die.tile_congr _ b (by rw [hg.1]), hbtile, hatile]
      · rw [Die.updSt, (by rw [hg.1] : g.upd = b.upd), ← Die.updSt, hbupd, hst]
    rw [← hb] at hrep hgoal
    exact hgoal _ hrep

/-- `f` is `d` after the first n places of SRQ. -/
structure Die.returned (fu : UFire) (raw : Nat → Nat) (ks : List (Option (Nat × Nat × Nat))) (step n : Nat) (d f : Die) : Prop where
  rows : f.rows = d.rows
  dir : f.dir = d.dir
  own : f.tile fu.tile = { d.tile fu.tile with codes := (f.tile fu.tile).codes }
  codes : (f.tile fu.tile).codes = (d.tile fu.tile).codes ++ (List.range n).map (fun i =>
    (fu.y.r.layer, srqPlace fu raw step (d.stateHalf fu.tile (fld fu.w 39 38) i) (srqKey ks i)))
  sums : (f.updSt fu.x.e).sums = (d.updSt fu.x.e).sums
  last : ∀ i k, i < n → srqKey ks i = some k → (∀ j, i < j → j < n → ∀ m, srqKey ks j = some m → m.1 ≠ k.1) →
    KMap.get 0 (f.updSt fu.x.e).masters (fu.y.r.layer * 2 ^ 20 + k.1) = bits (d.stateHalf fu.tile (fld fu.w 39 38) i) 96 16
    ∧ KMap.get (0, 0) (f.updSt fu.x.e).moments (fu.y.r.layer * 2 ^ 20 + k.1)
      = (bits (d.stateHalf fu.tile (fld fu.w 39 38) i) 112 8, bits (d.stateHalf fu.tile (fld fu.w 39 38) i) 120 8)

theorem Die.stateHalf_own {d f : Die} {tile : Nat} (h : f.tile tile = { d.tile tile with codes := (f.tile tile).codes }) (buf i : Nat) : f.stateHalf tile buf i = d.stateHalf tile buf i := by
  unfold Die.stateHalf Die.ub
  rw [h]

theorem srqUnit_same (f : UFire) (half : Nat) (k : Nat × Nat × Nat) (u : UpdSt) :
    KMap.get 0 (srqUnit f half (some k) u).masters (f.y.r.layer * 2 ^ 20 + k.1) = bits half 96 16
    ∧ KMap.get (0, 0) (srqUnit f half (some k) u).moments (f.y.r.layer * 2 ^ 20 + k.1) = (bits half 112 8, bits half 120 8) :=
  ⟨KMap.get_set_same _ _ _ _, KMap.get_set_same _ _ _ _⟩

theorem srqUnit_other (f : UFire) (half : Nat) (place : Option (Nat × Nat × Nat)) (u : UpdSt) (n : Nat) (h : ∀ m, place = some m → m.1 ≠ n) :
    KMap.get 0 (srqUnit f half place u).masters (f.y.r.layer * 2 ^ 20 + n) = KMap.get 0 u.masters (f.y.r.layer * 2 ^ 20 + n)
    ∧ KMap.get (0, 0) (srqUnit f half place u).moments (f.y.r.layer * 2 ^ 20 + n) = KMap.get (0, 0) u.moments (f.y.r.layer * 2 ^ 20 + n) := by
  cases place with
  | none => exact ⟨rfl, rfl⟩
  | some m =>
    have hne := h m rfl
    exact ⟨KMap.get_set_other _ _ _ _ _ (by omega), KMap.get_set_other _ _ _ _ _ (by omega)⟩

theorem srqUnit_sums (f : UFire) (half : Nat) (place : Option (Nat × Nat × Nat)) (u : UpdSt) : (srqUnit f half place u).sums = u.sums := by
  cases place <;> rfl

theorem srqFold_returns (f : UFire) (raw : Nat → Nat) (ks : List (Option (Nat × Nat × Nat))) (step n : Nat) (d : Die) :
    d.returned f raw ks step n ((List.range n).foldl (srqStep f raw ks step) d) := by
  induction n with
  | zero => exact ⟨rfl, rfl, rfl, (List.append_nil _).symm, rfl, fun i k hi => absurd hi (Nat.not_lt_zero _)⟩
  | succ n ih =>
    rw [List.range_succ, List.foldl_append, List.foldl_cons, List.foldl_nil]
    generalize (List.range n).foldl (srqStep f raw ks step) d = a at ih
    obtain ⟨hrows, hdir, htile, hunit⟩ := srqStep_returns f raw ks step a n
    rw [Die.stateHalf_own ih.own] at htile hunit
    refine ⟨hrows.trans ih.rows, hdir.trans ih.dir, ?_, ?_, ?_, fun i k hi hk hlast => ?_⟩
    · rw [htile, ih.own]
    · rw [htile, ih.codes, List.range_succ, List.map_append, List.append_assoc]
      rfl
    · rw [hunit, srqUnit_sums, ih.sums]
    · rw [hunit]
      by_cases hin : i = n
      · rw [hin] at hk ⊢
        rw [hk]
        exact srqUnit_same f _ k _
      · obtain ⟨hm, hv⟩ := srqUnit_other f (d.stateHalf f.tile (fld f.w 39 38) n) (srqKey ks n) (a.updSt f.x.e) k.1 (fun m => hlast n (by omega) (by omega) m)
        rw [hm, hv]
        exact ih.last i k (by omega) hk (fun j hij hj => hlast j hij (by omega))

/-- The block number that a lane's place stands for. -/
def UFire.blockNo (f : UFire) (d : Die) : Nat := match (f.x.blocks f.tile)[(d.tile f.tile).block]? with | some y => y.2 | none => 0

def UFire.runStep (f : UFire) (d : Die) : Nat := match (d.updSt f.x.e).run with | some r => r.step | none => 0

theorem srqOp_clean (fu : Fused) (f : UFire) (d : Die) (hecc : d.ecc = []) (hpoison : d.poison = []) : ∃ g : UpdSt → UpdSt,
    (∀ u, (g u).sums = u.sums) ∧ srqOp fu f d = (false, (List.range 16).foldl (srqStep f (d.beat f.tile) (f.y.blockKeys (f.blockNo d)) (f.runStep d)) (d.onUpd f.x.e g)) := by
  unfold srqOp
  dsimp only
  rw [Die.readStore_clean _ _ _ _ _ _ hecc hpoison, if_neg Bool.false_ne_true]
  exact ⟨fun u => { u with exps := KMap.insert u.exps (expKey f.tile f.y.r.layer (f.blockNo d)) ((d.ub f.tile (fld f.w 39 38) 0).t0, (d.ub f.tile (fld f.w 39 38) 0).t1) },
    fun _ => rfl, rfl⟩

theorem srqOp_returns (fu : Fused) (f : UFire) (d : Die) (hecc : d.ecc = []) (hpoison : d.poison = []) : (srqOp fu f d).1 = false
    ∧ d.returned f (d.beat f.tile) (f.y.blockKeys (f.blockNo d)) (f.runStep d) 16 (srqOp fu f d).2 := by
  obtain ⟨g, hg, h⟩ := srqOp_clean fu f d hecc hpoison
  rw [h]
  have hret := srqFold_returns f (d.beat f.tile) (f.y.blockKeys (f.blockNo d)) (f.runStep d) 16 (d.onUpd f.x.e g)
  refine ⟨rfl, hret.rows, hret.dir, hret.own, hret.codes, ?_, hret.last⟩
  rw [hret.sums, Die.updSt_onUpd_same]
  exact hg _

/-- The beat i of new codes that SWAP writes (R335). -/
def swapBeat (f : UFire) (z : TileSt) (i : Nat) : Nat :=
  ((((z.codes.filter (fun c => c.1 == f.y.r.layer)).map (fun c => c.2)).drop ((KMap.get 0 z.swapped f.y.r.layer * uNi f.w + i) * epb f.y.r.wfmt)).take (epb f.y.r.wfmt)).foldr
    (fun c a => c + a * 2 ^ fmtWidth f.y.r.wfmt) 0

theorem swapOp_puts (fu : Fused) (f : UFire) (d : Die) : swapOp fu f d = (false, (d.putBeats f.tile
    (uAddr f.w + KMap.get 0 (d.tile f.tile).swapped f.y.r.layer * uNi f.w + (1 - (d.updSt f.x.e).bank) * f.y.r.boff) (swapBeat f (d.tile f.tile))
    (min (uNi f.w) (f.y.beats - KMap.get 0 (d.tile f.tile).swapped f.y.r.layer * uNi f.w))).onTile f.tile
      (fun z => { z with swapped := KMap.upd 0 z.swapped f.y.r.layer (· + 1) })) := rfl

theorem Die.putBeats_stands (t first : Nat) (v : Nat → Nat) (n : Nat) (d : Die) : (d.putBeats t first v n).dir = d.dir ∧ (d.putBeats t first v n).upd = d.upd := by
  induction n with
  | zero => exact ⟨rfl, rfl⟩
  | succ n ih =>
    rw [Die.putBeats_succ]
    exact ih

theorem Die.beat_store {d f : Die} {t : Nat} (h : (f.tile t).store = (d.tile t).store) (b : Nat) : f.beat t b = d.beat t b := by
  unfold Die.beat
  rw [h]

theorem exec_uLaccAccum (tile op : Nat) (s : State) : exec (.uLaccAccum tile op) s = laneCmd (fun w => opc w == 40 && fld w 41 40 == 0) laccAccum tile op s := rfl

theorem exec_uLaccFlush (tile op : Nat) (s : State) : exec (.uLaccFlush tile op) s = laneCmd (fun w => opc w == 40 && fld w 41 40 == 1) laccFlush tile op s := rfl

theorem exec_uSrq (tile op : Nat) (s : State) : exec (.uSrq tile op) s = laneCmd (fun w => opc w == 38) srqOp tile op s := rfl

theorem exec_uSwap (tile op : Nat) (s : State) : exec (.uSwap tile op) s = laneCmd (fun w => opc w == 39) swapOp tile op s := rfl

/-- What a lane operation does, carried past what follows it: the command completes on a die whose rows, accumulators, codes, store and update store are the operation's. -/
theorem lane_completes {sel : Nat → Bool} {g : Fused → UFire → Die → Bool × Die} {c : Instr} {s : State} {tile op phase : Nat} {x : UpdCtx} {f : UFire} {P : State → Prop}
    (hexec : exec c s = laneCmd sel g tile op s) (htile : tile < 4096) (hcol : tile % 32 < 24) (hctx : s.die.updCtx (tileEng tile) = some x)
    (hhead : s.die.laneHead x tile = some (op, f, phase)) (hin : tile ∈ x.tiles) (hsel : sel f.w = true) (hclean : (g s.fused f s.die).1 = false)
    (hP : ∀ e, (g s.fused f s.die).2.laneMoved x.e e → P { s with die := e }) : s.completes c P := by
  have hrun := hexec.trans (laneCmd_runs htile hcol hctx hhead hin hsel hclean)
  obtain ⟨-, howner, -⟩ := Die.updCtx_spec hctx
  exact ⟨_, hrun, hP _ (Die.laneNext_moves s.fused howner tile phase _)⟩

/-- Settles O26: each operation's loop is an induction over its places, and what follows an operation keeps what it wrote. -/
theorem updateLaneStores : Obligations.UpdateLaneStores := by
  unfold Obligations.UpdateLaneStores
  intro s tile op x f phase htile hcol hctx hhead hin hecc hpoison
  obtain ⟨rfl, rfl, -, -⟩ := Die.laneHead_of hhead
  dsimp only
  refine ⟨fun hop hsub => ?_, fun hop hsub => ?_, fun hop => ?_, fun hop => ?_⟩
  · obtain ⟨hclean, hacc⟩ := laccAccum_accumulates s.fused f s.die hecc hpoison
    refine lane_completes (exec_uLaccAccum f.tile op s) htile hcol hctx hhead hin (by rw [hop, hsub]; rfl) hclean (fun e he => ?_)
    obtain ⟨htacc, -, htstore⟩ := he.tiles f.tile
    obtain ⟨husums, humasters, -⟩ := he.unit
    have hst : (laccAccum s.fused f s.die).2.updSt f.x.e = s.die.updSt f.x.e := by rw [Die.updSt, hacc.upd, Die.updSt]
    refine ⟨⟨rfl, he.rows.trans hacc.rows, he.dir.trans hacc.dir⟩, fun k hk => ?_, fun a ha => ?_, husums.trans (by rw [hst]), humasters.trans (by rw [hst]), htstore.trans (by rw [hacc.own])⟩
    · exact (congrArg (fun m => KMap.get 0 m (uAddr f.w + k)) htacc).trans (hacc.sums k hk)
    · exact (congrArg (fun m => KMap.get 0 m a) htacc).trans (hacc.rest a ha)
  · obtain ⟨hclean, hfl⟩ := laccFlush_flushes s.fused f s.die hecc hpoison
    refine lane_completes (exec_uLaccFlush f.tile op s) htile hcol hctx hhead hin (by rw [hop, hsub]; rfl) hclean (fun e he => ?_)
    obtain ⟨htacc, -, htstore⟩ := he.tiles f.tile
    obtain ⟨husums, humasters, -⟩ := he.unit
    refine ⟨⟨rfl, he.rows.trans hfl.rows, he.dir.trans hfl.dir⟩, fun k hk => ?_, fun a ha => ?_, fun key => ?_, humasters.trans (by rw [hfl.unit]), htstore.trans (by rw [hfl.own])⟩
    · exact (congrArg (fun m => KMap.get 0 m (uAddr f.w + k)) htacc).trans (hfl.cleared k hk)
    · exact (congrArg (fun m => KMap.get 0 m a) htacc).trans (hfl.rest a ha)
    · exact (congrArg (fun m => KMap.get 0 m key) husums).trans (hfl.sums key)
  · obtain ⟨hclean, hret⟩ := srqOp_returns s.fused f s.die hecc hpoison
    refine lane_completes (exec_uSrq f.tile op s) htile hcol hctx hhead hin (by rw [hop]; rfl) hclean (fun e he => ?_)
    obtain ⟨-, htcodes, htstore⟩ := he.tiles f.tile
    obtain ⟨husums, humasters, humoments⟩ := he.unit
    refine ⟨⟨rfl, he.rows.trans hret.rows, he.dir.trans hret.dir⟩, htcodes.trans hret.codes, fun i k hi hk hl => ?_, husums.trans hret.sums, htstore.trans (by rw [hret.own])⟩
    obtain ⟨hm, hv⟩ := hret.last i k hi hk hl
    exact ⟨(congrArg (fun m => KMap.get 0 m (f.y.r.layer * 2 ^ 20 + k.1)) humasters).trans hm,
      (congrArg (fun m => KMap.get (0, 0) m (f.y.r.layer * 2 ^ 20 + k.1)) humoments).trans hv⟩
  · have hput := swapOp_puts s.fused f s.die
    refine lane_completes (exec_uSwap f.tile op s) htile hcol hctx hhead hin (by rw [hop]; rfl) (by rw [hput]) (fun e he => ?_)
    rw [hput] at he
    obtain ⟨first, hfirst⟩ : ∃ a, uAddr f.w + KMap.get 0 (s.die.tile f.tile).swapped f.y.r.layer * uNi f.w + (1 - (s.die.updSt f.x.e).bank) * f.y.r.boff = a := ⟨_, rfl⟩
    obtain ⟨n, hn⟩ : ∃ n, min (uNi f.w) (f.y.beats - KMap.get 0 (s.die.tile f.tile).swapped f.y.r.layer * uNi f.w) = n := ⟨_, rfl⟩
    rw [hfirst, hn] at he ⊢
    obtain ⟨a, ha⟩ : ∃ a, s.die.putBeats f.tile first (swapBeat f (s.die.tile f.tile)) n = a := ⟨_, rfl⟩
    obtain ⟨-, -, hrows⟩ := Die.putBeats_keeps f.tile first (swapBeat f (s.die.tile f.tile)) n s.die
    obtain ⟨hdir, hupd⟩ := Die.putBeats_stands f.tile first (swapBeat f (s.die.tile f.tile)) n s.die
    have hin (i : Nat) (hi : i < n) := Die.beat_putBeats_in f.tile first (swapBeat f (s.die.tile f.tile)) n i s.die hi
    have hout (b : Nat) (hb : b < first ∨ first + n ≤ b) := Die.beat_putBeats_out f.tile first (swapBeat f (s.die.tile f.tile)) n b s.die hb
    rw [ha] at hrows hdir hupd he
    simp only [ha] at hin hout
    have hmoved : a.laneMoved f.x.e e := (a.laneMoved_onTile f.x.e f.tile _ (by intro _; exact ⟨rfl, rfl, rfl⟩)).trans he
    obtain ⟨-, -, hstore⟩ := hmoved.tiles f.tile
    obtain ⟨-, humasters, -⟩ := hmoved.unit
    have hst : a.updSt f.x.e = s.die.updSt f.x.e := by rw [Die.updSt, hupd, Die.updSt]
    exact ⟨⟨rfl, hmoved.rows.trans hrows, hmoved.dir.trans hdir⟩, fun i hi => (Die.beat_store hstore _).trans (hin i hi), fun b hb => (Die.beat_store hstore b).trans (hout b hb),
      humasters.trans (by rw [hst])⟩

end Sys2Proof.Machine
end

section
/-! SUPPORT. What reports, errors of stored words and loads leave of the Sheepdog's tallies (R527 to R533). -/

namespace Sys2Proof.Machine

/-- The tallies of the Sheepdog's pages stand, but the one of observations. -/
structure Die.sheepKept (d f : Die) : Prop where
  tals : ∀ k, 0x180000 ≤ k → k < 0x188000 → k % 0x1000 ≠ 0xC28 → KMap.get 0 f.tallies k = KMap.get 0 d.tallies k

theorem Die.sheepKept_refl (d : Die) : d.sheepKept d := ⟨fun _ _ _ _ => rfl⟩

theorem Die.sheepKept.trans {a b c : Die} (h : a.sheepKept b) (k : b.sheepKept c) : a.sheepKept c := ⟨fun n hlo hhi hne => (k.tals n hlo hhi hne).trans (h.tals n hlo hhi hne)⟩

theorem Die.sheepKept_same {d f : Die} (h : f.tallies = d.tallies) : d.sheepKept f := ⟨fun _ _ _ _ => by rw [h]⟩

theorem Die.sheepKept_ite {c : Prop} [Decidable c] {d e f : Die} (h : d.sheepKept e) (k : d.sheepKept f) : d.sheepKept (if c then e else f) := by split <;> assumption

theorem Die.sheepKept_foldl {α : Type} (f : Die → α → Die) (hf : ∀ d x, Die.sheepKept d (f d x)) (l : List α) (d : Die) : d.sheepKept (l.foldl f d) := by
  induction l generalizing d with
  | nil => exact d.sheepKept_refl
  | cons x xs ih => exact (hf d x).trans (ih _)

theorem sheepTal_quiet {k : Nat} (hlo : 0x180000 ≤ k) (hhi : k < 0x188000) : loftTally k = false := by
  simp only [loftTally, Bool.or_eq_false_iff, Bool.and_eq_false_iff, decide_eq_false_iff_not, beq_eq_false_iff_ne]
  omega

theorem Die.sheepKept_traced {d f : Die} (h : d.traced f) : d.sheepKept f := ⟨fun k hlo hhi _ => h.2 k (sheepTal_quiet hlo hhi)⟩

theorem Die.sheepKept_countBy (t : Tal) (i n : Nat) (d : Die) (h : t.key i < 0x180000 ∨ 0x188000 ≤ t.key i ∨ t.key i % 0x1000 = 0xC28) : d.sheepKept (d.countBy t i n) :=
  ⟨fun k hlo hhi hne => Die.tally_countBy_other t i n k d (sheepTal_quiet hlo hhi) (by rintro rfl; omega)⟩

theorem Die.sheepKept_count (t : Tal) (i : Nat) (d : Die) (h : t.key i < 0x180000 ∨ 0x188000 ≤ t.key i ∨ t.key i % 0x1000 = 0xC28) : d.sheepKept (d.count t i) :=
  d.sheepKept_countBy t i 1 h

theorem Die.sheepKept_faultRecord (fu : Fused) (kind : Nat) (keys : List (Nat × Cbor)) (d : Die) : d.sheepKept (d.faultRecord fu kind keys) := by
  unfold Die.faultRecord
  refine Die.sheepKept.trans ?_ (Die.sheepKept_traced (Die.traced_trace _ (fun p h => by cases h) _))
  have h (x : List Byte) : d.sheepKept (if kind = 1 then d else { d with store := (x :: d.store).take 16 }) := Die.sheepKept_ite d.sheepKept_refl (Die.sheepKept_same rfl)
  refine Die.sheepKept.trans (h _) (Die.sheepKept_ite (Die.sheepKept_same rfl) (Die.sheepKept_count T.CHK_FAULT_DROP 0 _ (.inl (by decide))))

theorem Die.sheepKept_observe (fu : Fused) (e : Nat) (d : Die) : d.sheepKept (d.observe fu e) := by
  unfold Die.observe
  refine Die.sheepKept_ite d.sheepKept_refl (Die.sheepKept.trans ?_ (Die.sheepKept_faultRecord fu 12 [] _))
  refine Die.sheepKept.trans ?_ (Die.sheepKept_count T.SHD_OBSERVATIONS e _ (.inr (.inr ?_)))
  · exact Die.sheepKept_same rfl
  · simp only [Tal.key, T.SHD_OBSERVATIONS]
    omega

theorem Die.sheepKept_noteUe (fu : Fused) (e : Nat) (d : Die) : d.sheepKept (d.noteUe fu e) := by
  unfold Die.noteUe
  have h : d.sheepKept (d.onShd e (fun x => { x with ues := d.ns :: (d.sheep e).ues.filter (fun t => decide (d.ns - t ≤ 10 ^ 9)) })) := Die.sheepKept_same rfl
  exact Die.sheepKept_ite h (h.trans (Die.sheepKept_observe fu e _))

theorem Die.sheepKept_foundCe (fu : Fused) (kind loc : Nat) (tile : Option Nat) (hk : kind < 32) (d : Die) : d.sheepKept (d.foundCe fu kind loc tile) := by
  unfold Die.foundCe
  have hcount : d.sheepKept (d.count (T.CHK_CE kind) 0) := Die.sheepKept_count (T.CHK_CE kind) 0 d (.inl (by simp only [Tal.key, T.CHK_CE]; omega))
  extract_lets src a k last b sy
  have ha : d.sheepKept a := hcount.trans (Die.sheepKept_same rfl)
  have hb : a.sheepKept sy.2 := Die.sheepKept_same rfl
  exact Die.sheepKept_ite ha (ha.trans (hb.trans (Die.sheepKept_faultRecord fu 1 _ _)))

theorem Die.sheepKept_foundUe (fu : Fused) (kind loc rk : Nat) (tile pas : Option Nat) (hk : kind < 32) (d : Die) : d.sheepKept (d.foundUe fu kind loc rk tile pas) := by
  unfold Die.foundUe
  have hcount : d.sheepKept (d.count (T.CHK_UE kind) 0) := Die.sheepKept_count (T.CHK_UE kind) 0 d (.inl (by simp only [Tal.key, T.CHK_UE]; omega))
  extract_lets k a b sy c g
  have hb : d.sheepKept sy.2 := hcount.trans (Die.sheepKept_same rfl)
  have hg : d.sheepKept g := hb.trans ((Die.sheepKept_faultRecord fu rk _ _).trans (Die.sheepKept_traced (Die.traced_incident 4 1 0 _ _)))
  split
  · exact Die.sheepKept_ite (hg.trans (Die.sheepKept_noteUe fu _ _)) hg
  · exact hg

theorem Die.sheepKept_eccRead (fu : Fused) (kind loc : Nat) (tile pas : Option Nat) (hk : kind < 32) (d : Die) : d.sheepKept (d.eccRead fu kind loc tile pas).2 := by
  unfold Die.eccRead
  dsimp only
  split
  · exact Die.sheepKept_count T.CHK_POISON_READ 0 d (.inl (by decide))
  · split
    · exact d.sheepKept_refl
    · exact d.sheepKept_foundCe fu kind loc tile hk
    · exact d.sheepKept_foundUe fu kind loc 2 tile pas hk

theorem Die.sheepKept_eccReadAll (fu : Fused) (kind : Nat) (tile pas : Option Nat) (hk : kind < 32) (l : List Nat) (d : Die) : d.sheepKept (d.eccReadAll fu kind tile pas l).2 := by
  induction l generalizing d with
  | nil => exact d.sheepKept_refl
  | cons a l ih => exact (d.sheepKept_eccRead fu kind a tile pas hk).trans (ih _)

theorem Die.sheepKept_putBeat (t b v : Nat) (bad : Bool) (d : Die) : d.sheepKept (d.putBeat t b v bad) := Die.sheepKept_ite (Die.sheepKept_same rfl) (Die.sheepKept_same rfl)

theorem Die.sheepKept_loadStore (im : Image) (scope tile : Nat) (z : TileImg) (d : Die) : d.sheepKept (d.loadStore im scope tile z) := by
  unfold Die.loadStore
  extract_lets keep other a b offs
  have hb : d.sheepKept b := Die.sheepKept_same rfl
  refine Die.sheepKept_ite hb (hb.trans (Die.sheepKept_foldl _ (fun c y => ?_) _ b))
  dsimp only
  split
  · exact Die.sheepKept_same rfl
  · exact Die.sheepKept_same rfl

theorem Die.sheepKept_startCtx (fu : Fused) (tile c : Nat) (cc : CtxCfg) (d : Die) : d.sheepKept (d.startCtx fu tile c cc) := by
  unfold Die.startCtx
  refine Die.sheepKept.trans ?_ (Die.sheepKept_foldl _ (fun e i => ?_) _ _)
  · exact Die.sheepKept_same rfl
  dsimp only
  exact (e.sheepKept_eccReadAll fu 1 (some tile) none (by decide) _).trans (Die.sheepKept_same rfl)

theorem Die.sheepKept_loadTile (fu : Fused) (im : Image) (scope tile : Nat) (z : TileImg) (d : Die) : d.sheepKept (d.loadTile fu im scope tile z) := by
  unfold Die.loadTile
  extract_lets a b
  have hb : d.sheepKept b := (d.sheepKept_loadStore im scope tile z).trans (Die.sheepKept_same rfl)
  exact hb.trans (Die.sheepKept_foldl _ (fun e c => e.sheepKept_startCtx fu tile c _) _ b)

theorem Die.sheepKept_writeTensor (e p par : Nat) (im : Image) (t : Tensor) (es : List Int) (z : Int) (d : Die) : d.sheepKept (d.writeTensor e p par im t es z) := by
  unfold Die.writeTensor
  have hend (c : Die) (g : EngPas → EngPas) : c.sheepKept (c.onEng e p g) := Die.sheepKept_same rfl
  refine Die.sheepKept.trans ?_ (hend _ _)
  have hblocks (tile saddr : Nat) (c : Die) : c.sheepKept (c.writeBlock tile saddr par es) := Die.sheepKept_foldl _ (fun g _ => g.sheepKept_putBeat _ _ _ _) _ c
  have hlanes (tile qaddr l : Nat) (sh : Int) (c : Die) : c.sheepKept (c.writeLane tile qaddr l par sh z) := by
    unfold Die.writeLane
    exact c.sheepKept_putBeat _ _ _ _
  refine ((Die.sheepKept_foldl _ (fun c _ => hblocks _ _ c) _ d).trans (Die.sheepKept_foldl _ (fun c _ => hlanes _ _ _ _ c) _ _)).trans (Die.sheepKept_foldl _ (fun c b => ?_) _ _)
  refine Die.sheepKept_ite ?_ c.sheepKept_refl
  have hcount (t : Tal) (h : 0x380000 ≤ t.base) (n : Nat) (g : Die) : g.sheepKept (g.countBy t p n) := g.sheepKept_countBy t p n (.inr (.inl (by rw [Tal.key]; omega)))
  exact ((hcount T.FAB_SCALE_SAT (by decide) _ _).trans ((hcount T.FAB_FLUSH_ZERO (by decide) _ _).trans (hcount T.FAB_CODE_SPECIAL (by decide) _ _))).trans
    (Die.sheepKept_putBeat _ _ _ _ _)

theorem Die.sheepKept_writeStatics (e p par : Nat) (im : Image) (d : Die) : d.sheepKept (d.writeStatics e p par im) :=
  Die.sheepKept_foldl _ (fun c t => c.sheepKept_writeTensor e p par im t _ _) _ d

theorem Die.sheepKept_loadQuarter (fu : Fused) (e q p scope : Nat) (im : Image) (ei : EngineImg) (d : Die) : d.sheepKept (d.loadQuarter fu e q p scope im ei) := by
  unfold Die.loadQuarter
  extract_lets tiles a b c
  have ha : d.sheepKept a := Die.sheepKept_foldl _ (fun f t => by
    split
    · exact f.sheepKept_loadTile fu im scope _ _
    · exact f.sheepKept_loadTile fu im scope _ _) _ d
  have hb : d.sheepKept b := ha.trans (Die.sheepKept_same rfl)
  have hall : d.sheepKept c := hb.trans ((b.sheepKept_writeStatics e p 0 im).trans (Die.sheepKept_writeStatics e p 1 im _))
  exact Die.sheepKept_ite (hall.trans (Die.sheepKept_same rfl)) hall

theorem Die.sheepKept_updReset (e p : Nat) (im : Image) (adm : Bool) (he : e < 8) (d : Die) : d.sheepKept (d.updReset e p im adm) := by
  unfold Die.updReset
  split
  · exact d.sheepKept_refl
  · refine Die.sheepKept_ite d.sheepKept_refl ?_
    extract_lets a b wd
    have ha : d.sheepKept a := Die.sheepKept_ite d.sheepKept_refl (d.sheepKept_count T.UPD_UPD_RESET e (.inl (by simp only [Tal.key, T.UPD_UPD_RESET]; omega)))
    exact ha.trans (Die.sheepKept_same rfl)

theorem Die.sheepKept_calEnd (p : Nat) (d : Die) : d.sheepKept (d.calEnd p) := Die.sheepKept_ite d.sheepKept_refl (Die.sheepKept_same rfl)

/-- What stands of a tally of the Sheepdog of engine e. -/
theorem Die.sheepKept.tally {d f : Die} (h : d.sheepKept f) (t : Tal) {e : Nat} (he : e < 8) (ht : t.base = 0x180000 ∧ t.off < 0x1000 ∧ t.off ≠ 0xC28) : f.tally t e = d.tally t e :=
  h.tals _ (by rw [Tal.key]; omega) (by rw [Tal.key]; omega) (by rw [Tal.key]; omega)

end Sys2Proof.Machine
end

section
/-! SUPPORT. The end of a muster and the reload of its engine (R533). -/

namespace Sys2Proof.Machine

/-- The rows, the directory, the grants and the Sheepdog's tallies but the one of observations stand. -/
structure Die.mustered (d f : Die) : Prop where
  rows : f.rows = d.rows
  dir : f.dir = d.dir
  grants : f.grants = d.grants
  tals : d.sheepKept f

theorem Die.mustered_refl (d : Die) : d.mustered d := ⟨rfl, rfl, rfl, d.sheepKept_refl⟩

theorem Die.mustered.trans {a b c : Die} (h : a.mustered b) (k : b.mustered c) : a.mustered c :=
  ⟨k.rows.trans h.rows, k.dir.trans h.dir, k.grants.trans h.grants, h.tals.trans k.tals⟩

theorem Die.mustered_ite {c : Prop} [Decidable c] {d f g : Die} (h : d.mustered f) (k : d.mustered g) : d.mustered (if c then f else g) := by split <;> assumption

theorem Die.mustered_reloaded {d f : Die} (h : d.reloaded f) (k : d.sheepKept f) : d.mustered f := by
  obtain ⟨hrows, hdir, -, hgrants⟩ := h.larder
  exact ⟨hrows, hdir, hgrants, k⟩

theorem Die.mustered_report {d f : Die} (h : d.report f) (k : d.sheepKept f) : d.mustered f := ⟨by rw [h.1], by rw [h.1], by rw [h.1], k⟩

/-- The quarter, pasture and engine's part of the image that a muster's reload finds (R533). -/
def Die.musterHeld (d : Die) (e q : Nat) : Option (Nat × Image × EngineImg) :=
  if KMap.get (0, 0, 0) d.loads (e * 4 + q) != (0, 0, 0) || d.qstate e q == 0 then none
  else (d.quarterOwner e q).bind (fun p => (d.image p).bind (fun im => (engOf im e).map (fun ei => (p, im, ei))))

/-- One quarter of a muster's reload. -/
def musterQuarter (fu : Fused) (e lost was : Nat) (held : Nat → Option (Nat × Image × EngineImg)) (d : Die) (q : Nat) : Die :=
  match held q with
  | some (p, im, ei) =>
    let d := d.calEnd p
    if bit lost q then d.leaveEmpty e q
    else
      let d := (d.loadQuarter fu e q p 0 im ei).setQ e q 3
      if bit was q then d.openEntry e q else d
  | none => d

/-- The pastures, with their images, whose quarters a muster reloads. -/
def musterPastures (lost : Nat) (held : Nat → Option (Nat × Image × EngineImg)) : List (Nat × Image) :=
  (((List.range 4).filter (fun q => !(bit lost q))).filterMap held).map (fun y => (y.1, y.2.1))

def musterUpdates (e : Nat) (ps : List (Nat × Image)) (d : Die) : Die :=
  if ps.isEmpty then ps.eraseDups.foldl (fun d y => d.updReset e y.1 y.2 false) d else (ps.eraseDups.foldl (fun d y => d.updReset e y.1 y.2 false) d).count T.ENG_LOADS e

theorem Die.musterReload_eq (fu : Fused) (e lost : Nat) (d : Die) : d.musterReload fu e lost =
    musterUpdates e (musterPastures lost (d.musterHeld e)) ((List.range 4).foldl (musterQuarter fu e lost (d.sheep e).wasRunning (d.musterHeld e)) d) := rfl

theorem Die.qstate_leaveEmpty (e : Nat) {q r : Nat} (hq : q < 4) (hr : r < 4) (d : Die) : (d.leaveEmpty e q).qstate e r = if r = q then 0 else d.qstate e r := by
  obtain ⟨f, hf⟩ : ∃ f : Die, { d with
    loads := KMap.set (0, 0, 0) d.loads (e * 4 + q) (0, 0, 0), closed := KMap.set false d.closed (e * 4 + q) false
    tiles := KMap.keep d.tiles (fun t => !(t / 128 == e * 4 + q)) } = f := ⟨_, rfl⟩
  have hempty : d.leaveEmpty e q = (f.setQ e q 0).put R.ENG_STATUS_LOAD_RESULT e 3 := by rw [← hf]; rfl
  have hsame : f.qstate e r = d.qstate e r := by rw [← hf]; rfl
  rw [hempty, Die.qstate, Die.get_put_apart _ _ _ _ _ (by decide), ← hsame]
  exact f.qstate_setQ e q r 0 hq hr (by decide)

theorem Die.mustered_leaveEmpty (e q : Nat) (d : Die) : d.mustered (d.leaveEmpty e q) := ⟨rfl, rfl, rfl, Die.sheepKept_same rfl⟩

/-- One quarter's reload leaves the other quarters' states, and a quarter that it loses empty. -/
theorem musterQuarter_moves (fu : Fused) (e lost was : Nat) (held : Nat → Option (Nat × Image × EngineImg)) (d : Die) (q : Nat) (he : e < 8) (hq : q < 4) :
    d.mustered (musterQuarter fu e lost was held d q)
    ∧ (∀ r, r < 4 → r ≠ q → (musterQuarter fu e lost was held d q).qstate e r = d.qstate e r)
    ∧ (bit lost q = true → held q ≠ none → (musterQuarter fu e lost was held d q).qstate e q = 0) := by
  unfold musterQuarter
  split
  · next p im ei hheld =>
    dsimp only
    have hcal := d.reloaded_calEnd p
    have hcalm := Die.mustered_reloaded hcal (d.sheepKept_calEnd p)
    obtain ⟨a, ha⟩ : ∃ a, d.calEnd p = a := ⟨_, rfl⟩
    rw [ha] at hcal hcalm ⊢
    cases hlost : bit lost q with
    | true =>
      rw [if_pos rfl]
      exact ⟨hcalm.trans (a.mustered_leaveEmpty e q), fun r hr hne => ((a.qstate_leaveEmpty e hq hr).trans (if_neg hne)).trans (hcal.qstate he r),
        fun _ _ => (a.qstate_leaveEmpty e hq hq).trans (if_pos rfl)⟩
    | false =>
      rw [if_neg Bool.false_ne_true]
      have hload := a.reloaded_loadQuarter fu e q p 0 im ei he hq
      have hloadm := Die.mustered_reloaded hload (a.sheepKept_loadQuarter fu e q p 0 im ei)
      obtain ⟨b, hb⟩ : ∃ b, a.loadQuarter fu e q p 0 im ei = b := ⟨_, rfl⟩
      rw [hb] at hload hloadm ⊢
      have hset (g : Die) (v : Nat) (hv : v < 4) : ∀ r, r < 4 → r ≠ q → (g.setQ e q v).qstate e r = g.qstate e r := fun r hr hne =>
        (g.qstate_setQ e q r v hq hr hv).trans (if_neg hne)
      have hopen (g : Die) (r : Nat) : (g.openEntry e q).qstate e r = (g.setQ e q 2).qstate e r := rfl
      have hmid : d.mustered (b.setQ e q 3) := (hcalm.trans hloadm).trans ⟨rfl, rfl, rfl, Die.sheepKept_same rfl⟩
      have hstate (r : Nat) (hr : r < 4) (hne : r ≠ q) : (b.setQ e q 3).qstate e r = d.qstate e r :=
        (hset b 3 (by decide) r hr hne).trans ((hload.qstate he r).trans (hcal.qstate he r))
      refine ⟨Die.mustered_ite (hmid.trans ⟨rfl, rfl, rfl, Die.sheepKept_same rfl⟩) hmid, fun r hr hne => ?_, fun h => by cases h⟩
      split
      · exact ((hopen _ r).trans (hset _ 2 (by decide) r hr hne)).trans (hstate r hr hne)
      · exact hstate r hr hne
  · next hheld => exact ⟨d.mustered_refl, fun _ _ _ => rfl, fun _ h => absurd hheld h⟩

/-- A quarter that is empty and not of the list stays so; one of the list that is lost ends empty. -/
theorem musterFold_moves (fu : Fused) (e lost was : Nat) (held : Nat → Option (Nat × Image × EngineImg)) (he : e < 8) (l : List Nat) (hl : ∀ q ∈ l, q < 4) (d : Die) :
    d.mustered (l.foldl (musterQuarter fu e lost was held) d)
    ∧ ∀ r, r < 4 → bit lost r = true → held r ≠ none → (r ∈ l ∨ d.qstate e r = 0) → (l.foldl (musterQuarter fu e lost was held) d).qstate e r = 0 := by
  induction l generalizing d with
  | nil => exact ⟨d.mustered_refl, fun r _ _ _ h => h.resolve_left (fun h => by cases h)⟩
  | cons q l ih =>
    obtain ⟨hm, hother, hown⟩ := musterQuarter_moves fu e lost was held d q he (hl q List.mem_cons_self)
    obtain ⟨hrest, hz⟩ := ih (fun r hr => hl r (List.mem_cons_of_mem _ hr)) (musterQuarter fu e lost was held d q)
    refine ⟨hm.trans hrest, fun r hr hlost hheld h => ?_⟩
    refine hz r hr hlost hheld ?_
    by_cases hrq : r = q
    · rw [hrq] at hlost hheld ⊢
      exact .inr (hown hlost hheld)
    · rcases h with h | h
      · exact .inl ((List.mem_cons.1 h).resolve_left hrq)
      · exact .inr ((hother r hr hrq).trans h)

theorem musterUpdates_moves (e : Nat) (ps : List (Nat × Image)) (d : Die) (he : e < 8) : d.mustered (musterUpdates e ps d) ∧ ∀ r, (musterUpdates e ps d).qstate e r = d.qstate e r := by
  have hreset : d.reloaded (ps.eraseDups.foldl (fun d y => d.updReset e y.1 y.2 false) d) := Die.reloaded_foldl _ _ (fun g (y : Nat × Image) _ => g.reloaded_updReset e y.1 y.2 false he) d
  have hsheep : d.sheepKept (ps.eraseDups.foldl (fun d y => d.updReset e y.1 y.2 false) d) := Die.sheepKept_foldl _ (fun g (y : Nat × Image) => g.sheepKept_updReset e y.1 y.2 false he) _ d
  unfold musterUpdates
  obtain ⟨a, ha⟩ : ∃ a, ps.eraseDups.foldl (fun d y => d.updReset e y.1 y.2 false) d = a := ⟨_, rfl⟩
  rw [ha] at hreset hsheep ⊢
  have hm := Die.mustered_reloaded hreset hsheep
  have hrep := a.report_count T.ENG_LOADS e
  have hcount : a.sheepKept (a.count T.ENG_LOADS e) := a.sheepKept_count T.ENG_LOADS e (.inl (by simp only [Tal.key, T.ENG_LOADS]; omega))
  refine ⟨Die.mustered_ite hm (hm.trans (Die.mustered_report hrep hcount)), fun r => ?_⟩
  split
  · exact hreset.qstate he r
  · refine Eq.trans ?_ (hreset.qstate he r)
    rw [Die.qstate, Die.qstate, hrep.get]
    exact reportWord_above (by simp only [Fld.key, R.ENG_STATUS_QSTATE]; omega) (by simp only [Fld.key, R.ENG_STATUS_QSTATE]; omega)

theorem Die.musterReload_moves (fu : Fused) (e lost : Nat) (d : Die) (he : e < 8) : d.mustered (d.musterReload fu e lost)
    ∧ ∀ r, r < 4 → bit lost r = true → d.musterHeld e r ≠ none → (d.musterReload fu e lost).qstate e r = 0 := by
  rw [Die.musterReload_eq]
  obtain ⟨hm, hz⟩ := musterFold_moves fu e lost (d.sheep e).wasRunning (d.musterHeld e) he (List.range 4) (fun q hq => List.mem_range.1 hq) d
  obtain ⟨hu, hq⟩ := musterUpdates_moves e (musterPastures lost (d.musterHeld e)) ((List.range 4).foldl (musterQuarter fu e lost (d.sheep e).wasRunning (d.musterHeld e)) d) he
  exact ⟨hm.trans hu, fun r hr hlost hheld => (hq r).trans (hz r hr hlost hheld (.inl (List.mem_range.2 hr)))⟩

/-- A field of the Sheepdog's status word. -/
theorem sheepStatus_quiet (g : Fld) {e : Nat} (he : e < 8) (hg : g.base = 0x180000 ∧ g.off = 0x800 ∧ g.lo < 32) : reportWord (g.key e / 32) = false := by
  have hword : g.key e / 32 = 0x180800 + e * 0x1000 := by rw [Fld.key]; omega
  exact reportWord_above (by omega) (by omega)

theorem sheepTal_page (t : Tal) {e : Nat} (he : e < 8) (ht : t.base = 0x180000 ∧ t.off < 0x1000) : loftTally (t.key e) = false :=
  sheepTal_quiet (by rw [Tal.key]; omega) (by rw [Tal.key]; omega)

/-- `f` differs from `d` by notes of the Sheepdog: the units it watches and its own state stand. -/
structure Die.watched (d f : Die) : Prop where
  loads : d.reloaded f
  tals : d.sheepKept f
  stores : f.shd = d.shd ∧ f.tiles = d.tiles

theorem Die.watched.trans {a b c : Die} (h : a.watched b) (k : b.watched c) : a.watched c :=
  ⟨h.loads.trans k.loads, h.tals.trans k.tals, k.stores.1.trans h.stores.1, k.stores.2.trans h.stores.2⟩

theorem Die.watched_put (f : Fld) (e v : Nat) (d : Die) (he : e < 8) (hf : f.base = 0x180000 ∧ f.off < 0x1000 ∧ f.lo < 32) : d.watched (d.put f e v) :=
  ⟨d.reloaded_put f e v (.inl (by rw [Fld.key]; omega)), Die.sheepKept_same rfl, rfl, rfl⟩

theorem Die.watched_faultRecord (fu : Fused) (kind : Nat) (keys : List (Nat × Cbor)) (d : Die) : d.watched (d.faultRecord fu kind keys) := by
  have hrep := d.report_faultRecord fu kind keys
  exact ⟨Die.reloaded_erred (Die.erred_faultRecord fu kind keys d), d.sheepKept_faultRecord fu kind keys, by rw [hrep.1], by rw [hrep.1]⟩

theorem Die.watched_traced {d f : Die} (h : d.traced f) : d.watched f := ⟨Die.reloaded_erred (Die.erred_traced h), Die.sheepKept_traced h, by rw [h.1.1], by rw [h.1.1]⟩

theorem Die.watched_observe (fu : Fused) {e : Nat} (he : e < 8) (d : Die) : d.watched (d.observe fu e) := by
  refine ⟨Die.reloaded_erred (Die.erred_observe fu e he d), d.sheepKept_observe fu e, ?_⟩
  unfold Die.observe
  split
  · exact ⟨rfl, rfl⟩
  · obtain ⟨a, ha⟩ : ∃ a, (d.flag R.SHD_STATUS_OBSERVED e true).flag R.SHD_CONTROL_OBSERVE e true = a := ⟨_, rfl⟩
    have hsame : a.shd = d.shd ∧ a.tiles = d.tiles := by rw [← ha]; exact ⟨rfl, rfl⟩
    have hrep := (a.report_count T.SHD_OBSERVATIONS e).trans (Die.report_faultRecord fu 12 [] _)
    dsimp only
    rw [ha, hrep.1]
    exact hsame

/-- Observation leaves the other fields of the status word. -/
theorem Die.observe_status (fu : Fused) (g : Fld) {e : Nat} (he : e < 8) (hg : g.base = 0x180000 ∧ g.off = 0x800 ∧ g.lo < 32 ∧ g.lo ≠ 0) (d : Die) :
    (d.observe fu e).get g e = d.get g e := by
  unfold Die.observe
  split
  · rfl
  · have hrep := (((d.flag R.SHD_STATUS_OBSERVED e true).flag R.SHD_CONTROL_OBSERVE e true).report_count T.SHD_OBSERVATIONS e).trans (Die.report_faultRecord fu 12 [] _)
    refine (hrep.get g e (sheepStatus_quiet g he ⟨hg.1, hg.2.1, hg.2.2.1⟩)).trans ?_
    unfold Die.flag
    rw [Die.get_put_apart _ _ _ _ _ (by simp only [R.SHD_CONTROL_OBSERVE]; omega), Die.get_put_apart _ _ _ _ _ (by simp only [R.SHD_STATUS_OBSERVED]; omega)]

/-- What a note of a failure leaves (R527): FAILED, and of the status word MUSTER. -/
theorem Die.noteFailure_notes {tile e : Nat} (ht : tile / 512 = e) (he : e < 8) (d : Die) :
    d.watched (d.noteFailure tile) ∧ (d.noteFailure tile).on R.SHD_STATUS_FAILED e = true ∧ (d.noteFailure tile).get R.SHD_STATUS_MUSTER e = d.get R.SHD_STATUS_MUSTER e := by
  unfold Die.noteFailure
  dsimp only
  rw [ht]
  obtain ⟨a, ha⟩ : ∃ a, (if d.on R.SHD_STATUS_FAILED e = true then d else d.put R.SHD_STATUS_FAIL_TILE e tile) = a := ⟨_, rfl⟩
  have hkept : d.watched a ∧ a.get R.SHD_STATUS_MUSTER e = d.get R.SHD_STATUS_MUSTER e := by
    rw [← ha]
    split
    · exact ⟨⟨d.reloaded_refl, d.sheepKept_refl, rfl, rfl⟩, rfl⟩
    · exact ⟨d.watched_put R.SHD_STATUS_FAIL_TILE e tile he (by decide), Die.get_put_apart _ _ _ _ _ (by decide)⟩
  rw [ha]
  exact ⟨hkept.1.trans (a.watched_put R.SHD_STATUS_FAILED e 1 he (by decide)), Die.on_flag_same _ e true a rfl, (Die.get_put_apart _ _ _ _ _ (by decide)).trans hkept.2⟩

/-- The end of a muster that finds a failure (R533). -/
theorem Die.musterFails_notes (fu : Fused) (keys : List (Nat × Cbor)) {tile e : Nat} (ht : tile / 512 = e) (he : e < 8) (d f : Die)
    (hf : ((((d.put R.SHD_STATUS_MUSTER e 3).noteFailure tile).alarm 5).faultRecord fu 8 keys).observe fu e = f) :
    d.watched f ∧ f.get R.SHD_STATUS_MUSTER e = 3 ∧ f.on R.SHD_STATUS_FAILED e = true ∧ f.on R.SHD_STATUS_OBSERVED e = true := by
  obtain ⟨a, ha⟩ : ∃ a, d.put R.SHD_STATUS_MUSTER e 3 = a := ⟨_, rfl⟩
  have hput : d.watched a := by rw [← ha]; exact d.watched_put R.SHD_STATUS_MUSTER e 3 he (by decide)
  have hmuster : a.get R.SHD_STATUS_MUSTER e = 3 := by rw [← ha]; exact Die.get_put_same _ _ _ _
  obtain ⟨hnote, hfailed, hkeeps⟩ := a.noteFailure_notes ht he
  obtain ⟨b, hb⟩ : ∃ b, a.noteFailure tile = b := ⟨_, rfl⟩
  rw [hb] at hnote hfailed hkeeps
  have hwatch := (Die.watched_traced (b.traced_alarm 5 (by decide))).trans (Die.watched_faultRecord fu 8 keys _)
  have hrep := (b.report_alarm 5 (by decide)).trans (Die.report_faultRecord fu 8 keys _)
  obtain ⟨c, hc⟩ : ∃ c, (b.alarm 5).faultRecord fu 8 keys = c := ⟨_, rfl⟩
  rw [hc] at hwatch hrep
  rw [ha, hb, hc] at hf
  rw [← hf]
  refine ⟨((hput.trans hnote).trans hwatch).trans (c.watched_observe fu he), ?_, ?_, c.observe_observes fu he⟩
  · rw [c.observe_status fu R.SHD_STATUS_MUSTER he (by decide), hrep.get _ _ (sheepStatus_quiet _ he (by decide)), hkeeps, hmuster]
  · rw [Die.on, c.observe_status fu R.SHD_STATUS_FAILED he (by decide), hrep.get _ _ (sheepStatus_quiet _ he (by decide))]
    exact hfailed

/-- What is left of a muster once its engine has been loaded again. -/
def musterOver (e : Nat) (d : Die) : Die := ((d.onShd e (fun y => { y with muster := false, wasRunning := 0 })).count T.SHD_MUSTERS e).setBusy e

theorem musterOver_leaves {e : Nat} (he : e < 8) (d : Die) : (musterOver e d).rows = d.rows ∧ (musterOver e d).dir = d.dir ∧ (musterOver e d).grants = d.grants
    ∧ ((musterOver e d).sheep e).muster = false ∧ (musterOver e d).tally T.SHD_MUSTERS e = tallyAdd (d.tally T.SHD_MUSTERS e) 1 ∧ ∀ q, (musterOver e d).qstate e q = d.qstate e q := by
  obtain ⟨a, ha⟩ : ∃ a, d.onShd e (fun y => { y with muster := false, wasRunning := 0 }) = a := ⟨_, rfl⟩
  have hsheep : (a.sheep e).muster = false := by
    rw [← ha, Die.sheep, Die.onShd, KMap.get_upd_same]
  have hsame : a.rows = d.rows ∧ a.dir = d.dir ∧ a.grants = d.grants ∧ a.tallies = d.tallies ∧ a.regs = d.regs := by rw [← ha]; exact ⟨rfl, rfl, rfl, rfl, rfl⟩
  obtain ⟨hrows, hdir, hgrants, htals, hregs⟩ := hsame
  have hrep := a.report_count T.SHD_MUSTERS e
  have htally := Die.tally_count_same T.SHD_MUSTERS e a (sheepTal_page _ he (by decide))
  have hover : musterOver e d = (a.count T.SHD_MUSTERS e).setBusy e := by rw [← ha]; rfl
  obtain ⟨b, hb⟩ : ∃ b, a.count T.SHD_MUSTERS e = b := ⟨_, rfl⟩
  rw [hb] at hrep htally hover
  have hq (q : Nat) : (b.setBusy e).qstate e q = a.qstate e q := by
    rw [Die.qstate, Die.setBusy, Die.flag, Die.get_put_apart _ _ _ _ _ (by decide), Die.qstate,
      hrep.get _ _ (reportWord_above (by simp only [Fld.key, R.ENG_STATUS_QSTATE]; omega) (by simp only [Fld.key, R.ENG_STATUS_QSTATE]; omega))]
  rw [hover]
  refine ⟨?_, ?_, ?_, ?_, ?_, fun q => (hq q).trans ?_⟩
  · exact (congrArg Die.rows hrep.1).trans hrows
  · exact (congrArg Die.dir hrep.1).trans hdir
  · exact (congrArg Die.grants hrep.1).trans hgrants
  · have hshd : (b.setBusy e).shd = a.shd := (congrArg Die.shd hrep.1).trans rfl
    rw [Die.sheep, hshd, ← Die.sheep, hsheep]
  · refine Eq.trans htally ?_
    rw [Die.tally, htals, Die.tally]
  · rw [Die.qstate, Die.get_congr _ _ hregs, Die.qstate]

/-- MUSTER_DONE (R533). -/
theorem State.musterDone_ends (s : State) (e : Nat) (fail : Option MusterFail) (lost : Nat) (he : e < 8) (hm : (s.die.sheep e).muster = true)
    (hflight : ∀ p ∈ s.die.engPastures e, (s.die.engPas e p).flight = []) : s.completes (.musterDone e ⟨fail, lost⟩) (fun t =>
      t = { s with die := t.die } ∧ t.die.grants = s.die.grants ∧ t.die.rows = s.die.rows ∧ t.die.dir = s.die.dir
      ∧ (t.die.sheep e).muster = false ∧ t.die.tally T.SHD_MUSTERS e = tallyAdd (s.die.tally T.SHD_MUSTERS e) 1
      ∧ (∀ q, q < 4 → bit lost q = true → s.die.musterHeld e q ≠ none → t.die.qstate e q = 0)
      ∧ (fail = none → t.die.get R.SHD_STATUS_MUSTER e = 2)
      ∧ (fail ≠ none → t.die.get R.SHD_STATUS_MUSTER e = 3 ∧ t.die.on R.SHD_STATUS_FAILED e = true ∧ t.die.on R.SHD_STATUS_OBSERVED e = true)) := by
  obtain ⟨hmoved, hzero⟩ := s.die.musterReload_moves s.fused e lost he
  obtain ⟨a, ha⟩ : ∃ a, s.die.musterReload s.fused e lost = a := ⟨_, rfl⟩
  rw [ha] at hmoved hzero
  obtain ⟨hrows, hdir, hgrants, hmuster, htally, hq⟩ := musterOver_leaves he a
  obtain ⟨b, hb⟩ : ∃ b, musterOver e a = b := ⟨_, rfl⟩
  rw [hb] at hrows hdir hgrants hmuster htally hq
  have hidle : (s.die.engPastures e).all (fun p => (s.die.engPas e p).flight.isEmpty) = true :=
    List.all_eq_true.2 (fun p hp => by rw [hflight p hp]; rfl)
  have hrest (f : Die) (hf : b.watched f) : f.grants = s.die.grants ∧ f.rows = s.die.rows ∧ f.dir = s.die.dir
      ∧ (f.sheep e).muster = false ∧ f.tally T.SHD_MUSTERS e = tallyAdd (s.die.tally T.SHD_MUSTERS e) 1
      ∧ (∀ q, q < 4 → bit lost q = true → s.die.musterHeld e q ≠ none → f.qstate e q = 0) := by
    obtain ⟨hfrows, hfdir, -, hfgrants⟩ := hf.loads.larder
    refine ⟨hfgrants.trans (hgrants.trans hmoved.grants), hfrows.trans (hrows.trans hmoved.rows), hfdir.trans (hdir.trans hmoved.dir), ?_, ?_, fun q hlt hlost hheld => ?_⟩
    · rw [Die.sheep, hf.stores.1]
      exact hmuster
    · rw [hf.tals.tally T.SHD_MUSTERS he (by decide), htally, hmoved.tals.tally T.SHD_MUSTERS he (by decide)]
    · rw [hf.loads.qstate he, hq]
      exact hzero q hlt hlost hheld
  cases fail with
  | none =>
    have hexec : exec (.musterDone e ⟨none, lost⟩) s = .next { s with die := (b.put R.SHD_STATUS_MUSTER e 2).faultRecord s.fused 9 [] } := by
      change execMusterDone e ⟨none, lost⟩ s = _
      unfold execMusterDone dieCmd Die.musterDone
      dsimp only
      rw [if_pos (decide_eq_true he), hm, hidle, if_pos (by rfl), ← hb, ← ha]
      rfl
    have hwatch := (b.watched_put R.SHD_STATUS_MUSTER e 2 he (by decide)).trans (Die.watched_faultRecord s.fused 9 [] _)
    have hrep := (b.put R.SHD_STATUS_MUSTER e 2).report_faultRecord s.fused 9 []
    obtain ⟨h1, h2, h3, h4, h5, h6⟩ := hrest _ hwatch
    exact ⟨_, hexec, rfl, h1, h2, h3, h4, h5, h6, fun _ => (hrep.get _ _ (sheepStatus_quiet R.SHD_STATUS_MUSTER he (by decide))).trans (Die.get_put_same _ _ _ _), fun h => absurd rfl h⟩
  | some x =>
    obtain ⟨keys, hexec⟩ : ∃ keys : List (Nat × Cbor), exec (.musterDone e ⟨some x, lost⟩) s = .next { s with die :=
        ((((b.put R.SHD_STATUS_MUSTER e 3).noteFailure (e * 512 + x.tile % 512)).alarm 5).faultRecord s.fused 8 keys).observe s.fused e } := by
      change ∃ keys : List (Nat × Cbor), execMusterDone e ⟨some x, lost⟩ s = _
      unfold execMusterDone dieCmd Die.musterDone
      dsimp only
      rw [if_pos (decide_eq_true he), hm, hidle, if_pos (by rfl), ← hb, ← ha]
      exact ⟨_, rfl⟩
    obtain ⟨f, hf⟩ : ∃ f, ((((b.put R.SHD_STATUS_MUSTER e 3).noteFailure (e * 512 + x.tile % 512)).alarm 5).faultRecord s.fused 8 keys).observe s.fused e = f := ⟨_, rfl⟩
    obtain ⟨hwatch, hthree, hfailed, hobs⟩ := Die.musterFails_notes s.fused keys (show (e * 512 + x.tile % 512) / 512 = e by omega) he b f hf
    rw [hf] at hexec
    obtain ⟨h1, h2, h3, h4, h5, h6⟩ := hrest _ hwatch
    exact ⟨_, hexec, rfl, h1, h2, h3, h4, h5, h6, fun h => (by cases h), fun _ => ⟨hthree, hfailed, hobs⟩⟩

/-- A quarter that holds a pasture's image, which no admission loads, is one that a muster loads again. -/
theorem Die.musterHeld_some {d : Die} {e q p : Nat} {im : Image} {ei : EngineImg} (hload : KMap.get (0, 0, 0) d.loads (e * 4 + q) = (0, 0, 0)) (hst : d.qstate e q ≠ 0)
    (howner : d.quarterOwner e q = some p) (him : d.image p = some im) (hei : engOf im e = some ei) : d.musterHeld e q ≠ none := by
  unfold Die.musterHeld
  rw [hload, beq_false_of_ne hst, if_neg (by decide), howner, Option.bind_some, him, Option.bind_some, hei]
  exact fun h => by cases h

end Sys2Proof.Machine
end

section
/-! SUPPORT. Writes of the Sheepdog's control and pack registers (R525, R530 to R533). -/

namespace Sys2Proof.Machine

/-- `f` is `d` after the fields of register `off` of engine e's Sheepdog page took a write. -/
structure Die.shdSet (e off : Nat) (d f : Die) : Prop where
  frame : f = { d with regs := f.regs }
  page : ∀ g : Fld, g.base = 0x180000 → g.off + g.lo / 32 ≠ off → f.get g e = d.get g e
  qstate : ∀ q, f.qstate e q = d.qstate e q

theorem Die.shdSet_setFields (e off w : Nat) (ho : off < 0x1000) (d : Die) : d.shdSet e off (d.setFields .SHD e off w) := by
  have hbase : blockAddr .SHD 0 0 = 0x180000 := by decide
  refine ⟨Die.setFields_regs _ _ _ _ _, fun g hb hoff => Die.get_setFields_page _ _ _ _ _ g (hb.trans hbase.symm) hoff, fun q => ?_⟩
  rw [Die.qstate, Die.qstate, Die.get_setFields_other]
  rw [blockAddr_eq, hbase]
  simp only [Fld.key, R.ENG_STATUS_QSTATE]
  omega

theorem Die.shdSet.stores {e off : Nat} {d f : Die} (h : d.shdSet e off f) : f.shd = d.shd ∧ f.grants = d.grants ∧ f.rows = d.rows ∧ f.dir = d.dir ∧ f.tiles = d.tiles
    ∧ f.loads = d.loads ∧ f.closed = d.closed ∧ f.host = d.host ∧ f.tallies = d.tallies := by
  rw [h.frame]
  exact ⟨rfl, rfl, rfl, rfl, rfl, rfl, rfl, rfl, rfl⟩

/-- The grants, the rows and the directory stand. -/
def Die.ground (d f : Die) : Prop := f.grants = d.grants ∧ f.rows = d.rows ∧ f.dir = d.dir

theorem Die.shdSet.ground {e off : Nat} {d f : Die} (h : d.shdSet e off f) : d.ground f := by
  obtain ⟨-, hgrants, hrows, hdir, -⟩ := h.stores
  exact ⟨hgrants, hrows, hdir⟩

theorem Die.ground.trans {a b c : Die} (h : a.ground b) (k : b.ground c) : a.ground c := ⟨k.1.trans h.1, k.2.1.trans h.2.1, k.2.2.trans h.2.2⟩

theorem Die.watched.ground {d f : Die} (h : d.watched f) : d.ground f := by
  obtain ⟨hrows, hdir, -, hgrants⟩ := h.loads.larder
  exact ⟨hgrants, hrows, hdir⟩

/-- The tally under key k stands. -/
def Die.talKept (k : Nat) (d f : Die) : Prop := KMap.get 0 f.tallies k = KMap.get 0 d.tallies k

theorem Die.talKept.trans {k : Nat} {a b c : Die} (h : a.talKept k b) (g : b.talKept k c) : a.talKept k c := Eq.trans g h

theorem Die.talKept_ite {k : Nat} {c : Prop} [Decidable c] {d e f : Die} (h : d.talKept k e) (g : d.talKept k f) : d.talKept k (if c then e else f) := by split <;> assumption

/-- A fault record counts in no tally but its own. -/
theorem Die.faultRecord_tally (fu : Fused) (kind : Nat) (keys : List (Nat × Cbor)) {k : Nat} (hquiet : loftTally k = false) (hk : k ≠ 0x30E28) (d : Die) :
    d.talKept k (d.faultRecord fu kind keys) := by
  unfold Die.faultRecord
  refine Die.talKept.trans ?_ ((Die.traced_trace _ (fun p h => by cases h) _).2 k hquiet)
  have hstore (x : List Byte) : d.talKept k (if kind = 1 then d else { d with store := (x :: d.store).take 16 }) := Die.talKept_ite rfl rfl
  have hhost (g : Die) (a : Nat) (bs : List Byte) (f : Fld) (v : Nat) : g.talKept k ((g.hostWrite 0 a bs).put f 0 v) := rfl
  exact (hstore _).trans (Die.talKept_ite (hhost _ _ _ _ _) (Die.tally_countBy_other T.CHK_FAULT_DROP 0 1 k _ hquiet hk))

theorem Die.faultRecord_observations (fu : Fused) (kind : Nat) (keys : List (Nat × Cbor)) {e : Nat} (he : e < 8) (d : Die) :
    (d.faultRecord fu kind keys).tally T.SHD_OBSERVATIONS e = d.tally T.SHD_OBSERVATIONS e :=
  d.faultRecord_tally fu kind keys (sheepTal_page T.SHD_OBSERVATIONS he (by decide)) (by simp only [Tal.key, T.SHD_OBSERVATIONS]; omega)

/-- An observation that begins counts (R530). -/
theorem Die.observe_counts (fu : Fused) {e : Nat} (he : e < 8) (d : Die) : (d.observe fu e).tally T.SHD_OBSERVATIONS e =
    if d.on R.SHD_STATUS_OBSERVED e then d.tally T.SHD_OBSERVATIONS e else tallyAdd (d.tally T.SHD_OBSERVATIONS e) 1 := by
  unfold Die.observe
  cases d.on R.SHD_STATUS_OBSERVED e with
  | true => rfl
  | false =>
    rw [if_neg Bool.false_ne_true, if_neg Bool.false_ne_true]
    exact (Die.faultRecord_observations fu 12 [] he _).trans (Die.tally_count_same T.SHD_OBSERVATIONS e _ (sheepTal_page _ he (by decide)))

/-- OBSERVE_END (R531). -/
theorem Die.observeEnd_ends (fu : Fused) {e : Nat} (he : e < 8) (d : Die) : d.watched (d.observeEnd fu e) ∧ (d.observeEnd fu e).on R.SHD_STATUS_OBSERVED e = false
    ∧ (d.observeEnd fu e).tally T.SHD_OBSERVATIONS e = d.tally T.SHD_OBSERVATIONS e := by
  unfold Die.observeEnd
  cases hon : d.on R.SHD_STATUS_OBSERVED e with
  | false => exact ⟨⟨d.reloaded_refl, d.sheepKept_refl, rfl, rfl⟩, hon, rfl⟩
  | true =>
    rw [if_pos rfl]
    obtain ⟨a, ha⟩ : ∃ a, (d.flag R.SHD_STATUS_OBSERVED e false).flag R.SHD_CONTROL_OBSERVE e false = a := ⟨_, rfl⟩
    have hput : d.watched a := by
      rw [← ha]
      exact (d.watched_put R.SHD_STATUS_OBSERVED e 0 he (by decide)).trans (Die.watched_put R.SHD_CONTROL_OBSERVE e 0 _ he (by decide))
    have hoff : a.on R.SHD_STATUS_OBSERVED e = false := by
      rw [← ha, Die.on_flag_apart _ _ _ _ _ (by decide)]
      exact Die.on_flag_same _ e false d rfl
    have htal : a.tallies = d.tallies := by rw [← ha]; rfl
    rw [ha]
    refine ⟨hput.trans (a.watched_faultRecord fu 13 []), ?_, (a.faultRecord_observations fu 13 [] he).trans (congrArg (fun m => KMap.get 0 m (T.SHD_OBSERVATIONS.key e)) htal)⟩
    rw [Die.on, (a.report_faultRecord fu 13 []).get _ _ (sheepStatus_quiet R.SHD_STATUS_OBSERVED he (by decide))]
    exact hoff

theorem lowestWo_none {w a b : Nat} (ha : bit w a = false) (hb : bit w b = false) : lowestWo w [a, b] = none := by
  unfold lowestWo
  rw [List.find?_cons_of_neg (by rw [ha]; exact Bool.false_ne_true), List.find?_cons_of_neg (by rw [hb]; exact Bool.false_ne_true), List.find?_nil]

theorem lowestWo_first {w a b : Nat} (ha : bit w a = true) : lowestWo w [a, b] = some a := by
  unfold lowestWo
  rw [List.find?_cons_of_pos ha]

/-- What a write of SHD_CONTROL begins (R530 to R532). -/
theorem shdControlW_observes (fu : Fused) (e w : Nat) (d : Die) (h0 : bit w 0 = true) (h1 : bit w 1 = false) (h2 : bit w 2 = false) :
    shdControlW fu e w d = (d.setFields .SHD e 0x010 w).observe fu e := by
  unfold shdControlW
  rw [lowestWo_none h1 h2, h0]
  rfl

theorem shdControlW_ends (fu : Fused) (e w : Nat) (d : Die) (h0 : bit w 0 = false) (h1 : bit w 1 = true) :
    shdControlW fu e w d = (d.setFields .SHD e 0x010 w).observeEnd fu e := by
  unfold shdControlW
  rw [lowestWo_first h1, h0]
  rfl

theorem shdControlW_musters (fu : Fused) (e w : Nat) (d : Die) (h0 : bit w 0 = false) (h1 : bit w 1 = false) (h2 : bit w 2 = true) :
    shdControlW fu e w d = (d.setFields .SHD e 0x010 w).musterGo e := by
  unfold shdControlW
  rw [lowestWo_second h1 h2, h0]
  rfl

/-- Closing entries leaves what is not of the entries. -/
theorem Die.closeEntries_watched (e : Nat) (l : List Nat) (d : Die) : (l.foldl (fun d p => d.closeEntry e p) d).shd = d.shd ∧ d.ground (l.foldl (fun d p => d.closeEntry e p) d)
    ∧ (l.foldl (fun d p => d.closeEntry e p) d).get R.SHD_STATUS_MUSTER e = d.get R.SHD_STATUS_MUSTER e := by
  induction l generalizing d with
  | nil => exact ⟨rfl, ⟨rfl, rfl, rfl⟩, rfl⟩
  | cons p l ih =>
    obtain ⟨hshd, hground, hget⟩ := ih (d.closeEntry e p)
    refine ⟨hshd.trans rfl, Die.ground.trans ⟨rfl, rfl, rfl⟩ hground, hget.trans ?_⟩
    exact Die.get_put_apart _ _ _ _ _ (by decide)

theorem Die.engBusy_congr {d f : Die} {e : Nat} (hloads : f.loads = d.loads) (hclosed : f.closed = d.closed) (hq : ∀ q, f.qstate e q = d.qstate e q) : f.engBusy e = d.engBusy e := by
  unfold Die.engBusy
  rw [hloads, hclosed]
  simp only [hq]

/-- A muster that begins (R532). -/
theorem Die.musterGo_begins {e : Nat} (d : Die) (hbusy : d.engBusy e = false) (hm : (d.sheep e).muster = false) : d.ground (d.musterGo e) ∧ (d.musterGo e).tiles = d.tiles
    ∧ (d.musterGo e).get R.SHD_STATUS_MUSTER e = 1 ∧ ((d.musterGo e).sheep e).muster = true
    ∧ ∀ q p, q < 4 → d.quarterOwner e q = some p → KMap.get false (d.musterGo e).closed (e * 4 + q) = true := by
  obtain ⟨run, hgo⟩ : ∃ run : Nat, d.musterGo e = ((d.engPastures e).foldl (fun d p => d.closeEntry e p)
      ((d.put R.SHD_STATUS_MUSTER e 1).onShd e (fun y => { y with muster := true, wasRunning := run }))).setBusy e := by
    unfold Die.musterGo
    rw [hbusy, hm, if_neg (by decide)]
    exact ⟨_, rfl⟩
  obtain ⟨a, ha⟩ : ∃ a, (d.put R.SHD_STATUS_MUSTER e 1).onShd e (fun y => { y with muster := true, wasRunning := run }) = a := ⟨_, rfl⟩
  have hsheep : (a.sheep e).muster = true := by rw [← ha, Die.sheep, Die.onShd, KMap.get_upd_same]
  have hmuster : a.get R.SHD_STATUS_MUSTER e = 1 := by rw [← ha]; exact Die.get_put_same d R.SHD_STATUS_MUSTER e 1
  have hground : d.ground a ∧ a.tiles = d.tiles := by rw [← ha]; exact ⟨⟨rfl, rfl, rfl⟩, rfl⟩
  have howns (p q : Nat) : a.ownsQuarter p e q = d.ownsQuarter p e q := by
    unfold Die.ownsQuarter Die.grant
    rw [hground.1.1]
  obtain ⟨hshd, hcground, hget⟩ := a.closeEntries_watched e (d.engPastures e)
  obtain ⟨htiles, -, -, -⟩ := a.closeEntries_frame e (d.engPastures e)
  have hclosed (q p : Nat) (hq : q < 4) (hown : d.quarterOwner e q = some p) : KMap.get false ((d.engPastures e).foldl (fun d p => d.closeEntry e p) a).closed (e * 4 + q) = true := by
    refine Die.closeEntries_closed e p q hq _ a (.inl ⟨?_, ?_⟩)
    · unfold Die.engPastures
      rw [List.mem_eraseDups, List.mem_filterMap]
      exact ⟨q, List.mem_range.2 hq, hown⟩
    · rw [howns]
      unfold Die.quarterOwner at hown
      exact List.find?_some (p := fun p => d.ownsQuarter p e q) hown
  rw [ha] at hgo
  obtain ⟨b, hb⟩ : ∃ b, (d.engPastures e).foldl (fun d p => d.closeEntry e p) a = b := ⟨_, rfl⟩
  rw [hb] at hgo hshd hcground hget htiles hclosed
  rw [hgo]
  refine ⟨hground.1.trans (hcground.trans ⟨rfl, rfl, rfl⟩), htiles.trans hground.2, ?_, ?_, hclosed⟩
  · exact (Die.get_put_apart _ _ _ _ _ (by decide)).trans (hget.trans hmuster)
  · have hsame : (b.setBusy e).shd = a.shd := hshd
    rw [Die.sheep, hsame]
    exact hsheep

theorem Die.musterGo_refuses {e : Nat} (d : Die) (hbusy : d.engBusy e = true ∨ (d.sheep e).muster = true) : d.musterGo e = d.put R.SHD_STATUS_MUSTER e 4 := by
  unfold Die.musterGo
  rw [if_pos (by rcases hbusy with h | h <;> simp [h])]

/-- LOAD of a pack for one engine (R525): what the pack's bytes are, and the result of them. -/
def packTaken (e : Nat) (bs : Option (List Byte)) (r : Nat) (d : Die) : Die :=
  (if r = 1 then (match bs with | some x => d.takePack e (parsePack x).1 | none => d) else d).put R.SHD_STATUS_PACK_RESULT e r

theorem Die.packResult_small (e : Nat) (bs : Option (List Byte)) (d : Die) (len : Nat) : d.packResult e bs len < 16 := by
  have hite {c : Prop} [Decidable c] {a b : Nat} (ha : a < 16) (hb : b < 16) : (if c then a else b) < 16 := by split <;> assumption
  unfold Die.packResult
  split
  · decide
  · exact hite (by decide) (hite (by decide) (hite (by decide) (hite (by decide) (by decide))))

theorem Die.sheep_onShd_same (e : Nat) (f : Shd → Shd) (d : Die) : (d.onShd e f).sheep e = f (d.sheep e) := KMap.get_upd_same _ _ _ _

theorem Die.sheep_onShd_other {e g : Nat} (f : Shd → Shd) (d : Die) (h : g ≠ e) : (d.onShd e f).sheep g = d.sheep g := KMap.get_upd_other _ _ _ _ _ h

theorem packTaken_takes {e : Nat} (bs : Option (List Byte)) (r : Nat) (hr : r < 16) (d : Die) : d.ground (packTaken e bs r d)
    ∧ (packTaken e bs r d).get R.SHD_STATUS_PACK_RESULT e = r ∧ (r ≠ 1 → (packTaken e bs r d).shd = d.shd)
    ∧ (∀ y, r = 1 → bs = some y → ((packTaken e bs r d).sheep e).pack = some (parsePack y).1 ∧ ((packTaken e bs r d).sheep e).pos = 0
        ∧ (packTaken e bs r d).get R.SHD_PACK_VERSION_VALUE e = (parsePack y).1.version.toNat)
    ∧ ∀ g, g ≠ e → (packTaken e bs r d).sheep g = d.sheep g := by
  have hresult (g : Die) : (g.put R.SHD_STATUS_PACK_RESULT e r).get R.SHD_STATUS_PACK_RESULT e = r := (Die.get_put_same _ _ _ _).trans (Nat.mod_eq_of_lt hr)
  unfold packTaken
  by_cases h1 : r = 1
  · rw [if_pos h1]
    cases bs with
    | none => exact ⟨⟨rfl, rfl, rfl⟩, hresult _, fun h => absurd h1 h, fun _ _ h => (by cases h), fun _ _ => rfl⟩
    | some x =>
      obtain ⟨k, hk⟩ : ∃ k, (parsePack x).1 = k := ⟨_, rfl⟩
      dsimp only
      rw [hk]
      refine ⟨⟨rfl, rfl, rfl⟩, hresult _, fun h => absurd h1 h, fun y _ hy => ?_, fun g hg =>
        d.sheep_onShd_other (fun y => { y with pack := some k, pos := 0, tile := 0, tested := [] }) hg⟩
      cases hy
      rw [hk]
      have hsheep : (((d.takePack e k).put R.SHD_STATUS_PACK_RESULT e r).sheep e) = { d.sheep e with pack := some k, pos := 0, tile := 0, tested := [] } :=
        d.sheep_onShd_same e (fun y => { y with pack := some k, pos := 0, tile := 0, tested := [] })
      rw [hsheep]
      refine ⟨rfl, rfl, ?_⟩
      unfold Die.takePack
      dsimp only
      rw [Die.get_put_apart _ _ _ _ _ (by decide), Die.get_put_apart _ _ _ _ _ (by decide), Die.get_put_same]
      exact Nat.mod_eq_of_lt k.version.isLt
  · rw [if_neg h1]
    exact ⟨⟨rfl, rfl, rfl⟩, hresult _, fun _ => rfl, fun _ h => absurd h h1, fun _ _ => rfl⟩

theorem Die.packLoad_one (fu : Fused) (e : Nat) (fail : Bool) (d : Die) (hall : d.on R.SHD_PACK_ALL e = false) (bs : Option (List Byte))
    (hbs : bs = if d.on R.SHD_PACK_STAGED e then some ((d.sheep e).stage.flatMap (fun w => leBytes 4 w.toNat)) else if fail then none
      else some (d.hostRead 0 (d.addr64 R.SHD_PACK_ADDR_LO R.SHD_PACK_ADDR_HI e) (d.get R.SHD_PACK_LEN_VALUE e))) :
    d.packLoad fu e fail = packTaken e bs (d.packResult e bs (d.get R.SHD_PACK_LEN_VALUE e)) d := by
  unfold Die.packLoad
  dsimp only
  rw [← hbs, hall, if_neg Bool.false_ne_true]
  rfl

theorem shdPackW_loads (fu : Fused) (e w : Nat) (fail : Bool) (d : Die) (h0 : bit w 0 = true) : shdPackW fu e fail w d = (d.setFields .SHD e 0x020 w).packLoad fu e fail := by
  unfold shdPackW
  rw [lowestWo_first h0] <;> rfl

theorem shdPackW_resets (fu : Fused) (e w : Nat) (fail : Bool) (d : Die) (h0 : bit w 0 = false) (h3 : bit w 3 = true) :
    shdPackW fu e fail w d = (d.setFields .SHD e 0x020 w).onShd e (fun y => { y with stage := [] }) := by
  unfold shdPackW
  rw [lowestWo_second h0 h3] <;> rfl

/-- A write of a register of the Sheepdog that the device performs. -/
theorem State.completes_shdWrite {s : State} {c : Instr} {src : Source} {e off : Nat} {act : Fused → Die → Die} {P : State → Prop}
    (hc : exec c s = dieCmd (decide (e < 8)) (fun s => writeDie src (blockAddr .SHD e off) (act s.fused) s) s) (he : e < 8) (hadm : s.admits src .SHD e off)
    (h : P { s with die := act s.fused s.die }) : s.completes c P := by
  refine State.completes_dieCmd hc (decide_eq_true he) ?_
  rw [writeDie_admitted hadm]
  exact h

/-- LOAD of SHD_PACK for the engine of its page (R525). -/
theorem State.packLoad_loads (s : State) (src : Source) (e : Nat) (w : Word) (he : e < 8) (hadm : s.admits src .SHD e 0x020) (h0 : bit w.toNat 0 = true)
    (h1 : bit w.toNat 1 = false) (fail : Bool) (bs : Option (List Byte))
    (hbs : bs = if bit w.toNat 2 then some ((s.die.sheep e).stage.flatMap (fun y => leBytes 4 y.toNat)) else if fail then none
      else some (s.die.hostRead 0 (s.die.addr64 R.SHD_PACK_ADDR_LO R.SHD_PACK_ADDR_HI e) (s.die.get R.SHD_PACK_LEN_VALUE e))) (r : Nat)
    (hr : r = (s.die.setFields .SHD e 0x020 w.toNat).packResult e bs (s.die.get R.SHD_PACK_LEN_VALUE e)) :
    s.completes (.packLoad src e w fail) (fun t => t = { s with die := t.die } ∧ t.die.grants = s.die.grants ∧ t.die.rows = s.die.rows ∧ t.die.dir = s.die.dir
      ∧ t.die.get R.SHD_STATUS_PACK_RESULT e = r ∧ (r ≠ 1 → t.die.shd = s.die.shd)
      ∧ (∀ y, r = 1 → bs = some y → (t.die.sheep e).pack = some (parsePack y).1 ∧ (t.die.sheep e).pos = 0
          ∧ t.die.get R.SHD_PACK_VERSION_VALUE e = (parsePack y).1.version.toNat)
      ∧ (bs = none → r = 5) ∧ ∀ g, g ≠ e → t.die.sheep g = s.die.sheep g) := by
  have hset := Die.shdSet_setFields e 0x020 w.toNat (by decide) s.die
  have hstaged : (s.die.setFields .SHD e 0x020 w.toNat).on R.SHD_PACK_STAGED e = bit w.toNat 2 :=
    Die.on_setFields_rw .SHD e 0x020 w.toNat s.die R.SHD_PACK_STAGED (by simp [fieldsAt, Block.regs, regsSHD]) rfl rfl
  have hall : (s.die.setFields .SHD e 0x020 w.toNat).on R.SHD_PACK_ALL e = false :=
    (Die.on_setFields_rw .SHD e 0x020 w.toNat s.die R.SHD_PACK_ALL (by simp [fieldsAt, Block.regs, regsSHD]) rfl rfl).trans h1
  have hload := shdPackW_loads s.fused e w.toNat fail s.die h0
  obtain ⟨a, ha⟩ : ∃ a, s.die.setFields .SHD e 0x020 w.toNat = a := ⟨_, rfl⟩
  rw [ha] at hset hstaged hall hload hr
  obtain ⟨hshd, hgrants, hrows, hdir, -, -, -, hhost, -⟩ := hset.stores
  have hsheep (g : Nat) : a.sheep g = s.die.sheep g := by rw [Die.sheep, hshd, Die.sheep]
  have hlen : a.get R.SHD_PACK_LEN_VALUE e = s.die.get R.SHD_PACK_LEN_VALUE e := hset.page _ rfl (by decide)
  have haddr : a.addr64 R.SHD_PACK_ADDR_LO R.SHD_PACK_ADDR_HI e = s.die.addr64 R.SHD_PACK_ADDR_LO R.SHD_PACK_ADDR_HI e := by
    unfold Die.addr64
    rw [hset.page R.SHD_PACK_ADDR_LO rfl (by decide), hset.page R.SHD_PACK_ADDR_HI rfl (by decide)]
  have hread (n m : Nat) : a.hostRead 0 n m = s.die.hostRead 0 n m := by rw [Die.hostRead, hhost, Die.hostRead]
  have hone := a.packLoad_one s.fused e fail hall bs (by rw [hbs, hstaged, hsheep, hread, haddr, hlen])
  rw [hlen, ← hr] at hone
  obtain ⟨hground, hresult, hkeeps, htakes, hothers⟩ := packTaken_takes (e := e) bs r (by rw [hr]; exact Die.packResult_small _ _ _ _) a
  rw [← hone, ← hload] at hground hresult hkeeps htakes hothers
  refine State.completes_shdWrite (act := fun fu => shdPackW fu e fail w.toNat) rfl he hadm ⟨rfl, hground.1.trans hgrants, hground.2.1.trans hrows, hground.2.2.trans hdir,
    hresult, fun h => (hkeeps h).trans hshd, htakes, fun h => ?_, fun g hg => (hothers g hg).trans (hsheep g)⟩
  rw [hr, h]
  rfl

/-- Writes of SHD_PACK and SHD_PACK_WIN that work on the staging window (R525, R540). -/
theorem State.stage_moves (s : State) (src : Source) (e : Nat) (w : Word) (he : e < 8) :
    (s.admits src .SHD e 0x020 → bit w.toNat 0 = false → bit w.toNat 3 = true → s.completes (.stageReset src e w) (fun t => t = { s with die := t.die }
      ∧ t.die.grants = s.die.grants ∧ t.die.rows = s.die.rows ∧ t.die.dir = s.die.dir ∧ (t.die.sheep e).stage = []
      ∧ (t.die.sheep e).pack = (s.die.sheep e).pack ∧ ∀ g, g ≠ e → t.die.sheep g = s.die.sheep g))
    ∧ (s.admits src .SHD e 0x024 → s.completes (.packWinWrite src e w) (fun t => t = { s with die := t.die }
      ∧ t.die.grants = s.die.grants ∧ t.die.rows = s.die.rows ∧ t.die.dir = s.die.dir ∧ (t.die.sheep e).stage = (s.die.sheep e).stage ++ [w]
      ∧ t.die = { s.die with shd := t.die.shd } ∧ ∀ g, g ≠ e → t.die.sheep g = s.die.sheep g)) := by
  refine ⟨fun hadm h0 h3 => ?_, fun hadm => ?_⟩
  · have hset := Die.shdSet_setFields e 0x020 w.toNat (by decide) s.die
    have hreset := shdPackW_resets s.fused e w.toNat false s.die h0 h3
    obtain ⟨a, ha⟩ : ∃ a, s.die.setFields .SHD e 0x020 w.toNat = a := ⟨_, rfl⟩
    rw [ha] at hset hreset
    obtain ⟨hshd, hgrants, hrows, hdir, -⟩ := hset.stores
    have hsheep (g : Nat) : a.sheep g = s.die.sheep g := by rw [Die.sheep, hshd, Die.sheep]
    refine State.completes_shdWrite (act := fun fu => shdPackW fu e false w.toNat) rfl he hadm ?_
    dsimp only
    rw [hreset]
    have hsame := a.sheep_onShd_same e (fun y => { y with stage := [] })
    exact ⟨rfl, hgrants, hrows, hdir, by rw [hsame], by rw [hsame, hsheep], fun g hg => (a.sheep_onShd_other (fun y => { y with stage := [] }) hg).trans (hsheep g)⟩
  · refine State.completes_shdWrite (act := fun _ => shdPackWinW e w.toNat) rfl he hadm ?_
    have hsame := s.die.sheep_onShd_same e (fun y => { y with stage := y.stage ++ [BitVec.ofNat 32 w.toNat] })
    have hstage : ((shdPackWinW e w.toNat s.die).sheep e).stage = (s.die.sheep e).stage ++ [w] := by
      unfold shdPackWinW
      rw [hsame, BitVec.ofNat_toNat, BitVec.setWidth_eq]
    exact ⟨rfl, rfl, rfl, rfl, hstage, rfl, fun g hg => s.die.sheep_onShd_other (fun y => { y with stage := y.stage ++ [BitVec.ofNat 32 w.toNat] }) hg⟩

/-- Writes of SHD_CONTROL (R530 to R532). -/
theorem State.shdControl_acts (s : State) (src : Source) (e : Nat) (w : Word) (he : e < 8) (hadm : s.admits src .SHD e 0x010) :
    (bit w.toNat 0 = true → bit w.toNat 1 = false → bit w.toNat 2 = false → s.completes (.observe src e w) (fun t => t = { s with die := t.die }
      ∧ t.die.grants = s.die.grants ∧ t.die.rows = s.die.rows ∧ t.die.dir = s.die.dir ∧ t.die.on R.SHD_STATUS_OBSERVED e = true
      ∧ t.die.tally T.SHD_OBSERVATIONS e =
        (if s.die.on R.SHD_STATUS_OBSERVED e then s.die.tally T.SHD_OBSERVATIONS e else tallyAdd (s.die.tally T.SHD_OBSERVATIONS e) 1)))
    ∧ (bit w.toNat 0 = false → bit w.toNat 1 = true → s.completes (.observeEnd src e w) (fun t => t = { s with die := t.die }
      ∧ t.die.grants = s.die.grants ∧ t.die.rows = s.die.rows ∧ t.die.dir = s.die.dir ∧ t.die.on R.SHD_STATUS_OBSERVED e = false
      ∧ t.die.tally T.SHD_OBSERVATIONS e = s.die.tally T.SHD_OBSERVATIONS e))
    ∧ (bit w.toNat 0 = false → bit w.toNat 1 = false → bit w.toNat 2 = true →
      (s.die.engBusy e = true ∨ (s.die.sheep e).muster = true → s.completes (.muster src e w) (fun t => t = { s with die := t.die }
        ∧ t.die.grants = s.die.grants ∧ t.die.rows = s.die.rows ∧ t.die.dir = s.die.dir ∧ t.die.get R.SHD_STATUS_MUSTER e = 4 ∧ t.die = { s.die with regs := t.die.regs }))
      ∧ (¬ (s.die.engBusy e = true ∨ (s.die.sheep e).muster = true) → s.completes (.muster src e w) (fun t => t = { s with die := t.die }
        ∧ t.die.grants = s.die.grants ∧ t.die.rows = s.die.rows ∧ t.die.dir = s.die.dir ∧ t.die.get R.SHD_STATUS_MUSTER e = 1 ∧ (t.die.sheep e).muster = true
        ∧ t.die.tiles = s.die.tiles ∧ ∀ q p, q < 4 → s.die.quarterOwner e q = some p → KMap.get false t.die.closed (e * 4 + q) = true))) := by
  have hset := Die.shdSet_setFields e 0x010 w.toNat (by decide) s.die
  have hobs := shdControlW_observes s.fused e w.toNat s.die
  have hend := shdControlW_ends s.fused e w.toNat s.die
  have hmust := shdControlW_musters s.fused e w.toNat s.die
  obtain ⟨a, ha⟩ : ∃ a, s.die.setFields .SHD e 0x010 w.toNat = a := ⟨_, rfl⟩
  rw [ha] at hset hobs hend hmust
  have hground := hset.ground
  obtain ⟨hshd, hgrants, -, -, htiles, hloads, hclosed, -, htals⟩ := hset.stores
  have htal : a.tally T.SHD_OBSERVATIONS e = s.die.tally T.SHD_OBSERVATIONS e := congrArg (fun m => KMap.get 0 m (T.SHD_OBSERVATIONS.key e)) htals
  have hon : a.on R.SHD_STATUS_OBSERVED e = s.die.on R.SHD_STATUS_OBSERVED e := congrArg (· == 1) (hset.page R.SHD_STATUS_OBSERVED rfl (by decide))
  refine ⟨fun h0 h1 h2 => ?_, fun h0 h1 => ?_, fun h0 h1 h2 => ?_⟩
  · refine State.completes_shdWrite (act := fun fu => shdControlW fu e w.toNat) rfl he hadm ?_
    obtain ⟨hg, hr, hd⟩ := hground.trans (a.watched_observe s.fused he).ground
    have hcounts := a.observe_counts s.fused he
    rw [hon, htal] at hcounts
    dsimp only
    rw [hobs h0 h1 h2]
    exact ⟨rfl, hg, hr, hd, a.observe_observes s.fused he, hcounts⟩
  · refine State.completes_shdWrite (act := fun fu => shdControlW fu e w.toNat) rfl he hadm ?_
    obtain ⟨hwatch, hoff, hsame⟩ := a.observeEnd_ends s.fused he
    obtain ⟨hg, hr, hd⟩ := hground.trans hwatch.ground
    dsimp only
    rw [hend h0 h1]
    exact ⟨rfl, hg, hr, hd, hoff, hsame.trans htal⟩
  · have hbusy : a.engBusy e = s.die.engBusy e := Die.engBusy_congr hloads hclosed hset.qstate
    have hm : (a.sheep e).muster = (s.die.sheep e).muster := by rw [Die.sheep, hshd, Die.sheep]
    refine ⟨fun hb => ?_, fun hb => ?_⟩
    · refine State.completes_shdWrite (act := fun fu => shdControlW fu e w.toNat) rfl he hadm ?_
      have hgo := a.musterGo_refuses (e := e) (by rw [hbusy, hm]; exact hb)
      dsimp only
      rw [hmust h0 h1 h2, hgo]
      obtain ⟨hg, hr, hd⟩ := hground
      refine ⟨rfl, hg, hr, hd, Die.get_put_same a R.SHD_STATUS_MUSTER e 4, ?_⟩
      rw [hset.frame]
      rfl
    · refine State.completes_shdWrite (act := fun fu => shdControlW fu e w.toNat) rfl he hadm ?_
      obtain ⟨hidle, hnone⟩ := not_or.1 hb
      obtain ⟨hgr, ht, hone, hmus, hcl⟩ := a.musterGo_begins (e := e) (by rw [hbusy]; exact Bool.eq_false_iff.2 hidle) (by rw [hm]; exact Bool.eq_false_iff.2 hnone)
      obtain ⟨hg, hr, hd⟩ := hground.trans hgr
      have howner (q : Nat) : a.quarterOwner e q = s.die.quarterOwner e q := by
        unfold Die.quarterOwner Die.ownsQuarter Die.grant
        rw [hgrants]
      dsimp only
      rw [hmust h0 h1 h2]
      exact ⟨rfl, hg, hr, hd, hone, hmus, ht.trans htiles, fun q p hq hown => hcl q p hq ((howner q).trans hown)⟩

end Sys2Proof.Machine
end

section
/-! SUPPORT. A pattern that the Sheepdog runs (R526 to R530). -/

namespace Sys2Proof.Machine

/-- `f` is `d` after the first n beats of a pattern's room in the tile (R526). -/
structure Die.patternPut (tile n : Nat) (after : Nat → Nat) (d f : Die) : Prop where
  frame : f = { d with tiles := f.tiles, ecc := f.ecc, poison := f.poison }
  room : ∀ j, j < n → f.beat tile (1016 + j) = after (1016 + j)
  rest : ∀ a, a < 1016 ∨ 1016 + n ≤ a → f.beat tile a = d.beat tile a
  others : ∀ t, t ≠ tile → f.tile t = d.tile t

theorem Die.putBeat_frame (t b v : Nat) (d : Die) : d.putBeat t b v false = { d with
    tiles := (d.putBeat t b v false).tiles, ecc := (d.putBeat t b v false).ecc, poison := (d.putBeat t b v false).poison } := rfl

/-- One beat after a pattern. -/
def putPatternBeat (tile : Nat) (x : Pattern) (after : Nat → Nat) (d : Die) (i : Nat) : Die :=
  if i < x.operands.length ∨ after (1016 + i) ≠ d.beat tile (1016 + i) then d.putBeat tile (1016 + i) (after (1016 + i)) false else d

theorem putPatternBeat_puts (tile : Nat) (x : Pattern) (after : Nat → Nat) (hafter : ∀ b, after b < 2 ^ 256) (d : Die) (i : Nat) :
    putPatternBeat tile x after d i = { d with tiles := (putPatternBeat tile x after d i).tiles, ecc := (putPatternBeat tile x after d i).ecc
                                               poison := (putPatternBeat tile x after d i).poison }
    ∧ (putPatternBeat tile x after d i).beat tile (1016 + i) = after (1016 + i)
    ∧ (∀ a, a ≠ 1016 + i → (putPatternBeat tile x after d i).beat tile a = d.beat tile a) ∧ ∀ t, t ≠ tile → (putPatternBeat tile x after d i).tile t = d.tile t := by
  unfold putPatternBeat
  split
  · exact ⟨d.putBeat_frame _ _ _, (Die.beat_putBeat_same _ _ _ _).trans (Nat.mod_eq_of_lt (hafter _)), fun a ha => Die.beat_putBeat_other _ _ _ _ _ ha,
      fun t ht => Die.tile_putBeat_other _ _ _ _ _ ht⟩
  · next h => exact ⟨rfl, (not_not.1 (not_or.1 h).2).symm, fun _ _ => rfl, fun _ _ => rfl⟩

theorem putPatternFold_puts (tile : Nat) (x : Pattern) (after : Nat → Nat) (hafter : ∀ b, after b < 2 ^ 256) (n : Nat) (d : Die) :
    d.patternPut tile n after ((List.range n).foldl (putPatternBeat tile x after) d) := by
  induction n with
  | zero => exact ⟨rfl, fun j hj => absurd hj (Nat.not_lt_zero _), fun _ _ => rfl, fun _ _ => rfl⟩
  | succ n ih =>
    rw [List.range_succ, List.foldl_append, List.foldl_cons, List.foldl_nil]
    generalize (List.range n).foldl (putPatternBeat tile x after) d = a at ih
    obtain ⟨hframe, hown, hother, htiles⟩ := putPatternBeat_puts tile x after hafter a n
    generalize putPatternBeat tile x after a n = b at hframe hown hother htiles
    refine ⟨?_, fun j hj => ?_, fun c hc => ?_, fun t ht => (htiles t ht).trans (ih.others t ht)⟩
    · rw [hframe, ih.frame]
    · by_cases hjn : j = n
      · rw [hjn, hown]
      · rw [hother _ (by omega)]
        exact ih.room j (by omega)
    · rw [hother _ (by omega)]
      exact ih.rest c (by omega)

theorem Die.putPattern_puts (tile : Nat) (x : Pattern) (after : Nat → Nat) (hafter : ∀ b, after b < 2 ^ 256) (d : Die) : d.patternPut tile 8 after (d.putPattern tile x after) :=
  putPatternFold_puts tile x after hafter 8 d

/-- What an outcome of a pattern leaves (R527): the tiles, the ground, the pass as it stands. -/
structure Die.patrolled (e : Nat) (d f : Die) : Prop where
  tiles : f.tiles = d.tiles
  ground : d.ground f
  tested : (f.sheep e).tested = (d.sheep e).tested
  passes : f.tally T.SHD_PASSES e = d.tally T.SHD_PASSES e

theorem Die.patrolled.trans {e : Nat} {a b c : Die} (h : a.patrolled e b) (k : b.patrolled e c) : a.patrolled e c :=
  ⟨k.tiles.trans h.tiles, h.ground.trans k.ground, k.tested.trans h.tested, k.passes.trans h.passes⟩

theorem Die.patrolled_watched {d f : Die} {e : Nat} (he : e < 8) (h : d.watched f) : d.patrolled e f :=
  ⟨h.stores.2, h.ground, by rw [Die.sheep, h.stores.1, Die.sheep], h.tals.tally T.SHD_PASSES he (by decide)⟩

theorem Die.patrolled_report {d f : Die} {e : Nat} (h : d.report f) (hp : f.tally T.SHD_PASSES e = d.tally T.SHD_PASSES e) : d.patrolled e f := by
  have hshd : f.shd = d.shd := by rw [h.1]
  exact ⟨by rw [h.1], ⟨by rw [h.1], by rw [h.1], by rw [h.1]⟩, by rw [Die.sheep, hshd, Die.sheep], hp⟩

theorem Die.tally_sheep_apart (t u : Tal) {e : Nat} (he : e < 8) (hu : u.base = 0x180000 ∧ u.off < 0x1000) (h : u.base + u.off ≠ t.base + t.off) (d : Die) :
    (d.count t e).tally u e = d.tally u e := Die.tally_count_apart t u e d (sheepTal_page u he hu) h

theorem Die.patrolled_onShd (e : Nat) (g : Shd → Shd) (d : Die) (hg : ∀ y, (g y).tested = y.tested) : d.patrolled e (d.onShd e g) ∧ d.sheepKept (d.onShd e g) := by
  refine ⟨⟨rfl, ⟨rfl, rfl, rfl⟩, ?_, rfl⟩, Die.sheepKept_same rfl⟩
  rw [Die.sheep_onShd_same]
  exact hg _

/-- A transient (R527, R530). -/
theorem Die.transient_notes (fu : Fused) {tile e : Nat} (ht : tile / 512 = e) (he : e < 8) (k : Pack) (x : Pattern) (seen : BitVec 64) (d : Die) :
    d.patrolled e (d.transient fu tile k x seen) ∧ (d.transient fu tile k x seen).tally T.SHD_SHD_TRANSIENT e = tallyAdd (d.tally T.SHD_SHD_TRANSIENT e) 1
    ∧ (d.transient fu tile k x seen).tally T.SHD_SHD_FAIL e = d.tally T.SHD_SHD_FAIL e := by
  unfold Die.transient
  rw [ht]
  extract_lets e1 a b recent c
  have hcount : d.patrolled e a := Die.patrolled_report (d.report_count _ _) (Die.tally_sheep_apart _ _ he (by decide) (by decide) d)
  have hown : a.tally T.SHD_SHD_TRANSIENT e = tallyAdd (d.tally T.SHD_SHD_TRANSIENT e) 1 := Die.tally_count_same _ _ _ (sheepTal_page _ he (by decide))
  have hfail : a.tally T.SHD_SHD_FAIL e = d.tally T.SHD_SHD_FAIL e := Die.tally_sheep_apart _ _ he (by decide) (by decide) d
  have hrec : a.watched b := a.watched_faultRecord fu 7 _
  obtain ⟨hon, hsame⟩ : b.patrolled e c ∧ b.sheepKept c := b.patrolled_onShd e _ (by intro _; rfl)
  have hkept : a.sheepKept c := hrec.tals.trans hsame
  clear_value c recent b a
  have hall := (hcount.trans (Die.patrolled_watched he hrec)).trans hon
  split
  · exact ⟨hall, (hkept.tally _ he (by decide)).trans hown, (hkept.tally _ he (by decide)).trans hfail⟩
  · have hobs := c.watched_observe fu he
    have hkept' := hkept.trans hobs.tals
    exact ⟨hall.trans (Die.patrolled_watched he hobs), (hkept'.tally _ he (by decide)).trans hown, (hkept'.tally _ he (by decide)).trans hfail⟩

/-- A closed entry leaves the Sheepdog's status. -/
theorem Die.closeSet_patrols (e p : Nat) (d : Die) : d.patrolled e ((d.closeEntry e p).setBusy e)
    ∧ ∀ g : Fld, g.base = 0x180000 ∧ g.off = 0x800 ∧ g.lo < 32 → ((d.closeEntry e p).setBusy e).get g e = d.get g e := by
  refine ⟨⟨rfl, ⟨rfl, rfl, rfl⟩, rfl, rfl⟩, fun g hg => ?_⟩
  have hne : (g.base + g.off) * 32 + g.lo ≠ (R.ENG_STATUS_BUSY.base + R.ENG_STATUS_BUSY.off) * 32 + R.ENG_STATUS_BUSY.lo := by
    simp only [R.ENG_STATUS_BUSY]
    omega
  exact (Die.get_put_apart _ _ _ _ _ hne).trans (Die.get_put_apart _ _ _ _ _ hne)

/-- A confirmed failure (R527, R530, R559). -/
theorem Die.confirmed_notes (fu : Fused) {tile e : Nat} (ht : tile / 512 = e) (he : e < 8) (k : Pack) (x : Pattern) (seen : BitVec 64) (d : Die) :
    d.patrolled e (d.confirmed fu tile k x seen) ∧ (d.confirmed fu tile k x seen).tally T.SHD_SHD_FAIL e = tallyAdd (d.tally T.SHD_SHD_FAIL e) 1
    ∧ (d.confirmed fu tile k x seen).on R.SHD_STATUS_FAILED e = true ∧ (d.confirmed fu tile k x seen).on R.SHD_STATUS_OBSERVED e = true := by
  unfold Die.confirmed
  rw [ht]
  extract_lets e1 q a b c
  have hcount : d.patrolled e (d.count T.SHD_SHD_FAIL e) := Die.patrolled_report (d.report_count _ _) (Die.tally_sheep_apart _ _ he (by decide) (by decide) d)
  have hown : (d.count T.SHD_SHD_FAIL e).tally T.SHD_SHD_FAIL e = tallyAdd (d.tally T.SHD_SHD_FAIL e) 1 := Die.tally_count_same _ _ _ (sheepTal_page _ he (by decide))
  obtain ⟨hnote, hfailed, -⟩ := (d.count T.SHD_SHD_FAIL e).noteFailure_notes ht he
  have hrec : a.watched b := a.watched_faultRecord fu 6 _
  have hinc : b.watched (b.incident 3 1 0 tile) := Die.watched_traced (Die.traced_incident 3 1 0 tile b)
  have hrep : a.report (b.incident 3 1 0 tile) := (a.report_faultRecord fu 6 _).trans (b.report_incident 3 1 0 tile)
  have hobs : (b.incident 3 1 0 tile).watched c := Die.watched_observe fu he _
  have hwatch : (d.count T.SHD_SHD_FAIL e).watched c := hnote.trans (hrec.trans (hinc.trans hobs))
  have hc : d.patrolled e c := hcount.trans (Die.patrolled_watched he hwatch)
  have hfail : c.tally T.SHD_SHD_FAIL e = tallyAdd (d.tally T.SHD_SHD_FAIL e) 1 := (hwatch.tals.tally _ he (by decide)).trans hown
  have hcfailed : c.on R.SHD_STATUS_FAILED e = true := by
    refine Eq.trans (congrArg (· == 1) ?_) hfailed
    exact (Die.observe_status fu R.SHD_STATUS_FAILED he (by decide) _).trans (hrep.get _ _ (sheepStatus_quiet _ he (by decide)))
  have hcobs : c.on R.SHD_STATUS_OBSERVED e = true := Die.observe_observes fu he _
  split
  · split
    · next p _ =>
      obtain ⟨hp, hget⟩ := c.closeSet_patrols e p
      exact ⟨hc.trans hp, hfail, (congrArg (· == 1) (hget R.SHD_STATUS_FAILED (by decide))).trans hcfailed, (congrArg (· == 1) (hget R.SHD_STATUS_OBSERVED (by decide))).trans hcobs⟩
    · exact ⟨hc, hfail, hcfailed, hcobs⟩
  · exact ⟨hc, hfail, hcfailed, hcobs⟩

end Sys2Proof.Machine
end

section
/-! SUPPORT. The Sheepdog's place in its pass, and what its commands do (R522 to R533). -/

namespace Sys2Proof.Machine

/-- What the sequencer asks of a tile depends on its engine's power, quarters and grants. -/
theorem Die.sheepMay_congr {d f : Die} (tile : Nat) (hregs : ∀ g : Fld, ∀ i, reportWord (g.key i / 32) = false → f.get g i = d.get g i)
    (hm : (f.sheep (tile / 512)).muster = (d.sheep (tile / 512)).muster) (he : tile / 512 < 8)
    (hsame : f.grants = d.grants ∧ f.pas = d.pas ∧ f.stopped = d.stopped) : f.sheepMay tile = d.sheepMay tile := by
  obtain ⟨hgrants, hpas, hstopped⟩ := hsame
  have himg (p : Nat) : f.image p = d.image p := by rw [Die.image, Die.pasture, hpas, Die.image, Die.pasture]
  have howner : f.quarterOwner = d.quarterOwner := by
    funext e q
    unfold Die.quarterOwner Die.ownsQuarter Die.grant
    rw [hgrants]
  have hupd (e : Nat) : f.updOwner e = d.updOwner e := by
    unfold Die.updOwner Die.grant
    rw [hgrants]
  have hstate : f.get R.PWR_STATUS_STATE 0 = d.get R.PWR_STATUS_STATE 0 := hregs _ 0 (by decide)
  have hlevel : f.get R.DEV_SHED_STATUS_LEVEL 0 = d.get R.DEV_SHED_STATUS_LEVEL 0 := hregs _ 0 (by decide)
  have hq (q : Nat) : f.qstate (tile / 512) q = d.qstate (tile / 512) q := by
    have hlt := he
    rw [Die.qstate, Die.qstate, hregs]
    exact reportWord_above (by simp only [Fld.key, R.ENG_STATUS_QSTATE]; omega) (by simp only [Fld.key, R.ENG_STATUS_QSTATE]; omega)
  have hgated : f.gated (tile / 512) = d.gated (tile / 512) := by
    unfold Die.gated
    rw [hstate, hupd]
    simp only [himg]
  unfold Die.sheepMay
  dsimp only
  rw [hm, hgated, hstopped, hstate, hq, hlevel, howner]
  simp only [funext himg]

/-- What a change of the sequencer's place alone leaves. -/
structure Die.placed (e : Nat) (d f : Die) : Prop where
  tiles : f.tiles = d.tiles
  ground : d.ground f
  status : ∀ g : Fld, g.base = 0x180000 ∧ g.off = 0x800 ∧ g.lo < 32 → f.get g e = d.get g e
  tals : ∀ t : Tal, t.base = 0x180000 ∧ t.off < 0x1000 ∧ t.off ≠ 0xC00 → f.tally t e = d.tally t e
  ends : ∀ tested, f.passEnds e tested = d.passEnds e tested

theorem Die.passEnds_congr {d f : Die} {e : Nat} (he : e < 8) (hregs : ∀ g : Fld, ∀ i, reportWord (g.key i / 32) = false → f.get g i = d.get g i)
    (hm : (f.sheep e).muster = (d.sheep e).muster) (hsame : f.grants = d.grants ∧ f.pas = d.pas ∧ f.stopped = d.stopped) (tested : List Nat) :
    f.passEnds e tested = d.passEnds e tested := by
  unfold Die.passEnds
  rw [Bool.eq_iff_iff, List.all_eq_true, List.all_eq_true]
  refine forall₂_congr (fun t ht => ?_)
  have hlt : (e * 512 + t) / 512 = e := by
    obtain ⟨r, hr, hmem⟩ := List.mem_flatMap.1 ht
    obtain ⟨c, hc, rfl⟩ := List.mem_map.1 hmem
    have := List.mem_range.1 hr
    have := List.mem_range.1 hc
    omega
  rw [Die.sheepMay_congr (e * 512 + t) hregs (by rw [hlt]; exact hm) (by rw [hlt]; exact he) hsame]

theorem Die.placed_onShd {e : Nat} (he : e < 8) (g : Shd → Shd) (hg : ∀ y, (g y).muster = y.muster) (d : Die) : d.placed e (d.onShd e g) := by
  refine ⟨rfl, ⟨rfl, rfl, rfl⟩, fun _ _ => rfl, fun _ _ => rfl, fun tested => Die.passEnds_congr (d := d) (f := d.onShd e g) he (fun _ _ _ => rfl) ?_ ⟨rfl, rfl, rfl⟩ tested⟩
  rw [Die.sheep_onShd_same]
  exact hg _

theorem Die.placed_count {e : Nat} (he : e < 8) (d : Die) : d.placed e (d.count T.SHD_PASSES e) := by
  have hrep := d.report_count T.SHD_PASSES e
  have hshd : (d.count T.SHD_PASSES e).shd = d.shd := by rw [hrep.1]
  refine ⟨by rw [hrep.1], ⟨by rw [hrep.1], by rw [hrep.1], by rw [hrep.1]⟩, fun g hg => hrep.get g e (sheepStatus_quiet g he hg), fun t ht => ?_,
    fun tested => Die.passEnds_congr he hrep.get (by rw [Die.sheep, hshd, Die.sheep]) ⟨by rw [hrep.1], by rw [hrep.1], by rw [hrep.1]⟩ tested⟩
  exact Die.tally_sheep_apart T.SHD_PASSES t he ⟨ht.1, ht.2.1⟩ (by simp only [T.SHD_PASSES]; omega) d

theorem Die.placed.trans {e : Nat} {a b c : Die} (h : a.placed e b) (k : b.placed e c) : a.placed e c :=
  ⟨k.tiles.trans h.tiles, h.ground.trans k.ground, fun g hg => (k.status g hg).trans (h.status g hg), fun t ht => (k.tals t ht).trans (h.tals t ht),
    fun tested => (k.ends tested).trans (h.ends tested)⟩

/-- The sequencer's place after a pattern (R526). -/
theorem Die.sheepNext_places {e : Nat} (he : e < 8) (k : Pack) (tile pos : Nat) (d f : Die) (hf : d.sheepNext e k tile pos = f) : d.placed e f
    ∧ ((patrolOf k).length ≤ pos + 1 → d.passEnds e ((d.sheep e).tested ++ [tile]) = true → (f.sheep e).tile = 0 ∧ (f.sheep e).pos = 0 ∧ (f.sheep e).tested = []
        ∧ f.tally T.SHD_PASSES e = tallyAdd (d.tally T.SHD_PASSES e) 1)
    ∧ ((patrolOf k).length ≤ pos + 1 → d.passEnds e ((d.sheep e).tested ++ [tile]) = false → (f.sheep e).tile = tile ∧ (f.sheep e).pos = 0
        ∧ (f.sheep e).tested = (d.sheep e).tested ++ [tile] ∧ f.tally T.SHD_PASSES e = d.tally T.SHD_PASSES e)
    ∧ (¬ (patrolOf k).length ≤ pos + 1 → (f.sheep e).tile = tile ∧ (f.sheep e).pos = pos + 1 ∧ (f.sheep e).tested = (d.sheep e).tested
        ∧ f.tally T.SHD_PASSES e = d.tally T.SHD_PASSES e) := by
  unfold Die.sheepNext at hf
  dsimp only at hf
  obtain ⟨tested, htested⟩ : ∃ l, (d.sheep e).tested ++ [tile] = l := ⟨_, rfl⟩
  rw [htested] at hf ⊢
  by_cases hlast : pos + 1 < (patrolOf k).length
  · rw [if_pos hlast] at hf
    have hsame := d.sheep_onShd_same e (fun y => { y with tile := tile, pos := pos + 1 })
    rw [← hf]
    exact ⟨d.placed_onShd he _ (by intro _; rfl), fun h => absurd hlast (by omega), fun h => absurd hlast (by omega), fun _ => by rw [hsame]; exact ⟨rfl, rfl, rfl, rfl⟩⟩
  · rw [if_neg hlast] at hf
    cases hends : d.passEnds e tested with
    | true =>
      rw [hends, if_pos rfl] at hf
      have hplaced := d.placed_count he
      have hcount := Die.tally_count_same T.SHD_PASSES e d (sheepTal_page _ he (by decide))
      obtain ⟨a, ha⟩ : ∃ a, d.count T.SHD_PASSES e = a := ⟨_, rfl⟩
      rw [ha] at hf hplaced hcount
      have hsame := a.sheep_onShd_same e (fun y => { y with tile := 0, pos := 0, tested := [] })
      rw [← hf]
      exact ⟨hplaced.trans (a.placed_onShd he _ (by intro _; rfl)), fun _ _ => by rw [hsame]; exact ⟨rfl, rfl, rfl, hcount⟩, fun _ h => (by cases h), fun h => absurd h (by omega)⟩
    | false =>
      rw [hends, if_neg Bool.false_ne_true] at hf
      have hsame := d.sheep_onShd_same e (fun y => { y with tile := tile, pos := 0, tested := tested })
      rw [← hf]
      exact ⟨d.placed_onShd he _ (by intro _; rfl), fun _ h => (by cases h), fun _ _ => by rw [hsame]; exact ⟨rfl, rfl, rfl, rfl⟩, fun h => absurd h (by omega)⟩

/-- What a pattern's digests make of it (R527). -/
def Die.patternOutcome (fu : Fused) (tile : Nat) (k : Pack) (x : Pattern) (obs1 obs2 : BitVec 64) (d : Die) : Die :=
  if obs1 = x.expected then d else if obs2 = x.expected then d.transient fu tile k x obs1 else d.confirmed fu tile k x obs2

theorem Die.patternOutcome_notes (fu : Fused) {tile e : Nat} (ht : tile / 512 = e) (he : e < 8) (k : Pack) (x : Pattern) (obs1 obs2 : BitVec 64) (d f : Die)
    (hf : d.patternOutcome fu tile k x obs1 obs2 = f) : d.patrolled e f
    ∧ (obs1 = x.expected → f.tally T.SHD_SHD_TRANSIENT e = d.tally T.SHD_SHD_TRANSIENT e ∧ f.tally T.SHD_SHD_FAIL e = d.tally T.SHD_SHD_FAIL e)
    ∧ (obs1 ≠ x.expected → obs2 = x.expected → f.tally T.SHD_SHD_TRANSIENT e = tallyAdd (d.tally T.SHD_SHD_TRANSIENT e) 1
        ∧ f.tally T.SHD_SHD_FAIL e = d.tally T.SHD_SHD_FAIL e)
    ∧ (obs1 ≠ x.expected → obs2 ≠ x.expected → f.tally T.SHD_SHD_FAIL e = tallyAdd (d.tally T.SHD_SHD_FAIL e) 1
        ∧ f.on R.SHD_STATUS_FAILED e = true ∧ f.on R.SHD_STATUS_OBSERVED e = true) := by
  unfold Die.patternOutcome at hf
  by_cases h1 : obs1 = x.expected
  · rw [if_pos h1] at hf
    rw [← hf]
    exact ⟨⟨rfl, ⟨rfl, rfl, rfl⟩, rfl, rfl⟩, fun _ => ⟨rfl, rfl⟩, fun h => absurd h1 h, fun h => absurd h1 h⟩
  · rw [if_neg h1] at hf
    by_cases h2 : obs2 = x.expected
    · rw [if_pos h2] at hf
      obtain ⟨hp, htrans, hfail⟩ := d.transient_notes fu ht he k x obs1
      rw [hf] at hp htrans hfail
      exact ⟨hp, fun h => absurd h h1, fun _ _ => ⟨htrans, hfail⟩, fun _ h => absurd h2 h⟩
    · rw [if_neg h2] at hf
      obtain ⟨hp, hfail, hfailed, hobs⟩ := d.confirmed_notes fu ht he k x obs2
      rw [hf] at hp hfail hfailed hobs
      exact ⟨hp, fun h => absurd h h1, fun _ h => absurd h h2, fun _ _ => ⟨hfail, hfailed, hobs⟩⟩

/-- SHD_PATTERN on a tile that the Sheepdog turns to, with no word in error. -/
theorem Die.shdPattern_runs (fu : Fused) (tile : Nat) (err1 err2 : BitVec 64) (d : Die) {k : Pack} {i : Nat} {x : Pattern} {pos : Nat} (hk : (d.sheep (tile / 512)).pack = some k)
    (hpos : (if (d.sheep (tile / 512)).tile = tile % 512 then (d.sheep (tile / 512)).pos else 0) = pos) (hx : (patrolOf k)[pos]? = some (i, x)) :
    (d.sheepMay tile = false ∨ d.sheepTurn (tile / 512) (tile % 512) = false → d.shdPattern fu tile err1 err2 = d)
    ∧ (d.sheepMay tile = true → d.sheepTurn (tile / 512) (tile % 512) = true → d.ecc = [] → d.poison = [] → ∀ run, patternRun fu tile x (d.beat tile) = run →
      d.shdPattern fu tile err1 err2 = ((d.putPattern tile x (run.2.beat tile)).patternOutcome fu tile k x (BitVec.ofNat 64 run.1 ^^^ err1) (BitVec.ofNat 64 run.1 ^^^ err2)).sheepNext
        (tile / 512) k (tile % 512) pos) := by
  have hopen : d.shdPattern fu tile err1 err2 =
      if !(d.sheepMay tile) || !(d.sheepTurn (tile / 512) (tile % 512)) then d
      else
        let rd := d.eccRead fu 14 (tile / 512 * 4096 + i) none none
        let d := rd.2
        if rd.1 then (d.count T.SHD_SHD_SKIP (tile / 512)).sheepNext (tile / 512) k (tile % 512) pos
        else
          let own := d.eccReadAll fu 1 (some tile) (d.quarterOwner (tile / 512) (tile % 512 / 128)) ((patternReads x).map (tsLoc tile))
          let d := own.2
          if own.1 then (d.count T.SHD_SHD_SKIP (tile / 512)).sheepNext (tile / 512) k (tile % 512) pos
          else
          let run := patternRun fu tile x (d.beat tile)
          ((d.putPattern tile x (run.2.beat tile)).patternOutcome fu tile k x (BitVec.ofNat 64 run.1 ^^^ err1) (BitVec.ofNat 64 run.1 ^^^ err2)).sheepNext (tile / 512) k (tile % 512) pos := by
    unfold Die.shdPattern
    dsimp only
    rw [hk]
    dsimp only
    rw [hpos, hx] <;> rfl
  refine ⟨fun h => ?_, fun hmay hturn hecc hpoison run hrun => ?_⟩
  · rw [hopen, if_pos (by rcases h with h | h <;> simp [h])]
  · rw [hopen, hmay, hturn, if_neg (by decide)]
    dsimp only
    rw [Die.eccRead_clean _ _ _ _ _ _ hecc hpoison, if_neg Bool.false_ne_true, Die.eccReadAll_clean _ _ _ _ _ _ hecc hpoison, if_neg Bool.false_ne_true, hrun]

/-- SHD_PATTERN (R526 to R530). -/
theorem State.shdPattern_runs (s : State) (tile : Nat) (err1 err2 : BitVec 64) (k : Pack) (i : Nat) (x : Pattern) (htile : tile < 4096) (hcol : tile % 32 < 24)
    (hk : (s.die.sheep (tile / 512)).pack = some k) (pos : Nat)
    (hpos : (if (s.die.sheep (tile / 512)).tile = tile % 512 then (s.die.sheep (tile / 512)).pos else 0) = pos) (hx : (patrolOf k)[pos]? = some (i, x)) :
    (s.die.sheepMay tile = false ∨ s.die.sheepTurn (tile / 512) (tile % 512) = false → s.completes (.shdPattern tile err1 err2) (fun t => t = { s with die := t.die }
      ∧ t.die.grants = s.die.grants ∧ t.die.rows = s.die.rows ∧ t.die.dir = s.die.dir ∧ t.die = s.die))
    ∧ (s.die.sheepMay tile = true → s.die.sheepTurn (tile / 512) (tile % 512) = true → s.die.ecc = [] → s.die.poison = [] →
      ∀ (run : Nat × Die), patternRun s.fused tile x (s.die.beat tile) = run → ∀ obs1 obs2 tested, BitVec.ofNat 64 run.1 ^^^ err1 = obs1 → BitVec.ofNat 64 run.1 ^^^ err2 = obs2 →
      (s.die.sheep (tile / 512)).tested ++ [tile % 512] = tested → s.completes (.shdPattern tile err1 err2) (fun t => t = { s with die := t.die }
        ∧ t.die.grants = s.die.grants ∧ t.die.rows = s.die.rows ∧ t.die.dir = s.die.dir
        ∧ (∀ j, j < 8 → t.die.beat tile (1016 + j) = run.2.beat tile (1016 + j))
        ∧ (∀ a, a < 1016 → t.die.beat tile a = s.die.beat tile a) ∧ (∀ u, u ≠ tile → t.die.tile u = s.die.tile u)
        ∧ (obs1 = x.expected → t.die.tally T.SHD_SHD_TRANSIENT (tile / 512) = s.die.tally T.SHD_SHD_TRANSIENT (tile / 512)
            ∧ t.die.tally T.SHD_SHD_FAIL (tile / 512) = s.die.tally T.SHD_SHD_FAIL (tile / 512))
        ∧ (obs1 ≠ x.expected → obs2 = x.expected → t.die.tally T.SHD_SHD_TRANSIENT (tile / 512) = tallyAdd (s.die.tally T.SHD_SHD_TRANSIENT (tile / 512)) 1
            ∧ t.die.tally T.SHD_SHD_FAIL (tile / 512) = s.die.tally T.SHD_SHD_FAIL (tile / 512))
        ∧ (obs1 ≠ x.expected → obs2 ≠ x.expected → t.die.tally T.SHD_SHD_FAIL (tile / 512) = tallyAdd (s.die.tally T.SHD_SHD_FAIL (tile / 512)) 1
            ∧ t.die.on R.SHD_STATUS_FAILED (tile / 512) = true ∧ t.die.on R.SHD_STATUS_OBSERVED (tile / 512) = true)
        ∧ ((patrolOf k).length ≤ pos + 1 → t.die.passEnds (tile / 512) tested = true → (t.die.sheep (tile / 512)).tile = 0 ∧ (t.die.sheep (tile / 512)).pos = 0
            ∧ (t.die.sheep (tile / 512)).tested = [] ∧ t.die.tally T.SHD_PASSES (tile / 512) = tallyAdd (s.die.tally T.SHD_PASSES (tile / 512)) 1)
        ∧ ((patrolOf k).length ≤ pos + 1 → t.die.passEnds (tile / 512) tested = false → (t.die.sheep (tile / 512)).tile = tile % 512 ∧ (t.die.sheep (tile / 512)).pos = 0
            ∧ (t.die.sheep (tile / 512)).tested = tested ∧ t.die.tally T.SHD_PASSES (tile / 512) = s.die.tally T.SHD_PASSES (tile / 512))
        ∧ (¬ (patrolOf k).length ≤ pos + 1 → (t.die.sheep (tile / 512)).tile = tile % 512 ∧ (t.die.sheep (tile / 512)).pos = pos + 1
            ∧ (t.die.sheep (tile / 512)).tested = (s.die.sheep (tile / 512)).tested ∧ t.die.tally T.SHD_PASSES (tile / 512) = s.die.tally T.SHD_PASSES (tile / 512)))) := by
  have hexec : exec (.shdPattern tile err1 err2) s = .next { s with die := s.die.shdPattern s.fused tile err1 err2 } := by
    change execShdPattern tile err1 err2 s = _
    unfold execShdPattern dieCmd
    rw [decide_eq_true htile, decide_eq_true hcol, if_pos (by rfl)]
  obtain ⟨hstays, hruns⟩ := s.die.shdPattern_runs s.fused tile err1 err2 hk hpos hx
  refine ⟨fun h => ?_, fun hmay hturn hecc hpoison run hrun obs1 obs2 tested h1 h2 htested => ?_⟩
  · rw [hstays h] at hexec
    exact ⟨_, hexec, rfl, rfl, rfl, rfl, rfl⟩
  · rw [hruns hmay hturn hecc hpoison run hrun, h1, h2] at hexec
    have he : tile / 512 < 8 := by omega
    obtain ⟨e, hte⟩ : ∃ e, tile / 512 = e := ⟨_, rfl⟩
    rw [hte] at hexec he htested ⊢
    have hput := s.die.putPattern_puts tile x (run.2.beat tile) (fun b => BitVec.isLt _)
    obtain ⟨p, hp⟩ : ∃ p, s.die.putPattern tile x (run.2.beat tile) = p := ⟨_, rfl⟩
    obtain ⟨g, hg⟩ : ∃ g, p.patternOutcome s.fused tile k x obs1 obs2 = g := ⟨_, rfl⟩
    obtain ⟨f, hf⟩ : ∃ f, g.sheepNext e k (tile % 512) pos = f := ⟨_, rfl⟩
    rw [hp] at hput
    rw [hp, hg, hf] at hexec
    obtain ⟨hpat, hpass, htrans, hfail⟩ := p.patternOutcome_notes s.fused hte he k x obs1 obs2 g hg
    obtain ⟨hplaced, hends, hgoes, hnext⟩ := g.sheepNext_places he k (tile % 512) pos f hf
    have hpsheep : p.sheep e = s.die.sheep e := by rw [hput.frame]; rfl
    have hptal (t : Tal) : p.tally t e = s.die.tally t e := by rw [hput.frame]; rfl
    have hpground : s.die.ground p := by rw [hput.frame]; exact ⟨rfl, rfl, rfl⟩
    have hgtested : (g.sheep e).tested = (s.die.sheep e).tested := hpat.tested.trans (by rw [hpsheep])
    have hgpasses : g.tally T.SHD_PASSES e = s.die.tally T.SHD_PASSES e := hpat.passes.trans (hptal _)
    have htile (u : Nat) : f.tile u = p.tile u := Die.tile_congr f p (hplaced.tiles.trans hpat.tiles) u
    have hbeat (a : Nat) : f.beat tile a = p.beat tile a := by rw [Die.beat, htile, Die.beat]
    have hT : f.tally T.SHD_SHD_TRANSIENT e = g.tally T.SHD_SHD_TRANSIENT e := hplaced.tals _ (by decide)
    have hF : f.tally T.SHD_SHD_FAIL e = g.tally T.SHD_SHD_FAIL e := hplaced.tals _ (by decide)
    have hon (fl : Fld) (h : fl.base = 0x180000 ∧ fl.off = 0x800 ∧ fl.lo < 32) : f.on fl e = g.on fl e := congrArg (· == 1) (hplaced.status fl h)
    obtain ⟨hgr, hrows, hdir⟩ := (hpground.trans hpat.ground).trans hplaced.ground
    rw [hptal, hptal] at hpass htrans
    rw [hptal] at hfail
    rw [hgtested, htested, hgpasses] at hends hgoes
    rw [hgtested, hgpasses] at hnext
    rw [← hplaced.ends] at hends hgoes
    refine ⟨_, hexec, rfl, hgr, hrows, hdir, fun j hj => (hbeat _).trans (hput.room j hj), fun a ha => (hbeat a).trans (hput.rest a (.inl ha)),
      fun u hu => (htile u).trans (hput.others u hu), fun h => ?_, fun ha hb => ?_, fun ha hb => ?_, hends, hgoes, hnext⟩
    · exact ⟨hT.trans (hpass h).1, hF.trans (hpass h).2⟩
    · exact ⟨hT.trans (htrans ha hb).1, hF.trans (htrans ha hb).2⟩
    · obtain ⟨htal, hfailed, hobs⟩ := hfail ha hb
      exact ⟨hF.trans htal, (hon R.SHD_STATUS_FAILED (by decide)).trans hfailed, (hon R.SHD_STATUS_OBSERVED (by decide)).trans hobs⟩

/-- Settles O46: what notes, reports and loads leave of the Sheepdog's tallies and status, and each command by the pieces that it is made of. -/
theorem sheepdogRuns : Obligations.SheepdogRuns := by
  unfold Obligations.SheepdogRuns
  intro s
  dsimp only
  refine ⟨fun tile err1 err2 k i x htile hcol hk hx => ?_, fun src e w he => ⟨fun hadm h0 h1 fail => ?_, (s.stage_moves src e w he).1, (s.stage_moves src e w he).2,
    fun hadm => (s.shdControl_acts src e w he hadm).1, fun hadm => (s.shdControl_acts src e w he hadm).2.1, fun hadm => (s.shdControl_acts src e w he hadm).2.2⟩,
    fun e fail lost he hm hflight => ?_⟩
  · obtain ⟨hstays, hruns⟩ := s.shdPattern_runs tile err1 err2 k i x htile hcol hk _ rfl hx
    exact ⟨hstays, fun hmay hturn hecc hpoison => hruns hmay hturn hecc hpoison _ rfl _ _ _ rfl rfl rfl⟩
  · exact s.packLoad_loads src e w he hadm h0 h1 fail _ rfl _ rfl
  · obtain ⟨t, hexec, hframe, hgr, hrows, hdir, hmus, htal, hlost, htwo, hthree⟩ := s.musterDone_ends e fail lost he hm hflight
    exact ⟨t, hexec, hframe, hgr, hrows, hdir, hmus, htal,
      fun q p im ei hq hl hload hst howner him hei => hlost q hq hl (Die.musterHeld_some hload hst howner him hei), htwo, hthree⟩

end Sys2Proof.Machine
end
